-- ==== Sys2Proof/Word.lean ====
section
/-! DEFINITION. Word.lean: the widths of the block's data. A register is 32 bits (R75), a store is an array of bytes. -/

namespace Sys2Proof

/-- A 32-bit register (R75). -/
abbrev Word := BitVec 32

/-- One byte of a store. -/
abbrev Byte := BitVec 8

/-- A 64-bit quantity: NSTIME, a store word with its ECC (R15), an H-format constant. -/
abbrev DWord := BitVec 64

end Sys2Proof
end

