-- ==== Sys2Proof/Machine/Sparse.lean ====
section
/-! DEFINITION. Machine/Sparse.lean: a sparse map over the natural numbers, as plain data. Every store of the block and its
register file are one: a list of (address, value) pairs with strictly rising addresses and no entry equal to what an
unlisted address reads as, so that equal contents are equal lists. -/

namespace Sys2Proof.Machine

variable {α : Type} [DecidableEq α]

/-- The value at `a`; an unlisted address reads as `d a`. -/
def sparseGet (d : Nat → α) : List (Nat × α) → Nat → α
  | [], a => d a
  | (k, v) :: t, a => if a = k then v else sparseGet d t a

/-- `m` with the entry of `a` set to `v`, in rising order. -/
def sparseInsert (a : Nat) (v : α) : List (Nat × α) → List (Nat × α)
  | [] => [(a, v)]
  | (k, w) :: t =>
    if a < k then (a, v) :: (k, w) :: t
    else if a = k then (a, v) :: t
    else (k, w) :: sparseInsert a v t

/-- `m` without any entry of `a`. -/
def sparseErase (a : Nat) : List (Nat × α) → List (Nat × α)
  | [] => []
  | (k, w) :: t => if a = k then sparseErase a t else (k, w) :: sparseErase a t

/-- A write keeps the canonical form: writing what an unlisted address reads as removes the entry. -/
def sparseSet (d : Nat → α) (m : List (Nat × α)) (a : Nat) (v : α) : List (Nat × α) :=
  if v = d a then sparseErase a m else sparseInsert a v m

/-- Every listed address is above `lo`, addresses rise strictly, and no entry equals the unlisted value. -/
def sparseAbove (d : Nat → α) : Nat → List (Nat × α) → Bool
  | _, [] => true
  | lo, (k, v) :: t => decide (lo < k) && decide (v ≠ d k) && sparseAbove d k t

/-- The canonical form. -/
def sparseWf (d : Nat → α) : List (Nat × α) → Bool
  | [] => true
  | (k, v) :: t => decide (v ≠ d k) && sparseAbove d k t

end Sys2Proof.Machine
end

