-- ==== Sys2Proof/Machine/Access.lean ====
section
/-! DEFINITION. Machine/Access.lean: how a register card is described (R75-R77), who may ask for an access (R79) and how a
request is shaped (R80). -/

namespace Sys2Proof.Machine

/-- Base access types, Table 4.2. -/
inductive Acc where
  | rw | ro | wo | w1c | w1s | rc | pop
  deriving DecidableEq, Repr

/-- Which half of a 64-bit pair a register is (attribute PAIR of Table 4.3). -/
inductive Half where
  | none | lo | hi
  deriving DecidableEq, Repr

/-- A register, or a one- or two-dimensional array of registers: the offset of the first one in BAR0, and for each
dimension the number of instances and the distance between them. -/
structure Rg where
  base : Nat
  n1 : Nat
  s1 : Nat
  n2 : Nat
  s2 : Nat
  deriving DecidableEq, Repr

/-- A field: its register, its lowest bit and its width. -/
structure Fld where
  rg : Rg
  lo : Nat
  w : Nat
  deriving DecidableEq, Repr

/-- One row of a card: lowest bit, width, access type, and whether it carries STG. -/
structure CField where
  lo : Nat
  w : Nat
  acc : Acc
  stg : Bool
  deriving DecidableEq, Repr

/-- A register card: the register, its reset value, the attributes BW and PAIR, and its fields. -/
structure Card where
  rg : Rg
  reset : Nat
  bw : Bool
  half : Half
  fields : List CField
  deriving DecidableEq, Repr

/-- The offset of instance (i, j). -/
def Rg.at (r : Rg) (i : Nat := 0) (j : Nat := 0) : Nat := r.base + r.s1 * i + r.s2 * j

/-- The instance of `r` that lies at offset `a`, if one does. -/
def Rg.index (r : Rg) (a : Nat) : Option (Nat × Nat) :=
  if a < r.base then none
  else
    let d := a - r.base
    let i := if r.n1 ≤ 1 then 0 else d / r.s1
    let e := d - r.s1 * i
    let j := if r.n2 ≤ 1 then 0 else e / r.s2
    if i < r.n1 ∧ j < r.n2 ∧ e = r.s2 * j then some (i, j) else none

/-- Who issues a request (R79, R84): the host, the Hub Controller or the debug port. -/
inductive Requester where
  | host | hub | debug
  deriving DecidableEq, Repr

/-- The error causes of HIF_ACCERR.CAUSE. -/
inductive AccCause where
  | narrow | unaligned | unmapped | roWrite | width | locked | unreachable
  deriving DecidableEq, Repr

/-- The code of a cause in HIF_ACCERR.CAUSE. -/
def AccCause.code : AccCause → Nat
  | .narrow => 1
  | .unaligned => 2
  | .unmapped => 3
  | .roWrite => 4
  | .width => 5
  | .locked => 6
  | .unreachable => 7

/-- Mask of `w` ones from bit `lo`. -/
def ones (lo w : Nat) : Nat := (2 ^ w - 1) * 2 ^ lo

/-- The bits of a card whose access type is `t`. -/
def Card.mask (c : Card) (t : Acc) : Word :=
  BitVec.ofNat 32 ((c.fields.filter (fun f => f.acc = t)).foldl (fun m f => m + ones f.lo f.w) 0)

/-- The staged bits of a card. -/
def Card.stg (c : Card) : Word :=
  BitVec.ofNat 32 ((c.fields.filter (fun f => f.stg)).foldl (fun m f => m + ones f.lo f.w) 0)

/-- A register holds a field of type `t`. -/
def Card.has (c : Card) (t : Acc) : Bool := c.fields.any (fun f => f.acc = t)

/-- A register none of whose fields a write can change (R85: all RO, or a POP or RC register). -/
def Card.readOnly (c : Card) : Bool :=
  c.has .pop || c.has .rc || c.fields.all (fun f => f.acc = .ro)

/-- The value of the bits `lo … lo+w-1` of a word. -/
def bits (x : Word) (lo w : Nat) : Nat := x.toNat / 2 ^ lo % 2 ^ w

/-- `x` with the bits `lo … lo+w-1` replaced by the low `w` bits of `v`. -/
def setBits (x : Word) (lo w v : Nat) : Word :=
  BitVec.ofNat 32 (x.toNat / 2 ^ (lo + w) * 2 ^ (lo + w) + v % 2 ^ w * 2 ^ lo + x.toNat % 2 ^ lo)

/-- The value of the bits `lo … lo+w-1` of a natural number. -/
def nbits (x lo w : Nat) : Nat := x / 2 ^ lo % 2 ^ w

end Sys2Proof.Machine
end

