-- ==== Sys2Proof/Machine/Types.lean ====
section
/-! DEFINITION. Machine/Types.lean: the kinds of thing that commands and block state speak of. -/

namespace Sys2Proof.Machine

/-- A block with staged fields and a COMMIT of its own (Table 4.5); the argument is the unit. -/
inductive Block where
  | rnd | wfm | mol (p : Nat) | mesh | pwr | cam (p : Nat) | camTx | lp (p : Nat) | rpCtx (q c : Nat)
  | core (n : Nat) | slot (k s : Nat) | fbr (w : Nat) | chk (u : Nat) | jrn | bo
  deriving DecidableEq, Repr

/-- A request's target space (Tables 4.1 and 4.4). -/
inductive Space where
  | bar0 | bar2
  deriving DecidableEq, Repr

/-- A posting in the status ring (Table 15.5): TYPE, CODE, SRC, the stitch count word of its header, and its body bytes
(112 in the first entry, 128 in each further one). -/
structure Post where
  type : Nat
  code : Nat
  src : Nat
  rnd : Nat
  body : List Nat
  nent : Nat
  deriving DecidableEq, Repr

/-- A journal record before it has a SEQ (Table 18.1). `flags` is SEVF[6:3], `data` the 8 bytes of DATA. -/
structure JRec where
  rnd : Nat
  ns : Nat
  ph : Nat
  code : Nat
  src : Nat
  sev : Nat
  flags : Nat
  part : Bool
  data : Nat
  deriving DecidableEq, Repr

/-- A command packet of a host ring after its header was checked (R345): words w2, w3, … in `par`. -/
structure Item where
  opc : Nat
  len : Nat
  silent : Bool
  link : Bool
  barrier : Bool
  tag : Nat
  seq : Nat
  par : List Nat
  deriving DecidableEq, Repr

/-- What a running ring command waits for; `running`: it is being carried out. -/
inductive Wait where
  | running
  | regpoll (off mask value till : Nat) | ringFlush (mask : Nat) | nsset (old : Nat) | admission | activate | deactivate (idle : Bool)
  | coreJob (n : Nat) | chflush (n mask : Nat) | pgcommit (k s : Nat) | slotReset (k s : Nat) | solve (k s : Nat)
  | head (p : Nat) | rpKick (q mask refused : Nat) | jrnFlush | jrnClear | step (n : Nat)
  deriving DecidableEq, Repr

/-! ### The Pattern (Tables 3.1, 3.2, 3.4) -/

/-- A job entry. -/
structure Job where
  kind : Nat
  flags : Nat
  prio : Nat
  spare : Nat
  start : Nat
  deadline : Nat
  wcet : Nat
  target : Nat
  entry : Nat
  lpddr : Nat
  group : Nat
  arg : Nat
  deriving DecidableEq, Repr

/-- A stream entry. -/
structure Stream where
  producer : Nat
  consumer : Nat
  src : Nat
  dst : Nat
  bytes : Nat
  send : Nat
  due : Nat
  dep : Bool
  deriving DecidableEq, Repr

/-- A Pattern: rounds, declared continuous LPDDR load in MB/s, the 32 floors in 10 MHz, jobs, streams. -/
structure Image where
  rounds : Nat
  cont : Nat
  floors : List Nat
  jobs : List Job
  streams : List Stream
  deriving DecidableEq, Repr

/-- What an admission reports (PAT_ADM_RESULT, PAT_ADM_WIN, PAT_ADM_RES, PAT_ADM_EXCESS). -/
structure AdmReport where
  code : Nat
  step : Nat := 0
  carry : Bool := false
  job : Nat := 0
  a : Nat := 0
  b : Nat := 0
  res : Nat := 0
  stream : Nat := 0
  excess : Nat := 0
  deriving DecidableEq, Repr

/-! ### Cast-on -/

/-- What a cast-on phase finds: whether its work succeeded (fuses, PLL lock, LPDDR training), BOOT[1:0] as the next phase samples it, the Purl links
that fail training, the cores and engines that fail swatch, each with the number of the test that it failed, whether the hub store fails, and
the µs since power-on or reset. -/
structure CastInfo where
  ok : Bool
  boot : Nat
  links : List Nat
  cores : List (Nat × Nat)
  ses : List (Nat × Nat)
  hubStore : Bool
  us : Nat
  deriving DecidableEq, Repr

/-! ### Losses in a pipeline -/

/-- What a frame of a pipeline meets on its way (R176, R191 to R193): deliveries cut for credit (descriptor, rows delivered), reference lines
that come too late, whether a reference write loses credit, the first row whose radiometric line is late, and list entries that
read with an uncorrectable ECC error. -/
structure FrameLoss where
  cuts : List (Nat × Nat)
  refMiss : List Nat
  refDrop : Bool
  radMiss : Option Nat
  defEcc : List Nat
  deriving DecidableEq, Repr

/-! ### Operands of single commands -/

/-- One side of an upward zero crossing (R31): the magnitude of the sample next to it, and how far the samples reach on
that side, in counts. -/
structure Side where
  near : Nat
  far : Nat
  deriving DecidableEq, Repr

/-- A unit that starts its next work, and whether the parameter block it then reads has an uncorrectable ECC error (R187). -/
structure UnitStart where
  unit : Nat
  ecc : Bool
  deriving DecidableEq, Repr

/-- An FS packet: its virtual channel, its header (0 intact, 1 corrected, 2 not correctable, R163), and whether the parameter block taken at
its frame start has an uncorrectable ECC error (R187). -/
structure FsPacket where
  vc : Nat
  hdr : Nat
  ecc : Bool
  deriving DecidableEq, Repr

/-- An FE packet: its virtual channel and its header as in `FsPacket`. -/
structure FePacket where
  vc : Nat
  hdr : Nat
  deriving DecidableEq, Repr

/-- OP of DBGACC (Table 21.2), and whether the word it reads through BAR2 has an uncorrectable ECC error (R92). -/
structure TapOp where
  code : Nat
  ecc : Bool
  deriving DecidableEq, Repr

/-- The unit that a block names exists. -/
def Block.ok : Block → Bool
  | .mol p | .cam p | .lp p => decide (p < 6)
  | .rpCtx q c => decide (q < 2 ∧ c < 16)
  | .core n => decide (n < 32)
  | .slot k i => decide (k < 2 ∧ i < 32)
  | .fbr w => decide (w < 16)
  | .chk u => decide (u < 8)
  | _ => true

end Sys2Proof.Machine
end

