-- ==== Sys2Proof/Syntax.lean ====
section
/-! DEFINITION. Syntax.lean: the commands of the block, one constructor for each row of spec/opcode_table.json, in its order.
The operands are what the row's sender says beyond what the block already holds. -/

namespace Sys2Proof
open Sys2Proof.Machine

/-- A command: an access, an event of a pin, a link or a unit, an instruction of a core, an operation of Lace, or a
command of a host ring. The docstring of each constructor is its row's rule. -/
inductive Instr where
  /-- POWER_ON_RESET (R429). -/
  | powerOnReset
  /-- PIN_RESET (R429). -/
  | pinReset
  /-- HOST_RESET (R429). -/
  | hostReset
  /-- HCRESTART (R430). -/
  | hcrestart
  /-- HC_WATCHDOG_EXPIRY (R430). -/
  | hcWatchdogExpiry
  /-- DEBUG_RESET (R479). -/
  | debugReset
  /-- CASTON_PHASE_DONE (R431). -/
  | castonPhaseDone (i : CastInfo)
  /-- CASTON_PHASE_TIMEOUT (R431). -/
  | castonPhaseTimeout
  /-- BOOT_GO (R433). -/
  | bootGo
  /-- BIND_OFF_AREA_ERASED (R443). -/
  | bindOffAreaErased
  /-- PWRFAIL (R439). -/
  | pwrfail
  /-- HUB_RAIL_TRIP (R483). -/
  | hubRailTrip
  /-- BINDOFF_TEST (R439). -/
  | bindoffTest
  /-- BINDOFF_HALT (R439). -/
  | bindoffHalt
  /-- BINDOFF_JOURNAL_DONE (R439). -/
  | bindoffJournalDone
  /-- WARM_SAVE_DONE (R441). -/
  | warmSaveDone
  /-- BINDOFF_PARK_DONE (R439). -/
  | bindoffParkDone
  /-- BROWNOUT (R440). -/
  | brownout
  /-- REFCLK_LOST (R490). -/
  | refclkLost
  /-- REFCLK_RETURN (R490). -/
  | refclkReturn
  /-- STITCH_BOUNDARY (R146). -/
  | stitchBoundary
  /-- ROUND_BOUNDARY (R48). -/
  | roundBoundary
  /-- VOLTAGE_CROSSING (R31). -/
  | voltageCrossing (ago : Nat) (below above : Side) (period : Nat)
  /-- ZC_EDGE (R32). -/
  | zcEdge (ago : Nat) (rising : Bool)
  /-- CROSSING_TIMEOUT (R29). -/
  | crossingTimeout (voltage : Bool)
  /-- AMPLITUDE_TIMEOUT (R29). -/
  | amplitudeTimeout
  /-- REF_REVERT (R33). -/
  | refRevert
  /-- SLEW_DONE (R42). -/
  | slewDone
  /-- HOLD_FORCE (R40). -/
  | holdForce (on : Bool)
  /-- RND_SNAP (R49). -/
  | rndSnap
  /-- PPS_EDGE (R43). -/
  | ppsEdge (rising : Bool)
  /-- PPS_TIMEOUT (R43). -/
  | ppsTimeout
  /-- NSSET_ARM (R44). -/
  | nssetArm (rq : Requester) (hi : Nat)
  /-- REGISTER_WRITE (R77). -/
  | registerWrite (rq : Requester) (off be : Nat) (v : Word)
  /-- COMMIT_WRITE (R95). -/
  | commitWrite (b : Block)
  /-- STAGED_SET_APPLY (R97). -/
  | stagedSetApply (b : Block) (ecc : Bool)
  /-- PAIR_LOW_READ (R84). -/
  | pairLowRead (rq : Requester) (off be : Nat)
  /-- PAIR_HIGH_WRITE (R84). -/
  | pairHighWrite (rq : Requester) (off : Nat) (v : Word)
  /-- RC_READ (R77). -/
  | rcRead (rq : Requester) (off be : Nat)
  /-- BAR0_OVERLONG (R80). -/
  | bar0Overlong (write : Bool) (off be : Nat) (v : Word) (n : Nat)
  /-- UNSUPPORTED_REQUEST (R88). -/
  | unsupportedRequest
  /-- BAR2_ACCESS (R90). -/
  | bar2Access (write : Bool) (off : Nat) (bytes : List (Nat × Bool)) (ecc : List Nat)
  /-- ACCERR_CLEAR (R99). -/
  | accerrClear
  /-- PAT_CTRL_ADMIT (R55). -/
  | patCtrlAdmit
  /-- ADMISSION_DONE (R62). -/
  | admissionDone
  /-- PAT_CTRL_ACTIVATE (R63). -/
  | patCtrlActivate
  /-- PATTERN_ACTIVATION (R63). -/
  | patternActivation
  /-- PAT_CTRL_DEACTIVATE (R65). -/
  | patCtrlDeactivate
  /-- PATTERN_DEACTIVATION (R65). -/
  | patternDeactivation
  /-- PAT_CTRL_CANCEL (R63). -/
  | patCtrlCancel
  /-- INSTANCE_DISPATCH (R66). -/
  | instanceDispatch (r : UnitStart)
  /-- DEADLINE_EXPIRY (R67). -/
  | deadlineExpiry
  /-- WCET_OVERRUN (R68). -/
  | wcetOverrun (r : Nat)
  /-- READMISSION_DONE (R70). -/
  | readmissionDone
  /-- READMISSION_EFFECT (R71). -/
  | readmissionEffect
  /-- LINK_LOS (R112). -/
  | linkLos (p : Nat)
  /-- SYNC_LOSS (R104). -/
  | syncLoss (p : Nat)
  /-- M1_LINK_UP (R113). -/
  | m1LinkUp (p : Nat)
  /-- CAPS_REPORT_RX (R114). -/
  | capsReportRx (p : Nat) (frame : List Nat)
  /-- CAPS_TIMEOUT (R112). -/
  | capsTimeout (p : Nat)
  /-- M2_LINK_UP (R115). -/
  | m2LinkUp (p : Nat)
  /-- M2_UPGRADE_TIMEOUT (R115). -/
  | m2UpgradeTimeout (p : Nat)
  /-- AUTH_RESP_RX (R130). -/
  | authRespRx (p : Nat) (frame : List Nat)
  /-- AUTH_TIMEOUT (R112). -/
  | authTimeout (p : Nat)
  /-- CALIB_TIMEOUT (R112). -/
  | calibTimeout (p : Nat)
  /-- ECHO_TX (R122). -/
  | echoTx (p : Nat)
  /-- ECHO_REPLY_RX (R123). -/
  | echoReplyRx (p : Nat) (frame : List Nat) (age : Nat)
  /-- ECHO_TIMEOUT (R122). -/
  | echoTimeout (p : Nat)
  /-- CADENCE_TX (R118). -/
  | cadenceTx (p : Nat)
  /-- SAMPLE_RX (R121). -/
  | sampleRx (p : Nat) (frame : List Nat) (credit : Bool)
  /-- ALIVE_RX (R129). -/
  | aliveRx (p : Nat) (frame : List Nat)
  /-- ALIVE_TIMEOUT (R133). -/
  | aliveTimeout (p : Nat)
  /-- INT_RX (R388). -/
  | intRx (p : Nat) (frame : List Nat) (age : Nat)
  /-- REGACK_RX (R378). -/
  | regackRx (p : Nat) (frame : List Nat)
  /-- MOARI_MSG_DISCARD (R107). -/
  | moariMsgDiscard (p : Nat) (frame : List Nat) (broken : Bool)
  /-- OUTBOUND_CREDIT_TIMEOUT (R127). -/
  | outboundCreditTimeout (p : Nat)
  /-- MCNT_RENEWAL (R131). -/
  | mcntRenewal (p : Nat)
  /-- MOL_RETRAIN (R112). -/
  | molRetrain (p : Nat)
  /-- MOL_QREL (R135). -/
  | molQrel (p : Nat)
  /-- WINDOW_FINALIZE (R145). -/
  | windowFinalize
  /-- EMISSION_COMMIT (R150). -/
  | emissionCommit (e : Nat)
  /-- RING_RECORD_DONE (R155). -/
  | ringRecordDone (k : Nat) (ok : Bool)
  /-- WFM_TRGQ_POP (R154). -/
  | wfmTrgqPop
  /-- RING_REARM_WRITE (R156). -/
  | ringRearmWrite (k : Nat)
  /-- RING_FORCE_WRITE (R156). -/
  | ringForceWrite (k : Nat)
  /-- FRAME_START (R164). -/
  | frameStart (p : Nat) (vc : FsPacket)
  /-- FRAME_END (R165). -/
  | frameEnd (p : Nat) (vc : FePacket)
  /-- FRAME_END_TIMEOUT (R165). -/
  | frameEndTimeout (p : Nat)
  /-- LONG_PACKET_RX (R163). -/
  | longPacketRx (p vc dt hdr : Nat) (crcOk full : Bool) (data : List Nat)
  /-- FSYNC_EDGE (R169). -/
  | fsyncEdge (p : Nat)
  /-- FSYNC_PULSE_END (R169). -/
  | fsyncPulseEnd (p : Nat)
  /-- EXPOSURE_CENTRE (R172). -/
  | exposureCentre (p : Nat)
  /-- CAM_FSW_FIRE (R171). -/
  | camFswFire (mask i : Nat)
  /-- DELIVERY_COMMIT (R175). -/
  | deliveryCommit (p k : Nat)
  /-- TX_PACKET_SEND (R177). -/
  | txPacketSend
  /-- PIPELINE_FRAME_DONE (R182). -/
  | pipelineFrameDone (p : Nat) (loss : FrameLoss)
  /-- PIPELINE_WDT (R447). -/
  | pipelineWdt (p : Nat)
  /-- ISP_RPKICK_WRITE (R202). -/
  | ispRpkickWrite (q mask : Nat)
  /-- RP_FRAME_START (R203). -/
  | rpFrameStart (q : UnitStart)
  /-- RP_FRAME_END (R204). -/
  | rpFrameEnd (q : Nat) (loss : FrameLoss)
  /-- MSG_PACKET_RX (R217). -/
  | msgPacketRx (src tag : Nat)
  /-- WRITE_PACKET_RX (R216). -/
  | writePacketRx (src tag : Nat)
  /-- READ_PACKET_RX (R214). -/
  | readPacketRx (src tag : Nat) (ecc : List Nat)
  /-- RESP_RX (R219). -/
  | respRx (n : Nat) (tag : Option Nat) (node : Nat)
  /-- MARKER_REPLY_RX (R219). -/
  | markerReplyRx (n tag : Nat)
  /-- MARKER_READ (R226). -/
  | markerRead (src tag : Nat)
  /-- MARKER_SET (R226). -/
  | markerSet (src tag : Nat)
  /-- MARKER_ADD (R226). -/
  | markerAdd (src tag : Nat)
  /-- MARKER_TAKE (R226). -/
  | markerTake (src tag : Nat)
  /-- MARKER_WAITGE (R226). -/
  | markerWaitge (src tag : Nat)
  /-- MARKER_ACQUIRE (R226). -/
  | markerAcquire (src tag : Nat)
  /-- MARKER_RELEASE (R226). -/
  | markerRelease (src tag : Nat)
  /-- MARKER_RESET (R226). -/
  | markerReset (src tag : Nat)
  /-- MARKER_WAIT_TIMEOUT (R227). -/
  | markerWaitTimeout (node tag : Nat)
  /-- LEASE_EXPIRY (R228). -/
  | leaseExpiry (k : Nat)
  /-- MRK_HOPCMD_WRITE (R230). -/
  | mrkHopcmdWrite (rq : Requester) (v : Nat)
  /-- PURL_CRC_FAIL (R24). -/
  | purlCrcFail (l : Nat)
  /-- PURL_RETRAIN_DONE (R225). -/
  | purlRetrainDone (l : Nat) (ok : Bool)
  /-- ALU (R235). -/
  | alu (n : Nat)
  /-- ALUI (R235). -/
  | alui (n : Nat)
  /-- LUI (R235). -/
  | lui (n : Nat)
  /-- ORIL (R235). -/
  | oril (n : Nat)
  /-- LDU (R236). -/
  | ldu (n : Nat)
  /-- LDS (R236). -/
  | lds (n : Nat)
  /-- ST (R241). -/
  | st (n : Nat)
  /-- BC (R236). -/
  | bc (n : Nat)
  /-- JAL (R236). -/
  | jal (n : Nat)
  /-- JALR (R236). -/
  | jalr (n : Nat)
  /-- SEND (R242). -/
  | send (n : Nat)
  /-- RECV (R243). -/
  | recv (n : Nat)
  /-- RECV_TIMEOUT (R243). -/
  | recvTimeout (n : Nat)
  /-- MREL (R243). -/
  | mrel (n : Nat)
  /-- MCTL_FLUSH (R217). -/
  | mctlFlush (n : Nat)
  /-- MCTL_STATUS (R243). -/
  | mctlStatus (n : Nat)
  /-- MOP (R219). -/
  | mop (n : Nat)
  /-- MOPB (R219). -/
  | mopb (n : Nat)
  /-- MOVD (R245). -/
  | movd (n : Nat)
  /-- MOVER_DONE (R247). -/
  | moverDone (n : Nat)
  /-- MLOAD (R262). -/
  | mload (n : Nat)
  /-- MRUN (R263). -/
  | mrun (n : Nat)
  /-- MWAIT (R270). -/
  | mwait (n : Nat)
  /-- MSTAT (R279). -/
  | mstat (n : Nat)
  /-- VRUN (R276). -/
  | vrun (n : Nat)
  /-- VWAIT (R279). -/
  | vwait (n : Nat)
  /-- OCFG (R288). -/
  | ocfg (n : Nat)
  /-- ORUN (R289). -/
  | orun (n : Nat)
  /-- OWAIT (R294). -/
  | owait (n : Nat)
  /-- DONE (R253). -/
  | done (n : Nat)
  /-- JOB_COMPLETE (R253). -/
  | jobComplete (n : Nat)
  /-- FENCE (R239). -/
  | fence (n : Nat)
  /-- WAITT (R240). -/
  | waitt (n : Nat)
  /-- WSTITCH (R238). -/
  | wstitch (n : Nat)
  /-- WSTITCH_WAKE (R238). -/
  | wstitchWake (n : Nat)
  /-- CSRR (R234). -/
  | csrr (n : Nat)
  /-- CSRW (R234). -/
  | csrw (n : Nat)
  /-- WDKICK (R250). -/
  | wdkick (n : Nat)
  /-- BREAK (R472). -/
  | brk (n : Nat)
  /-- CORE_GO (R254). -/
  | coreGo (n : Nat)
  /-- CORE_CTRL_ABORT (R255). -/
  | coreCtrlAbort (n : Nat)
  /-- CORE_CHFLUSH_WRITE (R217). -/
  | coreChflushWrite (n mask : Nat)
  /-- CORE_WATCHDOG_EXPIRY (R250). -/
  | coreWatchdogExpiry (n : Nat)
  /-- STORE_ECC_ERROR (R251). -/
  | storeEccError (kind idx : Nat)
  /-- PARITY_ERROR (R447). -/
  | parityError (kind idx : Nat)
  /-- MATRIX_OP_START (R270). -/
  | matrixOpStart (n : Nat)
  /-- MATRIX_OP_DONE (R271). -/
  | matrixOpDone (n : Nat)
  /-- CHECKSUM_FAULT (R275). -/
  | checksumFault (n : Nat) (vp : Bool) (array sub : Nat) (col : Bool) (pass diff ex : Nat)
  /-- VP_OP_START (R270). -/
  | vpOpStart (n : Nat)
  /-- VP_OP_DONE (R277). -/
  | vpOpDone (n : Nat)
  /-- OUTPUT_OP_START (R292). -/
  | outputOpStart (n : Nat)
  /-- OUTPUT_OP_DONE (R293). -/
  | outputOpDone (n : Nat)
  /-- SOLVE_START (R298). -/
  | solveStart (k : Nat)
  /-- SOLVE_END (R314). -/
  | solveEnd (k : Nat)
  /-- SOLVER_RESULT_SEND (R316). -/
  | solverResultSend (k i : Nat)
  /-- SOLVER_INPUT_MSG (R306). -/
  | solverInputMsg (src tag : Nat)
  /-- SLOT_PGCOMMIT (R303). -/
  | slotPgcommit (k i : Nat)
  /-- SLOT_KICK (R317). -/
  | slotKick (k i : Nat)
  /-- SLOT_RESET (R313). -/
  | slotReset (k i : Nat)
  /-- SOL_CTRL_ABORT (R318). -/
  | solCtrlAbort (k : Nat)
  /-- SOL_INFLUSH_WRITE (R305). -/
  | solInflushWrite (k mask : Nat)
  /-- SOL_INCFG_WRITE (R305). -/
  | solIncfgWrite (k c v : Nat)
  /-- SOLVER_WATCHDOG (R319). -/
  | solverWatchdog (k : Nat)
  /-- LACE_FMA (R327). -/
  | laceFma (k : Nat)
  /-- LACE_FMS (R327). -/
  | laceFms (k : Nat)
  /-- LACE_FNMA (R327). -/
  | laceFnma (k : Nat)
  /-- LACE_ADD (R327). -/
  | laceAdd (k : Nat)
  /-- LACE_SUB (R327). -/
  | laceSub (k : Nat)
  /-- LACE_MUL (R327). -/
  | laceMul (k : Nat)
  /-- LACE_MAX (R327). -/
  | laceMax (k : Nat)
  /-- LACE_MIN (R327). -/
  | laceMin (k : Nat)
  /-- LACE_ABS (R327). -/
  | laceAbs (k : Nat)
  /-- LACE_NEG (R327). -/
  | laceNeg (k : Nat)
  /-- LACE_MOV (R327). -/
  | laceMov (k : Nat)
  /-- LACE_SEL (R327). -/
  | laceSel (k : Nat)
  /-- LACE_CONST (R327). -/
  | laceConst (k : Nat)
  /-- LACE_DIV (R327). -/
  | laceDiv (k : Nat)
  /-- LACE_SQRT (R327). -/
  | laceSqrt (k : Nat)
  /-- LACE_PIVR (R312). -/
  | lacePivr (k : Nat)
  /-- LACE_PIVRP (R312). -/
  | lacePivrp (k : Nat)
  /-- LACE_GPIV (R312). -/
  | laceGpiv (k : Nat)
  /-- LACE_GPIVP (R312). -/
  | laceGpivp (k : Nat)
  /-- LACE_LD (R328). -/
  | laceLd (k : Nat)
  /-- LACE_ST (R328). -/
  | laceSt (k : Nat)
  /-- LACE_NOP (R325). -/
  | laceNop (k : Nat)
  /-- LACE_WAIT (R325). -/
  | laceWait (k : Nat)
  /-- LACE_SPEC (R327). -/
  | laceSpec (k : Nat)
  /-- LACE_REP (R329). -/
  | laceRep (k : Nat)
  /-- LACE_END (R331). -/
  | laceEnd (k : Nat)
  /-- DOORBELL (R346). -/
  | doorbell (k prod : Nat)
  /-- COMMAND_FETCH (R347). -/
  | commandFetch (k : Nat) (ok : Bool)
  /-- CMD_CCONS_WRITE (R352). -/
  | cmdCconsWrite (k v : Nat)
  /-- CMD_SCONS_WRITE (R360). -/
  | cmdSconsWrite (v : Nat)
  /-- RING_ENABLE (R349). -/
  | ringEnable (k : Nat)
  /-- RING_DISABLE (R349). -/
  | ringDisable (k : Nat)
  /-- STATUS_RING_ENABLE (R349). -/
  | statusRingEnable (on : Bool)
  /-- CMD_CTRL_FLUSH (R357). -/
  | cmdCtrlFlush (k : Nat)
  /-- MSIX_UNMASK (R343). -/
  | msixUnmask (v : Nat)
  /-- PCIE_LINK_RESET (R371). -/
  | pcieLinkReset (down : Bool)
  /-- LINK_CHANGE (R343). -/
  | linkChange (speed width : Nat) (rev : Bool)
  /-- NOP (R364). -/
  | nop (k : Nat)
  /-- REGWR (R356). -/
  | regwr (k : Nat)
  /-- REGRD (R356). -/
  | regrd (k : Nat)
  /-- REGPOLL (R356). -/
  | regpoll (k : Nat)
  /-- COPY (R364). -/
  | copy (k : Nat) (fail : Option Nat)
  /-- RING_FLUSH (R357). -/
  | ringFlush (k : Nat)
  /-- STAMP (R364). -/
  | stamp (k : Nat)
  /-- INFO (R364). -/
  | info (k : Nat)
  /-- NSSET (R44). -/
  | nsset (k : Nat)
  /-- PAT_ADMIT (R55). -/
  | patAdmit (k : Nat)
  /-- PAT_ACTIVATE (R63). -/
  | patActivate (k : Nat)
  /-- PAT_DEACTIVATE (R65). -/
  | patDeactivate (k : Nat)
  /-- PAT_CANCEL (R63). -/
  | patCancel (k : Nat)
  /-- CORE_LOAD (R257). -/
  | coreLoad (k : Nat)
  /-- CORE_START (R254). -/
  | coreStart (k : Nat)
  /-- CORE_ABORT (R255). -/
  | coreAbort (k : Nat)
  /-- CORE_CHFLUSH (R217). -/
  | coreChflush (k : Nat)
  /-- LACE_LOAD (R334). -/
  | laceLoad (k : Nat)
  /-- SOL_PGCOMMIT (R303). -/
  | solPgcommit (k : Nat)
  /-- SOL_SLOT_RESET (R313). -/
  | solSlotReset (k : Nat)
  /-- SOL_KICK (R317). -/
  | solKick (k : Nat)
  /-- SOL_INFLUSH (R305). -/
  | solInflush (k : Nat)
  /-- HEAD_ADMIT (R117). -/
  | headAdmit (k : Nat)
  /-- HEAD_QREL (R135). -/
  | headQrel (k : Nat)
  /-- HEAD_RETRAIN (R112). -/
  | headRetrain (k : Nat)
  /-- CAP_REARM (R156). -/
  | capRearm (k : Nat)
  /-- CAP_FORCE (R156). -/
  | capForce (k : Nat)
  /-- FSYNC_FIRE (R171). -/
  | fsyncFire (k : Nat)
  /-- RP_KICK (R202). -/
  | rpKick (k : Nat)
  /-- FBR_ERRACK (R385). -/
  | fbrErrack (k : Nat)
  /-- JRN_SNAPSHOT (R415). -/
  | jrnSnapshot (k : Nat)
  /-- JRN_READ (R416). -/
  | jrnRead (k : Nat)
  /-- JRN_FLUSH (R419). -/
  | jrnFlush (k : Nat)
  /-- JRN_CLEAR_CHALLENGE (R365). -/
  | jrnClearChallenge (k : Nat)
  /-- JRN_CLEAR (R425). -/
  | jrnClear (k : Nat)
  /-- KEY_LOAD (R366). -/
  | keyLoad (k : Nat)
  /-- KEY_ERASE (R366). -/
  | keyErase (k : Nat)
  /-- JCK_SET (R366). -/
  | jckSet (k : Nat)
  /-- SEC_LOCK (R366). -/
  | secLock (k : Nat)
  /-- DBG_HALT (R472). -/
  | dbgHalt (k : Nat)
  /-- DBG_RESUME (R475). -/
  | dbgResume (k : Nat)
  /-- DBG_STEP (R475). -/
  | dbgStep (k : Nat)
  /-- NONCE_EXPIRY (R365). -/
  | nonceExpiry
  /-- CLEAR_BLOCK_EXPIRY (R365). -/
  | clearBlockExpiry
  /-- RNG_FAIL (R367). -/
  | rngFail
  /-- RNG_OK (R367). -/
  | rngOk
  /-- BAR4_WRITE (R376). -/
  | bar4Write (a : Nat) (bs : List (Nat × Bool))
  /-- BAR4_READ (R379). -/
  | bar4Read (a : Nat) (be : List Bool)
  /-- SEGMENT_DISPATCH (R377). -/
  | segmentDispatch (hid : Nat)
  /-- REGACK_TIMEOUT (R378). -/
  | regackTimeout (p : Nat)
  /-- BUSY_RETRY (R378). -/
  | busyRetry (p : Nat)
  /-- READ_TIMEOUT (R382). -/
  | readTimeout
  /-- FBR_WINDOW_FLUSH (R386). -/
  | fbrWindowFlush (w : Nat)
  /-- FBR_ERRACK_WRITE (R385). -/
  | fbrErrackWrite (mask : Nat)
  /-- FBR_ELOG_POP (R384). -/
  | fbrElogPop (rq : Requester)
  /-- ROUTE_WRITE (R387). -/
  | routeWrite (rq : Requester) (i : Nat) (v : Word)
  /-- MAILBOX_COMMIT (R389). -/
  | mailboxCommit (p : Nat)
  /-- CHK_DATA_WRITE (R395). -/
  | chkDataWrite (rq : Requester) (u : Nat) (be : Nat) (v : Word)
  /-- CHK_CHECK (R397). -/
  | chkCheck (u : Nat)
  /-- CHK_START (R399). -/
  | chkStart (u : Nat)
  /-- RECORD_INTAKE (R409). -/
  | recordIntake
  /-- FLUSH_DONE (R419). -/
  | flushDone
  /-- SECTOR_ERASE_DONE (R421). -/
  | sectorEraseDone
  /-- JOURNAL_MOUNT (R422). -/
  | journalMount
  /-- FLASH_ERR (R424). -/
  | flashErr (sector op status addr : Nat)
  /-- JRN_CTRL_SNAPSHOT (R415). -/
  | jrnCtrlSnapshot
  /-- JRN_CTRL_FLUSH (R419). -/
  | jrnCtrlFlush
  /-- CHK_WINDOW_EXPIRY (R448). -/
  | chkWindowExpiry
  /-- HOST_FENCE (R447). -/
  | hostFence (kind idx : Nat)
  /-- UNIT_REVIVE (R455). -/
  | unitRevive (kind idx : Nat)
  /-- REVIVE_DONE (R455). -/
  | reviveDone (pass : Bool)
  /-- AVFS_EVALUATION (R459). -/
  | avfsEvaluation (n : Nat) (margin alarm : Bool)
  /-- HUB_ECC (R456). -/
  | hubEcc (ofs : Nat) (hc : Bool)
  /-- CORRECTED_ECC (R457). -/
  | correctedEcc (store idx : Nat)
  /-- PWR_FLOG_POP (R449). -/
  | pwrFlogPop
  /-- TMP_SENSOR_SAMPLE (R461). -/
  | tmpSensorSample (temps : List (Option Nat))
  /-- SENSOR_STALE (R464). -/
  | sensorStale (k : Nat)
  /-- TAP_RESET (R466). -/
  | tapReset
  /-- EXTEST (R468). -/
  | extest
  /-- SAMPLE_PRELOAD (R466). -/
  | samplePreload
  /-- IDCODE (R467). -/
  | idcode
  /-- CLAMP (R468). -/
  | clamp
  /-- HIGHZ (R468). -/
  | highz
  /-- EXTEST_PULSE (R468). -/
  | extestPulse
  /-- EXTEST_TRAIN (R468). -/
  | extestTrain
  /-- DBGACC (R469). -/
  | dbgacc
  /-- BYPASS (R466). -/
  | bypass
  /-- DBGACC_UPDATE (R469). -/
  | dbgaccUpdate (data ofs : Nat) (bar2 : Bool) (op : TapOp)
  /-- DBG_ATTACH_WRITE (R471). -/
  | dbgAttachWrite (rq : Requester) (on : Bool)
  /-- DBG_SIDEFX_WRITE (R101). -/
  | dbgSidefxWrite (on : Bool)
  /-- DBG_HALT_WRITE (R472). -/
  | dbgHaltWrite (rq : Requester) (mask : Nat)
  /-- CORE_HALT (R472). -/
  | coreHalt (n : Nat)
  /-- DBG_RESUME_WRITE (R475). -/
  | dbgResumeWrite (rq : Requester) (mask : Nat)
  /-- DBG_STEP_WRITE (R475). -/
  | dbgStepWrite (rq : Requester) (n count : Nat)
  /-- CORE_DEBUG_REG_ACCESS (R476). -/
  | coreDebugRegAccess (rq : Requester) (write : Bool) (v : Nat)
  /-- REGPOLL_TIMEOUT (R364). -/
  | regpollTimeout (k : Nat)
  /-- COMPLETION_TIMEOUT (R340). -/
  | completionTimeout (k : Nat)
  /-- BUS_MASTER_ENABLE_CHANGE (R340). -/
  | busMasterEnableChange (bme mse d3 fmask : Bool)
  /-- RESET_N_HIGH (R484). -/
  | resetNHigh
  deriving DecidableEq, Repr

end Sys2Proof
end

