-- ==== Sys2Proof/Decode.lean ====
section
/-! DEFINITION. Decode.lean: the command that a word of the opcode table's bits spells. No row of spec/opcode_table.json gives bits: a
command of this block is an access, an event or an instruction that a unit fetches by itself, and the 32-bit and 64-bit
instruction words (chapters 10 and 14) are read from the stores by the rows that run them. -/

namespace Sys2Proof

/-- No word spells a command. -/
def decodeTableWord (_nbits _w : Nat) : Option Instr := none

end Sys2Proof
end

