-- ==== Sys2Proof/Machine/Fields.lean ====
section
/-! DEFINITION. Machine/Fields.lean: the name of every register card of spec/ and of every field on it, with the BAR0
offset the card gives (R74, R75) and the bits its table gives. Written out from the cards of the chapters. -/

namespace Sys2Proof.Machine.Reg
open Sys2Proof.Machine

/-! ### Block RND -/

/-- RND_CTRL, 02_round.md. -/
def RND_CTRL : Rg := ⟨0x020000, 1, 0x0, 1, 0x0⟩
def RND_CTRL_COMMIT : Fld := ⟨RND_CTRL, 0, 1⟩
def RND_CTRL_SNAP : Fld := ⟨RND_CTRL, 1, 1⟩
def RND_CTRL_HOLD_FORCE : Fld := ⟨RND_CTRL, 2, 1⟩
/-- RND_STATUS, 02_round.md. -/
def RND_STATUS : Rg := ⟨0x020004, 1, 0x0, 1, 0x0⟩
def RND_STATUS_STATE : Fld := ⟨RND_STATUS, 0, 3⟩
def RND_STATUS_REF_ACT : Fld := ⟨RND_STATUS, 4, 2⟩
def RND_STATUS_VQUAL : Fld := ⟨RND_STATUS, 6, 1⟩
def RND_STATUS_ZQUAL : Fld := ⟨RND_STATUS, 7, 1⟩
def RND_STATUS_OUTBAND : Fld := ⟨RND_STATUS, 8, 1⟩
def RND_STATUS_PPS_LOCK : Fld := ⟨RND_STATUS, 9, 1⟩
def RND_STATUS_NS_VALID : Fld := ⟨RND_STATUS, 10, 1⟩
def RND_STATUS_EVER_LOCKED : Fld := ⟨RND_STATUS, 11, 1⟩
def RND_STATUS_SLEW_HELD : Fld := ⟨RND_STATUS, 12, 1⟩
def RND_STATUS_REJ_CAUSE : Fld := ⟨RND_STATUS, 16, 4⟩
/-- RND_EVENT, 02_round.md. -/
def RND_EVENT : Rg := ⟨0x020008, 1, 0x0, 1, 0x0⟩
def RND_EVENT_EVT : Fld := ⟨RND_EVENT, 0, 13⟩
/-- RND_INT_EN, 02_round.md. -/
def RND_INT_EN : Rg := ⟨0x02000C, 1, 0x0, 1, 0x0⟩
def RND_INT_EN_EN : Fld := ⟨RND_INT_EN, 0, 13⟩
/-- RND_REFSEL, 02_round.md. -/
def RND_REFSEL : Rg := ⟨0x020010, 1, 0x0, 1, 0x0⟩
def RND_REFSEL_PORT : Fld := ⟨RND_REFSEL, 0, 3⟩
def RND_REFSEL_CH : Fld := ⟨RND_REFSEL, 3, 3⟩
def RND_REFSEL_VEN : Fld := ⟨RND_REFSEL, 6, 1⟩
def RND_REFSEL_ZEN : Fld := ⟨RND_REFSEL, 7, 1⟩
def RND_REFSEL_REVERT : Fld := ⟨RND_REFSEL, 8, 1⟩
def RND_REFSEL_ZPOL : Fld := ⟨RND_REFSEL, 9, 1⟩
def RND_REFSEL_VMIN : Fld := ⟨RND_REFSEL, 16, 8⟩
/-- RND_REFDLY, 02_round.md. -/
def RND_REFDLY : Rg := ⟨0x020014, 1, 0x0, 1, 0x0⟩
def RND_REFDLY_VDLY : Fld := ⟨RND_REFDLY, 0, 16⟩
def RND_REFDLY_ZCDLY : Fld := ⟨RND_REFDLY, 16, 16⟩
/-- RND_BAND_LO, 02_round.md. -/
def RND_BAND_LO : Rg := ⟨0x020018, 1, 0x0, 1, 0x0⟩
def RND_BAND_LO_LO : Fld := ⟨RND_BAND_LO, 0, 32⟩
/-- RND_BAND_HI, 02_round.md. -/
def RND_BAND_HI : Rg := ⟨0x02001C, 1, 0x0, 1, 0x0⟩
def RND_BAND_HI_HI : Fld := ⟨RND_BAND_HI, 0, 32⟩
/-- RND_LOOP, 02_round.md. -/
def RND_LOOP : Rg := ⟨0x020020, 1, 0x0, 1, 0x0⟩
def RND_LOOP_BW : Fld := ⟨RND_LOOP, 0, 3⟩
def RND_LOOP_NOMINAL : Fld := ⟨RND_LOOP, 3, 1⟩
def RND_LOOP_SLEW : Fld := ⟨RND_LOOP, 4, 6⟩
def RND_LOOP_REVERT_RNDS : Fld := ⟨RND_LOOP, 16, 8⟩
/-- RND_COUNT_LO, 02_round.md. -/
def RND_COUNT_LO : Rg := ⟨0x020030, 1, 0x0, 1, 0x0⟩
def RND_COUNT_LO_COUNT : Fld := ⟨RND_COUNT_LO, 0, 32⟩
/-- RND_COUNT_HI, 02_round.md. -/
def RND_COUNT_HI : Rg := ⟨0x020034, 1, 0x0, 1, 0x0⟩
def RND_COUNT_HI_COUNT : Fld := ⟨RND_COUNT_HI, 0, 16⟩
/-- RND_PHASE, 02_round.md. -/
def RND_PHASE : Rg := ⟨0x020038, 1, 0x0, 1, 0x0⟩
def RND_PHASE_PHASE : Fld := ⟨RND_PHASE, 0, 32⟩
/-- RND_FREQ, 02_round.md. -/
def RND_FREQ : Rg := ⟨0x02003C, 1, 0x0, 1, 0x0⟩
def RND_FREQ_FREQ : Fld := ⟨RND_FREQ, 0, 32⟩
/-- RND_NSTIME_LO, 02_round.md. -/
def RND_NSTIME_LO : Rg := ⟨0x020040, 1, 0x0, 1, 0x0⟩
def RND_NSTIME_LO_NS : Fld := ⟨RND_NSTIME_LO, 0, 32⟩
/-- RND_NSTIME_HI, 02_round.md. -/
def RND_NSTIME_HI : Rg := ⟨0x020044, 1, 0x0, 1, 0x0⟩
def RND_NSTIME_HI_NS : Fld := ⟨RND_NSTIME_HI, 0, 32⟩
/-- RND_NSSET_LO, 02_round.md. -/
def RND_NSSET_LO : Rg := ⟨0x020048, 1, 0x0, 1, 0x0⟩
def RND_NSSET_LO_NS : Fld := ⟨RND_NSSET_LO, 0, 32⟩
/-- RND_NSSET_HI, 02_round.md. -/
def RND_NSSET_HI : Rg := ⟨0x02004C, 1, 0x0, 1, 0x0⟩
def RND_NSSET_HI_NS : Fld := ⟨RND_NSSET_HI, 0, 32⟩
/-- RND_PPSCFG, 02_round.md. -/
def RND_PPSCFG : Rg := ⟨0x020050, 1, 0x0, 1, 0x0⟩
def RND_PPSCFG_EN : Fld := ⟨RND_PPSCFG, 0, 1⟩
def RND_PPSCFG_POL : Fld := ⟨RND_PPSCFG, 1, 1⟩
/-- RND_PPSERR, 02_round.md. -/
def RND_PPSERR : Rg := ⟨0x020054, 1, 0x0, 1, 0x0⟩
def RND_PPSERR_ERR : Fld := ⟨RND_PPSERR, 0, 32⟩
/-- RND_PHERR, 02_round.md. -/
def RND_PHERR : Rg := ⟨0x020058, 1, 0x0, 1, 0x0⟩
def RND_PHERR_ERR : Fld := ⟨RND_PHERR, 0, 32⟩
/-- RND_STATS, 02_round.md. -/
def RND_STATS : Rg := ⟨0x02005C, 1, 0x0, 1, 0x0⟩
def RND_STATS_REFLOSS : Fld := ⟨RND_STATS, 0, 16⟩
def RND_STATS_SWITCHES : Fld := ⟨RND_STATS, 16, 16⟩
/-- RND_SNAP_CNT_LO, 02_round.md. -/
def RND_SNAP_CNT_LO : Rg := ⟨0x020060, 1, 0x0, 1, 0x0⟩
def RND_SNAP_CNT_LO_COUNT : Fld := ⟨RND_SNAP_CNT_LO, 0, 32⟩
/-- RND_SNAP_CNT_HI, 02_round.md. -/
def RND_SNAP_CNT_HI : Rg := ⟨0x020064, 1, 0x0, 1, 0x0⟩
def RND_SNAP_CNT_HI_COUNT : Fld := ⟨RND_SNAP_CNT_HI, 0, 16⟩
/-- RND_SNAP_PHASE, 02_round.md. -/
def RND_SNAP_PHASE : Rg := ⟨0x020068, 1, 0x0, 1, 0x0⟩
def RND_SNAP_PHASE_PHASE : Fld := ⟨RND_SNAP_PHASE, 0, 32⟩
/-- RND_SNAP_FREQ, 02_round.md. -/
def RND_SNAP_FREQ : Rg := ⟨0x02006C, 1, 0x0, 1, 0x0⟩
def RND_SNAP_FREQ_FREQ : Fld := ⟨RND_SNAP_FREQ, 0, 32⟩
/-- RND_SNAP_NS_LO, 02_round.md. -/
def RND_SNAP_NS_LO : Rg := ⟨0x020070, 1, 0x0, 1, 0x0⟩
def RND_SNAP_NS_LO_NS : Fld := ⟨RND_SNAP_NS_LO, 0, 32⟩
/-- RND_SNAP_NS_HI, 02_round.md. -/
def RND_SNAP_NS_HI : Rg := ⟨0x020074, 1, 0x0, 1, 0x0⟩
def RND_SNAP_NS_HI_NS : Fld := ⟨RND_SNAP_NS_HI, 0, 32⟩
/-- RND_SNAP_FLAGS, 02_round.md. -/
def RND_SNAP_FLAGS : Rg := ⟨0x020078, 1, 0x0, 1, 0x0⟩
def RND_SNAP_FLAGS_FLAGS : Fld := ⟨RND_SNAP_FLAGS, 0, 16⟩

/-! ### Block PAT -/

/-- PAT_CTRL, 03_pattern.md. -/
def PAT_CTRL : Rg := ⟨0x030000, 1, 0x0, 1, 0x0⟩
def PAT_CTRL_ADMIT : Fld := ⟨PAT_CTRL, 0, 1⟩
def PAT_CTRL_ACTIVATE : Fld := ⟨PAT_CTRL, 1, 1⟩
def PAT_CTRL_DEACTIVATE : Fld := ⟨PAT_CTRL, 2, 1⟩
def PAT_CTRL_CANCEL : Fld := ⟨PAT_CTRL, 3, 1⟩
/-- PAT_STATUS, 03_pattern.md. -/
def PAT_STATUS : Rg := ⟨0x030004, 1, 0x0, 1, 0x0⟩
def PAT_STATUS_ADM_STATE : Fld := ⟨PAT_STATUS, 0, 3⟩
def PAT_STATUS_ACTIVE : Fld := ⟨PAT_STATUS, 3, 1⟩
def PAT_STATUS_ACT_WAIT : Fld := ⟨PAT_STATUS, 4, 1⟩
def PAT_STATUS_DEGRADED : Fld := ⟨PAT_STATUS, 5, 1⟩
def PAT_STATUS_RIDX : Fld := ⟨PAT_STATUS, 8, 4⟩
def PAT_STATUS_LEN : Fld := ⟨PAT_STATUS, 12, 4⟩
/-- PAT_IMG_BASE, 03_pattern.md. -/
def PAT_IMG_BASE : Rg := ⟨0x030008, 1, 0x0, 1, 0x0⟩
def PAT_IMG_BASE_BASE : Fld := ⟨PAT_IMG_BASE, 6, 18⟩
/-- PAT_IMG_LEN, 03_pattern.md. -/
def PAT_IMG_LEN : Rg := ⟨0x03000C, 1, 0x0, 1, 0x0⟩
def PAT_IMG_LEN_LEN : Fld := ⟨PAT_IMG_LEN, 0, 17⟩
/-- PAT_ADM_RESULT, 03_pattern.md. -/
def PAT_ADM_RESULT : Rg := ⟨0x030010, 1, 0x0, 1, 0x0⟩
def PAT_ADM_RESULT_CODE : Fld := ⟨PAT_ADM_RESULT, 0, 8⟩
def PAT_ADM_RESULT_STEP : Fld := ⟨PAT_ADM_RESULT, 8, 3⟩
def PAT_ADM_RESULT_CARRY : Fld := ⟨PAT_ADM_RESULT, 11, 1⟩
def PAT_ADM_RESULT_JOB : Fld := ⟨PAT_ADM_RESULT, 16, 11⟩
/-- PAT_ADM_WIN, 03_pattern.md. -/
def PAT_ADM_WIN : Rg := ⟨0x030014, 1, 0x0, 1, 0x0⟩
def PAT_ADM_WIN_A : Fld := ⟨PAT_ADM_WIN, 0, 14⟩
def PAT_ADM_WIN_B : Fld := ⟨PAT_ADM_WIN, 16, 14⟩
/-- PAT_ADM_RES, 03_pattern.md. -/
def PAT_ADM_RES : Rg := ⟨0x030018, 1, 0x0, 1, 0x0⟩
def PAT_ADM_RES_RES : Fld := ⟨PAT_ADM_RES, 0, 8⟩
def PAT_ADM_RES_STREAM : Fld := ⟨PAT_ADM_RES, 16, 9⟩
/-- PAT_ADM_EXCESS, 03_pattern.md. -/
def PAT_ADM_EXCESS : Rg := ⟨0x03001C, 1, 0x0, 1, 0x0⟩
def PAT_ADM_EXCESS_EXCESS : Fld := ⟨PAT_ADM_EXCESS, 0, 32⟩
/-- PAT_ACT_ROUND_LO, 03_pattern.md. -/
def PAT_ACT_ROUND_LO : Rg := ⟨0x030020, 1, 0x0, 1, 0x0⟩
def PAT_ACT_ROUND_LO_RND : Fld := ⟨PAT_ACT_ROUND_LO, 0, 32⟩
/-- PAT_ACT_ROUND_HI, 03_pattern.md. -/
def PAT_ACT_ROUND_HI : Rg := ⟨0x030024, 1, 0x0, 1, 0x0⟩
def PAT_ACT_ROUND_HI_RND : Fld := ⟨PAT_ACT_ROUND_HI, 0, 16⟩
/-- PAT_ACT_CNT_LO, 03_pattern.md. -/
def PAT_ACT_CNT_LO : Rg := ⟨0x030028, 1, 0x0, 1, 0x0⟩
def PAT_ACT_CNT_LO_RND : Fld := ⟨PAT_ACT_CNT_LO, 0, 32⟩
/-- PAT_ACT_CNT_HI, 03_pattern.md. -/
def PAT_ACT_CNT_HI : Rg := ⟨0x03002C, 1, 0x0, 1, 0x0⟩
def PAT_ACT_CNT_HI_RND : Fld := ⟨PAT_ACT_CNT_HI, 0, 16⟩
/-- PAT_LPDDR, 03_pattern.md. -/
def PAT_LPDDR : Rg := ⟨0x030030, 1, 0x0, 1, 0x0⟩
def PAT_LPDDR_PCT : Fld := ⟨PAT_LPDDR, 0, 7⟩
/-- PAT_EVENT, 03_pattern.md. -/
def PAT_EVENT : Rg := ⟨0x030034, 1, 0x0, 1, 0x0⟩
def PAT_EVENT_ADM_PASS : Fld := ⟨PAT_EVENT, 0, 1⟩
def PAT_EVENT_ADM_REFUSE : Fld := ⟨PAT_EVENT, 1, 1⟩
def PAT_EVENT_ACTIVATED : Fld := ⟨PAT_EVENT, 2, 1⟩
def PAT_EVENT_DEACTIVATED : Fld := ⟨PAT_EVENT, 3, 1⟩
def PAT_EVENT_LATE : Fld := ⟨PAT_EVENT, 4, 1⟩
def PAT_EVENT_OVERRUN : Fld := ⟨PAT_EVENT, 5, 1⟩
def PAT_EVENT_SKIPPED : Fld := ⟨PAT_EVENT, 6, 1⟩
def PAT_EVENT_READMIT : Fld := ⟨PAT_EVENT, 7, 1⟩
def PAT_EVENT_SHED : Fld := ⟨PAT_EVENT, 8, 1⟩
/-- PAT_INT_EN, 03_pattern.md. -/
def PAT_INT_EN : Rg := ⟨0x030038, 1, 0x0, 1, 0x0⟩
def PAT_INT_EN_EN : Fld := ⟨PAT_INT_EN, 0, 9⟩
/-- PAT_LATECNT, 03_pattern.md. -/
def PAT_LATECNT : Rg := ⟨0x03003C, 1, 0x0, 1, 0x0⟩
def PAT_LATECNT_LATE : Fld := ⟨PAT_LATECNT, 0, 16⟩
def PAT_LATECNT_SKIP : Fld := ⟨PAT_LATECNT, 16, 16⟩
/-- PAT_OVRCNT, 03_pattern.md. -/
def PAT_OVRCNT : Rg := ⟨0x030040, 1, 0x0, 1, 0x0⟩
def PAT_OVRCNT_OVERRUN : Fld := ⟨PAT_OVRCNT, 0, 16⟩
def PAT_OVRCNT_ABORT : Fld := ⟨PAT_OVRCNT, 16, 16⟩
/-- PAT_SHED, 03_pattern.md. -/
def PAT_SHED : Rg := ⟨0x030044, 1, 0x0, 1, 0x0⟩
def PAT_SHED_ENTRIES : Fld := ⟨PAT_SHED, 0, 12⟩
def PAT_SHED_READMITS : Fld := ⟨PAT_SHED, 16, 8⟩
/-- PAT_FLOOR_k, 03_pattern.md. -/
def PAT_FLOOR : Rg := ⟨0x030080, 8, 0x4, 1, 0x0⟩
def PAT_FLOOR_FLOOR3 : Fld := ⟨PAT_FLOOR, 24, 8⟩
def PAT_FLOOR_FLOOR2 : Fld := ⟨PAT_FLOOR, 16, 8⟩
def PAT_FLOOR_FLOOR1 : Fld := ⟨PAT_FLOOR, 8, 8⟩
def PAT_FLOOR_FLOOR0 : Fld := ⟨PAT_FLOOR, 0, 8⟩

/-! ### Block HIF -/

/-- HIF_ID, 04_access.md. -/
def HIF_ID : Rg := ⟨0x000000, 1, 0x0, 1, 0x0⟩
def HIF_ID_PART : Fld := ⟨HIF_ID, 0, 16⟩
def HIF_ID_MINOR : Fld := ⟨HIF_ID, 16, 4⟩
def HIF_ID_MAJOR : Fld := ⟨HIF_ID, 20, 4⟩
def HIF_ID_GRADE : Fld := ⟨HIF_ID, 24, 2⟩
/-- HIF_CTRL, 04_access.md. -/
def HIF_CTRL : Rg := ⟨0x000004, 1, 0x0, 1, 0x0⟩
def HIF_CTRL_SLVERR_EN : Fld := ⟨HIF_CTRL, 0, 1⟩
/-- HIF_SERIAL_LO, 04_access.md. -/
def HIF_SERIAL_LO : Rg := ⟨0x000008, 1, 0x0, 1, 0x0⟩
def HIF_SERIAL_LO_SERIAL : Fld := ⟨HIF_SERIAL_LO, 0, 32⟩
/-- HIF_SERIAL_HI, 04_access.md. -/
def HIF_SERIAL_HI : Rg := ⟨0x00000C, 1, 0x0, 1, 0x0⟩
def HIF_SERIAL_HI_SERIAL : Fld := ⟨HIF_SERIAL_HI, 0, 32⟩
/-- HIF_SCRATCH, 04_access.md. -/
def HIF_SCRATCH : Rg := ⟨0x000010, 1, 0x0, 1, 0x0⟩
def HIF_SCRATCH_DATA : Fld := ⟨HIF_SCRATCH, 0, 32⟩
/-- HIF_ACCERR, 04_access.md. -/
def HIF_ACCERR : Rg := ⟨0x000014, 1, 0x0, 1, 0x0⟩
def HIF_ACCERR_VALID : Fld := ⟨HIF_ACCERR, 0, 1⟩
def HIF_ACCERR_CAUSE : Fld := ⟨HIF_ACCERR, 1, 3⟩
def HIF_ACCERR_WRITE : Fld := ⟨HIF_ACCERR, 4, 1⟩
def HIF_ACCERR_SRC : Fld := ⟨HIF_ACCERR, 5, 2⟩
def HIF_ACCERR_BE : Fld := ⟨HIF_ACCERR, 7, 4⟩
def HIF_ACCERR_COUNT : Fld := ⟨HIF_ACCERR, 16, 16⟩
/-- HIF_ACCERR_ADDR, 04_access.md. -/
def HIF_ACCERR_ADDR : Rg := ⟨0x000018, 1, 0x0, 1, 0x0⟩
def HIF_ACCERR_ADDR_ADDR : Fld := ⟨HIF_ACCERR_ADDR, 0, 26⟩
def HIF_ACCERR_ADDR_AP : Fld := ⟨HIF_ACCERR_ADDR, 26, 1⟩
/-- HIF_ACCERR_DATA, 04_access.md. -/
def HIF_ACCERR_DATA : Rg := ⟨0x00001C, 1, 0x0, 1, 0x0⟩
def HIF_ACCERR_DATA_DATA : Fld := ⟨HIF_ACCERR_DATA, 0, 32⟩
/-- HIF_LPDDR_PAGE, 04_access.md. -/
def HIF_LPDDR_PAGE : Rg := ⟨0x000020, 1, 0x0, 1, 0x0⟩
def HIF_LPDDR_PAGE_PAGE : Fld := ⟨HIF_LPDDR_PAGE, 0, 12⟩
def HIF_LPDDR_PAGE_INST : Fld := ⟨HIF_LPDDR_PAGE, 16, 12⟩
/-- HIF_CFGMIS, 04_access.md. -/
def HIF_CFGMIS : Rg := ⟨0x000024, 1, 0x0, 1, 0x0⟩
def HIF_CFGMIS_BLK : Fld := ⟨HIF_CFGMIS, 0, 13⟩
/-- HIF_EVENT, 15_host_and_commands.md. -/
def HIF_EVENT : Rg := ⟨0x000028, 1, 0x0, 1, 0x0⟩
def HIF_EVENT_ACCERR : Fld := ⟨HIF_EVENT, 0, 1⟩
def HIF_EVENT_LINK_SPEED : Fld := ⟨HIF_EVENT, 1, 1⟩
def HIF_EVENT_LINK_WIDTH : Fld := ⟨HIF_EVENT, 2, 1⟩
/-- HIF_INT_EN, 15_host_and_commands.md. -/
def HIF_INT_EN : Rg := ⟨0x00002C, 1, 0x0, 1, 0x0⟩
def HIF_INT_EN_EN : Fld := ⟨HIF_INT_EN, 0, 3⟩
/-- HIF_LINK, 15_host_and_commands.md. -/
def HIF_LINK : Rg := ⟨0x000030, 1, 0x0, 1, 0x0⟩
def HIF_LINK_SPEED : Fld := ⟨HIF_LINK, 0, 3⟩
def HIF_LINK_WIDTH : Fld := ⟨HIF_LINK, 4, 3⟩
def HIF_LINK_LANEREV : Fld := ⟨HIF_LINK, 7, 1⟩
/-- HIF_PCIID, 15_host_and_commands.md. -/
def HIF_PCIID : Rg := ⟨0x000034, 1, 0x0, 1, 0x0⟩
def HIF_PCIID_DEVICE : Fld := ⟨HIF_PCIID, 0, 16⟩
def HIF_PCIID_VENDOR : Fld := ⟨HIF_PCIID, 16, 16⟩

/-! ### Block MOL -/

/-- MOL_CTRL, 05_moari_link.md. -/
def MOL_CTRL : Rg := ⟨0x060000, 6, 0x1000, 1, 0x0⟩
def MOL_CTRL_COMMIT : Fld := ⟨MOL_CTRL, 0, 1⟩
def MOL_CTRL_RETRAIN : Fld := ⟨MOL_CTRL, 1, 1⟩
def MOL_CTRL_QREL : Fld := ⟨MOL_CTRL, 2, 1⟩
def MOL_CTRL_EQ_FREEZE : Fld := ⟨MOL_CTRL, 3, 1⟩
def MOL_CTRL_ENABLE : Fld := ⟨MOL_CTRL, 8, 1⟩
def MOL_CTRL_M2_EN : Fld := ⟨MOL_CTRL, 9, 1⟩
def MOL_CTRL_AUTH_REQ : Fld := ⟨MOL_CTRL, 10, 1⟩
def MOL_CTRL_AUTO_READMIT : Fld := ⟨MOL_CTRL, 11, 1⟩
/-- MOL_STATUS, 05_moari_link.md. -/
def MOL_STATUS : Rg := ⟨0x060004, 6, 0x1000, 1, 0x0⟩
def MOL_STATUS_STATE : Fld := ⟨MOL_STATUS, 0, 4⟩
def MOL_STATUS_GEN : Fld := ⟨MOL_STATUS, 4, 1⟩
def MOL_STATUS_AUTHED : Fld := ⟨MOL_STATUS, 5, 1⟩
def MOL_STATUS_HEAD_ABSENT : Fld := ⟨MOL_STATUS, 6, 1⟩
def MOL_STATUS_GLOCK : Fld := ⟨MOL_STATUS, 7, 1⟩
def MOL_STATUS_M2_FAILS : Fld := ⟨MOL_STATUS, 8, 2⟩
def MOL_STATUS_QHELD : Fld := ⟨MOL_STATUS, 10, 1⟩
def MOL_STATUS_REJ_CAUSE : Fld := ⟨MOL_STATUS, 12, 4⟩
def MOL_STATUS_BLK_CAUSE : Fld := ⟨MOL_STATUS, 16, 3⟩
/-- MOL_EVENT, 05_moari_link.md. -/
def MOL_EVENT : Rg := ⟨0x060008, 6, 0x1000, 1, 0x0⟩
def MOL_EVENT_EVT : Fld := ⟨MOL_EVENT, 0, 14⟩
/-- MOL_INT_EN, 05_moari_link.md. -/
def MOL_INT_EN : Rg := ⟨0x06000C, 6, 0x1000, 1, 0x0⟩
def MOL_INT_EN_EN : Fld := ⟨MOL_INT_EN, 0, 14⟩
/-- MOL_CFG, 05_moari_link.md. -/
def MOL_CFG : Rg := ⟨0x060010, 6, 0x1000, 1, 0x0⟩
def MOL_CFG_RATE : Fld := ⟨MOL_CFG, 0, 3⟩
def MOL_CFG_CADIV : Fld := ⟨MOL_CFG, 4, 2⟩
def MOL_CFG_TXDE : Fld := ⟨MOL_CFG, 6, 2⟩
def MOL_CFG_CHMASK : Fld := ⟨MOL_CFG, 8, 8⟩
def MOL_CFG_APER : Fld := ⟨MOL_CFG, 16, 8⟩
def MOL_CFG_ECHO_DIV : Fld := ⟨MOL_CFG, 24, 8⟩
/-- MOL_TMO, 05_moari_link.md. -/
def MOL_TMO : Rg := ⟨0x060014, 6, 0x1000, 1, 0x0⟩
def MOL_TMO_ALIVE_TMO : Fld := ⟨MOL_TMO, 0, 10⟩
def MOL_TMO_CRED_TMO : Fld := ⟨MOL_TMO, 16, 8⟩
/-- MOL_QCFG, 05_moari_link.md. -/
def MOL_QCFG : Rg := ⟨0x060018, 6, 0x1000, 1, 0x0⟩
def MOL_QCFG_QTHR : Fld := ⟨MOL_QCFG, 0, 4⟩
def MOL_QCFG_CRCTHR : Fld := ⟨MOL_QCFG, 8, 8⟩
/-- MOL_RATELIM, 05_moari_link.md. -/
def MOL_RATELIM : Rg := ⟨0x06001C, 6, 0x1000, 1, 0x0⟩
def MOL_RATELIM_TOK : Fld := ⟨MOL_RATELIM, 0, 8⟩
def MOL_RATELIM_BKT : Fld := ⟨MOL_RATELIM, 16, 8⟩
/-- MOL_IDBASE, 05_moari_link.md. -/
def MOL_IDBASE : Rg := ⟨0x060020, 6, 0x1000, 1, 0x0⟩
def MOL_IDBASE_BASE : Fld := ⟨MOL_IDBASE, 0, 16⟩
def MOL_IDBASE_ADMITTED : Fld := ⟨MOL_IDBASE, 16, 1⟩
/-- MOL_AUTH, 05_moari_link.md. -/
def MOL_AUTH : Rg := ⟨0x060024, 6, 0x1000, 1, 0x0⟩
def MOL_AUTH_KSLOT : Fld := ⟨MOL_AUTH, 0, 5⟩
/-- MOL_CAPS, 05_moari_link.md. -/
def MOL_CAPS : Rg := ⟨0x060028, 6, 0x1000, 1, 0x0⟩
def MOL_CAPS_GENS : Fld := ⟨MOL_CAPS, 0, 2⟩
def MOL_CAPS_GMAC : Fld := ⟨MOL_CAPS, 2, 1⟩
def MOL_CAPS_NCH : Fld := ⟨MOL_CAPS, 4, 4⟩
def MOL_CAPS_RATES : Fld := ⟨MOL_CAPS, 8, 6⟩
def MOL_CAPS_RXCRED : Fld := ⟨MOL_CAPS, 16, 6⟩
/-- MOL_CAPS2, 05_moari_link.md. -/
def MOL_CAPS2 : Rg := ⟨0x06002C, 6, 0x1000, 1, 0x0⟩
def MOL_CAPS2_TRES : Fld := ⟨MOL_CAPS2, 0, 8⟩
def MOL_CAPS2_GERR : Fld := ⟨MOL_CAPS2, 8, 8⟩
/-- MOL_SERIAL_LO, 05_moari_link.md. -/
def MOL_SERIAL_LO : Rg := ⟨0x060030, 6, 0x1000, 1, 0x0⟩
def MOL_SERIAL_LO_SERIAL : Fld := ⟨MOL_SERIAL_LO, 0, 32⟩
/-- MOL_SERIAL_HI, 05_moari_link.md. -/
def MOL_SERIAL_HI : Rg := ⟨0x060034, 6, 0x1000, 1, 0x0⟩
def MOL_SERIAL_HI_SERIAL : Fld := ⟨MOL_SERIAL_HI, 0, 32⟩
/-- MOL_LAT, 05_moari_link.md. -/
def MOL_LAT : Rg := ⟨0x060038, 6, 0x1000, 1, 0x0⟩
def MOL_LAT_FWD : Fld := ⟨MOL_LAT, 0, 16⟩
def MOL_LAT_UNC : Fld := ⟨MOL_LAT, 16, 16⟩
/-- MOL_ASYM, 05_moari_link.md. -/
def MOL_ASYM : Rg := ⟨0x060040, 6, 0x1000, 1, 0x0⟩
def MOL_ASYM_ASYM : Fld := ⟨MOL_ASYM, 0, 16⟩
def MOL_ASYM_AUNC : Fld := ⟨MOL_ASYM, 16, 16⟩
/-- MOL_EQ, 05_moari_link.md. -/
def MOL_EQ : Rg := ⟨0x060044, 6, 0x1000, 1, 0x0⟩
def MOL_EQ_CTLE : Fld := ⟨MOL_EQ, 0, 4⟩
def MOL_EQ_DFE : Fld := ⟨MOL_EQ, 4, 8⟩
def MOL_EQ_CONV : Fld := ⟨MOL_EQ, 12, 1⟩
/-- MOL_CNT_LINK, 05_moari_link.md. -/
def MOL_CNT_LINK : Rg := ⟨0x060048, 6, 0x1000, 1, 0x0⟩
def MOL_CNT_LINK_CRC : Fld := ⟨MOL_CNT_LINK, 0, 16⟩
def MOL_CNT_LINK_FRAME : Fld := ⟨MOL_CNT_LINK, 16, 16⟩
/-- MOL_CNT_ALIVE, 05_moari_link.md. -/
def MOL_CNT_ALIVE : Rg := ⟨0x06004C, 6, 0x1000, 1, 0x0⟩
def MOL_CNT_ALIVE_DUP : Fld := ⟨MOL_CNT_ALIVE, 0, 16⟩
def MOL_CNT_ALIVE_SKIP : Fld := ⟨MOL_CNT_ALIVE, 16, 16⟩
/-- MOL_CNT_DROP, 05_moari_link.md. -/
def MOL_CNT_DROP : Rg := ⟨0x060050, 6, 0x1000, 1, 0x0⟩
def MOL_CNT_DROP_IN : Fld := ⟨MOL_CNT_DROP, 0, 16⟩
def MOL_CNT_DROP_OUT : Fld := ⟨MOL_CNT_DROP, 16, 16⟩
/-- MOL_CNT_HOST, 05_moari_link.md. -/
def MOL_CNT_HOST : Rg := ⟨0x060054, 6, 0x1000, 1, 0x0⟩
def MOL_CNT_HOST_AUTH : Fld := ⟨MOL_CNT_HOST, 0, 16⟩
def MOL_CNT_HOST_BADID : Fld := ⟨MOL_CNT_HOST, 16, 8⟩
def MOL_CNT_HOST_RATE : Fld := ⟨MOL_CNT_HOST, 24, 8⟩
/-- MOL_CNT_SAMP, 05_moari_link.md. -/
def MOL_CNT_SAMP : Rg := ⟨0x060058, 6, 0x1000, 1, 0x0⟩
def MOL_CNT_SAMP_GAP : Fld := ⟨MOL_CNT_SAMP, 0, 16⟩
def MOL_CNT_SAMP_OVERLAP : Fld := ⟨MOL_CNT_SAMP, 16, 16⟩

/-! ### Block WFM -/

/-- WFM_CTRL, 06_waveform_framing.md. -/
def WFM_CTRL : Rg := ⟨0x050000, 1, 0x0, 1, 0x0⟩
def WFM_CTRL_COMMIT : Fld := ⟨WFM_CTRL, 0, 1⟩
/-- WFM_CFG, 06_waveform_framing.md. -/
def WFM_CFG : Rg := ⟨0x050004, 1, 0x0, 1, 0x0⟩
def WFM_CFG_LAG : Fld := ⟨WFM_CFG, 0, 8⟩
/-- WFM_STATUS, 06_waveform_framing.md. -/
def WFM_STATUS : Rg := ⟨0x050008, 1, 0x0, 1, 0x0⟩
def WFM_STATUS_REJ_CAUSE : Fld := ⟨WFM_STATUS, 0, 4⟩
/-- WFM_EVENT, 06_waveform_framing.md. -/
def WFM_EVENT : Rg := ⟨0x05000C, 1, 0x0, 1, 0x0⟩
def WFM_EVENT_EVT : Fld := ⟨WFM_EVENT, 0, 10⟩
/-- WFM_INT_EN, 06_waveform_framing.md. -/
def WFM_INT_EN : Rg := ⟨0x050010, 1, 0x0, 1, 0x0⟩
def WFM_INT_EN_EN : Fld := ⟨WFM_INT_EN, 0, 10⟩
/-- WFM_CNT_SKIP, 06_waveform_framing.md. -/
def WFM_CNT_SKIP : Rg := ⟨0x050014, 1, 0x0, 1, 0x0⟩
def WFM_CNT_SKIP_SKIP : Fld := ⟨WFM_CNT_SKIP, 0, 16⟩
def WFM_CNT_SKIP_LATEIN : Fld := ⟨WFM_CNT_SKIP, 16, 16⟩
/-- WFM_CNT_RING, 06_waveform_framing.md. -/
def WFM_CNT_RING : Rg := ⟨0x050018, 1, 0x0, 1, 0x0⟩
def WFM_CNT_RING_RINGDROP : Fld := ⟨WFM_CNT_RING, 0, 16⟩
def WFM_CNT_RING_MISSED : Fld := ⟨WFM_CNT_RING, 16, 16⟩
/-- WFM_TRGQ, 06_waveform_framing.md. -/
def WFM_TRGQ : Rg := ⟨0x05001C, 1, 0x0, 1, 0x0⟩
def WFM_TRGQ_UNIT : Fld := ⟨WFM_TRGQ, 0, 4⟩
def WFM_TRGQ_RND : Fld := ⟨WFM_TRGQ, 8, 20⟩
def WFM_TRGQ_HALF2 : Fld := ⟨WFM_TRGQ, 28, 1⟩
def WFM_TRGQ_SELVAGE : Fld := ⟨WFM_TRGQ, 30, 1⟩
def WFM_TRGQ_VALID : Fld := ⟨WFM_TRGQ, 31, 1⟩
/-- WFM_CHCFG_c, 06_waveform_framing.md. -/
def WFM_CHCFG : Rg := ⟨0x050100, 48, 0x10, 1, 0x0⟩
def WFM_CHCFG_EN : Fld := ⟨WFM_CHCFG, 0, 1⟩
def WFM_CHCFG_NCODE : Fld := ⟨WFM_CHCFG, 1, 3⟩
def WFM_CHCFG_HALF : Fld := ⟨WFM_CHCFG, 4, 1⟩
def WFM_CHCFG_DEC : Fld := ⟨WFM_CHCFG, 5, 3⟩
def WFM_CHCFG_LPSET : Fld := ⟨WFM_CHCFG, 8, 2⟩
def WFM_CHCFG_FILL : Fld := ⟨WFM_CHCFG, 10, 2⟩
def WFM_CHCFG_FMT : Fld := ⟨WFM_CHCFG, 12, 1⟩
/-- WFM_CHGAIN_c, 06_waveform_framing.md. -/
def WFM_CHGAIN : Rg := ⟨0x050104, 48, 0x10, 1, 0x0⟩
def WFM_CHGAIN_GAIN : Fld := ⟨WFM_CHGAIN, 0, 32⟩
/-- WFM_CHOFS_c, 06_waveform_framing.md. -/
def WFM_CHOFS : Rg := ⟨0x050108, 48, 0x10, 1, 0x0⟩
def WFM_CHOFS_OFS : Fld := ⟨WFM_CHOFS, 0, 24⟩
/-- WFM_CHSTAT_c, 06_waveform_framing.md. -/
def WFM_CHSTAT : Rg := ⟨0x05010C, 48, 0x10, 1, 0x0⟩
def WFM_CHSTAT_FLAGS : Fld := ⟨WFM_CHSTAT, 0, 8⟩
def WFM_CHSTAT_UNC : Fld := ⟨WFM_CHSTAT, 16, 16⟩
/-- WFM_LPCOEF_s_i, 06_waveform_framing.md. -/
def WFM_LPCOEF : Rg := ⟨0x050400, 4, 0xC4, 49, 0x4⟩
def WFM_LPCOEF_COEF : Fld := ⟨WFM_LPCOEF, 0, 32⟩
/-- WFM_EMCFG_e, 06_waveform_framing.md. -/
def WFM_EMCFG : Rg := ⟨0x051000, 64, 0x10, 1, 0x0⟩
def WFM_EMCFG_EN : Fld := ⟨WFM_EMCFG, 0, 1⟩
def WFM_EMCFG_AUTO : Fld := ⟨WFM_EMCFG, 1, 1⟩
def WFM_EMCFG_CLASS : Fld := ⟨WFM_EMCFG, 2, 1⟩
def WFM_EMCFG_MRKEN : Fld := ⟨WFM_EMCFG, 3, 1⟩
def WFM_EMCFG_NCH : Fld := ⟨WFM_EMCFG, 4, 3⟩
def WFM_EMCFG_DCORE : Fld := ⟨WFM_EMCFG, 8, 5⟩
def WFM_EMCFG_MRK : Fld := ⟨WFM_EMCFG, 16, 8⟩
/-- WFM_EMMAP_LO_e, 06_waveform_framing.md. -/
def WFM_EMMAP_LO : Rg := ⟨0x051004, 64, 0x10, 1, 0x0⟩
def WFM_EMMAP_LO_SLOT3 : Fld := ⟨WFM_EMMAP_LO, 24, 8⟩
def WFM_EMMAP_LO_SLOT2 : Fld := ⟨WFM_EMMAP_LO, 16, 8⟩
def WFM_EMMAP_LO_SLOT1 : Fld := ⟨WFM_EMMAP_LO, 8, 8⟩
def WFM_EMMAP_LO_SLOT0 : Fld := ⟨WFM_EMMAP_LO, 0, 8⟩
/-- WFM_EMMAP_HI_e, 06_waveform_framing.md. -/
def WFM_EMMAP_HI : Rg := ⟨0x051008, 64, 0x10, 1, 0x0⟩
def WFM_EMMAP_HI_SLOT3 : Fld := ⟨WFM_EMMAP_HI, 24, 8⟩
def WFM_EMMAP_HI_SLOT2 : Fld := ⟨WFM_EMMAP_HI, 16, 8⟩
def WFM_EMMAP_HI_SLOT1 : Fld := ⟨WFM_EMMAP_HI, 8, 8⟩
def WFM_EMMAP_HI_SLOT0 : Fld := ⟨WFM_EMMAP_HI, 0, 8⟩
/-- WFM_EMDEST_e, 06_waveform_framing.md. -/
def WFM_EMDEST : Rg := ⟨0x05100C, 64, 0x10, 1, 0x0⟩
def WFM_EMDEST_DEST : Fld := ⟨WFM_EMDEST, 6, 14⟩
def WFM_EMDEST_ALT : Fld := ⟨WFM_EMDEST, 20, 10⟩
/-- WFM_TRGCFG_t, 06_waveform_framing.md. -/
def WFM_TRGCFG : Rg := ⟨0x052000, 16, 0x20, 1, 0x0⟩
def WFM_TRGCFG_EN : Fld := ⟨WFM_TRGCFG, 0, 1⟩
def WFM_TRGCFG_TYPE : Fld := ⟨WFM_TRGCFG, 1, 2⟩
def WFM_TRGCFG_SLOT : Fld := ⟨WFM_TRGCFG, 4, 6⟩
def WFM_TRGCFG_CNT : Fld := ⟨WFM_TRGCFG, 10, 4⟩
def WFM_TRGCFG_SEV : Fld := ⟨WFM_TRGCFG, 16, 3⟩
def WFM_TRGCFG_CAPMASK : Fld := ⟨WFM_TRGCFG, 20, 4⟩
def WFM_TRGCFG_MRKEN : Fld := ⟨WFM_TRGCFG, 24, 1⟩
/-- WFM_TRGMRK_t, 06_waveform_framing.md. -/
def WFM_TRGMRK : Rg := ⟨0x052004, 16, 0x20, 1, 0x0⟩
def WFM_TRGMRK_MRK : Fld := ⟨WFM_TRGMRK, 0, 8⟩
def WFM_TRGMRK_UPS : Fld := ⟨WFM_TRGMRK, 8, 4⟩
def WFM_TRGMRK_DNS : Fld := ⟨WFM_TRGMRK, 12, 4⟩
/-- WFM_TRGFIRE_t, 06_waveform_framing.md. -/
def WFM_TRGFIRE : Rg := ⟨0x052008, 16, 0x20, 1, 0x0⟩
def WFM_TRGFIRE_FIRE : Fld := ⟨WFM_TRGFIRE, 0, 32⟩
/-- WFM_TRGCLEAR_t, 06_waveform_framing.md. -/
def WFM_TRGCLEAR : Rg := ⟨0x05200C, 16, 0x20, 1, 0x0⟩
def WFM_TRGCLEAR_CLEAR : Fld := ⟨WFM_TRGCLEAR, 0, 32⟩
/-- WFM_TRGSTAT_t, 06_waveform_framing.md. -/
def WFM_TRGSTAT : Rg := ⟨0x052010, 16, 0x20, 1, 0x0⟩
def WFM_TRGSTAT_FIRED : Fld := ⟨WFM_TRGSTAT, 0, 1⟩
def WFM_TRGSTAT_CFG_MISMATCH : Fld := ⟨WFM_TRGSTAT, 1, 1⟩
def WFM_TRGSTAT_FIRES : Fld := ⟨WFM_TRGSTAT, 16, 16⟩
/-- WFM_TRGFLOOR_t, 06_waveform_framing.md. -/
def WFM_TRGFLOOR : Rg := ⟨0x052014, 16, 0x20, 1, 0x0⟩
def WFM_TRGFLOOR_F : Fld := ⟨WFM_TRGFLOOR, 0, 32⟩
/-- WFM_TRGMEAS_t, 06_waveform_framing.md. -/
def WFM_TRGMEAS : Rg := ⟨0x052018, 16, 0x20, 1, 0x0⟩
def WFM_TRGMEAS_M : Fld := ⟨WFM_TRGMEAS, 0, 32⟩
/-- WFM_RGCTRL_k, 06_waveform_framing.md. -/
def WFM_RGCTRL : Rg := ⟨0x053000, 4, 0x40, 1, 0x0⟩
def WFM_RGCTRL_REARM : Fld := ⟨WFM_RGCTRL, 0, 1⟩
def WFM_RGCTRL_FORCE : Fld := ⟨WFM_RGCTRL, 1, 1⟩
/-- WFM_RGCFG_k, 06_waveform_framing.md. -/
def WFM_RGCFG : Rg := ⟨0x053004, 4, 0x40, 1, 0x0⟩
def WFM_RGCFG_EN : Fld := ⟨WFM_RGCFG, 0, 1⟩
def WFM_RGCFG_PRE : Fld := ⟨WFM_RGCFG, 8, 7⟩
def WFM_RGCFG_POST : Fld := ⟨WFM_RGCFG, 16, 9⟩
/-- WFM_RGDEPTH_k, 06_waveform_framing.md. -/
def WFM_RGDEPTH : Rg := ⟨0x053008, 4, 0x40, 1, 0x0⟩
def WFM_RGDEPTH_DEPTH : Fld := ⟨WFM_RGDEPTH, 0, 9⟩
/-- WFM_RGMASK_LO_k, 06_waveform_framing.md. -/
def WFM_RGMASK_LO : Rg := ⟨0x05300C, 4, 0x40, 1, 0x0⟩
def WFM_RGMASK_LO_MASK : Fld := ⟨WFM_RGMASK_LO, 0, 32⟩
/-- WFM_RGMASK_HI_k, 06_waveform_framing.md. -/
def WFM_RGMASK_HI : Rg := ⟨0x053010, 4, 0x40, 1, 0x0⟩
def WFM_RGMASK_HI_MASK : Fld := ⟨WFM_RGMASK_HI, 0, 16⟩
/-- WFM_RGBASE_k, 06_waveform_framing.md. -/
def WFM_RGBASE : Rg := ⟨0x053014, 4, 0x40, 1, 0x0⟩
def WFM_RGBASE_BASE : Fld := ⟨WFM_RGBASE, 0, 22⟩
/-- WFM_RGSLOT_k, 06_waveform_framing.md. -/
def WFM_RGSLOT : Rg := ⟨0x053018, 4, 0x40, 1, 0x0⟩
def WFM_RGSLOT_SLOT : Fld := ⟨WFM_RGSLOT, 0, 20⟩
/-- WFM_RGSTAT_k, 06_waveform_framing.md. -/
def WFM_RGSTAT : Rg := ⟨0x05301C, 4, 0x40, 1, 0x0⟩
def WFM_RGSTAT_STATE : Fld := ⟨WFM_RGSTAT, 0, 2⟩
def WFM_RGSTAT_NTRG : Fld := ⟨WFM_RGSTAT, 8, 8⟩
/-- WFM_RGTRND_LO_k, 06_waveform_framing.md. -/
def WFM_RGTRND_LO : Rg := ⟨0x053020, 4, 0x40, 1, 0x0⟩
def WFM_RGTRND_LO_RND : Fld := ⟨WFM_RGTRND_LO, 0, 32⟩
/-- WFM_RGTRND_HI_k, 06_waveform_framing.md. -/
def WFM_RGTRND_HI : Rg := ⟨0x053024, 4, 0x40, 1, 0x0⟩
def WFM_RGTRND_HI_RND : Fld := ⟨WFM_RGTRND_HI, 0, 16⟩

/-! ### Block CAM -/

/-- CAM_FSW, 07_camera_intake.md. -/
def CAM_FSW : Rg := ⟨0x080000, 1, 0x0, 1, 0x0⟩
def CAM_FSW_FIRE : Fld := ⟨CAM_FSW, 0, 6⟩
def CAM_FSW_PROF : Fld := ⟨CAM_FSW, 8, 3⟩
/-- CAM_FSSTAT, 07_camera_intake.md. -/
def CAM_FSSTAT : Rg := ⟨0x080004, 1, 0x0, 1, 0x0⟩
def CAM_FSSTAT_ACTIVE : Fld := ⟨CAM_FSSTAT, 0, 6⟩
def CAM_FSSTAT_CFG_MISMATCH : Fld := ⟨CAM_FSSTAT, 8, 8⟩
/-- CAM_FSPROF_LO_i, 07_camera_intake.md. -/
def CAM_FSPROF_LO : Rg := ⟨0x080040, 8, 0x8, 1, 0x0⟩
def CAM_FSPROF_LO_EXPT : Fld := ⟨CAM_FSPROF_LO, 0, 20⟩
def CAM_FSPROF_LO_TDLY : Fld := ⟨CAM_FSPROF_LO, 20, 12⟩
/-- CAM_FSPROF_HI_i, 07_camera_intake.md. -/
def CAM_FSPROF_HI : Rg := ⟨0x080044, 8, 0x8, 1, 0x0⟩
def CAM_FSPROF_HI_COFS : Fld := ⟨CAM_FSPROF_HI, 0, 10⟩
def CAM_FSPROF_HI_WIDTH : Fld := ⟨CAM_FSPROF_HI, 10, 10⟩
def CAM_FSPROF_HI_MODE : Fld := ⟨CAM_FSPROF_HI, 20, 1⟩
/-- CAM_PCTRL, 07_camera_intake.md. -/
def CAM_PCTRL : Rg := ⟨0x081000, 6, 0x1000, 1, 0x0⟩
def CAM_PCTRL_COMMIT : Fld := ⟨CAM_PCTRL, 0, 1⟩
/-- CAM_PHY, 07_camera_intake.md. -/
def CAM_PHY : Rg := ⟨0x081004, 6, 0x1000, 1, 0x0⟩
def CAM_PHY_EN : Fld := ⟨CAM_PHY, 0, 1⟩
def CAM_PHY_PHY : Fld := ⟨CAM_PHY, 1, 1⟩
def CAM_PHY_WIDTH : Fld := ⟨CAM_PHY, 2, 2⟩
def CAM_PHY_MAP : Fld := ⟨CAM_PHY, 4, 8⟩
def CAM_PHY_POL : Fld := ⟨CAM_PHY, 12, 4⟩
def CAM_PHY_RATE : Fld := ⟨CAM_PHY, 16, 9⟩
/-- CAM_STREAM, 07_camera_intake.md. -/
def CAM_STREAM : Rg := ⟨0x081008, 6, 0x1000, 1, 0x0⟩
def CAM_STREAM_VC : Fld := ⟨CAM_STREAM, 0, 4⟩
def CAM_STREAM_DT : Fld := ⟨CAM_STREAM, 8, 6⟩
def CAM_STREAM_EMBEN : Fld := ⟨CAM_STREAM, 16, 1⟩
def CAM_STREAM_EMBVC : Fld := ⟨CAM_STREAM, 20, 4⟩
def CAM_STREAM_EMBMAX : Fld := ⟨CAM_STREAM, 24, 3⟩
def CAM_STREAM_FETMO : Fld := ⟨CAM_STREAM, 27, 5⟩
/-- CAM_WIN_XY, 07_camera_intake.md. -/
def CAM_WIN_XY : Rg := ⟨0x08100C, 6, 0x1000, 1, 0x0⟩
def CAM_WIN_XY_X0 : Fld := ⟨CAM_WIN_XY, 0, 14⟩
def CAM_WIN_XY_Y0 : Fld := ⟨CAM_WIN_XY, 16, 14⟩
/-- CAM_WIN_WH, 07_camera_intake.md. -/
def CAM_WIN_WH : Rg := ⟨0x081010, 6, 0x1000, 1, 0x0⟩
def CAM_WIN_WH_W : Fld := ⟨CAM_WIN_WH, 0, 14⟩
def CAM_WIN_WH_H : Fld := ⟨CAM_WIN_WH, 16, 14⟩
/-- CAM_SYNC, 07_camera_intake.md. -/
def CAM_SYNC : Rg := ⟨0x081014, 6, 0x1000, 1, 0x0⟩
def CAM_SYNC_FSMAX : Fld := ⟨CAM_SYNC, 0, 16⟩
def CAM_SYNC_EUNC : Fld := ⟨CAM_SYNC, 16, 8⟩
def CAM_SYNC_FSPOL : Fld := ⟨CAM_SYNC, 24, 1⟩
/-- CAM_STATUS, 07_camera_intake.md. -/
def CAM_STATUS : Rg := ⟨0x081018, 6, 0x1000, 1, 0x0⟩
def CAM_STATUS_STATE : Fld := ⟨CAM_STATUS, 0, 2⟩
def CAM_STATUS_REJ_CAUSE : Fld := ⟨CAM_STATUS, 4, 4⟩
/-- CAM_EVENT, 07_camera_intake.md. -/
def CAM_EVENT : Rg := ⟨0x08101C, 6, 0x1000, 1, 0x0⟩
def CAM_EVENT_EVT : Fld := ⟨CAM_EVENT, 0, 14⟩
/-- CAM_INT_EN, 07_camera_intake.md. -/
def CAM_INT_EN : Rg := ⟨0x081020, 6, 0x1000, 1, 0x0⟩
def CAM_INT_EN_EN : Fld := ⟨CAM_INT_EN, 0, 14⟩
/-- CAM_FCNT, 07_camera_intake.md. -/
def CAM_FCNT : Rg := ⟨0x081024, 6, 0x1000, 1, 0x0⟩
def CAM_FCNT_FCNT : Fld := ⟨CAM_FCNT, 0, 32⟩
/-- CAM_LAST, 07_camera_intake.md. -/
def CAM_LAST : Rg := ⟨0x081028, 6, 0x1000, 1, 0x0⟩
def CAM_LAST_WIDTH : Fld := ⟨CAM_LAST, 0, 14⟩
def CAM_LAST_LINES : Fld := ⟨CAM_LAST, 16, 14⟩
/-- CAM_CNT_PKT, 07_camera_intake.md. -/
def CAM_CNT_PKT : Rg := ⟨0x08102C, 6, 0x1000, 1, 0x0⟩
def CAM_CNT_PKT_HDRCOR : Fld := ⟨CAM_CNT_PKT, 0, 16⟩
def CAM_CNT_PKT_HDRERR : Fld := ⟨CAM_CNT_PKT, 16, 16⟩
/-- CAM_CNT_LINE, 07_camera_intake.md. -/
def CAM_CNT_LINE : Rg := ⟨0x081030, 6, 0x1000, 1, 0x0⟩
def CAM_CNT_LINE_CRCERR : Fld := ⟨CAM_CNT_LINE, 0, 16⟩
def CAM_CNT_LINE_LINEDROP : Fld := ⟨CAM_CNT_LINE, 16, 16⟩
/-- CAM_CNT_FRM, 07_camera_intake.md. -/
def CAM_CNT_FRM : Rg := ⟨0x081034, 6, 0x1000, 1, 0x0⟩
def CAM_CNT_FRM_DROP : Fld := ⟨CAM_CNT_FRM, 0, 16⟩
def CAM_CNT_FRM_NOSYNC : Fld := ⟨CAM_CNT_FRM, 16, 16⟩
/-- CAM_CNT_MISC, 07_camera_intake.md. -/
def CAM_CNT_MISC : Rg := ⟨0x081038, 6, 0x1000, 1, 0x0⟩
def CAM_CNT_MISC_DT_UNSUP : Fld := ⟨CAM_CNT_MISC, 0, 8⟩
def CAM_CNT_MISC_ORPHAN : Fld := ⟨CAM_CNT_MISC, 8, 8⟩
def CAM_CNT_MISC_FSLOST : Fld := ⟨CAM_CNT_MISC, 16, 8⟩
def CAM_CNT_MISC_FSOVL : Fld := ⟨CAM_CNT_MISC, 24, 8⟩
/-- CAM_DLVCFG_k, 07_camera_intake.md. -/
def CAM_DLVCFG : Rg := ⟨0x081100, 6, 0x1000, 6, 0x10⟩
def CAM_DLVCFG_EN : Fld := ⟨CAM_DLVCFG, 0, 1⟩
def CAM_DLVCFG_KIND : Fld := ⟨CAM_DLVCFG, 1, 2⟩
def CAM_DLVCFG_MRKEN : Fld := ⟨CAM_DLVCFG, 3, 1⟩
def CAM_DLVCFG_OUT : Fld := ⟨CAM_DLVCFG, 4, 3⟩
def CAM_DLVCFG_TAG : Fld := ⟨CAM_DLVCFG, 7, 1⟩
def CAM_DLVCFG_DCORE : Fld := ⟨CAM_DLVCFG, 8, 5⟩
def CAM_DLVCFG_MRK : Fld := ⟨CAM_DLVCFG, 16, 8⟩
def CAM_DLVCFG_SKIPN : Fld := ⟨CAM_DLVCFG, 24, 4⟩
/-- CAM_DLVADDR_k, 07_camera_intake.md. -/
def CAM_DLVADDR : Rg := ⟨0x081104, 6, 0x1000, 6, 0x10⟩
def CAM_DLVADDR_ADDR : Fld := ⟨CAM_DLVADDR, 0, 22⟩
/-- CAM_DLVSIZE_k, 07_camera_intake.md. -/
def CAM_DLVSIZE : Rg := ⟨0x081108, 6, 0x1000, 6, 0x10⟩
def CAM_DLVSIZE_N : Fld := ⟨CAM_DLVSIZE, 0, 10⟩
def CAM_DLVSIZE_STRIDE : Fld := ⟨CAM_DLVSIZE, 12, 20⟩
/-- CAM_DLVCNT_k, 07_camera_intake.md. -/
def CAM_DLVCNT : Rg := ⟨0x08110C, 6, 0x1000, 6, 0x10⟩
def CAM_DLVCNT_DONE : Fld := ⟨CAM_DLVCNT, 0, 16⟩
def CAM_DLVCNT_TRUNC : Fld := ⟨CAM_DLVCNT, 16, 16⟩
/-- CAM_TXCTRL, 07_camera_intake.md. -/
def CAM_TXCTRL : Rg := ⟨0x087000, 1, 0x0, 1, 0x0⟩
def CAM_TXCTRL_COMMIT : Fld := ⟨CAM_TXCTRL, 0, 1⟩
def CAM_TXCTRL_EN : Fld := ⟨CAM_TXCTRL, 1, 1⟩
def CAM_TXCTRL_LANES : Fld := ⟨CAM_TXCTRL, 2, 2⟩
def CAM_TXCTRL_CONTCLK : Fld := ⟨CAM_TXCTRL, 4, 1⟩
def CAM_TXCTRL_DSKP : Fld := ⟨CAM_TXCTRL, 8, 8⟩
def CAM_TXCTRL_RATE : Fld := ⟨CAM_TXCTRL, 16, 9⟩
/-- CAM_TXSTAT, 07_camera_intake.md. -/
def CAM_TXSTAT : Rg := ⟨0x087004, 1, 0x0, 1, 0x0⟩
def CAM_TXSTAT_STATE : Fld := ⟨CAM_TXSTAT, 0, 2⟩
def CAM_TXSTAT_REJ_CAUSE : Fld := ⟨CAM_TXSTAT, 4, 4⟩
/-- CAM_TXCNT, 07_camera_intake.md. -/
def CAM_TXCNT : Rg := ⟨0x087008, 1, 0x0, 1, 0x0⟩
def CAM_TXCNT_FRAMES : Fld := ⟨CAM_TXCNT, 0, 16⟩
def CAM_TXCNT_TRUNC : Fld := ⟨CAM_TXCNT, 16, 16⟩
/-- CAM_TXEVENT, 07_camera_intake.md. -/
def CAM_TXEVENT : Rg := ⟨0x08700C, 1, 0x0, 1, 0x0⟩
def CAM_TXEVENT_TRUNC : Fld := ⟨CAM_TXEVENT, 0, 1⟩
def CAM_TXEVENT_CFG_REJECT : Fld := ⟨CAM_TXEVENT, 1, 1⟩
def CAM_TXEVENT_CFG_APPLIED : Fld := ⟨CAM_TXEVENT, 2, 1⟩
/-- CAM_TXINT_EN, 07_camera_intake.md. -/
def CAM_TXINT_EN : Rg := ⟨0x087010, 1, 0x0, 1, 0x0⟩
def CAM_TXINT_EN_EN : Fld := ⟨CAM_TXINT_EN, 0, 3⟩

/-! ### Block ISP -/

/-- ISP_LPCTRL, 08_image_pipeline.md. -/
def ISP_LPCTRL : Rg := ⟨0x091000, 6, 0x1000, 1, 0x0⟩
def ISP_LPCTRL_COMMIT : Fld := ⟨ISP_LPCTRL, 0, 1⟩
def ISP_LPCTRL_EN : Fld := ⟨ISP_LPCTRL, 1, 1⟩
/-- ISP_LPPB, 08_image_pipeline.md. -/
def ISP_LPPB : Rg := ⟨0x091004, 6, 0x1000, 1, 0x0⟩
def ISP_LPPB_BASE : Fld := ⟨ISP_LPPB, 6, 18⟩
/-- ISP_LPREF, 08_image_pipeline.md. -/
def ISP_LPREF : Rg := ⟨0x091008, 6, 0x1000, 1, 0x0⟩
def ISP_LPREF_REFBASE : Fld := ⟨ISP_LPREF, 0, 22⟩
/-- ISP_LPSTAT, 08_image_pipeline.md. -/
def ISP_LPSTAT : Rg := ⟨0x09100C, 6, 0x1000, 1, 0x0⟩
def ISP_LPSTAT_STATE : Fld := ⟨ISP_LPSTAT, 0, 2⟩
def ISP_LPSTAT_CRED : Fld := ⟨ISP_LPSTAT, 2, 2⟩
def ISP_LPSTAT_REFVALID : Fld := ⟨ISP_LPSTAT, 4, 1⟩
def ISP_LPSTAT_REJ_CAUSE : Fld := ⟨ISP_LPSTAT, 8, 4⟩
/-- ISP_LPEVENT, 08_image_pipeline.md. -/
def ISP_LPEVENT : Rg := ⟨0x091010, 6, 0x1000, 1, 0x0⟩
def ISP_LPEVENT_EVT : Fld := ⟨ISP_LPEVENT, 0, 6⟩
/-- ISP_LPINT_EN, 08_image_pipeline.md. -/
def ISP_LPINT_EN : Rg := ⟨0x091014, 6, 0x1000, 1, 0x0⟩
def ISP_LPINT_EN_EN : Fld := ⟨ISP_LPINT_EN, 0, 6⟩
/-- ISP_LPCNT, 08_image_pipeline.md. -/
def ISP_LPCNT : Rg := ⟨0x091018, 6, 0x1000, 1, 0x0⟩
def ISP_LPCNT_TRUNC : Fld := ⟨ISP_LPCNT, 0, 16⟩
def ISP_LPCNT_REFMISS : Fld := ⟨ISP_LPCNT, 16, 16⟩
/-- ISP_LPCNT2, 08_image_pipeline.md. -/
def ISP_LPCNT2 : Rg := ⟨0x09101C, 6, 0x1000, 1, 0x0⟩
def ISP_LPCNT2_GEOMSKIP : Fld := ⟨ISP_LPCNT2, 0, 16⟩
def ISP_LPCNT2_DEFBAD : Fld := ⟨ISP_LPCNT2, 16, 8⟩
def ISP_LPCNT2_RADMISS : Fld := ⟨ISP_LPCNT2, 24, 8⟩
/-- ISP_LPDEF, 08_image_pipeline.md. -/
def ISP_LPDEF : Rg := ⟨0x091020, 6, 0x1000, 1, 0x0⟩
def ISP_LPDEF_DEFDYN : Fld := ⟨ISP_LPDEF, 0, 20⟩
/-- ISP_LPREFRND, 08_image_pipeline.md. -/
def ISP_LPREFRND : Rg := ⟨0x091024, 6, 0x1000, 1, 0x0⟩
def ISP_LPREFRND_RND : Fld := ⟨ISP_LPREFRND, 0, 32⟩
/-- ISP_RPSTAT, 08_image_pipeline.md. -/
def ISP_RPSTAT : Rg := ⟨0x098000, 2, 0x1000, 1, 0x0⟩
def ISP_RPSTAT_BUSY : Fld := ⟨ISP_RPSTAT, 0, 1⟩
def ISP_RPSTAT_CTX : Fld := ⟨ISP_RPSTAT, 4, 4⟩
/-- ISP_RPEVENT, 08_image_pipeline.md. -/
def ISP_RPEVENT : Rg := ⟨0x098004, 2, 0x1000, 1, 0x0⟩
def ISP_RPEVENT_EVT : Fld := ⟨ISP_RPEVENT, 0, 5⟩
/-- ISP_RPINT_EN, 08_image_pipeline.md. -/
def ISP_RPINT_EN : Rg := ⟨0x098008, 2, 0x1000, 1, 0x0⟩
def ISP_RPINT_EN_EN : Fld := ⟨ISP_RPINT_EN, 0, 5⟩
/-- ISP_RPKICK, 08_image_pipeline.md. -/
def ISP_RPKICK : Rg := ⟨0x09800C, 2, 0x1000, 1, 0x0⟩
def ISP_RPKICK_KICK : Fld := ⟨ISP_RPKICK, 0, 16⟩
/-- ISP_RPCNT, 08_image_pipeline.md. -/
def ISP_RPCNT : Rg := ⟨0x098010, 2, 0x1000, 1, 0x0⟩
def ISP_RPCNT_FRAMES : Fld := ⟨ISP_RPCNT, 0, 16⟩
def ISP_RPCNT_FAIL : Fld := ⟨ISP_RPCNT, 16, 16⟩
/-- ISP_RPCCTRL_c, 08_image_pipeline.md. -/
def ISP_RPCCTRL : Rg := ⟨0x098100, 2, 0x1000, 16, 0x20⟩
def ISP_RPCCTRL_COMMIT : Fld := ⟨ISP_RPCCTRL, 0, 1⟩
def ISP_RPCCTRL_EN : Fld := ⟨ISP_RPCCTRL, 1, 1⟩
def ISP_RPCCTRL_SRCSEL : Fld := ⟨ISP_RPCCTRL, 2, 1⟩
/-- ISP_RPCPB_c, 08_image_pipeline.md. -/
def ISP_RPCPB : Rg := ⟨0x098104, 2, 0x1000, 16, 0x20⟩
def ISP_RPCPB_BASE : Fld := ⟨ISP_RPCPB, 6, 18⟩
/-- ISP_RPCSRC_c, 08_image_pipeline.md. -/
def ISP_RPCSRC : Rg := ⟨0x098108, 2, 0x1000, 16, 0x20⟩
def ISP_RPCSRC_BASE : Fld := ⟨ISP_RPCSRC, 0, 22⟩
/-- ISP_RPCSRCSZ_c, 08_image_pipeline.md. -/
def ISP_RPCSRCSZ : Rg := ⟨0x09810C, 2, 0x1000, 16, 0x20⟩
def ISP_RPCSRCSZ_NBUF : Fld := ⟨ISP_RPCSRCSZ, 0, 10⟩
def ISP_RPCSRCSZ_STRIDE : Fld := ⟨ISP_RPCSRCSZ, 12, 20⟩
/-- ISP_RPCSTAT_c, 08_image_pipeline.md. -/
def ISP_RPCSTAT : Rg := ⟨0x098110, 2, 0x1000, 16, 0x20⟩
def ISP_RPCSTAT_CODE : Fld := ⟨ISP_RPCSTAT, 0, 4⟩
def ISP_RPCSTAT_REJ_CAUSE : Fld := ⟨ISP_RPCSTAT, 4, 4⟩
/-- ISP_RPCSEQ_c, 08_image_pipeline.md. -/
def ISP_RPCSEQ : Rg := ⟨0x098114, 2, 0x1000, 16, 0x20⟩
def ISP_RPCSEQ_SEQ : Fld := ⟨ISP_RPCSEQ, 0, 32⟩

/-! ### Block MESH -/

/-- MESH_CTRL, 09_grid_and_markers.md. -/
def MESH_CTRL : Rg := ⟨0x400000, 1, 0x0, 1, 0x0⟩
def MESH_CTRL_COMMIT : Fld := ⟨MESH_CTRL, 0, 1⟩
/-- MESH_STATUS, 09_grid_and_markers.md. -/
def MESH_STATUS : Rg := ⟨0x400004, 1, 0x0, 1, 0x0⟩
def MESH_STATUS_RSVACT : Fld := ⟨MESH_STATUS, 0, 1⟩
def MESH_STATUS_REJ_CAUSE : Fld := ⟨MESH_STATUS, 4, 4⟩
/-- MESH_EVENT, 09_grid_and_markers.md. -/
def MESH_EVENT : Rg := ⟨0x400008, 1, 0x0, 1, 0x0⟩
def MESH_EVENT_EVT : Fld := ⟨MESH_EVENT, 0, 8⟩
/-- MESH_INT_EN, 09_grid_and_markers.md. -/
def MESH_INT_EN : Rg := ⟨0x40000C, 1, 0x0, 1, 0x0⟩
def MESH_INT_EN_EN : Fld := ⟨MESH_INT_EN, 0, 8⟩
/-- MESH_CNT, 09_grid_and_markers.md. -/
def MESH_CNT : Rg := ⟨0x400010, 1, 0x0, 1, 0x0⟩
def MESH_CNT_DEMOTE : Fld := ⟨MESH_CNT, 0, 16⟩
def MESH_CNT_BADSRC : Fld := ⟨MESH_CNT, 16, 16⟩
/-- MESH_RSVSEL, 09_grid_and_markers.md. -/
def MESH_RSVSEL : Rg := ⟨0x400014, 1, 0x0, 1, 0x0⟩
def MESH_RSVSEL_LINK : Fld := ⟨MESH_RSVSEL, 0, 8⟩
def MESH_RSVSEL_STITCH : Fld := ⟨MESH_RSVSEL, 8, 14⟩
/-- MESH_RSVDATA, 09_grid_and_markers.md. -/
def MESH_RSVDATA : Rg := ⟨0x400018, 1, 0x0, 1, 0x0⟩
def MESH_RSVDATA_UNITS : Fld := ⟨MESH_RSVDATA, 0, 13⟩
/-- MESH_TRK_n, 09_grid_and_markers.md. -/
def MESH_TRK : Rg := ⟨0x400100, 32, 0x4, 1, 0x0⟩
def MESH_TRK_INUSE : Fld := ⟨MESH_TRK, 0, 6⟩
def MESH_TRK_HWM : Fld := ⟨MESH_TRK, 8, 6⟩

/-! ### Block PURL -/

/-- PURL_CFG, 09_grid_and_markers.md. -/
def PURL_CFG : Rg := ⟨0x401000, 1, 0x0, 1, 0x0⟩
def PURL_CFG_RPTHR : Fld := ⟨PURL_CFG, 0, 8⟩
def PURL_CFG_RTMAX : Fld := ⟨PURL_CFG, 8, 3⟩
/-- PURL_STAT_l, 09_grid_and_markers.md. -/
def PURL_STAT : Rg := ⟨0x401010, 6, 0x10, 1, 0x0⟩
def PURL_STAT_STATE : Fld := ⟨PURL_STAT, 0, 2⟩
def PURL_STAT_CONV : Fld := ⟨PURL_STAT, 2, 1⟩
def PURL_STAT_FAILS : Fld := ⟨PURL_STAT, 8, 3⟩
/-- PURL_CNT_l, 09_grid_and_markers.md. -/
def PURL_CNT : Rg := ⟨0x401014, 6, 0x10, 1, 0x0⟩
def PURL_CNT_REPLAY : Fld := ⟨PURL_CNT, 0, 16⟩
def PURL_CNT_RETRAIN : Fld := ⟨PURL_CNT, 16, 8⟩

/-! ### Block MRK -/

/-- MRK_HOPCMD, 09_grid_and_markers.md. -/
def MRK_HOPCMD : Rg := ⟨0x040000, 1, 0x0, 1, 0x0⟩
def MRK_HOPCMD_MARKER : Fld := ⟨MRK_HOPCMD, 0, 8⟩
def MRK_HOPCMD_OP : Fld := ⟨MRK_HOPCMD, 8, 3⟩
/-- MRK_HOPARG, 09_grid_and_markers.md. -/
def MRK_HOPARG : Rg := ⟨0x040004, 1, 0x0, 1, 0x0⟩
def MRK_HOPARG_ARG : Fld := ⟨MRK_HOPARG, 0, 32⟩
/-- MRK_HOPRES, 09_grid_and_markers.md. -/
def MRK_HOPRES : Rg := ⟨0x040008, 1, 0x0, 1, 0x0⟩
def MRK_HOPRES_STATUS : Fld := ⟨MRK_HOPRES, 0, 4⟩
def MRK_HOPRES_OWNER : Fld := ⟨MRK_HOPRES, 4, 8⟩
def MRK_HOPRES_OVL : Fld := ⟨MRK_HOPRES, 29, 1⟩
def MRK_HOPRES_BUSY : Fld := ⟨MRK_HOPRES, 30, 1⟩
def MRK_HOPRES_DONE : Fld := ⟨MRK_HOPRES, 31, 1⟩
/-- MRK_HOPVAL, 09_grid_and_markers.md. -/
def MRK_HOPVAL : Rg := ⟨0x04000C, 1, 0x0, 1, 0x0⟩
def MRK_HOPVAL_VALUE : Fld := ⟨MRK_HOPVAL, 0, 32⟩
/-- MRK_EVENT, 09_grid_and_markers.md. -/
def MRK_EVENT : Rg := ⟨0x040010, 1, 0x0, 1, 0x0⟩
def MRK_EVENT_EVT : Fld := ⟨MRK_EVENT, 0, 3⟩
/-- MRK_INT_EN, 09_grid_and_markers.md. -/
def MRK_INT_EN : Rg := ⟨0x040014, 1, 0x0, 1, 0x0⟩
def MRK_INT_EN_EN : Fld := ⟨MRK_INT_EN, 0, 3⟩
/-- MRK_CNT, 09_grid_and_markers.md. -/
def MRK_CNT : Rg := ⟨0x040018, 1, 0x0, 1, 0x0⟩
def MRK_CNT_TIMEOUT : Fld := ⟨MRK_CNT, 0, 16⟩
def MRK_CNT_FORCED : Fld := ⟨MRK_CNT, 16, 16⟩
/-- MRK_VAL_k, 09_grid_and_markers.md. -/
def MRK_VAL : Rg := ⟨0x041000, 256, 0x4, 1, 0x0⟩
def MRK_VAL_VALUE : Fld := ⟨MRK_VAL, 0, 32⟩
/-- MRK_STAT_k, 09_grid_and_markers.md. -/
def MRK_STAT : Rg := ⟨0x041400, 256, 0x4, 1, 0x0⟩
def MRK_STAT_OWNER : Fld := ⟨MRK_STAT, 0, 8⟩
def MRK_STAT_OVF : Fld := ⟨MRK_STAT, 8, 1⟩
def MRK_STAT_HFRZ : Fld := ⟨MRK_STAT, 9, 1⟩
def MRK_STAT_WAITERS : Fld := ⟨MRK_STAT, 16, 11⟩
/-- MRK_CFG_k, 09_grid_and_markers.md. -/
def MRK_CFG : Rg := ⟨0x042000, 256, 0x4, 1, 0x0⟩
def MRK_CFG_LEASE : Fld := ⟨MRK_CFG, 0, 16⟩

/-! ### Block CORE -/

/-- CORE_CTRL, 10_core.md. -/
def CORE_CTRL : Rg := ⟨0x100000, 32, 0x10000, 1, 0x0⟩
def CORE_CTRL_COMMIT : Fld := ⟨CORE_CTRL, 0, 1⟩
def CORE_CTRL_ABORT : Fld := ⟨CORE_CTRL, 1, 1⟩
def CORE_CTRL_GO : Fld := ⟨CORE_CTRL, 2, 1⟩
/-- CORE_STATUS, 10_core.md. -/
def CORE_STATUS : Rg := ⟨0x100004, 32, 0x10000, 1, 0x0⟩
def CORE_STATUS_STATE : Fld := ⟨CORE_STATUS, 0, 3⟩
def CORE_STATUS_SRC : Fld := ⟨CORE_STATUS, 3, 2⟩
def CORE_STATUS_REJ_CAUSE : Fld := ⟨CORE_STATUS, 8, 4⟩
/-- CORE_EVENT, 10_core.md. -/
def CORE_EVENT : Rg := ⟨0x100008, 32, 0x10000, 1, 0x0⟩
def CORE_EVENT_EVT : Fld := ⟨CORE_EVENT, 0, 6⟩
/-- CORE_INT_EN, 10_core.md. -/
def CORE_INT_EN : Rg := ⟨0x10000C, 32, 0x10000, 1, 0x0⟩
def CORE_INT_EN_EN : Fld := ⟨CORE_INT_EN, 0, 6⟩
/-- CORE_PC, 10_core.md. -/
def CORE_PC : Rg := ⟨0x100010, 32, 0x10000, 1, 0x0⟩
def CORE_PC_PC : Fld := ⟨CORE_PC, 0, 16⟩
/-- CORE_JOBCUR, 10_core.md. -/
def CORE_JOBCUR : Rg := ⟨0x100014, 32, 0x10000, 1, 0x0⟩
def CORE_JOBCUR_JOB : Fld := ⟨CORE_JOBCUR, 0, 11⟩
def CORE_JOBCUR_GROUP : Fld := ⟨CORE_JOBCUR, 16, 16⟩
/-- CORE_JOBST, 10_core.md. -/
def CORE_JOBST : Rg := ⟨0x100018, 32, 0x10000, 1, 0x0⟩
def CORE_JOBST_STATUS : Fld := ⟨CORE_JOBST, 0, 3⟩
def CORE_JOBST_USER : Fld := ⟨CORE_JOBST, 4, 8⟩
def CORE_JOBST_EXC : Fld := ⟨CORE_JOBST, 12, 4⟩
/-- CORE_JOBCYC, 10_core.md. -/
def CORE_JOBCYC : Rg := ⟨0x10001C, 32, 0x10000, 1, 0x0⟩
def CORE_JOBCYC_CYC : Fld := ⟨CORE_JOBCYC, 0, 32⟩
/-- CORE_EXCPC, 10_core.md. -/
def CORE_EXCPC : Rg := ⟨0x100020, 32, 0x10000, 1, 0x0⟩
def CORE_EXCPC_PC : Fld := ⟨CORE_EXCPC, 0, 16⟩
/-- CORE_EXCADDR, 10_core.md. -/
def CORE_EXCADDR : Rg := ⟨0x100024, 32, 0x10000, 1, 0x0⟩
def CORE_EXCADDR_ADDR : Fld := ⟨CORE_EXCADDR, 0, 32⟩
/-- CORE_WDT, 10_core.md. -/
def CORE_WDT : Rg := ⟨0x100028, 32, 0x10000, 1, 0x0⟩
def CORE_WDT_PERIOD : Fld := ⟨CORE_WDT, 0, 16⟩
/-- CORE_START_ENTRY, 10_core.md. -/
def CORE_START_ENTRY : Rg := ⟨0x10002C, 32, 0x10000, 1, 0x0⟩
def CORE_START_ENTRY_ENTRY : Fld := ⟨CORE_START_ENTRY, 2, 14⟩
/-- CORE_START_ARG, 10_core.md. -/
def CORE_START_ARG : Rg := ⟨0x100030, 32, 0x10000, 1, 0x0⟩
def CORE_START_ARG_ARG : Fld := ⟨CORE_START_ARG, 0, 32⟩
/-- CORE_CNT, 10_core.md. -/
def CORE_CNT : Rg := ⟨0x100034, 32, 0x10000, 1, 0x0⟩
def CORE_CNT_FAULTS : Fld := ⟨CORE_CNT, 0, 16⟩
def CORE_CNT_ECCCOR : Fld := ⟨CORE_CNT, 16, 16⟩
/-- CORE_CHFLUSH, 10_core.md. -/
def CORE_CHFLUSH : Rg := ⟨0x100038, 32, 0x10000, 1, 0x0⟩
def CORE_CHFLUSH_FLUSH : Fld := ⟨CORE_CHFLUSH, 0, 16⟩
/-- CORE_CHCFG_c, 10_core.md. -/
def CORE_CHCFG : Rg := ⟨0x100100, 32, 0x10000, 16, 0x8⟩
def CORE_CHCFG_EN : Fld := ⟨CORE_CHCFG, 0, 1⟩
def CORE_CHCFG_SRC : Fld := ⟨CORE_CHCFG, 1, 6⟩
def CORE_CHCFG_NSLOT : Fld := ⟨CORE_CHCFG, 8, 6⟩
def CORE_CHCFG_BASE : Fld := ⟨CORE_CHCFG, 16, 12⟩
/-- CORE_CHSTAT_c, 10_core.md. -/
def CORE_CHSTAT : Rg := ⟨0x100104, 32, 0x10000, 16, 0x8⟩
def CORE_CHSTAT_FLUSHSEQ : Fld := ⟨CORE_CHSTAT, 0, 8⟩
def CORE_CHSTAT_DRAIN : Fld := ⟨CORE_CHSTAT, 8, 1⟩
def CORE_CHSTAT_READY : Fld := ⟨CORE_CHSTAT, 16, 7⟩
def CORE_CHSTAT_DRAINCNT : Fld := ⟨CORE_CHSTAT, 24, 8⟩
/-- CORE_MTXFOLD, 11_matrix_unit.md. -/
def CORE_MTXFOLD : Rg := ⟨0x100040, 32, 0x10000, 1, 0x0⟩
def CORE_MTXFOLD_MODE : Fld := ⟨CORE_MTXFOLD, 0, 2⟩
def CORE_MTXFOLD_PACK : Fld := ⟨CORE_MTXFOLD, 2, 2⟩
def CORE_MTXFOLD_SPLIT : Fld := ⟨CORE_MTXFOLD, 4, 2⟩
def CORE_MTXFOLD_ACCUM : Fld := ⟨CORE_MTXFOLD, 6, 1⟩
def CORE_MTXFOLD_S : Fld := ⟨CORE_MTXFOLD, 8, 11⟩
/-- CORE_MTXPASS, 11_matrix_unit.md. -/
def CORE_MTXPASS : Rg := ⟨0x100044, 32, 0x10000, 1, 0x0⟩
def CORE_MTXPASS_P : Fld := ⟨CORE_MTXPASS, 0, 16⟩
def CORE_MTXPASS_ROUNDS : Fld := ⟨CORE_MTXPASS, 16, 8⟩
/-- CORE_MTXIDEAL, 11_matrix_unit.md. -/
def CORE_MTXIDEAL : Rg := ⟨0x100048, 32, 0x10000, 1, 0x0⟩
def CORE_MTXIDEAL_I : Fld := ⟨CORE_MTXIDEAL, 0, 32⟩
/-- CORE_MTXCHK, 11_matrix_unit.md. -/
def CORE_MTXCHK : Rg := ⟨0x10004C, 32, 0x10000, 1, 0x0⟩
def CORE_MTXCHK_VALID : Fld := ⟨CORE_MTXCHK, 0, 1⟩
def CORE_MTXCHK_UNIT : Fld := ⟨CORE_MTXCHK, 1, 1⟩
def CORE_MTXCHK_ARRAY : Fld := ⟨CORE_MTXCHK, 2, 2⟩
def CORE_MTXCHK_SUB : Fld := ⟨CORE_MTXCHK, 4, 2⟩
def CORE_MTXCHK_KIND : Fld := ⟨CORE_MTXCHK, 6, 1⟩
def CORE_MTXCHK_PASS : Fld := ⟨CORE_MTXCHK, 16, 16⟩
/-- CORE_MTXCHKD, 11_matrix_unit.md. -/
def CORE_MTXCHKD : Rg := ⟨0x100050, 32, 0x10000, 1, 0x0⟩
def CORE_MTXCHKD_DIFF : Fld := ⟨CORE_MTXCHKD, 0, 32⟩
/-- CORE_MTXCHKT, 11_matrix_unit.md. -/
def CORE_MTXCHKT : Rg := ⟨0x100054, 32, 0x10000, 1, 0x0⟩
def CORE_MTXCHKT_TAU : Fld := ⟨CORE_MTXCHKT, 0, 32⟩
/-- CORE_MTXCNT, 11_matrix_unit.md. -/
def CORE_MTXCNT : Rg := ⟨0x100058, 32, 0x10000, 1, 0x0⟩
def CORE_MTXCNT_SKIP : Fld := ⟨CORE_MTXCNT, 0, 16⟩
def CORE_MTXCNT_IOVF : Fld := ⟨CORE_MTXCNT, 16, 16⟩
/-- CORE_OUTNAN, 12_number_formats.md. -/
def CORE_OUTNAN : Rg := ⟨0x100060, 32, 0x10000, 1, 0x0⟩
def CORE_OUTNAN_VALID : Fld := ⟨CORE_OUTNAN, 0, 1⟩
def CORE_OUTNAN_OP : Fld := ⟨CORE_OUTNAN, 16, 16⟩
/-- CORE_OUTNANP, 12_number_formats.md. -/
def CORE_OUTNANP : Rg := ⟨0x100064, 32, 0x10000, 1, 0x0⟩
def CORE_OUTNANP_ROW : Fld := ⟨CORE_OUTNANP, 0, 16⟩
def CORE_OUTNANP_COL : Fld := ⟨CORE_OUTNANP, 16, 16⟩
/-- CORE_OUTCNT, 12_number_formats.md. -/
def CORE_OUTCNT : Rg := ⟨0x100068, 32, 0x10000, 1, 0x0⟩
def CORE_OUTCNT_NANOPS : Fld := ⟨CORE_OUTCNT, 0, 16⟩
def CORE_OUTCNT_SATOPS : Fld := ⟨CORE_OUTCNT, 16, 16⟩

/-! ### Block SOL -/

/-- SOL_CTRL, 13_solver_engine.md. -/
def SOL_CTRL : Rg := ⟨0x300000, 2, 0x10000, 1, 0x0⟩
def SOL_CTRL_ABORT : Fld := ⟨SOL_CTRL, 0, 1⟩
/-- SOL_STATUS, 13_solver_engine.md. -/
def SOL_STATUS : Rg := ⟨0x300004, 2, 0x10000, 1, 0x0⟩
def SOL_STATUS_STATE : Fld := ⟨SOL_STATUS, 0, 2⟩
def SOL_STATUS_SLOT : Fld := ⟨SOL_STATUS, 2, 5⟩
def SOL_STATUS_QUEUED : Fld := ⟨SOL_STATUS, 8, 6⟩
/-- SOL_EVENT, 13_solver_engine.md. -/
def SOL_EVENT : Rg := ⟨0x300008, 2, 0x10000, 1, 0x0⟩
def SOL_EVENT_EVT : Fld := ⟨SOL_EVENT, 0, 10⟩
/-- SOL_INT_EN, 13_solver_engine.md. -/
def SOL_INT_EN : Rg := ⟨0x30000C, 2, 0x10000, 1, 0x0⟩
def SOL_INT_EN_EN : Fld := ⟨SOL_INT_EN, 0, 10⟩
/-- SOL_CNT, 13_solver_engine.md. -/
def SOL_CNT : Rg := ⟨0x300010, 2, 0x10000, 1, 0x0⟩
def SOL_CNT_BADSRC : Fld := ⟨SOL_CNT, 0, 12⟩
def SOL_CNT_BADIN : Fld := ⟨SOL_CNT, 12, 12⟩
def SOL_CNT_SENDLOST : Fld := ⟨SOL_CNT, 24, 8⟩
/-- SOL_WDT, 13_solver_engine.md. -/
def SOL_WDT : Rg := ⟨0x300014, 2, 0x10000, 1, 0x0⟩
def SOL_WDT_PERIOD : Fld := ⟨SOL_WDT, 0, 16⟩
/-- SOL_INFLUSH, 13_solver_engine.md. -/
def SOL_INFLUSH : Rg := ⟨0x300018, 2, 0x10000, 1, 0x0⟩
def SOL_INFLUSH_FLUSH : Fld := ⟨SOL_INFLUSH, 0, 16⟩
/-- SOL_INCFG_c, 13_solver_engine.md. -/
def SOL_INCFG : Rg := ⟨0x301000, 2, 0x10000, 16, 0x8⟩
def SOL_INCFG_EN : Fld := ⟨SOL_INCFG, 0, 1⟩
def SOL_INCFG_SRC : Fld := ⟨SOL_INCFG, 1, 5⟩
/-- SOL_INSTAT_c, 13_solver_engine.md. -/
def SOL_INSTAT : Rg := ⟨0x301004, 2, 0x10000, 16, 0x8⟩
def SOL_INSTAT_FLUSHSEQ : Fld := ⟨SOL_INSTAT, 0, 8⟩
def SOL_INSTAT_DRAIN : Fld := ⟨SOL_INSTAT, 8, 1⟩
def SOL_INSTAT_HELD : Fld := ⟨SOL_INSTAT, 9, 1⟩
def SOL_INSTAT_DRAINCNT : Fld := ⟨SOL_INSTAT, 16, 8⟩
/-- SOL_SLOTCTRL, 13_solver_engine.md. -/
def SOL_SLOTCTRL : Rg := ⟨0x302000, 2, 0x10000, 32, 0x40⟩
def SOL_SLOTCTRL_COMMIT : Fld := ⟨SOL_SLOTCTRL, 0, 1⟩
def SOL_SLOTCTRL_RESET : Fld := ⟨SOL_SLOTCTRL, 1, 1⟩
def SOL_SLOTCTRL_PGCOMMIT : Fld := ⟨SOL_SLOTCTRL, 2, 1⟩
def SOL_SLOTCTRL_KICK : Fld := ⟨SOL_SLOTCTRL, 3, 1⟩
/-- SOL_SLOTCFG, 13_solver_engine.md. -/
def SOL_SLOTCFG : Rg := ⟨0x302004, 2, 0x10000, 32, 0x40⟩
def SOL_SLOTCFG_EN : Fld := ⟨SOL_SLOTCFG, 0, 1⟩
def SOL_SLOTCFG_MODE : Fld := ⟨SOL_SLOTCFG, 1, 1⟩
def SOL_SLOTCFG_KERNEL : Fld := ⟨SOL_SLOTCFG, 2, 2⟩
def SOL_SLOTCFG_UPPER : Fld := ⟨SOL_SLOTCFG, 4, 1⟩
def SOL_SLOTCFG_RES : Fld := ⟨SOL_SLOTCFG, 5, 1⟩
def SOL_SLOTCFG_STALE : Fld := ⟨SOL_SLOTCFG, 6, 1⟩
def SOL_SLOTCFG_SENDEN : Fld := ⟨SOL_SLOTCFG, 7, 1⟩
def SOL_SLOTCFG_CLASS : Fld := ⟨SOL_SLOTCFG, 8, 2⟩
def SOL_SLOTCFG_MRKEN : Fld := ⟨SOL_SLOTCFG, 10, 1⟩
def SOL_SLOTCFG_HOSTEN : Fld := ⟨SOL_SLOTCFG, 11, 1⟩
/-- SOL_SLOTDIM, 13_solver_engine.md. -/
def SOL_SLOTDIM : Rg := ⟨0x302008, 2, 0x10000, 32, 0x40⟩
def SOL_SLOTDIM_M : Fld := ⟨SOL_SLOTDIM, 0, 7⟩
def SOL_SLOTDIM_N : Fld := ⟨SOL_SLOTDIM, 8, 7⟩
def SOL_SLOTDIM_R : Fld := ⟨SOL_SLOTDIM, 16, 4⟩
/-- SOL_SLOTPROG, 13_solver_engine.md. -/
def SOL_SLOTPROG : Rg := ⟨0x30200C, 2, 0x10000, 32, 0x40⟩
def SOL_SLOTPROG_BASE : Fld := ⟨SOL_SLOTPROG, 6, 15⟩
/-- SOL_SLOTPG, 13_solver_engine.md. -/
def SOL_SLOTPG : Rg := ⟨0x302010, 2, 0x10000, 32, 0x40⟩
def SOL_SLOTPG_PGA : Fld := ⟨SOL_SLOTPG, 0, 15⟩
def SOL_SLOTPG_PGB : Fld := ⟨SOL_SLOTPG, 16, 15⟩
/-- SOL_SLOTSZ, 13_solver_engine.md. -/
def SOL_SLOTSZ : Rg := ⟨0x302014, 2, 0x10000, 32, 0x40⟩
def SOL_SLOTSZ_PGSIZE : Fld := ⟨SOL_SLOTSZ, 0, 8⟩
def SOL_SLOTSZ_OUTSIZE : Fld := ⟨SOL_SLOTSZ, 8, 8⟩
def SOL_SLOTSZ_WARMSIZE : Fld := ⟨SOL_SLOTSZ, 16, 8⟩
/-- SOL_SLOTOUT, 13_solver_engine.md. -/
def SOL_SLOTOUT : Rg := ⟨0x302018, 2, 0x10000, 32, 0x40⟩
def SOL_SLOTOUT_OUT : Fld := ⟨SOL_SLOTOUT, 0, 15⟩
/-- SOL_SLOTWARM, 13_solver_engine.md. -/
def SOL_SLOTWARM : Rg := ⟨0x30201C, 2, 0x10000, 32, 0x40⟩
def SOL_SLOTWARM_WARM : Fld := ⟨SOL_SLOTWARM, 0, 15⟩
def SOL_SLOTWARM_MAXGAP : Fld := ⟨SOL_SLOTWARM, 24, 8⟩
/-- SOL_SLOTPIV, 13_solver_engine.md. -/
def SOL_SLOTPIV : Rg := ⟨0x302020, 2, 0x10000, 32, 0x40⟩
def SOL_SLOTPIV_TAU_EXP : Fld := ⟨SOL_SLOTPIV, 0, 8⟩
def SOL_SLOTPIV_DELTA_EXP : Fld := ⟨SOL_SLOTPIV, 8, 8⟩
/-- SOL_SLOTDST, 13_solver_engine.md. -/
def SOL_SLOTDST : Rg := ⟨0x302024, 2, 0x10000, 32, 0x40⟩
def SOL_SLOTDST_DCORE : Fld := ⟨SOL_SLOTDST, 0, 5⟩
def SOL_SLOTDST_DCHAN : Fld := ⟨SOL_SLOTDST, 8, 4⟩
def SOL_SLOTDST_MRK : Fld := ⟨SOL_SLOTDST, 12, 8⟩
def SOL_SLOTDST_OUTSEND : Fld := ⟨SOL_SLOTDST, 20, 12⟩
/-- SOL_SLOTARG, 13_solver_engine.md. -/
def SOL_SLOTARG : Rg := ⟨0x302028, 2, 0x10000, 32, 0x40⟩
def SOL_SLOTARG_ARG : Fld := ⟨SOL_SLOTARG, 0, 32⟩
/-- SOL_SLOTSTAT, 13_solver_engine.md. -/
def SOL_SLOTSTAT : Rg := ⟨0x30202C, 2, 0x10000, 32, 0x40⟩
def SOL_SLOTSTAT_CPAGE : Fld := ⟨SOL_SLOTSTAT, 0, 1⟩
def SOL_SLOTSTAT_LOCK : Fld := ⟨SOL_SLOTSTAT, 1, 1⟩
def SOL_SLOTSTAT_LPAGE : Fld := ⟨SOL_SLOTSTAT, 2, 1⟩
def SOL_SLOTSTAT_WARMV : Fld := ⟨SOL_SLOTSTAT, 3, 1⟩
def SOL_SLOTSTAT_REJ_CAUSE : Fld := ⟨SOL_SLOTSTAT, 4, 4⟩
def SOL_SLOTSTAT_LAST : Fld := ⟨SOL_SLOTSTAT, 8, 3⟩
/-- SOL_SLOTSEQ, 13_solver_engine.md. -/
def SOL_SLOTSEQ : Rg := ⟨0x302030, 2, 0x10000, 32, 0x40⟩
def SOL_SLOTSEQ_SEQ : Fld := ⟨SOL_SLOTSEQ, 0, 16⟩
def SOL_SLOTSEQ_CMT : Fld := ⟨SOL_SLOTSEQ, 16, 16⟩
/-- SOL_SLOTWCET, 13_solver_engine.md. -/
def SOL_SLOTWCET : Rg := ⟨0x302034, 2, 0x10000, 32, 0x40⟩
def SOL_SLOTWCET_W : Fld := ⟨SOL_SLOTWCET, 0, 32⟩

/-! ### Block CMD -/

/-- CMD_EVENT, 15_host_and_commands.md. -/
def CMD_EVENT : Rg := ⟨0x010000, 1, 0x0, 1, 0x0⟩
def CMD_EVENT_RING_ERR : Fld := ⟨CMD_EVENT, 0, 1⟩
def CMD_EVENT_DOORBELL : Fld := ⟨CMD_EVENT, 1, 1⟩
def CMD_EVENT_STDROP : Fld := ⟨CMD_EVENT, 2, 1⟩
def CMD_EVENT_CFG_IGNORED : Fld := ⟨CMD_EVENT, 3, 1⟩
/-- CMD_INT_EN, 15_host_and_commands.md. -/
def CMD_INT_EN : Rg := ⟨0x010004, 1, 0x0, 1, 0x0⟩
def CMD_INT_EN_EN : Fld := ⟨CMD_INT_EN, 0, 4⟩
/-- CMD_SBASE_LO, 15_host_and_commands.md. -/
def CMD_SBASE_LO : Rg := ⟨0x010008, 1, 0x0, 1, 0x0⟩
def CMD_SBASE_LO_BASE : Fld := ⟨CMD_SBASE_LO, 6, 26⟩
/-- CMD_SBASE_HI, 15_host_and_commands.md. -/
def CMD_SBASE_HI : Rg := ⟨0x01000C, 1, 0x0, 1, 0x0⟩
def CMD_SBASE_HI_BASE : Fld := ⟨CMD_SBASE_HI, 0, 32⟩
/-- CMD_SCFG, 15_host_and_commands.md. -/
def CMD_SCFG : Rg := ⟨0x010010, 1, 0x0, 1, 0x0⟩
def CMD_SCFG_EN : Fld := ⟨CMD_SCFG, 0, 1⟩
def CMD_SCFG_SIZE : Fld := ⟨CMD_SCFG, 4, 4⟩
/-- CMD_SPROD, 15_host_and_commands.md. -/
def CMD_SPROD : Rg := ⟨0x010014, 1, 0x0, 1, 0x0⟩
def CMD_SPROD_SPROD : Fld := ⟨CMD_SPROD, 0, 16⟩
/-- CMD_SCONS, 15_host_and_commands.md. -/
def CMD_SCONS : Rg := ⟨0x010018, 1, 0x0, 1, 0x0⟩
def CMD_SCONS_SCONS : Fld := ⟨CMD_SCONS, 0, 16⟩
/-- CMD_STDROP, 15_host_and_commands.md. -/
def CMD_STDROP : Rg := ⟨0x01001C, 1, 0x0, 1, 0x0⟩
def CMD_STDROP_DROP : Fld := ⟨CMD_STDROP, 0, 16⟩
def CMD_STDROP_HDROP : Fld := ⟨CMD_STDROP, 16, 16⟩
/-- CMD_JOBPOST_i, 15_host_and_commands.md. -/
def CMD_JOBPOST : Rg := ⟨0x010020, 8, 0x4, 1, 0x0⟩
def CMD_JOBPOST_GROUP : Fld := ⟨CMD_JOBPOST, 0, 16⟩
def CMD_JOBPOST_EN : Fld := ⟨CMD_JOBPOST, 16, 1⟩
/-- CMD_CTRL_k, 15_host_and_commands.md. -/
def CMD_CTRL : Rg := ⟨0x010100, 4, 0x40, 1, 0x0⟩
def CMD_CTRL_EN : Fld := ⟨CMD_CTRL, 0, 1⟩
def CMD_CTRL_FLUSH : Fld := ⟨CMD_CTRL, 1, 1⟩
/-- CMD_STATE_k, 15_host_and_commands.md. -/
def CMD_STATE : Rg := ⟨0x010104, 4, 0x40, 1, 0x0⟩
def CMD_STATE_STATE : Fld := ⟨CMD_STATE, 0, 2⟩
def CMD_STATE_PARTIAL : Fld := ⟨CMD_STATE, 2, 1⟩
def CMD_STATE_CPLWAIT : Fld := ⟨CMD_STATE, 3, 1⟩
def CMD_STATE_ERRCAUSE : Fld := ⟨CMD_STATE, 4, 3⟩
def CMD_STATE_BUSY : Fld := ⟨CMD_STATE, 7, 1⟩
def CMD_STATE_LASTSEQ : Fld := ⟨CMD_STATE, 16, 16⟩
/-- CMD_RBASE_LO_k, 15_host_and_commands.md. -/
def CMD_RBASE_LO : Rg := ⟨0x010108, 4, 0x40, 1, 0x0⟩
def CMD_RBASE_LO_BASE : Fld := ⟨CMD_RBASE_LO, 6, 26⟩
/-- CMD_RBASE_HI_k, 15_host_and_commands.md. -/
def CMD_RBASE_HI : Rg := ⟨0x01010C, 4, 0x40, 1, 0x0⟩
def CMD_RBASE_HI_BASE : Fld := ⟨CMD_RBASE_HI, 0, 32⟩
/-- CMD_CBASE_LO_k, 15_host_and_commands.md. -/
def CMD_CBASE_LO : Rg := ⟨0x010110, 4, 0x40, 1, 0x0⟩
def CMD_CBASE_LO_BASE : Fld := ⟨CMD_CBASE_LO, 6, 26⟩
/-- CMD_CBASE_HI_k, 15_host_and_commands.md. -/
def CMD_CBASE_HI : Rg := ⟨0x010114, 4, 0x40, 1, 0x0⟩
def CMD_CBASE_HI_BASE : Fld := ⟨CMD_CBASE_HI, 0, 32⟩
/-- CMD_RCFG_k, 15_host_and_commands.md. -/
def CMD_RCFG : Rg := ⟨0x010118, 4, 0x40, 1, 0x0⟩
def CMD_RCFG_SIZE : Fld := ⟨CMD_RCFG, 0, 4⟩
/-- CMD_PROD_k, 15_host_and_commands.md. -/
def CMD_PROD : Rg := ⟨0x01011C, 4, 0x40, 1, 0x0⟩
def CMD_PROD_PROD : Fld := ⟨CMD_PROD, 0, 16⟩
/-- CMD_CONS_k, 15_host_and_commands.md. -/
def CMD_CONS : Rg := ⟨0x010120, 4, 0x40, 1, 0x0⟩
def CMD_CONS_CONS : Fld := ⟨CMD_CONS, 0, 16⟩
/-- CMD_CCONS_k, 15_host_and_commands.md. -/
def CMD_CCONS : Rg := ⟨0x010124, 4, 0x40, 1, 0x0⟩
def CMD_CCONS_CCONS : Fld := ⟨CMD_CCONS, 0, 16⟩
/-- CMD_CPROD_k, 15_host_and_commands.md. -/
def CMD_CPROD : Rg := ⟨0x010128, 4, 0x40, 1, 0x0⟩
def CMD_CPROD_CPROD : Fld := ⟨CMD_CPROD, 0, 16⟩
/-- CMD_FLUSHSEQ_k, 15_host_and_commands.md. -/
def CMD_FLUSHSEQ : Rg := ⟨0x01012C, 4, 0x40, 1, 0x0⟩
def CMD_FLUSHSEQ_SEQ : Fld := ⟨CMD_FLUSHSEQ, 0, 16⟩
def CMD_FLUSHSEQ_DRAIN : Fld := ⟨CMD_FLUSHSEQ, 16, 1⟩
def CMD_FLUSHSEQ_REMAIN : Fld := ⟨CMD_FLUSHSEQ, 17, 6⟩
/-- CMD_DRAINCNT_k, 15_host_and_commands.md. -/
def CMD_DRAINCNT : Rg := ⟨0x010130, 4, 0x40, 1, 0x0⟩
def CMD_DRAINCNT_WORDS : Fld := ⟨CMD_DRAINCNT, 0, 32⟩

/-! ### Block SEC -/

/-- SEC_STATUS, 15_host_and_commands.md. -/
def SEC_STATUS : Rg := ⟨0x0E0000, 1, 0x0, 1, 0x0⟩
def SEC_STATUS_JCKSET : Fld := ⟨SEC_STATUS, 0, 1⟩
def SEC_STATUS_LOCKKEY : Fld := ⟨SEC_STATUS, 1, 1⟩
def SEC_STATUS_LOCKJCK : Fld := ⟨SEC_STATUS, 2, 1⟩
def SEC_STATUS_CLRBLK : Fld := ⟨SEC_STATUS, 3, 1⟩
def SEC_STATUS_RNGFAIL : Fld := ⟨SEC_STATUS, 4, 1⟩
def SEC_STATUS_MINSVN : Fld := ⟨SEC_STATUS, 16, 16⟩
/-- SEC_KEYSLOT, 15_host_and_commands.md. -/
def SEC_KEYSLOT : Rg := ⟨0x0E0004, 1, 0x0, 1, 0x0⟩
def SEC_KEYSLOT_LOADED : Fld := ⟨SEC_KEYSLOT, 0, 32⟩
/-- SEC_EVENT, 15_host_and_commands.md. -/
def SEC_EVENT : Rg := ⟨0x0E0008, 1, 0x0, 1, 0x0⟩
def SEC_EVENT_EVT : Fld := ⟨SEC_EVENT, 0, 9⟩
/-- SEC_INT_EN, 15_host_and_commands.md. -/
def SEC_INT_EN : Rg := ⟨0x0E000C, 1, 0x0, 1, 0x0⟩
def SEC_INT_EN_EN : Fld := ⟨SEC_INT_EN, 0, 9⟩
/-- SEC_CNT, 15_host_and_commands.md. -/
def SEC_CNT : Rg := ⟨0x0E0010, 1, 0x0, 1, 0x0⟩
def SEC_CNT_DENIED : Fld := ⟨SEC_CNT, 0, 16⟩
def SEC_CNT_CLRFAIL : Fld := ⟨SEC_CNT, 16, 16⟩

/-! ### Block FBR -/

/-- FBR_ERRACK, 16_field_bridge.md. -/
def FBR_ERRACK : Rg := ⟨0x0A0000, 1, 0x0, 1, 0x0⟩
def FBR_ERRACK_ACK : Fld := ⟨FBR_ERRACK, 0, 16⟩
/-- FBR_STATUS, 16_field_bridge.md. -/
def FBR_STATUS : Rg := ⟨0x0A0004, 1, 0x0, 1, 0x0⟩
def FBR_STATUS_BLOCKED : Fld := ⟨FBR_STATUS, 0, 16⟩
def FBR_STATUS_CFG_MISMATCH : Fld := ⟨FBR_STATUS, 16, 1⟩
def FBR_STATUS_RTCAUSE : Fld := ⟨FBR_STATUS, 17, 3⟩
def FBR_STATUS_RTIDX : Fld := ⟨FBR_STATUS, 24, 8⟩
/-- FBR_EVENT, 16_field_bridge.md. -/
def FBR_EVENT : Rg := ⟨0x0A0008, 1, 0x0, 1, 0x0⟩
def FBR_EVENT_EVT : Fld := ⟨FBR_EVENT, 0, 7⟩
/-- FBR_INT_EN, 16_field_bridge.md. -/
def FBR_INT_EN : Rg := ⟨0x0A000C, 1, 0x0, 1, 0x0⟩
def FBR_INT_EN_EN : Fld := ⟨FBR_INT_EN, 0, 7⟩
/-- FBR_CFG, 16_field_bridge.md. -/
def FBR_CFG : Rg := ⟨0x0A0010, 1, 0x0, 1, 0x0⟩
def FBR_CFG_ACKTMO : Fld := ⟨FBR_CFG, 0, 10⟩
def FBR_CFG_BUSYRETRY : Fld := ⟨FBR_CFG, 10, 3⟩
def FBR_CFG_RDTMO : Fld := ⟨FBR_CFG, 16, 10⟩
/-- FBR_OCC, 16_field_bridge.md. -/
def FBR_OCC : Rg := ⟨0x0A0014, 1, 0x0, 1, 0x0⟩
def FBR_OCC_POSTED : Fld := ⟨FBR_OCC, 0, 7⟩
def FBR_OCC_READS : Fld := ⟨FBR_OCC, 8, 5⟩
/-- FBR_CNT, 16_field_bridge.md. -/
def FBR_CNT : Rg := ⟨0x0A0018, 1, 0x0, 1, 0x0⟩
def FBR_CNT_ELOST : Fld := ⟨FBR_CNT, 0, 16⟩
def FBR_CNT_LATEACK : Fld := ⟨FBR_CNT, 16, 16⟩
/-- FBR_ELOG0, 16_field_bridge.md. -/
def FBR_ELOG0 : Rg := ⟨0x0A001C, 1, 0x0, 1, 0x0⟩
def FBR_ELOG0_WIN : Fld := ⟨FBR_ELOG0, 0, 4⟩
def FBR_ELOG0_CAUSE : Fld := ⟨FBR_ELOG0, 4, 5⟩
def FBR_ELOG0_READ : Fld := ⟨FBR_ELOG0, 9, 1⟩
def FBR_ELOG0_ROUTE : Fld := ⟨FBR_ELOG0, 10, 1⟩
def FBR_ELOG0_WSEQ : Fld := ⟨FBR_ELOG0, 11, 16⟩
def FBR_ELOG0_VALID : Fld := ⟨FBR_ELOG0, 31, 1⟩
/-- FBR_ELOG1, 16_field_bridge.md. -/
def FBR_ELOG1 : Rg := ⟨0x0A0020, 1, 0x0, 1, 0x0⟩
def FBR_ELOG1_ADDR : Fld := ⟨FBR_ELOG1, 0, 32⟩
/-- FBR_ELOG2, 16_field_bridge.md. -/
def FBR_ELOG2 : Rg := ⟨0x0A0024, 1, 0x0, 1, 0x0⟩
def FBR_ELOG2_ID : Fld := ⟨FBR_ELOG2, 0, 16⟩
def FBR_ELOG2_RND : Fld := ⟨FBR_ELOG2, 16, 16⟩
/-- FBR_WCFG_w, 16_field_bridge.md. -/
def FBR_WCFG : Rg := ⟨0x0A1000, 16, 0x20, 1, 0x0⟩
def FBR_WCFG_EN : Fld := ⟨FBR_WCFG, 0, 1⟩
def FBR_WCFG_LANE : Fld := ⟨FBR_WCFG, 1, 2⟩
def FBR_WCFG_STRICT : Fld := ⟨FBR_WCFG, 3, 1⟩
def FBR_WCFG_WDEPTH : Fld := ⟨FBR_WCFG, 4, 6⟩
def FBR_WCFG_HID : Fld := ⟨FBR_WCFG, 16, 16⟩
/-- FBR_WBASE_w, 16_field_bridge.md. -/
def FBR_WBASE : Rg := ⟨0x0A1004, 16, 0x20, 1, 0x0⟩
def FBR_WBASE_HBASE : Fld := ⟨FBR_WBASE, 0, 32⟩
/-- FBR_WCTRL_w, 16_field_bridge.md. -/
def FBR_WCTRL : Rg := ⟨0x0A1008, 16, 0x20, 1, 0x0⟩
def FBR_WCTRL_COMMIT : Fld := ⟨FBR_WCTRL, 0, 1⟩
def FBR_WCTRL_FLUSH : Fld := ⟨FBR_WCTRL, 1, 1⟩
/-- FBR_WSTAT_w, 16_field_bridge.md. -/
def FBR_WSTAT : Rg := ⟨0x0A100C, 16, 0x20, 1, 0x0⟩
def FBR_WSTAT_FLUSHSEQ : Fld := ⟨FBR_WSTAT, 0, 16⟩
def FBR_WSTAT_BLOCKED : Fld := ⟨FBR_WSTAT, 16, 1⟩
def FBR_WSTAT_CWAIT : Fld := ⟨FBR_WSTAT, 17, 1⟩
def FBR_WSTAT_REJ_CAUSE : Fld := ⟨FBR_WSTAT, 20, 4⟩
def FBR_WSTAT_HELD : Fld := ⟨FBR_WSTAT, 24, 7⟩
/-- FBR_WCNT_w, 16_field_bridge.md. -/
def FBR_WCNT : Rg := ⟨0x0A1010, 16, 0x20, 1, 0x0⟩
def FBR_WCNT_DRAINCNT : Fld := ⟨FBR_WCNT, 0, 16⟩
def FBR_WCNT_ERRS : Fld := ⟨FBR_WCNT, 16, 16⟩
/-- FBR_RTKEY_i, 16_field_bridge.md. -/
def FBR_RTKEY : Rg := ⟨0x0A2000, 256, 0x8, 1, 0x0⟩
def FBR_RTKEY_INID : Fld := ⟨FBR_RTKEY, 0, 16⟩
def FBR_RTKEY_PORT : Fld := ⟨FBR_RTKEY, 16, 3⟩
def FBR_RTKEY_VALID : Fld := ⟨FBR_RTKEY, 31, 1⟩
/-- FBR_RTDST_i, 16_field_bridge.md. -/
def FBR_RTDST : Rg := ⟨0x0A2004, 256, 0x8, 1, 0x0⟩
def FBR_RTDST_KIND : Fld := ⟨FBR_RTDST, 0, 2⟩
def FBR_RTDST_DCORE_or_WIN : Fld := ⟨FBR_RTDST, 2, 5⟩
def FBR_RTDST_NSLOT : Fld := ⟨FBR_RTDST, 7, 3⟩
def FBR_RTDST_BASE : Fld := ⟨FBR_RTDST, 10, 14⟩
def FBR_RTDST_MRK : Fld := ⟨FBR_RTDST, 24, 8⟩
/-- FBR_HINT_p, 16_field_bridge.md. -/
def FBR_HINT : Rg := ⟨0x0A3000, 6, 0x8, 1, 0x0⟩
def FBR_HINT_LINE : Fld := ⟨FBR_HINT, 0, 32⟩
/-- FBR_HINTEN_p, 16_field_bridge.md. -/
def FBR_HINTEN : Rg := ⟨0x0A3004, 6, 0x8, 1, 0x0⟩
def FBR_HINTEN_EN : Fld := ⟨FBR_HINTEN, 0, 32⟩
/-- FBR_HDATA_p_l, 16_field_bridge.md. -/
def FBR_HDATA : Rg := ⟨0x0A4000, 6, 0x80, 32, 0x4⟩
def FBR_HDATA_DATA : Fld := ⟨FBR_HDATA, 0, 32⟩

/-! ### Block CHK -/

/-- CHK_CTRL, 17_check_units.md. -/
def CHK_CTRL : Rg := ⟨0x0B0000, 8, 0x1000, 1, 0x0⟩
def CHK_CTRL_COMMIT : Fld := ⟨CHK_CTRL, 0, 1⟩
def CHK_CTRL_START : Fld := ⟨CHK_CTRL, 1, 1⟩
def CHK_CTRL_CHECK : Fld := ⟨CHK_CTRL, 2, 1⟩
/-- CHK_CFG, 17_check_units.md. -/
def CHK_CFG : Rg := ⟨0x0B0004, 8, 0x1000, 1, 0x0⟩
def CHK_CFG_EN : Fld := ⟨CHK_CFG, 0, 1⟩
def CHK_CFG_POLY : Fld := ⟨CHK_CFG, 1, 2⟩
def CHK_CFG_MODE : Fld := ⟨CHK_CFG, 3, 1⟩
def CHK_CFG_ORDER : Fld := ⟨CHK_CFG, 4, 1⟩
def CHK_CFG_TORDER : Fld := ⟨CHK_CFG, 5, 1⟩
def CHK_CFG_INITSEL : Fld := ⟨CHK_CFG, 6, 1⟩
def CHK_CFG_GEN : Fld := ⟨CHK_CFG, 7, 1⟩
def CHK_CFG_GW : Fld := ⟨CHK_CFG, 8, 1⟩
def CHK_CFG_GNIB : Fld := ⟨CHK_CFG, 9, 1⟩
/-- CHK_INIT, 17_check_units.md. -/
def CHK_INIT : Rg := ⟨0x0B0008, 8, 0x1000, 1, 0x0⟩
def CHK_INIT_INIT : Fld := ⟨CHK_INIT, 0, 32⟩
/-- CHK_LEN, 17_check_units.md. -/
def CHK_LEN : Rg := ⟨0x0B000C, 8, 0x1000, 1, 0x0⟩
def CHK_LEN_LEN : Fld := ⟨CHK_LEN, 0, 16⟩
/-- CHK_GOFS, 17_check_units.md. -/
def CHK_GOFS : Rg := ⟨0x0B0010, 8, 0x1000, 1, 0x0⟩
def CHK_GOFS_GOFS : Fld := ⟨CHK_GOFS, 0, 16⟩
/-- CHK_DATA, 17_check_units.md. -/
def CHK_DATA : Rg := ⟨0x0B0014, 8, 0x1000, 1, 0x0⟩
def CHK_DATA_DATA : Fld := ⟨CHK_DATA, 0, 32⟩
/-- CHK_EXPECT, 17_check_units.md. -/
def CHK_EXPECT : Rg := ⟨0x0B0018, 8, 0x1000, 1, 0x0⟩
def CHK_EXPECT_EXPECT : Fld := ⟨CHK_EXPECT, 0, 32⟩
/-- CHK_RESULT, 17_check_units.md. -/
def CHK_RESULT : Rg := ⟨0x0B001C, 8, 0x1000, 1, 0x0⟩
def CHK_RESULT_RESULT : Fld := ⟨CHK_RESULT, 0, 32⟩
/-- CHK_COUNT, 17_check_units.md. -/
def CHK_COUNT : Rg := ⟨0x0B0020, 8, 0x1000, 1, 0x0⟩
def CHK_COUNT_COUNT : Fld := ⟨CHK_COUNT, 0, 32⟩
/-- CHK_STATUS, 17_check_units.md. -/
def CHK_STATUS : Rg := ⟨0x0B0024, 8, 0x1000, 1, 0x0⟩
def CHK_STATUS_BUSY : Fld := ⟨CHK_STATUS, 0, 1⟩
def CHK_STATUS_QCOUNT : Fld := ⟨CHK_STATUS, 1, 5⟩
def CHK_STATUS_LASTOK : Fld := ⟨CHK_STATUS, 6, 1⟩
def CHK_STATUS_CFG_MISMATCH : Fld := ⟨CHK_STATUS, 7, 1⟩
def CHK_STATUS_REJ_CAUSE : Fld := ⟨CHK_STATUS, 8, 2⟩
def CHK_STATUS_GVALID : Fld := ⟨CHK_STATUS, 10, 1⟩
def CHK_STATUS_GLAST : Fld := ⟨CHK_STATUS, 16, 8⟩
/-- CHK_EVENT, 17_check_units.md. -/
def CHK_EVENT : Rg := ⟨0x0B0028, 8, 0x1000, 1, 0x0⟩
def CHK_EVENT_EVT : Fld := ⟨CHK_EVENT, 0, 7⟩
/-- CHK_INT_EN, 17_check_units.md. -/
def CHK_INT_EN : Rg := ⟨0x0B002C, 8, 0x1000, 1, 0x0⟩
def CHK_INT_EN_EN : Fld := ⟨CHK_INT_EN, 0, 7⟩
/-- CHK_CNT, 17_check_units.md. -/
def CHK_CNT : Rg := ⟨0x0B0030, 8, 0x1000, 1, 0x0⟩
def CHK_CNT_BLOCKS : Fld := ⟨CHK_CNT, 0, 16⟩
def CHK_CNT_MISMATCH : Fld := ⟨CHK_CNT, 16, 16⟩
/-- CHK_GCNT, 17_check_units.md. -/
def CHK_GCNT : Rg := ⟨0x0B0034, 8, 0x1000, 1, 0x0⟩
def CHK_GCNT_REPEAT : Fld := ⟨CHK_GCNT, 0, 16⟩
def CHK_GCNT_SKIP : Fld := ⟨CHK_GCNT, 16, 16⟩
/-- CHK_SUMMARY, 17_check_units.md. -/
def CHK_SUMMARY : Rg := ⟨0x0B8000, 1, 0x0, 1, 0x0⟩
def CHK_SUMMARY_UNIT : Fld := ⟨CHK_SUMMARY, 0, 8⟩

/-! ### Block JRN -/

/-- JRN_CTRL, 18_event_journal.md. -/
def JRN_CTRL : Rg := ⟨0x0C0000, 1, 0x0, 1, 0x0⟩
def JRN_CTRL_COMMIT : Fld := ⟨JRN_CTRL, 0, 1⟩
def JRN_CTRL_SNAPSHOT : Fld := ⟨JRN_CTRL, 1, 1⟩
def JRN_CTRL_FLUSH : Fld := ⟨JRN_CTRL, 2, 1⟩
/-- JRN_CFG, 18_event_journal.md. -/
def JRN_CFG : Rg := ⟨0x0C0004, 1, 0x0, 1, 0x0⟩
def JRN_CFG_EQOVR : Fld := ⟨JRN_CFG, 0, 1⟩
def JRN_CFG_NOREN : Fld := ⟨JRN_CFG, 1, 1⟩
def JRN_CFG_FLTHR : Fld := ⟨JRN_CFG, 8, 8⟩
/-- JRN_NORBASE, 18_event_journal.md. -/
def JRN_NORBASE : Rg := ⟨0x0C0008, 1, 0x0, 1, 0x0⟩
def JRN_NORBASE_BASE : Fld := ⟨JRN_NORBASE, 12, 20⟩
/-- JRN_NORGEO, 18_event_journal.md. -/
def JRN_NORGEO : Rg := ⟨0x0C000C, 1, 0x0, 1, 0x0⟩
def JRN_NORGEO_SECT : Fld := ⟨JRN_NORGEO, 0, 1⟩
def JRN_NORGEO_NOSUS : Fld := ⟨JRN_NORGEO, 1, 1⟩
def JRN_NORGEO_NSECT : Fld := ⟨JRN_NORGEO, 16, 13⟩
/-- JRN_NORT, 18_event_journal.md. -/
def JRN_NORT : Rg := ⟨0x0C0010, 1, 0x0, 1, 0x0⟩
def JRN_NORT_TPP : Fld := ⟨JRN_NORT, 0, 10⟩
def JRN_NORT_TSE : Fld := ⟨JRN_NORT, 10, 6⟩
def JRN_NORT_TSUS : Fld := ⟨JRN_NORT, 16, 10⟩
/-- JRN_STATUS, 18_event_journal.md. -/
def JRN_STATUS : Rg := ⟨0x0C0014, 1, 0x0, 1, 0x0⟩
def JRN_STATUS_NORST : Fld := ⟨JRN_STATUS, 0, 2⟩
def JRN_STATUS_FLUSHING : Fld := ⟨JRN_STATUS, 2, 1⟩
def JRN_STATUS_ERASING : Fld := ⟨JRN_STATUS, 3, 1⟩
def JRN_STATUS_SUSP : Fld := ⟨JRN_STATUS, 4, 1⟩
def JRN_STATUS_CLEARING : Fld := ⟨JRN_STATUS, 5, 1⟩
def JRN_STATUS_REJ_CAUSE : Fld := ⟨JRN_STATUS, 8, 4⟩
def JRN_STATUS_SUPCODES : Fld := ⟨JRN_STATUS, 16, 9⟩
/-- JRN_EVENT, 18_event_journal.md. -/
def JRN_EVENT : Rg := ⟨0x0C0018, 1, 0x0, 1, 0x0⟩
def JRN_EVENT_EVT : Fld := ⟨JRN_EVENT, 0, 8⟩
/-- JRN_INT_EN, 18_event_journal.md. -/
def JRN_INT_EN : Rg := ⟨0x0C001C, 1, 0x0, 1, 0x0⟩
def JRN_INT_EN_EN : Fld := ⟨JRN_INT_EN, 0, 8⟩
/-- JRN_RATE_s, 18_event_journal.md. -/
def JRN_RATE : Rg := ⟨0x0C0020, 8, 0x4, 1, 0x0⟩
def JRN_RATE_RATE : Fld := ⟨JRN_RATE, 0, 8⟩
def JRN_RATE_BURST : Fld := ⟨JRN_RATE, 8, 8⟩
/-- JRN_SNAP_FIRST, 18_event_journal.md. -/
def JRN_SNAP_FIRST : Rg := ⟨0x0C0040, 1, 0x0, 1, 0x0⟩
def JRN_SNAP_FIRST_SEQ : Fld := ⟨JRN_SNAP_FIRST, 0, 32⟩
/-- JRN_SNAP_LAST, 18_event_journal.md. -/
def JRN_SNAP_LAST : Rg := ⟨0x0C0044, 1, 0x0, 1, 0x0⟩
def JRN_SNAP_LAST_SEQ : Fld := ⟨JRN_SNAP_LAST, 0, 32⟩
/-- JRN_NEXTSEQ, 18_event_journal.md. -/
def JRN_NEXTSEQ : Rg := ⟨0x0C0048, 1, 0x0, 1, 0x0⟩
def JRN_NEXTSEQ_SEQ : Fld := ⟨JRN_NEXTSEQ, 0, 32⟩
/-- JRN_FLUSHED, 18_event_journal.md. -/
def JRN_FLUSHED : Rg := ⟨0x0C004C, 1, 0x0, 1, 0x0⟩
def JRN_FLUSHED_SEQ : Fld := ⟨JRN_FLUSHED, 0, 32⟩
/-- JRN_EPOCH, 18_event_journal.md. -/
def JRN_EPOCH : Rg := ⟨0x0C0050, 1, 0x0, 1, 0x0⟩
def JRN_EPOCH_EPOCH : Fld := ⟨JRN_EPOCH, 0, 32⟩
/-- JRN_COUNT, 18_event_journal.md. -/
def JRN_COUNT : Rg := ⟨0x0C0054, 1, 0x0, 1, 0x0⟩
def JRN_COUNT_HELD : Fld := ⟨JRN_COUNT, 0, 14⟩
def JRN_COUNT_UNFL : Fld := ⟨JRN_COUNT, 16, 14⟩
/-- JRN_NORACT, 18_event_journal.md. -/
def JRN_NORACT : Rg := ⟨0x0C0058, 1, 0x0, 1, 0x0⟩
def JRN_NORACT_SECTOR : Fld := ⟨JRN_NORACT, 0, 12⟩
def JRN_NORACT_SLOT : Fld := ⟨JRN_NORACT, 16, 11⟩
/-- JRN_DIRTY, 18_event_journal.md. -/
def JRN_DIRTY : Rg := ⟨0x0C005C, 1, 0x0, 1, 0x0⟩
def JRN_DIRTY_COUNT : Fld := ⟨JRN_DIRTY, 0, 13⟩
/-- JRN_LOST0, 18_event_journal.md. -/
def JRN_LOST0 : Rg := ⟨0x0C0060, 1, 0x0, 1, 0x0⟩
def JRN_LOST0_LOST3 : Fld := ⟨JRN_LOST0, 24, 8⟩
def JRN_LOST0_LOST2 : Fld := ⟨JRN_LOST0, 16, 8⟩
def JRN_LOST0_LOST1 : Fld := ⟨JRN_LOST0, 8, 8⟩
def JRN_LOST0_LOST0 : Fld := ⟨JRN_LOST0, 0, 8⟩
/-- JRN_LOST1, 18_event_journal.md. -/
def JRN_LOST1 : Rg := ⟨0x0C0064, 1, 0x0, 1, 0x0⟩
def JRN_LOST1_LOST3 : Fld := ⟨JRN_LOST1, 24, 8⟩
def JRN_LOST1_LOST2 : Fld := ⟨JRN_LOST1, 16, 8⟩
def JRN_LOST1_LOST1 : Fld := ⟨JRN_LOST1, 8, 8⟩
def JRN_LOST1_LOST0 : Fld := ⟨JRN_LOST1, 0, 8⟩

/-! ### Block PWR -/

/-- PWR_CASTON, 19_cast_on_and_bind_off.md. -/
def PWR_CASTON : Rg := ⟨0x0D1000, 1, 0x0, 1, 0x0⟩
def PWR_CASTON_PHASE : Fld := ⟨PWR_CASTON, 0, 4⟩
def PWR_CASTON_FAIL : Fld := ⟨PWR_CASTON, 4, 3⟩
def PWR_CASTON_DEGRADED : Fld := ⟨PWR_CASTON, 7, 1⟩
def PWR_CASTON_SRC : Fld := ⟨PWR_CASTON, 8, 2⟩
def PWR_CASTON_SLOT : Fld := ⟨PWR_CASTON, 10, 1⟩
def PWR_CASTON_SE0DROP : Fld := ⟨PWR_CASTON, 11, 1⟩
def PWR_CASTON_SE1DROP : Fld := ⟨PWR_CASTON, 12, 1⟩
/-- PWR_RSTCAUSE, 19_cast_on_and_bind_off.md. -/
def PWR_RSTCAUSE : Rg := ⟨0x0D1004, 1, 0x0, 1, 0x0⟩
def PWR_RSTCAUSE_LAST : Fld := ⟨PWR_RSTCAUSE, 0, 3⟩
def PWR_RSTCAUSE_PREV : Fld := ⟨PWR_RSTCAUSE, 4, 3⟩
def PWR_RSTCAUSE_COUNT : Fld := ⟨PWR_RSTCAUSE, 16, 16⟩
/-- PWR_RSTCTL, 19_cast_on_and_bind_off.md. -/
def PWR_RSTCTL : Rg := ⟨0x0D1008, 1, 0x0, 1, 0x0⟩
def PWR_RSTCTL_ACTION : Fld := ⟨PWR_RSTCTL, 0, 2⟩
def PWR_RSTCTL_KEY : Fld := ⟨PWR_RSTCTL, 16, 16⟩
/-- PWR_BOOTCTL, 19_cast_on_and_bind_off.md. -/
def PWR_BOOTCTL : Rg := ⟨0x0D100C, 1, 0x0, 1, 0x0⟩
def PWR_BOOTCTL_GO : Fld := ⟨PWR_BOOTCTL, 0, 1⟩
/-- PWR_SWATCH, 19_cast_on_and_bind_off.md. -/
def PWR_SWATCH : Rg := ⟨0x0D1010, 1, 0x0, 1, 0x0⟩
def PWR_SWATCH_CORE : Fld := ⟨PWR_SWATCH, 0, 32⟩
/-- PWR_BOCTRL, 19_cast_on_and_bind_off.md. -/
def PWR_BOCTRL : Rg := ⟨0x0D1014, 1, 0x0, 1, 0x0⟩
def PWR_BOCTRL_COMMIT : Fld := ⟨PWR_BOCTRL, 0, 1⟩
def PWR_BOCTRL_TEST : Fld := ⟨PWR_BOCTRL, 1, 1⟩
def PWR_BOCTRL_KEY : Fld := ⟨PWR_BOCTRL, 16, 16⟩
/-- PWR_BOCFG, 19_cast_on_and_bind_off.md. -/
def PWR_BOCFG : Rg := ⟨0x0D1018, 1, 0x0, 1, 0x0⟩
def PWR_BOCFG_SOLMAX : Fld := ⟨PWR_BOCFG, 0, 10⟩
/-- PWR_BOWARM_e, 19_cast_on_and_bind_off.md. -/
def PWR_BOWARM : Rg := ⟨0x0D1020, 2, 0x4, 1, 0x0⟩
def PWR_BOWARM_SLOTS : Fld := ⟨PWR_BOWARM, 0, 32⟩
/-- PWR_BOSTAT, 19_cast_on_and_bind_off.md. -/
def PWR_BOSTAT : Rg := ⟨0x0D1028, 1, 0x0, 1, 0x0⟩
def PWR_BOSTAT_TPLAN : Fld := ⟨PWR_BOSTAT, 0, 16⟩
def PWR_BOSTAT_OVER : Fld := ⟨PWR_BOSTAT, 16, 1⟩
def PWR_BOSTAT_BOREADY : Fld := ⟨PWR_BOSTAT, 17, 1⟩
def PWR_BOSTAT_STAGE : Fld := ⟨PWR_BOSTAT, 18, 3⟩
/-- PWR_BORESTORE, 19_cast_on_and_bind_off.md. -/
def PWR_BORESTORE : Rg := ⟨0x0D102C, 1, 0x0, 1, 0x0⟩
def PWR_BORESTORE_VALID : Fld := ⟨PWR_BORESTORE, 0, 1⟩
def PWR_BORESTORE_NSLOT : Fld := ⟨PWR_BORESTORE, 16, 16⟩
/-- PWR_HCTRL, 20_health_and_failure.md. -/
def PWR_HCTRL : Rg := ⟨0x0D0000, 1, 0x0, 1, 0x0⟩
def PWR_HCTRL_COMMIT : Fld := ⟨PWR_HCTRL, 0, 1⟩
/-- PWR_HCFG, 20_health_and_failure.md. -/
def PWR_HCFG : Rg := ⟨0x0D0004, 1, 0x0, 1, 0x0⟩
def PWR_HCFG_CHKWIN : Fld := ⟨PWR_HCFG, 0, 16⟩
def PWR_HCFG_ECCTHR : Fld := ⟨PWR_HCFG, 16, 8⟩
def PWR_HCFG_PLACE_EN : Fld := ⟨PWR_HCFG, 24, 1⟩
/-- PWR_FENCE, 20_health_and_failure.md. -/
def PWR_FENCE : Rg := ⟨0x0D0008, 1, 0x0, 1, 0x0⟩
def PWR_FENCE_INDEX : Fld := ⟨PWR_FENCE, 0, 8⟩
def PWR_FENCE_KIND : Fld := ⟨PWR_FENCE, 8, 4⟩
def PWR_FENCE_ACTION : Fld := ⟨PWR_FENCE, 12, 2⟩
def PWR_FENCE_KEY : Fld := ⟨PWR_FENCE, 16, 16⟩
/-- PWR_FSTAT, 20_health_and_failure.md. -/
def PWR_FSTAT : Rg := ⟨0x0D000C, 1, 0x0, 1, 0x0⟩
def PWR_FSTAT_BUSY : Fld := ⟨PWR_FSTAT, 0, 1⟩
def PWR_FSTAT_RESULT : Fld := ⟨PWR_FSTAT, 1, 2⟩
def PWR_FSTAT_REJ_CAUSE : Fld := ⟨PWR_FSTAT, 4, 2⟩
/-- PWR_PLACEMASK, 20_health_and_failure.md. -/
def PWR_PLACEMASK : Rg := ⟨0x0D0010, 1, 0x0, 1, 0x0⟩
def PWR_PLACEMASK_CORES : Fld := ⟨PWR_PLACEMASK, 0, 32⟩
/-- PWR_DROP_CORE, 20_health_and_failure.md. -/
def PWR_DROP_CORE : Rg := ⟨0x0D0014, 1, 0x0, 1, 0x0⟩
def PWR_DROP_CORE_CORE : Fld := ⟨PWR_DROP_CORE, 0, 32⟩
/-- PWR_DROP_UNIT, 20_health_and_failure.md. -/
def PWR_DROP_UNIT : Rg := ⟨0x0D0018, 1, 0x0, 1, 0x0⟩
def PWR_DROP_UNIT_SE : Fld := ⟨PWR_DROP_UNIT, 0, 2⟩
def PWR_DROP_UNIT_CD : Fld := ⟨PWR_DROP_UNIT, 2, 2⟩
def PWR_DROP_UNIT_LP : Fld := ⟨PWR_DROP_UNIT, 4, 6⟩
def PWR_DROP_UNIT_RP : Fld := ⟨PWR_DROP_UNIT, 10, 2⟩
def PWR_DROP_UNIT_MOL : Fld := ⟨PWR_DROP_UNIT, 12, 6⟩
def PWR_DROP_UNIT_CAM : Fld := ⟨PWR_DROP_UNIT, 18, 6⟩
def PWR_DROP_UNIT_TX : Fld := ⟨PWR_DROP_UNIT, 24, 1⟩
def PWR_DROP_UNIT_WFM : Fld := ⟨PWR_DROP_UNIT, 25, 1⟩
/-- PWR_CHK1, 20_health_and_failure.md. -/
def PWR_CHK1 : Rg := ⟨0x0D001C, 1, 0x0, 1, 0x0⟩
def PWR_CHK1_CORE : Fld := ⟨PWR_CHK1, 0, 32⟩
/-- PWR_FLOG, 20_health_and_failure.md. -/
def PWR_FLOG : Rg := ⟨0x0D0020, 1, 0x0, 1, 0x0⟩
def PWR_FLOG_INDEX : Fld := ⟨PWR_FLOG, 0, 8⟩
def PWR_FLOG_KIND : Fld := ⟨PWR_FLOG, 8, 4⟩
def PWR_FLOG_CAUSE : Fld := ⟨PWR_FLOG, 12, 4⟩
def PWR_FLOG_RND : Fld := ⟨PWR_FLOG, 16, 15⟩
def PWR_FLOG_VALID : Fld := ⟨PWR_FLOG, 31, 1⟩
/-- PWR_EVENT, 20_health_and_failure.md. -/
def PWR_EVENT : Rg := ⟨0x0D0024, 1, 0x0, 1, 0x0⟩
def PWR_EVENT_EVT : Fld := ⟨PWR_EVENT, 0, 10⟩
/-- PWR_INT_EN, 20_health_and_failure.md. -/
def PWR_INT_EN : Rg := ⟨0x0D0028, 1, 0x0, 1, 0x0⟩
def PWR_INT_EN_EN : Fld := ⟨PWR_INT_EN, 0, 10⟩
/-- PWR_REFSTAT, 22_electrical_and_package.md. -/
def PWR_REFSTAT : Rg := ⟨0x0D3000, 1, 0x0, 1, 0x0⟩
def PWR_REFSTAT_LOST : Fld := ⟨PWR_REFSTAT, 0, 1⟩
def PWR_REFSTAT_PPMV : Fld := ⟨PWR_REFSTAT, 1, 1⟩
def PWR_REFSTAT_PPM : Fld := ⟨PWR_REFSTAT, 16, 16⟩
/-- PWR_RAILEVT, 22_electrical_and_package.md. -/
def PWR_RAILEVT : Rg := ⟨0x0D3004, 1, 0x0, 1, 0x0⟩
def PWR_RAILEVT_REFLOST : Fld := ⟨PWR_RAILEVT, 0, 1⟩
def PWR_RAILEVT_REFBACK : Fld := ⟨PWR_RAILEVT, 1, 1⟩
/-- PWR_RAILEN, 22_electrical_and_package.md. -/
def PWR_RAILEN : Rg := ⟨0x0D3008, 1, 0x0, 1, 0x0⟩
def PWR_RAILEN_EN : Fld := ⟨PWR_RAILEN, 0, 2⟩

/-! ### Block CLK -/

/-- CLK_CORE_n, 20_health_and_failure.md. -/
def CLK_CORE : Rg := ⟨0x0D2000, 32, 0x4, 1, 0x0⟩
def CLK_CORE_FREQ : Fld := ⟨CLK_CORE, 0, 11⟩
def CLK_CORE_VCODE : Fld := ⟨CLK_CORE, 12, 8⟩
def CLK_CORE_LIMIT : Fld := ⟨CLK_CORE, 20, 1⟩
def CLK_CORE_HOLD : Fld := ⟨CLK_CORE, 21, 1⟩

/-! ### Block TMP -/

/-- TMP_k, 20_health_and_failure.md. -/
def TMP : Rg := ⟨0x410000, 12, 0x4, 1, 0x0⟩
def TMP_TEMP : Fld := ⟨TMP, 0, 16⟩
def TMP_FAIL : Fld := ⟨TMP, 16, 1⟩
/-- TMP_LIM, 20_health_and_failure.md. -/
def TMP_LIM : Rg := ⟨0x410040, 1, 0x0, 1, 0x0⟩
def TMP_LIM_WSET : Fld := ⟨TMP_LIM, 0, 8⟩
def TMP_LIM_WCLR : Fld := ⟨TMP_LIM, 8, 8⟩
def TMP_LIM_CRIT : Fld := ⟨TMP_LIM, 16, 8⟩
def TMP_LIM_TRIP : Fld := ⟨TMP_LIM, 24, 8⟩
/-- TMP_STATUS, 20_health_and_failure.md. -/
def TMP_STATUS : Rg := ⟨0x410044, 1, 0x0, 1, 0x0⟩
def TMP_STATUS_HOT : Fld := ⟨TMP_STATUS, 0, 12⟩
def TMP_STATUS_CRIT : Fld := ⟨TMP_STATUS, 12, 1⟩
def TMP_STATUS_TRIP : Fld := ⟨TMP_STATUS, 13, 1⟩
def TMP_STATUS_CAP : Fld := ⟨TMP_STATUS, 14, 1⟩
def TMP_STATUS_CFG_MISMATCH : Fld := ⟨TMP_STATUS, 15, 1⟩
def TMP_STATUS_MAXIDX : Fld := ⟨TMP_STATUS, 16, 4⟩
/-- TMP_EVENT, 20_health_and_failure.md. -/
def TMP_EVENT : Rg := ⟨0x410048, 1, 0x0, 1, 0x0⟩
def TMP_EVENT_EVT : Fld := ⟨TMP_EVENT, 0, 9⟩
/-- TMP_INT_EN, 20_health_and_failure.md. -/
def TMP_INT_EN : Rg := ⟨0x41004C, 1, 0x0, 1, 0x0⟩
def TMP_INT_EN_EN : Fld := ⟨TMP_INT_EN, 0, 9⟩

/-! ### Block DBG -/

/-- DBG_CTRL, 21_debug.md. -/
def DBG_CTRL : Rg := ⟨0x0F0000, 1, 0x0, 1, 0x0⟩
def DBG_CTRL_ATTACH : Fld := ⟨DBG_CTRL, 0, 1⟩
def DBG_CTRL_SIDEFX : Fld := ⟨DBG_CTRL, 1, 1⟩
def DBG_CTRL_HALT_RELEASE : Fld := ⟨DBG_CTRL, 2, 1⟩
def DBG_CTRL_DRESET : Fld := ⟨DBG_CTRL, 3, 1⟩
def DBG_CTRL_KEY : Fld := ⟨DBG_CTRL, 16, 16⟩
/-- DBG_STATUS, 21_debug.md. -/
def DBG_STATUS : Rg := ⟨0x0F0004, 1, 0x0, 1, 0x0⟩
def DBG_STATUS_FUSEDIS : Fld := ⟨DBG_STATUS, 0, 1⟩
def DBG_STATUS_EXTEST : Fld := ⟨DBG_STATUS, 1, 1⟩
def DBG_STATUS_NOTHALTED : Fld := ⟨DBG_STATUS, 2, 1⟩
def DBG_STATUS_SEBUSY : Fld := ⟨DBG_STATUS, 3, 1⟩
/-- DBG_EVENT, 21_debug.md. -/
def DBG_EVENT : Rg := ⟨0x0F0008, 1, 0x0, 1, 0x0⟩
def DBG_EVENT_EVT : Fld := ⟨DBG_EVENT, 0, 8⟩
/-- DBG_INT_EN, 21_debug.md. -/
def DBG_INT_EN : Rg := ⟨0x0F000C, 1, 0x0, 1, 0x0⟩
def DBG_INT_EN_EN : Fld := ⟨DBG_INT_EN, 0, 8⟩
/-- DBG_HALT, 21_debug.md. -/
def DBG_HALT : Rg := ⟨0x0F0010, 1, 0x0, 1, 0x0⟩
def DBG_HALT_CORE : Fld := ⟨DBG_HALT, 0, 32⟩
/-- DBG_RESUME, 21_debug.md. -/
def DBG_RESUME : Rg := ⟨0x0F0014, 1, 0x0, 1, 0x0⟩
def DBG_RESUME_CORE : Fld := ⟨DBG_RESUME, 0, 32⟩
/-- DBG_HALTED, 21_debug.md. -/
def DBG_HALTED : Rg := ⟨0x0F0018, 1, 0x0, 1, 0x0⟩
def DBG_HALTED_CORE : Fld := ⟨DBG_HALTED, 0, 32⟩
/-- DBG_STEP, 21_debug.md. -/
def DBG_STEP : Rg := ⟨0x0F001C, 1, 0x0, 1, 0x0⟩
def DBG_STEP_CORE : Fld := ⟨DBG_STEP, 0, 5⟩
def DBG_STEP_COUNT : Fld := ⟨DBG_STEP, 16, 16⟩
/-- DBG_CORESEL, 21_debug.md. -/
def DBG_CORESEL : Rg := ⟨0x0F0020, 1, 0x0, 1, 0x0⟩
def DBG_CORESEL_CORE : Fld := ⟨DBG_CORESEL, 0, 5⟩
def DBG_CORESEL_INDEX : Fld := ⟨DBG_CORESEL, 8, 7⟩
/-- DBG_COREDATA, 21_debug.md. -/
def DBG_COREDATA : Rg := ⟨0x0F0024, 1, 0x0, 1, 0x0⟩
def DBG_COREDATA_DATA : Fld := ⟨DBG_COREDATA, 0, 32⟩
/-- DBG_SESEL, 21_debug.md. -/
def DBG_SESEL : Rg := ⟨0x0F0028, 1, 0x0, 1, 0x0⟩
def DBG_SESEL_ENGINE : Fld := ⟨DBG_SESEL, 0, 1⟩
def DBG_SESEL_REG : Fld := ⟨DBG_SESEL, 1, 9⟩
/-- DBG_SEDATA_LO, 21_debug.md. -/
def DBG_SEDATA_LO : Rg := ⟨0x0F0030, 1, 0x0, 1, 0x0⟩
def DBG_SEDATA_LO_DATA : Fld := ⟨DBG_SEDATA_LO, 0, 32⟩
/-- DBG_SEDATA_HI, 21_debug.md. -/
def DBG_SEDATA_HI : Rg := ⟨0x0F0034, 1, 0x0, 1, 0x0⟩
def DBG_SEDATA_HI_DATA : Fld := ⟨DBG_SEDATA_HI, 0, 32⟩
/-- DBG_PIPEST_p, 21_debug.md. -/
def DBG_PIPEST : Rg := ⟨0x0F0040, 8, 0x4, 1, 0x0⟩
def DBG_PIPEST_LINE : Fld := ⟨DBG_PIPEST, 0, 14⟩
def DBG_PIPEST_STATE : Fld := ⟨DBG_PIPEST, 14, 2⟩
def DBG_PIPEST_FCNT : Fld := ⟨DBG_PIPEST, 16, 16⟩
/-- DBG_LPDDR_PAGE, 21_debug.md. -/
def DBG_LPDDR_PAGE : Rg := ⟨0x0F0060, 1, 0x0, 1, 0x0⟩
def DBG_LPDDR_PAGE_PAGE : Fld := ⟨DBG_LPDDR_PAGE, 0, 12⟩
/-- DBG_ACCERR, 21_debug.md. -/
def DBG_ACCERR : Rg := ⟨0x0F0064, 1, 0x0, 1, 0x0⟩
/-- DBG_ACCERR_ADDR, 21_debug.md. -/
def DBG_ACCERR_ADDR : Rg := ⟨0x0F0068, 1, 0x0, 1, 0x0⟩
def DBG_ACCERR_ADDR_ADDR : Fld := ⟨DBG_ACCERR_ADDR, 0, 26⟩

end Sys2Proof.Machine.Reg
end

