-- ==== Sys2Proof/Machine/Cards.lean ====
section
/-! DEFINITION. Machine/Cards.lean: the register cards of spec/: for each register its reset value and, field by field,
the access type of Table 4.2 and the attributes of Table 4.3. Written out from the cards of the chapters; a reserved
field is a plain RO field, as R75 has it. -/

namespace Sys2Proof.Machine
open Sys2Proof.Machine.Reg

/-- Cards of block RND. -/
def cardsRND1 : List Card :=
  [
  ⟨RND_CTRL, 0x00000000, false, .none,
    [⟨0, 1, .w1s, false⟩, ⟨1, 1, .w1s, false⟩, ⟨2, 1, .rw, false⟩, ⟨3, 29, .ro, false⟩]⟩,
  ⟨RND_STATUS, 0x00000000, false, .none,
    [⟨0, 3, .ro, false⟩, ⟨3, 1, .ro, false⟩, ⟨4, 2, .ro, false⟩, ⟨6, 1, .ro, false⟩, ⟨7, 1, .ro, false⟩, ⟨8, 1, .ro, false⟩, ⟨9, 1, .ro, false⟩, ⟨10, 1, .ro, false⟩, ⟨11, 1, .ro, false⟩, ⟨12, 1, .ro, false⟩, ⟨13, 3, .ro, false⟩, ⟨16, 4, .ro, false⟩, ⟨20, 12, .ro, false⟩]⟩,
  ⟨RND_EVENT, 0x00000000, false, .none,
    [⟨0, 13, .w1c, false⟩, ⟨13, 19, .ro, false⟩]⟩,
  ⟨RND_INT_EN, 0x00000000, false, .none,
    [⟨0, 13, .rw, false⟩, ⟨13, 19, .ro, false⟩]⟩,
  ⟨RND_REFSEL, 0x00000100, false, .none,
    [⟨0, 3, .rw, true⟩, ⟨3, 3, .rw, true⟩, ⟨6, 1, .rw, true⟩, ⟨7, 1, .rw, true⟩, ⟨8, 1, .rw, true⟩, ⟨9, 1, .rw, true⟩, ⟨10, 6, .ro, false⟩, ⟨16, 8, .rw, true⟩, ⟨24, 8, .ro, false⟩]⟩,
  ⟨RND_REFDLY, 0x00000000, false, .none,
    [⟨0, 16, .rw, true⟩, ⟨16, 16, .rw, true⟩]⟩,
  ⟨RND_BAND_LO, 0x002D0000, false, .none,
    [⟨0, 32, .rw, true⟩]⟩,
  ⟨RND_BAND_HI, 0x00420000, false, .none,
    [⟨0, 32, .rw, true⟩]⟩,
  ⟨RND_LOOP, 0x00100022, false, .none,
    [⟨0, 3, .rw, true⟩, ⟨3, 1, .rw, true⟩, ⟨4, 6, .rw, true⟩, ⟨10, 6, .ro, false⟩, ⟨16, 8, .rw, true⟩, ⟨24, 8, .ro, false⟩]⟩,
  ⟨RND_COUNT_LO, 0x00000000, false, .lo,
    [⟨0, 32, .ro, false⟩]⟩,
  ⟨RND_COUNT_HI, 0x00000000, false, .hi,
    [⟨0, 16, .ro, false⟩, ⟨16, 16, .ro, false⟩]⟩,
  ⟨RND_PHASE, 0x00000000, false, .none,
    [⟨0, 32, .ro, false⟩]⟩,
  ⟨RND_FREQ, 0x00320000, false, .none,
    [⟨0, 32, .ro, false⟩]⟩,
  ⟨RND_NSTIME_LO, 0x00000000, false, .lo,
    [⟨0, 32, .ro, false⟩]⟩,
  ⟨RND_NSTIME_HI, 0x00000000, false, .hi,
    [⟨0, 32, .ro, false⟩]⟩,
  ⟨RND_NSSET_LO, 0x00000000, false, .lo,
    [⟨0, 32, .rw, false⟩]⟩,
  ⟨RND_NSSET_HI, 0x00000000, false, .hi,
    [⟨0, 32, .rw, false⟩]⟩,
  ⟨RND_PPSCFG, 0x00000000, false, .none,
    [⟨0, 1, .rw, true⟩, ⟨1, 1, .rw, true⟩, ⟨2, 30, .ro, false⟩]⟩,
  ⟨RND_PPSERR, 0x00000000, false, .none,
    [⟨0, 32, .ro, false⟩]⟩,
  ⟨RND_PHERR, 0x00000000, false, .none,
    [⟨0, 32, .ro, false⟩]⟩]

/-- Cards of block RND. -/
def cardsRND2 : List Card :=
  [
  ⟨RND_STATS, 0x00000000, false, .none,
    [⟨0, 16, .rc, false⟩, ⟨16, 16, .rc, false⟩]⟩,
  ⟨RND_SNAP_CNT_LO, 0x00000000, false, .none,
    [⟨0, 32, .ro, false⟩]⟩,
  ⟨RND_SNAP_CNT_HI, 0x00000000, false, .none,
    [⟨0, 16, .ro, false⟩, ⟨16, 16, .ro, false⟩]⟩,
  ⟨RND_SNAP_PHASE, 0x00000000, false, .none,
    [⟨0, 32, .ro, false⟩]⟩,
  ⟨RND_SNAP_FREQ, 0x00000000, false, .none,
    [⟨0, 32, .ro, false⟩]⟩,
  ⟨RND_SNAP_NS_LO, 0x00000000, false, .none,
    [⟨0, 32, .ro, false⟩]⟩,
  ⟨RND_SNAP_NS_HI, 0x00000000, false, .none,
    [⟨0, 32, .ro, false⟩]⟩,
  ⟨RND_SNAP_FLAGS, 0x00000000, false, .none,
    [⟨0, 16, .ro, false⟩, ⟨16, 16, .ro, false⟩]⟩]

/-- Cards of block PAT. -/
def cardsPAT : List Card :=
  [
  ⟨PAT_CTRL, 0x00000000, false, .none,
    [⟨0, 1, .w1s, false⟩, ⟨1, 1, .w1s, false⟩, ⟨2, 1, .w1s, false⟩, ⟨3, 1, .w1s, false⟩, ⟨4, 28, .ro, false⟩]⟩,
  ⟨PAT_STATUS, 0x00000000, false, .none,
    [⟨0, 3, .ro, false⟩, ⟨3, 1, .ro, false⟩, ⟨4, 1, .ro, false⟩, ⟨5, 1, .ro, false⟩, ⟨6, 2, .ro, false⟩, ⟨8, 4, .ro, false⟩, ⟨12, 4, .ro, false⟩, ⟨16, 16, .ro, false⟩]⟩,
  ⟨PAT_IMG_BASE, 0x00000000, false, .none,
    [⟨0, 6, .ro, false⟩, ⟨6, 18, .rw, false⟩, ⟨24, 8, .ro, false⟩]⟩,
  ⟨PAT_IMG_LEN, 0x00000000, false, .none,
    [⟨0, 17, .rw, false⟩, ⟨17, 15, .ro, false⟩]⟩,
  ⟨PAT_ADM_RESULT, 0x00000000, false, .none,
    [⟨0, 8, .ro, false⟩, ⟨8, 3, .ro, false⟩, ⟨11, 1, .ro, false⟩, ⟨12, 4, .ro, false⟩, ⟨16, 11, .ro, false⟩, ⟨27, 5, .ro, false⟩]⟩,
  ⟨PAT_ADM_WIN, 0x00000000, false, .none,
    [⟨0, 14, .ro, false⟩, ⟨14, 2, .ro, false⟩, ⟨16, 14, .ro, false⟩, ⟨30, 2, .ro, false⟩]⟩,
  ⟨PAT_ADM_RES, 0x00000000, false, .none,
    [⟨0, 8, .ro, false⟩, ⟨8, 8, .ro, false⟩, ⟨16, 9, .ro, false⟩, ⟨25, 7, .ro, false⟩]⟩,
  ⟨PAT_ADM_EXCESS, 0x00000000, false, .none,
    [⟨0, 32, .ro, false⟩]⟩,
  ⟨PAT_ACT_ROUND_LO, 0x00000000, false, .lo,
    [⟨0, 32, .rw, false⟩]⟩,
  ⟨PAT_ACT_ROUND_HI, 0x00000000, false, .hi,
    [⟨0, 16, .rw, false⟩, ⟨16, 16, .ro, false⟩]⟩,
  ⟨PAT_ACT_CNT_LO, 0x00000000, false, .lo,
    [⟨0, 32, .ro, false⟩]⟩,
  ⟨PAT_ACT_CNT_HI, 0x00000000, false, .hi,
    [⟨0, 16, .ro, false⟩, ⟨16, 16, .ro, false⟩]⟩,
  ⟨PAT_LPDDR, 0x0000003C, false, .none,
    [⟨0, 7, .rw, false⟩, ⟨7, 25, .ro, false⟩]⟩,
  ⟨PAT_EVENT, 0x00000000, false, .none,
    [⟨0, 1, .w1c, false⟩, ⟨1, 1, .w1c, false⟩, ⟨2, 1, .w1c, false⟩, ⟨3, 1, .w1c, false⟩, ⟨4, 1, .w1c, false⟩, ⟨5, 1, .w1c, false⟩, ⟨6, 1, .w1c, false⟩, ⟨7, 1, .w1c, false⟩, ⟨8, 1, .w1c, false⟩, ⟨9, 23, .ro, false⟩]⟩,
  ⟨PAT_INT_EN, 0x00000000, false, .none,
    [⟨0, 9, .rw, false⟩, ⟨9, 23, .ro, false⟩]⟩,
  ⟨PAT_LATECNT, 0x00000000, false, .none,
    [⟨0, 16, .rc, false⟩, ⟨16, 16, .rc, false⟩]⟩,
  ⟨PAT_OVRCNT, 0x00000000, false, .none,
    [⟨0, 16, .rc, false⟩, ⟨16, 16, .rc, false⟩]⟩,
  ⟨PAT_SHED, 0x00000000, false, .none,
    [⟨0, 12, .ro, false⟩, ⟨12, 4, .ro, false⟩, ⟨16, 8, .ro, false⟩, ⟨24, 8, .ro, false⟩]⟩,
  ⟨PAT_FLOOR, 0x00000000, false, .none,
    [⟨0, 8, .ro, false⟩, ⟨8, 8, .ro, false⟩, ⟨16, 8, .ro, false⟩, ⟨24, 8, .ro, false⟩]⟩]

/-- Cards of block HIF. -/
def cardsHIF : List Card :=
  [
  ⟨HIF_ID, 0x00000000, false, .none,
    [⟨0, 16, .ro, false⟩, ⟨16, 4, .ro, false⟩, ⟨20, 4, .ro, false⟩, ⟨24, 2, .ro, false⟩, ⟨26, 6, .ro, false⟩]⟩,
  ⟨HIF_CTRL, 0x00000000, false, .none,
    [⟨0, 1, .rw, false⟩, ⟨1, 31, .ro, false⟩]⟩,
  ⟨HIF_SERIAL_LO, 0x00000000, false, .lo,
    [⟨0, 32, .ro, false⟩]⟩,
  ⟨HIF_SERIAL_HI, 0x00000000, false, .hi,
    [⟨0, 32, .ro, false⟩]⟩,
  ⟨HIF_SCRATCH, 0x00000000, true, .none,
    [⟨0, 32, .rw, false⟩]⟩,
  ⟨HIF_ACCERR, 0x00000000, false, .none,
    [⟨0, 1, .w1c, false⟩, ⟨1, 3, .ro, false⟩, ⟨4, 1, .ro, false⟩, ⟨5, 2, .ro, false⟩, ⟨7, 4, .ro, false⟩, ⟨11, 5, .ro, false⟩, ⟨16, 16, .ro, false⟩]⟩,
  ⟨HIF_ACCERR_ADDR, 0x00000000, false, .none,
    [⟨0, 26, .ro, false⟩, ⟨26, 1, .ro, false⟩, ⟨27, 5, .ro, false⟩]⟩,
  ⟨HIF_ACCERR_DATA, 0x00000000, false, .none,
    [⟨0, 32, .ro, false⟩]⟩,
  ⟨HIF_LPDDR_PAGE, 0x00000000, false, .none,
    [⟨0, 12, .rw, false⟩, ⟨12, 4, .ro, false⟩, ⟨16, 12, .ro, false⟩, ⟨28, 4, .ro, false⟩]⟩,
  ⟨HIF_CFGMIS, 0x00000000, false, .none,
    [⟨0, 13, .ro, false⟩, ⟨13, 19, .ro, false⟩]⟩,
  ⟨HIF_EVENT, 0x00000000, false, .none,
    [⟨0, 1, .w1c, false⟩, ⟨1, 1, .w1c, false⟩, ⟨2, 1, .w1c, false⟩, ⟨3, 29, .ro, false⟩]⟩,
  ⟨HIF_INT_EN, 0x00000000, false, .none,
    [⟨0, 3, .rw, false⟩, ⟨3, 29, .ro, false⟩]⟩,
  ⟨HIF_LINK, 0x00000000, false, .none,
    [⟨0, 3, .ro, false⟩, ⟨3, 1, .ro, false⟩, ⟨4, 3, .ro, false⟩, ⟨7, 1, .ro, false⟩, ⟨8, 24, .ro, false⟩]⟩,
  ⟨HIF_PCIID, 0x00000000, false, .none,
    [⟨0, 16, .ro, false⟩, ⟨16, 16, .ro, false⟩]⟩]

/-- Cards of block MOL. -/
def cardsMOL1 : List Card :=
  [
  ⟨MOL_CTRL, 0x00000A00, false, .none,
    [⟨0, 1, .w1s, false⟩, ⟨1, 1, .w1s, false⟩, ⟨2, 1, .w1s, false⟩, ⟨3, 1, .rw, false⟩, ⟨4, 4, .ro, false⟩, ⟨8, 1, .rw, true⟩, ⟨9, 1, .rw, true⟩, ⟨10, 1, .rw, true⟩, ⟨11, 1, .rw, true⟩, ⟨12, 20, .ro, false⟩]⟩,
  ⟨MOL_STATUS, 0x00000000, false, .none,
    [⟨0, 4, .ro, false⟩, ⟨4, 1, .ro, false⟩, ⟨5, 1, .ro, false⟩, ⟨6, 1, .ro, false⟩, ⟨7, 1, .ro, false⟩, ⟨8, 2, .ro, false⟩, ⟨10, 1, .ro, false⟩, ⟨11, 1, .ro, false⟩, ⟨12, 4, .ro, false⟩, ⟨16, 3, .ro, false⟩, ⟨19, 13, .ro, false⟩]⟩,
  ⟨MOL_EVENT, 0x00000000, false, .none,
    [⟨0, 14, .w1c, false⟩, ⟨14, 18, .ro, false⟩]⟩,
  ⟨MOL_INT_EN, 0x00000000, false, .none,
    [⟨0, 14, .rw, false⟩, ⟨14, 18, .ro, false⟩]⟩,
  ⟨MOL_CFG, 0x0420FF12, false, .none,
    [⟨0, 3, .rw, true⟩, ⟨3, 1, .ro, false⟩, ⟨4, 2, .rw, true⟩, ⟨6, 2, .rw, true⟩, ⟨8, 8, .rw, true⟩, ⟨16, 8, .rw, true⟩, ⟨24, 8, .rw, true⟩]⟩,
  ⟨MOL_TMO, 0x00400080, false, .none,
    [⟨0, 10, .rw, true⟩, ⟨10, 6, .ro, false⟩, ⟨16, 8, .rw, true⟩, ⟨24, 8, .ro, false⟩]⟩,
  ⟨MOL_QCFG, 0x00001004, false, .none,
    [⟨0, 4, .rw, true⟩, ⟨4, 4, .ro, false⟩, ⟨8, 8, .rw, true⟩, ⟨16, 16, .ro, false⟩]⟩,
  ⟨MOL_RATELIM, 0x00400040, false, .none,
    [⟨0, 8, .rw, false⟩, ⟨8, 8, .ro, false⟩, ⟨16, 8, .rw, false⟩, ⟨24, 8, .ro, false⟩]⟩,
  ⟨MOL_IDBASE, 0x0000FFF0, false, .none,
    [⟨0, 16, .ro, false⟩, ⟨16, 1, .ro, false⟩, ⟨17, 15, .ro, false⟩]⟩,
  ⟨MOL_AUTH, 0x00000000, false, .none,
    [⟨0, 5, .rw, true⟩, ⟨5, 27, .ro, false⟩]⟩,
  ⟨MOL_CAPS, 0x00000000, false, .none,
    [⟨0, 2, .ro, false⟩, ⟨2, 1, .ro, false⟩, ⟨3, 1, .ro, false⟩, ⟨4, 4, .ro, false⟩, ⟨8, 6, .ro, false⟩, ⟨14, 2, .ro, false⟩, ⟨16, 6, .ro, false⟩, ⟨22, 10, .ro, false⟩]⟩,
  ⟨MOL_CAPS2, 0x00000000, false, .none,
    [⟨0, 8, .ro, false⟩, ⟨8, 8, .ro, false⟩, ⟨16, 16, .ro, false⟩]⟩,
  ⟨MOL_SERIAL_LO, 0x00000000, false, .lo,
    [⟨0, 32, .ro, false⟩]⟩,
  ⟨MOL_SERIAL_HI, 0x00000000, false, .hi,
    [⟨0, 32, .ro, false⟩]⟩,
  ⟨MOL_LAT, 0x00000000, false, .none,
    [⟨0, 16, .ro, false⟩, ⟨16, 16, .ro, false⟩]⟩,
  ⟨MOL_ASYM, 0x00000000, false, .none,
    [⟨0, 16, .rw, true⟩, ⟨16, 16, .rw, true⟩]⟩,
  ⟨MOL_EQ, 0x00000000, false, .none,
    [⟨0, 4, .ro, false⟩, ⟨4, 8, .ro, false⟩, ⟨12, 1, .ro, false⟩, ⟨13, 19, .ro, false⟩]⟩,
  ⟨MOL_CNT_LINK, 0x00000000, false, .none,
    [⟨0, 16, .rc, false⟩, ⟨16, 16, .rc, false⟩]⟩,
  ⟨MOL_CNT_ALIVE, 0x00000000, false, .none,
    [⟨0, 16, .rc, false⟩, ⟨16, 16, .rc, false⟩]⟩,
  ⟨MOL_CNT_DROP, 0x00000000, false, .none,
    [⟨0, 16, .rc, false⟩, ⟨16, 16, .rc, false⟩]⟩]

/-- Cards of block MOL. -/
def cardsMOL2 : List Card :=
  [
  ⟨MOL_CNT_HOST, 0x00000000, false, .none,
    [⟨0, 16, .rc, false⟩, ⟨16, 8, .rc, false⟩, ⟨24, 8, .rc, false⟩]⟩,
  ⟨MOL_CNT_SAMP, 0x00000000, false, .none,
    [⟨0, 16, .rc, false⟩, ⟨16, 16, .rc, false⟩]⟩]

/-- Cards of block WFM. -/
def cardsWFM1 : List Card :=
  [
  ⟨WFM_CTRL, 0x00000000, false, .none,
    [⟨0, 1, .w1s, false⟩, ⟨1, 31, .ro, false⟩]⟩,
  ⟨WFM_CFG, 0x00000040, false, .none,
    [⟨0, 8, .rw, true⟩, ⟨8, 24, .ro, false⟩]⟩,
  ⟨WFM_STATUS, 0x00000000, false, .none,
    [⟨0, 4, .ro, false⟩, ⟨4, 28, .ro, false⟩]⟩,
  ⟨WFM_EVENT, 0x00000000, false, .none,
    [⟨0, 10, .w1c, false⟩, ⟨10, 22, .ro, false⟩]⟩,
  ⟨WFM_INT_EN, 0x00000000, false, .none,
    [⟨0, 10, .rw, false⟩, ⟨10, 22, .ro, false⟩]⟩,
  ⟨WFM_CNT_SKIP, 0x00000000, false, .none,
    [⟨0, 16, .rc, false⟩, ⟨16, 16, .rc, false⟩]⟩,
  ⟨WFM_CNT_RING, 0x00000000, false, .none,
    [⟨0, 16, .rc, false⟩, ⟨16, 16, .rc, false⟩]⟩,
  ⟨WFM_TRGQ, 0x00000000, false, .none,
    [⟨0, 4, .pop, false⟩, ⟨4, 4, .pop, false⟩, ⟨8, 20, .pop, false⟩, ⟨28, 1, .pop, false⟩, ⟨29, 1, .pop, false⟩, ⟨30, 1, .pop, false⟩, ⟨31, 1, .pop, false⟩]⟩,
  ⟨WFM_CHCFG, 0x00000004, false, .none,
    [⟨0, 1, .rw, true⟩, ⟨1, 3, .rw, true⟩, ⟨4, 1, .rw, true⟩, ⟨5, 3, .rw, true⟩, ⟨8, 2, .rw, true⟩, ⟨10, 2, .rw, true⟩, ⟨12, 1, .rw, true⟩, ⟨13, 19, .ro, false⟩]⟩,
  ⟨WFM_CHGAIN, 0x3F800000, false, .none,
    [⟨0, 32, .rw, true⟩]⟩,
  ⟨WFM_CHOFS, 0x00000000, false, .none,
    [⟨0, 24, .rw, true⟩, ⟨24, 8, .ro, false⟩]⟩,
  ⟨WFM_CHSTAT, 0x00000000, false, .none,
    [⟨0, 8, .ro, false⟩, ⟨8, 8, .ro, false⟩, ⟨16, 16, .ro, false⟩]⟩,
  ⟨WFM_LPCOEF, 0x00000000, false, .none,
    [⟨0, 32, .rw, true⟩]⟩,
  ⟨WFM_EMCFG, 0x00000000, false, .none,
    [⟨0, 1, .rw, true⟩, ⟨1, 1, .rw, true⟩, ⟨2, 1, .rw, true⟩, ⟨3, 1, .rw, true⟩, ⟨4, 3, .rw, true⟩, ⟨7, 1, .ro, false⟩, ⟨8, 5, .rw, true⟩, ⟨13, 3, .ro, false⟩, ⟨16, 8, .rw, true⟩, ⟨24, 8, .ro, false⟩]⟩,
  ⟨WFM_EMMAP_LO, 0xFFFFFFFF, false, .none,
    [⟨0, 8, .rw, true⟩, ⟨8, 8, .rw, true⟩, ⟨16, 8, .rw, true⟩, ⟨24, 8, .rw, true⟩]⟩,
  ⟨WFM_EMMAP_HI, 0xFFFFFFFF, false, .none,
    [⟨0, 8, .rw, true⟩, ⟨8, 8, .rw, true⟩, ⟨16, 8, .rw, true⟩, ⟨24, 8, .rw, true⟩]⟩,
  ⟨WFM_EMDEST, 0x00000000, false, .none,
    [⟨0, 6, .ro, false⟩, ⟨6, 14, .rw, true⟩, ⟨20, 10, .rw, true⟩, ⟨30, 2, .ro, false⟩]⟩,
  ⟨WFM_TRGCFG, 0x00010400, false, .none,
    [⟨0, 1, .rw, true⟩, ⟨1, 2, .rw, true⟩, ⟨3, 1, .ro, false⟩, ⟨4, 6, .rw, true⟩, ⟨10, 4, .rw, true⟩, ⟨14, 2, .ro, false⟩, ⟨16, 3, .rw, true⟩, ⟨19, 1, .ro, false⟩, ⟨20, 4, .rw, true⟩, ⟨24, 1, .rw, true⟩, ⟨25, 7, .ro, false⟩]⟩,
  ⟨WFM_TRGMRK, 0x00000A00, false, .none,
    [⟨0, 8, .rw, true⟩, ⟨8, 4, .rw, true⟩, ⟨12, 4, .rw, true⟩, ⟨16, 16, .ro, false⟩]⟩,
  ⟨WFM_TRGFIRE, 0x7F800000, false, .none,
    [⟨0, 32, .rw, false⟩]⟩]

/-- Cards of block WFM. -/
def cardsWFM2 : List Card :=
  [
  ⟨WFM_TRGCLEAR, 0x00000000, false, .none,
    [⟨0, 32, .rw, false⟩]⟩,
  ⟨WFM_TRGSTAT, 0x00000000, false, .none,
    [⟨0, 1, .ro, false⟩, ⟨1, 1, .w1c, false⟩, ⟨2, 14, .ro, false⟩, ⟨16, 16, .ro, false⟩]⟩,
  ⟨WFM_TRGFLOOR, 0x00000000, false, .none,
    [⟨0, 32, .ro, false⟩]⟩,
  ⟨WFM_TRGMEAS, 0x00000000, false, .none,
    [⟨0, 32, .ro, false⟩]⟩,
  ⟨WFM_RGCTRL, 0x00000000, false, .none,
    [⟨0, 1, .w1s, false⟩, ⟨1, 1, .w1s, false⟩, ⟨2, 30, .ro, false⟩]⟩,
  ⟨WFM_RGCFG, 0x00000000, false, .none,
    [⟨0, 1, .rw, true⟩, ⟨1, 7, .ro, false⟩, ⟨8, 7, .rw, true⟩, ⟨15, 1, .ro, false⟩, ⟨16, 9, .rw, true⟩, ⟨25, 7, .ro, false⟩]⟩,
  ⟨WFM_RGDEPTH, 0x00000001, false, .none,
    [⟨0, 9, .rw, true⟩, ⟨9, 23, .ro, false⟩]⟩,
  ⟨WFM_RGMASK_LO, 0x00000000, false, .none,
    [⟨0, 32, .rw, true⟩]⟩,
  ⟨WFM_RGMASK_HI, 0x00000000, false, .none,
    [⟨0, 16, .rw, true⟩, ⟨16, 16, .ro, false⟩]⟩,
  ⟨WFM_RGBASE, 0x00000000, false, .none,
    [⟨0, 22, .rw, true⟩, ⟨22, 10, .ro, false⟩]⟩,
  ⟨WFM_RGSLOT, 0x00000000, false, .none,
    [⟨0, 20, .ro, false⟩, ⟨20, 12, .ro, false⟩]⟩,
  ⟨WFM_RGSTAT, 0x00000000, false, .none,
    [⟨0, 2, .ro, false⟩, ⟨2, 6, .ro, false⟩, ⟨8, 8, .ro, false⟩, ⟨16, 16, .ro, false⟩]⟩,
  ⟨WFM_RGTRND_LO, 0x00000000, false, .lo,
    [⟨0, 32, .ro, false⟩]⟩,
  ⟨WFM_RGTRND_HI, 0x00000000, false, .hi,
    [⟨0, 16, .ro, false⟩, ⟨16, 16, .ro, false⟩]⟩]

/-- Cards of block CAM. -/
def cardsCAM1 : List Card :=
  [
  ⟨CAM_FSW, 0x00000000, false, .none,
    [⟨0, 6, .w1s, false⟩, ⟨6, 2, .ro, false⟩, ⟨8, 3, .rw, false⟩, ⟨11, 21, .ro, false⟩]⟩,
  ⟨CAM_FSSTAT, 0x00000000, false, .none,
    [⟨0, 6, .ro, false⟩, ⟨6, 2, .ro, false⟩, ⟨8, 8, .w1c, false⟩, ⟨16, 16, .ro, false⟩]⟩,
  ⟨CAM_FSPROF_LO, 0x00000000, false, .lo,
    [⟨0, 20, .rw, false⟩, ⟨20, 12, .rw, false⟩]⟩,
  ⟨CAM_FSPROF_HI, 0x00002800, false, .hi,
    [⟨0, 10, .rw, false⟩, ⟨10, 10, .rw, false⟩, ⟨20, 1, .rw, false⟩, ⟨21, 11, .ro, false⟩]⟩,
  ⟨CAM_PCTRL, 0x00000000, false, .none,
    [⟨0, 1, .w1s, false⟩, ⟨1, 31, .ro, false⟩]⟩,
  ⟨CAM_PHY, 0x00960E48, false, .none,
    [⟨0, 1, .rw, true⟩, ⟨1, 1, .rw, true⟩, ⟨2, 2, .rw, true⟩, ⟨4, 8, .rw, true⟩, ⟨12, 4, .rw, true⟩, ⟨16, 9, .rw, true⟩, ⟨25, 7, .ro, false⟩]⟩,
  ⟨CAM_STREAM, 0xA0002C00, false, .none,
    [⟨0, 4, .rw, true⟩, ⟨4, 4, .ro, false⟩, ⟨8, 6, .rw, true⟩, ⟨14, 2, .ro, false⟩, ⟨16, 1, .rw, true⟩, ⟨17, 3, .ro, false⟩, ⟨20, 4, .rw, true⟩, ⟨24, 3, .rw, true⟩, ⟨27, 5, .rw, true⟩]⟩,
  ⟨CAM_WIN_XY, 0x00000000, false, .none,
    [⟨0, 14, .rw, true⟩, ⟨14, 2, .ro, false⟩, ⟨16, 14, .rw, true⟩, ⟨30, 2, .ro, false⟩]⟩,
  ⟨CAM_WIN_WH, 0x04380780, false, .none,
    [⟨0, 14, .rw, true⟩, ⟨14, 2, .ro, false⟩, ⟨16, 14, .rw, true⟩, ⟨30, 2, .ro, false⟩]⟩,
  ⟨CAM_SYNC, 0x00000FA0, false, .none,
    [⟨0, 16, .rw, true⟩, ⟨16, 8, .rw, true⟩, ⟨24, 1, .rw, true⟩, ⟨25, 7, .ro, false⟩]⟩,
  ⟨CAM_STATUS, 0x00000000, false, .none,
    [⟨0, 2, .ro, false⟩, ⟨2, 2, .ro, false⟩, ⟨4, 4, .ro, false⟩, ⟨8, 24, .ro, false⟩]⟩,
  ⟨CAM_EVENT, 0x00000000, false, .none,
    [⟨0, 14, .w1c, false⟩, ⟨14, 18, .ro, false⟩]⟩,
  ⟨CAM_INT_EN, 0x00000000, false, .none,
    [⟨0, 14, .rw, false⟩, ⟨14, 18, .ro, false⟩]⟩,
  ⟨CAM_FCNT, 0x00000000, false, .none,
    [⟨0, 32, .ro, false⟩]⟩,
  ⟨CAM_LAST, 0x00000000, false, .none,
    [⟨0, 14, .ro, false⟩, ⟨14, 2, .ro, false⟩, ⟨16, 14, .ro, false⟩, ⟨30, 2, .ro, false⟩]⟩,
  ⟨CAM_CNT_PKT, 0x00000000, false, .none,
    [⟨0, 16, .rc, false⟩, ⟨16, 16, .rc, false⟩]⟩,
  ⟨CAM_CNT_LINE, 0x00000000, false, .none,
    [⟨0, 16, .rc, false⟩, ⟨16, 16, .rc, false⟩]⟩,
  ⟨CAM_CNT_FRM, 0x00000000, false, .none,
    [⟨0, 16, .rc, false⟩, ⟨16, 16, .rc, false⟩]⟩,
  ⟨CAM_CNT_MISC, 0x00000000, false, .none,
    [⟨0, 8, .rc, false⟩, ⟨8, 8, .rc, false⟩, ⟨16, 8, .rc, false⟩, ⟨24, 8, .rc, false⟩]⟩,
  ⟨CAM_DLVCFG, 0x00000000, false, .none,
    [⟨0, 1, .rw, true⟩, ⟨1, 2, .rw, true⟩, ⟨3, 1, .rw, true⟩, ⟨4, 3, .rw, true⟩, ⟨7, 1, .rw, true⟩, ⟨8, 5, .rw, true⟩, ⟨13, 3, .ro, false⟩, ⟨16, 8, .rw, true⟩, ⟨24, 4, .rw, true⟩, ⟨28, 4, .ro, false⟩]⟩]

/-- Cards of block CAM. -/
def cardsCAM2 : List Card :=
  [
  ⟨CAM_DLVADDR, 0x00000000, false, .none,
    [⟨0, 22, .rw, true⟩, ⟨22, 10, .ro, false⟩]⟩,
  ⟨CAM_DLVSIZE, 0x00000000, false, .none,
    [⟨0, 10, .rw, true⟩, ⟨10, 2, .ro, false⟩, ⟨12, 20, .rw, true⟩]⟩,
  ⟨CAM_DLVCNT, 0x00000000, false, .none,
    [⟨0, 16, .rc, false⟩, ⟨16, 16, .rc, false⟩]⟩,
  ⟨CAM_TXCTRL, 0x00960008, false, .none,
    [⟨0, 1, .w1s, false⟩, ⟨1, 1, .rw, true⟩, ⟨2, 2, .rw, true⟩, ⟨4, 1, .rw, true⟩, ⟨5, 3, .ro, false⟩, ⟨8, 8, .rw, true⟩, ⟨16, 9, .rw, true⟩, ⟨25, 7, .ro, false⟩]⟩,
  ⟨CAM_TXSTAT, 0x00000000, false, .none,
    [⟨0, 2, .ro, false⟩, ⟨2, 2, .ro, false⟩, ⟨4, 4, .ro, false⟩, ⟨8, 24, .ro, false⟩]⟩,
  ⟨CAM_TXCNT, 0x00000000, false, .none,
    [⟨0, 16, .rc, false⟩, ⟨16, 16, .rc, false⟩]⟩,
  ⟨CAM_TXEVENT, 0x00000000, false, .none,
    [⟨0, 1, .w1c, false⟩, ⟨1, 1, .w1c, false⟩, ⟨2, 1, .w1c, false⟩, ⟨3, 29, .ro, false⟩]⟩,
  ⟨CAM_TXINT_EN, 0x00000000, false, .none,
    [⟨0, 3, .rw, false⟩, ⟨3, 29, .ro, false⟩]⟩]

/-- Cards of block ISP. -/
def cardsISP1 : List Card :=
  [
  ⟨ISP_LPCTRL, 0x00000000, false, .none,
    [⟨0, 1, .w1s, false⟩, ⟨1, 1, .rw, true⟩, ⟨2, 30, .ro, false⟩]⟩,
  ⟨ISP_LPPB, 0x00000000, false, .none,
    [⟨0, 6, .ro, false⟩, ⟨6, 18, .rw, true⟩, ⟨24, 8, .ro, false⟩]⟩,
  ⟨ISP_LPREF, 0x00000000, false, .none,
    [⟨0, 22, .rw, true⟩, ⟨22, 10, .ro, false⟩]⟩,
  ⟨ISP_LPSTAT, 0x00000000, false, .none,
    [⟨0, 2, .ro, false⟩, ⟨2, 2, .ro, false⟩, ⟨4, 1, .ro, false⟩, ⟨5, 3, .ro, false⟩, ⟨8, 4, .ro, false⟩, ⟨12, 20, .ro, false⟩]⟩,
  ⟨ISP_LPEVENT, 0x00000000, false, .none,
    [⟨0, 6, .w1c, false⟩, ⟨6, 26, .ro, false⟩]⟩,
  ⟨ISP_LPINT_EN, 0x00000000, false, .none,
    [⟨0, 6, .rw, false⟩, ⟨6, 26, .ro, false⟩]⟩,
  ⟨ISP_LPCNT, 0x00000000, false, .none,
    [⟨0, 16, .rc, false⟩, ⟨16, 16, .rc, false⟩]⟩,
  ⟨ISP_LPCNT2, 0x00000000, false, .none,
    [⟨0, 16, .rc, false⟩, ⟨16, 8, .rc, false⟩, ⟨24, 8, .rc, false⟩]⟩,
  ⟨ISP_LPDEF, 0x00000000, false, .none,
    [⟨0, 20, .ro, false⟩, ⟨20, 12, .ro, false⟩]⟩,
  ⟨ISP_LPREFRND, 0x00000000, false, .none,
    [⟨0, 32, .ro, false⟩]⟩,
  ⟨ISP_RPSTAT, 0x00000000, false, .none,
    [⟨0, 1, .ro, false⟩, ⟨1, 3, .ro, false⟩, ⟨4, 4, .ro, false⟩, ⟨8, 24, .ro, false⟩]⟩,
  ⟨ISP_RPEVENT, 0x00000000, false, .none,
    [⟨0, 5, .w1c, false⟩, ⟨5, 27, .ro, false⟩]⟩,
  ⟨ISP_RPINT_EN, 0x00000000, false, .none,
    [⟨0, 5, .rw, false⟩, ⟨5, 27, .ro, false⟩]⟩,
  ⟨ISP_RPKICK, 0x00000000, false, .none,
    [⟨0, 16, .w1s, false⟩, ⟨16, 16, .ro, false⟩]⟩,
  ⟨ISP_RPCNT, 0x00000000, false, .none,
    [⟨0, 16, .rc, false⟩, ⟨16, 16, .rc, false⟩]⟩,
  ⟨ISP_RPCCTRL, 0x00000000, false, .none,
    [⟨0, 1, .w1s, false⟩, ⟨1, 1, .rw, true⟩, ⟨2, 1, .rw, true⟩, ⟨3, 29, .ro, false⟩]⟩,
  ⟨ISP_RPCPB, 0x00000000, false, .none,
    [⟨0, 6, .ro, false⟩, ⟨6, 18, .rw, true⟩, ⟨24, 8, .ro, false⟩]⟩,
  ⟨ISP_RPCSRC, 0x00000000, false, .none,
    [⟨0, 22, .rw, true⟩, ⟨22, 10, .ro, false⟩]⟩,
  ⟨ISP_RPCSRCSZ, 0x00000000, false, .none,
    [⟨0, 10, .rw, true⟩, ⟨10, 2, .ro, false⟩, ⟨12, 20, .rw, true⟩]⟩,
  ⟨ISP_RPCSTAT, 0x00000000, false, .none,
    [⟨0, 4, .ro, false⟩, ⟨4, 4, .ro, false⟩, ⟨8, 24, .ro, false⟩]⟩]

/-- Cards of block ISP. -/
def cardsISP2 : List Card :=
  [
  ⟨ISP_RPCSEQ, 0x00000000, false, .none,
    [⟨0, 32, .ro, false⟩]⟩]

/-- Cards of block MESH. -/
def cardsMESH : List Card :=
  [
  ⟨MESH_CTRL, 0x00000000, false, .none,
    [⟨0, 1, .w1s, false⟩, ⟨1, 31, .ro, false⟩]⟩,
  ⟨MESH_STATUS, 0x00000000, false, .none,
    [⟨0, 1, .ro, false⟩, ⟨1, 3, .ro, false⟩, ⟨4, 4, .ro, false⟩, ⟨8, 24, .ro, false⟩]⟩,
  ⟨MESH_EVENT, 0x00000000, false, .none,
    [⟨0, 8, .w1c, false⟩, ⟨8, 24, .ro, false⟩]⟩,
  ⟨MESH_INT_EN, 0x00000000, false, .none,
    [⟨0, 8, .rw, false⟩, ⟨8, 24, .ro, false⟩]⟩,
  ⟨MESH_CNT, 0x00000000, false, .none,
    [⟨0, 16, .rc, false⟩, ⟨16, 16, .rc, false⟩]⟩,
  ⟨MESH_RSVSEL, 0x00000000, false, .none,
    [⟨0, 8, .rw, false⟩, ⟨8, 14, .rw, false⟩, ⟨22, 10, .ro, false⟩]⟩,
  ⟨MESH_RSVDATA, 0x00000000, false, .none,
    [⟨0, 13, .ro, false⟩, ⟨13, 19, .ro, false⟩]⟩,
  ⟨MESH_TRK, 0x00000000, false, .none,
    [⟨0, 6, .ro, false⟩, ⟨6, 2, .ro, false⟩, ⟨8, 6, .rc, false⟩, ⟨14, 18, .ro, false⟩]⟩]

/-- Cards of block PURL. -/
def cardsPURL : List Card :=
  [
  ⟨PURL_CFG, 0x00000310, false, .none,
    [⟨0, 8, .rw, true⟩, ⟨8, 3, .rw, true⟩, ⟨11, 21, .ro, false⟩]⟩,
  ⟨PURL_STAT, 0x00000000, false, .none,
    [⟨0, 2, .ro, false⟩, ⟨2, 1, .ro, false⟩, ⟨3, 5, .ro, false⟩, ⟨8, 3, .ro, false⟩, ⟨11, 21, .ro, false⟩]⟩,
  ⟨PURL_CNT, 0x00000000, false, .none,
    [⟨0, 16, .rc, false⟩, ⟨16, 8, .rc, false⟩, ⟨24, 8, .ro, false⟩]⟩]

/-- Cards of block MRK. -/
def cardsMRK : List Card :=
  [
  ⟨MRK_HOPCMD, 0x00000000, false, .none,
    [⟨0, 8, .wo, false⟩, ⟨8, 3, .wo, false⟩, ⟨11, 21, .ro, false⟩]⟩,
  ⟨MRK_HOPARG, 0x00000000, false, .none,
    [⟨0, 32, .rw, false⟩]⟩,
  ⟨MRK_HOPRES, 0x00000000, false, .none,
    [⟨0, 4, .ro, false⟩, ⟨4, 8, .ro, false⟩, ⟨12, 17, .ro, false⟩, ⟨29, 1, .w1c, false⟩, ⟨30, 1, .ro, false⟩, ⟨31, 1, .ro, false⟩]⟩,
  ⟨MRK_HOPVAL, 0x00000000, false, .none,
    [⟨0, 32, .ro, false⟩]⟩,
  ⟨MRK_EVENT, 0x00000000, false, .none,
    [⟨0, 3, .w1c, false⟩, ⟨3, 29, .ro, false⟩]⟩,
  ⟨MRK_INT_EN, 0x00000000, false, .none,
    [⟨0, 3, .rw, false⟩, ⟨3, 29, .ro, false⟩]⟩,
  ⟨MRK_CNT, 0x00000000, false, .none,
    [⟨0, 16, .rc, false⟩, ⟨16, 16, .rc, false⟩]⟩,
  ⟨MRK_VAL, 0x00000000, false, .none,
    [⟨0, 32, .ro, false⟩]⟩,
  ⟨MRK_STAT, 0x000000FF, false, .none,
    [⟨0, 8, .ro, false⟩, ⟨8, 1, .w1c, false⟩, ⟨9, 1, .ro, false⟩, ⟨10, 6, .ro, false⟩, ⟨16, 11, .ro, false⟩, ⟨27, 5, .ro, false⟩]⟩,
  ⟨MRK_CFG, 0x00000000, false, .none,
    [⟨0, 16, .rw, false⟩, ⟨16, 16, .ro, false⟩]⟩]

/-- Cards of block CORE. -/
def cardsCORE1 : List Card :=
  [
  ⟨CORE_CTRL, 0x00000000, false, .none,
    [⟨0, 1, .w1s, false⟩, ⟨1, 1, .w1s, false⟩, ⟨2, 1, .w1s, false⟩, ⟨3, 29, .ro, false⟩]⟩,
  ⟨CORE_STATUS, 0x00000000, false, .none,
    [⟨0, 3, .ro, false⟩, ⟨3, 2, .ro, false⟩, ⟨5, 3, .ro, false⟩, ⟨8, 4, .ro, false⟩, ⟨12, 20, .ro, false⟩]⟩,
  ⟨CORE_EVENT, 0x00000000, false, .none,
    [⟨0, 6, .w1c, false⟩, ⟨6, 26, .ro, false⟩]⟩,
  ⟨CORE_INT_EN, 0x00000000, false, .none,
    [⟨0, 6, .rw, false⟩, ⟨6, 26, .ro, false⟩]⟩,
  ⟨CORE_PC, 0x00000000, false, .none,
    [⟨0, 16, .ro, false⟩, ⟨16, 16, .ro, false⟩]⟩,
  ⟨CORE_JOBCUR, 0x00000000, false, .none,
    [⟨0, 11, .ro, false⟩, ⟨11, 5, .ro, false⟩, ⟨16, 16, .ro, false⟩]⟩,
  ⟨CORE_JOBST, 0x00000000, false, .none,
    [⟨0, 3, .ro, false⟩, ⟨3, 1, .ro, false⟩, ⟨4, 8, .ro, false⟩, ⟨12, 4, .ro, false⟩, ⟨16, 16, .ro, false⟩]⟩,
  ⟨CORE_JOBCYC, 0x00000000, false, .none,
    [⟨0, 32, .ro, false⟩]⟩,
  ⟨CORE_EXCPC, 0x00000000, false, .none,
    [⟨0, 16, .ro, false⟩, ⟨16, 16, .ro, false⟩]⟩,
  ⟨CORE_EXCADDR, 0x00000000, false, .none,
    [⟨0, 32, .ro, false⟩]⟩,
  ⟨CORE_WDT, 0x000003E8, false, .none,
    [⟨0, 16, .rw, true⟩, ⟨16, 16, .ro, false⟩]⟩,
  ⟨CORE_START_ENTRY, 0x00000000, false, .none,
    [⟨0, 2, .ro, false⟩, ⟨2, 14, .rw, false⟩, ⟨16, 16, .ro, false⟩]⟩,
  ⟨CORE_START_ARG, 0x00000000, false, .none,
    [⟨0, 32, .rw, false⟩]⟩,
  ⟨CORE_CNT, 0x00000000, false, .none,
    [⟨0, 16, .rc, false⟩, ⟨16, 16, .rc, false⟩]⟩,
  ⟨CORE_CHFLUSH, 0x00000000, false, .none,
    [⟨0, 16, .w1s, false⟩, ⟨16, 16, .ro, false⟩]⟩,
  ⟨CORE_CHCFG, 0x00000000, false, .none,
    [⟨0, 1, .rw, true⟩, ⟨1, 6, .rw, true⟩, ⟨7, 1, .ro, false⟩, ⟨8, 6, .rw, true⟩, ⟨14, 2, .ro, false⟩, ⟨16, 12, .rw, true⟩, ⟨28, 4, .ro, false⟩]⟩,
  ⟨CORE_CHSTAT, 0x00000000, false, .none,
    [⟨0, 8, .ro, false⟩, ⟨8, 1, .ro, false⟩, ⟨9, 7, .ro, false⟩, ⟨16, 7, .ro, false⟩, ⟨23, 1, .ro, false⟩, ⟨24, 8, .rc, false⟩]⟩,
  ⟨CORE_MTXFOLD, 0x00000000, false, .none,
    [⟨0, 2, .ro, false⟩, ⟨2, 2, .ro, false⟩, ⟨4, 2, .ro, false⟩, ⟨6, 1, .ro, false⟩, ⟨7, 1, .ro, false⟩, ⟨8, 11, .ro, false⟩, ⟨19, 13, .ro, false⟩]⟩,
  ⟨CORE_MTXPASS, 0x00000000, false, .none,
    [⟨0, 16, .ro, false⟩, ⟨16, 8, .ro, false⟩, ⟨24, 8, .ro, false⟩]⟩,
  ⟨CORE_MTXIDEAL, 0x00000000, false, .none,
    [⟨0, 32, .ro, false⟩]⟩]

/-- Cards of block CORE. -/
def cardsCORE2 : List Card :=
  [
  ⟨CORE_MTXCHK, 0x00000000, false, .none,
    [⟨0, 1, .ro, false⟩, ⟨1, 1, .ro, false⟩, ⟨2, 2, .ro, false⟩, ⟨4, 2, .ro, false⟩, ⟨6, 1, .ro, false⟩, ⟨7, 9, .ro, false⟩, ⟨16, 16, .ro, false⟩]⟩,
  ⟨CORE_MTXCHKD, 0x00000000, false, .none,
    [⟨0, 32, .ro, false⟩]⟩,
  ⟨CORE_MTXCHKT, 0x00000000, false, .none,
    [⟨0, 32, .ro, false⟩]⟩,
  ⟨CORE_MTXCNT, 0x00000000, false, .none,
    [⟨0, 16, .rc, false⟩, ⟨16, 16, .rc, false⟩]⟩,
  ⟨CORE_OUTNAN, 0x00000000, false, .none,
    [⟨0, 1, .ro, false⟩, ⟨1, 15, .ro, false⟩, ⟨16, 16, .ro, false⟩]⟩,
  ⟨CORE_OUTNANP, 0x00000000, false, .none,
    [⟨0, 16, .ro, false⟩, ⟨16, 16, .ro, false⟩]⟩,
  ⟨CORE_OUTCNT, 0x00000000, false, .none,
    [⟨0, 16, .rc, false⟩, ⟨16, 16, .rc, false⟩]⟩]

/-- Cards of block SOL. -/
def cardsSOL1 : List Card :=
  [
  ⟨SOL_CTRL, 0x00000000, false, .none,
    [⟨0, 1, .w1s, false⟩, ⟨1, 31, .ro, false⟩]⟩,
  ⟨SOL_STATUS, 0x00000000, false, .none,
    [⟨0, 2, .ro, false⟩, ⟨2, 5, .ro, false⟩, ⟨7, 1, .ro, false⟩, ⟨8, 6, .ro, false⟩, ⟨14, 18, .ro, false⟩]⟩,
  ⟨SOL_EVENT, 0x00000000, false, .none,
    [⟨0, 10, .w1c, false⟩, ⟨10, 22, .ro, false⟩]⟩,
  ⟨SOL_INT_EN, 0x00000000, false, .none,
    [⟨0, 10, .rw, false⟩, ⟨10, 22, .ro, false⟩]⟩,
  ⟨SOL_CNT, 0x00000000, false, .none,
    [⟨0, 12, .rc, false⟩, ⟨12, 12, .rc, false⟩, ⟨24, 8, .rc, false⟩]⟩,
  ⟨SOL_WDT, 0x00001388, false, .none,
    [⟨0, 16, .rw, false⟩, ⟨16, 16, .ro, false⟩]⟩,
  ⟨SOL_INFLUSH, 0x00000000, false, .none,
    [⟨0, 16, .w1s, false⟩, ⟨16, 16, .ro, false⟩]⟩,
  ⟨SOL_INCFG, 0x00000000, false, .none,
    [⟨0, 1, .rw, false⟩, ⟨1, 5, .rw, false⟩, ⟨6, 26, .ro, false⟩]⟩,
  ⟨SOL_INSTAT, 0x00000000, false, .none,
    [⟨0, 8, .ro, false⟩, ⟨8, 1, .ro, false⟩, ⟨9, 1, .ro, false⟩, ⟨10, 6, .ro, false⟩, ⟨16, 8, .rc, false⟩, ⟨24, 8, .ro, false⟩]⟩,
  ⟨SOL_SLOTCTRL, 0x00000000, false, .none,
    [⟨0, 1, .w1s, false⟩, ⟨1, 1, .w1s, false⟩, ⟨2, 1, .w1s, false⟩, ⟨3, 1, .w1s, false⟩, ⟨4, 28, .ro, false⟩]⟩,
  ⟨SOL_SLOTCFG, 0x00000000, false, .none,
    [⟨0, 1, .rw, true⟩, ⟨1, 1, .rw, true⟩, ⟨2, 2, .rw, true⟩, ⟨4, 1, .rw, true⟩, ⟨5, 1, .rw, true⟩, ⟨6, 1, .rw, true⟩, ⟨7, 1, .rw, true⟩, ⟨8, 2, .rw, true⟩, ⟨10, 1, .rw, true⟩, ⟨11, 1, .rw, true⟩, ⟨12, 20, .ro, false⟩]⟩,
  ⟨SOL_SLOTDIM, 0x00000000, false, .none,
    [⟨0, 7, .rw, true⟩, ⟨7, 1, .ro, false⟩, ⟨8, 7, .rw, true⟩, ⟨15, 1, .ro, false⟩, ⟨16, 4, .rw, true⟩, ⟨20, 12, .ro, false⟩]⟩,
  ⟨SOL_SLOTPROG, 0x00000000, false, .none,
    [⟨0, 6, .ro, false⟩, ⟨6, 15, .rw, true⟩, ⟨21, 11, .ro, false⟩]⟩,
  ⟨SOL_SLOTPG, 0x00000000, false, .none,
    [⟨0, 15, .rw, true⟩, ⟨15, 1, .ro, false⟩, ⟨16, 15, .rw, true⟩, ⟨31, 1, .ro, false⟩]⟩,
  ⟨SOL_SLOTSZ, 0x00000000, false, .none,
    [⟨0, 8, .rw, true⟩, ⟨8, 8, .rw, true⟩, ⟨16, 8, .rw, true⟩, ⟨24, 8, .ro, false⟩]⟩,
  ⟨SOL_SLOTOUT, 0x00000000, false, .none,
    [⟨0, 15, .rw, true⟩, ⟨15, 17, .ro, false⟩]⟩,
  ⟨SOL_SLOTWARM, 0x00000000, false, .none,
    [⟨0, 15, .rw, true⟩, ⟨15, 9, .ro, false⟩, ⟨24, 8, .rw, true⟩]⟩,
  ⟨SOL_SLOTPIV, 0x00001A28, false, .none,
    [⟨0, 8, .rw, true⟩, ⟨8, 8, .rw, true⟩, ⟨16, 16, .ro, false⟩]⟩,
  ⟨SOL_SLOTDST, 0x00000000, false, .none,
    [⟨0, 5, .rw, true⟩, ⟨5, 3, .ro, false⟩, ⟨8, 4, .rw, true⟩, ⟨12, 8, .rw, true⟩, ⟨20, 12, .rw, true⟩]⟩,
  ⟨SOL_SLOTARG, 0x00000000, false, .none,
    [⟨0, 32, .rw, true⟩]⟩]

/-- Cards of block SOL. -/
def cardsSOL2 : List Card :=
  [
  ⟨SOL_SLOTSTAT, 0x00000000, false, .none,
    [⟨0, 1, .ro, false⟩, ⟨1, 1, .ro, false⟩, ⟨2, 1, .ro, false⟩, ⟨3, 1, .ro, false⟩, ⟨4, 4, .ro, false⟩, ⟨8, 3, .ro, false⟩, ⟨11, 21, .ro, false⟩]⟩,
  ⟨SOL_SLOTSEQ, 0x00000000, false, .none,
    [⟨0, 16, .ro, false⟩, ⟨16, 16, .ro, false⟩]⟩,
  ⟨SOL_SLOTWCET, 0x00000000, false, .none,
    [⟨0, 32, .ro, false⟩]⟩]

/-- Cards of block CMD. -/
def cardsCMD1 : List Card :=
  [
  ⟨CMD_EVENT, 0x00000000, false, .none,
    [⟨0, 1, .w1c, false⟩, ⟨1, 1, .w1c, false⟩, ⟨2, 1, .w1c, false⟩, ⟨3, 1, .w1c, false⟩, ⟨4, 28, .ro, false⟩]⟩,
  ⟨CMD_INT_EN, 0x00000000, false, .none,
    [⟨0, 4, .rw, false⟩, ⟨4, 28, .ro, false⟩]⟩,
  ⟨CMD_SBASE_LO, 0x00000000, false, .lo,
    [⟨0, 6, .ro, false⟩, ⟨6, 26, .rw, false⟩]⟩,
  ⟨CMD_SBASE_HI, 0x00000000, false, .hi,
    [⟨0, 32, .rw, false⟩]⟩,
  ⟨CMD_SCFG, 0x00000040, false, .none,
    [⟨0, 1, .rw, false⟩, ⟨1, 3, .ro, false⟩, ⟨4, 4, .rw, false⟩, ⟨8, 24, .ro, false⟩]⟩,
  ⟨CMD_SPROD, 0x00000000, false, .none,
    [⟨0, 16, .ro, false⟩, ⟨16, 16, .ro, false⟩]⟩,
  ⟨CMD_SCONS, 0x00000000, false, .none,
    [⟨0, 16, .rw, false⟩, ⟨16, 16, .ro, false⟩]⟩,
  ⟨CMD_STDROP, 0x00000000, false, .none,
    [⟨0, 16, .rc, false⟩, ⟨16, 16, .rc, false⟩]⟩,
  ⟨CMD_JOBPOST, 0x00000000, false, .none,
    [⟨0, 16, .rw, false⟩, ⟨16, 1, .rw, false⟩, ⟨17, 15, .ro, false⟩]⟩,
  ⟨CMD_CTRL, 0x00000000, false, .none,
    [⟨0, 1, .rw, false⟩, ⟨1, 1, .w1s, false⟩, ⟨2, 30, .ro, false⟩]⟩,
  ⟨CMD_STATE, 0x00000000, false, .none,
    [⟨0, 2, .ro, false⟩, ⟨2, 1, .ro, false⟩, ⟨3, 1, .ro, false⟩, ⟨4, 3, .ro, false⟩, ⟨7, 1, .ro, false⟩, ⟨8, 8, .ro, false⟩, ⟨16, 16, .ro, false⟩]⟩,
  ⟨CMD_RBASE_LO, 0x00000000, false, .lo,
    [⟨0, 6, .ro, false⟩, ⟨6, 26, .rw, false⟩]⟩,
  ⟨CMD_RBASE_HI, 0x00000000, false, .hi,
    [⟨0, 32, .rw, false⟩]⟩,
  ⟨CMD_CBASE_LO, 0x00000000, false, .lo,
    [⟨0, 6, .ro, false⟩, ⟨6, 26, .rw, false⟩]⟩,
  ⟨CMD_CBASE_HI, 0x00000000, false, .hi,
    [⟨0, 32, .rw, false⟩]⟩,
  ⟨CMD_RCFG, 0x00000004, false, .none,
    [⟨0, 4, .rw, false⟩, ⟨4, 28, .ro, false⟩]⟩,
  ⟨CMD_PROD, 0x00000000, false, .none,
    [⟨0, 16, .rw, false⟩, ⟨16, 16, .ro, false⟩]⟩,
  ⟨CMD_CONS, 0x00000000, false, .none,
    [⟨0, 16, .ro, false⟩, ⟨16, 16, .ro, false⟩]⟩,
  ⟨CMD_CCONS, 0x00000000, false, .none,
    [⟨0, 16, .rw, false⟩, ⟨16, 16, .ro, false⟩]⟩,
  ⟨CMD_CPROD, 0x00000000, false, .none,
    [⟨0, 16, .ro, false⟩, ⟨16, 16, .ro, false⟩]⟩]

/-- Cards of block CMD. -/
def cardsCMD2 : List Card :=
  [
  ⟨CMD_FLUSHSEQ, 0x00000000, false, .none,
    [⟨0, 16, .ro, false⟩, ⟨16, 1, .ro, false⟩, ⟨17, 6, .ro, false⟩, ⟨23, 9, .ro, false⟩]⟩,
  ⟨CMD_DRAINCNT, 0x00000000, false, .none,
    [⟨0, 32, .rc, false⟩]⟩]

/-- Cards of block SEC. -/
def cardsSEC : List Card :=
  [
  ⟨SEC_STATUS, 0x00000000, false, .none,
    [⟨0, 1, .ro, false⟩, ⟨1, 1, .ro, false⟩, ⟨2, 1, .ro, false⟩, ⟨3, 1, .ro, false⟩, ⟨4, 1, .ro, false⟩, ⟨5, 11, .ro, false⟩, ⟨16, 16, .ro, false⟩]⟩,
  ⟨SEC_KEYSLOT, 0x00000000, false, .none,
    [⟨0, 32, .ro, false⟩]⟩,
  ⟨SEC_EVENT, 0x00000000, false, .none,
    [⟨0, 9, .w1c, false⟩, ⟨9, 23, .ro, false⟩]⟩,
  ⟨SEC_INT_EN, 0x00000000, false, .none,
    [⟨0, 9, .rw, false⟩, ⟨9, 23, .ro, false⟩]⟩,
  ⟨SEC_CNT, 0x00000000, false, .none,
    [⟨0, 16, .rc, false⟩, ⟨16, 16, .rc, false⟩]⟩]

/-- Cards of block FBR. -/
def cardsFBR : List Card :=
  [
  ⟨FBR_ERRACK, 0x00000000, false, .none,
    [⟨0, 16, .w1s, false⟩, ⟨16, 16, .ro, false⟩]⟩,
  ⟨FBR_STATUS, 0x00000000, false, .none,
    [⟨0, 16, .ro, false⟩, ⟨16, 1, .w1c, false⟩, ⟨17, 3, .ro, false⟩, ⟨20, 4, .ro, false⟩, ⟨24, 8, .ro, false⟩]⟩,
  ⟨FBR_EVENT, 0x00000000, false, .none,
    [⟨0, 7, .w1c, false⟩, ⟨7, 25, .ro, false⟩]⟩,
  ⟨FBR_INT_EN, 0x00000000, false, .none,
    [⟨0, 7, .rw, false⟩, ⟨7, 25, .ro, false⟩]⟩,
  ⟨FBR_CFG, 0x00C80C64, false, .none,
    [⟨0, 10, .rw, false⟩, ⟨10, 3, .rw, false⟩, ⟨13, 3, .ro, false⟩, ⟨16, 10, .rw, false⟩, ⟨26, 6, .ro, false⟩]⟩,
  ⟨FBR_OCC, 0x00000000, false, .none,
    [⟨0, 7, .ro, false⟩, ⟨7, 1, .ro, false⟩, ⟨8, 5, .ro, false⟩, ⟨13, 19, .ro, false⟩]⟩,
  ⟨FBR_CNT, 0x00000000, false, .none,
    [⟨0, 16, .rc, false⟩, ⟨16, 16, .rc, false⟩]⟩,
  ⟨FBR_ELOG0, 0x00000000, false, .none,
    [⟨0, 4, .pop, false⟩, ⟨4, 5, .pop, false⟩, ⟨9, 1, .pop, false⟩, ⟨10, 1, .pop, false⟩, ⟨11, 16, .pop, false⟩, ⟨27, 4, .pop, false⟩, ⟨31, 1, .pop, false⟩]⟩,
  ⟨FBR_ELOG1, 0x00000000, false, .none,
    [⟨0, 32, .ro, false⟩]⟩,
  ⟨FBR_ELOG2, 0x00000000, false, .none,
    [⟨0, 16, .ro, false⟩, ⟨16, 16, .ro, false⟩]⟩,
  ⟨FBR_WCFG, 0x000000F0, false, .none,
    [⟨0, 1, .rw, true⟩, ⟨1, 2, .rw, true⟩, ⟨3, 1, .rw, true⟩, ⟨4, 6, .rw, true⟩, ⟨10, 6, .ro, false⟩, ⟨16, 16, .rw, true⟩]⟩,
  ⟨FBR_WBASE, 0x00000000, false, .none,
    [⟨0, 32, .rw, true⟩]⟩,
  ⟨FBR_WCTRL, 0x00000000, false, .none,
    [⟨0, 1, .w1s, false⟩, ⟨1, 1, .w1s, false⟩, ⟨2, 30, .ro, false⟩]⟩,
  ⟨FBR_WSTAT, 0x00000000, false, .none,
    [⟨0, 16, .ro, false⟩, ⟨16, 1, .ro, false⟩, ⟨17, 1, .ro, false⟩, ⟨18, 2, .ro, false⟩, ⟨20, 4, .ro, false⟩, ⟨24, 7, .ro, false⟩, ⟨31, 1, .ro, false⟩]⟩,
  ⟨FBR_WCNT, 0x00000000, false, .none,
    [⟨0, 16, .rc, false⟩, ⟨16, 16, .rc, false⟩]⟩,
  ⟨FBR_RTKEY, 0x00000000, false, .lo,
    [⟨0, 16, .rw, false⟩, ⟨16, 3, .rw, false⟩, ⟨19, 12, .rw, false⟩, ⟨31, 1, .rw, false⟩]⟩,
  ⟨FBR_RTDST, 0x00000000, false, .hi,
    [⟨0, 2, .rw, false⟩, ⟨2, 5, .rw, false⟩, ⟨7, 3, .rw, false⟩, ⟨10, 14, .rw, false⟩, ⟨24, 8, .rw, false⟩]⟩,
  ⟨FBR_HINT, 0x00000000, false, .none,
    [⟨0, 32, .w1c, false⟩]⟩,
  ⟨FBR_HINTEN, 0x00000000, false, .none,
    [⟨0, 32, .rw, false⟩]⟩,
  ⟨FBR_HDATA, 0x00000000, false, .none,
    [⟨0, 32, .ro, false⟩]⟩]

/-- Cards of block CHK. -/
def cardsCHK : List Card :=
  [
  ⟨CHK_CTRL, 0x00000000, false, .none,
    [⟨0, 1, .w1s, false⟩, ⟨1, 1, .w1s, false⟩, ⟨2, 1, .w1s, false⟩, ⟨3, 29, .ro, false⟩]⟩,
  ⟨CHK_CFG, 0x00000000, false, .none,
    [⟨0, 1, .rw, true⟩, ⟨1, 2, .rw, true⟩, ⟨3, 1, .rw, true⟩, ⟨4, 1, .rw, true⟩, ⟨5, 1, .rw, true⟩, ⟨6, 1, .rw, true⟩, ⟨7, 1, .rw, true⟩, ⟨8, 1, .rw, true⟩, ⟨9, 1, .rw, true⟩, ⟨10, 22, .ro, false⟩]⟩,
  ⟨CHK_INIT, 0x00000000, false, .none,
    [⟨0, 32, .rw, true⟩]⟩,
  ⟨CHK_LEN, 0x00000010, false, .none,
    [⟨0, 16, .rw, false⟩, ⟨16, 16, .ro, false⟩]⟩,
  ⟨CHK_GOFS, 0x00000000, false, .none,
    [⟨0, 16, .rw, false⟩, ⟨16, 16, .ro, false⟩]⟩,
  ⟨CHK_DATA, 0x00000000, true, .none,
    [⟨0, 32, .wo, false⟩]⟩,
  ⟨CHK_EXPECT, 0x00000000, false, .none,
    [⟨0, 32, .rw, false⟩]⟩,
  ⟨CHK_RESULT, 0x00000000, false, .none,
    [⟨0, 32, .ro, false⟩]⟩,
  ⟨CHK_COUNT, 0x00000000, false, .none,
    [⟨0, 32, .ro, false⟩]⟩,
  ⟨CHK_STATUS, 0x00000000, false, .none,
    [⟨0, 1, .ro, false⟩, ⟨1, 5, .ro, false⟩, ⟨6, 1, .ro, false⟩, ⟨7, 1, .w1c, false⟩, ⟨8, 2, .ro, false⟩, ⟨10, 1, .ro, false⟩, ⟨11, 5, .ro, false⟩, ⟨16, 8, .ro, false⟩, ⟨24, 8, .ro, false⟩]⟩,
  ⟨CHK_EVENT, 0x00000000, false, .none,
    [⟨0, 7, .w1c, false⟩, ⟨7, 25, .ro, false⟩]⟩,
  ⟨CHK_INT_EN, 0x00000000, false, .none,
    [⟨0, 7, .rw, false⟩, ⟨7, 25, .ro, false⟩]⟩,
  ⟨CHK_CNT, 0x00000000, false, .none,
    [⟨0, 16, .rc, false⟩, ⟨16, 16, .rc, false⟩]⟩,
  ⟨CHK_GCNT, 0x00000000, false, .none,
    [⟨0, 16, .rc, false⟩, ⟨16, 16, .rc, false⟩]⟩,
  ⟨CHK_SUMMARY, 0x00000000, false, .none,
    [⟨0, 8, .ro, false⟩, ⟨8, 24, .ro, false⟩]⟩]

/-- Cards of block JRN. -/
def cardsJRN : List Card :=
  [
  ⟨JRN_CTRL, 0x00000000, false, .none,
    [⟨0, 1, .w1s, false⟩, ⟨1, 1, .w1s, false⟩, ⟨2, 1, .w1s, false⟩, ⟨3, 29, .ro, false⟩]⟩,
  ⟨JRN_CFG, 0x00002000, false, .none,
    [⟨0, 1, .rw, true⟩, ⟨1, 1, .rw, true⟩, ⟨2, 6, .ro, false⟩, ⟨8, 8, .rw, true⟩, ⟨16, 16, .ro, false⟩]⟩,
  ⟨JRN_NORBASE, 0x00000000, false, .none,
    [⟨0, 12, .ro, false⟩, ⟨12, 20, .rw, true⟩]⟩,
  ⟨JRN_NORGEO, 0x00100000, false, .none,
    [⟨0, 1, .rw, true⟩, ⟨1, 1, .rw, true⟩, ⟨2, 14, .ro, false⟩, ⟨16, 13, .rw, true⟩, ⟨29, 3, .ro, false⟩]⟩,
  ⟨JRN_NORT, 0x00642832, false, .none,
    [⟨0, 10, .rw, true⟩, ⟨10, 6, .rw, true⟩, ⟨16, 10, .rw, true⟩, ⟨26, 6, .ro, false⟩]⟩,
  ⟨JRN_STATUS, 0x00000000, false, .none,
    [⟨0, 2, .ro, false⟩, ⟨2, 1, .ro, false⟩, ⟨3, 1, .ro, false⟩, ⟨4, 1, .ro, false⟩, ⟨5, 1, .ro, false⟩, ⟨6, 2, .ro, false⟩, ⟨8, 4, .ro, false⟩, ⟨12, 4, .ro, false⟩, ⟨16, 9, .ro, false⟩, ⟨25, 7, .ro, false⟩]⟩,
  ⟨JRN_EVENT, 0x00000000, false, .none,
    [⟨0, 8, .w1c, false⟩, ⟨8, 24, .ro, false⟩]⟩,
  ⟨JRN_INT_EN, 0x00000000, false, .none,
    [⟨0, 8, .rw, false⟩, ⟨8, 24, .ro, false⟩]⟩,
  ⟨JRN_RATE, 0x00000000, false, .none,
    [⟨0, 8, .rw, true⟩, ⟨8, 8, .rw, true⟩, ⟨16, 16, .ro, false⟩]⟩,
  ⟨JRN_SNAP_FIRST, 0x00000000, false, .none,
    [⟨0, 32, .ro, false⟩]⟩,
  ⟨JRN_SNAP_LAST, 0x00000000, false, .none,
    [⟨0, 32, .ro, false⟩]⟩,
  ⟨JRN_NEXTSEQ, 0x00000000, false, .none,
    [⟨0, 32, .ro, false⟩]⟩,
  ⟨JRN_FLUSHED, 0xFFFFFFFF, false, .none,
    [⟨0, 32, .ro, false⟩]⟩,
  ⟨JRN_EPOCH, 0x00000000, false, .none,
    [⟨0, 32, .ro, false⟩]⟩,
  ⟨JRN_COUNT, 0x00000000, false, .none,
    [⟨0, 14, .ro, false⟩, ⟨14, 2, .ro, false⟩, ⟨16, 14, .ro, false⟩, ⟨30, 2, .ro, false⟩]⟩,
  ⟨JRN_NORACT, 0x00000000, false, .none,
    [⟨0, 12, .ro, false⟩, ⟨12, 4, .ro, false⟩, ⟨16, 11, .ro, false⟩, ⟨27, 5, .ro, false⟩]⟩,
  ⟨JRN_DIRTY, 0x00000000, false, .none,
    [⟨0, 13, .ro, false⟩, ⟨13, 19, .ro, false⟩]⟩,
  ⟨JRN_LOST0, 0x00000000, false, .none,
    [⟨0, 8, .rc, false⟩, ⟨8, 8, .rc, false⟩, ⟨16, 8, .rc, false⟩, ⟨24, 8, .rc, false⟩]⟩,
  ⟨JRN_LOST1, 0x00000000, false, .none,
    [⟨0, 8, .rc, false⟩, ⟨8, 8, .rc, false⟩, ⟨16, 8, .rc, false⟩, ⟨24, 8, .rc, false⟩]⟩]

/-- Cards of block PWR. -/
def cardsPWR1 : List Card :=
  [
  ⟨PWR_CASTON, 0x00000000, false, .none,
    [⟨0, 4, .ro, false⟩, ⟨4, 3, .ro, false⟩, ⟨7, 1, .ro, false⟩, ⟨8, 2, .ro, false⟩, ⟨10, 1, .ro, false⟩, ⟨11, 1, .ro, false⟩, ⟨12, 1, .ro, false⟩, ⟨13, 19, .ro, false⟩]⟩,
  ⟨PWR_RSTCAUSE, 0x00000000, false, .none,
    [⟨0, 3, .ro, false⟩, ⟨3, 1, .ro, false⟩, ⟨4, 3, .ro, false⟩, ⟨7, 9, .ro, false⟩, ⟨16, 16, .ro, false⟩]⟩,
  ⟨PWR_RSTCTL, 0x00000000, false, .none,
    [⟨0, 2, .wo, false⟩, ⟨2, 14, .ro, false⟩, ⟨16, 16, .wo, false⟩]⟩,
  ⟨PWR_BOOTCTL, 0x00000000, false, .none,
    [⟨0, 1, .w1s, false⟩, ⟨1, 31, .ro, false⟩]⟩,
  ⟨PWR_SWATCH, 0x00000000, false, .none,
    [⟨0, 32, .ro, false⟩]⟩,
  ⟨PWR_BOCTRL, 0x00000000, false, .none,
    [⟨0, 1, .w1s, false⟩, ⟨1, 1, .w1s, false⟩, ⟨2, 14, .ro, false⟩, ⟨16, 16, .wo, false⟩]⟩,
  ⟨PWR_BOCFG, 0x00000032, false, .none,
    [⟨0, 10, .rw, true⟩, ⟨10, 22, .ro, false⟩]⟩,
  ⟨PWR_BOWARM, 0x00000000, false, .none,
    [⟨0, 32, .rw, true⟩]⟩,
  ⟨PWR_BOSTAT, 0x00000000, false, .none,
    [⟨0, 16, .ro, false⟩, ⟨16, 1, .ro, false⟩, ⟨17, 1, .ro, false⟩, ⟨18, 3, .ro, false⟩, ⟨21, 11, .ro, false⟩]⟩,
  ⟨PWR_BORESTORE, 0x00000000, false, .none,
    [⟨0, 1, .ro, false⟩, ⟨1, 15, .ro, false⟩, ⟨16, 16, .ro, false⟩]⟩,
  ⟨PWR_HCTRL, 0x00000000, false, .none,
    [⟨0, 1, .w1s, false⟩, ⟨1, 31, .ro, false⟩]⟩,
  ⟨PWR_HCFG, 0x00100400, false, .none,
    [⟨0, 16, .rw, true⟩, ⟨16, 8, .rw, true⟩, ⟨24, 1, .rw, true⟩, ⟨25, 7, .ro, false⟩]⟩,
  ⟨PWR_FENCE, 0x00000000, false, .none,
    [⟨0, 8, .wo, false⟩, ⟨8, 4, .wo, false⟩, ⟨12, 2, .wo, false⟩, ⟨14, 2, .ro, false⟩, ⟨16, 16, .wo, false⟩]⟩,
  ⟨PWR_FSTAT, 0x00000000, false, .none,
    [⟨0, 1, .ro, false⟩, ⟨1, 2, .ro, false⟩, ⟨3, 1, .ro, false⟩, ⟨4, 2, .ro, false⟩, ⟨6, 26, .ro, false⟩]⟩,
  ⟨PWR_PLACEMASK, 0x00000000, false, .none,
    [⟨0, 32, .rw, true⟩]⟩,
  ⟨PWR_DROP_CORE, 0x00000000, false, .none,
    [⟨0, 32, .ro, false⟩]⟩,
  ⟨PWR_DROP_UNIT, 0x00000000, false, .none,
    [⟨0, 2, .ro, false⟩, ⟨2, 2, .ro, false⟩, ⟨4, 6, .ro, false⟩, ⟨10, 2, .ro, false⟩, ⟨12, 6, .ro, false⟩, ⟨18, 6, .ro, false⟩, ⟨24, 1, .ro, false⟩, ⟨25, 1, .ro, false⟩, ⟨26, 6, .ro, false⟩]⟩,
  ⟨PWR_CHK1, 0x00000000, false, .none,
    [⟨0, 32, .ro, false⟩]⟩,
  ⟨PWR_FLOG, 0x00000000, false, .none,
    [⟨0, 8, .pop, false⟩, ⟨8, 4, .pop, false⟩, ⟨12, 4, .pop, false⟩, ⟨16, 15, .pop, false⟩, ⟨31, 1, .pop, false⟩]⟩,
  ⟨PWR_EVENT, 0x00000000, false, .none,
    [⟨0, 10, .w1c, false⟩, ⟨10, 22, .ro, false⟩]⟩]

/-- Cards of block PWR. -/
def cardsPWR2 : List Card :=
  [
  ⟨PWR_INT_EN, 0x00000000, false, .none,
    [⟨0, 10, .rw, false⟩, ⟨10, 22, .ro, false⟩]⟩,
  ⟨PWR_REFSTAT, 0x00000000, false, .none,
    [⟨0, 1, .ro, false⟩, ⟨1, 1, .ro, false⟩, ⟨2, 14, .ro, false⟩, ⟨16, 16, .ro, false⟩]⟩,
  ⟨PWR_RAILEVT, 0x00000000, false, .none,
    [⟨0, 1, .w1c, false⟩, ⟨1, 1, .w1c, false⟩, ⟨2, 30, .ro, false⟩]⟩,
  ⟨PWR_RAILEN, 0x00000000, false, .none,
    [⟨0, 2, .rw, false⟩, ⟨2, 30, .ro, false⟩]⟩]

/-- Cards of block CLK. -/
def cardsCLK : List Card :=
  [
  ⟨CLK_CORE, 0x00000190, false, .none,
    [⟨0, 11, .ro, false⟩, ⟨11, 1, .ro, false⟩, ⟨12, 8, .ro, false⟩, ⟨20, 1, .ro, false⟩, ⟨21, 1, .ro, false⟩, ⟨22, 10, .ro, false⟩]⟩]

/-- Cards of block TMP. -/
def cardsTMP : List Card :=
  [
  ⟨TMP, 0x00000000, false, .none,
    [⟨0, 16, .ro, false⟩, ⟨16, 1, .ro, false⟩, ⟨17, 15, .ro, false⟩]⟩,
  ⟨TMP_LIM, 0x786E5F64, false, .none,
    [⟨0, 8, .rw, false⟩, ⟨8, 8, .rw, false⟩, ⟨16, 8, .ro, false⟩, ⟨24, 8, .ro, false⟩]⟩,
  ⟨TMP_STATUS, 0x00000000, false, .none,
    [⟨0, 12, .ro, false⟩, ⟨12, 1, .ro, false⟩, ⟨13, 1, .ro, false⟩, ⟨14, 1, .ro, false⟩, ⟨15, 1, .w1c, false⟩, ⟨16, 4, .ro, false⟩, ⟨20, 12, .ro, false⟩]⟩,
  ⟨TMP_EVENT, 0x00000000, false, .none,
    [⟨0, 9, .w1c, false⟩, ⟨9, 23, .ro, false⟩]⟩,
  ⟨TMP_INT_EN, 0x00000000, false, .none,
    [⟨0, 9, .rw, false⟩, ⟨9, 23, .ro, false⟩]⟩]

/-- Cards of block DBG. -/
def cardsDBG : List Card :=
  [
  ⟨DBG_CTRL, 0x00000000, false, .none,
    [⟨0, 1, .rw, false⟩, ⟨1, 1, .rw, false⟩, ⟨2, 1, .rw, false⟩, ⟨3, 1, .w1s, false⟩, ⟨4, 12, .ro, false⟩, ⟨16, 16, .wo, false⟩]⟩,
  ⟨DBG_STATUS, 0x00000000, false, .none,
    [⟨0, 1, .ro, false⟩, ⟨1, 1, .ro, false⟩, ⟨2, 1, .w1c, false⟩, ⟨3, 1, .ro, false⟩, ⟨4, 28, .ro, false⟩]⟩,
  ⟨DBG_EVENT, 0x00000000, false, .none,
    [⟨0, 8, .w1c, false⟩, ⟨8, 24, .ro, false⟩]⟩,
  ⟨DBG_INT_EN, 0x00000000, false, .none,
    [⟨0, 8, .rw, false⟩, ⟨8, 24, .ro, false⟩]⟩,
  ⟨DBG_HALT, 0x00000000, false, .none,
    [⟨0, 32, .w1s, false⟩]⟩,
  ⟨DBG_RESUME, 0x00000000, false, .none,
    [⟨0, 32, .w1s, false⟩]⟩,
  ⟨DBG_HALTED, 0x00000000, false, .none,
    [⟨0, 32, .ro, false⟩]⟩,
  ⟨DBG_STEP, 0x00000000, false, .none,
    [⟨0, 5, .wo, false⟩, ⟨5, 11, .ro, false⟩, ⟨16, 16, .wo, false⟩]⟩,
  ⟨DBG_CORESEL, 0x00000000, false, .none,
    [⟨0, 5, .rw, false⟩, ⟨5, 3, .ro, false⟩, ⟨8, 7, .rw, false⟩, ⟨15, 17, .ro, false⟩]⟩,
  ⟨DBG_COREDATA, 0x00000000, false, .none,
    [⟨0, 32, .rw, false⟩]⟩,
  ⟨DBG_SESEL, 0x00000000, false, .none,
    [⟨0, 1, .rw, false⟩, ⟨1, 9, .rw, false⟩, ⟨10, 22, .ro, false⟩]⟩,
  ⟨DBG_SEDATA_LO, 0x00000000, false, .lo,
    [⟨0, 32, .ro, false⟩]⟩,
  ⟨DBG_SEDATA_HI, 0x00000000, false, .hi,
    [⟨0, 32, .ro, false⟩]⟩,
  ⟨DBG_PIPEST, 0x00000000, false, .none,
    [⟨0, 14, .ro, false⟩, ⟨14, 2, .ro, false⟩, ⟨16, 16, .ro, false⟩]⟩,
  ⟨DBG_LPDDR_PAGE, 0x00000000, false, .none,
    [⟨0, 12, .rw, false⟩, ⟨12, 20, .ro, false⟩]⟩,
  ⟨DBG_ACCERR, 0x00000000, false, .none,
    [⟨0, 1, .w1c, false⟩, ⟨1, 31, .ro, false⟩]⟩,
  ⟨DBG_ACCERR_ADDR, 0x00000000, false, .none,
    [⟨0, 26, .ro, false⟩, ⟨26, 6, .ro, false⟩]⟩]

/-- Every register card of the spec, block by block. -/
def allCards : List Card :=
  cardsRND1 ++
  cardsRND2 ++
  cardsPAT ++
  cardsHIF ++
  cardsMOL1 ++
  cardsMOL2 ++
  cardsWFM1 ++
  cardsWFM2 ++
  cardsCAM1 ++
  cardsCAM2 ++
  cardsISP1 ++
  cardsISP2 ++
  cardsMESH ++
  cardsPURL ++
  cardsMRK ++
  cardsCORE1 ++
  cardsCORE2 ++
  cardsSOL1 ++
  cardsSOL2 ++
  cardsCMD1 ++
  cardsCMD2 ++
  cardsSEC ++
  cardsFBR ++
  cardsCHK ++
  cardsJRN ++
  cardsPWR1 ++
  cardsPWR2 ++
  cardsCLK ++
  cardsTMP ++
  cardsDBG

end Sys2Proof.Machine
end

