-- ==== Sys2Proof/Config.lean ====
section
/-! DEFINITION. Config.lean: what one device has and another has not (fused values), and the FREE VALUES: the values the
spec leaves open although the machine goes on. A free value has no body, so nothing can be proved of it but what holds
for every value. The assumption log names each (entries 10 to 13). -/

namespace Sys2Proof.Config

/-! ### Fused values (R1, R338, R366, R367, R504) -/

/-- The grade is TN960-XQ (HIF_ID.GRADE, R1). -/
opaque gradeXQ : Bool
/-- Stepping: HIF_ID.MAJOR and HIF_ID.MINOR, as the 8 bits [23:16]. -/
opaque stepping : BitVec 8
/-- The unique device number of HIF_SERIAL. -/
opaque serial : BitVec 64
/-- The PCI-SIG vendor identifier (R338). -/
opaque vendor : BitVec 16
/-- The fused minimum firmware SVN at power-on (SEC_STATUS.MINSVN). -/
opaque minSvn : BitVec 16
/-- The journal-clear key as fused before power-on, if one was (SEC_STATUS.JCKSET). -/
opaque fusedJck : Option (BitVec 256)
/-- The fuse that disables debug (DBG_STATUS.FUSEDIS, R470). -/
opaque debugFused : Bool
/-- The fused subsystem vendor and subsystem IDs (R434): subsystem vendor in the low half. -/
opaque fusedIds : BitVec 32
/-- Installed LPDDR in 4 MiB pages, minus 1 (HIF_LPDDR_PAGE.INST; a fit other than 2, 4, 8 or 16 GiB fails training, R498). -/
opaque lpddrInst : BitVec 12
/-- The highest step of a core's supply, 25 where it is above that (R459, R481; CLK_CORE_n.VCODE). -/
opaque supplyTop : BitVec 8
/-- The manufacturer identity code of IDCODE (R467). -/
opaque manufacturer : BitVec 11

/-! ### Standard functions the spec names and does not define -/

/-- AES-128 of FIPS 197: key, block; byte i of a block is bits 8i to 8i + 7 (R366). -/
opaque aes128 : BitVec 128 → BitVec 128 → BitVec 128
/-- GMAC over AES-128 of the Moari link: key, 96-bit nonce, message bytes (R131). -/
opaque gmac : BitVec 128 → BitVec 96 → List Nat → BitVec 128
/-- HMAC-SHA-256: key, message bytes; byte i of the key and of the tag is bits 8i to 8i + 7 (R365). -/
opaque hmacSha256 : BitVec 256 → List Nat → BitVec 256
/-- SHA-256 of a firmware image's public key equals the key hash in the fuses (R433). -/
opaque keyHashOk : List Nat → Bool
/-- The ECDSA P-256 signature of a firmware image, header and body, is valid (R433). -/
opaque firmwareVerifies : List Nat → Bool

/-! ### Free values -/

/-- Where within its room the phase loop's frequency settles after a crossing, from the bandwidth code, the phase error and the present
frequency, at the `n`th crossing (R34 gives the bandwidth and the damping, not the arithmetic). -/
opaque loopFreq : Nat → Int → Nat → Nat → BitVec 32
/-- How much of the allowed slew of NSTIME the `n`th PPS edge uses, in ns (R43 bounds it). -/
opaque ppsSlew : Nat → Nat
/-- The `n`th output of the random generator (R130, R365). -/
opaque random : Nat → BitVec 128
/-- The `n`th 32-bit value the spec leaves open. -/
opaque freeWord : Nat → BitVec 32
/-- The `n`th 64-bit value the spec leaves open. -/
opaque freeDWord : Nat → BitVec 64
/-- The `n`th byte the spec leaves open. -/
opaque freeByte : Nat → BitVec 8
/-- The severity of the host-link record with this code (R406 lists the group, no chapter states its severities). -/
opaque hostSeverity : Nat → BitVec 3
/-- A choice among several that the spec leaves open: the `n`th moment, item `i`. -/
opaque pick : Nat → Nat → Nat
/-- Word `i` of what a dense solve computes from a configuration and the words of its page: the spec says what a kernel solves and that
the same input gives the same bits (R299), not in which order it rounds. Solution words from 0, pivots from 2^20, residual 2^21,
column norms from 2^22, cycles 2^23, registers from 2^24; at 2^25 what CONST and SPEC give for an X that Table 14.3 does not list, and
at 2^26 ITER and RESID of a stale solve that is not run. -/
opaque denseWord : List Nat → Nat → BitVec 64
/-- An accumulator entry that several packed members of one round write (R267): a function of the descriptor, of the value before and of
what each member alone would write, since the same inputs give the same bits (R265). -/
opaque sharedEntry : List Nat → BitVec 32
/-- What the Framer's FP32 arithmetic gives for a filter, an interpolation or a measure, from its coefficients and inputs: R140, R141 and R151 give
no order of the sums. It is used within the bounds they state or imply (log 98). -/
opaque framerWord : List Nat → BitVec 32
/-- The coefficient of a half-band stage's filter at distance `d` from its centre tap (R140). -/
opaque halfBandCoef (d : Nat) : BitVec 32
/-- The `n`th choice the spec leaves open. -/
opaque freeBool : Nat → Bool

end Sys2Proof.Config
end

