-- ==== Sys2Proof/Machine/Blocks.lean ====
section
/-! DEFINITION. Machine/Blocks.lean: what each block holds beyond its registers. Registers have one home, the register file of
Machine/State.lean; here stand the queues, counters and machines that no register shows. -/

namespace Sys2Proof.Machine

/-! ### Round engine (chapter 2) -/

/-- One reference candidate (R29): consecutive accepted crossings (to 8), the time of the last one and the last 4 intervals
(newest first), in ns of the timing clock, and the absolute phase at which it qualified (R33). -/
structure Cand where
  run : Nat := 0
  last : Option Nat := none
  ivals : List Nat := []
  qualAt : Nat := 0
  deriving DecidableEq, Repr

/-- The time base from tick `tick` on (until the next entry): PHASE with the rounds and its fraction, output frequency, stamp flags, NSTIME,
its fraction and its rate. It places past grid points (R139, R149, R153). -/
structure Seg where
  tick : Nat
  phase : Nat
  frac : Nat
  freq : Nat
  flags : Nat
  ns : Nat
  nsFrac : Nat
  nsNum : Nat
  nsDen : Nat
  deriving DecidableEq, Repr

/-- The Round engine beside its registers. `clk` is the 250 MHz timing clock since cast-on, in ticks; `frac` the part of a
PHASE unit below one, in 10⁻⁹; `base` the loop's own frequency, to which a slew adds (R42); `lockCnt` the crossings within ¼
stitch in ACQUIRE; `lastV` the absolute phase of the last sample at or above VMIN; `roundAt` the tick this round began at and
`roundPh` the absolute phase it counts from, `rounds` the ticks past rounds took and what the output advanced in each, newest first (R40); NSTIME advances by `nsNum`/`nsDen` ns a tick, `nsFrac` being what is
below one ns (R43); `stitchDue` says that the current stitch has begun and its opening work is still to be done; `hist` is the past of the time base, newest first;
`wraps` counts the wraps of RND_COUNT (R39). -/
structure Rnd where
  clk : Nat := 0
  frac : Nat := 0
  base : Nat := 0x320000
  lockCnt : Nat := 0
  v : Cand := {}
  z : Cand := {}
  lastV : Nat := 0
  roundAt : Nat := 0
  roundPh : Nat := 0
  rounds : List (Nat × Nat) := []
  ppsRun : Nat := 0
  ppsLast : Option Nat := none
  nsArm : Option Nat := none
  nsNum : Nat := 4
  nsDen : Nat := 1
  nsFrac : Nat := 0
  stitchDue : Bool := false
  hist : List Seg := []
  wraps : Nat := 0
  deriving DecidableEq, Repr

/-! ### Host link, command rings, security (chapter 15) -/

/-- A running ring command. -/
structure RunCmd where
  item : Item
  wait : Wait
  deriving DecidableEq, Repr

/-- A command ring beside its registers: items taken and not started, the running command, the status of the last command that
ended (LINK), whether the next SEQ is checked, a flush that waits for the running command, completions that wait for Bus Master
Enable, and whether the running command outlives a disabling of its ring and so writes none (R349). -/
structure Ring where
  taken : List Item := []
  run : Option RunCmd := none
  lastSt : Nat := 0
  checkSeq : Bool := false
  flush : Bool := false
  heldCpl : List (Nat × Nat × Nat × Nat × List Nat) := []
  mute : Bool := false
  deriving DecidableEq, Repr

/-- The endpoint's configuration space as far as the spec gives it (R338 to R340): Bus Master Enable, Memory Space Enable, D3hot, the function
mask, class code, the subsystem vendor and subsystem IDs once they are in place (until then a configuration request is answered with Configuration
Request Retry Status, R434); the link; the messages sent per vector, the non-fatal error messages sent (R348), and the ring among 1 to 3 that
the Hub Controller served last (R354). -/
structure Hif where
  bme : Bool := false
  mse : Bool := false
  d3hot : Bool := false
  funcMask : Bool := false
  classCode : Nat := 0x120000
  ids : Option (Nat × Nat) := none
  linkUp : Bool := false
  sent : List (Nat × Nat) := []
  nonFatal : Nat := 0
  turn : Nat := 0
  deriving DecidableEq, Repr

/-- The status ring beside its registers: next PSEQ, held HEALTH postings, drops since the last OVERFLOW (all, HEALTH). -/
structure Sring where
  pseq : Nat := 0
  held : List Post := []
  drop : Nat := 0
  hdrop : Nat := 0
  deriving DecidableEq, Repr

/-- The security block beside its registers: loaded keys, the journal-clear key, the nonce with the last SEQ it named and the tick it was issued,
consecutive ST_JRN_AUTH results, and the tick challenges were blocked. -/
structure Sec where
  keys : List (Nat × BitVec 128) := []
  jck : Option (BitVec 256) := none
  nonce : Option (BitVec 128 × Nat) := none
  nonceAt : Nat := 0
  fails : Nat := 0
  blockAt : Nat := 0
  deriving DecidableEq, Repr

/-! ### Event Journal (chapter 18) -/

/-- A filled slot of the volatile buffer. -/
structure JSlot where
  slot : Nat
  seq : Nat
  r : JRec
  flushed : Bool
  deriving DecidableEq, Repr

/-- A token bucket of one code, with its suppression if it is suppressed: records, RND[15:0] of the first, highest severity. -/
structure Bucket where
  code : Nat
  tokens : Nat
  sev : Nat
  sup : Option (Nat × Nat × Nat)
  deriving DecidableEq, Repr

/-- An erase in progress: target sector, SSEQ it will receive, whether a ticket was programmed. -/
structure JErase where
  target : Nat
  sseq : Nat
  ticket : Bool
  deriving DecidableEq, Repr

/-- The Journal beside its registers. `flushing` holds what the running flush programs, `pend` says that another flush is due,
`active` that an active sector exists, `sseq` is its sector sequence, `prepared` an erased sector ready to format, `clear` a
clear whose EPOCH record has not reached NOR yet (true once its sector is formatted), `off` a change of NOREN to 0 that waits,
`last` the highest SEQ assigned so far, `frozen` that bind-off has stopped the preparing of sectors (R426), `part` the partition in use (BASE, SECT,
NSECT), which a COMMIT changes only once it is left (R427), `recovered` the SEQ of the last record that the mount recovered, and `opened` that
RESET has been written, before which no record is numbered (R423). -/
structure Jrn where
  intake : List JRec := []
  slots : List JSlot := []
  buckets : List Bucket := []
  flushing : Option (List JSlot) := none
  pend : Bool := false
  active : Bool := false
  sseq : Nat := 0
  prepared : Option Nat := none
  erase : Option JErase := none
  clear : Option Bool := none
  off : Bool := false
  last : Option Nat := none
  frozen : Bool := false
  part : Nat × Nat × Nat := (0, 0, 16)
  recovered : Nat := 0xFFFFFFFF
  opened : Bool := false
  deriving DecidableEq, Repr

end Sys2Proof.Machine
end

