-- ==== Sys2Proof/Machine/Units.lean ====
section
/-! DEFINITION. Machine/Units.lean: what the Pattern scheduler, the mesh, the marker files and the cores hold beyond their
registers. -/

namespace Sys2Proof.Machine

/-! ### The Pattern scheduler (chapter 3) -/

/-- What one resource has of an instance: 0 queued, 1 running, 2 ended with `code` (Table 10.8, or Table 8.6 for REPROC). -/
structure Part where
  res : Nat
  st : Nat := 0
  code : Nat := 0
  deriving DecidableEq, Repr

/-- A fired instance (R66): the entry's fields it needs, its absolute stitches, one part for each resource, what has
happened to it, and the activation `gen` it was fired under, which tells its Pattern from a later one. -/
structure Inst where
  id : Nat
  job : Nat
  kind : Nat
  group : Nat
  arg : Nat
  entry : Nat
  target : Nat
  spare : Nat
  start : Nat
  deadline : Nat
  wcet : Nat
  dl : Bool
  drop : Bool
  rst : Bool
  parts : List Part
  late : Bool := false
  overrun : Bool := false
  reissued : Bool := false
  gen : Nat := 0
  user : Nat := 0
  cycles : Nat := 0
  deriving DecidableEq, Repr

/-- What admission or re-admission evaluates. -/
structure Readm where
  excluded : List Nat
  code : Nat
  unit : Nat
  deriving DecidableEq, Repr

/-- A deactivated Pattern whose last instances have not ended, under a later one (R65): its activation, its image with the entries shed from it, the
floors it holds, and PAT_ACT_CNT as it was. -/
structure OldPat where
  gen : Nat
  im : Image
  shed : List Nat
  floors : List Nat
  cnt : Nat
  deriving DecidableEq, Repr

/-- The Pattern block beside its registers. `img` is the copy that a running admission evaluates, `imgAt` and `imgLen` where it was copied
from and its length as PAT_IMG_LEN then said, `touched` that this memory has been changed since (R55 leaves the result open), `admitted` the Pattern that passed with the band it passed at, `active` the Pattern
in force with the job entries shed from it and the floors it asks for itself, `act` and `deact` the requests that wait for stitch 0 with the stitch they were
written at, `deactFirst` which of the two was written first, `readm` a re-admission that runs and `result` what it found, `gen` counts activations, and
`named` holds which entries of this activation have named a marker of which die in an operation of an instance (R25), `gone` the unit codes (R363) of
the cores, engines, re-process pipelines and the Framer that have been DROPPED since the Pattern was in force (R452, R455), `drains` the deactivated Patterns whose instances still run under a later one (R65). -/
structure Pat where
  img : Option (List Nat) := none
  imgAt : Nat := 0
  imgLen : Nat := 0
  touched : Bool := false
  admitted : Option (Image × Nat × Nat) := none
  active : Option Image := none
  shed : List Nat := []
  floors : List Nat := List.replicate 32 0
  act : Option Nat := none
  deact : Bool := false
  deactFirst : Bool := false
  draining : Bool := false
  readm : Option Readm := none
  result : Option (Image × List Nat × List Nat) := none
  insts : List Inst := []
  nextId : Nat := 0
  gen : Nat := 0
  named : List (Nat × Nat) := []
  gone : List Nat := []
  drains : List OldPat := []
  deriving DecidableEq, Repr

/-! ### Mesh (chapter 9) -/

/-- A CREDIT response on its way: `count` 0 resets the count (R244); `seq` is its place among the packets sent. -/
structure CredRet where
  dst : Nat
  src : Nat
  chan : Nat
  count : Nat
  seq : Nat
  deriving DecidableEq, Repr

/-- An operation that a requester started through MRK_HOPCMD (R230). -/
structure Hop where
  node : Nat
  marker : Nat
  op : Nat
  arg : Nat
  deriving DecidableEq, Repr

/-- A waiter on a marker (R226): `tag` is the tracked slot of core `node`; `till` the clock tick at which its TMO expires. -/
structure Waiter where
  marker : Nat
  node : Nat
  tag : Nat
  op : Nat
  arg : Nat
  till : Option Nat
  deriving DecidableEq, Repr

/-- A lease (R228): the tick at which it ends, or what is left of it while frozen (R229). -/
structure Lease where
  marker : Nat
  till : Nat
  frozen : Bool
  deriving DecidableEq, Repr

/-- What a packet carries that no tracked slot holds: packet `i` of `np` of message `mseq` on a channel, bytes written at an address with the marker
that is increased once they are acknowledged, or a marker operation whose reply nothing waits for. -/
inductive Cargo where
  | msg (chan mseq i np : Nat) (pkt : List Nat)
  | write (a : Nat) (bs : List Nat) (mrk : Option Nat)
  | mark (k op arg : Nat)
  deriving DecidableEq, Repr

/-- A packet on its way that no tracked slot holds (R18, R225): of the hub, of an engine, or of a core whose job has been aborted (R255); its class, and
its place among the packets sent. -/
structure Stray where
  src : Nat
  dst : Nat
  cls : Nat
  seq : Nat
  cargo : Cargo
  deriving DecidableEq, Repr

/-- The mesh, the Purl links and the marker files beside their registers. `cred` and `mseq` are keyed by source, destination and
channel; `num` numbers the packets in the order they are sent (R18); `flights` holds the numbers of the WRITE and READ packets of store movers that hold
end-to-end credit (R215), by source, destination and class; `stray` the packets that no slot holds, in the order they were sent; `once` holds the cores whose DEMOTE (below 32) or BADSRC (from 32) has been recorded this round (R231); `replays`
counts this round's replays of each Purl link; `hubBudget` is the hub's DEADLINE budget (R222). -/
structure Mesh where
  cred : List (Nat × Nat) := []
  mseq : List (Nat × Nat) := []
  num : Nat := 0
  flights : List (Nat × List Nat) := []
  stray : List Stray := []
  rets : List CredRet := []
  once : List Nat := []
  replays : List (Nat × Nat) := []
  hubBudget : Nat := 0
  hubBudget0 : Nat := 0
  hops : List Hop := []
  waiters : List Waiter := []
  leases : List Lease := []
  deriving DecidableEq, Repr

/-! ### Cores (chapters 10 to 12) -/

/-- A store-mover descriptor (Table 10.6). -/
structure Mover where
  dir : Nat
  cls : Nat
  transpose : Bool
  esize : Nat
  mrken : Bool
  node : Nat
  mrk : Nat
  src : Nat
  dst : Nat
  cols : Nat
  rows : Nat
  sstride : Nat
  dstride : Nat
  deriving DecidableEq, Repr

/-- What occupies a tracked slot (R219): a message that waits for its credits, one that is sent, a marker operation, a store-mover
descriptor. `gone` counts the packets delivered, `bad` is the first status of a packet other than ST_OK, `buf` the data a mover has read. -/
inductive Track where
  | want (dst chan cls addr len : Nat)
  | send (dst chan mseq cls addr len gone : Nat) (rsv : List Bool)
  | marker (k op arg tmo : Nat)
  | move (m : Mover) (gone bad : Nat) (buf : List Nat)
  deriving DecidableEq, Repr

/-- A tracked slot: its operation, the order it was issued in, whether a marker request has reached its file and waits there, the number its message
was `sent` under, the answer on its way (status, VALUE, OWNER) and its number `seq` (R18), and the status retained from the last operation of this job (R240). -/
structure Slot where
  op : Option Track := none
  ord : Nat := 0
  waits : Bool := false
  sent : Nat := 0
  answer : Option (Nat × Nat × Nat) := none
  seq : Nat := 0
  kept : Option Nat := none
  deriving DecidableEq, Repr

/-- A message that is arriving on a channel: `mode` 0 is written to the ring from slot `first`, 1 is swallowed in drain, 2 is
discarded for its MSEQ. On a channel of an engine: a message whole in the channel's buffer, its sender and slot in `first`, its bytes
in `body`. -/
structure Arriving where
  mseq : Nat
  mode : Nat
  first : Nat
  got : Nat
  body : List Nat := []
  deriving DecidableEq, Repr

/-- A receive channel (R217): expected MSEQ, next ring slot to write, messages arriving and messages ready (MSEQ, first slot,
packets), and the slots RECV has returned and MREL has not freed. -/
structure Chan where
  expect : Nat := 0
  wr : Nat := 0
  arr : List Arriving := []
  ready : List (Nat × Nat × Nat) := []
  out : Nat := 0
  deriving DecidableEq, Repr

/-- What the Control Processor waits for, the instruction after it being next: a message (`since` is the tick the wait began at), the
reply of a MOPB, the credits of a SEND, a stitch, a FENCE of classes `x`, a slot, a unit's queue, the fence of DONE; `held` is a MOPB that has its reply
and completes when the debugger resumes the core (R473). -/
inductive CpWait where
  | none
  | recv (rd chan limit since : Nat)
  | mopb (rd slot : Nat)
  | held (rd value lstat : Nat)
  | send (rd slot : Nat)
  | sleep (target : Nat)
  | fence (x : Nat)
  | waitt (rd slot : Nat)
  | unit (rd u : Nat)
  | done (user : Nat)
  deriving DecidableEq, Repr

/-- An operation in one of the three unit queues (R235): its descriptor, for an MRUN the weight load that binds its B, for an ORUN
the configuration in force at issue and the SEED captured, and its place in issue order (R270). -/
structure QOp where
  kind : Nat
  ord : Nat
  d : List Nat
  bound : List Nat := []
  seed : Nat := 0
  started : Bool := false
  deriving DecidableEq, Repr

/-- A unit queue with its two sticky bits and the count of completed operations. -/
structure UnitQ where
  q : List QOp := []
  stick1 : Bool := false
  stick2 : Bool := false
  done : Nat := 0
  deriving DecidableEq, Repr

/-- The output stage's setting in force (R288): its OCFG descriptor and the column tables. -/
structure OutCfg where
  d : List Nat := []
  scale : List Nat := []
  bias : List Nat := []
  deriving DecidableEq, Repr

/-- The 64-bit word of a data store at `addr` as it was before a write: operations issued before number `before` may still read it (R241);
`drain` says that the output stage wrote. -/
structure Stale where
  addr : Nat
  val : Nat
  before : Nat
  drain : Bool
  deriving DecidableEq, Repr

/-- A core beside its registers and stores. `g` is g0…g31; `hot` the register that the last load delays (R236); `ord` numbers
issued operations; `movq` the slots whose descriptors run, in order; `adds` the marker increments that wait for earlier
sends (marker, order); `inst` the Pattern instance it runs; `bound` the last MLOAD, `ocfg` the last OCFG issued; `wdLeft` the
ticks the watchdog has left at `wdMark` (none: held), `wdOn` that it is enabled (R250); `budget` its DEADLINE units of `budget0` loaded (R222); `old` words of the data store that
were overwritten while an operation could read them (R241); `stall` says that the next instruction has been waiting to issue, or
that DONE has to wait for its fence; `halted`, the STATE `was` under the halt, `hcause`, the PC `hpc` it halted at, the instructions a step
has `left`, the address whose breakpoint is passed over once, and the eight breakpoint and watchpoint registers `dbg` belong to
the debug port (R472 to R476); `avMargin`, `avLimit` count evaluations (R459). -/
structure Core where
  g : List Nat := List.replicate 32 0
  seed : Nat := 0
  terr : Nat := 0
  lstat : Nat := 0
  arg : Nat := 0
  startA : Nat := 0
  dlA : Nat := 0
  cyc : Nat := 0
  hot : Nat := 0
  ord : Nat := 0
  wait : CpWait := .none
  slots : List Slot := List.replicate 32 {}
  movq : List Nat := []
  adds : List (Nat × Nat) := []
  inst : Option Nat := none
  mtx : UnitQ := {}
  vp : UnitQ := {}
  out : UnitQ := {}
  bound : List Nat := []
  ocfg : List Nat := []
  cfg : OutCfg := {}
  wdLeft : Nat := 0
  wdMark : Option Nat := none
  wdOn : Bool := false
  budget : Nat := 0
  budget0 : Nat := 0
  chans : List Chan := List.replicate 16 {}
  old : List Stale := []
  chk : Option Nat := none
  avMargin : Nat := 0
  avLimit : Nat := 0
  stall : Bool := false
  halted : Bool := false
  was : Nat := 0
  hcause : Nat := 0
  hpc : Nat := 0
  left : Option Nat := none
  skip : Option Nat := none
  dbg : List Nat := List.replicate 8 0
  cells : List (Nat × Nat) := []
  deriving DecidableEq, Repr

/-! ### Solver engines (chapters 13 and 14) -/

/-- What a Lace program's header says (Table 14.1): CYC, NWORDS, INWORDS, OUTWORDS, WARMWORDS, and the address of word 0. -/
structure LaceProg where
  cyc : Nat
  nwords : Nat
  inw : Nat
  outw : Nat
  warmw : Nat
  code : Nat
  deriving DecidableEq, Repr

/-- The issue state of a Lace program (R325 to R331): next word, cycle of the last word issued, the cycle the next ADV counts from,
open repetitions (innermost first: first body word, LEN, COUNT, index), results in flight (cycle, register, value), units and banks
used in the current cycle; the fetch (R330): words fetched and the ones that are kept, words in the queue, the end of the body being fetched, the next cycle to fetch in; whether a word has faulted, and the cycle and registers of END. -/
structure LaceRun where
  pc : Nat := 0
  cyc : Nat := 0
  base : Nat := 0
  reps : List (Nat × Nat × Nat × Nat) := []
  lands : List (Nat × Nat × Nat) := []
  units : List Nat := []
  banks : List Nat := []
  fetched : Nat := 0
  held : List (Nat × Nat) := []
  inq : Nat := 0
  bodyEnd : Nat := 0
  fcyc : Nat := 0
  faulted : Bool := false
  ended : Option (Nat × Nat × Nat) := none
  deriving DecidableEq, Repr

/-- What a slot has latched (R302): the instance or none for a host kick, the page (2: no page has been committed) with its commit
count, ARG, and RND_COUNT at START. -/
structure Latch where
  inst : Option Nat
  page : Nat
  cmt : Nat
  arg : Nat
  round : Nat
  deriving DecidableEq, Repr

/-- A running solve: its slot and latch, WARMV at its start, whether it is stale and merely reported, its Lace program if sequenced,
register file, Lace issue state, pivots replaced, flags, first replaced pivot, tick of its start, whether its warm update is
discarded (R313), and its SEQ (R314). -/
structure Solve where
  slot : Nat
  latch : Latch
  warmv : Bool
  stale : Bool
  skip : Bool
  prog : Option LaceProg := none
  regs : List (Nat × DWord) := []
  lace : LaceRun := {}
  npiv : Nat := 0
  flags : Nat := 0
  pividx : Option Nat := none
  startAt : Nat := 0
  noWarm : Bool := false
  seq : Nat := 0
  deriving DecidableEq, Repr

/-- A problem slot beside its registers: its latches (oldest first), commits since it was enabled (full count), the count latched by
its previous solve and the count at the last reset (R307), solves since it was enabled, round and SEQ of the solve that wrote the warm area while it is valid (R313, R441), waiting requests,
the message with the core, channel and class it is for, the marker and the posting that SOLVER_RESULT_SEND still owes (R316), and the events
journalled this round. -/
structure PSlot where
  latch : List Latch := []
  commits : Nat := 0
  prev : Option Nat := none
  since : Nat := 0
  seq : Nat := 0
  warm : Option Nat := none
  warmSeq : Nat := 0
  pendReset : Bool := false
  pendCommit : Nat := 0
  send : Option (List Nat) := none
  sendTo : Nat × Nat × Nat := (0, 0, 0)
  addDue : Option Nat := none
  post : Option (List Nat) := none
  once : List Nat := []
  deriving DecidableEq, Repr

/-- A solver engine beside its registers and store; `d` is its register file as the last solve left it. -/
structure Engine where
  run : Option Solve := none
  d : List (Nat × DWord) := []
  slots : List PSlot := List.replicate 32 {}
  chans : List Chan := List.replicate 16 {}
  deriving DecidableEq, Repr

/-! ### Health (chapter 20) -/

/-- A unit fenced in the clock `clk`: its code (R363), the cause reported, where the cause stands in host memory if the posting has been written, and
the core as the fence found it. Another cause of that clock may still come (R454). -/
structure Strike where
  unit : Nat
  cause : Nat
  clk : Nat
  place : Option Nat := none
  was : Core := {}
  deriving DecidableEq, Repr

/-- What the health logic holds beside its registers: sensors above WARN, at CRIT and at TRIP (with their hysteresis), the tick each
sensor last updated, the fence log oldest first (packed as PWR_FLOG), the revive that runs (kind, index), this round's corrected
errors of each store (store × 64 + unit), the stores whose ECC_HIGH was raised this round, the round of each core's first checksum
fault (R448), the last consistent WSET and WCLR (R462), and the units fenced in the present clock (R454). -/
structure Hlth where
  warn : List Nat := []
  crit : List Nat := []
  trip : List Nat := []
  upd : List Nat := List.replicate 12 0
  flog : List Nat := []
  revive : Option (Nat × Nat) := none
  ecc : List (Nat × Nat) := []
  eccDone : List Nat := []
  chkRnd : List (Nat × Nat) := []
  pair : Nat × Nat := (100, 95)
  struck : List Strike := []
  deriving DecidableEq, Repr

/-! ### Cast-on, bind-off (chapter 19) -/

/-- What the boot logic holds beside its registers: `fw` the firmware region in 64 KiB units once an image is accepted (R434), RESET_N high, the
header of the accepted image, whether the ROM waits for a PCIe image, the check of R433 that slot A failed when slot B was accepted,
whether the bind-off area is being erased; of a bind-off: its trigger, the instances it aborted, solves completed and aborted, whether the halt has been
done, that BO_SOLVED has been written, the halt stamp, the severity-7 records taken (R440), a reset that waits for stage 6, and BINDOFF_DONE; that
the internal POR has released (R483), that LPA_RESET_N and LPB_RESET_N are low (R484), and that the transmitters, LPDDR and PCIe are parked
(stage 5). -/
structure Boot where
  fw : Nat := 0
  resetN : Bool := false
  hdr : List Nat := []
  waiting : Bool := false
  fallback : Option Nat := none
  erasing : Bool := false
  trig : Nat := 0
  aborted : Nat := 0
  solved : Nat × Nat := (0, 0)
  halted : Bool := false
  wroteSolved : Bool := false
  stamp : List Nat := []
  sev7 : Nat := 0
  held : Option Nat := none
  done : Bool := false
  porOut : Bool := false
  lpReset : Bool := true
  parked : Bool := false
  deriving DecidableEq, Repr

/-! ### Debug (chapter 21) -/

/-- The test access port: its instruction, and the DATA and STATUS that DBGACC captures. -/
structure Tap where
  ir : Nat := 2
  data : Nat := 0
  status : Nat := 0
  deriving DecidableEq, Repr

end Sys2Proof.Machine
end

