-- ==== Sys2Proof/Machine/Devices.lean ====
section
/-! DEFINITION. Machine/Devices.lean: what the check units, the sense ports, the Framer, the cameras, the pipelines, the bridge, the
test port and the power logic hold beyond their registers. -/

namespace Sys2Proof.Machine

/-! ### Check units (chapter 17) -/

/-- A check unit beside its registers: the CRC register, bytes of the current block, the trailer bytes so far, the guard's sample of the
block, LEN and GOFS the block uses, the last consistent pair, comparisons since the unit was enabled, that CHK_RESULT keeps a compared CRC (R400), and
that the next comparison is the first since EN, START or a set (R401). After reset the register holds the initial value of POLY 0. -/
structure Chk where
  crc : Nat := 0xFFFFFFFF
  n : Nat := 0
  trailer : List Nat := []
  samp : Option Nat := none
  len : Nat := 16
  gofs : Nat := 0
  lastLen : Nat := 16
  lastGofs : Nat := 0
  blocks : Nat := 0
  keeps : Bool := false
  first : Bool := true
  deriving DecidableEq, Repr

/-! ### The Framer (chapter 6) -/

/-- The samples a port delivers for one channel since the head entered UP: grid origin T0 in ticks, rate code, first and next expected
index (counted on beyond 2^32), and whether more may come. -/
structure Feed where
  t0 : Nat
  rate : Nat
  start : Nat := 0
  next : Nat := 0
  more : Bool := true
  begun : Bool := false
  deriving DecidableEq, Repr

/-- An output point: its absolute stitch (grid points lie on stitches), its FP32 value after GAIN, whether it is substituted, whether for input
that had not arrived, and the flags UNLOCK, OVR, CAL of its support in bits 2 to 4. -/
structure FPoint where
  stitch : Nat
  v : Nat
  sub : Bool
  late : Bool
  fl : Nat
  deriving DecidableEq, Repr

/-- A finalized window of a slot: first stitch, length in stitches, the stitch of its finalization, flags and NSTIME of the stamp of its first
stitch, format, codes of its points, which are substituted, and its Table 6.2 flags. -/
structure FWin where
  start : Nat
  len : Nat
  fin : Nat
  stFlags : Nat
  stNs : Nat
  fmt : Nat
  vals : List Nat
  mask : List Bool
  flags : Nat
  deriving DecidableEq, Repr

/-- A channel slot: the stream, the samples kept (index, count, SFLAGS, newest first), the restarts of its filter history (stitch, first index
of the new history, newest first), the next output point, recent points and finalized windows (newest first), the first stitch
of the oldest window not finalized, the last point that was not substituted, and whether the port's rate has changed to one that breaks R142
(R158). -/
structure FSlot where
  stream : Option Feed := none
  smp : List (Nat × Nat × Nat) := []
  restarts : List (Nat × Nat) := []
  point : Option Nat := none
  pts : List FPoint := []
  wins : List FWin := []
  win : Option Nat := none
  good : Option Nat := none
  rateBad : Bool := false
  deriving DecidableEq, Repr

/-- A trigger unit beside its registers: consecutive exceedances and the stitch of the first, consecutive evaluations below CLEAR, the last
consistent pair, and whether the floor has started. -/
structure Trg where
  run : Nat := 0
  first : Nat := 0
  clear : Nat := 0
  fire : Nat := 0x7F800000
  clr : Nat := 0
  floored : Bool := false
  deriving DecidableEq, Repr

/-- A firing: unit, slot, first stitch of the window it is assigned to, SELVAGE (R153). -/
structure Firing where
  unit : Nat
  slot : Nat
  win : Nat
  selv : Bool
  deriving DecidableEq, Repr

/-- A frame set whose COMMIT is still to be written: emission, core, address of the set, SEQ, class, marker. -/
structure Delivery where
  em : Nat
  core : Nat
  addr : Nat
  seq : Nat
  cls : Nat
  mrk : Option Nat
  deriving DecidableEq, Repr

/-- A capture-ring record queued for LPDDR: ring, round, address, bytes. -/
structure RingRec where
  ring : Nat
  round : Nat
  addr : Nat
  bytes : List Nat
  deriving DecidableEq, Repr

/-- The Framer beside its registers. `old` keeps, for each applied COMMIT (newest first), its stitch and the values in force before it of the
registers it changed, for windows that began earlier (R158); `seq`, `sent` and `emOn` are keyed by emission (sets delivered, first stitch
of the last window delivered, stitch at which it was enabled); `ringDone` the last round recorded for each ring. -/
structure Wfm where
  slots : List FSlot := List.replicate 48 {}
  trgs : List Trg := List.replicate 16 {}
  old : List (Nat × List (Nat × Word)) := []
  fires : List Firing := []
  trgq : List Nat := []
  seq : List (Nat × Nat) := []
  sent : List (Nat × Nat) := []
  emOn : List (Nat × Nat) := []
  out : List Delivery := []
  ringq : List RingRec := []
  ringDone : List (Nat × Nat) := []
  deriving DecidableEq, Repr

/-! ### The Field Bridge (chapter 16) -/

/-- A segment of the bridge: acceptance order, window, WSEQ of its item, read or write, route traffic, head identifier, head address, bytes of a
write, length; `st` 0 waits, 1 is at its port, 2 waits out a busy answer; its port and tag, the tick its SOM left, retries, the tick of
acceptance, the stitch from which it waits for a head credit or for its retry, and for a read the window offsets of its enabled
bytes and who reads. -/
structure FSeg where
  id : Nat
  win : Nat
  wseq : Nat
  read : Bool
  route : Bool
  hid : Nat
  addr : Nat
  data : List Nat
  len : Nat
  st : Nat := 0
  port : Nat := 0
  tag : Nat := 0
  sent : Nat := 0
  tries : Nat := 0
  acc : Nat := 0
  since : Option Nat := none
  ofs : List Nat := []
  rq : Requester := .host
  deriving DecidableEq, Repr

/-- A record of the error log (FBR_ELOG0 to 2). -/
structure FErr where
  e0 : Nat
  e1 : Nat
  e2 : Nat
  deriving DecidableEq, Repr

/-- A mailbox record whose COMMIT is still to be written: port, route, core, address of the slot, its number. -/
structure Mail where
  port : Nat
  route : Nat
  core : Nat
  addr : Nat
  n : Nat
  deriving DecidableEq, Repr

/-- An INT in its port's queue: stamp, header as received, line, data, identifier. -/
structure HeadInt where
  port : Nat
  stamp : List Nat
  hdr : List Nat
  line : Nat
  data : Nat
  id : Nat
  deriving DecidableEq, Repr

/-- The bridge beside its registers. `wseq` next WSEQ of each window, `log` the error log (oldest first), `elatch` ELOG1 and ELOG2 as each requester last
latched them, `tags` next tag of each port, `heldTags` tags held back (port, tag, until tick), `mails` mailbox commits owed, `mailN`
records of each route since its last valid write, `ints` the ports' INT queues in arrival order, `routes` the pairs in force. -/
structure Fbr where
  segs : List FSeg := []
  nextId : Nat := 0
  wseq : List (Nat × Nat) := []
  log : List FErr := []
  elatch : List (Nat × Nat) := []
  tags : List (Nat × Nat) := []
  heldTags : List (Nat × Nat × Nat) := []
  mails : List Mail := []
  mailN : List (Nat × Nat) := []
  ints : List HeadInt := []
  deriving DecidableEq, Repr

/-! ### Sense ports (chapter 5) -/

/-- An authenticated session (R131): key, SALT, the next MCNT to send and the next one expected. -/
structure Session where
  key : BitVec 128
  salt : Nat
  tx : Nat := 0
  rx : Nat := 0
  deriving DecidableEq, Repr

/-- A sense port beside its registers: the tick it entered its state, CAPS attempts, the identifier block in use, whether a CAPS ADMIT waits for
its ALIVE, alive counters of sent and accepted messages by identifier, T0, the next expected index of each channel, CADENCEs
queued, the ECHO outstanding (sequence, TTX) and the last sequence, rounds since the last ECHO, the forward estimates
behind FWD and the consecutive outliers (half ns, newest first), the last reverse estimate, exchanges done in CALIB, credits, tokens in sixteenths,
the last consistent TOK and BKT, hostile events and CRC errors and drops this round, ND of the open CHAL and the tick it left, whether a RESP to it has come, the serial of the admitted head, the session and the one before
it, the stitch of the last ALIVE, the stitch from which a CHAL of UP waits for a credit, a CONF of UP that waits for one (key, ND, NH, stitch), UNC
before its field saturates, and the last message sent. -/
structure Port where
  since : Nat := 0
  tries : Nat := 0
  base : Nat := 0xFFF0
  idGiven : Bool := false
  txAlive : List (Nat × Nat) := []
  rxAlive : List (Nat × Nat) := []
  t0 : Option Nat := none
  expect : List (Nat × Nat) := []
  cadences : Nat := 0
  echo : Option (Nat × Nat) := none
  echoSeq : Nat := 0
  echoRnd : Nat := 0
  fwd : List Int := []
  out : List Int := []
  rev : Int := 0
  calib : Nat := 0
  credits : Nat := 0
  tokens : Nat := 64 * 16
  tok : Nat := 64
  bkt : Nat := 64
  hostile : Nat := 0
  crcs : Nat := 0
  dropped : Bool := false
  nd : Option (BitVec 96 × Nat) := none
  resp : Bool := false
  adm : Nat := 0
  sess : Option Session := none
  prev : Option Session := none
  alive : Nat := 0
  chalWait : Option Nat := none
  confWait : Option (BitVec 128 × BitVec 96 × List Nat × Nat) := none
  unc : Nat := 0
  lastTx : List Nat := []
  deriving DecidableEq, Repr

/-! ### Cameras and pipelines (chapters 7 and 8) -/

/-- A pending FSYNC edge (R172): its tick, the LEAD in 50 ns units, whether it could not lead the centre, and the exact exposure-centre stamp
once taken: absolute phase, NSTIME, flags. -/
structure Edge where
  tick : Nat
  lead : Nat
  miss : Bool
  centre : Option (Nat × Nat × Nat) := none
  deriving DecidableEq, Repr

/-- A placed pulse whose edge is still to be driven: tick, LEAD, WIDTH in µs, CENTRE_MISS. -/
structure Pulse where
  tick : Nat
  lead : Nat
  width : Nat
  miss : Bool
  deriving DecidableEq, Repr

/-- A camera port beside its registers: the pulse placed, the tick its last pulse ends, pending edges (oldest first), delivery count and
frames still to skip of each descriptor, the tick of the last long packet of the open frame, the events recorded for this frame, and the longest
line and the lines of the open frame. -/
structure CamPort where
  plan : Option Pulse := none
  pulseEnd : Option Nat := none
  edges : List Edge := []
  counts : List (Nat × Nat) := List.replicate 6 (0, 0)
  last : Nat := 0
  once : List Nat := []
  wide : Nat := 0
  lines : Nat := 0
  deriving DecidableEq, Repr

/-- A delivery of one frame: descriptor, its three words (CAM_DLVCFG, CAM_DLVADDR, CAM_DLVSIZE), its count n. -/
structure Dlv where
  k : Nat
  cfg : Nat
  addr : Nat
  size : Nat
  seq : Nat
  deriving DecidableEq, Repr

/-- A frame in a live pipeline: what its tag says, its window, the window rows that arrived (row, samples), embedded lines and the length of
the longest, its deliveries, the outputs that failed their check, the tick of its last window line, whether it has closed, and whether
its last rows have been presented. -/
structure Frame where
  fcnt : Nat
  stamp : List Nat
  round : Nat
  tflags : Nat
  errlines : Nat := 0
  vc : Nat
  dt : Nat
  fsrnd : Nat
  fsphase : Nat
  x0 : Nat
  y0 : Nat
  w : Nat
  h : Nat
  emb : List (List Nat) := []
  embLen : Nat := 0
  rows : List (Nat × List Nat) := []
  dlvs : List Dlv
  bad : List Nat
  lastAt : Nat
  closed : Bool := false
  done : Bool := false
  deriving DecidableEq, Repr

/-- A delivery whose rows are written and whose header and COMMIT are still to come: FCNT of the frame whose slot it holds (none once the
delivery is cut), its descriptor's words, header bytes 0–59. -/
structure Owed where
  fcnt : Option Nat
  dlv : Dlv
  hdr : List Nat
  deriving DecidableEq, Repr

/-- A live pipeline beside its registers: the parameter block in force, frames (oldest first), deliveries owed, the round and the key
(W, H, MOSAIC, PHASE, BL, NGAIN, REFBASE) of the reference while it is valid. -/
structure LivePipe where
  pb : List Nat := []
  frames : List Frame := []
  owed : List Owed := []
  ref : Option (Nat × List Nat) := none
  deriving DecidableEq, Repr

/-- A frame that runs on a re-process pipeline: context, instance or none for a kick, address of the source buffer, its SEQ, its header, and
the tick it started at. -/
structure RpRun where
  ctx : Nat
  inst : Option Nat
  addr : Nat
  seq : Nat
  hdr : List Nat
  startAt : Nat
  deriving DecidableEq, Repr

/-- A re-process pipeline beside its registers: the running frame, and of each context the parameter block in force, the delivery counts
and frames to skip, and whether it has processed a buffer. -/
structure RePipe where
  run : Option RpRun := none
  pbs : List (List Nat) := List.replicate 16 []
  counts : List (List (Nat × Nat)) := List.replicate 16 (List.replicate 4 (0, 0))
  seen : List Bool := List.replicate 16 false
  deriving DecidableEq, Repr

/-- A frame of a source of the transmitter: its VC, the descriptor and frame it serves (pipeline 0–5, 6–7; no frame once it is cut), and the
packets to send (data type, bytes): 0 is FS and 1 FE, with the frame number. The first four lines among those of one VC hold its queue
credit (R178); later ones are presented as these leave. -/
structure TxSrc where
  vc : Nat
  pipe : Nat
  k : Nat
  fcnt : Option Nat
  pkts : List (Nat × List Nat)
  deriving DecidableEq, Repr

/-- The transmitter beside its registers: its sources, the VC served last, the last packet sent (VC, data type, bytes), FEs since the last
one after which a periodic deskew was due, deskew sequences due and sent. -/
structure Tx where
  srcs : List TxSrc := []
  last : Nat := 15
  sent : Option (Nat × Nat × List Nat) := none
  fes : Nat := 0
  due : Nat := 0
  deskews : Nat := 0
  deriving DecidableEq, Repr

/-- Cameras and pipelines; `profs` the last consistent profiles (CAM_FSPROF_LO, CAM_FSPROF_HI). -/
structure Cam where
  ports : List CamPort := List.replicate 6 {}
  profs : List (Nat × Nat) := List.replicate 8 (0, 0x2800)
  lps : List LivePipe := List.replicate 6 {}
  rps : List RePipe := [{}, {}]
  tx : Tx := {}
  deriving DecidableEq, Repr

/-- The last completion that the device answered a read request with, or the last abort of a posted write: requester, status (0 successful,
1 Completer Abort, 2 Unsupported Request), whether the data is poisoned, the bytes. -/
structure Resp where
  rq : Requester := .host
  st : Nat := 0
  poison : Bool := false
  data : List Nat := []
  deriving DecidableEq, Repr

end Sys2Proof.Machine
end

