-- ==== Sys2Proof/Machine/State.lean ====
section
/-! DEFINITION. Machine/State.lean: why a command stops, the state of the whole block as plain data, and the state right after a
power-on reset. What a register shows lives in the register file `regs`, once; the other fields hold what the spec gives the
block beyond its registers. A staged field has two homes: the staged copy at its offset and the value in force 0x800 above. -/

namespace Sys2Proof.Machine
open Sys2Proof

/-- Why the block stops with a fault. -/
inductive Fault where
  /-- A command names a unit, port, ring, channel or slot that the spec does not give the block. Raised by every meaning that takes such
  a number. Safe: no such command can be sent. -/
  | noSuchUnit
  deriving DecidableEq, Repr

/-- Why a command is refused by the model. -/
inductive Refusal where
  /-- The command has no meaning in this model yet. Safe. -/
  | notModelled (mnemonic : String)
  /-- DBGACC is updated with OP 3, which Table 21.2 calls reserved and gives no effect. Raised by DBGACC_UPDATE. Safe. -/
  | reservedOp
  deriving DecidableEq, Repr

/-- The whole block. -/
structure State where
  /-- The commands that wait, first in, first out. -/
  pending : List Instr := []
  /-- The register file: every register of BAR0 by its offset (R74); values in force of staged fields lie 0x800 above (R95). -/
  regs : List (Nat × Word) := []
  /-- The latched high halves of 64-bit pairs, by requester (R84). -/
  latch : List (Nat × Word) := []
  /-- The staged low or high halves of 64-bit pairs, by requester (R84). -/
  stage : List (Nat × Word) := []
  /-- The data stores of the 32 cores, core `n` from `n · 2^20` (R89, Table 4.4). -/
  data : List Host.Cell := []
  /-- Their instruction stores, core `n` from `n · 2^16` (R89, R258). -/
  inst : List Host.Cell := []
  /-- The stores of the two solver engines, engine `k` from `k · 2^21` (R89). -/
  sol : List Host.Cell := []
  /-- The hub store (R89). The Journal's buffer and the restore region are shown in it (R411, R443). -/
  hub : List Host.Cell := []
  /-- LPDDR (R93). -/
  lpddr : List Host.Cell := []
  /-- The NOR flash: images, bind-off area and the Journal's partition (R417, R432, R442). -/
  nor : List Host.Cell := []
  /-- Host memory, which the block reads and writes by DMA (R340). -/
  host : List Host.Cell := []
  /-- The model's own counter of free values; no register shows it. -/
  free : Nat := 0
  /-- The Round engine behind its registers. -/
  rnd : Rnd := {}
  /-- The PCIe endpoint. -/
  hif : Hif := {}
  /-- The four command rings behind their registers. -/
  rings : List Ring := [{}, {}, {}, {}]
  /-- The status ring behind its registers. -/
  sring : Sring := {}
  /-- Keys, the journal-clear key, the nonce and the failed clears. -/
  sec : Sec := {}
  /-- The Journal behind its registers. -/
  jrn : Jrn := {}
  /-- The Pattern: admitted and active image, instances, re-admission. -/
  pat : Pat := {}
  /-- Tracking slots' credits, marker queues and Purl. -/
  mesh : Mesh := {}
  /-- The 32 cores. -/
  cores : List Core := List.replicate 32 {}
  /-- Their accumulator files, core `n` from `n · 2^16` (R261). -/
  acc : List (Nat × Word) := []
  /-- The two solver engines. -/
  engines : List Engine := [{}, {}]
  /-- Fences, sensors, capping and frequency scaling. -/
  hlth : Hlth := {}
  /-- Cast-on and bind-off. -/
  boot : Boot := {}
  /-- The eight check units. -/
  chk : List Chk := List.replicate 8 {}
  /-- The Framer. -/
  wfm : Wfm := {}
  /-- The Field Bridge. -/
  fbr : Fbr := {}
  /-- The six sense ports. -/
  ports : List Port := List.replicate 6 {}
  /-- The last response to a read. -/
  resp : Resp := {}
  /-- Cameras, pipelines and the transmitter. -/
  cam : Cam := {}
  /-- The test access port. -/
  tap : Tap := {}
  deriving DecidableEq, Repr

/-- The block after a power-on reset (R429): every register at its reset value, every store empty, the clocks of Table 19.2's phase 0. -/
def State.reset : State := {}

end Sys2Proof.Machine
end

