-- ==== Sys2Proof/Machine/Regs.lean ====
section
/-! DEFINITION. Machine/Regs.lean: reading and writing the register file, the stores and the fields of registers, once for all. -/

namespace Sys2Proof.Machine
open Sys2Proof Sys2Proof.Machine.Reg

/-! ### Small list helpers -/

/-- Entry `i` of a list of units, or the default. -/
def nth {α : Type} [Inhabited α] (l : List α) (i : Nat) : α := l.getD i default

/-- `l` with entry `i` changed by `f`. -/
def modNth {α : Type} (l : List α) (i : Nat) (f : α → α) : List α := l.modify i f

/-- The value under key `k` of an association list. -/
def look {α : Type} (l : List (Nat × α)) (k : Nat) : Option α := (l.find? (fun p => p.1 = k)).map Prod.snd

/-- `l` with `k` bound to `v`, in rising key order. -/
def bind {α : Type} (l : List (Nat × α)) (k : Nat) (v : α) : List (Nat × α) := sparseInsert k v l

/-- `l` without key `k`. -/
def unbind {α : Type} (l : List (Nat × α)) (k : Nat) : List (Nat × α) := sparseErase k l

/-- The numbers below `n` whose bit is set in `m`. -/
def bitsOf (m n : Nat) : List Nat := (List.range n).filter (fun i => m.testBit i)

/-- The little-endian value of a list of bytes. -/
def ofBytes : List Nat → Nat
  | [] => 0
  | b :: t => b % 256 + 256 * ofBytes t

/-- The `n` little-endian bytes of a value (R9). -/
def toBytes : Nat → Nat → List Nat
  | 0, _ => []
  | n + 1, v => v % 256 :: toBytes n (v / 256)

/-- A two's complement number of `w` bits, read as an integer. -/
def sInt (w v : Nat) : Int := if v % 2 ^ w < 2 ^ (w - 1) then (v % 2 ^ w : Nat) else ((v % 2 ^ w : Nat) : Int) - ((2 ^ w : Nat) : Int)

/-- An integer as a two's complement number of `w` bits. -/
def uInt (w : Nat) (v : Int) : Nat := (v % ((2 ^ w : Nat) : Int)).toNat

/-! ### Reset values of the register file -/

/-- The cards of the block that claims offset `a` (Table 4.1). -/
def cardsAt (a : Nat) : List Card :=
  if a < 0x10000 then cardsHIF
  else if a < 0x20000 then cardsCMD1 ++ cardsCMD2
  else if a < 0x30000 then cardsRND1 ++ cardsRND2
  else if a < 0x40000 then cardsPAT
  else if a < 0x50000 then cardsMRK
  else if a < 0x60000 then cardsWFM1 ++ cardsWFM2
  else if a < 0x80000 then cardsMOL1 ++ cardsMOL2
  else if a < 0x90000 then cardsCAM1 ++ cardsCAM2
  else if a < 0xA0000 then cardsISP1 ++ cardsISP2
  else if a < 0xB0000 then cardsFBR
  else if a < 0xC0000 then cardsCHK
  else if a < 0xD0000 then cardsJRN
  else if a < 0xE0000 then cardsPWR1 ++ cardsPWR2 ++ cardsCLK
  else if a < 0xF0000 then cardsSEC
  else if a < 0x100000 then cardsDBG
  else if a < 0x300000 then cardsCORE1 ++ cardsCORE2
  else if a < 0x320000 then cardsSOL1 ++ cardsSOL2
  else if a < 0x410000 then cardsMESH ++ cardsPURL
  else cardsTMP

/-- The card of the register at offset `a`, in the lower half of its page (R76). -/
def cardAt (a : Nat) : Option Card := (cardsAt a).find? (fun c => (c.rg.index a).isSome)

/-- The MSI-X table and the PBA (R341). -/
def isMsixTable (a : Nat) : Bool := decide (0x8000 ≤ a ∧ a < 0x8400)
def isPba (a : Nat) : Bool := decide (a = 0x9000 ∨ a = 0x9004)

/-- The reset value of the register whose home is `a`. A register in the upper half of its page is the value in force of the
register 0x800 below it, with the same reset value. Fused fields come from Config (R1, R338, R367); an MSI-X vector
control word resets to masked (R341); WFM_LPCOEF, JRN_RATE and TMP_LIM reset as their Meaning column says. -/
def regReset (a0 : Nat) : Word :=
  let a := if a0 % 0x1000 < 0x800 then a0 else a0 - 0x800
  if a = HIF_ID.base then BitVec.ofNat 32 (0x0960 + Config.stepping.toNat * 65536 + (if Config.gradeXQ then 2 ^ 24 else 0))
  else if a = HIF_SERIAL_LO.base then BitVec.ofNat 32 Config.serial.toNat
  else if a = HIF_SERIAL_HI.base then BitVec.ofNat 32 (Config.serial.toNat / 2 ^ 32)
  else if a = HIF_PCIID.base then BitVec.ofNat 32 (0x0960 + Config.vendor.toNat * 65536)
  else if a = SEC_STATUS.base then BitVec.ofNat 32 (Config.minSvn.toNat * 65536 + (if Config.fusedJck.isSome then 1 else 0))
  else if a = DBG_STATUS.base then BitVec.ofNat 32 (if Config.debugFused then 2 ^ DBG_STATUS_FUSEDIS.lo else 0)
  else if a = TMP_LIM.base then (if Config.gradeXQ then 0x877D5F64 else 0x786E5F64)
  else if isMsixTable a then (if a % 16 = 12 then 1 else 0)
  else
    match WFM_LPCOEF.index a with
    | some (_, i) => if i = 0 then 0x3F800000 else 0
    | none =>
      match JRN_RATE.index a with
      | some (s, _) => if s ≤ 1 then 0x1004 else if s ≤ 5 then 0x4010 else 0
      | none =>
        match cardAt a with
        | some c => BitVec.ofNat 32 c.reset
        | none => 0

/-! ### The register file -/

/-- The register at offset `a`. -/
def State.reg (s : State) (a : Nat) : Word := sparseGet regReset s.regs a

/-- The register at offset `a` takes the value `v`. -/
def State.setReg (s : State) (a : Nat) (v : Word) : State := { s with regs := sparseSet regReset s.regs a v }

/-- Field `f` of the (i, j)th register of its array. -/
def State.fld (s : State) (f : Fld) (i : Nat := 0) (j : Nat := 0) : Nat := bits (s.reg (f.rg.at i j)) f.lo f.w

/-- The value in force of a staged field (R95). -/
def State.live (s : State) (f : Fld) (i : Nat := 0) (j : Nat := 0) : Nat := bits (s.reg (f.rg.at i j + 0x800)) f.lo f.w

/-- A field takes the low bits of `v`. -/
def State.setFld (s : State) (f : Fld) (v : Nat) (i : Nat := 0) (j : Nat := 0) : State :=
  s.setReg (f.rg.at i j) (setBits (s.reg (f.rg.at i j)) f.lo f.w v)

/-- A staged field's value in force takes the low bits of `v`. -/
def State.setLive (s : State) (f : Fld) (v : Nat) (i : Nat := 0) (j : Nat := 0) : State :=
  s.setReg (f.rg.at i j + 0x800) (setBits (s.reg (f.rg.at i j + 0x800)) f.lo f.w v)

/-- A counting field counts, saturating at its width. -/
def State.count (s : State) (f : Fld) (n : Nat := 1) (i : Nat := 0) (j : Nat := 0) : State :=
  s.setFld f (min (s.fld f i j + n) (2 ^ f.w - 1)) i j

/-- A field that wraps counts. -/
def State.countWrap (s : State) (f : Fld) (n : Nat := 1) (i : Nat := 0) (j : Nat := 0) : State :=
  s.setFld f (s.fld f i j + n) i j

/-- A single bit field is set. -/
def State.flag (s : State) (f : Fld) (i : Nat := 0) (j : Nat := 0) : Bool := s.fld f i j = 1

/-- A whole register as a number. -/
def State.regN (s : State) (r : Rg) (i : Nat := 0) (j : Nat := 0) : Nat := (s.reg (r.at i j)).toNat

/-- A whole register in force as a number. -/
def State.liveN (s : State) (r : Rg) (i : Nat := 0) (j : Nat := 0) : Nat := (s.reg (r.at i j + 0x800)).toNat

/-- A whole register takes the number `v`. -/
def State.setRegN (s : State) (r : Rg) (v : Nat) (i : Nat := 0) (j : Nat := 0) : State :=
  s.setReg (r.at i j) (BitVec.ofNat 32 v)

/-! ### Stores -/

/-- A byte of a store whose unlisted bytes read `d`. -/
def memGet (d : Byte) (m : List Host.Cell) (a : Nat) : Byte := sparseGet (fun _ => d) m a

/-- A byte of a store is written. -/
def memSet (d : Byte) (m : List Host.Cell) (a : Nat) (v : Byte) : List Host.Cell := sparseSet (fun _ => d) m a v

/-- The canonical form of a store: addresses rise strictly and no listed byte equals what an unlisted one reads as. -/
abbrev Memory.wf (d : Byte) (m : List Host.Cell) : Prop := sparseWf (fun _ => d) m = true

/-- `n` bytes from `a`. -/
def memBytes (d : Byte) (m : List Host.Cell) (a n : Nat) : List Nat := (List.range n).map (fun i => (memGet d m (a + i)).toNat)

/-- Bytes `bs` are written from `a` upward. -/
def memPut (d : Byte) : List Host.Cell → Nat → List Nat → List Host.Cell
  | m, _, [] => m
  | m, a, b :: t => memPut d (memSet d m a (BitVec.ofNat 8 b)) (a + 1) t

/-- Bytes `bs` are written from `a` upward where `be` enables them. -/
def memPutBE (d : Byte) : List Host.Cell → Nat → List (Nat × Bool) → List Host.Cell
  | m, _, [] => m
  | m, a, (b, e) :: t => memPutBE d (if e then memSet d m a (BitVec.ofNat 8 b) else m) (a + 1) t

/-- What a byte nothing has written reads as: 0 in the data, solver and hub stores and in LPDDR and host memory, 0xFF in an
instruction store (R258) and in erased flash. -/
def dflt0 : Byte := 0
def dfltF : Byte := 0xFF

/-- The data store of core `n` lies at `n · 2^20`, its instruction store at `n · 2^16`, the store of engine `k` at `k · 2^21`. -/
def dataAt (n a : Nat) : Nat := n * 0x100000 + a
def instAt (n a : Nat) : Nat := n * 0x10000 + a
def solAt (k a : Nat) : Nat := k * 0x200000 + a

def State.dataLE (s : State) (n a w : Nat) : Nat := ofBytes (memBytes dflt0 s.data (dataAt n a) w)

/-- Core `n`, and a change of it. -/
def State.core (s : State) (n : Nat) : Core := s.cores.getD n {}
def State.modCore (s : State) (n : Nat) (f : Core → Core) : State := { s with cores := s.cores.modify n f }

/-- An operation of core `n` is queued or runs, and may read the data store (R241). -/
def Core.reading (c : Core) : Bool :=
  !c.mtx.q.isEmpty || !c.vp.q.isEmpty || !c.out.q.isEmpty || c.slots.any (fun t => t.op.isSome)

/-- The 64-bit words of the data store that the `len` bytes from `a` touch. -/
def wordsOf (a len : Nat) : List Nat := if len = 0 then [] else (List.range ((a + len - 1) / 8 - a / 8 + 1)).map (fun i => (a / 8 + i) * 8)

/-- Bytes are written to the data store of core `n`, by its output stage if `drain`. While an operation of the core can read them, the
words as they were are kept, since such an operation is delivered, for each 64-bit word, the old value or the new one (R241, R292). -/
def State.putData (s : State) (n a : Nat) (bs : List Nat) (drain : Bool := false) : State :=
  let s := if (s.core n).reading then
      s.modCore n (fun c => { c with
        old := c.old ++ (wordsOf a bs.length).map (fun w => { addr := w, val := s.dataLE n w 8, before := c.ord, drain := drain }) })
    else s
  { s with data := memPut dflt0 s.data (dataAt n a) bs }

/-- An operation issued as number `o` may still read the overwritten word: it had been issued when the word was written (R241), and it is
not an output-stage operation (`out`) behind the ORUN that wrote it (R292). -/
def Stale.shows (x : Stale) (o : Nat) (out : Bool) : Bool := decide (o < x.before) && !(out && x.drain)

/-- The word at `w` as operation `o` of core `n` reads it: the current one, or, where it was overwritten while the operation was
queued or ran, a free choice among the values it has had (R241). -/
def State.opWord (s : State) (n o : Nat) (out : Bool) (w : Nat) : Nat :=
  let l := s.dataLE n w 8 :: ((s.core n).old.filter (fun x => decide (x.addr = w) && x.shows o out)).map Stale.val
  l.getD (Config.pick s.free w % l.length) 0

/-- `len` little-endian bytes at `a` as operation `o` reads them; at most 8, within one or two words. -/
def State.opLE (s : State) (n o a len : Nat) (out : Bool := false) : Nat :=
  let lo := s.opWord n o out (a / 8 * 8)
  let v := if a % 8 + len ≤ 8 then lo else lo + 2 ^ 64 * s.opWord n o out (a / 8 * 8 + 8)
  v / 2 ^ (8 * (a % 8)) % 2 ^ (8 * len)

/-- `len` bytes at `a` as operation `o` reads them. -/
def State.opBytes (s : State) (n o a len : Nat) : List Nat := (List.range len).map (fun i => s.opLE n o (a + i) 1)

/-- Accumulator entry `i` of core `n` (R261). -/
def accAt (n i : Nat) : Nat := n * 65536 + i
def State.accGet (s : State) (n i : Nat) : Nat := (sparseGet (fun _ => 0) s.acc (accAt n i)).toNat
def State.accSet (s : State) (n i v : Nat) : State := { s with acc := sparseSet (fun _ => 0) s.acc (accAt n i) (BitVec.ofNat 32 v) }
/-- The accumulator file of core `n` reads zero (R261). -/
def State.accClear (s : State) (n : Nat) : State :=
  { s with acc := s.acc.filter (fun p => decide (p.1 < accAt n 0 ∨ accAt n 65536 ≤ p.1)) }

/-- The little-endian field of `n` bytes at offset `ofs` of a structure. -/
def fieldLE (bs : List Nat) (ofs n : Nat) : Nat := ofBytes ((bs.drop ofs).take n)
def State.solLE (s : State) (k a w : Nat) : Nat := ofBytes (memBytes dflt0 s.sol (solAt k a) w)
def State.putSol (s : State) (k a : Nat) (bs : List Nat) : State := { s with sol := memPut dflt0 s.sol (solAt k a) bs }
def State.hostBytes (s : State) (a n : Nat) : List Nat := memBytes dflt0 s.host a n
def State.hostLE (s : State) (a n : Nat) : Nat := ofBytes (s.hostBytes a n)
def State.putHost (s : State) (a : Nat) (bs : List Nat) : State := { s with host := memPut dflt0 s.host a bs }
def State.lpddrBytes (s : State) (a n : Nat) : List Nat := memBytes dflt0 s.lpddr a n
def State.putLpddr (s : State) (a : Nat) (bs : List Nat) : State := { s with lpddr := memPut dflt0 s.lpddr a bs }

/-! ### Free values -/

/-- The counter of free values advances. -/
def State.draw (s : State) : State := { s with free := s.free + 1 }

end Sys2Proof.Machine
end

