-- ==== Sys2Proof/Machine/Formats.lean ====
section
/-! DEFINITION. Machine/Formats.lean: number formats and rounding (chapter 12, R280 to R286), and IEEE 754-2019 binary32 and
binary64 arithmetic with round to nearest even (R264, R283, R295). A number is held exactly; every operation computes
exactly and rounds once. -/

namespace Sys2Proof.Machine
open Sys2Proof

/-- A decoded number: NaN, an infinity, or (−1)^neg · m · 2^e. -/
inductive Num where
  | nan
  | inf (neg : Bool)
  | fin (neg : Bool) (m : Nat) (e : Int)
  deriving DecidableEq, Repr

/-- Rounding modes of Table 12.4; SR carries the 32-bit value h of R285. -/
inductive Rmode where
  | rne
  | rtz
  | sr (h : Nat)
  deriving DecidableEq, Repr

def Num.zero : Num := .fin false 0 0
def Num.isNan : Num → Bool
  | .nan => true
  | _ => false
def Num.isFin : Num → Bool
  | .fin .. => true
  | _ => false
def Num.isZero : Num → Bool
  | .fin _ 0 _ => true
  | _ => false
def Num.neg : Num → Num
  | .nan => .nan
  | .inf s => .inf (!s)
  | .fin s m e => .fin (!s) m e
def Num.abs : Num → Num
  | .nan => .nan
  | .inf _ => .inf false
  | .fin _ m e => .fin false m e

/-- The bit length of a number. -/
def bitLen (n : Nat) : Nat := if n = 0 then 0 else Nat.log2 n + 1

/-! ### Exact arithmetic -/

/-- The signed significand of a finite number on the grid 2^q, for q at or below its exponent. -/
def onGrid (s : Bool) (m : Nat) (e q : Int) : Int :=
  let v : Int := ((m * 2 ^ (e - q).toNat : Nat) : Int)
  if s then -v else v

/-- The exact product. -/
def Num.mul : Num → Num → Num
  | .nan, _ => .nan
  | _, .nan => .nan
  | .inf s, .inf t => .inf (s != t)
  | .inf s, .fin t m _ => if m = 0 then .nan else .inf (s != t)
  | .fin s m _, .inf t => if m = 0 then .nan else .inf (s != t)
  | .fin s m e, .fin t n f => .fin (s != t) (m * n) (e + f)

/-- The exact sum; an exact zero is negative only if both terms are. -/
def Num.add : Num → Num → Num
  | .nan, _ => .nan
  | _, .nan => .nan
  | .inf s, .inf t => if s = t then .inf s else .nan
  | .inf s, .fin .. => .inf s
  | .fin .., .inf t => .inf t
  | .fin s m e, .fin t n f =>
    let q := min e f
    let v := onGrid s m e q + onGrid t n f q
    if v = 0 then .fin (if m = 0 ∧ n = 0 then s && t else false) 0 q
    else .fin (decide (v < 0)) v.natAbs q

def Num.sub (a b : Num) : Num := a.add b.neg

/-- a is less than b, as numbers (a NaN is less than nothing). -/
def Num.lt (a b : Num) : Bool :=
  match a, b with
  | .nan, _ => false
  | _, .nan => false
  | .inf s, .inf t => s && !t
  | .inf s, .fin .. => s
  | .fin .., .inf t => !t
  | .fin s m e, .fin t n f => decide (onGrid s m e (min e f) < onGrid t n f (min e f))

/-- The exact quotient, as far as rounding to 64 bits or fewer can tell: the last bit stands for what is below it. -/
def Num.div : Num → Num → Num
  | .nan, _ => .nan
  | _, .nan => .nan
  | .inf _, .inf _ => .nan
  | .inf s, .fin t _ _ => .inf (s != t)
  | .fin s _ e, .inf t => .fin (s != t) 0 e
  | .fin s m e, .fin t n f =>
    if n = 0 then (if m = 0 then .nan else .inf (s != t))
    else
      let k : Nat := 70 + bitLen n
      let q := m * 2 ^ k / n
      let r := m * 2 ^ k % n
      .fin (s != t) (2 * q + (if r = 0 then 0 else 1)) (e - f - k - 1)

/-- The exact square root, as far as rounding to 64 bits or fewer can tell. -/
def Num.sqrt : Num → Num
  | .nan => .nan
  | .inf s => if s then .nan else .inf false
  | .fin s m e =>
    if m = 0 then .fin s 0 e
    else if s then .nan
    else
      let odd : Bool := decide (e % 2 ≠ 0)
      let m' := if odd then 2 * m else m
      let e' := if odd then e - 1 else e
      let k : Nat := 70
      let x := m' * 2 ^ (2 * k)
      let q := Nat.sqrt x
      .fin false (2 * q + (if q * q = x then 0 else 1)) (e' / 2 - k - 1)

/-! ### Rounding (R284) -/

/-- The neighbours' significand of m · 2^e on the grid of `p` significant bits, never finer than 2^qmin: the rounded significand, its
exponent, and whether it is exact. -/
def roundMag (p : Nat) (qmin : Option Int) (mode : Rmode) (m : Nat) (e : Int) : Nat × Int × Bool :=
  let q0 := e + (bitLen m : Int) - (p : Int)
  let q := match qmin with
    | some z => max q0 z
    | none => q0
  if q ≤ e then (m * 2 ^ (e - q).toNat, q, true)
  else
    let d := 2 ^ (q - e).toNat
    let a := m / d
    let r := m % d
    let up := match mode with
      | .rne => decide (d < 2 * r ∨ (d = 2 * r ∧ a % 2 = 1))
      | .rtz => false
      | .sr h => decide (h < r * 2 ^ 32 / d)
    (if up then a + 1 else a, q, decide (r = 0))

/-- A rounded magnitude sig · 2^q in a binary format of `eb` exponent and `fb` fraction bits; beyond the largest finite value, that value if
`trunc` (RTZ gives the neighbour nearer to zero), else an infinity. -/
def packBin (eb fb : Nat) (trunc neg : Bool) (sig : Nat) (q : Int) : Nat :=
  let sign := if neg then 2 ^ (eb + fb) else 0
  let (sig, q) := if sig = 2 ^ (fb + 1) then (2 ^ fb, q + 1) else (sig, q)
  if sig = 0 then sign
  else if sig < 2 ^ fb then sign + sig
  else
    let e := q + (2 ^ (eb - 1) - 1 : Nat) + (fb : Int)
    if ((2 ^ eb - 1 : Nat) : Int) ≤ e then sign + (2 ^ eb - 1) * 2 ^ fb - (if trunc then 1 else 0)
    else sign + e.toNat * 2 ^ fb + (sig - 2 ^ fb)

/-- A number rounded into binary32 (eb 8, fb 23) or binary64 (eb 11, fb 52); a NaN is the quiet NaN with no payload. -/
def Num.toBin (eb fb : Nat) (mode : Rmode) : Num → Nat
  | .nan => (2 ^ eb - 1) * 2 ^ fb + 2 ^ (fb - 1)
  | .inf s => (if s then 2 ^ (eb + fb) else 0) + (2 ^ eb - 1) * 2 ^ fb
  | .fin s m e =>
    if m = 0 then (if s then 2 ^ (eb + fb) else 0)
    else
      let (sig, q, _) := roundMag (fb + 1) (some (((2 : Int) - ((2 ^ (eb - 1) : Nat) : Int)) - (fb : Int))) mode m e
      packBin eb fb (decide (mode = .rtz)) s sig q

/-- The number a binary format's code stands for. -/
def ofBin (eb fb w : Nat) : Num :=
  let s := decide (w / 2 ^ (eb + fb) % 2 = 1)
  let e := w / 2 ^ fb % 2 ^ eb
  let f := w % 2 ^ fb
  let bias : Int := ((2 ^ (eb - 1) - 1 : Nat) : Int)
  if e = 2 ^ eb - 1 then (if f = 0 then .inf s else .nan)
  else if e = 0 then .fin s f (1 - bias - fb)
  else .fin s (2 ^ fb + f) ((e : Int) - bias - fb)

def of32 (w : Nat) : Num := ofBin 8 23 w
def of64 (w : Nat) : Num := ofBin 11 52 w
def Num.to32 (x : Num) (mode : Rmode := .rne) : Nat := x.toBin 8 23 mode
def Num.to64 (x : Num) : Nat := x.toBin 11 52 .rne

/-! ### P16, P8, I8 (R280 to R282) -/

/-- R280: a subnormal code reads as a zero of its sign. -/
def ofP16 (w : Nat) : Num :=
  match ofBin 8 7 w with
  | .fin s m e => if m < 128 then .fin s 0 e else .fin s m e
  | x => x

/-- R281: 0x80 is the NaN, exponent 15 reads as ±240. -/
def ofP8 (w : Nat) : Num :=
  if w % 256 = 0x80 then .nan
  else
    let s := decide (w / 128 % 2 = 1)
    let e := w / 8 % 16
    let f := w % 8
    if e = 15 then .fin s 240 0
    else if e = 0 then .fin s f (-9)
    else .fin s (8 + f) ((e : Int) - 10)

/-- An integer as a number. -/
def Num.ofInt (v : Int) : Num := .fin (decide (v < 0)) v.natAbs 0

/-- P16 of a number (R284): 8 significant bits at every magnitude, then the flush below 2^−126. -/
def Num.toP16 (mode : Rmode) : Num → Nat
  | .nan => 0x7FC0
  | .inf s => if s then 0xFF80 else 0x7F80
  | .fin s m e =>
    if m = 0 then (if s then 0x8000 else 0)
    else
      let (sig, q, _) := roundMag 8 none mode m e
      if (bitLen sig : Int) + q ≤ -126 then (if s then 0x8000 else 0) else packBin 8 7 (decide (mode = .rtz)) s sig q

/-- P8 of a number (R284): clamped to ±240 first. -/
def Num.toP8 (mode : Rmode) : Num → Nat
  | .nan => 0x80
  | .inf s => if s then 0xF7 else 0x77
  | .fin s m e =>
    if (Num.fin false 240 0).lt (.fin false m e) then (if s then 0xF7 else 0x77)
    else
      let (sig, q, _) := roundMag 4 (some (-9)) mode m e
      if sig = 0 then 0 else packBin 4 3 false s sig q

/-- I8 of a number (R284), as a byte. -/
def Num.toI8 (mode : Rmode) : Num → Nat
  | .nan => 0
  | .inf s => if s then 0x80 else 0x7F
  | .fin s m e =>
    let sig := if 0 ≤ e then m * 2 ^ e.toNat
      else
        let d := 2 ^ (-e).toNat
        let a := m / d
        let r := m % d
        match mode with
        | .rne => if d < 2 * r ∨ (d = 2 * r ∧ a % 2 = 1) then a + 1 else a
        | .rtz => a
        | .sr h => if h < r * 2 ^ 32 / d then a + 1 else a
    if s then uInt 8 (-((min sig 128 : Nat) : Int)) else min sig 127

/-- A destination format: 0 P16, 1 P8, 2 I8, 3 FP32 (Table 12.4). -/
def Num.toFmt (fmt : Nat) (mode : Rmode) (x : Num) : Nat :=
  if fmt = 0 then x.toP16 mode else if fmt = 1 then x.toP8 mode else if fmt = 2 then x.toI8 mode else x.to32 mode

/-- The number a code of a format stands for. -/
def ofFmt (fmt w : Nat) : Num :=
  if fmt = 0 then ofP16 w else if fmt = 1 then ofP8 w else if fmt = 2 then .ofInt (sInt 8 w) else of32 w

/-- Bytes per element. -/
def fmtSize (fmt : Nat) : Nat := if fmt = 0 then 2 else if fmt = 3 then 4 else 1

/-! ### Stochastic bits (R285) -/

def srHash (seed salt m n : Nat) : Nat :=
  let k := (seed ^^^ (salt * 0x9e3779b9 % 2 ^ 32)) % 2 ^ 32
  let h := ((m * 65536 % 2 ^ 32) ||| n) ^^^ k
  let h := h ^^^ (h / 2 ^ 16)
  let h := h * 0x85ebca6b % 2 ^ 32
  let h := h ^^^ (h / 2 ^ 13)
  let h := h * 0xc2b2ae35 % 2 ^ 32
  h ^^^ (h / 2 ^ 16)

/-! ### SPLIT pieces (R286) -/

/-- The 8 most significant bits of the significand, toward zero. -/
def trunc8 : Num → Num
  | .fin s m e =>
    let k := bitLen m - 8
    .fin s (m / 2 ^ k) (e + k)
  | x => x

/-- The P16 flush of R280 on a piece. -/
def flushP16 : Num → Num
  | .fin s m e => if (bitLen m : Int) + e ≤ -126 then .fin s 0 e else .fin s m e
  | x => x

/-- Piece i (0 to 2) of an FP32 operand. -/
def piece (w i : Nat) : Num :=
  let x := of32 w
  match x with
  | .nan => if i = 0 then .nan else Num.zero
  | .inf s => if i = 0 then .inf s else Num.zero
  | .fin s _ e =>
    if w / 2 ^ 23 % 256 = 0 then .fin s 0 e
    else
      let x0 := trunc8 x
      let d1 := x.sub x0
      let x1 := trunc8 d1
      let x2 := trunc8 (d1.sub x1)
      flushP16 (if i = 0 then x0 else if i = 1 then x1 else x2)

/-- The pairs of SPLIT level `s` in the order of R264. -/
def splitPairs (s : Nat) : List (Nat × Nat) :=
  [(2, 0), (1, 1), (0, 2), (1, 0), (0, 1), (0, 0)].filter (fun p => decide (p.1 + p.2 < s))

/-! ### binary32 accumulation (R264) -/

/-- One rounded binary32 addition of an exact term. -/
def acc32 (acc : Nat) (x : Num) : Nat := ((of32 acc).add x).to32

/-! ### binary64 operations of the solver engines (R295, R327) -/

def fma64 (a b c : Nat) : Nat := (((of64 a).mul (of64 b)).add (of64 c)).to64
def add64 (a b : Nat) : Nat := ((of64 a).add (of64 b)).to64
def sub64 (a b : Nat) : Nat := ((of64 a).sub (of64 b)).to64
/-- As FMA with c = +0 (Table 13.1): an exact zero product of unlike signs is +0. -/
def mul64 (a b : Nat) : Nat := fma64 a b 0
def div64 (a b : Nat) : Nat := ((of64 a).div (of64 b)).to64
def sqrt64 (a : Nat) : Nat := ((of64 a).sqrt).to64
def neg64 (a : Nat) : Nat := (a + 2 ^ 63) % 2 ^ 64
def abs64 (a : Nat) : Nat := a % 2 ^ 63
def isNan64 (a : Nat) : Bool := (of64 a).isNan
def isFin64 (a : Nat) : Bool := (of64 a).isFin
def nan64 : Nat := 0x7FF8000000000000
def lt64 (a b : Nat) : Bool := (of64 a).lt (of64 b)
/-- IEEE 754-2019 maximum and minimum: a NaN propagates, −0 is below +0. -/
def max64 (a b : Nat) : Nat :=
  if isNan64 a || isNan64 b then nan64
  else if lt64 a b then b else if lt64 b a then a else if a / 2 ^ 63 = 1 then b else a
def min64 (a b : Nat) : Nat :=
  if isNan64 a || isNan64 b then nan64
  else if lt64 a b then a else if lt64 b a then b else if a / 2 ^ 63 = 1 then a else b

end Sys2Proof.Machine
end

