-- ==== Sys2Proof/Machine/Admission.lean ====
section
/-! DEFINITION. Machine/Admission.lean: the Pattern image (R50 to R54), the routes of the mesh (R23, R208 to R211) and the
admission checker's five steps (R56 to R62), as functions of the image and of what the device shows. -/

namespace Sys2Proof.Machine
open Sys2Proof

/-! ### Job fields -/

def Job.dl (j : Job) : Bool := j.flags.testBit 0
def Job.drop (j : Job) : Bool := j.flags.testBit 1
def Job.rst (j : Job) : Bool := j.flags.testBit 2
/-- FRAME and FSYNC. -/
def Job.isEvent (j : Job) : Bool := decide (j.kind = 3 ∨ j.kind = 4)
def Image.period (im : Image) : Nat := im.rounds * 1024
/-- D of R53. -/
def Job.window (j : Job) (per : Nat) : Nat := (j.deadline + per - j.start) % per

/-! ### CRC-32C (R50) -/

/-- One bit step of the reflected CRC of polynomial `p`. -/
def crcBit (p c : Nat) : Nat := if c % 2 = 1 then (c / 2) ^^^ p else c / 2
def crcByte (p c b : Nat) : Nat := (List.range 8).foldl (fun c _ => crcBit p c) (c ^^^ b)
/-- CRC-32C: reflected, polynomial 0x1EDC6F41, initial value and final inversion all ones. -/
def crc32c (bs : List Nat) : Nat := (bs.foldl (crcByte 0x82F63B78) 0xFFFFFFFF) ^^^ 0xFFFFFFFF

/-! ### Routes -/

def coreX (n : Nat) : Nat := n / 4
def coreY (n : Nat) : Nat := n % 4

/-- Links from (x, y) along row y to column x'. -/
def rowLinks (y : Nat) : Nat → Nat → Nat → List Nat
  | 0, _, _ => []
  | n + 1, x, x' =>
    if x < x' then (64 + 8 * y + x) :: rowLinks y n (x + 1) x'
    else if x' < x then (96 + 8 * y + x) :: rowLinks y n (x - 1) x'
    else []

/-- Links from (x, y) along column x to row y'. -/
def colLinks (x : Nat) : Nat → Nat → Nat → List Nat
  | 0, _, _ => []
  | n + 1, y, y' =>
    if y < y' then (128 + 4 * x + y) :: colLinks x n (y + 1) y'
    else if y' < y then (160 + 4 * x + y) :: colLinks x n (y - 1) y'
    else []

/-- The row whose link carries the cross-die packets of row `y` (Table 1.6): its own while it works; rows 0 and 3 try their
neighbour, then outward; rows 1 and 2 the lower-numbered neighbour, then the higher, then outward. -/
def detourOrder : Nat → List Nat
  | 0 => [0, 1, 2, 3]
  | 1 => [1, 0, 2, 3]
  | 2 => [2, 1, 3, 0]
  | _ => [3, 2, 1, 0]
def rowVia (retired : Nat → Bool) (y : Nat) : Option Nat := (detourOrder y).find? (fun r => !retired r)

/-- The path from (x, y) to (x', y'), in a row first and then in the column (R23); `anyRow` says that the target has a port in
every row of its column (R209, R210). -/
def gridPath (retired : Nat → Bool) (x y x' y' : Nat) (anyRow : Bool) : List Nat :=
  if (decide (x ≤ 3) : Bool) = decide (x' ≤ 3) then rowLinks y 8 x x' ++ (if anyRow then [] else colLinks x' 4 y y')
  else
    match rowVia retired y with
    | none => []
    | some r =>
      if r = y then rowLinks y 8 x x' ++ (if anyRow then [] else colLinks x' 4 y y')
      else
        let bx := if x ≤ 3 then 3 else 4
        let fx := if x ≤ 3 then 4 else 3
        rowLinks y 8 x bx ++ colLinks bx 4 y r ++ rowLinks r 8 bx fx ++ rowLinks r 8 fx x'
          ++ (if anyRow then [] else colLinks x' 4 r y')

/-- The links of the route from node `src` to node `dst` (Table 9.1). -/
def route (retired : Nat → Bool) (src dst : Nat) : List Nat :=
  if src < 32 then
    let x := coreX src
    let y := coreY src
    if dst < 32 then gridPath retired x y (coreX dst) (coreY dst) false
    else if dst = 32 ∨ dst = 40 then gridPath retired x y 3 y true
    else if dst = 33 ∨ dst = 41 then gridPath retired x y 4 y true
    else if x ≤ 3 then rowLinks y 8 x 0 ++ [193]
    else rowLinks y 8 x 7 ++ [195]
  else if dst < 32 then
    let y := coreY dst
    let x' := coreX dst
    if src = 32 ∨ src = 40 then gridPath retired 3 y x' y false
    else if src = 33 ∨ src = 41 then gridPath retired 4 y x' y false
    else if x' ≤ 3 then 192 :: rowLinks y 8 0 x'
    else 194 :: rowLinks y 8 7 x'
  else
    let col := fun n => if n = 32 ∨ n = 40 then 3 else 4
    let unit := fun n => decide (n = 32 ∨ n = 33 ∨ n = 40 ∨ n = 41)
    if unit src && unit dst then gridPath retired (col src) 0 (col dst) 0 true
    else if unit dst then (if col dst = 3 then 192 :: rowLinks 0 8 0 3 else 194 :: rowLinks 0 8 7 4)
    else if unit src then (if col src = 3 then rowLinks 0 8 3 0 ++ [193] else rowLinks 0 8 4 7 ++ [195])
    else []

/-- A row link: +x from column 3 or −x from column 4 (Table 9.2). -/
def isRowLink (l : Nat) : Bool := decide ((64 ≤ l ∧ l < 96 ∧ (l - 64) % 8 = 3) ∨ (96 ≤ l ∧ l < 128 ∧ (l - 96) % 8 = 4))
def isHubLink (l : Nat) : Bool := decide (192 ≤ l ∧ l ≤ 195)
/-- h and c of R223. -/
def hops (r : List Nat) : Nat := (r.filter (fun l => !(isRowLink l) && !(isHubLink l))).length
def crossings (r : List Nat) : Nat := (r.filter (fun l => isRowLink l || isHubLink l)).length
/-- The DEADLINE limit of a link in one stitch (R221). -/
def linkLimit (l : Nat) : Nat := if isHubLink l then 7168 else 3584

/-! ### Step 1: the image (R50 to R54) -/

def parseJob (b : List Nat) : Job :=
  { kind := fieldLE b 0 1, flags := fieldLE b 1 1, prio := fieldLE b 2 1, spare := fieldLE b 3 1, start := fieldLE b 4 2,
    deadline := fieldLE b 6 2, wcet := fieldLE b 8 4, target := fieldLE b 12 4, entry := fieldLE b 16 4,
    lpddr := fieldLE b 20 4, group := fieldLE b 24 2, arg := fieldLE b 28 4 }

def parseStream (b : List Nat) : Stream :=
  { producer := fieldLE b 0 2, consumer := fieldLE b 2 2, src := fieldLE b 4 1, dst := fieldLE b 5 1,
    bytes := fieldLE b 6 2, send := fieldLE b 8 2, due := fieldLE b 10 2, dep := fieldLE b 12 1 = 1 }

/-- The offset of the first reserved bytes of the job table and then of the stream table that are not 0 (R50). -/
def reservedError (bs : List Nat) : Option Nat :=
  let jobs := (List.range (fieldLE bs 8 2)).map (fun i => (fieldLE bs 12 4 + 32 * i + 26, 2))
  let streams := (List.range (fieldLE bs 10 2)).map (fun i => (fieldLE bs 16 4 + 16 * i + 13, 3))
  ((jobs ++ streams).find? (fun p => decide (fieldLE bs p.1 p.2 ≠ 0))).map Prod.fst

/-- The first check of R50 that fails, as the byte offset of its field (ADM_IMAGE), for `len` = PAT_IMG_LEN. -/
def headerError (bs : List Nat) (len : Nat) : Option Nat :=
  let f := fieldLE bs
  let nj := f 8 2
  let ns := f 10 2
  let jo := f 12 4
  let so := f 16 4
  if len < 96 ∨ 73792 < len ∨ bs.length ≠ len then some 20
  else if f 0 4 ≠ 0x4E504154 then some 0
  else if f 4 2 ≠ 1 then some 4
  else if f 6 1 = 0 ∨ 16 < f 6 1 then some 6
  else if f 7 1 ≠ 0 then some 7
  else if nj = 0 ∨ 2047 < nj then some 8
  else if 512 < ns then some 10
  else if jo % 32 ≠ 0 ∨ jo < 96 ∨ len < jo + 32 * nj then some 12
  else if (ns = 0 ∧ so ≠ 0) ∨ (ns ≠ 0 ∧ (so % 16 ≠ 0 ∨ so < 96 ∨ len < so + 16 * ns
      ∨ (so < jo + 32 * nj ∧ jo < so + 16 * ns))) then some 16
  else if f 20 4 ≠ len then some 20
  else if f 26 2 ≠ 0 then some 26
  else if crc32c ((bs.take 28) ++ [0, 0, 0, 0] ++ bs.drop 32) ≠ f 28 4 then some 28
  else if ((bs.drop 32).take 32).any (fun b => decide (b ≠ 0)) then some 32
  else reservedError bs

def parseImage (bs : List Nat) : Image :=
  let f := fieldLE bs
  { rounds := f 6 1, cont := f 24 2, floors := ((bs.drop 64).take 32),
    jobs := (List.range (f 8 2)).map (fun i => parseJob ((bs.drop (f 12 4 + 32 * i)).take 32)),
    streams := (List.range (f 10 2)).map (fun i => parseStream ((bs.drop (f 16 4 + 16 * i)).take 16)) }

/-- A TARGET of the kind exists in Table 3.3. An FSYNC entry that names no camera is none (DESIGN CHOICE, log entry 88). -/
def targetOk (kind t : Nat) : Bool :=
  if kind = 0 then t < 32
  else if kind = 1 then decide (t < 2 ^ 32 ∧ 2 ≤ (bitsOf t 32).length)
  else if kind = 2 ∨ kind = 3 then t < 64
  else if kind = 4 then decide (0 < t ∧ t < 64)
  else t < 32

/-- A SPARE of the kind lies in Table 3.3. -/
def spareInTable (kind sp : Nat) : Bool :=
  decide (sp = 0xFF) || (if kind = 2 then decide (sp < 64) else decide (kind = 0 ∨ kind = 1 ∨ kind = 5) && decide (sp < 32))

/-- Codes 0x02 and 0x03 of one job entry (R51 to R53). -/
def jobError (per : Nat) (j : Job) : Option Nat :=
  if 5 < j.kind ∨ 8 ≤ j.flags ∨ 15 < j.prio ∨ per ≤ j.start ∨ per ≤ j.deadline ∨ j.group = 0xFFFF
      ∨ ¬ targetOk j.kind j.target ∨ ¬ spareInTable j.kind j.spare then some 0x02
  else if j.isEvent ∧ (j.wcet ≠ 0 ∨ j.deadline ≠ (j.start + 1) % per) then some 0x02
  else if ¬ j.isEvent ∧ j.wcet = 0 then some 0x02
  else if (j.kind = 0 ∨ j.kind = 1) ∧ (65536 ≤ j.entry ∨ j.entry % 4 ≠ 0) then some 0x02
  else if j.kind = 4 ∧ 7 < j.entry then some 0x02
  else if (j.kind = 2 ∨ j.kind = 3 ∨ j.kind = 5) ∧ j.entry ≠ 0 then some 0x02
  else if j.window per = 0 then some 0x03
  else none

/-- BYTES is that of a transfer of D > 0 data bytes, D a multiple of 8, cut as R54 says. -/
def cutBytes (n : Nat) : Bool :=
  let k := (n + 255) / 256
  decide (8 * k < n ∧ (n - 8 * k) % 8 = 0 ∧ (n - 8 * k + 247) / 248 = k)

/-- The conditions of R54 on one stream entry. -/
def streamOk (im : Image) (st : Stream) (flags : Nat) : Bool :=
  let per := im.period
  match im.jobs[st.producer]? with
  | none => false
  | some p =>
    let fwd := fun x => (x + per - st.send % per) % per
    decide (st.send < per ∧ st.due < per ∧ 16 ≤ st.bytes ∧ flags < 2) && cutBytes st.bytes
      && (decide (st.src < 32) || decide (st.src = 34)) && (decide (st.dst < 34))
      && decide ((st.send + per - p.start) % per < p.window per)
      && (decide (st.consumer = 0xFFFF) ||
          (match im.jobs[st.consumer]? with
           | none => false
           | some c => decide (fwd st.due ≤ fwd c.start)))

/-- Step 1 over the bytes of an image: a report, or the image. -/
def step1 (bs : List Nat) (len pct : Nat) : AdmReport ⊕ Image :=
  match headerError bs len with
  | some o => .inl { code := 0x01, step := 1, excess := o }
  | none =>
    let im := parseImage bs
    let so := fieldLE bs 16 4
    let badJob := (List.range im.jobs.length).findSome? (fun i =>
      match im.jobs[i]? with
      | some j => (jobError im.period j).map (fun c => (i, c))
      | none => none)
    match badJob with
    | some (i, c) => .inl { code := c, step := 1, job := i }
    | none =>
      let badStream := (List.range im.streams.length).find? (fun i =>
        match im.streams[i]? with
        | some st => !(streamOk im st (fieldLE bs (so + 16 * i + 12) 1))
        | none => false)
      match badStream with
      | some i => .inl { code := 0x02, step := 1, stream := i }
      | none => if pct < 10 ∨ 80 < pct then .inl { code := 0x02, step := 1 } else .inr im

/-! ### What the device shows to steps 2 to 5 -/

/-- The upper edge of the band in force in Q16.16 Hz, PAT_LPDDR.PCT, which units are DROPPED, which slots and contexts are
configured, which cameras exist for FSYNC, whether the Framer and a camera can serve, the XQ grade, retired row links, nodes whose
streams have lost their reservations (R452), and entries that name a marker of a lost die (R25). -/
structure AdmCtx where
  hi : Nat
  pct : Nat
  dropped : Nat → Bool
  slotOk : Nat → Bool
  ctxOk : Nat → Bool
  eventOk : Job → Bool
  xq : Bool
  retired : Nat → Bool
  lost : Nat → Bool
  marker : Nat → Job → Bool

/-- The resources an entry occupies: 0–31 cores, 32–33 engines, 34–35 re-process pipelines. -/
def Job.resources (j : Job) : List Nat :=
  if j.kind = 0 then [j.target]
  else if j.kind = 1 then bitsOf j.target 32
  else if j.kind = 2 then [32 + j.target / 32]
  else if j.kind = 5 then [34 + j.target / 16]
  else []

/-- The resource a SPARE names. -/
def Job.spareRes (j : Job) : Option Nat :=
  if j.spare = 0xFF then none
  else if j.kind = 0 ∨ j.kind = 1 then some j.spare
  else if j.kind = 2 then some (32 + j.spare / 32)
  else if j.kind = 5 then some (34 + j.spare / 16)
  else none

/-- The clock of a resource at its floor, in Hz (Table 3.3). -/
def Image.clock (im : Image) (res : Nat) : Nat :=
  if res < 32 then im.floors.getD res 0 * 10000000
  else if res < 34 then 800000000
  else 600000000

/-! ### Step 2 (R56, R59) -/

def spareOk (c : AdmCtx) (j : Job) : Bool :=
  if j.spare = 0xFF then true
  else if j.kind = 0 then decide (j.spare < 32 ∧ j.spare ≠ j.target) && !(c.dropped j.spare)
  else if j.kind = 1 then decide (j.spare < 32) && !(j.target.testBit j.spare) && !(c.dropped j.spare)
  else if j.kind = 2 then decide (j.spare < 64 ∧ j.spare ≠ j.target) && !(c.dropped (32 + j.spare / 32)) && c.slotOk j.spare
  else if j.kind = 5 then decide (j.spare < 32 ∧ j.spare ≠ j.target) && !(c.dropped (34 + j.spare / 16)) && c.ctxOk j.spare
  else false

/-- The floor of a core breaks R59 or R3. -/
def floorBad (c : AdmCtx) (im : Image) (n : Nat) : Bool :=
  let f := im.floors.getD n 0
  decide (f ≠ 0) && (decide (f < 40 ∨ 100 < f) || (decide (85 < f) && c.xq))

/-- Step 2 of entry `i` on resource `r` it occupies, or, for an event entry, on its emission or cameras: its TARGET, its SPARE, then a FLOOR
of 0, an order that the spec leaves open (DEDUCED, log 23). -/
def step2Job (c : AdmCtx) (im : Image) (r i : Nat) (j : Job) : Option AdmReport :=
  let no := fun (code : Nat) => some ({ code := code, step := 2, job := i, res := r } : AdmReport)
  if j.isEvent then (if c.eventOk j then none else some { code := 0x05, step := 2, job := i })
  else if c.dropped r ∨ (j.kind = 2 ∧ ¬ c.slotOk j.target) ∨ (j.kind = 5 ∧ ¬ c.ctxOk j.target) then no 0x05
  else if ¬ spareOk c j then some { code := 0x06, step := 2, job := i }
  else if j.dl ∧ r < 32 ∧ im.floors.getD r 0 = 0 then no 0x04
  else none

/-- Two event entries on one emission or one camera in one stitch (ADM_EVENT). -/
def eventClash (a b : Job) : Bool :=
  decide (a.start = b.start) &&
    ((decide (a.kind = 3 ∧ b.kind = 3 ∧ a.target = b.target)) || (decide (a.kind = 4 ∧ b.kind = 4 ∧ a.target &&& b.target ≠ 0)))

/-- The entries of a Pattern with their indices, without those shed. -/
def Image.live (im : Image) (shed : List Nat) : List (Nat × Job) :=
  ((List.range im.jobs.length).zip im.jobs).filter (fun p => !(shed.contains p.1))

/-- Step 2 on resource `r`: its entries in job order, then the range of its floor (DEDUCED, log 23). A floor out of range on a core that no entry names reports job 0
(DESIGN CHOICE, log entry 90). -/
def step2Res (c : AdmCtx) (im : Image) (l : List (Nat × Job)) (r : Nat) : Option AdmReport :=
  let mine := l.filter (fun p => p.2.resources.contains r)
  (mine.findSome? (fun p => step2Job c im r p.1 p.2)).orElse (fun _ =>
    if r < 32 ∧ floorBad c im r then some { code := 0x04, step := 2, job := ((mine.head?).map Prod.fst).getD 0, res := r } else none)

/-- Step 2: the resources in rising order (R56), then the event entries in job order. -/
def step2 (c : AdmCtx) (im : Image) (shed : List Nat) : Option AdmReport :=
  let l := im.live shed
  ((List.range 36).findSome? (step2Res c im l)).orElse (fun _ =>
    ((l.filter (fun p => p.2.isEvent)).findSome? (fun p => step2Job c im 0 p.1 p.2)).orElse (fun _ =>
      (l.find? (fun p => l.any (fun q => decide (q.1 < p.1) && eventClash q.2 p.2))).map
        (fun p => { code := 0x07, step := 2, job := p.1, a := p.2.start })))

/-! ### Step 3: demand (R57, R58, R64) -/

/-- C(s) of R57: `hi` is Q16.16 hertz. -/
def capacity (hi f s : Nat) : Nat := s * f * 2 ^ 16 / (hi * 1024)

/-- O of Table 3.6, rounded up at clock `f`. -/
def allowance (kind f : Nat) : Nat :=
  let ns := if kind = 0 ∨ kind = 1 then 200 else if kind = 2 then 150 else if kind = 5 then 500 else 0
  (ns * f + 999999999) / 1000000000

/-- A window on a resource: entry, start, end, charge. -/
structure Demand where
  job : Nat
  a : Int
  b : Int
  w : Nat

/-- The deadline windows of a resource over the periods −1, 0 and 1, and its largest best-effort charge. -/
def Image.demands (im : Image) (shed : List Nat) (res : Nat) : List Demand :=
  let per : Int := im.period
  ((im.live shed).filter (fun p => p.2.dl && p.2.resources.contains res)).flatMap (fun p =>
    [-1, 0, 1].map (fun k =>
      { job := p.1, a := k * per + p.2.start, b := k * per + p.2.start + p.2.window im.period,
        w := p.2.wcet + allowance p.2.kind (im.clock res) }))

def Image.bestEffort (im : Image) (shed : List Nat) (res : Nat) : Nat :=
  ((im.live shed).filter (fun p => !p.2.dl && !p.2.isEvent && p.2.resources.contains res)).foldl
    (fun m p => max m (p.2.wcet + allowance p.2.kind (im.clock res))) 0

def demSum (ds : List Demand) (a b : Int) : Nat :=
  (ds.filter (fun d => decide (a ≤ d.a ∧ d.b ≤ b))).foldl (fun m d => m + d.w) 0
def blkMax (ds : List Demand) (be : Nat) (a b : Int) : Nat :=
  (ds.filter (fun d => decide (d.a < a ∧ b < d.b))).foldl (fun m d => max m d.w) be

/-- A list in rising order without repeats. -/
def insRising (x : Int) : List Int → List Int
  | [] => [x]
  | h :: t => if x < h then x :: h :: t else if x = h then h :: t else h :: insRising x t
def rising (l : List Int) : List Int := l.foldl (fun acc x => insRising x acc) []

/-- An interval whose demand exceeds its capacity: its bounds, the entry whose deadline is its end, the excess, and whether it fails
by carry-in alone (R62). -/
structure Excess where
  a : Int
  b : Int
  job : Nat
  excess : Nat
  carry : Bool
  deriving DecidableEq, Repr

/-- The first interval of a resource, by rising end and then rising start, whose demand exceeds its capacity (R56, R58), with the carry-in
`carry` among its demand (R64). -/
def demandFail (hi f per : Nat) (own carry : List Demand) (be : Nat) : Option Excess :=
  let ds := own ++ carry
  let starts := rising ((ds.filter (fun d => decide (0 ≤ d.a ∧ d.a < (per : Int)))).map (·.a))
  let ends := rising (ds.map (·.b))
  ends.findSome? (fun b => starts.findSome? (fun a =>
    if a < b ∧ b ≤ a + (per : Int) then
      let need := fun l => demSum l a b + blkMax l be a b
      let cap := capacity hi f (b - a).toNat
      if cap < need ds then
        some { a := a, b := b, job := ((ds.find? (fun d => decide (d.b = b))).map (·.job)).getD 0, excess := need ds - cap,
               carry := decide (need own ≤ cap) }
      else none
    else none))

/-- The windows of the active Pattern that cross its period boundary, as fixed demand from the start of the new one (R64). -/
def Image.carryIn (im : Image) (shed : List Nat) (res : Nat) : List Demand :=
  ((im.live shed).filter (fun p => p.2.dl && p.2.resources.contains res
      && decide (im.period < p.2.start + p.2.window im.period))).map (fun p =>
    { job := p.1, a := 0, b := (p.2.start + p.2.window im.period - im.period : Nat),
      w := p.2.wcet + allowance p.2.kind (im.clock res) })

/-- Step 3 on one resource: every interval, then the sum of all deadline entries over the Pattern, which has no interval: it reports
the last deadline entry and a = b = 0 (DESIGN CHOICE, log entry 87). A resource where the new Pattern has no deadline entry of its own has no
interval to test, carry-in or not (DEDUCED, log 24). -/
def step3Res (c : AdmCtx) (im : Image) (shed : List Nat) (carry : List Demand) (res : Nat) : Option AdmReport :=
  let ds := im.demands shed res
  let per := im.period
  let f := im.clock res
  if ds.isEmpty then none
  else
    match demandFail c.hi f per ds carry (im.bestEffort shed res) with
    | some x =>
      some { code := 0x08, step := 3, carry := x.carry, job := x.job, a := (x.a % per).toNat, b := (x.b % per).toNat, res := res,
             excess := x.excess }
    | none =>
      let total := (ds.filter (fun d => decide (0 ≤ d.a ∧ d.a < (per : Int)))).foldl (fun m d => m + d.w) 0
      let cap := capacity c.hi f per
      if cap < total then
        some { code := 0x08, step := 3, job := (ds.getLast?.map (·.job)).getD 0, res := res, excess := total - cap }
      else none

def step3 (c : AdmCtx) (im : Image) (shed : List Nat) (carry : Nat → List Demand) : Option AdmReport :=
  (List.range 36).findSome? (fun r => step3Res c im shed (carry r) r)

/-! ### Step 4: the mesh (R60, R220 to R223) -/

/-- Reservation units of a stream (R221). -/
def Stream.units (s : Stream) : Nat := (s.bytes + 63) / 64

/-- The streams whose producer is not shed, with their indices. -/
def Image.liveStreams (im : Image) (shed : List Nat) : List (Nat × Stream) :=
  ((List.range im.streams.length).zip im.streams).filter (fun p => !(shed.contains p.2.producer))

/-- Units charged to a link in a stitch. -/
def charged (c : AdmCtx) (l : List (Nat × Stream)) (link stitch : Nat) : Nat :=
  (l.filter (fun p => decide (p.2.send = stitch) && (route c.retired p.2.src p.2.dst).contains link)).foldl
    (fun m p => m + p.2.units) 0

/-- T of R223 for stream `i`, in ns. -/
def transit (c : AdmCtx) (per : Nat) (l : List (Nat × Stream)) (i : Nat) (s : Stream) : Nat :=
  let r := route c.retired s.src s.dst
  let others := l.filter (fun p => decide (p.1 ≠ i))
  let q := r.foldl (fun m k => max m (charged c others k s.send + charged c others k ((s.send + per - 1) % per))) 0
  36 + 3 * hops r + 62 * crossings r + 4 * (s.units + q)

def step4 (c : AdmCtx) (im : Image) (shed : List Nat) : Option AdmReport :=
  let l := (im.liveStreams shed).filter (fun p => !(c.lost p.2.src) && !(c.lost p.2.dst))
  let per := im.period
  let links := ((List.range 132).map (fun k => 64 + k)).filter (fun k =>
    l.any (fun p => (route c.retired p.2.src p.2.dst).contains k))
  let sends := (rising (l.map (fun p => (p.2.send : Int)))).map Int.toNat
  match links.findSome? (fun k => sends.findSome? (fun t =>
      let u := charged c l k t
      if linkLimit k < u then
        let st := l.find? (fun p => decide (linkLimit k < charged c (l.filter (fun q => decide (q.1 ≤ p.1))) k t))
        some ({ code := 0x09, step := 4, a := t, res := k, stream := (st.map Prod.fst).getD 0, excess := u - linkLimit k } : AdmReport)
      else none)) with
  | some r => some r
  | none =>
    (l.find? (fun p =>
      let n := (p.2.due + per - p.2.send) % per
      decide ((n - 1) * 10 ^ 9 * 2 ^ 16 < transit c per l p.1 p.2 * c.hi * 1024) || decide (n = 0))).map
      (fun p => { code := 0x0A, step := 4, stream := p.1 })

/-! ### Step 5: LPDDR (R61) -/

/-- Stitches of the window of `j` inside the block that starts at `b`. -/
def overlap (per b : Nat) (j : Job) : Nat :=
  ((List.range (j.window per)).filter (fun k => decide (b ≤ (j.start + k) % per ∧ (j.start + k) % per < b + 128))).length

/-- Step 5 compares exactly, and rounds the excess up: at `rate` bytes a second a block of 128 stitches at HI takes
`rate` · 128 · 2^16 / (HI · 1024) bytes, and the shares of the instances are summed as one fraction. -/
def step5 (c : AdmCtx) (im : Image) (shed : List Nat) : Option AdmReport :=
  let per := im.period
  let h := c.hi * 1024
  let rate := fun r => r * 128 * 2 ^ 16
  (List.range (per / 128)).findSome? (fun k =>
    let b := 128 * k
    let (x, d) := (im.live shed).foldl (fun (x, d) p =>
      let w := max 1 (p.2.window per)
      let l := Nat.lcm d w
      (x * (l / d) + p.2.lpddr * overlap per b p.2 * (l / w), l)) (0, 1)
    let budget := rate (c.pct * 512000000) * d
    let need := rate (im.cont * 1000000) * d + x * h
    if budget < need then some { code := 0x0B, step := 5, a := b, res := 36, excess := (need - budget + h * d - 1) / (h * d) } else none)

/-- Steps 2 to 5 in order (R56). -/
def steps25 (c : AdmCtx) (im : Image) (shed : List Nat) (carry : Nat → List Demand) : Option AdmReport :=
  match step2 c im shed with
  | some r => some r
  | none =>
    match step3 c im shed carry with
    | some r => some r
    | none =>
      match step4 c im shed with
      | some r => some r
      | none => step5 c im shed

/-! ### Re-admission: remapping and shedding (R69, R70) -/

/-- An entry moved off the DROPPED resources, with the floor its spare inherits; none if it must be shed. A SPARE that has been used or is
itself DROPPED is no longer one. -/
def remapJob (c : AdmCtx) (j : Job) : Option (Job × List (Nat × Nat)) :=
  let bad := j.resources.filter (fun r => c.dropped r)
  if j.isEvent then (if c.eventOk j then some (j, []) else none)
  else if bad.isEmpty then
    some (if (j.spareRes.map c.dropped).getD false then { j with spare := 0xFF } else j, [])
  else
    match j.spareRes with
    | none => none
    | some r =>
      if c.dropped r then none
      else if j.kind = 1 then
        match bad with
        | [m] => if j.target.testBit j.spare then none
                 else some ({ j with target := j.target - 2 ^ m + 2 ^ j.spare, spare := 0xFF }, [(j.spare, m)])
        | _ => none
      else if j.kind = 0 then some ({ j with target := j.spare, spare := 0xFF }, [(j.spare, j.target)])
      else some ({ j with target := j.spare, spare := 0xFF }, [])

/-- The floor of a spare becomes the higher of its own and that of the core it replaces. -/
def raiseFloor (fl : List Nat) (p : Nat × Nat) : List Nat := fl.set p.1 (max (fl.getD p.1 0) (fl.getD p.2 0))

/-- Entry `i` after remapping; none if it must be shed, as one that names a marker of a lost die, before or after it moves, must (R25). -/
def remapEntry (c : AdmCtx) (i : Nat) (j : Job) : Option (Job × List (Nat × Nat)) :=
  if c.marker i j then none
  else
    match remapJob c j with
    | some q => if c.marker i q.1 then none else some q
    | none => none

/-- The Pattern remapped, and the entries that had to be shed. -/
def remap (c : AdmCtx) (im : Image) (shed : List Nat) : Image × List Nat :=
  let rs := ((List.range im.jobs.length).zip im.jobs).map (fun p => (p.1, p.2, if shed.contains p.1 then some (p.2, []) else remapEntry c p.1 p.2))
  let jobs := rs.map (fun q => match q.2.2 with | some (j, _) => j | none => q.2.1)
  let fl := rs.foldl (fun fl q => match q.2.2 with | some (_, l) => l.foldl raiseFloor fl | none => fl) im.floors
  let lost := (rs.filter (fun q => q.2.2.isNone)).map (fun q => q.1)
  ({ im with jobs := jobs, floors := fl }, shed ++ lost)

/-- Shedding a producer sheds each consumer linked to it by a stream with DEP. -/
def depClose (im : Image) : Nat → List Nat → List Nat
  | 0, shed => shed
  | n + 1, shed =>
    let more := (im.streams.filter (fun s => s.dep && shed.contains s.producer && decide (s.consumer ≠ 0xFFFF)
      && !(shed.contains s.consumer))).map (·.consumer)
    if more.isEmpty then shed else depClose im n (shed ++ more.eraseDups)

/-- The group to shed next (R70): lowest PRIO, and among equal PRIO the one with the highest job index. The PRIO of a group is the
lowest of its entries. -/
def nextGroup (im : Image) (shed : List Nat) : Option Nat :=
  ((im.live shed).foldl (fun best p => match best with
    | none => some p
    | some q => if p.2.prio < q.2.prio ∨ (p.2.prio = q.2.prio ∧ q.1 < p.1) then some p else some q) none).map (·.2.group)

/-- The groups of the entries `l`, each once, in the order of `l`. -/
def groupsOf (im : Image) (l : List Nat) : List Nat := (l.filterMap (fun i => (im.jobs[i]?).map (·.group))).eraseDups

/-- One group at a time is shed until steps 2 to 5 pass, and with it what DEP sheds. Answers the entries shed and their groups in shed order. -/
def shedLoop (c : AdmCtx) (im : Image) : Nat → List Nat → List Nat → List Nat × List Nat
  | 0, shed, gs => (shed, gs)
  | n + 1, shed, gs =>
    match steps25 c im shed (fun _ => []) with
    | none => (shed, gs)
    | some _ =>
      match nextGroup im shed with
      | none => (shed, gs)
      | some g =>
        let mine := ((im.live shed).filter (fun p => decide (p.2.group = g))).map Prod.fst
        let more := depClose im im.jobs.length (shed ++ mine)
        shedLoop c im n more (gs ++ (g :: groupsOf im (more.filter (fun i => !(shed.contains i)))).eraseDups)

end Sys2Proof.Machine
end

