-- ==== Sys2Proof/Machine/Ops.lean ====
section
/-! DEFINITION. Machine/Ops.lean: the operations every block shares: time and stamps, MSI-X messages, events, journal records,
status postings, completions of ring commands, access errors. -/

namespace Sys2Proof.Machine
open Sys2Proof Sys2Proof.Machine.Reg

/-- The outcome of a command. -/
abbrev Out := Host.Outcome State Fault Refusal

/-- A command on unit `i` of `n`. -/
def onUnit (i n : Nat) (o : Out) : Out := if i < n then o else .fault .noSuchUnit

/-! ### Time (R5, R38, R39) -/

def State.count48 (s : State) : Nat := s.regN RND_COUNT_LO + 2 ^ 32 * s.fld RND_COUNT_HI_COUNT
def State.setCount48 (s : State) (v : Nat) : State :=
  (s.setRegN RND_COUNT_LO v).setFld RND_COUNT_HI_COUNT (v / 2 ^ 32)
/-- The number of the round, which counts on where RND_COUNT wraps, so that two instants of one run compare as R39 asks. -/
def State.roundNo (s : State) : Nat := s.count48 + 2 ^ 48 * s.rnd.wraps
def State.setRoundNo (s : State) (v : Nat) : State :=
  let s := s.setCount48 (v % 2 ^ 48)
  { s with rnd := { s.rnd with wraps := v / 2 ^ 48 } }
def State.phase (s : State) : Nat := s.regN RND_PHASE
def State.setPhase (s : State) (v : Nat) : State := s.setRegN RND_PHASE v
def State.nstime (s : State) : Nat := s.regN RND_NSTIME_LO + 2 ^ 32 * s.regN RND_NSTIME_HI
def State.setNstime (s : State) (v : Nat) : State :=
  (s.setRegN RND_NSTIME_LO v).setRegN RND_NSTIME_HI (v / 2 ^ 32)
/-- PHASE[31:22] (R5). -/
def State.stitch (s : State) : Nat := s.phase / 2 ^ 22
/-- The absolute stitch A (R39), counted on beyond 2^58: the distance of two of them is R39's signed distance for every two instants that lie
less than 2^57 stitches apart. -/
def State.absStitch (s : State) : Nat := s.roundNo * 1024 + s.stitch
/-- The absolute phase: rounds and PHASE in one number, counted on beyond 2^80. -/
def State.absPhase (s : State) : Nat := s.roundNo * 2 ^ 32 + s.phase
/-- The engine's output frequency, Q16.16 Hz. -/
def State.freq (s : State) : Nat := s.regN RND_FREQ

/-- A1 precedes A2: the distance (A2 − A1) mod 2^58 is positive as a signed number (R39). -/
def precedes (a1 a2 : Nat) : Bool :=
  let d := (a2 + 2 ^ 58 - a1 % 2 ^ 58) % 2 ^ 58
  decide (0 < d ∧ d < 2 ^ 57)

/-- PHASE units in `ns` nanoseconds at frequency `f` (Q16.16), rounded down. -/
def phaseOfNs (f ns : Nat) : Nat := ns * f * 2 ^ 16 / 10 ^ 9
/-- PHASE units in `ns` nanoseconds at frequency `f`, rounded up (R46). -/
def phaseOfNsUp (f ns : Nat) : Nat := (ns * f * 2 ^ 16 + 10 ^ 9 - 1) / 10 ^ 9

/-- The stamp flags of Table 2.6 that the engine's state gives (SELVAGE and UNC_SAT are the event's). -/
def State.stampFlags (s : State) : Nat :=
  let st := s.fld RND_STATUS_STATE
  (if st = 3 ∨ st = 0 then 1 else 0) + (if s.flag RND_STATUS_OUTBAND then 4 else 0) + (if st = 4 then 8 else 0)
    + (if s.flag RND_STATUS_PPS_LOCK then 16 else 0) + (if s.flag RND_STATUS_NS_VALID then 32 else 0)
    + (if st = 0 then 64 else 0) + (if s.fld RND_STATUS_REF_ACT = 2 then 256 else 0)

/-- The 24 bytes of a stamp (Table 2.5). -/
def stampBytes (rnd flags phase unc ns : Nat) : List Nat :=
  toBytes 6 rnd ++ toBytes 2 flags ++ toBytes 4 phase ++ toBytes 2 (min unc 65535) ++ [0, 0] ++ toBytes 8 ns

/-- An exact stamp of now (R8, R45). -/
def State.stampNow (s : State) : List Nat := stampBytes s.count48 s.stampFlags s.phase 0 s.nstime

/-- A stamp with uncertainty, and the window it is assigned to, counted from absolute phase 0 (R46). -/
structure Stamp where
  rnd : Nat
  phase : Nat
  flags : Nat
  unc : Nat
  ns : Nat
  window : Nat
  deriving DecidableEq, Repr

/-- R46, with the engine's flags of the instant stamped. `centre` is the central estimate as an absolute phase, `ns` its NSTIME, `freq` the
current RND_FREQ. The bounds borrow and carry modulo 2^48 rounds. -/
def assignAt (flags freq centre ns unc win : Nat) : Stamp :=
  let sat := decide (65535 < unc)
  let u := phaseOfNsUp freq (min unc 65535)
  let lo := (centre + 2 ^ 80 - u) % 2 ^ 80
  let hi := (centre + u) % 2 ^ 80
  let selv := sat || decide (lo / win ≠ hi / win)
  { rnd := centre / 2 ^ 32 % 2 ^ 48, phase := centre % 2 ^ 32,
    flags := flags + (if selv then 2 else 0) + (if sat then 128 else 0),
    unc := min unc 65535, ns := ns, window := lo / win }

/-- R46 for an instant under the present flags and frequency. -/
def State.assign (s : State) (centre ns unc win : Nat) : Stamp := assignAt s.stampFlags s.freq centre ns unc win

def Stamp.bytes (t : Stamp) : List Nat := stampBytes t.rnd t.flags t.phase t.unc t.ns

/-! ### MSI-X (R341-R343) -/

/-- The message of vector `v` leaves: its data is written at its address. -/
def State.sendMsix (s : State) (v : Nat) : State :=
  let e := 0x8000 + 16 * v
  let addr := (s.reg e).toNat + 2 ^ 32 * (s.reg (e + 4)).toNat
  let s := s.putHost addr (toBytes 4 (s.reg (e + 8)).toNat)
  { s with hif := { s.hif with sent := bind s.hif.sent v ((look s.hif.sent v).getD 0 + 1) } }

/-- The pending bit of vector `v`. -/
def State.msixPending (s : State) (v : Nat) : Bool := (s.reg (0x9000 + 4 * (v / 32))).toNat.testBit (v % 32)
def State.setMsixPending (s : State) (v : Nat) (b : Bool) : State :=
  let a := 0x9000 + 4 * (v / 32)
  s.setReg a (setBits (s.reg a) (v % 32) 1 (if b then 1 else 0))

/-- The vector is masked, by its own mask or the function's, or no request may be issued (R340). -/
def State.msixMasked (s : State) (v : Nat) : Bool :=
  (s.reg (0x8000 + 16 * v + 12)).toNat.testBit 0 || s.hif.funcMask || !s.hif.bme || s.hif.d3hot

/-- A message condition arises (R343). -/
def State.msix (s : State) (v : Nat) : State :=
  if s.msixMasked v then s.setMsixPending v true else s.sendMsix v

/-- Event bit `b` of register `ev` is set; a change from 0 to 1 while bit `b` of `en` is 1 raises vector `v` (R343). -/
def State.event (s : State) (ev en : Nat) (b v : Nat) : State :=
  if (s.reg ev).toNat.testBit b then s
  else
    let s := s.setReg ev (setBits (s.reg ev) b 1 1)
    if (s.reg en).toNat.testBit b then s.msix v else s

/-! ### Journal intake (R405-R410) -/

/-- JRN_EVENT bit `b`. -/
def State.jrnEvent (s : State) (b : Nat) : State := s.event JRN_EVENT.base JRN_INT_EN.base b 6

/-- A record of severity `sev` is lost (R410). -/
def State.jrnLost (s : State) (sev : Nat) : State :=
  let a := if sev < 4 then JRN_LOST0.base else JRN_LOST1.base
  let lo := 8 * (sev % 4)
  (s.setReg a (setBits (s.reg a) lo 8 (min (bits (s.reg a) lo 8 + 1) 255))).jrnEvent 0

/-- SEVF[6:3] from stamp flags (Table 18.1). -/
def sevFlags (f : Nat) : Nat :=
  nbits f 0 1 + 2 * nbits f 1 1 + 4 * nbits f 2 1 + 8 * nbits f 5 1

/-- Boundary scan holds the balls that have a boundary cell: the device neither sees nor drives them (R468, log 137). -/
def State.cutOff (s : State) : Bool := s.flag DBG_STATUS_EXTEST

/-- Bind-off is in stages 1 to 5, where only records of group 0x11 and 8 of severity 7 are accepted (R440). -/
def State.binding (s : State) : Bool := decide (1 ≤ s.fld PWR_BOSTAT_STAGE ∧ s.fld PWR_BOSTAT_STAGE ≤ 5)
def State.intakeOpen (s : State) (r : JRec) : Bool :=
  !s.binding || decide (r.code / 256 = 0x11 ∨ (r.sev = 7 ∧ s.boot.sev7 < 8))

/-- A record reaches the intake queue of 64, or is lost. -/
def State.intake (s : State) (r : JRec) : State :=
  if ¬ s.intakeOpen r then s.jrnLost r.sev
  else if s.jrn.intake.length < 64 then
    { s with jrn := { s.jrn with intake := s.jrn.intake ++ [r] },
             boot := { s.boot with sev7 := if s.binding && decide (r.sev = 7) then s.boot.sev7 + 1 else s.boot.sev7 } }
  else s.jrnLost r.sev

/-- The record of an event now (R405). -/
def State.mkRec (s : State) (code src sev data : Nat) : JRec :=
  { rnd := s.count48 % 2 ^ 32, ns := s.nstime, ph := s.phase / 2 ^ 16, code := code, src := src, sev := sev,
    flags := sevFlags s.stampFlags, part := false, data := data }

/-- A block reports an event: one record. -/
def State.journal (s : State) (code src sev : Nat) (data : Nat := 0) : State := s.intake (s.mkRec code src sev data)

/-- An event whose contents exceed 8 bytes: several records, PART set in every one but the last (R408). -/
def State.journalParts (s : State) (code src sev : Nat) : List Nat → State
  | [] => s
  | [d] => s.journal code src sev d
  | d :: t => (s.intake { s.mkRec code src sev d with part := true }).journalParts code src sev t

/-- Most blocks' events: the bit and its vector (R343), and a record (R406). -/
def State.report (s : State) (ev en b v code src sev : Nat) (data : Nat := 0) : State :=
  (s.event ev en b v).journal code src sev data

/-- The severity of a record of group 0x03, which no chapter states: a free value (log entry 14). -/
def hostSev (code : Nat) : Nat := (Config.hostSeverity code).toNat

/-! ### Status postings (R359-R363) -/

/-- The device may issue requests (R340). -/
def State.dmaOk (s : State) : Bool := s.hif.bme && !s.hif.d3hot

def State.sringSize (s : State) : Nat := 2 ^ s.fld CMD_SCFG_SIZE
def State.sringFree (s : State) : Nat :=
  s.sringSize - (s.fld CMD_SPROD_SPROD + 65536 - s.fld CMD_SCONS_SCONS) % 65536
def State.sringOn (s : State) : Bool := s.flag CMD_SCFG_EN && s.dmaOk

/-- PHASE of the entry at producer index `p` of a ring of `n` entries: 1 on the first pass, then alternating (R350). -/
def ringPhase (p n : Nat) : Nat := (p / n + 1) % 2

/-- Bytes written over consecutive entries of a ring of `n` entries of `w` bytes, wrapping. -/
def State.putEntries (s : State) (base w n idx : Nat) : List (List Nat) → State
  | [] => s
  | e :: t => (s.putHost (base + w * (idx % n)) e).putEntries base w n (idx + 1) t

/-- `bs` cut or padded with zeros to `n` bytes. -/
def fitBytes (n : Nat) (bs : List Nat) : List Nat := (bs ++ List.replicate n 0).take n

/-- One posting is written at SPROD (R359, R360). -/
def State.writePost (s : State) (p : Post) : State :=
  let n := s.sringSize
  let pr := s.fld CMD_SPROD_SPROD
  let base := s.regN CMD_SBASE_LO + 2 ^ 32 * s.regN CMD_SBASE_HI
  let empty := decide (pr = s.fld CMD_SCONS_SCONS)
  let hdr := [p.type, p.nent - 1] ++ toBytes 2 (ringPhase pr n) ++ toBytes 2 p.code ++ toBytes 2 p.src
    ++ toBytes 4 s.sring.pseq ++ toBytes 4 p.rnd
  let all := hdr ++ fitBytes (128 * p.nent - 16) p.body
  let ents := (List.range p.nent).map (fun i => (all.drop (128 * i)).take 128)
  let s := s.putEntries base 128 n pr ents
  let s := s.setFld CMD_SPROD_SPROD (pr + p.nent)
  let s := { s with sring := { s.sring with pseq := (s.sring.pseq + 1) % 2 ^ 32 } }
  if empty then s.msix 1 else s

/-- CMD_EVENT bit `b` and its vector (R349, R361). -/
def State.cmdEvent (s : State) (b : Nat) : State := s.event CMD_EVENT.base CMD_INT_EN.base b 2

/-- A posting is dropped and counted (R361). -/
def State.dropPost (s : State) (health : Bool) : State :=
  let s := s.count CMD_STDROP_DROP
  let s := if health then s.count CMD_STDROP_HDROP else s
  let s := { s with sring := { s.sring with drop := s.sring.drop + 1, hdrop := s.sring.hdrop + (if health then 1 else 0) } }
  (s.cmdEvent 2).journal 0x0312 0 (hostSev 0x0312)

/-- The OVERFLOW posting (Table 15.5, type 5). -/
def State.overflowPost (s : State) : Post :=
  { type := 5, code := 0, src := 0xFF00, rnd := s.count48 % 2 ^ 32,
    body := toBytes 4 s.sring.drop ++ toBytes 4 s.sring.hdrop, nent := 1 }

/-- Room for `p`, and for the OVERFLOW that precedes it after a drop (R361). -/
def State.postRoom (s : State) (p : Post) : Bool :=
  s.sringOn && decide (p.nent + (if s.sring.drop = 0 then 0 else 1) ≤ s.sringFree)

/-- `p` is written, behind an OVERFLOW if any posting was dropped before it. -/
def State.putPost (s : State) (p : Post) : State :=
  let s := if s.sring.drop = 0 then s
    else
      let s := s.writePost s.overflowPost
      { s with sring := { s.sring with drop := 0, hdrop := 0 } }
  s.writePost p

/-- A posting arises (R361): written, held (HEALTH, to 16) or dropped. -/
def State.post (s : State) (p : Post) : State :=
  if p.type = 3 then
    if s.sring.held.isEmpty && s.postRoom p then s.putPost p
    else if s.sring.held.length < 16 then { s with sring := { s.sring with held := s.sring.held ++ [p] } }
    else s.dropPost true
  else if s.postRoom p then s.putPost p else s.dropPost false

/-- Held HEALTH postings are written while there is room (R361). -/
def State.drainHeld : Nat → State → State
  | 0, s => s
  | n + 1, s =>
    match s.sring.held with
    | [] => s
    | p :: t => if s.postRoom p then State.drainHeld n (({ s with sring := { s.sring with held := t } }).putPost p) else s

/-- A HEALTH posting (Table 15.5, type 3): it always raises vector 7 (R362). `job` 0x07FF and `grp` 0xFFFF say none. -/
def State.health (s : State) (code src : Nat) (job : Nat := 0x07FF) (grp : Nat := 0xFFFF) (shed1 : Nat := 0xFFFF)
    (shedN : Nat := 0) (cause : Nat := 0) : State :=
  let p : Post := { type := 3, code := code, src := src, rnd := s.count48 % 2 ^ 32, nent := 1,
                    body := s.stampNow ++ toBytes 2 job ++ toBytes 2 grp ++ toBytes 2 shed1 ++ toBytes 2 shedN ++ toBytes 4 cause }
  (s.post p).msix 7

/-! ### Completions of ring commands (R350-R352) -/

def State.ring (s : State) (k : Nat) : Ring := s.rings.getD k {}
def State.setRing (s : State) (k : Nat) (r : Ring) : State := { s with rings := s.rings.set k r }
def State.ringSize (s : State) (k : Nat) : Nat := 2 ^ s.fld CMD_RCFG_SIZE k
/-- Distance of two 16-bit ring indices. -/
def dist16 (a b : Nat) : Nat := (a + 65536 - b) % 65536

/-- One completion entry is written (R350, R352). -/
def State.writeCpl (s : State) (k tag seq st opc : Nat) (r : List Nat) : State :=
  let n := s.ringSize k
  let cp := s.fld CMD_CPROD_CPROD k
  let base := s.regN CMD_CBASE_LO k + 2 ^ 32 * s.regN CMD_CBASE_HI k
  let empty := decide (cp = s.fld CMD_CCONS_CCONS k)
  let e := toBytes 2 tag ++ toBytes 2 seq ++ toBytes 2 st ++ toBytes 2 (opc + 2 ^ 15 * ringPhase cp n)
    ++ fitBytes 24 (r.flatMap (toBytes 4))
  let s := s.putHost (base + 32 * (cp % n)) e
  let s := s.setFld CMD_CPROD_CPROD (cp + 1) k
  if empty then s.msix 0 else s

/-- The completion of a command, which waits for Bus Master Enable (R340). -/
def State.complete (s : State) (k tag seq st opc : Nat) (r : List Nat) : State :=
  if s.dmaOk then s.writeCpl k tag seq st opc r
  else s.setRing k { s.ring k with heldCpl := (s.ring k).heldCpl ++ [(tag, seq, st, opc, r)] }

/-- The decoded length of an item's header (R345), and where entry `idx` of ring `k` lies (R344). -/
def headerLen (w0 : Nat) : Nat := if nbits w0 12 6 = 0 then 64 else nbits w0 12 6
def State.ringEntry (s : State) (k idx : Nat) : Nat :=
  s.regN CMD_RBASE_LO k + 2 ^ 32 * s.regN CMD_RBASE_HI k + 64 * (idx % s.ringSize k)

/-- What a flush of ring `k` walks over (R357), at most `n` items: wholly covered items from CONS are passed over; answers the new CONS, the SEQ of the first one passed, and the rest of a
partial one (its SEQ, words still to come). -/
def State.flushWalk (s : State) (k : Nat) : Nat → Nat → Option Nat → Nat × Option Nat × Option (Nat × Nat)
  | 0, cons, first => (cons, first, none)
  | n + 1, cons, first =>
    let prod := s.fld CMD_PROD_PROD k
    let avail := dist16 prod cons
    if avail = 0 then (cons, first, none)
    else
      let a := s.ringEntry k cons
      let w0 := s.hostLE a 4
      let sq := nbits (s.hostLE (a + 4) 4) 16 16
      let len := headerLen w0
      let ents := (len + 15) / 16
      let first := first.orElse (fun _ => some sq)
      if ents ≤ avail then s.flushWalk k n ((cons + ents) % 65536) first
      else (prod, first, some (sq, len - 16 * avail))

/-- While a tail is owed its posted entries are swallowed without being read as headers; with the last of them the ring runs again (R358). -/
def State.drainTake (s : State) (k : Nat) : State :=
  if s.flag CMD_FLUSHSEQ_DRAIN k then
    let r := s.fld CMD_FLUSHSEQ_REMAIN k
    let m := min (dist16 (s.fld CMD_PROD_PROD k) (s.fld CMD_CONS_CONS k)) ((r + 15) / 16)
    let w := min r (16 * m)
    let s := (s.setFld CMD_CONS_CONS (s.fld CMD_CONS_CONS k + m) k).count CMD_DRAINCNT_WORDS w k
    let s := s.setFld CMD_FLUSHSEQ_REMAIN (r - w) k
    if r ≤ w then
      let s := (s.setFld CMD_STATE_STATE 1 k).setFld CMD_FLUSHSEQ_DRAIN 0 k
      s.setRing k { s.ring k with checkSeq := false }
    else s
  else s

/-- An event of CMD_EVENT about ring `k` (Table 18.2). -/
def State.cmdReport (s : State) (b k : Nat) : State := (s.cmdEvent b).journal (0x0310 + b) k (hostSev (0x0310 + b))

/-- Ring `k` enters ERROR (R348). A failed read of host memory may require a non-fatal error message: which
reads do is the PCIe specification's, a free value (log 120). -/
def State.ringError (s : State) (k cause : Nat) : State :=
  let s := ((s.setFld CMD_STATE_STATE 3 k).setFld CMD_STATE_ERRCAUSE cause k).cmdReport 0 k
  if cause = 1 then
    ({ s with hif := { s.hif with nonFatal := s.hif.nonFatal + (if Config.freeBool s.free then 1 else 0) } }).draw
  else s

/-- How many headers of a flush of ring `k` can be read before a read of host memory fails (R340): a free value, and 4096 where none fails
(log 120). -/
def State.flushReads (s : State) (k : Nat) : Nat := if Config.freeBool s.free then 4096 else Config.pick s.free k % 4096

/-- The flush of ring `k` acts (R357): it walks over what PROD covers. A header that cannot be read stops it there, in ERROR with cause FETCH. -/
def State.flushRing (s : State) (k : Nat) : State :=
  let r := s.ring k
  let first := (r.taken.head?).map (·.seq)
  let (cons, first, part) := s.flushWalk k (s.flushReads k) (s.fld CMD_CONS_CONS k) first
  let prevSeq := s.fld CMD_STATE_LASTSEQ k
  let s := (s.setFld CMD_CONS_CONS cons k).draw
  let s := s.setFld CMD_FLUSHSEQ_SEQ (first.getD ((prevSeq + 1) % 65536)) k
  let s := s.setFld CMD_STATE_ERRCAUSE 0 k
  let s := s.setFld CMD_STATE_PARTIAL 0 k
  let s := s.setFld CMD_CTRL_FLUSH 0 k
  let s := s.setRing k { r with taken := [], flush := false, checkSeq := false }
  match part with
  | some (_, rem) =>
    ((s.setFld CMD_STATE_STATE 2 k).setFld CMD_FLUSHSEQ_DRAIN 1 k).setFld CMD_FLUSHSEQ_REMAIN rem k
  | none =>
    if s.flag CMD_FLUSHSEQ_DRAIN k then s.setFld CMD_STATE_STATE 2 k
    else if s.fld CMD_PROD_PROD k = cons then s.setFld CMD_STATE_STATE 1 k
    else s.ringError k 1

/-- A flush of ring `k` is done, or waits until requests to host memory may be made (R340). -/
def State.doFlush (s : State) (k : Nat) : State :=
  let s := s.drainTake k
  if s.dmaOk ∨ s.fld CMD_PROD_PROD k = s.fld CMD_CONS_CONS k then s.flushRing k
  else s.setRing k { s.ring k with flush := true }

/-- The running command of ring `k` ends with status `st` and reply words `r` (R351): its completion is written unless SILENT and
ST_OK, or the ring was disabled meanwhile (R349); a waiting flush then acts. -/
def State.endRun (s : State) (k st : Nat) (r : List Nat := []) : State :=
  match (s.ring k).run with
  | none => s
  | some c =>
    let on := s.flag CMD_CTRL_EN k
    let mute := (s.ring k).mute
    let s := s.setRing k { s.ring k with run := none, lastSt := st, mute := false }
    let s := s.setFld CMD_STATE_BUSY 0 k
    let s := if on && !mute && !(c.item.silent && decide (st = 0)) then s.complete k c.item.tag c.item.seq st c.item.opc r else s
    let s := if on then s else s.setFld CMD_STATE_STATE 0 k
    if (s.ring k).flush then s.doFlush k else s

/-- A RING_FLUSH that waits ends once none of the rings it names has a flush to do (R357), which may end another's wait. -/
def State.endRingFlush (s : State) : State :=
  ([0, 1, 2, 3, 0, 1, 2, 3, 0, 1, 2, 3]).foldl (fun s k =>
    match (s.ring k).run with
    | some ⟨_, .ringFlush m⟩ =>
      if (bitsOf m 4).any (fun j => (s.ring j).flush) then s
      else
        let q := fun j => s.fld CMD_FLUSHSEQ_SEQ j
        s.endRun k 0 [q 0 + 65536 * q 1, q 2 + 65536 * q 3]
    | _ => s) s

/-- The running command of ring `k` ends; a flush that waited for it may end a RING_FLUSH. -/
def State.endCmd (s : State) (k st : Nat) (r : List Nat := []) : State := (s.endRun k st r).endRingFlush

/-- Every ring whose running command waits for something that `f` settles ends with what `f` answers. -/
def State.settle (s : State) (f : State → Wait → Option (Nat × List Nat)) : State :=
  ((List.range 4).foldl (fun s k =>
    match (s.ring k).run with
    | some c => match f s c.wait with
      | some (st, r) => s.endCmd k st r
      | none => s
    | none => s) s).endRingFlush

/-! ### Access errors (R99, R100) -/

/-- A read request is answered. -/
def State.respond (s : State) (rq : Requester) (st : Nat) (data : List Nat) : State :=
  { s with resp := { rq := rq, st := st, data := data } }

/-- The first error is recorded in the three registers at `base`; a later one only counts (R99). -/
def State.recordErr (s : State) (r0 rAddr : Rg) (rData : Option Rg) (src : Nat) (c : AccCause) (write : Bool) (be addr data ap : Nat) :
    State :=
  let x := s.reg r0.base
  if x.toNat.testBit 0 then s.setReg r0.base (setBits x 16 16 (min (bits x 16 16 + 1) 65535))
  else
    let s := s.setReg r0.base
      (BitVec.ofNat 32 (1 + 2 * c.code + (if write then 16 else 0) + 32 * src + 128 * (be % 16)))
    let s := s.setReg rAddr.base (BitVec.ofNat 32 (addr % 2 ^ 26 + 2 ^ 26 * ap))
    match rData with
    | some r => s.setReg r.base (BitVec.ofNat 32 (if write then data else 0))
    | none => s

/-- An access error (R99): of the debug port in the DBG block with its event (R480), of the host or the Hub Controller in
HIF_ACCERR with HIF_EVENT.ACCERR. `src` is the code of HIF_ACCERR.SRC. -/
def State.accErr (s : State) (rq : Requester) (src : Nat) (c : AccCause) (write : Bool) (be addr data : Nat)
    (ap : Nat := 0) : State :=
  match rq with
  | .debug =>
    let s := s.recordErr DBG_ACCERR DBG_ACCERR_ADDR none src c write be addr data 0
    s.report DBG_EVENT.base DBG_INT_EN.base 6 43 0x1006 0 3 c.code
  | _ =>
    let s := s.recordErr HIF_ACCERR HIF_ACCERR_ADDR (some HIF_ACCERR_DATA) src c write be addr data ap
    s.report HIF_EVENT.base HIF_INT_EN.base 0 3 0x0300 0 (hostSev 0x0300)

end Sys2Proof.Machine
end

