-- ==== Sys2Proof/Machine/Round.lean ====
section
/-! DEFINITION. Machine/Round.lean: the Round engine (chapter 2): time, the two reference candidates, the phase loop, holdover,
slewing, PPS and NSTIME. -/

namespace Sys2Proof.Machine
open Sys2Proof Sys2Proof.Machine.Reg

def stFree : Nat := 0
def stAcquire : Nat := 1
def stLocked : Nat := 2
def stHold : Nat := 3
def stSlew : Nat := 4

def State.modRnd (s : State) (f : Rnd → Rnd) : State := { s with rnd := f s.rnd }
def State.rstate (s : State) : Nat := s.fld RND_STATUS_STATE

/-- Time of the timing clock in ns since cast-on. -/
def State.clkNs (s : State) : Nat := 4 * s.rnd.clk

/-- An event of Table 2.7; DATA is the state before and after, REF_ACT and RND_PHERR (Table 18.4). -/
def State.rndEvent (s : State) (b sev before : Nat) : State :=
  s.report RND_EVENT.base RND_INT_EN.base b 4 (0x0100 + b) 0 sev
    (before + 2 ^ 8 * s.rstate + 2 ^ 16 * s.fld RND_STATUS_REF_ACT + 2 ^ 32 * s.regN RND_PHERR)

/-- The frequency FREERUN runs at (RND_LOOP.NOMINAL in force). -/
def State.nominal (s : State) : Nat := if s.live RND_LOOP_NOMINAL = 1 then 0x3C0000 else 0x320000

/-- The candidate: true is the voltage channel. -/
def State.cand (s : State) (v : Bool) : Cand := if v then s.rnd.v else s.rnd.z
def State.setCand (s : State) (v : Bool) (c : Cand) : State :=
  s.modRnd (fun r => if v then { r with v := c } else { r with z := c })
def State.enabled (s : State) (v : Bool) : Bool :=
  if v then s.live RND_REFSEL_VEN = 1 else s.live RND_REFSEL_ZEN = 1
def State.qualified (s : State) (v : Bool) : Bool :=
  if v then s.flag RND_STATUS_VQUAL else s.flag RND_STATUS_ZQUAL
def State.setQualified (s : State) (v b : Bool) : State :=
  s.setFld (if v then RND_STATUS_VQUAL else RND_STATUS_ZQUAL) (if b then 1 else 0)
/-- REF_ACT code of a candidate. -/
def refCode (v : Bool) : Nat := if v then 1 else 2
def State.inUse (s : State) (v : Bool) : Bool := s.fld RND_STATUS_REF_ACT = refCode v

/-! ### Frequency -/

/-- The reference frequency is measured over four intervals (R36). -/
def Cand.measured (c : Cand) : Bool := decide (c.ivals.length = 4)
def Cand.sum (c : Cand) : Nat := c.ivals.foldl (· + ·) 0
/-- Four intervals of `sum` ns in all mean a frequency of `4·10⁹·2¹⁶ / sum`, and the band is closed at both ends (R36). -/
def meanAbove (f sum : Nat) : Bool := decide (f * sum < 4 * 10 ^ 9 * 2 ^ 16)
def meanBelow (f sum : Nat) : Bool := decide (4 * 10 ^ 9 * 2 ^ 16 < f * sum)
def State.inBand (s : State) (sum : Nat) : Bool :=
  !(meanAbove (s.liveN RND_BAND_HI) sum) && !(meanBelow (s.liveN RND_BAND_LO) sum)

/-- The intervals of the reference in use, once it is measured (R36). -/
def State.refSum (s : State) : Option Nat :=
  let of := fun (c : Cand) => if c.measured then some c.sum else none
  if s.inUse true then of s.rnd.v else if s.inUse false then of s.rnd.z else none
/-- The reference in use measures inside the band (R36), above it (R42). -/
def State.refInBand (s : State) : Bool := match s.refSum with
  | some t => s.inBand t
  | none => false
def State.refAbove (s : State) : Bool := match s.refSum with
  | some t => meanAbove (s.liveN RND_BAND_HI) t
  | none => false

/-- The remaining correction as a signed number of PHASE units. -/
def State.phErr (s : State) : Int := sInt 32 (s.regN RND_PHERR)
def State.setPhErr (s : State) (e : Int) : State := s.setRegN RND_PHERR (uInt 32 e)

/-- The output frequency from the loop's own and, in SLEWING, the offset that moves PHASE by at most RND_LOOP.SLEW stitches a round. While the
reference is in band the output never exceeds RND_BAND_HI, in any state (R36); while it is above the band an advance is suspended (R42). -/
def State.setOutput (s : State) : State :=
  let b := s.rnd.base
  let off := b * s.live RND_LOOP_SLEW / 1024
  let slew := decide (s.rstate = stSlew)
  let ahead := decide (0 < s.phErr)
  let held := slew && ahead && s.refAbove
  let f := if ¬ slew ∨ held then b else if ahead then b + off else b - off
  (s.setFld RND_STATUS_SLEW_HELD (if held then 1 else 0)).setRegN RND_FREQ (if s.refInBand then min f (s.liveN RND_BAND_HI) else f)

/-- The engine goes to state `st` and its output follows. -/
def State.goRnd (s : State) (st : Nat) : State := (s.setFld RND_STATUS_STATE st).setOutput

/-- The loop's own frequency changes. -/
def State.setBase (s : State) (f : Nat) : State := (s.modRnd (fun r => { r with base := f })).setOutput

/-! ### Time passes -/

/-- `g` is what `h` has become when nothing changed between them. -/
def Seg.continues (h g : Seg) : Bool :=
  let d := g.tick - h.tick
  let t := h.frac + d * h.freq * 2 ^ 18
  let q := h.nsFrac + d * h.nsNum
  decide (h.freq = g.freq ∧ h.flags = g.flags ∧ h.nsNum = g.nsNum ∧ h.nsDen = g.nsDen
    ∧ h.phase + t / 10 ^ 9 = g.phase ∧ t % 10 ^ 9 = g.frac ∧ h.ns + q / h.nsDen = g.ns ∧ q % h.nsDen = g.nsFrac)

/-- Entries that ended before tick `lo` are forgotten. -/
def pruneHist (lo : Nat) : List Seg → List Seg
  | [] => []
  | g :: t => if g.tick ≤ lo then [g] else g :: pruneHist lo t

/-- The time base as it stands is kept, if it is not what the last entry leads to; 2^25 ticks (six rounds) are remembered. -/
def State.noteHist (s : State) : State :=
  let r := s.rnd
  let g : Seg := { tick := r.clk, phase := s.absPhase, frac := r.frac, freq := s.freq, flags := s.stampFlags, ns := s.nstime,
                   nsFrac := r.nsFrac, nsNum := r.nsNum, nsDen := r.nsDen }
  let put := fun (l : List Seg) => s.modRnd (fun r => { r with hist := pruneHist (r.clk - 2 ^ 25) (g :: l) })
  match r.hist with
  | [] => put []
  | h :: t => if h.tick = g.tick then put t else if h.continues g then s else put (h :: t)

/-- `n` ticks of the timing clock (R38): PHASE advances at the output frequency and carries into RND_COUNT, NSTIME at its rate, and
in SLEWING the remaining correction shrinks by what the offset moved. -/
def State.runTicks (s : State) (n : Nat) : State :=
  let s := s.noteHist
  let r := s.rnd
  let t : Nat := r.frac + n * s.freq * 2 ^ 18
  let adv : Nat := t / 10 ^ 9
  let own : Nat := (r.frac + n * r.base * 2 ^ 18) / 10 ^ 9
  let p := s.absPhase + adv
  let q := r.nsFrac + n * r.nsNum
  let ns := (s.nstime + q / r.nsDen) % 2 ^ 64
  let e := s.phErr - ((adv : Int) - (own : Int))
  let s := if s.rstate = stSlew then s.setPhErr e else s
  let s := ((s.setPhase (p % 2 ^ 32)).setRoundNo (p / 2 ^ 32)).setNstime ns
  s.modRnd (fun r => { r with clk := r.clk + n, frac := t % 10 ^ 9, nsFrac := q % r.nsDen })

/-- A past instant: `num`/`den` ticks after tick `base`, and the entry of the time base it lies in. -/
structure Instant where
  base : Nat
  num : Nat
  den : Nat
  seg : Seg
  deriving DecidableEq, Repr

/-- The entry in which the time base reached absolute phase `p`, and the tick at which the next entry began. -/
def findSeg (p : Nat) : Option Nat → List Seg → Option (Seg × Option Nat)
  | _, [] => none
  | nx, g :: t => if g.phase < p ∨ (g.phase = p ∧ g.frac = 0) then some (g, nx) else findSeg p (some g.tick) t

/-- The instant at which PHASE reached the absolute phase `p` (R139), to a fraction of a tick; a point that a step of PHASE passed over
has the instant of the step. -/
def State.instantOf (s : State) (p : Nat) : Option Instant :=
  match findSeg p none s.rnd.hist with
  | none => none
  | some (g, nx) =>
    let den := max 1 (g.freq * 2 ^ 18)
    let num := (p - g.phase) * 10 ^ 9 - g.frac
    let num := match nx with
      | some n => min num ((n - g.tick) * den)
      | none => num
    some { base := g.tick, num := num, den := den, seg := g }

/-- NSTIME at an instant. -/
def Instant.ns (i : Instant) : Nat := (i.seg.ns + (i.seg.nsFrac * i.den + i.num * i.seg.nsNum) / (i.den * i.seg.nsDen)) % 2 ^ 64

/-- The ticks to the next multiple of `unit` PHASE units, at least one. -/
def State.ticksTo (s : State) (unit : Nat) : Nat :=
  let left := (unit - s.phase % unit) * 10 ^ 9 - s.rnd.frac
  let inc := max 1 (s.freq * 2 ^ 18)
  max 1 ((left + inc - 1) / inc)

/-- A round has begun: what its predecessor took, in ticks, and what the output advanced in it are kept for R40. -/
def State.noteRound (s : State) : State :=
  s.modRnd (fun r => { r with rounds := ((r.clk - r.roundAt, s.absPhase - r.roundPh) :: r.rounds).take 18, roundAt := r.clk,
                              roundPh := s.absPhase })

/-! ### Reference loss, holdover, relock -/

/-- The mean output frequency over the 16 rounds that end 2 rounds before (R40), over as many as there are; not above RND_BAND_HI where the
reference was in band when it was lost (R36). -/
def State.holdFreq (s : State) : Nat :=
  let l := (s.rnd.rounds.drop 2).take 16
  let t := l.foldl (fun a x => a + x.1) 0
  let f := if t = 0 then s.freq else l.foldl (fun a x => a + x.2) 0 * 10 ^ 9 / (4 * t * 2 ^ 16)
  if s.flag RND_STATUS_OUTBAND then f else min f (s.liveN RND_BAND_HI)

/-- The engine enters HOLDOVER (R40), or FREERUN where it has never been LOCKED. OUTBAND stays as it was in FREERUN too, until a new
reference measures in band (DESIGN CHOICE, log entry 116). -/
def State.toHold (s : State) : State :=
  let b := s.rstate
  if s.flag RND_STATUS_EVER_LOCKED then
    let f := s.holdFreq
    (((s.setFld RND_STATUS_REF_ACT 0).setBase f).goRnd stHold).rndEvent 3 5 b
  else ((s.setFld RND_STATUS_REF_ACT 0).setBase s.nominal).goRnd stFree

/-- The reference's phase now, given that it was 0 `ago` ns before; a negative `ago` lies ahead. -/
def State.refPhase (s : State) (ago : Int) : Nat := uInt 32 (ago * s.freq * 2 ^ 16 / 10 ^ 9)

/-- The phase error: reference minus engine, as a signed number. -/
def State.phaseErr (s : State) (ago : Int) : Int := sInt 32 (s.refPhase ago + 2 ^ 32 - s.phase)

/-- The band check of the reference in use (R37). -/
def State.checkBand (s : State) : State :=
  match s.refSum with
  | some t =>
    let inside := s.inBand t
    if !inside && !(s.flag RND_STATUS_OUTBAND) then (s.setFld RND_STATUS_OUTBAND 1).rndEvent 6 5 s.rstate
    else if inside && s.flag RND_STATUS_OUTBAND then (s.setFld RND_STATUS_OUTBAND 0).rndEvent 7 3 s.rstate
    else s
  | none => s

/-- The time `ago` ns before now, in ns of the timing clock; a negative `ago` lies ahead. -/
def State.crossAt (s : State) (ago : Int) : Nat := ((s.clkNs : Int) - ago).toNat

/-- The frequency of the reference in use as R36 measures it, and the loop's own where it is not measured. -/
def State.refFreq (s : State) : Nat := match s.refSum with
  | some t => (4 * 10 ^ 9 * 2 ^ 16 + t / 2) / max 1 t
  | none => s.rnd.base

/-- SLEWING begins with a remaining correction of `e` (R42): what is offset is the frequency of the reference alone (DEDUCED, log entry 118). -/
def State.startSlew (s : State) (e : Int) : State :=
  let s := s.setPhErr e
  (s.modRnd (fun r => { r with base := s.refFreq })).goRnd stSlew

/-- A switch between two live references (R33): slewed where the engine was locked, never stepped. The error is that of the new reference's
last crossing (R42). In ACQUIRE, from which Table 2.1 gives no way to SLEWING, the engine stays and counts crossings anew (DESIGN CHOICE,
log entry 117). -/
def State.switchRef (s : State) (v : Bool) : State :=
  let b := s.rstate
  let e := s.phaseErr ((s.clkNs : Int) - (((s.cand v).last.getD s.clkNs : Nat) : Int))
  let s := (s.setFld RND_STATUS_REF_ACT (refCode v)).count RND_STATS_SWITCHES
  let s := if b = stLocked ∨ b = stSlew then s.startSlew e else s.modRnd (fun r => { r with lockCnt := 0 })
  (s.rndEvent 2 4 b).checkBand.setOutput

/-- A candidate is disqualified (Table 2.2). If it is the one in use, the engine switches to the other or holds over (R33, R40). -/
def State.disqualify (s : State) (v : Bool) : State :=
  let s := s.setCand v { s.cand v with run := 0, ivals := [] }
  let s := s.setQualified v false
  if s.inUse v then
    let s := (s.count RND_STATS_REFLOSS).rndEvent 1 5 s.rstate
    if s.enabled (!v) && s.qualified (!v) then s.switchRef (!v) else s.toHold
  else s

/-- HOLDOVER is forced from LOCKED (R40): the reference in use is lost and both candidates requalify. -/
def State.forceHold (s : State) : State :=
  let s := (s.count RND_STATS_REFLOSS).rndEvent 1 5 s.rstate
  let s := (s.setQualified true false).setQualified false false
  let s := s.modRnd (fun r => { r with v := { r.v with run := 0, ivals := [] }, z := { r.z with run := 0, ivals := [] } })
  s.toHold

/-- The engine is LOCKED; with RND_CTRL.HOLD_FORCE 1 it does not stay so (R40). -/
def State.lockRnd (s : State) (before : Nat) (done : Bool) : State :=
  let s := (s.setFld RND_STATUS_EVER_LOCKED 1).goRnd stLocked
  let s := (if done then s.rndEvent 5 2 before else s).rndEvent 0 2 before
  if s.flag RND_CTRL_HOLD_FORCE then s.forceHold else s

/-- A candidate has qualified (R27, R28, R42): from FREERUN the engine steps forward to the reference's phase, from HOLDOVER it
slews. -/
def State.onQualify (s : State) (v : Bool) (ago : Int) : State :=
  if s.rstate = stFree then
    let p := s.refPhase ago
    let a := s.absPhase
    let s := if p < s.phase then s.setRoundNo (s.roundNo + 1) else s
    let s := ((s.setPhase p).setFld RND_STATUS_REF_ACT (refCode v)).setPhErr 0
    ((s.modRnd (fun r => { r with lockCnt := 0, frac := 0, roundPh := r.roundPh + (s.absPhase - a) })).goRnd stAcquire).checkBand
  else if s.rstate = stHold then
    let s := (s.setFld RND_STATUS_REF_ACT (refCode v)).startSlew (s.phaseErr ago)
    (s.rndEvent 4 3 stHold).checkBand
  else s

/-- What a crossing with phase error `e` after one with `e0` adds to the frequency `f`, in 2^-16 Hz, through a second-order filter of damping
0.707 whose closed loop is down by 3 dB at 2^(`bw` − 1) Hz (R34): with ω that width in rad/s over √(2 + √5), the proportional gain is √2·ω and the
integral gain ω² over the interval. -/
def loopGain (bw : Nat) (e0 e : Int) (f : Nat) : Int :=
  (2159 * 2 ^ bw * (e - e0) + 2330 * 4 ^ bw * e * 2 ^ 16 / (max 1 f : Nat)) / (1000 * 2 ^ 16)

/-- The loop filter takes the phase error `e` of a crossing. R34 does not give the filter's arithmetic: the frequency is free within a quarter of
what the filter adds (DEDUCED, log entry 15). -/
def State.stepLoop (s : State) (e : Int) : State :=
  let g := loopGain (s.live RND_LOOP_BW) s.phErr e s.rnd.base
  let room := g.natAbs / 4 + 1
  let x := (Config.loopFreq (s.live RND_LOOP_BW) e s.rnd.base s.free).toNat % (2 * room + 1)
  (s.draw.setPhErr e).setBase ((s.rnd.base : Int) + g + (x : Int) - (room : Int)).toNat

/-- An accepted crossing of the reference in use drives the loop; 8 in a row within ¼ stitch lock it (Table 2.1). In SLEWING the loop follows
the reference's frequency, and the slew removes the error. -/
def State.drive (s : State) (ago : Int) : State :=
  let s := s.checkBand
  let err := s.phaseErr ago
  let s := if s.rstate = stSlew then (s.setPhErr err).setBase s.refFreq else s.stepLoop err
  if s.rstate = stAcquire then
    let n := if err.natAbs ≤ 2 ^ 20 then s.rnd.lockCnt + 1 else 0
    let s := s.modRnd (fun r => { r with lockCnt := n })
    if 8 ≤ n then s.lockRnd stAcquire false else s
  else s

/-- Half a round at the engine's frequency, in ns (R31). -/
def State.halfRoundNs (s : State) : Nat := 10 ^ 9 * 2 ^ 16 / (2 * max 1 s.freq)

/-- A crossing of an enabled candidate, `ago` ns past after all corrections: ignored within half a round of the last, otherwise
accepted, and its interval checked against the hardware range (R29). In HOLDOVER it counts for nothing while RND_CTRL.HOLD_FORCE is 1 (R40). -/
def State.crossing (s : State) (v : Bool) (ago : Int) : State :=
  if !(s.enabled v) then s
  else
    let t := s.crossAt ago
    let c := s.cand v
    let dt := t - (c.last.getD 0)
    if c.last.isSome ∧ dt < s.halfRoundNs then s
    else if s.flag RND_CTRL_HOLD_FORCE ∧ s.rstate = stHold then s.setCand v { c with run := 0, last := some t, ivals := [] }
    else if c.last.isSome ∧ 0 < c.run ∧ ¬ (15152000 ≤ dt ∧ dt ≤ 22222000) then
      let s := s.setCand v { c with last := some t }
      let s := s.disqualify v
      s.setCand v { s.cand v with run := 1 }
    else
      let was := s.qualified v
      let before := s.rstate
      let n := min 8 (c.run + 1)
      let c : Cand := { c with run := n, last := some t, ivals := if 0 < c.run then (dt :: c.ivals).take 4 else [],
                               qualAt := if was then c.qualAt else s.absPhase }
      let s := s.setCand v c
      let s := if n = 8 then s.setQualified v true else s
      let s := if s.inUse v then s.drive ago else s
      if n = 8 ∧ (¬ was ∨ before = stHold ∨ before = stFree) then s.onQualify v ago else s

/-- The age of an instant as the timing clock resolves it, to 4 ns (R495): the first tick at or after it counts. -/
def tickAgo (ago : Int) : Int := 4 * (ago / 4)

/-- The crossing time of R31: between a sample `below` zero and the next, `above` or at zero, taken `period` ns apart, the second
of them `ago` ns past. A sample's time is that of its grid point, which the link latency is already taken out of (R31, R121). -/
def State.voltAgo (s : State) (ago below above period : Nat) : Int :=
  let back := if below + above = 0 then 0 else period * above / (below + above)
  tickAgo (((ago + back : Nat) : Int) + sInt 16 (s.live RND_REFDLY_VDLY))

/-- The samples pass from at most −VMIN/8 to at least +VMIN/8 (R31): `dip` counts below zero before the crossing, `peak` above it after; VMIN is in
1/256 of a full scale of 2^23 counts. -/
def State.swings (s : State) (dip peak : Nat) : Bool :=
  decide (s.live RND_REFSEL_VMIN * 2 ^ 12 ≤ dip) && decide (s.live RND_REFSEL_VMIN * 2 ^ 12 ≤ peak)

/-- The voltage channel passes zero upward (R31): the crossing is accepted if its swing is large enough. -/
def State.voltCross (s : State) (ago below above period dip peak : Nat) : State :=
  if s.swings dip peak then s.crossing true (s.voltAgo ago below above period) else s

/-- An edge of ZC_IN `ago` ns past (R32); only the polarity that ZPOL selects counts. -/
def State.zcCross (s : State) (ago : Nat) (rising : Bool) : State :=
  if rising = decide (s.live RND_REFSEL_ZPOL = 0) then s.crossing false (tickAgo (tickAgo ago + sInt 16 (s.live RND_REFDLY_ZCDLY))) else s

/-- No accepted crossing within 1.25 rounds at the current frequency (Table 2.2). -/
def State.crossingLate (s : State) (v : Bool) : Bool :=
  match (s.cand v).last with
  | none => false
  | some t => decide (10 ^ 9 * 2 ^ 16 * 5 < (s.clkNs - t) * 4 * max 1 s.freq)

/-- CROSSING_TIMEOUT (R29) of the voltage channel or of ZC_IN. -/
def execCrossingTimeout (voltage : Bool) (s : State) : Out :=
  if s.crossingLate voltage && (decide (0 < (s.cand voltage).run) || s.qualified voltage) then
    .next (s.disqualify voltage)
  else .next s

/-- No sample at or above VMIN for 128 stitches; VMIN 0 switches the condition off. -/
def State.amplitudeLate (s : State) : Bool :=
  decide (s.live RND_REFSEL_VMIN ≠ 0) && decide (128 * 2 ^ 22 ≤ s.absPhase - s.rnd.lastV)

/-- AMPLITUDE_TIMEOUT (R29). -/
def execAmplitudeTimeout (s : State) : Out :=
  if s.amplitudeLate && (decide (0 < s.rnd.v.run) || s.qualified true) then .next (s.disqualify true) else .next s

/-- The voltage channel has stayed qualified long enough to go back to it (R33): REVERT_RNDS rounds of PHASE since it qualified. A channel that
qualifies for the first time while ZC_IN is in use is treated as a requalified one (DESIGN CHOICE, log entry 84). -/
def State.revertDue (s : State) : Bool :=
  decide (s.live RND_REFSEL_REVERT = 1) && s.qualified true && s.enabled true && s.inUse false
    && decide (s.live RND_LOOP_REVERT_RNDS * 2 ^ 32 ≤ s.absPhase - s.rnd.v.qualAt)

/-- REF_REVERT (R33). -/
def execRefRevert (s : State) : Out := .next (if s.revertDue then s.switchRef true else s)

/-- SLEW_DONE (R42): less than ¼ stitch remains. -/
def execSlewDone (s : State) : Out :=
  if s.rstate = stSlew ∧ s.phErr.natAbs < 2 ^ 20 then .next (s.lockRnd stSlew true) else .next s

/-- RND_CTRL.HOLD_FORCE is written (R40): from LOCKED the engine enters HOLDOVER at once. -/
def State.holdForce (s : State) (on : Bool) : State :=
  let s := s.setFld RND_CTRL_HOLD_FORCE (if on then 1 else 0)
  if on ∧ s.rstate = stLocked then s.forceHold else s

/-- The snapshot of RND_CTRL.SNAP (R49): SELVAGE and UNC_SAT read 0. -/
def State.snap (s : State) : State :=
  let s := (s.setRegN RND_SNAP_CNT_LO s.count48).setRegN RND_SNAP_CNT_HI (s.count48 / 2 ^ 32)
  let s := (s.setRegN RND_SNAP_PHASE s.phase).setRegN RND_SNAP_FREQ s.freq
  let s := (s.setRegN RND_SNAP_NS_LO s.nstime).setRegN RND_SNAP_NS_HI (s.nstime / 2 ^ 32)
  s.setRegN RND_SNAP_FLAGS s.stampFlags

/-! ### PPS and NSTIME (R43, R44) -/

/-- NSTIME takes the value `v` (R44); a waiting NSSET command ends. -/
def State.loadNs (s : State) (v : Nat) : State :=
  let old := s.nstime
  let s := (s.setNstime v).setFld RND_STATUS_NS_VALID 1
  let s := s.modRnd (fun r => { r with nsArm := none, nsFrac := 0 })
  let s := s.report RND_EVENT.base RND_INT_EN.base 10 4 0x010A 0 4 old
  s.settle (fun _ w => match w with
    | .nsset _ => some (0, [old % 2 ^ 32, old / 2 ^ 32, v % 2 ^ 32, v / 2 ^ 32])
    | _ => none)

/-- A write of RND_NSSET_HI arms the load, which happens at once if PPS is not locked. A load that is armed when PPS is lost stays armed until
PPS locks again (DESIGN CHOICE, log entry 85). -/
def State.armNs (s : State) (v : Nat) : State :=
  if s.flag RND_STATUS_PPS_LOCK then s.modRnd (fun r => { r with nsArm := some v }) else s.loadNs v

/-- The signed distance of NSTIME from the nearest whole second. -/
def secErr (ns : Nat) : Int :=
  let m : Nat := ns % 10 ^ 9
  if m < 500000000 then (m : Int) else (m : Int) - 1000000000

/-- The rate of NSTIME from an interval of `ticks` between two edges, with a slew that never exceeds 500 ppm and never passes
the whole second; how much of it is used is a free value (R43). -/
def State.discipline (s : State) (ticks : Nat) : State :=
  let e := secErr s.nstime
  let room := min 500000 e.natAbs
  let x := min room (Config.ppsSlew s.free)
  let slew : Int := if s.flag RND_STATUS_NS_VALID then (if 0 < e then -(x : Int) else (x : Int)) else 0
  s.draw.modRnd (fun r => { r with nsNum := (1000000000 + slew).toNat, nsDen := max 1 ticks, nsFrac := 0 })

/-- PPS is lost (R43): NSTIME keeps the corrected rate, without what slewed it to the whole second. -/
def State.losePps (s : State) : State :=
  let s := s.modRnd (fun r => { r with ppsRun := 0, nsNum := if r.nsDen = 1 then r.nsNum else 10 ^ 9 })
  (s.setFld RND_STATUS_PPS_LOCK 0).rndEvent 9 4 s.rstate

/-- A PPS_IN edge of the selected polarity. PPS locks with the third interval in a row that lies within 1 s ± 100 µs, so with the fourth edge
(DESIGN CHOICE, log entry 86). -/
def State.ppsEdge (s : State) : State :=
  let t := s.rnd.clk
  let dt := t - s.rnd.ppsLast.getD 0
  let good := s.rnd.ppsLast.isSome && decide (250000000 - 25000 ≤ dt ∧ dt ≤ 250000000 + 25000)
  let n := if good then min 3 (s.rnd.ppsRun + 1) else 0
  let s := s.modRnd (fun r => { r with ppsRun := n, ppsLast := some t })
  let s := if n = 3 ∧ ¬ s.flag RND_STATUS_PPS_LOCK then (s.setFld RND_STATUS_PPS_LOCK 1).rndEvent 8 2 s.rstate else s
  let s := match s.flag RND_STATUS_PPS_LOCK, s.rnd.nsArm with
    | true, some v => s.loadNs v
    | _, _ => s
  let s := s.setRegN RND_PPSERR (uInt 32 (secErr s.nstime))
  if s.flag RND_STATUS_PPS_LOCK && good then s.discipline dt else s

/-- PPS_EDGE (R43). An edge on a ball that boundary scan holds does not reach the engine (R468). -/
def execPpsEdge (rising : Bool) (s : State) : Out :=
  if ¬ s.cutOff ∧ s.live RND_PPSCFG_EN = 1 ∧ rising = decide (s.live RND_PPSCFG_POL = 0) then .next s.ppsEdge else .next s

/-- PPS_TIMEOUT (R43): no edge for 1.1 s. -/
def execPpsTimeout (s : State) : Out :=
  let late := match s.rnd.ppsLast with
    | none => true
    | some t => decide (275000000 ≤ s.rnd.clk - t)
  .next (if s.flag RND_STATUS_PPS_LOCK && late then s.losePps else s)

/-! ### The staged set (R35, R48) -/

/-- The cause a staged set is rejected with (RND_STATUS.REJ_CAUSE), 0 if it is valid. -/
def State.rndReject (s : State) : Nat :=
  let lo := s.regN RND_BAND_LO
  let hi := s.regN RND_BAND_HI
  if hi ≤ lo then 1
  else if lo < 0x2D0000 ∨ 0x420000 < hi then 2
  else if s.flag PAT_STATUS_ACTIVE ∧ (lo ≠ s.liveN RND_BAND_LO ∨ hi ≠ s.liveN RND_BAND_HI) then 3
  else if 4 < s.fld RND_LOOP_BW then 4
  else if 5 < s.fld RND_REFSEL_PORT then 5
  else if s.fld RND_LOOP_SLEW < 1 ∨ 32 < s.fld RND_LOOP_SLEW then 6
  else if s.fld RND_LOOP_REVERT_RNDS < 8 then 7
  else 0

/-- Registers whose staged fields the Round engine takes together. -/
def rndStaged : List Rg := [RND_REFSEL, RND_REFDLY, RND_BAND_LO, RND_BAND_HI, RND_LOOP, RND_PPSCFG]

/-- Register `r` (i, j) in force takes its staged value. -/
def State.apply1 (s : State) (r : Rg) (i j : Nat) : State := s.setReg (r.at i j + 0x800) (s.reg (r.at i j))

/-- The set of the Round engine takes effect or is rejected (R48, R97). -/
def State.applyRnd (s : State) : State :=
  let s := s.setFld RND_CTRL_COMMIT 0
  let rej := s.rndReject
  if rej ≠ 0 then (s.setFld RND_STATUS_REJ_CAUSE rej).rndEvent 11 3 s.rstate
  else
    let moved := decide (s.live RND_REFSEL_PORT ≠ s.fld RND_REFSEL_PORT ∨ s.live RND_REFSEL_CH ≠ s.fld RND_REFSEL_CH)
    let s := rndStaged.foldl (fun s r => s.apply1 r 0 0) s
    let s := s.rndEvent 12 1 s.rstate
    let s := s.checkBand
    let s := if s.rstate = stFree then s.setBase s.nominal else s.setOutput
    let s := if moved || !(s.enabled true) then (s.disqualify true).setCand true {} else s
    let s := if s.enabled false then s else (s.disqualify false).setCand false {}
    if s.live RND_PPSCFG_EN = 0 then
      let s := s.modRnd (fun r => { r with ppsRun := 0, ppsLast := none })
      if s.flag RND_STATUS_PPS_LOCK then s.losePps else s
    else s

end Sys2Proof.Machine
end

