-- ==== Sys2Proof/Machine/Journal.lean ====
section
/-! DEFINITION. Machine/Journal.lean: the Event Journal (chapter 18): numbering, the volatile buffer, rate limiting, the NOR
partition, its mount and its clear. -/

namespace Sys2Proof.Machine
open Sys2Proof Sys2Proof.Machine.Reg

def State.modJrn (s : State) (f : Jrn → Jrn) : State := { s with jrn := f s.jrn }

/-- SEQ `a` is before SEQ `b`, by signed distance modulo 2^32 (R409). -/
def seqBefore (a b : Nat) : Bool :=
  let d := (b + 2 ^ 32 - a % 2 ^ 32) % 2 ^ 32
  decide (0 < d ∧ d < 2 ^ 31)

/-- The 32 bytes of a numbered record (Table 18.1). -/
def recBytes (seq : Nat) (r : JRec) : List Nat :=
  toBytes 4 seq ++ toBytes 4 r.rnd ++ toBytes 8 r.ns ++ toBytes 2 r.ph ++ toBytes 2 r.code ++ [r.src % 256]
    ++ [r.sev % 8 + 8 * (r.flags % 16) + (if r.part then 128 else 0)] ++ toBytes 8 r.data ++ toBytes 2 seq

/-! ### The buffer (R411) -/

/-- The lowest-numbered empty slot from `i` on, of slots in rising order. -/
def freeSlot : Nat → List JSlot → Option Nat
  | i, [] => if i < 8192 then some i else none
  | i, e :: t => if i < e.slot then some i else freeSlot (e.slot + 1) t

/-- The slot of the oldest record that satisfies `p`. -/
def oldest (p : JSlot → Bool) (l : List JSlot) : Option JSlot :=
  (l.filter p).foldl (fun best e => match best with
    | none => some e
    | some b => if seqBefore e.seq b.seq then some e else some b) none

/-- Where a record of severity `sev` goes (R411). -/
def State.placeFor (s : State) (sev : Nat) : Option Nat :=
  match freeSlot 0 s.jrn.slots with
  | some i => some i
  | none =>
    match oldest (fun e => e.flushed) s.jrn.slots with
    | some e => some e.slot
    | none =>
      match oldest (fun e => !e.flushed && decide (e.r.sev < sev)) s.jrn.slots with
      | some e => some e.slot
      | none =>
        if s.live JRN_CFG_EQOVR = 1 then (oldest (fun e => !e.flushed && decide (e.r.sev = sev)) s.jrn.slots).map (·.slot)
        else none

/-- `l` in rising slot order with `e` in its slot. -/
def putSlot (e : JSlot) : List JSlot → List JSlot
  | [] => [e]
  | h :: t => if e.slot < h.slot then e :: h :: t else if e.slot = h.slot then e :: t else h :: putSlot e t

/-- JRN_COUNT shows the buffer. -/
def State.noteCounts (s : State) : State :=
  (s.setFld JRN_COUNT_HELD s.jrn.slots.length).setFld JRN_COUNT_UNFL (s.jrn.slots.filter (fun e => !e.flushed)).length

/-! ### The NOR partition (R417, R418) -/

def State.sectSize (s : State) : Nat := if s.jrn.part.2.1 = 1 then 65536 else 4096
def State.sectSlots (s : State) : Nat := if s.jrn.part.2.1 = 1 then 1982 else 121
def State.nsect (s : State) : Nat := s.jrn.part.2.2
def State.sectAt (s : State) (j : Nat) : Nat := s.jrn.part.1 * 4096 + j * s.sectSize
def State.slotAt (s : State) (j i : Nat) : Nat := s.sectAt j + (if s.jrn.part.2.1 = 1 then 2048 else 160) + 32 * i
def State.markAt (s : State) (j i : Nat) : Nat := s.sectAt j + 32 + i
def State.norLE (s : State) (a n : Nat) : Nat := ofBytes (memBytes dfltF s.nor a n)
def State.activeSect (s : State) : Nat := s.fld JRN_NORACT_SECTOR
def State.activeSlot (s : State) : Nat := s.fld JRN_NORACT_SLOT

/-- Programming flash clears bits and sets none. -/
def norProgram : List Host.Cell → Nat → List Nat → List Host.Cell
  | m, _, [] => m
  | m, a, b :: t => norProgram (memSet dfltF m a (memGet dfltF m a &&& BitVec.ofNat 8 b)) (a + 1) t

def State.program (s : State) (a : Nat) (bs : List Nat) : State := { s with nor := norProgram s.nor a bs }

/-- A record and then its valid mark are programmed into slot `i` of sector `j`. -/
def State.programRec (s : State) (j i seq : Nat) (r : JRec) : State :=
  (s.program (s.slotAt j i) (recBytes seq r)).program (s.markAt j i) [0]

/-- A sector is formatted with the current epoch and becomes active (R418, R420). -/
def State.format (s : State) (j firstSeq : Nat) : State :=
  let sq := (s.jrn.sseq + 1) % 2 ^ 32
  let s := s.program (s.sectAt j) (toBytes 4 0x4E524A4B ++ toBytes 4 (s.regN JRN_EPOCH) ++ toBytes 4 sq ++ toBytes 4 firstSeq)
  let s := s.program (s.sectAt j + 28) [0, 0, 0, 0]
  let s := s.modJrn (fun x => { x with sseq := sq, active := true, prepared := none })
  (s.setFld JRN_NORACT_SECTOR j).setFld JRN_NORACT_SLOT 0

/-- TICKET and ERASED records carry the SEQ of the last record flushed (R421). -/
def State.ticketRec (s : State) (code target sseq : Nat) : JRec := s.mkRec code 0 1 (target + 2 ^ 32 * sseq)

/-- The next sector is prepared (R420, R421): its ticket, then its erase. -/
def State.beginErase (s : State) : State :=
  if s.jrn.erase.isSome ∨ s.jrn.prepared.isSome ∨ s.jrn.frozen then s
  else
    let act := s.jrn.active
    let t := if act then (s.activeSect + 1) % max 1 s.nsect else 0
    let sq := (s.jrn.sseq + 1) % 2 ^ 32
    let s := if act then s.programRec s.activeSect s.sectSlots (s.regN JRN_FLUSHED) (s.ticketRec 0x0010 t sq) else s
    let s := s.modJrn (fun x => { x with erase := some { target := t, sseq := sq, ticket := act } })
    s.setFld JRN_STATUS_ERASING 1

/-- The active sector has filled half its record slots: the next one is prepared (R420). -/
def State.prepare (s : State) : State := if s.jrn.active ∧ s.sectSlots ≤ 2 * s.activeSlot then s.beginErase else s

/-! ### Flushes (R419) -/

/-- Unflushed records in SEQ order. -/
def insSeq (e : JSlot) : List JSlot → List JSlot
  | [] => [e]
  | h :: t => if seqBefore e.seq h.seq then e :: h :: t else h :: insSeq e t
def State.unflushed (s : State) : List JSlot :=
  ((s.jrn.slots.filter (fun e => !e.flushed)).foldl (fun l e => insSeq e l) [])

/-- The active sector is full: the prepared one is formatted and becomes active (R420). -/
def State.rollOver (s : State) : State :=
  match s.jrn.prepared with
  | some j =>
    if s.jrn.active ∧ s.sectSlots ≤ s.activeSlot ∧ s.jrn.clear ≠ some false then
      s.format j (((s.unflushed.head?).map (·.seq)).getD (s.regN JRN_NEXTSEQ))
    else s
  | none => s

/-- No flush runs or is pending: JRN_CTRL.FLUSH reads 0, and the commands that wait for it end. -/
def State.flushIdle (s : State) : State :=
  let s := (s.setFld JRN_CTRL_FLUSH 0).modJrn (fun x => { x with pend := false })
  s.settle (fun s w => match w with
    | .jrnFlush => some (0, [s.regN JRN_FLUSHED])
    | _ => none)

/-- A clear is over: its command ends with the new epoch (R425). -/
def State.endClear (s : State) : State :=
  let s := (s.modJrn (fun x => { x with clear := none })).setFld JRN_STATUS_CLEARING 0
  s.settle (fun s w => match w with
    | .jrnClear => some (0, [s.regN JRN_EPOCH])
    | _ => none)

/-- A clear ends once its EPOCH record has been flushed (R425). -/
def State.clearEnds (s : State) : State :=
  if s.jrn.clear = some true ∧ ¬ s.unflushed.any (fun e => decide (e.r.code = 0x0001)) then s.endClear else s

/-- A flush starts, or waits: for a running one, for a clear to format its sector, for an erase that cannot be suspended (the bind-off area's
too, R443), or for a sector with room (R420). -/
def State.startFlush (s : State) : State :=
  if s.fld JRN_STATUS_NORST ≠ 2 then s
  else if s.jrn.flushing.isSome ∨ s.jrn.clear = some false then s.modJrn (fun x => { x with pend := true })
  else
    let todo := s.unflushed
    if todo.isEmpty then s.flushIdle
    else if (s.jrn.erase.isSome ∨ s.boot.erasing) ∧ s.live JRN_NORGEO_NOSUS = 1 then s.modJrn (fun x => { x with pend := true })
    else
      let s := if s.jrn.active ∧ s.activeSlot < s.sectSlots then s
        else match s.jrn.prepared with
          | some j => s.format j ((todo.head?).map (·.seq) |>.getD 0)
          | none => s.beginErase
      if s.jrn.active ∧ s.activeSlot < s.sectSlots then
        let s := if s.jrn.erase.isSome then s.setFld JRN_STATUS_SUSP 1 else s
        (s.modJrn (fun x => { x with flushing := some todo, pend := false })).setFld JRN_STATUS_FLUSHING 1
      else s.modJrn (fun x => { x with pend := true })

/-- The record `e` of the buffer counts as flushed. -/
def State.markFlushed (s : State) (e : JSlot) : State :=
  let s := s.modJrn (fun x => { x with slots := x.slots.map (fun h =>
    if h.slot = e.slot ∧ h.seq = e.seq ∧ h.r = e.r then { h with flushed := true } else h) })
  s.setRegN JRN_FLUSHED e.seq

/-- The records of a flush go to consecutive free slots; a full sector gives way to the prepared one, but not to the sector that a clear waits for.
Answers the records for which no slot was left. -/
def State.flushAll (s : State) : List JSlot → State × List JSlot
  | [] => (s, [])
  | e :: t =>
    if s.activeSlot < s.sectSlots then
      let s := s.programRec s.activeSect s.activeSlot e.seq e.r
      ((s.markFlushed e).setFld JRN_NORACT_SLOT (s.activeSlot + 1)).flushAll t
    else
      match (if s.jrn.clear = some false then none else s.jrn.prepared) with
      | some j =>
        let s := s.format j e.seq
        let s := s.programRec s.activeSect s.activeSlot e.seq e.r
        ((s.markFlushed e).setFld JRN_NORACT_SLOT (s.activeSlot + 1)).flushAll t
      | none => (s, e :: t)

/-- A partition that is to be left is left once nothing runs (R427); where NOREN is 1 again it is mounted anew (R422). -/
def State.leaveNor (s : State) : State :=
  if s.jrn.off ∧ s.jrn.flushing.isNone ∧ s.jrn.erase.isNone then
    let s := s.modJrn (fun x => { x with off := false, active := false, prepared := none })
    let s := (if s.jrn.clear.isSome then s.endClear else s).flushIdle
    s.setFld JRN_STATUS_NORST (if s.live JRN_CFG_NOREN = 1 then 1 else 0)
  else s

/-- A clear that waits for its sector formats it with the new epoch and flushes, or has it erased (R425). A flush that still runs ends first, in
the sector of the old epoch. -/
def State.clearNext (s : State) : State :=
  if s.jrn.clear = some false ∧ s.jrn.flushing.isNone then
    match s.jrn.prepared with
    | some j => ((s.format j 0).modJrn (fun x => { x with clear := some true })).startFlush
    | none => s.beginErase
  else s

/-- The erase that a flush suspended goes on (R421); bind-off leaves it suspended (R426). -/
def State.resumeErase (s : State) : State := if s.jrn.frozen then s else s.setFld JRN_STATUS_SUSP 0

/-- What follows a flush: the next one if one is due, or quiet. -/
def State.flushNext (s : State) : State :=
  if s.jrn.flushing.isSome then s
  else if s.jrn.pend ∧ ¬ s.jrn.off ∧ ¬ s.unflushed.isEmpty then s.startFlush
  else s.flushIdle.jrnEvent 2

/-- FLUSH_DONE (R419): marks have programmed; what follows is a full sector's successor, the preparation of a sector, a clear, the next flush, or
quiet. -/
def execFlushDone (s : State) : Out :=
  match s.jrn.flushing with
  | none => .next s
  | some l =>
    let (s, left) := s.flushAll l
    let s := (s.modJrn (fun x => { x with flushing := none, pend := x.pend || !left.isEmpty })).setFld JRN_STATUS_FLUSHING 0
    .next s.resumeErase.noteCounts.rollOver.prepare.clearEnds.clearNext.flushNext.leaveNor

/-! ### Intake, numbering, rate limiting (R409-R413) -/

/-- The unflushed records that the running flush does not hold: what FLTHR is compared with (R419). -/
def State.dueCount (s : State) : Nat :=
  (s.unflushed.filter (fun e => !((s.jrn.flushing.getD []).any (fun h => decide (h.seq = e.seq))))).length

/-- A record gets its number and its place, or is lost (R409-R411), and may start a flush. -/
def State.placeRec (s : State) (r : JRec) : State :=
  match s.placeFor r.sev with
  | none => s.jrnLost r.sev
  | some i =>
    let sq := s.regN JRN_NEXTSEQ
    let s := s.setRegN JRN_NEXTSEQ (if 0xFFFFFFFE ≤ sq then 0 else sq + 1)
    let s := s.modJrn (fun x => { x with slots := putSlot { slot := i, seq := sq, r := r, flushed := false } x.slots, last := some sq })
    let s := s.noteCounts
    if 5 ≤ r.sev ∨ s.live JRN_CFG_FLTHR ≤ s.dueCount then s.startFlush else s

/-- Two records are parts of one event: CODE, SRC, SEVF and stamp agree (R408). -/
def sameEvent (r x : JRec) : Bool :=
  decide (x.code = r.code ∧ x.src = r.src ∧ x.sev = r.sev ∧ x.flags = r.flags ∧ x.rnd = r.rnd ∧ x.ns = r.ns ∧ x.ph = r.ph)

/-- The records taken together: the first and, while PART is set, its successors of the same event (R408); its last part may have been lost. -/
def takeGroup : List JRec → List JRec × List JRec
  | [] => ([], [])
  | r :: t => if r.part && t.head?.any (sameEvent r) then let (a, b) := takeGroup t; (r :: a, b) else ([r], t)

def State.bucket (s : State) (code : Nat) : Option Bucket := s.jrn.buckets.find? (fun b => b.code = code)
def putBucket (b : Bucket) : List Bucket → List Bucket
  | [] => [b]
  | h :: t => if b.code < h.code then b :: h :: t else if b.code = h.code then b :: t else h :: putBucket b t
def State.setBucket (s : State) (b : Bucket) : State := s.modJrn (fun x => { x with buckets := putBucket b x.buckets })

/-- JRN_STATUS.SUPCODES. -/
def State.noteSup (s : State) : State :=
  s.setFld JRN_STATUS_SUPCODES (min 511 (s.jrn.buckets.filter (fun b => b.sup.isSome)).length)

/-- A group of records that takes one token is written, or suppressed when its code's bucket is empty (R413). Its code has a bucket from its
first record on, also where that severity is not limited. -/
def State.admGroup (s : State) (r : JRec) (g : List JRec) : State :=
  let b := (s.bucket r.code).getD { code := r.code, tokens := s.live JRN_RATE_BURST r.sev, sev := r.sev, sup := none }
  let b := { b with sev := r.sev }
  if s.live JRN_RATE_RATE r.sev = 0 then g.foldl (fun s x => s.placeRec x) (s.setBucket b)
  else if 0 < b.tokens then g.foldl (fun s x => s.placeRec x) (s.setBucket { b with tokens := b.tokens - 1 })
  else
    match b.sup with
    | some (n, f, m) => s.setBucket { b with sup := some (n + g.length, f, max m r.sev) }
    | none =>
      let s := s.setBucket { b with sup := some (g.length, r.rnd % 65536, r.sev) }
      s.noteSup.jrnEvent 1

/-- RECORD_INTAKE (R409): one record, or one group of R408, leaves the intake queue, once RESET has been written (R423). -/
def execRecordIntake (s : State) : Out :=
  if ¬ s.jrn.opened then .next s
  else
    match takeGroup s.jrn.intake with
    | ([], _) => .next s
    | (r :: g, rest) => .next ((s.modJrn (fun x => { x with intake := rest })).admGroup r (r :: g))

/-- A record that the Journal itself makes: in bind-off it is taken as any other is (R440). -/
def State.placeOwn (s : State) (r : JRec) : State := if s.intakeOpen r then s.placeRec r else s.jrnLost r.sev

/-- The SUPPRESSED record of one code (Table 18.3). -/
def State.supRec (s : State) (b : Bucket) (n f m : Nat) : JRec :=
  s.mkRec 0x0003 0 m (b.code + 2 ^ 16 * f + 2 ^ 32 * min n (2 ^ 32 - 1))

/-- What the Journal does at stitch 0 (R413): the summaries, then the tokens. -/
def State.jrnRound (s : State) : State :=
  let s := s.jrn.buckets.foldl (fun s b => match b.sup with
    | some (n, f, m) => (s.setBucket { b with sup := none }).placeOwn (s.supRec b n f m)
    | none => s) s
  let s := s.modJrn (fun x => { x with buckets := x.buckets.map (fun b =>
    { b with tokens := min (b.tokens + s.live JRN_RATE_RATE b.sev) (max b.tokens (s.live JRN_RATE_BURST b.sev)) }) })
  s.noteSup

/-! ### Snapshots (R414, R415) -/

/-- FIRST: the lowest SEQ held in the buffer; LAST: the highest assigned. -/
def State.snapJrn (s : State) : State :=
  let first := match oldest (fun _ => true) s.jrn.slots with
    | some e => e.seq
    | none => s.jrn.last.getD 0
  ((s.setRegN JRN_SNAP_FIRST first).setRegN JRN_SNAP_LAST (s.jrn.last.getD 0)).setFld JRN_CTRL_SNAPSHOT 0

/-- At the start of bind-off no further sector is prepared, and an erase that can be suspended is (R426). -/
def State.freezeJrn (s : State) : State :=
  let s := s.modJrn (fun x => { x with frozen := true })
  if s.jrn.erase.isSome ∧ s.live JRN_NORGEO_NOSUS ≠ 1 then s.setFld JRN_STATUS_SUSP 1 else s

/-- A write of JRN_CTRL.FLUSH (R419). Without a mounted partition there is nothing to flush to and the bit falls at once. -/
def State.ctrlFlush (s : State) : State :=
  if s.fld JRN_STATUS_NORST = 2 then (s.setFld JRN_CTRL_FLUSH 1).startFlush else s.setFld JRN_CTRL_FLUSH 0

/-- A byte of the buffer's window in the hub store, at offset `o` from 0xBC_0000 (R411). -/
def State.jrnByte (s : State) (o : Nat) : Nat :=
  match s.jrn.slots.find? (fun e => e.slot = o / 32) with
  | some e => (recBytes e.seq e.r).getD (o % 32) 0
  | none => 0xFF

/-! ### Sectors (R421, R422) -/

/-- Every byte of a sector reads 0xFF again. -/
def norErase (m : List Host.Cell) (lo n : Nat) : List Host.Cell := m.filter (fun c => decide (c.1 < lo ∨ lo + n ≤ c.1))

/-- SECTOR_ERASE_DONE (R421): the erase ends, ERASED is programmed, and what waited goes on. -/
def execSectorEraseDone (s : State) : Out :=
  match s.jrn.erase with
  | none => .next s
  | some e =>
    if s.flag JRN_STATUS_SUSP then .next s
    else
      let s := { s with nor := norErase s.nor (s.sectAt e.target) s.sectSize }
      let s := if e.ticket then
          s.programRec s.activeSect (s.sectSlots + 1) (s.regN JRN_FLUSHED) (s.ticketRec 0x0011 e.target e.sseq)
        else s
      let s := (s.modJrn (fun x => { x with erase := none, prepared := some e.target })).setFld JRN_STATUS_ERASING 0
      let s := s.rollOver.clearNext
      let s := if s.jrn.pend ∧ ¬ s.jrn.off then s.startFlush else s
      .next s.leaveNor

/-- The classes of Table 18.6. -/
inductive SectClass where
  | fresh | dirty | trusted | stale | erased
  deriving DecidableEq, Repr

def State.trustedShape (s : State) (j : Nat) : Bool :=
  let a := s.sectAt j
  decide (s.norLE a 4 = 0x4E524A4B) && decide (s.norLE (a + 28) 4 = 0) && decide (s.norLE (a + 4) 4 ≠ 0xFFFFFFFF)
    && decide (s.norLE (a + 8) 4 ≠ 0xFFFFFFFF)

/-- The current epoch of the partition: the highest of any sector of TRUSTED shape. -/
def State.norEpoch (s : State) : Option Nat :=
  (List.range s.nsect).foldl (fun b j =>
    if s.trustedShape j then some (max (b.getD 0) (s.norLE (s.sectAt j + 4) 4)) else b) none

/-- A valid record slot. -/
def State.slotValid (s : State) (j i : Nat) : Bool := s.norLE (s.markAt j i) 1 = 0
def State.slotCode (s : State) (j i : Nat) : Nat := s.norLE (s.slotAt j i + 18) 2
def State.slotData (s : State) (j i : Nat) : Nat := s.norLE (s.slotAt j i + 22) 8

/-- The target of a ticket in slot `i` of sector `j` that is unmatched (R422). -/
def State.unmatched (s : State) (j i : Nat) : Option Nat :=
  if s.slotValid j i ∧ s.slotCode j i = 0x0010 then
    let d := s.slotData j i
    let t := d % 65536
    let done := (List.range (s.sectSlots + 2)).any (fun k =>
      decide (i < k) && s.slotValid j k && decide (s.slotCode j k = 0x0011) && decide (s.slotData j k = d))
    let formatted := s.trustedShape t && decide (d / 2 ^ 32 ≤ s.norLE (s.sectAt t + 8) 4)
    if done || formatted then none else some t
  else none

/-- Every sector some unmatched ticket of a sector of the current epoch names. -/
def State.named (s : State) (ep : Nat) : List Nat :=
  (List.range s.nsect).flatMap (fun j =>
    if s.trustedShape j ∧ s.norLE (s.sectAt j + 4) 4 = ep then
      (List.range (s.sectSlots + 2)).filterMap (fun i => s.unmatched j i)
    else [])

/-- The class of sector `j`, the first of Table 18.6 that applies. -/
def State.sectClass (s : State) (ep : Option Nat) (named : List Nat) (j : Nat) : SectClass :=
  match ep with
  | none => .fresh
  | some e =>
    let shape := s.trustedShape j
    let hdr := (memBytes dfltF s.nor (s.sectAt j) 32).any (fun b => decide (b ≠ 255))
    if named.contains j || (hdr && !shape) then .dirty
    else if shape then (if s.norLE (s.sectAt j + 4) 4 = e then .trusted else .stale)
    else .erased

/-- Slot `i` of sector `j` has a byte programmed, in its record or its mark. -/
def State.slotUsed (s : State) (j i : Nat) : Bool :=
  decide (s.norLE (s.markAt j i) 1 ≠ 255) || (memBytes dfltF s.nor (s.slotAt j i) 32).any (fun b => decide (b ≠ 255))

/-- The later of two SEQ values (R409). -/
def laterSeq (b : Option Nat) (q : Nat) : Option Nat :=
  match b with
  | some p => if seqBefore p q then some q else some p
  | none => some q

/-- RESET is written, the first record after a cast-on (R423): sectors found dirty, the reset's kind, the last record recovered from NOR. -/
def State.writeReset (s : State) (kind : Nat) : State :=
  let d := s.fld JRN_DIRTY_COUNT
  (s.modJrn (fun x => { x with opened := true })).placeOwn
    (s.mkRec 0x0002 0 (if 0 < d then 5 else 3) (d + 2 ^ 16 * kind + 2 ^ 32 * s.jrn.recovered))

/-- The mount (R422, R423): the partition is classified and numbering resumes. `kind` is the reset kind that RESET reports. -/
def State.mount (s : State) (kind : Nat) : State :=
  let s := s.modJrn (fun x => { x with part := (s.live JRN_NORBASE_BASE, s.live JRN_NORGEO_SECT, s.live JRN_NORGEO_NSECT) })
  let ep := s.norEpoch
  let named := s.named (ep.getD 0)
  let cls := (List.range s.nsect).map (fun j => (j, s.sectClass ep named j))
  let dirty := (cls.filter (fun c => c.2 = .dirty)).length
  let good := (cls.filter (fun c => c.2 = .trusted)).map Prod.fst
  let act := good.foldl (fun b j => match b with
    | none => some j
    | some k => if s.norLE (s.sectAt k + 8) 4 < s.norLE (s.sectAt j + 8) 4 then some j else some k) none
  let seqs := good.flatMap (fun j => (List.range (s.sectSlots + 2)).filterMap (fun i =>
    if s.slotValid j i then some (s.norLE (s.slotAt j i) 4) else none))
  let recs := good.flatMap (fun j => (List.range s.sectSlots).filterMap (fun i =>
    if s.slotValid j i then some (s.norLE (s.slotAt j i) 4) else none))
  let top := seqs.foldl laterSeq none
  let lastRec := recs.foldl laterSeq none
  let s := s.setRegN JRN_NEXTSEQ (match top with | some q => (if 0xFFFFFFFE ≤ q then 0 else q + 1) | none => 0)
  let s := s.setRegN JRN_FLUSHED (lastRec.getD 0xFFFFFFFF)
  let s := s.modJrn (fun x => { x with last := top, recovered := lastRec.getD 0xFFFFFFFF })
  let s := s.setRegN JRN_EPOCH (ep.getD 0)
  let s := s.setFld JRN_DIRTY_COUNT dirty
  let s : State := match act with
    | some j =>
      let used := (List.range s.sectSlots).filter (fun i => s.slotUsed j i)
      let nxt := match used.getLast? with | some i => i + 1 | none => 0
      let sq := s.norLE (s.sectAt j + 8) 4
      ((s.setFld JRN_NORACT_SECTOR j).setFld JRN_NORACT_SLOT nxt).modJrn (fun x =>
        { x with active := true, sseq := sq, prepared := none, erase := none })
    | none => s.modJrn (fun x => { x with active := false, sseq := 0, prepared := none, erase := none })
  let s := ((s.setFld JRN_STATUS_NORST 2).writeReset kind).prepare
  if 0 < dirty then s.jrnEvent 4 else s

/-- JOURNAL_MOUNT (R422). -/
def execJournalMount (s : State) : Out :=
  if s.fld JRN_STATUS_NORST = 1 then .next (s.mount (s.fld PWR_RSTCAUSE_LAST)) else .next s

/-- A flash operation has failed (R424): the partition is left and every record counts as unflushed. -/
def State.flashFail (s : State) (sector op status addr : Nat) : State :=
  let s := s.report JRN_EVENT.base JRN_INT_EN.base 3 6 0x0004 0 6
    (sector % 65536 + 2 ^ 16 * (op % 256) + 2 ^ 24 * (status % 256) + 2 ^ 32 * addr)
  let s := s.setFld JRN_STATUS_NORST 3
  let s := ((s.setFld JRN_STATUS_FLUSHING 0).setFld JRN_STATUS_ERASING 0).setFld JRN_STATUS_SUSP 0
  let s := (s.setFld JRN_STATUS_CLEARING 0).setFld JRN_CTRL_FLUSH 0
  let s := s.modJrn (fun x => { x with
    flushing := none, erase := none, pend := false, clear := none, active := false, prepared := none,
    slots := x.slots.map (fun e => { e with flushed := false }) })
  let s := s.noteCounts
  s.settle (fun _ w => match w with
    | .jrnFlush => some (0x0703, [])
    | .jrnClear => some (0x0703, [])
    | _ => none)

/-- FLASH_ERR. -/
def execFlashErr (sector op status addr : Nat) (s : State) : Out :=
  if s.fld JRN_STATUS_NORST = 1 ∨ s.fld JRN_STATUS_NORST = 2 then .next (s.flashFail sector op status addr) else .next s

/-! ### Clearing (R425) and the staged set (R427) -/

/-- A clear that R365 accepted. -/
def State.clearJournal (s : State) : State :=
  let old := s.jrn.last.getD 0xFFFFFFFF
  let ep := (s.regN JRN_EPOCH + 1) % 2 ^ 32
  let mounted := decide (s.fld JRN_STATUS_NORST = 2)
  let s := s.modJrn (fun x => { x with slots := [], buckets := [], clear := if mounted then some false else none })
  let s := (s.noteSup.setRegN JRN_EPOCH ep).setRegN JRN_NEXTSEQ 0
  let s := if mounted then s.setFld JRN_STATUS_CLEARING 1 else s
  let s := s.placeRec (s.mkRec 0x0001 0 6 (ep + 2 ^ 32 * old))
  (s.jrnEvent 5).clearNext

/-- The cause of rejection (JRN_STATUS.REJ_CAUSE), 0 for none. -/
def State.jrnReject (s : State) : Nat :=
  let sz := if s.fld JRN_NORGEO_SECT = 1 then 65536 else 4096
  let base := s.fld JRN_NORBASE_BASE * 4096
  let n := s.fld JRN_NORGEO_NSECT
  if s.fld JRN_CFG_FLTHR = 0 then 1
  else if n < 3 ∨ 4096 < n ∨ base % sz ≠ 0 ∨ 2 ^ 32 < base + n * sz then 2
  else if s.live JRN_CFG_NOREN = 1 ∧ s.fld JRN_CFG_NOREN = 1
      ∧ (s.regN JRN_NORBASE ≠ s.liveN JRN_NORBASE ∨ s.regN JRN_NORGEO ≠ s.liveN JRN_NORGEO) then 3
  else if (List.range 8).any (fun i => decide (s.fld JRN_RATE_RATE i ≠ 0 ∧ s.fld JRN_RATE_BURST i < s.fld JRN_RATE_RATE i)) then 4
  else 0

/-- T_BO of R442 in µs, from what is in force: the flush bound of R426 with n = FLTHR + 11, the longest solve let finish, the warm save. -/
def State.planUs (s : State) : Nat :=
  let n := s.live JRN_CFG_FLTHR + 11
  let tpp := 10 * s.live JRN_NORT_TPP
  let sus := if s.live JRN_NORGEO_NOSUS = 1 then 100000 * s.live JRN_NORT_TSE else s.live JRN_NORT_TSUS
  let tj := ((n + 7) / 8 + (n + 255) / 256 + 6) * tpp + sus
  let sel := (List.range 2).flatMap (fun e => (bitsOf (s.liveN PWR_BOWARM e) 32).map (fun i => (e, i)))
  let b := sel.foldl (fun b p => b + 16 + 1024 * s.live SOL_SLOTSZ_WARMSIZE p.1 p.2) 64
  let tw := if sel.isEmpty then 0 else ((b + 255) / 256 + 1) * tpp
  2 + 22 + max tj (10 * s.live PWR_BOCFG_SOLMAX) + tw + 200

/-- The bind-off plan is computed again (R442); PLAN_OVER is written when OVER becomes 1. -/
def State.notePlan (s : State) : State :=
  let t := s.planUs
  let was := s.flag PWR_BOSTAT_OVER
  let s := (s.setFld PWR_BOSTAT_TPLAN (min t 65535)).setFld PWR_BOSTAT_OVER (if 12000 < t then 1 else 0)
  if 12000 < t ∧ ¬ was then s.journal 0x110A 0 5 (min t 65535) else s

def State.applyJrn (s : State) : State :=
  let s := s.setFld JRN_CTRL_COMMIT 0
  let rej := s.jrnReject
  if rej ≠ 0 then
    (s.setFld JRN_STATUS_REJ_CAUSE rej).report JRN_EVENT.base JRN_INT_EN.base 6 6 0x0006 0 3 rej
  else
    let was := s.live JRN_CFG_NOREN
    let failed := decide (s.fld JRN_STATUS_NORST = 3)
    let s := [JRN_CFG, JRN_NORBASE, JRN_NORGEO, JRN_NORT].foldl (fun s r => s.apply1 r 0 0) s
    let s := (List.range 8).foldl (fun s i => s.apply1 JRN_RATE i 0) s
    let s := (s.report JRN_EVENT.base JRN_INT_EN.base 7 6 0x0007 0 1).notePlan
    let now := s.live JRN_CFG_NOREN
    if now = 1 ∧ (was = 0 ∨ failed) then (if s.jrn.off then s else s.setFld JRN_STATUS_NORST 1)
    else if now = 0 ∧ was = 1 then (s.modJrn (fun x => { x with off := true })).leaveNor
    else s

end Sys2Proof.Machine
end

