-- ==== Sys2Proof/Machine/Jobs.lean ====
section
/-! DEFINITION. Machine/Jobs.lean: fired instances (R66 to R72, R253, R362): how a resource's part of one ends, what is reported of
it, and how it is re-issued. -/

namespace Sys2Proof.Machine
open Sys2Proof Sys2Proof.Machine.Reg

def State.modPat (s : State) (f : Pat → Pat) : State := { s with pat := f s.pat }

/-- An event of PAT_EVENT and vector 5 (R62, Table 15.2). -/
def State.patEvent (s : State) (b : Nat) : State := s.event PAT_EVENT.base PAT_INT_EN.base b 5

/-- An event of PAT_EVENT with its record: DATA names the job and its GROUP, SRC the resource (Table 18.4). -/
def State.patReport (s : State) (b sev res job group : Nat) : State :=
  (s.patEvent b).journal (0x0200 + b) res sev (job + 2 ^ 16 * group)

/-- Resources: 0–31 cores, 32–33 engines, 34–35 re-process pipelines. Whether one is DROPPED stands in PWR_DROP. -/
def State.coreDropped (s : State) (n : Nat) : Bool := (s.regN PWR_DROP_CORE).testBit n
def State.resDropped (s : State) (r : Nat) : Bool :=
  if r < 32 then s.coreDropped r
  else if r < 34 then (s.regN PWR_DROP_UNIT).testBit (PWR_DROP_UNIT_SE.lo + (r - 32))
  else (s.regN PWR_DROP_UNIT).testBit (PWR_DROP_UNIT_RP.lo + (r - 34))

/-- The unit code of a resource (R363). -/
def resUnit (r : Nat) : Nat := if r < 32 then r else if r < 34 then 0x100 + (r - 32) else 0x300 + (r - 34)

/-! ### Instances -/

def State.inst? (s : State) (id : Nat) : Option Inst := s.pat.insts.find? (fun i => i.id = id)
def State.modInst (s : State) (id : Nat) (f : Inst → Inst) : State :=
  s.modPat (fun p => { p with insts := p.insts.map (fun i => if i.id = id then f i else i) })
def State.dropInst (s : State) (id : Nat) : State :=
  s.modPat (fun p => { p with insts := p.insts.filter (fun i => decide (i.id ≠ id)) })

/-- The instance that runs on resource `r`. -/
def State.running (s : State) (r : Nat) : Option Inst :=
  s.pat.insts.find? (fun i => i.parts.any (fun p => decide (p.res = r ∧ p.st = 1)))

/-- The resource an instance is reported under. -/
def Inst.res (i : Inst) : Nat := (i.parts.head?).elim 0 (·.res)

/-- Its DEADLINE stitch has begun. -/
def State.isLate (s : State) (i : Inst) : Bool := i.dl && !(precedes s.absStitch i.deadline)

/-- The instance's DEADLINE stitch has begun, and its policy is DROP: its results are discarded (R67). -/
def State.dropsNow (s : State) (inst : Option Nat) : Bool :=
  match inst.bind s.inst? with
  | some x => x.drop && s.isLate x
  | none => false

/-- Instance `a` goes before instance `b` on a resource (R66): deadline instances by deadline, ties by job index; then the others in
job-table order. -/
def Inst.before (a b : Inst) : Bool :=
  if a.dl then
    if b.dl then precedes a.deadline b.deadline || (!(precedes b.deadline a.deadline) && decide (a.job < b.job)) else true
  else if b.dl then false
  else decide (a.job < b.job ∨ (a.job = b.job ∧ a.id < b.id))

/-- The instance that is to start next on resource `r`. -/
def State.nextFor (s : State) (r : Nat) : Option Inst :=
  (s.pat.insts.filter (fun i => i.parts.any (fun p => decide (p.res = r ∧ p.st = 0)))).foldl (fun best i => match best with
    | none => some i
    | some b => if i.before b then some i else some b) none

/-- Its part on resource `r` runs. -/
def State.markRunning (s : State) (id r : Nat) : State :=
  s.modInst id (fun i => { i with parts := i.parts.map (fun p => if p.res = r ∧ p.st = 0 then { p with st := 1 } else p) })

/-- The instance is reported LATE, once (R67). -/
def State.noteLate (s : State) (id : Nat) : State :=
  match s.inst? id with
  | none => s
  | some i =>
    if i.late || !(s.isLate i) then s
    else
      let s := (s.modInst id (fun i => { i with late := true })).count PAT_LATECNT_LATE
      s.patReport 4 4 i.res i.job i.group

/-- A floor in force (R59, PAT_FLOOR). -/
def State.floorOf (s : State) (n : Nat) : Nat := bits (s.reg (PAT_FLOOR.at (n / 4))) (8 * (n % 4)) 8
/-- A floor changes: the clock never runs below it (R59), and a core held by CRIT runs at it (R462). -/
def State.putFloor (s : State) (n v : Nat) : State :=
  let s := s.setReg (PAT_FLOOR.at (n / 4)) (setBits (s.reg (PAT_FLOOR.at (n / 4))) (8 * (n % 4)) 8 v)
  if v = 0 then s
  else if s.flag CLK_CORE_HOLD n then s.setFld CLK_CORE_FREQ (10 * v) n
  else s.setFld CLK_CORE_FREQ (max (10 * v) (s.fld CLK_CORE_FREQ n)) n

/-- The floor that deactivated Patterns, whose instances run on under a later one, hold on core `n` (R65). -/
def Pat.drainFloor (p : Pat) (n : Nat) : Nat := p.drains.foldl (fun m d => max m (d.floors.getD n 0)) 0
/-- The floor that the Pattern in force, or the one that drains, asks for on core `n`. -/
def State.ownFloor (s : State) (n : Nat) : Nat := s.pat.floors.getD n 0
/-- It asks for `v`: the higher one of this and what deactivated Patterns hold is in force (R65, DEDUCED, log entry 128). -/
def State.setFloor (s : State) (n v : Nat) : State :=
  (s.modPat (fun p => { p with floors := p.floors.set n v })).putFloor n (max v (s.pat.drainFloor n))
/-- The Pattern activated as number `gen` takes the floor of core `r` to core `t` (R69, R450). -/
def State.inheritFloor (s : State) (gen t r : Nat) : State :=
  if s.pat.drains.any (fun d => d.gen = gen) then
    let s := s.modPat (fun p => { p with drains := p.drains.map (fun d =>
      if d.gen = gen then { d with floors := d.floors.set t (max (d.floors.getD t 0) (d.floors.getD r 0)) } else d) })
    s.putFloor t (max (s.ownFloor t) (s.pat.drainFloor t))
  else s.setFloor t (max (s.ownFloor t) (s.ownFloor r))

/-- An instance that the Pattern activated as number `gen`, or one before it, has fired has not ended. -/
def Pat.unended (p : Pat) (gen : Nat) : Bool := p.insts.any (fun i => decide (i.gen ≤ gen))

/-- The floors of older Patterns of which nothing is left are released. -/
def State.dropDrains (s : State) : State :=
  if s.pat.drains.all (fun d => s.pat.unended d.gen) then s
  else
    let s := s.modPat (fun p => { p with drains := p.drains.filter (fun d => p.unended d.gen) })
    (List.range 32).foldl (fun s n => s.putFloor n (max (s.ownFloor n) (s.pat.drainFloor n))) s

/-- Those of the Pattern that drains are released once nothing of it is left. -/
def State.dropDraining (s : State) : State :=
  if s.pat.draining ∧ ¬ s.pat.unended s.pat.gen then
    let s := (List.range 32).foldl (fun s n => s.setFloor n 0) s
    s.modPat (fun p => { p with draining := false, active := none, shed := [] })
  else s

/-- Floors and reservations are released once a deactivated Pattern's last instance completes (R65); a command that waits for this ends. -/
def State.releasePattern (s : State) : State :=
  if s.pat.draining ∨ ¬ s.pat.drains.isEmpty then
    let s := s.dropDrains.dropDraining
    if s.pat.draining ∨ ¬ s.pat.drains.isEmpty then s
    else
      let s := if s.pat.active.isNone then s.setFld MESH_STATUS_RSVACT 0 else s
      if s.pat.deact then s
      else s.settle (fun _ w => match w with
        | .deactivate true => some (0, [])
        | _ => none)
  else s

/-- The JOB posting of an instance that has ended (R362): only for a GROUP that an enabled CMD_JOBPOST names, and not of one that stage 2 of bind-off
aborts (Table 19.4). -/
def State.postJob (s : State) (i : Inst) (code : Nat) (src : Nat) : State :=
  let wanted := (List.range CMD_JOBPOST.n1).any (fun k => s.flag CMD_JOBPOST_EN k && decide (s.fld CMD_JOBPOST_GROUP k = i.group))
  if wanted && decide (i.kind = 0 ∨ i.kind = 1 ∨ i.kind = 5) && decide (s.fld PWR_BOSTAT_STAGE ≠ 2) then
    s.post { type := 2, code := (if i.kind = 5 then 0x0900 else 0x0500) + code, src := src, rnd := s.count48 % 2 ^ 32, nent := 1,
             body := s.stampNow ++ toBytes 2 i.job ++ toBytes 2 i.group ++ [i.user, 0, 0, 0] ++ toBytes 4 i.cycles }
  else s

/-- The part of an instance on resource `r` ends with `code`, DONE user code and cycle count. The instance ends with its last part,
and is then posted (R362): a CORESET whose members end differently carries one of their codes, a free choice. -/
def State.endPart (s : State) (id r code user cycles : Nat) : State :=
  let s := s.modInst id (fun i => { i with
    user := user, cycles := cycles,
    parts := i.parts.map (fun p => if p.res = r ∧ p.st ≠ 2 then { p with st := 2, code := code } else p) })
  match s.inst? id with
  | none => s
  | some i =>
    if i.parts.all (fun p => p.st = 2) then
      let codes := i.parts.map (·.code)
      let c := if codes.all (fun x => decide (x = code)) then code else codes.getD (Config.pick s.free id % codes.length) 0
      let s := if codes.all (fun x => decide (x = code)) then s else s.draw
      ((s.postJob i c (resUnit r)).dropInst id).releasePattern
    else s

/-- An instance aborted under DROP or R68 counts in PAT_OVRCNT.ABORT. -/
def State.countAbort (s : State) : State := s.count PAT_OVRCNT_ABORT

/-- A unit that has been DROPPED since the Pattern was in force serves it no more, revived or not (R455). -/
def State.resGone (s : State) (r : Nat) : Bool := s.pat.gone.contains (resUnit r)

/-- The spare of an instance on resource `r`, if it can take it (R69, R72): it exists, is not DROPPED, and is not `r`. -/
def State.spareFor (s : State) (i : Inst) (r : Nat) : Option Nat :=
  if i.spare = 0xFF then none
  else
    let t := if i.kind = 0 ∨ i.kind = 1 then i.spare else if i.kind = 2 then 32 + i.spare / 32 else 34 + i.spare / 16
    if t = r ∧ (i.kind = 0 ∨ i.kind = 1) then none
    else if s.resDropped t || s.resGone t then none
    else if i.kind = 1 ∧ i.parts.any (fun p => p.res = t) then none
    else some t

/-- REISSUE (R450, R453, R465): the spare takes the higher floor at once; one record and one posting of ST_JOB_REISSUED. -/
def State.noteReissue (s : State) (i : Inst) (r t cause : Nat) : State :=
  let s := if r < 32 then s.inheritFloor i.gen t r else s
  let u := resUnit t
  let s := s.report PWR_EVENT.base PWR_INT_EN.base 1 7 0x0E01 (resUnit r % 256) 5
    (u / 256 + 2 ^ 8 * (u % 256) + 2 ^ 16 * i.job + 2 ^ 32 * i.group)
  s.health 0x1003 u i.job i.group 0xFFFF 0 cause

/-- The part on resource `r` is lost with `code` (LOST, or CHK on a first fault) and, where the entry is restartable and this is not
a re-issue already, goes once to its spare, with the original deadline and ARG (R72, R448). Answers whether it did. -/
def State.loseOrReissue (s : State) (id r code cause : Nat) (may : Bool) (user cycles : Nat) : State :=
  match s.inst? id with
  | none => s
  | some i =>
    match (if may && i.rst && !i.reissued then s.spareFor i r else none) with
    | some t =>
      let s := s.modInst id (fun i => { i with
        reissued := true, target := if i.kind = 1 then i.target else i.spare,
        parts := i.parts.map (fun p => if p.res = r ∧ p.st ≠ 2 then { p with res := t, st := 0 } else p) })
      s.noteReissue i r t cause
    | none => s.endPart id r code user cycles

end Sys2Proof.Machine
end

