-- ==== Sys2Proof/Machine/Markers.lean ====
section
/-! DEFINITION. Machine/Markers.lean: the two marker files (chapter 9, R226 to R231): operations, waiters, leases, forced releases,
and the HOP registers of the host, the Hub Controller and the debug port. -/

namespace Sys2Proof.Machine
open Sys2Proof Sys2Proof.Machine.Reg

def State.modMesh (s : State) (f : Mesh → Mesh) : State := { s with mesh := f s.mesh }

/-- The compute die of a marker's home, and of a core (R13, R14). -/
def markerDie (k : Nat) : Nat := if k < 128 then 0 else 1
def State.dieDropped (s : State) (d : Nat) : Bool := (s.fld PWR_DROP_UNIT_CD).testBit d

/-- OWNER of no one. -/
def noOwner : Nat := 0xFF

/-! ### Tracked slots of a core (R219, R240) -/

def State.slot (s : State) (n t : Nat) : Slot := (s.core n).slots.getD t {}
def State.modSlot (s : State) (n t : Nat) (f : Slot → Slot) : State := s.modCore n (fun c => { c with slots := c.slots.modify t f })

/-- MESH_TRK shows the occupied slots of core `n`. -/
def State.noteTrk (s : State) (n : Nat) : State :=
  let u := ((s.core n).slots.filter (fun t => t.op.isSome)).length
  let s := s.setFld MESH_TRK_INUSE u n
  if s.fld MESH_TRK_HWM n < u then s.setFld MESH_TRK_HWM u n else s

/-- A packet has been numbered: the next one sent has the next number (R18). -/
def State.sendNext (s : State) : State := s.modMesh (fun m => { m with num := m.num + 1 })

/-- The answer to the operation in slot `t` of core `n` is on its way. -/
def State.answer (s : State) (n t st v o : Nat) : State :=
  (s.modSlot n t (fun x => { x with answer := some (st, v, o), waits := false, seq := s.mesh.num })).sendNext

/-! ### Routes (R18, R209, R225) -/

/-- The Purl link that a mesh link is (Table 9.2). -/
def purlOf (l : Nat) : Option Nat :=
  if l = 192 ∨ l = 193 then some 4
  else if l = 194 ∨ l = 195 then some 5
  else if isRowLink l then some (l % 32 / 8)
  else none

/-- The route from a node to a node crosses a Purl link that retrains: packets wait (R225). -/
def State.held (s : State) (src dst : Nat) : Bool :=
  (route (fun y => decide (s.fld PURL_STAT_STATE y = 3)) src dst).any (fun l => match purlOf l with
    | some p => decide (s.fld PURL_STAT_STATE p = 1)
    | none => false)

/-- The node of the file of marker `k` (Table 9.1). -/
def fileNode (k : Nat) : Nat := 40 + markerDie k

/-- The node that sends the answer in a slot and the class it comes in; none for one that the core's own interface gives, the node being out
of reach. A message is answered in CONTROL (R217), a store-mover operation in its own class. -/
def Slot.from (t : Slot) : Option (Nat × Nat) :=
  match t.op, t.answer with
  | some (.send d _ _ _ _ _ _ _), some (st, _, _) => if st = 5 then none else some (d, 1)
  | some (.move m _ _ _), some (st, _, _) => if st = 5 then none else some (m.node, m.cls)
  | some (.marker k _ _ _), some (st, _, _) => if st = 6 then none else some (fileNode k, 3)
  | _, _ => none

/-- Packets of a message of `len` bytes. -/
def msgPackets (len : Nat) : Nat := (len + 247) / 248
/-- The key of the store-mover packets of core `src` to `dst` in a class. -/
def e2eKey (src dst cls : Nat) : Nat := (src * 64 + dst) * 4 + cls

/-- A packet from node `a` to node `b` in class `c`, sent before number `q`, has not arrived: of a message, of a store mover, an answer, a CREDIT
response, or one that no slot holds. Packets of one class from one source to one destination arrive in the order they were sent (R18). -/
def State.sentBefore (s : State) (a b c q : Nat) : Bool :=
  (s.core a).slots.any (fun t => t.answer.isNone && decide (t.sent < q) && (match t.op with
    | some (.send d _ _ k _ len gone _) => decide (a < 32 ∧ d = b ∧ k = c ∧ gone < msgPackets len)
    | _ => false))
  || ((look s.mesh.flights (e2eKey a b c)).getD []).any (fun x => decide (x < q))
  || (decide (b < 32) && (s.core b).slots.any (fun t => decide (t.from = some (a, c) ∧ t.seq < q)))
  || s.mesh.rets.any (fun r => decide (c = 1 ∧ r.src = a ∧ r.dst = b ∧ r.seq < q))
  || s.mesh.stray.any (fun x => decide (x.src = a ∧ x.dst = b ∧ x.cls = c ∧ x.seq < q))

/-- A packet from `a` to `b` in class `c` with number `q` cannot have arrived: one sent before it has not, or the way retrains (R225). -/
def State.sendBehind (s : State) (a b c q : Nat) : Bool := s.held a b || s.sentBefore a b c q

/-- The answer in slot `t` of core `n` cannot have arrived. -/
def State.replyWaits (s : State) (n t : Nat) : Bool :=
  let x := s.slot n t
  match x.from with
  | some (d, c) => s.sendBehind d n c x.seq
  | none => false

/-- A packet sent under number `q` is one that no slot holds from now on. -/
def State.strayAs (s : State) (src dst cls q : Nat) (c : Cargo) : State :=
  s.modMesh (fun m => { m with
    stray := m.stray.filter (fun x => decide (x.seq ≤ q)) ++ [{ src := src, dst := dst, cls := cls, seq := q, cargo := c }]
      ++ m.stray.filter (fun x => decide (q < x.seq)) })
/-- A packet that no slot holds is sent. -/
def State.putStray (s : State) (src dst cls : Nat) (c : Cargo) : State := (s.strayAs src dst cls s.mesh.num c).sendNext

/-! ### Marker state -/

def State.mval (s : State) (k : Nat) : Nat := s.regN MRK_VAL k
def State.mowner (s : State) (k : Nat) : Nat := s.fld MRK_STAT_OWNER k
def State.setMval (s : State) (k v : Nat) : State := s.setRegN MRK_VAL v k

/-- An event of Table 9.9 in MRK_EVENT. -/
def State.mrkReport (s : State) (b sev k data : Nat) : State :=
  s.report MRK_EVENT.base MRK_INT_EN.base b 34 (0x0900 + b) k sev data

/-- VALUE grows by `n`, saturating with OVF. -/
def State.addMval (s : State) (k n : Nat) : State :=
  let v := s.mval k + n
  let s := s.setMval k (min v (2 ^ 32 - 1))
  if 2 ^ 32 ≤ v then (s.setFld MRK_STAT_OVF 1 k).mrkReport 2 3 k 0 else s

/-- A new owner, whose lease starts (R228), or none. The lease of a core that is halted is frozen from its start (R229). -/
def State.setOwner (s : State) (k o : Nat) : State :=
  let halted := decide (o < 32) && (s.core o).halted
  let s := (s.setFld MRK_STAT_OWNER o k).setFld MRK_STAT_HFRZ (if halted then 1 else 0) k
  let us := s.fld MRK_CFG_LEASE k
  s.modMesh (fun m => { m with
    leases := (m.leases.filter (fun l => decide (l.marker ≠ k))) ++
      (if o = noOwner ∨ us = 0 then []
       else [{ marker := k, till := if halted then 250 * us else s.rnd.clk + 250 * us, frozen := halted }]) })

/-- TAKE and ACQUIRE complete strictly in arrival order (R227). -/
def isOrdered (op : Nat) : Bool := decide (op = 3 ∨ op = 5)

/-- An earlier TAKE or ACQUIRE waits on marker `k`. -/
def State.orderedWaits (s : State) (k : Nat) : Bool := s.mesh.waiters.any (fun w => decide (w.marker = k) && isOrdered w.op)

/-- MRK_STAT.WAITERS. -/
def State.noteWaiters (s : State) (k : Nat) : State :=
  s.setFld MRK_STAT_WAITERS ((s.mesh.waiters.filter (fun w => decide (w.marker = k))).length) k

/-- A TAKE, WAITGE or ACQUIRE that can complete now does (Table 9.7). -/
def State.tryWaiting (s : State) (k op arg node : Nat) : Option State :=
  if op = 3 then (if arg ≤ s.mval k then some (s.setMval k (s.mval k - arg)) else none)
  else if op = 4 then (if arg ≤ s.mval k then some s else none)
  else if s.mowner k = noOwner then some (s.setOwner k node)
  else none

/-- The waiters of marker `k` are visited in arrival order (R227); `blocked` says that a TAKE or ACQUIRE could not complete. -/
def State.visitAll (k : Nat) : List Waiter → Bool → State → State
  | [], _, s => s
  | w :: t, blocked, s =>
    if w.marker ≠ k ∨ (blocked ∧ isOrdered w.op) then State.visitAll k t blocked s
    else
      match s.tryWaiting k w.op w.arg w.node with
      | some s =>
        let s := s.modMesh (fun m => { m with waiters := m.waiters.filter (fun x => decide (x ≠ w)) })
        State.visitAll k t blocked (s.answer w.node w.tag 0 (s.mval k) (s.mowner k))
      | none => State.visitAll k t (blocked || isOrdered w.op) s

/-- A visit of marker `k`. -/
def State.visit (s : State) (k : Nat) : State := (State.visitAll k s.mesh.waiters false s).noteWaiters k

/-- Node numbers that may RESET (Table 9.7). -/
def mayReset (node : Nat) : Bool := decide (node = 35 ∨ node = 36 ∨ node = 37)

/-- Every waiter of marker `k` ends with `st`. -/
def State.endWaiters (s : State) (k st : Nat) : State :=
  let ws := s.mesh.waiters.filter (fun w => decide (w.marker = k))
  let s := s.modMesh (fun m => { m with waiters := m.waiters.filter (fun w => decide (w.marker ≠ k)) })
  (ws.foldl (fun s w => s.answer w.node w.tag st (s.mval k) (s.mowner k)) s).noteWaiters k

/-- An operation that never waits (READ, SET, ADD, RELEASE, RESET), on a marker whose die works: the state after it and its status. -/
def State.plainOp (s : State) (k op arg node : Nat) : State × Nat :=
  if op = 0 then (s, 0)
  else if op = 1 then
    if s.mowner k = noOwner ∨ s.mowner k = node then ((s.setMval k arg).visit k, 0) else (s, 2)
  else if op = 2 then ((s.addMval k arg).visit k, 0)
  else if op = 6 then
    if s.mowner k = node then (((s.setOwner k noOwner).addMval k arg).visit k, 0) else (s, 2)
  else if mayReset node then ((((s.setMval k arg).setOwner k noOwner).endWaiters k 4), 0)
  else (s, 5)

/-! ### Requests of cores -/

/-- The core has a send or a store-mover write, issued before order `o`, that is not acknowledged (R218 point 2). -/
def Core.unacked (c : Core) (o : Nat) : Bool :=
  c.slots.any (fun t => decide (t.ord < o) && (match t.op with
    | some (.send ..) => true
    | some (.move m ..) => decide (m.dir = 1)
    | _ => false))

/-- The marker request in slot `tag` of core `src`, if it has not reached its file: marker, ARG, TMO and issue order. -/
def State.markerReq (s : State) (src tag op : Nat) : Option (Nat × Nat × Nat × Nat) :=
  let t := s.slot src tag
  match t.op with
  | some (.marker k o arg tmo) => if o = op ∧ t.answer.isNone ∧ ¬ t.waits then some (k, arg, tmo, t.ord) else none
  | _ => none

/-- An earlier request of core `src` to the same file has been sent and has not arrived: MARKER packets of one source arrive in the
order they were sent (R18). A request held back by R218 point 2 has not been sent. -/
def State.markerBehind (s : State) (src k o : Nat) : Bool :=
  let c := s.core src
  c.slots.any (fun t => match t.op with
    | some (.marker k' op _ _) =>
      decide (t.ord < o ∧ markerDie k' = markerDie k) && t.answer.isNone && !t.waits
        && !(decide (op = 1 ∨ op = 2 ∨ op = 6 ∨ op = 7) && c.unacked t.ord)
    | _ => false)

/-- The operation that a HOP requester has in progress. -/
def State.hopReq (s : State) (node op : Nat) : Option Hop := s.mesh.hops.find? (fun h => decide (h.node = node ∧ h.op = op))

/-- The copy of a MRK_HOP register that belongs to a requester (R84, R230). -/
def hopCopy (node : Nat) (r : Rg) : Nat := r.base + (if node = 36 then 0 else if node = 35 then 2 ^ 26 else 2 ^ 27)

/-- A HOP operation ends (MRK_HOPRES, MRK_HOPVAL). -/
def State.endHop (s : State) (h : Hop) (st : Nat) : State :=
  let s := s.modMesh (fun m => { m with hops := m.hops.filter (fun x => decide (x.node ≠ h.node)) })
  let a := hopCopy h.node MRK_HOPRES
  let x := s.reg a
  let x := setBits x 0 4 st
  let x := setBits x 4 8 (s.mowner h.marker)
  let x := setBits (setBits x 30 1 0) 31 1 1
  (s.setReg a x).setReg (hopCopy h.node MRK_HOPVAL) (BitVec.ofNat 32 (s.mval h.marker))

/-- A marker operation `op` reaches its file: from slot `tag` of core `src`, or from HOP requester `src` (35, 36, 37). A core's
changing operation waits until its earlier writes and messages are acknowledged (R218). -/
def State.markerArrive (s : State) (op src tag : Nat) : State :=
  let waiting := decide (op = 3 ∨ op = 4 ∨ op = 5)
  if src < 32 then
    match s.markerReq src tag op with
    | none => s
    | some (k, arg, tmo, o) =>
      if s.dieDropped (markerDie k) then s.answer src tag 6 0 0
      else if !waiting ∧ op ≠ 0 ∧ (s.core src).unacked o then s
      else if s.markerBehind src k o || s.sendBehind src (fileNode k) 3 s.mesh.num then s
      else if !waiting then
        let (s, st) := s.plainOp k op arg src
        s.answer src tag st (s.mval k) (s.mowner k)
      else if op = 5 ∧ s.mowner k = src then s.answer src tag 3 (s.mval k) (s.mowner k)
      else
        match (if isOrdered op && s.orderedWaits k then none else s.tryWaiting k op arg src) with
        | some s => (s.answer src tag 0 (s.mval k) (s.mowner k)).visit k
        | none =>
          if tmo = 0 then s.answer src tag 1 (s.mval k) (s.mowner k)
          else
            let till := if tmo = 0xFFFF then none else some (s.rnd.clk + 250 * tmo)
            let s := s.modMesh (fun m => { m with waiters := m.waiters ++ [⟨k, src, tag, op, arg, till⟩] })
            (s.modSlot src tag (fun x => { x with waits := true })).noteWaiters k
  else
    match s.hopReq src op with
    | none => s
    | some h =>
      if s.dieDropped (markerDie h.marker) then s.endHop h 6
      else if s.held src (fileNode h.marker) then s
      else if !waiting then
        let (s, st) := s.plainOp h.marker op h.arg src
        s.endHop h st
      else if op = 5 ∧ s.mowner h.marker = src then s.endHop h 3
      else
        match (if isOrdered op && s.orderedWaits h.marker then none else s.tryWaiting h.marker op h.arg src) with
        | some s => (s.endHop h 0).visit h.marker
        | none => s.endHop h 1

/-- A source of marker operations: a core's slot, or a HOP requester. -/
def onIssuer (src tag : Nat) (o : Out) : Out :=
  if src < 32 then onUnit tag 32 o else if src = 35 ∨ src = 36 ∨ src = 37 then o else .fault .noSuchUnit

/-- MARKER_READ (R226). -/
def execMarkerRead (src tag : Nat) (s : State) : Out := onIssuer src tag (.next (s.markerArrive 0 src tag))
/-- MARKER_SET (R226). -/
def execMarkerSet (src tag : Nat) (s : State) : Out := onIssuer src tag (.next (s.markerArrive 1 src tag))
/-- MARKER_ADD (R226). -/
def execMarkerAdd (src tag : Nat) (s : State) : Out := onIssuer src tag (.next (s.markerArrive 2 src tag))
/-- MARKER_TAKE (R226). -/
def execMarkerTake (src tag : Nat) (s : State) : Out := onIssuer src tag (.next (s.markerArrive 3 src tag))
/-- MARKER_WAITGE (R226). -/
def execMarkerWaitge (src tag : Nat) (s : State) : Out := onIssuer src tag (.next (s.markerArrive 4 src tag))
/-- MARKER_ACQUIRE (R226). -/
def execMarkerAcquire (src tag : Nat) (s : State) : Out := onIssuer src tag (.next (s.markerArrive 5 src tag))
/-- MARKER_RELEASE (R226). -/
def execMarkerRelease (src tag : Nat) (s : State) : Out := onIssuer src tag (.next (s.markerArrive 6 src tag))
/-- MARKER_RESET (R226). -/
def execMarkerReset (src tag : Nat) (s : State) : Out := onIssuer src tag (.next (s.markerArrive 7 src tag))

/-- A marker operation whose reply nothing waits for reaches its file: an ADD of a hub block or an engine (R150, R316), or what a core had sent
when its job was aborted (R255). A TAKE is tried once; one that has nothing to take, and an ACQUIRE, go as the core's waiters do. -/
def State.landMark (s : State) (node k op arg : Nat) : State :=
  if s.dieDropped (markerDie k) then s
  else if op = 1 ∨ op = 2 ∨ op = 6 then (s.plainOp k op arg node).1
  else if op = 3 ∧ ¬ s.orderedWaits k then (s.tryWaiting k 3 arg node).getD s
  else s

/-- An ADD that node `src`, a hub block or an engine, issues beside its data (R150, R316): nothing waits for its reply. While the way to
its file retrains the packet waits (R225). -/
def State.blockAdd (s : State) (src k n : Nat) : State :=
  if s.dieDropped (markerDie k) then s
  else if s.sendBehind src (fileNode k) 3 s.mesh.num then s.putStray src (fileNode k) 3 (.mark k 2 n)
  else s.landMark src k 2 n

/-- MARKER_WAIT_TIMEOUT (R227): the wait of slot `tag` of core `node` has reached its TMO. -/
def execMarkerWaitTimeout (node tag : Nat) (s : State) : Out :=
  onUnit node 32 <| onUnit tag 32 <|
    match s.mesh.waiters.find? (fun w => decide (w.node = node ∧ w.tag = tag)) with
    | none => .next s
    | some w =>
      match w.till with
      | none => .next s
      | some t =>
        if s.rnd.clk < t then .next s
        else
          let s := s.modMesh (fun m => { m with waiters := m.waiters.filter (fun x => decide (x ≠ w)) })
          let s := (s.answer node tag 1 (s.mval w.marker) (s.mowner w.marker)).count MRK_CNT_TIMEOUT
          .next (s.visit w.marker)

/-- A marker is taken from its owner: cause 0 lease, 1 debug halt, 2 abort, 3 fence (Table 18.4). -/
def State.takeAway (s : State) (k cause : Nat) : State :=
  let o := s.mowner k
  let s := (s.setOwner k noOwner).count MRK_CNT_FORCED
  (s.mrkReport (if cause = 0 then 0 else 1) 5 k (o + 2 ^ 8 * cause + 2 ^ 32 * s.mval k)).visit k

/-- LEASE_EXPIRY (R228). -/
def execLeaseExpiry (k : Nat) (s : State) : Out :=
  onUnit k 256 <|
    match s.mesh.leases.find? (fun l => decide (l.marker = k)) with
    | none => .next s
    | some l => if l.frozen ∨ s.rnd.clk < l.till then .next s else .next (s.takeAway k 0)

/-- Markers whose OWNER is `node`. -/
def State.ownedBy (s : State) (node : Nat) : List Nat := (List.range 256).filter (fun k => decide (s.mowner k = node))

/-- The waiters of a node go without reply, and every marker it owns is released (R229, R255). -/
def State.releaseMarkers (s : State) (node cause : Nat) : State :=
  let ks := ((s.mesh.waiters.filter (fun w => decide (w.node = node))).map (·.marker)).eraseDups
  let s := s.modMesh (fun m => { m with waiters := m.waiters.filter (fun w => decide (w.node ≠ node)) })
  let s := (s.ownedBy node).foldl (fun s k => s.takeAway k cause) s
  ks.foldl (fun s k => s.visit k) s

/-- The leases of the markers that core `n` owns freeze at a halt, or run on (R229). -/
def State.freezeLeases (s : State) (n : Nat) (on : Bool) : State :=
  let ks := s.ownedBy n
  let s := ks.foldl (fun s k => s.setFld MRK_STAT_HFRZ (if on then 1 else 0) k) s
  s.modMesh (fun m => { m with leases := m.leases.map (fun l =>
    if ks.contains l.marker ∧ l.frozen ≠ on then
      { l with frozen := on, till := if on then l.till - s.rnd.clk else l.till + s.rnd.clk }
    else l) })

/-- The node number of a requester of register accesses (Table 9.1). -/
def Requester.node : Requester → Nat
  | .host => 36
  | .hub => 35
  | .debug => 37

/-- A write of MRK_HOPCMD by a requester (R230): the operation starts with TMO 0, or OVL is set while one is in progress. -/
def State.hopCmd (s : State) (rq : Requester) (v : Nat) : State :=
  let a := hopCopy rq.node MRK_HOPRES
  let x := s.reg a
  if x.toNat.testBit 30 then s.setReg a (setBits x 29 1 1)
  else
    let arg := (s.reg (hopCopy rq.node MRK_HOPARG)).toNat
    let s := s.setReg a (setBits (setBits x 30 1 1) 31 1 0)
    s.modMesh (fun m => { m with hops := m.hops ++ [{ node := rq.node, marker := v % 256, op := nbits v 8 3, arg := arg }] })

/-! ### Die lost (R25, R219) -/

/-- Every marker operation under way to a marker of die `d`, waiting ones included, ends with ST_MRK_UNREACHABLE. -/
def State.loseMarkers (s : State) (d : Nat) : State :=
  let s := s.modMesh (fun m => { m with waiters := m.waiters.filter (fun w => decide (markerDie w.marker ≠ d)),
                                        stray := m.stray.filter (fun x => decide (x.dst ≠ 40 + d)),
                                        leases := m.leases.filter (fun l => decide (markerDie l.marker ≠ d)) })
  let s := (List.range 256).foldl (fun s k => if markerDie k = d then s.noteWaiters k else s) s
  (List.range 32).foldl (fun s n => (List.range 32).foldl (fun s t =>
    match (s.slot n t).op with
    | some (.marker k _ _ _) => if markerDie k = d ∧ (s.slot n t).answer.isNone then s.answer n t 6 0 0 else s
    | _ => s) s) s

end Sys2Proof.Machine
end

