-- ==== Sys2Proof/Machine/Stores.lean ====
section
/-! DEFINITION. Machine/Stores.lean: who may read and write which store, and what the mesh answers (R89 to R93, R214, R304, R411,
R434, R443). -/

namespace Sys2Proof.Machine
open Sys2Proof Sys2Proof.Machine.Reg

/-! ### Engines -/

def State.engine (s : State) (k : Nat) : Engine := s.engines.getD k {}
def State.modEngine (s : State) (k : Nat) (f : Engine → Engine) : State := { s with engines := s.engines.modify k f }
def State.pslot (s : State) (k i : Nat) : PSlot := (s.engine k).slots.getD i {}
def State.modPslot (s : State) (k i : Nat) (f : PSlot → PSlot) : State :=
  s.modEngine k (fun e => { e with slots := e.slots.modify i f })
def State.engineDropped (s : State) (k : Nat) : Bool := (s.fld PWR_DROP_UNIT_SE).testBit k

/-- Byte address of input page `p` (0 A, 1 B) of slot (k, i), and the size of a page in bytes. -/
def State.pageAt (s : State) (k i p : Nat) : Nat := 64 * (if p = 0 then s.live SOL_SLOTPG_PGA k i else s.live SOL_SLOTPG_PGB k i)
def State.pageSize (s : State) (k i : Nat) : Nat := 1024 * s.live SOL_SLOTSZ_PGSIZE k i

/-- The pages a slot has locked (R302): of the solve that runs, and of those that wait. -/
def State.lockedPages (s : State) (k i : Nat) : List Nat :=
  let waiting := ((s.pslot k i).latch).map (·.page)
  let l := match (s.engine k).run with
    | some v => if v.slot = i then v.latch.page :: waiting else waiting
    | none => waiting
  l.filter (fun p => decide (p < 2))

/-- Two byte ranges share a byte. -/
def overlaps (a n b m : Nat) : Bool := decide (a < b + m ∧ b < a + n)

/-- A write of `n` bytes at `a` of engine `k`'s store touches a locked page (R304). -/
def State.solLocked (s : State) (k a n : Nat) : Bool :=
  (List.range 32).any (fun i => (s.lockedPages k i).any (fun p => overlaps a n (s.pageAt k i p) (s.pageSize k i)))

/-! ### The hub store -/

def hubSize : Nat := 0xC00000
/-- The journal buffer and the restore region (R411, R443). -/
def jrnBase : Nat := 0xBC0000
def restoreBase : Nat := 0xB80000

/-- Writes to these bytes of the hub store are refused: the firmware region once an image is accepted, the restore region, the
journal buffer. -/
def State.hubLocked (s : State) (a n : Nat) : Bool :=
  overlaps a n 0 (65536 * s.boot.fw) || overlaps a n restoreBase 0x80000

/-- A byte of the hub store. The journal buffer shows its slots; the restore region reads 0 while it holds no record. Past the store's end, where an
image may reach, 0xFF is read: R55 is silent there and the model chooses (log 135). -/
def State.hubByte (s : State) (a : Nat) : Nat :=
  if jrnBase ≤ a then s.jrnByte (a - jrnBase)
  else if restoreBase ≤ a ∧ ¬ s.flag PWR_BORESTORE_VALID then 0
  else (memGet dflt0 s.hub a).toNat
def State.hubBytes (s : State) (a n : Nat) : List Nat := (List.range n).map (fun i => s.hubByte (a + i))

/-- Bytes are written to the hub store. A change of the memory of an image that is being admitted leaves the result of the
admission open (R55). -/
def State.putHub (s : State) (a : Nat) (bs : List Nat) : State :=
  let s := { s with hub := memPut dflt0 s.hub a bs }
  if s.pat.img.isSome && overlaps a bs.length s.pat.imgAt s.pat.imgLen then
    s.modPat (fun p => { p with touched := true })
  else s

/-- Installed LPDDR in bytes (HIF_LPDDR_PAGE.INST). -/
def lpddrSize : Nat := (Config.lpddrInst.toNat + 1) * 0x400000
def lpddrBase : Nat := 0x400000000

/-! ### The mesh's view (R214) -/

/-- A die cannot be reached from the hub: it is DROPPED, or its hub link is retired or retraining (R86). -/
def State.dieUnreachable (s : State) (d : Nat) : Bool :=
  s.dieDropped d || decide (s.fld PURL_STAT_STATE (4 + d) = 3) || decide (s.fld PURL_STAT_STATE (4 + d) = 1)

/-- A WRITE of `bs` at `a` in the space of `node`: the state after it and the status of Table 9.5. -/
def State.meshWrite (s : State) (node a : Nat) (bs : List Nat) : State × Nat :=
  if node < 32 then
    if s.coreDropped node then (s, 5)
    else if 0x100000 < a + bs.length then (s, 3)
    else (s.putData node a bs, 0)
  else if node < 34 then
    let k := node - 32
    if s.engineDropped k then (s, 5)
    else if 0x200000 < a + bs.length then (s, 3)
    else if s.solLocked k a bs.length then (s, 6)
    else (s.putSol k a bs, 0)
  else if node = 34 then
    if a + bs.length ≤ hubSize then
      if s.hubLocked a bs.length then (s, 6) else (s.putHub a bs, 0)
    else if lpddrBase ≤ a ∧ a + bs.length ≤ lpddrBase + lpddrSize then (s.putLpddr (a - lpddrBase) bs, 0)
    else (s, 3)
  else (s, 3)

/-- A READ of `n` bytes at `a` in the space of `node`: data and status; `ecc` lists the bytes (from 0) that lie in a word with an
uncorrectable error. LPDDR carries no ECC (R456). -/
def State.meshRead (s : State) (node a n : Nat) (ecc : List Nat) : List Nat × Nat :=
  let ok := fun (bs : List Nat) => if ecc.isEmpty then (bs, 0) else (List.replicate n 0xFF, 4)
  if node < 32 then
    if s.coreDropped node then ([], 5)
    else if 0x100000 < a + n then ([], 3)
    else ok (memBytes dflt0 s.data (dataAt node a) n)
  else if node < 34 then
    let k := node - 32
    if s.engineDropped k then ([], 5)
    else if 0x200000 < a + n then ([], 3)
    else ok (memBytes dflt0 s.sol (solAt k a) n)
  else if node = 34 then
    if a + n ≤ hubSize then ok (s.hubBytes a n)
    else if lpddrBase ≤ a ∧ a + n ≤ lpddrBase + lpddrSize then (s.lpddrBytes (a - lpddrBase) n, 0)
    else ([], 3)
  else ([], 3)

end Sys2Proof.Machine
end

