-- ==== Sys2Proof/Machine/Mesh.lean ====
section
/-! DEFINITION. Machine/Mesh.lean: packets, credits, receive channels, tracked operations and Purl links (chapter 9, R213 to R225,
and the store mover of R245 to R247). A packet's arrival is one command; its answer is held in the requester's slot until the
command that delivers the answer. -/

namespace Sys2Proof.Machine
open Sys2Proof Sys2Proof.Machine.Reg

/-- An event of Table 9.9 in MESH_EVENT. -/
def State.meshReport (s : State) (b sev src : Nat) : State :=
  s.report MESH_EVENT.base MESH_INT_EN.base b 33 (0x0800 + b) src sev

/-- DEMOTE and BADSRC are recorded at most once per round per core (R231). -/
def State.meshOnce (s : State) (b n : Nat) : State :=
  let key := n + (if b = 4 then 32 else 0)
  if s.mesh.once.contains key then s.event MESH_EVENT.base MESH_INT_EN.base b 33
  else (s.modMesh (fun m => { m with once := m.once ++ [key] })).meshReport b 4 n

/-! ### Credits (R215, R217) -/

def credKey (src dst chan : Nat) : Nat := (src * 64 + dst) * 16 + chan
def State.credit (s : State) (src dst chan : Nat) : Nat := (look s.mesh.cred (credKey src dst chan)).getD 0
def State.setCredit (s : State) (src dst chan v : Nat) : State :=
  let k := credKey src dst chan
  s.modMesh (fun m => { m with cred := if v = 0 then unbind m.cred k else bind m.cred k v })

/-- A CREDIT response of `n` credits leaves node `node` for `src`; 0 resets the count (R244). -/
def State.sendCredit (s : State) (node src chan n : Nat) : State :=
  (s.modMesh (fun m => { m with rets := m.rets ++ [{ dst := src, src := node, chan := chan, count := n, seq := m.num }] })).sendNext
/-- Credits are returned, if there are any. -/
def State.giveCredit (s : State) (node src chan n : Nat) : State := if n = 0 then s else s.sendCredit node src chan n

/-- The next CREDIT response from `node` reaches `n`, if nothing sent before it in the CONTROL class is still on its way (R18). -/
def State.takeCredit (s : State) (n node : Nat) : State :=
  match s.mesh.rets.find? (fun r => decide (r.dst = n ∧ r.src = node)) with
  | none => s
  | some r =>
    if s.sendBehind node n 1 r.seq then s
    else
    let s := s.modMesh (fun m => { m with rets := m.rets.erase r })
    s.setCredit n node r.chan (if r.count = 0 then 0 else s.credit n node r.chan + r.count)

/-- The next message number of a sender (R242). -/
def State.nextMseq (s : State) (src dst chan : Nat) : Nat := (look s.mesh.mseq (credKey src dst chan)).getD 0
def State.bumpMseq (s : State) (src dst chan : Nat) : State :=
  s.modMesh (fun m => { m with mseq := bind m.mseq (credKey src dst chan) ((s.nextMseq src dst chan + 1) % 256) })

/-! ### Messages (R213, R242) -/

/-- The data bytes of packet `i` of a message of `len` bytes. -/
def msgChunk (len i : Nat) : Nat := min 248 (len - 248 * i)
/-- `n` rounded up to a multiple of 8. -/
def round8 (n : Nat) : Nat := (n + 7) / 8 * 8

/-- A MSG packet whole (Tables 9.3 and 9.4). -/
def msgBytes (dst src cls chan mseq i n tag : Nat) (rsv : Bool) (body : List Nat) : List Nat :=
  let len := 8 + round8 body.length
  [dst, src, (len / 8 - 1) + 32 * cls + (if i + 1 = n then 128 else 0), (if rsv then 4 else 0) + 8 * tag]
    ++ toBytes 4 (chan + 16 * mseq + 2 ^ 12 * i + 2 ^ 20 * (n - 1)) ++ fitBytes (round8 body.length) body

/-- Reservation units of a packet of `n` bytes (R221). -/
def unitsOf (n : Nat) : Nat := (n + 63) / 64

/-- A DEADLINE packet of `len` bytes is issued by core `n`: RSV = 1 while its budget covers it, otherwise DEMOTE if it had one. -/
def State.chargeCore (s : State) (n len : Nat) : State × Bool :=
  let u := unitsOf len
  let c := s.core n
  if u ≤ c.budget then (s.modCore n (fun c => { c with budget := c.budget - u }), true)
  else if c.budget0 ≠ 0 then (((s.count MESH_CNT_DEMOTE).meshOnce 3 n), false)
  else (s, false)

/-- The packets of a message are charged in order. -/
def State.chargeMsg (s : State) (n len : Nat) : Nat → List Bool → State × List Bool
  | 0, acc => (s, acc)
  | k + 1, acc =>
    let i := msgPackets len - (k + 1)
    let (s', b) := s.chargeCore n (8 + round8 (msgChunk len i))
    s'.chargeMsg n len k (acc ++ [b])

/-! ### Receive channels (R217, R243, R244) -/

def State.chan (s : State) (n c : Nat) : Chan := (s.core n).chans.getD c {}
def State.modChan (s : State) (n c : Nat) (f : Chan → Chan) : State := s.modCore n (fun x => { x with chans := x.chans.modify c f })
def State.chanOn (s : State) (n c : Nat) : Bool := s.live CORE_CHCFG_EN n c = 1
def State.chanSrc (s : State) (n c : Nat) : Nat := s.live CORE_CHCFG_SRC n c
def State.chanSlots (s : State) (n c : Nat) : Nat := s.live CORE_CHCFG_NSLOT n c + 1
def State.chanBase (s : State) (n c : Nat) : Nat := 256 * s.live CORE_CHCFG_BASE n c

/-- CORE_CHSTAT shows the channel. -/
def State.noteChan (s : State) (n c : Nat) : State :=
  let x := s.chan n c
  (s.setFld CORE_CHSTAT_READY x.ready.length n c).setFld CORE_CHSTAT_DRAIN (if x.arr.any (fun a => a.mode = 1) then 1 else 0) n c

/-- A discarded packet is counted (R217). -/
def State.badSrc (s : State) (n : Nat) : State := (s.count MESH_CNT_BADSRC).meshOnce 4 n

/-- A MSG packet `i` of `np` of message `mseq` from `src` arrives on channel `c` of core `n`: the state after it, and the
completion status if the packet was the message's last. -/
def State.msgArrive (s : State) (n c src mseq i np : Nat) (pkt : List Nat) : State × Option Nat :=
  let last := decide (i + 1 = np)
  let fin := fun st => if last then some st else none
  if s.coreDropped n then (s, fin 5)
  else if ¬ s.chanOn n c ∨ s.chanSrc n c ≠ src then (s.badSrc n, fin 2)
  else
    let s : State := if i = 0 then
        let x := s.chan n c
        s.modChan n c (fun ch => { ch with
          expect := (mseq + 1) % 256,
          arr := ch.arr ++ [{ mseq := mseq, mode := if x.expect = mseq then 0 else 2, first := ch.wr, got := 0 }] })
      else s
    match (s.chan n c).arr.find? (fun a => a.mseq = mseq) with
    | none => (s.badSrc n, fin 2)
    | some a =>
      let s := if last then s.modChan n c (fun ch => { ch with arr := ch.arr.erase a })
        else s.modChan n c (fun ch => { ch with arr := ch.arr.map (fun b => if b = a then { b with got := b.got + 1 } else b) })
      if a.mode = 0 then
        let x := s.chan n c
        let s := s.putData n (s.chanBase n c + 256 * x.wr) pkt
        let s := s.modChan n c (fun ch => { ch with
          wr := (ch.wr + 1) % s.chanSlots n c, ready := if last then ch.ready ++ [(mseq, a.first, np)] else ch.ready })
        (s.noteChan n c, fin 0)
      else if a.mode = 1 then
        (((s.count CORE_CHSTAT_DRAINCNT 1 n c).sendCredit n src c 1).noteChan n c, fin 1)
      else ((s.badSrc n).sendCredit n src c 1, fin 7)

/-- A flush of channel `c` of core `n` (R217). -/
def State.flushChan (s : State) (n c : Nat) : State :=
  let x := s.chan n c
  let freed := x.out + (x.ready.foldl (fun m r => m + r.2.2) 0)
    + (x.arr.foldl (fun m a => m + (if a.mode = 0 then a.got else 0)) 0)
  let s := s.modChan n c (fun ch => { ch with
    out := 0, ready := [], arr := ch.arr.map (fun a => if a.mode = 0 then { a with mode := 1 } else a) })
  let s := (s.setFld CORE_CHSTAT_FLUSHSEQ x.expect n c).giveCredit n (s.chanSrc n c) c freed
  s.noteChan n c

/-- The channels of core `n` that a mask names are flushed. -/
def State.flushChans (s : State) (n mask : Nat) : State :=
  let s := (bitsOf mask 16).foldl (fun s c => if s.chanOn n c then s.flushChan n c else s) s
  s.setFld CORE_CHFLUSH_FLUSH 0 n

/-! ### End-to-end credit of WRITE and READ packets (R215) -/

/-- The grant of a destination to each source in each class. -/
def e2eGrant (dst : Nat) : Nat := if dst = 34 then 32 else 8
/-- The numbers of the store-mover packets of core `src` to `dst` in a class that hold their credit, and how many they are. -/
def State.flights (s : State) (src dst cls : Nat) : List Nat := (look s.mesh.flights (e2eKey src dst cls)).getD []
def State.flight (s : State) (src dst cls : Nat) : Nat := (s.flights src dst cls).length
def State.setFlights (s : State) (src dst cls : Nat) (l : List Nat) : State :=
  let k := e2eKey src dst cls
  s.modMesh (fun m => { m with flights := if l.isEmpty then unbind m.flights k else bind m.flights k l })
/-- A packet is sent. -/
def State.pushFlight (s : State) (src dst cls : Nat) : State :=
  (s.setFlights src dst cls (s.flights src dst cls ++ [s.mesh.num])).sendNext

/-- The 2-D block as destination rows: number of rows, bytes in each. -/
def Mover.dstRows (m : Mover) : Nat := if m.transpose then m.cols else m.rows
def Mover.dstLen (m : Mover) : Nat := m.esize * (if m.transpose then m.rows else m.cols)
def Mover.srcLen (m : Mover) : Nat := m.esize * m.cols
/-- Byte `b` of destination row `j` comes from this source row and byte. -/
def Mover.origin (m : Mover) (j b : Nat) : Nat × Nat :=
  if m.transpose then (b / m.esize, j * m.esize + b % m.esize) else (j, b)
/-- WRITE packets of one destination row, and of the whole block. -/
def Mover.perRow (m : Mover) : Nat := (m.dstLen + 247) / 248
def Mover.packets (m : Mover) : Nat := m.dstRows * m.perRow
/-- READ packets of one source row (at most 4,096 bytes each), and of the whole block. -/
def Mover.readsPerRow (m : Mover) : Nat := (m.srcLen + 4095) / 4096
def Mover.reads (m : Mover) : Nat := m.rows * m.readsPerRow
/-- The packets a descriptor sends, and the length of packet `i`: a WRITE with its data, a READ of header and RLEN (Table 9.4). -/
def Mover.total (m : Mover) : Nat := if m.dir = 1 then m.packets else if m.dir = 2 then m.reads else 0
def Mover.packetLen (m : Mover) (i : Nat) : Nat := if m.dir = 1 then 8 + min 248 (m.dstLen - 248 * (i % m.perRow)) else 16

/-- The running descriptor of core `n`: the oldest one. -/
def State.headMove (s : State) (n tag : Nat) : Option (Mover × Nat × Nat × List Nat) :=
  if (s.core n).movq.head? = some tag then
    let t := s.slot n tag
    match t.op with
    | some (.move m gone bad buf) => if t.answer.isNone then some (m, gone, bad, buf) else none
    | _ => none
  else none

/-- The running descriptor of core `n` issues packets while it holds credit for them, at most `k`: a DEADLINE one is charged as it goes (R222);
without credit the mover waits (R20). -/
def State.issueMove (s : State) (n : Nat) : Nat → State
  | 0 => s
  | k + 1 =>
    match (s.core n).movq.head?.bind (s.headMove n) with
    | some (m, gone, _, _) =>
      let f := s.flight n m.node m.cls
      if gone + f < m.total ∧ f < e2eGrant m.node then
        let s := if m.cls = 0 then (s.chargeCore n (m.packetLen (gone + f))).1 else s
        (s.pushFlight n m.node m.cls).issueMove n k
      else s
    | none => s

/-! ### Tracked operations end (R219, R240) -/

/-- The marker increments of finished store-mover descriptors reach their file once every earlier message is acknowledged (R218) and the way there
does not retrain (R225). -/
def State.pumpAdds (s : State) (n : Nat) : State :=
  let c := s.core n
  if c.adds.isEmpty then s else
  let blocked := fun (o : Nat) => c.slots.any (fun t => decide (t.ord < o) && (match t.op with
    | some (.send ..) => true
    | _ => false))
  let stays := fun (a : Nat × Nat) => blocked a.2 || (!(s.dieDropped (markerDie a.1)) && s.sendBehind n (fileNode a.1) 3 s.mesh.num)
  let go := c.adds.filter (fun a => !stays a)
  let s := s.modCore n (fun c => { c with adds := c.adds.filter stays })
  go.foldl (fun s a => s.blockAdd n a.1 1) s

/-- Values that overwritten words have had are forgotten once nothing can read them. -/
def State.forgetOld (s : State) (n : Nat) : State :=
  if (s.core n).reading then s else s.modCore n (fun c => { c with old := [] })

/-- The operation in slot `t` of core `n` ends with `st`: the slot frees, its status is kept, and TERR notes the first failure. -/
def State.endSlot (s : State) (n t st : Nat) (unreach : Bool) : State :=
  let s := s.modSlot n t (fun x => { x with op := none, answer := none, waits := false, kept := some st })
  let s := if st ≠ 0 ∧ (s.core n).terr < 2 ^ 31 then
      s.modCore n (fun c => { c with terr := 2 ^ 31 + st + 16 * t })
    else s
  let s := if unreach then s.meshReport 5 5 n else s
  let s := s.modCore n (fun c => { c with movq := c.movq.filter (fun x => decide (x ≠ t)) })
  (((s.noteTrk n).pumpAdds n).forgetOld n).issueMove n 32

/-- Watched: what a waiting Control Processor does when slot `t` ends is said in Machine/Cp.lean. -/
def State.endTracked (s : State) (n t : Nat) : State :=
  let x := s.slot n t
  match x.op, x.answer with
  | some (.marker ..), some (st, _, _) => s.endSlot n t st (decide (st = 6))
  | some (.move m _ _ _), some (st, _, _) =>
    let s := s.endSlot n t st (decide (st = 5))
    if m.mrken ∧ st = 0 then
      let s := s.modCore n (fun c => { c with adds := c.adds ++ [(m.mrk, c.ord)] })
      s.pumpAdds n
    else s
  | some (.send ..), some (st, _, _) => s.endSlot n t st (decide (st = 5))
  | some (.want ..), some (st, _, _) => s.endSlot n t st (decide (st = 5))
  | _, _ => s

/-! ### Message packets -/

/-- The next packet of the message in slot `tag` of core `src` arrives at its core. -/
def State.msgPacket (s : State) (src tag : Nat) : State :=
  let t := s.slot src tag
  match t.op with
  | some (.send dst chan mseq cls addr len gone rsv) =>
    if dst ≥ 32 ∨ t.answer.isSome ∨ msgPackets len ≤ gone ∨ s.sendBehind src dst cls t.sent then s
    else
      let np := msgPackets len
      let body := s.opBytes src t.ord (addr + 248 * gone) (msgChunk len gone)
      let (s, st) := s.msgArrive dst chan src mseq gone np
        (msgBytes dst src cls chan mseq gone np tag (rsv.getD gone false) body)
      let s := s.draw
      let s := s.modSlot src tag (fun x => { x with op := some (.send dst chan mseq cls addr len (gone + 1) rsv) })
      match st with
      | some st => s.answer src tag st 0 0
      | none => s
  | _ => s

/-! ### The store mover (R245 to R247) -/

def State.setMove (s : State) (n tag : Nat) (m : Mover) (gone bad : Nat) (buf : List Nat) : State :=
  s.modSlot n tag (fun x => { x with op := some (.move m gone bad buf) })

/-- The bytes `lo … lo+len−1` of destination row `j`, read from the local store by descriptor `o`. -/
def State.localRow (s : State) (n o : Nat) (m : Mover) (j lo len : Nat) : List Nat :=
  (List.range len).map (fun i =>
    let (r, b) := m.origin j (lo + i)
    s.opLE n o (m.src + r * m.sstride + b) 1)

/-- A packet of core `src`'s running descriptor has left its destination: its credit is free again. -/
def State.landFlight (s : State) (src : Nat) (m : Mover) : State :=
  s.setFlights src m.node m.cls (s.flights src m.node m.cls).tail

/-- The packet of core `src`'s running descriptor that is to arrive next has arrived. -/
def State.moverLands (s : State) (src : Nat) (m : Mover) : Bool :=
  match s.flights src m.node m.cls with
  | [] => false
  | q :: _ => !(s.sendBehind src m.node m.cls q)

/-- Where WRITE packet `i` of a descriptor goes, and its bytes. -/
def State.writeBytes (s : State) (src o : Nat) (m : Mover) (i : Nat) : Nat × List Nat :=
  let lo := 248 * (i % m.perRow)
  (m.dst + i / m.perRow * m.dstride + lo, s.localRow src o m (i / m.perRow) lo (min 248 (m.dstLen - lo)))

/-- The next WRITE packet in flight of core `src`'s running descriptor is applied (R216); the last one is answered. -/
def State.applyWrite (s : State) (src tag : Nat) : State :=
  match s.headMove src tag with
  | some (m, gone, bad, buf) =>
    if m.dir ≠ 1 ∨ m.packets ≤ gone ∨ ¬ s.moverLands src m then s
    else
      let (a, bs) := s.writeBytes src (s.slot src tag).ord m gone
      let (s, st) := (s.landFlight src m).draw.meshWrite m.node a bs
      let bad := if bad = 0 then st else bad
      let s := s.setMove src tag m (gone + 1) bad buf
      if gone + 1 = m.packets then s.answer src tag bad 0 0 else s
  | none => s

/-- A WRITE packet is applied, and the next one that has credit leaves. -/
def State.writePacket (s : State) (src tag : Nat) : State := (s.applyWrite src tag).issueMove src 32

/-- Source bytes gathered by READ packets, row after row, go to the local destination. -/
def State.scatter (s : State) (n : Nat) (m : Mover) (buf : List Nat) : State :=
  (List.range m.dstRows).foldl (fun s j =>
    s.putData n (m.dst + j * m.dstride) ((List.range m.dstLen).map (fun b =>
      let (r, o) := m.origin j b
      buf.getD (r * m.srcLen + o) 0))) s

/-- The READ packet in flight that core `src`'s running descriptor has next at its destination, if it can be served now: the descriptor as
`headMove` shows it, the address read, the bytes. -/
def State.readNow (s : State) (src tag : Nat) : Option ((Mover × Nat × Nat × List Nat) × Nat × Nat) :=
  match s.headMove src tag with
  | some (m, gone, bad, buf) =>
    if m.dir ≠ 2 ∨ m.reads ≤ gone ∨ ¬ s.moverLands src m then none
    else
      let lo := 4096 * (gone % m.readsPerRow)
      some ((m, gone, bad, buf), m.src + gone / m.readsPerRow * m.sstride + lo, min 4096 (m.srcLen - lo))
  | none => none

/-- It is served (R214); it holds its credit until its last RESP leaves (R215). -/
def State.serveRead (s : State) (src tag : Nat) (ecc : List Nat) : State :=
  match s.readNow src tag with
  | some ((m, gone, bad, buf), a, len) =>
    let (bs, st) := s.meshRead m.node a len ecc
    let bad := if bad = 0 then st else bad
    let buf := buf ++ fitBytes len bs
    let s := (s.landFlight src m).setMove src tag m (gone + 1) bad buf
    if gone + 1 = m.reads then
      (if bad = 0 ∨ bad = 4 then s.scatter src m buf else s).answer src tag bad 0 0
    else s
  | none => s

/-- A READ packet is served, and the next one that has credit leaves. -/
def State.readPacket (s : State) (src tag : Nat) (ecc : List Nat) : State := (s.serveRead src tag ecc).issueMove src 32

/-- A local copy runs whole. -/
def State.localCopy (s : State) (n tag : Nat) : State :=
  match s.headMove n tag with
  | some (m, _, _, _) =>
    if m.dir ≠ 0 then s
    else
      let o := (s.slot n tag).ord
      let s := (List.range m.dstRows).foldl (fun s j =>
        s.putData n (m.dst + j * m.dstride) (s.localRow n o m j 0 m.dstLen)) s
      s.draw.answer n tag 0 0 0
  | none => s

/-! ### A destination is fenced or lost (R219, R449) -/

/-- Every operation of a core that is addressed to `node` ends with ST_MESH_UNREACHABLE, one that waits for credit included. -/
def State.loseNode (s : State) (node : Nat) : State :=
  (List.range 32).foldl (fun s n => (List.range 32).foldl (fun s t =>
    let x := s.slot n t
    if x.answer.isSome then s
    else match x.op with
      | some (.send d ..) => if d = node then s.answer n t 5 0 0 else s
      | some (.want d ..) => if d = node then s.answer n t 5 0 0 else s
      | some (.move m ..) => if m.dir ≠ 0 ∧ m.node = node then (s.setFlights n node m.cls []).answer n t 5 0 0 else s
      | _ => s) s) s

/-- Every core channel whose SRC is `node` is flushed, and its drain ends at once. -/
def State.flushFrom (s : State) (node : Nat) : State :=
  (List.range 32).foldl (fun s n => (List.range 16).foldl (fun s c =>
    if s.chanOn n c ∧ s.chanSrc n c = node then
      ((s.flushChan n c).modChan n c (fun ch => { ch with arr := [] })).noteChan n c
    else s) s) s

/-! ### Staged channel configuration (R244) and its checks -/

/-- CORE_STATUS.REJ_CAUSE for the staged channels of core `n`: 1 CH_RANGE, 2 CH_OVERLAP, 3 CH_SRC. -/
def State.chanReject (s : State) (n : Nat) : Nat :=
  let base := fun c => 256 * s.fld CORE_CHCFG_BASE n c
  let len := fun c => 256 * (s.fld CORE_CHCFG_NSLOT n c + 1)
  let on := fun c => s.flag CORE_CHCFG_EN n c
  if (List.range 16).any (fun c => decide (0x100000 < base c + len c)) then 1
  else if (List.range 16).any (fun c => (List.range 16).any (fun d =>
      decide (c < d) && on c && on d && overlaps (base c) (len c) (base d) (len d))) then 2
  else if (List.range 16).any (fun c => decide (33 < s.fld CORE_CHCFG_SRC n c)) then 3
  else 0

/-- Channel `c` takes its staged set (R244): a changed enabled channel is flushed and its old sender's count zeroed; an enabling one
grants its slots. What a source that may no longer send has under way is discarded as it arrives, and drains nothing (R217). -/
def State.applyChan (s : State) (n c : Nat) : State :=
  let was := s.chanOn n c
  let old := s.chanSrc n c
  let changed := decide (s.reg (CORE_CHCFG.at n c) ≠ s.reg (CORE_CHCFG.at n c + 0x800))
  if ¬ changed then s
  else
    let s := if was then (s.flushChan n c).sendCredit n old c 0 else s
    let s := s.apply1 CORE_CHCFG n c
    let s := if s.chanOn n c ∧ s.chanSrc n c = old then s else (s.modChan n c (fun ch => { ch with arr := [] })).noteChan n c
    if s.chanOn n c then
      (s.modChan n c (fun ch => { ch with wr := 0, out := 0, ready := [] })).sendCredit n (s.chanSrc n c) c (s.chanSlots n c)
    else s

/-! ### Writes of hub blocks into core stores (R150, R175, R389) -/

/-- The marker that an acknowledged write of a hub block increases, if it does. -/
def State.addAfter (s : State) (mrk : Option Nat) : State :=
  match mrk with
  | some k => s.blockAdd 34 k 1
  | none => s

/-- A hub block writes bytes into the store of core `n`, in a class, and increases a marker once they are acknowledged; while the way retrains, or an
earlier packet of the class is on its way there, the packet waits (R18, R225). -/
def State.hubPut (s : State) (n cls a : Nat) (bs : List Nat) (mrk : Option Nat := none) : State :=
  if s.sendBehind 34 n cls s.mesh.num then s.putStray 34 n cls (.write a bs mrk) else (s.putData n a bs).addAfter mrk

/-- What the hub has written to core `n` in a class cannot be acknowledged yet. -/
def State.hubUnacked (s : State) (n cls : Nat) : Bool :=
  s.held 34 n || s.mesh.stray.any (fun x => decide (x.src = 34 ∧ x.dst = n ∧ x.cls = cls))

/-! ### Purl links (R24, R225) -/

/-- The journal names a Purl link by the link number of its CD0-to-CD1, or hub-to-die, direction (Table 9.2). -/
def purlLink (l : Nat) : Nat := if l < 4 then 64 + 8 * l + 3 else if l = 4 then 192 else 194

/-- A link retrains. -/
def State.retrain (s : State) (l : Nat) : State :=
  ((s.setFld PURL_STAT_STATE 1 l).count PURL_CNT_RETRAIN 1 l).meshReport 1 4 (purlLink l)

/-- PURL_CRC_FAIL (R24, R225): a frame of link `l` fails its CRC and is replayed. -/
def execPurlCrcFail (l : Nat) (s : State) : Out :=
  onUnit l 6 <|
    if s.fld PURL_STAT_STATE l = 2 then
      let n := (look s.mesh.replays l).getD 0 + 1
      let s := (s.count PURL_CNT_REPLAY 1 l).modMesh (fun m => { m with replays := bind m.replays l n })
      if s.live PURL_CFG_RPTHR < n then .next ((s.meshReport 0 4 (purlLink l)).retrain l) else .next s
    else .next s

/-- REJ_CAUSE of the staged MESH and PURL set. -/
def State.meshReject (s : State) : Nat :=
  if s.fld PURL_CFG_RPTHR = 0 then 1 else if s.fld PURL_CFG_RTMAX = 0 then 2 else 0

/-- The set of MESH and PURL takes effect or is rejected at stitch 0. -/
def State.applyMesh (s : State) : State :=
  let s := s.setFld MESH_CTRL_COMMIT 0
  let rej := s.meshReject
  if rej ≠ 0 then (s.setFld MESH_STATUS_REJ_CAUSE rej).meshReport 6 3 0
  else (s.apply1 PURL_CFG 0 0).meshReport 7 1 0

end Sys2Proof.Machine
end

