-- ==== Sys2Proof/Machine/Matrix.lean ====
section
/-! DEFINITION. Machine/Matrix.lean: the arrays, the vector path and the output stage of a core (chapters 11 and 12): descriptors,
folds, ordering on the accumulator file, arithmetic, status words. -/

namespace Sys2Proof.Machine
open Sys2Proof Sys2Proof.Machine.Reg

/-! ### The three unit queues (R235, R270, R279, R294) -/

/-- Unit 0 is the arrays, 1 the vector path, 2 the output stage. -/
def Core.unit (c : Core) (u : Nat) : UnitQ := if u = 0 then c.mtx else if u = 1 then c.vp else c.out
def Core.setUnit (c : Core) (u : Nat) (q : UnitQ) : Core :=
  if u = 0 then { c with mtx := q } else if u = 1 then { c with vp := q } else { c with out := q }

/-- The status word of a unit (Tables 11.9 and 12.6). -/
def UnitQ.status (q : UnitQ) : Nat :=
  (if q.q.any (·.started) then 1 else 0) + 2 * q.q.length + (if q.stick1 then 16 else 0) + (if q.stick2 then 32 else 0)
    + 65536 * (q.done % 65536)

/-- Kinds of queued operation. -/
def opLoad : Nat := 0
def opRun : Nat := 1
def opVrun : Nat := 2
def opCfg : Nat := 3
def opDrain : Nat := 4

/-! ### Descriptors -/

/-- Table 11.2, with the weight load that binds B (Table 11.1), and the operation's place in issue order. -/
structure Tile where
  mode : Nat
  pack : Nat
  split : Nat
  accum : Bool
  batch : Nat
  m : Nat
  n : Nat
  k : Nat
  acc : Nat
  a : Nat
  apitch : Nat
  cpitch : Nat
  astride : Nat
  cstride : Nat
  fmt : Nat
  b : Nat
  bpitch : Nat
  kb : Nat
  nb : Nat
  bstride : Nat
  ord : Nat := 0
  deriving DecidableEq, Repr

def parseTile (d w : List Nat) : Tile :=
  let c := fieldLE d 0 4
  { mode := nbits c 0 2, pack := nbits c 2 2, split := nbits c 4 2, accum := decide (nbits c 6 1 = 1), batch := nbits c 8 8 + 1,
    m := fieldLE d 4 2, n := fieldLE d 6 2, k := fieldLE d 8 2, acc := fieldLE d 10 2, a := fieldLE d 12 4, apitch := fieldLE d 16 2,
    cpitch := fieldLE d 18 2, astride := fieldLE d 20 4, cstride := fieldLE d 24 2,
    fmt := nbits (fieldLE w 0 4) 0 2, b := fieldLE w 4 4, bpitch := fieldLE w 8 2, kb := fieldLE w 10 2, nb := fieldLE w 12 2,
    bstride := fieldLE w 16 4 }

/-- The weight-load descriptor has a reserved bit set or a count out of range (Table 11.1). -/
def loadBad (d : List Nat) : Bool :=
  decide (fieldLE d 0 4 / 4 ≠ 0 ∨ fieldLE d 14 2 ≠ 0 ∨ fieldLE d 20 12 ≠ 0)
    || decide (¬ (1 ≤ fieldLE d 10 2 ∧ fieldLE d 10 2 ≤ 1024 ∧ 1 ≤ fieldLE d 12 2 ∧ fieldLE d 12 2 ≤ 1024))

/-- MRUN raises DESC (R262, R263); `w` is the last weight load issued, empty if there is none. -/
def runBad (d w : List Nat) : Bool :=
  let t := parseTile d w
  let c := fieldLE d 0 4
  let e := fmtSize t.fmt
  decide (w = [])
    || decide (nbits c 7 1 ≠ 0 ∨ c / 65536 ≠ 0 ∨ fieldLE d 26 6 ≠ 0 ∨ t.mode = 3 ∨ t.pack = 3)
    || decide (t.split = 0 ∨ (1 < t.split ∧ t.fmt ≠ 3) ∨ (t.pack ≠ 0 ∧ t.mode = 1))
    || decide (t.m = 0 ∨ 1024 < t.m ∨ t.n = 0 ∨ 1024 < t.n ∨ t.k = 0 ∨ 1024 < t.k ∨ t.kb < t.k ∨ t.nb < t.n)
    || decide (t.a % 8 ≠ 0 ∨ t.apitch % 8 ≠ 0 ∨ t.astride % 8 ≠ 0 ∨ t.b % 8 ≠ 0 ∨ t.bpitch % 8 ≠ 0 ∨ t.bstride % 8 ≠ 0
      ∨ t.cstride % 8 ≠ 0)
    || decide (0x100000 < t.a + (t.batch - 1) * t.astride + (t.m - 1) * t.apitch + t.k * e)
    || decide (0x100000 < t.b + (t.batch - 1) * t.bstride + (t.kb - 1) * t.bpitch + t.nb * e)
    || decide (t.cpitch < t.n ∨ 65536 < t.acc + (t.batch - 1) * t.cstride + (t.m - 1) * t.cpitch + t.n)

/-- Table 11.7, with the operation's place in issue order. -/
structure Vrun where
  fmt : Nat
  rows : Nat
  accum : Bool
  x : Nat
  xpitch : Nat
  w : Nat
  wpitch : Nat
  k : Nat
  n : Nat
  acc : Nat
  cpitch : Nat
  ord : Nat := 0
  deriving DecidableEq, Repr

def parseVrun (d : List Nat) : Vrun :=
  let c := fieldLE d 0 4
  { fmt := nbits c 0 2, rows := nbits c 2 2 + 1, accum := decide (nbits c 4 1 = 1), x := fieldLE d 4 4, xpitch := fieldLE d 8 2,
    w := fieldLE d 12 4, wpitch := fieldLE d 16 2, k := fieldLE d 18 2, n := fieldLE d 20 2, acc := fieldLE d 22 2,
    cpitch := fieldLE d 24 2 }

/-- VRUN raises DESC (R276). -/
def vrunBad (d : List Nat) : Bool :=
  let v := parseVrun d
  let e := fmtSize v.fmt
  decide (fieldLE d 0 4 / 32 ≠ 0 ∨ fieldLE d 10 2 ≠ 0 ∨ fieldLE d 26 6 ≠ 0 ∨ v.fmt = 3)
    || decide (v.x % 8 ≠ 0 ∨ v.xpitch % 8 ≠ 0 ∨ v.w % 8 ≠ 0 ∨ v.wpitch % 8 ≠ 0)
    || decide (v.k = 0 ∨ 4096 < v.k ∨ v.n = 0 ∨ 4096 < v.n)
    || decide (0x100000 < v.x + (v.rows - 1) * v.xpitch + v.k * e ∨ 0x100000 < v.w + (v.k - 1) * v.wpitch + v.n * e)
    || decide (v.cpitch < v.n ∨ 65536 < v.acc + (v.rows - 1) * v.cpitch + v.n)

/-- Fields of an OCFG descriptor (Table 12.4). -/
def cfgFmt (d : List Nat) : Nat := nbits (fieldLE d 0 4) 0 2
def cfgMode (d : List Nat) : Nat := nbits (fieldLE d 0 4) 2 2
def cfgInt (d : List Nat) : Bool := nbits (fieldLE d 0 4) 4 1 = 1
def cfgUniform (d : List Nat) : Bool := nbits (fieldLE d 0 4) 5 1 = 1
def cfgCols (d : List Nat) : Nat := if cfgUniform d then 1 else fieldLE d 12 2

/-- OCFG raises DESC (R288). -/
def cfgBad (d : List Nat) : Bool :=
  let lo := of32 (fieldLE d 16 4)
  let hi := of32 (fieldLE d 20 4)
  decide (fieldLE d 0 4 / 64 ≠ 0 ∨ fieldLE d 14 2 ≠ 0 ∨ fieldLE d 24 8 ≠ 0 ∨ cfgMode d = 3)
    || decide (fieldLE d 4 4 % 8 ≠ 0 ∨ fieldLE d 8 4 % 8 ≠ 0 ∨ fieldLE d 12 2 = 0 ∨ 4096 < fieldLE d 12 2)
    || decide (0x100000 < fieldLE d 4 4 + 4 * cfgCols d ∨ 0x100000 < fieldLE d 8 4 + 4 * cfgCols d)
    || lo.isNan || hi.isNan || hi.lt lo

/-- Table 12.5. -/
structure Drain where
  salt : Nat
  m : Nat
  n : Nat
  acc : Nat
  cpitch : Nat
  col0 : Nat
  dst : Nat
  dpitch : Nat
  deriving DecidableEq, Repr

def parseDrain (d : List Nat) : Drain :=
  { salt := fieldLE d 0 2, m := fieldLE d 4 2, n := fieldLE d 6 2, acc := fieldLE d 8 2, cpitch := fieldLE d 10 2,
    col0 := fieldLE d 12 2, dst := fieldLE d 16 4, dpitch := fieldLE d 20 4 }

/-- ORUN raises DESC (R289); `g` is the last OCFG issued, empty if there is none. -/
def drainBad (d g : List Nat) : Bool :=
  let o := parseDrain d
  let e := fmtSize (cfgFmt g)
  decide (g = []) || decide (fieldLE d 2 2 ≠ 0 ∨ fieldLE d 14 2 ≠ 0 ∨ fieldLE d 24 8 ≠ 0)
    || decide (o.m = 0 ∨ o.n = 0 ∨ 4096 < o.n ∨ o.cpitch < o.n ∨ 65536 < o.acc + (o.m - 1) * o.cpitch + o.n)
    || (!(cfgUniform g) && decide (fieldLE g 12 2 < o.col0 + o.n))
    || decide (o.dst % 8 ≠ 0 ∨ o.dpitch % 8 ≠ 0 ∨ o.dpitch < o.n * e ∨ 0x100000 < o.dst + (o.m - 1) * o.dpitch + o.n * e)

/-! ### Ordering on the accumulator file (R270) -/

/-- The entry interval of an operation, its lowest and the one past its highest entry, and whether it writes. -/
def QOp.span (o : QOp) : Option (Nat × Nat × Bool) :=
  if o.kind = opRun then
    let t := parseTile o.d o.bound
    some (t.acc, t.acc + (t.batch - 1) * t.cstride + (t.m - 1) * t.cpitch + t.n, true)
  else if o.kind = opVrun then
    let v := parseVrun o.d
    some (v.acc, v.acc + (v.rows - 1) * v.cpitch + v.n, true)
  else if o.kind = opDrain then
    let v := parseDrain o.d
    some (v.acc, v.acc + (v.m - 1) * v.cpitch + v.n, false)
  else none

/-- Operation `o` must wait for the earlier operation `p`. -/
def QOp.waitsFor (o p : QOp) : Bool :=
  decide (p.ord < o.ord) && (match o.span, p.span with
    | some (a, b, w), some (c, d, x) => decide (a < d ∧ c < b) && (w || x)
    | _, _ => false)

/-- The head of unit `u`'s queue, if it may leave the queue now. -/
def Core.ready (c : Core) (u : Nat) : Option QOp :=
  match (c.unit u).q with
  | [] => none
  | o :: _ => if o.started || (c.mtx.q ++ c.vp.q ++ c.out.q).any (fun p => o.waitsFor p) then none else some o

/-- The head of unit `u`'s queue, if it runs. -/
def Core.runs (c : Core) (u : Nat) : Option QOp :=
  match (c.unit u).q with
  | [] => none
  | o :: _ => if o.started then some o else none

/-! ### Folding (R266 to R269, Table 11.4) -/

def ceilDiv (a b : Nat) : Nat := (a + b - 1) / b
/-- Piece pairs of the tile: p of R264. -/
def Tile.pairs (t : Tile) : List (Nat × Nat) := splitPairs t.split
/-- Columns of one block. -/
def Tile.width (t : Tile) : Nat :=
  if t.pack = 1 then 8 else if t.pack = 2 then 4 else if t.mode = 0 then 64 else if t.mode = 1 then 32 else 16
/-- Sub-arrays under PACK. -/
def Tile.subs (t : Tile) : Nat := if t.pack = 1 then 8 else 16
/-- Streamed length S. -/
def Tile.streamed (t : Tile) : Nat := if t.mode = 0 then t.m else if t.mode = 1 then ceilDiv t.m 2 else t.k
def Tile.passes (t : Tile) : Nat :=
  let p := t.pairs.length
  let nb := ceilDiv t.n t.width
  if t.mode = 2 then
    (if t.pack = 0 then ceilDiv (ceilDiv t.m 32 * nb * p) 4 else ceilDiv t.m 32 * nb * p)
  else nb * ceilDiv t.k 32 * p
def Tile.rounds (t : Tile) : Nat := if t.pack = 0 then t.batch else ceilDiv t.batch t.subs
def Tile.ideal (t : Tile) : Nat := 96 + t.rounds * t.passes * max (t.streamed + 1) 32

/-- The fold is published (R269). -/
def State.publish (s : State) (n : Nat) (t : Tile) : State :=
  let f := t.mode + 4 * t.pack + 16 * t.split + (if t.accum then 64 else 0) + 256 * t.streamed
  ((s.setRegN CORE_MTXFOLD f n).setRegN CORE_MTXPASS (t.passes % 65536 + 65536 * (t.rounds - 1)) n).setRegN CORE_MTXIDEAL t.ideal n

/-- The tile of an MRUN, and the operation of a VRUN. -/
def QOp.tile (o : QOp) : Tile := { parseTile o.d o.bound with ord := o.ord }
def QOp.vrun (o : QOp) : Vrun := { parseVrun o.d with ord := o.ord }

/-- The head operation of unit `u` leaves its queue. -/
def State.startOp (s : State) (n u : Nat) : State :=
  match (s.core n).ready u with
  | none => s
  | some o =>
    let s := s.modCore n (fun c =>
      let q := c.unit u
      c.setUnit u { q with q := { o with started := true } :: q.q.tail })
    if o.kind = opRun then s.publish n (parseTile o.d o.bound) else s

/-! ### Operand elements -/

/-- Code of A[m][k] of member `b`, and of B[k][n]. -/
def State.tileA (s : State) (c : Nat) (t : Tile) (b m k : Nat) : Nat :=
  let e := fmtSize t.fmt
  s.opLE c t.ord (t.a + b * t.astride + m * t.apitch + k * e) e
def State.tileB (s : State) (c : Nat) (t : Tile) (b k n : Nat) : Nat :=
  let e := fmtSize t.fmt
  s.opLE c t.ord (t.b + b * t.bstride + k * t.bpitch + n * e) e

/-- The number that piece `i` of an operand code feeds to the cells. -/
def feed (fmt i code : Nat) : Num := if fmt = 3 then piece code i else ofFmt fmt code

/-- One pass's partial sum of products, float: ascending k from `lo` (R264). -/
def sumF (f : Nat → Num) (lo : Nat) : Nat → Nat → Nat
  | 0, acc => acc
  | n + 1, acc => sumF f (lo + 1) n (acc32 acc (f lo))
/-- The same for I8, exact. -/
def sumI (f : Nat → Int) (lo : Nat) : Nat → Int → Int
  | 0, acc => acc
  | n + 1, acc => sumI f (lo + 1) n (acc + f lo)

/-- A pass's result `v` (FP32 bits, or the exact integer) meets the ACC value: written on a first pass without ACCUM, otherwise one
addition; an integer addition whose exact sum leaves 32 bits wraps (R264). -/
def intoF (write : Bool) (old v : Nat) : Nat := if write then v else ((of32 old).add (of32 v)).to32
def intoI (write : Bool) (old : Nat) (v : Int) : Nat × Bool :=
  let x := if write then v else sInt 32 old + v
  (uInt 32 x, decide (x < -2147483648 ∨ 2147483647 < x))

/-- The passes that reach one result element, in fold order: piece pair, first k, number of k's, and the place of the pass in its round
(R268). -/
def Tile.elemPasses (t : Tile) (m n : Nat) : List ((Nat × Nat) × Nat × Nat × Nat) :=
  let nb := n / t.width
  let np := t.pairs.length
  let kbs := ceilDiv t.k 32
  ((List.range np).zip t.pairs).flatMap (fun (i, p) =>
    if t.mode = 2 then
      let item := ((m / 32) * ceilDiv t.n t.width + nb) * np + i
      [(p, 0, t.k, if t.pack = 0 then item / 4 else item)]
    else (List.range kbs).map (fun kb => (p, 32 * kb, min 32 (t.k - 32 * kb), (nb * np + i) * kbs + kb)))

/-- The round that member `b` belongs to. -/
def Tile.roundOf (t : Tile) (b : Nat) : Nat := if t.pack = 0 then b else b / t.subs

/-- The new ACC value of element (m, n) of member `b` after the operation's first `lim` passes, and whether an integer sum wrapped. -/
def State.tileElem (s : State) (c : Nat) (t : Tile) (lim b m n old : Nat) : Nat × Bool :=
  let r := ((t.elemPasses m n).filter (fun p => decide (t.roundOf b * t.passes + p.2.2.2 < lim))).foldl (fun (x : Nat × Bool × Bool) p =>
    let write := x.2.2 && !t.accum
    if t.fmt = 2 then
      let v := sumI (fun k => sInt 8 (s.tileA c t b m k) * sInt 8 (s.tileB c t b k n)) p.2.1 p.2.2.1 0
      let (y, o) := intoI write x.1 v
      (y, x.2.1 || o, false)
    else
      let v := sumF (fun k => (feed t.fmt p.1.1 (s.tileA c t b m k)).mul (feed t.fmt p.1.2 (s.tileB c t b k n))) p.2.1 p.2.2.1 0
      (intoF write x.1 v, x.2.1, false)) (old, false, true)
  (r.1, r.2.1)

/-- Entry of element (m, n) of member `b`. -/
def Tile.entry (t : Tile) (b m n : Nat) : Nat := t.acc + b * t.cstride + m * t.cpitch + n

/-- One member's results enter ACC. -/
def State.tileMember (s : State) (c : Nat) (t : Tile) (lim b : Nat) : State × Bool :=
  (List.range t.m).foldl (fun x m => (List.range t.n).foldl (fun (x : State × Bool) n =>
    let e := t.entry b m n
    let (v, o) := x.1.tileElem c t lim b m n (x.1.accGet c e)
    (x.1.accSet c e v, x.2 || o)) x) (s, false)

/-- Entries that two members of one round write: they run together, and the spec does not say in which order (R267). -/
def Tile.shared (t : Tile) (bs : List Nat) : List Nat :=
  if t.pack = 0 ∨ t.batch ≤ 1 ∨ (t.m - 1) * t.cpitch + t.n ≤ t.cstride then []
  else
    let all := bs.flatMap (fun b => (List.range t.m).flatMap (fun m => (List.range t.n).map (fun n => t.entry b m n)))
    (all.filter (fun e => decide (1 < all.count e))).eraseDups

/-- The members of round `r`. -/
def Tile.members (t : Tile) (r : Nat) : List Nat :=
  if t.pack = 0 then [r] else (List.range t.subs).filterMap (fun i => if r * t.subs + i < t.batch then some (r * t.subs + i) else none)

/-- What is known of a shared entry: the descriptor, the value before the round, and what each member alone would write. -/
def State.sharedKey (s : State) (c : Nat) (t : Tile) (lim : Nat) (bs : List Nat) (e : Nat) : List Nat :=
  [t.mode, t.pack, t.split, if t.accum then 1 else 0, t.batch, t.m, t.n, t.k, t.acc, t.cpitch, t.cstride, t.fmt, e, s.accGet c e]
    ++ bs.flatMap (fun b => (List.range t.m).flatMap (fun m => (List.range t.n).filterMap (fun n =>
      if t.entry b m n = e then some (s.tileElem c t lim b m n (s.accGet c e)).1 else none)))

/-- One round's results. -/
def State.tileRound (s : State) (c : Nat) (t : Tile) (lim r : Nat) : State × Bool :=
  let bs := t.members r
  let x := bs.foldl (fun (x : State × Bool) b =>
    let (s, o) := x.1.tileMember c t lim b
    (s, x.2 || o)) (s, false)
  ((t.shared bs).foldl (fun s' e => s'.accSet c e (Config.sharedEntry (s.sharedKey c t lim bs e)).toNat) x.1, x.2)

/-! ### Skipped checks (R274) -/

/-- A number's magnitude is below 2 to this power; −149 for a zero. -/
def Num.expo : Num → Int
  | .fin _ m e => if m = 0 then -149 else (bitLen m : Int) + e
  | _ => -149
def maxExpo (l : List Num) : Int := l.foldl (fun a x => max a x.expo) (-149)

/-- One pass: the (member, first row, rows, first column, columns, piece pair, first k, ks) it streams. -/
abbrev PassIn := Nat × Nat × Nat × Nat × Nat × (Nat × Nat) × Nat × Nat

/-- The passes of round `r` (R268), each with all its parts. -/
def Tile.passList (t : Tile) (r : Nat) : List (List PassIn) :=
  let w := t.width
  let nbs := (List.range (ceilDiv t.n w)).map (fun i => (w * i, min w (t.n - w * i)))
  let mbs := if t.mode = 2 then (List.range (ceilDiv t.m 32)).map (fun i => (32 * i, min 32 (t.m - 32 * i))) else [(0, t.m)]
  let kbs := if t.mode = 2 then [(0, t.k)] else (List.range (ceilDiv t.k 32)).map (fun i => (32 * i, min 32 (t.k - 32 * i)))
  let items := mbs.flatMap (fun mb => nbs.flatMap (fun nb => t.pairs.flatMap (fun p => kbs.map (fun kb => (mb, nb, p, kb)))))
  let full := items.map (fun (mb, nb, p, kb) => (t.members r).map (fun b => (b, mb.1, mb.2, nb.1, nb.2, p, kb.1, kb.2)))
  if t.mode = 2 ∧ t.pack = 0 then
    (List.range (ceilDiv full.length 4)).map (fun i => ((full.drop (4 * i)).take 4).flatten)
  else full

/-- The operand elements of a part of a pass. -/
def State.passNums (s : State) (c : Nat) (t : Tile) (x : PassIn) : List Num × List Num :=
  let (b, m0, ml, n0, nl, p, k0, kl) := x
  let ks := (List.range kl).map (· + k0)
  (ks.flatMap (fun k => (List.range ml).map (fun m => feed t.fmt p.1 (s.tileA c t b (m0 + m) k))),
   ks.flatMap (fun k => (List.range nl).map (fun n => feed t.fmt p.2 (s.tileB c t b k (n0 + n)))))

/-- The arrays and sub-arrays that hold a part of the logical shape in a pass, each with its part (R266, R267): in array, sub-array order. -/
def Tile.blocks (t : Tile) (parts : List PassIn) : List ((Nat × Nat) × PassIn) :=
  let slice := fun (x : PassIn) (j w : Nat) =>
    let (b, m0, ml, n0, nl, q) := x
    (b, m0, ml, n0 + w * j, min w (nl - w * j), q)
  let rows := fun (x : PassIn) (lo len : Nat) =>
    let (b, m0, _, q) := x
    (b, m0 + lo, len, q)
  if t.pack ≠ 0 then parts.map (fun x =>
    let i := x.1 % t.subs
    ((i / (t.subs / 4), i % (t.subs / 4)), x))
  else if t.mode = 2 then ((List.range parts.length).zip parts).map (fun p => ((p.1, 0), p.2))
  else
    let h := ceilDiv t.m 2
    let l := parts.flatMap (fun x => (List.range 4).map (fun a =>
      ((a, 0), if t.mode = 0 then slice x a 16 else slice (if a < 2 then rows x 0 h else rows x h (t.m - h)) (a % 2) 16)))
    l.filter (fun p => decide (0 < p.2.2.2.1 ∧ 0 < p.2.2.2.2.2.1))

/-- Checks of one array or sub-array in a pass: the row check and the column check, under PACK the column check alone (Table 11.5). -/
def Tile.checks (t : Tile) : Nat := if t.pack = 0 then 2 else 1

/-- The largest exponent bound of the products and partial sums of one output, in ascending k. -/
def expoSum (f : Nat → Num) (lo : Nat) : Nat → Nat → Int → Int
  | 0, _, e => e
  | n + 1, acc, e =>
    let a := acc32 acc (f lo)
    expoSum f (lo + 1) n a (max e (max (f lo).expo (of32 a).expo))

/-- A check of finite operands is skipped (R274). E is at least what the sums of its outputs and the elements it sums reach; where their
magnitudes leave no room for an exponent of 127, it is below; between the two the answer is free, for each check on its own, since the order in
which the checksum terms are summed is not given. `own` are the elements that the check sums, `reach` bounds the exponents met for certain, `terms`
the additions of a check. -/
def skipped (a b own : List Num) (reach : Int) (terms free i : Nat) : Bool :=
  decide (128 ≤ reach) || (decide (126 < max (maxExpo own) (maxExpo a + maxExpo b) + (bitLen terms : Int) + 1) && decide (Config.pick free i % 2 = 1))

/-- The result of element (m, n) of a part of a pass: the partial sum of its products, as FP32 bits or a 32-bit integer. -/
def State.partSum (s : State) (c : Nat) (t : Tile) (x : PassIn) (m n : Nat) : Nat :=
  let (b, m0, _, n0, _, p, k0, kl) := x
  if t.fmt = 2 then uInt 32 (sumI (fun k => sInt 8 (s.tileA c t b (m0 + m) k) * sInt 8 (s.tileB c t b k (n0 + n))) k0 kl 0)
  else sumF (fun k => (feed t.fmt p.1 (s.tileA c t b (m0 + m) k)).mul (feed t.fmt p.2 (s.tileB c t b k (n0 + n)))) k0 kl 0

/-- What a part of a pass reaches in its row check, or in its column check: its outputs' sums, and the elements whose sums feed the check (B for
the checksum column, A for the checksum row). -/
def State.blockReach (s : State) (c : Nat) (t : Tile) (x : PassIn) (col : Bool) : Int :=
  let (b, m0, ml, n0, nl, p, k0, kl) := x
  let (na, nb) := s.passNums c t x
  (List.range ml).foldl (fun e m => (List.range nl).foldl (fun e n =>
    expoSum (fun k => (feed t.fmt p.1 (s.tileA c t b (m0 + m) k)).mul (feed t.fmt p.2 (s.tileB c t b k (n0 + n)))) k0 kl 0 e) e) (maxExpo (if col then na else nb))

/-- Every input element of a pass is finite. -/
def State.passFinite (s : State) (c : Nat) (t : Tile) (parts : List PassIn) : Bool :=
  parts.all (fun x =>
    let (a, b) := s.passNums c t x
    (a ++ b).all Num.isFin)

/-- Checks that pass `i` skips: all of them when an input is a NaN or an infinity. -/
def State.passSkips (s : State) (c : Nat) (t : Tile) (i : Nat) (parts : List PassIn) : Nat :=
  let bl := t.blocks parts
  let cols := if t.pack = 0 then [false, true] else [true]
  if t.fmt = 2 then 0
  else if !(s.passFinite c t parts) then bl.length * t.checks
  else (bl.flatMap (fun p => cols.filter (fun col =>
    let (a, b) := s.passNums c t p.2
    skipped a b (if col then a else b) (s.blockReach c t p.2 col) ((16 + t.streamed) * (t.k + 32)) s.free
      (32 * i + 8 * p.1.1 + 2 * p.1.2 + (if col then 1 else 0))))).length

/-- The operation's passes in order. -/
def Tile.allPasses (t : Tile) : List (List PassIn) := (List.range t.rounds).flatMap (fun r => t.passList r)

/-- Checks that the first `lim` passes of an MRUN skip. -/
def State.tileSkips (s : State) (c : Nat) (t : Tile) (lim : Nat) : Nat :=
  (((List.range lim).zip t.allPasses).map (fun x => s.passSkips c t x.1 x.2)).foldl (· + ·) 0

/-! ### The cells (R260) -/

/-- The sum of a list of FP32 codes or 32-bit integers in this order. -/
def Tile.total (t : Tile) (l : List Nat) : Nat :=
  if t.fmt = 2 then l.foldl (fun a x => (a + x) % 2 ^ 32) 0 else l.foldl (fun a x => acc32 a (of32 x)) 0

/-- What one array's cells hold once a part of a pass has run: rows 0–31 and columns from `c0` the stationary block (R266), B's elements in the WS
modes and the result in OS; under no PACK the checksum column, and the checksum row (Table 11.5). Where the order of a float sum is not given
the value is free (`f`). -/
def State.partCells (s : State) (c : Nat) (t : Tile) (c0 f : Nat) (x : PassIn) : List ((Nat × Nat) × Nat) :=
  let (b, _, ml, n0, nl, p, k0, kl) := x
  let os := decide (t.mode = 2)
  let out := fun m n => s.partSum c t x m n
  let elem := fun k n => let w := s.tileB c t b (k0 + k) (n0 + n)
    if t.fmt = 2 then uInt 32 (sInt 8 w) else (feed t.fmt p.2 w).to32
  let free := fun (i : Nat) (l : List Nat) => if t.fmt = 2 then t.total l else (Config.freeWord (f + i)).toNat
  let ms := List.range ml
  let ns := List.range nl
  let rows := if os then ml else kl
  let cell := fun k n => if os then out k n else elem k n
  let col16 := if t.pack ≠ 0 then [] else (List.range rows).map (fun k => ((k, 16), free k (ns.map (cell k))))
  let row32 := ns.map (fun n => ((32, c0 + n), if os then free (32 + n) (ms.map (fun m => out m n)) else t.total (ms.map (fun m => out m n))))
  let corner := if t.pack ≠ 0 then [] else [((32, 16), free 48 (ms.flatMap (fun m => ns.map (out m))))]
  (List.range rows).flatMap (fun k => ns.map (fun n => ((k, c0 + n), cell k n))) ++ col16 ++ row32 ++ corner

/-- The cells of the four arrays, by (33 · array + row) · 17 + column, those that hold zero left out: what the last pass that ran left. The shadow
registers hold what was loaded or drained through them, the same block (log 60). -/
def State.cellsOf (s : State) (c : Nat) (t : Tile) (parts : List PassIn) : List (Nat × Nat) :=
  let l := (t.blocks parts).flatMap (fun q => (s.partCells c t (q.1.2 * t.width % 16) (s.free + 64 * (4 * q.1.1 + q.1.2)) q.2).map (fun y =>
    ((33 * q.1.1 + y.1.1) * 17 + y.1.2, y.2)))
  (List.range 2244).filterMap (fun i => (look l i).bind (fun v => if v = 0 then none else some (i, v)))

/-- Skipped checks and wrapped sums are counted (CORE_MTXCNT) and make the sticky bits of unit `u`. -/
def State.noteOp (s : State) (n u sk : Nat) (ovf : Bool) : State :=
  let s := s.count CORE_MTXCNT_SKIP sk n
  let s := if ovf then s.count CORE_MTXCNT_IOVF 1 n else s
  s.modCore n (fun c =>
    let q := c.unit u
    c.setUnit u { q with stick1 := q.stick1 || ovf, stick2 := q.stick2 || decide (0 < sk) })

/-- The running operation of unit `u` leaves it, and is counted. -/
def State.retireOp (s : State) (n u : Nat) : State :=
  let s := s.modCore n (fun c =>
    let q := c.unit u
    c.setUnit u { q with q := q.q.tail, done := (q.done + 1) % 65536 })
  (s.draw).forgetOld n

/-! ### MRUN, VRUN -/

/-- What the first `lim` passes of an MRUN leave (R263 to R268): all of them, or those before one that fails its check (R275). -/
def State.runTile (s : State) (n : Nat) (t : Tile) (lim : Nat) : State :=
  let sk := s.tileSkips n t lim
  let x := (List.range (min t.rounds (ceilDiv lim t.passes))).foldl (fun (x : State × Bool) r =>
    let (s, o) := x.1.tileRound n t lim r
    (s, x.2 || o)) (s, false)
  let cells := match t.allPasses[min lim (t.rounds * t.passes - 1)]? with
    | some parts => s.cellsOf n t parts
    | none => (s.core n).cells
  (x.1.modCore n (fun c => { c with cells := cells })).noteOp n 0 sk x.2

/-- Columns the VP takes per cycle (R277). -/
def Vrun.cols (v : Vrun) : Nat := if v.fmt ≠ 0 ∧ v.rows ≤ 2 then 128 else 64

def State.vpX (s : State) (c : Nat) (v : Vrun) (m k : Nat) : Nat := s.opLE c v.ord (v.x + m * v.xpitch + k * fmtSize v.fmt) (fmtSize v.fmt)
def State.vpW (s : State) (c : Nat) (v : Vrun) (k n : Nat) : Nat := s.opLE c v.ord (v.w + k * v.wpitch + n * fmtSize v.fmt) (fmtSize v.fmt)

/-- Column blocks of a VRUN. -/
def Vrun.blocks (v : Vrun) : Nat := ceilDiv v.n v.cols

/-- The numbers that column block `i` takes in: X, and its columns of W. -/
def State.vpNums (s : State) (c : Nat) (v : Vrun) (i : Nat) : List Num × List Num :=
  ((List.range v.rows).flatMap (fun m => (List.range v.k).map (fun k => ofFmt v.fmt (s.vpX c v m k))),
   (List.range (min v.cols (v.n - v.cols * i))).flatMap (fun n => (List.range v.k).map (fun k => ofFmt v.fmt (s.vpW c v k (v.cols * i + n)))))

/-- Every number of column block `i` is finite. -/
def State.vpFinite (s : State) (c : Nat) (v : Vrun) (i : Nat) : Bool :=
  let (a, b) := s.vpNums c v i
  (a ++ b).all Num.isFin

/-- What row `m` of column block `i` reaches in its check: the sums of its outputs, and the weights, which `s[k]` sums. -/
def State.vpReach (s : State) (c : Nat) (v : Vrun) (i m : Nat) : Int :=
  (List.range (min v.cols (v.n - v.cols * i))).foldl (fun e j =>
    expoSum (fun k => (ofFmt v.fmt (s.vpX c v m k)).mul (ofFmt v.fmt (s.vpW c v k (v.cols * i + j)))) 0 v.k 0 e) (maxExpo (s.vpNums c v i).2)

/-- Checks that the first `lim` column blocks of a VRUN skip: one for each block and row (R277). -/
def State.vpSkips (s : State) (c : Nat) (v : Vrun) (lim : Nat) : Nat :=
  if v.fmt = 2 then 0
  else
    ((List.range (min lim v.blocks)).map (fun i =>
      let (a, b) := s.vpNums c v i
      if !(s.vpFinite c v i) then v.rows
      else ((List.range v.rows).filter (fun m => skipped a b b (s.vpReach c v i m) (v.cols * v.k) s.free (4 * i + m))).length)).foldl (· + ·) 0

/-- What the first `lim` column blocks of a VRUN leave (R276, R277). -/
def State.runVp (s : State) (n : Nat) (v : Vrun) (lim : Nat) : State :=
  let sk := s.vpSkips n v lim
  let x := (List.range v.rows).foldl (fun x m => (List.range (min v.n (v.cols * lim))).foldl (fun (x : State × Bool) j =>
    let e := v.acc + m * v.cpitch + j
    let s := x.1
    let old := s.accGet n e
    if v.fmt = 2 then
      let y := sumI (fun k => sInt 8 (s.vpX n v m k) * sInt 8 (s.vpW n v k j)) 0 v.k 0
      let (z, o) := intoI (!v.accum) old y
      (s.accSet n e z, x.2 || o)
    else
      let y := sumF (fun k => (ofFmt v.fmt (s.vpX n v m k)).mul (ofFmt v.fmt (s.vpW n v k j))) 0 v.k 0
      (s.accSet n e (intoF (!v.accum) old y), x.2)) x) (s, false)
  x.1.noteOp n 1 sk x.2

/-! ### The output stage (R288 to R292) -/

/-- The setting of OCFG `o`, copied from the core store, behind the writes of the ORUNs before it (R292). -/
def State.loadCfg (s : State) (n o : Nat) (d : List Nat) : State :=
  let vec := fun a => (List.range (cfgCols d)).map (fun i => s.opLE n o (a + 4 * i) 4 true)
  s.modCore n (fun c => { c with cfg := { d := d, scale := vec (fieldLE d 4 4), bias := vec (fieldLE d 8 4) } })

/-- A zero of negative sign, and one of positive sign. -/
def Num.isNegZero : Num → Bool
  | .fin true 0 _ => true
  | _ => false
def Num.isPosZero : Num → Bool
  | .fin false 0 _ => true
  | _ => false
/-- The larger, or the smaller, of two numbers, −0 being below +0; a NaN stays. -/
def Num.atLeast (t lo : Num) : Num := if t.lt lo || (t.isNegZero && lo.isPosZero) then lo else t
def Num.atMost (t hi : Num) : Num := if hi.lt t || (t.isPosZero && hi.isNegZero) then hi else t

/-- t′ lies beyond the finite range of a format. -/
def beyond (fmt : Nat) : Num → Bool
  | .fin s m e =>
    let lim : Num := if fmt = 0 then .fin false 255 120 else if fmt = 1 then .fin false 240 0
      else if fmt = 2 then (if s then .fin false 128 0 else .fin false 127 0) else .fin false 16777215 104
    lim.lt (.fin false m e)
  | _ => false

/-- The code is an infinity of the format. -/
def isInfCode (fmt w : Nat) : Bool :=
  if fmt = 0 then decide (w % 32768 = 0x7F80) else if fmt = 3 then decide (w % 2 ^ 31 = 0x7F800000) else false

/-- One element of an ORUN (R290): the code, whether it sets NANF, and whether it sets SATF (R291). -/
def outElem (cfg : OutCfg) (seed salt m n col v : Nat) : Nat × Bool × Bool :=
  let d := cfg.d
  let x := if cfgInt d then Num.ofInt (sInt 32 v) else of32 v
  let c := if cfgUniform d then 0 else col
  let t := (x.mul (of32 (cfg.scale.getD c 0))).add (of32 (cfg.bias.getD c 0))
  let t' := if t.isNan then t else (t.atLeast (of32 (fieldLE d 16 4))).atMost (of32 (fieldLE d 20 4))
  let mode := if cfgMode d = 0 then Rmode.rne else if cfgMode d = 1 then Rmode.rtz else Rmode.sr (srHash seed salt m n)
  let w := t'.toFmt (cfgFmt d) mode
  (w, !t.isFin || isInfCode (cfgFmt d) w, beyond (cfgFmt d) t' && !(isInfCode (cfgFmt d) w))

/-- An ORUN's writes and flags. -/
def State.runDrain (s : State) (n : Nat) (o : QOp) : State :=
  let d := parseDrain o.d
  let cfg := (s.core n).cfg
  let e := fmtSize (cfgFmt cfg.d)
  let rows := (List.range d.m).map (fun m => (m, (List.range d.n).map (fun j =>
    outElem cfg o.seed d.salt m j (d.col0 + j) (s.accGet n (d.acc + m * d.cpitch + j)))))
  let nan := rows.findSome? (fun r => (r.2.findIdx? (fun x => x.2.1)).map (fun j => (r.1, j)))
  let sat := rows.any (fun r => r.2.any (fun x => x.2.2))
  let done := (s.core n).out.done
  let s := rows.foldl (fun s r => s.putData n (d.dst + r.1 * d.dpitch) (r.2.flatMap (fun x => toBytes e x.1)) true) s
  let s := match nan with
    | none => s
    | some (m, j) =>
      let s := s.count CORE_OUTCNT_NANOPS 1 n
      if s.flag CORE_OUTNAN_VALID n then s
      else (s.setRegN CORE_OUTNAN (1 + 65536 * (done % 65536)) n).setRegN CORE_OUTNANP (m + 65536 * j) n
  let s := if sat then s.count CORE_OUTCNT_SATOPS 1 n else s
  s.modCore n (fun c => { c with out := { c.out with stick1 := c.out.stick1 || nan.isSome, stick2 := c.out.stick2 || sat } })

/-- The running operation of unit `u` completes. -/
def State.doneOp (s : State) (n u : Nat) : State :=
  match (s.core n).runs u with
  | none => s
  | some o =>
    let s :=
      if o.kind = opRun then s.runTile n o.tile (o.tile.rounds * o.tile.passes)
      else if o.kind = opVrun then s.runVp n o.vrun o.vrun.blocks
      else if o.kind = opCfg then s.loadCfg n o.ord o.d
      else if o.kind = opDrain then s.runDrain n o
      else s
    s.retireOp n u

/-- MATRIX_OP_START (R269, R270). -/
def execMatrixOpStart (n : Nat) (s : State) : Out := onUnit n 32 (.next (s.startOp n 0))
/-- MATRIX_OP_DONE (R271). -/
def execMatrixOpDone (n : Nat) (s : State) : Out := onUnit n 32 (.next (s.doneOp n 0))
/-- VP_OP_START (R270). -/
def execVpOpStart (n : Nat) (s : State) : Out := onUnit n 32 (.next (s.startOp n 1))
/-- VP_OP_DONE (R277). -/
def execVpOpDone (n : Nat) (s : State) : Out := onUnit n 32 (.next (s.doneOp n 1))
/-- OUTPUT_OP_START (R292). -/
def execOutputOpStart (n : Nat) (s : State) : Out := onUnit n 32 (.next (s.startOp n 2))
/-- OUTPUT_OP_DONE (R293). -/
def execOutputOpDone (n : Nat) (s : State) : Out := onUnit n 32 (.next (s.doneOp n 2))

/-! ### A failed check (R272, R273, R275) -/

/-- C of Table 11.6. -/
def checkConst (o : QOp) (vp col : Bool) : Nat :=
  if vp then 96 + (parseVrun o.d).k
  else
    let t := parseTile o.d o.bound
    let p := t.pairs.length
    if t.mode ≠ 2 ∧ ¬ col then 48 * p else p * (48 + t.streamed)

/-- The checks of an operation compare integers (R273). -/
def checkInt (o : QOp) (vp : Bool) : Bool := decide ((if vp then (parseVrun o.d).fmt else (parseTile o.d o.bound).fmt) = 2)

/-- τ = C · 2^(E − 23) of a float check, where `ex` is E + 149. -/
def checkTau (o : QOp) (vp col : Bool) (ex : Nat) : Num := .fin false (checkConst o vp col) ((ex : Int) - 172)

/-- A difference fails its check (R273, R274): an integer one that is not 0; a float one above τ, or that is no finite number, with E below 127. -/
def checkFails (o : QOp) (vp col : Bool) (diff ex : Nat) : Bool :=
  if checkInt o vp then decide (diff % 2 ^ 32 ≠ 0)
  else decide (ex < 276) && (!(of32 diff).isFin || (checkTau o vp col ex).lt (of32 diff).abs)

/-- E + 149 is `ex` at least where a check reaches `r`, and E below 127 (R273, R274; DEDUCED, log 140). -/
def reachOk (r : Int) (ex : Nat) : Bool := decide (r < 128 ∧ r + 148 ≤ ex)

/-- The running operation makes this check (Table 11.5, R274, R277): the pass is one of its own, the array or sub-array holds a part of it, there is
no row check under PACK; every input of a float pass is finite, and E, `ex` less 149, is no less than what the check reaches. -/
def State.checkMade (s : State) (n : Nat) (o : QOp) (vp : Bool) (array sub : Nat) (col : Bool) (pass ex : Nat) : Bool :=
  if vp then
    decide (o.kind = opVrun ∧ array = 0 ∧ sub = 0 ∧ pass < o.vrun.blocks) && !col
      && (checkInt o vp || (s.vpFinite n o.vrun pass && (List.range o.vrun.rows).any (fun m => reachOk (s.vpReach n o.vrun pass m) ex)))
  else
    decide (o.kind = opRun) && (col || decide (o.tile.pack = 0)) && (match o.tile.allPasses[pass]? with
      | some parts => (o.tile.blocks parts).any (fun p => decide (p.1 = (array, sub)) && (checkInt o vp || reachOk (s.blockReach n o.tile p.2 col) ex))
          && (checkInt o vp || s.passFinite n o.tile parts)
      | none => false)

/-- CORE_MTXCHK, CORE_MTXCHKD, CORE_MTXCHKT: the failing check with the magnitude of its difference, for I8 the difference, and τ. -/
def State.recordChk (s : State) (n : Nat) (o : QOp) (vp : Bool) (array sub : Nat) (col : Bool) (pass diff ex : Nat) : State :=
  let tau := if checkInt o vp then 0 else (checkTau o vp col ex).to32
  let d := if checkInt o vp then diff % 2 ^ 32 else diff % 2 ^ 31
  let v := 1 + (if vp then 2 else 0) + 4 * (array % 4) + 16 * (sub % 4) + (if col && !vp then 64 else 0) + 65536 * (pass % 65536)
  ((s.setRegN CORE_MTXCHK v n).setRegN CORE_MTXCHKD d n).setRegN CORE_MTXCHKT tau n

/-- The passes before the failing one have entered ACC; its result never does (R275). -/
def State.upToFault (s : State) (n : Nat) (o : QOp) (vp : Bool) (pass : Nat) : State :=
  (if vp then s.runVp n o.vrun pass else s.runTile n o.tile pass).draw

end Sys2Proof.Machine
end

