-- ==== Sys2Proof/Machine/Cp.lean ====
section
/-! DEFINITION. Machine/Cp.lean: the Control Processor of a core (chapter 10): jobs, their ends, the watchdog, exceptions, halts, and
what it takes to issue and retire an instruction. The instructions themselves stand in Machine/CpInstr.lean. -/

namespace Sys2Proof.Machine
open Sys2Proof Sys2Proof.Machine.Reg

/-! ### STATE (CORE_STATUS) -/

def cIdle : Nat := 0
def cRun : Nat := 1
def cSleep : Nat := 2
def cHalted : Nat := 3
def cDropped : Nat := 5

def State.cstate (s : State) (n : Nat) : Nat := s.fld CORE_STATUS_STATE n
def State.setCstate (s : State) (n v : Nat) : State := s.setFld CORE_STATUS_STATE v n
/-- STATE, as it is under a halt. -/
def State.cunder (s : State) (n : Nat) : Nat := if (s.core n).halted then (s.core n).was else s.cstate n
/-- A job is in flight. -/
def State.busy (s : State) (n : Nat) : Bool := decide (s.cunder n = cRun ∨ s.cunder n = cSleep)
def State.pc (s : State) (n : Nat) : Nat := s.fld CORE_PC_PC n
def State.setPc (s : State) (n v : Nat) : State := s.setFld CORE_PC_PC v n

/-- g0 reads 0 and ignores writes (R234). -/
def Core.gpr (c : Core) (r : Nat) : Nat := if r = 0 then 0 else c.g.getD r 0
def Core.setGpr (c : Core) (r v : Nat) : Core := if r = 0 then c else { c with g := c.g.set r (v % 2 ^ 32) }
def State.gpr (s : State) (n r : Nat) : Nat := (s.core n).gpr r
def State.setGpr (s : State) (n r v : Nat) : State := s.modCore n (fun c => c.setGpr r v)

/-- An event of Table 10.13 (R259): DATA names job, GROUP, status and exception. -/
def State.coreReport (s : State) (n b sev : Nat) : State :=
  s.report (CORE_EVENT.at n) (CORE_INT_EN.at n) b (44 + n / 4) (0x0A00 + b) n sev
    (s.fld CORE_JOBCUR_JOB n + 2 ^ 16 * s.fld CORE_JOBCUR_GROUP n + 2 ^ 32 * s.fld CORE_JOBST_STATUS n
      + 2 ^ 40 * s.fld CORE_JOBST_EXC n)

/-- An event of Table 21.5 (R480). -/
def State.dbgReport (s : State) (b sev src data : Nat) : State :=
  s.report DBG_EVENT.base DBG_INT_EN.base b 43 (0x1000 + b) src sev data

/-! ### The watchdog (R250): `wdLeft` ticks remain at tick `wdMark`; held while there is no mark -/

def State.wdHold (s : State) (n : Nat) : State :=
  let now := s.rnd.clk
  s.modCore n (fun c => match c.wdMark with
    | some t => { c with wdLeft := c.wdLeft - (now - t), wdMark := none }
    | none => c)
def State.wdRun (s : State) (n : Nat) : State :=
  let now := s.rnd.clk
  s.modCore n (fun c => if c.wdMark.isNone ∧ c.wdOn = true then { c with wdMark := some now } else c)
def State.wdReload (s : State) (n : Nat) : State :=
  let now := s.rnd.clk
  let p := 250 * s.live CORE_WDT_PERIOD n
  s.modCore n (fun c => { c with wdLeft := p, wdOn := decide (p ≠ 0), wdMark := if p = 0 then none else some now })
/-- The watchdog of core `n` has expired. -/
def State.wdExpired (s : State) (n : Nat) : Bool :=
  match (s.core n).wdMark with
  | some t => decide ((s.core n).wdLeft ≤ s.rnd.clk - t)
  | none => false

/-! ### Jobs start (R234, R252) -/

/-- What CSR JOB reads for a host job. -/
def hostJob : Nat := 0x07FF
def hostGroup : Nat := 0xFFFF

/-- The staged set of core `n` takes effect or is rejected as a whole (R97, R244). -/
def State.applyCore (s : State) (n : Nat) : State :=
  let s := s.setFld CORE_CTRL_COMMIT 0 n
  let rej := s.chanReject n
  if rej ≠ 0 then (s.setFld CORE_STATUS_REJ_CAUSE rej n).coreReport n 4 3
  else ((List.range 16).foldl (fun s c => s.applyChan n c) (s.apply1 CORE_WDT n 0)).coreReport n 5 1

/-- A job starts on core `n`: `src` is 1 for the Pattern, 2 for the host. A staged set that waits takes effect first (Table 4.5). -/
def State.startJob (s : State) (n src entry arg job group startA dlA : Nat) (inst : Option Nat) : State :=
  let s := if s.flag CORE_CTRL_COMMIT n then s.applyCore n else s
  let s := s.accClear n
  let s := s.modCore n (fun c => { c with
    g := ((List.replicate 32 0).set 1 (arg % 2 ^ 32)).set 2 (job + 65536 * group),
    seed := 0, terr := 0, arg := arg % 2 ^ 32, startA := startA % 2 ^ 32, dlA := dlA % 2 ^ 32, cyc := 0, hot := 0, stall := false,
    wait := .none, slots := List.replicate 32 {}, movq := [], inst := inst, mtx := {}, vp := {}, out := {}, cells := [], bound := [],
    ocfg := [], cfg := {}, old := [] })
  let s := (s.setPc n entry).setCstate n cRun
  let s := (s.setFld CORE_STATUS_SRC src n).setFld CORE_JOBCUR_JOB job n
  let s := (s.setFld CORE_JOBCUR_GROUP group n).setFld CORE_OUTNAN_VALID 0 n
  (s.setFld MESH_TRK_INUSE 0 n).wdReload n

/-- Jobs that the active Pattern still fires. -/
def State.liveJobs (s : State) : List Job :=
  match s.pat.active with
  | some im => ((List.range im.jobs.length).zip im.jobs).filterMap (fun p => if s.pat.shed.contains p.1 then none else some p.2)
  | none => []

/-- The active Pattern names core `n` as TARGET, as a CORESET member or as SPARE (R254). -/
def State.namesCore (s : State) (n : Nat) : Bool :=
  s.flag PAT_STATUS_ACTIVE && s.liveJobs.any (fun j =>
    (decide (j.kind = 0) && (decide (j.target = n ∨ j.spare = n)))
      || (decide (j.kind = 1) && (j.target.testBit n || decide (j.spare = n))))

/-- Compute die of a core; a die at CRIT (R462, R464). -/
def coreDie (n : Nat) : Nat := n / 16
def State.sensorBad (s : State) (k : Nat) : Bool := s.flag TMP_FAIL k
def State.dieCrit (s : State) (d : Nat) : Bool :=
  let l := [4 * d, 4 * d + 1, 4 * d + 2, 4 * d + 3]
  l.any (fun k => s.hlth.crit.contains k && !(s.sensorBad k)) || l.all (fun k => s.sensorBad k)

/-- A host start (R254): refused, or the job runs. Answers whether it was taken. -/
def State.hostStart (s : State) (n entry arg : Nat) : State × Bool :=
  if s.cstate n ≠ cIdle ∨ s.namesCore n ∨ s.dieCrit (coreDie n) then (s.coreReport n 3 3, false)
  else (s.startJob n 2 entry arg hostJob hostGroup s.absStitch (2 ^ 32 - 1) none, true)

/-! ### Jobs end (R248 to R255) -/

/-- A halt that an abort or a fence ends (R474). -/
def State.loseHalt (s : State) (n status : Nat) : State :=
  if (s.core n).halted then
    let s := s.modCore n (fun c => { c with halted := false, left := none, skip := none })
    let s := s.setReg DBG_HALTED.base (setBits (s.reg DBG_HALTED.base) n 1 0)
    s.dbgReport 4 4 n status
  else s

/-- The rest of a message whose first packet has left is delivered (R255). One to an engine is whole in the engine's buffer already. -/
def State.finishSend (s : State) (n t : Nat) : Nat → State
  | 0 => s
  | k + 1 =>
    match (s.slot n t).op with
    | some (.send ..) => if (s.slot n t).answer.isSome then s else (s.msgPacket n t).finishSend n t k
    | _ => s

/-- What of it the way holds back (R18, R225) arrives later. -/
def State.straySend (s : State) (n t : Nat) : State :=
  let x := s.slot n t
  match x.op with
  | some (.send dst chan mseq cls addr len gone rsv) =>
    if x.answer.isSome ∨ gone = 0 ∨ 32 ≤ dst then s
    else
      let np := msgPackets len
      (List.range (np - gone)).foldl (fun s j =>
        let i := gone + j
        s.strayAs n dst cls x.sent (.msg chan mseq i np (msgBytes dst n cls chan mseq i np t (rsv.getD i false)
          (s.opBytes n x.ord (addr + 248 * i) (msgChunk len i))))) s
  | _ => s

/-- A send whose first packet has not left is never sent: its message number and its credits are free again. -/
def State.dropSend (s : State) (n t : Nat) : State :=
  match (s.slot n t).op with
  | some (.send dst chan _ _ _ len gone _) =>
    if gone = 0 ∧ (s.slot n t).answer.isNone then
      let s := s.setCredit n dst chan (s.credit n dst chan + msgPackets len)
      let q := (s.nextMseq n dst chan + 255) % 256
      let s := s.modMesh (fun m => { m with mseq := bind m.mseq (credKey n dst chan) q })
      s.modSlot n t (fun x => { x with op := none })
    else s
  | _ => s

/-- The tracked slots of core `n` in issue order. -/
def Core.byOrd (c : Core) : List Nat :=
  let l := ((List.range 32).zip c.slots).filter (fun p => p.2.op.isSome)
  (l.foldl (fun (acc : List (Nat × Nat)) p =>
    (acc.filter (fun q => decide (q.2 < p.2.ord))) ++ [(p.1, p.2.ord)] ++ acc.filter (fun q => decide (p.2.ord ≤ q.2))) []).map Prod.fst

/-- The packets in flight of the running descriptor are applied: it stops at the next packet boundary (R255), and its credit is free again. WRITE
packets that the way holds back (R18, R225) arrive later. -/
def State.finishMove (s : State) (n t : Nat) : Nat → State
  | 0 => s
  | k + 1 => (s.applyWrite n t).finishMove n t k
def State.stopMover (s : State) (n : Nat) : State :=
  match (s.core n).movq.head? with
  | none => s
  | some t =>
    let s := s.finishMove n t 32
    let x := s.slot n t
    match x.op with
    | some (.move m gone _ _) =>
      let l := s.flights n m.node m.cls
      let s := s.setFlights n m.node m.cls []
      if m.dir = 1 then
        ((List.range l.length).zip l).foldl (fun s p =>
          let (a, bs) := s.writeBytes n x.ord m (gone + p.1)
          s.strayAs n m.node m.cls p.2 (.write a bs none)) s
      else s
    | _ => s

/-- A marker request that has been sent takes effect at its file, whose reply is then discarded; one that the way holds back (R225) arrives later. One
that R218 holds back has not been sent. -/
def State.flushMarker (s : State) (n t : Nat) : State :=
  match (s.slot n t).op with
  | some (.marker k op arg _) =>
    let sent := decide (op = 0 ∨ op = 3 ∨ op = 4 ∨ op = 5) || !((s.core n).unacked (s.slot n t).ord)
    let wait := (s.slot n t).waits
    let s := s.markerArrive op n t
    if sent ∧ ¬ wait ∧ ¬ (s.slot n t).waits ∧ (s.slot n t).answer.isNone then s.putStray n (fileNode k) 3 (.mark k op arg) else s
  | _ => s

/-- Effects 1 to 5 of R255 on everything but the job's record; a fence (cause 3) completes no message (R449). -/
def State.abortEffects (s : State) (n cause : Nat) : State :=
  let s := s.stopMover n
  let s := s.modCore n (fun c => { c with
    mtx := { c.mtx with q := [] }, vp := { c.vp with q := [] }, out := { c.out with q := [] }, movq := [] })
  let l := (s.core n).byOrd
  let s := l.reverse.foldl (fun s t => s.dropSend n t) s
  let s := if cause = 3 then s else l.foldl (fun s t => (s.finishSend n t 17).straySend n t) s
  let s := l.foldl (fun s t => s.flushMarker n t) s
  let s := s.releaseMarkers n cause
  let s := s.modCore n (fun c => { c with
    slots := c.slots.map (fun t => { t with op := none, answer := none, waits := false }), wait := .none, old := [] })
  (s.noteTrk n).pumpAdds n

/-- The job of core `n` ends: its record, its event, STATE, and the watchdog. `st` is a status of Table 10.8. A job that stage 2 of bind-off aborts has
its event and interrupt, and no record (Table 19.4). -/
def State.closeJob (s : State) (n st user exc next : Nat) : State :=
  let c := s.core n
  let s := s.setRegN CORE_JOBST (st + 16 * user + 4096 * exc) n
  let s := s.setRegN CORE_JOBCYC (min c.cyc (2 ^ 32 - 1)) n
  let s := if st = 2 ∨ st = 3 then s.count CORE_CNT_FAULTS 1 n else s
  let s := if st = 2 then s.coreReport n 0 4 else if st = 3 then s.coreReport n 1 5 else if st = 4 then 
    (if s.fld PWR_BOSTAT_STAGE = 2 then s.event (CORE_EVENT.at n) (CORE_INT_EN.at n) 2 (44 + n / 4) else s.coreReport n 2 4) else s
  let s := ((s.wdHold n).setCstate n next).setFld CORE_STATUS_SRC 0 n
  let s := s.modCore n (fun c => { c with inst := none, wait := .none, hot := 0, stall := false })
  s.settle (fun s w => match w with
    | .coreJob m => if m = n then some (0, [s.regN CORE_JOBST n, s.regN CORE_JOBCYC n]) else none
    | _ => none)

/-- The scheduler learns of the end (R253, R67, R72, R448). `may` says that a restartable instance may go to its spare. -/
def State.tellPat (s : State) (n st user cause : Nat) (inst : Option Nat) (cyc : Nat) (may : Bool) : State :=
  match inst with
  | none => s
  | some id =>
    if st = 3 ∨ st = 5 then s.loseOrReissue id n st cause may user cyc
    else (s.noteLate id).endPart id n st user cyc

/-- The cycles of a wait, or of a stall, that an end of the job cuts off count: a free number of them, since only times are bounded. -/
def State.countWait (s : State) (n : Nat) : State :=
  if (s.core n).wait ≠ .none ∨ (s.core n).stall = true then
    let w := (Config.freeWord s.free).toNat
    s.draw.modCore n (fun c => { c with cyc := c.cyc + w })
  else s

/-- A job ends other than by DONE, with the effects of an abort. -/
def State.killJob (s : State) (n st exc next cause : Nat) (may : Bool) : State :=
  let s := s.countWait n
  let c := s.core n
  let s := s.abortEffects n (if st = 5 then 3 else 2)
  let s := s.loseHalt n st
  (s.closeJob n st 0 exc next).tellPat n st 0 cause c.inst (min c.cyc (2 ^ 32 - 1)) may

/-- The running job of core `n` is aborted (R255). -/
def State.abortJob (s : State) (n : Nat) : State := if s.busy n then s.killJob n 4 0 cIdle 0 false else s

/-- An exception (R248): the instruction at PC does not retire and the job ends with status FAULT. -/
def State.raise (s : State) (n code addr : Nat) : State :=
  let s := (s.setFld CORE_EXCPC_PC (s.pc n) n).setRegN CORE_EXCADDR addr n
  s.killJob n 2 code cIdle 0 false

def excIllegal : Nat := 1
def excMisalign : Nat := 2
def excRange : Nat := 3
def excFetch : Nat := 4
def excArg : Nat := 5
def excDesc : Nat := 6
def excBadwait : Nat := 7
def excBadtag : Nat := 8
def excChan : Nat := 9
def excCsr : Nat := 10
def excBreak : Nat := 11

/-- The classes that a FENCE mask selects are complete (R239). -/
def Core.fenced (c : Core) (x : Nat) : Bool :=
  let x := if x = 0 then 15 else x
  (!(x.testBit 0) || c.slots.all (fun t => t.op.isNone)) && (!(x.testBit 1) || c.mtx.q.isEmpty)
    && (!(x.testBit 2) || c.vp.q.isEmpty) && (!(x.testBit 3) || c.out.q.isEmpty)

/-! ### Halts (R472 to R475) -/

/-- An instruction breakpoint is set at `pc`. -/
def Core.ibpAt (c : Core) (pc : Nat) : Bool :=
  (List.range 4).any (fun i => let v := c.dbg.getD i 0; decide (v % 2 = 1 ∧ v % 65536 / 4 * 4 = pc))

/-- A watchpoint covers a load (or a store) of `len` bytes at `a`. -/
def Core.watched (c : Core) (store : Bool) (a len : Nat) : Bool :=
  (List.range 2).any (fun i =>
    let b := c.dbg.getD (4 + 2 * i) 0
    let l := c.dbg.getD (5 + 2 * i) 0
    decide (b % 2 = 1) && b.testBit (if store then 2 else 1)
      && decide (b / 8 % 2 ^ 17 * 8 < a + len ∧ a < l / 8 % 2 ^ 17 * 8 + 8))

/-- The word that core `n` fetches next. -/
def State.fetch (s : State) (n : Nat) : Nat := ofBytes (memBytes dfltF s.inst (instAt n (s.pc n)) 4)

/-- The bytes that a load or a store at PC meets. -/
def State.access (s : State) (n : Nat) : Option (Bool × Nat × Nat) :=
  let w := s.fetch n
  let op := nbits w 26 6
  if op = 4 ∨ op = 5 ∨ op = 6 then
    let a := uInt 32 ((s.gpr n (nbits w 16 5) : Nat) + sInt 14 (nbits w 0 14))
    some (decide (op = 6), a, 2 ^ nbits w 14 2)
  else none

/-- The cause for which core `n` is to halt at this instruction boundary (Table 21.3), lowest code first. A core that waits halts
only on a request; an instruction that has been waiting to issue has already met its breakpoint. -/
def State.haltDue (s : State) (n : Nat) : Option Nat :=
  let c := s.core n
  let live := decide (s.cstate n = cRun) && decide (c.wait = .none) && !c.stall && s.flag DBG_CTRL_ATTACH
  if c.halted ∨ s.cstate n = cDropped then none
  else if (s.regN DBG_HALT).testBit n then some 1
  else if live && c.ibpAt (s.pc n) && decide (c.skip ≠ some (s.pc n)) then some 2
  else if live && (match s.access n with
      | some (st, a, len) => c.watched st a len
      | none => false) && decide (c.skip ≠ some (s.pc n)) then some 3
  else if c.left = some 0 then some 4
  else none

/-- Core `n` halts. -/
def State.haltCore (s : State) (n cause : Nat) : State :=
  let now := s.rnd.clk
  let job := if s.busy n then s.fld CORE_JOBCUR_JOB n else hostJob
  let was := s.cstate n
  let pc := s.pc n
  let s := s.wdHold n
  let s := s.modCore n (fun c => { c with
    halted := true, was := was, hcause := cause, hpc := pc, left := none, skip := none,
    wait := match c.wait with
      | .recv rd ch lim since => .recv rd ch lim (now - since)
      | w => w })
  let s := s.setCstate n cHalted
  let s := s.setReg DBG_HALTED.base (setBits (s.reg DBG_HALTED.base) n 1 1)
  let s := s.setReg DBG_HALT.base (setBits (s.reg DBG_HALT.base) n 1 0)
  let s := if s.flag DBG_CTRL_HALT_RELEASE then (s.ownedBy n).foldl (fun s k => s.takeAway k 1) s else s.freezeLeases n true
  (s.dbgReport 2 3 n (cause + 2 ^ 16 * pc + 2 ^ 32 * job)).settle (fun s w => if w = Wait.step n then some (0, [s.pc n]) else none)

/-! ### Retirement -/

/-- An instruction has retired: its cycles, the wait before or in it (a free number of cycles, since only times are bounded), the
register a load delays, and a debugger's step. -/
def State.retired (s : State) (n cycles hot : Nat) (waited : Bool) : State :=
  let w := if waited then (Config.freeWord s.free).toNat else 0
  let s := if waited then s.draw else s
  s.modCore n (fun c => { c with cyc := c.cyc + cycles + w, hot := hot, stall := false, skip := none, left := c.left.map (· - 1) })

/-- A wait of the Control Processor ends with `v` in register `rd`. -/
def State.endWait (s : State) (n rd v : Nat) : State :=
  ((s.modCore n (fun c => { c with wait := .none })).setGpr n rd v).retired n 0 0 true

/-- RECV answers the oldest ready message of a channel: the address of its first slot. -/
def State.takeMsg (s : State) (n ch : Nat) : Option (State × Nat) :=
  match (s.chan n ch).ready with
  | [] => none
  | (_, first, np) :: t =>
    some ((s.modChan n ch (fun x => { x with ready := t, out := x.out + np })).noteChan n ch, s.chanBase n ch + 256 * first)

/-- A RECV that waits takes a message that has become ready, and a MOPB whose reply was held completes, unless the core is halted. -/
def State.wake (s : State) (n : Nat) : State :=
  if (s.core n).halted then s
  else match (s.core n).wait with
    | .recv rd ch _ _ =>
      match s.takeMsg n ch with
      | some (s, a) => s.endWait n rd a
      | none => s
    | .held rd v l => (s.modCore n (fun c => { c with lstat := l })).endWait n rd v
    | _ => s

/-! ### What waits on its way -/

/-- A packet that no slot holds arrives, if nothing sent before it is still on its way and the way does not retrain (R18, R225). -/
def State.landStray (s : State) (x : Stray) : State :=
  if s.sendBehind x.src x.dst x.cls x.seq then s
  else
    let s := s.modMesh (fun m => { m with stray := m.stray.erase x })
    match x.cargo with
    | .msg c q i np pkt => if x.dst < 32 then (s.msgArrive x.dst c x.src q i np pkt).1.wake x.dst else s
    | .write a bs mrk =>
      if x.src = 34 then (if s.coreDropped x.dst then s else (s.putData x.dst a bs).addAfter mrk) else (s.meshWrite x.dst a bs).1
    | .mark k op arg => s.landMark x.src k op arg

/-- What no slot holds and what a finished descriptor owes goes on, as far as it can. -/
def State.pumpMesh (s : State) : State :=
  let s := s.mesh.stray.foldl (fun s x => s.landStray x) s
  (List.range 32).foldl (fun s n => s.pumpAdds n) s

/-- RESP_RX (R219): a RESP ends the message or store-mover operation in slot `tag` of core `n`; without a tag it is the next CREDIT
response from node `node`. -/
def execRespRx (n : Nat) (tag : Option Nat) (node : Nat) (s : State) : Out :=
  match tag with
  | none => onUnit n 34 (onUnit node 34 (.next (s.takeCredit n node).pumpMesh))
  | some t =>
    onUnit n 32 <| onUnit t 32 <|
      match (s.slot n t).op with
      | some (.marker ..) => .next s
      | _ => .next (if s.replyWaits n t then s else (s.endTracked n t).pumpMesh)

/-- WRITE_PACKET_RX (R216). -/
def execWritePacketRx (src tag : Nat) (s : State) : Out := onUnit src 32 (onUnit tag 32 (.next (s.writePacket src tag).pumpMesh))

/-- MOVER_DONE (R247): the running descriptor of core `n` completes on its final response. -/
def execMoverDone (n : Nat) (s : State) : Out :=
  onUnit n 32 <|
    match (s.core n).movq.head? with
    | none => .next s
    | some t =>
      let s := s.localCopy n t
      .next (if s.replyWaits n t then s else (s.endTracked n t).pumpMesh)

/-- Core `n` resumes (R475), for `left` instructions if a step asks: the BREAK it stood at is none of them. A resume takes back a halt that
has not taken effect yet. -/
def State.resumeCore (s : State) (n : Nat) (left : Option Nat) : State :=
  let c := s.core n
  if ¬ c.halted then (if left = none then s.setReg DBG_HALT.base (setBits (s.reg DBG_HALT.base) n 1 0) else s)
  else
    let now := s.rnd.clk
    let pc := s.pc n
    let s := s.modCore n (fun c => { c with
      halted := false, left := left,
      skip := if (c.hcause = 2 ∨ c.hcause = 3) ∧ c.hpc = pc then some pc else none,
      wait := match c.wait with
        | .recv rd ch lim el => .recv rd ch lim (now - el)
        | w => w })
    let s := s.setCstate n c.was
    let s := s.setReg DBG_HALTED.base (setBits (s.reg DBG_HALTED.base) n 1 0)
    let s := s.freezeLeases n false
    let s := if c.was = cRun then s.wdRun n else s
    let s := s.dbgReport 3 2 n (2 ^ 16 * pc)
    if c.hcause = 5 ∧ c.hpc = pc ∧ c.was = cRun then
      if 0xFFFC ≤ pc then s.raise n excFetch (pc + 4) else ((s.setPc n (pc + 4)).retired n 1 0 false).modCore n (fun c => { c with left := left })
    else s.wake n

/-! ### Issue (R235, R236, R248) -/

/-- What an instruction does when it issues: it retires (next PC, cycles, register a load delays), begins a wait of its own (next PC
and the wait), cannot issue yet, raises an exception (code, address or operand), or has done all itself. -/
inductive Act where
  | retire (s : State) (next : Int) (cycles hot : Nat)
  | wait (s : State) (next : Int) (w : CpWait)
  | stall
  | exc (code addr : Nat)
  | own (s : State)

/-- The instruction at PC has an effect: the PC advances unless it leaves the instruction store, which is the exception FETCH of the
instruction that moved it. `u` is what the load before it costs an instruction that begins a wait. -/
def State.perform (s : State) (n u : Nat) (a : Act) : State :=
  let waited := (s.core n).stall
  match a with
  | .stall => s.modCore n (fun c => { c with stall := true })
  | .exc code addr => s.raise n code addr
  | .own s => s
  | .retire s' next cycles hot =>
    if next < 0 ∨ 0xFFFC < next then s.raise n excFetch (uInt 32 next)
    else (s'.setPc n next.toNat).retired n cycles hot waited
  | .wait s' next w =>
    if next < 0 ∨ 0xFFFC < next then s.raise n excFetch (uInt 32 next)
    else
      let s := (s'.setPc n next.toNat).modCore n (fun c => { c with wait := w, cyc := c.cyc + 1 + u, hot := 0, stall := false, skip := none })
      s.wake n

/-- Fields of an instruction word (Table 10.2). -/
def fOp (w : Nat) : Nat := nbits w 26 6
def fRd (w : Nat) : Nat := nbits w 21 5
def fRa (w : Nat) : Nat := nbits w 16 5
def fRb (w : Nat) : Nat := nbits w 11 5
def fFn (w : Nat) : Nat := nbits w 0 11
def fSys (w : Nat) : Nat := nbits w 6 5

/-- The row of a word: its opcode; 0x40 and 0x41 for the two functions of MCTL; 0x50 and more for the functions of SYS. -/
def rowOf (w : Nat) : Nat :=
  if fOp w = 0x0F then 0x40 + nbits w 4 2 else if fOp w = 0x24 then 0x50 + fSys w else fOp w

/-- The word is an instruction (R235, Tables 10.3 to 10.5): no reserved opcode or function, and every field marked 0 or unused is 0. -/
def legal (w : Nat) : Bool :=
  let op := fOp w
  let rd := fRd w
  let ra := fRa w
  let rb := fRb w
  let fn := fFn w
  if op = 0x00 then decide (fn < 64 ∧ (fn ≤ 0x0D ∨ (0x10 ≤ fn ∧ fn ≤ 0x12)))
  else if op = 0x01 then
    let f := nbits w 12 4
    decide (f ≤ 8) && (decide (f < 4 ∨ 6 < f) || decide (nbits w 5 7 = 0))
  else if op = 0x02 then decide (ra = 0)
  else if op = 0x03 then true
  else if op = 0x04 ∨ op = 0x05 ∨ op = 0x06 then decide (nbits w 14 2 ≠ 3)
  else if op = 0x08 then decide (nbits w 13 3 ≤ 5)
  else if op = 0x09 ∨ op = 0x0A then true
  else if op = 0x0C then decide (fn = 0)
  else if op = 0x0D then decide (fn < 16 ∧ rb = 0)
  else if op = 0x0E then decide (fn < 16 ∧ rb = 0 ∧ rd = 0)
  else if op = 0x0F then decide (fn < 32 ∧ ra = 0 ∧ rb = 0) && decide (16 ≤ fn ∨ rd = 0)
  else if op = 0x10 ∨ op = 0x11 then decide (fn < 8)
  else if op = 0x14 then decide (fn = 0 ∧ rb = 0)
  else if op = 0x18 ∨ op = 0x19 ∨ op = 0x1C ∨ op = 0x20 ∨ op = 0x21 then decide (fn = 0 ∧ rb = 0 ∧ rd = 0)
  else if op = 0x1A ∨ op = 0x1B ∨ op = 0x1D ∨ op = 0x22 then decide (fn = 0 ∧ rb = 0 ∧ ra = 0)
  else if op = 0x24 then
    let f := fSys w
    let x := nbits w 0 6
    decide (f ≤ 7) && (decide (rd = 0 ∨ f = 2 ∨ f = 4)) && (decide (ra = 0 ∨ f = 0 ∨ f = 2 ∨ f = 3 ∨ f = 5))
      && (decide (rb = 0 ∨ f = 3)) && (decide (x = 0 ∨ f = 1 ∨ f = 4 ∨ f = 5)) && (decide (f ≠ 1 ∨ x < 16))
  else false

/-- The registers a word reads. -/
def readsOf (w : Nat) : List Nat :=
  let op := fOp w
  if op = 0x06 then [fRd w, fRa w]
  else if op = 0x08 then [fRd w, fRa w]
  else if op = 0x02 ∨ op = 0x09 ∨ op = 0x0F ∨ op = 0x1A ∨ op = 0x1B ∨ op = 0x1D ∨ op = 0x22 then []
  else if op = 0x00 ∨ op = 0x0C ∨ op = 0x10 ∨ op = 0x11 then [fRa w, fRb w]
  else if op = 0x24 then (if fSys w = 3 then [fRa w, fRb w] else [fRa w])
  else [fRa w]

/-- Cycles that the result of a load costs the instruction right after it (R236). -/
def State.loadUse (s : State) (n w : Nat) : Nat :=
  let h := (s.core n).hot
  if h ≠ 0 ∧ (readsOf w).contains h then 1 else 0

/-- The Control Processor of core `n` can issue. -/
def State.canIssue (s : State) (n : Nat) : Bool :=
  decide (s.cstate n = cRun) && decide ((s.core n).wait = .none) && (s.haltDue n).isNone

/-- The row `want` issues on core `n`: nothing happens unless the core can issue and the word at PC is of that row. A word that is no
instruction raises ILLEGAL, whichever row is named. -/
def issue (n want : Nat) (body : State → Nat → Act) (s : State) : Out :=
  onUnit n 32 <|
    if s.canIssue n then
      let w := s.fetch n
      if ¬ legal w then .next (s.raise n excIllegal w)
      else if rowOf w = want then .next (s.perform n (s.loadUse n w) (body s w))
      else .next s
    else .next s

end Sys2Proof.Machine
end

