-- ==== Sys2Proof/Machine/CpInstr.lean ====
section
/-! DEFINITION. Machine/CpInstr.lean: the instructions of the Control Processor (Tables 10.3 to 10.5), one meaning for each row, and the
events that end their waits. -/

namespace Sys2Proof.Machine
open Sys2Proof Sys2Proof.Machine.Reg

/-! ### Arithmetic (Table 10.4) -/

/-- ALU functions on 32-bit operands. -/
def aluOp (f a b : Nat) : Nat :=
  let sa := sInt 32 a
  let sb := sInt 32 b
  if f = 0x00 then (a + b) % 2 ^ 32
  else if f = 0x01 then (a + 2 ^ 32 - b) % 2 ^ 32
  else if f = 0x02 then a &&& b
  else if f = 0x03 then a ||| b
  else if f = 0x04 then a ^^^ b
  else if f = 0x05 then a * 2 ^ (b % 32) % 2 ^ 32
  else if f = 0x06 then a / 2 ^ (b % 32)
  else if f = 0x07 then uInt 32 (sa / 2 ^ (b % 32))
  else if f = 0x08 then (if sa < sb then 1 else 0)
  else if f = 0x09 then (if a < b then 1 else 0)
  else if f = 0x0A then (if sa < sb then a else b)
  else if f = 0x0B then (if sa < sb then b else a)
  else if f = 0x0C then min a b
  else if f = 0x0D then max a b
  else if f = 0x10 then a * b % 2 ^ 32
  else if f = 0x11 then uInt 32 (sa * sb / 2 ^ 32)
  else a * b / 2 ^ 32 % 2 ^ 32

/-- The ALU function an immediate function applies, and its operand. -/
def immFn (f : Nat) : Nat :=
  if f = 0 then 0 else if f = 1 then 2 else if f = 2 then 3 else if f = 3 then 4 else if f = 4 then 5 else if f = 5 then 6
  else if f = 6 then 7 else if f = 7 then 8 else 9
def immVal (f i : Nat) : Nat := if f = 0 ∨ f = 7 ∨ f = 8 then uInt 32 (sInt 12 i) else i

/-- Conditions of BC. -/
def condHolds (c a b : Nat) : Bool :=
  let sa := sInt 32 a
  let sb := sInt 32 b
  if c = 0 then decide (a = b) else if c = 1 then decide (a ≠ b) else if c = 2 then decide (sa < sb)
  else if c = 3 then decide (sb ≤ sa) else if c = 4 then decide (a < b) else decide (b ≤ a)

/-- PC + 4. -/
def State.seqPc (s : State) (n : Nat) : Int := ((s.pc n : Nat) : Int) + 4

/-- An instruction of one result and `cyc` cycles. -/
def State.result (s : State) (n w v cyc : Nat) : Act := .retire (s.setGpr n (fRd w) v) (s.seqPc n) (cyc + s.loadUse n w) 0

/-- ALU (R235). -/
def execAlu (n : Nat) (s : State) : Out :=
  issue n 0x00 (fun s w =>
    let f := fFn w
    s.result n w (aluOp f (s.gpr n (fRa w)) (s.gpr n (fRb w))) (if 0x10 ≤ f then 2 else 1)) s
/-- ALUI (R235). -/
def execAlui (n : Nat) (s : State) : Out :=
  issue n 0x01 (fun s w =>
    let f := nbits w 12 4
    s.result n w (aluOp (immFn f) (s.gpr n (fRa w)) (immVal f (nbits w 0 12))) 1) s
/-- LUI (R235). -/
def execLui (n : Nat) (s : State) : Out := issue n 0x02 (fun s w => s.result n w (nbits w 0 16 * 65536) 1) s
/-- ORIL (R235). -/
def execOril (n : Nat) (s : State) : Out := issue n 0x03 (fun s w => s.result n w (s.gpr n (fRa w) ||| nbits w 0 16) 1) s

/-! ### Loads and stores (R236, R241, R248) -/

/-- The exception of an access of `len` bytes at `a`, which must be aligned to `al` (Table 10.7). -/
def accessExc (a len al : Nat) : Option Nat :=
  if a % al ≠ 0 then some excMisalign else if 0x100000 < a + len then some excRange else none

/-- Effective address of format M. -/
def State.effAddr (s : State) (n w : Nat) : Nat := uInt 32 ((s.gpr n (fRa w) : Nat) + sInt 14 (nbits w 0 14))

def State.loadAct (s : State) (n w : Nat) (sign : Bool) : Act :=
  let a := s.effAddr n w
  let len := 2 ^ nbits w 14 2
  match accessExc a len len with
  | some c => .exc c a
  | none =>
    let v := s.dataLE n a len
    let v := if sign then uInt 32 (sInt (8 * len) v) else v
    .retire (s.setGpr n (fRd w) v) (s.seqPc n) (1 + s.loadUse n w) (fRd w)

/-- LDU (R236). -/
def execLdu (n : Nat) (s : State) : Out := issue n 0x04 (fun s w => s.loadAct n w false) s
/-- LDS (R236). -/
def execLds (n : Nat) (s : State) : Out := issue n 0x05 (fun s w => s.loadAct n w true) s
/-- ST (R241). -/
def execSt (n : Nat) (s : State) : Out :=
  issue n 0x06 (fun s w =>
    let a := s.effAddr n w
    let len := 2 ^ nbits w 14 2
    match accessExc a len len with
    | some c => .exc c a
    | none => .retire (s.putData n a (toBytes len (s.gpr n (fRd w)))) (s.seqPc n) (1 + s.loadUse n w) 0) s

/-! ### Branches (R236) -/

/-- BC (R236): the first compared register stands in [25:21]. -/
def execBc (n : Nat) (s : State) : Out :=
  issue n 0x08 (fun s w =>
    let x := s.loadUse n w
    if condHolds (nbits w 13 3) (s.gpr n (fRd w)) (s.gpr n (fRa w)) then
      .retire s ((s.pc n : Nat) + 4 * sInt 13 (nbits w 0 13)) (3 + x) 0
    else .retire s (s.seqPc n) (1 + x) 0) s
/-- JAL (R236). -/
def execJal (n : Nat) (s : State) : Out :=
  issue n 0x09 (fun s w =>
    .retire (s.setGpr n (fRd w) (s.pc n + 4)) ((s.pc n : Nat) + 4 * sInt 21 (nbits w 0 21)) 3 0) s
/-- JALR (R236). -/
def execJalr (n : Nat) (s : State) : Out :=
  issue n 0x0A (fun s w =>
    let t := uInt 32 ((s.gpr n (fRa w) : Nat) + sInt 16 (nbits w 0 16))
    if t % 4 ≠ 0 then .exc excMisalign t
    else .retire (s.setGpr n (fRd w) (s.pc n + 4)) t (3 + s.loadUse n w) 0) s

/-! ### Tracked slots (R240) -/

/-- The lowest free slot. -/
def Core.freeSlot (c : Core) : Option Nat := c.slots.findIdx? (fun t => t.op.isNone)

/-- Operation `op` takes slot `t`. -/
def State.takeSlot (s : State) (n t : Nat) (op : Track) : State :=
  (s.modCore n (fun c => { c with
    slots := c.slots.set t { op := some op, ord := c.ord }, ord := c.ord + 1 })).noteTrk n

/-! ### Messages (R242, R243) -/

/-- A node of a message that no longer answers. -/
def State.nodeDropped (s : State) (d : Nat) : Bool := if d < 32 then s.coreDropped d else s.engineDropped (d - 32)

/-- A send in slot `t` of core `n` takes its credits and its message number, and its packets are issued: a DEADLINE one is charged (R222). -/
def State.paySend (s : State) (n t dst ch cls a len : Nat) : State :=
  let q := s.nextMseq n dst ch
  let np := msgPackets len
  let s := (s.setCredit n dst ch (s.credit n dst ch - np)).bumpMseq n dst ch
  let (s, rsv) := if cls = 0 then s.chargeMsg n len np [] else (s, [])
  (s.modSlot n t (fun x => { x with op := some (.send dst ch q cls a len 0 rsv), sent := s.mesh.num })).sendNext

/-- What a SEND issues as: it takes a slot, and waits in it for its credits (R217, R242). -/
def State.sendAct (s : State) (n w : Nat) : Act :=
  let a := s.gpr n (fRa w)
  let b := s.gpr n (fRb w)
  let len := nbits b 0 12
  let dst := nbits b 16 6
  let ch := nbits b 24 4
  let cls := nbits b 28 2
  if a % 8 ≠ 0 then .exc excMisalign a
  else if 0x100000 < a + len then .exc excRange a
  else if nbits b 12 4 ≠ 0 ∨ nbits b 22 2 ≠ 0 ∨ nbits b 30 2 ≠ 0 ∨ len = 0 ∨ 3968 < len ∨ 33 < dst ∨ cls = 3 then .exc excArg b
  else
    match (s.core n).freeSlot with
    | none => .stall
    | some t =>
      let x := 1 + s.loadUse n w
      let s := s.takeSlot n t (.want dst ch cls a len)
      if s.nodeDropped dst then .retire ((s.answer n t 5 0 0).setGpr n (fRd w) t) (s.seqPc n) x 0
      else if s.credit n dst ch < msgPackets len then .wait s (s.seqPc n) (.send (fRd w) t)
      else .retire ((s.paySend n t dst ch cls a len).setGpr n (fRd w) t) (s.seqPc n) x 0

/-- The SEND of core `n` that waits for credit in slot `t` goes on: its credits have come, or its slot has been freed. -/
def State.sendOn (s : State) (n rd t : Nat) : State :=
  match (s.slot n t).op with
  | some (.want dst ch cls a len) =>
    if (s.slot n t).answer.isNone ∧ msgPackets len ≤ s.credit n dst ch then (s.paySend n t dst ch cls a len).endWait n rd t else s
  | _ => s.endWait n rd t

/-- A wait of core `n` that a row's instruction began, if the core is not halted. -/
def State.waiting (s : State) (n : Nat) : Option CpWait := if (s.core n).halted ∨ n ≥ 32 then none else some (s.core n).wait

/-- SEND (R242). A row that finds the core in this wait ends the wait. -/
def execSend (n : Nat) (s : State) : Out :=
  match s.waiting n with
  | some (.send rd t) => .next (s.sendOn n rd t)
  | _ => issue n 0x0C (fun s w => s.sendAct n w) s

/-- RECV (R243). -/
def execRecv (n : Nat) (s : State) : Out :=
  issue n 0x0D (fun s w =>
    let ch := nbits w 0 4
    let lim := s.gpr n (fRa w)
    if ¬ s.chanOn n ch then .exc excChan ch
    else
      match s.takeMsg n ch with
      | some (s', a) => s'.result n w a 1
      | none =>
        if lim = 0 then s.result n w (2 ^ 32 - 1) 1
        else .wait s (s.seqPc n) (.recv (fRd w) ch lim s.rnd.clk)) s

/-- Core cycles in `t` ticks of 4 ns, at the core's present clock (CLK_CORE). -/
def State.cyclesIn (s : State) (n t : Nat) : Nat := 4 * t * s.fld CLK_CORE_FREQ n / 1000

/-- RECV_TIMEOUT (R243): the limit does not count while the core is halted (R473). -/
def execRecvTimeout (n : Nat) (s : State) : Out :=
  onUnit n 32 <|
    match (s.core n).wait with
    | .recv rd _ lim since =>
      if (s.core n).halted ∨ lim = 2 ^ 32 - 1 ∨ s.cyclesIn n (s.rnd.clk - since) < lim then .next s
      else .next (((s.modCore n (fun c => { c with wait := .none })).setGpr n rd (2 ^ 32 - 1)).retired n lim 0 false)
    | _ => .next s

/-- MREL (R243). -/
def execMrel (n : Nat) (s : State) : Out :=
  issue n 0x0E (fun s w =>
    let ch := nbits w 0 4
    let k := s.gpr n (fRa w)
    if ¬ s.chanOn n ch then .exc excChan ch
    else if (s.chan n ch).out < k then .exc excChan k
    else
      .retire ((s.modChan n ch (fun x => { x with out := x.out - k })).giveCredit n (s.chanSrc n ch) ch k) (s.seqPc n)
        (1 + s.loadUse n w) 0) s

/-- MCTL_FLUSH (R217, R243). -/
def execMctlFlush (n : Nat) (s : State) : Out :=
  issue n 0x40 (fun s w =>
    let ch := nbits w 0 4
    if ¬ s.chanOn n ch then .exc excChan ch else .retire (s.flushChan n ch) (s.seqPc n) 1 0) s

/-- MCTL_STATUS (R243). -/
def execMctlStatus (n : Nat) (s : State) : Out :=
  issue n 0x41 (fun s w =>
    let ch := nbits w 0 4
    if ¬ s.chanOn n ch then .exc excChan ch else s.result n w (s.regN CORE_CHSTAT n ch) 1) s

/-- MSG_PACKET_RX (R217): a RECV that waits for the message takes it. -/
def execMsgPacketRx (src tag : Nat) (s : State) : Out :=
  onUnit src 32 <| onUnit tag 32 <|
    match (s.slot src tag).op with
    | some (.send dst ..) => .next ((s.msgPacket src tag).wake dst).pumpMesh
    | _ => .next s

/-! ### Marker operations (R219, R226) -/

/-- The operation of a MOP or MOPB word, or the operand it is wrong in. -/
def State.mopTrack (s : State) (n w : Nat) : Option Track :=
  let b := s.gpr n (fRb w)
  if nbits b 8 8 ≠ 0 then none else some (.marker (b % 256) (nbits w 0 3) (s.gpr n (fRa w)) (b / 65536))

/-- An operation of core `n` names marker `k`: the entry whose instance it runs has named the marker's die (R25). -/
def State.nameMarker (s : State) (n k : Nat) : State :=
  match (s.core n).inst.bind s.inst? with
  | some i =>
    if i.gen = s.pat.gen ∧ ¬ s.pat.named.contains (i.job, markerDie k) then
      s.modPat (fun p => { p with named := (i.job, markerDie k) :: p.named })
    else s
  | none => s
/-- A tracked operation takes slot `t`, and names its marker. -/
def State.takeNamed (s : State) (n t : Nat) (op : Track) : State :=
  let s := s.takeSlot n t op
  match op with
  | .marker k _ _ _ => s.nameMarker n k
  | .move m _ _ _ => if m.mrken then s.nameMarker n m.mrk else s
  | _ => s

/-- MOP (R219). -/
def execMop (n : Nat) (s : State) : Out :=
  issue n 0x10 (fun s w =>
    match s.mopTrack n w with
    | none => .exc excArg (s.gpr n (fRb w))
    | some op =>
      match (s.core n).freeSlot with
      | none => .stall
      | some t => (s.takeNamed n t op).result n w t 1) s

/-- MOPB (R219). -/
def execMopb (n : Nat) (s : State) : Out :=
  issue n 0x11 (fun s w =>
    match s.mopTrack n w with
    | none => .exc excArg (s.gpr n (fRb w))
    | some op =>
      match (s.core n).freeSlot with
      | none => .stall
      | some t => .wait (s.takeNamed n t op) (s.seqPc n) (.mopb (fRd w) t)) s

/-- MARKER_REPLY_RX (R219): the reply ends the operation in slot `tag`, and a MOPB that waits for it. -/
def execMarkerReplyRx (n tag : Nat) (s : State) : Out :=
  onUnit n 32 <| onUnit tag 32 <|
    match (s.slot n tag).op, (s.slot n tag).answer with
    | some (.marker ..), some (st, v, o) =>
      if s.replyWaits n tag then .next s
      else
        let s := s.endTracked n tag
        match (s.core n).wait with
        | .mopb rd t =>
          if t = tag then .next ((s.modCore n (fun c => { c with wait := .held rd v (st + 16 * o) })).wake n) else .next s
        | _ => .next s
    | _, _ => .next s

/-! ### The store mover (R245, R246) -/

/-- A store-mover descriptor (Table 10.6). -/
def parseMover (d : List Nat) : Mover :=
  let c := fieldLE d 0 4
  let hi := fieldLE d 12 2
  { dir := nbits c 0 2, cls := nbits c 2 2, transpose := decide (nbits c 4 1 = 1), esize := 2 ^ nbits c 5 2,
    mrken := decide (nbits c 7 1 = 1), node := nbits c 8 8, mrk := nbits c 16 8,
    src := fieldLE d 4 4 + 2 ^ 32 * nbits hi 0 4, dst := fieldLE d 8 4 + 2 ^ 32 * nbits hi 8 4,
    cols := fieldLE d 16 2, rows := fieldLE d 18 2, sstride := fieldLE d 20 4, dstride := fieldLE d 24 4 }

/-- MOVD raises DESC (R246). -/
def moverBad (d : List Nat) : Bool :=
  let m := parseMover d
  let hi := fieldLE d 12 2
  let e := m.esize
  decide (m.dir = 3 ∨ m.cls = 3 ∨ fieldLE d 3 1 ≠ 0 ∨ nbits hi 4 4 ≠ 0 ∨ nbits hi 12 4 ≠ 0 ∨ fieldLE d 14 2 ≠ 0 ∨ fieldLE d 28 4 ≠ 0)
    || decide (m.cols = 0 ∨ m.rows = 0)
    || decide (m.src % e ≠ 0 ∨ m.dst % e ≠ 0 ∨ m.sstride % e ≠ 0 ∨ m.dstride % e ≠ 0)
    || (decide (m.dir ≠ 2) && decide (0x100000 < m.src + (m.rows - 1) * m.sstride + m.srcLen))
    || (decide (m.dir ≠ 1) && decide (0x100000 < m.dst + (m.dstRows - 1) * m.dstride + m.dstLen))
    || (decide (m.dir = 1) && decide (m.dst % 8 ≠ 0 ∨ (1 < m.dstRows ∧ m.dstride % 8 ≠ 0) ∨ m.dstLen % 8 ≠ 0))
    || (decide (m.dir = 2) && decide (m.src % 8 ≠ 0 ∨ (1 < m.rows ∧ m.sstride % 8 ≠ 0) ∨ m.srcLen % 8 ≠ 0))

/-- The 32-byte descriptor at RA, or the exception of reading it. -/
def State.descAt (s : State) (n w : Nat) : Except Nat (List Nat) :=
  let a := s.gpr n (fRa w)
  match accessExc a 32 32 with
  | some c => .error c
  | none => .ok (memBytes dflt0 s.data (dataAt n a) 32)

/-- MOVD (R245): the descriptor joins the mover's queue; at its head it issues the packets it holds credit for. -/
def execMovd (n : Nat) (s : State) : Out :=
  issue n 0x14 (fun s w =>
    match (s.core n).freeSlot with
    | none => .stall
    | some t =>
      match s.descAt n w with
      | .error c => .exc c (s.gpr n (fRa w))
      | .ok d =>
        if moverBad d then .exc excDesc (s.gpr n (fRa w))
        else
          let s := s.takeNamed n t (.move (parseMover d) 0 0 [])
          ((s.modCore n (fun c => { c with movq := c.movq ++ [t] })).issueMove n 32).result n w t 1) s

/-! ### Matrix, vector path, output stage: issue and wait (R262 to R294) -/

/-- A descriptor goes to the queue of unit `u`, if it has room; `bad` is the unit's check, `note` what the issue leaves behind. -/
def State.queueAct (s : State) (n w u kind : Nat) (bad : List Nat → Bool) (note : Core → List Nat → Core) : Act :=
  let c := s.core n
  if 4 ≤ (c.unit u).q.length then .stall
  else
    match s.descAt n w with
    | .error x => .exc x (s.gpr n (fRa w))
    | .ok d =>
      if bad d then .exc excDesc (s.gpr n (fRa w))
      else
        let s' := s.modCore n (fun c =>
          let c := note c d
          let q := c.unit u
          let o : QOp := { kind := kind, ord := c.ord, d := d, bound := if kind = opRun then c.bound else if kind = opDrain then c.ocfg else [],
                           seed := c.seed }
          { c.setUnit u { q with q := q.q ++ [o] } with ord := c.ord + 1 })
        .retire s' (s.seqPc n) (1 + s.loadUse n w) 0

/-- MLOAD (R262). -/
def execMload (n : Nat) (s : State) : Out :=
  issue n 0x18 (fun s w => s.queueAct n w 0 opLoad loadBad (fun c d => { c with bound := d })) s
/-- MRUN (R263). -/
def execMrun (n : Nat) (s : State) : Out :=
  issue n 0x19 (fun s w => s.queueAct n w 0 opRun (fun d => runBad d (s.core n).bound) (fun c _ => c)) s
/-- VRUN (R276). -/
def execVrun (n : Nat) (s : State) : Out := issue n 0x1C (fun s w => s.queueAct n w 1 opVrun vrunBad (fun c _ => c)) s
/-- OCFG (R288). -/
def execOcfg (n : Nat) (s : State) : Out :=
  issue n 0x20 (fun s w => s.queueAct n w 2 opCfg cfgBad (fun c d => { c with ocfg := d })) s
/-- ORUN (R289). -/
def execOrun (n : Nat) (s : State) : Out :=
  issue n 0x21 (fun s w => s.queueAct n w 2 opDrain (fun d => drainBad d (s.core n).ocfg) (fun c _ => c)) s

/-- MWAIT, VWAIT, OWAIT: the status word of unit `u` once its queue is empty. A row that finds the core in this wait ends the wait. -/
def unitWait (n want u : Nat) (s : State) : Out :=
  match s.waiting n with
  | some (.unit rd v) =>
    if v = u ∧ ((s.core n).unit u).q.isEmpty then .next (s.endWait n rd ((s.core n).unit u).status) else .next s
  | _ =>
    issue n want (fun s w =>
      let q := (s.core n).unit u
      if q.q.isEmpty then s.result n w q.status 1 else .wait s (s.seqPc n) (.unit (fRd w) u)) s

/-- MWAIT (R270). -/
def execMwait (n : Nat) (s : State) : Out := unitWait n 0x1A 0 s
/-- MSTAT (R279). -/
def execMstat (n : Nat) (s : State) : Out := issue n 0x1B (fun s w => s.result n w (s.core n).mtx.status 1) s
/-- VWAIT (R279). -/
def execVwait (n : Nat) (s : State) : Out := unitWait n 0x1D 1 s
/-- OWAIT (R294). -/
def execOwait (n : Nat) (s : State) : Out := unitWait n 0x22 2 s

/-! ### SYS (Table 10.5) -/

/-- DONE (R253): the job waits for FENCE 0x0F, or takes 1 cycle where that is complete (Table 10.5). -/
def execDone (n : Nat) (s : State) : Out :=
  issue n 0x50 (fun s w =>
    let a := s.gpr n (fRa w)
    if 256 ≤ a then .exc excArg a
    else .own (s.modCore n (fun c => { c with
      wait := .done a, cyc := c.cyc + 1 + s.loadUse n w, hot := 0, stall := !(c.fenced 15) }))) s

/-- The status that DONE gives (Table 10.8): OK, LATE under FINISH, ABORTED where DROP discards a late result (R67). -/
def State.doneStatus (s : State) (n : Nat) : Nat :=
  match (s.core n).inst with
  | none => 0
  | some id =>
    match s.inst? id with
    | none => 0
    | some i => if s.isLate i then (if i.drop then 4 else 1) else 0

/-- JOB_COMPLETE (R253): DONE's fence has completed. A debugger's step ends there, on an IDLE core. -/
def execJobComplete (n : Nat) (s : State) : Out :=
  onUnit n 32 <|
    match s.waiting n with
    | some (.done user) =>
      if (s.core n).fenced 15 then
        let s := s.retired n 0 0 (s.core n).stall
        let c := s.core n
        let st := s.doneStatus n
        let s := s.closeJob n st user 0 cIdle
        let s := s.tellPat n st user 0 c.inst (min c.cyc (2 ^ 32 - 1)) false
        let s := if st = 4 then s.countAbort else s
        .next (if c.left.isSome then s.haltCore n 4 else s)
      else .next s
    | _ => .next s

/-- FENCE (R239). A row that finds the core in this wait ends the wait. -/
def execFence (n : Nat) (s : State) : Out :=
  match s.waiting n with
  | some (.fence x) => if (s.core n).fenced x then .next (s.endWait n 0 0) else .next s
  | _ =>
    issue n 0x51 (fun s w =>
      let x := nbits w 0 6
      if (s.core n).fenced x then .retire s (s.seqPc n) 1 0 else .wait s (s.seqPc n) (.fence x)) s

/-- WAITT (R240). A row that finds the core in this wait ends the wait. -/
def execWaitt (n : Nat) (s : State) : Out :=
  match s.waiting n with
  | some (.waitt rd t) =>
    if (s.slot n t).op.isNone then .next (s.endWait n rd ((s.slot n t).kept.getD 0)) else .next s
  | _ =>
    issue n 0x52 (fun s w =>
      let t := s.gpr n (fRa w)
      if 32 ≤ t then .exc excArg t
      else if (s.slot n t).op.isSome then .wait s (s.seqPc n) (.waitt (fRd w) t)
      else
        match (s.slot n t).kept with
        | some st => s.result n w st 1
        | none => .exc excBadtag t) s

/-- The signed distance to absolute stitch `t`, modulo 2^42 (R238). -/
def State.stitchesTo (s : State) (t : Nat) : Int := sInt 42 (t + 2 ^ 42 - s.absStitch % 2 ^ 42)

/-- WSTITCH (R238). -/
def execWstitch (n : Nat) (s : State) : Out :=
  issue n 0x53 (fun s w =>
    let a := s.gpr n (fRa w)
    let b := s.gpr n (fRb w)
    let t := a * 1024 + b
    let d := s.stitchesTo t
    let x := 1 + s.loadUse n w
    if 1024 ≤ b then .exc excArg b
    else if d ≤ 0 then .retire s (s.seqPc n) x 0
    else if d ≤ 16384 then .wait ((s.wdHold n).setCstate n cSleep) (s.seqPc n) (.sleep t)
    else .exc excBadwait b) s

/-- WSTITCH_WAKE (R238). -/
def execWstitchWake (n : Nat) (s : State) : Out :=
  onUnit n 32 <|
    match s.waiting n with
    | some (.sleep t) =>
      if s.stitchesTo t ≤ 0 then .next (((s.setCstate n cRun).wdRun n).endWait n 0 0) else .next s
    | _ => .next s

/-- A control and status register (Table 10.1), if it exists. -/
def State.csr (s : State) (n x : Nat) : Option Nat :=
  let c := s.core n
  if x = 0x00 then some n
  else if x = 0x01 then some c.arg
  else if x = 0x02 then some (s.fld CORE_JOBCUR_JOB n + 65536 * s.fld CORE_JOBCUR_GROUP n)
  else if x = 0x03 then some c.startA
  else if x = 0x04 then some c.dlA
  else if x = 0x05 then some (s.absStitch % 2 ^ 32)
  else if x = 0x06 then some s.phase
  else if x = 0x07 then some (c.cyc % 2 ^ 32)
  else if x = 0x08 then some c.seed
  else if x = 0x09 then some c.lstat
  else if x = 0x0A then some c.terr
  else if x = 0x0B then some (s.floorOf n)
  else none

/-- A write of a CSR: SEED and TERR alone can be written (Table 10.1). -/
def State.setCsr (s : State) (n x v : Nat) : Option State :=
  if x = 0x08 then some (s.modCore n (fun c => { c with seed := v % 2 ^ 32 }))
  else if x = 0x0A then some (s.modCore n (fun c => { c with terr := 0 }))
  else none

/-- CSRR (R234). -/
def execCsrr (n : Nat) (s : State) : Out :=
  issue n 0x54 (fun s w =>
    let x := nbits w 0 6
    match s.csr n x with
    | some v => s.result n w v 1
    | none => .exc excCsr x) s

/-- CSRW (R234). -/
def execCsrw (n : Nat) (s : State) : Out :=
  issue n 0x55 (fun s w =>
    let x := nbits w 0 6
    match s.setCsr n x (s.gpr n (fRa w)) with
    | some s' => .retire s' (s.seqPc n) (1 + s.loadUse n w) 0
    | none => .exc excCsr x) s

/-- WDKICK (R250). -/
def execWdkick (n : Nat) (s : State) : Out := issue n 0x56 (fun s _ => .retire (s.wdReload n) (s.seqPc n) 1 0) s

/-- BREAK (R472, R248): the core halts with PC at the instruction, or raises BREAK when no debugger is attached. -/
def execBreak (n : Nat) (s : State) : Out :=
  issue n 0x57 (fun s _ =>
    if s.flag DBG_CTRL_ATTACH then .own (s.haltCore n 5) else .exc excBreak (s.pc n)) s

/-! ### Host starts, aborts, halts -/

/-- CORE_HALT (R472): the core reaches an instruction boundary at which it is to halt. -/
def execCoreHalt (n : Nat) (s : State) : Out :=
  onUnit n 32 <|
    match s.haltDue n with
    | some c => .next (s.haltCore n c)
    | none => .next s

end Sys2Proof.Machine
end

