-- ==== Sys2Proof/Machine/Lace.lean ====
section
/-! DEFINITION. Machine/Lace.lean: Lace programs (chapter 14): the header and its checks, the schedule word by word (R325 to R332),
the pivot guard (R312), and the operations of Table 14.3. -/

namespace Sys2Proof.Machine
open Sys2Proof Sys2Proof.Machine.Reg

/-! ### The header (R321, R323) -/

/-- The header of an image as the engine takes it; `at_` is the address of the image. -/
def laceProg (h : List Nat) (at_ : Nat) : LaceProg :=
  { cyc := fieldLE h 8 4, nwords := fieldLE h 12 4, inw := fieldLE h 20 2, outw := fieldLE h 22 2, warmw := fieldLE h 24 2,
    code := at_ + fieldLE h 16 4 }

/-- PROG_FORMAT: the first bullet list of R323. -/
def laceFormatOk (h : List Nat) : Bool :=
  let code := fieldLE h 16 4
  decide (fieldLE h 0 4 = 0x4543414C ∧ fieldLE h 4 2 = 1 ∧ fieldLE h 6 1 ≤ 4 ∧ fieldLE h 26 1 ≤ 64 ∧ fieldLE h 30 1 ≤ 40)
    && decide (fieldLE h 7 1 = 0 ∧ fieldLE h 31 1 = 0 ∧ fieldLE h 38 2 = 0 ∧ fieldLE h 56 8 = 0)
    && decide (64 ≤ fieldLE h 8 4 ∧ fieldLE h 8 4 ≤ 2 ^ 30 ∧ 1 ≤ fieldLE h 12 4 ∧ code % 64 = 0 ∧ 64 ≤ code)
    && decide (1 ≤ fieldLE h 20 2 ∧ fieldLE h 20 2 ≤ 16384 ∧ 1 ≤ fieldLE h 22 2 ∧ fieldLE h 22 2 ≤ 8184)

/-! ### Words (Table 14.2) -/

def lwAdv (w : Nat) : Nat := nbits w 0 6
def lwOp (w : Nat) : Nat := nbits w 6 4
def lwUnit (w : Nat) : Nat := nbits w 10 4
def lwRd (w : Nat) : Nat := nbits w 14 9
def lwRa (w : Nat) : Nat := nbits w 23 9
def lwRb (w : Nat) : Nat := nbits w 32 9
def lwRc (w : Nat) : Nat := nbits w 41 9
def lwX (w : Nat) : Nat := nbits w 50 14
def lwBase (w : Nat) : Nat := nbits w 23 2
def lwOfs (w : Nat) : Nat := nbits w 25 14
def lwStep (w : Nat) : Int := sInt 11 (nbits w 39 11)
def lwLen (w : Nat) : Nat := nbits w 14 18

/-- The kind of unit: 0 FMA pipes, 1 DSU, 2 memory ports, 3 control, 4 reserved. -/
def lwKind (w : Nat) : Nat :=
  let u := lwUnit w
  if u < 8 then 0 else if u < 10 then 1 else if u < 14 then 2 else if u = 14 then 3 else 4

/-- A word's own form is legal (R326, fault 1 of R332): no reserved UNIT, OP or BASE, and every field that is marked 0 or that the
operation does not use is 0. -/
def lwLegal (w : Nat) : Bool :=
  let op := lwOp w
  let a0 := decide (lwRa w = 0)
  let b0 := decide (lwRb w = 0)
  let c0 := decide (lwRc w = 0)
  let x0 := decide (lwX w = 0)
  let d0 := decide (lwRd w = 0)
  match lwKind w with
  | 0 =>
    if op < 3 ∨ op = 11 then x0
    else if op < 8 then c0 && x0
    else if op < 11 then b0 && c0 && x0
    else if op = 12 then a0 && b0 && c0
    else false
  | 1 => if op = 0 then c0 && x0 else if op = 1 then b0 && c0 && x0 else decide (op < 6)
  | 2 => decide (op < 2 ∧ lwBase w < 3) && x0
  | 3 =>
    if op = 0 then d0 && a0 && b0 && c0 && x0
    else if op = 1 then d0 && a0 && b0 && c0
    else if op = 2 then a0 && b0 && c0
    else if op = 3 then b0 && c0
    else if op = 4 then d0 && x0
    else false
  | _ => false

/-- Latency of a word that has a result, and the register it lands in (Table 14.3). -/
def lwResult (w : Nat) : Option (Nat × Nat) :=
  match lwKind w with
  | 0 => some (4, lwRd w)
  | 1 => some (if lwOp w = 1 then 16 else 14, lwRd w)
  | 2 => if lwOp w = 0 then some (6, lwRd w) else none
  | _ => if lwOp w = 2 then some (4, lwRd w) else none

/-- A REP. -/
def isRep (w : Nat) : Bool := decide (lwKind w = 3 ∧ lwOp w = 3)

/-! ### Fetch (R330) -/

/-- One word is fetched. A body word passes into the loop buffer, any other stays in the queue. -/
def LaceRun.take1 (l : LaceRun) (w : Nat) : LaceRun :=
  let i := l.fetched
  let body := decide (i < l.bodyEnd)
  { l with
    fetched := i + 1, held := l.held ++ [(i, w)],
    inq := if body then l.inq else l.inq + 1,
    bodyEnd := if isRep w then max l.bodyEnd (i + 1 + lwLen w) else l.bodyEnd }

/-- The queue is not full. -/
def LaceRun.room (l : LaceRun) : Bool := decide (l.inq < 64)

/-- The words fetched in cycle `c`, the words of a program being read through `src`: consecutive words, one from each bank. -/
def LaceRun.fetchIn (l : LaceRun) (src : Nat → Nat) (p : LaceProg) (c : Nat) : Nat → LaceRun
  | 0 => l
  | n + 1 =>
    let b := l.fetched % 8
    if p.nwords ≤ l.fetched ∨ b = c % 8 ∨ (c = l.cyc ∧ b ∈ l.banks) ∨ ¬ l.room then l
    else (l.take1 (src l.fetched)).fetchIn src p c n

/-- Fetch in every cycle before `c`; `n` bounds the cycles (once nothing is fetched in 9 cycles, nothing will be). -/
def LaceRun.fetchTo (l : LaceRun) (src : Nat → Nat) (p : LaceProg) (c : Nat) : Nat → LaceRun
  | 0 => { l with fcyc := max l.fcyc c }
  | n + 1 => if c ≤ l.fcyc then l else ({ (l.fetchIn src p l.fcyc 8) with fcyc := l.fcyc + 1 } : LaceRun).fetchTo src p c n

/-- Before cycle 0, the first 64 words are fetched (R324). -/
def LaceRun.start (src : Nat → Nat) (p : LaceProg) : LaceRun :=
  (List.range (min 64 p.nwords)).foldl (fun l i => l.take1 (src i)) {}

/-! ### The schedule (R325 to R332) -/

/-- The next word after `pc`, and the open repetitions then. -/
def laceNext : List (Nat × Nat × Nat × Nat) → Nat → Nat × List (Nat × Nat × Nat × Nat)
  | [], pc => (pc + 1, [])
  | (first, len, count, i) :: t, pc =>
    if pc + 1 < first + len then (pc + 1, (first, len, count, i) :: t)
    else if i + 1 < count then (first, (first, len, count, i + 1) :: t)
    else laceNext t pc

/-- The words of an outer body before `pc` hold a REP. -/
def LaceRun.repBefore (l : LaceRun) (first pc : Nat) : Bool :=
  l.held.any (fun x => decide (first ≤ x.1 ∧ x.1 < pc) && isRep x.2)

/-- The repetition index of the innermost REP, if there is one. -/
def LaceRun.index (l : LaceRun) : Option Nat := l.reps.head?.map (fun r => r.2.2.2)

/-- The effective offset of a memory word (R328). -/
def LaceRun.effOfs (l : LaceRun) (w : Nat) : Int := (lwOfs w : Int) + lwStep w * ((l.index.getD 0 : Nat) : Int)

/-- Fault 4 of R332 does not apply to memory word `w` in cycle `c`, with the banks of that cycle. -/
def LaceRun.memOk (l : LaceRun) (p : LaceProg) (w c : Nat) (banks : List Nat) : Bool :=
  let e := l.effOfs w
  let lim := if lwBase w = 0 then p.inw else if lwBase w = 1 then p.outw else p.warmw
  let b := (e % 8).toNat
  (l.index.isSome || decide (lwStep w = 0)) && decide (0 ≤ e ∧ e < (lim : Int)) && decide (b ≠ c % 8) && !(banks.contains b)
    && !(decide (lwOp w = 1 ∧ lwBase w = 0))

/-- Fault 5 does not apply to REP word `w` at `pc`. -/
def LaceRun.repOk (l : LaceRun) (p : LaceProg) (w : Nat) : Bool :=
  let len := lwLen w
  decide (1 ≤ len ∧ len ≤ 1024 ∧ lwX w ≠ 0 ∧ l.pc + len < p.nwords)
    && (match l.reps with
      | [] => true
      | [(first, n, _, _)] => decide (l.pc + len < first + n) && !(l.repBefore first l.pc)
      | _ => false)

/-- The cycle in which the next word issues, and the fetch up to then; none if the word is not there in time (fault 6) or there is no
next word (fault 7). -/
def LaceRun.nextWord (l : LaceRun) (src : Nat → Nat) (p : LaceProg) : Option (LaceRun × Nat × Nat) :=
  if p.nwords ≤ l.pc then none
  else
    let w0 := (look l.held l.pc).getD (src l.pc)
    let c := l.base + lwAdv w0
    let l := l.fetchTo src p c (c - l.fcyc)
    (look l.held l.pc).map (fun w => (l, w, c))

/-- A word is END. -/
def isEnd (w : Nat) : Bool := decide (lwKind w = 3 ∧ lwOp w = 4)

/-- Word `w` breaks none of faults 1 to 5 of R332 when it issues in cycle `c`, nor R331. -/
def LaceRun.wordOk (l : LaceRun) (p : LaceProg) (w c : Nat) : Bool :=
  let units := if c = l.cyc then l.units else []
  let banks := if c = l.cyc then l.banks else []
  let last := p.cyc - 1
  let kind := lwKind w
  let okRes : Bool := match lwResult w with
    | some (lat, r) => decide (c + lat ≤ last) && !(l.lands.any (fun x => decide (x.1 = c + lat ∧ x.2.1 = r)))
    | none => true
  lwLegal w && !(units.contains (lwUnit w)) && okRes && (decide (kind ≠ 2) || (decide (c ≤ last) && l.memOk p w c banks))
    && (!(isRep w) || l.repOk p w) && (!(isEnd w) || decide (c = last))

/-- Results in flight with one more, in the order in which they land (R327). -/
def insertLand (x : Nat × Nat × Nat) (l : List (Nat × Nat × Nat)) : List (Nat × Nat × Nat) :=
  l.filter (fun y => decide (y.1 ≤ x.1)) ++ [x] ++ l.filter (fun y => decide (x.1 < y.1))

/-- The next word issues: the state of the schedule after it, with `v` as its result; none if it faults, or is an END with a word after it (R332). -/
def LaceRun.issue (l : LaceRun) (p : LaceProg) (w c v : Nat) : Option LaceRun :=
  if ¬ l.wordOk p w c then none
  else
    let kind := lwKind w
    let flying := l.lands.filter (fun x => decide (c < x.1))
    let l : LaceRun := { l with
      cyc := c, units := lwUnit w :: (if c = l.cyc then l.units else []),
      banks := (if kind = 2 then [(l.effOfs w % 8).toNat] else []) ++ (if c = l.cyc then l.banks else []),
      base := if kind = 3 ∧ lwOp w = 1 then c + lwX w else c,
      lands := match lwResult w with
        | some (lat, r) => insertLand (c + lat, r, v) flying
        | none => flying }
    let l : LaceRun := if l.reps.isEmpty then { l with inq := l.inq - 1, held := l.held.filter (fun x => decide (l.pc < x.1)) } else l
    if isRep w then
      some { l with pc := l.pc + 1, reps := (l.pc + 1, lwLen w, lwX w, 0) :: l.reps }
    else
      let (pc, reps) := laceNext l.reps l.pc
      let l : LaceRun := { l with
        pc := pc, reps := reps, held := if reps.isEmpty then l.held.filter (fun x => decide (pc ≤ x.1)) else l.held }
      if isEnd w then
        if pc < p.nwords then none else some { l with ended := some (lwRa w, lwRb w, lwRc w) }
      else some l

/-- The schedule of a whole program without its data (R334): the index of the first faulting word, if a word faults; where words run out without END,
the last one. `n` bounds the words issued. -/
def laceReplay (src : Nat → Nat) (p : LaceProg) : Nat → LaceRun → Option Nat
  | 0, l => some l.pc
  | n + 1, l =>
    if l.ended.isSome then none
    else
      match l.nextWord src p with
      | none => some (min l.pc (p.nwords - 1))
      | some (l, w, c) =>
        match l.issue p w c 0 with
        | none => if l.wordOk p w c then some (l.pc + 1) else some l.pc
        | some l => laceReplay src p n l

/-! ### The pivot guard (R312, Table 13.5) -/

/-- δ × reference, a reference of 0 being taken as 1. -/
def pivotDelta (delta ref : Nat) : Nat :=
  ((Num.fin false 1 (-(delta : Int))).mul (if (of64 ref).isZero then Num.fin false 1 0 else of64 ref)).to64

/-- A guarded pivot: the value used, and the flags PIV_TINY (1) and PIV_ZERO (2), none of them where the pivot passes. `pos` is the
guard with σ = +1. A pivot of zero whose scale and reference are zero fails too, as the edge "every input value is zero" has it, although 0 is
not less than 0 (log 106). -/
def guardPivot (tau delta : Nat) (pos : Bool) (p scale ref : Nat) : Nat × Nat :=
  let lim := (Num.fin false 1 (-(tau : Int))).mul (of64 scale)
  let x := of64 p
  let fails := (if pos then x else x.abs).lt lim || (x.isZero && (of64 scale).isZero && (of64 ref).isZero)
  if fails then
    let d := pivotDelta delta ref
    (if !pos && decide (p / 2 ^ 63 = 1) then neg64 d else d, if x.isZero then 3 else 1)
  else (p, 0)

/-! ### Running a word -/

/-- The register of a running solve. -/
def Solve.d (v : Solve) (r : Nat) : Nat := (sparseGet (fun _ => (0 : DWord)) v.regs r).toNat
def Solve.setD (v : Solve) (r x : Nat) : Solve :=
  { v with regs := sparseSet (fun _ => (0 : DWord)) v.regs r (BitVec.ofNat 64 x) }

/-- Results land up to cycle `c`. -/
def Solve.landTo (v : Solve) (c : Nat) : Solve :=
  (v.lace.lands.filter (fun x => decide (x.1 ≤ c))).foldl (fun v x => v.setD x.2.1 x.2.2) v

/-- Where base `b` of a running solve of engine `k` begins (R298, R324): the latched page, byte 64 of the output buffer, the warm area. -/
def State.solveBase (s : State) (k : Nat) (v : Solve) (b : Nat) : Nat :=
  let i := v.slot
  if b = 0 then s.pageAt k i v.latch.page
  else if b = 1 then
    64 * s.live SOL_SLOTOUT_OUT k i + 1024 * s.live SOL_SLOTSZ_OUTSIZE k i * (v.seq % 2) + 64
  else 64 * s.live SOL_SLOTWARM_WARM k i

/-- A constant of CONST; for an X that Table 14.3 does not list a free value, the same in every run (R299). -/
def laceConst (x : Nat) : Nat :=
  ([0, 0x3FF0000000000000, 0xBFF0000000000000, 0x3FE0000000000000, 0x4000000000000000, 0x7FF0000000000000, 0xFFF0000000000000,
    nan64] : List Nat).getD x (Config.denseWord [x] (2 ^ 25)).toNat

/-- The result of an arithmetic word from its operands (Table 14.3), for everything but the guards. -/
def laceArith (kind op a b c : Nat) : Nat :=
  if kind = 0 then
    match op with
    | 0 => fma64 a b c
    | 1 => fma64 a b (neg64 c)
    | 2 => fma64 (neg64 a) b c
    | 3 => add64 a b
    | 4 => sub64 a b
    | 5 => mul64 a b
    | 6 => max64 a b
    | 7 => min64 a b
    | 8 => abs64 a
    | 9 => neg64 a
    | 10 => a
    | _ => if isNan64 c || lt64 c 0 then b else a
  else if op = 0 then div64 a b
  else sqrt64 a

/-- The row of a word: kind and OP. -/
def lwRow (w : Nat) : Nat := 16 * lwKind w + lwOp w

/-- The engine runs a sequenced solve whose program has not ended, and this is its schedule. -/
def State.laceRunning (s : State) (k : Nat) : Option (Solve × LaceProg) :=
  match (s.engine k).run with
  | some v =>
    match v.prog with
    | some p => if v.skip || v.lace.faulted || v.lace.ended.isSome then none else some (v, p)
    | none => none
  | none => none

def State.setSolve (s : State) (k : Nat) (v : Solve) : State := s.modEngine k (fun e => { e with run := some v })

/-- The words of the program as the store holds them. -/
def State.laceSrc (s : State) (k : Nat) (p : LaceProg) (i : Nat) : Nat := s.solLE k (p.code + 8 * i) 8

/-- A schedule fault (R333): the word has no effect and no further word issues. -/
def Solve.fault (v : Solve) : Solve := { v with lace := { v.lace with faulted := true } }

/-- What a guard word computes, with the flags, count and index it leaves (R312). -/
def Solve.guard (v : Solve) (tau delta op a b c x : Nat) : Solve × Nat :=
  let (p, f) := guardPivot tau delta (decide (op = 3 ∨ op = 5)) a b c
  let v := if f = 0 then v
    else { v with flags := v.flags ||| f, npiv := v.npiv + 1, pividx := v.pividx.orElse (fun _ => some x) }
  (v, if op < 4 then div64 0x3FF0000000000000 p else p)

/-- The next word of engine `k` issues if it is of row `want`; a word that faults faults under any row. -/
def State.laceStep (s : State) (k want : Nat) : State :=
  match s.laceRunning k with
  | none => s
  | some (v, p) =>
    match v.lace.nextWord (s.laceSrc k p) p with
    | none => s.setSolve k v.fault
    | some (l, w, c) =>
      match l.issue p w c 0 with
      | none => s.setSolve k v.fault
      | some _ =>
        if lwRow w ≠ want then s
        else
          let v := { v.landTo c with lace := l }
          let kind := lwKind w
          let op := lwOp w
          let a := v.d (lwRa w)
          let b := v.d (lwRb w)
          let cc := v.d (lwRc w)
          let addr := s.solveBase k v (lwBase w) + 8 * (l.effOfs w).toNat
          let (v, res) : Solve × Nat :=
            if kind = 0 then
              if op = 12 then (v, laceConst (lwX w)) else (v, laceArith 0 op a b cc)
            else if kind = 1 then
              if op < 2 then (v, laceArith 1 op a b cc)
              else v.guard (s.live SOL_SLOTPIV_TAU_EXP k v.slot) (s.live SOL_SLOTPIV_DELTA_EXP k v.slot) op a b cc (lwX w)
            else if kind = 2 then (v, s.solLE k addr 8)
            else if op = 2 then
              (v, if lwX w = 0 then (Num.fin false v.latch.arg 0).to64
                  else if lwX w = 1 then (if v.warmv then 0x3FF0000000000000 else 0)
                  else if lwX w = 2 then (Num.fin false (k * 32 + v.slot) 0).to64
                  else (Config.denseWord [lwX w, 1] (2 ^ 25)).toNat)
            else (v, 0)
          let s := if kind = 2 ∧ op = 1 then s.putSol k addr (toBytes 8 (v.d (lwRd w))) else s
          match l.issue p w c res with
          | some l => s.setSolve k { v with lace := l }
          | none => s

/-- A Lace row on engine `k`. -/
def laceRow (k want : Nat) (s : State) : Out := onUnit k 2 (.next (s.laceStep k want))

/-- LACE_FMA (R327). -/
def execLaceFma (k : Nat) (s : State) : Out := laceRow k 0 s
/-- LACE_FMS (R327). -/
def execLaceFms (k : Nat) (s : State) : Out := laceRow k 1 s
/-- LACE_FNMA (R327). -/
def execLaceFnma (k : Nat) (s : State) : Out := laceRow k 2 s
/-- LACE_ADD (R327). -/
def execLaceAdd (k : Nat) (s : State) : Out := laceRow k 3 s
/-- LACE_SUB (R327). -/
def execLaceSub (k : Nat) (s : State) : Out := laceRow k 4 s
/-- LACE_MUL (R327). -/
def execLaceMul (k : Nat) (s : State) : Out := laceRow k 5 s
/-- LACE_MAX (R327). -/
def execLaceMax (k : Nat) (s : State) : Out := laceRow k 6 s
/-- LACE_MIN (R327). -/
def execLaceMin (k : Nat) (s : State) : Out := laceRow k 7 s
/-- LACE_ABS (R327). -/
def execLaceAbs (k : Nat) (s : State) : Out := laceRow k 8 s
/-- LACE_NEG (R327). -/
def execLaceNeg (k : Nat) (s : State) : Out := laceRow k 9 s
/-- LACE_MOV (R327). -/
def execLaceMov (k : Nat) (s : State) : Out := laceRow k 10 s
/-- LACE_SEL (R327). -/
def execLaceSel (k : Nat) (s : State) : Out := laceRow k 11 s
/-- LACE_CONST (R327). -/
def execLaceConst (k : Nat) (s : State) : Out := laceRow k 12 s
/-- LACE_DIV (R327). -/
def execLaceDiv (k : Nat) (s : State) : Out := laceRow k 16 s
/-- LACE_SQRT (R327). -/
def execLaceSqrt (k : Nat) (s : State) : Out := laceRow k 17 s
/-- LACE_PIVR (R312, R327). -/
def execLacePivr (k : Nat) (s : State) : Out := laceRow k 18 s
/-- LACE_PIVRP (R312, R327). -/
def execLacePivrp (k : Nat) (s : State) : Out := laceRow k 19 s
/-- LACE_GPIV (R312, R327). -/
def execLaceGpiv (k : Nat) (s : State) : Out := laceRow k 20 s
/-- LACE_GPIVP (R312, R327). -/
def execLaceGpivp (k : Nat) (s : State) : Out := laceRow k 21 s
/-- LACE_LD (R328). -/
def execLaceLd (k : Nat) (s : State) : Out := laceRow k 32 s
/-- LACE_ST (R328). -/
def execLaceSt (k : Nat) (s : State) : Out := laceRow k 33 s
/-- LACE_NOP (R325). -/
def execLaceNop (k : Nat) (s : State) : Out := laceRow k 48 s
/-- LACE_WAIT (R325). -/
def execLaceWait (k : Nat) (s : State) : Out := laceRow k 49 s
/-- LACE_SPEC (R327). -/
def execLaceSpec (k : Nat) (s : State) : Out := laceRow k 50 s
/-- LACE_REP (R329). -/
def execLaceRep (k : Nat) (s : State) : Out := laceRow k 51 s
/-- LACE_END (R331). -/
def execLaceEnd (k : Nat) (s : State) : Out := laceRow k 52 s

end Sys2Proof.Machine
end

