-- ==== Sys2Proof/Machine/Dense.lean ====
section
/-! DEFINITION. Machine/Dense.lean: the dense kernels (R308, R309, R312). The spec does not give the order in which a kernel rounds. A word that every
order gives is computed here; any other word is a free value of the words that are read, inside the bounds that hold in every order (log 105). -/

namespace Sys2Proof.Machine
open Sys2Proof

/-- What a dense solve finds: solution words, residual, replaced pivots, flags, first replaced pivot, cycles. -/
structure Found where
  words : List Nat
  resid : Nat
  npiv : Nat
  flags : Nat
  pividx : Option Nat
  nanIn : Bool
  cycles : Nat
  deriving DecidableEq, Repr

/-- A kernel and its dimensions. -/
structure Kern where
  kernel : Nat
  upper : Bool
  m : Nat
  n : Nat
  r : Nat
  res : Nat
  deriving DecidableEq, Repr

/-! ### The page (R309) -/

/-- Entry (i, j) of A is read. -/
def Kern.reads (q : Kern) (i j : Nat) : Bool :=
  if q.kernel < 2 then decide (j ≤ i) else if q.kernel = 2 then true else if q.upper then decide (i ≤ j) else decide (j ≤ i)

/-- Entry (i, j) of A, and entry i of column c of B, among the page's words. -/
def Kern.a (q : Kern) (pw : List Nat) (i j : Nat) : Nat := pw.getD (i * q.n + j) 0
def Kern.b (q : Kern) (pw : List Nat) (c i : Nat) : Nat := pw.getD (q.m * q.n + c * q.m + i) 0
/-- Entry (i, j) of the matrix that A stands for: symmetric, whole, or triangular. -/
def Kern.entry (q : Kern) (pw : List Nat) (i j : Nat) : Nat :=
  if q.reads i j then q.a pw i j else if q.kernel < 2 then q.a pw j i else 0

/-- Every word the kernel reads. -/
def Kern.input (q : Kern) (pw : List Nat) : List Nat :=
  ((List.range q.m).flatMap (fun i => ((List.range q.n).filter (q.reads i)).map (fun j => q.a pw i j)))
    ++ (List.range (q.m * q.r)).map (fun t => pw.getD (q.m * q.n + t) 0)

/-- What a free word of a dense solve depends on (R299): the kernel, its dimensions, the pivot thresholds and the words it reads. -/
def Kern.key (q : Kern) (tau delta : Nat) (pw : List Nat) : List Nat :=
  [q.kernel, if q.upper then 1 else 0, q.m, q.n, q.r, q.res, tau, delta] ++ q.input pw

/-! ### What every order of rounding has in common -/

/-- A binary64 value of a kernel: the word that every order of rounding gives, bounds that hold in every order, or nothing. -/
inductive Ex where
  | word (w : Nat)
  | range (lo hi : Num)
  | any
  deriving DecidableEq, Repr

def one64 : Nat := 0x3FF0000000000000
def pow2 (e : Int) : Num := .fin false 1 e
def Num.least (l : List Num) : Num := l.foldl (fun a b => if b.lt a then b else a) (l.headD Num.zero)
def Num.most (l : List Num) : Num := l.foldl (fun a b => if a.lt b then b else a) (l.headD Num.zero)
/-- The word that the number rounds to is the number. -/
def Num.exact (x : Num) : Bool := isFin64 x.to64 && ((of64 x.to64).sub x).isZero

def Ex.isNan : Ex → Bool
  | .word w => isNan64 w
  | _ => false
def Ex.isWord : Ex → Bool
  | .word _ => true
  | _ => false
def Ex.num : Ex → Num
  | .word w => of64 w
  | _ => .nan
def Ex.isZero (x : Ex) : Bool := x.num.isZero
/-- Bounds of a value that is known to be finite. -/
def Ex.bounds : Ex → Option (Num × Num)
  | .word w => if isFin64 w then some (of64 w, of64 w) else none
  | .range lo hi => some (lo, hi)
  | .any => none
def Ex.neg : Ex → Ex
  | .word w => .word (neg64 w)
  | .range lo hi => .range hi.neg lo.neg
  | .any => .any
/-- The word itself, or a free word inside the bounds. -/
def Ex.pick (x : Ex) (free : Nat) : Nat :=
  match x with
  | .word w => w
  | .any => free
  | .range lo hi =>
    let u := of64 free
    if u.isFin && !(u.lt lo) && !(hi.lt u) then free else ((lo.add hi).mul (pow2 (-1))).to64

/-- A bound of at most 64 bits above (`up`) or below a finite number. -/
def Num.coarse (up : Bool) : Num → Num
  | .fin s m e =>
    let k := bitLen m - 64
    .fin s (m / 2 ^ k + (if s = up ∨ m % 2 ^ k = 0 then 0 else 1)) (e + k)
  | x => x

/-- Bounds of a result that lies between `lo` and `hi` before up to `k` roundings of values of at most `mag`. -/
def rounded (k : Nat) (lo hi mag : Num) : Ex :=
  let err := (mag.mul (.fin false k (-51))).add (pow2 (-1060))
  if mag.lt (pow2 1000) then .range ((lo.sub err).coarse false) ((hi.add err).coarse true) else .any
/-- A value within a few roundings of `x`. -/
def Ex.loose (x : Ex) : Ex :=
  match x.bounds with
  | some (lo, hi) => rounded 4 lo hi (Num.most [lo.abs, hi.abs])
  | none => x

/-- The exponent of a finite number, and its magnitude on the grid 2^q. -/
def Num.lowExp : Num → Int
  | .fin _ _ e => e
  | _ => 0
def Num.onGrid (q : Int) : Num → Nat
  | .fin s m e => (Machine.onGrid s m e q).natAbs
  | _ => 0

/-- No sum of some of these finite terms rounds, in whatever order they are added: they are multiples of one power of two, and their magnitudes
together have 53 bits. -/
def sumFixed (l : List Num) : Bool :=
  let l := l.filter (fun x => !x.isZero)
  let q := l.foldl (fun q x => min q x.lowExp) 0
  let ms := l.map (Num.onGrid q)
  let g := ms.foldl Nat.gcd 0
  let low := Nat.gcd g (2 ^ bitLen g)
  let sum := ms.foldl (· + ·) 0
  decide (sum ≤ 2 ^ 53 * low ∧ -1074 ≤ q + (bitLen low : Int) - 1 ∧ q + (bitLen sum : Int) ≤ 1023) || l.isEmpty

/-- The sum of words whose exact terms are these: fixed where every order agrees. -/
def sumWords (terms : List Num) : Option Ex :=
  let fins := terms.filter Num.isFin
  let mag := fins.foldl (fun a t => a.add t.abs) Num.zero
  let up := terms.any (fun t => decide (t = .inf false))
  let down := terms.any (fun t => decide (t = .inf true))
  if terms.any Num.isNan || (up && down) then some (.word nan64)
  else if up || down then (if mag.lt (pow2 1000) then some (.word (Num.inf down).to64) else none)
  else if sumFixed terms || decide (terms.length ≤ 1) || (decide (terms.length = 2) && terms.all Num.exact) then
    some (.word ((terms.tail.foldl Num.add (terms.headD Num.zero)).to64))
  else none

/-- a + Σ p · q. -/
def exAdd (a : Ex) (l : List (Ex × Ex)) : Ex :=
  let all := a :: l.flatMap (fun p => [p.1, p.2])
  let words := if all.all Ex.isWord then sumWords (a.num :: l.map (fun p => p.1.num.mul p.2.num)) else none
  if all.any Ex.isNan then .word nan64
  else
    match words with
    | some x => x
    | none =>
      let bs := (a.bounds :: l.map (fun p => match p.1.bounds, p.2.bounds with
        | some (al, ah), some (bl, bh) =>
          let c := [al.mul bl, al.mul bh, ah.mul bl, ah.mul bh]
          some (Num.least c, Num.most c)
        | _, _ => none))
      if bs.any Option.isNone then .any
      else
        let bs := bs.filterMap id
        let sum := fun (f : Num × Num → Num) => bs.foldl (fun a b => a.add (f b)) Num.zero
        rounded (l.length + 4) (sum Prod.fst) (sum Prod.snd) (sum (fun b => Num.most [b.1.abs, b.2.abs]))
/-- a − Σ p · q. -/
def exSub (a : Ex) (l : List (Ex × Ex)) : Ex := exAdd a (l.map (fun p => (p.1.neg, p.2)))

/-- The quotient of two words is exact. -/
def exactQuot (a b : Ex) : Bool := a.isWord && b.isWord && (a.num.div b.num).exact
/-- a ÷ b: fixed where it is exact, or where multiplying by the rounded reciprocal gives the same. -/
def exDiv (a b : Ex) : Ex :=
  if a.isNan || b.isNan then .word nan64
  else
    let w := (a.num.div b.num).to64
    if a.isWord && b.isWord && (exactQuot a b || decide (mul64 a.num.to64 (div64 one64 b.num.to64) = w)) then .word w
    else
      match a.bounds, b.bounds with
      | some (al, ah), some (bl, bh) =>
        if Num.zero.lt bl || bh.lt Num.zero then
          let c := [al.div bl, al.div bh, ah.div bl, ah.div bh]
          rounded 8 (Num.least c) (Num.most c) (Num.most (c.map Num.abs))
        else .any
      | _, _ => .any
def exSqrt (a : Ex) : Ex :=
  match a with
  | .word w => .word (sqrt64 w)
  | .range lo hi => if lo.lt Num.zero then .any else rounded 4 lo.sqrt hi.sqrt (Num.most [hi.sqrt, pow2 0])
  | .any => .any
/-- A value that is not negative. -/
def Ex.nonneg : Ex → Ex
  | .range lo hi => .range (Num.most [lo, Num.zero]) hi
  | x => x
def Ex.abs : Ex → Ex
  | .word w => .word (abs64 w)
  | .range lo hi => if lo.lt Num.zero ∧ Num.zero.lt hi then .range Num.zero (Num.most [lo.neg, hi]) else .range (Num.least [lo.abs, hi.abs]) (Num.most [lo.abs, hi.abs])
  | .any => .any
/-- ‖x‖₂. -/
def exNorm (x : List Ex) : Ex :=
  let x := x.map Ex.abs
  (exSqrt (exAdd (.word 0) (x.zip x)).nonneg).nonneg

/-! ### Pivots (R312, Table 13.5) -/

def maxAbs (l : List Nat) : Nat := l.foldl (fun x y => max64 x (abs64 y)) 0

/-- Scale of pivot `j`, and the reference. -/
def Kern.scale (q : Kern) (pw : List Nat) (j : Nat) : Ex :=
  if q.kernel < 2 then .word (maxAbs ((List.range q.n).map (fun t => q.entry pw j t)))
  else if q.kernel = 2 then
    let x := exNorm ((List.range q.m).map (fun i => .word (q.a pw i j)))
    if q.m = 1 then x else x.loose
  else .word (maxAbs (((List.range q.n).filter (q.reads j)).map (fun t => q.a pw j t)))
def Kern.ref (q : Kern) (pw : List Nat) : Ex :=
  if q.kernel = 2 then
    let l := (List.range q.n).map (q.scale pw)
    if l.all Ex.isWord then .word (maxAbs (l.map (fun x => x.num.to64)))
    else if l.any (fun x => x.bounds.isNone) then .any
    else .range (Num.most ((l.filterMap Ex.bounds).map Prod.fst)) (Num.most ((l.filterMap Ex.bounds).map Prod.snd))
  else .word (maxAbs ((List.range q.n).map (fun j => q.a pw j j)))

/-- Whether p < τ · s, as far as it is known. -/
def belowLimit (tau : Nat) (p s : Ex) : Option Bool :=
  match p.bounds, s.bounds with
  | some (pl, ph), some (sl, sh) =>
    if ph.lt ((pow2 (-(tau : Int))).mul sl) then some true else if pl.lt ((pow2 (-(tau : Int))).mul sh) then none else some false
  | _, _ => none

/-- The guard on pivot `j`: the pivot used, and its flags. Where the orders of rounding disagree, or the sign of the pivot is not known, free values
decide. -/
def Kern.guard (q : Kern) (tau delta : Nat) (key pw : List Nat) (j : Nat) (p : Ex) : Ex × Nat :=
  let u := (Config.denseWord key (2 ^ 20 + j)).toNat
  let s := q.scale pw j
  let r := q.ref pw
  if p.isWord && s.isWord && r.isWord then
    let g := guardPivot tau delta (decide (q.kernel = 0)) (p.pick 0) (s.pick 0) (r.pick 0)
    (.word g.1, g.2)
  else if p.isNan || s.isNan then (p, 0)
  else if (belowLimit tau (if q.kernel = 0 then p else p.abs) s).getD (u.testBit 0) then
    let neg := match p.bounds with
      | some (lo, hi) => if hi.lt Num.zero then some true else if Num.zero.lt lo then some false else none
      | none => none
    let neg := if q.kernel = 0 then some false else neg
    let d := if r.isWord then some (pivotDelta delta (r.pick 0)) else none
    let zero := p.isZero || (!p.isWord && neg.isNone && u.testBit 1)
    (match neg, d with
      | some n, some d => .word (if n then neg64 d else d)
      | _, _ => .any, if zero then 3 else 1)
  else (p, 0)

/-- What a factorisation gives: rows of factors, the divisors of each column, the flags of each pivot. -/
structure Fact where
  rows : List (List Ex) := []
  d : List Ex := []
  flags : List Nat := []
  deriving DecidableEq, Repr

def Fact.l (f : Fact) (i j : Nat) : Ex := (f.rows.getD i []).getD j .any

/-- Row `j` of L of CHOL (A = LLᵀ) or LDLT (A = LDLᵀ), left of its diagonal: each entry as the sums of later entries and of the pivot take it, with
what it is multiplied by there. In LDLT the product may be formed from L and D, which differs where the quotient has rounded. -/
def Kern.factRow (q : Kern) (pw : List Nat) (f : Fact) (j : Nat) : List (Ex × Ex) :=
  (List.range j).foldl (fun acc k =>
    let v := exSub (.word (q.a pw j k)) ((acc.map Prod.fst).zip (f.rows.getD k []))
    let d := f.d.getD k .any
    let l := exDiv v d
    acc ++ [(if q.kernel = 0 then l else if exactQuot v d then v else v.loose, l)]) []

/-- CHOL and LDLT row by row. -/
def Kern.factor (q : Kern) (tau delta : Nat) (key pw : List Nat) : Fact :=
  (List.range q.n).foldl (fun f j =>
    let row := q.factRow pw f j
    let (p, fl) := q.guard tau delta key pw j (exSub (.word (q.a pw j j)) row)
    { rows := f.rows ++ [row.map Prod.snd], d := f.d ++ [if q.kernel = 0 then exSqrt p else p], flags := f.flags ++ [fl] }) {}

/-- TRI reads its pivots. -/
def Kern.tri (q : Kern) (tau delta : Nat) (key pw : List Nat) : Fact :=
  let g := (List.range q.n).map (fun j => q.guard tau delta key pw j (.word (q.a pw j j)))
  { rows := (List.range q.n).map (fun i => (List.range q.n).map (fun j => .word (q.a pw i j))), d := g.map Prod.fst, flags := g.map Prod.snd }

/-! ### QR, where the formula leaves more open: only words reached without any rounding are known -/

/-- A finite word reached without rounding. -/
abbrev Xw := Option Nat

def xwWord (w : Nat) : Xw := if isFin64 w then some w else none
def xwNum (x : Num) : Xw := if x.exact then some x.to64 else none
def xwOp (f : Num → Num → Num) : Xw → Xw → Xw
  | some a, some b => xwNum (f (of64 a) (of64 b))
  | _, _ => none
def xwNeg (a : Xw) : Xw := a.map neg64
/-- a ± the sum of the products of the pairs, none of whose orders rounds. -/
def xwAdd (a : Xw) (l : List (Xw × Xw)) : Xw :=
  match a, l.all (fun p => p.1.isSome && p.2.isSome) with
  | some a, true =>
    let terms := of64 a :: l.map (fun p => (of64 (p.1.getD 0)).mul (of64 (p.2.getD 0)))
    if sumFixed terms then xwNum (terms.tail.foldl Num.add (of64 a)) else none
  | _, _ => none
def xwNorm (x : List Xw) : Xw := (xwAdd (some 0) (x.zip x)).bind (fun w => xwNum (of64 w).sqrt)
def xwIsZero (a : Xw) : Bool := (a.map (fun w => (of64 w).isZero)).getD false
def Xw.ex (a : Xw) : Ex :=
  match a with
  | some w => .word w
  | none => .any

/-- One Householder step on the columns that are left (each row: the column reduced, then the others): the row of R, and the rest. -/
def qrStep (m : List (List Xw)) : List Xw × List (List Xw) :=
  let x := m.map (fun row => row.headD none)
  let rest := m.map List.tail
  if x.tail.all xwIsZero then (x.headD none :: rest.headD [], rest.tail)
  else
    let x0 := x.headD none
    let norm := xwNorm x
    let neg := (x0.map (fun w => decide (w / 2 ^ 63 = 1))).getD false
    let sn := if neg then xwNeg norm else norm
    let v := xwAdd x0 [(sn, some one64)] :: x.tail
    let den := xwOp Num.mul sn (v.headD none)
    let f := (List.range (rest.headD []).length).map (fun c =>
      xwOp Num.div (xwAdd (some 0) (v.zip (rest.map (fun row => row.getD c none)))) den)
    let rest := (rest.zip v).map (fun (row, vi) => (row.zip f).map (fun (a, fc) => xwAdd a [(xwNeg vi, fc)]))
    (xwNeg sn :: rest.headD [], rest.tail)

/-- The rows of R beside QᵀB. -/
def qrRows : Nat → List (List Xw) → List (List Xw)
  | 0, _ => []
  | n + 1, m =>
    let (row, rest) := qrStep m
    row :: qrRows n rest

/-- QR: R without its diagonal, the diagonal, the flags. The sign of R_jj is the kernel's own, so a replaced pivot is not known. -/
def Kern.qr (q : Kern) (tau delta : Nat) (key pw : List Nat) : Fact × List (List Ex) :=
  let rows := qrRows q.n ((List.range q.m).map (fun i =>
    (List.range q.n).map (fun j => xwWord (q.a pw i j)) ++ (List.range q.r).map (fun c => xwWord (q.b pw c i))))
  let g := (List.range q.n).map (fun j =>
    let g := q.guard tau delta key pw j (Xw.ex ((rows.getD j []).headD none))
    (if g.2 = 0 then g.1 else .any, g.2))
  ({ rows := rows.map (fun r => (r.tail.take (r.length - 1 - q.r)).map Xw.ex), d := g.map Prod.fst, flags := g.map Prod.snd },
    (List.range q.r).map (fun c => rows.map (fun r => Xw.ex (r.getD (r.length - q.r + c) none))))

/-! ### Substitution -/

/-- Forward: x_j = (b_j − Σ_{k<j} l_jk x_k) ÷ d_j. -/
def forwardEx (n : Nat) (l : Nat → Nat → Ex) (d : Nat → Ex) (b : Nat → Ex) : List Ex :=
  (List.range n).foldl (fun x j => x ++ [exDiv (exSub (b j) (((List.range j).map (l j)).zip x)) (d j)]) []
/-- Backward: x_j = (b_j − Σ_{k>j} u_jk x_k) ÷ d_j. -/
def backwardEx (n : Nat) (u : Nat → Nat → Ex) (d : Nat → Ex) (b : Nat → Ex) : List Ex :=
  (List.range n).reverse.foldl (fun x j =>
    exDiv (exSub (b j) (((List.range (n - 1 - j)).map (fun k => u j (j + 1 + k))).zip x)) (d j) :: x) []

/-- The factors of a kernel, and its right-hand columns as the substitution takes them. -/
def Kern.fact (q : Kern) (tau delta : Nat) (key pw : List Nat) : Fact × List (List Ex) :=
  let b := (List.range q.r).map (fun c => (List.range q.m).map (fun i => Ex.word (q.b pw c i)))
  if q.kernel < 2 then (q.factor tau delta key pw, b)
  else if q.kernel = 2 then q.qr tau delta key pw
  else (q.tri tau delta key pw, b)

/-- One column of X. -/
def Kern.column (q : Kern) (f : Fact) (b : List Ex) : List Ex :=
  let d := fun j => f.d.getD j .any
  let one : Nat → Ex := fun _ => .word one64
  let b := fun i => b.getD i .any
  if q.kernel = 0 then
    let y := forwardEx q.n f.l d b
    backwardEx q.n (fun i j => f.l j i) d (fun i => y.getD i .any)
  else if q.kernel = 1 then
    let y := forwardEx q.n f.l one b
    backwardEx q.n (fun i j => f.l j i) one (fun i => exDiv (y.getD i .any) (d i))
  else if q.kernel = 2 then
    let sharp : Ex → Ex := fun x => if x.isWord then x else .any
    (backwardEx q.n (fun i j => (f.rows.getD i []).getD (j - i - 1) .any) d b).map sharp
  else if q.upper then backwardEx q.n f.l d b
  else forwardEx q.n f.l d b

/-- ‖A x − b‖₂ (R309), for the words `x` that are written. -/
def Kern.residual (q : Kern) (pw x : List Nat) : Ex :=
  exNorm ((List.range q.m).map (fun i =>
    exAdd (Ex.word (q.b pw 0 i)).neg (((List.range q.n).map (fun j => Ex.word (q.entry pw i j))).zip (x.map Ex.word))))

/-- A dense solve over the words of its page. All-zero input has the solution zero (chapter 13, Edges). -/
def Kern.solve (q : Kern) (tau delta w : Nat) (pw : List Nat) : Found :=
  let key := q.key tau delta pw
  let inp := q.input pw
  let zero := inp.all (fun x => (of64 x).isZero)
  let (f, b) := q.fact tau delta key pw
  let xs := b.map (q.column f)
  let bad := ((List.range q.n).zip f.flags).filter (fun p => decide (p.2 ≠ 0))
  let words := (List.range (q.n * q.r)).map (fun t =>
    if zero then 0 else ((xs.getD (t / q.n) []).getD (t % q.n) .any).pick (Config.denseWord key t).toNat)
  { words := words,
    resid := if q.res = 0 ∨ zero then 0 else abs64 ((q.residual pw (words.take q.n)).pick (Config.denseWord key (2 ^ 21)).toNat),
    npiv := bad.length, flags := bad.foldl (fun f p => f ||| p.2) 0, pividx := bad.head?.map Prod.fst,
    nanIn := inp.any isNan64,
    cycles := min w (Config.denseWord [q.kernel, if q.upper then 1 else 0, q.m, q.n, q.r, q.res] (2 ^ 23)).toNat }

end Sys2Proof.Machine
end

