-- ==== Sys2Proof/Machine/Solver.lean ====
section
/-! DEFINITION. Machine/Solver.lean: the solver engines (chapter 13): slot sets, pages, input channels, solves, results, aborts. -/

namespace Sys2Proof.Machine
open Sys2Proof Sys2Proof.Machine.Reg

/-- The slot is enabled. -/
def State.slotOn (s : State) (k i : Nat) : Bool := s.live SOL_SLOTCFG_EN k i = 1
/-- It runs a Lace program. -/
def State.sequenced (s : State) (k i : Nat) : Bool := s.live SOL_SLOTCFG_MODE k i = 1

/-- An event of Table 13.8 on slot (k, i): DATA names job, GROUP, CODE, FLAGS and NPIV. Per-solve events are journalled at most once
a round for each slot (R320). -/
def State.solReport (s : State) (k i b sev : Nat) (job : Nat := hostJob) (group : Nat := hostGroup) (code flags npiv : Nat := 0) : State :=
  let s' := s.event (SOL_EVENT.at k) (SOL_INT_EN.at k) b (31 + k)
  let perSolve := decide (b < 3 ∨ b = 6 ∨ b = 7)
  if perSolve && (s.pslot k i).once.contains b then s'
  else
    let s' := if perSolve then s'.modPslot k i (fun p => { p with once := p.once ++ [b] }) else s'
    s'.journal (0x0B00 + b) (32 * k + i) sev (job + 2 ^ 16 * group + 2 ^ 32 * code + 2 ^ 40 * flags + 2 ^ 48 * min npiv 65535)

/-- SOL_STATUS.QUEUED and the lock bits of a slot show the latches. -/
def State.noteSlot (s : State) (k i : Nat) : State :=
  let l := s.lockedPages k i
  let s := s.setFld SOL_SLOTSTAT_LOCK (if l.isEmpty then 0 else 1) k i
  let s := match l with
    | p :: _ => s.setFld SOL_SLOTSTAT_LPAGE p k i
    | [] => s
  let s := s.setFld SOL_SLOTSTAT_WARMV (if (s.pslot k i).warm.isSome then 1 else 0) k i
  s.setFld SOL_STATUS_QUEUED (((s.engine k).slots.map (fun p => p.latch.length)).foldl (· + ·) 0) k

/-! ### Bounds (R308, R311) -/

/-- The bound K of Table 13.3. -/
def denseK (kernel m n r res : Nat) : Nat :=
  if kernel = 0 then
    200 + ceilDiv (n * (n + 1)) 14 + ceilDiv (n ^ 3) 48 + 34 * n + r * (ceilDiv n 7 + ceilDiv (n ^ 2) 8 + 12 * n)
      + res * (ceilDiv (n ^ 2) 8 + 40)
  else if kernel = 1 then
    200 + ceilDiv (n * (n + 1)) 14 + ceilDiv (n ^ 3) 48 + 32 * n + r * (ceilDiv n 7 + ceilDiv (n ^ 2) 8 + 14 * n)
      + res * (ceilDiv (n ^ 2) 8 + 40)
  else if kernel = 2 then
    240 + ceilDiv (m * n) 7 + ceilDiv (3 * m * n ^ 2 - n ^ 3) 24 + 48 * n
      + r * (ceilDiv m 7 + ceilDiv (4 * m * n - n ^ 2) 16 + 14 * n) + res * (ceilDiv (m * n) 8 + 40)
  else
    120 + ceilDiv (n * (n + 1)) 14 + r * (ceilDiv n 7 + ceilDiv (n ^ 2) 16 + 12 * n) + res * (ceilDiv (n ^ 2) 16 + 40)

/-- W = K + 64 + ⌈OW ÷ 7⌉ (R311). -/
def boundW (k ow : Nat) : Nat := k + 64 + ceilDiv ow 7

/-- The header of the program at an address of the store. -/
def State.laceHead (s : State) (k a : Nat) : List Nat := memBytes dflt0 s.sol (solAt k a) 64

/-! ### Slot sets (R301, Table 13.2) -/

/-- A slot's set as staged or in force: the value of a field. -/
def State.slotFld (s : State) (staged : Bool) (f : Fld) (k i : Nat) : Nat := if staged then s.fld f k i else s.live f k i

/-- The address of the program of a slot. -/
def State.progAt (s : State) (staged : Bool) (k i : Nat) : Nat := 64 * s.slotFld staged SOL_SLOTPROG_BASE k i
/-- m as the kernel uses it. -/
def State.dimM (s : State) (staged : Bool) (k i : Nat) : Nat :=
  if s.slotFld staged SOL_SLOTCFG_KERNEL k i = 2 then s.slotFld staged SOL_SLOTDIM_M k i else s.slotFld staged SOL_SLOTDIM_N k i
/-- Solution words: n × r, or the program's output size. -/
def State.outWords (s : State) (staged : Bool) (k i : Nat) : Nat :=
  if s.slotFld staged SOL_SLOTCFG_MODE k i = 1 then (laceProg (s.laceHead k (s.progAt staged k i)) 0).outw
  else s.slotFld staged SOL_SLOTDIM_N k i * s.slotFld staged SOL_SLOTDIM_R k i
/-- The bound W of a slot's set. -/
def State.slotW (s : State) (staged : Bool) (k i : Nat) : Nat :=
  let f := fun x => s.slotFld staged x k i
  boundW (if f SOL_SLOTCFG_MODE = 1 then (laceProg (s.laceHead k (s.progAt staged k i)) 0).cyc
    else denseK (f SOL_SLOTCFG_KERNEL) (s.dimM staged k i) (f SOL_SLOTDIM_N) (f SOL_SLOTDIM_R) (f SOL_SLOTCFG_RES))
    (s.outWords staged k i)

/-- The data regions of a slot's set: pages A and B, the output buffers, the warm area (address, bytes). -/
def State.dataRegions (s : State) (staged : Bool) (k i : Nat) : List (Nat × Nat) :=
  let f := fun x => s.slotFld staged x k i
  [(64 * f SOL_SLOTPG_PGA, 1024 * f SOL_SLOTSZ_PGSIZE), (64 * f SOL_SLOTPG_PGB, 1024 * f SOL_SLOTSZ_PGSIZE),
   (64 * f SOL_SLOTOUT_OUT, 2048 * f SOL_SLOTSZ_OUTSIZE), (64 * f SOL_SLOTWARM_WARM, 1024 * f SOL_SLOTSZ_WARMSIZE)]
/-- The program region of a slot's set, if it is sequenced. -/
def State.progRegion (s : State) (staged : Bool) (k i : Nat) : List (Nat × Nat) :=
  if s.slotFld staged SOL_SLOTCFG_MODE k i = 1 then
    let a := s.progAt staged k i
    [(a, fieldLE (s.laceHead k a) 40 4)]
  else []

/-- Two regions, neither empty, share a byte. -/
def clash (a b : Nat × Nat) : Bool := decide (0 < a.2 ∧ 0 < b.2) && overlaps a.1 a.2 b.1 b.2

/-- Some two members of a list clash. -/
def anyClash : List (Nat × Nat) → Bool
  | [] => false
  | a :: t => t.any (clash a) || anyClash t

/-- REGION fails. -/
def State.regionBad (s : State) (k i : Nat) : Bool :=
  let own := s.dataRegions true k i
  let prog := s.progRegion true k i
  let others := (List.range 32).filter (fun j => decide (j ≠ i) && s.slotOn k j)
  (own ++ prog).any (fun r => decide (0x200000 < r.1 + r.2)) || anyClash own
    || own.any (fun r => prog.any (clash r))
    || others.any (fun j => own.any (fun r => (s.dataRegions false k j ++ s.progRegion false k j).any (clash r))
        || prog.any (fun r => (s.dataRegions false k j).any (clash r)))

/-- DIM_RANGE fails (Table 13.3). -/
def dimBad (kernel m n r : Nat) : Bool :=
  !(decide (1 ≤ n ∧ n ≤ 96 ∧ 1 ≤ r ∧ r ≤ 8) && (decide (kernel ≠ 2) || decide (n ≤ m ∧ m ≤ 96)))

/-- SIZE fails. -/
def State.sizeBad (s : State) (k i : Nat) : Bool :=
  let f := fun x => s.fld x k i
  let pg := f SOL_SLOTSZ_PGSIZE
  let out := f SOL_SLOTSZ_OUTSIZE
  let warm := f SOL_SLOTSZ_WARMSIZE
  let range := decide (pg = 0 ∨ 128 < pg ∨ out = 0 ∨ 64 < out ∨ 128 < warm)
  if f SOL_SLOTCFG_MODE = 1 then
    let p := laceProg (s.laceHead k (s.progAt true k i)) 0
    range || decide (pg * 128 < p.inw ∨ out * 1024 < 64 + 8 * p.outw ∨ warm * 128 < p.warmw)
  else
    let m := s.dimM true k i
    let n := f SOL_SLOTDIM_N
    let r := f SOL_SLOTDIM_R
    range || decide (pg * 1024 < 8 * (m * n + m * r) ∨ out * 1024 < 64 + 8 * n * r)

/-- The active Pattern targets the slot. -/
def State.patTargets (s : State) (k i : Nat) : Bool :=
  s.flag PAT_STATUS_ACTIVE && s.liveJobs.any (fun j => decide (j.kind = 2 ∧ j.target = 32 * k + i))

/-- The first failing cause of the staged set of slot (k, i), 0 if none fails. DST_RANGE tests the channel's SRC in force (DEDUCED, log 136). -/
def State.slotReject (s : State) (k i : Nat) : Nat :=
  let f := fun x => s.fld x k i
  let seq := decide (f SOL_SLOTCFG_MODE = 1)
  if seq && !(laceFormatOk (s.laceHead k (s.progAt true k i))) then 1
  else if s.regionBad k i then 2
  else if !seq && dimBad (f SOL_SLOTCFG_KERNEL) (s.dimM true k i) (f SOL_SLOTDIM_N) (f SOL_SLOTDIM_R) then 3
  else if s.sizeBad k i then 4
  else if f SOL_SLOTPIV_TAU_EXP = 0 ∨ 126 < f SOL_SLOTPIV_TAU_EXP ∨ f SOL_SLOTPIV_DELTA_EXP = 0 ∨ 60 < f SOL_SLOTPIV_DELTA_EXP then 5
  else if f SOL_SLOTCFG_CLASS = 3 ∨ (f SOL_SLOTCFG_SENDEN = 1 ∧
      (488 < f SOL_SLOTDST_OUTSEND ∨ s.chanSrc (f SOL_SLOTDST_DCORE) (f SOL_SLOTDST_DCHAN) ≠ 32 + k)) then 6
  else if s.patTargets k i ∧ (f SOL_SLOTCFG_EN = 0 ∨ s.regN SOL_SLOTWCET k i < s.slotW true k i) then 7
  else 0

/-- A set changes what clears warm start (R301). -/
def State.clearsWarm (s : State) (k i : Nat) : Bool :=
  [SOL_SLOTCFG_MODE, SOL_SLOTCFG_KERNEL, SOL_SLOTDIM_M, SOL_SLOTDIM_N, SOL_SLOTDIM_R, SOL_SLOTPROG_BASE, SOL_SLOTWARM_WARM,
    SOL_SLOTSZ_WARMSIZE].any (fun f => decide (s.fld f k i ≠ s.live f k i))

/-- The set of slot (k, i) takes effect or is rejected (R97, R301). -/
def State.applySlot (s : State) (k i : Nat) : State :=
  let s := s.setFld SOL_SLOTCTRL_COMMIT 0 k i
  let rej := s.slotReject k i
  if rej ≠ 0 then (s.setFld SOL_SLOTSTAT_REJ_CAUSE rej k i).solReport k i 8 3
  else
    let s := if s.clearsWarm k i then s.modPslot k i (fun p => { p with warm := none }) else s
    let fresh := !(s.slotOn k i) && s.flag SOL_SLOTCFG_EN k i
    let s := if fresh then
        (s.modPslot k i (fun p => { p with commits := 0, since := 0, prev := none, seq := 0 })).setRegN SOL_SLOTSEQ 0 k i
      else s
    let s := [SOL_SLOTCFG, SOL_SLOTDIM, SOL_SLOTPROG, SOL_SLOTPG, SOL_SLOTSZ, SOL_SLOTOUT, SOL_SLOTWARM, SOL_SLOTPIV, SOL_SLOTDST,
      SOL_SLOTARG].foldl (fun s r => s.apply1 r k i) s
    ((((s.setRegN SOL_SLOTWCET (s.slotW false k i) k i).noteSlot k i)).solReport k i 9 1).notePlan

/-- SOL_SLOT_RESET takes effect (R313, R307). -/
def State.resetSlot (s : State) (k i : Nat) : State :=
  let s := s.modPslot k i (fun p => { p with warm := none, since := p.commits, pendReset := false })
  let s := (s.setFld SOL_SLOTCTRL_RESET 0 k i).noteSlot k i
  s.settle (fun _ w => if w = .slotReset k i then some (0, []) else none)

/-- The slot has nothing latched and no solve of its own runs: its safe point (R301). -/
def State.slotIdle (s : State) (k i : Nat) : Bool :=
  (s.pslot k i).latch.isEmpty && (match (s.engine k).run with
    | some v => decide (v.slot ≠ i)
    | none => true)

/-- A staged set and a reset that wait for the slot's safe point take effect. -/
def State.slotPoint (s : State) (k i : Nat) : State :=
  let s := if (s.pslot k i).pendReset then s.resetSlot k i else s
  if s.flag SOL_SLOTCTRL_COMMIT k i then s.applySlot k i else s

/-! ### Pages (R302, R303) -/

/-- The page that the next commit makes the committed one. -/
def State.fillPage (s : State) (k i : Nat) : Nat := if (s.pslot k i).commits = 0 then 0 else 1 - s.fld SOL_SLOTSTAT_CPAGE k i

/-- A commit takes effect. -/
def State.commitPage (s : State) (k i : Nat) : State :=
  let p := s.fillPage k i
  let s := s.modPslot k i (fun x => { x with commits := x.commits + 1 })
  (s.setFld SOL_SLOTSTAT_CPAGE p k i).setFld SOL_SLOTSEQ_CMT (s.pslot k i).commits k i

/-- A commit may take effect: it would not make a locked page the committed one. -/
def State.mayCommit (s : State) (k i : Nat) : Bool := !((s.lockedPages k i).contains (s.fillPage k i))

/-- Commits that wait take effect. -/
def State.pumpCommits (s : State) (k i : Nat) : Nat → State
  | 0 => s
  | n + 1 =>
    if (s.pslot k i).pendCommit = 0 ∨ ¬ s.mayCommit k i then s
    else
      let s := (s.commitPage k i).modPslot k i (fun p => { p with pendCommit := p.pendCommit - 1 })
      let s := if (s.pslot k i).pendCommit = 0 then s.setFld SOL_SLOTCTRL_PGCOMMIT 0 k i else s
      let cmt := (s.pslot k i).commits
      (s.settle (fun _ w => if w = .pgcommit k i then some (0, [cmt]) else none)).pumpCommits k i n

/-- PGCOMMIT is requested (R303). -/
def State.pgCommit (s : State) (k i : Nat) : State :=
  if s.slotOn k i ∧ ¬ s.engineDropped k then
    let s := (s.setFld SOL_SLOTCTRL_PGCOMMIT 1 k i).modPslot k i (fun p => { p with pendCommit := min (p.pendCommit + 1) 1 })
    s.pumpCommits k i 2
  else s

/-- A latch of the committed page now (R302). -/
def State.latchNow (s : State) (k i : Nat) (inst : Option Nat) (arg : Nat) : State :=
  let p := s.pslot k i
  let l : Latch := { inst := inst, page := if p.commits = 0 then 2 else s.fld SOL_SLOTSTAT_CPAGE k i, cmt := p.commits, arg := arg,
                     round := s.count48 }
  (s.modPslot k i (fun p => { p with latch := p.latch ++ [l] })).noteSlot k i

/-- An instance is latched on engine `k`. -/
def State.isLatched (s : State) (k id : Nat) : Bool :=
  ((s.engine k).slots.any (fun p => p.latch.any (fun l => decide (l.inst = some id))))
    || (match (s.engine k).run with
      | some v => decide (v.latch.inst = some id)
      | none => false)

/-- Every SOLVE instance that waits for engine `k` and has latched nothing latches its slot's page: at its firing, or at its re-issue
on the spare (R302, R319). -/
def State.latchFired (s : State) (k : Nat) : State :=
  (s.pat.insts.filter (fun i => decide (i.kind = 2) && i.parts.any (fun p => decide (p.res = 32 + k ∧ p.st = 0)))).foldl
    (fun s i => if s.isLatched k i.id then s else s.latchNow k (i.target % 32) (some i.id) i.arg) s

/-! ### Input channels (R305, R306) -/

def State.inChan (s : State) (k c : Nat) : Chan := (s.engine k).chans.getD c {}
def State.modIn (s : State) (k c : Nat) (f : Chan → Chan) : State := s.modEngine k (fun e => { e with chans := e.chans.modify c f })
def State.inOn (s : State) (k c : Nat) : Bool := s.flag SOL_INCFG_EN k c
def State.inSrc (s : State) (k c : Nat) : Nat := s.fld SOL_INCFG_SRC k c

/-- SOL_INSTAT shows the channel: HELD while a message waits in it on a locked page. A flush discards at once what the channel holds, so
DRAIN reads 0 (log 107). -/
def State.noteIn (s : State) (k c : Nat) : State :=
  (s.setFld SOL_INSTAT_DRAIN 0 k c).setFld SOL_INSTAT_HELD (if (s.inChan k c).arr.isEmpty then 0 else 1) k c

/-- The message `a` of channel `c` is answered with `st`, if its sender's slot still holds it. -/
def State.endIn (s : State) (k c : Nat) (a : Arriving) (st : Nat) : State :=
  let n := a.first / 32
  let t := a.first % 32
  match (s.slot n t).op with
  | some (.send d ch mseq _ _ _ _ _) =>
    if d = 32 + k ∧ ch = c ∧ mseq = a.mseq ∧ (s.slot n t).answer.isNone then s.answer n t st 0 0 else s
  | _ => s

/-- Its credits go back to its sender, and it is answered. -/
def State.freeIn (s : State) (k c : Nat) (a : Arriving) (st : Nat) : State :=
  (s.sendCredit (32 + k) (a.first / 32) c a.got).endIn k c a st

/-- Channel `c` of engine `k` is flushed (R217): what it holds is drained. -/
def State.flushIn (s : State) (k c : Nat) : State :=
  let x := s.inChan k c
  let s := s.setFld SOL_INSTAT_FLUSHSEQ x.expect k c
  let s := s.modIn k c (fun x => { x with arr := [] })
  (x.arr.foldl (fun s a => (s.count SOL_INSTAT_DRAINCNT a.got k c).freeIn k c a 1) s).noteIn k c

/-- Packets that an engine discards are counted (R305). The record carries the SLOT of the message's header (R320); for one that is no slot the spec
gives no code (a free value, log entry 131). -/
def State.badIn (s : State) (k np : Nat) (src : Bool) (body : List Nat) : State :=
  let h := body.getD 0 0
  let (s, i) := if h < 32 then (s, h) else (s.draw, Config.pick s.free h % 32)
  if src then (s.count SOL_CNT_BADSRC np k).solReport k i 4 4 else (s.count SOL_CNT_BADIN 1 k).solReport k i 3 4

/-- The input header (Table 13.4) of a message is refused. -/
def State.headerBad (s : State) (k : Nat) (body : List Nat) : Bool :=
  let slot := body.getD 0 0
  let ofs := fieldLE body 2 2
  let nw := fieldLE body 4 2
  let len := body.length
  decide (32 ≤ slot) || !(s.slotOn k slot) || decide (3 ≤ body.getD 1 0 ∨ fieldLE body 6 2 ≠ 0) || decide (s.pageSize k slot / 8 < ofs + nw)
    || decide (len < 8 ∨ (len - 8) % 8 ≠ 0 ∨ nw ≠ (len - 8) / 8)

/-- A message's data is written into the fill page of its slot, and committed if its OP says so (R306). -/
def State.applyInput (s : State) (k : Nat) (body : List Nat) : State :=
  let i := body.getD 0 0
  let s := s.putSol k (s.pageAt k i (s.fillPage k i) + 8 * fieldLE body 2 2) (body.drop 8)
  if 1 ≤ body.getD 1 0 then s.commitPage k i else s

/-- The messages of channel `c` are applied in order, up to one whose fill page is locked: it waits, and later ones behind it (R306). -/
def State.pumpIn (s : State) (k c : Nat) : Nat → State
  | 0 => s.noteIn k c
  | n + 1 =>
    match (s.inChan k c).arr with
    | a :: t =>
      if s.mayCommit k (a.body.getD 0 0) then
        (((s.modIn k c (fun x => { x with arr := t })).applyInput k a.body).freeIn k c a 0).pumpIn k c n
      else s.noteIn k c
    | [] => s.noteIn k c

/-- A message that is whole in the buffer of channel `c` is taken or turned away (R305, R306). -/
def State.takeInput (s : State) (k c : Nat) (a : Arriving) : State :=
  let src := a.first / 32
  if s.engineDropped k then s.endIn k c a 5
  else if ¬ s.inOn k c ∨ s.inSrc k c ≠ src then (s.badIn k a.got true a.body).endIn k c a 2
  else
    let fresh := decide ((s.inChan k c).expect = a.mseq)
    let s := s.modIn k c (fun x => { x with expect := (a.mseq + 1) % 256 })
    if ¬ fresh then (s.badIn k a.got true a.body).freeIn k c a 7
    else if s.headerBad k a.body then (s.badIn k 1 false a.body).freeIn k c a 3
    else (s.modIn k c (fun x => { x with arr := x.arr ++ [a] })).pumpIn k c 16

/-- SOLVER_INPUT_MSG (R305, R306): the message in slot `tag` of core `src` has reached its engine whole. -/
def State.inputMsg (s : State) (src tag : Nat) : State :=
  let t := s.slot src tag
  match t.op with
  | some (.send dst c mseq cls addr len gone rsv) =>
    if dst < 32 ∨ t.answer.isSome ∨ 0 < gone ∨ s.sendBehind src dst cls t.sent then s
    else
      let np := msgPackets len
      let a : Arriving := { mseq := mseq, mode := 0, first := src * 32 + tag, got := np, body := s.opBytes src t.ord addr len }
      (s.draw.modSlot src tag (fun x => { x with op := some (.send dst c mseq cls addr len np rsv) })).takeInput (dst - 32) c a
  | _ => s

/-- SOLVER_INPUT_MSG. -/
def execSolverInputMsg (src tag : Nat) (s : State) : Out := onUnit src 32 (onUnit tag 32 (.next (s.inputMsg src tag).pumpMesh))

/-- Locks have ended: what waited for them goes on, commits first, then the messages that the channels hold (R303, R306). -/
def State.afterUnlock (s : State) (k i : Nat) : State :=
  let s := (s.noteSlot k i).pumpCommits k i 2
  let s := (List.range 16).foldl (fun s c => if (s.inChan k c).arr.isEmpty then s else s.pumpIn k c 16) s
  if s.slotIdle k i then s.slotPoint k i else s

/-- The latch of an instance that will not run is released. -/
def State.unlatch (s : State) (k id : Nat) : State :=
  (List.range 32).foldl (fun s i =>
    if (s.pslot k i).latch.any (fun l => decide (l.inst = some id)) then
      (s.modPslot k i (fun p => { p with latch := p.latch.filter (fun l => decide (l.inst ≠ some id)) })).afterUnlock k i
    else s) s

/-! ### Kicks (R317) -/

/-- The active Pattern has a deadline SOLVE entry on engine `k`. -/
def State.engineClaimed (s : State) (k : Nat) : Bool :=
  s.flag PAT_STATUS_ACTIVE && s.liveJobs.any (fun j => decide (j.kind = 2 ∧ j.target / 32 = k) && j.dl)

/-- A kick of slot (k, i) with `arg`: latched, or refused. Answers whether it was taken. -/
def State.kickSlot (s : State) (k i arg : Nat) : State × Bool :=
  if ¬ s.slotOn k i ∨ s.engineClaimed k ∨ ¬ s.slotIdle k i ∨ s.engineDropped k then (s.solReport k i 5 3, false)
  else (s.latchNow k i none arg, true)

/-! ### A solve starts (R298, R302, R307, R313) -/

/-- Take slot `i`'s latch of an instance (none: the kick). -/
def State.takeLatch (s : State) (k i : Nat) (inst : Option Nat) : Option (Latch × State) :=
  ((s.pslot k i).latch.find? (fun l => decide (l.inst = inst))).map (fun l =>
    (l, s.modPslot k i (fun p => { p with latch := p.latch.erase l })))

/-- WARMV of a solve that starts now. -/
def State.warmStart (s : State) (k i : Nat) (l : Latch) : Bool :=
  let gap := s.live SOL_SLOTWARM_MAXGAP k i
  let reissued := match l.inst with
    | some id => ((s.inst? id).map (·.reissued)).getD false
    | none => false
  match (s.pslot k i).warm with
  | some r => s.sequenced k i && !reissued && decide (gap ≠ 0 ∧ (l.round + 2 ^ 48 - r) % 2 ^ 48 ≤ gap)
  | none => false

/-- The solve of a latch of slot (k, i), as it is before its first cycle. -/
def State.newSolve (s : State) (k i : Nat) (l : Latch) : Solve :=
  let p := s.pslot k i
  let stale := decide (l.page = 2 ∨ p.prev = some l.cmt ∨ l.cmt ≤ p.since)
  let skip := decide (l.page = 2) || (stale && decide (s.live SOL_SLOTCFG_STALE k i = 0))
  let prog := if s.sequenced k i then
      let a := s.progAt false k i
      some (laceProg (s.laceHead k a) a)
    else none
  let lace : LaceRun := match prog with
    | some g => LaceRun.start (s.laceSrc k g) g
    | none => {}
  { slot := i, latch := l, warmv := s.warmStart k i l, stale := stale, skip := skip, prog := prog, lace := lace, startAt := s.rnd.clk,
    seq := p.seq + 1 }

/-- The latched solve of slot (k, i) starts. -/
def State.startSolve (s : State) (k i : Nat) (l : Latch) : State :=
  let s := s.slotPoint k i
  let s := (s.setSolve k (s.newSolve k i l)).modPslot k i (fun p => { p with seq := p.seq + 1 })
  let s := match l.inst with
    | some id => s.markRunning id (32 + k)
    | none => s
  ((s.setFld SOL_STATUS_STATE 1 k).setFld SOL_STATUS_SLOT i k).noteSlot k i

/-- Engine `k` starts the next solve, if it is free and one waits: a Pattern instance first, then the kick of the lowest slot (R317). -/
def State.nextSolve (s : State) (k : Nat) : State :=
  if (s.engine k).run.isSome ∨ s.engineDropped k ∨ s.boot.halted then s
  else
    match s.nextFor (32 + k) with
    | some i =>
      match s.takeLatch k (i.target % 32) (some i.id) with
      | some (l, s) => s.startSolve k (i.target % 32) l
      | none => s
    | none =>
      match (List.range 32).find? (fun i => !(s.pslot k i).latch.isEmpty) with
      | some i =>
        match s.takeLatch k i none with
        | some (l, s) => s.startSolve k i l
        | none => s
      | none => s

/-- SOLVE_START. -/
def execSolveStart (k : Nat) (s : State) : Out := onUnit k 2 (.next (s.nextSolve k))

/-! ### What a solve reads (R298, R309) -/

/-- The kernel and dimensions of slot (k, i) in force. -/
def State.kern (s : State) (k i : Nat) : Kern :=
  { kernel := s.live SOL_SLOTCFG_KERNEL k i, upper := s.live SOL_SLOTCFG_UPPER k i = 1, m := s.dimM false k i,
    n := s.live SOL_SLOTDIM_N k i, r := s.live SOL_SLOTDIM_R k i, res := s.live SOL_SLOTCFG_RES k i }

/-- The words of a page. -/
def State.pageWords (s : State) (k i p n : Nat) : List Nat := (List.range n).map (fun t => s.solLE k (s.pageAt k i p + 8 * t) 8)

/-- What the engine may take what it leaves open from (R299): the slot's mode and dimensions, ARG, the page, the program and the warm area, and
neither the engine nor the slot. -/
def State.solveKey (s : State) (k : Nat) (v : Solve) : List Nat :=
  let i := v.slot
  let q := s.kern k i
  let page := if v.latch.page = 2 then [] else s.pageWords k i v.latch.page (s.pageSize k i / 8)
  [s.live SOL_SLOTCFG_MODE k i, v.latch.arg, v.latch.page / 2] ++ q.key (s.live SOL_SLOTPIV_TAU_EXP k i) (s.live SOL_SLOTPIV_DELTA_EXP k i) page ++ page
    ++ (if s.sequenced k i then
        let a := s.progAt false k i
        memBytes dflt0 s.sol (solAt k a) (fieldLE (s.laceHead k a) 40 4)
          ++ memBytes dflt0 s.sol (solAt k (64 * s.live SOL_SLOTWARM_WARM k i)) (1024 * s.live SOL_SLOTSZ_WARMSIZE k i)
      else [])

/-! ### A solve ends (R314 to R316) -/

/-- ITER: truncated toward zero and saturated, a NaN as 65,535 (R331). -/
def iter16 (w : Nat) : Nat :=
  match of64 w with
  | .nan => 65535
  | .inf neg => if neg then 0 else 65535
  | .fin neg m e =>
    if neg then 0 else min 65535 (if 0 ≤ e then (if m = 0 then 0 else if 16 ≤ e then 65535 else m * 2 ^ e.toNat) else m / 2 ^ (-e).toNat)

/-- What a solve reports. -/
structure Report where
  conv : Bool
  iter : Nat
  resid : Nat
  npiv : Nat
  flags : Nat
  pividx : Option Nat
  cycles : Nat
  nonfin : Bool
  deriving DecidableEq, Repr

/-- The posting of a status record (Table 15.5, type 1). -/
def State.postSolve (s : State) (k : Nat) (bytes : List Nat) : State :=
  s.post { type := 1, code := 0x0600 + fieldLE bytes 28 1, src := 0x100 + k, rnd := s.count48 % 2 ^ 32, nent := 1, body := bytes }

/-- The marker increment that a result owes is issued. -/
def State.addOwed (s : State) (k i : Nat) : State :=
  match (s.pslot k i).addDue with
  | some m =>
    (s.modPslot k i (fun p => { p with addDue := none })).blockAdd (32 + k) m 1
  | none => s

/-- The posting that a result owes is made. -/
def State.postOwed (s : State) (k i : Nat) : State :=
  match (s.pslot k i).post with
  | some b => (s.modPslot k i (fun p => { p with post := none })).postSolve k b
  | none => s

/-- What a result owes after its message, in the order of R316. -/
def State.doOwed (s : State) (k i : Nat) : State :=
  ((s.modPslot k i (fun p => { p with send := none })).addOwed k i).postOwed k i

/-- The slot's next solve completes: a send that still waits is replaced (R316), and its record names the solve whose message is lost (R320); what
else the result owes is done. -/
def State.replaceSend (s : State) (k i : Nat) : State :=
  match (s.pslot k i).send with
  | some b =>
    let s := (s.count SOL_CNT_SENDLOST 1 k).solReport k i 7 3 (fieldLE b 56 2) (fieldLE b 58 2) (fieldLE b 28 1) (fieldLE b 29 1) (fieldLE b 34 2)
    s.doOwed k i
  | none => s.doOwed k i

/-- No solve runs any more in bind-off: BO_SOLVED is written, once (Table 19.4, Table 19.6). -/
def State.endSolves (s : State) : State :=
  if s.boot.halted ∧ s.fld PWR_BOSTAT_STAGE = 3 ∧ ¬ s.boot.wroteSolved ∧ s.engines.all (fun e => e.run.isNone) then
    ({ s with boot := { s.boot with wroteSolved := true } }).journal 0x1108 0 5 (s.boot.solved.1 % 256 + 2 ^ 8 * (s.boot.solved.2 % 256))
  else s

/-- A solve has ended during bind-off. -/
def State.noteSolved (s : State) (abort : Bool) : State :=
  if s.boot.halted then
    let c := s.boot.solved
    ({ s with boot := { s.boot with solved := if abort then (c.1, c.2 + 1) else (c.1 + 1, c.2) } }).endSolves
  else s

/-- A solve of engine `k` ends with what it reports; `abort`: code ABORTED. A latch that is aborted before it starts leaves the solve that runs
alone. -/
def State.finishSolve (s : State) (k : Nat) (v : Solve) (r : Report) (abort : Bool) : State :=
  let i := v.slot
  let inst := v.latch.inst.bind (fun id => s.inst? id)
  let late := match inst with
    | some x => s.isLate x
    | none => false
  let seq := v.seq
  let nonfin := r.nonfin && !v.skip
  let code := if abort then 5 else if v.stale then 4 else if !r.conv || nonfin then 2 else if late then 3 else if r.npiv ≠ 0 then 1 else 0
  let flags := r.flags + (if nonfin then 4 else 0) + (if v.stale then 8 else 0) + (if v.warmv then 16 else 0) + (if late then 32 else 0)
    + (if v.latch.inst.isNone then 64 else 0)
  let job := (inst.map (·.job)).getD hostJob
  let group := (inst.map (·.group)).getD hostGroup
  let mode := s.live SOL_SLOTCFG_MODE k i + 4 * s.live SOL_SLOTCFG_KERNEL k i
  let bytes := s.stampNow ++ toBytes 4 seq ++ [code, flags, k * 32 + i, mode] ++ toBytes 2 r.iter ++ toBytes 2 (min r.npiv 65535)
    ++ toBytes 2 (r.pividx.getD 0xFFFF) ++ [0, 0] ++ toBytes 4 r.cycles ++ toBytes 4 v.latch.cmt ++ toBytes 8 r.resid
    ++ toBytes 2 job ++ toBytes 2 group ++ toBytes 4 seq
  let s := s.putSol k (s.solveBase k v 1 - 64) bytes
  let warm := if (code = 0 ∨ code = 1 ∨ code = 3 ∨ (code = 4 ∧ ¬ v.skip)) ∧ ¬ nonfin ∧ s.sequenced k i ∧ ¬ v.noWarm then some v.latch.round
    else none
  let out := s.solveBase k v 1
  let s := s.replaceSend k i
  let sol := memBytes dflt0 s.sol (solAt k out) (8 * s.live SOL_SLOTDST_OUTSEND k i)
  let s := s.modPslot k i (fun p => { p with
    warm := warm, warmSeq := seq, prev := some v.latch.cmt,
    send := if s.live SOL_SLOTCFG_SENDEN k i = 1 then some (bytes ++ sol) else none,
    sendTo := (s.live SOL_SLOTDST_DCORE k i, s.live SOL_SLOTDST_DCHAN k i, s.live SOL_SLOTCFG_CLASS k i),
    addDue := if s.live SOL_SLOTCFG_MRKEN k i = 1 then some (s.live SOL_SLOTDST_MRK k i) else none,
    post := if s.live SOL_SLOTCFG_HOSTEN k i = 1 then some bytes else none })
  let s := (s.setFld SOL_SLOTSEQ_SEQ (s.pslot k i).seq k i).setFld SOL_SLOTSTAT_LAST code k i
  let s := if (s.engine k).run.any (fun x => decide (x.slot = i ∧ x.latch = v.latch)) then
      (s.modEngine k (fun e => { e with run := none })).setFld SOL_STATUS_STATE 0 k
    else s
  let rep := fun (s : State) (on : Bool) (b sev : Nat) => if on then s.solReport k i b sev job group code flags r.npiv else s
  let s := rep s (decide (r.npiv ≠ 0)) 0 3
  let s := rep s (decide (code = 2)) 1 4
  let s := rep s v.stale 2 3
  let s := rep s abort 6 4
  let s := match inst with
    | some x => (s.noteLate x.id).endPart x.id (32 + k) code 0 0
    | none => s.settle (fun _ w => if w = Wait.solve k i then
        some (0, [seq, code + 2 ^ 8 * flags + 2 ^ 16 * r.iter, r.cycles, r.resid % 2 ^ 32, r.resid / 2 ^ 32]) else none)
  (s.noteSolved abort).afterUnlock k i

/-- The solution words in the output buffer, or the residual, hold a NaN or an infinity. -/
def State.nonfin (s : State) (k : Nat) (v : Solve) (resid : Nat) : Bool :=
  let a := s.solveBase k v 1
  !(isFin64 resid) || (List.range (s.outWords false k v.slot)).any (fun t => !(isFin64 (s.solLE k (a + 8 * t) 8)))

/-- The engine's registers are left as a solve found them (R477). -/
def State.keepRegs (s : State) (k : Nat) (d : List (Nat × DWord)) : State := s.modEngine k (fun e => { e with d := d })

/-- The solve that runs on engine `k` reaches its end: a program only after END or a fault. Past its deadline under DROP
it is aborted (R67). -/
def State.endSolve (s : State) (k : Nat) : State :=
  match (s.engine k).run with
  | none => s
  | some v =>
    let i := v.slot
    let drop := s.dropsNow v.latch.inst
    let ended := !(v.prog.isSome && !v.skip && !v.lace.faulted && v.lace.ended.isNone)
    let s := if drop && ended then s.countAbort else s
    if v.skip then
      let f := Config.denseWord (s.solveKey k v)
      s.finishSolve k v ⟨true, (f (2 ^ 26)).toNat % 65536, (f (2 ^ 26 + 1)).toNat, 0, 0, none, 0, false⟩ drop
    else
      match v.prog with
      | some p =>
        if v.lace.faulted then
          let v := v.landTo p.cyc
          let s := s.keepRegs k v.regs
          s.finishSolve k v ⟨false, 0, nan64, v.npiv, v.flags, v.pividx, boundW p.cyc p.outw, true⟩ drop
        else
          match v.lace.ended with
          | none => s
          | some (ra, rb, rc) =>
            let v := v.landTo p.cyc
            let s := s.keepRegs k v.regs
            let res := v.d rc
            s.finishSolve k v ⟨lt64 0 (v.d ra), iter16 (v.d rb), res, v.npiv, v.flags, v.pividx, boundW p.cyc p.outw, s.nonfin k v res⟩ drop
      | none =>
        let q := s.kern k i
        let pw := s.pageWords k i v.latch.page (q.m * q.n + q.m * q.r)
        let w := s.slotW false k i
        let tau := s.live SOL_SLOTPIV_TAU_EXP k i
        let delta := s.live SOL_SLOTPIV_DELTA_EXP k i
        let f := q.solve tau delta w pw
        let s := s.putSol k (s.solveBase k v 1) (f.words.flatMap (toBytes 8))
        let key := q.key tau delta pw
        let s := s.keepRegs k ((List.range 512).map (fun r => (r, Config.denseWord key (2 ^ 24 + r))))
        s.finishSolve k v ⟨true, 1, f.resid, f.npiv, f.flags, f.pividx, f.cycles, f.nanIn || s.nonfin k v f.resid⟩ drop

/-- SOLVE_END (R314). -/
def execSolveEnd (k : Nat) (s : State) : Out := onUnit k 2 (.next (s.endSolve k))

/-- The running solve of engine `k` is aborted (R318): what is not counted or computed to its end is left open. -/
def State.abortSolve (s : State) (k : Nat) : State :=
  match (s.engine k).run with
  | none => s
  | some v =>
    let f := s.free
    let q := s.kern k v.slot
    let s := if v.prog.isNone ∧ ¬ v.skip then
        let a := s.solveBase k v 1
        let pw := s.pageWords k v.slot v.latch.page (q.m * q.n + q.m * q.r)
        let fd := q.solve (s.live SOL_SLOTPIV_TAU_EXP k v.slot) (s.live SOL_SLOTPIV_DELTA_EXP k v.slot) (s.slotW false k v.slot) pw
        (List.range fd.words.length).foldl (fun s t =>
          if Config.freeBool (Config.pick f t) then s.putSol k (a + 8 * t) (toBytes 8 (fd.words.getD t 0)) else s) s
      else s
    let cyc := (Config.freeWord f).toNat
    let res := (Config.freeDWord f).toNat
    let dense := v.prog.isNone && !v.skip
    let np := if dense then (Config.freeWord (f + 1)).toNat % (q.n + 1) else v.npiv
    let idx := if dense then (if np = 0 then none else some ((Config.freeWord (f + 2)).toNat % q.n)) else v.pividx
    let fl := if dense then (if np = 0 then 0 else if Config.freeBool f then 3 else 1) else v.flags
    let d := if dense then (List.range 512).map (fun r => (r, Config.denseWord [f] (2 ^ 24 + r))) else v.regs
    let s := (s.draw.draw.draw).keepRegs k d
    s.finishSolve k v ⟨false, cyc / 65536, res, np, fl, idx, cyc, s.nonfin k v res⟩ true

/-- Instance `id`, latched on slot (k, i) and not started, is aborted (R67, R68, R318): the record and the event of an abort. No cycle of it has
run: ITER, RESID and CYCLES are left open. -/
def State.abortLatch (s : State) (k i id : Nat) : State :=
  match s.takeLatch k i (some id) with
  | some (l, s) =>
    let f := s.free
    let v := { s.newSolve k i l with skip := true }
    (s.draw.modPslot k i (fun p => { p with seq := p.seq + 1 })).finishSolve k v
      ⟨false, (Config.freeWord f).toNat / 65536, (Config.freeDWord f).toNat, 0, 0, none, (Config.freeWord f).toNat, false⟩ true
  | none => s

/-- The next packets of the result that slot (k, i) owes reach their core (R242). -/
def State.sendResult (s : State) (k dst chan cls mseq np : Nat) (body : List Nat) : Nat → State
  | 0 => s
  | n + 1 =>
    let j := np - (n + 1)
    let chunk := (body.drop (248 * j)).take 248
    let (s, _) := s.msgArrive dst chan (32 + k) mseq j np (msgBytes dst (32 + k) cls chan mseq j np 0 false chunk)
    s.sendResult k dst chan cls mseq np body n

/-- SOLVER_RESULT_SEND (R316): with credit for the whole message it is sent, then the marker increments and the record is posted. A send that
waits, for credit or for a link that retrains, keeps the increment behind it and not the posting: it holds only the slot's next send. -/
def execSolverResultSend (k i : Nat) (s : State) : Out :=
  onUnit k 2 <| onUnit i 32 <|
    match (s.pslot k i).send with
    | none => .next (s.doOwed k i)
    | some body =>
      let (dst, chan, cls) := (s.pslot k i).sendTo
      let np := msgPackets body.length
      let have_ := s.credit (32 + k) dst chan
      if s.coreDropped dst then .next (s.doOwed k i)
      else if have_ < np ∨ s.sendBehind (32 + k) dst cls s.mesh.num then .next (s.postOwed k i)
      else
        let mseq := s.nextMseq (32 + k) dst chan
        let s := (s.setCredit (32 + k) dst chan (have_ - np)).bumpMseq (32 + k) dst chan
        let s := s.sendResult k dst chan cls mseq np body np
        .next ((s.wake dst).doOwed k i)

/-! ### Host actions on slots -/

/-- A reset of slot (k, i) is requested (R313): it waits for the slot's next solve boundary. -/
def State.askReset (s : State) (k i : Nat) : State :=
  if s.slotIdle k i then s.resetSlot k i
  else
    let s := (s.setFld SOL_SLOTCTRL_RESET 1 k i).modPslot k i (fun p => { p with pendReset := true })
    match (s.engine k).run with
    | some v => if v.slot = i then s.setSolve k { v with noWarm := true } else s
    | none => s

/-! ### Host actions on input channels (R305) -/

/-- The enabled channels of a mask are flushed. -/
def State.flushIns (s : State) (k mask : Nat) : State :=
  (bitsOf mask 16).foldl (fun s c => if s.inOn k c then s.flushIn k c else s) s

/-- A write of SOL_INCFG_c (R305): flush, the old source's count zeroed, 16 credits to the new source. -/
def State.setIncfg (s : State) (k c v : Nat) : State :=
  let s := s.flushIn k c
  let s := s.sendCredit (32 + k) (s.inSrc k c) c 0
  let s := s.setRegN SOL_INCFG (v % 64) k c
  if s.inOn k c then s.sendCredit (32 + k) (s.inSrc k c) c 16 else s

end Sys2Proof.Machine
end

