-- ==== Sys2Proof/Machine/Chk.lean ====
section
/-! DEFINITION. Machine/Chk.lean: the check units (chapter 17). Queued writes are absorbed at once: every read of a unit's results
waits until they are (R396). -/

namespace Sys2Proof.Machine
open Sys2Proof Sys2Proof.Machine.Reg

def State.chkUnit (s : State) (u : Nat) : Chk := s.chk.getD u {}
def State.modChk (s : State) (u : Nat) (f : Chk → Chk) : State := { s with chk := s.chk.modify u f }

/-! ### The CRCs of Table 17.1 -/

/-- Width, polynomial, reflected, initial value, final XOR, trailer bytes. -/
structure Poly where
  w : Nat
  poly : Nat
  refl : Bool
  init : Nat
  xorOut : Nat
  t : Nat
  deriving DecidableEq, Repr

def polyOf (p : Nat) : Poly :=
  match p with
  | 0 => ⟨32, 0x04C11DB7, true, 0xFFFFFFFF, 0xFFFFFFFF, 4⟩
  | 1 => ⟨32, 0x1EDC6F41, true, 0xFFFFFFFF, 0xFFFFFFFF, 4⟩
  | 2 => ⟨16, 0x1021, false, 0xFFFF, 0, 2⟩
  | _ => ⟨8, 0x2F, false, 0xFF, 0xFF, 1⟩

/-- One bit enters. -/
def Poly.bit (p : Poly) (r : Nat) (b : Bool) : Nat :=
  if r.testBit (p.w - 1) != b then (r * 2 % 2 ^ p.w) ^^^ p.poly else r * 2 % 2 ^ p.w

/-- One byte enters, least significant bit first where the CRC is reflected (R394). -/
def Poly.byte (p : Poly) (r x : Nat) : Nat :=
  (List.range 8).foldl (fun r i => p.bit r (x.testBit (if p.refl then i else 7 - i))) r

/-- The bits of `x` in reverse order. -/
def reflect (w x : Nat) : Nat := (List.range w).foldl (fun a i => a + (if x.testBit i then 2 ^ (w - 1 - i) else 0)) 0

/-- RESULT: the register after the final XOR. -/
def Poly.result (p : Poly) (r : Nat) : Nat := (if p.refl then reflect p.w r else r) ^^^ p.xorOut

def State.chkPoly (s : State) (u : Nat) : Poly := polyOf (s.live CHK_CFG_POLY u)
def State.chkInit (s : State) (u : Nat) : Nat :=
  if s.live CHK_CFG_INITSEL u = 1 then s.liveN CHK_INIT u % 2 ^ (s.chkPoly u).w else (s.chkPoly u).init

/-- An event of Table 17.2 (R404). -/
def State.chkReport (s : State) (u b sev : Nat) : State :=
  let c := s.chkUnit u
  let samp := c.samp.getD (Config.freeByte s.free).toNat
  (s.report (CHK_EVENT.at u) (CHK_INT_EN.at u) b 15 (0x0D00 + b) u sev
    (c.blocks % 2 ^ 32 + 2 ^ 32 * samp + 2 ^ 40 * s.fld CHK_STATUS_GLAST u)).draw

/-! ### Blocks (R397 to R402) -/

/-- The live pair is checked at the start of a block (R402). -/
def State.chkPair (s : State) (u : Nat) : State :=
  let t := (s.chkPoly u).t
  let len := s.fld CHK_LEN_LEN u
  let g := s.fld CHK_GOFS_GOFS u
  if s.live CHK_CFG_MODE u = 0 ∨ (t + 1 ≤ len ∧ (s.live CHK_CFG_GEN u = 0 ∨ g + t + 1 ≤ len)) then
    s.modChk u (fun c => { c with len := len, gofs := g, lastLen := len, lastGofs := g })
  else
    let s := s.modChk u (fun c => { c with len := c.lastLen, gofs := c.lastGofs })
    (s.setFld CHK_STATUS_CFG_MISMATCH 1 u).chkReport u 6 3

/-- A new block begins: the CRC register is reloaded and COUNT is 0. In EXPECT mode it begins here, and its pair is checked (R397, R402); in
TRAILER mode it begins with its first byte (R398). -/
def State.chkFresh (s : State) (u : Nat) : State :=
  let i := s.chkInit u
  let s := (s.modChk u (fun c => { c with crc := i, n := 0, trailer := [], samp := none })).setRegN CHK_COUNT 0 u
  if s.live CHK_CFG_MODE u = 0 then s.chkPair u else s

/-- START (R399): no judgement of the next block's counter (R401). CHK_RESULT keeps a compared CRC until the block's first byte (R400). -/
def State.chkStart (s : State) (u : Nat) : State :=
  let s := (s.chkFresh u).modChk u (fun c => { c with first := true })
  if (s.chkUnit u).keeps then s else s.setRegN CHK_RESULT ((s.chkPoly u).result (s.chkUnit u).crc) u

/-- The guard judges the block's counter (R401): the first block after START or a set sets the reference unjudged; after one that has no counter the
next is judged. -/
def State.chkGuard (s : State) (u : Nat) : State :=
  let new := (s.chkUnit u).first
  let s := s.modChk u (fun c => { c with first := false })
  if s.live CHK_CFG_GEN u = 0 then s
  else
    match (s.chkUnit u).samp with
    | none => s.chkReport u 3 3
    | some c =>
      let v := s.fld CHK_STATUS_GLAST u
      let m := if s.live CHK_CFG_GW u = 1 then 256 else 16
      let s := if new ∨ ¬ s.flag CHK_STATUS_GVALID u ∨ c = (v + 1) % m then s
        else if c = v then (s.count CHK_GCNT_REPEAT 1 u).chkReport u 1 3
        else (s.count CHK_GCNT_SKIP 1 u).chkReport u 2 4
      (s.setFld CHK_STATUS_GLAST c u).setFld CHK_STATUS_GVALID 1 u

/-- A comparison of the block's CRC with `want` (R400), and the next block begins. -/
def State.chkCompare (s : State) (u want : Nat) : State :=
  let got := (s.chkPoly u).result (s.chkUnit u).crc
  let s := (s.count CHK_CNT_BLOCKS 1 u).modChk u (fun c => { c with blocks := c.blocks + 1, keeps := true })
  let s := (s.setRegN CHK_RESULT got u).setFld CHK_STATUS_LASTOK (if got = want then 1 else 0) u
  let s := if got = want then s else (s.count CHK_CNT_MISMATCH 1 u).chkReport u 0 4
  (s.chkGuard u).chkFresh u

/-- The trailer as a value (R398). -/
def State.chkTrailer (s : State) (u : Nat) : Nat :=
  let l := (s.chkUnit u).trailer
  ofBytes (if s.live CHK_CFG_TORDER u = 1 then l.reverse else l)

/-- One byte enters unit `u`. -/
def State.chkByte (s : State) (u x : Nat) : State :=
  let s := if (s.chkUnit u).n = 0 ∧ s.live CHK_CFG_MODE u = 1 then s.chkPair u else s
  let c := s.chkUnit u
  let p := s.chkPoly u
  let tr := decide (s.live CHK_CFG_MODE u = 1)
  let tail := tr && decide (c.len ≤ c.n + p.t)
  let samp := if c.n = c.gofs ∧ s.live CHK_CFG_GEN u = 1 then
      some (if s.live CHK_CFG_GW u = 1 then x else if s.live CHK_CFG_GNIB u = 1 then x / 16 else x % 16)
    else c.samp
  let s := s.modChk u (fun c => { c with
    keeps := false, n := c.n + 1, samp := samp, crc := if tail then c.crc else p.byte c.crc x, trailer := if tail then c.trailer ++ [x] else c.trailer })
  let s := (s.setRegN CHK_COUNT (min (c.n + 1) (2 ^ 32 - 1)) u).setRegN CHK_RESULT (p.result (s.chkUnit u).crc) u
  if tr ∧ c.len ≤ c.n + 1 then s.chkCompare u (s.chkTrailer u) else s

/-- The bytes that a write to CHK_DATA with byte enables `be` feeds, in the order of R395. -/
def chkLanes (order be v : Nat) : List Nat :=
  let l := (bitsOf be 4).map (fun i => v / 2 ^ (8 * i) % 256)
  if order = 1 then l.reverse else l

/-- CHK_DATA is written with an accepted shape. -/
def State.chkData (s : State) (u be v : Nat) : State :=
  if s.live CHK_CFG_EN u = 0 then s else (chkLanes (s.live CHK_CFG_ORDER u) be v).foldl (fun s x => s.chkByte u x) s

/-- CHECK (R397): no effect in TRAILER mode (R398). -/
def State.chkCheck (s : State) (u : Nat) : State :=
  if s.live CHK_CFG_MODE u = 1 then s else s.chkCompare u (s.regN CHK_EXPECT u % 2 ^ (s.chkPoly u).w)

/-- REJ_CAUSE of the staged set of unit `u`. -/
def State.chkReject (s : State) (u : Nat) : Nat :=
  if s.flag CHK_CFG_INITSEL u ∧ 2 ^ (polyOf (s.fld CHK_CFG_POLY u)).w ≤ s.regN CHK_INIT u then 1
  else if s.flag CHK_CFG_GW u ∧ s.flag CHK_CFG_GNIB u then 2
  else 0

/-- The set of unit `u` takes effect or is rejected (R403). It acts as START does and clears the guard's reference. -/
def State.applyChk (s : State) (u : Nat) : State :=
  let s := s.setFld CHK_CTRL_COMMIT 0 u
  let rej := s.chkReject u
  if rej ≠ 0 then (s.setFld CHK_STATUS_REJ_CAUSE rej u).chkReport u 4 3
  else
    let s := if s.live CHK_CFG_EN u = 0 ∧ s.flag CHK_CFG_EN u then s.modChk u (fun c => { c with blocks := 0 }) else s
    let s := ((s.apply1 CHK_CFG u 0).apply1 CHK_INIT u 0).chkStart u
    ((s.setFld CHK_STATUS_GVALID 0 u).setFld CHK_STATUS_GLAST 0 u).chkReport u 5 1

/-- CHK_SUMMARY as it reads now (R404). -/
def State.chkSummary (s : State) : Nat :=
  (List.range 8).foldl (fun a u => a + (if s.regN CHK_EVENT u &&& s.regN CHK_INT_EN u = 0 then 0 else 2 ^ u)) 0

end Sys2Proof.Machine
end

