-- ==== Sys2Proof/Machine/Framer.lean ====
section
/-! DEFINITION. Machine/Framer.lean: waveform framing and triggers (chapter 6). Grid points lie on stitches, so a point, a window and a
firing are named by absolute stitches (R39, R139). -/

namespace Sys2Proof.Machine
open Sys2Proof Sys2Proof.Machine.Reg

def State.modWfm (s : State) (f : Wfm → Wfm) : State := { s with wfm := f s.wfm }
def State.fslot (s : State) (c : Nat) : FSlot := s.wfm.slots.getD c {}
def State.modFslot (s : State) (c : Nat) (f : FSlot → FSlot) : State := s.modWfm (fun w => { w with slots := w.slots.modify c f })
def State.trg (s : State) (t : Nat) : Trg := s.wfm.trgs.getD t {}
def State.modTrg (s : State) (t : Nat) (f : Trg → Trg) : State := s.modWfm (fun w => { w with trgs := w.trgs.modify t f })

def State.port (s : State) (p : Nat) : Port := s.ports.getD p {}
def State.modPort (s : State) (p : Nat) (f : Port → Port) : State := { s with ports := s.ports.modify p f }

/-- An event of Table 6.6. -/
def State.wfmReport (s : State) (b sev : Nat) : State := s.report WFM_EVENT.base WFM_INT_EN.base b 14 (0x0500 + b) 0 sev

/-- A register in force for the windows that begin at stitch `a` (R158). -/
def State.wregAt (s : State) (a addr : Nat) : Word :=
  s.wfm.old.foldl (fun v o => if a < o.1 then (look o.2 addr).getD v else v) (s.reg (addr + 0x800))
def State.wfld (s : State) (a : Nat) (f : Fld) (i : Nat := 0) (j : Nat := 0) : Nat := bits (s.wregAt a (f.rg.at i j)) f.lo f.w

/-! ### Points (R139 to R143) -/

/-- N of slot `c` at stitch `a`. -/
def State.slotN (s : State) (a c : Nat) : Nat := 64 * 2 ^ s.wfld a WFM_CHCFG_NCODE c
/-- Stitches of a window, and of the distance between points. -/
def State.winLen (s : State) (a c : Nat) : Nat := if s.wfld a WFM_CHCFG_HALF c = 1 then 512 else 1024
def State.pointGap (s : State) (a c : Nat) : Nat := 1024 / s.slotN a c

/-- The position of stitch `a` in the filtered stream, `dec` half-band stages deep, in units of 2⁻¹⁶ filtered sample, rounded to nearest
(R141); none before T0 or where the time base is not remembered. Sample k lies at T0 + k·P with P = 2,500,000 / 2^rate in 1/128 ticks. -/
def State.position (s : State) (t : Feed) (a dec : Nat) : Option Nat :=
  match s.instantOf (a * 2 ^ 22) with
  | none => none
  | some i =>
    let x := i.base * i.den + i.num
    if x < t.t0 * i.den then none
    else
      let n := (x - t.t0 * i.den) * 128 * 65536
      let d := i.den * (2500000 / 2 ^ t.rate) * 2 ^ dec
      some ((2 * n + d) / (2 * d))

/-- The first sample at or after stitch `a`. -/
def State.sampleFrom (s : State) (t : Feed) (a : Nat) : Nat :=
  match s.position t a 0 with
  | none => 0
  | some q => (q + 65535) / 65536

/-- First and last sample of the support of a point whose whole position in the filtered stream is `k`; none if it begins before
sample 0. -/
def support (dec k : Nat) : Option (Nat × Nat) :=
  let m := 2 ^ dec
  if m * k < m * 49 + 11 * (m - 1) then none
  else some (m * k - m * 49 - 11 * (m - 1), m * (k + 50) + 11 * (m - 1))

/-- The rate satisfies R142 for slot `c` at stitch `a`. -/
def State.rateOk (s : State) (a c rate : Nat) : Bool :=
  decide (2 * s.slotN a c * s.liveN RND_BAND_HI * 2 ^ s.wfld a WFM_CHCFG_DEC c ≤ 12800 * 2 ^ rate * 65536)

/-- FP32 operations, rounded to nearest even. -/
def mul32 (a b : Nat) : Nat := ((of32 a).mul (of32 b)).to32
def add32 (a b : Nat) : Nat := ((of32 a).add (of32 b)).to32
def sub32 (a b : Nat) : Nat := ((of32 a).sub (of32 b)).to32
def abs32 (a : Nat) : Nat := a % 2 ^ 31
def lt32 (a b : Nat) : Bool := (of32 a).lt (of32 b)

/-- An FP32 result is the exact one. -/
def exact32 (x : Num) : Bool := x.isFin && decide (((of32 x.to32).sub x).isZero)

/-- An FP32 word within `b` of the exact value `y`: `free` where it is one, else `y` rounded. An infinite `b` bounds nothing. -/
def near32 (free : Nat) (y b : Num) : Nat :=
  let v := of32 free
  if y.isNan || b.isZero then y.to32
  else if decide (b = .inf false) || (v.isFin && !(b.lt (v.sub y).abs)) then free
  else y.to32

/-- A sum of products in FP32: the exact sum where no operation rounds in this order; otherwise within what any order of at most 97 terms can
round by. -/
def dot32 (tag : Nat) (l : List (Num × Nat)) : Nat :=
  let (y, ok, mag) := l.foldl (fun (acc : Num × Bool × Num) p =>
    let t := p.1.mul (of32 p.2)
    let y := acc.1.add t
    (y, acc.2.1 && exact32 p.1 && exact32 t && exact32 y, acc.2.2.add t.abs)) (Num.zero, true, Num.zero)
  if ok then y.to32
  else near32 (Config.framerWord (tag :: l.flatMap (fun p => [p.1.to32, p.2]))).toNat y
    ((mag.mul (.fin false 1 (-17))).add (.fin false 1 (-120)))

/-- One output of a half-band stage from its 23 inputs (R140): a fixed linear-phase filter, whose coefficients the spec does not give; a constant
passes within 0.005 dB, an input that alternates, at half the input rate, within −90 dB (log 37). -/
def halfBand (x : List Nat) : Nat :=
  let cs := (List.range 23).map (fun j => of32 (Config.halfBandCoef (if j < 11 then 11 - j else j - 11)).toNat)
  let f := dot32 1 (cs.zip x)
  let v := of32 (x.headD 0)
  if x.all (fun y => decide (y = x.headD 0)) then near32 f v (v.abs.mul (.fin false 603 (-20)))
  else if (List.range x.length).all (fun i => decide (x.getD i 0 = if i % 2 = 0 then x.headD 0 else (x.headD 0 + 2 ^ 31) % 2 ^ 32)) then
    near32 f Num.zero (v.abs.mul (.fin false 33 (-20)))
  else f

/-- Half-band stages, each followed by decimation by 2: an output lies on every second input from the 12th on. -/
def decimate : Nat → List Nat → List Nat
  | 0, xs => xs
  | n + 1, xs => decimate n ((List.range ((xs.length - 21) / 2)).map (fun j => halfBand ((xs.drop (2 * j)).take 23)))

/-- The cubic Lagrange weights at μ = `mu` / 2^16 (R141). -/
def farrow (mu : Nat) : List Num :=
  let m : Int := mu
  let o : Int := 65536
  let w := fun (v : Int) (d : Nat) => (Num.ofInt v).div (.fin false d 48)
  [w (-(m * (m - o) * (m - 2 * o))) 6, w ((m + o) * (m - o) * (m - 2 * o)) 2, w (-((m + o) * m * (m - 2 * o))) 2, w ((m + o) * m * (m - o)) 6]

/-- The value of an untainted point before GAIN (R140, R141): offset, half-band stages, low-pass, interpolation at μ. -/
def State.pointValue (s : State) (c a dec k mu : Nat) : Nat :=
  let (lo, hi) := (support dec k).getD (0, 0)
  let ofs := sInt 24 (s.wfld a WFM_CHOFS_OFS c)
  let xs := (((s.fslot c).smp.filter (fun x => decide (lo ≤ x.1 ∧ x.1 ≤ hi))).reverse).map (fun x => (Num.ofInt (sInt 24 x.2.1 + ofs)).to32)
  let ys := decimate dec xs
  let p := s.wfld a WFM_CHCFG_LPSET c
  let cs := (List.range 97).map (fun j => of32 (s.wregAt a (WFM_LPCOEF.at p (if j < 48 then 48 - j else j - 48))).toNat)
  dot32 3 ((farrow mu).zip ((List.range 4).map (fun j => dot32 2 (cs.zip ((ys.drop j).take 97)))))

/-- Where the stages have brought a point: still incomplete, tainted, or complete with k and μ. -/
inductive PointSt where
  | wait
  | tainted
  | whole (k mu : Nat)
  deriving DecidableEq, Repr

def State.pointState (s : State) (c a : Nat) : PointSt :=
  let f := s.fslot c
  match f.stream with
  | none => .tainted
  | some t =>
    if f.rateBad then .tainted
    else
      let dec := s.wfld a WFM_CHCFG_DEC c
      match s.position t a dec with
      | none => .tainted
      | some q =>
        let k := q / 65536
        match support dec k with
        | none => .tainted
        | some (lo, hi) =>
          let base := match f.restarts.find? (fun r => decide (r.1 ≤ a)) with
            | some r => max r.2 t.start
            | none => t.start
          if t.begun && decide (hi < t.next) then
            if base ≤ lo ∧ (f.smp.filter (fun x => decide (lo ≤ x.1 ∧ x.1 ≤ hi))).length = hi + 1 - lo then .whole k (q % 65536)
            else .tainted
          else if t.more then .wait
          else .tainted

/-- SFLAGS of the support as row flag bits 2 to 4 (Table 6.2). -/
def State.supportFlags (s : State) (c lo hi : Nat) : Nat :=
  let f := (s.fslot c).smp.foldl (fun m x => if lo ≤ x.1 ∧ x.1 ≤ hi then m ||| x.2.2 else m) 0
  4 * nbits f 0 1 + 8 * nbits f 1 1 + 16 * nbits f 3 1

/-- The value FILL gives a tainted point (R143); where no point went before, the spec states none for FILL = 1. -/
def State.fillValue (s : State) (c a : Nat) : Nat :=
  let f := s.fslot c
  match s.wfld a WFM_CHCFG_FILL c with
  | 0 => 0
  | 1 => f.good.getD (Config.freeWord s.free).toNat
  | _ => match f.pts.find? (fun p => p.stitch + 1024 = a) with
    | some p => if p.sub then 0 else p.v
    | none => 0

/-- The next output point of slot `c`, if it can be made; `fin` makes it whatever is missing (R145). -/
def State.makePoint (s : State) (c a : Nat) (fin : Bool) : Option FPoint :=
  match s.pointState c a with
  | .wait => if fin then some { stitch := a, v := s.fillValue c a, sub := true, late := true, fl := 0 } else none
  | .tainted => some { stitch := a, v := s.fillValue c a, sub := true, late := false, fl := 0 }
  | .whole k mu =>
    let dec := s.wfld a WFM_CHCFG_DEC c
    let (lo, hi) := (support dec k).getD (0, 0)
    some { stitch := a, v := mul32 (s.pointValue c a dec k mu) (s.wregAt a (WFM_CHGAIN.at c)).toNat, sub := false, late := false,
           fl := s.supportFlags c lo hi }

/-! ### Capture rings: states (R156) -/

def State.rgState (s : State) (k : Nat) : Nat := s.fld WFM_RGSTAT_STATE k
def State.setTrnd (s : State) (k r : Nat) : State := (s.setRegN WFM_RGTRND_LO r k).setFld WFM_RGTRND_HI_RND (r / 2 ^ 32) k
def State.trnd (s : State) (k : Nat) : Nat := s.regN WFM_RGTRND_LO k + 2 ^ 32 * s.fld WFM_RGTRND_HI_RND k

/-- The number nearest `ref` that is `m` modulo `2^w` (R39); `m` itself where that would lie before 0. -/
def nearMod (w ref m : Nat) : Nat :=
  let d := (m + 2 ^ w - ref % 2 ^ w) % 2 ^ w
  if d < 2 ^ (w - 1) then ref + d else if 2 ^ w ≤ ref + d then ref + d - 2 ^ w else m

/-- A CAPTURING ring whose round rt + POST has been recorded is FROZEN. -/
def State.checkFrozen (s : State) (k : Nat) : State :=
  match look s.wfm.ringDone k with
  | some d =>
    if s.rgState k = 2 ∧ nearMod 48 d (s.trnd k) + s.live WFM_RGCFG_POST k ≤ d then (s.setFld WFM_RGSTAT_STATE 3 k).wfmReport 1 3 else s
  | none => s

/-- A capture of round `rt` is asked of ring `k` by a trigger. -/
def State.capture (s : State) (k rt : Nat) : State :=
  match s.rgState k with
  | 1 => (((s.setFld WFM_RGSTAT_STATE 2 k).setFld WFM_RGSTAT_NTRG 0 k).setTrnd k rt).checkFrozen k
  | 2 => s.count WFM_RGSTAT_NTRG 1 k
  | 3 => (s.count WFM_CNT_RING_MISSED).wfmReport 6 4
  | _ => s

/-! ### Triggers (R151 to R154) -/

/-- WFM_TRGQ shows its oldest entry. -/
def State.noteTrgq (s : State) : State := s.setRegN WFM_TRGQ ((s.wfm.trgq.head?).getD 0)

/-- The instant of stitch `a`, or now where the time base is not remembered. -/
def State.instantOr (s : State) (a : Nat) : Instant :=
  let now : Seg := { tick := s.rnd.clk, phase := s.absPhase, frac := s.rnd.frac, freq := s.freq, flags := s.stampFlags, ns := s.nstime,
                     nsFrac := s.rnd.nsFrac, nsNum := s.rnd.nsNum, nsDen := s.rnd.nsDen }
  (s.instantOf (a * 2 ^ 22)).getD { base := s.rnd.clk, num := 0, den := 1, seg := now }

/-- Unit `t`, watching slot `c`, fires with measure `m`; the run began at stitch `a`. -/
def State.fire (s : State) (t c a m : Nat) : State :=
  let i := s.instantOr a
  let st := assignAt i.seg.flags s.freq (a * 2 ^ 22) i.ns (s.port (c / 8)).unc (s.winLen a c * 2 ^ 22)
  let w := nearMod 58 a (st.window * s.winLen a c)
  let selv := nbits st.flags 1 1
  let sev := s.wfld a WFM_TRGCFG_SEV t
  let s := (s.setFld WFM_TRGSTAT_FIRED 1 t).count WFM_TRGSTAT_FIRES 1 t
  let s := s.event WFM_EVENT.base WFM_INT_EN.base 0 14
  let s := s.intake { rnd := st.rnd % 2 ^ 32, ns := st.ns, ph := st.phase / 2 ^ 16, code := 0x0500, src := t, sev := sev,
                      flags := sevFlags st.flags, part := false, data := c + 2 ^ 8 * s.wfld a WFM_TRGCFG_TYPE t + 2 ^ 32 * m }
  let s := s.modWfm (fun x => { x with fires := { unit := t, slot := c, win := w, selv := selv = 1 } :: x.fires.filter (fun f => decide (a < f.win + 8192)) })
  let s := if s.wfm.trgq.length < 32 then
      let e := t + 2 ^ 8 * (w / 1024 % 2 ^ 20) + 2 ^ 28 * (w / 512 % 2) + 2 ^ 30 * selv + 2 ^ 31
      (s.modWfm (fun x => { x with trgq := x.trgq ++ [e] })).noteTrgq
    else s.wfmReport 5 3
  let s := (bitsOf (s.wfld a WFM_TRGCFG_CAPMASK t) 4).foldl (fun s k => s.capture k (w / 1024)) s
  if s.wfld a WFM_TRGCFG_MRKEN t = 1 then s.blockAdd 34 (s.wfld a WFM_TRGMRK_MRK t) 1 else s

/-- The pair FIRE, CLEAR at use (R98, R152): the last consistent one serves, and each inconsistent use is an event (R159). -/
def State.trgPair (s : State) (t : Nat) : State :=
  let f := s.regN WFM_TRGFIRE t
  let c := s.regN WFM_TRGCLEAR t
  let ok := !(of32 f).isNan && !(of32 c).isNan && !(lt32 c 0) && !(lt32 f c)
  if ok then s.modTrg t (fun x => { x with fire := f, clr := c })
  else (s.setFld WFM_TRGSTAT_CFG_MISMATCH 1 t).wfmReport 9 3

/-- The points of slot `c` at stitches `a`, `a − gap`, … (`n` of them), none if one is missing or substituted. -/
def State.lastPoints (s : State) (c a gap n : Nat) : Option (List Nat) :=
  (List.range n).mapM (fun i =>
    if a < gap * i then none
    else match (s.fslot c).pts.find? (fun p => p.stitch = a - gap * i) with
      | some p => if p.sub then none else some p.v
      | none => none)

/-- |y[j] − 2y[j−1] + y[j−2]|. -/
def secondDiff (a b c : Nat) : Nat := abs32 (dot32 4 [(.fin false 1 0, a), (.fin true 2 0, b), (.fin false 1 0, c)])

/-- E of ENV from ten points, newest first. -/
def envelope (y : List Nat) : Nat :=
  (List.range 8).foldl (fun m i =>
    let d := secondDiff (y.getD i 0) (y.getD (i + 1) 0) (y.getD (i + 2) 0)
    if lt32 m d then d else m) 0

/-- The RMS of points whose number is a power of two: exact where no operation rounds, otherwise within what the roundings of a sum of 1,024
squares and its root can make; squares that may overflow bound nothing. -/
def rms32 (y : List Nat) : Nat :=
  let (q, ok) := y.foldl (fun (acc : Num × Bool) v =>
    let t := (of32 v).mul (of32 v)
    let q := acc.1.add t
    (q, acc.2 && exact32 t && exact32 q)) (Num.zero, true)
  let r := ((q.div (.fin false y.length 0))).sqrt
  if ok && exact32 r then r.to32
  else near32 (abs32 (Config.framerWord (5 :: y)).toNat) r
    (if q.lt (.fin false 1 127) then (r.mul (.fin false 1 (-14))).add (.fin false 1 (-60)) else .inf false)

/-- `v` / 2^`n`, rounded to FP32. -/
def shift32 (v n : Nat) : Nat := ((of32 v).mul (.fin false 1 (-(n : Int)))).to32

/-- The measure of unit `t` at the point of slot `c` at stitch `a` (Table 6.4), and the state after it; none where the point is not evaluated.
The answer says whether the unit evaluates here at all. -/
def State.measure (s : State) (t c a : Nat) : State × Bool × Option Nat :=
  let gap := s.pointGap a c
  match s.wfld a WFM_TRGCFG_TYPE t with
  | 0 =>
    match s.lastPoints c a gap 10 with
    | none => (s, true, none)
    | some y =>
      let e := envelope y
      let s := if (s.trg t).floored then s else (s.modTrg t (fun x => { x with floored := true })).setRegN WFM_TRGFLOOR e t
      let f := s.regN WFM_TRGFLOOR t
      let d := sub32 e f
      let s := if s.flag WFM_TRGSTAT_FIRED t then s
        else
          let up := lt32 f e
          let n := if up then s.wfld a WFM_TRGMRK_UPS t else s.wfld a WFM_TRGMRK_DNS t
          s.setRegN WFM_TRGFLOOR (add32 f (shift32 d n)) t
      (s, true, some d)
  | 1 =>
    match s.lastPoints c a 1024 2 with
    | some [y, z] => (s, true, some (abs32 (sub32 y z)))
    | _ => (s, true, none)
  | _ =>
    if a % 64 ≠ 0 then (s, false, none)
    else
      let n := s.slotN a c
      match s.lastPoints c a gap (2 * n) with
      | none => (s, true, none)
      | some y => (s, true, some (abs32 (sub32 (rms32 (y.take n)) (rms32 (y.drop n)))))

/-- Unit `t` at the point of slot `c` at stitch `a`. -/
def State.evalTrg (s : State) (t c a : Nat) : State :=
  if s.wfld a WFM_TRGCFG_EN t = 0 ∨ s.wfld a WFM_TRGCFG_SLOT t ≠ c then s
  else
    match s.measure t c a with
    | (s, false, _) => s
    | (s, true, none) => s.modTrg t (fun x => { x with run := 0 })
    | (s, true, some m) =>
      let s := (s.setRegN WFM_TRGMEAS m t).trgPair t
      let x := s.trg t
      if s.flag WFM_TRGSTAT_FIRED t then
        let n := if lt32 m x.clr then x.clear + 1 else 0
        let need := if s.wfld a WFM_TRGCFG_TYPE t = 2 then 16 else s.slotN a c
        if need ≤ n then (s.modTrg t (fun x => { x with clear := 0, run := 0 })).setFld WFM_TRGSTAT_FIRED 0 t
        else s.modTrg t (fun x => { x with clear := n })
      else if lt32 x.fire m then
        let first := if x.run = 0 then a else x.first
        if s.wfld a WFM_TRGCFG_CNT t ≤ x.run + 1 then
          (s.modTrg t (fun x => { x with run := 0, clear := 0 })).fire t c first m
        else s.modTrg t (fun x => { x with run := x.run + 1, first := first })
      else s.modTrg t (fun x => { x with run := 0 })

/-- Points of slot `c` up to stitch `upTo` are made in order as their support allows (all of them if `fin`), and the triggers that watch
the slot evaluate each. -/
def State.runSlot (s : State) (c upTo : Nat) (fin : Bool) : Nat → State
  | 0 => s
  | n + 1 =>
    match (s.fslot c).point with
    | none => s
    | some a =>
      if upTo < a then s
      else if s.wfld a WFM_CHCFG_EN c = 0 then
        if s.live WFM_CHCFG_EN c = 0 ∧ (s.wfm.old.all (fun o => decide (o.1 ≤ a))) then s.modFslot c (fun f => { f with point := none })
        else (s.modFslot c (fun f => { f with point := some ((a / 1024 + 1) * 1024) })).runSlot c upTo fin n
      else
        match s.makePoint c a fin with
        | none => s
        | some p =>
          let s := s.draw.modFslot c (fun f => { f with
            pts := p :: f.pts.filter (fun q => decide (a ≤ q.stitch + 3072)), point := some (a + s.pointGap a c),
            good := if p.sub then f.good else some p.v })
          ((List.range 16).foldl (fun s t => s.evalTrg t c a) s).runSlot c upTo fin n

/-! ### Samples from the ports (R121, R138, R145) -/

/-- The head on port `p` has entered UP and its grid has its origin: every slot of the port has a new stream. -/
def State.framerOpen (s : State) (p t0 rate : Nat) : State :=
  (List.range 8).foldl (fun s ch => s.modFslot (8 * p + ch) (fun f => { f with
    stream := some { t0 := t0, rate := rate }, smp := [], restarts := ((s.absStitch, 0) :: f.restarts).take 8 })) s

/-- The committed rate of port `p` has changed: where it breaks R142 every point of an enabled slot is substituted until a valid COMMIT (R158). -/
def State.framerRate (s : State) (p : Nat) : State :=
  (List.range 8).foldl (fun s ch =>
    let c := 8 * p + ch
    let bad := decide (s.live WFM_CHCFG_EN c = 1) && !(s.rateOk s.absStitch c (s.live MOL_CFG_RATE p))
    s.modFslot c (fun f => { f with rateBad := f.rateBad || bad })) s

/-- The head on port `p` is absent: no sample follows. -/
def State.framerClose (s : State) (p : Nat) : State :=
  (List.range 8).foldl (fun s ch => s.modFslot (8 * p + ch) (fun f => { f with
    stream := f.stream.map (fun t => { t with more := false }) })) s

/-- The absolute index of the 32-bit index `sidx`, `next` being the one expected: the first at or after `next` − 2^31. -/
def unwrap32 (next sidx : Nat) : Nat :=
  let d := (sidx + 2 ^ 32 - next % 2 ^ 32) % 2 ^ 32
  if d < 2 ^ 31 then next + d else next + d - 2 ^ 32

/-- A sample of a window already finalized is discarded and counted (R145). -/
def State.takeSample (s : State) (c idx v fl : Nat) : State :=
  let f := s.fslot c
  match f.stream, f.win with
  | some t, some w =>
    if ¬ f.wins.isEmpty ∧ idx < s.sampleFrom t w then s.count WFM_CNT_SKIP_LATEIN
    else s.modFslot c (fun f => { f with smp := (idx, v, fl) :: f.smp.take 4095 })
  | _, _ => s

/-- Accepted samples of one channel, from absolute index `idx`; the stream goes on behind them. -/
def State.framerTake (s : State) (c idx : Nat) (vs : List Nat) (fl : Nat) : State :=
  if s.flag PWR_DROP_UNIT_WFM then s else
  match (s.fslot c).stream with
  | none => s
  | some t =>
    let t := if t.begun then t else { t with start := idx, begun := true }
    let s := s.modFslot c (fun f => { f with stream := some { t with next := idx + vs.length } })
    let s := (List.range vs.length).foldl (fun s i => s.takeSample c (idx + i) (vs.getD i 0) fl) s
    s.runSlot c s.absStitch false 4096

/-! ### Frame sets (R149, R155) -/

def esize (fmt : Nat) : Nat := if fmt = 1 then 4 else 2
/-- Size of a frame set. -/
def setSize (rows npts fmt : Nat) : Nat := (64 + rows * npts * esize fmt + rows * npts / 8 + 63) / 64 * 64

/-- Bits as bytes, bit j in bit j mod 8 of byte j / 8. -/
def maskBytes (n : Nat) (m : List Bool) : List Nat :=
  (List.range (n / 8)).map (fun i => (List.range 8).foldl (fun b j => b + (if m.getD (8 * i + j) false then 2 ^ j else 0)) 0)

/-- One row: the windows of slot `c` that begin in [a, a + len), one behind the other; a slot without them has every point substituted. -/
def State.rowOf (s : State) (c a len npts : Nat) : List Nat × List Bool × Nat :=
  let ws := ((s.fslot c).wins.filter (fun w => decide (a ≤ w.start ∧ w.start < a + len))).reverse
  let vals := ws.flatMap (·.vals)
  if vals.length = npts then
    let fl := ws.foldl (fun m w => m ||| w.flags) 0
    let fl := if ws.all (fun w => w.flags.testBit 1) then fl else fl - nbits fl 1 1 * 2
    (vals, ws.flatMap (·.mask), fl)
  else (List.replicate npts 0, List.replicate npts true, 3)

/-- Flags and NSTIME of the stamp of a window's start (Table 6.3), as they were taken when the window was fixed. -/
def State.startOf (s : State) (a : Nat) (rows : List Nat) : Nat × Nat :=
  match (rows.flatMap (fun c => (s.fslot c).wins)).find? (fun w => decide (w.start = a)) with
  | some w => (w.stFlags, w.stNs)
  | none => ((s.instantOr a).seg.flags, (s.instantOr a).ns)

/-- Table 6.3 without COMMIT, then rows and masks. `rows` lists the slots (48 and above: unused), `ring` says that it is a ring record. -/
def State.frameSet (s : State) (a len npts fmt seq src win : Nat) (rows : List Nat) (ring : Bool) : List Nat × List Nat :=
  let i := s.startOf a rows
  let st := stampBytes (a / 1024) i.1 (a % 1024 * 2 ^ 22) 0 i.2
  let rs := rows.map (fun c => s.rowOf c a len npts)
  let unc := rows.foldl (fun m c => if c < 48 then max m (s.fld MOL_LAT_UNC (c / 8)) else m) 0
  let mine := s.wfm.fires.filter (fun f => rows.contains f.slot && decide (a ≤ f.win ∧ f.win < a + len))
  let chmap := if ring then toBytes 8 (rows.foldl (fun m c => m + 2 ^ c) 0)
    else (List.range 8).map (fun k => let c := rows.getD k 255; if c < 48 then c else 255)
  let fl := if ring then toBytes 8 (rs.foldl (fun m r => m ||| r.2.2) 0) else fitBytes 8 (rs.map (fun r => r.2.2))
  let bits := fun (p : Firing → Bool) => (List.range 16).foldl (fun m t => if mine.any (fun f => f.unit = t && p f) then m + 2 ^ t else m) 0
  let hdr := st ++ toBytes 4 seq ++ [src, rows.length] ++ toBytes 2 npts ++ [win, fmt, 0, 0] ++ toBytes 2 (min unc 65535) ++ [0, 0]
    ++ chmap ++ fl ++ toBytes 2 (bits (fun _ => true)) ++ toBytes 2 (bits (·.selv))
  (hdr, rs.flatMap (fun r => r.1.flatMap (toBytes (esize fmt))) ++ rs.flatMap (fun r => maskBytes npts r.2.1))

/-! ### Emissions (R148 to R150) -/

def State.emRows (s : State) (a e : Nat) : List Nat :=
  let map := (s.wregAt a (WFM_EMMAP_LO.at e)).toNat + 2 ^ 32 * (s.wregAt a (WFM_EMMAP_HI.at e)).toNat
  (List.range (s.wfld a WFM_EMCFG_NCH e + 1)).map (fun k => map / 2 ^ (8 * k) % 256)

/-- A firing that delivers nothing. -/
def State.skipEmission (s : State) : State := (s.count WFM_CNT_SKIP_SKIP).wfmReport 2 4

/-- A DEADLINE packet of `len` bytes that the hub issues (R222). -/
def State.chargeHub (s : State) (len : Nat) : State :=
  let u := unitsOf len
  if u ≤ s.mesh.hubBudget then s.modMesh (fun m => { m with hubBudget := m.hubBudget - u })
  else if s.mesh.hubBudget0 = 0 then s
  else
    let s := s.count MESH_CNT_DEMOTE
    if s.mesh.once.contains 64 then s.event MESH_EVENT.base MESH_INT_EN.base 3 33
    else (s.modMesh (fun m => { m with once := m.once ++ [64] })).meshReport 3 4 34

/-- The packets of a hub delivery of `n` bytes in the DEADLINE class. -/
def State.chargeHubBytes (s : State) (n : Nat) : State :=
  (List.range ((n + 247) / 248)).foldl (fun s i => s.chargeHub (8 + round8 (min 248 (n - 248 * i)))) s

/-- Emission `e` delivers the window that begins at `a`, as it is configured at stitch `b` (R148 to R150). -/
def State.deliver (s : State) (e a b : Nat) : State :=
  let rows := s.emRows b e
  let c0 := ((rows.filter (fun c => decide (c < 48))).head?).getD 0
  let len := s.winLen a c0
  let npts := s.slotN a c0 * len / 1024
  let fmt := s.wfld a WFM_CHCFG_FMT c0
  let core := s.wfld b WFM_EMCFG_DCORE e
  if s.coreDropped core ∨ s.wfm.out.any (fun d => d.em = e) then s.skipEmission
  else
    let seq := ((look s.wfm.seq e).getD 0 + 1) % 2 ^ 32
    let rep := look s.wfm.sent e = some a
    let win := (if len = 1024 then 0 else if a % 1024 = 0 then 1 else 2) + (if rep then 128 else 0)
    let addr := 64 * s.wfld b WFM_EMDEST_DEST e + (if seq % 2 = 1 then 1024 * s.wfld b WFM_EMDEST_ALT e else 0)
    let (hdr, body) := s.frameSet a len npts fmt seq e win rows false
    let cls := if s.wfld b WFM_EMCFG_CLASS e = 0 then 0 else 2
    let s := if cls = 0 then s.chargeHubBytes (setSize rows.length npts fmt) else s
    let s := (s.hubPut core cls (addr + 64) body).hubPut core cls addr hdr
    s.modWfm (fun w => { w with
      seq := bind w.seq e seq, sent := bind w.sent e a,
      out := w.out ++ [{ em := e, core := core, cls := cls, addr := addr, seq := seq,
                         mrk := if s.wfld b WFM_EMCFG_MRKEN e = 1 then some (s.wfld b WFM_EMCFG_MRK e) else none }] })

/-- Emission `e` fires (R148): the latest window of its slots that was finalized since it was enabled is delivered, under the configuration that
window began with (R158), or, if it began before the emission was enabled, under the present one. -/
def State.fireEmission (s : State) (e : Nat) : State :=
  if s.live WFM_EMCFG_EN e = 0 ∨ s.flag PWR_DROP_UNIT_WFM then s.skipEmission
  else
    let since := (look s.wfm.emOn e).getD 0
    let rows := (s.emRows s.absStitch e).filter (fun c => decide (c < 48))
    match rows.filterMap (fun c => ((s.fslot c).wins.find? (fun w => decide (since ≤ w.fin))).map (·.start)) with
    | [] => s.skipEmission
    | starts =>
      let a := starts.foldl max 0
      s.deliver e a (if s.wfld a WFM_EMCFG_EN e = 1 then a else s.absStitch)

/-- EMISSION_COMMIT (R150): every write of emission `e`'s set is acknowledged; COMMIT is written and the marker moves. A set whose core was
fenced meanwhile is lost and counted. -/
def State.emissionCommit (s : State) (e : Nat) : State :=
  match s.wfm.out.find? (fun d => d.em = e) with
  | none => s
  | some d =>
    if s.hubUnacked d.core d.cls ∧ ¬ s.coreDropped d.core then s else
    let s := s.modWfm (fun w => { w with out := w.out.erase d })
    if s.coreDropped d.core then s.skipEmission
    else
      s.hubPut d.core d.cls (d.addr + 60) (toBytes 4 d.seq) d.mrk
def execEmissionCommit (e : Nat) (s : State) : Out := onUnit e 64 (.next (if s.boot.halted then s else s.emissionCommit e))

/-! ### Finalization (R145, R146) -/

/-- The window of slot `c` that begins at `w` is fixed. -/
def State.finalizeWin (s : State) (c w : Nat) : State :=
  let len := s.winLen w c
  let s := s.runSlot c (w + len - 1) true 4096
  let f := s.fslot c
  let ps := (f.pts.filter (fun p => decide (w ≤ p.stitch ∧ p.stitch < w + len))).reverse
  let fmt := s.wfld w WFM_CHCFG_FMT c
  let late := ps.any (·.late)
  let flags := (if ps.any (·.sub) then 1 else 0) + (if ps.all (·.sub) then 2 else 0)
    + (ps.foldl (fun m p => m ||| p.fl) 0) + (if f.restarts.any (fun r => decide (w ≤ r.1 ∧ r.1 < w + len)) then 32 else 0)
    + (if late then 64 else 0)
  let i := s.instantOr w
  let win : FWin := { start := w, len := len, fin := s.absStitch, stFlags := i.seg.flags, stNs := i.ns, fmt := fmt, flags := flags, mask := ps.map (·.sub),
                      vals := ps.map (fun p => if fmt = 1 then p.v else (of32 p.v).toP16 .rne) }
  let s := s.modFslot c (fun f => { f with wins := (win :: f.wins).take 8, win := some (w + len) })
  let s := (s.setFld WFM_CHSTAT_FLAGS flags c).setFld WFM_CHSTAT_UNC (s.fld MOL_LAT_UNC (c / 8)) c
  if late then s.wfmReport 3 4 else s

/-- Windows of slot `c` that are due; a slot found disabled waits for the round in which it is enabled again. -/
def State.finalizeSlot (s : State) (c : Nat) : Nat → State
  | 0 => s
  | n + 1 =>
    match (s.fslot c).win with
    | none => s
    | some w =>
      if s.wfld w WFM_CHCFG_EN c = 0 then
        if s.absStitch < w then s
        else if s.live WFM_CHCFG_EN c = 0 ∧ s.wfm.old.all (fun o => decide (o.1 ≤ w)) then s.modFslot c (fun f => { f with win := none })
        else (s.modFslot c (fun f => { f with win := some ((w / 1024 + 1) * 1024) })).finalizeSlot c n
      else if w + s.winLen w c + s.wfld w WFM_CFG_LAG ≤ s.absStitch then (s.finalizeWin c w).finalizeSlot c n
      else s

/-- The slots a ring records of round `r`. -/
def State.ringRows (s : State) (r k : Nat) : List Nat :=
  bitsOf ((s.wregAt (1024 * r) (WFM_RGMASK_LO.at k)).toNat + 2 ^ 32 * s.wfld (1024 * r) WFM_RGMASK_HI_MASK k) 48

/-- The record of round `r` of ring `k` is queued (R146 step 4, R155). -/
def State.queueRing (s : State) (k r : Nat) : State :=
  let a := 1024 * r
  let rows := s.ringRows r k
  let st := s.rgState k
  if s.wfld a WFM_RGCFG_EN k = 0 ∨ ¬ (st = 1 ∨ (st = 2 ∧ r ≤ nearMod 48 r (s.trnd k) + s.wfld a WFM_RGCFG_POST k)) then s
  else
    let c0 := (rows.head?).getD 0
    let n := s.slotN a c0
    let fmt := s.wfld a WFM_CHCFG_FMT c0
    let size := setSize rows.length n fmt
    let (hdr, body) := s.frameSet a 1024 n fmt (r % 2 ^ 32) (0x80 + k) 0 rows true
    let addr := 4096 * s.wfld a WFM_RGBASE_BASE k + (r % max 1 (s.wfld a WFM_RGDEPTH_DEPTH k)) * size
    s.modWfm (fun w => { w with ringq := w.ringq ++ [{ ring := k, round := r, addr := addr, bytes := hdr ++ toBytes 4 r ++ body }] })

/-- The AUTO emissions fire at the finalization of their slots' windows, `moved` listing slots with the windows' first stitches. EN, AUTO and the map
are those a window began under (R158); where several windows of an emission are fixed in one stitch, the latest is delivered. -/
def State.autoEmissions (s : State) (moved : List (Nat × Nat)) : State :=
  (List.range 64).foldl (fun s e =>
    match (moved.filter (fun m => decide (s.wfld m.2 WFM_EMCFG_EN e = 1 ∧ s.wfld m.2 WFM_EMCFG_AUTO e = 1) && (s.emRows m.2 e).contains m.1)).map
        Prod.snd with
    | [] => s
    | starts =>
      let a := starts.foldl max 0
      s.deliver e a a) s

/-- The rings that hold one of the channels `moved` queue their record of round `r`. -/
def State.offerRings (s : State) (moved : List Nat) (r : Nat) : State :=
  (List.range 4).foldl (fun s k => if (s.ringRows r k).any (fun c => moved.contains c) then s.queueRing k r else s) s

/-- A number in its place in a rising list. -/
def insNat (x : Nat) : List Nat → List Nat
  | [] => [x]
  | y :: t => if x ≤ y then x :: y :: t else y :: insNat x t

/-- Steps 3 and 4 of R146: every window that is due is fixed, AUTO emissions fire, ring records of the rounds that have ended are queued, oldest
first. -/
def State.finalizeDue (s : State) : State :=
  if s.flag PWR_DROP_UNIT_WFM ∨ s.boot.halted then s else
  let before := (List.range 48).map (fun c => (s.fslot c).win)
  let s := (List.range 48).foldl (fun s c => s.finalizeSlot c 8) s
  let wins := (List.range 48).flatMap (fun c => match before.getD c none with
    | some w => (((s.fslot c).wins.filter (fun x => decide (w ≤ x.start ∧ x.fin = s.absStitch))).reverse).map (fun x => (c, x))
    | none => [])
  if wins.isEmpty then s
  else
    let s := s.autoEmissions (wins.map (fun x => (x.1, x.2.start)))
    let rounds := ((wins.filterMap (fun x =>
      if (x.2.start + x.2.len) % 1024 = 0 then some ((x.2.start + x.2.len) / 1024 - 1) else none)).eraseDups).foldr insNat []
    rounds.foldl (fun s r => s.offerRings ((wins.filter (fun x => decide (x.2.start / 1024 = r))).map Prod.fst) r) s

/-- WINDOW_FINALIZE (R145). -/
def execWindowFinalize (s : State) : Out := .next s.finalizeDue

/-! ### Capture rings: records and commands (R155 to R157) -/

/-- Some part of a record abandoned before COMMIT has been written: rows and masks first, then the header (R150). -/
def State.partRecord (s : State) (q : RingRec) : State :=
  let body := q.bytes.drop 64
  let n := Config.pick s.free 0 % (body.length + 61)
  let s := s.putLpddr (q.addr + 64) (body.take n)
  (s.putLpddr q.addr ((q.bytes.take 60).take (n - body.length))).draw

/-- RING_RECORD_DONE (R155, R157): the oldest queued record of ring `k` is written, or is abandoned. -/
def State.ringDone (s : State) (k : Nat) (ok : Bool) : State :=
  match s.wfm.ringq.find? (fun q => q.ring = k) with
  | none => s
  | some q =>
    let s := s.modWfm (fun w => { w with ringq := w.ringq.erase q, ringDone := bind w.ringDone k q.round })
    let s := if ok then s.putLpddr q.addr q.bytes else ((s.partRecord q).count WFM_CNT_RING_RINGDROP).wfmReport 4 4
    s.checkFrozen k
def execRingRecordDone (k : Nat) (ok : Bool) (s : State) : Out := onUnit k 4 (.next (s.ringDone k ok))

/-- REARM of ring `k`. -/
def State.rearm (s : State) (k : Nat) : State := if s.rgState k = 3 then s.setFld WFM_RGSTAT_STATE 1 k else s
/-- FORCE of ring `k`: rt is the current round. -/
def State.force (s : State) (k : Nat) : State := if s.rgState k = 1 then s.capture k s.count48 else s

/-- A read of WFM_TRGQ pops the oldest entry (R78, R154). -/
def State.popTrgq (s : State) : State := (s.modWfm (fun w => { w with trgq := w.trgq.tail })).noteTrgq

/-! ### The staged set (R142, R149, R155, R158) -/

def slotSame (s : State) (rows : List Nat) (fs : List Fld) : Bool :=
  fs.all (fun f => match rows with
    | [] => true
    | c :: t => t.all (fun d => s.fld f c = s.fld f d))

/-- Rows of emission `e` in the staged set. -/
def State.emStaged (s : State) (e : Nat) : List Nat :=
  let map := s.regN WFM_EMMAP_LO e + 2 ^ 32 * s.regN WFM_EMMAP_HI e
  (List.range (s.fld WFM_EMCFG_NCH e + 1)).map (fun k => map / 2 ^ (8 * k) % 256)
def State.ringStaged (s : State) (k : Nat) : List Nat := bitsOf (s.regN WFM_RGMASK_LO k + 2 ^ 32 * s.fld WFM_RGMASK_HI_MASK k) 48
/-- SLOT of ring `k` under the staged set. -/
def State.ringSize' (s : State) (k : Nat) : Nat :=
  let rows := s.ringStaged k
  let c0 := (rows.head?).getD 0
  setSize rows.length (64 * 2 ^ s.fld WFM_CHCFG_NCODE c0) (s.fld WFM_CHCFG_FMT c0)

def State.chCodeBad (s : State) (c : Nat) : Bool :=
  decide (4 < s.fld WFM_CHCFG_NCODE c ∨ 4 < s.fld WFM_CHCFG_DEC c ∨ s.fld WFM_CHCFG_FILL c = 3)
    || !(of32 (s.regN WFM_CHGAIN c)).isFin
    || (s.flag WFM_CHCFG_EN c && decide (12800 * 2 ^ s.live MOL_CFG_RATE (c / 8) * 65536
        < 2 * (64 * 2 ^ s.fld WFM_CHCFG_NCODE c) * s.liveN RND_BAND_HI * 2 ^ s.fld WFM_CHCFG_DEC c))

def State.emDestBad (s : State) (e : Nat) : Bool :=
  let rows := s.emStaged e
  let c0 := ((rows.filter (fun c => decide (c < 48))).head?).getD 0
  let npts := 64 * 2 ^ s.fld WFM_CHCFG_NCODE c0 / (if s.flag WFM_CHCFG_HALF c0 then 2 else 1)
  let size := setSize rows.length npts (s.fld WFM_CHCFG_FMT c0)
  let dest := 64 * s.fld WFM_EMDEST_DEST e
  let alt := 1024 * s.fld WFM_EMDEST_ALT e
  decide (0x100000 < dest + alt + size ∨ (0 < alt ∧ alt < size))

def State.ringBad (s : State) (k : Nat) : Bool :=
  let rows := s.ringStaged k
  let d := s.fld WFM_RGDEPTH_DEPTH k
  !(slotSame s rows [WFM_CHCFG_NCODE, WFM_CHCFG_FMT])
    || decide (16 < rows.length ∨ 64 < s.fld WFM_RGCFG_PRE k ∨ 256 < s.fld WFM_RGCFG_POST k
        ∨ d < s.fld WFM_RGCFG_PRE k + s.fld WFM_RGCFG_POST k + 1 ∨ 321 < d
        ∨ lpddrSize < 4096 * s.fld WFM_RGBASE_BASE k + d * s.ringSize' k)

def State.ringLiveBad (s : State) (k : Nat) : Bool :=
  decide (s.rgState k ≠ 0) && ([WFM_RGDEPTH, WFM_RGMASK_LO, WFM_RGMASK_HI, WFM_RGBASE].any (fun r => decide (s.reg (r.at k) ≠ s.reg (r.at k + 0x800)))
    || decide (s.fld WFM_RGCFG_PRE k ≠ s.live WFM_RGCFG_PRE k ∨ s.fld WFM_RGCFG_POST k ≠ s.live WFM_RGCFG_POST k))

/-- REJ_CAUSE; the first cause in the order of its codes. -/
def State.wfmReject (s : State) : Nat :=
  if s.fld WFM_CFG_LAG = 0 then 1
  else if (List.range 48).any (fun c => s.chCodeBad c) then 2
  else if (List.range 64).any (fun e =>
      !(slotSame s ((s.emStaged e).filter (fun c => decide (c < 48))) [WFM_CHCFG_NCODE, WFM_CHCFG_HALF, WFM_CHCFG_FMT])) then 3
  else if (List.range 64).any (fun e => s.emDestBad e) then 4
  else if (List.range 4).any (fun k => s.ringBad k) then 5
  else if (List.range 4).any (fun k => s.ringLiveBad k) then 6
  else if (List.range 16).any (fun t => s.flag WFM_TRGCFG_EN t
      && (decide (48 ≤ s.fld WFM_TRGCFG_SLOT t) || !(s.flag WFM_CHCFG_EN (s.fld WFM_TRGCFG_SLOT t)))) then 7
  else if (List.range 16).any (fun t => decide (s.fld WFM_TRGCFG_TYPE t = 3 ∨ s.fld WFM_TRGCFG_CNT t = 0 ∨ s.fld WFM_TRGCFG_SEV t = 0)) then 8
  else 0

/-- Offsets of the staged registers of the Framer. -/
def wfmStaged : List Nat :=
  let arr := fun (r : Rg) => (List.range r.n1).flatMap (fun i => (List.range (max 1 r.n2)).map (fun j => r.at i j))
  [WFM_CFG, WFM_CHCFG, WFM_CHGAIN, WFM_CHOFS, WFM_LPCOEF, WFM_EMCFG, WFM_EMMAP_LO, WFM_EMMAP_HI, WFM_EMDEST, WFM_TRGCFG, WFM_TRGMRK,
   WFM_RGCFG, WFM_RGDEPTH, WFM_RGMASK_LO, WFM_RGMASK_HI, WFM_RGBASE].flatMap arr

/-- Slot `c` after a COMMIT, `was` saying whether it was enabled: a change of DEC or LPSET restarts its history, enabling starts it. -/
def State.slotApplied (s : State) (c : Nat) (was changed : Bool) : State :=
  let now := s.absStitch
  if s.live WFM_CHCFG_EN c = 0 ∨ (was ∧ ¬ changed) then s
  else
    let fr := match (s.fslot c).stream with
      | some t => s.sampleFrom t now
      | none => 0
    s.modFslot c (fun f => { f with
      restarts := ((now, fr) :: f.restarts).take 8, point := f.point.orElse (fun _ => some now), win := f.win.orElse (fun _ => some now) })

/-- A ring of the Framer that the set turns off or on changes its state. -/
def State.ringSwitch (s : State) (k : Nat) : State :=
  if s.live WFM_RGCFG_EN k = 0 then s.setFld WFM_RGSTAT_STATE 0 k
  else if s.rgState k = 0 then (s.setFld WFM_RGSTAT_STATE 1 k).modWfm (fun w => { w with ringDone := unbind w.ringDone k })
  else s

/-- Ring `k` after a set has taken effect: its slot size, and WAIT or OFF as EN says. -/
def State.ringApplied (s : State) (k : Nat) : State :=
  (s.setFld WFM_RGSLOT_SLOT (s.ringSize' k) k).ringSwitch k

/-- Emission `e` after a set has taken effect: the stitch from which it is enabled (R148). -/
def State.emApplied (s : State) (e : Nat) : State :=
  if s.live WFM_EMCFG_EN e = 0 then s.modWfm (fun w => { w with emOn := unbind w.emOn e })
  else if (look s.wfm.emOn e).isSome then s
  else s.modWfm (fun w => { w with emOn := bind w.emOn e s.absStitch })

/-- The set of the Framer takes effect or is rejected at stitch 0 (R97, R158). A unit that is enabled starts anew, but for its last consistent pair
(R98). -/
def State.applyWfm (s : State) : State :=
  let s := s.setFld WFM_CTRL_COMMIT 0
  let rej := s.wfmReject
  if rej ≠ 0 then (s.setFld WFM_STATUS_REJ_CAUSE rej).wfmReport 7 3
  else
    let now := s.absStitch
    let diff := wfmStaged.filter (fun a => decide (s.reg a ≠ s.reg (a + 0x800)))
    let was := (List.range 48).map (fun c => (s.live WFM_CHCFG_EN c = 1 : Bool))
    let chg := (List.range 48).map (fun c => (decide (s.live WFM_CHCFG_DEC c ≠ s.fld WFM_CHCFG_DEC c ∨ s.live WFM_CHCFG_LPSET c ≠ s.fld WFM_CHCFG_LPSET c)))
    let trgOn := (List.range 16).filter (fun t => decide (s.live WFM_TRGCFG_EN t = 0) && s.flag WFM_TRGCFG_EN t)
    let s := s.modWfm (fun w => { w with old := (now, diff.map (fun a => (a, s.reg (a + 0x800)))) :: w.old.filter (fun o => decide (now < o.1 + 8192)) })
    let s := diff.foldl (fun s a => s.setReg (a + 0x800) (s.reg a)) s
    let s := (List.range 48).foldl (fun s c =>
      (s.slotApplied c (was.getD c false) (chg.getD c false)).modFslot c (fun f => { f with rateBad := false })) s
    let s := (List.range 64).foldl (fun s e => s.emApplied e) s
    let s := trgOn.foldl (fun s t => (((s.modTrg t (fun x => { fire := x.fire, clr := x.clr })).setFld WFM_TRGSTAT_FIRED 0 t).setFld WFM_TRGSTAT_FIRES 0 t)) s
    ((List.range 4).foldl (fun s k => s.ringApplied k) s).wfmReport 8 1

end Sys2Proof.Machine
end

