-- ==== Sys2Proof/Machine/Fbr.lean ====
section
/-! DEFINITION. Machine/Fbr.lean: the Field Bridge behind its windows (chapter 16): segments, the error log, blocking, routing. What reaches it from
BAR4, and what it hands to a port, stand in Machine/Bridge.lean. -/

namespace Sys2Proof.Machine
open Sys2Proof Sys2Proof.Machine.Reg

def State.modFbr (s : State) (f : Fbr → Fbr) : State := { s with fbr := f s.fbr }
def State.modSeg (s : State) (id : Nat) (f : FSeg → FSeg) : State :=
  s.modFbr (fun b => { b with segs := b.segs.map (fun g => if g.id = id then f g else g) })

/-- A request that is in error completes (R100): all ones, or a Completer Abort with HIF_CTRL.SLVERR_EN; a write only aborts. -/
def State.respondErr (s : State) (rq : Requester) (write : Bool) (n : Nat) : State :=
  if s.flag HIF_CTRL_SLVERR_EN then s.respond rq 1 []
  else if write then s else s.respond rq 0 (List.replicate n 0xFF)

/-- Memory Space Enable is 0: a request of the host to a BAR completes as unsupported and does not reach the device (R339). -/
def State.barsOff (s : State) (rq : Requester) : Bool := decide (rq = .host) && !s.hif.mse

/-- The byte enables of the first dword of a request at `off`, and its data. -/
def firstDword (off : Nat) (l : List (Nat × Bool)) : Nat × Nat :=
  let q := l.take (4 - off % 4)
  ((List.range q.length).foldl (fun m i => if (q.getD i (0, false)).2 then m + 2 ^ (off % 4 + i) else m) 0,
   (List.range q.length).foldl (fun m i => let b := q.getD i (0, false); if b.2 then m + (b.1 % 256) * 2 ^ (8 * (off % 4 + i)) else m) 0)

/-- An event of Table 16.5. -/
def State.fbrReport (s : State) (b sev src : Nat) (data : Nat := 0) : State :=
  s.report FBR_EVENT.base FBR_INT_EN.base b 35 (0x0C00 + b) src sev data

/-! ### Windows -/

def State.winOn (s : State) (w : Nat) : Bool := s.live FBR_WCFG_EN w = 1
def State.winStrict (s : State) (w : Nat) : Bool := s.live FBR_WCFG_STRICT w = 1
def State.winBlocked (s : State) (w : Nat) : Bool := s.flag FBR_WSTAT_BLOCKED w
def State.nextWseq (s : State) (w : Nat) : Nat := (look s.fbr.wseq w).getD 0
def State.winSegs (s : State) (w : Nat) : List FSeg := s.fbr.segs.filter (fun g => g.win = w)

/-- FBR_OCC and FBR_WSTAT.HELD show the buffers. -/
def State.noteFbr (s : State) : State :=
  let s := s.setFld FBR_OCC_POSTED (s.fbr.segs.countP (fun g => !g.read))
  let s := s.setFld FBR_OCC_READS (s.fbr.segs.countP (fun g => g.read))
  (List.range 16).foldl (fun s w => s.setFld FBR_WSTAT_HELD ((s.winSegs w).countP (fun g => !g.read && decide (g.st = 0))) w) s

/-- REJ_CAUSE of window `w` (R373). -/
def State.winReject (s : State) (w : Nat) : Nat :=
  if s.fld FBR_WCFG_LANE w = 3 then 1
  else if s.flag FBR_WCFG_EN w ∧ s.fld FBR_WCFG_HID w % 16 ≠ 1 then 2
  else if s.regN FBR_WBASE w % 4 ≠ 0 then 3
  else 0

/-- The safe point of window `w`, if it is there: no accepted request is left (R96, R373). -/
def State.winPoint (s : State) (w : Nat) : State :=
  if ¬ s.flag FBR_WCTRL_COMMIT w ∨ ¬ (s.winSegs w).isEmpty then s
  else
    let s := (s.setFld FBR_WCTRL_COMMIT 0 w).setFld FBR_WSTAT_CWAIT 0 w
    let rej := s.winReject w
    if rej ≠ 0 then (s.setFld FBR_WSTAT_REJ_CAUSE rej w).fbrReport 4 3 w
    else
      let was := s.winOn w
      let s := (s.apply1 FBR_WCFG w 0).apply1 FBR_WBASE w 0
      let s := if s.winOn w ∧ ¬ was then s.modFbr (fun b => { b with wseq := unbind b.wseq w }) else s
      s.fbrReport 5 1 w

/-- A COMMIT of window `w`. -/
def State.commitWin (s : State) (w : Nat) : State := (s.setFld FBR_WCTRL_COMMIT 1 w).setFld FBR_WSTAT_CWAIT 1 w

/-! ### The error log (R384) -/

/-- FBR_ELOG0 shows the oldest record. -/
def State.noteElog (s : State) : State := s.setRegN FBR_ELOG0 ((s.fbr.log.head?).map (·.e0) |>.getD 0)

/-- One record, or one lost. `win` and `wseq` none: the record is no window's, and the spec gives those fields no value. -/
def State.fbrLog (s : State) (win : Option Nat) (wseq cause : Nat) (read route : Bool) (addr id : Nat) : State :=
  if 32 ≤ s.fbr.log.length then (s.count FBR_CNT_ELOST).fbrReport 1 5 (win.getD 0)
  else
    let w := win.getD ((Config.freeWord s.free).toNat % 16)
    let q := if win.isSome then wseq else (Config.freeWord (s.free + 1)).toNat % 65536
    let s := if win.isSome then s else { s with free := s.free + 2 }
    let e : FErr := { e0 := w + 16 * cause + (if read then 512 else 0) + (if route then 1024 else 0) + 2048 * q + 2 ^ 31,
                      e1 := addr, e2 := id + 65536 * (s.count48 % 65536) }
    let s := (s.modFbr (fun b => { b with log := b.log ++ [e] })).noteElog
    let s := if win.isSome then s.count FBR_WCNT_ERRS 1 w else s
    s.fbrReport 0 4 w (addr + 2 ^ 32 * id + 2 ^ 48 * cause + (if read then 2 ^ 56 else 0))

/-- A read of FBR_ELOG0 pops the oldest record and latches its other words for the requester (R384). -/
def reqCode : Requester → Nat
  | .host => 0
  | .hub => 1
  | .debug => 2
def State.elogPop (s : State) (rq : Requester) (keep : Bool) : State :=
  match s.fbr.log with
  | [] => s
  | e :: t =>
    let k := 2 * reqCode rq
    (s.modFbr (fun b => { b with log := if keep then b.log else t, elatch := bind (bind b.elatch k e.e1) (k + 1) e.e2 })).noteElog
/-! ### Segments end (R378, R382, R385) -/

def State.dropSeg (s : State) (g : FSeg) : State :=
  ((s.modFbr (fun b => { b with segs := b.segs.filter (fun x => decide (x.id ≠ g.id)) })).noteFbr).winPoint g.win

/-- A STRICT window is blocked (R385). -/
def State.blockWin (s : State) (w : Nat) : State :=
  if s.winBlocked w then s
  else
    let s := s.setFld FBR_STATUS_BLOCKED (s.fld FBR_STATUS_BLOCKED ||| 2 ^ w)
    (s.setFld FBR_WSTAT_BLOCKED 1 w).fbrReport 3 4 w

/-- Window `w` is unblocked. -/
def State.unblockWin (s : State) (w : Nat) : State :=
  if s.winBlocked w then
    (s.setFld FBR_STATUS_BLOCKED (s.fld FBR_STATUS_BLOCKED &&& (65535 - 2 ^ w))).setFld FBR_WSTAT_BLOCKED 0 w
  else s
def State.ackWins (s : State) (mask : Nat) : State := (bitsOf mask 16).foldl (fun s w => s.unblockWin w) s

/-- Segment `g` fails: it is logged, a read completes in error, a write blocks a STRICT window. -/
def State.failSeg (s : State) (g : FSeg) (cause : Nat) : State :=
  let strict := s.winStrict g.win
  let s := s.fbrLog (some g.win) g.wseq cause g.read g.route g.addr g.hid
  let s := if g.read then s.respondErr g.rq false g.ofs.length else if strict then s.blockWin g.win else s
  s.dropSeg g

/-- The tick limits of FBR_CFG: 0 reads as 1, in units of 10 µs. -/
def State.ackTmo (s : State) : Nat := 2500 * max 1 (s.fld FBR_CFG_ACKTMO)
def State.rdTmo (s : State) : Nat := 2500 * max 1 (s.fld FBR_CFG_RDTMO)

/-- A tag is not used again for a further ACKTMO. -/
def State.holdTag (s : State) (g : FSeg) : State :=
  let till := s.rnd.clk + s.ackTmo
  s.modFbr (fun b => { b with heldTags := (g.port, g.tag, till) :: b.heldTags.filter (fun h => decide (s.rnd.clk < h.2.2)) })

/-- What waits or is out at port `p` fails (R133, R135). -/
def State.failPort (s : State) (p cause : Nat) : State :=
  (s.fbr.segs.filter (fun g => decide (g.port = p ∧ (g.st ≠ 0 ∨ g.since.isSome)))).foldl (fun s g => s.failSeg g cause) s

/-- The segment that `tag` stands for at port `p`. -/
def State.tagged (s : State) (p tag : Nat) : Option FSeg := s.fbr.segs.find? (fun g => decide (g.st = 1 ∧ g.port = p ∧ g.tag = tag))

/-- Segment `g`, which is out, has not been answered in its time: ACKTMO (R378), or for a read RDTMO (R382), whichever passed first. -/
def State.timeOut (s : State) (g : FSeg) : State :=
  let ack := decide (s.ackTmo ≤ s.rnd.clk - g.sent)
  let rd := g.read && decide (s.rdTmo ≤ s.rnd.clk - g.acc)
  if rd ∧ (¬ ack ∨ g.acc + s.rdTmo < g.sent + s.ackTmo) then (s.holdTag g).failSeg g 10
  else if ack then (s.holdTag g).failSeg g 4
  else s

/-- The segment that `tag` stands for fails if its time is over: an answer that comes now is late. -/
def State.expireTag (s : State) (p tag : Nat) : State :=
  match s.tagged p tag with
  | none => s
  | some g => s.timeOut g

/-- A REGACK answers (R378, R382). A status above 3, which R126 does not list, ends the segment as a failure; its cause is a free value (log 122). -/
def State.regack (s : State) (p tag status : Nat) (data : List Nat) : State :=
  match s.tagged p tag with
  | none => (s.count FBR_CNT_LATEACK).fbrReport 2 3 0
  | some g =>
    match status with
    | 0 =>
      let s := if g.read then s.respond g.rq 0 (g.ofs.map (fun o => data.getD ((o + 2 ^ 32 - g.addr) % 2 ^ 32) 0)) else s
      s.dropSeg g
    | 2 =>
      if g.tries < s.fld FBR_CFG_BUSYRETRY then
        s.modSeg g.id (fun x => { x with st := 2, tries := x.tries + 1, since := some (s.absStitch + 1) })
      else s.failSeg g 2
    | 1 => s.failSeg g 1
    | 3 => s.failSeg g 3
    | _ => (s.failSeg g (1 + Config.pick s.free tag % 15)).draw

/-! ### Writes enter a window (R374 to R376) -/

/-- The head address of window offset `o`. -/
def State.headAddr (s : State) (w o : Nat) : Nat :=
  let b := s.liveN FBR_WBASE w
  if s.live FBR_WCFG_LANE w = 2 then (b + (o ^^^ 3)) % 2 ^ 32 else (b + o) % 2 ^ 32

/-- Bytes in rising address order. -/
def insAddr (x : Nat × Nat) : List (Nat × Nat) → List (Nat × Nat)
  | [] => [x]
  | y :: t => if x.1 < y.1 then x :: y :: t else y :: insAddr x t

/-- Maximal runs of consecutive addresses, split at multiples of 128 (R375). -/
def cutRuns : List (Nat × Nat) → List (Nat × List Nat)
  | [] => []
  | (a, v) :: t =>
    match cutRuns t with
    | [] => [(a, [v])]
    | (b, vs) :: r => if b = a + 1 ∧ b % 128 ≠ 0 then (a, v :: vs) :: r else (a, [v]) :: (b, vs) :: r

/-- In a NONE window, the enabled bytes are whole aligned dwords. -/
def wholeDwords (os : List Nat) : Bool := os.all (fun o => (List.range 4).all (fun i => os.contains (o / 4 * 4 + i)))

/-- A write of the bytes `bs` (window offset, value) to an enabled window: the state and the cause of a refusal, 0 if it is accepted. -/
def State.winWrite (s : State) (w : Nat) (route : Bool) (bs : List (Nat × Nat)) : State × Nat :=
  let runs := cutRuns ((bs.map (fun b => (s.headAddr w b.1, b.2))).foldr insAddr [])
  let hid := s.live FBR_WCFG_HID w
  let q := s.nextWseq w
  let posted := s.fbr.segs.countP (fun g => !g.read)
  let mine := (s.winSegs w).countP (fun g => !g.read)
  let a0 := (runs.head?).map (·.1) |>.getD (s.liveN FBR_WBASE w)
  let refuse := fun (c : Nat) => (s.fbrLog (some w) q c false route a0 hid, c)
  if s.flag FBR_WSTAT_CWAIT w then refuse 12
  else if s.live FBR_WCFG_LANE w = 0 ∧ ¬ wholeDwords (bs.map (·.1)) then refuse 11
  else if 64 < posted + runs.length ∨ s.live FBR_WCFG_WDEPTH w + 1 < mine + runs.length then refuse 8
  else if runs.isEmpty then (s, 0)
  else
    let id := s.fbr.nextId
    let segs : List FSeg := (List.range runs.length).map (fun i =>
      let r := runs.getD i (0, [])
      { id := id + i, win := w, wseq := q, read := false, route := route, hid := hid, addr := r.1, data := r.2, len := r.2.length,
        acc := s.rnd.clk })
    ((s.modFbr (fun b => { b with segs := b.segs ++ segs, nextId := id + runs.length, wseq := bind b.wseq w ((q + 1) % 65536) })).noteFbr, 0)

/-! ### Routing (R387 to R392) -/

/-- The routes that match an identifier on a port. -/
def State.routesFor (s : State) (p id : Nat) : List Nat :=
  (List.range 256).filter (fun i => decide (s.fld FBR_RTKEY_VALID i = 1 ∧ s.fld FBR_RTKEY_PORT i = p ∧ s.fld FBR_RTKEY_INID i = id))

/-- The matching entry, and CFG_MISMATCH where several match. -/
def State.routeOf (s : State) (p id : Nat) : State × Option Nat :=
  match s.routesFor p id with
  | [] => (s, none)
  | [i] => (s, some i)
  | i :: _ => ((s.setFld FBR_STATUS_CFG_MISMATCH 1).fbrReport 6 3 0, some i)

/-- Table 16.4. -/
def HeadInt.bytes (h : HeadInt) (route : Nat) : List Nat :=
  [h.port, route] ++ toBytes 2 4 ++ h.stamp ++ fitBytes 8 h.hdr ++ toBytes 4 h.data

/-- The slot a mailbox record goes to, and its number. -/
def State.mailSlot (s : State) (i : Nat) : Nat × Nat :=
  let n := (look s.fbr.mailN i).getD 0
  (64 * s.fld FBR_RTDST_BASE i + 64 * (n % 2 ^ s.fld FBR_RTDST_NSLOT i), n)

/-- One INT is taken from its port's queue and routed. -/
def State.takeInt (s : State) (h : HeadInt) : State :=
  match s.routeOf h.port h.id with
  | (s, none) => s
  | (s, some i) =>
    match s.fld FBR_RTDST_KIND i with
    | 0 =>
      let s := s.setRegN FBR_HDATA h.data h.port h.line
      s.event (FBR_HINT.at h.port) (FBR_HINTEN.at h.port) h.line (36 + h.port)
    | 1 => s.post { type := 4, code := 0, src := 0x0400 + h.port, rnd := s.count48 % 2 ^ 32, body := h.bytes i, nent := 1 }
    | 2 =>
      let core := s.fld FBR_RTDST_DCORE_or_WIN i
      let (a, n) := s.mailSlot i
      let s := s.modFbr (fun b => { b with mailN := bind b.mailN i ((n + 1) % 2 ^ 32) })
      if s.coreDropped core then s.fbrLog none 0 14 false true i h.id
      else
        let s := s.hubPut core 1 a (fitBytes 56 (h.bytes i) ++ toBytes 4 n)
        s.modFbr (fun b => { b with mails := b.mails ++ [{ port := h.port, route := i, core := core, addr := a, n := n }] })
    | _ =>
      let w := s.fld FBR_RTDST_DCORE_or_WIN i % 16
      if s.winOn w then (s.winWrite w true ((List.range 4).map (fun j => (4 * h.line + j, h.data / 2 ^ (8 * j) % 256)))).1
      else s.fbrLog (some w) (s.nextWseq w) 13 false true ((s.liveN FBR_WBASE w + 4 * h.line) % 2 ^ 32) (s.live FBR_WCFG_HID w)

/-- INTs of port `p` are taken in order; one that follows a mailbox record waits for that record's COMMIT (R392). -/
def State.pumpInts (s : State) (p : Nat) : Nat → State
  | 0 => s
  | n + 1 =>
    if s.fbr.mails.any (fun m => m.port = p) then s
    else
      match s.fbr.ints.find? (fun h => h.port = p) with
      | none => s
      | some h => ((s.modFbr (fun b => { b with ints := b.ints.erase h })).takeInt h).pumpInts p n

/-- An INT arrives: it joins its port's queue of 16, or is dropped and logged (R383). -/
def State.intArrive (s : State) (h : HeadInt) : State :=
  if 16 ≤ s.fbr.ints.countP (fun x => x.port = h.port) then
    s.fbrLog none 0 15 false true (((s.routesFor h.port h.id).head?).getD 0) h.id
  else (s.modFbr (fun b => { b with ints := b.ints ++ [h] })).pumpInts h.port 17

/-- MAILBOX_COMMIT (R389): the oldest record of port `p` is acknowledged; COMMIT is written and the marker moves. -/
def State.mailCommit (s : State) (p : Nat) : State :=
  match s.fbr.mails.find? (fun m => m.port = p) with
  | none => s
  | some m =>
    if s.hubUnacked m.core 1 ∧ ¬ s.coreDropped m.core then s else
    let s := s.modFbr (fun b => { b with mails := b.mails.erase m })
    let s := if s.coreDropped m.core then s.fbrLog none 0 14 false true m.route (s.fld FBR_RTKEY_INID m.route)
      else s.hubPut m.core 1 (m.addr + 60) (toBytes 4 m.n) (some (s.fld FBR_RTDST_MRK m.route))
    s.pumpInts p 17
def execMailboxCommit (p : Nat) (s : State) : Out := onUnit p 6 (.next (s.mailCommit p))

/-- The cause a route pair is rejected with (FBR_STATUS.RTCAUSE): 1 SUBID, 2 KIND, 3 FIELD, 4 RANGE. -/
def routeBad (key dst : Nat) : Nat :=
  let sub := nbits key 0 4
  let kind := nbits dst 0 2
  let core := nbits dst 2 5
  if sub ≠ 1 ∧ sub ≠ 2 then 1
  else if sub = 1 ∧ kind ≠ 0 then 2
  else if nbits key 19 12 ≠ 0 ∨ (kind < 2 ∧ dst / 4 ≠ 0) ∨ (kind = 3 ∧ (16 ≤ core ∨ dst / 128 ≠ 0)) then 3
  else if 5 < nbits key 16 3 ∨ (kind = 2 ∧ 0x100000 < 64 * nbits dst 10 14 + 64 * 2 ^ nbits dst 7 3) then 4
  else 0

/-- The pair of route `i` is written (R387). -/
def State.writeRoute (s : State) (i key dst : Nat) : State :=
  let c := routeBad key dst
  if c ≠ 0 then ((s.setFld FBR_STATUS_RTCAUSE c).setFld FBR_STATUS_RTIDX i).fbrReport 4 3 0
  else ((s.setRegN FBR_RTKEY key i).setRegN FBR_RTDST dst i).modFbr (fun b => { b with mailN := unbind b.mailN i })

/-! ### Flush (R386) -/

/-- FLUSH of window `w`. -/
def State.flushWin (s : State) (w : Nat) : State :=
  let gone := (s.winSegs w).filter (fun g => !g.read && decide (g.st = 0))
  let first := (gone.head?).map (·.wseq)
  let n := gone.foldl (fun a g => a + g.len) 0
  let s := s.modFbr (fun b => { b with segs := b.segs.filter (fun g => !(gone.contains g)) })
  let s := (s.count FBR_WCNT_DRAINCNT n w).setFld FBR_WSTAT_FLUSHSEQ (first.getD (s.nextWseq w)) w
  ((s.setFld FBR_WCTRL_FLUSH 0 w).noteFbr).winPoint w

end Sys2Proof.Machine
end

