-- ==== Sys2Proof/Machine/Moari.lean ====
section
/-! DEFINITION. Machine/Moari.lean: the sense ports (chapter 5): messages, the port state machine, sample timing, latency, authentication, and
the responses to absent, slow, faulty and hostile heads. -/

namespace Sys2Proof.Machine
open Sys2Proof Sys2Proof.Machine.Reg

def State.pst (s : State) (p : Nat) : Nat := s.fld MOL_STATUS_STATE p
/-- An event of Table 5.10. -/
def State.molReport (s : State) (p b sev : Nat) (data : Nat := 0) : State :=
  s.report (MOL_EVENT.at p) (MOL_INT_EN.at p) b (8 + p) (0x0400 + b) p sev data
def State.molSerial (s : State) (p : Nat) : Nat := s.regN MOL_SERIAL_LO p + 2 ^ 32 * s.regN MOL_SERIAL_HI p

/-! ### Messages sent (R107, R111, R131) -/

/-- IV = DIR ‖ SALT ‖ MCNT. -/
def molIv (dir salt mcnt : Nat) : BitVec 96 := BitVec.ofNat 96 (dir * 2 ^ 88 + salt % 2 ^ 24 * 2 ^ 64 + mcnt % 2 ^ 64)
/-- The 8 bytes of a tag: the leading 64 bits of the GMAC (R130). -/
def molTag (key : BitVec 128) (iv : BitVec 96) (aad : List Nat) : List Nat := toBytes 8 (Config.gmac key iv aad).toNat

/-- The next ALIVE of sub-identifier `sub`, and the header of a message (Table 5.4). -/
def State.molHeader (s : State) (p type sub aux len : Nat) : List Nat :=
  let q := s.port p
  let (auth, mcnt) := match q.sess with
    | some x => (16, x.tx % 65536)
    | none => (0, 0)
  toBytes 2 (q.base + sub) ++ [type + auth, (look q.txAlive (q.base + sub)).getD 0, len, aux % 256] ++ toBytes 2 mcnt

/-- A message leaves: header, payload, tag in an authenticated session, CRC. -/
def State.molSend (s : State) (p type sub aux : Nat) (payload : List Nat) : State :=
  let q := s.port p
  let m := s.molHeader p type sub aux payload.length ++ payload
  let m := match q.sess with
    | some x => m ++ molTag x.key (molIv 1 x.salt x.tx) m
    | none => m
  s.modPort p (fun q => { q with
    lastTx := m ++ toBytes 4 (crc32c m), txAlive := bind q.txAlive (q.base + sub) (((look q.txAlive (q.base + sub)).getD 0 + 1) % 256),
    sess := q.sess.map (fun x => { x with tx := x.tx + 1 }) })

/-! ### States (R112, R133, R135) -/

def State.goPort (s : State) (p st : Nat) : State := (s.setFld MOL_STATUS_STATE st p).modPort p (fun q => { q with since := s.rnd.clk })

/-- HEAD_ABSENT is set. -/
def State.setAbsent (s : State) (p : Nat) : State :=
  if s.flag MOL_STATUS_HEAD_ABSENT p then s else (s.setFld MOL_STATUS_HEAD_ABSENT 1 p).molReport p 1 5

/-- The link session of port `p` ends: an admitted head that was UP is absent; `cause` is what its requests fail with (Table 16.2). -/
def State.endLink (s : State) (p cause : Nat) : State :=
  let s := if s.pst p = 7 then
      let s := ((s.setAbsent p).framerClose p).failPort p cause
      if s.live RND_REFSEL_PORT = p ∧ (0 < s.rnd.v.run ∨ s.qualified true) then s.disqualify true else s
    else s
  let s := (s.setFld MOL_STATUS_GEN 0 p).setFld MOL_STATUS_AUTHED 0 p
  let s := s.modPort p (fun q => { q with
    tries := 0, base := 0xFFF0, idGiven := false, rxAlive := [], t0 := none, expect := [], cadences := 0, echo := none, echoRnd := 0,
    fwd := [], out := [], calib := 0, credits := 0, nd := none, sess := none, prev := none, chalWait := none, confWait := none })
  s.settle (fun _ w => if w = Wait.head p then some (5, []) else none)

/-- Back to TRAIN1 (R112). -/
def State.toTrain (s : State) (p : Nat) : State := (s.endLink p 6).goPort p 1

/-- The states in which a port runs its link. -/
def State.linkOn (s : State) (p : Nat) : Bool := decide (1 ≤ s.pst p ∧ s.pst p ≤ 7)

/-- QUARANTINE (R135); `cause` 1 AUTH, 2 BADID, 3 RATE. -/
def State.quarantine (s : State) (p cause : Nat) : State :=
  let n := (s.port p).hostile
  let s := ((s.endLink p 7).goPort p 8).setAbsent p
  s.molReport p 4 6 (s.molSerial p % 2 ^ 48 + 2 ^ 48 * cause + 2 ^ 56 * min n 255)

/-- A hostile event (Table 5.9): QTHR of them in one round quarantine the port. -/
def State.hostileEvent (s : State) (p cause : Nat) : State :=
  let s := s.count (if cause = 1 then MOL_CNT_HOST_AUTH else if cause = 2 then MOL_CNT_HOST_BADID else MOL_CNT_HOST_RATE) 1 p
  let s := if cause = 1 then s.molReport p 5 5 else s
  let s := s.modPort p (fun q => { q with hostile := q.hostile + 1 })
  if s.live MOL_QCFG_QTHR p ≤ (s.port p).hostile then s.quarantine p cause else s

/-- A CRC failure; more than CRCTHR in one round force a retrain. -/
def State.crcFail (s : State) (p : Nat) : State :=
  let s := (s.count MOL_CNT_LINK_CRC 1 p).modPort p (fun q => { q with crcs := q.crcs + 1 })
  if s.live MOL_QCFG_CRCTHR p < (s.port p).crcs then (s.molReport p 8 4).toTrain p else s

/-- BLOCKED with a cause. -/
def State.blockPort (s : State) (p cause : Nat) : State :=
  (((s.endLink p 6).goPort p 9).setFld MOL_STATUS_BLK_CAUSE cause p).molReport p 10 4

/-! ### Messages received (R107 to R111, R131, R134) -/

/-- The pair TOK, BKT at use (R98): the last consistent pair serves, and each inconsistent use is an event (R136). -/
def State.ratePair (s : State) (p : Nat) : State :=
  let tok := s.fld MOL_RATELIM_TOK p
  let bkt := s.fld MOL_RATELIM_BKT p
  if 1 ≤ tok ∧ tok ≤ 16 * bkt then s.modPort p (fun q => { q with tok := tok, bkt := bkt })
  else s.molReport p 13 3

/-- The bucket gains TOK sixteenths, up to BKT tokens (R134). -/
def State.rateRefill (s : State) (p : Nat) : State :=
  (s.ratePair p).modPort p (fun q => { q with tokens := min (16 * q.bkt) (q.tokens + q.tok) })

/-- A message after its checks. -/
structure Msg where
  sub : Nat
  type : Nat
  aux : Nat
  hdr : List Nat
  pay : List Nat
  deriving DecidableEq, Repr

/-- The payload length the type asks for; none for a type that has no fixed one. -/
def lenOk (type aux : Nat) (pay : List Nat) : Bool :=
  match type with
  | 0 => decide (pay.length = 6 + 3 * pay.getD 5 0 ∧ 1 ≤ pay.getD 5 0 ∧ pay.getD 5 0 ≤ 78)
  | 2 => pay.length = 12
  | 5 => decide (4 ≤ pay.length)
  | 6 => pay.length = 4
  | 7 => decide (aux = 1 → pay.length = 16)
  | 8 => decide (aux = 1 → pay.length = 20)
  | 9 => pay.length = 8
  | _ => false

/-- TYPE matches the sub-identifier in the direction head to device (Table 5.5). -/
def typeOk (type sub : Nat) : Bool :=
  if 8 ≤ sub then type = 0
  else match sub with
    | 0 => decide (type = 2 ∨ type = 7 ∨ type = 8 ∨ type = 9)
    | 1 => type = 5
    | 2 => type = 6
    | _ => false

/-- The sub-identifier is in use on port `p` (R110). -/
def State.subInUse (s : State) (p id sub : Nat) : Bool :=
  if sub = 0 then true
  else if 8 ≤ sub then (s.live MOL_CFG_CHMASK p).testBit (sub - 8)
  else if sub = 1 ∨ sub = 2 then !(s.routesFor p id).isEmpty
  else false

/-- The message counter with low bits `lo` in [e, e + 32767] (R131). -/
def rxCount (e lo : Nat) : Option Nat :=
  let d := (lo + 65536 - e % 65536) % 65536
  if d ≤ 32767 then some (e + d) else none

/-- A session verifies a message and expects the next one. -/
def Session.verify (x : Session) (hdr pay tag : List Nat) : Option Session :=
  match rxCount x.rx (fieldLE hdr 6 2) with
  | none => none
  | some m => if molTag x.key (molIv 2 x.salt m) (hdr ++ pay) = tag then some { x with rx := m + 1 } else none

/-- The authentication check: the sessions after it, or none where it fails: a message without a tag in a session, and one with a tag where there is
none, fail (log 123). The session before a new CONF serves until the first message of the
new one. -/
def Port.checkAuth (q : Port) (auth : Bool) (hdr pay tag : List Nat) : Option Port :=
  match q.sess with
  | none => if auth then none else some q
  | some x =>
    if ¬ auth then none
    else match x.verify hdr pay tag with
      | some y => some { q with sess := some y, prev := none }
      | none => match q.prev with
        | none => none
        | some o => (o.verify hdr pay tag).map (fun y => { q with prev := some y })

/-- Everything that can be wrong with an arriving message, in order: rate (R134: every message takes a token), framing and length, CRC, identifier,
type, authentication, alive counter. Answers the state after it and the message if it is accepted. `broken`: ended by ABT, without an EOM, or
hit by a framing error or a loss of sync. From CAPS ADMIT until its ALIVE the head may be under its old block or its new one: 0xFFF0 is
still management (log 92). -/
def State.molReceive (s : State) (p : Nat) (frame : List Nat) (broken : Bool) : State × Option Msg :=
  if ¬ (2 ≤ s.pst p ∧ s.pst p ≤ 7) then (s, none)
  else if (s.port p).tokens < 16 then (s.hostileEvent p 3, none)
  else
    let s := s.modPort p (fun q => { q with tokens := q.tokens - 16 })
    let len := frame.getD 4 0
    let tt := frame.getD 2 0
    let auth := tt.testBit 4
    let n := 8 + len + (if auth then 8 else 0)
    if broken ∨ frame.length < 12 ∨ 240 < len ∨ frame.length ≠ n + 4 then (s.count MOL_CNT_LINK_FRAME 1 p, none)
    else if crc32c (frame.take n) ≠ fieldLE frame n 4 then (s.crcFail p, none)
    else
      let q := s.port p
      let id := fieldLE frame 0 2
      let old := q.idGiven && decide (id = 0xFFF0)
      let sub := if old then 0 else id - q.base
      let type := tt % 16
      let hdr := frame.take 8
      let pay := (frame.drop 8).take len
      if ¬ old ∧ (id < q.base ∨ q.base + 16 ≤ id) ∨ ¬ s.subInUse p id sub then (s.hostileEvent p 2, none)
      else if ¬ typeOk type sub ∨ ¬ lenOk type (frame.getD 5 0) pay then (s.count MOL_CNT_LINK_FRAME 1 p, none)
      else
        match q.checkAuth auth hdr pay ((frame.drop (8 + len)).take 8) with
        | none => (s.hostileEvent p 1, none)
        | some q' =>
          let s := s.modPort p (fun _ => q')
          let a := frame.getD 3 0
          match look q'.rxAlive id with
          | some v =>
            if a = v then (s.count MOL_CNT_ALIVE_DUP 1 p, none)
            else
              let s := if a = (v + 1) % 256 then s else s.count MOL_CNT_ALIVE_SKIP 1 p
              (s.modPort p (fun q => { q with rxAlive := bind q.rxAlive id a }),
               some { sub := sub, type := type, aux := frame.getD 5 0, hdr := hdr, pay := pay })
          | none =>
            (s.modPort p (fun q => { q with rxAlive := bind q.rxAlive id a }),
             some { sub := sub, type := type, aux := frame.getD 5 0, hdr := hdr, pay := pay })

/-- MOARI_MSG_DISCARD (R107): a message that is not accepted; one that would be accepted is none. -/
def execMoariMsgDiscard (p : Nat) (frame : List Nat) (broken : Bool) (s : State) : Out :=
  onUnit p 6 <|
    match s.molReceive p frame broken with
    | (s', none) => .next s'
    | (_, some _) => .next s

/-- A message of type `type` arrives: a discarded one has its counts, one of another type is not this event. -/
def State.onMsg (s : State) (p : Nat) (frame : List Nat) (type : Nat) (f : State → Msg → State) : Out :=
  onUnit p 6 <|
    match s.molReceive p frame false with
    | (s', none) => .next s'
    | (s', some m) => if m.type = type then .next (f s' m) else .next s

/-! ### Bring-up (R113 to R117, R130) -/

/-- CALIB begins: a new latency history. -/
def State.enterCalib (s : State) (p : Nat) : State :=
  (s.goPort p 5).modPort p (fun q => { q with fwd := [], out := [], calib := 0, echo := none })

/-- A CHAL leaves with a fresh ND; none while the random generator fails (R367). -/
def State.sendChal (s : State) (p : Nat) : State :=
  if s.flag SEC_STATUS_RNGFAIL then s
  else
    let nd := BitVec.ofNat 96 (Config.random s.free).toNat
    let s := s.draw.modPort p (fun q => { q with nd := some (nd, s.rnd.clk), resp := false, chalWait := none })
    s.molSend p 8 0 0 (toBytes 12 nd.toNat)

/-- M1_LINK_UP (R113). -/
def execM1LinkUp (p : Nat) (s : State) : Out :=
  onUnit p 6 <|
    if s.pst p = 1 then .next (((s.goPort p 2).modPort p (fun q => { q with tries := 1 })).molSend p 7 0 0 []) else .next s

/-- CAPS_TIMEOUT (R112): 1 ms an attempt, 3 attempts. -/
def execCapsTimeout (p : Nat) (s : State) : Out :=
  onUnit p 6 <|
    if s.pst p = 2 ∧ 250000 ≤ s.rnd.clk - (s.port p).since then
      if 3 ≤ (s.port p).tries then .next (s.toTrain p)
      else .next ((s.modPort p (fun q => { q with tries := q.tries + 1, since := s.rnd.clk })).molSend p 7 0 0 [])
    else .next s

/-- A REPORT is kept in MOL_CAPS, MOL_CAPS2 and MOL_SERIAL. -/
def State.keepReport (s : State) (p : Nat) (r : List Nat) : State :=
  let s := (s.setRegN MOL_SERIAL_LO (fieldLE r 0 4) p).setRegN MOL_SERIAL_HI (fieldLE r 4 4) p
  let s := (s.setFld MOL_CAPS_GENS (r.getD 9 0) p).setFld MOL_CAPS_NCH (r.getD 10 0) p
  let s := (s.setFld MOL_CAPS_RATES (r.getD 11 0) p).setFld MOL_CAPS_GMAC (r.getD 12 0) p
  let s := s.setFld MOL_CAPS_RXCRED (r.getD 13 0) p
  (s.setFld MOL_CAPS2_TRES (r.getD 14 0) p).setFld MOL_CAPS2_GERR (r.getD 15 0) p

/-- The choice of R114. -/
def State.chooseLink (s : State) (p : Nat) : State :=
  let m2 := (s.fld MOL_CAPS_GENS p).testBit 1
  let gmac := s.flag MOL_CAPS_GMAC p
  let en := s.live MOL_CTRL_M2_EN p = 1
  let fails := decide (3 ≤ s.fld MOL_STATUS_M2_FAILS p)
  let auth := s.live MOL_CTRL_AUTH_REQ p = 1
  if auth ∧ (¬ m2 ∨ ¬ gmac ∨ ¬ en ∨ fails) then
    s.blockPort p (if ¬ m2 then 1 else if ¬ gmac then 2 else if ¬ en then 5 else 6)
  else if en ∧ m2 ∧ ¬ fails then (s.molSend p 7 0 2 []).goPort p 3
  else if 2 < s.live MOL_CFG_RATE p then s.blockPort p 7
  else s.enterCalib p

/-- CAPS_REPORT_RX (R114). -/
def execCapsReportRx (p : Nat) (frame : List Nat) (s : State) : Out :=
  s.onMsg p frame 7 (fun s m => if m.aux = 1 ∧ s.pst p = 2 then (s.keepReport p m.pay).chooseLink p else s)

/-- The M2 receiver of port `p` has adapted (R132): CTLE and the DFE tap are whatever it converged to. -/
def State.adaptEq (s : State) (p : Nat) : State :=
  let f := (Config.freeWord s.free).toNat
  (((s.setFld MOL_EQ_CTLE (f % 16) p).setFld MOL_EQ_DFE (f / 16 % 256) p).setFld MOL_EQ_CONV 1 p).draw

/-- M2_LINK_UP (R115): the equaliser has converged in TRAIN2 (R132). -/
def execM2LinkUp (p : Nat) (s : State) : Out :=
  onUnit p 6 <|
    if s.pst p = 3 then
      let s := s.adaptEq p
      let s := (s.setFld MOL_STATUS_GEN 1 p).setFld MOL_STATUS_M2_FAILS 0 p
      if s.live MOL_CTRL_AUTH_REQ p = 1 then .next ((s.goPort p 4).sendChal p) else .next (s.enterCalib p)
    else .next s

/-- M2_UPGRADE_TIMEOUT (R115). -/
def execM2UpgradeTimeout (p : Nat) (s : State) : Out :=
  onUnit p 6 <|
    if s.pst p = 3 ∧ 2500000 ≤ s.rnd.clk - (s.port p).since then
      .next (((s.count MOL_STATUS_M2_FAILS 1 p).molReport p 3 4).toTrain p)
    else .next s

/-- The session a good RESP opens, and CONF (R130, R131). -/
def State.confirm (s : State) (p : Nat) (key : BitVec 128) (nd : BitVec 96) (nh : List Nat) : State :=
  let nhv := ofBytes nh
  let hdr := s.molHeader p 8 0 2 8
  let tag := molTag key (BitVec.ofNat 96 (2 ^ 88 + nhv % 2 ^ 88)) (hdr ++ nh ++ toBytes 12 nd.toNat)
  let s := s.molSend p 8 0 2 tag
  let salt := (nd.toNat % 2 ^ 24) ^^^ (nhv % 2 ^ 24)
  let s := s.modPort p (fun q => { q with nd := none, confWait := none, prev := q.sess, sess := some { key := key, salt := salt } })
  let s := s.setFld MOL_STATUS_AUTHED 1 p
  if s.pst p = 4 then s.enterCalib p else s

/-- CONF is due: in UP it takes a head credit, and waits for one (R127). -/
def State.dueConf (s : State) (p : Nat) (key : BitVec 128) (nd : BitVec 96) (nh : List Nat) : State :=
  if s.pst p ≠ 7 then s.confirm p key nd nh
  else if 0 < (s.port p).credits then (s.modPort p (fun q => { q with credits := q.credits - 1 })).confirm p key nd nh
  else s.modPort p (fun q => { q with confWait := some (key, nd, nh, s.absStitch) })

/-- AUTH_RESP_RX (R130). -/
def execAuthRespRx (p : Nat) (frame : List Nat) (s : State) : Out :=
  s.onMsg p frame 8 (fun s m =>
    match m.aux, (if (s.port p).confWait.isSome then none else (s.port p).nd) with
    | 1, some (nd, _) =>
      let s := s.modPort p (fun q => { q with resp := true })
      let nh := m.pay.take 12
      match look s.sec.keys (s.live MOL_AUTH_KSLOT p) with
      | none => s.hostileEvent p 1
      | some key =>
        let want := molTag key (BitVec.ofNat 96 (2 * 2 ^ 88 + nd.toNat % 2 ^ 88))
          (m.hdr ++ toBytes 12 nd.toNat ++ nh ++ toBytes 8 (s.molSerial p))
        if m.pay.drop 12 = want then s.dueConf p key nd nh else s.hostileEvent p 1
    | _, _ => s)

/-- AUTH_TIMEOUT (R112, R130): 5 ms without the end of the exchange. A missing RESP to a CHAL that left is an AUTH failure; a CHAL that could not leave
for RNGFAIL (R367), and a CONF that lacked a credit, are none. -/
def execAuthTimeout (p : Nat) (s : State) : Out :=
  onUnit p 6 <|
    let q := s.port p
    let due : Bool := match q.nd with
      | some (_, t) => decide (1250000 ≤ s.rnd.clk - t)
      | none => s.pst p = 4 && decide (1250000 ≤ s.rnd.clk - q.since)
    if (s.pst p = 4 ∨ s.pst p = 7) ∧ due then
      let s := if q.nd.isSome ∧ ¬ q.resp then s.hostileEvent p 1 else s
      .next (if s.linkOn p then s.toTrain p else s)
    else .next s

/-- CALIB_TIMEOUT (R112): 2 ms. -/
def execCalibTimeout (p : Nat) (s : State) : Out :=
  onUnit p 6 (if s.pst p = 5 ∧ 500000 ≤ s.rnd.clk - (s.port p).since then .next (s.toTrain p) else .next s)

/-- RATE and CHMASK lie within the head's reported capability. -/
def State.capsCover (s : State) (p : Nat) : Nat :=
  if ¬ (s.fld MOL_CAPS_RATES p).testBit (s.live MOL_CFG_RATE p) then 3
  else if 2 ^ s.fld MOL_CAPS_NCH p ≤ s.live MOL_CFG_CHMASK p then 4
  else 0

/-- A CAPS ADMIT leaves; the identifiers of its BASE are in use from then on (R117). -/
def State.sendAdmit (s : State) (p : Nat) : State :=
  let base := s.fld MOL_IDBASE_BASE p
  let s := s.molSend p 7 0 3 (toBytes 2 base ++ [s.live MOL_CFG_RATE p, s.live MOL_CFG_CHMASK p, s.live MOL_CFG_APER p, s.live MOL_CFG_CADIV p])
  s.modPort p (fun q => { q with base := base, idGiven := true, alive := s.absStitch })

/-- The 16 exchanges of CALIB are done: WAIT, or the automatic re-admission (R117). From its CAPS ADMIT until the ALIVE that answers it, a port
re-admitted automatically shows WAIT too, and a HEAD_ADMIT is taken there (log 93). -/
def State.endCalib (s : State) (p : Nat) : State :=
  let again := s.flag MOL_IDBASE_ADMITTED p && decide (s.live MOL_CTRL_AUTO_READMIT p = 1)
  if again ∧ s.molSerial p = (s.port p).adm then
    if s.capsCover p ≠ 0 then s.blockPort p (s.capsCover p) else (s.goPort p 6).sendAdmit p
  else
    let s := (s.goPort p 6).modPort p (fun q => { q with alive := s.absStitch })
    if again then s.molReport p 2 4 else s

/-- A BASE that R109 allows port `p`. -/
def State.baseOk (s : State) (p base : Nat) : Bool :=
  decide (base % 16 = 0 ∧ 0x0010 ≤ base ∧ base ≤ 0xFFE0)
    && (List.range 6).all (fun r => decide (r = p) || !(s.flag MOL_IDBASE_ADMITTED r) || decide (s.fld MOL_IDBASE_BASE r ≠ base))

/-- HEAD_ADMIT for port `p` (R117): the refusal's status, or the state in which the port waits for the head. While a CAPS ADMIT is unanswered no
second one leaves (R127): the new BASE goes out once the head has answered (log 94). -/
def State.headAdmit (s : State) (p base : Nat) : State × Nat :=
  if s.pst p ≠ 6 then (s, 0x0401)
  else if ¬ s.baseOk p base then (s, 0x0402)
  else if s.capsCover p ≠ 0 then (s, 0x0403)
  else
    let s := (s.setFld MOL_IDBASE_BASE base p).setFld MOL_IDBASE_ADMITTED 1 p
    let s := s.modPort p (fun q => { q with adm := s.molSerial p })
    (if (s.port p).idGiven then s else s.sendAdmit p, 0)

/-- The port enters UP. -/
def State.enterUp (s : State) (p : Nat) : State :=
  let s := (s.goPort p 7).setFld MOL_STATUS_HEAD_ABSENT 0 p
  let s := s.modPort p (fun q => { q with
    idGiven := false, rxAlive := [], t0 := none, expect := [], cadences := 0, echoRnd := 0, credits := s.fld MOL_CAPS_RXCRED p })
  let s := s.molReport p 0 2
  let ser := s.molSerial p
  s.settle (fun _ w => if w = Wait.head p then some (0, [ser % 2 ^ 32, ser / 2 ^ 32]) else none)

/-! ### ALIVE, credits (R127, R129) -/

/-- The head returns credits; a CONF or a CHAL that waits for one leaves. -/
def State.giveHead (s : State) (p n : Nat) : State :=
  let s := s.modPort p (fun q => { q with credits := q.credits + n })
  let s := match (s.port p).confWait with
    | some (key, nd, nh, _) => if 0 < (s.port p).credits then s.dueConf p key nd nh else s
    | none => s
  if 0 < (s.port p).credits ∧ (s.port p).chalWait.isSome ∧ s.flag SEC_STATUS_RNGFAIL = false then
    (s.modPort p (fun q => { q with credits := q.credits - 1 })).sendChal p
  else s

/-- ALIVE_RX (R117, R129). -/
def execAliveRx (p : Nat) (frame : List Nat) (s : State) : Out :=
  s.onMsg p frame 9 (fun s m =>
    let s := (s.setFld MOL_STATUS_GLOCK (m.pay.getD 1 0) p).modPort p (fun q => { q with alive := s.absStitch })
    let up := s.pst p = 6 && (s.port p).idGiven && decide (fieldLE m.hdr 0 2 = (s.port p).base)
    if up then (if (s.port p).base = s.fld MOL_IDBASE_BASE p then s.enterUp p else s.sendAdmit p) else if s.pst p = 7 then s.giveHead p (m.pay.getD 0 0) else s)

/-- ALIVE_TIMEOUT (R133): no ALIVE within ALIVE_TMO stitches. -/
def execAliveTimeout (p : Nat) (s : State) : Out :=
  onUnit p 6 <|
    if (s.pst p = 6 ∨ s.pst p = 7) ∧ s.live MOL_TMO_ALIVE_TMO p ≤ s.absStitch - (s.port p).alive then .next (s.toTrain p) else .next s

/-- LINK_LOS (R112). -/
def execLinkLos (p : Nat) (s : State) : Out := onUnit p 6 (.next (if s.linkOn p then s.toTrain p else s))
/-- SYNC_LOSS (R104, R105, R112). -/
def execSyncLoss (p : Nat) (s : State) : Out := onUnit p 6 (.next (if s.linkOn p then s.toTrain p else s))

/-- RETRAIN (R112, R115). BLK_CAUSE falls to 0 when a RETRAIN or a COMMIT leads out of BLOCKED, and is kept when ENABLE = 0 does (log 95). -/
def State.retrainPort (s : State) (p : Nat) : State :=
  let s := (s.setFld MOL_STATUS_M2_FAILS 0 p).setFld MOL_CTRL_RETRAIN 0 p
  if s.linkOn p ∨ s.pst p = 9 then (s.toTrain p).setFld MOL_STATUS_BLK_CAUSE 0 p else s

/-- QREL (R135). -/
def State.qrel (s : State) (p : Nat) : State :=
  let s := (s.setFld MOL_CTRL_QREL 0 p).setFld MOL_STATUS_QHELD 0 p
  if s.pst p = 8 then s.goPort p 1 else s

/-- MCNT_RENEWAL (R131): the exchange is repeated in UP, once the random generator works (R367). CHAL takes a head credit (R127). -/
def execMcntRenewal (p : Nat) (s : State) : Out :=
  onUnit p 6 <|
    let q := s.port p
    if s.pst p = 7 ∧ q.sess.isSome ∧ q.nd.isNone ∧ q.chalWait.isNone ∧ s.flag SEC_STATUS_RNGFAIL = false then
      if 0 < q.credits then .next ((s.modPort p (fun q => { q with credits := q.credits - 1 })).sendChal p)
      else .next (s.modPort p (fun q => { q with chalWait := some s.absStitch }))
    else .next s

/-- OUTBOUND_CREDIT_TIMEOUT (R127): the oldest message of port `p` that has waited CRED_TMO stitches for a credit is dropped: a CHAL or a CONF, or
a segment, one to be sent again after a busy answer among them. -/
def execOutboundCreditTimeout (p : Nat) (s : State) : Out :=
  onUnit p 6 <|
    let old := fun (t : Nat) => decide (s.live MOL_TMO_CRED_TMO p ≤ s.absStitch - t)
    let drop := fun (s : State) => (s.count MOL_CNT_DROP_OUT 1 p).molReport p 7 3
    if s.pst p ≠ 7 then .next s
    else if (s.port p).chalWait.any old then .next (drop (s.modPort p (fun q => { q with chalWait := none })))
    else if (s.port p).confWait.any (fun c => old c.2.2.2) then .next (drop (s.modPort p (fun q => { q with confWait := none })))
    else
      let waits := fun (g : FSeg) => decide (g.st = 0 ∨ (g.st = 2 ∧ (s.port p).credits = 0))
      match s.fbr.segs.find? (fun g => waits g && decide (g.port = p) && g.since.any old) with
      | none => .next s
      | some g => .next ((drop s).failSeg g 5)

/-! ### Sample timing (R118 to R121) -/

/-- A CADENCE is queued at the first tick of a stitch that is a multiple of the interval. -/
def State.cadenceStitch (s : State) (p : Nat) : State :=
  if s.pst p = 7 ∧ s.stitch % (8 * 2 ^ s.live MOL_CFG_CADIV p) = 0 then s.modPort p (fun q => { q with cadences := q.cadences + 1 }) else s

/-- CADENCE_TX (R118): the fields describe the arrival, departure plus FWD. -/
def execCadenceTx (p : Nat) (s : State) : Out :=
  onUnit p 6 <|
    let q := s.port p
    if s.pst p ≠ 7 ∨ q.cadences = 0 then .next s
    else
      let n := (s.fld MOL_LAT_FWD p + 2) / 4
      let tt := s.rnd.clk + n
      let rate := s.live MOL_CFG_RATE p
      let t0 := q.t0.getD tt
      let pos := (tt - t0) * 128 * 2 ^ 32 / (2500000 / 2 ^ rate)
      let ph := s.absPhase + (s.rnd.frac + n * s.freq * 2 ^ 18) / 10 ^ 9
      let s := s.modPort p (fun q => { q with cadences := q.cadences - 1, t0 := some t0 })
      let s := if q.t0.isNone then s.framerOpen p t0 rate else s
      .next (s.molSend p 1 0 0 (toBytes 8 tt ++ toBytes 4 (pos / 2 ^ 32) ++ toBytes 4 pos ++ toBytes 4 (ph / 2 ^ 32) ++ toBytes 4 ph))

/-- Samples of the reference voltage channel at or above VMIN are noted (Table 2.2). -/
def State.noteRef (s : State) (p ch idx : Nat) (vs : List Nat) : State :=
  if s.live RND_REFSEL_PORT = p ∧ s.live RND_REFSEL_CH = ch then
    match (s.port p).t0 with
    | none => s
    | some t0 =>
      let rate := s.live MOL_CFG_RATE p
      (List.range vs.length).foldl (fun s i =>
        if s.live RND_REFSEL_VMIN * 2 ^ 15 ≤ (sInt 24 (vs.getD i 0)).natAbs then
          let ago := s.rnd.clk - (t0 + (idx + i) * (2500000 / 2 ^ rate) / 128)
          s.modRnd (fun r => { r with lastV := max r.lastV (s.absPhase - ago * s.freq * 2 ^ 18 / 10 ^ 9) })
        else s) s
  else s

/-- A gap on the channel that is the Round engine's voltage reference disqualifies it (Table 2.2). -/
def State.gapRef (s : State) (p ch : Nat) : State :=
  if s.live RND_REFSEL_PORT = p ∧ s.live RND_REFSEL_CH = ch ∧ (0 < s.rnd.v.run ∨ s.qualified true) then s.disqualify true else s

/-- A SAMPLE whose channel is `ch` (R121). One that lies wholly before E leaves E as it was (log 124). -/
def State.takeSamples (s : State) (p ch : Nat) (pay : List Nat) : State :=
  let sidx := fieldLE pay 0 4
  let n := pay.getD 5 0
  let vs := (List.range n).map (fun i => fieldLE pay (6 + 3 * i) 3)
  let e := (look (s.port p).expect ch).getD sidx
  let d := (sidx + 2 ^ 32 - e % 2 ^ 32) % 2 ^ 32
  let set := fun (s : State) (v : Nat) => s.modPort p (fun q => { q with expect := bind q.expect ch v })
  let give := fun (s : State) (i : Nat) (l : List Nat) => (s.noteRef p ch i l).framerTake (8 * p + ch) i l (pay.getD 4 0)
  if d = 0 then give (set s (e + n)) e vs
  else if d < 2 ^ 31 then give (((set s (e + d + n)).count MOL_CNT_SAMP_GAP d p).gapRef p ch) (e + d) vs
  else
    let k := min (2 ^ 32 - d) n
    let s := s.count MOL_CNT_SAMP_OVERLAP k p
    if k < n then give (set s (e + (n - k))) e (vs.drop k) else s

/-- SAMPLE_RX (R121); `credit`: the Framer has a credit for the message (R21). Before UP a port takes no samples (Table 5.6). -/
def execSampleRx (p : Nat) (frame : List Nat) (credit : Bool) (s : State) : Out :=
  s.onMsg p frame 0 (fun s m =>
    if s.pst p ≠ 7 then s
    else if credit then s.takeSamples p (m.sub - 8) m.pay
    else
      let s := s.count MOL_CNT_DROP_IN 1 p
      if (s.port p).dropped then s.event (MOL_EVENT.at p) (MOL_INT_EN.at p) 6 (8 + p)
      else (s.modPort p (fun q => { q with dropped := true })).molReport p 6 3)

/-! ### Latency (R122 to R125) -/

/-- ECHO_TX (R122): due in CALIB whenever none is outstanding, in WAIT and UP every ECHO_DIV rounds. -/
def execEchoTx (p : Nat) (s : State) : Out :=
  onUnit p 6 <|
    let q := s.port p
    let due := decide (s.pst p = 5) || (decide (s.pst p = 6 ∨ s.pst p = 7) && decide (s.live MOL_CFG_ECHO_DIV p ≤ q.echoRnd))
    if due ∧ q.echo.isNone then
      let s := s.modPort p (fun q => { q with echo := some (q.echoSeq, s.rnd.clk), echoSeq := (q.echoSeq + 1) % 256, echoRnd := 0 })
      .next (s.molSend p 2 0 q.echoSeq (toBytes 8 s.rnd.clk))
    else .next s

/-- ECHO_TIMEOUT (R122): 64 µs. -/
def execEchoTimeout (p : Nat) (s : State) : Out :=
  onUnit p 6 <|
    match (s.port p).echo with
    | some (_, t) => if 16000 ≤ s.rnd.clk - t then .next (s.modPort p (fun q => { q with echo := none })) else .next s
    | none => .next s

/-- Numbers in rising order. -/
def insInt (x : Int) : List Int → List Int
  | [] => [x]
  | y :: t => if x ≤ y then x :: y :: t else y :: insInt x t
def sortInt (l : List Int) : List Int := l.foldr insInt []

/-- FWD, the median of the estimates (half ns), as whole ns; where the two middle ones or the halving leave several, one of them. -/
def State.median (s : State) (l : List Int) : Int :=
  let m := sortInt l
  let a := m.getD ((m.length - 1) / 2) 0
  let b := m.getD (m.length / 2) 0
  let lo := a / 2
  let hi := (b + 1) / 2
  lo + (Config.pick s.free 0 % ((hi - lo).toNat + 1) : Nat)

/-- FWD and UNC follow the history (R123, R125). -/
def State.noteLat (s : State) (p : Nat) : State :=
  let l := sortInt (s.port p).fwd
  let spread := (l.getD (l.length - 1) 0 - l.getD 0 0).toNat
  let unc := (spread + 3) / 4 + s.fld MOL_CAPS2_TRES p + s.live MOL_ASYM_AUNC p + s.fld MOL_CAPS2_GERR p
  let s := ((s.setFld MOL_LAT_FWD (uInt 16 (s.median l)) p).setFld MOL_LAT_UNC (min unc 65535) p).draw
  let s := s.modPort p (fun q => { q with unc := unc })
  (List.range 8).foldl (fun s ch => s.setFld WFM_CHSTAT_UNC (min unc 65535) (8 * p + ch)) s

/-- One estimate joins the history, or is an outlier; 8 outliers in a row restart it (R123). Estimates are in half ns. Before there are 16, FWD and UNC come of
those there are, and CALIB tests for no outlier (log 125). -/
def State.estimate (s : State) (p : Nat) (f r : Int) : State :=
  let q := s.port p
  let formed := decide (s.pst p ≠ 5)
  let away := (f - 2 * (s.fld MOL_LAT_FWD p : Int)).natAbs
  if formed ∧ 200 < away then
    if 7 ≤ q.out.length then
      ((s.modPort p (fun q => { q with fwd := f :: q.out, out := [], rev := r })).noteLat p).molReport p 9 4
    else s.modPort p (fun q => { q with out := f :: q.out })
  else (s.modPort p (fun q => { q with fwd := (f :: q.fwd).take 16, out := [], rev := r })).noteLat p

/-- ECHO_REPLY_RX (R122, R123); its SOM arrived `age` ticks ago. CALIB ends with the 16th reply: a request whose reply is lost is followed by a
further one, so that more than 16 may leave (log 96). -/
def execEchoReplyRx (p : Nat) (frame : List Nat) (age : Nat) (s : State) : Out :=
  s.onMsg p frame 2 (fun s m =>
    match (s.port p).echo with
    | none => s
    | some (seq, ttx) =>
      let trx := s.rnd.clk - age
      if m.aux ≠ seq ∨ fieldLE m.pay 0 8 ≠ ttx ∨ 16000 < trx - ttx then s
      else
        let asym := sInt 16 (s.live MOL_ASYM_ASYM p)
        let d : Int := ((4 * (trx - ttx) : Nat) : Int) - (fieldLE m.pay 8 4 : Nat)
        let s := s.modPort p (fun q => { q with echo := none })
        let s := s.estimate p (d + asym) (d - asym)
        if s.pst p = 5 then
          let s := s.modPort p (fun q => { q with calib := q.calib + 1 })
          if 16 ≤ (s.port p).calib then s.endCalib p else s
        else s)

/-! ### Interrupts and register answers (R126, R128, R388) -/

/-- The stamp of a SOM that left the head: `age` ticks and the reverse estimate ago, with the port's UNC. -/
def State.headStamp (s : State) (p age : Nat) : Stamp :=
  let ago := 4 * age + ((s.port p).rev / 2).toNat
  s.assign (s.absPhase - phaseOfNs s.freq ago) (s.nstime - ago) (s.port p).unc (2 ^ 32)

/-- INT_RX (R388): the message's SOM arrived `age` ticks ago. A line above 31 is taken modulo 32 (log 126). -/
def execIntRx (p : Nat) (frame : List Nat) (age : Nat) (s : State) : Out :=
  s.onMsg p frame 6 (fun s m =>
    if s.pst p ≠ 7 then s
    else
      s.intArrive { port := p, stamp := (s.headStamp p age).bytes, hdr := m.hdr, line := m.aux % 32, data := fieldLE m.pay 0 4,
                    id := fieldLE m.hdr 0 2 })

/-- REGACK_RX (R378): a REGACK of another length than its request asks for is a broken message. -/
def execRegackRx (p : Nat) (frame : List Nat) (s : State) : Out :=
  s.onMsg p frame 5 (fun s m =>
    let s := if s.pst p = 7 then s.expireTag p m.aux else s
    let st := m.pay.getD 0 0
    let want := match s.tagged p m.aux with
      | some g => if g.read ∧ st = 0 then 4 + g.len else 4
      | none => m.pay.length
    if s.pst p ≠ 7 then s
    else if m.pay.length ≠ want then s.count MOL_CNT_LINK_FRAME 1 p
    else
      let (s, _) := s.routeOf p (fieldLE m.hdr 0 2)
      (s.giveHead p (m.pay.getD 1 0)).regack p m.aux st (m.pay.drop 4))

/-! ### Rounds and the staged set (R134, R137) -/

/-- At stitch 0: hostile events, CRC errors and drops count anew, and rounds since the last ECHO count on. An M2 receiver in UP goes on adapting
unless EQ_FREEZE is 1 (R132): what it has come to is noted once a round (log 97). -/
def State.molRound (s : State) : State :=
  (List.range 6).foldl (fun s p =>
    let s := s.modPort p (fun q => { q with hostile := 0, crcs := 0, dropped := false, echoRnd := q.echoRnd + 1 })
    if s.pst p = 7 ∧ s.flag MOL_STATUS_GEN p ∧ ¬ s.flag MOL_CTRL_EQ_FREEZE p then s.adaptEq p else s) s

/-- REJ_CAUSE of port `p`, the first in the order of its codes. Values that a card puts out of range without naming a cause: log 127. -/
def State.molReject (s : State) (p : Nat) : Nat :=
  let rate := s.fld MOL_CFG_RATE p
  let aper := s.fld MOL_CFG_APER p
  let stay := s.live MOL_CTRL_ENABLE p = 1 && s.flag MOL_CTRL_ENABLE p
  if 5 < rate ∨ (2 < rate ∧ ¬ s.flag MOL_CTRL_M2_EN p) ∨ s.fld MOL_CFG_TXDE p = 3 then 1
  else if stay ∧ 5 ≤ s.pst p ∧ s.pst p ≤ 7
      ∧ (rate ≠ s.live MOL_CFG_RATE p ∨ s.fld MOL_CFG_CHMASK p ≠ s.live MOL_CFG_CHMASK p) then 2
  else if s.fld MOL_TMO_ALIVE_TMO p < 2 * aper + 16 ∨ s.fld MOL_TMO_CRED_TMO p = 0 then 3
  else if s.fld MOL_QCFG_QTHR p = 0 ∨ s.fld MOL_QCFG_CRCTHR p = 0 then 4
  else if s.flag MOL_CTRL_AUTH_REQ p ∧ (look s.sec.keys (s.fld MOL_AUTH_KSLOT p)).isNone then 5
  else if aper < 8 ∨ 128 < aper then 6
  else 0

def molStaged : List Rg := [MOL_CTRL, MOL_CFG, MOL_TMO, MOL_QCFG, MOL_AUTH, MOL_ASYM]

/-- The set of port `p` takes effect or is rejected at stitch 0 (R97, R112, R115). -/
def State.applyMol (s : State) (p : Nat) : State :=
  let s := s.setFld MOL_CTRL_COMMIT 0 p
  let rej := s.molReject p
  if rej ≠ 0 then (s.setFld MOL_STATUS_REJ_CAUSE rej p).molReport p 11 3
  else
    let moved := decide (s.fld MOL_CFG_RATE p ≠ s.live MOL_CFG_RATE p)
    let s := (molStaged.foldl (fun s r => s.apply1 r p 0) s).setFld MOL_STATUS_M2_FAILS 0 p
    let s := if moved then s.framerRate p else s
    let s := s.molReport p 12 1
    let st := s.pst p
    if s.live MOL_CTRL_ENABLE p = 0 ∨ (s.fld PWR_DROP_UNIT_MOL).testBit p then
      if st = 0 then s
      else
        let s := if st = 8 then s.setFld MOL_STATUS_QHELD 1 p else s
        (s.endLink p 6).goPort p 0
    else if st = 0 then s.goPort p (if s.flag MOL_STATUS_QHELD p then 8 else 1)
    else if st = 9 then (s.goPort p 1).setFld MOL_STATUS_BLK_CAUSE 0 p
    else s

end Sys2Proof.Machine
end

