-- ==== Sys2Proof/Machine/Bridge.lean ====
section
/-! DEFINITION. Machine/Bridge.lean: the Field Bridge's commands (chapter 16): BAR4 accesses, the handing of segments to ports, their limits. -/

namespace Sys2Proof.Machine
open Sys2Proof Sys2Proof.Machine.Reg

/-- An access to a window that is not enabled (R94). -/
def State.bar4Unmapped (s : State) (write : Bool) (be a v n : Nat) : State :=
  (s.accErr .host 2 .unmapped write be a v 0).respondErr .host write n

/-- BAR4_WRITE (R376): the bytes `bs` (value, enabled) from BAR4 offset `a`, within one window. -/
def execBar4Write (a : Nat) (bs : List (Nat × Bool)) (s : State) : Out :=
  let w := a / 2 ^ 20
  let o := a % 2 ^ 20
  let on := (List.range bs.length).filterMap (fun i => match bs.getD i (0, false) with
    | (v, true) => some (o + i, v)
    | _ => none)
  onUnit w 16 <|
    if s.barsOff .host then .next (s.respond .host 2 [])
    else if ¬ s.winOn w then
      let (be, d) := firstDword a bs
      .next (s.bar4Unmapped true be (a / 4 * 4) d 0)
    else
      match s.winWrite w false on with
      | (s', 0) => .next s'
      | (s', _) => .next (s'.respondErr .host true 0)

/-- BAR4_READ (R379): a read from BAR4 offset `a` with the byte enables `be`, within one window. -/
def State.bar4Read (s : State) (a : Nat) (be : List Bool) : State :=
  let w := a / 2 ^ 20
  let o := a % 2 ^ 20
  let os := (List.range be.length).filterMap (fun i => if be.getD i false then some (o + i) else none)
  if s.barsOff .host then s.respond .host 2 []
  else if ¬ s.winOn w then
    s.bar4Unmapped false (firstDword a (be.map (fun b => (0, b)))).1 (a / 4 * 4) 0 os.length
  else
    let q := s.nextWseq w
    let hid := s.live FBR_WCFG_HID w
    let hs := os.map (fun x => s.headAddr w x)
    let base := s.liveN FBR_WBASE w + o / 128 * 128
    let rel := hs.map (fun h => (h + 2 ^ 32 - base % 2 ^ 32) % 2 ^ 32)
    let first := rel.foldl min (rel.headD 0)
    let lo := (base + first) % 2 ^ 32
    let refuse := fun (c : Nat) => (s.fbrLog (some w) q c true false (if hs.isEmpty then s.headAddr w o else lo) hid).respondErr .host false os.length
    if s.flag FBR_WSTAT_CWAIT w then refuse 12
    else if os.isEmpty then s.respond .host 0 []
    else if 128 < be.length ∨ o / 128 ≠ (o + be.length - 1) / 128 ∨ (s.live FBR_WCFG_LANE w = 0 ∧ ¬ wholeDwords os) then refuse 11
    else if s.winBlocked w then refuse 9
    else if 16 ≤ s.fbr.segs.countP (fun g => g.read) then refuse 8
    else
      let id := s.fbr.nextId
      let g : FSeg := { id := id, win := w, wseq := q, read := true, route := false, hid := hid, addr := lo, data := [], len := rel.foldl max 0 + 1 - first,
                        acc := s.rnd.clk, ofs := hs }
      (s.modFbr (fun b => { b with segs := b.segs ++ [g], nextId := id + 1 })).noteFbr
def execBar4Read (a : Nat) (be : List Bool) (s : State) : Out := onUnit (a / 2 ^ 20) 16 (.next (s.bar4Read a be))

/-! ### Handing segments to ports (R372, R377, R380) -/

/-- The port that `hid` names (R372), or the cause its requests fail with. -/
def State.resolve (s : State) (hid : Nat) : Sum Nat Nat :=
  match (List.range 6).find? (fun p => s.flag MOL_IDBASE_ADMITTED p && decide (s.fld MOL_IDBASE_BASE p + 1 = hid)) with
  | none => .inr 6
  | some p => if s.pst p = 7 then .inl p else if s.pst p = 8 ∨ s.flag MOL_STATUS_QHELD p then .inr 7 else .inr 6

/-- An earlier segment of the same window is still to be acknowledged: for a write an earlier write, since no read delays it (R380). -/
def State.behind (s : State) (g : FSeg) : Bool := s.fbr.segs.any (fun x => decide (x.win = g.win ∧ x.id < g.id) && (g.read || !x.read))

/-- Segment `g` may not be handed over yet: its window is blocked (R385), or it is STRICT and something before it is unanswered (R377, R380). -/
def State.segHeld (s : State) (g : FSeg) : Bool := s.winBlocked g.win || (s.winStrict g.win && s.behind g)

/-- The segment of head `hid` to be handed over next: what waits for the head goes in acceptance order (R377); a read that may not go yet never holds
a write back, and nothing passes a write that may not (R380). -/
def State.nextSeg (s : State) (hid : Nat) : List FSeg → Option FSeg
  | [] => none
  | g :: t =>
    if g.hid ≠ hid ∨ g.st ≠ 0 then s.nextSeg hid t
    else if ¬ s.segHeld g then some g
    else if g.read then s.nextSeg hid t
    else none

/-- The next tag of port `p`: the rotating count skips tags that are outstanding or held back (R378). -/
def State.freeTag (s : State) (p : Nat) : Nat → Nat → Nat
  | 0, t => t
  | n + 1, t =>
    let out := s.fbr.segs.any (fun g => decide (g.st = 1 ∧ g.port = p ∧ g.tag = t))
    let held := s.fbr.heldTags.any (fun h => decide (h.1 = p ∧ h.2.1 = t ∧ s.rnd.clk < h.2.2))
    if out || held then s.freeTag p n ((t + 1) % 256) else t

/-- Segment `g` leaves port `p` as a REGWR or REGRD (R126). -/
def State.sendSeg (s : State) (g : FSeg) (p : Nat) : State :=
  let tag := s.freeTag p 256 ((look s.fbr.tags p).getD 0)
  let s := s.modFbr (fun b => { b with tags := bind b.tags p ((tag + 1) % 256) })
  let s := s.modPort p (fun q => { q with credits := q.credits - 1 })
  let s := s.modSeg g.id (fun x => { x with st := 1, port := p, tag := tag, sent := s.rnd.clk, since := none })
  let s := if g.read then s.molSend p 3 1 tag (toBytes 4 g.addr ++ toBytes 2 g.len) else s.molSend p 4 1 tag (toBytes 4 g.addr ++ g.data)
  s.noteFbr

/-- Segment `g` is handed to its port: sent on a head credit, otherwise it waits for one there (R127). -/
def State.handSeg (s : State) (g : FSeg) : State :=
  match s.resolve g.hid with
  | .inr c => s.failSeg g c
  | .inl p =>
    if g.read ∧ s.rdTmo ≤ s.rnd.clk - g.acc then s.failSeg g 10
    else if 0 < (s.port p).credits then s.sendSeg g p
    else if g.since.isSome then s
    else s.modSeg g.id (fun x => { x with port := p, since := some s.absStitch })

/-- SEGMENT_DISPATCH (R377): the next segment for the head with register identifier `hid`. -/
def execSegmentDispatch (hid : Nat) (s : State) : Out :=
  match s.nextSeg hid s.fbr.segs with
  | none => .next s
  | some g => .next (s.handSeg g)

/-- BUSY_RETRY (R378): one stitch after a busy answer the oldest such segment of port `p` is sent again. -/
def execBusyRetry (p : Nat) (s : State) : Out :=
  onUnit p 6 <|
    match s.fbr.segs.find? (fun g => decide (g.st = 2 ∧ g.port = p) && (match g.since with
      | some a => decide (a ≤ s.absStitch)
      | none => false)) with
    | none => .next s
    | some g => .next (match s.resolve g.hid with
      | .inr c => s.failSeg g c
      | .inl q => if g.read ∧ s.rdTmo ≤ s.rnd.clk - g.acc then s.failSeg g 10 else if 0 < (s.port q).credits then s.sendSeg g q else s)

/-- REGACK_TIMEOUT (R378): the oldest segment of port `p` whose REGACK is ACKTMO late fails; its tag is held back. -/
def execRegackTimeout (p : Nat) (s : State) : Out :=
  onUnit p 6 <|
    match s.fbr.segs.find? (fun g => decide (g.st = 1 ∧ g.port = p ∧ s.ackTmo ≤ s.rnd.clk - g.sent)) with
    | none => .next s
    | some g => .next ((s.holdTag g).failSeg g 4)

/-- READ_TIMEOUT (R382): the oldest read that RDTMO has passed fails. -/
def execReadTimeout (s : State) : Out :=
  match s.fbr.segs.find? (fun g => g.read && decide (s.rdTmo ≤ s.rnd.clk - g.acc)) with
  | none => .next s
  | some g => .next ((if g.st = 1 then s.holdTag g else s).failSeg g 10)

/-- ROUTE_WRITE (R387): requester `rq` writes FBR_RTDST_i; its staged FBR_RTKEY_i goes with it (R84). -/
def State.routeWrite (s : State) (rq : Requester) (i v : Nat) : State :=
  s.writeRoute i (((look s.stage (FBR_RTKEY.at i + 2 ^ 28 * reqCode rq)).map (·.toNat)).getD 0) v

end Sys2Proof.Machine
end

