-- ==== Sys2Proof/Machine/Image.lean ====
section
/-! DEFINITION. Machine/Image.lean: what the stages of an image pipeline compute (R188 to R199), as functions of a parameter block
and an image. -/

namespace Sys2Proof.Machine
open Sys2Proof

/-! ### Parameter blocks and images -/

/-- The `n`-byte number at offset `o` of a parameter block (Table 8.1), unsigned and signed. -/
def pbN (pb : List Nat) (o n : Nat) : Nat := fieldLE pb o n
def pbS (pb : List Nat) (o : Nat) : Int := sInt 16 (fieldLE pb o 2)
def pbMosaic (pb : List Nat) : Nat := pbN pb 0x008 1
def pbPhase (pb : List Nat) : Nat := pbN pb 0x009 1
def pbFlag (pb : List Nat) (b : Nat) : Bool := (pbN pb 0x00B 1).testBit b
def pbSnr (pb : List Nat) : Bool := pbFlag pb 0
def pbTnr (pb : List Nat) : Bool := pbFlag pb 1
def pbDefs (pb : List Nat) : Bool := pbFlag pb 2
def pbDefd (pb : List Nat) : Bool := pbFlag pb 3
def pbShd (pb : List Nat) : Bool := pbFlag pb 4
def pbIrs (pb : List Nat) : Bool := pbFlag pb 5
def pbDmk (pb : List Nat) : Bool := pbFlag pb 6
def pbMono (pb : List Nat) : Bool := decide (5 ≤ pbMosaic pb)
def pbRgbir (pb : List Nat) : Bool := decide (pbMosaic pb = 3 ∨ pbMosaic pb = 4)
def pbTap (pb : List Nat) : Nat := nbits (pbN pb 0x046 1) 0 3
def pbIrsel (pb : List Nat) : Bool := (pbN pb 0x046 1).testBit 3
def pbCsc (pb : List Nat) : Bool := (pbN pb 0x047 1).testBit 0
def pbTone (pb : List Nat) : Bool := (pbN pb 0x047 1).testBit 1

/-- Output `k` of a parameter block: EN, FMT, CX, CY, CW, CH, OW, OH. -/
structure OutSet where
  en : Bool
  fmt : Nat
  cx : Nat
  cy : Nat
  cw : Nat
  ch : Nat
  ow : Nat
  oh : Nat
  deriving DecidableEq, Repr

def pbOut (pb : List Nat) (k : Nat) : OutSet :=
  let o := 0x080 + 16 * k
  { en := (pbN pb o 1).testBit 0, fmt := pbN pb (o + 1) 1, cx := pbN pb (o + 2) 2, cy := pbN pb (o + 4) 2, cw := pbN pb (o + 6) 2,
    ch := pbN pb (o + 8) 2, ow := pbN pb (o + 10) 2, oh := pbN pb (o + 12) 2 }

/-- An image: its rows of unsigned 16-bit samples. -/
abbrev Img := List (List Nat)

def Img.px (m : Img) (x y : Nat) : Nat := (m.getD y []).getD x 0
def Img.tab (w h : Nat) (f : Nat → Nat → Nat) : Img := (List.range h).map (fun y => (List.range w).map (fun x => f x y))

/-- Mirroring at the edges (R188), continued where an image is smaller than the support. -/
def mirror (n : Nat) (x : Int) : Nat :=
  if n ≤ 1 then 0
  else
    let m := (x % ((2 * (n - 1) : Nat) : Int)).toNat
    if m < n then m else 2 * (n - 1) - m

/-- Size of an image, its mosaic, and the pattern position of pixel (0,0). -/
structure Geo where
  w : Nat
  h : Nat
  mosaic : Nat
  px0 : Nat
  py0 : Nat
  deriving DecidableEq, Repr

/-- The sample at any coordinates, mirrored, as an integer. -/
def Geo.at' (g : Geo) (m : Img) (x y : Int) : Int := (m.px (mirror g.w x) (mirror g.h y) : Nat)

/-- The colour class of a pattern position (Table 8.4, R194): R 0, G or C 1, B 2, IR 3. -/
def classAt (mosaic x y : Nat) : Nat :=
  let ex := decide (x % 2 = 0)
  let ey := decide (y % 2 = 0)
  if 5 ≤ mosaic then 0
  else if mosaic = 2 then if ex && ey then 0 else 1
  else if mosaic = 3 then if ex && ey then 0 else if ex then 3 else if ey then 1 else 2
  else if mosaic = 4 then
    if !ex && !ey then 3 else if ex && ey then (if (x + y) % 4 = 0 then 0 else 2) else 1
  else if ex && ey then 0 else if !ex && !ey then 2 else 1

/-- Pattern coordinates of a pixel, and its class. -/
def Geo.pos (g : Geo) (x y : Int) : Nat × Nat := (((x + g.px0) % 4).toNat, ((y + g.py0) % 4).toNat)
def Geo.cls (g : Geo) (x y : Int) : Nat := classAt g.mosaic (g.pos x y).1 (g.pos x y).2
/-- The class of the pixel that any coordinates stand for: a mirrored pixel keeps its own (R188). -/
def Geo.clsAt (g : Geo) (x y : Int) : Nat := g.cls (mirror g.w x) (mirror g.h y)

/-- A quotient rounded half up, and a sample clamped to 16 bits (R189). -/
def rdiv (a : Int) (b : Nat) : Int := (2 * a + b) / ((2 * b : Nat) : Int)
def clamp16 (v : Int) : Nat := min v.toNat 65535
def meanOf (l : List Int) : Int := if l.isEmpty then 0 else rdiv (l.foldl (· + ·) 0) l.length
def absI (v : Int) : Int := (v.natAbs : Nat)

/-- The offsets of a window of radius `r`. -/
def window (r : Nat) : List (Int × Int) :=
  (List.range (2 * r + 1)).flatMap (fun j => (List.range (2 * r + 1)).map (fun i => (((i : Int) - r), ((j : Int) - r))))

/-! ### Stages 1 to 4 -/

/-- Black level and normalisation of one sample (R190 step 1). -/
def blackLevel (pb : List Nat) (g : Geo) (x y v : Nat) : Nat :=
  clamp16 (rdiv (((v - pbN pb (0x00C + 2 * g.cls x y) 2) * pbN pb 0x014 2 : Nat) : Int) 4096)

/-- Spatial noise reduction at (x, y) of the normalised image (R190 step 2); `listed` are the static defects. -/
def spatial (pb : List Nat) (g : Geo) (listed : List (Nat × Nat)) (m : Img) (x y : Nat) : Nat :=
  let n := g.at' m x y
  if listed.contains (x, y) then n.toNat
  else
    let c := g.cls x y
    let l := (window 2).filterMap (fun d =>
      let i := (x : Int) + d.1
      let j := (y : Int) + d.2
      if g.clsAt i j ≠ c then none
      else
        let v := g.at' m i j
        let bin := min 15 ((absI (v - n)).toNat / 2 ^ pbN pb 0x017 1)
        let w : Nat := if listed.contains (mirror g.w i, mirror g.h j) then 0 else pbN pb (0x020 + bin) 1
        some (w, v))
    let sw := l.foldl (fun a p => a + p.1) 0
    let s := if sw = 0 then n else rdiv (l.foldl (fun a p => a + p.1 * p.2) 0) sw
    clamp16 (n + rdiv ((s - n) * pbN pb 0x016 1) 256)

/-- The weight of the reference (R190 step 3). -/
def temporalK (pb : List Nat) (d : Nat) : Nat :=
  let t := pbN pb 0x01A 2
  if d ≤ t then pbN pb 0x018 1 else if d < 2 * t then pbN pb 0x018 1 * (2 * t - d) / t else 0

def temporal (pb : List Nat) (y r : Nat) : Nat :=
  let d := (absI ((y : Int) - r)).toNat
  clamp16 ((y : Int) + rdiv (((r : Int) - y) * temporalK pb d) 256)

/-- Stage 1. `refRow` answers the reference line, where it is valid and has arrived. -/
def stage1 (pb : List Nat) (g : Geo) (listed : List (Nat × Nat)) (refRow : Nat → Option (List Nat)) (m : Img) : Img :=
  let n := Img.tab g.w g.h (fun x y => blackLevel pb g x y (m.px x y))
  let s := if pbSnr pb then Img.tab g.w g.h (fun x y => spatial pb g listed n x y) else n
  (List.range g.h).map (fun y => match refRow y with
    | some r => (List.range g.w).map (fun x => temporal pb (s.px x y) (r.getD x 0))
    | none => s.getD y [])

/-- The distance of the neighbours of stage 2. -/
def defDist (g : Geo) : Int := if 5 ≤ g.mosaic then 1 else 2

/-- The pixel stands out of its 8 neighbours (R192). -/
def dynDefect (pb : List Nat) (g : Geo) (m : Img) (x y : Nat) : Bool :=
  let d := defDist g
  let l := ([(d, 0), (-d, 0), (0, d), (0, -d), (d, d), (d, -d), (-d, d), (-d, -d)] : List (Int × Int)).map
    (fun o => g.at' m (x + o.1) (y + o.2))
  let hi := l.foldl max (l.headD 0)
  let lo := l.foldl min (l.headD 0)
  let p := g.at' m x y
  let t : Int := (pbN pb 0x01C 2 : Nat)
  decide (hi + t < p ∨ p < lo - t)

/-- The replacement of a defect: the mean of the pair with the smaller difference, the horizontal one on a tie. -/
def defectFix (g : Geo) (m : Img) (x y : Nat) : Nat :=
  let d := defDist g
  let a := g.at' m (x - d) y
  let b := g.at' m (x + d) y
  let c := g.at' m x (y - d)
  let e := g.at' m x (y + d)
  clamp16 (if absI (a - b) ≤ absI (c - e) then rdiv (a + b) 2 else rdiv (c + e) 2)

/-- Stage 2, and how many pixels that are not listed it replaced. -/
def stage2 (pb : List Nat) (g : Geo) (listed : List (Nat × Nat)) (m : Img) : Img × Nat :=
  let hit := fun x y => if listed.contains (x, y) then 1 else if pbDefd pb && dynDefect pb g m x y then 2 else 0
  (Img.tab g.w g.h (fun x y => if hit x y = 0 then m.px x y else defectFix g m x y),
   (List.range g.h).foldl (fun a y => a + (List.range g.w).countP (fun x => hit x y = 2)) 0)

/-- The shading gain at (x, y), Q3.13 (R193). -/
def shadeGain (pb : List Nat) (g : Geo) (x y : Nat) : Int :=
  let gx := x * 4096 / g.w
  let gy := y * 3072 / g.h
  let i := min 15 (gx / 256)
  let j := min 11 (gy / 256)
  let fx := gx - 256 * i
  let fy := gy - 256 * j
  let t := fun (b a : Nat) => pbN pb (0x3C0 + 2 * ((g.cls x y * 13 + b) * 17 + a)) 2
  rdiv (((256 - fy) * ((256 - fx) * t j i + fx * t j (i + 1)) + fy * ((256 - fx) * t (j + 1) i + fx * t (j + 1) (i + 1)) : Nat) : Int) 65536

/-- Stage 3: in mono-radiometric mode the gain and offset `rad` answers for a pixel; else, with SHD_EN, the shading grid. That SHD_EN
governs the grid alone is read from R193 (DEDUCED, log 99). -/
def stage3 (pb : List Nat) (g : Geo) (rad : Nat → Nat → Nat × Int) (m : Img) : Img :=
  if g.mosaic = 6 then Img.tab g.w g.h (fun x y =>
    let (a, o) := rad x y
    clamp16 (rdiv ((m.px x y * a : Nat) : Int) 8192 + o))
  else if pbShd pb then Img.tab g.w g.h (fun x y => clamp16 (rdiv ((m.px x y : Int) * shadeGain pb g x y) 8192))
  else m

/-- The IR estimate at (x, y) (R195). -/
def irEst (g : Geo) (m : Img) (x y : Int) : Int :=
  meanOf ((window 1).filterMap (fun d => if g.clsAt (x + d.1) (y + d.2) = 3 then some (g.at' m (x + d.1) (y + d.2)) else none))

/-- Stage 4: IR subtraction, then reduction to the Bayer layout (R195). -/
def stage4 (pb : List Nat) (g : Geo) (m : Img) : Img :=
  if g.mosaic ≠ 3 ∧ g.mosaic ≠ 4 then m
  else
    let s := if ¬ pbIrs pb then m else Img.tab g.w g.h (fun x y =>
      let c := g.cls x y
      if c = 3 then m.px x y
      else clamp16 (rdiv ((m.px x y : Int) * 16384 - irEst g m x y * pbN pb (0x040 + 2 * c) 2) 16384))
    let diag : List (Int × Int) := [(-1, -1), (1, -1), (-1, 1), (1, 1)]
    let pick := fun (x y : Nat) (c : Nat) (l : List (Int × Int)) =>
      clamp16 (meanOf (l.filterMap (fun d => if g.clsAt (x + d.1) (y + d.2) = c then some (g.at' s (x + d.1) (y + d.2)) else none)))
    Img.tab g.w g.h (fun x y =>
      let c := g.cls x y
      if c = 3 then pick x y (if g.mosaic = 3 then 1 else 2) diag
      else if g.mosaic = 4 ∧ c = 2 then pick x y 0 [(-2, 0), (2, 0), (0, -2), (0, 2)]
      else s.px x y)

/-! ### Stages 5 to 8 -/

/-- G at an R or B pixel (R196). -/
def greenAt (pb : List Nat) (g : Geo) (m : Img) (x y : Int) : Int :=
  let p := fun (i j : Int) => g.at' m (x + i) (y + j)
  let ch := 2 * p 0 0 - p (-2) 0 - p 2 0
  let cv := 2 * p 0 0 - p 0 (-2) - p 0 2
  let gh := absI (p (-1) 0 - p 1 0) + absI ch
  let gv := absI (p 0 (-1) - p 0 1) + absI cv
  let gh := if pbDmk pb then 2 * gh + absI (p (-3) 0 - p (-1) 0) + absI (p 3 0 - p 1 0) + absI (p (-1) (-1) - p 1 (-1))
      + absI (p (-1) 1 - p 1 1) else gh
  let gv := if pbDmk pb then 2 * gv + absI (p 0 (-3) - p 0 (-1)) + absI (p 0 3 - p 0 1) + absI (p (-1) (-1) - p (-1) 1)
      + absI (p 1 (-1) - p 1 1) else gv
  let eh := rdiv (p (-1) 0 + p 1 0) 2 + rdiv ch 4
  let ev := rdiv (p 0 (-1) + p 0 1) 2 + rdiv cv 4
  let et : Int := (pbN pb 0x01E 2 : Nat)
  let v := if gh + et < gv then eh else if gv + et < gh then ev else rdiv (eh + ev) 2
  (clamp16 v : Nat)

/-- 0 R, 1 G or C, 2 B (C in RCCC) at a pixel of the 2 × 2 layout. -/
def Geo.quad (g : Geo) (x y : Int) : Nat :=
  let q := g.pos x y
  if q.1 % 2 = 0 ∧ q.2 % 2 = 0 then 0 else if q.1 % 2 = 1 ∧ q.2 % 2 = 1 then 2 else 1

/-- The three components of every pixel (R196); in the mono modes the sample alone. -/
def demosaic (pb : List Nat) (g : Geo) (m : Img) : Img × Img × Img :=
  if 5 ≤ g.mosaic then (m, m, m)
  else
    let has := fun (q : Nat) => decide (q = 0) || (decide (q = 2) && decide (g.mosaic ≠ 2))
    let gr := Img.tab g.w g.h (fun x y => if has (g.quad x y) then (greenAt pb g m x y).toNat else m.px x y)
    let d := fun (i j : Int) => g.at' m i j - g.at' gr i j
    let comp := fun (c x y : Nat) =>
      let i : Int := x
      let j : Int := y
      let q := g.quad x y
      if q = c then m.px x y
      else
        let l : List Int :=
          if q = 1 then (if g.quad (i + 1) j = c then [d (i - 1) j, d (i + 1) j] else [d i (j - 1), d i (j + 1)])
          else [d (i - 1) (j - 1), d (i + 1) (j - 1), d (i - 1) (j + 1), d (i + 1) (j + 1)]
        clamp16 ((gr.px x y : Int) + meanOf l)
    let r := Img.tab g.w g.h (comp 0)
    if g.mosaic = 2 then (r, gr, gr) else (r, gr, Img.tab g.w g.h (comp 2))

/-- A 3 × 3 matrix with offsets at offset `o` of the block, in units of 1/`u`. -/
def matrix3 (pb : List Nat) (o oo u : Nat) (d : Nat × Nat × Nat) : Nat × Nat × Nat :=
  let row := fun (i : Nat) => clamp16 (rdiv (pbS pb (o + 6 * i) * d.1 + pbS pb (o + 6 * i + 2) * d.2.1 + pbS pb (o + 6 * i + 4) * d.2.2) u
    + pbS pb (oo + 2 * i))
  (row 0, row 1, row 2)

/-- Stage 7 of one component. -/
def toneMap (pb : List Nat) (v : Nat) : Nat :=
  let q := v / 256
  let t := fun (i : Nat) => ((pbN pb (0x180 + 2 * i) 2 : Nat) : Int)
  if pbTone pb then clamp16 (t q + rdiv ((t (q + 1) - t q) * ((v % 256 : Nat) : Int)) 256) else v

/-- Stages 6 to 8 of one pixel (R197). -/
def colour (pb : List Nat) (d : Nat × Nat × Nat) : Nat × Nat × Nat :=
  let c := if pbMono pb then d else matrix3 pb 0x048 0x05A 4096 d
  let t := (toneMap pb c.1, toneMap pb c.2.1, toneMap pb c.2.2)
  if pbMono pb || !(pbCsc pb) then t else matrix3 pb 0x060 0x072 16384 t

/-! ### All stages -/

/-- What the stages leave: T0 to T4, the IR estimate, the stage 8 components, dynamic replacements. -/
structure Stages where
  taps : List Img
  ir : Img
  c0 : Img
  c1 : Img
  c2 : Img
  dyn : Nat
  deriving DecidableEq, Repr

/-- The stages after tap point `entry` (R203), 0 for a live pipeline. -/
def runStages (pb : List Nat) (g : Geo) (entry : Nat) (listed : List (Nat × Nat)) (refRow : Nat → Option (List Nat))
    (rad : Nat → Nat → Nat × Int) (m : Img) : Stages :=
  let t1 := if entry < 1 then stage1 pb g listed refRow m else m
  let (t2, dyn) := if entry < 2 then stage2 pb g listed t1 else (t1, 0)
  let t3 := if entry < 3 then stage3 pb g rad t2 else t2
  let t4 := if entry < 4 then stage4 pb g t3 else t3
  let (r, gr, b) := demosaic pb g t4
  let all := (List.range g.h).map (fun y => (List.range g.w).map (fun x => colour pb (r.px x y, gr.px x y, b.px x y)))
  { taps := [m, t1, t2, t3, t4], dyn := dyn,
    ir := if pbRgbir pb then Img.tab g.w g.h (fun x y => clamp16 (irEst g t3 x y)) else m,
    c0 := all.map (fun l => l.map (·.1)), c1 := all.map (fun l => l.map (·.2.1)), c2 := all.map (fun l => l.map (·.2.2)) }

/-! ### The rows that a row is computed from (R184) -/

/-- The classes of the pixels of row `y`. -/
def Geo.rowClasses (g : Geo) (y : Nat) : List Nat := (List.range 4).map (fun x => g.cls x y)

/-- Rows `y + d` for the offsets `ds`, mirrored at the edges. -/
def Geo.rows (g : Geo) (y : Nat) (ds : List Int) : List Nat := (ds.map (fun d => mirror g.h (y + d))).eraseDups

/-- The input rows of stage `k` (1 to 5) that its row `y` is computed from. -/
def Geo.stageRows (pb : List Nat) (g : Geo) (k y : Nat) : List Nat :=
  let shares := fun (c : Nat → Bool) (ds : List Int) => g.rows y (ds.filter (fun d =>
    decide (d = 0) || (g.rowClasses (mirror g.h (y + d))).any c))
  match k with
  | 1 => if pbSnr pb then shares (g.rowClasses y).contains [-2, -1, 0, 1, 2] else [y]
  | 2 => if pbDefs pb || pbDefd pb then g.rows y [-defDist g, 0, defDist g] else [y]
  | 4 =>
    if g.mosaic ≠ 3 ∧ g.mosaic ≠ 4 then [y]
    else
      let ds := if (g.rowClasses y).contains 3 then [-1, 0, 1] else if g.mosaic = 4 then [-2, 0, 2] else [0]
      let est := fun (r : Nat) => if pbIrs pb then [-1, 0, 1].filter (fun (d : Int) =>
        decide (d = 0) || (g.rowClasses (mirror g.h (r + d))).contains 3) else [0]
      ((g.rows y ds).flatMap (fun r => g.rows r (est r))).eraseDups
  | 5 =>
    if 5 ≤ g.mosaic then [y]
    else
      let green : List Int := if pbDmk pb then [-3, -2, -1, 0, 1, 2, 3] else [-2, -1, 0, 1, 2]
      let near : List Int := if g.mosaic = 2 then (if (g.rowClasses y).contains 0 then [0] else [-1, 1]) else [-1, 0, 1]
      ((g.rows y near).flatMap (fun r => g.rows r green)).eraseDups
  | _ => [y]

/-- The rows at tap point `entry` that row `y` at tap point `t` (5: after stage 5) is computed from. -/
def Geo.tapRows (pb : List Nat) (g : Geo) (entry : Nat) : Nat → Nat → List Nat
  | 0, y => [y]
  | t + 1, y => if t < entry then [y] else ((g.stageRows pb (t + 1) y).flatMap (g.tapRows pb entry t)).eraseDups

/-! ### Outputs (R198, R199) -/

/-- The boundary of output pixel `i` in 1/256 of an input pixel. -/
def cropEdge (c n o i : Nat) : Nat := 256 * c + (rdiv ((i * n * 256 : Nat) : Int) o).toNat

/-- The input pixels of one output pixel along one axis, with their weights. -/
def cropSpan (c n o i : Nat) : List (Nat × Nat) :=
  let a := cropEdge c n o i
  let b := cropEdge c n o (i + 1)
  (List.range ((b + 255) / 256 - a / 256)).map (fun k =>
    let x := a / 256 + k
    (x, min b (256 * (x + 1)) - max a (256 * x)))

/-- Output pixel (i, j) of component `m`. -/
def scaled (o : OutSet) (m : Img) (i j : Nat) : Nat :=
  let xs := cropSpan o.cx o.cw o.ow i
  let ys := cropSpan o.cy o.ch o.oh j
  let sum := ys.foldl (fun a y => a + xs.foldl (fun a x => a + x.2 * y.2 * m.px x.1 y.1) 0) 0
  let w := ys.foldl (fun a y => a + xs.foldl (fun a x => a + x.2 * y.2) 0) 0
  clamp16 (rdiv (sum : Nat) (max 1 w))

def to8 (v : Nat) : Nat := min 255 ((v + 128) / 256)
/-- A sample as P16 (R199). -/
def sampleP16 (v : Nat) : Nat := ((Num.ofInt v).div (Num.ofInt 65535)).toP16 .rne

/-- Bytes per pixel and the transmitter's data type of a format (Table 8.5). -/
def fmtBytes (f : Nat) : Nat := [2, 3, 1, 2, 3, 6, 2].getD f 2
def fmtDt (f : Nat) : Nat := [0x1E, 0x24, 0x2A, 0x2E, 0x30, 0x31, 0x32].getD f 0x2E

/-- One row of an output in its format. -/
def formatRow (fmt : Nat) (mono : Bool) (row : List (Nat × Nat × Nat)) : List Nat :=
  match fmt with
  | 0 => (List.range (row.length / 2)).flatMap (fun i =>
      let a := row.getD (2 * i) (0, 0, 0)
      let b := row.getD (2 * i + 1) (0, 0, 0)
      let cb := if mono then 128 else to8 (rdiv (a.2.1 + b.2.1 : Nat) 2).toNat
      let cr := if mono then 128 else to8 (rdiv (a.2.2 + b.2.2 : Nat) 2).toNat
      [cb, to8 a.1, cr, to8 b.1])
  | 1 => row.flatMap (fun p => [to8 p.2.2, to8 p.2.1, to8 p.1])
  | 2 => row.map (fun p => to8 p.1)
  | 3 => row.flatMap (fun p => toBytes 2 p.1)
  | 4 => row.flatMap (fun p => [p.1, p.2.1, p.2.2].map (fun v => (to8 v + 128) % 256))
  | 5 => row.flatMap (fun p => [p.1, p.2.1, p.2.2].flatMap (fun v => toBytes 2 (sampleP16 v)))
  | _ => row.flatMap (fun p => toBytes 2 (sampleP16 p.1))

/-- Row `j` of output `k`. -/
def outRow (pb : List Nat) (st : Stages) (k j : Nat) : List Nat :=
  let o := pbOut pb k
  formatRow o.fmt (pbMono pb) ((List.range o.ow).map (fun i => (scaled o st.c0 i j, scaled o st.c1 i j, scaled o st.c2 i j)))

/-- The input rows that row `j` of output `k` (4: the raw tap) is computed from (R184). -/
def Geo.rowNeeds (pb : List Nat) (g : Geo) (entry k j : Nat) : List Nat :=
  if k = 4 then
    if pbIrsel pb then ((g.rows j [-1, 0, 1]).flatMap (g.tapRows pb entry 3)).eraseDups else g.tapRows pb entry (min 4 (pbTap pb)) j
  else
    let o := pbOut pb k
    ((cropSpan o.cy o.ch o.oh j).flatMap (fun y => g.tapRows pb entry 5 y.1)).eraseDups

/-- An enabled output's crop leaves a W × H window, or the RGB-IR 4 × 4 rule fails (R195, R201). -/
def geomBad (pb : List Nat) (w h k : Nat) : Bool :=
  let o := pbOut pb k
  (decide (pbMosaic pb = 4) && decide (w % 4 ≠ 0 ∨ h % 4 ≠ 0)) || (decide (k < 4) && o.en && decide (w < o.cx + o.cw ∨ h < o.cy + o.ch))

end Sys2Proof.Machine
end

