-- ==== Sys2Proof/Machine/Isp.lean ====
section
/-! DEFINITION. Machine/Isp.lean: live and re-process pipelines (chapter 8), deliveries and the transmitter's queues (R174 to R178). -/

namespace Sys2Proof.Machine
open Sys2Proof Sys2Proof.Machine.Reg

def State.modCam (s : State) (f : Cam → Cam) : State := { s with cam := f s.cam }
def State.camPort (s : State) (p : Nat) : CamPort := s.cam.ports.getD p {}
def State.modCamPort (s : State) (p : Nat) (f : CamPort → CamPort) : State := s.modCam (fun c => { c with ports := c.ports.modify p f })
def State.lp (s : State) (p : Nat) : LivePipe := s.cam.lps.getD p {}
def State.modLp (s : State) (p : Nat) (f : LivePipe → LivePipe) : State := s.modCam (fun c => { c with lps := c.lps.modify p f })
def State.rp (s : State) (q : Nat) : RePipe := s.cam.rps.getD q {}
def State.modRp (s : State) (q : Nat) (f : RePipe → RePipe) : State := s.modCam (fun c => { c with rps := c.rps.modify q f })
def State.modTx (s : State) (f : Tx → Tx) : State := s.modCam (fun c => { c with tx := f c.tx })

def State.lpDropped (s : State) (p : Nat) : Bool := (s.fld PWR_DROP_UNIT_LP).testBit p
def State.camDropped (s : State) (p : Nat) : Bool := (s.fld PWR_DROP_UNIT_CAM).testBit p
def State.txDropped (s : State) : Bool := s.flag PWR_DROP_UNIT_TX
def State.txOn (s : State) : Bool := decide (s.live CAM_TXCTRL_EN = 1) && !s.txDropped
def State.lpOn (s : State) (p : Nat) : Bool := decide (s.live ISP_LPCTRL_EN p = 1) && !s.lpDropped p

def State.camState (s : State) (p : Nat) : Nat := s.fld CAM_STATUS_STATE p
/-- A frame is open at port `p`, in FRAME or SKIP. -/
def State.camOpen (s : State) (p : Nat) : Bool := decide (2 ≤ s.camState p)

/-- DATA of a frame event: FCNT and TFLAGS (Table 18.4). -/
def frameData (fcnt tfl : Nat) : Nat := fcnt + 2 ^ 32 * (tfl % 65536)

/-- An event of a camera port (R181): while a frame is open all but FRAME_DROP are recorded once; TRUNC has `noteCut`. `tfl` are the frame's
flags. All but CFG_REJECT (11) and CFG_APPLIED (12) tell of a frame (DEDUCED, log 134). -/
def State.camEvent (s : State) (p b sev tfl : Nat) : State :=
  let s := s.event (CAM_EVENT.at p) (CAM_INT_EN.at p) b (16 + p)
  if b ≠ 0 ∧ s.camOpen p ∧ (s.camPort p).once.contains b then s
  else (s.modCamPort p (fun c => { c with once := c.once ++ [b] })).journal (0x0600 + b) p sev
    (if b = 11 ∨ b = 12 then 0 else frameData (s.regN CAM_FCNT p) tfl)

/-- An event of the transmitter; TRUNC (0) tells of a frame. -/
def State.txEvent (s : State) (b sev : Nat) (data : Nat := 0) : State :=
  s.report CAM_TXEVENT.base CAM_TXINT_EN.base b 22 (0x0610 + b) 6 sev data

/-- An event of a live pipeline (R207) with its DATA. GEOM is raised where a frame enters, the other events of frames where one is processed,
so each comes at most once per frame. -/
def State.lpEvent (s : State) (p b sev : Nat) (data : Nat := 0) : State :=
  s.report (ISP_LPEVENT.at p) (ISP_LPINT_EN.at p) b (23 + p) (0x0700 + b) p sev data

/-- An event of a re-process pipeline; DATA is FCNT and TFLAGS where it tells of a frame, 0 otherwise. -/
def State.rpEvent (s : State) (q b sev : Nat) (data : Nat := 0) : State :=
  s.report (ISP_RPEVENT.at q) (ISP_RPINT_EN.at q) b (29 + q) (0x0710 + b) (6 + q) sev data

/-- STATE, CRED and REFVALID of a live pipeline (R182). -/
def State.noteLp (s : State) (p : Nat) : State :=
  let l := s.lp p
  let s := s.setFld ISP_LPSTAT_STATE (if ¬ s.lpOn p then 0 else if l.frames.isEmpty then 1 else 2) p
  let s := s.setFld ISP_LPSTAT_CRED (if s.lpOn p then 2 - l.frames.length else 0) p
  s.setFld ISP_LPSTAT_REFVALID (if l.ref.isSome then 1 else 0) p
def State.noteTx (s : State) : State :=
  s.setFld CAM_TXSTAT_STATE (if ¬ s.txOn then 0 else if s.cam.tx.srcs.isEmpty then 1 else 2)

/-! ### Deliveries (R174 to R178) -/

def Dlv.en (d : Dlv) : Bool := d.cfg.testBit 0
def Dlv.kind (d : Dlv) : Nat := nbits d.cfg 1 2
def Dlv.mrken (d : Dlv) : Bool := d.cfg.testBit 3
def Dlv.out (d : Dlv) : Nat := nbits d.cfg 4 3
def Dlv.tag (d : Dlv) : Bool := d.cfg.testBit 7
def Dlv.dcore (d : Dlv) : Nat := nbits d.cfg 8 5
def Dlv.mrk (d : Dlv) : Nat := nbits d.cfg 16 8
def Dlv.skipn (d : Dlv) : Nat := nbits d.cfg 24 4
def Dlv.n (d : Dlv) : Nat := nbits d.size 0 10
def Dlv.stride (d : Dlv) : Nat := nbits d.size 12 20
def Dlv.vc (d : Dlv) : Nat := nbits d.addr 0 4
/-- Byte address of a core-store destination: ADDR[19:6] (CAM_DLVADDR). -/
def Dlv.dest (d : Dlv) : Nat := 64 * nbits d.addr 6 14

/-- The checks of R174 on an enabled descriptor. -/
def Dlv.rangeBad (d : Dlv) : Bool :=
  d.en && (decide (4 < d.out) || match d.kind with
    | 0 => decide (d.n < 2 ∨ 64 < d.n ∨ lpddrSize < 4096 * (nbits d.addr 0 22 + d.n * d.stride))
    | 1 => decide (0x100000 < d.dest + 1024 * d.n + 64)
    | 2 => false
    | _ => true)

/-- Where delivery n goes, and the length of its buffer. -/
def Dlv.place (d : Dlv) : Nat × Nat :=
  if d.kind = 0 then (4096 * (nbits d.addr 0 22 + d.seq % max 1 d.n * d.stride), 4096 * d.stride)
  else if d.seq % 2 = 1 then (d.dest + 1024 * d.n, 0x100000 - (d.dest + 1024 * d.n))
  else (d.dest, if d.n = 0 then 0x100000 - d.dest else 1024 * d.n)

/-- Bytes of a delivery reach its destination at address `a`. -/
def State.putDlv (s : State) (d : Dlv) (a : Nat) (bs : List Nat) (mrk : Option Nat := none) : State :=
  if d.kind = 0 then (s.putLpddr a bs).addAfter mrk
  else if s.coreDropped d.dcore then s.addAfter mrk
  else s.hubPut d.dcore 2 a (bs.take (0x100000 - a)) mrk

def round64 (n : Nat) : Nat := (n + 63) / 64 * 64

/-- A line with its padding to a multiple of 64 bytes, whose contents the spec leaves open. -/
def State.padLine (s : State) (bs : List Nat) : List Nat :=
  bs ++ (List.range (round64 bs.length - bs.length)).map (fun i => (Config.freeByte (s.free + i)).toNat)

/-- What a frame tag says that does not depend on the delivery (Table 7.2). -/
structure TagOf where
  stamp : List Nat
  fcnt : Nat
  cam : Nat
  pipe : Nat
  vc : Nat
  dt : Nat
  tflags : Nat
  errlines : Nat
  embLen : Nat
  fsrnd : Nat
  fsphase : Nat
  deriving DecidableEq, Repr

/-- Header bytes 0–59. -/
def TagOf.bytes (t : TagOf) (d : Dlv) (tflags errlines w h pitch emb : Nat) : List Nat :=
  t.stamp ++ toBytes 4 t.fcnt ++ [t.cam, t.pipe + 16 * d.out, t.vc, t.dt] ++ toBytes 2 tflags ++ toBytes 2 (min errlines 65535) ++ toBytes 2 w
    ++ toBytes 2 h ++ toBytes 4 pitch ++ [emb, 0] ++ toBytes 2 (if emb = 0 then 0 else t.embLen) ++ toBytes 4 t.fsrnd ++ toBytes 4 t.fsphase
    ++ toBytes 4 d.seq

/-- What writing a delivery comes to: rows and embedded lines written, whether it lost credit, whether it was cut at all. -/
structure Wrote where
  rows : Nat
  emb : Nat
  credit : Bool
  cut : Bool
  deriving DecidableEq, Repr

/-- Rows and embedded lines of an LPDDR or core-store delivery are written (R175); `cut` lines at most are credited (R176). -/
def State.writeLines (s : State) (d : Dlv) (pitch : Nat) (rows emb : List (List Nat)) (cut : Option Nat) : State × Wrote :=
  let (a, lim) := d.place
  let cut := if d.kind = 1 ∧ s.coreDropped d.dcore then some 0 else cut
  let all := rows.length + emb.length
  let credited := min all (cut.getD all)
  let fit := (lim - 64) / max 1 pitch
  let n := min (min rows.length credited) fit
  let s := (List.range n).foldl (fun s i => s.putDlv d (a + 64 + i * pitch) (s.padLine (rows.getD i []))) s
  let embs := if n < rows.length then [] else emb.take (credited - n)
  let (s, _, m) := embs.foldl (fun (x : State × Nat × Nat) e =>
    let (s, ofs, m) := x
    let len := round64 e.length
    if ofs + len ≤ lim then (s.putDlv d (a + ofs) (s.padLine e), ofs + len, m + 1) else (s, lim + 1, m)) (s, 64 + n * pitch, 0)
  (s.draw, { rows := n, emb := m, credit := decide (credited < all), cut := decide (n + m < all) })

/-- The lines of the frames that source `vc` has not yet sent. -/
def Tx.lines (t : Tx) (vc : Nat) : Nat := ((t.srcs.filter (·.vc = vc)).flatMap (·.pkts)).countP (fun x => decide (2 ≤ x.1))

/-- Packets of a frame are queued at the transmitter (R177, R178). A line finds credit where fewer than 4 lines of its source wait; the first
`cut` rows find it as the transmitter takes earlier ones meanwhile (DEDUCED, log 100). -/
def State.queueTx (s : State) (t : TagOf) (d : Dlv) (dt w pitch : Nat) (rows : List (List Nat)) (cut : Option Nat) : State × Wrote :=
  if ¬ s.txOn then (s.count CAM_TXCNT_TRUNC |>.txEvent 0 4 (frameData t.fcnt (t.tflags ||| 4)), { rows := 0, emb := 0, credit := true, cut := true })
  else
    let num := toBytes 2 (d.seq % 65535 + 1)
    let early := nbits t.tflags 0 2 + 2 ^ 8 * nbits t.tflags 8 1
    let hdr := if d.tag then [(0x12, t.bytes d early 0 w 0 pitch 0 ++ toBytes 4 d.seq)] else []
    let all := hdr ++ rows.map (fun r => (dt, r))
    let free := 4 - s.cam.tx.lines d.vc
    let m := if free = 0 then 0 else min all.length (max free (hdr.length + cut.getD rows.length))
    let n := m - hdr.length
    let short := decide (m < all.length)
    let src : TxSrc := { vc := d.vc, pipe := t.pipe, k := d.k, fcnt := if short then none else some t.fcnt,
                         pkts := (0, num) :: all.take m ++ [(1, num)] }
    let s := s.modTx (fun x => { x with srcs := x.srcs ++ [src] })
    let s := if short then (s.count CAM_TXCNT_TRUNC).txEvent 0 4 (frameData t.fcnt (t.tflags ||| 4)) else s
    (s.noteTx, { rows := n, emb := 0, credit := short, cut := short })

/-- The VCs that enabled descriptors and contexts send to the transmitter, but for those of port `p` and of context (q, c) (R174). -/
def State.txVcs (s : State) (p : Option Nat) (qc : Option (Nat × Nat)) : List Nat :=
  let ports := (List.range 6).flatMap (fun i => if p = some i then [] else (List.range 6).filterMap (fun k =>
    let d : Dlv := { k := k, cfg := s.liveN CAM_DLVCFG i k, addr := s.liveN CAM_DLVADDR i k, size := 0, seq := 0 }
    if d.en ∧ d.kind = 2 then some d.vc else none))
  let ctxs := (List.range 2).flatMap (fun q => (List.range 16).flatMap (fun c =>
    if qc = some (q, c) ∨ s.live ISP_RPCCTRL_EN q c = 0 then []
    else (List.range 4).filterMap (fun k =>
      let pb := (s.rp q).pbs.getD c []
      let d : Dlv := { k := k, cfg := pbN pb (0x100 + 16 * k) 4, addr := pbN pb (0x104 + 16 * k) 4, size := 0, seq := 0 }
      if d.en ∧ d.kind = 2 then some d.vc else none)))
  ports ++ ctxs

/-- A KIND 2 descriptor of a set names a VC used elsewhere or twice. -/
def vcClash (used : List Nat) (ds : List Dlv) : Bool :=
  let l := (ds.filter (fun d => d.en && decide (d.kind = 2))).map (·.vc)
  l.any (fun v => used.contains v) || decide (l.eraseDups.length < l.length)

/-- The count and the frames to skip of a descriptor once a frame of its output arrives: the delivery, if this frame is delivered.
A frame whose output failed is not one that the output produced (R174, R201). -/
def nextDlv (cnt : Nat × Nat) (k cfg addr size : Nat) (failed : Bool) : (Nat × Nat) × Option Dlv :=
  let d : Dlv := { k := k, cfg := cfg, addr := addr, size := size, seq := cnt.1 }
  if cnt.2 = 0 then (((cnt.1 + 1) % 2 ^ 32, d.skipn), some d)
  else ((cnt.1, if failed then cnt.2 else cnt.2 - 1), none)

/-- The destination of a descriptor changes, so that its count starts again (R180). -/
def destChanged (cfg addr size cfg' addr' size' : Nat) : Bool :=
  decide (addr ≠ addr' ∨ size ≠ size' ∨ nbits cfg 1 2 ≠ nbits cfg' 1 2 ∨ nbits cfg 8 5 ≠ nbits cfg' 8 5)

/-! ### Parameter blocks (R185 to R187) -/

/-- The reserved bytes of Table 8.1. -/
def pbReserved : List (Nat × Nat) :=
  [(0x036, 2), (0x03E, 2), (0x078, 8), (0x08E, 2), (0x09E, 2), (0x0AE, 2), (0x0BE, 2), (0x0C0, 64), (0x10C, 4), (0x11C, 4), (0x12C, 4), (0x13C, 4),
   (0x140, 64), (0x382, 62), (0xAA8, 24)]

def outRangeBad (o : OutSet) : Bool :=
  o.en && decide (o.cx % 2 = 1 ∨ o.cy % 2 = 1 ∨ o.cw < 2 ∨ o.ch < 2 ∨ o.ow = 0 ∨ o.oh = 0 ∨ o.cw < o.ow ∨ o.ch < o.oh ∨ 16 * o.ow < o.cw
    ∨ 16 * o.oh < o.ch ∨ (o.fmt = 0 ∧ o.ow % 2 = 1))

def fmtBad (pb : List Nat) (o : OutSet) : Bool :=
  o.en && match o.fmt with
    | 0 => !(pbCsc pb) && !(pbMono pb)
    | 1 | 4 | 5 => pbMono pb || pbCsc pb
    | 2 | 3 | 6 => false
    | _ => true

def mosaicBad (pb : List Nat) : Bool :=
  let ph := pbPhase pb
  if pbMosaic pb ≤ 3 then !([0, 1, 4, 5].contains ph) else if pbMosaic pb = 4 then decide (15 < ph) else decide (6 < pbMosaic pb ∨ ph ≠ 0)

/-- Where the set of a block ends on LPDDR: rows `h` of the reference at `refbase`. -/
def refEnd (refbase w h : Nat) : Nat := 4096 * refbase + h * round64 (2 * w)

def pbDlv (pb : List Nat) (k seq : Nat) : Dlv :=
  { k := k, cfg := pbN pb (0x100 + 16 * k) 4, addr := pbN pb (0x104 + 16 * k) 4, size := pbN pb (0x108 + 16 * k) 4, seq := seq }
def pbDlvs (pb : List Nat) : List Dlv := (List.range 4).map (fun k => pbDlv pb k 0)

/-- Causes 1 to 8 of Table 8.2 for a block of `bs` read at `base`; `sw` is the sensor's width and `sh` its height as far as they are
known, `refEnd` the end of the reference. -/
def pbReject (live : Bool) (base : Nat) (pb : List Nat) (ecc : Bool) (sw sh refE : Nat) : Nat :=
  let outs := (List.range 4).map (pbOut pb)
  if hubSize < base + 2752 ∨ pbN pb 0 4 ≠ 0x42505349 ∨ pbN pb 4 2 ≠ 1 ∨ pbN pb 6 2 ≠ 2752
      ∨ pbReserved.any (fun r => decide (pbN pb r.1 r.2 ≠ 0)) then 1
  else if ecc then 2
  else if mosaicBad pb || decide (live ∧ pbN pb 0x00A 1 ≠ 0) || decide (4 < pbN pb 0x00A 1) then 3
  else if outs.any outRangeBad then 4
  else if outs.any (fmtBad pb) || (pbIrsel pb && !(pbRgbir pb && decide (pbTap pb = 4))) then 5
  else if 4096 < pbN pb 0x034 2 ∨ hubSize < pbN pb 0x030 4 + 4 * pbN pb 0x034 2 then 6
  else if pbMosaic pb = 6 ∧ (lpddrSize < 4096 * pbN pb 0x038 4 + sh * 64 * pbN pb 0x03C 2 ∨ 64 * pbN pb 0x03C 2 < 4 * sw) then 7
  else if (pbTnr pb ∧ pbN pb 0x019 1 = 0) ∨ lpddrSize < refE then 8
  else 0

/-- The entries of the static defect list as pixels of an image whose origin is (x0, y0), and how many were ignored (R192). -/
def State.defects (s : State) (pb : List Nat) (x0 y0 : Nat) (ecc : List Nat) : List (Nat × Nat) × Nat :=
  let step := fun (acc : List (Nat × Nat) × Nat × Option (Nat × Nat)) (i : Nat) =>
    let (l, badN, prev) := acc
    let w := ofBytes (s.hubBytes (pbN pb 0x030 4 + 4 * i) 4)
    let x := nbits w 0 14
    let y := nbits w 16 14
    let up := match prev with
      | none => true
      | some (py, pxx) => decide (py < y ∨ (py = y ∧ pxx < x))
    if ecc.contains i || !up then (l, badN + 1, prev)
    else ((if x0 ≤ x ∧ y0 ≤ y then l ++ [(x - x0, y - y0)] else l), badN, some (y, x))
  if pbDefs pb then
    let r := (List.range (pbN pb 0x034 2)).foldl step ([], 0, none)
    (r.1, r.2.1)
  else ([], 0)

/-- Gain and offset of the radiometric table at sensor coordinates (R193). -/
def State.radAt (s : State) (pb : List Nat) (x y : Nat) : Nat × Int :=
  let bs := s.lpddrBytes (4096 * pbN pb 0x038 4 + y * pbN pb 0x03C 2 * 64 + 4 * x) 4
  (ofBytes (bs.take 2), sInt 16 (ofBytes (bs.drop 2)))

/-- The rows of output `k` of a processed image, as bytes, for those whose input rows `have`; and its row length in bytes and width. -/
def State.outRows (s : State) (pb : List Nat) (st : Stages) (g : Geo) (entry k : Nat) (have' : Nat → Bool) : List (Nat × List Nat) :=
  let n := if k = 4 then g.h else (pbOut pb k).oh
  ((List.range n).filter (fun j => (g.rowNeeds pb entry k j).all have')).map (fun j =>
    (j, if k = 4 then
        (if 4 < pbTap pb then (List.range g.w).flatMap (fun x => toBytes 2 (Config.freeWord (s.free + j * g.w + x)).toNat)
         else ((if pbIrsel pb then st.ir else st.taps.getD (pbTap pb) []).getD j []).flatMap (toBytes 2))
      else outRow pb st k j))

/-- How many of the rows `js` of output `k` stand before row `m`, whose table line is missing: the rows of stage 3 that they come from do
(R193). -/
def byTable (pb : List Nat) (g : Geo) (k m : Nat) (js : List Nat) : Nat :=
  (js.takeWhile (fun j => (g.rowNeeds pb 2 k j).all (fun y => decide (y < m)))).length

def outWidth (pb : List Nat) (w k : Nat) : Nat := if k = 4 then w else (pbOut pb k).ow
def outPitch (pb : List Nat) (w k : Nat) : Nat := round64 (if k = 4 then 2 * w else (pbOut pb k).ow * fmtBytes (pbOut pb k).fmt)
def outDt (pb : List Nat) (k : Nat) : Nat := if k = 4 then 0x2E else fmtDt (pbOut pb k).fmt

/-! ### Live pipelines -/

/-- A frame slot frees once its rows are presented and its deliveries are through (R182). -/
def State.freeSlots (s : State) (p : Nat) : State :=
  (s.modLp p (fun l => { l with frames := l.frames.filter (fun f =>
    !f.done || l.owed.any (fun o => o.fcnt = some f.fcnt) || s.cam.tx.srcs.any (fun x => decide (x.pipe = p ∧ x.fcnt = some f.fcnt))) })).noteLp p

/-- A delivery of port `p` is truncated; lost credit is reported, for every frame (R176, R181). -/
def State.noteCut (s : State) (p k : Nat) (wr : Wrote) (fcnt tfl : Nat) : State :=
  let s := if wr.cut then s.count CAM_DLVCNT_TRUNC 1 p k else s
  if wr.credit then s.report (CAM_EVENT.at p) (CAM_INT_EN.at p) 9 (16 + p) 0x0609 p 4 (frameData fcnt (tfl ||| 4)) else s

/-- One delivery of a live frame: rows go out, the header is owed. -/
def State.deliverLive (s : State) (p : Nat) (f : Frame) (t : TagOf) (d : Dlv) (rows : List (List Nat)) (cut : Option Nat) (failed : Bool) :
    State × Bool :=
  let pb := (s.lp p).pb
  let w := outWidth pb f.w d.out
  let pitch := outPitch pb f.w d.out
  let (s, wr) := if d.kind = 2 then s.queueTx t d (outDt pb d.out) w pitch rows cut
    else s.writeLines d pitch rows (if failed then [] else f.emb) cut
  let wr := { wr with cut := wr.cut || failed }
  let tfl := if wr.cut then t.tflags ||| 4 else t.tflags
  let s := s.noteCut p d.k wr t.fcnt t.tflags
  if d.kind = 2 then (s, wr.credit)
  else
    let o : Owed := { fcnt := if wr.credit then none else some f.fcnt, dlv := d, hdr := t.bytes d tfl f.errlines w wr.rows pitch wr.emb }
    (s.modLp p (fun l => { l with owed := l.owed ++ [o] }), wr.credit)

/-- The key of the reference (R191). -/
def refKey (pb : List Nat) (w h refbase : Nat) : List Nat :=
  [w, h, pbMosaic pb, pbPhase pb, pbN pb 0x00C 8, pbN pb 0x014 2, refbase]

def Frame.tagOf (f : Frame) (p : Nat) : TagOf :=
  { stamp := f.stamp, fcnt := f.fcnt, cam := p, pipe := p, vc := f.vc, dt := f.dt, tflags := f.tflags, errlines := f.errlines, embLen := f.embLen,
    fsrnd := f.fsrnd, fsphase := f.fsphase }

/-- A frame is no longer in flight: its rows are presented. -/
def State.frameDone (s : State) (p : Nat) (f : Frame) : State :=
  (s.modLp p (fun l => { l with frames := l.frames.map (fun x => if x.fcnt = f.fcnt then { x with done := true } else x) })).freeSlots p

/-- The lines of the new reference (R191); where a write loses credit, one of them, which, is open. -/
def State.writeRef (s : State) (base w h : Nat) (arrived : Nat → Bool) (t1 : Img) (drop : Bool) : State :=
  let lost := if drop then Config.pick s.free 0 % max 1 h else h
  let s := (List.range h).foldl (fun s y =>
    if arrived y ∧ y ≠ lost then s.putLpddr (base + y * round64 (2 * w)) ((t1.getD y []).flatMap (toBytes 2)) else s) s
  if drop then s.draw else s

/-- The oldest closed frame of LPp is processed and presented (R182, R184, R188 to R201). -/
def State.processLive (s : State) (p : Nat) (f : Frame) (loss : FrameLoss) : State :=
  let pb := (s.lp p).pb
  let rb := s.live ISP_LPREF_REFBASE p
  let key := refKey pb f.w f.h rb
  let g : Geo := { w := f.w, h := f.h, mosaic := pbMosaic pb, px0 := pbPhase pb % 4 + f.x0, py0 := pbPhase pb / 4 + f.y0 }
  let arrived := fun y => (look f.rows y).isSome
  let src : Img := (List.range f.h).map (fun y => (look f.rows y).getD (List.replicate f.w 0))
  let (listed, badN) := s.defects pb f.x0 f.y0 loss.defEcc
  let valid := pbTnr pb && (match (s.lp p).ref with
    | some (r, k) => decide (k = key) && decide (f.round ≤ r + pbN pb 0x019 1)
    | none => false)
  let refRow := fun y => if valid && arrived y && !(loss.refMiss.contains y) then
      let bs := s.lpddrBytes (4096 * rb + y * round64 (2 * f.w)) (2 * f.w)
      some ((List.range f.w).map (fun x => fieldLE bs (2 * x) 2))
    else none
  let st := runStages pb g 0 listed refRow (fun x y => s.radAt pb (f.x0 + x) (f.y0 + y)) src
  let radMiss := if pbMosaic pb = 6 then loss.radMiss else none
  let whole := (List.range f.h).all arrived
  let ref := if pbTnr pb && whole && !(f.tflags.testBit 6) && !loss.refDrop then some (f.round, key) else none
  let s := if pbTnr pb then s.writeRef (4096 * rb) f.w f.h arrived (st.taps.getD 1 []) loss.refDrop else s
  let s := s.modLp p (fun l => { l with ref := ref })
  let s := if ref.isSome then s.setRegN ISP_LPREFRND (f.round % 2 ^ 32) p else s
  let missed := if valid then (loss.refMiss.filter (fun y => decide (y < f.h))).length else 0
  let s := if missed = 0 then s else (s.count ISP_LPCNT_REFMISS missed p).lpEvent p 0 3 (frameData f.fcnt f.tflags)
  let s := if badN = 0 then s else (s.count ISP_LPCNT2_DEFBAD badN p).lpEvent p 2 3 (frameData f.fcnt f.tflags)
  let s := if radMiss.isSome then (s.count ISP_LPCNT2_RADMISS 1 p).lpEvent p 3 4 (frameData f.fcnt f.tflags) else s
  let s := s.setFld ISP_LPDEF_DEFDYN (min st.dyn (2 ^ 20 - 1)) p
  let t := f.tagOf p
  let (s, cuts) := f.dlvs.foldl (fun (x : State × Bool) d =>
    let (s, c) := x
    let failed := f.bad.contains d.out
    let rows := if failed then [] else s.outRows pb st g 0 d.out arrived
    let byRad := (radMiss.map (fun m => byTable pb g d.out m (rows.map (·.1)))).filter (fun n => decide (n < rows.length))
    let cut := match look loss.cuts d.k, byRad with
      | some a, some b => some (min a b)
      | some a, none => some a
      | none, b => b
    let (s, c') := s.deliverLive p f t d (rows.map (·.2)) cut failed
    (s, c || c')) (s, false)
  let s := if cuts then s.count ISP_LPCNT_TRUNC 1 p else s
  s.draw.frameDone p f

/-- PIPELINE_FRAME_DONE (R182): the oldest closed frame of LPp; `loss` is what it met. -/
def execPipelineFrameDone (p : Nat) (loss : FrameLoss) (s : State) : Out :=
  onUnit p 6 <|
    match (s.lp p).frames.find? (fun f => f.closed && !f.done) with
    | some f => .next (if s.lpDropped p ∨ s.boot.halted then s else s.processLive p f loss)
    | none => .next s

/-- A delivery's writes are acknowledged: header, COMMIT, marker (R175). -/
def State.commitDlv (s : State) (d : Dlv) (hdr : List Nat) : State :=
  let a := d.place.1
  (s.putDlv d a hdr).putDlv d (a + 60) (toBytes 4 d.seq) (if d.mrken then some d.mrk else none)

def State.commitOwed (s : State) (p : Nat) (o : Owed) : State :=
  let s := (s.commitDlv o.dlv o.hdr).count CAM_DLVCNT_DONE 1 p o.dlv.k
  (s.modLp p (fun l => { l with owed := l.owed.erase o })).freeSlots p

/-- What a delivery has written to a core cannot be acknowledged yet. -/
def State.dlvWaits (s : State) (d : Dlv) : Bool := decide (d.kind = 1) && !(s.coreDropped d.dcore) && s.hubUnacked d.dcore 2

/-- DELIVERY_COMMIT (R175): the oldest delivery of descriptor `k` of port `p` that is owed. -/
def execDeliveryCommit (p k : Nat) (s : State) : Out :=
  onUnit p 6 <| onUnit k 6 <|
    match (s.lp p).owed.find? (fun o => o.dlv.k = k) with
    | some o => .next (if s.boot.halted || s.dlvWaits o.dlv then s else s.commitOwed p o)
    | none => .next s

/-- Delivery `d` of the frame `f`, in flight when LPp is lost, is closed with TRUNCATED; `st` is what the stages made of the rows taken. -/
def State.loseDelivery (s : State) (p : Nat) (f : Frame) (g : Geo) (st : Stages) (d : Dlv) : State :=
  let rows := if f.bad.contains d.out then [] else s.outRows (s.lp p).pb st g 0 d.out (fun y => (look f.rows y).isSome)
  let n := Config.pick s.free d.k % (rows.length + 1)
  (s.deliverLive p f (f.tagOf p) d (rows.map (·.2)) (some n) true).1.draw

/-- The deliveries of the frame `f`, in flight when LPp is lost. -/
def State.loseFrame (s : State) (p : Nat) (f : Frame) : State :=
  if f.done then s
  else
    let pb := (s.lp p).pb
    let g : Geo := { w := f.w, h := f.h, mosaic := pbMosaic pb, px0 := pbPhase pb % 4 + f.x0, py0 := pbPhase pb / 4 + f.y0 }
    let st := runStages pb g 0 [] (fun _ => none) (fun x y => s.radAt pb (f.x0 + x) (f.y0 + y))
      ((List.range f.h).map (fun y => (look f.rows y).getD (List.replicate f.w 0)))
    f.dlvs.foldl (fun s d => s.loseDelivery p f g st d) s

/-- LPp is lost (R448): every frame in flight is closed with TRUNCATED, the rows delivered, how many is open, and COMMIT. -/
def State.loseLive (s : State) (p : Nat) : State :=
  let s := (s.lp p).frames.foldl (fun s f => s.loseFrame p f) s
  let s := (s.lp p).owed.foldl (fun s o => s.commitOwed p o) s
  (s.modLp p (fun l => { l with frames := [], owed := [], ref := none })).noteLp p

/-- The key fields of the reference change at a safe point (R191). -/
def State.dropRef (s : State) (p : Nat) (changed : Bool) : State := if changed then s.modLp p (fun l => { l with ref := none }) else s

/-- The set of LPp takes effect or is rejected (R186, R187); `ecc` says that its block reads with an uncorrectable error. -/
def State.applyLp (s : State) (p : Nat) (ecc : Bool) : State :=
  let s := s.setFld ISP_LPCTRL_COMMIT 0 p
  let base := 64 * s.fld ISP_LPPB_BASE p
  let pb := s.hubBytes base 2752
  let w := s.live CAM_WIN_WH_W p
  let h := s.live CAM_WIN_WH_H p
  let rb := s.fld ISP_LPREF_REFBASE p
  let r := pbReject true base pb ecc (s.live CAM_WIN_XY_X0 p + w) (s.live CAM_WIN_XY_Y0 p + h) (refEnd rb w h)
  let rej := if r ≠ 0 then r else if (pbDlvs pb).any (·.en) then 9 else 0
  if rej ≠ 0 then (s.setFld ISP_LPSTAT_REJ_CAUSE rej p).lpEvent p 4 3
  else
    let old := refKey (s.lp p).pb 0 0 (s.live ISP_LPREF_REFBASE p)
    let s := s.dropRef p (decide (old ≠ refKey pb 0 0 rb))
    let s := ((s.apply1 ISP_LPCTRL p 0).apply1 ISP_LPPB p 0).apply1 ISP_LPREF p 0
    let s := s.modLp p (fun l => { l with pb := pb })
    (s.noteLp p).lpEvent p 5 1

/-! ### Re-process pipelines -/

def State.rpDropped (s : State) (q : Nat) : Bool := s.resDropped (34 + q)

/-- The set of context (q, c) takes effect or is rejected (R187). The width and height of its source are not known here: the table is held to
the smallest, 16 pixels (Table 7.1) by 2 rows (R203) (DESIGN CHOICE, log 101). -/
def State.applyRp (s : State) (q c : Nat) (ecc : Bool) : State :=
  let s := s.setFld ISP_RPCCTRL_COMMIT 0 q c
  let base := 64 * s.fld ISP_RPCPB_BASE q c
  let pb := s.hubBytes base 2752
  let on := s.flag ISP_RPCCTRL_EN q c
  let n := s.fld ISP_RPCSRCSZ_NBUF q c
  let named := match s.pat.active with
    | some im => (im.live s.pat.shed).any (fun j => decide (j.2.kind = 5 ∧ j.2.target = 16 * q + c))
    | none => false
  let r := pbReject false base pb ecc 16 2 0
  let rej := if r ≠ 0 then r
    else if (pbDlvs pb).any (·.rangeBad) then 9
    else if vcClash (s.txVcs none (some (q, c))) (pbDlvs pb) then 10
    else if !on && named then 11
    else if n < 2 ∨ 64 < n ∨ lpddrSize < 4096 * (s.fld ISP_RPCSRC_BASE q c + n * s.fld ISP_RPCSRCSZ_STRIDE q c) then 12
    else 0
  if rej ≠ 0 then (s.setFld ISP_RPCSTAT_REJ_CAUSE rej q c).rpEvent q 3 3
  else
    let old := (s.rp q).pbs.getD c []
    let s := (((s.apply1 ISP_RPCCTRL q c).apply1 ISP_RPCPB q c).apply1 ISP_RPCSRC q c).apply1 ISP_RPCSRCSZ q c
    let s := s.modRp q (fun r => { r with
      pbs := r.pbs.set c pb,
      counts := r.counts.modify c (fun l => (List.range 4).map (fun k =>
        let a := pbDlv old k 0
        let b := pbDlv pb k 0
        if destChanged a.cfg a.addr a.size b.cfg b.addr b.size then (0, 0) else l.getD k (0, 0))) })
    s.rpEvent q 4 1

/-- A ring command whose kicks have all started or been refused ends (R202, R354). -/
def State.settleKicks (s : State) : State :=
  s.settle (fun s w => match w with
    | .rpKick q m r => if s.fld ISP_RPKICK_KICK q &&& m = 0 then some (if r = 0 then 0 else 7, [r]) else none
    | _ => none)

/-- Kicks of pipeline `q` (R202), and those refused. -/
def State.kickRp (s : State) (q mask : Nat) : State × Nat :=
  let held : Bool := s.rpDropped q || (s.flag PAT_STATUS_ACTIVE && s.liveJobs.any (fun j => decide (j.kind = 5 ∧ j.target / 16 = q) && j.dl))
  let refused := (bitsOf mask 16).filter (fun c => held || decide (s.live ISP_RPCCTRL_EN q c = 0))
  let rm := refused.foldl (fun a c => a + 2 ^ c) 0
  let s := s.setFld ISP_RPKICK_KICK (s.fld ISP_RPKICK_KICK q ||| (mask % 65536 - rm)) q
  (refused.foldl (fun s _ => s.rpEvent q 2 3) s, rm)

/-- A kick of context `c` of pipeline `q` that was pending is refused: the commands that wait for it answer so (R202, R364). -/
def State.refuseKick (s : State) (q c : Nat) : State :=
  let mend : Wait → Wait := fun w => match w with
    | .rpKick p m f => if p = q ∧ m.testBit c then .rpKick p m (f ||| 2 ^ c) else w
    | _ => w
  let rings := s.rings.map (fun r => { r with run := r.run.map (fun x => { x with wait := mend x.wait }) })
  ({ s with rings := rings }).rpEvent q 2 3

/-- A frame of pipeline `q` ends with a code of Table 8.6 (R206); `hdr` is its source header, none where no buffer qualified: FCNT and TFLAGS
are then 0 (DESIGN CHOICE, log 134). -/
def State.endRp (s : State) (q c : Nat) (inst : Option Nat) (code : Nat) (hdr : Option (List Nat)) : State :=
  let s := (s.setFld ISP_RPCSTAT_CODE code q c).setFld ISP_RPSTAT_BUSY 0 q
  let s := s.modRp q (fun r => { r with run := none })
  let s := if code = 0 then s.count ISP_RPCNT_FRAMES 1 q
    else (s.count ISP_RPCNT_FAIL 1 q).rpEvent q (if code = 3 then 1 else 0) 4 (match hdr with
      | some h => frameData (fieldLE h 24 4) (fieldLE h 32 2)
      | none => 0)
  match inst with
  | some id => ((s.noteLate id).endPart id (34 + q) code 0 (Config.freeWord s.free).toNat).draw
  | none => s

/-- Number `a` is newer than `b`, by signed distance modulo 2^32. -/
def newer32 (a b : Nat) : Bool :=
  let d := (a + 2 ^ 32 - b) % 2 ^ 32
  decide (0 < d ∧ d < 2 ^ 31)

/-- The source buffer of context (q, c) (R203): address and SEQ. -/
def State.rpSource (s : State) (q c : Nat) : Option (Nat × Nat) :=
  let n := s.live ISP_RPCSRCSZ_NBUF q c
  let bufs := (List.range n).filterMap (fun i =>
    let a := 4096 * (s.live ISP_RPCSRC_BASE q c + i * s.live ISP_RPCSRCSZ_STRIDE q c)
    let h := s.lpddrBytes (a + 56) 8
    if fieldLE h 0 4 = fieldLE h 4 4 then some (a, fieldLE h 0 4) else none)
  let best := fun (better : Nat → Nat → Bool) (l : List (Nat × Nat)) => l.foldl (fun b x => match b with
    | none => some x
    | some y => if better x.2 y.2 then some x else some y) none
  if s.live ISP_RPCCTRL_SRCSEL q c = 0 then best newer32 bufs
  else
    let last := s.regN ISP_RPCSEQ q c
    best (fun a b => newer32 b a) (if (s.rp q).seen.getD c false then bufs.filter (fun x => newer32 x.2 last) else bufs)

/-- The header checks of R203. -/
def srcBad (h : List Nat) (stride : Nat) : Bool :=
  let src := fieldLE h 29 1
  let w := fieldLE h 36 2
  let rows := fieldLE h 38 2
  let pitch := fieldLE h 40 4
  decide (nbits src 4 3 ≠ 4 ∨ 5 < nbits src 0 4 ∨ w % 2 = 1 ∨ rows < 2 ∨ pitch < 2 * w ∨ 4096 * stride < 64 + rows * pitch)

/-- A frame of context (q, c) starts (R203). -/
def State.beginRp (s : State) (q c : Nat) (inst : Option Nat) : State :=
  let s := s.setFld ISP_RPSTAT_CTX c q
  match s.rpSource q c with
  | none => s.endRp q c inst 1 none
  | some (a, sq) =>
    let h := s.lpddrBytes a 64
    if srcBad h (s.live ISP_RPCSRCSZ_STRIDE q c) then s.endRp q c inst 2 (some h)
    else (s.modRp q (fun r => { r with run := some { ctx := c, inst := inst, addr := a, seq := sq, hdr := h, startAt := s.rnd.clk } })).setFld ISP_RPSTAT_BUSY 1 q

/-- The next frame of pipeline `q`, if it is free: a Pattern instance first, then the lowest pending kick (R202). A set that was
committed takes effect at this frame start; `ecc` says that its block reads with an uncorrectable error. -/
def State.nextRp (s : State) (q : Nat) (ecc : Bool) : State :=
  if (s.rp q).run.isSome ∨ s.rpDropped q ∨ s.boot.halted then s
  else
    let due := fun (s : State) (c : Nat) => if s.flag ISP_RPCCTRL_COMMIT q c then s.applyRp q c ecc else s
    match s.nextFor (34 + q) with
    | some i =>
      let c := i.target % 16
      ((due s c).markRunning i.id (34 + q)).beginRp q c (some i.id)
    | none =>
      match (bitsOf (s.fld ISP_RPKICK_KICK q) 16).head? with
      | none => s
      | some c =>
        let s := due s c
        let s := s.setFld ISP_RPKICK_KICK (s.fld ISP_RPKICK_KICK q - 2 ^ c) q
        if s.live ISP_RPCCTRL_EN q c = 0 then (s.refuseKick q c).settleKicks else (s.beginRp q c none).settleKicks

/-- RP_FRAME_START (R203). -/
def execRpFrameStart (q : UnitStart) (s : State) : Out := onUnit q.unit 2 (.next (s.nextRp q.unit q.ecc))

/-- One delivery of a re-process frame, with its header and COMMIT (R204). -/
def State.deliverRp (s : State) (q c : Nat) (pb h : List Nat) (d : Dlv) (rows : List (List Nat)) (cut : Option Nat) (failed : Bool) : State :=
  let w0 := fieldLE h 36 2
  let w := outWidth pb w0 d.out
  let pitch := outPitch pb w0 d.out
  let t : TagOf := { stamp := h.take 24, fcnt := fieldLE h 24 4, cam := fieldLE h 28 1, pipe := 6 + q, vc := fieldLE h 30 1, dt := fieldLE h 31 1,
                     tflags := fieldLE h 32 2, errlines := (Config.freeWord s.free).toNat % 65536, embLen := 0, fsrnd := fieldLE h 48 4,
                     fsphase := fieldLE h 52 4 }
  let s := s.draw
  let (s, wr) := if d.kind = 2 then s.queueTx t d (outDt pb d.out) w pitch rows cut else s.writeLines d pitch rows [] cut
  let _ := c
  if d.kind = 2 then s
  else s.commitDlv d (t.bytes d (if wr.cut || failed then t.tflags ||| 4 else t.tflags) t.errlines w wr.rows pitch 0)

/-- Output delivery `k` of a re-processed frame: the rows that its stages give reach the delivery's buffer, as far as the losses let
them (R204, R205). -/
def State.rpDeliver (s : State) (q : Nat) (r : RpRun) (loss : FrameLoss) (aborted : Bool) (pb : List Nat) (code : Nat)
    (g : Geo) (st : Stages) (radMiss : Option Nat) (k : Nat) : State :=
  let c := r.ctx
  let entry := pbN pb 0x00A 1
  let w := g.w
  let h := g.h
  let d0 := pbDlv pb k 0
  if ¬ d0.en ∨ 4 ≤ d0.out ∨ ¬ (pbOut pb d0.out).en then s
  else
    let bad := geomBad pb w h d0.out
    let cnt := ((s.rp q).counts.getD c []).getD k (0, 0)
    let (cnt, d?) := nextDlv cnt k d0.cfg d0.addr d0.size (bad || code == 3)
    let s := s.modRp q (fun x => { x with counts := x.counts.modify c (fun l => l.set k cnt) })
    match d? with
    | none => s
    | some d =>
      let none' := bad || decide (code = 3)
      let rows := if none' then [] else s.outRows pb st g entry d.out (fun y => decide (y < h))
      let byRad := radMiss.map (fun m => byTable pb g d.out m (rows.map (·.1)))
      let lim := ((look loss.cuts k).toList ++ byRad.toList ++ (if aborted then [Config.pick s.free k % (rows.length + 1)] else [])).foldl
        (fun a b => match a with
          | none => some b
          | some x => some (min x b)) none
      let lim := lim.filter (fun n => decide (n < rows.length))
      s.deliverRp q c pb r.hdr d (rows.map (·.2)) lim (none' || aborted)

/-- What becomes of a re-process frame at its end: the code, and its deliveries. `cuts` are lines credited per delivery, `limit` the rows of
each delivery written before an abort. -/
def State.finishRp (s : State) (q : Nat) (r : RpRun) (loss : FrameLoss) (aborted : Bool) : State :=
  let c := r.ctx
  let pb := (s.rp q).pbs.getD c []
  let entry := pbN pb 0x00A 1
  let w := fieldLE r.hdr 36 2
  let h := fieldLE r.hdr 38 2
  let pitch := fieldLE r.hdr 40 4
  let taken := decide (fieldLE (s.lpddrBytes (r.addr + 56) 4) 0 4 ≠ r.seq)
  let outs := (List.range 4).filter (fun k => (pbOut pb k).en)
  let allBad := !outs.isEmpty && outs.all (geomBad pb w h)
  let code := if aborted then 4 else if taken then 3 else if allBad then 5 else 0
  let src : Img := (List.range h).map (fun y =>
    let bs := s.lpddrBytes (r.addr + 64 + y * pitch) (2 * w)
    (List.range w).map (fun x => fieldLE bs (2 * x) 2))
  let g : Geo := { w := w, h := h, mosaic := pbMosaic pb, px0 := pbPhase pb % 4, py0 := pbPhase pb / 4 }
  let (listed, _) := s.defects pb 0 0 loss.defEcc
  let st := runStages pb g entry listed (fun _ => none) (fun x y => s.radAt pb x y) src
  let tabEnd := (lpddrSize - 4096 * pbN pb 0x038 4) / max 1 (64 * pbN pb 0x03C 2)
  let radMiss := if pbMosaic pb = 6 ∧ entry < 3 then some (min tabEnd (loss.radMiss.getD h)) else none
  let s := (List.range 4).foldl (fun s k => s.rpDeliver q r loss aborted pb code g st radMiss k) s
  let s := (s.setRegN ISP_RPCSEQ r.seq q c).modRp q (fun x => { x with seen := x.seen.set c true })
  s.draw.endRp q c r.inst code (some r.hdr)

/-- RP_FRAME_END (R204 to R206). A frame that ends past its deadline under DROP is aborted (R67). -/
def execRpFrameEnd (q : Nat) (loss : FrameLoss) (s : State) : Out :=
  onUnit q 2 <|
    match (s.rp q).run with
    | some r => .next (if s.dropsNow r.inst then s.countAbort.finishRp q r loss true else s.finishRp q r loss false)
    | none => .next s

/-- Nothing is lost on the way. -/
def noLoss : FrameLoss := { cuts := [], refMiss := [], refDrop := false, radMiss := none, defEcc := [] }

/-- The running frame of pipeline `q` is aborted (R67, R68, R205). -/
def State.abortRp (s : State) (q : Nat) : State :=
  match (s.rp q).run with
  | some r => s.finishRp q r noLoss true
  | none => s

/-! ### The transmitter (R177 to R179) -/

/-- The source served next: the VCs in turn after the one served last. -/
def txNext (t : Tx) : Option TxSrc :=
  (List.range 16).findSome? (fun i => t.srcs.find? (fun x => decide (x.vc = (t.last + 1 + i) % 16)))

/-- An FE is sent; after every DSKP-th a periodic deskew sequence is due (R178). -/
def State.noteFe (s : State) : State :=
  let dskp := s.live CAM_TXCTRL_DSKP
  if dskp = 0 ∨ s.live CAM_TXCTRL_RATE ≤ 150 then s
  else s.modTx (fun t => if dskp ≤ t.fes + 1 then { t with fes := 0, due := t.due + 1 } else { t with fes := t.fes + 1 })

/-- The periodic sequences that are due are sent once no line is queued (R178). -/
def State.deskew (s : State) : State :=
  if s.cam.tx.srcs.any (fun x => x.pkts.any (fun k => decide (2 ≤ k.1))) then s
  else s.modTx (fun t => { t with deskews := t.deskews + t.due, due := 0 })

/-- The transmitter sends one packet; an FE ends its frame. -/
def State.sendTx (s : State) : State :=
  if ¬ s.txOn ∨ s.boot.parked then s
  else
    match txNext s.cam.tx with
    | none => s
    | some x =>
      match x.pkts with
      | [] => s.modTx (fun t => { t with srcs := t.srcs.erase x })
      | (dt, bs) :: rest =>
        let s := s.modTx (fun t => { t with
          srcs := if rest.isEmpty then t.srcs.erase x else t.srcs.map (fun y => if y = x then { y with pkts := rest } else y),
          last := x.vc, sent := some (x.vc, dt, bs) })
        let s := if dt = 1 then
            let s := (s.count CAM_TXCNT_FRAMES).noteFe
            if x.pipe < 6 then (s.count CAM_DLVCNT_DONE 1 x.pipe x.k).freeSlots x.pipe else s
          else s
        s.deskew.noteTx

/-- TX_PACKET_SEND. -/
def execTxPacketSend (s : State) : Out := .next s.sendTx

/-- A delivery whose frame waits or is being sent at the transmitter is cut, unless it was before (R452). -/
def State.loseSrc (s : State) (x : TxSrc) : State :=
  if x.fcnt.isNone then s
  else (if x.pipe < 6 then s.count CAM_DLVCNT_TRUNC 1 x.pipe x.k else s).count CAM_TXCNT_TRUNC

/-- What waits when the transmitter is switched off or lost is never sent: its deliveries count TRUNC. -/
def State.loseTx (s : State) : State :=
  let s := s.cam.tx.srcs.foldl State.loseSrc s
  ((List.range 6).foldl (fun s p => s.freeSlots p) (s.modTx (fun t => { t with srcs := [], due := 0 }))).noteTx

/-- The set of the transmitter takes effect or is rejected (R179). -/
def State.applyTx (s : State) : State :=
  let s := s.setFld CAM_TXCTRL_COMMIT 0
  let rate := s.fld CAM_TXCTRL_RATE
  let was := decide (s.live CAM_TXCTRL_EN = 1)
  let now := s.flag CAM_TXCTRL_EN
  let changed := decide (s.fld CAM_TXCTRL_LANES ≠ s.live CAM_TXCTRL_LANES ∨ rate ≠ s.live CAM_TXCTRL_RATE
    ∨ s.fld CAM_TXCTRL_CONTCLK ≠ s.live CAM_TXCTRL_CONTCLK)
  let rej := if rate < 8 ∨ 450 < rate ∨ s.fld CAM_TXCTRL_LANES = 3 then 1 else if was && now && changed then 2 else 0
  if rej ≠ 0 then (s.setFld CAM_TXSTAT_REJ_CAUSE rej).txEvent 1 3
  else
    let s := s.apply1 CAM_TXCTRL 0 0
    let s := if now && !was && decide (150 < rate) then s.modTx (fun t => { t with deskews := t.deskews + 1 }) else s
    let s := if now then s else s.loseTx
    s.noteTx.txEvent 2 1
end Sys2Proof.Machine
end

