-- ==== Sys2Proof/Machine/Camera.lean ====
section
/-! DEFINITION. Machine/Camera.lean: camera ports, FSYNC and their commands (chapter 7). -/

namespace Sys2Proof.Machine
open Sys2Proof Sys2Proof.Machine.Reg

/-- The frame open in LPp, and a change of it. -/
def State.openFrame (s : State) (p : Nat) : Option Frame := (s.lp p).frames.find? (fun f => !f.closed)
def State.modOpen (s : State) (p : Nat) (f : Frame → Frame) : State :=
  s.modLp p (fun l => { l with frames := l.frames.map (fun x => if x.closed then x else f x) })
def State.openFlags (s : State) (p : Nat) : Nat := ((s.openFrame p).map (·.tflags)).getD 0
/-- The open frame gets a flag of Table 7.3. -/
def State.flagFrame (s : State) (p b : Nat) : State := s.modOpen p (fun f => { f with tflags := f.tflags ||| 2 ^ b })

/-! ### FSYNC (R169 to R172) -/

/-- The level of ball CAM_FSYNC[p]: active while a pulse is driven, low where FSPOL is 1 (R169). Before READY, in FAIL and in stage 6 of bind-off it is
low (R492); boundary scan takes it away (R468). -/
def State.fsyncPin (s : State) (p : Nat) : Option Bool :=
  if s.cutOff then none
  else if s.fld PWR_CASTON_PHASE ≠ 7 ∨ s.fld PWR_BOSTAT_STAGE = 6 then some false
  else some ((s.fld CAM_FSSTAT_ACTIVE).testBit p != decide (s.live CAM_SYNC_FSPOL p = 1))

/-- The profile is consistent (R170): LEAD in 50 ns units fits into COFS stitches at RND_BAND_HI. -/
def State.profOk (s : State) (lo hi : Nat) : Bool :=
  let cofs := nbits hi 0 10
  let lead := 2 * nbits lo 20 12 + nbits lo 0 20
  decide (1 ≤ nbits hi 10 10) && (decide (nbits hi 20 1 = 0)
    || (decide (1 ≤ cofs) && decide (lead * 50 * s.liveN RND_BAND_HI * 1024 ≤ cofs * 10 ^ 9 * 65536)))

/-- Where MODE 1 places the edge (R169): the tick, and whether it could not lead the centre. -/
def State.centredEdge (s : State) (cofs lead : Nat) : Nat × Bool :=
  let inc : Int := (max 1 (s.freq * 2 ^ 18) : Nat)
  let rem : Int := (((s.absStitch + cofs) * 2 ^ 22 - s.absPhase) * 10 ^ 9 - s.rnd.frac : Nat)
  let x := 2 * rem - 25 * (lead : Int) * inc
  if x ≤ 0 then (s.rnd.clk, true) else (s.rnd.clk + ((x + inc) / (2 * inc)).toNat, false)

/-- One camera is fired with a profile (R169, R171): the pulse is placed, or the firing is discarded. -/
def State.fireCam (s : State) (p lo hi : Nat) (sw : Bool) : State :=
  let lead := 2 * nbits lo 20 12 + nbits lo 0 20
  let (t, miss) := if sw then (s.rnd.clk + 1, false) else if nbits hi 20 1 = 1 then s.centredEdge (nbits hi 0 10) lead else (s.rnd.clk, false)
  let c := s.camPort p
  let clash := c.plan.isSome || (match c.pulseEnd with
    | some e => decide (t < e + 250)
    | none => false)
  if clash then (s.count CAM_CNT_MISC_FSOVL 1 p).camEvent p 6 4 (s.openFlags p)
  else s.modCamPort p (fun c => { c with plan := some { tick := t, lead := lead, width := nbits hi 10 10, miss := miss } })

/-- A firing of the cameras in `mask` with profile `i`: of the Pattern at the first tick of a stitch, or of software (R170, R171). -/
def State.fireFsync (s : State) (mask i : Nat) (sw : Bool) : State :=
  let lo := s.regN CAM_FSPROF_LO i
  let hi := s.regN CAM_FSPROF_HI i
  let ok := s.profOk lo hi
  let cams := if s.boot.halted then [] else (bitsOf mask 6).filter (fun p => !s.camDropped p)
  let s := if ok then s.modCam (fun c => { c with profs := c.profs.set i (lo, hi) })
    else cams.foldl (fun s p => s.camEvent p 13 3 (s.openFlags p)) (s.setFld CAM_FSSTAT_CFG_MISMATCH (s.fld CAM_FSSTAT_CFG_MISMATCH ||| 2 ^ i))
  let (lo, hi) := s.cam.profs.getD i (0, 0x2800)
  cams.foldl (fun s p => s.fireCam p lo hi sw) s

/-- CAM_FSW_FIRE: a write of CAM_FSW with FIRE `mask` and PROF `i`. -/
def State.writeFsw (s : State) (mask i : Nat) : State := (s.setFld CAM_FSW_PROF i).fireFsync mask (i % 8) true

/-- The oldest pending edge is given up (R172). -/
def State.loseEdge (s : State) (p : Nat) : State :=
  ((s.modCamPort p (fun c => { c with edges := c.edges.tail })).count CAM_CNT_MISC_FSLOST 1 p).camEvent p 5 4 (s.openFlags p)

/-- FSYNC_EDGE: the placed edge of camera `p` has come; the pin goes active and the edge is pending. -/
def execFsyncEdge (p : Nat) (s : State) : Out :=
  onUnit p 6 <|
    match (s.camPort p).plan with
    | none => .next s
    | some u =>
      if s.rnd.clk < u.tick ∨ s.boot.halted then .next s
      else
        let s := if (s.camPort p).edges.length < 4 then s else s.loseEdge p
        .next ((s.modCamPort p (fun c => { c with
          plan := none, pulseEnd := some (u.tick + 250 * u.width),
          edges := c.edges ++ [{ tick := u.tick, lead := u.lead, miss := u.miss }] })).setFld CAM_FSSTAT_ACTIVE
            (s.fld CAM_FSSTAT_ACTIVE ||| 2 ^ p))

/-- FSYNC_PULSE_END: WIDTH µs after its edge the pin returns inactive. -/
def execFsyncPulseEnd (p : Nat) (s : State) : Out :=
  onUnit p 6 <|
    match (s.camPort p).pulseEnd with
    | none => .next s
    | some e =>
      if s.rnd.clk < e ∨ ¬ (s.fld CAM_FSSTAT_ACTIVE).testBit p then .next s
      else .next (s.setFld CAM_FSSTAT_ACTIVE (s.fld CAM_FSSTAT_ACTIVE - 2 ^ p))

/-- The time base at tick `t`: absolute phase, NSTIME, flags. -/
def State.baseAt (s : State) (t : Nat) : Nat × Nat × Nat :=
  if s.rnd.clk ≤ t then (s.absPhase, s.nstime, s.stampFlags)
  else
    match s.rnd.hist.find? (fun g => decide (g.tick ≤ t)) with
    | some g => (g.phase + (g.frac + (t - g.tick) * g.freq * 2 ^ 18) / 10 ^ 9, (g.ns + (g.nsFrac + (t - g.tick) * g.nsNum) / g.nsDen) % 2 ^ 64,
        g.flags)
    | none => (s.absPhase, s.nstime, s.stampFlags)

/-- The stamp of an instant for a frame, and its round (R172, R173). -/
def State.frameStamp (s : State) (at' : Nat × Nat × Nat) (unc : Nat) : List Nat × Nat :=
  let st := assignAt at'.2.2 s.freq at'.1 at'.2.1 unc (2 ^ 32)
  (st.bytes, st.window)

/-- The tick of an edge's exposure centre: edge + LEAD, to a tick. -/
def Edge.centreTick (e : Edge) : Nat := e.tick + (25 * e.lead + 1) / 2

/-- Every pending edge whose centre has passed has its exact stamp (R172). -/
def State.takeCentres (s : State) (p : Nat) : State :=
  s.modCamPort p (fun c => { c with edges := c.edges.map (fun e =>
    if e.centre.isNone ∧ e.centreTick ≤ s.rnd.clk then { e with centre := some (s.baseAt e.centreTick) } else e) })

/-- EXPOSURE_CENTRE. -/
def execExposureCentre (p : Nat) (s : State) : Out := onUnit p 6 (.next (s.takeCentres p))

/-! ### Frames (R164 to R168) -/

/-- REJ_CAUSE of the staged set of port `p`; the first cause in the order of its codes. -/
def State.camReject (s : State) (p : Nat) : Nat :=
  let lanes := if s.flag CAM_PHY_PHY p then s.fld CAM_PHY_WIDTH p + 1 else 2 ^ s.fld CAM_PHY_WIDTH p
  let map := (List.range lanes).map (fun j => s.fld CAM_PHY_MAP p / 4 ^ j % 4)
  let rate := s.fld CAM_PHY_RATE p
  let w := s.fld CAM_WIN_WH_W p
  let h := s.fld CAM_WIN_WH_H p
  let x0 := s.fld CAM_WIN_XY_X0 p
  let y0 := s.fld CAM_WIN_XY_Y0 p
  let ds := (List.range 6).map (fun k => ({ k := k, cfg := s.regN CAM_DLVCFG p k, addr := s.regN CAM_DLVADDR p k,
                                            size := s.regN CAM_DLVSIZE p k, seq := 0 } : Dlv))
  if s.fld CAM_PHY_WIDTH p = 3 ∨ rate < 8 ∨ (if s.flag CAM_PHY_PHY p then 350 else 450) < rate then 1
  else if !((List.range lanes).all (fun j => map.contains j)) then 2
  else if s.fld CAM_STREAM_DT p < 0x2A ∨ 0x2E < s.fld CAM_STREAM_DT p ∨ 4 < s.fld CAM_STREAM_EMBMAX p then 3
  else if x0 % 2 = 1 ∨ y0 % 2 = 1 ∨ w % 2 = 1 ∨ w < 16 ∨ 8192 < w ∨ h < 1 ∨ 8192 < h ∨ 8192 < x0 + w ∨ 8192 < y0 + h then 4
  else if ds.any (·.rangeBad) then 5
  else if s.fld CAM_STREAM_FETMO p = 0 ∨ s.fld CAM_SYNC_FSMAX p = 0 then 6
  else if vcClash (s.txVcs (some p) none) ds then 7
  else 0

/-- The open frame of port `p` closes (R165, R166); `fe` says that its FE closed it. -/
def State.closeFrame (s : State) (p : Nat) (fe : Bool) : State :=
  let c := s.camPort p
  let s := (s.setFld CAM_LAST_WIDTH (min c.wide 16383) p).setFld CAM_LAST_LINES (min c.lines 16383) p
  let s := match s.openFrame p with
    | some f => if f.rows.length < f.h then s.flagFrame p 4 else s
    | none => s
  let s := if fe then s
    else
      let s := s.flagFrame p 6
      s.camEvent p 8 3 (s.openFlags p)
  let s := s.modOpen p (fun f => { f with closed := true })
  s.setFld CAM_STATUS_STATE (s.live CAM_PHY_EN p) p

/-- A set of port `p` can be taken (R180): no frame is open, or the set has EN 0 and ends the frame (R165). -/
def State.camSafe (s : State) (p : Nat) : Bool := !s.camOpen p || decide (s.fld CAM_PHY_EN p = 0)

/-- The set of port `p` takes effect or is rejected (R180). -/
def State.applyCam (s : State) (p : Nat) : State :=
  let s := s.setFld CAM_PCTRL_COMMIT 0 p
  let rej := s.camReject p
  if rej ≠ 0 then (s.setFld CAM_STATUS_REJ_CAUSE rej p).camEvent p 11 3 0
  else
    let s := if s.camOpen p then s.closeFrame p false else s
    let win := decide (s.reg (CAM_WIN_WH.at p) ≠ s.reg (CAM_WIN_WH.at p + 0x800))
    let s := s.dropRef p win
    let s := s.modCamPort p (fun c => { c with counts := (List.range 6).map (fun k =>
      if destChanged (s.liveN CAM_DLVCFG p k) (s.liveN CAM_DLVADDR p k) (s.liveN CAM_DLVSIZE p k) (s.regN CAM_DLVCFG p k)
        (s.regN CAM_DLVADDR p k) (s.regN CAM_DLVSIZE p k) then (0, 0) else c.counts.getD k (0, 0)) })
    let s := [CAM_PHY, CAM_STREAM, CAM_WIN_XY, CAM_WIN_WH, CAM_SYNC].foldl (fun s r => s.apply1 r p 0) s
    let s := (List.range 6).foldl (fun s k => ((s.apply1 CAM_DLVCFG p k).apply1 CAM_DLVADDR p k).apply1 CAM_DLVSIZE p k) s
    ((s.setFld CAM_STATUS_STATE (s.live CAM_PHY_EN p) p).noteLp p).camEvent p 12 1 0

/-- The sets of port `p` and of LPp that wait for a moment without a frame take effect, the port's first; `ecc` says that the parameter block
reads with an uncorrectable error. -/
def State.camSafePoint (s : State) (p : Nat) (ecc : Bool) : State :=
  let s := if s.flag CAM_PCTRL_COMMIT p && s.camSafe p then s.applyCam p else s
  if s.flag ISP_LPCTRL_COMMIT p && (s.lp p).frames.isEmpty then s.applyLp p ecc else s

/-- The edge that an FS matches, if one does (R172): edges older than FSMAX are given up; an edge that has not reached its centre stays. -/
def State.matchEdge (s : State) (p : Nat) : Nat → State × Option Edge
  | 0 => (s, none)
  | n + 1 =>
    match (s.camPort p).edges with
    | [] => (s, none)
    | e :: t =>
      if 1000 * s.live CAM_SYNC_FSMAX p < 4 * (s.rnd.clk - e.tick) then (s.loseEdge p).matchEdge p n
      else if e.centre.isSome then (s.modCamPort p (fun c => { c with edges := t }), some e)
      else (s, none)

/-- Deliveries of a frame that opens in LPp, the counts advancing (R174, R200). -/
def State.takeDlvs (s : State) (p : Nat) (bad : List Nat) : State × List Dlv :=
  (List.range 6).foldl (fun (x : State × List Dlv) k =>
    let (s, l) := x
    let cfg := s.liveN CAM_DLVCFG p k
    let out := nbits cfg 4 3
    if ¬ cfg.testBit 0 ∨ (out < 4 ∧ ¬ (pbOut (s.lp p).pb out).en) then (s, l)
    else
      let (cnt, d) := nextDlv ((s.camPort p).counts.getD k (0, 0)) k cfg (s.liveN CAM_DLVADDR p k) (s.liveN CAM_DLVSIZE p k) (bad.contains out)
      (s.modCamPort p (fun c => { c with counts := c.counts.set k cnt }), l ++ d.toList)) (s, [])

/-- What the FS of a frame counts and reports: FRM_NOSYNC, the frame counter where there is credit, and the events. -/
def State.noteFs (s : State) (p : Nat) (nosync miss credit : Bool) (tfl : Nat) : State :=
  let s := if nosync then s.count CAM_CNT_FRM_NOSYNC 1 p else s
  let s := if credit then s.countWrap CAM_FCNT_FCNT 1 p else s
  let s := if nosync then s.camEvent p 4 3 tfl else s
  if miss then s.camEvent p 7 4 tfl else s

/-- A frame with credit enters LPp: its outputs' geometry is checked and its deliveries are taken. -/
def State.takeFrame (s : State) (p now : Nat) (stamp : List Nat) (round tfl : Nat) : State :=
  let w := s.live CAM_WIN_WH_W p
  let h := s.live CAM_WIN_WH_H p
  let bad := (List.range 5).filter (fun k => geomBad (s.lp p).pb w h k)
  let s := if bad.isEmpty then s else (s.count ISP_LPCNT2_GEOMSKIP 1 p).lpEvent p 1 4 (frameData (s.regN CAM_FCNT p) tfl)
  let ds := (s.takeDlvs p bad).2
  let s := (s.takeDlvs p bad).1
  let f : Frame := { fcnt := s.regN CAM_FCNT p, stamp := stamp, round := round, tflags := tfl, vc := s.live CAM_STREAM_VC p,
                     dt := s.live CAM_STREAM_DT p, fsrnd := s.count48 % 2 ^ 32, fsphase := s.phase, x0 := s.live CAM_WIN_XY_X0 p,
                     y0 := s.live CAM_WIN_XY_Y0 p, w := w, h := h, dlvs := ds, bad := bad, lastAt := now }
  ((s.modLp p (fun l => { l with frames := l.frames ++ [f] })).setFld CAM_STATUS_STATE 2 p).noteLp p

/-- The FS of a frame whose edge is `e`, if it has one. -/
def State.openWith (s : State) (p now : Nat) (e : Option Edge) : State :=
  let fs := s.frameStamp (s.baseAt now) 0
  let (stamp, round) := ((e.bind (·.centre)).map (fun c => s.frameStamp c (s.live CAM_SYNC_EUNC p))).getD fs
  let nosync := e.isNone
  let miss := (e.map (·.miss)).getD false
  let tfl := (if nosync then 1 else 0) + (if miss then 2 else 0)
  let credit := s.lpOn p && decide ((s.lp p).frames.length < 2)
  let s := s.noteFs p nosync miss credit tfl
  if credit then s.takeFrame p now stamp round tfl
  else (s.count CAM_CNT_FRM_DROP 1 p).camEvent p 0 4 tfl

/-- An FS of the pixel stream opens a frame (R164, R172, R201): SKIP until it has its credit. -/
def State.openCam (s : State) (p : Nat) : State :=
  let now := s.rnd.clk
  let s := ((s.setFld CAM_STATUS_STATE 3 p).takeCentres p).modCamPort p (fun c => { c with once := [], wide := 0, lines := 0, last := now })
  (s.matchEdge p 5).1.openWith p now (s.matchEdge p 5).2

/-- The port receives packets. -/
def State.camListens (s : State) (p : Nat) : Bool := decide (s.live CAM_PHY_EN p = 1) && !s.camDropped p

/-- A packet's header is checked (R163): `hdr` 0 good, 1 corrected, 2 uncorrectable. -/
def State.noteHeader (s : State) (p hdr : Nat) : State :=
  if hdr = 2 then
    let s := (s.count CAM_CNT_PKT_HDRERR 1 p).flagFrame p 7
    s.camEvent p 1 3 (s.openFlags p)
  else if hdr = 1 then s.count CAM_CNT_PKT_HDRCOR 1 p else s

/-- An FS of the pixel stream: the frame still open closes, the sets that waited for that take effect, a frame opens. -/
def State.startFrame (s : State) (p vc : Nat) (ecc : Bool) : State :=
  let s := if s.camOpen p then s.closeFrame p false else s
  let s := s.camSafePoint p ecc
  if ¬ s.camListens p ∨ s.live CAM_STREAM_VC p ≠ vc then s else s.openCam p

/-- FRAME_START (R164): an FS on virtual channel `vc`; `hdr` as in `noteHeader`, `ecc` as in STAGED_SET_APPLY. -/
def State.frameStart (s : State) (p vc hdr : Nat) (ecc : Bool) : State :=
  let s := s.camSafePoint p ecc
  if ¬ s.camListens p then s
  else
    let s := s.noteHeader p hdr
    if hdr = 2 ∨ s.live CAM_STREAM_VC p ≠ vc then s else s.startFrame p vc ecc
def execFrameStart (p : Nat) (vc : FsPacket) (s : State) : Out := onUnit p 6 (.next (s.frameStart p vc.vc vc.hdr vc.ecc))

/-- FRAME_END (R165): an FE on virtual channel `vc`. -/
def State.frameEnd (s : State) (p vc hdr : Nat) : State :=
  if ¬ s.camListens p then s
  else
    let s := s.noteHeader p hdr
    if hdr ≠ 2 ∧ s.camOpen p ∧ s.live CAM_STREAM_VC p = vc then s.closeFrame p true else s
def execFrameEnd (p : Nat) (vc : FePacket) (s : State) : Out := onUnit p 6 (.next (s.frameEnd p vc.vc vc.hdr))

/-- FRAME_END_TIMEOUT (R165). -/
def execFrameEndTimeout (p : Nat) (s : State) : Out :=
  onUnit p 6 (.next (if s.camOpen p && decide (250000 * s.live CAM_STREAM_FETMO p ≤ s.rnd.clk - (s.camPort p).last) then s.closeFrame p false else s))

/-! ### Long packets (R162, R163, R166 to R168) -/

/-- Bits of a sample of a data type (Table 7.1). -/
def dtBits (dt : Nat) : Nat := 2 * dt - 0x4C

/-- A payload CRC failed on a line of the frame. -/
def State.crcLine (s : State) (p : Nat) : State :=
  let s := (s.count CAM_CNT_LINE_CRCERR 1 p).modOpen p (fun f => { f with errlines := min (f.errlines + 1) 65535 })
  let s := s.flagFrame p 3
  s.camEvent p 2 3 (s.openFlags p)

/-- A line of the pixel stream while a frame is open. -/
def State.pixelLine (s : State) (p : Nat) (crcOk full : Bool) (data : List Nat) : State :=
  let i := (s.camPort p).lines
  let now := s.rnd.clk
  let s := s.modCamPort p (fun c => { c with lines := c.lines + 1, wide := max c.wide data.length, last := now })
  let s := if crcOk then s else s.crcLine p
  match s.openFrame p with
  | none => s
  | some f =>
    if i < f.y0 ∨ f.y0 + f.h ≤ i then s
    else if full then
      let s := (s.count CAM_CNT_LINE_LINEDROP 1 p).flagFrame p 5
      s.camEvent p 3 4 (s.openFlags p)
    else
      let short := decide (data.length < f.x0 + f.w)
      let s := if short && crcOk then s.count CAM_CNT_LINE_CRCERR 1 p else s
      let pad := data.getLastD ((Config.freeWord s.free).toNat)
      let u := 2 ^ (16 - dtBits f.dt)
      let row := (List.range f.w).map (fun x => data.getD (f.x0 + x) pad * u % 65536)
      (s.modOpen p (fun f => { f with rows := f.rows ++ [(i - f.y0, row)], lastAt := now })).draw

/-- A line of the embedded stream while a frame is open. -/
def State.embeddedLine (s : State) (p : Nat) (crcOk : Bool) (data : List Nat) : State :=
  let now := s.rnd.clk
  let s := s.modCamPort p (fun c => { c with last := now })
  let s := if crcOk then s else s.crcLine p
  match s.openFrame p with
  | none => s
  | some f =>
    let keep := decide (f.emb.length < s.live CAM_STREAM_EMBMAX p)
    let s := if !keep || decide (4096 < data.length) then s.flagFrame p 8 else s
    if keep then s.modOpen p (fun f => { f with emb := f.emb ++ [data.take 4096], embLen := max f.embLen (min data.length 4096) }) else s

/-- LONG_PACKET_RX: a long packet of data type `dt` on channel `vc`; `hdr` as in `noteHeader`; whether its payload CRC holds and
whether both line buffers are full; its pixels, or the bytes of an embedded line. -/
def State.longPacket (s : State) (p vc dt hdr : Nat) (crcOk full : Bool) (data : List Nat) : State :=
  if ¬ s.camListens p then s
  else if hdr = 2 then s.noteHeader p hdr
  else
    let s := s.noteHeader p hdr
    let pixVc := decide (vc = s.live CAM_STREAM_VC p)
    let embVc := decide (s.live CAM_STREAM_EMBEN p = 1 ∧ vc = s.live CAM_STREAM_EMBVC p)
    if dt = 0x10 ∨ dt = 0x11 then s
    else if pixVc && decide (dt = s.live CAM_STREAM_DT p) then
      if s.camOpen p then s.pixelLine p crcOk full data else s.count CAM_CNT_MISC_ORPHAN 1 p
    else if embVc && decide (dt = 0x12) then
      if s.camOpen p then s.embeddedLine p crcOk data else s
    else if pixVc || embVc then (s.count CAM_CNT_MISC_DT_UNSUP 1 p).camEvent p 10 2 (s.openFlags p)
    else s
def execLongPacketRx (p vc dt hdr : Nat) (crcOk full : Bool) (data : List Nat) (s : State) : Out :=
  onUnit p 6 (.next (s.longPacket p vc dt hdr crcOk full data))

/-- A camera port is lost (R181, R449): the frame in flight is lost and its pulse ends. -/
def State.loseCam (s : State) (p : Nat) : State :=
  let act := s.fld CAM_FSSTAT_ACTIVE
  let s := s.setFld CAM_FSSTAT_ACTIVE (if act.testBit p then act - 2 ^ p else act)
  let s := s.modLp p (fun l => { l with frames := l.frames.filter (·.closed) })
  ((s.modCamPort p (fun _ => {})).setFld CAM_STATUS_STATE 0 p).noteLp p

end Sys2Proof.Machine
end

