-- ==== Sys2Proof/Machine/Pattern.lean ====
section
/-! DEFINITION. Machine/Pattern.lean: admission (R55 to R62), activation, replacement and deactivation (R63 to R65), firing and the run
of instances (R66 to R68), re-admission after a fence (R69 to R73). -/

namespace Sys2Proof.Machine
open Sys2Proof Sys2Proof.Machine.Reg

/-! ### What the checker sees of the device -/

/-- A camera is lost when its port or its live pipeline is DROPPED (R452). -/
def State.cameraLost (s : State) (p : Nat) : Bool := s.camDropped p || s.lpDropped p
def State.framerDropped (s : State) : Bool := s.flag PWR_DROP_UNIT_WFM

/-- The unit of an event entry can serve it. -/
def State.eventOk (s : State) (j : Job) : Bool :=
  if j.kind = 3 then !s.framerDropped
  else if j.kind = 4 then (bitsOf j.target 6).all (fun p => !(s.cameraLost p))
  else true

/-- A solver slot with a set in force; a re-process context that is enabled. -/
def State.solConfigured (s : State) (t : Nat) : Bool := s.slotOn (t / 32) (t % 32)
def State.rpConfigured (s : State) (t : Nat) : Bool := decide (s.live ISP_RPCCTRL_EN (t / 16) (t % 16) = 1)

/-- A node of a stream that has gone: a core, an engine, or the hub as the Framer's node (R452, Table 20.2). -/
def State.nodeLost (s : State) (n : Nat) : Bool :=
  if n < 32 then s.coreDropped n else if n < 34 then s.engineDropped (n - 32) else decide (n = 34) && s.framerDropped

/-- The markers an entry names through what it starts: the emission of a FRAME entry, the slot of a SOLVE entry, the deliveries of a
REPROC entry's context, those of the live pipelines whose frames an FSYNC entry starts. A CORE entry names those its instances have had an operation
on since the activation (DEDUCED, log entry 91). -/
def State.markersOf (s : State) (j : Job) : List Nat :=
  if j.kind = 2 then
    let k := j.target / 32
    let i := j.target % 32
    if s.live SOL_SLOTCFG_MRKEN k i = 1 then [s.live SOL_SLOTDST_MRK k i] else []
  else if j.kind = 3 then (if s.live WFM_EMCFG_MRKEN j.target = 1 then [s.live WFM_EMCFG_MRK j.target] else [])
  else if j.kind = 5 then
    let pb := (s.rp (j.target / 16)).pbs.getD (j.target % 16) []
    ((List.range 4).map (fun d => fieldLE pb (0x100 + 16 * d) 4)).filterMap (fun w =>
      if w.testBit 0 ∧ w.testBit 3 then some (nbits w 16 8) else none)
  else if j.kind = 4 then
    (bitsOf j.target 6).flatMap (fun p => (List.range 6).filterMap (fun k =>
      if s.live CAM_DLVCFG_EN p k = 1 ∧ s.live CAM_DLVCFG_MRKEN p k = 1 then some (s.live CAM_DLVCFG_MRK p k) else none))
  else []

/-- Entry `i` names a marker of a die that is lost (R25). -/
def State.namesLost (s : State) (i : Nat) (j : Job) : Bool :=
  s.pat.named.any (fun q => decide (q.1 = i) && s.dieDropped q.2) || (s.markersOf j).any (fun k => s.dieDropped (markerDie k))

/-- The node has been DROPPED since the Pattern was in force: its streams have lost their reservations, and a revive gives them none back (R452,
R455). -/
def State.nodeGone (s : State) (n : Nat) : Bool :=
  s.nodeLost n || s.pat.gone.contains (if n < 34 then resUnit n else 0x900)

/-- The streams of an image that hold a reservation. -/
def State.heldStreams (s : State) (im : Image) (shed : List Nat) : List (Nat × Stream) :=
  (im.liveStreams shed).filter (fun p => !(s.nodeGone p.2.src) && !(s.nodeGone p.2.dst))

/-- What steps 2 to 5 see; only a re-admission takes streams with a DROPPED endpoint out (R452), units that a revive has brought back (R455), and
jobs that name a lost marker (R25). -/
def State.admCtx (s : State) (again : Bool) : AdmCtx :=
  { hi := s.liveN RND_BAND_HI, pct := s.fld PAT_LPDDR_PCT, dropped := fun r => s.resDropped r || (again && s.resGone r), slotOk := s.solConfigured, ctxOk := s.rpConfigured,
    eventOk := s.eventOk, xq := Config.gradeXQ, retired := fun l => decide (s.fld PURL_STAT_STATE l = 3),
    lost := fun n => again && s.nodeGone n, marker := fun i j => again && s.namesLost i j }

/-- The band in force. -/
def State.bandNow (s : State) : Nat × Nat := (s.liveN RND_BAND_LO, s.liveN RND_BAND_HI)

/-! ### Admission (R55 to R62) -/

/-- What PAT_ADM_RESULT, WIN, RES and EXCESS show. -/
def State.putReport (s : State) (r : AdmReport) : State :=
  let s := s.setRegN PAT_ADM_RESULT (r.code + 2 ^ 8 * r.step + (if r.carry then 2 ^ 11 else 0) + 2 ^ 16 * (r.job % 2048))
  let s := s.setRegN PAT_ADM_WIN (r.a % 2 ^ 14 + 2 ^ 16 * (r.b % 2 ^ 14))
  let s := s.setRegN PAT_ADM_RES (r.res % 256 + 2 ^ 16 * (r.stream % 512))
  s.setRegN PAT_ADM_EXCESS r.excess
def State.admWords (s : State) : List Nat :=
  [s.regN PAT_ADM_RESULT, s.regN PAT_ADM_WIN, s.regN PAT_ADM_RES, s.regN PAT_ADM_EXCESS]

/-- Bind-off has begun: admission is frozen (Table 19.4). -/
def State.frozenAdm (s : State) : Bool := decide (s.fld PWR_BOSTAT_STAGE ≠ 0)

/-- The checker runs, or is frozen. -/
def State.admitting (s : State) : Bool := s.pat.img.isSome || s.pat.readm.isSome || s.frozenAdm

/-- What ADM_STATE shows: a re-admission hides the admission's state, which shows again after it. -/
def State.noteAdm (s : State) : State :=
  let st := if s.pat.readm.isSome then 4 else if s.pat.img.isSome then 1 else if s.pat.admitted.isSome then 2
    else if s.fld PAT_ADM_RESULT_CODE ≠ 0 then 3 else 0
  s.setFld PAT_STATUS_ADM_STATE st

/-- ADMIT (R55): the image is copied and the checker starts, or the request is refused with ADM_BUSY. Answers whether it started. -/
def State.startAdmission (s : State) : State × Bool :=
  if s.admitting then ((s.putReport { code := 0x0D }).patEvent 1, false)
  else
    let at_ := 64 * s.fld PAT_IMG_BASE_BASE
    let len := s.fld PAT_IMG_LEN_LEN
    let bs := s.hubBytes at_ (min len 73793)
    (((s.setFld PAT_CTRL_ADMIT 1).modPat (fun p => { p with img := some bs, imgAt := at_, imgLen := len, touched := false })).noteAdm, true)

/-- A waiting activation is withdrawn (R63); the command that waits for it ends with ST_CMD_CANCELLED. -/
def State.withdraw (s : State) : State :=
  let s := ((s.setFld PAT_CTRL_ACTIVATE 0).setFld PAT_STATUS_ACT_WAIT 0).modPat (fun p => { p with act := none })
  s.settle (fun _ w => match w with
    | .activate => some (6, [])
    | _ => none)

/-- The checker's verdict on an image (R56, R64). -/
def State.verdict (s : State) (bs : List Nat) : AdmReport ⊕ Image :=
  match step1 bs s.pat.imgLen (s.fld PAT_LPDDR_PCT) with
  | .inl r => .inl r
  | .inr im =>
    let carry := fun r => match s.pat.active with
      | some old => if s.flag PAT_STATUS_ACTIVE then old.carryIn s.pat.shed r else []
      | none => []
    match steps25 (s.admCtx false) im [] carry with
    | some r => .inl r
    | none => .inr im

/-- The admission ends PASSED or REFUSED. An image whose memory changed meanwhile has an open result (R55): a free choice whether the copy
passes, if it could, and a free code otherwise. Where an activation waits, a refusal withdraws it and a pass replaces the Pattern that will become
active (DESIGN CHOICE, log entry 89). -/
def State.endAdmission (s : State) (bs : List Nat) : State :=
  let v := s.verdict bs
  let open_ := s.pat.touched
  let ok := match v with
    | .inl _ => false
    | .inr _ => !open_ || Config.freeBool s.free
  let rep : AdmReport := match v with
    | .inl r => r
    | .inr _ => { code := 0 }
  let rep : AdmReport := if open_ && !ok then
      let w := (Config.freeWord s.free).toNat
      { code := 1 + w % 11, step := 1 + w / 16 % 5, carry := Config.freeBool (s.free + 1), job := w / 256, a := w / 2 ^ 10, b := w / 2 ^ 18,
        res := w / 2 ^ 20, stream := w / 2 ^ 22, excess := (Config.freeWord (s.free + 1)).toNat }
    else rep
  let s := if open_ then s.draw.draw else s
  let adm : Option (Image × Nat × Nat) := match v with
    | .inr im => if ok then some (im, s.bandNow.1, s.bandNow.2) else none
    | .inl _ => none
  let s := (s.putReport (if ok then { code := 0 } else rep)).modPat (fun p => { p with img := none, touched := false, admitted := adm })
  let s := ((s.setFld PAT_CTRL_ADMIT 0).noteAdm).patEvent (if ok then 0 else 1)
  let s := if s.pat.act.isSome && !ok then s.withdraw else s
  s.settle (fun s w => match w with
    | .admission => some (if ok then 0 else 0x0100 + s.fld PAT_ADM_RESULT_CODE, s.admWords)
    | _ => none)

/-- ADMISSION_DONE (R62). -/
def execAdmissionDone (s : State) : Out :=
  match s.pat.img with
  | some bs => .next (if s.frozenAdm then s else s.endAdmission bs)
  | none => .next s

/-! ### Activation and deactivation (R63 to R65) -/

/-- ACTIVATE after PASSED: the request waits. Answers whether there is a Pattern to activate. -/
def State.activate (s : State) : State × Bool :=
  if s.pat.admitted.isNone then (s.setFld PAT_CTRL_ACTIVATE 0, false)
  else
    let a := s.pat.act.getD s.absStitch
    let first := if s.pat.act.isSome then s.pat.deactFirst else s.pat.deact
    (((s.setFld PAT_CTRL_ACTIVATE 1).setFld PAT_STATUS_ACT_WAIT 1).modPat (fun p => { p with act := some a, deactFirst := first }), true)

/-- CANCEL (R63). -/
def State.cancelAct (s : State) : State := if s.pat.act.isSome then s.withdraw else s

/-- DEACTIVATE is requested (R65). -/
def State.deactivate (s : State) : State := (s.setFld PAT_CTRL_DEACTIVATE 1).modPat (fun p => { p with deact := true })

def State.actCnt (s : State) : Nat := s.regN PAT_ACT_CNT_LO + 2 ^ 32 * s.fld PAT_ACT_CNT_HI_RND
def State.patLen (s : State) : Nat := s.fld PAT_STATUS_LEN + 1

/-- RIDX of this round (R63). -/
def State.ridx (s : State) : Nat := (s.count48 + 2 ^ 48 - s.actCnt) % 2 ^ 48 % s.patLen
def State.noteRidx (s : State) : State := if s.flag PAT_STATUS_ACTIVE then s.setFld PAT_STATUS_RIDX s.ridx else s

/-- This stitch 0 meets the conditions of R63. -/
def State.actEligible (s : State) (a : Nat) : Bool :=
  let least := s.regN PAT_ACT_ROUND_LO + 2 ^ 32 * s.fld PAT_ACT_ROUND_HI_RND
  decide (a + 16 ≤ s.absStitch) && (decide (least = 0) || decide (least ≤ s.count48))
    && (!(s.flag PAT_STATUS_ACTIVE) || decide (s.ridx = 0)) && decide (s.rstate = stLocked)

/-- The unit codes of the cores, engines, re-process pipelines and the Framer that are DROPPED now. -/
def State.goneNow (s : State) : List Nat :=
  ((List.range 36).filter s.resDropped).map resUnit ++ (if s.framerDropped then [0x900] else [])

/-- The admitted Pattern becomes active. One that is draining keeps its floors and reservations until the last instance it has fired ends (R65). -/
def State.nowActive (s : State) (im : Image) : State :=
  let c := s.count48
  let s := match s.pat.active with
    | some old =>
      if s.pat.draining then
        let d : OldPat := { gen := s.pat.gen, im := old, shed := s.pat.shed, floors := s.pat.floors, cnt := s.actCnt }
        s.modPat (fun p => { p with drains := p.drains ++ [d] })
      else s
    | none => s
  let s := (s.setRegN PAT_ACT_CNT_LO c).setFld PAT_ACT_CNT_HI_RND (c / 2 ^ 32)
  let s := ((s.setFld PAT_STATUS_ACTIVE 1).setFld PAT_STATUS_LEN (im.rounds - 1)).setFld PAT_STATUS_RIDX 0
  let s := ((s.setFld PAT_STATUS_DEGRADED 0).setFld PAT_STATUS_ACT_WAIT 0).setRegN PAT_SHED 0
  let s := (List.range 32).foldl (fun s n => s.setFloor n (im.floors.getD n 0)) s
  let s := (s.setFld MESH_STATUS_RSVACT 1).setFld PAT_CTRL_ACTIVATE 0
  let s := s.modPat (fun p => { p with
    act := none, active := some im, shed := [], draining := false, readm := none, result := none, gen := p.gen + 1, named := [],
    gone := s.goneNow })
  let s := (s.noteAdm).patEvent 2
  s.settle (fun s w => match w with
    | .activate => some (0, [s.regN PAT_ACT_CNT_LO, s.regN PAT_ACT_CNT_HI])
    | _ => none)

/-- The activation that waits, at a stitch 0: the Pattern becomes active, or is refused with ADM_BAND (R63). -/
def State.tryActivate (s : State) : State :=
  match s.pat.act, s.pat.admitted with
  | some a, some (im, lo, hi) =>
    if ¬ s.actEligible a then s
    else if s.bandNow = (lo, hi) then s.nowActive im
    else
      let s := (s.putReport { code := 0x0C }).modPat (fun p => { p with admitted := none, act := none })
      let s := ((s.setFld PAT_CTRL_ACTIVATE 0).setFld PAT_STATUS_ACT_WAIT 0).noteAdm
      (s.patEvent 1).settle (fun _ w => match w with
        | .activate => some (0x010C, [])
        | _ => none)
  | _, _ => s

/-- A deactivation that waits, at a stitch 0: firing stops (R65). -/
def State.tryDeactivate (s : State) : State :=
  if ¬ s.pat.deact then s
  else
    let was := s.flag PAT_STATUS_ACTIVE
    let s := ((s.setFld PAT_CTRL_DEACTIVATE 0).setFld PAT_STATUS_ACTIVE 0).modPat (fun p => { p with
      deact := false, draining := true, readm := none, result := none })
    let s := s.noteAdm
    let s := if was then s.patEvent 3 else s
    let s := s.settle (fun _ w => match w with
      | .deactivate false => some (0, [])
      | _ => none)
    s.releasePattern

/-- It is the first tick of a stitch 0 whose work has not been done. -/
def State.atRound (s : State) : Bool := s.rnd.stitchDue && decide (s.stitch = 0)

/-- Deactivation and activation at stitch 0, in the order written (R65). -/
def State.patRound (s : State) : State :=
  let s := if s.pat.deactFirst then s.tryDeactivate.tryActivate else s.tryActivate.tryDeactivate
  (s.modPat (fun p => { p with deactFirst := false })).noteRidx

/-- PATTERN_ACTIVATION (R63). -/
def execPatternActivation (s : State) : Out :=
  if s.atRound then .next (if s.pat.deactFirst then s.tryDeactivate.tryActivate else s.tryActivate) else .next s

/-- PATTERN_DEACTIVATION (R65). -/
def execPatternDeactivation (s : State) : Out :=
  if s.atRound then .next (if s.pat.deactFirst then s.tryDeactivate else s.tryActivate.tryDeactivate) else .next s

/-! ### Firing (R66, R71, R451, R460, R462) -/

/-- Pattern stitch of now. -/
def State.patStitch (s : State) : Nat := s.ridx * 1024 + s.stitch

/-- An instance that is not fired is counted as SKIPPED and recorded (R67, R71). -/
def State.skipJob (s : State) (i : Nat) (j : Job) : State :=
  (s.count PAT_LATECNT_SKIP).patReport 6 4 ((j.resources.head?).getD 0) i j.group

/-- The die of a resource; pipelines lie on the hub die. -/
def resDie (r : Nat) : Option Nat := if r < 32 then some (r / 16) else if r < 34 then some (r - 32) else none

/-- The working sensor a core uses (R461, R464): its own, or the hottest working one of its die; none when the die has none. -/
def State.tempOf (s : State) (k : Nat) : Int := sInt 16 (s.fld TMP_TEMP k)
def hottest (s : State) (l : List Nat) : Option Nat :=
  (l.filter (fun k => !(s.sensorBad k))).foldl (fun b k => match b with
    | none => some k
    | some q => if s.tempOf q < s.tempOf k then some k else some q) none
def State.coreSensor (s : State) (n : Nat) : Option Nat :=
  let d := coreDie n
  if s.sensorBad (coreX n) then hottest s [4 * d, 4 * d + 1, 4 * d + 2, 4 * d + 3] else some (coreX n)
def State.coreTemp (s : State) (n : Nat) : Int := ((s.coreSensor n).map s.tempOf).getD (32767 : Int)

/-- A stream of the active Pattern has core `n` as SRC or DST. -/
def State.streamsAt (s : State) (n : Nat) : Bool :=
  match s.pat.active with
  | some im => s.flag PAT_STATUS_ACTIVE && (im.liveStreams s.pat.shed).any (fun p => decide (p.2.src = n ∨ p.2.dst = n))
  | none => false

/-- Thermal placement of a best-effort CORE instance on another core (R460). -/
def State.placeOn (s : State) (n : Nat) : Option Nat :=
  let hot : Bool := match s.coreSensor n with
    | some k => decide ((s.hlth.pair.1 : Int) * 16 < s.tempOf k)
    | none => false
  if s.live PWR_HCFG_PLACE_EN = 1 ∧ hot then
    let l := (List.range 32).filter (fun m =>
      (s.liveN PWR_PLACEMASK).testBit m && decide (s.cstate m = cIdle) && !(s.namesCore m) && !(s.streamsAt m) && !(s.coreDropped m)
        && !(s.resGone m)
        && (s.running m).isNone && (s.nextFor m).isNone && decide (s.coreTemp m + 80 ≤ s.coreTemp n))
    l.foldl (fun b m => match b with
      | none => some m
      | some q => if s.coreTemp m < s.coreTemp q then some m else some q) none
  else none

/-- Entry `i` cannot fire: an earlier instance of it is still there, a resource is DROPPED, or a die at CRIT takes no best-effort work. -/
def State.mustSkip (s : State) (i : Nat) (j : Job) : Bool :=
  s.pat.insts.any (fun x => decide (x.job = i ∧ x.gen = s.pat.gen)) || j.resources.any (fun r => s.resDropped r || s.resGone r) || !(s.eventOk j)
    || (!j.dl && j.resources.any (fun r => match resDie r with
      | some d => s.dieCrit d
      | none => false))

/-- Entry `i` fires. -/
def State.fireJob (s : State) (i : Nat) (j : Job) : State :=
  if s.mustSkip i j then s.skipJob i j
  else if j.kind = 3 then s.fireEmission j.target
  else if j.kind = 4 then s.fireFsync j.target j.entry false
  else
    let moved := if j.kind = 0 ∧ ¬ j.dl then s.placeOn j.target else none
    let res := match moved with
      | some m => [m]
      | none => j.resources
    let a := s.absStitch
    let x : Inst := { id := s.pat.nextId, job := i, kind := j.kind, group := j.group, arg := j.arg, entry := j.entry, target := j.target,
                      spare := j.spare, start := a, deadline := a + j.window (1024 * s.patLen), wcet := j.wcet, dl := j.dl, drop := j.drop,
                      rst := j.rst, gen := s.pat.gen, parts := res.map (fun r => { res := r }) }
    let s := s.modPat (fun p => { p with insts := p.insts ++ [x], nextId := p.nextId + 1 })
    match moved with
    | some m => s.report PWR_EVENT.base PWR_INT_EN.base 7 7 0x0E07 j.target 1 (j.target + 2 ^ 8 * m + 2 ^ 16 * i)
    | none => s

/-- Firing goes on: a Pattern is active, and bind-off has not stopped it (Table 19.4). -/
def State.firing (s : State) : Bool := s.flag PAT_STATUS_ACTIVE && !s.boot.halted

/-- The scheduler fires the instances of this stitch in job-table order (R66), and the engines latch their pages (R302). -/
def State.firePattern (s : State) : State :=
  match s.pat.active with
  | some im =>
    if s.firing then
      let p := s.patStitch
      let due := (im.live s.pat.shed).filter (fun q => decide (q.2.start = p))
      let s := due.foldl (fun s q => s.fireJob q.1 q.2) s
      (s.latchFired 0).latchFired 1
    else s
  | none => s

/-! ### Dispatch (R66, R252) -/

/-- Core `n` starts the instance that is to run next on it, if it is IDLE. -/
def State.nextJob (s : State) (n : Nat) : State :=
  if s.cstate n ≠ cIdle ∨ (s.running n).isSome ∨ s.coreDropped n then s
  else
    match s.nextFor n with
    | some x =>
      let s := s.markRunning x.id n
      s.startJob n 1 x.entry x.arg x.job x.group x.start (if x.dl then x.deadline else 2 ^ 32 - 1) (some x.id)
    | none => s

/-- INSTANCE_DISPATCH (R66): a resource (0–31 cores, 32–33 engines, 34–35 re-process pipelines) takes its next instance. -/
def execInstanceDispatch (r : UnitStart) (s : State) : Out :=
  onUnit r.unit 36 <|
    if s.boot.halted then .next s
    else if r.unit < 32 then .next (s.nextJob r.unit) else if r.unit < 34 then .next (s.nextSolve (r.unit - 32))
    else .next (s.nextRp (r.unit - 34) r.ecc)

/-! ### LATE and OVERRUN (R67, R68) -/

/-- The part of instance `x` on resource `r` is aborted: where it runs, by its unit; where it is queued, it leaves the queue. -/
def State.abortPart (s : State) (x : Inst) (p : Part) : State :=
  if p.st = 1 then
    if p.res < 32 then s.abortJob p.res else if p.res < 34 then s.abortSolve (p.res - 32) else s.abortRp (p.res - 34)
  else if p.st = 0 then
    let s := if p.res = 32 ∨ p.res = 33 then s.abortLatch (p.res - 32) (x.target % 32) x.id else s
    s.endPart x.id p.res (if x.kind = 2 then 5 else 4) 0 0
  else s

/-- Instance `id` is aborted under DROP or R68. -/
def State.abortInst (s : State) (id : Nat) : State :=
  match s.inst? id with
  | none => s
  | some x => x.parts.foldl (fun s p => s.abortPart x p) s.countAbort

/-- The DEADLINE stitch of instance `x` has begun and it has not completed: LATE, once, and aborted under DROP. -/
def State.expire (s : State) (x : Inst) : State :=
  if x.late || !(s.isLate x) then s
  else
    let s := s.noteLate x.id
    if x.drop then s.abortInst x.id else s

/-- DEADLINE_EXPIRY (R67): every incomplete deadline instance whose DEADLINE stitch has begun. -/
def execDeadlineExpiry (s : State) : Out := .next (s.pat.insts.foldl (fun s x => s.expire x) s)

/-- The running instance of resource `r` has exceeded its WCET: cycles of the core, or of the 800 MHz and 600 MHz clocks since its start. -/
def State.wcetPassed (s : State) (r : Nat) (x : Inst) : Bool :=
  if r < 32 then decide (x.wcet < (s.core r).cyc)
  else if r < 34 then
    match (s.engine (r - 32)).run with
    | some v => decide (x.wcet * 5 < (s.rnd.clk - v.startAt) * 16)
    | none => false
  else
    match (s.rp (r - 34)).run with
    | some v => decide (x.wcet * 5 < (s.rnd.clk - v.startAt) * 12)
    | none => false

/-- A kicked solve that runs on resource `r` has exceeded its bound, which is its WCET: it is best-effort and is aborted (R68, R317, R318). -/
def State.overrunKick (s : State) (r : Nat) : State :=
  match (s.engine (r - 32)).run with
  | some v =>
    if r < 32 ∨ 34 ≤ r ∨ v.latch.inst.isSome ∨ (s.rnd.clk - v.startAt) * 16 ≤ s.slotW false (r - 32) v.slot * 5 then s
    else (((s.count PAT_OVRCNT_OVERRUN).patReport 5 5 r hostJob hostGroup).abortSolve (r - 32)).countAbort
  | none => s

/-- OVERRUN, once for each instance; a best-effort instance is aborted (R68). -/
def State.overrunOn (s : State) (r : Nat) : State :=
  match s.running r with
  | none => s.overrunKick r
  | some x =>
    if x.overrun || !(s.wcetPassed r x) then s
    else
      let s := (s.modInst x.id (fun i => { i with overrun := true })).count PAT_OVRCNT_OVERRUN
      let s := s.patReport 5 5 r x.job x.group
      if x.dl then s else s.abortInst x.id

/-- WCET_OVERRUN (R68). -/
def execWcetOverrun (r : Nat) (s : State) : Out := onUnit r 36 (.next (s.overrunOn r))

/-! ### Re-admission (R69 to R73, R452) -/

/-- The active Pattern names the unit of R363's kind and index in one of the ways of R452. A compute die is named through its cores and its
engine; a link through the route of a stream; a sense port and the transmitter never. -/
def State.namesUnit (s : State) (kind idx : Nat) : Bool :=
  match s.pat.active with
  | none => false
  | some im =>
    let js := s.liveJobs
    let ss := (im.liveStreams s.pat.shed).map Prod.snd
    let res := fun r => js.any (fun j => j.resources.contains r || decide (j.spareRes = some r))
    let ends := fun n => ss.any (fun t => decide (t.src = n ∨ t.dst = n))
    let named := match kind with
      | 0 => res idx || ends idx
      | 1 => res (32 + idx) || ends (32 + idx)
      | 2 => js.any (fun j => decide (j.kind = 4) && j.target.testBit idx)
      | 3 => res (34 + idx)
      | 5 => (List.range 16).any (fun n => res (16 * idx + n) || ends (16 * idx + n)) || res (32 + idx) || ends (32 + idx)
          || (im.live s.pat.shed).any (fun p => s.namesLost p.1 p.2)
      | 6 => ss.any (fun t =>
          let was := fun l => decide (s.fld PURL_STAT_STATE l = 3) && decide (l ≠ idx)
          (route was t.src t.dst).any (fun l => decide (l = purlLink idx ∨ l = purlLink idx + (if idx < 4 then 33 else 1))))
      | 7 => js.any (fun j => decide (j.kind = 4) && j.target.testBit idx)
      | 9 => js.any (fun j => decide (j.kind = 3)) || ends 34
      | _ => false
    s.flag PAT_STATUS_ACTIVE && named

/-- A fence of a unit that the Pattern names starts a re-admission, or starts it again with every unit excluded (R73). -/
def State.startReadmit (s : State) (kind idx cause : Nat) : State :=
  if s.namesUnit kind idx && decide (s.fld PWR_BOSTAT_STAGE = 0) then
    let u := 256 * kind + idx
    (s.modPat (fun p => { p with
      readm := some { excluded := ((p.readm.map (·.excluded)).getD []) ++ [u], code := cause, unit := u }, result := none })).noteAdm
  else s

/-- The record source of a re-admission (Table 18.2: a resource, coded as PAT_ADM_RES.RES); the spec gives ports, cameras, the Framer and the
dies no such code. -/
def unitSrc (u : Nat) : Option Nat :=
  match u / 256 with
  | 0 => some (u % 256)
  | 1 => some (32 + u % 256)
  | 3 => some (34 + u % 256)
  | 6 => some (purlLink (u % 256))
  | _ => none

/-- READMISSION_DONE (R69, R70): the Pattern is remapped and tested, and groups are shed until it passes. -/
def execReadmissionDone (s : State) : Out :=
  match s.pat.readm, s.pat.active with
  | some _, some im =>
    if s.pat.result.isSome ∨ s.frozenAdm then .next s
    else
      let c := s.admCtx true
      let (im', shed) := remap c im s.pat.shed
      let shed := depClose im' im'.jobs.length shed
      let first := groupsOf im' (shed.filter (fun i => !(s.pat.shed.contains i)))
      let (shed', gs) := shedLoop c im' (im'.jobs.length + 1) shed []
      .next (s.modPat (fun p => { p with result := some (im', shed', (first ++ gs).eraseDups) }))
  | _, _ => .next s

/-- Entries on core `n` that are not shed. -/
def Image.onCore (im : Image) (shed : List Nat) (n : Nat) : List Nat :=
  ((im.live shed).filter (fun p => decide (p.2.kind = 0 ∨ p.2.kind = 1) && p.2.resources.contains n)).map Prod.fst

/-- The floors after a re-admission: a spare inherits (R69), and a core all of whose entries were shed is released. -/
def State.readmitFloors (s : State) (old im : Image) (was shed : List Nat) : State :=
  (List.range 32).foldl (fun s n =>
    let held := !(im.onCore shed n).isEmpty
    let gone := !(old.onCore was n).isEmpty && (old.onCore was n).all (fun i => shed.contains i)
    if !held && gone then s.setFloor n 0
    else if held && decide (old.floors.getD n 0 < im.floors.getD n 0) then s.setFloor n (max (s.ownFloor n) (im.floors.getD n 0))
    else s) s

/-- Shed groups, four to a DATA word, 0xFFFF unused (Table 18.4). -/
def groupWords : List Nat → List Nat
  | [] => []
  | [a] => [a + 2 ^ 16 * 0xFFFF + 2 ^ 32 * 0xFFFF + 2 ^ 48 * 0xFFFF]
  | [a, b] => [a + 2 ^ 16 * b + 2 ^ 32 * 0xFFFF + 2 ^ 48 * 0xFFFF]
  | [a, b, c] => [a + 2 ^ 16 * b + 2 ^ 32 * c + 2 ^ 48 * 0xFFFF]
  | a :: b :: c :: d :: t => (a + 2 ^ 16 * b + 2 ^ 32 * c + 2 ^ 48 * d) :: groupWords t

/-- A re-admission's result takes effect (R71, R453). -/
def State.applyReadmit (s : State) : State :=
  match s.pat.readm, s.pat.active, s.pat.result with
  | some q, some old, some (im, shed, gs) =>
    let n := shed.length - s.pat.shed.length
    let s := s.readmitFloors old im s.pat.shed shed
    let s := s.modPat (fun p => { p with active := some im, shed := shed, readm := none, result := none })
    let s := (s.setFld PAT_SHED_ENTRIES shed.length).count PAT_SHED_READMITS
    let s := (if shed.isEmpty then s else s.setFld PAT_STATUS_DEGRADED 1).noteAdm
    let src := (unitSrc q.unit).getD (Config.freeWord s.free).toNat % 256
    let s := s.draw
    let s := (s.patEvent 7).journal 0x0207 src 6 (((groupWords gs).head?).getD (2 ^ 64 - 1))
    let s := if gs.isEmpty then s else (s.patEvent 8).journalParts 0x0208 src 6 (groupWords gs)
    s.health (if gs.isEmpty then 0x1001 else 0x1002) q.unit 0x07FF 0xFFFF ((gs.head?).getD 0xFFFF) n q.code
  | _, _, _ => s

/-- READMISSION_EFFECT (R71): at the first tick of a stitch. -/
def execReadmissionEffect (s : State) : Out := .next (if s.rnd.stitchDue && !s.frozenAdm then s.applyReadmit else s)

end Sys2Proof.Machine
end

