-- ==== Sys2Proof/Machine/Health.lean ====
section
/-! DEFINITION. Machine/Health.lean: fences and what follows them (R447 to R454), revive (R455), corrected errors (R457), the adaptive
clocks (R459), temperature (R461 to R464), the staged health set. -/

namespace Sys2Proof.Machine
open Sys2Proof Sys2Proof.Machine.Reg

def State.modHlth (s : State) (f : Hlth → Hlth) : State := { s with hlth := f s.hlth }

/-- An event of Table 20.6: PWR bit `b`, or TMP bit `b`. -/
def State.pwrReport (s : State) (b sev src data : Nat) : State :=
  s.report PWR_EVENT.base PWR_INT_EN.base b 7 (0x0E00 + b) src sev data
def State.tmpReport (s : State) (b sev src data : Nat) : State :=
  s.report TMP_EVENT.base TMP_INT_EN.base b 7 (0x0E10 + b) src sev data

/-! ### Units (R363) -/

/-- Units of a kind: 0 cores, 1 engines, 2 live and 3 re-process pipelines, 4 sense ports, 5 dies, 6 Purl links, 7 cameras, 8 the
transmitter, 9 the Framer. -/
def unitCount : Nat → Nat
  | 0 => 32
  | 1 => 2
  | 2 => 6
  | 3 => 2
  | 4 => 6
  | 5 => 2
  | 6 => 6
  | 7 => 6
  | 8 => 1
  | 9 => 1
  | _ => 0

/-- The bit of PWR_DROP_UNIT of a unit that is no core. -/
def dropBit (kind idx : Nat) : Nat :=
  match kind with
  | 1 => PWR_DROP_UNIT_SE.lo + idx
  | 2 => PWR_DROP_UNIT_LP.lo + idx
  | 3 => PWR_DROP_UNIT_RP.lo + idx
  | 4 => PWR_DROP_UNIT_MOL.lo + idx
  | 5 => PWR_DROP_UNIT_CD.lo + idx
  | 7 => PWR_DROP_UNIT_CAM.lo + idx
  | 8 => PWR_DROP_UNIT_TX.lo
  | _ => PWR_DROP_UNIT_WFM.lo

/-- The unit is DROPPED; a retired link counts as such. -/
def State.unitDropped (s : State) (kind idx : Nat) : Bool :=
  if kind = 0 then s.coreDropped idx
  else if kind = 6 then decide (s.fld PURL_STAT_STATE idx = 3)
  else (s.regN PWR_DROP_UNIT).testBit (dropBit kind idx)

def State.setDrop (s : State) (kind idx : Nat) (b : Bool) : State :=
  let v := if b then 1 else 0
  if kind = 0 then s.setReg PWR_DROP_CORE.base (setBits (s.reg PWR_DROP_CORE.base) idx 1 v)
  else if kind = 6 then s
  else s.setReg PWR_DROP_UNIT.base (setBits (s.reg PWR_DROP_UNIT.base) (dropBit kind idx) 1 v)

/-- Re-issue and re-admission end with bind-off stage 1 (R454). -/
def State.mayReissue (s : State) : Bool := decide (s.fld PWR_BOSTAT_STAGE = 0)

/-! ### A unit stops (R449 steps 1 to 4, Table 20.2) -/

/-- Every engine channel whose SRC is core `n` is flushed. -/
def State.flushEnginesFrom (s : State) (n : Nat) : State :=
  (List.range 2).foldl (fun s k => (List.range 16).foldl (fun s c =>
    if s.inOn k c ∧ s.inSrc k c = n then s.flushIn k c else s) s) s

/-- The instances queued for resource `r` are lost with it. -/
def State.loseQueued (s : State) (r code cause : Nat) : State :=
  let l := (s.pat.insts.filter (fun i => i.parts.any (fun p => decide (p.res = r ∧ p.st ≠ 2)))).map (·.id)
  l.foldl (fun s id => s.loseOrReissue id r code cause s.mayReissue 0 0) s

/-- Core `n` stops; its job ends LOST. -/
def State.stopCore (s : State) (n cause : Nat) : State :=
  let s := if s.busy n then s.killJob n 5 0 cDropped cause s.mayReissue
    else ((s.releaseMarkers n 3).loseHalt n 5).setCstate n cDropped
  let s := ((s.loseNode n).flushFrom n).flushEnginesFrom n
  (s.loseQueued n 5 cause).settle (fun _ w => if w = Wait.step n then some (7, []) else none)

/-- Engine `k` stops its solve without a record; the warm area of a solve that is lost is not valid (R313). -/
def State.stopEngine (s : State) (k cause : Nat) : State :=
  let s := match (s.engine k).run with
    | some v => s.modPslot k v.slot (fun p => { p with warm := none })
    | none => s
  let s := s.modEngine k (fun e => { e with
    run := none, chans := e.chans.map (fun c => { c with arr := [] }),
    slots := e.slots.map (fun p => { p with latch := [], send := none, addDue := none, post := none, pendCommit := 0, pendReset := false }) })
  let s := (List.range 32).foldl (fun s i => s.noteSlot k i) s
  let s := (s.setFld SOL_STATUS_STATE 3 k).setFld SOL_CTRL_ABORT 0 k
  let s := (s.loseNode (32 + k)).flushFrom (32 + k)
  let s := (s.loseQueued (32 + k) 6 cause).endSolves
  let s := (s.latchFired 0).latchFired 1
  s.settle (fun _ w => match w with
    | .solve j _ => if j = k then some (0x0606, []) else none
    | .pgcommit j _ => if j = k then some (7, []) else none
    | .slotReset j _ => if j = k then some (7, []) else none
    | _ => none)

/-- Re-process pipeline `q` stops: its frame is closed, its instance is lost, its pending kicks are refused. The spec gives a lost frame no code of
Table 8.6: a free value (log entry 132). -/
def State.stopRp (s : State) (q cause : Nat) : State :=
  let code := Config.pick s.free q % 256
  let s := s.draw
  let s := match (s.rp q).run with
    | some x => ((s.modRp q (fun r => { r with run := some { x with inst := none } })).abortRp q).setFld ISP_RPCSTAT_CODE code q x.ctx
    | none => s
  let l := bitsOf (s.fld ISP_RPKICK_KICK q) 16
  let s := l.foldl (fun s c => s.refuseKick q c) (s.setFld ISP_RPKICK_KICK 0 q)
  (s.loseQueued (34 + q) code cause).settleKicks

/-- The Framer stops: nothing that has not been delivered ever is, and frozen rings keep what they hold. -/
def State.stopFramer (s : State) : State :=
  s.modWfm (fun w => { ringDone := w.ringDone, seq := w.seq, slots := w.slots.map (fun f => { stream := f.stream }) })

/-- The unit is DROPPED from now on, and gone for the Pattern in force (R455). -/
def State.markGone (s : State) (u : Nat) : State := s.modPat (fun p => { p with gone := if p.gone.contains u then p.gone else u :: p.gone })

/-- The unit stops and what it held is lost. -/
def State.stopUnit (s : State) (kind idx cause : Nat) : State :=
  match kind with
  | 0 => s.stopCore idx cause
  | 1 => s.stopEngine idx cause
  | 2 => s.loseLive idx
  | 3 => s.stopRp idx cause
  | 4 => ((s.endLink idx 6).goPort idx 0).setAbsent idx
  | 5 =>
    let s := (List.range 16).foldl (fun s i => (s.setDrop 0 (16 * idx + i) true).markGone (16 * idx + i)) ((s.setDrop 1 idx true).markGone (256 + idx))
    let s := s.loseMarkers idx
    let s := (List.range 16).foldl (fun s i =>
      if s.cstate (16 * idx + i) = cDropped then s else s.stopCore (16 * idx + i) cause) s
    if s.fld SOL_STATUS_STATE idx = 3 then s else s.stopEngine idx cause
  | 7 => s.loseCam idx
  | 8 => s.loseTx
  | 9 => s.stopFramer
  | _ => s

/-! ### The fence log (PWR_FLOG, R449) -/

def State.noteFlog (s : State) : State := s.setRegN PWR_FLOG ((s.hlth.flog.head?).getD 0)

/-- The units fenced in the present clock. -/
def State.struckNow (s : State) : List Strike := s.hlth.struck.filter (fun x => decide (x.clk = s.rnd.clk))

/-- The entry of unit `u` joins a fence log; those of the units `now`, fenced in this clock, stand in ascending kind and index (R454). -/
def flogInsert (now : List Nat) (e : Nat) (l : List Nat) : List Nat :=
  let late := (l.reverse.takeWhile (fun x => now.contains (x % 2 ^ 12) && decide (e % 2 ^ 12 < x % 2 ^ 12))).reverse
  l.take (l.length - late.length) ++ [e] ++ late

/-- An entry is pushed; into a full queue of 16 it is lost. -/
def State.pushFlog (s : State) (kind idx cause : Nat) : State :=
  let e := idx + 2 ^ 8 * (kind % 16) + 2 ^ 12 * cause + 2 ^ 16 * (s.count48 % 2 ^ 15) + 2 ^ 31
  (s.modHlth (fun h => { h with flog := (flogInsert (s.struckNow.map (·.unit)) e h.flog).take 16 })).noteFlog

/-- An entry that is no fence (R447). The spec gives the KIND of a sensor's or of the hub store's entry no code: a free value (log entry 133). -/
def State.pushNote (s : State) (kind : Option Nat) (idx cause : Nat) : State :=
  match kind with
  | some k => s.pushFlog k idx cause
  | none => s.draw.pushFlog (Config.pick s.free idx % 16) idx cause

/-- The oldest entry is taken. -/
def State.popFlog (s : State) : State := (s.modHlth (fun h => { h with flog := h.flog.tail })).noteFlog

/-- PWR_FLOG_POP (R449). -/
def execPwrFlogPop (s : State) : Out := .next (s.respond .host 0 (toBytes 4 (s.regN PWR_FLOG))).popFlog

/-! ### Fences (R447 to R453) -/

/-- Job index and GROUP of what runs on a unit. -/
def State.inFlight (s : State) (kind idx : Nat) : Nat × Nat :=
  let r := if kind = 0 then some idx else if kind = 1 then some (32 + idx) else if kind = 3 then some (34 + idx) else none
  match r.bind s.running with
  | some i => (i.job, i.group)
  | none => (hostJob, hostGroup)

/-- The first posting of a fence (R453), and where its cause stands if it has been written. -/
def State.postFence (s : State) (kind idx job grp cause : Nat) : State :=
  let was := s.core idx
  let pr := s.fld CMD_SPROD_SPROD
  let u := 256 * kind + idx
  let s := s.health (if kind = 6 then 0x1004 else 0x1000) u job grp 0xFFFF 0 cause
  let now := s.fld CMD_SPROD_SPROD
  let place := if now = pr then none
    else some (s.regN CMD_SBASE_LO + 2 ^ 32 * s.regN CMD_SBASE_HI + 128 * ((now + 65535) % 65536 % s.sringSize) + 48)
  let x : Strike := { unit := u, cause := cause, clk := s.rnd.clk, place := place, was := if kind = 0 then was else {} }
  s.modHlth (fun h => { h with struck := h.struck.filter (fun y => decide (y.clk = x.clk)) ++ [x] })

/-- One unit is fenced (R449). -/
def State.fenceOne (s : State) (kind idx cause : Nat) : State :=
  if idx < unitCount kind ∧ ¬ s.unitDropped kind idx then
    let (job, grp) := s.inFlight kind idx
    let s := (s.setDrop kind idx true).markGone (256 * kind + idx)
    let s := s.postFence kind idx job grp cause
    let s := if kind = 6 then (s.setFld PURL_STAT_STATE 3 idx).meshReport 2 6 (purlLink idx) else s.stopUnit kind idx cause
    let s := s.pushFlog kind idx cause
    let s := s.pwrReport 0 6 idx (kind + 2 ^ 8 * cause + 2 ^ 16 * job + 2 ^ 32 * grp)
    s.startReadmit kind idx cause
  else s

/-- Another cause strikes the unit of `x` in the clock it was fenced in: the fence log and the posting carry the lowest one (R454). -/
def State.lowerCause (s : State) (x : Strike) (cause : Nat) : State :=
  if x.cause ≤ cause then s
  else
    let u := x.unit
    let isU := fun (e : Nat) => decide (e % 2 ^ 12 = u % 2 ^ 12 ∧ nbits e 12 4 = x.cause)
    let at_ := (s.hlth.flog.reverse.findIdx? isU).map (fun i => s.hlth.flog.length - 1 - i)
    let s := s.modHlth (fun h => { h with
      flog := (match at_ with
        | some i => h.flog.modify i (fun e => e - 2 ^ 12 * x.cause + 2 ^ 12 * cause)
        | none => h.flog),
      struck := h.struck.map (fun y => if y = x then { y with cause := cause } else y) })
    let s := match x.place with
      | some a => s.putHost a [cause]
      | none =>
        let mend : Post → Post := fun p =>
          if p.src = u ∧ (p.code = 0x1000 ∨ p.code = 0x1004) then { p with body := p.body.set 32 cause } else p
        { s with sring := { s.sring with held := s.sring.held.map mend } }
    let again : Readm → Readm := fun r => if r.unit = u then { r with code := cause } else r
    let s := s.modPat (fun p => { p with readm := p.readm.map again })
    s.noteFlog

/-- The cores of die `d` that are not DROPPED. -/
def State.liveCores (s : State) (d : Nat) : Nat := ((List.range 16).filter (fun i => !(s.coreDropped (16 * d + i)))).length

/-- What a fence takes with it (Table 1.6, cause DIE): a die all of whose cores are DROPPED; the die of a retired hub link; with all row
links retired, the die with fewer working cores, or CD1. -/
def State.fenceAfter (s : State) (kind idx : Nat) : State :=
  if kind = 0 then (if s.liveCores (idx / 16) = 0 then s.fenceOne 5 (idx / 16) 9 else s)
  else if kind = 6 then
    if 4 ≤ idx then s.fenceOne 5 (idx - 4) 8
    else if (List.range 4).all (fun l => decide (s.fld PURL_STAT_STATE l = 3)) && !(s.dieDropped 0) && !(s.dieDropped 1) then
      s.fenceOne 5 (if s.liveCores 0 < s.liveCores 1 then 0 else 1) 8
    else s
  else s

/-- A unit is fenced to DROPPED with a cause of Table 20.1; one that is already DROPPED ignores it, but for the lower cause of one clock (R454). -/
def State.fence (s : State) (kind idx cause : Nat) : State :=
  if s.unitDropped kind idx then
    match s.struckNow.find? (fun x => decide (x.unit = 256 * kind + idx)) with
    | some x => s.lowerCause x cause
    | none => s
  else (s.fenceOne kind idx cause).fenceAfter kind idx

/-- A word of the hub store is lost (R456): HUB_ECC, and a slot of the journal buffer reads as empty. -/
def State.hubBad (s : State) (w : Nat) : State :=
  let s := s.pwrReport 6 6 0 w
  if jrnBase ≤ w ∧ w < hubSize then
    (s.modJrn (fun x => { x with slots := x.slots.filter (fun e => decide (e.slot ≠ (w - jrnBase) / 32)) })).noteCounts
  else s

/-- A read of `node`'s store at `a` has met uncorrectable errors in the words of the bytes `ecc` (from `a`): the core or engine is fenced
whoever reads (R447), each word of the hub store is lost. -/
def State.badWords (s : State) (node a : Nat) (ecc : List Nat) : State :=
  if node < 32 then s.fence 0 node 2
  else if node < 34 then s.fence 1 (node - 32) 2
  else ((ecc.map (fun e => (a + e) / 8 * 8)).eraseDups).foldl (fun s w => s.hubBad w) s

/-- READ_PACKET_RX (R214): `ecc` lists the bytes of what is read that lie in a word with an uncorrectable error (R15). -/
def execReadPacketRx (src tag : Nat) (ecc : List Nat) (s : State) : Out :=
  onUnit src 32 <| onUnit tag 32 <|
    match s.readNow src tag with
    | none => .next (s.readPacket src tag []).pumpMesh
    | some ((m, _, _, _), a, len) =>
      let e := ecc.filter (fun i => decide (i < len))
      let st := (s.meshRead m.node a len e).2
      let s := s.readPacket src tag e
      .next (if st = 4 then s.badWords m.node a e else s).pumpMesh

/-- CORE_WATCHDOG_EXPIRY (R250). -/
def execCoreWatchdogExpiry (n : Nat) (s : State) : Out :=
  onUnit n 32 (.next (if s.wdExpired n then s.fence 0 n 3 else s))

/-- STORE_ECC_ERROR (R251, R319, Table 20.1): an uncorrectable error in a store or buffer of a core, an engine, a pipeline, a port, the
transmitter or the Framer. -/
def execStoreEccError (kind idx : Nat) (s : State) : Out :=
  if kind = 5 ∨ kind = 6 then .next s else onUnit idx (unitCount kind) (.next (s.fence kind idx 2))

/-- PARITY_ERROR (R447): of an engine, a sense port, a camera port or the Framer. -/
def execParityError (kind idx : Nat) (s : State) : Out :=
  if kind = 1 ∨ kind = 4 ∨ kind = 7 ∨ kind = 9 then onUnit idx (unitCount kind) (.next (s.fence kind idx 4)) else .next s

/-- SOLVER_WATCHDOG (R319): the solve of engine `k` has run longer than SOL_WDT.PERIOD µs; a PERIOD of 0 disables the check. -/
def execSolverWatchdog (k : Nat) (s : State) : Out :=
  onUnit k 2 <|
    match (s.engine k).run with
    | some v =>
      let p := s.fld SOL_WDT_PERIOD k
      .next (if p ≠ 0 ∧ 250 * p < s.rnd.clk - v.startAt then s.fence 1 k 3 else s)
    | none => .next s

/-- Four times the bound of R183, in ticks, from the close of a frame of width `w`: 10 µs and 11 line times of ⌈w / 2⌉ clocks of 600 MHz. -/
def presentTicks (w : Nat) : Nat := 4 * (2500 + (11 * ((w + 1) / 2) * 5 + 11) / 12)

/-- PIPELINE_WDT (R447): a closed frame of LPp has not presented its last row in time. -/
def execPipelineWdt (p : Nat) (s : State) : Out :=
  onUnit p 6 <|
    match (s.lp p).frames.find? (fun f => f.closed && !f.done) with
    | some f => .next (if presentTicks f.w < s.rnd.clk - f.lastAt then s.fence 2 p 3 else s)
    | none => .next s

/-- HOST_FENCE (R447): any unit but a Purl link. -/
def State.hostFence (s : State) (kind idx : Nat) : State :=
  if kind = 6 ∨ ¬ idx < unitCount kind then s else s.fence kind idx 7

/-- HOST_FENCE: a keyed write of ACTION 1. -/
def execHostFence (kind idx : Nat) (s : State) : Out := .next (s.hostFence kind idx)

/-- PURL_RETRAIN_DONE (R225): the link is up again, retrains again, or after RTMAX failures is retired. -/
def execPurlRetrainDone (l : Nat) (ok : Bool) (s : State) : Out :=
  onUnit l 6 <|
    if s.fld PURL_STAT_STATE l ≠ 1 then .next s
    else if ok then .next ((s.setFld PURL_STAT_STATE 2 l).setFld PURL_STAT_FAILS 0 l).pumpMesh
    else
      let n := s.fld PURL_STAT_FAILS l + 1
      let s := s.setFld PURL_STAT_FAILS n l
      if s.live PURL_CFG_RTMAX ≤ n then .next ((s.fenceOne 6 l 8).fenceAfter 6 l).pumpMesh else .next (s.retrain l)

/-! ### Checksum faults (R275, R249, R448) -/

def State.chkFirst (s : State) (n : Nat) : Bool := (s.regN PWR_CHK1).testBit n
def State.setChk1 (s : State) (n : Nat) (b : Bool) : State :=
  let s := s.setReg PWR_CHK1.base (setBits (s.reg PWR_CHK1.base) n 1 (if b then 1 else 0))
  s.modHlth (fun h => { h with chkRnd := if b then bind h.chkRnd n s.count48 else unbind h.chkRnd n })

/-- Bits whose window of CHKWIN rounds has passed clear. -/
def State.chkExpire (s : State) : State :=
  let w := s.live PWR_HCFG_CHKWIN
  if w = 0 then s
  else
    (List.range 32).foldl (fun s n =>
      match look s.hlth.chkRnd n with
      | some r => if w ≤ (s.count48 + 2 ^ 48 - r) % 2 ^ 48 then s.setChk1 n false else s
      | none => s) s

/-- CHK_WINDOW_EXPIRY (R448). -/
def execChkWindowExpiry (s : State) : Out := .next s.chkExpire

/-- A checksum fault of core `n`: the job ends CHK; a first fault is remembered, a second one fences the core, whose job is LOST (R449). -/
def State.chkFault (s : State) (n : Nat) : State :=
  if s.chkFirst n then s.fence 0 n 1
  else
    let s := (s.setChk1 n true).pwrReport 2 5 n (s.count48 % 2 ^ 32)
    if s.busy n then s.killJob n 3 0 cIdle 1 s.mayReissue else s

/-- Core `n` as the checks of the present clock find it: one fenced in this clock as the fence found it (R454). -/
def State.coreStruck (s : State) (n : Nat) : Core :=
  match s.struckNow.find? (fun x => decide (x.unit = n)) with
  | some x => x.was
  | none => s.core n

/-- CHECKSUM_FAULT (R275): a pass of the operation that runs on the matrix unit, or on the vector path (`vp`), fails the check of a row or a
column, the first in the order of R275; `diff` is the difference found, `ex` the exponent of R273 plus 149. Nothing happens where the
operation makes no such check or the difference does not fail it. -/
def execChecksumFault (n : Nat) (vp : Bool) (array sub : Nat) (col : Bool) (pass diff ex : Nat) (s : State) : Out :=
  onUnit n 32 <|
    let c := s.coreStruck n
    match c.runs (if vp then 1 else 0) with
    | some o =>
      if (s.modCore n (fun _ => c)).checkMade n o vp array sub col pass ex && checkFails o vp col diff ex then
        .next (if s.coreDropped n then s.chkFault n else ((s.upToFault n o vp pass).recordChk n o vp array sub col pass diff ex).chkFault n)
      else .next s
    | none => .next s

/-! ### Revive (R455) -/

/-- Registers at `lo … lo+n-1` go back to their reset values. -/
def State.clearRegs (s : State) (lo n : Nat) : State :=
  { s with regs := s.regs.filter (fun p => decide (p.1 < lo ∨ lo + n ≤ p.1)) }
/-- Bytes of a store go back to what nothing has written. -/
def clearCells (m : List Host.Cell) (lo n : Nat) : List Host.Cell := m.filter (fun c => decide (c.1 < lo ∨ lo + n ≤ c.1))

/-- A revived unit: registers at their reset values, stores as R258 gives them. -/
def State.freshUnit (s : State) (kind idx : Nat) : State :=
  match kind with
  | 0 =>
    let s := (s.clearRegs (0x100000 + 0x10000 * idx) 0x10000).accClear idx
    let s := { s with data := clearCells s.data (dataAt idx 0) 0x100000, inst := clearCells s.inst (instAt idx 0) 0x10000 }
    s.modCore idx (fun _ => {})
  | 1 =>
    let s := s.clearRegs (0x300000 + 0x10000 * idx) 0x10000
    ({ s with sol := clearCells s.sol (solAt idx 0) 0x200000 }).modEngine idx (fun _ => {})
  | 2 => (s.clearRegs (0x91000 + 0x1000 * idx) 0x1000).modLp idx (fun _ => {})
  | 3 => (s.clearRegs (0x98000 + 0x1000 * idx) 0x1000).modRp idx (fun _ => {})
  | 4 => (s.clearRegs (0x60000 + 0x1000 * idx) 0x1000).modPort idx (fun _ => {})
  | 7 => (s.clearRegs (0x81000 + 0x1000 * idx) 0x1000).modCamPort idx (fun _ => {})
  | 8 => (s.clearRegs 0x87000 0x1000).modTx (fun _ => {})
  | 9 => (s.clearRegs 0x50000 0x10000).modWfm (fun w => { slots := w.slots.map (fun f => { stream := f.stream }) })
  | _ => s

/-- The die a unit lies on is DROPPED. -/
def State.unitDieDropped (s : State) (kind idx : Nat) : Bool :=
  if kind = 0 then s.dieDropped (idx / 16) else if kind = 1 then s.dieDropped idx else false

/-- A revive is asked for: the test runs, or RESULT is 3. -/
def State.revive (s : State) (kind idx : Nat) : State :=
  if kind = 5 ∨ kind = 6 ∨ ¬ idx < unitCount kind ∨ ¬ s.unitDropped kind idx ∨ s.unitDieDropped kind idx
      ∨ 1 ≤ s.fld PWR_BOSTAT_STAGE ∨ s.hlth.revive.isSome ∨ s.pat.readm.isSome then s.setFld PWR_FSTAT_RESULT 3
  else (s.modHlth (fun h => { h with revive := some (kind, idx) })).setFld PWR_FSTAT_BUSY 1

/-- UNIT_REVIVE: a keyed write of ACTION 2. -/
def execUnitRevive (kind idx : Nat) (s : State) : Out := .next (s.revive kind idx)

/-- REVIVE_DONE (R455): the unit's part of the swatch test has passed or failed. A unit whose die has been dropped meanwhile stays. -/
def execReviveDone (pass : Bool) (s : State) : Out :=
  match s.hlth.revive with
  | none => .next s
  | some (kind, idx) =>
    let s := (s.modHlth (fun h => { h with revive := none })).setFld PWR_FSTAT_BUSY 0
    if pass && !(s.unitDieDropped kind idx) then
      let s := ((s.freshUnit kind idx).setDrop kind idx false).setFld PWR_FSTAT_RESULT 1
      let s := if kind = 0 then s.setChk1 idx false else s
      .next (s.pwrReport 3 4 idx (kind + 2 ^ 8))
    else .next (s.setFld PWR_FSTAT_RESULT 2)

/-! ### Corrected errors (R15, R457) -/

/-- CORRECTED_ECC: a single-bit error in `store` (0 data and 1 instruction store of core `idx`, 2 store of engine `idx`, 3 the hub store). -/
def execCorrectedEcc (store idx : Nat) (s : State) : Out :=
  onUnit idx (if store ≤ 1 then 32 else if store = 2 then 2 else if store = 3 then 1 else 0) <|
    let s := if store ≤ 1 then s.count CORE_CNT_ECCCOR 1 idx else s
    let key := 64 * store + idx
    let n := (look s.hlth.ecc key).getD 0 + 1
    let s := s.modHlth (fun h => { h with ecc := bind h.ecc key n })
    if s.live PWR_HCFG_ECCTHR ≤ n ∧ ¬ s.hlth.eccDone.contains key then
      .next ((s.modHlth (fun h => { h with eccDone := key :: h.eccDone })).pwrReport 5 4 idx (store + 2 ^ 32 * (n % 2 ^ 32))
        |>.pushNote (if store ≤ 1 then some 0 else if store = 2 then some 1 else none) idx 15)
    else .next s

/-! ### Core clocks (R59, R459) -/

/-- The lowest clock of core `n` in MHz. -/
def State.coreFloor (s : State) (n : Nat) : Nat := if s.floorOf n = 0 then 400 else 10 * s.floorOf n
/-- The highest one: 1.0 GHz, 850 MHz under the cap of R2, the floor at CRIT. -/
def State.coreCeil (s : State) (n : Nat) : Nat :=
  if s.flag CLK_CORE_HOLD n then s.coreFloor n else if s.flag TMP_STATUS_CAP then 850 else 1000

/-- AVFS_EVALUATION (R459) of core `n`: its monitors show margin, an alarm, or neither. -/
def execAvfsEvaluation (n : Nat) (margin alarm : Bool) (s : State) : Out :=
  onUnit n 32 <|
    if s.coreDropped n then .next s
    else
      let f := s.fld CLK_CORE_FREQ n
      let lo := s.coreFloor n
      if alarm then
        let s := s.modCore n (fun c => { c with avMargin := 0 })
        if lo < f then
          .next (((s.setFld CLK_CORE_FREQ (max lo (f - 25)) n).setFld CLK_CORE_LIMIT 0 n).modCore n (fun c => { c with avLimit := 0 }))
        else if s.fld CLK_CORE_VCODE n < min 25 Config.supplyTop.toNat then
          .next (((s.count CLK_CORE_VCODE 1 n).setFld CLK_CORE_LIMIT 0 n).modCore n (fun c => { c with avLimit := 0 }))
        else
          let k := (s.core n).avLimit + 1
          let s := (s.setFld CLK_CORE_LIMIT 1 n).modCore n (fun c => { c with avLimit := k })
          if 64 ≤ k then .next ((s.pwrReport 4 5 n (f + 2 ^ 16 * s.fld CLK_CORE_VCODE n)).fence 0 n 5) else .next s
      else
        let s := (s.setFld CLK_CORE_LIMIT 0 n).modCore n (fun c => { c with avLimit := 0 })
        if margin then
          let k := (s.core n).avMargin + 1
          if 4 ≤ k then
            .next ((s.setFld CLK_CORE_FREQ (max f (min (f + 25) (s.coreCeil n))) n).modCore n (fun c => { c with avMargin := 0 }))
          else .next (s.modCore n (fun c => { c with avMargin := k }))
        else .next (s.modCore n (fun c => { c with avMargin := 0 }))

/-- The clocks follow what binds them: a die at CRIT holds its cores at their floors (R462), the cap brings cores down to 850 MHz (R2). -/
def State.noteClocks (s : State) : State :=
  (List.range 32).foldl (fun s n =>
    let hold := s.dieCrit (coreDie n)
    let s := s.setFld CLK_CORE_HOLD (if hold then 1 else 0) n
    if s.coreCeil n < s.fld CLK_CORE_FREQ n then s.setFld CLK_CORE_FREQ (max (s.coreCeil n) (s.coreFloor n)) n else s) s

/-! ### Temperature (R461 to R464, R2) -/

/-- One ST_THERMAL posting: byte 32 the cause, byte 33 the sensor, bytes 34–35 its temperature; and an entry of the fence log (R447). -/
def State.thermal (s : State) (cause k : Nat) : State :=
  (s.pushNote none k cause).health 0x1005 0xFF00 0x07FF 0xFFFF 0xFFFF 0 (cause + 2 ^ 8 * k + 2 ^ 16 * s.fld TMP_TEMP k)

/-- The pair WSET, WCLR at use (R98, R462). -/
def State.tmpPair (s : State) : State :=
  let w := s.fld TMP_LIM_WSET
  let c := s.fld TMP_LIM_WCLR
  if c < w ∧ w ≤ s.fld TMP_LIM_CRIT then s.modHlth (fun h => { h with pair := (w, c) })
  else if s.flag TMP_STATUS_CFG_MISMATCH then s
  else (s.setFld TMP_STATUS_CFG_MISMATCH 1).tmpReport 8 3 0 0

/-- A sensor fails: it is left out of every comparison from now on (R464). -/
def State.failSensor (s : State) (k : Nat) : State :=
  let s := (s.setFld TMP_FAIL 1 k).modHlth (fun h => { h with
    warn := h.warn.filter (fun x => decide (x ≠ k)), crit := h.crit.filter (fun x => decide (x ≠ k)) })
  (s.tmpReport 7 5 k (s.fld TMP_TEMP k)).pushNote none k 14

/-- Sensor `k` against its thresholds, in 1/16 °C. -/
def State.checkSensor (s : State) (k : Nat) : State :=
  let t := s.tempOf k
  let d := s.fld TMP_TEMP k
  let above := fun (deg : Nat) => decide ((16 * deg : Nat) < t)
  let crit := s.fld TMP_LIM_CRIT
  let s := if ¬ s.hlth.warn.contains k ∧ above s.hlth.pair.1 then
      ((s.modHlth (fun h => { h with warn := h.warn ++ [k] })).tmpReport 0 5 k d).thermal 10 k
    else if s.hlth.warn.contains k ∧ ¬ above s.hlth.pair.2 then
      (s.modHlth (fun h => { h with warn := h.warn.filter (fun x => decide (x ≠ k)) })).tmpReport 1 3 k d
    else s
  let s := if ¬ s.hlth.crit.contains k ∧ above crit then
      ((s.modHlth (fun h => { h with crit := h.crit ++ [k] })).tmpReport 2 6 k d).thermal 11 k
    else if s.hlth.crit.contains k ∧ ¬ above (crit - 3) then
      (s.modHlth (fun h => { h with crit := h.crit.filter (fun x => decide (x ≠ k)) })).tmpReport 3 4 k d
    else s
  if ¬ s.hlth.trip.contains k ∧ above (s.fld TMP_LIM_TRIP) then
    (((s.modHlth (fun h => { h with trip := h.trip ++ [k] })).setFld TMP_STATUS_TRIP 1).tmpReport 4 7 k d).thermal 12 k
  else s

/-- The cap of R2 on a TN960-XQ, over the sensors that have not failed (R461); with none left it stays as it is. -/
def State.checkCap (s : State) : State :=
  let ok := (List.range 12).filter (fun k => !(s.sensorBad k))
  let m := (hottest s (List.range 12)).getD 0
  if ¬ Config.gradeXQ then s
  else if ¬ s.flag TMP_STATUS_CAP ∧ ok.any (fun k => decide ((110 * 16 : Int) < s.tempOf k)) then
    ((s.setFld TMP_STATUS_CAP 1).tmpReport 5 4 m (s.fld TMP_TEMP m)).thermal 13 m
  else if s.flag TMP_STATUS_CAP ∧ ok ≠ [] ∧ ok.all (fun k => decide (s.tempOf k ≤ (107 * 16 : Int))) then
    ((s.setFld TMP_STATUS_CAP 0).tmpReport 6 3 m (s.fld TMP_TEMP m)).thermal 13 m
  else s

/-- TMP_STATUS and the clocks follow the sensors. -/
def State.noteTmp (s : State) : State :=
  let s := s.setFld TMP_STATUS_HOT (s.hlth.warn.foldl (fun a k => a + 2 ^ k) 0)
  let s := s.setFld TMP_STATUS_CRIT (if s.hlth.crit.isEmpty then 0 else 1)
  let s := match hottest s (List.range 12) with
    | some k => s.setFld TMP_STATUS_MAXIDX k
    | none => s
  s.noteClocks

/-- TMP_SENSOR_SAMPLE (R461): a reading of each sensor, or none from one that has not updated. -/
def execTmpSensorSample (temps : List (Option Nat)) (s : State) : Out :=
  let now := s.rnd.clk
  let s := s.tmpPair
  let s := (List.range 12).foldl (fun s k =>
    match temps.getD k none with
    | none => s
    | some t =>
      let s := (s.setFld TMP_TEMP t k).modHlth (fun h => { h with upd := h.upd.set k now })
      if s.sensorBad k then s
      else if s.tempOf k < -960 ∨ 2880 < s.tempOf k then s.failSensor k
      else s.checkSensor k) s
  .next (s.checkCap.noteTmp)

/-- SENSOR_STALE (R464): sensor `k` has not updated for 1 ms. -/
def execSensorStale (k : Nat) (s : State) : Out :=
  onUnit k 12 <|
    if s.sensorBad k ∨ s.rnd.clk - s.hlth.upd.getD k 0 < 250000 then .next s
    else .next ((s.failSensor k).noteTmp)

/-! ### The staged health set -/

/-- The set of PWR_HCTRL.COMMIT at stitch 0. -/
def State.applyPwr (s : State) : State :=
  let s := s.setFld PWR_HCTRL_COMMIT 0
  if s.fld PWR_HCFG_ECCTHR = 0 then (s.setFld PWR_FSTAT_REJ_CAUSE 1).pwrReport 8 3 0 1
  else ((s.apply1 PWR_HCFG 0 0).apply1 PWR_PLACEMASK 0 0).pwrReport 9 1 0 0

end Sys2Proof.Machine
end

