-- ==== Sys2Proof/Machine/Caston.lean ====
section
/-! DEFINITION. Machine/Caston.lean: resets (R429, R430), cast-on (R431 to R438), bind-off (R439 to R443), the reference clock (R490),
and the loss of a hub-store word (R456). -/

namespace Sys2Proof.Machine
open Sys2Proof Sys2Proof.Machine.Reg

def State.modBoot (s : State) (f : Boot → Boot) : State := { s with boot := f s.boot }
/-- PWR_CASTON.PHASE: 0 to 6 cast-on, 7 READY, 8 FAIL. -/
def State.castPhase (s : State) : Nat := s.fld PWR_CASTON_PHASE
def State.setCastPhase (s : State) (p : Nat) : State := s.setFld PWR_CASTON_PHASE p
/-- The device accepts work. -/
def State.ready (s : State) : Bool := decide (s.castPhase = 7)
/-- PWR_BOSTAT.STAGE: 0 outside bind-off. -/
def State.boStage (s : State) : Nat := s.fld PWR_BOSTAT_STAGE
def State.setBoStage (s : State) (n : Nat) : State := s.setFld PWR_BOSTAT_STAGE n

/-- The host reaches more than HIF and PWR: the device accepts work and its clocks run (R431, Table 19.4). -/
def State.serving (s : State) : Bool := s.ready && decide (s.boStage ≠ 6)

/-- An event of Table 15.7. -/
def State.secReport (s : State) (b src sev data : Nat) : State :=
  s.report SEC_EVENT.base SEC_INT_EN.base b 42 (0x0F00 + b) src sev data

/-! ### The firmware image (R433, Table 19.3) -/

/-- The number of the check of R433 that an image of header `h` and body `b` fails (in the rule's order, from 1), or none. -/
def imageFails (minSvn : Nat) (h b : List Nat) : Option Nat :=
  let f := fieldLE h
  let zero := fun (o n : Nat) => decide (f o n = 0)
  let len := f 8 4
  let size := 65536 * f 28 1
  if f 0 4 ≠ 0x4D57464B ∨ f 4 2 ≠ 1 ∨ 2 ≤ f 29 1
      ∨ !(zero 30 2 && zero 41 7 && zero 54 2 && zero 192 64) ∨ 2 ^ 21 ≤ f 48 4 then some 1
  else if len % 64 ≠ 0 ∨ 2 ^ 21 < len then some 2
  else if f 28 1 = 0 ∨ 32 < f 28 1 ∨ size < f 12 4 + len then some 3
  else if !(Config.keyHashOk ((h.drop 64).take 64)) then some 4
  else if f 6 2 < minSvn then some 5
  else if !(Config.firmwareVerifies (h ++ b)) then some 6
  else none

/-- The image whose header is at `a` of a store read by `rd`. -/
def imageAt (rd : Nat → Nat → List Nat) (a : Nat) : List Nat × List Nat :=
  let h := rd a 256
  (h, rd (a + 256) (min (fieldLE h 8 4) (2 ^ 21)))
def State.norImage (s : State) (a : Nat) : List Nat × List Nat := imageAt (fun a n => memBytes dfltF s.nor a n) a
def State.hubImage (s : State) : List Nat × List Nat := imageAt s.hubBytes 0

def State.hdrField (s : State) (o n : Nat) : Nat := fieldLE s.boot.hdr o n
/-- The bind-off area: first byte and bytes. -/
def State.boArea (s : State) : Nat × Nat := (4096 * s.hdrField 56 4, 4096 * s.hdrField 60 4)

/-- The firmware stages and commits the Journal's partition, unless it overlaps an image slot or the bind-off area, with the flash timings, which
no field of the header gives: free values (R435, log 129). -/
def State.stagePartition (s : State) : State :=
  let jp := s.hdrField 48 4
  let base := jp % 2 ^ 20
  let sect := nbits jp 20 1
  let n := s.hdrField 52 2
  let (ba, bn) := s.boArea
  let (ja, jn) := (4096 * base, n * (if sect = 1 then 65536 else 4096))
  let slots := 0x400000 + 0x200000 + 256
  if overlaps ja jn ba bn ∨ overlaps ja jn 0 slots ∨ overlaps ba bn 0 slots then
    s.journal 0x1104 0 5 (jp + 2 ^ 32 * n)
  else
    let s := s.setFld JRN_NORBASE_BASE base
    let t := (Config.freeWord s.free).toNat
    let s := (((s.setFld JRN_NORT_TPP (t % 1024)).setFld JRN_NORT_TSE (t / 1024 % 64)).setFld JRN_NORT_TSUS (t / 65536 % 1024)).draw
    let s := (s.setFld JRN_NORGEO_SECT sect).setFld JRN_NORGEO_NSECT n
    (s.setFld JRN_CFG_NOREN 1).applyJrn

/-- The subsystem IDs are in place: configuration requests are answered (R434). -/
def State.setIds (s : State) (ids : Nat) : State := { s with hif := { s.hif with ids := some (ids % 65536, ids / 65536) } }

/-- A dword of the configuration header as far as the spec gives it (R338): device and vendor, class code, subsystem IDs; none is Configuration
Request Retry Status (R434). -/
def State.cfgDword (s : State) (a : Nat) : Option Nat :=
  s.hif.ids.bind (fun i =>
    if a = 0x00 then some (s.fld HIF_PCIID_VENDOR + 2 ^ 16 * s.fld HIF_PCIID_DEVICE)
    else if a = 0x08 then some (2 ^ 8 * s.hif.classCode)
    else if a = 0x2C then some (i.1 + 2 ^ 16 * i.2)
    else none)

/-- Phase 4 begins: LPDDR is no longer held in reset (R484). -/
def State.enterLpddr (s : State) : State := (s.setCastPhase 4).modBoot (fun b => { b with lpReset := false })

/-- An image is accepted (R433 to R435): its body is placed at LOAD, its region belongs to the Hub Controller, its IDs are the endpoint's, and phase
4 begins. -/
def State.acceptImage (s : State) (img : List Nat × List Nat) (slot : Nat) (aFailed : Option Nat) : State :=
  let (h, b) := img
  let s := s.modBoot (fun x => { x with hdr := h, fw := fieldLE h 28 1, waiting := false, fallback := aFailed })
  let s := { s with hub := memPut dflt0 s.hub (fieldLE h 12 4) b }
  let s := ((s.setFld PWR_CASTON_FAIL 0).setFld PWR_CASTON_SLOT slot).setFld PWR_BOOTCTL_GO 0
  let s := match aFailed with
    | some c => s.journal 0x1103 0 5 c
    | none => s
  (s.setIds (fieldLE h 20 4)).stagePartition.enterLpddr

/-- Cast-on ends in FAIL with code `c` (R431). -/
def State.castFail (s : State) (c : Nat) : State :=
  let p := s.castPhase
  let s := (s.setFld PWR_CASTON_FAIL c).setCastPhase 8
  (s.modBoot (fun b => { b with waiting := false })).journal 0x1101 0 7 (c + 2 ^ 8 * p)

/-- The ROM waits for an image over PCIe; the fused IDs stand (R434). -/
def State.awaitImage (s : State) : State := (s.modBoot (fun x => { x with waiting := true })).setIds Config.fusedIds.toNat

/-- The ROM looks for an image (R432, R433). -/
def State.findImage (s : State) : State :=
  let min := s.fld SEC_STATUS_MINSVN
  if s.boot.waiting then
    if s.flag PWR_BOOTCTL_GO then
      let i := s.hubImage
      match imageFails min i.1 i.2 with
      | none => s.acceptImage i 0 none
      | some _ => (s.setFld PWR_CASTON_FAIL 3).setFld PWR_BOOTCTL_GO 0
    else s
  else
    let a := s.norImage 0
    match imageFails min a.1 a.2 with
    | none => s.acceptImage a 0 none
    | some c =>
      let b := s.norImage 0x400000
      match imageFails min b.1 b.2 with
      | none => s.acceptImage b 1 (some c)
      | some _ =>
        if s.fld PWR_CASTON_SRC = 2 then s.awaitImage else s.castFail 3

/-! ### Phases 4 to 7 -/

/-- The memory fit keeps the subset of R498: 2, 4, 8 or 16 GiB. -/
def lpddrFits : Bool := [511, 1023, 2047, 4095].contains Config.lpddrInst.toNat

/-- LPDDR is trained, and the Journal mounts in parallel (R422, R423): without a mounted partition RESET is written all the same. -/
def State.lpddrPhase (s : State) : State :=
  let s := (s.setFld HIF_LPDDR_PAGE_INST Config.lpddrInst.toNat).setCastPhase 5
  let kind := s.fld PWR_RSTCAUSE_LAST
  if s.fld JRN_STATUS_NORST = 1 then s.mount kind else if s.jrn.opened then s else s.writeReset kind

/-- Purl training (R437): links that fail are retired, the others are up. -/
def State.purlPhase (s : State) (bad : List Nat) : State :=
  let s := (List.range 6).foldl (fun s l =>
    if bad.contains l then (s.fenceOne 6 l 8).fenceAfter 6 l
    else (s.setFld PURL_STAT_STATE 2 l).setFld PURL_STAT_CONV 1 l) s
  if bad.contains 4 ∧ bad.contains 5 then s.castFail 5 else s.setCastPhase 6

/-- A unit fails the swatch test (R436). -/
def State.swatchDrop (s : State) (kind idx test : Nat) : State :=
  let s := s.journal 0x1102 idx 6 (kind + 2 ^ 8 * idx + 2 ^ 16 * (test % 256))
  s.fenceOne kind idx 6

/-- The swatch test's outcome: the units that failed, each with its test; `none` where cast-on goes on, else the FAIL code. -/
def State.swatch (s : State) (cores ses : List (Nat × Nat)) (hubBad : Bool) : State × Option Nat :=
  let mask := fun (l : List (Nat × Nat)) => ((List.range 32).filter (fun n => (look l n).isSome)).foldl (fun a n => a + 2 ^ n) 0
  let cm := mask cores
  let s := s.setRegN PWR_SWATCH cm
  let s := (s.setFld PWR_CASTON_SE0DROP (mask ses % 2)).setFld PWR_CASTON_SE1DROP (mask ses / 2 % 2)
  let s := (bitsOf cm 32).foldl (fun s n => s.swatchDrop 0 n ((look cores n).getD 0)) s
  let s := (bitsOf (mask ses) 2).foldl (fun s k => s.swatchDrop 1 k ((look ses k).getD 0)) s
  let s := (List.range 2).foldl (fun s d => if cm / 65536 ^ d % 65536 = 65535 then s.fenceOne 5 d 6 else s) s
  (s, if s.dieDropped 0 && s.dieDropped 1 then some 6 else if hubBad then some 7 else none)

/-- A warm record of the bind-off area is offered back, and the area's erase begins with the sector that holds the mark (R443); that sector is erased
in this command (log 130). -/
def State.offerRecord (s : State) : State :=
  let (a, z) := s.boArea
  let n := s.norLE (a + 8) 4
  let rec_ := memBytes dfltF s.nor a (min n (z - 256))
  let good := decide (256 ≤ z ∧ s.norLE (a + z - 256) 4 = 0 ∧ s.norLE a 4 = 0x54524F42 ∧ 64 ≤ n ∧ n ≤ z - 256)
    && decide (crc32c (rec_.take 12 ++ [0, 0, 0, 0] ++ rec_.drop 16) = fieldLE rec_ 12 4)
  let s := ({ s with nor := norErase s.nor (a + z - 4096) 4096 }).modBoot (fun b => { b with erasing := true })
  if good then
    let ns := fieldLE rec_ 4 2
    let s := { s with hub := memPut dflt0 s.hub restoreBase rec_ }
    let s := (s.setFld PWR_BORESTORE_VALID 1).setFld PWR_BORESTORE_NSLOT ns
    s.journal 0x1105 0 3 (ns + 2 ^ 32 * fieldLE rec_ 16 4)
  else s

/-- The fields of a register that only the device writes. -/
def roMask (a : Nat) : Nat :=
  match cardAt a with
  | some c => c.fields.foldl (fun m f => if f.acc = .ro then m + (2 ^ f.w - 1) * 2 ^ f.lo else m) 0
  | none => 0

/-- A register at READY: what only the device writes stands, the rest is at its reset value. The Journal's registers hold what the firmware
committed (R435), and those of the debug block outlast a reset (R479). -/
def readyReg (p : Nat × Word) : Option (Nat × Word) :=
  if (0xC0000 ≤ p.1 ∧ p.1 < 0xD0000) ∨ (0xF0000 ≤ p.1 ∧ p.1 < 0x100000) then some p
  else
    let m := BitVec.ofNat 32 (roMask p.1)
    let v := (p.2 &&& m) ||| (regReset p.1 &&& ~~~ m)
    if v = regReset p.1 then none else some (p.1, v)

/-- READY (R438): the round engine in FREERUN, every register at its reset value, every store at the values of R258 but for the firmware region and the
Journal's buffer, no key. -/
def State.makeReady (s : State) (us : Nat) : State :=
  let fw := 65536 * s.boot.fw
  let s := { s with hub := s.hub.filter (fun c => decide (c.1 < fw)), data := [], inst := [], sol := [], rnd := {}, sec := { s.sec with keys := [] },
                    regs := (s.regs.filter (fun (p : Nat × Word) => decide (p.1 < 0x20000 ∨ 0x30000 ≤ p.1))).filterMap readyReg }
  let any := decide (s.regN PWR_DROP_CORE ≠ 0 ∨ s.regN PWR_DROP_UNIT ≠ 0)
    || (List.range 6).any (fun l => decide (s.fld PURL_STAT_STATE l = 3))
  let s := s.setFld PWR_CASTON_DEGRADED (if any then 1 else 0)
  let s := s.journal 0x1100 0 2 (us % 2 ^ 32 + 2 ^ 32 * s.fld PWR_CASTON_SRC + 2 ^ 40 * s.fld PWR_CASTON_SLOT + 2 ^ 48 * (s.hdrField 24 4 % 65536))
  let s := s.setCastPhase 7
  let svn : Nat := s.hdrField 6 2
  let old : Nat := s.fld SEC_STATUS_MINSVN
  (if (s.hdrField 29 1).testBit 0 && decide (old < svn) then (s.setFld SEC_STATUS_MINSVN svn).secReport 6 0 5 (old + 2 ^ 16 * svn) else s).offerRecord

/-- Phase 2 begins: BOOT[1:0] is sampled (R432). -/
def State.enterRom (s : State) (boot : Nat) : State := (s.setCastPhase 2).setFld PWR_CASTON_SRC (boot % 4)

/-- Phase 3 begins, with the source that was sampled (R432). -/
def State.enterFirmware (s : State) : State :=
  let s := s.setCastPhase 3
  if s.fld PWR_CASTON_SRC = 3 then s.castFail 3 else if s.fld PWR_CASTON_SRC = 1 then s.awaitImage else s

/-- The phase in which cast-on stands completes, or fails (Table 19.2). -/
def State.phaseDone (s : State) (i : CastInfo) : State :=
  match s.castPhase with
  | 0 => s
  | 1 => if i.ok then s.enterRom i.boot else s.castFail 1
  | 2 => if i.ok then s.enterFirmware else s.castFail 2
  | 3 => s.findImage
  | 4 => if i.ok && lpddrFits then s.lpddrPhase else s.castFail 4
  | 5 => s.purlPhase i.links
  | 6 =>
    let (s, f) := s.swatch i.cores i.ses i.hubStore
    match f with
    | some c => s.castFail c
    | none => s.makeReady i.us
  | _ => s

/-- Cast-on phase 1 begins at the later of POR release and RESET_N going high (R484). -/
def State.leavePor (s : State) : State := if s.castPhase = 0 ∧ s.boot.porOut ∧ s.boot.resetN then s.setCastPhase 1 else s

/-- CASTON_PHASE_DONE (R431): in phase 0 the internal POR releases (R483), later a phase completes. Cast-on waits while RESET_N is low (R484). -/
def execCastonPhaseDone (i : CastInfo) (s : State) : Out :=
  .next (if s.castPhase = 0 then (s.modBoot (fun b => { b with porOut := true })).leavePor
    else if s.boot.resetN ∧ s.boStage = 0 then s.phaseDone i else s)

/-- CASTON_PHASE_TIMEOUT (R431): the FAIL code is the phase's; the wait for a PCIe image has no limit, and phase 0 ends in no FAIL. -/
def execCastonPhaseTimeout (s : State) : Out :=
  .next (if s.boot.resetN ∧ s.boStage = 0 ∧ 1 ≤ s.castPhase ∧ s.castPhase ≤ 6 ∧ ¬ s.boot.waiting then s.castFail s.castPhase else s)

/-- BOOT_GO: a write of PWR_BOOTCTL.GO. It stays 1 while the ROM, which waits for a PCIe image, verifies it. -/
def State.bootGo (s : State) : State := if s.castPhase = 3 ∧ s.boot.waiting then s.setFld PWR_BOOTCTL_GO 1 else s
def execBootGo (s : State) : Out := .next s.bootGo

/-- RESET_N_HIGH (R484): cast-on begins where the internal POR has released. -/
def execResetNHigh (s : State) : Out := .next (s.modBoot (fun b => { b with resetN := true })).leavePor

/-- BIND_OFF_AREA_ERASED (R443): the rest of the area is erased, and a flush that waited for the erase starts (R421). A flush that runs has suspended
the erase. -/
def execBindOffAreaErased (s : State) : Out :=
  if s.boot.erasing ∧ s.jrn.flushing.isNone ∧ s.boStage < 4 then
    let (a, z) := s.boArea
    let s := (({ s with nor := norErase s.nor a z }).modBoot (fun b => { b with erasing := false })).setFld PWR_BOSTAT_BOREADY 1
    .next (if s.jrn.pend ∧ ¬ s.jrn.off then s.startFlush else s)
  else .next s

/-! ### Resets (R429) -/

/-- PWR_RSTCAUSE after a reset of kind `k` (Table 19.1). -/
def State.noteReset (s : State) (k : Nat) : State :=
  let s := s.setFld PWR_RSTCAUSE_PREV (s.fld PWR_RSTCAUSE_LAST)
  (s.setFld PWR_RSTCAUSE_LAST k).count PWR_RSTCAUSE_COUNT

/-- What survives a reset in the register file: the fuses and OTP behind SEC_STATUS; but for POR, PWR_RSTCAUSE; but for POR and PIN, the
DBG registers (R479) and TMP_STATUS.TRIP (R462). -/
def State.keptRegs (s : State) (k : Nat) : List (Nat × Word) :=
  let sec := State.reset.setFld SEC_STATUS_JCKSET (s.fld SEC_STATUS_JCKSET)
  let t := sec.setFld SEC_STATUS_MINSVN (s.fld SEC_STATUS_MINSVN)
  let t := if k = 0 then t else t.setReg PWR_RSTCAUSE.base (s.reg PWR_RSTCAUSE.base)
  let t := if k ≤ 1 then t
    else
      let t := (s.regs.filter (fun p => decide (0xF0000 ≤ p.1 ∧ p.1 < 0x100000))).foldl (fun t p => t.setReg p.1 p.2) t
      let t := (t.setRegN DBG_HALTED 0).setRegN DBG_HALT 0
      t.setFld TMP_STATUS_TRIP (s.fld TMP_STATUS_TRIP)
  t.regs

/-- A reset of kind `k`: the machine after reset, with what survives; cast-on starts from the phase of Table 19.1. What BOOT[1:0] show at a phase 2
that a reset begins is a free value (R432, log 139). -/
def State.restart (s : State) (k : Nat) : State :=
  let t : State := { State.reset with
    rings := s.rings.map (fun _ => {}), cores := s.cores.map (fun _ => {}), engines := s.engines.map (fun _ => {}),
    chk := s.chk.map (fun _ => {}), ports := s.ports.map (fun _ => {}), pending := s.pending, regs := s.keptRegs k, nor := s.nor, host := s.host, free := s.free, sec := { jck := s.sec.jck },
    boot := { resetN := s.boot.resetN, porOut := decide (k ≠ 0), lpReset := decide (k = 0) || s.boot.lpReset }, tap := if k = 0 then {} else s.tap }
  let t := if k ≤ 1 then t
    else { t with cores := s.cores.map (fun c => { (({} : Core)) with dbg := c.dbg }) }
  if k = 0 then t else ((t.noteReset k).enterRom (Config.pick s.free 0)).draw

/-- A reset that bind-off latches until stage 6 (R440). The pulse of RESET_N, or the write of PWR_RSTCTL, that ends a TEST bind-off in stage 6 starts a
BROWNOUT reset. -/
def State.askReset1 (s : State) (k : Nat) : State :=
  if s.binding then s.modBoot (fun b => { b with held := some (b.held.getD k) })
  else if s.boStage = 6 ∧ s.boot.trig = 2 then s.restart 2
  else s.restart k

/-- POWER_ON_RESET: also in bind-off (R483). -/
def execPowerOnReset (s : State) : Out := .next (s.restart 0)

/-- PIN_RESET. RESET_N is low now; before the internal POR has released that is all (R484). -/
def execPinReset (s : State) : Out :=
  .next ((if s.castPhase = 0 then s else s.askReset1 1).modBoot (fun b => { b with resetN := false }))

/-- HOST_RESET. -/
def execHostReset (s : State) : Out := .next (s.askReset1 3)

/-- DEBUG_RESET (R479). -/
def execDebugReset (s : State) : Out := .next (s.askReset1 5)

/-- The registers of ring `k` are at their reset values. -/
def State.clearRing (s : State) (k : Nat) : State :=
  let s := ((s.setRegN CMD_CTRL 0 k).setRegN CMD_STATE 0 k).setRegN CMD_FLUSHSEQ 0 k
  (((s.setRegN CMD_PROD 0 k).setRegN CMD_CONS 0 k).setRegN CMD_CCONS 0 k).setRegN CMD_CPROD 0 k

/-- The rings stop and their indices are zero; running commands end without completion, and a PAT_ACTIVATE that waits is withdrawn; the MSI-X table and
the PBA reset (R371). -/
def State.resetRings (s : State) : State :=
  let waits := s.rings.any (fun r => match r.run with
    | some c => decide (c.wait = .activate)
    | none => false)
  let s := { s with rings := s.rings.map (fun _ => {}), sring := { s.sring with pseq := 0 } }
  let s := (List.range 4).foldl (fun s k => s.clearRing k) s
  let s := ((s.setFld CMD_SCFG_EN 0).setRegN CMD_SPROD 0).setRegN CMD_SCONS 0
  let s := (s.clearRegs 0x8000 0x400).clearRegs 0x9000 8
  if waits then s.cancelAct else s

/-- DATA of the RESET record of a kind (Table 18.3). -/
def State.resetData (s : State) (kind : Nat) : Nat := s.fld JRN_DIRTY_COUNT + 2 ^ 16 * kind + 2 ^ 32 * s.jrn.recovered

/-- HCRESTART (R430): the copy in the hub store is verified again; if it fails, a HOST reset follows. -/
def State.hcRestart (s : State) : State :=
  let b := s.hubBytes (s.hdrField 12 4) (min (s.hdrField 8 4) (2 ^ 21))
  match imageFails (s.fld SEC_STATUS_MINSVN) s.boot.hdr b with
  | some _ => s.askReset1 3
  | none =>
    let s := s.resetRings.noteReset 4
    s.journal 0x0002 0 (if 0 < s.fld JRN_DIRTY_COUNT then 5 else 3) (s.resetData 4)

/-- ACTION 2 of PWR_RSTCTL. In stage 6 it releases a TEST bind-off (R440), and no other clock runs. -/
def State.askHcrestart (s : State) : State :=
  if s.boStage = 6 then (if s.boot.trig = 2 then s.restart 2 else s) else s.hcRestart

/-- HCRESTART. -/
def execHcrestart (s : State) : Out := .next s.askHcrestart

/-- HC_WATCHDOG_EXPIRY (R430): not in stage 6, where its clock has stopped. -/
def execHcWatchdogExpiry (s : State) : Out := .next (if s.boStage = 6 then s else s.hcRestart)

/-- HUB_ECC (R456): the word at hub-store offset `ofs` is lost; `hc` says that the Hub Controller met it. -/
def execHubEcc (ofs : Nat) (hc : Bool) (s : State) : Out :=
  let s := s.hubBad (ofs % 2 ^ 32)
  .next (if hc ∧ ofs < 65536 * s.boot.fw then s.hcRestart else s)

/-! ### Bind-off (R439 to R442) -/

/-- Stage 1: bind-off freezes, the Journal prepares no more sectors (R426); what waits on a ring ends with ST_CMD_BINDOFF (R370). -/
def State.bindOff (s : State) (trig : Nat) : State :=
  if s.boStage ≠ 0 then s
  else
    let s := (s.setBoStage 1).modBoot (fun b => { b with
      trig := trig, aborted := 0, solved := (0, 0), halted := false, stamp := [], sev7 := 0, held := none, done := false })
    let s := s.journal 0x1106 0 6 (trig + 2 ^ 32 * s.fld PWR_BOSTAT_TPLAN)
    (s.freezeJrn.health 0x1006 0xFF00).settle (fun _ w => if w = .running then none else some (0x0D, []))

/-- PWRFAIL, unless boundary scan holds the ball (R468). -/
def execPwrfail (s : State) : Out := .next (if s.cutOff then s else s.bindOff 0)

/-- HUB_RAIL_TRIP (R483). -/
def execHubRailTrip (s : State) : Out := .next (s.bindOff 1)

/-- BINDOFF_TEST. -/
def execBindoffTest (s : State) : Out := .next (s.bindOff 2)

/-- Time goes on to the first tick of the next stitch, unless the opening of this one is still to come. -/
def State.toStitch (s : State) : State :=
  if s.rnd.stitchDue ∨ ¬ s.ready then s
  else (s.runTicks (s.ticksTo (2 ^ 22))).modRnd (fun r => { r with stitchDue := true })

/-- The solve of engine `k` may finish: what is left of its bound is at most BO_SOLMAX (in cycles of 800 MHz). -/
def State.solveMayFinish (s : State) (k : Nat) (v : Solve) : Bool :=
  decide (5 * s.slotW false k v.slot ≤ 5 * 8000 * s.live PWR_BOCFG_SOLMAX + 16 * (s.rnd.clk - v.startAt))

/-- Instances that run on a core or a re-process pipeline. -/
def State.runningInsts (s : State) : Nat :=
  (s.pat.insts.filter (fun x => x.parts.any (fun p => decide (p.st = 1 ∧ p.res ≠ 32 ∧ p.res ≠ 33)))).length

/-- Stage 2 (Table 19.4), and stage 3 begins. Before the firmware is verified stages 2 to 4 do nothing. -/
def State.boHalt (s : State) : State :=
  let early := decide (s.castPhase ≤ 3) || (decide (s.castPhase = 8) && s.boot.hdr.isEmpty)
  let n := s.runningInsts
  let s := (s.setBoStage 2).modBoot (fun b => { b with halted := true, aborted := n, stamp := s.stampNow })
  if early then s.setBoStage 5
  else
    let s := (List.range 32).foldl (fun s i => s.abortJob i) s
    let s := (List.range 2).foldl (fun s q => s.abortRp q) s
    let s := (List.range 2).foldl (fun s k => match (s.engine k).run with
      | some v => if s.solveMayFinish k v then s else s.abortSolve k
      | none => s) s
    let s := (List.range 6).foldl (fun s p => s.modCamPort p (fun c => { c with plan := none })) s
    let left := (s.engines.filter (fun e => e.run.isSome)).length
    let s := s.journal 0x1107 0 6 (n % 65536 + 2 ^ 16 * left)
    (s.setBoStage 3).startFlush.endSolves

/-- BINDOFF_HALT: at the first tick of the stitch after the freeze. -/
def execBindoffHalt (s : State) : Out := .next (if s.boStage = 1 then s.toStitch.boHalt else s)

/-- The Journal has nothing left that it could flush, and its erase has ended or is suspended (R426). -/
def State.jrnQuiet (s : State) : Bool :=
  s.jrn.intake.isEmpty && s.jrn.flushing.isNone && (s.jrn.erase.isNone || s.flag JRN_STATUS_SUSP)
    && (s.unflushed.isEmpty || decide (s.fld JRN_STATUS_NORST ≠ 2)
        || (s.jrn.prepared.isNone && (!s.jrn.active || decide (s.sectSlots ≤ s.activeSlot))))

/-- BINDOFF_JOURNAL_DONE: stage 3 ends when no solve runs and nothing is unflushed. -/
def execBindoffJournalDone (s : State) : Out :=
  .next (if s.boStage = 3 ∧ s.engines.all (fun e => e.run.isNone) ∧ s.jrnQuiet then s.setBoStage 4 else s)

/-- A warm area to save: engine and slot. -/
def State.warmSlots (s : State) : List (Nat × Nat) :=
  (List.range 2).flatMap (fun e => (bitsOf (s.liveN PWR_BOWARM e) 32).filterMap (fun i =>
    if (s.pslot e i).warm.isSome then some (e, i) else none))

/-- WARMWORDS of the program of slot (k, i). -/
def State.warmWords (s : State) (k i : Nat) : Nat :=
  let a := s.progAt false k i
  (laceProg (s.laceHead k a) a).warmw

/-- The entry of a slot in the bind-off record, with its warm words and the SEQ of the solve that wrote them (Table 19.5). -/
def State.warmEntry (s : State) (k i : Nat) : List Nat :=
  let w := s.warmWords k i
  [k * 32 + i, 0] ++ toBytes 2 w ++ toBytes 4 (s.pslot k i).warmSeq ++ toBytes 4 ((s.pslot k i).warm.getD 0) ++ [0, 0, 0, 0]
    ++ memBytes dflt0 s.sol (solAt k (64 * s.live SOL_SLOTWARM_WARM k i)) (8 * w)

/-- The entries that fit in `room` bytes, and the first slot id that does not. -/
def fitEntries (room : Nat) : List (Nat × List Nat) → List (List Nat) × Option Nat
  | [] => ([], none)
  | (id, e) :: t => if e.length ≤ room then let (a, x) := fitEntries (room - e.length) t; (e :: a, x) else ([], some id)

/-- The bind-off record: its bytes and the first slot skipped. -/
def State.boRecord (s : State) : List Nat × Option Nat :=
  let (_, z) := s.boArea
  let (es, skip) := fitEntries (z - 256 - 64) (s.warmSlots.map (fun q => (q.1 * 32 + q.2, s.warmEntry q.1 q.2)))
  let body := es.flatten
  let head := fun (crc : Nat) => toBytes 4 0x54524F42 ++ toBytes 2 es.length ++ [0, 0] ++ toBytes 4 (64 + body.length) ++ toBytes 4 crc
    ++ s.boot.stamp ++ toBytes 4 (s.regN JRN_FLUSHED) ++ List.replicate 20 0
  (head (crc32c (head 0 ++ body)) ++ body, skip)

/-- WARM_SAVE_DONE (R441): record and mark are programmed, or WARM_SKIP says why not. -/
def execWarmSaveDone (s : State) : Out :=
  if s.boStage ≠ 4 then .next s
  else if ¬ s.flag PWR_BOSTAT_BOREADY then
    let first := ((s.warmSlots.head?).map (fun q => q.1 * 32 + q.2)).getD 0
    .next ((s.journal 0x1109 0 5 (2 ^ 8 * first)).setBoStage 5)
  else
    let (a, z) := s.boArea
    let (bs, skip) := s.boRecord
    let s := (s.program a bs).program (a + z - 256) [0, 0, 0, 0]
    let s := match skip with
      | some i => s.journal 0x1109 0 5 (1 + 2 ^ 8 * i)
      | none => s
    .next ((s.setFld PWR_BOSTAT_BOREADY 0).setBoStage 5)

/-- Stage 5: the transmitters are idle, CAM_FSYNC inactive, LPDDR in self-refresh, the PCIe link down (log 138). -/
def State.park (s : State) : State :=
  let s := (s.setFld CAM_FSSTAT_ACTIVE 0).setRegN HIF_LINK 0
  ({ s with hif := { s.hif with linkUp := false } }).modBoot (fun b => { b with parked := true })

/-- BINDOFF_PARK_DONE: stage 6. BINDOFF_DONE is high, and a reset that waited acts. -/
def execBindoffParkDone (s : State) : Out :=
  if s.boStage = 5 then
    let s := (s.park.setBoStage 6).modBoot (fun b => { b with done := true })
    match s.boot.held with
    | some k => .next (s.askReset1 k)
    | none => .next s
  else .next s

/-- The levels of the other low-speed outputs before READY, in FAIL and in stage 6 (Table 22.7), none where boundary scan holds them (R468): low, high, or
not driven. -/
inductive Ball where
  | low | high | off
  deriving DecidableEq, Repr

/-- BINDOFF_DONE, THERMTRIP_N, LPA_RESET_N and LPB_RESET_N (no boundary cell), QSPI_SCK, QSPI_CS_N, QSPI_IO, I2C_SCL and I2C_SDA, TDO. A level that the work of the flash, the
sensors or the TAP decides is none. -/
structure Balls where
  bindoffDone : Option Ball
  thermtrip : Option Ball
  lpReset : Ball
  sck : Option Ball
  cs : Option Ball
  io : Option Ball
  i2c : Option Ball
  tdo : Option Ball
  deriving DecidableEq, Repr

def State.balls (s : State) : Balls :=
  let rest := decide (s.castPhase ≠ 7) || decide (s.boStage = 6)
  let mine := fun (b : Ball) => if s.cutOff then none else some b
  let held := fun (b : Ball) => if rest && !s.cutOff then some b else none
  { bindoffDone := mine (if s.boot.done then .high else .low), thermtrip := mine (if s.flag TMP_STATUS_TRIP then .low else .off),
    lpReset := if s.boot.lpReset then .low else .high, sck := held .low, cs := held .high, io := held .off, i2c := held .off,
    tdo := if rest then some .off else none }

/-- BROWNOUT (R440): in stage 6, power has been good for 10 ms. -/
def execBrownout (s : State) : Out := .next (if s.boStage = 6 ∧ s.boot.trig ≠ 2 then s.restart 2 else s)

/-! ### The reference clock (R490) -/

/-- PWR_REFSTAT.PPM: measured against PPS, a free value while it is valid. -/
def State.refPpm (s : State) : Nat := if s.flag RND_STATUS_PPS_LOCK then (Config.freeWord s.free).toNat % 65536 else s.fld PWR_REFSTAT_PPM

def State.railReport (s : State) (b sev : Nat) : State :=
  (s.report PWR_RAILEVT.base PWR_RAILEN.base b 7 (0x0E20 + b) 0 sev s.refPpm).draw

/-- REFCLK_LOST. -/
def execRefclkLost (s : State) : Out :=
  .next (if s.flag PWR_REFSTAT_LOST then s else (s.setFld PWR_REFSTAT_LOST 1).railReport 0 6)

/-- REFCLK_RETURN. -/
def execRefclkReturn (s : State) : Out :=
  .next (if s.flag PWR_REFSTAT_LOST then (s.setFld PWR_REFSTAT_LOST 0).railReport 1 3 else s)

end Sys2Proof.Machine
end

