-- ==== Sys2Proof/Machine/Stitch.lean ====
section
/-! DEFINITION. Machine/Stitch.lean: the safe points of staged sets (R95, R96), what opens a stitch and a round (R48, R146, R222), and how time
passes. -/

namespace Sys2Proof.Machine
open Sys2Proof Sys2Proof.Machine.Reg

/-! ### COMMIT and safe points (R95, R96, Table 4.5) -/

/-- The COMMIT bit of a block, with its indices. -/
def Block.commit : Block → Fld × Nat × Nat
  | .rnd => (RND_CTRL_COMMIT, 0, 0)
  | .wfm => (WFM_CTRL_COMMIT, 0, 0)
  | .mol p => (MOL_CTRL_COMMIT, p, 0)
  | .mesh => (MESH_CTRL_COMMIT, 0, 0)
  | .pwr => (PWR_HCTRL_COMMIT, 0, 0)
  | .bo => (PWR_BOCTRL_COMMIT, 0, 0)
  | .cam p => (CAM_PCTRL_COMMIT, p, 0)
  | .camTx => (CAM_TXCTRL_COMMIT, 0, 0)
  | .lp p => (ISP_LPCTRL_COMMIT, p, 0)
  | .rpCtx q c => (ISP_RPCCTRL_COMMIT, q, c)
  | .core n => (CORE_CTRL_COMMIT, n, 0)
  | .slot k i => (SOL_SLOTCTRL_COMMIT, k, i)
  | .fbr w => (FBR_WCTRL_COMMIT, w, 0)
  | .chk u => (CHK_CTRL_COMMIT, u, 0)
  | .jrn => (JRN_CTRL_COMMIT, 0, 0)

/-- The block's COMMIT waits for its safe point. -/
def State.committed (s : State) (b : Block) : Bool := s.flag b.commit.1 b.commit.2.1 b.commit.2.2

/-- No frame of context (q, c) runs or is queued (R202). -/
def State.ctxIdle (s : State) (q c : Nat) : Bool :=
  (match (s.rp q).run with
    | some r => decide (r.ctx ≠ c)
    | none => true)
  && !((s.fld ISP_RPKICK_KICK q).testBit c)
  && !(s.pat.insts.any (fun x => decide (x.kind = 5 ∧ x.target = 16 * q + c) && x.parts.any (fun p => decide (p.st ≠ 2))))

/-- The block is at its safe point; a DROPPED unit reaches none. -/
def State.safeNow (s : State) : Block → Bool
  | .rnd | .wfm | .mol _ | .mesh | .pwr | .bo => s.atRound
  | .cam p => s.camSafe p && !(s.camDropped p)
  | .camTx => !(s.flag PWR_DROP_UNIT_TX)
  | .lp p => (s.lp p).frames.isEmpty && !(s.lpDropped p)
  | .rpCtx q c => s.ctxIdle q c && !(s.rpDropped q)
  | .core n => !(s.busy n) && !(s.coreDropped n)
  | .slot k i => s.slotIdle k i && !(s.engineDropped k)
  | .fbr w => (s.winSegs w).isEmpty
  | .chk _ => true
  | .jrn => true

/-- The bind-off set takes effect (R442). -/
def State.applyBo (s : State) : State :=
  let s := (s.setFld PWR_BOCTRL_COMMIT 0).apply1 PWR_BOCFG 0 0
  ((s.apply1 PWR_BOWARM 0 0).apply1 PWR_BOWARM 1 0).notePlan

/-- The staged set is validated, and takes effect or is rejected as a whole (R97). -/
def State.applySet (s : State) (ecc : Bool) : Block → State
  | .rnd => s.applyRnd
  | .wfm => s.applyWfm
  | .mol p => s.applyMol p
  | .mesh => s.applyMesh
  | .pwr => s.applyPwr
  | .bo => s.applyBo
  | .cam p => s.applyCam p
  | .camTx => s.applyTx
  | .lp p => s.applyLp p ecc
  | .rpCtx q c => s.applyRp q c ecc
  | .core n => s.applyCore n
  | .slot k i => s.applySlot k i
  | .fbr w => s.winPoint w
  | .chk u => s.applyChk u
  | .jrn => s.applyJrn

/-- The block's set is taken if its COMMIT waits and this is its safe point. -/
def State.safePoint (s : State) (ecc : Bool) (b : Block) : State := if s.committed b && s.safeNow b then s.applySet ecc b else s

/-- COMMIT is written (R95). A check unit's queue is empty between commands, so its set takes effect in that clock, before any later read (R396). -/
def State.writeCommit (s : State) (b : Block) : State :=
  match b with
  | .fbr w => s.commitWin w
  | .chk u => s.applyChk u
  | b => s.setFld b.commit.1 1 b.commit.2.1 b.commit.2.2

/-- STAGED_SET_APPLY (R97): `ecc` says that the hub-store block the set names meets an uncorrectable error as it is read (R187). -/
def execStagedSetApply (b : Block) (ecc : Bool) (s : State) : Out := if b.ok then .next (s.safePoint ecc b) else .fault .noSuchUnit

/-- Blocks whose safe point is the first clock that meets a condition. -/
def freeBlocks : List Block :=
  (List.range 6).map .cam ++ [.camTx] ++ (List.range 6).map .lp ++ (List.range 32).map (fun i => .rpCtx (i / 16) (i % 16))
    ++ (List.range 32).map .core ++ (List.range 64).map (fun i => .slot (i / 32) (i % 32)) ++ (List.range 16).map .fbr
    ++ (List.range 8).map .chk ++ [.jrn]

/-! ### A round opens (R48, R413, R448, R456) -/

/-- What is counted or recorded once a round starts again. -/
def State.newRound (s : State) : State :=
  let s := s.modMesh (fun m => { m with once := [], replays := [] })
  let s := (List.range 2).foldl (fun s k => s.modEngine k (fun e => { e with slots := e.slots.map (fun p => { p with once := [] }) })) s
  s.modHlth (fun h => { h with ecc := [], eccDone := [] })

/-- Stitch 0 is the block's safe point: its set is taken if its COMMIT waits. -/
def State.roundPoint (s : State) (b : Block) : State := if s.committed b then s.applySet false b else s

/-- Stitch 0: the Round engine first (R48), then every staged set that takes effect here, then what a round ends in other blocks, then
deactivation and activation (R65). -/
def State.openRound (s : State) : State :=
  let s := s.noteRound
  let s := s.roundPoint .rnd
  let s := s.checkBand
  let s := if s.revertDue then s.switchRef true else s
  let s := ([Block.wfm, .mesh, .pwr, .bo] ++ (List.range 6).map Block.mol).foldl State.roundPoint s
  ((s.newRound.jrnRound).molRound).chkExpire.patRound

/-! ### A stitch opens (R146, R222) -/

/-- The units of the streams that a node sends in this stitch of an image activated at round `cnt`. -/
def State.unitsSent (s : State) (im : Image) (shed : List Nat) (cnt node : Nat) : Nat :=
  let at_ := (s.count48 + 2 ^ 48 - cnt) % 2 ^ 48 % max 1 im.rounds * 1024 + s.stitch
  ((s.heldStreams im shed).filter (fun p => decide (p.2.send = at_ ∧ p.2.src = node))).foldl (fun a p => a + p.2.units) 0

/-- The DEADLINE budget of a node in this stitch: the units of the streams it sends. The reservations last until the last instance of a
deactivated Pattern completes (R65). -/
def State.budgetOf (s : State) (node : Nat) : Nat :=
  if s.boot.halted then 0
  else
    ((s.pat.active.map (fun im => s.unitsSent im s.pat.shed s.actCnt node)).getD 0)
      + s.pat.drains.foldl (fun a d => a + s.unitsSent d.im d.shed d.cnt node) 0

/-- The budgets of the stitch are loaded; what was left of the last one has expired. -/
def State.loadBudgets (s : State) : State :=
  let s := (List.range 32).foldl (fun s n => s.modCore n (fun c => { c with budget := s.budgetOf n, budget0 := s.budgetOf n })) s
  s.modMesh (fun m => { m with hubBudget := s.budgetOf 34, hubBudget0 := s.budgetOf 34 })

/-- What happens at the first tick of a stitch; `round` says that stitch 0 has come. -/
def State.openNow (s : State) (round : Bool) : State :=
  let s := if s.boStage = 1 then s.boHalt else s
  let s := if s.frozenAdm then s else s.applyReadmit
  let s := if round then s.openRound else s
  let s := s.loadBudgets.finalizeDue.firePattern
  let s := (List.range 6).foldl (fun s p => (s.rateRefill p).cadenceStitch p) s
  s.modRnd (fun r => { r with stitchDue := false })

/-- The stitch that has begun opens. -/
def State.openStitch (s : State) : State := if s.rnd.stitchDue then s.openNow (decide (s.stitch = 0)) else s

/-- The device's clocks run: it is READY, and bind-off has not stopped them (Table 19.4). -/
def State.runs (s : State) : Bool := s.ready && decide (s.boStage ≠ 6)

/-- `s` has come of `old` by a crossing: where that stepped PHASE into another stitch (R28), the stitch opens, with a round if the step passed
stitch 0 or left one that had not opened yet (R48). -/
def State.afterStep (s old : State) : State :=
  if s.runs ∧ s.absStitch ≠ old.absStitch then s.openNow (decide (s.roundNo ≠ old.roundNo) || old.rnd.stitchDue && decide (old.stitch = 0)) else s

/-- VOLTAGE_CROSSING (R31): the samples of the reference voltage channel pass zero upward. -/
def execVoltageCrossing (ago : Nat) (below above : Side) (period : Nat) (s : State) : Out :=
  .next ((s.voltCross ago below.near above.near period below.far above.far).afterStep s)

/-- ZC_EDGE (R32). -/
def execZcEdge (ago : Nat) (rising : Bool) (s : State) : Out := .next (if s.cutOff then s else (s.zcCross ago rising).afterStep s)

/-- The next stitch begins and opens. -/
def State.nextStitch (s : State) : State := if s.runs then s.toStitch.openStitch else s

/-- STITCH_BOUNDARY (R146). -/
def execStitchBoundary (s : State) : Out := .next s.nextStitch

/-- Stitches begin until a stitch 0 has opened. -/
def State.toRound : Nat → State → State
  | 0, s => s
  | n + 1, s =>
    let s := s.toStitch
    if s.stitch = 0 then s.openStitch else State.toRound n s.openStitch

/-- ROUND_BOUNDARY (R48): the round's stitches pass, and the next one opens. -/
def execRoundBoundary (s : State) : Out := .next (if s.runs then s.toRound 1024 else s)

/-- One tick of the 250 MHz clock, in which no command comes: sets at their first-clock safe points are taken, a stitch that has begun opens, or
time goes on. -/
def State.tick (s : State) : State :=
  if ¬ s.runs then s
  else
    let s := freeBlocks.foldl (fun s b => s.safePoint false b) s
    if s.rnd.stitchDue then s.openStitch
    else
      let last := decide (s.ticksTo (2 ^ 22) ≤ 1)
      let s := s.runTicks 1
      if last then s.modRnd (fun r => { r with stitchDue := true }) else s

end Sys2Proof.Machine
end

