-- ==== Sys2Proof/Machine/Debug.lean ====
section
/-! DEFINITION. Machine/Debug.lean: attaching, halting, resuming and stepping cores, core debug registers, and the views of engines and
pipelines (R471 to R478). -/

namespace Sys2Proof.Machine
open Sys2Proof Sys2Proof.Machine.Reg

def State.attached (s : State) : Bool := s.flag DBG_CTRL_ATTACH

/-- A requester as DATA of ATTACH names it. -/
def Requester.code : Requester → Nat
  | .host => 0
  | .hub => 1
  | .debug => 2

/-- ATTACH is written (R470, R471): clearing it resumes every halted core and disables every breakpoint and watchpoint. -/
def State.writeAttach (s : State) (rq : Requester) (on : Bool) : State :=
  if on then
    if s.attached ∨ s.flag DBG_STATUS_FUSEDIS then s
    else (s.setFld DBG_CTRL_ATTACH 1).dbgReport 0 4 0 rq.code
  else if s.attached then
    let s := s.setFld DBG_CTRL_ATTACH 0
    let s := (List.range 32).foldl (fun s n =>
      (s.resumeCore n none).modCore n (fun c => { c with
        dbg := (List.range 8).map (fun j => let v := c.dbg.getD j 0; if j = 5 ∨ j = 7 then v else v / 2 * 2) })) s
    s.dbgReport 1 3 0 rq.code
  else s

/-- SIDEFX is written (R101); a change is an event. -/
def State.writeSidefx (s : State) (on : Bool) : State :=
  if on = s.flag DBG_CTRL_SIDEFX then s
  else (s.setFld DBG_CTRL_SIDEFX (if on then 1 else 0)).dbgReport 5 4 0 (if on then 1 else 0)

/-- A halt of the cores of `mask` is requested (R472); a core that is HALTED or DROPPED has nothing to halt. -/
def State.askHalt (s : State) (mask : Nat) : State :=
  (bitsOf mask 32).foldl (fun s n =>
    if (s.core n).halted ∨ s.coreDropped n then s else s.setReg DBG_HALT.base (setBits (s.reg DBG_HALT.base) n 1 1)) s

/-- The halted cores of `mask` resume (R475). -/
def State.resumeMask (s : State) (mask : Nat) : State := (bitsOf mask 32).foldl (fun s n => s.resumeCore n none) s

/-- Core `n` is stepped for `count` instructions (R475). -/
def State.stepCore (s : State) (n count : Nat) : State := if count = 0 then s else s.resumeCore n (some count)

/-- A write that R471 discards while no debugger is attached. -/
def State.whenAttached (s : State) (rq : Requester) (src off v : Nat) (f : State → State) : State :=
  if s.attached then f s else (s.accErr rq src .roWrite true 15 off v).respondErr rq true 4

/-- HIF_ACCERR.SRC of a requester on BAR0; the debug port's log has 0. -/
def srcOf : Requester → Nat
  | .hub => 3
  | _ => 0

/-! ### Core debug registers (R476, Table 21.4) -/

/-- Bits of breakpoint register `i` (96 to 103). -/
def dbgMask (i : Nat) : Nat := if i < 100 then 0xFFFD else if i % 2 = 0 then 0xFFFFF else 0xFFFF8

/-- Registers 0 to 32 and 64 to 75 need a halted core. -/
def needsHalt (i : Nat) : Bool := decide (i ≤ 32 ∨ (64 ≤ i ∧ i ≤ 75))

/-- The value of debug register `i` of core `n`; an index the table does not list reads 0. -/
def State.dbgValue (s : State) (n i : Nat) : Nat :=
  if needsHalt i && !(s.core n).halted then 0
  else if i < 32 then s.gpr n i
  else if i = 32 then s.pc n
  else if i = 33 then (s.core n).hcause
  else if 64 ≤ i ∧ i ≤ 75 then (s.csr n (i - 64)).getD 0
  else if 96 ≤ i ∧ i ≤ 103 then (s.core n).dbg.getD (i - 96) 0
  else 0

/-- DBG_STATUS.NOTHALTED after an access that needed a halted core. -/
def State.noteHalted (s : State) (n i : Nat) : State :=
  if needsHalt i && !(s.core n).halted then s.setFld DBG_STATUS_NOTHALTED 1 else s

def State.dbgSet (s : State) (n i v : Nat) : State :=
  let s := s.noteHalted n i
  if needsHalt i && !(s.core n).halted then s
  else if i < 32 then s.setGpr n i v
  else if i = 32 then s.setPc n (v % 65536 / 4 * 4)
  else if 64 ≤ i ∧ i ≤ 75 then (s.setCsr n (i - 64) v).getD s
  else if 96 ≤ i ∧ i ≤ 103 then s.modCore n (fun c => { c with dbg := c.dbg.set (i - 96) (v &&& dbgMask i) })
  else s

/-- The core and index that DBG_CORESEL selects. -/
def State.coreSel (s : State) : Nat × Nat := (s.fld DBG_CORESEL_CORE, s.fld DBG_CORESEL_INDEX)

/-- What a read of DBG_COREDATA returns. -/
def State.coreData (s : State) : Nat := s.dbgValue s.coreSel.1 s.coreSel.2

/-- A write of DBG_COREDATA. -/
def State.writeCoreData (s : State) (v : Nat) : State := s.dbgSet s.coreSel.1 s.coreSel.2 v

/-! ### Engines and pipelines (R477, R478) -/

/-- The engine that DBG_SESEL selects is solving. -/
def State.seBusy (s : State) : Bool := (s.engine (s.fld DBG_SESEL_ENGINE)).run.isSome

/-- The pair DBG_SEDATA: register d`r` as the last solve left it, 0 while the engine solves. -/
def State.seData (s : State) : Nat :=
  if s.seBusy then 0 else ((look (s.engine (s.fld DBG_SESEL_ENGINE)).d (s.fld DBG_SESEL_REG)).getD 0).toNat

/-- DBG_PIPEST_p. LINE of a frame in progress is a free value: how far it has come inside the pipeline is bounded (R183), not stated. With no frame
in progress LINE and FCNT read 0, as the card resets them. -/
def State.pipeSt (s : State) (p : Nat) : Nat :=
  let w := (Config.freeWord s.free).toNat
  let mk := fun (st : Nat) (fcnt : Option Nat) => match fcnt with
    | some c => w % 2 ^ 14 + 2 ^ 14 * st + 2 ^ 16 * (c % 65536)
    | none => 2 ^ 14 * st
  if p < 6 then
    if s.lpDropped p then mk 3 none
    else if s.live ISP_LPCTRL_EN p = 0 then mk 0 none
    else match (s.lp p).frames.find? (fun f => !f.done) with
      | some f => mk 2 (some f.fcnt)
      | none => mk 1 none
  else
    let q := p - 6
    if s.rpDropped q then mk 3 none
    else match (s.rp q).run with
      | some r => mk 2 (some (fieldLE r.hdr 24 2))
      | none => if (List.range 16).any (fun c => decide (s.live ISP_RPCCTRL_EN q c = 1)) then mk 1 none else mk 0 none

end Sys2Proof.Machine
end

