-- ==== Sys2Proof/Machine/Rings.lean ====
section
/-! DEFINITION. Machine/Rings.lean: the host link: doorbells, fetches, enabling, disabling and flushing rings, the status ring, MSI-X masks,
resets and changes of the link (chapter 15, R341 to R361, R371). -/

namespace Sys2Proof.Machine
open Sys2Proof Sys2Proof.Machine.Reg

/-! ### Events -/

/-- An event of HIF_EVENT (Table 18.2). -/
def State.hifReport (s : State) (b : Nat) : State :=
  s.report HIF_EVENT.base HIF_INT_EN.base b 3 (0x0300 + b) 0 (hostSev (0x0300 + b))

/-! ### Doorbells and fetches (R346 to R348) -/

/-- A write of CMD_PROD_k (R346); while the ring is not enabled the value is only stored. -/
def State.doorbell (s : State) (k v : Nat) : State :=
  let v := v % 65536
  let cons := s.fld CMD_CONS_CONS k
  let d := dist16 v cons
  let d' := dist16 (s.fld CMD_PROD_PROD k) cons
  if ¬ s.flag CMD_CTRL_EN k then s.setFld CMD_PROD_PROD v k
  else if s.ringSize k < d then
    if s.fld CMD_STATE_STATE k = 3 then s else s.ringError k 4
  else if d < d' then s.cmdReport 1 k
  else s.setFld CMD_PROD_PROD v k

/-- Opcodes of Table 15.3. -/
def opcodes : List Nat :=
  [0x000, 0x001, 0x002, 0x003, 0x004, 0x005, 0x006, 0x007, 0x100, 0x200, 0x201, 0x202, 0x203, 0x300, 0x301, 0x302, 0x303,
   0x400, 0x401, 0x402, 0x403, 0x404, 0x500, 0x501, 0x502, 0x503, 0x504, 0x600, 0x601, 0x700, 0x800, 0x801, 0x802, 0x803, 0x804,
   0x900, 0x901, 0x902, 0x903, 0xF00, 0xF01, 0xF02]

/-- The completion ring of ring `k` has room for one entry (R351). -/
def State.cplRoom (s : State) (k : Nat) : Bool :=
  decide (dist16 (s.fld CMD_CPROD_CPROD k) (s.fld CMD_CCONS_CCONS k) + (s.ring k).heldCpl.length < s.ringSize k)

/-- An item of ring `k` waits for room, which CMD_STATE_k.CPLWAIT shows. -/
def State.cplWaits (s : State) (k : Nat) : Bool := !(s.ring k).taken.isEmpty && (s.ring k).run.isNone && !s.cplRoom k

/-- The item that ring `k` can start now (R351, R353, R345 BARRIER, R370). -/
def State.startable (s : State) (k : Nat) : Option Item :=
  if (s.ring k).run.isSome ∨ s.boStage ≠ 0 ∨ ¬ s.cplRoom k then none
  else
    match (s.ring k).taken with
    | [] => none
    | it :: _ => if it.barrier && s.rings.any (fun r => r.run.isSome) then none else some it

/-- The item at the front of ring `k` starts. -/
def State.begin (s : State) (k : Nat) (it : Item) : State :=
  (s.setRing k { s.ring k with taken := (s.ring k).taken.tail, run := some ⟨it, .running⟩ }).setFld CMD_STATE_BUSY 1 k

/-- Items at the front whose opcode is not listed end with ST_CMD_OPCODE, or are skipped (R364, R345). -/
def State.endUnknown (k : Nat) : Nat → State → State
  | 0, s => s
  | n + 1, s =>
    match s.startable k with
    | some it =>
      if opcodes.contains it.opc then s
      else
        let bad := it.link && decide ((s.ring k).lastSt ≠ 0)
        State.endUnknown k n ((s.begin k it).endCmd k (if bad then 4 else 1))
    | none => s

/-- What can start on ring `k` is looked at again. -/
def State.serve (s : State) (k : Nat) : State := State.endUnknown k (s.ring k).taken.length s

/-- The packet at entry `a` of ring `k`: the words of an item of `len` words, over consecutive entries that wrap (R345). -/
def State.itemWords (s : State) (k cons len : Nat) : List Nat :=
  (List.range len).map (fun i => s.hostLE (s.ringEntry k ((cons + i / 16) % 65536) + 4 * (i % 16)) 4)

/-- A header that R348 does not allow on ring `k`. -/
def ringHeaderBad (k w0 : Nat) : Bool :=
  decide (nbits w0 12 6 = 1 ∨ nbits w0 26 6 ≠ 0 ∨ nbits w0 21 3 ≠ 0 ∨ nbits w0 24 2 ≠ k)

/-- The device looks at the next item of ring `k` (R347, R348), which is partial no more once it is covered; `ok`: its reads of host memory
succeed (R340). -/
def State.takeItem (s : State) (k : Nat) (ok : Bool) : State :=
  let cons := s.fld CMD_CONS_CONS k
  let avail := dist16 (s.fld CMD_PROD_PROD k) cons
  let w0 := s.hostLE (s.ringEntry k cons) 4
  let len := headerLen w0
  let ents := (len + 15) / 16
  let s := if ents ≤ avail then s.setFld CMD_STATE_PARTIAL 0 k else s
  if avail = 0 then s
  else if ¬ ok then s.ringError k 1
  else
    let w1 := s.hostLE (s.ringEntry k cons + 4) 4
    let seq := nbits w1 16 16
    if avail < ents then s.setFld CMD_STATE_PARTIAL 1 k
    else if ringHeaderBad k w0 then s.ringError k 2
    else if (s.ring k).checkSeq ∧ seq ≠ (s.fld CMD_STATE_LASTSEQ k + 1) % 65536 then s.ringError k 3
    else
      let it : Item := { opc := nbits w0 0 12, len := len, silent := w0.testBit 18, link := w0.testBit 19, barrier := w0.testBit 20,
                         tag := nbits w1 0 16, seq := seq, par := (s.itemWords k cons len).drop 2 }
      let s := (s.setFld CMD_CONS_CONS (cons + ents) k).setFld CMD_STATE_LASTSEQ seq k
      (s.setRing k { s.ring k with taken := (s.ring k).taken ++ [it], checkSeq := true }).serve k

/-- Ring 0 has something to fetch (R347, R358): a wholly covered item, or entries of a tail that is drained. -/
def State.ring0First (s : State) : Bool :=
  let avail := dist16 (s.fld CMD_PROD_PROD 0) (s.fld CMD_CONS_CONS 0)
  s.flag CMD_CTRL_EN 0 && decide (0 < avail) && (decide (s.fld CMD_STATE_STATE 0 = 2)
    || (decide (s.fld CMD_STATE_STATE 0 = 1)
      && decide ((headerLen (s.hostLE (s.ringEntry 0 (s.fld CMD_CONS_CONS 0)) 4) + 15) / 16 ≤ avail)))

/-- COMMAND_FETCH: what ring 0 can fetch comes before the fetches of the other rings (R354). -/
def execCommandFetch (k : Nat) (ok : Bool) (s : State) : Out :=
  onUnit k 4 <|
    if ¬ s.flag CMD_CTRL_EN k ∨ ¬ s.dmaOk ∨ (k ≠ 0 ∧ s.ring0First) then .next s
    else if s.fld CMD_STATE_STATE k = 2 then .next (s.drainTake k)
    else if s.fld CMD_STATE_STATE k = 1 then .next (s.takeItem k ok)
    else .next s

/-! ### Consumer indices (R351, R352, R360) -/

/-- CMD_CCONS_k is written. -/
def State.writeCcons (s : State) (k v : Nat) : State :=
  let s := s.setFld CMD_CCONS_CCONS v k
  (if s.fld CMD_CPROD_CPROD k ≠ v % 65536 then s.msix 0 else s).serve k

/-- CMD_SCONS is written: held HEALTH postings follow. -/
def State.writeScons (s : State) (v : Nat) : State :=
  let s := s.setFld CMD_SCONS_SCONS v
  State.drainHeld 16 (if s.fld CMD_SPROD_SPROD ≠ v % 65536 then s.msix 1 else s)

/-! ### Enabling, disabling, flushing (R349, R357) -/

/-- Ring `k` is enabled: indices zero, RUN. -/
def State.enableRing (s : State) (k : Nat) : State :=
  if s.flag CMD_CTRL_EN k then s
  else
    let s := (((s.setFld CMD_PROD_PROD 0 k).setFld CMD_CONS_CONS 0 k).setFld CMD_CPROD_CPROD 0 k).setFld CMD_CCONS_CCONS 0 k
    let s := ((s.setFld CMD_STATE_PARTIAL 0 k).setFld CMD_STATE_ERRCAUSE 0 k).setRegN CMD_FLUSHSEQ 0 k
    let s := (s.setFld CMD_STATE_STATE 1 k).setFld CMD_CTRL_EN 1 k
    s.setRing k { s.ring k with taken := [], checkSeq := false, flush := false, heldCpl := [] }

/-- Ring `k` is disabled: a running command ends without a completion, items not started are discarded. -/
def State.disableRing (s : State) (k : Nat) : State :=
  if ¬ s.flag CMD_CTRL_EN k then s
  else
    let run := (s.ring k).run.isSome
    let s := (s.setFld CMD_CTRL_EN 0 k).setFld CMD_CTRL_FLUSH 0 k
    let s := s.setRing k { s.ring k with taken := [], flush := false, heldCpl := [], mute := run }
    (if run then s else s.setFld CMD_STATE_STATE 0 k).endRingFlush

/-- A flush of ring `k` is asked for: at once, or when the running command has ended. A ring that is not enabled has nothing to flush. -/
def State.askFlush (s : State) (k : Nat) : State :=
  if ¬ s.flag CMD_CTRL_EN k then s
  else
    let s := s.setFld CMD_CTRL_FLUSH 1 k
    if (s.ring k).run.isSome then s.setRing k { s.ring k with flush := true } else (s.doFlush k).endRingFlush

/-- The status ring is enabled or disabled (R349): its indices and PSEQ start again. -/
def State.enableSring (s : State) (on : Bool) : State :=
  if on = s.flag CMD_SCFG_EN then s
  else if on then
    let s := ((s.setFld CMD_SCFG_EN 1).setFld CMD_SPROD_SPROD 0).setFld CMD_SCONS_SCONS 0
    State.drainHeld 16 { s with sring := { s.sring with pseq := 0 } }
  else s.setFld CMD_SCFG_EN 0

/-! ### MSI-X (R343) -/

/-- Vector `v` has nothing in its way: a pending message leaves. -/
def State.releaseMsix (s : State) (v : Nat) : State :=
  if s.msixPending v && !(s.msixMasked v) then (s.setMsixPending v false).sendMsix v else s

/-- The vector control word of `v` is written. -/
def State.writeVecCtl (s : State) (v x : Nat) : State :=
  let a := 0x8000 + 16 * v + 12
  (s.setReg a (BitVec.ofNat 32 (x % 2))).releaseMsix v

/-- MSIX_UNMASK. -/
def execMsixUnmask (v : Nat) (s : State) : Out := onUnit v 64 (.next (s.writeVecCtl v 0))

/-! ### The link (R340, R343, R371) -/

/-- PCIE_LINK_RESET: an FLR, a hot reset, or, with `down`, the link goes down. -/
def execPcieLinkReset (down : Bool) (s : State) : Out :=
  let s := s.resetRings
  let s := ((s.setRegN HIF_CTRL 0).setFld HIF_LPDDR_PAGE_PAGE 0).setRegN HIF_INT_EN 0
  let s := if down then s.setRegN HIF_LINK 0 else s
  .next { s with hif := { s.hif with bme := false, mse := false, d3hot := false, funcMask := false, linkUp := s.hif.linkUp && !down } }

/-- LINK_CHANGE: the link trains to a speed (1 to 4) and a width. -/
def execLinkChange (speed width : Nat) (rev : Bool) (s : State) : Out :=
  let ds := decide (s.fld HIF_LINK_SPEED ≠ speed)
  let dw := decide (s.fld HIF_LINK_WIDTH ≠ width)
  let s := ((s.setFld HIF_LINK_SPEED speed).setFld HIF_LINK_WIDTH width).setFld HIF_LINK_LANEREV (if rev then 1 else 0)
  let s := { s with hif := { s.hif with linkUp := true } }
  let s := if ds then s.hifReport 1 else s
  .next (if dw then s.hifReport 2 else s)

/-- Completions that waited for Bus Master Enable are written (R340). -/
def State.writeHeld (s : State) (k : Nat) : State :=
  let l := (s.ring k).heldCpl
  let s := s.setRing k { s.ring k with heldCpl := [] }
  l.foldl (fun s c => s.writeCpl k c.1 c.2.1 c.2.2.1 c.2.2.2.1 c.2.2.2.2) s

/-- A flush of ring `k` that waited for requests to be possible acts. -/
def State.flushHeld (s : State) (k : Nat) : State := if (s.ring k).flush ∧ (s.ring k).run = none then (s.doFlush k).endRingFlush else s

/-- BUS_MASTER_ENABLE_CHANGE: what was held goes out when requests may be made again; unmasking the function sends what is pending. Until the IDs are
in place a configuration request is answered with Configuration Request Retry Status and changes nothing (R434). -/
def execBusMasterEnableChange (bme mse d3 fmask : Bool) (s : State) : Out :=
  if s.hif.ids.isNone then .next s
  else
  let s := { s with hif := { s.hif with bme := bme, mse := mse, d3hot := d3, funcMask := fmask } }
  let s := (List.range 64).foldl (fun s v => s.releaseMsix v) s
  .next (if s.dmaOk then (List.range 4).foldl (fun s k => s.flushHeld k) (State.drainHeld 16 ((List.range 4).foldl (fun s k => s.writeHeld k) s)) else s)

/-! ### The security block's own events (R365, R367, R368) -/

/-- NONCE_EXPIRY: 10 s after its issue the nonce is void. -/
def execNonceExpiry (s : State) : Out :=
  .next (if s.sec.nonce.isSome ∧ 2500000000 ≤ s.rnd.clk - s.sec.nonceAt then { s with sec := { s.sec with nonce := none } } else s)

/-- CLEAR_BLOCK_EXPIRY: 60 s after the block began. -/
def execClearBlockExpiry (s : State) : Out :=
  .next (if s.flag SEC_STATUS_CLRBLK ∧ 15000000000 ≤ s.rnd.clk - s.sec.blockAt then
    ({ s with sec := { s.sec with fails := 0 } } : State).setFld SEC_STATUS_CLRBLK 0 else s)

/-- RNG_FAIL. -/
def execRngFail (s : State) : Out := .next (if s.flag SEC_STATUS_RNGFAIL then s else (s.setFld SEC_STATUS_RNGFAIL 1).secReport 7 0 6 0)

/-- RNG_OK. -/
def execRngOk (s : State) : Out := .next (if s.flag SEC_STATUS_RNGFAIL then (s.setFld SEC_STATUS_RNGFAIL 0).secReport 8 0 3 0 else s)

end Sys2Proof.Machine
end

