-- ==== Sys2Proof/Machine/Bus.lean ====
section
/-! DEFINITION. Machine/Bus.lean: register accesses (R74 to R88, R95 to R101) with what a read or a write of each register does, and the store
aperture (R89 to R93). -/

namespace Sys2Proof.Machine
open Sys2Proof Sys2Proof.Machine.Reg

/-! ### Shapes (R81) -/

/-- A byte-enable pattern that is full, one byte, or two bytes at an even offset. -/
def beOk (be : Nat) : Bool := decide (be = 15 ∨ be = 1 ∨ be = 2 ∨ be = 4 ∨ be = 8 ∨ be = 3 ∨ be = 12)

/-- The bits of the bytes that `be` enables. -/
def beMask (be : Nat) : Nat := (List.range 4).foldl (fun m i => if be.testBit i then m + 0xFF * 2 ^ (8 * i) else m) 0

/-! ### Where an offset lies (R74, R76, R86) -/

/-- A register that an offset names: its card, its indices, the offset of the register itself, and whether it is the in-force view. -/
structure Target where
  card : Card
  i : Nat
  j : Nat
  a : Nat
  view : Bool
  deriving DecidableEq, Repr

/-- The register of the MSI-X table or the PBA at `off`, and whether `off` is in its in-force view (R76, R341). -/
def msixAt (off : Nat) : Option (Nat × Bool) :=
  if isMsixTable off ∨ isPba off then some (off, false)
  else if 0x800 ≤ off % 0x1000 ∧ (isMsixTable (off - 0x800) ∨ isPba (off - 0x800)) then some (off - 0x800, true)
  else none

/-- The register at `off` of BAR0, but for the MSI-X table and the PBA. -/
def target (off : Nat) : Option Target :=
  let view := decide (0x800 ≤ off % 0x1000)
  let a := if view then off - 0x800 else off
  match cardAt a with
  | some c =>
    match c.rg.index a with
    | some (i, j) => some { card := c, i := i, j := j, a := a, view := view }
    | none => none
  | none => none

/-- The compute die a register offset lies on (Table 4.1): cores, engines, and the markers behind the hub's front end. -/
def offDie (off : Nat) : Option Nat :=
  let a := if off % 0x1000 < 0x800 then off else off - 0x800
  if 0x100000 ≤ off ∧ off < 0x300000 then some ((off - 0x100000) / 0x100000)
  else if 0x300000 ≤ off ∧ off < 0x320000 then some ((off - 0x300000) / 0x10000)
  else if 0x41000 ≤ a ∧ a < 0x43000 then some (a % 0x400 / 0x200)
  else none

/-- Before READY, in FAIL and in stage 6 of bind-off, the host reaches HIF and PWR alone; every other access completes as UNREACHABLE (R431). -/
def State.notServed (s : State) (rq : Requester) (off : Nat) : Bool :=
  decide (rq = .host) && !s.serving && !(decide (off < 0x10000 ∨ (0xD0000 ≤ off ∧ off < 0xE0000)))

/-- No register at `off` can be reached (R86, R431). -/
def State.unreachable (s : State) (rq : Requester) (off : Nat) : Bool :=
  (match offDie off with
    | some d => s.dieUnreachable d
    | none => false)
  || s.notServed rq off

/-! ### What a register reads as -/

/-- HIF_CFGMIS: the blocks that hold a set CFG_MISMATCH bit (R98). -/
def State.cfgMis (s : State) : Nat :=
  let b := fun (n : Nat) (p : Bool) => if p then 2 ^ n else 0
  b 1 ((List.range 16).any (fun t => s.flag WFM_TRGSTAT_CFG_MISMATCH t)) + b 2 ((List.range 6).any (fun p => (s.regN MOL_EVENT p).testBit 13))
    + b 3 (decide (s.fld CAM_FSSTAT_CFG_MISMATCH ≠ 0)) + b 5 (s.flag FBR_STATUS_CFG_MISMATCH)
    + b 6 ((List.range 8).any (fun u => s.flag CHK_STATUS_CFG_MISMATCH u)) + b 12 (s.flag TMP_STATUS_CFG_MISMATCH)

/-- What a link is charged of the streams of a Pattern at the stitch that MESH_RSVSEL selects. -/
def State.unitsCharged (s : State) (im : Image) (shed : List Nat) : Nat :=
  charged (s.admCtx false) (s.heldStreams im shed) (s.fld MESH_RSVSEL_LINK) (s.fld MESH_RSVSEL_STITCH)

/-- MESH_RSVDATA.UNITS: the reservations last as long as MESH_STATUS.RSVACT shows (R65). -/
def State.rsvUnits (s : State) : Nat :=
  min 8191 (((s.pat.active.map (fun im => s.unitsCharged im s.pat.shed)).getD 0)
    + s.pat.drains.foldl (fun a d => a + s.unitsCharged d.im d.shed) 0)

/-- The value of the register at `a` (instance `i` of `r`) as requester `rq` finds it. -/
def State.current (s : State) (rq : Requester) (r : Rg) (a i : Nat) : Nat :=
  if r = HIF_CFGMIS then s.cfgMis
  else if r = CHK_SUMMARY then s.chkSummary
  else if r = MESH_RSVDATA then s.rsvUnits
  else if r = CMD_STATE then (setBits (s.reg a) CMD_STATE_CPLWAIT.lo 1 (if s.cplWaits i then 1 else 0)).toNat
  else if r = PWR_REFSTAT then s.fld PWR_REFSTAT_LOST + (if s.flag RND_STATUS_PPS_LOCK then 2 else 0) + 2 ^ 16 * s.refPpm
  else if r = DBG_STATUS then (setBits (s.reg a) 3 1 (if s.seBusy then 1 else 0)).toNat
  else if r = DBG_COREDATA then s.coreData
  else if r = DBG_SEDATA_LO then s.seData % 2 ^ 32
  else if r = DBG_SEDATA_HI then s.seData / 2 ^ 32
  else if r = DBG_PIPEST then s.pipeSt i
  else if r = FBR_ELOG1 then (look s.fbr.elatch (2 * reqCode rq)).getD 0
  else if r = FBR_ELOG2 then (look s.fbr.elatch (2 * reqCode rq + 1)).getD 0
  else if r = MRK_HOPARG ∨ r = MRK_HOPRES ∨ r = MRK_HOPVAL then (s.reg (hopCopy rq.node r)).toNat
  else (s.reg a).toNat

/-- The in-force view (R76): staged bits as in force, others as they are. -/
def State.viewed (s : State) (rq : Requester) (t : Target) : Nat :=
  let m := t.card.stg
  ((s.reg (t.a + 0x800) &&& m) ||| (BitVec.ofNat 32 (s.current rq t.card.rg t.a t.i) &&& ~~~m)).toNat

/-- The key of a requester's latch of the register at `a`. -/
def latchKey (rq : Requester) (a : Nat) : Nat := a + 2 ^ 28 * reqCode rq

/-- What a read does beside returning a value (R77, R82, R84, R101): `quiet` reads clear and remove nothing. -/
def State.readEffects (s : State) (rq : Requester) (t : Target) (quiet : Bool) : State :=
  let s := if t.card.half = .lo then
      { s with latch := bind s.latch (latchKey rq (t.a + 4)) (BitVec.ofNat 32 (s.current rq ((cardAt (t.a + 4)).map (·.rg) |>.getD t.card.rg) (t.a + 4) t.i)) }
    else s
  let s := if t.card.rg = DBG_COREDATA then s.noteHalted s.coreSel.1 s.coreSel.2 else s
  let s := if t.card.rg = DBG_PIPEST ∨ t.card.rg = PWR_REFSTAT then s.draw else s
  if t.card.rg = FBR_ELOG0 then s.elogPop rq quiet
  else if quiet then s
  else if t.card.rg = WFM_TRGQ then s.popTrgq
  else if t.card.rg = PWR_FLOG then s.popFlog
  else if t.card.has .rc then s.setReg t.a (s.reg t.a &&& ~~~(t.card.mask .rc))
  else s

/-- Write-only fields read 0 (R77). -/
def Target.shown (t : Target) (v : Nat) : Nat := (BitVec.ofNat 32 v &&& ~~~(t.card.mask .wo)).toNat

/-- A read of one register: the state after it, and the value or the error. -/
def State.regRead (s : State) (rq : Requester) (off be : Nat) (quiet : Bool) : State × (Nat ⊕ AccCause) :=
  if be = 0 then (s, .inl 0)
  else if s.notServed rq off then (s, .inr .unreachable)
  else if ¬ beOk be then (s, .inr .unaligned)
  else
    match msixAt off, target off with
    | some (a, _), _ => (s, .inl ((s.reg a).toNat &&& beMask be))
    | none, none => (s, .inr .unmapped)
    | none, some t =>
      if s.unreachable rq off then (s, .inr .unreachable)
      else if t.view then (s, .inl (t.shown (s.viewed rq t) &&& beMask be))
      else
        let v := if t.card.half = .hi then ((look s.latch (latchKey rq t.a)).getD 0).toNat else s.current rq t.card.rg t.a t.i
        (s.readEffects rq t quiet, .inl (t.shown v &&& beMask be))

/-! ### What a write does -/

/-- INT_EN registers: the event register beside each and its vector (Table 15.2). -/
def intEnOf (r : Rg) (i : Nat) : Option (Nat × Nat) :=
  if r = RND_INT_EN then some (RND_EVENT.base, 4)
  else if r = PAT_INT_EN then some (PAT_EVENT.base, 5)
  else if r = MOL_INT_EN then some (MOL_EVENT.at i, 8 + i)
  else if r = WFM_INT_EN then some (WFM_EVENT.base, 14)
  else if r = CAM_INT_EN then some (CAM_EVENT.at i, 16 + i)
  else if r = CAM_TXINT_EN then some (CAM_TXEVENT.base, 22)
  else if r = ISP_LPINT_EN then some (ISP_LPEVENT.at i, 23 + i)
  else if r = ISP_RPINT_EN then some (ISP_RPEVENT.at i, 29 + i)
  else if r = SOL_INT_EN then some (SOL_EVENT.at i, 31 + i)
  else if r = MESH_INT_EN then some (MESH_EVENT.base, 33)
  else if r = MRK_INT_EN then some (MRK_EVENT.base, 34)
  else if r = FBR_INT_EN then some (FBR_EVENT.base, 35)
  else if r = FBR_HINTEN then some (FBR_HINT.at i, 36 + i)
  else if r = CHK_INT_EN then some (CHK_EVENT.at i, 15)
  else if r = JRN_INT_EN then some (JRN_EVENT.base, 6)
  else if r = PWR_INT_EN then some (PWR_EVENT.base, 7)
  else if r = PWR_RAILEN then some (PWR_RAILEVT.base, 7)
  else if r = TMP_INT_EN then some (TMP_EVENT.base, 7)
  else if r = SEC_INT_EN then some (SEC_EVENT.base, 42)
  else if r = DBG_INT_EN then some (DBG_EVENT.base, 43)
  else if r = CORE_INT_EN then some (CORE_EVENT.at i, 44 + i / 4)
  else if r = CMD_INT_EN then some (CMD_EVENT.base, 2)
  else if r = HIF_INT_EN then some (HIF_EVENT.base, 3)
  else none

/-- An INT_EN register takes a new value: each bit that rises beside a set event bit is a message condition (R343). -/
def State.writeIntEn (s : State) (a ev v : Nat) (x : Word) : State :=
  let old := s.reg a
  let s := s.setReg a x
  (bitsOf ((x &&& ~~~old &&& s.reg ev).toNat) 32).foldl (fun s _ => s.msix v) s

/-- The fields of a register that a write replaces or clears (R77, R83): RW bits of enabled bytes take the data, W1C bits written 1 fall. -/
def written (c : Card) (old : Word) (be : Nat) (v : Word) : Word :=
  let m := BitVec.ofNat 32 (beMask be)
  let rw := c.mask .rw &&& m
  ((old &&& ~~~rw) ||| (v &&& rw)) &&& ~~~(v &&& m &&& c.mask .w1c)

/-- The plain effect of a write on the register itself. -/
def State.storeReg (s : State) (t : Target) (be : Nat) (v : Word) : State := s.setReg t.a (written t.card (s.reg t.a) be v)

/-- The block whose COMMIT bit lies in register `r` (i, j), if that is bit 0 of it. -/
def commitBlock (r : Rg) (i j : Nat) : Option Block :=
  if r = RND_CTRL then some .rnd
  else if r = WFM_CTRL then some .wfm
  else if r = MOL_CTRL then some (.mol i)
  else if r = MESH_CTRL then some .mesh
  else if r = PWR_HCTRL then some .pwr
  else if r = PWR_BOCTRL then some .bo
  else if r = CAM_PCTRL then some (.cam i)
  else if r = CAM_TXCTRL then some .camTx
  else if r = ISP_LPCTRL then some (.lp i)
  else if r = ISP_RPCCTRL then some (.rpCtx i j)
  else if r = CORE_CTRL then some (.core i)
  else if r = SOL_SLOTCTRL then some (.slot i j)
  else if r = FBR_WCTRL then some (.fbr i)
  else if r = CHK_CTRL then some (.chk i)
  else if r = JRN_CTRL then some .jrn
  else none

/-- PWR_FENCE with its key (R447, R455). -/
def State.writeFence (s : State) (v : Nat) : State :=
  let a := nbits v 12 2
  if a = 1 then s.hostFence (nbits v 8 4) (nbits v 0 8) else if a = 2 then s.revive (nbits v 8 4) (nbits v 0 8) else s

/-- PWR_RSTCTL with its key (R429). -/
def State.writeRstctl (s : State) (v : Nat) : State :=
  if v % 4 = 1 then s.askReset1 3 else if v % 4 = 2 then s.askHcrestart else s

/-- What a write to a control register starts, beside COMMIT; `v` is the written value. -/
def State.startActions (s : State) (r : Rg) (i j v : Nat) : State :=
  let on := fun (b : Nat) (f : State → State) (s : State) => if v.testBit b then f s else s
  if r = RND_CTRL then
    let s := on 1 State.snap s
    if s.flag RND_CTRL_HOLD_FORCE = v.testBit 2 then s else s.holdForce (v.testBit 2)
  else if r = PAT_CTRL then
    on 3 State.cancelAct (on 2 State.deactivate (on 1 (fun s => s.activate.1) (on 0 (fun s => s.startAdmission.1) s)))
  else if r = MOL_CTRL then on 2 (fun s => s.qrel i) (on 1 (fun s => s.retrainPort i) s)
  else if r = WFM_RGCTRL then on 1 (fun s => s.force i) (on 0 (fun s => s.rearm i) s)
  else if r = CAM_FSW then s.writeFsw (v % 64) (nbits v 8 3)
  else if r = ISP_RPKICK then (s.kickRp i (v % 65536)).1
  else if r = CORE_CTRL then
    on 2 (fun s => (s.hostStart i (4 * s.fld CORE_START_ENTRY_ENTRY i) (s.regN CORE_START_ARG i)).1) (on 1 (fun s => s.abortJob i) s)
  else if r = CORE_CHFLUSH then s.flushChans i (v % 65536)
  else if r = SOL_CTRL then on 0 (fun s => s.abortSolve i) s
  else if r = SOL_INFLUSH then s.flushIns i (v % 65536)
  else if r = SOL_SLOTCTRL then
    on 3 (fun s => (s.kickSlot i j (s.liveN SOL_SLOTARG i j)).1) (on 2 (fun s => s.pgCommit i j) (on 1 (fun s => s.askReset i j) s))
  else if r = CMD_CTRL then on 1 (fun s => s.askFlush i) (if v.testBit 0 then s.enableRing i else s.disableRing i)
  else if r = FBR_ERRACK then s.ackWins (v % 65536)
  else if r = FBR_WCTRL then on 1 (fun s => s.flushWin i) s
  else if r = CHK_CTRL then on 1 (fun s => s.chkStart i) (on 2 (fun s => s.chkCheck i) s)
  else if r = JRN_CTRL then on 2 State.ctrlFlush (on 1 State.snapJrn s)
  else if r = PWR_BOOTCTL then on 0 State.bootGo s
  else if r = PWR_BOCTRL then if v.testBit 1 ∧ v / 65536 = 0xC0DE then s.bindOff 2 else s
  else s

/-- Registers whose writes do more than store and start actions. -/
def customWrite : List Rg :=
  [CAM_FSW, SOL_INCFG, MRK_HOPCMD, MRK_HOPARG, MRK_HOPRES, CMD_SCFG, CMD_SCONS, CMD_RCFG, CMD_PROD, CMD_CCONS, CHK_DATA,
   PWR_RSTCTL, PWR_FENCE, DBG_CTRL, DBG_HALT, DBG_RESUME, DBG_STEP, DBG_COREDATA, HIF_ACCERR, DBG_ACCERR]

/-- The geometry of a ring or of the status ring is written (R349): ignored while it is enabled, and for a SIZE outside 4 to 12 (CMD_SCFG is then
ignored whole). -/
def State.writeSize (s : State) (f : Fld) (k : Nat) (on : Bool) (n : Nat) : State :=
  if n = s.fld f k ∧ (4 ≤ n ∧ n ≤ 12) then (if on ∧ f = CMD_RCFG_SIZE then s.cmdReport 3 k else s)
  else if on ∨ n < 4 ∨ 12 < n then s.cmdReport 3 k
  else s.setFld f n k

/-- A register of `customWrite` is written. -/
def State.writeCustom (s : State) (rq : Requester) (t : Target) (be : Nat) (v : Word) : State :=
  let r := t.card.rg
  let i := t.i
  let n := v.toNat
  if r = CAM_FSW then s.writeFsw (n % 64) (nbits n 8 3)
  else if r = SOL_INCFG then s.setIncfg i t.j n
  else if r = MRK_HOPCMD then s.hopCmd rq n
  else if r = MRK_HOPARG then s.setReg (hopCopy rq.node MRK_HOPARG) v
  else if r = MRK_HOPRES then s.setReg (hopCopy rq.node r) (written t.card (s.reg (hopCopy rq.node r)) be v)
  else if r = CMD_SCFG ∧ (nbits n 4 4 < 4 ∨ 12 < nbits n 4 4) then s.cmdReport 3 0
  else if r = CMD_SCFG then (s.writeSize CMD_SCFG_SIZE 0 (s.flag CMD_SCFG_EN) (nbits n 4 4)).enableSring (n.testBit 0)
  else if r = CMD_SCONS then s.writeScons (n % 65536)
  else if r = CMD_RCFG then s.writeSize CMD_RCFG_SIZE i (s.flag CMD_CTRL_EN i) (n % 16)
  else if r = CMD_PROD then s.doorbell i (n % 65536)
  else if r = CMD_CCONS then s.writeCcons i (n % 65536)
  else if r = CHK_DATA then s.chkData i be n
  else if r = PWR_RSTCTL then s.writeRstctl n
  else if r = PWR_FENCE then s.writeFence n
  else if r = DBG_CTRL then
    let s := (s.writeAttach rq (n.testBit 0)).writeSidefx (n.testBit 1)
    let s := s.setFld DBG_CTRL_HALT_RELEASE (nbits n 2 1)
    if n.testBit 3 ∧ n / 65536 = 0xC0DE then s.askReset1 5 else s
  else if r = DBG_HALT then s.askHalt n
  else if r = DBG_RESUME then s.resumeMask n
  else if r = DBG_STEP then s.stepCore (n % 32) (n / 65536)
  else if r = DBG_COREDATA then s.writeCoreData n
  else if (r = HIF_ACCERR ∨ r = DBG_ACCERR) ∧ n.testBit 0 then s.setReg t.a (setBits (setBits (s.reg t.a) 0 1 0) 16 16 0)
  else s

/-- A pair takes effect (R84): the high half `v` of `t` with the requester's staged low half. -/
def State.writePair (s : State) (rq : Requester) (t : Target) (v : Word) : State :=
  let lo := (look s.stage (latchKey rq (t.a - 4))).getD 0
  let r := t.card.rg
  let base := t.a - 4
  if r = FBR_RTDST then s.routeWrite rq t.i v.toNat
  else if (r = CMD_RBASE_HI ∨ r = CMD_CBASE_HI) ∧ s.flag CMD_CTRL_EN t.i then s.cmdReport 3 t.i
  else if r = CMD_SBASE_HI ∧ s.flag CMD_SCFG_EN then s.cmdReport 3 0
  else
    let s := match cardAt base with
      | some c => s.setReg base (written c (s.reg base) 15 lo)
      | none => s
    let s := s.storeReg t 15 v
    if r = RND_NSSET_HI then s.armNs (lo.toNat + 2 ^ 32 * v.toNat) else s

/-- A key of 0xC0DE is missing where the write needs it. -/
def keyMissing (r : Rg) (n : Nat) : Bool := decide ((r = PWR_RSTCTL ∨ r = PWR_FENCE) ∧ n / 65536 ≠ 0xC0DE)

/-- A write of one register that nothing stands against. A check unit acts in the order CHECK, START, COMMIT (R399). -/
def State.writeTo (s : State) (rq : Requester) (t : Target) (be : Nat) (v : Word) : State :=
  let r := t.card.rg
  if customWrite.contains r then s.writeCustom rq t be v
  else if t.card.half = .lo then { s with stage := bind s.stage (latchKey rq t.a) v }
  else if t.card.half = .hi then s.writePair rq t v
  else
    match intEnOf r t.i with
    | some (ev, vec) => s.writeIntEn t.a ev vec (written t.card (s.reg t.a) be v)
    | none =>
      let keep := decide (r = RND_CTRL ∨ r = CMD_CTRL)
      let s := if keep then s else s.storeReg t be v
      let commit := fun (s : State) => if v.toNat.testBit 0 then
          match commitBlock r t.i t.j with
          | some b => s.writeCommit b
          | none => s
        else s
      if r = CHK_CTRL then commit (s.startActions r t.i t.j v.toNat) else (commit s).startActions r t.i t.j v.toNat

/-- A pair's half with no writable bit is read-only as a whole: the pair's high half says so, or the low half where it alone is writable. -/
def Target.readOnly (t : Target) : Bool :=
  t.view || (t.card.readOnly && decide (t.card.rg ≠ HIF_ACCERR ∧ t.card.rg ≠ DBG_ACCERR))

/-- DBG_HALT, DBG_RESUME and DBG_STEP take nothing while no debugger is attached (R471). -/
def State.detached (s : State) (r : Rg) : Bool := decide (r = DBG_HALT ∨ r = DBG_RESUME ∨ r = DBG_STEP) && !s.attached
/-- A write of DBG_CTRL whose DRESET has no key: the rest of it takes effect. -/
def keylessReset (r : Rg) (n : Nat) : Bool := decide (r = DBG_CTRL ∧ n / 65536 ≠ 0xC0DE) && n.testBit 3

/-- A write of one register (R77 to R86): the state after it, and the error that discards it, or a part of it. A write that is both narrow and
to a read-only register is logged as RO_WRITE (log 7). -/
def State.regWrite (s : State) (rq : Requester) (off be : Nat) (v : Word) : State × Option AccCause :=
  if be = 0 then (s, none)
  else if s.notServed rq off then (s, some .unreachable)
  else if ¬ beOk be then (s, some .unaligned)
  else
    match msixAt off, target off with
    | some (a, view), _ =>
      if view ∨ isPba a then (s, some .roWrite)
      else if be ≠ 15 then (s, some .narrow)
      else if a % 16 = 12 then (s.writeVecCtl ((a - 0x8000) / 16) v.toNat, none)
      else (s.setReg a v, none)
    | none, none => (s, some .unmapped)
    | none, some t =>
      if be ≠ 15 ∧ ¬ t.card.bw ∧ ¬ t.readOnly then (s, some .narrow)
      else if t.readOnly ∨ keyMissing t.card.rg v.toNat ∨ s.detached t.card.rg then (s, some .roWrite)
      else if s.unreachable rq off then (s, some .unreachable)
      else (s.writeTo rq t be v, if keylessReset t.card.rg v.toNat then some .roWrite else none)

/-! ### Requests with their errors (R99, R100) -/

/-- The data of a write with its unaddressed lanes 0. -/
def laneData (be : Nat) (v : Word) : Nat := v.toNat &&& beMask be

/-- A register write by `rq`, logged if it is in error. -/
def State.busWrite (s : State) (rq : Requester) (off be : Nat) (v : Word) : State :=
  if s.barsOff rq then s.respond rq 2 []
  else match s.regWrite rq off be v with
  | (s, none) => s
  | (s, some c) => (s.accErr rq (srcOf rq) c true be off (laneData be v)).respondErr rq true 4

/-- A register read by `rq`, answered, or logged if it is in error. -/
def State.busRead (s : State) (rq : Requester) (off be : Nat) : State :=
  if s.barsOff rq then s.respond rq 2 []
  else match s.regRead rq off be (decide (rq = .debug) && !(s.flag DBG_CTRL_SIDEFX)) with
  | (s, .inl v) => s.respond rq 0 (toBytes 4 v)
  | (s, .inr c) => (s.accErr rq (srcOf rq) c false be off 0).respondErr rq false 4

/-- REGISTER_WRITE. -/
def execRegisterWrite (rq : Requester) (off be : Nat) (v : Word) (s : State) : Out := .next (s.busWrite rq off be v)

/-- RC_READ: a read of a register; RC fields clear (R77, R82). -/
def execRcRead (rq : Requester) (off be : Nat) (s : State) : Out := .next (s.busRead rq off be)

/-- PAIR_LOW_READ (R84). -/
def execPairLowRead (rq : Requester) (off be : Nat) (s : State) : Out := .next (s.busRead rq off be)

/-- PAIR_HIGH_WRITE (R84). -/
def execPairHighWrite (rq : Requester) (off : Nat) (v : Word) (s : State) : Out := .next (s.busWrite rq off 15 v)

/-- BAR0_OVERLONG (R80): a request of `n` dwords, more than two. -/
def execBar0Overlong (write : Bool) (off be : Nat) (v : Word) (n : Nat) (s : State) : Out :=
  .next (if s.barsOff .host then s.respond .host 2 []
    else (s.accErr .host 0 (if s.notServed .host off then .unreachable else .width) write be off (laneData be v)).respondErr .host write (4 * n))

/-- UNSUPPORTED_REQUEST (R88). -/
def execUnsupportedRequest (s : State) : Out := .next (s.respond .host 2 [])

/-- ACCERR_CLEAR (R99). -/
def execAccerrClear (s : State) : Out := .next (s.setReg HIF_ACCERR.base (setBits (setBits (s.reg HIF_ACCERR.base) 0 1 0) 16 16 0))

/-- NSSET_ARM (R44): the requester writes RND_NSSET_HI; its staged low half goes with it. -/
def execNssetArm (rq : Requester) (hi : Nat) (s : State) : Out := .next (s.busWrite rq RND_NSSET_HI.base 15 (BitVec.ofNat 32 hi))

/-- CHK_DATA_WRITE (R396): one, two or four bytes. -/
def execChkDataWrite (rq : Requester) (u be : Nat) (v : Word) (s : State) : Out := onUnit u 8 (.next (s.busWrite rq (CHK_DATA.at u) be v))

/-- CORE_DEBUG_REG_ACCESS (R476): a read or a write of DBG_COREDATA. -/
def execCoreDebugRegAccess (rq : Requester) (write : Bool) (v : Nat) (s : State) : Out :=
  .next (if write then s.busWrite rq DBG_COREDATA.base 15 (BitVec.ofNat 32 v) else s.busRead rq DBG_COREDATA.base 15)

/-! ### Writes that have rows of their own

They stand for accesses of the host that have reached the device; those of the debug port and of the Hub Controller come as DBGACC_UPDATE and
REGWR (log 121). -/

/-- The access of `rq` at `off` that does `o` where the register can be reached: else it is discarded and logged (R86, R431). -/
def State.reached (s : State) (rq : Requester) (write : Bool) (off v : Nat) (o : Out) : Out :=
  if s.unreachable rq off then .next ((s.accErr rq (srcOf rq) .unreachable write 15 off v).respondErr rq write 4) else o

/-- COMMIT_WRITE (R95). -/
def execCommitWrite (b : Block) (s : State) : Out :=
  if ¬ b.ok then .fault .noSuchUnit
  else
    let (f, i, j) := b.commit
    s.reached .host true (f.rg.at i j) (2 ^ f.lo) (.next (s.writeCommit b))

/-- HOLD_FORCE. -/
def execHoldForce (on : Bool) (s : State) : Out := s.reached .host true RND_CTRL.base (if on then 4 else 0) (.next (s.holdForce on))

/-- RND_SNAP. -/
def execRndSnap (s : State) : Out := s.reached .host true RND_CTRL.base 2 (.next s.snap)

/-- PAT_CTRL_ADMIT. -/
def execPatCtrlAdmit (s : State) : Out := s.reached .host true PAT_CTRL.base 1 (.next s.startAdmission.1)

/-- PAT_CTRL_ACTIVATE. -/
def execPatCtrlActivate (s : State) : Out := s.reached .host true PAT_CTRL.base 2 (.next s.activate.1)

/-- PAT_CTRL_DEACTIVATE. -/
def execPatCtrlDeactivate (s : State) : Out := s.reached .host true PAT_CTRL.base 4 (.next s.deactivate)

/-- PAT_CTRL_CANCEL. -/
def execPatCtrlCancel (s : State) : Out := s.reached .host true PAT_CTRL.base 8 (.next s.cancelAct)

/-- MOL_RETRAIN. -/
def execMolRetrain (p : Nat) (s : State) : Out := onUnit p 6 (s.reached .host true (MOL_CTRL.at p) 2 (.next (s.retrainPort p)))

/-- MOL_QREL. -/
def execMolQrel (p : Nat) (s : State) : Out := onUnit p 6 (s.reached .host true (MOL_CTRL.at p) 4 (.next (s.qrel p)))

/-- WFM_TRGQ_POP. -/
def execWfmTrgqPop (s : State) : Out := s.reached .host false WFM_TRGQ.base 0 (.next (s.respond .host 0 (toBytes 4 (s.regN WFM_TRGQ))).popTrgq)

/-- RING_REARM_WRITE. -/
def execRingRearmWrite (k : Nat) (s : State) : Out := onUnit k 4 (s.reached .host true (WFM_RGCTRL.at k) 1 (.next (s.rearm k)))

/-- RING_FORCE_WRITE. -/
def execRingForceWrite (k : Nat) (s : State) : Out := onUnit k 4 (s.reached .host true (WFM_RGCTRL.at k) 2 (.next (s.force k)))

/-- CAM_FSW_FIRE. -/
def execCamFswFire (mask i : Nat) (s : State) : Out := s.reached .host true CAM_FSW.base (mask + 2 ^ 8 * i) (.next (s.writeFsw mask i))

/-- ISP_RPKICK_WRITE. -/
def execIspRpkickWrite (q mask : Nat) (s : State) : Out := onUnit q 2 (s.reached .host true (ISP_RPKICK.at q) mask (.next (s.kickRp q mask).1))

/-- CORE_GO. -/
def execCoreGo (n : Nat) (s : State) : Out :=
  onUnit n 32 (s.reached .host true (CORE_CTRL.at n) 4 (.next (s.hostStart n (4 * s.fld CORE_START_ENTRY_ENTRY n) (s.regN CORE_START_ARG n)).1))

/-- CORE_CTRL_ABORT. -/
def execCoreCtrlAbort (n : Nat) (s : State) : Out := onUnit n 32 (s.reached .host true (CORE_CTRL.at n) 2 (.next (s.abortJob n)))

/-- CORE_CHFLUSH_WRITE. -/
def execCoreChflushWrite (n mask : Nat) (s : State) : Out := onUnit n 32 (s.reached .host true (CORE_CHFLUSH.at n) mask (.next (s.flushChans n mask)))

/-- SLOT_PGCOMMIT. -/
def execSlotPgcommit (k i : Nat) (s : State) : Out := onUnit k 2 (onUnit i 32 (s.reached .host true (SOL_SLOTCTRL.at k i) 4 (.next (s.pgCommit k i))))

/-- SLOT_KICK. -/
def execSlotKick (k i : Nat) (s : State) : Out :=
  onUnit k 2 (onUnit i 32 (s.reached .host true (SOL_SLOTCTRL.at k i) 8 (.next (s.kickSlot k i (s.liveN SOL_SLOTARG k i)).1)))

/-- SLOT_RESET. -/
def execSlotReset (k i : Nat) (s : State) : Out := onUnit k 2 (onUnit i 32 (s.reached .host true (SOL_SLOTCTRL.at k i) 2 (.next (s.askReset k i))))

/-- SOL_CTRL_ABORT. -/
def execSolCtrlAbort (k : Nat) (s : State) : Out := onUnit k 2 (s.reached .host true (SOL_CTRL.at k) 1 (.next (s.abortSolve k)))

/-- SOL_INFLUSH_WRITE. -/
def execSolInflushWrite (k mask : Nat) (s : State) : Out := onUnit k 2 (s.reached .host true (SOL_INFLUSH.at k) mask (.next (s.flushIns k mask)))

/-- SOL_INCFG_WRITE. -/
def execSolIncfgWrite (k c v : Nat) (s : State) : Out := onUnit k 2 (onUnit c 16 (s.reached .host true (SOL_INCFG.at k c) v (.next (s.setIncfg k c v))))

/-- DOORBELL. -/
def execDoorbell (k prod : Nat) (s : State) : Out := onUnit k 4 (s.reached .host true (CMD_PROD.at k) prod (.next (s.doorbell k prod)))

/-- CMD_CCONS_WRITE. -/
def execCmdCconsWrite (k v : Nat) (s : State) : Out := onUnit k 4 (s.reached .host true (CMD_CCONS.at k) v (.next (s.writeCcons k v)))

/-- CMD_SCONS_WRITE. -/
def execCmdSconsWrite (v : Nat) (s : State) : Out := s.reached .host true CMD_SCONS.base v (.next (s.writeScons v))

/-- RING_ENABLE. -/
def execRingEnable (k : Nat) (s : State) : Out := onUnit k 4 (s.reached .host true (CMD_CTRL.at k) 1 (.next (s.enableRing k)))

/-- RING_DISABLE. -/
def execRingDisable (k : Nat) (s : State) : Out := onUnit k 4 (s.reached .host true (CMD_CTRL.at k) 0 (.next (s.disableRing k)))

/-- STATUS_RING_ENABLE. -/
def execStatusRingEnable (on : Bool) (s : State) : Out :=
  s.reached .host true CMD_SCFG.base (setBits (s.reg CMD_SCFG.base) 0 1 (if on then 1 else 0)).toNat (.next (s.enableSring on))

/-- CMD_CTRL_FLUSH. -/
def execCmdCtrlFlush (k : Nat) (s : State) : Out := onUnit k 4 (s.reached .host true (CMD_CTRL.at k) 3 (.next (s.askFlush k)))

/-- FBR_WINDOW_FLUSH. -/
def execFbrWindowFlush (w : Nat) (s : State) : Out := onUnit w 16 (s.reached .host true (FBR_WCTRL.at w) 2 (.next (s.flushWin w)))

/-- FBR_ERRACK_WRITE. -/
def execFbrErrackWrite (mask : Nat) (s : State) : Out := s.reached .host true FBR_ERRACK.base mask (.next (s.ackWins mask))

/-- FBR_ELOG_POP. -/
def execFbrElogPop (rq : Requester) (s : State) : Out :=
  s.reached rq false FBR_ELOG0.base 0
    (.next ((s.respond rq 0 (toBytes 4 (s.regN FBR_ELOG0))).elogPop rq (decide (rq = .debug) && !(s.flag DBG_CTRL_SIDEFX))))

/-- ROUTE_WRITE: the high half of the pair, with the requester's staged low half. -/
def execRouteWrite (rq : Requester) (i : Nat) (v : Word) (s : State) : Out :=
  onUnit i 256 (s.reached rq true (FBR_RTDST.at i) v.toNat (.next (s.routeWrite rq i v.toNat)))

/-- MRK_HOPCMD_WRITE. -/
def execMrkHopcmdWrite (rq : Requester) (v : Nat) (s : State) : Out := s.reached rq true MRK_HOPCMD.base v (.next (s.hopCmd rq v))

/-- DBG_ATTACH_WRITE. -/
def execDbgAttachWrite (rq : Requester) (on : Bool) (s : State) : Out :=
  s.reached rq true DBG_CTRL.base (if on then 1 else 0) (.next (s.writeAttach rq on))

/-- DBG_SIDEFX_WRITE. -/
def execDbgSidefxWrite (on : Bool) (s : State) : Out := s.reached .host true DBG_CTRL.base (if on then 2 else 0) (.next (s.writeSidefx on))

/-- DBG_HALT_WRITE. -/
def execDbgHaltWrite (rq : Requester) (mask : Nat) (s : State) : Out :=
  s.reached rq true DBG_HALT.base mask (.next (s.whenAttached rq (srcOf rq) DBG_HALT.base mask (fun s => s.askHalt mask)))

/-- DBG_RESUME_WRITE. -/
def execDbgResumeWrite (rq : Requester) (mask : Nat) (s : State) : Out :=
  s.reached rq true DBG_RESUME.base mask (.next (s.whenAttached rq (srcOf rq) DBG_RESUME.base mask (fun s => s.resumeMask mask)))

/-- DBG_STEP_WRITE: a core that is not halted ignores it. -/
def execDbgStepWrite (rq : Requester) (n count : Nat) (s : State) : Out :=
  let v := n + 2 ^ 16 * count
  onUnit n 32 (s.reached rq true DBG_STEP.base v (.next (s.whenAttached rq (srcOf rq) DBG_STEP.base v (fun s => s.stepCore n count))))

/-- CHK_CHECK. -/
def execChkCheck (u : Nat) (s : State) : Out := onUnit u 8 (s.reached .host true (CHK_CTRL.at u) 4 (.next (s.chkCheck u)))

/-- CHK_START. -/
def execChkStart (u : Nat) (s : State) : Out := onUnit u 8 (s.reached .host true (CHK_CTRL.at u) 2 (.next (s.chkStart u)))

/-- JRN_CTRL_SNAPSHOT. -/
def execJrnCtrlSnapshot (s : State) : Out := s.reached .host true JRN_CTRL.base 2 (.next s.snapJrn)

/-- JRN_CTRL_FLUSH. -/
def execJrnCtrlFlush (s : State) : Out := s.reached .host true JRN_CTRL.base 4 (.next s.ctrlFlush)

/-! ### The store aperture (R89 to R93) -/

/-- What BAR2 shows at an offset: the data or instruction store of a core, the store of an engine, the hub store, LPDDR. -/
inductive Place where
  | data (n a : Nat) | inst (n a : Nat) | sol (k a : Nat) | hub (a : Nat) | lpddr (a : Nat)
  deriving DecidableEq, Repr

/-- The place at offset `off` of BAR2, with the LPDDR page `page` (Table 4.4, R93). -/
def placeAt (page off : Nat) : Option Place :=
  if off < 0x2000000 then some (.data (off / 0x100000) (off % 0x100000))
  else if off < 0x2200000 then some (.inst ((off - 0x2000000) / 0x10000) (off % 0x10000))
  else if off < 0x2600000 then some (.sol ((off - 0x2200000) / 0x200000) (off % 0x200000))
  else if off < 0x2800000 then none
  else if off < 0x3400000 then some (.hub (off - 0x2800000))
  else if off < 0x3C00000 then none
  else if off < 0x4000000 ∧ 0x400000 * page < lpddrSize then some (.lpddr (0x400000 * page + (off - 0x3C00000)))
  else none

/-- The compute die of a place. -/
def Place.die : Place → Option Nat
  | .data n _ => some (n / 16)
  | .inst n _ => some (n / 16)
  | .sol k _ => some k
  | _ => none

/-- The place's unit as an uncorrectable error fences it (R447), or none for the hub store and LPDDR. -/
def Place.unit : Place → Option (Nat × Nat)
  | .data n _ => some (0, n)
  | .inst n _ => some (0, n)
  | .sol k _ => some (1, k)
  | _ => none

/-- No request reaches the place: its die is lost (R86); before READY the host reaches the hub store alone, while the ROM waits for an
image (R431). -/
def State.placeLost (s : State) (rq : Requester) (p : Place) : Bool :=
  (match p.die with
    | some d => s.dieUnreachable d
    | none => false)
  || (decide (rq = .host) && !s.serving && !((match p with
    | .hub _ => true
    | _ => false) && s.boot.waiting))

/-- A write of the bytes `a … a+n-1` of a place is refused as LOCKED (R91, R304, R434, R443). -/
def State.placeLocked (s : State) (p : Place) (ofs n : Nat) : Bool :=
  match p with
  | .data c _ => s.coreDropped c
  | .inst c _ => s.coreDropped c || s.busy c
  | .sol k a => s.engineDropped k || s.solLocked k (a + ofs) n
  | .hub a => s.hubLocked (a + ofs) n || (s.boot.waiting && s.flag PWR_BOOTCTL_GO)
  | .lpddr _ => false

/-- `n` bytes of a place. -/
def State.placeBytes (s : State) (p : Place) (n : Nat) : List Nat :=
  match p with
  | .data c a => memBytes dflt0 s.data (dataAt c a) n
  | .inst c a => memBytes dfltF s.inst (instAt c a) n
  | .sol k a => memBytes dflt0 s.sol (solAt k a) n
  | .hub a => s.hubBytes a n
  | .lpddr a => s.lpddrBytes a n

/-- Bytes are written to a place. -/
def State.putPlace (s : State) (p : Place) (bs : List Nat) : State :=
  match p with
  | .data c a => s.putData c a bs
  | .inst c a => { s with inst := memPut dfltF s.inst (instAt c a) bs }
  | .sol k a => s.putSol k a bs
  | .hub a => s.putHub a bs
  | .lpddr a => s.putLpddr a bs

/-- First byte that a list of (byte, enabled) enables, and the bytes from there to the last enabled one. -/
def enabledSpan (l : List (Nat × Bool)) : Option (Nat × Nat) :=
  match l.findIdx? (fun b => b.2) with
  | none => none
  | some i => some (i, (l.length - ((l.reverse.findIdx? (fun b => b.2)).getD 0)) - i)

/-- A write to BAR2: the state after it, and the error that discards it. -/
def State.storeWrite (s : State) (rq : Requester) (page off : Nat) (l : List (Nat × Bool)) : State × Option AccCause :=
  match enabledSpan l with
  | none => (s, none)
  | some (i, n) =>
    match placeAt page off with
    | none => (s, some (if decide (rq = .host) && !s.ready then .unreachable else .unmapped))
    | some p =>
      if s.placeLost rq p then (s, some .unreachable)
      else if s.placeLocked p i n then (s, some .locked)
      else
        let old := s.placeBytes p l.length
        (s.putPlace p ((l.zip old).map (fun q => if q.1.2 then q.1.1 % 256 else q.2)), none)

/-- A read of `n` bytes of BAR2: the bytes, or the error. -/
def State.storeRead (s : State) (rq : Requester) (page off n : Nat) : List Nat ⊕ AccCause :=
  match placeAt page off with
  | none => .inr (if decide (rq = .host) && !s.ready then .unreachable else .unmapped)
  | some p => if s.placeLost rq p then .inr .unreachable else .inl (s.placeBytes p n)

/-- Uncorrectable errors met in a store, in the words of the bytes `l` from the place on, are reported (R92, R447, R456). -/
def State.placeEcc (s : State) (p : Place) (l : List Nat) : State :=
  match p, p.unit with
  | _, some (k, i) => s.fence k i 2
  | .hub a, none => s.badWords 34 a l
  | _, none => s

/-- BAR2_ACCESS (R90 to R93): a request of the host at byte offset `off` with each byte's data and enable; `ecc` lists the bytes (from 0)
that lie in a 64-bit word with an uncorrectable error. -/
def execBar2Access (write : Bool) (off : Nat) (bytes : List (Nat × Bool)) (ecc : List Nat) (s : State) : Out :=
  let page := s.fld HIF_LPDDR_PAGE_PAGE
  let (be, d) := firstDword off bytes
  if s.barsOff .host then .next (s.respond .host 2 [])
  else if enabledSpan bytes = none then .next (if write then s else s.respond .host 0 [])
  else if write then
    match s.storeWrite .host page off bytes with
    | (s, none) => .next s
    | (s, some c) => .next ((s.accErr .host 1 c true be (off / 4 * 4) d).respondErr .host true 0)
  else
    match s.storeRead .host page off bytes.length with
    | .inr c => .next ((s.accErr .host 1 c false be (off / 4 * 4) 0).respondErr .host false bytes.length)
    | .inl bs =>
      let ecc := match placeAt page off with
        | some (.lpddr _) => []
        | _ => ecc
      let bad := fun (i : Nat) => ecc.any (fun e => decide ((off + e) / 8 = (off + i) / 8))
      let data := (List.range bs.length).map (fun i => if bad i then 0xFF else bs.getD i 0)
      let s := { s with resp := { rq := .host, st := 0, poison := !ecc.isEmpty, data := data } }
      match placeAt page off with
      | some p => .next (if ecc.isEmpty then s else s.placeEcc p ecc)
      | none => .next s

end Sys2Proof.Machine
end

