-- ==== Sys2Proof/Machine/Commands.lean ====
section
/-! DEFINITION. Machine/Commands.lean: what every opcode of Table 15.3 does (R353 to R356, R364 to R370), the kernel loader (R256, R257)
and the Lace loader (R334). -/

namespace Sys2Proof.Machine
open Sys2Proof Sys2Proof.Machine.Reg

/-! ### Starting a command -/

/-- Parameter word w`i` of an item. -/
def Item.w (it : Item) (i : Nat) : Nat := it.par.getD (i - 2) 0

/-- The command running on ring `k` waits for `w`. -/
def State.setWait (s : State) (k : Nat) (w : Wait) : State :=
  match (s.ring k).run with
  | some c => s.setRing k { s.ring k with run := some { c with wait := w } }
  | none => s

/-- What an opcode demands and does. `len` and `arg` say whether LEN and the parameters are allowed, `dies` the compute dies of its
targets, `dma` that it needs requests to host memory, and `run` what it does once it has started. -/
structure Opc where
  opc : Nat
  len : Nat → Bool
  arg : Item → Bool
  dies : Item → List Nat := fun _ => []
  dma : Bool := false
  run : Nat → Item → State → State

/-- An item whose opcode has a meaning starts (R345 LINK, R364). -/
def State.startItem (s : State) (c : Opc) (k : Nat) (it : Item) : State :=
  let t := s.begin k it
  if it.link ∧ (s.ring k).lastSt ≠ 0 then t.endCmd k 4
  else if ¬ c.len it.len then t.endCmd k 2
  else if ¬ c.arg it then t.endCmd k 3
  else if (c.dies it).any (fun d => s.dieUnreachable d) then t.endCmd k 0xB
  else c.run k it t

/-- The opcodes that Table 15.3 puts on the path FW, where the Hub Controller runs them (R354). -/
def fwOpcodes : List Nat :=
  [0x004, 0x007, 0x100, 0x200, 0x300, 0x400, 0x500, 0x801, 0x802, 0x803, 0x804, 0x900, 0x901, 0x902, 0x903, 0xF00, 0xF01, 0xF02]

/-- A command for the Hub Controller can start on ring `k`; COPY and JRN_READ wait for requests to host memory (R340). -/
def State.hubWaits (s : State) (k : Nat) : Bool :=
  match s.startable k with
  | some it => fwOpcodes.contains it.opc && (s.dmaOk || !([0x004, 0x801].contains it.opc))
  | none => false

/-- Whom the Hub Controller serves next may be ring `k` (R354): ring 0 before the others, and they in rotation after the one it served last. -/
def State.hubTurn (s : State) (k : Nat) : Bool :=
  decide (k = 0) || (!(s.hubWaits 0)
    && (((List.range 3).map (fun i => (s.hif.turn + i) % 3 + 1)).takeWhile (fun j => decide (j ≠ k))).all (fun j => !(s.hubWaits j)))

/-- The opcode `c` on ring `k`: the item at the front starts if it can, it is this opcode's, the requests it needs may be made (R340), and
the Hub Controller, where it runs it, serves this ring next. -/
def State.command (s : State) (c : Opc) (k : Nat) : State :=
  let s := s.serve k
  match s.startable k with
  | some it =>
    if it.opc = c.opc ∧ (s.dmaOk ∨ ¬ c.dma) ∧ (¬ fwOpcodes.contains it.opc ∨ s.hubTurn k) then
      let s := if fwOpcodes.contains it.opc ∧ k ≠ 0 then { s with hif := { s.hif with turn := k } } else s
      (s.startItem c k it).serve k
    else s
  | none => s

/-- The compute dies of the cores of a mask, and of an engine. -/
def coreDies (m : Nat) : List Nat := (bitsOf m 32).map coreDie

/-- A list of bytes as 32-bit words. -/
def words32 (bs : List Nat) : List Nat := (List.range (bs.length / 4)).map (fun i => fieldLE bs (4 * i) 4)

/-- A value below `2 ^ n`, of which the bits from `n` up are 0. -/
def fits (n x : Nat) : Bool := decide (x < 2 ^ n)

/-! ### Class 0: registers, copies, rings (R356, R357, R364) -/

/-- NOP. -/
def opNop : Opc := { opc := 0x000, len := fun l => l = 2, arg := fun _ => true, run := fun k _ s => s.endCmd k 0 }
def execNop (k : Nat) (s : State) : Out := onUnit k 4 (.next (s.command opNop k))

/-- An offset that REGWR, REGRD and REGPOLL may address: inside BAR0, outside the CMD block, the MSI-X table and the PBA. -/
def regArg (o : Nat) : Bool := fits 24 o && !(decide (0x10000 ≤ o ∧ o < 0x20000)) && !(isMsixTable o) && !(isPba (o / 4 * 4))

/-- A register access of ring `k` in error (R356). -/
def State.regFail (s : State) (k : Nat) (write : Bool) (o v : Nat) (c : AccCause) : State :=
  (s.accErr .hub 3 c write 15 o v).endCmd k 8 [c.code, o]

/-- A full access is unaligned at an offset that is not a multiple of 4. -/
def State.hubWrite (s : State) (o v : Nat) : State × Option AccCause :=
  if o % 4 ≠ 0 then (s, some .unaligned) else s.regWrite .hub o 15 (BitVec.ofNat 32 v)
def State.hubRead (s : State) (o : Nat) (quiet : Bool) : State × (Nat ⊕ AccCause) :=
  if o % 4 ≠ 0 then (s, .inr .unaligned) else s.regRead .hub o 15 quiet

/-- The pairs of a REGWR, in order, up to the first error; a pair that resets the device ends them. -/
def State.writePairs (s : State) (k n : Nat) : List (Nat × Nat) → State
  | [] => s.endCmd k 0 [n]
  | (o, v) :: t =>
    if (s.ring k).run.isNone then s
    else
      match s.hubWrite o v with
      | (s, none) => s.writePairs k (n + 1) t
      | (s, some c) => s.regFail k true o v c

def Item.pairs (it : Item) : List (Nat × Nat) := (List.range ((it.len - 2) / 2)).map (fun i => (it.w (2 + 2 * i), it.w (3 + 2 * i)))

/-- REGWR. -/
def opRegwr : Opc :=
  { opc := 0x001, len := fun l => decide (4 ≤ l ∧ l ≤ 64 ∧ l % 2 = 0), arg := fun it => it.pairs.all (fun p => regArg p.1),
    run := fun k it s => s.writePairs k 0 it.pairs }
def execRegwr (k : Nat) (s : State) : Out := onUnit k 4 (.next (s.command opRegwr k))

/-- REGRD. -/
def opRegrd : Opc :=
  { opc := 0x002, len := fun l => l = 3, arg := fun it => regArg (it.w 2),
    run := fun k it s =>
      match s.hubRead (it.w 2) false with
      | (s, .inl v) => s.endCmd k 0 [v]
      | (s, .inr c) => s.regFail k false (it.w 2) 0 c }
def execRegrd (k : Nat) (s : State) : Out := onUnit k 4 (.next (s.command opRegrd k))

/-- The register that a REGPOLL of ring `k` waits on is read (without side effects); with `last`, its time is over. -/
def State.pollRing (s : State) (k : Nat) (last : Bool) : State :=
  match (s.ring k).run with
  | some ⟨_, .regpoll o mask v till⟩ =>
    match s.hubRead o true with
    | (s, .inr c) => s.regFail k false o 0 c
    | (s, .inl x) =>
      if x &&& mask = v then s.endCmd k 0 [x]
      else if last && decide (till ≤ s.rnd.clk) then s.endCmd k 5 [x]
      else s
  | _ => s

/-- REGPOLL: TIMEOUT in µs of the 250 MHz timing clock. -/
def opRegpoll : Opc :=
  { opc := 0x003, len := fun l => l = 6, arg := fun it => regArg (it.w 2) && decide (1 ≤ it.w 5 ∧ it.w 5 ≤ 1000000),
    run := fun k it s => (s.setWait k (.regpoll (it.w 2) (it.w 3) (it.w 4) (s.rnd.clk + 250 * it.w 5))).pollRing k false }
def execRegpoll (k : Nat) (s : State) : Out := onUnit k 4 (.next ((s.pollRing k false).command opRegpoll k))

/-- REGPOLL_TIMEOUT. -/
def execRegpollTimeout (k : Nat) (s : State) : Out := onUnit k 4 (.next ((s.pollRing k true).serve k))

/-- What lies at byte `a` of COPY's device addresses. -/
def copyPlace (a : Nat) : Option Place :=
  if a < 0x3C00000 then placeAt 0 a
  else if lpddrBase ≤ a ∧ a < lpddrBase + lpddrSize then some (.lpddr (a - lpddrBase))
  else none

def Item.addr64 (it : Item) (i : Nat) : Nat := it.w i + 2 ^ 32 * it.w (i + 1)

/-- Why byte `a` cannot be copied: 3 where nothing is, 9 where the store refuses the write. -/
def State.copyFails (s : State) (write : Bool) (a : Nat) : Nat :=
  match copyPlace a with
  | none => 3
  | some p => if write && s.placeLocked p 0 1 then 9 else 0

/-- A refused write of COPY is an access error of the Hub Controller (R91, R99): the dword it falls in, from byte `a` on. -/
def State.copyLocked (s : State) (a : Nat) (bs : List Nat) : State :=
  let (be, d) := firstDword a (bs.map (fun b => (b, true)))
  s.accErr .hub 3 .locked true be (a / 4 * 4) d 1

/-- COPY of `n` bytes between host address `h` and device address `a`; `fail`: the read of host memory that fails comes after that many
bytes. It ends at the first failure. -/
def State.copy (s : State) (k h a n : Nat) (toHost : Bool) (fail : Option Nat) : State :=
  let m := ((List.range n).takeWhile (fun i => decide (s.copyFails (!toHost) (a + i) = 0))).length
  let st := if m < n then s.copyFails (!toHost) (a + m) else 0
  if toHost then
    let bs := (List.range m).map (fun i => match copyPlace (a + i) with
      | some p => (s.placeBytes p 1).getD 0 0
      | none => 0)
    (s.putHost h bs).endCmd k st [m]
  else
    let f := fail.getD n
    let (m, st) := if f < n ∧ f ≤ m then (f, 0xA) else (m, st)
    let t := (List.range m).foldl (fun t i => match copyPlace (a + i) with
      | some p => t.putPlace p (s.hostBytes (h + i) 1)
      | none => t) s
    let t := if st = 9 then t.copyLocked (a + m) (s.hostBytes (h + m) (min 4 (n - m))) else t
    t.endCmd k st [m]

/-- COPY; `fail` as `State.copy` has it. -/
def opCopy (fail : Option Nat) : Opc :=
  { opc := 0x004, len := fun l => l = 8, dma := true,
    arg := fun it => decide (1 ≤ it.w 6 ∧ it.w 6 ≤ 16777216 ∧ it.w 7 ≤ 1) && (copyPlace (it.addr64 4)).isSome,
    dies := fun it => ((List.range (it.w 6)).filterMap (fun i => (copyPlace (it.addr64 4 + i)).bind Place.die)).eraseDups,
    run := fun k it s => s.copy k (it.addr64 2) (it.addr64 4) (it.w 6) (decide (it.w 7 = 1)) fail }
def execCopy (k : Nat) (fail : Option Nat) (s : State) : Out := onUnit k 4 (.next (s.command (opCopy fail) k))

/-- COMPLETION_TIMEOUT (R340): a read of host memory that ring `k` needs fails: the COPY at its front, or its fetch. -/
def execCompletionTimeout (k : Nat) (s : State) : Out :=
  onUnit k 4 <|
    if ¬ s.dmaOk then .next s
    else
      match s.startable k with
      | some it =>
        if it.opc = 0x004 ∧ it.w 7 = 0 then .next (s.command (opCopy (some 0)) k)
        else if s.fld CMD_STATE_STATE k = 1 then .next (s.takeItem k false) else .next s
      | none => if s.fld CMD_STATE_STATE k = 1 then .next (s.takeItem k false) else .next s

/-- RING_FLUSH. -/
def opRingFlush : Opc :=
  { opc := 0x005, len := fun l => l = 3, arg := fun it => fits 4 (it.w 2),
    run := fun k it s =>
      if (it.w 2).testBit k then s.endCmd k 3
      else (((bitsOf (it.w 2) 4).foldl (fun s j => s.askFlush j) s).setWait k (.ringFlush (it.w 2))).endRingFlush }
def execRingFlush (k : Nat) (s : State) : Out := onUnit k 4 (.next (s.command opRingFlush k))

/-- STAMP: RND_CTRL.SNAP's snapshot and the stamp of now. -/
def opStamp : Opc :=
  { opc := 0x006, len := fun l => l = 2, arg := fun _ => true, run := fun k _ s => s.snap.endCmd k 0 (words32 s.stampNow) }
def execStamp (k : Nat) (s : State) : Out := onUnit k 4 (.next (s.command opStamp k))

/-- INFO: FWVER of the firmware image, HIF_ID, the serial. -/
def opInfo : Opc :=
  { opc := 0x007, len := fun l => l = 2, arg := fun _ => true,
    run := fun k _ s => s.endCmd k 0 [s.hdrField 24 4, s.regN HIF_ID, s.regN HIF_SERIAL_LO, s.regN HIF_SERIAL_HI] }
def execInfo (k : Nat) (s : State) : Out := onUnit k 4 (.next (s.command opInfo k))

/-- NSSET (R44). -/
def opNsset : Opc :=
  { opc := 0x100, len := fun l => l = 4, arg := fun _ => true,
    run := fun k it s => (s.setWait k (.nsset s.nstime)).armNs (it.addr64 2) }
def execNsset (k : Nat) (s : State) : Out := onUnit k 4 (.next (s.command opNsset k))

/-! ### Class 2: the Pattern (R55, R63, R65) -/

/-- PAT_ADMIT. -/
def opPatAdmit : Opc :=
  { opc := 0x200, len := fun l => l = 4, arg := fun it => decide (it.w 2 % 64 = 0 ∧ it.w 2 < hubSize) && fits 17 (it.w 3),
    run := fun k it s =>
      let s := (s.setFld PAT_IMG_BASE_BASE (it.w 2 / 64)).setFld PAT_IMG_LEN_LEN (it.w 3)
      match (s.setWait k .admission).startAdmission with
      | (s, true) => s
      | (s, false) => s.endCmd k 0x010D s.admWords }
def execPatAdmit (k : Nat) (s : State) : Out := onUnit k 4 (.next (s.command opPatAdmit k))

/-- PAT_ACTIVATE; with nothing admitted there is nothing to wait for and the command is refused. -/
def opPatActivate : Opc :=
  { opc := 0x201, len := fun l => l = 4, arg := fun it => fits 16 (it.w 3),
    run := fun k it s =>
      let s := (s.setRegN PAT_ACT_ROUND_LO (it.w 2)).setFld PAT_ACT_ROUND_HI_RND (it.w 3)
      match (s.setWait k .activate).activate with
      | (s, true) => s
      | (s, false) => s.endCmd k 7 }
def execPatActivate (k : Nat) (s : State) : Out := onUnit k 4 (.next (s.command opPatActivate k))

/-- PAT_DEACTIVATE. -/
def opPatDeactivate : Opc :=
  { opc := 0x202, len := fun l => l = 3, arg := fun it => fits 1 (it.w 2),
    run := fun k it s => (s.setWait k (.deactivate (decide (it.w 2 = 1)))).deactivate }
def execPatDeactivate (k : Nat) (s : State) : Out := onUnit k 4 (.next (s.command opPatDeactivate k))

/-- PAT_CANCEL. -/
def opPatCancel : Opc := { opc := 0x203, len := fun l => l = 2, arg := fun _ => true, run := fun k _ s => s.cancelAct.endCmd k 0 }
def execPatCancel (k : Nat) (s : State) : Out := onUnit k 4 (.next (s.command opPatCancel k))

/-! ### Class 3: cores (R254 to R257) -/

/-- Byte ranges (offset, length), none of which passes `n`, and no two of which share a byte. -/
def apart (n : Nat) (l : List (Nat × Nat)) : Bool := l.all (fun r => decide (r.1 + r.2 ≤ n)) && !(anyClash l)

/-- A segment record of a kernel image: ADDR, LEN, DATA_OFS, ZERO. -/
structure KSeg where
  addr : Nat
  len : Nat
  ofs : Nat
  zero : Bool
  deriving DecidableEq, Repr

/-- The segment records of image `b`. -/
def kimgSegs (b : List Nat) : List KSeg :=
  (List.range (fieldLE b 10 2)).map (fun i =>
    let o := fieldLE b 24 4 + 16 * i
    { addr := fieldLE b o 4, len := fieldLE b (o + 4) 4, ofs := fieldLE b (o + 8) 4, zero := (fieldLE b (o + 12) 1).testBit 0 })

/-- KIMG_FORMAT does not apply (R256): `h` is the header, `room` the bytes of the hub store from the image on, `b` the image. -/
def kimgHeadOk (h : List Nat) (room : Nat) : Bool :=
  let f := fieldLE h
  let nent := f 8 2
  let nseg := f 10 2
  let len := f 28 4
  decide (f 0 4 = 0x4E524B54 ∧ f 4 2 = 1 ∧ f 6 2 = 0 ∧ f 38 26 = 0)
    && decide (1 ≤ nent ∧ nent ≤ 16 ∧ nseg ≤ 64 ∧ f 12 4 % 64 = 0 ∧ f 16 4 % 4 = 0 ∧ 4 ≤ f 16 4 ∧ f 16 4 ≤ 65536)
    && decide (f 20 4 % 4 = 0 ∧ f 20 4 + f 16 4 ≤ 65536 ∧ f 24 4 % 16 = 0 ∧ 64 ≤ len ∧ len ≤ room)
    && apart len [(0, 64), (64, 16 * nent), (f 12 4, f 16 4), (f 24 4, 16 * nseg)]
def kimgSegOk (b : List Nat) (i : Nat) : Bool :=
  let o := fieldLE b 24 4 + 16 * i
  decide (fieldLE b (o + 13) 3 = 0) && (!((fieldLE b (o + 12) 1).testBit 0) || decide (fieldLE b (o + 8) 4 = 0))

/-- The first failing code of Table 10.12 among those of the image alone, 0 for none. -/
def kimgFails (b : List Nat) (room : Nat) : Nat :=
  let segs := kimgSegs b
  let code := fieldLE b 20 4
  let clen := fieldLE b 16 4
  if ¬ kimgHeadOk b room ∨ ¬ (List.range (fieldLE b 10 2)).all (kimgSegOk b) then 1
  else if crc32c (b.take 32 ++ [0, 0, 0, 0] ++ b.drop 36) ≠ fieldLE b 32 4 then 2
  else if (List.range (fieldLE b 8 2)).any (fun i => let e := fieldLE b (64 + 16 * i) 4; decide (e < code ∨ code + clen ≤ e))
      ∨ segs.any (fun g => decide (0x100000 < g.addr + g.len) || (!g.zero && decide (b.length < g.ofs + g.len))) then 3
  else if anyClash (segs.map (fun g => (g.addr, g.len))) then 4
  else 0

/-- The code with which core `n` refuses an image whose own checks answered `f` (R257). -/
def State.kimgRefusal (s : State) (b : List Nat) (f n : Nat) : Nat :=
  let rings := ((List.range 16).filter (fun c => s.chanOn n c)).map (fun c => (s.chanBase n c, 256 * s.chanSlots n c))
  if f ≠ 0 then f
  else if (kimgSegs b).any (fun g => rings.any (clash (g.addr, g.len))) then 4
  else if s.cstate n ≠ cIdle ∨ s.coreDropped n ∨ s.namesCore n then 5
  else 0

/-- The image is written into core `n`: the code, then the segments in record order. -/
def State.loadCore (s : State) (b : List Nat) (n : Nat) : State :=
  let s := { s with inst := memPut dfltF s.inst (instAt n (fieldLE b 20 4)) ((b.drop (fieldLE b 12 4)).take (fieldLE b 16 4)) }
  (kimgSegs b).foldl (fun s g =>
    s.putData n g.addr (if g.zero then List.replicate g.len 0 else (b.drop g.ofs).take g.len)) s

/-- The image at `a` of the hub store: the length its header gives, as far as the store goes (R256: bytes 28 to 31; R321: 40 to 43). -/
def State.storedImage (s : State) (a lenAt : Nat) : List Nat :=
  let h := s.hubBytes a (min 64 (hubSize - a))
  s.hubBytes a (min (max 64 (fieldLE h lenAt 4)) (hubSize - a))

/-- CORE_LOAD (R257): every check for every core before any write. -/
def opCoreLoad : Opc :=
  { opc := 0x300, len := fun l => l = 4, arg := fun it => decide (it.w 3 < hubSize), dies := fun it => coreDies (it.w 2),
    run := fun k it s =>
      let b := s.storedImage (it.w 3) 28
      let f := kimgFails b (hubSize - it.w 3)
      match (bitsOf (it.w 2) 32).find? (fun n => decide (s.kimgRefusal b f n ≠ 0)) with
      | some n => s.endCmd k (0x0200 + s.kimgRefusal b f n) [n]
      | none => ((bitsOf (it.w 2) 32).foldl (fun s n => s.loadCore b n) s).endCmd k 0 [0xFF] }
def execCoreLoad (k : Nat) (s : State) : Out := onUnit k 4 (.next (s.command opCoreLoad k))

/-- CORE_START (R254). -/
def opCoreStart : Opc :=
  { opc := 0x301, len := fun l => l = 5,
    arg := fun it => decide (it.w 2 % 32 + 256 * nbits (it.w 2) 8 1 = it.w 2 ∧ it.w 3 % 4 = 0) && fits 16 (it.w 3),
    dies := fun it => [coreDie (it.w 2 % 32)],
    run := fun k it s =>
      let n := it.w 2 % 32
      let s := (s.setFld CORE_START_ENTRY_ENTRY (it.w 3 / 4) n).setRegN CORE_START_ARG (it.w 4) n
      let s := if (it.w 2).testBit 8 then s.setWait k (.coreJob n) else s
      match s.hostStart n (it.w 3) (it.w 4) with
      | (s, false) => s.endCmd k 7
      | (s, true) => if (it.w 2).testBit 8 then s else s.endCmd k 0 }
def execCoreStart (k : Nat) (s : State) : Out := onUnit k 4 (.next (s.command opCoreStart k))

/-- CORE_ABORT (R255). -/
def opCoreAbort : Opc :=
  { opc := 0x302, len := fun l => l = 3, arg := fun _ => true, dies := fun it => coreDies (it.w 2),
    run := fun k it s => ((bitsOf (it.w 2) 32).foldl (fun s n => s.abortJob n) s).endCmd k 0 }
def execCoreAbort (k : Nat) (s : State) : Out := onUnit k 4 (.next (s.command opCoreAbort k))

/-- CORE_CHFLUSH. -/
def opCoreChflush : Opc :=
  { opc := 0x303, len := fun l => l = 4, arg := fun it => fits 5 (it.w 2) && fits 16 (it.w 3), dies := fun it => [coreDie (it.w 2)],
    run := fun k it s => (s.flushChans (it.w 2) (it.w 3)).endCmd k 0 }
def execCoreChflush (k : Nat) (s : State) : Out := onUnit k 4 (.next (s.command opCoreChflush k))

/-! ### Class 4: solver engines (R303, R313, R317, R334) -/

/-- A header field, offset, length or reserved byte breaks R321 to R323. -/
def laceHeadOk (b : List Nat) (room : Nat) : Bool :=
  let f := fieldLE b
  let len := f 40 4
  let nsym := f 36 2
  laceFormatOk b && decide (f 24 2 ≤ 16384 ∧ 64 ≤ len ∧ len ≤ room ∧ f 32 4 % 16 = 0 ∧ (nsym = 0 → f 32 4 = 0))
    && apart len [(0, 64), (f 16 4, 8 * f 12 4), (f 32 4, 16 * nsym)]
    && (List.range nsym).all (fun i =>
      let o := f 32 4 + 16 * i
      decide (f (o + 8) 1 ≤ 2 ∧ f (o + 9) 1 = 0 ∧ f (o + 14) 1 ≤ 2 ∧ f (o + 15) 1 = 0))

/-- The verdict on image `b` for address `a` of engine `e` (Table 14.4): the code, 0 for none, and the faulting word. -/
def State.laceRefusal (s : State) (b : List Nat) (room e a : Nat) : Nat × Nat :=
  let len := fieldLE b 40 4
  let p := laceProg b 0
  let src := fun i => fieldLE b (p.code + 8 * i) 8
  let none_ := 0xFFFFFFFF
  let on := (List.range 32).filter (fun i => s.slotOn e i)
  if ¬ laceHeadOk b room then (1, none_)
  else if crc32c (b.take 44 ++ [0, 0, 0, 0] ++ b.drop 48) ≠ fieldLE b 44 4 then (2, none_)
  else
    match laceReplay src p (16 * p.cyc + 2 ^ 64) (LaceRun.start src p) with
    | some w => (3, w)
    | none =>
      if 0x200000 < a + len ∨ on.any (fun i => (s.dataRegions false e i).any (clash (a, len))) then (4, none_)
      else if on.any (fun i => (s.progRegion false e i).any (clash (a, len))) then (5, none_)
      else (0, none_)

/-- LACE_LOAD (R334); a DROPPED engine's store refuses the write (R91). -/
def opLaceLoad : Opc :=
  { opc := 0x400, len := fun l => l = 5,
    arg := fun it => fits 1 (it.w 2) && decide (it.w 3 % 64 = 0 ∧ it.w 3 < 0x200000 ∧ it.w 4 < hubSize), dies := fun it => [it.w 2],
    run := fun k it s =>
      let b := s.storedImage (it.w 4) 40
      match s.laceRefusal b (hubSize - it.w 4) (it.w 2) (it.w 3) with
      | (0, w) =>
        if s.engineDropped (it.w 2) ∨ s.solLocked (it.w 2) (it.w 3) b.length then
          (s.copyLocked (0x2200000 + 0x200000 * it.w 2 + it.w 3) (b.take 4)).endCmd k 9 [w]
        else (s.putSol (it.w 2) (it.w 3) b).endCmd k 0 [w]
      | (c, w) => s.endCmd k (0x0300 + c) [w] }
def execLaceLoad (k : Nat) (s : State) : Out := onUnit k 4 (.next (s.command opLaceLoad k))

/-- Engine and slot of a slot id. -/
def slotOf (x : Nat) : Nat × Nat := (nbits x 5 1, x % 32)

/-- SOL_PGCOMMIT (R303); a slot that is not enabled commits nothing. -/
def opSolPgcommit : Opc :=
  { opc := 0x401, len := fun l => l = 3, arg := fun it => fits 6 (it.w 2), dies := fun it => [(slotOf (it.w 2)).1],
    run := fun k it s =>
      let (e, i) := slotOf (it.w 2)
      if s.slotOn e i ∧ ¬ s.engineDropped e then (s.setWait k (.pgcommit e i)).pgCommit e i else s.endCmd k 7 }
def execSolPgcommit (k : Nat) (s : State) : Out := onUnit k 4 (.next (s.command opSolPgcommit k))

/-- SOL_SLOT_RESET (R313). -/
def opSolSlotReset : Opc :=
  { opc := 0x402, len := fun l => l = 3, arg := fun it => fits 6 (it.w 2), dies := fun it => [(slotOf (it.w 2)).1],
    run := fun k it s =>
      let (e, i) := slotOf (it.w 2)
      if s.engineDropped e then s.endCmd k 7 else (s.setWait k (.slotReset e i)).askReset e i }
def execSolSlotReset (k : Nat) (s : State) : Out := onUnit k 4 (.next (s.command opSolSlotReset k))

/-- SOL_KICK (R317). -/
def opSolKick : Opc :=
  { opc := 0x403, len := fun l => l = 4, arg := fun it => decide (it.w 2 % 64 + 256 * nbits (it.w 2) 8 1 = it.w 2),
    dies := fun it => [(slotOf (it.w 2)).1],
    run := fun k it s =>
      let (e, i) := slotOf (it.w 2)
      match s.kickSlot e i (it.w 3) with
      | (s, false) => s.endCmd k 7
      | (s, true) => if (it.w 2).testBit 8 then s.setWait k (.solve e i) else s.endCmd k 0 }
def execSolKick (k : Nat) (s : State) : Out := onUnit k 4 (.next (s.command opSolKick k))

/-- SOL_INFLUSH (R305). -/
def opSolInflush : Opc :=
  { opc := 0x404, len := fun l => l = 4, arg := fun it => fits 1 (it.w 2) && fits 16 (it.w 3), dies := fun it => [it.w 2],
    run := fun k it s => (s.flushIns (it.w 2) (it.w 3)).endCmd k 0 }
def execSolInflush (k : Nat) (s : State) : Out := onUnit k 4 (.next (s.command opSolInflush k))

/-! ### Class 5: heads and capture rings (R117, R135, R157) -/

/-- HEAD_ADMIT (R117). -/
def opHeadAdmit : Opc :=
  { opc := 0x500, len := fun l => l = 4, arg := fun it => decide (it.w 2 < 6) && fits 16 (it.w 3),
    run := fun k it s =>
      match (s.setWait k (.head (it.w 2))).headAdmit (it.w 2) (it.w 3) with
      | (s, 0) => s
      | (s, st) => s.endCmd k st }
def execHeadAdmit (k : Nat) (s : State) : Out := onUnit k 4 (.next (s.command opHeadAdmit k))

/-- HEAD_QREL (R135). -/
def opHeadQrel : Opc :=
  { opc := 0x501, len := fun l => l = 3, arg := fun it => decide (it.w 2 < 6),
    run := fun k it s =>
      let p := it.w 2
      if s.pst p = 8 ∨ s.flag MOL_STATUS_QHELD p then (s.qrel p).endCmd k 0 else s.endCmd k 7 }
def execHeadQrel (k : Nat) (s : State) : Out := onUnit k 4 (.next (s.command opHeadQrel k))

/-- HEAD_RETRAIN. -/
def opHeadRetrain : Opc :=
  { opc := 0x502, len := fun l => l = 3, arg := fun it => decide (it.w 2 < 6), run := fun k it s => (s.retrainPort (it.w 2)).endCmd k 0 }
def execHeadRetrain (k : Nat) (s : State) : Out := onUnit k 4 (.next (s.command opHeadRetrain k))

/-- CAP_REARM. -/
def opCapRearm : Opc :=
  { opc := 0x503, len := fun l => l = 3, arg := fun it => fits 4 (it.w 2),
    run := fun k it s => ((bitsOf (it.w 2) 4).foldl (fun s r => s.rearm r) s).endCmd k 0 }
def execCapRearm (k : Nat) (s : State) : Out := onUnit k 4 (.next (s.command opCapRearm k))

/-- CAP_FORCE. -/
def opCapForce : Opc :=
  { opc := 0x504, len := fun l => l = 3, arg := fun it => fits 4 (it.w 2),
    run := fun k it s => ((bitsOf (it.w 2) 4).foldl (fun s r => s.force r) s).endCmd k 0 [s.count48 % 2 ^ 32] }
def execCapForce (k : Nat) (s : State) : Out := onUnit k 4 (.next (s.command opCapForce k))

/-! ### Classes 6 and 7: cameras, re-process pipelines, the bridge -/

/-- FSYNC_FIRE. -/
def opFsyncFire : Opc :=
  { opc := 0x600, len := fun l => l = 3, arg := fun it => decide (it.w 2 % 64 + 256 * nbits (it.w 2) 8 3 = it.w 2),
    run := fun k it s => (s.writeFsw (it.w 2 % 64) (nbits (it.w 2) 8 3)).endCmd k 0 }
def execFsyncFire (k : Nat) (s : State) : Out := onUnit k 4 (.next (s.command opFsyncFire k))

/-- RP_KICK (R202): it waits for the kicks that were not refused. -/
def opRpKick : Opc :=
  { opc := 0x601, len := fun l => l = 4, arg := fun it => fits 1 (it.w 2) && fits 16 (it.w 3),
    run := fun k it s =>
      let (s, r) := s.kickRp (it.w 2) (it.w 3)
      (s.setWait k (.rpKick (it.w 2) (it.w 3 &&& (65535 - r)) r)).settleKicks }
def execRpKick (k : Nat) (s : State) : Out := onUnit k 4 (.next (s.command opRpKick k))

/-- FBR_ERRACK. -/
def opFbrErrack : Opc :=
  { opc := 0x700, len := fun l => l = 3, arg := fun it => fits 16 (it.w 2), run := fun k it s => (s.ackWins (it.w 2)).endCmd k 0 }
def execFbrErrack (k : Nat) (s : State) : Out := onUnit k 4 (.next (s.command opFbrErrack k))

/-! ### Class 8: the Journal (R365, R415, R416, R419, R425) -/

/-- JRN_SNAPSHOT. -/
def opJrnSnapshot : Opc :=
  { opc := 0x800, len := fun l => l = 2, arg := fun _ => true,
    run := fun k _ s =>
      let s := s.snapJrn
      s.endCmd k 0 [s.regN JRN_SNAP_FIRST, s.regN JRN_SNAP_LAST] }
def execJrnSnapshot (k : Nat) (s : State) : Out := onUnit k 4 (.next (s.command opJrnSnapshot k))

/-- SEQ `x` lies from `a` to `b` (R409). -/
def seqIn (a b x : Nat) : Bool := !(seqBefore x a) && !(seqBefore b x)

/-- The records of the buffer with SEQ from `a` to `b`, in SEQ order. -/
def State.recordsIn (s : State) (a b : Nat) : List JSlot := (s.jrn.slots.filter (fun e => seqIn a b e.seq)).foldl (fun l e => insSeq e l) []

/-- JRN_READ (R416). A record in the model is never half overwritten, so none of those copied fails R415. -/
def opJrnRead : Opc :=
  { opc := 0x801, len := fun l => l = 6, dma := true, arg := fun it => decide (1 ≤ it.w 3 ∧ it.w 3 ≤ 8192 ∧ it.w 4 % 32 = 0),
    run := fun k it s =>
      let a := it.w 2
      let b := (it.w 2 + it.w 3 - 1) % 2 ^ 32
      let first := s.regN JRN_SNAP_FIRST
      let last := s.regN JRN_SNAP_LAST
      if seqIn first last a ∧ seqIn first last b then
        let l := s.recordsIn a b
        (s.putHost (it.addr64 4) (l.flatMap (fun e => recBytes e.seq e.r))).endCmd k 0 [l.length, 0]
      else s.endCmd k 0x0704 }
def execJrnRead (k : Nat) (s : State) : Out := onUnit k 4 (.next (s.command opJrnRead k))

/-- JRN_FLUSH (R419); without a mounted partition there is nothing to flush to. -/
def opJrnFlush : Opc :=
  { opc := 0x802, len := fun l => l = 2, arg := fun _ => true,
    run := fun k _ s => if s.fld JRN_STATUS_NORST = 2 then (s.setWait k .jrnFlush).ctrlFlush else s.endCmd k 7 }
def execJrnFlush (k : Nat) (s : State) : Out := onUnit k 4 (.next (s.command opJrnFlush k))

/-- The last SEQ assigned, or the one that is never assigned. -/
def State.lastSeq (s : State) : Nat := s.jrn.last.getD 0xFFFFFFFF

/-- JRN_CLEAR_CHALLENGE (R365, R367). -/
def opJrnClearChallenge : Opc :=
  { opc := 0x803, len := fun l => l = 2, arg := fun _ => true,
    run := fun k _ s =>
      if s.flag SEC_STATUS_CLRBLK ∨ s.flag SEC_STATUS_RNGFAIL then s.endCmd k 7
      else
        let n := Config.random s.free
        let s := ({ s with sec := { s.sec with nonce := some (n, s.lastSeq), nonceAt := s.rnd.clk } } : State).draw
        s.endCmd k 0 (words32 (toBytes 16 n.toNat) ++ [s.lastSeq]) }
def execJrnClearChallenge (k : Nat) (s : State) : Out := onUnit k 4 (.next (s.command opJrnClearChallenge k))

/-- The 32 bytes in words w2 to w9. -/
def Item.key256 (it : Item) : Nat := ofBytes ((List.range 8).flatMap (fun i => toBytes 4 (it.w (2 + i))))

/-- The journal-clear key, if it has been fused. -/
def State.clearKey (s : State) : Option (BitVec 256) := s.sec.jck.orElse (fun _ => Config.fusedJck)

/-- The tag that authorises a clear (R365). -/
def clearTag (key : BitVec 256) (nonce : BitVec 128) (seq : Nat) : BitVec 256 :=
  Config.hmacSha256 key (toBytes 16 nonce.toNat ++ toBytes 8 Config.serial.toNat ++ toBytes 4 seq)

/-- A nonce that is still valid: at most 10 s old. -/
def State.validNonce (s : State) : Option (BitVec 128 × Nat) :=
  if s.rnd.clk - s.sec.nonceAt ≤ 2500000000 then s.sec.nonce else none

/-- The SEQ that a failed clear records. -/
def State.failSeq (s : State) : Nat :=
  match s.validNonce with
  | some (_, q) => q
  | none => (Config.freeWord s.free).toNat

/-- One more failed clear in the run; the nonce is used up. -/
def State.failOnce (s : State) : State := ({ s with sec := { s.sec with nonce := none, fails := s.sec.fails + 1 } } : State).draw

/-- Clears are blocked for 60 s. -/
def State.blockClears (s : State) (seq : Nat) : State :=
  ((({ s with sec := { s.sec with blockAt := s.rnd.clk } } : State).setFld SEC_STATUS_CLRBLK 1).secReport 5 0 6 seq)

/-- ST_JRN_AUTH (R365, R367): the nonce is consumed, the failure is counted and recorded, the third in a row blocks challenges. With no
nonce there is none that named a SEQ: a free value. -/
def State.clearFails (s : State) : State :=
  let t := (s.failOnce.count SEC_CNT_CLRFAIL).journal 0x0005 0 6 s.failSeq
  if s.sec.fails = 2 then t.blockClears s.failSeq else t

/-- JRN_CLEAR (R365, R425): until the key is fused every clear ends with ST_JRN_AUTH. -/
def opJrnClear : Opc :=
  { opc := 0x804, len := fun l => l = 10, arg := fun _ => true,
    run := fun k it s =>
      match s.clearKey, s.validNonce with
      | none, _ => s.clearFails.endCmd k 0x0701
      | some _, none => ({ s with sec := { s.sec with fails := 0 } }).endCmd k 0x0702
      | some key, some (n, q) =>
        if clearTag key n q = BitVec.ofNat 256 it.key256 then
          let s := ({ s with sec := { s.sec with nonce := none, fails := 0 } }).setWait k .jrnClear
          let s := s.clearJournal
          if s.fld JRN_STATUS_NORST = 2 then s else s.endCmd k 0 [s.regN JRN_EPOCH]
        else s.clearFails.endCmd k 0x0701 }
def execJrnClear (k : Nat) (s : State) : Out := onUnit k 4 (.next (s.command opJrnClear k))

/-! ### Class 9: keys (R366 to R368) -/

/-- ST_CMD_DENIED: counted, and an event. -/
def State.denied (s : State) (k opc : Nat) : State := ((s.count SEC_CNT_DENIED).secReport 4 0 4 opc).endCmd k 0xC

/-- The check value of a key: the first 3 bytes of AES-128 under it, applied to a zero block. -/
def keyCheck (key : BitVec 128) : Nat := (Config.aes128 key 0).toNat % 2 ^ 24

/-- KEY_LOAD. -/
def opKeyLoad : Opc :=
  { opc := 0x900, len := fun l => l = 7, arg := fun it => fits 5 (it.w 2),
    run := fun k it s =>
      if s.flag SEC_STATUS_LOCKKEY then s.denied k 0x900
      else
        let i := it.w 2
        let key : BitVec 128 := BitVec.ofNat 128 (ofBytes ((List.range 4).flatMap (fun j => toBytes 4 (it.w (3 + j)))))
        let s := { s with sec := { s.sec with keys := bind s.sec.keys i key } }
        let s := s.setFld SEC_KEYSLOT_LOADED (s.fld SEC_KEYSLOT_LOADED ||| 2 ^ i)
        (s.secReport 0 i 3 (keyCheck key)).endCmd k 0 [keyCheck key] }
def execKeyLoad (k : Nat) (s : State) : Out := onUnit k 4 (.next (s.command opKeyLoad k))

/-- KEY_ERASE. -/
def opKeyErase : Opc :=
  { opc := 0x901, len := fun l => l = 3, arg := fun _ => true,
    run := fun k it s =>
      if s.flag SEC_STATUS_LOCKKEY then s.denied k 0x901
      else
        let m := it.w 2
        let s := { s with sec := { s.sec with keys := s.sec.keys.filter (fun p => !(m.testBit p.1)) } }
        let s := s.setFld SEC_KEYSLOT_LOADED (s.fld SEC_KEYSLOT_LOADED &&& (0xFFFFFFFF - m % 2 ^ 32))
        let s := match bitsOf m 32 with
          | i :: _ => s.secReport 1 i 3 m
          | [] => s
        s.endCmd k 0 }
def execKeyErase (k : Nat) (s : State) : Out := onUnit k 4 (.next (s.command opKeyErase k))

/-- JCK_SET. -/
def opJckSet : Opc :=
  { opc := 0x902, len := fun l => l = 10, arg := fun _ => true,
    run := fun k it s =>
      if s.flag SEC_STATUS_LOCKJCK then s.denied k 0x902
      else if s.clearKey.isSome then s.endCmd k 0x0802
      else
        let s := { s with sec := { s.sec with jck := some (BitVec.ofNat 256 it.key256) } }
        ((s.setFld SEC_STATUS_JCKSET 1).secReport 2 0 5 0).endCmd k 0 }
def execJckSet (k : Nat) (s : State) : Out := onUnit k 4 (.next (s.command opJckSet k))

/-- SEC_LOCK. -/
def opSecLock : Opc :=
  { opc := 0x903, len := fun l => l = 3, arg := fun it => fits 2 (it.w 2),
    run := fun k it s =>
      let s := if (it.w 2).testBit 0 then s.setFld SEC_STATUS_LOCKKEY 1 else s
      let s := if (it.w 2).testBit 1 then s.setFld SEC_STATUS_LOCKJCK 1 else s
      (if it.w 2 = 0 then s else s.secReport 3 0 4 (it.w 2)).endCmd k 0 }
def execSecLock (k : Nat) (s : State) : Out := onUnit k 4 (.next (s.command opSecLock k))

/-! ### Class 15: debug (R471, R472, R475) -/

/-- A DBG-class command: refused while no debugger is attached. -/
def State.dbgCmd (s : State) (k : Nat) (f : State → State) : State := if s.attached then f s else s.endCmd k 7

/-- DBG_HALT. -/
def opDbgHalt : Opc :=
  { opc := 0xF00, len := fun l => l = 3, arg := fun _ => true, dies := fun it => coreDies (it.w 2),
    run := fun k it s => s.dbgCmd k (fun s => (s.askHalt (it.w 2)).endCmd k 0) }
def execDbgHalt (k : Nat) (s : State) : Out := onUnit k 4 (.next (s.command opDbgHalt k))

/-- DBG_RESUME. -/
def opDbgResume : Opc :=
  { opc := 0xF01, len := fun l => l = 3, arg := fun _ => true, dies := fun it => coreDies (it.w 2),
    run := fun k it s => s.dbgCmd k (fun s => (s.resumeMask (it.w 2)).endCmd k 0) }
def execDbgResume (k : Nat) (s : State) : Out := onUnit k 4 (.next (s.command opDbgResume k))

/-- DBG_STEP: a core that is not halted cannot be stepped; the command ends when the core has halted again. -/
def opDbgStep : Opc :=
  { opc := 0xF02, len := fun l => l = 4, arg := fun it => fits 5 (it.w 2) && decide (1 ≤ it.w 3) && fits 16 (it.w 3),
    dies := fun it => [coreDie (it.w 2)],
    run := fun k it s => s.dbgCmd k (fun s =>
      if (s.core (it.w 2)).halted then (s.setWait k (.step (it.w 2))).stepCore (it.w 2) (it.w 3) else s.endCmd k 7) }
def execDbgStep (k : Nat) (s : State) : Out := onUnit k 4 (.next (s.command opDbgStep k))

/-! ### Time without a command -/

/-- What the block does while no command comes: its clocks tick, and every REGPOLL reads its register again. -/
def State.idle (s : State) : State := (List.range 4).foldl (fun s k => (s.pollRing k false).serve k) s.tick

end Sys2Proof.Machine
end

