-- ==== Sys2Proof/Machine/Tap.lean ====
section
/-! DEFINITION. Machine/Tap.lean: the test access port (R466 to R468) and the debug port behind it (R469, R470). -/

namespace Sys2Proof.Machine
open Sys2Proof Sys2Proof.Machine.Reg

/-- A TAP instruction is loaded. -/
def State.loadIr (s : State) (c : Nat) : State := { s with tap := { s.tap with ir := c } }

/-- An instruction that takes the balls with boundary cells away from the device (R468). -/
def State.takeBalls (s : State) (c : Nat) : State := ((s.loadIr c).setFld DBG_STATUS_EXTEST 1).dbgReport 7 6 0 c

/-- The 32-bit identification register (R467). -/
def idcode (major : Nat) : Nat := 2 ^ 28 * (major % 16) + 2 ^ 12 * 0x0960 + 2 * Config.manufacturer.toNat + 1

/-- What Capture-DR loads into the data register that the TAP instruction selects: the identification, DBGACC's DATA and STATUS, the bypass
bit 0; the boundary register's bits belong to the balls. -/
def State.tapCapture (s : State) : Option Nat :=
  if s.tap.ir = 0x02 then some (idcode (s.fld HIF_ID_MAJOR))
  else if s.tap.ir = 0x10 then some (s.tap.data + 2 ^ 64 * (if s.flag DBG_STATUS_FUSEDIS then 3 else s.tap.status))
  else if s.tap.ir = 0x00 ∨ s.tap.ir = 0x01 ∨ s.tap.ir = 0x05 ∨ s.tap.ir = 0x06 then none
  else some 0

/-- TAP_RESET. -/
def execTapReset (s : State) : Out := .next (s.loadIr 0x02)
/-- EXTEST. -/
def execExtest (s : State) : Out := .next (s.takeBalls 0x00)
/-- SAMPLE/PRELOAD. -/
def execSamplePreload (s : State) : Out := .next (s.loadIr 0x01)
/-- IDCODE. -/
def execIdcode (s : State) : Out := .next (s.loadIr 0x02)
/-- CLAMP. -/
def execClamp (s : State) : Out := .next (s.takeBalls 0x03)
/-- HIGHZ. -/
def execHighz (s : State) : Out := .next (s.takeBalls 0x04)
/-- EXTEST_PULSE. -/
def execExtestPulse (s : State) : Out := .next (s.takeBalls 0x05)
/-- EXTEST_TRAIN. -/
def execExtestTrain (s : State) : Out := .next (s.takeBalls 0x06)
/-- DBGACC. -/
def execDbgacc (s : State) : Out := .next (s.loadIr 0x10)
/-- BYPASS. -/
def execBypass (s : State) : Out := .next (s.loadIr 0xFF)

/-- DBGACC has ended an operation. -/
def State.tapEnd (s : State) (data st : Nat) : State := { s with tap := { s.tap with data := data, status := st } }

/-- An access of the debug port in error (R469, R100). -/
def State.tapError (s : State) (src : Nat) (c : AccCause) (write : Bool) (ofs data : Nat) : State :=
  (s.accErr .debug src c write 15 ofs (if write then data else 0)).tapEnd (if write then s.tap.data else 0xFFFFFFFF) 2

/-- A read of the debug port. A word of a store with an uncorrectable error reads as 0xFFFF_FFFF and is reported (R92); LPDDR carries no ECC. -/
def State.tapRead (s : State) (ofs : Nat) (bar2 ecc : Bool) : State :=
  if bar2 then
    let page := s.fld DBG_LPDDR_PAGE_PAGE
    match s.storeRead .debug page ofs 4 with
    | .inl bs =>
      match placeAt page ofs with
      | some (.lpddr _) => s.tapEnd (ofBytes bs) 0
      | some p => if ecc then (s.tapEnd 0xFFFFFFFF 0).placeEcc p [0] else s.tapEnd (ofBytes bs) 0
      | none => s
    | .inr c => s.tapError 1 c false ofs 0
  else
    match s.regRead .debug ofs 15 (!(s.flag DBG_CTRL_SIDEFX)) with
    | (s, .inl v) => s.tapEnd v 0
    | (s, .inr c) => s.tapError 0 c false ofs 0

/-- A write of the debug port. -/
def State.tapWrite (s : State) (data ofs : Nat) (bar2 : Bool) : State :=
  let r := if bar2 then s.storeWrite .debug (s.fld DBG_LPDDR_PAGE_PAGE) ofs ((toBytes 4 data).map (fun b => (b, true)))
    else s.regWrite .debug ofs 15 (BitVec.ofNat 32 data)
  match r with
  | (s, none) => s.tapEnd s.tap.data 0
  | (s, some c) => s.tapError (if bar2 then 1 else 0) c true ofs data

/-- DBGACC_UPDATE (R469, R470): nothing unless DBGACC is the TAP's instruction; OP 3 is reserved. -/
def execDbgaccUpdate (data ofs : Nat) (bar2 : Bool) (op : TapOp) (s : State) : Out :=
  if s.tap.ir ≠ 0x10 ∨ s.flag DBG_STATUS_FUSEDIS ∨ op.code = 0 then .next s
  else if op.code = 1 then .next (s.tapRead ofs bar2 op.ecc)
  else if op.code = 2 then .next (s.tapWrite data ofs bar2)
  else .refused .reservedOp

end Sys2Proof.Machine
end

