-- ==== Sys2Proof/Machine/Dispatch.lean ====
section
/-! DEFINITION. Machine/Dispatch.lean: one arm per command, each one direct call of that command's meaning. -/

namespace Sys2Proof.Machine
open Sys2Proof

/-- The effect of a command on everything but the queue. -/
def exec (i : Instr) (s : State) : Host.Outcome State Fault Refusal :=
  match i with
  | .powerOnReset => Sys2Proof.Machine.execPowerOnReset s
  | .pinReset => Sys2Proof.Machine.execPinReset s
  | .hostReset => Sys2Proof.Machine.execHostReset s
  | .hcrestart => Sys2Proof.Machine.execHcrestart s
  | .hcWatchdogExpiry => Sys2Proof.Machine.execHcWatchdogExpiry s
  | .debugReset => Sys2Proof.Machine.execDebugReset s
  | .castonPhaseDone ix => Sys2Proof.Machine.execCastonPhaseDone ix s
  | .castonPhaseTimeout => Sys2Proof.Machine.execCastonPhaseTimeout s
  | .bootGo => Sys2Proof.Machine.execBootGo s
  | .bindOffAreaErased => Sys2Proof.Machine.execBindOffAreaErased s
  | .pwrfail => Sys2Proof.Machine.execPwrfail s
  | .hubRailTrip => Sys2Proof.Machine.execHubRailTrip s
  | .bindoffTest => Sys2Proof.Machine.execBindoffTest s
  | .bindoffHalt => Sys2Proof.Machine.execBindoffHalt s
  | .bindoffJournalDone => Sys2Proof.Machine.execBindoffJournalDone s
  | .warmSaveDone => Sys2Proof.Machine.execWarmSaveDone s
  | .bindoffParkDone => Sys2Proof.Machine.execBindoffParkDone s
  | .brownout => Sys2Proof.Machine.execBrownout s
  | .refclkLost => Sys2Proof.Machine.execRefclkLost s
  | .refclkReturn => Sys2Proof.Machine.execRefclkReturn s
  | .stitchBoundary => Sys2Proof.Machine.execStitchBoundary s
  | .roundBoundary => Sys2Proof.Machine.execRoundBoundary s
  | .voltageCrossing ago below above period => Sys2Proof.Machine.execVoltageCrossing ago below above period s
  | .zcEdge ago rising => Sys2Proof.Machine.execZcEdge ago rising s
  | .crossingTimeout voltage => Sys2Proof.Machine.execCrossingTimeout voltage s
  | .amplitudeTimeout => Sys2Proof.Machine.execAmplitudeTimeout s
  | .refRevert => Sys2Proof.Machine.execRefRevert s
  | .slewDone => Sys2Proof.Machine.execSlewDone s
  | .holdForce on => Sys2Proof.Machine.execHoldForce on s
  | .rndSnap => Sys2Proof.Machine.execRndSnap s
  | .ppsEdge rising => Sys2Proof.Machine.execPpsEdge rising s
  | .ppsTimeout => Sys2Proof.Machine.execPpsTimeout s
  | .nssetArm rq hi => Sys2Proof.Machine.execNssetArm rq hi s
  | .registerWrite rq off be v => Sys2Proof.Machine.execRegisterWrite rq off be v s
  | .commitWrite b => Sys2Proof.Machine.execCommitWrite b s
  | .stagedSetApply b ecc => Sys2Proof.Machine.execStagedSetApply b ecc s
  | .pairLowRead rq off be => Sys2Proof.Machine.execPairLowRead rq off be s
  | .pairHighWrite rq off v => Sys2Proof.Machine.execPairHighWrite rq off v s
  | .rcRead rq off be => Sys2Proof.Machine.execRcRead rq off be s
  | .bar0Overlong write off be v n => Sys2Proof.Machine.execBar0Overlong write off be v n s
  | .unsupportedRequest => Sys2Proof.Machine.execUnsupportedRequest s
  | .bar2Access write off bytes ecc => Sys2Proof.Machine.execBar2Access write off bytes ecc s
  | .accerrClear => Sys2Proof.Machine.execAccerrClear s
  | .patCtrlAdmit => Sys2Proof.Machine.execPatCtrlAdmit s
  | .admissionDone => Sys2Proof.Machine.execAdmissionDone s
  | .patCtrlActivate => Sys2Proof.Machine.execPatCtrlActivate s
  | .patternActivation => Sys2Proof.Machine.execPatternActivation s
  | .patCtrlDeactivate => Sys2Proof.Machine.execPatCtrlDeactivate s
  | .patternDeactivation => Sys2Proof.Machine.execPatternDeactivation s
  | .patCtrlCancel => Sys2Proof.Machine.execPatCtrlCancel s
  | .instanceDispatch r => Sys2Proof.Machine.execInstanceDispatch r s
  | .deadlineExpiry => Sys2Proof.Machine.execDeadlineExpiry s
  | .wcetOverrun r => Sys2Proof.Machine.execWcetOverrun r s
  | .readmissionDone => Sys2Proof.Machine.execReadmissionDone s
  | .readmissionEffect => Sys2Proof.Machine.execReadmissionEffect s
  | .linkLos p => Sys2Proof.Machine.execLinkLos p s
  | .syncLoss p => Sys2Proof.Machine.execSyncLoss p s
  | .m1LinkUp p => Sys2Proof.Machine.execM1LinkUp p s
  | .capsReportRx p frame => Sys2Proof.Machine.execCapsReportRx p frame s
  | .capsTimeout p => Sys2Proof.Machine.execCapsTimeout p s
  | .m2LinkUp p => Sys2Proof.Machine.execM2LinkUp p s
  | .m2UpgradeTimeout p => Sys2Proof.Machine.execM2UpgradeTimeout p s
  | .authRespRx p frame => Sys2Proof.Machine.execAuthRespRx p frame s
  | .authTimeout p => Sys2Proof.Machine.execAuthTimeout p s
  | .calibTimeout p => Sys2Proof.Machine.execCalibTimeout p s
  | .echoTx p => Sys2Proof.Machine.execEchoTx p s
  | .echoReplyRx p frame age => Sys2Proof.Machine.execEchoReplyRx p frame age s
  | .echoTimeout p => Sys2Proof.Machine.execEchoTimeout p s
  | .cadenceTx p => Sys2Proof.Machine.execCadenceTx p s
  | .sampleRx p frame credit => Sys2Proof.Machine.execSampleRx p frame credit s
  | .aliveRx p frame => Sys2Proof.Machine.execAliveRx p frame s
  | .aliveTimeout p => Sys2Proof.Machine.execAliveTimeout p s
  | .intRx p frame age => Sys2Proof.Machine.execIntRx p frame age s
  | .regackRx p frame => Sys2Proof.Machine.execRegackRx p frame s
  | .moariMsgDiscard p frame broken => Sys2Proof.Machine.execMoariMsgDiscard p frame broken s
  | .outboundCreditTimeout p => Sys2Proof.Machine.execOutboundCreditTimeout p s
  | .mcntRenewal p => Sys2Proof.Machine.execMcntRenewal p s
  | .molRetrain p => Sys2Proof.Machine.execMolRetrain p s
  | .molQrel p => Sys2Proof.Machine.execMolQrel p s
  | .windowFinalize => Sys2Proof.Machine.execWindowFinalize s
  | .emissionCommit e => Sys2Proof.Machine.execEmissionCommit e s
  | .ringRecordDone k ok => Sys2Proof.Machine.execRingRecordDone k ok s
  | .wfmTrgqPop => Sys2Proof.Machine.execWfmTrgqPop s
  | .ringRearmWrite k => Sys2Proof.Machine.execRingRearmWrite k s
  | .ringForceWrite k => Sys2Proof.Machine.execRingForceWrite k s
  | .frameStart p vc => Sys2Proof.Machine.execFrameStart p vc s
  | .frameEnd p vc => Sys2Proof.Machine.execFrameEnd p vc s
  | .frameEndTimeout p => Sys2Proof.Machine.execFrameEndTimeout p s
  | .longPacketRx p vc dt hdr crcOk full data => Sys2Proof.Machine.execLongPacketRx p vc dt hdr crcOk full data s
  | .fsyncEdge p => Sys2Proof.Machine.execFsyncEdge p s
  | .fsyncPulseEnd p => Sys2Proof.Machine.execFsyncPulseEnd p s
  | .exposureCentre p => Sys2Proof.Machine.execExposureCentre p s
  | .camFswFire mask ix => Sys2Proof.Machine.execCamFswFire mask ix s
  | .deliveryCommit p k => Sys2Proof.Machine.execDeliveryCommit p k s
  | .txPacketSend => Sys2Proof.Machine.execTxPacketSend s
  | .pipelineFrameDone p loss => Sys2Proof.Machine.execPipelineFrameDone p loss s
  | .pipelineWdt p => Sys2Proof.Machine.execPipelineWdt p s
  | .ispRpkickWrite q mask => Sys2Proof.Machine.execIspRpkickWrite q mask s
  | .rpFrameStart q => Sys2Proof.Machine.execRpFrameStart q s
  | .rpFrameEnd q loss => Sys2Proof.Machine.execRpFrameEnd q loss s
  | .msgPacketRx src tag => Sys2Proof.Machine.execMsgPacketRx src tag s
  | .writePacketRx src tag => Sys2Proof.Machine.execWritePacketRx src tag s
  | .readPacketRx src tag ecc => Sys2Proof.Machine.execReadPacketRx src tag ecc s
  | .respRx n tag node => Sys2Proof.Machine.execRespRx n tag node s
  | .markerReplyRx n tag => Sys2Proof.Machine.execMarkerReplyRx n tag s
  | .markerRead src tag => Sys2Proof.Machine.execMarkerRead src tag s
  | .markerSet src tag => Sys2Proof.Machine.execMarkerSet src tag s
  | .markerAdd src tag => Sys2Proof.Machine.execMarkerAdd src tag s
  | .markerTake src tag => Sys2Proof.Machine.execMarkerTake src tag s
  | .markerWaitge src tag => Sys2Proof.Machine.execMarkerWaitge src tag s
  | .markerAcquire src tag => Sys2Proof.Machine.execMarkerAcquire src tag s
  | .markerRelease src tag => Sys2Proof.Machine.execMarkerRelease src tag s
  | .markerReset src tag => Sys2Proof.Machine.execMarkerReset src tag s
  | .markerWaitTimeout node tag => Sys2Proof.Machine.execMarkerWaitTimeout node tag s
  | .leaseExpiry k => Sys2Proof.Machine.execLeaseExpiry k s
  | .mrkHopcmdWrite rq v => Sys2Proof.Machine.execMrkHopcmdWrite rq v s
  | .purlCrcFail l => Sys2Proof.Machine.execPurlCrcFail l s
  | .purlRetrainDone l ok => Sys2Proof.Machine.execPurlRetrainDone l ok s
  | .alu n => Sys2Proof.Machine.execAlu n s
  | .alui n => Sys2Proof.Machine.execAlui n s
  | .lui n => Sys2Proof.Machine.execLui n s
  | .oril n => Sys2Proof.Machine.execOril n s
  | .ldu n => Sys2Proof.Machine.execLdu n s
  | .lds n => Sys2Proof.Machine.execLds n s
  | .st n => Sys2Proof.Machine.execSt n s
  | .bc n => Sys2Proof.Machine.execBc n s
  | .jal n => Sys2Proof.Machine.execJal n s
  | .jalr n => Sys2Proof.Machine.execJalr n s
  | .send n => Sys2Proof.Machine.execSend n s
  | .recv n => Sys2Proof.Machine.execRecv n s
  | .recvTimeout n => Sys2Proof.Machine.execRecvTimeout n s
  | .mrel n => Sys2Proof.Machine.execMrel n s
  | .mctlFlush n => Sys2Proof.Machine.execMctlFlush n s
  | .mctlStatus n => Sys2Proof.Machine.execMctlStatus n s
  | .mop n => Sys2Proof.Machine.execMop n s
  | .mopb n => Sys2Proof.Machine.execMopb n s
  | .movd n => Sys2Proof.Machine.execMovd n s
  | .moverDone n => Sys2Proof.Machine.execMoverDone n s
  | .mload n => Sys2Proof.Machine.execMload n s
  | .mrun n => Sys2Proof.Machine.execMrun n s
  | .mwait n => Sys2Proof.Machine.execMwait n s
  | .mstat n => Sys2Proof.Machine.execMstat n s
  | .vrun n => Sys2Proof.Machine.execVrun n s
  | .vwait n => Sys2Proof.Machine.execVwait n s
  | .ocfg n => Sys2Proof.Machine.execOcfg n s
  | .orun n => Sys2Proof.Machine.execOrun n s
  | .owait n => Sys2Proof.Machine.execOwait n s
  | .done n => Sys2Proof.Machine.execDone n s
  | .jobComplete n => Sys2Proof.Machine.execJobComplete n s
  | .fence n => Sys2Proof.Machine.execFence n s
  | .waitt n => Sys2Proof.Machine.execWaitt n s
  | .wstitch n => Sys2Proof.Machine.execWstitch n s
  | .wstitchWake n => Sys2Proof.Machine.execWstitchWake n s
  | .csrr n => Sys2Proof.Machine.execCsrr n s
  | .csrw n => Sys2Proof.Machine.execCsrw n s
  | .wdkick n => Sys2Proof.Machine.execWdkick n s
  | .brk n => Sys2Proof.Machine.execBreak n s
  | .coreGo n => Sys2Proof.Machine.execCoreGo n s
  | .coreCtrlAbort n => Sys2Proof.Machine.execCoreCtrlAbort n s
  | .coreChflushWrite n mask => Sys2Proof.Machine.execCoreChflushWrite n mask s
  | .coreWatchdogExpiry n => Sys2Proof.Machine.execCoreWatchdogExpiry n s
  | .storeEccError kind idx => Sys2Proof.Machine.execStoreEccError kind idx s
  | .parityError kind idx => Sys2Proof.Machine.execParityError kind idx s
  | .matrixOpStart n => Sys2Proof.Machine.execMatrixOpStart n s
  | .matrixOpDone n => Sys2Proof.Machine.execMatrixOpDone n s
  | .checksumFault n vp array sub col pass diff ex => Sys2Proof.Machine.execChecksumFault n vp array sub col pass diff ex s
  | .vpOpStart n => Sys2Proof.Machine.execVpOpStart n s
  | .vpOpDone n => Sys2Proof.Machine.execVpOpDone n s
  | .outputOpStart n => Sys2Proof.Machine.execOutputOpStart n s
  | .outputOpDone n => Sys2Proof.Machine.execOutputOpDone n s
  | .solveStart k => Sys2Proof.Machine.execSolveStart k s
  | .solveEnd k => Sys2Proof.Machine.execSolveEnd k s
  | .solverResultSend k ix => Sys2Proof.Machine.execSolverResultSend k ix s
  | .solverInputMsg src tag => Sys2Proof.Machine.execSolverInputMsg src tag s
  | .slotPgcommit k ix => Sys2Proof.Machine.execSlotPgcommit k ix s
  | .slotKick k ix => Sys2Proof.Machine.execSlotKick k ix s
  | .slotReset k ix => Sys2Proof.Machine.execSlotReset k ix s
  | .solCtrlAbort k => Sys2Proof.Machine.execSolCtrlAbort k s
  | .solInflushWrite k mask => Sys2Proof.Machine.execSolInflushWrite k mask s
  | .solIncfgWrite k c v => Sys2Proof.Machine.execSolIncfgWrite k c v s
  | .solverWatchdog k => Sys2Proof.Machine.execSolverWatchdog k s
  | .laceFma k => Sys2Proof.Machine.execLaceFma k s
  | .laceFms k => Sys2Proof.Machine.execLaceFms k s
  | .laceFnma k => Sys2Proof.Machine.execLaceFnma k s
  | .laceAdd k => Sys2Proof.Machine.execLaceAdd k s
  | .laceSub k => Sys2Proof.Machine.execLaceSub k s
  | .laceMul k => Sys2Proof.Machine.execLaceMul k s
  | .laceMax k => Sys2Proof.Machine.execLaceMax k s
  | .laceMin k => Sys2Proof.Machine.execLaceMin k s
  | .laceAbs k => Sys2Proof.Machine.execLaceAbs k s
  | .laceNeg k => Sys2Proof.Machine.execLaceNeg k s
  | .laceMov k => Sys2Proof.Machine.execLaceMov k s
  | .laceSel k => Sys2Proof.Machine.execLaceSel k s
  | .laceConst k => Sys2Proof.Machine.execLaceConst k s
  | .laceDiv k => Sys2Proof.Machine.execLaceDiv k s
  | .laceSqrt k => Sys2Proof.Machine.execLaceSqrt k s
  | .lacePivr k => Sys2Proof.Machine.execLacePivr k s
  | .lacePivrp k => Sys2Proof.Machine.execLacePivrp k s
  | .laceGpiv k => Sys2Proof.Machine.execLaceGpiv k s
  | .laceGpivp k => Sys2Proof.Machine.execLaceGpivp k s
  | .laceLd k => Sys2Proof.Machine.execLaceLd k s
  | .laceSt k => Sys2Proof.Machine.execLaceSt k s
  | .laceNop k => Sys2Proof.Machine.execLaceNop k s
  | .laceWait k => Sys2Proof.Machine.execLaceWait k s
  | .laceSpec k => Sys2Proof.Machine.execLaceSpec k s
  | .laceRep k => Sys2Proof.Machine.execLaceRep k s
  | .laceEnd k => Sys2Proof.Machine.execLaceEnd k s
  | .doorbell k prod => Sys2Proof.Machine.execDoorbell k prod s
  | .commandFetch k ok => Sys2Proof.Machine.execCommandFetch k ok s
  | .cmdCconsWrite k v => Sys2Proof.Machine.execCmdCconsWrite k v s
  | .cmdSconsWrite v => Sys2Proof.Machine.execCmdSconsWrite v s
  | .ringEnable k => Sys2Proof.Machine.execRingEnable k s
  | .ringDisable k => Sys2Proof.Machine.execRingDisable k s
  | .statusRingEnable on => Sys2Proof.Machine.execStatusRingEnable on s
  | .cmdCtrlFlush k => Sys2Proof.Machine.execCmdCtrlFlush k s
  | .msixUnmask v => Sys2Proof.Machine.execMsixUnmask v s
  | .pcieLinkReset down => Sys2Proof.Machine.execPcieLinkReset down s
  | .linkChange speed width rev => Sys2Proof.Machine.execLinkChange speed width rev s
  | .nop k => Sys2Proof.Machine.execNop k s
  | .regwr k => Sys2Proof.Machine.execRegwr k s
  | .regrd k => Sys2Proof.Machine.execRegrd k s
  | .regpoll k => Sys2Proof.Machine.execRegpoll k s
  | .copy k fail => Sys2Proof.Machine.execCopy k fail s
  | .ringFlush k => Sys2Proof.Machine.execRingFlush k s
  | .stamp k => Sys2Proof.Machine.execStamp k s
  | .info k => Sys2Proof.Machine.execInfo k s
  | .nsset k => Sys2Proof.Machine.execNsset k s
  | .patAdmit k => Sys2Proof.Machine.execPatAdmit k s
  | .patActivate k => Sys2Proof.Machine.execPatActivate k s
  | .patDeactivate k => Sys2Proof.Machine.execPatDeactivate k s
  | .patCancel k => Sys2Proof.Machine.execPatCancel k s
  | .coreLoad k => Sys2Proof.Machine.execCoreLoad k s
  | .coreStart k => Sys2Proof.Machine.execCoreStart k s
  | .coreAbort k => Sys2Proof.Machine.execCoreAbort k s
  | .coreChflush k => Sys2Proof.Machine.execCoreChflush k s
  | .laceLoad k => Sys2Proof.Machine.execLaceLoad k s
  | .solPgcommit k => Sys2Proof.Machine.execSolPgcommit k s
  | .solSlotReset k => Sys2Proof.Machine.execSolSlotReset k s
  | .solKick k => Sys2Proof.Machine.execSolKick k s
  | .solInflush k => Sys2Proof.Machine.execSolInflush k s
  | .headAdmit k => Sys2Proof.Machine.execHeadAdmit k s
  | .headQrel k => Sys2Proof.Machine.execHeadQrel k s
  | .headRetrain k => Sys2Proof.Machine.execHeadRetrain k s
  | .capRearm k => Sys2Proof.Machine.execCapRearm k s
  | .capForce k => Sys2Proof.Machine.execCapForce k s
  | .fsyncFire k => Sys2Proof.Machine.execFsyncFire k s
  | .rpKick k => Sys2Proof.Machine.execRpKick k s
  | .fbrErrack k => Sys2Proof.Machine.execFbrErrack k s
  | .jrnSnapshot k => Sys2Proof.Machine.execJrnSnapshot k s
  | .jrnRead k => Sys2Proof.Machine.execJrnRead k s
  | .jrnFlush k => Sys2Proof.Machine.execJrnFlush k s
  | .jrnClearChallenge k => Sys2Proof.Machine.execJrnClearChallenge k s
  | .jrnClear k => Sys2Proof.Machine.execJrnClear k s
  | .keyLoad k => Sys2Proof.Machine.execKeyLoad k s
  | .keyErase k => Sys2Proof.Machine.execKeyErase k s
  | .jckSet k => Sys2Proof.Machine.execJckSet k s
  | .secLock k => Sys2Proof.Machine.execSecLock k s
  | .dbgHalt k => Sys2Proof.Machine.execDbgHalt k s
  | .dbgResume k => Sys2Proof.Machine.execDbgResume k s
  | .dbgStep k => Sys2Proof.Machine.execDbgStep k s
  | .nonceExpiry => Sys2Proof.Machine.execNonceExpiry s
  | .clearBlockExpiry => Sys2Proof.Machine.execClearBlockExpiry s
  | .rngFail => Sys2Proof.Machine.execRngFail s
  | .rngOk => Sys2Proof.Machine.execRngOk s
  | .bar4Write a bs => Sys2Proof.Machine.execBar4Write a bs s
  | .bar4Read a be => Sys2Proof.Machine.execBar4Read a be s
  | .segmentDispatch hid => Sys2Proof.Machine.execSegmentDispatch hid s
  | .regackTimeout p => Sys2Proof.Machine.execRegackTimeout p s
  | .busyRetry p => Sys2Proof.Machine.execBusyRetry p s
  | .readTimeout => Sys2Proof.Machine.execReadTimeout s
  | .fbrWindowFlush w => Sys2Proof.Machine.execFbrWindowFlush w s
  | .fbrErrackWrite mask => Sys2Proof.Machine.execFbrErrackWrite mask s
  | .fbrElogPop rq => Sys2Proof.Machine.execFbrElogPop rq s
  | .routeWrite rq ix v => Sys2Proof.Machine.execRouteWrite rq ix v s
  | .mailboxCommit p => Sys2Proof.Machine.execMailboxCommit p s
  | .chkDataWrite rq u be v => Sys2Proof.Machine.execChkDataWrite rq u be v s
  | .chkCheck u => Sys2Proof.Machine.execChkCheck u s
  | .chkStart u => Sys2Proof.Machine.execChkStart u s
  | .recordIntake => Sys2Proof.Machine.execRecordIntake s
  | .flushDone => Sys2Proof.Machine.execFlushDone s
  | .sectorEraseDone => Sys2Proof.Machine.execSectorEraseDone s
  | .journalMount => Sys2Proof.Machine.execJournalMount s
  | .flashErr sector op status addr => Sys2Proof.Machine.execFlashErr sector op status addr s
  | .jrnCtrlSnapshot => Sys2Proof.Machine.execJrnCtrlSnapshot s
  | .jrnCtrlFlush => Sys2Proof.Machine.execJrnCtrlFlush s
  | .chkWindowExpiry => Sys2Proof.Machine.execChkWindowExpiry s
  | .hostFence kind idx => Sys2Proof.Machine.execHostFence kind idx s
  | .unitRevive kind idx => Sys2Proof.Machine.execUnitRevive kind idx s
  | .reviveDone pass => Sys2Proof.Machine.execReviveDone pass s
  | .avfsEvaluation n margin alarm => Sys2Proof.Machine.execAvfsEvaluation n margin alarm s
  | .hubEcc ofs hc => Sys2Proof.Machine.execHubEcc ofs hc s
  | .correctedEcc store idx => Sys2Proof.Machine.execCorrectedEcc store idx s
  | .pwrFlogPop => Sys2Proof.Machine.execPwrFlogPop s
  | .tmpSensorSample temps => Sys2Proof.Machine.execTmpSensorSample temps s
  | .sensorStale k => Sys2Proof.Machine.execSensorStale k s
  | .tapReset => Sys2Proof.Machine.execTapReset s
  | .extest => Sys2Proof.Machine.execExtest s
  | .samplePreload => Sys2Proof.Machine.execSamplePreload s
  | .idcode => Sys2Proof.Machine.execIdcode s
  | .clamp => Sys2Proof.Machine.execClamp s
  | .highz => Sys2Proof.Machine.execHighz s
  | .extestPulse => Sys2Proof.Machine.execExtestPulse s
  | .extestTrain => Sys2Proof.Machine.execExtestTrain s
  | .dbgacc => Sys2Proof.Machine.execDbgacc s
  | .bypass => Sys2Proof.Machine.execBypass s
  | .dbgaccUpdate data ofs bar2 op => Sys2Proof.Machine.execDbgaccUpdate data ofs bar2 op s
  | .dbgAttachWrite rq on => Sys2Proof.Machine.execDbgAttachWrite rq on s
  | .dbgSidefxWrite on => Sys2Proof.Machine.execDbgSidefxWrite on s
  | .dbgHaltWrite rq mask => Sys2Proof.Machine.execDbgHaltWrite rq mask s
  | .coreHalt n => Sys2Proof.Machine.execCoreHalt n s
  | .dbgResumeWrite rq mask => Sys2Proof.Machine.execDbgResumeWrite rq mask s
  | .dbgStepWrite rq n count => Sys2Proof.Machine.execDbgStepWrite rq n count s
  | .coreDebugRegAccess rq write v => Sys2Proof.Machine.execCoreDebugRegAccess rq write v s
  | .regpollTimeout k => Sys2Proof.Machine.execRegpollTimeout k s
  | .completionTimeout k => Sys2Proof.Machine.execCompletionTimeout k s
  | .busMasterEnableChange bme mse d3 fmask => Sys2Proof.Machine.execBusMasterEnableChange bme mse d3 fmask s
  | .resetNHigh => Sys2Proof.Machine.execResetNHigh s

end Sys2Proof.Machine
end

