-- ==== Sys2Proof/Safety.lean ====
section
/-! DEFINITION. Safety.lean: the terms in which claims are stated: what it is for a command to answer, the pieces of the state, and which of
them each command may change. -/

namespace Sys2Proof.Machine
open Sys2Proof Sys2Proof.Machine.Reg

/-- The command answers a next state, of which `P` holds. -/
def Does (c : Instr) (s : State) (P : State → Prop) : Prop := ∃ t, exec c s = .next t ∧ P t

/-- Bit `b` of the event register `r` is set. -/
def State.evt (s : State) (r : Rg) (b : Nat) : Prop := (s.reg r.base).toNat.testBit b = true

/-- Bit `b` of the event register of unit `i` is set. -/
def State.evtAt (s : State) (r : Rg) (i b : Nat) : Prop := (s.reg (r.at i)).toNat.testBit b = true

/-- An access of `rq` to the register at `off` of BAR0 is not discarded as UNREACHABLE (R86, R431): its die is there, and for the host the device
serves it. -/
abbrev State.reaches (s : State) (rq : Requester) (off : Nat) : Prop := s.unreachable rq off = false

/-- Register requests of `rq` are served: for the host in READY, not in stage 6 of bind-off and with Memory Space Enable (R339, R431). -/
abbrev State.serves (s : State) (rq : Requester) : Prop := rq = .host → s.serving = true ∧ s.hif.mse = true

/-- The way of a message or packet is free: nothing that left earlier is on the mesh or waits to follow it (R18). -/
abbrev State.wayClear (s : State) : Prop := s.mesh.stray = [] ∧ ∀ n < 32, (s.core n).adds = []

/-- Every register but those at the addresses of `l` reads the same in both states. -/
def sameRegsBut (l : List Nat) (s t : State) : Prop := ∀ a, a ∉ l → t.reg a = s.reg a

/-- The registers in which a report can leave something: the PBA, JRN_EVENT and the counts of lost records. -/
def reportRegs : List Nat := [0x9000, 0x9004, JRN_EVENT.base, JRN_LOST0.base, JRN_LOST1.base]

/-- A write of the host to the register at `off` has been discarded as UNREACHABLE and logged (R86, R99, R431); with the first error kept, nothing
else changes. -/
def Unreached (off v : Nat) (s t : State) : Prop :=
  t.fld HIF_ACCERR_VALID = 1 ∧ t.fld HIF_ACCERR_CAUSE = AccCause.unreachable.code ∧ t.fld HIF_ACCERR_WRITE = 1 ∧ t.fld HIF_ACCERR_SRC = 0 ∧
    t.regN HIF_ACCERR_DATA = v % 2 ^ 32 ∧ t.evt HIF_EVENT 0 ∧
    sameRegsBut ([HIF_ACCERR.base, HIF_ACCERR_ADDR.base, HIF_ACCERR_DATA.base, HIF_EVENT.base] ++ reportRegs) s t ∧
    (t.reg HIF_ACCERR_ADDR.base).toNat % 2 ^ 26 = off

/-- What a counting field shows after `n` more counts. -/
def State.counted (s : State) (f : Fld) (i : Nat := 0) (n : Nat := 1) : Nat := min (s.fld f i + n) (2 ^ f.w - 1)

/-- Core `n` is about to issue the word `w`, which is an instruction of row `row`, without having waited. -/
def State.issues (s : State) (n row w : Nat) : Prop :=
  n < 32 ∧ s.canIssue n = true ∧ s.fetch n = w ∧ legal w = true ∧ Sys2Proof.Machine.rowOf w = row ∧ (s.core n).stall = false

/-- The general registers of a core once `rd` has taken `v`; g0 takes nothing (R234). -/
def Core.put (c : Core) (rd v : Nat) : List Nat := if rd = 0 then c.g else c.g.set rd (v % 2 ^ 32)

/-- Core `n` goes on at `next` after `cyc` cycles; of the registers only the PC and those at the addresses of `l` may differ, and every other core is
as it was. -/
def Retired (l : List Nat) (n next cyc : Nat) (s t : State) : Prop :=
  t.pc n = next ∧ (t.core n).cyc = (s.core n).cyc + cyc ∧ (t.core n).wait = .none ∧ sameRegsBut (CORE_PC.at n :: l) s t ∧
    ∀ m, m ≠ n → t.core m = s.core m

/-- The job of core `n` has ended with an exception (R248): its code, the PC of the instruction and the address or operand. -/
def Faulted (n code addr : Nat) (s t : State) : Prop :=
  t.cstate n = cIdle ∧ t.fld CORE_JOBST_STATUS n = 2 ∧ t.fld CORE_JOBST_EXC n = code ∧ t.fld CORE_EXCPC_PC n = s.pc n ∧
    t.regN CORE_EXCADDR n = addr % 2 ^ 32 ∧ t.evtAt CORE_EVENT n 0

/-- The unit has been fenced (R449): it is DROPPED, the fence log holds its entry and the event is set. -/
def Fenced (kind idx cause : Nat) (s t : State) : Prop :=
  t.unitDropped kind idx = true ∧ (idx + 2 ^ 8 * kind + 2 ^ 12 * cause + 2 ^ 16 * (s.count48 % 2 ^ 15) + 2 ^ 31) ∈ t.hlth.flog ∧ t.evt PWR_EVENT 0

/-- No operation waits on marker `k`. -/
def State.calm (s : State) (k : Nat) : Prop := ∀ w ∈ s.mesh.waiters, w.marker ≠ k

/-- A piece of the state. `jck` is the journal-clear key, which `sec` holds too; `pending` is the queue of waiting commands. -/
inductive Piece where
  /-- The register file. -/
  | regs
  /-- The PAIR latches. -/
  | latch
  /-- The staged high halves. -/
  | stage
  /-- The data stores of the cores. -/
  | data
  /-- Their instruction stores. -/
  | inst
  /-- The stores of the solver engines. -/
  | sol
  /-- The hub store. -/
  | hub
  /-- LPDDR. -/
  | lpddr
  /-- The flash. -/
  | nor
  /-- Host memory. -/
  | host
  /-- The counter of free values. -/
  | free
  /-- The Round engine. -/
  | rnd
  /-- The PCIe endpoint. -/
  | hif
  /-- The command rings. -/
  | rings
  /-- The status ring. -/
  | sring
  /-- Keys, nonce and clears. -/
  | sec
  /-- The Journal. -/
  | jrn
  /-- The Pattern. -/
  | pat
  /-- Mesh, credits and markers. -/
  | mesh
  /-- The cores. -/
  | cores
  /-- Their accumulator files. -/
  | acc
  /-- The solver engines. -/
  | engines
  /-- Fences, sensors and scaling. -/
  | hlth
  /-- Cast-on and bind-off. -/
  | boot
  /-- The check units. -/
  | chk
  /-- The Framer. -/
  | wfm
  /-- The Field Bridge. -/
  | fbr
  /-- The sense ports. -/
  | ports
  /-- The last response. -/
  | resp
  /-- Cameras and pipelines. -/
  | cam
  /-- The TAP. -/
  | tap
  /-- The journal-clear key. -/
  | jck
  /-- The queue of waiting commands. -/
  | pending
  /-- How many units of each kind there are. -/
  | units
  deriving DecidableEq, Repr

/-- How many command rings, cores, solver engines, check units and sense ports there are. -/
def State.sizes (s : State) : List Nat := [s.rings.length, s.cores.length, s.engines.length, s.chk.length, s.ports.length]

/-- The block has the units the spec gives it: 4 command rings, 32 cores, 2 solver engines, 8 check units, 6 sense ports. -/
abbrev State.whole (s : State) : Prop := s.sizes = [4, 32, 2, 8, 6]

/-- Engine `k` runs the solve `v` of a program `p`, whose next word `w`, fetched in schedule `l`, is of row `row` and issues without fault in cycle
`c`. -/
def State.laceIssues (s : State) (k row : Nat) (v : Solve) (p : LaceProg) (l : LaceRun) (w c : Nat) : Prop :=
  k < 2 ∧ s.laceRunning k = some (v, p) ∧ v.lace.nextWord (s.laceSrc k p) p = some (l, w, c) ∧ (l.issue p w c 0).isSome = true ∧ lwRow w = row

/-- A word has issued in cycle `c` and its result `x` lands in `rd` in cycle `at_`; results that were due have landed, and stores, registers and
the other engine are as they were. -/
def LaceIssued (k at_ rd x : Nat) (v : Solve) (c : Nat) (s t : State) : Prop :=
  (∃ u, (t.engine k).run = some u ∧ (at_, rd, x) ∈ u.lace.lands ∧ u.lace.cyc = c ∧ u.regs = (v.landTo c).regs ∧ u.npiv = v.npiv) ∧
    t.sol = s.sol ∧ t.regs = s.regs ∧ t.engine (1 - k) = s.engine (1 - k)

/-- Item `it` stands alone at the front of ring `k` and can start: no command runs on any ring, there is room for its completion, it asks neither
for LINK nor for SILENT, and if the Hub Controller carries it out, it is this ring's turn (R354). -/
def State.offers (s : State) (k : Nat) (it : Item) : Prop :=
  k < 4 ∧ s.whole ∧ (s.ring k).taken = [it] ∧ (s.ring k).mute = false ∧ (s.ring k).flush = false ∧ (∀ j, (s.ring j).run = none) ∧ s.boStage = 0 ∧
    s.cplRoom k = true ∧ s.dmaOk = true ∧ s.flag CMD_CTRL_EN k = true ∧ it.link = false ∧ it.silent = false ∧
    (fwOpcodes.contains it.opc = true → s.hubTurn k = true)

/-- The item's opcode, length and parameter words. -/
def Item.is (it : Item) (opc len : Nat) (par : List Nat) : Prop := it.opc = opc ∧ it.len = len ∧ it.par = par

/-- The item of ring `k` has ended with status `st` and reply words `r`: the ring is free, CPROD has advanced, and the completion entry of R350
stands in host memory (at least where vector 0 then sends no message over it). -/
def Ended (k : Nat) (it : Item) (st : Nat) (r : List Nat) (s t : State) : Prop :=
  (t.ring k).run = none ∧ (t.ring k).taken = [] ∧ (t.ring k).lastSt = st ∧ t.fld CMD_STATE_BUSY k = 0 ∧
    t.fld CMD_CPROD_CPROD k = (s.fld CMD_CPROD_CPROD k + 1) % 65536 ∧
    (s.msixMasked 0 = true →
      t.hostBytes (s.regN CMD_CBASE_LO k + 2 ^ 32 * s.regN CMD_CBASE_HI k + 32 * (s.fld CMD_CPROD_CPROD k % s.ringSize k)) 32 =
        (toBytes 2 it.tag ++ toBytes 2 it.seq ++ toBytes 2 st ++ toBytes 2 (it.opc + 2 ^ 15 * ringPhase (s.fld CMD_CPROD_CPROD k) (s.ringSize k))
          ++ fitBytes 24 (r.flatMap (toBytes 4))))

/-- The item of ring `k` has started and now waits. -/
def Waits (k : Nat) (it : Item) (w : Wait) (t : State) : Prop := (t.ring k).run = some ⟨it, w⟩ ∧ (t.ring k).taken = [] ∧ t.fld CMD_STATE_BUSY k = 1

/-- Every store is in its one canonical form. -/
abbrev State.storesWf (s : State) : Prop :=
  Memory.wf dflt0 s.data ∧ Memory.wf dfltF s.inst ∧ Memory.wf dflt0 s.sol ∧ Memory.wf dflt0 s.hub ∧
    Memory.wf dflt0 s.lpddr ∧ Memory.wf dfltF s.nor ∧ Memory.wf dflt0 s.host

/-- The piece is the same in both states. -/
def Piece.same (p : Piece) (s t : State) : Prop :=
  match p with
  | .regs => t.regs = s.regs
  | .latch => t.latch = s.latch
  | .stage => t.stage = s.stage
  | .data => t.data = s.data
  | .inst => t.inst = s.inst
  | .sol => t.sol = s.sol
  | .hub => t.hub = s.hub
  | .lpddr => t.lpddr = s.lpddr
  | .nor => t.nor = s.nor
  | .host => t.host = s.host
  | .free => t.free = s.free
  | .rnd => t.rnd = s.rnd
  | .hif => t.hif = s.hif
  | .rings => t.rings = s.rings
  | .sring => t.sring = s.sring
  | .sec => t.sec = s.sec
  | .jrn => t.jrn = s.jrn
  | .pat => t.pat = s.pat
  | .mesh => t.mesh = s.mesh
  | .cores => t.cores = s.cores
  | .acc => t.acc = s.acc
  | .engines => t.engines = s.engines
  | .hlth => t.hlth = s.hlth
  | .boot => t.boot = s.boot
  | .chk => t.chk = s.chk
  | .wfm => t.wfm = s.wfm
  | .fbr => t.fbr = s.fbr
  | .ports => t.ports = s.ports
  | .resp => t.resp = s.resp
  | .cam => t.cam = s.cam
  | .tap => t.tap = s.tap
  | .jck => t.sec.jck = s.sec.jck
  | .pending => t.pending = s.pending
  | .units => t.sizes = s.sizes

/-- Every piece but those that no reset touches: the key, the queue and the number of units. -/
def Piece.volatile : List Piece :=
  [.regs, .latch, .stage, .data, .inst, .sol, .hub, .lpddr, .nor, .host, .free, .rnd, .hif, .rings, .sring, .sec, .jrn, .pat, .mesh, .cores, .acc, .engines, .hlth, .boot, .chk, .wfm, .fbr, .ports, .resp, .cam, .tap]

/-- The pieces in which a report ends: registers, an interrupt message in host memory, the Journal's intake and its count in bind-off. -/
def Piece.reports : List Piece := [.regs, .host, .hif, .jrn, .boot]

/-- The pieces that command `c` may change, its effects and their reports together; every other piece keeps its value. -/
def touches (c : Instr) : List Piece :=
  match c with
  | .powerOnReset | .pinReset | .hostReset | .hcrestart | .hcWatchdogExpiry | .debugReset | .bindoffParkDone | .brownout | .nssetArm _ _
  | .registerWrite _ _ _ _ | .pairHighWrite _ _ _ | .regwr _ | .chkDataWrite _ _ _ _ | .hubEcc _ _ | .dbgaccUpdate _ _ _ _
  | .coreDebugRegAccess _ _ _ =>
    Piece.volatile
  | .castonPhaseDone _ =>
    List.append Piece.reports [.data, .inst, .sol, .hub, .lpddr, .nor, .free, .rnd, .rings, .sring, .sec, .pat, .mesh, .cores, .engines, .hlth,
      .wfm, .fbr, .ports, .resp, .cam]
  | .pipelineWdt _ | .purlRetrainDone _ _ | .coreWatchdogExpiry _ | .storeEccError _ _ | .parityError _ _ | .readPacketRx _ _ _
  | .solverWatchdog _ | .hostFence _ _ | .avfsEvaluation _ _ _ =>
    List.append Piece.reports [.data, .sol, .hub, .lpddr, .free, .rnd, .rings, .sring, .pat, .mesh, .cores, .engines, .hlth, .wfm, .fbr, .ports,
      .resp, .cam]
  | .castonPhaseTimeout | .linkChange _ _ _ | .rngFail | .rngOk =>
    Piece.reports
  | .ringForceWrite _ | .ispRpkickWrite _ _ | .dbgSidefxWrite _ | .dbgHaltWrite _ _ | .bar0Overlong _ _ _ _ _ | .rndSnap | .ringRearmWrite _
  | .fbrErrackWrite _ | .jrnCtrlSnapshot =>
    List.append Piece.reports [.resp]
  | .doorbell _ _ =>
    List.append Piece.reports [.free, .resp]
  | .commitWrite _ | .chkCheck _ | .chkStart _ =>
    List.append Piece.reports [.free, .cores, .chk, .resp]
  | .bootGo | .bindoffJournalDone | .accerrClear | .fsyncPulseEnd _ =>
    [.regs]
  | .bindOffAreaErased | .jrnFlush _ | .recordIntake | .flushDone | .sectorEraseDone | .journalMount =>
    List.append Piece.reports [.nor, .free, .rings]
  | .pwrfail | .hubRailTrip | .bindoffTest | .busMasterEnableChange _ _ _ _ =>
    List.append Piece.reports [.free, .rings, .sring]
  | .bindoffHalt =>
    List.append Piece.reports [.data, .sol, .hub, .lpddr, .nor, .free, .rnd, .rings, .sring, .pat, .mesh, .cores, .engines, .cam]
  | .warmSaveDone =>
    List.append Piece.reports [.nor]
  | .refclkLost | .refclkReturn =>
    List.append Piece.reports [.free]
  | .stitchBoundary | .roundBoundary | .voltageCrossing _ _ _ _ | .zcEdge _ _ =>
    List.append Piece.reports [.data, .sol, .hub, .lpddr, .nor, .free, .rnd, .rings, .sring, .pat, .mesh, .cores, .engines, .hlth, .chk, .wfm,
      .fbr, .ports, .resp, .cam]
  | .slewDone | .crossingTimeout _ | .amplitudeTimeout | .refRevert | .ppsTimeout =>
    List.append Piece.reports [.rnd]
  | .holdForce _ =>
    List.append Piece.reports [.rnd, .resp]
  | .ppsEdge _ | .nsset _ =>
    List.append Piece.reports [.free, .rnd, .rings]
  | .stagedSetApply _ _ =>
    List.append Piece.reports [.free, .rnd, .rings, .mesh, .cores, .engines, .chk, .wfm, .fbr, .ports, .resp, .cam]
  | .pairLowRead _ _ _ | .rcRead _ _ _ =>
    List.append Piece.reports [.latch, .free, .hlth, .wfm, .fbr, .resp]
  | .unsupportedRequest =>
    [.resp]
  | .bar2Access _ _ _ _ =>
    List.append Piece.reports [.data, .inst, .sol, .hub, .lpddr, .free, .rnd, .rings, .sring, .pat, .mesh, .cores, .engines, .hlth, .wfm, .fbr,
      .ports, .resp, .cam]
  | .patCtrlAdmit | .patCtrlActivate | .patCtrlDeactivate =>
    List.append Piece.reports [.pat, .resp]
  | .admissionDone | .patternActivation | .patternDeactivation | .patAdmit _ | .patActivate _ | .patDeactivate _ | .patCancel _ =>
    List.append Piece.reports [.free, .rings, .pat]
  | .patCtrlCancel =>
    List.append Piece.reports [.free, .rings, .pat, .resp]
  | .instanceDispatch _ =>
    List.append Piece.reports [.free, .rings, .sring, .pat, .mesh, .cores, .acc, .engines, .cam]
  | .deadlineExpiry | .wcetOverrun _ =>
    List.append Piece.reports [.data, .sol, .hub, .lpddr, .free, .rings, .sring, .pat, .mesh, .cores, .engines, .cam]
  | .readmissionDone =>
    [.pat, .cores]
  | .readmissionEffect =>
    List.append Piece.reports [.free, .sring, .pat, .cores]
  | .linkLos _ | .syncLoss _ | .capsReportRx _ _ | .capsTimeout _ | .m2UpgradeTimeout _ | .authRespRx _ _ | .authTimeout _ | .calibTimeout _
  | .echoReplyRx _ _ _ | .aliveRx _ _ | .aliveTimeout _ | .regackRx _ _ | .moariMsgDiscard _ _ _ | .molRetrain _ | .headRetrain _ =>
    List.append Piece.reports [.free, .rnd, .rings, .wfm, .fbr, .ports, .resp]
  | .m1LinkUp _ =>
    [.regs, .ports]
  | .molQrel _ =>
    List.append Piece.reports [.ports, .resp]
  | .m2LinkUp _ =>
    [.regs, .free, .ports]
  | .echoTx _ | .echoTimeout _ =>
    [.ports]
  | .cadenceTx _ =>
    [.wfm, .ports]
  | .sampleRx _ _ _ =>
    List.append Piece.reports [.free, .rnd, .rings, .mesh, .cores, .wfm, .fbr, .ports, .resp]
  | .intRx _ _ _ =>
    List.append Piece.reports [.data, .free, .rnd, .rings, .sring, .mesh, .cores, .wfm, .fbr, .ports, .resp]
  | .outboundCreditTimeout _ | .segmentDispatch _ | .busyRetry _ =>
    List.append Piece.reports [.free, .fbr, .ports, .resp]
  | .mcntRenewal _ =>
    [.free, .ports]
  | .windowFinalize =>
    List.append Piece.reports [.data, .free, .mesh, .cores, .wfm]
  | .emissionCommit _ =>
    List.append Piece.reports [.data, .mesh, .cores, .wfm]
  | .ringRecordDone _ _ =>
    List.append Piece.reports [.lpddr, .free, .wfm]
  | .wfmTrgqPop =>
    List.append Piece.reports [.wfm, .resp]
  | .frameStart _ _ | .frameEnd _ _ | .frameEndTimeout _ | .fsyncEdge _ =>
    List.append Piece.reports [.cam]
  | .camFswFire _ _ =>
    List.append Piece.reports [.resp, .cam]
  | .longPacketRx _ _ _ _ _ _ _ =>
    List.append Piece.reports [.free, .cam]
  | .exposureCentre _ =>
    [.cam]
  | .deliveryCommit _ _ =>
    List.append Piece.reports [.data, .lpddr, .mesh, .cores, .cam]
  | .txPacketSend =>
    [.regs, .cam]
  | .pipelineFrameDone _ _ =>
    List.append Piece.reports [.data, .lpddr, .free, .mesh, .cores, .cam]
  | .checksumFault _ _ _ _ _ _ _ _ =>
    List.append Piece.reports [.data, .sol, .hub, .lpddr, .free, .rnd, .rings, .sring, .pat, .mesh, .cores, .acc, .engines, .hlth, .wfm, .fbr,
      .ports, .resp, .cam]
  | .rpFrameStart _ =>
    List.append Piece.reports [.free, .rings, .sring, .pat, .cam]
  | .rpFrameEnd _ _ =>
    List.append Piece.reports [.data, .lpddr, .free, .rings, .sring, .pat, .mesh, .cores, .cam]
  | .msgPacketRx _ _ | .moverDone _ | .writePacketRx _ _ | .respRx _ _ _ =>
    List.append Piece.reports [.data, .sol, .hub, .lpddr, .free, .pat, .mesh, .cores]
  | .markerRead _ _ | .markerSet _ _ | .markerAdd _ _ | .markerTake _ _ | .markerWaitge _ _ | .markerAcquire _ _ | .markerRelease _ _
  | .markerReset _ _ | .leaseExpiry _ =>
    List.append Piece.reports [.mesh, .cores]
  | .markerReplyRx _ _ =>
    List.append Piece.reports [.free, .mesh, .cores]
  | .markerWaitTimeout _ _ =>
    [.regs, .mesh, .cores]
  | .coreChflushWrite _ _ =>
    List.append Piece.reports [.mesh, .cores, .resp]
  | .mrkHopcmdWrite _ _ =>
    List.append Piece.reports [.mesh, .resp]
  | .purlCrcFail _ =>
    List.append Piece.reports [.mesh]
  | .alu _ | .alui _ | .lui _ | .oril _ | .ldu _ | .lds _ | .st _ | .bc _ | .jal _ | .jalr _ | .send _ | .recv _ | .mrel _ | .mctlFlush _
  | .mctlStatus _ | .mop _ | .mopb _ | .movd _ | .mload _ | .mrun _ | .mwait _ | .mstat _ | .vrun _ | .vwait _ | .ocfg _ | .orun _
  | .owait _ | .done _ | .fence _ | .waitt _ | .wstitch _ | .csrr _ | .csrw _ | .wdkick _ | .brk _ | .coreAbort _ | .dbgResume _
  | .dbgStep _ =>
    List.append Piece.reports [.data, .sol, .hub, .lpddr, .free, .rings, .sring, .pat, .mesh, .cores]
  | .coreCtrlAbort _ | .dbgAttachWrite _ _ | .dbgResumeWrite _ _ | .dbgStepWrite _ _ _ =>
    List.append Piece.reports [.data, .sol, .hub, .lpddr, .free, .rings, .sring, .pat, .mesh, .cores, .resp]
  | .recvTimeout _ =>
    [.free, .cores]
  | .jobComplete _ =>
    List.append Piece.reports [.free, .rings, .sring, .pat, .mesh, .cores]
  | .wstitchWake _ =>
    [.regs, .free, .cores]
  | .coreGo _ =>
    List.append Piece.reports [.mesh, .cores, .acc, .resp]
  | .matrixOpStart _ | .vpOpStart _ | .outputOpStart _ =>
    [.regs, .cores]
  | .matrixOpDone _ | .vpOpDone _ | .outputOpDone _ =>
    [.regs, .data, .free, .cores, .acc]
  | .solveStart _ =>
    List.append Piece.reports [.free, .rings, .pat, .engines]
  | .solveEnd _ =>
    List.append Piece.reports [.sol, .free, .rings, .sring, .pat, .mesh, .cores, .engines]
  | .solCtrlAbort _ =>
    List.append Piece.reports [.sol, .free, .rings, .sring, .pat, .mesh, .cores, .engines, .resp]
  | .solverResultSend _ _ =>
    List.append Piece.reports [.data, .free, .sring, .mesh, .cores, .engines]
  | .solverInputMsg _ _ =>
    List.append Piece.reports [.data, .sol, .hub, .lpddr, .free, .pat, .mesh, .cores, .engines]
  | .slotPgcommit _ _ | .slotReset _ _ =>
    List.append Piece.reports [.free, .rings, .engines, .resp]
  | .solPgcommit _ | .solSlotReset _ | .solKick _ =>
    List.append Piece.reports [.free, .rings, .engines]
  | .solInflush _ =>
    List.append Piece.reports [.free, .rings, .mesh, .cores, .engines]
  | .slotKick _ _ =>
    List.append Piece.reports [.engines, .resp]
  | .solInflushWrite _ _ | .solIncfgWrite _ _ _ =>
    List.append Piece.reports [.mesh, .cores, .engines, .resp]
  | .laceFma _ | .laceFms _ | .laceFnma _ | .laceAdd _ | .laceSub _ | .laceMul _ | .laceMax _ | .laceMin _ | .laceAbs _ | .laceNeg _
  | .laceMov _ | .laceSel _ | .laceConst _ | .laceDiv _ | .laceSqrt _ | .lacePivr _ | .lacePivrp _ | .laceGpiv _ | .laceGpivp _ | .laceLd _
  | .laceSt _ | .laceNop _ | .laceWait _ | .laceSpec _ | .laceRep _ | .laceEnd _ =>
    [.sol, .engines]
  | .commandFetch _ _ | .capForce _ | .rpKick _ | .secLock _ | .flashErr _ _ _ _ | .nop _ | .ringFlush _ | .stamp _ | .info _ | .capRearm _
  | .fbrErrack _ | .jrnSnapshot _ | .jrnRead _ | .dbgHalt _ =>
    List.append Piece.reports [.free, .rings]
  | .cmdCconsWrite _ _ | .ringDisable _ | .cmdCtrlFlush _ =>
    List.append Piece.reports [.free, .rings, .resp]
  | .cmdSconsWrite _ | .statusRingEnable _ =>
    List.append Piece.reports [.sring, .resp]
  | .ringEnable _ =>
    List.append Piece.reports [.rings, .resp]
  | .msixUnmask _ =>
    [.regs, .host, .hif]
  | .pcieLinkReset _ =>
    List.append Piece.reports [.free, .rings, .sring, .pat]
  | .regrd _ | .regpoll _ | .regpollTimeout _ =>
    List.append Piece.reports [.latch, .free, .rings, .hlth, .wfm, .fbr]
  | .copy _ _ | .completionTimeout _ =>
    List.append Piece.reports [.data, .inst, .sol, .hub, .lpddr, .free, .rings, .pat, .cores]
  | .coreLoad _ =>
    List.append Piece.reports [.data, .inst, .free, .rings, .cores]
  | .coreStart _ =>
    List.append Piece.reports [.free, .rings, .mesh, .cores, .acc]
  | .coreChflush _ | .coreHalt _ =>
    List.append Piece.reports [.free, .rings, .mesh, .cores]
  | .laceLoad _ =>
    List.append Piece.reports [.sol, .free, .rings]
  | .headAdmit _ | .headQrel _ =>
    List.append Piece.reports [.free, .rings, .ports]
  | .fsyncFire _ =>
    List.append Piece.reports [.free, .rings, .cam]
  | .jrnCtrlFlush =>
    List.append Piece.reports [.nor, .free, .rings, .resp]
  | .jrnClearChallenge _ | .keyLoad _ | .keyErase _ =>
    List.append Piece.reports [.free, .rings, .sec]
  | .jrnClear _ =>
    List.append Piece.reports [.nor, .free, .rings, .sec]
  | .jckSet _ =>
    List.append Piece.reports [.rings, .sec, .jck]
  | .nonceExpiry =>
    [.sec]
  | .clearBlockExpiry =>
    [.regs, .sec]
  | .bar4Write _ _ | .bar4Read _ _ | .regackTimeout _ | .readTimeout =>
    List.append Piece.reports [.free, .fbr, .resp]
  | .fbrWindowFlush _ | .routeWrite _ _ _ | .fbrElogPop _ =>
    List.append Piece.reports [.fbr, .resp]
  | .mailboxCommit _ =>
    List.append Piece.reports [.data, .free, .sring, .mesh, .cores, .fbr]
  | .chkWindowExpiry | .unitRevive _ _ =>
    [.regs, .hlth]
  | .reviveDone _ =>
    List.append Piece.reports [.data, .inst, .sol, .cores, .acc, .engines, .hlth, .wfm, .ports, .cam]
  | .correctedEcc _ _ | .sensorStale _ =>
    List.append Piece.reports [.free, .hlth]
  | .pwrFlogPop =>
    [.regs, .hlth, .resp]
  | .tmpSensorSample _ =>
    List.append Piece.reports [.free, .sring, .hlth]
  | .tapReset | .samplePreload | .idcode | .dbgacc | .bypass =>
    [.tap]
  | .extest | .clamp | .highz | .extestPulse | .extestTrain =>
    List.append Piece.reports [.tap]
  | .resetNHigh =>
    [.regs, .boot]

end Sys2Proof.Machine
end

