-- ==== Sys2Proof/WellFormed.lean ====
section
/-! DEFINITION. WellFormed.lean: which commands can be sent: every unit, port, ring, channel, slot or register field a command
names exists, and every field of an encoding has the width the spec gives it. -/

namespace Sys2Proof
open Sys2Proof.Machine

/-- The command names only units and fields the spec gives. -/
def Instr.wf (i : Instr) : Bool :=
  match i with
  | .powerOnReset => true
  | .pinReset => true
  | .hostReset => true
  | .hcrestart => true
  | .hcWatchdogExpiry => true
  | .debugReset => true
  | .castonPhaseDone i => decide (i.boot < 4) && i.cores.all (fun c => decide (c.1 < 32)) && i.ses.all (fun e => decide (e.1 < 2))
  | .castonPhaseTimeout => true
  | .bootGo => true
  | .bindOffAreaErased => true
  | .pwrfail => true
  | .hubRailTrip => true
  | .bindoffTest => true
  | .bindoffHalt => true
  | .bindoffJournalDone => true
  | .warmSaveDone => true
  | .bindoffParkDone => true
  | .brownout => true
  | .refclkLost => true
  | .refclkReturn => true
  | .stitchBoundary => true
  | .roundBoundary => true
  | .voltageCrossing _ below above _ => decide (below.near ≤ below.far) && decide (above.near ≤ above.far)
  | .zcEdge _ _ => true
  | .crossingTimeout _ => true
  | .amplitudeTimeout => true
  | .refRevert => true
  | .slewDone => true
  | .holdForce _ => true
  | .rndSnap => true
  | .ppsEdge _ => true
  | .ppsTimeout => true
  | .nssetArm _ hi => decide (hi < 2 ^ 32)
  | .registerWrite _ off be _ => decide (off < 2 ^ 24 ∧ off % 4 = 0 ∧ be < 16)
  | .commitWrite b => b.ok
  | .stagedSetApply b _ => b.ok
  | .pairLowRead _ off be => decide (off < 2 ^ 24 ∧ off % 4 = 0 ∧ be < 16)
  | .pairHighWrite _ off _ => decide (off < 2 ^ 24 ∧ off % 4 = 0)
  | .rcRead _ off be => decide (off < 2 ^ 24 ∧ off % 4 = 0 ∧ be < 16)
  | .bar0Overlong _ off be _ n => decide (off < 2 ^ 24 ∧ off % 4 = 0 ∧ be < 16 ∧ 2 < n)
  | .unsupportedRequest => true
  | .bar2Access _ off bytes _ => decide (off + bytes.length ≤ 2 ^ 26 ∧ off % 4096 + bytes.length ≤ 4096)
  | .accerrClear => true
  | .patCtrlAdmit => true
  | .admissionDone => true
  | .patCtrlActivate => true
  | .patternActivation => true
  | .patCtrlDeactivate => true
  | .patternDeactivation => true
  | .patCtrlCancel => true
  | .instanceDispatch r => decide (r.unit < 36)
  | .deadlineExpiry => true
  | .wcetOverrun r => decide (r < 36)
  | .readmissionDone => true
  | .readmissionEffect => true
  | .linkLos p => decide (p < 6)
  | .syncLoss p => decide (p < 6)
  | .m1LinkUp p => decide (p < 6)
  | .capsReportRx p frame => decide (p < 6) && decide (frame.length ≤ 260) && frame.all (fun b => decide (b < 256))
  | .capsTimeout p => decide (p < 6)
  | .m2LinkUp p => decide (p < 6)
  | .m2UpgradeTimeout p => decide (p < 6)
  | .authRespRx p frame => decide (p < 6) && decide (frame.length ≤ 260) && frame.all (fun b => decide (b < 256))
  | .authTimeout p => decide (p < 6)
  | .calibTimeout p => decide (p < 6)
  | .echoTx p => decide (p < 6)
  | .echoReplyRx p frame _ => decide (p < 6) && decide (frame.length ≤ 260) && frame.all (fun b => decide (b < 256))
  | .echoTimeout p => decide (p < 6)
  | .cadenceTx p => decide (p < 6)
  | .sampleRx p frame _ => decide (p < 6) && decide (frame.length ≤ 260) && frame.all (fun b => decide (b < 256))
  | .aliveRx p frame => decide (p < 6) && decide (frame.length ≤ 260) && frame.all (fun b => decide (b < 256))
  | .aliveTimeout p => decide (p < 6)
  | .intRx p frame _ => decide (p < 6) && decide (frame.length ≤ 260) && frame.all (fun b => decide (b < 256))
  | .regackRx p frame => decide (p < 6) && decide (frame.length ≤ 260) && frame.all (fun b => decide (b < 256))
  | .moariMsgDiscard p frame _ => decide (p < 6) && decide (frame.length ≤ 260) && frame.all (fun b => decide (b < 256))
  | .outboundCreditTimeout p => decide (p < 6)
  | .mcntRenewal p => decide (p < 6)
  | .molRetrain p => decide (p < 6)
  | .molQrel p => decide (p < 6)
  | .windowFinalize => true
  | .emissionCommit e => decide (e < 64)
  | .ringRecordDone k _ => decide (k < 4)
  | .wfmTrgqPop => true
  | .ringRearmWrite k => decide (k < 4)
  | .ringForceWrite k => decide (k < 4)
  | .frameStart p vc => p < 6 && vc.vc < 16 && vc.hdr < 3
  | .frameEnd p vc => p < 6 && vc.vc < 16 && vc.hdr < 3
  | .frameEndTimeout p => p < 6
  | .longPacketRx p vc dt hdr _ _ data => p < 6 && vc < 16 && dt < 64 && hdr < 3 && data.all (· < 65536)
  | .fsyncEdge p => p < 6
  | .fsyncPulseEnd p => p < 6
  | .exposureCentre p => p < 6
  | .camFswFire mask i => mask < 64 && i < 8
  | .deliveryCommit p k => p < 6 && k < 6
  | .txPacketSend => true
  | .pipelineFrameDone p _ => p < 6
  | .pipelineWdt p => decide (p < 6)
  | .ispRpkickWrite q mask => q < 2 && mask < 65536
  | .rpFrameStart q => q.unit < 2
  | .rpFrameEnd q _ => q < 2
  | .msgPacketRx src tag => decide (src < 32 ∧ tag < 32)
  | .writePacketRx src tag => decide (src < 32 ∧ tag < 32)
  | .readPacketRx src tag _ => decide (src < 32 ∧ tag < 32)
  | .respRx n tag node => decide (n < 34 ∧ node < 34) && tag.all (fun t => decide (n < 32 ∧ t < 32))
  | .markerReplyRx n tag => decide (n < 32 ∧ tag < 32)
  | .markerRead src tag => decide ((src < 32 ∨ 35 ≤ src ∧ src < 38) ∧ tag < 32)
  | .markerSet src tag => decide ((src < 32 ∨ 35 ≤ src ∧ src < 38) ∧ tag < 32)
  | .markerAdd src tag => decide ((src < 32 ∨ 35 ≤ src ∧ src < 38) ∧ tag < 32)
  | .markerTake src tag => decide ((src < 32 ∨ 35 ≤ src ∧ src < 38) ∧ tag < 32)
  | .markerWaitge src tag => decide ((src < 32 ∨ 35 ≤ src ∧ src < 38) ∧ tag < 32)
  | .markerAcquire src tag => decide ((src < 32 ∨ 35 ≤ src ∧ src < 38) ∧ tag < 32)
  | .markerRelease src tag => decide ((src < 32 ∨ 35 ≤ src ∧ src < 38) ∧ tag < 32)
  | .markerReset src tag => decide ((src < 32 ∨ 35 ≤ src ∧ src < 38) ∧ tag < 32)
  | .markerWaitTimeout node tag => decide (node < 32 ∧ tag < 32)
  | .leaseExpiry k => decide (k < 256)
  | .mrkHopcmdWrite _ v => decide (v < 2 ^ 32)
  | .purlCrcFail l => decide (l < 6)
  | .purlRetrainDone l _ => decide (l < 6)
  | .alu n => decide (n < 32)
  | .alui n => decide (n < 32)
  | .lui n => decide (n < 32)
  | .oril n => decide (n < 32)
  | .ldu n => decide (n < 32)
  | .lds n => decide (n < 32)
  | .st n => decide (n < 32)
  | .bc n => decide (n < 32)
  | .jal n => decide (n < 32)
  | .jalr n => decide (n < 32)
  | .send n => decide (n < 32)
  | .recv n => decide (n < 32)
  | .recvTimeout n => decide (n < 32)
  | .mrel n => decide (n < 32)
  | .mctlFlush n => decide (n < 32)
  | .mctlStatus n => decide (n < 32)
  | .mop n => decide (n < 32)
  | .mopb n => decide (n < 32)
  | .movd n => decide (n < 32)
  | .moverDone n => decide (n < 32)
  | .mload n => decide (n < 32)
  | .mrun n => decide (n < 32)
  | .mwait n => decide (n < 32)
  | .mstat n => decide (n < 32)
  | .vrun n => decide (n < 32)
  | .vwait n => decide (n < 32)
  | .ocfg n => decide (n < 32)
  | .orun n => decide (n < 32)
  | .owait n => decide (n < 32)
  | .done n => decide (n < 32)
  | .jobComplete n => decide (n < 32)
  | .fence n => decide (n < 32)
  | .waitt n => decide (n < 32)
  | .wstitch n => decide (n < 32)
  | .wstitchWake n => decide (n < 32)
  | .csrr n => decide (n < 32)
  | .csrw n => decide (n < 32)
  | .wdkick n => decide (n < 32)
  | .brk n => decide (n < 32)
  | .coreGo n => decide (n < 32)
  | .coreCtrlAbort n => decide (n < 32)
  | .coreChflushWrite n mask => decide (n < 32 ∧ mask < 65536)
  | .coreWatchdogExpiry n => decide (n < 32)
  | .storeEccError kind idx => decide (idx < [32, 2, 6, 2, 6, 2, 6, 6, 1, 1].getD kind 0)
  | .parityError kind idx => decide (idx < [32, 2, 6, 2, 6, 2, 6, 6, 1, 1].getD kind 0)
  | .matrixOpStart n => decide (n < 32)
  | .matrixOpDone n => decide (n < 32)
  | .checksumFault n _ array sub _ _ _ _ => decide (n < 32 ∧ array < 4 ∧ sub < 4)
  | .vpOpStart n => decide (n < 32)
  | .vpOpDone n => decide (n < 32)
  | .outputOpStart n => decide (n < 32)
  | .outputOpDone n => decide (n < 32)
  | .solveStart k => decide (k < 2)
  | .solveEnd k => decide (k < 2)
  | .solverResultSend k i => decide (k < 2 ∧ i < 32)
  | .solverInputMsg src tag => decide (src < 32 ∧ tag < 32)
  | .slotPgcommit k i => decide (k < 2 ∧ i < 32)
  | .slotKick k i => decide (k < 2 ∧ i < 32)
  | .slotReset k i => decide (k < 2 ∧ i < 32)
  | .solCtrlAbort k => decide (k < 2)
  | .solInflushWrite k mask => decide (k < 2 ∧ mask < 2 ^ 16)
  | .solIncfgWrite k c v => decide (k < 2 ∧ c < 16 ∧ v < 2 ^ 32)
  | .solverWatchdog k => decide (k < 2)
  | .laceFma k => decide (k < 2)
  | .laceFms k => decide (k < 2)
  | .laceFnma k => decide (k < 2)
  | .laceAdd k => decide (k < 2)
  | .laceSub k => decide (k < 2)
  | .laceMul k => decide (k < 2)
  | .laceMax k => decide (k < 2)
  | .laceMin k => decide (k < 2)
  | .laceAbs k => decide (k < 2)
  | .laceNeg k => decide (k < 2)
  | .laceMov k => decide (k < 2)
  | .laceSel k => decide (k < 2)
  | .laceConst k => decide (k < 2)
  | .laceDiv k => decide (k < 2)
  | .laceSqrt k => decide (k < 2)
  | .lacePivr k => decide (k < 2)
  | .lacePivrp k => decide (k < 2)
  | .laceGpiv k => decide (k < 2)
  | .laceGpivp k => decide (k < 2)
  | .laceLd k => decide (k < 2)
  | .laceSt k => decide (k < 2)
  | .laceNop k => decide (k < 2)
  | .laceWait k => decide (k < 2)
  | .laceSpec k => decide (k < 2)
  | .laceRep k => decide (k < 2)
  | .laceEnd k => decide (k < 2)
  | .doorbell k prod => decide (k < 4 ∧ prod < 65536)
  | .commandFetch k _ => decide (k < 4)
  | .cmdCconsWrite k v => decide (k < 4 ∧ v < 65536)
  | .cmdSconsWrite v => decide (v < 65536)
  | .ringEnable k => decide (k < 4)
  | .ringDisable k => decide (k < 4)
  | .statusRingEnable _ => true
  | .cmdCtrlFlush k => decide (k < 4)
  | .msixUnmask v => decide (v < 64)
  | .pcieLinkReset _ => true
  | .linkChange speed width _ => decide (1 ≤ speed ∧ speed ≤ 4 ∧ (width = 1 ∨ width = 2 ∨ width = 4))
  | .nop k => decide (k < 4)
  | .regwr k => decide (k < 4)
  | .regrd k => decide (k < 4)
  | .regpoll k => decide (k < 4)
  | .copy k _ => decide (k < 4)
  | .ringFlush k => decide (k < 4)
  | .stamp k => decide (k < 4)
  | .info k => decide (k < 4)
  | .nsset k => decide (k < 4)
  | .patAdmit k => decide (k < 4)
  | .patActivate k => decide (k < 4)
  | .patDeactivate k => decide (k < 4)
  | .patCancel k => decide (k < 4)
  | .coreLoad k => decide (k < 4)
  | .coreStart k => decide (k < 4)
  | .coreAbort k => decide (k < 4)
  | .coreChflush k => decide (k < 4)
  | .laceLoad k => decide (k < 4)
  | .solPgcommit k => decide (k < 4)
  | .solSlotReset k => decide (k < 4)
  | .solKick k => decide (k < 4)
  | .solInflush k => decide (k < 4)
  | .headAdmit k => decide (k < 4)
  | .headQrel k => decide (k < 4)
  | .headRetrain k => decide (k < 4)
  | .capRearm k => decide (k < 4)
  | .capForce k => decide (k < 4)
  | .fsyncFire k => decide (k < 4)
  | .rpKick k => decide (k < 4)
  | .fbrErrack k => decide (k < 4)
  | .jrnSnapshot k => decide (k < 4)
  | .jrnRead k => decide (k < 4)
  | .jrnFlush k => decide (k < 4)
  | .jrnClearChallenge k => decide (k < 4)
  | .jrnClear k => decide (k < 4)
  | .keyLoad k => decide (k < 4)
  | .keyErase k => decide (k < 4)
  | .jckSet k => decide (k < 4)
  | .secLock k => decide (k < 4)
  | .dbgHalt k => decide (k < 4)
  | .dbgResume k => decide (k < 4)
  | .dbgStep k => decide (k < 4)
  | .nonceExpiry => true
  | .clearBlockExpiry => true
  | .rngFail => true
  | .rngOk => true
  | .bar4Write a bs => decide (a % 4 = 0 ∧ 0 < bs.length ∧ bs.length ≤ 4096 ∧ a + bs.length ≤ 2 ^ 24 ∧ a / 2 ^ 20 = (a + bs.length - 1) / 2 ^ 20) && bs.all (fun b => decide (b.1 < 256))
  | .bar4Read a be => decide (a % 4 = 0 ∧ 0 < be.length ∧ be.length ≤ 4096 ∧ a + be.length ≤ 2 ^ 24 ∧ a / 2 ^ 20 = (a + be.length - 1) / 2 ^ 20)
  | .segmentDispatch hid => decide (hid < 65536)
  | .regackTimeout p => decide (p < 6)
  | .busyRetry p => decide (p < 6)
  | .readTimeout => true
  | .fbrWindowFlush w => decide (w < 16)
  | .fbrErrackWrite mask => decide (mask < 65536)
  | .fbrElogPop _ => true
  | .routeWrite _ i _ => decide (i < 256)
  | .mailboxCommit p => decide (p < 6)
  | .chkDataWrite _ u be _ => decide (u < 8) && decide (be < 16)
  | .chkCheck u => decide (u < 8)
  | .chkStart u => decide (u < 8)
  | .recordIntake => true
  | .flushDone => true
  | .sectorEraseDone => true
  | .journalMount => true
  | .flashErr sector op status addr => decide (sector < 4096 ∧ op < 3 ∧ status < 256 ∧ addr < 2 ^ 32)
  | .jrnCtrlSnapshot => true
  | .jrnCtrlFlush => true
  | .chkWindowExpiry => true
  | .hostFence kind idx => decide (kind < 16 ∧ idx < 256)
  | .unitRevive kind idx => decide (kind < 16 ∧ idx < 256)
  | .reviveDone _ => true
  | .avfsEvaluation n _ _ => decide (n < 32)
  | .hubEcc ofs _ => decide (ofs < 0xC00000)
  | .correctedEcc store idx => decide (idx < [32, 32, 2, 1].getD store 0)
  | .pwrFlogPop => true
  | .tmpSensorSample temps => decide (temps.length = 12)
  | .sensorStale k => decide (k < 12)
  | .tapReset => true
  | .extest => true
  | .samplePreload => true
  | .idcode => true
  | .clamp => true
  | .highz => true
  | .extestPulse => true
  | .extestTrain => true
  | .dbgacc => true
  | .bypass => true
  | .dbgaccUpdate data ofs _ op => decide (data < 2 ^ 32 ∧ ofs < 2 ^ 26 ∧ ofs % 4 = 0 ∧ op.code < 4)
  | .dbgAttachWrite _ _ => true
  | .dbgSidefxWrite _ => true
  | .dbgHaltWrite _ mask => decide (mask < 2 ^ 32)
  | .coreHalt n => decide (n < 32)
  | .dbgResumeWrite _ mask => decide (mask < 2 ^ 32)
  | .dbgStepWrite _ n count => decide (n < 32 ∧ count < 65536)
  | .coreDebugRegAccess _ _ v => decide (v < 2 ^ 32)
  | .regpollTimeout k => decide (k < 4)
  | .completionTimeout k => decide (k < 4)
  | .busMasterEnableChange _ _ _ _ => true
  | .resetNHigh => true

/-- The command is well formed. -/
abbrev WellFormed (i : Instr) : Prop := i.wf = true

end Sys2Proof
end

