-- ==== Sys2Proof/Certificates/Slice0/Obligations.lean ====
section
/-! DEFINITION. Certificates/Slice0/Obligations.lean: the statements for the provers. -/

open Sys2Proof Sys2Proof.Machine Sys2Proof.Machine.Reg

/-- Resets (R429, Table 19.1): stores are empty, cast-on starts from the phase of its kind, the cause is kept, and flash, host memory, the
journal-clear key and the queue stay. A reset in stages 1 to 5 of bind-off waits (R440 says so of RESET_N; that HOST and DEBUG wait too is the model's
choice, log entry 76), and the pulse or write that ends a TEST bind-off in stage 6 starts a BROWNOUT reset. That a command whose condition is not met
leaves the machine as it is, is the model's choice (log entry 2). -/
def Obligations.ResetsTakeEffect : Prop :=
  (∀ s : State, Does .powerOnReset s (fun t => t.castPhase = 0 ∧ t.fld PWR_RSTCAUSE_LAST = 0 ∧ t.data = [] ∧ t.inst = [] ∧ t.hub = [] ∧
    t.lpddr = [] ∧ t.nor = s.nor ∧ t.host = s.host ∧ t.sec.jck = s.sec.jck ∧ t.sec.keys = [] ∧ t.pending = s.pending)) ∧
  (∀ s : State, s.binding = false → ¬ (s.boStage = 6 ∧ s.boot.trig = 2) → s.castPhase ≠ 0 → Does .pinReset s (fun t => t.castPhase = 2 ∧
    t.fld PWR_RSTCAUSE_LAST = 1 ∧ t.boot.resetN = false ∧ t.data = [] ∧ t.hub = [] ∧ t.nor = s.nor ∧ t.host = s.host ∧ t.sec.jck = s.sec.jck ∧
    t.sec.keys = [] ∧ t.pending = s.pending)) ∧
  (∀ s : State, s.castPhase = 0 → exec .pinReset s = .next { s with boot := { s.boot with resetN := false } }) ∧
  (∀ s : State, s.binding = false → ¬ (s.boStage = 6 ∧ s.boot.trig = 2) → Does .hostReset s (fun t => t.castPhase = 2 ∧
    t.fld PWR_RSTCAUSE_LAST = 3 ∧ t.data = [] ∧ t.hub = [] ∧ t.nor = s.nor ∧ t.host = s.host ∧ t.sec.jck = s.sec.jck ∧ t.sec.keys = [] ∧
    t.pending = s.pending)) ∧
  (∀ s : State, s.binding = false → ¬ (s.boStage = 6 ∧ s.boot.trig = 2) → Does .debugReset s (fun t => t.castPhase = 2 ∧
    t.fld PWR_RSTCAUSE_LAST = 5 ∧ t.data = [] ∧ t.hub = [] ∧ t.nor = s.nor ∧ t.host = s.host ∧ t.sec.jck = s.sec.jck ∧ t.sec.keys = [] ∧
    t.pending = s.pending)) ∧
  (∀ s : State, s.boStage = 6 → s.boot.trig ≠ 2 → Does .brownout s (fun t => t.castPhase = 2 ∧ t.fld PWR_RSTCAUSE_LAST = 2 ∧
    t.data = [] ∧ t.hub = [] ∧ t.nor = s.nor ∧ t.host = s.host ∧ t.sec.jck = s.sec.jck ∧ t.sec.keys = [] ∧ t.pending = s.pending)) ∧
  (∀ s : State, ∀ c ∈ [Instr.hcrestart, Instr.hcWatchdogExpiry], s.binding = false → s.boStage ≠ 6 →
    Does c s (fun t => t.nor = s.nor ∧ t.host = s.host ∧ t.sec.jck = s.sec.jck ∧ t.pending = s.pending ∧
      match imageFails (s.fld SEC_STATUS_MINSVN) s.boot.hdr (s.hubBytes (s.hdrField 12 4) (min (s.hdrField 8 4) (2 ^ 21))) with
      | none => t.fld PWR_RSTCAUSE_LAST = 4 ∧ (∀ k, t.ring k = {}) ∧ t.hub = s.hub ∧ t.data = s.data ∧ t.cores = s.cores ∧ t.engines = s.engines
      | some _ => t.castPhase = 2 ∧ t.fld PWR_RSTCAUSE_LAST = 3 ∧ t.data = [] ∧ t.hub = [])) ∧
  (∀ s : State, ∀ ck ∈ [(Instr.pinReset, 1), (Instr.hostReset, 3), (Instr.debugReset, 5)], s.binding = true → s.castPhase ≠ 0 →
    Does ck.1 s (fun t => t.boot.held = some (s.boot.held.getD ck.2) ∧ t.regs = s.regs ∧ t.data = s.data ∧ t.host = s.host ∧ t.pending = s.pending)) ∧
  (∀ s : State, ∀ c ∈ [Instr.pinReset, Instr.hostReset, Instr.debugReset, Instr.hcrestart], s.boStage = 6 → s.boot.trig = 2 → s.castPhase ≠ 0 →
    Does c s (fun t => t.castPhase = 2 ∧ t.boStage = 0 ∧ t.fld PWR_RSTCAUSE_LAST = 2 ∧ t.data = [] ∧ t.hub = [] ∧ t.nor = s.nor ∧ t.host = s.host ∧
      t.sec.jck = s.sec.jck ∧ t.sec.keys = [] ∧ t.pending = s.pending)) ∧
  (∀ s : State, s.boStage = 6 → exec .hcWatchdogExpiry s = .next s ∧ (s.boot.trig ≠ 2 → exec .hcrestart s = .next s) ∧
    (s.boot.trig = 2 → exec .brownout s = .next s))

/-- Cast-on (R431, R432, R484, Table 19.2) and the boot commands: each phase goes to the next or to FAIL with its code; phase 1 begins at the later of
the release of POR and RESET_N going high. That the first CASTON_PHASE_DONE stands for that release is the model's choice (log entry 138). That a
command whose condition is not met leaves the machine as it is, is the model's choice (log entry 2). -/
def Obligations.CastOnPhases : Prop :=
  (∀ s : State, ∀ i : CastInfo, s.castPhase = 0 → Does (.castonPhaseDone i) s (fun t => t.boot.porOut = true ∧
    t.castPhase = (if s.boot.resetN then 1 else 0) ∧ sameRegsBut [PWR_CASTON.base] s t)) ∧
  (∀ s : State, ∀ i : CastInfo, s.castPhase ≠ 0 → (s.boot.resetN = false ∨ s.boStage ≠ 0) → exec (.castonPhaseDone i) s = .next s) ∧
  (∀ s : State, ∀ i : CastInfo, s.boot.resetN = true → s.boStage = 0 → s.castPhase = 1 → i.ok = true →
    Does (.castonPhaseDone i) s (fun t => t.castPhase = 2 ∧ t.fld PWR_CASTON_SRC = i.boot % 4 ∧ sameRegsBut [PWR_CASTON.base] s t)) ∧
  (∀ s : State, ∀ i : CastInfo, s.boot.resetN = true → s.boStage = 0 → s.castPhase = 1 → i.ok = false →
    Does (.castonPhaseDone i) s (fun t => t.castPhase = 8 ∧ t.fld PWR_CASTON_FAIL = 1)) ∧
  (∀ s : State, ∀ i : CastInfo, s.boot.resetN = true → s.boStage = 0 → s.castPhase = 2 → i.ok = true →
    (s.fld PWR_CASTON_SRC = 3 → Does (.castonPhaseDone i) s (fun t => t.castPhase = 8 ∧ t.fld PWR_CASTON_FAIL = 3)) ∧
    (s.fld PWR_CASTON_SRC ≠ 3 → Does (.castonPhaseDone i) s (fun t => t.castPhase = 3 ∧ t.fld PWR_CASTON_SRC = s.fld PWR_CASTON_SRC ∧
      t.boot.waiting = (s.boot.waiting || decide (s.fld PWR_CASTON_SRC = 1)) ∧ (s.fld PWR_CASTON_SRC = 1 → t.hif.ids.isSome = true)))) ∧
  (∀ s : State, ∀ i : CastInfo, s.boot.resetN = true → s.boStage = 0 → s.castPhase = 4 → (i.ok = false ∨ lpddrFits = false) →
    Does (.castonPhaseDone i) s (fun t => t.castPhase = 8 ∧ t.fld PWR_CASTON_FAIL = 4)) ∧
  (∀ s : State, ∀ i : CastInfo, s.boot.resetN = true → s.boStage = 0 → s.castPhase = 5 → i.links = [] →
    Does (.castonPhaseDone i) s (fun t => t.castPhase = 6 ∧ ∀ l < 6, t.fld PURL_STAT_STATE l = 2)) ∧
  (∀ s : State, s.boot.resetN = true → s.boStage = 0 → 1 ≤ s.castPhase → s.castPhase ≤ 6 → s.boot.waiting = false →
    Does .castonPhaseTimeout s (fun t => t.castPhase = 8 ∧ t.fld PWR_CASTON_FAIL = s.castPhase)) ∧
  (∀ s : State, s.castPhase = 3 → s.boot.waiting = true →
    Does .bootGo s (fun t => t.fld PWR_BOOTCTL_GO = 1 ∧ sameRegsBut [PWR_BOOTCTL.base] s t)) ∧
  (∀ s : State, s.castPhase = 0 → Does .resetNHigh s (fun t => t.castPhase = (if s.boot.porOut then 1 else 0) ∧ t.boot.resetN = true ∧
    sameRegsBut [PWR_CASTON.base] s t)) ∧
  (∀ s : State, s.castPhase ≠ 0 → Does .resetNHigh s (fun t => t.boot.resetN = true ∧ t.regs = s.regs)) ∧
  (∀ s : State, s.boot.erasing = true → s.jrn.flushing = none → s.jrn.pend = false → s.boStage < 4 →
    Does .bindOffAreaErased s (fun t => t.fld PWR_BOSTAT_BOREADY = 1 ∧ t.boot.erasing = false ∧
    (∀ a, s.boArea.1 ≤ a → a < s.boArea.1 + s.boArea.2 → memGet dfltF t.nor a = 0xFF) ∧
    (∀ a, a < s.boArea.1 ∨ s.boArea.1 + s.boArea.2 ≤ a → memGet dfltF t.nor a = memGet dfltF s.nor a) ∧ sameRegsBut [PWR_BOSTAT.base] s t)) ∧
  (∀ s : State, (s.boot.erasing = false ∨ s.jrn.flushing.isSome = true ∨ 4 ≤ s.boStage) → exec .bindOffAreaErased s = .next s)

/-- Bind-off (R439 to R443, Table 19.4) stage by stage, what the hub store loses, and the reference clock (R456, R490). That a trigger during
bind-off and the ends of stages that are not due leave the machine as it is is the model's choice (log entry 2). -/
def Obligations.BindOffStages : Prop :=
  (∀ s : State, s.boStage = 0 → ∀ ck ∈ [(Instr.pwrfail, 0), (Instr.hubRailTrip, 1), (Instr.bindoffTest, 2)], (ck.2 = 0 → s.cutOff = false) →
    Does ck.1 s (fun t => t.boStage = 1 ∧ t.boot.trig = ck.2 ∧ t.boot.halted = false ∧ t.jrn.frozen = true ∧ t.data = s.data ∧ t.nor = s.nor)) ∧
  (∀ s : State, s.cutOff = true → exec .pwrfail s = .next s) ∧
  (∀ s : State, s.boStage ≠ 0 → ∀ c ∈ [Instr.pwrfail, Instr.hubRailTrip, Instr.bindoffTest], exec c s = .next s) ∧
  (∀ s : State, s.boStage = 1 → s.castPhase ≤ 3 → Does .bindoffHalt s (fun t => t.boStage = 5 ∧ t.boot.halted = true ∧ t.nor = s.nor)) ∧
  (∀ s : State, s.boStage ≠ 1 → exec .bindoffHalt s = .next s) ∧
  (∀ s : State, s.boStage = 3 → s.engines.all (fun e => e.run.isNone) = true → s.jrnQuiet = true →
    Does .bindoffJournalDone s (fun t => t.boStage = 4 ∧ sameRegsBut [PWR_BOSTAT.base] s t)) ∧
  (∀ s : State, (s.boStage ≠ 3 ∨ s.engines.all (fun e => e.run.isNone) = false ∨ s.jrnQuiet = false) → exec .bindoffJournalDone s = .next s) ∧
  (∀ s : State, s.boStage = 4 → Does .warmSaveDone s (fun t => t.boStage = 5 ∧ t.fld PWR_BOSTAT_BOREADY = 0 ∧
    (s.flag PWR_BOSTAT_BOREADY = false → t.nor = s.nor))) ∧
  (∀ s : State, s.boStage = 5 → s.boot.held = none →
    Does .bindoffParkDone s (fun t => t.boStage = 6 ∧ t.boot.done = true ∧ t.boot.parked = true ∧ t.hif.linkUp = false ∧
      t.fld CAM_FSSTAT_ACTIVE = 0 ∧ t.regN HIF_LINK = 0 ∧ sameRegsBut [PWR_BOSTAT.base, CAM_FSSTAT.base, HIF_LINK.base] s t)) ∧
  (∀ s : State, ∀ k, s.boStage = 5 → s.boot.held = some k → k ≠ 0 → k < 6 → s.boot.trig ≠ 2 →
    Does .bindoffParkDone s (fun t => t.castPhase = 2 ∧ t.fld PWR_RSTCAUSE_LAST = k ∧ t.boStage = 0)) ∧
  (∀ s : State, ∀ ofs hc, ¬ (hc = true ∧ ofs < 65536 * s.boot.fw) → Does (.hubEcc ofs hc) s (fun t => t.evt PWR_EVENT 6 ∧ t.hub = s.hub ∧ t.hlth = s.hlth)) ∧
  (∀ s : State, s.flag PWR_REFSTAT_LOST = false → Does .refclkLost s (fun t => t.fld PWR_REFSTAT_LOST = 1 ∧ t.evt PWR_RAILEVT 0)) ∧
  (∀ s : State, s.flag PWR_REFSTAT_LOST = true → Does .refclkReturn s (fun t => t.fld PWR_REFSTAT_LOST = 0 ∧ t.evt PWR_RAILEVT 1))

/-- The two reference candidates and the engine's states (R27 to R33, R40, R42, Table 2.1, Table 2.2). A crossing that steps PHASE into another
stitch opens that stitch as well (`afterStep`, R48). That this opening takes the set at a stitch 0 is the model's choice (log entry 18), and so is
it that events whose condition is not met leave the machine as it is (log entry 2). -/
def Obligations.RoundReferenceEvents : Prop :=
  (∀ s : State, s.rstate = 4 → s.phErr.natAbs < 2 ^ 20 → s.flag RND_CTRL_HOLD_FORCE = false → Does .slewDone s (fun t => t.rstate = 2 ∧
    t.fld RND_STATUS_EVER_LOCKED = 1 ∧ t.evt RND_EVENT 5 ∧ t.evt RND_EVENT 0 ∧ t.absPhase = s.absPhase ∧ t.rnd = s.rnd)) ∧
  (∀ s : State, s.rstate = 4 → s.phErr.natAbs < 2 ^ 20 → s.flag RND_CTRL_HOLD_FORCE = true → Does .slewDone s (fun t => t.rstate = 3 ∧
    t.fld RND_STATUS_EVER_LOCKED = 1 ∧ t.fld RND_STATUS_REF_ACT = 0 ∧ t.fld RND_STATUS_VQUAL = 0 ∧ t.fld RND_STATUS_ZQUAL = 0 ∧
    t.evt RND_EVENT 5 ∧ t.evt RND_EVENT 0 ∧ t.evt RND_EVENT 3 ∧ t.absPhase = s.absPhase)) ∧
  (∀ s : State, s.rstate = 4 → 2 ^ 20 ≤ s.phErr.natAbs → exec .slewDone s = .next s) ∧
  (∀ s : State, s.revertDue = true → s.rstate = 2 → Does .refRevert s (fun t => t.rstate = 4 ∧ t.fld RND_STATUS_REF_ACT = 1 ∧ t.evt RND_EVENT 2 ∧
    t.absPhase = s.absPhase)) ∧
  (∀ s : State, ∀ v : Bool, s.crossingLate v = true → s.qualified v = true → s.inUse v = false →
    Does (.crossingTimeout v) s (fun t => t.qualified v = false ∧ (t.cand v).run = 0 ∧ t.rstate = s.rstate ∧ sameRegsBut [RND_STATUS.base] s t)) ∧
  (∀ s : State, ∀ v : Bool, s.crossingLate v = true → s.qualified v = true → s.inUse v = true → s.qualified (!v) = false →
    s.flag RND_STATUS_EVER_LOCKED = true →
    Does (.crossingTimeout v) s (fun t => t.qualified v = false ∧ t.rstate = 3 ∧ t.fld RND_STATUS_REF_ACT = 0 ∧ t.evt RND_EVENT 1 ∧ t.evt RND_EVENT 3)) ∧
  (∀ s : State, s.amplitudeLate = true → s.qualified true = true → s.inUse true = false →
    Does .amplitudeTimeout s (fun t => t.qualified true = false ∧ (t.cand true).run = 0 ∧ t.rstate = s.rstate ∧ sameRegsBut [RND_STATUS.base] s t)) ∧
  (∀ s : State, s.reaches .host RND_CTRL.base → s.rstate = 2 → s.flag RND_STATUS_EVER_LOCKED = true → Does (.holdForce true) s (fun t => t.rstate = 3 ∧
    t.fld RND_STATUS_REF_ACT = 0 ∧ t.fld RND_STATUS_VQUAL = 0 ∧ t.fld RND_STATUS_ZQUAL = 0 ∧ t.fld RND_CTRL_HOLD_FORCE = 1 ∧ t.evt RND_EVENT 3)) ∧
  (∀ s : State, s.reaches .host RND_CTRL.base → Does (.holdForce false) s (fun t => t.fld RND_CTRL_HOLD_FORCE = 0 ∧ sameRegsBut [RND_CTRL.base] s t ∧ t.rnd = s.rnd)) ∧
  (∀ s : State, ∀ ago below above period dip peak t0, s.swings dip peak = true → s.enabled true = true → s.flag RND_CTRL_HOLD_FORCE = false →
    s.inUse true = false → (s.cand true).last = some t0 → (s.cand true).run < 7 →
    s.halfRoundNs ≤ s.crossAt (s.voltAgo ago below above period) - t0 →
    15152000 ≤ s.crossAt (s.voltAgo ago below above period) - t0 → s.crossAt (s.voltAgo ago below above period) - t0 ≤ 22222000 →
    Does (.voltageCrossing ago ⟨below, dip⟩ ⟨above, peak⟩ period) s (fun t => (t.cand true).run = (s.cand true).run + 1 ∧
      (t.cand true).last = some (s.crossAt (s.voltAgo ago below above period)) ∧ t.regs = s.regs)) ∧
  (∀ s : State, ∀ ago below above period dip peak, s.swings dip peak = false →
    exec (.voltageCrossing ago ⟨below, dip⟩ ⟨above, peak⟩ period) s = .next s) ∧
  (∀ s : State, ∀ ago below above period dip peak t0, s.swings dip peak = true → s.enabled true = true → s.flag RND_CTRL_HOLD_FORCE = false →
    s.inUse true = false → s.rstate = 0 → (s.cand true).last = some t0 → (s.cand true).run = 7 →
    s.halfRoundNs ≤ s.crossAt (s.voltAgo ago below above period) - t0 →
    15152000 ≤ s.crossAt (s.voltAgo ago below above period) - t0 → s.crossAt (s.voltAgo ago below above period) - t0 ≤ 22222000 →
    Does (.voltageCrossing ago ⟨below, dip⟩ ⟨above, peak⟩ period) s (fun t => ∃ u : State, t = u.afterStep s ∧ u.rstate = 1 ∧ u.qualified true = true ∧
      u.fld RND_STATUS_REF_ACT = 1 ∧ u.phase = s.refPhase (s.voltAgo ago below above period))) ∧
  (∀ s : State, ∀ ago : Nat, ∀ t0, s.cutOff = false → s.enabled false = true → s.flag RND_CTRL_HOLD_FORCE = false → s.inUse false = false →
    s.live RND_REFSEL_ZPOL = 0 → s.live RND_REFDLY_ZCDLY = 0 → (s.cand false).last = some t0 → (s.cand false).run < 7 →
    s.halfRoundNs ≤ s.crossAt (tickAgo ago) - t0 → 15152000 ≤ s.crossAt (tickAgo ago) - t0 → s.crossAt (tickAgo ago) - t0 ≤ 22222000 →
    Does (.zcEdge ago true) s (fun t => (t.cand false).run = (s.cand false).run + 1 ∧ (t.cand false).last = some (s.crossAt (tickAgo ago)) ∧
      t.regs = s.regs) ∧
    exec (.zcEdge ago false) s = .next s) ∧
  (∀ s : State, s.cutOff = true → ∀ ago rising, exec (.zcEdge ago rising) s = .next s) ∧
  (∀ s : State, ∀ ago below above period, s.voltAgo ago below above period % 4 = 0)

/-- The snapshot, PPS and the loading of NSTIME (R43, R44, R49). That PPS locks with the third good interval, so with the fourth edge, is the model's
choice (log entry 86). That a command whose condition is not met leaves the machine as it is, is the model's choice (log entry 2). -/
def Obligations.TimeCapture : Prop :=
  (∀ s : State, s.reaches .host RND_CTRL.base → Does .rndSnap s (fun t => t.regN RND_SNAP_CNT_LO + 2 ^ 32 * t.regN RND_SNAP_CNT_HI = s.count48 ∧ t.regN RND_SNAP_PHASE = s.phase ∧
    t.regN RND_SNAP_NS_LO + 2 ^ 32 * t.regN RND_SNAP_NS_HI = s.nstime ∧ t.regN RND_SNAP_FREQ = s.freq ∧
    sameRegsBut [RND_SNAP_CNT_LO.base, RND_SNAP_CNT_HI.base, RND_SNAP_PHASE.base, RND_SNAP_FREQ.base, RND_SNAP_NS_LO.base, RND_SNAP_NS_HI.base,
      RND_SNAP_FLAGS.base] s t)) ∧
  (∀ s : State, s.cutOff = false → s.live RND_PPSCFG_EN = 1 → s.live RND_PPSCFG_POL = 0 → s.flag RND_STATUS_PPS_LOCK = false → s.rnd.ppsLast = none →
    Does (.ppsEdge true) s (fun t => t.rnd.ppsLast = some s.rnd.clk ∧ t.rnd.ppsRun = 0 ∧ t.regN RND_PPSERR = uInt 32 (secErr s.nstime) ∧
      sameRegsBut [RND_PPSERR.base] s t)) ∧
  (∀ s : State, ∀ t0, s.cutOff = false → s.live RND_PPSCFG_EN = 1 → s.live RND_PPSCFG_POL = 0 → s.flag RND_STATUS_PPS_LOCK = false →
    s.rnd.nsArm = none →
    s.rnd.ppsLast = some t0 → s.rnd.ppsRun = 2 → 249975000 ≤ s.rnd.clk - t0 → s.rnd.clk - t0 ≤ 250025000 →
    Does (.ppsEdge true) s (fun t => t.fld RND_STATUS_PPS_LOCK = 1 ∧ t.evt RND_EVENT 8 ∧ t.rnd.ppsRun = 3)) ∧
  (∀ s : State, (s.live RND_PPSCFG_EN ≠ 1 ∨ s.cutOff = true) → ∀ r, exec (.ppsEdge r) s = .next s) ∧
  (∀ s : State, ∀ t0, s.flag RND_STATUS_PPS_LOCK = true → s.rnd.ppsLast = some t0 → 275000000 ≤ s.rnd.clk - t0 →
    Does .ppsTimeout s (fun t => t.fld RND_STATUS_PPS_LOCK = 0 ∧ t.rnd.ppsRun = 0 ∧ t.evt RND_EVENT 9)) ∧
  (∀ s : State, ∀ rq hi, hi < 2 ^ 32 → s.serves rq → s.flag RND_STATUS_PPS_LOCK = false →
    Does (.nssetArm rq hi) s (fun t => t.fld RND_STATUS_NS_VALID = 1 ∧ t.evt RND_EVENT 10 ∧ t.regN RND_NSTIME_HI = hi ∧
      t.regN RND_NSTIME_LO = ((look s.stage (latchKey rq RND_NSSET_LO.base)).getD 0).toNat)) ∧
  (∀ s : State, ∀ rq hi, hi < 2 ^ 32 → s.serves rq → s.flag RND_STATUS_PPS_LOCK = true →
    Does (.nssetArm rq hi) s (fun t => t.nstime = s.nstime ∧
      t.rnd.nsArm = some (((look s.stage (latchKey rq RND_NSSET_LO.base)).getD 0).toNat + 2 ^ 32 * hi)))

/-- Register accesses (R75 to R85, R95, R99, R339): a staged register, a read that clears, a 64-bit pair, and what Memory Space Enable 0 keeps from
the device. -/
def Obligations.RegisterAccesses : Prop :=
  (∀ s : State, ∀ v : Word, s.serves .host → Does (.registerWrite .host RND_BAND_LO.base 15 v) s (fun t => t.reg RND_BAND_LO.base = v ∧
    t.reg (RND_BAND_LO.base + 0x800) = s.reg (RND_BAND_LO.base + 0x800) ∧ sameRegsBut [RND_BAND_LO.base] s t ∧ t.resp = s.resp)) ∧
  (∀ s : State, ∀ rq, s.serves rq → Does (.rcRead rq RND_STATS.base 15) s (fun t =>
    t.resp = { rq := rq, st := 0, poison := false, data := toBytes 4 (s.regN RND_STATS) } ∧
    (rq = .debug → s.flag DBG_CTRL_SIDEFX = false → t.regs = s.regs) ∧
    (rq ≠ .debug → t.regN RND_STATS = 0 ∧ sameRegsBut [RND_STATS.base] s t))) ∧
  (∀ s : State, ∀ rq, s.serves rq → Does (.pairLowRead rq RND_COUNT_LO.base 15) s (fun t =>
    t.resp = { rq := rq, st := 0, poison := false, data := toBytes 4 (s.regN RND_COUNT_LO) } ∧
    look t.latch (latchKey rq RND_COUNT_HI.base) = some (s.reg RND_COUNT_HI.base) ∧ t.regs = s.regs)) ∧
  (∀ s : State, ∀ rq v, s.serves rq → look s.latch (latchKey rq RND_COUNT_HI.base) = some v →
    Does (.rcRead rq RND_COUNT_HI.base 15) s (fun t => t.resp = { rq := rq, st := 0, poison := false, data := toBytes 4 v.toNat } ∧ t.regs = s.regs)) ∧
  (∀ s : State, ∀ rq, ∀ v : Word, s.serves rq → s.flag CMD_SCFG_EN = false → Does (.pairHighWrite rq CMD_SBASE_HI.base v) s (fun t =>
    t.reg CMD_SBASE_HI.base = v ∧
    bits (t.reg CMD_SBASE_LO.base) 6 26 = bits ((look s.stage (latchKey rq CMD_SBASE_LO.base)).getD 0) 6 26 ∧
    sameRegsBut [CMD_SBASE_LO.base, CMD_SBASE_HI.base] s t)) ∧
  (∀ s : State, s.serves .host → ∀ v : Word, Does (.registerWrite .host CMD_SBASE_LO.base 15 v) s (fun t => t.regs = s.regs ∧
    look t.stage (latchKey .host CMD_SBASE_LO.base) = some v)) ∧
  (∀ s : State, Does .accerrClear s (fun t => t.fld HIF_ACCERR_VALID = 0 ∧ t.fld HIF_ACCERR_COUNT = 0 ∧ t.fld HIF_ACCERR_CAUSE = s.fld HIF_ACCERR_CAUSE ∧
    sameRegsBut [HIF_ACCERR.base] s t)) ∧
  (∀ s : State, Does .unsupportedRequest s (fun t => t = { s with resp := { rq := .host, st := 2, poison := false, data := [] } })) ∧
  (∀ s : State, s.hif.mse = false → ∀ off be v hi n, ∀ c ∈ [Instr.registerWrite .host off be v, .rcRead .host off be, .pairLowRead .host off be,
      .pairHighWrite .host off v, .nssetArm .host hi, .bar0Overlong true off be v n, .bar0Overlong false off be v n, .coreDebugRegAccess .host false 0],
    exec c s = .next { s with resp := { rq := .host, st := 2, poison := false, data := [] } })

/-- A request in error is discarded whole and logged with its cause (R80, R81, R83, R85, R86, R99, R100, R431): `code` is HIF_ACCERR.CAUSE. Where the
register cannot be reached, because its die is lost or the device does not serve the host, the cause is UNREACHABLE for every write that has a row of
its own. -/
def Obligations.DiscardedRequests : Prop :=
  (∀ s : State, s.serves .host → s.flag HIF_ACCERR_VALID = false → s.flag HIF_CTRL_SLVERR_EN = false → ∀ v : Word,
    ∀ p ∈ [(Instr.registerWrite .host RND_STATUS.base 15 v, 4, 15), (Instr.registerWrite .host (RND_BAND_LO.base + 0x800) 15 v, 4, 15),
      (Instr.registerWrite .host RND_BAND_LO.base 1 v, 1, 1), (Instr.registerWrite .host RND_BAND_LO.base 6 v, 2, 6),
      (Instr.registerWrite .host 0xE00000 15 v, 3, 15), (Instr.bar0Overlong true RND_BAND_LO.base 15 v 3, 5, 15)],
    Does p.1 s (fun t => t.fld HIF_ACCERR_VALID = 1 ∧ t.fld HIF_ACCERR_CAUSE = p.2.1 ∧ t.fld HIF_ACCERR_WRITE = 1 ∧ t.fld HIF_ACCERR_SRC = 0 ∧
      t.fld HIF_ACCERR_BE = p.2.2 ∧ t.evt HIF_EVENT 0 ∧ t.resp = s.resp ∧
      sameRegsBut ([HIF_ACCERR.base, HIF_ACCERR_ADDR.base, HIF_ACCERR_DATA.base, HIF_EVENT.base] ++
        [0x9000, 0x9004, JRN_EVENT.base, JRN_LOST0.base, JRN_LOST1.base]) s t)) ∧
  (∀ s : State, s.flag HIF_ACCERR_VALID = false → s.flag HIF_CTRL_SLVERR_EN = false → ∀ n < 32, ∀ k < 2, ∀ i < 32, ∀ c < 16, ∀ m < 65536, ∀ v < 2 ^ 32,
    ∀ p ∈ [(Instr.coreGo n, CORE_CTRL.at n, 4), (.coreCtrlAbort n, CORE_CTRL.at n, 2), (.coreChflushWrite n m, CORE_CHFLUSH.at n, m),
      (.slotPgcommit k i, SOL_SLOTCTRL.at k i, 4), (.slotKick k i, SOL_SLOTCTRL.at k i, 8), (.slotReset k i, SOL_SLOTCTRL.at k i, 2),
      (.solCtrlAbort k, SOL_CTRL.at k, 1), (.solInflushWrite k m, SOL_INFLUSH.at k, m), (.solIncfgWrite k c v, SOL_INCFG.at k c, v)],
    ¬ s.reaches .host p.2.1 → Does p.1 s (fun t => Unreached p.2.1 p.2.2 s t ∧ t.cores = s.cores ∧ t.engines = s.engines ∧ t.mesh = s.mesh)) ∧
  (∀ s : State, s.serving = false → s.flag HIF_ACCERR_VALID = false → s.flag HIF_CTRL_SLVERR_EN = false → ∀ k < 4, ∀ p < 6, ∀ w < 16, ∀ u < 8, ∀ q < 2,
    ∀ v < 2 ^ 16, ∀ x ∈ [(Instr.holdForce true, RND_CTRL.base, 4), (.holdForce false, RND_CTRL.base, 0), (.rndSnap, RND_CTRL.base, 2),
      (.patCtrlAdmit, PAT_CTRL.base, 1), (.patCtrlActivate, PAT_CTRL.base, 2), (.patCtrlDeactivate, PAT_CTRL.base, 4), (.patCtrlCancel, PAT_CTRL.base, 8),
      (.molRetrain p, MOL_CTRL.at p, 2), (.molQrel p, MOL_CTRL.at p, 4), (.ringRearmWrite k, WFM_RGCTRL.at k, 1), (.ringForceWrite k, WFM_RGCTRL.at k, 2),
      (.ispRpkickWrite q v, ISP_RPKICK.at q, v), (.doorbell k v, CMD_PROD.at k, v), (.cmdCconsWrite k v, CMD_CCONS.at k, v),
      (.cmdSconsWrite v, CMD_SCONS.base, v), (.ringEnable k, CMD_CTRL.at k, 1), (.ringDisable k, CMD_CTRL.at k, 0), (.cmdCtrlFlush k, CMD_CTRL.at k, 3),
      (.fbrWindowFlush w, FBR_WCTRL.at w, 2), (.fbrErrackWrite v, FBR_ERRACK.base, v), (.mrkHopcmdWrite .host v, MRK_HOPCMD.base, v),
      (.dbgHaltWrite .host v, DBG_HALT.base, v), (.dbgResumeWrite .host v, DBG_RESUME.base, v), (.chkCheck u, CHK_CTRL.at u, 4),
      (.chkStart u, CHK_CTRL.at u, 2), (.jrnCtrlSnapshot, JRN_CTRL.base, 2), (.jrnCtrlFlush, JRN_CTRL.base, 4)],
    Does x.1 s (fun t => Unreached x.2.1 x.2.2 s t ∧ t.rnd = s.rnd ∧ t.pat = s.pat ∧ t.rings = s.rings ∧ t.cores = s.cores ∧ t.chk = s.chk))

/-- BAR2 (R89 to R91, R339): a write changes the bytes it enables and no other, a read answers the bytes, an unlisted range is discarded, with Memory
Space Enable 0 nothing is reached, and the stores keep their canonical form, as they do under the Journal's and bind-off's flash operations. -/
def Obligations.StoreAperture : Prop :=
  (∀ s : State, ∀ n a bs, n < 32 → a + bs.length ≤ 0x100000 → bs ≠ [] → s.serves .host → s.dieUnreachable (n / 16) = false →
    s.coreDropped n = false →
    Does (.bar2Access true (0x100000 * n + a) (bs.map (fun b => (b, true))) []) s (fun t =>
      (∀ i, i < bs.length → memGet dflt0 t.data (dataAt n a + i) = BitVec.ofNat 8 (bs.getD i 0)) ∧
      (∀ x, x < dataAt n a ∨ dataAt n a + bs.length ≤ x → memGet dflt0 t.data x = memGet dflt0 s.data x) ∧
      t.inst = s.inst ∧ t.sol = s.sol ∧ t.hub = s.hub ∧ t.lpddr = s.lpddr ∧ t.regs = s.regs)) ∧
  (∀ s : State, ∀ n a len, n < 32 → a + len ≤ 0x100000 → 0 < len → s.serves .host → s.dieUnreachable (n / 16) = false →
    Does (.bar2Access false (0x100000 * n + a) (List.replicate len (0, true)) []) s (fun t => t.data = s.data ∧ t.regs = s.regs ∧
      t.resp = { rq := .host, st := 0, poison := false, data := memBytes dflt0 s.data (dataAt n a) len })) ∧
  (∀ s : State, ∀ off b, 0x2600000 ≤ off → off < 0x2800000 → s.hif.mse = true → s.flag HIF_ACCERR_VALID = false →
    Does (.bar2Access true off [(b, true)] []) s (fun t => t.fld HIF_ACCERR_CAUSE = (if s.ready then 3 else 7) ∧ t.fld HIF_ACCERR_SRC = 1 ∧ t.data = s.data ∧ t.inst = s.inst ∧
      t.sol = s.sol ∧ t.hub = s.hub ∧ t.lpddr = s.lpddr)) ∧
  (∀ s : State, s.hif.mse = false → ∀ write off bytes ecc, exec (.bar2Access write off bytes ecc) s =
    .next { s with resp := { rq := .host, st := 2, poison := false, data := [] } }) ∧
  (∀ s : State, ∀ n a b, n < 32 → a < 0x10000 → s.serves .host → s.dieUnreachable (n / 16) = false → s.coreDropped n = false → s.busy n = true →
    s.flag HIF_ACCERR_VALID = false →
    Does (.bar2Access true (0x2000000 + 0x10000 * n + a) [(b, true)] []) s (fun t => t.fld HIF_ACCERR_CAUSE = 6 ∧ t.inst = s.inst)) ∧
  (∀ s t : State, s.storesWf → ∀ c, (∃ w off l, c = Instr.bar2Access w off l []) ∨ c ∈ [Instr.flushDone, .sectorEraseDone, .bindOffAreaErased] →
    exec c s = .next t → t.storesWf)

/-- COMMIT and the staged set (R95, R97, R403, R442): COMMIT reads 1 until the set is taken as a whole or rejected as a whole, or until that is
done at once (a check unit's); the Round engine's, bind-off's and the check units' sets. Which cause is reported when several apply, the one of lowest
number, is the model's choice (log entry 19), and so is it that a set whose COMMIT is 0 is not taken (log entry 2). -/
def Obligations.StagedSets : Prop :=
  (∀ s : State, ∀ b : Block, b.ok = true → (∀ w, b ≠ .fbr w) → (∀ u, b ≠ .chk u) →
    s.reaches .host (b.commit.1.rg.at b.commit.2.1 b.commit.2.2) → Does (.commitWrite b) s (fun t =>
    t.fld b.commit.1 b.commit.2.1 b.commit.2.2 = 1 ∧ sameRegsBut [b.commit.1.rg.at b.commit.2.1 b.commit.2.2] s t)) ∧
  (∀ s : State, ∀ b : Block, b.ok = true → ¬ s.reaches .host (b.commit.1.rg.at b.commit.2.1 b.commit.2.2) →
    s.flag HIF_ACCERR_VALID = false → s.flag HIF_CTRL_SLVERR_EN = false → Does (.commitWrite b) s (fun t =>
      Unreached (b.commit.1.rg.at b.commit.2.1 b.commit.2.2) (2 ^ b.commit.1.lo) s t)) ∧
  (∀ s : State, ∀ w < 16, s.reaches .host (FBR_WCTRL.at w) → Does (.commitWrite (.fbr w)) s (fun t => t.fld FBR_WCTRL_COMMIT w = 1 ∧ t.fld FBR_WSTAT_CWAIT w = 1 ∧
    sameRegsBut [FBR_WCTRL.at w, FBR_WSTAT.at w] s t)) ∧
  (∀ s : State, ∀ b ecc, b.ok = true → s.committed b = false → exec (.stagedSetApply b ecc) s = .next s) ∧
  (∀ s : State, ∀ ecc, s.committed .rnd = true → s.atRound = true → s.rndReject = 0 → Does (.stagedSetApply .rnd ecc) s (fun t =>
    t.fld RND_CTRL_COMMIT = 0 ∧ (∀ r ∈ rndStaged, t.reg (r.at 0 0 + 0x800) = s.reg (r.at 0 0)) ∧ t.evt RND_EVENT 12)) ∧
  (∀ s : State, ∀ ecc, s.committed .rnd = true → s.atRound = true → s.rndReject ≠ 0 → Does (.stagedSetApply .rnd ecc) s (fun t =>
    t.fld RND_CTRL_COMMIT = 0 ∧ t.fld RND_STATUS_REJ_CAUSE = s.rndReject ∧ (∀ r ∈ rndStaged, t.reg (r.at 0 0 + 0x800) = s.reg (r.at 0 0 + 0x800)) ∧
    t.evt RND_EVENT 11)) ∧
  (∀ s : State, ∀ ecc, s.committed .bo = true → s.atRound = true → Does (.stagedSetApply .bo ecc) s (fun t => t.fld PWR_BOCTRL_COMMIT = 0 ∧
    t.reg (PWR_BOCFG.base + 0x800) = s.reg PWR_BOCFG.base ∧ (∀ e < 2, t.reg (PWR_BOWARM.at e + 0x800) = s.reg (PWR_BOWARM.at e)))) ∧
  (∀ s : State, ∀ hi lo, s.reg RND_BAND_HI.base = hi → s.reg RND_BAND_LO.base = lo → hi.toNat ≤ lo.toNat ∨ lo.toNat < 0x2D0000 ∨ 0x420000 < hi.toNat →
    s.rndReject ≠ 0) ∧
  (∀ s : State, s.whole → ∀ u < 8, ∀ ecc c, (c = .commitWrite (.chk u) ∧ s.reaches .host (CHK_CTRL.at u)) ∨
      (c = .stagedSetApply (.chk u) ecc ∧ s.committed (.chk u) = true) → s.chkReject u = 0 → Does c s (fun t =>
    t.fld CHK_CTRL_COMMIT u = 0 ∧ t.reg (CHK_CFG.at u + 0x800) = s.reg (CHK_CFG.at u) ∧ t.reg (CHK_INIT.at u + 0x800) = s.reg (CHK_INIT.at u) ∧
    (t.chkUnit u).n = 0 ∧ (t.chkUnit u).crc = t.chkInit u ∧ t.regN CHK_COUNT u = 0 ∧ t.fld CHK_STATUS_GVALID u = 0 ∧ t.fld CHK_STATUS_GLAST u = 0 ∧ t.evtAt CHK_EVENT u 5)) ∧
  (∀ s : State, ∀ u < 8, ∀ ecc c, (c = .commitWrite (.chk u) ∧ s.reaches .host (CHK_CTRL.at u)) ∨
      (c = .stagedSetApply (.chk u) ecc ∧ s.committed (.chk u) = true) → s.chkReject u ≠ 0 → Does c s (fun t =>
    t.fld CHK_CTRL_COMMIT u = 0 ∧ t.fld CHK_STATUS_REJ_CAUSE u = s.chkReject u ∧ t.reg (CHK_CFG.at u + 0x800) = s.reg (CHK_CFG.at u + 0x800) ∧
    t.reg (CHK_INIT.at u + 0x800) = s.reg (CHK_INIT.at u + 0x800) ∧ t.chk = s.chk ∧ t.evtAt CHK_EVENT u 4)) ∧
  (∀ s : State, ∀ u < 8, s.flag CHK_CFG_INITSEL u = true →
    (s.fld CHK_CFG_POLY u = 2 → 0x10000 ≤ s.regN CHK_INIT u → s.chkReject u = 1) ∧ (s.fld CHK_CFG_POLY u = 3 → 0x100 ≤ s.regN CHK_INIT u → s.chkReject u = 1)) ∧
  (∀ s : State, ∀ u < 8, s.flag CHK_CFG_INITSEL u = false → s.chkReject u = if s.flag CHK_CFG_GW u ∧ s.flag CHK_CFG_GNIB u then 2 else 0)

/-- Admission, activation and deactivation of a Pattern (R55, R62, R63, R65, R73). That an admission may run while an activation waits, and what its
verdict then leaves, is the model's choice (log entry 89), and so is it that a cancel with nothing to cancel leaves the machine as it is (log entry
2). -/
def Obligations.PatternAdmission : Prop :=
  (∀ s : State, s.reaches .host PAT_CTRL.base → s.admitting = false → Does .patCtrlAdmit s (fun t => t.fld PAT_CTRL_ADMIT = 1 ∧ t.fld PAT_STATUS_ADM_STATE = 1 ∧
    t.pat.img = some (s.hubBytes (64 * s.fld PAT_IMG_BASE_BASE) (min (s.fld PAT_IMG_LEN_LEN) 73793)) ∧ t.pat.active = s.pat.active)) ∧
  (∀ s : State, ∀ bs im, s.pat.img = some bs → s.frozenAdm = false → s.pat.touched = false → s.verdict bs = .inr im →
    Does .admissionDone s (fun t => t.pat.admitted = some (im, s.bandNow.1, s.bandNow.2) ∧ t.pat.active = s.pat.active ∧ t.pat.img = none ∧
      t.fld PAT_ADM_RESULT_CODE = 0 ∧ t.fld PAT_CTRL_ADMIT = 0 ∧ t.evt PAT_EVENT 0)) ∧
  (∀ s : State, ∀ bs r, s.pat.img = some bs → s.frozenAdm = false → s.pat.touched = false → s.verdict bs = .inl r →
    Does .admissionDone s (fun t => t.pat.admitted = none ∧ t.pat.active = s.pat.active ∧ t.pat.img = none ∧
      t.fld PAT_ADM_RESULT_CODE = r.code % 256 ∧ t.fld PAT_CTRL_ADMIT = 0 ∧ t.evt PAT_EVENT 1)) ∧
  (∀ s : State, s.reaches .host PAT_CTRL.base → s.pat.admitted.isSome = true → s.pat.act = none → Does .patCtrlActivate s (fun t => t.fld PAT_STATUS_ACT_WAIT = 1 ∧
    t.fld PAT_CTRL_ACTIVATE = 1 ∧ t.pat.act = some s.absStitch ∧ t.pat.active = s.pat.active)) ∧
  (∀ s : State, ∀ a im lo hi, s.atRound = true → s.pat.deactFirst = false → s.pat.act = some a → s.pat.admitted = some (im, lo, hi) →
    s.actEligible a = true → s.bandNow = (lo, hi) → Does .patternActivation s (fun t => t.pat.active = some im ∧ t.pat.shed = [] ∧ t.pat.act = none ∧
      t.fld PAT_STATUS_ACTIVE = 1 ∧ t.fld PAT_STATUS_LEN = (im.rounds - 1) % 16 ∧ t.fld PAT_STATUS_RIDX = 0 ∧ t.actCnt = s.count48 ∧ t.evt PAT_EVENT 2)) ∧
  (∀ s : State, s.reaches .host PAT_CTRL.base → Does .patCtrlDeactivate s (fun t => t.fld PAT_CTRL_DEACTIVATE = 1 ∧ t.pat.deact = true ∧ t.pat.active = s.pat.active ∧
    sameRegsBut [PAT_CTRL.base] s t)) ∧
  (∀ s : State, s.atRound = true → s.pat.deact = true → Does .patternDeactivation s (fun t => t.fld PAT_STATUS_ACTIVE = 0 ∧
    t.fld PAT_CTRL_DEACTIVATE = 0 ∧ t.pat.deact = false)) ∧
  (∀ s : State, s.reaches .host PAT_CTRL.base → s.pat.act.isSome = true → Does .patCtrlCancel s (fun t => t.pat.act = none ∧ t.fld PAT_STATUS_ACT_WAIT = 0 ∧
    t.fld PAT_CTRL_ACTIVATE = 0 ∧ t.pat.active = s.pat.active)) ∧
  (∀ s : State, s.reaches .host PAT_CTRL.base → s.pat.act = none → exec .patCtrlCancel s = .next s)

/-- The run of a Pattern's instances and re-admission (R66 to R71). That a command whose condition is not met leaves the machine as it is, is the
model's choice (log entry 2). -/
def Obligations.PatternInstances : Prop :=
  (∀ s : State, ∀ r x ecc, r < 32 → s.whole → s.boot.halted = false → s.cstate r = 0 → s.running r = none → s.coreDropped r = false → s.nextFor r = some x →
    s.flag CORE_CTRL_COMMIT r = false → Does (.instanceDispatch ⟨r, ecc⟩) s (fun t => t.cstate r = 1 ∧ t.pc r = x.entry % 2 ^ 16 ∧
      (t.core r).inst = some x.id ∧ (t.core r).g.getD 1 0 = x.arg % 2 ^ 32)) ∧
  (∀ s : State, ∀ r ecc, r < 36 → s.boot.halted = true → exec (.instanceDispatch ⟨r, ecc⟩) s = .next s) ∧
  (∀ s : State, ∀ x, s.pat.insts = [x] → x.late = false → x.drop = false → s.isLate x = true →
    Does .deadlineExpiry s (fun t => t.pat.insts = [{ x with late := true }] ∧
      t.fld PAT_LATECNT_LATE = min (s.fld PAT_LATECNT_LATE + 1) (2 ^ 16 - 1) ∧ t.evt PAT_EVENT 4)) ∧
  (∀ s : State, (∀ x ∈ s.pat.insts, x.late = true ∨ s.isLate x = false) → exec .deadlineExpiry s = .next s) ∧
  (∀ s : State, ∀ r x, r < 36 → s.running r = some x → x.overrun = false → x.dl = true → s.wcetPassed r x = true →
    Does (.wcetOverrun r) s (fun t => t.pat.insts = s.pat.insts.map (fun i => if i.id = x.id then { i with overrun := true } else i) ∧
      t.fld PAT_OVRCNT_OVERRUN = min (s.fld PAT_OVRCNT_OVERRUN + 1) (2 ^ 16 - 1) ∧ t.evt PAT_EVENT 5)) ∧
  (∀ s : State, s.pat.readm.isSome = true → s.pat.active.isSome = true → s.pat.result = none → s.frozenAdm = false →
    Does .readmissionDone s (fun t => t.pat.result.isSome = true ∧ t.pat.active = s.pat.active ∧ t.pat.readm = s.pat.readm)) ∧
  (∀ s : State, ∀ q old im shed gs, s.rnd.stitchDue = true → s.frozenAdm = false → s.pat.readm = some q → s.pat.active = some old →
    s.pat.result = some (im, shed, gs) → Does .readmissionEffect s (fun t => t.pat.active = some im ∧ t.pat.shed = shed ∧ t.pat.readm = none ∧
      t.pat.result = none ∧ t.evt PAT_EVENT 7 ∧ t.fld PAT_SHED_ENTRIES = shed.length % 2 ^ PAT_SHED_ENTRIES.w))

/-- A sense port's link comes up and goes down (R104, R112 to R115, R133, R135): the state each event leads to and what the end of a session leaves.
That a command whose condition is not met leaves the machine as it is, is the model's choice (log entry 2). -/
def Obligations.PortStates : Prop :=
  (∀ s : State, ∀ p < 6, ∀ c ∈ [Instr.linkLos p, Instr.syncLoss p], 1 ≤ s.pst p → s.pst p ≤ 7 → Does c s (fun t => t.pst p = 1 ∧
    t.fld MOL_STATUS_GEN p = 0 ∧ t.fld MOL_STATUS_AUTHED p = 0 ∧ (t.port p).sess = none ∧ (t.port p).idGiven = false ∧
    t.fld MOL_IDBASE_ADMITTED p = s.fld MOL_IDBASE_ADMITTED p)) ∧
  (∀ s : State, ∀ p < 6, ∀ c ∈ [Instr.linkLos p, Instr.syncLoss p], (s.pst p = 0 ∨ 8 ≤ s.pst p) → exec c s = .next s) ∧
  (∀ s : State, ∀ p < 6, s.whole → s.pst p = 1 → Does (.m1LinkUp p) s (fun t => t.pst p = 2 ∧ (t.port p).tries = 1 ∧
    (t.port p).since = s.rnd.clk ∧ sameRegsBut [MOL_STATUS.at p] s t)) ∧
  (∀ s : State, ∀ p < 6, s.whole → s.pst p = 2 → 250000 ≤ s.rnd.clk - (s.port p).since → (s.port p).tries < 3 →
    Does (.capsTimeout p) s (fun t => (t.port p).tries = (s.port p).tries + 1 ∧ (t.port p).since = s.rnd.clk ∧ t.regs = s.regs)) ∧
  (∀ s : State, ∀ p < 6, s.pst p = 2 → 250000 ≤ s.rnd.clk - (s.port p).since → 3 ≤ (s.port p).tries →
    Does (.capsTimeout p) s (fun t => t.pst p = 1)) ∧
  (∀ s : State, ∀ p < 6, s.pst p = 3 → Does (.m2LinkUp p) s (fun t => t.fld MOL_STATUS_GEN p = 1 ∧ t.fld MOL_STATUS_M2_FAILS p = 0 ∧
    t.pst p = (if s.live MOL_CTRL_AUTH_REQ p = 1 then 4 else 5) ∧ t.fld MOL_EQ_CONV p = 1 ∧ sameRegsBut [MOL_STATUS.at p, MOL_EQ.at p] s t)) ∧
  (∀ s : State, ∀ p < 6, s.pst p = 3 → 2500000 ≤ s.rnd.clk - (s.port p).since → Does (.m2UpgradeTimeout p) s (fun t => t.pst p = 1 ∧
    t.fld MOL_STATUS_M2_FAILS p = s.counted MOL_STATUS_M2_FAILS p ∧ t.evtAt MOL_EVENT p 3)) ∧
  (∀ s : State, ∀ p < 6, s.pst p = 5 → 500000 ≤ s.rnd.clk - (s.port p).since → Does (.calibTimeout p) s (fun t => t.pst p = 1 ∧
    t.fld MOL_STATUS_GEN p = 0)) ∧
  (∀ s : State, ∀ p < 6, s.pst p = 7 → s.live MOL_TMO_ALIVE_TMO p ≤ s.absStitch - (s.port p).alive → Does (.aliveTimeout p) s (fun t =>
    t.pst p = 1 ∧ t.fld MOL_STATUS_HEAD_ABSENT p = 1 ∧ (t.port p).sess = none)) ∧
  (∀ s : State, ∀ p < 6, (s.pst p ≠ 6 ∧ s.pst p ≠ 7) ∨ s.absStitch - (s.port p).alive < s.live MOL_TMO_ALIVE_TMO p →
    exec (.aliveTimeout p) s = .next s) ∧
  (∀ s : State, ∀ p < 6, s.reaches .host (MOL_CTRL.at p) → Does (.molRetrain p) s (fun t => t.fld MOL_STATUS_M2_FAILS p = 0 ∧ t.fld MOL_CTRL_RETRAIN p = 0 ∧
    t.pst p = (if (1 ≤ s.pst p ∧ s.pst p ≤ 7) ∨ s.pst p = 9 then 1 else s.pst p))) ∧
  (∀ s : State, ∀ p < 6, s.reaches .host (MOL_CTRL.at p) → Does (.molQrel p) s (fun t => t.fld MOL_STATUS_QHELD p = 0 ∧ t.fld MOL_CTRL_QREL p = 0 ∧
    t.pst p = (if s.pst p = 8 then 1 else s.pst p) ∧ sameRegsBut [MOL_STATUS.at p, MOL_CTRL.at p] s t))

/-- What the timers and the own messages of a port do (R112, R118, R122, R127, R130, R131), case by case over every state of the port: `authTimeout`
(the exchange's 5 ms: an AUTH failure where a CHAL that left got no RESP, and only the end of the session where no CHAL could leave, R367, or a CONF
lacked a credit), `echoTx` and `echoTimeout` (64 µs), `cadenceTx`, `outboundCreditTimeout` and `mcntRenewal`. That a command whose condition is not
met leaves the machine as it is, is the model's choice (log entry 2). -/
def Obligations.PortTimers : Prop :=
  (∀ s : State, ∀ p < 6, ∀ n a, s.whole → (s.pst p = 4 ∨ s.pst p = 7) → (s.port p).nd = some (n, a) → 1250000 ≤ s.rnd.clk - a →
      (s.port p).resp = false →
    ((s.port p).hostile + 1 < s.live MOL_QCFG_QTHR p → Does (.authTimeout p) s (fun t => t.pst p = 1 ∧ (t.port p).sess = none ∧
      t.fld MOL_CNT_HOST_AUTH p = s.counted MOL_CNT_HOST_AUTH p ∧ t.evtAt MOL_EVENT p 5)) ∧
    (s.live MOL_QCFG_QTHR p ≤ (s.port p).hostile + 1 → Does (.authTimeout p) s (fun t => t.pst p = 8 ∧ (t.port p).sess = none ∧
      t.fld MOL_STATUS_HEAD_ABSENT p = 1 ∧ t.evtAt MOL_EVENT p 4))) ∧
  (∀ s : State, ∀ p < 6, s.whole → s.pst p = 4 → (s.port p).nd = none → 1250000 ≤ s.rnd.clk - (s.port p).since →
    Does (.authTimeout p) s (fun t => t.pst p = 1 ∧ (t.port p).sess = none ∧ t.fld MOL_CNT_HOST_AUTH p = s.fld MOL_CNT_HOST_AUTH p)) ∧
  (∀ s : State, ∀ p < 6, ∀ n a, s.whole → (s.pst p = 4 ∨ s.pst p = 7) → (s.port p).nd = some (n, a) → 1250000 ≤ s.rnd.clk - a →
    (s.port p).resp = true →
    Does (.authTimeout p) s (fun t => t.pst p = 1 ∧ (t.port p).sess = none ∧ t.fld MOL_CNT_HOST_AUTH p = s.fld MOL_CNT_HOST_AUTH p)) ∧
  (∀ s : State, ∀ p < 6, (s.pst p ≠ 4 ∧ s.pst p ≠ 7 ∨ (∃ n a, (s.port p).nd = some (n, a) ∧ s.rnd.clk - a < 1250000) ∨
      (s.port p).nd = none ∧ (s.pst p = 7 ∨ s.rnd.clk - (s.port p).since < 1250000)) → exec (.authTimeout p) s = .next s) ∧
  (∀ s : State, ∀ p < 6, s.whole → (s.port p).echo = none →
    (s.pst p = 5 ∨ ((s.pst p = 6 ∨ s.pst p = 7) ∧ s.live MOL_CFG_ECHO_DIV p ≤ (s.port p).echoRnd)) →
    Does (.echoTx p) s (fun t => (t.port p).echo = some ((s.port p).echoSeq, s.rnd.clk) ∧ (t.port p).echoSeq = ((s.port p).echoSeq + 1) % 256 ∧
      (t.port p).echoRnd = 0 ∧ (t.port p).lastTx.getD 2 0 % 16 = 2 ∧ (t.port p).lastTx.getD 5 0 = (s.port p).echoSeq % 256 ∧
      ((t.port p).lastTx.drop 8).take 8 = toBytes 8 s.rnd.clk ∧ t.regs = s.regs)) ∧
  (∀ s : State, ∀ p < 6, ((s.port p).echo.isSome = true ∨ s.pst p < 5 ∨ 7 < s.pst p ∨
    s.pst p ≠ 5 ∧ (s.port p).echoRnd < s.live MOL_CFG_ECHO_DIV p) → exec (.echoTx p) s = .next s) ∧
  (∀ s : State, ∀ p < 6, ∀ q n, s.whole → (s.port p).echo = some (q, n) → 16000 ≤ s.rnd.clk - n → Does (.echoTimeout p) s (fun t =>
    (t.port p).echo = none ∧ t.regs = s.regs)) ∧
  (∀ s : State, ∀ p < 6, (∀ q n, (s.port p).echo = some (q, n) → s.rnd.clk - n < 16000) → exec (.echoTimeout p) s = .next s) ∧
  (∀ s : State, ∀ p < 6, s.whole → s.pst p = 7 → 0 < (s.port p).cadences → Does (.cadenceTx p) s (fun t =>
    (t.port p).cadences = (s.port p).cadences - 1 ∧
    (t.port p).t0 = some ((s.port p).t0.getD (s.rnd.clk + (s.fld MOL_LAT_FWD p + 2) / 4)) ∧ (t.port p).lastTx.getD 2 0 % 16 = 1 ∧
    ((t.port p).lastTx.drop 8).take 8 = toBytes 8 (s.rnd.clk + (s.fld MOL_LAT_FWD p + 2) / 4) ∧ t.regs = s.regs)) ∧
  (∀ s : State, ∀ p < 6, (s.pst p ≠ 7 ∨ (s.port p).cadences = 0) → exec (.cadenceTx p) s = .next s) ∧
  (∀ s : State, ∀ p < 6, ∀ a, s.whole → s.pst p = 7 → (s.port p).chalWait = some a → s.live MOL_TMO_CRED_TMO p ≤ s.absStitch - a →
    Does (.outboundCreditTimeout p) s (fun t => (t.port p).chalWait = none ∧ (t.port p).confWait = (s.port p).confWait ∧
      t.fld MOL_CNT_DROP_OUT p = s.counted MOL_CNT_DROP_OUT p ∧ t.evtAt MOL_EVENT p 7 ∧
      sameRegsBut ([MOL_CNT_DROP.at p, MOL_EVENT.at p] ++ reportRegs) s t)) ∧
  (∀ s : State, ∀ p < 6, ∀ k nd nh a, s.whole → s.pst p = 7 → (s.port p).chalWait = none → (s.port p).confWait = some (k, nd, nh, a) →
    s.live MOL_TMO_CRED_TMO p ≤ s.absStitch - a → Does (.outboundCreditTimeout p) s (fun t => (t.port p).confWait = none ∧
      t.fld MOL_CNT_DROP_OUT p = s.counted MOL_CNT_DROP_OUT p ∧ t.evtAt MOL_EVENT p 7 ∧
      sameRegsBut ([MOL_CNT_DROP.at p, MOL_EVENT.at p] ++ reportRegs) s t)) ∧
  (∀ s : State, ∀ p < 6, ∀ g l a, s.pst p = 7 → (s.port p).chalWait = none → (s.port p).confWait = none → s.fbr.segs = g :: l →
    (g.st = 0 ∨ g.st = 2 ∧ (s.port p).credits = 0) → g.port = p → g.since = some a → s.live MOL_TMO_CRED_TMO p ≤ s.absStitch - a → g.win < 16 →
    g.read = false → s.fbr.log.length < 32 → Does (.outboundCreditTimeout p) s (fun t => t.fbr.segs = l.filter (fun x => decide (x.id ≠ g.id)) ∧
      t.fbr.log.length = s.fbr.log.length + 1 ∧ (∀ e ∈ t.fbr.log.getLast?, nbits e.e0 4 5 = 5) ∧
      t.fld MOL_CNT_DROP_OUT p = s.counted MOL_CNT_DROP_OUT p ∧ t.evtAt MOL_EVENT p 7)) ∧
  (∀ s : State, ∀ p < 6, (s.pst p ≠ 7 ∨
      (∀ a, (s.port p).chalWait = some a → s.absStitch - a < s.live MOL_TMO_CRED_TMO p) ∧
      (∀ k nd nh a, (s.port p).confWait = some (k, nd, nh, a) → s.absStitch - a < s.live MOL_TMO_CRED_TMO p) ∧
      (∀ g ∈ s.fbr.segs, g.port = p → ∀ a, g.since = some a → s.absStitch - a < s.live MOL_TMO_CRED_TMO p)) →
    exec (.outboundCreditTimeout p) s = .next s) ∧
  (∀ s : State, ∀ p < 6, s.whole → s.pst p = 7 → (s.port p).sess.isSome = true → (s.port p).nd = none → (s.port p).chalWait = none →
    s.flag SEC_STATUS_RNGFAIL = false → (s.port p).credits = 0 → Does (.mcntRenewal p) s (fun t => (t.port p).chalWait = some s.absStitch ∧
      (t.port p).nd = none ∧ t.regs = s.regs)) ∧
  (∀ s : State, ∀ p < 6, s.whole → s.pst p = 7 → (s.port p).sess.isSome = true → (s.port p).nd = none → (s.port p).chalWait = none →
    0 < (s.port p).credits → s.flag SEC_STATUS_RNGFAIL = false → Does (.mcntRenewal p) s (fun t =>
      (t.port p).nd = some (BitVec.ofNat 96 (Config.random s.free).toNat, s.rnd.clk) ∧ (t.port p).credits = (s.port p).credits - 1 ∧
      (t.port p).lastTx.getD 2 0 % 16 = 8 ∧
      ((t.port p).lastTx.drop 8).take 12 = toBytes 12 (BitVec.ofNat 96 (Config.random s.free).toNat).toNat ∧
      t.free = s.free + 1 ∧ t.regs = s.regs)) ∧
  (∀ s : State, ∀ p < 6, (s.pst p ≠ 7 ∨ (s.port p).sess = none ∨ (s.port p).nd.isSome = true ∨ (s.port p).chalWait.isSome = true ∨
    s.flag SEC_STATUS_RNGFAIL = true) → exec (.mcntRenewal p) s = .next s)

/-- Messages from a head (R107, R109, R114, R117, R121 to R123, R128 to R130, R134, R378, R388): what is discarded, and what an accepted message does. The order of the checks behind `molReceive` is the model's choice (log entry 30). -/
def Obligations.PortMessages : Prop :=
  (∀ s : State, ∀ p < 6, ∀ f, s.whole → 2 ≤ s.pst p → s.pst p ≤ 7 → 16 ≤ (s.port p).tokens → Does (.moariMsgDiscard p f true) s (fun t =>
    t.fld MOL_CNT_LINK_FRAME p = s.counted MOL_CNT_LINK_FRAME p ∧ sameRegsBut [MOL_CNT_LINK.at p] s t ∧
    t.port p = { s.port p with tokens := (s.port p).tokens - 16 } ∧ ∀ q, q ≠ p → t.port q = s.port q)) ∧
  (∀ s : State, ∀ p < 6, ∀ f b, s.whole → 2 ≤ s.pst p → s.pst p ≤ 7 → (s.port p).tokens < 16 →
    (s.port p).hostile + 1 < s.live MOL_QCFG_QTHR p → Does (.moariMsgDiscard p f b) s (fun t =>
      t.fld MOL_CNT_HOST_RATE p = s.counted MOL_CNT_HOST_RATE p ∧ (t.port p).hostile = (s.port p).hostile + 1 ∧ t.pst p = s.pst p ∧
      (t.port p).tokens = (s.port p).tokens)) ∧
  (∀ s u : State, ∀ p < 6, ∀ f m, s.molReceive p f false = (u, some m) → m.type = 7 → m.aux = 1 → u.pst p = 2 →
    u.live MOL_CTRL_AUTH_REQ p = 0 → (u.live MOL_CTRL_M2_EN p = 0 → u.live MOL_CFG_RATE p ≤ 2) → Does (.capsReportRx p f) s (fun t =>
      t.regN MOL_SERIAL_LO p = fieldLE m.pay 0 4 ∧ t.fld MOL_CAPS_RXCRED p = m.pay.getD 13 0 % 2 ^ MOL_CAPS_RXCRED.w ∧
      (u.live MOL_CTRL_M2_EN p = 0 → t.pst p = 5) ∧
      (u.live MOL_CTRL_M2_EN p = 1 → (m.pay.getD 9 0).testBit 1 = true → u.fld MOL_STATUS_M2_FAILS p < 3 → t.pst p = 3))) ∧
  (∀ s u : State, ∀ p < 6, ∀ f m, s.molReceive p f false = (u, some m) → m.type = 7 → m.aux = 1 → u.pst p = 2 →
    u.live MOL_CTRL_AUTH_REQ p = 1 → (m.pay.getD 9 0).testBit 1 = false → Does (.capsReportRx p f) s (fun t => t.pst p = 9 ∧
      t.fld MOL_STATUS_BLK_CAUSE p = 1 ∧ t.evtAt MOL_EVENT p 10)) ∧
  (∀ s u : State, ∀ p < 6, ∀ f m nd a key, s.whole → s.molReceive p f false = (u, some m) → m.type = 8 → m.aux = 1 → u.pst p = 4 →
    (u.port p).nd = some (nd, a) → (u.port p).confWait = none → look u.sec.keys (u.live MOL_AUTH_KSLOT p) = some key → Does (.authRespRx p f) s (fun t =>
      if m.pay.drop 12 = molTag key (BitVec.ofNat 96 (2 * 2 ^ 88 + nd.toNat % 2 ^ 88))
          (m.hdr ++ toBytes 12 nd.toNat ++ m.pay.take 12 ++ toBytes 8 (u.molSerial p))
      then t.fld MOL_STATUS_AUTHED p = 1 ∧ t.pst p = 5 ∧ (t.port p).sess.isSome = true
      else t.fld MOL_CNT_HOST_AUTH p = u.counted MOL_CNT_HOST_AUTH p ∧ t.evtAt MOL_EVENT p 5)) ∧
  (∀ s u : State, ∀ p < 6, ∀ f m, s.molReceive p f false = (u, some m) → m.type = 9 → u.pst p = 6 → (u.port p).idGiven = true →
    fieldLE m.hdr 0 2 = (u.port p).base → (u.port p).base = u.fld MOL_IDBASE_BASE p → Does (.aliveRx p f) s (fun t => t.pst p = 7 ∧ t.fld MOL_STATUS_HEAD_ABSENT p = 0 ∧
      t.fld MOL_STATUS_GLOCK p = m.pay.getD 1 0 % 2 ∧ t.evtAt MOL_EVENT p 0)) ∧
  (∀ s u : State, ∀ p < 6, ∀ f m, s.whole → s.molReceive p f false = (u, some m) → m.type = 9 → u.pst p = 7 → (u.port p).chalWait = none →
    (u.port p).confWait = none →
    Does (.aliveRx p f) s (fun t => (t.port p).credits = (u.port p).credits + m.pay.getD 0 0 ∧ (t.port p).alive = u.absStitch ∧
      t.fld MOL_STATUS_GLOCK p = m.pay.getD 1 0 % 2 ∧ t.pst p = 7)) ∧
  (∀ s u : State, ∀ p < 6, ∀ f m, s.molReceive p f false = (u, some m) → m.type = 0 → u.pst p = 7 → Does (.sampleRx p f false) s (fun t =>
    t.fld MOL_CNT_DROP_IN p = u.counted MOL_CNT_DROP_IN p ∧ t.evtAt MOL_EVENT p 6 ∧ t.wfm = u.wfm)) ∧
  (∀ s u : State, ∀ p < 6, ∀ f m, s.whole → s.molReceive p f false = (u, some m) → m.type = 0 → u.pst p = 7 → look (u.port p).expect (m.sub - 8) = none →
    Does (.sampleRx p f true) s (fun t => look (t.port p).expect (m.sub - 8) = some (fieldLE m.pay 0 4 + m.pay.getD 5 0) ∧
      t.fld MOL_CNT_DROP_IN p = u.fld MOL_CNT_DROP_IN p ∧ t.fld MOL_CNT_SAMP_GAP p = u.fld MOL_CNT_SAMP_GAP p)) ∧
  (∀ s u : State, ∀ p < 6, ∀ f m q n x, s.whole → s.molReceive p f false = (u, some m) → m.type = 2 → (u.port p).echo = some (q, n) → m.aux = q →
    fieldLE m.pay 0 8 = n → u.rnd.clk - n ≤ 16000 → u.pst p = 5 → (u.port p).fwd = [] → (u.port p).calib = 0 →
    ((4 * (u.rnd.clk - n) : Nat) : Int) - (fieldLE m.pay 8 4 : Nat) + sInt 16 (u.live MOL_ASYM_ASYM p) = 2 * x →
    Does (.echoReplyRx p f 0) s (fun t => t.fld MOL_LAT_FWD p = uInt 16 x ∧ (t.port p).echo = none ∧ (t.port p).calib = 1 ∧ t.pst p = 5)) ∧
  (∀ s u : State, ∀ p < 6, ∀ f m a i, s.molReceive p f false = (u, some m) → m.type = 6 → u.pst p = 7 → (∀ x ∈ u.fbr.ints, x.port ≠ p) →
    (∀ x ∈ u.fbr.mails, x.port ≠ p) → u.routesFor p (fieldLE m.hdr 0 2) = [i] → u.fld FBR_RTDST_KIND i = 0 → Does (.intRx p f a) s (fun t =>
      t.regN FBR_HDATA p (m.aux % 32) = fieldLE m.pay 0 4 ∧ t.evtAt FBR_HINT p (m.aux % 32))) ∧
  (∀ s u : State, ∀ p < 6, ∀ f m g i, s.molReceive p f false = (u, some m) → m.type = 5 → u.pst p = 7 → m.pay.length = 4 → m.pay.getD 0 0 = 0 →
    u.routesFor p (fieldLE m.hdr 0 2) = [i] → (u.port p).chalWait = none → u.tagged p m.aux = some g → g.read = false →
    u.rnd.clk - g.sent < u.ackTmo →
    Does (.regackRx p f) s (fun t => t.fbr.segs = u.fbr.segs.filter (fun x => decide (x.id ≠ g.id)) ∧ t.fbr.log = u.fbr.log)) ∧
  (∀ s u : State, ∀ p < 6, ∀ f m g, s.whole → s.molReceive p f false = (u, some m) → m.type = 5 → u.pst p = 7 → m.pay.length = 4 →
    u.tagged p m.aux = some g → g.read = false → u.ackTmo ≤ u.rnd.clk - g.sent → Does (.regackRx p f) s (fun t =>
      t.fbr.segs = u.fbr.segs.filter (fun x => decide (x.id ≠ g.id)) ∧ t.fld FBR_CNT_LATEACK = u.counted FBR_CNT_LATEACK ∧ t.evt FBR_EVENT 2)) ∧
  (∀ s u : State, ∀ p < 6, ∀ f m i, s.molReceive p f false = (u, some m) → m.type = 5 → u.pst p = 7 → u.routesFor p (fieldLE m.hdr 0 2) = [i] →
    u.tagged p m.aux = none → Does (.regackRx p f) s (fun t => t.fbr.segs = u.fbr.segs ∧
      t.fld FBR_CNT_LATEACK = u.counted FBR_CNT_LATEACK ∧ t.evt FBR_EVENT 2))

/-- Accesses through BAR4 (R373 to R376, R379, R384): what is accepted joins the segments in order, what is not is logged, and with Memory Space
Enable 0 nothing is reached (R339). -/
def Obligations.BridgeAccesses : Prop :=
  (∀ s : State, s.hif.mse = false → ∀ w < 16, ∀ o bs be, o < 2 ^ 20 → ∀ c ∈ [Instr.bar4Write (w * 2 ^ 20 + o) bs, .bar4Read (w * 2 ^ 20 + o) be],
    exec c s = .next { s with resp := { rq := .host, st := 2, poison := false, data := [] } }) ∧
  (∀ s : State, ∀ w < 16, ∀ o b0 b1 b2 b3, s.hif.mse = true → o % 4 = 0 → o + 4 ≤ 2 ^ 20 → s.winOn w = true → s.live FBR_WCFG_LANE w ≠ 2 → s.liveN FBR_WBASE w % 4 = 0 →
    s.flag FBR_WSTAT_CWAIT w = false → s.fbr.segs.countP (fun g => !g.read) < 64 →
    (s.winSegs w).countP (fun g => !g.read) ≤ s.live FBR_WCFG_WDEPTH w →
    Does (.bar4Write (w * 2 ^ 20 + o) [(b0, true), (b1, true), (b2, true), (b3, true)]) s (fun t =>
      t.fbr.segs = s.fbr.segs ++ [
        { id := s.fbr.nextId, win := w, wseq := s.nextWseq w, read := false, route := false,
          hid := s.live FBR_WCFG_HID w, addr := (s.liveN FBR_WBASE w + o) % 2 ^ 32, data := [b0, b1, b2, b3], len := 4, acc := s.rnd.clk }] ∧
      t.nextWseq w = (s.nextWseq w + 1) % 65536 ∧ t.fbr.log = s.fbr.log ∧
      sameRegsBut (FBR_OCC.base :: (List.range 16).map (fun v => FBR_WSTAT.at v)) s t)) ∧
  (∀ s : State, ∀ w < 16, ∀ o bs, s.hif.mse = true → o < 2 ^ 20 → s.winOn w = true → s.flag FBR_WSTAT_CWAIT w = true → s.fbr.log.length < 32 →
    Does (.bar4Write (w * 2 ^ 20 + o) bs) s (fun t => t.fbr.segs = s.fbr.segs ∧ t.fbr.log.length = s.fbr.log.length + 1 ∧
      (∀ e ∈ t.fbr.log.getLast?, nbits e.e0 4 5 = 12 ∧ nbits e.e0 9 1 = 0) ∧ t.fld FBR_WCNT_ERRS w = s.counted FBR_WCNT_ERRS w ∧ t.evt FBR_EVENT 0)) ∧
  (∀ s : State, ∀ w < 16, ∀ o bs, s.hif.mse = true → o < 2 ^ 20 → s.winOn w = false → s.fld HIF_ACCERR_VALID = 0 → Does (.bar4Write (w * 2 ^ 20 + o) bs) s (fun t =>
    t.fbr = s.fbr ∧ t.fld HIF_ACCERR_VALID = 1 ∧ t.fld HIF_ACCERR_CAUSE = 3 ∧ t.fld HIF_ACCERR_WRITE = 1 ∧ t.evt HIF_EVENT 0)) ∧
  (∀ s : State, ∀ w < 16, ∀ o, s.hif.mse = true → o % 4 = 0 → o + 4 ≤ 2 ^ 20 → s.winOn w = true → s.live FBR_WCFG_LANE w ≠ 2 → s.liveN FBR_WBASE w % 4 = 0 →
    s.flag FBR_WSTAT_CWAIT w = false → s.winBlocked w = false → s.fbr.segs.countP (fun g => g.read) < 16 →
    Does (.bar4Read (w * 2 ^ 20 + o) [true, true, true, true]) s (fun t =>
      t.fbr.segs = s.fbr.segs ++ [
        { id := s.fbr.nextId, win := w, wseq := s.nextWseq w, read := true, route := false,
          hid := s.live FBR_WCFG_HID w, addr := (s.liveN FBR_WBASE w + o) % 2 ^ 32, data := [], len := 4, acc := s.rnd.clk,
          ofs := [o, o + 1, o + 2, o + 3] }] ∧ t.nextWseq w = s.nextWseq w ∧ t.fbr.log = s.fbr.log ∧ t.resp = s.resp)) ∧
  (∀ s : State, ∀ w < 16, ∀ o, s.hif.mse = true → o % 4 = 0 → o + 4 ≤ 2 ^ 20 → s.winOn w = true → s.flag FBR_WSTAT_CWAIT w = false → s.winBlocked w = true →
    s.fbr.log.length < 32 → s.flag HIF_CTRL_SLVERR_EN = false → Does (.bar4Read (w * 2 ^ 20 + o) [true, true, true, true]) s (fun t =>
      t.fbr.segs = s.fbr.segs ∧ t.fbr.log.length = s.fbr.log.length + 1 ∧ (∀ e ∈ t.fbr.log.getLast?, nbits e.e0 4 5 = 9 ∧ nbits e.e0 9 1 = 1) ∧
      t.resp = { rq := .host, st := 0, data := [0xFF, 0xFF, 0xFF, 0xFF] })) ∧
  (∀ s : State, ∀ w < 16, ∀ o be, s.hif.mse = true → o < 2 ^ 20 → s.winOn w = false → s.fld HIF_ACCERR_VALID = 0 → s.flag HIF_CTRL_SLVERR_EN = true →
    Does (.bar4Read (w * 2 ^ 20 + o) be) s (fun t => t.fbr = s.fbr ∧ t.fld HIF_ACCERR_CAUSE = 3 ∧ t.fld HIF_ACCERR_WRITE = 0 ∧
      t.resp = { rq := .host, st := 1, data := [] })) ∧
  (∀ s : State, ∀ rq e l, s.reaches rq FBR_ELOG0.base → s.fbr.log = e :: l → (rq = .debug → s.flag DBG_CTRL_SIDEFX = true) → Does (.fbrElogPop rq) s (fun t =>
    t.fbr.log = l ∧ t.resp = { rq := rq, st := 0, data := toBytes 4 (s.regN FBR_ELOG0) } ∧ look t.fbr.elatch (2 * reqCode rq) = some e.e1 ∧
    look t.fbr.elatch (2 * reqCode rq + 1) = some e.e2 ∧ t.regN FBR_ELOG0 = ((l.head?).map (·.e0)).getD 0 % 2 ^ 32 ∧ sameRegsBut [FBR_ELOG0.base] s t)) ∧
  (∀ s : State, ∀ e l, s.fbr.log = e :: l → s.flag DBG_CTRL_SIDEFX = false → Does (.fbrElogPop .debug) s (fun t => t.fbr.log = s.fbr.log)) ∧
  (∀ s : State, ∀ rq, s.reaches rq FBR_ELOG0.base → s.fbr.log = [] → Does (.fbrElogPop rq) s (fun t => t = s.respond rq 0 (toBytes 4 (s.regN FBR_ELOG0)))) ∧
  (∀ s : State, ∀ mask, s.reaches .host FBR_ERRACK.base → Does (.fbrErrackWrite mask) s (fun t =>
    (∀ w < 16, t.fld FBR_WSTAT_BLOCKED w = if mask.testBit w then 0 else s.fld FBR_WSTAT_BLOCKED w) ∧ t.fbr = s.fbr ∧
    sameRegsBut (FBR_STATUS.base :: (List.range 16).map (fun w => FBR_WSTAT.at w)) s t)) ∧
  (∀ s : State, ∀ w < 16, s.reaches .host (FBR_WCTRL.at w) → Does (.fbrWindowFlush w) s (fun t => t.fld FBR_WCTRL_FLUSH w = 0 ∧
    (∀ g, g ∈ t.fbr.segs ↔ g ∈ s.fbr.segs ∧ ¬ (g.win = w ∧ g.read = false ∧ g.st = 0)) ∧
    t.fld FBR_WSTAT_FLUSHSEQ w = (((s.winSegs w).find? (fun g => !g.read && decide (g.st = 0))).map (·.wseq)).getD (s.nextWseq w) % 65536 ∧
    t.fbr.log = s.fbr.log))

/-- Segments between their window and their head, and routes (R377, R378, R380, R382, R385, R387, R389). That a command whose condition is not met
leaves the machine as it is, is the model's choice (log entry 2). -/
def Obligations.BridgeSegments : Prop :=
  (∀ s : State, ∀ hid g p, s.whole → s.nextSeg hid s.fbr.segs = some g → s.resolve g.hid = .inl p → (g.read = true → s.rnd.clk - g.acc < s.rdTmo) → 0 < (s.port p).credits →
    Does (.segmentDispatch hid) s (fun t => (t.port p).credits = (s.port p).credits - 1 ∧
      (∀ x ∈ t.fbr.segs, x.id = g.id → x.st = 1 ∧ x.port = p ∧ x.sent = s.rnd.clk) ∧
      (∀ x, x.id ≠ g.id → (x ∈ t.fbr.segs ↔ x ∈ s.fbr.segs)) ∧ t.fbr.log = s.fbr.log)) ∧
  (∀ s : State, ∀ hid g p, s.nextSeg hid s.fbr.segs = some g → s.resolve g.hid = .inl p → (g.read = true → s.rnd.clk - g.acc < s.rdTmo) → (s.port p).credits = 0 → g.since = none →
    Does (.segmentDispatch hid) s (fun t => t.regs = s.regs ∧ t.ports = s.ports ∧
      (∀ x ∈ t.fbr.segs, x.id = g.id → x.port = p ∧ x.since = some s.absStitch))) ∧
  (∀ s : State, ∀ hid g c, s.nextSeg hid s.fbr.segs = some g → g.win < 16 → s.resolve g.hid = .inr c → c < 32 → s.fbr.log.length < 32 →
    Does (.segmentDispatch hid) s (fun t => t.fbr.segs = s.fbr.segs.filter (fun x => decide (x.id ≠ g.id)) ∧
      t.fbr.log.length = s.fbr.log.length + 1 ∧ (∀ e ∈ t.fbr.log.getLast?, nbits e.e0 4 5 = c))) ∧
  (∀ s : State, ∀ hid g p, s.nextSeg hid s.fbr.segs = some g → g.win < 16 → s.resolve g.hid = .inl p → g.read = true →
    s.rdTmo ≤ s.rnd.clk - g.acc → s.fbr.log.length < 32 → Does (.segmentDispatch hid) s (fun t =>
      t.fbr.segs = s.fbr.segs.filter (fun x => decide (x.id ≠ g.id)) ∧ (∀ e ∈ t.fbr.log.getLast?, nbits e.e0 4 5 = 10))) ∧
  (∀ s : State, ∀ hid p, s.flag MOL_IDBASE_ADMITTED p = true → p < 6 → s.fld MOL_IDBASE_BASE p + 1 = hid →
    (∀ q < p, ¬ (s.flag MOL_IDBASE_ADMITTED q = true ∧ s.fld MOL_IDBASE_BASE q + 1 = hid)) →
    s.resolve hid = (if s.pst p = 7 then .inl p else if s.pst p = 8 ∨ s.flag MOL_STATUS_QHELD p = true then .inr 7 else .inr 6)) ∧
  (∀ s : State, ∀ g h, s.fbr.segs = [g, h] → g.st = 1 → h.win = g.win → g.id < h.id → h.hid = g.hid → h.read = false → h.st = 0 →
    g.read = false → s.winStrict g.win = true → exec (.segmentDispatch g.hid) s = .next s) ∧
  (∀ s : State, ∀ p < 6, ∀ g l, s.fbr.segs = g :: l → g.win < 16 → g.st = 1 → g.port = p → s.ackTmo ≤ s.rnd.clk - g.sent → g.read = false →
    s.winStrict g.win = true → s.fbr.log.length < 32 → Does (.regackTimeout p) s (fun t => t.fbr.segs = l.filter (fun x => decide (x.id ≠ g.id)) ∧
      t.fbr.log.length = s.fbr.log.length + 1 ∧ (∀ e ∈ t.fbr.log.getLast?, nbits e.e0 4 5 = 4) ∧ t.fld FBR_WSTAT_BLOCKED g.win = 1 ∧
      (p, g.tag, s.rnd.clk + s.ackTmo) ∈ t.fbr.heldTags)) ∧
  (∀ s : State, ∀ p < 6, (∀ g ∈ s.fbr.segs, g.st = 1 → g.port = p → s.rnd.clk - g.sent < s.ackTmo) → exec (.regackTimeout p) s = .next s) ∧
  (∀ s : State, ∀ p < 6, ∀ g l a q, s.whole → s.fbr.segs = g :: l → g.st = 2 → g.port = p → g.since = some a → a ≤ s.absStitch →
    s.resolve g.hid = .inl q → (g.read = true → s.rnd.clk - g.acc < s.rdTmo) → 0 < (s.port q).credits → Does (.busyRetry p) s (fun t => (t.port q).credits = (s.port q).credits - 1 ∧
      (∀ x ∈ t.fbr.segs, x.id = g.id → x.st = 1 ∧ x.port = q ∧ x.sent = s.rnd.clk))) ∧
  (∀ s : State, ∀ g l, s.fbr.segs = g :: l → g.win < 16 → g.read = true → s.rdTmo ≤ s.rnd.clk - g.acc → s.fbr.log.length < 32 →
    s.flag HIF_CTRL_SLVERR_EN = false → Does .readTimeout s (fun t => t.fbr.segs = l.filter (fun x => decide (x.id ≠ g.id)) ∧
      (∀ e ∈ t.fbr.log.getLast?, nbits e.e0 4 5 = 10) ∧ t.resp = { rq := g.rq, st := 0, data := List.replicate g.ofs.length 0xFF })) ∧
  (∀ s : State, (∀ g ∈ s.fbr.segs, g.read = true → s.rnd.clk - g.acc < s.rdTmo) → exec .readTimeout s = .next s) ∧
  (∀ s : State, ∀ rq, ∀ i < 256, ∀ key v : Word, look s.stage (FBR_RTKEY.at i + 2 ^ 28 * reqCode rq) = some key → routeBad key.toNat v.toNat = 0 → s.reaches rq (FBR_RTDST.at i) →
    Does (.routeWrite rq i v) s (fun t => t.reg (FBR_RTKEY.at i) = key ∧ t.reg (FBR_RTDST.at i) = v ∧
      sameRegsBut [FBR_RTKEY.at i, FBR_RTDST.at i] s t)) ∧
  (∀ s : State, ∀ rq, ∀ i < 256, ∀ key v : Word, look s.stage (FBR_RTKEY.at i + 2 ^ 28 * reqCode rq) = some key → routeBad key.toNat v.toNat ≠ 0 → s.reaches rq (FBR_RTDST.at i) →
    Does (.routeWrite rq i v) s (fun t => t.fld FBR_STATUS_RTCAUSE = routeBad key.toNat v.toNat ∧ t.fld FBR_STATUS_RTIDX = i ∧ t.evt FBR_EVENT 4 ∧
      sameRegsBut ([FBR_STATUS.base, FBR_EVENT.base] ++ reportRegs) s t)) ∧
  (∀ s : State, ∀ p < 6, ∀ m l, s.fbr.mails = m :: l → m.port = p → s.coreDropped m.core = false → (∀ x ∈ s.fbr.ints, x.port ≠ p) →
    s.hubUnacked m.core 1 = false → s.sendBehind 34 m.core 1 s.mesh.num = false →
    s.sendBehind 34 (fileNode (s.fld FBR_RTDST_MRK m.route)) 3 s.mesh.num = false →
    s.dieDropped (markerDie (s.fld FBR_RTDST_MRK m.route)) = false → (∀ w ∈ s.mesh.waiters, w.marker ≠ s.fld FBR_RTDST_MRK m.route) →
    Does (.mailboxCommit p) s (fun t => t.fbr.mails = l ∧ t.data = (s.putData m.core (m.addr + 60) (toBytes 4 m.n)).data ∧
      t.mval (s.fld FBR_RTDST_MRK m.route) = min (s.mval (s.fld FBR_RTDST_MRK m.route) + 1) (2 ^ 32 - 1))) ∧
  (∀ s : State, ∀ p < 6, (∀ m ∈ s.fbr.mails, m.port ≠ p) → exec (.mailboxCommit p) s = .next s)

/-- Marker operations of a core (R226, Table 9.7) that reach a working file: VALUE, OWNER and the answer in the core's slot.
That the lease of a halted core's new marker starts frozen is the model's reading (log entry 110). -/
def Obligations.MarkerOperations : Prop :=
  (∀ s : State, ∀ n < 32, ∀ g k a w o, g < 32 → s.markerReq n g 0 = some (k, a, w, o) → s.dieDropped (markerDie k) = false → s.markerBehind n k o = false → s.sendBehind n (fileNode k) 3 s.mesh.num = false →
    Does (.markerRead n g) s (fun t => (t.slot n g).answer = some (0, s.mval k, s.mowner k) ∧ t.regs = s.regs)) ∧
  (∀ s : State, ∀ n < 32, ∀ g k a w o, g < 32 → k < 256 → s.markerReq n g 1 = some (k, a, w, o) → s.dieDropped (markerDie k) = false →
    s.markerBehind n k o = false → s.sendBehind n (fileNode k) 3 s.mesh.num = false → (s.core n).unacked o = false → s.calm k → s.mowner k = noOwner ∨ s.mowner k = n →
    Does (.markerSet n g) s (fun t => t.mval k = a % 2 ^ 32 ∧ t.mowner k = s.mowner k ∧ (t.slot n g).answer = some (0, a % 2 ^ 32, s.mowner k) ∧
      sameRegsBut [MRK_VAL.at k, MRK_STAT.at k] s t)) ∧
  (∀ s : State, ∀ n < 32, ∀ g k a w o, g < 32 → s.markerReq n g 1 = some (k, a, w, o) → s.dieDropped (markerDie k) = false →
    s.markerBehind n k o = false → s.sendBehind n (fileNode k) 3 s.mesh.num = false → (s.core n).unacked o = false → s.mowner k ≠ noOwner → s.mowner k ≠ n →
    Does (.markerSet n g) s (fun t => (t.slot n g).answer = some (2, s.mval k, s.mowner k) ∧ t.regs = s.regs)) ∧
  (∀ s : State, ∀ n < 32, ∀ g k a w o, g < 32 → k < 256 → s.markerReq n g 2 = some (k, a, w, o) → s.dieDropped (markerDie k) = false →
    s.markerBehind n k o = false → s.sendBehind n (fileNode k) 3 s.mesh.num = false → (s.core n).unacked o = false → s.calm k → Does (.markerAdd n g) s (fun t =>
      t.mval k = min (s.mval k + a) (2 ^ 32 - 1) ∧ t.mowner k = s.mowner k ∧ (2 ^ 32 ≤ s.mval k + a → t.fld MRK_STAT_OVF k = 1 ∧ t.evt MRK_EVENT 2) ∧
      (s.mval k + a < 2 ^ 32 → sameRegsBut [MRK_VAL.at k, MRK_STAT.at k] s t))) ∧
  (∀ s : State, ∀ n < 32, ∀ g k a w o, g < 32 → k < 256 → s.markerReq n g 3 = some (k, a, w, o) → s.dieDropped (markerDie k) = false →
    s.markerBehind n k o = false → s.sendBehind n (fileNode k) 3 s.mesh.num = false → s.calm k → a ≤ s.mval k → Does (.markerTake n g) s (fun t => t.mval k = s.mval k - a ∧ t.mowner k = s.mowner k ∧
      (t.slot n g).answer = some (0, s.mval k - a, s.mowner k))) ∧
  (∀ s : State, ∀ n < 32, ∀ g k a w o, g < 32 → k < 256 → s.markerReq n g 3 = some (k, a, w, o) → s.dieDropped (markerDie k) = false →
    s.markerBehind n k o = false → s.sendBehind n (fileNode k) 3 s.mesh.num = false → s.mval k < a → w = 0 → Does (.markerTake n g) s (fun t => (t.slot n g).answer = some (1, s.mval k, s.mowner k) ∧
      t.regs = s.regs)) ∧
  (∀ s : State, ∀ n < 32, ∀ g k a w o, g < 32 → k < 256 → s.markerReq n g 3 = some (k, a, w, o) → s.dieDropped (markerDie k) = false →
    s.markerBehind n k o = false → s.sendBehind n (fileNode k) 3 s.mesh.num = false → s.mval k < a → 0 < w → w < 0xFFFF → Does (.markerTake n g) s (fun t => (t.slot n g).waits = true ∧
      (t.slot n g).answer = none ∧ t.mesh.waiters = s.mesh.waiters ++ [⟨k, n, g, 3, a, some (s.rnd.clk + 250 * w)⟩] ∧ sameRegsBut [MRK_STAT.at k] s t)) ∧
  (∀ s : State, ∀ n < 32, ∀ g k a w o, g < 32 → k < 256 → s.markerReq n g 4 = some (k, a, w, o) → s.dieDropped (markerDie k) = false →
    s.markerBehind n k o = false → s.sendBehind n (fileNode k) 3 s.mesh.num = false → s.calm k → a ≤ s.mval k → Does (.markerWaitge n g) s (fun t => t.mval k = s.mval k ∧
      (t.slot n g).answer = some (0, s.mval k, s.mowner k))) ∧
  (∀ s : State, ∀ n < 32, ∀ g k a w o, g < 32 → k < 256 → s.markerReq n g 5 = some (k, a, w, o) → s.dieDropped (markerDie k) = false →
    s.markerBehind n k o = false → s.sendBehind n (fileNode k) 3 s.mesh.num = false → s.calm k → s.mowner k = noOwner → Does (.markerAcquire n g) s (fun t => t.mowner k = n ∧ t.mval k = s.mval k ∧
      (t.slot n g).answer = some (0, s.mval k, n) ∧
      (0 < s.fld MRK_CFG_LEASE k → (s.core n).halted = false →
        ∃ l ∈ t.mesh.leases, l.marker = k ∧ l.till = s.rnd.clk + 250 * s.fld MRK_CFG_LEASE k ∧ l.frozen = false) ∧
      (0 < s.fld MRK_CFG_LEASE k → (s.core n).halted = true → t.fld MRK_STAT_HFRZ k = 1 ∧
        ∃ l ∈ t.mesh.leases, l.marker = k ∧ l.till = 250 * s.fld MRK_CFG_LEASE k ∧ l.frozen = true))) ∧
  (∀ s : State, ∀ n < 32, ∀ g k a w o, g < 32 → k < 256 → s.markerReq n g 6 = some (k, a, w, o) → s.dieDropped (markerDie k) = false →
    s.markerBehind n k o = false → s.sendBehind n (fileNode k) 3 s.mesh.num = false → (s.core n).unacked o = false → s.calm k → s.mowner k = n → Does (.markerRelease n g) s (fun t => t.mowner k = noOwner ∧
      t.mval k = min (s.mval k + a) (2 ^ 32 - 1) ∧ (∀ l ∈ t.mesh.leases, l.marker ≠ k))) ∧
  (∀ s : State, ∀ n < 32, ∀ g k a w o, g < 32 → s.markerReq n g 7 = some (k, a, w, o) → s.dieDropped (markerDie k) = false →
    s.markerBehind n k o = false → s.sendBehind n (fileNode k) 3 s.mesh.num = false → (s.core n).unacked o = false → Does (.markerReset n g) s (fun t =>
      (t.slot n g).answer = some (5, s.mval k, s.mowner k) ∧ t.regs = s.regs))

/-- The HOP requesters, waits, leases (R219, R227, R228, R230): operations of host, Hub Controller and debug port, and what time brings. That a
command whose condition is not met leaves the machine as it is, is the model's choice (log entry 2). -/
def Obligations.MarkerTimes : Prop :=
  (∀ s : State, ∀ rq v, s.reaches rq MRK_HOPCMD.base → (s.reg (hopCopy rq.node MRK_HOPRES)).toNat.testBit 30 = false → Does (.mrkHopcmdWrite rq v) s (fun t =>
    t.mesh.hops = s.mesh.hops ++ [{ node := rq.node, marker := v % 256, op := nbits v 8 3, arg := (s.reg (hopCopy rq.node MRK_HOPARG)).toNat }] ∧
    (t.reg (hopCopy rq.node MRK_HOPRES)).toNat.testBit 30 = true ∧ (t.reg (hopCopy rq.node MRK_HOPRES)).toNat.testBit 31 = false ∧
    sameRegsBut [hopCopy rq.node MRK_HOPRES] s t)) ∧
  (∀ s : State, ∀ rq v, s.reaches rq MRK_HOPCMD.base → (s.reg (hopCopy rq.node MRK_HOPRES)).toNat.testBit 30 = true → Does (.mrkHopcmdWrite rq v) s (fun t =>
    t.mesh.hops = s.mesh.hops ∧ (t.reg (hopCopy rq.node MRK_HOPRES)).toNat.testBit 29 = true ∧ sameRegsBut [hopCopy rq.node MRK_HOPRES] s t)) ∧
  (∀ s : State, ∀ n ∈ [35, 36, 37], ∀ g h, s.hopReq n 7 = some h → h.node = n → h.marker < 256 → s.dieDropped (markerDie h.marker) = false →
    s.held n (fileNode h.marker) = false → s.calm h.marker →
    Does (.markerReset n g) s (fun t => t.mval h.marker = h.arg % 2 ^ 32 ∧ t.mowner h.marker = noOwner ∧ (∀ x ∈ t.mesh.hops, x.node ≠ n) ∧
      (t.reg (hopCopy n MRK_HOPRES)).toNat.testBit 30 = false ∧ (t.reg (hopCopy n MRK_HOPRES)).toNat.testBit 31 = true ∧
      bits (t.reg (hopCopy n MRK_HOPRES)) 0 4 = 0)) ∧
  (∀ s : State, ∀ n ∈ [35, 36, 37], ∀ g h, s.hopReq n 5 = some h → h.node = n → h.marker < 256 → s.dieDropped (markerDie h.marker) = false →
    s.held n (fileNode h.marker) = false → s.mowner h.marker ≠ noOwner → s.mowner h.marker ≠ n → Does (.markerAcquire n g) s (fun t => t.mowner h.marker = s.mowner h.marker ∧
      bits (t.reg (hopCopy n MRK_HOPRES)) 0 4 = 1 ∧ (t.reg (hopCopy n MRK_HOPVAL)).toNat = s.mval h.marker ∧
      sameRegsBut [hopCopy n MRK_HOPRES, hopCopy n MRK_HOPVAL] s t)) ∧
  (∀ s : State, ∀ n < 32, ∀ g < 32, ∀ w l x, s.mesh.waiters = w :: l → w.node = n → w.tag = g → w.till = some x → x ≤ s.rnd.clk → (∀ y ∈ l, y.marker ≠ w.marker) →
    w.marker < 256 → (s.slot n g).op.isSome = true → Does (.markerWaitTimeout n g) s (fun t => t.mesh.waiters = l ∧
      (t.slot n g).answer = some (1, s.mval w.marker, s.mowner w.marker) ∧ t.fld MRK_CNT_TIMEOUT = s.counted MRK_CNT_TIMEOUT ∧
      t.fld MRK_STAT_WAITERS w.marker = 0)) ∧
  (∀ s : State, ∀ n < 32, ∀ g < 32, (∀ w ∈ s.mesh.waiters, w.node = n → w.tag = g → ∀ x, w.till = some x → s.rnd.clk < x) →
    exec (.markerWaitTimeout n g) s = .next s) ∧
  (∀ s : State, ∀ k < 256, ∀ l x, s.mesh.leases = x :: l → x.marker = k → x.frozen = false → x.till ≤ s.rnd.clk → s.calm k → Does (.leaseExpiry k) s (fun t =>
    t.mowner k = noOwner ∧ t.mval k = s.mval k ∧ t.fld MRK_CNT_FORCED = s.counted MRK_CNT_FORCED ∧ t.evt MRK_EVENT 0 ∧ (∀ y ∈ t.mesh.leases, y.marker ≠ k))) ∧
  (∀ s : State, ∀ k < 256, (∀ y ∈ s.mesh.leases, y.marker = k → y.frozen = true ∨ s.rnd.clk < y.till) → exec (.leaseExpiry k) s = .next s) ∧
  (∀ s : State, ∀ n < 32, ∀ g k a w o, ∀ c ∈ [(Instr.markerRead n g, 0), (Instr.markerSet n g, 1), (Instr.markerAdd n g, 2), (Instr.markerTake n g, 3),
      (Instr.markerWaitge n g, 4), (Instr.markerAcquire n g, 5), (Instr.markerRelease n g, 6), (Instr.markerReset n g, 7)],
    g < 32 → s.markerReq n g c.2 = some (k, a, w, o) → s.dieDropped (markerDie k) = true → Does c.1 s (fun t =>
      (t.slot n g).answer = some (6, 0, 0) ∧ t.regs = s.regs)) ∧
  (∀ s : State, ∀ n < 32, ∀ g < 32, ∀ k op a b v o x, (s.slot n g).op = some (.marker k op a b) → (s.slot n g).answer = some (x, v, o) →
    (s.core n).halted = false → (s.core n).wait = .none → s.replyWaits n g = false → x ≠ 6 → (s.core n).adds = [] → Does (.markerReplyRx n g) s (fun t =>
      (t.slot n g).op = none ∧ (t.slot n g).kept = some x ∧ (t.core n).g = (s.core n).g)) ∧
  (∀ s : State, ∀ n < 32, ∀ g < 32, ∀ k op a b v o rd, (s.slot n g).op = some (.marker k op a b) → (s.slot n g).answer = some (0, v, o) →
    (s.core n).halted = false → (s.core n).wait = .mopb rd g → s.replyWaits n g = false → (s.core n).adds = [] → Does (.markerReplyRx n g) s (fun t =>
      (t.slot n g).op = none ∧ (t.core n).g = (s.core n).put rd v ∧ (t.core n).lstat = 16 * o ∧ (t.core n).wait = .none))

/-- Messages, writes and reads of the mesh (R214 to R219, R245 to R247): a packet at its destination, a response at its source.
In what order what waits on its way goes on, and when what a mover has sent lands, are the model's choices (log entries 103 and 108); that a
command whose condition is not met leaves the machine as it is is one too (log entry 2). -/
def Obligations.MeshPackets : Prop :=
  (∀ s : State, ∀ n < 32, ∀ g < 32, ∀ d c q k a len v, s.whole → (s.slot n g).op = some (.send d c q k a len 0 v) → (s.slot n g).answer = none →
    d < 32 → 0 < len → len ≤ 248 → s.sendBehind n d k (s.slot n g).sent = false → s.wayClear → s.coreDropped d = false → s.chanOn d c = true → s.chanSrc d c = n →
    c < (s.core d).chans.length → (s.chan d c).expect = q → (s.chan d c).arr = [] → (s.core d).wait = .none → Does (.msgPacketRx n g) s (fun t =>
      (t.chan d c).ready = (s.chan d c).ready ++ [(q, (s.chan d c).wr, 1)] ∧ (t.chan d c).wr = ((s.chan d c).wr + 1) % s.chanSlots d c ∧
      (t.chan d c).expect = (q + 1) % 256 ∧ (t.slot n g).answer = some (0, 0, 0) ∧
      t.data = (s.putData d (s.chanBase d c + 256 * (s.chan d c).wr)
        (msgBytes d n k c q 0 1 g (v.getD 0 false) (s.opBytes n (s.slot n g).ord a len))).data ∧ sameRegsBut [CORE_CHSTAT.at d c] s t)) ∧
  (∀ s : State, ∀ n < 32, ∀ g < 32, ∀ d c q k a len v, (s.slot n g).op = some (.send d c q k a len 0 v) → (s.slot n g).answer = none →
    d < 32 → 0 < len → len ≤ 248 → s.sendBehind n d k (s.slot n g).sent = false → s.wayClear → s.coreDropped d = false → s.chanOn d c = false → (s.core d).wait = .none →
    Does (.msgPacketRx n g) s (fun t => (t.slot n g).answer = some (2, 0, 0) ∧ t.fld MESH_CNT_BADSRC = s.counted MESH_CNT_BADSRC ∧ t.data = s.data ∧
      t.evt MESH_EVENT 4)) ∧
  (∀ s : State, ∀ n < 32, ∀ g < 32, ∀ m i b buf, s.headMove n g = some (m, i, b, buf) → m.dir = 1 → m.cls ≠ 0 → i < m.packets →
    s.moverLands n m = true → s.wayClear → Does (.writePacketRx n g) s (fun t =>
    let lo := 248 * (i % m.perRow);
    let r := (s.landFlight n m).draw.meshWrite m.node (m.dst + i / m.perRow * m.dstride + lo)
      (s.localRow n (s.slot n g).ord m (i / m.perRow) lo (min 248 (m.dstLen - lo)));
    t.data = r.1.data ∧ t.sol = r.1.sol ∧ t.hub = r.1.hub ∧ t.lpddr = r.1.lpddr ∧ t.regs = s.regs ∧
      (t.slot n g).op = some (.move m (i + 1) (if b = 0 then r.2 else b) buf) ∧
      (i + 1 = m.packets → (t.slot n g).answer = some (if b = 0 then r.2 else b, 0, 0)))) ∧
  (∀ s : State, ∀ n < 32, ∀ g < 32, ∀ m i b buf, s.headMove n g = some (m, i, b, buf) → m.dir = 1 →
    s.moverLands n m = false → s.wayClear → Does (.writePacketRx n g) s (fun t =>
      (t.slot n g).op = (s.slot n g).op ∧ t.data = s.data ∧ t.sol = s.sol ∧ t.hub = s.hub ∧ t.lpddr = s.lpddr)) ∧
  (∀ s : State, ∀ n < 32, ∀ g < 32, ∀ m i buf, s.headMove n g = some (m, i, 0, buf) → m.dir = 2 → m.cls ≠ 0 → i + 1 < m.reads →
    s.moverLands n m = true → s.wayClear → Does (.readPacketRx n g []) s (fun t =>
    let lo := 4096 * (i % m.readsPerRow);
    let r := s.meshRead m.node (m.src + i / m.readsPerRow * m.sstride + lo) (min 4096 (m.srcLen - lo)) [];
    (t.slot n g).op = some (.move m (i + 1) r.2 (buf ++ fitBytes (min 4096 (m.srcLen - lo)) r.1)) ∧ (t.slot n g).answer = none ∧
      t.regs = s.regs ∧ t.data = s.data)) ∧
  (∀ s : State, ∀ n < 32, ∀ g < 32, ∀ m i b buf, s.headMove n g = some (m, i, b, buf) → m.dir = 2 → m.cls ≠ 0 → i + 1 = m.reads → b ≠ 0 → b ≠ 4 →
    s.moverLands n m = true → s.wayClear → Does (.readPacketRx n g []) s (fun t =>
      (t.slot n g).answer = some (b, 0, 0) ∧ t.regs = s.regs ∧ t.data = s.data)) ∧
  (∀ s : State, ∀ n < 32, ∀ g < 32, ∀ e x a len, s.readNow n g = some (x, a, len) → x.1.node < 32 →
    (s.meshRead x.1.node a len (e.filter (fun i => decide (i < len)))).2 = 4 → s.struckNow = [] → s.hlth.flog.length < 16 →
    Does (.readPacketRx n g e) s (fun t => Fenced 0 x.1.node 2 s t)) ∧
  (∀ s : State, ∀ n < 32, ∀ g < 32, ∀ d c q k a len i v st x y z, (s.slot n g).op = some (.send d c q k a len i v) → (s.slot n g).answer = some (st, x, y) →
    s.replyWaits n g = false → st ≠ 5 → s.wayClear → Does (.respRx n (some g) z) s (fun t => (t.slot n g).op = none ∧
      (t.slot n g).kept = some st ∧ ((s.core n).terr < 2 ^ 31 → st ≠ 0 → (t.core n).terr = 2 ^ 31 + st + 16 * g) ∧
      ((s.core n).movq = [] → sameRegsBut [MESH_TRK.at n] s t))) ∧
  (∀ s : State, ∀ n < 32, ∀ g < 32, ∀ z, s.replyWaits n g = true → exec (.respRx n (some g) z) s = .next s) ∧
  (∀ s : State, ∀ n < 34, ∀ e < 34, ∀ r l, s.mesh.rets = r :: l → r.dst = n → r.src = e → s.sendBehind e n 1 r.seq = true → s.wayClear →
    exec (.respRx n none e) s = .next s) ∧
  (∀ s : State, ∀ n < 34, ∀ e < 34, ∀ r l, s.mesh.rets = r :: l → r.dst = n → r.src = e → s.sendBehind e n 1 r.seq = false → s.wayClear → r.count ≠ 0 → Does (.respRx n none e) s (fun t =>
    t.credit n e r.chan = s.credit n e r.chan + r.count ∧ t.mesh.rets = l ∧ t.regs = s.regs)) ∧
  (∀ s : State, ∀ n < 34, ∀ e < 34, ∀ r l, s.mesh.rets = r :: l → r.dst = n → r.src = e → s.sendBehind e n 1 r.seq = false → s.wayClear → r.count = 0 → Does (.respRx n none e) s (fun t =>
    t.credit n e r.chan = 0 ∧ t.mesh.rets = l ∧ t.regs = s.regs)) ∧
  (∀ s : State, ∀ n < 32, ∀ c < 16, s.whole → c < (s.core n).chans.length → s.chanOn n c = true → s.reaches .host (CORE_CHFLUSH.at n) → Does (.coreChflushWrite n (2 ^ c)) s (fun t =>
    (t.chan n c).ready = [] ∧ (t.chan n c).out = 0 ∧ t.fld CORE_CHSTAT_FLUSHSEQ n c = (s.chan n c).expect % 2 ^ CORE_CHSTAT_FLUSHSEQ.w ∧
    t.fld CORE_CHFLUSH_FLUSH n = 0 ∧ sameRegsBut [CORE_CHSTAT.at n c, CORE_CHFLUSH.at n] s t)) ∧
  (∀ s : State, ∀ n < 32, ∀ g l m i b buf st x y, (s.core n).movq = g :: l → (s.slot n g).op = some (.move m i b buf) → (s.slot n g).answer = some (st, x, y) →
    m.dir ≠ 0 → m.mrken = false → s.replyWaits n g = false → st ≠ 5 → s.wayClear → Does (.moverDone n) s (fun t => (t.slot n g).op = none ∧ (t.slot n g).kept = some st ∧
      (t.core n).movq = l.filter (fun x => decide (x ≠ g)) ∧ (l = [] → sameRegsBut [MESH_TRK.at n] s t))) ∧
  (∀ s : State, ∀ n < 32, (s.core n).movq = [] → exec (.moverDone n) s = .next s)

/-- Purl links (R24, R225): frames replayed, retraining, retirement. That a command whose condition is not met leaves the machine as it is, is the
model's choice (log entry 2). -/
def Obligations.PurlLinks : Prop :=
  (∀ s : State, ∀ l < 6, s.fld PURL_STAT_STATE l = 2 → (look s.mesh.replays l).getD 0 + 1 ≤ s.live PURL_CFG_RPTHR → Does (.purlCrcFail l) s (fun t =>
    t.fld PURL_STAT_STATE l = 2 ∧ t.fld PURL_CNT_REPLAY l = s.counted PURL_CNT_REPLAY l ∧ look t.mesh.replays l = some ((look s.mesh.replays l).getD 0 + 1) ∧
    sameRegsBut [PURL_CNT.at l] s t)) ∧
  (∀ s : State, ∀ l < 6, s.fld PURL_STAT_STATE l = 2 → s.live PURL_CFG_RPTHR < (look s.mesh.replays l).getD 0 + 1 → Does (.purlCrcFail l) s (fun t =>
    t.fld PURL_STAT_STATE l = 1 ∧ t.fld PURL_CNT_RETRAIN l = s.counted PURL_CNT_RETRAIN l ∧ t.evt MESH_EVENT 0 ∧ t.evt MESH_EVENT 1)) ∧
  (∀ s : State, ∀ l < 6, s.fld PURL_STAT_STATE l ≠ 2 → exec (.purlCrcFail l) s = .next s) ∧
  (∀ s : State, ∀ l < 6, s.fld PURL_STAT_STATE l = 1 → s.wayClear → Does (.purlRetrainDone l true) s (fun t => t.fld PURL_STAT_STATE l = 2 ∧ t.fld PURL_STAT_FAILS l = 0 ∧
    sameRegsBut [PURL_STAT.at l] s t)) ∧
  (∀ s : State, ∀ l < 6, s.fld PURL_STAT_STATE l = 1 → s.fld PURL_STAT_FAILS l + 1 < s.live PURL_CFG_RTMAX →
    Does (.purlRetrainDone l false) s (fun t =>
      t.fld PURL_STAT_STATE l = 1 ∧ t.fld PURL_STAT_FAILS l = s.fld PURL_STAT_FAILS l + 1 ∧ t.fld PURL_CNT_RETRAIN l = s.counted PURL_CNT_RETRAIN l)) ∧
  (∀ s : State, ∀ l < 6, ∀ ok, s.fld PURL_STAT_STATE l ≠ 1 → exec (.purlRetrainDone l ok) s = .next s)

/-- Arithmetic, loads, stores and branches of the Control Processor (R235, R236, R241, Tables 10.3 and 10.4): result, next PC and cycles. -/
def Obligations.CpArithmetic : Prop :=
  (∀ s : State, ∀ n w, s.whole → s.issues n 0x00 w → s.pc n + 4 ≤ 0xFFFC → Does (.alu n) s (fun t =>
    Retired [] n (s.pc n + 4) ((if 0x10 ≤ fFn w then 2 else 1) + s.loadUse n w) s t ∧ t.data = s.data ∧
    (t.core n).g = (s.core n).put (fRd w) (aluOp (fFn w) (s.gpr n (fRa w)) (s.gpr n (fRb w))))) ∧
  (∀ s : State, ∀ n w, s.whole → s.issues n 0x01 w → s.pc n + 4 ≤ 0xFFFC → Does (.alui n) s (fun t =>
    Retired [] n (s.pc n + 4) (1 + s.loadUse n w) s t ∧ t.data = s.data ∧
    (t.core n).g = (s.core n).put (fRd w) (aluOp (immFn (nbits w 12 4)) (s.gpr n (fRa w)) (immVal (nbits w 12 4) (nbits w 0 12))))) ∧
  (∀ s : State, ∀ n w, s.whole → s.issues n 0x02 w → s.pc n + 4 ≤ 0xFFFC → Does (.lui n) s (fun t =>
    Retired [] n (s.pc n + 4) (1 + s.loadUse n w) s t ∧ t.data = s.data ∧ (t.core n).g = (s.core n).put (fRd w) (nbits w 0 16 * 65536))) ∧
  (∀ s : State, ∀ n w, s.whole → s.issues n 0x03 w → s.pc n + 4 ≤ 0xFFFC → Does (.oril n) s (fun t =>
    Retired [] n (s.pc n + 4) (1 + s.loadUse n w) s t ∧ t.data = s.data ∧
    (t.core n).g = (s.core n).put (fRd w) (s.gpr n (fRa w) ||| nbits w 0 16))) ∧
  (∀ s : State, ∀ n w, s.whole → s.issues n 0x04 w → s.pc n + 4 ≤ 0xFFFC → accessExc (s.effAddr n w) (2 ^ nbits w 14 2) (2 ^ nbits w 14 2) = none →
    Does (.ldu n) s (fun t => Retired [] n (s.pc n + 4) (1 + s.loadUse n w) s t ∧ t.data = s.data ∧ (t.core n).hot = fRd w ∧
      (t.core n).g = (s.core n).put (fRd w) (s.dataLE n (s.effAddr n w) (2 ^ nbits w 14 2)))) ∧
  (∀ s : State, ∀ n w, s.whole → s.issues n 0x05 w → s.pc n + 4 ≤ 0xFFFC → accessExc (s.effAddr n w) (2 ^ nbits w 14 2) (2 ^ nbits w 14 2) = none →
    Does (.lds n) s (fun t => Retired [] n (s.pc n + 4) (1 + s.loadUse n w) s t ∧ t.data = s.data ∧ (t.core n).hot = fRd w ∧
      (t.core n).g = (s.core n).put (fRd w) (uInt 32 (sInt (8 * 2 ^ nbits w 14 2) (s.dataLE n (s.effAddr n w) (2 ^ nbits w 14 2)))))) ∧
  (∀ s : State, ∀ n w, s.whole → s.issues n 0x06 w → s.pc n + 4 ≤ 0xFFFC → accessExc (s.effAddr n w) (2 ^ nbits w 14 2) (2 ^ nbits w 14 2) = none →
    Does (.st n) s (fun t => Retired [] n (s.pc n + 4) (1 + s.loadUse n w) s t ∧ (t.core n).g = (s.core n).g ∧
      (∀ a, (a < dataAt n (s.effAddr n w) ∨ dataAt n (s.effAddr n w) + 2 ^ nbits w 14 2 ≤ a) → memGet dflt0 t.data a = memGet dflt0 s.data a) ∧
      ∀ i < 2 ^ nbits w 14 2, memGet dflt0 t.data (dataAt n (s.effAddr n w) + i) = BitVec.ofNat 8 (s.gpr n (fRd w) / 2 ^ (8 * i)))) ∧
  (∀ s : State, ∀ n w, s.whole → s.issues n 0x08 w → condHolds (nbits w 13 3) (s.gpr n (fRd w)) (s.gpr n (fRa w)) = false → s.pc n + 4 ≤ 0xFFFC →
    Does (.bc n) s (fun t => Retired [] n (s.pc n + 4) (1 + s.loadUse n w) s t ∧ t.data = s.data ∧ (t.core n).g = (s.core n).g)) ∧
  (∀ s : State, ∀ n w x, s.whole → s.issues n 0x08 w → condHolds (nbits w 13 3) (s.gpr n (fRd w)) (s.gpr n (fRa w)) = true → x ≤ 0xFFFC →
    ((s.pc n : Nat) : Int) + 4 * sInt 13 (nbits w 0 13) = (x : Nat) →
    Does (.bc n) s (fun t => Retired [] n x (3 + s.loadUse n w) s t ∧ t.data = s.data ∧ (t.core n).g = (s.core n).g)) ∧
  (∀ s : State, ∀ n w x, s.whole → s.issues n 0x09 w → x ≤ 0xFFFC → ((s.pc n : Nat) : Int) + 4 * sInt 21 (nbits w 0 21) = (x : Nat) →
    Does (.jal n) s (fun t => Retired [] n x 3 s t ∧ t.data = s.data ∧ (t.core n).g = (s.core n).put (fRd w) (s.pc n + 4))) ∧
  (∀ s : State, ∀ n w x, s.whole → s.issues n 0x0A w → x ≤ 0xFFFC → x % 4 = 0 → uInt 32 ((s.gpr n (fRa w) : Nat) + sInt 16 (nbits w 0 16)) = x →
    Does (.jalr n) s (fun t => Retired [] n x (3 + s.loadUse n w) s t ∧ t.data = s.data ∧ (t.core n).g = (s.core n).put (fRd w) (s.pc n + 4)))

/-- Messages, marker operations and the store mover as the Control Processor issues them (R219, R240, R242 to R246). Where a SEND waits for its
credits, and what its slot then holds, is the model's choice (log entry 104). That a command whose condition is not met leaves the machine as it is,
is the model's choice (log entry 2). -/
def Obligations.CpTracked : Prop :=
  (∀ s : State, ∀ n w k b, s.whole → s.issues n 0x0C w → s.pc n + 4 ≤ 0xFFFC → (s.core n).freeSlot = some k → b = s.gpr n (fRb w) →
    s.gpr n (fRa w) % 8 = 0 → s.gpr n (fRa w) + nbits b 0 12 ≤ 0x100000 → nbits b 12 4 = 0 → nbits b 22 2 = 0 → nbits b 30 2 = 0 → 0 < nbits b 0 12 →
    nbits b 0 12 ≤ 3968 → nbits b 16 6 ≤ 33 → (nbits b 28 2 = 1 ∨ nbits b 28 2 = 2) → s.nodeDropped (nbits b 16 6) = false →
    msgPackets (nbits b 0 12) ≤ s.credit n (nbits b 16 6) (nbits b 24 4) → Does (.send n) s (fun t =>
      Retired [MESH_TRK.at n] n (s.pc n + 4) (1 + s.loadUse n w) s t ∧ t.data = s.data ∧ (t.core n).g = (s.core n).put (fRd w) k ∧
      (t.core n).slots = (s.core n).slots.set k
        { op := some (.send (nbits b 16 6) (nbits b 24 4) (s.nextMseq n (nbits b 16 6) (nbits b 24 4)) (nbits b 28 2) (s.gpr n (fRa w)) (nbits b 0 12) 0 []),
          ord := (s.core n).ord, sent := s.mesh.num } ∧
      t.credit n (nbits b 16 6) (nbits b 24 4) = s.credit n (nbits b 16 6) (nbits b 24 4) - msgPackets (nbits b 0 12) ∧
      t.nextMseq n (nbits b 16 6) (nbits b 24 4) = (s.nextMseq n (nbits b 16 6) (nbits b 24 4) + 1) % 256)) ∧
  (∀ s : State, ∀ n w k b, s.whole → s.issues n 0x0C w → s.pc n + 4 ≤ 0xFFFC → (s.core n).freeSlot = some k → b = s.gpr n (fRb w) →
    s.gpr n (fRa w) % 8 = 0 → s.gpr n (fRa w) + nbits b 0 12 ≤ 0x100000 → nbits b 12 4 = 0 → nbits b 22 2 = 0 → nbits b 30 2 = 0 → 0 < nbits b 0 12 →
    nbits b 0 12 ≤ 3968 → nbits b 16 6 ≤ 33 → nbits b 28 2 < 3 → s.nodeDropped (nbits b 16 6) = false →
    s.credit n (nbits b 16 6) (nbits b 24 4) < msgPackets (nbits b 0 12) → Does (.send n) s (fun t =>
      t.pc n = s.pc n + 4 ∧ (t.core n).wait = .send (fRd w) k ∧ (t.core n).g = (s.core n).g ∧ t.data = s.data ∧
      (t.core n).slots = (s.core n).slots.set k
        { op := some (.want (nbits b 16 6) (nbits b 24 4) (nbits b 28 2) (s.gpr n (fRa w)) (nbits b 0 12)), ord := (s.core n).ord } ∧
      t.credit n (nbits b 16 6) (nbits b 24 4) = s.credit n (nbits b 16 6) (nbits b 24 4) ∧ sameRegsBut [CORE_PC.at n, MESH_TRK.at n] s t)) ∧
  (∀ s : State, ∀ n < 32, ∀ rd, ∀ g < 32, ∀ d c k a len, s.whole → (s.core n).halted = false → (s.core n).wait = .send rd g →
    (s.slot n g).op = some (.want d c k a len) → (s.slot n g).answer = none →
    msgPackets len ≤ s.credit n d c → k ≠ 0 → Does (.send n) s (fun t => (t.core n).wait = .none ∧ (t.core n).g = (s.core n).put rd g ∧
      (t.slot n g).op = some (.send d c (s.nextMseq n d c) k a len 0 []) ∧ t.credit n d c = s.credit n d c - msgPackets len ∧ t.regs = s.regs)) ∧
  (∀ s : State, ∀ n < 32, ∀ rd, ∀ g < 32, ∀ d c k a len, s.whole → (s.core n).halted = false → (s.core n).wait = .send rd g →
    (s.slot n g).op = some (.want d c k a len) → (s.slot n g).answer = none →
    s.credit n d c < msgPackets len → exec (.send n) s = .next s) ∧
  (∀ s : State, ∀ n w, s.whole → s.issues n 0x0C w → s.gpr n (fRa w) % 8 = 0 → s.gpr n (fRa w) + nbits (s.gpr n (fRb w)) 0 12 ≤ 0x100000 →
    nbits (s.gpr n (fRb w)) 12 4 = 0 → nbits (s.gpr n (fRb w)) 22 2 = 0 → nbits (s.gpr n (fRb w)) 30 2 = 0 → 0 < nbits (s.gpr n (fRb w)) 0 12 →
    nbits (s.gpr n (fRb w)) 0 12 ≤ 3968 → nbits (s.gpr n (fRb w)) 16 6 ≤ 33 → nbits (s.gpr n (fRb w)) 28 2 < 3 → (s.core n).freeSlot = none →
    Does (.send n) s (fun t => (t.core n).stall = true ∧ t.pc n = s.pc n ∧ t.regs = s.regs ∧ (t.core n).g = (s.core n).g ∧ t.mesh = s.mesh)) ∧
  (∀ s : State, ∀ n w q f p l, s.whole → s.issues n 0x0D w → s.pc n + 4 ≤ 0xFFFC → s.chanOn n (nbits w 0 4) = true →
    (s.chan n (nbits w 0 4)).ready = (q, f, p) :: l → Does (.recv n) s (fun t =>
      Retired [CORE_CHSTAT.at n (nbits w 0 4)] n (s.pc n + 4) (1 + s.loadUse n w) s t ∧
      (t.core n).g = (s.core n).put (fRd w) (s.chanBase n (nbits w 0 4) + 256 * f) ∧ (t.chan n (nbits w 0 4)).ready = l ∧
      (t.chan n (nbits w 0 4)).out = (s.chan n (nbits w 0 4)).out + p)) ∧
  (∀ s : State, ∀ n w, s.whole → s.issues n 0x0D w → s.pc n + 4 ≤ 0xFFFC → s.chanOn n (nbits w 0 4) = true → (s.chan n (nbits w 0 4)).ready = [] →
    s.gpr n (fRa w) ≠ 0 → (s.core n).halted = false → Does (.recv n) s (fun t => t.pc n = s.pc n + 4 ∧
      (t.core n).wait = .recv (fRd w) (nbits w 0 4) (s.gpr n (fRa w)) s.rnd.clk ∧ (t.core n).g = (s.core n).g ∧ sameRegsBut [CORE_PC.at n] s t)) ∧
  (∀ s : State, ∀ n < 32, ∀ rd c x a, s.whole → (s.core n).wait = .recv rd c x a → (s.core n).halted = false → x ≠ 2 ^ 32 - 1 →
    x ≤ s.cyclesIn n (s.rnd.clk - a) → Does (.recvTimeout n) s (fun t => (t.core n).wait = .none ∧ (t.core n).g = (s.core n).put rd (2 ^ 32 - 1) ∧
      (t.core n).cyc = (s.core n).cyc + x ∧ t.regs = s.regs)) ∧
  (∀ s : State, ∀ n < 32, ∀ rd c x a, (s.core n).wait = .recv rd c x a → (x = 2 ^ 32 - 1 ∨ s.cyclesIn n (s.rnd.clk - a) < x ∨ (s.core n).halted = true) →
    exec (.recvTimeout n) s = .next s) ∧
  (∀ s : State, ∀ n w, s.whole → s.issues n 0x0E w → s.pc n + 4 ≤ 0xFFFC → s.chanOn n (nbits w 0 4) = true →
    nbits w 0 4 < (s.core n).chans.length → 0 < s.gpr n (fRa w) → s.gpr n (fRa w) ≤ (s.chan n (nbits w 0 4)).out → Does (.mrel n) s (fun t =>
      Retired [] n (s.pc n + 4) (1 + s.loadUse n w) s t ∧ (t.chan n (nbits w 0 4)).out = (s.chan n (nbits w 0 4)).out - s.gpr n (fRa w) ∧
      t.mesh.rets = s.mesh.rets ++ [{ dst := s.chanSrc n (nbits w 0 4), src := n, chan := nbits w 0 4, count := s.gpr n (fRa w), seq := s.mesh.num }])) ∧
  (∀ s : State, ∀ n w, s.whole → s.issues n 0x40 w → s.pc n + 4 ≤ 0xFFFC → s.chanOn n (nbits w 0 4) = true → nbits w 0 4 < (s.core n).chans.length →
    Does (.mctlFlush n) s (fun t => Retired [CORE_CHSTAT.at n (nbits w 0 4)] n (s.pc n + 4) 1 s t ∧ (t.chan n (nbits w 0 4)).ready = [] ∧
      (t.chan n (nbits w 0 4)).out = 0)) ∧
  (∀ s : State, ∀ n w, s.whole → s.issues n 0x41 w → s.pc n + 4 ≤ 0xFFFC → s.chanOn n (nbits w 0 4) = true → Does (.mctlStatus n) s (fun t =>
    Retired [] n (s.pc n + 4) (1 + s.loadUse n w) s t ∧ (t.core n).g = (s.core n).put (fRd w) (s.regN CORE_CHSTAT n (nbits w 0 4)))) ∧
  (∀ s : State, ∀ n w k o, s.whole → s.issues n 0x10 w → s.pc n + 4 ≤ 0xFFFC → s.mopTrack n w = some o → (s.core n).freeSlot = some k →
    Does (.mop n) s (fun t => Retired [MESH_TRK.at n] n (s.pc n + 4) (1 + s.loadUse n w) s t ∧ (t.core n).g = (s.core n).put (fRd w) k ∧
      (t.core n).slots = (s.core n).slots.set k { op := some o, ord := (s.core n).ord })) ∧
  (∀ s : State, ∀ n w k o, s.whole → s.issues n 0x11 w → s.pc n + 4 ≤ 0xFFFC → s.mopTrack n w = some o → (s.core n).freeSlot = some k →
    Does (.mopb n) s (fun t => t.pc n = s.pc n + 4 ∧ (t.core n).wait = .mopb (fRd w) k ∧ (t.core n).g = (s.core n).g ∧
      (t.core n).slots = (s.core n).slots.set k { op := some o, ord := (s.core n).ord } ∧ sameRegsBut [CORE_PC.at n, MESH_TRK.at n] s t)) ∧
  (∀ s : State, ∀ n w k d, s.whole → s.issues n 0x14 w → s.pc n + 4 ≤ 0xFFFC → (s.core n).freeSlot = some k → s.descAt n w = .ok d → moverBad d = false →
    Does (.movd n) s (fun t => t.pc n = s.pc n + 4 ∧ (t.core n).wait = .none ∧ (t.core n).g = (s.core n).put (fRd w) k ∧ t.data = s.data ∧
      ((s.core n).movq = [] → (parseMover d).cls ≠ 0 → Retired [MESH_TRK.at n] n (s.pc n + 4) (1 + s.loadUse n w) s t) ∧
      (t.core n).movq = (s.core n).movq ++ [k] ∧
      (t.core n).slots = (s.core n).slots.set k { op := some (.move (parseMover d) 0 0 []), ord := (s.core n).ord }))

/-- Operations queued to a core's units, waits for them, and the system instructions (R237 to R240, R250, R253, R262, R263, R270, R276, R279, R288, R289,
R294). -/
def Obligations.CpUnits : Prop :=
  (∀ s : State, ∀ n w d, s.whole → s.pc n + 4 ≤ 0xFFFC → s.descAt n w = .ok d → ∀ c ∈ [(Instr.mload n, 0x18, 0, opLoad, loadBad d),
      (Instr.mrun n, 0x19, 0, opRun, runBad d (s.core n).bound), (Instr.vrun n, 0x1C, 1, opVrun, vrunBad d), (Instr.ocfg n, 0x20, 2, opCfg, cfgBad d),
      (Instr.orun n, 0x21, 2, opDrain, drainBad d (s.core n).ocfg)],
    s.issues n c.2.1 w → ((s.core n).unit c.2.2.1).q.length < 4 → c.2.2.2.2 = false → Does c.1 s (fun t =>
      Retired [] n (s.pc n + 4) (1 + s.loadUse n w) s t ∧ (t.core n).g = (s.core n).g ∧ (t.core n).ord = (s.core n).ord + 1 ∧
      ∃ o : QOp, ((t.core n).unit c.2.2.1).q = ((s.core n).unit c.2.2.1).q ++ [o] ∧ o.kind = c.2.2.2.1 ∧ o.d = d ∧ o.ord = (s.core n).ord)) ∧
  (∀ s : State, ∀ n w d, s.whole → s.pc n + 4 ≤ 0xFFFC → s.descAt n w = .ok d → s.issues n 0x18 w → (s.core n).mtx.q.length < 4 → loadBad d = false →
    Does (.mload n) s (fun t => (t.core n).bound = d)) ∧
  (∀ s : State, ∀ n w, s.whole → s.pc n + 4 ≤ 0xFFFC → ∀ c ∈ [(Instr.mwait n, 0x1A, 0), (Instr.vwait n, 0x1D, 1), (Instr.owait n, 0x22, 2)],
    s.issues n c.2.1 w → ((s.core n).unit c.2.2).q = [] → Does c.1 s (fun t => Retired [] n (s.pc n + 4) (1 + s.loadUse n w) s t ∧
      (t.core n).g = (s.core n).put (fRd w) ((s.core n).unit c.2.2).status)) ∧
  (∀ s : State, ∀ n w, s.whole → s.pc n + 4 ≤ 0xFFFC → ∀ c ∈ [(Instr.mwait n, 0x1A, 0), (Instr.vwait n, 0x1D, 1), (Instr.owait n, 0x22, 2)],
    s.issues n c.2.1 w → ((s.core n).unit c.2.2).q ≠ [] → Does c.1 s (fun t => t.pc n = s.pc n + 4 ∧ (t.core n).wait = .unit (fRd w) c.2.2 ∧
      (t.core n).g = (s.core n).g)) ∧
  (∀ s : State, ∀ n < 32, ∀ rd, s.whole → (s.core n).halted = false → ∀ c ∈ [(Instr.mwait n, 0), (Instr.vwait n, 1), (Instr.owait n, 2)],
    (s.core n).wait = .unit rd c.2 → ((s.core n).unit c.2).q = [] → Does c.1 s (fun t => (t.core n).wait = .none ∧ t.regs = s.regs ∧
      (t.core n).g = (s.core n).put rd ((s.core n).unit c.2).status)) ∧
  (∀ s : State, ∀ n w, s.whole → s.issues n 0x1B w → s.pc n + 4 ≤ 0xFFFC → Does (.mstat n) s (fun t =>
    Retired [] n (s.pc n + 4) (1 + s.loadUse n w) s t ∧ (t.core n).g = (s.core n).put (fRd w) (s.core n).mtx.status)) ∧
  (∀ s : State, ∀ n w, s.whole → s.issues n 0x51 w → s.pc n + 4 ≤ 0xFFFC → (s.core n).fenced (nbits w 0 6) = true → Does (.fence n) s (fun t =>
    Retired [] n (s.pc n + 4) 1 s t ∧ (t.core n).g = (s.core n).g)) ∧
  (∀ s : State, ∀ n w, s.whole → s.issues n 0x51 w → s.pc n + 4 ≤ 0xFFFC → (s.core n).fenced (nbits w 0 6) = false → Does (.fence n) s (fun t =>
    t.pc n = s.pc n + 4 ∧ (t.core n).wait = .fence (nbits w 0 6))) ∧
  (∀ s : State, ∀ n < 32, ∀ x, s.whole → (s.core n).halted = false → (s.core n).wait = .fence x → (s.core n).fenced x = true → Does (.fence n) s (fun t =>
    (t.core n).wait = .none ∧ (t.core n).g = (s.core n).g ∧ t.regs = s.regs)) ∧
  (∀ s : State, ∀ n w x, s.whole → s.issues n 0x52 w → s.pc n + 4 ≤ 0xFFFC → s.gpr n (fRa w) < 32 → (s.slot n (s.gpr n (fRa w))).op = none →
    (s.slot n (s.gpr n (fRa w))).kept = some x → Does (.waitt n) s (fun t => Retired [] n (s.pc n + 4) (1 + s.loadUse n w) s t ∧
      (t.core n).g = (s.core n).put (fRd w) x)) ∧
  (∀ s : State, ∀ n < 32, ∀ rd g, s.whole → (s.core n).halted = false → (s.core n).wait = .waitt rd g → (s.slot n g).op = none → Does (.waitt n) s (fun t =>
    (t.core n).wait = .none ∧ (t.core n).g = (s.core n).put rd ((s.slot n g).kept.getD 0) ∧ t.regs = s.regs)) ∧
  (∀ s : State, ∀ n w x, s.whole → s.issues n 0x54 w → s.pc n + 4 ≤ 0xFFFC → s.csr n (nbits w 0 6) = some x → Does (.csrr n) s (fun t =>
    Retired [] n (s.pc n + 4) (1 + s.loadUse n w) s t ∧ (t.core n).g = (s.core n).put (fRd w) x)) ∧
  (∀ s : State, ∀ n w, s.whole → s.issues n 0x55 w → s.pc n + 4 ≤ 0xFFFC → nbits w 0 6 = 0x08 → Does (.csrw n) s (fun t =>
    Retired [] n (s.pc n + 4) (1 + s.loadUse n w) s t ∧ (t.core n).seed = s.gpr n (fRa w) % 2 ^ 32 ∧ (t.core n).g = (s.core n).g)) ∧
  (∀ s : State, ∀ n w, s.whole → s.issues n 0x55 w → s.pc n + 4 ≤ 0xFFFC → nbits w 0 6 = 0x0A → Does (.csrw n) s (fun t =>
    Retired [] n (s.pc n + 4) (1 + s.loadUse n w) s t ∧ (t.core n).terr = 0 ∧ (t.core n).g = (s.core n).g)) ∧
  (∀ s : State, ∀ n w, s.whole → s.issues n 0x56 w → s.pc n + 4 ≤ 0xFFFC → 0 < s.live CORE_WDT_PERIOD n → Does (.wdkick n) s (fun t =>
    Retired [] n (s.pc n + 4) 1 s t ∧ (t.core n).wdMark = some s.rnd.clk ∧ (t.core n).wdLeft = 250 * s.live CORE_WDT_PERIOD n ∧
    (t.core n).g = (s.core n).g))

/-- Jobs of a core begin, sleep, halt and end (R238, R252 to R255, R472). That a command whose condition is not met leaves the machine as it is, is
the model's choice (log entry 2). -/
def Obligations.CpJobs : Prop :=
  (∀ s : State, ∀ n w, s.whole → s.issues n 0x50 w → s.gpr n (fRa w) < 256 → Does (.done n) s (fun t => (t.core n).wait = .done (s.gpr n (fRa w)) ∧
    (t.core n).cyc = (s.core n).cyc + 1 + s.loadUse n w ∧ (t.core n).g = (s.core n).g ∧ t.regs = s.regs)) ∧
  (∀ s : State, ∀ n < 32, ∀ u < 256, s.whole → (s.core n).halted = false → (s.core n).wait = .done u → (s.core n).fenced 15 = true → (s.core n).inst = none →
    (s.core n).left = none → Does (.jobComplete n) s (fun t => t.cstate n = cIdle ∧ t.regN CORE_JOBST n = 16 * u ∧ t.fld CORE_STATUS_SRC n = 0 ∧
      (t.core n).wait = .none ∧ t.pc n = s.pc n ∧ t.data = s.data)) ∧
  (∀ s : State, ∀ n < 32, ∀ u, (s.core n).halted = false → (s.core n).wait = .done u → (s.core n).fenced 15 = false → exec (.jobComplete n) s = .next s) ∧
  (∀ s : State, ∀ n w, s.whole → s.issues n 0x53 w → s.pc n + 4 ≤ 0xFFFC → s.gpr n (fRb w) < 1024 →
    s.stitchesTo (s.gpr n (fRa w) * 1024 + s.gpr n (fRb w)) ≤ 0 → Does (.wstitch n) s (fun t =>
      Retired [] n (s.pc n + 4) (1 + s.loadUse n w) s t ∧ (t.core n).g = (s.core n).g)) ∧
  (∀ s : State, ∀ n w, s.whole → s.issues n 0x53 w → s.pc n + 4 ≤ 0xFFFC → s.gpr n (fRb w) < 1024 →
    0 < s.stitchesTo (s.gpr n (fRa w) * 1024 + s.gpr n (fRb w)) → s.stitchesTo (s.gpr n (fRa w) * 1024 + s.gpr n (fRb w)) ≤ 16384 →
    Does (.wstitch n) s (fun t => t.cstate n = cSleep ∧ t.pc n = s.pc n + 4 ∧ (t.core n).wait = .sleep (s.gpr n (fRa w) * 1024 + s.gpr n (fRb w)) ∧
      (t.core n).wdMark = none)) ∧
  (∀ s : State, ∀ n < 32, ∀ x, s.whole → (s.core n).halted = false → (s.core n).wait = .sleep x → s.stitchesTo x ≤ 0 → Does (.wstitchWake n) s (fun t =>
    t.cstate n = cRun ∧ (t.core n).wait = .none ∧ (t.core n).g = (s.core n).g ∧ sameRegsBut [CORE_STATUS.at n] s t)) ∧
  (∀ s : State, ∀ n < 32, ∀ x, (s.core n).wait = .sleep x → 0 < s.stitchesTo x → exec (.wstitchWake n) s = .next s) ∧
  (∀ s : State, ∀ n w, s.whole → s.issues n 0x57 w → s.flag DBG_CTRL_ATTACH = true → Does (.brk n) s (fun t => (t.core n).halted = true ∧ (t.core n).hcause = 5 ∧
    (t.core n).hpc = s.pc n ∧ t.cstate n = cHalted ∧ t.pc n = s.pc n ∧ (t.reg DBG_HALTED.base).toNat.testBit n = true ∧ t.evt DBG_EVENT 2)) ∧
  (∀ s : State, ∀ n < 32, ∀ c, s.whole → s.haltDue n = some c → Does (.coreHalt n) s (fun t => (t.core n).halted = true ∧ (t.core n).hcause = c ∧
    (t.core n).was = s.cstate n ∧ t.cstate n = cHalted ∧ t.pc n = s.pc n ∧ (t.reg DBG_HALTED.base).toNat.testBit n = true ∧
    (t.reg DBG_HALT.base).toNat.testBit n = false)) ∧
  (∀ s : State, ∀ n < 32, s.haltDue n = none → exec (.coreHalt n) s = .next s) ∧
  (∀ s : State, ∀ n < 32, s.whole → s.cstate n = cIdle → s.namesCore n = false → s.dieCrit (coreDie n) = false → s.flag CORE_CTRL_COMMIT n = false →
    s.reaches .host (CORE_CTRL.at n) → Does (.coreGo n) s (fun t => t.cstate n = cRun ∧ t.pc n = 4 * s.fld CORE_START_ENTRY_ENTRY n % 2 ^ 16 ∧ t.fld CORE_STATUS_SRC n = 2 ∧
      t.fld CORE_JOBCUR_JOB n = 0x7FF ∧ (t.core n).g = ((List.replicate 32 0).set 1 (s.regN CORE_START_ARG n)).set 2 0xFFFF07FF ∧
      (∀ i < 65536, t.accGet n i = 0) ∧ t.data = s.data)) ∧
  (∀ s : State, ∀ n < 32, (s.cstate n ≠ cIdle ∨ s.namesCore n = true ∨ s.dieCrit (coreDie n) = true) → s.reaches .host (CORE_CTRL.at n) → Does (.coreGo n) s (fun t =>
    t.cstate n = s.cstate n ∧ t.pc n = s.pc n ∧ t.evtAt CORE_EVENT n 3 ∧ t.cores = s.cores)) ∧
  (∀ s : State, ∀ n < 32, s.whole → s.busy n = true → s.binding = false → s.reaches .host (CORE_CTRL.at n) → Does (.coreCtrlAbort n) s (fun t => t.cstate n = cIdle ∧ t.fld CORE_JOBST_STATUS n = 4 ∧
    t.fld CORE_JOBST_EXC n = 0 ∧ t.evtAt CORE_EVENT n 2 ∧ (t.core n).inst = none ∧ (t.core n).halted = false)) ∧
  (∀ s : State, ∀ n < 32, s.busy n = false → s.reaches .host (CORE_CTRL.at n) → exec (.coreCtrlAbort n) s = .next s)

/-- Exceptions of the Control Processor (R248, Table 10.7): the job ends, and code, PC and address or operand are kept. That a command naming another
row than the word's does nothing, and that ILLEGAL goes before every other exception, MISALIGN before RANGE and both before the operand rules, are the
model's choices (log entries 54 and 55). That a command whose condition is not met leaves the machine as it is, is the model's choice (log entry 2).
-/
def Obligations.CpExceptions : Prop :=
  (∀ s : State, ∀ n < 32, s.whole → s.canIssue n = true → legal (s.fetch n) = false → ∀ c ∈ [Instr.alu n, .alui n, .lui n, .oril n, .ldu n, .lds n, .st n, .bc n, .jal n,
      .jalr n, .send n, .recv n, .mrel n, .mctlFlush n, .mctlStatus n, .mop n, .mopb n, .movd n, .mload n, .mrun n, .mwait n, .mstat n, .vrun n, .vwait n,
      .ocfg n, .orun n, .owait n, .done n, .fence n, .waitt n, .wstitch n, .csrr n, .csrw n, .wdkick n, .brk n],
    Does c s (fun t => Faulted n 1 (s.fetch n) s t)) ∧
  (∀ s : State, ∀ n < 32, s.canIssue n = true → legal (s.fetch n) = true → ∀ c ∈ [(Instr.alu n, 0x00), (Instr.alui n, 0x01), (Instr.lui n, 0x02),
      (Instr.oril n, 0x03), (Instr.ldu n, 0x04), (Instr.lds n, 0x05), (Instr.st n, 0x06), (Instr.bc n, 0x08), (Instr.jal n, 0x09), (Instr.jalr n, 0x0A),
      (Instr.send n, 0x0C), (Instr.recv n, 0x0D), (Instr.movd n, 0x14), (Instr.csrr n, 0x54), (Instr.brk n, 0x57)],
    rowOf (s.fetch n) ≠ c.2 → exec c.1 s = .next s) ∧
  (∀ s : State, ∀ n w x, s.whole → (s.issues n 0x04 w ∧ x = Instr.ldu n ∨ s.issues n 0x05 w ∧ x = Instr.lds n ∨ s.issues n 0x06 w ∧ x = Instr.st n) →
    s.effAddr n w % 2 ^ nbits w 14 2 ≠ 0 → Does x s (fun t => Faulted n 2 (s.effAddr n w) s t)) ∧
  (∀ s : State, ∀ n w x, s.whole → (s.issues n 0x04 w ∧ x = Instr.ldu n ∨ s.issues n 0x05 w ∧ x = Instr.lds n ∨ s.issues n 0x06 w ∧ x = Instr.st n) →
    s.effAddr n w % 2 ^ nbits w 14 2 = 0 → 0x100000 < s.effAddr n w + 2 ^ nbits w 14 2 → Does x s (fun t => Faulted n 3 (s.effAddr n w) s t)) ∧
  (∀ s : State, ∀ n w, s.whole → s.issues n 0x00 w → s.pc n = 0xFFFC → Does (.alu n) s (fun t => Faulted n 4 0x10000 s t)) ∧
  (∀ s : State, ∀ n w, s.whole → s.issues n 0x50 w → 256 ≤ s.gpr n (fRa w) → Does (.done n) s (fun t => Faulted n 5 (s.gpr n (fRa w)) s t)) ∧
  (∀ s : State, ∀ n w d, s.whole → s.issues n 0x14 w → (s.core n).freeSlot ≠ none → s.descAt n w = .ok d → moverBad d = true → Does (.movd n) s (fun t =>
    Faulted n 6 (s.gpr n (fRa w)) s t)) ∧
  (∀ s : State, ∀ n w, s.whole → s.issues n 0x53 w → s.gpr n (fRb w) < 1024 → 16384 < s.stitchesTo (s.gpr n (fRa w) * 1024 + s.gpr n (fRb w)) →
    Does (.wstitch n) s (fun t => Faulted n 7 (s.gpr n (fRb w)) s t)) ∧
  (∀ s : State, ∀ n w, s.whole → s.issues n 0x52 w → s.gpr n (fRa w) < 32 → (s.slot n (s.gpr n (fRa w))).op = none → (s.slot n (s.gpr n (fRa w))).kept = none →
    Does (.waitt n) s (fun t => Faulted n 8 (s.gpr n (fRa w)) s t)) ∧
  (∀ s : State, ∀ n w x, s.whole → (s.issues n 0x0D w ∧ x = Instr.recv n ∨ s.issues n 0x0E w ∧ x = Instr.mrel n ∨ s.issues n 0x40 w ∧ x = Instr.mctlFlush n ∨
      s.issues n 0x41 w ∧ x = Instr.mctlStatus n) →
    s.chanOn n (nbits w 0 4) = false → Does x s (fun t => Faulted n 9 (nbits w 0 4) s t)) ∧
  (∀ s : State, ∀ n w, s.whole → s.issues n 0x54 w → 0x0B < nbits w 0 6 → Does (.csrr n) s (fun t => Faulted n 10 (nbits w 0 6) s t)) ∧
  (∀ s : State, ∀ n w, s.whole → s.issues n 0x55 w → nbits w 0 6 ≠ 0x08 → nbits w 0 6 ≠ 0x0A → Does (.csrw n) s (fun t => Faulted n 10 (nbits w 0 6) s t)) ∧
  (∀ s : State, ∀ n w, s.whole → s.issues n 0x57 w → s.flag DBG_CTRL_ATTACH = false → Does (.brk n) s (fun t => Faulted n 11 (s.pc n) s t))

/-- The arrays, the vector path and the output stage (R264, R269 to R271, R275 to R277, R288 to R293, R448): operations start, end with their results,
and fail their checks. That a command whose condition is not met leaves the machine as it is, is the model's choice (log entry 2). -/
def Obligations.MatrixOperations : Prop :=
  (∀ s : State, ∀ n < 32, ∀ o, s.whole → ∀ c ∈ [(Instr.matrixOpStart n, 0), (Instr.vpOpStart n, 1), (Instr.outputOpStart n, 2)],
    (s.core n).ready c.2 = some o → o.kind ≠ opRun → Does c.1 s (fun t =>
      ((t.core n).unit c.2).q = { o with started := true } :: ((s.core n).unit c.2).q.tail ∧ t.regs = s.regs)) ∧
  (∀ s : State, ∀ n < 32, ∀ o, s.whole → (s.core n).ready 0 = some o → o.kind = opRun → Does (.matrixOpStart n) s (fun t =>
    ((t.core n).unit 0).q = { o with started := true } :: ((s.core n).unit 0).q.tail ∧
    t.regN CORE_MTXIDEAL n = (parseTile o.d o.bound).ideal % 2 ^ 32 ∧ t.fld CORE_MTXFOLD_MODE n = (parseTile o.d o.bound).mode ∧
    sameRegsBut [CORE_MTXFOLD.at n, CORE_MTXPASS.at n, CORE_MTXIDEAL.at n] s t)) ∧
  (∀ s : State, ∀ n < 32, ∀ c ∈ [(Instr.matrixOpStart n, 0), (Instr.vpOpStart n, 1), (Instr.outputOpStart n, 2)],
    (s.core n).ready c.2 = none → exec c.1 s = .next s) ∧
  (∀ s : State, ∀ n < 32, ∀ o, s.whole → (s.core n).runs 0 = some o → o.kind = opLoad → Does (.matrixOpDone n) s (fun t =>
    (t.core n).mtx.q = (s.core n).mtx.q.tail ∧ (t.core n).mtx.done = ((s.core n).mtx.done + 1) % 65536 ∧ t.regs = s.regs ∧ t.acc = s.acc ∧ t.data = s.data)) ∧
  (∀ s : State, ∀ n < 32, ∀ o p, s.whole → (s.core n).runs 0 = some o → o.kind = opRun → o.tile = p → p.mode = 2 → p.pack = 0 → p.split = 1 →
    p.fmt = 2 → p.accum = false → p.batch = 1 → p.m = 1 → p.n = 1 → p.acc < 65536 → Does (.matrixOpDone n) s (fun t =>
      t.accGet n p.acc = uInt 32 (sumI (fun k => sInt 8 (s.tileA n p 0 0 k) * sInt 8 (s.tileB n p 0 k 0)) 0 p.k 0) ∧
      (∀ e, e ≠ accAt n p.acc → sparseGet (fun _ => 0) t.acc e = sparseGet (fun _ => 0) s.acc e) ∧
      (t.core n).mtx.q = (s.core n).mtx.q.tail ∧ t.data = s.data)) ∧
  (∀ s : State, ∀ n < 32, ∀ o v, s.whole → (s.core n).runs 1 = some o → o.kind = opVrun → o.vrun = v → v.fmt = 2 → v.rows = 1 → v.n = 1 →
    v.accum = false → v.acc < 65536 → Does (.vpOpDone n) s (fun t =>
      t.accGet n v.acc = uInt 32 (sumI (fun k => sInt 8 (s.vpX n v 0 k) * sInt 8 (s.vpW n v k 0)) 0 v.k 0) ∧
      (t.core n).vp.q = (s.core n).vp.q.tail ∧ (t.core n).vp.done = ((s.core n).vp.done + 1) % 65536 ∧ t.data = s.data)) ∧
  (∀ s : State, ∀ n < 32, ∀ o, s.whole → (s.core n).runs 2 = some o → o.kind = opCfg → Does (.outputOpDone n) s (fun t => (t.core n).cfg.d = o.d ∧
    (t.core n).out.q = (s.core n).out.q.tail ∧ t.data = s.data ∧ t.regs = s.regs)) ∧
  (∀ s : State, ∀ n < 32, ∀ o d, s.whole → (s.core n).runs 2 = some o → o.kind = opDrain → parseDrain o.d = d → d.m = 1 → d.n = 1 →
    Does (.outputOpDone n) s (fun t => t.acc = s.acc ∧ (t.core n).out.q = (s.core n).out.q.tail ∧
      t.data = (s.putData n d.dst (toBytes (fmtSize (cfgFmt (s.core n).cfg.d))
        (outElem (s.core n).cfg o.seed d.salt 0 0 d.col0 (s.accGet n d.acc)).1)).data)) ∧
  (∀ s : State, ∀ n < 32, ∀ c ∈ [(Instr.matrixOpDone n, 0), (Instr.vpOpDone n, 1), (Instr.outputOpDone n, 2)], (s.core n).runs c.2 = none →
    exec c.1 s = .next s) ∧
  (∀ s : State, ∀ n < 32, ∀ o v a u c p d x, (s.core n).runs (if v then 1 else 0) = some o →
    s.struckNow = [] → (s.checkMade n o v a u c p x && checkFails o v c d x) = false → exec (.checksumFault n v a u c p d x) s = .next s) ∧
  (∀ s : State, ∀ n < 32, ∀ o v a u c p d x, s.whole → (s.core n).runs (if v then 1 else 0) = some o → s.checkMade n o v a u c p x = true →
    checkFails o v c d x = true → s.struckNow = [] → s.chkFirst n = false → s.coreDropped n = false → s.busy n = true → (s.core n).inst = none →
    Does (.checksumFault n v a u c p d x) s (fun t => t.cstate n = cIdle ∧ t.fld CORE_JOBST_STATUS n = 3 ∧ t.chkFirst n = true ∧ t.evt PWR_EVENT 2 ∧
      t.regN CORE_MTXCHKD n = (if checkInt o v then d % 2 ^ 32 else d % 2 ^ 31) ∧ t.fld CORE_MTXCHK_VALID n = 1 ∧ t.fld CORE_MTXCHK_PASS n = p % 65536)) ∧
  (∀ s : State, ∀ n < 32, ∀ o v a u c p d x, s.whole → (s.core n).runs (if v then 1 else 0) = some o → s.checkMade n o v a u c p x = true →
    checkFails o v c d x = true → s.struckNow = [] → s.chkFirst n = true → s.coreDropped n = false →
    s.hlth.flog.length < 16 → Does (.checksumFault n v a u c p d x) s (fun t => Fenced 0 n 1 s t ∧ t.cstate n = cDropped ∧
      (s.busy n = true → (s.core n).inst = none → t.fld CORE_JOBST_STATUS n = 5)))

/-- What fences a unit (R225, R250, R251, R319, R447 to R454): the watchdogs, errors of stores and registers, and the host. That a command whose
condition is not met leaves the machine as it is, is the model's choice (log entry 2). -/
def Obligations.Fences : Prop :=
  (∀ s : State, ∀ n < 32, s.wdExpired n = true → s.coreDropped n = false → s.struckNow = [] → s.hlth.flog.length < 16 → Does (.coreWatchdogExpiry n) s (fun t =>
    Fenced 0 n 3 s t ∧ t.cstate n = cDropped)) ∧
  (∀ s : State, ∀ n < 32, s.wdExpired n = false → exec (.coreWatchdogExpiry n) s = .next s) ∧
  (∀ s : State, ∀ k < 2, ∀ v, (s.engine k).run = some v → s.fld SOL_WDT_PERIOD k ≠ 0 →
    250 * s.fld SOL_WDT_PERIOD k < s.rnd.clk - v.startAt → s.unitDropped 1 k = false →
    s.struckNow = [] → s.hlth.flog.length < 16 → Does (.solverWatchdog k) s (fun t => Fenced 1 k 3 s t ∧ t.fld SOL_STATUS_STATE k = 3 ∧ (s.whole → (t.engine k).run = none))) ∧
  (∀ s : State, ∀ k < 2, ∀ v, (s.engine k).run = some v →
    (s.fld SOL_WDT_PERIOD k = 0 ∨ s.rnd.clk - v.startAt ≤ 250 * s.fld SOL_WDT_PERIOD k) → exec (.solverWatchdog k) s = .next s) ∧
  (∀ s : State, ∀ k i, k ≠ 5 → k ≠ 6 → i < unitCount k → s.unitDropped k i = false → s.struckNow = [] → s.hlth.flog.length < 16 → Does (.storeEccError k i) s (fun t => Fenced k i 2 s t)) ∧
  (∀ s : State, ∀ k ∈ [1, 4, 7, 9], ∀ i, i < unitCount k → s.unitDropped k i = false → s.struckNow = [] → s.hlth.flog.length < 16 → Does (.parityError k i) s (fun t => Fenced k i 4 s t)) ∧
  (∀ s : State, ∀ k i, k ≠ 6 → i < unitCount k → s.unitDropped k i = false → s.struckNow = [] → s.hlth.flog.length < 16 → Does (.hostFence k i) s (fun t => Fenced k i 7 s t)) ∧
  (∀ s : State, ∀ k i, s.unitDropped k i = true → s.struckNow.find? (fun x => decide (x.unit = 256 * k + i)) = none →
    exec (.hostFence k i) s = .next s) ∧
  (∀ s : State, ∀ k i, ∀ x l r, k ≠ 5 → k ≠ 6 → i < unitCount k → s.unitDropped k i = true →
    s.struckNow.find? (fun x => decide (x.unit = 256 * k + i)) = some x → 2 < x.cause → x.cause < 16 → r < 2 ^ 15 →
    s.hlth.flog = l ++ [i + 2 ^ 8 * k + 2 ^ 12 * x.cause + 2 ^ 16 * r + 2 ^ 31] → Does (.storeEccError k i) s (fun t =>
      t.hlth.flog = l ++ [i + 2 ^ 8 * k + 2 ^ 12 * 2 + 2 ^ 16 * r + 2 ^ 31] ∧ sameRegsBut [PWR_FLOG.base] s t)) ∧
  (∀ s : State, ∀ k i, ∀ x, k ≠ 5 → k ≠ 6 → i < unitCount k → s.unitDropped k i = true →
    s.struckNow.find? (fun x => decide (x.unit = 256 * k + i)) = some x → x.cause ≤ 2 → exec (.storeEccError k i) s = .next s) ∧
  (∀ s : State, ∀ p < 6, ∀ f, (s.lp p).frames.find? (fun f => f.closed && !f.done) = some f → presentTicks f.w < s.rnd.clk - f.lastAt → s.unitDropped 2 p = false →
    s.struckNow = [] → s.hlth.flog.length < 16 → Does (.pipelineWdt p) s (fun t => Fenced 2 p 3 s t)) ∧
  (∀ s : State, ∀ p < 6, ∀ f, (s.lp p).frames.find? (fun f => f.closed && !f.done) = some f → s.rnd.clk - f.lastAt ≤ presentTicks f.w →
    exec (.pipelineWdt p) s = .next s) ∧
  (∀ s : State, ∀ l < 6, s.fld PURL_STAT_STATE l = 1 → s.live PURL_CFG_RTMAX ≤ s.fld PURL_STAT_FAILS l + 1 → s.struckNow = [] → s.hlth.flog.length < 15 →
    Does (.purlRetrainDone l false) s (fun t => Fenced 6 l 8 s t ∧ t.evt MESH_EVENT 2)) ∧
  (∀ s : State, ∀ e l, s.hlth.flog = e :: l → Does .pwrFlogPop s (fun t => t.hlth.flog = l ∧ t.regN PWR_FLOG = (l.headD 0) % 2 ^ 32 ∧
    t.resp = { rq := .host, st := 0, data := toBytes 4 (s.regN PWR_FLOG) } ∧ sameRegsBut [PWR_FLOG.base] s t))

/-- Revive, corrected errors and the memory of checksum faults (R448, R455, R457). That a command whose condition is not met leaves the machine as it
is, is the model's choice (log entry 2). -/
def Obligations.Recovery : Prop :=
  (∀ s : State, ∀ k i, k ≠ 5 → k ≠ 6 → i < unitCount k → s.unitDropped k i = true → s.unitDieDropped k i = false → s.fld PWR_BOSTAT_STAGE = 0 → s.hlth.revive = none →
    s.pat.readm = none → Does (.unitRevive k i) s (fun t => t.hlth.revive = some (k, i) ∧ t.fld PWR_FSTAT_BUSY = 1 ∧ sameRegsBut [PWR_FSTAT.base] s t)) ∧
  (∀ s : State, ∀ k i, (k = 5 ∨ k = 6 ∨ unitCount k ≤ i ∨ s.unitDropped k i = false ∨ s.hlth.revive.isSome = true) → Does (.unitRevive k i) s (fun t =>
    t.fld PWR_FSTAT_RESULT = 3 ∧ t.hlth = s.hlth ∧ sameRegsBut [PWR_FSTAT.base] s t)) ∧
  (∀ s : State, ∀ n < 32, s.hlth.revive = some (0, n) → s.unitDieDropped 0 n = false → Does (.reviveDone true) s (fun t => t.unitDropped 0 n = false ∧
    t.hlth.revive = none ∧ t.fld PWR_FSTAT_BUSY = 0 ∧ t.fld PWR_FSTAT_RESULT = 1 ∧ t.evt PWR_EVENT 3 ∧ t.chkFirst n = false ∧ t.cstate n = cIdle ∧
    (∀ a < 0x100000, memGet dflt0 t.data (dataAt n a) = 0) ∧ (∀ a < 0x10000, memGet dfltF t.inst (instAt n a) = 0xFF))) ∧
  (∀ s : State, ∀ u, s.hlth.revive = some u → Does (.reviveDone false) s (fun t => t.hlth.revive = none ∧ t.fld PWR_FSTAT_BUSY = 0 ∧ t.fld PWR_FSTAT_RESULT = 2 ∧
    sameRegsBut [PWR_FSTAT.base] s t)) ∧
  (∀ s : State, ∀ p, s.hlth.revive = none → exec (.reviveDone p) s = .next s) ∧
  (∀ s : State, ∀ k ∈ [0, 1], ∀ n < 32, (look s.hlth.ecc (64 * k + n)).getD 0 + 1 < s.live PWR_HCFG_ECCTHR → Does (.correctedEcc k n) s (fun t =>
    t.fld CORE_CNT_ECCCOR n = s.counted CORE_CNT_ECCCOR n ∧ look t.hlth.ecc (64 * k + n) = some ((look s.hlth.ecc (64 * k + n)).getD 0 + 1) ∧
    sameRegsBut [CORE_CNT.at n] s t)) ∧
  (∀ s : State, ∀ k < 4, ∀ i, i < (if k ≤ 1 then 32 else if k = 2 then 2 else 1) → s.live PWR_HCFG_ECCTHR ≤ (look s.hlth.ecc (64 * k + i)).getD 0 + 1 →
    64 * k + i ∉ s.hlth.eccDone → Does (.correctedEcc k i) s (fun t => t.evt PWR_EVENT 5 ∧ 64 * k + i ∈ t.hlth.eccDone)) ∧
  (∀ s : State, ∀ n < 32, ∀ r, s.live PWR_HCFG_CHKWIN ≠ 0 → look s.hlth.chkRnd n = some r →
    s.live PWR_HCFG_CHKWIN ≤ (s.count48 + 2 ^ 48 - r) % 2 ^ 48 → Does .chkWindowExpiry s (fun t => t.chkFirst n = false ∧ look t.hlth.chkRnd n = none ∧
      sameRegsBut [PWR_CHK1.base] s t)) ∧
  (∀ s : State, s.live PWR_HCFG_CHKWIN = 0 → exec .chkWindowExpiry s = .next s)

/-- Clocks and temperature (R459, R461, R462, R464). That a command whose condition is not met leaves the machine as it is, is the model's choice (log
entry 2). -/
def Obligations.ClocksAndTemperature : Prop :=
  (∀ s : State, ∀ n < 32, ∀ m, s.coreDropped n = false → s.coreFloor n < s.fld CLK_CORE_FREQ n → s.coreFloor n < 2 ^ 11 → Does (.avfsEvaluation n m true) s (fun t =>
    t.fld CLK_CORE_FREQ n = max (s.coreFloor n) (s.fld CLK_CORE_FREQ n - 25) ∧ t.fld CLK_CORE_LIMIT n = 0 ∧ t.fld CLK_CORE_VCODE n = s.fld CLK_CORE_VCODE n ∧
    sameRegsBut [CLK_CORE.at n] s t)) ∧
  (∀ s : State, ∀ n < 32, ∀ m, s.whole → s.coreDropped n = false → s.fld CLK_CORE_FREQ n ≤ s.coreFloor n → 25 ≤ s.fld CLK_CORE_VCODE n →
    (s.core n).avLimit + 1 < 64 → Does (.avfsEvaluation n m true) s (fun t => t.fld CLK_CORE_FREQ n = s.fld CLK_CORE_FREQ n ∧
      t.fld CLK_CORE_VCODE n = s.fld CLK_CORE_VCODE n ∧ t.fld CLK_CORE_LIMIT n = 1 ∧ (t.core n).avLimit = (s.core n).avLimit + 1 ∧
      sameRegsBut [CLK_CORE.at n] s t)) ∧
  (∀ s : State, ∀ n < 32, s.whole → s.coreDropped n = false → (s.core n).avMargin = 3 → s.coreCeil n < 2 ^ 11 → Does (.avfsEvaluation n true false) s (fun t =>
    t.fld CLK_CORE_FREQ n = max (s.fld CLK_CORE_FREQ n) (min (s.fld CLK_CORE_FREQ n + 25) (s.coreCeil n)) ∧ (t.core n).avMargin = 0 ∧
    sameRegsBut [CLK_CORE.at n] s t)) ∧
  (∀ s : State, ∀ n < 32, s.whole → s.coreDropped n = false → (s.core n).avMargin < 3 → Does (.avfsEvaluation n true false) s (fun t =>
    t.fld CLK_CORE_FREQ n = s.fld CLK_CORE_FREQ n ∧ (t.core n).avMargin = (s.core n).avMargin + 1)) ∧
  (∀ s : State, ∀ n < 32, ∀ m a, s.coreDropped n = true → exec (.avfsEvaluation n m a) s = .next s) ∧
  (∀ s : State, ∀ l : List (Option Nat), Does (.tmpSensorSample l) s (fun t => ∀ k < 12, t.fld TMP_TEMP k = (match l.getD k none with
    | some x => x % 2 ^ 16
    | none => s.fld TMP_TEMP k))) ∧
  (∀ s : State, ∀ x, s.sensorBad 0 = false → -960 ≤ sInt 16 x → sInt 16 x ≤ 2880 → s.fld TMP_LIM_WCLR < s.fld TMP_LIM_WSET →
    s.fld TMP_LIM_WSET ≤ s.fld TMP_LIM_CRIT → ((16 * s.fld TMP_LIM_WSET : Nat) : Int) < sInt 16 x → 0 ∉ s.hlth.warn →
    Does (.tmpSensorSample [some x]) s (fun t => 0 ∈ t.hlth.warn ∧ t.evt TMP_EVENT 0 ∧ (16 * s.fld TMP_LIM_CRIT < sInt 16 x → 0 ∈ t.hlth.crit) ∧
      (16 * s.fld TMP_LIM_TRIP < sInt 16 x → 0 ∈ t.hlth.trip ∧ (0 ∉ s.hlth.trip → t.fld TMP_STATUS_TRIP = 1)))) ∧
  (∀ s : State, ∀ x, s.sensorBad 0 = false → (sInt 16 x < -960 ∨ 2880 < sInt 16 x) → Does (.tmpSensorSample [some x]) s (fun t => t.fld TMP_FAIL 0 = 1 ∧
    t.evt TMP_EVENT 7 ∧ 0 ∉ t.hlth.warn ∧ 0 ∉ t.hlth.crit)) ∧
  (∀ s : State, ∀ k < 12, s.sensorBad k = false → 250000 ≤ s.rnd.clk - s.hlth.upd.getD k 0 → Does (.sensorStale k) s (fun t => t.fld TMP_FAIL k = 1 ∧
    t.evt TMP_EVENT 7 ∧ k ∉ t.hlth.warn ∧ k ∉ t.hlth.crit ∧ t.fld TMP_TEMP k = s.fld TMP_TEMP k)) ∧
  (∀ s : State, ∀ k < 12, (s.sensorBad k = true ∨ s.rnd.clk - s.hlth.upd.getD k 0 < 250000) → exec (.sensorStale k) s = .next s)

/-- The Framer: windows are fixed LAG stitches after their end, COMMIT is written last, and capture rings go through the states of Table 6.5 (R145,
R146, R150, R154 to R157). That an emission whose set is not committed yet delivers nothing, and that a set whose core is dropped before its COMMIT
counts as skipped, are the model's choices (log entry 41). That a command whose condition is not met leaves the machine as it is, is the model's
choice (log entry 2). -/
def Obligations.FramerOperations : Prop :=
  (∀ s : State, (s.flag PWR_DROP_UNIT_WFM = true ∨ s.boot.halted = true) → exec .windowFinalize s = .next s) ∧
  (∀ s : State, ∀ c < 48, ∀ w, c < s.wfm.slots.length → s.flag PWR_DROP_UNIT_WFM = false → s.boot.halted = false → (∀ d, d ≠ c → (s.fslot d).win = none) →
    (s.fslot c).win = some w → s.wfld w WFM_CHCFG_EN c = 1 → w + s.winLen w c + s.wfld w WFM_CFG_LAG ≤ s.absStitch →
    (∀ x ∈ (s.fslot c).wins, x.start < w) →
    s.wfld (w + s.winLen w c) WFM_CHCFG_EN c = 1 →
    s.absStitch < w + s.winLen w c + s.winLen (w + s.winLen w c) c + s.wfld (w + s.winLen w c) WFM_CFG_LAG → Does .windowFinalize s (fun t =>
      (t.fslot c).win = some (w + s.winLen w c) ∧ ∃ x, (t.fslot c).wins = (x :: (s.fslot c).wins).take 8 ∧ x.start = w ∧ x.len = s.winLen w c ∧
        x.fin = s.absStitch)) ∧
  (∀ s : State, ∀ c < 48, ∀ w, (∀ d, d ≠ c → (s.fslot d).win = none) → (s.fslot c).win = some w → s.wfld w WFM_CHCFG_EN c = 1 →
    s.absStitch < w + s.winLen w c + s.wfld w WFM_CFG_LAG → (∀ x ∈ (s.fslot c).wins, x.start < w) → exec .windowFinalize s = .next s) ∧
  (∀ s : State, ∀ e < 64, ∀ d, s.boot.halted = false → s.wfm.out.find? (fun x => x.em = e) = some d → s.coreDropped d.core = false → d.mrk = none →
    s.hubUnacked d.core d.cls = false → s.sendBehind 34 d.core d.cls s.mesh.num = false → Does (.emissionCommit e) s (fun t => t.wfm.out = s.wfm.out.erase d ∧ t.data = (s.putData d.core (d.addr + 60) (toBytes 4 d.seq)).data ∧
      t.regs = s.regs ∧ t.mesh = s.mesh)) ∧
  (∀ s : State, ∀ e < 64, ∀ d, s.boot.halted = false → s.wfm.out.find? (fun x => x.em = e) = some d → s.coreDropped d.core = true →
    Does (.emissionCommit e) s (fun t => t.wfm.out = s.wfm.out.erase d ∧ t.data = s.data ∧ t.fld WFM_CNT_SKIP_SKIP = s.counted WFM_CNT_SKIP_SKIP ∧
      t.evt WFM_EVENT 2)) ∧
  (∀ s : State, ∀ k < 4, ∀ q, s.wfm.ringq.find? (fun x => x.ring = k) = some q → Does (.ringRecordDone k true) s (fun t =>
    t.lpddr = (s.putLpddr q.addr q.bytes).lpddr ∧ t.wfm.ringq = s.wfm.ringq.erase q ∧
    t.rgState k = (if s.rgState k = 2 ∧ nearMod 48 q.round (s.trnd k) + s.live WFM_RGCFG_POST k ≤ q.round then 3 else s.rgState k) ∧
    (s.rgState k = 2 → nearMod 48 q.round (s.trnd k) + s.live WFM_RGCFG_POST k ≤ q.round → t.evt WFM_EVENT 1))) ∧
  (∀ s : State, ∀ k < 4, ∀ q, s.wfm.ringq.find? (fun x => x.ring = k) = some q → Does (.ringRecordDone k false) s (fun t =>
    t.wfm.ringq = s.wfm.ringq.erase q ∧ t.fld WFM_CNT_RING_RINGDROP = s.counted WFM_CNT_RING_RINGDROP ∧ t.evt WFM_EVENT 4 ∧
    t.rgState k = (if s.rgState k = 2 ∧ nearMod 48 q.round (s.trnd k) + s.live WFM_RGCFG_POST k ≤ q.round then 3 else s.rgState k))) ∧
  (∀ s : State, s.reaches .host WFM_TRGQ.base → Does .wfmTrgqPop s (fun t => t.resp.data = toBytes 4 (s.regN WFM_TRGQ) ∧ t.wfm.trgq = s.wfm.trgq.tail ∧
    t.regN WFM_TRGQ = ((s.wfm.trgq.tail.head?).getD 0) % 2 ^ 32 ∧ sameRegsBut [WFM_TRGQ.base] s t)) ∧
  (∀ s : State, ∀ k < 4, s.reaches .host (WFM_RGCTRL.at k) → s.rgState k = 3 → Does (.ringRearmWrite k) s (fun t => t.rgState k = 1 ∧ sameRegsBut [WFM_RGSTAT.at k] s t)) ∧
  (∀ s : State, ∀ k < 4, s.reaches .host (WFM_RGCTRL.at k) → s.rgState k ≠ 3 → exec (.ringRearmWrite k) s = .next s) ∧
  (∀ s : State, ∀ k < 4, s.reaches .host (WFM_RGCTRL.at k) → s.rgState k = 1 →
    (∀ d, look s.wfm.ringDone k = some d → d < nearMod 48 d s.count48 + s.live WFM_RGCFG_POST k) →
    Does (.ringForceWrite k) s (fun t => t.rgState k = 2 ∧ t.trnd k = s.count48 ∧ t.fld WFM_RGSTAT_NTRG k = 0 ∧
      sameRegsBut [WFM_RGSTAT.at k, WFM_RGTRND_LO.at k, WFM_RGTRND_HI.at k] s t)) ∧
  (∀ s : State, ∀ k < 4, s.reaches .host (WFM_RGCTRL.at k) → s.rgState k ≠ 1 → exec (.ringForceWrite k) s = .next s)

/-- A camera port: frames open and close, packets are classified, errors and lines without a frame are counted (R162 to R168, R172). That a command
whose condition is not met leaves the machine as it is, is the model's choice (log entry 2). -/
def Obligations.CameraFrames : Prop :=
  (∀ s : State, ∀ p < 6, ∀ vc, ∀ hdr < 2, ∀ ecc, p < s.cam.lps.length → s.flag CAM_PCTRL_COMMIT p = false → s.flag ISP_LPCTRL_COMMIT p = false → s.camState p = 1 →
    s.camListens p = true → s.live CAM_STREAM_VC p = vc → (s.camPort p).edges = [] → s.lpOn p = true → (s.lp p).frames.length < 2 →
    Does (.frameStart p ⟨vc, hdr, ecc⟩) s (fun t => t.camState p = 2 ∧ (t.lp p).frames.length = (s.lp p).frames.length + 1 ∧
      t.regN CAM_FCNT p = (s.regN CAM_FCNT p + 1) % 2 ^ 32 ∧ t.fld CAM_CNT_FRM_NOSYNC p = s.counted CAM_CNT_FRM_NOSYNC p ∧ t.evtAt CAM_EVENT p 4 ∧
      (hdr = 1 → t.fld CAM_CNT_PKT_HDRCOR p = s.counted CAM_CNT_PKT_HDRCOR p))) ∧
  (∀ s : State, ∀ p < 6, ∀ vc, ∀ hdr < 2, ∀ ecc, s.flag CAM_PCTRL_COMMIT p = false → s.flag ISP_LPCTRL_COMMIT p = false → s.camState p = 1 →
    s.camListens p = true → s.live CAM_STREAM_VC p = vc → 2 ≤ (s.lp p).frames.length → Does (.frameStart p ⟨vc, hdr, ecc⟩) s (fun t => t.camState p = 3 ∧
      (t.lp p).frames.length = (s.lp p).frames.length ∧ t.regN CAM_FCNT p = s.regN CAM_FCNT p ∧
      t.fld CAM_CNT_FRM_DROP p = s.counted CAM_CNT_FRM_DROP p ∧ t.evtAt CAM_EVENT p 0)) ∧
  (∀ s : State, ∀ p < 6, ∀ vc ecc, s.flag CAM_PCTRL_COMMIT p = false → s.flag ISP_LPCTRL_COMMIT p = false → s.live CAM_STREAM_VC p ≠ vc →
    exec (.frameStart p ⟨vc, 0, ecc⟩) s = .next s) ∧
  (∀ s : State, ∀ p < 6, ∀ vc ecc, ∀ c ∈ [Instr.frameStart p ⟨vc, 2, ecc⟩, Instr.frameEnd p ⟨vc, 2⟩], s.flag CAM_PCTRL_COMMIT p = false →
    s.flag ISP_LPCTRL_COMMIT p = false → s.camListens p = true → Does c s (fun t => t.fld CAM_CNT_PKT_HDRERR p = s.counted CAM_CNT_PKT_HDRERR p ∧
      t.evtAt CAM_EVENT p 1 ∧ t.camState p = s.camState p)) ∧
  (∀ s : State, ∀ p < 6, ∀ ecc, s.committed (.cam p) = true → s.camOpen p = true → s.fld CAM_PHY_EN p = 0 → s.camReject p = 0 → s.camDropped p = false →
    Does (.stagedSetApply (.cam p) ecc) s (fun t => t.camState p = 0 ∧ t.openFrame p = none ∧ t.fld CAM_PCTRL_COMMIT p = 0 ∧ t.evtAt CAM_EVENT p 8 ∧
      t.evtAt CAM_EVENT p 12)) ∧
  (∀ s : State, ∀ p < 6, ∀ vc, ∀ hdr < 2, s.camOpen p = true → s.camListens p = true → s.live CAM_STREAM_VC p = vc → Does (.frameEnd p ⟨vc, hdr⟩) s (fun t =>
    t.camState p = 1 ∧ t.openFrame p = none ∧ t.fld CAM_LAST_LINES p = min (s.camPort p).lines 16383 ∧
    t.fld CAM_LAST_WIDTH p = min (s.camPort p).wide 16383)) ∧
  (∀ s : State, ∀ p < 6, ∀ vc, s.camOpen p = false → exec (.frameEnd p ⟨vc, 0⟩) s = .next s) ∧
  (∀ s : State, ∀ p < 6, s.camOpen p = true → 250000 * s.live CAM_STREAM_FETMO p ≤ s.rnd.clk - (s.camPort p).last → Does (.frameEndTimeout p) s (fun t =>
    t.camState p = s.live CAM_PHY_EN p ∧ t.openFrame p = none ∧ t.evtAt CAM_EVENT p 8)) ∧
  (∀ s : State, ∀ p < 6, s.rnd.clk - (s.camPort p).last < 250000 * s.live CAM_STREAM_FETMO p → exec (.frameEndTimeout p) s = .next s) ∧
  (∀ s : State, ∀ p < 6, ∀ vc dt ok full ds, s.camListens p = true → Does (.longPacketRx p vc dt 2 ok full ds) s (fun t =>
    t.fld CAM_CNT_PKT_HDRERR p = s.counted CAM_CNT_PKT_HDRERR p ∧ t.evtAt CAM_EVENT p 1 ∧ t.camState p = s.camState p)) ∧
  (∀ s : State, ∀ p < 6, ∀ vc dt ok full ds, s.camListens p = true → (dt = 0x10 ∨ dt = 0x11) → exec (.longPacketRx p vc dt 0 ok full ds) s = .next s) ∧
  (∀ s : State, ∀ p < 6, ∀ vc dt ok full ds, s.camListens p = true → vc = s.live CAM_STREAM_VC p → dt = s.live CAM_STREAM_DT p → dt ≠ 0x10 → dt ≠ 0x11 →
    s.camOpen p = false → Does (.longPacketRx p vc dt 0 ok full ds) s (fun t => t.fld CAM_CNT_MISC_ORPHAN p = s.counted CAM_CNT_MISC_ORPHAN p ∧
      sameRegsBut [CAM_CNT_MISC.at p] s t ∧ t.cam = s.cam)) ∧
  (∀ s : State, ∀ p < 6, ∀ vc dt ok full ds, s.camListens p = true → vc = s.live CAM_STREAM_VC p → dt ≠ s.live CAM_STREAM_DT p → dt ≠ 0x10 → dt ≠ 0x11 →
    s.live CAM_STREAM_EMBEN p = 0 → Does (.longPacketRx p vc dt 0 ok full ds) s (fun t =>
      t.fld CAM_CNT_MISC_DT_UNSUP p = s.counted CAM_CNT_MISC_DT_UNSUP p ∧ t.evtAt CAM_EVENT p 10 ∧ t.camState p = s.camState p)) ∧
  (∀ s : State, ∀ p < 6, ∀ vc dt ds f, s.camListens p = true → vc = s.live CAM_STREAM_VC p → dt = s.live CAM_STREAM_DT p → dt ≠ 0x10 → dt ≠ 0x11 →
    s.camOpen p = true → (s.lp p).frames = [f] → p < s.cam.lps.length → f.closed = false → f.y0 ≤ (s.camPort p).lines → (s.camPort p).lines < f.y0 + f.h →
    f.x0 + f.w ≤ ds.length → Does (.longPacketRx p vc dt 0 true false ds) s (fun t => (t.lp p).frames = [{ f with
      rows := f.rows ++ [((s.camPort p).lines - f.y0, (List.range f.w).map (fun x => ds.getD (f.x0 + x) 0 * 2 ^ (16 - dtBits f.dt) % 65536))],
      lastAt := s.rnd.clk }] ∧ t.regs = s.regs))

/-- Synchronized exposures: pulses are placed, driven and ended, and the exposure centre is stamped (R169 to R172). That a command whose condition is
not met leaves the machine as it is, is the model's choice (log entry 2). -/
def Obligations.FsyncPulses : Prop :=
  (∀ s : State, ∀ p < 6, p < s.cam.ports.length → ∀ i < 8, i < s.cam.profs.length → s.reaches .host CAM_FSW.base → s.boot.halted = false → s.camDropped p = false →
    s.profOk (s.regN CAM_FSPROF_LO i) (s.regN CAM_FSPROF_HI i) = true → (s.camPort p).plan = none → (s.camPort p).pulseEnd = none →
    Does (.camFswFire (2 ^ p) i) s (fun t => (t.camPort p).plan = some ⟨s.rnd.clk + 1,
      2 * nbits (s.regN CAM_FSPROF_LO i) 20 12 + nbits (s.regN CAM_FSPROF_LO i) 0 20, nbits (s.regN CAM_FSPROF_HI i) 10 10, false⟩ ∧
      t.fld CAM_FSW_PROF = i ∧ sameRegsBut [CAM_FSW.base] s t)) ∧
  (∀ s : State, ∀ p < 6, ∀ i < 8, s.reaches .host CAM_FSW.base → s.boot.halted = false → s.camDropped p = false → s.profOk (s.regN CAM_FSPROF_LO i) (s.regN CAM_FSPROF_HI i) = true →
    (s.camPort p).plan ≠ none → Does (.camFswFire (2 ^ p) i) s (fun t => (t.camPort p).plan = (s.camPort p).plan ∧
      t.fld CAM_CNT_MISC_FSOVL p = s.counted CAM_CNT_MISC_FSOVL p ∧ t.evtAt CAM_EVENT p 6)) ∧
  (∀ s : State, ∀ p < 6, ∀ i < 8, s.reaches .host CAM_FSW.base → s.boot.halted = false → s.camDropped p = false → s.profOk (s.regN CAM_FSPROF_LO i) (s.regN CAM_FSPROF_HI i) = false →
    Does (.camFswFire (2 ^ p) i) s (fun t => (t.fld CAM_FSSTAT_CFG_MISMATCH).testBit i = true ∧ t.evtAt CAM_EVENT p 13)) ∧
  (∀ s : State, ∀ p < 6, p < s.cam.ports.length → ∀ u, (s.camPort p).plan = some u → u.tick ≤ s.rnd.clk → s.boot.halted = false →
    (s.camPort p).edges.length < 4 → Does (.fsyncEdge p) s (fun t => (t.camPort p).plan = none ∧ (t.camPort p).pulseEnd = some (u.tick + 250 * u.width) ∧
      (t.camPort p).edges = (s.camPort p).edges ++ [{ tick := u.tick, lead := u.lead, miss := u.miss }] ∧ (t.fld CAM_FSSTAT_ACTIVE).testBit p = true ∧
      sameRegsBut [CAM_FSSTAT.base] s t)) ∧
  (∀ s : State, ∀ p < 6, p < s.cam.ports.length → ∀ u, (s.camPort p).plan = some u → u.tick ≤ s.rnd.clk → s.boot.halted = false →
    (s.camPort p).edges.length = 4 → Does (.fsyncEdge p) s (fun t => (t.camPort p).edges.length = 4 ∧
      t.fld CAM_CNT_MISC_FSLOST p = s.counted CAM_CNT_MISC_FSLOST p ∧ t.evtAt CAM_EVENT p 5 ∧ (t.fld CAM_FSSTAT_ACTIVE).testBit p = true)) ∧
  (∀ s : State, ∀ p < 6, (s.camPort p).plan = none → exec (.fsyncEdge p) s = .next s) ∧
  (∀ s : State, ∀ p < 6, ∀ e, (s.camPort p).pulseEnd = some e → e ≤ s.rnd.clk → (s.fld CAM_FSSTAT_ACTIVE).testBit p = true →
    Does (.fsyncPulseEnd p) s (fun t => t.fld CAM_FSSTAT_ACTIVE = s.fld CAM_FSSTAT_ACTIVE - 2 ^ p ∧ (t.fld CAM_FSSTAT_ACTIVE).testBit p = false ∧
      sameRegsBut [CAM_FSSTAT.base] s t)) ∧
  (∀ s : State, ∀ p < 6, Does (.exposureCentre p) s (fun t => (t.camPort p).edges.length = (s.camPort p).edges.length ∧
    (∀ e ∈ (t.camPort p).edges, e.centreTick ≤ s.rnd.clk → e.centre.isSome = true) ∧ t.regs = s.regs))

/-- Pipelines: a live frame is presented and its deliveries are owed, COMMIT comes last, re-process frames start and end with a code, and the
transmitter sends packet by packet (R175, R177, R182, R202 to R206). That a command whose condition is not met leaves the machine as it is, is the
model's choice (log entry 2). -/
def Obligations.PipelineFrames : Prop :=
  (∀ s : State, ∀ p < 6, ∀ loss f, p < s.cam.lps.length → s.lpDropped p = false → s.boot.halted = false → (s.lp p).frames = [f] → f.closed = true →
    f.done = false → f.dlvs = [] → Does (.pipelineFrameDone p loss) s (fun t => (t.lp p).frames.all (fun x => x.done) = true ∧
      (t.lp p).owed = (s.lp p).owed ∧ t.data = s.data ∧ (t.lp p).pb = (s.lp p).pb)) ∧
  (∀ s : State, ∀ p < 6, ∀ loss f d, p < s.cam.lps.length → s.lpDropped p = false → s.boot.halted = false → (s.lp p).frames = [f] → f.closed = true →
    f.done = false → f.dlvs = [d] → d.kind < 2 → Does (.pipelineFrameDone p loss) s (fun t =>
      (∃ c h, (t.lp p).owed = (s.lp p).owed ++ [{ fcnt := c, dlv := d, hdr := h }]) ∧
      (look loss.cuts d.k = none → loss.radMiss = none → (d.kind = 1 → s.coreDropped d.dcore = false) → (t.lp p).frames = [{ f with done := true }] ∧
        ∃ h, (t.lp p).owed = (s.lp p).owed ++ [{ fcnt := some f.fcnt, dlv := d, hdr := h }]))) ∧
  (∀ s : State, ∀ p < 6, ∀ loss, (s.lp p).frames = [] → exec (.pipelineFrameDone p loss) s = .next s) ∧
  (∀ s : State, ∀ p < 6, ∀ k < 6, ∀ o, p < s.cam.lps.length → s.boot.halted = false → (s.lp p).owed.find? (fun x => x.dlv.k = k) = some o →
    o.dlv.kind = 0 → o.dlv.mrken = false → Does (.deliveryCommit p k) s (fun t =>
      t.lpddr = ((s.putLpddr o.dlv.place.1 o.hdr).putLpddr (o.dlv.place.1 + 60) (toBytes 4 o.dlv.seq)).lpddr ∧ (t.lp p).owed = (s.lp p).owed.erase o ∧
      t.fld CAM_DLVCNT_DONE p o.dlv.k = min (s.fld CAM_DLVCNT_DONE p o.dlv.k + 1) (2 ^ CAM_DLVCNT_DONE.w - 1) ∧ t.data = s.data)) ∧
  (∀ s : State, ∀ p < 6, ∀ k < 6, (s.lp p).owed = [] → exec (.deliveryCommit p k) s = .next s) ∧
  (∀ s : State, (s.txOn = false ∨ s.boot.parked = true) → exec .txPacketSend s = .next s) ∧
  (∀ s : State, ∀ x dt bs rest, s.txOn = true → s.boot.parked = false → txNext s.cam.tx = some x → x.pkts = (dt, bs) :: rest → dt ≠ 1 → Does .txPacketSend s (fun t =>
    t.cam.tx.sent = some (x.vc, dt, bs) ∧ t.cam.tx.last = x.vc ∧ t.fld CAM_TXCNT_FRAMES = s.fld CAM_TXCNT_FRAMES)) ∧
  (∀ s : State, ∀ x bs, s.txOn = true → s.boot.parked = false → txNext s.cam.tx = some x → x.pkts = [(1, bs)] → Does .txPacketSend s (fun t =>
    t.cam.tx.sent = some (x.vc, 1, bs) ∧ t.cam.tx.srcs = s.cam.tx.srcs.erase x ∧ t.fld CAM_TXCNT_FRAMES = s.counted CAM_TXCNT_FRAMES)) ∧
  (∀ s : State, ∀ q < 2, ∀ c < 16, s.reaches .host (ISP_RPKICK.at q) → s.rpDropped q = false → s.flag PAT_STATUS_ACTIVE = false → s.live ISP_RPCCTRL_EN q c = 1 →
    Does (.ispRpkickWrite q (2 ^ c)) s (fun t => t.fld ISP_RPKICK_KICK q = (s.fld ISP_RPKICK_KICK q ||| 2 ^ c) ∧
      sameRegsBut [ISP_RPKICK.at q] s t)) ∧
  (∀ s : State, ∀ q < 2, ∀ c < 16, s.reaches .host (ISP_RPKICK.at q) → s.live ISP_RPCCTRL_EN q c = 0 → Does (.ispRpkickWrite q (2 ^ c)) s (fun t =>
    t.fld ISP_RPKICK_KICK q = s.fld ISP_RPKICK_KICK q ∧ t.evtAt ISP_RPEVENT q 2)) ∧
  (∀ s : State, ∀ q < 2, ∀ c ecc, (s.rp q).run = none → s.rpDropped q = false → s.boot.halted = false → s.nextFor (34 + q) = none →
    (bitsOf (s.fld ISP_RPKICK_KICK q) 16).head? = some c → s.flag ISP_RPCCTRL_COMMIT q c = false → s.live ISP_RPCCTRL_EN q c = 1 → s.rpSource q c = none →
    Does (.rpFrameStart ⟨q, ecc⟩) s (fun t => t.fld ISP_RPCSTAT_CODE q c = 1 ∧ t.fld ISP_RPKICK_KICK q = s.fld ISP_RPKICK_KICK q - 2 ^ c ∧
      t.fld ISP_RPCNT_FAIL q = s.counted ISP_RPCNT_FAIL q ∧ (t.rp q).run = none)) ∧
  (∀ s : State, ∀ q < 2, ∀ c a n ecc, q < s.cam.rps.length → (s.rp q).run = none → s.rpDropped q = false → s.boot.halted = false →
    s.nextFor (34 + q) = none → (bitsOf (s.fld ISP_RPKICK_KICK q) 16).head? = some c → s.flag ISP_RPCCTRL_COMMIT q c = false →
    s.live ISP_RPCCTRL_EN q c = 1 → s.rpSource q c = some (a, n) → srcBad (s.lpddrBytes a 64) (s.live ISP_RPCSRCSZ_STRIDE q c) = false →
    Does (.rpFrameStart ⟨q, ecc⟩) s (fun t => t.fld ISP_RPSTAT_BUSY q = 1 ∧ t.fld ISP_RPSTAT_CTX q = c ∧
      (t.rp q).run = some { ctx := c, inst := none, addr := a, seq := n, hdr := s.lpddrBytes a 64, startAt := s.rnd.clk })) ∧
  (∀ s : State, ∀ q < 2, ∀ ecc, (s.rp q).run ≠ none → exec (.rpFrameStart ⟨q, ecc⟩) s = .next s) ∧
  (∀ s : State, ∀ q < 2, ∀ loss r, (s.rp q).run = some r → r.ctx < 16 → r.inst = none → fieldLE (s.lpddrBytes (r.addr + 56) 4) 0 4 ≠ r.seq →
    Does (.rpFrameEnd q loss) s (fun t => t.fld ISP_RPCSTAT_CODE q r.ctx = 3 ∧ t.fld ISP_RPSTAT_BUSY q = 0 ∧ t.evtAt ISP_RPEVENT q 1 ∧
      t.regN ISP_RPCSEQ q r.ctx = r.seq % 2 ^ 32 ∧ (t.rp q).run = none)) ∧
  (∀ s : State, ∀ q < 2, ∀ loss r, (s.rp q).run = some r → r.ctx < 16 → r.inst = none → fieldLE (s.lpddrBytes (r.addr + 56) 4) 0 4 = r.seq →
    (∀ k < 4, (pbOut ((s.rp q).pbs.getD r.ctx []) k).en = false) → Does (.rpFrameEnd q loss) s (fun t => t.fld ISP_RPCSTAT_CODE q r.ctx = 0 ∧
      t.fld ISP_RPSTAT_BUSY q = 0 ∧ t.fld ISP_RPCNT_FRAMES q = s.counted ISP_RPCNT_FRAMES q ∧ (t.rp q).run = none)) ∧
  (∀ s : State, ∀ q < 2, ∀ loss, (s.rp q).run = none → exec (.rpFrameEnd q loss) s = .next s)

/-- The arithmetic words of Lace: the result of Table 14.3 is formed from the operands in the cycle of issue and lands after the word's latency
(R297, R327). -/
def Obligations.LaceArithmetic : Prop :=
  (∀ s : State, ∀ k v p l w c, s.whole → ∀ x ∈ [(Instr.laceFma k, 0, fun a b e => fma64 a b e), (Instr.laceFms k, 1, fun a b e => fma64 a b (neg64 e)),
      (Instr.laceFnma k, 2, fun a b e => fma64 (neg64 a) b e), (Instr.laceAdd k, 3, fun a b _ => add64 a b), (Instr.laceSub k, 4, fun a b _ => sub64 a b),
      (Instr.laceMul k, 5, fun a b _ => mul64 a b), (Instr.laceMax k, 6, fun a b _ => max64 a b), (Instr.laceMin k, 7, fun a b _ => min64 a b),
      (Instr.laceAbs k, 8, fun a _ _ => a % 2 ^ 63), (Instr.laceNeg k, 9, fun a _ _ => neg64 a), (Instr.laceMov k, 10, fun a _ _ => a),
      (Instr.laceSel k, 11, fun a b e => if isNan64 e || lt64 e 0 then b else a)],
    s.laceIssues k x.2.1 v p l w c → Does x.1 s (fun t =>
      LaceIssued k (c + 4) (lwRd w) (x.2.2 ((v.landTo c).d (lwRa w)) ((v.landTo c).d (lwRb w)) ((v.landTo c).d (lwRc w))) v c s t)) ∧
  (∀ s : State, ∀ k v p l w c, s.whole → s.laceIssues k 12 v p l w c → ∀ x < 8, lwX w = x → Does (.laceConst k) s (fun t =>
    LaceIssued k (c + 4) (lwRd w) (([0, 0x3FF0000000000000, 0xBFF0000000000000, 0x3FE0000000000000, 0x4000000000000000, 0x7FF0000000000000,
      0xFFF0000000000000, 0x7FF8000000000000] : List Nat).getD x 0) v c s t)) ∧
  (∀ s : State, ∀ k v p l w c, s.whole → s.laceIssues k 16 v p l w c → Does (.laceDiv k) s (fun t =>
    LaceIssued k (c + 14) (lwRd w) (div64 ((v.landTo c).d (lwRa w)) ((v.landTo c).d (lwRb w))) v c s t)) ∧
  (∀ s : State, ∀ k v p l w c, s.whole → s.laceIssues k 17 v p l w c → Does (.laceSqrt k) s (fun t =>
    LaceIssued k (c + 16) (lwRd w) (sqrt64 ((v.landTo c).d (lwRa w))) v c s t)) ∧
  (∀ s : State, ∀ k v p l w c, s.whole → ∀ x ∈ [(Instr.lacePivr k, 18, false, true), (Instr.lacePivrp k, 19, true, true), (Instr.laceGpiv k, 20, false, false),
      (Instr.laceGpivp k, 21, true, false)], s.laceIssues k x.2.1 v p l w c →
    ∀ a g, a = (v.landTo c).d (lwRa w) → g = guardPivot (s.live SOL_SLOTPIV_TAU_EXP k v.slot) (s.live SOL_SLOTPIV_DELTA_EXP k v.slot) x.2.2.1 a ((v.landTo c).d (lwRb w)) ((v.landTo c).d (lwRc w)) →
    Does x.1 s (fun t => ∃ u, (t.engine k).run = some u ∧ (c + 14, lwRd w, if x.2.2.2 then div64 0x3FF0000000000000 g.1 else g.1) ∈ u.lace.lands ∧
      u.npiv = (if g.2 = 0 then v.npiv else v.npiv + 1) ∧ u.flags = v.flags ||| g.2 ∧
      u.pividx = (if g.2 = 0 then v.pividx else some (v.pividx.getD (lwX w))) ∧ u.regs = (v.landTo c).regs ∧ t.sol = s.sol ∧ t.regs = s.regs))

/-- Memory and control words of Lace, and schedule faults (R327 to R333). That a command whose condition is not met leaves the machine as it is, is
the model's choice (log entry 2). -/
def Obligations.LaceControl : Prop :=
  (∀ s : State, ∀ k v p l w c, s.whole → s.laceIssues k 32 v p l w c → Does (.laceLd k) s (fun t =>
    LaceIssued k (c + 6) (lwRd w) (s.solLE k (s.solveBase k v (lwBase w) + 8 * (l.effOfs w).toNat) 8) v c s t)) ∧
  (∀ s : State, ∀ k v p l w c, s.whole → s.laceIssues k 33 v p l w c → Does (.laceSt k) s (fun t =>
    t.sol = (s.putSol k (s.solveBase k v (lwBase w) + 8 * (l.effOfs w).toNat) (toBytes 8 ((v.landTo c).d (lwRd w)))).sol ∧
    (∃ u, (t.engine k).run = some u ∧ u.lace.cyc = c ∧ u.regs = (v.landTo c).regs) ∧ t.regs = s.regs)) ∧
  (∀ s : State, ∀ k v p l w c, s.whole → s.laceIssues k 48 v p l w c → Does (.laceNop k) s (fun t =>
    (∃ u, (t.engine k).run = some u ∧ u.lace.cyc = c ∧ u.lace.base = c ∧ u.regs = (v.landTo c).regs) ∧ t.sol = s.sol ∧ t.regs = s.regs)) ∧
  (∀ s : State, ∀ k v p l w c, s.whole → s.laceIssues k 49 v p l w c → Does (.laceWait k) s (fun t =>
    (∃ u, (t.engine k).run = some u ∧ u.lace.cyc = c ∧ u.lace.base = c + lwX w ∧ u.regs = (v.landTo c).regs) ∧ t.sol = s.sol ∧ t.regs = s.regs)) ∧
  (∀ s : State, ∀ k v p l w c, s.whole → s.laceIssues k 50 v p l w c → lwX w < 3 → Does (.laceSpec k) s (fun t =>
    LaceIssued k (c + 4) (lwRd w) (if lwX w = 0 then (Num.fin false v.latch.arg 0).to64 else if lwX w = 1 then (if v.warmv then 0x3FF0000000000000 else 0)
      else (Num.fin false (k * 32 + v.slot) 0).to64) v c s t)) ∧
  (∀ s : State, ∀ k v p l w c, s.whole → s.laceIssues k 51 v p l w c → Does (.laceRep k) s (fun t =>
    (∃ u, (t.engine k).run = some u ∧ u.lace.pc = l.pc + 1 ∧ u.lace.reps = (l.pc + 1, lwLen w, lwX w, 0) :: l.reps ∧ u.lace.cyc = c) ∧
    t.sol = s.sol ∧ t.regs = s.regs)) ∧
  (∀ s : State, ∀ k v p l w c, s.whole → s.laceIssues k 52 v p l w c → Does (.laceEnd k) s (fun t => c = p.cyc - 1 ∧
    (∃ u, (t.engine k).run = some u ∧ u.lace.ended = some (lwRa w, lwRb w, lwRc w) ∧ u.regs = (v.landTo c).regs) ∧ t.sol = s.sol ∧ t.regs = s.regs)) ∧
  (∀ s : State, ∀ k < 2, ∀ v p, s.whole → s.laceRunning k = some (v, p) → p.nwords ≤ v.lace.pc → ∀ x ∈ [Instr.laceFma k, .laceFms k, .laceFnma k, .laceAdd k,
      .laceSub k, .laceMul k, .laceMax k, .laceMin k, .laceAbs k, .laceNeg k, .laceMov k, .laceSel k, .laceConst k, .laceDiv k, .laceSqrt k, .lacePivr k,
      .lacePivrp k, .laceGpiv k, .laceGpivp k, .laceLd k, .laceSt k, .laceNop k, .laceWait k, .laceSpec k, .laceRep k, .laceEnd k],
    Does x s (fun t => (t.engine k).run = some v.fault ∧ t.sol = s.sol ∧ t.regs = s.regs)) ∧
  (∀ s : State, ∀ k < 2, ∀ v p l w c, s.whole → s.laceRunning k = some (v, p) → v.lace.nextWord (s.laceSrc k p) p = some (l, w, c) → lwLegal w = false →
    ∀ x ∈ [Instr.laceFma k, .laceDiv k, .laceLd k, .laceEnd k], Does x s (fun t => (t.engine k).run = some v.fault ∧ t.sol = s.sol ∧ t.regs = s.regs)) ∧
  (∀ s : State, ∀ k < 2, s.laceRunning k = none → ∀ x ∈ [Instr.laceFma k, .laceDiv k, .laceLd k, .laceSt k, .laceEnd k], exec x s = .next s)

/-- What the host and the cores do to a slot of a solver engine: commits, kicks, resets, input channels (R302, R303, R305, R306, R313, R317). That a
message arrives whole, and that a flush discards at once what its channel holds, are the model's choices (log entry 107). That a command whose
condition is not met leaves the machine as it is, is the model's choice (log entry 2). -/
def Obligations.SolverSlots : Prop :=
  (∀ s : State, ∀ k < 2, ∀ i < 32, s.whole → i < (s.engine k).slots.length → s.reaches .host (SOL_SLOTCTRL.at k i) → s.slotOn k i = true → s.engineDropped k = false → (s.pslot k i).pendCommit = 0 →
    s.mayCommit k i = true → Does (.slotPgcommit k i) s (fun t => (t.pslot k i).commits = (s.pslot k i).commits + 1 ∧
      t.fld SOL_SLOTSTAT_CPAGE k i = s.fillPage k i ∧ t.fld SOL_SLOTSEQ_CMT k i = ((s.pslot k i).commits + 1) % 2 ^ SOL_SLOTSEQ_CMT.w ∧
      t.fld SOL_SLOTCTRL_PGCOMMIT k i = 0 ∧ (t.pslot k i).pendCommit = 0 ∧ t.sol = s.sol)) ∧
  (∀ s : State, ∀ k < 2, ∀ i < 32, s.whole → i < (s.engine k).slots.length → s.reaches .host (SOL_SLOTCTRL.at k i) → s.slotOn k i = true → s.engineDropped k = false → s.mayCommit k i = false →
    Does (.slotPgcommit k i) s (fun t => (t.pslot k i).commits = (s.pslot k i).commits ∧ t.fld SOL_SLOTCTRL_PGCOMMIT k i = 1 ∧
      (t.pslot k i).pendCommit = 1 ∧ t.fld SOL_SLOTSTAT_CPAGE k i = s.fld SOL_SLOTSTAT_CPAGE k i)) ∧
  (∀ s : State, ∀ k < 2, ∀ i < 32, s.reaches .host (SOL_SLOTCTRL.at k i) → (s.slotOn k i = false ∨ s.engineDropped k = true) → exec (.slotPgcommit k i) s = .next s) ∧
  (∀ s : State, ∀ k < 2, ∀ i < 32, s.whole → i < (s.engine k).slots.length → s.reaches .host (SOL_SLOTCTRL.at k i) → s.slotOn k i = true → s.engineClaimed k = false → s.slotIdle k i = true →
    s.engineDropped k = false → Does (.slotKick k i) s (fun t => (t.pslot k i).latch = [⟨none, if (s.pslot k i).commits = 0 then 2 else s.fld SOL_SLOTSTAT_CPAGE k i,
      (s.pslot k i).commits, s.liveN SOL_SLOTARG k i, s.count48⟩] ∧
      sameRegsBut [SOL_SLOTSTAT.at k i, SOL_STATUS.at k] s t)) ∧
  (∀ s : State, ∀ k < 2, ∀ i < 32, s.reaches .host (SOL_SLOTCTRL.at k i) → (s.slotOn k i = false ∨ s.engineClaimed k = true ∨ s.slotIdle k i = false ∨ s.engineDropped k = true) →
    Does (.slotKick k i) s (fun t => (t.pslot k i).latch = (s.pslot k i).latch ∧ t.evtAt SOL_EVENT k 5)) ∧
  (∀ s : State, ∀ k < 2, ∀ i < 32, s.reaches .host (SOL_SLOTCTRL.at k i) → s.slotIdle k i = true → Does (.slotReset k i) s (fun t => (t.pslot k i).warm = none ∧ (t.pslot k i).pendReset = false ∧
    t.fld SOL_SLOTSTAT_WARMV k i = 0 ∧ t.fld SOL_SLOTCTRL_RESET k i = 0 ∧ (t.pslot k i).since = (t.pslot k i).commits)) ∧
  (∀ s : State, ∀ k < 2, ∀ i < 32, i < (s.engine k).slots.length → s.reaches .host (SOL_SLOTCTRL.at k i) → s.slotIdle k i = false → Does (.slotReset k i) s (fun t =>
    t.fld SOL_SLOTCTRL_RESET k i = 1 ∧ (t.pslot k i).pendReset = true ∧ sameRegsBut [SOL_SLOTCTRL.at k i] s t)) ∧
  (∀ s : State, ∀ k < 2, ∀ c < 16, s.reaches .host (SOL_INFLUSH.at k) → s.inOn k c = true → Does (.solInflushWrite k (2 ^ c)) s (fun t =>
    t.fld SOL_INSTAT_FLUSHSEQ k c = (s.inChan k c).expect % 2 ^ SOL_INSTAT_FLUSHSEQ.w ∧ (t.inChan k c).arr = [] ∧
    t.mesh.rets.map (fun r => (r.dst, r.src, r.chan, r.count)) = s.mesh.rets.map (fun r => (r.dst, r.src, r.chan, r.count)) ++
      (s.inChan k c).arr.map (fun a => (a.first / 32, 32 + k, c, a.got)) ∧ sameRegsBut [SOL_INSTAT.at k c] s t)) ∧
  (∀ s : State, ∀ k < 2, ∀ c < 16, s.reaches .host (SOL_INFLUSH.at k) → s.inOn k c = false → exec (.solInflushWrite k (2 ^ c)) s = .next s) ∧
  (∀ s : State, ∀ k < 2, ∀ c < 16, ∀ v, s.reaches .host (SOL_INCFG.at k c) → Does (.solIncfgWrite k c v) s (fun t => t.regN SOL_INCFG k c = v % 64 ∧ (t.inChan k c).arr = [] ∧
    t.mesh.rets.map (fun r => (r.dst, r.src, r.chan, r.count)) = s.mesh.rets.map (fun r => (r.dst, r.src, r.chan, r.count)) ++
      (s.inChan k c).arr.map (fun a => (a.first / 32, 32 + k, c, a.got)) ++ [(s.inSrc k c, 32 + k, c, 0)] ++
      (if t.inOn k c = true then [(t.inSrc k c, 32 + k, c, 16)] else []))) ∧
  (∀ s : State, ∀ n < 32, ∀ i < 32, ∀ k < 2, ∀ c mseq cls addr len rsv, s.whole → (s.slot n i).op = some (.send (32 + k) c mseq cls addr len 0 rsv) →
    (s.slot n i).answer = none → s.sendBehind n (32 + k) cls (s.slot n i).sent = false → s.wayClear → s.engineDropped k = false → s.inOn k c = true → s.inSrc k c = n →
    (s.inChan k c).arr = [] → (s.inChan k c).expect = mseq → i < (s.core n).slots.length → c < (s.engine k).chans.length →
    s.headerBad k (s.opBytes n (s.slot n i).ord addr len) = false → s.mayCommit k ((s.opBytes n (s.slot n i).ord addr len).getD 0 0) = true →
    (s.opBytes n (s.slot n i).ord addr len).getD 1 0 = 1 → ((s.opBytes n (s.slot n i).ord addr len).getD 0 0) < (s.engine k).slots.length → Does (.solverInputMsg n i) s (fun t =>
      t.sol = (s.putSol k (s.pageAt k ((s.opBytes n (s.slot n i).ord addr len).getD 0 0) (s.fillPage k ((s.opBytes n (s.slot n i).ord addr len).getD 0 0)) +
        8 * fieldLE (s.opBytes n (s.slot n i).ord addr len) 2 2) ((s.opBytes n (s.slot n i).ord addr len).drop 8)).sol ∧
      (t.pslot k ((s.opBytes n (s.slot n i).ord addr len).getD 0 0)).commits = (s.pslot k ((s.opBytes n (s.slot n i).ord addr len).getD 0 0)).commits + 1 ∧
      (t.slot n i).answer = some (0, 0, 0) ∧ (t.inChan k c).arr = [] ∧ (t.inChan k c).expect = (mseq + 1) % 256)) ∧
  (∀ s : State, ∀ n < 32, ∀ i < 32, ∀ k < 2, ∀ c mseq cls addr len rsv, s.whole → (s.slot n i).op = some (.send (32 + k) c mseq cls addr len 0 rsv) →
    (s.slot n i).answer = none → s.sendBehind n (32 + k) cls (s.slot n i).sent = false → s.wayClear → s.engineDropped k = false → s.inOn k c = false →
    i < (s.core n).slots.length → Does (.solverInputMsg n i) s (fun t => (t.slot n i).answer = some (2, 0, 0) ∧ t.sol = s.sol ∧
      t.fld SOL_CNT_BADSRC k = s.counted SOL_CNT_BADSRC k (msgPackets len) ∧ t.evtAt SOL_EVENT k 4))

/-- Solves start, end, are aborted, and hand on their results (R307, R314 to R318). That a command whose condition is not met leaves the machine as it
is, is the model's choice (log entry 2). -/
def Obligations.SolverRuns : Prop :=
  (∀ s : State, ∀ k < 2, ∀ i l, s.whole → i < (s.engine k).slots.length → (s.engine k).run = none → s.engineDropped k = false → s.boot.halted = false →
    s.nextFor (32 + k) = none → (List.range 32).find? (fun j => !(s.pslot k j).latch.isEmpty) = some i → (s.pslot k i).latch = [l] → l.inst = none →
    (s.pslot k i).pendReset = false → s.flag SOL_SLOTCTRL_COMMIT k i = false → Does (.solveStart k) s (fun t =>
      (∃ v, (t.engine k).run = some v ∧ v.slot = i ∧ v.latch = l ∧ v.regs = [] ∧ v.npiv = 0 ∧ v.startAt = s.rnd.clk ∧ v.seq = (s.pslot k i).seq + 1) ∧ (t.pslot k i).seq = (s.pslot k i).seq + 1 ∧ (t.pslot k i).latch = [] ∧
      t.fld SOL_STATUS_STATE k = 1 ∧ t.fld SOL_STATUS_SLOT k = i ∧ t.sol = s.sol)) ∧
  (∀ s : State, ∀ k < 2, ((s.engine k).run ≠ none ∨ s.engineDropped k = true ∨ s.boot.halted = true) → exec (.solveStart k) s = .next s) ∧
  (∀ s : State, ∀ k < 2, ∀ v, s.whole → (s.engine k).run = some v → v.slot < 32 → v.slot < (s.engine k).slots.length → v.skip = true → v.stale = true →
    v.latch.inst = none → (s.pslot k v.slot).latch = [] → (s.pslot k v.slot).pendReset = false → s.flag SOL_SLOTCTRL_COMMIT k v.slot = false → Does (.solveEnd k) s (fun t =>
      (t.engine k).run = none ∧ t.fld SOL_STATUS_STATE k = 0 ∧ t.fld SOL_SLOTSTAT_LAST k v.slot = 4 ∧
      t.fld SOL_SLOTSEQ_SEQ k v.slot = (s.pslot k v.slot).seq % 2 ^ SOL_SLOTSEQ_SEQ.w ∧ (t.pslot k v.slot).warm = none ∧ t.evtAt SOL_EVENT k 2)) ∧
  (∀ s : State, ∀ k < 2, ∀ v p, s.whole → (s.engine k).run = some v → v.slot < 32 → v.slot < (s.engine k).slots.length → v.skip = false → v.stale = false →
    v.prog = some p → v.lace.faulted = true → v.latch.inst = none → (s.pslot k v.slot).latch = [] → (s.pslot k v.slot).pendReset = false →
    s.flag SOL_SLOTCTRL_COMMIT k v.slot = false → Does (.solveEnd k) s (fun t => (t.engine k).run = none ∧ t.fld SOL_STATUS_STATE k = 0 ∧
      t.fld SOL_SLOTSTAT_LAST k v.slot = 2 ∧ t.fld SOL_SLOTSEQ_SEQ k v.slot = (s.pslot k v.slot).seq % 2 ^ SOL_SLOTSEQ_SEQ.w ∧
      (t.pslot k v.slot).warm = none ∧ t.evtAt SOL_EVENT k 1)) ∧
  (∀ s : State, ∀ k < 2, ∀ v p, (s.engine k).run = some v → v.skip = false → v.prog = some p → v.lace.faulted = false → v.lace.ended = none →
    exec (.solveEnd k) s = .next s) ∧
  (∀ s : State, ∀ k < 2, ∀ v, s.whole → (s.engine k).run = some v → v.slot < 32 → v.slot < (s.engine k).slots.length → v.skip = false → v.stale = false →
    v.prog = none → v.latch.inst = none → (s.pslot k v.slot).latch = [] → (s.pslot k v.slot).pendReset = false → s.flag SOL_SLOTCTRL_COMMIT k v.slot = false →
    Does (.solveEnd k) s (fun t => (t.engine k).run = none ∧ t.fld SOL_STATUS_STATE k = 0 ∧ t.fld SOL_SLOTSTAT_LAST k v.slot ≤ 2 ∧
      t.fld SOL_SLOTSEQ_SEQ k v.slot = (s.pslot k v.slot).seq % 2 ^ SOL_SLOTSEQ_SEQ.w ∧ (t.pslot k v.slot).prev = some v.latch.cmt)) ∧
  (∀ s : State, ∀ k < 2, ∀ v, s.whole → (s.engine k).run = some v → v.slot < 32 → v.slot < (s.engine k).slots.length → v.latch.inst = none →
    (s.pslot k v.slot).latch = [] → (s.pslot k v.slot).pendReset = false → s.flag SOL_SLOTCTRL_COMMIT k v.slot = false →
    s.reaches .host (SOL_CTRL.at k) → Does (.solCtrlAbort k) s (fun t =>
      (t.engine k).run = none ∧ t.fld SOL_STATUS_STATE k = 0 ∧ t.fld SOL_SLOTSTAT_LAST k v.slot = 5 ∧ (t.pslot k v.slot).warm = none ∧ t.evtAt SOL_EVENT k 6)) ∧
  (∀ s : State, ∀ k < 2, (s.engine k).run = none → exec (.solveEnd k) s = .next s) ∧
  (∀ s : State, ∀ k < 2, s.reaches .host (SOL_CTRL.at k) → (s.engine k).run = none → exec (.solCtrlAbort k) s = .next s) ∧
  (∀ s : State, ∀ k < 2, ∀ i < 32, ∀ b d ch cls, s.whole → (s.pslot k i).send = some b → (s.pslot k i).sendTo = (d, ch, cls) → s.coreDropped d = false →
    s.sendBehind (32 + k) d cls s.mesh.num = false →
    msgPackets b.length ≤ s.credit (32 + k) d ch → Does (.solverResultSend k i) s (fun t =>
      (t.pslot k i).send = none ∧ (t.pslot k i).addDue = none ∧ (t.pslot k i).post = none ∧
      t.nextMseq (32 + k) d ch = (s.nextMseq (32 + k) d ch + 1) % 256)) ∧
  (∀ s : State, ∀ k < 2, ∀ i < 32, ∀ b d ch cls, (s.pslot k i).send = some b → (s.pslot k i).sendTo = (d, ch, cls) → s.coreDropped d = false →
    (s.credit (32 + k) d ch < msgPackets b.length ∨ s.sendBehind (32 + k) d cls s.mesh.num = true) → Does (.solverResultSend k i) s (fun t =>
      (t.pslot k i).send = some b ∧ (t.pslot k i).addDue = (s.pslot k i).addDue ∧ (t.pslot k i).post = none ∧
      ((s.pslot k i).post = none → t = s))) ∧
  (∀ s : State, ∀ k < 2, ∀ i < 32, ∀ b d ch cls, (s.pslot k i).send = some b → (s.pslot k i).sendTo = (d, ch, cls) → s.coreDropped d = true →
    Does (.solverResultSend k i) s (fun t => (t.pslot k i).send = none ∧ (t.pslot k i).post = none ∧
      t.nextMseq (32 + k) d ch = s.nextMseq (32 + k) d ch)) ∧
  (∀ s : State, ∀ k < 2, ∀ i < 32, (s.pslot k i).send = none → (s.pslot k i).post = none → (s.pslot k i).addDue = none → Does (.solverResultSend k i) s (fun t =>
    t.regs = s.regs ∧ t.sol = s.sol ∧ t.mesh = s.mesh ∧ t.cores = s.cores))

/-- Rings: doorbells, fetches, consumer indices, enabling, disabling, flushing (R346 to R349, R351, R352, R357 to R361). That a command whose
condition is not met leaves the machine as it is, is the model's choice (log entry 2). -/
def Obligations.RingOperations : Prop :=
  (∀ s : State, ∀ k < 4, ∀ v < 65536, s.reaches .host (CMD_PROD.at k) → s.flag CMD_CTRL_EN k = true → dist16 v (s.fld CMD_CONS_CONS k) ≤ s.ringSize k →
    dist16 (s.fld CMD_PROD_PROD k) (s.fld CMD_CONS_CONS k) ≤ dist16 v (s.fld CMD_CONS_CONS k) → Does (.doorbell k v) s (fun t =>
      t.fld CMD_PROD_PROD k = v ∧ sameRegsBut [CMD_PROD.at k] s t)) ∧
  (∀ s : State, ∀ k < 4, ∀ v < 65536, s.reaches .host (CMD_PROD.at k) → s.flag CMD_CTRL_EN k = true → s.ringSize k < dist16 v (s.fld CMD_CONS_CONS k) → s.fld CMD_STATE_STATE k ≠ 3 →
    Does (.doorbell k v) s (fun t => t.fld CMD_STATE_STATE k = 3 ∧ t.fld CMD_STATE_ERRCAUSE k = 4 ∧ t.evt CMD_EVENT 0 ∧
      t.fld CMD_PROD_PROD k = s.fld CMD_PROD_PROD k)) ∧
  (∀ s : State, ∀ k < 4, ∀ v < 65536, s.reaches .host (CMD_PROD.at k) → s.flag CMD_CTRL_EN k = true → dist16 v (s.fld CMD_CONS_CONS k) ≤ s.ringSize k →
    dist16 v (s.fld CMD_CONS_CONS k) < dist16 (s.fld CMD_PROD_PROD k) (s.fld CMD_CONS_CONS k) → Does (.doorbell k v) s (fun t =>
      t.fld CMD_PROD_PROD k = s.fld CMD_PROD_PROD k ∧ t.evt CMD_EVENT 1)) ∧
  (∀ s : State, ∀ k < 4, ∀ ok, (s.flag CMD_CTRL_EN k = false ∨ s.dmaOk = false ∨ s.fld CMD_STATE_STATE k = 3 ∨ (k ≠ 0 ∧ s.ring0First = true)) →
    exec (.commandFetch k ok) s = .next s) ∧
  (∀ s : State, ∀ k < 4, s.flag CMD_CTRL_EN k = true → s.dmaOk = true → (k = 0 ∨ s.ring0First = false) → s.fld CMD_STATE_STATE k = 1 → s.fld CMD_PROD_PROD k ≠ s.fld CMD_CONS_CONS k →
    Does (.commandFetch k false) s (fun t => t.fld CMD_STATE_STATE k = 3 ∧ t.fld CMD_STATE_ERRCAUSE k = 1 ∧ t.evt CMD_EVENT 0 ∧
      t.fld CMD_CONS_CONS k = s.fld CMD_CONS_CONS k)) ∧
  (∀ s : State, ∀ k < 4, ∀ w0 w1, s.whole → s.flag CMD_CTRL_EN k = true → s.dmaOk = true → (k = 0 ∨ s.ring0First = false) → s.fld CMD_STATE_STATE k = 1 →
    s.hostLE (s.ringEntry k (s.fld CMD_CONS_CONS k)) 4 = w0 → s.hostLE (s.ringEntry k (s.fld CMD_CONS_CONS k) + 4) 4 = w1 → ringHeaderBad k w0 = false →
    (headerLen w0 + 15) / 16 ≤ dist16 (s.fld CMD_PROD_PROD k) (s.fld CMD_CONS_CONS k) →
    ((s.ring k).checkSeq = true → nbits w1 16 16 = (s.fld CMD_STATE_LASTSEQ k + 1) % 65536) → (s.ring k).taken = [] → nbits w0 0 12 ∈ opcodes →
    Does (.commandFetch k true) s (fun t => t.fld CMD_CONS_CONS k = (s.fld CMD_CONS_CONS k + (headerLen w0 + 15) / 16) % 65536 ∧
      t.fld CMD_STATE_LASTSEQ k = nbits w1 16 16 ∧ t.fld CMD_STATE_PARTIAL k = 0 ∧ (t.ring k).checkSeq = true ∧
      ∃ it, (t.ring k).taken = [it] ∧ it.opc = nbits w0 0 12 ∧ it.len = headerLen w0 ∧ it.tag = nbits w1 0 16 ∧ it.seq = nbits w1 16 16 ∧
        it.par = (s.itemWords k (s.fld CMD_CONS_CONS k) (headerLen w0)).drop 2)) ∧
  (∀ s : State, ∀ k < 4, s.flag CMD_CTRL_EN k = true → s.dmaOk = true → (k = 0 ∨ s.ring0First = false) → s.fld CMD_STATE_STATE k = 1 →
    0 < dist16 (s.fld CMD_PROD_PROD k) (s.fld CMD_CONS_CONS k) →
    dist16 (s.fld CMD_PROD_PROD k) (s.fld CMD_CONS_CONS k) < (headerLen (s.hostLE (s.ringEntry k (s.fld CMD_CONS_CONS k)) 4) + 15) / 16 →
    Does (.commandFetch k true) s (fun t => t.fld CMD_STATE_PARTIAL k = 1 ∧ t.rings = s.rings ∧ sameRegsBut [CMD_STATE.at k] s t)) ∧
  (∀ s : State, ∀ k < 4, s.flag CMD_CTRL_EN k = true → s.dmaOk = true → (k = 0 ∨ s.ring0First = false) → s.fld CMD_STATE_STATE k = 2 →
    s.flag CMD_FLUSHSEQ_DRAIN k = true → 0 < s.fld CMD_FLUSHSEQ_REMAIN k →
    (s.fld CMD_FLUSHSEQ_REMAIN k + 15) / 16 ≤ dist16 (s.fld CMD_PROD_PROD k) (s.fld CMD_CONS_CONS k) → Does (.commandFetch k true) s (fun t =>
      t.fld CMD_STATE_STATE k = 1 ∧ t.fld CMD_FLUSHSEQ_REMAIN k = 0 ∧ t.fld CMD_FLUSHSEQ_DRAIN k = 0 ∧
      t.fld CMD_CONS_CONS k = (s.fld CMD_CONS_CONS k + (s.fld CMD_FLUSHSEQ_REMAIN k + 15) / 16) % 65536 ∧
      t.fld CMD_DRAINCNT_WORDS k = s.counted CMD_DRAINCNT_WORDS k (s.fld CMD_FLUSHSEQ_REMAIN k))) ∧
  (∀ s : State, ∀ k < 4, ∀ v < 65536, s.reaches .host (CMD_CCONS.at k) → (s.ring k).taken = [] → Does (.cmdCconsWrite k v) s (fun t => t.fld CMD_CCONS_CCONS k = v ∧
    (s.msixMasked 0 = false → t.hif.sent = if s.fld CMD_CPROD_CPROD k = v then s.hif.sent else bind s.hif.sent 0 ((look s.hif.sent 0).getD 0 + 1)))) ∧
  (∀ s : State, ∀ v < 65536, s.reaches .host CMD_SCONS.base → s.sring.held = [] → Does (.cmdSconsWrite v) s (fun t => t.fld CMD_SCONS_SCONS = v ∧
    (s.msixMasked 1 = false → t.hif.sent = if s.fld CMD_SPROD_SPROD = v then s.hif.sent else bind s.hif.sent 1 ((look s.hif.sent 1).getD 0 + 1)))) ∧
  (∀ s : State, ∀ k < 4, s.whole → s.flag CMD_CTRL_EN k = false → s.reaches .host (CMD_CTRL.at k) → Does (.ringEnable k) s (fun t => t.fld CMD_CTRL_EN k = 1 ∧ t.fld CMD_STATE_STATE k = 1 ∧
    t.fld CMD_PROD_PROD k = 0 ∧ t.fld CMD_CONS_CONS k = 0 ∧ t.fld CMD_CPROD_CPROD k = 0 ∧ t.fld CMD_CCONS_CCONS k = 0 ∧ t.regN CMD_FLUSHSEQ k = 0 ∧
    t.fld CMD_STATE_ERRCAUSE k = 0 ∧ t.fld CMD_STATE_PARTIAL k = 0 ∧ (t.ring k).taken = [] ∧ (t.ring k).checkSeq = false)) ∧
  (∀ s : State, ∀ k < 4, s.flag CMD_CTRL_EN k = true → s.reaches .host (CMD_CTRL.at k) → exec (.ringEnable k) s = .next s) ∧
  (∀ s : State, ∀ k < 4, s.whole → s.flag CMD_CTRL_EN k = true → (∀ j, (s.ring j).run = none) → s.reaches .host (CMD_CTRL.at k) → Does (.ringDisable k) s (fun t =>
    t.fld CMD_CTRL_EN k = 0 ∧ t.fld CMD_STATE_STATE k = 0 ∧ (t.ring k).taken = [] ∧ t.host = s.host)) ∧
  (∀ s : State, ∀ k < 4, ∀ it, s.whole → s.flag CMD_CTRL_EN k = true → (s.ring k).run = some ⟨it, .running⟩ → (∀ j, j ≠ k → (s.ring j).run = none) →
    s.reaches .host (CMD_CTRL.at k) → Does (.ringDisable k) s (fun t => t.fld CMD_CTRL_EN k = 0 ∧ t.fld CMD_STATE_STATE k = s.fld CMD_STATE_STATE k ∧ (t.ring k).taken = [] ∧
      (t.ring k).run = some ⟨it, .running⟩ ∧ (t.ring k).mute = true)) ∧
  (∀ s : State, ∀ k < 4, s.flag CMD_CTRL_EN k = false → s.reaches .host (CMD_CTRL.at k) → exec (.ringDisable k) s = .next s) ∧
  (∀ s : State, s.reaches .host CMD_SCFG.base → s.flag CMD_SCFG_EN = false → s.sring.held = [] → Does (.statusRingEnable true) s (fun t => t.fld CMD_SCFG_EN = 1 ∧ t.fld CMD_SPROD_SPROD = 0 ∧
    t.fld CMD_SCONS_SCONS = 0 ∧ t.sring.pseq = 0)) ∧
  (∀ s : State, s.reaches .host CMD_SCFG.base → s.flag CMD_SCFG_EN = true → Does (.statusRingEnable false) s (fun t => t.fld CMD_SCFG_EN = 0 ∧ sameRegsBut [CMD_SCFG.base] s t)) ∧
  (∀ s : State, ∀ k < 4, s.whole → s.flag CMD_CTRL_EN k = true → (∀ j, (s.ring j).run = none) → (s.ring k).taken = [] → s.fld CMD_STATE_STATE k ≠ 2 →
    s.flag CMD_FLUSHSEQ_DRAIN k = false →
    s.fld CMD_PROD_PROD k = s.fld CMD_CONS_CONS k → s.reaches .host (CMD_CTRL.at k) → Does (.cmdCtrlFlush k) s (fun t => t.fld CMD_STATE_STATE k = 1 ∧ t.fld CMD_STATE_ERRCAUSE k = 0 ∧
      t.fld CMD_CTRL_FLUSH k = 0 ∧ t.fld CMD_FLUSHSEQ_SEQ k = (s.fld CMD_STATE_LASTSEQ k + 1) % 65536 ∧ (t.ring k).checkSeq = false)) ∧
  (∀ s : State, ∀ k < 4, ∀ c, s.whole → s.flag CMD_CTRL_EN k = true → (s.ring k).run = some c → s.reaches .host (CMD_CTRL.at k) → Does (.cmdCtrlFlush k) s (fun t =>
    t.fld CMD_CTRL_FLUSH k = 1 ∧ (t.ring k).flush = true ∧ (t.ring k).run = some c))

/-- The link: MSI-X, resets of the link, training, Bus Master Enable, and the security block's timers (R340, R341, R343, R365, R367, R371, R434). That
a command whose condition is not met leaves the machine as it is, is the model's choice (log entry 2). -/
def Obligations.LinkOperations : Prop :=
  (∀ s : State, ∀ v < 64, s.msixPending v = true → s.hif.funcMask = false → s.hif.bme = true → s.hif.d3hot = false → Does (.msixUnmask v) s (fun t =>
    t.msixPending v = false ∧ t.msixMasked v = false ∧ t.hif.sent = bind s.hif.sent v ((look s.hif.sent v).getD 0 + 1))) ∧
  (∀ s : State, ∀ v < 64, s.msixPending v = false → Does (.msixUnmask v) s (fun t => t.msixPending v = false ∧ t.hif = s.hif ∧ t.host = s.host ∧
    t.reg (0x8000 + 16 * v + 12) = 0 ∧ sameRegsBut [0x8000 + 16 * v + 12] s t)) ∧
  (∀ s : State, ∀ down, s.whole → Does (.pcieLinkReset down) s (fun t => (∀ k, t.ring k = {}) ∧ (∀ k < 4, t.fld CMD_CTRL_EN k = 0 ∧ t.fld CMD_STATE_STATE k = 0) ∧
    t.fld CMD_SCFG_EN = 0 ∧ t.hif.bme = false ∧ t.hif.linkUp = (s.hif.linkUp && !down) ∧ t.data = s.data ∧ t.cores = s.cores ∧ t.pat.active = s.pat.active)) ∧
  (∀ s : State, ∀ sp < 16, ∀ w < 32, ∀ rev, Does (.linkChange sp w rev) s (fun t => t.fld HIF_LINK_SPEED = sp % 2 ^ HIF_LINK_SPEED.w ∧
    t.fld HIF_LINK_WIDTH = w % 2 ^ HIF_LINK_WIDTH.w ∧ t.hif.linkUp = true ∧ (s.fld HIF_LINK_SPEED ≠ sp → t.evt HIF_EVENT 1) ∧
    (s.fld HIF_LINK_WIDTH ≠ w → t.evt HIF_EVENT 2))) ∧
  (∀ s : State, ∀ b m d f, s.hif.ids ≠ none → (∀ k, (s.ring k).flush = false) → (∀ v < 64, s.msixPending v = false) → (∀ k, (s.ring k).heldCpl = []) → s.sring.held = [] →
    Does (.busMasterEnableChange b m d f) s (fun t => t.hif = { s.hif with bme := b, mse := m, d3hot := d, funcMask := f } ∧ t.regs = s.regs ∧ t.host = s.host)) ∧
  (∀ s : State, ∀ b m d f, s.hif.ids = none → exec (.busMasterEnableChange b m d f) s = .next s) ∧
  (∀ s : State, ∀ m, s.whole → s.hif.ids ≠ none → (∀ k, (s.ring k).flush = false) → s.sring.held = [] → Does (.busMasterEnableChange true m false true) s (fun t => (∀ k, (t.ring k).heldCpl = []) ∧
    ∀ k < 4, t.fld CMD_CPROD_CPROD k = (s.fld CMD_CPROD_CPROD k + (s.ring k).heldCpl.length) % 65536)) ∧
  (∀ s : State, s.sec.nonce ≠ none → 2500000000 ≤ s.rnd.clk - s.sec.nonceAt → Does .nonceExpiry s (fun t => t.sec.nonce = none ∧ t.sec.jck = s.sec.jck ∧
    t.sec.keys = s.sec.keys ∧ t.sec.fails = s.sec.fails)) ∧
  (∀ s : State, s.rnd.clk - s.sec.nonceAt < 2500000000 → exec .nonceExpiry s = .next s) ∧
  (∀ s : State, s.flag SEC_STATUS_CLRBLK = true → 15000000000 ≤ s.rnd.clk - s.sec.blockAt → Does .clearBlockExpiry s (fun t => t.fld SEC_STATUS_CLRBLK = 0 ∧
    t.sec.fails = 0 ∧ sameRegsBut [SEC_STATUS.base] s t)) ∧
  (∀ s : State, s.rnd.clk - s.sec.blockAt < 15000000000 → exec .clearBlockExpiry s = .next s) ∧
  (∀ s : State, s.flag SEC_STATUS_RNGFAIL = false → Does .rngFail s (fun t => t.fld SEC_STATUS_RNGFAIL = 1 ∧ t.evt SEC_EVENT 7)) ∧
  (∀ s : State, s.flag SEC_STATUS_RNGFAIL = true → Does .rngOk s (fun t => t.fld SEC_STATUS_RNGFAIL = 0 ∧ t.evt SEC_EVENT 8)) ∧
  (∀ s : State, s.flag SEC_STATUS_RNGFAIL = true → exec .rngFail s = .next s) ∧ (∀ s : State, s.flag SEC_STATUS_RNGFAIL = false → exec .rngOk s = .next s)

/-- How every ring command begins: LINK after a failure skips it, a wrong LEN, a parameter outside its range and an opcode that is not listed end it without
effect, another opcode's row leaves it alone, and what the Hub Controller runs waits
for its turn (R345, R353, R354, R364). That an opcode of Table 15.3 is the command that starts the item at the front is the model's choice (log entry
65). -/
def Obligations.CommandChecks : Prop :=
  (∀ s : State, ∀ k it, s.offers k it → ∀ x ∈ [(Instr.nop k, 0x000, 2, 2), (Instr.regwr k, 0x001, 4, 64), (Instr.regrd k, 0x002, 3, 3), (Instr.regpoll k, 0x003, 6, 6),
      (Instr.copy k none, 0x004, 8, 8), (Instr.ringFlush k, 0x005, 3, 3), (Instr.stamp k, 0x006, 2, 2), (Instr.info k, 0x007, 2, 2), (Instr.nsset k, 0x100, 4, 4),
      (Instr.patAdmit k, 0x200, 4, 4), (Instr.patActivate k, 0x201, 4, 4), (Instr.patDeactivate k, 0x202, 3, 3), (Instr.patCancel k, 0x203, 2, 2),
      (Instr.coreLoad k, 0x300, 4, 4), (Instr.coreStart k, 0x301, 5, 5), (Instr.coreAbort k, 0x302, 3, 3), (Instr.coreChflush k, 0x303, 4, 4),
      (Instr.laceLoad k, 0x400, 5, 5), (Instr.solPgcommit k, 0x401, 3, 3), (Instr.solSlotReset k, 0x402, 3, 3), (Instr.solKick k, 0x403, 4, 4),
      (Instr.solInflush k, 0x404, 4, 4), (Instr.headAdmit k, 0x500, 4, 4), (Instr.headQrel k, 0x501, 3, 3), (Instr.headRetrain k, 0x502, 3, 3),
      (Instr.capRearm k, 0x503, 3, 3), (Instr.capForce k, 0x504, 3, 3), (Instr.fsyncFire k, 0x600, 3, 3), (Instr.rpKick k, 0x601, 4, 4),
      (Instr.fbrErrack k, 0x700, 3, 3), (Instr.jrnSnapshot k, 0x800, 2, 2), (Instr.jrnRead k, 0x801, 6, 6), (Instr.jrnFlush k, 0x802, 2, 2),
      (Instr.jrnClearChallenge k, 0x803, 2, 2), (Instr.jrnClear k, 0x804, 10, 10), (Instr.keyLoad k, 0x900, 7, 7), (Instr.keyErase k, 0x901, 3, 3),
      (Instr.jckSet k, 0x902, 10, 10), (Instr.secLock k, 0x903, 3, 3), (Instr.dbgHalt k, 0xF00, 3, 3), (Instr.dbgResume k, 0xF01, 3, 3), (Instr.dbgStep k, 0xF02, 4, 4)],
    (it.opc = x.2.1 → (it.len < x.2.2.1 ∨ x.2.2.2 < it.len) → Does x.1 s (fun t => Ended k it 2 [] s t ∧ t.data = s.data ∧ t.hub = s.hub ∧ t.jrn = s.jrn)) ∧
    (it.opc ∈ opcodes → it.opc ≠ x.2.1 → Does x.1 s (fun t => t.rings = s.rings ∧ sameRegsBut [CMD_STATE.at k] s t)) ∧
    (it.opc ∉ opcodes → Does x.1 s (fun t => Ended k it 1 [] s t ∧ t.data = s.data ∧ t.hub = s.hub ∧ t.jrn = s.jrn))) ∧
  (∀ s : State, ∀ k it, s.offers k it → ∀ x ∈ [(Instr.regrd k, it.is 0x002 3 [0x1000002]), (Instr.regrd k, it.is 0x002 3 [0x10000]), (Instr.regpoll k, it.is 0x003 6 [0, 0, 0, 0]),
      (Instr.copy k none, it.is 0x004 8 [0, 0, 0, 0, 0, 0]), (Instr.ringFlush k, it.is 0x005 3 [16]), (Instr.patAdmit k, it.is 0x200 4 [4, 0]),
      (Instr.coreStart k, it.is 0x301 5 [32, 0, 0]), (Instr.laceLoad k, it.is 0x400 5 [2, 0, 0]), (Instr.solPgcommit k, it.is 0x401 3 [64]),
      (Instr.headAdmit k, it.is 0x500 4 [6, 0]), (Instr.capRearm k, it.is 0x503 3 [16]), (Instr.jrnRead k, it.is 0x801 6 [0, 0, 0, 0]), (Instr.keyLoad k, it.is 0x900 7 [32, 0, 0, 0, 0]),
      (Instr.secLock k, it.is 0x903 3 [4]), (Instr.dbgStep k, it.is 0xF02 4 [0, 0])],
    x.2 → Does x.1 s (fun t => Ended k it 3 [] s t)) ∧
  (∀ s : State, ∀ k < 4, ∀ it, s.whole → (s.ring k).taken = [it] → (∀ j, (s.ring j).run = none) → (s.ring k).flush = false → (s.ring k).mute = false → s.boStage = 0 →
    s.cplRoom k = true → s.dmaOk = true → s.flag CMD_CTRL_EN k = true → it.is 0x000 2 [] → it.link = true → (s.ring k).lastSt ≠ 0 → Does (.nop k) s (fun t => Ended k it 4 [] s t)) ∧
  (∀ s : State, ∀ k < 4, ∀ it, s.whole → (s.ring k).taken = [it] → (∀ j, (s.ring j).run = none) → (s.ring k).flush = false → (s.ring k).mute = false → s.boStage = 0 →
    s.cplRoom k = true → s.dmaOk = true → s.flag CMD_CTRL_EN k = true → it.is 0x000 2 [] → it.link = false → it.silent = true → Does (.nop k) s (fun t =>
      (t.ring k).run = none ∧ (t.ring k).taken = [] ∧ (t.ring k).lastSt = 0 ∧ t.fld CMD_CPROD_CPROD k = s.fld CMD_CPROD_CPROD k ∧ t.host = s.host)) ∧
  (∀ s : State, ∀ k < 4, ∀ it, (s.ring k).taken = [it] → s.boStage ≠ 0 → Does (.nop k) s (fun t => t.rings = s.rings ∧ t.host = s.host)) ∧
  (∀ s : State, ∀ k < 4, ∀ it, (s.ring k).taken = [it] → (s.ring k).run = none → s.cplRoom k = false → Does (.nop k) s (fun t =>
    t.rings = s.rings ∧ t.host = s.host ∧ (t.current .host CMD_STATE (CMD_STATE.at k) k).testBit CMD_STATE_CPLWAIT.lo = true)) ∧
  (∀ s : State, ∀ k < 4, ∀ it, (s.ring k).taken = [it] → s.hubTurn k = false → ∀ x ∈ [(Instr.copy k none, 0x004), (Instr.info k, 0x007), (Instr.nsset k, 0x100),
      (Instr.patAdmit k, 0x200), (Instr.coreLoad k, 0x300), (Instr.laceLoad k, 0x400), (Instr.headAdmit k, 0x500), (Instr.jrnRead k, 0x801),
      (Instr.jrnFlush k, 0x802), (Instr.keyLoad k, 0x900), (Instr.secLock k, 0x903), (Instr.dbgHalt k, 0xF00), (Instr.dbgStep k, 0xF02)],
    it.opc = x.2 → Does x.1 s (fun t => t.rings = s.rings ∧ t.host = s.host ∧ t.regs = s.regs))

/-- Class 0 and NSSET: registers, copies, rings, time (R340, R344, R345, R356, R357, R364; Table 15.3). -/
def Obligations.RegisterCommands : Prop :=
  (∀ s : State, ∀ k it, s.offers k it → it.is 0x000 2 [] → Does (.nop k) s (fun t => Ended k it 0 [] s t ∧ t.data = s.data ∧ t.hub = s.hub ∧ t.cores = s.cores)) ∧
  (∀ s : State, ∀ k it v, s.offers k it → it.is 0x001 4 [HIF_SCRATCH.base, v] → v < 2 ^ 32 → Does (.regwr k) s (fun t => Ended k it 0 [1] s t ∧
    t.regN HIF_SCRATCH = v)) ∧
  (∀ s : State, ∀ k it v, s.offers k it → it.is 0x001 4 [2, v] → Does (.regwr k) s (fun t => Ended k it 8 [AccCause.unaligned.code, 2] s t)) ∧
  (∀ s : State, ∀ k it, s.offers k it → it.is 0x002 3 [HIF_ID.base] → Does (.regrd k) s (fun t => Ended k it 0 [s.regN HIF_ID] s t)) ∧
  (∀ s : State, ∀ k it v m us, s.offers k it → 1 ≤ us → us ≤ 1000000 → it.is 0x003 6 [HIF_ID.base, m, v, us] → s.regN HIF_ID &&& m = v →
    Does (.regpoll k) s (fun t => Ended k it 0 [s.regN HIF_ID] s t)) ∧
  (∀ s : State, ∀ k it v m us, s.offers k it → 1 ≤ us → us ≤ 1000000 → it.is 0x003 6 [HIF_ID.base, m, v, us] → s.regN HIF_ID &&& m ≠ v →
    Does (.regpoll k) s (fun t => Waits k it (.regpoll HIF_ID.base m v (s.rnd.clk + 250 * us)) t)) ∧
  (∀ s : State, ∀ k < 4, ∀ it m v till, s.whole → (s.ring k).run = some ⟨it, .regpoll HIF_ID.base m v till⟩ → (s.ring k).taken = [] → (s.ring k).flush = false →
    s.regN HIF_ID &&& m ≠ v → till ≤ s.rnd.clk → Does (.regpollTimeout k) s (fun t => (t.ring k).run = none ∧ (t.ring k).lastSt = 5)) ∧
  (∀ s : State, ∀ k it h a n, s.offers k it → h < 2 ^ 32 → a + n ≤ 0x100000 → 1 ≤ n → it.is 0x004 8 [h, 0, a, 0, n, 0] → s.dieUnreachable 0 = false →
    s.coreDropped 0 = false → Does (.copy k none) s (fun t => Ended k it 0 [n] s t ∧ ∀ i < n, memGet dflt0 t.data (a + i) = memGet dflt0 s.host (h + i))) ∧
  (∀ s : State, ∀ k it h a n, s.offers k it → h < 2 ^ 32 → a + n ≤ 0x100000 → 1 ≤ n → it.is 0x004 8 [h, 0, a, 0, n, 0] → s.dieUnreachable 0 = false →
    s.coreDropped 0 = false → Does (.completionTimeout k) s (fun t => Ended k it 0xA [0] s t ∧ t.data = s.data)) ∧
  (∀ s : State, ∀ k it h a n, s.offers k it → h < 2 ^ 32 → a + n ≤ 0x100000 → 1 ≤ n → it.is 0x004 8 [h, 0, a, 0, n, 1] → s.dieUnreachable 0 = false →
    s.msixMasked 0 = true → Does (.copy k none) s (fun t => Ended k it 0 [n] s t ∧ t.data = s.data ∧ ∀ i < n,
      (h + i < s.regN CMD_CBASE_LO k + 2 ^ 32 * s.regN CMD_CBASE_HI k + 32 * (s.fld CMD_CPROD_CPROD k % s.ringSize k) ∨
        s.regN CMD_CBASE_LO k + 2 ^ 32 * s.regN CMD_CBASE_HI k + 32 * (s.fld CMD_CPROD_CPROD k % s.ringSize k) + 32 ≤ h + i) →
      memGet dflt0 t.host (h + i) = memGet dflt0 s.data (a + i))) ∧
  (∀ s : State, ∀ k it, s.offers k it → it.is 0x005 3 [2 ^ k] → Does (.ringFlush k) s (fun t => Ended k it 3 [] s t)) ∧
  (∀ s : State, ∀ k it j, s.offers k it → j < 4 → j ≠ k → it.is 0x005 3 [2 ^ j] → s.flag CMD_CTRL_EN j = true → (s.ring j).taken = [] →
    s.fld CMD_STATE_STATE j ≠ 2 → s.flag CMD_FLUSHSEQ_DRAIN j = false → s.fld CMD_PROD_PROD j = s.fld CMD_CONS_CONS j → Does (.ringFlush k) s (fun t => (t.ring k).run = none ∧ (t.ring k).lastSt = 0 ∧
      t.fld CMD_STATE_STATE j = 1 ∧ t.fld CMD_FLUSHSEQ_SEQ j = (s.fld CMD_STATE_LASTSEQ j + 1) % 65536)) ∧
  (∀ s : State, ∀ k it, s.offers k it → it.is 0x006 2 [] → Does (.stamp k) s (fun t => Ended k it 0 (words32 s.stampNow) s t ∧ t.rnd = s.rnd)) ∧
  (∀ s : State, ∀ k it, s.offers k it → it.is 0x007 2 [] → Does (.info k) s (fun t =>
    Ended k it 0 [s.hdrField 24 4, s.regN HIF_ID, s.regN HIF_SERIAL_LO, s.regN HIF_SERIAL_HI] s t)) ∧
  (∀ s : State, ∀ k it v, s.offers k it → v < 2 ^ 32 → it.is 0x100 4 [v, 0] → s.flag RND_STATUS_PPS_LOCK = false → Does (.nsset k) s (fun t =>
    t.nstime = v ∧ (t.ring k).run = none ∧ (t.ring k).lastSt = 0)) ∧
  (∀ s : State, ∀ k it v, s.offers k it → v < 2 ^ 32 → it.is 0x100 4 [v, 0] → s.flag RND_STATUS_PPS_LOCK = true → Does (.nsset k) s (fun t =>
    t.rnd.nsArm = some v ∧ Waits k it (.nsset s.nstime) t))

/-- Classes 2 and 3: the Pattern and the cores (R55, R63, R65, R254 to R257; Table 15.3). -/
def Obligations.PatternAndCoreCommands : Prop :=
  (∀ s : State, ∀ k it a n, s.offers k it → a % 64 = 0 → a < hubSize → n < 2 ^ 17 → it.is 0x200 4 [a, n] → s.admitting = false → Does (.patAdmit k) s (fun t =>
    Waits k it .admission t ∧ t.pat.img = some (s.hubBytes a (min n 73793)) ∧ t.fld PAT_CTRL_ADMIT = 1 ∧ t.fld PAT_STATUS_ADM_STATE = 1 ∧
    64 * t.fld PAT_IMG_BASE_BASE = a ∧ t.fld PAT_IMG_LEN_LEN = n)) ∧
  (∀ s : State, ∀ k it a n, s.offers k it → a % 64 = 0 → a < hubSize → n < 2 ^ 17 → it.is 0x200 4 [a, n] → s.admitting = true → Does (.patAdmit k) s (fun t =>
    Ended k it 0x010D t.admWords s t ∧ t.fld PAT_ADM_RESULT_CODE = 0x0D ∧ t.pat = s.pat)) ∧
  (∀ s : State, ∀ k it lo hi, s.offers k it → lo < 2 ^ 32 → hi < 2 ^ 16 → it.is 0x201 4 [lo, hi] → s.pat.admitted.isSome = true → s.pat.act = none →
    Does (.patActivate k) s (fun t => Waits k it .activate t ∧ t.pat.act = some s.absStitch ∧ t.fld PAT_STATUS_ACT_WAIT = 1 ∧
      t.regN PAT_ACT_ROUND_LO = lo ∧ t.fld PAT_ACT_ROUND_HI_RND = hi)) ∧
  (∀ s : State, ∀ k it lo hi, s.offers k it → hi < 2 ^ 16 → it.is 0x201 4 [lo, hi] → s.pat.admitted = none → Does (.patActivate k) s (fun t =>
    Ended k it 7 [] s t ∧ t.pat = s.pat)) ∧
  (∀ s : State, ∀ k it x, s.offers k it → x < 2 → it.is 0x202 3 [x] → Does (.patDeactivate k) s (fun t => Waits k it (.deactivate (decide (x = 1))) t ∧
    t.pat.deact = true ∧ t.fld PAT_CTRL_DEACTIVATE = 1)) ∧
  (∀ s : State, ∀ k it, s.offers k it → it.is 0x203 2 [] → Does (.patCancel k) s (fun t => Ended k it 0 [] s t ∧ t.pat.act = none ∧ t.pat.active = s.pat.active)) ∧
  (∀ s : State, ∀ k it m a n, s.offers k it → a < hubSize → it.is 0x300 4 [m, a] → (coreDies m).any (fun d => s.dieUnreachable d) = false →
    (bitsOf m 32).find? (fun j => decide (s.kimgRefusal (s.storedImage a 28) (kimgFails (s.storedImage a 28) (hubSize - a)) j ≠ 0)) = some n →
    Does (.coreLoad k) s (fun t => Ended k it (0x0200 + s.kimgRefusal (s.storedImage a 28) (kimgFails (s.storedImage a 28) (hubSize - a)) n) [n] s t ∧
      t.inst = s.inst ∧ t.data = s.data)) ∧
  (∀ s : State, ∀ k it a n, s.offers k it → a < hubSize → n < 32 → it.is 0x300 4 [2 ^ n, a] → s.dieUnreachable (coreDie n) = false →
    s.kimgRefusal (s.storedImage a 28) (kimgFails (s.storedImage a 28) (hubSize - a)) n = 0 → Does (.coreLoad k) s (fun t => Ended k it 0 [0xFF] s t ∧
      t.inst = (s.loadCore (s.storedImage a 28) n).inst ∧ t.data = (s.loadCore (s.storedImage a 28) n).data)) ∧
  (∀ s : State, ∀ k it n e x, s.offers k it → n < 32 → e % 4 = 0 → e < 2 ^ 16 → it.is 0x301 5 [n, e, x] → s.dieUnreachable (coreDie n) = false →
    s.cstate n = cIdle → s.namesCore n = false → s.dieCrit (coreDie n) = false → s.flag CORE_CTRL_COMMIT n = false → Does (.coreStart k) s (fun t =>
      Ended k it 0 [] s t ∧ t.cstate n = cRun ∧ t.pc n = e ∧ (t.core n).g.getD 1 0 = x % 2 ^ 32 ∧ t.regN CORE_START_ARG n = x % 2 ^ 32)) ∧
  (∀ s : State, ∀ k it n e x, s.offers k it → n < 32 → e % 4 = 0 → e < 2 ^ 16 → it.is 0x301 5 [256 + n, e, x] → s.dieUnreachable (coreDie n) = false →
    s.cstate n = cIdle → s.namesCore n = false → s.dieCrit (coreDie n) = false → s.flag CORE_CTRL_COMMIT n = false → Does (.coreStart k) s (fun t =>
      Waits k it (.coreJob n) t ∧ t.cstate n = cRun ∧ t.pc n = e)) ∧
  (∀ s : State, ∀ k it n e x, s.offers k it → n < 32 → e % 4 = 0 → e < 2 ^ 16 → it.is 0x301 5 [n, e, x] → s.dieUnreachable (coreDie n) = false →
    (s.cstate n ≠ cIdle ∨ s.namesCore n = true ∨ s.dieCrit (coreDie n) = true) → Does (.coreStart k) s (fun t =>
      Ended k it 7 [] s t ∧ t.evtAt CORE_EVENT n 3 ∧ t.cores = s.cores)) ∧
  (∀ s : State, ∀ k it n, s.offers k it → n < 32 → it.is 0x302 3 [2 ^ n] → s.dieUnreachable (coreDie n) = false → s.busy n = true → s.binding = false →
    Does (.coreAbort k) s (fun t => (t.ring k).run = none ∧ (t.ring k).lastSt = 0 ∧ t.cstate n = cIdle ∧ t.fld CORE_JOBST_STATUS n = 4 ∧ t.evtAt CORE_EVENT n 2)) ∧
  (∀ s : State, ∀ k it n, s.offers k it → n < 32 → it.is 0x302 3 [2 ^ n] → s.dieUnreachable (coreDie n) = false → s.busy n = false →
    Does (.coreAbort k) s (fun t => Ended k it 0 [] s t ∧ t.cores = s.cores)) ∧
  (∀ s : State, ∀ k it n c, s.offers k it → n < 32 → c < 16 → it.is 0x303 4 [n, 2 ^ c] → s.dieUnreachable (coreDie n) = false → c < (s.core n).chans.length →
    s.chanOn n c = true → Does (.coreChflush k) s (fun t => Ended k it 0 [] s t ∧ (t.chan n c).ready = [] ∧ (t.chan n c).out = 0 ∧
      t.fld CORE_CHSTAT_FLUSHSEQ n c = (s.chan n c).expect % 2 ^ CORE_CHSTAT_FLUSHSEQ.w))

/-- Classes 4 to 7: solver engines, heads, capture rings, cameras, re-process pipelines, the bridge (R117, R135, R157, R170, R202, R303 to R317, R334, R386;
Table 15.3). -/
def Obligations.UnitCommands : Prop :=
  (∀ s : State, ∀ k it e a o, s.offers k it → e < 2 → a % 64 = 0 → a < 0x200000 → o < hubSize → it.is 0x400 5 [e, a, o] → s.dieUnreachable e = false →
    (s.laceRefusal (s.storedImage o 40) (hubSize - o) e a).1 ≠ 0 → Does (.laceLoad k) s (fun t => t.sol = s.sol ∧
      Ended k it (0x0300 + (s.laceRefusal (s.storedImage o 40) (hubSize - o) e a).1) [(s.laceRefusal (s.storedImage o 40) (hubSize - o) e a).2] s t)) ∧
  (∀ s : State, ∀ k it e a o, s.offers k it → e < 2 → a % 64 = 0 → a < 0x200000 → o < hubSize → it.is 0x400 5 [e, a, o] → s.dieUnreachable e = false →
    s.engineDropped e = false → s.solLocked e a (s.storedImage o 40).length = false →
    (s.laceRefusal (s.storedImage o 40) (hubSize - o) e a).1 = 0 → Does (.laceLoad k) s (fun t =>
      t.sol = (s.putSol e a (s.storedImage o 40)).sol ∧ Ended k it 0 [(s.laceRefusal (s.storedImage o 40) (hubSize - o) e a).2] s t)) ∧
  (∀ s : State, ∀ k it e a o, s.offers k it → e < 2 → a % 64 = 0 → a < 0x200000 → o < hubSize → it.is 0x400 5 [e, a, o] → s.dieUnreachable e = false →
    s.engineDropped e = true → (s.laceRefusal (s.storedImage o 40) (hubSize - o) e a).1 = 0 → s.flag HIF_ACCERR_VALID = false →
    Does (.laceLoad k) s (fun t => t.sol = s.sol ∧ t.fld HIF_ACCERR_VALID = 1 ∧ t.fld HIF_ACCERR_CAUSE = AccCause.locked.code)) ∧
  (∀ s : State, ∀ k it e i, s.offers k it → e < 2 → i < 32 → it.is 0x401 3 [32 * e + i] → s.dieUnreachable e = false → i < (s.engine e).slots.length →
    s.slotOn e i = true → s.engineDropped e = false → (s.pslot e i).pendCommit = 0 → s.mayCommit e i = true → Does (.solPgcommit k) s (fun t =>
      Ended k it 0 [(s.pslot e i).commits + 1] s t ∧ (t.pslot e i).commits = (s.pslot e i).commits + 1 ∧ t.fld SOL_SLOTSTAT_CPAGE e i = s.fillPage e i)) ∧
  (∀ s : State, ∀ k it e i, s.offers k it → e < 2 → i < 32 → it.is 0x401 3 [32 * e + i] → s.dieUnreachable e = false → s.slotOn e i = false →
    Does (.solPgcommit k) s (fun t => Ended k it 7 [] s t ∧ t.engines = s.engines)) ∧
  (∀ s : State, ∀ k it e i, s.offers k it → e < 2 → i < 32 → it.is 0x402 3 [32 * e + i] → s.dieUnreachable e = false → s.engineDropped e = false →
    s.slotIdle e i = true → Does (.solSlotReset k) s (fun t => Ended k it 0 [] s t ∧ (t.pslot e i).warm = none ∧ t.fld SOL_SLOTSTAT_WARMV e i = 0)) ∧
  (∀ s : State, ∀ k it e i x, s.offers k it → e < 2 → i < 32 → it.is 0x403 4 [32 * e + i, x] → s.dieUnreachable e = false → i < (s.engine e).slots.length →
    s.slotOn e i = true → s.engineClaimed e = false → s.slotIdle e i = true → s.engineDropped e = false → Does (.solKick k) s (fun t =>
      Ended k it 0 [] s t ∧ ∃ l, (t.pslot e i).latch = [l] ∧ l.inst = none ∧ l.arg = x ∧ l.cmt = (s.pslot e i).commits)) ∧
  (∀ s : State, ∀ k it e i x, s.offers k it → e < 2 → i < 32 → it.is 0x403 4 [256 + 32 * e + i, x] → s.dieUnreachable e = false →
    s.slotOn e i = true → s.engineClaimed e = false → s.slotIdle e i = true → s.engineDropped e = false → Does (.solKick k) s (fun t => Waits k it (.solve e i) t)) ∧
  (∀ s : State, ∀ k it e i x, s.offers k it → e < 2 → i < 32 → it.is 0x403 4 [32 * e + i, x] → s.dieUnreachable e = false →
    (s.slotOn e i = false ∨ s.slotIdle e i = false) → Does (.solKick k) s (fun t => Ended k it 7 [] s t ∧ t.evtAt SOL_EVENT e 5)) ∧
  (∀ s : State, ∀ k it e c, s.offers k it → e < 2 → c < 16 → it.is 0x404 4 [e, 2 ^ c] → s.dieUnreachable e = false → s.inOn e c = true →
    Does (.solInflush k) s (fun t => Ended k it 0 [] s t ∧ t.fld SOL_INSTAT_FLUSHSEQ e c = (s.inChan e c).expect % 2 ^ SOL_INSTAT_FLUSHSEQ.w)) ∧
  (∀ s : State, ∀ k it p b, s.offers k it → p < 6 → b < 2 ^ 16 → it.is 0x500 4 [p, b] → s.pst p ≠ 6 → Does (.headAdmit k) s (fun t =>
    Ended k it 0x0401 [] s t ∧ t.ports = s.ports)) ∧
  (∀ s : State, ∀ k it p b, s.offers k it → p < 6 → b < 2 ^ 16 → it.is 0x500 4 [p, b] → s.pst p = 6 → s.baseOk p b = true → s.capsCover p = 0 →
    Does (.headAdmit k) s (fun t => Waits k it (.head p) t ∧ t.fld MOL_IDBASE_BASE p = b ∧ t.fld MOL_IDBASE_ADMITTED p = 1 ∧ (t.port p).adm = s.molSerial p)) ∧
  (∀ s : State, ∀ k it p b, s.offers k it → p < 6 → b < 2 ^ 16 → it.is 0x500 4 [p, b] → s.pst p = 6 → s.baseOk p b = false → Does (.headAdmit k) s (fun t =>
    Ended k it 0x0402 [] s t ∧ t.ports = s.ports)) ∧
  (∀ s : State, ∀ k it p, s.offers k it → p < 6 → it.is 0x501 3 [p] → (s.pst p = 8 ∨ s.flag MOL_STATUS_QHELD p = true) → Does (.headQrel k) s (fun t =>
    Ended k it 0 [] s t ∧ t.fld MOL_STATUS_QHELD p = 0 ∧ t.pst p = (if s.pst p = 8 then 1 else s.pst p))) ∧
  (∀ s : State, ∀ k it p, s.offers k it → p < 6 → it.is 0x501 3 [p] → s.pst p ≠ 8 → s.flag MOL_STATUS_QHELD p = false → Does (.headQrel k) s (fun t =>
    Ended k it 7 [] s t ∧ t.ports = s.ports)) ∧
  (∀ s : State, ∀ k it p, s.offers k it → p < 6 → it.is 0x502 3 [p] → Does (.headRetrain k) s (fun t => (t.ring k).run = none ∧ (t.ring k).lastSt = 0 ∧
    t.fld MOL_STATUS_M2_FAILS p = 0 ∧ t.pst p = (if (1 ≤ s.pst p ∧ s.pst p ≤ 7) ∨ s.pst p = 9 then 1 else s.pst p))) ∧
  (∀ s : State, ∀ k it r, s.offers k it → r < 4 → it.is 0x503 3 [2 ^ r] → Does (.capRearm k) s (fun t => Ended k it 0 [] s t ∧
    t.rgState r = (if s.rgState r = 3 then 1 else s.rgState r))) ∧
  (∀ s : State, ∀ k it r, s.offers k it → r < 4 → it.is 0x504 3 [2 ^ r] → s.rgState r = 1 → (∀ d, look s.wfm.ringDone r = some d → d < nearMod 48 d s.count48 + s.live WFM_RGCFG_POST r) →
    Does (.capForce k) s (fun t => Ended k it 0 [s.count48 % 2 ^ 32] s t ∧ t.rgState r = 2 ∧ t.trnd r = s.count48)) ∧
  (∀ s : State, ∀ k it p i, s.offers k it → p < 6 → i < 8 → p < s.cam.ports.length → i < s.cam.profs.length → it.is 0x600 3 [2 ^ p + 256 * i] → s.boot.halted = false →
    s.camDropped p = false → s.profOk (s.regN CAM_FSPROF_LO i) (s.regN CAM_FSPROF_HI i) = true → (s.camPort p).plan = none → (s.camPort p).pulseEnd = none →
    Does (.fsyncFire k) s (fun t => Ended k it 0 [] s t ∧ ((t.camPort p).plan.map (·.tick)) = some (s.rnd.clk + 1))) ∧
  (∀ s : State, ∀ k it q c, s.offers k it → q < 2 → c < 16 → it.is 0x601 4 [q, 2 ^ c] → s.rpDropped q = false → s.flag PAT_STATUS_ACTIVE = false →
    s.live ISP_RPCCTRL_EN q c = 1 → Does (.rpKick k) s (fun t => Waits k it (.rpKick q (2 ^ c) 0) t ∧ t.fld ISP_RPKICK_KICK q = (s.fld ISP_RPKICK_KICK q ||| 2 ^ c))) ∧
  (∀ s : State, ∀ k it q c, s.offers k it → q < 2 → c < 16 → it.is 0x601 4 [q, 2 ^ c] → s.live ISP_RPCCTRL_EN q c = 0 → Does (.rpKick k) s (fun t =>
    Ended k it 7 [2 ^ c] s t ∧ t.evtAt ISP_RPEVENT q 2)) ∧
  (∀ s : State, ∀ k it m, s.offers k it → m < 2 ^ 16 → it.is 0x700 3 [m] → Does (.fbrErrack k) s (fun t => Ended k it 0 [] s t ∧
    ∀ w < 16, t.fld FBR_WSTAT_BLOCKED w = if m.testBit w then 0 else s.fld FBR_WSTAT_BLOCKED w))

/-- Class 8: the Journal by command (R365, R367, R416, R419, R425; Table 15.3). That JRN_READ never meets a record that is half
overwritten is the model's reading (log entry 69). -/
def Obligations.JournalCommands : Prop :=
  (∀ s : State, ∀ k it, s.offers k it → it.is 0x800 2 [] → Does (.jrnSnapshot k) s (fun t => Ended k it 0 [t.regN JRN_SNAP_FIRST, t.regN JRN_SNAP_LAST] s t ∧
    t.regN JRN_SNAP_LAST = (s.jrn.last.getD 0) % 2 ^ 32 ∧ t.jrn = s.jrn)) ∧
  (∀ s : State, ∀ k it a n h, s.offers k it → 1 ≤ n → n ≤ 8192 → h % 32 = 0 → h < 2 ^ 32 → it.is 0x801 6 [a, n, h, 0] →
    (seqIn (s.regN JRN_SNAP_FIRST) (s.regN JRN_SNAP_LAST) a = false ∨ seqIn (s.regN JRN_SNAP_FIRST) (s.regN JRN_SNAP_LAST) ((a + n - 1) % 2 ^ 32) = false) →
    Does (.jrnRead k) s (fun t => Ended k it 0x0704 [] s t ∧ t.jrn = s.jrn)) ∧
  (∀ s : State, ∀ k it a n h, s.offers k it → 1 ≤ n → n ≤ 8192 → h % 32 = 0 → h < 2 ^ 32 → it.is 0x801 6 [a, n, h, 0] →
    seqIn (s.regN JRN_SNAP_FIRST) (s.regN JRN_SNAP_LAST) a = true → seqIn (s.regN JRN_SNAP_FIRST) (s.regN JRN_SNAP_LAST) ((a + n - 1) % 2 ^ 32) = true →
    Does (.jrnRead k) s (fun t => Ended k it 0 [(s.recordsIn a ((a + n - 1) % 2 ^ 32)).length, 0] s t ∧ t.jrn = s.jrn)) ∧
  (∀ s : State, ∀ k it, s.offers k it → it.is 0x802 2 [] → s.fld JRN_STATUS_NORST ≠ 2 → Does (.jrnFlush k) s (fun t => Ended k it 7 [] s t ∧ t.jrn = s.jrn)) ∧
  (∀ s : State, ∀ k it, s.offers k it → it.is 0x802 2 [] → s.fld JRN_STATUS_NORST = 2 → s.jrn.flushing.isSome = true → Does (.jrnFlush k) s (fun t =>
    Waits k it .jrnFlush t ∧ t.fld JRN_CTRL_FLUSH = 1)) ∧
  (∀ s : State, ∀ k it, s.offers k it → it.is 0x803 2 [] → (s.flag SEC_STATUS_CLRBLK = true ∨ s.flag SEC_STATUS_RNGFAIL = true) →
    Does (.jrnClearChallenge k) s (fun t => Ended k it 7 [] s t ∧ t.sec = s.sec)) ∧
  (∀ s : State, ∀ k it, s.offers k it → it.is 0x803 2 [] → s.flag SEC_STATUS_CLRBLK = false → s.flag SEC_STATUS_RNGFAIL = false →
    Does (.jrnClearChallenge k) s (fun t => ∃ n, t.sec.nonce = some (n, s.lastSeq) ∧ t.sec.nonceAt = s.rnd.clk ∧
      Ended k it 0 (words32 (toBytes 16 n.toNat) ++ [s.lastSeq]) s t)) ∧
  (∀ s : State, ∀ k it, s.offers k it → it.opc = 0x804 → it.len = 10 → s.fld JRN_STATUS_NORST ≠ 2 → Does (.jrnClear k) s (fun t =>
    match s.clearKey, s.validNonce with
    | none, _ => Ended k it 0x0701 [] s t ∧ t.sec.nonce = none ∧ t.fld SEC_CNT_CLRFAIL = s.counted SEC_CNT_CLRFAIL ∧ t.sec.fails = s.sec.fails + 1
    | some _, none => Ended k it 0x0702 [] s t ∧ t.sec.fails = 0 ∧ t.jrn = s.jrn
    | some key, some (n, q) =>
      if clearTag key n q = BitVec.ofNat 256 it.key256 then
        Ended k it 0 [t.regN JRN_EPOCH] s t ∧ t.sec.nonce = none ∧ t.sec.fails = 0 ∧ t.regN JRN_EPOCH = (s.regN JRN_EPOCH + 1) % 2 ^ 32 ∧
          t.evt JRN_EVENT 5
      else Ended k it 0x0701 [] s t ∧ t.sec.nonce = none ∧ t.fld SEC_CNT_CLRFAIL = s.counted SEC_CNT_CLRFAIL ∧ t.sec.fails = s.sec.fails + 1)) ∧
  (∀ s : State, ∀ k it, s.offers k it → it.opc = 0x804 → it.len = 10 → s.sec.nonce = none → Does (.jrnClear k) s (fun t =>
    (t.ring k).run = none ∧ ((t.ring k).lastSt = 0x0701 ∨ (t.ring k).lastSt = 0x0702) ∧ t.regN JRN_EPOCH = s.regN JRN_EPOCH ∧
      (s.sec.fails = 2 → (t.ring k).lastSt = 0x0701 → t.fld SEC_STATUS_CLRBLK = 1 ∧ t.sec.blockAt = s.rnd.clk ∧ t.evt SEC_EVENT 5)))

/-- Classes 9 and 15: keys, locks and debug by command (R366, R367, R471, R472, R475; Table 15.3). -/
def Obligations.KeyAndDebugCommands : Prop :=
  (∀ s : State, ∀ k it i a b c d, s.offers k it → i < 32 → a < 2 ^ 32 → b < 2 ^ 32 → c < 2 ^ 32 → d < 2 ^ 32 → it.is 0x900 7 [i, a, b, c, d] →
    s.flag SEC_STATUS_LOCKKEY = false → Does (.keyLoad k) s (fun t =>
      look t.sec.keys i = some (BitVec.ofNat 128 (a + 2 ^ 32 * b + 2 ^ 64 * c + 2 ^ 96 * d)) ∧ (t.fld SEC_KEYSLOT_LOADED).testBit i = true ∧ t.evt SEC_EVENT 0 ∧
      (∀ j, j ≠ i → look t.sec.keys j = look s.sec.keys j) ∧
      Ended k it 0 [keyCheck (BitVec.ofNat 128 (a + 2 ^ 32 * b + 2 ^ 64 * c + 2 ^ 96 * d))] s t)) ∧
  (∀ s : State, ∀ k it i, s.offers k it → i < 32 → it.is 0x900 7 [i, 0, 0, 0, 0] → s.flag SEC_STATUS_LOCKKEY = true → Does (.keyLoad k) s (fun t =>
    Ended k it 0xC [] s t ∧ t.sec = s.sec ∧ t.fld SEC_CNT_DENIED = s.counted SEC_CNT_DENIED ∧ t.evt SEC_EVENT 4)) ∧
  (∀ s : State, ∀ k it m, s.offers k it → m < 2 ^ 32 → it.is 0x901 3 [m] → s.flag SEC_STATUS_LOCKKEY = false → Does (.keyErase k) s (fun t =>
    Ended k it 0 [] s t ∧ (∀ i < 32, m.testBit i = true → look t.sec.keys i = none ∧ (t.fld SEC_KEYSLOT_LOADED).testBit i = false) ∧
    (∀ i < 32, m.testBit i = false → look t.sec.keys i = look s.sec.keys i ∧
      (t.fld SEC_KEYSLOT_LOADED).testBit i = (s.fld SEC_KEYSLOT_LOADED).testBit i))) ∧
  (∀ s : State, ∀ k it m, s.offers k it → it.is 0x901 3 [m] → s.flag SEC_STATUS_LOCKKEY = true → Does (.keyErase k) s (fun t =>
    Ended k it 0xC [] s t ∧ t.sec = s.sec ∧ t.evt SEC_EVENT 4)) ∧
  (∀ s : State, ∀ k it, s.offers k it → it.opc = 0x902 → it.len = 10 → s.flag SEC_STATUS_LOCKJCK = true → Does (.jckSet k) s (fun t =>
    Ended k it 0xC [] s t ∧ t.sec = s.sec ∧ t.evt SEC_EVENT 4)) ∧
  (∀ s : State, ∀ k it, s.offers k it → it.opc = 0x902 → it.len = 10 → s.flag SEC_STATUS_LOCKJCK = false → Does (.jckSet k) s (fun t =>
    if s.clearKey = none then Ended k it 0 [] s t ∧ t.sec.jck = some (BitVec.ofNat 256 it.key256) ∧ t.fld SEC_STATUS_JCKSET = 1 ∧ t.evt SEC_EVENT 2
    else Ended k it 0x0802 [] s t ∧ t.sec = s.sec)) ∧
  (∀ s : State, ∀ k it m, s.offers k it → m < 4 → it.is 0x903 3 [m] → Does (.secLock k) s (fun t => Ended k it 0 [] s t ∧
    t.fld SEC_STATUS_LOCKKEY = (if m.testBit 0 then 1 else s.fld SEC_STATUS_LOCKKEY) ∧ t.fld SEC_STATUS_LOCKJCK = (if m.testBit 1 then 1 else s.fld SEC_STATUS_LOCKJCK) ∧
    (m ≠ 0 → t.evt SEC_EVENT 3))) ∧
  (∀ s : State, ∀ k it n, s.offers k it → n < 32 → s.attached = false → s.dieUnreachable (coreDie n) = false →
    ∀ x ∈ [(Instr.dbgHalt k, it.is 0xF00 3 [2 ^ n]), (Instr.dbgResume k, it.is 0xF01 3 [2 ^ n]), (Instr.dbgStep k, it.is 0xF02 4 [n, 1])],
    x.2 → Does x.1 s (fun t => Ended k it 7 [] s t ∧ t.cores = s.cores)) ∧
  (∀ s : State, ∀ k it n, s.offers k it → n < 32 → it.is 0xF00 3 [2 ^ n] → s.attached = true → s.dieUnreachable (coreDie n) = false → (s.core n).halted = false →
    s.coreDropped n = false → Does (.dbgHalt k) s (fun t => Ended k it 0 [] s t ∧ (t.reg DBG_HALT.base).toNat.testBit n = true ∧ t.cores = s.cores)) ∧
  (∀ s : State, ∀ k it n, s.offers k it → n < 32 → it.is 0xF01 3 [2 ^ n] → s.attached = true → s.dieUnreachable (coreDie n) = false → (s.core n).halted = true →
    (s.core n).hcause = 1 → (s.core n).wait = .none → (s.core n).was = cRun → Does (.dbgResume k) s (fun t => (t.ring k).run = none ∧ (t.ring k).lastSt = 0 ∧
      (t.core n).halted = false ∧ t.cstate n = cRun ∧ t.pc n = s.pc n ∧ (t.reg DBG_HALTED.base).toNat.testBit n = false ∧ t.evt DBG_EVENT 3)) ∧
  (∀ s : State, ∀ k it n c, s.offers k it → n < 32 → 1 ≤ c → c < 2 ^ 16 → it.is 0xF02 4 [n, c] → s.attached = true → s.dieUnreachable (coreDie n) = false →
    (s.core n).halted = true → (s.core n).hcause = 1 → (s.core n).wait = .none → (s.core n).was = cRun → Does (.dbgStep k) s (fun t => Waits k it (.step n) t ∧
      (t.core n).halted = false ∧ (t.core n).left = some c ∧ t.cstate n = cRun ∧ t.pc n = s.pc n)) ∧
  (∀ s : State, ∀ k it n, s.offers k it → n < 32 → it.is 0xF02 4 [n, 1] → s.attached = true → s.dieUnreachable (coreDie n) = false → (s.core n).halted = false →
    Does (.dbgStep k) s (fun t => Ended k it 7 [] s t ∧ t.cores = s.cores))

/-- The check units (R394, R395, R397 to R403): bytes fed, CHECK, START, the guard, and a block that its trailer ends. A command whose condition is not
met leaves the machine as it is by log entry 2. -/
def Obligations.CheckUnits : Prop :=
  (∀ s : State, ∀ rq, s.serves rq → ∀ u < 8, ∀ v : Word, ∀ be ∈ [1, 2, 3, 4, 8, 12, 15], s.live CHK_CFG_EN u = 1 →
    exec (.chkDataWrite rq u be v) s = .next ((chkLanes (s.live CHK_CFG_ORDER u) be v.toNat).foldl (fun t x => t.chkByte u x) s)) ∧
  (∀ s : State, ∀ rq, s.whole → s.serves rq → ∀ u < 8, ∀ v : Word, ∀ be ∈ [1, 2, 3, 4, 8, 12, 15], s.live CHK_CFG_EN u = 1 → s.live CHK_CFG_MODE u = 0 →
    ∀ l, l = chkLanes (s.live CHK_CFG_ORDER u) be v.toNat → ∀ x, x = l.foldl (s.chkPoly u).byte (s.chkUnit u).crc →
      Does (.chkDataWrite rq u be v) s (fun t => (t.chkUnit u).crc = x ∧ (t.chkUnit u).n = (s.chkUnit u).n + l.length ∧
        t.regN CHK_RESULT u = (s.chkPoly u).result x % 2 ^ 32 ∧ t.regN CHK_COUNT u = min ((s.chkUnit u).n + l.length) (2 ^ 32 - 1) ∧
        (s.live CHK_CFG_GEN u = 0 ∨ (s.chkUnit u).gofs < (s.chkUnit u).n ∨ (s.chkUnit u).n + l.length ≤ (s.chkUnit u).gofs →
          (t.chkUnit u).samp = (s.chkUnit u).samp) ∧
        (∀ w < 8, w ≠ u → t.chkUnit w = s.chkUnit w) ∧ sameRegsBut [CHK_RESULT.at u, CHK_COUNT.at u] s t)) ∧
  (∀ s : State, ∀ rq, s.serves rq → ∀ u < 8, ∀ v : Word, ∀ be ∈ [1, 2, 3, 4, 8, 12, 15], s.live CHK_CFG_EN u = 0 →
    exec (.chkDataWrite rq u be v) s = .next s) ∧
  (∀ s : State, s.serves .host → ∀ u < 8, ∀ v : Word, ∀ be ∈ [5, 6, 7, 9, 10, 11, 13, 14], s.flag HIF_ACCERR_VALID = false →
    Does (.chkDataWrite .host u be v) s (fun t =>
      t.fld HIF_ACCERR_CAUSE = 2 ∧ t.fld HIF_ACCERR_BE = be ∧ t.evt HIF_EVENT 0 ∧ t.chk = s.chk)) ∧
  (∀ s : State, s.whole → ∀ u < 8, s.reaches .host (CHK_CTRL.at u) → s.live CHK_CFG_MODE u = 0 →
    ∀ got, got = (s.chkPoly u).result (s.chkUnit u).crc → ∀ want, want = s.regN CHK_EXPECT u % 2 ^ (s.chkPoly u).w →
    Does (.chkCheck u) s (fun t => t.fld CHK_CNT_BLOCKS u = s.counted CHK_CNT_BLOCKS u ∧ t.fld CHK_STATUS_LASTOK u = (if got = want then 1 else 0) ∧
      t.fld CHK_CNT_MISMATCH u = (if got = want then s.fld CHK_CNT_MISMATCH u else s.counted CHK_CNT_MISMATCH u) ∧ (got ≠ want → t.evtAt CHK_EVENT u 0) ∧
      t.regN CHK_RESULT u = got % 2 ^ 32 ∧ t.regN CHK_COUNT u = 0 ∧ (t.chkUnit u).n = 0 ∧ (t.chkUnit u).samp = none ∧ (t.chkUnit u).first = false ∧
      (t.chkUnit u).crc = s.chkInit u ∧ (∀ w < 8, w ≠ u → t.chkUnit w = s.chkUnit w) ∧
      (got = want → s.live CHK_CFG_GEN u = 0 → sameRegsBut [CHK_CNT.at u, CHK_STATUS.at u, CHK_COUNT.at u, CHK_RESULT.at u] s t))) ∧
  (∀ s : State, ∀ u < 8, s.reaches .host (CHK_CTRL.at u) → s.live CHK_CFG_MODE u = 1 → exec (.chkCheck u) s = .next s) ∧
  (∀ s : State, s.whole → ∀ u < 8, s.reaches .host (CHK_CTRL.at u) → Does (.chkStart u) s (fun t => (t.chkUnit u).crc = s.chkInit u ∧
    (t.chkUnit u).n = 0 ∧ t.regN CHK_COUNT u = 0 ∧ (t.chkUnit u).first = true ∧
    t.regN CHK_RESULT u = (if (s.chkUnit u).keeps then s.regN CHK_RESULT u else (s.chkPoly u).result (s.chkInit u) % 2 ^ 32) ∧
    (∀ w < 8, w ≠ u → t.chkUnit w = s.chkUnit w) ∧ sameRegsBut [CHK_COUNT.at u, CHK_RESULT.at u] s t)) ∧
  (∀ s : State, s.whole → ∀ u < 8, s.reaches .host (CHK_CTRL.at u) → ∀ c, s.live CHK_CFG_MODE u = 0 → s.live CHK_CFG_GEN u = 1 →
    (s.chkUnit u).samp = some c → c < 256 → ∀ m, m = (if s.live CHK_CFG_GW u = 1 then 256 else 16) →
    ∀ unjudged, unjudged = ((s.chkUnit u).first || !s.flag CHK_STATUS_GVALID u) →
    Does (.chkCheck u) s (fun t => t.fld CHK_STATUS_GVALID u = 1 ∧ t.fld CHK_STATUS_GLAST u = c ∧
      (unjudged = true ∨ c = (s.fld CHK_STATUS_GLAST u + 1) % m → t.reg (CHK_GCNT.at u) = s.reg (CHK_GCNT.at u)) ∧
      (unjudged = false → c = s.fld CHK_STATUS_GLAST u → t.fld CHK_GCNT_REPEAT u = s.counted CHK_GCNT_REPEAT u ∧ t.evtAt CHK_EVENT u 1) ∧
      (unjudged = false → c ≠ s.fld CHK_STATUS_GLAST u → c ≠ (s.fld CHK_STATUS_GLAST u + 1) % m →
        t.fld CHK_GCNT_SKIP u = s.counted CHK_GCNT_SKIP u ∧ t.evtAt CHK_EVENT u 2))) ∧
  (∀ s : State, s.whole → ∀ u < 8, s.reaches .host (CHK_CTRL.at u) → s.live CHK_CFG_MODE u = 0 → s.live CHK_CFG_GEN u = 1 → (s.chkUnit u).samp = none →
    Does (.chkCheck u) s (fun t => t.evtAt CHK_EVENT u 3 ∧ t.reg (CHK_GCNT.at u) = s.reg (CHK_GCNT.at u) ∧ (t.chkUnit u).first = false ∧
      t.fld CHK_STATUS_GVALID u = s.fld CHK_STATUS_GVALID u ∧ t.fld CHK_STATUS_GLAST u = s.fld CHK_STATUS_GLAST u)) ∧
  (∀ s : State, ∀ rq, s.whole → s.serves rq → ∀ u < 8, ∀ v : Word, s.live CHK_CFG_EN u = 1 → s.live CHK_CFG_MODE u = 1 → s.live CHK_CFG_GEN u = 0 →
    (s.chkUnit u).n ≠ 0 → (s.chkUnit u).n + 1 = (s.chkUnit u).len → ∀ l, l = (s.chkUnit u).trailer ++ [v.toNat % 256] →
    Does (.chkDataWrite rq u 1 v) s (fun t => t.fld CHK_CNT_BLOCKS u = s.counted CHK_CNT_BLOCKS u ∧ (t.chkUnit u).n = 0 ∧ t.regN CHK_COUNT u = 0 ∧
      (t.chkUnit u).trailer = [] ∧ t.fld CHK_STATUS_LASTOK u =
        (if (s.chkPoly u).result (s.chkUnit u).crc = ofBytes (if s.live CHK_CFG_TORDER u = 1 then l.reverse else l) then 1 else 0))) ∧
  (∀ s : State, ∀ rq, s.whole → s.serves rq → ∀ u < 8, ∀ v : Word, s.live CHK_CFG_EN u = 1 → s.live CHK_CFG_MODE u = 1 → (s.chkUnit u).n = 0 →
    s.fld CHK_LEN_LEN u < (s.chkPoly u).t + 1 → (s.chkPoly u).t + 1 ≤ (s.chkUnit u).lastLen → Does (.chkDataWrite rq u 1 v) s (fun t =>
      t.fld CHK_STATUS_CFG_MISMATCH u = 1 ∧ t.evtAt CHK_EVENT u 6 ∧ (t.chkUnit u).n = 1 ∧ (t.chkUnit u).len = (s.chkUnit u).lastLen ∧
      (t.chkUnit u).gofs = (s.chkUnit u).lastGofs))

/-- The Journal numbers, places, limits and loses records (R408 to R413), and its snapshot (R415). A record waits until the mount has written RESET
(R423); a RECORD_INTAKE that finds nothing to take leaves the machine as it is by log entry 2. -/
def Obligations.JournalIntake : Prop :=
  (∀ s : State, (s.jrn.intake = [] ∨ s.jrn.opened = false) → exec .recordIntake s = .next s) ∧
  (∀ r x : JRec, ∀ l, takeGroup (r :: x :: l) =
    if r.part = true ∧ sameEvent r x = true then (r :: (takeGroup (x :: l)).1, (takeGroup (x :: l)).2) else ([r], x :: l)) ∧
  (∀ s : State, ∀ r l i, s.jrn.opened = true → takeGroup s.jrn.intake = ([r], l) → s.live JRN_RATE_RATE r.sev = 0 →
    (s.fld JRN_STATUS_NORST ≠ 2 ∨ r.sev < 5 ∧ s.unflushed.length + 1 < s.live JRN_CFG_FLTHR) →
    (freeSlot 0 s.jrn.slots = some i ∨ freeSlot 0 s.jrn.slots = none ∧ ∃ e, oldest (fun e => e.flushed) s.jrn.slots = some e ∧ i = e.slot) →
    ∀ b, b = (s.bucket r.code).getD { code := r.code, tokens := s.live JRN_RATE_BURST r.sev, sev := r.sev, sup := none } →
    Does .recordIntake s (fun t =>
      t.jrn = { s.jrn with
        intake := l,
        buckets := putBucket { b with sev := r.sev } s.jrn.buckets,
        slots := putSlot { slot := i, seq := s.regN JRN_NEXTSEQ, r := r, flushed := false } s.jrn.slots,
        last := some (s.regN JRN_NEXTSEQ) } ∧
      t.regN JRN_NEXTSEQ = (if 0xFFFFFFFE ≤ s.regN JRN_NEXTSEQ then 0 else s.regN JRN_NEXTSEQ + 1) ∧ sameRegsBut [JRN_NEXTSEQ.base, JRN_COUNT.base] s t)) ∧
  (∀ s : State, ∀ r l i, s.jrn.opened = true → takeGroup s.jrn.intake = ([r], l) → s.live JRN_RATE_RATE r.sev = 0 → s.fld JRN_STATUS_NORST = 2 →
    (5 ≤ r.sev ∨ s.live JRN_CFG_FLTHR = 1) → freeSlot 0 s.jrn.slots = some i → s.jrn.flushing = none → s.jrn.clear = none → s.jrn.active = true →
    s.activeSlot < s.sectSlots → (s.jrn.erase = none ∧ s.boot.erasing = false ∨ s.live JRN_NORGEO_NOSUS ≠ 1) →
    Does .recordIntake s (fun t => t.fld JRN_STATUS_FLUSHING = 1 ∧ t.fld JRN_STATUS_SUSP = (if s.jrn.erase.isSome then 1 else s.fld JRN_STATUS_SUSP) ∧
      t.jrn.flushing = some t.unflushed ∧ (∃ e ∈ t.unflushed, e.slot = i ∧ e.r = r) ∧
      sameRegsBut [JRN_NEXTSEQ.base, JRN_COUNT.base, JRN_STATUS.base] s t)) ∧
  (∀ s : State, ∀ r l, s.jrn.opened = true → takeGroup s.jrn.intake = ([r], l) → r.sev < 4 → s.live JRN_RATE_RATE r.sev = 0 →
    freeSlot 0 s.jrn.slots = none → (∀ e ∈ s.jrn.slots, e.flushed = false ∧ r.sev ≤ e.r.sev) → s.live JRN_CFG_EQOVR = 0 →
    Does .recordIntake s (fun t => t.jrn.intake = l ∧ t.jrn.slots = s.jrn.slots ∧ t.jrn.last = s.jrn.last ∧
      bits (t.reg JRN_LOST0.base) (8 * r.sev) 8 = min (bits (s.reg JRN_LOST0.base) (8 * r.sev) 8 + 1) 255 ∧ t.evt JRN_EVENT 0 ∧
      sameRegsBut [JRN_LOST0.base, JRN_EVENT.base, 0x9000] s t)) ∧
  (∀ s : State, ∀ r g l b, s.jrn.opened = true → takeGroup s.jrn.intake = (r :: g, l) → s.live JRN_RATE_RATE r.sev ≠ 0 → s.bucket r.code = some b →
    b.tokens = 0 → b.sup = none →
    Does .recordIntake s (fun t => t.bucket r.code = some { b with sev := r.sev, sup := some (g.length + 1, r.rnd % 65536, r.sev) } ∧ t.jrn.intake = l ∧
      t.jrn.slots = s.jrn.slots ∧ t.regN JRN_NEXTSEQ = s.regN JRN_NEXTSEQ ∧ t.evt JRN_EVENT 1)) ∧
  (∀ s : State, ∀ r g l b n f m, s.jrn.opened = true → takeGroup s.jrn.intake = (r :: g, l) → s.live JRN_RATE_RATE r.sev ≠ 0 → s.bucket r.code = some b →
    b.tokens = 0 → b.sup = some (n, f, m) →
    Does .recordIntake s (fun t => t.bucket r.code = some { b with sev := r.sev, sup := some (n + (g.length + 1), f, max m r.sev) } ∧
      t.jrn.intake = l ∧ t.jrn.slots = s.jrn.slots ∧ t.regs = s.regs)) ∧
  (∀ s : State, ∀ r g l b, s.jrn.opened = true → takeGroup s.jrn.intake = (r :: g, l) → s.live JRN_RATE_RATE r.sev ≠ 0 → s.bucket r.code = some b →
    b.tokens ≠ 0 → Does .recordIntake s (fun t => t.bucket r.code = some { b with tokens := b.tokens - 1, sev := r.sev })) ∧
  (∀ s : State, ∀ r l b i, s.jrn.opened = true → takeGroup s.jrn.intake = ([r], l) → s.live JRN_RATE_RATE r.sev ≠ 0 → s.bucket r.code = some b →
    b.tokens ≠ 0 → s.fld JRN_STATUS_NORST ≠ 2 → freeSlot 0 s.jrn.slots = some i → Does .recordIntake s (fun t => t.jrn.intake = l ∧
      t.jrn.slots = putSlot { slot := i, seq := s.regN JRN_NEXTSEQ, r := r, flushed := false } s.jrn.slots)) ∧
  (∀ s : State, ∀ e ∈ s.jrn.slots, s.reaches .host JRN_CTRL.base → e.seq < 2 ^ 32 → (∀ f ∈ s.jrn.slots, f = e ∨ seqBefore e.seq f.seq = true) →
    Does .jrnCtrlSnapshot s (fun t =>
    t.regN JRN_SNAP_FIRST = e.seq ∧ t.regN JRN_SNAP_LAST = (s.jrn.last.getD 0) % 2 ^ 32 ∧ t.fld JRN_CTRL_SNAPSHOT = 0 ∧
    sameRegsBut [JRN_SNAP_FIRST.base, JRN_SNAP_LAST.base, JRN_CTRL.base] s t))

/-- Flushes, sectors, the mount and flash failures (R417 to R424). That a command whose condition is not met leaves the machine as it is, is the
model's choice (log entry 2). -/
def Obligations.JournalFlash : Prop :=
  (∀ s : State, s.reaches .host JRN_CTRL.base → s.fld JRN_STATUS_NORST ≠ 2 → Does .jrnCtrlFlush s (fun t => t.fld JRN_CTRL_FLUSH = 0 ∧ t.jrn = s.jrn ∧ sameRegsBut [JRN_CTRL.base] s t)) ∧
  (∀ s : State, s.reaches .host JRN_CTRL.base → s.fld JRN_STATUS_NORST = 2 → s.jrn.flushing = none → s.jrn.clear = none → s.jrn.active = true →
    s.unflushed ≠ [] → s.activeSlot < s.sectSlots → (s.jrn.erase = none ∧ s.boot.erasing = false ∨ s.live JRN_NORGEO_NOSUS ≠ 1) →
    Does .jrnCtrlFlush s (fun t => t.fld JRN_CTRL_FLUSH = 1 ∧ t.fld JRN_STATUS_FLUSHING = 1 ∧
      t.fld JRN_STATUS_SUSP = (if s.jrn.erase.isSome then 1 else s.fld JRN_STATUS_SUSP) ∧ t.jrn.flushing = some s.unflushed ∧ t.jrn.slots = s.jrn.slots ∧
      t.nor = s.nor ∧ sameRegsBut [JRN_CTRL.base, JRN_STATUS.base] s t)) ∧
  (∀ s : State, s.reaches .host JRN_CTRL.base → s.fld JRN_STATUS_NORST = 2 → s.jrn.flushing = none → s.jrn.clear = none → s.jrn.active = true →
    s.unflushed ≠ [] → s.sectSlots ≤ s.activeSlot → s.jrn.prepared = none → s.jrn.erase = none → s.boot.erasing = false → s.jrn.frozen = false →
    Does .jrnCtrlFlush s (fun t => t.fld JRN_CTRL_FLUSH = 1 ∧ t.fld JRN_STATUS_FLUSHING = s.fld JRN_STATUS_FLUSHING ∧ t.fld JRN_STATUS_ERASING = 1 ∧
      t.jrn = { s.jrn with
        pend := true,
        erase := some { target := (s.activeSect + 1) % max 1 s.nsect, sseq := (s.jrn.sseq + 1) % 2 ^ 32, ticket := true } } ∧
      sameRegsBut [JRN_CTRL.base, JRN_STATUS.base] s t)) ∧
  (∀ s : State, s.reaches .host JRN_CTRL.base → s.fld JRN_STATUS_NORST = 2 → s.jrn.flushing.isSome = true → Does .jrnCtrlFlush s (fun t => t.fld JRN_CTRL_FLUSH = 1 ∧
    t.jrn = { s.jrn with pend := true } ∧ sameRegsBut [JRN_CTRL.base] s t)) ∧
  (∀ s : State, s.jrn.flushing = none → exec .flushDone s = .next s) ∧
  (∀ s : State, ∀ e, s.jrn.flushing = some [e] → s.jrn.pend = false → s.jrn.clear = none → s.jrn.off = false → 2 * (s.activeSlot + 1) < s.sectSlots →
    Does .flushDone s (fun t => t.jrn.flushing = none ∧ t.fld JRN_STATUS_FLUSHING = 0 ∧ t.regN JRN_FLUSHED = e.seq % 2 ^ 32 ∧ t.evt JRN_EVENT 2 ∧
      t.activeSect = s.activeSect ∧ t.activeSlot = s.activeSlot + 1 ∧ (∀ h ∈ t.jrn.slots, h.slot = e.slot → h.seq = e.seq → h.r = e.r → h.flushed = true) ∧
      (∀ i < 32, memGet dfltF t.nor (s.slotAt s.activeSect s.activeSlot + i) =
        memGet dfltF s.nor (s.slotAt s.activeSect s.activeSlot + i) &&& BitVec.ofNat 8 ((recBytes e.seq e.r).getD i 0)) ∧
      memGet dfltF t.nor (s.markAt s.activeSect s.activeSlot) = 0 ∧
      (∀ a, (a < s.slotAt s.activeSect s.activeSlot ∨ s.slotAt s.activeSect s.activeSlot + 32 ≤ a) → a ≠ s.markAt s.activeSect s.activeSlot →
        memGet dfltF t.nor a = memGet dfltF s.nor a))) ∧
  (∀ s : State, ∀ e j, s.jrn.flushing = some [e] → s.jrn.pend = false → s.jrn.clear = none → s.jrn.erase = none → s.jrn.off = false →
    s.activeSlot = s.sectSlots → s.jrn.prepared = some j → j < 4096 → (∀ a, s.sectAt j ≤ a → a < s.sectAt j + s.sectSize → memGet dfltF s.nor a = 0xFF) →
    Does .flushDone s (fun t => t.activeSect = j ∧ t.activeSlot = 1 ∧ t.norLE (s.sectAt j) 4 = 0x4E524A4B ∧ t.norLE (s.sectAt j + 4) 4 = s.regN JRN_EPOCH ∧
      t.norLE (s.sectAt j + 8) 4 = (s.jrn.sseq + 1) % 2 ^ 32 ∧ t.norLE (s.sectAt j + 12) 4 = e.seq % 2 ^ 32 ∧ t.norLE (s.sectAt j + 28) 4 = 0 ∧
      t.trustedShape j = (decide (s.regN JRN_EPOCH ≠ 0xFFFFFFFF) && decide ((s.jrn.sseq + 1) % 2 ^ 32 ≠ 0xFFFFFFFF)) ∧ t.slotValid j 0 = true)) ∧
  (∀ s : State, (s.jrn.erase = none ∨ s.flag JRN_STATUS_SUSP = true) → exec .sectorEraseDone s = .next s) ∧
  (∀ s : State, ∀ e, s.jrn.erase = some e → e.ticket = false → s.flag JRN_STATUS_SUSP = false → s.jrn.clear = none → s.jrn.pend = false → s.jrn.off = false →
    (s.jrn.active = false ∨ s.activeSlot < s.sectSlots) →
    Does .sectorEraseDone s (fun t => t.jrn = { s.jrn with erase := none, prepared := some e.target } ∧ t.fld JRN_STATUS_ERASING = 0 ∧
      (∀ a, s.sectAt e.target ≤ a → a < s.sectAt e.target + s.sectSize → memGet dfltF t.nor a = 0xFF) ∧
      (∀ a, (a < s.sectAt e.target ∨ s.sectAt e.target + s.sectSize ≤ a) → memGet dfltF t.nor a = memGet dfltF s.nor a) ∧
      sameRegsBut [JRN_STATUS.base] s t)) ∧
  (∀ s : State, ∀ e, s.jrn.erase = some e → e.ticket = true → s.flag JRN_STATUS_SUSP = false → s.jrn.clear = none → s.jrn.pend = false → s.jrn.off = false →
    (∀ i < 32, memGet dfltF s.nor (s.slotAt s.activeSect (s.sectSlots + 1) + i) = 0xFF) → e.target ≠ s.activeSect → e.target < 2 ^ 16 → e.sseq < 2 ^ 32 →
    (s.jrn.active = false ∨ s.activeSlot < s.sectSlots) →
    Does .sectorEraseDone s (fun t => t.slotValid s.activeSect (s.sectSlots + 1) = true ∧ t.slotCode s.activeSect (s.sectSlots + 1) = 0x0011 ∧
      t.slotData s.activeSect (s.sectSlots + 1) = e.target + 2 ^ 32 * e.sseq ∧ t.jrn.prepared = some e.target)) ∧
  (∀ s : State, ∀ e, s.jrn.erase = some e → s.flag JRN_STATUS_SUSP = false → s.jrn.clear = none → s.jrn.pend = false → s.jrn.off = false →
    s.jrn.active = true → s.sectSlots ≤ s.activeSlot → e.target < 4096 → Does .sectorEraseDone s (fun t => t.activeSect = e.target ∧ t.activeSlot = 0 ∧
      t.jrn.prepared = none ∧ t.jrn.erase = none ∧ t.jrn.sseq = (s.jrn.sseq + 1) % 2 ^ 32)) ∧
  (∀ s : State, s.fld JRN_STATUS_NORST ≠ 1 → exec .journalMount s = .next s) ∧
  (∀ s : State, ∀ i, s.fld JRN_STATUS_NORST = 1 → s.nor = [] → s.binding = false → freeSlot 0 s.jrn.slots = some i → Does .journalMount s (fun t =>
    t.fld JRN_STATUS_NORST = 2 ∧ t.regN JRN_NEXTSEQ = 1 ∧ t.regN JRN_EPOCH = 0 ∧ t.regN JRN_FLUSHED = 0xFFFFFFFF ∧ t.fld JRN_DIRTY_COUNT = 0 ∧
    t.jrn.active = false ∧ t.jrn.opened = true ∧ t.jrn.last = some 0 ∧
    ∃ e ∈ t.jrn.slots, e.slot = i ∧ e.seq = 0 ∧ e.flushed = false ∧ e.r.code = 0x0002 ∧ e.r.sev = 3 ∧
      e.r.data = 2 ^ 16 * s.fld PWR_RSTCAUSE_LAST + 2 ^ 32 * 0xFFFFFFFF)) ∧
  (∀ s u : State, ∀ e, s.fld JRN_STATUS_NORST = 1 →
    u = s.modJrn (fun x => { x with part := (s.live JRN_NORBASE_BASE, s.live JRN_NORGEO_SECT, s.live JRN_NORGEO_NSECT) }) →
    (∃ j < u.nsect, u.trustedShape j = true ∧ u.norLE (u.sectAt j + 4) 4 = e) → (∀ j < u.nsect, u.trustedShape j = true → u.norLE (u.sectAt j + 4) 4 ≤ e) →
    Does .journalMount s (fun t => t.fld JRN_STATUS_NORST = 2 ∧ t.jrn.part = u.jrn.part ∧ t.jrn.opened = true ∧ t.regN JRN_EPOCH = e)) ∧
  (∀ s : State, ∀ n op st a, (s.fld JRN_STATUS_NORST = 1 ∨ s.fld JRN_STATUS_NORST = 2) → Does (.flashErr n op st a) s (fun t => t.fld JRN_STATUS_NORST = 3 ∧
    t.fld JRN_STATUS_FLUSHING = 0 ∧ t.fld JRN_STATUS_ERASING = 0 ∧ t.fld JRN_CTRL_FLUSH = 0 ∧ t.jrn.active = false ∧ t.jrn.flushing = none ∧
    t.jrn.slots = s.jrn.slots.map (fun e => { e with flushed := false }) ∧ t.nor = s.nor ∧ t.evt JRN_EVENT 3)) ∧
  (∀ s : State, ∀ n op st a, (s.fld JRN_STATUS_NORST = 0 ∨ s.fld JRN_STATUS_NORST = 3) → exec (.flashErr n op st a) s = .next s)

/-- The TAP (R466 to R470): its instructions, the balls that boundary scan takes, and the accesses of DBGACC. That a command whose condition is not
met leaves the machine as it is, is the model's choice (log entry 2), and so is the refusal of the reserved OP 3 (log entry 74). -/
def Obligations.TestAccessPort : Prop :=
  (∀ s : State, ∀ p ∈ [(Instr.tapReset, 0x02), (Instr.samplePreload, 0x01), (Instr.idcode, 0x02), (Instr.dbgacc, 0x10), (Instr.bypass, 0xFF)],
    exec p.1 s = .next { s with tap := { s.tap with ir := p.2 } }) ∧
  (∀ s : State, ∀ p ∈ [(Instr.extest, 0x00), (Instr.clamp, 0x03), (Instr.highz, 0x04), (Instr.extestPulse, 0x05), (Instr.extestTrain, 0x06)],
    Does p.1 s (fun t => t.tap = { s.tap with ir := p.2 } ∧ t.fld DBG_STATUS_EXTEST = 1 ∧ t.evt DBG_EVENT 7 ∧
      (s.boStage = 0 → s.jrn.intake.length < 64 → ∃ r, t.jrn.intake = s.jrn.intake ++ [r] ∧ r.code = 0x1007 ∧ r.sev = 6) ∧
      sameRegsBut (DBG_STATUS.base :: DBG_EVENT.base :: reportRegs) s t)) ∧
  (∀ s : State, s.tap.ir = 0x02 → s.tapCapture = some (2 ^ 28 * (s.fld HIF_ID_MAJOR % 16) + 2 ^ 12 * 0x0960 + 2 * Config.manufacturer.toNat + 1)) ∧
  (∀ s : State, s.tap.ir = 0x10 → s.flag DBG_STATUS_FUSEDIS = true → s.tapCapture = some (s.tap.data + 2 ^ 64 * 3)) ∧
  (∀ s : State, ∀ d o b, ∀ op : TapOp, op.code < 4 → (s.tap.ir ≠ 0x10 ∨ s.flag DBG_STATUS_FUSEDIS = true ∨ op.code = 0) → exec (.dbgaccUpdate d o b op) s = .next s) ∧
  (∀ s : State, ∀ d o b ecc, s.tap.ir = 0x10 → s.flag DBG_STATUS_FUSEDIS = false → exec (.dbgaccUpdate d o b ⟨3, ecc⟩) s = .refused .reservedOp) ∧
  (∀ s : State, ∀ d ecc, s.tap.ir = 0x10 → s.flag DBG_STATUS_FUSEDIS = false → exec (.dbgaccUpdate d RND_BAND_LO.base false ⟨1, ecc⟩) s =
    .next { s with tap := { s.tap with data := s.regN RND_BAND_LO, status := 0 } }) ∧
  (∀ s : State, ∀ d ecc, s.tap.ir = 0x10 → s.flag DBG_STATUS_FUSEDIS = false → Does (.dbgaccUpdate d RND_STATS.base false ⟨1, ecc⟩) s (fun t =>
    t.tap = { s.tap with data := s.regN RND_STATS, status := 0 } ∧ (s.flag DBG_CTRL_SIDEFX = false → t.regs = s.regs) ∧
    (s.flag DBG_CTRL_SIDEFX = true → t.regN RND_STATS = 0 ∧ sameRegsBut [RND_STATS.base] s t))) ∧
  (∀ s : State, ∀ d < 2 ^ 32, ∀ ecc, s.tap.ir = 0x10 → s.flag DBG_STATUS_FUSEDIS = false → Does (.dbgaccUpdate d RND_BAND_LO.base false ⟨2, ecc⟩) s (fun t =>
    t.regN RND_BAND_LO = d ∧ t.tap = { s.tap with status := 0 } ∧ sameRegsBut [RND_BAND_LO.base] s t)) ∧
  (∀ s : State, ∀ d ecc, s.tap.ir = 0x10 → s.flag DBG_STATUS_FUSEDIS = false → (s.reg DBG_ACCERR.base).toNat.testBit 0 = false →
    Does (.dbgaccUpdate d 0xE00000 false ⟨1, ecc⟩) s (fun t => t.tap = { s.tap with data := 0xFFFFFFFF, status := 2 } ∧ t.reg DBG_ACCERR.base = BitVec.ofNat 32 (1 + 2 * 3 + 128 * 15) ∧
      t.reg DBG_ACCERR_ADDR.base = 0xE00000 ∧ t.evt DBG_EVENT 6 ∧
      sameRegsBut (DBG_ACCERR.base :: DBG_ACCERR_ADDR.base :: DBG_EVENT.base :: reportRegs) s t)) ∧
  (∀ s : State, ∀ d n a, n < 32 → a + 4 ≤ 0x100000 → a % 4 = 0 → s.tap.ir = 0x10 → s.flag DBG_STATUS_FUSEDIS = false → s.dieUnreachable (n / 16) = false →
    exec (.dbgaccUpdate d (0x100000 * n + a) true ⟨1, false⟩) s =
      .next { s with tap := { s.tap with data := ofBytes (memBytes dflt0 s.data (dataAt n a) 4), status := 0 } }) ∧
  (∀ s : State, ∀ d n a, n < 32 → a + 4 ≤ 0x100000 → a % 4 = 0 → s.tap.ir = 0x10 → s.flag DBG_STATUS_FUSEDIS = false → s.dieUnreachable (n / 16) = false →
    Does (.dbgaccUpdate d (0x100000 * n + a) true ⟨1, true⟩) s (fun t => t.tap = { s.tap with data := 0xFFFFFFFF, status := 0 } ∧ t.data = s.data)) ∧
  (∀ s : State, ∀ d < 2 ^ 32, ∀ n a ecc, n < 32 → a + 4 ≤ 0x100000 → a % 4 = 0 → s.tap.ir = 0x10 → s.flag DBG_STATUS_FUSEDIS = false →
    s.dieUnreachable (n / 16) = false → Does (.dbgaccUpdate d (0x100000 * n + a) true ⟨2, ecc⟩) s (fun t => t.tap = { s.tap with status := 0 } ∧
      ofBytes (memBytes dflt0 t.data (dataAt n a) 4) = d ∧ t.regs = s.regs ∧
      ∀ b, (b < dataAt n a ∨ dataAt n a + 4 ≤ b) → memGet dflt0 t.data b = memGet dflt0 s.data b))

/-- Attaching, halting, resuming and stepping, and the core debug registers (R471, R472, R475, R476). That a command whose condition is not met leaves
the machine as it is, is the model's choice (log entry 2). -/
def Obligations.CoreDebug : Prop :=
  (∀ s : State, ∀ rq, s.reaches rq DBG_CTRL.base → s.flag DBG_CTRL_ATTACH = false → s.flag DBG_STATUS_FUSEDIS = false → Does (.dbgAttachWrite rq true) s (fun t =>
    t.flag DBG_CTRL_ATTACH = true ∧ t.evt DBG_EVENT 0 ∧ t.cores = s.cores ∧ sameRegsBut (DBG_CTRL.base :: DBG_EVENT.base :: reportRegs) s t)) ∧
  (∀ s : State, ∀ rq, s.reaches rq DBG_CTRL.base → (s.flag DBG_CTRL_ATTACH = true ∨ s.flag DBG_STATUS_FUSEDIS = true) → exec (.dbgAttachWrite rq true) s = .next s) ∧
  (∀ s : State, ∀ rq, s.reaches rq DBG_CTRL.base → s.flag DBG_CTRL_ATTACH = false → exec (.dbgAttachWrite rq false) s = .next s) ∧
  (∀ s : State, ∀ rq, s.whole → s.reaches rq DBG_CTRL.base → s.flag DBG_CTRL_ATTACH = true →
    (∀ m < 32, (s.core m).halted = true → (s.core m).hcause ≠ 5 ∧ (s.core m).wait = .none) → Does (.dbgAttachWrite rq false) s (fun t => t.flag DBG_CTRL_ATTACH = false ∧ t.evt DBG_EVENT 1 ∧
    (∀ n < 32, (t.core n).halted = false ∧ ∀ j < 8, j ≠ 5 → j ≠ 7 → (t.core n).dbg.getD j 0 % 2 = 0) ∧
    (∀ n < 32, (s.core n).halted = false → t.core n = { s.core n with dbg := (t.core n).dbg } ∧ ∀ j < 8, j ≠ 5 → j ≠ 7 →
      (t.core n).dbg.getD j 0 = (s.core n).dbg.getD j 0 / 2 * 2))) ∧
  (∀ s : State, ∀ on, s.reaches .host DBG_CTRL.base → s.flag DBG_CTRL_SIDEFX = on → exec (.dbgSidefxWrite on) s = .next s) ∧
  (∀ s : State, ∀ on, s.reaches .host DBG_CTRL.base → s.flag DBG_CTRL_SIDEFX ≠ on → Does (.dbgSidefxWrite on) s (fun t => t.flag DBG_CTRL_SIDEFX = on ∧ t.evt DBG_EVENT 5 ∧
    sameRegsBut (DBG_CTRL.base :: DBG_EVENT.base :: reportRegs) s t)) ∧
  (∀ s : State, s.serving = true → s.flag DBG_CTRL_ATTACH = false → s.flag HIF_ACCERR_VALID = false → ∀ m n k, n < 32 →
    ∀ c ∈ [Instr.dbgHaltWrite .host m, Instr.dbgResumeWrite .host m, Instr.dbgStepWrite .host n k], Does c s (fun t => t.fld HIF_ACCERR_CAUSE = 4 ∧
      t.fld HIF_ACCERR_WRITE = 1 ∧ t.evt HIF_EVENT 0 ∧ t.cores = s.cores ∧
      sameRegsBut (HIF_ACCERR.base :: HIF_ACCERR_ADDR.base :: HIF_ACCERR_DATA.base :: HIF_EVENT.base :: reportRegs) s t)) ∧
  (∀ s : State, ∀ rq m, s.reaches rq DBG_HALT.base → s.flag DBG_CTRL_ATTACH = true → Does (.dbgHaltWrite rq m) s (fun t => t.cores = s.cores ∧ sameRegsBut [DBG_HALT.base] s t ∧
    ∀ n < 32, (t.reg DBG_HALT.base).toNat.testBit n = ((s.reg DBG_HALT.base).toNat.testBit n || m.testBit n && !(s.core n).halted && !s.coreDropped n))) ∧
  (∀ s : State, ∀ rq n, n < 32 → s.whole → s.reaches rq DBG_RESUME.base → s.flag DBG_CTRL_ATTACH = true → (s.core n).halted = true → (s.core n).hcause = 2 → (s.core n).hpc = s.pc n →
    (s.core n).wait = .none → (s.core n).was = cRun → Does (.dbgResumeWrite rq (2 ^ n)) s (fun t => (t.core n).halted = false ∧ t.cstate n = cRun ∧
      t.pc n = s.pc n ∧ (t.core n).skip = some (s.pc n) ∧ (t.core n).left = none ∧ (t.reg DBG_HALTED.base).toNat.testBit n = false ∧ t.evt DBG_EVENT 3 ∧
      ∀ m, m ≠ n → t.core m = s.core m)) ∧
  (∀ s : State, ∀ rq n, n < 32 → s.whole → s.reaches rq DBG_RESUME.base → s.flag DBG_CTRL_ATTACH = true → (s.core n).halted = true → (s.core n).hcause = 5 → (s.core n).hpc = s.pc n →
    s.pc n < 0xFFFC → (s.core n).was = cRun → Does (.dbgResumeWrite rq (2 ^ n)) s (fun t => (t.core n).halted = false ∧ t.cstate n = cRun ∧
      t.pc n = s.pc n + 4)) ∧
  (∀ s : State, ∀ rq m, s.reaches rq DBG_RESUME.base → s.flag DBG_CTRL_ATTACH = true → (∀ n < 32, m.testBit n = true → (s.core n).halted = false) →
    Does (.dbgResumeWrite rq m) s (fun t => t.cores = s.cores ∧ sameRegsBut [DBG_HALT.base] s t ∧
      ∀ n < 32, (t.reg DBG_HALT.base).toNat.testBit n = ((s.reg DBG_HALT.base).toNat.testBit n && !m.testBit n))) ∧
  (∀ s : State, ∀ rq n k, n < 32 → k ≠ 0 → s.whole → s.reaches rq DBG_STEP.base → s.flag DBG_CTRL_ATTACH = true → (s.core n).halted = true → (s.core n).hcause = 1 →
    (s.core n).wait = .none → (s.core n).was = cRun → Does (.dbgStepWrite rq n k) s (fun t => (t.core n).halted = false ∧ (t.core n).left = some k ∧
      t.cstate n = cRun ∧ t.pc n = s.pc n)) ∧
  (∀ s : State, ∀ rq n k, n < 32 → s.reaches rq DBG_STEP.base → s.flag DBG_CTRL_ATTACH = true → ((s.core n).halted = false ∨ k = 0) → exec (.dbgStepWrite rq n k) s = .next s) ∧
  (∀ s : State, ∀ rq n i, s.serves rq → s.fld DBG_CORESEL_CORE = n → s.fld DBG_CORESEL_INDEX = i → i < 32 → (s.core n).halted = true →
    exec (.coreDebugRegAccess rq false 0) s = .next { s with resp := { rq := rq, st := 0, poison := false, data := toBytes 4 (s.gpr n i) } }) ∧
  (∀ s : State, ∀ rq n i, s.serves rq → s.fld DBG_CORESEL_CORE = n → s.fld DBG_CORESEL_INDEX = i → i < 33 → (s.core n).halted = false →
    Does (.coreDebugRegAccess rq false 0) s (fun t => t.resp = { rq := rq, st := 0, poison := false, data := toBytes 4 0 } ∧
      t.fld DBG_STATUS_NOTHALTED = 1 ∧ sameRegsBut [DBG_STATUS.base] s t)) ∧
  (∀ s : State, ∀ rq n i v, s.whole → s.serves rq → s.fld DBG_CORESEL_CORE = n → s.fld DBG_CORESEL_INDEX = i → 0 < i → i < 32 → v < 2 ^ 32 →
    i < (s.core n).g.length → (s.core n).halted = true → Does (.coreDebugRegAccess rq true v) s (fun t => t.gpr n i = v ∧ t.regs = s.regs ∧
      (∀ m, m ≠ n → t.core m = s.core m) ∧ ∀ j, j ≠ i → t.gpr n j = s.gpr n j)) ∧
  (∀ s : State, ∀ rq n v, s.serves rq → s.fld DBG_CORESEL_CORE = n → s.fld DBG_CORESEL_INDEX = 0 → (s.core n).halted = true →
    exec (.coreDebugRegAccess rq true v) s = .next s) ∧
  (∀ s : State, ∀ rq n i v, s.serves rq → s.fld DBG_CORESEL_CORE = n → s.fld DBG_CORESEL_INDEX = i → i < 33 → (s.core n).halted = false →
    Does (.coreDebugRegAccess rq true v) s (fun t => t.cores = s.cores ∧ t.fld DBG_STATUS_NOTHALTED = 1 ∧ sameRegsBut [DBG_STATUS.base] s t)) ∧
  (∀ s : State, ∀ rq n i v, s.whole → s.serves rq → s.fld DBG_CORESEL_CORE = n → s.fld DBG_CORESEL_INDEX = i → 96 ≤ i → i < 100 → v < 2 ^ 32 →
    (s.core n).dbg.length = 8 → Does (.coreDebugRegAccess rq true v) s (fun t => (t.core n).dbg.getD (i - 96) 0 = v &&& 0xFFFD ∧ t.regs = s.regs)) ∧
  (∀ s : State, ∀ n, n < 32 → (s.core n).halted = true → ∀ c ∈ [Instr.alu n, .alui n, .lui n, .oril n, .ldu n, .lds n, .st n, .bc n, .jal n, .jalr n],
    exec c s = .next s)

/-- A step (the queue's rule): the command at the front is carried out with the queue's rest; on an empty queue time goes on. -/
def Obligations.StepRunsFront : Prop :=
  (∀ s : State, ∀ c rest, s.pending = c :: rest → step s = exec c { s with pending := rest }) ∧
  (∀ s : State, ∀ c, step { s with pending := c :: s.pending } = exec c s) ∧
  (∀ s : State, s.pending = [] → ∃ t, step s = .next t ∧ t.pending = [])

/-- Stitches and rounds begin (R5, R38, R48, R146, R222), and a tick of the 250 MHz clock in which no command comes: PHASE and RND_COUNT advance at
the output frequency while the device is READY, and nothing moves while it is not (that an empty queue lets one tick pass is the model's choice, log
entry 4). That a command whose condition is not met leaves the machine as it is, is the model's choice (log entry 2). -/
def Obligations.StitchesAndRounds : Prop :=
  (∀ s : State, s.pending = [] → s.runs = true → s.rnd.stitchDue = false → (∀ b ∈ freeBlocks, s.committed b = false) →
    (∀ k < 4, (s.ring k).run = none ∧ (s.ring k).taken = []) → ∃ t, step s = .next t ∧ t.rnd.clk = s.rnd.clk + 1 ∧
      t.absPhase = s.absPhase + (s.rnd.frac + s.freq * 2 ^ 18) / 10 ^ 9 ∧ t.rnd.stitchDue = decide (s.ticksTo (2 ^ 22) ≤ 1)) ∧
  (∀ s : State, s.pending = [] → s.runs = false → (∀ k < 4, (s.ring k).run = none ∧ (s.ring k).taken = []) →
    ∃ t, step s = .next t ∧ t.rnd = s.rnd ∧ t.absPhase = s.absPhase) ∧
  (∀ s : State, s.runs = false → exec .stitchBoundary s = .next s ∧ exec .roundBoundary s = .next s) ∧
  (∀ s : State, s.runs = true → Does .stitchBoundary s (fun t => t.rnd.stitchDue = false) ∧ Does .roundBoundary s (fun t => t.rnd.stitchDue = false)) ∧
  (∀ s : State, s.runs = true → s.rnd.stitchDue = false → s.boStage = 0 → s.stitch < 1023 → s.rnd.frac < 10 ^ 9 → s.freq ≠ 0 → s.pat.readm = none →
    s.pat.active = none → (∀ c < 48, (s.fslot c).win = none) → Does .stitchBoundary s (fun t => t.absStitch = s.absStitch + 1 ∧
      t.rnd.clk = s.rnd.clk + s.ticksTo (2 ^ 22) ∧ t.rnd.stitchDue = false ∧ t.pat = s.pat ∧ ∀ n < 32, (t.core n).budget = 0)) ∧
  (∀ s : State, s.runs = true → s.rnd.stitchDue = true → s.boStage = 0 → s.stitch ≠ 0 → s.pat.readm = none → s.pat.active = none →
    (∀ c < 48, (s.fslot c).win = none) → Does .stitchBoundary s (fun t => t.absPhase = s.absPhase ∧ t.rnd.clk = s.rnd.clk ∧ t.rnd.stitchDue = false)) ∧
  (∀ s : State, s.runs = true → s.rnd.stitchDue = false → s.stitch = 1023 → s.rnd.frac < 10 ^ 9 → s.freq ≠ 0 →
    exec .roundBoundary s = exec .stitchBoundary s)

/-- Every command that names units the block has answers a next state, but for DBGACC with the reserved OP 3 (Table 21.2); one that names another unit
is a fault, and no command ends any other way. That fault and that refusal are the model's choice (log entries 6 and 74). -/
def Obligations.EveryCommandAnswers : Prop :=
  (∀ c : Instr, ∀ s : State, WellFormed c → (∀ d o b ecc, c ≠ .dbgaccUpdate d o b ⟨3, ecc⟩) → Does c s (fun _ => True)) ∧
  (∀ s : State, ∀ d o b ecc, (s.tap.ir ≠ 0x10 ∨ s.flag DBG_STATUS_FUSEDIS = true) → Does (.dbgaccUpdate d o b ⟨3, ecc⟩) s (fun t => t = s)) ∧
  (∀ c : Instr, ∀ s : State, Does c s (fun _ => True) ∨ exec c s = .fault .noSuchUnit ∨ exec c s = .refused .reservedOp)

/-- What a command may change: the pieces of the state that `touches` lists, and never the queue or the number of units; every other register, store
and engine keeps its value. -/
def Obligations.TouchesOnly : Prop :=
  (∀ c : Instr, ∀ s t : State, exec c s = .next t → ∀ p, p ∉ touches c → p.same s t) ∧
  (∀ c : Instr, Piece.pending ∉ touches c ∧ Piece.units ∉ touches c ∧ (Piece.jck ∈ touches c → ∃ k, c = .jckSet k))

/-- The journal-clear key is one-time programmable (R366): once set, no step changes or removes it. -/
def Obligations.ClearKeyStays : Prop := ∀ s t : State, ∀ k, s.sec.jck = some k → step s = .next t → t.sec.jck = some k

/-- Every step keeps the number of units of each kind. -/
def Obligations.UnitsKept : Prop := ∀ s t : State, s.whole → step s = .next t → t.whole

/-- The state right after a power-on reset: registers with the values of their cards, empty stores in their canonical form, whole, and with no
command waiting. -/
def Obligations.ResetValues : Prop :=
  State.reset.whole ∧ State.reset.storesWf ∧ State.reset.pending = [] ∧ State.reset.sec.jck = none ∧
  (∀ p ∈ [(RND_BAND_LO.base, 0x002D0000), (RND_BAND_HI.base, 0x00420000), (RND_STATUS.base, 0), (JRN_FLUSHED.base, 0xFFFFFFFF), (CHK_LEN.at 3, 0x10),
      (CMD_RCFG.at 2, 4), (MOL_TMO.at 5, 0x00400080), (PWR_HCFG.base, 0x00100400), (JRN_CFG.base, 0x2000), (CORE_WDT.at 31, 0x3E8), (PAT_LPDDR.base, 0x3C),
      (PWR_RSTCAUSE.base, 0), (CLK_CORE.at 7, 0x190)], (State.reset.reg p.1).toNat = p.2) ∧
  State.reset.rstate = 0 ∧ State.reset.castPhase = 0 ∧ (∀ n < 32, State.reset.cstate n = cIdle) ∧ (∀ p < 6, State.reset.pst p = 0)

/-- The stores at cast-on (R258): instruction words 0xFFFF_FFFF, data words 0, and the word 0xFFFF_FFFF raises ILLEGAL at the first instruction. -/
def Obligations.UnloadedStores : Prop :=
  (∀ s : State, ∀ c ∈ [Instr.powerOnReset, .pinReset, .hostReset, .debugReset], s.binding = false → s.boStage ≠ 6 →
    (c = .pinReset → s.castPhase ≠ 0) → Does c s (fun t => ∀ n < 32,
    (∀ a, a + 4 ≤ 0x10000 → ofBytes (memBytes dfltF t.inst (instAt n a) 4) = 0xFFFFFFFF) ∧
    (∀ a, a + 4 ≤ 0x100000 → ofBytes (memBytes dflt0 t.data (dataAt n a) 4) = 0))) ∧
  (∀ s : State, s.boStage = 6 → s.boot.trig ≠ 2 → Does .brownout s (fun t => ∀ n < 32,
    (∀ a, a + 4 ≤ 0x10000 → ofBytes (memBytes dfltF t.inst (instAt n a) 4) = 0xFFFFFFFF) ∧
    (∀ a, a + 4 ≤ 0x100000 → ofBytes (memBytes dflt0 t.data (dataAt n a) 4) = 0))) ∧
  (∀ s : State, ∀ n < 32, s.whole → s.canIssue n = true → s.fetch n = 0xFFFFFFFF → ∀ c ∈ [Instr.alu n, .alui n, .lui n, .oril n, .ldu n, .lds n, .st n,
      .bc n, .jal n, .jalr n, .send n, .recv n, .movd n, .done n, .csrr n, .brk n], Does c s (fun t => Faulted n 1 0xFFFFFFFF s t))

/-- START of a check unit, and a write of CHK_CTRL that sets several command bits (R399); with COMMIT the set takes effect after them (R403). -/
def Obligations.StartDiscardsTheBlock : Prop :=
  (∀ s : State, s.whole → ∀ u < 8, s.reaches .host (CHK_CTRL.at u) → Does (.chkStart u) s (fun t => (t.chkUnit u).crc = s.chkInit u ∧ (t.chkUnit u).n = 0 ∧ t.regN CHK_COUNT u = 0 ∧
    t.reg (CHK_CNT.at u) = s.reg (CHK_CNT.at u) ∧ t.fld CHK_STATUS_LASTOK u = s.fld CHK_STATUS_LASTOK u ∧ t.reg (CHK_EVENT.at u) = s.reg (CHK_EVENT.at u))) ∧
  (∀ s r : State, ∀ u < 8, s.serves .host → r = s.setReg (CHK_CTRL.at u) (s.reg (CHK_CTRL.at u)) →
    exec (.registerWrite .host (CHK_CTRL.at u) 15 6) s = .next ((r.chkCheck u).chkStart u) ∧
    exec (.registerWrite .host (CHK_CTRL.at u) 15 3) s = .next ((r.chkStart u).applyChk u) ∧
    exec (.registerWrite .host (CHK_CTRL.at u) 15 5) s = .next ((r.chkCheck u).applyChk u) ∧
    exec (.registerWrite .host (CHK_CTRL.at u) 15 7) s = .next (((r.chkCheck u).chkStart u).applyChk u)) ∧
  (∀ s : State, s.whole → ∀ u < 8, s.serves .host → s.live CHK_CFG_MODE u = 0 → s.chkReject u = 0 →
    Does (.registerWrite .host (CHK_CTRL.at u) 15 7) s (fun t => t.fld CHK_CTRL_COMMIT u = 0 ∧ t.fld CHK_CNT_BLOCKS u = s.counted CHK_CNT_BLOCKS u ∧
      (t.chkUnit u).crc = t.chkInit u ∧ (t.chkUnit u).first = true ∧ t.regN CHK_COUNT u = 0 ∧ t.fld CHK_STATUS_GVALID u = 0 ∧
      t.reg (CHK_CFG.at u + 0x800) = s.reg (CHK_CFG.at u) ∧ t.reg (CHK_INIT.at u + 0x800) = s.reg (CHK_INIT.at u)))

/-- An admission ends PASSED or REFUSED (R62). -/
def Obligations.AdmissionEnds : Prop :=
  (∀ s : State, ∀ bs, s.pat.img = some bs → s.frozenAdm = false → s.pat.readm = none → Does .admissionDone s (fun t => t.pat.img = none ∧
    t.pat.active = s.pat.active ∧ t.fld PAT_CTRL_ADMIT = 0 ∧
    (t.fld PAT_STATUS_ADM_STATE = 2 ∧ t.fld PAT_ADM_RESULT_CODE = 0 ∧ t.evt PAT_EVENT 0 ∨
      t.fld PAT_STATUS_ADM_STATE = 3 ∧ 1 ≤ t.fld PAT_ADM_RESULT_CODE ∧ t.fld PAT_ADM_RESULT_CODE ≤ 0x0B ∧ t.evt PAT_EVENT 1))) ∧
  (∀ s : State, s.reaches .host PAT_CTRL.base → s.admitting = true → Does .patCtrlAdmit s (fun t => t.fld PAT_ADM_RESULT_CODE = 0x0D ∧ t.evt PAT_EVENT 1 ∧ t.pat = s.pat)) ∧
  (∀ s : State, ∀ a im lo hi, s.atRound = true → s.pat.deactFirst = false → s.pat.act = some a → s.pat.admitted = some (im, lo, hi) →
    s.actEligible a = true → s.bandNow ≠ (lo, hi) → Does .patternActivation s (fun t => t.pat.active = s.pat.active ∧ t.pat.admitted = none ∧
      t.pat.act = none ∧ t.fld PAT_ADM_RESULT_CODE = 0x0C ∧ t.evt PAT_EVENT 1 ∧ t.fld PAT_STATUS_ACTIVE = s.fld PAT_STATUS_ACTIVE))
end

