-- ==== Sys2Proof/Laws/Only.lean ====
section
/-! SUPPORT. Laws/Only.lean: a relation between two states that says which pieces of the state may differ, and how it passes through the
updates of single pieces. -/

namespace Sys2Proof.Machine
open Sys2Proof Sys2Proof.Machine.Reg

set_option linter.all false
set_option Elab.async false

theorem Does.intro {c : Instr} {s t : State} {P : State → Prop} (h : exec c s = .next t) (hp : P t) : Does c s P := ⟨t, h, hp⟩

/-- The bit that stands for a part in a set of parts. -/
def Piece.bit (p : Piece) : Nat := p.ctorIdx

/-- A set of parts as a number. -/
def parts (l : List Piece) : Nat := l.foldl (fun m p => m ||| 2 ^ p.bit) 0

/-- Only the parts of the set `m` differ. -/
def Only (m : Nat) (s t : State) : Prop := ∀ p : Piece, m.testBit p.bit = false → p.same s t

theorem testBit_parts_aux (l : List Piece) (m : Nat) (q : Piece) :
    (l.foldl (fun m p => m ||| 2 ^ p.bit) m).testBit q.bit = (m.testBit q.bit || decide (q ∈ l)) := by
  induction l generalizing m with
  | nil => simp
  | cons p t ih =>
    have hb : (2 ^ p.bit).testBit q.bit = decide (q = p) := by cases p <;> cases q <;> rfl
    simp only [List.foldl_cons, ih, Nat.testBit_or, hb, List.mem_cons, Bool.or_assoc, Bool.decide_or]
/-- A set of parts holds just its parts. -/
theorem testBit_parts (l : List Piece) (q : Piece) : (parts l).testBit q.bit = decide (q ∈ l) := by
  simp [parts, testBit_parts_aux]
/-- What only differs in the parts of a list is the same in every other part. -/
theorem Only.same {l : List Piece} {s t : State} (h : Only (parts l) s t) {p : Piece} (hp : p ∉ l) : p.same s t :=
  h p (by simp [testBit_parts, hp])

theorem Piece.same_refl (p : Piece) (s : State) : p.same s s := by cases p <;> rfl
theorem Piece.same_trans {p : Piece} {s t u : State} (h : p.same s t) (g : p.same t u) : p.same s u := by
  cases p <;> exact Eq.trans g h
theorem Piece.same_symm {p : Piece} {s t : State} (h : p.same s t) : p.same t s := by cases p <;> exact Eq.symm h

@[simp] theorem Only.refl (m : Nat) (s : State) : Only m s s := fun p _ => p.same_refl s
theorem Only.trans {m : Nat} {s t u : State} (h : Only m s t) (g : Only m t u) : Only m s u :=
  fun p hp => Piece.same_trans (h p hp) (g p hp)
theorem Only.symm {m : Nat} {s t : State} (h : Only m s t) : Only m t s := fun p hp => Piece.same_symm (h p hp)
theorem Only.mono {k m : Nat} {s t : State} (hk : k ||| m = m) (h : Only k s t) : Only m s t := by
  intro p hp
  apply h
  rw [← hk, Nat.testBit_or] at hp
  exact (Bool.or_eq_false_iff.mp hp).1
/-- A function that touches only the parts of `k` is invisible to `Only m`, where `m` holds `k`. -/
theorem Only.iff {k m : Nat} {u s t : State} (hk : k ||| m = m) (h : Only k s t) : Only m u t ↔ Only m u s :=
  ⟨fun g => g.trans (h.mono hk).symm, fun g => g.trans (h.mono hk)⟩
theorem Only.iff' {m : Nat} {u s t : State} (h : Only m s t) : Only m u t ↔ Only m u s := ⟨fun g => g.trans h.symm, fun g => g.trans h⟩

theorem Only.lift {k m : Nat} {u s t : State} (hk : k ||| m = m) (h : ∀ u, Only k u t ↔ Only k u s) : Only m u t ↔ Only m u s :=
  Only.iff hk ((h s).2 (Only.refl k s))
theorem Only.sub {a b m : Nat} (h : a ||| b = b) (hm : b ||| m = m) : a ||| m = m := by
  rw [← hm, ← Nat.or_assoc, h]
@[simp] theorem only_ite (m : Nat) (u : State) (c : Prop) [Decidable c] (a b : State) :
    Only m u (if c then a else b) ↔ (if c then Only m u a else Only m u b) := by split <;> rfl
@[simp] theorem only_ite_fst {α : Type} (m : Nat) (u : State) (c : Prop) [Decidable c] (a b : State × α) :
    Only m u (if c then a else b).1 ↔ (if c then Only m u a.1 else Only m u b.1) := by split <;> rfl
@[simp] theorem only_foldl {α : Type} {m : Nat} {u : State} {f : State → α → State} {l : List α} {s : State}
    (hf : ∀ v a, Only m v (f v a)) : Only m u (l.foldl f s) ↔ Only m u s := by
  induction l generalizing s with
  | nil => rfl
  | cons a t ih => exact (ih (s := f s a)).trans (hf s a).iff'
@[simp] theorem only_foldl_fst {α β : Type} {m : Nat} {u : State} {f : State × α → β → State × α} {l : List β} {x : State × α}
    (hf : ∀ v b, Only m v.1 (f v b).1) : Only m u (l.foldl f x).1 ↔ Only m u x.1 := by
  induction l generalizing x with
  | nil => rfl
  | cons a t ih => exact (ih (x := f x a)).trans (hf x a).iff'

@[simp] theorem only_regs {m : Nat} {u s : State} {x : List (Nat × Word)} (h : 1 ||| m = m) : Only m u { s with regs := x } ↔ Only m u s :=
  Only.iff h (by intro p; cases p <;> first | (intro; rfl) | (intro h; exact absurd h (by decide)))
@[simp] theorem only_latch {m : Nat} {u s : State} {x : List (Nat × Word)} (h : 2 ||| m = m) : Only m u { s with latch := x } ↔ Only m u s :=
  Only.iff h (by intro p; cases p <;> first | (intro; rfl) | (intro h; exact absurd h (by decide)))
@[simp] theorem only_stage {m : Nat} {u s : State} {x : List (Nat × Word)} (h : 4 ||| m = m) : Only m u { s with stage := x } ↔ Only m u s :=
  Only.iff h (by intro p; cases p <;> first | (intro; rfl) | (intro h; exact absurd h (by decide)))
@[simp] theorem only_data {m : Nat} {u s : State} {x : List Host.Cell} (h : 8 ||| m = m) : Only m u { s with data := x } ↔ Only m u s :=
  Only.iff h (by intro p; cases p <;> first | (intro; rfl) | (intro h; exact absurd h (by decide)))
@[simp] theorem only_inst {m : Nat} {u s : State} {x : List Host.Cell} (h : 16 ||| m = m) : Only m u { s with inst := x } ↔ Only m u s :=
  Only.iff h (by intro p; cases p <;> first | (intro; rfl) | (intro h; exact absurd h (by decide)))
@[simp] theorem only_sol {m : Nat} {u s : State} {x : List Host.Cell} (h : 32 ||| m = m) : Only m u { s with sol := x } ↔ Only m u s :=
  Only.iff h (by intro p; cases p <;> first | (intro; rfl) | (intro h; exact absurd h (by decide)))
@[simp] theorem only_hub {m : Nat} {u s : State} {x : List Host.Cell} (h : 64 ||| m = m) : Only m u { s with hub := x } ↔ Only m u s :=
  Only.iff h (by intro p; cases p <;> first | (intro; rfl) | (intro h; exact absurd h (by decide)))
@[simp] theorem only_lpddr {m : Nat} {u s : State} {x : List Host.Cell} (h : 128 ||| m = m) : Only m u { s with lpddr := x } ↔ Only m u s :=
  Only.iff h (by intro p; cases p <;> first | (intro; rfl) | (intro h; exact absurd h (by decide)))
@[simp] theorem only_nor {m : Nat} {u s : State} {x : List Host.Cell} (h : 256 ||| m = m) : Only m u { s with nor := x } ↔ Only m u s :=
  Only.iff h (by intro p; cases p <;> first | (intro; rfl) | (intro h; exact absurd h (by decide)))
@[simp] theorem only_host {m : Nat} {u s : State} {x : List Host.Cell} (h : 512 ||| m = m) : Only m u { s with host := x } ↔ Only m u s :=
  Only.iff h (by intro p; cases p <;> first | (intro; rfl) | (intro h; exact absurd h (by decide)))
@[simp] theorem only_free {m : Nat} {u s : State} {x : Nat} (h : 1024 ||| m = m) : Only m u { s with free := x } ↔ Only m u s :=
  Only.iff h (by intro p; cases p <;> first | (intro; rfl) | (intro h; exact absurd h (by decide)))
@[simp] theorem only_rnd {m : Nat} {u s : State} {x : Rnd} (h : 2048 ||| m = m) : Only m u { s with rnd := x } ↔ Only m u s :=
  Only.iff h (by intro p; cases p <;> first | (intro; rfl) | (intro h; exact absurd h (by decide)))
@[simp] theorem only_hif {m : Nat} {u s : State} {x : Hif} (h : 4096 ||| m = m) : Only m u { s with hif := x } ↔ Only m u s :=
  Only.iff h (by intro p; cases p <;> first | (intro; rfl) | (intro h; exact absurd h (by decide)))
@[simp] theorem only_rings {m : Nat} {u s : State} {x : List Ring} (h : 8192 ||| m = m)
    (hx : x.length = s.rings.length) : Only m u { s with rings := x } ↔ Only m u s :=
  Only.iff h (by intro p; cases p <;> first | (intro; rfl) | (intro h; exact absurd h (by decide)) | (intro; simp [Piece.same, State.sizes, hx]))
@[simp] theorem only_sring {m : Nat} {u s : State} {x : Sring} (h : 16384 ||| m = m) : Only m u { s with sring := x } ↔ Only m u s :=
  Only.iff h (by intro p; cases p <;> first | (intro; rfl) | (intro h; exact absurd h (by decide)))
@[simp] theorem only_jrn {m : Nat} {u s : State} {x : Jrn} (h : 65536 ||| m = m) : Only m u { s with jrn := x } ↔ Only m u s :=
  Only.iff h (by intro p; cases p <;> first | (intro; rfl) | (intro h; exact absurd h (by decide)))
@[simp] theorem only_pat {m : Nat} {u s : State} {x : Pat} (h : 131072 ||| m = m) : Only m u { s with pat := x } ↔ Only m u s :=
  Only.iff h (by intro p; cases p <;> first | (intro; rfl) | (intro h; exact absurd h (by decide)))
@[simp] theorem only_mesh {m : Nat} {u s : State} {x : Mesh} (h : 262144 ||| m = m) : Only m u { s with mesh := x } ↔ Only m u s :=
  Only.iff h (by intro p; cases p <;> first | (intro; rfl) | (intro h; exact absurd h (by decide)))
@[simp] theorem only_cores {m : Nat} {u s : State} {x : List Core} (h : 524288 ||| m = m)
    (hx : x.length = s.cores.length) : Only m u { s with cores := x } ↔ Only m u s :=
  Only.iff h (by intro p; cases p <;> first | (intro; rfl) | (intro h; exact absurd h (by decide)) | (intro; simp [Piece.same, State.sizes, hx]))
@[simp] theorem only_acc {m : Nat} {u s : State} {x : List (Nat × Word)} (h : 1048576 ||| m = m) : Only m u { s with acc := x } ↔ Only m u s :=
  Only.iff h (by intro p; cases p <;> first | (intro; rfl) | (intro h; exact absurd h (by decide)))
@[simp] theorem only_engines {m : Nat} {u s : State} {x : List Engine} (h : 2097152 ||| m = m)
    (hx : x.length = s.engines.length) : Only m u { s with engines := x } ↔ Only m u s :=
  Only.iff h (by intro p; cases p <;> first | (intro; rfl) | (intro h; exact absurd h (by decide)) | (intro; simp [Piece.same, State.sizes, hx]))
@[simp] theorem only_hlth {m : Nat} {u s : State} {x : Hlth} (h : 4194304 ||| m = m) : Only m u { s with hlth := x } ↔ Only m u s :=
  Only.iff h (by intro p; cases p <;> first | (intro; rfl) | (intro h; exact absurd h (by decide)))
@[simp] theorem only_boot {m : Nat} {u s : State} {x : Boot} (h : 8388608 ||| m = m) : Only m u { s with boot := x } ↔ Only m u s :=
  Only.iff h (by intro p; cases p <;> first | (intro; rfl) | (intro h; exact absurd h (by decide)))
@[simp] theorem only_chk {m : Nat} {u s : State} {x : List Chk} (h : 16777216 ||| m = m)
    (hx : x.length = s.chk.length) : Only m u { s with chk := x } ↔ Only m u s :=
  Only.iff h (by intro p; cases p <;> first | (intro; rfl) | (intro h; exact absurd h (by decide)) | (intro; simp [Piece.same, State.sizes, hx]))
@[simp] theorem only_wfm {m : Nat} {u s : State} {x : Wfm} (h : 33554432 ||| m = m) : Only m u { s with wfm := x } ↔ Only m u s :=
  Only.iff h (by intro p; cases p <;> first | (intro; rfl) | (intro h; exact absurd h (by decide)))
@[simp] theorem only_fbr {m : Nat} {u s : State} {x : Fbr} (h : 67108864 ||| m = m) : Only m u { s with fbr := x } ↔ Only m u s :=
  Only.iff h (by intro p; cases p <;> first | (intro; rfl) | (intro h; exact absurd h (by decide)))
@[simp] theorem only_ports {m : Nat} {u s : State} {x : List Port} (h : 134217728 ||| m = m)
    (hx : x.length = s.ports.length) : Only m u { s with ports := x } ↔ Only m u s :=
  Only.iff h (by intro p; cases p <;> first | (intro; rfl) | (intro h; exact absurd h (by decide)) | (intro; simp [Piece.same, State.sizes, hx]))
@[simp] theorem only_resp {m : Nat} {u s : State} {x : Resp} (h : 268435456 ||| m = m) : Only m u { s with resp := x } ↔ Only m u s :=
  Only.iff h (by intro p; cases p <;> first | (intro; rfl) | (intro h; exact absurd h (by decide)))
@[simp] theorem only_cam {m : Nat} {u s : State} {x : Cam} (h : 536870912 ||| m = m) : Only m u { s with cam := x } ↔ Only m u s :=
  Only.iff h (by intro p; cases p <;> first | (intro; rfl) | (intro h; exact absurd h (by decide)))
@[simp] theorem only_tap {m : Nat} {u s : State} {x : Tap} (h : 1073741824 ||| m = m) : Only m u { s with tap := x } ↔ Only m u s :=
  Only.iff h (by intro p; cases p <;> first | (intro; rfl) | (intro h; exact absurd h (by decide)))
/-- An update of the security state that leaves the journal-clear key. -/
@[simp] theorem only_sec {m : Nat} {u s : State} {x : Sec} (h : 32768 ||| m = m) (hx : x.jck = s.sec.jck) : Only m u { s with sec := x } ↔ Only m u s :=
  Only.iff h (by intro p; cases p <;> first | (intro; first | rfl | exact hx) | (intro h; exact absurd h (by decide)))

/-- What a command answers satisfies `P`, where it answers a next state. -/
def Outs (P : State → Prop) (o : Out) : Prop := ∀ t, o = .next t → P t
@[simp] theorem outs_next (P : State → Prop) (t : State) : Outs P (.next t) ↔ P t := by simp [Outs]
@[simp] theorem outs_fault (P : State → Prop) (f : Fault) : Outs P (.fault f) := by simp [Outs]
@[simp] theorem outs_refused (P : State → Prop) (f : Refusal) : Outs P (.refused f) := by simp [Outs]
@[simp] theorem outs_ite (P : State → Prop) (c : Prop) [Decidable c] (a b : Out) :
    Outs P (if c then a else b) ↔ (if c then Outs P a else Outs P b) := by split <;> rfl
theorem outs_onUnit {P : State → Prop} {i n : Nat} {o : Out} (h : Outs P o) : Outs P (onUnit i n o) := by
  unfold onUnit; split
  · exact h
  · simp

end Sys2Proof.Machine
end

