-- ==== Sys2Proof/Laws/OnlyRegs.lean ====
section
/-! SUPPORT. Laws/OnlyRegs.lean: the pieces of the state that the operations and commands of Machine/Regs.lean may change. -/

namespace Sys2Proof.Machine
open Sys2Proof Sys2Proof.Machine.Reg

set_option linter.all false
set_option Elab.async false

@[simp] theorem State.setReg_only (s : State) (a : Nat) (v : Word) (u : State) {m' : Nat} (hm' : 1 ||| m' = m' := by decide) : Only m' u (State.setReg s a v) ↔ Only m' u s := by
  refine Only.lift hm' fun u => ?_
  clear hm'
  unfold State.setReg
  simp only [only_regs, Only.refl, Nat.reduceOr]

@[simp] theorem State.setFld_only (s : State) (f : Fld) (v : Nat) (i : Nat) (j : Nat) (u : State) {m' : Nat} (hm' : 1 ||| m' = m' := by decide) : Only m' u (State.setFld s f v i j) ↔ Only m' u s := by
  refine Only.lift hm' fun u => ?_
  clear hm'
  unfold State.setFld
  simp only [State.setReg_only, Only.refl, Nat.reduceOr]

@[simp] theorem State.setLive_only (s : State) (f : Fld) (v : Nat) (i : Nat) (j : Nat) (u : State) {m' : Nat} (hm' : 1 ||| m' = m' := by decide) : Only m' u (State.setLive s f v i j) ↔ Only m' u s := by
  refine Only.lift hm' fun u => ?_
  clear hm'
  unfold State.setLive
  simp only [State.setReg_only, Only.refl, Nat.reduceOr]

@[simp] theorem State.count_only (s : State) (f : Fld) (n : Nat) (i : Nat) (j : Nat) (u : State) {m' : Nat} (hm' : 1 ||| m' = m' := by decide) : Only m' u (State.count s f n i j) ↔ Only m' u s := by
  refine Only.lift hm' fun u => ?_
  clear hm'
  unfold State.count
  simp only [State.setFld_only, Only.refl, Nat.reduceOr]

@[simp] theorem State.countWrap_only (s : State) (f : Fld) (n : Nat) (i : Nat) (j : Nat) (u : State) {m' : Nat} (hm' : 1 ||| m' = m' := by decide) : Only m' u (State.countWrap s f n i j) ↔ Only m' u s := by
  refine Only.lift hm' fun u => ?_
  clear hm'
  unfold State.countWrap
  simp only [State.setFld_only, Only.refl, Nat.reduceOr]

@[simp] theorem State.setRegN_only (s : State) (r : Rg) (v : Nat) (i : Nat) (j : Nat) (u : State) {m' : Nat} (hm' : 1 ||| m' = m' := by decide) : Only m' u (State.setRegN s r v i j) ↔ Only m' u s := by
  refine Only.lift hm' fun u => ?_
  clear hm'
  unfold State.setRegN
  simp only [State.setReg_only, Only.refl, Nat.reduceOr]

@[simp] theorem State.modCore_only (s : State) (n : Nat) (f : Core → Core) (u : State) {m' : Nat} (hm' : 524288 ||| m' = m' := by decide) : Only m' u (State.modCore s n f) ↔ Only m' u s := by
  refine Only.lift hm' fun u => ?_
  clear hm'
  unfold State.modCore
  simp only [only_cores, List.length_modify, List.length_set, Only.refl, Nat.reduceOr]

@[simp] theorem State.putData_only (s : State) (n a : Nat) (bs : List Nat) (drain : Bool := false) (u : State) {m' : Nat} (hm' : 524296 ||| m' = m' := by decide) : Only m' u (State.putData s n a bs drain) ↔ Only m' u s := by
  refine Only.lift hm' fun u => ?_
  clear hm'
  unfold State.putData
  simp only [State.modCore_only, only_data, only_ite, only_ite_fst, ite_self, only_foldl, only_foldl_fst, implies_true, Only.refl, Nat.reduceOr]

@[simp] theorem State.accSet_only (s : State) (n i v : Nat) (u : State) {m' : Nat} (hm' : 1048576 ||| m' = m' := by decide) : Only m' u (State.accSet s n i v) ↔ Only m' u s := by
  refine Only.lift hm' fun u => ?_
  clear hm'
  unfold State.accSet
  simp only [only_acc, Only.refl, Nat.reduceOr]

@[simp] theorem State.accClear_only (s : State) (n : Nat) (u : State) {m' : Nat} (hm' : 1048576 ||| m' = m' := by decide) : Only m' u (State.accClear s n) ↔ Only m' u s := by
  refine Only.lift hm' fun u => ?_
  clear hm'
  unfold State.accClear
  simp only [only_acc, Only.refl, Nat.reduceOr]

@[simp] theorem State.putSol_only (s : State) (k a : Nat) (bs : List Nat) (u : State) {m' : Nat} (hm' : 32 ||| m' = m' := by decide) : Only m' u (State.putSol s k a bs) ↔ Only m' u s := by
  refine Only.lift hm' fun u => ?_
  clear hm'
  unfold State.putSol
  simp only [only_sol, Only.refl, Nat.reduceOr]

@[simp] theorem State.putHost_only (s : State) (a : Nat) (bs : List Nat) (u : State) {m' : Nat} (hm' : 512 ||| m' = m' := by decide) : Only m' u (State.putHost s a bs) ↔ Only m' u s := by
  refine Only.lift hm' fun u => ?_
  clear hm'
  unfold State.putHost
  simp only [only_host, Only.refl, Nat.reduceOr]

@[simp] theorem State.putLpddr_only (s : State) (a : Nat) (bs : List Nat) (u : State) {m' : Nat} (hm' : 128 ||| m' = m' := by decide) : Only m' u (State.putLpddr s a bs) ↔ Only m' u s := by
  refine Only.lift hm' fun u => ?_
  clear hm'
  unfold State.putLpddr
  simp only [only_lpddr, Only.refl, Nat.reduceOr]

@[simp] theorem State.draw_only (s : State) (u : State) {m' : Nat} (hm' : 1024 ||| m' = m' := by decide) : Only m' u (State.draw s) ↔ Only m' u s := by
  refine Only.lift hm' fun u => ?_
  clear hm'
  unfold State.draw
  simp only [only_free, Only.refl, Nat.reduceOr]

end Sys2Proof.Machine
end

