-- ==== Sys2Proof/Laws/OnlyOps.lean ====
section
/-! SUPPORT. Laws/OnlyOps.lean: the pieces of the state that the operations and commands of Machine/Ops.lean may change. -/

namespace Sys2Proof.Machine
open Sys2Proof Sys2Proof.Machine.Reg

set_option linter.all false
set_option Elab.async false

@[simp] theorem State.setCount48_only (s : State) (v : Nat) (u : State) {m' : Nat} (hm' : 1 ||| m' = m' := by decide) : Only m' u (State.setCount48 s v) ↔ Only m' u s := by
  refine Only.lift hm' fun u => ?_
  clear hm'
  unfold State.setCount48
  simp only [State.setFld_only, State.setRegN_only, only_ite, only_ite_fst, ite_self, only_foldl, only_foldl_fst, implies_true, Only.refl, Nat.reduceOr]

@[simp] theorem State.setRoundNo_only (s : State) (v : Nat) (u : State) {m' : Nat} (hm' : 2049 ||| m' = m' := by decide) : Only m' u (State.setRoundNo s v) ↔ Only m' u s := by
  refine Only.lift hm' fun u => ?_
  clear hm'
  unfold State.setRoundNo
  simp only [State.setCount48_only, only_rnd, only_ite, only_ite_fst, ite_self, only_foldl, only_foldl_fst, implies_true, Only.refl, Nat.reduceOr]

@[simp] theorem State.setPhase_only (s : State) (v : Nat) (u : State) {m' : Nat} (hm' : 1 ||| m' = m' := by decide) : Only m' u (State.setPhase s v) ↔ Only m' u s := by
  refine Only.lift hm' fun u => ?_
  clear hm'
  unfold State.setPhase
  simp only [State.setRegN_only, Only.refl, Nat.reduceOr]

@[simp] theorem State.setNstime_only (s : State) (v : Nat) (u : State) {m' : Nat} (hm' : 1 ||| m' = m' := by decide) : Only m' u (State.setNstime s v) ↔ Only m' u s := by
  refine Only.lift hm' fun u => ?_
  clear hm'
  unfold State.setNstime
  simp only [State.setRegN_only, Only.refl, Nat.reduceOr]

@[simp] theorem State.sendMsix_only (s : State) (v : Nat) (u : State) {m' : Nat} (hm' : 4608 ||| m' = m' := by decide) : Only m' u (State.sendMsix s v) ↔ Only m' u s := by
  refine Only.lift hm' fun u => ?_
  clear hm'
  unfold State.sendMsix
  simp only [State.putHost_only, only_hif, only_ite, only_ite_fst, ite_self, Only.refl, Nat.reduceOr]

@[simp] theorem State.setMsixPending_only (s : State) (v : Nat) (b : Bool) (u : State) {m' : Nat} (hm' : 1 ||| m' = m' := by decide) : Only m' u (State.setMsixPending s v b) ↔ Only m' u s := by
  refine Only.lift hm' fun u => ?_
  clear hm'
  unfold State.setMsixPending
  simp only [State.setReg_only, only_ite, only_ite_fst, ite_self, Only.refl, Nat.reduceOr]

@[simp] theorem State.msix_only (s : State) (v : Nat) (u : State) {m' : Nat} (hm' : 4609 ||| m' = m' := by decide) : Only m' u (State.msix s v) ↔ Only m' u s := by
  refine Only.lift hm' fun u => ?_
  clear hm'
  unfold State.msix
  simp only [State.sendMsix_only, State.setMsixPending_only, only_ite, only_ite_fst, ite_self, Only.refl, Nat.reduceOr]

@[simp] theorem State.event_only (s : State) (ev en : Nat) (b v : Nat) (u : State) {m' : Nat} (hm' : 4609 ||| m' = m' := by decide) : Only m' u (State.event s ev en b v) ↔ Only m' u s := by
  refine Only.lift hm' fun u => ?_
  clear hm'
  unfold State.event
  simp only [State.msix_only, State.setReg_only, only_ite, only_ite_fst, ite_self, Only.refl, Nat.reduceOr]

@[simp] theorem State.jrnEvent_only (s : State) (b : Nat) (u : State) {m' : Nat} (hm' : 4609 ||| m' = m' := by decide) : Only m' u (State.jrnEvent s b) ↔ Only m' u s := by
  refine Only.lift hm' fun u => ?_
  clear hm'
  unfold State.jrnEvent
  simp only [State.event_only, Only.refl, Nat.reduceOr]

@[simp] theorem State.jrnLost_only (s : State) (sev : Nat) (u : State) {m' : Nat} (hm' : 4609 ||| m' = m' := by decide) : Only m' u (State.jrnLost s sev) ↔ Only m' u s := by
  refine Only.lift hm' fun u => ?_
  clear hm'
  unfold State.jrnLost
  simp only [State.jrnEvent_only, State.setReg_only, only_ite, only_ite_fst, ite_self, Only.refl, Nat.reduceOr]

@[simp] theorem State.intake_only (s : State) (r : JRec) (u : State) {m' : Nat} (hm' : 8458753 ||| m' = m' := by decide) : Only m' u (State.intake s r) ↔ Only m' u s := by
  refine Only.lift hm' fun u => ?_
  clear hm'
  unfold State.intake
  (try dsimp only); (repeat' split) <;> (first | (simp only [State.jrnLost_only, only_jrn, only_boot, only_ite, only_ite_fst, ite_self, Only.refl, Nat.reduceOr]; done) | (refine Only.iff' ?_; intro p hp; cases p <;> first | exact rfl | exact absurd hp (by decide)))

@[simp] theorem State.journal_only (s : State) (code src sev : Nat) (data : Nat) (u : State) {m' : Nat} (hm' : 8458753 ||| m' = m' := by decide) : Only m' u (State.journal s code src sev data) ↔ Only m' u s := by
  refine Only.lift hm' fun u => ?_
  clear hm'
  unfold State.journal
  simp only [State.intake_only, Only.refl, Nat.reduceOr]

@[simp] theorem State.journalParts_only (s : State) (code src sev : Nat) (x : List Nat) (u : State) {m' : Nat} (hm' : 8458753 ||| m' = m' := by decide) : Only m' u (State.journalParts s code src sev x) ↔ Only m' u s := by
  refine Only.lift hm' fun u => ?_
  clear hm'
  fun_induction State.journalParts s code src sev x <;> simp_all only [State.intake_only, State.journal_only, Only.refl, Nat.reduceOr]

@[simp] theorem State.report_only (s : State) (ev en b v code src sev : Nat) (data : Nat) (u : State) {m' : Nat} (hm' : 8458753 ||| m' = m' := by decide) : Only m' u (State.report s ev en b v code src sev data) ↔ Only m' u s := by
  refine Only.lift hm' fun u => ?_
  clear hm'
  unfold State.report
  simp only [State.event_only, State.journal_only, Only.refl, Nat.reduceOr]

@[simp] theorem State.putEntries_only (s : State) (base w n idx : Nat) (x : List (List Nat)) (u : State) {m' : Nat} (hm' : 512 ||| m' = m' := by decide) : Only m' u (State.putEntries s base w n idx x) ↔ Only m' u s := by
  refine Only.lift hm' fun u => ?_
  clear hm'
  fun_induction State.putEntries s base w n idx x <;> simp_all only [State.putHost_only, Only.refl, Nat.reduceOr]

@[simp] theorem State.writePost_only (s : State) (p : Post) (u : State) {m' : Nat} (hm' : 20993 ||| m' = m' := by decide) : Only m' u (State.writePost s p) ↔ Only m' u s := by
  refine Only.lift hm' fun u => ?_
  clear hm'
  unfold State.writePost
  simp only [State.msix_only, State.putEntries_only, State.setFld_only, only_sring, only_ite, only_ite_fst, ite_self, Only.refl, Nat.reduceOr]

@[simp] theorem State.cmdEvent_only (s : State) (b : Nat) (u : State) {m' : Nat} (hm' : 4609 ||| m' = m' := by decide) : Only m' u (State.cmdEvent s b) ↔ Only m' u s := by
  refine Only.lift hm' fun u => ?_
  clear hm'
  unfold State.cmdEvent
  simp only [State.event_only, Only.refl, Nat.reduceOr]

@[simp] theorem State.dropPost_only (s : State) (health : Bool) (u : State) {m' : Nat} (hm' : 8475137 ||| m' = m' := by decide) : Only m' u (State.dropPost s health) ↔ Only m' u s := by
  refine Only.lift hm' fun u => ?_
  clear hm'
  unfold State.dropPost
  simp (disch := (intros; (repeat' split) <;> (try simp_all only [State.cmdEvent_only, State.count_only, State.health_only, State.journal_only, only_sring, only_ite, only_ite_fst, ite_self, Only.refl, Nat.reduceOr]) <;> (try simp_all)))

@[simp] theorem State.putPost_only (s : State) (p : Post) (u : State) {m' : Nat} (hm' : 20993 ||| m' = m' := by decide) : Only m' u (State.putPost s p) ↔ Only m' u s := by
  refine Only.lift hm' fun u => ?_
  clear hm'
  unfold State.putPost
  simp only [State.writePost_only, only_sring, only_ite, only_ite_fst, ite_self, Only.refl, Nat.reduceOr]

@[simp] theorem State.post_only (s : State) (p : Post) (u : State) {m' : Nat} (hm' : 8475137 ||| m' = m' := by decide) : Only m' u (State.post s p) ↔ Only m' u s := by
  refine Only.lift hm' fun u => ?_
  clear hm'
  unfold State.post
  simp only [State.dropPost_only, State.putPost_only, only_sring, only_ite, only_ite_fst, ite_self, Only.refl, Nat.reduceOr]

@[simp] theorem State.drainHeld_only  (x : Nat) (s : State) (u : State) {m' : Nat} (hm' : 20993 ||| m' = m' := by decide) : Only m' u (State.drainHeld x s) ↔ Only m' u s := by
  refine Only.lift hm' fun u => ?_
  clear hm'
  fun_induction State.drainHeld x s <;> simp_all only [State.putPost_only, only_sring, only_ite, only_ite_fst, ite_self, Only.refl, Nat.reduceOr]

@[simp] theorem State.health_only (s : State) (code src : Nat) (job : Nat) (grp : Nat) (shed1 : Nat) (shedN : Nat) (cause : Nat) (u : State) {m' : Nat} (hm' : 8475137 ||| m' = m' := by decide) : Only m' u (State.health s code src job grp shed1 shedN cause) ↔ Only m' u s := by
  refine Only.lift hm' fun u => ?_
  clear hm'
  unfold State.health
  simp only [State.msix_only, State.post_only, only_rnd, Only.refl, Nat.reduceOr]

@[simp] theorem State.setRing_only (s : State) (k : Nat) (r : Ring) (u : State) {m' : Nat} (hm' : 8192 ||| m' = m' := by decide) : Only m' u (State.setRing s k r) ↔ Only m' u s := by
  refine Only.lift hm' fun u => ?_
  clear hm'
  unfold State.setRing
  simp only [only_rings, List.length_modify, List.length_set, Only.refl, Nat.reduceOr]

@[simp] theorem State.writeCpl_only (s : State) (k tag seq st opc : Nat) (r : List Nat) (u : State) {m' : Nat} (hm' : 4609 ||| m' = m' := by decide) : Only m' u (State.writeCpl s k tag seq st opc r) ↔ Only m' u s := by
  refine Only.lift hm' fun u => ?_
  clear hm'
  unfold State.writeCpl
  simp only [State.msix_only, State.putHost_only, State.setFld_only, only_ite, only_ite_fst, ite_self, Only.refl, Nat.reduceOr]

@[simp] theorem State.complete_only (s : State) (k tag seq st opc : Nat) (r : List Nat) (u : State) {m' : Nat} (hm' : 12801 ||| m' = m' := by decide) : Only m' u (State.complete s k tag seq st opc r) ↔ Only m' u s := by
  refine Only.lift hm' fun u => ?_
  clear hm'
  unfold State.complete
  simp only [State.setRing_only, State.writeCpl_only, only_ite, only_ite_fst, ite_self, Only.refl, Nat.reduceOr]

@[simp] theorem State.drainTake_only (s : State) (k : Nat) (u : State) {m' : Nat} (hm' : 8193 ||| m' = m' := by decide) : Only m' u (State.drainTake s k) ↔ Only m' u s := by
  refine Only.lift hm' fun u => ?_
  clear hm'
  unfold State.drainTake
  first
  | (simp only [State.count_only, State.setFld_only, State.setRing_only, only_ite, only_ite_fst, ite_self, only_foldl, only_foldl_fst, implies_true, Only.refl, Nat.reduceOr]; done)
  | ((try dsimp only); (repeat' split) <;> simp only [State.count_only, State.setFld_only, State.setRing_only, only_ite, only_ite_fst, ite_self, only_foldl, only_foldl_fst, implies_true, Only.refl, Nat.reduceOr]; done)
  | ((try dsimp only); (repeat' split) <;> simp; done)
  | (simp (disch := (intros; (repeat' split) <;> (try simp_all only [State.count_only, State.setFld_only, State.setRing_only, only_ite, only_ite_fst, ite_self, only_foldl, only_foldl_fst, implies_true, Only.refl, Nat.reduceOr]) <;> (try simp_all))); done)
  | ((try dsimp only); (repeat' split) <;> simp (disch := (intros; (repeat' split) <;> (try simp_all only [State.count_only, State.setFld_only, State.setRing_only, only_ite, only_ite_fst, ite_self, only_foldl, only_foldl_fst, implies_true, Only.refl, Nat.reduceOr]) <;> (try simp_all))); done)

@[simp] theorem State.cmdReport_only (s : State) (b k : Nat) (u : State) {m' : Nat} (hm' : 8458753 ||| m' = m' := by decide) : Only m' u (State.cmdReport s b k) ↔ Only m' u s := by
  refine Only.lift hm' fun u => ?_
  clear hm'
  unfold State.cmdReport
  first
  | (simp only [State.cmdEvent_only, State.journal_only, only_ite, only_ite_fst, ite_self, only_foldl, only_foldl_fst, implies_true, Only.refl, Nat.reduceOr]; done)
  | ((try dsimp only); (repeat' split) <;> simp only [State.cmdEvent_only, State.journal_only, only_ite, only_ite_fst, ite_self, only_foldl, only_foldl_fst, implies_true, Only.refl, Nat.reduceOr]; done)
  | ((try dsimp only); (repeat' split) <;> simp; done)
  | (simp (disch := (intros; (repeat' split) <;> (try simp_all only [State.cmdEvent_only, State.journal_only, only_ite, only_ite_fst, ite_self, only_foldl, only_foldl_fst, implies_true, Only.refl, Nat.reduceOr]) <;> (try simp_all))); done)
  | ((try dsimp only); (repeat' split) <;> simp (disch := (intros; (repeat' split) <;> (try simp_all only [State.cmdEvent_only, State.journal_only, only_ite, only_ite_fst, ite_self, only_foldl, only_foldl_fst, implies_true, Only.refl, Nat.reduceOr]) <;> (try simp_all))); done)

@[simp] theorem State.ringError_only (s : State) (k cause : Nat) (u : State) {m' : Nat} (hm' : 8459777 ||| m' = m' := by decide) : Only m' u (State.ringError s k cause) ↔ Only m' u s := by
  refine Only.lift hm' fun u => ?_
  clear hm'
  unfold State.ringError
  first
  | (simp only [State.cmdReport_only, State.draw_only, State.setFld_only, only_hif, only_ite, only_ite_fst, ite_self, only_foldl, only_foldl_fst, implies_true, Only.refl, Nat.reduceOr]; done)
  | ((try dsimp only); (repeat' split) <;> simp only [State.cmdReport_only, State.draw_only, State.setFld_only, only_hif, only_ite, only_ite_fst, ite_self, only_foldl, only_foldl_fst, implies_true, Only.refl, Nat.reduceOr]; done)
  | ((try dsimp only); (repeat' split) <;> simp; done)
  | (simp (disch := (intros; (repeat' split) <;> (try simp_all only [State.cmdReport_only, State.draw_only, State.setFld_only, only_hif, only_ite, only_ite_fst, ite_self, only_foldl, only_foldl_fst, implies_true, Only.refl, Nat.reduceOr]) <;> (try simp_all))); done)
  | ((try dsimp only); (repeat' split) <;> simp (disch := (intros; (repeat' split) <;> (try simp_all only [State.cmdReport_only, State.draw_only, State.setFld_only, only_hif, only_ite, only_ite_fst, ite_self, only_foldl, only_foldl_fst, implies_true, Only.refl, Nat.reduceOr]) <;> (try simp_all))); done)

@[simp] theorem State.flushRing_only (s : State) (k : Nat) (u : State) {m' : Nat} (hm' : 8467969 ||| m' = m' := by decide) : Only m' u (State.flushRing s k) ↔ Only m' u s := by
  refine Only.lift hm' fun u => ?_
  clear hm'
  unfold State.flushRing
  first
  | (simp only [State.draw_only, State.ringError_only, State.setFld_only, State.setRing_only, only_ite, only_ite_fst, ite_self, only_foldl, only_foldl_fst, implies_true, Only.refl, Nat.reduceOr]; done)
  | ((try dsimp only); (repeat' split) <;> simp only [State.draw_only, State.ringError_only, State.setFld_only, State.setRing_only, only_ite, only_ite_fst, ite_self, only_foldl, only_foldl_fst, implies_true, Only.refl, Nat.reduceOr]; done)
  | ((try dsimp only); (repeat' split) <;> simp; done)
  | (simp (disch := (intros; (repeat' split) <;> (try simp_all only [State.draw_only, State.ringError_only, State.setFld_only, State.setRing_only, only_ite, only_ite_fst, ite_self, only_foldl, only_foldl_fst, implies_true, Only.refl, Nat.reduceOr]) <;> (try simp_all))); done)
  | ((try dsimp only); (repeat' split) <;> simp (disch := (intros; (repeat' split) <;> (try simp_all only [State.draw_only, State.ringError_only, State.setFld_only, State.setRing_only, only_ite, only_ite_fst, ite_self, only_foldl, only_foldl_fst, implies_true, Only.refl, Nat.reduceOr]) <;> (try simp_all))); done)

@[simp] theorem State.doFlush_only (s : State) (k : Nat) (u : State) {m' : Nat} (hm' : 8467969 ||| m' = m' := by decide) : Only m' u (State.doFlush s k) ↔ Only m' u s := by
  refine Only.lift hm' fun u => ?_
  clear hm'
  unfold State.doFlush
  first
  | ((try dsimp only); (repeat' split) <;> simp only [State.drainTake_only, State.flushRing_only, State.setRing_only, only_ite, only_ite_fst, ite_self, only_foldl, only_foldl_fst, implies_true, Only.refl, Nat.reduceOr]; done)
  | (simp only [State.drainTake_only, State.flushRing_only, State.setRing_only, only_ite, only_ite_fst, ite_self, only_foldl, only_foldl_fst, implies_true, Only.refl, Nat.reduceOr]; done)
  | ((try dsimp only); (repeat' split) <;> simp; done)
  | (simp (disch := (intros; (repeat' split) <;> (try simp_all only [State.drainTake_only, State.flushRing_only, State.setRing_only, only_ite, only_ite_fst, ite_self, only_foldl, only_foldl_fst, implies_true, Only.refl, Nat.reduceOr]) <;> (try simp_all))); done)
  | ((try dsimp only); (repeat' split) <;> simp (disch := (intros; (repeat' split) <;> (try simp_all only [State.drainTake_only, State.flushRing_only, State.setRing_only, only_ite, only_ite_fst, ite_self, only_foldl, only_foldl_fst, implies_true, Only.refl, Nat.reduceOr]) <;> (try simp_all))); done)

@[simp] theorem State.endRun_only (s : State) (k st : Nat) (r : List Nat := []) (u : State) {m' : Nat} (hm' : 8467969 ||| m' = m' := by decide) : Only m' u (State.endRun s k st r) ↔ Only m' u s := by
  refine Only.lift hm' fun u => ?_
  clear hm'
  unfold State.endRun
  split
  · exact Iff.rfl
  extract_lets on mute q s1 s2 s3 s4
  have h2 : Only 8467969 u s2 ↔ Only 8467969 u s := by simp only [s2, s1, State.setFld_only, State.setRing_only, Nat.reduceOr]
  have h3 : Only 8467969 u s3 ↔ Only 8467969 u s := by simp only [s3, State.complete_only, only_ite, ite_self, h2, Nat.reduceOr]
  have h4 : Only 8467969 u s4 ↔ Only 8467969 u s := by simp only [s4, State.setFld_only, only_ite, ite_self, h3, Nat.reduceOr]
  simp only [State.doFlush_only, only_ite, ite_self, h4, Nat.reduceOr]

@[simp] theorem State.endRingFlush_only (s : State) (u : State) {m' : Nat} (hm' : 8467969 ||| m' = m' := by decide) : Only m' u (State.endRingFlush s) ↔ Only m' u s := by
  refine Only.lift hm' fun u => ?_
  clear hm'
  unfold State.endRingFlush
  refine only_foldl ?_
  intro v a
  cases h : (v.ring a).run with
  | none => exact Only.refl _ _
  | some c =>
    obtain ⟨i, w⟩ := c
    cases w <;> first | exact Only.refl _ _ | skip
    dsimp only
    simp only [State.endRun_only, only_ite, ite_self, Only.refl, Nat.reduceOr]

@[simp] theorem State.endCmd_only (s : State) (k st : Nat) (r : List Nat := []) (u : State) {m' : Nat} (hm' : 8467969 ||| m' = m' := by decide) : Only m' u (State.endCmd s k st r) ↔ Only m' u s := by
  refine Only.lift hm' fun u => ?_
  clear hm'
  unfold State.endCmd
  first
  | ((try dsimp only); (repeat' split) <;> simp only [State.endRingFlush_only, State.endRun_only, only_ite, only_ite_fst, ite_self, only_foldl, only_foldl_fst, implies_true, Only.refl, Nat.reduceOr]; done)
  | (simp only [State.endRingFlush_only, State.endRun_only, only_ite, only_ite_fst, ite_self, only_foldl, only_foldl_fst, implies_true, Only.refl, Nat.reduceOr]; done)
  | ((try dsimp only); (repeat' split) <;> simp; done)
  | (simp (disch := (intros; (repeat' split) <;> (try simp_all only [State.endRingFlush_only, State.endRun_only, only_ite, only_ite_fst, ite_self, only_foldl, only_foldl_fst, implies_true, Only.refl, Nat.reduceOr]) <;> (try simp_all))); done)
  | ((try dsimp only); (repeat' split) <;> simp (disch := (intros; (repeat' split) <;> (try simp_all only [State.endRingFlush_only, State.endRun_only, only_ite, only_ite_fst, ite_self, only_foldl, only_foldl_fst, implies_true, Only.refl, Nat.reduceOr]) <;> (try simp_all))); done)

@[simp] theorem State.settle_only (s : State) (f : State → Wait → Option (Nat × List Nat)) (u : State) {m' : Nat} (hm' : 8467969 ||| m' = m' := by decide) : Only m' u (State.settle s f) ↔ Only m' u s := by
  refine Only.lift hm' fun u => ?_
  clear hm'
  unfold State.settle
  simp only [State.endRingFlush_only, Nat.reduceOr]
  refine only_foldl ?_
  intro v a
  split
  · split
    · simp only [State.endCmd_only, Only.refl, Nat.reduceOr]
    · exact Only.refl _ _
  · exact Only.refl _ _

@[simp] theorem State.respond_only (s : State) (rq : Requester) (st : Nat) (data : List Nat) (u : State) {m' : Nat} (hm' : 268435456 ||| m' = m' := by decide) : Only m' u (State.respond s rq st data) ↔ Only m' u s := by
  refine Only.lift hm' fun u => ?_
  clear hm'
  unfold State.respond
  simp only [only_data, only_resp, Only.refl, Nat.reduceOr]

@[simp] theorem State.recordErr_only (s : State) (r0 rAddr : Rg) (rData : Option Rg) (src : Nat) (c : AccCause) (write : Bool) (be addr data ap : Nat) (u : State) {m' : Nat} (hm' : 1 ||| m' = m' := by decide) : Only m' u (State.recordErr s r0 rAddr rData src c write be addr data ap) ↔ Only m' u s := by
  refine Only.lift hm' fun u => ?_
  clear hm'
  unfold State.recordErr
  (try dsimp only); (repeat' split) <;> simp only [State.setReg_only, only_ite, only_ite_fst, ite_self, Only.refl, Nat.reduceOr]

@[simp] theorem State.accErr_only (s : State) (rq : Requester) (src : Nat) (c : AccCause) (write : Bool) (be addr data : Nat) (ap : Nat) (u : State) {m' : Nat} (hm' : 8458753 ||| m' = m' := by decide) : Only m' u (State.accErr s rq src c write be addr data ap) ↔ Only m' u s := by
  refine Only.lift hm' fun u => ?_
  clear hm'
  unfold State.accErr
  (try dsimp only); (repeat' split) <;> simp only [State.recordErr_only, State.report_only, Only.refl, Nat.reduceOr]

end Sys2Proof.Machine
end

