-- ==== Sys2Proof/Laws/OnlyRound.lean ====
section
/-! SUPPORT. Laws/OnlyRound.lean: the pieces of the state that the operations and commands of Machine/Round.lean may change. -/

namespace Sys2Proof.Machine
open Sys2Proof Sys2Proof.Machine.Reg

set_option linter.all false
set_option Elab.async false

@[simp] theorem State.modRnd_only (s : State) (f : Rnd → Rnd) (u : State) {m' : Nat} (hm' : 2048 ||| m' = m' := by decide) : Only m' u (State.modRnd s f) ↔ Only m' u s := by
  refine Only.lift hm' fun u => ?_
  clear hm'
  unfold State.modRnd
  simp only [only_rnd, Only.refl, Nat.reduceOr]

@[simp] theorem State.rndEvent_only (s : State) (b sev before : Nat) (u : State) {m' : Nat} (hm' : 8458753 ||| m' = m' := by decide) : Only m' u (State.rndEvent s b sev before) ↔ Only m' u s := by
  refine Only.lift hm' fun u => ?_
  clear hm'
  unfold State.rndEvent
  simp only [State.report_only, Only.refl, Nat.reduceOr]

@[simp] theorem State.setCand_only (s : State) (v : Bool) (c : Cand) (u : State) {m' : Nat} (hm' : 2048 ||| m' = m' := by decide) : Only m' u (State.setCand s v c) ↔ Only m' u s := by
  refine Only.lift hm' fun u => ?_
  clear hm'
  unfold State.setCand
  simp only [State.modRnd_only, only_ite, only_ite_fst, ite_self, Only.refl, Nat.reduceOr]

@[simp] theorem State.setQualified_only (s : State) (v b : Bool) (u : State) {m' : Nat} (hm' : 1 ||| m' = m' := by decide) : Only m' u (State.setQualified s v b) ↔ Only m' u s := by
  refine Only.lift hm' fun u => ?_
  clear hm'
  unfold State.setQualified
  simp only [State.setFld_only, only_ite, only_ite_fst, ite_self, Only.refl, Nat.reduceOr]

@[simp] theorem State.setPhErr_only (s : State) (e : Int) (u : State) {m' : Nat} (hm' : 1 ||| m' = m' := by decide) : Only m' u (State.setPhErr s e) ↔ Only m' u s := by
  refine Only.lift hm' fun u => ?_
  clear hm'
  unfold State.setPhErr
  simp only [State.setRegN_only, Only.refl, Nat.reduceOr]

@[simp] theorem State.setOutput_only (s : State) (u : State) {m' : Nat} (hm' : 1 ||| m' = m' := by decide) : Only m' u (State.setOutput s) ↔ Only m' u s := by
  refine Only.lift hm' fun u => ?_
  clear hm'
  unfold State.setOutput
  simp only [State.setFld_only, State.setRegN_only, only_ite, only_ite_fst, ite_self, only_foldl, only_foldl_fst, implies_true, Only.refl, Nat.reduceOr]

@[simp] theorem State.goRnd_only (s : State) (st : Nat) (u : State) {m' : Nat} (hm' : 1 ||| m' = m' := by decide) : Only m' u (State.goRnd s st) ↔ Only m' u s := by
  refine Only.lift hm' fun u => ?_
  clear hm'
  unfold State.goRnd
  simp only [State.setFld_only, State.setOutput_only, Only.refl, Nat.reduceOr]

@[simp] theorem State.setBase_only (s : State) (f : Nat) (u : State) {m' : Nat} (hm' : 2049 ||| m' = m' := by decide) : Only m' u (State.setBase s f) ↔ Only m' u s := by
  refine Only.lift hm' fun u => ?_
  clear hm'
  unfold State.setBase
  simp only [State.modRnd_only, State.setOutput_only, Only.refl, Nat.reduceOr]

@[simp] theorem State.noteHist_only (s : State) (u : State) {m' : Nat} (hm' : 2048 ||| m' = m' := by decide) : Only m' u (State.noteHist s) ↔ Only m' u s := by
  refine Only.lift hm' fun u => ?_
  clear hm'
  unfold State.noteHist
  (try dsimp only); (repeat' split) <;> simp (disch := (intros; (repeat' split) <;> (try simp_all only [State.modRnd_only, State.tick_only, only_ite, only_ite_fst, ite_self, Only.refl, Nat.reduceOr]) <;> (try simp_all)))

@[simp] theorem State.runTicks_only (s : State) (n : Nat) (u : State) {m' : Nat} (hm' : 2049 ||| m' = m' := by decide) : Only m' u (State.runTicks s n) ↔ Only m' u s := by
  refine Only.lift hm' fun u => ?_
  clear hm'
  unfold State.runTicks
  simp only [State.modRnd_only, State.noteHist_only, State.setNstime_only, State.setPhErr_only, State.setPhase_only, State.setRoundNo_only, only_ite, only_ite_fst, ite_self, only_foldl, only_foldl_fst, implies_true, Only.refl, Nat.reduceOr]

@[simp] theorem State.noteRound_only (s : State) (u : State) {m' : Nat} (hm' : 2048 ||| m' = m' := by decide) : Only m' u (State.noteRound s) ↔ Only m' u s := by
  refine Only.lift hm' fun u => ?_
  clear hm'
  unfold State.noteRound
  first
  | (simp only [State.modRnd_only, only_ite, only_ite_fst, ite_self, only_foldl, only_foldl_fst, implies_true, Only.refl, Nat.reduceOr]; done)
  | ((try dsimp only); (repeat' split) <;> simp only [State.modRnd_only, only_ite, only_ite_fst, ite_self, only_foldl, only_foldl_fst, implies_true, Only.refl, Nat.reduceOr]; done)
  | ((try dsimp only); (repeat' split) <;> simp; done)
  | (simp (disch := (intros; (repeat' split) <;> (try simp_all only [State.modRnd_only, only_ite, only_ite_fst, ite_self, only_foldl, only_foldl_fst, implies_true, Only.refl, Nat.reduceOr]) <;> (try simp_all))); done)
  | ((try dsimp only); (repeat' split) <;> simp (disch := (intros; (repeat' split) <;> (try simp_all only [State.modRnd_only, only_ite, only_ite_fst, ite_self, only_foldl, only_foldl_fst, implies_true, Only.refl, Nat.reduceOr]) <;> (try simp_all))); done)

@[simp] theorem State.toHold_only (s : State) (u : State) {m' : Nat} (hm' : 8460801 ||| m' = m' := by decide) : Only m' u (State.toHold s) ↔ Only m' u s := by
  refine Only.lift hm' fun u => ?_
  clear hm'
  unfold State.toHold
  simp only [State.goRnd_only, State.rndEvent_only, State.setBase_only, State.setFld_only, only_ite, only_ite_fst, ite_self, Only.refl, Nat.reduceOr]

@[simp] theorem State.checkBand_only (s : State) (u : State) {m' : Nat} (hm' : 8458753 ||| m' = m' := by decide) : Only m' u (State.checkBand s) ↔ Only m' u s := by
  refine Only.lift hm' fun u => ?_
  clear hm'
  unfold State.checkBand
  (try dsimp only); (repeat' split) <;> simp only [State.rndEvent_only, State.setFld_only, only_ite, only_ite_fst, ite_self, only_foldl, only_foldl_fst, implies_true, Only.refl, Nat.reduceOr]

@[simp] theorem State.startSlew_only (s : State) (e : Int) (u : State) {m' : Nat} (hm' : 2049 ||| m' = m' := by decide) : Only m' u (State.startSlew s e) ↔ Only m' u s := by
  refine Only.lift hm' fun u => ?_
  clear hm'
  unfold State.startSlew
  first
  | (simp only [State.goRnd_only, State.modRnd_only, State.setPhErr_only, only_ite, only_ite_fst, ite_self, only_foldl, only_foldl_fst, implies_true, Only.refl, Nat.reduceOr]; done)
  | ((try dsimp only); (repeat' split) <;> simp only [State.goRnd_only, State.modRnd_only, State.setPhErr_only, only_ite, only_ite_fst, ite_self, only_foldl, only_foldl_fst, implies_true, Only.refl, Nat.reduceOr]; done)
  | ((try dsimp only); (repeat' split) <;> simp; done)
  | (simp (disch := (intros; (repeat' split) <;> (try simp_all only [State.goRnd_only, State.modRnd_only, State.setPhErr_only, only_ite, only_ite_fst, ite_self, only_foldl, only_foldl_fst, implies_true, Only.refl, Nat.reduceOr]) <;> (try simp_all))); done)
  | ((try dsimp only); (repeat' split) <;> simp (disch := (intros; (repeat' split) <;> (try simp_all only [State.goRnd_only, State.modRnd_only, State.setPhErr_only, only_ite, only_ite_fst, ite_self, only_foldl, only_foldl_fst, implies_true, Only.refl, Nat.reduceOr]) <;> (try simp_all))); done)

@[simp] theorem State.switchRef_only (s : State) (v : Bool) (u : State) {m' : Nat} (hm' : 8460801 ||| m' = m' := by decide) : Only m' u (State.switchRef s v) ↔ Only m' u s := by
  refine Only.lift hm' fun u => ?_
  clear hm'
  unfold State.switchRef
  first
  | (simp only [State.checkBand_only, State.count_only, State.modRnd_only, State.rndEvent_only, State.setFld_only, State.setOutput_only, State.startSlew_only, only_ite, only_ite_fst, ite_self, only_foldl, only_foldl_fst, implies_true, Only.refl, Nat.reduceOr]; done)
  | ((try dsimp only); (repeat' split) <;> simp only [State.checkBand_only, State.count_only, State.modRnd_only, State.rndEvent_only, State.setFld_only, State.setOutput_only, State.startSlew_only, only_ite, only_ite_fst, ite_self, only_foldl, only_foldl_fst, implies_true, Only.refl, Nat.reduceOr]; done)
  | ((try dsimp only); (repeat' split) <;> simp; done)
  | (simp (disch := (intros; (repeat' split) <;> (try simp_all only [State.checkBand_only, State.count_only, State.modRnd_only, State.rndEvent_only, State.setFld_only, State.setOutput_only, State.startSlew_only, only_ite, only_ite_fst, ite_self, only_foldl, only_foldl_fst, implies_true, Only.refl, Nat.reduceOr]) <;> (try simp_all))); done)
  | ((try dsimp only); (repeat' split) <;> simp (disch := (intros; (repeat' split) <;> (try simp_all only [State.checkBand_only, State.count_only, State.modRnd_only, State.rndEvent_only, State.setFld_only, State.setOutput_only, State.startSlew_only, only_ite, only_ite_fst, ite_self, only_foldl, only_foldl_fst, implies_true, Only.refl, Nat.reduceOr]) <;> (try simp_all))); done)

@[simp] theorem State.disqualify_only (s : State) (v : Bool) (u : State) {m' : Nat} (hm' : 8460801 ||| m' = m' := by decide) : Only m' u (State.disqualify s v) ↔ Only m' u s := by
  refine Only.lift hm' fun u => ?_
  clear hm'
  unfold State.disqualify
  simp only [State.count_only, State.rndEvent_only, State.setCand_only, State.setQualified_only, State.switchRef_only, State.toHold_only, only_ite, only_ite_fst, ite_self, only_foldl, only_foldl_fst, implies_true, Only.refl, Nat.reduceOr]

@[simp] theorem State.forceHold_only (s : State) (u : State) {m' : Nat} (hm' : 8460801 ||| m' = m' := by decide) : Only m' u (State.forceHold s) ↔ Only m' u s := by
  refine Only.lift hm' fun u => ?_
  clear hm'
  unfold State.forceHold
  simp only [State.count_only, State.modRnd_only, State.rndEvent_only, State.setQualified_only, State.toHold_only, only_ite, only_ite_fst, ite_self, only_foldl, only_foldl_fst, implies_true, Only.refl, Nat.reduceOr]

@[simp] theorem State.lockRnd_only (s : State) (before : Nat) (done : Bool) (u : State) {m' : Nat} (hm' : 8460801 ||| m' = m' := by decide) : Only m' u (State.lockRnd s before done) ↔ Only m' u s := by
  refine Only.lift hm' fun u => ?_
  clear hm'
  unfold State.lockRnd
  simp only [State.forceHold_only, State.goRnd_only, State.rndEvent_only, State.setFld_only, only_ite, only_ite_fst, ite_self, only_foldl, only_foldl_fst, implies_true, Only.refl, Nat.reduceOr]

@[simp] theorem State.onQualify_only (s : State) (v : Bool) (ago : Int) (u : State) {m' : Nat} (hm' : 8460801 ||| m' = m' := by decide) : Only m' u (State.onQualify s v ago) ↔ Only m' u s := by
  refine Only.lift hm' fun u => ?_
  clear hm'
  unfold State.onQualify
  first
  | (simp only [State.checkBand_only, State.goRnd_only, State.modRnd_only, State.rndEvent_only, State.setFld_only, State.setPhErr_only, State.setPhase_only, State.setRoundNo_only, State.startSlew_only, only_ite, only_ite_fst, ite_self, only_foldl, only_foldl_fst, implies_true, Only.refl, Nat.reduceOr]; done)
  | ((try dsimp only); (repeat' split) <;> simp only [State.checkBand_only, State.goRnd_only, State.modRnd_only, State.rndEvent_only, State.setFld_only, State.setPhErr_only, State.setPhase_only, State.setRoundNo_only, State.startSlew_only, only_ite, only_ite_fst, ite_self, only_foldl, only_foldl_fst, implies_true, Only.refl, Nat.reduceOr]; done)
  | ((try dsimp only); (repeat' split) <;> simp; done)
  | (simp (disch := (intros; (repeat' split) <;> (try simp_all only [State.checkBand_only, State.goRnd_only, State.modRnd_only, State.rndEvent_only, State.setFld_only, State.setPhErr_only, State.setPhase_only, State.setRoundNo_only, State.startSlew_only, only_ite, only_ite_fst, ite_self, only_foldl, only_foldl_fst, implies_true, Only.refl, Nat.reduceOr]) <;> (try simp_all))); done)
  | ((try dsimp only); (repeat' split) <;> simp (disch := (intros; (repeat' split) <;> (try simp_all only [State.checkBand_only, State.goRnd_only, State.modRnd_only, State.rndEvent_only, State.setFld_only, State.setPhErr_only, State.setPhase_only, State.setRoundNo_only, State.startSlew_only, only_ite, only_ite_fst, ite_self, only_foldl, only_foldl_fst, implies_true, Only.refl, Nat.reduceOr]) <;> (try simp_all))); done)

@[simp] theorem State.stepLoop_only (s : State) (e : Int) (u : State) {m' : Nat} (hm' : 3073 ||| m' = m' := by decide) : Only m' u (State.stepLoop s e) ↔ Only m' u s := by
  refine Only.lift hm' fun u => ?_
  clear hm'
  unfold State.stepLoop
  first
  | (simp only [State.draw_only, State.setBase_only, State.setPhErr_only, only_ite, only_ite_fst, ite_self, only_foldl, only_foldl_fst, implies_true, Only.refl, Nat.reduceOr]; done)
  | ((try dsimp only); (repeat' split) <;> simp only [State.draw_only, State.setBase_only, State.setPhErr_only, only_ite, only_ite_fst, ite_self, only_foldl, only_foldl_fst, implies_true, Only.refl, Nat.reduceOr]; done)
  | ((try dsimp only); (repeat' split) <;> simp; done)
  | (simp (disch := (intros; (repeat' split) <;> (try simp_all only [State.draw_only, State.setBase_only, State.setPhErr_only, only_ite, only_ite_fst, ite_self, only_foldl, only_foldl_fst, implies_true, Only.refl, Nat.reduceOr]) <;> (try simp_all))); done)
  | ((try dsimp only); (repeat' split) <;> simp (disch := (intros; (repeat' split) <;> (try simp_all only [State.draw_only, State.setBase_only, State.setPhErr_only, only_ite, only_ite_fst, ite_self, only_foldl, only_foldl_fst, implies_true, Only.refl, Nat.reduceOr]) <;> (try simp_all))); done)

@[simp] theorem State.drive_only (s : State) (ago : Int) (u : State) {m' : Nat} (hm' : 8461825 ||| m' = m' := by decide) : Only m' u (State.drive s ago) ↔ Only m' u s := by
  refine Only.lift hm' fun u => ?_
  clear hm'
  unfold State.drive
  first
  | (simp only [State.checkBand_only, State.lockRnd_only, State.modRnd_only, State.setBase_only, State.setPhErr_only, State.stepLoop_only, only_ite, only_ite_fst, ite_self, only_foldl, only_foldl_fst, implies_true, Only.refl, Nat.reduceOr]; done)
  | ((try dsimp only); (repeat' split) <;> simp only [State.checkBand_only, State.lockRnd_only, State.modRnd_only, State.setBase_only, State.setPhErr_only, State.stepLoop_only, only_ite, only_ite_fst, ite_self, only_foldl, only_foldl_fst, implies_true, Only.refl, Nat.reduceOr]; done)
  | ((try dsimp only); (repeat' split) <;> simp; done)
  | (simp (disch := (intros; (repeat' split) <;> (try simp_all only [State.checkBand_only, State.lockRnd_only, State.modRnd_only, State.setBase_only, State.setPhErr_only, State.stepLoop_only, only_ite, only_ite_fst, ite_self, only_foldl, only_foldl_fst, implies_true, Only.refl, Nat.reduceOr]) <;> (try simp_all))); done)
  | ((try dsimp only); (repeat' split) <;> simp (disch := (intros; (repeat' split) <;> (try simp_all only [State.checkBand_only, State.lockRnd_only, State.modRnd_only, State.setBase_only, State.setPhErr_only, State.stepLoop_only, only_ite, only_ite_fst, ite_self, only_foldl, only_foldl_fst, implies_true, Only.refl, Nat.reduceOr]) <;> (try simp_all))); done)

@[simp] theorem State.crossing_only (s : State) (v : Bool) (ago : Int) (u : State) {m' : Nat} (hm' : 8461825 ||| m' = m' := by decide) : Only m' u (State.crossing s v ago) ↔ Only m' u s := by
  refine Only.lift hm' fun u => ?_
  clear hm'
  unfold State.crossing
  first
  | (simp only [State.disqualify_only, State.drive_only, State.onQualify_only, State.setCand_only, State.setQualified_only, only_ite, only_ite_fst, ite_self, only_foldl, only_foldl_fst, implies_true, Only.refl, Nat.reduceOr]; done)
  | ((try dsimp only); (repeat' split) <;> simp only [State.disqualify_only, State.drive_only, State.onQualify_only, State.setCand_only, State.setQualified_only, only_ite, only_ite_fst, ite_self, only_foldl, only_foldl_fst, implies_true, Only.refl, Nat.reduceOr]; done)
  | ((try dsimp only); (repeat' split) <;> simp; done)
  | (simp (disch := (intros; (repeat' split) <;> (try simp_all only [State.disqualify_only, State.drive_only, State.onQualify_only, State.setCand_only, State.setQualified_only, only_ite, only_ite_fst, ite_self, only_foldl, only_foldl_fst, implies_true, Only.refl, Nat.reduceOr]) <;> (try simp_all))); done)
  | ((try dsimp only); (repeat' split) <;> simp (disch := (intros; (repeat' split) <;> (try simp_all only [State.disqualify_only, State.drive_only, State.onQualify_only, State.setCand_only, State.setQualified_only, only_ite, only_ite_fst, ite_self, only_foldl, only_foldl_fst, implies_true, Only.refl, Nat.reduceOr]) <;> (try simp_all))); done)

@[simp] theorem State.voltCross_only (s : State) (ago below above period dip peak : Nat) (u : State) {m' : Nat} (hm' : 8461825 ||| m' = m' := by decide) : Only m' u (State.voltCross s ago below above period dip peak) ↔ Only m' u s := by
  refine Only.lift hm' fun u => ?_
  clear hm'
  unfold State.voltCross
  simp only [State.crossing_only, only_ite, only_ite_fst, ite_self, only_foldl, only_foldl_fst, implies_true, Only.refl, Nat.reduceOr]

@[simp] theorem State.zcCross_only (s : State) (ago : Nat) (rising : Bool) (u : State) {m' : Nat} (hm' : 8461825 ||| m' = m' := by decide) : Only m' u (State.zcCross s ago rising) ↔ Only m' u s := by
  refine Only.lift hm' fun u => ?_
  clear hm'
  unfold State.zcCross
  first
  | (simp only [State.crossing_only, only_ite, only_ite_fst, ite_self, only_foldl, only_foldl_fst, implies_true, Only.refl, Nat.reduceOr]; done)
  | ((try dsimp only); (repeat' split) <;> simp only [State.crossing_only, only_ite, only_ite_fst, ite_self, only_foldl, only_foldl_fst, implies_true, Only.refl, Nat.reduceOr]; done)
  | ((try dsimp only); (repeat' split) <;> simp; done)
  | (simp (disch := (intros; (repeat' split) <;> (try simp_all only [State.crossing_only, only_ite, only_ite_fst, ite_self, only_foldl, only_foldl_fst, implies_true, Only.refl, Nat.reduceOr]) <;> (try simp_all))); done)
  | ((try dsimp only); (repeat' split) <;> simp (disch := (intros; (repeat' split) <;> (try simp_all only [State.crossing_only, only_ite, only_ite_fst, ite_self, only_foldl, only_foldl_fst, implies_true, Only.refl, Nat.reduceOr]) <;> (try simp_all))); done)

theorem execCrossingTimeout_only (voltage : Bool) (s : State) : Outs (Only 8460801 s) (execCrossingTimeout voltage s) := by
  unfold execCrossingTimeout
  simp only [State.disqualify_only, only_ite, only_ite_fst, ite_self, Only.refl, Nat.reduceOr, outs_next, outs_fault, outs_refused, outs_ite, implies_true]

theorem execAmplitudeTimeout_only (s : State) : Outs (Only 8460801 s) (execAmplitudeTimeout s) := by
  unfold execAmplitudeTimeout
  simp only [State.disqualify_only, only_ite, only_ite_fst, ite_self, Only.refl, Nat.reduceOr, outs_next, outs_fault, outs_refused, outs_ite, implies_true]

theorem execRefRevert_only (s : State) : Outs (Only 8460801 s) (execRefRevert s) := by
  unfold execRefRevert
  simp only [State.switchRef_only, only_ite, only_ite_fst, ite_self, Only.refl, Nat.reduceOr, outs_next, outs_fault, outs_refused, outs_ite, implies_true]

theorem execSlewDone_only (s : State) : Outs (Only 8460801 s) (execSlewDone s) := by
  unfold execSlewDone
  simp only [State.lockRnd_only, only_ite, only_ite_fst, ite_self, only_foldl, only_foldl_fst, implies_true, Only.refl, Nat.reduceOr, outs_next, outs_fault, outs_refused, outs_ite]

@[simp] theorem State.holdForce_only (s : State) (on : Bool) (u : State) {m' : Nat} (hm' : 8460801 ||| m' = m' := by decide) : Only m' u (State.holdForce s on) ↔ Only m' u s := by
  refine Only.lift hm' fun u => ?_
  clear hm'
  unfold State.holdForce
  simp only [State.forceHold_only, State.setFld_only, only_ite, only_ite_fst, ite_self, only_foldl, only_foldl_fst, implies_true, Only.refl, Nat.reduceOr]

@[simp] theorem State.snap_only (s : State) (u : State) {m' : Nat} (hm' : 1 ||| m' = m' := by decide) : Only m' u (State.snap s) ↔ Only m' u s := by
  refine Only.lift hm' fun u => ?_
  clear hm'
  unfold State.snap
  first
  | (simp only [State.setRegN_only, only_ite, only_ite_fst, ite_self, only_foldl, only_foldl_fst, implies_true, Only.refl, Nat.reduceOr]; done)
  | ((try dsimp only); (repeat' split) <;> simp only [State.setRegN_only, only_ite, only_ite_fst, ite_self, only_foldl, only_foldl_fst, implies_true, Only.refl, Nat.reduceOr]; done)
  | ((try dsimp only); (repeat' split) <;> simp; done)
  | (simp (disch := (intros; (repeat' split) <;> (try simp_all only [State.setRegN_only, only_ite, only_ite_fst, ite_self, only_foldl, only_foldl_fst, implies_true, Only.refl, Nat.reduceOr]) <;> (try simp_all))); done)
  | ((try dsimp only); (repeat' split) <;> simp (disch := (intros; (repeat' split) <;> (try simp_all only [State.setRegN_only, only_ite, only_ite_fst, ite_self, only_foldl, only_foldl_fst, implies_true, Only.refl, Nat.reduceOr]) <;> (try simp_all))); done)

@[simp] theorem State.loadNs_only (s : State) (v : Nat) (u : State) {m' : Nat} (hm' : 8470017 ||| m' = m' := by decide) : Only m' u (State.loadNs s v) ↔ Only m' u s := by
  refine Only.lift hm' fun u => ?_
  clear hm'
  unfold State.loadNs
  simp only [State.modRnd_only, State.report_only, State.setFld_only, State.setNstime_only, State.settle_only, Only.refl, Nat.reduceOr]

@[simp] theorem State.armNs_only (s : State) (v : Nat) (u : State) {m' : Nat} (hm' : 8470017 ||| m' = m' := by decide) : Only m' u (State.armNs s v) ↔ Only m' u s := by
  refine Only.lift hm' fun u => ?_
  clear hm'
  unfold State.armNs
  simp only [State.loadNs_only, State.modRnd_only, only_ite, only_ite_fst, ite_self, Only.refl, Nat.reduceOr]

@[simp] theorem State.discipline_only (s : State) (ticks : Nat) (u : State) {m' : Nat} (hm' : 3072 ||| m' = m' := by decide) : Only m' u (State.discipline s ticks) ↔ Only m' u s := by
  refine Only.lift hm' fun u => ?_
  clear hm'
  unfold State.discipline
  simp only [State.draw_only, State.modRnd_only, only_ite, only_ite_fst, ite_self, Only.refl, Nat.reduceOr]

@[simp] theorem State.losePps_only (s : State) (u : State) {m' : Nat} (hm' : 8460801 ||| m' = m' := by decide) : Only m' u (State.losePps s) ↔ Only m' u s := by
  refine Only.lift hm' fun u => ?_
  clear hm'
  unfold State.losePps
  simp only [State.modRnd_only, State.rndEvent_only, State.setFld_only, only_ite, only_ite_fst, ite_self, only_foldl, only_foldl_fst, implies_true, Only.refl, Nat.reduceOr]

@[simp] theorem State.ppsEdge_only (s : State) (u : State) {m' : Nat} (hm' : 8470017 ||| m' = m' := by decide) : Only m' u (State.ppsEdge s) ↔ Only m' u s := by
  refine Only.lift hm' fun u => ?_
  clear hm'
  unfold State.ppsEdge
  (try dsimp only); (repeat' split) <;> simp only [State.discipline_only, State.loadNs_only, State.modRnd_only, State.rndEvent_only, State.setFld_only, State.setRegN_only, only_ite, only_ite_fst, ite_self, Only.refl, Nat.reduceOr]

theorem execPpsEdge_only (rising : Bool) (s : State) : Outs (Only 8470017 s) (execPpsEdge rising s) := by
  unfold execPpsEdge
  simp only [State.ppsEdge_only, only_ite, only_ite_fst, ite_self, only_foldl, only_foldl_fst, implies_true, Only.refl, Nat.reduceOr, outs_next, outs_fault, outs_refused, outs_ite]

theorem execPpsTimeout_only (s : State) : Outs (Only 8460801 s) (execPpsTimeout s) := by
  unfold execPpsTimeout
  simp only [State.losePps_only, only_ite, only_ite_fst, ite_self, only_foldl, only_foldl_fst, implies_true, Only.refl, Nat.reduceOr, outs_next, outs_fault, outs_refused, outs_ite]

@[simp] theorem State.apply1_only (s : State) (r : Rg) (i j : Nat) (u : State) {m' : Nat} (hm' : 1 ||| m' = m' := by decide) : Only m' u (State.apply1 s r i j) ↔ Only m' u s := by
  refine Only.lift hm' fun u => ?_
  clear hm'
  unfold State.apply1
  simp only [State.setReg_only, Only.refl, Nat.reduceOr]

@[simp] theorem State.applyRnd_only (s : State) (u : State) {m' : Nat} (hm' : 8460801 ||| m' = m' := by decide) : Only m' u (State.applyRnd s) ↔ Only m' u s := by
  refine Only.lift hm' fun u => ?_
  clear hm'
  unfold State.applyRnd
  simp only [State.apply1_only, State.checkBand_only, State.disqualify_only, State.losePps_only, State.modRnd_only, State.rndEvent_only, State.setBase_only, State.setCand_only, State.setFld_only, State.setOutput_only, only_ite, only_ite_fst, ite_self, only_foldl, only_foldl_fst, implies_true, Only.refl, Nat.reduceOr]

end Sys2Proof.Machine
end

