-- ==== Sys2Proof/Laws/OnlyJournal.lean ====
section
/-! SUPPORT. Laws/OnlyJournal.lean: the pieces of the state that the operations and commands of Machine/Journal.lean may change. -/

namespace Sys2Proof.Machine
open Sys2Proof Sys2Proof.Machine.Reg

set_option linter.all false
set_option Elab.async false

@[simp] theorem State.modJrn_only (s : State) (f : Jrn → Jrn) (u : State) {m' : Nat} (hm' : 65536 ||| m' = m' := by decide) : Only m' u (State.modJrn s f) ↔ Only m' u s := by
  refine Only.lift hm' fun u => ?_
  clear hm'
  unfold State.modJrn
  simp only [only_jrn, Only.refl, Nat.reduceOr]

@[simp] theorem State.noteCounts_only (s : State) (u : State) {m' : Nat} (hm' : 1 ||| m' = m' := by decide) : Only m' u (State.noteCounts s) ↔ Only m' u s := by
  refine Only.lift hm' fun u => ?_
  clear hm'
  unfold State.noteCounts
  simp only [State.setFld_only, Only.refl, Nat.reduceOr]

@[simp] theorem State.program_only (s : State) (a : Nat) (bs : List Nat) (u : State) {m' : Nat} (hm' : 256 ||| m' = m' := by decide) : Only m' u (State.program s a bs) ↔ Only m' u s := by
  refine Only.lift hm' fun u => ?_
  clear hm'
  unfold State.program
  simp only [only_nor, Only.refl, Nat.reduceOr]

@[simp] theorem State.programRec_only (s : State) (j i seq : Nat) (r : JRec) (u : State) {m' : Nat} (hm' : 256 ||| m' = m' := by decide) : Only m' u (State.programRec s j i seq r) ↔ Only m' u s := by
  refine Only.lift hm' fun u => ?_
  clear hm'
  unfold State.programRec
  simp only [State.program_only, Only.refl, Nat.reduceOr]

@[simp] theorem State.format_only (s : State) (j firstSeq : Nat) (u : State) {m' : Nat} (hm' : 65793 ||| m' = m' := by decide) : Only m' u (State.format s j firstSeq) ↔ Only m' u s := by
  refine Only.lift hm' fun u => ?_
  clear hm'
  unfold State.format
  simp only [State.modJrn_only, State.program_only, State.setFld_only, Only.refl, Nat.reduceOr]

@[simp] theorem State.beginErase_only (s : State) (u : State) {m' : Nat} (hm' : 65793 ||| m' = m' := by decide) : Only m' u (State.beginErase s) ↔ Only m' u s := by
  refine Only.lift hm' fun u => ?_
  clear hm'
  unfold State.beginErase
  first
  | (simp only [State.modJrn_only, State.programRec_only, State.setFld_only, only_ite, only_ite_fst, ite_self, only_foldl, only_foldl_fst, implies_true, Only.refl, Nat.reduceOr]; done)
  | ((try dsimp only); (repeat' split) <;> simp only [State.modJrn_only, State.programRec_only, State.setFld_only, only_ite, only_ite_fst, ite_self, only_foldl, only_foldl_fst, implies_true, Only.refl, Nat.reduceOr]; done)
  | ((try dsimp only); (repeat' split) <;> simp; done)
  | (simp (disch := (intros; (repeat' split) <;> (try simp_all only [State.modJrn_only, State.programRec_only, State.setFld_only, only_ite, only_ite_fst, ite_self, only_foldl, only_foldl_fst, implies_true, Only.refl, Nat.reduceOr]) <;> (try simp_all))); done)
  | ((try dsimp only); (repeat' split) <;> simp (disch := (intros; (repeat' split) <;> (try simp_all only [State.modJrn_only, State.programRec_only, State.setFld_only, only_ite, only_ite_fst, ite_self, only_foldl, only_foldl_fst, implies_true, Only.refl, Nat.reduceOr]) <;> (try simp_all))); done)

@[simp] theorem State.prepare_only (s : State) (u : State) {m' : Nat} (hm' : 65793 ||| m' = m' := by decide) : Only m' u (State.prepare s) ↔ Only m' u s := by
  refine Only.lift hm' fun u => ?_
  clear hm'
  unfold State.prepare
  first
  | (simp only [State.beginErase_only, only_ite, only_ite_fst, ite_self, only_foldl, only_foldl_fst, implies_true, Only.refl, Nat.reduceOr]; done)
  | ((try dsimp only); (repeat' split) <;> simp only [State.beginErase_only, only_ite, only_ite_fst, ite_self, only_foldl, only_foldl_fst, implies_true, Only.refl, Nat.reduceOr]; done)
  | ((try dsimp only); (repeat' split) <;> simp; done)
  | (simp (disch := (intros; (repeat' split) <;> (try simp_all only [State.beginErase_only, only_ite, only_ite_fst, ite_self, only_foldl, only_foldl_fst, implies_true, Only.refl, Nat.reduceOr]) <;> (try simp_all))); done)
  | ((try dsimp only); (repeat' split) <;> simp (disch := (intros; (repeat' split) <;> (try simp_all only [State.beginErase_only, only_ite, only_ite_fst, ite_self, only_foldl, only_foldl_fst, implies_true, Only.refl, Nat.reduceOr]) <;> (try simp_all))); done)

@[simp] theorem State.rollOver_only (s : State) (u : State) {m' : Nat} (hm' : 65793 ||| m' = m' := by decide) : Only m' u (State.rollOver s) ↔ Only m' u s := by
  refine Only.lift hm' fun u => ?_
  clear hm'
  unfold State.rollOver
  first
  | (simp only [State.format_only, only_ite, only_ite_fst, ite_self, only_foldl, only_foldl_fst, implies_true, Only.refl, Nat.reduceOr]; done)
  | ((try dsimp only); (repeat' split) <;> simp only [State.format_only, only_ite, only_ite_fst, ite_self, only_foldl, only_foldl_fst, implies_true, Only.refl, Nat.reduceOr]; done)
  | ((try dsimp only); (repeat' split) <;> simp; done)
  | (simp (disch := (intros; (repeat' split) <;> (try simp_all only [State.format_only, only_ite, only_ite_fst, ite_self, only_foldl, only_foldl_fst, implies_true, Only.refl, Nat.reduceOr]) <;> (try simp_all))); done)
  | ((try dsimp only); (repeat' split) <;> simp (disch := (intros; (repeat' split) <;> (try simp_all only [State.format_only, only_ite, only_ite_fst, ite_self, only_foldl, only_foldl_fst, implies_true, Only.refl, Nat.reduceOr]) <;> (try simp_all))); done)

@[simp] theorem State.flushIdle_only (s : State) (u : State) {m' : Nat} (hm' : 8467969 ||| m' = m' := by decide) : Only m' u (State.flushIdle s) ↔ Only m' u s := by
  refine Only.lift hm' fun u => ?_
  clear hm'
  unfold State.flushIdle
  first
  | (simp only [State.modJrn_only, State.setFld_only, State.settle_only, only_ite, only_ite_fst, ite_self, only_foldl, only_foldl_fst, implies_true, Only.refl, Nat.reduceOr]; done)
  | ((try dsimp only); (repeat' split) <;> simp only [State.modJrn_only, State.setFld_only, State.settle_only, only_ite, only_ite_fst, ite_self, only_foldl, only_foldl_fst, implies_true, Only.refl, Nat.reduceOr]; done)
  | ((try dsimp only); (repeat' split) <;> simp; done)
  | (simp (disch := (intros; (repeat' split) <;> (try simp_all only [State.modJrn_only, State.setFld_only, State.settle_only, only_ite, only_ite_fst, ite_self, only_foldl, only_foldl_fst, implies_true, Only.refl, Nat.reduceOr]) <;> (try simp_all))); done)
  | ((try dsimp only); (repeat' split) <;> simp (disch := (intros; (repeat' split) <;> (try simp_all only [State.modJrn_only, State.setFld_only, State.settle_only, only_ite, only_ite_fst, ite_self, only_foldl, only_foldl_fst, implies_true, Only.refl, Nat.reduceOr]) <;> (try simp_all))); done)

@[simp] theorem State.endClear_only (s : State) (u : State) {m' : Nat} (hm' : 8467969 ||| m' = m' := by decide) : Only m' u (State.endClear s) ↔ Only m' u s := by
  refine Only.lift hm' fun u => ?_
  clear hm'
  unfold State.endClear
  first
  | (simp only [State.modJrn_only, State.setFld_only, State.settle_only, only_ite, only_ite_fst, ite_self, only_foldl, only_foldl_fst, implies_true, Only.refl, Nat.reduceOr]; done)
  | ((try dsimp only); (repeat' split) <;> simp only [State.modJrn_only, State.setFld_only, State.settle_only, only_ite, only_ite_fst, ite_self, only_foldl, only_foldl_fst, implies_true, Only.refl, Nat.reduceOr]; done)
  | ((try dsimp only); (repeat' split) <;> simp; done)
  | (simp (disch := (intros; (repeat' split) <;> (try simp_all only [State.modJrn_only, State.setFld_only, State.settle_only, only_ite, only_ite_fst, ite_self, only_foldl, only_foldl_fst, implies_true, Only.refl, Nat.reduceOr]) <;> (try simp_all))); done)
  | ((try dsimp only); (repeat' split) <;> simp (disch := (intros; (repeat' split) <;> (try simp_all only [State.modJrn_only, State.setFld_only, State.settle_only, only_ite, only_ite_fst, ite_self, only_foldl, only_foldl_fst, implies_true, Only.refl, Nat.reduceOr]) <;> (try simp_all))); done)

@[simp] theorem State.clearEnds_only (s : State) (u : State) {m' : Nat} (hm' : 8467969 ||| m' = m' := by decide) : Only m' u (State.clearEnds s) ↔ Only m' u s := by
  refine Only.lift hm' fun u => ?_
  clear hm'
  unfold State.clearEnds
  first
  | (simp only [State.endClear_only, only_ite, only_ite_fst, ite_self, only_foldl, only_foldl_fst, implies_true, Only.refl, Nat.reduceOr]; done)
  | ((try dsimp only); (repeat' split) <;> simp only [State.endClear_only, only_ite, only_ite_fst, ite_self, only_foldl, only_foldl_fst, implies_true, Only.refl, Nat.reduceOr]; done)
  | ((try dsimp only); (repeat' split) <;> simp; done)
  | (simp (disch := (intros; (repeat' split) <;> (try simp_all only [State.endClear_only, only_ite, only_ite_fst, ite_self, only_foldl, only_foldl_fst, implies_true, Only.refl, Nat.reduceOr]) <;> (try simp_all))); done)
  | ((try dsimp only); (repeat' split) <;> simp (disch := (intros; (repeat' split) <;> (try simp_all only [State.endClear_only, only_ite, only_ite_fst, ite_self, only_foldl, only_foldl_fst, implies_true, Only.refl, Nat.reduceOr]) <;> (try simp_all))); done)

@[simp] theorem State.startFlush_only (s : State) (u : State) {m' : Nat} (hm' : 8468225 ||| m' = m' := by decide) : Only m' u (State.startFlush s) ↔ Only m' u s := by
  refine Only.lift hm' fun u => ?_
  clear hm'
  unfold State.startFlush
  first
  | ((try dsimp only); (repeat' split) <;> simp only [State.beginErase_only, State.flushIdle_only, State.format_only, State.modJrn_only, State.setFld_only, only_ite, only_ite_fst, ite_self, only_foldl, only_foldl_fst, implies_true, Only.refl, Nat.reduceOr]; done)
  | (simp only [State.beginErase_only, State.flushIdle_only, State.format_only, State.modJrn_only, State.setFld_only, only_ite, only_ite_fst, ite_self, only_foldl, only_foldl_fst, implies_true, Only.refl, Nat.reduceOr]; done)
  | ((try dsimp only); (repeat' split) <;> simp; done)
  | (simp (disch := (intros; (repeat' split) <;> (try simp_all only [State.beginErase_only, State.flushIdle_only, State.format_only, State.modJrn_only, State.setFld_only, only_ite, only_ite_fst, ite_self, only_foldl, only_foldl_fst, implies_true, Only.refl, Nat.reduceOr]) <;> (try simp_all))); done)
  | ((try dsimp only); (repeat' split) <;> simp (disch := (intros; (repeat' split) <;> (try simp_all only [State.beginErase_only, State.flushIdle_only, State.format_only, State.modJrn_only, State.setFld_only, only_ite, only_ite_fst, ite_self, only_foldl, only_foldl_fst, implies_true, Only.refl, Nat.reduceOr]) <;> (try simp_all))); done)

@[simp] theorem State.markFlushed_only (s : State) (e : JSlot) (u : State) {m' : Nat} (hm' : 65537 ||| m' = m' := by decide) : Only m' u (State.markFlushed s e) ↔ Only m' u s := by
  refine Only.lift hm' fun u => ?_
  clear hm'
  unfold State.markFlushed
  simp only [State.modJrn_only, State.setRegN_only, only_ite, only_ite_fst, ite_self, Only.refl, Nat.reduceOr]

@[simp] theorem State.flushAll_only (s : State) (x : List JSlot) (u : State) {m' : Nat} (hm' : 65793 ||| m' = m' := by decide) : Only m' u (State.flushAll s x).1 ↔ Only m' u s := by
  refine Only.lift hm' fun u => ?_
  clear hm'
  induction x generalizing s with
  | nil => simp [State.flushAll]
  | cons e t ih => unfold State.flushAll; (try dsimp only); (repeat' split) <;> simp_all

@[simp] theorem State.leaveNor_only (s : State) (u : State) {m' : Nat} (hm' : 8467969 ||| m' = m' := by decide) : Only m' u (State.leaveNor s) ↔ Only m' u s := by
  refine Only.lift hm' fun u => ?_
  clear hm'
  unfold State.leaveNor
  first
  | (simp only [State.endClear_only, State.flushIdle_only, State.modJrn_only, State.setFld_only, only_ite, only_ite_fst, ite_self, only_foldl, only_foldl_fst, implies_true, Only.refl, Nat.reduceOr]; done)
  | ((try dsimp only); (repeat' split) <;> simp only [State.endClear_only, State.flushIdle_only, State.modJrn_only, State.setFld_only, only_ite, only_ite_fst, ite_self, only_foldl, only_foldl_fst, implies_true, Only.refl, Nat.reduceOr]; done)
  | ((try dsimp only); (repeat' split) <;> simp; done)
  | (simp (disch := (intros; (repeat' split) <;> (try simp_all only [State.endClear_only, State.flushIdle_only, State.modJrn_only, State.setFld_only, only_ite, only_ite_fst, ite_self, only_foldl, only_foldl_fst, implies_true, Only.refl, Nat.reduceOr]) <;> (try simp_all))); done)
  | ((try dsimp only); (repeat' split) <;> simp (disch := (intros; (repeat' split) <;> (try simp_all only [State.endClear_only, State.flushIdle_only, State.modJrn_only, State.setFld_only, only_ite, only_ite_fst, ite_self, only_foldl, only_foldl_fst, implies_true, Only.refl, Nat.reduceOr]) <;> (try simp_all))); done)

@[simp] theorem State.clearNext_only (s : State) (u : State) {m' : Nat} (hm' : 8468225 ||| m' = m' := by decide) : Only m' u (State.clearNext s) ↔ Only m' u s := by
  refine Only.lift hm' fun u => ?_
  clear hm'
  unfold State.clearNext
  first
  | (simp only [State.beginErase_only, State.format_only, State.modJrn_only, State.startFlush_only, only_ite, only_ite_fst, ite_self, only_foldl, only_foldl_fst, implies_true, Only.refl, Nat.reduceOr]; done)
  | ((try dsimp only); (repeat' split) <;> simp only [State.beginErase_only, State.format_only, State.modJrn_only, State.startFlush_only, only_ite, only_ite_fst, ite_self, only_foldl, only_foldl_fst, implies_true, Only.refl, Nat.reduceOr]; done)
  | ((try dsimp only); (repeat' split) <;> simp; done)
  | (simp (disch := (intros; (repeat' split) <;> (try simp_all only [State.beginErase_only, State.format_only, State.modJrn_only, State.startFlush_only, only_ite, only_ite_fst, ite_self, only_foldl, only_foldl_fst, implies_true, Only.refl, Nat.reduceOr]) <;> (try simp_all))); done)
  | ((try dsimp only); (repeat' split) <;> simp (disch := (intros; (repeat' split) <;> (try simp_all only [State.beginErase_only, State.format_only, State.modJrn_only, State.startFlush_only, only_ite, only_ite_fst, ite_self, only_foldl, only_foldl_fst, implies_true, Only.refl, Nat.reduceOr]) <;> (try simp_all))); done)

@[simp] theorem State.resumeErase_only (s : State) (u : State) {m' : Nat} (hm' : 1 ||| m' = m' := by decide) : Only m' u (State.resumeErase s) ↔ Only m' u s := by
  refine Only.lift hm' fun u => ?_
  clear hm'
  unfold State.resumeErase
  first
  | (simp only [State.setFld_only, only_ite, only_ite_fst, ite_self, only_foldl, only_foldl_fst, implies_true, Only.refl, Nat.reduceOr]; done)
  | ((try dsimp only); (repeat' split) <;> simp only [State.setFld_only, only_ite, only_ite_fst, ite_self, only_foldl, only_foldl_fst, implies_true, Only.refl, Nat.reduceOr]; done)
  | ((try dsimp only); (repeat' split) <;> simp; done)
  | (simp (disch := (intros; (repeat' split) <;> (try simp_all only [State.setFld_only, only_ite, only_ite_fst, ite_self, only_foldl, only_foldl_fst, implies_true, Only.refl, Nat.reduceOr]) <;> (try simp_all))); done)
  | ((try dsimp only); (repeat' split) <;> simp (disch := (intros; (repeat' split) <;> (try simp_all only [State.setFld_only, only_ite, only_ite_fst, ite_self, only_foldl, only_foldl_fst, implies_true, Only.refl, Nat.reduceOr]) <;> (try simp_all))); done)

@[simp] theorem State.flushNext_only (s : State) (u : State) {m' : Nat} (hm' : 8468225 ||| m' = m' := by decide) : Only m' u (State.flushNext s) ↔ Only m' u s := by
  refine Only.lift hm' fun u => ?_
  clear hm'
  unfold State.flushNext
  first
  | (simp only [State.flushIdle_only, State.jrnEvent_only, State.startFlush_only, only_ite, only_ite_fst, ite_self, only_foldl, only_foldl_fst, implies_true, Only.refl, Nat.reduceOr]; done)
  | ((try dsimp only); (repeat' split) <;> simp only [State.flushIdle_only, State.jrnEvent_only, State.startFlush_only, only_ite, only_ite_fst, ite_self, only_foldl, only_foldl_fst, implies_true, Only.refl, Nat.reduceOr]; done)
  | ((try dsimp only); (repeat' split) <;> simp; done)
  | (simp (disch := (intros; (repeat' split) <;> (try simp_all only [State.flushIdle_only, State.jrnEvent_only, State.startFlush_only, only_ite, only_ite_fst, ite_self, only_foldl, only_foldl_fst, implies_true, Only.refl, Nat.reduceOr]) <;> (try simp_all))); done)
  | ((try dsimp only); (repeat' split) <;> simp (disch := (intros; (repeat' split) <;> (try simp_all only [State.flushIdle_only, State.jrnEvent_only, State.startFlush_only, only_ite, only_ite_fst, ite_self, only_foldl, only_foldl_fst, implies_true, Only.refl, Nat.reduceOr]) <;> (try simp_all))); done)

theorem execFlushDone_only (s : State) : Outs (Only 8468225 s) (execFlushDone s) := by
  unfold execFlushDone
  (repeat apply outs_onUnit); (try dsimp only); (repeat' split) <;> simp_all only [State.clearEnds_only, State.clearNext_only, State.flushAll_only, State.flushNext_only, State.leaveNor_only, State.modJrn_only, State.noteCounts_only, State.prepare_only, State.resumeErase_only, State.rollOver_only, State.setFld_only, only_ite, only_ite_fst, ite_self, only_foldl, only_foldl_fst, implies_true, Only.refl, Nat.reduceOr, outs_next, outs_fault, outs_refused, outs_ite]

@[simp] theorem State.placeRec_only (s : State) (r : JRec) (u : State) {m' : Nat} (hm' : 8468225 ||| m' = m' := by decide) : Only m' u (State.placeRec s r) ↔ Only m' u s := by
  refine Only.lift hm' fun u => ?_
  clear hm'
  unfold State.placeRec
  first
  | ((try dsimp only); (repeat' split) <;> simp only [State.jrnLost_only, State.modJrn_only, State.noteCounts_only, State.setRegN_only, State.startFlush_only, only_ite, only_ite_fst, ite_self, only_foldl, only_foldl_fst, implies_true, Only.refl, Nat.reduceOr]; done)
  | (simp only [State.jrnLost_only, State.modJrn_only, State.noteCounts_only, State.setRegN_only, State.startFlush_only, only_ite, only_ite_fst, ite_self, only_foldl, only_foldl_fst, implies_true, Only.refl, Nat.reduceOr]; done)
  | ((try dsimp only); (repeat' split) <;> simp; done)
  | (simp (disch := (intros; (repeat' split) <;> (try simp_all only [State.jrnLost_only, State.modJrn_only, State.noteCounts_only, State.setRegN_only, State.startFlush_only, only_ite, only_ite_fst, ite_self, only_foldl, only_foldl_fst, implies_true, Only.refl, Nat.reduceOr]) <;> (try simp_all))); done)
  | ((try dsimp only); (repeat' split) <;> simp (disch := (intros; (repeat' split) <;> (try simp_all only [State.jrnLost_only, State.modJrn_only, State.noteCounts_only, State.setRegN_only, State.startFlush_only, only_ite, only_ite_fst, ite_self, only_foldl, only_foldl_fst, implies_true, Only.refl, Nat.reduceOr]) <;> (try simp_all))); done)

@[simp] theorem State.setBucket_only (s : State) (b : Bucket) (u : State) {m' : Nat} (hm' : 65536 ||| m' = m' := by decide) : Only m' u (State.setBucket s b) ↔ Only m' u s := by
  refine Only.lift hm' fun u => ?_
  clear hm'
  unfold State.setBucket
  simp only [State.modJrn_only, Only.refl, Nat.reduceOr]

@[simp] theorem State.noteSup_only (s : State) (u : State) {m' : Nat} (hm' : 1 ||| m' = m' := by decide) : Only m' u (State.noteSup s) ↔ Only m' u s := by
  refine Only.lift hm' fun u => ?_
  clear hm'
  unfold State.noteSup
  simp only [State.setFld_only, Only.refl, Nat.reduceOr]

@[simp] theorem State.admGroup_only (s : State) (r : JRec) (g : List JRec) (u : State) {m' : Nat} (hm' : 8468225 ||| m' = m' := by decide) : Only m' u (State.admGroup s r g) ↔ Only m' u s := by
  refine Only.lift hm' fun u => ?_
  clear hm'
  unfold State.admGroup
  first
  | (simp only [State.jrnEvent_only, State.noteSup_only, State.placeRec_only, State.setBucket_only, only_ite, only_ite_fst, ite_self, only_foldl, only_foldl_fst, implies_true, Only.refl, Nat.reduceOr]; done)
  | ((try dsimp only); (repeat' split) <;> simp only [State.jrnEvent_only, State.noteSup_only, State.placeRec_only, State.setBucket_only, only_ite, only_ite_fst, ite_self, only_foldl, only_foldl_fst, implies_true, Only.refl, Nat.reduceOr]; done)
  | ((try dsimp only); (repeat' split) <;> simp; done)
  | (simp (disch := (intros; (repeat' split) <;> (try simp_all only [State.jrnEvent_only, State.noteSup_only, State.placeRec_only, State.setBucket_only, only_ite, only_ite_fst, ite_self, only_foldl, only_foldl_fst, implies_true, Only.refl, Nat.reduceOr]) <;> (try simp_all))); done)
  | ((try dsimp only); (repeat' split) <;> simp (disch := (intros; (repeat' split) <;> (try simp_all only [State.jrnEvent_only, State.noteSup_only, State.placeRec_only, State.setBucket_only, only_ite, only_ite_fst, ite_self, only_foldl, only_foldl_fst, implies_true, Only.refl, Nat.reduceOr]) <;> (try simp_all))); done)

theorem execRecordIntake_only (s : State) : Outs (Only 8468225 s) (execRecordIntake s) := by
  unfold execRecordIntake
  (repeat first | apply outs_onUnit | refine outs_reached ?_ (by decide)); (try dsimp only); (repeat' split) <;> simp_all only [State.admGroup_only, State.intake_only, State.modJrn_only, only_ite, only_ite_fst, ite_self, only_foldl, only_foldl_fst, implies_true, Only.refl, Nat.reduceOr, outs_next, outs_fault, outs_refused, outs_ite]

@[simp] theorem State.placeOwn_only (s : State) (r : JRec) (u : State) {m' : Nat} (hm' : 8468225 ||| m' = m' := by decide) : Only m' u (State.placeOwn s r) ↔ Only m' u s := by
  refine Only.lift hm' fun u => ?_
  clear hm'
  unfold State.placeOwn
  first
  | (simp only [State.jrnLost_only, State.placeRec_only, only_ite, only_ite_fst, ite_self, only_foldl, only_foldl_fst, implies_true, Only.refl, Nat.reduceOr]; done)
  | ((try dsimp only); (repeat' split) <;> simp only [State.jrnLost_only, State.placeRec_only, only_ite, only_ite_fst, ite_self, only_foldl, only_foldl_fst, implies_true, Only.refl, Nat.reduceOr]; done)
  | ((try dsimp only); (repeat' split) <;> simp; done)
  | (simp (disch := (intros; (repeat' split) <;> (try simp_all only [State.jrnLost_only, State.placeRec_only, only_ite, only_ite_fst, ite_self, only_foldl, only_foldl_fst, implies_true, Only.refl, Nat.reduceOr]) <;> (try simp_all))); done)
  | ((try dsimp only); (repeat' split) <;> simp (disch := (intros; (repeat' split) <;> (try simp_all only [State.jrnLost_only, State.placeRec_only, only_ite, only_ite_fst, ite_self, only_foldl, only_foldl_fst, implies_true, Only.refl, Nat.reduceOr]) <;> (try simp_all))); done)

@[simp] theorem State.jrnRound_only (s : State) (u : State) {m' : Nat} (hm' : 8468225 ||| m' = m' := by decide) : Only m' u (State.jrnRound s) ↔ Only m' u s := by
  refine Only.lift hm' fun u => ?_
  clear hm'
  unfold State.jrnRound
  first
  | (simp (disch := (intros; (repeat' split) <;> (try simp_all only [State.modJrn_only, State.noteSup_only, State.placeOwn_only, State.setBucket_only, only_ite, only_ite_fst, ite_self, only_foldl, only_foldl_fst, implies_true, Only.refl, Nat.reduceOr]) <;> (try simp_all))); done)
  | (simp only [State.modJrn_only, State.noteSup_only, State.placeOwn_only, State.setBucket_only, only_ite, only_ite_fst, ite_self, only_foldl, only_foldl_fst, implies_true, Only.refl, Nat.reduceOr]; done)
  | ((try dsimp only); (repeat' split) <;> simp only [State.modJrn_only, State.noteSup_only, State.placeOwn_only, State.setBucket_only, only_ite, only_ite_fst, ite_self, only_foldl, only_foldl_fst, implies_true, Only.refl, Nat.reduceOr]; done)
  | ((try dsimp only); (repeat' split) <;> simp; done)
  | ((try dsimp only); (repeat' split) <;> simp (disch := (intros; (repeat' split) <;> (try simp_all only [State.modJrn_only, State.noteSup_only, State.placeOwn_only, State.setBucket_only, only_ite, only_ite_fst, ite_self, only_foldl, only_foldl_fst, implies_true, Only.refl, Nat.reduceOr]) <;> (try simp_all))); done)

@[simp] theorem State.snapJrn_only (s : State) (u : State) {m' : Nat} (hm' : 1 ||| m' = m' := by decide) : Only m' u (State.snapJrn s) ↔ Only m' u s := by
  refine Only.lift hm' fun u => ?_
  clear hm'
  unfold State.snapJrn
  simp only [State.setFld_only, State.setRegN_only, Only.refl, Nat.reduceOr]

@[simp] theorem State.freezeJrn_only (s : State) (u : State) {m' : Nat} (hm' : 65537 ||| m' = m' := by decide) : Only m' u (State.freezeJrn s) ↔ Only m' u s := by
  refine Only.lift hm' fun u => ?_
  clear hm'
  unfold State.freezeJrn
  first
  | (simp only [State.modJrn_only, State.setFld_only, only_ite, only_ite_fst, ite_self, only_foldl, only_foldl_fst, implies_true, Only.refl, Nat.reduceOr]; done)
  | ((try dsimp only); (repeat' split) <;> simp only [State.modJrn_only, State.setFld_only, only_ite, only_ite_fst, ite_self, only_foldl, only_foldl_fst, implies_true, Only.refl, Nat.reduceOr]; done)
  | ((try dsimp only); (repeat' split) <;> simp; done)
  | (simp (disch := (intros; (repeat' split) <;> (try simp_all only [State.modJrn_only, State.setFld_only, only_ite, only_ite_fst, ite_self, only_foldl, only_foldl_fst, implies_true, Only.refl, Nat.reduceOr]) <;> (try simp_all))); done)
  | ((try dsimp only); (repeat' split) <;> simp (disch := (intros; (repeat' split) <;> (try simp_all only [State.modJrn_only, State.setFld_only, only_ite, only_ite_fst, ite_self, only_foldl, only_foldl_fst, implies_true, Only.refl, Nat.reduceOr]) <;> (try simp_all))); done)

@[simp] theorem State.ctrlFlush_only (s : State) (u : State) {m' : Nat} (hm' : 8468225 ||| m' = m' := by decide) : Only m' u (State.ctrlFlush s) ↔ Only m' u s := by
  refine Only.lift hm' fun u => ?_
  clear hm'
  unfold State.ctrlFlush
  first
  | (simp only [State.setFld_only, State.startFlush_only, only_ite, only_ite_fst, ite_self, only_foldl, only_foldl_fst, implies_true, Only.refl, Nat.reduceOr]; done)
  | ((try dsimp only); (repeat' split) <;> simp only [State.setFld_only, State.startFlush_only, only_ite, only_ite_fst, ite_self, only_foldl, only_foldl_fst, implies_true, Only.refl, Nat.reduceOr]; done)
  | ((try dsimp only); (repeat' split) <;> simp; done)
  | (simp (disch := (intros; (repeat' split) <;> (try simp_all only [State.setFld_only, State.startFlush_only, only_ite, only_ite_fst, ite_self, only_foldl, only_foldl_fst, implies_true, Only.refl, Nat.reduceOr]) <;> (try simp_all))); done)
  | ((try dsimp only); (repeat' split) <;> simp (disch := (intros; (repeat' split) <;> (try simp_all only [State.setFld_only, State.startFlush_only, only_ite, only_ite_fst, ite_self, only_foldl, only_foldl_fst, implies_true, Only.refl, Nat.reduceOr]) <;> (try simp_all))); done)

theorem execSectorEraseDone_only (s : State) : Outs (Only 8468225 s) (execSectorEraseDone s) := by
  unfold execSectorEraseDone
  (repeat apply outs_onUnit); (try dsimp only); (repeat' split) <;> simp_all only [State.clearNext_only, State.leaveNor_only, State.modJrn_only, State.programRec_only, State.rollOver_only, State.setFld_only, State.startFlush_only, only_nor, only_ite, only_ite_fst, ite_self, only_foldl, only_foldl_fst, implies_true, Only.refl, Nat.reduceOr, outs_next, outs_fault, outs_refused, outs_ite]

@[simp] theorem State.writeReset_only (s : State) (kind : Nat) (u : State) {m' : Nat} (hm' : 8468225 ||| m' = m' := by decide) : Only m' u (State.writeReset s kind) ↔ Only m' u s := by
  refine Only.lift hm' fun u => ?_
  clear hm'
  unfold State.writeReset
  first
  | (simp only [State.modJrn_only, State.placeOwn_only, only_ite, only_ite_fst, ite_self, only_foldl, only_foldl_fst, implies_true, Only.refl, Nat.reduceOr]; done)
  | ((try dsimp only); (repeat' split) <;> simp only [State.modJrn_only, State.placeOwn_only, only_ite, only_ite_fst, ite_self, only_foldl, only_foldl_fst, implies_true, Only.refl, Nat.reduceOr]; done)
  | ((try dsimp only); (repeat' split) <;> simp; done)
  | (simp (disch := (intros; (repeat' split) <;> (try simp_all only [State.modJrn_only, State.placeOwn_only, only_ite, only_ite_fst, ite_self, only_foldl, only_foldl_fst, implies_true, Only.refl, Nat.reduceOr]) <;> (try simp_all))); done)
  | ((try dsimp only); (repeat' split) <;> simp (disch := (intros; (repeat' split) <;> (try simp_all only [State.modJrn_only, State.placeOwn_only, only_ite, only_ite_fst, ite_self, only_foldl, only_foldl_fst, implies_true, Only.refl, Nat.reduceOr]) <;> (try simp_all))); done)

@[simp] theorem State.mount_only (s : State) (kind : Nat) (u : State) {m' : Nat} (hm' : 8468225 ||| m' = m' := by decide) : Only m' u (State.mount s kind) ↔ Only m' u s := by
  refine Only.lift hm' fun u => ?_
  clear hm'
  unfold State.mount
  first
  | ((try dsimp only); (repeat' split) <;> simp only [State.jrnEvent_only, State.modJrn_only, State.prepare_only, State.setFld_only, State.setRegN_only, State.writeReset_only, only_ite, only_ite_fst, ite_self, only_foldl, only_foldl_fst, implies_true, Only.refl, Nat.reduceOr]; done)
  | (simp only [State.jrnEvent_only, State.modJrn_only, State.prepare_only, State.setFld_only, State.setRegN_only, State.writeReset_only, only_ite, only_ite_fst, ite_self, only_foldl, only_foldl_fst, implies_true, Only.refl, Nat.reduceOr]; done)
  | ((try dsimp only); (repeat' split) <;> simp; done)
  | (simp (disch := (intros; (repeat' split) <;> (try simp_all only [State.jrnEvent_only, State.modJrn_only, State.prepare_only, State.setFld_only, State.setRegN_only, State.writeReset_only, only_ite, only_ite_fst, ite_self, only_foldl, only_foldl_fst, implies_true, Only.refl, Nat.reduceOr]) <;> (try simp_all))); done)
  | ((try dsimp only); (repeat' split) <;> simp (disch := (intros; (repeat' split) <;> (try simp_all only [State.jrnEvent_only, State.modJrn_only, State.prepare_only, State.setFld_only, State.setRegN_only, State.writeReset_only, only_ite, only_ite_fst, ite_self, only_foldl, only_foldl_fst, implies_true, Only.refl, Nat.reduceOr]) <;> (try simp_all))); done)

theorem execJournalMount_only (s : State) : Outs (Only 8468225 s) (execJournalMount s) := by
  unfold execJournalMount
  simp only [State.mount_only, only_ite, only_ite_fst, ite_self, Only.refl, Nat.reduceOr, outs_next, outs_fault, outs_refused, outs_ite, implies_true]

@[simp] theorem State.flashFail_only (s : State) (sector op status addr : Nat) (u : State) {m' : Nat} (hm' : 8467969 ||| m' = m' := by decide) : Only m' u (State.flashFail s sector op status addr) ↔ Only m' u s := by
  refine Only.lift hm' fun u => ?_
  clear hm'
  unfold State.flashFail
  simp only [State.modJrn_only, State.noteCounts_only, State.report_only, State.setFld_only, State.settle_only, Only.refl, Nat.reduceOr]

theorem execFlashErr_only (sector op status addr : Nat) (s : State) : Outs (Only 8467969 s) (execFlashErr sector op status addr s) := by
  unfold execFlashErr
  simp only [State.flashFail_only, only_ite, only_ite_fst, ite_self, Only.refl, Nat.reduceOr, outs_next, outs_fault, outs_refused, outs_ite, implies_true]

@[simp] theorem State.clearJournal_only (s : State) (u : State) {m' : Nat} (hm' : 8468225 ||| m' = m' := by decide) : Only m' u (State.clearJournal s) ↔ Only m' u s := by
  refine Only.lift hm' fun u => ?_
  clear hm'
  unfold State.clearJournal
  first
  | (simp only [State.clearNext_only, State.jrnEvent_only, State.modJrn_only, State.noteSup_only, State.placeRec_only, State.setFld_only, State.setRegN_only, only_ite, only_ite_fst, ite_self, only_foldl, only_foldl_fst, implies_true, Only.refl, Nat.reduceOr]; done)
  | ((try dsimp only); (repeat' split) <;> simp only [State.clearNext_only, State.jrnEvent_only, State.modJrn_only, State.noteSup_only, State.placeRec_only, State.setFld_only, State.setRegN_only, only_ite, only_ite_fst, ite_self, only_foldl, only_foldl_fst, implies_true, Only.refl, Nat.reduceOr]; done)
  | ((try dsimp only); (repeat' split) <;> simp; done)
  | (simp (disch := (intros; (repeat' split) <;> (try simp_all only [State.clearNext_only, State.jrnEvent_only, State.modJrn_only, State.noteSup_only, State.placeRec_only, State.setFld_only, State.setRegN_only, only_ite, only_ite_fst, ite_self, only_foldl, only_foldl_fst, implies_true, Only.refl, Nat.reduceOr]) <;> (try simp_all))); done)
  | ((try dsimp only); (repeat' split) <;> simp (disch := (intros; (repeat' split) <;> (try simp_all only [State.clearNext_only, State.jrnEvent_only, State.modJrn_only, State.noteSup_only, State.placeRec_only, State.setFld_only, State.setRegN_only, only_ite, only_ite_fst, ite_self, only_foldl, only_foldl_fst, implies_true, Only.refl, Nat.reduceOr]) <;> (try simp_all))); done)

@[simp] theorem State.notePlan_only (s : State) (u : State) {m' : Nat} (hm' : 8458753 ||| m' = m' := by decide) : Only m' u (State.notePlan s) ↔ Only m' u s := by
  refine Only.lift hm' fun u => ?_
  clear hm'
  unfold State.notePlan
  simp only [State.journal_only, State.setFld_only, only_ite, only_ite_fst, ite_self, Only.refl, Nat.reduceOr]

@[simp] theorem State.applyJrn_only (s : State) (u : State) {m' : Nat} (hm' : 8467969 ||| m' = m' := by decide) : Only m' u (State.applyJrn s) ↔ Only m' u s := by
  refine Only.lift hm' fun u => ?_
  clear hm'
  unfold State.applyJrn
  first
  | (simp only [State.apply1_only, State.leaveNor_only, State.modJrn_only, State.notePlan_only, State.report_only, State.setFld_only, only_ite, only_ite_fst, ite_self, only_foldl, only_foldl_fst, implies_true, Only.refl, Nat.reduceOr]; done)
  | ((try dsimp only); (repeat' split) <;> simp only [State.apply1_only, State.leaveNor_only, State.modJrn_only, State.notePlan_only, State.report_only, State.setFld_only, only_ite, only_ite_fst, ite_self, only_foldl, only_foldl_fst, implies_true, Only.refl, Nat.reduceOr]; done)
  | ((try dsimp only); (repeat' split) <;> simp; done)
  | (simp (disch := (intros; (repeat' split) <;> (try simp_all only [State.apply1_only, State.leaveNor_only, State.modJrn_only, State.notePlan_only, State.report_only, State.setFld_only, only_ite, only_ite_fst, ite_self, only_foldl, only_foldl_fst, implies_true, Only.refl, Nat.reduceOr]) <;> (try simp_all))); done)
  | ((try dsimp only); (repeat' split) <;> simp (disch := (intros; (repeat' split) <;> (try simp_all only [State.apply1_only, State.leaveNor_only, State.modJrn_only, State.notePlan_only, State.report_only, State.setFld_only, only_ite, only_ite_fst, ite_self, only_foldl, only_foldl_fst, implies_true, Only.refl, Nat.reduceOr]) <;> (try simp_all))); done)

end Sys2Proof.Machine
end

