-- ==== Sys2Proof/Laws/OnlyJobs.lean ====
section
/-! SUPPORT. Laws/OnlyJobs.lean: the pieces of the state that the operations and commands of Machine/Jobs.lean may change. -/

namespace Sys2Proof.Machine
open Sys2Proof Sys2Proof.Machine.Reg

set_option linter.all false
set_option Elab.async false

@[simp] theorem State.modPat_only (s : State) (f : Pat → Pat) (u : State) {m' : Nat} (hm' : 131072 ||| m' = m' := by decide) : Only m' u (State.modPat s f) ↔ Only m' u s := by
  refine Only.lift hm' fun u => ?_
  clear hm'
  unfold State.modPat
  simp only [only_pat, Only.refl, Nat.reduceOr]

@[simp] theorem State.patEvent_only (s : State) (b : Nat) (u : State) {m' : Nat} (hm' : 4609 ||| m' = m' := by decide) : Only m' u (State.patEvent s b) ↔ Only m' u s := by
  refine Only.lift hm' fun u => ?_
  clear hm'
  unfold State.patEvent
  simp only [State.event_only, Only.refl, Nat.reduceOr]

@[simp] theorem State.patReport_only (s : State) (b sev res job group : Nat) (u : State) {m' : Nat} (hm' : 8458753 ||| m' = m' := by decide) : Only m' u (State.patReport s b sev res job group) ↔ Only m' u s := by
  refine Only.lift hm' fun u => ?_
  clear hm'
  unfold State.patReport
  simp only [State.journal_only, State.patEvent_only, Only.refl, Nat.reduceOr]

@[simp] theorem State.modInst_only (s : State) (id : Nat) (f : Inst → Inst) (u : State) {m' : Nat} (hm' : 131072 ||| m' = m' := by decide) : Only m' u (State.modInst s id f) ↔ Only m' u s := by
  refine Only.lift hm' fun u => ?_
  clear hm'
  unfold State.modInst
  simp only [State.modPat_only, only_ite, only_ite_fst, ite_self, Only.refl, Nat.reduceOr]

@[simp] theorem State.dropInst_only (s : State) (id : Nat) (u : State) {m' : Nat} (hm' : 131072 ||| m' = m' := by decide) : Only m' u (State.dropInst s id) ↔ Only m' u s := by
  refine Only.lift hm' fun u => ?_
  clear hm'
  unfold State.dropInst
  simp only [State.modPat_only, Only.refl, Nat.reduceOr]

@[simp] theorem State.markRunning_only (s : State) (id r : Nat) (u : State) {m' : Nat} (hm' : 131072 ||| m' = m' := by decide) : Only m' u (State.markRunning s id r) ↔ Only m' u s := by
  refine Only.lift hm' fun u => ?_
  clear hm'
  unfold State.markRunning
  simp only [State.modInst_only, only_ite, only_ite_fst, ite_self, Only.refl, Nat.reduceOr]

@[simp] theorem State.noteLate_only (s : State) (id : Nat) (u : State) {m' : Nat} (hm' : 8589825 ||| m' = m' := by decide) : Only m' u (State.noteLate s id) ↔ Only m' u s := by
  refine Only.lift hm' fun u => ?_
  clear hm'
  unfold State.noteLate
  (try dsimp only); (repeat' split) <;> simp only [State.count_only, State.modInst_only, State.patReport_only, only_ite, only_ite_fst, ite_self, Only.refl, Nat.reduceOr]

@[simp] theorem State.putFloor_only (s : State) (n v : Nat) (u : State) {m' : Nat} (hm' : 1 ||| m' = m' := by decide) : Only m' u (State.putFloor s n v) ↔ Only m' u s := by
  refine Only.lift hm' fun u => ?_
  clear hm'
  unfold State.putFloor
  first
  | (simp only [State.setFld_only, State.setReg_only, only_ite, only_ite_fst, ite_self, only_foldl, only_foldl_fst, implies_true, Only.refl, Nat.reduceOr]; done)
  | ((try dsimp only); (repeat' split) <;> simp only [State.setFld_only, State.setReg_only, only_ite, only_ite_fst, ite_self, only_foldl, only_foldl_fst, implies_true, Only.refl, Nat.reduceOr]; done)
  | ((try dsimp only); (repeat' split) <;> simp; done)
  | (simp (disch := (intros; (repeat' split) <;> (try simp_all only [State.setFld_only, State.setReg_only, only_ite, only_ite_fst, ite_self, only_foldl, only_foldl_fst, implies_true, Only.refl, Nat.reduceOr]) <;> (try simp_all))); done)
  | ((try dsimp only); (repeat' split) <;> simp (disch := (intros; (repeat' split) <;> (try simp_all only [State.setFld_only, State.setReg_only, only_ite, only_ite_fst, ite_self, only_foldl, only_foldl_fst, implies_true, Only.refl, Nat.reduceOr]) <;> (try simp_all))); done)

@[simp] theorem State.setFloor_only (s : State) (n v : Nat) (u : State) {m' : Nat} (hm' : 131073 ||| m' = m' := by decide) : Only m' u (State.setFloor s n v) ↔ Only m' u s := by
  refine Only.lift hm' fun u => ?_
  clear hm'
  unfold State.setFloor
  first
  | (simp only [State.modPat_only, State.putFloor_only, only_ite, only_ite_fst, ite_self, only_foldl, only_foldl_fst, implies_true, Only.refl, Nat.reduceOr]; done)
  | ((try dsimp only); (repeat' split) <;> simp only [State.modPat_only, State.putFloor_only, only_ite, only_ite_fst, ite_self, only_foldl, only_foldl_fst, implies_true, Only.refl, Nat.reduceOr]; done)
  | ((try dsimp only); (repeat' split) <;> simp; done)
  | (simp (disch := (intros; (repeat' split) <;> (try simp_all only [State.modPat_only, State.putFloor_only, only_ite, only_ite_fst, ite_self, only_foldl, only_foldl_fst, implies_true, Only.refl, Nat.reduceOr]) <;> (try simp_all))); done)
  | ((try dsimp only); (repeat' split) <;> simp (disch := (intros; (repeat' split) <;> (try simp_all only [State.modPat_only, State.putFloor_only, only_ite, only_ite_fst, ite_self, only_foldl, only_foldl_fst, implies_true, Only.refl, Nat.reduceOr]) <;> (try simp_all))); done)

@[simp] theorem State.inheritFloor_only (s : State) (gen t r : Nat) (u : State) {m' : Nat} (hm' : 131073 ||| m' = m' := by decide) : Only m' u (State.inheritFloor s gen t r) ↔ Only m' u s := by
  refine Only.lift hm' fun u => ?_
  clear hm'
  unfold State.inheritFloor
  first
  | (simp only [State.modPat_only, State.putFloor_only, State.setFloor_only, only_ite, only_ite_fst, ite_self, only_foldl, only_foldl_fst, implies_true, Only.refl, Nat.reduceOr]; done)
  | ((try dsimp only); (repeat' split) <;> simp only [State.modPat_only, State.putFloor_only, State.setFloor_only, only_ite, only_ite_fst, ite_self, only_foldl, only_foldl_fst, implies_true, Only.refl, Nat.reduceOr]; done)
  | ((try dsimp only); (repeat' split) <;> simp; done)
  | (simp (disch := (intros; (repeat' split) <;> (try simp_all only [State.modPat_only, State.putFloor_only, State.setFloor_only, only_ite, only_ite_fst, ite_self, only_foldl, only_foldl_fst, implies_true, Only.refl, Nat.reduceOr]) <;> (try simp_all))); done)
  | ((try dsimp only); (repeat' split) <;> simp (disch := (intros; (repeat' split) <;> (try simp_all only [State.modPat_only, State.putFloor_only, State.setFloor_only, only_ite, only_ite_fst, ite_self, only_foldl, only_foldl_fst, implies_true, Only.refl, Nat.reduceOr]) <;> (try simp_all))); done)

@[simp] theorem State.dropDrains_only (s : State) (u : State) {m' : Nat} (hm' : 131073 ||| m' = m' := by decide) : Only m' u (State.dropDrains s) ↔ Only m' u s := by
  refine Only.lift hm' fun u => ?_
  clear hm'
  unfold State.dropDrains
  first
  | (simp only [State.modPat_only, State.putFloor_only, only_ite, only_ite_fst, ite_self, only_foldl, only_foldl_fst, implies_true, Only.refl, Nat.reduceOr]; done)
  | ((try dsimp only); (repeat' split) <;> simp only [State.modPat_only, State.putFloor_only, only_ite, only_ite_fst, ite_self, only_foldl, only_foldl_fst, implies_true, Only.refl, Nat.reduceOr]; done)
  | ((try dsimp only); (repeat' split) <;> simp; done)
  | (simp (disch := (intros; (repeat' split) <;> (try simp_all only [State.modPat_only, State.putFloor_only, only_ite, only_ite_fst, ite_self, only_foldl, only_foldl_fst, implies_true, Only.refl, Nat.reduceOr]) <;> (try simp_all))); done)
  | ((try dsimp only); (repeat' split) <;> simp (disch := (intros; (repeat' split) <;> (try simp_all only [State.modPat_only, State.putFloor_only, only_ite, only_ite_fst, ite_self, only_foldl, only_foldl_fst, implies_true, Only.refl, Nat.reduceOr]) <;> (try simp_all))); done)

@[simp] theorem State.dropDraining_only (s : State) (u : State) {m' : Nat} (hm' : 131073 ||| m' = m' := by decide) : Only m' u (State.dropDraining s) ↔ Only m' u s := by
  refine Only.lift hm' fun u => ?_
  clear hm'
  unfold State.dropDraining
  first
  | (simp only [State.modPat_only, State.setFloor_only, only_ite, only_ite_fst, ite_self, only_foldl, only_foldl_fst, implies_true, Only.refl, Nat.reduceOr]; done)
  | ((try dsimp only); (repeat' split) <;> simp only [State.modPat_only, State.setFloor_only, only_ite, only_ite_fst, ite_self, only_foldl, only_foldl_fst, implies_true, Only.refl, Nat.reduceOr]; done)
  | ((try dsimp only); (repeat' split) <;> simp; done)
  | (simp (disch := (intros; (repeat' split) <;> (try simp_all only [State.modPat_only, State.setFloor_only, only_ite, only_ite_fst, ite_self, only_foldl, only_foldl_fst, implies_true, Only.refl, Nat.reduceOr]) <;> (try simp_all))); done)
  | ((try dsimp only); (repeat' split) <;> simp (disch := (intros; (repeat' split) <;> (try simp_all only [State.modPat_only, State.setFloor_only, only_ite, only_ite_fst, ite_self, only_foldl, only_foldl_fst, implies_true, Only.refl, Nat.reduceOr]) <;> (try simp_all))); done)

@[simp] theorem State.releasePattern_only (s : State) (u : State) {m' : Nat} (hm' : 8599041 ||| m' = m' := by decide) : Only m' u (State.releasePattern s) ↔ Only m' u s := by
  refine Only.lift hm' fun u => ?_
  clear hm'
  unfold State.releasePattern
  first
  | (simp (disch := (intros; (repeat' split) <;> (try simp_all only [State.deactivate_only, State.dropDraining_only, State.dropDrains_only, State.setFld_only, State.settle_only, only_ite, only_ite_fst, ite_self, only_foldl, only_foldl_fst, implies_true, Only.refl, Nat.reduceOr]) <;> (try simp_all))); done)
  | (simp only [State.deactivate_only, State.dropDraining_only, State.dropDrains_only, State.setFld_only, State.settle_only, only_ite, only_ite_fst, ite_self, only_foldl, only_foldl_fst, implies_true, Only.refl, Nat.reduceOr]; done)
  | ((try dsimp only); (repeat' split) <;> simp only [State.deactivate_only, State.dropDraining_only, State.dropDrains_only, State.setFld_only, State.settle_only, only_ite, only_ite_fst, ite_self, only_foldl, only_foldl_fst, implies_true, Only.refl, Nat.reduceOr]; done)
  | ((try dsimp only); (repeat' split) <;> simp; done)
  | ((try dsimp only); (repeat' split) <;> simp (disch := (intros; (repeat' split) <;> (try simp_all only [State.deactivate_only, State.dropDraining_only, State.dropDrains_only, State.setFld_only, State.settle_only, only_ite, only_ite_fst, ite_self, only_foldl, only_foldl_fst, implies_true, Only.refl, Nat.reduceOr]) <;> (try simp_all))); done)

@[simp] theorem State.postJob_only (s : State) (i : Inst) (code : Nat) (src : Nat) (u : State) {m' : Nat} (hm' : 8475137 ||| m' = m' := by decide) : Only m' u (State.postJob s i code src) ↔ Only m' u s := by
  refine Only.lift hm' fun u => ?_
  clear hm'
  unfold State.postJob
  first
  | (simp only [State.post_only, only_ite, only_ite_fst, ite_self, only_foldl, only_foldl_fst, implies_true, Only.refl, Nat.reduceOr]; done)
  | ((try dsimp only); (repeat' split) <;> simp only [State.post_only, only_ite, only_ite_fst, ite_self, only_foldl, only_foldl_fst, implies_true, Only.refl, Nat.reduceOr]; done)
  | ((try dsimp only); (repeat' split) <;> simp; done)
  | (simp (disch := (intros; (repeat' split) <;> (try simp_all only [State.post_only, only_ite, only_ite_fst, ite_self, only_foldl, only_foldl_fst, implies_true, Only.refl, Nat.reduceOr]) <;> (try simp_all))); done)
  | ((try dsimp only); (repeat' split) <;> simp (disch := (intros; (repeat' split) <;> (try simp_all only [State.post_only, only_ite, only_ite_fst, ite_self, only_foldl, only_foldl_fst, implies_true, Only.refl, Nat.reduceOr]) <;> (try simp_all))); done)

@[simp] theorem State.endPart_only (s : State) (id r code user cycles : Nat) (u : State) {m' : Nat} (hm' : 8615425 ||| m' = m' := by decide) : Only m' u (State.endPart s id r code user cycles) ↔ Only m' u s := by
  refine Only.lift hm' fun u => ?_
  clear hm'
  unfold State.endPart
  (try dsimp only); (repeat' split) <;> simp only [State.draw_only, State.dropInst_only, State.modInst_only, State.postJob_only, State.releasePattern_only, only_ite, only_ite_fst, ite_self, Only.refl, Nat.reduceOr]

@[simp] theorem State.countAbort_only (s : State) (u : State) {m' : Nat} (hm' : 1 ||| m' = m' := by decide) : Only m' u (State.countAbort s) ↔ Only m' u s := by
  refine Only.lift hm' fun u => ?_
  clear hm'
  unfold State.countAbort
  simp only [State.count_only, Only.refl, Nat.reduceOr]

@[simp] theorem State.noteReissue_only (s : State) (i : Inst) (r t cause : Nat) (u : State) {m' : Nat} (hm' : 8606209 ||| m' = m' := by decide) : Only m' u (State.noteReissue s i r t cause) ↔ Only m' u s := by
  refine Only.lift hm' fun u => ?_
  clear hm'
  unfold State.noteReissue
  first
  | (simp only [State.health_only, State.inheritFloor_only, State.report_only, only_ite, only_ite_fst, ite_self, only_foldl, only_foldl_fst, implies_true, Only.refl, Nat.reduceOr]; done)
  | ((try dsimp only); (repeat' split) <;> simp only [State.health_only, State.inheritFloor_only, State.report_only, only_ite, only_ite_fst, ite_self, only_foldl, only_foldl_fst, implies_true, Only.refl, Nat.reduceOr]; done)
  | ((try dsimp only); (repeat' split) <;> simp; done)
  | (simp (disch := (intros; (repeat' split) <;> (try simp_all only [State.health_only, State.inheritFloor_only, State.report_only, only_ite, only_ite_fst, ite_self, only_foldl, only_foldl_fst, implies_true, Only.refl, Nat.reduceOr]) <;> (try simp_all))); done)
  | ((try dsimp only); (repeat' split) <;> simp (disch := (intros; (repeat' split) <;> (try simp_all only [State.health_only, State.inheritFloor_only, State.report_only, only_ite, only_ite_fst, ite_self, only_foldl, only_foldl_fst, implies_true, Only.refl, Nat.reduceOr]) <;> (try simp_all))); done)

@[simp] theorem State.loseOrReissue_only (s : State) (id r code cause : Nat) (may : Bool) (user cycles : Nat) (u : State) {m' : Nat} (hm' : 8615425 ||| m' = m' := by decide) : Only m' u (State.loseOrReissue s id r code cause may user cycles) ↔ Only m' u s := by
  refine Only.lift hm' fun u => ?_
  clear hm'
  unfold State.loseOrReissue
  (try dsimp only); (repeat' split) <;> simp only [State.endPart_only, State.modInst_only, State.noteReissue_only, only_ite, only_ite_fst, ite_self, Only.refl, Nat.reduceOr]

end Sys2Proof.Machine
end

