-- ==== Sys2Proof/Laws/OnlyMarkers.lean ====
section
/-! SUPPORT. Laws/OnlyMarkers.lean: the pieces of the state that the operations and commands of Machine/Markers.lean may change. -/

namespace Sys2Proof.Machine
open Sys2Proof Sys2Proof.Machine.Reg

set_option linter.all false
set_option Elab.async false

@[simp] theorem State.modMesh_only (s : State) (f : Mesh → Mesh) (u : State) {m' : Nat} (hm' : 262144 ||| m' = m' := by decide) : Only m' u (State.modMesh s f) ↔ Only m' u s := by
  refine Only.lift hm' fun u => ?_
  clear hm'
  unfold State.modMesh
  simp only [only_mesh, Only.refl, Nat.reduceOr]

@[simp] theorem State.modSlot_only (s : State) (n t : Nat) (f : Slot → Slot) (u : State) {m' : Nat} (hm' : 524288 ||| m' = m' := by decide) : Only m' u (State.modSlot s n t f) ↔ Only m' u s := by
  refine Only.lift hm' fun u => ?_
  clear hm'
  unfold State.modSlot
  simp only [State.modCore_only, Only.refl, Nat.reduceOr]

@[simp] theorem State.noteTrk_only (s : State) (n : Nat) (u : State) {m' : Nat} (hm' : 1 ||| m' = m' := by decide) : Only m' u (State.noteTrk s n) ↔ Only m' u s := by
  refine Only.lift hm' fun u => ?_
  clear hm'
  unfold State.noteTrk
  simp only [State.setFld_only, only_ite, only_ite_fst, ite_self, Only.refl, Nat.reduceOr]

@[simp] theorem State.sendNext_only (s : State) (u : State) {m' : Nat} (hm' : 262144 ||| m' = m' := by decide) : Only m' u (State.sendNext s) ↔ Only m' u s := by
  refine Only.lift hm' fun u => ?_
  clear hm'
  unfold State.sendNext
  first
  | (simp only [State.modMesh_only, only_ite, only_ite_fst, ite_self, only_foldl, only_foldl_fst, implies_true, Only.refl, Nat.reduceOr]; done)
  | ((try dsimp only); (repeat' split) <;> simp only [State.modMesh_only, only_ite, only_ite_fst, ite_self, only_foldl, only_foldl_fst, implies_true, Only.refl, Nat.reduceOr]; done)
  | ((try dsimp only); (repeat' split) <;> simp; done)
  | (simp (disch := (intros; (repeat' split) <;> (try simp_all only [State.modMesh_only, only_ite, only_ite_fst, ite_self, only_foldl, only_foldl_fst, implies_true, Only.refl, Nat.reduceOr]) <;> (try simp_all))); done)
  | ((try dsimp only); (repeat' split) <;> simp (disch := (intros; (repeat' split) <;> (try simp_all only [State.modMesh_only, only_ite, only_ite_fst, ite_self, only_foldl, only_foldl_fst, implies_true, Only.refl, Nat.reduceOr]) <;> (try simp_all))); done)

@[simp] theorem State.answer_only (s : State) (n t st v o : Nat) (u : State) {m' : Nat} (hm' : 786432 ||| m' = m' := by decide) : Only m' u (State.answer s n t st v o) ↔ Only m' u s := by
  refine Only.lift hm' fun u => ?_
  clear hm'
  unfold State.answer
  first
  | (simp only [State.modSlot_only, State.sendNext_only, only_ite, only_ite_fst, ite_self, only_foldl, only_foldl_fst, implies_true, Only.refl, Nat.reduceOr]; done)
  | ((try dsimp only); (repeat' split) <;> simp only [State.modSlot_only, State.sendNext_only, only_ite, only_ite_fst, ite_self, only_foldl, only_foldl_fst, implies_true, Only.refl, Nat.reduceOr]; done)
  | ((try dsimp only); (repeat' split) <;> simp; done)
  | (simp (disch := (intros; (repeat' split) <;> (try simp_all only [State.modSlot_only, State.sendNext_only, only_ite, only_ite_fst, ite_self, only_foldl, only_foldl_fst, implies_true, Only.refl, Nat.reduceOr]) <;> (try simp_all))); done)
  | ((try dsimp only); (repeat' split) <;> simp (disch := (intros; (repeat' split) <;> (try simp_all only [State.modSlot_only, State.sendNext_only, only_ite, only_ite_fst, ite_self, only_foldl, only_foldl_fst, implies_true, Only.refl, Nat.reduceOr]) <;> (try simp_all))); done)

@[simp] theorem State.strayAs_only (s : State) (src dst cls q : Nat) (c : Cargo) (u : State) {m' : Nat} (hm' : 262144 ||| m' = m' := by decide) : Only m' u (State.strayAs s src dst cls q c) ↔ Only m' u s := by
  refine Only.lift hm' fun u => ?_
  clear hm'
  unfold State.strayAs
  first
  | (simp only [State.modMesh_only, only_ite, only_ite_fst, ite_self, only_foldl, only_foldl_fst, implies_true, Only.refl, Nat.reduceOr]; done)
  | ((try dsimp only); (repeat' split) <;> simp only [State.modMesh_only, only_ite, only_ite_fst, ite_self, only_foldl, only_foldl_fst, implies_true, Only.refl, Nat.reduceOr]; done)
  | ((try dsimp only); (repeat' split) <;> simp; done)
  | (simp (disch := (intros; (repeat' split) <;> (try simp_all only [State.modMesh_only, only_ite, only_ite_fst, ite_self, only_foldl, only_foldl_fst, implies_true, Only.refl, Nat.reduceOr]) <;> (try simp_all))); done)
  | ((try dsimp only); (repeat' split) <;> simp (disch := (intros; (repeat' split) <;> (try simp_all only [State.modMesh_only, only_ite, only_ite_fst, ite_self, only_foldl, only_foldl_fst, implies_true, Only.refl, Nat.reduceOr]) <;> (try simp_all))); done)

@[simp] theorem State.putStray_only (s : State) (src dst cls : Nat) (c : Cargo) (u : State) {m' : Nat} (hm' : 262144 ||| m' = m' := by decide) : Only m' u (State.putStray s src dst cls c) ↔ Only m' u s := by
  refine Only.lift hm' fun u => ?_
  clear hm'
  unfold State.putStray
  first
  | (simp only [State.sendNext_only, State.strayAs_only, only_ite, only_ite_fst, ite_self, only_foldl, only_foldl_fst, implies_true, Only.refl, Nat.reduceOr]; done)
  | ((try dsimp only); (repeat' split) <;> simp only [State.sendNext_only, State.strayAs_only, only_ite, only_ite_fst, ite_self, only_foldl, only_foldl_fst, implies_true, Only.refl, Nat.reduceOr]; done)
  | ((try dsimp only); (repeat' split) <;> simp; done)
  | (simp (disch := (intros; (repeat' split) <;> (try simp_all only [State.sendNext_only, State.strayAs_only, only_ite, only_ite_fst, ite_self, only_foldl, only_foldl_fst, implies_true, Only.refl, Nat.reduceOr]) <;> (try simp_all))); done)
  | ((try dsimp only); (repeat' split) <;> simp (disch := (intros; (repeat' split) <;> (try simp_all only [State.sendNext_only, State.strayAs_only, only_ite, only_ite_fst, ite_self, only_foldl, only_foldl_fst, implies_true, Only.refl, Nat.reduceOr]) <;> (try simp_all))); done)

@[simp] theorem State.setMval_only (s : State) (k v : Nat) (u : State) {m' : Nat} (hm' : 1 ||| m' = m' := by decide) : Only m' u (State.setMval s k v) ↔ Only m' u s := by
  refine Only.lift hm' fun u => ?_
  clear hm'
  unfold State.setMval
  simp only [State.setRegN_only, Only.refl, Nat.reduceOr]

@[simp] theorem State.mrkReport_only (s : State) (b sev k data : Nat) (u : State) {m' : Nat} (hm' : 8458753 ||| m' = m' := by decide) : Only m' u (State.mrkReport s b sev k data) ↔ Only m' u s := by
  refine Only.lift hm' fun u => ?_
  clear hm'
  unfold State.mrkReport
  simp only [State.report_only, Only.refl, Nat.reduceOr]

@[simp] theorem State.addMval_only (s : State) (k n : Nat) (u : State) {m' : Nat} (hm' : 8458753 ||| m' = m' := by decide) : Only m' u (State.addMval s k n) ↔ Only m' u s := by
  refine Only.lift hm' fun u => ?_
  clear hm'
  unfold State.addMval
  simp only [State.mrkReport_only, State.setFld_only, State.setMval_only, only_ite, only_ite_fst, ite_self, Only.refl, Nat.reduceOr]

@[simp] theorem State.setOwner_only (s : State) (k o : Nat) (u : State) {m' : Nat} (hm' : 262145 ||| m' = m' := by decide) : Only m' u (State.setOwner s k o) ↔ Only m' u s := by
  refine Only.lift hm' fun u => ?_
  clear hm'
  unfold State.setOwner
  simp only [State.modMesh_only, State.setFld_only, only_ite, only_ite_fst, ite_self, only_foldl, only_foldl_fst, implies_true, Only.refl, Nat.reduceOr]

@[simp] theorem State.noteWaiters_only (s : State) (k : Nat) (u : State) {m' : Nat} (hm' : 1 ||| m' = m' := by decide) : Only m' u (State.noteWaiters s k) ↔ Only m' u s := by
  refine Only.lift hm' fun u => ?_
  clear hm'
  unfold State.noteWaiters
  simp only [State.setFld_only, Only.refl, Nat.reduceOr]

theorem State.tryWaiting_only (s : State) (k op arg node : Nat) : ∀ t, State.tryWaiting s k op arg node = some t → Only 262145 s t := by
  unfold State.tryWaiting
  intro t h
  (repeat' split at h) <;> simp at h <;> subst h <;> simp

@[simp] theorem State.visitAll_only (k : Nat) (x : List Waiter) (y : Bool) (s : State) (u : State) {m' : Nat} (hm' : 786433 ||| m' = m' := by decide) : Only m' u (State.visitAll k x y s) ↔ Only m' u s := by
  refine Only.lift hm' fun u => ?_
  clear hm'
  induction x generalizing y s with
  | nil => simp [State.visitAll]
  | cons w t ih =>
    unfold State.visitAll
    split
    · exact ih ..
    · split
      · rename_i h; rw [ih]; have := Only.iff (m := 786433) (u := u) (by decide) (State.tryWaiting_only _ _ _ _ _ _ h); simp [this]
      · exact ih ..

@[simp] theorem State.visit_only (s : State) (k : Nat) (u : State) {m' : Nat} (hm' : 786433 ||| m' = m' := by decide) : Only m' u (State.visit s k) ↔ Only m' u s := by
  refine Only.lift hm' fun u => ?_
  clear hm'
  unfold State.visit
  simp only [State.noteWaiters_only, State.visitAll_only, Only.refl, Nat.reduceOr]

@[simp] theorem State.endWaiters_only (s : State) (k st : Nat) (u : State) {m' : Nat} (hm' : 786433 ||| m' = m' := by decide) : Only m' u (State.endWaiters s k st) ↔ Only m' u s := by
  refine Only.lift hm' fun u => ?_
  clear hm'
  unfold State.endWaiters
  simp only [State.answer_only, State.modMesh_only, State.noteWaiters_only, only_foldl, only_foldl_fst, implies_true, Only.refl, Nat.reduceOr]

@[simp] theorem State.plainOp_only (s : State) (k op arg node : Nat) (u : State) {m' : Nat} (hm' : 9245185 ||| m' = m' := by decide) : Only m' u (State.plainOp s k op arg node).1 ↔ Only m' u s := by
  refine Only.lift hm' fun u => ?_
  clear hm'
  unfold State.plainOp
  (repeat' split) <;> simp

@[simp] theorem State.endHop_only (s : State) (h : Hop) (st : Nat) (u : State) {m' : Nat} (hm' : 262145 ||| m' = m' := by decide) : Only m' u (State.endHop s h st) ↔ Only m' u s := by
  refine Only.lift hm' fun u => ?_
  clear hm'
  unfold State.endHop
  simp only [State.modMesh_only, State.setReg_only, Only.refl, Nat.reduceOr]

@[simp] theorem State.markerArrive_only (s : State) (op src tag : Nat) (u : State) {m' : Nat} (hm' : 9245185 ||| m' = m' := by decide) : Only m' u (State.markerArrive s op src tag) ↔ Only m' u s := by
  refine Only.lift hm' fun u => ?_
  clear hm'
  unfold State.markerArrive
  dsimp only
  (repeat' split) <;> simp_all
  all_goals (rename_i h; first | exact Only.iff (by decide) (State.tryWaiting_only _ _ _ _ _ _ h.2) | exact Only.iff (by decide) (State.tryWaiting_only _ _ _ _ _ _ h))

theorem outs_onIssuer {P : State → Prop} {src tag : Nat} {o : Out} (h : Outs P o) : Outs P (onIssuer src tag o) := by
  unfold onIssuer
  (repeat' split)
  · exact outs_onUnit h
  · exact h
  · simp

theorem execMarkerRead_only (src tag : Nat) (s : State) : Outs (Only 9245185 s) (execMarkerRead src tag s) := by
  exact outs_onIssuer (by simp)

theorem execMarkerSet_only (src tag : Nat) (s : State) : Outs (Only 9245185 s) (execMarkerSet src tag s) := by
  exact outs_onIssuer (by simp)

theorem execMarkerAdd_only (src tag : Nat) (s : State) : Outs (Only 9245185 s) (execMarkerAdd src tag s) := by
  exact outs_onIssuer (by simp)

theorem execMarkerTake_only (src tag : Nat) (s : State) : Outs (Only 9245185 s) (execMarkerTake src tag s) := by
  exact outs_onIssuer (by simp)

theorem execMarkerWaitge_only (src tag : Nat) (s : State) : Outs (Only 9245185 s) (execMarkerWaitge src tag s) := by
  exact outs_onIssuer (by simp)

theorem execMarkerAcquire_only (src tag : Nat) (s : State) : Outs (Only 9245185 s) (execMarkerAcquire src tag s) := by
  exact outs_onIssuer (by simp)

theorem execMarkerRelease_only (src tag : Nat) (s : State) : Outs (Only 9245185 s) (execMarkerRelease src tag s) := by
  exact outs_onIssuer (by simp)

theorem execMarkerReset_only (src tag : Nat) (s : State) : Outs (Only 9245185 s) (execMarkerReset src tag s) := by
  exact outs_onIssuer (by simp)

@[simp] theorem State.landMark_only (s : State) (node k op arg : Nat) (u : State) {m' : Nat} (hm' : 9245185 ||| m' = m' := by decide) : Only m' u (State.landMark s node k op arg) ↔ Only m' u s := by
  refine Only.lift hm' fun u => ?_
  clear hm'
  unfold State.landMark
  have h : Only 9245185 u ((s.tryWaiting k 3 arg node).getD s) ↔ Only 9245185 u s := by
    cases e : s.tryWaiting k 3 arg node with
    | none => exact Iff.rfl
    | some t => exact Only.iff (by decide) (State.tryWaiting_only _ _ _ _ _ _ e)
  simp only [State.plainOp_only, only_ite, ite_self, h, Nat.reduceOr]

@[simp] theorem State.blockAdd_only (s : State) (src k n : Nat) (u : State) {m' : Nat} (hm' : 9245185 ||| m' = m' := by decide) : Only m' u (State.blockAdd s src k n) ↔ Only m' u s := by
  refine Only.lift hm' fun u => ?_
  clear hm'
  unfold State.blockAdd
  first
  | (simp only [State.landMark_only, State.putStray_only, only_ite, only_ite_fst, ite_self, only_foldl, only_foldl_fst, implies_true, Only.refl, Nat.reduceOr]; done)
  | ((try dsimp only); (repeat' split) <;> simp only [State.landMark_only, State.putStray_only, only_ite, only_ite_fst, ite_self, only_foldl, only_foldl_fst, implies_true, Only.refl, Nat.reduceOr]; done)
  | ((try dsimp only); (repeat' split) <;> simp; done)
  | (simp (disch := (intros; (repeat' split) <;> (try simp_all only [State.landMark_only, State.putStray_only, only_ite, only_ite_fst, ite_self, only_foldl, only_foldl_fst, implies_true, Only.refl, Nat.reduceOr]) <;> (try simp_all))); done)
  | ((try dsimp only); (repeat' split) <;> simp (disch := (intros; (repeat' split) <;> (try simp_all only [State.landMark_only, State.putStray_only, only_ite, only_ite_fst, ite_self, only_foldl, only_foldl_fst, implies_true, Only.refl, Nat.reduceOr]) <;> (try simp_all))); done)

theorem execMarkerWaitTimeout_only (node tag : Nat) (s : State) : Outs (Only 786433 s) (execMarkerWaitTimeout node tag s) := by
  unfold execMarkerWaitTimeout
  (repeat apply outs_onUnit); dsimp only; (repeat' split) <;> simp only [State.answer_only, State.count_only, State.modMesh_only, State.visit_only, only_ite, only_ite_fst, ite_self, Only.refl, Nat.reduceOr, outs_next, outs_fault, outs_refused, outs_ite, implies_true]

@[simp] theorem State.takeAway_only (s : State) (k cause : Nat) (u : State) {m' : Nat} (hm' : 9245185 ||| m' = m' := by decide) : Only m' u (State.takeAway s k cause) ↔ Only m' u s := by
  refine Only.lift hm' fun u => ?_
  clear hm'
  unfold State.takeAway
  simp only [State.count_only, State.mrkReport_only, State.setOwner_only, State.visit_only, only_ite, only_ite_fst, ite_self, Only.refl, Nat.reduceOr]

theorem execLeaseExpiry_only (k : Nat) (s : State) : Outs (Only 9245185 s) (execLeaseExpiry k s) := by
  unfold execLeaseExpiry
  (repeat apply outs_onUnit); (try dsimp only); (repeat' split) <;> simp_all only [State.takeAway_only, only_ite, only_ite_fst, ite_self, Only.refl, Nat.reduceOr, outs_next, outs_fault, outs_refused, outs_ite, implies_true]

@[simp] theorem State.releaseMarkers_only (s : State) (node cause : Nat) (u : State) {m' : Nat} (hm' : 9245185 ||| m' = m' := by decide) : Only m' u (State.releaseMarkers s node cause) ↔ Only m' u s := by
  refine Only.lift hm' fun u => ?_
  clear hm'
  unfold State.releaseMarkers
  simp only [State.modMesh_only, State.takeAway_only, State.visit_only, only_foldl, only_foldl_fst, implies_true, Only.refl, Nat.reduceOr]

@[simp] theorem State.freezeLeases_only (s : State) (n : Nat) (on : Bool) (u : State) {m' : Nat} (hm' : 262145 ||| m' = m' := by decide) : Only m' u (State.freezeLeases s n on) ↔ Only m' u s := by
  refine Only.lift hm' fun u => ?_
  clear hm'
  unfold State.freezeLeases
  simp only [State.modMesh_only, State.setFld_only, only_ite, only_ite_fst, ite_self, only_foldl, only_foldl_fst, implies_true, Only.refl, Nat.reduceOr]

@[simp] theorem State.hopCmd_only (s : State) (rq : Requester) (v : Nat) (u : State) {m' : Nat} (hm' : 262145 ||| m' = m' := by decide) : Only m' u (State.hopCmd s rq v) ↔ Only m' u s := by
  refine Only.lift hm' fun u => ?_
  clear hm'
  unfold State.hopCmd
  first
  | (simp only [State.modMesh_only, State.setReg_only, only_ite, only_ite_fst, ite_self, only_foldl, only_foldl_fst, implies_true, Only.refl, Nat.reduceOr]; done)
  | ((try dsimp only); (repeat' split) <;> simp only [State.modMesh_only, State.setReg_only, only_ite, only_ite_fst, ite_self, only_foldl, only_foldl_fst, implies_true, Only.refl, Nat.reduceOr]; done)
  | ((try dsimp only); (repeat' split) <;> simp; done)
  | (simp (disch := (intros; (repeat' split) <;> (try simp_all only [State.modMesh_only, State.setReg_only, only_ite, only_ite_fst, ite_self, only_foldl, only_foldl_fst, implies_true, Only.refl, Nat.reduceOr]) <;> (try simp_all))); done)
  | ((try dsimp only); (repeat' split) <;> simp (disch := (intros; (repeat' split) <;> (try simp_all only [State.modMesh_only, State.setReg_only, only_ite, only_ite_fst, ite_self, only_foldl, only_foldl_fst, implies_true, Only.refl, Nat.reduceOr]) <;> (try simp_all))); done)

@[simp] theorem State.loseMarkers_only (s : State) (d : Nat) (u : State) {m' : Nat} (hm' : 786433 ||| m' = m' := by decide) : Only m' u (State.loseMarkers s d) ↔ Only m' u s := by
  refine Only.lift hm' fun u => ?_
  clear hm'
  unfold State.loseMarkers
  dsimp only
  rw [only_foldl, only_foldl, State.modMesh_only]
  · intro v n; split
    · simp
    · exact Only.refl _ _
  · intro v n
    refine (only_foldl fun w t => ?_).2 (Only.refl _ _)
    (repeat' split) <;> first | exact Only.refl _ _ | simp

end Sys2Proof.Machine
end

