-- ==== Sys2Proof/Laws/OnlyStores.lean ====
section
/-! SUPPORT. Laws/OnlyStores.lean: the pieces of the state that the operations and commands of Machine/Stores.lean may change. -/

namespace Sys2Proof.Machine
open Sys2Proof Sys2Proof.Machine.Reg

set_option linter.all false
set_option Elab.async false

@[simp] theorem State.modEngine_only (s : State) (k : Nat) (f : Engine → Engine) (u : State) {m' : Nat} (hm' : 2097152 ||| m' = m' := by decide) : Only m' u (State.modEngine s k f) ↔ Only m' u s := by
  refine Only.lift hm' fun u => ?_
  clear hm'
  unfold State.modEngine
  simp only [only_engines, List.length_modify, List.length_set, Only.refl, Nat.reduceOr]

@[simp] theorem State.modPslot_only (s : State) (k i : Nat) (f : PSlot → PSlot) (u : State) {m' : Nat} (hm' : 2097152 ||| m' = m' := by decide) : Only m' u (State.modPslot s k i f) ↔ Only m' u s := by
  refine Only.lift hm' fun u => ?_
  clear hm'
  unfold State.modPslot
  simp only [State.modEngine_only, Only.refl, Nat.reduceOr]

@[simp] theorem State.putHub_only (s : State) (a : Nat) (bs : List Nat) (u : State) {m' : Nat} (hm' : 131136 ||| m' = m' := by decide) : Only m' u (State.putHub s a bs) ↔ Only m' u s := by
  refine Only.lift hm' fun u => ?_
  clear hm'
  unfold State.putHub
  simp only [State.modPat_only, only_hub, only_ite, only_ite_fst, ite_self, only_foldl, only_foldl_fst, implies_true, Only.refl, Nat.reduceOr]

@[simp] theorem State.meshWrite_only (s : State) (node a : Nat) (bs : List Nat) (u : State) {m' : Nat} (hm' : 655592 ||| m' = m' := by decide) : Only m' u (State.meshWrite s node a bs).1 ↔ Only m' u s := by
  refine Only.lift hm' fun u => ?_
  clear hm'
  unfold State.meshWrite
  simp only [State.putData_only, State.putHub_only, State.putLpddr_only, State.putSol_only, only_ite, only_ite_fst, ite_self, Only.refl, Nat.reduceOr]

end Sys2Proof.Machine
end

