-- ==== Sys2Proof/Laws/OnlyMesh.lean ====
section
/-! SUPPORT. Laws/OnlyMesh.lean: the pieces of the state that the operations and commands of Machine/Mesh.lean may change. -/

namespace Sys2Proof.Machine
open Sys2Proof Sys2Proof.Machine.Reg

set_option linter.all false
set_option Elab.async false

@[simp] theorem State.meshReport_only (s : State) (b sev src : Nat) (u : State) {m' : Nat} (hm' : 8458753 ||| m' = m' := by decide) : Only m' u (State.meshReport s b sev src) ↔ Only m' u s := by
  refine Only.lift hm' fun u => ?_
  clear hm'
  unfold State.meshReport
  simp only [State.report_only, Only.refl, Nat.reduceOr]

@[simp] theorem State.meshOnce_only (s : State) (b n : Nat) (u : State) {m' : Nat} (hm' : 8720897 ||| m' = m' := by decide) : Only m' u (State.meshOnce s b n) ↔ Only m' u s := by
  refine Only.lift hm' fun u => ?_
  clear hm'
  unfold State.meshOnce
  simp only [State.event_only, State.meshReport_only, State.modMesh_only, only_ite, only_ite_fst, ite_self, Only.refl, Nat.reduceOr]

@[simp] theorem State.setCredit_only (s : State) (src dst chan v : Nat) (u : State) {m' : Nat} (hm' : 262144 ||| m' = m' := by decide) : Only m' u (State.setCredit s src dst chan v) ↔ Only m' u s := by
  refine Only.lift hm' fun u => ?_
  clear hm'
  unfold State.setCredit
  simp only [State.modMesh_only, only_ite, only_ite_fst, ite_self, Only.refl, Nat.reduceOr]

@[simp] theorem State.sendCredit_only (s : State) (node src chan n : Nat) (u : State) {m' : Nat} (hm' : 262144 ||| m' = m' := by decide) : Only m' u (State.sendCredit s node src chan n) ↔ Only m' u s := by
  refine Only.lift hm' fun u => ?_
  clear hm'
  unfold State.sendCredit
  first
  | (simp only [State.modMesh_only, State.sendNext_only, only_ite, only_ite_fst, ite_self, only_foldl, only_foldl_fst, implies_true, Only.refl, Nat.reduceOr]; done)
  | ((try dsimp only); (repeat' split) <;> simp only [State.modMesh_only, State.sendNext_only, only_ite, only_ite_fst, ite_self, only_foldl, only_foldl_fst, implies_true, Only.refl, Nat.reduceOr]; done)
  | ((try dsimp only); (repeat' split) <;> simp; done)
  | (simp (disch := (intros; (repeat' split) <;> (try simp_all only [State.modMesh_only, State.sendNext_only, only_ite, only_ite_fst, ite_self, only_foldl, only_foldl_fst, implies_true, Only.refl, Nat.reduceOr]) <;> (try simp_all))); done)
  | ((try dsimp only); (repeat' split) <;> simp (disch := (intros; (repeat' split) <;> (try simp_all only [State.modMesh_only, State.sendNext_only, only_ite, only_ite_fst, ite_self, only_foldl, only_foldl_fst, implies_true, Only.refl, Nat.reduceOr]) <;> (try simp_all))); done)

@[simp] theorem State.giveCredit_only (s : State) (node src chan n : Nat) (u : State) {m' : Nat} (hm' : 262144 ||| m' = m' := by decide) : Only m' u (State.giveCredit s node src chan n) ↔ Only m' u s := by
  refine Only.lift hm' fun u => ?_
  clear hm'
  unfold State.giveCredit
  simp only [State.sendCredit_only, only_ite, only_ite_fst, ite_self, Only.refl, Nat.reduceOr]

@[simp] theorem State.takeCredit_only (s : State) (n node : Nat) (u : State) {m' : Nat} (hm' : 262144 ||| m' = m' := by decide) : Only m' u (State.takeCredit s n node) ↔ Only m' u s := by
  refine Only.lift hm' fun u => ?_
  clear hm'
  unfold State.takeCredit
  first
  | ((try dsimp only); (repeat' split) <;> simp only [State.modMesh_only, State.setCredit_only, only_ite, only_ite_fst, ite_self, only_foldl, only_foldl_fst, implies_true, Only.refl, Nat.reduceOr]; done)
  | (simp only [State.modMesh_only, State.setCredit_only, only_ite, only_ite_fst, ite_self, only_foldl, only_foldl_fst, implies_true, Only.refl, Nat.reduceOr]; done)
  | ((try dsimp only); (repeat' split) <;> simp; done)
  | (simp (disch := (intros; (repeat' split) <;> (try simp_all only [State.modMesh_only, State.setCredit_only, only_ite, only_ite_fst, ite_self, only_foldl, only_foldl_fst, implies_true, Only.refl, Nat.reduceOr]) <;> (try simp_all))); done)
  | ((try dsimp only); (repeat' split) <;> simp (disch := (intros; (repeat' split) <;> (try simp_all only [State.modMesh_only, State.setCredit_only, only_ite, only_ite_fst, ite_self, only_foldl, only_foldl_fst, implies_true, Only.refl, Nat.reduceOr]) <;> (try simp_all))); done)

@[simp] theorem State.bumpMseq_only (s : State) (src dst chan : Nat) (u : State) {m' : Nat} (hm' : 262144 ||| m' = m' := by decide) : Only m' u (State.bumpMseq s src dst chan) ↔ Only m' u s := by
  refine Only.lift hm' fun u => ?_
  clear hm'
  unfold State.bumpMseq
  simp only [State.modMesh_only, Only.refl, Nat.reduceOr]

@[simp] theorem State.chargeCore_only (s : State) (n len : Nat) (u : State) {m' : Nat} (hm' : 9245185 ||| m' = m' := by decide) : Only m' u (State.chargeCore s n len).1 ↔ Only m' u s := by
  refine Only.lift hm' fun u => ?_
  clear hm'
  unfold State.chargeCore
  simp only [State.count_only, State.meshOnce_only, State.modCore_only, only_ite, only_ite_fst, ite_self, Only.refl, Nat.reduceOr]

@[simp] theorem State.chargeMsg_only (s : State) (n len : Nat) (x : Nat) (y : List Bool) (u : State) {m' : Nat} (hm' : 9245185 ||| m' = m' := by decide) : Only m' u (State.chargeMsg s n len x y).1 ↔ Only m' u s := by
  refine Only.lift hm' fun u => ?_
  clear hm'
  induction x generalizing s y with
  | zero => simp [State.chargeMsg]
  | succ k ih => unfold State.chargeMsg; (try dsimp only); rw [ih]; simp

@[simp] theorem State.modChan_only (s : State) (n c : Nat) (f : Chan → Chan) (u : State) {m' : Nat} (hm' : 524288 ||| m' = m' := by decide) : Only m' u (State.modChan s n c f) ↔ Only m' u s := by
  refine Only.lift hm' fun u => ?_
  clear hm'
  unfold State.modChan
  simp only [State.modCore_only, Only.refl, Nat.reduceOr]

@[simp] theorem State.noteChan_only (s : State) (n c : Nat) (u : State) {m' : Nat} (hm' : 1 ||| m' = m' := by decide) : Only m' u (State.noteChan s n c) ↔ Only m' u s := by
  refine Only.lift hm' fun u => ?_
  clear hm'
  unfold State.noteChan
  simp only [State.setFld_only, only_ite, only_ite_fst, ite_self, Only.refl, Nat.reduceOr]

@[simp] theorem State.badSrc_only (s : State) (n : Nat) (u : State) {m' : Nat} (hm' : 8720897 ||| m' = m' := by decide) : Only m' u (State.badSrc s n) ↔ Only m' u s := by
  refine Only.lift hm' fun u => ?_
  clear hm'
  unfold State.badSrc
  simp only [State.count_only, State.meshOnce_only, Only.refl, Nat.reduceOr]

@[simp] theorem State.msgArrive_only (s : State) (n c src mseq i np : Nat) (pkt : List Nat) (u : State) {m' : Nat} (hm' : 9245193 ||| m' = m' := by decide) : Only m' u (State.msgArrive s n c src mseq i np pkt).1 ↔ Only m' u s := by
  refine Only.lift hm' fun u => ?_
  clear hm'
  unfold State.msgArrive
  (try dsimp only); (repeat' split) <;> simp only [State.badSrc_only, State.count_only, State.modChan_only, State.noteChan_only, State.putData_only, State.sendCredit_only, only_ite, only_ite_fst, ite_self, Only.refl, Nat.reduceOr]

@[simp] theorem State.flushChan_only (s : State) (n c : Nat) (u : State) {m' : Nat} (hm' : 786433 ||| m' = m' := by decide) : Only m' u (State.flushChan s n c) ↔ Only m' u s := by
  refine Only.lift hm' fun u => ?_
  clear hm'
  unfold State.flushChan
  simp only [State.giveCredit_only, State.modChan_only, State.noteChan_only, State.setFld_only, only_ite, only_ite_fst, ite_self, only_foldl, only_foldl_fst, implies_true, Only.refl, Nat.reduceOr]

@[simp] theorem State.flushChans_only (s : State) (n mask : Nat) (u : State) {m' : Nat} (hm' : 786433 ||| m' = m' := by decide) : Only m' u (State.flushChans s n mask) ↔ Only m' u s := by
  refine Only.lift hm' fun u => ?_
  clear hm'
  unfold State.flushChans
  first
  | (simp only [State.flushChan_only, State.setFld_only, only_ite, only_ite_fst, ite_self, only_foldl, only_foldl_fst, implies_true, Only.refl, Nat.reduceOr]; done)
  | ((try dsimp only); (repeat' split) <;> simp only [State.flushChan_only, State.setFld_only, only_ite, only_ite_fst, ite_self, only_foldl, only_foldl_fst, implies_true, Only.refl, Nat.reduceOr]; done)
  | ((try dsimp only); (repeat' split) <;> simp; done)
  | (simp (disch := (intros; (repeat' split) <;> (try simp_all only [State.flushChan_only, State.setFld_only, only_ite, only_ite_fst, ite_self, only_foldl, only_foldl_fst, implies_true, Only.refl, Nat.reduceOr]) <;> (try simp_all))); done)
  | ((try dsimp only); (repeat' split) <;> simp (disch := (intros; (repeat' split) <;> (try simp_all only [State.flushChan_only, State.setFld_only, only_ite, only_ite_fst, ite_self, only_foldl, only_foldl_fst, implies_true, Only.refl, Nat.reduceOr]) <;> (try simp_all))); done)

@[simp] theorem State.setFlights_only (s : State) (src dst cls : Nat) (l : List Nat) (u : State) {m' : Nat} (hm' : 262144 ||| m' = m' := by decide) : Only m' u (State.setFlights s src dst cls l) ↔ Only m' u s := by
  refine Only.lift hm' fun u => ?_
  clear hm'
  unfold State.setFlights
  first
  | (simp only [State.modMesh_only, only_ite, only_ite_fst, ite_self, only_foldl, only_foldl_fst, implies_true, Only.refl, Nat.reduceOr]; done)
  | ((try dsimp only); (repeat' split) <;> simp only [State.modMesh_only, only_ite, only_ite_fst, ite_self, only_foldl, only_foldl_fst, implies_true, Only.refl, Nat.reduceOr]; done)
  | ((try dsimp only); (repeat' split) <;> simp; done)
  | (simp (disch := (intros; (repeat' split) <;> (try simp_all only [State.modMesh_only, only_ite, only_ite_fst, ite_self, only_foldl, only_foldl_fst, implies_true, Only.refl, Nat.reduceOr]) <;> (try simp_all))); done)
  | ((try dsimp only); (repeat' split) <;> simp (disch := (intros; (repeat' split) <;> (try simp_all only [State.modMesh_only, only_ite, only_ite_fst, ite_self, only_foldl, only_foldl_fst, implies_true, Only.refl, Nat.reduceOr]) <;> (try simp_all))); done)

@[simp] theorem State.pushFlight_only (s : State) (src dst cls : Nat) (u : State) {m' : Nat} (hm' : 262144 ||| m' = m' := by decide) : Only m' u (State.pushFlight s src dst cls) ↔ Only m' u s := by
  refine Only.lift hm' fun u => ?_
  clear hm'
  unfold State.pushFlight
  first
  | (simp only [State.sendNext_only, State.setFlights_only, only_ite, only_ite_fst, ite_self, only_foldl, only_foldl_fst, implies_true, Only.refl, Nat.reduceOr]; done)
  | ((try dsimp only); (repeat' split) <;> simp only [State.sendNext_only, State.setFlights_only, only_ite, only_ite_fst, ite_self, only_foldl, only_foldl_fst, implies_true, Only.refl, Nat.reduceOr]; done)
  | ((try dsimp only); (repeat' split) <;> simp; done)
  | (simp (disch := (intros; (repeat' split) <;> (try simp_all only [State.sendNext_only, State.setFlights_only, only_ite, only_ite_fst, ite_self, only_foldl, only_foldl_fst, implies_true, Only.refl, Nat.reduceOr]) <;> (try simp_all))); done)
  | ((try dsimp only); (repeat' split) <;> simp (disch := (intros; (repeat' split) <;> (try simp_all only [State.sendNext_only, State.setFlights_only, only_ite, only_ite_fst, ite_self, only_foldl, only_foldl_fst, implies_true, Only.refl, Nat.reduceOr]) <;> (try simp_all))); done)

@[simp] theorem State.issueMove_only (s : State) (n : Nat) (x : Nat) (u : State) {m' : Nat} (hm' : 9245185 ||| m' = m' := by decide) : Only m' u (State.issueMove s n x) ↔ Only m' u s := by
  refine Only.lift hm' fun u => ?_
  clear hm'
  induction x generalizing s with
  | zero => simp [State.issueMove]
  | succ i ih =>
    unfold State.issueMove
    split
    · (try dsimp only); split
      · rw [ih, State.pushFlight_only]; split <;> simp
      · rfl
    · rfl

@[simp] theorem State.pumpAdds_only (s : State) (n : Nat) (u : State) {m' : Nat} (hm' : 9245185 ||| m' = m' := by decide) : Only m' u (State.pumpAdds s n) ↔ Only m' u s := by
  refine Only.lift hm' fun u => ?_
  clear hm'
  unfold State.pumpAdds
  first
  | (simp only [State.blockAdd_only, State.modCore_only, only_ite, only_ite_fst, ite_self, only_foldl, only_foldl_fst, implies_true, Only.refl, Nat.reduceOr]; done)
  | ((try dsimp only); (repeat' split) <;> simp only [State.blockAdd_only, State.modCore_only, only_ite, only_ite_fst, ite_self, only_foldl, only_foldl_fst, implies_true, Only.refl, Nat.reduceOr]; done)
  | ((try dsimp only); (repeat' split) <;> simp; done)
  | (simp (disch := (intros; (repeat' split) <;> (try simp_all only [State.blockAdd_only, State.modCore_only, only_ite, only_ite_fst, ite_self, only_foldl, only_foldl_fst, implies_true, Only.refl, Nat.reduceOr]) <;> (try simp_all))); done)
  | ((try dsimp only); (repeat' split) <;> simp (disch := (intros; (repeat' split) <;> (try simp_all only [State.blockAdd_only, State.modCore_only, only_ite, only_ite_fst, ite_self, only_foldl, only_foldl_fst, implies_true, Only.refl, Nat.reduceOr]) <;> (try simp_all))); done)

@[simp] theorem State.forgetOld_only (s : State) (n : Nat) (u : State) {m' : Nat} (hm' : 524288 ||| m' = m' := by decide) : Only m' u (State.forgetOld s n) ↔ Only m' u s := by
  refine Only.lift hm' fun u => ?_
  clear hm'
  unfold State.forgetOld
  simp only [State.modCore_only, only_ite, only_ite_fst, ite_self, Only.refl, Nat.reduceOr]

@[simp] theorem State.endSlot_only (s : State) (n t st : Nat) (unreach : Bool) (u : State) {m' : Nat} (hm' : 9245185 ||| m' = m' := by decide) : Only m' u (State.endSlot s n t st unreach) ↔ Only m' u s := by
  refine Only.lift hm' fun u => ?_
  clear hm'
  unfold State.endSlot
  simp only [State.forgetOld_only, State.issueMove_only, State.meshReport_only, State.modCore_only, State.modSlot_only, State.noteTrk_only, State.pumpAdds_only, only_ite, only_ite_fst, ite_self, only_foldl, only_foldl_fst, implies_true, Only.refl, Nat.reduceOr]

@[simp] theorem State.endTracked_only (s : State) (n t : Nat) (u : State) {m' : Nat} (hm' : 9245185 ||| m' = m' := by decide) : Only m' u (State.endTracked s n t) ↔ Only m' u s := by
  refine Only.lift hm' fun u => ?_
  clear hm'
  unfold State.endTracked
  first
  | ((try dsimp only); (repeat' split) <;> simp only [State.answer_only, State.endSlot_only, State.modCore_only, State.pumpAdds_only, only_ite, only_ite_fst, ite_self, only_foldl, only_foldl_fst, implies_true, Only.refl, Nat.reduceOr]; done)
  | (simp only [State.answer_only, State.endSlot_only, State.modCore_only, State.pumpAdds_only, only_ite, only_ite_fst, ite_self, only_foldl, only_foldl_fst, implies_true, Only.refl, Nat.reduceOr]; done)
  | ((try dsimp only); (repeat' split) <;> simp; done)
  | (simp (disch := (intros; (repeat' split) <;> (try simp_all only [State.answer_only, State.endSlot_only, State.modCore_only, State.pumpAdds_only, only_ite, only_ite_fst, ite_self, only_foldl, only_foldl_fst, implies_true, Only.refl, Nat.reduceOr]) <;> (try simp_all))); done)
  | ((try dsimp only); (repeat' split) <;> simp (disch := (intros; (repeat' split) <;> (try simp_all only [State.answer_only, State.endSlot_only, State.modCore_only, State.pumpAdds_only, only_ite, only_ite_fst, ite_self, only_foldl, only_foldl_fst, implies_true, Only.refl, Nat.reduceOr]) <;> (try simp_all))); done)

@[simp] theorem State.msgPacket_only (s : State) (src tag : Nat) (u : State) {m' : Nat} (hm' : 9246217 ||| m' = m' := by decide) : Only m' u (State.msgPacket s src tag) ↔ Only m' u s := by
  refine Only.lift hm' fun u => ?_
  clear hm'
  unfold State.msgPacket
  first
  | ((try dsimp only); (repeat' split) <;> simp only [State.answer_only, State.draw_only, State.modSlot_only, State.msgArrive_only, only_ite, only_ite_fst, ite_self, only_foldl, only_foldl_fst, implies_true, Only.refl, Nat.reduceOr]; done)
  | (simp only [State.answer_only, State.draw_only, State.modSlot_only, State.msgArrive_only, only_ite, only_ite_fst, ite_self, only_foldl, only_foldl_fst, implies_true, Only.refl, Nat.reduceOr]; done)
  | ((try dsimp only); (repeat' split) <;> simp; done)
  | (simp (disch := (intros; (repeat' split) <;> (try simp_all only [State.answer_only, State.draw_only, State.modSlot_only, State.msgArrive_only, only_ite, only_ite_fst, ite_self, only_foldl, only_foldl_fst, implies_true, Only.refl, Nat.reduceOr]) <;> (try simp_all))); done)
  | ((try dsimp only); (repeat' split) <;> simp (disch := (intros; (repeat' split) <;> (try simp_all only [State.answer_only, State.draw_only, State.modSlot_only, State.msgArrive_only, only_ite, only_ite_fst, ite_self, only_foldl, only_foldl_fst, implies_true, Only.refl, Nat.reduceOr]) <;> (try simp_all))); done)

@[simp] theorem State.setMove_only (s : State) (n tag : Nat) (m : Mover) (gone bad : Nat) (buf : List Nat) (u : State) {m' : Nat} (hm' : 524288 ||| m' = m' := by decide) : Only m' u (State.setMove s n tag m gone bad buf) ↔ Only m' u s := by
  refine Only.lift hm' fun u => ?_
  clear hm'
  unfold State.setMove
  simp only [State.modSlot_only, Only.refl, Nat.reduceOr]

@[simp] theorem State.landFlight_only (s : State) (src : Nat) (m : Mover) (u : State) {m' : Nat} (hm' : 262144 ||| m' = m' := by decide) : Only m' u (State.landFlight s src m) ↔ Only m' u s := by
  refine Only.lift hm' fun u => ?_
  clear hm'
  unfold State.landFlight
  first
  | (simp only [State.setFlights_only, only_ite, only_ite_fst, ite_self, only_foldl, only_foldl_fst, implies_true, Only.refl, Nat.reduceOr]; done)
  | ((try dsimp only); (repeat' split) <;> simp only [State.setFlights_only, only_ite, only_ite_fst, ite_self, only_foldl, only_foldl_fst, implies_true, Only.refl, Nat.reduceOr]; done)
  | ((try dsimp only); (repeat' split) <;> simp; done)
  | (simp (disch := (intros; (repeat' split) <;> (try simp_all only [State.setFlights_only, only_ite, only_ite_fst, ite_self, only_foldl, only_foldl_fst, implies_true, Only.refl, Nat.reduceOr]) <;> (try simp_all))); done)
  | ((try dsimp only); (repeat' split) <;> simp (disch := (intros; (repeat' split) <;> (try simp_all only [State.setFlights_only, only_ite, only_ite_fst, ite_self, only_foldl, only_foldl_fst, implies_true, Only.refl, Nat.reduceOr]) <;> (try simp_all))); done)

@[simp] theorem State.applyWrite_only (s : State) (src tag : Nat) (u : State) {m' : Nat} (hm' : 918760 ||| m' = m' := by decide) : Only m' u (State.applyWrite s src tag) ↔ Only m' u s := by
  refine Only.lift hm' fun u => ?_
  clear hm'
  unfold State.applyWrite
  first
  | ((try dsimp only); (repeat' split) <;> simp only [State.answer_only, State.draw_only, State.landFlight_only, State.meshWrite_only, State.setMove_only, only_ite, only_ite_fst, ite_self, only_foldl, only_foldl_fst, implies_true, Only.refl, Nat.reduceOr]; done)
  | (simp only [State.answer_only, State.draw_only, State.landFlight_only, State.meshWrite_only, State.setMove_only, only_ite, only_ite_fst, ite_self, only_foldl, only_foldl_fst, implies_true, Only.refl, Nat.reduceOr]; done)
  | ((try dsimp only); (repeat' split) <;> simp; done)
  | (simp (disch := (intros; (repeat' split) <;> (try simp_all only [State.answer_only, State.draw_only, State.landFlight_only, State.meshWrite_only, State.setMove_only, only_ite, only_ite_fst, ite_self, only_foldl, only_foldl_fst, implies_true, Only.refl, Nat.reduceOr]) <;> (try simp_all))); done)
  | ((try dsimp only); (repeat' split) <;> simp (disch := (intros; (repeat' split) <;> (try simp_all only [State.answer_only, State.draw_only, State.landFlight_only, State.meshWrite_only, State.setMove_only, only_ite, only_ite_fst, ite_self, only_foldl, only_foldl_fst, implies_true, Only.refl, Nat.reduceOr]) <;> (try simp_all))); done)

@[simp] theorem State.writePacket_only (s : State) (src tag : Nat) (u : State) {m' : Nat} (hm' : 9377513 ||| m' = m' := by decide) : Only m' u (State.writePacket s src tag) ↔ Only m' u s := by
  refine Only.lift hm' fun u => ?_
  clear hm'
  unfold State.writePacket
  simp only [State.applyWrite_only, State.issueMove_only, only_ite, only_ite_fst, ite_self, only_foldl, only_foldl_fst, implies_true, Only.refl, Nat.reduceOr]

@[simp] theorem State.scatter_only (s : State) (n : Nat) (m : Mover) (buf : List Nat) (u : State) {m' : Nat} (hm' : 524296 ||| m' = m' := by decide) : Only m' u (State.scatter s n m buf) ↔ Only m' u s := by
  refine Only.lift hm' fun u => ?_
  clear hm'
  unfold State.scatter
  simp only [State.putData_only, only_foldl, only_foldl_fst, implies_true, Only.refl, Nat.reduceOr]

@[simp] theorem State.serveRead_only (s : State) (src tag : Nat) (ecc : List Nat) (u : State) {m' : Nat} (hm' : 786440 ||| m' = m' := by decide) : Only m' u (State.serveRead s src tag ecc) ↔ Only m' u s := by
  refine Only.lift hm' fun u => ?_
  clear hm'
  unfold State.serveRead
  (try dsimp only); (repeat' split) <;> simp only [State.answer_only, State.landFlight_only, State.scatter_only, State.setMove_only, only_ite, only_ite_fst, ite_self, only_foldl, only_foldl_fst, implies_true, Only.refl, Nat.reduceOr]

@[simp] theorem State.readPacket_only (s : State) (src tag : Nat) (ecc : List Nat) (u : State) {m' : Nat} (hm' : 9245193 ||| m' = m' := by decide) : Only m' u (State.readPacket s src tag ecc) ↔ Only m' u s := by
  refine Only.lift hm' fun u => ?_
  clear hm'
  unfold State.readPacket
  simp only [State.issueMove_only, State.serveRead_only, only_ite, only_ite_fst, ite_self, only_foldl, only_foldl_fst, implies_true, Only.refl, Nat.reduceOr]

@[simp] theorem State.localCopy_only (s : State) (n tag : Nat) (u : State) {m' : Nat} (hm' : 787464 ||| m' = m' := by decide) : Only m' u (State.localCopy s n tag) ↔ Only m' u s := by
  refine Only.lift hm' fun u => ?_
  clear hm'
  unfold State.localCopy
  first
  | ((try dsimp only); (repeat' split) <;> simp only [State.answer_only, State.draw_only, State.putData_only, only_ite, only_ite_fst, ite_self, only_foldl, only_foldl_fst, implies_true, Only.refl, Nat.reduceOr]; done)
  | (simp only [State.answer_only, State.draw_only, State.putData_only, only_ite, only_ite_fst, ite_self, only_foldl, only_foldl_fst, implies_true, Only.refl, Nat.reduceOr]; done)
  | ((try dsimp only); (repeat' split) <;> simp; done)
  | (simp (disch := (intros; (repeat' split) <;> (try simp_all only [State.answer_only, State.draw_only, State.putData_only, only_ite, only_ite_fst, ite_self, only_foldl, only_foldl_fst, implies_true, Only.refl, Nat.reduceOr]) <;> (try simp_all))); done)
  | ((try dsimp only); (repeat' split) <;> simp (disch := (intros; (repeat' split) <;> (try simp_all only [State.answer_only, State.draw_only, State.putData_only, only_ite, only_ite_fst, ite_self, only_foldl, only_foldl_fst, implies_true, Only.refl, Nat.reduceOr]) <;> (try simp_all))); done)

@[simp] theorem State.loseNode_only (s : State) (node : Nat) (u : State) {m' : Nat} (hm' : 786432 ||| m' = m' := by decide) : Only m' u (State.loseNode s node) ↔ Only m' u s := by
  refine Only.lift hm' fun u => ?_
  clear hm'
  unfold State.loseNode
  rw [only_foldl]; intro v n; rw [only_foldl]
  · simp
  · intro w t; dsimp only; (repeat' split) <;> simp

@[simp] theorem State.flushFrom_only (s : State) (node : Nat) (u : State) {m' : Nat} (hm' : 786433 ||| m' = m' := by decide) : Only m' u (State.flushFrom s node) ↔ Only m' u s := by
  refine Only.lift hm' fun u => ?_
  clear hm'
  unfold State.flushFrom
  simp (disch := (intros; (repeat' split) <;> (try simp_all only [State.flushChan_only, State.modChan_only, State.noteChan_only, only_ite, only_ite_fst, ite_self, only_foldl, only_foldl_fst, implies_true, Only.refl, Nat.reduceOr]) <;> (try simp_all)))

@[simp] theorem State.applyChan_only (s : State) (n c : Nat) (u : State) {m' : Nat} (hm' : 786433 ||| m' = m' := by decide) : Only m' u (State.applyChan s n c) ↔ Only m' u s := by
  refine Only.lift hm' fun u => ?_
  clear hm'
  unfold State.applyChan
  first
  | (simp only [State.apply1_only, State.flushChan_only, State.modChan_only, State.noteChan_only, State.sendCredit_only, only_ite, only_ite_fst, ite_self, only_foldl, only_foldl_fst, implies_true, Only.refl, Nat.reduceOr]; done)
  | ((try dsimp only); (repeat' split) <;> simp only [State.apply1_only, State.flushChan_only, State.modChan_only, State.noteChan_only, State.sendCredit_only, only_ite, only_ite_fst, ite_self, only_foldl, only_foldl_fst, implies_true, Only.refl, Nat.reduceOr]; done)
  | ((try dsimp only); (repeat' split) <;> simp; done)
  | (simp (disch := (intros; (repeat' split) <;> (try simp_all only [State.apply1_only, State.flushChan_only, State.modChan_only, State.noteChan_only, State.sendCredit_only, only_ite, only_ite_fst, ite_self, only_foldl, only_foldl_fst, implies_true, Only.refl, Nat.reduceOr]) <;> (try simp_all))); done)
  | ((try dsimp only); (repeat' split) <;> simp (disch := (intros; (repeat' split) <;> (try simp_all only [State.apply1_only, State.flushChan_only, State.modChan_only, State.noteChan_only, State.sendCredit_only, only_ite, only_ite_fst, ite_self, only_foldl, only_foldl_fst, implies_true, Only.refl, Nat.reduceOr]) <;> (try simp_all))); done)

@[simp] theorem State.addAfter_only (s : State) (mrk : Option Nat) (u : State) {m' : Nat} (hm' : 9245185 ||| m' = m' := by decide) : Only m' u (State.addAfter s mrk) ↔ Only m' u s := by
  refine Only.lift hm' fun u => ?_
  clear hm'
  unfold State.addAfter
  first
  | (simp only [State.blockAdd_only, only_ite, only_ite_fst, ite_self, only_foldl, only_foldl_fst, implies_true, Only.refl, Nat.reduceOr]; done)
  | ((try dsimp only); (repeat' split) <;> simp only [State.blockAdd_only, only_ite, only_ite_fst, ite_self, only_foldl, only_foldl_fst, implies_true, Only.refl, Nat.reduceOr]; done)
  | ((try dsimp only); (repeat' split) <;> simp; done)
  | (simp (disch := (intros; (repeat' split) <;> (try simp_all only [State.blockAdd_only, only_ite, only_ite_fst, ite_self, only_foldl, only_foldl_fst, implies_true, Only.refl, Nat.reduceOr]) <;> (try simp_all))); done)
  | ((try dsimp only); (repeat' split) <;> simp (disch := (intros; (repeat' split) <;> (try simp_all only [State.blockAdd_only, only_ite, only_ite_fst, ite_self, only_foldl, only_foldl_fst, implies_true, Only.refl, Nat.reduceOr]) <;> (try simp_all))); done)

@[simp] theorem State.hubPut_only (s : State) (n cls a : Nat) (bs : List Nat) (mrk : Option Nat := none) (u : State) {m' : Nat} (hm' : 9245193 ||| m' = m' := by decide) : Only m' u (State.hubPut s n cls a bs mrk) ↔ Only m' u s := by
  refine Only.lift hm' fun u => ?_
  clear hm'
  unfold State.hubPut
  first
  | (simp only [State.addAfter_only, State.putData_only, State.putStray_only, only_ite, only_ite_fst, ite_self, only_foldl, only_foldl_fst, implies_true, Only.refl, Nat.reduceOr]; done)
  | ((try dsimp only); (repeat' split) <;> simp only [State.addAfter_only, State.putData_only, State.putStray_only, only_ite, only_ite_fst, ite_self, only_foldl, only_foldl_fst, implies_true, Only.refl, Nat.reduceOr]; done)
  | ((try dsimp only); (repeat' split) <;> simp; done)
  | (simp (disch := (intros; (repeat' split) <;> (try simp_all only [State.addAfter_only, State.putData_only, State.putStray_only, only_ite, only_ite_fst, ite_self, only_foldl, only_foldl_fst, implies_true, Only.refl, Nat.reduceOr]) <;> (try simp_all))); done)
  | ((try dsimp only); (repeat' split) <;> simp (disch := (intros; (repeat' split) <;> (try simp_all only [State.addAfter_only, State.putData_only, State.putStray_only, only_ite, only_ite_fst, ite_self, only_foldl, only_foldl_fst, implies_true, Only.refl, Nat.reduceOr]) <;> (try simp_all))); done)

@[simp] theorem State.retrain_only (s : State) (l : Nat) (u : State) {m' : Nat} (hm' : 8458753 ||| m' = m' := by decide) : Only m' u (State.retrain s l) ↔ Only m' u s := by
  refine Only.lift hm' fun u => ?_
  clear hm'
  unfold State.retrain
  simp only [State.count_only, State.meshReport_only, State.setFld_only, Only.refl, Nat.reduceOr]

theorem execPurlCrcFail_only (l : Nat) (s : State) : Outs (Only 8720897 s) (execPurlCrcFail l s) := by
  unfold execPurlCrcFail
  (repeat apply outs_onUnit); simp only [State.count_only, State.meshReport_only, State.modMesh_only, State.retrain_only, only_ite, only_ite_fst, ite_self, Only.refl, Nat.reduceOr, outs_next, outs_fault, outs_refused, outs_ite, implies_true]

@[simp] theorem State.applyMesh_only (s : State) (u : State) {m' : Nat} (hm' : 8458753 ||| m' = m' := by decide) : Only m' u (State.applyMesh s) ↔ Only m' u s := by
  refine Only.lift hm' fun u => ?_
  clear hm'
  unfold State.applyMesh
  simp only [State.apply1_only, State.meshReport_only, State.setFld_only, only_ite, only_ite_fst, ite_self, Only.refl, Nat.reduceOr]

end Sys2Proof.Machine
end

