-- ==== Sys2Proof/Laws/OnlyMatrix.lean ====
section
/-! SUPPORT. Laws/OnlyMatrix.lean: the pieces of the state that the operations and commands of Machine/Matrix.lean may change. -/

namespace Sys2Proof.Machine
open Sys2Proof Sys2Proof.Machine.Reg

set_option linter.all false
set_option Elab.async false

@[simp] theorem State.publish_only (s : State) (n : Nat) (t : Tile) (u : State) {m' : Nat} (hm' : 1 ||| m' = m' := by decide) : Only m' u (State.publish s n t) ↔ Only m' u s := by
  refine Only.lift hm' fun u => ?_
  clear hm'
  unfold State.publish
  simp only [State.setRegN_only, only_ite, only_ite_fst, ite_self, Only.refl, Nat.reduceOr]

@[simp] theorem State.startOp_only (s : State) (n u : Nat) (u₀ : State) {m' : Nat} (hm' : 524289 ||| m' = m' := by decide) : Only m' u₀ (State.startOp s n u) ↔ Only m' u₀ s := by
  refine Only.lift hm' fun u₀ => ?_
  clear hm'
  unfold State.startOp
  (try dsimp only); (repeat' split) <;> simp only [State.modCore_only, State.publish_only, only_ite, only_ite_fst, ite_self, Only.refl, Nat.reduceOr]

@[simp] theorem State.tileMember_only (s : State) (c : Nat) (t : Tile) (lim b : Nat) (u : State) {m' : Nat} (hm' : 1048576 ||| m' = m' := by decide) : Only m' u (State.tileMember s c t lim b).1 ↔ Only m' u s := by
  refine Only.lift hm' fun u => ?_
  clear hm'
  unfold State.tileMember
  simp (disch := (intros; (repeat' split) <;> (try simp_all only [State.accSet_only, only_ite, only_ite_fst, ite_self, only_foldl, only_foldl_fst, implies_true, Only.refl, Nat.reduceOr]) <;> (try simp_all)))

@[simp] theorem State.tileRound_only (s : State) (c : Nat) (t : Tile) (lim r : Nat) (u : State) {m' : Nat} (hm' : 1048576 ||| m' = m' := by decide) : Only m' u (State.tileRound s c t lim r).1 ↔ Only m' u s := by
  refine Only.lift hm' fun u => ?_
  clear hm'
  unfold State.tileRound
  simp only [State.accSet_only, State.tileMember_only, only_ite, only_ite_fst, ite_self, only_foldl, only_foldl_fst, implies_true, Only.refl, Nat.reduceOr]

@[simp] theorem State.noteOp_only (s : State) (n u sk : Nat) (ovf : Bool) (u₀ : State) {m' : Nat} (hm' : 524289 ||| m' = m' := by decide) : Only m' u₀ (State.noteOp s n u sk ovf) ↔ Only m' u₀ s := by
  refine Only.lift hm' fun u₀ => ?_
  clear hm'
  unfold State.noteOp
  simp only [State.count_only, State.modCore_only, only_ite, only_ite_fst, ite_self, Only.refl, Nat.reduceOr]

@[simp] theorem State.retireOp_only (s : State) (n u : Nat) (u₀ : State) {m' : Nat} (hm' : 525312 ||| m' = m' := by decide) : Only m' u₀ (State.retireOp s n u) ↔ Only m' u₀ s := by
  refine Only.lift hm' fun u₀ => ?_
  clear hm'
  unfold State.retireOp
  simp only [State.draw_only, State.forgetOld_only, State.modCore_only, Only.refl, Nat.reduceOr]

@[simp] theorem State.runTile_only (s : State) (n : Nat) (t : Tile) (lim : Nat) (u : State) {m' : Nat} (hm' : 1572865 ||| m' = m' := by decide) : Only m' u (State.runTile s n t lim) ↔ Only m' u s := by
  refine Only.lift hm' fun u => ?_
  clear hm'
  unfold State.runTile
  first
  | (simp only [State.modCore_only, State.noteOp_only, State.tileRound_only, only_ite, only_ite_fst, ite_self, only_foldl, only_foldl_fst, implies_true, Only.refl, Nat.reduceOr]; done)
  | ((try dsimp only); (repeat' split) <;> simp only [State.modCore_only, State.noteOp_only, State.tileRound_only, only_ite, only_ite_fst, ite_self, only_foldl, only_foldl_fst, implies_true, Only.refl, Nat.reduceOr]; done)
  | ((try dsimp only); (repeat' split) <;> simp; done)
  | (simp (disch := (intros; (repeat' split) <;> (try simp_all only [State.modCore_only, State.noteOp_only, State.tileRound_only, only_ite, only_ite_fst, ite_self, only_foldl, only_foldl_fst, implies_true, Only.refl, Nat.reduceOr]) <;> (try simp_all))); done)
  | ((try dsimp only); (repeat' split) <;> simp (disch := (intros; (repeat' split) <;> (try simp_all only [State.modCore_only, State.noteOp_only, State.tileRound_only, only_ite, only_ite_fst, ite_self, only_foldl, only_foldl_fst, implies_true, Only.refl, Nat.reduceOr]) <;> (try simp_all))); done)

@[simp] theorem State.runVp_only (s : State) (n : Nat) (v : Vrun) (lim : Nat) (u : State) {m' : Nat} (hm' : 1572865 ||| m' = m' := by decide) : Only m' u (State.runVp s n v lim) ↔ Only m' u s := by
  refine Only.lift hm' fun u => ?_
  clear hm'
  unfold State.runVp
  simp (disch := (intros; (repeat' split) <;> (try simp_all only [State.accSet_only, State.noteOp_only, only_ite, only_ite_fst, ite_self, only_foldl, only_foldl_fst, implies_true, Only.refl, Nat.reduceOr]) <;> (try simp_all)))

@[simp] theorem State.loadCfg_only (s : State) (n o : Nat) (d : List Nat) (u : State) {m' : Nat} (hm' : 524288 ||| m' = m' := by decide) : Only m' u (State.loadCfg s n o d) ↔ Only m' u s := by
  refine Only.lift hm' fun u => ?_
  clear hm'
  unfold State.loadCfg
  simp only [State.modCore_only, only_ite, only_ite_fst, ite_self, only_foldl, only_foldl_fst, implies_true, Only.refl, Nat.reduceOr]

@[simp] theorem State.runDrain_only (s : State) (n : Nat) (o : QOp) (u : State) {m' : Nat} (hm' : 524297 ||| m' = m' := by decide) : Only m' u (State.runDrain s n o) ↔ Only m' u s := by
  refine Only.lift hm' fun u => ?_
  clear hm'
  unfold State.runDrain
  (try dsimp only); (repeat' split) <;> simp only [State.count_only, State.modCore_only, State.putData_only, State.setRegN_only, only_ite, only_ite_fst, ite_self, only_foldl, only_foldl_fst, implies_true, Only.refl, Nat.reduceOr]

@[simp] theorem State.doneOp_only (s : State) (n u : Nat) (u₀ : State) {m' : Nat} (hm' : 1573897 ||| m' = m' := by decide) : Only m' u₀ (State.doneOp s n u) ↔ Only m' u₀ s := by
  refine Only.lift hm' fun u₀ => ?_
  clear hm'
  unfold State.doneOp
  (try dsimp only); (repeat' split) <;> simp only [State.loadCfg_only, State.retireOp_only, State.runDrain_only, State.runTile_only, State.runVp_only, only_ite, only_ite_fst, ite_self, only_foldl, only_foldl_fst, implies_true, Only.refl, Nat.reduceOr]

theorem execMatrixOpStart_only (n : Nat) (s : State) : Outs (Only 524289 s) (execMatrixOpStart n s) := by
  unfold execMatrixOpStart
  (repeat apply outs_onUnit); simp only [State.startOp_only, Only.refl, Nat.reduceOr, outs_next, outs_fault, outs_refused, outs_ite, implies_true]

theorem execMatrixOpDone_only (n : Nat) (s : State) : Outs (Only 1573897 s) (execMatrixOpDone n s) := by
  unfold execMatrixOpDone
  (repeat apply outs_onUnit); simp only [State.doneOp_only, Only.refl, Nat.reduceOr, outs_next, outs_fault, outs_refused, outs_ite, implies_true]

theorem execVpOpStart_only (n : Nat) (s : State) : Outs (Only 524289 s) (execVpOpStart n s) := by
  unfold execVpOpStart
  (repeat apply outs_onUnit); simp only [State.startOp_only, Only.refl, Nat.reduceOr, outs_next, outs_fault, outs_refused, outs_ite, implies_true]

theorem execVpOpDone_only (n : Nat) (s : State) : Outs (Only 1573897 s) (execVpOpDone n s) := by
  unfold execVpOpDone
  (repeat apply outs_onUnit); simp only [State.doneOp_only, Only.refl, Nat.reduceOr, outs_next, outs_fault, outs_refused, outs_ite, implies_true]

theorem execOutputOpStart_only (n : Nat) (s : State) : Outs (Only 524289 s) (execOutputOpStart n s) := by
  unfold execOutputOpStart
  (repeat apply outs_onUnit); simp only [State.startOp_only, Only.refl, Nat.reduceOr, outs_next, outs_fault, outs_refused, outs_ite, implies_true]

theorem execOutputOpDone_only (n : Nat) (s : State) : Outs (Only 1573897 s) (execOutputOpDone n s) := by
  unfold execOutputOpDone
  (repeat apply outs_onUnit); simp only [State.doneOp_only, Only.refl, Nat.reduceOr, outs_next, outs_fault, outs_refused, outs_ite, implies_true]

@[simp] theorem State.recordChk_only (s : State) (n : Nat) (o : QOp) (vp : Bool) (array sub : Nat) (col : Bool) (pass diff ex : Nat) (u : State) {m' : Nat} (hm' : 1 ||| m' = m' := by decide) : Only m' u (State.recordChk s n o vp array sub col pass diff ex) ↔ Only m' u s := by
  refine Only.lift hm' fun u => ?_
  clear hm'
  unfold State.recordChk
  first
  | (simp only [State.setRegN_only, only_ite, only_ite_fst, ite_self, only_foldl, only_foldl_fst, implies_true, Only.refl, Nat.reduceOr]; done)
  | ((try dsimp only); (repeat' split) <;> simp only [State.setRegN_only, only_ite, only_ite_fst, ite_self, only_foldl, only_foldl_fst, implies_true, Only.refl, Nat.reduceOr]; done)
  | ((try dsimp only); (repeat' split) <;> simp; done)
  | (simp (disch := (intros; (repeat' split) <;> (try simp_all only [State.setRegN_only, only_ite, only_ite_fst, ite_self, only_foldl, only_foldl_fst, implies_true, Only.refl, Nat.reduceOr]) <;> (try simp_all))); done)
  | ((try dsimp only); (repeat' split) <;> simp (disch := (intros; (repeat' split) <;> (try simp_all only [State.setRegN_only, only_ite, only_ite_fst, ite_self, only_foldl, only_foldl_fst, implies_true, Only.refl, Nat.reduceOr]) <;> (try simp_all))); done)

@[simp] theorem State.upToFault_only (s : State) (n : Nat) (o : QOp) (vp : Bool) (pass : Nat) (u : State) {m' : Nat} (hm' : 1573889 ||| m' = m' := by decide) : Only m' u (State.upToFault s n o vp pass) ↔ Only m' u s := by
  refine Only.lift hm' fun u => ?_
  clear hm'
  unfold State.upToFault
  simp only [State.draw_only, State.runTile_only, State.runVp_only, only_ite, only_ite_fst, ite_self, only_foldl, only_foldl_fst, implies_true, Only.refl, Nat.reduceOr]

end Sys2Proof.Machine
end

