-- ==== Sys2Proof/Laws/OnlyCp.lean ====
section
/-! SUPPORT. Laws/OnlyCp.lean: the pieces of the state that the operations and commands of Machine/Cp.lean may change. -/

namespace Sys2Proof.Machine
open Sys2Proof Sys2Proof.Machine.Reg

set_option linter.all false
set_option Elab.async false

@[simp] theorem State.setCstate_only (s : State) (n v : Nat) (u : State) {m' : Nat} (hm' : 1 ||| m' = m' := by decide) : Only m' u (State.setCstate s n v) ↔ Only m' u s := by
  refine Only.lift hm' fun u => ?_
  clear hm'
  unfold State.setCstate
  simp only [State.setFld_only, Only.refl, Nat.reduceOr]

@[simp] theorem State.setPc_only (s : State) (n v : Nat) (u : State) {m' : Nat} (hm' : 1 ||| m' = m' := by decide) : Only m' u (State.setPc s n v) ↔ Only m' u s := by
  refine Only.lift hm' fun u => ?_
  clear hm'
  unfold State.setPc
  simp only [State.setFld_only, Only.refl, Nat.reduceOr]

@[simp] theorem State.setGpr_only (s : State) (n r v : Nat) (u : State) {m' : Nat} (hm' : 524288 ||| m' = m' := by decide) : Only m' u (State.setGpr s n r v) ↔ Only m' u s := by
  refine Only.lift hm' fun u => ?_
  clear hm'
  unfold State.setGpr
  simp only [State.modCore_only, Only.refl, Nat.reduceOr]

@[simp] theorem State.coreReport_only (s : State) (n b sev : Nat) (u : State) {m' : Nat} (hm' : 8458753 ||| m' = m' := by decide) : Only m' u (State.coreReport s n b sev) ↔ Only m' u s := by
  refine Only.lift hm' fun u => ?_
  clear hm'
  unfold State.coreReport
  simp only [State.report_only, Only.refl, Nat.reduceOr]

@[simp] theorem State.dbgReport_only (s : State) (b sev src data : Nat) (u : State) {m' : Nat} (hm' : 8458753 ||| m' = m' := by decide) : Only m' u (State.dbgReport s b sev src data) ↔ Only m' u s := by
  refine Only.lift hm' fun u => ?_
  clear hm'
  unfold State.dbgReport
  simp only [State.report_only, Only.refl, Nat.reduceOr]

@[simp] theorem State.wdHold_only (s : State) (n : Nat) (u : State) {m' : Nat} (hm' : 524288 ||| m' = m' := by decide) : Only m' u (State.wdHold s n) ↔ Only m' u s := by
  refine Only.lift hm' fun u => ?_
  clear hm'
  unfold State.wdHold
  simp only [State.modCore_only, Only.refl, Nat.reduceOr]

@[simp] theorem State.wdRun_only (s : State) (n : Nat) (u : State) {m' : Nat} (hm' : 524288 ||| m' = m' := by decide) : Only m' u (State.wdRun s n) ↔ Only m' u s := by
  refine Only.lift hm' fun u => ?_
  clear hm'
  unfold State.wdRun
  simp only [State.modCore_only, only_ite, only_ite_fst, ite_self, only_foldl, only_foldl_fst, implies_true, Only.refl, Nat.reduceOr]

@[simp] theorem State.wdReload_only (s : State) (n : Nat) (u : State) {m' : Nat} (hm' : 524288 ||| m' = m' := by decide) : Only m' u (State.wdReload s n) ↔ Only m' u s := by
  refine Only.lift hm' fun u => ?_
  clear hm'
  unfold State.wdReload
  simp only [State.modCore_only, only_ite, only_ite_fst, ite_self, only_foldl, only_foldl_fst, implies_true, Only.refl, Nat.reduceOr]

@[simp] theorem State.applyCore_only (s : State) (n : Nat) (u : State) {m' : Nat} (hm' : 9245185 ||| m' = m' := by decide) : Only m' u (State.applyCore s n) ↔ Only m' u s := by
  refine Only.lift hm' fun u => ?_
  clear hm'
  unfold State.applyCore
  simp only [State.apply1_only, State.applyChan_only, State.coreReport_only, State.setFld_only, only_ite, only_ite_fst, ite_self, only_foldl, only_foldl_fst, implies_true, Only.refl, Nat.reduceOr]

@[simp] theorem State.startJob_only (s : State) (n src entry arg job group startA dlA : Nat) (inst : Option Nat) (u : State) {m' : Nat} (hm' : 10293761 ||| m' = m' := by decide) : Only m' u (State.startJob s n src entry arg job group startA dlA inst) ↔ Only m' u s := by
  refine Only.lift hm' fun u => ?_
  clear hm'
  unfold State.startJob
  simp only [State.accClear_only, State.applyCore_only, State.modCore_only, State.setCstate_only, State.setFld_only, State.setPc_only, State.wdReload_only, only_ite, only_ite_fst, ite_self, only_foldl, only_foldl_fst, implies_true, Only.refl, Nat.reduceOr]

@[simp] theorem State.hostStart_only (s : State) (n entry arg : Nat) (u : State) {m' : Nat} (hm' : 10293761 ||| m' = m' := by decide) : Only m' u (State.hostStart s n entry arg).1 ↔ Only m' u s := by
  refine Only.lift hm' fun u => ?_
  clear hm'
  unfold State.hostStart; split <;> simp

@[simp] theorem State.loseHalt_only (s : State) (n status : Nat) (u : State) {m' : Nat} (hm' : 8983041 ||| m' = m' := by decide) : Only m' u (State.loseHalt s n status) ↔ Only m' u s := by
  refine Only.lift hm' fun u => ?_
  clear hm'
  unfold State.loseHalt
  simp only [State.dbgReport_only, State.modCore_only, State.setReg_only, only_ite, only_ite_fst, ite_self, Only.refl, Nat.reduceOr]

@[simp] theorem State.finishSend_only (s : State) (n t : Nat) (x : Nat) (u : State) {m' : Nat} (hm' : 9246217 ||| m' = m' := by decide) : Only m' u (State.finishSend s n t x) ↔ Only m' u s := by
  refine Only.lift hm' fun u => ?_
  clear hm'
  fun_induction State.finishSend s n t x <;> simp_all only [State.answer_only, State.msgPacket_only, only_ite, only_ite_fst, ite_self, Only.refl, Nat.reduceOr]

@[simp] theorem State.straySend_only (s : State) (n t : Nat) (u : State) {m' : Nat} (hm' : 786432 ||| m' = m' := by decide) : Only m' u (State.straySend s n t) ↔ Only m' u s := by
  refine Only.lift hm' fun u => ?_
  clear hm'
  unfold State.straySend
  (try dsimp only); (repeat' split) <;> simp only [State.answer_only, State.strayAs_only, only_ite, only_ite_fst, ite_self, only_foldl, only_foldl_fst, implies_true, Only.refl, Nat.reduceOr]

@[simp] theorem State.dropSend_only (s : State) (n t : Nat) (u : State) {m' : Nat} (hm' : 786432 ||| m' = m' := by decide) : Only m' u (State.dropSend s n t) ↔ Only m' u s := by
  refine Only.lift hm' fun u => ?_
  clear hm'
  unfold State.dropSend
  (try dsimp only); (repeat' split) <;> simp only [State.answer_only, State.modMesh_only, State.modSlot_only, State.setCredit_only, only_ite, only_ite_fst, ite_self, Only.refl, Nat.reduceOr]

@[simp] theorem State.finishMove_only (s : State) (n t : Nat) (x : Nat) (u : State) {m' : Nat} (hm' : 918760 ||| m' = m' := by decide) : Only m' u (State.finishMove s n t x) ↔ Only m' u s := by
  refine Only.lift hm' fun u => ?_
  clear hm'
  fun_induction State.finishMove s n t x <;> simp_all only [State.applyWrite_only, only_ite, only_ite_fst, ite_self, only_foldl, only_foldl_fst, implies_true, Only.refl, Nat.reduceOr]

@[simp] theorem State.stopMover_only (s : State) (n : Nat) (u : State) {m' : Nat} (hm' : 918760 ||| m' = m' := by decide) : Only m' u (State.stopMover s n) ↔ Only m' u s := by
  refine Only.lift hm' fun u => ?_
  clear hm'
  unfold State.stopMover
  (try dsimp only); (repeat' split) <;> simp only [State.finishMove_only, State.setFlights_only, State.strayAs_only, only_ite, only_ite_fst, ite_self, only_foldl, only_foldl_fst, implies_true, Only.refl, Nat.reduceOr]

@[simp] theorem State.flushMarker_only (s : State) (n t : Nat) (u : State) {m' : Nat} (hm' : 9245185 ||| m' = m' := by decide) : Only m' u (State.flushMarker s n t) ↔ Only m' u s := by
  refine Only.lift hm' fun u => ?_
  clear hm'
  unfold State.flushMarker; split <;> simp

@[simp] theorem State.abortEffects_only (s : State) (n cause : Nat) (u : State) {m' : Nat} (hm' : 9377513 ||| m' = m' := by decide) : Only m' u (State.abortEffects s n cause) ↔ Only m' u s := by
  refine Only.lift hm' fun u => ?_
  clear hm'
  unfold State.abortEffects
  simp only [State.dropSend_only, State.finishSend_only, State.flushMarker_only, State.modCore_only, State.noteTrk_only, State.pumpAdds_only, State.releaseMarkers_only, State.stopMover_only, State.straySend_only, only_ite, only_ite_fst, ite_self, only_foldl, only_foldl_fst, implies_true, Only.refl, Nat.reduceOr]

@[simp] theorem State.closeJob_only (s : State) (n st user exc next : Nat) (u : State) {m' : Nat} (hm' : 8992257 ||| m' = m' := by decide) : Only m' u (State.closeJob s n st user exc next) ↔ Only m' u s := by
  refine Only.lift hm' fun u => ?_
  clear hm'
  unfold State.closeJob
  simp only [State.coreReport_only, State.count_only, State.event_only, State.modCore_only, State.setCstate_only, State.setFld_only, State.setRegN_only, State.settle_only, State.wdHold_only, only_ite, only_ite_fst, ite_self, only_foldl, only_foldl_fst, implies_true, Only.refl, Nat.reduceOr]

@[simp] theorem State.tellPat_only (s : State) (n st user cause : Nat) (inst : Option Nat) (cyc : Nat) (may : Bool) (u : State) {m' : Nat} (hm' : 8615425 ||| m' = m' := by decide) : Only m' u (State.tellPat s n st user cause inst cyc may) ↔ Only m' u s := by
  refine Only.lift hm' fun u => ?_
  clear hm'
  unfold State.tellPat
  split
  · simp
  · split <;> simp

@[simp] theorem State.countWait_only (s : State) (n : Nat) (u : State) {m' : Nat} (hm' : 525312 ||| m' = m' := by decide) : Only m' u (State.countWait s n) ↔ Only m' u s := by
  refine Only.lift hm' fun u => ?_
  clear hm'
  unfold State.countWait
  simp only [State.draw_only, State.modCore_only, only_ite, only_ite_fst, ite_self, only_foldl, only_foldl_fst, implies_true, Only.refl, Nat.reduceOr]

@[simp] theorem State.killJob_only (s : State) (n st exc next cause : Nat) (may : Bool) (u : State) {m' : Nat} (hm' : 9402089 ||| m' = m' := by decide) : Only m' u (State.killJob s n st exc next cause may) ↔ Only m' u s := by
  refine Only.lift hm' fun u => ?_
  clear hm'
  unfold State.killJob
  simp only [State.abortEffects_only, State.closeJob_only, State.countWait_only, State.loseHalt_only, State.tellPat_only, only_ite, only_ite_fst, ite_self, only_foldl, only_foldl_fst, implies_true, Only.refl, Nat.reduceOr]

@[simp] theorem State.abortJob_only (s : State) (n : Nat) (u : State) {m' : Nat} (hm' : 9402089 ||| m' = m' := by decide) : Only m' u (State.abortJob s n) ↔ Only m' u s := by
  refine Only.lift hm' fun u => ?_
  clear hm'
  unfold State.abortJob
  simp only [State.killJob_only, only_ite, only_ite_fst, ite_self, Only.refl, Nat.reduceOr]

@[simp] theorem State.raise_only (s : State) (n code addr : Nat) (u : State) {m' : Nat} (hm' : 9402089 ||| m' = m' := by decide) : Only m' u (State.raise s n code addr) ↔ Only m' u s := by
  refine Only.lift hm' fun u => ?_
  clear hm'
  unfold State.raise
  simp only [State.killJob_only, State.setFld_only, State.setRegN_only, Only.refl, Nat.reduceOr]

@[simp] theorem State.haltCore_only (s : State) (n cause : Nat) (u : State) {m' : Nat} (hm' : 9254401 ||| m' = m' := by decide) : Only m' u (State.haltCore s n cause) ↔ Only m' u s := by
  refine Only.lift hm' fun u => ?_
  clear hm'
  unfold State.haltCore
  simp only [State.dbgReport_only, State.freezeLeases_only, State.modCore_only, State.setCstate_only, State.setReg_only, State.settle_only, State.takeAway_only, State.wdHold_only, only_ite, only_ite_fst, ite_self, only_foldl, only_foldl_fst, implies_true, Only.refl, Nat.reduceOr]

@[simp] theorem State.retired_only (s : State) (n cycles hot : Nat) (waited : Bool) (u : State) {m' : Nat} (hm' : 525312 ||| m' = m' := by decide) : Only m' u (State.retired s n cycles hot waited) ↔ Only m' u s := by
  refine Only.lift hm' fun u => ?_
  clear hm'
  unfold State.retired
  simp only [State.draw_only, State.modCore_only, only_ite, only_ite_fst, ite_self, Only.refl, Nat.reduceOr]

@[simp] theorem State.endWait_only (s : State) (n rd v : Nat) (u : State) {m' : Nat} (hm' : 525312 ||| m' = m' := by decide) : Only m' u (State.endWait s n rd v) ↔ Only m' u s := by
  refine Only.lift hm' fun u => ?_
  clear hm'
  unfold State.endWait
  simp only [State.modCore_only, State.retired_only, State.setGpr_only, Only.refl, Nat.reduceOr]

theorem State.takeMsg_only (s : State) (n ch : Nat) : ∀ t, State.takeMsg s n ch = some t → Only 524289 s t.1 := by
  unfold State.takeMsg; intro t h; split at h <;> simp at h; subst h; simp

@[simp] theorem State.wake_only (s : State) (n : Nat) (u : State) {m' : Nat} (hm' : 525313 ||| m' = m' := by decide) : Only m' u (State.wake s n) ↔ Only m' u s := by
  refine Only.lift hm' fun u => ?_
  clear hm'
  unfold State.wake
  split
  · simp
  · split
    · split
      · rename_i h; have := Only.iff (m := 525313) (u := u) (by decide) (State.takeMsg_only _ _ _ _ h); simp_all
      · simp
    · simp
    · simp

@[simp] theorem State.landStray_only (s : State) (x : Stray) (u : State) {m' : Nat} (hm' : 9377513 ||| m' = m' := by decide) : Only m' u (State.landStray s x) ↔ Only m' u s := by
  refine Only.lift hm' fun u => ?_
  clear hm'
  unfold State.landStray
  (try dsimp only); (repeat' split) <;> simp only [State.addAfter_only, State.landMark_only, State.meshWrite_only, State.modMesh_only, State.msgArrive_only, State.putData_only, State.wake_only, only_ite, only_ite_fst, ite_self, only_foldl, only_foldl_fst, implies_true, Only.refl, Nat.reduceOr]

@[simp] theorem State.pumpMesh_only (s : State) (u : State) {m' : Nat} (hm' : 9377513 ||| m' = m' := by decide) : Only m' u (State.pumpMesh s) ↔ Only m' u s := by
  refine Only.lift hm' fun u => ?_
  clear hm'
  unfold State.pumpMesh
  simp only [State.landStray_only, State.pumpAdds_only, only_ite, only_ite_fst, ite_self, only_foldl, only_foldl_fst, implies_true, Only.refl, Nat.reduceOr]

theorem execRespRx_only (n : Nat) (tag : Option Nat) (node : Nat) (s : State) : Outs (Only 9377513 s) (execRespRx n tag node s) := by
  unfold execRespRx
  split
  · exact outs_onUnit (outs_onUnit (by simp))
  · exact outs_onUnit (outs_onUnit (by split <;> simp))

theorem execWritePacketRx_only (src tag : Nat) (s : State) : Outs (Only 9377513 s) (execWritePacketRx src tag s) := by
  unfold execWritePacketRx
  (repeat apply outs_onUnit); simp only [State.pumpMesh_only, State.writePacket_only, only_ite, only_ite_fst, ite_self, only_foldl, only_foldl_fst, implies_true, Only.refl, Nat.reduceOr, outs_next, outs_fault, outs_refused, outs_ite]

theorem execMoverDone_only (n : Nat) (s : State) : Outs (Only 9377513 s) (execMoverDone n s) := by
  unfold execMoverDone
  (repeat apply outs_onUnit); (try dsimp only); (repeat' split) <;> simp_all only [State.endTracked_only, State.localCopy_only, State.pumpMesh_only, only_ite, only_ite_fst, ite_self, only_foldl, only_foldl_fst, implies_true, Only.refl, Nat.reduceOr, outs_next, outs_fault, outs_refused, outs_ite]

@[simp] theorem State.resumeCore_only (s : State) (n : Nat) (left : Option Nat) (u : State) {m' : Nat} (hm' : 9402089 ||| m' = m' := by decide) : Only m' u (State.resumeCore s n left) ↔ Only m' u s := by
  refine Only.lift hm' fun u => ?_
  clear hm'
  unfold State.resumeCore
  simp only [State.dbgReport_only, State.freezeLeases_only, State.modCore_only, State.raise_only, State.retired_only, State.setCstate_only, State.setPc_only, State.setReg_only, State.wake_only, State.wdRun_only, only_ite, only_ite_fst, ite_self, only_foldl, only_foldl_fst, implies_true, Only.refl, Nat.reduceOr]

/-- The state an instruction leaves before its outcome is performed. -/
def Act.base (s : State) (a : Act) : State :=
  match a with
  | .retire t _ _ _ => t
  | .wait t _ _ => t
  | .own t => t
  | _ => s

theorem perform_base (s : State) (n v : Nat) (a : Act) : Only 9402089 (a.base s) (s.perform n v a) ∨ Only 9402089 s (s.perform n v a) := by
  cases a <;> simp only [State.perform, Act.base] <;> (repeat' split) <;> simp

/-- An instruction's own work touches only the parts of `m`. -/
def Act.Only (m : Nat) (s : State) (a : Act) : Prop := Machine.Only m s (a.base s)

@[simp] theorem act_keeps_retire {m : Nat} {s t : State} {n : Int} {c h : Nat} : (Act.retire t n c h).Only m s ↔ Only m s t := Iff.rfl

@[simp] theorem act_keeps_wait {m : Nat} {s t : State} {n : Int} {w : CpWait} : (Act.wait t n w).Only m s ↔ Only m s t := Iff.rfl

@[simp] theorem act_keeps_own {m : Nat} {s t : State} : (Act.own t).Only m s ↔ Only m s t := Iff.rfl

@[simp] theorem act_keeps_stall {m : Nat} {s : State} : Act.stall.Only m s := Only.refl m s

@[simp] theorem act_keeps_exc {m : Nat} {s : State} {c x : Nat} : (Act.exc c x).Only m s := Only.refl m s

theorem perform_only {m : Nat} (s : State) (n v : Nat) (a : Act) (h : a.Only m s) (hm : 9402089 ||| m = m) : Only m s (s.perform n v a) :=
  (perform_base s n v a).elim (fun g => Only.trans h (g.mono hm)) (fun g => g.mono hm)

end Sys2Proof.Machine
end

