-- ==== Sys2Proof/Laws/OnlyCpInstr.lean ====
section
/-! SUPPORT. Laws/OnlyCpInstr.lean: the pieces of the state that the operations and commands of Machine/CpInstr.lean may change. -/

namespace Sys2Proof.Machine
open Sys2Proof Sys2Proof.Machine.Reg

set_option linter.all false
set_option Elab.async false

theorem issue_only {m : Nat} (n want : Nat) (body : State → Nat → Act) (s : State) (h : ∀ s w, (body s w).Only m s)
    (hm : 9402089 ||| m = m := by decide) : Outs (Only m s) (issue n want body s) := by
  have hp : ∀ {t : State} {i v : Nat} {a : Act}, Only m s t → a.Only m t → Only m s (t.perform i v a) :=
    fun g k => g.trans (perform_only _ _ _ _ k (Only.sub (by decide) hm))
  unfold issue
  apply outs_onUnit
  split
  · dsimp only
    split
    · rw [outs_next, State.raise_only _ _ _ _ _ (Only.sub (by decide) hm)]; exact Only.refl m s
    split
    · exact (outs_next _ _).2 (hp (Only.refl m s) (h _ _))
    · exact (outs_next _ _).2 (Only.refl m s)
  · exact (outs_next _ _).2 (Only.refl m s)

@[simp] theorem State.result_only {m : Nat} {s t : State} {n w v c : Nat} (h : 524288 ||| m = m := by decide) : (t.result n w v c).Only m s ↔ Only m s t := by
  simp (disch := (refine Only.sub ?_ h; decide)) [State.result]

theorem execAlu_only (n : Nat) (s : State) : Outs (Only 9402089 s) (execAlu n s) := by
  unfold execAlu
  refine issue_only _ _ _ _ ?_; intro s w; (try dsimp only)
  (repeat' split) <;> simp_all

theorem execAlui_only (n : Nat) (s : State) : Outs (Only 9402089 s) (execAlui n s) := by
  unfold execAlui
  refine issue_only _ _ _ _ ?_; intro s w; (try dsimp only)
  (repeat' split) <;> simp_all

theorem execLui_only (n : Nat) (s : State) : Outs (Only 9402089 s) (execLui n s) := by
  unfold execLui
  refine issue_only _ _ _ _ ?_; intro s w; (try dsimp only)
  (repeat' split) <;> simp_all

theorem execOril_only (n : Nat) (s : State) : Outs (Only 9402089 s) (execOril n s) := by
  unfold execOril
  refine issue_only _ _ _ _ ?_; intro s w; (try dsimp only)
  (repeat' split) <;> simp_all

@[simp] theorem State.loadAct_only {s : State} {n w : Nat} {x : Bool} {m : Nat} (h : 524288 ||| m = m := by decide) : (s.loadAct n w x).Only m s := by
  unfold State.loadAct; dsimp only; split <;> simp (disch := (refine Only.sub ?_ h; decide))

theorem execLdu_only (n : Nat) (s : State) : Outs (Only 9402089 s) (execLdu n s) := by
  unfold execLdu
  refine issue_only _ _ _ _ ?_; intro s w; (try dsimp only)
  (repeat' split) <;> simp_all

theorem execLds_only (n : Nat) (s : State) : Outs (Only 9402089 s) (execLds n s) := by
  unfold execLds
  refine issue_only _ _ _ _ ?_; intro s w; (try dsimp only)
  (repeat' split) <;> simp_all

theorem execSt_only (n : Nat) (s : State) : Outs (Only 9402089 s) (execSt n s) := by
  unfold execSt
  refine issue_only _ _ _ _ ?_; intro s w; (try dsimp only)
  (repeat' split) <;> simp only [State.putData_only, only_ite, only_ite_fst, ite_self, act_keeps_retire, act_keeps_wait, act_keeps_own, act_keeps_stall, act_keeps_exc, Only.refl, Nat.reduceOr]

theorem execBc_only (n : Nat) (s : State) : Outs (Only 9402089 s) (execBc n s) := by
  unfold execBc
  refine issue_only _ _ _ _ ?_; intro s w; (try dsimp only)
  (repeat' split) <;> simp only [only_ite, only_ite_fst, ite_self, act_keeps_retire, act_keeps_wait, act_keeps_own, act_keeps_stall, act_keeps_exc, Only.refl, Nat.reduceOr]

theorem execJal_only (n : Nat) (s : State) : Outs (Only 9402089 s) (execJal n s) := by
  unfold execJal
  refine issue_only _ _ _ _ ?_; intro s w; (try dsimp only)
  (repeat' split) <;> simp only [State.setGpr_only, only_ite, only_ite_fst, ite_self, act_keeps_retire, act_keeps_wait, act_keeps_own, act_keeps_stall, act_keeps_exc, Only.refl, Nat.reduceOr]

theorem execJalr_only (n : Nat) (s : State) : Outs (Only 9402089 s) (execJalr n s) := by
  unfold execJalr
  refine issue_only _ _ _ _ ?_; intro s w; (try dsimp only)
  (repeat' split) <;> simp only [State.setGpr_only, only_ite, only_ite_fst, ite_self, act_keeps_retire, act_keeps_wait, act_keeps_own, act_keeps_stall, act_keeps_exc, Only.refl, Nat.reduceOr]

@[simp] theorem State.takeSlot_only (s : State) (n t : Nat) (op : Track) (u : State) {m' : Nat} (hm' : 524289 ||| m' = m' := by decide) : Only m' u (State.takeSlot s n t op) ↔ Only m' u s := by
  refine Only.lift hm' fun u => ?_
  clear hm'
  unfold State.takeSlot
  simp only [State.modCore_only, State.noteTrk_only, Only.refl, Nat.reduceOr]

@[simp] theorem State.paySend_only (s : State) (n t dst ch cls a len : Nat) (u : State) {m' : Nat} (hm' : 9245185 ||| m' = m' := by decide) : Only m' u (State.paySend s n t dst ch cls a len) ↔ Only m' u s := by
  refine Only.lift hm' fun u => ?_
  clear hm'
  unfold State.paySend
  simp only [State.bumpMseq_only, State.chargeMsg_only, State.modSlot_only, State.sendNext_only, State.setCredit_only, only_ite, only_ite_fst, ite_self, only_foldl, only_foldl_fst, implies_true, Only.refl, Nat.reduceOr]

@[simp] theorem State.sendAct_only {s : State} {n w : Nat} {m : Nat} (h : 9246209 ||| m = m := by decide) : (s.sendAct n w).Only m s := by
  unfold State.sendAct; dsimp only; (repeat' split) <;> simp (disch := (refine Only.sub ?_ h; decide))

@[simp] theorem State.sendOn_only (s : State) (n rd t : Nat) (u : State) {m' : Nat} (hm' : 9246209 ||| m' = m' := by decide) : Only m' u (State.sendOn s n rd t) ↔ Only m' u s := by
  refine Only.lift hm' fun u => ?_
  clear hm'
  unfold State.sendOn
  (try dsimp only); (repeat' split) <;> simp only [State.answer_only, State.endWait_only, State.paySend_only, only_ite, only_ite_fst, ite_self, only_foldl, only_foldl_fst, implies_true, Only.refl, Nat.reduceOr]

theorem execSend_only (n : Nat) (s : State) : Outs (Only 9402089 s) (execSend n s) := by
  unfold execSend
  split
  · simp
  · exact issue_only _ _ _ _ fun s w => State.sendAct_only

theorem execRecv_only (n : Nat) (s : State) : Outs (Only 9402089 s) (execRecv n s) := by
  unfold execRecv
  refine issue_only _ _ _ _ ?_; intro s w; try dsimp only
  split
  · simp
  · split
    · rename_i h; have := (State.takeMsg_only _ _ _ _ h).mono (m := 9402089) (by decide); simp_all
    · split <;> simp

theorem execRecvTimeout_only (n : Nat) (s : State) : Outs (Only 525312 s) (execRecvTimeout n s) := by
  unfold execRecvTimeout
  (repeat apply outs_onUnit); (try dsimp only); (repeat' split) <;> simp_all only [State.modCore_only, State.retired_only, State.setGpr_only, only_ite, only_ite_fst, ite_self, Only.refl, Nat.reduceOr, outs_next, outs_fault, outs_refused, outs_ite, implies_true]

theorem execMrel_only (n : Nat) (s : State) : Outs (Only 9402089 s) (execMrel n s) := by
  unfold execMrel
  refine issue_only _ _ _ _ ?_; intro s w; (try dsimp only)
  (repeat' split) <;> simp only [State.giveCredit_only, State.modChan_only, only_ite, only_ite_fst, ite_self, act_keeps_retire, act_keeps_wait, act_keeps_own, act_keeps_stall, act_keeps_exc, Only.refl, Nat.reduceOr]

theorem execMctlFlush_only (n : Nat) (s : State) : Outs (Only 9402089 s) (execMctlFlush n s) := by
  unfold execMctlFlush
  refine issue_only _ _ _ _ ?_; intro s w; (try dsimp only)
  (repeat' split) <;> simp only [State.flushChan_only, only_ite, only_ite_fst, ite_self, act_keeps_retire, act_keeps_wait, act_keeps_own, act_keeps_stall, act_keeps_exc, Only.refl, Nat.reduceOr]

theorem execMctlStatus_only (n : Nat) (s : State) : Outs (Only 9402089 s) (execMctlStatus n s) := by
  unfold execMctlStatus
  refine issue_only _ _ _ _ ?_; intro s w; (try dsimp only)
  (repeat' split) <;> simp_all

theorem execMsgPacketRx_only (src tag : Nat) (s : State) : Outs (Only 9377513 s) (execMsgPacketRx src tag s) := by
  unfold execMsgPacketRx
  (repeat apply outs_onUnit); (try dsimp only); (repeat' split) <;> simp_all only [State.msgPacket_only, State.pumpMesh_only, State.wake_only, only_ite, only_ite_fst, ite_self, only_foldl, only_foldl_fst, implies_true, Only.refl, Nat.reduceOr, outs_next, outs_fault, outs_refused, outs_ite]

@[simp] theorem State.nameMarker_only (s : State) (n k : Nat) (u : State) {m' : Nat} (hm' : 131072 ||| m' = m' := by decide) : Only m' u (State.nameMarker s n k) ↔ Only m' u s := by
  refine Only.lift hm' fun u => ?_
  clear hm'
  unfold State.nameMarker
  (try dsimp only); (repeat' split) <;> simp only [State.modPat_only, only_ite, only_ite_fst, ite_self, only_foldl, only_foldl_fst, implies_true, Only.refl, Nat.reduceOr]

@[simp] theorem State.takeNamed_only (s : State) (n t : Nat) (op : Track) (u : State) {m' : Nat} (hm' : 655361 ||| m' = m' := by decide) : Only m' u (State.takeNamed s n t op) ↔ Only m' u s := by
  refine Only.lift hm' fun u => ?_
  clear hm'
  unfold State.takeNamed
  (try dsimp only); (repeat' split) <;> simp only [State.nameMarker_only, State.takeSlot_only, only_ite, only_ite_fst, ite_self, only_foldl, only_foldl_fst, implies_true, Only.refl, Nat.reduceOr]

theorem execMop_only (n : Nat) (s : State) : Outs (Only 9402089 s) (execMop n s) := by
  unfold execMop
  refine issue_only _ _ _ _ ?_; intro s w; (try dsimp only)
  (repeat' split) <;> simp_all

theorem execMopb_only (n : Nat) (s : State) : Outs (Only 9402089 s) (execMopb n s) := by
  unfold execMopb
  refine issue_only _ _ _ _ ?_; intro s w; (try dsimp only)
  (repeat' split) <;> simp only [State.takeNamed_only, only_ite, only_ite_fst, ite_self, only_foldl, only_foldl_fst, implies_true, Only.refl, Nat.reduceOr, act_keeps_retire, act_keeps_wait, act_keeps_own, act_keeps_stall, act_keeps_exc]

theorem execMarkerReplyRx_only (n tag : Nat) (s : State) : Outs (Only 9246209 s) (execMarkerReplyRx n tag s) := by
  unfold execMarkerReplyRx
  (repeat apply outs_onUnit); dsimp only; (repeat' split) <;> simp only [State.answer_only, State.endTracked_only, State.modCore_only, State.wake_only, only_ite, only_ite_fst, ite_self, only_foldl, only_foldl_fst, implies_true, Only.refl, Nat.reduceOr, outs_next, outs_fault, outs_refused, outs_ite]

theorem execMovd_only (n : Nat) (s : State) : Outs (Only 9402089 s) (execMovd n s) := by
  unfold execMovd
  refine issue_only _ _ _ _ ?_; intro s w; (try dsimp only)
  (repeat' split) <;> simp_all

@[simp] theorem State.queueAct_only {s : State} {n w u kind : Nat} {bad : List Nat → Bool} {note : Core → List Nat → Core} {m : Nat}
    (h : 524288 ||| m = m := by decide) : (s.queueAct n w u kind bad note).Only m s := by
  unfold State.queueAct; dsimp only; (repeat' split) <;> simp (disch := (refine Only.sub ?_ h; decide))

theorem execMload_only (n : Nat) (s : State) : Outs (Only 9402089 s) (execMload n s) := by
  unfold execMload
  refine issue_only _ _ _ _ ?_; intro s w; (try dsimp only)
  (repeat' split) <;> simp_all

theorem execMrun_only (n : Nat) (s : State) : Outs (Only 9402089 s) (execMrun n s) := by
  unfold execMrun
  refine issue_only _ _ _ _ ?_; intro s w; (try dsimp only)
  (repeat' split) <;> simp_all

theorem execVrun_only (n : Nat) (s : State) : Outs (Only 9402089 s) (execVrun n s) := by
  unfold execVrun
  refine issue_only _ _ _ _ ?_; intro s w; (try dsimp only)
  (repeat' split) <;> simp_all

theorem execOcfg_only (n : Nat) (s : State) : Outs (Only 9402089 s) (execOcfg n s) := by
  unfold execOcfg
  refine issue_only _ _ _ _ ?_; intro s w; (try dsimp only)
  (repeat' split) <;> simp_all

theorem execOrun_only (n : Nat) (s : State) : Outs (Only 9402089 s) (execOrun n s) := by
  unfold execOrun
  refine issue_only _ _ _ _ ?_; intro s w; (try dsimp only)
  (repeat' split) <;> simp_all

theorem unitWait_only (n want u : Nat) (s : State) : Outs (Only 9402089 s) (unitWait n want u s) := by
  unfold unitWait
  split
  · split <;> simp
  · refine issue_only _ _ _ _ ?_; intro s w; dsimp only; split <;> simp

theorem execMwait_only (n : Nat) (s : State) : Outs (Only 9402089 s) (execMwait n s) := by
  exact unitWait_only _ _ _ _

theorem execMstat_only (n : Nat) (s : State) : Outs (Only 9402089 s) (execMstat n s) := by
  unfold execMstat
  refine issue_only _ _ _ _ ?_; intro s w; (try dsimp only)
  (repeat' split) <;> simp_all

theorem execVwait_only (n : Nat) (s : State) : Outs (Only 9402089 s) (execVwait n s) := by
  exact unitWait_only _ _ _ _

theorem execOwait_only (n : Nat) (s : State) : Outs (Only 9402089 s) (execOwait n s) := by
  exact unitWait_only _ _ _ _

theorem execDone_only (n : Nat) (s : State) : Outs (Only 9402089 s) (execDone n s) := by
  unfold execDone
  refine issue_only _ _ _ _ ?_; intro s w; (try dsimp only)
  (repeat' split) <;> simp only [State.modCore_only, only_ite, only_ite_fst, ite_self, only_foldl, only_foldl_fst, implies_true, Only.refl, Nat.reduceOr, act_keeps_retire, act_keeps_wait, act_keeps_own, act_keeps_stall, act_keeps_exc]

theorem execJobComplete_only (n : Nat) (s : State) : Outs (Only 9401857 s) (execJobComplete n s) := by
  unfold execJobComplete
  (repeat apply outs_onUnit); dsimp only; (repeat' split) <;> simp only [State.closeJob_only, State.countAbort_only, State.haltCore_only, State.retired_only, State.tellPat_only, only_ite, only_ite_fst, ite_self, only_foldl, only_foldl_fst, implies_true, Only.refl, Nat.reduceOr, outs_next, outs_fault, outs_refused, outs_ite]

theorem execFence_only (n : Nat) (s : State) : Outs (Only 9402089 s) (execFence n s) := by
  unfold execFence
  split
  · split <;> simp
  · refine issue_only _ _ _ _ ?_; intro s w; dsimp only; split <;> simp

theorem execWaitt_only (n : Nat) (s : State) : Outs (Only 9402089 s) (execWaitt n s) := by
  unfold execWaitt
  split
  · split <;> simp
  · refine issue_only _ _ _ _ ?_; intro s w; dsimp only; (repeat' split) <;> simp

theorem execWstitch_only (n : Nat) (s : State) : Outs (Only 9402089 s) (execWstitch n s) := by
  unfold execWstitch
  refine issue_only _ _ _ _ ?_; intro s w; (try dsimp only)
  (repeat' split) <;> simp only [State.setCstate_only, State.wdHold_only, only_ite, only_ite_fst, ite_self, act_keeps_retire, act_keeps_wait, act_keeps_own, act_keeps_stall, act_keeps_exc, Only.refl, Nat.reduceOr]

theorem execWstitchWake_only (n : Nat) (s : State) : Outs (Only 525313 s) (execWstitchWake n s) := by
  unfold execWstitchWake
  (repeat apply outs_onUnit); (try dsimp only); (repeat' split) <;> simp_all only [State.endWait_only, State.setCstate_only, State.wdRun_only, only_ite, only_ite_fst, ite_self, Only.refl, Nat.reduceOr, outs_next, outs_fault, outs_refused, outs_ite, implies_true]

theorem State.setCsr_only (s : State) (n x v : Nat) : ∀ t, State.setCsr s n x v = some t → Only 524288 s t := by
  unfold State.setCsr; intro t h; (repeat' split at h) <;> simp at h <;> subst h <;> simp

theorem execCsrr_only (n : Nat) (s : State) : Outs (Only 9402089 s) (execCsrr n s) := by
  unfold execCsrr
  refine issue_only _ _ _ _ ?_; intro s w; (try dsimp only)
  (repeat' split) <;> simp_all

theorem execCsrw_only (n : Nat) (s : State) : Outs (Only 9402089 s) (execCsrw n s) := by
  unfold execCsrw
  refine issue_only _ _ _ _ ?_; intro s w; try dsimp only
  split
  · rename_i h; have := (State.setCsr_only _ _ _ _ _ h).mono (m := 9402089) (by decide); simp_all
  · simp

theorem execWdkick_only (n : Nat) (s : State) : Outs (Only 9402089 s) (execWdkick n s) := by
  unfold execWdkick
  refine issue_only _ _ _ _ ?_; intro s w; (try dsimp only)
  (repeat' split) <;> simp only [State.wdReload_only, only_ite, only_ite_fst, ite_self, act_keeps_retire, act_keeps_wait, act_keeps_own, act_keeps_stall, act_keeps_exc, Only.refl, Nat.reduceOr]

theorem execBreak_only (n : Nat) (s : State) : Outs (Only 9402089 s) (execBreak n s) := by
  unfold execBreak
  refine issue_only _ _ _ _ ?_; intro s w; (try dsimp only)
  (repeat' split) <;> simp only [State.haltCore_only, only_ite, only_ite_fst, ite_self, act_keeps_retire, act_keeps_wait, act_keeps_own, act_keeps_stall, act_keeps_exc, Only.refl, Nat.reduceOr]

theorem execCoreHalt_only (n : Nat) (s : State) : Outs (Only 9254401 s) (execCoreHalt n s) := by
  unfold execCoreHalt
  (repeat apply outs_onUnit); (try dsimp only); (repeat' split) <;> simp_all only [State.haltCore_only, Only.refl, Nat.reduceOr, outs_next, outs_fault, outs_refused, outs_ite, implies_true]

end Sys2Proof.Machine
end

