-- ==== Sys2Proof/Laws/OnlyLace.lean ====
section
/-! SUPPORT. Laws/OnlyLace.lean: the pieces of the state that the operations and commands of Machine/Lace.lean may change. -/

namespace Sys2Proof.Machine
open Sys2Proof Sys2Proof.Machine.Reg

set_option linter.all false
set_option Elab.async false

@[simp] theorem State.setSolve_only (s : State) (k : Nat) (v : Solve) (u : State) {m' : Nat} (hm' : 2097152 ||| m' = m' := by decide) : Only m' u (State.setSolve s k v) ↔ Only m' u s := by
  refine Only.lift hm' fun u => ?_
  clear hm'
  unfold State.setSolve
  simp only [State.modEngine_only, Only.refl, Nat.reduceOr]

@[simp] theorem State.laceStep_only (s : State) (k want : Nat) (u : State) {m' : Nat} (hm' : 2097184 ||| m' = m' := by decide) : Only m' u (State.laceStep s k want) ↔ Only m' u s := by
  refine Only.lift hm' fun u => ?_
  clear hm'
  unfold State.laceStep
  (repeat' split) <;> (try simp; done)
  all_goals (dsimp only; (repeat' split) <;> simp)

theorem execLaceFma_only (k : Nat) (s : State) : Outs (Only 2097184 s) (execLaceFma k s) := by
  unfold execLaceFma laceRow; apply outs_onUnit; simp

theorem execLaceFms_only (k : Nat) (s : State) : Outs (Only 2097184 s) (execLaceFms k s) := by
  unfold execLaceFms laceRow; apply outs_onUnit; simp

theorem execLaceFnma_only (k : Nat) (s : State) : Outs (Only 2097184 s) (execLaceFnma k s) := by
  unfold execLaceFnma laceRow; apply outs_onUnit; simp

theorem execLaceAdd_only (k : Nat) (s : State) : Outs (Only 2097184 s) (execLaceAdd k s) := by
  unfold execLaceAdd laceRow; apply outs_onUnit; simp

theorem execLaceSub_only (k : Nat) (s : State) : Outs (Only 2097184 s) (execLaceSub k s) := by
  unfold execLaceSub laceRow; apply outs_onUnit; simp

theorem execLaceMul_only (k : Nat) (s : State) : Outs (Only 2097184 s) (execLaceMul k s) := by
  unfold execLaceMul laceRow; apply outs_onUnit; simp

theorem execLaceMax_only (k : Nat) (s : State) : Outs (Only 2097184 s) (execLaceMax k s) := by
  unfold execLaceMax laceRow; apply outs_onUnit; simp

theorem execLaceMin_only (k : Nat) (s : State) : Outs (Only 2097184 s) (execLaceMin k s) := by
  unfold execLaceMin laceRow; apply outs_onUnit; simp

theorem execLaceAbs_only (k : Nat) (s : State) : Outs (Only 2097184 s) (execLaceAbs k s) := by
  unfold execLaceAbs laceRow; apply outs_onUnit; simp

theorem execLaceNeg_only (k : Nat) (s : State) : Outs (Only 2097184 s) (execLaceNeg k s) := by
  unfold execLaceNeg laceRow; apply outs_onUnit; simp

theorem execLaceMov_only (k : Nat) (s : State) : Outs (Only 2097184 s) (execLaceMov k s) := by
  unfold execLaceMov laceRow; apply outs_onUnit; simp

theorem execLaceSel_only (k : Nat) (s : State) : Outs (Only 2097184 s) (execLaceSel k s) := by
  unfold execLaceSel laceRow; apply outs_onUnit; simp

theorem execLaceConst_only (k : Nat) (s : State) : Outs (Only 2097184 s) (execLaceConst k s) := by
  unfold execLaceConst laceRow; apply outs_onUnit; simp

theorem execLaceDiv_only (k : Nat) (s : State) : Outs (Only 2097184 s) (execLaceDiv k s) := by
  unfold execLaceDiv laceRow; apply outs_onUnit; simp

theorem execLaceSqrt_only (k : Nat) (s : State) : Outs (Only 2097184 s) (execLaceSqrt k s) := by
  unfold execLaceSqrt laceRow; apply outs_onUnit; simp

theorem execLacePivr_only (k : Nat) (s : State) : Outs (Only 2097184 s) (execLacePivr k s) := by
  unfold execLacePivr laceRow; apply outs_onUnit; simp

theorem execLacePivrp_only (k : Nat) (s : State) : Outs (Only 2097184 s) (execLacePivrp k s) := by
  unfold execLacePivrp laceRow; apply outs_onUnit; simp

theorem execLaceGpiv_only (k : Nat) (s : State) : Outs (Only 2097184 s) (execLaceGpiv k s) := by
  unfold execLaceGpiv laceRow; apply outs_onUnit; simp

theorem execLaceGpivp_only (k : Nat) (s : State) : Outs (Only 2097184 s) (execLaceGpivp k s) := by
  unfold execLaceGpivp laceRow; apply outs_onUnit; simp

theorem execLaceLd_only (k : Nat) (s : State) : Outs (Only 2097184 s) (execLaceLd k s) := by
  unfold execLaceLd laceRow; apply outs_onUnit; simp

theorem execLaceSt_only (k : Nat) (s : State) : Outs (Only 2097184 s) (execLaceSt k s) := by
  unfold execLaceSt laceRow; apply outs_onUnit; simp

theorem execLaceNop_only (k : Nat) (s : State) : Outs (Only 2097184 s) (execLaceNop k s) := by
  unfold execLaceNop laceRow; apply outs_onUnit; simp

theorem execLaceWait_only (k : Nat) (s : State) : Outs (Only 2097184 s) (execLaceWait k s) := by
  unfold execLaceWait laceRow; apply outs_onUnit; simp

theorem execLaceSpec_only (k : Nat) (s : State) : Outs (Only 2097184 s) (execLaceSpec k s) := by
  unfold execLaceSpec laceRow; apply outs_onUnit; simp

theorem execLaceRep_only (k : Nat) (s : State) : Outs (Only 2097184 s) (execLaceRep k s) := by
  unfold execLaceRep laceRow; apply outs_onUnit; simp

theorem execLaceEnd_only (k : Nat) (s : State) : Outs (Only 2097184 s) (execLaceEnd k s) := by
  unfold execLaceEnd laceRow; apply outs_onUnit; simp

end Sys2Proof.Machine
end

