-- ==== Sys2Proof/Laws/OnlySolver.lean ====
section
/-! SUPPORT. Laws/OnlySolver.lean: the pieces of the state that the operations and commands of Machine/Solver.lean may change. -/

namespace Sys2Proof.Machine
open Sys2Proof Sys2Proof.Machine.Reg

set_option linter.all false
set_option Elab.async false

@[simp] theorem State.solReport_only (s : State) (k i b sev : Nat) (job : Nat) (group : Nat) (code flags npiv : Nat) (u : State) {m' : Nat} (hm' : 10555905 ||| m' = m' := by decide) : Only m' u (State.solReport s k i b sev job group code flags npiv) ↔ Only m' u s := by
  refine Only.lift hm' fun u => ?_
  clear hm'
  unfold State.solReport
  simp only [State.event_only, State.journal_only, State.modPslot_only, only_ite, only_ite_fst, ite_self, Only.refl, Nat.reduceOr]

@[simp] theorem State.noteSlot_only (s : State) (k i : Nat) (u : State) {m' : Nat} (hm' : 1 ||| m' = m' := by decide) : Only m' u (State.noteSlot s k i) ↔ Only m' u s := by
  refine Only.lift hm' fun u => ?_
  clear hm'
  unfold State.noteSlot
  (try dsimp only); (repeat' split) <;> simp only [State.setFld_only, only_ite, only_ite_fst, ite_self, only_foldl, only_foldl_fst, implies_true, Only.refl, Nat.reduceOr]

@[simp] theorem State.applySlot_only (s : State) (k i : Nat) (u : State) {m' : Nat} (hm' : 10555905 ||| m' = m' := by decide) : Only m' u (State.applySlot s k i) ↔ Only m' u s := by
  refine Only.lift hm' fun u => ?_
  clear hm'
  unfold State.applySlot
  simp only [State.apply1_only, State.modPslot_only, State.notePlan_only, State.noteSlot_only, State.setFld_only, State.setRegN_only, State.solReport_only, only_ite, only_ite_fst, ite_self, only_foldl, only_foldl_fst, implies_true, Only.refl, Nat.reduceOr]

@[simp] theorem State.resetSlot_only (s : State) (k i : Nat) (u : State) {m' : Nat} (hm' : 10565121 ||| m' = m' := by decide) : Only m' u (State.resetSlot s k i) ↔ Only m' u s := by
  refine Only.lift hm' fun u => ?_
  clear hm'
  unfold State.resetSlot
  simp only [State.modPslot_only, State.noteSlot_only, State.setFld_only, State.settle_only, only_ite, only_ite_fst, ite_self, Only.refl, Nat.reduceOr]

@[simp] theorem State.slotPoint_only (s : State) (k i : Nat) (u : State) {m' : Nat} (hm' : 10565121 ||| m' = m' := by decide) : Only m' u (State.slotPoint s k i) ↔ Only m' u s := by
  refine Only.lift hm' fun u => ?_
  clear hm'
  unfold State.slotPoint
  simp only [State.applySlot_only, State.resetSlot_only, only_ite, only_ite_fst, ite_self, Only.refl, Nat.reduceOr]

@[simp] theorem State.commitPage_only (s : State) (k i : Nat) (u : State) {m' : Nat} (hm' : 2097153 ||| m' = m' := by decide) : Only m' u (State.commitPage s k i) ↔ Only m' u s := by
  refine Only.lift hm' fun u => ?_
  clear hm'
  unfold State.commitPage
  simp only [State.modPslot_only, State.setFld_only, Only.refl, Nat.reduceOr]

@[simp] theorem State.pumpCommits_only (s : State) (k i : Nat) (x : Nat) (u : State) {m' : Nat} (hm' : 10565121 ||| m' = m' := by decide) : Only m' u (State.pumpCommits s k i x) ↔ Only m' u s := by
  refine Only.lift hm' fun u => ?_
  clear hm'
  induction x generalizing s with
  | zero => simp [State.pumpCommits]
  | succ n ih =>
    unfold State.pumpCommits
    split
    · simp
    · (try dsimp only); rw [ih]; simp

@[simp] theorem State.pgCommit_only (s : State) (k i : Nat) (u : State) {m' : Nat} (hm' : 10565121 ||| m' = m' := by decide) : Only m' u (State.pgCommit s k i) ↔ Only m' u s := by
  refine Only.lift hm' fun u => ?_
  clear hm'
  unfold State.pgCommit
  simp only [State.modPslot_only, State.pumpCommits_only, State.setFld_only, only_ite, only_ite_fst, ite_self, Only.refl, Nat.reduceOr]

@[simp] theorem State.latchNow_only (s : State) (k i : Nat) (inst : Option Nat) (arg : Nat) (u : State) {m' : Nat} (hm' : 2097153 ||| m' = m' := by decide) : Only m' u (State.latchNow s k i inst arg) ↔ Only m' u s := by
  refine Only.lift hm' fun u => ?_
  clear hm'
  unfold State.latchNow
  simp only [State.modPslot_only, State.noteSlot_only, only_latch, only_inst, only_ite, only_ite_fst, ite_self, Only.refl, Nat.reduceOr]

@[simp] theorem State.latchFired_only (s : State) (k : Nat) (u : State) {m' : Nat} (hm' : 2097153 ||| m' = m' := by decide) : Only m' u (State.latchFired s k) ↔ Only m' u s := by
  refine Only.lift hm' fun u => ?_
  clear hm'
  unfold State.latchFired
  simp only [State.latchNow_only, only_ite, only_ite_fst, ite_self, only_foldl, only_foldl_fst, implies_true, Only.refl, Nat.reduceOr]

@[simp] theorem State.modIn_only (s : State) (k c : Nat) (f : Chan → Chan) (u : State) {m' : Nat} (hm' : 2097152 ||| m' = m' := by decide) : Only m' u (State.modIn s k c f) ↔ Only m' u s := by
  refine Only.lift hm' fun u => ?_
  clear hm'
  unfold State.modIn
  simp only [State.modEngine_only, Only.refl, Nat.reduceOr]

@[simp] theorem State.noteIn_only (s : State) (k c : Nat) (u : State) {m' : Nat} (hm' : 1 ||| m' = m' := by decide) : Only m' u (State.noteIn s k c) ↔ Only m' u s := by
  refine Only.lift hm' fun u => ?_
  clear hm'
  unfold State.noteIn
  simp only [State.setFld_only, only_ite, only_ite_fst, ite_self, only_foldl, only_foldl_fst, implies_true, Only.refl, Nat.reduceOr]

@[simp] theorem State.endIn_only (s : State) (k c : Nat) (a : Arriving) (st : Nat) (u : State) {m' : Nat} (hm' : 786432 ||| m' = m' := by decide) : Only m' u (State.endIn s k c a st) ↔ Only m' u s := by
  refine Only.lift hm' fun u => ?_
  clear hm'
  unfold State.endIn
  (try dsimp only); (repeat' split) <;> simp only [State.answer_only, only_ite, only_ite_fst, ite_self, only_foldl, only_foldl_fst, implies_true, Only.refl, Nat.reduceOr]

@[simp] theorem State.freeIn_only (s : State) (k c : Nat) (a : Arriving) (st : Nat) (u : State) {m' : Nat} (hm' : 786432 ||| m' = m' := by decide) : Only m' u (State.freeIn s k c a st) ↔ Only m' u s := by
  refine Only.lift hm' fun u => ?_
  clear hm'
  unfold State.freeIn
  simp only [State.endIn_only, State.sendCredit_only, only_ite, only_ite_fst, ite_self, only_foldl, only_foldl_fst, implies_true, Only.refl, Nat.reduceOr]

@[simp] theorem State.flushIn_only (s : State) (k c : Nat) (u : State) {m' : Nat} (hm' : 2883585 ||| m' = m' := by decide) : Only m' u (State.flushIn s k c) ↔ Only m' u s := by
  refine Only.lift hm' fun u => ?_
  clear hm'
  unfold State.flushIn
  simp only [State.count_only, State.freeIn_only, State.modIn_only, State.noteIn_only, State.setFld_only, only_ite, only_ite_fst, ite_self, only_foldl, only_foldl_fst, implies_true, Only.refl, Nat.reduceOr]

@[simp] theorem State.badIn_only (s : State) (k np : Nat) (src : Bool) (body : List Nat) (u : State) {m' : Nat} (hm' : 10556929 ||| m' = m' := by decide) : Only m' u (State.badIn s k np src body) ↔ Only m' u s := by
  refine Only.lift hm' fun u => ?_
  clear hm'
  unfold State.badIn
  simp only [State.count_only, State.draw_only, State.solReport_only, only_ite, only_ite_fst, ite_self, only_foldl, only_foldl_fst, implies_true, Only.refl, Nat.reduceOr]

@[simp] theorem State.applyInput_only (s : State) (k : Nat) (body : List Nat) (u : State) {m' : Nat} (hm' : 2097185 ||| m' = m' := by decide) : Only m' u (State.applyInput s k body) ↔ Only m' u s := by
  refine Only.lift hm' fun u => ?_
  clear hm'
  unfold State.applyInput
  simp only [State.commitPage_only, State.putSol_only, only_ite, only_ite_fst, ite_self, only_foldl, only_foldl_fst, implies_true, Only.refl, Nat.reduceOr]

@[simp] theorem State.pumpIn_only (s : State) (k c : Nat) (x : Nat) (u : State) {m' : Nat} (hm' : 2883617 ||| m' = m' := by decide) : Only m' u (State.pumpIn s k c x) ↔ Only m' u s := by
  refine Only.lift hm' fun u => ?_
  clear hm'
  fun_induction State.pumpIn s k c x <;> simp_all only [State.applyInput_only, State.freeIn_only, State.modIn_only, State.noteIn_only, only_ite, only_ite_fst, ite_self, only_foldl, only_foldl_fst, implies_true, Only.refl, Nat.reduceOr]

@[simp] theorem State.takeInput_only (s : State) (k c : Nat) (a : Arriving) (u : State) {m' : Nat} (hm' : 11343393 ||| m' = m' := by decide) : Only m' u (State.takeInput s k c a) ↔ Only m' u s := by
  refine Only.lift hm' fun u => ?_
  clear hm'
  unfold State.takeInput
  simp only [State.badIn_only, State.endIn_only, State.freeIn_only, State.modIn_only, State.pumpIn_only, only_ite, only_ite_fst, ite_self, only_foldl, only_foldl_fst, implies_true, Only.refl, Nat.reduceOr]

@[simp] theorem State.inputMsg_only (s : State) (src tag : Nat) (u : State) {m' : Nat} (hm' : 11343393 ||| m' = m' := by decide) : Only m' u (State.inputMsg s src tag) ↔ Only m' u s := by
  refine Only.lift hm' fun u => ?_
  clear hm'
  unfold State.inputMsg
  dsimp only
  (repeat' split) <;> (try simp; done)
  all_goals (rw [State.applyInput_only] <;> intros <;> simp)

theorem execSolverInputMsg_only (src tag : Nat) (s : State) : Outs (Only 11474665 s) (execSolverInputMsg src tag s) := by
  unfold execSolverInputMsg
  (repeat apply outs_onUnit); simp only [State.inputMsg_only, State.pumpMesh_only, only_ite, only_ite_fst, ite_self, only_foldl, only_foldl_fst, implies_true, Only.refl, Nat.reduceOr, outs_next, outs_fault, outs_refused, outs_ite]

@[simp] theorem State.afterUnlock_only (s : State) (k i : Nat) (u : State) {m' : Nat} (hm' : 11351585 ||| m' = m' := by decide) : Only m' u (State.afterUnlock s k i) ↔ Only m' u s := by
  refine Only.lift hm' fun u => ?_
  clear hm'
  unfold State.afterUnlock
  simp only [State.noteSlot_only, State.pumpCommits_only, State.pumpIn_only, State.slotPoint_only, only_ite, only_ite_fst, ite_self, only_foldl, only_foldl_fst, implies_true, Only.refl, Nat.reduceOr]

@[simp] theorem State.unlatch_only (s : State) (k id : Nat) (u : State) {m' : Nat} (hm' : 11351585 ||| m' = m' := by decide) : Only m' u (State.unlatch s k id) ↔ Only m' u s := by
  refine Only.lift hm' fun u => ?_
  clear hm'
  unfold State.unlatch
  simp only [State.afterUnlock_only, State.modPslot_only, only_latch, only_ite, only_ite_fst, ite_self, only_foldl, only_foldl_fst, implies_true, Only.refl, Nat.reduceOr]

@[simp] theorem State.kickSlot_only (s : State) (k i arg : Nat) (u : State) {m' : Nat} (hm' : 10555905 ||| m' = m' := by decide) : Only m' u (State.kickSlot s k i arg).1 ↔ Only m' u s := by
  refine Only.lift hm' fun u => ?_
  clear hm'
  unfold State.kickSlot; split <;> simp

theorem State.takeLatch_only (s : State) (k i : Nat) (inst : Option Nat) (t : Latch × State) (h : s.takeLatch k i inst = some t) :
    Only 2097152 s t.2 := by
  unfold State.takeLatch at h; simp at h; obtain ⟨_, _, rfl⟩ := h; simp

@[simp] theorem State.startSolve_only (s : State) (k i : Nat) (l : Latch) (u : State) {m' : Nat} (hm' : 10696193 ||| m' = m' := by decide) : Only m' u (State.startSolve s k i l) ↔ Only m' u s := by
  refine Only.lift hm' fun u => ?_
  clear hm'
  unfold State.startSolve
  (try dsimp only); (repeat' split) <;> simp only [State.markRunning_only, State.modPslot_only, State.noteSlot_only, State.setFld_only, State.setSolve_only, State.slotPoint_only, only_ite, only_ite_fst, ite_self, only_foldl, only_foldl_fst, implies_true, Only.refl, Nat.reduceOr]

@[simp] theorem State.nextSolve_only (s : State) (k : Nat) (u : State) {m' : Nat} (hm' : 10696193 ||| m' = m' := by decide) : Only m' u (State.nextSolve s k) ↔ Only m' u s := by
  refine Only.lift hm' fun u => ?_
  clear hm'
  unfold State.nextSolve
  split
  · simp
  · split
    · split
      · rename_i h; have := Only.iff (m := 10696193) (u := u) (by decide) (State.takeLatch_only _ _ _ _ _ h); simp_all
      · simp
    · split
      · split
        · rename_i h; have := Only.iff (m := 10696193) (u := u) (by decide) (State.takeLatch_only _ _ _ _ _ h); simp_all
        · simp
      · simp

theorem execSolveStart_only (k : Nat) (s : State) : Outs (Only 10696193 s) (execSolveStart k s) := by
  unfold execSolveStart
  (repeat apply outs_onUnit); simp only [State.nextSolve_only, Only.refl, Nat.reduceOr, outs_next, outs_fault, outs_refused, outs_ite, implies_true]

@[simp] theorem State.postSolve_only (s : State) (k : Nat) (bytes : List Nat) (u : State) {m' : Nat} (hm' : 8475137 ||| m' = m' := by decide) : Only m' u (State.postSolve s k bytes) ↔ Only m' u s := by
  refine Only.lift hm' fun u => ?_
  clear hm'
  unfold State.postSolve
  simp only [State.post_only, only_rnd, Only.refl, Nat.reduceOr]

@[simp] theorem State.addOwed_only (s : State) (k i : Nat) (u : State) {m' : Nat} (hm' : 11342337 ||| m' = m' := by decide) : Only m' u (State.addOwed s k i) ↔ Only m' u s := by
  refine Only.lift hm' fun u => ?_
  clear hm'
  unfold State.addOwed
  (try dsimp only); (repeat' split) <;> simp only [State.blockAdd_only, State.modPslot_only, only_ite, only_ite_fst, ite_self, only_foldl, only_foldl_fst, implies_true, Only.refl, Nat.reduceOr]

@[simp] theorem State.postOwed_only (s : State) (k i : Nat) (u : State) {m' : Nat} (hm' : 10572289 ||| m' = m' := by decide) : Only m' u (State.postOwed s k i) ↔ Only m' u s := by
  refine Only.lift hm' fun u => ?_
  clear hm'
  unfold State.postOwed
  (try dsimp only); (repeat' split) <;> simp only [State.modPslot_only, State.postSolve_only, State.post_only, only_ite, only_ite_fst, ite_self, only_foldl, only_foldl_fst, implies_true, Only.refl, Nat.reduceOr]

@[simp] theorem State.doOwed_only (s : State) (k i : Nat) (u : State) {m' : Nat} (hm' : 11358721 ||| m' = m' := by decide) : Only m' u (State.doOwed s k i) ↔ Only m' u s := by
  refine Only.lift hm' fun u => ?_
  clear hm'
  unfold State.doOwed
  simp only [State.addOwed_only, State.modPslot_only, State.postOwed_only, only_ite, only_ite_fst, ite_self, only_foldl, only_foldl_fst, implies_true, Only.refl, Nat.reduceOr]

@[simp] theorem State.replaceSend_only (s : State) (k i : Nat) (u : State) {m' : Nat} (hm' : 11358721 ||| m' = m' := by decide) : Only m' u (State.replaceSend s k i) ↔ Only m' u s := by
  refine Only.lift hm' fun u => ?_
  clear hm'
  unfold State.replaceSend
  (try dsimp only); (repeat' split) <;> simp only [State.count_only, State.doOwed_only, State.solReport_only, only_ite, only_ite_fst, ite_self, only_foldl, only_foldl_fst, implies_true, Only.refl, Nat.reduceOr]

@[simp] theorem State.endSolves_only (s : State) (u : State) {m' : Nat} (hm' : 8458753 ||| m' = m' := by decide) : Only m' u (State.endSolves s) ↔ Only m' u s := by
  refine Only.lift hm' fun u => ?_
  clear hm'
  unfold State.endSolves
  simp only [State.journal_only, only_boot, only_ite, only_ite_fst, ite_self, only_foldl, only_foldl_fst, implies_true, Only.refl, Nat.reduceOr]

@[simp] theorem State.noteSolved_only (s : State) (abort : Bool) (u : State) {m' : Nat} (hm' : 8458753 ||| m' = m' := by decide) : Only m' u (State.noteSolved s abort) ↔ Only m' u s := by
  refine Only.lift hm' fun u => ?_
  clear hm'
  unfold State.noteSolved
  simp only [State.endSolves_only, only_boot, only_ite, only_ite_fst, ite_self, Only.refl, Nat.reduceOr]

@[simp] theorem State.finishSolve_only (s : State) (k : Nat) (v : Solve) (r : Report) (abort : Bool) (u : State) {m' : Nat} (hm' : 11499041 ||| m' = m' := by decide) : Only m' u (State.finishSolve s k v r abort) ↔ Only m' u s := by
  refine Only.lift hm' fun u => ?_
  clear hm'
  unfold State.finishSolve
  (try dsimp only); (repeat' split) <;> simp only [State.afterUnlock_only, State.endPart_only, State.modEngine_only, State.modPslot_only, State.noteLate_only, State.noteSolved_only, State.putSol_only, State.replaceSend_only, State.setFld_only, State.settle_only, State.solReport_only, only_ite, only_ite_fst, ite_self, only_foldl, only_foldl_fst, implies_true, Only.refl, Nat.reduceOr]

@[simp] theorem State.keepRegs_only (s : State) (k : Nat) (d : List (Nat × DWord)) (u : State) {m' : Nat} (hm' : 2097152 ||| m' = m' := by decide) : Only m' u (State.keepRegs s k d) ↔ Only m' u s := by
  refine Only.lift hm' fun u => ?_
  clear hm'
  unfold State.keepRegs
  simp only [State.modEngine_only, Only.refl, Nat.reduceOr]

@[simp] theorem State.endSolve_only (s : State) (k : Nat) (u : State) {m' : Nat} (hm' : 11499041 ||| m' = m' := by decide) : Only m' u (State.endSolve s k) ↔ Only m' u s := by
  refine Only.lift hm' fun u => ?_
  clear hm'
  unfold State.endSolve
  (try dsimp only); (repeat' split) <;> simp only [State.countAbort_only, State.finishSolve_only, State.keepRegs_only, State.putSol_only, only_ite, only_ite_fst, ite_self, only_foldl, only_foldl_fst, implies_true, Only.refl, Nat.reduceOr]

theorem execSolveEnd_only (k : Nat) (s : State) : Outs (Only 11499041 s) (execSolveEnd k s) := by
  unfold execSolveEnd
  (repeat apply outs_onUnit); simp only [State.endSolve_only, Only.refl, Nat.reduceOr, outs_next, outs_fault, outs_refused, outs_ite, implies_true]

@[simp] theorem State.abortSolve_only (s : State) (k : Nat) (u : State) {m' : Nat} (hm' : 11499041 ||| m' = m' := by decide) : Only m' u (State.abortSolve s k) ↔ Only m' u s := by
  refine Only.lift hm' fun u => ?_
  clear hm'
  unfold State.abortSolve
  (try dsimp only); (repeat' split) <;> simp only [State.draw_only, State.finishSolve_only, State.keepRegs_only, State.putSol_only, only_ite, only_ite_fst, ite_self, only_foldl, only_foldl_fst, implies_true, Only.refl, Nat.reduceOr]

@[simp] theorem State.abortLatch_only (s : State) (k i id : Nat) (u : State) {m' : Nat} (hm' : 11499041 ||| m' = m' := by decide) : Only m' u (State.abortLatch s k i id) ↔ Only m' u s := by
  refine Only.lift hm' fun u => ?_
  clear hm'
  unfold State.abortLatch
  split
  · rename_i h; have := Only.iff (m := 11499041) (u := u) (by decide) (State.takeLatch_only _ _ _ _ _ h); simp_all
  · simp

@[simp] theorem State.sendResult_only (s : State) (k dst chan cls mseq np : Nat) (body : List Nat) (x : Nat) (u : State) {m' : Nat} (hm' : 9245193 ||| m' = m' := by decide) : Only m' u (State.sendResult s k dst chan cls mseq np body x) ↔ Only m' u s := by
  refine Only.lift hm' fun u => ?_
  clear hm'
  induction x generalizing s with
  | zero => simp [State.sendResult]
  | succ n ih => unfold State.sendResult; (try dsimp only); rw [ih]; simp

theorem execSolverResultSend_only (k i : Nat) (s : State) : Outs (Only 11359753 s) (execSolverResultSend k i s) := by
  unfold execSolverResultSend
  (repeat apply outs_onUnit); dsimp only; (repeat' split) <;> simp only [State.bumpMseq_only, State.doOwed_only, State.postOwed_only, State.sendResult_only, State.setCredit_only, State.wake_only, only_ite, only_ite_fst, ite_self, only_foldl, only_foldl_fst, implies_true, Only.refl, Nat.reduceOr, outs_next, outs_fault, outs_refused, outs_ite]

@[simp] theorem State.askReset_only (s : State) (k i : Nat) (u : State) {m' : Nat} (hm' : 10565121 ||| m' = m' := by decide) : Only m' u (State.askReset s k i) ↔ Only m' u s := by
  refine Only.lift hm' fun u => ?_
  clear hm'
  unfold State.askReset
  (try dsimp only); (repeat' split) <;> simp only [State.modPslot_only, State.resetSlot_only, State.setFld_only, State.setSolve_only, only_ite, only_ite_fst, ite_self, only_foldl, only_foldl_fst, implies_true, Only.refl, Nat.reduceOr]

@[simp] theorem State.flushIns_only (s : State) (k mask : Nat) (u : State) {m' : Nat} (hm' : 2883585 ||| m' = m' := by decide) : Only m' u (State.flushIns s k mask) ↔ Only m' u s := by
  refine Only.lift hm' fun u => ?_
  clear hm'
  unfold State.flushIns
  simp only [State.flushIn_only, only_ite, only_ite_fst, ite_self, only_foldl, only_foldl_fst, implies_true, Only.refl, Nat.reduceOr]

@[simp] theorem State.setIncfg_only (s : State) (k c v : Nat) (u : State) {m' : Nat} (hm' : 2883585 ||| m' = m' := by decide) : Only m' u (State.setIncfg s k c v) ↔ Only m' u s := by
  refine Only.lift hm' fun u => ?_
  clear hm'
  unfold State.setIncfg
  simp only [State.flushIn_only, State.sendCredit_only, State.setRegN_only, only_ite, only_ite_fst, ite_self, only_foldl, only_foldl_fst, implies_true, Only.refl, Nat.reduceOr]

end Sys2Proof.Machine
end

