-- ==== Sys2Proof/Laws/OnlyChk.lean ====
section
/-! SUPPORT. Laws/OnlyChk.lean: the pieces of the state that the operations and commands of Machine/Chk.lean may change. -/

namespace Sys2Proof.Machine
open Sys2Proof Sys2Proof.Machine.Reg

set_option linter.all false
set_option Elab.async false

@[simp] theorem State.modChk_only (s : State) (u : Nat) (f : Chk → Chk) (u₀ : State) {m' : Nat} (hm' : 16777216 ||| m' = m' := by decide) : Only m' u₀ (State.modChk s u f) ↔ Only m' u₀ s := by
  refine Only.lift hm' fun u₀ => ?_
  clear hm'
  unfold State.modChk
  simp only [only_chk, List.length_modify, List.length_set, Only.refl, Nat.reduceOr]

@[simp] theorem State.chkReport_only (s : State) (u b sev : Nat) (u₀ : State) {m' : Nat} (hm' : 8459777 ||| m' = m' := by decide) : Only m' u₀ (State.chkReport s u b sev) ↔ Only m' u₀ s := by
  refine Only.lift hm' fun u₀ => ?_
  clear hm'
  unfold State.chkReport
  simp only [State.draw_only, State.report_only, Only.refl, Nat.reduceOr]

@[simp] theorem State.chkPair_only (s : State) (u : Nat) (u₀ : State) {m' : Nat} (hm' : 25236993 ||| m' = m' := by decide) : Only m' u₀ (State.chkPair s u) ↔ Only m' u₀ s := by
  refine Only.lift hm' fun u₀ => ?_
  clear hm'
  unfold State.chkPair
  simp only [State.chkReport_only, State.modChk_only, State.setFld_only, only_ite, only_ite_fst, ite_self, Only.refl, Nat.reduceOr]

@[simp] theorem State.chkFresh_only (s : State) (u : Nat) (u₀ : State) {m' : Nat} (hm' : 25236993 ||| m' = m' := by decide) : Only m' u₀ (State.chkFresh s u) ↔ Only m' u₀ s := by
  refine Only.lift hm' fun u₀ => ?_
  clear hm'
  unfold State.chkFresh
  simp only [State.chkPair_only, State.modChk_only, State.setRegN_only, only_ite, only_ite_fst, ite_self, only_foldl, only_foldl_fst, implies_true, Only.refl, Nat.reduceOr]

@[simp] theorem State.chkStart_only (s : State) (u : Nat) (u₀ : State) {m' : Nat} (hm' : 25761281 ||| m' = m' := by decide) : Only m' u₀ (State.chkStart s u) ↔ Only m' u₀ s := by
  refine Only.lift hm' fun u₀ => ?_
  clear hm'
  unfold State.chkStart
  simp only [State.chkFresh_only, State.modChk_only, State.result_only, State.setRegN_only, only_ite, only_ite_fst, ite_self, only_foldl, only_foldl_fst, implies_true, Only.refl, Nat.reduceOr]

@[simp] theorem State.chkGuard_only (s : State) (u : Nat) (u₀ : State) {m' : Nat} (hm' : 25236993 ||| m' = m' := by decide) : Only m' u₀ (State.chkGuard s u) ↔ Only m' u₀ s := by
  refine Only.lift hm' fun u₀ => ?_
  clear hm'
  unfold State.chkGuard
  (try dsimp only); (repeat' split) <;> simp only [State.chkReport_only, State.count_only, State.modChk_only, State.setFld_only, only_ite, only_ite_fst, ite_self, only_foldl, only_foldl_fst, implies_true, Only.refl, Nat.reduceOr]

@[simp] theorem State.chkCompare_only (s : State) (u want : Nat) (u₀ : State) {m' : Nat} (hm' : 25761281 ||| m' = m' := by decide) : Only m' u₀ (State.chkCompare s u want) ↔ Only m' u₀ s := by
  refine Only.lift hm' fun u₀ => ?_
  clear hm'
  unfold State.chkCompare
  simp only [State.chkFresh_only, State.chkGuard_only, State.chkReport_only, State.count_only, State.modChk_only, State.result_only, State.setFld_only, State.setRegN_only, only_ite, only_ite_fst, ite_self, only_foldl, only_foldl_fst, implies_true, Only.refl, Nat.reduceOr]

@[simp] theorem State.chkByte_only (s : State) (u x : Nat) (u₀ : State) {m' : Nat} (hm' : 25761281 ||| m' = m' := by decide) : Only m' u₀ (State.chkByte s u x) ↔ Only m' u₀ s := by
  refine Only.lift hm' fun u₀ => ?_
  clear hm'
  unfold State.chkByte
  simp only [State.chkCompare_only, State.chkPair_only, State.modChk_only, State.result_only, State.setRegN_only, only_ite, only_ite_fst, ite_self, only_foldl, only_foldl_fst, implies_true, Only.refl, Nat.reduceOr]

@[simp] theorem State.chkData_only (s : State) (u be v : Nat) (u₀ : State) {m' : Nat} (hm' : 25761281 ||| m' = m' := by decide) : Only m' u₀ (State.chkData s u be v) ↔ Only m' u₀ s := by
  refine Only.lift hm' fun u₀ => ?_
  clear hm'
  unfold State.chkData
  simp only [State.chkByte_only, only_ite, only_ite_fst, ite_self, only_foldl, only_foldl_fst, implies_true, Only.refl, Nat.reduceOr]

@[simp] theorem State.chkCheck_only (s : State) (u : Nat) (u₀ : State) {m' : Nat} (hm' : 25761281 ||| m' = m' := by decide) : Only m' u₀ (State.chkCheck s u) ↔ Only m' u₀ s := by
  refine Only.lift hm' fun u₀ => ?_
  clear hm'
  unfold State.chkCheck
  simp only [State.chkCompare_only, only_ite, only_ite_fst, ite_self, Only.refl, Nat.reduceOr]

@[simp] theorem State.applyChk_only (s : State) (u : Nat) (u₀ : State) {m' : Nat} (hm' : 25761281 ||| m' = m' := by decide) : Only m' u₀ (State.applyChk s u) ↔ Only m' u₀ s := by
  refine Only.lift hm' fun u₀ => ?_
  clear hm'
  unfold State.applyChk
  simp only [State.apply1_only, State.chkReport_only, State.chkStart_only, State.modChk_only, State.setFld_only, only_ite, only_ite_fst, ite_self, only_foldl, only_foldl_fst, implies_true, Only.refl, Nat.reduceOr]

end Sys2Proof.Machine
end

