-- ==== Sys2Proof/Laws/OnlyFramer.lean ====
section
/-! SUPPORT. Laws/OnlyFramer.lean: the pieces of the state that the operations and commands of Machine/Framer.lean may change. -/

namespace Sys2Proof.Machine
open Sys2Proof Sys2Proof.Machine.Reg

set_option linter.all false
set_option Elab.async false

@[simp] theorem State.modWfm_only (s : State) (f : Wfm → Wfm) (u : State) {m' : Nat} (hm' : 33554432 ||| m' = m' := by decide) : Only m' u (State.modWfm s f) ↔ Only m' u s := by
  refine Only.lift hm' fun u => ?_
  clear hm'
  unfold State.modWfm
  simp only [only_wfm, Only.refl, Nat.reduceOr]

@[simp] theorem State.modFslot_only (s : State) (c : Nat) (f : FSlot → FSlot) (u : State) {m' : Nat} (hm' : 33554432 ||| m' = m' := by decide) : Only m' u (State.modFslot s c f) ↔ Only m' u s := by
  refine Only.lift hm' fun u => ?_
  clear hm'
  unfold State.modFslot
  simp only [State.modWfm_only, Only.refl, Nat.reduceOr]

@[simp] theorem State.modTrg_only (s : State) (t : Nat) (f : Trg → Trg) (u : State) {m' : Nat} (hm' : 33554432 ||| m' = m' := by decide) : Only m' u (State.modTrg s t f) ↔ Only m' u s := by
  refine Only.lift hm' fun u => ?_
  clear hm'
  unfold State.modTrg
  simp only [State.modWfm_only, only_ite, only_ite_fst, ite_self, only_foldl, only_foldl_fst, implies_true, Only.refl, Nat.reduceOr]

@[simp] theorem State.modPort_only (s : State) (p : Nat) (f : Port → Port) (u : State) {m' : Nat} (hm' : 134217728 ||| m' = m' := by decide) : Only m' u (State.modPort s p f) ↔ Only m' u s := by
  refine Only.lift hm' fun u => ?_
  clear hm'
  unfold State.modPort
  simp only [only_ports, List.length_modify, List.length_set, only_ite, only_ite_fst, ite_self, only_foldl, only_foldl_fst, implies_true, Only.refl, Nat.reduceOr]

@[simp] theorem State.wfmReport_only (s : State) (b sev : Nat) (u : State) {m' : Nat} (hm' : 8458753 ||| m' = m' := by decide) : Only m' u (State.wfmReport s b sev) ↔ Only m' u s := by
  refine Only.lift hm' fun u => ?_
  clear hm'
  unfold State.wfmReport
  simp only [State.report_only, Only.refl, Nat.reduceOr]

@[simp] theorem State.setTrnd_only (s : State) (k r : Nat) (u : State) {m' : Nat} (hm' : 1 ||| m' = m' := by decide) : Only m' u (State.setTrnd s k r) ↔ Only m' u s := by
  refine Only.lift hm' fun u => ?_
  clear hm'
  unfold State.setTrnd
  simp only [State.setFld_only, State.setRegN_only, Only.refl, Nat.reduceOr]

@[simp] theorem State.checkFrozen_only (s : State) (k : Nat) (u : State) {m' : Nat} (hm' : 8458753 ||| m' = m' := by decide) : Only m' u (State.checkFrozen s k) ↔ Only m' u s := by
  refine Only.lift hm' fun u => ?_
  clear hm'
  unfold State.checkFrozen
  split
  · split <;> simp
  · simp

@[simp] theorem State.capture_only (s : State) (k rt : Nat) (u : State) {m' : Nat} (hm' : 8458753 ||| m' = m' := by decide) : Only m' u (State.capture s k rt) ↔ Only m' u s := by
  refine Only.lift hm' fun u => ?_
  clear hm'
  unfold State.capture
  split <;> simp

@[simp] theorem State.noteTrgq_only (s : State) (u : State) {m' : Nat} (hm' : 1 ||| m' = m' := by decide) : Only m' u (State.noteTrgq s) ↔ Only m' u s := by
  refine Only.lift hm' fun u => ?_
  clear hm'
  unfold State.noteTrgq
  simp only [State.setRegN_only, Only.refl, Nat.reduceOr]

@[simp] theorem State.fire_only (s : State) (t c a m : Nat) (u : State) {m' : Nat} (hm' : 42799617 ||| m' = m' := by decide) : Only m' u (State.fire s t c a m) ↔ Only m' u s := by
  refine Only.lift hm' fun u => ?_
  clear hm'
  unfold State.fire
  simp only [State.blockAdd_only, State.capture_only, State.count_only, State.event_only, State.intake_only, State.modWfm_only, State.noteTrgq_only, State.setFld_only, State.wfmReport_only, only_ite, only_ite_fst, ite_self, only_foldl, only_foldl_fst, implies_true, Only.refl, Nat.reduceOr]

@[simp] theorem State.trgPair_only (s : State) (t : Nat) (u : State) {m' : Nat} (hm' : 42013185 ||| m' = m' := by decide) : Only m' u (State.trgPair s t) ↔ Only m' u s := by
  refine Only.lift hm' fun u => ?_
  clear hm'
  unfold State.trgPair
  simp only [State.modTrg_only, State.setFld_only, State.wfmReport_only, only_ite, only_ite_fst, ite_self, only_foldl, only_foldl_fst, implies_true, Only.refl, Nat.reduceOr]

@[simp] theorem State.measure_only (s : State) (t c a : Nat) (u : State) {m' : Nat} (hm' : 33554433 ||| m' = m' := by decide) : Only m' u (State.measure s t c a).1 ↔ Only m' u s := by
  refine Only.lift hm' fun u => ?_
  clear hm'
  unfold State.measure
  (try dsimp only); (repeat' split) <;> simp only [State.modTrg_only, State.setRegN_only, only_ite, only_ite_fst, ite_self, only_foldl, only_foldl_fst, implies_true, Only.refl, Nat.reduceOr]

@[simp] theorem State.evalTrg_only (s : State) (t c a : Nat) (u : State) {m' : Nat} (hm' : 42799617 ||| m' = m' := by decide) : Only m' u (State.evalTrg s t c a) ↔ Only m' u s := by
  refine Only.lift hm' fun u => ?_
  clear hm'
  unfold State.evalTrg
  split
  · simp
  · have hm := State.measure_only s t c a u (m' := 42799617)
    generalize s.measure t c a = r at hm
    obtain ⟨s1, b, o⟩ := r
    cases b
    · simpa using hm
    · cases o
      · simpa using hm
      · dsimp only at hm ⊢
        (repeat' split) <;> simp [hm]

@[simp] theorem State.runSlot_only (s : State) (c upTo : Nat) (fin : Bool) (x : Nat) (u : State) {m' : Nat} (hm' : 42800641 ||| m' = m' := by decide) : Only m' u (State.runSlot s c upTo fin x) ↔ Only m' u s := by
  refine Only.lift hm' fun u => ?_
  clear hm'
  induction x generalizing s with
  | zero => simp [State.runSlot]
  | succ n ih =>
    unfold State.runSlot
    (repeat' split) <;> simp [ih]

@[simp] theorem State.framerOpen_only (s : State) (p t0 rate : Nat) (u : State) {m' : Nat} (hm' : 33554432 ||| m' = m' := by decide) : Only m' u (State.framerOpen s p t0 rate) ↔ Only m' u s := by
  refine Only.lift hm' fun u => ?_
  clear hm'
  unfold State.framerOpen
  simp only [State.modFslot_only, only_foldl, only_foldl_fst, implies_true, Only.refl, Nat.reduceOr]

@[simp] theorem State.framerRate_only (s : State) (p : Nat) (u : State) {m' : Nat} (hm' : 33554432 ||| m' = m' := by decide) : Only m' u (State.framerRate s p) ↔ Only m' u s := by
  refine Only.lift hm' fun u => ?_
  clear hm'
  unfold State.framerRate
  simp only [State.modFslot_only, only_ite, only_ite_fst, ite_self, only_foldl, only_foldl_fst, implies_true, Only.refl, Nat.reduceOr]

@[simp] theorem State.framerClose_only (s : State) (p : Nat) (u : State) {m' : Nat} (hm' : 33554432 ||| m' = m' := by decide) : Only m' u (State.framerClose s p) ↔ Only m' u s := by
  refine Only.lift hm' fun u => ?_
  clear hm'
  unfold State.framerClose
  simp only [State.modFslot_only, only_foldl, only_foldl_fst, implies_true, Only.refl, Nat.reduceOr]

@[simp] theorem State.takeSample_only (s : State) (c idx v fl : Nat) (u : State) {m' : Nat} (hm' : 33554433 ||| m' = m' := by decide) : Only m' u (State.takeSample s c idx v fl) ↔ Only m' u s := by
  refine Only.lift hm' fun u => ?_
  clear hm'
  unfold State.takeSample
  (try dsimp only); (repeat' split) <;> simp only [State.count_only, State.modFslot_only, only_ite, only_ite_fst, ite_self, Only.refl, Nat.reduceOr]

@[simp] theorem State.framerTake_only (s : State) (c idx : Nat) (vs : List Nat) (fl : Nat) (u : State) {m' : Nat} (hm' : 42800641 ||| m' = m' := by decide) : Only m' u (State.framerTake s c idx vs fl) ↔ Only m' u s := by
  refine Only.lift hm' fun u => ?_
  clear hm'
  unfold State.framerTake
  (try dsimp only); (repeat' split) <;> simp only [State.modFslot_only, State.runSlot_only, State.takeSample_only, only_ite, only_ite_fst, ite_self, only_foldl, only_foldl_fst, implies_true, Only.refl, Nat.reduceOr]

@[simp] theorem State.skipEmission_only (s : State) (u : State) {m' : Nat} (hm' : 8458753 ||| m' = m' := by decide) : Only m' u (State.skipEmission s) ↔ Only m' u s := by
  refine Only.lift hm' fun u => ?_
  clear hm'
  unfold State.skipEmission
  simp only [State.count_only, State.wfmReport_only, Only.refl, Nat.reduceOr]

@[simp] theorem State.chargeHub_only (s : State) (len : Nat) (u : State) {m' : Nat} (hm' : 8720897 ||| m' = m' := by decide) : Only m' u (State.chargeHub s len) ↔ Only m' u s := by
  refine Only.lift hm' fun u => ?_
  clear hm'
  unfold State.chargeHub
  simp only [State.count_only, State.event_only, State.meshReport_only, State.modMesh_only, only_ite, only_ite_fst, ite_self, Only.refl, Nat.reduceOr]

@[simp] theorem State.chargeHubBytes_only (s : State) (n : Nat) (u : State) {m' : Nat} (hm' : 8720897 ||| m' = m' := by decide) : Only m' u (State.chargeHubBytes s n) ↔ Only m' u s := by
  refine Only.lift hm' fun u => ?_
  clear hm'
  unfold State.chargeHubBytes
  simp only [State.chargeHub_only, only_foldl, only_foldl_fst, implies_true, Only.refl, Nat.reduceOr]

@[simp] theorem State.deliver_only (s : State) (e a b : Nat) (u : State) {m' : Nat} (hm' : 42799625 ||| m' = m' := by decide) : Only m' u (State.deliver s e a b) ↔ Only m' u s := by
  refine Only.lift hm' fun u => ?_
  clear hm'
  unfold State.deliver
  simp only [State.chargeHubBytes_only, State.hubPut_only, State.modWfm_only, State.skipEmission_only, only_ite, only_ite_fst, ite_self, only_foldl, only_foldl_fst, implies_true, Only.refl, Nat.reduceOr]

@[simp] theorem State.fireEmission_only (s : State) (e : Nat) (u : State) {m' : Nat} (hm' : 42799625 ||| m' = m' := by decide) : Only m' u (State.fireEmission s e) ↔ Only m' u s := by
  refine Only.lift hm' fun u => ?_
  clear hm'
  unfold State.fireEmission
  (try dsimp only); (repeat' split) <;> simp only [State.deliver_only, State.skipEmission_only, only_ite, only_ite_fst, ite_self, only_foldl, only_foldl_fst, implies_true, Only.refl, Nat.reduceOr]

@[simp] theorem State.emissionCommit_only (s : State) (e : Nat) (u : State) {m' : Nat} (hm' : 42799625 ||| m' = m' := by decide) : Only m' u (State.emissionCommit s e) ↔ Only m' u s := by
  refine Only.lift hm' fun u => ?_
  clear hm'
  unfold State.emissionCommit
  (try dsimp only); (repeat' split) <;> simp only [State.hubPut_only, State.modWfm_only, State.skipEmission_only, only_ite, only_ite_fst, ite_self, only_foldl, only_foldl_fst, implies_true, Only.refl, Nat.reduceOr]

theorem execEmissionCommit_only (e : Nat) (s : State) : Outs (Only 42799625 s) (execEmissionCommit e s) := by
  unfold execEmissionCommit
  (repeat apply outs_onUnit); simp only [State.emissionCommit_only, only_ite, only_ite_fst, ite_self, Only.refl, Nat.reduceOr, outs_next, outs_fault, outs_refused, outs_ite, implies_true]

@[simp] theorem State.finalizeWin_only (s : State) (c w : Nat) (u : State) {m' : Nat} (hm' : 42800641 ||| m' = m' := by decide) : Only m' u (State.finalizeWin s c w) ↔ Only m' u s := by
  refine Only.lift hm' fun u => ?_
  clear hm'
  unfold State.finalizeWin
  simp only [State.modFslot_only, State.runSlot_only, State.setFld_only, State.wfmReport_only, only_ite, only_ite_fst, ite_self, only_foldl, only_foldl_fst, implies_true, Only.refl, Nat.reduceOr]

@[simp] theorem State.finalizeSlot_only (s : State) (c : Nat) (x : Nat) (u : State) {m' : Nat} (hm' : 42800641 ||| m' = m' := by decide) : Only m' u (State.finalizeSlot s c x) ↔ Only m' u s := by
  refine Only.lift hm' fun u => ?_
  clear hm'
  fun_induction State.finalizeSlot s c x <;> simp_all only [State.finalizeWin_only, State.modFslot_only, only_ite, only_ite_fst, ite_self, Only.refl, Nat.reduceOr]

@[simp] theorem State.queueRing_only (s : State) (k r : Nat) (u : State) {m' : Nat} (hm' : 33554432 ||| m' = m' := by decide) : Only m' u (State.queueRing s k r) ↔ Only m' u s := by
  refine Only.lift hm' fun u => ?_
  clear hm'
  unfold State.queueRing
  simp only [State.modWfm_only, only_ite, only_ite_fst, ite_self, only_foldl, only_foldl_fst, implies_true, Only.refl, Nat.reduceOr]

@[simp] theorem State.autoEmissions_only (s : State) (moved : List (Nat × Nat)) (u : State) {m' : Nat} (hm' : 42799625 ||| m' = m' := by decide) : Only m' u (State.autoEmissions s moved) ↔ Only m' u s := by
  refine Only.lift hm' fun u => ?_
  clear hm'
  unfold State.autoEmissions
  simp (disch := (intros; (repeat' split) <;> (try simp_all only [State.deliver_only, only_ite, only_ite_fst, ite_self, only_foldl, only_foldl_fst, implies_true, Only.refl, Nat.reduceOr]) <;> (try simp_all)))

@[simp] theorem State.offerRings_only (s : State) (moved : List Nat) (r : Nat) (u : State) {m' : Nat} (hm' : 33554432 ||| m' = m' := by decide) : Only m' u (State.offerRings s moved r) ↔ Only m' u s := by
  refine Only.lift hm' fun u => ?_
  clear hm'
  unfold State.offerRings
  simp only [State.queueRing_only, only_ite, only_ite_fst, ite_self, only_foldl, only_foldl_fst, implies_true, Only.refl, Nat.reduceOr]

@[simp] theorem State.finalizeDue_only (s : State) (u : State) {m' : Nat} (hm' : 42800649 ||| m' = m' := by decide) : Only m' u (State.finalizeDue s) ↔ Only m' u s := by
  refine Only.lift hm' fun u => ?_
  clear hm'
  unfold State.finalizeDue
  simp only [State.autoEmissions_only, State.finalizeSlot_only, State.offerRings_only, only_ite, only_ite_fst, ite_self, only_foldl, only_foldl_fst, implies_true, Only.refl, Nat.reduceOr]

theorem execWindowFinalize_only (s : State) : Outs (Only 42800649 s) (execWindowFinalize s) := by
  unfold execWindowFinalize
  (repeat apply outs_onUnit); simp only [State.finalizeDue_only, Only.refl, Nat.reduceOr, outs_next, outs_fault, outs_refused, outs_ite, implies_true]

@[simp] theorem State.partRecord_only (s : State) (q : RingRec) (u : State) {m' : Nat} (hm' : 1152 ||| m' = m' := by decide) : Only m' u (State.partRecord s q) ↔ Only m' u s := by
  refine Only.lift hm' fun u => ?_
  clear hm'
  unfold State.partRecord
  simp only [State.draw_only, State.putLpddr_only, Only.refl, Nat.reduceOr]

@[simp] theorem State.ringDone_only (s : State) (k : Nat) (ok : Bool) (u : State) {m' : Nat} (hm' : 42014337 ||| m' = m' := by decide) : Only m' u (State.ringDone s k ok) ↔ Only m' u s := by
  refine Only.lift hm' fun u => ?_
  clear hm'
  unfold State.ringDone
  (try dsimp only); (repeat' split) <;> simp only [State.checkFrozen_only, State.count_only, State.modWfm_only, State.partRecord_only, State.putLpddr_only, State.wfmReport_only, only_ite, only_ite_fst, ite_self, Only.refl, Nat.reduceOr]

theorem execRingRecordDone_only (k : Nat) (ok : Bool) (s : State) : Outs (Only 42014337 s) (execRingRecordDone k ok s) := by
  unfold execRingRecordDone
  (repeat apply outs_onUnit); simp only [State.ringDone_only, Only.refl, Nat.reduceOr, outs_next, outs_fault, outs_refused, outs_ite, implies_true]

@[simp] theorem State.rearm_only (s : State) (k : Nat) (u : State) {m' : Nat} (hm' : 1 ||| m' = m' := by decide) : Only m' u (State.rearm s k) ↔ Only m' u s := by
  refine Only.lift hm' fun u => ?_
  clear hm'
  unfold State.rearm
  simp only [State.setFld_only, only_ite, only_ite_fst, ite_self, Only.refl, Nat.reduceOr]

@[simp] theorem State.force_only (s : State) (k : Nat) (u : State) {m' : Nat} (hm' : 8458753 ||| m' = m' := by decide) : Only m' u (State.force s k) ↔ Only m' u s := by
  refine Only.lift hm' fun u => ?_
  clear hm'
  unfold State.force
  simp only [State.capture_only, only_ite, only_ite_fst, ite_self, Only.refl, Nat.reduceOr]

@[simp] theorem State.popTrgq_only (s : State) (u : State) {m' : Nat} (hm' : 33554433 ||| m' = m' := by decide) : Only m' u (State.popTrgq s) ↔ Only m' u s := by
  refine Only.lift hm' fun u => ?_
  clear hm'
  unfold State.popTrgq
  simp only [State.modWfm_only, State.noteTrgq_only, only_ite, only_ite_fst, ite_self, only_foldl, only_foldl_fst, implies_true, Only.refl, Nat.reduceOr]

@[simp] theorem State.slotApplied_only (s : State) (c : Nat) (was changed : Bool) (u : State) {m' : Nat} (hm' : 33554432 ||| m' = m' := by decide) : Only m' u (State.slotApplied s c was changed) ↔ Only m' u s := by
  refine Only.lift hm' fun u => ?_
  clear hm'
  unfold State.slotApplied
  simp only [State.modFslot_only, only_ite, only_ite_fst, ite_self, Only.refl, Nat.reduceOr]

@[simp] theorem State.ringSwitch_only (s : State) (k : Nat) (u : State) {m' : Nat} (hm' : 33554433 ||| m' = m' := by decide) : Only m' u (State.ringSwitch s k) ↔ Only m' u s := by
  refine Only.lift hm' fun u => ?_
  clear hm'
  unfold State.ringSwitch
  simp only [State.modWfm_only, State.ringDone_only, State.setFld_only, only_ite, only_ite_fst, ite_self, Only.refl, Nat.reduceOr]

@[simp] theorem State.ringApplied_only (s : State) (k : Nat) (u : State) {m' : Nat} (hm' : 33554433 ||| m' = m' := by decide) : Only m' u (State.ringApplied s k) ↔ Only m' u s := by
  refine Only.lift hm' fun u => ?_
  clear hm'
  unfold State.ringApplied
  simp only [State.ringSwitch_only, State.setFld_only, Only.refl, Nat.reduceOr]

@[simp] theorem State.emApplied_only (s : State) (e : Nat) (u : State) {m' : Nat} (hm' : 33554432 ||| m' = m' := by decide) : Only m' u (State.emApplied s e) ↔ Only m' u s := by
  refine Only.lift hm' fun u => ?_
  clear hm'
  unfold State.emApplied
  simp only [State.modWfm_only, only_ite, only_ite_fst, ite_self, only_foldl, only_foldl_fst, implies_true, Only.refl, Nat.reduceOr]

@[simp] theorem State.applyWfm_only (s : State) (u : State) {m' : Nat} (hm' : 42013185 ||| m' = m' := by decide) : Only m' u (State.applyWfm s) ↔ Only m' u s := by
  refine Only.lift hm' fun u => ?_
  clear hm'
  unfold State.applyWfm
  simp only [State.emApplied_only, State.modFslot_only, State.modTrg_only, State.modWfm_only, State.ringApplied_only, State.setFld_only, State.setReg_only, State.slotApplied_only, State.wfmReport_only, only_ite, only_ite_fst, ite_self, only_foldl, only_foldl_fst, implies_true, Only.refl, Nat.reduceOr]

end Sys2Proof.Machine
end

