-- ==== Sys2Proof/Laws/OnlyFbr.lean ====
section
/-! SUPPORT. Laws/OnlyFbr.lean: the pieces of the state that the operations and commands of Machine/Fbr.lean may change. -/

namespace Sys2Proof.Machine
open Sys2Proof Sys2Proof.Machine.Reg

set_option linter.all false
set_option Elab.async false

@[simp] theorem State.modFbr_only (s : State) (f : Fbr → Fbr) (u : State) {m' : Nat} (hm' : 67108864 ||| m' = m' := by decide) : Only m' u (State.modFbr s f) ↔ Only m' u s := by
  refine Only.lift hm' fun u => ?_
  clear hm'
  unfold State.modFbr
  simp only [only_fbr, Only.refl, Nat.reduceOr]

@[simp] theorem State.modSeg_only (s : State) (id : Nat) (f : FSeg → FSeg) (u : State) {m' : Nat} (hm' : 67108864 ||| m' = m' := by decide) : Only m' u (State.modSeg s id f) ↔ Only m' u s := by
  refine Only.lift hm' fun u => ?_
  clear hm'
  unfold State.modSeg
  simp only [State.modFbr_only, only_ite, only_ite_fst, ite_self, Only.refl, Nat.reduceOr]

@[simp] theorem State.respondErr_only (s : State) (rq : Requester) (write : Bool) (n : Nat) (u : State) {m' : Nat} (hm' : 268435456 ||| m' = m' := by decide) : Only m' u (State.respondErr s rq write n) ↔ Only m' u s := by
  refine Only.lift hm' fun u => ?_
  clear hm'
  unfold State.respondErr
  simp only [State.respond_only, only_ite, only_ite_fst, ite_self, Only.refl, Nat.reduceOr]

@[simp] theorem State.fbrReport_only (s : State) (b sev src : Nat) (data : Nat) (u : State) {m' : Nat} (hm' : 8458753 ||| m' = m' := by decide) : Only m' u (State.fbrReport s b sev src data) ↔ Only m' u s := by
  refine Only.lift hm' fun u => ?_
  clear hm'
  unfold State.fbrReport
  simp only [State.report_only, Only.refl, Nat.reduceOr]

@[simp] theorem State.noteFbr_only (s : State) (u : State) {m' : Nat} (hm' : 1 ||| m' = m' := by decide) : Only m' u (State.noteFbr s) ↔ Only m' u s := by
  refine Only.lift hm' fun u => ?_
  clear hm'
  unfold State.noteFbr
  simp only [State.setFld_only, only_foldl, only_foldl_fst, implies_true, Only.refl, Nat.reduceOr]

@[simp] theorem State.winPoint_only (s : State) (w : Nat) (u : State) {m' : Nat} (hm' : 75567617 ||| m' = m' := by decide) : Only m' u (State.winPoint s w) ↔ Only m' u s := by
  refine Only.lift hm' fun u => ?_
  clear hm'
  unfold State.winPoint
  simp only [State.apply1_only, State.fbrReport_only, State.modFbr_only, State.setFld_only, only_ite, only_ite_fst, ite_self, Only.refl, Nat.reduceOr]

@[simp] theorem State.commitWin_only (s : State) (w : Nat) (u : State) {m' : Nat} (hm' : 1 ||| m' = m' := by decide) : Only m' u (State.commitWin s w) ↔ Only m' u s := by
  refine Only.lift hm' fun u => ?_
  clear hm'
  unfold State.commitWin
  simp only [State.setFld_only, Only.refl, Nat.reduceOr]

@[simp] theorem State.noteElog_only (s : State) (u : State) {m' : Nat} (hm' : 1 ||| m' = m' := by decide) : Only m' u (State.noteElog s) ↔ Only m' u s := by
  refine Only.lift hm' fun u => ?_
  clear hm'
  unfold State.noteElog
  simp only [State.setRegN_only, Only.refl, Nat.reduceOr]

@[simp] theorem State.fbrLog_only (s : State) (win : Option Nat) (wseq cause : Nat) (read route : Bool) (addr id : Nat) (u : State) {m' : Nat} (hm' : 75568641 ||| m' = m' := by decide) : Only m' u (State.fbrLog s win wseq cause read route addr id) ↔ Only m' u s := by
  refine Only.lift hm' fun u => ?_
  clear hm'
  unfold State.fbrLog
  simp only [State.count_only, State.fbrReport_only, State.modFbr_only, State.noteElog_only, only_free, only_ite, only_ite_fst, ite_self, Only.refl, Nat.reduceOr]

@[simp] theorem State.elogPop_only (s : State) (rq : Requester) (keep : Bool) (u : State) {m' : Nat} (hm' : 67108865 ||| m' = m' := by decide) : Only m' u (State.elogPop s rq keep) ↔ Only m' u s := by
  refine Only.lift hm' fun u => ?_
  clear hm'
  unfold State.elogPop
  (try dsimp only); (repeat' split) <;> simp only [State.modFbr_only, State.noteElog_only, only_ite, only_ite_fst, ite_self, only_foldl, only_foldl_fst, implies_true, Only.refl, Nat.reduceOr]

@[simp] theorem State.dropSeg_only (s : State) (g : FSeg) (u : State) {m' : Nat} (hm' : 75567617 ||| m' = m' := by decide) : Only m' u (State.dropSeg s g) ↔ Only m' u s := by
  refine Only.lift hm' fun u => ?_
  clear hm'
  unfold State.dropSeg
  simp only [State.modFbr_only, State.noteFbr_only, State.winPoint_only, Only.refl, Nat.reduceOr]

@[simp] theorem State.blockWin_only (s : State) (w : Nat) (u : State) {m' : Nat} (hm' : 8458753 ||| m' = m' := by decide) : Only m' u (State.blockWin s w) ↔ Only m' u s := by
  refine Only.lift hm' fun u => ?_
  clear hm'
  unfold State.blockWin
  simp only [State.fbrReport_only, State.setFld_only, only_ite, only_ite_fst, ite_self, Only.refl, Nat.reduceOr]

@[simp] theorem State.unblockWin_only (s : State) (w : Nat) (u : State) {m' : Nat} (hm' : 1 ||| m' = m' := by decide) : Only m' u (State.unblockWin s w) ↔ Only m' u s := by
  refine Only.lift hm' fun u => ?_
  clear hm'
  unfold State.unblockWin
  simp only [State.setFld_only, only_ite, only_ite_fst, ite_self, Only.refl, Nat.reduceOr]

@[simp] theorem State.ackWins_only (s : State) (mask : Nat) (u : State) {m' : Nat} (hm' : 1 ||| m' = m' := by decide) : Only m' u (State.ackWins s mask) ↔ Only m' u s := by
  refine Only.lift hm' fun u => ?_
  clear hm'
  unfold State.ackWins
  simp only [State.unblockWin_only, only_ite, only_ite_fst, ite_self, only_foldl, only_foldl_fst, implies_true, Only.refl, Nat.reduceOr]

@[simp] theorem State.failSeg_only (s : State) (g : FSeg) (cause : Nat) (u : State) {m' : Nat} (hm' : 344004097 ||| m' = m' := by decide) : Only m' u (State.failSeg s g cause) ↔ Only m' u s := by
  refine Only.lift hm' fun u => ?_
  clear hm'
  unfold State.failSeg
  simp only [State.blockWin_only, State.dropSeg_only, State.fbrLog_only, State.respondErr_only, only_ite, only_ite_fst, ite_self, Only.refl, Nat.reduceOr]

@[simp] theorem State.holdTag_only (s : State) (g : FSeg) (u : State) {m' : Nat} (hm' : 67108864 ||| m' = m' := by decide) : Only m' u (State.holdTag s g) ↔ Only m' u s := by
  refine Only.lift hm' fun u => ?_
  clear hm'
  unfold State.holdTag
  simp only [State.modFbr_only, Only.refl, Nat.reduceOr]

@[simp] theorem State.failPort_only (s : State) (p cause : Nat) (u : State) {m' : Nat} (hm' : 344004097 ||| m' = m' := by decide) : Only m' u (State.failPort s p cause) ↔ Only m' u s := by
  refine Only.lift hm' fun u => ?_
  clear hm'
  unfold State.failPort
  simp only [State.failSeg_only, only_foldl, only_foldl_fst, implies_true, Only.refl, Nat.reduceOr]

@[simp] theorem State.timeOut_only (s : State) (g : FSeg) (u : State) {m' : Nat} (hm' : 344004097 ||| m' = m' := by decide) : Only m' u (State.timeOut s g) ↔ Only m' u s := by
  refine Only.lift hm' fun u => ?_
  clear hm'
  unfold State.timeOut
  simp only [State.failSeg_only, State.holdTag_only, only_ite, only_ite_fst, ite_self, only_foldl, only_foldl_fst, implies_true, Only.refl, Nat.reduceOr]

@[simp] theorem State.expireTag_only (s : State) (p tag : Nat) (u : State) {m' : Nat} (hm' : 344004097 ||| m' = m' := by decide) : Only m' u (State.expireTag s p tag) ↔ Only m' u s := by
  refine Only.lift hm' fun u => ?_
  clear hm'
  unfold State.expireTag
  (try dsimp only); (repeat' split) <;> simp only [State.timeOut_only, only_ite, only_ite_fst, ite_self, only_foldl, only_foldl_fst, implies_true, Only.refl, Nat.reduceOr]

@[simp] theorem State.regack_only (s : State) (p tag status : Nat) (data : List Nat) (u : State) {m' : Nat} (hm' : 344004097 ||| m' = m' := by decide) : Only m' u (State.regack s p tag status data) ↔ Only m' u s := by
  refine Only.lift hm' fun u => ?_
  clear hm'
  unfold State.regack
  (try dsimp only); (repeat' split) <;> simp only [State.count_only, State.draw_only, State.dropSeg_only, State.failSeg_only, State.fbrReport_only, State.modSeg_only, State.respond_only, only_ite, only_ite_fst, ite_self, only_foldl, only_foldl_fst, implies_true, Only.refl, Nat.reduceOr]

@[simp] theorem State.winWrite_only (s : State) (w : Nat) (route : Bool) (bs : List (Nat × Nat)) (u : State) {m' : Nat} (hm' : 75568641 ||| m' = m' := by decide) : Only m' u (State.winWrite s w route bs).1 ↔ Only m' u s := by
  refine Only.lift hm' fun u => ?_
  clear hm'
  unfold State.winWrite
  simp only [State.fbrLog_only, State.modFbr_only, State.noteFbr_only, only_data, only_acc, only_ite, only_ite_fst, ite_self, Only.refl, Nat.reduceOr]

@[simp] theorem State.routeOf_only (s : State) (p id : Nat) (u : State) {m' : Nat} (hm' : 8458753 ||| m' = m' := by decide) : Only m' u (State.routeOf s p id).1 ↔ Only m' u s := by
  refine Only.lift hm' fun u => ?_
  clear hm'
  unfold State.routeOf
  (try dsimp only); (repeat' split) <;> simp only [State.fbrReport_only, State.setFld_only, Only.refl, Nat.reduceOr]

@[simp] theorem State.takeInt_only (s : State) (h : HeadInt) (u : State) {m' : Nat} (hm' : 76371465 ||| m' = m' := by decide) : Only m' u (State.takeInt s h) ↔ Only m' u s := by
  refine Only.lift hm' fun u => ?_
  clear hm'
  have h0 := State.routeOf_only s h.port h.id u (m' := 76371465)
  unfold State.takeInt
  generalize s.routeOf h.port h.id = r at h0 ⊢
  obtain ⟨v, w⟩ := r
  cases w with
  | none => exact h0
  | some i =>
    dsimp only at h0 ⊢
    (repeat' split) <;> simp [h0]

@[simp] theorem State.pumpInts_only (s : State) (p : Nat) (x : Nat) (u : State) {m' : Nat} (hm' : 76371465 ||| m' = m' := by decide) : Only m' u (State.pumpInts s p x) ↔ Only m' u s := by
  refine Only.lift hm' fun u => ?_
  clear hm'
  fun_induction State.pumpInts s p x <;> simp_all only [State.modFbr_only, State.takeInt_only, only_ite, only_ite_fst, ite_self, Only.refl, Nat.reduceOr]

@[simp] theorem State.intArrive_only (s : State) (h : HeadInt) (u : State) {m' : Nat} (hm' : 76371465 ||| m' = m' := by decide) : Only m' u (State.intArrive s h) ↔ Only m' u s := by
  refine Only.lift hm' fun u => ?_
  clear hm'
  unfold State.intArrive
  simp only [State.fbrLog_only, State.modFbr_only, State.pumpInts_only, only_ite, only_ite_fst, ite_self, Only.refl, Nat.reduceOr]

@[simp] theorem State.mailCommit_only (s : State) (p : Nat) (u : State) {m' : Nat} (hm' : 76371465 ||| m' = m' := by decide) : Only m' u (State.mailCommit s p) ↔ Only m' u s := by
  refine Only.lift hm' fun u => ?_
  clear hm'
  unfold State.mailCommit
  (try dsimp only); (repeat' split) <;> simp only [State.fbrLog_only, State.hubPut_only, State.modFbr_only, State.pumpInts_only, only_ite, only_ite_fst, ite_self, only_foldl, only_foldl_fst, implies_true, Only.refl, Nat.reduceOr]

theorem execMailboxCommit_only (p : Nat) (s : State) : Outs (Only 76371465 s) (execMailboxCommit p s) := by
  unfold execMailboxCommit
  (repeat apply outs_onUnit); simp only [State.mailCommit_only, Only.refl, Nat.reduceOr, outs_next, outs_fault, outs_refused, outs_ite, implies_true]

@[simp] theorem State.writeRoute_only (s : State) (i key dst : Nat) (u : State) {m' : Nat} (hm' : 75567617 ||| m' = m' := by decide) : Only m' u (State.writeRoute s i key dst) ↔ Only m' u s := by
  refine Only.lift hm' fun u => ?_
  clear hm'
  unfold State.writeRoute
  simp only [State.fbrReport_only, State.modFbr_only, State.setFld_only, State.setRegN_only, only_ite, only_ite_fst, ite_self, Only.refl, Nat.reduceOr]

@[simp] theorem State.flushWin_only (s : State) (w : Nat) (u : State) {m' : Nat} (hm' : 75567617 ||| m' = m' := by decide) : Only m' u (State.flushWin s w) ↔ Only m' u s := by
  refine Only.lift hm' fun u => ?_
  clear hm'
  unfold State.flushWin
  simp only [State.count_only, State.modFbr_only, State.noteFbr_only, State.setFld_only, State.winPoint_only, only_foldl, only_foldl_fst, implies_true, Only.refl, Nat.reduceOr]

end Sys2Proof.Machine
end

