-- ==== Sys2Proof/Laws/OnlyMoari.lean ====
section
/-! SUPPORT. Laws/OnlyMoari.lean: the pieces of the state that the operations and commands of Machine/Moari.lean may change. -/

namespace Sys2Proof.Machine
open Sys2Proof Sys2Proof.Machine.Reg

set_option linter.all false
set_option Elab.async false

@[simp] theorem State.molReport_only (s : State) (p b sev : Nat) (data : Nat) (u : State) {m' : Nat} (hm' : 8458753 ||| m' = m' := by decide) : Only m' u (State.molReport s p b sev data) ↔ Only m' u s := by
  refine Only.lift hm' fun u => ?_
  clear hm'
  unfold State.molReport
  simp only [State.report_only, Only.refl, Nat.reduceOr]

@[simp] theorem State.molSend_only (s : State) (p type sub aux : Nat) (payload : List Nat) (u : State) {m' : Nat} (hm' : 134217728 ||| m' = m' := by decide) : Only m' u (State.molSend s p type sub aux payload) ↔ Only m' u s := by
  refine Only.lift hm' fun u => ?_
  clear hm'
  unfold State.molSend
  simp only [State.modPort_only, Only.refl, Nat.reduceOr]

@[simp] theorem State.goPort_only (s : State) (p st : Nat) (u : State) {m' : Nat} (hm' : 134217729 ||| m' = m' := by decide) : Only m' u (State.goPort s p st) ↔ Only m' u s := by
  refine Only.lift hm' fun u => ?_
  clear hm'
  unfold State.goPort
  simp only [State.modPort_only, State.setFld_only, Only.refl, Nat.reduceOr]

@[simp] theorem State.setAbsent_only (s : State) (p : Nat) (u : State) {m' : Nat} (hm' : 8458753 ||| m' = m' := by decide) : Only m' u (State.setAbsent s p) ↔ Only m' u s := by
  refine Only.lift hm' fun u => ?_
  clear hm'
  unfold State.setAbsent
  simp only [State.molReport_only, State.setFld_only, only_ite, only_ite_fst, ite_self, Only.refl, Nat.reduceOr]

@[simp] theorem State.endLink_only (s : State) (p cause : Nat) (u : State) {m' : Nat} (hm' : 511786497 ||| m' = m' := by decide) : Only m' u (State.endLink s p cause) ↔ Only m' u s := by
  refine Only.lift hm' fun u => ?_
  clear hm'
  unfold State.endLink
  simp only [State.disqualify_only, State.failPort_only, State.framerClose_only, State.modPort_only, State.setAbsent_only, State.setFld_only, State.settle_only, only_ite, only_ite_fst, ite_self, only_foldl, only_foldl_fst, implies_true, Only.refl, Nat.reduceOr]

@[simp] theorem State.toTrain_only (s : State) (p : Nat) (u : State) {m' : Nat} (hm' : 511786497 ||| m' = m' := by decide) : Only m' u (State.toTrain s p) ↔ Only m' u s := by
  refine Only.lift hm' fun u => ?_
  clear hm'
  unfold State.toTrain
  simp only [State.endLink_only, State.goPort_only, Only.refl, Nat.reduceOr]

@[simp] theorem State.quarantine_only (s : State) (p cause : Nat) (u : State) {m' : Nat} (hm' : 511786497 ||| m' = m' := by decide) : Only m' u (State.quarantine s p cause) ↔ Only m' u s := by
  refine Only.lift hm' fun u => ?_
  clear hm'
  unfold State.quarantine
  simp only [State.endLink_only, State.goPort_only, State.molReport_only, State.setAbsent_only, Only.refl, Nat.reduceOr]

@[simp] theorem State.hostileEvent_only (s : State) (p cause : Nat) (u : State) {m' : Nat} (hm' : 511786497 ||| m' = m' := by decide) : Only m' u (State.hostileEvent s p cause) ↔ Only m' u s := by
  refine Only.lift hm' fun u => ?_
  clear hm'
  unfold State.hostileEvent
  simp only [State.count_only, State.modPort_only, State.molReport_only, State.quarantine_only, only_ite, only_ite_fst, ite_self, Only.refl, Nat.reduceOr]

@[simp] theorem State.crcFail_only (s : State) (p : Nat) (u : State) {m' : Nat} (hm' : 511786497 ||| m' = m' := by decide) : Only m' u (State.crcFail s p) ↔ Only m' u s := by
  refine Only.lift hm' fun u => ?_
  clear hm'
  unfold State.crcFail
  simp only [State.count_only, State.modPort_only, State.molReport_only, State.toTrain_only, only_ite, only_ite_fst, ite_self, Only.refl, Nat.reduceOr]

@[simp] theorem State.blockPort_only (s : State) (p cause : Nat) (u : State) {m' : Nat} (hm' : 511786497 ||| m' = m' := by decide) : Only m' u (State.blockPort s p cause) ↔ Only m' u s := by
  refine Only.lift hm' fun u => ?_
  clear hm'
  unfold State.blockPort
  simp only [State.endLink_only, State.goPort_only, State.molReport_only, State.setFld_only, Only.refl, Nat.reduceOr]

@[simp] theorem State.ratePair_only (s : State) (p : Nat) (u : State) {m' : Nat} (hm' : 142676481 ||| m' = m' := by decide) : Only m' u (State.ratePair s p) ↔ Only m' u s := by
  refine Only.lift hm' fun u => ?_
  clear hm'
  unfold State.ratePair
  simp only [State.modPort_only, State.molReport_only, only_ite, only_ite_fst, ite_self, only_foldl, only_foldl_fst, implies_true, Only.refl, Nat.reduceOr]

@[simp] theorem State.rateRefill_only (s : State) (p : Nat) (u : State) {m' : Nat} (hm' : 142676481 ||| m' = m' := by decide) : Only m' u (State.rateRefill s p) ↔ Only m' u s := by
  refine Only.lift hm' fun u => ?_
  clear hm'
  unfold State.rateRefill
  simp only [State.modPort_only, State.ratePair_only, Only.refl, Nat.reduceOr]

@[simp] theorem State.molReceive_only (s : State) (p : Nat) (frame : List Nat) (broken : Bool) (u : State) {m' : Nat} (hm' : 511786497 ||| m' = m' := by decide) : Only m' u (State.molReceive s p frame broken).1 ↔ Only m' u s := by
  refine Only.lift hm' fun u => ?_
  clear hm'
  unfold State.molReceive
  split
  · exact Iff.rfl
  split
  · exact State.hostileEvent_only ..
  extract_lets s1 len tt auth n q id old sub type hdr pay
  have h1 : Only 511786497 u s1 ↔ Only 511786497 u s := State.modPort_only ..
  clear_value s1 q id old sub type hdr pay len tt auth n
  split
  · exact (State.count_only ..).trans h1
  split
  · exact (State.crcFail_only ..).trans h1
  split
  · exact (State.hostileEvent_only ..).trans h1
  split
  · exact (State.count_only ..).trans h1
  split
  · exact (State.hostileEvent_only ..).trans h1
  extract_lets s2
  have h2 : Only 511786497 u s2 ↔ Only 511786497 u s := (State.modPort_only ..).trans h1
  clear_value s2
  split
  · split
    · exact (State.count_only ..).trans h2
    · refine (State.modPort_only ..).trans ?_
      split
      · exact h2
      · exact (State.count_only ..).trans h2
  · exact (State.modPort_only ..).trans h2

theorem execMoariMsgDiscard_only (p : Nat) (frame : List Nat) (broken : Bool) (s : State) : Outs (Only 511786497 s) (execMoariMsgDiscard p frame broken s) := by
  unfold execMoariMsgDiscard
  apply outs_onUnit
  have h := State.molReceive_only s p frame broken s (m' := 511786497)
  split
  · rename_i e; rw [e] at h; simpa using h
  · simp

theorem State.onMsg_only {m : Nat} (s : State) (p : Nat) (frame : List Nat) (type : Nat) (f : State → Msg → State)
    (hf : ∀ s x, Only m s (f s x)) (hm : 511786497 ||| m = m := by decide) : Outs (Only m s) (s.onMsg p frame type f) := by
  unfold State.onMsg
  apply outs_onUnit
  have h := State.molReceive_only s p frame false s (m' := m) (Only.sub (by decide) hm)
  split
  · rename_i e; rw [e] at h; simpa using h
  · rename_i e; rw [e] at h
    split
    · simpa using (hf _ _).iff'.2 (h.2 (Only.refl m s))
    · simp

@[simp] theorem State.enterCalib_only (s : State) (p : Nat) (u : State) {m' : Nat} (hm' : 134217729 ||| m' = m' := by decide) : Only m' u (State.enterCalib s p) ↔ Only m' u s := by
  refine Only.lift hm' fun u => ?_
  clear hm'
  unfold State.enterCalib
  simp only [State.goPort_only, State.modPort_only, Only.refl, Nat.reduceOr]

@[simp] theorem State.sendChal_only (s : State) (p : Nat) (u : State) {m' : Nat} (hm' : 134218752 ||| m' = m' := by decide) : Only m' u (State.sendChal s p) ↔ Only m' u s := by
  refine Only.lift hm' fun u => ?_
  clear hm'
  unfold State.sendChal
  simp only [State.draw_only, State.modPort_only, State.molSend_only, only_ite, only_ite_fst, ite_self, only_foldl, only_foldl_fst, implies_true, Only.refl, Nat.reduceOr]

theorem execM1LinkUp_only (p : Nat) (s : State) : Outs (Only 134217729 s) (execM1LinkUp p s) := by
  unfold execM1LinkUp
  (repeat apply outs_onUnit); simp only [State.goPort_only, State.modPort_only, State.molSend_only, only_ite, only_ite_fst, ite_self, Only.refl, Nat.reduceOr, outs_next, outs_fault, outs_refused, outs_ite, implies_true]

theorem execCapsTimeout_only (p : Nat) (s : State) : Outs (Only 511786497 s) (execCapsTimeout p s) := by
  unfold execCapsTimeout
  (repeat apply outs_onUnit); simp only [State.modPort_only, State.molSend_only, State.toTrain_only, only_ite, only_ite_fst, ite_self, Only.refl, Nat.reduceOr, outs_next, outs_fault, outs_refused, outs_ite, implies_true]

@[simp] theorem State.keepReport_only (s : State) (p : Nat) (r : List Nat) (u : State) {m' : Nat} (hm' : 1 ||| m' = m' := by decide) : Only m' u (State.keepReport s p r) ↔ Only m' u s := by
  refine Only.lift hm' fun u => ?_
  clear hm'
  unfold State.keepReport
  simp only [State.setFld_only, State.setRegN_only, Only.refl, Nat.reduceOr]

@[simp] theorem State.chooseLink_only (s : State) (p : Nat) (u : State) {m' : Nat} (hm' : 511786497 ||| m' = m' := by decide) : Only m' u (State.chooseLink s p) ↔ Only m' u s := by
  refine Only.lift hm' fun u => ?_
  clear hm'
  unfold State.chooseLink
  simp only [State.blockPort_only, State.enterCalib_only, State.goPort_only, State.molSend_only, only_ite, only_ite_fst, ite_self, Only.refl, Nat.reduceOr]

theorem execCapsReportRx_only (p : Nat) (frame : List Nat) (s : State) : Outs (Only 511786497 s) (execCapsReportRx p frame s) := by
  refine State.onMsg_only _ _ _ _ _ fun s m => ?_
  (repeat' split) <;> simp

@[simp] theorem State.adaptEq_only (s : State) (p : Nat) (u : State) {m' : Nat} (hm' : 1025 ||| m' = m' := by decide) : Only m' u (State.adaptEq s p) ↔ Only m' u s := by
  refine Only.lift hm' fun u => ?_
  clear hm'
  unfold State.adaptEq
  simp only [State.draw_only, State.setFld_only, only_ite, only_ite_fst, ite_self, only_foldl, only_foldl_fst, implies_true, Only.refl, Nat.reduceOr]

theorem execM2LinkUp_only (p : Nat) (s : State) : Outs (Only 134218753 s) (execM2LinkUp p s) := by
  unfold execM2LinkUp
  (repeat apply outs_onUnit); simp only [State.adaptEq_only, State.enterCalib_only, State.goPort_only, State.sendChal_only, State.setFld_only, only_ite, only_ite_fst, ite_self, only_foldl, only_foldl_fst, implies_true, Only.refl, Nat.reduceOr, outs_next, outs_fault, outs_refused, outs_ite]

theorem execM2UpgradeTimeout_only (p : Nat) (s : State) : Outs (Only 511786497 s) (execM2UpgradeTimeout p s) := by
  unfold execM2UpgradeTimeout
  (repeat apply outs_onUnit); simp only [State.count_only, State.molReport_only, State.toTrain_only, only_ite, only_ite_fst, ite_self, Only.refl, Nat.reduceOr, outs_next, outs_fault, outs_refused, outs_ite, implies_true]

@[simp] theorem State.confirm_only (s : State) (p : Nat) (key : BitVec 128) (nd : BitVec 96) (nh : List Nat) (u : State) {m' : Nat} (hm' : 134217729 ||| m' = m' := by decide) : Only m' u (State.confirm s p key nd nh) ↔ Only m' u s := by
  refine Only.lift hm' fun u => ?_
  clear hm'
  unfold State.confirm
  simp only [State.enterCalib_only, State.modPort_only, State.molSend_only, State.setFld_only, only_ite, only_ite_fst, ite_self, only_foldl, only_foldl_fst, implies_true, Only.refl, Nat.reduceOr]

@[simp] theorem State.dueConf_only (s : State) (p : Nat) (key : BitVec 128) (nd : BitVec 96) (nh : List Nat) (u : State) {m' : Nat} (hm' : 134217729 ||| m' = m' := by decide) : Only m' u (State.dueConf s p key nd nh) ↔ Only m' u s := by
  refine Only.lift hm' fun u => ?_
  clear hm'
  unfold State.dueConf
  simp only [State.confirm_only, State.modPort_only, only_ite, only_ite_fst, ite_self, only_foldl, only_foldl_fst, implies_true, Only.refl, Nat.reduceOr]

theorem execAuthRespRx_only (p : Nat) (frame : List Nat) (s : State) : Outs (Only 511786497 s) (execAuthRespRx p frame s) := by
  refine State.onMsg_only _ _ _ _ _ fun s m => ?_
  dsimp only; (repeat' split) <;> simp

theorem execAuthTimeout_only (p : Nat) (s : State) : Outs (Only 511786497 s) (execAuthTimeout p s) := by
  unfold execAuthTimeout
  (repeat apply outs_onUnit); simp only [State.hostileEvent_only, State.toTrain_only, only_ite, only_ite_fst, ite_self, only_foldl, only_foldl_fst, implies_true, Only.refl, Nat.reduceOr, outs_next, outs_fault, outs_refused, outs_ite]

theorem execCalibTimeout_only (p : Nat) (s : State) : Outs (Only 511786497 s) (execCalibTimeout p s) := by
  unfold execCalibTimeout
  (repeat apply outs_onUnit); simp only [State.toTrain_only, only_ite, only_ite_fst, ite_self, Only.refl, Nat.reduceOr, outs_next, outs_fault, outs_refused, outs_ite, implies_true]

@[simp] theorem State.sendAdmit_only (s : State) (p : Nat) (u : State) {m' : Nat} (hm' : 134217728 ||| m' = m' := by decide) : Only m' u (State.sendAdmit s p) ↔ Only m' u s := by
  refine Only.lift hm' fun u => ?_
  clear hm'
  unfold State.sendAdmit
  simp (disch := (intros; (repeat' split) <;> (try simp_all only [State.startAdmission_only, State.modPort_only, State.molSend_only, Only.refl, Nat.reduceOr]) <;> (try simp_all)))

@[simp] theorem State.endCalib_only (s : State) (p : Nat) (u : State) {m' : Nat} (hm' : 511786497 ||| m' = m' := by decide) : Only m' u (State.endCalib s p) ↔ Only m' u s := by
  refine Only.lift hm' fun u => ?_
  clear hm'
  unfold State.endCalib
  simp only [State.blockPort_only, State.goPort_only, State.modPort_only, State.molReport_only, State.sendAdmit_only, only_ite, only_ite_fst, ite_self, Only.refl, Nat.reduceOr]

@[simp] theorem State.headAdmit_only (s : State) (p base : Nat) (u : State) {m' : Nat} (hm' : 134217729 ||| m' = m' := by decide) : Only m' u (State.headAdmit s p base).1 ↔ Only m' u s := by
  refine Only.lift hm' fun u => ?_
  clear hm'
  unfold State.headAdmit
  simp only [State.modPort_only, State.sendAdmit_only, State.setFld_only, only_ite, only_ite_fst, ite_self, only_foldl, only_foldl_fst, implies_true, Only.refl, Nat.reduceOr]

@[simp] theorem State.enterUp_only (s : State) (p : Nat) (u : State) {m' : Nat} (hm' : 142685697 ||| m' = m' := by decide) : Only m' u (State.enterUp s p) ↔ Only m' u s := by
  refine Only.lift hm' fun u => ?_
  clear hm'
  unfold State.enterUp
  simp (disch := (intros; (repeat' split) <;> (try simp_all only [State.startAdmission_only, State.goPort_only, State.modPort_only, State.molReport_only, State.setFld_only, State.settle_only, only_ite, only_ite_fst, ite_self, Only.refl, Nat.reduceOr]) <;> (try simp_all)))

@[simp] theorem State.giveHead_only (s : State) (p n : Nat) (u : State) {m' : Nat} (hm' : 134218753 ||| m' = m' := by decide) : Only m' u (State.giveHead s p n) ↔ Only m' u s := by
  refine Only.lift hm' fun u => ?_
  clear hm'
  unfold State.giveHead
  (try dsimp only); (repeat' split) <;> simp only [State.dueConf_only, State.modPort_only, State.sendChal_only, only_ite, only_ite_fst, ite_self, only_foldl, only_foldl_fst, implies_true, Only.refl, Nat.reduceOr]

theorem execAliveRx_only (p : Nat) (frame : List Nat) (s : State) : Outs (Only 511786497 s) (execAliveRx p frame s) := by
  refine State.onMsg_only _ _ _ _ _ fun s m => ?_
  dsimp only; (repeat' split) <;> simp

theorem execAliveTimeout_only (p : Nat) (s : State) : Outs (Only 511786497 s) (execAliveTimeout p s) := by
  unfold execAliveTimeout
  (repeat apply outs_onUnit); simp only [State.toTrain_only, only_ite, only_ite_fst, ite_self, Only.refl, Nat.reduceOr, outs_next, outs_fault, outs_refused, outs_ite, implies_true]

theorem execLinkLos_only (p : Nat) (s : State) : Outs (Only 511786497 s) (execLinkLos p s) := by
  unfold execLinkLos
  (repeat apply outs_onUnit); simp only [State.toTrain_only, only_ite, only_ite_fst, ite_self, Only.refl, Nat.reduceOr, outs_next, outs_fault, outs_refused, outs_ite, implies_true]

theorem execSyncLoss_only (p : Nat) (s : State) : Outs (Only 511786497 s) (execSyncLoss p s) := by
  unfold execSyncLoss
  (repeat apply outs_onUnit); simp only [State.toTrain_only, only_ite, only_ite_fst, ite_self, Only.refl, Nat.reduceOr, outs_next, outs_fault, outs_refused, outs_ite, implies_true]

@[simp] theorem State.retrainPort_only (s : State) (p : Nat) (u : State) {m' : Nat} (hm' : 511786497 ||| m' = m' := by decide) : Only m' u (State.retrainPort s p) ↔ Only m' u s := by
  refine Only.lift hm' fun u => ?_
  clear hm'
  unfold State.retrainPort
  simp only [State.setFld_only, State.toTrain_only, only_ite, only_ite_fst, ite_self, only_foldl, only_foldl_fst, implies_true, Only.refl, Nat.reduceOr]

@[simp] theorem State.qrel_only (s : State) (p : Nat) (u : State) {m' : Nat} (hm' : 134217729 ||| m' = m' := by decide) : Only m' u (State.qrel s p) ↔ Only m' u s := by
  refine Only.lift hm' fun u => ?_
  clear hm'
  unfold State.qrel
  simp only [State.goPort_only, State.setFld_only, only_ite, only_ite_fst, ite_self, only_foldl, only_foldl_fst, implies_true, Only.refl, Nat.reduceOr]

theorem execMcntRenewal_only (p : Nat) (s : State) : Outs (Only 134218752 s) (execMcntRenewal p s) := by
  unfold execMcntRenewal
  (repeat apply outs_onUnit); simp only [State.modPort_only, State.sendChal_only, only_ite, only_ite_fst, ite_self, Only.refl, Nat.reduceOr, outs_next, outs_fault, outs_refused, outs_ite, implies_true]

theorem execOutboundCreditTimeout_only (p : Nat) (s : State) : Outs (Only 478221825 s) (execOutboundCreditTimeout p s) := by
  unfold execOutboundCreditTimeout
  (repeat apply outs_onUnit); dsimp only; (repeat' split) <;> simp only [State.count_only, State.failSeg_only, State.modPort_only, State.molReport_only, only_ite, only_ite_fst, ite_self, only_foldl, only_foldl_fst, implies_true, Only.refl, Nat.reduceOr, outs_next, outs_fault, outs_refused, outs_ite]

@[simp] theorem State.cadenceStitch_only (s : State) (p : Nat) (u : State) {m' : Nat} (hm' : 134217728 ||| m' = m' := by decide) : Only m' u (State.cadenceStitch s p) ↔ Only m' u s := by
  refine Only.lift hm' fun u => ?_
  clear hm'
  unfold State.cadenceStitch
  simp only [State.modPort_only, only_ite, only_ite_fst, ite_self, Only.refl, Nat.reduceOr]

theorem execCadenceTx_only (p : Nat) (s : State) : Outs (Only 167772160 s) (execCadenceTx p s) := by
  unfold execCadenceTx
  (repeat apply outs_onUnit); simp only [State.framerOpen_only, State.modPort_only, State.molSend_only, only_ite, only_ite_fst, ite_self, Only.refl, Nat.reduceOr, outs_next, outs_fault, outs_refused, outs_ite, implies_true]

@[simp] theorem State.noteRef_only (s : State) (p ch idx : Nat) (vs : List Nat) (u : State) {m' : Nat} (hm' : 2048 ||| m' = m' := by decide) : Only m' u (State.noteRef s p ch idx vs) ↔ Only m' u s := by
  refine Only.lift hm' fun u => ?_
  clear hm'
  unfold State.noteRef
  (try dsimp only); (repeat' split) <;> simp only [State.modRnd_only, only_ite, only_ite_fst, ite_self, only_foldl, only_foldl_fst, implies_true, Only.refl, Nat.reduceOr]

@[simp] theorem State.gapRef_only (s : State) (p ch : Nat) (u : State) {m' : Nat} (hm' : 8460801 ||| m' = m' := by decide) : Only m' u (State.gapRef s p ch) ↔ Only m' u s := by
  refine Only.lift hm' fun u => ?_
  clear hm'
  unfold State.gapRef
  simp only [State.disqualify_only, only_ite, only_ite_fst, ite_self, only_foldl, only_foldl_fst, implies_true, Only.refl, Nat.reduceOr]

@[simp] theorem State.takeSamples_only (s : State) (p ch : Nat) (pay : List Nat) (u : State) {m' : Nat} (hm' : 177020417 ||| m' = m' := by decide) : Only m' u (State.takeSamples s p ch pay) ↔ Only m' u s := by
  refine Only.lift hm' fun u => ?_
  clear hm'
  unfold State.takeSamples
  simp only [State.count_only, State.framerTake_only, State.gapRef_only, State.modPort_only, State.noteRef_only, only_ite, only_ite_fst, ite_self, only_foldl, only_foldl_fst, implies_true, Only.refl, Nat.reduceOr]

theorem execSampleRx_only (p : Nat) (frame : List Nat) (credit : Bool) (s : State) : Outs (Only 512572929 s) (execSampleRx p frame credit s) := by
  refine State.onMsg_only _ _ _ _ _ fun s m => ?_
  dsimp only; (repeat' split) <;> simp

theorem execEchoTx_only (p : Nat) (s : State) : Outs (Only 134217728 s) (execEchoTx p s) := by
  unfold execEchoTx
  (repeat apply outs_onUnit); simp only [State.modPort_only, State.molSend_only, only_ite, only_ite_fst, ite_self, Only.refl, Nat.reduceOr, outs_next, outs_fault, outs_refused, outs_ite, implies_true]

theorem execEchoTimeout_only (p : Nat) (s : State) : Outs (Only 134217728 s) (execEchoTimeout p s) := by
  unfold execEchoTimeout
  (repeat apply outs_onUnit); (try dsimp only); (repeat' split) <;> simp_all only [State.modPort_only, only_ite, only_ite_fst, ite_self, Only.refl, Nat.reduceOr, outs_next, outs_fault, outs_refused, outs_ite, implies_true]

@[simp] theorem State.noteLat_only (s : State) (p : Nat) (u : State) {m' : Nat} (hm' : 134218753 ||| m' = m' := by decide) : Only m' u (State.noteLat s p) ↔ Only m' u s := by
  refine Only.lift hm' fun u => ?_
  clear hm'
  unfold State.noteLat
  simp only [State.draw_only, State.modPort_only, State.setFld_only, only_ite, only_ite_fst, ite_self, only_foldl, only_foldl_fst, implies_true, Only.refl, Nat.reduceOr]

@[simp] theorem State.estimate_only (s : State) (p : Nat) (f r : Int) (u : State) {m' : Nat} (hm' : 142677505 ||| m' = m' := by decide) : Only m' u (State.estimate s p f r) ↔ Only m' u s := by
  refine Only.lift hm' fun u => ?_
  clear hm'
  unfold State.estimate
  simp only [State.modPort_only, State.molReport_only, State.noteLat_only, only_ite, only_ite_fst, ite_self, Only.refl, Nat.reduceOr]

theorem execEchoReplyRx_only (p : Nat) (frame : List Nat) (age : Nat) (s : State) : Outs (Only 511786497 s) (execEchoReplyRx p frame age s) := by
  refine State.onMsg_only _ _ _ _ _ fun s m => ?_
  dsimp only; (repeat' split) <;> simp

theorem execIntRx_only (p : Nat) (frame : List Nat) (age : Nat) (s : State) : Outs (Only 512589321 s) (execIntRx p frame age s) := by
  exact State.onMsg_only _ _ _ _ _ fun s m => by simp

theorem execRegackRx_only (p : Nat) (frame : List Nat) (s : State) : Outs (Only 511786497 s) (execRegackRx p frame s) := by
  refine State.onMsg_only _ _ _ _ _ fun s m => ?_
  extract_lets s1 st want
  have h1 : Only 511786497 s s1 := by simp only [s1, State.expireTag_only, only_ite, ite_self, Only.refl, Nat.reduceOr]
  clear_value s1 st want
  split
  · exact h1
  split
  · simpa using h1
  · simpa [State.routeOf_only] using h1

@[simp] theorem State.molRound_only (s : State) (u : State) {m' : Nat} (hm' : 134218753 ||| m' = m' := by decide) : Only m' u (State.molRound s) ↔ Only m' u s := by
  refine Only.lift hm' fun u => ?_
  clear hm'
  unfold State.molRound
  simp only [State.adaptEq_only, State.modPort_only, only_ite, only_ite_fst, ite_self, only_foldl, only_foldl_fst, implies_true, Only.refl, Nat.reduceOr]

@[simp] theorem State.applyMol_only (s : State) (p : Nat) (u : State) {m' : Nat} (hm' : 511786497 ||| m' = m' := by decide) : Only m' u (State.applyMol s p) ↔ Only m' u s := by
  refine Only.lift hm' fun u => ?_
  clear hm'
  unfold State.applyMol
  simp only [State.apply1_only, State.endLink_only, State.framerRate_only, State.goPort_only, State.molReport_only, State.setFld_only, only_ite, only_ite_fst, ite_self, only_foldl, only_foldl_fst, implies_true, Only.refl, Nat.reduceOr]

end Sys2Proof.Machine
end

