-- ==== Sys2Proof/Laws/OnlyBridge.lean ====
section
/-! SUPPORT. Laws/OnlyBridge.lean: the pieces of the state that the operations and commands of Machine/Bridge.lean may change. -/

namespace Sys2Proof.Machine
open Sys2Proof Sys2Proof.Machine.Reg

set_option linter.all false
set_option Elab.async false

@[simp] theorem State.bar4Unmapped_only (s : State) (write : Bool) (be a v n : Nat) (u : State) {m' : Nat} (hm' : 276894209 ||| m' = m' := by decide) : Only m' u (State.bar4Unmapped s write be a v n) ↔ Only m' u s := by
  refine Only.lift hm' fun u => ?_
  clear hm'
  unfold State.bar4Unmapped
  simp only [State.accErr_only, State.respondErr_only, Only.refl, Nat.reduceOr]

theorem execBar4Write_only (a : Nat) (bs : List (Nat × Bool)) (s : State) : Outs (Only 344004097 s) (execBar4Write a bs s) := by
  unfold execBar4Write
  apply outs_onUnit
  split
  · simp
  · split
    · simp
    · split <;> (rename_i e; have k := congrArg (fun x => Only 344004097 s x.1) e; simp at k; simp [k])

@[simp] theorem State.bar4Read_only (s : State) (a : Nat) (be : List Bool) (u : State) {m' : Nat} (hm' : 344004097 ||| m' = m' := by decide) : Only m' u (State.bar4Read s a be) ↔ Only m' u s := by
  refine Only.lift hm' fun u => ?_
  clear hm'
  unfold State.bar4Read
  simp only [State.bar4Unmapped_only, State.fbrLog_only, State.modFbr_only, State.noteFbr_only, State.respondErr_only, State.respond_only, only_ite, only_ite_fst, ite_self, only_foldl, only_foldl_fst, implies_true, Only.refl, Nat.reduceOr]

theorem execBar4Read_only (a : Nat) (be : List Bool) (s : State) : Outs (Only 344004097 s) (execBar4Read a be s) := by
  unfold execBar4Read
  (repeat apply outs_onUnit); simp only [State.bar4Read_only, Only.refl, Nat.reduceOr, outs_next, outs_fault, outs_refused, outs_ite, implies_true]

@[simp] theorem State.sendSeg_only (s : State) (g : FSeg) (p : Nat) (u : State) {m' : Nat} (hm' : 201326593 ||| m' = m' := by decide) : Only m' u (State.sendSeg s g p) ↔ Only m' u s := by
  refine Only.lift hm' fun u => ?_
  clear hm'
  unfold State.sendSeg
  simp only [State.modFbr_only, State.modPort_only, State.modSeg_only, State.molSend_only, State.noteFbr_only, only_ite, only_ite_fst, ite_self, Only.refl, Nat.reduceOr]

@[simp] theorem State.handSeg_only (s : State) (g : FSeg) (u : State) {m' : Nat} (hm' : 478221825 ||| m' = m' := by decide) : Only m' u (State.handSeg s g) ↔ Only m' u s := by
  refine Only.lift hm' fun u => ?_
  clear hm'
  unfold State.handSeg
  (try dsimp only); (repeat' split) <;> simp only [State.failSeg_only, State.modSeg_only, State.sendSeg_only, only_ite, only_ite_fst, ite_self, only_foldl, only_foldl_fst, implies_true, Only.refl, Nat.reduceOr]

theorem execSegmentDispatch_only (hid : Nat) (s : State) : Outs (Only 478221825 s) (execSegmentDispatch hid s) := by
  unfold execSegmentDispatch
  (repeat apply outs_onUnit); (try dsimp only); (repeat' split) <;> simp_all only [State.handSeg_only, Only.refl, Nat.reduceOr, outs_next, outs_fault, outs_refused, outs_ite, implies_true]

theorem execBusyRetry_only (p : Nat) (s : State) : Outs (Only 478221825 s) (execBusyRetry p s) := by
  unfold execBusyRetry
  (repeat apply outs_onUnit); (try dsimp only); (repeat' split) <;> simp_all only [State.failSeg_only, State.sendSeg_only, only_ite, only_ite_fst, ite_self, only_foldl, only_foldl_fst, implies_true, Only.refl, Nat.reduceOr, outs_next, outs_fault, outs_refused, outs_ite]

theorem execRegackTimeout_only (p : Nat) (s : State) : Outs (Only 344004097 s) (execRegackTimeout p s) := by
  unfold execRegackTimeout
  (repeat apply outs_onUnit); (try dsimp only); (repeat' split) <;> simp_all only [State.failSeg_only, State.holdTag_only, Only.refl, Nat.reduceOr, outs_next, outs_fault, outs_refused, outs_ite, implies_true]

theorem execReadTimeout_only (s : State) : Outs (Only 344004097 s) (execReadTimeout s) := by
  unfold execReadTimeout
  (repeat apply outs_onUnit); (try dsimp only); (repeat' split) <;> simp_all only [State.failSeg_only, State.holdTag_only, only_ite, only_ite_fst, ite_self, Only.refl, Nat.reduceOr, outs_next, outs_fault, outs_refused, outs_ite, implies_true]

@[simp] theorem State.routeWrite_only (s : State) (rq : Requester) (i v : Nat) (u : State) {m' : Nat} (hm' : 75567617 ||| m' = m' := by decide) : Only m' u (State.routeWrite s rq i v) ↔ Only m' u s := by
  refine Only.lift hm' fun u => ?_
  clear hm'
  unfold State.routeWrite
  simp only [State.writeRoute_only, only_ite, only_ite_fst, ite_self, only_foldl, only_foldl_fst, implies_true, Only.refl, Nat.reduceOr]

end Sys2Proof.Machine
end

