-- ==== Sys2Proof/Laws/OnlyIsp.lean ====
section
/-! SUPPORT. Laws/OnlyIsp.lean: the pieces of the state that the operations and commands of Machine/Isp.lean may change. -/

namespace Sys2Proof.Machine
open Sys2Proof Sys2Proof.Machine.Reg

set_option linter.all false
set_option Elab.async false

@[simp] theorem State.modCam_only (s : State) (f : Cam → Cam) (u : State) {m' : Nat} (hm' : 536870912 ||| m' = m' := by decide) : Only m' u (State.modCam s f) ↔ Only m' u s := by
  refine Only.lift hm' fun u => ?_
  clear hm'
  unfold State.modCam
  simp only [only_cam, Only.refl, Nat.reduceOr]

@[simp] theorem State.modCamPort_only (s : State) (p : Nat) (f : CamPort → CamPort) (u : State) {m' : Nat} (hm' : 536870912 ||| m' = m' := by decide) : Only m' u (State.modCamPort s p f) ↔ Only m' u s := by
  refine Only.lift hm' fun u => ?_
  clear hm'
  unfold State.modCamPort
  simp only [State.modCam_only, only_ports, Only.refl, Nat.reduceOr]

@[simp] theorem State.modLp_only (s : State) (p : Nat) (f : LivePipe → LivePipe) (u : State) {m' : Nat} (hm' : 536870912 ||| m' = m' := by decide) : Only m' u (State.modLp s p f) ↔ Only m' u s := by
  refine Only.lift hm' fun u => ?_
  clear hm'
  unfold State.modLp
  simp only [State.modCam_only, Only.refl, Nat.reduceOr]

@[simp] theorem State.modRp_only (s : State) (q : Nat) (f : RePipe → RePipe) (u : State) {m' : Nat} (hm' : 536870912 ||| m' = m' := by decide) : Only m' u (State.modRp s q f) ↔ Only m' u s := by
  refine Only.lift hm' fun u => ?_
  clear hm'
  unfold State.modRp
  simp only [State.modCam_only, Only.refl, Nat.reduceOr]

@[simp] theorem State.modTx_only (s : State) (f : Tx → Tx) (u : State) {m' : Nat} (hm' : 536870912 ||| m' = m' := by decide) : Only m' u (State.modTx s f) ↔ Only m' u s := by
  refine Only.lift hm' fun u => ?_
  clear hm'
  unfold State.modTx
  simp only [State.modCam_only, Only.refl, Nat.reduceOr]

@[simp] theorem State.camEvent_only (s : State) (p b sev tfl : Nat) (u : State) {m' : Nat} (hm' : 545329665 ||| m' = m' := by decide) : Only m' u (State.camEvent s p b sev tfl) ↔ Only m' u s := by
  refine Only.lift hm' fun u => ?_
  clear hm'
  unfold State.camEvent
  simp only [State.event_only, State.journal_only, State.modCamPort_only, only_ite, only_ite_fst, ite_self, only_foldl, only_foldl_fst, implies_true, Only.refl, Nat.reduceOr]

@[simp] theorem State.txEvent_only (s : State) (b sev : Nat) (data : Nat := 0) (u : State) {m' : Nat} (hm' : 8458753 ||| m' = m' := by decide) : Only m' u (State.txEvent s b sev data) ↔ Only m' u s := by
  refine Only.lift hm' fun u => ?_
  clear hm'
  unfold State.txEvent
  simp only [State.report_only, only_ite, only_ite_fst, ite_self, only_foldl, only_foldl_fst, implies_true, Only.refl, Nat.reduceOr]

@[simp] theorem State.lpEvent_only (s : State) (p b sev : Nat) (data : Nat := 0) (u : State) {m' : Nat} (hm' : 8458753 ||| m' = m' := by decide) : Only m' u (State.lpEvent s p b sev data) ↔ Only m' u s := by
  refine Only.lift hm' fun u => ?_
  clear hm'
  unfold State.lpEvent
  simp only [State.report_only, only_ite, only_ite_fst, ite_self, only_foldl, only_foldl_fst, implies_true, Only.refl, Nat.reduceOr]

@[simp] theorem State.rpEvent_only (s : State) (q b sev : Nat) (data : Nat := 0) (u : State) {m' : Nat} (hm' : 8458753 ||| m' = m' := by decide) : Only m' u (State.rpEvent s q b sev data) ↔ Only m' u s := by
  refine Only.lift hm' fun u => ?_
  clear hm'
  unfold State.rpEvent
  simp only [State.report_only, only_ite, only_ite_fst, ite_self, only_foldl, only_foldl_fst, implies_true, Only.refl, Nat.reduceOr]

@[simp] theorem State.noteLp_only (s : State) (p : Nat) (u : State) {m' : Nat} (hm' : 1 ||| m' = m' := by decide) : Only m' u (State.noteLp s p) ↔ Only m' u s := by
  refine Only.lift hm' fun u => ?_
  clear hm'
  unfold State.noteLp
  simp only [State.setFld_only, only_ite, only_ite_fst, ite_self, Only.refl, Nat.reduceOr]

@[simp] theorem State.noteTx_only (s : State) (u : State) {m' : Nat} (hm' : 1 ||| m' = m' := by decide) : Only m' u (State.noteTx s) ↔ Only m' u s := by
  refine Only.lift hm' fun u => ?_
  clear hm'
  unfold State.noteTx
  simp only [State.setFld_only, only_ite, only_ite_fst, ite_self, Only.refl, Nat.reduceOr]

@[simp] theorem State.putDlv_only (s : State) (d : Dlv) (a : Nat) (bs : List Nat) (mrk : Option Nat := none) (u : State) {m' : Nat} (hm' : 9245321 ||| m' = m' := by decide) : Only m' u (State.putDlv s d a bs mrk) ↔ Only m' u s := by
  refine Only.lift hm' fun u => ?_
  clear hm'
  unfold State.putDlv
  simp only [State.addAfter_only, State.hubPut_only, State.putLpddr_only, only_ite, only_ite_fst, ite_self, only_foldl, only_foldl_fst, implies_true, Only.refl, Nat.reduceOr]

@[simp] theorem State.writeLines_only (s : State) (d : Dlv) (pitch : Nat) (rows emb : List (List Nat)) (cut : Option Nat) (u : State) {m' : Nat} (hm' : 9246345 ||| m' = m' := by decide) : Only m' u (State.writeLines s d pitch rows emb cut).1 ↔ Only m' u s := by
  refine Only.lift hm' fun u => ?_
  clear hm'
  unfold State.writeLines
  simp only [State.draw_only, State.putDlv_only, only_ite, only_ite_fst, ite_self, only_foldl, only_foldl_fst, implies_true, Only.refl, Nat.reduceOr]

@[simp] theorem State.queueTx_only (s : State) (t : TagOf) (d : Dlv) (dt w pitch : Nat) (rows : List (List Nat)) (cut : Option Nat) (u : State) {m' : Nat} (hm' : 545329665 ||| m' = m' := by decide) : Only m' u (State.queueTx s t d dt w pitch rows cut).1 ↔ Only m' u s := by
  refine Only.lift hm' fun u => ?_
  clear hm'
  unfold State.queueTx
  simp only [State.count_only, State.modTx_only, State.noteTx_only, State.txEvent_only, only_ite, only_ite_fst, ite_self, only_foldl, only_foldl_fst, implies_true, Only.refl, Nat.reduceOr]

@[simp] theorem State.freeSlots_only (s : State) (p : Nat) (u : State) {m' : Nat} (hm' : 536870913 ||| m' = m' := by decide) : Only m' u (State.freeSlots s p) ↔ Only m' u s := by
  refine Only.lift hm' fun u => ?_
  clear hm'
  unfold State.freeSlots
  simp only [State.modLp_only, State.noteLp_only, only_ite, only_ite_fst, ite_self, only_foldl, only_foldl_fst, implies_true, Only.refl, Nat.reduceOr]

@[simp] theorem State.noteCut_only (s : State) (p k : Nat) (wr : Wrote) (fcnt tfl : Nat) (u : State) {m' : Nat} (hm' : 8458753 ||| m' = m' := by decide) : Only m' u (State.noteCut s p k wr fcnt tfl) ↔ Only m' u s := by
  refine Only.lift hm' fun u => ?_
  clear hm'
  unfold State.noteCut
  simp only [State.count_only, State.report_only, only_ite, only_ite_fst, ite_self, only_foldl, only_foldl_fst, implies_true, Only.refl, Nat.reduceOr]

@[simp] theorem State.deliverLive_only (s : State) (p : Nat) (f : Frame) (t : TagOf) (d : Dlv) (rows : List (List Nat)) (cut : Option Nat) (failed : Bool) (u : State) {m' : Nat} (hm' : 546117257 ||| m' = m' := by decide) : Only m' u (State.deliverLive s p f t d rows cut failed).1 ↔ Only m' u s := by
  refine Only.lift hm' fun u => ?_
  clear hm'
  unfold State.deliverLive
  simp only [State.modLp_only, State.noteCut_only, State.queueTx_only, State.writeLines_only, only_ite, only_ite_fst, ite_self, only_foldl, only_foldl_fst, implies_true, Only.refl, Nat.reduceOr]

@[simp] theorem State.frameDone_only (s : State) (p : Nat) (f : Frame) (u : State) {m' : Nat} (hm' : 536870913 ||| m' = m' := by decide) : Only m' u (State.frameDone s p f) ↔ Only m' u s := by
  refine Only.lift hm' fun u => ?_
  clear hm'
  unfold State.frameDone
  simp only [State.freeSlots_only, State.modLp_only, only_ite, only_ite_fst, ite_self, Only.refl, Nat.reduceOr]

@[simp] theorem State.writeRef_only (s : State) (base w h : Nat) (arrived : Nat → Bool) (t1 : Img) (drop : Bool) (u : State) {m' : Nat} (hm' : 1152 ||| m' = m' := by decide) : Only m' u (State.writeRef s base w h arrived t1 drop) ↔ Only m' u s := by
  refine Only.lift hm' fun u => ?_
  clear hm'
  unfold State.writeRef
  simp only [State.draw_only, State.putLpddr_only, only_ite, only_ite_fst, ite_self, only_foldl, only_foldl_fst, implies_true, Only.refl, Nat.reduceOr]

@[simp] theorem State.processLive_only (s : State) (p : Nat) (f : Frame) (loss : FrameLoss) (u : State) {m' : Nat} (hm' : 546117257 ||| m' = m' := by decide) : Only m' u (State.processLive s p f loss) ↔ Only m' u s := by
  refine Only.lift hm' fun u => ?_
  clear hm'
  unfold State.processLive
  simp only [State.count_only, State.deliverLive_only, State.draw_only, State.frameDone_only, State.lpEvent_only, State.modLp_only, State.setFld_only, State.setRegN_only, State.writeRef_only, only_ite, only_ite_fst, ite_self, only_foldl, only_foldl_fst, implies_true, Only.refl, Nat.reduceOr]

theorem execPipelineFrameDone_only (p : Nat) (loss : FrameLoss) (s : State) : Outs (Only 546117257 s) (execPipelineFrameDone p loss s) := by
  unfold execPipelineFrameDone
  (repeat apply outs_onUnit); (try dsimp only); (repeat' split) <;> simp_all only [State.processLive_only, only_ite, only_ite_fst, ite_self, Only.refl, Nat.reduceOr, outs_next, outs_fault, outs_refused, outs_ite, implies_true]

@[simp] theorem State.commitDlv_only (s : State) (d : Dlv) (hdr : List Nat) (u : State) {m' : Nat} (hm' : 9245321 ||| m' = m' := by decide) : Only m' u (State.commitDlv s d hdr) ↔ Only m' u s := by
  refine Only.lift hm' fun u => ?_
  clear hm'
  unfold State.commitDlv
  simp only [State.putDlv_only, only_ite, only_ite_fst, ite_self, only_foldl, only_foldl_fst, implies_true, Only.refl, Nat.reduceOr]

@[simp] theorem State.commitOwed_only (s : State) (p : Nat) (o : Owed) (u : State) {m' : Nat} (hm' : 546116233 ||| m' = m' := by decide) : Only m' u (State.commitOwed s p o) ↔ Only m' u s := by
  refine Only.lift hm' fun u => ?_
  clear hm'
  unfold State.commitOwed
  simp only [State.commitDlv_only, State.count_only, State.freeSlots_only, State.modLp_only, Only.refl, Nat.reduceOr]

theorem execDeliveryCommit_only (p k : Nat) (s : State) : Outs (Only 546116233 s) (execDeliveryCommit p k s) := by
  unfold execDeliveryCommit
  (repeat apply outs_onUnit); (try dsimp only); (repeat' split) <;> simp_all only [State.commitOwed_only, only_ite, only_ite_fst, ite_self, only_foldl, only_foldl_fst, implies_true, Only.refl, Nat.reduceOr, outs_next, outs_fault, outs_refused, outs_ite]

@[simp] theorem State.loseDelivery_only (s : State) (p : Nat) (f : Frame) (g : Geo) (st : Stages) (d : Dlv) (u : State) {m' : Nat} (hm' : 546117257 ||| m' = m' := by decide) : Only m' u (State.loseDelivery s p f g st d) ↔ Only m' u s := by
  refine Only.lift hm' fun u => ?_
  clear hm'
  unfold State.loseDelivery
  simp only [State.deliverLive_only, State.draw_only, only_ite, only_ite_fst, ite_self, only_foldl, only_foldl_fst, implies_true, Only.refl, Nat.reduceOr]

@[simp] theorem State.loseFrame_only (s : State) (p : Nat) (f : Frame) (u : State) {m' : Nat} (hm' : 546117257 ||| m' = m' := by decide) : Only m' u (State.loseFrame s p f) ↔ Only m' u s := by
  refine Only.lift hm' fun u => ?_
  clear hm'
  unfold State.loseFrame
  simp only [State.loseDelivery_only, only_ite, only_ite_fst, ite_self, only_foldl, only_foldl_fst, implies_true, Only.refl, Nat.reduceOr]

@[simp] theorem State.loseLive_only (s : State) (p : Nat) (u : State) {m' : Nat} (hm' : 546117257 ||| m' = m' := by decide) : Only m' u (State.loseLive s p) ↔ Only m' u s := by
  refine Only.lift hm' fun u => ?_
  clear hm'
  unfold State.loseLive
  simp only [State.commitOwed_only, State.loseFrame_only, State.modLp_only, State.noteLp_only, only_foldl, only_foldl_fst, implies_true, Only.refl, Nat.reduceOr]

@[simp] theorem State.dropRef_only (s : State) (p : Nat) (changed : Bool) (u : State) {m' : Nat} (hm' : 536870912 ||| m' = m' := by decide) : Only m' u (State.dropRef s p changed) ↔ Only m' u s := by
  refine Only.lift hm' fun u => ?_
  clear hm'
  unfold State.dropRef
  simp only [State.modLp_only, only_ite, only_ite_fst, ite_self, Only.refl, Nat.reduceOr]

@[simp] theorem State.applyLp_only (s : State) (p : Nat) (ecc : Bool) (u : State) {m' : Nat} (hm' : 545329665 ||| m' = m' := by decide) : Only m' u (State.applyLp s p ecc) ↔ Only m' u s := by
  refine Only.lift hm' fun u => ?_
  clear hm'
  unfold State.applyLp
  simp only [State.apply1_only, State.dropRef_only, State.lpEvent_only, State.modLp_only, State.noteLp_only, State.setFld_only, only_ite, only_ite_fst, ite_self, only_foldl, only_foldl_fst, implies_true, Only.refl, Nat.reduceOr]

@[simp] theorem State.applyRp_only (s : State) (q c : Nat) (ecc : Bool) (u : State) {m' : Nat} (hm' : 545329665 ||| m' = m' := by decide) : Only m' u (State.applyRp s q c ecc) ↔ Only m' u s := by
  refine Only.lift hm' fun u => ?_
  clear hm'
  unfold State.applyRp
  simp only [State.apply1_only, State.modRp_only, State.rpEvent_only, State.setFld_only, only_ite, only_ite_fst, ite_self, only_foldl, only_foldl_fst, implies_true, Only.refl, Nat.reduceOr]

@[simp] theorem State.settleKicks_only (s : State) (u : State) {m' : Nat} (hm' : 8467969 ||| m' = m' := by decide) : Only m' u (State.settleKicks s) ↔ Only m' u s := by
  refine Only.lift hm' fun u => ?_
  clear hm'
  unfold State.settleKicks
  simp only [State.settle_only, only_ite, only_ite_fst, ite_self, Only.refl, Nat.reduceOr]

@[simp] theorem State.kickRp_only (s : State) (q mask : Nat) (u : State) {m' : Nat} (hm' : 8458753 ||| m' = m' := by decide) : Only m' u (State.kickRp s q mask).1 ↔ Only m' u s := by
  refine Only.lift hm' fun u => ?_
  clear hm'
  unfold State.kickRp
  simp only [State.rpEvent_only, State.setFld_only, only_ite, only_ite_fst, ite_self, only_foldl, only_foldl_fst, implies_true, Only.refl, Nat.reduceOr]

@[simp] theorem State.refuseKick_only (s : State) (q c : Nat) (u : State) {m' : Nat} (hm' : 8466945 ||| m' = m' := by decide) : Only m' u (State.refuseKick s q c) ↔ Only m' u s := by
  refine Only.lift hm' fun u => ?_
  clear hm'
  unfold State.refuseKick
  (try dsimp only); (repeat' split) <;> simp

@[simp] theorem State.endRp_only (s : State) (q c : Nat) (inst : Option Nat) (code : Nat) (hdr : Option (List Nat)) (u : State) {m' : Nat} (hm' : 545486337 ||| m' = m' := by decide) : Only m' u (State.endRp s q c inst code hdr) ↔ Only m' u s := by
  refine Only.lift hm' fun u => ?_
  clear hm'
  unfold State.endRp
  (try dsimp only); (repeat' split) <;> simp only [State.count_only, State.draw_only, State.endPart_only, State.modRp_only, State.noteLate_only, State.rpEvent_only, State.setFld_only, only_ite, only_ite_fst, ite_self, only_foldl, only_foldl_fst, implies_true, Only.refl, Nat.reduceOr]

@[simp] theorem State.beginRp_only (s : State) (q c : Nat) (inst : Option Nat) (u : State) {m' : Nat} (hm' : 545486337 ||| m' = m' := by decide) : Only m' u (State.beginRp s q c inst) ↔ Only m' u s := by
  refine Only.lift hm' fun u => ?_
  clear hm'
  unfold State.beginRp
  (try dsimp only); (repeat' split) <;> simp only [State.endRp_only, State.modRp_only, State.setFld_only, only_ite, only_ite_fst, ite_self, only_foldl, only_foldl_fst, implies_true, Only.refl, Nat.reduceOr]

@[simp] theorem State.nextRp_only (s : State) (q : Nat) (ecc : Bool) (u : State) {m' : Nat} (hm' : 545486337 ||| m' = m' := by decide) : Only m' u (State.nextRp s q ecc) ↔ Only m' u s := by
  refine Only.lift hm' fun u => ?_
  clear hm'
  unfold State.nextRp
  (try dsimp only); (repeat' split) <;> simp only [State.applyRp_only, State.beginRp_only, State.markRunning_only, State.refuseKick_only, State.setFld_only, State.settleKicks_only, only_ite, only_ite_fst, ite_self, only_foldl, only_foldl_fst, implies_true, Only.refl, Nat.reduceOr]

theorem execRpFrameStart_only (q : UnitStart) (s : State) : Outs (Only 545486337 s) (execRpFrameStart q s) := by
  unfold execRpFrameStart
  (repeat apply outs_onUnit); simp only [State.nextRp_only, only_ite, only_ite_fst, ite_self, only_foldl, only_foldl_fst, implies_true, Only.refl, Nat.reduceOr, outs_next, outs_fault, outs_refused, outs_ite]

@[simp] theorem State.deliverRp_only (s : State) (q c : Nat) (pb h : List Nat) (d : Dlv) (rows : List (List Nat)) (cut : Option Nat) (failed : Bool) (u : State) {m' : Nat} (hm' : 546117257 ||| m' = m' := by decide) : Only m' u (State.deliverRp s q c pb h d rows cut failed) ↔ Only m' u s := by
  refine Only.lift hm' fun u => ?_
  clear hm'
  unfold State.deliverRp
  simp only [State.commitDlv_only, State.draw_only, State.queueTx_only, State.writeLines_only, only_cam, only_ite, only_ite_fst, ite_self, Only.refl, Nat.reduceOr]

@[simp] theorem State.rpDeliver_only (s : State) (q : Nat) (r : RpRun) (loss : FrameLoss) (aborted : Bool) (pb : List Nat) (code : Nat) (g : Geo) (st : Stages) (radMiss : Option Nat) (k : Nat) (u : State) {m' : Nat} (hm' : 546117257 ||| m' = m' := by decide) : Only m' u (State.rpDeliver s q r loss aborted pb code g st radMiss k) ↔ Only m' u s := by
  refine Only.lift hm' fun u => ?_
  clear hm'
  unfold State.rpDeliver
  (try dsimp only); (repeat' split) <;> simp only [State.deliverRp_only, State.modRp_only, only_ite, only_ite_fst, ite_self, only_foldl, only_foldl_fst, implies_true, Only.refl, Nat.reduceOr]

@[simp] theorem State.finishRp_only (s : State) (q : Nat) (r : RpRun) (loss : FrameLoss) (aborted : Bool) (u : State) {m' : Nat} (hm' : 546272905 ||| m' = m' := by decide) : Only m' u (State.finishRp s q r loss aborted) ↔ Only m' u s := by
  refine Only.lift hm' fun u => ?_
  clear hm'
  unfold State.finishRp
  simp only [State.draw_only, State.endRp_only, State.modRp_only, State.rpDeliver_only, State.setRegN_only, only_ite, only_ite_fst, ite_self, only_foldl, only_foldl_fst, implies_true, Only.refl, Nat.reduceOr]

theorem execRpFrameEnd_only (q : Nat) (loss : FrameLoss) (s : State) : Outs (Only 546272905 s) (execRpFrameEnd q loss s) := by
  unfold execRpFrameEnd
  (repeat apply outs_onUnit); (try dsimp only); (repeat' split) <;> simp_all only [State.countAbort_only, State.finishRp_only, only_ite, only_ite_fst, ite_self, only_foldl, only_foldl_fst, implies_true, Only.refl, Nat.reduceOr, outs_next, outs_fault, outs_refused, outs_ite]

@[simp] theorem State.abortRp_only (s : State) (q : Nat) (u : State) {m' : Nat} (hm' : 546272905 ||| m' = m' := by decide) : Only m' u (State.abortRp s q) ↔ Only m' u s := by
  refine Only.lift hm' fun u => ?_
  clear hm'
  unfold State.abortRp
  (try dsimp only); (repeat' split) <;> simp only [State.finishRp_only, Only.refl, Nat.reduceOr]

@[simp] theorem State.noteFe_only (s : State) (u : State) {m' : Nat} (hm' : 536870912 ||| m' = m' := by decide) : Only m' u (State.noteFe s) ↔ Only m' u s := by
  refine Only.lift hm' fun u => ?_
  clear hm'
  unfold State.noteFe
  simp only [State.modTx_only, only_ite, only_ite_fst, ite_self, only_foldl, only_foldl_fst, implies_true, Only.refl, Nat.reduceOr]

@[simp] theorem State.deskew_only (s : State) (u : State) {m' : Nat} (hm' : 536870912 ||| m' = m' := by decide) : Only m' u (State.deskew s) ↔ Only m' u s := by
  refine Only.lift hm' fun u => ?_
  clear hm'
  unfold State.deskew
  simp only [State.modTx_only, only_ite, only_ite_fst, ite_self, only_foldl, only_foldl_fst, implies_true, Only.refl, Nat.reduceOr]

@[simp] theorem State.sendTx_only (s : State) (u : State) {m' : Nat} (hm' : 536870913 ||| m' = m' := by decide) : Only m' u (State.sendTx s) ↔ Only m' u s := by
  refine Only.lift hm' fun u => ?_
  clear hm'
  unfold State.sendTx
  (try dsimp only); (repeat' split) <;> simp only [State.count_only, State.deskew_only, State.freeSlots_only, State.modTx_only, State.noteFe_only, State.noteTx_only, only_ite, only_ite_fst, ite_self, only_foldl, only_foldl_fst, implies_true, Only.refl, Nat.reduceOr]

theorem execTxPacketSend_only (s : State) : Outs (Only 536870913 s) (execTxPacketSend s) := by
  unfold execTxPacketSend
  (repeat apply outs_onUnit); simp only [State.sendTx_only, Only.refl, Nat.reduceOr, outs_next, outs_fault, outs_refused, outs_ite, implies_true]

@[simp] theorem State.loseSrc_only (s : State) (x : TxSrc) (u : State) {m' : Nat} (hm' : 1 ||| m' = m' := by decide) : Only m' u (State.loseSrc s x) ↔ Only m' u s := by
  refine Only.lift hm' fun u => ?_
  clear hm'
  unfold State.loseSrc
  simp only [State.count_only, only_ite, only_ite_fst, ite_self, only_foldl, only_foldl_fst, implies_true, Only.refl, Nat.reduceOr]

@[simp] theorem State.loseTx_only (s : State) (u : State) {m' : Nat} (hm' : 536870913 ||| m' = m' := by decide) : Only m' u (State.loseTx s) ↔ Only m' u s := by
  refine Only.lift hm' fun u => ?_
  clear hm'
  unfold State.loseTx
  simp only [State.freeSlots_only, State.loseSrc_only, State.modTx_only, State.noteTx_only, only_ite, only_ite_fst, ite_self, only_foldl, only_foldl_fst, implies_true, Only.refl, Nat.reduceOr]

@[simp] theorem State.applyTx_only (s : State) (u : State) {m' : Nat} (hm' : 545329665 ||| m' = m' := by decide) : Only m' u (State.applyTx s) ↔ Only m' u s := by
  refine Only.lift hm' fun u => ?_
  clear hm'
  unfold State.applyTx
  simp only [State.apply1_only, State.loseTx_only, State.modTx_only, State.noteTx_only, State.setFld_only, State.txEvent_only, only_ite, only_ite_fst, ite_self, Only.refl, Nat.reduceOr]

end Sys2Proof.Machine
end

