-- ==== Sys2Proof/Laws/OnlyCamera.lean ====
section
/-! SUPPORT. Laws/OnlyCamera.lean: the pieces of the state that the operations and commands of Machine/Camera.lean may change. -/

namespace Sys2Proof.Machine
open Sys2Proof Sys2Proof.Machine.Reg

set_option linter.all false
set_option Elab.async false

@[simp] theorem State.modOpen_only (s : State) (p : Nat) (f : Frame → Frame) (u : State) {m' : Nat} (hm' : 536870912 ||| m' = m' := by decide) : Only m' u (State.modOpen s p f) ↔ Only m' u s := by
  refine Only.lift hm' fun u => ?_
  clear hm'
  unfold State.modOpen
  simp only [State.modLp_only, only_ite, only_ite_fst, ite_self, Only.refl, Nat.reduceOr]

@[simp] theorem State.flagFrame_only (s : State) (p b : Nat) (u : State) {m' : Nat} (hm' : 536870912 ||| m' = m' := by decide) : Only m' u (State.flagFrame s p b) ↔ Only m' u s := by
  refine Only.lift hm' fun u => ?_
  clear hm'
  unfold State.flagFrame
  simp only [State.modOpen_only, Only.refl, Nat.reduceOr]

@[simp] theorem State.fireCam_only (s : State) (p lo hi : Nat) (sw : Bool) (u : State) {m' : Nat} (hm' : 545329665 ||| m' = m' := by decide) : Only m' u (State.fireCam s p lo hi sw) ↔ Only m' u s := by
  refine Only.lift hm' fun u => ?_
  clear hm'
  unfold State.fireCam
  simp (disch := (intros; (repeat' split) <;> (try simp_all only [State.camEvent_only, State.count_only, State.modCamPort_only, State.tick_only, only_ite, only_ite_fst, ite_self, Only.refl, Nat.reduceOr]) <;> (try simp_all)))

@[simp] theorem State.fireFsync_only (s : State) (mask i : Nat) (sw : Bool) (u : State) {m' : Nat} (hm' : 545329665 ||| m' = m' := by decide) : Only m' u (State.fireFsync s mask i sw) ↔ Only m' u s := by
  refine Only.lift hm' fun u => ?_
  clear hm'
  unfold State.fireFsync
  simp only [State.camEvent_only, State.fireCam_only, State.modCam_only, State.setFld_only, only_ite, only_ite_fst, ite_self, only_foldl, only_foldl_fst, implies_true, Only.refl, Nat.reduceOr]

@[simp] theorem State.writeFsw_only (s : State) (mask i : Nat) (u : State) {m' : Nat} (hm' : 545329665 ||| m' = m' := by decide) : Only m' u (State.writeFsw s mask i) ↔ Only m' u s := by
  refine Only.lift hm' fun u => ?_
  clear hm'
  unfold State.writeFsw
  simp only [State.fireFsync_only, State.setFld_only, only_ite, only_ite_fst, ite_self, only_foldl, only_foldl_fst, implies_true, Only.refl, Nat.reduceOr]

@[simp] theorem State.loseEdge_only (s : State) (p : Nat) (u : State) {m' : Nat} (hm' : 545329665 ||| m' = m' := by decide) : Only m' u (State.loseEdge s p) ↔ Only m' u s := by
  refine Only.lift hm' fun u => ?_
  clear hm'
  unfold State.loseEdge
  simp only [State.camEvent_only, State.count_only, State.modCamPort_only, Only.refl, Nat.reduceOr]

theorem execFsyncEdge_only (p : Nat) (s : State) : Outs (Only 545329665 s) (execFsyncEdge p s) := by
  unfold execFsyncEdge
  (repeat apply outs_onUnit); (try dsimp only); (repeat' split) <;> simp (disch := (intros; (repeat' split) <;> (try simp_all only [State.loseEdge_only, State.modCamPort_only, State.setFld_only, State.tick_only, only_ite, only_ite_fst, ite_self, Only.refl, Nat.reduceOr]) <;> (try simp_all)))

theorem execFsyncPulseEnd_only (p : Nat) (s : State) : Outs (Only 1 s) (execFsyncPulseEnd p s) := by
  unfold execFsyncPulseEnd
  (repeat apply outs_onUnit); (try dsimp only); (repeat' split) <;> simp_all only [State.setFld_only, only_ite, only_ite_fst, ite_self, Only.refl, Nat.reduceOr, outs_next, outs_fault, outs_refused, outs_ite, implies_true]

@[simp] theorem State.takeCentres_only (s : State) (p : Nat) (u : State) {m' : Nat} (hm' : 536870912 ||| m' = m' := by decide) : Only m' u (State.takeCentres s p) ↔ Only m' u s := by
  refine Only.lift hm' fun u => ?_
  clear hm'
  unfold State.takeCentres
  simp only [State.modCamPort_only, only_ite, only_ite_fst, ite_self, only_foldl, only_foldl_fst, implies_true, Only.refl, Nat.reduceOr]

theorem execExposureCentre_only (p : Nat) (s : State) : Outs (Only 536870912 s) (execExposureCentre p s) := by
  unfold execExposureCentre
  (repeat apply outs_onUnit); simp only [State.takeCentres_only, Only.refl, Nat.reduceOr, outs_next, outs_fault, outs_refused, outs_ite, implies_true]

@[simp] theorem State.closeFrame_only (s : State) (p : Nat) (fe : Bool) (u : State) {m' : Nat} (hm' : 545329665 ||| m' = m' := by decide) : Only m' u (State.closeFrame s p fe) ↔ Only m' u s := by
  refine Only.lift hm' fun u => ?_
  clear hm'
  unfold State.closeFrame
  (try dsimp only); (repeat' split) <;> simp only [State.camEvent_only, State.flagFrame_only, State.modOpen_only, State.setFld_only, only_ite, only_ite_fst, ite_self, Only.refl, Nat.reduceOr]

@[simp] theorem State.applyCam_only (s : State) (p : Nat) (u : State) {m' : Nat} (hm' : 545329665 ||| m' = m' := by decide) : Only m' u (State.applyCam s p) ↔ Only m' u s := by
  refine Only.lift hm' fun u => ?_
  clear hm'
  unfold State.applyCam
  simp only [State.apply1_only, State.camEvent_only, State.closeFrame_only, State.dropRef_only, State.modCamPort_only, State.noteLp_only, State.setFld_only, only_ite, only_ite_fst, ite_self, only_foldl, only_foldl_fst, implies_true, Only.refl, Nat.reduceOr]

@[simp] theorem State.camSafePoint_only (s : State) (p : Nat) (ecc : Bool) (u : State) {m' : Nat} (hm' : 545329665 ||| m' = m' := by decide) : Only m' u (State.camSafePoint s p ecc) ↔ Only m' u s := by
  refine Only.lift hm' fun u => ?_
  clear hm'
  unfold State.camSafePoint
  simp only [State.applyCam_only, State.applyLp_only, only_ite, only_ite_fst, ite_self, only_foldl, only_foldl_fst, implies_true, Only.refl, Nat.reduceOr]

@[simp] theorem State.matchEdge_only (s : State) (p : Nat) (x : Nat) (u : State) {m' : Nat} (hm' : 545329665 ||| m' = m' := by decide) : Only m' u (State.matchEdge s p x).1 ↔ Only m' u s := by
  refine Only.lift hm' fun u => ?_
  clear hm'
  fun_induction State.matchEdge s p x <;> simp_all

@[simp] theorem State.takeDlvs_only (s : State) (p : Nat) (bad : List Nat) (u : State) {m' : Nat} (hm' : 536870912 ||| m' = m' := by decide) : Only m' u (State.takeDlvs s p bad).1 ↔ Only m' u s := by
  refine Only.lift hm' fun u => ?_
  clear hm'
  unfold State.takeDlvs
  simp only [State.modCamPort_only, only_ite, only_ite_fst, ite_self, only_foldl, only_foldl_fst, implies_true, Only.refl, Nat.reduceOr]

@[simp] theorem State.noteFs_only (s : State) (p : Nat) (nosync miss credit : Bool) (tfl : Nat) (u : State) {m' : Nat} (hm' : 545329665 ||| m' = m' := by decide) : Only m' u (State.noteFs s p nosync miss credit tfl) ↔ Only m' u s := by
  refine Only.lift hm' fun u => ?_
  clear hm'
  unfold State.noteFs
  simp only [State.camEvent_only, State.count_only, State.countWrap_only, only_ite, only_ite_fst, ite_self, Only.refl, Nat.reduceOr]

@[simp] theorem State.takeFrame_only (s : State) (p now : Nat) (stamp : List Nat) (round tfl : Nat) (u : State) {m' : Nat} (hm' : 545329665 ||| m' = m' := by decide) : Only m' u (State.takeFrame s p now stamp round tfl) ↔ Only m' u s := by
  refine Only.lift hm' fun u => ?_
  clear hm'
  unfold State.takeFrame
  simp only [State.count_only, State.lpEvent_only, State.modLp_only, State.noteLp_only, State.setFld_only, State.takeDlvs_only, only_ite, only_ite_fst, ite_self, only_foldl, only_foldl_fst, implies_true, Only.refl, Nat.reduceOr]

@[simp] theorem State.openWith_only (s : State) (p now : Nat) (e : Option Edge) (u : State) {m' : Nat} (hm' : 545329665 ||| m' = m' := by decide) : Only m' u (State.openWith s p now e) ↔ Only m' u s := by
  refine Only.lift hm' fun u => ?_
  clear hm'
  unfold State.openWith
  simp only [State.camEvent_only, State.count_only, State.noteFs_only, State.takeFrame_only, only_ite, only_ite_fst, ite_self, only_foldl, only_foldl_fst, implies_true, Only.refl, Nat.reduceOr]

@[simp] theorem State.openCam_only (s : State) (p : Nat) (u : State) {m' : Nat} (hm' : 545329665 ||| m' = m' := by decide) : Only m' u (State.openCam s p) ↔ Only m' u s := by
  refine Only.lift hm' fun u => ?_
  clear hm'
  unfold State.openCam
  simp only [State.matchEdge_only, State.modCamPort_only, State.openWith_only, State.setFld_only, State.takeCentres_only, only_ite, only_ite_fst, ite_self, only_foldl, only_foldl_fst, implies_true, Only.refl, Nat.reduceOr]

@[simp] theorem State.noteHeader_only (s : State) (p hdr : Nat) (u : State) {m' : Nat} (hm' : 545329665 ||| m' = m' := by decide) : Only m' u (State.noteHeader s p hdr) ↔ Only m' u s := by
  refine Only.lift hm' fun u => ?_
  clear hm'
  unfold State.noteHeader
  simp only [State.camEvent_only, State.count_only, State.flagFrame_only, only_ite, only_ite_fst, ite_self, only_foldl, only_foldl_fst, implies_true, Only.refl, Nat.reduceOr]

@[simp] theorem State.startFrame_only (s : State) (p vc : Nat) (ecc : Bool) (u : State) {m' : Nat} (hm' : 545329665 ||| m' = m' := by decide) : Only m' u (State.startFrame s p vc ecc) ↔ Only m' u s := by
  refine Only.lift hm' fun u => ?_
  clear hm'
  unfold State.startFrame
  simp only [State.camSafePoint_only, State.closeFrame_only, State.openCam_only, only_ite, only_ite_fst, ite_self, only_foldl, only_foldl_fst, implies_true, Only.refl, Nat.reduceOr]

@[simp] theorem State.frameStart_only (s : State) (p vc hdr : Nat) (ecc : Bool) (u : State) {m' : Nat} (hm' : 545329665 ||| m' = m' := by decide) : Only m' u (State.frameStart s p vc hdr ecc) ↔ Only m' u s := by
  refine Only.lift hm' fun u => ?_
  clear hm'
  unfold State.frameStart
  simp only [State.camSafePoint_only, State.noteHeader_only, State.startFrame_only, only_ite, only_ite_fst, ite_self, only_foldl, only_foldl_fst, implies_true, Only.refl, Nat.reduceOr]

theorem execFrameStart_only (p : Nat) (vc : FsPacket) (s : State) : Outs (Only 545329665 s) (execFrameStart p vc s) := by
  unfold execFrameStart
  (repeat apply outs_onUnit); simp only [State.frameStart_only, only_ite, only_ite_fst, ite_self, only_foldl, only_foldl_fst, implies_true, Only.refl, Nat.reduceOr, outs_next, outs_fault, outs_refused, outs_ite]

@[simp] theorem State.frameEnd_only (s : State) (p vc hdr : Nat) (u : State) {m' : Nat} (hm' : 545329665 ||| m' = m' := by decide) : Only m' u (State.frameEnd s p vc hdr) ↔ Only m' u s := by
  refine Only.lift hm' fun u => ?_
  clear hm'
  unfold State.frameEnd
  simp only [State.closeFrame_only, State.noteHeader_only, only_ite, only_ite_fst, ite_self, only_foldl, only_foldl_fst, implies_true, Only.refl, Nat.reduceOr]

theorem execFrameEnd_only (p : Nat) (vc : FePacket) (s : State) : Outs (Only 545329665 s) (execFrameEnd p vc s) := by
  unfold execFrameEnd
  (repeat apply outs_onUnit); simp only [State.frameEnd_only, only_ite, only_ite_fst, ite_self, only_foldl, only_foldl_fst, implies_true, Only.refl, Nat.reduceOr, outs_next, outs_fault, outs_refused, outs_ite]

theorem execFrameEndTimeout_only (p : Nat) (s : State) : Outs (Only 545329665 s) (execFrameEndTimeout p s) := by
  unfold execFrameEndTimeout
  (repeat apply outs_onUnit); simp only [State.closeFrame_only, only_ite, only_ite_fst, ite_self, Only.refl, Nat.reduceOr, outs_next, outs_fault, outs_refused, outs_ite, implies_true]

@[simp] theorem State.crcLine_only (s : State) (p : Nat) (u : State) {m' : Nat} (hm' : 545329665 ||| m' = m' := by decide) : Only m' u (State.crcLine s p) ↔ Only m' u s := by
  refine Only.lift hm' fun u => ?_
  clear hm'
  unfold State.crcLine
  simp only [State.camEvent_only, State.count_only, State.flagFrame_only, State.modOpen_only, Only.refl, Nat.reduceOr]

@[simp] theorem State.pixelLine_only (s : State) (p : Nat) (crcOk full : Bool) (data : List Nat) (u : State) {m' : Nat} (hm' : 545330689 ||| m' = m' := by decide) : Only m' u (State.pixelLine s p crcOk full data) ↔ Only m' u s := by
  refine Only.lift hm' fun u => ?_
  clear hm'
  unfold State.pixelLine
  (try dsimp only); (repeat' split) <;> simp only [State.camEvent_only, State.count_only, State.crcLine_only, State.draw_only, State.flagFrame_only, State.modCamPort_only, State.modOpen_only, only_ite, only_ite_fst, ite_self, Only.refl, Nat.reduceOr]

@[simp] theorem State.embeddedLine_only (s : State) (p : Nat) (crcOk : Bool) (data : List Nat) (u : State) {m' : Nat} (hm' : 545329665 ||| m' = m' := by decide) : Only m' u (State.embeddedLine s p crcOk data) ↔ Only m' u s := by
  refine Only.lift hm' fun u => ?_
  clear hm'
  unfold State.embeddedLine
  (try dsimp only); (repeat' split) <;> simp only [State.crcLine_only, State.flagFrame_only, State.modCamPort_only, State.modOpen_only, only_ite, only_ite_fst, ite_self, Only.refl, Nat.reduceOr]

@[simp] theorem State.longPacket_only (s : State) (p vc dt hdr : Nat) (crcOk full : Bool) (data : List Nat) (u : State) {m' : Nat} (hm' : 545330689 ||| m' = m' := by decide) : Only m' u (State.longPacket s p vc dt hdr crcOk full data) ↔ Only m' u s := by
  refine Only.lift hm' fun u => ?_
  clear hm'
  unfold State.longPacket
  simp only [State.camEvent_only, State.count_only, State.embeddedLine_only, State.noteHeader_only, State.pixelLine_only, only_ite, only_ite_fst, ite_self, only_foldl, only_foldl_fst, implies_true, Only.refl, Nat.reduceOr]

theorem execLongPacketRx_only (p vc dt hdr : Nat) (crcOk full : Bool) (data : List Nat) (s : State) : Outs (Only 545330689 s) (execLongPacketRx p vc dt hdr crcOk full data s) := by
  unfold execLongPacketRx
  (repeat apply outs_onUnit); simp only [State.longPacket_only, Only.refl, Nat.reduceOr, outs_next, outs_fault, outs_refused, outs_ite, implies_true]

@[simp] theorem State.loseCam_only (s : State) (p : Nat) (u : State) {m' : Nat} (hm' : 536870913 ||| m' = m' := by decide) : Only m' u (State.loseCam s p) ↔ Only m' u s := by
  refine Only.lift hm' fun u => ?_
  clear hm'
  unfold State.loseCam
  simp only [State.modCamPort_only, State.modLp_only, State.noteLp_only, State.setFld_only, only_ite, only_ite_fst, ite_self, only_foldl, only_foldl_fst, implies_true, Only.refl, Nat.reduceOr]

end Sys2Proof.Machine
end

