-- ==== Sys2Proof/Laws/OnlyPattern.lean ====
section
/-! SUPPORT. Laws/OnlyPattern.lean: the pieces of the state that the operations and commands of Machine/Pattern.lean may change. -/

namespace Sys2Proof.Machine
open Sys2Proof Sys2Proof.Machine.Reg

set_option linter.all false
set_option Elab.async false

@[simp] theorem State.putReport_only (s : State) (r : AdmReport) (u : State) {m' : Nat} (hm' : 1 ||| m' = m' := by decide) : Only m' u (State.putReport s r) ↔ Only m' u s := by
  refine Only.lift hm' fun u => ?_
  clear hm'
  unfold State.putReport
  simp only [State.setRegN_only, only_ite, only_ite_fst, ite_self, Only.refl, Nat.reduceOr]

@[simp] theorem State.noteAdm_only (s : State) (u : State) {m' : Nat} (hm' : 1 ||| m' = m' := by decide) : Only m' u (State.noteAdm s) ↔ Only m' u s := by
  refine Only.lift hm' fun u => ?_
  clear hm'
  unfold State.noteAdm
  simp only [State.setFld_only, only_ite, only_ite_fst, ite_self, Only.refl, Nat.reduceOr]

@[simp] theorem State.startAdmission_only (s : State) (u : State) {m' : Nat} (hm' : 135681 ||| m' = m' := by decide) : Only m' u (State.startAdmission s).1 ↔ Only m' u s := by
  refine Only.lift hm' fun u => ?_
  clear hm'
  unfold State.startAdmission
  simp only [State.modPat_only, State.noteAdm_only, State.patEvent_only, State.putReport_only, State.setFld_only, only_ite, only_ite_fst, ite_self, only_foldl, only_foldl_fst, implies_true, Only.refl, Nat.reduceOr]

@[simp] theorem State.withdraw_only (s : State) (u : State) {m' : Nat} (hm' : 8599041 ||| m' = m' := by decide) : Only m' u (State.withdraw s) ↔ Only m' u s := by
  refine Only.lift hm' fun u => ?_
  clear hm'
  unfold State.withdraw
  simp (disch := (intros; (repeat' split) <;> (try simp_all only [State.activate_only, State.modPat_only, State.setFld_only, State.settle_only, Only.refl, Nat.reduceOr]) <;> (try simp_all)))

@[simp] theorem State.endAdmission_only (s : State) (bs : List Nat) (u : State) {m' : Nat} (hm' : 8599041 ||| m' = m' := by decide) : Only m' u (State.endAdmission s bs) ↔ Only m' u s := by
  refine Only.lift hm' fun u => ?_
  clear hm'
  unfold State.endAdmission
  simp only [State.startAdmission_only, State.draw_only, State.modPat_only, State.noteAdm_only, State.patEvent_only, State.putReport_only, State.setFld_only, State.settle_only, State.withdraw_only, only_ite, only_ite_fst, ite_self, Only.refl, Nat.reduceOr]

theorem execAdmissionDone_only (s : State) : Outs (Only 8599041 s) (execAdmissionDone s) := by
  unfold execAdmissionDone
  (repeat apply outs_onUnit); (try dsimp only); (repeat' split) <;> simp_all only [State.endAdmission_only, only_ite, only_ite_fst, ite_self, Only.refl, Nat.reduceOr, outs_next, outs_fault, outs_refused, outs_ite, implies_true]

@[simp] theorem State.activate_only (s : State) (u : State) {m' : Nat} (hm' : 131073 ||| m' = m' := by decide) : Only m' u (State.activate s).1 ↔ Only m' u s := by
  refine Only.lift hm' fun u => ?_
  clear hm'
  unfold State.activate
  simp only [State.modPat_only, State.setFld_only, only_ite, only_ite_fst, ite_self, Only.refl, Nat.reduceOr]

@[simp] theorem State.cancelAct_only (s : State) (u : State) {m' : Nat} (hm' : 8599041 ||| m' = m' := by decide) : Only m' u (State.cancelAct s) ↔ Only m' u s := by
  refine Only.lift hm' fun u => ?_
  clear hm'
  unfold State.cancelAct
  simp only [State.withdraw_only, only_ite, only_ite_fst, ite_self, Only.refl, Nat.reduceOr]

@[simp] theorem State.deactivate_only (s : State) (u : State) {m' : Nat} (hm' : 131073 ||| m' = m' := by decide) : Only m' u (State.deactivate s) ↔ Only m' u s := by
  refine Only.lift hm' fun u => ?_
  clear hm'
  unfold State.deactivate
  simp only [State.modPat_only, State.setFld_only, only_ite, only_ite_fst, ite_self, only_foldl, only_foldl_fst, implies_true, Only.refl, Nat.reduceOr]

@[simp] theorem State.noteRidx_only (s : State) (u : State) {m' : Nat} (hm' : 1 ||| m' = m' := by decide) : Only m' u (State.noteRidx s) ↔ Only m' u s := by
  refine Only.lift hm' fun u => ?_
  clear hm'
  unfold State.noteRidx
  simp only [State.setFld_only, only_ite, only_ite_fst, ite_self, Only.refl, Nat.reduceOr]

@[simp] theorem State.nowActive_only (s : State) (im : Image) (u : State) {m' : Nat} (hm' : 8599041 ||| m' = m' := by decide) : Only m' u (State.nowActive s im) ↔ Only m' u s := by
  refine Only.lift hm' fun u => ?_
  clear hm'
  unfold State.nowActive
  (try dsimp only); (repeat' split) <;> simp only [State.activate_only, State.modPat_only, State.noteAdm_only, State.patEvent_only, State.setFld_only, State.setFloor_only, State.setRegN_only, State.settle_only, only_ite, only_ite_fst, ite_self, only_foldl, only_foldl_fst, implies_true, Only.refl, Nat.reduceOr]

@[simp] theorem State.tryActivate_only (s : State) (u : State) {m' : Nat} (hm' : 8599041 ||| m' = m' := by decide) : Only m' u (State.tryActivate s) ↔ Only m' u s := by
  refine Only.lift hm' fun u => ?_
  clear hm'
  unfold State.tryActivate
  (try dsimp only); (repeat' split) <;> simp only [State.activate_only, State.modPat_only, State.noteAdm_only, State.nowActive_only, State.patEvent_only, State.putReport_only, State.setFld_only, State.settle_only, only_ite, only_ite_fst, ite_self, Only.refl, Nat.reduceOr]

@[simp] theorem State.tryDeactivate_only (s : State) (u : State) {m' : Nat} (hm' : 8599041 ||| m' = m' := by decide) : Only m' u (State.tryDeactivate s) ↔ Only m' u s := by
  refine Only.lift hm' fun u => ?_
  clear hm'
  unfold State.tryDeactivate
  simp only [State.deactivate_only, State.modPat_only, State.noteAdm_only, State.patEvent_only, State.releasePattern_only, State.setFld_only, State.settle_only, only_ite, only_ite_fst, ite_self, Only.refl, Nat.reduceOr]

@[simp] theorem State.patRound_only (s : State) (u : State) {m' : Nat} (hm' : 8599041 ||| m' = m' := by decide) : Only m' u (State.patRound s) ↔ Only m' u s := by
  refine Only.lift hm' fun u => ?_
  clear hm'
  unfold State.patRound
  simp only [State.modPat_only, State.noteRidx_only, State.tryActivate_only, State.tryDeactivate_only, only_ite, only_ite_fst, ite_self, Only.refl, Nat.reduceOr]

theorem execPatternActivation_only (s : State) : Outs (Only 8599041 s) (execPatternActivation s) := by
  unfold execPatternActivation
  (repeat apply outs_onUnit); simp only [State.tryActivate_only, State.tryDeactivate_only, only_ite, only_ite_fst, ite_self, Only.refl, Nat.reduceOr, outs_next, outs_fault, outs_refused, outs_ite, implies_true]

theorem execPatternDeactivation_only (s : State) : Outs (Only 8599041 s) (execPatternDeactivation s) := by
  unfold execPatternDeactivation
  (repeat apply outs_onUnit); simp only [State.tryActivate_only, State.tryDeactivate_only, only_ite, only_ite_fst, ite_self, Only.refl, Nat.reduceOr, outs_next, outs_fault, outs_refused, outs_ite, implies_true]

@[simp] theorem State.skipJob_only (s : State) (i : Nat) (j : Job) (u : State) {m' : Nat} (hm' : 8458753 ||| m' = m' := by decide) : Only m' u (State.skipJob s i j) ↔ Only m' u s := by
  refine Only.lift hm' fun u => ?_
  clear hm'
  unfold State.skipJob
  simp only [State.count_only, State.patReport_only, Only.refl, Nat.reduceOr]

@[simp] theorem State.fireJob_only (s : State) (i : Nat) (j : Job) (u : State) {m' : Nat} (hm' : 579801609 ||| m' = m' := by decide) : Only m' u (State.fireJob s i j) ↔ Only m' u s := by
  refine Only.lift hm' fun u => ?_
  clear hm'
  unfold State.fireJob
  (try dsimp only); (repeat' split) <;> simp only [State.fireEmission_only, State.fireFsync_only, State.modPat_only, State.report_only, State.skipJob_only, only_ite, only_ite_fst, ite_self, only_foldl, only_foldl_fst, implies_true, Only.refl, Nat.reduceOr]

@[simp] theorem State.firePattern_only (s : State) (u : State) {m' : Nat} (hm' : 581898761 ||| m' = m' := by decide) : Only m' u (State.firePattern s) ↔ Only m' u s := by
  refine Only.lift hm' fun u => ?_
  clear hm'
  unfold State.firePattern
  (try dsimp only); (repeat' split) <;> simp only [State.fireJob_only, State.latchFired_only, only_ite, only_ite_fst, ite_self, only_foldl, only_foldl_fst, implies_true, Only.refl, Nat.reduceOr]

@[simp] theorem State.nextJob_only (s : State) (n : Nat) (u : State) {m' : Nat} (hm' : 10424833 ||| m' = m' := by decide) : Only m' u (State.nextJob s n) ↔ Only m' u s := by
  refine Only.lift hm' fun u => ?_
  clear hm'
  unfold State.nextJob
  (try dsimp only); (repeat' split) <;> simp only [State.markRunning_only, State.startJob_only, only_ite, only_ite_fst, ite_self, Only.refl, Nat.reduceOr]

theorem execInstanceDispatch_only (r : UnitStart) (s : State) : Outs (Only 549418497 s) (execInstanceDispatch r s) := by
  unfold execInstanceDispatch
  (repeat apply outs_onUnit); simp only [State.nextJob_only, State.nextRp_only, State.nextSolve_only, only_ite, only_ite_fst, ite_self, only_foldl, only_foldl_fst, implies_true, Only.refl, Nat.reduceOr, outs_next, outs_fault, outs_refused, outs_ite]

@[simp] theorem State.abortPart_only (s : State) (x : Inst) (p : Part) (u : State) {m' : Nat} (hm' : 548370153 ||| m' = m' := by decide) : Only m' u (State.abortPart s x p) ↔ Only m' u s := by
  refine Only.lift hm' fun u => ?_
  clear hm'
  unfold State.abortPart
  simp only [State.abortJob_only, State.abortLatch_only, State.abortRp_only, State.abortSolve_only, State.endPart_only, only_ite, only_ite_fst, ite_self, only_foldl, only_foldl_fst, implies_true, Only.refl, Nat.reduceOr]

@[simp] theorem State.abortInst_only (s : State) (id : Nat) (u : State) {m' : Nat} (hm' : 548370153 ||| m' = m' := by decide) : Only m' u (State.abortInst s id) ↔ Only m' u s := by
  refine Only.lift hm' fun u => ?_
  clear hm'
  unfold State.abortInst
  (try dsimp only); (repeat' split) <;> simp only [State.abortPart_only, State.countAbort_only, only_foldl, only_foldl_fst, implies_true, Only.refl, Nat.reduceOr]

@[simp] theorem State.expire_only (s : State) (x : Inst) (u : State) {m' : Nat} (hm' : 548370153 ||| m' = m' := by decide) : Only m' u (State.expire s x) ↔ Only m' u s := by
  refine Only.lift hm' fun u => ?_
  clear hm'
  unfold State.expire
  simp only [State.abortInst_only, State.noteLate_only, only_ite, only_ite_fst, ite_self, Only.refl, Nat.reduceOr]

theorem execDeadlineExpiry_only (s : State) : Outs (Only 548370153 s) (execDeadlineExpiry s) := by
  unfold execDeadlineExpiry
  (repeat apply outs_onUnit); simp only [State.expire_only, only_foldl, only_foldl_fst, implies_true, Only.refl, Nat.reduceOr, outs_next, outs_fault, outs_refused, outs_ite, implies_true]

@[simp] theorem State.overrunKick_only (s : State) (r : Nat) (u : State) {m' : Nat} (hm' : 11499041 ||| m' = m' := by decide) : Only m' u (State.overrunKick s r) ↔ Only m' u s := by
  refine Only.lift hm' fun u => ?_
  clear hm'
  unfold State.overrunKick
  (try dsimp only); (repeat' split) <;> simp only [State.abortSolve_only, State.countAbort_only, State.count_only, State.patReport_only, only_ite, only_ite_fst, ite_self, only_foldl, only_foldl_fst, implies_true, Only.refl, Nat.reduceOr]

@[simp] theorem State.overrunOn_only (s : State) (r : Nat) (u : State) {m' : Nat} (hm' : 548370153 ||| m' = m' := by decide) : Only m' u (State.overrunOn s r) ↔ Only m' u s := by
  refine Only.lift hm' fun u => ?_
  clear hm'
  unfold State.overrunOn
  (try dsimp only); (repeat' split) <;> simp only [State.abortInst_only, State.count_only, State.modInst_only, State.overrunKick_only, State.patReport_only, only_ite, only_ite_fst, ite_self, only_foldl, only_foldl_fst, implies_true, Only.refl, Nat.reduceOr]

theorem execWcetOverrun_only (r : Nat) (s : State) : Outs (Only 548370153 s) (execWcetOverrun r s) := by
  unfold execWcetOverrun
  (repeat apply outs_onUnit); simp only [State.overrunOn_only, Only.refl, Nat.reduceOr, outs_next, outs_fault, outs_refused, outs_ite, implies_true]

@[simp] theorem State.startReadmit_only (s : State) (kind idx cause : Nat) (u : State) {m' : Nat} (hm' : 131073 ||| m' = m' := by decide) : Only m' u (State.startReadmit s kind idx cause) ↔ Only m' u s := by
  refine Only.lift hm' fun u => ?_
  clear hm'
  unfold State.startReadmit
  simp only [State.modPat_only, State.noteAdm_only, only_ite, only_ite_fst, ite_self, Only.refl, Nat.reduceOr]

theorem execReadmissionDone_only (s : State) : Outs (Only 655360 s) (execReadmissionDone s) := by
  unfold execReadmissionDone
  (repeat apply outs_onUnit); dsimp only; (repeat' split) <;> simp only [State.modPat_only, only_ite, only_ite_fst, ite_self, Only.refl, Nat.reduceOr, outs_next, outs_fault, outs_refused, outs_ite, implies_true]

@[simp] theorem State.readmitFloors_only (s : State) (old im : Image) (was shed : List Nat) (u : State) {m' : Nat} (hm' : 131073 ||| m' = m' := by decide) : Only m' u (State.readmitFloors s old im was shed) ↔ Only m' u s := by
  refine Only.lift hm' fun u => ?_
  clear hm'
  unfold State.readmitFloors
  simp only [State.setFloor_only, only_ite, only_ite_fst, ite_self, only_foldl, only_foldl_fst, implies_true, Only.refl, Nat.reduceOr]

@[simp] theorem State.applyReadmit_only (s : State) (u : State) {m' : Nat} (hm' : 9131521 ||| m' = m' := by decide) : Only m' u (State.applyReadmit s) ↔ Only m' u s := by
  refine Only.lift hm' fun u => ?_
  clear hm'
  unfold State.applyReadmit
  (try dsimp only); (repeat' split) <;> simp only [State.count_only, State.draw_only, State.health_only, State.journal_only, State.journalParts_only, State.modPat_only, State.noteAdm_only, State.patEvent_only, State.readmitFloors_only, State.setFld_only, only_ite, only_ite_fst, ite_self, Only.refl, Nat.reduceOr]

theorem execReadmissionEffect_only (s : State) : Outs (Only 9131521 s) (execReadmissionEffect s) := by
  unfold execReadmissionEffect
  (repeat apply outs_onUnit); simp only [State.applyReadmit_only, only_ite, only_ite_fst, ite_self, Only.refl, Nat.reduceOr, outs_next, outs_fault, outs_refused, outs_ite, implies_true]

end Sys2Proof.Machine
end

