-- ==== Sys2Proof/Laws/OnlyHealth.lean ====
section
/-! SUPPORT. Laws/OnlyHealth.lean: the pieces of the state that the operations and commands of Machine/Health.lean may change. -/

namespace Sys2Proof.Machine
open Sys2Proof Sys2Proof.Machine.Reg

set_option linter.all false
set_option Elab.async false

@[simp] theorem State.modHlth_only (s : State) (f : Hlth → Hlth) (u : State) {m' : Nat} (hm' : 4194304 ||| m' = m' := by decide) : Only m' u (State.modHlth s f) ↔ Only m' u s := by
  refine Only.lift hm' fun u => ?_
  clear hm'
  unfold State.modHlth
  simp only [only_hlth, Only.refl, Nat.reduceOr]

@[simp] theorem State.pwrReport_only (s : State) (b sev src data : Nat) (u : State) {m' : Nat} (hm' : 8458753 ||| m' = m' := by decide) : Only m' u (State.pwrReport s b sev src data) ↔ Only m' u s := by
  refine Only.lift hm' fun u => ?_
  clear hm'
  unfold State.pwrReport
  simp only [State.report_only, Only.refl, Nat.reduceOr]

@[simp] theorem State.tmpReport_only (s : State) (b sev src data : Nat) (u : State) {m' : Nat} (hm' : 8458753 ||| m' = m' := by decide) : Only m' u (State.tmpReport s b sev src data) ↔ Only m' u s := by
  refine Only.lift hm' fun u => ?_
  clear hm'
  unfold State.tmpReport
  simp only [State.report_only, Only.refl, Nat.reduceOr]

@[simp] theorem State.setDrop_only (s : State) (kind idx : Nat) (b : Bool) (u : State) {m' : Nat} (hm' : 1 ||| m' = m' := by decide) : Only m' u (State.setDrop s kind idx b) ↔ Only m' u s := by
  refine Only.lift hm' fun u => ?_
  clear hm'
  unfold State.setDrop
  simp only [State.setReg_only, only_ite, only_ite_fst, ite_self, Only.refl, Nat.reduceOr]

@[simp] theorem State.flushEnginesFrom_only (s : State) (n : Nat) (u : State) {m' : Nat} (hm' : 2883585 ||| m' = m' := by decide) : Only m' u (State.flushEnginesFrom s n) ↔ Only m' u s := by
  refine Only.lift hm' fun u => ?_
  clear hm'
  unfold State.flushEnginesFrom
  simp (disch := (intros; (repeat' split) <;> (try simp_all only [State.flushIn_only, only_ite, only_ite_fst, ite_self, only_foldl, only_foldl_fst, implies_true, Only.refl, Nat.reduceOr]) <;> (try simp_all)))

@[simp] theorem State.loseQueued_only (s : State) (r code cause : Nat) (u : State) {m' : Nat} (hm' : 8615425 ||| m' = m' := by decide) : Only m' u (State.loseQueued s r code cause) ↔ Only m' u s := by
  refine Only.lift hm' fun u => ?_
  clear hm'
  unfold State.loseQueued
  simp only [State.loseOrReissue_only, only_foldl, only_foldl_fst, implies_true, Only.refl, Nat.reduceOr]

@[simp] theorem State.stopCore_only (s : State) (n cause : Nat) (u : State) {m' : Nat} (hm' : 11499241 ||| m' = m' := by decide) : Only m' u (State.stopCore s n cause) ↔ Only m' u s := by
  refine Only.lift hm' fun u => ?_
  clear hm'
  unfold State.stopCore
  simp only [State.flushEnginesFrom_only, State.flushFrom_only, State.killJob_only, State.loseHalt_only, State.loseNode_only, State.loseQueued_only, State.releaseMarkers_only, State.setCstate_only, State.settle_only, only_ite, only_ite_fst, ite_self, only_foldl, only_foldl_fst, implies_true, Only.refl, Nat.reduceOr]

@[simp] theorem State.stopEngine_only (s : State) (k cause : Nat) (u : State) {m' : Nat} (hm' : 11499009 ||| m' = m' := by decide) : Only m' u (State.stopEngine s k cause) ↔ Only m' u s := by
  refine Only.lift hm' fun u => ?_
  clear hm'
  unfold State.stopEngine
  (try dsimp only); (repeat' split) <;> simp only [State.endSolves_only, State.flushFrom_only, State.latchFired_only, State.loseNode_only, State.loseQueued_only, State.modEngine_only, State.modPslot_only, State.noteSlot_only, State.setFld_only, State.settle_only, only_ite, only_ite_fst, ite_self, only_foldl, only_foldl_fst, implies_true, Only.refl, Nat.reduceOr]

@[simp] theorem State.stopRp_only (s : State) (q cause : Nat) (u : State) {m' : Nat} (hm' : 546272905 ||| m' = m' := by decide) : Only m' u (State.stopRp s q cause) ↔ Only m' u s := by
  refine Only.lift hm' fun u => ?_
  clear hm'
  unfold State.stopRp
  (try dsimp only); (repeat' split) <;> simp only [State.abortRp_only, State.draw_only, State.loseQueued_only, State.modRp_only, State.refuseKick_only, State.setFld_only, State.settleKicks_only, only_ite, only_ite_fst, ite_self, only_foldl, only_foldl_fst, implies_true, Only.refl, Nat.reduceOr]

@[simp] theorem State.stopFramer_only (s : State) (u : State) {m' : Nat} (hm' : 33554432 ||| m' = m' := by decide) : Only m' u (State.stopFramer s) ↔ Only m' u s := by
  refine Only.lift hm' fun u => ?_
  clear hm'
  unfold State.stopFramer
  simp only [State.modWfm_only, State.ringDone_only, Only.refl, Nat.reduceOr]

@[simp] theorem State.markGone_only (s : State) (u : Nat) (u₀ : State) {m' : Nat} (hm' : 131072 ||| m' = m' := by decide) : Only m' u₀ (State.markGone s u) ↔ Only m' u₀ s := by
  refine Only.lift hm' fun u => ?_
  clear hm'
  unfold State.markGone
  simp only [State.modPat_only, only_ite, only_ite_fst, ite_self, only_foldl, only_foldl_fst, implies_true, Only.refl, Nat.reduceOr]

@[simp] theorem State.stopUnit_only (s : State) (kind idx cause : Nat) (u : State) {m' : Nat} (hm' : 1051688681 ||| m' = m' := by decide) : Only m' u (State.stopUnit s kind idx cause) ↔ Only m' u s := by
  refine Only.lift hm' fun u => ?_
  clear hm'
  unfold State.stopUnit
  (try dsimp only); (repeat' split) <;> simp only [State.endLink_only, State.goPort_only, State.loseCam_only, State.loseLive_only, State.loseMarkers_only, State.loseTx_only, State.markGone_only, State.setAbsent_only, State.setDrop_only, State.stopCore_only, State.stopEngine_only, State.stopFramer_only, State.stopRp_only, only_ite, only_ite_fst, ite_self, only_foldl, only_foldl_fst, implies_true, Only.refl, Nat.reduceOr]

@[simp] theorem State.noteFlog_only (s : State) (u : State) {m' : Nat} (hm' : 1 ||| m' = m' := by decide) : Only m' u (State.noteFlog s) ↔ Only m' u s := by
  refine Only.lift hm' fun u => ?_
  clear hm'
  unfold State.noteFlog
  simp only [State.setRegN_only, Only.refl, Nat.reduceOr]

@[simp] theorem State.pushFlog_only (s : State) (kind idx cause : Nat) (u : State) {m' : Nat} (hm' : 4194305 ||| m' = m' := by decide) : Only m' u (State.pushFlog s kind idx cause) ↔ Only m' u s := by
  refine Only.lift hm' fun u => ?_
  clear hm'
  unfold State.pushFlog
  simp only [State.modHlth_only, State.noteFlog_only, only_ite, only_ite_fst, ite_self, only_foldl, only_foldl_fst, implies_true, Only.refl, Nat.reduceOr]

@[simp] theorem State.pushNote_only (s : State) (kind : Option Nat) (idx cause : Nat) (u : State) {m' : Nat} (hm' : 4195329 ||| m' = m' := by decide) : Only m' u (State.pushNote s kind idx cause) ↔ Only m' u s := by
  refine Only.lift hm' fun u => ?_
  clear hm'
  unfold State.pushNote
  (try dsimp only); (repeat' split) <;> simp only [State.draw_only, State.pushFlog_only, only_ite, only_ite_fst, ite_self, only_foldl, only_foldl_fst, implies_true, Only.refl, Nat.reduceOr]

@[simp] theorem State.popFlog_only (s : State) (u : State) {m' : Nat} (hm' : 4194305 ||| m' = m' := by decide) : Only m' u (State.popFlog s) ↔ Only m' u s := by
  refine Only.lift hm' fun u => ?_
  clear hm'
  unfold State.popFlog
  simp only [State.modHlth_only, State.noteFlog_only, Only.refl, Nat.reduceOr]

theorem execPwrFlogPop_only (s : State) : Outs (Only 272629761 s) (execPwrFlogPop s) := by
  unfold execPwrFlogPop
  (repeat apply outs_onUnit); simp only [State.popFlog_only, State.respond_only, Only.refl, Nat.reduceOr, outs_next, outs_fault, outs_refused, outs_ite, implies_true]

@[simp] theorem State.postFence_only (s : State) (kind idx job grp cause : Nat) (u : State) {m' : Nat} (hm' : 12669441 ||| m' = m' := by decide) : Only m' u (State.postFence s kind idx job grp cause) ↔ Only m' u s := by
  refine Only.lift hm' fun u => ?_
  clear hm'
  unfold State.postFence
  simp only [State.health_only, State.modHlth_only, only_ite, only_ite_fst, ite_self, only_foldl, only_foldl_fst, implies_true, Only.refl, Nat.reduceOr]

@[simp] theorem State.fenceOne_only (s : State) (kind idx cause : Nat) (u : State) {m' : Nat} (hm' : 1055882985 ||| m' = m' := by decide) : Only m' u (State.fenceOne s kind idx cause) ↔ Only m' u s := by
  refine Only.lift hm' fun u => ?_
  clear hm'
  unfold State.fenceOne
  simp only [State.markGone_only, State.meshReport_only, State.postFence_only, State.pushFlog_only, State.pwrReport_only, State.setDrop_only, State.setFld_only, State.startReadmit_only, State.stopUnit_only, only_ite, only_ite_fst, ite_self, only_foldl, only_foldl_fst, implies_true, Only.refl, Nat.reduceOr]

@[simp] theorem State.lowerCause_only (s : State) (x : Strike) (cause : Nat) (u : State) {m' : Nat} (hm' : 4342273 ||| m' = m' := by decide) : Only m' u (State.lowerCause s x cause) ↔ Only m' u s := by
  refine Only.lift hm' fun u => ?_
  clear hm'
  unfold State.lowerCause
  (try dsimp only); (repeat' split) <;> simp only [State.modHlth_only, State.modPat_only, State.noteFlog_only, State.putHost_only, only_sring, only_ite, only_ite_fst, ite_self, only_foldl, only_foldl_fst, implies_true, Only.refl, Nat.reduceOr]

@[simp] theorem State.fenceAfter_only (s : State) (kind idx : Nat) (u : State) {m' : Nat} (hm' : 1055882985 ||| m' = m' := by decide) : Only m' u (State.fenceAfter s kind idx) ↔ Only m' u s := by
  refine Only.lift hm' fun u => ?_
  clear hm'
  unfold State.fenceAfter
  simp only [State.fenceOne_only, only_ite, only_ite_fst, ite_self, only_foldl, only_foldl_fst, implies_true, Only.refl, Nat.reduceOr]

@[simp] theorem State.fence_only (s : State) (kind idx cause : Nat) (u : State) {m' : Nat} (hm' : 1055882985 ||| m' = m' := by decide) : Only m' u (State.fence s kind idx cause) ↔ Only m' u s := by
  refine Only.lift hm' fun u => ?_
  clear hm'
  unfold State.fence
  (try dsimp only); (repeat' split) <;> simp only [State.fenceAfter_only, State.fenceOne_only, State.lowerCause_only, only_ite, only_ite_fst, ite_self, only_foldl, only_foldl_fst, implies_true, Only.refl, Nat.reduceOr]

@[simp] theorem State.hubBad_only (s : State) (w : Nat) (u : State) {m' : Nat} (hm' : 8458753 ||| m' = m' := by decide) : Only m' u (State.hubBad s w) ↔ Only m' u s := by
  refine Only.lift hm' fun u => ?_
  clear hm'
  unfold State.hubBad
  simp only [State.modJrn_only, State.noteCounts_only, State.pwrReport_only, only_ite, only_ite_fst, ite_self, only_foldl, only_foldl_fst, implies_true, Only.refl, Nat.reduceOr]

@[simp] theorem State.badWords_only (s : State) (node a : Nat) (ecc : List Nat) (u : State) {m' : Nat} (hm' : 1055882985 ||| m' = m' := by decide) : Only m' u (State.badWords s node a ecc) ↔ Only m' u s := by
  refine Only.lift hm' fun u => ?_
  clear hm'
  unfold State.badWords
  simp only [State.fence_only, State.hubBad_only, only_ite, only_ite_fst, ite_self, only_foldl, only_foldl_fst, implies_true, Only.refl, Nat.reduceOr]

theorem execReadPacketRx_only (src tag : Nat) (ecc : List Nat) (s : State) : Outs (Only 1055882985 s) (execReadPacketRx src tag ecc s) := by
  unfold execReadPacketRx
  (repeat apply outs_onUnit); (try dsimp only); (repeat' split) <;> simp_all only [State.badWords_only, State.pumpMesh_only, State.readPacket_only, only_ite, only_ite_fst, ite_self, only_foldl, only_foldl_fst, implies_true, Only.refl, Nat.reduceOr, outs_next, outs_fault, outs_refused, outs_ite]

theorem execCoreWatchdogExpiry_only (n : Nat) (s : State) : Outs (Only 1055882985 s) (execCoreWatchdogExpiry n s) := by
  unfold execCoreWatchdogExpiry
  (repeat apply outs_onUnit); simp only [State.fence_only, only_ite, only_ite_fst, ite_self, Only.refl, Nat.reduceOr, outs_next, outs_fault, outs_refused, outs_ite, implies_true]

theorem execStoreEccError_only (kind idx : Nat) (s : State) : Outs (Only 1055882985 s) (execStoreEccError kind idx s) := by
  unfold execStoreEccError
  split
  · simp
  · exact outs_onUnit (by simp)

theorem execParityError_only (kind idx : Nat) (s : State) : Outs (Only 1055882985 s) (execParityError kind idx s) := by
  unfold execParityError
  split
  · exact outs_onUnit (by simp)
  · simp

theorem execSolverWatchdog_only (k : Nat) (s : State) : Outs (Only 1055882985 s) (execSolverWatchdog k s) := by
  unfold execSolverWatchdog
  (repeat apply outs_onUnit); (try dsimp only); (repeat' split) <;> simp_all only [State.fence_only, only_ite, only_ite_fst, ite_self, only_foldl, only_foldl_fst, implies_true, Only.refl, Nat.reduceOr, outs_next, outs_fault, outs_refused, outs_ite]

theorem execPipelineWdt_only (p : Nat) (s : State) : Outs (Only 1055882985 s) (execPipelineWdt p s) := by
  unfold execPipelineWdt
  (repeat apply outs_onUnit); (try dsimp only); (repeat' split) <;> simp_all only [State.fence_only, only_ite, only_ite_fst, ite_self, Only.refl, Nat.reduceOr, outs_next, outs_fault, outs_refused, outs_ite, implies_true]

@[simp] theorem State.hostFence_only (s : State) (kind idx : Nat) (u : State) {m' : Nat} (hm' : 1055882985 ||| m' = m' := by decide) : Only m' u (State.hostFence s kind idx) ↔ Only m' u s := by
  refine Only.lift hm' fun u => ?_
  clear hm'
  unfold State.hostFence
  simp only [State.fence_only, only_ite, only_ite_fst, ite_self, Only.refl, Nat.reduceOr]

theorem execHostFence_only (kind idx : Nat) (s : State) : Outs (Only 1055882985 s) (execHostFence kind idx s) := by
  unfold execHostFence
  (repeat apply outs_onUnit); simp only [State.hostFence_only, Only.refl, Nat.reduceOr, outs_next, outs_fault, outs_refused, outs_ite, implies_true]

theorem execPurlRetrainDone_only (l : Nat) (ok : Bool) (s : State) : Outs (Only 1055882985 s) (execPurlRetrainDone l ok s) := by
  unfold execPurlRetrainDone
  (repeat apply outs_onUnit); simp only [State.fenceAfter_only, State.fenceOne_only, State.pumpMesh_only, State.retrain_only, State.setFld_only, only_ite, only_ite_fst, ite_self, only_foldl, only_foldl_fst, implies_true, Only.refl, Nat.reduceOr, outs_next, outs_fault, outs_refused, outs_ite]

@[simp] theorem State.setChk1_only (s : State) (n : Nat) (b : Bool) (u : State) {m' : Nat} (hm' : 4194305 ||| m' = m' := by decide) : Only m' u (State.setChk1 s n b) ↔ Only m' u s := by
  refine Only.lift hm' fun u => ?_
  clear hm'
  unfold State.setChk1
  simp only [State.modHlth_only, State.setReg_only, only_ite, only_ite_fst, ite_self, Only.refl, Nat.reduceOr]

@[simp] theorem State.chkExpire_only (s : State) (u : State) {m' : Nat} (hm' : 4194305 ||| m' = m' := by decide) : Only m' u (State.chkExpire s) ↔ Only m' u s := by
  refine Only.lift hm' fun u => ?_
  clear hm'
  unfold State.chkExpire
  simp (disch := (intros; (repeat' split) <;> (try simp_all only [State.setChk1_only, only_ite, only_ite_fst, ite_self, only_foldl, only_foldl_fst, implies_true, Only.refl, Nat.reduceOr]) <;> (try simp_all)))

theorem execChkWindowExpiry_only (s : State) : Outs (Only 4194305 s) (execChkWindowExpiry s) := by
  unfold execChkWindowExpiry
  (repeat apply outs_onUnit); simp only [State.chkExpire_only, Only.refl, Nat.reduceOr, outs_next, outs_fault, outs_refused, outs_ite, implies_true]

@[simp] theorem State.chkFault_only (s : State) (n : Nat) (u : State) {m' : Nat} (hm' : 1055882985 ||| m' = m' := by decide) : Only m' u (State.chkFault s n) ↔ Only m' u s := by
  refine Only.lift hm' fun u => ?_
  clear hm'
  unfold State.chkFault
  simp only [State.fence_only, State.killJob_only, State.pwrReport_only, State.setChk1_only, only_ite, only_ite_fst, ite_self, only_foldl, only_foldl_fst, implies_true, Only.refl, Nat.reduceOr]

theorem execChecksumFault_only (n : Nat) (vp : Bool) (array sub : Nat) (col : Bool) (pass diff ex : Nat) (s : State) : Outs (Only 1056931561 s) (execChecksumFault n vp array sub col pass diff ex s) := by
  unfold execChecksumFault
  (repeat apply outs_onUnit); (try dsimp only); (repeat' split) <;> simp_all only [State.chkFault_only, State.modCore_only, State.recordChk_only, State.upToFault_only, only_ite, only_ite_fst, ite_self, only_foldl, only_foldl_fst, implies_true, Only.refl, Nat.reduceOr, outs_next, outs_fault, outs_refused, outs_ite]

@[simp] theorem State.clearRegs_only (s : State) (lo n : Nat) (u : State) {m' : Nat} (hm' : 1 ||| m' = m' := by decide) : Only m' u (State.clearRegs s lo n) ↔ Only m' u s := by
  refine Only.lift hm' fun u => ?_
  clear hm'
  unfold State.clearRegs
  simp only [only_regs, Only.refl, Nat.reduceOr]

@[simp] theorem State.freshUnit_only (s : State) (kind idx : Nat) (u : State) {m' : Nat} (hm' : 708313145 ||| m' = m' := by decide) : Only m' u (State.freshUnit s kind idx) ↔ Only m' u s := by
  refine Only.lift hm' fun u => ?_
  clear hm'
  unfold State.freshUnit
  (try dsimp only); (repeat' split) <;> (first | (simp only [State.accClear_only, State.clearRegs_only, State.modCamPort_only, State.modCore_only, State.modEngine_only, State.modLp_only, State.modPort_only, State.modRp_only, State.modTx_only, State.modWfm_only, only_data, only_inst, only_sol, Only.refl, Nat.reduceOr]; done) | (refine Only.iff' ?_; intro p hp; cases p <;> first | exact rfl | exact absurd hp (by decide) | (simp [Piece.same, State.sizes, State.modCore, State.clearRegs, State.accClear, State.modEngine, State.modPort]; done)))

@[simp] theorem State.revive_only (s : State) (kind idx : Nat) (u : State) {m' : Nat} (hm' : 4194305 ||| m' = m' := by decide) : Only m' u (State.revive s kind idx) ↔ Only m' u s := by
  refine Only.lift hm' fun u => ?_
  clear hm'
  unfold State.revive
  simp only [State.modHlth_only, State.setFld_only, only_ite, only_ite_fst, ite_self, Only.refl, Nat.reduceOr]

theorem execUnitRevive_only (kind idx : Nat) (s : State) : Outs (Only 4194305 s) (execUnitRevive kind idx s) := by
  unfold execUnitRevive
  (repeat apply outs_onUnit); simp only [State.revive_only, Only.refl, Nat.reduceOr, outs_next, outs_fault, outs_refused, outs_ite, implies_true]

theorem execReviveDone_only (pass : Bool) (s : State) : Outs (Only 720966201 s) (execReviveDone pass s) := by
  unfold execReviveDone
  (repeat apply outs_onUnit); dsimp only; (repeat' split) <;> simp only [State.freshUnit_only, State.modHlth_only, State.pwrReport_only, State.revive_only, State.setChk1_only, State.setDrop_only, State.setFld_only, only_ite, only_ite_fst, ite_self, Only.refl, Nat.reduceOr, outs_next, outs_fault, outs_refused, outs_ite, implies_true]

theorem execCorrectedEcc_only (store idx : Nat) (s : State) : Outs (Only 12654081 s) (execCorrectedEcc store idx s) := by
  unfold execCorrectedEcc
  (repeat apply outs_onUnit); simp only [State.count_only, State.modHlth_only, State.pushNote_only, State.pwrReport_only, only_ite, only_ite_fst, ite_self, only_foldl, only_foldl_fst, implies_true, Only.refl, Nat.reduceOr, outs_next, outs_fault, outs_refused, outs_ite]

theorem execAvfsEvaluation_only (n : Nat) (margin alarm : Bool) (s : State) : Outs (Only 1055882985 s) (execAvfsEvaluation n margin alarm s) := by
  unfold execAvfsEvaluation
  (repeat apply outs_onUnit); simp only [State.count_only, State.fence_only, State.modCore_only, State.pwrReport_only, State.setFld_only, only_ite, only_ite_fst, ite_self, only_foldl, only_foldl_fst, implies_true, Only.refl, Nat.reduceOr, outs_next, outs_fault, outs_refused, outs_ite]

@[simp] theorem State.noteClocks_only (s : State) (u : State) {m' : Nat} (hm' : 1 ||| m' = m' := by decide) : Only m' u (State.noteClocks s) ↔ Only m' u s := by
  refine Only.lift hm' fun u => ?_
  clear hm'
  unfold State.noteClocks
  simp only [State.setFld_only, only_ite, only_ite_fst, ite_self, only_foldl, only_foldl_fst, implies_true, Only.refl, Nat.reduceOr]

@[simp] theorem State.thermal_only (s : State) (cause k : Nat) (u : State) {m' : Nat} (hm' : 12670465 ||| m' = m' := by decide) : Only m' u (State.thermal s cause k) ↔ Only m' u s := by
  refine Only.lift hm' fun u => ?_
  clear hm'
  unfold State.thermal
  simp only [State.health_only, State.pushNote_only, only_ite, only_ite_fst, ite_self, only_foldl, only_foldl_fst, implies_true, Only.refl, Nat.reduceOr]

@[simp] theorem State.tmpPair_only (s : State) (u : State) {m' : Nat} (hm' : 12653057 ||| m' = m' := by decide) : Only m' u (State.tmpPair s) ↔ Only m' u s := by
  refine Only.lift hm' fun u => ?_
  clear hm'
  unfold State.tmpPair
  simp only [State.modHlth_only, State.setFld_only, State.tmpReport_only, only_ite, only_ite_fst, ite_self, Only.refl, Nat.reduceOr]

@[simp] theorem State.failSensor_only (s : State) (k : Nat) (u : State) {m' : Nat} (hm' : 12654081 ||| m' = m' := by decide) : Only m' u (State.failSensor s k) ↔ Only m' u s := by
  refine Only.lift hm' fun u => ?_
  clear hm'
  unfold State.failSensor
  simp only [State.modHlth_only, State.pushNote_only, State.setFld_only, State.tmpReport_only, only_ite, only_ite_fst, ite_self, only_foldl, only_foldl_fst, implies_true, Only.refl, Nat.reduceOr]

@[simp] theorem State.checkSensor_only (s : State) (k : Nat) (u : State) {m' : Nat} (hm' : 12670465 ||| m' = m' := by decide) : Only m' u (State.checkSensor s k) ↔ Only m' u s := by
  refine Only.lift hm' fun u => ?_
  clear hm'
  unfold State.checkSensor
  simp only [State.modHlth_only, State.setFld_only, State.thermal_only, State.tmpReport_only, only_ite, only_ite_fst, ite_self, Only.refl, Nat.reduceOr]

@[simp] theorem State.checkCap_only (s : State) (u : State) {m' : Nat} (hm' : 12670465 ||| m' = m' := by decide) : Only m' u (State.checkCap s) ↔ Only m' u s := by
  refine Only.lift hm' fun u => ?_
  clear hm'
  unfold State.checkCap
  simp only [State.setFld_only, State.thermal_only, State.tmpReport_only, only_ite, only_ite_fst, ite_self, only_foldl, only_foldl_fst, implies_true, Only.refl, Nat.reduceOr]

@[simp] theorem State.noteTmp_only (s : State) (u : State) {m' : Nat} (hm' : 1 ||| m' = m' := by decide) : Only m' u (State.noteTmp s) ↔ Only m' u s := by
  refine Only.lift hm' fun u => ?_
  clear hm'
  unfold State.noteTmp
  (try dsimp only); (repeat' split) <;> simp only [State.noteClocks_only, State.setFld_only, only_ite, only_ite_fst, ite_self, only_foldl, only_foldl_fst, implies_true, Only.refl, Nat.reduceOr]

theorem execTmpSensorSample_only (temps : List (Option Nat)) (s : State) : Outs (Only 12670465 s) (execTmpSensorSample temps s) := by
  unfold execTmpSensorSample
  (repeat apply outs_onUnit); (try dsimp only); (repeat' split) <;> simp (disch := (intros; (repeat' split) <;> (try simp_all only [State.checkCap_only, State.checkSensor_only, State.failSensor_only, State.modHlth_only, State.noteTmp_only, State.setFld_only, State.tmpPair_only, only_ite, only_ite_fst, ite_self, only_foldl, only_foldl_fst, implies_true, Only.refl, Nat.reduceOr]) <;> (try simp_all)))

theorem execSensorStale_only (k : Nat) (s : State) : Outs (Only 12654081 s) (execSensorStale k s) := by
  unfold execSensorStale
  (repeat apply outs_onUnit); simp only [State.failSensor_only, State.noteTmp_only, only_ite, only_ite_fst, ite_self, Only.refl, Nat.reduceOr, outs_next, outs_fault, outs_refused, outs_ite, implies_true]

@[simp] theorem State.applyPwr_only (s : State) (u : State) {m' : Nat} (hm' : 8458753 ||| m' = m' := by decide) : Only m' u (State.applyPwr s) ↔ Only m' u s := by
  refine Only.lift hm' fun u => ?_
  clear hm'
  unfold State.applyPwr
  simp only [State.apply1_only, State.pwrReport_only, State.setFld_only, only_ite, only_ite_fst, ite_self, Only.refl, Nat.reduceOr]

end Sys2Proof.Machine
end

