-- ==== Sys2Proof/Laws/OnlyCaston.lean ====
section
/-! SUPPORT. Laws/OnlyCaston.lean: the pieces of the state that the operations and commands of Machine/Caston.lean may change. -/

namespace Sys2Proof.Machine
open Sys2Proof Sys2Proof.Machine.Reg

set_option linter.all false
set_option Elab.async false

@[simp] theorem State.modBoot_only (s : State) (f : Boot → Boot) (u : State) {m' : Nat} (hm' : 8388608 ||| m' = m' := by decide) : Only m' u (State.modBoot s f) ↔ Only m' u s := by
  refine Only.lift hm' fun u => ?_
  clear hm'
  unfold State.modBoot
  simp only [only_boot, Only.refl, Nat.reduceOr]

@[simp] theorem State.setCastPhase_only (s : State) (p : Nat) (u : State) {m' : Nat} (hm' : 1 ||| m' = m' := by decide) : Only m' u (State.setCastPhase s p) ↔ Only m' u s := by
  refine Only.lift hm' fun u => ?_
  clear hm'
  unfold State.setCastPhase
  simp only [State.setFld_only, Only.refl, Nat.reduceOr]

@[simp] theorem State.setBoStage_only (s : State) (n : Nat) (u : State) {m' : Nat} (hm' : 1 ||| m' = m' := by decide) : Only m' u (State.setBoStage s n) ↔ Only m' u s := by
  refine Only.lift hm' fun u => ?_
  clear hm'
  unfold State.setBoStage
  simp only [State.setFld_only, Only.refl, Nat.reduceOr]

@[simp] theorem State.secReport_only (s : State) (b src sev data : Nat) (u : State) {m' : Nat} (hm' : 8458753 ||| m' = m' := by decide) : Only m' u (State.secReport s b src sev data) ↔ Only m' u s := by
  refine Only.lift hm' fun u => ?_
  clear hm'
  unfold State.secReport
  simp only [State.report_only, Only.refl, Nat.reduceOr]

@[simp] theorem State.stagePartition_only (s : State) (u : State) {m' : Nat} (hm' : 8467969 ||| m' = m' := by decide) : Only m' u (State.stagePartition s) ↔ Only m' u s := by
  refine Only.lift hm' fun u => ?_
  clear hm'
  unfold State.stagePartition
  simp only [State.applyJrn_only, State.draw_only, State.journal_only, State.setFld_only, only_ite, only_ite_fst, ite_self, only_foldl, only_foldl_fst, implies_true, Only.refl, Nat.reduceOr]

@[simp] theorem State.setIds_only (s : State) (ids : Nat) (u : State) {m' : Nat} (hm' : 4096 ||| m' = m' := by decide) : Only m' u (State.setIds s ids) ↔ Only m' u s := by
  refine Only.lift hm' fun u => ?_
  clear hm'
  unfold State.setIds
  simp only [only_hif, only_ite, only_ite_fst, ite_self, only_foldl, only_foldl_fst, implies_true, Only.refl, Nat.reduceOr]

@[simp] theorem State.enterLpddr_only (s : State) (u : State) {m' : Nat} (hm' : 8388609 ||| m' = m' := by decide) : Only m' u (State.enterLpddr s) ↔ Only m' u s := by
  refine Only.lift hm' fun u => ?_
  clear hm'
  unfold State.enterLpddr
  simp only [State.modBoot_only, State.setCastPhase_only, only_ite, only_ite_fst, ite_self, only_foldl, only_foldl_fst, implies_true, Only.refl, Nat.reduceOr]

@[simp] theorem State.acceptImage_only (s : State) (img : List Nat × List Nat) (slot : Nat) (aFailed : Option Nat) (u : State) {m' : Nat} (hm' : 8468033 ||| m' = m' := by decide) : Only m' u (State.acceptImage s img slot aFailed) ↔ Only m' u s := by
  refine Only.lift hm' fun u => ?_
  clear hm'
  unfold State.acceptImage
  (try dsimp only); (repeat' split) <;> simp only [State.enterLpddr_only, State.journal_only, State.modBoot_only, State.setFld_only, State.setIds_only, State.stagePartition_only, only_hub, only_ite, only_ite_fst, ite_self, only_foldl, only_foldl_fst, implies_true, Only.refl, Nat.reduceOr]

@[simp] theorem State.castFail_only (s : State) (c : Nat) (u : State) {m' : Nat} (hm' : 8458753 ||| m' = m' := by decide) : Only m' u (State.castFail s c) ↔ Only m' u s := by
  refine Only.lift hm' fun u => ?_
  clear hm'
  unfold State.castFail
  simp only [State.journal_only, State.modBoot_only, State.setCastPhase_only, State.setFld_only, Only.refl, Nat.reduceOr]

@[simp] theorem State.awaitImage_only (s : State) (u : State) {m' : Nat} (hm' : 8392704 ||| m' = m' := by decide) : Only m' u (State.awaitImage s) ↔ Only m' u s := by
  refine Only.lift hm' fun u => ?_
  clear hm'
  unfold State.awaitImage
  simp only [State.modBoot_only, State.setIds_only, only_ite, only_ite_fst, ite_self, only_foldl, only_foldl_fst, implies_true, Only.refl, Nat.reduceOr]

@[simp] theorem State.findImage_only (s : State) (u : State) {m' : Nat} (hm' : 8468033 ||| m' = m' := by decide) : Only m' u (State.findImage s) ↔ Only m' u s := by
  refine Only.lift hm' fun u => ?_
  clear hm'
  unfold State.findImage
  (try dsimp only); (repeat' split) <;> simp only [State.acceptImage_only, State.awaitImage_only, State.castFail_only, State.setFld_only, only_ite, only_ite_fst, ite_self, only_foldl, only_foldl_fst, implies_true, Only.refl, Nat.reduceOr]

@[simp] theorem State.lpddrPhase_only (s : State) (u : State) {m' : Nat} (hm' : 8468225 ||| m' = m' := by decide) : Only m' u (State.lpddrPhase s) ↔ Only m' u s := by
  refine Only.lift hm' fun u => ?_
  clear hm'
  unfold State.lpddrPhase
  simp only [State.mount_only, State.setCastPhase_only, State.setFld_only, State.writeReset_only, only_ite, only_ite_fst, ite_self, only_foldl, only_foldl_fst, implies_true, Only.refl, Nat.reduceOr]

@[simp] theorem State.purlPhase_only (s : State) (bad : List Nat) (u : State) {m' : Nat} (hm' : 1055882985 ||| m' = m' := by decide) : Only m' u (State.purlPhase s bad) ↔ Only m' u s := by
  refine Only.lift hm' fun u => ?_
  clear hm'
  unfold State.purlPhase
  simp only [State.castFail_only, State.fenceAfter_only, State.fenceOne_only, State.setCastPhase_only, State.setFld_only, only_ite, only_ite_fst, ite_self, only_foldl, only_foldl_fst, implies_true, Only.refl, Nat.reduceOr]

@[simp] theorem State.swatchDrop_only (s : State) (kind idx test : Nat) (u : State) {m' : Nat} (hm' : 1055882985 ||| m' = m' := by decide) : Only m' u (State.swatchDrop s kind idx test) ↔ Only m' u s := by
  refine Only.lift hm' fun u => ?_
  clear hm'
  unfold State.swatchDrop
  simp only [State.fenceOne_only, State.journal_only, only_ite, only_ite_fst, ite_self, only_foldl, only_foldl_fst, implies_true, Only.refl, Nat.reduceOr]

@[simp] theorem State.swatch_only (s : State) (cores ses : List (Nat × Nat)) (hubBad : Bool) (u : State) {m' : Nat} (hm' : 1055882985 ||| m' = m' := by decide) : Only m' u (State.swatch s cores ses hubBad).1 ↔ Only m' u s := by
  refine Only.lift hm' fun u => ?_
  clear hm'
  unfold State.swatch
  simp only [State.fenceOne_only, State.setFld_only, State.setRegN_only, State.swatchDrop_only, only_ite, only_ite_fst, ite_self, only_foldl, only_foldl_fst, implies_true, Only.refl, Nat.reduceOr]

@[simp] theorem State.offerRecord_only (s : State) (u : State) {m' : Nat} (hm' : 8459073 ||| m' = m' := by decide) : Only m' u (State.offerRecord s) ↔ Only m' u s := by
  refine Only.lift hm' fun u => ?_
  clear hm'
  unfold State.offerRecord
  simp only [State.journal_only, State.modBoot_only, State.setFld_only, only_hub, only_nor, only_ite, only_ite_fst, ite_self, only_foldl, only_foldl_fst, implies_true, Only.refl, Nat.reduceOr]

@[simp] theorem State.makeReady_only (s : State) (us : Nat) (u : State) {m' : Nat} (hm' : 8493945 ||| m' = m' := by decide) : Only m' u (State.makeReady s us) ↔ Only m' u s := by
  refine Only.lift hm' fun u => ?_
  clear hm'
  unfold State.makeReady
  extract_lets fw s1 s2 any s3 s4 s5 svn old
  have h2 : Only 8493945 u s2 ↔ Only 8493945 u s := Only.iff' (by intro p hp; cases p <;> first | exact rfl | exact absurd hp (by decide))
  have h5 : Only 8493945 u s5 ↔ Only 8493945 u s := by simp [s5, s4, s3, h2]
  clear_value svn old s5
  rw [State.offerRecord_only]
  split <;> simp [h5]

@[simp] theorem State.enterRom_only (s : State) (boot : Nat) (u : State) {m' : Nat} (hm' : 1 ||| m' = m' := by decide) : Only m' u (State.enterRom s boot) ↔ Only m' u s := by
  refine Only.lift hm' fun u => ?_
  clear hm'
  unfold State.enterRom
  simp only [State.setCastPhase_only, State.setFld_only, only_ite, only_ite_fst, ite_self, only_foldl, only_foldl_fst, implies_true, Only.refl, Nat.reduceOr]

@[simp] theorem State.enterFirmware_only (s : State) (u : State) {m' : Nat} (hm' : 8458753 ||| m' = m' := by decide) : Only m' u (State.enterFirmware s) ↔ Only m' u s := by
  refine Only.lift hm' fun u => ?_
  clear hm'
  unfold State.enterFirmware
  simp only [State.awaitImage_only, State.castFail_only, State.setCastPhase_only, only_ite, only_ite_fst, ite_self, only_foldl, only_foldl_fst, implies_true, Only.refl, Nat.reduceOr]

@[simp] theorem State.phaseDone_only (s : State) (i : CastInfo) (u : State) {m' : Nat} (hm' : 1055916025 ||| m' = m' := by decide) : Only m' u (State.phaseDone s i) ↔ Only m' u s := by
  refine Only.lift hm' fun u => ?_
  clear hm'
  unfold State.phaseDone
  (try dsimp only); (repeat' split) <;> simp only [State.castFail_only, State.enterFirmware_only, State.enterRom_only, State.findImage_only, State.lpddrPhase_only, State.makeReady_only, State.purlPhase_only, State.swatch_only, only_ite, only_ite_fst, ite_self, only_foldl, only_foldl_fst, implies_true, Only.refl, Nat.reduceOr]

@[simp] theorem State.leavePor_only (s : State) (u : State) {m' : Nat} (hm' : 1 ||| m' = m' := by decide) : Only m' u (State.leavePor s) ↔ Only m' u s := by
  refine Only.lift hm' fun u => ?_
  clear hm'
  unfold State.leavePor
  simp only [State.setCastPhase_only, only_ite, only_ite_fst, ite_self, only_foldl, only_foldl_fst, implies_true, Only.refl, Nat.reduceOr]

theorem execCastonPhaseDone_only (i : CastInfo) (s : State) : Outs (Only 1055916025 s) (execCastonPhaseDone i s) := by
  unfold execCastonPhaseDone
  (repeat apply outs_onUnit); simp only [State.leavePor_only, State.modBoot_only, State.phaseDone_only, only_ite, only_ite_fst, ite_self, only_foldl, only_foldl_fst, implies_true, Only.refl, Nat.reduceOr, outs_next, outs_fault, outs_refused, outs_ite]

theorem execCastonPhaseTimeout_only (s : State) : Outs (Only 8458753 s) (execCastonPhaseTimeout s) := by
  unfold execCastonPhaseTimeout
  (repeat apply outs_onUnit); simp only [State.castFail_only, only_ite, only_ite_fst, ite_self, only_foldl, only_foldl_fst, implies_true, Only.refl, Nat.reduceOr, outs_next, outs_fault, outs_refused, outs_ite]

@[simp] theorem State.bootGo_only (s : State) (u : State) {m' : Nat} (hm' : 1 ||| m' = m' := by decide) : Only m' u (State.bootGo s) ↔ Only m' u s := by
  refine Only.lift hm' fun u => ?_
  clear hm'
  unfold State.bootGo
  simp only [State.setFld_only, only_ite, only_ite_fst, ite_self, Only.refl, Nat.reduceOr]

theorem execBootGo_only (s : State) : Outs (Only 1 s) (execBootGo s) := by
  unfold execBootGo
  (repeat apply outs_onUnit); simp only [State.bootGo_only, Only.refl, Nat.reduceOr, outs_next, outs_fault, outs_refused, outs_ite, implies_true]

theorem execResetNHigh_only (s : State) : Outs (Only 8388609 s) (execResetNHigh s) := by
  unfold execResetNHigh
  (repeat apply outs_onUnit); simp only [State.leavePor_only, State.modBoot_only, only_ite, only_ite_fst, ite_self, only_foldl, only_foldl_fst, implies_true, Only.refl, Nat.reduceOr, outs_next, outs_fault, outs_refused, outs_ite]

theorem execBindOffAreaErased_only (s : State) : Outs (Only 8468225 s) (execBindOffAreaErased s) := by
  unfold execBindOffAreaErased
  (repeat apply outs_onUnit); simp only [State.modBoot_only, State.setFld_only, State.startFlush_only, only_nor, only_ite, only_ite_fst, ite_self, only_foldl, only_foldl_fst, implies_true, Only.refl, Nat.reduceOr, outs_next, outs_fault, outs_refused, outs_ite]

@[simp] theorem State.noteReset_only (s : State) (k : Nat) (u : State) {m' : Nat} (hm' : 1 ||| m' = m' := by decide) : Only m' u (State.noteReset s k) ↔ Only m' u s := by
  refine Only.lift hm' fun u => ?_
  clear hm'
  unfold State.noteReset
  simp only [State.count_only, State.setFld_only, Only.refl, Nat.reduceOr]

theorem State.restart_same (s : State) (k : Nat) :
    (s.restart k).sec.jck = s.sec.jck ∧ (s.restart k).pending = s.pending ∧ (s.restart k).sizes = s.sizes := by
  have hn : ∀ t : State, Only 2147483647 t ((t.noteReset k).enterRom (Config.pick s.free 0)).draw := fun t => by
    rw [State.draw_only, State.enterRom_only, State.noteReset_only]; exact Only.refl _ t
  unfold State.restart
  extract_lets r t c0 t2
  have h2 : t2.sec.jck = s.sec.jck ∧ t2.pending = s.pending ∧ t2.sizes = s.sizes := by
    simp only [t2]; split <;> exact ⟨rfl, rfl, by simp [t, State.sizes]⟩
  clear_value t2
  split
  · exact h2
  · exact ⟨(hn _ .jck rfl).trans h2.1, (hn _ .pending rfl).trans h2.2.1, (hn _ .units rfl).trans h2.2.2⟩

@[simp] theorem State.restart_only (s : State) (k : Nat) (u : State) {m' : Nat} (hm' : 2147483647 ||| m' = m' := by decide) : Only m' u (State.restart s k) ↔ Only m' u s := by
  refine Only.lift hm' fun u => ?_
  clear hm'
  refine Only.iff' fun p hp => ?_
  cases p
  case jck => exact (State.restart_same s k).1
  case pending => exact (State.restart_same s k).2.1
  case units => exact (State.restart_same s k).2.2
  all_goals exact absurd hp (by decide)

@[simp] theorem State.askReset1_only (s : State) (k : Nat) (u : State) {m' : Nat} (hm' : 2147483647 ||| m' = m' := by decide) : Only m' u (State.askReset1 s k) ↔ Only m' u s := by
  refine Only.lift hm' fun u => ?_
  clear hm'
  unfold State.askReset1
  simp only [State.modBoot_only, State.restart_only, only_ite, only_ite_fst, ite_self, Only.refl, Nat.reduceOr]

theorem execPowerOnReset_only (s : State) : Outs (Only 2147483647 s) (execPowerOnReset s) := by
  unfold execPowerOnReset
  (repeat apply outs_onUnit); simp only [State.restart_only, Only.refl, Nat.reduceOr, outs_next, outs_fault, outs_refused, outs_ite, implies_true]

theorem execPinReset_only (s : State) : Outs (Only 2147483647 s) (execPinReset s) := by
  unfold execPinReset
  (repeat apply outs_onUnit); simp only [State.askReset1_only, State.modBoot_only, only_ite, only_ite_fst, ite_self, only_foldl, only_foldl_fst, implies_true, Only.refl, Nat.reduceOr, outs_next, outs_fault, outs_refused, outs_ite]

theorem execHostReset_only (s : State) : Outs (Only 2147483647 s) (execHostReset s) := by
  unfold execHostReset
  (repeat apply outs_onUnit); simp only [State.askReset1_only, Only.refl, Nat.reduceOr, outs_next, outs_fault, outs_refused, outs_ite, implies_true]

theorem execDebugReset_only (s : State) : Outs (Only 2147483647 s) (execDebugReset s) := by
  unfold execDebugReset
  (repeat apply outs_onUnit); simp only [State.askReset1_only, Only.refl, Nat.reduceOr, outs_next, outs_fault, outs_refused, outs_ite, implies_true]

@[simp] theorem State.clearRing_only (s : State) (k : Nat) (u : State) {m' : Nat} (hm' : 1 ||| m' = m' := by decide) : Only m' u (State.clearRing s k) ↔ Only m' u s := by
  refine Only.lift hm' fun u => ?_
  clear hm'
  unfold State.clearRing
  simp only [State.setRegN_only, Only.refl, Nat.reduceOr]

@[simp] theorem State.resetRings_only (s : State) (u : State) {m' : Nat} (hm' : 8615425 ||| m' = m' := by decide) : Only m' u (State.resetRings s) ↔ Only m' u s := by
  refine Only.lift hm' fun u => ?_
  clear hm'
  unfold State.resetRings
  extract_lets waits sr s1 s2 s3 s4
  have h1 : Only 8615425 u s1 ↔ Only 8615425 u s := Only.iff' (by intro p hp; cases p <;> first | exact rfl | exact absurd hp (by decide) | simp [s1, Piece.same, State.sizes])
  have h2 : Only 8615425 u s2 ↔ Only 8615425 u s := (only_foldl fun v k => ((State.clearRing_only v k v).2 (Only.refl _ v))).trans h1
  clear_value s2 waits
  have h3 : Only 8615425 u s3 ↔ Only 8615425 u s := ((State.setRegN_only ..).trans ((State.setRegN_only ..).trans (State.setFld_only ..))).trans h2
  clear_value s3
  have h4 : Only 8615425 u s4 ↔ Only 8615425 u s := ((State.clearRegs_only ..).trans (State.clearRegs_only ..)).trans h3
  clear_value s4
  split
  · exact (State.cancelAct_only ..).trans h4
  · exact h4

@[simp] theorem State.hcRestart_only (s : State) (u : State) {m' : Nat} (hm' : 2147483647 ||| m' = m' := by decide) : Only m' u (State.hcRestart s) ↔ Only m' u s := by
  refine Only.lift hm' fun u => ?_
  clear hm'
  unfold State.hcRestart
  (try dsimp only); (repeat' split) <;> simp only [State.askReset1_only, State.journal_only, State.noteReset_only, State.resetRings_only, only_ite, only_ite_fst, ite_self, only_foldl, only_foldl_fst, implies_true, Only.refl, Nat.reduceOr]

@[simp] theorem State.askHcrestart_only (s : State) (u : State) {m' : Nat} (hm' : 2147483647 ||| m' = m' := by decide) : Only m' u (State.askHcrestart s) ↔ Only m' u s := by
  refine Only.lift hm' fun u => ?_
  clear hm'
  unfold State.askHcrestart
  simp only [State.hcRestart_only, State.restart_only, only_ite, only_ite_fst, ite_self, only_foldl, only_foldl_fst, implies_true, Only.refl, Nat.reduceOr]

theorem execHcrestart_only (s : State) : Outs (Only 2147483647 s) (execHcrestart s) := by
  unfold execHcrestart
  (repeat apply outs_onUnit); simp only [State.askHcrestart_only, only_ite, only_ite_fst, ite_self, only_foldl, only_foldl_fst, implies_true, Only.refl, Nat.reduceOr, outs_next, outs_fault, outs_refused, outs_ite]

theorem execHcWatchdogExpiry_only (s : State) : Outs (Only 2147483647 s) (execHcWatchdogExpiry s) := by
  unfold execHcWatchdogExpiry
  (repeat apply outs_onUnit); simp only [State.hcRestart_only, only_ite, only_ite_fst, ite_self, only_foldl, only_foldl_fst, implies_true, Only.refl, Nat.reduceOr, outs_next, outs_fault, outs_refused, outs_ite]

theorem execHubEcc_only (ofs : Nat) (hc : Bool) (s : State) : Outs (Only 2147483647 s) (execHubEcc ofs hc s) := by
  unfold execHubEcc
  (repeat apply outs_onUnit); simp only [State.hcRestart_only, State.hubBad_only, only_ite, only_ite_fst, ite_self, only_foldl, only_foldl_fst, implies_true, Only.refl, Nat.reduceOr, outs_next, outs_fault, outs_refused, outs_ite]

@[simp] theorem State.bindOff_only (s : State) (trig : Nat) (u : State) {m' : Nat} (hm' : 8484353 ||| m' = m' := by decide) : Only m' u (State.bindOff s trig) ↔ Only m' u s := by
  refine Only.lift hm' fun u => ?_
  clear hm'
  unfold State.bindOff
  simp only [State.freezeJrn_only, State.health_only, State.journal_only, State.modBoot_only, State.setBoStage_only, State.settle_only, only_ite, only_ite_fst, ite_self, only_foldl, only_foldl_fst, implies_true, Only.refl, Nat.reduceOr]

theorem execPwrfail_only (s : State) : Outs (Only 8484353 s) (execPwrfail s) := by
  unfold execPwrfail
  (repeat apply outs_onUnit); simp only [State.bindOff_only, only_ite, only_ite_fst, ite_self, only_foldl, only_foldl_fst, implies_true, Only.refl, Nat.reduceOr, outs_next, outs_fault, outs_refused, outs_ite]

theorem execHubRailTrip_only (s : State) : Outs (Only 8484353 s) (execHubRailTrip s) := by
  unfold execHubRailTrip
  (repeat apply outs_onUnit); simp only [State.bindOff_only, Only.refl, Nat.reduceOr, outs_next, outs_fault, outs_refused, outs_ite, implies_true]

theorem execBindoffTest_only (s : State) : Outs (Only 8484353 s) (execBindoffTest s) := by
  unfold execBindoffTest
  (repeat apply outs_onUnit); simp only [State.bindOff_only, Only.refl, Nat.reduceOr, outs_next, outs_fault, outs_refused, outs_ite, implies_true]

@[simp] theorem State.toStitch_only (s : State) (u : State) {m' : Nat} (hm' : 2049 ||| m' = m' := by decide) : Only m' u (State.toStitch s) ↔ Only m' u s := by
  refine Only.lift hm' fun u => ?_
  clear hm'
  unfold State.toStitch
  simp only [State.modRnd_only, State.runTicks_only, only_ite, only_ite_fst, ite_self, Only.refl, Nat.reduceOr]

@[simp] theorem State.boHalt_only (s : State) (u : State) {m' : Nat} (hm' : 548370409 ||| m' = m' := by decide) : Only m' u (State.boHalt s) ↔ Only m' u s := by
  refine Only.lift hm' fun u => ?_
  clear hm'
  unfold State.boHalt
  simp (disch := (intros; (repeat' split) <;> (try simp_all only [State.abortJob_only, State.abortRp_only, State.abortSolve_only, State.endSolves_only, State.journal_only, State.modBoot_only, State.modCamPort_only, State.setBoStage_only, State.startFlush_only, only_ite, only_ite_fst, ite_self, only_foldl, only_foldl_fst, implies_true, Only.refl, Nat.reduceOr]) <;> (try simp_all)))

theorem execBindoffHalt_only (s : State) : Outs (Only 548372457 s) (execBindoffHalt s) := by
  unfold execBindoffHalt
  (repeat apply outs_onUnit); simp only [State.boHalt_only, State.toStitch_only, only_ite, only_ite_fst, ite_self, Only.refl, Nat.reduceOr, outs_next, outs_fault, outs_refused, outs_ite, implies_true]

theorem execBindoffJournalDone_only (s : State) : Outs (Only 1 s) (execBindoffJournalDone s) := by
  unfold execBindoffJournalDone
  (repeat apply outs_onUnit); simp only [State.setBoStage_only, only_ite, only_ite_fst, ite_self, Only.refl, Nat.reduceOr, outs_next, outs_fault, outs_refused, outs_ite, implies_true]

theorem execWarmSaveDone_only (s : State) : Outs (Only 8459009 s) (execWarmSaveDone s) := by
  unfold execWarmSaveDone
  (repeat apply outs_onUnit); dsimp only; (repeat' split) <;> simp only [State.journal_only, State.program_only, State.setBoStage_only, State.setFld_only, only_ite, only_ite_fst, ite_self, Only.refl, Nat.reduceOr, outs_next, outs_fault, outs_refused, outs_ite, implies_true]

@[simp] theorem State.park_only (s : State) (u : State) {m' : Nat} (hm' : 8392705 ||| m' = m' := by decide) : Only m' u (State.park s) ↔ Only m' u s := by
  refine Only.lift hm' fun u => ?_
  clear hm'
  unfold State.park
  simp only [State.modBoot_only, State.setFld_only, State.setRegN_only, only_hif, only_ite, only_ite_fst, ite_self, only_foldl, only_foldl_fst, implies_true, Only.refl, Nat.reduceOr]

theorem execBindoffParkDone_only (s : State) : Outs (Only 2147483647 s) (execBindoffParkDone s) := by
  unfold execBindoffParkDone
  (repeat apply outs_onUnit); dsimp only; (repeat' split) <;> simp only [State.askReset1_only, State.modBoot_only, State.park_only, State.setBoStage_only, only_ite, only_ite_fst, ite_self, only_foldl, only_foldl_fst, implies_true, Only.refl, Nat.reduceOr, outs_next, outs_fault, outs_refused, outs_ite]

theorem execBrownout_only (s : State) : Outs (Only 2147483647 s) (execBrownout s) := by
  unfold execBrownout
  (repeat apply outs_onUnit); simp only [State.restart_only, only_ite, only_ite_fst, ite_self, Only.refl, Nat.reduceOr, outs_next, outs_fault, outs_refused, outs_ite, implies_true]

@[simp] theorem State.railReport_only (s : State) (b sev : Nat) (u : State) {m' : Nat} (hm' : 8459777 ||| m' = m' := by decide) : Only m' u (State.railReport s b sev) ↔ Only m' u s := by
  refine Only.lift hm' fun u => ?_
  clear hm'
  unfold State.railReport
  simp only [State.draw_only, State.report_only, Only.refl, Nat.reduceOr]

theorem execRefclkLost_only (s : State) : Outs (Only 8459777 s) (execRefclkLost s) := by
  unfold execRefclkLost
  (repeat apply outs_onUnit); simp only [State.railReport_only, State.setFld_only, only_ite, only_ite_fst, ite_self, Only.refl, Nat.reduceOr, outs_next, outs_fault, outs_refused, outs_ite, implies_true]

theorem execRefclkReturn_only (s : State) : Outs (Only 8459777 s) (execRefclkReturn s) := by
  unfold execRefclkReturn
  (repeat apply outs_onUnit); simp only [State.railReport_only, State.setFld_only, only_ite, only_ite_fst, ite_self, Only.refl, Nat.reduceOr, outs_next, outs_fault, outs_refused, outs_ite, implies_true]

end Sys2Proof.Machine
end

