-- ==== Sys2Proof/Laws/OnlyStitch.lean ====
section
/-! SUPPORT. Laws/OnlyStitch.lean: the pieces of the state that the operations and commands of Machine/Stitch.lean may change. -/

namespace Sys2Proof.Machine
open Sys2Proof Sys2Proof.Machine.Reg

set_option linter.all false
set_option Elab.async false

@[simp] theorem State.applyBo_only (s : State) (u : State) {m' : Nat} (hm' : 8458753 ||| m' = m' := by decide) : Only m' u (State.applyBo s) ↔ Only m' u s := by
  refine Only.lift hm' fun u => ?_
  clear hm'
  unfold State.applyBo
  simp only [State.apply1_only, State.notePlan_only, State.setFld_only, Only.refl, Nat.reduceOr]

@[simp] theorem State.applySet_only (s : State) (ecc : Bool) (x : Block) (u : State) {m' : Nat} (hm' : 1068318209 ||| m' = m' := by decide) : Only m' u (State.applySet s ecc x) ↔ Only m' u s := by
  refine Only.lift hm' fun u => ?_
  clear hm'
  unfold State.applySet
  (try dsimp only); (repeat' split) <;> simp only [State.applyBo_only, State.applyCam_only, State.applyChk_only, State.applyCore_only, State.applyJrn_only, State.applyLp_only, State.applyMesh_only, State.applyMol_only, State.applyPwr_only, State.applyRnd_only, State.applyRp_only, State.applySlot_only, State.applyTx_only, State.applyWfm_only, State.winPoint_only, Only.refl, Nat.reduceOr]

@[simp] theorem State.safePoint_only (s : State) (ecc : Bool) (b : Block) (u : State) {m' : Nat} (hm' : 1068318209 ||| m' = m' := by decide) : Only m' u (State.safePoint s ecc b) ↔ Only m' u s := by
  refine Only.lift hm' fun u => ?_
  clear hm'
  unfold State.safePoint
  simp only [State.applySet_only, only_ite, only_ite_fst, ite_self, Only.refl, Nat.reduceOr]

@[simp] theorem State.writeCommit_only (s : State) (b : Block) (u : State) {m' : Nat} (hm' : 25761281 ||| m' = m' := by decide) : Only m' u (State.writeCommit s b) ↔ Only m' u s := by
  refine Only.lift hm' fun u => ?_
  clear hm'
  unfold State.writeCommit
  (try dsimp only); (repeat' split) <;> simp only [State.applyChk_only, State.commitWin_only, State.setFld_only, only_ite, only_ite_fst, ite_self, only_foldl, only_foldl_fst, implies_true, Only.refl, Nat.reduceOr]

theorem execStagedSetApply_only (b : Block) (ecc : Bool) (s : State) : Outs (Only 1068318209 s) (execStagedSetApply b ecc s) := by
  unfold execStagedSetApply
  (repeat apply outs_onUnit); simp only [State.safePoint_only, only_ite, only_ite_fst, ite_self, Only.refl, Nat.reduceOr, outs_next, outs_fault, outs_refused, outs_ite, implies_true]

@[simp] theorem State.newRound_only (s : State) (u : State) {m' : Nat} (hm' : 6553600 ||| m' = m' := by decide) : Only m' u (State.newRound s) ↔ Only m' u s := by
  refine Only.lift hm' fun u => ?_
  clear hm'
  unfold State.newRound
  simp only [State.modEngine_only, State.modHlth_only, State.modMesh_only, only_foldl, only_foldl_fst, implies_true, Only.refl, Nat.reduceOr]

@[simp] theorem State.roundPoint_only (s : State) (b : Block) (u : State) {m' : Nat} (hm' : 1068318209 ||| m' = m' := by decide) : Only m' u (State.roundPoint s b) ↔ Only m' u s := by
  refine Only.lift hm' fun u => ?_
  clear hm'
  unfold State.roundPoint
  simp only [State.applySet_only, only_ite, only_ite_fst, ite_self, only_foldl, only_foldl_fst, implies_true, Only.refl, Nat.reduceOr]

@[simp] theorem State.openRound_only (s : State) (u : State) {m' : Nat} (hm' : 1072643841 ||| m' = m' := by decide) : Only m' u (State.openRound s) ↔ Only m' u s := by
  refine Only.lift hm' fun u => ?_
  clear hm'
  unfold State.openRound
  simp only [State.checkBand_only, State.chkExpire_only, State.jrnRound_only, State.molRound_only, State.newRound_only, State.noteRound_only, State.patRound_only, State.roundPoint_only, State.switchRef_only, only_ite, only_ite_fst, ite_self, only_foldl, only_foldl_fst, implies_true, Only.refl, Nat.reduceOr]

@[simp] theorem State.loadBudgets_only (s : State) (u : State) {m' : Nat} (hm' : 786432 ||| m' = m' := by decide) : Only m' u (State.loadBudgets s) ↔ Only m' u s := by
  refine Only.lift hm' fun u => ?_
  clear hm'
  unfold State.loadBudgets
  simp only [State.modCore_only, State.modMesh_only, only_foldl, only_foldl_fst, implies_true, Only.refl, Nat.reduceOr]

@[simp] theorem State.openNow_only (s : State) (round : Bool) (u : State) {m' : Nat} (hm' : 1072660457 ||| m' = m' := by decide) : Only m' u (State.openNow s round) ↔ Only m' u s := by
  refine Only.lift hm' fun u => ?_
  clear hm'
  unfold State.openNow
  simp only [State.applyReadmit_only, State.boHalt_only, State.cadenceStitch_only, State.finalizeDue_only, State.firePattern_only, State.loadBudgets_only, State.modRnd_only, State.openRound_only, State.rateRefill_only, only_ite, only_ite_fst, ite_self, only_foldl, only_foldl_fst, implies_true, Only.refl, Nat.reduceOr]

@[simp] theorem State.openStitch_only (s : State) (u : State) {m' : Nat} (hm' : 1072660457 ||| m' = m' := by decide) : Only m' u (State.openStitch s) ↔ Only m' u s := by
  refine Only.lift hm' fun u => ?_
  clear hm'
  unfold State.openStitch
  simp only [State.openNow_only, only_ite, only_ite_fst, ite_self, only_foldl, only_foldl_fst, implies_true, Only.refl, Nat.reduceOr]

@[simp] theorem State.afterStep_only (s old : State) (u : State) {m' : Nat} (hm' : 1072660457 ||| m' = m' := by decide) : Only m' u (State.afterStep s old) ↔ Only m' u s := by
  refine Only.lift hm' fun u => ?_
  clear hm'
  unfold State.afterStep
  simp only [State.openNow_only, only_ite, only_ite_fst, ite_self, only_foldl, only_foldl_fst, implies_true, Only.refl, Nat.reduceOr]

theorem execVoltageCrossing_only (ago : Nat) (below above : Side) (period : Nat) (s : State) : Outs (Only 1072660457 s) (execVoltageCrossing ago below above period s) := by
  unfold execVoltageCrossing
  (repeat apply outs_onUnit); simp only [State.afterStep_only, State.voltCross_only, only_ite, only_ite_fst, ite_self, only_foldl, only_foldl_fst, implies_true, Only.refl, Nat.reduceOr, outs_next, outs_fault, outs_refused, outs_ite]

theorem execZcEdge_only (ago : Nat) (rising : Bool) (s : State) : Outs (Only 1072660457 s) (execZcEdge ago rising s) := by
  unfold execZcEdge
  simp only [State.afterStep_only, State.zcCross_only, only_ite, only_ite_fst, ite_self, only_foldl, only_foldl_fst, implies_true, Only.refl, Nat.reduceOr, outs_next, outs_fault, outs_refused, outs_ite]

@[simp] theorem State.nextStitch_only (s : State) (u : State) {m' : Nat} (hm' : 1072660457 ||| m' = m' := by decide) : Only m' u (State.nextStitch s) ↔ Only m' u s := by
  refine Only.lift hm' fun u => ?_
  clear hm'
  unfold State.nextStitch
  simp only [State.openStitch_only, State.toStitch_only, only_ite, only_ite_fst, ite_self, Only.refl, Nat.reduceOr]

theorem execStitchBoundary_only (s : State) : Outs (Only 1072660457 s) (execStitchBoundary s) := by
  unfold execStitchBoundary
  (repeat apply outs_onUnit); simp only [State.nextStitch_only, Only.refl, Nat.reduceOr, outs_next, outs_fault, outs_refused, outs_ite, implies_true]

@[simp] theorem State.toRound_only  (x : Nat) (s : State) (u : State) {m' : Nat} (hm' : 1072660457 ||| m' = m' := by decide) : Only m' u (State.toRound x s) ↔ Only m' u s := by
  refine Only.lift hm' fun u => ?_
  clear hm'
  induction x generalizing s with
  | zero => simp [State.toRound]
  | succ n ih => unfold State.toRound; (try dsimp only); split <;> simp [ih]

theorem execRoundBoundary_only (s : State) : Outs (Only 1072660457 s) (execRoundBoundary s) := by
  unfold execRoundBoundary
  (repeat apply outs_onUnit); simp only [State.toRound_only, only_ite, only_ite_fst, ite_self, Only.refl, Nat.reduceOr, outs_next, outs_fault, outs_refused, outs_ite, implies_true]

@[simp] theorem State.tick_only (s : State) (u : State) {m' : Nat} (hm' : 1072660457 ||| m' = m' := by decide) : Only m' u (State.tick s) ↔ Only m' u s := by
  refine Only.lift hm' fun u => ?_
  clear hm'
  unfold State.tick
  simp only [State.modRnd_only, State.openStitch_only, State.runTicks_only, State.safePoint_only, only_ite, only_ite_fst, ite_self, only_foldl, only_foldl_fst, implies_true, Only.refl, Nat.reduceOr]

end Sys2Proof.Machine
end

