-- ==== Sys2Proof/Laws/OnlyDebug.lean ====
section
/-! SUPPORT. Laws/OnlyDebug.lean: the pieces of the state that the operations and commands of Machine/Debug.lean may change. -/

namespace Sys2Proof.Machine
open Sys2Proof Sys2Proof.Machine.Reg

set_option linter.all false
set_option Elab.async false

@[simp] theorem State.writeAttach_only (s : State) (rq : Requester) (on : Bool) (u : State) {m' : Nat} (hm' : 9402089 ||| m' = m' := by decide) : Only m' u (State.writeAttach s rq on) ↔ Only m' u s := by
  refine Only.lift hm' fun u => ?_
  clear hm'
  unfold State.writeAttach
  simp only [State.dbgReport_only, State.modCore_only, State.resumeCore_only, State.setFld_only, only_ite, only_ite_fst, ite_self, only_foldl, only_foldl_fst, implies_true, Only.refl, Nat.reduceOr]

@[simp] theorem State.writeSidefx_only (s : State) (on : Bool) (u : State) {m' : Nat} (hm' : 8458753 ||| m' = m' := by decide) : Only m' u (State.writeSidefx s on) ↔ Only m' u s := by
  refine Only.lift hm' fun u => ?_
  clear hm'
  unfold State.writeSidefx
  simp only [State.dbgReport_only, State.setFld_only, only_ite, only_ite_fst, ite_self, Only.refl, Nat.reduceOr]

@[simp] theorem State.askHalt_only (s : State) (mask : Nat) (u : State) {m' : Nat} (hm' : 1 ||| m' = m' := by decide) : Only m' u (State.askHalt s mask) ↔ Only m' u s := by
  refine Only.lift hm' fun u => ?_
  clear hm'
  unfold State.askHalt
  simp only [State.setReg_only, only_ite, only_ite_fst, ite_self, only_foldl, only_foldl_fst, implies_true, Only.refl, Nat.reduceOr]

@[simp] theorem State.resumeMask_only (s : State) (mask : Nat) (u : State) {m' : Nat} (hm' : 9402089 ||| m' = m' := by decide) : Only m' u (State.resumeMask s mask) ↔ Only m' u s := by
  refine Only.lift hm' fun u => ?_
  clear hm'
  unfold State.resumeMask
  simp only [State.resumeCore_only, only_foldl, only_foldl_fst, implies_true, Only.refl, Nat.reduceOr]

@[simp] theorem State.stepCore_only (s : State) (n count : Nat) (u : State) {m' : Nat} (hm' : 9402089 ||| m' = m' := by decide) : Only m' u (State.stepCore s n count) ↔ Only m' u s := by
  refine Only.lift hm' fun u => ?_
  clear hm'
  unfold State.stepCore
  simp only [State.count_only, State.resumeCore_only, only_ite, only_ite_fst, ite_self, Only.refl, Nat.reduceOr]

theorem State.whenAttached_only {m : Nat} (s : State) (rq : Requester) (src off v : Nat) (f : State → State) (u : State) (h : ∀ v, Only m v (f v))
    (hm : 276894209 ||| m = m := by decide) : Only m u (s.whenAttached rq src off v f) ↔ Only m u s := by
  unfold State.whenAttached
  split
  · exact (h s).iff'
  · simp (disch := (refine Only.sub ?_ hm; decide))

@[simp] theorem State.noteHalted_only (s : State) (n i : Nat) (u : State) {m' : Nat} (hm' : 1 ||| m' = m' := by decide) : Only m' u (State.noteHalted s n i) ↔ Only m' u s := by
  refine Only.lift hm' fun u => ?_
  clear hm'
  unfold State.noteHalted
  simp only [State.setFld_only, only_ite, only_ite_fst, ite_self, Only.refl, Nat.reduceOr]

@[simp] theorem State.dbgSet_only (s : State) (n i v : Nat) (u : State) {m' : Nat} (hm' : 524289 ||| m' = m' := by decide) : Only m' u (State.dbgSet s n i v) ↔ Only m' u s := by
  refine Only.lift hm' fun u => ?_
  clear hm'
  unfold State.dbgSet
  extract_lets s1
  have h1 : Only 524289 u s1 ↔ Only 524289 u s := State.noteHalted_only ..
  clear_value s1
  split
  · exact h1
  split
  · simp [h1]
  split
  · simp [h1]
  split
  · cases h : s1.setCsr n (i - 64) v with
    | none => exact h1
    | some t => exact (Only.iff (by decide) (State.setCsr_only _ _ _ _ _ h)).trans h1
  split
  · simp [h1]
  · exact h1

@[simp] theorem State.writeCoreData_only (s : State) (v : Nat) (u : State) {m' : Nat} (hm' : 524289 ||| m' = m' := by decide) : Only m' u (State.writeCoreData s v) ↔ Only m' u s := by
  refine Only.lift hm' fun u => ?_
  clear hm'
  unfold State.writeCoreData
  simp only [State.dbgSet_only, Only.refl, Nat.reduceOr]

end Sys2Proof.Machine
end

