-- ==== Sys2Proof/Laws/OnlyRings.lean ====
section
/-! SUPPORT. Laws/OnlyRings.lean: the pieces of the state that the operations and commands of Machine/Rings.lean may change. -/

namespace Sys2Proof.Machine
open Sys2Proof Sys2Proof.Machine.Reg

set_option linter.all false
set_option Elab.async false

@[simp] theorem State.hifReport_only (s : State) (b : Nat) (u : State) {m' : Nat} (hm' : 8458753 ||| m' = m' := by decide) : Only m' u (State.hifReport s b) ↔ Only m' u s := by
  refine Only.lift hm' fun u => ?_
  clear hm'
  unfold State.hifReport
  simp only [State.report_only, only_ite, only_ite_fst, ite_self, only_foldl, only_foldl_fst, implies_true, Only.refl, Nat.reduceOr]

@[simp] theorem State.doorbell_only (s : State) (k v : Nat) (u : State) {m' : Nat} (hm' : 8459777 ||| m' = m' := by decide) : Only m' u (State.doorbell s k v) ↔ Only m' u s := by
  refine Only.lift hm' fun u => ?_
  clear hm'
  unfold State.doorbell
  simp only [State.cmdReport_only, State.ringError_only, State.setFld_only, only_ite, only_ite_fst, ite_self, Only.refl, Nat.reduceOr]

@[simp] theorem State.begin_only (s : State) (k : Nat) (it : Item) (u : State) {m' : Nat} (hm' : 8193 ||| m' = m' := by decide) : Only m' u (State.begin s k it) ↔ Only m' u s := by
  refine Only.lift hm' fun u => ?_
  clear hm'
  unfold State.begin
  simp only [State.setFld_only, State.setRing_only, Only.refl, Nat.reduceOr]

@[simp] theorem State.endUnknown_only (k : Nat) (x : Nat) (s : State) (u : State) {m' : Nat} (hm' : 8467969 ||| m' = m' := by decide) : Only m' u (State.endUnknown k x s) ↔ Only m' u s := by
  refine Only.lift hm' fun u => ?_
  clear hm'
  fun_induction State.endUnknown k x s <;> simp_all only [State.begin_only, State.endCmd_only, only_ite, only_ite_fst, ite_self, Only.refl, Nat.reduceOr]

@[simp] theorem State.serve_only (s : State) (k : Nat) (u : State) {m' : Nat} (hm' : 8467969 ||| m' = m' := by decide) : Only m' u (State.serve s k) ↔ Only m' u s := by
  refine Only.lift hm' fun u => ?_
  clear hm'
  unfold State.serve
  simp only [State.endUnknown_only, only_ite, only_ite_fst, ite_self, only_foldl, only_foldl_fst, implies_true, Only.refl, Nat.reduceOr]

@[simp] theorem State.takeItem_only (s : State) (k : Nat) (ok : Bool) (u : State) {m' : Nat} (hm' : 8467969 ||| m' = m' := by decide) : Only m' u (State.takeItem s k ok) ↔ Only m' u s := by
  refine Only.lift hm' fun u => ?_
  clear hm'
  unfold State.takeItem
  simp only [State.ringError_only, State.serve_only, State.setFld_only, State.setRing_only, only_ite, only_ite_fst, ite_self, only_foldl, only_foldl_fst, implies_true, Only.refl, Nat.reduceOr]

theorem execCommandFetch_only (k : Nat) (ok : Bool) (s : State) : Outs (Only 8467969 s) (execCommandFetch k ok s) := by
  unfold execCommandFetch
  (repeat apply outs_onUnit); simp only [State.drainTake_only, State.takeItem_only, only_ite, only_ite_fst, ite_self, only_foldl, only_foldl_fst, implies_true, Only.refl, Nat.reduceOr, outs_next, outs_fault, outs_refused, outs_ite]

@[simp] theorem State.writeCcons_only (s : State) (k v : Nat) (u : State) {m' : Nat} (hm' : 8467969 ||| m' = m' := by decide) : Only m' u (State.writeCcons s k v) ↔ Only m' u s := by
  refine Only.lift hm' fun u => ?_
  clear hm'
  unfold State.writeCcons
  simp only [State.msix_only, State.serve_only, State.setFld_only, only_ite, only_ite_fst, ite_self, only_foldl, only_foldl_fst, implies_true, Only.refl, Nat.reduceOr]

@[simp] theorem State.writeScons_only (s : State) (v : Nat) (u : State) {m' : Nat} (hm' : 20993 ||| m' = m' := by decide) : Only m' u (State.writeScons s v) ↔ Only m' u s := by
  refine Only.lift hm' fun u => ?_
  clear hm'
  unfold State.writeScons
  simp only [State.drainHeld_only, State.msix_only, State.setFld_only, only_ite, only_ite_fst, ite_self, only_foldl, only_foldl_fst, implies_true, Only.refl, Nat.reduceOr]

@[simp] theorem State.enableRing_only (s : State) (k : Nat) (u : State) {m' : Nat} (hm' : 8193 ||| m' = m' := by decide) : Only m' u (State.enableRing s k) ↔ Only m' u s := by
  refine Only.lift hm' fun u => ?_
  clear hm'
  unfold State.enableRing
  simp only [State.setFld_only, State.setRegN_only, State.setRing_only, only_ite, only_ite_fst, ite_self, Only.refl, Nat.reduceOr]

@[simp] theorem State.disableRing_only (s : State) (k : Nat) (u : State) {m' : Nat} (hm' : 8467969 ||| m' = m' := by decide) : Only m' u (State.disableRing s k) ↔ Only m' u s := by
  refine Only.lift hm' fun u => ?_
  clear hm'
  unfold State.disableRing
  simp only [State.endRingFlush_only, State.setFld_only, State.setRing_only, only_ite, only_ite_fst, ite_self, only_foldl, only_foldl_fst, implies_true, Only.refl, Nat.reduceOr]

@[simp] theorem State.askFlush_only (s : State) (k : Nat) (u : State) {m' : Nat} (hm' : 8467969 ||| m' = m' := by decide) : Only m' u (State.askFlush s k) ↔ Only m' u s := by
  refine Only.lift hm' fun u => ?_
  clear hm'
  unfold State.askFlush
  simp only [State.doFlush_only, State.endRingFlush_only, State.setFld_only, State.setRing_only, only_ite, only_ite_fst, ite_self, Only.refl, Nat.reduceOr]

@[simp] theorem State.enableSring_only (s : State) (on : Bool) (u : State) {m' : Nat} (hm' : 20993 ||| m' = m' := by decide) : Only m' u (State.enableSring s on) ↔ Only m' u s := by
  refine Only.lift hm' fun u => ?_
  clear hm'
  unfold State.enableSring
  simp only [State.drainHeld_only, State.setFld_only, only_sring, only_ite, only_ite_fst, ite_self, only_foldl, only_foldl_fst, implies_true, Only.refl, Nat.reduceOr]

@[simp] theorem State.releaseMsix_only (s : State) (v : Nat) (u : State) {m' : Nat} (hm' : 4609 ||| m' = m' := by decide) : Only m' u (State.releaseMsix s v) ↔ Only m' u s := by
  refine Only.lift hm' fun u => ?_
  clear hm'
  unfold State.releaseMsix
  simp only [State.sendMsix_only, State.setMsixPending_only, only_ite, only_ite_fst, ite_self, Only.refl, Nat.reduceOr]

@[simp] theorem State.writeVecCtl_only (s : State) (v x : Nat) (u : State) {m' : Nat} (hm' : 4609 ||| m' = m' := by decide) : Only m' u (State.writeVecCtl s v x) ↔ Only m' u s := by
  refine Only.lift hm' fun u => ?_
  clear hm'
  unfold State.writeVecCtl
  simp only [State.releaseMsix_only, State.setReg_only, Only.refl, Nat.reduceOr]

theorem execMsixUnmask_only (v : Nat) (s : State) : Outs (Only 4609 s) (execMsixUnmask v s) := by
  unfold execMsixUnmask
  (repeat apply outs_onUnit); simp only [State.writeVecCtl_only, Only.refl, Nat.reduceOr, outs_next, outs_fault, outs_refused, outs_ite, implies_true]

theorem execPcieLinkReset_only (down : Bool) (s : State) : Outs (Only 8615425 s) (execPcieLinkReset down s) := by
  unfold execPcieLinkReset
  (repeat apply outs_onUnit); simp only [State.resetRings_only, State.setFld_only, State.setRegN_only, only_hif, only_ite, only_ite_fst, ite_self, only_foldl, only_foldl_fst, implies_true, Only.refl, Nat.reduceOr, outs_next, outs_fault, outs_refused, outs_ite]

theorem execLinkChange_only (speed width : Nat) (rev : Bool) (s : State) : Outs (Only 8458753 s) (execLinkChange speed width rev s) := by
  unfold execLinkChange
  (repeat apply outs_onUnit); simp only [State.hifReport_only, State.setFld_only, only_hif, only_ite, only_ite_fst, ite_self, Only.refl, Nat.reduceOr, outs_next, outs_fault, outs_refused, outs_ite, implies_true]

@[simp] theorem State.writeHeld_only (s : State) (k : Nat) (u : State) {m' : Nat} (hm' : 12801 ||| m' = m' := by decide) : Only m' u (State.writeHeld s k) ↔ Only m' u s := by
  refine Only.lift hm' fun u => ?_
  clear hm'
  unfold State.writeHeld
  simp only [State.setRing_only, State.writeCpl_only, only_foldl, only_foldl_fst, implies_true, Only.refl, Nat.reduceOr]

@[simp] theorem State.flushHeld_only (s : State) (k : Nat) (u : State) {m' : Nat} (hm' : 8467969 ||| m' = m' := by decide) : Only m' u (State.flushHeld s k) ↔ Only m' u s := by
  refine Only.lift hm' fun u => ?_
  clear hm'
  unfold State.flushHeld
  simp only [State.doFlush_only, State.endRingFlush_only, only_ite, only_ite_fst, ite_self, only_foldl, only_foldl_fst, implies_true, Only.refl, Nat.reduceOr]

theorem execBusMasterEnableChange_only (bme mse d3 fmask : Bool) (s : State) : Outs (Only 8484353 s) (execBusMasterEnableChange bme mse d3 fmask s) := by
  unfold execBusMasterEnableChange
  (repeat apply outs_onUnit); simp only [State.drainHeld_only, State.flushHeld_only, State.releaseMsix_only, State.writeHeld_only, only_hif, only_ite, only_ite_fst, ite_self, only_foldl, only_foldl_fst, implies_true, Only.refl, Nat.reduceOr, outs_next, outs_fault, outs_refused, outs_ite]

theorem execNonceExpiry_only (s : State) : Outs (Only 32768 s) (execNonceExpiry s) := by
  unfold execNonceExpiry
  simp only [outs_next]
  split <;> simp

theorem execClearBlockExpiry_only (s : State) : Outs (Only 32769 s) (execClearBlockExpiry s) := by
  unfold execClearBlockExpiry
  simp only [outs_next]
  split <;> simp

theorem execRngFail_only (s : State) : Outs (Only 8458753 s) (execRngFail s) := by
  unfold execRngFail
  (repeat apply outs_onUnit); simp only [State.secReport_only, State.setFld_only, only_ite, only_ite_fst, ite_self, Only.refl, Nat.reduceOr, outs_next, outs_fault, outs_refused, outs_ite, implies_true]

theorem execRngOk_only (s : State) : Outs (Only 8458753 s) (execRngOk s) := by
  unfold execRngOk
  (repeat apply outs_onUnit); simp only [State.secReport_only, State.setFld_only, only_ite, only_ite_fst, ite_self, Only.refl, Nat.reduceOr, outs_next, outs_fault, outs_refused, outs_ite, implies_true]

end Sys2Proof.Machine
end

