-- ==== Sys2Proof/Laws/OnlyBus.lean ====
section
/-! SUPPORT. Laws/OnlyBus.lean: the pieces of the state that the operations and commands of Machine/Bus.lean may change. -/

namespace Sys2Proof.Machine
open Sys2Proof Sys2Proof.Machine.Reg

set_option linter.all false
set_option Elab.async false

@[simp] theorem State.readEffects_only (s : State) (rq : Requester) (t : Target) (quiet : Bool) (u : State) {m' : Nat} (hm' : 104858627 ||| m' = m' := by decide) : Only m' u (State.readEffects s rq t quiet) ↔ Only m' u s := by
  refine Only.lift hm' fun u => ?_
  clear hm'
  unfold State.readEffects
  simp only [State.draw_only, State.elogPop_only, State.noteHalted_only, State.popFlog_only, State.popTrgq_only, State.setReg_only, only_latch, only_ite, only_ite_fst, ite_self, Only.refl, Nat.reduceOr]

@[simp] theorem State.regRead_only (s : State) (rq : Requester) (off be : Nat) (quiet : Bool) (u : State) {m' : Nat} (hm' : 104858627 ||| m' = m' := by decide) : Only m' u (State.regRead s rq off be quiet).1 ↔ Only m' u s := by
  refine Only.lift hm' fun u => ?_
  clear hm'
  unfold State.regRead
  (try dsimp only); (repeat' split) <;> simp only [State.readEffects_only, only_ite, only_ite_fst, ite_self, only_foldl, only_foldl_fst, implies_true, Only.refl, Nat.reduceOr]

@[simp] theorem State.writeIntEn_only (s : State) (a ev v : Nat) (x : Word) (u : State) {m' : Nat} (hm' : 4609 ||| m' = m' := by decide) : Only m' u (State.writeIntEn s a ev v x) ↔ Only m' u s := by
  refine Only.lift hm' fun u => ?_
  clear hm'
  unfold State.writeIntEn
  simp only [State.msix_only, State.setReg_only, only_foldl, only_foldl_fst, implies_true, Only.refl, Nat.reduceOr]

@[simp] theorem State.storeReg_only (s : State) (t : Target) (be : Nat) (v : Word) (u : State) {m' : Nat} (hm' : 1 ||| m' = m' := by decide) : Only m' u (State.storeReg s t be v) ↔ Only m' u s := by
  refine Only.lift hm' fun u => ?_
  clear hm'
  unfold State.storeReg
  simp only [State.setReg_only, Only.refl, Nat.reduceOr]

@[simp] theorem State.writeFence_only (s : State) (v : Nat) (u : State) {m' : Nat} (hm' : 1055882985 ||| m' = m' := by decide) : Only m' u (State.writeFence s v) ↔ Only m' u s := by
  refine Only.lift hm' fun u => ?_
  clear hm'
  unfold State.writeFence
  simp only [State.hostFence_only, State.revive_only, only_ite, only_ite_fst, ite_self, Only.refl, Nat.reduceOr]

@[simp] theorem State.writeRstctl_only (s : State) (v : Nat) (u : State) {m' : Nat} (hm' : 2147483647 ||| m' = m' := by decide) : Only m' u (State.writeRstctl s v) ↔ Only m' u s := by
  refine Only.lift hm' fun u => ?_
  clear hm'
  unfold State.writeRstctl
  simp only [State.askHcrestart_only, State.askReset1_only, only_ite, only_ite_fst, ite_self, only_foldl, only_foldl_fst, implies_true, Only.refl, Nat.reduceOr]

@[simp] theorem State.startActions_only (s : State) (r : Rg) (i j v : Nat) (u : State) {m' : Nat} (hm' : 1069514729 ||| m' = m' := by decide) : Only m' u (State.startActions s r i j v) ↔ Only m' u s := by
  refine Only.lift hm' fun u => ?_
  clear hm'
  unfold State.startActions
  simp only [State.abortJob_only, State.abortSolve_only, State.ackWins_only, State.activate_only, State.startAdmission_only, State.askFlush_only, State.askReset_only, State.bindOff_only, State.bootGo_only, State.cancelAct_only, State.chkCheck_only, State.chkStart_only, State.ctrlFlush_only, State.deactivate_only, State.disableRing_only, State.enableRing_only, State.flushChans_only, State.flushIns_only, State.flushWin_only, State.force_only, State.holdForce_only, State.hostStart_only, State.kickRp_only, State.kickSlot_only, State.pgCommit_only, State.qrel_only, State.rearm_only, State.retrainPort_only, State.snap_only, State.snapJrn_only, State.writeFsw_only, only_ite, only_ite_fst, ite_self, Only.refl, Nat.reduceOr]

@[simp] theorem State.writeSize_only (s : State) (f : Fld) (k : Nat) (on : Bool) (n : Nat) (u : State) {m' : Nat} (hm' : 8458753 ||| m' = m' := by decide) : Only m' u (State.writeSize s f k on n) ↔ Only m' u s := by
  refine Only.lift hm' fun u => ?_
  clear hm'
  unfold State.writeSize
  simp only [State.cmdReport_only, State.setFld_only, only_ite, only_ite_fst, ite_self, Only.refl, Nat.reduceOr]

@[simp] theorem State.writeCustom_only (s : State) (rq : Requester) (t : Target) (be : Nat) (v : Word) (u : State) {m' : Nat} (hm' : 2147483647 ||| m' = m' := by decide) : Only m' u (State.writeCustom s rq t be v) ↔ Only m' u s := by
  refine Only.lift hm' fun u => ?_
  clear hm'
  have h1 : ∀ m, Only 2147483647 u (s.whenAttached rq (srcOf rq) t.a v.toNat fun s => s.askHalt m) ↔ Only 2147483647 u s :=
    fun m => State.whenAttached_only _ _ _ _ _ _ _ (fun v => by simp)
  have h2 : ∀ m, Only 2147483647 u (s.whenAttached rq (srcOf rq) t.a v.toNat fun s => s.resumeMask m) ↔ Only 2147483647 u s :=
    fun m => State.whenAttached_only _ _ _ _ _ _ _ (fun v => by simp)
  have h3 : ∀ m k, Only 2147483647 u (s.whenAttached rq (srcOf rq) t.a v.toNat fun s => s.stepCore m k) ↔ Only 2147483647 u s :=
    fun m k => State.whenAttached_only _ _ _ _ _ _ _ (fun v => by simp)
  unfold State.writeCustom
  simp [h1, h2, h3]

@[simp] theorem State.writePair_only (s : State) (rq : Requester) (t : Target) (v : Word) (u : State) {m' : Nat} (hm' : 75578881 ||| m' = m' := by decide) : Only m' u (State.writePair s rq t v) ↔ Only m' u s := by
  refine Only.lift hm' fun u => ?_
  clear hm'
  unfold State.writePair
  (try dsimp only); (repeat' split) <;> simp only [State.armNs_only, State.cmdReport_only, State.routeWrite_only, State.setReg_only, State.storeReg_only, only_ite, only_ite_fst, ite_self, Only.refl, Nat.reduceOr]

@[simp] theorem State.writeTo_only (s : State) (rq : Requester) (t : Target) (be : Nat) (v : Word) (u : State) {m' : Nat} (hm' : 2147483647 ||| m' = m' := by decide) : Only m' u (State.writeTo s rq t be v) ↔ Only m' u s := by
  refine Only.lift hm' fun u => ?_
  clear hm'
  unfold State.writeTo
  (try dsimp only); (repeat' split) <;> simp only [State.startActions_only, State.storeReg_only, State.writeCommit_only, State.writeCustom_only, State.writeIntEn_only, State.writePair_only, only_stage, only_ite, only_ite_fst, ite_self, only_foldl, only_foldl_fst, implies_true, Only.refl, Nat.reduceOr]

@[simp] theorem State.regWrite_only (s : State) (rq : Requester) (off be : Nat) (v : Word) (u : State) {m' : Nat} (hm' : 2147483647 ||| m' = m' := by decide) : Only m' u (State.regWrite s rq off be v).1 ↔ Only m' u s := by
  refine Only.lift hm' fun u => ?_
  clear hm'
  unfold State.regWrite
  (try dsimp only); (repeat' split) <;> simp only [State.setReg_only, State.writeTo_only, State.writeVecCtl_only, only_ite, only_ite_fst, ite_self, only_foldl, only_foldl_fst, implies_true, Only.refl, Nat.reduceOr]

@[simp] theorem State.busWrite_only (s : State) (rq : Requester) (off be : Nat) (v : Word) (u : State) {m' : Nat} (hm' : 2147483647 ||| m' = m' := by decide) : Only m' u (State.busWrite s rq off be v) ↔ Only m' u s := by
  refine Only.lift hm' fun u => ?_
  clear hm'
  unfold State.busWrite
  split
  · simp
  · split <;> (rename_i e; have k := congrArg (fun x => Only 2147483647 u x.1) e; simp at k; simp [k])

@[simp] theorem State.busRead_only (s : State) (rq : Requester) (off be : Nat) (u : State) {m' : Nat} (hm' : 381752835 ||| m' = m' := by decide) : Only m' u (State.busRead s rq off be) ↔ Only m' u s := by
  refine Only.lift hm' fun u => ?_
  clear hm'
  unfold State.busRead
  split
  · simp
  · split <;> (rename_i e; have k := congrArg (fun x => Only 381752835 u x.1) e; simp at k; simp [k])

theorem execRegisterWrite_only (rq : Requester) (off be : Nat) (v : Word) (s : State) : Outs (Only 2147483647 s) (execRegisterWrite rq off be v s) := by
  unfold execRegisterWrite
  (repeat apply outs_onUnit); simp only [State.busWrite_only, Only.refl, Nat.reduceOr, outs_next, outs_fault, outs_refused, outs_ite, implies_true]

theorem execRcRead_only (rq : Requester) (off be : Nat) (s : State) : Outs (Only 381752835 s) (execRcRead rq off be s) := by
  unfold execRcRead
  (repeat apply outs_onUnit); simp only [State.busRead_only, Only.refl, Nat.reduceOr, outs_next, outs_fault, outs_refused, outs_ite, implies_true]

theorem execPairLowRead_only (rq : Requester) (off be : Nat) (s : State) : Outs (Only 381752835 s) (execPairLowRead rq off be s) := by
  unfold execPairLowRead
  (repeat apply outs_onUnit); simp only [State.busRead_only, Only.refl, Nat.reduceOr, outs_next, outs_fault, outs_refused, outs_ite, implies_true]

theorem execPairHighWrite_only (rq : Requester) (off : Nat) (v : Word) (s : State) : Outs (Only 2147483647 s) (execPairHighWrite rq off v s) := by
  unfold execPairHighWrite
  (repeat apply outs_onUnit); simp only [State.busWrite_only, Only.refl, Nat.reduceOr, outs_next, outs_fault, outs_refused, outs_ite, implies_true]

theorem execBar0Overlong_only (write : Bool) (off be : Nat) (v : Word) (n : Nat) (s : State) : Outs (Only 276894209 s) (execBar0Overlong write off be v n s) := by
  unfold execBar0Overlong
  (repeat apply outs_onUnit); simp only [State.accErr_only, State.respondErr_only, State.respond_only, only_ite, only_ite_fst, ite_self, only_foldl, only_foldl_fst, implies_true, Only.refl, Nat.reduceOr, outs_next, outs_fault, outs_refused, outs_ite]

theorem execUnsupportedRequest_only (s : State) : Outs (Only 268435456 s) (execUnsupportedRequest s) := by
  unfold execUnsupportedRequest
  (repeat apply outs_onUnit); simp only [State.respond_only, Only.refl, Nat.reduceOr, outs_next, outs_fault, outs_refused, outs_ite, implies_true]

theorem execAccerrClear_only (s : State) : Outs (Only 1 s) (execAccerrClear s) := by
  unfold execAccerrClear
  (repeat apply outs_onUnit); simp only [State.setReg_only, Only.refl, Nat.reduceOr, outs_next, outs_fault, outs_refused, outs_ite, implies_true]

theorem execNssetArm_only (rq : Requester) (hi : Nat) (s : State) : Outs (Only 2147483647 s) (execNssetArm rq hi s) := by
  unfold execNssetArm
  (repeat apply outs_onUnit); simp only [State.busWrite_only, Only.refl, Nat.reduceOr, outs_next, outs_fault, outs_refused, outs_ite, implies_true]

theorem execChkDataWrite_only (rq : Requester) (u be : Nat) (v : Word) (s : State) : Outs (Only 2147483647 s) (execChkDataWrite rq u be v s) := by
  unfold execChkDataWrite
  (repeat apply outs_onUnit); simp only [State.busWrite_only, Only.refl, Nat.reduceOr, outs_next, outs_fault, outs_refused, outs_ite, implies_true]

theorem execCoreDebugRegAccess_only (rq : Requester) (write : Bool) (v : Nat) (s : State) : Outs (Only 2147483647 s) (execCoreDebugRegAccess rq write v s) := by
  unfold execCoreDebugRegAccess
  (repeat apply outs_onUnit); simp only [State.busRead_only, State.busWrite_only, only_ite, only_ite_fst, ite_self, Only.refl, Nat.reduceOr, outs_next, outs_fault, outs_refused, outs_ite, implies_true]

theorem outs_reached {m : Nat} {s : State} {rq : Requester} {w : Bool} {off v : Nat} {o : Out} (h : Outs (Only m s) o)
    (hm : 276894209 ||| m = m := by decide) : Outs (Only m s) (s.reached rq w off v o) := by
  unfold State.reached
  split
  · rw [outs_next]; simp (disch := (refine Only.sub ?_ hm; decide))
  · exact h

theorem execCommitWrite_only (b : Block) (s : State) : Outs (Only 294196737 s) (execCommitWrite b s) := by
  unfold execCommitWrite
  (try dsimp only); (repeat' first | apply outs_onUnit | refine outs_reached ?_ (by decide) | split) <;> simp

theorem execHoldForce_only (on : Bool) (s : State) : Outs (Only 276896257 s) (execHoldForce on s) := by
  unfold execHoldForce
  (repeat first | apply outs_onUnit | refine outs_reached ?_ (by decide)); simp only [State.holdForce_only, only_ite, only_ite_fst, ite_self, only_foldl, only_foldl_fst, implies_true, Only.refl, Nat.reduceOr, outs_next, outs_fault, outs_refused, outs_ite]

theorem execRndSnap_only (s : State) : Outs (Only 276894209 s) (execRndSnap s) := by
  unfold execRndSnap
  (repeat first | apply outs_onUnit | refine outs_reached ?_ (by decide)); simp only [State.snap_only, only_ite, only_ite_fst, ite_self, only_foldl, only_foldl_fst, implies_true, Only.refl, Nat.reduceOr, outs_next, outs_fault, outs_refused, outs_ite]

theorem execPatCtrlAdmit_only (s : State) : Outs (Only 277025281 s) (execPatCtrlAdmit s) := by
  unfold execPatCtrlAdmit
  (repeat first | apply outs_onUnit | refine outs_reached ?_ (by decide)); simp only [State.startAdmission_only, only_ite, only_ite_fst, ite_self, only_foldl, only_foldl_fst, implies_true, Only.refl, Nat.reduceOr, outs_next, outs_fault, outs_refused, outs_ite]

theorem execPatCtrlActivate_only (s : State) : Outs (Only 277025281 s) (execPatCtrlActivate s) := by
  unfold execPatCtrlActivate
  (repeat first | apply outs_onUnit | refine outs_reached ?_ (by decide)); simp only [State.activate_only, only_ite, only_ite_fst, ite_self, only_foldl, only_foldl_fst, implies_true, Only.refl, Nat.reduceOr, outs_next, outs_fault, outs_refused, outs_ite]

theorem execPatCtrlDeactivate_only (s : State) : Outs (Only 277025281 s) (execPatCtrlDeactivate s) := by
  unfold execPatCtrlDeactivate
  (repeat first | apply outs_onUnit | refine outs_reached ?_ (by decide)); simp only [State.deactivate_only, only_ite, only_ite_fst, ite_self, only_foldl, only_foldl_fst, implies_true, Only.refl, Nat.reduceOr, outs_next, outs_fault, outs_refused, outs_ite]

theorem execPatCtrlCancel_only (s : State) : Outs (Only 277034497 s) (execPatCtrlCancel s) := by
  unfold execPatCtrlCancel
  (repeat first | apply outs_onUnit | refine outs_reached ?_ (by decide)); simp only [State.cancelAct_only, only_ite, only_ite_fst, ite_self, only_foldl, only_foldl_fst, implies_true, Only.refl, Nat.reduceOr, outs_next, outs_fault, outs_refused, outs_ite]

theorem execMolRetrain_only (p : Nat) (s : State) : Outs (Only 511786497 s) (execMolRetrain p s) := by
  unfold execMolRetrain
  (repeat first | apply outs_onUnit | refine outs_reached ?_ (by decide)); simp only [State.retrainPort_only, only_ite, only_ite_fst, ite_self, only_foldl, only_foldl_fst, implies_true, Only.refl, Nat.reduceOr, outs_next, outs_fault, outs_refused, outs_ite]

theorem execMolQrel_only (p : Nat) (s : State) : Outs (Only 411111937 s) (execMolQrel p s) := by
  unfold execMolQrel
  (repeat first | apply outs_onUnit | refine outs_reached ?_ (by decide)); simp only [State.qrel_only, only_ite, only_ite_fst, ite_self, only_foldl, only_foldl_fst, implies_true, Only.refl, Nat.reduceOr, outs_next, outs_fault, outs_refused, outs_ite]

theorem execWfmTrgqPop_only (s : State) : Outs (Only 310448641 s) (execWfmTrgqPop s) := by
  unfold execWfmTrgqPop
  (repeat first | apply outs_onUnit | refine outs_reached ?_ (by decide)); simp only [State.popTrgq_only, State.respond_only, only_ite, only_ite_fst, ite_self, only_foldl, only_foldl_fst, implies_true, Only.refl, Nat.reduceOr, outs_next, outs_fault, outs_refused, outs_ite]

theorem execRingRearmWrite_only (k : Nat) (s : State) : Outs (Only 276894209 s) (execRingRearmWrite k s) := by
  unfold execRingRearmWrite
  (repeat first | apply outs_onUnit | refine outs_reached ?_ (by decide)); simp only [State.rearm_only, only_ite, only_ite_fst, ite_self, only_foldl, only_foldl_fst, implies_true, Only.refl, Nat.reduceOr, outs_next, outs_fault, outs_refused, outs_ite]

theorem execRingForceWrite_only (k : Nat) (s : State) : Outs (Only 276894209 s) (execRingForceWrite k s) := by
  unfold execRingForceWrite
  (repeat first | apply outs_onUnit | refine outs_reached ?_ (by decide)); simp only [State.force_only, only_ite, only_ite_fst, ite_self, only_foldl, only_foldl_fst, implies_true, Only.refl, Nat.reduceOr, outs_next, outs_fault, outs_refused, outs_ite]

theorem execCamFswFire_only (mask i : Nat) (s : State) : Outs (Only 813765121 s) (execCamFswFire mask i s) := by
  unfold execCamFswFire
  (repeat first | apply outs_onUnit | refine outs_reached ?_ (by decide)); simp only [State.writeFsw_only, only_ite, only_ite_fst, ite_self, only_foldl, only_foldl_fst, implies_true, Only.refl, Nat.reduceOr, outs_next, outs_fault, outs_refused, outs_ite]

theorem execIspRpkickWrite_only (q mask : Nat) (s : State) : Outs (Only 276894209 s) (execIspRpkickWrite q mask s) := by
  unfold execIspRpkickWrite
  (repeat first | apply outs_onUnit | refine outs_reached ?_ (by decide)); simp only [State.kickRp_only, only_ite, only_ite_fst, ite_self, only_foldl, only_foldl_fst, implies_true, Only.refl, Nat.reduceOr, outs_next, outs_fault, outs_refused, outs_ite]

theorem execCoreGo_only (n : Nat) (s : State) : Outs (Only 278729217 s) (execCoreGo n s) := by
  unfold execCoreGo
  (repeat first | apply outs_onUnit | refine outs_reached ?_ (by decide)); simp only [State.hostStart_only, only_ite, only_ite_fst, ite_self, only_foldl, only_foldl_fst, implies_true, Only.refl, Nat.reduceOr, outs_next, outs_fault, outs_refused, outs_ite]

theorem execCoreCtrlAbort_only (n : Nat) (s : State) : Outs (Only 277837545 s) (execCoreCtrlAbort n s) := by
  unfold execCoreCtrlAbort
  (repeat first | apply outs_onUnit | refine outs_reached ?_ (by decide)); simp only [State.abortJob_only, only_ite, only_ite_fst, ite_self, only_foldl, only_foldl_fst, implies_true, Only.refl, Nat.reduceOr, outs_next, outs_fault, outs_refused, outs_ite]

theorem execCoreChflushWrite_only (n mask : Nat) (s : State) : Outs (Only 277680641 s) (execCoreChflushWrite n mask s) := by
  unfold execCoreChflushWrite
  (repeat first | apply outs_onUnit | refine outs_reached ?_ (by decide)); simp only [State.flushChans_only, only_ite, only_ite_fst, ite_self, only_foldl, only_foldl_fst, implies_true, Only.refl, Nat.reduceOr, outs_next, outs_fault, outs_refused, outs_ite]

theorem execSlotPgcommit_only (k i : Nat) (s : State) : Outs (Only 279000577 s) (execSlotPgcommit k i s) := by
  unfold execSlotPgcommit
  (repeat first | apply outs_onUnit | refine outs_reached ?_ (by decide)); simp only [State.pgCommit_only, only_ite, only_ite_fst, ite_self, only_foldl, only_foldl_fst, implies_true, Only.refl, Nat.reduceOr, outs_next, outs_fault, outs_refused, outs_ite]

theorem execSlotKick_only (k i : Nat) (s : State) : Outs (Only 278991361 s) (execSlotKick k i s) := by
  unfold execSlotKick
  (repeat first | apply outs_onUnit | refine outs_reached ?_ (by decide)); simp only [State.kickSlot_only, only_ite, only_ite_fst, ite_self, only_foldl, only_foldl_fst, implies_true, Only.refl, Nat.reduceOr, outs_next, outs_fault, outs_refused, outs_ite]

theorem execSlotReset_only (k i : Nat) (s : State) : Outs (Only 279000577 s) (execSlotReset k i s) := by
  unfold execSlotReset
  (repeat first | apply outs_onUnit | refine outs_reached ?_ (by decide)); simp only [State.askReset_only, only_ite, only_ite_fst, ite_self, only_foldl, only_foldl_fst, implies_true, Only.refl, Nat.reduceOr, outs_next, outs_fault, outs_refused, outs_ite]

theorem execSolCtrlAbort_only (k : Nat) (s : State) : Outs (Only 279934497 s) (execSolCtrlAbort k s) := by
  unfold execSolCtrlAbort
  (repeat first | apply outs_onUnit | refine outs_reached ?_ (by decide)); simp only [State.abortSolve_only, only_ite, only_ite_fst, ite_self, only_foldl, only_foldl_fst, implies_true, Only.refl, Nat.reduceOr, outs_next, outs_fault, outs_refused, outs_ite]

theorem execSolInflushWrite_only (k mask : Nat) (s : State) : Outs (Only 279777793 s) (execSolInflushWrite k mask s) := by
  unfold execSolInflushWrite
  (repeat first | apply outs_onUnit | refine outs_reached ?_ (by decide)); simp only [State.flushIns_only, only_ite, only_ite_fst, ite_self, only_foldl, only_foldl_fst, implies_true, Only.refl, Nat.reduceOr, outs_next, outs_fault, outs_refused, outs_ite]

theorem execSolIncfgWrite_only (k c v : Nat) (s : State) : Outs (Only 279777793 s) (execSolIncfgWrite k c v s) := by
  unfold execSolIncfgWrite
  (repeat first | apply outs_onUnit | refine outs_reached ?_ (by decide)); simp only [State.setIncfg_only, only_ite, only_ite_fst, ite_self, only_foldl, only_foldl_fst, implies_true, Only.refl, Nat.reduceOr, outs_next, outs_fault, outs_refused, outs_ite]

theorem execDoorbell_only (k prod : Nat) (s : State) : Outs (Only 276895233 s) (execDoorbell k prod s) := by
  unfold execDoorbell
  (repeat first | apply outs_onUnit | refine outs_reached ?_ (by decide)); simp only [State.doorbell_only, only_ite, only_ite_fst, ite_self, only_foldl, only_foldl_fst, implies_true, Only.refl, Nat.reduceOr, outs_next, outs_fault, outs_refused, outs_ite]

theorem execCmdCconsWrite_only (k v : Nat) (s : State) : Outs (Only 276903425 s) (execCmdCconsWrite k v s) := by
  unfold execCmdCconsWrite
  (repeat first | apply outs_onUnit | refine outs_reached ?_ (by decide)); simp only [State.writeCcons_only, only_ite, only_ite_fst, ite_self, only_foldl, only_foldl_fst, implies_true, Only.refl, Nat.reduceOr, outs_next, outs_fault, outs_refused, outs_ite]

theorem execCmdSconsWrite_only (v : Nat) (s : State) : Outs (Only 276910593 s) (execCmdSconsWrite v s) := by
  unfold execCmdSconsWrite
  (repeat first | apply outs_onUnit | refine outs_reached ?_ (by decide)); simp only [State.writeScons_only, only_ite, only_ite_fst, ite_self, only_foldl, only_foldl_fst, implies_true, Only.refl, Nat.reduceOr, outs_next, outs_fault, outs_refused, outs_ite]

theorem execRingEnable_only (k : Nat) (s : State) : Outs (Only 276902401 s) (execRingEnable k s) := by
  unfold execRingEnable
  (repeat first | apply outs_onUnit | refine outs_reached ?_ (by decide)); simp only [State.enableRing_only, only_ite, only_ite_fst, ite_self, only_foldl, only_foldl_fst, implies_true, Only.refl, Nat.reduceOr, outs_next, outs_fault, outs_refused, outs_ite]

theorem execRingDisable_only (k : Nat) (s : State) : Outs (Only 276903425 s) (execRingDisable k s) := by
  unfold execRingDisable
  (repeat first | apply outs_onUnit | refine outs_reached ?_ (by decide)); simp only [State.disableRing_only, only_ite, only_ite_fst, ite_self, only_foldl, only_foldl_fst, implies_true, Only.refl, Nat.reduceOr, outs_next, outs_fault, outs_refused, outs_ite]

theorem execStatusRingEnable_only (on : Bool) (s : State) : Outs (Only 276910593 s) (execStatusRingEnable on s) := by
  unfold execStatusRingEnable
  (repeat first | apply outs_onUnit | refine outs_reached ?_ (by decide)); simp only [State.enableSring_only, only_ite, only_ite_fst, ite_self, only_foldl, only_foldl_fst, implies_true, Only.refl, Nat.reduceOr, outs_next, outs_fault, outs_refused, outs_ite]

theorem execCmdCtrlFlush_only (k : Nat) (s : State) : Outs (Only 276903425 s) (execCmdCtrlFlush k s) := by
  unfold execCmdCtrlFlush
  (repeat first | apply outs_onUnit | refine outs_reached ?_ (by decide)); simp only [State.askFlush_only, only_ite, only_ite_fst, ite_self, only_foldl, only_foldl_fst, implies_true, Only.refl, Nat.reduceOr, outs_next, outs_fault, outs_refused, outs_ite]

theorem execFbrWindowFlush_only (w : Nat) (s : State) : Outs (Only 344003073 s) (execFbrWindowFlush w s) := by
  unfold execFbrWindowFlush
  (repeat first | apply outs_onUnit | refine outs_reached ?_ (by decide)); simp only [State.flushWin_only, only_ite, only_ite_fst, ite_self, only_foldl, only_foldl_fst, implies_true, Only.refl, Nat.reduceOr, outs_next, outs_fault, outs_refused, outs_ite]

theorem execFbrErrackWrite_only (mask : Nat) (s : State) : Outs (Only 276894209 s) (execFbrErrackWrite mask s) := by
  unfold execFbrErrackWrite
  (repeat first | apply outs_onUnit | refine outs_reached ?_ (by decide)); simp only [State.ackWins_only, only_ite, only_ite_fst, ite_self, only_foldl, only_foldl_fst, implies_true, Only.refl, Nat.reduceOr, outs_next, outs_fault, outs_refused, outs_ite]

theorem execFbrElogPop_only (rq : Requester) (s : State) : Outs (Only 344003073 s) (execFbrElogPop rq s) := by
  unfold execFbrElogPop
  (repeat first | apply outs_onUnit | refine outs_reached ?_ (by decide)); simp only [State.elogPop_only, State.respond_only, only_ite, only_ite_fst, ite_self, only_foldl, only_foldl_fst, implies_true, Only.refl, Nat.reduceOr, outs_next, outs_fault, outs_refused, outs_ite]

theorem execRouteWrite_only (rq : Requester) (i : Nat) (v : Word) (s : State) : Outs (Only 344003073 s) (execRouteWrite rq i v s) := by
  unfold execRouteWrite
  (repeat first | apply outs_onUnit | refine outs_reached ?_ (by decide)); simp only [State.routeWrite_only, only_ite, only_ite_fst, ite_self, only_foldl, only_foldl_fst, implies_true, Only.refl, Nat.reduceOr, outs_next, outs_fault, outs_refused, outs_ite]

theorem execMrkHopcmdWrite_only (rq : Requester) (v : Nat) (s : State) : Outs (Only 277156353 s) (execMrkHopcmdWrite rq v s) := by
  unfold execMrkHopcmdWrite
  (repeat first | apply outs_onUnit | refine outs_reached ?_ (by decide)); simp only [State.hopCmd_only, only_ite, only_ite_fst, ite_self, only_foldl, only_foldl_fst, implies_true, Only.refl, Nat.reduceOr, outs_next, outs_fault, outs_refused, outs_ite]

theorem execDbgAttachWrite_only (rq : Requester) (on : Bool) (s : State) : Outs (Only 277837545 s) (execDbgAttachWrite rq on s) := by
  unfold execDbgAttachWrite
  (repeat first | apply outs_onUnit | refine outs_reached ?_ (by decide)); simp only [State.writeAttach_only, only_ite, only_ite_fst, ite_self, only_foldl, only_foldl_fst, implies_true, Only.refl, Nat.reduceOr, outs_next, outs_fault, outs_refused, outs_ite]

theorem execDbgSidefxWrite_only (on : Bool) (s : State) : Outs (Only 276894209 s) (execDbgSidefxWrite on s) := by
  unfold execDbgSidefxWrite
  (repeat first | apply outs_onUnit | refine outs_reached ?_ (by decide)); simp only [State.writeSidefx_only, only_ite, only_ite_fst, ite_self, only_foldl, only_foldl_fst, implies_true, Only.refl, Nat.reduceOr, outs_next, outs_fault, outs_refused, outs_ite]

theorem execDbgHaltWrite_only (rq : Requester) (mask : Nat) (s : State) : Outs (Only 276894209 s) (execDbgHaltWrite rq mask s) := by
  unfold execDbgHaltWrite
  (repeat first | apply outs_onUnit | refine outs_reached ?_ (by decide))
  simp only [outs_next]
  refine (State.whenAttached_only _ _ _ _ _ _ _ ?_).2 (Only.refl _ s)
  intro v; (repeat' split) <;> simp

theorem execDbgResumeWrite_only (rq : Requester) (mask : Nat) (s : State) : Outs (Only 277837545 s) (execDbgResumeWrite rq mask s) := by
  unfold execDbgResumeWrite
  (repeat first | apply outs_onUnit | refine outs_reached ?_ (by decide))
  simp only [outs_next]
  refine (State.whenAttached_only _ _ _ _ _ _ _ ?_).2 (Only.refl _ s)
  intro v; (repeat' split) <;> simp

theorem execDbgStepWrite_only (rq : Requester) (n count : Nat) (s : State) : Outs (Only 277837545 s) (execDbgStepWrite rq n count s) := by
  unfold execDbgStepWrite
  (repeat first | apply outs_onUnit | refine outs_reached ?_ (by decide))
  simp only [outs_next]
  refine (State.whenAttached_only _ _ _ _ _ _ _ ?_).2 (Only.refl _ s)
  intro v; (repeat' split) <;> simp

theorem execChkCheck_only (u : Nat) (s : State) : Outs (Only 294196737 s) (execChkCheck u s) := by
  unfold execChkCheck
  (repeat first | apply outs_onUnit | refine outs_reached ?_ (by decide)); simp only [State.chkCheck_only, only_ite, only_ite_fst, ite_self, only_foldl, only_foldl_fst, implies_true, Only.refl, Nat.reduceOr, outs_next, outs_fault, outs_refused, outs_ite]

theorem execChkStart_only (u : Nat) (s : State) : Outs (Only 294196737 s) (execChkStart u s) := by
  unfold execChkStart
  (repeat first | apply outs_onUnit | refine outs_reached ?_ (by decide)); simp only [State.chkStart_only, only_ite, only_ite_fst, ite_self, only_foldl, only_foldl_fst, implies_true, Only.refl, Nat.reduceOr, outs_next, outs_fault, outs_refused, outs_ite]

theorem execJrnCtrlSnapshot_only (s : State) : Outs (Only 276894209 s) (execJrnCtrlSnapshot s) := by
  unfold execJrnCtrlSnapshot
  (repeat first | apply outs_onUnit | refine outs_reached ?_ (by decide)); simp only [State.snapJrn_only, only_ite, only_ite_fst, ite_self, only_foldl, only_foldl_fst, implies_true, Only.refl, Nat.reduceOr, outs_next, outs_fault, outs_refused, outs_ite]

theorem execJrnCtrlFlush_only (s : State) : Outs (Only 276903681 s) (execJrnCtrlFlush s) := by
  unfold execJrnCtrlFlush
  (repeat first | apply outs_onUnit | refine outs_reached ?_ (by decide)); simp only [State.ctrlFlush_only, only_ite, only_ite_fst, ite_self, only_foldl, only_foldl_fst, implies_true, Only.refl, Nat.reduceOr, outs_next, outs_fault, outs_refused, outs_ite]

@[simp] theorem State.putPlace_only (s : State) (p : Place) (bs : List Nat) (u : State) {m' : Nat} (hm' : 655608 ||| m' = m' := by decide) : Only m' u (State.putPlace s p bs) ↔ Only m' u s := by
  refine Only.lift hm' fun u => ?_
  clear hm'
  unfold State.putPlace
  (try dsimp only); (repeat' split) <;> simp only [State.putData_only, State.putHub_only, State.putLpddr_only, State.putSol_only, only_inst, Only.refl, Nat.reduceOr]

@[simp] theorem State.storeWrite_only (s : State) (rq : Requester) (page off : Nat) (l : List (Nat × Bool)) (u : State) {m' : Nat} (hm' : 655608 ||| m' = m' := by decide) : Only m' u (State.storeWrite s rq page off l).1 ↔ Only m' u s := by
  refine Only.lift hm' fun u => ?_
  clear hm'
  unfold State.storeWrite
  (try dsimp only); (repeat' split) <;> simp only [State.putPlace_only, only_ite, only_ite_fst, ite_self, only_foldl, only_foldl_fst, implies_true, Only.refl, Nat.reduceOr]

@[simp] theorem State.placeEcc_only (s : State) (p : Place) (l : List Nat) (u : State) {m' : Nat} (hm' : 1055882985 ||| m' = m' := by decide) : Only m' u (State.placeEcc s p l) ↔ Only m' u s := by
  refine Only.lift hm' fun u => ?_
  clear hm'
  unfold State.placeEcc
  (try dsimp only); (repeat' split) <;> simp only [State.badWords_only, State.fence_only, only_ite, only_ite_fst, ite_self, only_foldl, only_foldl_fst, implies_true, Only.refl, Nat.reduceOr]

theorem execBar2Access_only (write : Bool) (off : Nat) (bytes : List (Nat × Bool)) (ecc : List Nat) (s : State) : Outs (Only 1055883001 s) (execBar2Access write off bytes ecc s) := by
  unfold execBar2Access
  extract_lets page bad
  split
  split
  · simp
  split
  · simp only [outs_next]; split <;> simp
  split
  · split
    · rename_i e; have k := congrArg (fun x => Only 1055883001 s x.1) e; simp at k; simp [k]
    · rename_i e; have k := congrArg (fun x => Only 1055883001 s x.1) e; simp at k; simp [k]
  · split
    · simp
    · extract_lets data s1
      have h1 : Only 1055883001 s s1 := by intro p hp; cases p <;> first | exact rfl | exact absurd hp (by decide)
      clear_value s1
      split <;> simp [h1]

end Sys2Proof.Machine
end

