-- ==== Sys2Proof/Laws/OnlyCommands.lean ====
section
/-! SUPPORT. Laws/OnlyCommands.lean: the pieces of the state that the operations and commands of Machine/Commands.lean may change. -/

namespace Sys2Proof.Machine
open Sys2Proof Sys2Proof.Machine.Reg

set_option linter.all false
set_option Elab.async false

@[simp] theorem State.setWait_only (s : State) (k : Nat) (w : Wait) (u : State) {m' : Nat} (hm' : 8192 ||| m' = m' := by decide) : Only m' u (State.setWait s k w) ↔ Only m' u s := by
  refine Only.lift hm' fun u => ?_
  clear hm'
  unfold State.setWait
  (try dsimp only); (repeat' split) <;> simp only [State.setRing_only, Only.refl, Nat.reduceOr]

/-- Running an opcode touches only the parts of `m`. -/
def Opc.Only (c : Opc) (m : Nat) : Prop := ∀ k it s, Machine.Only m s (c.run k it s)

theorem State.startItem_only {j m : Nat} (s : State) (c : Opc) (k : Nat) (it : Item) (h : c.Only j) (u : State)
    (hm : 8467969 ||| m = m := by decide) (hj : j ||| m = m := by decide) : Only m u (s.startItem c k it) ↔ Only m u s := by
  unfold State.startItem
  extract_lets t
  have h1 : Only m u t ↔ Only m u s := State.begin_only _ _ _ _ (Only.sub (by decide) hm)
  clear_value t
  (repeat' split)
  · simp (disch := (refine Only.sub ?_ hm; decide)) [h1]
  · simp (disch := (refine Only.sub ?_ hm; decide)) [h1]
  · simp (disch := (refine Only.sub ?_ hm; decide)) [h1]
  · simp (disch := (refine Only.sub ?_ hm; decide)) [h1]
  · exact (Only.iff hj (h _ _ _)).trans h1

theorem State.command_only {j m : Nat} (s : State) (c : Opc) (k : Nat) (h : c.Only j) (u : State)
    (hm : 8467969 ||| m = m := by decide) (hj : j ||| m = m := by decide) : Only m u (s.command c k) ↔ Only m u s := by
  unfold State.command
  extract_lets s1
  have h1 : Only m u s1 ↔ Only m u s := State.serve_only _ _ _ (Only.sub (by decide) hm)
  clear_value s1
  split
  · split
    · extract_lets s2
      have h2 : Only m u s2 ↔ Only m u s1 := by
        dsimp only [s2]
        split
        · exact only_hif (Only.sub (by decide) hm)
        · rfl
      clear_value s2
      exact (State.serve_only _ _ _ (Only.sub (by decide) hm)).trans ((State.startItem_only _ _ _ _ h _ (Only.sub (by decide) hm) hj).trans (h2.trans h1))
    · exact h1
  · exact h1

theorem opNop_only : opNop.Only 8467969 := by
  intro k it s
  unfold opNop
  try dsimp only
  simp only [State.endCmd_only, only_ite, only_ite_fst, ite_self, only_foldl, implies_true, Only.refl, Nat.reduceOr]

theorem execNop_only (k : Nat) (s : State) : Outs (Only 8467969 s) (execNop k s) := by
  exact outs_onUnit ((outs_next _ _).2 ((State.command_only s opNop k opNop_only s).2 (Only.refl _ s)))

@[simp] theorem State.regFail_only (s : State) (k : Nat) (write : Bool) (o v : Nat) (c : AccCause) (u : State) {m' : Nat} (hm' : 8467969 ||| m' = m' := by decide) : Only m' u (State.regFail s k write o v c) ↔ Only m' u s := by
  refine Only.lift hm' fun u => ?_
  clear hm'
  unfold State.regFail
  simp only [State.accErr_only, State.endCmd_only, Only.refl, Nat.reduceOr]

@[simp] theorem State.hubWrite_only (s : State) (o v : Nat) (u : State) {m' : Nat} (hm' : 2147483647 ||| m' = m' := by decide) : Only m' u (State.hubWrite s o v).1 ↔ Only m' u s := by
  refine Only.lift hm' fun u => ?_
  clear hm'
  unfold State.hubWrite
  simp only [State.regWrite_only, only_ite, only_ite_fst, ite_self, Only.refl, Nat.reduceOr]

@[simp] theorem State.hubRead_only (s : State) (o : Nat) (quiet : Bool) (u : State) {m' : Nat} (hm' : 104858627 ||| m' = m' := by decide) : Only m' u (State.hubRead s o quiet).1 ↔ Only m' u s := by
  refine Only.lift hm' fun u => ?_
  clear hm'
  unfold State.hubRead
  simp only [State.regRead_only, only_ite, only_ite_fst, ite_self, Only.refl, Nat.reduceOr]

@[simp] theorem State.writePairs_only (s : State) (k n : Nat) (x : List (Nat × Nat)) (u : State) {m' : Nat} (hm' : 2147483647 ||| m' = m' := by decide) : Only m' u (State.writePairs s k n x) ↔ Only m' u s := by
  refine Only.lift hm' fun u => ?_
  clear hm'
  induction x generalizing n s with
  | nil => simp [State.writePairs]
  | cons p t ih =>
    unfold State.writePairs
    split
    · rfl
    · split
      · rename_i e; have k := congrArg (fun x => Only 2147483647 u x.1) e; simp at k; simp [ih, k]
      · rename_i e; have k := congrArg (fun x => Only 2147483647 u x.1) e; simp at k; simp [k]

theorem opRegwr_only : opRegwr.Only 2147483647 := by
  intro k it s
  unfold opRegwr
  try dsimp only
  simp only [State.writePairs_only, only_ite, only_ite_fst, ite_self, only_foldl, implies_true, Only.refl, Nat.reduceOr]

theorem execRegwr_only (k : Nat) (s : State) : Outs (Only 2147483647 s) (execRegwr k s) := by
  exact outs_onUnit ((outs_next _ _).2 ((State.command_only s opRegwr k opRegwr_only s).2 (Only.refl _ s)))

theorem opRegrd_only : opRegrd.Only 113325571 := by
  intro k it s
  unfold opRegrd
  try dsimp only
  (try dsimp only); (repeat' split) <;> (rename_i e; have k := congrArg (fun x => Only 113325571 s x.1) e; simp at k; simp [k])

theorem execRegrd_only (k : Nat) (s : State) : Outs (Only 113325571 s) (execRegrd k s) := by
  exact outs_onUnit ((outs_next _ _).2 ((State.command_only s opRegrd k opRegrd_only s).2 (Only.refl _ s)))

@[simp] theorem State.pollRing_only (s : State) (k : Nat) (last : Bool) (u : State) {m' : Nat} (hm' : 113325571 ||| m' = m' := by decide) : Only m' u (State.pollRing s k last) ↔ Only m' u s := by
  refine Only.lift hm' fun u => ?_
  clear hm'
  unfold State.pollRing
  split
  · split
    · rename_i e; have k := congrArg (fun x => Only 113325571 u x.1) e; simp at k; simp [k]
    · rename_i e; have k := congrArg (fun x => Only 113325571 u x.1) e; simp at k
      (repeat' split) <;> simp [k]
  · rfl

theorem opRegpoll_only : opRegpoll.Only 113325571 := by
  intro k it s
  unfold opRegpoll
  try dsimp only
  simp only [State.pollRing_only, State.setWait_only, only_ite, only_ite_fst, ite_self, only_foldl, implies_true, Only.refl, Nat.reduceOr]

theorem execRegpoll_only (k : Nat) (s : State) : Outs (Only 113325571 s) (execRegpoll k s) := by
  exact outs_onUnit ((outs_next _ _).2 ((State.command_only _ _ k opRegpoll_only s).2 (by simp)))

theorem execRegpollTimeout_only (k : Nat) (s : State) : Outs (Only 113325571 s) (execRegpollTimeout k s) := by
  unfold execRegpollTimeout
  (repeat apply outs_onUnit); simp only [State.pollRing_only, State.serve_only, Only.refl, Nat.reduceOr, outs_next, outs_fault, outs_refused, outs_ite, implies_true]

@[simp] theorem State.copyLocked_only (s : State) (a : Nat) (bs : List Nat) (u : State) {m' : Nat} (hm' : 8458753 ||| m' = m' := by decide) : Only m' u (State.copyLocked s a bs) ↔ Only m' u s := by
  refine Only.lift hm' fun u => ?_
  clear hm'
  unfold State.copyLocked
  simp only [State.accErr_only, only_ite, only_ite_fst, ite_self, only_foldl, only_foldl_fst, implies_true, Only.refl, Nat.reduceOr]

@[simp] theorem State.copy_only (s : State) (k h a n : Nat) (toHost : Bool) (fail : Option Nat) (u : State) {m' : Nat} (hm' : 9123577 ||| m' = m' := by decide) : Only m' u (State.copy s k h a n toHost fail) ↔ Only m' u s := by
  refine Only.lift hm' fun u => ?_
  clear hm'
  unfold State.copy
  simp (disch := (intros; (repeat' split) <;> (try simp_all only [State.copyLocked_only, State.endCmd_only, State.putHost_only, State.putPlace_only, only_ite, only_ite_fst, ite_self, only_foldl, only_foldl_fst, implies_true, Only.refl, Nat.reduceOr]) <;> (try simp_all)))

theorem opCopy_only (fail : Option Nat) : (opCopy fail).Only 9123577 := by
  intro k it s
  simp [opCopy]

theorem execCopy_only (k : Nat) (fail : Option Nat) (s : State) : Outs (Only 9123577 s) (execCopy k fail s) := by
  exact outs_onUnit ((outs_next _ _).2 ((State.command_only s _ k (opCopy_only fail) s).2 (Only.refl _ s)))

theorem execCompletionTimeout_only (k : Nat) (s : State) : Outs (Only 9123577 s) (execCompletionTimeout k s) := by
  unfold execCompletionTimeout
  apply outs_onUnit
  split
  · simp
  · split
    · split
      · exact (outs_next _ _).2 ((State.command_only s _ k (opCopy_only _) s).2 (Only.refl _ s))
      · split <;> simp
    · split <;> simp

theorem opRingFlush_only : opRingFlush.Only 8467969 := by
  intro k it s
  unfold opRingFlush
  try dsimp only
  simp only [State.askFlush_only, State.endCmd_only, State.endRingFlush_only, State.setWait_only, only_ite, only_ite_fst, ite_self, only_foldl, implies_true, Only.refl, Nat.reduceOr]

theorem execRingFlush_only (k : Nat) (s : State) : Outs (Only 8467969 s) (execRingFlush k s) := by
  exact outs_onUnit ((outs_next _ _).2 ((State.command_only s opRingFlush k opRingFlush_only s).2 (Only.refl _ s)))

theorem opStamp_only : opStamp.Only 8467969 := by
  intro k it s
  unfold opStamp
  try dsimp only
  simp only [State.endCmd_only, State.snap_only, only_ite, only_ite_fst, ite_self, only_foldl, implies_true, Only.refl, Nat.reduceOr]

theorem execStamp_only (k : Nat) (s : State) : Outs (Only 8467969 s) (execStamp k s) := by
  exact outs_onUnit ((outs_next _ _).2 ((State.command_only s opStamp k opStamp_only s).2 (Only.refl _ s)))

theorem opInfo_only : opInfo.Only 8467969 := by
  intro k it s
  unfold opInfo
  try dsimp only
  simp only [State.endCmd_only, only_ite, only_ite_fst, ite_self, only_foldl, implies_true, Only.refl, Nat.reduceOr]

theorem execInfo_only (k : Nat) (s : State) : Outs (Only 8467969 s) (execInfo k s) := by
  exact outs_onUnit ((outs_next _ _).2 ((State.command_only s opInfo k opInfo_only s).2 (Only.refl _ s)))

theorem opNsset_only : opNsset.Only 8470017 := by
  intro k it s
  unfold opNsset
  try dsimp only
  simp only [State.armNs_only, State.setWait_only, only_ite, only_ite_fst, ite_self, only_foldl, implies_true, Only.refl, Nat.reduceOr]

theorem execNsset_only (k : Nat) (s : State) : Outs (Only 8470017 s) (execNsset k s) := by
  exact outs_onUnit ((outs_next _ _).2 ((State.command_only s opNsset k opNsset_only s).2 (Only.refl _ s)))

theorem opPatAdmit_only : opPatAdmit.Only 8599041 := by
  intro k it s
  unfold opPatAdmit
  try dsimp only
  (try dsimp only); (repeat' split) <;> (rename_i e; have k := congrArg (fun x => Only 8599041 s x.1) e; simp at k; simp [k])

theorem execPatAdmit_only (k : Nat) (s : State) : Outs (Only 8599041 s) (execPatAdmit k s) := by
  exact outs_onUnit ((outs_next _ _).2 ((State.command_only s opPatAdmit k opPatAdmit_only s).2 (Only.refl _ s)))

theorem opPatActivate_only : opPatActivate.Only 8599041 := by
  intro k it s
  unfold opPatActivate
  try dsimp only
  (try dsimp only); (repeat' split) <;> (rename_i e; have k := congrArg (fun x => Only 8599041 s x.1) e; simp at k; simp [k])

theorem execPatActivate_only (k : Nat) (s : State) : Outs (Only 8599041 s) (execPatActivate k s) := by
  exact outs_onUnit ((outs_next _ _).2 ((State.command_only s opPatActivate k opPatActivate_only s).2 (Only.refl _ s)))

theorem opPatDeactivate_only : opPatDeactivate.Only 139265 := by
  intro k it s
  unfold opPatDeactivate
  try dsimp only
  simp only [State.deactivate_only, State.setWait_only, only_ite, only_ite_fst, ite_self, only_foldl, implies_true, Only.refl, Nat.reduceOr]

theorem execPatDeactivate_only (k : Nat) (s : State) : Outs (Only 8599041 s) (execPatDeactivate k s) := by
  exact outs_onUnit ((outs_next _ _).2 ((State.command_only s opPatDeactivate k opPatDeactivate_only s).2 (Only.refl _ s)))

theorem opPatCancel_only : opPatCancel.Only 8599041 := by
  intro k it s
  unfold opPatCancel
  try dsimp only
  simp only [State.cancelAct_only, State.endCmd_only, only_ite, only_ite_fst, ite_self, only_foldl, implies_true, Only.refl, Nat.reduceOr]

theorem execPatCancel_only (k : Nat) (s : State) : Outs (Only 8599041 s) (execPatCancel k s) := by
  exact outs_onUnit ((outs_next _ _).2 ((State.command_only s opPatCancel k opPatCancel_only s).2 (Only.refl _ s)))

@[simp] theorem State.loadCore_only (s : State) (b : List Nat) (n : Nat) (u : State) {m' : Nat} (hm' : 524312 ||| m' = m' := by decide) : Only m' u (State.loadCore s b n) ↔ Only m' u s := by
  refine Only.lift hm' fun u => ?_
  clear hm'
  unfold State.loadCore
  simp only [State.putData_only, only_inst, only_ite, only_ite_fst, ite_self, only_foldl, only_foldl_fst, implies_true, Only.refl, Nat.reduceOr]

theorem opCoreLoad_only : opCoreLoad.Only 8992281 := by
  intro k it s
  unfold opCoreLoad
  try dsimp only
  (try dsimp only); (repeat' split) <;> simp only [State.endCmd_only, State.loadCore_only, only_ite, only_ite_fst, ite_self, only_foldl, implies_true, Only.refl, Nat.reduceOr]

theorem execCoreLoad_only (k : Nat) (s : State) : Outs (Only 8992281 s) (execCoreLoad k s) := by
  exact outs_onUnit ((outs_next _ _).2 ((State.command_only s opCoreLoad k opCoreLoad_only s).2 (Only.refl _ s)))

theorem opCoreStart_only : opCoreStart.Only 10302977 := by
  intro k it s
  unfold opCoreStart
  dsimp only
  split
  · rename_i e; have k := congrArg (fun x => Only 10302977 s x.1) e; simp at k; simp [k]
  · rename_i e; have k := congrArg (fun x => Only 10302977 s x.1) e; simp at k; split <;> simp [k]

theorem execCoreStart_only (k : Nat) (s : State) : Outs (Only 10302977 s) (execCoreStart k s) := by
  exact outs_onUnit ((outs_next _ _).2 ((State.command_only s opCoreStart k opCoreStart_only s).2 (Only.refl _ s)))

theorem opCoreAbort_only : opCoreAbort.Only 9402089 := by
  intro k it s
  unfold opCoreAbort
  try dsimp only
  simp only [State.abortJob_only, State.endCmd_only, only_ite, only_ite_fst, ite_self, only_foldl, implies_true, Only.refl, Nat.reduceOr]

theorem execCoreAbort_only (k : Nat) (s : State) : Outs (Only 9402089 s) (execCoreAbort k s) := by
  exact outs_onUnit ((outs_next _ _).2 ((State.command_only s opCoreAbort k opCoreAbort_only s).2 (Only.refl _ s)))

theorem opCoreChflush_only : opCoreChflush.Only 9254401 := by
  intro k it s
  unfold opCoreChflush
  try dsimp only
  simp only [State.endCmd_only, State.flushChans_only, only_ite, only_ite_fst, ite_self, only_foldl, implies_true, Only.refl, Nat.reduceOr]

theorem execCoreChflush_only (k : Nat) (s : State) : Outs (Only 9254401 s) (execCoreChflush k s) := by
  exact outs_onUnit ((outs_next _ _).2 ((State.command_only s opCoreChflush k opCoreChflush_only s).2 (Only.refl _ s)))

theorem opLaceLoad_only : opLaceLoad.Only 8468001 := by
  intro k it s
  unfold opLaceLoad
  try dsimp only
  (try dsimp only); (repeat' split) <;> simp only [State.copyLocked_only, State.endCmd_only, State.putSol_only, only_ite, only_ite_fst, ite_self, only_foldl, only_foldl_fst, implies_true, Only.refl, Nat.reduceOr]

theorem execLaceLoad_only (k : Nat) (s : State) : Outs (Only 8468001 s) (execLaceLoad k s) := by
  exact outs_onUnit ((outs_next _ _).2 ((State.command_only s opLaceLoad k opLaceLoad_only s).2 (Only.refl _ s)))

theorem opSolPgcommit_only : opSolPgcommit.Only 10565121 := by
  intro k it s
  unfold opSolPgcommit
  try dsimp only
  simp only [State.endCmd_only, State.pgCommit_only, State.setWait_only, only_ite, only_ite_fst, ite_self, only_foldl, implies_true, Only.refl, Nat.reduceOr]

theorem execSolPgcommit_only (k : Nat) (s : State) : Outs (Only 10565121 s) (execSolPgcommit k s) := by
  exact outs_onUnit ((outs_next _ _).2 ((State.command_only s opSolPgcommit k opSolPgcommit_only s).2 (Only.refl _ s)))

theorem opSolSlotReset_only : opSolSlotReset.Only 10565121 := by
  intro k it s
  unfold opSolSlotReset
  try dsimp only
  simp only [State.askReset_only, State.endCmd_only, State.setWait_only, only_ite, only_ite_fst, ite_self, only_foldl, implies_true, Only.refl, Nat.reduceOr]

theorem execSolSlotReset_only (k : Nat) (s : State) : Outs (Only 10565121 s) (execSolSlotReset k s) := by
  exact outs_onUnit ((outs_next _ _).2 ((State.command_only s opSolSlotReset k opSolSlotReset_only s).2 (Only.refl _ s)))

theorem opSolKick_only : opSolKick.Only 10565121 := by
  intro k it s
  unfold opSolKick
  dsimp only
  split
  · rename_i e; have k := congrArg (fun x => Only 10565121 s x.1) e; simp at k; simp [k]
  · rename_i e; have k := congrArg (fun x => Only 10565121 s x.1) e; simp at k; split <;> simp [k]

theorem execSolKick_only (k : Nat) (s : State) : Outs (Only 10565121 s) (execSolKick k s) := by
  exact outs_onUnit ((outs_next _ _).2 ((State.command_only s opSolKick k opSolKick_only s).2 (Only.refl _ s)))

theorem opSolInflush_only : opSolInflush.Only 11351553 := by
  intro k it s
  unfold opSolInflush
  try dsimp only
  simp only [State.endCmd_only, State.flushIns_only, only_ite, only_ite_fst, ite_self, only_foldl, implies_true, Only.refl, Nat.reduceOr]

theorem execSolInflush_only (k : Nat) (s : State) : Outs (Only 11351553 s) (execSolInflush k s) := by
  exact outs_onUnit ((outs_next _ _).2 ((State.command_only s opSolInflush k opSolInflush_only s).2 (Only.refl _ s)))

theorem opHeadAdmit_only : opHeadAdmit.Only 142685697 := by
  intro k it s
  unfold opHeadAdmit
  try dsimp only
  (try dsimp only); (repeat' split) <;> (rename_i e; have k := congrArg (fun x => Only 142685697 s x.1) e; simp at k; simp [k])

theorem execHeadAdmit_only (k : Nat) (s : State) : Outs (Only 142685697 s) (execHeadAdmit k s) := by
  exact outs_onUnit ((outs_next _ _).2 ((State.command_only s opHeadAdmit k opHeadAdmit_only s).2 (Only.refl _ s)))

theorem opHeadQrel_only : opHeadQrel.Only 142685697 := by
  intro k it s
  unfold opHeadQrel
  try dsimp only
  simp only [State.endCmd_only, State.qrel_only, only_ite, only_ite_fst, ite_self, only_foldl, implies_true, Only.refl, Nat.reduceOr]

theorem execHeadQrel_only (k : Nat) (s : State) : Outs (Only 142685697 s) (execHeadQrel k s) := by
  exact outs_onUnit ((outs_next _ _).2 ((State.command_only s opHeadQrel k opHeadQrel_only s).2 (Only.refl _ s)))

theorem opHeadRetrain_only : opHeadRetrain.Only 511786497 := by
  intro k it s
  unfold opHeadRetrain
  try dsimp only
  simp only [State.endCmd_only, State.retrainPort_only, only_ite, only_ite_fst, ite_self, only_foldl, implies_true, Only.refl, Nat.reduceOr]

theorem execHeadRetrain_only (k : Nat) (s : State) : Outs (Only 511786497 s) (execHeadRetrain k s) := by
  exact outs_onUnit ((outs_next _ _).2 ((State.command_only s opHeadRetrain k opHeadRetrain_only s).2 (Only.refl _ s)))

theorem opCapRearm_only : opCapRearm.Only 8467969 := by
  intro k it s
  unfold opCapRearm
  try dsimp only
  simp only [State.endCmd_only, State.rearm_only, only_ite, only_ite_fst, ite_self, only_foldl, implies_true, Only.refl, Nat.reduceOr]

theorem execCapRearm_only (k : Nat) (s : State) : Outs (Only 8467969 s) (execCapRearm k s) := by
  exact outs_onUnit ((outs_next _ _).2 ((State.command_only s opCapRearm k opCapRearm_only s).2 (Only.refl _ s)))

theorem opCapForce_only : opCapForce.Only 8467969 := by
  intro k it s
  unfold opCapForce
  try dsimp only
  simp only [State.endCmd_only, State.force_only, only_ite, only_ite_fst, ite_self, only_foldl, implies_true, Only.refl, Nat.reduceOr]

theorem execCapForce_only (k : Nat) (s : State) : Outs (Only 8467969 s) (execCapForce k s) := by
  exact outs_onUnit ((outs_next _ _).2 ((State.command_only s opCapForce k opCapForce_only s).2 (Only.refl _ s)))

theorem opFsyncFire_only : opFsyncFire.Only 545338881 := by
  intro k it s
  unfold opFsyncFire
  try dsimp only
  simp only [State.endCmd_only, State.writeFsw_only, only_ite, only_ite_fst, ite_self, only_foldl, implies_true, Only.refl, Nat.reduceOr]

theorem execFsyncFire_only (k : Nat) (s : State) : Outs (Only 545338881 s) (execFsyncFire k s) := by
  exact outs_onUnit ((outs_next _ _).2 ((State.command_only s opFsyncFire k opFsyncFire_only s).2 (Only.refl _ s)))

theorem opRpKick_only : opRpKick.Only 8467969 := by
  intro k it s
  unfold opRpKick
  try dsimp only
  simp only [State.kickRp_only, State.setWait_only, State.settleKicks_only, only_ite, only_ite_fst, ite_self, only_foldl, implies_true, Only.refl, Nat.reduceOr]

theorem execRpKick_only (k : Nat) (s : State) : Outs (Only 8467969 s) (execRpKick k s) := by
  exact outs_onUnit ((outs_next _ _).2 ((State.command_only s opRpKick k opRpKick_only s).2 (Only.refl _ s)))

theorem opFbrErrack_only : opFbrErrack.Only 8467969 := by
  intro k it s
  unfold opFbrErrack
  try dsimp only
  simp only [State.ackWins_only, State.endCmd_only, only_ite, only_ite_fst, ite_self, only_foldl, implies_true, Only.refl, Nat.reduceOr]

theorem execFbrErrack_only (k : Nat) (s : State) : Outs (Only 8467969 s) (execFbrErrack k s) := by
  exact outs_onUnit ((outs_next _ _).2 ((State.command_only s opFbrErrack k opFbrErrack_only s).2 (Only.refl _ s)))

theorem opJrnSnapshot_only : opJrnSnapshot.Only 8467969 := by
  intro k it s
  unfold opJrnSnapshot
  try dsimp only
  simp only [State.endCmd_only, State.snapJrn_only, only_ite, only_ite_fst, ite_self, only_foldl, implies_true, Only.refl, Nat.reduceOr]

theorem execJrnSnapshot_only (k : Nat) (s : State) : Outs (Only 8467969 s) (execJrnSnapshot k s) := by
  exact outs_onUnit ((outs_next _ _).2 ((State.command_only s opJrnSnapshot k opJrnSnapshot_only s).2 (Only.refl _ s)))

theorem opJrnRead_only : opJrnRead.Only 8467969 := by
  intro k it s
  unfold opJrnRead
  try dsimp only
  simp only [State.endCmd_only, State.putHost_only, only_ite, only_ite_fst, ite_self, only_foldl, implies_true, Only.refl, Nat.reduceOr]

theorem execJrnRead_only (k : Nat) (s : State) : Outs (Only 8467969 s) (execJrnRead k s) := by
  exact outs_onUnit ((outs_next _ _).2 ((State.command_only s opJrnRead k opJrnRead_only s).2 (Only.refl _ s)))

theorem opJrnFlush_only : opJrnFlush.Only 8468225 := by
  intro k it s
  unfold opJrnFlush
  try dsimp only
  simp only [State.ctrlFlush_only, State.endCmd_only, State.setWait_only, only_ite, only_ite_fst, ite_self, only_foldl, implies_true, Only.refl, Nat.reduceOr]

theorem execJrnFlush_only (k : Nat) (s : State) : Outs (Only 8468225 s) (execJrnFlush k s) := by
  exact outs_onUnit ((outs_next _ _).2 ((State.command_only s opJrnFlush k opJrnFlush_only s).2 (Only.refl _ s)))

theorem opJrnClearChallenge_only : opJrnClearChallenge.Only 8500737 := by
  intro k it s
  unfold opJrnClearChallenge
  dsimp only
  split <;> simp

theorem execJrnClearChallenge_only (k : Nat) (s : State) : Outs (Only 8500737 s) (execJrnClearChallenge k s) := by
  exact outs_onUnit ((outs_next _ _).2 ((State.command_only s opJrnClearChallenge k opJrnClearChallenge_only s).2 (Only.refl _ s)))

@[simp] theorem State.failOnce_only (s : State) (u : State) {m' : Nat} (hm' : 33792 ||| m' = m' := by decide) : Only m' u (State.failOnce s) ↔ Only m' u s := by
  refine Only.lift hm' fun u => ?_
  clear hm'
  unfold State.failOnce
  simp (disch := (intros; (repeat' split) <;> (try simp_all only [State.draw_only, Only.refl, Nat.reduceOr]) <;> (try simp_all)))

@[simp] theorem State.blockClears_only (s : State) (seq : Nat) (u : State) {m' : Nat} (hm' : 8491521 ||| m' = m' := by decide) : Only m' u (State.blockClears s seq) ↔ Only m' u s := by
  refine Only.lift hm' fun u => ?_
  clear hm'
  unfold State.blockClears
  simp (disch := (intros; (repeat' split) <;> (try simp_all only [State.secReport_only, State.setFld_only, Only.refl, Nat.reduceOr]) <;> (try simp_all)))

@[simp] theorem State.clearFails_only (s : State) (u : State) {m' : Nat} (hm' : 8492545 ||| m' = m' := by decide) : Only m' u (State.clearFails s) ↔ Only m' u s := by
  refine Only.lift hm' fun u => ?_
  clear hm'
  unfold State.clearFails
  simp only [State.blockClears_only, State.count_only, State.failOnce_only, State.journal_only, only_ite, only_ite_fst, ite_self, Only.refl, Nat.reduceOr]

theorem opJrnClear_only : opJrnClear.Only 8500993 := by
  intro k it s
  unfold opJrnClear
  dsimp only
  split
  · simp
  · simp
  · split
    · split <;> simp
    · simp

theorem execJrnClear_only (k : Nat) (s : State) : Outs (Only 8500993 s) (execJrnClear k s) := by
  exact outs_onUnit ((outs_next _ _).2 ((State.command_only s opJrnClear k opJrnClear_only s).2 (Only.refl _ s)))

@[simp] theorem State.denied_only (s : State) (k opc : Nat) (u : State) {m' : Nat} (hm' : 8467969 ||| m' = m' := by decide) : Only m' u (State.denied s k opc) ↔ Only m' u s := by
  refine Only.lift hm' fun u => ?_
  clear hm'
  unfold State.denied
  simp only [State.count_only, State.endCmd_only, State.secReport_only, Only.refl, Nat.reduceOr]

theorem opKeyLoad_only : opKeyLoad.Only 8500737 := by
  intro k it s
  unfold opKeyLoad
  dsimp only
  split
  · simp
  · simp

theorem execKeyLoad_only (k : Nat) (s : State) : Outs (Only 8500737 s) (execKeyLoad k s) := by
  exact outs_onUnit ((outs_next _ _).2 ((State.command_only s opKeyLoad k opKeyLoad_only s).2 (Only.refl _ s)))

theorem opKeyErase_only : opKeyErase.Only 8500737 := by
  intro k it s
  unfold opKeyErase
  dsimp only
  split
  · simp
  · split <;> simp

theorem execKeyErase_only (k : Nat) (s : State) : Outs (Only 8500737 s) (execKeyErase k s) := by
  exact outs_onUnit ((outs_next _ _).2 ((State.command_only s opKeyErase k opKeyErase_only s).2 (Only.refl _ s)))

theorem opJckSet_same (k : Nat) (it : Item) (s : State) (h : s.sec.jck.isSome) : Only 8500737 s (opJckSet.run k it s) := by
  have hk : s.clearKey.isSome := by
    unfold State.clearKey
    cases hj : s.sec.jck with
    | none => simp [hj] at h
    | some x => simp
  unfold opJckSet
  dsimp only
  (repeat' split) <;> simp_all

theorem opJckSet_only : opJckSet.Only 2155984385 := by
  intro k it s
  unfold opJckSet
  simp only []
  split
  · simp
  split
  · simp
  · generalize hv : ({ s with sec := { s.sec with jck := some (BitVec.ofNat 256 it.key256) } } : State) = v
    have hp : Only 2155984385 s v := by
      rw [← hv]
      intro p hp
      cases p <;> first | exact rfl | exact absurd hp (by decide)
    simp [hp]

theorem command_jckSet (s : State) (k : Nat) (hj : s.sec.jck.isSome) : Only 8500737 s (s.command opJckSet k) := by
  unfold State.command
  extract_lets s1
  have h1 : Only 8500737 s s1 := (State.serve_only ..).2 (Only.refl _ s)
  clear_value s1
  split
  · rename_i it _
    split
    · extract_lets s2
      have h2 : Only 8500737 s1 s2 := by
        dsimp only [s2]
        split
        · exact (only_hif (by decide)).2 (Only.refl _ _)
        · exact Only.refl _ _
      clear_value s2
      have hs : Only 8500737 s2 (s2.startItem opJckSet k it) := by
        unfold State.startItem
        extract_lets t
        have ht : Only 8500737 s2 t := (State.begin_only ..).2 (Only.refl _ s2)
        have e1 : t.sec.jck = s2.sec.jck := ht .jck (by decide)
        have e2 : s2.sec.jck = s.sec.jck := (h1.trans h2) .jck (by decide)
        have hk : t.sec.jck.isSome := by rw [e1, e2]; exact hj
        clear_value t
        (repeat' split)
        · simp [ht]
        · simp [ht]
        · simp [ht]
        · simp [ht]
        · exact ht.trans (opJckSet_same k it t hk)
      exact ((h1.trans h2).trans hs).trans ((State.serve_only ..).2 (Only.refl _ _))
    · exact h1
  · exact h1

theorem execJckSet_only (k : Nat) (s : State) : Outs (Only 2155984385 s) (execJckSet k s) :=
  outs_onUnit ((outs_next _ _).2 ((State.command_only s opJckSet k opJckSet_only s).2 (Only.refl _ s)))

theorem execJckSet_same (k : Nat) (s : State) (h : s.sec.jck.isSome) : Outs (Only 8500737 s) (execJckSet k s) :=
  outs_onUnit ((outs_next _ _).2 (command_jckSet s k h))

theorem opSecLock_only : opSecLock.Only 8467969 := by
  intro k it s
  unfold opSecLock
  try dsimp only
  simp only [State.endCmd_only, State.secReport_only, State.setFld_only, only_ite, only_ite_fst, ite_self, only_foldl, implies_true, Only.refl, Nat.reduceOr]

theorem execSecLock_only (k : Nat) (s : State) : Outs (Only 8467969 s) (execSecLock k s) := by
  exact outs_onUnit ((outs_next _ _).2 ((State.command_only s opSecLock k opSecLock_only s).2 (Only.refl _ s)))

theorem State.dbgCmd_only {m : Nat} (s : State) (k : Nat) (f : State → State) (u : State) (h : ∀ v, Only m v (f v))
    (hm : 8467969 ||| m = m := by decide) : Only m u (s.dbgCmd k f) ↔ Only m u s := by
  unfold State.dbgCmd
  split
  · exact (h s).iff'
  · simp (disch := (refine Only.sub ?_ hm; decide))

theorem opDbgHalt_only : opDbgHalt.Only 8467969 := by
  intro k it s
  unfold opDbgHalt
  dsimp only
  refine (State.dbgCmd_only _ _ _ _ (fun v => ?_)).2 (Only.refl _ s)
  simp

theorem execDbgHalt_only (k : Nat) (s : State) : Outs (Only 8467969 s) (execDbgHalt k s) := by
  exact outs_onUnit ((outs_next _ _).2 ((State.command_only s opDbgHalt k opDbgHalt_only s).2 (Only.refl _ s)))

theorem opDbgResume_only : opDbgResume.Only 9402089 := by
  intro k it s
  unfold opDbgResume
  dsimp only
  refine (State.dbgCmd_only _ _ _ _ (fun v => ?_)).2 (Only.refl _ s)
  simp

theorem execDbgResume_only (k : Nat) (s : State) : Outs (Only 9402089 s) (execDbgResume k s) := by
  exact outs_onUnit ((outs_next _ _).2 ((State.command_only s opDbgResume k opDbgResume_only s).2 (Only.refl _ s)))

theorem opDbgStep_only : opDbgStep.Only 9402089 := by
  intro k it s
  unfold opDbgStep
  dsimp only
  refine (State.dbgCmd_only _ _ _ _ (fun v => ?_)).2 (Only.refl _ s)
  split <;> simp

theorem execDbgStep_only (k : Nat) (s : State) : Outs (Only 9402089 s) (execDbgStep k s) := by
  exact outs_onUnit ((outs_next _ _).2 ((State.command_only s opDbgStep k opDbgStep_only s).2 (Only.refl _ s)))

@[simp] theorem State.idle_only (s : State) (u : State) {m' : Nat} (hm' : 1072660459 ||| m' = m' := by decide) : Only m' u (State.idle s) ↔ Only m' u s := by
  refine Only.lift hm' fun u => ?_
  clear hm'
  unfold State.idle
  simp only [State.pollRing_only, State.serve_only, State.tick_only, only_foldl, only_foldl_fst, implies_true, Only.refl, Nat.reduceOr]

end Sys2Proof.Machine
end

