-- ==== Sys2Proof/Laws/OnlyTap.lean ====
section
/-! SUPPORT. Laws/OnlyTap.lean: the pieces of the state that the operations and commands of Machine/Tap.lean may change. -/

namespace Sys2Proof.Machine
open Sys2Proof Sys2Proof.Machine.Reg

set_option linter.all false
set_option Elab.async false

@[simp] theorem State.loadIr_only (s : State) (c : Nat) (u : State) {m' : Nat} (hm' : 1073741824 ||| m' = m' := by decide) : Only m' u (State.loadIr s c) ↔ Only m' u s := by
  refine Only.lift hm' fun u => ?_
  clear hm'
  unfold State.loadIr
  simp only [only_tap, Only.refl, Nat.reduceOr]

@[simp] theorem State.takeBalls_only (s : State) (c : Nat) (u : State) {m' : Nat} (hm' : 1082200577 ||| m' = m' := by decide) : Only m' u (State.takeBalls s c) ↔ Only m' u s := by
  refine Only.lift hm' fun u => ?_
  clear hm'
  unfold State.takeBalls
  simp only [State.dbgReport_only, State.loadIr_only, State.setFld_only, Only.refl, Nat.reduceOr]

theorem execTapReset_only (s : State) : Outs (Only 1073741824 s) (execTapReset s) := by
  unfold execTapReset
  (repeat apply outs_onUnit); simp only [State.loadIr_only, Only.refl, Nat.reduceOr, outs_next, outs_fault, outs_refused, outs_ite, implies_true]

theorem execExtest_only (s : State) : Outs (Only 1082200577 s) (execExtest s) := by
  unfold execExtest
  (repeat apply outs_onUnit); simp only [State.takeBalls_only, Only.refl, Nat.reduceOr, outs_next, outs_fault, outs_refused, outs_ite, implies_true]

theorem execSamplePreload_only (s : State) : Outs (Only 1073741824 s) (execSamplePreload s) := by
  unfold execSamplePreload
  (repeat apply outs_onUnit); simp only [State.loadIr_only, Only.refl, Nat.reduceOr, outs_next, outs_fault, outs_refused, outs_ite, implies_true]

theorem execIdcode_only (s : State) : Outs (Only 1073741824 s) (execIdcode s) := by
  unfold execIdcode
  (repeat apply outs_onUnit); simp only [State.loadIr_only, Only.refl, Nat.reduceOr, outs_next, outs_fault, outs_refused, outs_ite, implies_true]

theorem execClamp_only (s : State) : Outs (Only 1082200577 s) (execClamp s) := by
  unfold execClamp
  (repeat apply outs_onUnit); simp only [State.takeBalls_only, Only.refl, Nat.reduceOr, outs_next, outs_fault, outs_refused, outs_ite, implies_true]

theorem execHighz_only (s : State) : Outs (Only 1082200577 s) (execHighz s) := by
  unfold execHighz
  (repeat apply outs_onUnit); simp only [State.takeBalls_only, Only.refl, Nat.reduceOr, outs_next, outs_fault, outs_refused, outs_ite, implies_true]

theorem execExtestPulse_only (s : State) : Outs (Only 1082200577 s) (execExtestPulse s) := by
  unfold execExtestPulse
  (repeat apply outs_onUnit); simp only [State.takeBalls_only, Only.refl, Nat.reduceOr, outs_next, outs_fault, outs_refused, outs_ite, implies_true]

theorem execExtestTrain_only (s : State) : Outs (Only 1082200577 s) (execExtestTrain s) := by
  unfold execExtestTrain
  (repeat apply outs_onUnit); simp only [State.takeBalls_only, Only.refl, Nat.reduceOr, outs_next, outs_fault, outs_refused, outs_ite, implies_true]

theorem execDbgacc_only (s : State) : Outs (Only 1073741824 s) (execDbgacc s) := by
  unfold execDbgacc
  (repeat apply outs_onUnit); simp only [State.loadIr_only, Only.refl, Nat.reduceOr, outs_next, outs_fault, outs_refused, outs_ite, implies_true]

theorem execBypass_only (s : State) : Outs (Only 1073741824 s) (execBypass s) := by
  unfold execBypass
  (repeat apply outs_onUnit); simp only [State.loadIr_only, Only.refl, Nat.reduceOr, outs_next, outs_fault, outs_refused, outs_ite, implies_true]

@[simp] theorem State.tapEnd_only (s : State) (data st : Nat) (u : State) {m' : Nat} (hm' : 1073741832 ||| m' = m' := by decide) : Only m' u (State.tapEnd s data st) ↔ Only m' u s := by
  refine Only.lift hm' fun u => ?_
  clear hm'
  unfold State.tapEnd
  simp only [only_data, only_tap, Only.refl, Nat.reduceOr]

@[simp] theorem State.tapError_only (s : State) (src : Nat) (c : AccCause) (write : Bool) (ofs data : Nat) (u : State) {m' : Nat} (hm' : 1082200585 ||| m' = m' := by decide) : Only m' u (State.tapError s src c write ofs data) ↔ Only m' u s := by
  refine Only.lift hm' fun u => ?_
  clear hm'
  unfold State.tapError
  simp only [State.accErr_only, State.tapEnd_only, only_ite, only_ite_fst, ite_self, Only.refl, Nat.reduceOr]

@[simp] theorem State.tapRead_only (s : State) (ofs : Nat) (bar2 ecc : Bool) (u : State) {m' : Nat} (hm' : 2129624811 ||| m' = m' := by decide) : Only m' u (State.tapRead s ofs bar2 ecc) ↔ Only m' u s := by
  refine Only.lift hm' fun u => ?_
  clear hm'
  unfold State.tapRead
  split
  · dsimp only
    (repeat' split) <;> simp
  · split <;> (rename_i e; have k := congrArg (fun x => Only 2129624811 u x.1) e; simp at k; simp [k])

@[simp] theorem State.tapWrite_only (s : State) (data ofs : Nat) (bar2 : Bool) (u : State) {m' : Nat} (hm' : 2147483647 ||| m' = m' := by decide) : Only m' u (State.tapWrite s data ofs bar2) ↔ Only m' u s := by
  refine Only.lift hm' fun u => ?_
  clear hm'
  unfold State.tapWrite
  extract_lets r
  have hr : Only 2147483647 u r.1 ↔ Only 2147483647 u s := by simp only [r]; split <;> simp
  clear_value r
  split <;> (simp at hr; simp [hr])

theorem execDbgaccUpdate_only (data ofs : Nat) (bar2 : Bool) (op : TapOp) (s : State) : Outs (Only 2147483647 s) (execDbgaccUpdate data ofs bar2 op s) := by
  unfold execDbgaccUpdate
  (repeat first | apply outs_onUnit | refine outs_reached ?_ (by decide)); simp only [State.tapRead_only, State.tapWrite_only, only_ite, only_ite_fst, ite_self, only_foldl, only_foldl_fst, implies_true, Only.refl, Nat.reduceOr, outs_next, outs_fault, outs_refused, outs_ite]

end Sys2Proof.Machine
end

