-- ==== Sys2Proof/Laws/State.lean ====
section
/-! SUPPORT. Laws/State.lean: what each of the plainest updates of the state leaves, field by field, and the field it changes. -/

namespace Sys2Proof.Machine
open Sys2Proof Sys2Proof.Machine.Reg

set_option linter.all false
set_option Elab.async false

@[simp] theorem setReg_pending (s : State) (a : Nat) (v : Word) : (s.setReg a v).pending = s.pending := rfl
@[simp] theorem setReg_regs (s : State) (a : Nat) (v : Word) : (s.setReg a v).regs = sparseSet regReset s.regs a v := rfl
@[simp] theorem setReg_latch (s : State) (a : Nat) (v : Word) : (s.setReg a v).latch = s.latch := rfl
@[simp] theorem setReg_stage (s : State) (a : Nat) (v : Word) : (s.setReg a v).stage = s.stage := rfl
@[simp] theorem setReg_data (s : State) (a : Nat) (v : Word) : (s.setReg a v).data = s.data := rfl
@[simp] theorem setReg_inst (s : State) (a : Nat) (v : Word) : (s.setReg a v).inst = s.inst := rfl
@[simp] theorem setReg_sol (s : State) (a : Nat) (v : Word) : (s.setReg a v).sol = s.sol := rfl
@[simp] theorem setReg_hub (s : State) (a : Nat) (v : Word) : (s.setReg a v).hub = s.hub := rfl
@[simp] theorem setReg_lpddr (s : State) (a : Nat) (v : Word) : (s.setReg a v).lpddr = s.lpddr := rfl
@[simp] theorem setReg_nor (s : State) (a : Nat) (v : Word) : (s.setReg a v).nor = s.nor := rfl
@[simp] theorem setReg_host (s : State) (a : Nat) (v : Word) : (s.setReg a v).host = s.host := rfl
@[simp] theorem setReg_free (s : State) (a : Nat) (v : Word) : (s.setReg a v).free = s.free := rfl
@[simp] theorem setReg_rnd (s : State) (a : Nat) (v : Word) : (s.setReg a v).rnd = s.rnd := rfl
@[simp] theorem setReg_hif (s : State) (a : Nat) (v : Word) : (s.setReg a v).hif = s.hif := rfl
@[simp] theorem setReg_rings (s : State) (a : Nat) (v : Word) : (s.setReg a v).rings = s.rings := rfl
@[simp] theorem setReg_sring (s : State) (a : Nat) (v : Word) : (s.setReg a v).sring = s.sring := rfl
@[simp] theorem setReg_sec (s : State) (a : Nat) (v : Word) : (s.setReg a v).sec = s.sec := rfl
@[simp] theorem setReg_jrn (s : State) (a : Nat) (v : Word) : (s.setReg a v).jrn = s.jrn := rfl
@[simp] theorem setReg_pat (s : State) (a : Nat) (v : Word) : (s.setReg a v).pat = s.pat := rfl
@[simp] theorem setReg_mesh (s : State) (a : Nat) (v : Word) : (s.setReg a v).mesh = s.mesh := rfl
@[simp] theorem setReg_cores (s : State) (a : Nat) (v : Word) : (s.setReg a v).cores = s.cores := rfl
@[simp] theorem setReg_acc (s : State) (a : Nat) (v : Word) : (s.setReg a v).acc = s.acc := rfl
@[simp] theorem setReg_engines (s : State) (a : Nat) (v : Word) : (s.setReg a v).engines = s.engines := rfl
@[simp] theorem setReg_hlth (s : State) (a : Nat) (v : Word) : (s.setReg a v).hlth = s.hlth := rfl
@[simp] theorem setReg_boot (s : State) (a : Nat) (v : Word) : (s.setReg a v).boot = s.boot := rfl
@[simp] theorem setReg_chk (s : State) (a : Nat) (v : Word) : (s.setReg a v).chk = s.chk := rfl
@[simp] theorem setReg_wfm (s : State) (a : Nat) (v : Word) : (s.setReg a v).wfm = s.wfm := rfl
@[simp] theorem setReg_fbr (s : State) (a : Nat) (v : Word) : (s.setReg a v).fbr = s.fbr := rfl
@[simp] theorem setReg_ports (s : State) (a : Nat) (v : Word) : (s.setReg a v).ports = s.ports := rfl
@[simp] theorem setReg_resp (s : State) (a : Nat) (v : Word) : (s.setReg a v).resp = s.resp := rfl
@[simp] theorem setReg_cam (s : State) (a : Nat) (v : Word) : (s.setReg a v).cam = s.cam := rfl
@[simp] theorem setReg_tap (s : State) (a : Nat) (v : Word) : (s.setReg a v).tap = s.tap := rfl

@[simp] theorem setFld_pending (s : State) (f : Fld) (v i j : Nat) : (s.setFld f v i j).pending = s.pending := rfl
@[simp] theorem setFld_latch (s : State) (f : Fld) (v i j : Nat) : (s.setFld f v i j).latch = s.latch := rfl
@[simp] theorem setFld_stage (s : State) (f : Fld) (v i j : Nat) : (s.setFld f v i j).stage = s.stage := rfl
@[simp] theorem setFld_data (s : State) (f : Fld) (v i j : Nat) : (s.setFld f v i j).data = s.data := rfl
@[simp] theorem setFld_inst (s : State) (f : Fld) (v i j : Nat) : (s.setFld f v i j).inst = s.inst := rfl
@[simp] theorem setFld_sol (s : State) (f : Fld) (v i j : Nat) : (s.setFld f v i j).sol = s.sol := rfl
@[simp] theorem setFld_hub (s : State) (f : Fld) (v i j : Nat) : (s.setFld f v i j).hub = s.hub := rfl
@[simp] theorem setFld_lpddr (s : State) (f : Fld) (v i j : Nat) : (s.setFld f v i j).lpddr = s.lpddr := rfl
@[simp] theorem setFld_nor (s : State) (f : Fld) (v i j : Nat) : (s.setFld f v i j).nor = s.nor := rfl
@[simp] theorem setFld_host (s : State) (f : Fld) (v i j : Nat) : (s.setFld f v i j).host = s.host := rfl
@[simp] theorem setFld_free (s : State) (f : Fld) (v i j : Nat) : (s.setFld f v i j).free = s.free := rfl
@[simp] theorem setFld_rnd (s : State) (f : Fld) (v i j : Nat) : (s.setFld f v i j).rnd = s.rnd := rfl
@[simp] theorem setFld_hif (s : State) (f : Fld) (v i j : Nat) : (s.setFld f v i j).hif = s.hif := rfl
@[simp] theorem setFld_rings (s : State) (f : Fld) (v i j : Nat) : (s.setFld f v i j).rings = s.rings := rfl
@[simp] theorem setFld_sring (s : State) (f : Fld) (v i j : Nat) : (s.setFld f v i j).sring = s.sring := rfl
@[simp] theorem setFld_sec (s : State) (f : Fld) (v i j : Nat) : (s.setFld f v i j).sec = s.sec := rfl
@[simp] theorem setFld_jrn (s : State) (f : Fld) (v i j : Nat) : (s.setFld f v i j).jrn = s.jrn := rfl
@[simp] theorem setFld_pat (s : State) (f : Fld) (v i j : Nat) : (s.setFld f v i j).pat = s.pat := rfl
@[simp] theorem setFld_mesh (s : State) (f : Fld) (v i j : Nat) : (s.setFld f v i j).mesh = s.mesh := rfl
@[simp] theorem setFld_cores (s : State) (f : Fld) (v i j : Nat) : (s.setFld f v i j).cores = s.cores := rfl
@[simp] theorem setFld_acc (s : State) (f : Fld) (v i j : Nat) : (s.setFld f v i j).acc = s.acc := rfl
@[simp] theorem setFld_engines (s : State) (f : Fld) (v i j : Nat) : (s.setFld f v i j).engines = s.engines := rfl
@[simp] theorem setFld_hlth (s : State) (f : Fld) (v i j : Nat) : (s.setFld f v i j).hlth = s.hlth := rfl
@[simp] theorem setFld_boot (s : State) (f : Fld) (v i j : Nat) : (s.setFld f v i j).boot = s.boot := rfl
@[simp] theorem setFld_chk (s : State) (f : Fld) (v i j : Nat) : (s.setFld f v i j).chk = s.chk := rfl
@[simp] theorem setFld_wfm (s : State) (f : Fld) (v i j : Nat) : (s.setFld f v i j).wfm = s.wfm := rfl
@[simp] theorem setFld_fbr (s : State) (f : Fld) (v i j : Nat) : (s.setFld f v i j).fbr = s.fbr := rfl
@[simp] theorem setFld_ports (s : State) (f : Fld) (v i j : Nat) : (s.setFld f v i j).ports = s.ports := rfl
@[simp] theorem setFld_resp (s : State) (f : Fld) (v i j : Nat) : (s.setFld f v i j).resp = s.resp := rfl
@[simp] theorem setFld_cam (s : State) (f : Fld) (v i j : Nat) : (s.setFld f v i j).cam = s.cam := rfl
@[simp] theorem setFld_tap (s : State) (f : Fld) (v i j : Nat) : (s.setFld f v i j).tap = s.tap := rfl

@[simp] theorem setLive_pending (s : State) (f : Fld) (v i j : Nat) : (s.setLive f v i j).pending = s.pending := setReg_pending _ _ _
@[simp] theorem setLive_latch (s : State) (f : Fld) (v i j : Nat) : (s.setLive f v i j).latch = s.latch := setReg_latch _ _ _
@[simp] theorem setLive_stage (s : State) (f : Fld) (v i j : Nat) : (s.setLive f v i j).stage = s.stage := setReg_stage _ _ _
@[simp] theorem setLive_data (s : State) (f : Fld) (v i j : Nat) : (s.setLive f v i j).data = s.data := setReg_data _ _ _
@[simp] theorem setLive_inst (s : State) (f : Fld) (v i j : Nat) : (s.setLive f v i j).inst = s.inst := setReg_inst _ _ _
@[simp] theorem setLive_sol (s : State) (f : Fld) (v i j : Nat) : (s.setLive f v i j).sol = s.sol := setReg_sol _ _ _
@[simp] theorem setLive_hub (s : State) (f : Fld) (v i j : Nat) : (s.setLive f v i j).hub = s.hub := setReg_hub _ _ _
@[simp] theorem setLive_lpddr (s : State) (f : Fld) (v i j : Nat) : (s.setLive f v i j).lpddr = s.lpddr := setReg_lpddr _ _ _
@[simp] theorem setLive_nor (s : State) (f : Fld) (v i j : Nat) : (s.setLive f v i j).nor = s.nor := setReg_nor _ _ _
@[simp] theorem setLive_host (s : State) (f : Fld) (v i j : Nat) : (s.setLive f v i j).host = s.host := setReg_host _ _ _
@[simp] theorem setLive_free (s : State) (f : Fld) (v i j : Nat) : (s.setLive f v i j).free = s.free := setReg_free _ _ _
@[simp] theorem setLive_rnd (s : State) (f : Fld) (v i j : Nat) : (s.setLive f v i j).rnd = s.rnd := setReg_rnd _ _ _
@[simp] theorem setLive_hif (s : State) (f : Fld) (v i j : Nat) : (s.setLive f v i j).hif = s.hif := setReg_hif _ _ _
@[simp] theorem setLive_rings (s : State) (f : Fld) (v i j : Nat) : (s.setLive f v i j).rings = s.rings := setReg_rings _ _ _
@[simp] theorem setLive_sring (s : State) (f : Fld) (v i j : Nat) : (s.setLive f v i j).sring = s.sring := setReg_sring _ _ _
@[simp] theorem setLive_sec (s : State) (f : Fld) (v i j : Nat) : (s.setLive f v i j).sec = s.sec := setReg_sec _ _ _
@[simp] theorem setLive_jrn (s : State) (f : Fld) (v i j : Nat) : (s.setLive f v i j).jrn = s.jrn := setReg_jrn _ _ _
@[simp] theorem setLive_pat (s : State) (f : Fld) (v i j : Nat) : (s.setLive f v i j).pat = s.pat := setReg_pat _ _ _
@[simp] theorem setLive_mesh (s : State) (f : Fld) (v i j : Nat) : (s.setLive f v i j).mesh = s.mesh := setReg_mesh _ _ _
@[simp] theorem setLive_cores (s : State) (f : Fld) (v i j : Nat) : (s.setLive f v i j).cores = s.cores := setReg_cores _ _ _
@[simp] theorem setLive_acc (s : State) (f : Fld) (v i j : Nat) : (s.setLive f v i j).acc = s.acc := setReg_acc _ _ _
@[simp] theorem setLive_engines (s : State) (f : Fld) (v i j : Nat) : (s.setLive f v i j).engines = s.engines := setReg_engines _ _ _
@[simp] theorem setLive_hlth (s : State) (f : Fld) (v i j : Nat) : (s.setLive f v i j).hlth = s.hlth := setReg_hlth _ _ _
@[simp] theorem setLive_boot (s : State) (f : Fld) (v i j : Nat) : (s.setLive f v i j).boot = s.boot := setReg_boot _ _ _
@[simp] theorem setLive_chk (s : State) (f : Fld) (v i j : Nat) : (s.setLive f v i j).chk = s.chk := setReg_chk _ _ _
@[simp] theorem setLive_wfm (s : State) (f : Fld) (v i j : Nat) : (s.setLive f v i j).wfm = s.wfm := setReg_wfm _ _ _
@[simp] theorem setLive_fbr (s : State) (f : Fld) (v i j : Nat) : (s.setLive f v i j).fbr = s.fbr := setReg_fbr _ _ _
@[simp] theorem setLive_ports (s : State) (f : Fld) (v i j : Nat) : (s.setLive f v i j).ports = s.ports := setReg_ports _ _ _
@[simp] theorem setLive_resp (s : State) (f : Fld) (v i j : Nat) : (s.setLive f v i j).resp = s.resp := setReg_resp _ _ _
@[simp] theorem setLive_cam (s : State) (f : Fld) (v i j : Nat) : (s.setLive f v i j).cam = s.cam := setReg_cam _ _ _
@[simp] theorem setLive_tap (s : State) (f : Fld) (v i j : Nat) : (s.setLive f v i j).tap = s.tap := setReg_tap _ _ _

@[simp] theorem setRegN_pending (s : State) (r : Rg) (v i j : Nat) : (s.setRegN r v i j).pending = s.pending := rfl
@[simp] theorem setRegN_latch (s : State) (r : Rg) (v i j : Nat) : (s.setRegN r v i j).latch = s.latch := rfl
@[simp] theorem setRegN_stage (s : State) (r : Rg) (v i j : Nat) : (s.setRegN r v i j).stage = s.stage := rfl
@[simp] theorem setRegN_data (s : State) (r : Rg) (v i j : Nat) : (s.setRegN r v i j).data = s.data := rfl
@[simp] theorem setRegN_inst (s : State) (r : Rg) (v i j : Nat) : (s.setRegN r v i j).inst = s.inst := rfl
@[simp] theorem setRegN_sol (s : State) (r : Rg) (v i j : Nat) : (s.setRegN r v i j).sol = s.sol := rfl
@[simp] theorem setRegN_hub (s : State) (r : Rg) (v i j : Nat) : (s.setRegN r v i j).hub = s.hub := rfl
@[simp] theorem setRegN_lpddr (s : State) (r : Rg) (v i j : Nat) : (s.setRegN r v i j).lpddr = s.lpddr := rfl
@[simp] theorem setRegN_nor (s : State) (r : Rg) (v i j : Nat) : (s.setRegN r v i j).nor = s.nor := rfl
@[simp] theorem setRegN_host (s : State) (r : Rg) (v i j : Nat) : (s.setRegN r v i j).host = s.host := rfl
@[simp] theorem setRegN_free (s : State) (r : Rg) (v i j : Nat) : (s.setRegN r v i j).free = s.free := rfl
@[simp] theorem setRegN_rnd (s : State) (r : Rg) (v i j : Nat) : (s.setRegN r v i j).rnd = s.rnd := rfl
@[simp] theorem setRegN_hif (s : State) (r : Rg) (v i j : Nat) : (s.setRegN r v i j).hif = s.hif := rfl
@[simp] theorem setRegN_rings (s : State) (r : Rg) (v i j : Nat) : (s.setRegN r v i j).rings = s.rings := rfl
@[simp] theorem setRegN_sring (s : State) (r : Rg) (v i j : Nat) : (s.setRegN r v i j).sring = s.sring := rfl
@[simp] theorem setRegN_sec (s : State) (r : Rg) (v i j : Nat) : (s.setRegN r v i j).sec = s.sec := rfl
@[simp] theorem setRegN_jrn (s : State) (r : Rg) (v i j : Nat) : (s.setRegN r v i j).jrn = s.jrn := rfl
@[simp] theorem setRegN_pat (s : State) (r : Rg) (v i j : Nat) : (s.setRegN r v i j).pat = s.pat := rfl
@[simp] theorem setRegN_mesh (s : State) (r : Rg) (v i j : Nat) : (s.setRegN r v i j).mesh = s.mesh := rfl
@[simp] theorem setRegN_cores (s : State) (r : Rg) (v i j : Nat) : (s.setRegN r v i j).cores = s.cores := rfl
@[simp] theorem setRegN_acc (s : State) (r : Rg) (v i j : Nat) : (s.setRegN r v i j).acc = s.acc := rfl
@[simp] theorem setRegN_engines (s : State) (r : Rg) (v i j : Nat) : (s.setRegN r v i j).engines = s.engines := rfl
@[simp] theorem setRegN_hlth (s : State) (r : Rg) (v i j : Nat) : (s.setRegN r v i j).hlth = s.hlth := rfl
@[simp] theorem setRegN_boot (s : State) (r : Rg) (v i j : Nat) : (s.setRegN r v i j).boot = s.boot := rfl
@[simp] theorem setRegN_chk (s : State) (r : Rg) (v i j : Nat) : (s.setRegN r v i j).chk = s.chk := rfl
@[simp] theorem setRegN_wfm (s : State) (r : Rg) (v i j : Nat) : (s.setRegN r v i j).wfm = s.wfm := rfl
@[simp] theorem setRegN_fbr (s : State) (r : Rg) (v i j : Nat) : (s.setRegN r v i j).fbr = s.fbr := rfl
@[simp] theorem setRegN_ports (s : State) (r : Rg) (v i j : Nat) : (s.setRegN r v i j).ports = s.ports := rfl
@[simp] theorem setRegN_resp (s : State) (r : Rg) (v i j : Nat) : (s.setRegN r v i j).resp = s.resp := rfl
@[simp] theorem setRegN_cam (s : State) (r : Rg) (v i j : Nat) : (s.setRegN r v i j).cam = s.cam := rfl
@[simp] theorem setRegN_tap (s : State) (r : Rg) (v i j : Nat) : (s.setRegN r v i j).tap = s.tap := rfl

@[simp] theorem count_pending (s : State) (f : Fld) (n i j : Nat) : (s.count f n i j).pending = s.pending := rfl
@[simp] theorem count_latch (s : State) (f : Fld) (n i j : Nat) : (s.count f n i j).latch = s.latch := rfl
@[simp] theorem count_stage (s : State) (f : Fld) (n i j : Nat) : (s.count f n i j).stage = s.stage := rfl
@[simp] theorem count_data (s : State) (f : Fld) (n i j : Nat) : (s.count f n i j).data = s.data := rfl
@[simp] theorem count_inst (s : State) (f : Fld) (n i j : Nat) : (s.count f n i j).inst = s.inst := rfl
@[simp] theorem count_sol (s : State) (f : Fld) (n i j : Nat) : (s.count f n i j).sol = s.sol := rfl
@[simp] theorem count_hub (s : State) (f : Fld) (n i j : Nat) : (s.count f n i j).hub = s.hub := rfl
@[simp] theorem count_lpddr (s : State) (f : Fld) (n i j : Nat) : (s.count f n i j).lpddr = s.lpddr := rfl
@[simp] theorem count_nor (s : State) (f : Fld) (n i j : Nat) : (s.count f n i j).nor = s.nor := rfl
@[simp] theorem count_host (s : State) (f : Fld) (n i j : Nat) : (s.count f n i j).host = s.host := rfl
@[simp] theorem count_free (s : State) (f : Fld) (n i j : Nat) : (s.count f n i j).free = s.free := rfl
@[simp] theorem count_rnd (s : State) (f : Fld) (n i j : Nat) : (s.count f n i j).rnd = s.rnd := rfl
@[simp] theorem count_hif (s : State) (f : Fld) (n i j : Nat) : (s.count f n i j).hif = s.hif := rfl
@[simp] theorem count_rings (s : State) (f : Fld) (n i j : Nat) : (s.count f n i j).rings = s.rings := rfl
@[simp] theorem count_sring (s : State) (f : Fld) (n i j : Nat) : (s.count f n i j).sring = s.sring := rfl
@[simp] theorem count_sec (s : State) (f : Fld) (n i j : Nat) : (s.count f n i j).sec = s.sec := rfl
@[simp] theorem count_jrn (s : State) (f : Fld) (n i j : Nat) : (s.count f n i j).jrn = s.jrn := rfl
@[simp] theorem count_pat (s : State) (f : Fld) (n i j : Nat) : (s.count f n i j).pat = s.pat := rfl
@[simp] theorem count_mesh (s : State) (f : Fld) (n i j : Nat) : (s.count f n i j).mesh = s.mesh := rfl
@[simp] theorem count_cores (s : State) (f : Fld) (n i j : Nat) : (s.count f n i j).cores = s.cores := rfl
@[simp] theorem count_acc (s : State) (f : Fld) (n i j : Nat) : (s.count f n i j).acc = s.acc := rfl
@[simp] theorem count_engines (s : State) (f : Fld) (n i j : Nat) : (s.count f n i j).engines = s.engines := rfl
@[simp] theorem count_hlth (s : State) (f : Fld) (n i j : Nat) : (s.count f n i j).hlth = s.hlth := rfl
@[simp] theorem count_boot (s : State) (f : Fld) (n i j : Nat) : (s.count f n i j).boot = s.boot := rfl
@[simp] theorem count_chk (s : State) (f : Fld) (n i j : Nat) : (s.count f n i j).chk = s.chk := rfl
@[simp] theorem count_wfm (s : State) (f : Fld) (n i j : Nat) : (s.count f n i j).wfm = s.wfm := rfl
@[simp] theorem count_fbr (s : State) (f : Fld) (n i j : Nat) : (s.count f n i j).fbr = s.fbr := rfl
@[simp] theorem count_ports (s : State) (f : Fld) (n i j : Nat) : (s.count f n i j).ports = s.ports := rfl
@[simp] theorem count_resp (s : State) (f : Fld) (n i j : Nat) : (s.count f n i j).resp = s.resp := rfl
@[simp] theorem count_cam (s : State) (f : Fld) (n i j : Nat) : (s.count f n i j).cam = s.cam := rfl
@[simp] theorem count_tap (s : State) (f : Fld) (n i j : Nat) : (s.count f n i j).tap = s.tap := rfl

@[simp] theorem countWrap_pending (s : State) (f : Fld) (n i j : Nat) : (s.countWrap f n i j).pending = s.pending := rfl
@[simp] theorem countWrap_latch (s : State) (f : Fld) (n i j : Nat) : (s.countWrap f n i j).latch = s.latch := rfl
@[simp] theorem countWrap_stage (s : State) (f : Fld) (n i j : Nat) : (s.countWrap f n i j).stage = s.stage := rfl
@[simp] theorem countWrap_data (s : State) (f : Fld) (n i j : Nat) : (s.countWrap f n i j).data = s.data := rfl
@[simp] theorem countWrap_inst (s : State) (f : Fld) (n i j : Nat) : (s.countWrap f n i j).inst = s.inst := rfl
@[simp] theorem countWrap_sol (s : State) (f : Fld) (n i j : Nat) : (s.countWrap f n i j).sol = s.sol := rfl
@[simp] theorem countWrap_hub (s : State) (f : Fld) (n i j : Nat) : (s.countWrap f n i j).hub = s.hub := rfl
@[simp] theorem countWrap_lpddr (s : State) (f : Fld) (n i j : Nat) : (s.countWrap f n i j).lpddr = s.lpddr := rfl
@[simp] theorem countWrap_nor (s : State) (f : Fld) (n i j : Nat) : (s.countWrap f n i j).nor = s.nor := rfl
@[simp] theorem countWrap_host (s : State) (f : Fld) (n i j : Nat) : (s.countWrap f n i j).host = s.host := rfl
@[simp] theorem countWrap_free (s : State) (f : Fld) (n i j : Nat) : (s.countWrap f n i j).free = s.free := rfl
@[simp] theorem countWrap_rnd (s : State) (f : Fld) (n i j : Nat) : (s.countWrap f n i j).rnd = s.rnd := rfl
@[simp] theorem countWrap_hif (s : State) (f : Fld) (n i j : Nat) : (s.countWrap f n i j).hif = s.hif := rfl
@[simp] theorem countWrap_rings (s : State) (f : Fld) (n i j : Nat) : (s.countWrap f n i j).rings = s.rings := rfl
@[simp] theorem countWrap_sring (s : State) (f : Fld) (n i j : Nat) : (s.countWrap f n i j).sring = s.sring := rfl
@[simp] theorem countWrap_sec (s : State) (f : Fld) (n i j : Nat) : (s.countWrap f n i j).sec = s.sec := rfl
@[simp] theorem countWrap_jrn (s : State) (f : Fld) (n i j : Nat) : (s.countWrap f n i j).jrn = s.jrn := rfl
@[simp] theorem countWrap_pat (s : State) (f : Fld) (n i j : Nat) : (s.countWrap f n i j).pat = s.pat := rfl
@[simp] theorem countWrap_mesh (s : State) (f : Fld) (n i j : Nat) : (s.countWrap f n i j).mesh = s.mesh := rfl
@[simp] theorem countWrap_cores (s : State) (f : Fld) (n i j : Nat) : (s.countWrap f n i j).cores = s.cores := rfl
@[simp] theorem countWrap_acc (s : State) (f : Fld) (n i j : Nat) : (s.countWrap f n i j).acc = s.acc := rfl
@[simp] theorem countWrap_engines (s : State) (f : Fld) (n i j : Nat) : (s.countWrap f n i j).engines = s.engines := rfl
@[simp] theorem countWrap_hlth (s : State) (f : Fld) (n i j : Nat) : (s.countWrap f n i j).hlth = s.hlth := rfl
@[simp] theorem countWrap_boot (s : State) (f : Fld) (n i j : Nat) : (s.countWrap f n i j).boot = s.boot := rfl
@[simp] theorem countWrap_chk (s : State) (f : Fld) (n i j : Nat) : (s.countWrap f n i j).chk = s.chk := rfl
@[simp] theorem countWrap_wfm (s : State) (f : Fld) (n i j : Nat) : (s.countWrap f n i j).wfm = s.wfm := rfl
@[simp] theorem countWrap_fbr (s : State) (f : Fld) (n i j : Nat) : (s.countWrap f n i j).fbr = s.fbr := rfl
@[simp] theorem countWrap_ports (s : State) (f : Fld) (n i j : Nat) : (s.countWrap f n i j).ports = s.ports := rfl
@[simp] theorem countWrap_resp (s : State) (f : Fld) (n i j : Nat) : (s.countWrap f n i j).resp = s.resp := rfl
@[simp] theorem countWrap_cam (s : State) (f : Fld) (n i j : Nat) : (s.countWrap f n i j).cam = s.cam := rfl
@[simp] theorem countWrap_tap (s : State) (f : Fld) (n i j : Nat) : (s.countWrap f n i j).tap = s.tap := rfl

@[simp] theorem draw_pending (s : State) : (s.draw).pending = s.pending := rfl
@[simp] theorem draw_regs (s : State) : (s.draw).regs = s.regs := rfl
@[simp] theorem draw_latch (s : State) : (s.draw).latch = s.latch := rfl
@[simp] theorem draw_stage (s : State) : (s.draw).stage = s.stage := rfl
@[simp] theorem draw_data (s : State) : (s.draw).data = s.data := rfl
@[simp] theorem draw_inst (s : State) : (s.draw).inst = s.inst := rfl
@[simp] theorem draw_sol (s : State) : (s.draw).sol = s.sol := rfl
@[simp] theorem draw_hub (s : State) : (s.draw).hub = s.hub := rfl
@[simp] theorem draw_lpddr (s : State) : (s.draw).lpddr = s.lpddr := rfl
@[simp] theorem draw_nor (s : State) : (s.draw).nor = s.nor := rfl
@[simp] theorem draw_host (s : State) : (s.draw).host = s.host := rfl
@[simp] theorem draw_free (s : State) : (s.draw).free = s.free + 1 := rfl
@[simp] theorem draw_rnd (s : State) : (s.draw).rnd = s.rnd := rfl
@[simp] theorem draw_hif (s : State) : (s.draw).hif = s.hif := rfl
@[simp] theorem draw_rings (s : State) : (s.draw).rings = s.rings := rfl
@[simp] theorem draw_sring (s : State) : (s.draw).sring = s.sring := rfl
@[simp] theorem draw_sec (s : State) : (s.draw).sec = s.sec := rfl
@[simp] theorem draw_jrn (s : State) : (s.draw).jrn = s.jrn := rfl
@[simp] theorem draw_pat (s : State) : (s.draw).pat = s.pat := rfl
@[simp] theorem draw_mesh (s : State) : (s.draw).mesh = s.mesh := rfl
@[simp] theorem draw_cores (s : State) : (s.draw).cores = s.cores := rfl
@[simp] theorem draw_acc (s : State) : (s.draw).acc = s.acc := rfl
@[simp] theorem draw_engines (s : State) : (s.draw).engines = s.engines := rfl
@[simp] theorem draw_hlth (s : State) : (s.draw).hlth = s.hlth := rfl
@[simp] theorem draw_boot (s : State) : (s.draw).boot = s.boot := rfl
@[simp] theorem draw_chk (s : State) : (s.draw).chk = s.chk := rfl
@[simp] theorem draw_wfm (s : State) : (s.draw).wfm = s.wfm := rfl
@[simp] theorem draw_fbr (s : State) : (s.draw).fbr = s.fbr := rfl
@[simp] theorem draw_ports (s : State) : (s.draw).ports = s.ports := rfl
@[simp] theorem draw_resp (s : State) : (s.draw).resp = s.resp := rfl
@[simp] theorem draw_cam (s : State) : (s.draw).cam = s.cam := rfl
@[simp] theorem draw_tap (s : State) : (s.draw).tap = s.tap := rfl

@[simp] theorem modCore_pending (s : State) (n : Nat) (f : Core → Core) : (s.modCore n f).pending = s.pending := rfl
@[simp] theorem modCore_regs (s : State) (n : Nat) (f : Core → Core) : (s.modCore n f).regs = s.regs := rfl
@[simp] theorem modCore_latch (s : State) (n : Nat) (f : Core → Core) : (s.modCore n f).latch = s.latch := rfl
@[simp] theorem modCore_stage (s : State) (n : Nat) (f : Core → Core) : (s.modCore n f).stage = s.stage := rfl
@[simp] theorem modCore_data (s : State) (n : Nat) (f : Core → Core) : (s.modCore n f).data = s.data := rfl
@[simp] theorem modCore_inst (s : State) (n : Nat) (f : Core → Core) : (s.modCore n f).inst = s.inst := rfl
@[simp] theorem modCore_sol (s : State) (n : Nat) (f : Core → Core) : (s.modCore n f).sol = s.sol := rfl
@[simp] theorem modCore_hub (s : State) (n : Nat) (f : Core → Core) : (s.modCore n f).hub = s.hub := rfl
@[simp] theorem modCore_lpddr (s : State) (n : Nat) (f : Core → Core) : (s.modCore n f).lpddr = s.lpddr := rfl
@[simp] theorem modCore_nor (s : State) (n : Nat) (f : Core → Core) : (s.modCore n f).nor = s.nor := rfl
@[simp] theorem modCore_host (s : State) (n : Nat) (f : Core → Core) : (s.modCore n f).host = s.host := rfl
@[simp] theorem modCore_free (s : State) (n : Nat) (f : Core → Core) : (s.modCore n f).free = s.free := rfl
@[simp] theorem modCore_rnd (s : State) (n : Nat) (f : Core → Core) : (s.modCore n f).rnd = s.rnd := rfl
@[simp] theorem modCore_hif (s : State) (n : Nat) (f : Core → Core) : (s.modCore n f).hif = s.hif := rfl
@[simp] theorem modCore_rings (s : State) (n : Nat) (f : Core → Core) : (s.modCore n f).rings = s.rings := rfl
@[simp] theorem modCore_sring (s : State) (n : Nat) (f : Core → Core) : (s.modCore n f).sring = s.sring := rfl
@[simp] theorem modCore_sec (s : State) (n : Nat) (f : Core → Core) : (s.modCore n f).sec = s.sec := rfl
@[simp] theorem modCore_jrn (s : State) (n : Nat) (f : Core → Core) : (s.modCore n f).jrn = s.jrn := rfl
@[simp] theorem modCore_pat (s : State) (n : Nat) (f : Core → Core) : (s.modCore n f).pat = s.pat := rfl
@[simp] theorem modCore_mesh (s : State) (n : Nat) (f : Core → Core) : (s.modCore n f).mesh = s.mesh := rfl
@[simp] theorem modCore_cores (s : State) (n : Nat) (f : Core → Core) : (s.modCore n f).cores = s.cores.modify n f := rfl
@[simp] theorem modCore_acc (s : State) (n : Nat) (f : Core → Core) : (s.modCore n f).acc = s.acc := rfl
@[simp] theorem modCore_engines (s : State) (n : Nat) (f : Core → Core) : (s.modCore n f).engines = s.engines := rfl
@[simp] theorem modCore_hlth (s : State) (n : Nat) (f : Core → Core) : (s.modCore n f).hlth = s.hlth := rfl
@[simp] theorem modCore_boot (s : State) (n : Nat) (f : Core → Core) : (s.modCore n f).boot = s.boot := rfl
@[simp] theorem modCore_chk (s : State) (n : Nat) (f : Core → Core) : (s.modCore n f).chk = s.chk := rfl
@[simp] theorem modCore_wfm (s : State) (n : Nat) (f : Core → Core) : (s.modCore n f).wfm = s.wfm := rfl
@[simp] theorem modCore_fbr (s : State) (n : Nat) (f : Core → Core) : (s.modCore n f).fbr = s.fbr := rfl
@[simp] theorem modCore_ports (s : State) (n : Nat) (f : Core → Core) : (s.modCore n f).ports = s.ports := rfl
@[simp] theorem modCore_resp (s : State) (n : Nat) (f : Core → Core) : (s.modCore n f).resp = s.resp := rfl
@[simp] theorem modCore_cam (s : State) (n : Nat) (f : Core → Core) : (s.modCore n f).cam = s.cam := rfl
@[simp] theorem modCore_tap (s : State) (n : Nat) (f : Core → Core) : (s.modCore n f).tap = s.tap := rfl

@[simp] theorem accSet_pending (s : State) (n i v : Nat) : (s.accSet n i v).pending = s.pending := rfl
@[simp] theorem accSet_regs (s : State) (n i v : Nat) : (s.accSet n i v).regs = s.regs := rfl
@[simp] theorem accSet_latch (s : State) (n i v : Nat) : (s.accSet n i v).latch = s.latch := rfl
@[simp] theorem accSet_stage (s : State) (n i v : Nat) : (s.accSet n i v).stage = s.stage := rfl
@[simp] theorem accSet_data (s : State) (n i v : Nat) : (s.accSet n i v).data = s.data := rfl
@[simp] theorem accSet_inst (s : State) (n i v : Nat) : (s.accSet n i v).inst = s.inst := rfl
@[simp] theorem accSet_sol (s : State) (n i v : Nat) : (s.accSet n i v).sol = s.sol := rfl
@[simp] theorem accSet_hub (s : State) (n i v : Nat) : (s.accSet n i v).hub = s.hub := rfl
@[simp] theorem accSet_lpddr (s : State) (n i v : Nat) : (s.accSet n i v).lpddr = s.lpddr := rfl
@[simp] theorem accSet_nor (s : State) (n i v : Nat) : (s.accSet n i v).nor = s.nor := rfl
@[simp] theorem accSet_host (s : State) (n i v : Nat) : (s.accSet n i v).host = s.host := rfl
@[simp] theorem accSet_free (s : State) (n i v : Nat) : (s.accSet n i v).free = s.free := rfl
@[simp] theorem accSet_rnd (s : State) (n i v : Nat) : (s.accSet n i v).rnd = s.rnd := rfl
@[simp] theorem accSet_hif (s : State) (n i v : Nat) : (s.accSet n i v).hif = s.hif := rfl
@[simp] theorem accSet_rings (s : State) (n i v : Nat) : (s.accSet n i v).rings = s.rings := rfl
@[simp] theorem accSet_sring (s : State) (n i v : Nat) : (s.accSet n i v).sring = s.sring := rfl
@[simp] theorem accSet_sec (s : State) (n i v : Nat) : (s.accSet n i v).sec = s.sec := rfl
@[simp] theorem accSet_jrn (s : State) (n i v : Nat) : (s.accSet n i v).jrn = s.jrn := rfl
@[simp] theorem accSet_pat (s : State) (n i v : Nat) : (s.accSet n i v).pat = s.pat := rfl
@[simp] theorem accSet_mesh (s : State) (n i v : Nat) : (s.accSet n i v).mesh = s.mesh := rfl
@[simp] theorem accSet_cores (s : State) (n i v : Nat) : (s.accSet n i v).cores = s.cores := rfl
@[simp] theorem accSet_engines (s : State) (n i v : Nat) : (s.accSet n i v).engines = s.engines := rfl
@[simp] theorem accSet_hlth (s : State) (n i v : Nat) : (s.accSet n i v).hlth = s.hlth := rfl
@[simp] theorem accSet_boot (s : State) (n i v : Nat) : (s.accSet n i v).boot = s.boot := rfl
@[simp] theorem accSet_chk (s : State) (n i v : Nat) : (s.accSet n i v).chk = s.chk := rfl
@[simp] theorem accSet_wfm (s : State) (n i v : Nat) : (s.accSet n i v).wfm = s.wfm := rfl
@[simp] theorem accSet_fbr (s : State) (n i v : Nat) : (s.accSet n i v).fbr = s.fbr := rfl
@[simp] theorem accSet_ports (s : State) (n i v : Nat) : (s.accSet n i v).ports = s.ports := rfl
@[simp] theorem accSet_resp (s : State) (n i v : Nat) : (s.accSet n i v).resp = s.resp := rfl
@[simp] theorem accSet_cam (s : State) (n i v : Nat) : (s.accSet n i v).cam = s.cam := rfl
@[simp] theorem accSet_tap (s : State) (n i v : Nat) : (s.accSet n i v).tap = s.tap := rfl

@[simp] theorem accClear_pending (s : State) (n : Nat) : (s.accClear n).pending = s.pending := rfl
@[simp] theorem accClear_regs (s : State) (n : Nat) : (s.accClear n).regs = s.regs := rfl
@[simp] theorem accClear_latch (s : State) (n : Nat) : (s.accClear n).latch = s.latch := rfl
@[simp] theorem accClear_stage (s : State) (n : Nat) : (s.accClear n).stage = s.stage := rfl
@[simp] theorem accClear_data (s : State) (n : Nat) : (s.accClear n).data = s.data := rfl
@[simp] theorem accClear_inst (s : State) (n : Nat) : (s.accClear n).inst = s.inst := rfl
@[simp] theorem accClear_sol (s : State) (n : Nat) : (s.accClear n).sol = s.sol := rfl
@[simp] theorem accClear_hub (s : State) (n : Nat) : (s.accClear n).hub = s.hub := rfl
@[simp] theorem accClear_lpddr (s : State) (n : Nat) : (s.accClear n).lpddr = s.lpddr := rfl
@[simp] theorem accClear_nor (s : State) (n : Nat) : (s.accClear n).nor = s.nor := rfl
@[simp] theorem accClear_host (s : State) (n : Nat) : (s.accClear n).host = s.host := rfl
@[simp] theorem accClear_free (s : State) (n : Nat) : (s.accClear n).free = s.free := rfl
@[simp] theorem accClear_rnd (s : State) (n : Nat) : (s.accClear n).rnd = s.rnd := rfl
@[simp] theorem accClear_hif (s : State) (n : Nat) : (s.accClear n).hif = s.hif := rfl
@[simp] theorem accClear_rings (s : State) (n : Nat) : (s.accClear n).rings = s.rings := rfl
@[simp] theorem accClear_sring (s : State) (n : Nat) : (s.accClear n).sring = s.sring := rfl
@[simp] theorem accClear_sec (s : State) (n : Nat) : (s.accClear n).sec = s.sec := rfl
@[simp] theorem accClear_jrn (s : State) (n : Nat) : (s.accClear n).jrn = s.jrn := rfl
@[simp] theorem accClear_pat (s : State) (n : Nat) : (s.accClear n).pat = s.pat := rfl
@[simp] theorem accClear_mesh (s : State) (n : Nat) : (s.accClear n).mesh = s.mesh := rfl
@[simp] theorem accClear_cores (s : State) (n : Nat) : (s.accClear n).cores = s.cores := rfl
@[simp] theorem accClear_engines (s : State) (n : Nat) : (s.accClear n).engines = s.engines := rfl
@[simp] theorem accClear_hlth (s : State) (n : Nat) : (s.accClear n).hlth = s.hlth := rfl
@[simp] theorem accClear_boot (s : State) (n : Nat) : (s.accClear n).boot = s.boot := rfl
@[simp] theorem accClear_chk (s : State) (n : Nat) : (s.accClear n).chk = s.chk := rfl
@[simp] theorem accClear_wfm (s : State) (n : Nat) : (s.accClear n).wfm = s.wfm := rfl
@[simp] theorem accClear_fbr (s : State) (n : Nat) : (s.accClear n).fbr = s.fbr := rfl
@[simp] theorem accClear_ports (s : State) (n : Nat) : (s.accClear n).ports = s.ports := rfl
@[simp] theorem accClear_resp (s : State) (n : Nat) : (s.accClear n).resp = s.resp := rfl
@[simp] theorem accClear_cam (s : State) (n : Nat) : (s.accClear n).cam = s.cam := rfl
@[simp] theorem accClear_tap (s : State) (n : Nat) : (s.accClear n).tap = s.tap := rfl

@[simp] theorem putSol_pending (s : State) (k a : Nat) (bs : List Nat) : (s.putSol k a bs).pending = s.pending := rfl
@[simp] theorem putSol_regs (s : State) (k a : Nat) (bs : List Nat) : (s.putSol k a bs).regs = s.regs := rfl
@[simp] theorem putSol_latch (s : State) (k a : Nat) (bs : List Nat) : (s.putSol k a bs).latch = s.latch := rfl
@[simp] theorem putSol_stage (s : State) (k a : Nat) (bs : List Nat) : (s.putSol k a bs).stage = s.stage := rfl
@[simp] theorem putSol_data (s : State) (k a : Nat) (bs : List Nat) : (s.putSol k a bs).data = s.data := rfl
@[simp] theorem putSol_inst (s : State) (k a : Nat) (bs : List Nat) : (s.putSol k a bs).inst = s.inst := rfl
@[simp] theorem putSol_sol (s : State) (k a : Nat) (bs : List Nat) : (s.putSol k a bs).sol = memPut dflt0 s.sol (solAt k a) bs := rfl
@[simp] theorem putSol_hub (s : State) (k a : Nat) (bs : List Nat) : (s.putSol k a bs).hub = s.hub := rfl
@[simp] theorem putSol_lpddr (s : State) (k a : Nat) (bs : List Nat) : (s.putSol k a bs).lpddr = s.lpddr := rfl
@[simp] theorem putSol_nor (s : State) (k a : Nat) (bs : List Nat) : (s.putSol k a bs).nor = s.nor := rfl
@[simp] theorem putSol_host (s : State) (k a : Nat) (bs : List Nat) : (s.putSol k a bs).host = s.host := rfl
@[simp] theorem putSol_free (s : State) (k a : Nat) (bs : List Nat) : (s.putSol k a bs).free = s.free := rfl
@[simp] theorem putSol_rnd (s : State) (k a : Nat) (bs : List Nat) : (s.putSol k a bs).rnd = s.rnd := rfl
@[simp] theorem putSol_hif (s : State) (k a : Nat) (bs : List Nat) : (s.putSol k a bs).hif = s.hif := rfl
@[simp] theorem putSol_rings (s : State) (k a : Nat) (bs : List Nat) : (s.putSol k a bs).rings = s.rings := rfl
@[simp] theorem putSol_sring (s : State) (k a : Nat) (bs : List Nat) : (s.putSol k a bs).sring = s.sring := rfl
@[simp] theorem putSol_sec (s : State) (k a : Nat) (bs : List Nat) : (s.putSol k a bs).sec = s.sec := rfl
@[simp] theorem putSol_jrn (s : State) (k a : Nat) (bs : List Nat) : (s.putSol k a bs).jrn = s.jrn := rfl
@[simp] theorem putSol_pat (s : State) (k a : Nat) (bs : List Nat) : (s.putSol k a bs).pat = s.pat := rfl
@[simp] theorem putSol_mesh (s : State) (k a : Nat) (bs : List Nat) : (s.putSol k a bs).mesh = s.mesh := rfl
@[simp] theorem putSol_cores (s : State) (k a : Nat) (bs : List Nat) : (s.putSol k a bs).cores = s.cores := rfl
@[simp] theorem putSol_acc (s : State) (k a : Nat) (bs : List Nat) : (s.putSol k a bs).acc = s.acc := rfl
@[simp] theorem putSol_engines (s : State) (k a : Nat) (bs : List Nat) : (s.putSol k a bs).engines = s.engines := rfl
@[simp] theorem putSol_hlth (s : State) (k a : Nat) (bs : List Nat) : (s.putSol k a bs).hlth = s.hlth := rfl
@[simp] theorem putSol_boot (s : State) (k a : Nat) (bs : List Nat) : (s.putSol k a bs).boot = s.boot := rfl
@[simp] theorem putSol_chk (s : State) (k a : Nat) (bs : List Nat) : (s.putSol k a bs).chk = s.chk := rfl
@[simp] theorem putSol_wfm (s : State) (k a : Nat) (bs : List Nat) : (s.putSol k a bs).wfm = s.wfm := rfl
@[simp] theorem putSol_fbr (s : State) (k a : Nat) (bs : List Nat) : (s.putSol k a bs).fbr = s.fbr := rfl
@[simp] theorem putSol_ports (s : State) (k a : Nat) (bs : List Nat) : (s.putSol k a bs).ports = s.ports := rfl
@[simp] theorem putSol_resp (s : State) (k a : Nat) (bs : List Nat) : (s.putSol k a bs).resp = s.resp := rfl
@[simp] theorem putSol_cam (s : State) (k a : Nat) (bs : List Nat) : (s.putSol k a bs).cam = s.cam := rfl
@[simp] theorem putSol_tap (s : State) (k a : Nat) (bs : List Nat) : (s.putSol k a bs).tap = s.tap := rfl

@[simp] theorem putHost_pending (s : State) (a : Nat) (bs : List Nat) : (s.putHost a bs).pending = s.pending := rfl
@[simp] theorem putHost_regs (s : State) (a : Nat) (bs : List Nat) : (s.putHost a bs).regs = s.regs := rfl
@[simp] theorem putHost_latch (s : State) (a : Nat) (bs : List Nat) : (s.putHost a bs).latch = s.latch := rfl
@[simp] theorem putHost_stage (s : State) (a : Nat) (bs : List Nat) : (s.putHost a bs).stage = s.stage := rfl
@[simp] theorem putHost_data (s : State) (a : Nat) (bs : List Nat) : (s.putHost a bs).data = s.data := rfl
@[simp] theorem putHost_inst (s : State) (a : Nat) (bs : List Nat) : (s.putHost a bs).inst = s.inst := rfl
@[simp] theorem putHost_sol (s : State) (a : Nat) (bs : List Nat) : (s.putHost a bs).sol = s.sol := rfl
@[simp] theorem putHost_hub (s : State) (a : Nat) (bs : List Nat) : (s.putHost a bs).hub = s.hub := rfl
@[simp] theorem putHost_lpddr (s : State) (a : Nat) (bs : List Nat) : (s.putHost a bs).lpddr = s.lpddr := rfl
@[simp] theorem putHost_nor (s : State) (a : Nat) (bs : List Nat) : (s.putHost a bs).nor = s.nor := rfl
@[simp] theorem putHost_host (s : State) (a : Nat) (bs : List Nat) : (s.putHost a bs).host = memPut dflt0 s.host a bs := rfl
@[simp] theorem putHost_free (s : State) (a : Nat) (bs : List Nat) : (s.putHost a bs).free = s.free := rfl
@[simp] theorem putHost_rnd (s : State) (a : Nat) (bs : List Nat) : (s.putHost a bs).rnd = s.rnd := rfl
@[simp] theorem putHost_hif (s : State) (a : Nat) (bs : List Nat) : (s.putHost a bs).hif = s.hif := rfl
@[simp] theorem putHost_rings (s : State) (a : Nat) (bs : List Nat) : (s.putHost a bs).rings = s.rings := rfl
@[simp] theorem putHost_sring (s : State) (a : Nat) (bs : List Nat) : (s.putHost a bs).sring = s.sring := rfl
@[simp] theorem putHost_sec (s : State) (a : Nat) (bs : List Nat) : (s.putHost a bs).sec = s.sec := rfl
@[simp] theorem putHost_jrn (s : State) (a : Nat) (bs : List Nat) : (s.putHost a bs).jrn = s.jrn := rfl
@[simp] theorem putHost_pat (s : State) (a : Nat) (bs : List Nat) : (s.putHost a bs).pat = s.pat := rfl
@[simp] theorem putHost_mesh (s : State) (a : Nat) (bs : List Nat) : (s.putHost a bs).mesh = s.mesh := rfl
@[simp] theorem putHost_cores (s : State) (a : Nat) (bs : List Nat) : (s.putHost a bs).cores = s.cores := rfl
@[simp] theorem putHost_acc (s : State) (a : Nat) (bs : List Nat) : (s.putHost a bs).acc = s.acc := rfl
@[simp] theorem putHost_engines (s : State) (a : Nat) (bs : List Nat) : (s.putHost a bs).engines = s.engines := rfl
@[simp] theorem putHost_hlth (s : State) (a : Nat) (bs : List Nat) : (s.putHost a bs).hlth = s.hlth := rfl
@[simp] theorem putHost_boot (s : State) (a : Nat) (bs : List Nat) : (s.putHost a bs).boot = s.boot := rfl
@[simp] theorem putHost_chk (s : State) (a : Nat) (bs : List Nat) : (s.putHost a bs).chk = s.chk := rfl
@[simp] theorem putHost_wfm (s : State) (a : Nat) (bs : List Nat) : (s.putHost a bs).wfm = s.wfm := rfl
@[simp] theorem putHost_fbr (s : State) (a : Nat) (bs : List Nat) : (s.putHost a bs).fbr = s.fbr := rfl
@[simp] theorem putHost_ports (s : State) (a : Nat) (bs : List Nat) : (s.putHost a bs).ports = s.ports := rfl
@[simp] theorem putHost_resp (s : State) (a : Nat) (bs : List Nat) : (s.putHost a bs).resp = s.resp := rfl
@[simp] theorem putHost_cam (s : State) (a : Nat) (bs : List Nat) : (s.putHost a bs).cam = s.cam := rfl
@[simp] theorem putHost_tap (s : State) (a : Nat) (bs : List Nat) : (s.putHost a bs).tap = s.tap := rfl

@[simp] theorem putLpddr_pending (s : State) (a : Nat) (bs : List Nat) : (s.putLpddr a bs).pending = s.pending := rfl
@[simp] theorem putLpddr_regs (s : State) (a : Nat) (bs : List Nat) : (s.putLpddr a bs).regs = s.regs := rfl
@[simp] theorem putLpddr_latch (s : State) (a : Nat) (bs : List Nat) : (s.putLpddr a bs).latch = s.latch := rfl
@[simp] theorem putLpddr_stage (s : State) (a : Nat) (bs : List Nat) : (s.putLpddr a bs).stage = s.stage := rfl
@[simp] theorem putLpddr_data (s : State) (a : Nat) (bs : List Nat) : (s.putLpddr a bs).data = s.data := rfl
@[simp] theorem putLpddr_inst (s : State) (a : Nat) (bs : List Nat) : (s.putLpddr a bs).inst = s.inst := rfl
@[simp] theorem putLpddr_sol (s : State) (a : Nat) (bs : List Nat) : (s.putLpddr a bs).sol = s.sol := rfl
@[simp] theorem putLpddr_hub (s : State) (a : Nat) (bs : List Nat) : (s.putLpddr a bs).hub = s.hub := rfl
@[simp] theorem putLpddr_lpddr (s : State) (a : Nat) (bs : List Nat) : (s.putLpddr a bs).lpddr = memPut dflt0 s.lpddr a bs := rfl
@[simp] theorem putLpddr_nor (s : State) (a : Nat) (bs : List Nat) : (s.putLpddr a bs).nor = s.nor := rfl
@[simp] theorem putLpddr_host (s : State) (a : Nat) (bs : List Nat) : (s.putLpddr a bs).host = s.host := rfl
@[simp] theorem putLpddr_free (s : State) (a : Nat) (bs : List Nat) : (s.putLpddr a bs).free = s.free := rfl
@[simp] theorem putLpddr_rnd (s : State) (a : Nat) (bs : List Nat) : (s.putLpddr a bs).rnd = s.rnd := rfl
@[simp] theorem putLpddr_hif (s : State) (a : Nat) (bs : List Nat) : (s.putLpddr a bs).hif = s.hif := rfl
@[simp] theorem putLpddr_rings (s : State) (a : Nat) (bs : List Nat) : (s.putLpddr a bs).rings = s.rings := rfl
@[simp] theorem putLpddr_sring (s : State) (a : Nat) (bs : List Nat) : (s.putLpddr a bs).sring = s.sring := rfl
@[simp] theorem putLpddr_sec (s : State) (a : Nat) (bs : List Nat) : (s.putLpddr a bs).sec = s.sec := rfl
@[simp] theorem putLpddr_jrn (s : State) (a : Nat) (bs : List Nat) : (s.putLpddr a bs).jrn = s.jrn := rfl
@[simp] theorem putLpddr_pat (s : State) (a : Nat) (bs : List Nat) : (s.putLpddr a bs).pat = s.pat := rfl
@[simp] theorem putLpddr_mesh (s : State) (a : Nat) (bs : List Nat) : (s.putLpddr a bs).mesh = s.mesh := rfl
@[simp] theorem putLpddr_cores (s : State) (a : Nat) (bs : List Nat) : (s.putLpddr a bs).cores = s.cores := rfl
@[simp] theorem putLpddr_acc (s : State) (a : Nat) (bs : List Nat) : (s.putLpddr a bs).acc = s.acc := rfl
@[simp] theorem putLpddr_engines (s : State) (a : Nat) (bs : List Nat) : (s.putLpddr a bs).engines = s.engines := rfl
@[simp] theorem putLpddr_hlth (s : State) (a : Nat) (bs : List Nat) : (s.putLpddr a bs).hlth = s.hlth := rfl
@[simp] theorem putLpddr_boot (s : State) (a : Nat) (bs : List Nat) : (s.putLpddr a bs).boot = s.boot := rfl
@[simp] theorem putLpddr_chk (s : State) (a : Nat) (bs : List Nat) : (s.putLpddr a bs).chk = s.chk := rfl
@[simp] theorem putLpddr_wfm (s : State) (a : Nat) (bs : List Nat) : (s.putLpddr a bs).wfm = s.wfm := rfl
@[simp] theorem putLpddr_fbr (s : State) (a : Nat) (bs : List Nat) : (s.putLpddr a bs).fbr = s.fbr := rfl
@[simp] theorem putLpddr_ports (s : State) (a : Nat) (bs : List Nat) : (s.putLpddr a bs).ports = s.ports := rfl
@[simp] theorem putLpddr_resp (s : State) (a : Nat) (bs : List Nat) : (s.putLpddr a bs).resp = s.resp := rfl
@[simp] theorem putLpddr_cam (s : State) (a : Nat) (bs : List Nat) : (s.putLpddr a bs).cam = s.cam := rfl
@[simp] theorem putLpddr_tap (s : State) (a : Nat) (bs : List Nat) : (s.putLpddr a bs).tap = s.tap := rfl

@[simp] theorem setRing_pending (s : State) (k : Nat) (r : Ring) : (s.setRing k r).pending = s.pending := rfl
@[simp] theorem setRing_regs (s : State) (k : Nat) (r : Ring) : (s.setRing k r).regs = s.regs := rfl
@[simp] theorem setRing_latch (s : State) (k : Nat) (r : Ring) : (s.setRing k r).latch = s.latch := rfl
@[simp] theorem setRing_stage (s : State) (k : Nat) (r : Ring) : (s.setRing k r).stage = s.stage := rfl
@[simp] theorem setRing_data (s : State) (k : Nat) (r : Ring) : (s.setRing k r).data = s.data := rfl
@[simp] theorem setRing_inst (s : State) (k : Nat) (r : Ring) : (s.setRing k r).inst = s.inst := rfl
@[simp] theorem setRing_sol (s : State) (k : Nat) (r : Ring) : (s.setRing k r).sol = s.sol := rfl
@[simp] theorem setRing_hub (s : State) (k : Nat) (r : Ring) : (s.setRing k r).hub = s.hub := rfl
@[simp] theorem setRing_lpddr (s : State) (k : Nat) (r : Ring) : (s.setRing k r).lpddr = s.lpddr := rfl
@[simp] theorem setRing_nor (s : State) (k : Nat) (r : Ring) : (s.setRing k r).nor = s.nor := rfl
@[simp] theorem setRing_host (s : State) (k : Nat) (r : Ring) : (s.setRing k r).host = s.host := rfl
@[simp] theorem setRing_free (s : State) (k : Nat) (r : Ring) : (s.setRing k r).free = s.free := rfl
@[simp] theorem setRing_rnd (s : State) (k : Nat) (r : Ring) : (s.setRing k r).rnd = s.rnd := rfl
@[simp] theorem setRing_hif (s : State) (k : Nat) (r : Ring) : (s.setRing k r).hif = s.hif := rfl
@[simp] theorem setRing_rings (s : State) (k : Nat) (r : Ring) : (s.setRing k r).rings = s.rings.set k r := rfl
@[simp] theorem setRing_sring (s : State) (k : Nat) (r : Ring) : (s.setRing k r).sring = s.sring := rfl
@[simp] theorem setRing_sec (s : State) (k : Nat) (r : Ring) : (s.setRing k r).sec = s.sec := rfl
@[simp] theorem setRing_jrn (s : State) (k : Nat) (r : Ring) : (s.setRing k r).jrn = s.jrn := rfl
@[simp] theorem setRing_pat (s : State) (k : Nat) (r : Ring) : (s.setRing k r).pat = s.pat := rfl
@[simp] theorem setRing_mesh (s : State) (k : Nat) (r : Ring) : (s.setRing k r).mesh = s.mesh := rfl
@[simp] theorem setRing_cores (s : State) (k : Nat) (r : Ring) : (s.setRing k r).cores = s.cores := rfl
@[simp] theorem setRing_acc (s : State) (k : Nat) (r : Ring) : (s.setRing k r).acc = s.acc := rfl
@[simp] theorem setRing_engines (s : State) (k : Nat) (r : Ring) : (s.setRing k r).engines = s.engines := rfl
@[simp] theorem setRing_hlth (s : State) (k : Nat) (r : Ring) : (s.setRing k r).hlth = s.hlth := rfl
@[simp] theorem setRing_boot (s : State) (k : Nat) (r : Ring) : (s.setRing k r).boot = s.boot := rfl
@[simp] theorem setRing_chk (s : State) (k : Nat) (r : Ring) : (s.setRing k r).chk = s.chk := rfl
@[simp] theorem setRing_wfm (s : State) (k : Nat) (r : Ring) : (s.setRing k r).wfm = s.wfm := rfl
@[simp] theorem setRing_fbr (s : State) (k : Nat) (r : Ring) : (s.setRing k r).fbr = s.fbr := rfl
@[simp] theorem setRing_ports (s : State) (k : Nat) (r : Ring) : (s.setRing k r).ports = s.ports := rfl
@[simp] theorem setRing_resp (s : State) (k : Nat) (r : Ring) : (s.setRing k r).resp = s.resp := rfl
@[simp] theorem setRing_cam (s : State) (k : Nat) (r : Ring) : (s.setRing k r).cam = s.cam := rfl
@[simp] theorem setRing_tap (s : State) (k : Nat) (r : Ring) : (s.setRing k r).tap = s.tap := rfl

@[simp] theorem respond_pending (s : State) (rq : Requester) (st : Nat) (data : List Nat) : (s.respond rq st data).pending = s.pending := rfl
@[simp] theorem respond_regs (s : State) (rq : Requester) (st : Nat) (data : List Nat) : (s.respond rq st data).regs = s.regs := rfl
@[simp] theorem respond_latch (s : State) (rq : Requester) (st : Nat) (data : List Nat) : (s.respond rq st data).latch = s.latch := rfl
@[simp] theorem respond_stage (s : State) (rq : Requester) (st : Nat) (data : List Nat) : (s.respond rq st data).stage = s.stage := rfl
@[simp] theorem respond_data (s : State) (rq : Requester) (st : Nat) (data : List Nat) : (s.respond rq st data).data = s.data := rfl
@[simp] theorem respond_inst (s : State) (rq : Requester) (st : Nat) (data : List Nat) : (s.respond rq st data).inst = s.inst := rfl
@[simp] theorem respond_sol (s : State) (rq : Requester) (st : Nat) (data : List Nat) : (s.respond rq st data).sol = s.sol := rfl
@[simp] theorem respond_hub (s : State) (rq : Requester) (st : Nat) (data : List Nat) : (s.respond rq st data).hub = s.hub := rfl
@[simp] theorem respond_lpddr (s : State) (rq : Requester) (st : Nat) (data : List Nat) : (s.respond rq st data).lpddr = s.lpddr := rfl
@[simp] theorem respond_nor (s : State) (rq : Requester) (st : Nat) (data : List Nat) : (s.respond rq st data).nor = s.nor := rfl
@[simp] theorem respond_host (s : State) (rq : Requester) (st : Nat) (data : List Nat) : (s.respond rq st data).host = s.host := rfl
@[simp] theorem respond_free (s : State) (rq : Requester) (st : Nat) (data : List Nat) : (s.respond rq st data).free = s.free := rfl
@[simp] theorem respond_rnd (s : State) (rq : Requester) (st : Nat) (data : List Nat) : (s.respond rq st data).rnd = s.rnd := rfl
@[simp] theorem respond_hif (s : State) (rq : Requester) (st : Nat) (data : List Nat) : (s.respond rq st data).hif = s.hif := rfl
@[simp] theorem respond_rings (s : State) (rq : Requester) (st : Nat) (data : List Nat) : (s.respond rq st data).rings = s.rings := rfl
@[simp] theorem respond_sring (s : State) (rq : Requester) (st : Nat) (data : List Nat) : (s.respond rq st data).sring = s.sring := rfl
@[simp] theorem respond_sec (s : State) (rq : Requester) (st : Nat) (data : List Nat) : (s.respond rq st data).sec = s.sec := rfl
@[simp] theorem respond_jrn (s : State) (rq : Requester) (st : Nat) (data : List Nat) : (s.respond rq st data).jrn = s.jrn := rfl
@[simp] theorem respond_pat (s : State) (rq : Requester) (st : Nat) (data : List Nat) : (s.respond rq st data).pat = s.pat := rfl
@[simp] theorem respond_mesh (s : State) (rq : Requester) (st : Nat) (data : List Nat) : (s.respond rq st data).mesh = s.mesh := rfl
@[simp] theorem respond_cores (s : State) (rq : Requester) (st : Nat) (data : List Nat) : (s.respond rq st data).cores = s.cores := rfl
@[simp] theorem respond_acc (s : State) (rq : Requester) (st : Nat) (data : List Nat) : (s.respond rq st data).acc = s.acc := rfl
@[simp] theorem respond_engines (s : State) (rq : Requester) (st : Nat) (data : List Nat) : (s.respond rq st data).engines = s.engines := rfl
@[simp] theorem respond_hlth (s : State) (rq : Requester) (st : Nat) (data : List Nat) : (s.respond rq st data).hlth = s.hlth := rfl
@[simp] theorem respond_boot (s : State) (rq : Requester) (st : Nat) (data : List Nat) : (s.respond rq st data).boot = s.boot := rfl
@[simp] theorem respond_chk (s : State) (rq : Requester) (st : Nat) (data : List Nat) : (s.respond rq st data).chk = s.chk := rfl
@[simp] theorem respond_wfm (s : State) (rq : Requester) (st : Nat) (data : List Nat) : (s.respond rq st data).wfm = s.wfm := rfl
@[simp] theorem respond_fbr (s : State) (rq : Requester) (st : Nat) (data : List Nat) : (s.respond rq st data).fbr = s.fbr := rfl
@[simp] theorem respond_ports (s : State) (rq : Requester) (st : Nat) (data : List Nat) : (s.respond rq st data).ports = s.ports := rfl
@[simp] theorem respond_resp (s : State) (rq : Requester) (st : Nat) (data : List Nat) : (s.respond rq st data).resp = { rq := rq, st := st, data := data } := rfl
@[simp] theorem respond_cam (s : State) (rq : Requester) (st : Nat) (data : List Nat) : (s.respond rq st data).cam = s.cam := rfl
@[simp] theorem respond_tap (s : State) (rq : Requester) (st : Nat) (data : List Nat) : (s.respond rq st data).tap = s.tap := rfl

@[simp] theorem setMsixPending_pending (s : State) (v : Nat) (b : Bool) : (s.setMsixPending v b).pending = s.pending := rfl
@[simp] theorem setMsixPending_latch (s : State) (v : Nat) (b : Bool) : (s.setMsixPending v b).latch = s.latch := rfl
@[simp] theorem setMsixPending_stage (s : State) (v : Nat) (b : Bool) : (s.setMsixPending v b).stage = s.stage := rfl
@[simp] theorem setMsixPending_data (s : State) (v : Nat) (b : Bool) : (s.setMsixPending v b).data = s.data := rfl
@[simp] theorem setMsixPending_inst (s : State) (v : Nat) (b : Bool) : (s.setMsixPending v b).inst = s.inst := rfl
@[simp] theorem setMsixPending_sol (s : State) (v : Nat) (b : Bool) : (s.setMsixPending v b).sol = s.sol := rfl
@[simp] theorem setMsixPending_hub (s : State) (v : Nat) (b : Bool) : (s.setMsixPending v b).hub = s.hub := rfl
@[simp] theorem setMsixPending_lpddr (s : State) (v : Nat) (b : Bool) : (s.setMsixPending v b).lpddr = s.lpddr := rfl
@[simp] theorem setMsixPending_nor (s : State) (v : Nat) (b : Bool) : (s.setMsixPending v b).nor = s.nor := rfl
@[simp] theorem setMsixPending_host (s : State) (v : Nat) (b : Bool) : (s.setMsixPending v b).host = s.host := rfl
@[simp] theorem setMsixPending_free (s : State) (v : Nat) (b : Bool) : (s.setMsixPending v b).free = s.free := rfl
@[simp] theorem setMsixPending_rnd (s : State) (v : Nat) (b : Bool) : (s.setMsixPending v b).rnd = s.rnd := rfl
@[simp] theorem setMsixPending_hif (s : State) (v : Nat) (b : Bool) : (s.setMsixPending v b).hif = s.hif := rfl
@[simp] theorem setMsixPending_rings (s : State) (v : Nat) (b : Bool) : (s.setMsixPending v b).rings = s.rings := rfl
@[simp] theorem setMsixPending_sring (s : State) (v : Nat) (b : Bool) : (s.setMsixPending v b).sring = s.sring := rfl
@[simp] theorem setMsixPending_sec (s : State) (v : Nat) (b : Bool) : (s.setMsixPending v b).sec = s.sec := rfl
@[simp] theorem setMsixPending_jrn (s : State) (v : Nat) (b : Bool) : (s.setMsixPending v b).jrn = s.jrn := rfl
@[simp] theorem setMsixPending_pat (s : State) (v : Nat) (b : Bool) : (s.setMsixPending v b).pat = s.pat := rfl
@[simp] theorem setMsixPending_mesh (s : State) (v : Nat) (b : Bool) : (s.setMsixPending v b).mesh = s.mesh := rfl
@[simp] theorem setMsixPending_cores (s : State) (v : Nat) (b : Bool) : (s.setMsixPending v b).cores = s.cores := rfl
@[simp] theorem setMsixPending_acc (s : State) (v : Nat) (b : Bool) : (s.setMsixPending v b).acc = s.acc := rfl
@[simp] theorem setMsixPending_engines (s : State) (v : Nat) (b : Bool) : (s.setMsixPending v b).engines = s.engines := rfl
@[simp] theorem setMsixPending_hlth (s : State) (v : Nat) (b : Bool) : (s.setMsixPending v b).hlth = s.hlth := rfl
@[simp] theorem setMsixPending_boot (s : State) (v : Nat) (b : Bool) : (s.setMsixPending v b).boot = s.boot := rfl
@[simp] theorem setMsixPending_chk (s : State) (v : Nat) (b : Bool) : (s.setMsixPending v b).chk = s.chk := rfl
@[simp] theorem setMsixPending_wfm (s : State) (v : Nat) (b : Bool) : (s.setMsixPending v b).wfm = s.wfm := rfl
@[simp] theorem setMsixPending_fbr (s : State) (v : Nat) (b : Bool) : (s.setMsixPending v b).fbr = s.fbr := rfl
@[simp] theorem setMsixPending_ports (s : State) (v : Nat) (b : Bool) : (s.setMsixPending v b).ports = s.ports := rfl
@[simp] theorem setMsixPending_resp (s : State) (v : Nat) (b : Bool) : (s.setMsixPending v b).resp = s.resp := rfl
@[simp] theorem setMsixPending_cam (s : State) (v : Nat) (b : Bool) : (s.setMsixPending v b).cam = s.cam := rfl
@[simp] theorem setMsixPending_tap (s : State) (v : Nat) (b : Bool) : (s.setMsixPending v b).tap = s.tap := rfl

@[simp] theorem modRnd_pending (s : State) (f : Rnd → Rnd) : (s.modRnd f).pending = s.pending := rfl
@[simp] theorem modRnd_regs (s : State) (f : Rnd → Rnd) : (s.modRnd f).regs = s.regs := rfl
@[simp] theorem modRnd_latch (s : State) (f : Rnd → Rnd) : (s.modRnd f).latch = s.latch := rfl
@[simp] theorem modRnd_stage (s : State) (f : Rnd → Rnd) : (s.modRnd f).stage = s.stage := rfl
@[simp] theorem modRnd_data (s : State) (f : Rnd → Rnd) : (s.modRnd f).data = s.data := rfl
@[simp] theorem modRnd_inst (s : State) (f : Rnd → Rnd) : (s.modRnd f).inst = s.inst := rfl
@[simp] theorem modRnd_sol (s : State) (f : Rnd → Rnd) : (s.modRnd f).sol = s.sol := rfl
@[simp] theorem modRnd_hub (s : State) (f : Rnd → Rnd) : (s.modRnd f).hub = s.hub := rfl
@[simp] theorem modRnd_lpddr (s : State) (f : Rnd → Rnd) : (s.modRnd f).lpddr = s.lpddr := rfl
@[simp] theorem modRnd_nor (s : State) (f : Rnd → Rnd) : (s.modRnd f).nor = s.nor := rfl
@[simp] theorem modRnd_host (s : State) (f : Rnd → Rnd) : (s.modRnd f).host = s.host := rfl
@[simp] theorem modRnd_free (s : State) (f : Rnd → Rnd) : (s.modRnd f).free = s.free := rfl
@[simp] theorem modRnd_rnd (s : State) (f : Rnd → Rnd) : (s.modRnd f).rnd = f s.rnd := rfl
@[simp] theorem modRnd_hif (s : State) (f : Rnd → Rnd) : (s.modRnd f).hif = s.hif := rfl
@[simp] theorem modRnd_rings (s : State) (f : Rnd → Rnd) : (s.modRnd f).rings = s.rings := rfl
@[simp] theorem modRnd_sring (s : State) (f : Rnd → Rnd) : (s.modRnd f).sring = s.sring := rfl
@[simp] theorem modRnd_sec (s : State) (f : Rnd → Rnd) : (s.modRnd f).sec = s.sec := rfl
@[simp] theorem modRnd_jrn (s : State) (f : Rnd → Rnd) : (s.modRnd f).jrn = s.jrn := rfl
@[simp] theorem modRnd_pat (s : State) (f : Rnd → Rnd) : (s.modRnd f).pat = s.pat := rfl
@[simp] theorem modRnd_mesh (s : State) (f : Rnd → Rnd) : (s.modRnd f).mesh = s.mesh := rfl
@[simp] theorem modRnd_cores (s : State) (f : Rnd → Rnd) : (s.modRnd f).cores = s.cores := rfl
@[simp] theorem modRnd_acc (s : State) (f : Rnd → Rnd) : (s.modRnd f).acc = s.acc := rfl
@[simp] theorem modRnd_engines (s : State) (f : Rnd → Rnd) : (s.modRnd f).engines = s.engines := rfl
@[simp] theorem modRnd_hlth (s : State) (f : Rnd → Rnd) : (s.modRnd f).hlth = s.hlth := rfl
@[simp] theorem modRnd_boot (s : State) (f : Rnd → Rnd) : (s.modRnd f).boot = s.boot := rfl
@[simp] theorem modRnd_chk (s : State) (f : Rnd → Rnd) : (s.modRnd f).chk = s.chk := rfl
@[simp] theorem modRnd_wfm (s : State) (f : Rnd → Rnd) : (s.modRnd f).wfm = s.wfm := rfl
@[simp] theorem modRnd_fbr (s : State) (f : Rnd → Rnd) : (s.modRnd f).fbr = s.fbr := rfl
@[simp] theorem modRnd_ports (s : State) (f : Rnd → Rnd) : (s.modRnd f).ports = s.ports := rfl
@[simp] theorem modRnd_resp (s : State) (f : Rnd → Rnd) : (s.modRnd f).resp = s.resp := rfl
@[simp] theorem modRnd_cam (s : State) (f : Rnd → Rnd) : (s.modRnd f).cam = s.cam := rfl
@[simp] theorem modRnd_tap (s : State) (f : Rnd → Rnd) : (s.modRnd f).tap = s.tap := rfl

@[simp] theorem modEngine_pending (s : State) (k : Nat) (f : Engine → Engine) : (s.modEngine k f).pending = s.pending := rfl
@[simp] theorem modEngine_regs (s : State) (k : Nat) (f : Engine → Engine) : (s.modEngine k f).regs = s.regs := rfl
@[simp] theorem modEngine_latch (s : State) (k : Nat) (f : Engine → Engine) : (s.modEngine k f).latch = s.latch := rfl
@[simp] theorem modEngine_stage (s : State) (k : Nat) (f : Engine → Engine) : (s.modEngine k f).stage = s.stage := rfl
@[simp] theorem modEngine_data (s : State) (k : Nat) (f : Engine → Engine) : (s.modEngine k f).data = s.data := rfl
@[simp] theorem modEngine_inst (s : State) (k : Nat) (f : Engine → Engine) : (s.modEngine k f).inst = s.inst := rfl
@[simp] theorem modEngine_sol (s : State) (k : Nat) (f : Engine → Engine) : (s.modEngine k f).sol = s.sol := rfl
@[simp] theorem modEngine_hub (s : State) (k : Nat) (f : Engine → Engine) : (s.modEngine k f).hub = s.hub := rfl
@[simp] theorem modEngine_lpddr (s : State) (k : Nat) (f : Engine → Engine) : (s.modEngine k f).lpddr = s.lpddr := rfl
@[simp] theorem modEngine_nor (s : State) (k : Nat) (f : Engine → Engine) : (s.modEngine k f).nor = s.nor := rfl
@[simp] theorem modEngine_host (s : State) (k : Nat) (f : Engine → Engine) : (s.modEngine k f).host = s.host := rfl
@[simp] theorem modEngine_free (s : State) (k : Nat) (f : Engine → Engine) : (s.modEngine k f).free = s.free := rfl
@[simp] theorem modEngine_rnd (s : State) (k : Nat) (f : Engine → Engine) : (s.modEngine k f).rnd = s.rnd := rfl
@[simp] theorem modEngine_hif (s : State) (k : Nat) (f : Engine → Engine) : (s.modEngine k f).hif = s.hif := rfl
@[simp] theorem modEngine_rings (s : State) (k : Nat) (f : Engine → Engine) : (s.modEngine k f).rings = s.rings := rfl
@[simp] theorem modEngine_sring (s : State) (k : Nat) (f : Engine → Engine) : (s.modEngine k f).sring = s.sring := rfl
@[simp] theorem modEngine_sec (s : State) (k : Nat) (f : Engine → Engine) : (s.modEngine k f).sec = s.sec := rfl
@[simp] theorem modEngine_jrn (s : State) (k : Nat) (f : Engine → Engine) : (s.modEngine k f).jrn = s.jrn := rfl
@[simp] theorem modEngine_pat (s : State) (k : Nat) (f : Engine → Engine) : (s.modEngine k f).pat = s.pat := rfl
@[simp] theorem modEngine_mesh (s : State) (k : Nat) (f : Engine → Engine) : (s.modEngine k f).mesh = s.mesh := rfl
@[simp] theorem modEngine_cores (s : State) (k : Nat) (f : Engine → Engine) : (s.modEngine k f).cores = s.cores := rfl
@[simp] theorem modEngine_acc (s : State) (k : Nat) (f : Engine → Engine) : (s.modEngine k f).acc = s.acc := rfl
@[simp] theorem modEngine_engines (s : State) (k : Nat) (f : Engine → Engine) : (s.modEngine k f).engines = s.engines.modify k f := rfl
@[simp] theorem modEngine_hlth (s : State) (k : Nat) (f : Engine → Engine) : (s.modEngine k f).hlth = s.hlth := rfl
@[simp] theorem modEngine_boot (s : State) (k : Nat) (f : Engine → Engine) : (s.modEngine k f).boot = s.boot := rfl
@[simp] theorem modEngine_chk (s : State) (k : Nat) (f : Engine → Engine) : (s.modEngine k f).chk = s.chk := rfl
@[simp] theorem modEngine_wfm (s : State) (k : Nat) (f : Engine → Engine) : (s.modEngine k f).wfm = s.wfm := rfl
@[simp] theorem modEngine_fbr (s : State) (k : Nat) (f : Engine → Engine) : (s.modEngine k f).fbr = s.fbr := rfl
@[simp] theorem modEngine_ports (s : State) (k : Nat) (f : Engine → Engine) : (s.modEngine k f).ports = s.ports := rfl
@[simp] theorem modEngine_resp (s : State) (k : Nat) (f : Engine → Engine) : (s.modEngine k f).resp = s.resp := rfl
@[simp] theorem modEngine_cam (s : State) (k : Nat) (f : Engine → Engine) : (s.modEngine k f).cam = s.cam := rfl
@[simp] theorem modEngine_tap (s : State) (k : Nat) (f : Engine → Engine) : (s.modEngine k f).tap = s.tap := rfl

end Sys2Proof.Machine
end

