-- ==== Sys2Proof/Laws/Regs.lean ====
section
/-! SUPPORT. Laws/Regs.lean: sparse maps, stores and the register file: a read after a write, and that every write keeps the canonical form. -/

namespace Sys2Proof.Machine
open Sys2Proof Sys2Proof.Machine.Reg

set_option linter.all false
set_option Elab.async false

section Sparse
variable {α : Type} [DecidableEq α] (d : Nat → α)

theorem sparseGet_insert (m : List (Nat × α)) (a b : Nat) (v : α) :
    sparseGet d (sparseInsert a v m) b = if b = a then v else sparseGet d m b := by
  induction m with
  | nil => simp [sparseInsert, sparseGet]
  | cons p t ih =>
    obtain ⟨k, w⟩ := p
    unfold sparseInsert
    split
    · simp [sparseGet]
    · split
      · subst a; by_cases hb : b = k <;> simp [sparseGet, hb]
      · rename_i h1 h2
        by_cases hb : b = k
        · have : ¬ b = a := by omega
          simp [sparseGet, hb]; intro h; omega
        · simp [sparseGet, hb, ih]

theorem sparseGet_erase (m : List (Nat × α)) (a b : Nat) :
    sparseGet d (sparseErase a m) b = if b = a then d b else sparseGet d m b := by
  induction m with
  | nil => simp [sparseErase, sparseGet]
  | cons p t ih =>
    obtain ⟨k, w⟩ := p
    unfold sparseErase
    split
    · subst a; by_cases hb : b = k
      · subst hb; simpa using ih
      · simp [sparseGet, hb, ih]
    · rename_i h1
      by_cases hb : b = k
      · have : ¬ k = a := by omega
        simp [sparseGet, hb, this]
      · simp [sparseGet, hb, ih]

/-- A read after a write. -/
theorem sparseGet_set (m : List (Nat × α)) (a b : Nat) (v : α) :
    sparseGet d (sparseSet d m a v) b = if b = a then v else sparseGet d m b := by
  unfold sparseSet
  split
  · rename_i h; rw [sparseGet_erase]; split
    · subst b; exact h.symm
    · rfl
  · exact sparseGet_insert d m a b v

theorem sparseAbove_insert {m : List (Nat × α)} {lo a : Nat} {v : α} (h : sparseAbove d lo m = true) (ha : lo < a) (hv : v ≠ d a) :
    sparseAbove d lo (sparseInsert a v m) = true := by
  induction m generalizing lo with
  | nil => simp [sparseInsert, sparseAbove, ha, hv]
  | cons p t ih =>
    obtain ⟨k, w⟩ := p
    simp only [sparseAbove, Bool.and_eq_true, decide_eq_true_eq] at h
    obtain ⟨⟨h1, h2⟩, h3⟩ := h
    unfold sparseInsert
    split
    · rename_i hk; simp [sparseAbove, ha, hv, hk, h2, h3]
    · split
      · subst a; simp [sparseAbove, h1, hv, h3]
      · rename_i h4 h5
        have := ih h3 (by omega)
        simp [sparseAbove, h1, h2, this]

theorem sparseAbove_mono {m : List (Nat × α)} {lo hi : Nat} (h : sparseAbove d hi m = true) (hl : lo ≤ hi) : sparseAbove d lo m = true := by
  cases m with
  | nil => rfl
  | cons p t =>
    obtain ⟨k, w⟩ := p
    simp only [sparseAbove, Bool.and_eq_true, decide_eq_true_eq] at h ⊢
    exact ⟨⟨by omega, h.1.2⟩, h.2⟩

theorem sparseAbove_erase {m : List (Nat × α)} {lo a : Nat} (h : sparseAbove d lo m = true) :
    sparseAbove d lo (sparseErase a m) = true := by
  induction m generalizing lo with
  | nil => rfl
  | cons p t ih =>
    obtain ⟨k, w⟩ := p
    simp only [sparseAbove, Bool.and_eq_true, decide_eq_true_eq] at h
    obtain ⟨⟨h1, h2⟩, h3⟩ := h
    unfold sparseErase
    split
    · exact ih (sparseAbove_mono d h3 (by omega))
    · simp [sparseAbove, h1, h2, ih h3]

theorem sparseWf_iff {m : List (Nat × α)} : sparseWf d m = true ↔ m = [] ∨ ∃ k v t, m = (k, v) :: t ∧ v ≠ d k ∧ sparseAbove d k t = true := by
  cases m with
  | nil => simp [sparseWf]
  | cons p t => obtain ⟨k, w⟩ := p; simp [sparseWf]

theorem sparseWf_of_above {m : List (Nat × α)} {lo : Nat} (h : sparseAbove d lo m = true) : sparseWf d m = true := by
  cases m with
  | nil => rfl
  | cons p t => obtain ⟨k, w⟩ := p; simp [sparseAbove] at h; simp [sparseWf, h.1.2, h.2]

/-- A write keeps the canonical form. -/
theorem sparseWf_set {m : List (Nat × α)} (a : Nat) (v : α) (h : sparseWf d m = true) : sparseWf d (sparseSet d m a v) = true := by
  cases m with
  | nil => unfold sparseSet; split <;> simp_all [sparseErase, sparseInsert, sparseWf, sparseAbove]
  | cons p t =>
    obtain ⟨k, w⟩ := p
    simp only [sparseWf, Bool.and_eq_true, decide_eq_true_eq] at h
    unfold sparseSet
    split
    · unfold sparseErase
      split
      · exact sparseWf_of_above d (sparseAbove_erase d h.2)
      · simp [sparseWf, h.1, sparseAbove_erase d h.2]
    · rename_i hv
      unfold sparseInsert
      split
      · rename_i hk; simp [sparseWf, hv, sparseAbove, hk, h.1, h.2]
      · split
        · subst a; simp [sparseWf, hv, h.2]
        · rename_i h1 h2; simp [sparseWf, h.1, sparseAbove_insert d h.2 (by omega) hv]

theorem sparseAbove_filter {m : List (Nat × α)} {lo : Nat} (f : Nat × α → Bool) (h : sparseAbove d lo m = true) :
    sparseAbove d lo (m.filter f) = true := by
  induction m generalizing lo with
  | nil => rfl
  | cons p t ih =>
    obtain ⟨k, w⟩ := p
    simp only [sparseAbove, Bool.and_eq_true, decide_eq_true_eq] at h
    obtain ⟨⟨h1, h2⟩, h3⟩ := h
    rw [List.filter_cons]
    split
    · simp [sparseAbove, h1, h2, ih h3]
    · exact ih (sparseAbove_mono d h3 (by omega))

/-- Forgetting entries keeps the canonical form. -/
theorem sparseWf_filter {m : List (Nat × α)} (f : Nat × α → Bool) (h : sparseWf d m = true) : sparseWf d (m.filter f) = true := by
  cases m with
  | nil => rfl
  | cons p t =>
    obtain ⟨k, w⟩ := p
    simp only [sparseWf, Bool.and_eq_true, decide_eq_true_eq] at h
    rw [List.filter_cons]
    split
    · simp [sparseWf, h.1, sparseAbove_filter d f h.2]
    · exact sparseWf_of_above d (sparseAbove_filter d f h.2)
end Sparse

/-! ### Stores -/

theorem memGet_memSet (d : Byte) (m : List Host.Cell) (a b : Nat) (v : Byte) :
    memGet d (memSet d m a v) b = if b = a then v else memGet d m b := sparseGet_set _ m a b v
/-- Writing one byte keeps the canonical form. -/
theorem memSet_wf {d : Byte} {m : List Host.Cell} (a : Nat) (v : Byte) (h : Memory.wf d m) : Memory.wf d (memSet d m a v) :=
  sparseWf_set _ a v h
/-- Writing several bytes keeps the canonical form. -/
theorem memPut_wf {d : Byte} (bs : List Nat) {m : List Host.Cell} (a : Nat) (h : Memory.wf d m) : Memory.wf d (memPut d m a bs) := by
  induction bs generalizing m a with
  | nil => exact h
  | cons b t ih => exact ih (a + 1) (memSet_wf a _ h)
/-- Writing the enabled bytes keeps the canonical form. -/
theorem memPutBE_wf {d : Byte} (bs : List (Nat × Bool)) {m : List Host.Cell} (a : Nat) (h : Memory.wf d m) : Memory.wf d (memPutBE d m a bs) := by
  induction bs generalizing m a with
  | nil => exact h
  | cons b t ih =>
    obtain ⟨b, e⟩ := b
    cases e
    · exact ih (a + 1) h
    · exact ih (a + 1) (memSet_wf a _ h)
/-- A byte outside the bytes written reads as before, a byte inside as written. -/
theorem memGet_memPut (d : Byte) (bs : List Nat) (m : List Host.Cell) (a b : Nat) :
    memGet d (memPut d m a bs) b = if a ≤ b ∧ b < a + bs.length then BitVec.ofNat 8 (bs.getD (b - a) 0) else memGet d m b := by
  induction bs generalizing m a with
  | nil => simp [memPut]
  | cons x t ih =>
    simp only [memPut, ih, memGet_memSet, List.length_cons]
    by_cases h : b = a
    · subst h; simp
    · by_cases h2 : a + 1 ≤ b ∧ b < a + 1 + t.length
      · have h3 : a ≤ b ∧ b < a + (t.length + 1) := by omega
        obtain ⟨n, hn⟩ : ∃ n, b - a = n + 1 := ⟨b - a - 1, by omega⟩
        have : b - (a + 1) = n := by omega
        simp [h2, h3, hn, this]
      · have h3 : ¬ (a ≤ b ∧ b < a + (t.length + 1)) := by omega
        rw [if_neg h2, if_neg h3, if_neg h]
theorem memGet_memPut_out {d : Byte} {bs : List Nat} {m : List Host.Cell} {a b : Nat} (h : b < a ∨ a + bs.length ≤ b) :
    memGet d (memPut d m a bs) b = memGet d m b := by
  rw [memGet_memPut, if_neg (by omega)]

/-! ### Bits -/

theorem setBits_toNat (x : Word) (lo w v : Nat) (h : lo + w ≤ 32) :
    (setBits x lo w v).toNat = x.toNat / 2 ^ (lo + w) * 2 ^ (lo + w) + v % 2 ^ w * 2 ^ lo + x.toNat % 2 ^ lo := by
  unfold setBits
  rw [BitVec.toNat_ofNat]
  apply Nat.mod_eq_of_lt
  have hx := x.isLt
  have h1 : x.toNat % 2 ^ lo < 2 ^ lo := Nat.mod_lt _ (by positivity)
  have h2 : v % 2 ^ w < 2 ^ w := Nat.mod_lt _ (by positivity)
  have h3 : x.toNat / 2 ^ (lo + w) + 1 ≤ 2 ^ (32 - (lo + w)) := by
    apply Nat.succ_le_of_lt
    rw [Nat.div_lt_iff_lt_mul (by positivity), ← pow_add]
    rwa [Nat.sub_add_cancel h]
  have h4 : v % 2 ^ w * 2 ^ lo + x.toNat % 2 ^ lo < 2 ^ (lo + w) := by
    have : (v % 2 ^ w + 1) * 2 ^ lo ≤ 2 ^ w * 2 ^ lo := Nat.mul_le_mul_right _ h2
    rw [pow_add, mul_comm (2 ^ lo)]
    linarith [this, add_mul (v % 2 ^ w) 1 (2 ^ lo)]
  have h5 : (x.toNat / 2 ^ (lo + w) + 1) * 2 ^ (lo + w) ≤ 2 ^ 32 := by
    calc _ ≤ 2 ^ (32 - (lo + w)) * 2 ^ (lo + w) := Nat.mul_le_mul_right _ h3
      _ = 2 ^ 32 := by rw [← pow_add, Nat.sub_add_cancel h]
  linarith [add_mul (x.toNat / 2 ^ (lo + w)) 1 (2 ^ (lo + w))]

theorem testBit_setBits (x : Word) (lo w v n : Nat) (h : lo + w ≤ 32) :
    (setBits x lo w v).toNat.testBit n = if lo ≤ n ∧ n < lo + w then v.testBit (n - lo) else x.toNat.testBit n := by
  have e : (setBits x lo w v).toNat = 2 ^ lo * (2 ^ w * (x.toNat / 2 ^ (lo + w)) + v % 2 ^ w) + x.toNat % 2 ^ lo := by
    rw [setBits_toNat x lo w v h, pow_add]; ring
  rw [e, Nat.testBit_two_pow_mul_add _ (Nat.mod_lt _ (by positivity)), Nat.testBit_two_pow_mul_add _ (Nat.mod_lt _ (by positivity))]
  simp only [Nat.testBit_mod_two_pow, Nat.testBit_div_two_pow]
  by_cases h1 : n < lo
  · simp [h1]
  · by_cases h2 : n - lo < w
    · simp [h1, h2, show lo ≤ n ∧ n < lo + w by omega]
    · simp only [h1, h2, if_false, show ¬ (lo ≤ n ∧ n < lo + w) by omega]
      congr 1; omega

/-- The field just written. -/
theorem bits_setBits (x : Word) (lo w v : Nat) (h : lo + w ≤ 32) : bits (setBits x lo w v) lo w = v % 2 ^ w := by
  apply Nat.eq_of_testBit_eq; intro n
  simp only [bits, Nat.testBit_mod_two_pow, Nat.testBit_div_two_pow, testBit_setBits _ _ _ _ _ h]
  by_cases hn : n < w
  · simp [hn, show lo ≤ n + lo ∧ n + lo < lo + w by omega]
  · simp [hn]

/-- A field beside the one written. -/
theorem bits_setBits_ne (x : Word) (lo w v lo' w' : Nat) (h : lo + w ≤ 32) (hd : lo' + w' ≤ lo ∨ lo + w ≤ lo') :
    bits (setBits x lo w v) lo' w' = bits x lo' w' := by
  apply Nat.eq_of_testBit_eq; intro n
  simp only [bits, Nat.testBit_mod_two_pow, Nat.testBit_div_two_pow, testBit_setBits _ _ _ _ _ h]
  by_cases hn : n < w'
  · simp [hn]; intro h1 h2; omega
  · simp [hn]

theorem bits_lt (x : Word) (lo w : Nat) : bits x lo w < 2 ^ w := Nat.mod_lt _ (by positivity)
theorem bits_zero_32 (x : Word) : bits x 0 32 = x.toNat := by simp only [bits, pow_zero, Nat.div_one]; exact Nat.mod_eq_of_lt x.isLt

/-! ### The register file -/

theorem reg_setReg (s : State) (a b : Nat) (v : Word) : (s.setReg a v).reg b = if b = a then v else s.reg b :=
  sparseGet_set regReset s.regs a b v
@[simp] theorem reg_setReg_same (s : State) (a : Nat) (v : Word) : (s.setReg a v).reg a = v := by simp [reg_setReg]
theorem reg_setReg_ne {s : State} {a b : Nat} {v : Word} (h : b ≠ a) : (s.setReg a v).reg b = s.reg b := by simp [reg_setReg, h]
theorem reg_setFld_ne {s : State} {f : Fld} {v i j b : Nat} (h : b ≠ f.rg.at i j) : (s.setFld f v i j).reg b = s.reg b := reg_setReg_ne h
theorem reg_setLive_ne {s : State} {f : Fld} {v i j b : Nat} (h : b ≠ f.rg.at i j + 0x800) : (s.setLive f v i j).reg b = s.reg b := reg_setReg_ne h
theorem reg_setRegN_ne {s : State} {r : Rg} {v i j b : Nat} (h : b ≠ r.at i j) : (s.setRegN r v i j).reg b = s.reg b := reg_setReg_ne h
theorem reg_count_ne {s : State} {f : Fld} {n i j b : Nat} (h : b ≠ f.rg.at i j) : (s.count f n i j).reg b = s.reg b := reg_setFld_ne h

/-- A field just written reads as written. -/
theorem fld_setFld (s : State) (f : Fld) (v i j : Nat) (h : f.lo + f.w ≤ 32) : (s.setFld f v i j).fld f i j = v % 2 ^ f.w := by
  simp [State.fld, State.setFld, bits_setBits _ _ _ _ h]
/-- A field of another register. -/
theorem fld_setFld_ne {s : State} {f g : Fld} {v i j i' j' : Nat} (h : g.rg.at i' j' ≠ f.rg.at i j) :
    (s.setFld f v i j).fld g i' j' = s.fld g i' j' := by simp [State.fld, reg_setFld_ne h]
/-- A field beside the one written. -/
theorem fld_setFld_disj {s : State} {f g : Fld} {v i j i' j' : Nat} (h : f.lo + f.w ≤ 32) (hd : g.lo + g.w ≤ f.lo ∨ f.lo + f.w ≤ g.lo) :
    (s.setFld f v i j).fld g i' j' = s.fld g i' j' := by
  by_cases ha : g.rg.at i' j' = f.rg.at i j
  · simp only [State.fld, State.setFld, ha, reg_setReg_same]; exact bits_setBits_ne _ _ _ _ _ _ h hd
  · exact fld_setFld_ne ha
theorem fld_setReg_ne {s : State} {g : Fld} {v : Word} {a i' j' : Nat} (h : g.rg.at i' j' ≠ a) : (s.setReg a v).fld g i' j' = s.fld g i' j' := by
  simp [State.fld, reg_setReg_ne h]
theorem fld_lt (s : State) (f : Fld) (i j : Nat) : s.fld f i j < 2 ^ f.w := bits_lt _ _ _
theorem regN_setRegN (s : State) (r : Rg) (v i j : Nat) : (s.setRegN r v i j).regN r i j = v % 2 ^ 32 := by
  simp [State.regN, State.setRegN]
theorem regN_lt (s : State) (r : Rg) (i j : Nat) : s.regN r i j < 2 ^ 32 := (s.reg _).isLt

/-- Every write to the register file keeps its canonical form. -/
theorem setReg_wf {s : State} (a : Nat) (v : Word) (h : sparseWf regReset s.regs = true) : sparseWf regReset (s.setReg a v).regs = true :=
  sparseWf_set regReset a v h

/-- The stores of the state right after reset are in canonical form. -/
theorem reset_wf : sparseWf regReset State.reset.regs = true ∧ Memory.wf dflt0 State.reset.data ∧ Memory.wf dfltF State.reset.inst ∧
    Memory.wf dflt0 State.reset.sol ∧ Memory.wf dflt0 State.reset.hub ∧ Memory.wf dflt0 State.reset.lpddr ∧
    Memory.wf dfltF State.reset.nor ∧ Memory.wf dflt0 State.reset.host := ⟨rfl, rfl, rfl, rfl, rfl, rfl, rfl, rfl⟩

end Sys2Proof.Machine
end

