-- ==== Sys2Proof/Laws/Reports.lean ====
section
/-! SUPPORT. Laws/Reports.lean: which registers a report changes: an event and its interrupt, a journal record, a status posting. -/

namespace Sys2Proof.Machine
open Sys2Proof Sys2Proof.Machine.Reg

set_option linter.all false
set_option Elab.async false

/-- The register is none of those that any report may change. -/
abbrev quiet (a : Nat) : Prop := a ∉ reportRegs

theorem quiet_def (a : Nat) : quiet a ↔ a ≠ 0x9000 ∧ a ≠ 0x9004 ∧ a ≠ 0xc0018 ∧ a ≠ 0xc0060 ∧ a ≠ 0xc0064 := by
  simp [quiet, reportRegs, JRN_EVENT, JRN_LOST0, JRN_LOST1]

theorem sendMsix_reg (s : State) (v a : Nat) : (s.sendMsix v).reg a = s.reg a := rfl
theorem msix_reg {s : State} {v a : Nat} (hv : v < 64) (h : quiet a) : (s.msix v).reg a = s.reg a := by
  obtain ⟨h1, h2, _⟩ := (quiet_def a).1 h
  unfold State.msix
  split
  · unfold State.setMsixPending; apply reg_setReg_ne; omega
  · rfl
theorem event_reg {s : State} {ev en b v a : Nat} (hv : v < 64) (h : quiet a) (ha : a ≠ ev) : (s.event ev en b v).reg a = s.reg a := by
  unfold State.event
  dsimp only
  split
  · rfl
  · split
    · rw [msix_reg hv h, reg_setReg_ne ha]
    · rw [reg_setReg_ne ha]
/-- An event's bit is set afterwards. -/
theorem event_bit {s : State} {ev en b v : Nat} (hv : v < 64) (h : ev ≠ 0x9000 ∧ ev ≠ 0x9004) (hb : b < 32) :
    ((s.event ev en b v).reg ev).toNat.testBit b = true := by
  unfold State.event
  dsimp only
  split
  · assumption
  · have key : ∀ x : Word, (setBits x b 1 1).toNat.testBit b = true := fun x => by
      rw [testBit_setBits _ _ _ _ _ (by omega)]; simp
    split
    · unfold State.msix
      split
      · unfold State.setMsixPending; rw [reg_setReg_ne (by omega), reg_setReg_same]; exact key _
      · rw [sendMsix_reg, reg_setReg_same]; exact key _
    · rw [reg_setReg_same]; exact key _
/-- An event's bits that were set stay so. -/
theorem event_bit_mono {s : State} {ev en b v n : Nat} (hv : v < 64) (h : ev ≠ 0x9000 ∧ ev ≠ 0x9004) (hb : b < 32)
    (hn : (s.reg ev).toNat.testBit n = true) : ((s.event ev en b v).reg ev).toNat.testBit n = true := by
  unfold State.event
  dsimp only
  split
  · exact hn
  · have key : (setBits (s.reg ev) b 1 1).toNat.testBit n = true := by
      rw [testBit_setBits _ _ _ _ _ (by omega)]; split
      · have : n = b := by omega
        simp [this]
      · exact hn
    split
    · unfold State.msix
      split
      · unfold State.setMsixPending; rw [reg_setReg_ne (by omega), reg_setReg_same]; exact key
      · rw [sendMsix_reg, reg_setReg_same]; exact key
    · rw [reg_setReg_same]; exact key

theorem jrnEvent_reg {s : State} {b a : Nat} (h : quiet a) : (s.jrnEvent b).reg a = s.reg a :=
  event_reg (by decide) h (((quiet_def a).1 h).2.2.1)
theorem jrnLost_reg {s : State} {n a : Nat} (h : quiet a) : (s.jrnLost n).reg a = s.reg a := by
  unfold State.jrnLost
  dsimp only
  rw [jrnEvent_reg h, reg_setReg_ne]
  have := (quiet_def a).1 h
  split <;> simp [JRN_LOST0, JRN_LOST1] <;> omega
theorem intake_reg {s : State} {r : JRec} {a : Nat} (h : quiet a) : (s.intake r).reg a = s.reg a := by
  unfold State.intake
  split
  · exact jrnLost_reg h
  · split
    · rfl
    · exact jrnLost_reg h
theorem journal_reg {s : State} {code src sev data a : Nat} (h : quiet a) : (s.journal code src sev data).reg a = s.reg a := intake_reg h
theorem report_reg {s : State} {ev en b v code src sev data a : Nat} (hv : v < 64) (h : quiet a) (ha : a ≠ ev) :
    (s.report ev en b v code src sev data).reg a = s.reg a := by
  unfold State.report; rw [journal_reg h, event_reg hv h ha]
theorem journalParts_reg {code src sev a : Nat} (h : quiet a) (l : List Nat) (s : State) : (s.journalParts code src sev l).reg a = s.reg a := by
  fun_induction State.journalParts s code src sev l with
  | case1 s => rfl
  | case2 s d => exact journal_reg h
  | case3 s d t hx ih => rw [ih, intake_reg h]
theorem report_bit {s : State} {ev en b v code src sev data : Nat} (hv : v < 64) (h : quiet ev) (hb : b < 32) :
    ((s.report ev en b v code src sev data).reg ev).toNat.testBit b = true := by
  unfold State.report
  rw [journal_reg h]
  obtain ⟨h1, h2, _⟩ := (quiet_def ev).1 h
  exact event_bit hv ⟨h1, h2⟩ hb
theorem report_bit_mono {s : State} {ev en b v code src sev data n : Nat} (hv : v < 64) (h : quiet ev) (hb : b < 32)
    (hn : (s.reg ev).toNat.testBit n = true) : ((s.report ev en b v code src sev data).reg ev).toNat.testBit n = true := by
  unfold State.report
  rw [journal_reg h]
  obtain ⟨h1, h2, _⟩ := (quiet_def ev).1 h
  exact event_bit_mono hv ⟨h1, h2⟩ hb hn

theorem reg_sring (s : State) (x : Sring) (a : Nat) : ({ s with sring := x } : State).reg a = s.reg a := rfl

/-- The registers that a status posting may change beside. -/
abbrev quietPost (a : Nat) : Prop := quiet a ∧ a ≠ CMD_SPROD.base ∧ a ≠ CMD_EVENT.base ∧ a ≠ CMD_STDROP.base

theorem putEntries_reg (l : List (List Nat)) (s : State) (base w n idx a : Nat) : (s.putEntries base w n idx l).reg a = s.reg a := by
  induction l generalizing s idx with
  | nil => rfl
  | cons e t ih => simp only [State.putEntries, ih]; rfl
theorem writePost_reg {s : State} {p : Post} {a : Nat} (h : quietPost a) : (s.writePost p).reg a = s.reg a := by
  obtain ⟨h0, h1, _⟩ := h
  unfold State.writePost
  dsimp only
  split
  · rw [msix_reg (by decide) h0, reg_sring, reg_setFld_ne (by exact h1), putEntries_reg]
  · rw [reg_sring, reg_setFld_ne (by exact h1), putEntries_reg]
theorem dropPost_reg {s : State} {b : Bool} {a : Nat} (h : quietPost a) : (s.dropPost b).reg a = s.reg a := by
  obtain ⟨h0, h1, h2, h3⟩ := h
  unfold State.dropPost State.cmdEvent
  dsimp only
  rw [journal_reg h0, event_reg (by decide) h0 h2]
  rw [reg_sring]
  cases b
  · exact reg_count_ne (by exact h3)
  · exact (reg_count_ne (by exact h3)).trans (reg_count_ne (by exact h3))
theorem putPost_reg {s : State} {p : Post} {a : Nat} (h : quietPost a) : (s.putPost p).reg a = s.reg a := by
  unfold State.putPost
  dsimp only
  rw [writePost_reg h]
  split
  · rfl
  · exact writePost_reg h
theorem post_reg {s : State} {p : Post} {a : Nat} (h : quietPost a) : (s.post p).reg a = s.reg a := by
  unfold State.post
  split
  · split
    · exact putPost_reg h
    · split
      · rfl
      · exact dropPost_reg h
  · split
    · exact putPost_reg h
    · exact dropPost_reg h
theorem health_reg {s : State} {code src job grp s1 sn c a : Nat} (h : quietPost a) : (s.health code src job grp s1 sn c).reg a = s.reg a := by
  unfold State.health
  dsimp only
  rw [msix_reg (by decide) h.1, post_reg h]

end Sys2Proof.Machine
end

