-- ==== Sys2Proof/Laws/Settle.lean ====
section
/-! SUPPORT. Laws/Settle.lean: the end of a ring command changes no register outside the CMD block but those of a report. -/

namespace Sys2Proof.Machine
open Sys2Proof Sys2Proof.Machine.Reg

set_option linter.all false
set_option Elab.async false

/-- The register is neither of the CMD block nor one that any report may change. -/
abbrev offCmd (a : Nat) : Prop := quiet a ∧ (a < 0x10000 ∨ 0x20000 ≤ a)

/-- An address of the CMD block's rings. -/
theorem offCmd_ne {a b : Nat} (h : offCmd a) (hb : 0x10000 ≤ b) (hb' : b < 0x20000) : a ≠ b := by
  obtain ⟨_, h⟩ := h; omega

theorem reg_setRing (s : State) (k : Nat) (r : Ring) (a : Nat) : (s.setRing k r).reg a = s.reg a := rfl
theorem reg_putHost (s : State) (b : Nat) (l : List Nat) (a : Nat) : (s.putHost b l).reg a = s.reg a := rfl

/-- A field of a ring's register lies in the CMD block. -/
theorem ring_addr {f : Fld} {k : Nat} (hk : k < 4) (h : f.rg.base + 3 * f.rg.s1 < 0x20000) (h' : 0x10000 ≤ f.rg.base) :
    0x10000 ≤ f.rg.at k 0 ∧ f.rg.at k 0 < 0x20000 := by
  unfold Rg.at
  have : f.rg.s1 * k ≤ f.rg.s1 * 3 := Nat.mul_le_mul_left _ (by omega)
  omega
theorem reg_setFld_ring {s : State} {f : Fld} {k v a : Nat} (hk : k < 4) (ha : offCmd a)
    (h : f.rg.base + 3 * f.rg.s1 < 0x20000 ∧ 0x10000 ≤ f.rg.base) : (s.setFld f v k).reg a = s.reg a :=
  reg_setFld_ne (offCmd_ne ha (ring_addr hk h.1 h.2).1 (ring_addr hk h.1 h.2).2)
theorem reg_count_ring {s : State} {f : Fld} {k n a : Nat} (hk : k < 4) (ha : offCmd a)
    (h : f.rg.base + 3 * f.rg.s1 < 0x20000 ∧ 0x10000 ≤ f.rg.base) : (s.count f n k).reg a = s.reg a :=
  reg_count_ne (offCmd_ne ha (ring_addr hk h.1 h.2).1 (ring_addr hk h.1 h.2).2)

theorem writeCpl_reg {s : State} {k tag seq st opc a : Nat} {r : List Nat} (hk : k < 4) (ha : offCmd a) :
    (s.writeCpl k tag seq st opc r).reg a = s.reg a := by
  unfold State.writeCpl
  dsimp only
  split
  · rw [msix_reg (by decide) ha.1]; simp (disch := first | assumption | decide) only [reg_setFld_ring, reg_putHost]
  · simp (disch := first | assumption | decide) only [reg_setFld_ring, reg_putHost]
theorem complete_reg {s : State} {k tag seq st opc a : Nat} {r : List Nat} (hk : k < 4) (ha : offCmd a) :
    (s.complete k tag seq st opc r).reg a = s.reg a := by
  unfold State.complete
  split
  · exact writeCpl_reg hk ha
  · rfl

/-- The register at `a` reads the same in both states. -/
def SameReg (a : Nat) (u s : State) : Prop := s.reg a = u.reg a
theorem SameReg.iff {a : Nat} {u s t : State} (h : t.reg a = s.reg a) : SameReg a u t ↔ SameReg a u s := by simp only [SameReg, h]
theorem sameReg_ite (c : Prop) [Decidable c] (a : Nat) (u s t : State) :
    SameReg a u (if c then s else t) ↔ if c then SameReg a u s else SameReg a u t := by split <;> rfl
theorem sameReg_refl (a : Nat) (s : State) : SameReg a s s := rfl
theorem sameReg_setFld_ring {u s : State} {f : Fld} {k v a : Nat} (hk : k < 4) (ha : offCmd a)
    (h : f.rg.base + 3 * f.rg.s1 < 0x20000 ∧ 0x10000 ≤ f.rg.base) : SameReg a u (s.setFld f v k) ↔ SameReg a u s := SameReg.iff (reg_setFld_ring hk ha h)
theorem sameReg_count_ring {u s : State} {f : Fld} {k n a : Nat} (hk : k < 4) (ha : offCmd a)
    (h : f.rg.base + 3 * f.rg.s1 < 0x20000 ∧ 0x10000 ≤ f.rg.base) : SameReg a u (s.count f n k) ↔ SameReg a u s := SameReg.iff (reg_count_ring hk ha h)
theorem sameReg_setRing {u s : State} {k : Nat} {r : Ring} {a : Nat} : SameReg a u (s.setRing k r) ↔ SameReg a u s := SameReg.iff rfl
theorem sameReg_complete {u s : State} {k tag seq st opc a : Nat} {r : List Nat} (hk : k < 4) (ha : offCmd a) :
    SameReg a u (s.complete k tag seq st opc r) ↔ SameReg a u s := SameReg.iff (complete_reg hk ha)

theorem drainTake_reg {s : State} {k a : Nat} (hk : k < 4) (ha : offCmd a) : (s.drainTake k).reg a = s.reg a := by
  show SameReg a s (s.drainTake k)
  unfold State.drainTake
  simp (disch := first | assumption | decide) only [sameReg_ite, sameReg_setFld_ring, sameReg_count_ring, sameReg_setRing, sameReg_refl, ite_self]
theorem sameReg_drainTake {u s : State} {k a : Nat} (hk : k < 4) (ha : offCmd a) : SameReg a u (s.drainTake k) ↔ SameReg a u s :=
  SameReg.iff (drainTake_reg hk ha)
theorem cmdReport_reg {s : State} {b k a : Nat} (ha : offCmd a) : (s.cmdReport b k).reg a = s.reg a := by
  unfold State.cmdReport State.cmdEvent
  rw [journal_reg ha.1, event_reg (by decide) ha.1 (offCmd_ne ha (by decide) (by decide))]
theorem ringError_reg {s : State} {k c a : Nat} (hk : k < 4) (ha : offCmd a) : (s.ringError k c).reg a = s.reg a := by
  have h : (((s.setFld CMD_STATE_STATE 3 k).setFld CMD_STATE_ERRCAUSE c k).cmdReport 0 k).reg a = s.reg a := by
    rw [cmdReport_reg ha]
    simp (disch := first | assumption | decide) only [reg_setFld_ring]
  unfold State.ringError
  dsimp only
  split
  · exact h
  · exact h
theorem sameReg_ringError {u s : State} {k c a : Nat} (hk : k < 4) (ha : offCmd a) : SameReg a u (s.ringError k c) ↔ SameReg a u s :=
  SameReg.iff (ringError_reg hk ha)
theorem sameReg_draw {u s : State} {a : Nat} : SameReg a u s.draw ↔ SameReg a u s := SameReg.iff rfl
theorem flushRing_reg {s : State} {k a : Nat} (hk : k < 4) (ha : offCmd a) : (s.flushRing k).reg a = s.reg a := by
  show SameReg a s (s.flushRing k)
  unfold State.flushRing
  dsimp only
  (repeat' split) <;>
    simp (disch := first | assumption | decide) only [sameReg_setFld_ring, sameReg_setRing, sameReg_draw, sameReg_ringError, sameReg_refl]
theorem doFlush_reg {s : State} {k a : Nat} (hk : k < 4) (ha : offCmd a) : (s.doFlush k).reg a = s.reg a := by
  unfold State.doFlush
  dsimp only
  split
  · rw [flushRing_reg hk ha, drainTake_reg hk ha]
  · rw [reg_setRing, drainTake_reg hk ha]
theorem sameReg_doFlush {u s : State} {k a : Nat} (hk : k < 4) (ha : offCmd a) : SameReg a u (s.doFlush k) ↔ SameReg a u s :=
  SameReg.iff (doFlush_reg hk ha)
theorem endRun_reg {s : State} {k st a : Nat} {r : List Nat} (hk : k < 4) (ha : offCmd a) : (s.endRun k st r).reg a = s.reg a := by
  show SameReg a s (s.endRun k st r)
  unfold State.endRun
  split
  · exact sameReg_refl a s
  · simp (disch := first | assumption | decide) only [sameReg_ite, sameReg_complete, sameReg_doFlush, sameReg_setFld_ring, sameReg_setRing,
      sameReg_refl, ite_self]

theorem foldl_reg {α : Type} {f : State → α → State} {l : List α} {a : Nat} (h : ∀ x ∈ l, ∀ u, (f u x).reg a = u.reg a) (s : State) :
    (l.foldl f s).reg a = s.reg a := by
  induction l generalizing s with
  | nil => rfl
  | cons b t ih => rw [List.foldl_cons, ih (fun x hx => h x (List.mem_cons_of_mem _ hx)), h b List.mem_cons_self]

theorem endRingFlush_reg {s : State} {a : Nat} (ha : offCmd a) : (s.endRingFlush).reg a = s.reg a := by
  unfold State.endRingFlush
  refine foldl_reg (fun k hk u => ?_) s
  have hk : k < 4 := by revert k; decide
  split
  · split
    · rfl
    · exact endRun_reg hk ha
  · rfl
theorem endCmd_reg {s : State} {k st a : Nat} {r : List Nat} (hk : k < 4) (ha : offCmd a) : (s.endCmd k st r).reg a = s.reg a := by
  unfold State.endCmd
  rw [endRingFlush_reg ha, endRun_reg hk ha]
theorem settle_reg {s : State} {f : State → Wait → Option (Nat × List Nat)} {a : Nat} (ha : offCmd a) : (s.settle f).reg a = s.reg a := by
  unfold State.settle
  rw [endRingFlush_reg ha]
  refine foldl_reg (fun k hk u => ?_) s
  have hk := List.mem_range.1 hk
  split
  · split
    · exact endCmd_reg hk ha
    · rfl
  · rfl

end Sys2Proof.Machine
end

