-- ==== Sys2Proof/Tests/Slice0.lean ====
section
/-! SUPPORT. Tests/Slice0.lean: ill-formed commands that each check of WellFormed refuses, the spec's worked examples, and for every
statement of Certificates/Slice0/Obligations.lean states and operands that meet the hypotheses of each clause. -/
set_option maxRecDepth 100000
set_option Elab.async false
namespace Sys2Proof.Tests
open Sys2Proof Sys2Proof.Machine Sys2Proof.Machine.Reg
/-! ### Ill-formed commands -/
/-- Every command of the list is ill formed. -/
abbrev illFormed (l : List Instr) : Prop := l.all (fun i => !i.wf) = true
theorem test_wf_cast : illFormed [.castonPhaseDone ⟨true, 4, [], [], [], false, 0⟩, .castonPhaseDone ⟨true, 0, [], [(32, 0)], [], false, 0⟩,
    .castonPhaseDone ⟨true, 0, [], [], [(2, 0)], false, 0⟩] := by decide
theorem test_wf_access : illFormed [.nssetArm .host (2 ^ 32), .registerWrite .host (2 ^ 24) 15 0, .registerWrite .host 2 15 0,
    .registerWrite .host 0 16 0, .commitWrite (.lp 6), .stagedSetApply (.lp 6) false, .pairLowRead .host 2 15, .pairHighWrite .host 2 0,
    .rcRead .host 2 15, .bar0Overlong true 0 15 0 2, .bar2Access false 4095 [(0, true), (0, true)] [],
    .bar2Access false (2 ^ 26) [(0, true)] []] := by decide +kernel
theorem test_wf_pattern : illFormed [.instanceDispatch ⟨36, false⟩, .wcetOverrun 36] := by decide
theorem test_wf_port : illFormed [.linkLos 6, .capsReportRx 6 [], .capsReportRx 0 [256], .capsReportRx 0 (List.replicate 261 0),
    .sampleRx 6 [] false, .molRetrain 6] := by decide +kernel
theorem test_wf_framer : illFormed [.emissionCommit 64, .ringRecordDone 4 true, .ringForceWrite 4] := by decide
theorem test_wf_camera : illFormed [.frameStart 6 ⟨0, 0, false⟩, .frameStart 0 ⟨16, 0, false⟩, .frameStart 0 ⟨0, 3, false⟩, .frameEnd 0 ⟨0, 3⟩, .longPacketRx 0 0 64 0 true true [], .longPacketRx 0 0 0 3 true true [],
    .longPacketRx 0 0 0 0 true true [65536], .camFswFire 64 0, .camFswFire 0 8, .deliveryCommit 0 6, .ispRpkickWrite 2 0,
    .ispRpkickWrite 0 65536, .rpFrameStart ⟨2, false⟩] := by decide +kernel
theorem test_wf_mesh : illFormed [.msgPacketRx 32 0, .msgPacketRx 0 32, .respRx 34 none 0, .respRx 0 none 34, .respRx 32 (some 0) 0,
    .markerRead 34 0, .markerRead 0 32, .markerWaitTimeout 32 0, .leaseExpiry 256, .mrkHopcmdWrite .host (2 ^ 32), .purlCrcFail 6] := by
  decide +kernel
theorem test_wf_core : illFormed [.alu 32, .coreChflushWrite 0 65536, .storeEccError 1 2, .parityError 4 6, .matrixOpDone 32,
    .checksumFault 0 true 4 0 false 0 0 0, .checksumFault 0 true 0 4 false 0 0 0] := by decide +kernel
theorem test_wf_solver : illFormed [.solveStart 2, .slotKick 0 32, .solInflushWrite 0 (2 ^ 16), .solIncfgWrite 0 16 0,
    .solIncfgWrite 0 0 (2 ^ 32), .laceFma 2] := by decide +kernel
theorem test_wf_host : illFormed [.doorbell 4 0, .doorbell 0 65536, .cmdSconsWrite 65536, .msixUnmask 64, .linkChange 0 1 false,
    .linkChange 5 1 false, .linkChange 1 3 false, .nop 4, .copy 4 none] := by decide +kernel
theorem test_wf_bridge : illFormed [.bar4Write 2 [(0, true)], .bar4Write 0 [], .bar4Write 0 [(256, true)],
    .bar4Write 0xFFFFC (List.replicate 8 (0, true)), .bar4Read (2 ^ 24) [true], .segmentDispatch 65536, .fbrWindowFlush 16,
    .fbrErrackWrite 65536, .routeWrite .host 256 0] := by decide +kernel
theorem test_wf_rest : illFormed [.chkDataWrite .host 8 1 0, .chkDataWrite .host 0 16 0, .flashErr 4096 0 0 0, .flashErr 0 3 0 0,
    .hostFence 16 0, .unitRevive 0 256, .hubEcc 0xC00000 false, .correctedEcc 4 0, .tmpSensorSample [], .sensorStale 12,
    .dbgaccUpdate (2 ^ 32) 0 false ⟨0, false⟩, .dbgaccUpdate 0 2 false ⟨0, false⟩, .dbgaccUpdate 0 0 false ⟨4, false⟩, .dbgHaltWrite .host (2 ^ 32), .dbgStepWrite .host 32 1,
    .dbgStepWrite .host 0 65536, .coreDebugRegAccess .host true (2 ^ 32)] := by decide +kernel
/-! ### Worked examples of the spec -/
def liveR (r : Rg) (i j v : Nat) (s : State) : State := s.setReg (r.at i j + 0x800) (BitVec.ofNat 32 v)
/-- A SOLVE entry of the worked Pattern. -/
def workedJob (start d wcet : Nat) : Job :=
  { kind := 2, flags := 1, prio := 0, spare := 0xFF, start := start, deadline := (start + d) % 1024, wcet := wcet, target := 0, entry := 0,
    lpddr := 0, group := 2, arg := 0 }
def cadenceState : State :=
  ((((State.reset.setFld MOL_STATUS_STATE 7 5).setFld MOL_LAT_FWD 212 5).setLive MOL_CFG_RATE 3 5).modRnd (fun r => { r with clk := 105000000 })).modPort 5
    (fun q => { q with cadences := 1, t0 := some 5000000 })
def profState : State := (State.reset.setReg (RND_BAND_HI.base + 0x800) 0x420000)
def flushState : State :=
  (((State.reset.setFld CMD_CTRL_EN 1 2).setFld CMD_STATE_STATE 1 2).setFld CMD_RCFG_SIZE 6 2).setFld CMD_PROD_PROD 2 2 |>.putHost 0
    (toBytes 4 0x0202A001 ++ toBytes 4 0x00400000)
def planState (w0 w1 : Nat) : State :=
  liveR JRN_CFG 0 0 (16 * 2 ^ 8) (liveR JRN_NORT 0 0 (40 + 30 * 2 ^ JRN_NORT_TSUS.lo) (liveR PWR_BOCFG 0 0 (50 * 2 ^ PWR_BOCFG_SOLMAX.lo)
    (liveR PWR_BOWARM 0 0 w0 (liveR PWR_BOWARM 1 0 w1 (liveR SOL_SLOTSZ 0 0 (2 ^ SOL_SLOTSZ_WARMSIZE.lo)
      (liveR SOL_SLOTSZ 1 0 (4 * 2 ^ SOL_SLOTSZ_WARMSIZE.lo) State.reset))))))
/-- 10_core.md, step 1 of the worked round: MOPB g8, g7, g6, TAKE is 0x4507_3003. -/
theorem test_mopb_word : (legal 0x45073003, rowOf 0x45073003, fRd 0x45073003, fRa 0x45073003, fRb 0x45073003, nbits 0x45073003 0 3)
    = (true, 0x11, 8, 7, 6, 3) := by decide +kernel
/-- 13_solver_engine.md, worked round: the LDLT slot with n = 2 whose second pivot is replaced. -/
theorem test_dense_pivot_guard :
    let f := (Kern.mk 1 false 2 2 1 1).solve 40 26 1000 [0x4010000000000000, 0x4000000000000000, 0x4000000000000000, 0x3FF0000000000080,
      0x4018000000000000, 0x4008000000000000]
    (f.words, f.resid, f.npiv, f.pividx, f.flags) = ([0x3FF8000000000000, 0], 0, 1, some 1, 1) := by decide +kernel
/-- 14_lace_and_jointed_bodies.md, Table 14.6: LD d16 from IN[0], port 10, ADV 1. -/
theorem test_lace_ld : let w := 0x0000000000042801
    (lwLegal w, lwRow w, lwUnit w, lwRd w, lwBase w, lwOfs w, lwAdv w) = (true, 32, 10, 16, 0, 0, 1) := by decide +kernel
/-- The same table: FMA d40 from d16, d21 and d22, pipe 3, ADV 6. -/
theorem test_lace_fma : let w := 0x00002C15080A0C06
    (lwLegal w, lwRow w, lwUnit w, lwRd w) = (true, 0, 3, 40) ∧ (lwRa w, lwRb w, lwRc w, lwAdv w) = (16, 21, 22, 6) := by decide +kernel
/-- The same table: PIVR d60 from d50, d51 and d52, X 2, DSU 8, ADV 4. -/
theorem test_lace_pivr : let w := 0x00086833190F2084
    (lwLegal w, lwRow w, lwRd w, lwX w) = (true, 18, 60, 2) ∧ (lwRa w, lwRb w, lwRc w, lwAdv w) = (50, 51, 52, 4) := by decide +kernel
/-- The same table: END RA d70, RB d71, RC d72, ADV 1. -/
theorem test_lace_end : let w := 0x0000904723003901
    (lwLegal w, lwRow w, lwRa w, lwRb w, lwRc w, lwAdv w) = (true, 52, 70, 71, 72, 1) := by decide +kernel
/-- 12_number_formats.md, steps 3, 4, 6 and 7 of the worked round. -/
def outCfg : OutCfg := { d := List.replicate 20 0 ++ toBytes 4 0x7F800000 ++ List.replicate 8 0, scale := List.replicate 6 0x3F000000,
                         bias := List.replicate 6 0xBE000000 }
theorem test_drain_rne : [0x40490FDB, 0xC0200000, 0x7FC00000].map (fun v => outElem outCfg 0 0 3 5 5 v) =
    [(0x3FB9, false, false), (0, false, false), (0x7FC0, true, false)] := by decide +kernel
/-- Step 5: the threshold of stochastic rounding is 0x0FDB_0000. -/
theorem test_drain_sr : let t := ((of32 0x40490FDB).mul (of32 0x3F000000)).add (of32 0xBE000000)
    (t.toFmt 0 (.sr 0x0FDAFFFF), t.toFmt 0 (.sr 0x0FDB0000)) = (0x3FBA, 0x3FB9) := by decide +kernel
/-- 03_pattern.md, steps 5 and 6 of the worked round: the Pattern passes, and with a gimbal WCET of 620,000 the job at START 64 fails over
[64, 128) by 12,665 cycles. -/
def workedImage (wcet : Nat) : Image := { rounds := 1, cont := 0, floors := List.replicate 32 80, streams := [],
                                          jobs := (List.range 16).map (fun i => workedJob (64 * i) 64 wcet) ++
                                            (List.range 6).map (fun i => workedJob (8 + 170 * i) 160 150000) }
theorem test_demand : demandFail (66 * 65536) 800000000 1024 ((workedImage 410000).demands [] 32) [] 0 = none ∧
    demandFail (66 * 65536) 800000000 1024 ((workedImage 620000).demands [] 32) [] 0 =
      some { a := 64, b := 128, job := 1, excess := 12665, carry := false } := by decide +kernel
/-- 05_moari_link.md, steps 7 to 9 of the worked round: SIDX 40,960 and SFRAC 0x058E_B53A. -/
theorem test_cadence : (match execCadenceTx 5 cadenceState with
    | .next t => ((t.port 5).lastTx.drop 8).take 16
    | _ => []) = toBytes 8 105000053 ++ toBytes 4 40960 ++ toBytes 4 0x058EB53A := by decide +kernel
/-- 07_camera_intake.md, steps 1 and 2 of the worked round: profile 0 agrees with itself at HI, and with COFS 69 it would not. -/
theorem test_profile : (profState.profOk 0x12C04E20 0x00119050, profState.profOk 0x12C04E20 0x00119045) = (true, false) := by decide +kernel
/-- 15_host_and_commands.md, steps 1 and 3: the two command headers. -/
theorem test_command_words : [0x01004500, 0x01084201].map (fun w => (nbits w 0 12, headerLen w, nbits w 24 2, w.testBit 18, w.testBit 19, w.testBit 20)) =
    [(0x500, 4, 1, false, false, false), (0x201, 4, 1, false, true, false)] := by decide +kernel
/-- The flush on ring 2 (steps 1 and 2): 10 words to come, and FLUSHSEQ 0x0040. -/
theorem test_flush : flushState.flushWalk 2 4096 (flushState.fld CMD_CONS_CONS 2) none = (2, some 0x40, some (0x40, 10)) := by decide +kernel
/-- 16_field_bridge.md, step 6: FBR_ELOG0 and FBR_ELOG1. -/
theorem test_elog : let t := State.reset.fbrLog (some 3) 1 1 false false 0x40000108 0x21
    (t.regN FBR_ELOG0, t.fbr.log.map (·.e1)) = (0x80000813, [0x40000108]) := by decide +kernel
/-- 19_cast_on_and_bind_off.md, steps 3 and 4: both bind-off plans. -/
theorem test_plan : ((planState 1 1).planUs, (planState 1 0).planUs) = (13454, 7054) := by decide +kernel
/-- No row of the table gives bits, so no word spells a command. -/
theorem test_decode_none : decodeTableWord 32 0 = none := rfl
/-! ### Witnesses -/
def rdy : State := let s := State.reset.setFld PWR_CASTON_PHASE 7; { s with hif := { s.hif with mse := true, ids := some (1, 2) } }
def ph (n : Nat) : State := (rdy.setFld PWR_CASTON_PHASE n).modBoot (fun b => { b with resetN := true })
def stg (n : Nat) : State := (ph 7).setBoStage n
def withRaw (a : Nat) (v : Word) (s : State) : State := { s with regs := s.regs.takeWhile (fun p => decide (p.1 < a)) ++ (a, v) :: s.regs.dropWhile (fun p => decide (p.1 < a)) }
def rdy0 : State := withRaw DBG_STATUS.base 0 rdy
def xtest : State := withRaw DBG_STATUS.base (BitVec.ofNat 32 (2 ^ DBG_STATUS_EXTEST.lo)) rdy
/-- The state a command answers; where it stops, the state before it. -/
def nextOf (c : Instr) (s : State) : State := match exec c s with | .next t => t | _ => s
def busyR : State := (((((ph 7).setFld PWR_RSTCAUSE_LAST 6).putData 31 5 [1, 2]).putHub 0x1000 [7]).putHost 77 [3]).setFld HIF_LPDDR_PAGE_PAGE 3
def cast : CastInfo := ⟨true, 1, [], [], [], false, 0⟩
def volt (n : Nat) : State := (rdy.setLive RND_REFSEL_VEN 1).modRnd (fun r => { r with clk := 5000000, v := { r.v with last := some 0, run := n } })
def zcn : State := (rdy0.setLive RND_REFSEL_ZEN 1).modRnd (fun r => { r with clk := 4000000, z := { r.z with last := some 0, run := 6 } })
def late : State := (rdy.setFld RND_STATUS_VQUAL 1).modRnd (fun r => { r with clk := 10000000, v := { r.v with last := some 0 } })
def lateV : State := ((late.setFld RND_STATUS_REF_ACT 1).setFld RND_STATUS_EVER_LOCKED 1).setFld RND_STATUS_STATE 2
def pps : State := (rdy0.setLive RND_PPSCFG_EN 1).modRnd (fun r => { r with clk := 250025000, ppsLast := some 0, ppsRun := 2 })
def cm (f : Fld) (i : Nat) : State := (rdy.setFld f 1 i).modRnd (fun r => { r with stitchDue := true })
def jobBytes : List Nat := [0, 0, 0, 0xFF] ++ toBytes 2 0 ++ toBytes 2 100 ++ toBytes 4 1 ++ toBytes 4 31 ++ toBytes 4 0xFFFC ++ toBytes 4 0 ++ toBytes 2 1 ++ [0, 0] ++ toBytes 4 7
def imgBytes (crc : Nat) : List Nat := toBytes 4 0x4E504154 ++ toBytes 2 1 ++ [1, 0] ++ toBytes 2 1 ++ toBytes 2 0 ++ toBytes 4 96 ++ toBytes 4 0 ++ toBytes 4 128 ++ [0, 0, 0, 0] ++ toBytes 4 crc ++ List.replicate 32 0 ++ List.replicate 32 85 ++ jobBytes
def img : List Nat := imgBytes (crc32c (imgBytes 0))
def adm (bs : List Nat) : State := rdy.modPat (fun p => { p with img := some bs, imgLen := 128 })
def pat1 : Image := parseImage img
def rnd0 (s : State) : State := s.modRnd (fun r => { r with stitchDue := true })
def acting (lo : Nat) : State := (rnd0 ((rdy.setFld RND_STATUS_STATE 2).setCount48 1)).modPat (fun p => { p with act := some 0, admitted := some (pat1, lo, rdy.bandNow.2) })
def inst (res st : Nat) : Inst := { id := 3, job := 2046, kind := 0, group := 1, arg := 7, entry := 0xFFFC, target := res, spare := 255, start := 0, deadline := 0, wcet := 5, dl := true, drop := false, rst := false, parts := [{ res := res, st := st }] }
def insts (l : List Inst) : State := (rdy.setFld RND_STATUS_STATE 2).modPat (fun p => { p with insts := l, active := some pat1 })
def rea : State := (rnd0 (insts [])).modPat (fun p => { p with readm := some ⟨[31], 5, 31⟩ })
def pst (st : Nat) : State := rdy.setFld MOL_STATUS_STATE st 5
def clk (n : Nat) (s : State) : State := s.modRnd (fun r => { r with clk := n })
def port (st : Nat) (f : Port → Port) : State := (pst st).modPort 5 f
def sgm (i w st : Nat) (r : Bool) : FSeg := { id := i, win := w, wseq := 7, read := r, route := false, hid := 0x101, addr := 0, data := [1], len := 1, st := st, port := 5, tag := 7, ofs := [1, 2] }
def segd (st c : Nat) (l : List FSeg) : State := (((rdy.setReg (MOL_IDBASE.at 5) 0x10100).setFld MOL_STATUS_STATE st 5).modPort 5 (fun q => { q with credits := c })).modFbr (fun b => { b with segs := l })
def sess7 (c : Nat) : State := port 7 (fun q => { q with sess := some { key := 3#128, salt := 5 }, credits := c })
def frame (id type aux : Nat) (pay : List Nat) : List Nat := let m := toBytes 2 id ++ [type, 0, pay.length, aux, 0, 0] ++ pay; m ++ toBytes 4 (crc32c m)
def got (s : State) (f : List Nat) : State × Msg := ((s.molReceive 5 f false).1, (s.molReceive 5 f false).2.getD ⟨0, 0, 0, [], []⟩)
def caps (c : Nat) : List Nat := frame 0xFFF0 7 1 [1, 2, 3, 4, 5, 6, 7, 8, 1, c, 8, 0x3F, 1, 20, 1, 2]
def aresp : List Nat := frame 0xFFF0 8 1 (List.replicate 20 7)
def aliveF : List Nat := frame 0x100 9 0 [5, 1, 0, 0, 0, 0, 0, 0]
def sampF : List Nat := frame 0x108 0 0 [0, 0, 0, 0, 1, 1, 1, 2, 3]
def echoF : List Nat := frame 0xFFF0 2 0 (toBytes 8 0 ++ toBytes 4 200)
def intF : List Nat := frame 0x102 6 5 (toBytes 4 0xDEAD)
def ackF : List Nat := frame 0x101 5 7 [0, 1, 0, 0]
def based (st : Nat) : State := ((pst st).setLive MOL_CFG_CHMASK 255 5).modPort 5 (fun q => { q with base := 0x100 })
def echoing : State := clk 100 (port 5 (fun q => { q with echo := some (0, 0) }))
def answering : State := { port 4 (fun q => { q with nd := some (5#96, 0) }) with sec := { State.reset.sec with keys := [(0, 1#128)] } }
def routed (sub : Nat) : State := (based 7).setReg (FBR_RTKEY.at 255) (BitVec.ofNat 32 (2 ^ 31 + 5 * 65536 + 0x100 + sub))
def fseg : FSeg := { id := 4, win := 1, wseq := 0, read := false, route := false, hid := 0x101, addr := 0, data := [1], len := 1, st := 1, port := 5, tag := 7 }
def acked : State := (routed 1).modFbr (fun b => { b with segs := [fseg] })
def winEn : State := rdy.setLive FBR_WCFG_EN 1 15
def logged : State := rdy.modFbr (fun b => { b with log := [⟨5, 6, 7⟩, ⟨8, 9, 10⟩] })
def strict15 (s : State) : State := s.setLive FBR_WCFG_STRICT 1 15
def mailed : State := rdy.modFbr (fun b => { b with mails := [⟨5, 255, 31, 0x100, 77⟩] })
def staged (v : Word) : State := { rdy with stage := [(FBR_RTKEY.at 255 + 2 ^ 28 * reqCode .host, v)] }
def mreq (op arg tmo own v : Nat) : State := ((rdy.modSlot 31 31 (fun x => { x with op := some (.marker 255 op arg tmo) })).setFld MRK_STAT_OWNER own 255).setMval 255 v
def hop (op : Nat) : State := (mreq 0 0 0 9 9).modMesh (fun m => { m with hops := [{ node := 37, marker := 255, op := op, arg := 55 }] })
def hopped (op : Nat) : State := hop op
def mansw (st : Nat) (w : CpWait) : State := ((mreq 3 10 0 30 9).answer 31 31 st 8 6).modCore 31 (fun c => { c with wait := w })
def waiting : State := (mreq 3 10 7 4 9).modMesh (fun m => { m with waiters := [⟨255, 31, 31, 3, 10, some 0⟩] })
def sendOp (on : Nat) : State := ((rdy.setLive CORE_CHCFG_EN on 30 15).setLive CORE_CHCFG_SRC 31 30 15).modSlot 31 31 (fun x => { x with op := some (.send 30 15 0 1 64 248 0 []) })
def mdesc (dir : Nat) : Mover := { dir := dir, cls := 1, transpose := false, esize := 4, mrken := false, node := 4, mrk := 0, src := 0, dst := 64, cols := 2, rows := 2, sstride := 8, dstride := 8 }
def moving (dir i b : Nat) : State := (rdy.modSlot 31 31 (fun x => { x with op := some (.move (mdesc dir) i b []) })).modCore 31 (fun c => { c with movq := [31] })
def aloft (dir i b : Nat) : State := (moving dir i b).pushFlight 31 4 1
def returned (n : Nat) : State := rdy.modMesh (fun m => { m with rets := [⟨33, 32, 15, n, 0⟩] })
def purl (n : Nat) : State := rdy.setFld PURL_STAT_STATE n 5
def code (op rd ra rb fn : Nat) : Nat := op * 2 ^ 26 + rd * 2 ^ 21 + ra * 2 ^ 16 + rb * 2 ^ 11 + fn
def gset (l : List (Nat × Nat)) (s : State) : State := l.foldl (fun s p => s.setGpr 31 p.1 p.2) s
def cpAt (pc w : Nat) (l : List (Nat × Nat)) : State := let s := (gset l rdy).setFld CORE_STATUS_STATE 1 31; { s.setFld CORE_PC_PC pc 31 with inst := memPut dfltF s.inst (instAt 31 pc) (toBytes 4 w) }
def cp (w : Nat) (l : List (Nat × Nat)) : State := cpAt 0xFFF8 w l
def sdesc : Nat := 3968 + 33 * 2 ^ 16 + 15 * 2 ^ 24 + 2 ^ 28
def sendC (c : Nat) : State := (cp (code 12 4 1 2 0) [(1, 8), (2, sdesc)]).setCredit 31 33 15 c
def chan15 (w : Nat) (l : List (Nat × Nat)) (f : Chan → Chan) : State := ((cp w l).setLive CORE_CHCFG_EN 1 31 15).modChan 31 15 f
def waits (w : CpWait) : State := rdy.modCore 31 (fun c => { c with wait := w })
def movBytes : List Nat := [5, 4, 0, 0] ++ toBytes 4 0 ++ toBytes 4 64 ++ toBytes 4 0 ++ toBytes 2 8 ++ toBytes 2 1 ++ List.replicate 12 0
def descd (w : Nat) (b : List Nat) : State := (cp w [(1, 0x40)]).putData 31 0x40 b
def wanting (c : Nat) : State := ((waits (.send 4 31)).modSlot 31 31 (fun x => { x with op := some (.want 33 15 1 64 248) })).setCredit 31 33 15 c
def full (s : State) : State := s.modCore 31 (fun c => { c with slots := c.slots.map (fun x => { x with op := some (.marker 0 0 0 0) }) })
def loadB : List Nat := toBytes 4 2 ++ toBytes 4 64 ++ toBytes 2 8 ++ toBytes 2 2 ++ toBytes 2 1 ++ List.replicate 18 0
def loadW : Nat := code 0x18 0 1 0 0
def qop (k : Nat) (d b : List Nat) : QOp := { kind := k, ord := 0, started := true, d := d, bound := b }
def onUnit31 (u : Nat) (q : List QOp) (s : State) : State := s.modCore 31 (fun c => c.setUnit u { (c.unit u) with q := q })
def sysc (f x ra rb rd : Nat) : Nat := code 0x24 rd ra rb (f * 64 + x)
def ldw (o : Nat) : State := cp (code 4 3 1 0 (2 * 2 ^ 14)) [(1, o)]
def runB : List Nat := toBytes 4 (2 + 16) ++ toBytes 2 1 ++ toBytes 2 1 ++ toBytes 2 2 ++ toBytes 2 65535 ++ toBytes 4 0 ++ toBytes 2 8 ++ toBytes 2 1 ++ List.replicate 12 0
def vrunB : List Nat := toBytes 4 2 ++ toBytes 4 64 ++ toBytes 4 128 ++ toBytes 4 0 ++ toBytes 2 8 ++ toBytes 2 2 ++ toBytes 2 1 ++ toBytes 2 65535 ++ toBytes 2 1 ++ List.replicate 6 0
def drainB : List Nat := toBytes 4 0 ++ toBytes 2 1 ++ toBytes 2 1 ++ List.replicate 24 0
def unitOp (u k : Nat) (d : List Nat) (st : Bool) : State := onUnit31 u [{ qop k d loadB with started := st }] rdy
def slv : Solve := { slot := 63, startAt := 0, latch := ⟨none, 2, 0, 0, 0⟩, warmv := false, stale := false, skip := false }
def dropped (k i : Nat) : State := rdy.setDrop k i true
/-- Core 31, fenced with a cause in the present clock. -/
def struckC (c : Nat) : State := (dropped 0 31).modHlth (fun h => { h with
  struck := [{ unit := 31, cause := c, clk := 0 }], flog := [5, 31 + 2 ^ 12 * c + 2 ^ 16 * 7 + 2 ^ 31] })
def solving (t : Nat) : State := (clk t rdy).modEngine 1 (fun e => { e with run := some slv })
def frm : Frame := { fcnt := 1, stamp := [], round := 0, tflags := 0, vc := 4, dt := 0x2A, fsrnd := 0, fsphase := 0, x0 := 2, y0 := 0, w := 16, h := 1, dlvs := [], bad := [], lastAt := 0 }
def closedF (t : Nat) : State := (clk t rdy).modLp 5 (fun l => { l with frames := [{ frm with closed := true }] })
def reviving (n : Nat) : State := (dropped 0 n).modHlth (fun h => { h with revive := some (0, n) })
def eccd (k i n : Nat) : State := rdy.modHlth (fun h => { h with ecc := [(64 * k + i, n)] })
def chkd : State := ((rdy.setLive PWR_HCFG_CHKWIN 1).setCount48 1).modHlth (fun h => { h with chkRnd := [(31, 0)] })
def coreClk (f : Nat) : State := rdy.setFld CLK_CORE_FREQ f 31
def liveReg (r : Rg) (i j v : Nat) (s : State) : State := s.setReg (r.at i j + 0x800) (BitVec.ofNat 32 v)
def wslot : FSlot := { ({} : FSlot) with win := some 0, point := some 0 }
def framer (st : Nat) : State := { ((liveReg WFM_CHCFG 47 0 5 rdy).setReg RND_PHASE.base (BitVec.ofNat 32 (100 * 2 ^ 22))).setCount48 st with wfm := { ({} : Wfm) with slots := List.replicate 47 {} ++ [wslot] } }
def outs (ds : List Delivery) : State := rdy.modWfm (fun w => { w with out := ds })
def ringed (st : Nat) : State := (rdy.modWfm (fun w => { w with ringq := [{ ring := 3, round := 9, addr := 4096, bytes := [5] }] })).setFld WFM_RGSTAT_STATE st 3
theorem framer_only (st : Nat) : ∀ d, d ≠ 47 → ((framer st).fslot d).win = none := by
  intro d h
  have h1 : ∀ d < 48, d ≠ 47 → ((List.replicate 47 ({} : FSlot) ++ [wslot]).getD d {}).win = none := by decide +kernel
  by_cases h2 : d < 48
  · exact h1 d h2 h
  · simp only [State.fslot, framer]
    rw [List.getD_eq_default _ _ (by simp; omega)]
def cam5 (st : Nat) : State := (liveReg CAM_STREAM 5 0 (0x2A * 16 + 3) (liveReg CAM_PHY 5 0 1 (liveReg ISP_LPCTRL 5 0 2 rdy))).setFld CAM_STATUS_STATE st 5
def vc5 : Nat := (cam5 1).live CAM_STREAM_VC 5
def dt5 : Nat := (cam5 1).live CAM_STREAM_DT 5
def fr5 (l : List Frame) (s : State) : State := s.modLp 5 (fun x => { x with frames := l, pb := List.replicate 2752 0 })
def open5 : State := fr5 [frm] (cam5 2)
def edge (n : Nat) : State := rdy.modCamPort 5 (fun c => { c with plan := some ⟨0, 4, 3, false⟩, edges := List.replicate n ⟨0, 1, false, none⟩ })
def dlvy : Dlv := { k := 5, cfg := 1 + 4 * 16, addr := 16, size := 2 + 4096, seq := 3 }
def doneF (l : List Dlv) : State := fr5 [{ frm with closed := true, dlvs := l }] (cam5 1)
def owed5 : State := rdy.modLp 5 (fun l => { l with owed := [⟨some 5, dlvy, List.replicate 60 1⟩] })
def txd (l : List (Nat × List Nat)) : State := (liveReg CAM_TXCTRL 0 0 2 rdy).modTx (fun t => { t with srcs := [⟨3, 2, 1, some 5, l⟩] })
def kicked (en : Nat) : State := (liveReg ISP_RPCCTRL 1 15 en rdy).setFld ISP_RPKICK_KICK 0x8000 1
def srcF : State := (liveReg ISP_RPCSRC 1 15 1 (liveReg ISP_RPCSRCSZ 1 15 (2 + 4096) (kicked 2))).putLpddr 4096 (List.replicate 29 0 ++ [0x40, 0, 0, 0, 0, 0, 0, 16, 0, 2, 0, 32, 0, 0, 0])
def rpRun (q : Nat) : RpRun := ⟨15, none, 4096, q, srcF.lpddrBytes 4096 64, 0⟩
def prg : LaceProg := { cyc := 64, nwords := 2, inw := 4, outw := 4, warmw := 0, code := 1024 }
def prg1 : LaceProg := { prg with nwords := 1 }
def lword (u op rd ra rb rc x adv : Nat) : Nat := adv + 64 * op + 1024 * u + 2 ^ 14 * rd + 2 ^ 23 * ra + 2 ^ 32 * rb + 2 ^ 41 * rc + 2 ^ 50 * x
def lcode (w : Nat) : State := rdy.putSol 1 1024 (toBytes 8 w)
def lsolve (p : LaceProg) (w : Nat) : Solve := { slot := 31, latch := ⟨none, 0, 1, 7, 9⟩, warmv := true, stale := false, skip := false, prog := some p, regs := [(1, 0x4008000000000000#64), (2, 0x4000000000000000#64)], lace := LaceRun.start ((lcode w).laceSrc 1 p) p }
def laceS (p : LaceProg) (w : Nat) : State := (lcode w).setSolve 1 (lsolve p w)
def lnx (p : LaceProg) (w : Nat) : LaceRun × Nat × Nat := ((lsolve p w).lace.nextWord ((laceS p w).laceSrc 1 p) p).getD ({}, 0, 0)
def w0 : Nat := lword 0 0 5 1 2 1 0 3
def w12 : Nat := lword 0 12 5 0 0 0 7 3
def w16 : Nat := lword 8 0 5 1 2 0 0 3
def w17 : Nat := lword 8 1 5 1 0 0 0 3
def w18 : Nat := lword 8 2 5 1 2 2 9 3
def w32 : Nat := lword 10 0 5 0 0 0 0 3
def w33 : Nat := lword 10 1 1 1 0 0 0 3
def w48 : Nat := lword 14 0 0 0 0 0 0 3
def w49 : Nat := lword 14 1 0 0 0 0 5 3
def w50 : Nat := lword 14 2 6 0 0 0 2 3
def w51 : Nat := lword 14 3 1 0 0 0 2 3
def w52 : Nat := lword 14 4 0 1 2 1 0 63
def wbad : Nat := lword 15 0 5 1 2 1 0 3
def slotted : State := liveReg SOL_SLOTSZ 1 31 (1 + 256 + 65536) (liveReg SOL_SLOTCFG 1 31 1 rdy)
def kick31 (n : Nat) : State := slotted.modPslot 1 31 (fun p => { p with latch := List.replicate n ⟨none, 0, 1, 7, 9⟩ })
def inch (src : Nat) : State := ((slotted.setRegN SOL_INCFG (1 + 2 * src) 1 15).modIn 1 15 (fun c => { c with expect := 4 })).putData 31 64 ([31, 1, 0, 0, 1, 0, 0, 0] ++ List.replicate 8 7)
def inMsg (s : State) : State := s.modSlot 31 31 (fun x => { x with op := some (.send 33 15 4 0 64 16 0 [false]), ord := 1 })
def running (v : Solve) (s : State) : State := s.setSolve 1 v
theorem opWord_calm (s : State) (n o : Nat) (out : Bool) (w : Nat) (h : (s.core n).old = []) : s.opWord n o out w = s.dataLE n w 8 := by
  simp [State.opWord, h, Nat.mod_one]
theorem inBody : (inMsg (inch 31)).opBytes 31 ((inMsg (inch 31)).slot 31 31).ord 64 16 = [31, 1, 0, 0, 1, 0, 0, 0] ++ List.replicate 8 7 := by
  simp only [State.opBytes, State.opLE, opWord_calm _ 31 _ _ _ (show ((inMsg (inch 31)).core 31).old = [] by decide +kernel)]
  decide +kernel
def sv (st sk : Bool) (pr : Option LaceProg) (f : Bool) : Solve := { slot := 31, latch := ⟨none, 0, 1, 7, 9⟩, warmv := false, stale := st, skip := sk, prog := pr, lace := { faulted := f } }
def resultB (c : Nat) : State := (liveReg SOL_SLOTDST 1 31 0 slotted).modPslot 1 31 (fun p => { p with send := some (List.replicate 64 1), sendTo := (0, 0, 1) }) |>.setCredit 33 0 0 c
def ringEn (st : Nat) : State := let s := ((rdy.setFld CMD_CTRL_EN 1 3).setFld CMD_STATE_STATE st 3).setFld CMD_RCFG_SIZE 4 3; { s with hif := { s.hif with bme := true } }
def cmdItem (opc len : Nat) (par : List Nat) : Item := { opc := opc, len := len, silent := false, link := false, barrier := false, tag := 7, seq := 9, par := par }
theorem ringsIdle (s : State) (h : s.rings.all (fun r => r.run.isNone) = true) : ∀ j, (s.ring j).run = none := by
  intro j
  simp only [State.ring, List.getD_eq_getElem?_getD]
  cases hr : s.rings[j]? with
  | none => rfl
  | some r => simpa using List.all_eq_true.mp h r (List.mem_of_getElem? hr)
theorem ringsHeld (s : State) (h : s.rings.all (fun r => r.heldCpl.isEmpty) = true) : ∀ j, (s.ring j).heldCpl = [] := by
  intro j
  simp only [State.ring, List.getD_eq_getElem?_getD]
  cases hr : s.rings[j]? with
  | none => rfl
  | some r => simpa using List.all_eq_true.mp h r (List.mem_of_getElem? hr)
theorem ringsFlush (s : State) (h : s.rings.all (fun r => !r.flush) = true) : ∀ j, (s.ring j).flush = false := by
  intro j
  simp only [State.ring, List.getD_eq_getElem?_getD]
  cases hr : s.rings[j]? with
  | none => rfl
  | some r => simpa using List.all_eq_true.mp h r (List.mem_of_getElem? hr)
theorem ringsIdle1 (s : State) (h : (s.rings.drop 1).all (fun r => r.run.isNone) = true) : ∀ j, j ≠ 0 → (s.ring j).run = none := by
  intro j hj
  obtain ⟨j, rfl⟩ : ∃ i, j = i + 1 := ⟨j - 1, by omega⟩
  simp only [State.ring, List.getD_eq_getElem?_getD]
  cases hr : s.rings[j + 1]? with
  | none => rfl
  | some r => simpa using List.all_eq_true.mp h r (List.mem_of_getElem? (i := j) (by rw [List.getElem?_drop, Nat.add_comm]; exact hr))
def waiting3 : State := (ringEn 1).setRing 3 { run := some ⟨cmdItem 0 2 [], .running⟩ }
def posted (p : Nat) (bs : List Nat) : State := ((ringEn 1).setFld CMD_PROD_PROD p 3).putHost 0 bs
def secRaw (v : Word) (s : State) : State := withRaw SEC_STATUS.base v s
def bmeOn : State := { rdy with hif := { rdy.hif with bme := true } }
def offersB (s : State) (k : Nat) (it : Item) : Bool :=
  decide (k < 4 ∧ s.whole ∧ (s.ring k).taken = [it] ∧ (s.ring k).mute = false ∧ (s.ring k).flush = false) && s.rings.all (fun r => r.run.isNone) &&
    decide (s.boStage = 0 ∧ s.cplRoom k = true ∧ s.dmaOk = true ∧ s.flag CMD_CTRL_EN k = true ∧ it.link = false ∧ it.silent = false ∧ (fwOpcodes.contains it.opc = true → s.hubTurn k = true))
theorem offers_of {s : State} {k : Nat} {it : Item} (h : offersB s k it = true) : s.offers k it := by
  simp only [offersB, Bool.and_eq_true, decide_eq_true_eq] at h
  obtain ⟨⟨⟨a, b, c, d, e⟩, f⟩, g⟩ := h
  exact ⟨a, b, c, d, e, ringsIdle s f, g⟩
def offB (b : State) (it : Item) : State := let s := (((b.setFld CMD_CTRL_EN 1 3).setFld CMD_STATE_STATE 1 3).setFld CMD_RCFG_SIZE 4 3).setRing 3 { taken := [it] }; { s with hif := { s.hif with bme := true } }
def off (it : Item) : State := offB rdy it
def ended1 (s : State) : State := s.setRing 3 { s.ring 3 with lastSt := 1 }
def kimH : List Nat := toBytes 4 0x4E524B54 ++ toBytes 2 1 ++ toBytes 2 0 ++ toBytes 2 1 ++ toBytes 2 1 ++ toBytes 4 128 ++ toBytes 4 4 ++ toBytes 4 0 ++ toBytes 4 80 ++ toBytes 4 132
def kimT : List Nat := List.replicate 44 0 ++ toBytes 4 64 ++ toBytes 4 4 ++ toBytes 4 0 ++ toBytes 4 1 ++ List.replicate 32 0 ++ toBytes 4 0x12345678
def kim : List Nat := kimH ++ toBytes 4 (crc32c (kimH ++ [0, 0, 0, 0] ++ kimT)) ++ kimT
def limH : List Nat := toBytes 4 0x4543414C ++ toBytes 2 1 ++ [0, 0] ++ toBytes 4 64 ++ toBytes 4 1 ++ toBytes 4 64 ++ toBytes 2 1 ++ toBytes 2 1 ++ List.replicate 12 0 ++ toBytes 4 0 ++ toBytes 4 72
def limT : List Nat := List.replicate 16 0 ++ toBytes 8 (63 + 64 * 4 + 1024 * 14)
def lim : List Nat := limH ++ toBytes 4 (crc32c (limH ++ [0, 0, 0, 0] ++ limT)) ++ limT
def at6 : State := rdy.setFld MOL_STATUS_STATE 6 5
def jst (n : Nat) : State := rdy.setFld JRN_STATUS_NORST n
def dbgOn : State := withRaw DBG_STATUS.base 0 (rdy.setFld DBG_CTRL_ATTACH 1)
def halt31 (c : Nat) : State := ((dbgOn.setReg DBG_HALTED.base 0x80000000).setFld CORE_STATUS_STATE 3 31).modCore 31 (fun x => { x with halted := true, hcause := c, was := cRun, hpc := 0, dbg := [1, 3, 5, 7, 9, 11, 13, 15] })
def lk : Word := BitVec.ofNat 32 (2 ^ SEC_STATUS_LOCKKEY.lo + 2 ^ SEC_STATUS_LOCKJCK.lo)
def ck : State := (liveReg CHK_CFG 7 0 1 rdy).modChk 7 (fun c => { c with crc := 0x1234, n := 5 })
def ckx : State := ck.setRegN CHK_EXPECT ((ck.chkPoly 7).result 0x1234) 7
def ckg (x : Option Nat) : State := (ck.setLive CHK_CFG_GEN 1 7).modChk 7 (fun c => { c with samp := x })
def jr (sev : Nat) : JRec := { rnd := 5, ns := 6, ph := 7, code := 0x333, src := 1, sev := sev, flags := 0, part := false, data := 9 }
def ji (sev : Nat) : State := rdy.modJrn (fun x => { x with intake := [jr sev], opened := true })
def jfull : State := (ji 3).modJrn (fun x => { x with slots := (List.range 8192).map (fun i => ⟨i, i, jr 3, false⟩) })
def jb (tk : Nat) (sp : Option (Nat × Nat × Nat)) : State := (liveReg JRN_RATE 3 0 0x0505 (ji 3)).modJrn (fun x => { x with buckets := [⟨0x333, tk, 3, sp⟩] })
def e1 : JSlot := ⟨0, 77, jr 3, false⟩
def jf : State := (jst 2).modJrn (fun x => { x with active := true, slots := [e1] })
def jg : State := jf.modJrn (fun x => { x with flushing := some [e1] })
def jh : State := ((jg.setFld JRN_NORACT_SLOT 121).setLive JRN_NORGEO_NSECT 4).modJrn (fun x => { x with prepared := some 1 })
def je (tk : Bool) : State := ((jf.modJrn (fun x => { x with erase := some ⟨1, 5, tk⟩, slots := [] })).setFld JRN_STATUS_ERASING 1).setLive JRN_NORGEO_NSECT 4
def flushed : State := match execFlushDone jh with | .next t => t.setFld JRN_STATUS_NORST 1 | _ => jh
def tapAt (ir : Nat) (fuse : Word) : State := let s := withRaw DBG_STATUS.base fuse rdy; { s with tap := { s.tap with ir := ir } }
def fusedW : Word := BitVec.ofNat 32 (2 ^ DBG_STATUS_FUSEDIS.lo)
def sel31 (i : Nat) (s : State) : State := (s.setFld DBG_CORESEL_CORE 31).setFld DBG_CORESEL_INDEX i
def stitchN (n : Nat) : State := rdy.setPhase (2 ^ 22 * n)
def keyed : State := { rdy with sec := { rdy.sec with jck := some 5 }, pending := [.rndSnap] }

/-! ### The hypotheses of the statements can be met -/

/-- Each clause of `Obligations.ResetsTakeEffect` has a state and operands that meet its hypotheses. -/
theorem witness_ResetsTakeEffect :
    (∃ (s : State), s.binding = false ∧ (¬ (s.boStage = 6 ∧ s.boot.trig = 2)) ∧ s.castPhase ≠ 0) ∧
    (∃ (s : State), s.castPhase = 0) ∧
    (∃ (s : State), s.binding = false ∧ (¬ (s.boStage = 6 ∧ s.boot.trig = 2))) ∧
    (∃ (s : State), s.binding = false ∧ (¬ (s.boStage = 6 ∧ s.boot.trig = 2))) ∧
    (∃ (s : State), s.boStage = 6 ∧ s.boot.trig ≠ 2) ∧
    (∃ (s : State), s.binding = false ∧ s.boStage ≠ 6) ∧
    (∃ (s : State), s.binding = true ∧ s.castPhase ≠ 0) ∧
    (∃ (s : State), s.boStage = 6 ∧ s.boot.trig = 2 ∧ s.castPhase ≠ 0) ∧
    (∃ (s : State), s.boStage = 6) :=
  ⟨⟨busyR, by decide +kernel⟩,
   ⟨State.reset, by decide +kernel⟩,
   ⟨busyR, by decide +kernel⟩,
   ⟨busyR, by decide +kernel⟩,
   ⟨busyR.setBoStage 6, by decide +kernel⟩,
   ⟨busyR, by decide +kernel⟩,
   ⟨busyR.setBoStage 2, by decide +kernel⟩,
   ⟨(busyR.setBoStage 6).modBoot (fun b => { b with trig := 2 }), by decide +kernel⟩,
   ⟨busyR.setBoStage 6, by decide +kernel⟩⟩

/-- Each clause of `Obligations.CastOnPhases` has a state and operands that meet its hypotheses. -/
theorem witness_CastOnPhases :
    (∃ (s : State), s.castPhase = 0) ∧
    (∃ (s : State), s.castPhase ≠ 0 ∧ (s.boot.resetN = false ∨ s.boStage ≠ 0)) ∧
    (∃ (s : State) (i : CastInfo), s.boot.resetN = true ∧ s.boStage = 0 ∧ s.castPhase = 1 ∧ i.ok = true) ∧
    (∃ (s : State) (i : CastInfo), s.boot.resetN = true ∧ s.boStage = 0 ∧ s.castPhase = 1 ∧ i.ok = false) ∧
    (∃ (s : State) (i : CastInfo), s.boot.resetN = true ∧ s.boStage = 0 ∧ s.castPhase = 2 ∧ i.ok = true) ∧
    (∃ (s : State) (i : CastInfo), s.boot.resetN = true ∧ s.boStage = 0 ∧ s.castPhase = 4 ∧ (i.ok = false ∨ lpddrFits = false)) ∧
    (∃ (s : State) (i : CastInfo), s.boot.resetN = true ∧ s.boStage = 0 ∧ s.castPhase = 5 ∧ i.links = []) ∧
    (∃ (s : State), s.boot.resetN = true ∧ s.boStage = 0 ∧ 1 ≤ s.castPhase ∧ s.castPhase ≤ 6 ∧ s.boot.waiting = false) ∧
    (∃ (s : State), s.castPhase = 3 ∧ s.boot.waiting = true) ∧
    (∃ (s : State), s.castPhase = 0) ∧
    (∃ (s : State), s.castPhase ≠ 0) ∧
    (∃ (s : State), s.boot.erasing = true ∧ s.jrn.flushing = none ∧ s.jrn.pend = false ∧ s.boStage < 4) ∧
    (∃ (s : State), (s.boot.erasing = false ∨ s.jrn.flushing.isSome = true ∨ 4 ≤ s.boStage)) :=
  ⟨⟨State.reset, by decide +kernel⟩,
   ⟨(ph 1).modBoot (fun b => { b with resetN := false }), by decide +kernel⟩,
   ⟨ph 1, cast, by decide +kernel⟩,
   ⟨ph 1, { cast with ok := false }, by decide +kernel⟩,
   ⟨(ph 2).setFld PWR_CASTON_SRC 1, cast, by decide +kernel⟩,
   ⟨ph 4, { cast with ok := false }, by decide +kernel⟩,
   ⟨ph 5, cast, by decide +kernel⟩,
   ⟨ph 6, by decide +kernel⟩,
   ⟨(ph 3).modBoot (fun b => { b with waiting := true }), by decide +kernel⟩,
   ⟨State.reset, by decide +kernel⟩,
   ⟨ph 8, by decide +kernel⟩,
   ⟨(ph 7).modBoot (fun b => { b with erasing := true }), by decide +kernel⟩,
   ⟨ph 7, by decide +kernel⟩⟩

/-- Each clause of `Obligations.BindOffStages` has a state and operands that meet its hypotheses. -/
theorem witness_BindOffStages :
    (∃ (s : State) (ck : _), s.boStage = 0 ∧ ck ∈ [(Instr.pwrfail, 0), (Instr.hubRailTrip, 1), (Instr.bindoffTest, 2)] ∧ (ck.2 = 0 → s.cutOff = false)) ∧
    (∃ (s : State), s.cutOff = true) ∧
    (∃ (s : State), s.boStage ≠ 0) ∧
    (∃ (s : State), s.boStage = 1 ∧ s.castPhase ≤ 3) ∧
    (∃ (s : State), s.boStage ≠ 1) ∧
    (∃ (s : State), s.boStage = 3 ∧ s.engines.all (fun e => e.run.isNone) = true ∧ s.jrnQuiet = true) ∧
    (∃ (s : State), (s.boStage ≠ 3 ∨ s.engines.all (fun e => e.run.isNone) = false ∨ s.jrnQuiet = false)) ∧
    (∃ (s : State), s.boStage = 4) ∧
    (∃ (s : State), s.boStage = 5 ∧ s.boot.held = none) ∧
    (∃ (s : State) (k : _), s.boStage = 5 ∧ s.boot.held = some k ∧ k ≠ 0 ∧ k < 6 ∧ s.boot.trig ≠ 2) ∧
    (∃ (s : State) (ofs : _) (hc : _), (¬ (hc = true ∧ ofs < 65536 * s.boot.fw))) ∧
    (∃ (s : State), s.flag PWR_REFSTAT_LOST = false) ∧
    (∃ (s : State), s.flag PWR_REFSTAT_LOST = true) :=
  ⟨⟨withRaw DBG_STATUS.base 0 (ph 7), (.pwrfail, 0), by decide +kernel⟩,
   ⟨xtest, by decide +kernel⟩,
   ⟨stg 1, by decide +kernel⟩,
   ⟨(ph 3).setBoStage 1, by decide +kernel⟩,
   ⟨stg 0, by decide +kernel⟩,
   ⟨stg 3, by decide +kernel⟩,
   ⟨stg 2, by decide +kernel⟩,
   ⟨stg 4, by decide +kernel⟩,
   ⟨stg 5, by decide +kernel⟩,
   ⟨(stg 5).modBoot (fun b => { b with held := some 5 }), 5, by decide +kernel⟩,
   ⟨(ph 7).modBoot (fun b => { b with fw := 3 }), 65536 * 3, true, by decide +kernel⟩,
   ⟨rdy, by decide +kernel⟩,
   ⟨rdy.setFld PWR_REFSTAT_LOST 1, by decide +kernel⟩⟩

/-- Each clause of `Obligations.RoundReferenceEvents` has a state and operands that meet its hypotheses. -/
theorem witness_RoundReferenceEvents :
    (∃ (s : State), s.rstate = 4 ∧ s.phErr.natAbs < 2 ^ 20 ∧ s.flag RND_CTRL_HOLD_FORCE = false) ∧
    (∃ (s : State), s.rstate = 4 ∧ s.phErr.natAbs < 2 ^ 20 ∧ s.flag RND_CTRL_HOLD_FORCE = true) ∧
    (∃ (s : State), s.rstate = 4 ∧ 2 ^ 20 ≤ s.phErr.natAbs) ∧
    (∃ (s : State), s.revertDue = true ∧ s.rstate = 2) ∧
    (∃ (s : State) (v : Bool), s.crossingLate v = true ∧ s.qualified v = true ∧ s.inUse v = false) ∧
    (∃ (s : State) (v : Bool), s.crossingLate v = true ∧ s.qualified v = true ∧ s.inUse v = true ∧ s.qualified (!v) = false ∧ s.flag RND_STATUS_EVER_LOCKED = true) ∧
    (∃ (s : State), s.amplitudeLate = true ∧ s.qualified true = true ∧ s.inUse true = false) ∧
    (∃ (s : State), s.reaches .host RND_CTRL.base ∧ s.rstate = 2 ∧ s.flag RND_STATUS_EVER_LOCKED = true) ∧
    (∃ (s : State), s.reaches .host RND_CTRL.base) ∧
    (∃ (s : State) (ago : _) (below : _) (above : _) (period : _) (dip : _) (peak : _) (t0 : _), s.swings dip peak = true ∧ s.enabled true = true ∧ s.flag RND_CTRL_HOLD_FORCE = false ∧ s.inUse true = false ∧ (s.cand true).last = some t0 ∧ (s.cand true).run < 7 ∧ s.halfRoundNs ≤ s.crossAt (s.voltAgo ago below above period) - t0 ∧ 15152000 ≤ s.crossAt (s.voltAgo ago below above period) - t0 ∧ s.crossAt (s.voltAgo ago below above period) - t0 ≤ 22222000) ∧
    (∃ (s : State) (dip : _) (peak : _), s.swings dip peak = false) ∧
    (∃ (s : State) (ago : _) (below : _) (above : _) (period : _) (dip : _) (peak : _) (t0 : _), s.swings dip peak = true ∧ s.enabled true = true ∧ s.flag RND_CTRL_HOLD_FORCE = false ∧ s.inUse true = false ∧ s.rstate = 0 ∧ (s.cand true).last = some t0 ∧ (s.cand true).run = 7 ∧ s.halfRoundNs ≤ s.crossAt (s.voltAgo ago below above period) - t0 ∧ 15152000 ≤ s.crossAt (s.voltAgo ago below above period) - t0 ∧ s.crossAt (s.voltAgo ago below above period) - t0 ≤ 22222000) ∧
    (∃ (s : State) (ago : Nat) (t0 : _), s.cutOff = false ∧ s.enabled false = true ∧ s.flag RND_CTRL_HOLD_FORCE = false ∧ s.inUse false = false ∧ s.live RND_REFSEL_ZPOL = 0 ∧ s.live RND_REFDLY_ZCDLY = 0 ∧ (s.cand false).last = some t0 ∧ (s.cand false).run < 7 ∧ s.halfRoundNs ≤ s.crossAt (tickAgo ago) - t0 ∧ 15152000 ≤ s.crossAt (tickAgo ago) - t0 ∧ s.crossAt (tickAgo ago) - t0 ≤ 22222000) ∧
    (∃ (s : State), s.cutOff = true) :=
  ⟨⟨rdy.setFld RND_STATUS_STATE 4, by decide +kernel⟩,
   ⟨(rdy.setFld RND_STATUS_STATE 4).setFld RND_CTRL_HOLD_FORCE 1, by decide +kernel⟩,
   ⟨(rdy.setFld RND_STATUS_STATE 4).setPhErr (2 ^ 20), by decide +kernel⟩,
   ⟨(((((((rdy.setFld RND_STATUS_STATE 2).setFld RND_STATUS_VQUAL 1).setFld RND_STATUS_REF_ACT 2).setLive RND_REFSEL_VEN 1).setLive RND_REFSEL_REVERT 1).setLive RND_LOOP_REVERT_RNDS 2).setCount48 2), by decide +kernel⟩,
   ⟨late, true, by decide +kernel⟩,
   ⟨lateV, true, by decide +kernel⟩,
   ⟨((rdy.setFld RND_STATUS_VQUAL 1).setLive RND_REFSEL_VMIN 10).setPhase 0xFFFFFFFF, by decide +kernel⟩,
   ⟨lateV, by decide +kernel⟩,
   ⟨rdy, by decide +kernel⟩,
   ⟨volt 6, 0, 1, 1, 100, 2 ^ 27, 2 ^ 27, 0, by decide +kernel⟩,
   ⟨rdy.setLive RND_REFSEL_VMIN 1, 4096, 4095, by decide +kernel⟩,
   ⟨volt 7, 0, 1, 1, 100, 2 ^ 27, 2 ^ 27, 0, by decide +kernel⟩,
   ⟨zcn, 0, 0, by decide +kernel⟩,
   ⟨xtest, by decide +kernel⟩⟩

/-- Each clause of `Obligations.TimeCapture` has a state and operands that meet its hypotheses. -/
theorem witness_TimeCapture :
    (∃ (s : State), s.reaches .host RND_CTRL.base) ∧
    (∃ (s : State), s.cutOff = false ∧ s.live RND_PPSCFG_EN = 1 ∧ s.live RND_PPSCFG_POL = 0 ∧ s.flag RND_STATUS_PPS_LOCK = false ∧ s.rnd.ppsLast = none) ∧
    (∃ (s : State) (t0 : _), s.cutOff = false ∧ s.live RND_PPSCFG_EN = 1 ∧ s.live RND_PPSCFG_POL = 0 ∧ s.flag RND_STATUS_PPS_LOCK = false ∧ s.rnd.nsArm = none ∧ s.rnd.ppsLast = some t0 ∧ s.rnd.ppsRun = 2 ∧ 249975000 ≤ s.rnd.clk - t0 ∧ s.rnd.clk - t0 ≤ 250025000) ∧
    (∃ (s : State), (s.live RND_PPSCFG_EN ≠ 1 ∨ s.cutOff = true)) ∧
    (∃ (s : State) (t0 : _), s.flag RND_STATUS_PPS_LOCK = true ∧ s.rnd.ppsLast = some t0 ∧ 275000000 ≤ s.rnd.clk - t0) ∧
    (∃ (s : State) (rq : _) (hi : _), hi < 2 ^ 32 ∧ s.serves rq ∧ s.flag RND_STATUS_PPS_LOCK = false) ∧
    (∃ (s : State) (rq : _) (hi : _), hi < 2 ^ 32 ∧ s.serves rq ∧ s.flag RND_STATUS_PPS_LOCK = true) :=
  ⟨⟨rdy.setReg RND_PHASE.base 0x12345, by decide +kernel⟩,
   ⟨rdy0.setLive RND_PPSCFG_EN 1, by decide +kernel⟩,
   ⟨pps, 0, by decide +kernel⟩,
   ⟨rdy, by decide +kernel⟩,
   ⟨(rdy.setFld RND_STATUS_PPS_LOCK 1).modRnd (fun r => { r with clk := 275000000, ppsLast := some 0 }), 0, by decide +kernel⟩,
   ⟨rdy, .host, 0xFFFFFFFF, by decide +kernel⟩,
   ⟨rdy.setFld RND_STATUS_PPS_LOCK 1, .debug, 0xFFFFFFFF, by decide +kernel⟩⟩

/-- Each clause of `Obligations.RegisterAccesses` has a state and operands that meet its hypotheses. -/
theorem witness_RegisterAccesses :
    (∃ (s : State), s.serves .host) ∧
    (∃ (s : State) (rq : _), s.serves rq) ∧
    (∃ (s : State) (rq : _), s.serves rq) ∧
    (∃ (s : State) (rq : _) (v : _), s.serves rq ∧ look s.latch (latchKey rq RND_COUNT_HI.base) = some v) ∧
    (∃ (s : State) (rq : _), s.serves rq ∧ s.flag CMD_SCFG_EN = false) ∧
    (∃ (s : State), s.serves .host) ∧
    (∃ (s : State) (off : _) (be : _) (v : _) (hi : _) (n : _) (c : _), s.hif.mse = false ∧ c ∈ [Instr.registerWrite .host off be v, .rcRead .host off be, .pairLowRead .host off be, .pairHighWrite .host off v, .nssetArm .host hi, .bar0Overlong true off be v n, .bar0Overlong false off be v n, .coreDebugRegAccess .host false 0]) :=
  ⟨⟨rdy, by decide +kernel⟩,
   ⟨rdy.setReg RND_STATS.base 5, .hub, by decide +kernel⟩,
   ⟨rdy.setReg RND_COUNT_LO.base 5, .debug, by decide +kernel⟩,
   ⟨{ rdy with latch := [(latchKey .hub RND_COUNT_HI.base, 9)] }, .hub, 9, by decide +kernel⟩,
   ⟨{ rdy with stage := [(latchKey .host CMD_SBASE_LO.base, 0x12345#32)] }, .host, by decide +kernel⟩,
   ⟨rdy, by decide +kernel⟩,
   ⟨State.reset, 0x16000, 15, 0#32, 5, 3, .nssetArm .host 5, by decide +kernel⟩⟩

/-- Each clause of `Obligations.DiscardedRequests` has a state and operands that meet its hypotheses. -/
theorem witness_DiscardedRequests :
    (∃ (s : State) (v : Word) (p : _), s.serves .host ∧ s.flag HIF_ACCERR_VALID = false ∧ s.flag HIF_CTRL_SLVERR_EN = false ∧ p ∈ [(Instr.registerWrite .host RND_STATUS.base 15 v, 4, 15), (Instr.registerWrite .host (RND_BAND_LO.base + 0x800) 15 v, 4, 15), (Instr.registerWrite .host RND_BAND_LO.base 1 v, 1, 1), (Instr.registerWrite .host RND_BAND_LO.base 6 v, 2, 6), (Instr.registerWrite .host 0xE00000 15 v, 3, 15), (Instr.bar0Overlong true RND_BAND_LO.base 15 v 3, 5, 15)]) ∧
    (∃ (s : State) (n : _) (k : _) (i : _) (c : _) (m : _) (v : _) (p : _), s.flag HIF_ACCERR_VALID = false ∧ s.flag HIF_CTRL_SLVERR_EN = false ∧ n < 32 ∧ k < 2 ∧ i < 32 ∧ c < 16 ∧ m < 65536 ∧ v < 2 ^ 32 ∧ p ∈ [(Instr.coreGo n, CORE_CTRL.at n, 4), (.coreCtrlAbort n, CORE_CTRL.at n, 2), (.coreChflushWrite n m, CORE_CHFLUSH.at n, m), (.slotPgcommit k i, SOL_SLOTCTRL.at k i, 4), (.slotKick k i, SOL_SLOTCTRL.at k i, 8), (.slotReset k i, SOL_SLOTCTRL.at k i, 2), (.solCtrlAbort k, SOL_CTRL.at k, 1), (.solInflushWrite k m, SOL_INFLUSH.at k, m), (.solIncfgWrite k c v, SOL_INCFG.at k c, v)] ∧ ¬ s.reaches .host p.2.1) ∧
    (∃ (s : State) (k : _) (p : _) (w : _) (u : _) (q : _) (v : _) (x : _), s.serving = false ∧ s.flag HIF_ACCERR_VALID = false ∧ s.flag HIF_CTRL_SLVERR_EN = false ∧ k < 4 ∧ p < 6 ∧ w < 16 ∧ u < 8 ∧ q < 2 ∧ v < 2 ^ 16 ∧ x ∈ [(Instr.holdForce true, RND_CTRL.base, 4), (.holdForce false, RND_CTRL.base, 0), (.rndSnap, RND_CTRL.base, 2), (.patCtrlAdmit, PAT_CTRL.base, 1), (.patCtrlActivate, PAT_CTRL.base, 2), (.patCtrlDeactivate, PAT_CTRL.base, 4), (.patCtrlCancel, PAT_CTRL.base, 8), (.molRetrain p, MOL_CTRL.at p, 2), (.molQrel p, MOL_CTRL.at p, 4), (.ringRearmWrite k, WFM_RGCTRL.at k, 1), (.ringForceWrite k, WFM_RGCTRL.at k, 2), (.ispRpkickWrite q v, ISP_RPKICK.at q, v), (.doorbell k v, CMD_PROD.at k, v), (.cmdCconsWrite k v, CMD_CCONS.at k, v), (.cmdSconsWrite v, CMD_SCONS.base, v), (.ringEnable k, CMD_CTRL.at k, 1), (.ringDisable k, CMD_CTRL.at k, 0), (.cmdCtrlFlush k, CMD_CTRL.at k, 3), (.fbrWindowFlush w, FBR_WCTRL.at w, 2), (.fbrErrackWrite v, FBR_ERRACK.base, v), (.mrkHopcmdWrite .host v, MRK_HOPCMD.base, v), (.dbgHaltWrite .host v, DBG_HALT.base, v), (.dbgResumeWrite .host v, DBG_RESUME.base, v), (.chkCheck u, CHK_CTRL.at u, 4), (.chkStart u, CHK_CTRL.at u, 2), (.jrnCtrlSnapshot, JRN_CTRL.base, 2), (.jrnCtrlFlush, JRN_CTRL.base, 4)]) :=
  ⟨⟨rdy, 5#32, (.registerWrite .host RND_STATUS.base 15 5#32, 4, 15), by decide +kernel⟩,
   ⟨(rdy.setFld PURL_STAT_STATE 1 4).setFld PURL_STAT_STATE 3 5, 31, 1, 31, 15, 255, 77, (.coreGo 31, CORE_CTRL.at 31, 4), by decide +kernel⟩,
   ⟨ph 6, 3, 5, 15, 7, 1, 500, (.rndSnap, RND_CTRL.base, 2), by decide +kernel⟩⟩

/-- Each clause of `Obligations.StoreAperture` has a state and operands that meet its hypotheses. -/
theorem witness_StoreAperture :
    (∃ (s : State) (n : _) (a : _) (bs : List Nat), n < 32 ∧ a + bs.length ≤ 0x100000 ∧ bs ≠ [] ∧ s.serves .host ∧ s.dieUnreachable (n / 16) = false ∧ s.coreDropped n = false) ∧
    (∃ (s : State) (n : _) (a : _) (len : _), n < 32 ∧ a + len ≤ 0x100000 ∧ 0 < len ∧ s.serves .host ∧ s.dieUnreachable (n / 16) = false) ∧
    (∃ (s : State) (off : _), 0x2600000 ≤ off ∧ off < 0x2800000 ∧ s.hif.mse = true ∧ s.flag HIF_ACCERR_VALID = false) ∧
    (∃ (s : State), s.hif.mse = false) ∧
    (∃ (s : State) (n : _) (a : _), n < 32 ∧ a < 0x10000 ∧ s.serves .host ∧ s.dieUnreachable (n / 16) = false ∧ s.coreDropped n = false ∧ s.busy n = true ∧ s.flag HIF_ACCERR_VALID = false) ∧
    (∃ (s : State) (t : State) (c : _), s.storesWf ∧ ((∃ w off l, c = Instr.bar2Access w off l []) ∨ c ∈ [Instr.flushDone, .sectorEraseDone, .bindOffAreaErased]) ∧ exec c s = .next t) :=
  ⟨⟨rdy, 31, 0xFFFFF, [7], by decide +kernel⟩,
   ⟨rdy.putData 31 0xFFFFD [3], 31, 0xFFFFC, 4, by decide +kernel⟩,
   ⟨rdy, 0x27FFFFF, by decide +kernel⟩,
   ⟨State.reset, by decide +kernel⟩,
   ⟨rdy.setFld CORE_STATUS_STATE 1 31, 31, 0xFFFF, by decide +kernel⟩,
   ⟨jf, nextOf .flushDone jf, .flushDone, by decide +kernel, .inr (by decide), rfl⟩⟩

/-- Each clause of `Obligations.StagedSets` has a state and operands that meet its hypotheses. -/
theorem witness_StagedSets :
    (∃ (s : State) (b : Block), b.ok = true ∧ (∀ w, b ≠ .fbr w) ∧ (∀ u, b ≠ .chk u) ∧ s.reaches .host (b.commit.1.rg.at b.commit.2.1 b.commit.2.2)) ∧
    (∃ (s : State) (b : Block), b.ok = true ∧ ¬ s.reaches .host (b.commit.1.rg.at b.commit.2.1 b.commit.2.2) ∧ s.flag HIF_ACCERR_VALID = false ∧ s.flag HIF_CTRL_SLVERR_EN = false) ∧
    (∃ (s : State) (w : _), w < 16 ∧ s.reaches .host (FBR_WCTRL.at w)) ∧
    (∃ (s : State) (b : _), b.ok = true ∧ s.committed b = false) ∧
    (∃ (s : State), s.committed .rnd = true ∧ s.atRound = true ∧ s.rndReject = 0) ∧
    (∃ (s : State), s.committed .rnd = true ∧ s.atRound = true ∧ s.rndReject ≠ 0) ∧
    (∃ (s : State), s.committed .bo = true ∧ s.atRound = true) ∧
    (∃ (s : State) (hi : _) (lo : _), s.reg RND_BAND_HI.base = hi ∧ s.reg RND_BAND_LO.base = lo ∧ (hi.toNat ≤ lo.toNat ∨ lo.toNat < 0x2D0000 ∨ 0x420000 < hi.toNat)) ∧
    (∃ (s : State) (u : _) (ecc : _) (c : Instr), s.whole ∧ u < 8 ∧ ((c = .commitWrite (.chk u) ∧ s.reaches .host (CHK_CTRL.at u)) ∨ (c = .stagedSetApply (.chk u) ecc ∧ s.committed (.chk u) = true)) ∧ s.chkReject u = 0) ∧
    (∃ (s : State) (u : _) (ecc : _) (c : Instr), u < 8 ∧ ((c = .commitWrite (.chk u) ∧ s.reaches .host (CHK_CTRL.at u)) ∨ (c = .stagedSetApply (.chk u) ecc ∧ s.committed (.chk u) = true)) ∧ s.chkReject u ≠ 0) ∧
    (∃ (s : State) (u : _), u < 8 ∧ s.flag CHK_CFG_INITSEL u = true) ∧
    (∃ (s : State) (u : _), u < 8 ∧ s.flag CHK_CFG_INITSEL u = false) :=
  ⟨⟨rdy, .rnd, by decide +kernel, (by intro _ h; cases h), (by intro _ h; cases h), by decide +kernel⟩,
   ⟨rdy.setFld PWR_DROP_UNIT_CD 2, .core 31, by decide +kernel⟩,
   ⟨rdy, 15, by decide +kernel⟩,
   ⟨rdy, .jrn, by decide +kernel⟩,
   ⟨cm RND_CTRL_COMMIT 0, by decide +kernel⟩,
   ⟨(cm RND_CTRL_COMMIT 0).setReg RND_BAND_LO.base 0, by decide +kernel⟩,
   ⟨cm PWR_BOCTRL_COMMIT 0, by decide +kernel⟩,
   ⟨rdy.setReg RND_BAND_LO.base 0, rdy.reg RND_BAND_HI.base, 0, by decide +kernel⟩,
   ⟨(cm CHK_CTRL_COMMIT 7).setFld CHK_CFG_POLY 2 7, 7, false, .stagedSetApply (.chk 7) false, by decide +kernel⟩,
   ⟨((cm CHK_CTRL_COMMIT 7).setFld CHK_CFG_GW 1 7).setFld CHK_CFG_GNIB 1 7, 7, false, .stagedSetApply (.chk 7) false, by decide +kernel⟩,
   ⟨((rdy.setFld CHK_CFG_INITSEL 1 7).setFld CHK_CFG_POLY 3 7).setReg (CHK_INIT.at 7) 0x100, 7, by decide +kernel⟩,
   ⟨rdy, 7, by decide +kernel⟩⟩

/-- Each clause of `Obligations.PatternAdmission` has a state and operands that meet its hypotheses. -/
theorem witness_PatternAdmission :
    (∃ (s : State), s.reaches .host PAT_CTRL.base ∧ s.admitting = false) ∧
    (∃ (s : State) (bs : _) (im : _), s.pat.img = some bs ∧ s.frozenAdm = false ∧ s.pat.touched = false ∧ s.verdict bs = .inr im) ∧
    (∃ (s : State) (bs : _) (r : _), s.pat.img = some bs ∧ s.frozenAdm = false ∧ s.pat.touched = false ∧ s.verdict bs = .inl r) ∧
    (∃ (s : State), s.reaches .host PAT_CTRL.base ∧ s.pat.admitted.isSome = true ∧ s.pat.act = none) ∧
    (∃ (s : State) (a : _) (im : _) (lo : _) (hi : _), s.atRound = true ∧ s.pat.deactFirst = false ∧ s.pat.act = some a ∧ s.pat.admitted = some (im, lo, hi) ∧ s.actEligible a = true ∧ s.bandNow = (lo, hi)) ∧
    (∃ (s : State), s.reaches .host PAT_CTRL.base) ∧
    (∃ (s : State), s.atRound = true ∧ s.pat.deact = true) ∧
    (∃ (s : State), s.reaches .host PAT_CTRL.base ∧ s.pat.act.isSome = true) ∧
    (∃ (s : State), s.reaches .host PAT_CTRL.base ∧ s.pat.act = none) :=
  ⟨⟨rdy, by decide +kernel⟩,
   ⟨adm img, img, pat1, by decide +kernel⟩,
   ⟨adm [1], [1], { code := 1, step := 1, excess := 20 }, by decide +kernel⟩,
   ⟨(acting 0).modPat (fun p => { p with act := none }), by decide +kernel⟩,
   ⟨acting rdy.bandNow.1, 0, pat1, rdy.bandNow.1, rdy.bandNow.2, by decide +kernel⟩,
   ⟨rdy, by decide +kernel⟩,
   ⟨(rnd0 rdy).modPat (fun p => { p with deact := true }), by decide +kernel⟩,
   ⟨acting 0, by decide +kernel⟩,
   ⟨rdy, by decide +kernel⟩⟩

/-- Each clause of `Obligations.PatternInstances` has a state and operands that meet its hypotheses. -/
theorem witness_PatternInstances :
    (∃ (s : State) (r : _) (x : _), r < 32 ∧ s.whole ∧ s.boot.halted = false ∧ s.cstate r = 0 ∧ s.running r = none ∧ s.coreDropped r = false ∧ s.nextFor r = some x ∧ s.flag CORE_CTRL_COMMIT r = false) ∧
    (∃ (s : State) (r : _), r < 36 ∧ s.boot.halted = true) ∧
    (∃ (s : State) (x : _), s.pat.insts = [x] ∧ x.late = false ∧ x.drop = false ∧ s.isLate x = true) ∧
    (∃ (s : State), (∀ x ∈ s.pat.insts, x.late = true ∨ s.isLate x = false)) ∧
    (∃ (s : State) (r : _) (x : _), r < 36 ∧ s.running r = some x ∧ x.overrun = false ∧ x.dl = true ∧ s.wcetPassed r x = true) ∧
    (∃ (s : State), s.pat.readm.isSome = true ∧ s.pat.active.isSome = true ∧ s.pat.result = none ∧ s.frozenAdm = false) ∧
    (∃ (s : State) (q : _) (old : _) (im : _) (shed : _) (gs : _), s.rnd.stitchDue = true ∧ s.frozenAdm = false ∧ s.pat.readm = some q ∧ s.pat.active = some old ∧ s.pat.result = some (im, shed, gs)) :=
  ⟨⟨insts [inst 31 0], 31, inst 31 0, by decide +kernel⟩,
   ⟨rdy.modBoot (fun b => { b with halted := true }), 35, by decide +kernel⟩,
   ⟨insts [inst 31 0], inst 31 0, by decide +kernel⟩,
   ⟨insts [{ inst 31 0 with late := true }], by decide +kernel⟩,
   ⟨(insts [inst 31 1]).modCore 31 (fun c => { c with cyc := 6 }), 31, inst 31 1, by decide +kernel⟩,
   ⟨rea, by decide +kernel⟩,
   ⟨rea.modPat (fun p => { p with result := some (pat1, [0], [1]) }), ⟨[31], 5, 31⟩, pat1, pat1, [0], [1], by decide +kernel⟩⟩

/-- Each clause of `Obligations.PortStates` has a state and operands that meet its hypotheses. -/
theorem witness_PortStates :
    (∃ (s : State) (p : _) (c : _), p < 6 ∧ c ∈ [Instr.linkLos p, Instr.syncLoss p] ∧ 1 ≤ s.pst p ∧ s.pst p ≤ 7) ∧
    (∃ (s : State) (p : _) (c : _), p < 6 ∧ c ∈ [Instr.linkLos p, Instr.syncLoss p] ∧ (s.pst p = 0 ∨ 8 ≤ s.pst p)) ∧
    (∃ (s : State) (p : _), p < 6 ∧ s.whole ∧ s.pst p = 1) ∧
    (∃ (s : State) (p : _), p < 6 ∧ s.whole ∧ s.pst p = 2 ∧ 250000 ≤ s.rnd.clk - (s.port p).since ∧ (s.port p).tries < 3) ∧
    (∃ (s : State) (p : _), p < 6 ∧ s.pst p = 2 ∧ 250000 ≤ s.rnd.clk - (s.port p).since ∧ 3 ≤ (s.port p).tries) ∧
    (∃ (s : State) (p : _), p < 6 ∧ s.pst p = 3) ∧
    (∃ (s : State) (p : _), p < 6 ∧ s.pst p = 3 ∧ 2500000 ≤ s.rnd.clk - (s.port p).since) ∧
    (∃ (s : State) (p : _), p < 6 ∧ s.pst p = 5 ∧ 500000 ≤ s.rnd.clk - (s.port p).since) ∧
    (∃ (s : State) (p : _), p < 6 ∧ s.pst p = 7 ∧ s.live MOL_TMO_ALIVE_TMO p ≤ s.absStitch - (s.port p).alive) ∧
    (∃ (s : State) (p : _), p < 6 ∧ ((s.pst p ≠ 6 ∧ s.pst p ≠ 7) ∨ s.absStitch - (s.port p).alive < s.live MOL_TMO_ALIVE_TMO p)) ∧
    (∃ (s : State) (p : _), p < 6 ∧ s.reaches .host (MOL_CTRL.at p)) ∧
    (∃ (s : State) (p : _), p < 6 ∧ s.reaches .host (MOL_CTRL.at p)) :=
  ⟨⟨pst 7, 5, .syncLoss 5, by decide +kernel⟩,
   ⟨pst 9, 5, .linkLos 5, by decide +kernel⟩,
   ⟨pst 1, 5, by decide +kernel⟩,
   ⟨clk 250000 (port 2 (fun q => { q with tries := 2 })), 5, by decide +kernel⟩,
   ⟨clk 250000 (port 2 (fun q => { q with tries := 3 })), 5, by decide +kernel⟩,
   ⟨pst 3, 5, by decide +kernel⟩,
   ⟨clk 2500000 (pst 3), 5, by decide +kernel⟩,
   ⟨clk 500000 (pst 5), 5, by decide +kernel⟩,
   ⟨(pst 7).setLive MOL_TMO_ALIVE_TMO 0 5, 5, by decide +kernel⟩,
   ⟨(pst 7).setLive MOL_TMO_ALIVE_TMO 1 5, 5, by decide +kernel⟩,
   ⟨rdy, 0, by decide +kernel⟩,
   ⟨rdy, 0, by decide +kernel⟩⟩

/-- Each clause of `Obligations.PortTimers` has a state and operands that meet its hypotheses. -/
theorem witness_PortTimers :
    (∃ (s : State) (p : _) (n : _) (a : _), p < 6 ∧ s.whole ∧ (s.pst p = 4 ∨ s.pst p = 7) ∧ (s.port p).nd = some (n, a) ∧ 1250000 ≤ s.rnd.clk - a ∧ (s.port p).resp = false) ∧
    (∃ (s : State) (p : _), p < 6 ∧ s.whole ∧ s.pst p = 4 ∧ (s.port p).nd = none ∧ 1250000 ≤ s.rnd.clk - (s.port p).since) ∧
    (∃ (s : State) (p : _) (n : _) (a : _), p < 6 ∧ s.whole ∧ (s.pst p = 4 ∨ s.pst p = 7) ∧ (s.port p).nd = some (n, a) ∧ 1250000 ≤ s.rnd.clk - a ∧ (s.port p).resp = true) ∧
    (∃ (s : State) (p : _), p < 6 ∧ (s.pst p ≠ 4 ∧ s.pst p ≠ 7 ∨ (∃ n a, (s.port p).nd = some (n, a) ∧ s.rnd.clk - a < 1250000) ∨ (s.port p).nd = none ∧ (s.pst p = 7 ∨ s.rnd.clk - (s.port p).since < 1250000))) ∧
    (∃ (s : State) (p : _), p < 6 ∧ s.whole ∧ (s.port p).echo = none ∧ (s.pst p = 5 ∨ ((s.pst p = 6 ∨ s.pst p = 7) ∧ s.live MOL_CFG_ECHO_DIV p ≤ (s.port p).echoRnd))) ∧
    (∃ (s : State) (p : _), p < 6 ∧ ((s.port p).echo.isSome = true ∨ s.pst p < 5 ∨ 7 < s.pst p ∨ s.pst p ≠ 5 ∧ (s.port p).echoRnd < s.live MOL_CFG_ECHO_DIV p)) ∧
    (∃ (s : State) (p : _) (q : _) (n : _), p < 6 ∧ s.whole ∧ (s.port p).echo = some (q, n) ∧ 16000 ≤ s.rnd.clk - n) ∧
    (∃ (s : State) (p : _), p < 6 ∧ (∀ q n, (s.port p).echo = some (q, n) → s.rnd.clk - n < 16000)) ∧
    (∃ (s : State) (p : _), p < 6 ∧ s.whole ∧ s.pst p = 7 ∧ 0 < (s.port p).cadences) ∧
    (∃ (s : State) (p : _), p < 6 ∧ (s.pst p ≠ 7 ∨ (s.port p).cadences = 0)) ∧
    (∃ (s : State) (p : _) (a : _), p < 6 ∧ s.whole ∧ s.pst p = 7 ∧ (s.port p).chalWait = some a ∧ s.live MOL_TMO_CRED_TMO p ≤ s.absStitch - a) ∧
    (∃ (s : State) (p : _) (k : _) (nd : _) (nh : _) (a : _), p < 6 ∧ s.whole ∧ s.pst p = 7 ∧ (s.port p).chalWait = none ∧ (s.port p).confWait = some (k, nd, nh, a) ∧ s.live MOL_TMO_CRED_TMO p ≤ s.absStitch - a) ∧
    (∃ (s : State) (p : _) (g : _) (l : _) (a : _), p < 6 ∧ s.pst p = 7 ∧ (s.port p).chalWait = none ∧ (s.port p).confWait = none ∧ s.fbr.segs = g :: l ∧ (g.st = 0 ∨ g.st = 2 ∧ (s.port p).credits = 0) ∧ g.port = p ∧ g.since = some a ∧ s.live MOL_TMO_CRED_TMO p ≤ s.absStitch - a ∧ g.win < 16 ∧ g.read = false ∧ s.fbr.log.length < 32) ∧
    (∃ (s : State) (p : _), p < 6 ∧ (s.pst p ≠ 7 ∨ (∀ a, (s.port p).chalWait = some a → s.absStitch - a < s.live MOL_TMO_CRED_TMO p) ∧ (∀ k nd nh a, (s.port p).confWait = some (k, nd, nh, a) → s.absStitch - a < s.live MOL_TMO_CRED_TMO p) ∧ (∀ g ∈ s.fbr.segs, g.port = p → ∀ a, g.since = some a → s.absStitch - a < s.live MOL_TMO_CRED_TMO p))) ∧
    (∃ (s : State) (p : _), p < 6 ∧ s.whole ∧ s.pst p = 7 ∧ (s.port p).sess.isSome = true ∧ (s.port p).nd = none ∧ (s.port p).chalWait = none ∧ s.flag SEC_STATUS_RNGFAIL = false ∧ (s.port p).credits = 0) ∧
    (∃ (s : State) (p : _), p < 6 ∧ s.whole ∧ s.pst p = 7 ∧ (s.port p).sess.isSome = true ∧ (s.port p).nd = none ∧ (s.port p).chalWait = none ∧ 0 < (s.port p).credits ∧ s.flag SEC_STATUS_RNGFAIL = false) ∧
    (∃ (s : State) (p : _), p < 6 ∧ (s.pst p ≠ 7 ∨ (s.port p).sess = none ∨ (s.port p).nd.isSome = true ∨ (s.port p).chalWait.isSome = true ∨ s.flag SEC_STATUS_RNGFAIL = true)) :=
  ⟨⟨(clk 1250000 (port 4 (fun q => { q with nd := some (5#96, 0) }))).setLive MOL_QCFG_QTHR 2 5, 5, 5#96, 0, by decide +kernel⟩,
   ⟨clk 1250000 (pst 4), 5, by decide +kernel⟩,
   ⟨clk 1250000 (port 7 (fun q => { q with nd := some (5#96, 0), resp := true })), 5, 5#96, 0, by decide +kernel⟩,
   ⟨clk 1249999 (pst 4), 5, by decide +kernel, .inr (.inr (by decide +kernel))⟩,
   ⟨pst 5, 5, by decide +kernel⟩,
   ⟨pst 8, 5, by decide +kernel⟩,
   ⟨clk 16000 (port 5 (fun q => { q with echo := some (9, 0) })), 5, 9, 0, by decide +kernel⟩,
   ⟨pst 5, 5, by decide +kernel, fun _ _ h => nomatch h⟩,
   ⟨port 7 (fun q => { q with cadences := 1 }), 5, by decide +kernel⟩,
   ⟨pst 7, 5, by decide +kernel⟩,
   ⟨(port 7 (fun q => { q with chalWait := some 0 })).setLive MOL_TMO_CRED_TMO 0 5, 5, 0, by decide +kernel⟩,
   ⟨(port 7 (fun q => { q with confWait := some (3#128, 5#96, [1], 0) })).setLive MOL_TMO_CRED_TMO 0 5, 5, 3#128, 5#96, [1], 0, by decide +kernel⟩,
   ⟨(segd 7 0 [{ sgm 0 15 2 false with since := some 0 }]).setLive MOL_TMO_CRED_TMO 0 5, 5, { sgm 0 15 2 false with since := some 0 }, [], 0, by decide +kernel⟩,
   ⟨pst 6, 5, by decide +kernel, .inl (by decide +kernel)⟩,
   ⟨withRaw SEC_STATUS.base 0 (sess7 0), 5, by decide +kernel⟩,
   ⟨withRaw SEC_STATUS.base 0 (sess7 1), 5, by decide +kernel⟩,
   ⟨pst 7, 5, by decide +kernel⟩⟩

/-- Each clause of `Obligations.PortMessages` has a state and operands that meet its hypotheses. -/
theorem witness_PortMessages :
    (∃ (s : State) (p : _), p < 6 ∧ s.whole ∧ 2 ≤ s.pst p ∧ s.pst p ≤ 7 ∧ 16 ≤ (s.port p).tokens) ∧
    (∃ (s : State) (p : _), p < 6 ∧ s.whole ∧ 2 ≤ s.pst p ∧ s.pst p ≤ 7 ∧ (s.port p).tokens < 16 ∧ (s.port p).hostile + 1 < s.live MOL_QCFG_QTHR p) ∧
    (∃ (s : State) (u : State) (p : _) (f : _) (m : _), p < 6 ∧ s.molReceive p f false = (u, some m) ∧ m.type = 7 ∧ m.aux = 1 ∧ u.pst p = 2 ∧ u.live MOL_CTRL_AUTH_REQ p = 0 ∧ (u.live MOL_CTRL_M2_EN p = 0 → u.live MOL_CFG_RATE p ≤ 2)) ∧
    (∃ (s : State) (u : State) (p : _) (f : _) (m : _), p < 6 ∧ s.molReceive p f false = (u, some m) ∧ m.type = 7 ∧ m.aux = 1 ∧ u.pst p = 2 ∧ u.live MOL_CTRL_AUTH_REQ p = 1 ∧ (m.pay.getD 9 0).testBit 1 = false) ∧
    (∃ (s : State) (u : State) (p : _) (f : _) (m : _) (nd : _) (a : _) (key : _), p < 6 ∧ s.whole ∧ s.molReceive p f false = (u, some m) ∧ m.type = 8 ∧ m.aux = 1 ∧ u.pst p = 4 ∧ (u.port p).nd = some (nd, a) ∧ (u.port p).confWait = none ∧ look u.sec.keys (u.live MOL_AUTH_KSLOT p) = some key) ∧
    (∃ (s : State) (u : State) (p : _) (f : _) (m : _), p < 6 ∧ s.molReceive p f false = (u, some m) ∧ m.type = 9 ∧ u.pst p = 6 ∧ (u.port p).idGiven = true ∧ fieldLE m.hdr 0 2 = (u.port p).base ∧ (u.port p).base = u.fld MOL_IDBASE_BASE p) ∧
    (∃ (s : State) (u : State) (p : _) (f : _) (m : _), p < 6 ∧ s.whole ∧ s.molReceive p f false = (u, some m) ∧ m.type = 9 ∧ u.pst p = 7 ∧ (u.port p).chalWait = none ∧ (u.port p).confWait = none) ∧
    (∃ (s : State) (u : State) (p : _) (f : _) (m : _), p < 6 ∧ s.molReceive p f false = (u, some m) ∧ m.type = 0 ∧ u.pst p = 7) ∧
    (∃ (s : State) (u : State) (p : _) (f : _) (m : _), p < 6 ∧ s.whole ∧ s.molReceive p f false = (u, some m) ∧ m.type = 0 ∧ u.pst p = 7 ∧ look (u.port p).expect (m.sub - 8) = none) ∧
    (∃ (s : State) (u : State) (p : _) (f : _) (m : _) (q : _) (n : _) (x : _), p < 6 ∧ s.whole ∧ s.molReceive p f false = (u, some m) ∧ m.type = 2 ∧ (u.port p).echo = some (q, n) ∧ m.aux = q ∧ fieldLE m.pay 0 8 = n ∧ u.rnd.clk - n ≤ 16000 ∧ u.pst p = 5 ∧ (u.port p).fwd = [] ∧ (u.port p).calib = 0 ∧ ((4 * (u.rnd.clk - n) : Nat) : Int) - (fieldLE m.pay 8 4 : Nat) + sInt 16 (u.live MOL_ASYM_ASYM p) = 2 * x) ∧
    (∃ (s : State) (u : State) (p : _) (f : _) (m : _) (i : _), p < 6 ∧ s.molReceive p f false = (u, some m) ∧ m.type = 6 ∧ u.pst p = 7 ∧ (∀ x ∈ u.fbr.ints, x.port ≠ p) ∧ (∀ x ∈ u.fbr.mails, x.port ≠ p) ∧ u.routesFor p (fieldLE m.hdr 0 2) = [i] ∧ u.fld FBR_RTDST_KIND i = 0) ∧
    (∃ (s : State) (u : State) (p : _) (f : _) (m : _) (g : _) (i : _), p < 6 ∧ s.molReceive p f false = (u, some m) ∧ m.type = 5 ∧ u.pst p = 7 ∧ m.pay.length = 4 ∧ m.pay.getD 0 0 = 0 ∧ u.routesFor p (fieldLE m.hdr 0 2) = [i] ∧ (u.port p).chalWait = none ∧ u.tagged p m.aux = some g ∧ g.read = false ∧ u.rnd.clk - g.sent < u.ackTmo) ∧
    (∃ (s : State) (u : State) (p : _) (f : _) (m : _) (g : _), p < 6 ∧ s.whole ∧ s.molReceive p f false = (u, some m) ∧ m.type = 5 ∧ u.pst p = 7 ∧ m.pay.length = 4 ∧ u.tagged p m.aux = some g ∧ g.read = false ∧ u.ackTmo ≤ u.rnd.clk - g.sent) ∧
    (∃ (s : State) (u : State) (p : _) (f : _) (m : _) (i : _), p < 6 ∧ s.molReceive p f false = (u, some m) ∧ m.type = 5 ∧ u.pst p = 7 ∧ u.routesFor p (fieldLE m.hdr 0 2) = [i] ∧ u.tagged p m.aux = none) :=
  ⟨⟨pst 7, 5, by decide +kernel⟩,
   ⟨((pst 7).modPort 5 (fun q => { q with tokens := 15 })).setLive MOL_QCFG_QTHR 2 5, 5, by decide +kernel⟩,
   ⟨pst 2, (got (pst 2) (caps 3)).1, 5, caps 3, (got (pst 2) (caps 3)).2, by decide +kernel⟩,
   ⟨(pst 2).setLive MOL_CTRL_AUTH_REQ 1 5, (got ((pst 2).setLive MOL_CTRL_AUTH_REQ 1 5) (caps 1)).1, 5, caps 1, (got (pst 2) (caps 1)).2, by decide +kernel⟩,
   ⟨answering, (got answering aresp).1, 5, aresp, (got answering aresp).2, 5#96, 0, 1#128, by decide +kernel⟩,
   ⟨((based 6).setFld MOL_IDBASE_BASE 0x100 5).modPort 5 (fun q => { q with idGiven := true }), (got (((based 6).setFld MOL_IDBASE_BASE 0x100 5).modPort 5 (fun q => { q with idGiven := true })) aliveF).1, 5, aliveF, (got (based 6) aliveF).2, by decide +kernel⟩,
   ⟨based 7, (got (based 7) aliveF).1, 5, aliveF, (got (based 7) aliveF).2, by decide +kernel⟩,
   ⟨based 7, (got (based 7) sampF).1, 5, sampF, (got (based 7) sampF).2, by decide +kernel⟩,
   ⟨based 7, (got (based 7) sampF).1, 5, sampF, (got (based 7) sampF).2, by decide +kernel⟩,
   ⟨echoing, (got echoing echoF).1, 5, echoF, (got echoing echoF).2, 0, 0, 100, by decide +kernel⟩,
   ⟨routed 2, (got (routed 2) intF).1, 5, intF, (got (routed 2) intF).2, 255, by decide +kernel⟩,
   ⟨acked, (got acked ackF).1, 5, ackF, (got acked ackF).2, fseg, 255, by decide +kernel⟩,
   ⟨clk 2500000000 acked, (got (clk 2500000000 acked) ackF).1, 5, ackF, (got acked ackF).2, fseg, by decide +kernel⟩,
   ⟨routed 1, (got (routed 1) ackF).1, 5, ackF, (got (routed 1) ackF).2, 255, by decide +kernel⟩⟩

/-- Each clause of `Obligations.BridgeAccesses` has a state and operands that meet its hypotheses. -/
theorem witness_BridgeAccesses :
    (∃ (s : State) (w : _) (o : _) (bs : _) (be : _) (c : _), s.hif.mse = false ∧ w < 16 ∧ o < 2 ^ 20 ∧ c ∈ [Instr.bar4Write (w * 2 ^ 20 + o) bs, .bar4Read (w * 2 ^ 20 + o) be]) ∧
    (∃ (s : State) (w : _) (o : _), w < 16 ∧ s.hif.mse = true ∧ o % 4 = 0 ∧ o + 4 ≤ 2 ^ 20 ∧ s.winOn w = true ∧ s.live FBR_WCFG_LANE w ≠ 2 ∧ s.liveN FBR_WBASE w % 4 = 0 ∧ s.flag FBR_WSTAT_CWAIT w = false ∧ s.fbr.segs.countP (fun g => !g.read) < 64 ∧ (s.winSegs w).countP (fun g => !g.read) ≤ s.live FBR_WCFG_WDEPTH w) ∧
    (∃ (s : State) (w : _) (o : _), w < 16 ∧ s.hif.mse = true ∧ o < 2 ^ 20 ∧ s.winOn w = true ∧ s.flag FBR_WSTAT_CWAIT w = true ∧ s.fbr.log.length < 32) ∧
    (∃ (s : State) (w : _) (o : _), w < 16 ∧ s.hif.mse = true ∧ o < 2 ^ 20 ∧ s.winOn w = false ∧ s.fld HIF_ACCERR_VALID = 0) ∧
    (∃ (s : State) (w : _) (o : _), w < 16 ∧ s.hif.mse = true ∧ o % 4 = 0 ∧ o + 4 ≤ 2 ^ 20 ∧ s.winOn w = true ∧ s.live FBR_WCFG_LANE w ≠ 2 ∧ s.liveN FBR_WBASE w % 4 = 0 ∧ s.flag FBR_WSTAT_CWAIT w = false ∧ s.winBlocked w = false ∧ s.fbr.segs.countP (fun g => g.read) < 16) ∧
    (∃ (s : State) (w : _) (o : _), w < 16 ∧ s.hif.mse = true ∧ o % 4 = 0 ∧ o + 4 ≤ 2 ^ 20 ∧ s.winOn w = true ∧ s.flag FBR_WSTAT_CWAIT w = false ∧ s.winBlocked w = true ∧ s.fbr.log.length < 32 ∧ s.flag HIF_CTRL_SLVERR_EN = false) ∧
    (∃ (s : State) (w : _) (o : _), w < 16 ∧ s.hif.mse = true ∧ o < 2 ^ 20 ∧ s.winOn w = false ∧ s.fld HIF_ACCERR_VALID = 0 ∧ s.flag HIF_CTRL_SLVERR_EN = true) ∧
    (∃ (s : State) (rq : _) (e : _) (l : _), s.reaches rq FBR_ELOG0.base ∧ s.fbr.log = e :: l ∧ (rq = .debug → s.flag DBG_CTRL_SIDEFX = true)) ∧
    (∃ (s : State) (e : _) (l : _), s.fbr.log = e :: l ∧ s.flag DBG_CTRL_SIDEFX = false) ∧
    (∃ (s : State) (rq : _), s.reaches rq FBR_ELOG0.base ∧ s.fbr.log = []) ∧
    (∃ (s : State), s.reaches .host FBR_ERRACK.base) ∧
    (∃ (s : State) (w : _), w < 16 ∧ s.reaches .host (FBR_WCTRL.at w)) :=
  ⟨⟨State.reset, 15, 0xFFFFF, [], [true, true], .bar4Read (15 * 2 ^ 20 + 0xFFFFF) [true, true], by decide +kernel⟩,
   ⟨winEn, 15, 0xFFFFC, by decide +kernel⟩,
   ⟨winEn.setFld FBR_WSTAT_CWAIT 1 15, 15, 0xFFFFF, by decide +kernel⟩,
   ⟨rdy, 15, 0xFFFFF, by decide +kernel⟩,
   ⟨winEn, 15, 0xFFFFC, by decide +kernel⟩,
   ⟨winEn.setFld FBR_WSTAT_BLOCKED 1 15, 15, 0xFFFFC, by decide +kernel⟩,
   ⟨rdy.setFld HIF_CTRL_SLVERR_EN 1, 15, 0xFFFFF, by decide +kernel⟩,
   ⟨logged, Requester.hub, ⟨5, 6, 7⟩, [⟨8, 9, 10⟩], by decide +kernel⟩,
   ⟨logged, ⟨5, 6, 7⟩, [⟨8, 9, 10⟩], by decide +kernel⟩,
   ⟨rdy, .debug, by decide +kernel⟩,
   ⟨(rdy.setFld FBR_STATUS_BLOCKED 65535).setFld FBR_WSTAT_BLOCKED 1 15, by decide +kernel⟩,
   ⟨rdy.modFbr (fun b => { b with segs := [sgm 0 15 0 false, sgm 1 15 0 true, sgm 2 3 0 false] }), 15, by decide +kernel⟩⟩

/-- Each clause of `Obligations.BridgeSegments` has a state and operands that meet its hypotheses. -/
theorem witness_BridgeSegments :
    (∃ (s : State) (hid : _) (g : _) (p : _), s.whole ∧ s.nextSeg hid s.fbr.segs = some g ∧ s.resolve g.hid = .inl p ∧ (g.read = true → s.rnd.clk - g.acc < s.rdTmo) ∧ 0 < (s.port p).credits) ∧
    (∃ (s : State) (hid : _) (g : _) (p : _), s.nextSeg hid s.fbr.segs = some g ∧ s.resolve g.hid = .inl p ∧ (g.read = true → s.rnd.clk - g.acc < s.rdTmo) ∧ (s.port p).credits = 0 ∧ g.since = none) ∧
    (∃ (s : State) (hid : _) (g : _) (c : _), s.nextSeg hid s.fbr.segs = some g ∧ g.win < 16 ∧ s.resolve g.hid = .inr c ∧ c < 32 ∧ s.fbr.log.length < 32) ∧
    (∃ (s : State) (hid : _) (g : _) (p : _), s.nextSeg hid s.fbr.segs = some g ∧ g.win < 16 ∧ s.resolve g.hid = .inl p ∧ g.read = true ∧ s.rdTmo ≤ s.rnd.clk - g.acc ∧ s.fbr.log.length < 32) ∧
    (∃ (s : State) (hid : _) (p : _), s.flag MOL_IDBASE_ADMITTED p = true ∧ p < 6 ∧ s.fld MOL_IDBASE_BASE p + 1 = hid ∧ (∀ q < p, ¬ (s.flag MOL_IDBASE_ADMITTED q = true ∧ s.fld MOL_IDBASE_BASE q + 1 = hid))) ∧
    (∃ (s : State) (g : _) (h : _), s.fbr.segs = [g, h] ∧ g.st = 1 ∧ h.win = g.win ∧ g.id < h.id ∧ h.hid = g.hid ∧ h.read = false ∧ h.st = 0 ∧ g.read = false ∧ s.winStrict g.win = true) ∧
    (∃ (s : State) (p : _) (g : _) (l : _), p < 6 ∧ s.fbr.segs = g :: l ∧ g.win < 16 ∧ g.st = 1 ∧ g.port = p ∧ s.ackTmo ≤ s.rnd.clk - g.sent ∧ g.read = false ∧ s.winStrict g.win = true ∧ s.fbr.log.length < 32) ∧
    (∃ (s : State) (p : _), p < 6 ∧ (∀ g ∈ s.fbr.segs, g.st = 1 → g.port = p → s.rnd.clk - g.sent < s.ackTmo)) ∧
    (∃ (s : State) (p : _) (g : _) (l : _) (a : _) (q : _), p < 6 ∧ s.whole ∧ s.fbr.segs = g :: l ∧ g.st = 2 ∧ g.port = p ∧ g.since = some a ∧ a ≤ s.absStitch ∧ s.resolve g.hid = .inl q ∧ (g.read = true → s.rnd.clk - g.acc < s.rdTmo) ∧ 0 < (s.port q).credits) ∧
    (∃ (s : State) (g : _) (l : _), s.fbr.segs = g :: l ∧ g.win < 16 ∧ g.read = true ∧ s.rdTmo ≤ s.rnd.clk - g.acc ∧ s.fbr.log.length < 32 ∧ s.flag HIF_CTRL_SLVERR_EN = false) ∧
    (∃ (s : State), (∀ g ∈ s.fbr.segs, g.read = true → s.rnd.clk - g.acc < s.rdTmo)) ∧
    (∃ (s : State) (rq : _) (i : _) (key : Word) (v : Word), i < 256 ∧ look s.stage (FBR_RTKEY.at i + 2 ^ 28 * reqCode rq) = some key ∧ routeBad key.toNat v.toNat = 0 ∧ s.reaches rq (FBR_RTDST.at i)) ∧
    (∃ (s : State) (rq : _) (i : _) (key : Word) (v : Word), i < 256 ∧ look s.stage (FBR_RTKEY.at i + 2 ^ 28 * reqCode rq) = some key ∧ routeBad key.toNat v.toNat ≠ 0 ∧ s.reaches rq (FBR_RTDST.at i)) ∧
    (∃ (s : State) (p : _) (m : _) (l : _), p < 6 ∧ s.fbr.mails = m :: l ∧ m.port = p ∧ s.coreDropped m.core = false ∧ (∀ x ∈ s.fbr.ints, x.port ≠ p) ∧ s.hubUnacked m.core 1 = false ∧ s.sendBehind 34 m.core 1 s.mesh.num = false ∧ s.sendBehind 34 (fileNode (s.fld FBR_RTDST_MRK m.route)) 3 s.mesh.num = false ∧ s.dieDropped (markerDie (s.fld FBR_RTDST_MRK m.route)) = false ∧ (∀ w ∈ s.mesh.waiters, w.marker ≠ s.fld FBR_RTDST_MRK m.route)) ∧
    (∃ (s : State) (p : _), p < 6 ∧ (∀ m ∈ s.fbr.mails, m.port ≠ p)) :=
  ⟨⟨segd 7 1 [sgm 0 15 0 false], 0x101, sgm 0 15 0 false, 5, by decide +kernel⟩,
   ⟨segd 7 0 [sgm 0 15 0 false], 0x101, sgm 0 15 0 false, 5, by decide +kernel⟩,
   ⟨segd 8 1 [sgm 0 15 0 false], 0x101, sgm 0 15 0 false, 7, by decide +kernel⟩,
   ⟨clk 2500000000 (segd 7 1 [sgm 0 15 0 true]), 0x101, sgm 0 15 0 true, 5, by decide +kernel⟩,
   ⟨segd 8 0 [], 0x101, 5, by decide +kernel⟩,
   ⟨strict15 (segd 7 1 [sgm 0 15 1 false, sgm 1 15 0 false]), sgm 0 15 1 false, sgm 1 15 0 false, by decide +kernel⟩,
   ⟨clk 2500000000 (strict15 (segd 7 1 [sgm 0 15 1 false])), 5, sgm 0 15 1 false, [], by decide +kernel⟩,
   ⟨segd 7 1 [sgm 0 15 1 false], 5, by decide +kernel⟩,
   ⟨segd 7 1 [{ sgm 0 15 2 false with since := some 0 }], 5, { sgm 0 15 2 false with since := some 0 }, [], 0, 5, by decide +kernel⟩,
   ⟨clk 2500000000 (segd 7 1 [sgm 0 15 1 true]), sgm 0 15 1 true, [], by decide +kernel⟩,
   ⟨segd 7 1 [sgm 0 15 1 true], by decide +kernel⟩,
   ⟨staged 0x80050101, Requester.host, 255, 0x80050101, 0, by decide +kernel⟩,
   ⟨staged 0x80050103, Requester.host, 255, 0x80050103, 0, by decide +kernel⟩,
   ⟨mailed, 5, ⟨5, 255, 31, 0x100, 77⟩, [], by decide +kernel⟩,
   ⟨rdy, 5, by decide +kernel⟩⟩

/-- Each clause of `Obligations.MarkerOperations` has a state and operands that meet its hypotheses. -/
theorem witness_MarkerOperations :
    (∃ (s : State) (n : _) (g : _) (k : _) (a : _) (w : _) (o : _), n < 32 ∧ g < 32 ∧ s.markerReq n g 0 = some (k, a, w, o) ∧ s.dieDropped (markerDie k) = false ∧ s.markerBehind n k o = false ∧ s.sendBehind n (fileNode k) 3 s.mesh.num = false) ∧
    (∃ (s : State) (n : _) (g : _) (k : _) (a : _) (w : _) (o : _), n < 32 ∧ g < 32 ∧ k < 256 ∧ s.markerReq n g 1 = some (k, a, w, o) ∧ s.dieDropped (markerDie k) = false ∧ s.markerBehind n k o = false ∧ s.sendBehind n (fileNode k) 3 s.mesh.num = false ∧ (s.core n).unacked o = false ∧ s.calm k ∧ (s.mowner k = noOwner ∨ s.mowner k = n)) ∧
    (∃ (s : State) (n : _) (g : _) (k : _) (a : _) (w : _) (o : _), n < 32 ∧ g < 32 ∧ s.markerReq n g 1 = some (k, a, w, o) ∧ s.dieDropped (markerDie k) = false ∧ s.markerBehind n k o = false ∧ s.sendBehind n (fileNode k) 3 s.mesh.num = false ∧ (s.core n).unacked o = false ∧ s.mowner k ≠ noOwner ∧ s.mowner k ≠ n) ∧
    (∃ (s : State) (n : _) (g : _) (k : _) (a : _) (w : _) (o : _), n < 32 ∧ g < 32 ∧ k < 256 ∧ s.markerReq n g 2 = some (k, a, w, o) ∧ s.dieDropped (markerDie k) = false ∧ s.markerBehind n k o = false ∧ s.sendBehind n (fileNode k) 3 s.mesh.num = false ∧ (s.core n).unacked o = false ∧ s.calm k) ∧
    (∃ (s : State) (n : _) (g : _) (k : _) (a : _) (w : _) (o : _), n < 32 ∧ g < 32 ∧ k < 256 ∧ s.markerReq n g 3 = some (k, a, w, o) ∧ s.dieDropped (markerDie k) = false ∧ s.markerBehind n k o = false ∧ s.sendBehind n (fileNode k) 3 s.mesh.num = false ∧ s.calm k ∧ a ≤ s.mval k) ∧
    (∃ (s : State) (n : _) (g : _) (k : _) (a : _) (w : _) (o : _), n < 32 ∧ g < 32 ∧ k < 256 ∧ s.markerReq n g 3 = some (k, a, w, o) ∧ s.dieDropped (markerDie k) = false ∧ s.markerBehind n k o = false ∧ s.sendBehind n (fileNode k) 3 s.mesh.num = false ∧ s.mval k < a ∧ w = 0) ∧
    (∃ (s : State) (n : _) (g : _) (k : _) (a : _) (w : _) (o : _), n < 32 ∧ g < 32 ∧ k < 256 ∧ s.markerReq n g 3 = some (k, a, w, o) ∧ s.dieDropped (markerDie k) = false ∧ s.markerBehind n k o = false ∧ s.sendBehind n (fileNode k) 3 s.mesh.num = false ∧ s.mval k < a ∧ 0 < w ∧ w < 0xFFFF) ∧
    (∃ (s : State) (n : _) (g : _) (k : _) (a : _) (w : _) (o : _), n < 32 ∧ g < 32 ∧ k < 256 ∧ s.markerReq n g 4 = some (k, a, w, o) ∧ s.dieDropped (markerDie k) = false ∧ s.markerBehind n k o = false ∧ s.sendBehind n (fileNode k) 3 s.mesh.num = false ∧ s.calm k ∧ a ≤ s.mval k) ∧
    (∃ (s : State) (n : _) (g : _) (k : _) (a : _) (w : _) (o : _), n < 32 ∧ g < 32 ∧ k < 256 ∧ s.markerReq n g 5 = some (k, a, w, o) ∧ s.dieDropped (markerDie k) = false ∧ s.markerBehind n k o = false ∧ s.sendBehind n (fileNode k) 3 s.mesh.num = false ∧ s.calm k ∧ s.mowner k = noOwner) ∧
    (∃ (s : State) (n : _) (g : _) (k : _) (a : _) (w : _) (o : _), n < 32 ∧ g < 32 ∧ k < 256 ∧ s.markerReq n g 6 = some (k, a, w, o) ∧ s.dieDropped (markerDie k) = false ∧ s.markerBehind n k o = false ∧ s.sendBehind n (fileNode k) 3 s.mesh.num = false ∧ (s.core n).unacked o = false ∧ s.calm k ∧ s.mowner k = n) ∧
    (∃ (s : State) (n : _) (g : _) (k : _) (a : _) (w : _) (o : _), n < 32 ∧ g < 32 ∧ s.markerReq n g 7 = some (k, a, w, o) ∧ s.dieDropped (markerDie k) = false ∧ s.markerBehind n k o = false ∧ s.sendBehind n (fileNode k) 3 s.mesh.num = false ∧ (s.core n).unacked o = false) :=
  ⟨⟨mreq 0 0 0 255 9, 31, 31, 255, 0, 0, 0, by decide +kernel⟩,
   ⟨mreq 1 77 0 31 9, 31, 31, 255, 77, 0, 0, by decide +kernel, by decide +kernel, by decide +kernel, by decide +kernel, by decide +kernel, by decide +kernel, by decide +kernel, by decide +kernel, by unfold State.calm; decide +kernel, by decide +kernel⟩,
   ⟨mreq 1 77 0 30 9, 31, 31, 255, 77, 0, 0, by decide +kernel⟩,
   ⟨mreq 2 4294967295 0 30 9, 31, 31, 255, 4294967295, 0, 0, by decide +kernel, by decide +kernel, by decide +kernel, by decide +kernel, by decide +kernel, by decide +kernel, by decide +kernel, by decide +kernel, by unfold State.calm; decide +kernel⟩,
   ⟨mreq 3 9 0 30 9, 31, 31, 255, 9, 0, 0, by decide +kernel, by decide +kernel, by decide +kernel, by decide +kernel, by decide +kernel, by decide +kernel, by decide +kernel, by unfold State.calm; decide +kernel, by decide +kernel⟩,
   ⟨mreq 3 10 0 30 9, 31, 31, 255, 10, 0, 0, by decide +kernel⟩,
   ⟨mreq 3 10 0xFFFE 30 9, 31, 31, 255, 10, 0xFFFE, 0, by decide +kernel⟩,
   ⟨mreq 4 9 0 30 9, 31, 31, 255, 9, 0, 0, by decide +kernel, by decide +kernel, by decide +kernel, by decide +kernel, by decide +kernel, by decide +kernel, by decide +kernel, by unfold State.calm; decide +kernel, by decide +kernel⟩,
   ⟨mreq 5 0 0 255 9, 31, 31, 255, 0, 0, 0, by decide +kernel, by decide +kernel, by decide +kernel, by decide +kernel, by decide +kernel, by decide +kernel, by decide +kernel, by unfold State.calm; decide +kernel, by decide +kernel⟩,
   ⟨mreq 6 0 0 31 9, 31, 31, 255, 0, 0, 0, by decide +kernel, by decide +kernel, by decide +kernel, by decide +kernel, by decide +kernel, by decide +kernel, by decide +kernel, by decide +kernel, by unfold State.calm; decide +kernel, by decide +kernel⟩,
   ⟨mreq 7 0 0 31 9, 31, 31, 255, 0, 0, 0, by decide +kernel⟩⟩

/-- Each clause of `Obligations.MarkerTimes` has a state and operands that meet its hypotheses. -/
theorem witness_MarkerTimes :
    (∃ (s : State) (rq : _), s.reaches rq MRK_HOPCMD.base ∧ (s.reg (hopCopy rq.node MRK_HOPRES)).toNat.testBit 30 = false) ∧
    (∃ (s : State) (rq : _), s.reaches rq MRK_HOPCMD.base ∧ (s.reg (hopCopy rq.node MRK_HOPRES)).toNat.testBit 30 = true) ∧
    (∃ (s : State) (n : _) (h : _), n ∈ [35, 36, 37] ∧ s.hopReq n 7 = some h ∧ h.node = n ∧ h.marker < 256 ∧ s.dieDropped (markerDie h.marker) = false ∧ s.held n (fileNode h.marker) = false ∧ s.calm h.marker) ∧
    (∃ (s : State) (n : _) (h : _), n ∈ [35, 36, 37] ∧ s.hopReq n 5 = some h ∧ h.node = n ∧ h.marker < 256 ∧ s.dieDropped (markerDie h.marker) = false ∧ s.held n (fileNode h.marker) = false ∧ s.mowner h.marker ≠ noOwner ∧ s.mowner h.marker ≠ n) ∧
    (∃ (s : State) (n : _) (g : _) (w : _) (l : _) (x : _), n < 32 ∧ g < 32 ∧ s.mesh.waiters = w :: l ∧ w.node = n ∧ w.tag = g ∧ w.till = some x ∧ x ≤ s.rnd.clk ∧ (∀ y ∈ l, y.marker ≠ w.marker) ∧ w.marker < 256 ∧ (s.slot n g).op.isSome = true) ∧
    (∃ (s : State) (n : _) (g : _), n < 32 ∧ g < 32 ∧ (∀ w ∈ s.mesh.waiters, w.node = n → w.tag = g → ∀ x, w.till = some x → s.rnd.clk < x)) ∧
    (∃ (s : State) (k : _) (l : _) (x : _), k < 256 ∧ s.mesh.leases = x :: l ∧ x.marker = k ∧ x.frozen = false ∧ x.till ≤ s.rnd.clk ∧ s.calm k) ∧
    (∃ (s : State) (k : _), k < 256 ∧ (∀ y ∈ s.mesh.leases, y.marker = k → y.frozen = true ∨ s.rnd.clk < y.till)) ∧
    (∃ (s : State) (n : _) (g : _) (k : _) (a : _) (w : _) (o : _) (c : _), n < 32 ∧ c ∈ [(Instr.markerRead n g, 0), (Instr.markerSet n g, 1), (Instr.markerAdd n g, 2), (Instr.markerTake n g, 3), (Instr.markerWaitge n g, 4), (Instr.markerAcquire n g, 5), (Instr.markerRelease n g, 6), (Instr.markerReset n g, 7)] ∧ g < 32 ∧ s.markerReq n g c.2 = some (k, a, w, o) ∧ s.dieDropped (markerDie k) = true) ∧
    (∃ (s : State) (n : _) (g : _) (k : _) (op : _) (a : _) (b : _) (v : _) (o : _) (x : _), n < 32 ∧ g < 32 ∧ (s.slot n g).op = some (.marker k op a b) ∧ (s.slot n g).answer = some (x, v, o) ∧ (s.core n).halted = false ∧ (s.core n).wait = .none ∧ s.replyWaits n g = false ∧ x ≠ 6 ∧ (s.core n).adds = []) ∧
    (∃ (s : State) (n : _) (g : _) (k : _) (op : _) (a : _) (b : _) (v : _) (o : _) (rd : _), n < 32 ∧ g < 32 ∧ (s.slot n g).op = some (.marker k op a b) ∧ (s.slot n g).answer = some (0, v, o) ∧ (s.core n).halted = false ∧ (s.core n).wait = .mopb rd g ∧ s.replyWaits n g = false ∧ (s.core n).adds = []) :=
  ⟨⟨rdy, Requester.debug, by decide +kernel⟩,
   ⟨rdy.setReg (hopCopy (Requester.debug).node MRK_HOPRES) 0x40000000, Requester.debug, by decide +kernel⟩,
   ⟨hop 7, 37, { node := 37, marker := 255, op := 7, arg := 55 }, by decide +kernel, by decide +kernel, by decide +kernel, by decide +kernel, by decide +kernel, by decide +kernel, by unfold State.calm; decide +kernel⟩,
   ⟨hop 5, 37, { node := 37, marker := 255, op := 5, arg := 55 }, by decide +kernel⟩,
   ⟨waiting, 31, 31, ⟨255, 31, 31, 3, 10, some 0⟩, [], 0, by decide +kernel⟩,
   ⟨rdy, 31, 31, by decide +kernel⟩,
   ⟨(mreq 3 10 7 4 9).modMesh (fun m => { m with leases := [⟨255, 0, false⟩] }), 255, [], ⟨255, 0, false⟩, by decide +kernel, by decide +kernel, by decide +kernel, by decide +kernel, by decide +kernel, by unfold State.calm; decide +kernel⟩,
   ⟨(mreq 3 10 7 4 9).modMesh (fun m => { m with leases := [⟨255, 1, false⟩] }), 255, by decide +kernel⟩,
   ⟨(mreq 5 0 0 255 9).setFld PWR_DROP_UNIT_CD 2, 31, 31, 255, 0, 0, 0, (Instr.markerAcquire 31 31, 5), by decide +kernel⟩,
   ⟨mansw 0 .none, 31, 31, 255, 3, 10, 0, 8, 6, 0, by decide +kernel⟩,
   ⟨mansw 0 (.mopb 4 31), 31, 31, 255, 3, 10, 0, 8, 6, 4, by decide +kernel⟩⟩

/-- Each clause of `Obligations.MeshPackets` has a state and operands that meet its hypotheses. -/
theorem witness_MeshPackets :
    (∃ (s : State) (n : _) (g : _) (d : _) (c : _) (q : _) (k : _) (a : _) (len : _) (v : _), n < 32 ∧ g < 32 ∧ s.whole ∧ (s.slot n g).op = some (.send d c q k a len 0 v) ∧ (s.slot n g).answer = none ∧ d < 32 ∧ 0 < len ∧ len ≤ 248 ∧ s.sendBehind n d k (s.slot n g).sent = false ∧ s.wayClear ∧ s.coreDropped d = false ∧ s.chanOn d c = true ∧ s.chanSrc d c = n ∧ c < (s.core d).chans.length ∧ (s.chan d c).expect = q ∧ (s.chan d c).arr = [] ∧ (s.core d).wait = .none) ∧
    (∃ (s : State) (n : _) (g : _) (d : _) (c : _) (q : _) (k : _) (a : _) (len : _) (v : _), n < 32 ∧ g < 32 ∧ (s.slot n g).op = some (.send d c q k a len 0 v) ∧ (s.slot n g).answer = none ∧ d < 32 ∧ 0 < len ∧ len ≤ 248 ∧ s.sendBehind n d k (s.slot n g).sent = false ∧ s.wayClear ∧ s.coreDropped d = false ∧ s.chanOn d c = false ∧ (s.core d).wait = .none) ∧
    (∃ (s : State) (n : _) (g : _) (m : _) (i : _) (b : _) (buf : _), n < 32 ∧ g < 32 ∧ s.headMove n g = some (m, i, b, buf) ∧ m.dir = 1 ∧ m.cls ≠ 0 ∧ i < m.packets ∧ s.moverLands n m = true ∧ s.wayClear) ∧
    (∃ (s : State) (n : _) (g : _) (m : _) (i : _) (b : _) (buf : _), n < 32 ∧ g < 32 ∧ s.headMove n g = some (m, i, b, buf) ∧ m.dir = 1 ∧ s.moverLands n m = false ∧ s.wayClear) ∧
    (∃ (s : State) (n : _) (g : _) (m : _) (i : _) (buf : _), n < 32 ∧ g < 32 ∧ s.headMove n g = some (m, i, 0, buf) ∧ m.dir = 2 ∧ m.cls ≠ 0 ∧ i + 1 < m.reads ∧ s.moverLands n m = true ∧ s.wayClear) ∧
    (∃ (s : State) (n : _) (g : _) (m : _) (i : _) (b : _) (buf : _), n < 32 ∧ g < 32 ∧ s.headMove n g = some (m, i, b, buf) ∧ m.dir = 2 ∧ m.cls ≠ 0 ∧ i + 1 = m.reads ∧ b ≠ 0 ∧ b ≠ 4 ∧ s.moverLands n m = true ∧ s.wayClear) ∧
    (∃ (s : State) (n : _) (g : _) (e : List Nat) (x : _) (a : _) (len : _), n < 32 ∧ g < 32 ∧ s.readNow n g = some (x, a, len) ∧ x.1.node < 32 ∧ (s.meshRead x.1.node a len (e.filter (fun i => decide (i < len)))).2 = 4 ∧ s.struckNow = [] ∧ s.hlth.flog.length < 16) ∧
    (∃ (s : State) (n : _) (g : _) (d : _) (c : _) (q : _) (k : _) (a : _) (len : _) (i : _) (v : _) (st : _) (x : _) (y : _), n < 32 ∧ g < 32 ∧ (s.slot n g).op = some (.send d c q k a len i v) ∧ (s.slot n g).answer = some (st, x, y) ∧ s.replyWaits n g = false ∧ st ≠ 5 ∧ s.wayClear) ∧
    (∃ (s : State) (n : _) (g : _), n < 32 ∧ g < 32 ∧ s.replyWaits n g = true) ∧
    (∃ (s : State) (n : _) (e : _) (r : _) (l : _), n < 34 ∧ e < 34 ∧ s.mesh.rets = r :: l ∧ r.dst = n ∧ r.src = e ∧ s.sendBehind e n 1 r.seq = true ∧ s.wayClear) ∧
    (∃ (s : State) (n : _) (e : _) (r : _) (l : _), n < 34 ∧ e < 34 ∧ s.mesh.rets = r :: l ∧ r.dst = n ∧ r.src = e ∧ s.sendBehind e n 1 r.seq = false ∧ s.wayClear ∧ r.count ≠ 0) ∧
    (∃ (s : State) (n : _) (e : _) (r : _) (l : _), n < 34 ∧ e < 34 ∧ s.mesh.rets = r :: l ∧ r.dst = n ∧ r.src = e ∧ s.sendBehind e n 1 r.seq = false ∧ s.wayClear ∧ r.count = 0) ∧
    (∃ (s : State) (n : _) (c : _), n < 32 ∧ c < 16 ∧ s.whole ∧ c < (s.core n).chans.length ∧ s.chanOn n c = true ∧ s.reaches .host (CORE_CHFLUSH.at n)) ∧
    (∃ (s : State) (n : _) (g : _) (l : _) (m : _) (i : _) (b : _) (buf : _) (st : _) (x : _) (y : _), n < 32 ∧ (s.core n).movq = g :: l ∧ (s.slot n g).op = some (.move m i b buf) ∧ (s.slot n g).answer = some (st, x, y) ∧ m.dir ≠ 0 ∧ m.mrken = false ∧ s.replyWaits n g = false ∧ st ≠ 5 ∧ s.wayClear) ∧
    (∃ (s : State) (n : _), n < 32 ∧ (s.core n).movq = []) :=
  ⟨⟨sendOp 1, 31, 31, 30, 15, 0, 1, 64, 248, [], by decide +kernel⟩,
   ⟨sendOp 0, 31, 31, 30, 15, 0, 1, 64, 248, [], by decide +kernel⟩,
   ⟨aloft 1 0 0, 31, 31, mdesc 1, 0, 0, [], by decide +kernel⟩,
   ⟨moving 1 0 0, 31, 31, mdesc 1, 0, 0, [], by decide +kernel⟩,
   ⟨aloft 2 0 0, 31, 31, mdesc 2, 0, [], by decide +kernel⟩,
   ⟨aloft 2 1 5, 31, 31, mdesc 2, 1, 5, [], by decide +kernel⟩,
   ⟨aloft 2 0 0, 31, 31, [3], (mdesc 2, 0, 0, []), 0, 8, by decide +kernel⟩,
   ⟨(sendOp 1).answer 31 31 7 0 0, 31, 31, 30, 15, 0, 1, 64, 248, 0, [], 7, 0, 0, by decide +kernel⟩,
   ⟨(((sendOp 1).modSlot 31 30 (fun x => { x with op := some (.send 30 15 1 1 64 8 1 []) })).answer 31 30 0 0 0).answer 31 31 0 0 0, 31, 31, by decide +kernel⟩,
   ⟨(List.range 6).foldl (fun s l => s.setFld PURL_STAT_STATE 1 l) (returned 0), 33, 32, ⟨33, 32, 15, 0, 0⟩, [], by decide +kernel⟩,
   ⟨returned 1, 33, 32, ⟨33, 32, 15, 1, 0⟩, [], by decide +kernel⟩,
   ⟨returned 0, 33, 32, ⟨33, 32, 15, 0, 0⟩, [], by decide +kernel⟩,
   ⟨sendOp 1, 30, 15, by decide +kernel⟩,
   ⟨(moving 1 0 0).answer 31 31 0 0 0, 31, 31, [], mdesc 1, 0, 0, [], 0, 0, 0, by decide +kernel⟩,
   ⟨rdy, 31, by decide +kernel⟩⟩

/-- Each clause of `Obligations.PurlLinks` has a state and operands that meet its hypotheses. -/
theorem witness_PurlLinks :
    (∃ (s : State) (l : _), l < 6 ∧ s.fld PURL_STAT_STATE l = 2 ∧ (look s.mesh.replays l).getD 0 + 1 ≤ s.live PURL_CFG_RPTHR) ∧
    (∃ (s : State) (l : _), l < 6 ∧ s.fld PURL_STAT_STATE l = 2 ∧ s.live PURL_CFG_RPTHR < (look s.mesh.replays l).getD 0 + 1) ∧
    (∃ (s : State) (l : _), l < 6 ∧ s.fld PURL_STAT_STATE l ≠ 2) ∧
    (∃ (s : State) (l : _), l < 6 ∧ s.fld PURL_STAT_STATE l = 1 ∧ s.wayClear) ∧
    (∃ (s : State) (l : _), l < 6 ∧ s.fld PURL_STAT_STATE l = 1 ∧ s.fld PURL_STAT_FAILS l + 1 < s.live PURL_CFG_RTMAX) ∧
    (∃ (s : State) (l : _), l < 6 ∧ s.fld PURL_STAT_STATE l ≠ 1) :=
  ⟨⟨purl 2, 5, by decide +kernel⟩,
   ⟨(purl 2).setLive PURL_CFG_RPTHR 0 5, 5, by decide +kernel⟩,
   ⟨(purl 2).setFld PURL_STAT_STATE 1 5, 5, by decide +kernel⟩,
   ⟨purl 1, 5, by decide +kernel⟩,
   ⟨(purl 1).setLive PURL_CFG_RTMAX 2 5, 5, by decide +kernel⟩,
   ⟨purl 2, 5, by decide +kernel⟩⟩

/-- Each clause of `Obligations.CpArithmetic` has a state and operands that meet its hypotheses. -/
theorem witness_CpArithmetic :
    (∃ (s : State) (n : _) (w : _), s.whole ∧ s.issues n 0x00 w ∧ s.pc n + 4 ≤ 0xFFFC) ∧
    (∃ (s : State) (n : _) (w : _), s.whole ∧ s.issues n 0x01 w ∧ s.pc n + 4 ≤ 0xFFFC) ∧
    (∃ (s : State) (n : _) (w : _), s.whole ∧ s.issues n 0x02 w ∧ s.pc n + 4 ≤ 0xFFFC) ∧
    (∃ (s : State) (n : _) (w : _), s.whole ∧ s.issues n 0x03 w ∧ s.pc n + 4 ≤ 0xFFFC) ∧
    (∃ (s : State) (n : _) (w : _), s.whole ∧ s.issues n 0x04 w ∧ s.pc n + 4 ≤ 0xFFFC ∧ accessExc (s.effAddr n w) (2 ^ nbits w 14 2) (2 ^ nbits w 14 2) = none) ∧
    (∃ (s : State) (n : _) (w : _), s.whole ∧ s.issues n 0x05 w ∧ s.pc n + 4 ≤ 0xFFFC ∧ accessExc (s.effAddr n w) (2 ^ nbits w 14 2) (2 ^ nbits w 14 2) = none) ∧
    (∃ (s : State) (n : _) (w : _), s.whole ∧ s.issues n 0x06 w ∧ s.pc n + 4 ≤ 0xFFFC ∧ accessExc (s.effAddr n w) (2 ^ nbits w 14 2) (2 ^ nbits w 14 2) = none) ∧
    (∃ (s : State) (n : _) (w : _), s.whole ∧ s.issues n 0x08 w ∧ condHolds (nbits w 13 3) (s.gpr n (fRd w)) (s.gpr n (fRa w)) = false ∧ s.pc n + 4 ≤ 0xFFFC) ∧
    (∃ (s : State) (n : _) (w : _) (x : _), s.whole ∧ s.issues n 0x08 w ∧ condHolds (nbits w 13 3) (s.gpr n (fRd w)) (s.gpr n (fRa w)) = true ∧ x ≤ 0xFFFC ∧ ((s.pc n : Nat) : Int) + 4 * sInt 13 (nbits w 0 13) = (x : Nat)) ∧
    (∃ (s : State) (n : _) (w : _) (x : _), s.whole ∧ s.issues n 0x09 w ∧ x ≤ 0xFFFC ∧ ((s.pc n : Nat) : Int) + 4 * sInt 21 (nbits w 0 21) = (x : Nat)) ∧
    (∃ (s : State) (n : _) (w : _) (x : _), s.whole ∧ s.issues n 0x0A w ∧ x ≤ 0xFFFC ∧ x % 4 = 0 ∧ uInt 32 ((s.gpr n (fRa w) : Nat) + sInt 16 (nbits w 0 16)) = x) :=
  ⟨⟨cp (code 0 3 1 2 0) [(1, 5), (2, 7)], 31, code 0 3 1 2 0, by decide +kernel, by unfold State.issues; decide +kernel, by decide +kernel⟩,
   ⟨cp (code 1 3 1 0 0xFFF) [(1, 5)], 31, code 1 3 1 0 0xFFF, by decide +kernel, by unfold State.issues; decide +kernel, by decide +kernel⟩,
   ⟨cp (code 2 3 0 0 0xFF) [], 31, code 2 3 0 0 0xFF, by decide +kernel, by unfold State.issues; decide +kernel, by decide +kernel⟩,
   ⟨cp (code 3 3 0 0 0xFF) [], 31, code 3 3 0 0 0xFF, by decide +kernel, by unfold State.issues; decide +kernel, by decide +kernel⟩,
   ⟨cp (code 4 3 1 0 (2 * 2 ^ 14)) [(1, 0xFFFFC)], 31, code 4 3 1 0 (2 * 2 ^ 14), by decide +kernel, by unfold State.issues; decide +kernel, by decide +kernel⟩,
   ⟨cp (code 5 3 1 0 0) [(1, 0xFFFFF)], 31, code 5 3 1 0 0, by decide +kernel, by unfold State.issues; decide +kernel, by decide +kernel⟩,
   ⟨cp (code 6 3 1 0 (2 ^ 14)) [(1, 0xFFFFE)], 31, code 6 3 1 0 (2 ^ 14), by decide +kernel, by unfold State.issues; decide +kernel, by decide +kernel⟩,
   ⟨cp (code 8 1 2 0 1) [(1, 5)], 31, code 8 1 2 0 1, by decide +kernel, by unfold State.issues; decide +kernel, by decide +kernel⟩,
   ⟨cp (code 8 1 1 0 1) [], 31, code 8 1 1 0 1, 0xFFFC, by decide +kernel, by unfold State.issues; decide +kernel, by decide +kernel⟩,
   ⟨cp (code 9 1 0 0 1) [], 31, code 9 1 0 0 1, 0xFFFC, by decide +kernel, by unfold State.issues; decide +kernel, by decide +kernel⟩,
   ⟨cp (code 10 1 2 0 0) [(2, 0xFFFC)], 31, code 10 1 2 0 0, 0xFFFC, by decide +kernel, by unfold State.issues; decide +kernel, by decide +kernel⟩⟩

/-- Each clause of `Obligations.CpTracked` has a state and operands that meet its hypotheses. -/
theorem witness_CpTracked :
    (∃ (s : State) (n : _) (w : _) (k : _) (b : _), s.whole ∧ s.issues n 0x0C w ∧ s.pc n + 4 ≤ 0xFFFC ∧ (s.core n).freeSlot = some k ∧ b = s.gpr n (fRb w) ∧ s.gpr n (fRa w) % 8 = 0 ∧ s.gpr n (fRa w) + nbits b 0 12 ≤ 0x100000 ∧ nbits b 12 4 = 0 ∧ nbits b 22 2 = 0 ∧ nbits b 30 2 = 0 ∧ 0 < nbits b 0 12 ∧ nbits b 0 12 ≤ 3968 ∧ nbits b 16 6 ≤ 33 ∧ (nbits b 28 2 = 1 ∨ nbits b 28 2 = 2) ∧ s.nodeDropped (nbits b 16 6) = false ∧ msgPackets (nbits b 0 12) ≤ s.credit n (nbits b 16 6) (nbits b 24 4)) ∧
    (∃ (s : State) (n : _) (w : _) (k : _) (b : _), s.whole ∧ s.issues n 0x0C w ∧ s.pc n + 4 ≤ 0xFFFC ∧ (s.core n).freeSlot = some k ∧ b = s.gpr n (fRb w) ∧ s.gpr n (fRa w) % 8 = 0 ∧ s.gpr n (fRa w) + nbits b 0 12 ≤ 0x100000 ∧ nbits b 12 4 = 0 ∧ nbits b 22 2 = 0 ∧ nbits b 30 2 = 0 ∧ 0 < nbits b 0 12 ∧ nbits b 0 12 ≤ 3968 ∧ nbits b 16 6 ≤ 33 ∧ nbits b 28 2 < 3 ∧ s.nodeDropped (nbits b 16 6) = false ∧ s.credit n (nbits b 16 6) (nbits b 24 4) < msgPackets (nbits b 0 12)) ∧
    (∃ (s : State) (n : _) (rd : _) (g : _) (d : _) (c : _) (k : _) (a : _) (len : _), n < 32 ∧ g < 32 ∧ s.whole ∧ (s.core n).halted = false ∧ (s.core n).wait = .send rd g ∧ (s.slot n g).op = some (.want d c k a len) ∧ (s.slot n g).answer = none ∧ msgPackets len ≤ s.credit n d c ∧ k ≠ 0) ∧
    (∃ (s : State) (n : _) (rd : _) (g : _) (d : _) (c : _) (k : _) (a : _) (len : _), n < 32 ∧ g < 32 ∧ s.whole ∧ (s.core n).halted = false ∧ (s.core n).wait = .send rd g ∧ (s.slot n g).op = some (.want d c k a len) ∧ (s.slot n g).answer = none ∧ s.credit n d c < msgPackets len) ∧
    (∃ (s : State) (n : _) (w : _), s.whole ∧ s.issues n 0x0C w ∧ s.gpr n (fRa w) % 8 = 0 ∧ s.gpr n (fRa w) + nbits (s.gpr n (fRb w)) 0 12 ≤ 0x100000 ∧ nbits (s.gpr n (fRb w)) 12 4 = 0 ∧ nbits (s.gpr n (fRb w)) 22 2 = 0 ∧ nbits (s.gpr n (fRb w)) 30 2 = 0 ∧ 0 < nbits (s.gpr n (fRb w)) 0 12 ∧ nbits (s.gpr n (fRb w)) 0 12 ≤ 3968 ∧ nbits (s.gpr n (fRb w)) 16 6 ≤ 33 ∧ nbits (s.gpr n (fRb w)) 28 2 < 3 ∧ (s.core n).freeSlot = none) ∧
    (∃ (s : State) (n : _) (w : _) (q : _) (f : _) (p : _) (l : _), s.whole ∧ s.issues n 0x0D w ∧ s.pc n + 4 ≤ 0xFFFC ∧ s.chanOn n (nbits w 0 4) = true ∧ (s.chan n (nbits w 0 4)).ready = (q, f, p) :: l) ∧
    (∃ (s : State) (n : _) (w : _), s.whole ∧ s.issues n 0x0D w ∧ s.pc n + 4 ≤ 0xFFFC ∧ s.chanOn n (nbits w 0 4) = true ∧ (s.chan n (nbits w 0 4)).ready = [] ∧ s.gpr n (fRa w) ≠ 0 ∧ (s.core n).halted = false) ∧
    (∃ (s : State) (n : _) (rd : _) (c : _) (x : _) (a : _), n < 32 ∧ s.whole ∧ (s.core n).wait = .recv rd c x a ∧ (s.core n).halted = false ∧ x ≠ 2 ^ 32 - 1 ∧ x ≤ s.cyclesIn n (s.rnd.clk - a)) ∧
    (∃ (s : State) (n : _) (rd : _) (c : _) (x : _) (a : _), n < 32 ∧ (s.core n).wait = .recv rd c x a ∧ (x = 2 ^ 32 - 1 ∨ s.cyclesIn n (s.rnd.clk - a) < x ∨ (s.core n).halted = true)) ∧
    (∃ (s : State) (n : _) (w : _), s.whole ∧ s.issues n 0x0E w ∧ s.pc n + 4 ≤ 0xFFFC ∧ s.chanOn n (nbits w 0 4) = true ∧ nbits w 0 4 < (s.core n).chans.length ∧ 0 < s.gpr n (fRa w) ∧ s.gpr n (fRa w) ≤ (s.chan n (nbits w 0 4)).out) ∧
    (∃ (s : State) (n : _) (w : _), s.whole ∧ s.issues n 0x40 w ∧ s.pc n + 4 ≤ 0xFFFC ∧ s.chanOn n (nbits w 0 4) = true ∧ nbits w 0 4 < (s.core n).chans.length) ∧
    (∃ (s : State) (n : _) (w : _), s.whole ∧ s.issues n 0x41 w ∧ s.pc n + 4 ≤ 0xFFFC ∧ s.chanOn n (nbits w 0 4) = true) ∧
    (∃ (s : State) (n : _) (w : _) (k : _) (o : _), s.whole ∧ s.issues n 0x10 w ∧ s.pc n + 4 ≤ 0xFFFC ∧ s.mopTrack n w = some o ∧ (s.core n).freeSlot = some k) ∧
    (∃ (s : State) (n : _) (w : _) (k : _) (o : _), s.whole ∧ s.issues n 0x11 w ∧ s.pc n + 4 ≤ 0xFFFC ∧ s.mopTrack n w = some o ∧ (s.core n).freeSlot = some k) ∧
    (∃ (s : State) (n : _) (w : _) (k : _) (d : _), s.whole ∧ s.issues n 0x14 w ∧ s.pc n + 4 ≤ 0xFFFC ∧ (s.core n).freeSlot = some k ∧ s.descAt n w = .ok d ∧ moverBad d = false) :=
  ⟨⟨sendC 16, 31, code 12 4 1 2 0, 0, sdesc, by decide +kernel, by unfold State.issues; decide +kernel, by decide +kernel⟩,
   ⟨sendC 15, 31, code 12 4 1 2 0, 0, sdesc, by decide +kernel, by unfold State.issues; decide +kernel, by decide +kernel⟩,
   ⟨wanting 1, 31, 4, 31, 33, 15, 1, 64, 248, by decide +kernel⟩,
   ⟨wanting 0, 31, 4, 31, 33, 15, 1, 64, 248, by decide +kernel⟩,
   ⟨full (sendC 16), 31, code 12 4 1 2 0, by decide +kernel, by unfold State.issues; decide +kernel, by decide +kernel⟩,
   ⟨chan15 (code 13 4 1 0 15) [(1, 8)] (fun c => { c with ready := [(0, 1, 2)] }), 31, code 13 4 1 0 15, 0, 1, 2, [], by decide +kernel, by unfold State.issues; decide +kernel, by decide +kernel⟩,
   ⟨chan15 (code 13 4 1 0 15) [(1, 8)] (fun c => c), 31, code 13 4 1 0 15, by decide +kernel, by unfold State.issues; decide +kernel, by decide +kernel⟩,
   ⟨waits (.recv 4 15 0 0), 31, 4, 15, 0, 0, by decide +kernel⟩,
   ⟨waits (.recv 4 15 0xFFFFFFFF 0), 31, 4, 15, 0xFFFFFFFF, 0, by decide +kernel⟩,
   ⟨chan15 (code 14 0 1 0 15) [(1, 8)] (fun c => { c with out := 8 }), 31, code 14 0 1 0 15, by decide +kernel, by unfold State.issues; decide +kernel, by decide +kernel⟩,
   ⟨chan15 (code 15 0 0 0 15) [] (fun c => c), 31, code 15 0 0 0 15, by decide +kernel, by unfold State.issues; decide +kernel, by decide +kernel⟩,
   ⟨chan15 (code 15 4 0 0 (16 + 15)) [] (fun c => c), 31, code 15 4 0 0 (16 + 15), by decide +kernel, by unfold State.issues; decide +kernel, by decide +kernel⟩,
   ⟨cp (code 16 4 1 2 3) [(1, 5), (2, 255)], 31, code 16 4 1 2 3, 0, .marker 255 3 5 0, by decide +kernel, by unfold State.issues; decide +kernel, by decide +kernel⟩,
   ⟨cp (code 17 4 1 2 3) [(1, 5), (2, 255)], 31, code 17 4 1 2 3, 0, .marker 255 3 5 0, by decide +kernel, by unfold State.issues; decide +kernel, by decide +kernel⟩,
   ⟨descd (code 20 4 1 0 0) movBytes, 31, code 20 4 1 0 0, 0, memBytes dflt0 (descd 0 movBytes).data (dataAt 31 0x40) 32, by decide +kernel, by unfold State.issues; decide +kernel, by decide +kernel⟩⟩

/-- Each clause of `Obligations.CpUnits` has a state and operands that meet its hypotheses. -/
theorem witness_CpUnits :
    (∃ (s : State) (n : _) (w : _) (d : _) (c : _), s.whole ∧ s.pc n + 4 ≤ 0xFFFC ∧ s.descAt n w = .ok d ∧ c ∈ [(Instr.mload n, 0x18, 0, opLoad, loadBad d), (Instr.mrun n, 0x19, 0, opRun, runBad d (s.core n).bound), (Instr.vrun n, 0x1C, 1, opVrun, vrunBad d), (Instr.ocfg n, 0x20, 2, opCfg, cfgBad d), (Instr.orun n, 0x21, 2, opDrain, drainBad d (s.core n).ocfg)] ∧ s.issues n c.2.1 w ∧ ((s.core n).unit c.2.2.1).q.length < 4 ∧ c.2.2.2.2 = false) ∧
    (∃ (s : State) (n : _) (w : _) (d : _), s.whole ∧ s.pc n + 4 ≤ 0xFFFC ∧ s.descAt n w = .ok d ∧ s.issues n 0x18 w ∧ (s.core n).mtx.q.length < 4 ∧ loadBad d = false) ∧
    (∃ (s : State) (n : _) (w : _) (c : _), s.whole ∧ s.pc n + 4 ≤ 0xFFFC ∧ c ∈ [(Instr.mwait n, 0x1A, 0), (Instr.vwait n, 0x1D, 1), (Instr.owait n, 0x22, 2)] ∧ s.issues n c.2.1 w ∧ ((s.core n).unit c.2.2).q = []) ∧
    (∃ (s : State) (n : _) (w : _) (c : _), s.whole ∧ s.pc n + 4 ≤ 0xFFFC ∧ c ∈ [(Instr.mwait n, 0x1A, 0), (Instr.vwait n, 0x1D, 1), (Instr.owait n, 0x22, 2)] ∧ s.issues n c.2.1 w ∧ ((s.core n).unit c.2.2).q ≠ []) ∧
    (∃ (s : State) (n : _) (rd : _) (c : _), n < 32 ∧ s.whole ∧ (s.core n).halted = false ∧ c ∈ [(Instr.mwait n, 0), (Instr.vwait n, 1), (Instr.owait n, 2)] ∧ (s.core n).wait = .unit rd c.2 ∧ ((s.core n).unit c.2).q = []) ∧
    (∃ (s : State) (n : _) (w : _), s.whole ∧ s.issues n 0x1B w ∧ s.pc n + 4 ≤ 0xFFFC) ∧
    (∃ (s : State) (n : _) (w : _), s.whole ∧ s.issues n 0x51 w ∧ s.pc n + 4 ≤ 0xFFFC ∧ (s.core n).fenced (nbits w 0 6) = true) ∧
    (∃ (s : State) (n : _) (w : _), s.whole ∧ s.issues n 0x51 w ∧ s.pc n + 4 ≤ 0xFFFC ∧ (s.core n).fenced (nbits w 0 6) = false) ∧
    (∃ (s : State) (n : _) (x : _), n < 32 ∧ s.whole ∧ (s.core n).halted = false ∧ (s.core n).wait = .fence x ∧ (s.core n).fenced x = true) ∧
    (∃ (s : State) (n : _) (w : _) (x : _), s.whole ∧ s.issues n 0x52 w ∧ s.pc n + 4 ≤ 0xFFFC ∧ s.gpr n (fRa w) < 32 ∧ (s.slot n (s.gpr n (fRa w))).op = none ∧ (s.slot n (s.gpr n (fRa w))).kept = some x) ∧
    (∃ (s : State) (n : _) (rd : _) (g : _), n < 32 ∧ s.whole ∧ (s.core n).halted = false ∧ (s.core n).wait = .waitt rd g ∧ (s.slot n g).op = none) ∧
    (∃ (s : State) (n : _) (w : _) (x : _), s.whole ∧ s.issues n 0x54 w ∧ s.pc n + 4 ≤ 0xFFFC ∧ s.csr n (nbits w 0 6) = some x) ∧
    (∃ (s : State) (n : _) (w : _), s.whole ∧ s.issues n 0x55 w ∧ s.pc n + 4 ≤ 0xFFFC ∧ nbits w 0 6 = 0x08) ∧
    (∃ (s : State) (n : _) (w : _), s.whole ∧ s.issues n 0x55 w ∧ s.pc n + 4 ≤ 0xFFFC ∧ nbits w 0 6 = 0x0A) ∧
    (∃ (s : State) (n : _) (w : _), s.whole ∧ s.issues n 0x56 w ∧ s.pc n + 4 ≤ 0xFFFC ∧ 0 < s.live CORE_WDT_PERIOD n) :=
  ⟨⟨descd loadW loadB, 31, loadW, loadB, (.mload 31, 0x18, 0, opLoad, loadBad loadB), by decide +kernel, by decide +kernel, by decide +kernel, by decide +kernel, by unfold State.issues; decide +kernel, by decide +kernel⟩,
   ⟨descd loadW loadB, 31, loadW, loadB, by decide +kernel, by decide +kernel, by decide +kernel, by unfold State.issues; decide +kernel, by decide +kernel⟩,
   ⟨cp (code 0x1A 4 0 0 0) [], 31, code 0x1A 4 0 0 0, (.mwait 31, 0x1A, 0), by decide +kernel, by decide +kernel, by decide +kernel, by unfold State.issues; decide +kernel, by decide +kernel⟩,
   ⟨onUnit31 0 [qop opLoad loadB loadB] (cp (code 0x1A 4 0 0 0) []), 31, code 0x1A 4 0 0 0, (.mwait 31, 0x1A, 0), by decide +kernel, by decide +kernel, by decide +kernel, by unfold State.issues; decide +kernel, by decide +kernel⟩,
   ⟨waits (.unit 4 0), 31, 4, (.mwait 31, 0), by decide +kernel⟩,
   ⟨cp (code 0x1B 4 0 0 0) [], 31, code 0x1B 4 0 0 0, by decide +kernel, by unfold State.issues; decide +kernel, by decide +kernel⟩,
   ⟨cp (sysc 1 15 0 0 0) [], 31, sysc 1 15 0 0 0, by decide +kernel, by unfold State.issues; decide +kernel, by decide +kernel⟩,
   ⟨onUnit31 0 [qop opLoad loadB loadB] (cp (sysc 1 15 0 0 0) []), 31, sysc 1 15 0 0 0, by decide +kernel, by unfold State.issues; decide +kernel, by decide +kernel⟩,
   ⟨waits (.fence 15), 31, 15, by decide +kernel⟩,
   ⟨(cp (sysc 2 0 1 0 4) [(1, 31)]).modSlot 31 31 (fun x => { x with kept := some 7 }), 31, sysc 2 0 1 0 4, 7, by decide +kernel, by unfold State.issues; decide +kernel, by decide +kernel⟩,
   ⟨waits (.waitt 4 31), 31, 4, 31, by decide +kernel⟩,
   ⟨cp (sysc 4 0 0 0 4) [], 31, sysc 4 0 0 0 4, 31, by decide +kernel, by unfold State.issues; decide +kernel, by decide +kernel⟩,
   ⟨cp (sysc 5 8 1 0 0) [(1, 9)], 31, sysc 5 8 1 0 0, by decide +kernel, by unfold State.issues; decide +kernel, by decide +kernel⟩,
   ⟨cp (sysc 5 10 1 0 0) [(1, 9)], 31, sysc 5 10 1 0 0, by decide +kernel, by unfold State.issues; decide +kernel, by decide +kernel⟩,
   ⟨(cp (sysc 6 0 0 0 0) []).setLive CORE_WDT_PERIOD 1 31, 31, sysc 6 0 0 0 0, by decide +kernel, by unfold State.issues; decide +kernel, by decide +kernel⟩⟩

/-- Each clause of `Obligations.CpJobs` has a state and operands that meet its hypotheses. -/
theorem witness_CpJobs :
    (∃ (s : State) (n : _) (w : _), s.whole ∧ s.issues n 0x50 w ∧ s.gpr n (fRa w) < 256) ∧
    (∃ (s : State) (n : _) (u : _), n < 32 ∧ u < 256 ∧ s.whole ∧ (s.core n).halted = false ∧ (s.core n).wait = .done u ∧ (s.core n).fenced 15 = true ∧ (s.core n).inst = none ∧ (s.core n).left = none) ∧
    (∃ (s : State) (n : _) (u : _), n < 32 ∧ (s.core n).halted = false ∧ (s.core n).wait = .done u ∧ (s.core n).fenced 15 = false) ∧
    (∃ (s : State) (n : _) (w : _), s.whole ∧ s.issues n 0x53 w ∧ s.pc n + 4 ≤ 0xFFFC ∧ s.gpr n (fRb w) < 1024 ∧ s.stitchesTo (s.gpr n (fRa w) * 1024 + s.gpr n (fRb w)) ≤ 0) ∧
    (∃ (s : State) (n : _) (w : _), s.whole ∧ s.issues n 0x53 w ∧ s.pc n + 4 ≤ 0xFFFC ∧ s.gpr n (fRb w) < 1024 ∧ 0 < s.stitchesTo (s.gpr n (fRa w) * 1024 + s.gpr n (fRb w)) ∧ s.stitchesTo (s.gpr n (fRa w) * 1024 + s.gpr n (fRb w)) ≤ 16384) ∧
    (∃ (s : State) (n : _) (x : _), n < 32 ∧ s.whole ∧ (s.core n).halted = false ∧ (s.core n).wait = .sleep x ∧ s.stitchesTo x ≤ 0) ∧
    (∃ (s : State) (n : _) (x : _), n < 32 ∧ (s.core n).wait = .sleep x ∧ 0 < s.stitchesTo x) ∧
    (∃ (s : State) (n : _) (w : _), s.whole ∧ s.issues n 0x57 w ∧ s.flag DBG_CTRL_ATTACH = true) ∧
    (∃ (s : State) (n : _) (c : _), n < 32 ∧ s.whole ∧ s.haltDue n = some c) ∧
    (∃ (s : State) (n : _), n < 32 ∧ s.haltDue n = none) ∧
    (∃ (s : State) (n : _), n < 32 ∧ s.whole ∧ s.cstate n = cIdle ∧ s.namesCore n = false ∧ s.dieCrit (coreDie n) = false ∧ s.flag CORE_CTRL_COMMIT n = false ∧ s.reaches .host (CORE_CTRL.at n)) ∧
    (∃ (s : State) (n : _), n < 32 ∧ (s.cstate n ≠ cIdle ∨ s.namesCore n = true ∨ s.dieCrit (coreDie n) = true) ∧ s.reaches .host (CORE_CTRL.at n)) ∧
    (∃ (s : State) (n : _), n < 32 ∧ s.whole ∧ s.busy n = true ∧ s.binding = false ∧ s.reaches .host (CORE_CTRL.at n)) ∧
    (∃ (s : State) (n : _), n < 32 ∧ s.busy n = false ∧ s.reaches .host (CORE_CTRL.at n)) :=
  ⟨⟨cp (sysc 0 0 1 0 0) [(1, 255)], 31, sysc 0 0 1 0 0, by decide +kernel, by unfold State.issues; decide +kernel, by decide +kernel⟩,
   ⟨waits (.done 255), 31, 255, by decide +kernel⟩,
   ⟨onUnit31 0 [qop opLoad loadB loadB] (waits (.done 255)), 31, 255, by decide +kernel⟩,
   ⟨cp (sysc 3 0 1 2 0) [(1, 0), (2, 0)], 31, sysc 3 0 1 2 0, by decide +kernel, by unfold State.issues; decide +kernel, by decide +kernel⟩,
   ⟨cp (sysc 3 0 1 2 0) [(1, 16), (2, 0)], 31, sysc 3 0 1 2 0, by decide +kernel, by unfold State.issues; decide +kernel, by decide +kernel⟩,
   ⟨waits (.sleep 0), 31, 0, by decide +kernel⟩,
   ⟨waits (.sleep 1), 31, 1, by decide +kernel⟩,
   ⟨(cp (sysc 7 0 0 0 0) []).setFld DBG_CTRL_ATTACH 1, 31, sysc 7 0 0 0 0, by decide +kernel, by unfold State.issues; decide +kernel, by decide +kernel⟩,
   ⟨rdy.setRegN DBG_HALT (2 ^ 31), 31, 1, by decide +kernel⟩,
   ⟨rdy, 31, by decide +kernel⟩,
   ⟨rdy, 31, by decide +kernel⟩,
   ⟨rdy.setFld CORE_STATUS_STATE 1 31, 31, by decide +kernel⟩,
   ⟨rdy.setFld CORE_STATUS_STATE 2 31, 31, by decide +kernel⟩,
   ⟨rdy, 31, by decide +kernel⟩⟩

/-- Each clause of `Obligations.CpExceptions` has a state and operands that meet its hypotheses. -/
theorem witness_CpExceptions :
    (∃ (s : State) (n : _) (c : _), n < 32 ∧ s.whole ∧ s.canIssue n = true ∧ legal (s.fetch n) = false ∧ c ∈ [Instr.alu n, .alui n, .lui n, .oril n, .ldu n, .lds n, .st n, .bc n, .jal n, .jalr n, .send n, .recv n, .mrel n, .mctlFlush n, .mctlStatus n, .mop n, .mopb n, .movd n, .mload n, .mrun n, .mwait n, .mstat n, .vrun n, .vwait n, .ocfg n, .orun n, .owait n, .done n, .fence n, .waitt n, .wstitch n, .csrr n, .csrw n, .wdkick n, .brk n]) ∧
    (∃ (s : State) (n : _) (c : _), n < 32 ∧ s.canIssue n = true ∧ legal (s.fetch n) = true ∧ c ∈ [(Instr.alu n, 0x00), (Instr.alui n, 0x01), (Instr.lui n, 0x02), (Instr.oril n, 0x03), (Instr.ldu n, 0x04), (Instr.lds n, 0x05), (Instr.st n, 0x06), (Instr.bc n, 0x08), (Instr.jal n, 0x09), (Instr.jalr n, 0x0A), (Instr.send n, 0x0C), (Instr.recv n, 0x0D), (Instr.movd n, 0x14), (Instr.csrr n, 0x54), (Instr.brk n, 0x57)] ∧ rowOf (s.fetch n) ≠ c.2) ∧
    (∃ (s : State) (n : _) (w : _) (x : _), s.whole ∧ (s.issues n 0x04 w ∧ x = Instr.ldu n ∨ s.issues n 0x05 w ∧ x = Instr.lds n ∨ s.issues n 0x06 w ∧ x = Instr.st n) ∧ s.effAddr n w % 2 ^ nbits w 14 2 ≠ 0) ∧
    (∃ (s : State) (n : _) (w : _) (x : _), s.whole ∧ (s.issues n 0x04 w ∧ x = Instr.ldu n ∨ s.issues n 0x05 w ∧ x = Instr.lds n ∨ s.issues n 0x06 w ∧ x = Instr.st n) ∧ s.effAddr n w % 2 ^ nbits w 14 2 = 0 ∧ 0x100000 < s.effAddr n w + 2 ^ nbits w 14 2) ∧
    (∃ (s : State) (n : _) (w : _), s.whole ∧ s.issues n 0x00 w ∧ s.pc n = 0xFFFC) ∧
    (∃ (s : State) (n : _) (w : _), s.whole ∧ s.issues n 0x50 w ∧ 256 ≤ s.gpr n (fRa w)) ∧
    (∃ (s : State) (n : _) (w : _) (d : _), s.whole ∧ s.issues n 0x14 w ∧ (s.core n).freeSlot ≠ none ∧ s.descAt n w = .ok d ∧ moverBad d = true) ∧
    (∃ (s : State) (n : _) (w : _), s.whole ∧ s.issues n 0x53 w ∧ s.gpr n (fRb w) < 1024 ∧ 16384 < s.stitchesTo (s.gpr n (fRa w) * 1024 + s.gpr n (fRb w))) ∧
    (∃ (s : State) (n : _) (w : _), s.whole ∧ s.issues n 0x52 w ∧ s.gpr n (fRa w) < 32 ∧ (s.slot n (s.gpr n (fRa w))).op = none ∧ (s.slot n (s.gpr n (fRa w))).kept = none) ∧
    (∃ (s : State) (n : _) (w : _) (x : _), s.whole ∧ (s.issues n 0x0D w ∧ x = Instr.recv n ∨ s.issues n 0x0E w ∧ x = Instr.mrel n ∨ s.issues n 0x40 w ∧ x = Instr.mctlFlush n ∨ s.issues n 0x41 w ∧ x = Instr.mctlStatus n) ∧ s.chanOn n (nbits w 0 4) = false) ∧
    (∃ (s : State) (n : _) (w : _), s.whole ∧ s.issues n 0x54 w ∧ 0x0B < nbits w 0 6) ∧
    (∃ (s : State) (n : _) (w : _), s.whole ∧ s.issues n 0x55 w ∧ nbits w 0 6 ≠ 0x08 ∧ nbits w 0 6 ≠ 0x0A) ∧
    (∃ (s : State) (n : _) (w : _), s.whole ∧ s.issues n 0x57 w ∧ s.flag DBG_CTRL_ATTACH = false) :=
  ⟨⟨cp 0xFFFFFFFF [], 31, .alu 31, by decide +kernel⟩,
   ⟨cp (code 1 3 1 0 0) [], 31, (.alu 31, 0), by decide +kernel⟩,
   ⟨ldw 0xFFFFE, 31, code 4 3 1 0 (2 * 2 ^ 14), Instr.ldu 31, by decide +kernel, by unfold State.issues; decide +kernel, by decide +kernel⟩,
   ⟨ldw 0x100000, 31, code 4 3 1 0 (2 * 2 ^ 14), Instr.ldu 31, by decide +kernel, by unfold State.issues; decide +kernel, by decide +kernel⟩,
   ⟨cpAt 0xFFFC (code 0 3 1 2 0) [], 31, code 0 3 1 2 0, by decide +kernel, by unfold State.issues; decide +kernel, by decide +kernel⟩,
   ⟨cp (sysc 0 0 1 0 0) [(1, 256)], 31, sysc 0 0 1 0 0, by decide +kernel, by unfold State.issues; decide +kernel, by decide +kernel⟩,
   ⟨descd (code 20 4 1 0 0) (List.replicate 32 255), 31, code 20 4 1 0 0, List.replicate 32 255, by decide +kernel, by unfold State.issues; decide +kernel, by decide +kernel⟩,
   ⟨cp (sysc 3 0 1 2 0) [(1, 16), (2, 1)], 31, sysc 3 0 1 2 0, by decide +kernel, by unfold State.issues; decide +kernel, by decide +kernel⟩,
   ⟨cp (sysc 2 0 1 0 4) [(1, 31)], 31, sysc 2 0 1 0 4, by decide +kernel, by unfold State.issues; decide +kernel, by decide +kernel⟩,
   ⟨cp (code 13 4 1 0 15) [], 31, code 13 4 1 0 15, Instr.recv 31, by decide +kernel, by unfold State.issues; decide +kernel, by decide +kernel⟩,
   ⟨cp (sysc 4 12 0 0 4) [], 31, sysc 4 12 0 0 4, by decide +kernel, by unfold State.issues; decide +kernel, by decide +kernel⟩,
   ⟨cp (sysc 5 9 1 0 0) [], 31, sysc 5 9 1 0 0, by decide +kernel, by unfold State.issues; decide +kernel, by decide +kernel⟩,
   ⟨cp (sysc 7 0 0 0 0) [], 31, sysc 7 0 0 0 0, by decide +kernel, by unfold State.issues; decide +kernel, by decide +kernel⟩⟩

/-- Each clause of `Obligations.MatrixOperations` has a state and operands that meet its hypotheses. -/
theorem witness_MatrixOperations :
    (∃ (s : State) (n : _) (o : _) (c : _), n < 32 ∧ s.whole ∧ c ∈ [(Instr.matrixOpStart n, 0), (Instr.vpOpStart n, 1), (Instr.outputOpStart n, 2)] ∧ (s.core n).ready c.2 = some o ∧ o.kind ≠ opRun) ∧
    (∃ (s : State) (n : _) (o : _), n < 32 ∧ s.whole ∧ (s.core n).ready 0 = some o ∧ o.kind = opRun) ∧
    (∃ (s : State) (n : _) (c : _), n < 32 ∧ c ∈ [(Instr.matrixOpStart n, 0), (Instr.vpOpStart n, 1), (Instr.outputOpStart n, 2)] ∧ (s.core n).ready c.2 = none) ∧
    (∃ (s : State) (n : _) (o : _), n < 32 ∧ s.whole ∧ (s.core n).runs 0 = some o ∧ o.kind = opLoad) ∧
    (∃ (s : State) (n : _) (o : _) (p : _), n < 32 ∧ s.whole ∧ (s.core n).runs 0 = some o ∧ o.kind = opRun ∧ o.tile = p ∧ p.mode = 2 ∧ p.pack = 0 ∧ p.split = 1 ∧ p.fmt = 2 ∧ p.accum = false ∧ p.batch = 1 ∧ p.m = 1 ∧ p.n = 1 ∧ p.acc < 65536) ∧
    (∃ (s : State) (n : _) (o : _) (v : _), n < 32 ∧ s.whole ∧ (s.core n).runs 1 = some o ∧ o.kind = opVrun ∧ o.vrun = v ∧ v.fmt = 2 ∧ v.rows = 1 ∧ v.n = 1 ∧ v.accum = false ∧ v.acc < 65536) ∧
    (∃ (s : State) (n : _) (o : _), n < 32 ∧ s.whole ∧ (s.core n).runs 2 = some o ∧ o.kind = opCfg) ∧
    (∃ (s : State) (n : _) (o : _) (d : _), n < 32 ∧ s.whole ∧ (s.core n).runs 2 = some o ∧ o.kind = opDrain ∧ parseDrain o.d = d ∧ d.m = 1 ∧ d.n = 1) ∧
    (∃ (s : State) (n : _) (c : _), n < 32 ∧ c ∈ [(Instr.matrixOpDone n, 0), (Instr.vpOpDone n, 1), (Instr.outputOpDone n, 2)] ∧ (s.core n).runs c.2 = none) ∧
    (∃ (s : State) (n : _) (o : _) (v : _) (a : _) (u : _) (c : _) (p : _) (d : _) (x : _), n < 32 ∧ ((s.core n).runs (if v then 1 else 0) = some o) ∧ s.struckNow = [] ∧ (s.checkMade n o v a u c p x && checkFails o v c d x) = false) ∧
    (∃ (s : State) (n : _) (o : _) (v : _) (a : _) (u : _) (c : _) (p : _) (d : _) (x : _), n < 32 ∧ s.whole ∧ ((s.core n).runs (if v then 1 else 0) = some o) ∧ s.checkMade n o v a u c p x = true ∧ checkFails o v c d x = true ∧ s.struckNow = [] ∧ s.chkFirst n = false ∧ s.coreDropped n = false ∧ s.busy n = true ∧ (s.core n).inst = none) ∧
    (∃ (s : State) (n : _) (o : _) (v : _) (a : _) (u : _) (c : _) (p : _) (d : _) (x : _), n < 32 ∧ s.whole ∧ ((s.core n).runs (if v then 1 else 0) = some o) ∧ s.checkMade n o v a u c p x = true ∧ checkFails o v c d x = true ∧ s.struckNow = [] ∧ s.chkFirst n = true ∧ s.coreDropped n = false ∧ s.hlth.flog.length < 16) :=
  ⟨⟨unitOp 0 opLoad loadB false, 31, { qop opLoad loadB loadB with started := false }, (.matrixOpStart 31, 0), by decide +kernel⟩,
   ⟨unitOp 0 opRun runB false, 31, { qop opRun runB loadB with started := false }, by decide +kernel⟩,
   ⟨rdy, 31, (.vpOpStart 31, 1), by decide +kernel⟩,
   ⟨unitOp 0 opLoad loadB true, 31, qop opLoad loadB loadB, by decide +kernel⟩,
   ⟨unitOp 0 opRun runB true, 31, qop opRun runB loadB, (qop opRun runB loadB).tile, by decide +kernel⟩,
   ⟨unitOp 1 opVrun vrunB true, 31, qop opVrun vrunB loadB, (qop opVrun vrunB loadB).vrun, by decide +kernel⟩,
   ⟨unitOp 2 opCfg loadB true, 31, qop opCfg loadB loadB, by decide +kernel⟩,
   ⟨unitOp 2 opDrain drainB true, 31, qop opDrain drainB loadB, parseDrain drainB, by decide +kernel⟩,
   ⟨rdy, 31, (.outputOpDone 31, 2), by decide +kernel⟩,
   ⟨unitOp 0 opRun runB true, 31, qop opRun runB loadB, false, 0, 0, true, 0, 0, 0, by decide +kernel⟩,
   ⟨(unitOp 0 opRun runB true).setFld CORE_STATUS_STATE 1 31, 31, qop opRun runB loadB, false, 0, 0, true, 0, 1, 0, by decide +kernel⟩,
   ⟨(unitOp 0 opRun runB true).setChk1 31 true, 31, qop opRun runB loadB, false, 0, 0, true, 0, 1, 0, by decide +kernel⟩⟩

/-- Each clause of `Obligations.Fences` has a state and operands that meet its hypotheses. -/
theorem witness_Fences :
    (∃ (s : State) (n : _), n < 32 ∧ s.wdExpired n = true ∧ s.coreDropped n = false ∧ s.struckNow = [] ∧ s.hlth.flog.length < 16) ∧
    (∃ (s : State) (n : _), n < 32 ∧ s.wdExpired n = false) ∧
    (∃ (s : State) (k : _) (v : _), k < 2 ∧ (s.engine k).run = some v ∧ s.fld SOL_WDT_PERIOD k ≠ 0 ∧ 250 * s.fld SOL_WDT_PERIOD k < s.rnd.clk - v.startAt ∧ s.unitDropped 1 k = false ∧ s.struckNow = [] ∧ s.hlth.flog.length < 16) ∧
    (∃ (s : State) (k : _) (v : _), k < 2 ∧ (s.engine k).run = some v ∧ (s.fld SOL_WDT_PERIOD k = 0 ∨ s.rnd.clk - v.startAt ≤ 250 * s.fld SOL_WDT_PERIOD k)) ∧
    (∃ (s : State) (k : _) (i : _), k ≠ 5 ∧ k ≠ 6 ∧ i < unitCount k ∧ s.unitDropped k i = false ∧ s.struckNow = [] ∧ s.hlth.flog.length < 16) ∧
    (∃ (s : State) (k : _) (i : _), k ∈ [1, 4, 7, 9] ∧ i < unitCount k ∧ s.unitDropped k i = false ∧ s.struckNow = [] ∧ s.hlth.flog.length < 16) ∧
    (∃ (s : State) (k : _) (i : _), k ≠ 6 ∧ i < unitCount k ∧ s.unitDropped k i = false ∧ s.struckNow = [] ∧ s.hlth.flog.length < 16) ∧
    (∃ (s : State) (k : _) (i : _), s.unitDropped k i = true ∧ s.struckNow.find? (fun x => decide (x.unit = 256 * k + i)) = none) ∧
    (∃ (s : State) (k : _) (i : _) (x : _) (l : _) (r : _), k ≠ 5 ∧ k ≠ 6 ∧ i < unitCount k ∧ s.unitDropped k i = true ∧ s.struckNow.find? (fun x => decide (x.unit = 256 * k + i)) = some x ∧ 2 < x.cause ∧ x.cause < 16 ∧ r < 2 ^ 15 ∧ s.hlth.flog = l ++ [i + 2 ^ 8 * k + 2 ^ 12 * x.cause + 2 ^ 16 * r + 2 ^ 31]) ∧
    (∃ (s : State) (k : _) (i : _) (x : _), k ≠ 5 ∧ k ≠ 6 ∧ i < unitCount k ∧ s.unitDropped k i = true ∧ s.struckNow.find? (fun x => decide (x.unit = 256 * k + i)) = some x ∧ x.cause ≤ 2) ∧
    (∃ (s : State) (p : _) (f : _), p < 6 ∧ (s.lp p).frames.find? (fun f => f.closed && !f.done) = some f ∧ presentTicks f.w < s.rnd.clk - f.lastAt ∧ s.unitDropped 2 p = false ∧ s.struckNow = [] ∧ s.hlth.flog.length < 16) ∧
    (∃ (s : State) (p : _) (f : _), p < 6 ∧ (s.lp p).frames.find? (fun f => f.closed && !f.done) = some f ∧ s.rnd.clk - f.lastAt ≤ presentTicks f.w) ∧
    (∃ (s : State) (l : _), l < 6 ∧ s.fld PURL_STAT_STATE l = 1 ∧ s.live PURL_CFG_RTMAX ≤ s.fld PURL_STAT_FAILS l + 1 ∧ s.struckNow = [] ∧ s.hlth.flog.length < 15) ∧
    (∃ (s : State) (e : _) (l : _), s.hlth.flog = e :: l) :=
  ⟨⟨rdy.modCore 31 (fun c => { c with wdMark := some 0 }), 31, by decide +kernel⟩,
   ⟨rdy, 31, by decide +kernel⟩,
   ⟨(solving (250 * 2 ^ 32)).setFld SOL_WDT_PERIOD 1 1, 1, slv, by decide +kernel⟩,
   ⟨solving 0, 1, slv, by decide +kernel⟩,
   ⟨rdy, 0, 31, by decide +kernel⟩,
   ⟨rdy, 4, 1, by decide +kernel⟩,
   ⟨rdy, 9, 0, by decide +kernel⟩,
   ⟨dropped 0 31, 0, 31, by decide +kernel⟩,
   ⟨struckC 3, 0, 31, { unit := 31, cause := 3, clk := 0 }, [5], 7, by decide +kernel⟩,
   ⟨struckC 2, 0, 31, { unit := 31, cause := 2, clk := 0 }, by decide +kernel⟩,
   ⟨closedF 20000, 5, { frm with closed := true }, by decide +kernel⟩,
   ⟨closedF 1, 5, { frm with closed := true }, by decide +kernel⟩,
   ⟨(rdy.setFld PURL_STAT_STATE 1 5).setFld PURL_STAT_FAILS 15 5, 5, by decide +kernel⟩,
   ⟨rdy.modHlth (fun h => { h with flog := [5, 6] }), 5, [6], by decide +kernel⟩⟩

/-- Each clause of `Obligations.Recovery` has a state and operands that meet its hypotheses. -/
theorem witness_Recovery :
    (∃ (s : State) (k : _) (i : _), k ≠ 5 ∧ k ≠ 6 ∧ i < unitCount k ∧ s.unitDropped k i = true ∧ s.unitDieDropped k i = false ∧ s.fld PWR_BOSTAT_STAGE = 0 ∧ s.hlth.revive = none ∧ s.pat.readm = none) ∧
    (∃ (s : State) (k : _) (i : _), (k = 5 ∨ k = 6 ∨ unitCount k ≤ i ∨ s.unitDropped k i = false ∨ s.hlth.revive.isSome = true)) ∧
    (∃ (s : State) (n : _), n < 32 ∧ s.hlth.revive = some (0, n) ∧ s.unitDieDropped 0 n = false) ∧
    (∃ (s : State) (u : _), s.hlth.revive = some u) ∧
    (∃ (s : State), s.hlth.revive = none) ∧
    (∃ (s : State) (k : _) (n : _), k ∈ [0, 1] ∧ n < 32 ∧ (look s.hlth.ecc (64 * k + n)).getD 0 + 1 < s.live PWR_HCFG_ECCTHR) ∧
    (∃ (s : State) (k : _) (i : _), k < 4 ∧ (i < (if k ≤ 1 then 32 else if k = 2 then 2 else 1)) ∧ s.live PWR_HCFG_ECCTHR ≤ (look s.hlth.ecc (64 * k + i)).getD 0 + 1 ∧ 64 * k + i ∉ s.hlth.eccDone) ∧
    (∃ (s : State) (n : _) (r : _), n < 32 ∧ s.live PWR_HCFG_CHKWIN ≠ 0 ∧ look s.hlth.chkRnd n = some r ∧ s.live PWR_HCFG_CHKWIN ≤ (s.count48 + 2 ^ 48 - r) % 2 ^ 48) ∧
    (∃ (s : State), s.live PWR_HCFG_CHKWIN = 0) :=
  ⟨⟨dropped 0 31, 0, 31, by decide +kernel⟩,
   ⟨rdy, 0, 31, by decide +kernel⟩,
   ⟨reviving 31, 31, by decide +kernel⟩,
   ⟨reviving 31, (0, 31), by decide +kernel⟩,
   ⟨rdy, by decide +kernel⟩,
   ⟨rdy.setLive PWR_HCFG_ECCTHR 2, 0, 31, by decide +kernel⟩,
   ⟨(eccd 1 31 0).setLive PWR_HCFG_ECCTHR 1, 1, 31, by decide +kernel⟩,
   ⟨chkd, 31, 0, by decide +kernel⟩,
   ⟨rdy.setLive PWR_HCFG_CHKWIN 0, by decide +kernel⟩⟩

/-- Each clause of `Obligations.ClocksAndTemperature` has a state and operands that meet its hypotheses. -/
theorem witness_ClocksAndTemperature :
    (∃ (s : State) (n : _), n < 32 ∧ s.coreDropped n = false ∧ s.coreFloor n < s.fld CLK_CORE_FREQ n ∧ s.coreFloor n < 2 ^ 11) ∧
    (∃ (s : State) (n : _), n < 32 ∧ s.whole ∧ s.coreDropped n = false ∧ s.fld CLK_CORE_FREQ n ≤ s.coreFloor n ∧ 25 ≤ s.fld CLK_CORE_VCODE n ∧ (s.core n).avLimit + 1 < 64) ∧
    (∃ (s : State) (n : _), n < 32 ∧ s.whole ∧ s.coreDropped n = false ∧ (s.core n).avMargin = 3 ∧ s.coreCeil n < 2 ^ 11) ∧
    (∃ (s : State) (n : _), n < 32 ∧ s.whole ∧ s.coreDropped n = false ∧ (s.core n).avMargin < 3) ∧
    (∃ (s : State) (n : _), n < 32 ∧ s.coreDropped n = true) ∧
    (∃ (s : State) (x : _), s.sensorBad 0 = false ∧ -960 ≤ sInt 16 x ∧ sInt 16 x ≤ 2880 ∧ s.fld TMP_LIM_WCLR < s.fld TMP_LIM_WSET ∧ s.fld TMP_LIM_WSET ≤ s.fld TMP_LIM_CRIT ∧ ((16 * s.fld TMP_LIM_WSET : Nat) : Int) < sInt 16 x ∧ 0 ∉ s.hlth.warn) ∧
    (∃ (s : State) (x : _), s.sensorBad 0 = false ∧ (sInt 16 x < -960 ∨ 2880 < sInt 16 x)) ∧
    (∃ (s : State) (k : _), k < 12 ∧ s.sensorBad k = false ∧ 250000 ≤ s.rnd.clk - s.hlth.upd.getD k 0) ∧
    (∃ (s : State) (k : _), k < 12 ∧ (s.sensorBad k = true ∨ s.rnd.clk - s.hlth.upd.getD k 0 < 250000)) :=
  ⟨⟨coreClk 401, 31, by decide +kernel⟩,
   ⟨(coreClk 400).setFld CLK_CORE_VCODE 25 31, 31, by decide +kernel⟩,
   ⟨rdy.modCore 31 (fun c => { c with avMargin := 3 }), 31, by decide +kernel⟩,
   ⟨rdy, 31, by decide +kernel⟩,
   ⟨dropped 0 31, 31, by decide +kernel⟩,
   ⟨withRaw TMP_LIM.base 0x786E5F64 rdy, 2880, by decide +kernel⟩,
   ⟨rdy, 2881, by decide +kernel⟩,
   ⟨clk 250000 rdy, 11, by decide +kernel⟩,
   ⟨rdy, 11, by decide +kernel⟩⟩

/-- Each clause of `Obligations.FramerOperations` has a state and operands that meet its hypotheses. -/
theorem witness_FramerOperations :
    (∃ (s : State), (s.flag PWR_DROP_UNIT_WFM = true ∨ s.boot.halted = true)) ∧
    (∃ (s : State) (c : _) (w : _), c < 48 ∧ c < s.wfm.slots.length ∧ s.flag PWR_DROP_UNIT_WFM = false ∧ s.boot.halted = false ∧ (∀ d, d ≠ c → (s.fslot d).win = none) ∧ (s.fslot c).win = some w ∧ s.wfld w WFM_CHCFG_EN c = 1 ∧ w + s.winLen w c + s.wfld w WFM_CFG_LAG ≤ s.absStitch ∧ (∀ x ∈ (s.fslot c).wins, x.start < w) ∧ s.wfld (w + s.winLen w c) WFM_CHCFG_EN c = 1 ∧ s.absStitch < w + s.winLen w c + s.winLen (w + s.winLen w c) c + s.wfld (w + s.winLen w c) WFM_CFG_LAG) ∧
    (∃ (s : State) (c : _) (w : _), c < 48 ∧ (∀ d, d ≠ c → (s.fslot d).win = none) ∧ (s.fslot c).win = some w ∧ s.wfld w WFM_CHCFG_EN c = 1 ∧ s.absStitch < w + s.winLen w c + s.wfld w WFM_CFG_LAG ∧ (∀ x ∈ (s.fslot c).wins, x.start < w)) ∧
    (∃ (s : State) (e : _) (d : _), e < 64 ∧ s.boot.halted = false ∧ s.wfm.out.find? (fun x => x.em = e) = some d ∧ s.coreDropped d.core = false ∧ d.mrk = none ∧ s.hubUnacked d.core d.cls = false ∧ s.sendBehind 34 d.core d.cls s.mesh.num = false) ∧
    (∃ (s : State) (e : _) (d : _), e < 64 ∧ s.boot.halted = false ∧ s.wfm.out.find? (fun x => x.em = e) = some d ∧ s.coreDropped d.core = true) ∧
    (∃ (s : State) (k : _) (q : _), k < 4 ∧ s.wfm.ringq.find? (fun x => x.ring = k) = some q) ∧
    (∃ (s : State) (k : _) (q : _), k < 4 ∧ s.wfm.ringq.find? (fun x => x.ring = k) = some q) ∧
    (∃ (s : State), s.reaches .host WFM_TRGQ.base) ∧
    (∃ (s : State) (k : _), k < 4 ∧ s.reaches .host (WFM_RGCTRL.at k) ∧ s.rgState k = 3) ∧
    (∃ (s : State) (k : _), k < 4 ∧ s.reaches .host (WFM_RGCTRL.at k) ∧ s.rgState k ≠ 3) ∧
    (∃ (s : State) (k : _), k < 4 ∧ s.reaches .host (WFM_RGCTRL.at k) ∧ s.rgState k = 1 ∧ (∀ d, look s.wfm.ringDone k = some d → d < nearMod 48 d s.count48 + s.live WFM_RGCFG_POST k)) ∧
    (∃ (s : State) (k : _), k < 4 ∧ s.reaches .host (WFM_RGCTRL.at k) ∧ s.rgState k ≠ 1) :=
  ⟨⟨rdy.modBoot (fun b => { b with halted := true }), by decide +kernel⟩,
   ⟨framer 1, 47, 0, by decide +kernel, by decide +kernel, by decide +kernel, by decide +kernel, framer_only _, by decide +kernel⟩,
   ⟨framer 0, 47, 0, by decide +kernel, framer_only _, by decide +kernel⟩,
   ⟨outs [⟨63, 31, 0, 1024, 7, none⟩], 63, ⟨63, 31, 0, 1024, 7, none⟩, by decide +kernel⟩,
   ⟨(outs [⟨63, 31, 0, 1024, 7, none⟩]).setDrop 0 31 true, 63, ⟨63, 31, 0, 1024, 7, none⟩, by decide +kernel⟩,
   ⟨ringed 2, 3, { ring := 3, round := 9, addr := 4096, bytes := [5] }, by decide +kernel⟩,
   ⟨ringed 2, 3, { ring := 3, round := 9, addr := 4096, bytes := [5] }, by decide +kernel⟩,
   ⟨rdy, by decide +kernel⟩,
   ⟨rdy.setFld WFM_RGSTAT_STATE 3 3, 3, by decide +kernel⟩,
   ⟨rdy, 3, by decide +kernel⟩,
   ⟨rdy.setFld WFM_RGSTAT_STATE 1 3, 3, by decide +kernel⟩,
   ⟨rdy, 3, by decide +kernel⟩⟩

/-- Each clause of `Obligations.CameraFrames` has a state and operands that meet its hypotheses. -/
theorem witness_CameraFrames :
    (∃ (s : State) (p : _) (vc : _) (hdr : _), p < 6 ∧ hdr < 2 ∧ p < s.cam.lps.length ∧ s.flag CAM_PCTRL_COMMIT p = false ∧ s.flag ISP_LPCTRL_COMMIT p = false ∧ s.camState p = 1 ∧ s.camListens p = true ∧ s.live CAM_STREAM_VC p = vc ∧ (s.camPort p).edges = [] ∧ s.lpOn p = true ∧ (s.lp p).frames.length < 2) ∧
    (∃ (s : State) (p : _) (vc : _) (hdr : _), p < 6 ∧ hdr < 2 ∧ s.flag CAM_PCTRL_COMMIT p = false ∧ s.flag ISP_LPCTRL_COMMIT p = false ∧ s.camState p = 1 ∧ s.camListens p = true ∧ s.live CAM_STREAM_VC p = vc ∧ 2 ≤ (s.lp p).frames.length) ∧
    (∃ (s : State) (p : _) (vc : _), p < 6 ∧ s.flag CAM_PCTRL_COMMIT p = false ∧ s.flag ISP_LPCTRL_COMMIT p = false ∧ s.live CAM_STREAM_VC p ≠ vc) ∧
    (∃ (s : State) (p : _) (vc : _) (ecc : _) (c : _), p < 6 ∧ c ∈ [Instr.frameStart p ⟨vc, 2, ecc⟩, Instr.frameEnd p ⟨vc, 2⟩] ∧ s.flag CAM_PCTRL_COMMIT p = false ∧ s.flag ISP_LPCTRL_COMMIT p = false ∧ s.camListens p = true) ∧
    (∃ (s : State) (p : _), p < 6 ∧ s.committed (.cam p) = true ∧ s.camOpen p = true ∧ s.fld CAM_PHY_EN p = 0 ∧ s.camReject p = 0 ∧ s.camDropped p = false) ∧
    (∃ (s : State) (p : _) (vc : _) (hdr : _), p < 6 ∧ hdr < 2 ∧ s.camOpen p = true ∧ s.camListens p = true ∧ s.live CAM_STREAM_VC p = vc) ∧
    (∃ (s : State) (p : _), p < 6 ∧ s.camOpen p = false) ∧
    (∃ (s : State) (p : _), p < 6 ∧ s.camOpen p = true ∧ 250000 * s.live CAM_STREAM_FETMO p ≤ s.rnd.clk - (s.camPort p).last) ∧
    (∃ (s : State) (p : _), p < 6 ∧ s.rnd.clk - (s.camPort p).last < 250000 * s.live CAM_STREAM_FETMO p) ∧
    (∃ (s : State) (p : _), p < 6 ∧ s.camListens p = true) ∧
    (∃ (s : State) (p : _) (dt : _), p < 6 ∧ s.camListens p = true ∧ (dt = 0x10 ∨ dt = 0x11)) ∧
    (∃ (s : State) (p : _) (vc : _) (dt : _), p < 6 ∧ s.camListens p = true ∧ vc = s.live CAM_STREAM_VC p ∧ dt = s.live CAM_STREAM_DT p ∧ dt ≠ 0x10 ∧ dt ≠ 0x11 ∧ s.camOpen p = false) ∧
    (∃ (s : State) (p : _) (vc : _) (dt : _), p < 6 ∧ s.camListens p = true ∧ vc = s.live CAM_STREAM_VC p ∧ dt ≠ s.live CAM_STREAM_DT p ∧ dt ≠ 0x10 ∧ dt ≠ 0x11 ∧ s.live CAM_STREAM_EMBEN p = 0) ∧
    (∃ (s : State) (p : _) (vc : _) (dt : _) (ds : List Nat) (f : _), p < 6 ∧ s.camListens p = true ∧ vc = s.live CAM_STREAM_VC p ∧ dt = s.live CAM_STREAM_DT p ∧ dt ≠ 0x10 ∧ dt ≠ 0x11 ∧ s.camOpen p = true ∧ (s.lp p).frames = [f] ∧ p < s.cam.lps.length ∧ f.closed = false ∧ f.y0 ≤ (s.camPort p).lines ∧ (s.camPort p).lines < f.y0 + f.h ∧ f.x0 + f.w ≤ ds.length) :=
  ⟨⟨cam5 1, 5, vc5, 1, by decide +kernel⟩,
   ⟨fr5 [frm, frm] (cam5 1), 5, vc5, 1, by decide +kernel⟩,
   ⟨cam5 1, 5, vc5 + 1, by decide +kernel⟩,
   ⟨cam5 1, 5, 0, false, .frameEnd 5 ⟨0, 2⟩, by decide +kernel⟩,
   ⟨open5.setFld CAM_PCTRL_COMMIT 1 5, 5, by decide +kernel⟩,
   ⟨open5, 5, vc5, 1, by decide +kernel⟩,
   ⟨cam5 1, 5, by decide +kernel⟩,
   ⟨clk (250000 * 2 ^ 20) open5, 5, by decide +kernel⟩,
   ⟨open5.setLive CAM_STREAM_FETMO 1 5, 5, by decide +kernel⟩,
   ⟨cam5 1, 5, by decide +kernel⟩,
   ⟨cam5 1, 5, 0x11, by decide +kernel⟩,
   ⟨cam5 1, 5, vc5, dt5, by decide +kernel⟩,
   ⟨cam5 1, 5, vc5, 0x12, by decide +kernel⟩,
   ⟨open5, 5, vc5, dt5, List.replicate 18 1, frm, by decide +kernel⟩⟩

/-- Each clause of `Obligations.FsyncPulses` has a state and operands that meet its hypotheses. -/
theorem witness_FsyncPulses :
    (∃ (s : State) (p : _) (i : _), p < 6 ∧ p < s.cam.ports.length ∧ i < 8 ∧ i < s.cam.profs.length ∧ s.reaches .host CAM_FSW.base ∧ s.boot.halted = false ∧ s.camDropped p = false ∧ s.profOk (s.regN CAM_FSPROF_LO i) (s.regN CAM_FSPROF_HI i) = true ∧ (s.camPort p).plan = none ∧ (s.camPort p).pulseEnd = none) ∧
    (∃ (s : State) (p : _) (i : _), p < 6 ∧ i < 8 ∧ s.reaches .host CAM_FSW.base ∧ s.boot.halted = false ∧ s.camDropped p = false ∧ s.profOk (s.regN CAM_FSPROF_LO i) (s.regN CAM_FSPROF_HI i) = true ∧ (s.camPort p).plan ≠ none) ∧
    (∃ (s : State) (p : _) (i : _), p < 6 ∧ i < 8 ∧ s.reaches .host CAM_FSW.base ∧ s.boot.halted = false ∧ s.camDropped p = false ∧ s.profOk (s.regN CAM_FSPROF_LO i) (s.regN CAM_FSPROF_HI i) = false) ∧
    (∃ (s : State) (p : _) (u : _), p < 6 ∧ p < s.cam.ports.length ∧ (s.camPort p).plan = some u ∧ u.tick ≤ s.rnd.clk ∧ s.boot.halted = false ∧ (s.camPort p).edges.length < 4) ∧
    (∃ (s : State) (p : _) (u : _), p < 6 ∧ p < s.cam.ports.length ∧ (s.camPort p).plan = some u ∧ u.tick ≤ s.rnd.clk ∧ s.boot.halted = false ∧ (s.camPort p).edges.length = 4) ∧
    (∃ (s : State) (p : _), p < 6 ∧ (s.camPort p).plan = none) ∧
    (∃ (s : State) (p : _) (e : _), p < 6 ∧ (s.camPort p).pulseEnd = some e ∧ e ≤ s.rnd.clk ∧ (s.fld CAM_FSSTAT_ACTIVE).testBit p = true) ∧
    (∃ (p : _), p < 6) :=
  ⟨⟨rdy, 5, 7, by decide +kernel⟩,
   ⟨edge 0, 5, 7, by decide +kernel⟩,
   ⟨rdy.setReg (CAM_FSPROF_HI.at 7) 0, 5, 7, by decide +kernel⟩,
   ⟨edge 3, 5, ⟨0, 4, 3, false⟩, by decide +kernel⟩,
   ⟨edge 4, 5, ⟨0, 4, 3, false⟩, by decide +kernel⟩,
   ⟨rdy, 5, by decide +kernel⟩,
   ⟨(rdy.modCamPort 5 (fun c => { c with pulseEnd := some 0 })).setFld CAM_FSSTAT_ACTIVE 32, 5, 0, by decide +kernel⟩,
   ⟨0, by decide +kernel⟩⟩

/-- Each clause of `Obligations.PipelineFrames` has a state and operands that meet its hypotheses. -/
theorem witness_PipelineFrames :
    (∃ (s : State) (p : _) (f : _), p < 6 ∧ p < s.cam.lps.length ∧ s.lpDropped p = false ∧ s.boot.halted = false ∧ (s.lp p).frames = [f] ∧ f.closed = true ∧ f.done = false ∧ f.dlvs = []) ∧
    (∃ (s : State) (p : _) (f : _) (d : _), p < 6 ∧ p < s.cam.lps.length ∧ s.lpDropped p = false ∧ s.boot.halted = false ∧ (s.lp p).frames = [f] ∧ f.closed = true ∧ f.done = false ∧ f.dlvs = [d] ∧ d.kind < 2) ∧
    (∃ (s : State) (p : _), p < 6 ∧ (s.lp p).frames = []) ∧
    (∃ (s : State) (p : _) (k : _) (o : _), p < 6 ∧ k < 6 ∧ p < s.cam.lps.length ∧ s.boot.halted = false ∧ (s.lp p).owed.find? (fun x => x.dlv.k = k) = some o ∧ o.dlv.kind = 0 ∧ o.dlv.mrken = false) ∧
    (∃ (s : State) (p : _) (k : _), p < 6 ∧ k < 6 ∧ (s.lp p).owed = []) ∧
    (∃ (s : State), (s.txOn = false ∨ s.boot.parked = true)) ∧
    (∃ (s : State) (x : _) (dt : _) (bs : _) (rest : _), s.txOn = true ∧ s.boot.parked = false ∧ txNext s.cam.tx = some x ∧ x.pkts = (dt, bs) :: rest ∧ dt ≠ 1) ∧
    (∃ (s : State) (x : _) (bs : _), s.txOn = true ∧ s.boot.parked = false ∧ txNext s.cam.tx = some x ∧ x.pkts = [(1, bs)]) ∧
    (∃ (s : State) (q : _) (c : _), q < 2 ∧ c < 16 ∧ s.reaches .host (ISP_RPKICK.at q) ∧ s.rpDropped q = false ∧ s.flag PAT_STATUS_ACTIVE = false ∧ s.live ISP_RPCCTRL_EN q c = 1) ∧
    (∃ (s : State) (q : _) (c : _), q < 2 ∧ c < 16 ∧ s.reaches .host (ISP_RPKICK.at q) ∧ s.live ISP_RPCCTRL_EN q c = 0) ∧
    (∃ (s : State) (q : _) (c : _), q < 2 ∧ (s.rp q).run = none ∧ s.rpDropped q = false ∧ s.boot.halted = false ∧ s.nextFor (34 + q) = none ∧ (bitsOf (s.fld ISP_RPKICK_KICK q) 16).head? = some c ∧ s.flag ISP_RPCCTRL_COMMIT q c = false ∧ s.live ISP_RPCCTRL_EN q c = 1 ∧ s.rpSource q c = none) ∧
    (∃ (s : State) (q : _) (c : _) (a : _) (n : _), q < 2 ∧ q < s.cam.rps.length ∧ (s.rp q).run = none ∧ s.rpDropped q = false ∧ s.boot.halted = false ∧ s.nextFor (34 + q) = none ∧ (bitsOf (s.fld ISP_RPKICK_KICK q) 16).head? = some c ∧ s.flag ISP_RPCCTRL_COMMIT q c = false ∧ s.live ISP_RPCCTRL_EN q c = 1 ∧ s.rpSource q c = some (a, n) ∧ srcBad (s.lpddrBytes a 64) (s.live ISP_RPCSRCSZ_STRIDE q c) = false) ∧
    (∃ (s : State) (q : _), q < 2 ∧ (s.rp q).run ≠ none) ∧
    (∃ (s : State) (q : _) (r : _), q < 2 ∧ (s.rp q).run = some r ∧ r.ctx < 16 ∧ r.inst = none ∧ fieldLE (s.lpddrBytes (r.addr + 56) 4) 0 4 ≠ r.seq) ∧
    (∃ (s : State) (q : _) (r : _), q < 2 ∧ (s.rp q).run = some r ∧ r.ctx < 16 ∧ r.inst = none ∧ fieldLE (s.lpddrBytes (r.addr + 56) 4) 0 4 = r.seq ∧ (∀ k < 4, (pbOut ((s.rp q).pbs.getD r.ctx []) k).en = false)) ∧
    (∃ (s : State) (q : _), q < 2 ∧ (s.rp q).run = none) :=
  ⟨⟨doneF [], 5, { frm with closed := true }, by decide +kernel⟩,
   ⟨doneF [dlvy], 5, { frm with closed := true, dlvs := [dlvy] }, dlvy, by decide +kernel⟩,
   ⟨rdy, 5, by decide +kernel⟩,
   ⟨owed5, 5, 5, ⟨some 5, dlvy, List.replicate 60 1⟩, by decide +kernel⟩,
   ⟨rdy, 5, 5, by decide +kernel⟩,
   ⟨rdy, by decide +kernel⟩,
   ⟨txd [(0x2A, [1, 2]), (1, [4])], ⟨3, 2, 1, some 5, [(0x2A, [1, 2]), (1, [4])]⟩, 0x2A, [1, 2], [(1, [4])], by decide +kernel⟩,
   ⟨txd [(1, [4])], ⟨3, 2, 1, some 5, [(1, [4])]⟩, [4], by decide +kernel⟩,
   ⟨kicked 2, 1, 15, by decide +kernel⟩,
   ⟨kicked 0, 1, 15, by decide +kernel⟩,
   ⟨kicked 2, 1, 15, by decide +kernel⟩,
   ⟨srcF, 1, 15, 4096, 0, by decide +kernel⟩,
   ⟨rdy.modRp 1 (fun r => { r with run := some (rpRun 5) }), 1, by decide +kernel⟩,
   ⟨srcF.modRp 1 (fun r => { r with run := some (rpRun 5) }), 1, rpRun 5, by decide +kernel⟩,
   ⟨srcF.modRp 1 (fun r => { r with run := some (rpRun 0) }), 1, rpRun 0, by decide +kernel⟩,
   ⟨rdy, 1, by decide +kernel⟩⟩

/-- Each clause of `Obligations.LaceArithmetic` has a state and operands that meet its hypotheses. -/
theorem witness_LaceArithmetic :
    (∃ (s : State) (k : _) (v : _) (p : _) (l : _) (w : _) (c : _) (x : _), s.whole ∧ (x ∈ [(Instr.laceFma k, 0, fun a b e => fma64 a b e), (Instr.laceFms k, 1, fun a b e => fma64 a b (neg64 e)), (Instr.laceFnma k, 2, fun a b e => fma64 (neg64 a) b e), (Instr.laceAdd k, 3, fun a b _ => add64 a b), (Instr.laceSub k, 4, fun a b _ => sub64 a b), (Instr.laceMul k, 5, fun a b _ => mul64 a b), (Instr.laceMax k, 6, fun a b _ => max64 a b), (Instr.laceMin k, 7, fun a b _ => min64 a b), (Instr.laceAbs k, 8, fun a _ _ => a % 2 ^ 63), (Instr.laceNeg k, 9, fun a _ _ => neg64 a), (Instr.laceMov k, 10, fun a _ _ => a), (Instr.laceSel k, 11, fun a b e => if isNan64 e || lt64 e 0 then b else a)]) ∧ s.laceIssues k x.2.1 v p l w c) ∧
    (∃ (s : State) (k : _) (v : _) (p : _) (l : _) (w : _) (c : _) (x : _), s.whole ∧ s.laceIssues k 12 v p l w c ∧ x < 8 ∧ lwX w = x) ∧
    (∃ (s : State) (k : _) (v : _) (p : _) (l : _) (w : _) (c : _), s.whole ∧ s.laceIssues k 16 v p l w c) ∧
    (∃ (s : State) (k : _) (v : _) (p : _) (l : _) (w : _) (c : _), s.whole ∧ s.laceIssues k 17 v p l w c) ∧
    (∃ (s : State) (k : _) (v : _) (p : _) (l : _) (w : _) (c : _) (x : _) (a : _) (g : _), s.whole ∧ x ∈ [(Instr.lacePivr k, 18, false, true), (Instr.lacePivrp k, 19, true, true), (Instr.laceGpiv k, 20, false, false), (Instr.laceGpivp k, 21, true, false)] ∧ s.laceIssues k x.2.1 v p l w c ∧ a = (v.landTo c).d (lwRa w) ∧ g = guardPivot (s.live SOL_SLOTPIV_TAU_EXP k v.slot) (s.live SOL_SLOTPIV_DELTA_EXP k v.slot) x.2.2.1 a ((v.landTo c).d (lwRb w)) ((v.landTo c).d (lwRc w))) :=
  ⟨⟨laceS prg w0, 1, lsolve prg w0, prg, (lnx prg w0).1, (lnx prg w0).2.1, (lnx prg w0).2.2, (.laceFma 1, 0, fun a b e => fma64 a b e), by decide +kernel, List.mem_cons_self, by unfold State.laceIssues; decide +kernel⟩,
   ⟨laceS prg w12, 1, lsolve prg w12, prg, (lnx prg w12).1, (lnx prg w12).2.1, (lnx prg w12).2.2, 7, by decide +kernel, by unfold State.laceIssues; decide +kernel, by decide +kernel⟩,
   ⟨laceS prg w16, 1, lsolve prg w16, prg, (lnx prg w16).1, (lnx prg w16).2.1, (lnx prg w16).2.2, by decide +kernel, by unfold State.laceIssues; decide +kernel⟩,
   ⟨laceS prg w17, 1, lsolve prg w17, prg, (lnx prg w17).1, (lnx prg w17).2.1, (lnx prg w17).2.2, by decide +kernel, by unfold State.laceIssues; decide +kernel⟩,
   ⟨laceS prg w18, 1, lsolve prg w18, prg, (lnx prg w18).1, (lnx prg w18).2.1, (lnx prg w18).2.2, (Instr.lacePivr 1, 18, false, true), ((lsolve prg w18).landTo (lnx prg w18).2.2).d (lwRa (lnx prg w18).2.1), guardPivot ((laceS prg w18).live SOL_SLOTPIV_TAU_EXP 1 31) ((laceS prg w18).live SOL_SLOTPIV_DELTA_EXP 1 31) false (((lsolve prg w18).landTo (lnx prg w18).2.2).d (lwRa (lnx prg w18).2.1)) (((lsolve prg w18).landTo (lnx prg w18).2.2).d (lwRb (lnx prg w18).2.1)) (((lsolve prg w18).landTo (lnx prg w18).2.2).d (lwRc (lnx prg w18).2.1)), by decide +kernel, by decide +kernel, by unfold State.laceIssues; decide +kernel, by decide +kernel⟩⟩

/-- Each clause of `Obligations.LaceControl` has a state and operands that meet its hypotheses. -/
theorem witness_LaceControl :
    (∃ (s : State) (k : _) (v : _) (p : _) (l : _) (w : _) (c : _), s.whole ∧ s.laceIssues k 32 v p l w c) ∧
    (∃ (s : State) (k : _) (v : _) (p : _) (l : _) (w : _) (c : _), s.whole ∧ s.laceIssues k 33 v p l w c) ∧
    (∃ (s : State) (k : _) (v : _) (p : _) (l : _) (w : _) (c : _), s.whole ∧ s.laceIssues k 48 v p l w c) ∧
    (∃ (s : State) (k : _) (v : _) (p : _) (l : _) (w : _) (c : _), s.whole ∧ s.laceIssues k 49 v p l w c) ∧
    (∃ (s : State) (k : _) (v : _) (p : _) (l : _) (w : _) (c : _), s.whole ∧ s.laceIssues k 50 v p l w c ∧ lwX w < 3) ∧
    (∃ (s : State) (k : _) (v : _) (p : _) (l : _) (w : _) (c : _), s.whole ∧ s.laceIssues k 51 v p l w c) ∧
    (∃ (s : State) (k : _) (v : _) (p : _) (l : _) (w : _) (c : _), s.whole ∧ s.laceIssues k 52 v p l w c) ∧
    (∃ (s : State) (k : _) (v : _) (p : _) (x : _), k < 2 ∧ s.whole ∧ s.laceRunning k = some (v, p) ∧ p.nwords ≤ v.lace.pc ∧ x ∈ [Instr.laceFma k, .laceFms k, .laceFnma k, .laceAdd k, .laceSub k, .laceMul k, .laceMax k, .laceMin k, .laceAbs k, .laceNeg k, .laceMov k, .laceSel k, .laceConst k, .laceDiv k, .laceSqrt k, .lacePivr k, .lacePivrp k, .laceGpiv k, .laceGpivp k, .laceLd k, .laceSt k, .laceNop k, .laceWait k, .laceSpec k, .laceRep k, .laceEnd k]) ∧
    (∃ (s : State) (k : _) (v : _) (p : _) (l : _) (w : _) (c : _) (x : _), k < 2 ∧ s.whole ∧ s.laceRunning k = some (v, p) ∧ v.lace.nextWord (s.laceSrc k p) p = some (l, w, c) ∧ lwLegal w = false ∧ x ∈ [Instr.laceFma k, .laceDiv k, .laceLd k, .laceEnd k]) ∧
    (∃ (s : State) (k : _) (x : _), k < 2 ∧ s.laceRunning k = none ∧ x ∈ [Instr.laceFma k, .laceDiv k, .laceLd k, .laceSt k, .laceEnd k]) :=
  ⟨⟨laceS prg w32, 1, lsolve prg w32, prg, (lnx prg w32).1, (lnx prg w32).2.1, (lnx prg w32).2.2, by decide +kernel, by unfold State.laceIssues; decide +kernel⟩,
   ⟨laceS prg w33, 1, lsolve prg w33, prg, (lnx prg w33).1, (lnx prg w33).2.1, (lnx prg w33).2.2, by decide +kernel, by unfold State.laceIssues; decide +kernel⟩,
   ⟨laceS prg w48, 1, lsolve prg w48, prg, (lnx prg w48).1, (lnx prg w48).2.1, (lnx prg w48).2.2, by decide +kernel, by unfold State.laceIssues; decide +kernel⟩,
   ⟨laceS prg w49, 1, lsolve prg w49, prg, (lnx prg w49).1, (lnx prg w49).2.1, (lnx prg w49).2.2, by decide +kernel, by unfold State.laceIssues; decide +kernel⟩,
   ⟨laceS prg w50, 1, lsolve prg w50, prg, (lnx prg w50).1, (lnx prg w50).2.1, (lnx prg w50).2.2, by decide +kernel, by unfold State.laceIssues; decide +kernel, by decide +kernel⟩,
   ⟨laceS prg w51, 1, lsolve prg w51, prg, (lnx prg w51).1, (lnx prg w51).2.1, (lnx prg w51).2.2, by decide +kernel, by unfold State.laceIssues; decide +kernel⟩,
   ⟨laceS prg1 w52, 1, lsolve prg1 w52, prg1, (lnx prg1 w52).1, (lnx prg1 w52).2.1, (lnx prg1 w52).2.2, by decide +kernel, by unfold State.laceIssues; decide +kernel⟩,
   ⟨(laceS prg w48).setSolve 1 { lsolve prg w48 with lace := { (lsolve prg w48).lace with pc := 2 } }, 1, { lsolve prg w48 with lace := { (lsolve prg w48).lace with pc := 2 } }, prg, .laceDiv 1, by decide +kernel⟩,
   ⟨laceS prg wbad, 1, lsolve prg wbad, prg, (lnx prg wbad).1, (lnx prg wbad).2.1, (lnx prg wbad).2.2, .laceLd 1, by decide +kernel⟩,
   ⟨rdy, 1, .laceEnd 1, by decide +kernel⟩⟩

/-- Each clause of `Obligations.SolverSlots` has a state and operands that meet its hypotheses. -/
theorem witness_SolverSlots :
    (∃ (s : State) (k : _) (i : _), k < 2 ∧ i < 32 ∧ s.whole ∧ i < (s.engine k).slots.length ∧ s.reaches .host (SOL_SLOTCTRL.at k i) ∧ s.slotOn k i = true ∧ s.engineDropped k = false ∧ (s.pslot k i).pendCommit = 0 ∧ s.mayCommit k i = true) ∧
    (∃ (s : State) (k : _) (i : _), k < 2 ∧ i < 32 ∧ s.whole ∧ i < (s.engine k).slots.length ∧ s.reaches .host (SOL_SLOTCTRL.at k i) ∧ s.slotOn k i = true ∧ s.engineDropped k = false ∧ s.mayCommit k i = false) ∧
    (∃ (s : State) (k : _) (i : _), k < 2 ∧ i < 32 ∧ s.reaches .host (SOL_SLOTCTRL.at k i) ∧ (s.slotOn k i = false ∨ s.engineDropped k = true)) ∧
    (∃ (s : State) (k : _) (i : _), k < 2 ∧ i < 32 ∧ s.whole ∧ i < (s.engine k).slots.length ∧ s.reaches .host (SOL_SLOTCTRL.at k i) ∧ s.slotOn k i = true ∧ s.engineClaimed k = false ∧ s.slotIdle k i = true ∧ s.engineDropped k = false) ∧
    (∃ (s : State) (k : _) (i : _), k < 2 ∧ i < 32 ∧ s.reaches .host (SOL_SLOTCTRL.at k i) ∧ (s.slotOn k i = false ∨ s.engineClaimed k = true ∨ s.slotIdle k i = false ∨ s.engineDropped k = true)) ∧
    (∃ (s : State) (k : _) (i : _), k < 2 ∧ i < 32 ∧ s.reaches .host (SOL_SLOTCTRL.at k i) ∧ s.slotIdle k i = true) ∧
    (∃ (s : State) (k : _) (i : _), k < 2 ∧ i < 32 ∧ i < (s.engine k).slots.length ∧ s.reaches .host (SOL_SLOTCTRL.at k i) ∧ s.slotIdle k i = false) ∧
    (∃ (s : State) (k : _) (c : _), k < 2 ∧ c < 16 ∧ s.reaches .host (SOL_INFLUSH.at k) ∧ s.inOn k c = true) ∧
    (∃ (s : State) (k : _) (c : _), k < 2 ∧ c < 16 ∧ s.reaches .host (SOL_INFLUSH.at k) ∧ s.inOn k c = false) ∧
    (∃ (s : State) (k : _) (c : _), k < 2 ∧ c < 16 ∧ s.reaches .host (SOL_INCFG.at k c)) ∧
    (∃ (s : State) (n : _) (i : _) (k : _) (c : _) (mseq : _) (cls : _) (addr : _) (len : _) (rsv : _), n < 32 ∧ i < 32 ∧ k < 2 ∧ s.whole ∧ (s.slot n i).op = some (.send (32 + k) c mseq cls addr len 0 rsv) ∧ (s.slot n i).answer = none ∧ s.sendBehind n (32 + k) cls (s.slot n i).sent = false ∧ s.wayClear ∧ s.engineDropped k = false ∧ s.inOn k c = true ∧ s.inSrc k c = n ∧ (s.inChan k c).arr = [] ∧ (s.inChan k c).expect = mseq ∧ i < (s.core n).slots.length ∧ c < (s.engine k).chans.length ∧ s.headerBad k (s.opBytes n (s.slot n i).ord addr len) = false ∧ s.mayCommit k ((s.opBytes n (s.slot n i).ord addr len).getD 0 0) = true ∧ (s.opBytes n (s.slot n i).ord addr len).getD 1 0 = 1 ∧ ((s.opBytes n (s.slot n i).ord addr len).getD 0 0) < (s.engine k).slots.length) ∧
    (∃ (s : State) (n : _) (i : _) (k : _) (c : _) (mseq : _) (cls : _) (addr : _) (len : _) (rsv : _), n < 32 ∧ i < 32 ∧ k < 2 ∧ s.whole ∧ (s.slot n i).op = some (.send (32 + k) c mseq cls addr len 0 rsv) ∧ (s.slot n i).answer = none ∧ s.sendBehind n (32 + k) cls (s.slot n i).sent = false ∧ s.wayClear ∧ s.engineDropped k = false ∧ s.inOn k c = false ∧ i < (s.core n).slots.length) :=
  ⟨⟨slotted, 1, 31, by decide +kernel⟩,
   ⟨((slotted.modPslot 1 31 (fun p => { p with latch := [⟨none, 0, 1, 7, 9⟩], commits := 1 })).setFld SOL_SLOTSTAT_CPAGE 1 1 31), 1, 31, by decide +kernel⟩,
   ⟨rdy, 1, 31, by decide +kernel⟩,
   ⟨slotted, 1, 31, by decide +kernel⟩,
   ⟨kick31 1, 1, 31, by decide +kernel⟩,
   ⟨slotted, 1, 31, by decide +kernel⟩,
   ⟨kick31 1, 1, 31, by decide +kernel⟩,
   ⟨inch 31, 1, 15, by decide +kernel⟩,
   ⟨rdy, 1, 15, by decide +kernel⟩,
   ⟨rdy, 0, 0, by decide +kernel⟩,
   ⟨inMsg (inch 31), 31, 31, 1, 15, 4, 0, 64, 16, [false], by simp only [inBody]; decide +kernel⟩,
   ⟨inMsg rdy, 31, 31, 1, 15, 4, 0, 64, 16, [false], by decide +kernel⟩⟩

/-- Each clause of `Obligations.SolverRuns` has a state and operands that meet its hypotheses. -/
theorem witness_SolverRuns :
    (∃ (s : State) (k : _) (i : _) (l : _), k < 2 ∧ s.whole ∧ i < (s.engine k).slots.length ∧ (s.engine k).run = none ∧ s.engineDropped k = false ∧ s.boot.halted = false ∧ s.nextFor (32 + k) = none ∧ (List.range 32).find? (fun j => !(s.pslot k j).latch.isEmpty) = some i ∧ (s.pslot k i).latch = [l] ∧ l.inst = none ∧ (s.pslot k i).pendReset = false ∧ s.flag SOL_SLOTCTRL_COMMIT k i = false) ∧
    (∃ (s : State) (k : _), k < 2 ∧ ((s.engine k).run ≠ none ∨ s.engineDropped k = true ∨ s.boot.halted = true)) ∧
    (∃ (s : State) (k : _) (v : _), k < 2 ∧ s.whole ∧ (s.engine k).run = some v ∧ v.slot < 32 ∧ v.slot < (s.engine k).slots.length ∧ v.skip = true ∧ v.stale = true ∧ v.latch.inst = none ∧ (s.pslot k v.slot).latch = [] ∧ (s.pslot k v.slot).pendReset = false ∧ s.flag SOL_SLOTCTRL_COMMIT k v.slot = false) ∧
    (∃ (s : State) (k : _) (v : _) (p : _), k < 2 ∧ s.whole ∧ (s.engine k).run = some v ∧ v.slot < 32 ∧ v.slot < (s.engine k).slots.length ∧ v.skip = false ∧ v.stale = false ∧ v.prog = some p ∧ v.lace.faulted = true ∧ v.latch.inst = none ∧ (s.pslot k v.slot).latch = [] ∧ (s.pslot k v.slot).pendReset = false ∧ s.flag SOL_SLOTCTRL_COMMIT k v.slot = false) ∧
    (∃ (s : State) (k : _) (v : _) (p : _), k < 2 ∧ (s.engine k).run = some v ∧ v.skip = false ∧ v.prog = some p ∧ v.lace.faulted = false ∧ v.lace.ended = none) ∧
    (∃ (s : State) (k : _) (v : _), k < 2 ∧ s.whole ∧ (s.engine k).run = some v ∧ v.slot < 32 ∧ v.slot < (s.engine k).slots.length ∧ v.skip = false ∧ v.stale = false ∧ v.prog = none ∧ v.latch.inst = none ∧ (s.pslot k v.slot).latch = [] ∧ (s.pslot k v.slot).pendReset = false ∧ s.flag SOL_SLOTCTRL_COMMIT k v.slot = false) ∧
    (∃ (s : State) (k : _) (v : _), k < 2 ∧ s.whole ∧ (s.engine k).run = some v ∧ v.slot < 32 ∧ v.slot < (s.engine k).slots.length ∧ v.latch.inst = none ∧ (s.pslot k v.slot).latch = [] ∧ (s.pslot k v.slot).pendReset = false ∧ s.flag SOL_SLOTCTRL_COMMIT k v.slot = false ∧ s.reaches .host (SOL_CTRL.at k)) ∧
    (∃ (s : State) (k : _), k < 2 ∧ (s.engine k).run = none) ∧
    (∃ (s : State) (k : _), k < 2 ∧ s.reaches .host (SOL_CTRL.at k) ∧ (s.engine k).run = none) ∧
    (∃ (s : State) (k : _) (i : _) (b : _) (d : _) (ch : _) (cls : _), k < 2 ∧ i < 32 ∧ s.whole ∧ (s.pslot k i).send = some b ∧ (s.pslot k i).sendTo = (d, ch, cls) ∧ s.coreDropped d = false ∧ s.sendBehind (32 + k) d cls s.mesh.num = false ∧ msgPackets b.length ≤ s.credit (32 + k) d ch) ∧
    (∃ (s : State) (k : _) (i : _) (b : _) (d : _) (ch : _) (cls : _), k < 2 ∧ i < 32 ∧ (s.pslot k i).send = some b ∧ (s.pslot k i).sendTo = (d, ch, cls) ∧ s.coreDropped d = false ∧ (s.credit (32 + k) d ch < msgPackets b.length ∨ s.sendBehind (32 + k) d cls s.mesh.num = true)) ∧
    (∃ (s : State) (k : _) (i : _) (b : _) (d : _) (ch : _) (cls : _), k < 2 ∧ i < 32 ∧ (s.pslot k i).send = some b ∧ (s.pslot k i).sendTo = (d, ch, cls) ∧ s.coreDropped d = true) ∧
    (∃ (s : State) (k : _) (i : _), k < 2 ∧ i < 32 ∧ (s.pslot k i).send = none ∧ (s.pslot k i).post = none ∧ (s.pslot k i).addDue = none) :=
  ⟨⟨kick31 1, 1, 31, ⟨none, 0, 1, 7, 9⟩, by decide +kernel⟩,
   ⟨rdy.modBoot (fun b => { b with halted := true }), 1, by decide +kernel⟩,
   ⟨running (sv true true none false) slotted, 1, sv true true none false, by decide +kernel⟩,
   ⟨running (sv false false (some prg) true) slotted, 1, sv false false (some prg) true, prg, by decide +kernel⟩,
   ⟨running (sv false false (some prg) false) slotted, 1, sv false false (some prg) false, prg, by decide +kernel⟩,
   ⟨running (sv false false none false) slotted, 1, sv false false none false, by decide +kernel⟩,
   ⟨running (sv false false (some prg) false) slotted, 1, sv false false (some prg) false, by decide +kernel⟩,
   ⟨rdy, 1, by decide +kernel⟩,
   ⟨rdy, 1, by decide +kernel⟩,
   ⟨resultB 1, 1, 31, List.replicate 64 1, 0, 0, 1, by decide +kernel⟩,
   ⟨resultB 0, 1, 31, List.replicate 64 1, 0, 0, 1, by decide +kernel⟩,
   ⟨(resultB 1).setDrop 0 0 true, 1, 31, List.replicate 64 1, 0, 0, 1, by decide +kernel⟩,
   ⟨rdy, 1, 31, by decide +kernel⟩⟩

/-- Each clause of `Obligations.RingOperations` has a state and operands that meet its hypotheses. -/
theorem witness_RingOperations :
    (∃ (s : State) (k : _) (v : _), k < 4 ∧ v < 65536 ∧ s.reaches .host (CMD_PROD.at k) ∧ s.flag CMD_CTRL_EN k = true ∧ dist16 v (s.fld CMD_CONS_CONS k) ≤ s.ringSize k ∧ dist16 (s.fld CMD_PROD_PROD k) (s.fld CMD_CONS_CONS k) ≤ dist16 v (s.fld CMD_CONS_CONS k)) ∧
    (∃ (s : State) (k : _) (v : _), k < 4 ∧ v < 65536 ∧ s.reaches .host (CMD_PROD.at k) ∧ s.flag CMD_CTRL_EN k = true ∧ s.ringSize k < dist16 v (s.fld CMD_CONS_CONS k) ∧ s.fld CMD_STATE_STATE k ≠ 3) ∧
    (∃ (s : State) (k : _) (v : _), k < 4 ∧ v < 65536 ∧ s.reaches .host (CMD_PROD.at k) ∧ s.flag CMD_CTRL_EN k = true ∧ dist16 v (s.fld CMD_CONS_CONS k) ≤ s.ringSize k ∧ dist16 v (s.fld CMD_CONS_CONS k) < dist16 (s.fld CMD_PROD_PROD k) (s.fld CMD_CONS_CONS k)) ∧
    (∃ (s : State) (k : _), k < 4 ∧ (s.flag CMD_CTRL_EN k = false ∨ s.dmaOk = false ∨ s.fld CMD_STATE_STATE k = 3 ∨ (k ≠ 0 ∧ s.ring0First = true))) ∧
    (∃ (s : State) (k : _), k < 4 ∧ s.flag CMD_CTRL_EN k = true ∧ s.dmaOk = true ∧ (k = 0 ∨ s.ring0First = false) ∧ s.fld CMD_STATE_STATE k = 1 ∧ s.fld CMD_PROD_PROD k ≠ s.fld CMD_CONS_CONS k) ∧
    (∃ (s : State) (k : _) (w0 : _) (w1 : _), k < 4 ∧ s.whole ∧ s.flag CMD_CTRL_EN k = true ∧ s.dmaOk = true ∧ (k = 0 ∨ s.ring0First = false) ∧ s.fld CMD_STATE_STATE k = 1 ∧ s.hostLE (s.ringEntry k (s.fld CMD_CONS_CONS k)) 4 = w0 ∧ s.hostLE (s.ringEntry k (s.fld CMD_CONS_CONS k) + 4) 4 = w1 ∧ ringHeaderBad k w0 = false ∧ (headerLen w0 + 15) / 16 ≤ dist16 (s.fld CMD_PROD_PROD k) (s.fld CMD_CONS_CONS k) ∧ ((s.ring k).checkSeq = true → nbits w1 16 16 = (s.fld CMD_STATE_LASTSEQ k + 1) % 65536) ∧ (s.ring k).taken = [] ∧ nbits w0 0 12 ∈ opcodes) ∧
    (∃ (s : State) (k : _), k < 4 ∧ s.flag CMD_CTRL_EN k = true ∧ s.dmaOk = true ∧ (k = 0 ∨ s.ring0First = false) ∧ s.fld CMD_STATE_STATE k = 1 ∧ 0 < dist16 (s.fld CMD_PROD_PROD k) (s.fld CMD_CONS_CONS k) ∧ dist16 (s.fld CMD_PROD_PROD k) (s.fld CMD_CONS_CONS k) < (headerLen (s.hostLE (s.ringEntry k (s.fld CMD_CONS_CONS k)) 4) + 15) / 16) ∧
    (∃ (s : State) (k : _), k < 4 ∧ s.flag CMD_CTRL_EN k = true ∧ s.dmaOk = true ∧ (k = 0 ∨ s.ring0First = false) ∧ s.fld CMD_STATE_STATE k = 2 ∧ s.flag CMD_FLUSHSEQ_DRAIN k = true ∧ 0 < s.fld CMD_FLUSHSEQ_REMAIN k ∧ (s.fld CMD_FLUSHSEQ_REMAIN k + 15) / 16 ≤ dist16 (s.fld CMD_PROD_PROD k) (s.fld CMD_CONS_CONS k)) ∧
    (∃ (s : State) (k : _) (v : _), k < 4 ∧ v < 65536 ∧ s.reaches .host (CMD_CCONS.at k) ∧ (s.ring k).taken = []) ∧
    (∃ (s : State) (v : _), v < 65536 ∧ s.reaches .host CMD_SCONS.base ∧ s.sring.held = []) ∧
    (∃ (s : State) (k : _), k < 4 ∧ s.whole ∧ s.flag CMD_CTRL_EN k = false ∧ s.reaches .host (CMD_CTRL.at k)) ∧
    (∃ (s : State) (k : _), k < 4 ∧ s.flag CMD_CTRL_EN k = true ∧ s.reaches .host (CMD_CTRL.at k)) ∧
    (∃ (s : State) (k : _), k < 4 ∧ s.whole ∧ s.flag CMD_CTRL_EN k = true ∧ (∀ j, (s.ring j).run = none) ∧ s.reaches .host (CMD_CTRL.at k)) ∧
    (∃ (s : State) (k : _) (it : _), k < 4 ∧ s.whole ∧ s.flag CMD_CTRL_EN k = true ∧ (s.ring k).run = some ⟨it, .running⟩ ∧ (∀ j, j ≠ k → (s.ring j).run = none) ∧ s.reaches .host (CMD_CTRL.at k)) ∧
    (∃ (s : State) (k : _), k < 4 ∧ s.flag CMD_CTRL_EN k = false ∧ s.reaches .host (CMD_CTRL.at k)) ∧
    (∃ (s : State), s.reaches .host CMD_SCFG.base ∧ s.flag CMD_SCFG_EN = false ∧ s.sring.held = []) ∧
    (∃ (s : State), s.reaches .host CMD_SCFG.base ∧ s.flag CMD_SCFG_EN = true) ∧
    (∃ (s : State) (k : _), k < 4 ∧ s.whole ∧ s.flag CMD_CTRL_EN k = true ∧ (∀ j, (s.ring j).run = none) ∧ (s.ring k).taken = [] ∧ s.fld CMD_STATE_STATE k ≠ 2 ∧ s.flag CMD_FLUSHSEQ_DRAIN k = false ∧ s.fld CMD_PROD_PROD k = s.fld CMD_CONS_CONS k ∧ s.reaches .host (CMD_CTRL.at k)) ∧
    (∃ (s : State) (k : _) (c : _), k < 4 ∧ s.whole ∧ s.flag CMD_CTRL_EN k = true ∧ (s.ring k).run = some c ∧ s.reaches .host (CMD_CTRL.at k)) :=
  ⟨⟨ringEn 1, 3, 16, by decide +kernel⟩,
   ⟨ringEn 1, 3, 17, by decide +kernel⟩,
   ⟨(ringEn 1).setFld CMD_PROD_PROD 2 3, 3, 1, by decide +kernel⟩,
   ⟨rdy, 3, by decide +kernel⟩,
   ⟨posted 1 [], 3, by decide +kernel⟩,
   ⟨posted 1 (toBytes 4 0x3002000 ++ toBytes 4 0), 3, 0x3002000, 0, by decide +kernel⟩,
   ⟨posted 1 (toBytes 4 0x11001), 3, by decide +kernel⟩,
   ⟨(((ringEn 2).setFld CMD_FLUSHSEQ_DRAIN 1 3).setFld CMD_FLUSHSEQ_REMAIN 10 3).setFld CMD_PROD_PROD 1 3, 3, by decide +kernel⟩,
   ⟨rdy, 3, 65535, by decide +kernel⟩,
   ⟨rdy, 65535, by decide +kernel⟩,
   ⟨rdy, 3, by decide +kernel⟩,
   ⟨ringEn 1, 3, by decide +kernel⟩,
   ⟨ringEn 1, 3, by decide +kernel, by decide +kernel, by decide +kernel, ringsIdle _ (by decide +kernel), by decide +kernel⟩,
   ⟨((rdy.setFld CMD_CTRL_EN 1 0).setRing 0 { run := some ⟨cmdItem 0 2 [], .running⟩ }), 0, cmdItem 0 2 [], by decide +kernel, by decide +kernel, by decide +kernel, by decide +kernel, ringsIdle1 _ (by decide +kernel), by decide +kernel⟩,
   ⟨rdy, 3, by decide +kernel⟩,
   ⟨rdy, by decide +kernel⟩,
   ⟨rdy.setFld CMD_SCFG_EN 1, by decide +kernel⟩,
   ⟨ringEn 1, 3, by decide +kernel, by decide +kernel, by decide +kernel, ringsIdle _ (by decide +kernel), by decide +kernel⟩,
   ⟨waiting3, 3, ⟨cmdItem 0 2 [], .running⟩, by decide +kernel⟩⟩

/-- Each clause of `Obligations.LinkOperations` has a state and operands that meet its hypotheses. -/
theorem witness_LinkOperations :
    (∃ (s : State) (v : _), v < 64 ∧ s.msixPending v = true ∧ s.hif.funcMask = false ∧ s.hif.bme = true ∧ s.hif.d3hot = false) ∧
    (∃ (s : State) (v : _), v < 64 ∧ s.msixPending v = false) ∧
    (∃ (s : State), s.whole) ∧
    (∃ (sp : _) (w : _), sp < 16 ∧ w < 32) ∧
    (∃ (s : State), s.hif.ids ≠ none ∧ (∀ k, (s.ring k).flush = false) ∧ (∀ v < 64, s.msixPending v = false) ∧ (∀ k, (s.ring k).heldCpl = []) ∧ s.sring.held = []) ∧
    (∃ (s : State), s.hif.ids = none) ∧
    (∃ (s : State), s.whole ∧ s.hif.ids ≠ none ∧ (∀ k, (s.ring k).flush = false) ∧ s.sring.held = []) ∧
    (∃ (s : State), s.sec.nonce ≠ none ∧ 2500000000 ≤ s.rnd.clk - s.sec.nonceAt) ∧
    (∃ (s : State), s.rnd.clk - s.sec.nonceAt < 2500000000) ∧
    (∃ (s : State), s.flag SEC_STATUS_CLRBLK = true ∧ 15000000000 ≤ s.rnd.clk - s.sec.blockAt) ∧
    (∃ (s : State), s.rnd.clk - s.sec.blockAt < 15000000000) ∧
    (∃ (s : State), s.flag SEC_STATUS_RNGFAIL = false) ∧
    (∃ (s : State), s.flag SEC_STATUS_RNGFAIL = true) ∧
    (∃ (s : State), s.flag SEC_STATUS_RNGFAIL = true) ∧
    (∃ (s : State), s.flag SEC_STATUS_RNGFAIL = false) :=
  ⟨⟨bmeOn.setReg 0x9004 0x80000000, 63, by decide +kernel⟩,
   ⟨rdy, 63, by decide +kernel⟩,
   ⟨rdy, by decide +kernel⟩,
   ⟨0, 0, by decide +kernel⟩,
   ⟨bmeOn, by decide +kernel, ringsFlush _ (by decide +kernel), by decide +kernel, ringsHeld _ (by decide +kernel), by decide +kernel⟩,
   ⟨{ rdy with hif := { rdy.hif with ids := none } }, by decide +kernel⟩,
   ⟨rdy, by decide +kernel, by decide +kernel, ringsFlush _ (by decide +kernel), by decide +kernel⟩,
   ⟨{ clk 2500000000 rdy with sec := { rdy.sec with nonce := some 5 } }, by decide +kernel⟩,
   ⟨rdy, by decide +kernel⟩,
   ⟨clk 15000000000 (secRaw (BitVec.ofNat 32 (2 ^ SEC_STATUS_CLRBLK.lo)) rdy), by decide +kernel⟩,
   ⟨rdy, by decide +kernel⟩,
   ⟨secRaw 0 rdy, by decide +kernel⟩,
   ⟨secRaw (BitVec.ofNat 32 (2 ^ SEC_STATUS_RNGFAIL.lo)) rdy, by decide +kernel⟩,
   ⟨secRaw (BitVec.ofNat 32 (2 ^ SEC_STATUS_RNGFAIL.lo)) rdy, by decide +kernel⟩,
   ⟨secRaw 0 rdy, by decide +kernel⟩⟩

/-- Each clause of `Obligations.CommandChecks` has a state and operands that meet its hypotheses. -/
theorem witness_CommandChecks :
    ((∃ (s : State) (it : Item), s.offers 3 it ∧ it.opc = 0 ∧ (it.len < 2 ∨ 2 < it.len)) ∧ (∃ (s : State) (it : Item), s.offers 3 it ∧ it.opc ∈ opcodes ∧ it.opc ≠ 0) ∧
    ∃ (s : State) (it : Item), s.offers 3 it ∧ it.opc ∉ opcodes) ∧
    (∃ (s : State) (k : _) (it : _), s.offers k it ∧ it.is 0x002 3 [0x1000002]) ∧
    (∃ (s : State) (k : _) (it : _), k < 4 ∧ s.whole ∧ (s.ring k).taken = [it] ∧ (∀ j, (s.ring j).run = none) ∧ (s.ring k).flush = false ∧ (s.ring k).mute = false ∧ s.boStage = 0 ∧ s.cplRoom k = true ∧ s.dmaOk = true ∧ s.flag CMD_CTRL_EN k = true ∧ it.is 0x000 2 [] ∧ it.link = true ∧ (s.ring k).lastSt ≠ 0) ∧
    (∃ (s : State) (k : _) (it : _), k < 4 ∧ s.whole ∧ (s.ring k).taken = [it] ∧ (∀ j, (s.ring j).run = none) ∧ (s.ring k).flush = false ∧ (s.ring k).mute = false ∧ s.boStage = 0 ∧ s.cplRoom k = true ∧ s.dmaOk = true ∧ s.flag CMD_CTRL_EN k = true ∧ it.is 0x000 2 [] ∧ it.link = false ∧ it.silent = true) ∧
    (∃ (s : State) (k : _) (it : _), k < 4 ∧ (s.ring k).taken = [it] ∧ s.boStage ≠ 0) ∧
    (∃ (s : State) (k : _) (it : _), k < 4 ∧ (s.ring k).taken = [it] ∧ (s.ring k).run = none ∧ s.cplRoom k = false) ∧
    (∃ (s : State) (k : _) (it : _) (x : _), k < 4 ∧ (s.ring k).taken = [it] ∧ s.hubTurn k = false ∧ x ∈ [(Instr.copy k none, 0x004), (Instr.info k, 0x007), (Instr.nsset k, 0x100), (Instr.patAdmit k, 0x200), (Instr.coreLoad k, 0x300), (Instr.laceLoad k, 0x400), (Instr.headAdmit k, 0x500), (Instr.jrnRead k, 0x801), (Instr.jrnFlush k, 0x802), (Instr.keyLoad k, 0x900), (Instr.secLock k, 0x903), (Instr.dbgHalt k, 0xF00), (Instr.dbgStep k, 0xF02)] ∧ it.opc = x.2) :=
  ⟨⟨⟨off (cmdItem 0 3 [1]), cmdItem 0 3 [1], offers_of (by decide +kernel), by decide +kernel⟩, ⟨off (cmdItem 1 4 []), cmdItem 1 4 [], offers_of (by decide +kernel), by decide +kernel⟩, off (cmdItem 8 2 []), cmdItem 8 2 [], offers_of (by decide +kernel), by decide +kernel⟩,
   ⟨off (cmdItem 2 3 [0x1000002]), 3, cmdItem 2 3 [0x1000002], offers_of (by decide +kernel), by unfold Item.is; decide +kernel⟩,
   ⟨ended1 (off { cmdItem 0 2 [] with link := true }), 3, { cmdItem 0 2 [] with link := true }, by decide +kernel, by decide +kernel, by decide +kernel, ringsIdle _ (by decide +kernel), by decide +kernel, by decide +kernel, by decide +kernel, by decide +kernel, by decide +kernel, by decide +kernel, by unfold Item.is; decide +kernel, by decide +kernel⟩,
   ⟨off { cmdItem 0 2 [] with silent := true }, 3, { cmdItem 0 2 [] with silent := true }, by decide +kernel, by decide +kernel, by decide +kernel, ringsIdle _ (by decide +kernel), by decide +kernel, by decide +kernel, by decide +kernel, by decide +kernel, by decide +kernel, by decide +kernel, by unfold Item.is; decide +kernel, by decide +kernel⟩,
   ⟨(off (cmdItem 0 2 [])).setBoStage 1, 3, cmdItem 0 2 [], by decide +kernel⟩,
   ⟨(off (cmdItem 0 2 [])).setFld CMD_CPROD_CPROD 16 3, 3, cmdItem 0 2 [], by decide +kernel⟩,
   ⟨((off (cmdItem 7 2 [])).setRing 0 { taken := [cmdItem 7 2 []] }).setRing 1 { taken := [cmdItem 7 2 []] }, 1, cmdItem 7 2 [], (Instr.info 1, 7), by decide +kernel⟩⟩

/-- Each clause of `Obligations.RegisterCommands` has a state and operands that meet its hypotheses. -/
theorem witness_RegisterCommands :
    (∃ (s : State) (k : _) (it : _), s.offers k it ∧ it.is 0x000 2 []) ∧
    (∃ (s : State) (k : _) (it : _) (v : _), s.offers k it ∧ it.is 0x001 4 [HIF_SCRATCH.base, v] ∧ v < 2 ^ 32) ∧
    (∃ (s : State) (k : _) (it : _) (v : _), s.offers k it ∧ it.is 0x001 4 [2, v]) ∧
    (∃ (s : State) (k : _) (it : _), s.offers k it ∧ it.is 0x002 3 [HIF_ID.base]) ∧
    (∃ (s : State) (k : _) (it : _) (v : _) (m : _) (us : _), s.offers k it ∧ 1 ≤ us ∧ us ≤ 1000000 ∧ it.is 0x003 6 [HIF_ID.base, m, v, us] ∧ s.regN HIF_ID &&& m = v) ∧
    (∃ (s : State) (k : _) (it : _) (v : _) (m : _) (us : _), s.offers k it ∧ 1 ≤ us ∧ us ≤ 1000000 ∧ it.is 0x003 6 [HIF_ID.base, m, v, us] ∧ s.regN HIF_ID &&& m ≠ v) ∧
    (∃ (s : State) (k : _) (it : _) (m : _) (v : _) (till : _), k < 4 ∧ s.whole ∧ (s.ring k).run = some ⟨it, .regpoll HIF_ID.base m v till⟩ ∧ (s.ring k).taken = [] ∧ (s.ring k).flush = false ∧ s.regN HIF_ID &&& m ≠ v ∧ till ≤ s.rnd.clk) ∧
    (∃ (s : State) (k : _) (it : _) (h : _) (a : _) (n : _), s.offers k it ∧ h < 2 ^ 32 ∧ a + n ≤ 0x100000 ∧ 1 ≤ n ∧ it.is 0x004 8 [h, 0, a, 0, n, 0] ∧ s.dieUnreachable 0 = false ∧ s.coreDropped 0 = false) ∧
    (∃ (s : State) (k : _) (it : _) (h : _) (a : _) (n : _), s.offers k it ∧ h < 2 ^ 32 ∧ a + n ≤ 0x100000 ∧ 1 ≤ n ∧ it.is 0x004 8 [h, 0, a, 0, n, 0] ∧ s.dieUnreachable 0 = false ∧ s.coreDropped 0 = false) ∧
    (∃ (s : State) (k : _) (it : _) (h : _) (a : _) (n : _), s.offers k it ∧ h < 2 ^ 32 ∧ a + n ≤ 0x100000 ∧ 1 ≤ n ∧ it.is 0x004 8 [h, 0, a, 0, n, 1] ∧ s.dieUnreachable 0 = false ∧ s.msixMasked 0 = true) ∧
    (∃ (s : State) (k : _) (it : _), s.offers k it ∧ it.is 0x005 3 [2 ^ k]) ∧
    (∃ (s : State) (k : _) (it : _) (j : _), s.offers k it ∧ j < 4 ∧ j ≠ k ∧ it.is 0x005 3 [2 ^ j] ∧ s.flag CMD_CTRL_EN j = true ∧ (s.ring j).taken = [] ∧ s.fld CMD_STATE_STATE j ≠ 2 ∧ s.flag CMD_FLUSHSEQ_DRAIN j = false ∧ s.fld CMD_PROD_PROD j = s.fld CMD_CONS_CONS j) ∧
    (∃ (s : State) (k : _) (it : _), s.offers k it ∧ it.is 0x006 2 []) ∧
    (∃ (s : State) (k : _) (it : _), s.offers k it ∧ it.is 0x007 2 []) ∧
    (∃ (s : State) (k : _) (it : _) (v : _), s.offers k it ∧ v < 2 ^ 32 ∧ it.is 0x100 4 [v, 0] ∧ s.flag RND_STATUS_PPS_LOCK = false) ∧
    (∃ (s : State) (k : _) (it : _) (v : _), s.offers k it ∧ v < 2 ^ 32 ∧ it.is 0x100 4 [v, 0] ∧ s.flag RND_STATUS_PPS_LOCK = true) :=
  ⟨⟨off (cmdItem 0 2 []), 3, cmdItem 0 2 [], offers_of (by decide +kernel), by unfold Item.is; decide +kernel⟩,
   ⟨off (cmdItem 1 4 [HIF_SCRATCH.base, 0xFFFFFFFF]), 3, cmdItem 1 4 [HIF_SCRATCH.base, 0xFFFFFFFF], 0xFFFFFFFF, offers_of (by decide +kernel), by unfold Item.is; decide +kernel, by decide +kernel⟩,
   ⟨off (cmdItem 1 4 [2, 7]), 3, cmdItem 1 4 [2, 7], 7, offers_of (by decide +kernel), by unfold Item.is; decide +kernel⟩,
   ⟨off (cmdItem 2 3 [HIF_ID.base]), 3, cmdItem 2 3 [HIF_ID.base], offers_of (by decide +kernel), by unfold Item.is; decide +kernel⟩,
   ⟨offB (withRaw HIF_ID.base 0x960 rdy) (cmdItem 3 6 [HIF_ID.base, 0xFF, 0x60, 1]), 3, cmdItem 3 6 [HIF_ID.base, 0xFF, 0x60, 1], 0x60, 0xFF, 1, offers_of (by decide +kernel), by decide +kernel, by decide +kernel, by unfold Item.is; decide +kernel, by decide +kernel⟩,
   ⟨offB (withRaw HIF_ID.base 0x960 rdy) (cmdItem 3 6 [HIF_ID.base, 0xFF, 0x61, 1000000]), 3, cmdItem 3 6 [HIF_ID.base, 0xFF, 0x61, 1000000], 0x61, 0xFF, 1000000, offers_of (by decide +kernel), by decide +kernel, by decide +kernel, by unfold Item.is; decide +kernel, by decide +kernel⟩,
   ⟨(withRaw HIF_ID.base 0x960 (ringEn 1)).setRing 3 { run := some ⟨cmdItem 3 6 [], .regpoll HIF_ID.base 0xFF 0x61 0⟩ }, 3, cmdItem 3 6 [], 0xFF, 0x61, 0, by decide +kernel⟩,
   ⟨off (cmdItem 4 8 [64, 0, 0xFFFFB, 0, 5, 0]), 3, cmdItem 4 8 [64, 0, 0xFFFFB, 0, 5, 0], 64, 0xFFFFB, 5, offers_of (by decide +kernel), by decide +kernel, by decide +kernel, by decide +kernel, by unfold Item.is; decide +kernel, by decide +kernel⟩,
   ⟨off (cmdItem 4 8 [64, 0, 0xFFFFB, 0, 5, 0]), 3, cmdItem 4 8 [64, 0, 0xFFFFB, 0, 5, 0], 64, 0xFFFFB, 5, offers_of (by decide +kernel), by decide +kernel, by decide +kernel, by decide +kernel, by unfold Item.is; decide +kernel, by decide +kernel⟩,
   ⟨off (cmdItem 4 8 [64, 0, 0xFFFFB, 0, 5, 1]), 3, cmdItem 4 8 [64, 0, 0xFFFFB, 0, 5, 1], 64, 0xFFFFB, 5, offers_of (by decide +kernel), by decide +kernel, by decide +kernel, by decide +kernel, by unfold Item.is; decide +kernel, by decide +kernel⟩,
   ⟨off (cmdItem 5 3 [8]), 3, cmdItem 5 3 [8], offers_of (by decide +kernel), by unfold Item.is; decide +kernel⟩,
   ⟨offB ((rdy.setFld CMD_CTRL_EN 1 2).setFld CMD_STATE_STATE 1 2) (cmdItem 5 3 [4]), 3, cmdItem 5 3 [4], 2, offers_of (by decide +kernel), by decide +kernel, by decide +kernel, by unfold Item.is; decide +kernel, by decide +kernel⟩,
   ⟨off (cmdItem 6 2 []), 3, cmdItem 6 2 [], offers_of (by decide +kernel), by unfold Item.is; decide +kernel⟩,
   ⟨off (cmdItem 7 2 []), 3, cmdItem 7 2 [], offers_of (by decide +kernel), by unfold Item.is; decide +kernel⟩,
   ⟨off (cmdItem 0x100 4 [0xFFFFFFFF, 0]), 3, cmdItem 0x100 4 [0xFFFFFFFF, 0], 0xFFFFFFFF, offers_of (by decide +kernel), by decide +kernel, by unfold Item.is; decide +kernel, by decide +kernel⟩,
   ⟨offB (rdy.setFld RND_STATUS_PPS_LOCK 1) (cmdItem 0x100 4 [0xFFFFFFFF, 0]), 3, cmdItem 0x100 4 [0xFFFFFFFF, 0], 0xFFFFFFFF, offers_of (by decide +kernel), by decide +kernel, by unfold Item.is; decide +kernel, by decide +kernel⟩⟩

/-- Each clause of `Obligations.PatternAndCoreCommands` has a state and operands that meet its hypotheses. -/
theorem witness_PatternAndCoreCommands :
    (∃ (s : State) (k : _) (it : _) (a : _) (n : _), s.offers k it ∧ a % 64 = 0 ∧ a < hubSize ∧ n < 2 ^ 17 ∧ it.is 0x200 4 [a, n] ∧ s.admitting = false) ∧
    (∃ (s : State) (k : _) (it : _) (a : _) (n : _), s.offers k it ∧ a % 64 = 0 ∧ a < hubSize ∧ n < 2 ^ 17 ∧ it.is 0x200 4 [a, n] ∧ s.admitting = true) ∧
    (∃ (s : State) (k : _) (it : _) (lo : _) (hi : _), s.offers k it ∧ lo < 2 ^ 32 ∧ hi < 2 ^ 16 ∧ it.is 0x201 4 [lo, hi] ∧ s.pat.admitted.isSome = true ∧ s.pat.act = none) ∧
    (∃ (s : State) (k : _) (it : _) (lo : _) (hi : _), s.offers k it ∧ hi < 2 ^ 16 ∧ it.is 0x201 4 [lo, hi] ∧ s.pat.admitted = none) ∧
    (∃ (s : State) (k : _) (it : _) (x : _), s.offers k it ∧ x < 2 ∧ it.is 0x202 3 [x]) ∧
    (∃ (s : State) (k : _) (it : _), s.offers k it ∧ it.is 0x203 2 []) ∧
    (∃ (s : State) (k : _) (it : _) (m : _) (a : _) (n : _), s.offers k it ∧ a < hubSize ∧ it.is 0x300 4 [m, a] ∧ (coreDies m).any (fun d => s.dieUnreachable d) = false ∧ (bitsOf m 32).find? (fun j => decide (s.kimgRefusal (s.storedImage a 28) (kimgFails (s.storedImage a 28) (hubSize - a)) j ≠ 0)) = some n) ∧
    (∃ (s : State) (k : _) (it : _) (a : _) (n : _), s.offers k it ∧ a < hubSize ∧ n < 32 ∧ it.is 0x300 4 [2 ^ n, a] ∧ s.dieUnreachable (coreDie n) = false ∧ s.kimgRefusal (s.storedImage a 28) (kimgFails (s.storedImage a 28) (hubSize - a)) n = 0) ∧
    (∃ (s : State) (k : _) (it : _) (n : _) (e : _) (x : _), s.offers k it ∧ n < 32 ∧ e % 4 = 0 ∧ e < 2 ^ 16 ∧ it.is 0x301 5 [n, e, x] ∧ s.dieUnreachable (coreDie n) = false ∧ s.cstate n = cIdle ∧ s.namesCore n = false ∧ s.dieCrit (coreDie n) = false ∧ s.flag CORE_CTRL_COMMIT n = false) ∧
    (∃ (s : State) (k : _) (it : _) (n : _) (e : _) (x : _), s.offers k it ∧ n < 32 ∧ e % 4 = 0 ∧ e < 2 ^ 16 ∧ it.is 0x301 5 [256 + n, e, x] ∧ s.dieUnreachable (coreDie n) = false ∧ s.cstate n = cIdle ∧ s.namesCore n = false ∧ s.dieCrit (coreDie n) = false ∧ s.flag CORE_CTRL_COMMIT n = false) ∧
    (∃ (s : State) (k : _) (it : _) (n : _) (e : _) (x : _), s.offers k it ∧ n < 32 ∧ e % 4 = 0 ∧ e < 2 ^ 16 ∧ it.is 0x301 5 [n, e, x] ∧ s.dieUnreachable (coreDie n) = false ∧ (s.cstate n ≠ cIdle ∨ s.namesCore n = true ∨ s.dieCrit (coreDie n) = true)) ∧
    (∃ (s : State) (k : _) (it : _) (n : _), s.offers k it ∧ n < 32 ∧ it.is 0x302 3 [2 ^ n] ∧ s.dieUnreachable (coreDie n) = false ∧ s.busy n = true ∧ s.binding = false) ∧
    (∃ (s : State) (k : _) (it : _) (n : _), s.offers k it ∧ n < 32 ∧ it.is 0x302 3 [2 ^ n] ∧ s.dieUnreachable (coreDie n) = false ∧ s.busy n = false) ∧
    (∃ (s : State) (k : _) (it : _) (n : _) (c : _), s.offers k it ∧ n < 32 ∧ c < 16 ∧ it.is 0x303 4 [n, 2 ^ c] ∧ s.dieUnreachable (coreDie n) = false ∧ c < (s.core n).chans.length ∧ s.chanOn n c = true) :=
  ⟨⟨off (cmdItem 0x200 4 [128, 0x1FFFF]), 3, cmdItem 0x200 4 [128, 0x1FFFF], 128, 0x1FFFF, offers_of (by decide +kernel), by decide +kernel, by decide +kernel, by decide +kernel, by unfold Item.is; decide +kernel, by decide +kernel⟩,
   ⟨offB (adm img) (cmdItem 0x200 4 [128, 64]), 3, cmdItem 0x200 4 [128, 64], 128, 64, offers_of (by decide +kernel), by decide +kernel, by decide +kernel, by decide +kernel, by unfold Item.is; decide +kernel, by decide +kernel⟩,
   ⟨offB ((acting 0).modPat (fun p => { p with act := none })) (cmdItem 0x201 4 [0xFFFFFFFF, 0xFFFF]), 3, cmdItem 0x201 4 [0xFFFFFFFF, 0xFFFF], 0xFFFFFFFF, 0xFFFF, offers_of (by decide +kernel), by decide +kernel, by decide +kernel, by unfold Item.is; decide +kernel, by decide +kernel⟩,
   ⟨off (cmdItem 0x201 4 [0xFFFFFFFF, 0xFFFF]), 3, cmdItem 0x201 4 [0xFFFFFFFF, 0xFFFF], 0xFFFFFFFF, 0xFFFF, offers_of (by decide +kernel), by decide +kernel, by unfold Item.is; decide +kernel, by decide +kernel⟩,
   ⟨off (cmdItem 0x202 3 [1]), 3, cmdItem 0x202 3 [1], 1, offers_of (by decide +kernel), by decide +kernel, by unfold Item.is; decide +kernel⟩,
   ⟨off (cmdItem 0x203 2 []), 3, cmdItem 0x203 2 [], offers_of (by decide +kernel), by unfold Item.is; decide +kernel⟩,
   ⟨off (cmdItem 0x300 4 [2 ^ 31, 0]), 3, cmdItem 0x300 4 [2 ^ 31, 0], 2 ^ 31, 0, 31, offers_of (by decide +kernel), by decide +kernel, by unfold Item.is; decide +kernel, by decide +kernel⟩,
   ⟨offB (rdy.putHub 1024 kim) (cmdItem 0x300 4 [2 ^ 31, 1024]), 3, cmdItem 0x300 4 [2 ^ 31, 1024], 1024, 31, offers_of (by decide +kernel), by decide +kernel, by decide +kernel, by unfold Item.is; decide +kernel, by decide +kernel⟩,
   ⟨off (cmdItem 0x301 5 [31, 0xFFFC, 9]), 3, cmdItem 0x301 5 [31, 0xFFFC, 9], 31, 0xFFFC, 9, offers_of (by decide +kernel), by decide +kernel, by decide +kernel, by decide +kernel, by unfold Item.is; decide +kernel, by decide +kernel⟩,
   ⟨off (cmdItem 0x301 5 [256 + 31, 0xFFFC, 9]), 3, cmdItem 0x301 5 [256 + 31, 0xFFFC, 9], 31, 0xFFFC, 9, offers_of (by decide +kernel), by decide +kernel, by decide +kernel, by decide +kernel, by unfold Item.is; decide +kernel, by decide +kernel⟩,
   ⟨offB (rdy.setFld CORE_STATUS_STATE 1 31) (cmdItem 0x301 5 [31, 0xFFFC, 9]), 3, cmdItem 0x301 5 [31, 0xFFFC, 9], 31, 0xFFFC, 9, offers_of (by decide +kernel), by decide +kernel, by decide +kernel, by decide +kernel, by unfold Item.is; decide +kernel, by decide +kernel⟩,
   ⟨offB (rdy.setFld CORE_STATUS_STATE 1 31) (cmdItem 0x302 3 [2 ^ 31]), 3, cmdItem 0x302 3 [2 ^ 31], 31, offers_of (by decide +kernel), by decide +kernel, by unfold Item.is; decide +kernel, by decide +kernel⟩,
   ⟨off (cmdItem 0x302 3 [2 ^ 31]), 3, cmdItem 0x302 3 [2 ^ 31], 31, offers_of (by decide +kernel), by decide +kernel, by unfold Item.is; decide +kernel, by decide +kernel⟩,
   ⟨offB (rdy.setLive CORE_CHCFG_EN 1 31 15) (cmdItem 0x303 4 [31, 2 ^ 15]), 3, cmdItem 0x303 4 [31, 2 ^ 15], 31, 15, offers_of (by decide +kernel), by decide +kernel, by decide +kernel, by unfold Item.is; decide +kernel, by decide +kernel⟩⟩

/-- Each clause of `Obligations.UnitCommands` has a state and operands that meet its hypotheses. -/
theorem witness_UnitCommands :
    (∃ (s : State) (k : _) (it : _) (e : _) (a : _) (o : _), s.offers k it ∧ e < 2 ∧ a % 64 = 0 ∧ a < 0x200000 ∧ o < hubSize ∧ it.is 0x400 5 [e, a, o] ∧ s.dieUnreachable e = false ∧ (s.laceRefusal (s.storedImage o 40) (hubSize - o) e a).1 ≠ 0) ∧
    (∃ (s : State) (k : _) (it : _) (e : _) (a : _) (o : _), s.offers k it ∧ e < 2 ∧ a % 64 = 0 ∧ a < 0x200000 ∧ o < hubSize ∧ it.is 0x400 5 [e, a, o] ∧ s.dieUnreachable e = false ∧ s.engineDropped e = false ∧ s.solLocked e a (s.storedImage o 40).length = false ∧ (s.laceRefusal (s.storedImage o 40) (hubSize - o) e a).1 = 0) ∧
    (∃ (s : State) (k : _) (it : _) (e : _) (a : _) (o : _), s.offers k it ∧ e < 2 ∧ a % 64 = 0 ∧ a < 0x200000 ∧ o < hubSize ∧ it.is 0x400 5 [e, a, o] ∧ s.dieUnreachable e = false ∧ s.engineDropped e = true ∧ (s.laceRefusal (s.storedImage o 40) (hubSize - o) e a).1 = 0 ∧ s.flag HIF_ACCERR_VALID = false) ∧
    (∃ (s : State) (k : _) (it : _) (e : _) (i : _), s.offers k it ∧ e < 2 ∧ i < 32 ∧ it.is 0x401 3 [32 * e + i] ∧ s.dieUnreachable e = false ∧ i < (s.engine e).slots.length ∧ s.slotOn e i = true ∧ s.engineDropped e = false ∧ (s.pslot e i).pendCommit = 0 ∧ s.mayCommit e i = true) ∧
    (∃ (s : State) (k : _) (it : _) (e : _) (i : _), s.offers k it ∧ e < 2 ∧ i < 32 ∧ it.is 0x401 3 [32 * e + i] ∧ s.dieUnreachable e = false ∧ s.slotOn e i = false) ∧
    (∃ (s : State) (k : _) (it : _) (e : _) (i : _), s.offers k it ∧ e < 2 ∧ i < 32 ∧ it.is 0x402 3 [32 * e + i] ∧ s.dieUnreachable e = false ∧ s.engineDropped e = false ∧ s.slotIdle e i = true) ∧
    (∃ (s : State) (k : _) (it : _) (e : _) (i : _) (x : _), s.offers k it ∧ e < 2 ∧ i < 32 ∧ it.is 0x403 4 [32 * e + i, x] ∧ s.dieUnreachable e = false ∧ i < (s.engine e).slots.length ∧ s.slotOn e i = true ∧ s.engineClaimed e = false ∧ s.slotIdle e i = true ∧ s.engineDropped e = false) ∧
    (∃ (s : State) (k : _) (it : _) (e : _) (i : _) (x : _), s.offers k it ∧ e < 2 ∧ i < 32 ∧ it.is 0x403 4 [256 + 32 * e + i, x] ∧ s.dieUnreachable e = false ∧ s.slotOn e i = true ∧ s.engineClaimed e = false ∧ s.slotIdle e i = true ∧ s.engineDropped e = false) ∧
    (∃ (s : State) (k : _) (it : _) (e : _) (i : _) (x : _), s.offers k it ∧ e < 2 ∧ i < 32 ∧ it.is 0x403 4 [32 * e + i, x] ∧ s.dieUnreachable e = false ∧ (s.slotOn e i = false ∨ s.slotIdle e i = false)) ∧
    (∃ (s : State) (k : _) (it : _) (e : _) (c : _), s.offers k it ∧ e < 2 ∧ c < 16 ∧ it.is 0x404 4 [e, 2 ^ c] ∧ s.dieUnreachable e = false ∧ s.inOn e c = true) ∧
    (∃ (s : State) (k : _) (it : _) (p : _) (b : _), s.offers k it ∧ p < 6 ∧ b < 2 ^ 16 ∧ it.is 0x500 4 [p, b] ∧ s.pst p ≠ 6) ∧
    (∃ (s : State) (k : _) (it : _) (p : _) (b : _), s.offers k it ∧ p < 6 ∧ b < 2 ^ 16 ∧ it.is 0x500 4 [p, b] ∧ s.pst p = 6 ∧ s.baseOk p b = true ∧ s.capsCover p = 0) ∧
    (∃ (s : State) (k : _) (it : _) (p : _) (b : _), s.offers k it ∧ p < 6 ∧ b < 2 ^ 16 ∧ it.is 0x500 4 [p, b] ∧ s.pst p = 6 ∧ s.baseOk p b = false) ∧
    (∃ (s : State) (k : _) (it : _) (p : _), s.offers k it ∧ p < 6 ∧ it.is 0x501 3 [p] ∧ (s.pst p = 8 ∨ s.flag MOL_STATUS_QHELD p = true)) ∧
    (∃ (s : State) (k : _) (it : _) (p : _), s.offers k it ∧ p < 6 ∧ it.is 0x501 3 [p] ∧ s.pst p ≠ 8 ∧ s.flag MOL_STATUS_QHELD p = false) ∧
    (∃ (s : State) (k : _) (it : _) (p : _), s.offers k it ∧ p < 6 ∧ it.is 0x502 3 [p]) ∧
    (∃ (s : State) (k : _) (it : _) (r : _), s.offers k it ∧ r < 4 ∧ it.is 0x503 3 [2 ^ r]) ∧
    (∃ (s : State) (k : _) (it : _) (r : _), s.offers k it ∧ r < 4 ∧ it.is 0x504 3 [2 ^ r] ∧ s.rgState r = 1 ∧ (∀ d, look s.wfm.ringDone r = some d → d < nearMod 48 d s.count48 + s.live WFM_RGCFG_POST r)) ∧
    (∃ (s : State) (k : _) (it : _) (p : _) (i : _), s.offers k it ∧ p < 6 ∧ i < 8 ∧ p < s.cam.ports.length ∧ i < s.cam.profs.length ∧ it.is 0x600 3 [2 ^ p + 256 * i] ∧ s.boot.halted = false ∧ s.camDropped p = false ∧ s.profOk (s.regN CAM_FSPROF_LO i) (s.regN CAM_FSPROF_HI i) = true ∧ (s.camPort p).plan = none ∧ (s.camPort p).pulseEnd = none) ∧
    (∃ (s : State) (k : _) (it : _) (q : _) (c : _), s.offers k it ∧ q < 2 ∧ c < 16 ∧ it.is 0x601 4 [q, 2 ^ c] ∧ s.rpDropped q = false ∧ s.flag PAT_STATUS_ACTIVE = false ∧ s.live ISP_RPCCTRL_EN q c = 1) ∧
    (∃ (s : State) (k : _) (it : _) (q : _) (c : _), s.offers k it ∧ q < 2 ∧ c < 16 ∧ it.is 0x601 4 [q, 2 ^ c] ∧ s.live ISP_RPCCTRL_EN q c = 0) ∧
    (∃ (s : State) (k : _) (it : _) (m : _), s.offers k it ∧ m < 2 ^ 16 ∧ it.is 0x700 3 [m]) :=
  ⟨⟨off (cmdItem 0x400 5 [1, 0x1FFFC0, 0]), 3, cmdItem 0x400 5 [1, 0x1FFFC0, 0], 1, 0x1FFFC0, 0, offers_of (by decide +kernel), by decide +kernel, by decide +kernel, by decide +kernel, by decide +kernel, by unfold Item.is; decide +kernel, by decide +kernel⟩,
   ⟨offB (rdy.putHub 1024 lim) (cmdItem 0x400 5 [1, 64, 1024]), 3, cmdItem 0x400 5 [1, 64, 1024], 1, 64, 1024, offers_of (by decide +kernel), by decide +kernel, by decide +kernel, by decide +kernel, by decide +kernel, by unfold Item.is; decide +kernel, by decide +kernel⟩,
   ⟨offB ((rdy.putHub 1024 lim).setDrop 1 1 true) (cmdItem 0x400 5 [1, 64, 1024]), 3, cmdItem 0x400 5 [1, 64, 1024], 1, 64, 1024, offers_of (by decide +kernel), by decide +kernel, by decide +kernel, by decide +kernel, by decide +kernel, by unfold Item.is; decide +kernel, by decide +kernel⟩,
   ⟨offB (slotted) (cmdItem 0x401 3 [63]), 3, cmdItem 0x401 3 [63], 1, 31, offers_of (by decide +kernel), by decide +kernel, by decide +kernel, by unfold Item.is; decide +kernel, by decide +kernel⟩,
   ⟨off (cmdItem 0x401 3 [63]), 3, cmdItem 0x401 3 [63], 1, 31, offers_of (by decide +kernel), by decide +kernel, by decide +kernel, by unfold Item.is; decide +kernel, by decide +kernel⟩,
   ⟨offB (slotted) (cmdItem 0x402 3 [63]), 3, cmdItem 0x402 3 [63], 1, 31, offers_of (by decide +kernel), by decide +kernel, by decide +kernel, by unfold Item.is; decide +kernel, by decide +kernel⟩,
   ⟨offB (slotted) (cmdItem 0x403 4 [63, 77]), 3, cmdItem 0x403 4 [63, 77], 1, 31, 77, offers_of (by decide +kernel), by decide +kernel, by decide +kernel, by unfold Item.is; decide +kernel, by decide +kernel⟩,
   ⟨offB (slotted) (cmdItem 0x403 4 [256 + 63, 77]), 3, cmdItem 0x403 4 [256 + 63, 77], 1, 31, 77, offers_of (by decide +kernel), by decide +kernel, by decide +kernel, by unfold Item.is; decide +kernel, by decide +kernel⟩,
   ⟨off (cmdItem 0x403 4 [63, 77]), 3, cmdItem 0x403 4 [63, 77], 1, 31, 77, offers_of (by decide +kernel), by decide +kernel, by decide +kernel, by unfold Item.is; decide +kernel, by decide +kernel⟩,
   ⟨offB (inch 31) (cmdItem 0x404 4 [1, 2 ^ 15]), 3, cmdItem 0x404 4 [1, 2 ^ 15], 1, 15, offers_of (by decide +kernel), by decide +kernel, by decide +kernel, by unfold Item.is; decide +kernel, by decide +kernel⟩,
   ⟨off (cmdItem 0x500 4 [5, 16]), 3, cmdItem 0x500 4 [5, 16], 5, 16, offers_of (by decide +kernel), by decide +kernel, by decide +kernel, by unfold Item.is; decide +kernel, by decide +kernel⟩,
   ⟨offB (at6.setReg (MOL_CAPS.at 5) (-1)) (cmdItem 0x500 4 [5, 16]), 3, cmdItem 0x500 4 [5, 16], 5, 16, offers_of (by decide +kernel), by decide +kernel, by decide +kernel, by unfold Item.is; decide +kernel, by decide +kernel⟩,
   ⟨offB (at6) (cmdItem 0x500 4 [5, 15]), 3, cmdItem 0x500 4 [5, 15], 5, 15, offers_of (by decide +kernel), by decide +kernel, by decide +kernel, by unfold Item.is; decide +kernel, by decide +kernel⟩,
   ⟨offB (pst 8) (cmdItem 0x501 3 [5]), 3, cmdItem 0x501 3 [5], 5, offers_of (by decide +kernel), by decide +kernel, by unfold Item.is; decide +kernel, by decide +kernel⟩,
   ⟨off (cmdItem 0x501 3 [5]), 3, cmdItem 0x501 3 [5], 5, offers_of (by decide +kernel), by decide +kernel, by unfold Item.is; decide +kernel, by decide +kernel⟩,
   ⟨off (cmdItem 0x502 3 [5]), 3, cmdItem 0x502 3 [5], 5, offers_of (by decide +kernel), by decide +kernel, by unfold Item.is; decide +kernel⟩,
   ⟨off (cmdItem 0x503 3 [8]), 3, cmdItem 0x503 3 [8], 3, offers_of (by decide +kernel), by decide +kernel, by unfold Item.is; decide +kernel⟩,
   ⟨offB (rdy.setFld WFM_RGSTAT_STATE 1 3) (cmdItem 0x504 3 [8]), 3, cmdItem 0x504 3 [8], 3, offers_of (by decide +kernel), by decide +kernel, by unfold Item.is; decide +kernel, by decide +kernel⟩,
   ⟨off (cmdItem 0x600 3 [2 ^ 5 + 256 * 7]), 3, cmdItem 0x600 3 [2 ^ 5 + 256 * 7], 5, 7, offers_of (by decide +kernel), by decide +kernel, by decide +kernel, by decide +kernel, by decide +kernel, by unfold Item.is; decide +kernel, by decide +kernel⟩,
   ⟨offB (liveReg ISP_RPCCTRL 1 15 2 rdy) (cmdItem 0x601 4 [1, 2 ^ 15]), 3, cmdItem 0x601 4 [1, 2 ^ 15], 1, 15, offers_of (by decide +kernel), by decide +kernel, by decide +kernel, by unfold Item.is; decide +kernel, by decide +kernel⟩,
   ⟨off (cmdItem 0x601 4 [1, 2 ^ 15]), 3, cmdItem 0x601 4 [1, 2 ^ 15], 1, 15, offers_of (by decide +kernel), by decide +kernel, by decide +kernel, by unfold Item.is; decide +kernel, by decide +kernel⟩,
   ⟨off (cmdItem 0x700 3 [65535]), 3, cmdItem 0x700 3 [65535], 65535, offers_of (by decide +kernel), by decide +kernel, by unfold Item.is; decide +kernel⟩⟩

/-- Each clause of `Obligations.JournalCommands` has a state and operands that meet its hypotheses. -/
theorem witness_JournalCommands :
    (∃ (s : State) (k : _) (it : _), s.offers k it ∧ it.is 0x800 2 []) ∧
    (∃ (s : State) (k : _) (it : _) (a : _) (n : _) (h : _), s.offers k it ∧ 1 ≤ n ∧ n ≤ 8192 ∧ h % 32 = 0 ∧ h < 2 ^ 32 ∧ it.is 0x801 6 [a, n, h, 0] ∧ (seqIn (s.regN JRN_SNAP_FIRST) (s.regN JRN_SNAP_LAST) a = false ∨ seqIn (s.regN JRN_SNAP_FIRST) (s.regN JRN_SNAP_LAST) ((a + n - 1) % 2 ^ 32) = false)) ∧
    (∃ (s : State) (k : _) (it : _) (a : _) (n : _) (h : _), s.offers k it ∧ 1 ≤ n ∧ n ≤ 8192 ∧ h % 32 = 0 ∧ h < 2 ^ 32 ∧ it.is 0x801 6 [a, n, h, 0] ∧ seqIn (s.regN JRN_SNAP_FIRST) (s.regN JRN_SNAP_LAST) a = true ∧ seqIn (s.regN JRN_SNAP_FIRST) (s.regN JRN_SNAP_LAST) ((a + n - 1) % 2 ^ 32) = true) ∧
    (∃ (s : State) (k : _) (it : _), s.offers k it ∧ it.is 0x802 2 [] ∧ s.fld JRN_STATUS_NORST ≠ 2) ∧
    (∃ (s : State) (k : _) (it : _), s.offers k it ∧ it.is 0x802 2 [] ∧ s.fld JRN_STATUS_NORST = 2 ∧ s.jrn.flushing.isSome = true) ∧
    (∃ (s : State) (k : _) (it : _), s.offers k it ∧ it.is 0x803 2 [] ∧ (s.flag SEC_STATUS_CLRBLK = true ∨ s.flag SEC_STATUS_RNGFAIL = true)) ∧
    (∃ (s : State) (k : _) (it : _), s.offers k it ∧ it.is 0x803 2 [] ∧ s.flag SEC_STATUS_CLRBLK = false ∧ s.flag SEC_STATUS_RNGFAIL = false) ∧
    (∃ (s : State) (k : _) (it : _), s.offers k it ∧ it.opc = 0x804 ∧ it.len = 10 ∧ s.fld JRN_STATUS_NORST ≠ 2) ∧
    (∃ (s : State) (k : _) (it : _), s.offers k it ∧ it.opc = 0x804 ∧ it.len = 10 ∧ s.sec.nonce = none) :=
  ⟨⟨off (cmdItem 0x800 2 []), 3, cmdItem 0x800 2 [], offers_of (by decide +kernel), by unfold Item.is; decide +kernel⟩,
   ⟨off (cmdItem 0x801 6 [5, 8192, 32, 0]), 3, cmdItem 0x801 6 [5, 8192, 32, 0], 5, 8192, 32, offers_of (by decide +kernel), by decide +kernel, by decide +kernel, by decide +kernel, by decide +kernel, by unfold Item.is; decide +kernel, by decide +kernel⟩,
   ⟨off (cmdItem 0x801 6 [0, 1, 32, 0]), 3, cmdItem 0x801 6 [0, 1, 32, 0], 0, 1, 32, offers_of (by decide +kernel), by decide +kernel, by decide +kernel, by decide +kernel, by decide +kernel, by unfold Item.is; decide +kernel, by decide +kernel⟩,
   ⟨off (cmdItem 0x802 2 []), 3, cmdItem 0x802 2 [], offers_of (by decide +kernel), by unfold Item.is; decide +kernel, by decide +kernel⟩,
   ⟨offB ((jst 2).modJrn (fun j => { j with flushing := some [] })) (cmdItem 0x802 2 []), 3, cmdItem 0x802 2 [], offers_of (by decide +kernel), by unfold Item.is; decide +kernel, by decide +kernel⟩,
   ⟨offB (secRaw (BitVec.ofNat 32 (2 ^ SEC_STATUS_RNGFAIL.lo)) rdy) (cmdItem 0x803 2 []), 3, cmdItem 0x803 2 [], offers_of (by decide +kernel), by unfold Item.is; decide +kernel, by decide +kernel⟩,
   ⟨offB (secRaw 0 rdy) (cmdItem 0x803 2 []), 3, cmdItem 0x803 2 [], offers_of (by decide +kernel), by unfold Item.is; decide +kernel, by decide +kernel⟩,
   ⟨off (cmdItem 0x804 10 []), 3, cmdItem 0x804 10 [], offers_of (by decide +kernel), by decide +kernel⟩,
   ⟨off (cmdItem 0x804 10 []), 3, cmdItem 0x804 10 [], offers_of (by decide +kernel), by decide +kernel⟩⟩

/-- Each clause of `Obligations.KeyAndDebugCommands` has a state and operands that meet its hypotheses. -/
theorem witness_KeyAndDebugCommands :
    (∃ (s : State) (k : _) (it : _) (i : _) (a : _) (b : _) (c : _) (d : _), s.offers k it ∧ i < 32 ∧ a < 2 ^ 32 ∧ b < 2 ^ 32 ∧ c < 2 ^ 32 ∧ d < 2 ^ 32 ∧ it.is 0x900 7 [i, a, b, c, d] ∧ s.flag SEC_STATUS_LOCKKEY = false) ∧
    (∃ (s : State) (k : _) (it : _) (i : _), s.offers k it ∧ i < 32 ∧ it.is 0x900 7 [i, 0, 0, 0, 0] ∧ s.flag SEC_STATUS_LOCKKEY = true) ∧
    (∃ (s : State) (k : _) (it : _) (m : _), s.offers k it ∧ m < 2 ^ 32 ∧ it.is 0x901 3 [m] ∧ s.flag SEC_STATUS_LOCKKEY = false) ∧
    (∃ (s : State) (k : _) (it : _) (m : _), s.offers k it ∧ it.is 0x901 3 [m] ∧ s.flag SEC_STATUS_LOCKKEY = true) ∧
    (∃ (s : State) (k : _) (it : _), s.offers k it ∧ it.opc = 0x902 ∧ it.len = 10 ∧ s.flag SEC_STATUS_LOCKJCK = true) ∧
    (∃ (s : State) (k : _) (it : _), s.offers k it ∧ it.opc = 0x902 ∧ it.len = 10 ∧ s.flag SEC_STATUS_LOCKJCK = false) ∧
    (∃ (s : State) (k : _) (it : _) (m : _), s.offers k it ∧ m < 4 ∧ it.is 0x903 3 [m]) ∧
    (∃ (s : State) (k : _) (it : _) (n : _), s.offers k it ∧ n < 32 ∧ s.attached = false ∧ s.dieUnreachable (coreDie n) = false ∧ it.is 0xF00 3 [2 ^ n]) ∧
    (∃ (s : State) (k : _) (it : _) (n : _), s.offers k it ∧ n < 32 ∧ it.is 0xF00 3 [2 ^ n] ∧ s.attached = true ∧ s.dieUnreachable (coreDie n) = false ∧ (s.core n).halted = false ∧ s.coreDropped n = false) ∧
    (∃ (s : State) (k : _) (it : _) (n : _), s.offers k it ∧ n < 32 ∧ it.is 0xF01 3 [2 ^ n] ∧ s.attached = true ∧ s.dieUnreachable (coreDie n) = false ∧ (s.core n).halted = true ∧ (s.core n).hcause = 1 ∧ (s.core n).wait = .none ∧ (s.core n).was = cRun) ∧
    (∃ (s : State) (k : _) (it : _) (n : _) (c : _), s.offers k it ∧ n < 32 ∧ 1 ≤ c ∧ c < 2 ^ 16 ∧ it.is 0xF02 4 [n, c] ∧ s.attached = true ∧ s.dieUnreachable (coreDie n) = false ∧ (s.core n).halted = true ∧ (s.core n).hcause = 1 ∧ (s.core n).wait = .none ∧ (s.core n).was = cRun) ∧
    (∃ (s : State) (k : _) (it : _) (n : _), s.offers k it ∧ n < 32 ∧ it.is 0xF02 4 [n, 1] ∧ s.attached = true ∧ s.dieUnreachable (coreDie n) = false ∧ (s.core n).halted = false) :=
  ⟨⟨offB (secRaw 0 rdy) (cmdItem 0x900 7 [31, 1, 2, 3, 0xFFFFFFFF]), 3, cmdItem 0x900 7 [31, 1, 2, 3, 0xFFFFFFFF], 31, 1, 2, 3, 0xFFFFFFFF, offers_of (by decide +kernel), by decide +kernel, by decide +kernel, by decide +kernel, by decide +kernel, by decide +kernel, by unfold Item.is; decide +kernel, by decide +kernel⟩,
   ⟨offB (secRaw lk rdy) (cmdItem 0x900 7 [31, 0, 0, 0, 0]), 3, cmdItem 0x900 7 [31, 0, 0, 0, 0], 31, offers_of (by decide +kernel), by decide +kernel, by unfold Item.is; decide +kernel, by decide +kernel⟩,
   ⟨offB (secRaw 0 rdy) (cmdItem 0x901 3 [0xFFFFFFFF]), 3, cmdItem 0x901 3 [0xFFFFFFFF], 0xFFFFFFFF, offers_of (by decide +kernel), by decide +kernel, by unfold Item.is; decide +kernel, by decide +kernel⟩,
   ⟨offB (secRaw lk rdy) (cmdItem 0x901 3 [3]), 3, cmdItem 0x901 3 [3], 3, offers_of (by decide +kernel), by unfold Item.is; decide +kernel, by decide +kernel⟩,
   ⟨offB (secRaw lk rdy) (cmdItem 0x902 10 []), 3, cmdItem 0x902 10 [], offers_of (by decide +kernel), by decide +kernel⟩,
   ⟨offB (secRaw 0 rdy) (cmdItem 0x902 10 []), 3, cmdItem 0x902 10 [], offers_of (by decide +kernel), by decide +kernel⟩,
   ⟨off (cmdItem 0x903 3 [3]), 3, cmdItem 0x903 3 [3], 3, offers_of (by decide +kernel), by decide +kernel, by unfold Item.is; decide +kernel⟩,
   ⟨off (cmdItem 0xF00 3 [2 ^ 31]), 3, cmdItem 0xF00 3 [2 ^ 31], 31, offers_of (by decide +kernel), by decide +kernel, by decide +kernel, by decide +kernel, by unfold Item.is; decide +kernel⟩,
   ⟨offB (dbgOn) (cmdItem 0xF00 3 [2 ^ 31]), 3, cmdItem 0xF00 3 [2 ^ 31], 31, offers_of (by decide +kernel), by decide +kernel, by unfold Item.is; decide +kernel, by decide +kernel⟩,
   ⟨offB (halt31 1) (cmdItem 0xF01 3 [2 ^ 31]), 3, cmdItem 0xF01 3 [2 ^ 31], 31, offers_of (by decide +kernel), by decide +kernel, by unfold Item.is; decide +kernel, by decide +kernel⟩,
   ⟨offB (halt31 1) (cmdItem 0xF02 4 [31, 65535]), 3, cmdItem 0xF02 4 [31, 65535], 31, 65535, offers_of (by decide +kernel), by decide +kernel, by decide +kernel, by decide +kernel, by unfold Item.is; decide +kernel, by decide +kernel⟩,
   ⟨offB (dbgOn) (cmdItem 0xF02 4 [31, 1]), 3, cmdItem 0xF02 4 [31, 1], 31, offers_of (by decide +kernel), by decide +kernel, by unfold Item.is; decide +kernel, by decide +kernel⟩⟩

/-- Each clause of `Obligations.CheckUnits` has a state and operands that meet its hypotheses. -/
theorem witness_CheckUnits :
    (∃ (s : State) (rq : _) (u : _), s.serves rq ∧ u < 8 ∧ s.live CHK_CFG_EN u = 1) ∧
    (∃ (s : State) (rq : _) (u : _) (v : Word) (be : _) (l : List Nat) (x : _), s.whole ∧ s.serves rq ∧ u < 8 ∧ be ∈ [1, 2, 3, 4, 8, 12, 15] ∧ s.live CHK_CFG_EN u = 1 ∧ s.live CHK_CFG_MODE u = 0 ∧ l = chkLanes (s.live CHK_CFG_ORDER u) be v.toNat ∧ x = l.foldl (s.chkPoly u).byte (s.chkUnit u).crc) ∧
    (∃ (s : State) (rq : _) (u : _), s.serves rq ∧ u < 8 ∧ s.live CHK_CFG_EN u = 0) ∧
    (∃ (s : State) (u : _), s.serves .host ∧ u < 8 ∧ s.flag HIF_ACCERR_VALID = false) ∧
    (∃ (s : State) (u : _) (got : _) (want : _), s.whole ∧ u < 8 ∧ s.reaches .host (CHK_CTRL.at u) ∧ s.live CHK_CFG_MODE u = 0 ∧ got = (s.chkPoly u).result (s.chkUnit u).crc ∧ want = s.regN CHK_EXPECT u % 2 ^ (s.chkPoly u).w) ∧
    (∃ (s : State) (u : _), u < 8 ∧ s.reaches .host (CHK_CTRL.at u) ∧ s.live CHK_CFG_MODE u = 1) ∧
    (∃ (s : State) (u : _), s.whole ∧ u < 8 ∧ s.reaches .host (CHK_CTRL.at u)) ∧
    (∃ (s : State) (u : _) (c : _) (m : _) (unjudged : _), s.whole ∧ u < 8 ∧ s.reaches .host (CHK_CTRL.at u) ∧ s.live CHK_CFG_MODE u = 0 ∧ s.live CHK_CFG_GEN u = 1 ∧ (s.chkUnit u).samp = some c ∧ c < 256 ∧ (m = (if s.live CHK_CFG_GW u = 1 then 256 else 16)) ∧ unjudged = ((s.chkUnit u).first || !s.flag CHK_STATUS_GVALID u)) ∧
    (∃ (s : State) (u : _), s.whole ∧ u < 8 ∧ s.reaches .host (CHK_CTRL.at u) ∧ s.live CHK_CFG_MODE u = 0 ∧ s.live CHK_CFG_GEN u = 1 ∧ (s.chkUnit u).samp = none) ∧
    (∃ (s : State) (rq : _) (u : _) (v : Word) (l : _), s.whole ∧ s.serves rq ∧ u < 8 ∧ s.live CHK_CFG_EN u = 1 ∧ s.live CHK_CFG_MODE u = 1 ∧ s.live CHK_CFG_GEN u = 0 ∧ (s.chkUnit u).n ≠ 0 ∧ (s.chkUnit u).n + 1 = (s.chkUnit u).len ∧ l = (s.chkUnit u).trailer ++ [v.toNat % 256]) ∧
    (∃ (s : State) (rq : _) (u : _), s.whole ∧ s.serves rq ∧ u < 8 ∧ s.live CHK_CFG_EN u = 1 ∧ s.live CHK_CFG_MODE u = 1 ∧ (s.chkUnit u).n = 0 ∧ s.fld CHK_LEN_LEN u < (s.chkPoly u).t + 1 ∧ (s.chkPoly u).t + 1 ≤ (s.chkUnit u).lastLen) :=
  ⟨⟨ck.setLive CHK_CFG_ORDER 1 7, .hub, 7, by decide +kernel⟩,
   ⟨ck.setLive CHK_CFG_ORDER 1 7, .debug, 7, 0x11223344#32, 15, [0x11, 0x22, 0x33, 0x44], [0x11, 0x22, 0x33, 0x44].foldl (ck.chkPoly 7).byte 0x1234, by decide +kernel⟩,
   ⟨rdy, .hub, 7, by decide +kernel⟩,
   ⟨rdy, 7, by decide +kernel⟩,
   ⟨ckx, 7, (ck.chkPoly 7).result 0x1234, (ck.chkPoly 7).result 0x1234, by decide +kernel⟩,
   ⟨ck.setLive CHK_CFG_MODE 1 7, 7, by decide +kernel⟩,
   ⟨ck, 7, by decide +kernel⟩,
   ⟨(((ckg (some 255)).setFld CHK_STATUS_GVALID 1 7).setFld CHK_STATUS_GLAST 3 7).modChk 7 (fun c => { c with first := false }), 7, 255, 16, false, by decide +kernel⟩,
   ⟨ckg none, 7, by decide +kernel⟩,
   ⟨(ck.setLive CHK_CFG_MODE 1 7).modChk 7 (fun c => { c with n := 15, len := 16, trailer := [1, 2, 3] }), .host, 7, 4#32, [1, 2, 3, 4], by decide +kernel⟩,
   ⟨((ck.setLive CHK_CFG_MODE 1 7).setFld CHK_LEN_LEN 4 7).modChk 7 (fun c => { c with n := 0, lastLen := 16 }), .host, 7, by decide +kernel⟩⟩

/-- Each clause of `Obligations.JournalIntake` has a state and operands that meet its hypotheses. -/
theorem witness_JournalIntake :
    (∃ (s : State), (s.jrn.intake = [] ∨ s.jrn.opened = false)) ∧
    (∃ (s : State) (r : _) (l : _) (i : _) (b : _), s.jrn.opened = true ∧ takeGroup s.jrn.intake = ([r], l) ∧ s.live JRN_RATE_RATE r.sev = 0 ∧ (s.fld JRN_STATUS_NORST ≠ 2 ∨ r.sev < 5 ∧ s.unflushed.length + 1 < s.live JRN_CFG_FLTHR) ∧ (freeSlot 0 s.jrn.slots = some i ∨ freeSlot 0 s.jrn.slots = none ∧ ∃ e, oldest (fun e => e.flushed) s.jrn.slots = some e ∧ i = e.slot) ∧ b = (s.bucket r.code).getD { code := r.code, tokens := s.live JRN_RATE_BURST r.sev, sev := r.sev, sup := none }) ∧
    (∃ (s : State) (r : _) (l : _) (i : _), s.jrn.opened = true ∧ takeGroup s.jrn.intake = ([r], l) ∧ s.live JRN_RATE_RATE r.sev = 0 ∧ s.fld JRN_STATUS_NORST = 2 ∧ (5 ≤ r.sev ∨ s.live JRN_CFG_FLTHR = 1) ∧ freeSlot 0 s.jrn.slots = some i ∧ s.jrn.flushing = none ∧ s.jrn.clear = none ∧ s.jrn.active = true ∧ s.activeSlot < s.sectSlots ∧ (s.jrn.erase = none ∧ s.boot.erasing = false ∨ s.live JRN_NORGEO_NOSUS ≠ 1)) ∧
    (∃ (s : State) (r : _) (l : _), s.jrn.opened = true ∧ takeGroup s.jrn.intake = ([r], l) ∧ r.sev < 4 ∧ s.live JRN_RATE_RATE r.sev = 0 ∧ freeSlot 0 s.jrn.slots = none ∧ (∀ e ∈ s.jrn.slots, e.flushed = false ∧ r.sev ≤ e.r.sev) ∧ s.live JRN_CFG_EQOVR = 0) ∧
    (∃ (s : State) (r : _) (g : _) (l : _) (b : _), s.jrn.opened = true ∧ takeGroup s.jrn.intake = (r :: g, l) ∧ s.live JRN_RATE_RATE r.sev ≠ 0 ∧ s.bucket r.code = some b ∧ b.tokens = 0 ∧ b.sup = none) ∧
    (∃ (s : State) (r : _) (g : _) (l : _) (b : _) (n : _) (f : _) (m : _), s.jrn.opened = true ∧ takeGroup s.jrn.intake = (r :: g, l) ∧ s.live JRN_RATE_RATE r.sev ≠ 0 ∧ s.bucket r.code = some b ∧ b.tokens = 0 ∧ b.sup = some (n, f, m)) ∧
    (∃ (s : State) (r : _) (g : _) (l : _) (b : _), s.jrn.opened = true ∧ takeGroup s.jrn.intake = (r :: g, l) ∧ s.live JRN_RATE_RATE r.sev ≠ 0 ∧ s.bucket r.code = some b ∧ b.tokens ≠ 0) ∧
    (∃ (s : State) (r : _) (l : _) (b : _) (i : _), s.jrn.opened = true ∧ takeGroup s.jrn.intake = ([r], l) ∧ s.live JRN_RATE_RATE r.sev ≠ 0 ∧ s.bucket r.code = some b ∧ b.tokens ≠ 0 ∧ s.fld JRN_STATUS_NORST ≠ 2 ∧ freeSlot 0 s.jrn.slots = some i) ∧
    (∃ (s : State) (e : _), e ∈ s.jrn.slots ∧ s.reaches .host JRN_CTRL.base ∧ e.seq < 2 ^ 32 ∧ (∀ f ∈ s.jrn.slots, f = e ∨ seqBefore e.seq f.seq = true)) :=
  ⟨⟨rdy, by decide +kernel⟩,
   ⟨ji 6, jr 6, [], 0, ⟨0x333, (ji 6).live JRN_RATE_BURST 6, 6, none⟩, by decide +kernel⟩,
   ⟨((ji 6).modJrn (fun x => { x with active := true })).setFld JRN_STATUS_NORST 2, jr 6, [], 0, by decide +kernel⟩,
   ⟨(liveReg JRN_RATE 3 0 0 jfull), jr 3, [], by decide +kernel⟩,
   ⟨jb 0 none, jr 3, [], [], ⟨0x333, 0, 3, none⟩, by decide +kernel⟩,
   ⟨jb 0 (some (1, 2, 3)), jr 3, [], [], ⟨0x333, 0, 3, some (1, 2, 3)⟩, 1, 2, 3, by decide +kernel⟩,
   ⟨(jb 4 none).modJrn (fun x => { x with intake := [{ jr 3 with part := true }, jr 3, jr 5] }), { jr 3 with part := true }, [jr 3], [jr 5], ⟨0x333, 4, 3, none⟩, by decide +kernel⟩,
   ⟨jb 4 none, jr 3, [], ⟨0x333, 4, 3, none⟩, 0, by decide +kernel⟩,
   ⟨jf, e1, by decide +kernel⟩⟩

/-- Each clause of `Obligations.JournalFlash` has a state and operands that meet its hypotheses. -/
theorem witness_JournalFlash :
    (∃ (s : State), s.reaches .host JRN_CTRL.base ∧ s.fld JRN_STATUS_NORST ≠ 2) ∧
    (∃ (s : State), s.reaches .host JRN_CTRL.base ∧ s.fld JRN_STATUS_NORST = 2 ∧ s.jrn.flushing = none ∧ s.jrn.clear = none ∧ s.jrn.active = true ∧ s.unflushed ≠ [] ∧ s.activeSlot < s.sectSlots ∧ (s.jrn.erase = none ∧ s.boot.erasing = false ∨ s.live JRN_NORGEO_NOSUS ≠ 1)) ∧
    (∃ (s : State), s.reaches .host JRN_CTRL.base ∧ s.fld JRN_STATUS_NORST = 2 ∧ s.jrn.flushing = none ∧ s.jrn.clear = none ∧ s.jrn.active = true ∧ s.unflushed ≠ [] ∧ s.sectSlots ≤ s.activeSlot ∧ s.jrn.prepared = none ∧ s.jrn.erase = none ∧ s.boot.erasing = false ∧ s.jrn.frozen = false) ∧
    (∃ (s : State), s.reaches .host JRN_CTRL.base ∧ s.fld JRN_STATUS_NORST = 2 ∧ s.jrn.flushing.isSome = true) ∧
    (∃ (s : State), s.jrn.flushing = none) ∧
    (∃ (s : State) (e : _), s.jrn.flushing = some [e] ∧ s.jrn.pend = false ∧ s.jrn.clear = none ∧ s.jrn.off = false ∧ 2 * (s.activeSlot + 1) < s.sectSlots) ∧
    (∃ (s : State) (e : _) (j : _), s.jrn.flushing = some [e] ∧ s.jrn.pend = false ∧ s.jrn.clear = none ∧ s.jrn.erase = none ∧ s.jrn.off = false ∧ s.activeSlot = s.sectSlots ∧ s.jrn.prepared = some j ∧ j < 4096 ∧ (∀ a, s.sectAt j ≤ a → a < s.sectAt j + s.sectSize → memGet dfltF s.nor a = 0xFF)) ∧
    (∃ (s : State), (s.jrn.erase = none ∨ s.flag JRN_STATUS_SUSP = true)) ∧
    (∃ (s : State) (e : _), s.jrn.erase = some e ∧ e.ticket = false ∧ s.flag JRN_STATUS_SUSP = false ∧ s.jrn.clear = none ∧ s.jrn.pend = false ∧ s.jrn.off = false ∧ (s.jrn.active = false ∨ s.activeSlot < s.sectSlots)) ∧
    (∃ (s : State) (e : _), s.jrn.erase = some e ∧ e.ticket = true ∧ s.flag JRN_STATUS_SUSP = false ∧ s.jrn.clear = none ∧ s.jrn.pend = false ∧ s.jrn.off = false ∧ (∀ i < 32, memGet dfltF s.nor (s.slotAt s.activeSect (s.sectSlots + 1) + i) = 0xFF) ∧ e.target ≠ s.activeSect ∧ e.target < 2 ^ 16 ∧ e.sseq < 2 ^ 32 ∧ (s.jrn.active = false ∨ s.activeSlot < s.sectSlots)) ∧
    (∃ (s : State) (e : _), s.jrn.erase = some e ∧ s.flag JRN_STATUS_SUSP = false ∧ s.jrn.clear = none ∧ s.jrn.pend = false ∧ s.jrn.off = false ∧ s.jrn.active = true ∧ s.sectSlots ≤ s.activeSlot ∧ e.target < 4096) ∧
    (∃ (s : State), s.fld JRN_STATUS_NORST ≠ 1) ∧
    (∃ (s : State) (i : _), s.fld JRN_STATUS_NORST = 1 ∧ s.nor = [] ∧ s.binding = false ∧ freeSlot 0 s.jrn.slots = some i) ∧
    (∃ (s : State) (u : State) (e : _), s.fld JRN_STATUS_NORST = 1 ∧ u = s.modJrn (fun x => { x with part := (s.live JRN_NORBASE_BASE, s.live JRN_NORGEO_SECT, s.live JRN_NORGEO_NSECT) }) ∧ (∃ j < u.nsect, u.trustedShape j = true ∧ u.norLE (u.sectAt j + 4) 4 = e) ∧ (∀ j < u.nsect, u.trustedShape j = true → u.norLE (u.sectAt j + 4) 4 ≤ e)) ∧
    (∃ (s : State), (s.fld JRN_STATUS_NORST = 1 ∨ s.fld JRN_STATUS_NORST = 2)) ∧
    (∃ (s : State), (s.fld JRN_STATUS_NORST = 0 ∨ s.fld JRN_STATUS_NORST = 3)) :=
  ⟨⟨rdy, by decide +kernel⟩,
   ⟨jf, by decide +kernel⟩,
   ⟨jf.setFld JRN_NORACT_SLOT 121, by decide +kernel⟩,
   ⟨jg, by decide +kernel⟩,
   ⟨rdy, by decide +kernel⟩,
   ⟨jg, e1, by decide +kernel⟩,
   ⟨jh, e1, 1, by decide +kernel⟩,
   ⟨rdy, by decide +kernel⟩,
   ⟨je false, ⟨1, 5, false⟩, by decide +kernel⟩,
   ⟨je true, ⟨1, 5, true⟩, by decide +kernel⟩,
   ⟨(je true).setFld JRN_NORACT_SLOT 121, ⟨1, 5, true⟩, by decide +kernel⟩,
   ⟨rdy, by decide +kernel⟩,
   ⟨jst 1, 0, by decide +kernel⟩,
   ⟨flushed, flushed.modJrn (fun x => { x with part := (flushed.live JRN_NORBASE_BASE, flushed.live JRN_NORGEO_SECT, flushed.live JRN_NORGEO_NSECT) }), flushed.norLE (flushed.sectAt 1 + 4) 4, by decide +kernel⟩,
   ⟨jst 2, by decide +kernel⟩,
   ⟨jst 3, by decide +kernel⟩⟩

/-- Each clause of `Obligations.TestAccessPort` has a state and operands that meet its hypotheses. -/
theorem witness_TestAccessPort :
    (∃ (s : State), s.tap.ir = 0x02) ∧
    (∃ (s : State), s.tap.ir = 0x10 ∧ s.flag DBG_STATUS_FUSEDIS = true) ∧
    (∃ (s : State) (op : TapOp), op.code < 4 ∧ (s.tap.ir ≠ 0x10 ∨ s.flag DBG_STATUS_FUSEDIS = true ∨ op.code = 0)) ∧
    (∃ (s : State), s.tap.ir = 0x10 ∧ s.flag DBG_STATUS_FUSEDIS = false) ∧
    (∃ (s : State), s.tap.ir = 0x10 ∧ s.flag DBG_STATUS_FUSEDIS = false) ∧
    (∃ (s : State), s.tap.ir = 0x10 ∧ s.flag DBG_STATUS_FUSEDIS = false) ∧
    (∃ (s : State) (d : _), d < 2 ^ 32 ∧ s.tap.ir = 0x10 ∧ s.flag DBG_STATUS_FUSEDIS = false) ∧
    (∃ (s : State), s.tap.ir = 0x10 ∧ s.flag DBG_STATUS_FUSEDIS = false ∧ (s.reg DBG_ACCERR.base).toNat.testBit 0 = false) ∧
    (∃ (s : State) (n : _) (a : _), n < 32 ∧ a + 4 ≤ 0x100000 ∧ a % 4 = 0 ∧ s.tap.ir = 0x10 ∧ s.flag DBG_STATUS_FUSEDIS = false ∧ s.dieUnreachable (n / 16) = false) ∧
    (∃ (s : State) (n : _) (a : _), n < 32 ∧ a + 4 ≤ 0x100000 ∧ a % 4 = 0 ∧ s.tap.ir = 0x10 ∧ s.flag DBG_STATUS_FUSEDIS = false ∧ s.dieUnreachable (n / 16) = false) ∧
    (∃ (s : State) (d : _) (n : _) (a : _), d < 2 ^ 32 ∧ n < 32 ∧ a + 4 ≤ 0x100000 ∧ a % 4 = 0 ∧ s.tap.ir = 0x10 ∧ s.flag DBG_STATUS_FUSEDIS = false ∧ s.dieUnreachable (n / 16) = false) :=
  ⟨⟨tapAt 2 0, by decide +kernel⟩,
   ⟨tapAt 0x10 fusedW, by decide +kernel⟩,
   ⟨tapAt 0x10 fusedW, ⟨3, true⟩, by decide +kernel⟩,
   ⟨tapAt 0x10 0, by decide +kernel⟩,
   ⟨tapAt 0x10 0, by decide +kernel⟩,
   ⟨tapAt 0x10 0, by decide +kernel⟩,
   ⟨tapAt 0x10 0, 0xFFFFFFFF, by decide +kernel⟩,
   ⟨tapAt 0x10 0, by decide +kernel⟩,
   ⟨tapAt 0x10 0, 31, 0xFFFFC, by decide +kernel⟩,
   ⟨tapAt 0x10 0, 31, 0xFFFFC, by decide +kernel⟩,
   ⟨tapAt 0x10 0, 0x12345678, 31, 0xFFFFC, by decide +kernel⟩⟩

/-- Each clause of `Obligations.CoreDebug` has a state and operands that meet its hypotheses. -/
theorem witness_CoreDebug :
    (∃ (s : State) (rq : _), s.reaches rq DBG_CTRL.base ∧ s.flag DBG_CTRL_ATTACH = false ∧ s.flag DBG_STATUS_FUSEDIS = false) ∧
    (∃ (s : State) (rq : _), s.reaches rq DBG_CTRL.base ∧ (s.flag DBG_CTRL_ATTACH = true ∨ s.flag DBG_STATUS_FUSEDIS = true)) ∧
    (∃ (s : State) (rq : _), s.reaches rq DBG_CTRL.base ∧ s.flag DBG_CTRL_ATTACH = false) ∧
    (∃ (s : State) (rq : _), s.whole ∧ s.reaches rq DBG_CTRL.base ∧ s.flag DBG_CTRL_ATTACH = true ∧ (∀ m < 32, (s.core m).halted = true → (s.core m).hcause ≠ 5 ∧ (s.core m).wait = .none)) ∧
    (∃ (s : State) (on : _), s.reaches .host DBG_CTRL.base ∧ s.flag DBG_CTRL_SIDEFX = on) ∧
    (∃ (s : State) (on : _), s.reaches .host DBG_CTRL.base ∧ s.flag DBG_CTRL_SIDEFX ≠ on) ∧
    (∃ (s : State) (m : _) (n : _) (k : _) (c : _), s.serving = true ∧ s.flag DBG_CTRL_ATTACH = false ∧ s.flag HIF_ACCERR_VALID = false ∧ n < 32 ∧ c ∈ [Instr.dbgHaltWrite .host m, Instr.dbgResumeWrite .host m, Instr.dbgStepWrite .host n k]) ∧
    (∃ (s : State) (rq : _), s.reaches rq DBG_HALT.base ∧ s.flag DBG_CTRL_ATTACH = true) ∧
    (∃ (s : State) (rq : _) (n : _), n < 32 ∧ s.whole ∧ s.reaches rq DBG_RESUME.base ∧ s.flag DBG_CTRL_ATTACH = true ∧ (s.core n).halted = true ∧ (s.core n).hcause = 2 ∧ (s.core n).hpc = s.pc n ∧ (s.core n).wait = .none ∧ (s.core n).was = cRun) ∧
    (∃ (s : State) (rq : _) (n : _), n < 32 ∧ s.whole ∧ s.reaches rq DBG_RESUME.base ∧ s.flag DBG_CTRL_ATTACH = true ∧ (s.core n).halted = true ∧ (s.core n).hcause = 5 ∧ (s.core n).hpc = s.pc n ∧ s.pc n < 0xFFFC ∧ (s.core n).was = cRun) ∧
    (∃ (s : State) (rq : _) (m : Nat), s.reaches rq DBG_RESUME.base ∧ s.flag DBG_CTRL_ATTACH = true ∧ (∀ n < 32, m.testBit n = true → (s.core n).halted = false)) ∧
    (∃ (s : State) (rq : _) (n : _) (k : _), n < 32 ∧ k ≠ 0 ∧ s.whole ∧ s.reaches rq DBG_STEP.base ∧ s.flag DBG_CTRL_ATTACH = true ∧ (s.core n).halted = true ∧ (s.core n).hcause = 1 ∧ (s.core n).wait = .none ∧ (s.core n).was = cRun) ∧
    (∃ (s : State) (rq : _) (n : _) (k : _), n < 32 ∧ s.reaches rq DBG_STEP.base ∧ s.flag DBG_CTRL_ATTACH = true ∧ ((s.core n).halted = false ∨ k = 0)) ∧
    (∃ (s : State) (rq : _) (n : _) (i : _), s.serves rq ∧ s.fld DBG_CORESEL_CORE = n ∧ s.fld DBG_CORESEL_INDEX = i ∧ i < 32 ∧ (s.core n).halted = true) ∧
    (∃ (s : State) (rq : _) (n : _) (i : _), s.serves rq ∧ s.fld DBG_CORESEL_CORE = n ∧ s.fld DBG_CORESEL_INDEX = i ∧ i < 33 ∧ (s.core n).halted = false) ∧
    (∃ (s : State) (rq : _) (n : _) (i : _) (v : _), s.whole ∧ s.serves rq ∧ s.fld DBG_CORESEL_CORE = n ∧ s.fld DBG_CORESEL_INDEX = i ∧ 0 < i ∧ i < 32 ∧ v < 2 ^ 32 ∧ i < (s.core n).g.length ∧ (s.core n).halted = true) ∧
    (∃ (s : State) (rq : _) (n : _), s.serves rq ∧ s.fld DBG_CORESEL_CORE = n ∧ s.fld DBG_CORESEL_INDEX = 0 ∧ (s.core n).halted = true) ∧
    (∃ (s : State) (rq : _) (n : _) (i : _), s.serves rq ∧ s.fld DBG_CORESEL_CORE = n ∧ s.fld DBG_CORESEL_INDEX = i ∧ i < 33 ∧ (s.core n).halted = false) ∧
    (∃ (s : State) (rq : _) (n : _) (i : _) (v : _), s.whole ∧ s.serves rq ∧ s.fld DBG_CORESEL_CORE = n ∧ s.fld DBG_CORESEL_INDEX = i ∧ 96 ≤ i ∧ i < 100 ∧ v < 2 ^ 32 ∧ (s.core n).dbg.length = 8) ∧
    (∃ (s : State) (n : _) (c : _), n < 32 ∧ (s.core n).halted = true ∧ c ∈ [Instr.alu n, .alui n, .lui n, .oril n, .ldu n, .lds n, .st n, .bc n, .jal n, .jalr n]) :=
  ⟨⟨withRaw DBG_STATUS.base 0 rdy, .debug, by decide +kernel⟩,
   ⟨dbgOn, .host, by decide +kernel⟩,
   ⟨rdy, .hub, by decide +kernel⟩,
   ⟨halt31 1, .host, by decide +kernel⟩,
   ⟨rdy, false, by decide +kernel⟩,
   ⟨rdy, true, by decide +kernel⟩,
   ⟨rdy, 0, 31, 0, .dbgHaltWrite .host 0, by decide +kernel⟩,
   ⟨dbgOn, .debug, by decide +kernel⟩,
   ⟨halt31 2, .host, 31, by decide +kernel⟩,
   ⟨halt31 5, .debug, 31, by decide +kernel⟩,
   ⟨dbgOn.setReg DBG_HALT.base 0x80000003, .host, 0x80000001, by decide +kernel⟩,
   ⟨halt31 1, .host, 31, 1, by decide +kernel⟩,
   ⟨halt31 1, .host, 31, 0, by decide +kernel⟩,
   ⟨sel31 31 (halt31 1), .debug, 31, 31, by decide +kernel⟩,
   ⟨withRaw DBG_STATUS.base 0 (sel31 32 rdy), .host, 31, 32, by decide +kernel⟩,
   ⟨sel31 31 (halt31 1), .host, 31, 31, 0xFFFFFFFF, by decide +kernel⟩,
   ⟨sel31 0 (halt31 1), .hub, 31, by decide +kernel⟩,
   ⟨withRaw DBG_STATUS.base 0 (sel31 31 rdy), .debug, 31, 31, by decide +kernel⟩,
   ⟨sel31 99 rdy, .debug, 31, 99, 0xFFFFFFFF, by decide +kernel⟩,
   ⟨halt31 1, 31, .alu 31, by decide +kernel⟩⟩

/-- Each clause of `Obligations.StepRunsFront` has a state and operands that meet its hypotheses. -/
theorem witness_StepRunsFront :
    (∃ (s : State) (c : _) (rest : _), s.pending = c :: rest) ∧
    (∃ (s : State), s.pending = []) :=
  ⟨⟨{ rdy with pending := [.stitchBoundary, .rndSnap] }, .stitchBoundary, [.rndSnap], by decide +kernel⟩,
   ⟨rdy, by decide +kernel⟩⟩

/-- Each clause of `Obligations.StitchesAndRounds` has a state and operands that meet its hypotheses. -/
theorem witness_StitchesAndRounds :
    (∃ (s : State), s.pending = [] ∧ s.runs = true ∧ s.rnd.stitchDue = false ∧ (∀ b ∈ freeBlocks, s.committed b = false) ∧ (∀ k < 4, (s.ring k).run = none ∧ (s.ring k).taken = [])) ∧
    (∃ (s : State), s.pending = [] ∧ s.runs = false ∧ (∀ k < 4, (s.ring k).run = none ∧ (s.ring k).taken = [])) ∧
    (∃ (s : State), s.runs = false) ∧
    (∃ (s : State), s.runs = true) ∧
    (∃ (s : State), s.runs = true ∧ s.rnd.stitchDue = false ∧ s.boStage = 0 ∧ s.stitch < 1023 ∧ s.rnd.frac < 10 ^ 9 ∧ s.freq ≠ 0 ∧ s.pat.readm = none ∧ s.pat.active = none ∧ (∀ c < 48, (s.fslot c).win = none)) ∧
    (∃ (s : State), s.runs = true ∧ s.rnd.stitchDue = true ∧ s.boStage = 0 ∧ s.stitch ≠ 0 ∧ s.pat.readm = none ∧ s.pat.active = none ∧ (∀ c < 48, (s.fslot c).win = none)) ∧
    (∃ (s : State), s.runs = true ∧ s.rnd.stitchDue = false ∧ s.stitch = 1023 ∧ s.rnd.frac < 10 ^ 9 ∧ s.freq ≠ 0) :=
  ⟨⟨rdy, by decide +kernel⟩,
   ⟨State.reset, by decide +kernel⟩,
   ⟨State.reset, by decide +kernel⟩,
   ⟨rdy, by decide +kernel⟩,
   ⟨stitchN 1022, by decide +kernel⟩,
   ⟨rnd0 (stitchN 1), by decide +kernel⟩,
   ⟨stitchN 1023, by decide +kernel⟩⟩

/-- Each clause of `Obligations.EveryCommandAnswers` has a state and operands that meet its hypotheses. -/
theorem witness_EveryCommandAnswers :
    (∃ (c : Instr), WellFormed c ∧ (∀ d o b ecc, c ≠ .dbgaccUpdate d o b ⟨3, ecc⟩)) ∧
    (∃ (s : State), (s.tap.ir ≠ 0x10 ∨ s.flag DBG_STATUS_FUSEDIS = true)) :=
  ⟨⟨.roundBoundary, by decide +kernel, fun _ _ _ _ h => nomatch h⟩,
   ⟨rdy, by decide +kernel⟩⟩

/-- Each clause of `Obligations.TouchesOnly` has a state and operands that meet its hypotheses. -/
theorem witness_TouchesOnly : ∃ (c : Instr) (s : State) (t : State) (p : _), exec c s = .next t ∧ p ∉ touches c :=
  ⟨.busMasterEnableChange true true false false, rdy, nextOf (.busMasterEnableChange true true false false) rdy, .cores, rfl, by decide⟩

/-- Each clause of `Obligations.ClearKeyStays` has a state and operands that meet its hypotheses. -/
theorem witness_ClearKeyStays :
    (∃ (s t : State) (k : BitVec 256), s.sec.jck = some k ∧ step s = .next t) :=
  ⟨keyed, _, _, rfl, rfl⟩

/-- Each clause of `Obligations.UnitsKept` has a state and operands that meet its hypotheses. -/
theorem witness_UnitsKept :
    (∃ (s t : State), s.whole ∧ step s = .next t) :=
  ⟨keyed, _, by decide +kernel, rfl⟩

/-- Each clause of `Obligations.ResetValues` has a state and operands that meet its hypotheses. -/
theorem witness_ResetValues :
    (∃ (n : _), n < 32) ∧
    (∃ (p : _), p < 6) :=
  ⟨⟨0, by decide +kernel⟩,
   ⟨0, by decide +kernel⟩⟩

/-- Each clause of `Obligations.UnloadedStores` has a state and operands that meet its hypotheses. -/
theorem witness_UnloadedStores :
    (∃ (s : State) (c : _), c ∈ [Instr.powerOnReset, .pinReset, .hostReset, .debugReset] ∧ s.binding = false ∧ s.boStage ≠ 6 ∧ (c = .pinReset → s.castPhase ≠ 0)) ∧
    (∃ (s : State), s.boStage = 6 ∧ s.boot.trig ≠ 2) ∧
    (∃ (s : State) (n : _) (c : _), n < 32 ∧ s.whole ∧ s.canIssue n = true ∧ s.fetch n = 0xFFFFFFFF ∧ c ∈ [Instr.alu n, .alui n, .lui n, .oril n, .ldu n, .lds n, .st n, .bc n, .jal n, .jalr n, .send n, .recv n, .movd n, .done n, .csrr n, .brk n]) :=
  ⟨⟨rdy, .pinReset, by decide +kernel⟩,
   ⟨stg 6, by decide +kernel⟩,
   ⟨rdy.setFld CORE_STATUS_STATE 1 31, 31, .alu 31, by decide +kernel⟩⟩

/-- Each clause of `Obligations.StartDiscardsTheBlock` has a state and operands that meet its hypotheses. -/
theorem witness_StartDiscardsTheBlock :
    (∃ (s : State) (u : _), s.whole ∧ u < 8 ∧ s.reaches .host (CHK_CTRL.at u)) ∧
    (∃ (s : State) (r : State) (u : _), u < 8 ∧ s.serves .host ∧ r = s.setReg (CHK_CTRL.at u) (s.reg (CHK_CTRL.at u))) ∧
    (∃ (s : State) (u : _), s.whole ∧ u < 8 ∧ s.serves .host ∧ s.live CHK_CFG_MODE u = 0 ∧ s.chkReject u = 0) :=
  ⟨⟨ck, 7, by decide +kernel⟩,
   ⟨ck, ck.setReg (CHK_CTRL.at 7) (ck.reg (CHK_CTRL.at 7)), 7, by decide +kernel⟩,
   ⟨ck, 7, by decide +kernel⟩⟩

/-- Each clause of `Obligations.AdmissionEnds` has a state and operands that meet its hypotheses. -/
theorem witness_AdmissionEnds :
    (∃ (s : State) (bs : _), s.pat.img = some bs ∧ s.frozenAdm = false ∧ s.pat.readm = none) ∧
    (∃ (s : State), s.reaches .host PAT_CTRL.base ∧ s.admitting = true) ∧
    (∃ (s : State) (a : _) (im : _) (lo : _) (hi : _), s.atRound = true ∧ s.pat.deactFirst = false ∧ s.pat.act = some a ∧ s.pat.admitted = some (im, lo, hi) ∧ s.actEligible a = true ∧ s.bandNow ≠ (lo, hi)) :=
  ⟨⟨adm img, img, by decide +kernel⟩,
   ⟨adm img, by decide +kernel⟩,
   ⟨acting 0, 0, pat1, 0, rdy.bandNow.2, by decide +kernel⟩⟩

end Sys2Proof.Tests
end

section
/-! Proofs/StitchesAndRounds.lean: why `Obligations.StitchesAndRounds` (O52) fails. Its fifth clause says that every core's DEADLINE budget is 0 once a
stitch has begun with no Pattern active. The budget of a stitch (R222) also counts the streams of deactivated Patterns that still drain (R65), and the
clause does not ask that there be none. -/

namespace Sys2Proof.Machine
open Sys2Proof Sys2Proof.Machine.Reg

/-- An image reduced to what R222 reads: one stream of one unit that core 0 sends in stitch 1. -/
def oneStreamImage : Image :=
  { rounds := 1, cont := 0, floors := List.replicate 32 0, jobs := [],
    streams := [{ producer := 0, consumer := 0, src := 0, dst := 1, bytes := 64, send := 1, due := 2, dep := false }] }

/-- READY at the start of stitch 0, with no Pattern active and `oneStreamImage` still draining. -/
def drainingWithoutActive : State :=
  (State.reset.setFld PWR_CASTON_PHASE 7).modPat (fun p => { p with
    drains := [{ gen := 0, im := oneStreamImage, shed := [], floors := [], cnt := 0 }] })

/-- STITCH_BOUNDARY answers the state in which the next stitch has opened. -/
theorem exec_stitchBoundary (s : State) : exec .stitchBoundary s = .next s.nextStitch := rfl

/-- The state meets every hypothesis of the fifth clause on the time base and on bind-off. -/
theorem drainingWithoutActive_inStitch0 : let s := drainingWithoutActive
    s.runs = true ∧ s.rnd.stitchDue = false ∧ s.boStage = 0 ∧ s.stitch < 1023 ∧ s.rnd.frac < 10 ^ 9 ∧ s.freq ≠ 0 := by
  decide +kernel

/-- Nothing is admitted anew, no Pattern is active and the Framer has no window open. -/
theorem drainingWithoutActive_idle : let s := drainingWithoutActive
    s.pat.readm = none ∧ s.pat.active = none ∧ ∀ c < 48, (s.fslot c).win = none := by
  decide +kernel

/-- In stitch 1 core 0 is given the unit of the stream that drains (R65, R222). -/
theorem drainingWithoutActive_budget : (drainingWithoutActive.nextStitch.core 0).budget = 1 := by decide +kernel

/-- Refutes O52 by its fifth clause: in `drainingWithoutActive` no Pattern is active, and the stitch that begins still loads core 0 with a budget of 1,
the share of the deactivated Pattern in `pat.drains`, where the clause says 0. The clause lacks the hypothesis `s.pat.drains = []`. The state is a
counterexample because the clause speaks of every state; nothing here says that a run from reset comes to it (`releasePattern` empties `drains`
before it clears `active`). -/
theorem not_stitchesAndRounds : ¬ Obligations.StitchesAndRounds := by
  unfold Obligations.StitchesAndRounds
  rintro ⟨-, -, -, -, nextStitchBegins, -, -⟩
  obtain ⟨hruns, hdue, hbo, hstitch, hfrac, hfreq⟩ := drainingWithoutActive_inStitch0
  obtain ⟨hreadm, hactive, hwin⟩ := drainingWithoutActive_idle
  obtain ⟨t, hexec, -, -, -, -, hbudget⟩ :=
    nextStitchBegins drainingWithoutActive hruns hdue hbo hstitch hfrac hfreq hreadm hactive hwin
  have ht : drainingWithoutActive.nextStitch = t := by
    simpa [exec_stitchBoundary] using hexec
  have hzero : (drainingWithoutActive.nextStitch.core 0).budget = 0 := ht ▸ hbudget 0 (by decide)
  simp [drainingWithoutActive_budget] at hzero

end Sys2Proof.Machine
end

section
/-! Proofs/PurlLinks.lean: frames replayed, retraining and its end on the Purl links (`Obligations.PurlLinks`, O20): what a count and a report leave of
the registers of block PURL, what a link that begins to retrain shows, and the outcome of the two commands case by case. -/

namespace Sys2Proof.Machine
open Sys2Proof Sys2Proof.Machine.Reg

/-! ### Association lists, fields and counts -/

theorem look_bind_same {α : Type} (l : List (Nat × α)) (k : Nat) (v : α) : look (bind l k v) k = some v := by
  unfold bind
  induction l with
  | nil => simp [sparseInsert, look]
  | cons p rest ih =>
    obtain ⟨key, w⟩ := p
    unfold sparseInsert
    split
    · simp [look]
    · split
      · simp [look]
      · have hkey : key ≠ k := by omega
        simpa [look, hkey] using ih

/-- A field reads the same where its register does. -/
theorem fld_of_reg_eq {s t : State} {f : Fld} {i j : Nat} (h : t.reg (f.rg.at i j) = s.reg (f.rg.at i j)) : t.fld f i j = s.fld f i j := by
  simp [State.fld, h]

theorem reg_modMesh (s : State) (f : Mesh → Mesh) (a : Nat) : (s.modMesh f).reg a = s.reg a := rfl
theorem fld_modMesh (s : State) (f : Mesh → Mesh) (g : Fld) (i j : Nat) : (s.modMesh f).fld g i j = s.fld g i j := rfl

/-- What `State.counted` says of a count. -/
theorem fld_count_same (s : State) (f : Fld) (n i : Nat) (h : f.lo + f.w ≤ 32) : (s.count f n i).fld f i = s.counted f i n := by
  have hlt : min (s.fld f i + n) (2 ^ f.w - 1) < 2 ^ f.w := by
    have := Nat.two_pow_pos f.w
    omega
  rw [State.count, fld_setFld _ _ _ _ _ h, Nat.mod_eq_of_lt hlt, State.counted]

/-- A count is not seen in a field beside the counting one, nor in one of another register. -/
theorem fld_count_disj {s : State} {f g : Fld} {n i j i' j' : Nat} (h : f.lo + f.w ≤ 32) (hd : g.lo + g.w ≤ f.lo ∨ f.lo + f.w ≤ g.lo) :
    (s.count f n i j).fld g i' j' = s.fld g i' j' := fld_setFld_disj h hd
theorem fld_count_ne {s : State} {f g : Fld} {n i j i' j' : Nat} (h : g.rg.at i' j' ≠ f.rg.at i j) :
    (s.count f n i j).fld g i' j' = s.fld g i' j' := fld_setFld_ne h

/-! ### Reports of the mesh and the registers of block PURL -/

theorem purlStat_at (l : Nat) : PURL_STAT.at l = 0x401010 + 0x10 * l := rfl
theorem purlCnt_at (l : Nat) : PURL_CNT.at l = 0x401014 + 0x10 * l := rfl
theorem purlStat_ne_cnt (k l : Nat) : PURL_STAT.at k ≠ PURL_CNT.at l := by rw [purlStat_at, purlCnt_at]; omega

/-- The thresholds in force read the same where the register that holds them does. -/
theorem purlCfg_live_of_reg_eq {s t : State} {f : Fld} (hf : f.rg = PURL_CFG) (h : t.reg 0x401800 = s.reg 0x401800) : t.live f = s.live f := by
  simp [State.live, hf, Rg.at, PURL_CFG, h]

theorem meshEvent_quiet : quiet MESH_EVENT.base := by decide

/-- A report of the mesh changes no register from block PURL on. -/
theorem meshReport_reg {s : State} {b sev src a : Nat} (ha : 0x401000 ≤ a) : (s.meshReport b sev src).reg a = s.reg a :=
  report_reg (by decide) ((quiet_def a).2 (by omega)) (by simp only [MESH_EVENT]; omega)
theorem meshReport_fld_stat {s : State} {f : Fld} {b sev src l : Nat} (hf : f.rg = PURL_STAT) :
    (s.meshReport b sev src).fld f l = s.fld f l := fld_of_reg_eq (meshReport_reg (by rw [hf, purlStat_at]; omega))
theorem meshReport_fld_cnt {s : State} {f : Fld} {b sev src l : Nat} (hf : f.rg = PURL_CNT) :
    (s.meshReport b sev src).fld f l = s.fld f l := fld_of_reg_eq (meshReport_reg (by rw [hf, purlCnt_at]; omega))

theorem meshReport_evt {s : State} {b sev src : Nat} (hb : b < 32) : (s.meshReport b sev src).evt MESH_EVENT b :=
  report_bit (by decide) meshEvent_quiet hb
theorem meshReport_evt_mono {s : State} {b sev src n : Nat} (hb : b < 32) (hn : s.evt MESH_EVENT n) : (s.meshReport b sev src).evt MESH_EVENT n :=
  report_bit_mono (by decide) meshEvent_quiet hb hn

/-! ### A link begins to retrain (R225) -/

theorem retrain_state (s : State) (l : Nat) : (s.retrain l).fld PURL_STAT_STATE l = 1 := by
  rw [State.retrain, meshReport_fld_stat rfl, fld_count_ne (purlStat_ne_cnt l l), fld_setFld _ _ _ _ _ (by decide)]
  rfl
theorem retrain_fails (s : State) (l : Nat) : (s.retrain l).fld PURL_STAT_FAILS l = s.fld PURL_STAT_FAILS l := by
  rw [State.retrain, meshReport_fld_stat rfl, fld_count_ne (purlStat_ne_cnt l l), fld_setFld_disj (by decide) (by decide)]
theorem retrain_count (s : State) (l : Nat) : (s.retrain l).fld PURL_CNT_RETRAIN l = s.counted PURL_CNT_RETRAIN l := by
  have hcnt : (s.setFld PURL_STAT_STATE 1 l).fld PURL_CNT_RETRAIN l = s.fld PURL_CNT_RETRAIN l := fld_setFld_ne (purlStat_ne_cnt l l).symm
  rw [State.retrain, meshReport_fld_cnt rfl, fld_count_same _ _ _ _ (by decide), State.counted, hcnt, State.counted]
theorem retrain_evt (s : State) (l : Nat) : (s.retrain l).evt MESH_EVENT 1 := meshReport_evt (by decide)
theorem retrain_evt_mono {s : State} {l n : Nat} (h : s.evt MESH_EVENT n) : (s.retrain l).evt MESH_EVENT n := by
  have hstat : MESH_EVENT.base ≠ PURL_STAT.at l := by rw [purlStat_at]; simp only [MESH_EVENT]; omega
  have hcnt : MESH_EVENT.base ≠ PURL_CNT.at l := by rw [purlCnt_at]; simp only [MESH_EVENT]; omega
  refine meshReport_evt_mono (by decide) ?_
  rw [State.evt, reg_count_ne hcnt, reg_setFld_ne hstat]
  exact h

/-! ### PURL_CRC_FAIL (R24, R225) -/

/-- The replays of link `l` in this round, with the one that a frame failing now adds. -/
def State.replaysNow (s : State) (l : Nat) : Nat := (look s.mesh.replays l).getD 0 + 1

/-- A frame of link `l` has been replayed: it is counted in PURL_CNT_l and among the round's replays. -/
def State.replayed (s : State) (l : Nat) : State :=
  (s.count PURL_CNT_REPLAY 1 l).modMesh (fun m => { m with replays := bind m.replays l (s.replaysNow l) })

theorem replayed_reg_ne {s : State} {l a : Nat} (h : a ≠ PURL_CNT.at l) : (s.replayed l).reg a = s.reg a := by
  rw [State.replayed, reg_modMesh, reg_count_ne h]
theorem replayed_sameRegsBut (s : State) (l : Nat) : sameRegsBut [PURL_CNT.at l] s (s.replayed l) :=
  fun _ ha => replayed_reg_ne (List.ne_of_not_mem_cons ha)
theorem replayed_state (s : State) (l : Nat) : (s.replayed l).fld PURL_STAT_STATE l = s.fld PURL_STAT_STATE l :=
  fld_of_reg_eq (replayed_reg_ne (purlStat_ne_cnt l l))
theorem replayed_count (s : State) (l : Nat) : (s.replayed l).fld PURL_CNT_REPLAY l = s.counted PURL_CNT_REPLAY l := by
  rw [State.replayed, fld_modMesh, fld_count_same _ _ _ _ (by decide)]
theorem replayed_retrains (s : State) (l : Nat) : (s.replayed l).fld PURL_CNT_RETRAIN l = s.fld PURL_CNT_RETRAIN l := by
  rw [State.replayed, fld_modMesh, fld_count_disj (by decide) (by decide)]
theorem replayed_replays (s : State) (l : Nat) : look (s.replayed l).mesh.replays l = some (s.replaysNow l) := look_bind_same _ _ _
theorem replayed_rpthr (s : State) (l : Nat) : (s.replayed l).live PURL_CFG_RPTHR = s.live PURL_CFG_RPTHR :=
  purlCfg_live_of_reg_eq rfl (replayed_reg_ne (by rw [purlCnt_at]; omega))

/-- A link in service whose frame fails: a replay, and above RPTHR a report and a retraining. -/
theorem exec_purlCrcFail_up {s : State} {l : Nat} (hl : l < 6) (h : s.fld PURL_STAT_STATE l = 2) :
    exec (.purlCrcFail l) s =
      if s.live PURL_CFG_RPTHR < s.replaysNow l then .next (((s.replayed l).meshReport 0 4 (purlLink l)).retrain l) else .next (s.replayed l) := by
  rw [← replayed_rpthr s l]
  simp only [exec, execPurlCrcFail, onUnit, if_pos hl, if_pos h]
  rfl
theorem exec_purlCrcFail_not_up {s : State} {l : Nat} (hl : l < 6) (h : s.fld PURL_STAT_STATE l ≠ 2) : exec (.purlCrcFail l) s = .next s := by
  simp only [exec, execPurlCrcFail, onUnit, if_pos hl, if_neg h]

/-- Clause 1 of `Obligations.PurlLinks`: up to RPTHR replays in a round a link in service replays and counts. -/
theorem purlCrcFail_replays {s : State} {l : Nat} (hl : l < 6) (h : s.fld PURL_STAT_STATE l = 2) (hn : s.replaysNow l ≤ s.live PURL_CFG_RPTHR) :
    Does (.purlCrcFail l) s (fun t => t.fld PURL_STAT_STATE l = 2 ∧ t.fld PURL_CNT_REPLAY l = s.counted PURL_CNT_REPLAY l ∧
      look t.mesh.replays l = some (s.replaysNow l) ∧ sameRegsBut [PURL_CNT.at l] s t) := by
  refine ⟨s.replayed l, ?_, ?_, replayed_count s l, replayed_replays s l, replayed_sameRegsBut s l⟩
  · rw [exec_purlCrcFail_up hl h, if_neg (by omega)]
  · rw [replayed_state, h]

/-- Clause 2 of `Obligations.PurlLinks`: above RPTHR replays in a round the link retrains, and both are reported. -/
theorem purlCrcFail_retrains {s : State} {l : Nat} (hl : l < 6) (h : s.fld PURL_STAT_STATE l = 2) (hn : s.live PURL_CFG_RPTHR < s.replaysNow l) :
    Does (.purlCrcFail l) s (fun t => t.fld PURL_STAT_STATE l = 1 ∧ t.fld PURL_CNT_RETRAIN l = s.counted PURL_CNT_RETRAIN l ∧
      t.evt MESH_EVENT 0 ∧ t.evt MESH_EVENT 1) := by
  refine ⟨((s.replayed l).meshReport 0 4 (purlLink l)).retrain l, ?_, retrain_state _ l, ?_, ?_, retrain_evt _ l⟩
  · rw [exec_purlCrcFail_up hl h, if_pos hn]
  · rw [retrain_count, State.counted, meshReport_fld_cnt rfl, replayed_retrains, State.counted]
  · exact retrain_evt_mono (meshReport_evt (by decide))

/-! ### PURL_RETRAIN_DONE (R225) -/

theorem pumpAdds_of_no_adds {s : State} {n : Nat} (h : (s.core n).adds = []) : s.pumpAdds n = s := by
  simp [State.pumpAdds, h]

/-- With the way clear nothing waits that could go on. -/
theorem pumpMesh_of_wayClear {s : State} (h : s.wayClear) : s.pumpMesh = s := by
  obtain ⟨hstray, hadds⟩ := h
  have hcores : ∀ l : List Nat, (∀ n ∈ l, n < 32) → l.foldl (fun s n => s.pumpAdds n) s = s := by
    intro l hl
    induction l with
    | nil => rfl
    | cons n rest ih =>
      obtain ⟨hn, hrest⟩ := List.forall_mem_cons.1 hl
      rw [List.foldl_cons, pumpAdds_of_no_adds (hadds n hn), ih hrest]
  simp only [State.pumpMesh, hstray, List.foldl_nil]
  exact hcores _ fun n hn => List.mem_range.1 hn

/-- Link `l` is in service again. -/
def State.purlUp (s : State) (l : Nat) : State := (s.setFld PURL_STAT_STATE 2 l).setFld PURL_STAT_FAILS 0 l

theorem purlUp_state (s : State) (l : Nat) : (s.purlUp l).fld PURL_STAT_STATE l = 2 := by
  rw [State.purlUp, fld_setFld_disj (by decide) (by decide), fld_setFld _ _ _ _ _ (by decide)]
  rfl
theorem purlUp_fails (s : State) (l : Nat) : (s.purlUp l).fld PURL_STAT_FAILS l = 0 := by
  rw [State.purlUp, fld_setFld _ _ _ _ _ (by decide), Nat.zero_mod]
theorem purlUp_sameRegsBut (s : State) (l : Nat) : sameRegsBut [PURL_STAT.at l] s (s.purlUp l) := fun a ha => by
  have hne : a ≠ PURL_STAT.at l := List.ne_of_not_mem_cons ha
  rw [State.purlUp, reg_setFld_ne hne, reg_setFld_ne hne]

theorem exec_purlRetrainDone_not_retraining {s : State} {l : Nat} {ok : Bool} (hl : l < 6) (h : s.fld PURL_STAT_STATE l ≠ 1) :
    exec (.purlRetrainDone l ok) s = .next s := by
  simp only [exec, execPurlRetrainDone, onUnit, if_pos hl, if_pos h]
theorem exec_purlRetrainDone_ok {s : State} {l : Nat} (hl : l < 6) (h : s.fld PURL_STAT_STATE l = 1) :
    exec (.purlRetrainDone l true) s = .next (s.purlUp l).pumpMesh := by
  simp only [exec, execPurlRetrainDone, onUnit, if_pos hl, if_neg (not_not_intro h), if_true]
  rfl

theorem setFails_rtmax (s : State) (v : Nat) {l : Nat} (hl : l < 6) : (s.setFld PURL_STAT_FAILS v l).live PURL_CFG_RTMAX = s.live PURL_CFG_RTMAX := by
  have ha : 0x401800 ≠ PURL_STAT.at l := by rw [purlStat_at]; omega
  exact purlCfg_live_of_reg_eq rfl (reg_setFld_ne ha)

/-- A failure below RTMAX: it is counted and the link retrains again. -/
theorem exec_purlRetrainDone_again {s : State} {l : Nat} (hl : l < 6) (h : s.fld PURL_STAT_STATE l = 1)
    (hn : s.fld PURL_STAT_FAILS l + 1 < s.live PURL_CFG_RTMAX) :
    exec (.purlRetrainDone l false) s = .next ((s.setFld PURL_STAT_FAILS (s.fld PURL_STAT_FAILS l + 1) l).retrain l) := by
  simp only [exec, execPurlRetrainDone, onUnit, if_pos hl, if_neg (not_not_intro h), Bool.false_eq_true, if_false, setFails_rtmax _ _ hl,
    if_neg (Nat.not_le.2 hn)]

/-- Clause 4 of `Obligations.PurlLinks`: a retraining that succeeds puts the link in service. -/
theorem purlRetrainDone_ok {s : State} {l : Nat} (hl : l < 6) (h : s.fld PURL_STAT_STATE l = 1) (hway : s.wayClear) :
    Does (.purlRetrainDone l true) s (fun t => t.fld PURL_STAT_STATE l = 2 ∧ t.fld PURL_STAT_FAILS l = 0 ∧ sameRegsBut [PURL_STAT.at l] s t) := by
  refine ⟨s.purlUp l, ?_, purlUp_state s l, purlUp_fails s l, purlUp_sameRegsBut s l⟩
  have hup : (s.purlUp l).wayClear := hway
  rw [exec_purlRetrainDone_ok hl h, pumpMesh_of_wayClear hup]

/-- Clause 5 of `Obligations.PurlLinks`: after a failure below RTMAX, which FAILS can hold, the link retrains again. -/
theorem purlRetrainDone_again {s : State} {l : Nat} (hl : l < 6) (h : s.fld PURL_STAT_STATE l = 1)
    (hn : s.fld PURL_STAT_FAILS l + 1 < s.live PURL_CFG_RTMAX) :
    Does (.purlRetrainDone l false) s (fun t => t.fld PURL_STAT_STATE l = 1 ∧ t.fld PURL_STAT_FAILS l = s.fld PURL_STAT_FAILS l + 1 ∧
      t.fld PURL_CNT_RETRAIN l = s.counted PURL_CNT_RETRAIN l) := by
  refine ⟨_, exec_purlRetrainDone_again hl h hn, retrain_state _ l, ?_, ?_⟩
  · have hmax : s.live PURL_CFG_RTMAX < 2 ^ 3 := bits_lt _ _ _
    rw [retrain_fails, fld_setFld _ _ _ _ _ (by decide)]
    exact Nat.mod_eq_of_lt (hn.trans hmax)
  · rw [retrain_count, State.counted, fld_setFld_ne (purlStat_ne_cnt l l).symm, State.counted]

/-- Settles O20: PURL_CRC_FAIL replays, retrains the link or leaves it alone by PURL_STAT_l.STATE and RPTHR, and PURL_RETRAIN_DONE ends the retraining or
begins the next by its outcome and RTMAX. -/
theorem purlLinks : Obligations.PurlLinks := by
  unfold Obligations.PurlLinks
  refine ⟨?_, ?_, ?_, ?_, ?_, ?_⟩
  · exact fun s l hl hup hn => purlCrcFail_replays hl hup hn
  · exact fun s l hl hup hn => purlCrcFail_retrains hl hup hn
  · exact fun s l hl hup => exec_purlCrcFail_not_up hl hup
  · exact fun s l hl hretrains hway => purlRetrainDone_ok hl hretrains hway
  · exact fun s l hl hretrains hn => purlRetrainDone_again hl hretrains hn
  · exact fun s l hl ok hretrains => exec_purlRetrainDone_not_retraining hl hretrains

end Sys2Proof.Machine
end

section
/-! Proofs/RoundEngine.lean: what the operations of the Round engine change and what they leave. Reports, the output, the transitions of Table 2.1 and
the band check touch the engine's own registers alone, add events, and pass no time; of RND_STATUS each changes a few fields. -/

namespace Sys2Proof.Machine
open Sys2Proof Sys2Proof.Machine.Reg

-- As in the files of Laws/: proofs elaborated side by side take the joined text past its memory limit.
set_option Elab.async false

/-! ### What an operation of the engine moves -/

/-- The registers of the engine in which its state, its output and its reports show. Time, staged sets and RND_CTRL are none of them. -/
def roundRegs : List Nat := [RND_STATUS.base, RND_EVENT.base, RND_FREQ.base, RND_PHERR.base, RND_STATS.base] ++ reportRegs

/-- Two fields share no bit. -/
abbrev Fld.beside (f g : Fld) : Prop := f.lo + f.w ≤ g.lo ∨ g.lo + g.w ≤ f.lo

/-- A field of RND_STATUS beside those of `m`. -/
abbrev StatusBeside (m : List Fld) (f : Fld) : Prop := f.rg = RND_STATUS ∧ ∀ g ∈ m, f.beside g

/-- From `s` to `t` the engine moves: of RND_STATUS only the fields of `m` differ, of the other registers only `roundRegs`, no event is lost, and the
rounds are not counted on. -/
structure RoundMoves (m : List Fld) (s t : State) : Prop where
  status : ∀ f, StatusBeside m f → t.fld f = s.fld f
  regs : sameRegsBut roundRegs s t
  events : ∀ n, s.evt RND_EVENT n → t.evt RND_EVENT n
  wraps : t.rnd.wraps = s.rnd.wraps

namespace RoundMoves
variable {m m' : List Fld} {s t u : State}

theorem refl (m : List Fld) (s : State) : RoundMoves m s s := ⟨fun _ _ => rfl, fun _ _ => rfl, fun _ h => h, rfl⟩

theorem mono (h : RoundMoves m s t) (hm : ∀ f ∈ m, f ∈ m') : RoundMoves m' s t where
  status f hf := h.status f ⟨hf.1, fun g hg => hf.2 g (hm g hg)⟩
  regs := h.regs
  events := h.events
  wraps := h.wraps

theorem trans (h : RoundMoves m s t) (g : RoundMoves m' t u) : RoundMoves (m ++ m') s u where
  status f hf := (g.status f ⟨hf.1, fun x hx => hf.2 x (List.mem_append_right _ hx)⟩).trans
    (h.status f ⟨hf.1, fun x hx => hf.2 x (List.mem_append_left _ hx)⟩)
  regs a ha := (g.regs a ha).trans (h.regs a ha)
  events n hn := g.events n (h.events n hn)
  wraps := g.wraps.trans h.wraps

/-- Whichever way a choice goes, the fields of `m` are all that moves. -/
theorem ite {c : Prop} [Decidable c] (h : RoundMoves m s t) (g : RoundMoves m s u) : RoundMoves m s (if c then t else u) := by
  split
  · exact h
  · exact g

/-- A register that is none of the engine's reads the same. -/
theorem reg (h : RoundMoves m s t) {a : Nat} (ha : a ∉ roundRegs := by decide) : t.reg a = s.reg a := h.regs a ha
theorem fld (h : RoundMoves m s t) {f : Fld} (hf : StatusBeside m f := by decide) : t.fld f = s.fld f := h.status f hf
theorem rstate (h : RoundMoves m s t) (hf : StatusBeside m RND_STATUS_STATE := by decide) : t.rstate = s.rstate := h.status _ hf

theorem flag (h : RoundMoves m s t) {f : Fld} (hf : StatusBeside m f := by decide) : t.flag f = s.flag f := by
  rw [State.flag, h.fld hf, State.flag]
theorem holdForced (h : RoundMoves m s t) : t.fld RND_CTRL_HOLD_FORCE = s.fld RND_CTRL_HOLD_FORCE := fld_of_reg_eq h.reg

theorem phase (h : RoundMoves m s t) : t.phase = s.phase := congrArg BitVec.toNat h.reg
theorem roundNo (h : RoundMoves m s t) : t.roundNo = s.roundNo := by
  have hlo : t.regN RND_COUNT_LO = s.regN RND_COUNT_LO := congrArg BitVec.toNat h.reg
  have hhi : t.fld RND_COUNT_HI_COUNT = s.fld RND_COUNT_HI_COUNT := fld_of_reg_eq h.reg
  rw [State.roundNo, State.count48, hlo, hhi, h.wraps, State.roundNo, State.count48]
/-- The engine's moves pass no time. -/
theorem absPhase (h : RoundMoves m s t) : t.absPhase = s.absPhase := by rw [State.absPhase, h.roundNo, h.phase, State.absPhase]

/-! ### The single moves -/

theorem setStatus {f : Fld} (v : Nat) (hf : f.rg = RND_STATUS := by rfl) (hw : f.lo + f.w ≤ 32 := by decide) :
    RoundMoves [f] s (s.setFld f v) where
  status g hg := fld_setFld_disj hw (hg.2 f (List.mem_singleton.2 rfl))
  regs a ha := reg_setFld_ne fun he => ha (by subst he; rw [hf]; decide)
  events n hn := by
    have hne : RND_EVENT.base ≠ f.rg.at := by rw [hf]; decide
    rw [State.evt, reg_setFld_ne hne]
    exact hn
  wraps := rfl

theorem roundRegs_of_mem : ∀ a ∈ [RND_FREQ.base, RND_PHERR.base, RND_STATS.base], a ∈ roundRegs := by decide

/-- A write of RND_FREQ, RND_PHERR or RND_STATS. -/
theorem setReg {a : Nat} (v : Word) (ha : a ∈ [RND_FREQ.base, RND_PHERR.base, RND_STATS.base] := by decide) : RoundMoves [] s (s.setReg a v) where
  status f hf := by
    have hne : f.rg.at ≠ a := by
      rw [hf.1]
      revert a
      decide
    exact fld_setReg_ne hne
  regs b hb := reg_setReg_ne fun he => hb (he ▸ roundRegs_of_mem a ha)
  events n hn := by
    have hne : RND_EVENT.base ≠ a := by
      revert a
      decide
    rw [State.evt, reg_setReg_ne hne]
    exact hn
  wraps := rfl

theorem modRnd {f : Rnd → Rnd} (h : (f s.rnd).wraps = s.rnd.wraps := by rfl) : RoundMoves [] s (s.modRnd f) :=
  ⟨fun _ _ => rfl, fun _ _ => rfl, fun _ h => h, h⟩

end RoundMoves

/-! ### Numbers of `w` bits -/

theorem uInt_lt (w : Nat) (v : Int) : uInt w v < 2 ^ w := by
  have hpos : (0 : Int) < ((2 ^ w : Nat) : Int) := by positivity
  rw [uInt, Int.toNat_lt (Int.emod_nonneg _ hpos.ne')]
  exact Int.emod_lt_of_pos _ hpos

/-! ### Events of Table 2.7 -/

theorem rndEvent_rnd (s : State) (b sev before : Nat) : (s.rndEvent b sev before).rnd = s.rnd :=
  (State.rndEvent_only s b sev before s (m' := 8458753)).2 (Only.refl _ s) .rnd (by decide)

theorem rndEvent_reg {s : State} {b sev before a : Nat} (hq : quiet a) (ha : a ≠ RND_EVENT.base) : (s.rndEvent b sev before).reg a = s.reg a :=
  report_reg (by decide) hq ha

theorem rndEvent_moves (s : State) (b sev before : Nat) (hb : b < 32 := by decide) : RoundMoves [] s (s.rndEvent b sev before) where
  status f hf := by
    have hat : f.rg.at = RND_STATUS.base := by rw [hf.1]; rfl
    exact fld_of_reg_eq (rndEvent_reg (by rw [hat]; decide) (by rw [hat]; decide))
  regs a ha := rndEvent_reg (fun h => ha (List.mem_append_right _ h)) fun h => ha (by subst h; decide)
  events n hn := report_bit_mono (by decide) (by decide) hb hn
  wraps := by rw [rndEvent_rnd]

theorem rndEvent_evt (s : State) (b sev before : Nat) (hb : b < 32 := by decide) : (s.rndEvent b sev before).evt RND_EVENT b :=
  report_bit (by decide) (by decide) hb

/-! ### The output, and transitions of the engine (Table 2.1) -/

theorem setOutput_moves (s : State) : RoundMoves [RND_STATUS_SLEW_HELD] s s.setOutput := (RoundMoves.setStatus _).trans (RoundMoves.setReg _)

theorem goRnd_rnd (s : State) (st : Nat) : (s.goRnd st).rnd = s.rnd := rfl
theorem goRnd_moves (s : State) (st : Nat) : RoundMoves [RND_STATUS_STATE, RND_STATUS_SLEW_HELD] s (s.goRnd st) :=
  (RoundMoves.setStatus _).trans (setOutput_moves _)
theorem goRnd_rstate (s : State) {st : Nat} (h : st < 8 := by decide) : (s.goRnd st).rstate = st := by
  rw [State.goRnd, (setOutput_moves _).rstate, State.rstate, fld_setFld _ _ _ _ _ (by decide)]
  exact Nat.mod_eq_of_lt h

theorem setBase_moves (s : State) (f : Nat) : RoundMoves [RND_STATUS_SLEW_HELD] s (s.setBase f) := (RoundMoves.modRnd).trans (setOutput_moves _)

theorem startSlew_moves (s : State) (e : Int) : RoundMoves [RND_STATUS_STATE, RND_STATUS_SLEW_HELD] s (s.startSlew e) :=
  ((RoundMoves.setReg _).trans RoundMoves.modRnd).trans (goRnd_moves _ _)
theorem startSlew_rstate (s : State) (e : Int) : (s.startSlew e).rstate = 4 := goRnd_rstate _

theorem checkBand_moves (s : State) : RoundMoves [RND_STATUS_OUTBAND] s s.checkBand := by
  unfold State.checkBand
  split
  · exact .ite ((RoundMoves.setStatus _).trans (rndEvent_moves _ _ _ _))
      (.ite ((RoundMoves.setStatus _).trans (rndEvent_moves _ _ _ _)) (.refl _ _))
  · exact .refl _ _

/-! ### Candidates -/

/-- The bit of RND_STATUS that shows candidate `v` qualified. -/
def qualFld (v : Bool) : Fld := if v then RND_STATUS_VQUAL else RND_STATUS_ZQUAL

theorem qualified_eq (s : State) (v : Bool) : s.qualified v = s.flag (qualFld v) := by cases v <;> rfl
theorem RoundMoves.qualified {m : List Fld} {s t : State} (h : RoundMoves m s t) {v : Bool} (hf : StatusBeside m (qualFld v)) :
    t.qualified v = s.qualified v := by rw [qualified_eq, h.flag hf, qualified_eq]

/-! ### The end of a reference (R33, R40) -/

theorem toHold_moves (s : State) : RoundMoves [RND_STATUS_REF_ACT, RND_STATUS_STATE, RND_STATUS_SLEW_HELD] s s.toHold := by
  have fall (f st : Nat) : RoundMoves _ s (((s.setFld RND_STATUS_REF_ACT 0).setBase f).goRnd st) :=
    ((RoundMoves.setStatus _).trans (setBase_moves _ _)).trans (goRnd_moves _ _)
  exact .ite (((fall _ _).trans (rndEvent_moves _ _ _ _)).mono (by decide)) ((fall _ _).mono (by decide))

theorem toHold_qualified (s : State) (v : Bool) : s.toHold.qualified v = s.qualified v := (toHold_moves s).qualified (by revert v; decide)

theorem toHold_refAct (s : State) : s.toHold.fld RND_STATUS_REF_ACT = 0 := by
  have fall (f st : Nat) : (((s.setFld RND_STATUS_REF_ACT 0).setBase f).goRnd st).fld RND_STATUS_REF_ACT = 0 := by
    rw [(goRnd_moves _ _).fld, (setBase_moves _ _).fld, fld_setFld _ _ _ _ _ (by decide), Nat.zero_mod]
  unfold State.toHold
  dsimp only
  split
  · rw [(rndEvent_moves _ _ _ _).fld, fall]
  · exact fall _ _

/-- An engine that has been LOCKED holds over. -/
theorem toHold_of_everLocked {s : State} (h : s.flag RND_STATUS_EVER_LOCKED = true) : s.toHold.rstate = 3 ∧ s.toHold.evt RND_EVENT 3 := by
  rw [State.toHold, if_pos h]
  refine ⟨?_, rndEvent_evt _ _ _ _⟩
  rw [(rndEvent_moves _ _ _ _).rstate]
  exact goRnd_rstate _

/-- Candidate `v` is not qualified any more: it counts its crossings anew (Table 2.2). -/
def State.unqualified (s : State) (v : Bool) : State := (s.setCand v { s.cand v with run := 0, ivals := [] }).setQualified v false

theorem setQualified_eq (s : State) (v b : Bool) : s.setQualified v b = s.setFld (qualFld v) (if b then 1 else 0) := by cases v <;> rfl
theorem setQualified_moves (s : State) (v b : Bool) : RoundMoves [qualFld v] s (s.setQualified v b) := by
  cases v <;> exact RoundMoves.setStatus _
theorem setQualified_qualified (s : State) (v b : Bool) : (s.setQualified v b).qualified v = b := by
  have hw : (qualFld v).lo + (qualFld v).w ≤ 32 := by revert v; decide
  have hv : (qualFld v).w = 1 := by revert v; decide
  rw [setQualified_eq, qualified_eq, State.flag, fld_setFld _ _ _ _ _ hw, hv]
  revert b
  decide

theorem cand_setCand (s : State) (v : Bool) (c : Cand) : (s.setCand v c).cand v = c := by cases v <;> rfl
theorem setCand_moves (s : State) (v : Bool) (c : Cand) : RoundMoves [] s (s.setCand v c) := by
  cases v <;> exact RoundMoves.modRnd

theorem unqualified_moves (s : State) (v : Bool) : RoundMoves [qualFld v] s (s.unqualified v) :=
  (setCand_moves _ _ _).trans (setQualified_moves _ _ _)
theorem unqualified_qualified (s : State) (v : Bool) : (s.unqualified v).qualified v = false := setQualified_qualified _ _ _
theorem unqualified_run (s : State) (v : Bool) : ((s.unqualified v).cand v).run = 0 := by cases v <;> rfl
theorem unqualified_sameRegsBut (s : State) (v : Bool) : sameRegsBut [RND_STATUS.base] s (s.unqualified v) := fun a ha => by
  have hat : (qualFld v).rg.at = RND_STATUS.base := by revert v; decide
  rw [State.unqualified, setQualified_eq, reg_setFld_ne (hat ▸ List.ne_of_not_mem_cons ha)]
  cases v <;> rfl

theorem unqualified_status (s : State) (v : Bool) {f : Fld} (hf : f ∈ [RND_STATUS_STATE, RND_STATUS_REF_ACT, RND_STATUS_EVER_LOCKED] := by decide) :
    (s.unqualified v).fld f = s.fld f :=
  (unqualified_moves s v).fld (by revert v f; decide)
theorem unqualified_inUse (s : State) (v w : Bool) : (s.unqualified v).inUse w = s.inUse w := by
  rw [State.inUse, unqualified_status, State.inUse]
theorem unqualified_other (s : State) (v : Bool) : (s.unqualified v).qualified (!v) = s.qualified (!v) :=
  (unqualified_moves s v).qualified (by revert v; decide)

/-- The loss of the reference in use is counted and reported (Table 2.7). -/
def State.refLost (s : State) : State := (s.count RND_STATS_REFLOSS).rndEvent 1 5 s.rstate

theorem refLost_moves (s : State) : RoundMoves [] s s.refLost := (RoundMoves.setReg _).trans (rndEvent_moves _ _ _ _)
theorem refLost_qualified (s : State) (v : Bool) : s.refLost.qualified v = s.qualified v := (refLost_moves s).qualified (by revert v; decide)
theorem refLost_evt (s : State) : s.refLost.evt RND_EVENT 1 := rndEvent_evt _ _ _ _

theorem disqualify_of_not_inUse {s : State} {v : Bool} (h : s.inUse v = false) : s.disqualify v = s.unqualified v := by
  have hu : (s.unqualified v).inUse v = false := by rw [unqualified_inUse, h]
  exact if_neg (by rw [← State.unqualified, hu]; decide)

/-- With no other candidate to switch to, the engine holds over. -/
theorem disqualify_alone {s : State} {v : Bool} (h : s.inUse v = true) (ho : s.qualified (!v) = false) :
    s.disqualify v = (s.unqualified v).refLost.toHold := by
  have hu : (s.unqualified v).inUse v = true := by rw [unqualified_inUse, h]
  have hq : (s.unqualified v).refLost.qualified (!v) = false := by
    rw [refLost_qualified, unqualified_other, ho]
  have hstay : ¬ ((s.unqualified v).refLost.enabled (!v) && (s.unqualified v).refLost.qualified (!v)) = true := by rw [hq]; simp
  exact (if_pos hu).trans (if_neg hstay)

/-- Both candidates count their crossings anew. -/
def State.requalify (s : State) : State :=
  ((s.setQualified true false).setQualified false false).modRnd fun r =>
    { r with v := { r.v with run := 0, ivals := [] }, z := { r.z with run := 0, ivals := [] } }

theorem requalify_moves (s : State) : RoundMoves [RND_STATUS_VQUAL, RND_STATUS_ZQUAL] s s.requalify :=
  ((setQualified_moves s true false).trans (setQualified_moves _ false false)).trans RoundMoves.modRnd
theorem requalify_vqual (s : State) : s.requalify.fld RND_STATUS_VQUAL = 0 := by
  show ((s.setFld RND_STATUS_VQUAL 0).setFld RND_STATUS_ZQUAL 0).fld RND_STATUS_VQUAL = 0
  rw [fld_setFld_disj (by decide) (by decide), fld_setFld _ _ _ _ _ (by decide), Nat.zero_mod]
theorem requalify_zqual (s : State) : s.requalify.fld RND_STATUS_ZQUAL = 0 := by
  show ((s.setFld RND_STATUS_VQUAL 0).setFld RND_STATUS_ZQUAL 0).fld RND_STATUS_ZQUAL = 0
  rw [fld_setFld _ _ _ _ _ (by decide), Nat.zero_mod]

theorem forceHold_eq (s : State) : s.forceHold = s.refLost.requalify.toHold := rfl

theorem forceHold_moves (s : State) :
    RoundMoves [RND_STATUS_VQUAL, RND_STATUS_ZQUAL, RND_STATUS_REF_ACT, RND_STATUS_STATE, RND_STATUS_SLEW_HELD] s s.forceHold :=
  ((refLost_moves s).trans (requalify_moves _)).trans (toHold_moves _)
theorem forceHold_refAct (s : State) : s.forceHold.fld RND_STATUS_REF_ACT = 0 := toHold_refAct _
theorem forceHold_vqual (s : State) : s.forceHold.fld RND_STATUS_VQUAL = 0 := (toHold_moves _).fld.trans (requalify_vqual _)
theorem forceHold_zqual (s : State) : s.forceHold.fld RND_STATUS_ZQUAL = 0 := (toHold_moves _).fld.trans (requalify_zqual _)
theorem forceHold_of_everLocked {s : State} (h : s.flag RND_STATUS_EVER_LOCKED = true) : s.forceHold.rstate = 3 ∧ s.forceHold.evt RND_EVENT 3 := by
  rw [forceHold_eq]
  exact toHold_of_everLocked (((refLost_moves s).trans (requalify_moves _)).flag.trans h)

/-! ### Slewing ends, and begins with a switch (R33, R42) -/

/-- The engine has just gone from state `before` to LOCKED, with the events of the end of slewing and of lock. -/
def State.slewEnded (s : State) (before : Nat) : State :=
  (((s.setFld RND_STATUS_EVER_LOCKED 1).goRnd stLocked).rndEvent 5 2 before).rndEvent 0 2 before

theorem slewEnded_moves (s : State) (before : Nat) :
    RoundMoves [RND_STATUS_EVER_LOCKED, RND_STATUS_STATE, RND_STATUS_SLEW_HELD] s (s.slewEnded before) :=
  (((RoundMoves.setStatus _).trans (goRnd_moves _ _)).trans (rndEvent_moves _ _ _ _)).trans (rndEvent_moves _ _ _ _)
theorem slewEnded_rnd (s : State) (before : Nat) : (s.slewEnded before).rnd = s.rnd := by
  rw [State.slewEnded, rndEvent_rnd, rndEvent_rnd, goRnd_rnd, setFld_rnd]
theorem slewEnded_rstate (s : State) (before : Nat) : (s.slewEnded before).rstate = 2 := by
  rw [State.slewEnded, (rndEvent_moves _ _ _ _).rstate, (rndEvent_moves _ _ _ _).rstate]
  exact goRnd_rstate _
theorem slewEnded_everLocked (s : State) (before : Nat) : (s.slewEnded before).fld RND_STATUS_EVER_LOCKED = 1 := by
  rw [State.slewEnded, (rndEvent_moves _ _ _ _).fld, (rndEvent_moves _ _ _ _).fld, (goRnd_moves _ _).fld, fld_setFld _ _ _ _ _ (by decide)]
  rfl
theorem slewEnded_evt (s : State) (before : Nat) : (s.slewEnded before).evt RND_EVENT 5 ∧ (s.slewEnded before).evt RND_EVENT 0 :=
  ⟨(rndEvent_moves _ _ _ _).events _ (rndEvent_evt _ _ _ _), rndEvent_evt _ _ _ _⟩

/-- The engine stays LOCKED unless RND_CTRL.HOLD_FORCE is 1. -/
theorem lockRnd_of_slew (s : State) (before : Nat) :
    s.lockRnd before true = if s.flag RND_CTRL_HOLD_FORCE then (s.slewEnded before).forceHold else s.slewEnded before := by
  rw [State.flag, ← (slewEnded_moves s before).holdForced]
  rfl

/-- REF_ACT names candidate `v`, and the switch is counted. -/
def State.switched (s : State) (v : Bool) : State := (s.setFld RND_STATUS_REF_ACT (refCode v)).count RND_STATS_SWITCHES

theorem switched_moves (s : State) (v : Bool) : RoundMoves [RND_STATUS_REF_ACT] s (s.switched v) :=
  (RoundMoves.setStatus _).trans (RoundMoves.setReg _)
theorem refCode_mod (v : Bool) : refCode v % 2 ^ 2 = refCode v := by revert v; decide
theorem switched_refAct (s : State) (v : Bool) : (s.switched v).fld RND_STATUS_REF_ACT = refCode v := by
  show ((s.setFld RND_STATUS_REF_ACT (refCode v)).count RND_STATS_SWITCHES).fld RND_STATUS_REF_ACT = refCode v
  rw [fld_count_ne (by decide), fld_setFld _ _ _ _ _ (by decide)]
  exact refCode_mod v

/-- Table 2.1 has a switch slew from LOCKED and SLEWING; elsewhere the crossings that lock are counted anew. -/
def State.switchGoes (s : State) (v : Bool) (e : Int) : State :=
  if s.rstate = stLocked ∨ s.rstate = stSlew then (s.switched v).startSlew e else (s.switched v).modRnd fun r => { r with lockCnt := 0 }

theorem switchRef_eq (s : State) (v : Bool) : s.switchRef v =
    ((s.switchGoes v (s.phaseErr ((s.clkNs : Int) - (((s.cand v).last.getD s.clkNs : Nat) : Int)))).rndEvent 2 4
      s.rstate).checkBand.setOutput := rfl

/-- The part of a switch that follows moves the band bit and the output alone. -/
theorem switchRef_moves_from (s : State) (v : Bool) :
    ∃ e, RoundMoves [RND_STATUS_OUTBAND, RND_STATUS_SLEW_HELD] (s.switchGoes v e) (s.switchRef v) := by
  rw [switchRef_eq]
  exact ⟨_, ((rndEvent_moves _ _ _ _).trans (checkBand_moves _)).trans (setOutput_moves _)⟩

theorem switchGoes_moves_from (s : State) (v : Bool) (e : Int) :
    RoundMoves [RND_STATUS_STATE, RND_STATUS_SLEW_HELD] (s.switched v) (s.switchGoes v e) :=
  .ite (startSlew_moves _ _) ((RoundMoves.modRnd).mono (by decide))

theorem switchRef_moves (s : State) (v : Bool) :
    RoundMoves [RND_STATUS_REF_ACT, RND_STATUS_STATE, RND_STATUS_SLEW_HELD, RND_STATUS_OUTBAND] s (s.switchRef v) := by
  obtain ⟨e, he⟩ := switchRef_moves_from s v
  exact (((switched_moves s v).trans (switchGoes_moves_from s v e)).trans he).mono (by decide)
theorem switchRef_refAct (s : State) (v : Bool) : (s.switchRef v).fld RND_STATUS_REF_ACT = refCode v := by
  obtain ⟨e, he⟩ := switchRef_moves_from s v
  rw [he.fld, (switchGoes_moves_from s v e).fld, switched_refAct]
theorem switchRef_evt (s : State) (v : Bool) : (s.switchRef v).evt RND_EVENT 2 :=
  ((checkBand_moves _).trans (setOutput_moves _)).events _ (rndEvent_evt _ _ _ _)
/-- From LOCKED a switch slews to the other reference. -/
theorem switchRef_of_locked {s : State} (v : Bool) (h : s.rstate = 2) : (s.switchRef v).rstate = 4 := by
  obtain ⟨e, he⟩ := switchRef_moves_from s v
  have hslew : s.rstate = stLocked ∨ s.rstate = stSlew := .inl h
  rw [he.rstate, State.switchGoes, if_pos hslew, startSlew_rstate]

end Sys2Proof.Machine
end

section
/-! Proofs/RoundReferenceEvents.lean: the reference candidates and the states of the Round engine (`Obligations.RoundReferenceEvents`, O4): the end of
slewing, reversion, the loss of a candidate, HOLD_FORCE, and the accepted crossings up to the eighth. -/

namespace Sys2Proof.Machine
open Sys2Proof Sys2Proof.Machine.Reg

-- As in the files of Laws/: proofs elaborated side by side take the joined text past its memory limit.
set_option Elab.async false

/-! ### The commands -/

theorem exec_slewDone (s : State) :
    exec .slewDone s = if s.rstate = stSlew ∧ s.phErr.natAbs < 2 ^ 20 then .next (s.lockRnd stSlew true) else .next s := rfl
theorem exec_refRevert {s : State} (h : s.revertDue = true) : exec .refRevert s = .next (s.switchRef true) := congrArg Host.Outcome.next (if_pos h)

/-- A candidate that is qualified when its crossing does not come is disqualified. -/
theorem exec_crossingTimeout {s : State} {v : Bool} (hlate : s.crossingLate v = true) (hq : s.qualified v = true) :
    exec (.crossingTimeout v) s = .next (s.disqualify v) := if_pos (by simp [hlate, hq])
theorem exec_amplitudeTimeout {s : State} (hlate : s.amplitudeLate = true) (hq : s.qualified true = true) :
    exec .amplitudeTimeout s = .next (s.disqualify true) := if_pos (by simp [hlate, hq])

/-- A write that reaches its register is carried out. -/
theorem reached_of_reaches {s : State} {rq : Requester} {off : Nat} (h : s.reaches rq off) (write : Bool) (v : Nat) (o : Out) :
    s.reached rq write off v o = o := if_neg (by rw [h]; decide)
theorem exec_holdForce {s : State} (h : s.reaches .host RND_CTRL.base) (on : Bool) : exec (.holdForce on) s = .next (s.holdForce on) :=
  reached_of_reaches h _ _ _

theorem exec_voltageCrossing (s : State) (ago : Nat) (b a : Side) (period : Nat) :
    exec (.voltageCrossing ago b a period) s = .next ((s.voltCross ago b.near a.near period b.far a.far).afterStep s) := rfl
theorem exec_zcEdge (s : State) (ago : Nat) (rising : Bool) :
    exec (.zcEdge ago rising) s = .next (if s.cutOff then s else (s.zcCross ago rising).afterStep s) := rfl

/-! ### SLEW_DONE, REF_REVERT and the timeouts (R29, R33, R40, R42) -/

/-- Clause 1 of `Obligations.RoundReferenceEvents`. -/
theorem slewDone_locks {s : State} (hst : s.rstate = 4) (herr : s.phErr.natAbs < 2 ^ 20) (hfree : s.flag RND_CTRL_HOLD_FORCE = false) :
    Does .slewDone s (fun t => t.rstate = 2 ∧ t.fld RND_STATUS_EVER_LOCKED = 1 ∧ t.evt RND_EVENT 5 ∧ t.evt RND_EVENT 0 ∧
      t.absPhase = s.absPhase ∧ t.rnd = s.rnd) := by
  refine ⟨s.slewEnded stSlew, ?_, slewEnded_rstate _ _, slewEnded_everLocked _ _, (slewEnded_evt _ _).1, (slewEnded_evt _ _).2,
    (slewEnded_moves _ _).absPhase, slewEnded_rnd _ _⟩
  rw [exec_slewDone, if_pos ⟨hst, herr⟩, lockRnd_of_slew, if_neg (by rw [hfree]; decide)]

/-- Clause 2 of `Obligations.RoundReferenceEvents`: HOLD_FORCE does not let the engine stay LOCKED. -/
theorem slewDone_holds {s : State} (hst : s.rstate = 4) (herr : s.phErr.natAbs < 2 ^ 20) (hforce : s.flag RND_CTRL_HOLD_FORCE = true) :
    Does .slewDone s (fun t => t.rstate = 3 ∧ t.fld RND_STATUS_EVER_LOCKED = 1 ∧ t.fld RND_STATUS_REF_ACT = 0 ∧ t.fld RND_STATUS_VQUAL = 0 ∧
      t.fld RND_STATUS_ZQUAL = 0 ∧ t.evt RND_EVENT 5 ∧ t.evt RND_EVENT 0 ∧ t.evt RND_EVENT 3 ∧ t.absPhase = s.absPhase) := by
  have held := forceHold_moves (s.slewEnded stSlew)
  have hever := slewEnded_everLocked s stSlew
  obtain ⟨hstate, hevt3⟩ := forceHold_of_everLocked (s := s.slewEnded stSlew) (by simp [State.flag, hever])
  obtain ⟨hevt5, hevt0⟩ := slewEnded_evt s stSlew
  refine ⟨(s.slewEnded stSlew).forceHold, ?_, hstate, held.fld.trans hever, forceHold_refAct _, forceHold_vqual _, forceHold_zqual _,
    held.events _ hevt5, held.events _ hevt0, hevt3, held.absPhase.trans (slewEnded_moves _ _).absPhase⟩
  rw [exec_slewDone, if_pos ⟨hst, herr⟩, lockRnd_of_slew, if_pos hforce]

/-- Clause 3 of `Obligations.RoundReferenceEvents`: with ¼ stitch or more to go slewing goes on. -/
theorem slewDone_early {s : State} (herr : 2 ^ 20 ≤ s.phErr.natAbs) : exec .slewDone s = .next s := by
  rw [exec_slewDone, if_neg fun h => absurd h.2 (Nat.not_lt.2 herr)]

/-- Clause 4 of `Obligations.RoundReferenceEvents`. -/
theorem refRevert_slews {s : State} (hdue : s.revertDue = true) (hst : s.rstate = 2) :
    Does .refRevert s (fun t => t.rstate = 4 ∧ t.fld RND_STATUS_REF_ACT = 1 ∧ t.evt RND_EVENT 2 ∧ t.absPhase = s.absPhase) :=
  ⟨_, exec_refRevert hdue, switchRef_of_locked true hst, switchRef_refAct s true, switchRef_evt s true, (switchRef_moves s true).absPhase⟩

/-- Clauses 5 and 7 of `Obligations.RoundReferenceEvents`: the loss of a candidate that is not in use leaves the engine's state. -/
theorem does_unqualified {s : State} {c : Instr} {v : Bool} (h : exec c s = .next (s.disqualify v)) (hu : s.inUse v = false) :
    Does c s (fun t => t.qualified v = false ∧ (t.cand v).run = 0 ∧ t.rstate = s.rstate ∧ sameRegsBut [RND_STATUS.base] s t) := by
  rw [disqualify_of_not_inUse hu] at h
  exact ⟨_, h, unqualified_qualified s v, unqualified_run s v, unqualified_status s v, unqualified_sameRegsBut s v⟩

/-- Clause 6 of `Obligations.RoundReferenceEvents`: the loss of the only reference ends in HOLDOVER. -/
theorem crossingTimeout_holds {s : State} {v : Bool} (hlate : s.crossingLate v = true) (hq : s.qualified v = true) (hu : s.inUse v = true)
    (ho : s.qualified (!v) = false) (hever : s.flag RND_STATUS_EVER_LOCKED = true) :
    Does (.crossingTimeout v) s (fun t => t.qualified v = false ∧ t.rstate = 3 ∧ t.fld RND_STATUS_REF_ACT = 0 ∧ t.evt RND_EVENT 1 ∧
      t.evt RND_EVENT 3) := by
  have hlost : (s.unqualified v).refLost.flag RND_STATUS_EVER_LOCKED = true := by
    rw [(refLost_moves _).flag, State.flag, unqualified_status]
    exact hever
  have held := toHold_moves (s.unqualified v).refLost
  obtain ⟨hstate, hevt3⟩ := toHold_of_everLocked hlost
  refine ⟨_, exec_crossingTimeout hlate hq, ?_⟩
  rw [disqualify_alone hu ho]
  refine ⟨?_, hstate, toHold_refAct _, held.events _ (refLost_evt _), hevt3⟩
  rw [toHold_qualified, refLost_qualified, unqualified_qualified]

/-! ### HOLD_FORCE (R40) -/

/-- Clause 8 of `Obligations.RoundReferenceEvents`. -/
theorem holdForce_holds {s : State} (hr : s.reaches .host RND_CTRL.base) (hst : s.rstate = 2) (hever : s.flag RND_STATUS_EVER_LOCKED = true) :
    Does (.holdForce true) s (fun t => t.rstate = 3 ∧ t.fld RND_STATUS_REF_ACT = 0 ∧ t.fld RND_STATUS_VQUAL = 0 ∧ t.fld RND_STATUS_ZQUAL = 0 ∧
      t.fld RND_CTRL_HOLD_FORCE = 1 ∧ t.evt RND_EVENT 3) := by
  have hstatus {f : Fld} (hf : f.rg = RND_STATUS) : (s.setFld RND_CTRL_HOLD_FORCE 1).fld f = s.fld f := fld_setFld_ne (by rw [hf]; decide)
  have hlocked : (s.setFld RND_CTRL_HOLD_FORCE 1).rstate = stLocked := (hstatus rfl).trans hst
  have hlocks : (s.setFld RND_CTRL_HOLD_FORCE 1).flag RND_STATUS_EVER_LOCKED = true := by rw [State.flag, hstatus rfl]; exact hever
  obtain ⟨hstate, hevt⟩ := forceHold_of_everLocked hlocks
  refine ⟨(s.setFld RND_CTRL_HOLD_FORCE 1).forceHold, ?_, hstate, forceHold_refAct _, forceHold_vqual _, forceHold_zqual _, ?_, hevt⟩
  · rw [exec_holdForce hr]
    exact congrArg Host.Outcome.next (if_pos ⟨rfl, hlocked⟩)
  · rw [(forceHold_moves _).holdForced, fld_setFld _ _ _ _ _ (by decide)]
    rfl

/-- Clause 9 of `Obligations.RoundReferenceEvents`. -/
theorem holdForce_released {s : State} (hr : s.reaches .host RND_CTRL.base) :
    Does (.holdForce false) s (fun t => t.fld RND_CTRL_HOLD_FORCE = 0 ∧ sameRegsBut [RND_CTRL.base] s t ∧ t.rnd = s.rnd) := by
  refine ⟨s.setFld RND_CTRL_HOLD_FORCE 0, exec_holdForce hr false, ?_, fun a ha => reg_setFld_ne (List.ne_of_not_mem_cons ha), rfl⟩
  rw [fld_setFld _ _ _ _ _ (by decide), Nat.zero_mod]

/-! ### Accepted crossings (R27 to R32) -/

/-- A crossing of candidate `v`, which is enabled and not in use, is accepted `ago` ns past: it comes half a round or more after the last one, at
`t0`, in the hardware range (R29), and HOLD_FORCE is 0. -/
structure State.accepts (s : State) (v : Bool) (ago : Int) (t0 : Nat) : Prop where
  enabled : s.enabled v = true
  free : s.flag RND_CTRL_HOLD_FORCE = false
  unused : s.inUse v = false
  last : (s.cand v).last = some t0
  apart : s.halfRoundNs ≤ s.crossAt ago - t0
  lower : 15152000 ≤ s.crossAt ago - t0
  upper : s.crossAt ago - t0 ≤ 22222000

/-- Candidate `v` with the crossing accepted. -/
def State.acceptedCand (s : State) (v : Bool) (ago : Int) (t0 : Nat) : Cand :=
  { s.cand v with
    run := min 8 ((s.cand v).run + 1), last := some (s.crossAt ago),
    ivals := if 0 < (s.cand v).run then ((s.crossAt ago - t0) :: (s.cand v).ivals).take 4 else [],
    qualAt := if s.qualified v then (s.cand v).qualAt else s.absPhase }

/-- The crossing stands in the candidate. -/
def State.noted (s : State) (v : Bool) (ago : Int) (t0 : Nat) : State := s.setCand v (s.acceptedCand v ago t0)

theorem noted_moves (s : State) (v : Bool) (ago : Int) (t0 : Nat) : RoundMoves [] s (s.noted v ago t0) := setCand_moves _ _ _
theorem noted_regs (s : State) (v : Bool) (ago : Int) (t0 : Nat) : (s.noted v ago t0).regs = s.regs := by cases v <;> rfl

/-- The eighth crossing in a row qualifies the candidate. -/
def State.counts (s : State) (v : Bool) (ago : Int) (t0 : Nat) : State :=
  if min 8 ((s.cand v).run + 1) = 8 then (s.noted v ago t0).setQualified v true else s.noted v ago t0

theorem counts_moves (s : State) (v : Bool) (ago : Int) (t0 : Nat) : RoundMoves [qualFld v] s (s.counts v ago t0) :=
  .ite ((noted_moves s v ago t0).trans (setQualified_moves _ _ _)) ((noted_moves s v ago t0).mono (by simp))

theorem refAct_beside_qualFld (v : Bool) : StatusBeside [qualFld v] RND_STATUS_REF_ACT := by revert v; decide

/-- What an accepted crossing of a candidate that is not in use does: it counts, and at the eighth the engine may take the candidate. -/
theorem crossing_of_accepts {s : State} {v : Bool} {ago : Int} {t0 : Nat} (h : s.accepts v ago t0) :
    s.crossing v ago =
      if min 8 ((s.cand v).run + 1) = 8 ∧ (¬ s.qualified v = true ∨ s.rstate = stHold ∨ s.rstate = stFree) then
        (s.counts v ago t0).onQualify v ago
      else s.counts v ago t0 := by
  have hlast : (s.cand v).last.getD 0 = t0 := by rw [h.last]; rfl
  have henabled : ¬ (!s.enabled v) = true := by rw [h.enabled]; decide
  have hapart : ¬ ((s.cand v).last.isSome = true ∧ s.crossAt ago - (s.cand v).last.getD 0 < s.halfRoundNs) := by
    rw [hlast]
    exact fun hn => absurd hn.2 (Nat.not_lt.2 h.apart)
  have hfree : ¬ (s.flag RND_CTRL_HOLD_FORCE = true ∧ s.rstate = stHold) := by
    rw [h.free]
    exact fun hn => absurd hn.1 Bool.false_ne_true
  have hrange : ¬ ((s.cand v).last.isSome = true ∧ 0 < (s.cand v).run ∧
      ¬ (15152000 ≤ s.crossAt ago - (s.cand v).last.getD 0 ∧ s.crossAt ago - (s.cand v).last.getD 0 ≤ 22222000)) := by
    rw [hlast]
    exact fun hn => hn.2.2 ⟨h.lower, h.upper⟩
  have hunused : ¬ (s.counts v ago t0).inUse v = true := by
    rw [State.inUse, (counts_moves s v ago t0).fld (refAct_beside_qualFld v), ← State.inUse, h.unused]
    exact Bool.false_ne_true
  rw [State.counts, State.noted, State.acceptedCand] at hunused
  unfold State.crossing
  dsimp only
  rw [if_neg henabled, if_neg hapart, if_neg hfree, if_neg hrange, hlast, if_neg hunused]
  rfl

/-- Up to the seventh a crossing is only counted. -/
theorem crossing_below_eight {s : State} {v : Bool} {ago : Int} {t0 : Nat} (h : s.accepts v ago t0) (hr : (s.cand v).run < 7) :
    s.crossing v ago = s.noted v ago t0 := by
  have hn : ¬ min 8 ((s.cand v).run + 1) = 8 := by omega
  rw [crossing_of_accepts h, if_neg fun hq => hn hq.1, State.counts, if_neg hn]

/-- The eighth qualifies the candidate, and an engine in FREERUN takes it. -/
theorem crossing_eighth {s : State} {v : Bool} {ago : Int} {t0 : Nat} (h : s.accepts v ago t0) (hr : (s.cand v).run = 7) (hst : s.rstate = 0) :
    s.crossing v ago = ((s.noted v ago t0).setQualified v true).onQualify v ago := by
  have hn : min 8 ((s.cand v).run + 1) = 8 := by omega
  rw [crossing_of_accepts h, if_pos ⟨hn, .inr (.inr hst)⟩, State.counts, if_pos hn]

/-! ### From FREERUN to ACQUIRE (R28) -/

/-- PHASE has stepped forward to `p`, the phase of candidate `v`, which is in use from now on. -/
def State.steppedTo (s : State) (v : Bool) (p : Nat) : State :=
  ((if p < s.phase then s.setRoundNo (s.roundNo + 1) else s).setPhase p).setFld RND_STATUS_REF_ACT (refCode v)

theorem status_setRoundNo (s : State) (n : Nat) {f : Fld} (hf : f.rg = RND_STATUS) : (s.setRoundNo n).fld f = s.fld f := by
  have hhi : f.rg.at ≠ RND_COUNT_HI_COUNT.rg.at := by rw [hf]; decide
  have hlo : f.rg.at ≠ RND_COUNT_LO.at := by rw [hf]; decide
  have hrounds : (s.setRoundNo n).fld f = (s.setCount48 (n % 2 ^ 48)).fld f := rfl
  rw [hrounds, State.setCount48, fld_setFld_ne hhi, State.setRegN, fld_setReg_ne hlo]
theorem status_setPhase (s : State) (p : Nat) {f : Fld} (hf : f.rg = RND_STATUS) : (s.setPhase p).fld f = s.fld f :=
  fld_setReg_ne (by rw [hf]; decide)

theorem phase_setPhase (s : State) {p : Nat} (hp : p < 2 ^ 32) : (s.setPhase p).phase = p := by
  rw [State.phase, State.setPhase, regN_setRegN, Nat.mod_eq_of_lt hp]

theorem steppedTo_phase (s : State) (v : Bool) {p : Nat} (hp : p < 2 ^ 32) : (s.steppedTo v p).phase = p := by
  rw [State.steppedTo, (RoundMoves.setStatus _).phase, phase_setPhase _ hp]
theorem steppedTo_refAct (s : State) (v : Bool) (p : Nat) : (s.steppedTo v p).fld RND_STATUS_REF_ACT = refCode v := by
  rw [State.steppedTo, fld_setFld _ _ _ _ _ (by decide)]
  exact refCode_mod v
theorem steppedTo_qualified (s : State) (v w : Bool) (p : Nat) : (s.steppedTo v p).qualified w = s.qualified w := by
  have hrg : (qualFld w).rg = RND_STATUS := by revert w; decide
  have hkept : (s.steppedTo v p).fld (qualFld w) = s.fld (qualFld w) := by
    rw [State.steppedTo, (RoundMoves.setStatus _).fld (by revert w; decide), status_setPhase _ _ hrg]
    split
    · exact status_setRoundNo _ _ hrg
    · rfl
  rw [qualified_eq, qualified_eq, State.flag, hkept, State.flag]

/-- From FREERUN the engine steps to the reference and acquires it; what follows the step passes no time. -/
theorem onQualify_from_freerun {s : State} (v : Bool) (ago : Int) (h : s.rstate = 0) :
    (s.onQualify v ago).rstate = 1 ∧
      RoundMoves [RND_STATUS_STATE, RND_STATUS_SLEW_HELD, RND_STATUS_OUTBAND] (s.steppedTo v (s.refPhase ago)) (s.onQualify v ago) := by
  have hfree : s.rstate = stFree := h
  rw [State.onQualify, if_pos hfree]
  dsimp only
  rw [(checkBand_moves _).rstate]
  exact ⟨goRnd_rstate _, (((RoundMoves.setReg _).trans RoundMoves.modRnd).trans (goRnd_moves _ _)).trans (checkBand_moves _)⟩

/-- Neither a crossing nor a qualification changes the output frequency. -/
theorem refPhase_noted (s : State) (v : Bool) (ago' : Int) (t0 : Nat) (ago : Int) : (s.noted v ago' t0).refPhase ago = s.refPhase ago := by
  cases v <;> rfl
theorem refPhase_setQualified (s : State) (v b : Bool) (ago : Int) : (s.setQualified v b).refPhase ago = s.refPhase ago := by
  have hne : RND_FREQ.at ≠ (qualFld v).rg.at := by revert v; decide
  have hreg : (s.setQualified v b).reg RND_FREQ.at = s.reg RND_FREQ.at := by rw [setQualified_eq, reg_setFld_ne hne]
  rw [State.refPhase, State.freq, State.regN, hreg, State.refPhase, State.freq, State.regN]

theorem refPhase_lt (s : State) (ago : Int) : s.refPhase ago < 2 ^ 32 := uInt_lt 32 _

/-! ### VOLTAGE_CROSSING and ZC_EDGE -/

theorem afterStep_of_absStitch {s old : State} (h : s.absStitch = old.absStitch) : s.afterStep old = s := if_neg fun hn => hn.2 h
theorem afterStep_self (s : State) : s.afterStep s = s := afterStep_of_absStitch rfl
theorem afterStep_of_moves {m : List Fld} {s t : State} (h : RoundMoves m s t) : t.afterStep s = t :=
  afterStep_of_absStitch (by rw [State.absStitch, h.roundNo, State.stitch, h.phase, State.absStitch, State.stitch])

/-- A crossing that is only counted moves nothing but the candidate. -/
theorem noted_shows (s : State) (v : Bool) {ago : Int} {t0 : Nat} (hr : (s.cand v).run < 7) :
    ((s.noted v ago t0).cand v).run = (s.cand v).run + 1 ∧ ((s.noted v ago t0).cand v).last = some (s.crossAt ago) ∧
      (s.noted v ago t0).regs = s.regs := by
  rw [State.noted, cand_setCand]
  exact ⟨show min 8 ((s.cand v).run + 1) = _ by omega, rfl, noted_regs s v ago t0⟩

theorem voltCross_of_swings {s : State} {ago below above period dip peak : Nat} (h : s.swings dip peak = true) :
    s.voltCross ago below above period dip peak = s.crossing true (s.voltAgo ago below above period) := if_pos h

/-- Clause 10 of `Obligations.RoundReferenceEvents`. -/
theorem voltageCrossing_counts {s : State} {ago below above period dip peak t0 : Nat} (hsw : s.swings dip peak = true)
    (h : s.accepts true (s.voltAgo ago below above period) t0) (hr : (s.cand true).run < 7) :
    Does (.voltageCrossing ago ⟨below, dip⟩ ⟨above, peak⟩ period) s (fun t => (t.cand true).run = (s.cand true).run + 1 ∧
      (t.cand true).last = some (s.crossAt (s.voltAgo ago below above period)) ∧ t.regs = s.regs) := by
  refine ⟨s.noted true (s.voltAgo ago below above period) t0, ?_, noted_shows s true hr⟩
  rw [exec_voltageCrossing, voltCross_of_swings hsw, crossing_below_eight h hr, afterStep_of_moves (noted_moves _ _ _ _)]

/-- Clause 11 of `Obligations.RoundReferenceEvents`. -/
theorem voltageCrossing_small {s : State} (ago below above period : Nat) {dip peak : Nat} (hsw : s.swings dip peak = false) :
    exec (.voltageCrossing ago ⟨below, dip⟩ ⟨above, peak⟩ period) s = .next s := by
  have hnone : s.voltCross ago below above period dip peak = s := if_neg (by rw [hsw]; exact Bool.false_ne_true)
  rw [exec_voltageCrossing, hnone, afterStep_self]

/-- Clause 12 of `Obligations.RoundReferenceEvents`. -/
theorem voltageCrossing_acquires {s : State} {ago below above period dip peak t0 : Nat} (hsw : s.swings dip peak = true)
    (h : s.accepts true (s.voltAgo ago below above period) t0) (hr : (s.cand true).run = 7) (hst : s.rstate = 0) :
    Does (.voltageCrossing ago ⟨below, dip⟩ ⟨above, peak⟩ period) s (fun t => ∃ u : State, t = u.afterStep s ∧ u.rstate = 1 ∧
      u.qualified true = true ∧ u.fld RND_STATUS_REF_ACT = 1 ∧ u.phase = s.refPhase (s.voltAgo ago below above period)) := by
  have hq : RoundMoves _ s ((s.noted true (s.voltAgo ago below above period) t0).setQualified true true) :=
    (noted_moves _ _ _ _).trans (setQualified_moves _ true true)
  obtain ⟨hstate, hmoves⟩ := onQualify_from_freerun true (s.voltAgo ago below above period) (hq.rstate.trans hst)
  refine ⟨_, exec_voltageCrossing _ _ _ _ _, _, rfl, ?_⟩
  rw [voltCross_of_swings hsw, crossing_eighth h hr hst]
  refine ⟨hstate, ?_, hmoves.fld.trans (steppedTo_refAct _ _ _), ?_⟩
  · rw [hmoves.qualified (by decide), steppedTo_qualified, setQualified_qualified]
  · rw [hmoves.phase, steppedTo_phase _ _ (refPhase_lt _ _), refPhase_setQualified]
    exact refPhase_noted s true _ t0 _

theorem tickAgo_tickAgo (x : Int) : tickAgo (tickAgo x) = tickAgo x := by unfold tickAgo; omega

/-- Clause 13 of `Obligations.RoundReferenceEvents`. -/
theorem zcEdge_counts {s : State} {ago t0 : Nat} (hcut : s.cutOff = false) (hpol : s.live RND_REFSEL_ZPOL = 0)
    (hdly : s.live RND_REFDLY_ZCDLY = 0) (h : s.accepts false (tickAgo ago) t0) (hr : (s.cand false).run < 7) :
    Does (.zcEdge ago true) s (fun t => (t.cand false).run = (s.cand false).run + 1 ∧ (t.cand false).last = some (s.crossAt (tickAgo ago)) ∧
      t.regs = s.regs) ∧
    exec (.zcEdge ago false) s = .next s := by
  have hsees : ¬ s.cutOff = true := by rw [hcut]; exact Bool.false_ne_true
  have hago : tickAgo (tickAgo ago + sInt 16 (s.live RND_REFDLY_ZCDLY)) = tickAgo ago := by
    rw [hdly, show sInt 16 0 = 0 from rfl, add_zero, tickAgo_tickAgo]
  have hrise : s.zcCross ago true = s.crossing false (tickAgo ago) := by
    rw [State.zcCross, if_pos (by simp [hpol]), hago]
  have hfall : s.zcCross ago false = s := if_neg (by simp [hpol])
  refine ⟨⟨s.noted false (tickAgo ago) t0, ?_, noted_shows s false hr⟩, ?_⟩
  · rw [exec_zcEdge, if_neg hsees, hrise, crossing_below_eight h hr, afterStep_of_moves (noted_moves _ _ _ _)]
  · rw [exec_zcEdge, if_neg hsees, hfall, afterStep_self]

/-- Clause 15 of `Obligations.RoundReferenceEvents`: the timing clock resolves a crossing to a tick. -/
theorem voltAgo_mod_four (s : State) (ago below above period : Nat) : s.voltAgo ago below above period % 4 = 0 := Int.mul_emod_right 4 _

/-- Settles O4: each command's clause by the lemma that says what it does; the crossings by what an accepted crossing does to its candidate. -/
theorem roundReferenceEvents : Obligations.RoundReferenceEvents := by
  unfold Obligations.RoundReferenceEvents
  refine ⟨?_, ?_, ?_, ?_, ?_, ?_, ?_, ?_, ?_, ?_, ?_, ?_, ?_, ?_, ?_⟩
  · exact fun s hst herr hfree => slewDone_locks hst herr hfree
  · exact fun s hst herr hforce => slewDone_holds hst herr hforce
  · exact fun s _ herr => slewDone_early herr
  · exact fun s hdue hst => refRevert_slews hdue hst
  · exact fun s v hlate hq hu => does_unqualified (exec_crossingTimeout hlate hq) hu
  · exact fun s v hlate hq hu ho hever => crossingTimeout_holds hlate hq hu ho hever
  · exact fun s hlate hq hu => does_unqualified (exec_amplitudeTimeout hlate hq) hu
  · exact fun s hr hst hever => holdForce_holds hr hst hever
  · exact fun s hr => holdForce_released hr
  · exact fun s ago below above period dip peak t0 hsw hen hfree hu hlast hrun hhalf hlo hhi =>
      voltageCrossing_counts hsw ⟨hen, hfree, hu, hlast, hhalf, hlo, hhi⟩ hrun
  · exact fun s ago below above period dip peak hsw => voltageCrossing_small ago below above period hsw
  · exact fun s ago below above period dip peak t0 hsw hen hfree hu hst hlast hrun hhalf hlo hhi =>
      voltageCrossing_acquires hsw ⟨hen, hfree, hu, hlast, hhalf, hlo, hhi⟩ hrun hst
  · exact fun s ago t0 hcut hen hfree hu hpol hdly hlast hrun hhalf hlo hhi =>
      zcEdge_counts hcut hpol hdly ⟨hen, hfree, hu, hlast, hhalf, hlo, hhi⟩ hrun
  · exact fun s hcut ago rising => congrArg Host.Outcome.next (if_pos hcut)
  · exact fun s ago below above period => voltAgo_mod_four s ago below above period

end Sys2Proof.Machine
end

section
/-! Proofs/TimeCapture.lean: the snapshot, PPS and the loading of NSTIME (`Obligations.TimeCapture`, O5): what SNAP writes, the edges of PPS_IN
case by case, and the write of the pair RND_NSSET down to the load. -/

namespace Sys2Proof.Machine
open Sys2Proof Sys2Proof.Machine.Reg

-- As in the files of Laws/: proofs elaborated side by side take the joined text past its memory limit.
set_option Elab.async false

/-! ### The commands -/

theorem exec_rndSnap {s : State} (h : s.reaches .host RND_CTRL.base) : exec .rndSnap s = .next s.snap := reached_of_reaches h _ _ _
theorem exec_ppsEdge (s : State) (rising : Bool) :
    exec (.ppsEdge rising) s =
      if ¬ s.cutOff ∧ s.live RND_PPSCFG_EN = 1 ∧ rising = decide (s.live RND_PPSCFG_POL = 0) then .next s.ppsEdge else .next s := rfl
theorem exec_nssetArm (rq : Requester) (hi : Nat) (s : State) :
    exec (.nssetArm rq hi) s = .next (s.busWrite rq RND_NSSET_HI.base 15 (BitVec.ofNat 32 hi)) := rfl

/-! ### SNAP (R49) -/

theorem regN_setRegN_ne {s : State} {r q : Rg} {v i j i' j' : Nat} (h : q.at i' j' ≠ r.at i j) :
    (s.setRegN r v i j).regN q i' j' = s.regN q i' j' :=
  congrArg BitVec.toNat (reg_setRegN_ne h)

/-- The two halves of a number of up to 64 bits make it whole. -/
theorem halves_eq {n : Nat} (h : n < 2 ^ 64) : n % 2 ^ 32 + 2 ^ 32 * (n / 2 ^ 32 % 2 ^ 32) = n := by omega

theorem nstime_lt (s : State) : s.nstime < 2 ^ 64 := by
  have hlo := regN_lt s RND_NSTIME_LO 0 0
  have hhi := regN_lt s RND_NSTIME_HI 0 0
  rw [State.nstime]
  omega
theorem count48_lt (s : State) : s.count48 < 2 ^ 64 := by
  have hlo := regN_lt s RND_COUNT_LO 0 0
  have hhi : s.fld RND_COUNT_HI_COUNT < 2 ^ 16 := fld_lt s RND_COUNT_HI_COUNT 0 0
  rw [State.count48]
  omega

/-- Each register of the snapshot holds what it is named after. -/
theorem snap_shows (s : State) :
    s.snap.regN RND_SNAP_CNT_LO = s.count48 % 2 ^ 32 ∧ s.snap.regN RND_SNAP_CNT_HI = s.count48 / 2 ^ 32 % 2 ^ 32 ∧
      s.snap.regN RND_SNAP_PHASE = s.phase % 2 ^ 32 ∧ s.snap.regN RND_SNAP_FREQ = s.freq % 2 ^ 32 ∧
      s.snap.regN RND_SNAP_NS_LO = s.nstime % 2 ^ 32 ∧ s.snap.regN RND_SNAP_NS_HI = s.nstime / 2 ^ 32 % 2 ^ 32 := by
  simp (disch := decide) only [State.snap, State.phase, State.freq, State.nstime, regN_setRegN, regN_setRegN_ne, and_self]

theorem snap_sameRegsBut (s : State) :
    sameRegsBut [RND_SNAP_CNT_LO.base, RND_SNAP_CNT_HI.base, RND_SNAP_PHASE.base, RND_SNAP_FREQ.base, RND_SNAP_NS_LO.base, RND_SNAP_NS_HI.base,
      RND_SNAP_FLAGS.base] s s.snap := by
  intro a ha
  simp only [List.mem_cons, List.not_mem_nil, or_false, not_or] at ha
  obtain ⟨hcl, hch, hph, hfr, hnl, hnh, hfl⟩ := ha
  unfold State.snap
  dsimp only
  rw [reg_setRegN_ne hfl, reg_setRegN_ne hnh, reg_setRegN_ne hnl, reg_setRegN_ne hfr, reg_setRegN_ne hph, reg_setRegN_ne hch, reg_setRegN_ne hcl]

/-- Clause 1 of `Obligations.TimeCapture`. -/
theorem rndSnap_captures {s : State} (h : s.reaches .host RND_CTRL.base) :
    Does .rndSnap s (fun t => t.regN RND_SNAP_CNT_LO + 2 ^ 32 * t.regN RND_SNAP_CNT_HI = s.count48 ∧ t.regN RND_SNAP_PHASE = s.phase ∧
      t.regN RND_SNAP_NS_LO + 2 ^ 32 * t.regN RND_SNAP_NS_HI = s.nstime ∧ t.regN RND_SNAP_FREQ = s.freq ∧
      sameRegsBut [RND_SNAP_CNT_LO.base, RND_SNAP_CNT_HI.base, RND_SNAP_PHASE.base, RND_SNAP_FREQ.base, RND_SNAP_NS_LO.base, RND_SNAP_NS_HI.base,
        RND_SNAP_FLAGS.base] s t) := by
  obtain ⟨hcl, hch, hph, hfr, hnl, hnh⟩ := snap_shows s
  refine ⟨s.snap, exec_rndSnap h, ?_, ?_, ?_, ?_, snap_sameRegsBut s⟩
  · rw [hcl, hch, halves_eq (count48_lt s)]
  · rw [hph]
    exact Nat.mod_eq_of_lt (regN_lt s RND_PHASE 0 0)
  · rw [hnl, hnh, halves_eq (nstime_lt s)]
  · rw [hfr]
    exact Nat.mod_eq_of_lt (regN_lt s RND_FREQ 0 0)

/-! ### PPS (R43) -/

/-- The interval that an edge now ends, in ticks, and that it is a good one: within 1 s ± 100 µs. -/
def State.ppsTicks (s : State) : Nat := s.rnd.clk - s.rnd.ppsLast.getD 0
def State.ppsGood (s : State) : Bool :=
  s.rnd.ppsLast.isSome && decide (250000000 - 25000 ≤ s.ppsTicks ∧ s.ppsTicks ≤ 250000000 + 25000)

/-- The good intervals in a row with an edge now, to 3. -/
def State.ppsRunNow (s : State) : Nat := if s.ppsGood then min 3 (s.rnd.ppsRun + 1) else 0

/-- An edge is noted. -/
def State.ppsNoted (s : State) : State := s.modRnd (fun r => { r with ppsRun := s.ppsRunNow, ppsLast := some s.rnd.clk })

/-- PPS locks. -/
def State.ppsLocks (s : State) : State := (s.setFld RND_STATUS_PPS_LOCK 1).rndEvent 8 2 s.rstate

/-- With the third good interval in a row, the `n`th, PPS locks if it is not locked. -/
def State.ppsMayLock (s : State) (n : Nat) : State := if n = 3 ∧ ¬ s.flag RND_STATUS_PPS_LOCK then s.ppsLocks else s

/-- An edge of locked PPS loads NSTIME if a load is armed. -/
def State.ppsLoads (s : State) : State :=
  match s.flag RND_STATUS_PPS_LOCK, s.rnd.nsArm with
  | true, some v => s.loadNs v
  | _, _ => s

/-- RND_PPSERR shows how far NSTIME is from the whole second. -/
def State.ppsShown (s : State) : State := s.setRegN RND_PPSERR (uInt 32 (secErr s.nstime))

/-- What an edge does, step by step; `ppsEdge_eq` ties these steps to `State.ppsEdge`. -/
def State.ppsSteps (s : State) : State := (s.ppsNoted.ppsMayLock s.ppsRunNow).ppsLoads.ppsShown

theorem ppsEdge_eq (s : State) :
    s.ppsEdge = if s.ppsSteps.flag RND_STATUS_PPS_LOCK && s.ppsGood then s.ppsSteps.discipline s.ppsTicks else s.ppsSteps := rfl

theorem ppsLocks_rnd (s : State) : s.ppsLocks.rnd = s.rnd := rndEvent_rnd _ _ _ _
theorem ppsLocks_lock (s : State) : s.ppsLocks.fld RND_STATUS_PPS_LOCK = 1 := by
  rw [State.ppsLocks, (rndEvent_moves _ _ _ _).fld, fld_setFld _ _ _ _ _ (by decide)]
  rfl
theorem ppsLocks_evt (s : State) : s.ppsLocks.evt RND_EVENT 8 := rndEvent_evt _ _ _ _

theorem ppsLoads_of_unlocked {s : State} (h : s.flag RND_STATUS_PPS_LOCK = false) : s.ppsLoads = s := by rw [State.ppsLoads, h]
theorem ppsLoads_of_unarmed {s : State} (h : s.rnd.nsArm = none) : s.ppsLoads = s := by
  rw [State.ppsLoads, h]
  split
  · contradiction
  · rfl

theorem ppsShown_reg_ne {s : State} {a : Nat} (h : a ≠ RND_PPSERR.base) : s.ppsShown.reg a = s.reg a := reg_setRegN_ne h
theorem ppsShown_lock (s : State) : s.ppsShown.fld RND_STATUS_PPS_LOCK = s.fld RND_STATUS_PPS_LOCK := fld_of_reg_eq (ppsShown_reg_ne (by decide))
theorem ppsShown_err (s : State) : s.ppsShown.regN RND_PPSERR = uInt 32 (secErr s.nstime) := by
  rw [State.ppsShown, regN_setRegN]
  exact Nat.mod_eq_of_lt (uInt_lt 32 _)

/-- The command, where PPS_IN is connected and enabled with the rising edge selected. -/
theorem exec_ppsEdge_rising {s : State} (hcut : s.cutOff = false) (hen : s.live RND_PPSCFG_EN = 1) (hpol : s.live RND_PPSCFG_POL = 0) :
    exec (.ppsEdge true) s = .next s.ppsEdge := by
  rw [exec_ppsEdge, if_pos]
  exact ⟨by rw [hcut]; exact Bool.false_ne_true, hen, (decide_eq_true hpol).symm⟩

/-- The first edge with PPS not locked is noted, and nothing more. -/
theorem ppsEdge_first {s : State} (hlock : s.flag RND_STATUS_PPS_LOCK = false) (hlast : s.rnd.ppsLast = none) : s.ppsEdge = s.ppsNoted.ppsShown := by
  have hgood : s.ppsGood = false := by rw [State.ppsGood, hlast]; rfl
  have hrun : s.ppsRunNow = 0 := by rw [State.ppsRunNow, hgood]; rfl
  have hnoted : s.ppsNoted.flag RND_STATUS_PPS_LOCK = false := hlock
  rw [ppsEdge_eq, hgood, Bool.and_false, if_neg Bool.false_ne_true, State.ppsSteps, hrun, State.ppsMayLock, if_neg (by simp),
    ppsLoads_of_unlocked hnoted]

/-- Clause 2 of `Obligations.TimeCapture`. -/
theorem ppsEdge_starts {s : State} (hcut : s.cutOff = false) (hen : s.live RND_PPSCFG_EN = 1) (hpol : s.live RND_PPSCFG_POL = 0)
    (hlock : s.flag RND_STATUS_PPS_LOCK = false) (hlast : s.rnd.ppsLast = none) :
    Does (.ppsEdge true) s (fun t => t.rnd.ppsLast = some s.rnd.clk ∧ t.rnd.ppsRun = 0 ∧ t.regN RND_PPSERR = uInt 32 (secErr s.nstime) ∧
      sameRegsBut [RND_PPSERR.base] s t) := by
  have hgood : s.ppsGood = false := by rw [State.ppsGood, hlast]; rfl
  have hrun : s.ppsRunNow = 0 := by rw [State.ppsRunNow, hgood]; rfl
  refine ⟨s.ppsNoted.ppsShown, ?_, rfl, hrun, ppsShown_err _, fun a ha => ppsShown_reg_ne (List.ne_of_not_mem_cons ha)⟩
  rw [exec_ppsEdge_rising hcut hen hpol, ppsEdge_first hlock hlast]

/-- The edge that ends the third good interval locks PPS; with no load armed the rate of NSTIME is taken from it. -/
theorem ppsEdge_third {s : State} (hlock : s.flag RND_STATUS_PPS_LOCK = false) (harm : s.rnd.nsArm = none) (hgood : s.ppsGood = true)
    (hrun : s.ppsRunNow = 3) : s.ppsEdge = s.ppsNoted.ppsLocks.ppsShown.discipline s.ppsTicks := by
  have hnoted : s.ppsNoted.flag RND_STATUS_PPS_LOCK = false := hlock
  have hunarmed : s.ppsNoted.ppsLocks.rnd.nsArm = none := by rw [ppsLocks_rnd]; exact harm
  have hsteps : s.ppsSteps = s.ppsNoted.ppsLocks.ppsShown := by
    rw [State.ppsSteps, hrun, State.ppsMayLock, if_pos ⟨rfl, by rw [hnoted]; exact Bool.false_ne_true⟩, ppsLoads_of_unarmed hunarmed]
  have hlocked : s.ppsSteps.flag RND_STATUS_PPS_LOCK = true := by
    rw [hsteps, State.flag, ppsShown_lock, ppsLocks_lock]
    rfl
  rw [ppsEdge_eq, hlocked, hgood, Bool.and_self, if_pos rfl, hsteps]

theorem discipline_reg (s : State) (n a : Nat) : (s.discipline n).reg a = s.reg a := rfl
theorem discipline_ppsRun (s : State) (n : Nat) : (s.discipline n).rnd.ppsRun = s.rnd.ppsRun := rfl

/-- Clause 3 of `Obligations.TimeCapture`. -/
theorem ppsEdge_locks {s : State} {t0 : Nat} (hcut : s.cutOff = false) (hen : s.live RND_PPSCFG_EN = 1) (hpol : s.live RND_PPSCFG_POL = 0)
    (hlock : s.flag RND_STATUS_PPS_LOCK = false) (harm : s.rnd.nsArm = none) (hlast : s.rnd.ppsLast = some t0) (hrun : s.rnd.ppsRun = 2)
    (hlo : 249975000 ≤ s.rnd.clk - t0) (hhi : s.rnd.clk - t0 ≤ 250025000) :
    Does (.ppsEdge true) s (fun t => t.fld RND_STATUS_PPS_LOCK = 1 ∧ t.evt RND_EVENT 8 ∧ t.rnd.ppsRun = 3) := by
  have hticks : s.ppsTicks = s.rnd.clk - t0 := by rw [State.ppsTicks, hlast]; rfl
  have hgood : s.ppsGood = true := by
    rw [State.ppsGood, hticks, hlast]
    exact decide_eq_true ⟨hlo, hhi⟩
  have hthird : s.ppsRunNow = 3 := by rw [State.ppsRunNow, hgood, hrun]; rfl
  refine ⟨s.ppsNoted.ppsLocks.ppsShown.discipline s.ppsTicks, ?_, ?_, ?_, ?_⟩
  · rw [exec_ppsEdge_rising hcut hen hpol, ppsEdge_third hlock harm hgood hthird]
  · rw [fld_of_reg_eq (discipline_reg _ _ _), ppsShown_lock, ppsLocks_lock]
  · rw [State.evt, discipline_reg, ppsShown_reg_ne (by decide)]
    exact ppsLocks_evt _
  · have hrnd : s.ppsNoted.ppsLocks.ppsShown.rnd = s.ppsNoted.rnd := ppsLocks_rnd _
    rw [discipline_ppsRun, hrnd]
    exact hthird

/-- Clause 4 of `Obligations.TimeCapture`. -/
theorem ppsEdge_ignored {s : State} (h : s.live RND_PPSCFG_EN ≠ 1 ∨ s.cutOff = true) (rising : Bool) : exec (.ppsEdge rising) s = .next s := by
  rw [exec_ppsEdge, if_neg]
  rintro ⟨hcut, hen, -⟩
  exact h.elim (fun hn => hn hen) hcut

/-- Clause 5 of `Obligations.TimeCapture`. -/
theorem ppsTimeout_loses {s : State} {t0 : Nat} (hlock : s.flag RND_STATUS_PPS_LOCK = true) (hlast : s.rnd.ppsLast = some t0)
    (hlate : 275000000 ≤ s.rnd.clk - t0) :
    Does .ppsTimeout s (fun t => t.fld RND_STATUS_PPS_LOCK = 0 ∧ t.rnd.ppsRun = 0 ∧ t.evt RND_EVENT 9) := by
  refine ⟨s.losePps, ?_, ?_, ?_, rndEvent_evt _ _ _ _⟩
  · show execPpsTimeout s = _
    rw [execPpsTimeout, hlast, hlock]
    exact congrArg Host.Outcome.next (if_pos (decide_eq_true hlate))
  · rw [State.losePps, (rndEvent_moves _ _ _ _).fld, fld_setFld _ _ _ _ _ (by decide), Nat.zero_mod]
  · rw [State.losePps, rndEvent_rnd]
    rfl

/-! ### NSSET (R44, R84) -/

/-- RND_NSSET_HI as a target of a write. -/
def nssetHi : Target :=
  { card := ⟨RND_NSSET_HI, 0, false, .hi, [⟨0, 32, .rw, false⟩]⟩, i := 0, j := 0, a := RND_NSSET_HI.base, view := false }

theorem target_nssetHi : target RND_NSSET_HI.base = some nssetHi := rfl
theorem msixAt_nssetHi : msixAt RND_NSSET_HI.base = none := rfl

/-- Requests that are served reach every register of the Round engine. -/
theorem notServed_of_serves {s : State} {rq : Requester} (h : s.serves rq) (off : Nat) : s.notServed rq off = false := by
  cases rq with
  | host => simp [State.notServed, (h rfl).1]
  | hub => rfl
  | debug => rfl
theorem barsOff_of_serves {s : State} {rq : Requester} (h : s.serves rq) : s.barsOff rq = false := by
  cases rq with
  | host => simp [State.barsOff, (h rfl).2]
  | hub => rfl
  | debug => rfl
theorem unreachable_of_serves {s : State} {rq : Requester} (h : s.serves rq) : s.unreachable rq RND_NSSET_HI.base = false :=
  notServed_of_serves h _

/-- A full write of RND_NSSET_HI that is served is the write of the pair (R84). -/
theorem busWrite_nssetHi {s : State} {rq : Requester} (h : s.serves rq) (v : Word) :
    s.busWrite rq RND_NSSET_HI.base 15 v = s.writePair rq nssetHi v := by
  have hwrite : s.regWrite rq RND_NSSET_HI.base 15 v = (s.writePair rq nssetHi v, none) := by
    rw [State.regWrite, if_neg (by decide), notServed_of_serves h, if_neg Bool.false_ne_true, if_neg (by decide), msixAt_nssetHi,
      target_nssetHi]
    dsimp only
    rw [unreachable_of_serves h]
    rfl
  rw [State.busWrite, barsOff_of_serves h, hwrite]
  rfl

/-- The staged low half of RND_NSSET that `rq` has written. -/
def State.nssetLow (s : State) (rq : Requester) : Word := (look s.stage (latchKey rq RND_NSSET_LO.base)).getD 0

/-- The pair RND_NSSET holds what has been written. -/
def State.nssetStored (s : State) (rq : Requester) (v : Word) : State :=
  (s.setReg RND_NSSET_LO.base (written ⟨RND_NSSET_LO, 0, false, .lo, [⟨0, 32, .rw, false⟩]⟩ (s.reg RND_NSSET_LO.base) 15
    (s.nssetLow rq))).storeReg nssetHi 15 v

theorem cardAt_nssetLo : cardAt RND_NSSET_LO.base = some ⟨RND_NSSET_LO, 0, false, .lo, [⟨0, 32, .rw, false⟩]⟩ := rfl

theorem writePair_nssetHi (s : State) (rq : Requester) (v : Word) :
    s.writePair rq nssetHi v = (s.nssetStored rq v).armNs ((s.nssetLow rq).toNat + 2 ^ 32 * v.toNat) := by
  have hlo : nssetHi.a - 4 = RND_NSSET_LO.base := rfl
  unfold State.writePair
  dsimp only
  rw [hlo, cardAt_nssetLo]
  rfl

theorem nssetStored_sameRegsBut (s : State) (rq : Requester) (v : Word) :
    sameRegsBut [RND_NSSET_LO.base, RND_NSSET_HI.base] s (s.nssetStored rq v) := fun a ha => by
  have hhi : a ≠ RND_NSSET_HI.base := fun h => ha (by simp [h])
  have hlo : a ≠ RND_NSSET_LO.base := fun h => ha (by simp [h])
  exact (reg_setReg_ne hhi).trans (reg_setReg_ne hlo)
theorem nssetStored_lock (s : State) (rq : Requester) (v : Word) :
    (s.nssetStored rq v).flag RND_STATUS_PPS_LOCK = s.flag RND_STATUS_PPS_LOCK := by
  rw [State.flag, fld_of_reg_eq (nssetStored_sameRegsBut s rq v _ (by decide)), State.flag]

/-- The command arms the load with both halves of the pair. -/
theorem exec_nssetArm_of_serves {s : State} {rq : Requester} {hi : Nat} (hhi : hi < 2 ^ 32) (h : s.serves rq) :
    exec (.nssetArm rq hi) s = .next ((s.nssetStored rq (BitVec.ofNat 32 hi)).armNs ((s.nssetLow rq).toNat + 2 ^ 32 * hi)) := by
  rw [exec_nssetArm, busWrite_nssetHi h, writePair_nssetHi, BitVec.toNat_ofNat, Nat.mod_eq_of_lt hhi]

/-- NSTIME as loaded, before the event is reported and a waiting NSSET command ends. -/
def State.nsLoaded (s : State) (v : Nat) : State :=
  ((s.setNstime v).setFld RND_STATUS_NS_VALID 1).modRnd (fun r => { r with nsArm := none, nsFrac := 0 })

/-- The load is reported. -/
def State.nsReported (s : State) (v : Nat) : State := (s.nsLoaded v).report RND_EVENT.base RND_INT_EN.base 10 4 0x010A 0 4 s.nstime

theorem loadNs_eq (s : State) (v : Nat) : ∃ f, s.loadNs v = (s.nsReported v).settle f := by
  unfold State.loadNs
  exact ⟨_, rfl⟩

theorem nsReported_reg {s : State} {v a : Nat} (hq : quiet a) (hne : a ≠ RND_EVENT.base) : (s.nsReported v).reg a = (s.nsLoaded v).reg a :=
  report_reg (by decide) hq hne
theorem nsReported_evt (s : State) (v : Nat) : (s.nsReported v).evt RND_EVENT 10 := report_bit (by decide) (by decide) (by decide)

/-- The end of a waiting NSSET command leaves the registers of the Round engine. -/
theorem loadNs_reg {s : State} {v a : Nat} (ha : offCmd a) : (s.loadNs v).reg a = (s.nsReported v).reg a := by
  obtain ⟨f, hf⟩ := loadNs_eq s v
  rw [hf, settle_reg ha]
theorem loadNs_evt (s : State) (v : Nat) : (s.loadNs v).evt RND_EVENT 10 := by
  rw [State.evt, loadNs_reg (by decide)]
  exact nsReported_evt s v

theorem reg_modRnd (s : State) (f : Rnd → Rnd) (a : Nat) : (s.modRnd f).reg a = s.reg a := rfl
theorem nsLoaded_reg {s : State} {v a : Nat} (h : a ≠ RND_STATUS.base) : (s.nsLoaded v).reg a = (s.setNstime v).reg a := by
  rw [State.nsLoaded, reg_modRnd, reg_setFld_ne h]
theorem nsLoaded_valid (s : State) (v : Nat) : (s.nsLoaded v).fld RND_STATUS_NS_VALID = 1 := by
  rw [State.nsLoaded, (RoundMoves.modRnd).fld, fld_setFld _ _ _ _ _ (by decide)]
  rfl

theorem setNstime_shows (s : State) (v : Nat) : (s.setNstime v).regN RND_NSTIME_HI = v / 2 ^ 32 % 2 ^ 32 ∧
    (s.setNstime v).regN RND_NSTIME_LO = v % 2 ^ 32 := by
  rw [State.setNstime, regN_setRegN, regN_setRegN_ne (by decide), regN_setRegN]
  exact ⟨rfl, rfl⟩

/-- What a load shows. -/
theorem loadNs_shows (s : State) (v : Nat) : (s.loadNs v).fld RND_STATUS_NS_VALID = 1 ∧ (s.loadNs v).regN RND_NSTIME_HI = v / 2 ^ 32 % 2 ^ 32 ∧
    (s.loadNs v).regN RND_NSTIME_LO = v % 2 ^ 32 := by
  obtain ⟨hhi, hlo⟩ := setNstime_shows s v
  refine ⟨?_, ?_, ?_⟩
  · rw [fld_of_reg_eq ((loadNs_reg (by decide)).trans (nsReported_reg (by decide) (by decide))), nsLoaded_valid]
  · rw [State.regN, loadNs_reg (by decide), nsReported_reg (by decide) (by decide), nsLoaded_reg (by decide), ← State.regN, hhi]
  · rw [State.regN, loadNs_reg (by decide), nsReported_reg (by decide) (by decide), nsLoaded_reg (by decide), ← State.regN, hlo]

/-- Clause 6 of `Obligations.TimeCapture`: with PPS not locked the load happens at once. -/
theorem nssetArm_loads {s : State} {rq : Requester} {hi : Nat} (hhi : hi < 2 ^ 32) (h : s.serves rq) (hlock : s.flag RND_STATUS_PPS_LOCK = false) :
    Does (.nssetArm rq hi) s (fun t => t.fld RND_STATUS_NS_VALID = 1 ∧ t.evt RND_EVENT 10 ∧ t.regN RND_NSTIME_HI = hi ∧
      t.regN RND_NSTIME_LO = (s.nssetLow rq).toNat) := by
  have hlow : (s.nssetLow rq).toNat < 2 ^ 32 := (s.nssetLow rq).isLt
  have hload : (s.nssetStored rq (BitVec.ofNat 32 hi)).armNs ((s.nssetLow rq).toNat + 2 ^ 32 * hi) =
      (s.nssetStored rq (BitVec.ofNat 32 hi)).loadNs ((s.nssetLow rq).toNat + 2 ^ 32 * hi) := by
    rw [State.armNs, nssetStored_lock, hlock, if_neg Bool.false_ne_true]
  obtain ⟨hvalid, hhigh, hlo⟩ := loadNs_shows (s.nssetStored rq (BitVec.ofNat 32 hi)) ((s.nssetLow rq).toNat + 2 ^ 32 * hi)
  refine ⟨_, (exec_nssetArm_of_serves hhi h).trans (congrArg Host.Outcome.next hload), hvalid, loadNs_evt _ _, ?_, ?_⟩
  · rw [hhigh]
    omega
  · rw [hlo]
    omega

/-- Clause 7 of `Obligations.TimeCapture`: with PPS locked the load waits for the edge. -/
theorem nssetArm_arms {s : State} {rq : Requester} {hi : Nat} (hhi : hi < 2 ^ 32) (h : s.serves rq) (hlock : s.flag RND_STATUS_PPS_LOCK = true) :
    Does (.nssetArm rq hi) s (fun t => t.nstime = s.nstime ∧ t.rnd.nsArm = some ((s.nssetLow rq).toNat + 2 ^ 32 * hi)) := by
  have harm : (s.nssetStored rq (BitVec.ofNat 32 hi)).armNs ((s.nssetLow rq).toNat + 2 ^ 32 * hi) =
      (s.nssetStored rq (BitVec.ofNat 32 hi)).modRnd fun r => { r with nsArm := some ((s.nssetLow rq).toNat + 2 ^ 32 * hi) } := by
    rw [State.armNs, nssetStored_lock, hlock, if_pos rfl]
  have hkept := nssetStored_sameRegsBut s rq (BitVec.ofNat 32 hi)
  refine ⟨_, (exec_nssetArm_of_serves hhi h).trans (congrArg Host.Outcome.next harm), ?_, rfl⟩
  have hlo := congrArg BitVec.toNat (hkept RND_NSTIME_LO.base (by decide))
  have hhigh := congrArg BitVec.toNat (hkept RND_NSTIME_HI.base (by decide))
  exact congrArg₂ (fun x y => x + 2 ^ 32 * y) hlo hhigh

/-- Settles O5: the snapshot by the registers it writes, an edge of PPS_IN by its steps, and NSSET_ARM by the write of the pair. -/
theorem timeCapture : Obligations.TimeCapture := by
  unfold Obligations.TimeCapture
  refine ⟨?_, ?_, ?_, ?_, ?_, ?_, ?_⟩
  · exact fun s h => rndSnap_captures h
  · exact fun s hcut hen hpol hlock hlast => ppsEdge_starts hcut hen hpol hlock hlast
  · exact fun s t0 hcut hen hpol hlock harm hlast hrun hlo hhi => ppsEdge_locks hcut hen hpol hlock harm hlast hrun hlo hhi
  · exact fun s h rising => ppsEdge_ignored h rising
  · exact fun s t0 hlock hlast hlate => ppsTimeout_loses hlock hlast hlate
  · exact fun s rq hi hhi h hlock => nssetArm_loads hhi h hlock
  · exact fun s rq hi hhi h hlock => nssetArm_arms hhi h hlock

end Sys2Proof.Machine
end

section
/-! Proofs/PatternBlock.lean: what the operations that the Pattern's commands share leave of its registers and of its state: events and records, the
end of a ring command, what the checker shows, a withdrawn activation, floors and their release. -/

namespace Sys2Proof.Machine
open Sys2Proof Sys2Proof.Machine.Reg

-- As in the files of Laws/: proofs elaborated side by side take the joined text past its memory limit.
set_option Elab.async false

/-! ### Fields of block PAT -/

/-- The field lies in block PAT below the floors, where no report and no end of a ring command writes. -/
abbrev patFld (f : Fld) : Prop := 0x30000 ≤ f.rg.at ∧ f.rg.at < 0x30080

/-- Two fields share no bit: they lie in two registers, or beside each other. -/
abbrev Fld.apart (f g : Fld) : Prop := f.rg.at ≠ g.rg.at ∨ f.beside g

/-- PAT_EVENT as one field: no event is lost where it reads the same. -/
def patEvents : Fld := ⟨PAT_EVENT, 0, 32⟩

theorem patFld.offCmd {f : Fld} (h : patFld f) : offCmd f.rg.at := ⟨(quiet_def _).2 (by omega), by omega⟩
theorem patFld.quietPost {f : Fld} (h : patFld f) : quietPost f.rg.at := by
  refine ⟨h.offCmd.1, ?_, ?_, ?_⟩ <;> exact offCmd_ne h.offCmd (by decide) (by decide)

theorem evt_iff_patEvents (s : State) (n : Nat) : s.evt PAT_EVENT n ↔ (s.fld patEvents).testBit n = true := by
  rw [State.fld]
  exact iff_of_eq (congrArg (fun x => Nat.testBit x n = true) (bits_zero_32 _).symm)
theorem evt_of_patEvents {s t : State} {n : Nat} (h : t.fld patEvents = s.fld patEvents) (hs : s.evt PAT_EVENT n) : t.evt PAT_EVENT n := by
  rw [evt_iff_patEvents, h, ← evt_iff_patEvents]
  exact hs

theorem fld_setFld_apart {s : State} {f g : Fld} {v : Nat} (h : f.apart g) (hw : g.lo + g.w ≤ 32) : (s.setFld g v).fld f = s.fld f :=
  h.elim fld_setFld_ne (fld_setFld_disj hw)
theorem fld_count_apart {s : State} {f g : Fld} {n : Nat} (h : f.apart g) (hw : g.lo + g.w ≤ 32) : (s.count g n).fld f = s.fld f :=
  fld_setFld_apart h hw
theorem fld_setRegN_ne {s : State} {f : Fld} {r : Rg} {v : Nat} (h : f.rg.at ≠ r.at) : (s.setRegN r v).fld f = s.fld f := fld_setReg_ne h
theorem reg_modPat (s : State) (g : Pat → Pat) (a : Nat) : (s.modPat g).reg a = s.reg a := rfl
theorem fld_modPat (s : State) (g : Pat → Pat) (f : Fld) : (s.modPat g).fld f = s.fld f := rfl
theorem fld_draw (s : State) (f : Fld) : s.draw.fld f = s.fld f := rfl
theorem pat_modPat (s : State) (g : Pat → Pat) : (s.modPat g).pat = g s.pat := rfl

/-! ### Events, records and the ends of ring commands -/

theorem patEvent_fld {s : State} {b : Nat} {f : Fld} (hf : patFld f) (he : f.rg.at ≠ PAT_EVENT.base) : (s.patEvent b).fld f = s.fld f :=
  fld_of_reg_eq (event_reg (by decide) hf.offCmd.1 he)
theorem patEvent_evt (s : State) {b : Nat} (hb : b < 32 := by decide) : (s.patEvent b).evt PAT_EVENT b := event_bit (by decide) (by decide) hb
theorem patEvent_evt_mono {s : State} {b n : Nat} (hn : s.evt PAT_EVENT n) (hb : b < 32 := by decide) : (s.patEvent b).evt PAT_EVENT n :=
  event_bit_mono (by decide) (by decide) hb hn
theorem patEvent_pat (s : State) (b : Nat) : (s.patEvent b).pat = s.pat :=
  (State.patEvent_only s b s (m' := 4609)).2 (Only.refl _ s) .pat (by decide)

theorem journal_fld {s : State} {code src sev data : Nat} {f : Fld} (hf : patFld f) : (s.journal code src sev data).fld f = s.fld f :=
  fld_of_reg_eq (journal_reg hf.offCmd.1)
theorem journalParts_fld {s : State} {code src sev : Nat} {l : List Nat} {f : Fld} (hf : patFld f) :
    (s.journalParts code src sev l).fld f = s.fld f := fld_of_reg_eq (journalParts_reg hf.offCmd.1 l s)
theorem health_fld {s : State} {code src job grp s1 sn c : Nat} {f : Fld} (hf : patFld f) : (s.health code src job grp s1 sn c).fld f = s.fld f :=
  fld_of_reg_eq (health_reg hf.quietPost)

theorem patReport_fld {s : State} {b sev res job group : Nat} {f : Fld} (hf : patFld f) (he : f.rg.at ≠ PAT_EVENT.base) :
    (s.patReport b sev res job group).fld f = s.fld f := (journal_fld hf).trans (patEvent_fld hf he)
theorem patReport_evt (s : State) {b sev res job group : Nat} (hb : b < 32 := by decide) : (s.patReport b sev res job group).evt PAT_EVENT b :=
  evt_of_patEvents (journal_fld (by decide)) (patEvent_evt s hb)
theorem patReport_pat (s : State) (b sev res job group : Nat) : (s.patReport b sev res job group).pat = s.pat :=
  (State.patReport_only s b sev res job group s (m' := 8458753)).2 (Only.refl _ s) .pat (by decide)

theorem settle_fld {s : State} {g : State → Wait → Option (Nat × List Nat)} {f : Fld} (hf : patFld f) : (s.settle g).fld f = s.fld f :=
  fld_of_reg_eq (settle_reg hf.offCmd)
theorem settle_pat (s : State) (g : State → Wait → Option (Nat × List Nat)) : (s.settle g).pat = s.pat :=
  (State.settle_only s g s (m' := 8467969)).2 (Only.refl _ s) .pat (by decide)

/-! ### What the checker shows (R62) -/

theorem putReport_fld {s : State} {r : AdmReport} {f : Fld}
    (hf : f.rg.at ∉ [PAT_ADM_RESULT.base, PAT_ADM_WIN.base, PAT_ADM_RES.base, PAT_ADM_EXCESS.base]) : (s.putReport r).fld f = s.fld f := by
  simp only [List.mem_cons, List.not_mem_nil, or_false, not_or] at hf
  obtain ⟨hresult, hwin, hres, hexcess⟩ := hf
  rw [State.putReport, fld_setRegN_ne hexcess, fld_setRegN_ne hres, fld_setRegN_ne hwin, fld_setRegN_ne hresult]

/-- CODE is the low byte of PAT_ADM_RESULT, whatever the fields above it show. -/
theorem putReport_code (s : State) (r : AdmReport) : (s.putReport r).fld PAT_ADM_RESULT_CODE = r.code % 256 := by
  have hlow (c : Nat) : bits (BitVec.ofNat 32 (r.code + 2 ^ 8 * r.step + 2 ^ 11 * c + 2 ^ 16 * (r.job % 2048))) 0 8 = r.code % 256 := by
    rw [bits, BitVec.toNat_ofNat]
    omega
  have hcarry : (if r.carry then 2 ^ 11 else 0) = 2 ^ 11 * (if r.carry then 1 else 0) := by split <;> rfl
  rw [State.putReport, fld_setRegN_ne (by decide), fld_setRegN_ne (by decide), fld_setRegN_ne (by decide), hcarry]
  exact (congrArg (fun w => bits w 0 8) (reg_setReg_same _ _ _)).trans (hlow _)

theorem noteAdm_fld {s : State} {f : Fld} (hf : f.apart PAT_STATUS_ADM_STATE) : s.noteAdm.fld f = s.fld f := fld_setFld_apart hf (by decide)
theorem noteAdm_pat (s : State) : s.noteAdm.pat = s.pat := rfl

theorem noteAdm_running {s : State} {bs : List Nat} (hreadm : s.pat.readm = none) (himg : s.pat.img = some bs) :
    s.noteAdm.fld PAT_STATUS_ADM_STATE = 1 := by
  simp [State.noteAdm, fld_setFld, PAT_STATUS_ADM_STATE, hreadm, himg]
theorem noteAdm_passed {s : State} {p : Image × Nat × Nat} (hreadm : s.pat.readm = none) (himg : s.pat.img = none) (h : s.pat.admitted = some p) :
    s.noteAdm.fld PAT_STATUS_ADM_STATE = 2 := by
  simp [State.noteAdm, fld_setFld, PAT_STATUS_ADM_STATE, hreadm, himg, h]
theorem noteAdm_refused {s : State} (hreadm : s.pat.readm = none) (himg : s.pat.img = none) (h : s.pat.admitted = none)
    (hcode : s.fld PAT_ADM_RESULT_CODE ≠ 0) : s.noteAdm.fld PAT_STATUS_ADM_STATE = 3 := by
  simp [State.noteAdm, fld_setFld, PAT_STATUS_ADM_STATE, hreadm, himg, h, hcode]

/-! ### A waiting activation is withdrawn (R63) -/

theorem withdraw_fld {s : State} {f : Fld} (hf : patFld f) (hact : f.apart PAT_CTRL_ACTIVATE) (hwait : f.apart PAT_STATUS_ACT_WAIT) :
    s.withdraw.fld f = s.fld f := by
  rw [State.withdraw, settle_fld hf, fld_modPat, fld_setFld_apart hwait (by decide), fld_setFld_apart hact (by decide)]
theorem withdraw_activate (s : State) : s.withdraw.fld PAT_CTRL_ACTIVATE = 0 := by
  rw [State.withdraw, settle_fld (by decide), fld_modPat, fld_setFld_apart (by decide) (by decide), fld_setFld _ _ _ _ _ (by decide), Nat.zero_mod]
theorem withdraw_actWait (s : State) : s.withdraw.fld PAT_STATUS_ACT_WAIT = 0 := by
  rw [State.withdraw, settle_fld (by decide), fld_modPat, fld_setFld _ _ _ _ _ (by decide), Nat.zero_mod]
theorem withdraw_pat (s : State) : s.withdraw.pat = { s.pat with act := none } := by
  rw [State.withdraw, settle_pat]
  rfl

theorem cancelAct_of_waiting {s : State} (h : s.pat.act.isSome = true) : s.cancelAct = s.withdraw := if_pos h
theorem cancelAct_of_none {s : State} (h : s.pat.act = none) : s.cancelAct = s := if_neg (by simp [h])

theorem cancelAct_fld {s : State} {f : Fld} (hf : patFld f) (hact : f.apart PAT_CTRL_ACTIVATE) (hwait : f.apart PAT_STATUS_ACT_WAIT) :
    s.cancelAct.fld f = s.fld f := by
  unfold State.cancelAct
  split
  · exact withdraw_fld hf hact hwait
  · rfl
theorem cancelAct_pat (s : State) : s.cancelAct.pat = { s.pat with act := none } := by
  cases hact : s.pat.act with
  | none => rw [cancelAct_of_none hact, ← hact]
  | some a => rw [cancelAct_of_waiting (by rw [hact]; rfl), withdraw_pat]

/-! ### Floors, and their release (R59, R65) -/

theorem patFloor_at (k : Nat) : PAT_FLOOR.at k = 0x30080 + 4 * k := rfl
theorem clkCore_at (n : Nat) : CLK_CORE.at n = 0xD2000 + 4 * n := rfl
theorem meshStatus_at : MESH_STATUS.at = 0x400004 := rfl

theorem putFloor_fld {s : State} {n v : Nat} {f : Fld} (hf : patFld f) : (s.putFloor n v).fld f = s.fld f := by
  have hfloor : f.rg.at ≠ PAT_FLOOR.at (n / 4) := by rw [patFloor_at]; omega
  have hclk : f.rg.at ≠ CLK_CORE_FREQ.rg.at n := fun h => by
    have hat : CLK_CORE_FREQ.rg.at n = 0xD2000 + 4 * n := clkCore_at n
    omega
  unfold State.putFloor
  dsimp only
  split
  · exact fld_setReg_ne hfloor
  · split <;> exact (fld_setFld_ne hclk).trans (fld_setReg_ne hfloor)
theorem putFloor_pat (s : State) (n v : Nat) : (s.putFloor n v).pat = s.pat := by
  unfold State.putFloor
  dsimp only
  split
  · rfl
  · split <;> rfl

theorem setFloor_fld {s : State} {n v : Nat} {f : Fld} (hf : patFld f) : (s.setFloor n v).fld f = s.fld f := putFloor_fld hf
theorem setFloor_deact (s : State) (n v : Nat) : (s.setFloor n v).pat.deact = s.pat.deact := by
  rw [State.setFloor, putFloor_pat]
  rfl

/-- What every step of a fold leaves, the fold leaves. -/
theorem foldl_leaves {α β : Type} (g : State → β) {f : State → α → State} (h : ∀ u x, g (f u x) = g u) (l : List α) (s : State) :
    g (l.foldl f s) = g s := by
  induction l generalizing s with
  | nil => rfl
  | cons x rest ih => rw [List.foldl_cons, ih, h]

theorem floors_fld {s : State} {l : List Nat} {v : Nat → Nat} {f : Fld} (hf : patFld f) :
    (l.foldl (fun s n => s.setFloor n (v n)) s).fld f = s.fld f := foldl_leaves (fun u => u.fld f) (fun _ _ => setFloor_fld hf) l s
theorem floors_deact (s : State) (l : List Nat) (v : Nat → Nat) :
    (l.foldl (fun s n => s.setFloor n (v n)) s).pat.deact = s.pat.deact := foldl_leaves (fun u => u.pat.deact) (fun _ _ => setFloor_deact _ _ _) l s

theorem dropDrains_fld {s : State} {f : Fld} (hf : patFld f) : s.dropDrains.fld f = s.fld f := by
  unfold State.dropDrains
  split
  · rfl
  · exact (foldl_leaves (fun u => u.fld f) (fun _ _ => putFloor_fld hf) _ _).trans (fld_modPat _ _ _)
theorem dropDrains_deact (s : State) : s.dropDrains.pat.deact = s.pat.deact := by
  unfold State.dropDrains
  split
  · rfl
  · dsimp only
    refine (foldl_leaves (fun u => u.pat.deact) (fun _ _ => ?_) _ _).trans ?_
    · rw [putFloor_pat]
    · rw [pat_modPat]

theorem dropDraining_fld {s : State} {f : Fld} (hf : patFld f) : s.dropDraining.fld f = s.fld f := by
  unfold State.dropDraining
  split
  · rw [fld_modPat, floors_fld hf]
  · rfl
theorem dropDraining_deact (s : State) : s.dropDraining.pat.deact = s.pat.deact := by
  unfold State.dropDraining
  split
  · rw [pat_modPat, floors_deact]
  · rfl

/-- The release drops floors, clears MESH_STATUS.RSVACT and ends a waiting command: what each of these leaves, it leaves. -/
theorem releasePattern_leaves {β : Type} (g : State → β) {s : State} (hdrop : g s.dropDrains.dropDraining = g s)
    (hclear : ∀ u : State, g (u.setFld MESH_STATUS_RSVACT 0) = g u) (hsettle : ∀ (u : State) f, g (u.settle f) = g u) :
    g s.releasePattern = g s := by
  unfold State.releasePattern
  dsimp only
  (repeat' split) <;> simp only [hsettle, hclear, hdrop]
theorem releasePattern_fld {s : State} {f : Fld} (hf : patFld f) : s.releasePattern.fld f = s.fld f := by
  have hmesh : f.rg.at ≠ MESH_STATUS_RSVACT.rg.at := fun h => by
    have hat : MESH_STATUS_RSVACT.rg.at = 0x400004 := meshStatus_at
    omega
  exact releasePattern_leaves (fun u => u.fld f) ((dropDraining_fld hf).trans (dropDrains_fld hf)) (fun _ => fld_setFld_ne hmesh)
    (fun _ _ => settle_fld hf)
theorem releasePattern_deact (s : State) : s.releasePattern.pat.deact = s.pat.deact :=
  releasePattern_leaves (fun u => u.pat.deact) ((dropDraining_deact _).trans (dropDrains_deact s)) (fun _ => rfl)
    (fun _ _ => congrArg Pat.deact (settle_pat _ _))

end Sys2Proof.Machine
end

section
/-! Proofs/PatternAdmission.lean: admission, activation and deactivation of a Pattern (`Obligations.PatternAdmission`, O10): what the requests of
PAT_CTRL leave, the two ends of an admission, and what stitch 0 makes of the requests that wait for it. -/

namespace Sys2Proof.Machine
open Sys2Proof Sys2Proof.Machine.Reg

-- As in the files of Laws/: proofs elaborated side by side take the joined text past its memory limit.
set_option Elab.async false

/-! ### The commands -/

theorem exec_patCtrlAdmit {s : State} (h : s.reaches .host PAT_CTRL.base) : exec .patCtrlAdmit s = .next s.startAdmission.1 :=
  reached_of_reaches h _ _ _
theorem exec_patCtrlActivate {s : State} (h : s.reaches .host PAT_CTRL.base) : exec .patCtrlActivate s = .next s.activate.1 :=
  reached_of_reaches h _ _ _
theorem exec_patCtrlDeactivate {s : State} (h : s.reaches .host PAT_CTRL.base) : exec .patCtrlDeactivate s = .next s.deactivate :=
  reached_of_reaches h _ _ _
theorem exec_patCtrlCancel {s : State} (h : s.reaches .host PAT_CTRL.base) : exec .patCtrlCancel s = .next s.cancelAct :=
  reached_of_reaches h _ _ _

theorem exec_admissionDone {s : State} {bs : List Nat} (himg : s.pat.img = some bs) (hfrozen : s.frozenAdm = false) :
    exec .admissionDone s = .next (s.endAdmission bs) := by
  show execAdmissionDone s = _
  rw [execAdmissionDone, himg, hfrozen]
  rfl

theorem exec_patternActivation {s : State} (hround : s.atRound = true) (hfirst : s.pat.deactFirst = false) :
    exec .patternActivation s = .next s.tryActivate := by
  show execPatternActivation s = _
  rw [execPatternActivation, if_pos hround, hfirst, if_neg Bool.false_ne_true]

/-- At stitch 0 a deactivation is tried, after the activation where that was written first (R65). -/
theorem exec_patternDeactivation {s : State} (hround : s.atRound = true) :
    exec .patternDeactivation s = .next (if s.pat.deactFirst then s.tryDeactivate else s.tryActivate.tryDeactivate) := if_pos hround

/-! ### ADMIT (R55) -/

theorem startAdmission_of_idle {s : State} (h : s.admitting = false) : s.startAdmission.1 = ((s.setFld PAT_CTRL_ADMIT 1).modPat fun p =>
    { p with img := some (s.hubBytes (64 * s.fld PAT_IMG_BASE_BASE) (min (s.fld PAT_IMG_LEN_LEN) 73793)),
             imgAt := 64 * s.fld PAT_IMG_BASE_BASE, imgLen := s.fld PAT_IMG_LEN_LEN, touched := false }).noteAdm := by
  rw [State.startAdmission, h]
  rfl

theorem readm_of_idle {s : State} (h : s.admitting = false) : s.pat.readm = none := by
  rw [State.admitting, Bool.or_eq_false_iff, Bool.or_eq_false_iff] at h
  obtain ⟨⟨-, hreadm⟩, -⟩ := h
  exact Option.isNone_iff_eq_none.1 (Option.isSome_eq_false_iff.1 hreadm)

/-- Clause 1 of `Obligations.PatternAdmission`. -/
theorem patCtrlAdmit_starts {s : State} (hreach : s.reaches .host PAT_CTRL.base) (hidle : s.admitting = false) :
    Does .patCtrlAdmit s (fun t => t.fld PAT_CTRL_ADMIT = 1 ∧ t.fld PAT_STATUS_ADM_STATE = 1 ∧
      t.pat.img = some (s.hubBytes (64 * s.fld PAT_IMG_BASE_BASE) (min (s.fld PAT_IMG_LEN_LEN) 73793)) ∧ t.pat.active = s.pat.active) := by
  refine ⟨_, exec_patCtrlAdmit hreach, ?_⟩
  rw [startAdmission_of_idle hidle]
  have hreadm := readm_of_idle hidle
  refine ⟨?_, noteAdm_running hreadm rfl, rfl, rfl⟩
  rw [noteAdm_fld (by decide), fld_modPat, fld_setFld _ _ _ _ _ (by decide)]
  rfl

/-! ### An admission ends (R55, R62) -/

/-- The state the verdict is shown in: two free values have gone where the memory of the image was changed meanwhile (R55). -/
def State.admDrawn (s : State) : State := if s.pat.touched then s.draw.draw else s

/-- The verdict is shown and reported: `rep` in the result registers, `adm` the Pattern kept, if it passed. -/
def State.concluded (s : State) (rep : AdmReport) (adm : Option (Image × Nat × Nat)) : State :=
  ((((s.putReport rep).modPat fun p => { p with img := none, touched := false, admitted := adm }).setFld PAT_CTRL_ADMIT 0).noteAdm).patEvent
    (if adm.isSome then 0 else 1)

theorem admDrawn_pat (s : State) : s.admDrawn.pat = s.pat := by
  unfold State.admDrawn
  split <;> rfl

/-- An image that passes, and that nothing has touched or the free choice of R55 lets pass, is kept with the band it passed at. -/
theorem endAdmission_of_pass {s : State} {bs : List Nat} {im : Image} (hv : s.verdict bs = .inr im)
    (hok : s.pat.touched = false ∨ Config.freeBool s.free = true) :
    ∃ g, s.endAdmission bs = (s.admDrawn.concluded { code := 0 } (some (im, s.bandNow.1, s.bandNow.2))).settle g := by
  have hband : s.admDrawn.bandNow = s.bandNow := by
    unfold State.admDrawn
    split <;> rfl
  have hyes : (!s.pat.touched || Config.freeBool s.free) = true := by
    rcases hok with h | h <;> simp [h]
  rw [← hband]
  unfold State.endAdmission
  simp only [hv, hyes, Bool.not_true, Bool.and_false, Bool.false_eq_true, if_false, if_true]
  exact ⟨_, rfl⟩

/-- A refusal shows the checker's report where the image was not touched. -/
theorem endAdmission_of_refusal {s : State} {bs : List Nat} {r : AdmReport} (hv : s.verdict bs = .inl r) (ht : s.pat.touched = false) :
    ∃ g, s.endAdmission bs = (s.admDrawn.concluded r none).cancelAct.settle g := by
  unfold State.endAdmission State.admDrawn
  simp only [hv, ht, Bool.not_false, Bool.and_true, Bool.false_eq_true, if_false]
  exact ⟨_, rfl⟩

theorem concluded_pat (s : State) (rep : AdmReport) (adm : Option (Image × Nat × Nat)) :
    (s.concluded rep adm).pat = { s.pat with img := none, touched := false, admitted := adm } := by
  rw [State.concluded, patEvent_pat]
  rfl
theorem concluded_evt (s : State) (rep : AdmReport) (adm : Option (Image × Nat × Nat)) :
    (s.concluded rep adm).evt PAT_EVENT (if adm.isSome then 0 else 1) := patEvent_evt _ (by split <;> decide)
theorem concluded_fld (s : State) (rep : AdmReport) (adm : Option (Image × Nat × Nat)) :
    (s.concluded rep adm).fld PAT_ADM_RESULT_CODE = rep.code % 256 ∧ (s.concluded rep adm).fld PAT_CTRL_ADMIT = 0 := by
  unfold State.concluded
  constructor
  · rw [patEvent_fld (by decide) (by decide), noteAdm_fld (by decide), fld_setFld_apart (by decide) (by decide), fld_modPat, putReport_code]
  · rw [patEvent_fld (by decide) (by decide), noteAdm_fld (by decide), fld_setFld _ _ _ _ _ (by decide), Nat.zero_mod]

/-- What a verdict has shown stays when a waiting activation is withdrawn and when a ring command ends. -/
theorem cancelAct_settle_fld {s : State} {g : State → Wait → Option (Nat × List Nat)} {f : Fld}
    (hf : f ∈ [PAT_ADM_RESULT_CODE, PAT_CTRL_ADMIT, PAT_STATUS_ADM_STATE, patEvents] := by decide) : (s.cancelAct.settle g).fld f = s.fld f := by
  have hpat : patFld f := by revert f; decide
  have hact : f.apart PAT_CTRL_ACTIVATE := by revert f; decide
  have hwait : f.apart PAT_STATUS_ACT_WAIT := by revert f; decide
  rw [settle_fld hpat, cancelAct_fld hpat hact hwait]

/-- Clause 2 of `Obligations.PatternAdmission`. -/
theorem admissionDone_passes {s : State} {bs : List Nat} {im : Image} (himg : s.pat.img = some bs) (hfrozen : s.frozenAdm = false)
    (ht : s.pat.touched = false) (hv : s.verdict bs = .inr im) :
    Does .admissionDone s (fun t => t.pat.admitted = some (im, s.bandNow.1, s.bandNow.2) ∧ t.pat.active = s.pat.active ∧ t.pat.img = none ∧
      t.fld PAT_ADM_RESULT_CODE = 0 ∧ t.fld PAT_CTRL_ADMIT = 0 ∧ t.evt PAT_EVENT 0) := by
  obtain ⟨g, hend⟩ := endAdmission_of_pass hv (.inl ht)
  obtain ⟨hcode, hadmit⟩ := concluded_fld s.admDrawn { code := 0 } (some (im, s.bandNow.1, s.bandNow.2))
  refine ⟨_, (exec_admissionDone himg hfrozen).trans (congrArg Host.Outcome.next hend), ?_⟩
  beta_reduce
  rw [settle_pat, concluded_pat, admDrawn_pat, settle_fld (by decide), settle_fld (by decide), hcode, hadmit]
  exact ⟨rfl, rfl, rfl, rfl, rfl, evt_of_patEvents (settle_fld (by decide)) (concluded_evt _ _ _)⟩

/-- Clause 3 of `Obligations.PatternAdmission`. -/
theorem admissionDone_refuses {s : State} {bs : List Nat} {r : AdmReport} (himg : s.pat.img = some bs) (hfrozen : s.frozenAdm = false)
    (ht : s.pat.touched = false) (hv : s.verdict bs = .inl r) :
    Does .admissionDone s (fun t => t.pat.admitted = none ∧ t.pat.active = s.pat.active ∧ t.pat.img = none ∧
      t.fld PAT_ADM_RESULT_CODE = r.code % 256 ∧ t.fld PAT_CTRL_ADMIT = 0 ∧ t.evt PAT_EVENT 1) := by
  obtain ⟨g, hend⟩ := endAdmission_of_refusal hv ht
  obtain ⟨hcode, hadmit⟩ := concluded_fld s.admDrawn r none
  refine ⟨_, (exec_admissionDone himg hfrozen).trans (congrArg Host.Outcome.next hend), ?_⟩
  beta_reduce
  rw [settle_pat, cancelAct_pat, concluded_pat, admDrawn_pat, cancelAct_settle_fld, cancelAct_settle_fld, hcode, hadmit]
  exact ⟨rfl, rfl, rfl, rfl, rfl, evt_of_patEvents cancelAct_settle_fld (concluded_evt _ _ _)⟩

/-! ### ACTIVATE, DEACTIVATE and CANCEL (R63, R65) -/

theorem activate_of_admitted {s : State} (h : s.pat.admitted.isSome = true) (hact : s.pat.act = none) :
    s.activate.1 = ((s.setFld PAT_CTRL_ACTIVATE 1).setFld PAT_STATUS_ACT_WAIT 1).modPat fun p =>
      { p with act := some s.absStitch, deactFirst := s.pat.deact } := by
  have hsome : ¬ s.pat.admitted.isNone = true := by
    rw [Option.isNone_iff_eq_none]
    exact Option.isSome_iff_ne_none.1 h
  rw [State.activate, if_neg hsome, hact]
  rfl

/-- Clause 4 of `Obligations.PatternAdmission`. -/
theorem patCtrlActivate_waits {s : State} (hreach : s.reaches .host PAT_CTRL.base) (hadm : s.pat.admitted.isSome = true) (hact : s.pat.act = none) :
    Does .patCtrlActivate s (fun t => t.fld PAT_STATUS_ACT_WAIT = 1 ∧ t.fld PAT_CTRL_ACTIVATE = 1 ∧ t.pat.act = some s.absStitch ∧
      t.pat.active = s.pat.active) := by
  refine ⟨_, exec_patCtrlActivate hreach, ?_⟩
  rw [activate_of_admitted hadm hact]
  refine ⟨?_, ?_, rfl, rfl⟩
  · rw [fld_modPat, fld_setFld _ _ _ _ _ (by decide)]
    rfl
  · rw [fld_modPat, fld_setFld_apart (by decide) (by decide), fld_setFld _ _ _ _ _ (by decide)]
    rfl

/-- Clause 6 of `Obligations.PatternAdmission`. -/
theorem patCtrlDeactivate_waits {s : State} (hreach : s.reaches .host PAT_CTRL.base) :
    Does .patCtrlDeactivate s (fun t => t.fld PAT_CTRL_DEACTIVATE = 1 ∧ t.pat.deact = true ∧ t.pat.active = s.pat.active ∧
      sameRegsBut [PAT_CTRL.base] s t) := by
  refine ⟨_, exec_patCtrlDeactivate hreach, ?_, rfl, rfl, fun a ha => ?_⟩
  · rw [State.deactivate, fld_modPat, fld_setFld _ _ _ _ _ (by decide)]
    rfl
  · have hne : a ≠ PAT_CTRL_DEACTIVATE.rg.at := List.ne_of_not_mem_cons ha
    rw [State.deactivate, reg_modPat, reg_setFld_ne hne]

/-- Clause 8 of `Obligations.PatternAdmission`. -/
theorem patCtrlCancel_withdraws {s : State} (hreach : s.reaches .host PAT_CTRL.base) (hact : s.pat.act.isSome = true) :
    Does .patCtrlCancel s (fun t => t.pat.act = none ∧ t.fld PAT_STATUS_ACT_WAIT = 0 ∧ t.fld PAT_CTRL_ACTIVATE = 0 ∧
      t.pat.active = s.pat.active) := by
  refine ⟨_, (exec_patCtrlCancel hreach).trans (congrArg Host.Outcome.next (cancelAct_of_waiting hact)), ?_⟩
  beta_reduce
  rw [withdraw_pat]
  exact ⟨rfl, withdraw_actWait s, withdraw_activate s, rfl⟩

/-- Clause 9 of `Obligations.PatternAdmission`. -/
theorem patCtrlCancel_idle {s : State} (hreach : s.reaches .host PAT_CTRL.base) (hact : s.pat.act = none) : exec .patCtrlCancel s = .next s := by
  rw [exec_patCtrlCancel hreach, cancelAct_of_none hact]

/-! ### Stitch 0: the admitted Pattern becomes active (R63) -/

/-- RND_COUNT has 48 bits. -/
theorem count48_lt_two_pow_48 (s : State) : s.count48 < 2 ^ 48 := by
  have hlo := regN_lt s RND_COUNT_LO 0 0
  have hhi : s.fld RND_COUNT_HI_COUNT < 2 ^ 16 := fld_lt _ _ _ _
  rw [State.count48]
  omega

theorem regN_actCntLo (s : State) : s.regN PAT_ACT_CNT_LO = s.fld PAT_ACT_CNT_LO_RND := (bits_zero_32 _).symm

theorem nowActive_pat (s : State) (im : Image) :
    (s.nowActive im).pat.active = some im ∧ (s.nowActive im).pat.shed = [] ∧ (s.nowActive im).pat.act = none := by
  unfold State.nowActive
  simp only [settle_pat, patEvent_pat, noteAdm_pat, pat_modPat, and_self]

theorem nowActive_status (s : State) (im : Image) : (s.nowActive im).fld PAT_STATUS_ACTIVE = 1 ∧
    (s.nowActive im).fld PAT_STATUS_LEN = (im.rounds - 1) % 16 ∧ (s.nowActive im).fld PAT_STATUS_RIDX = 0 := by
  unfold State.nowActive
  simp (disch := decide) only [settle_fld, patEvent_fld, noteAdm_fld, fld_modPat, fld_setFld_apart, floors_fld, fld_setRegN_ne, fld_setFld]
  exact ⟨rfl, rfl, rfl⟩

theorem nowActive_evt (s : State) (im : Image) : (s.nowActive im).evt PAT_EVENT 2 := by
  unfold State.nowActive
  exact evt_of_patEvents (settle_fld (by decide)) (patEvent_evt _)

theorem setRegN_actCntLo (s : State) (v : Nat) : (s.setRegN PAT_ACT_CNT_LO v).fld PAT_ACT_CNT_LO_RND = v % 2 ^ 32 := by
  rw [← regN_actCntLo, regN_setRegN]

theorem nowActive_actCnt (s : State) (im : Image) : (s.nowActive im).actCnt = s.count48 := by
  have hcount := count48_lt_two_pow_48 s
  have hlo : (s.nowActive im).fld PAT_ACT_CNT_LO_RND = s.count48 % 2 ^ 32 := by
    unfold State.nowActive
    simp (disch := decide) only [settle_fld, patEvent_fld, noteAdm_fld, fld_modPat, fld_setFld_apart, floors_fld, fld_setRegN_ne, setRegN_actCntLo]
  have hhi : (s.nowActive im).fld PAT_ACT_CNT_HI_RND = s.count48 / 2 ^ 32 % 2 ^ 16 := by
    unfold State.nowActive
    simp (disch := decide) only [settle_fld, patEvent_fld, noteAdm_fld, fld_modPat, fld_setFld_apart, floors_fld, fld_setRegN_ne, fld_setFld]
    rfl
  rw [State.actCnt, regN_actCntLo, hlo, hhi]
  omega

/-- A Pattern that drains is put aside; the requests that wait stay. -/
theorem nowActive_deact (s : State) (im : Image) : (s.nowActive im).pat.deact = s.pat.deact := by
  unfold State.nowActive
  simp only [settle_pat, patEvent_pat, noteAdm_pat, pat_modPat, setFld_pat, setRegN_pat, floors_deact]
  split
  · split <;> rfl
  · rfl

theorem tryActivate_of_ready {s : State} {a lo hi : Nat} {im : Image} (hact : s.pat.act = some a) (hadm : s.pat.admitted = some (im, lo, hi))
    (helig : s.actEligible a = true) (hband : s.bandNow = (lo, hi)) : s.tryActivate = s.nowActive im := by
  rw [State.tryActivate, hact, hadm]
  dsimp only
  rw [if_neg (not_not_intro helig), if_pos hband]

/-- Clause 5 of `Obligations.PatternAdmission`. -/
theorem patternActivation_activates {s : State} {a lo hi : Nat} {im : Image} (hround : s.atRound = true) (hfirst : s.pat.deactFirst = false)
    (hact : s.pat.act = some a) (hadm : s.pat.admitted = some (im, lo, hi)) (helig : s.actEligible a = true) (hband : s.bandNow = (lo, hi)) :
    Does .patternActivation s (fun t => t.pat.active = some im ∧ t.pat.shed = [] ∧ t.pat.act = none ∧
      t.fld PAT_STATUS_ACTIVE = 1 ∧ t.fld PAT_STATUS_LEN = (im.rounds - 1) % 16 ∧ t.fld PAT_STATUS_RIDX = 0 ∧ t.actCnt = s.count48 ∧
      t.evt PAT_EVENT 2) := by
  have htry := tryActivate_of_ready hact hadm helig hband
  obtain ⟨hactive, hshed, hnone⟩ := nowActive_pat s im
  obtain ⟨hon, hlen, hridx⟩ := nowActive_status s im
  exact ⟨_, (exec_patternActivation hround hfirst).trans (congrArg Host.Outcome.next htry), hactive, hshed, hnone, hon, hlen, hridx,
    nowActive_actCnt s im, nowActive_evt s im⟩

/-! ### Stitch 0: the band has changed, and the activation is refused (R63) -/

/-- ADM_BAND is shown and reported: the admission is gone, and with it the request. -/
def State.bandRefused (s : State) : State :=
  (((((s.putReport { code := 0x0C }).modPat fun p => { p with admitted := none, act := none }).setFld PAT_CTRL_ACTIVATE 0).setFld
    PAT_STATUS_ACT_WAIT 0).noteAdm).patEvent 1

theorem tryActivate_of_band {s : State} {a lo hi : Nat} {im : Image} (hact : s.pat.act = some a) (hadm : s.pat.admitted = some (im, lo, hi))
    (helig : s.actEligible a = true) (hband : s.bandNow ≠ (lo, hi)) : ∃ g, s.tryActivate = s.bandRefused.settle g := by
  rw [State.tryActivate, hact, hadm]
  dsimp only
  rw [if_neg (not_not_intro helig), if_neg hband]
  exact ⟨_, rfl⟩

theorem bandRefused_pat (s : State) : s.bandRefused.pat = { s.pat with admitted := none, act := none } := by
  rw [State.bandRefused, patEvent_pat]
  rfl
theorem bandRefused_code (s : State) : s.bandRefused.fld PAT_ADM_RESULT_CODE = 0x0C := by
  rw [State.bandRefused, patEvent_fld (by decide) (by decide), noteAdm_fld (by decide), fld_setFld_apart (by decide) (by decide),
    fld_setFld_apart (by decide) (by decide), fld_modPat, putReport_code]
  rfl
theorem bandRefused_active (s : State) : s.bandRefused.fld PAT_STATUS_ACTIVE = s.fld PAT_STATUS_ACTIVE := by
  rw [State.bandRefused, patEvent_fld (by decide) (by decide), noteAdm_fld (by decide), fld_setFld_apart (by decide) (by decide),
    fld_setFld_apart (by decide) (by decide), fld_modPat, putReport_fld (by decide)]
theorem bandRefused_evt (s : State) : s.bandRefused.evt PAT_EVENT 1 := patEvent_evt _

/-! ### Stitch 0: firing stops (R65) -/

/-- An attempt to activate leaves the request for a deactivation, whether nothing waits, the Pattern becomes active or the band refuses it. -/
theorem tryActivate_deact (s : State) : s.tryActivate.pat.deact = s.pat.deact := by
  cases hact : s.pat.act with
  | none => rw [State.tryActivate, hact]
  | some a =>
    cases hadm : s.pat.admitted with
    | none => rw [State.tryActivate, hact, hadm]
    | some p =>
      obtain ⟨im, lo, hi⟩ := p
      by_cases helig : s.actEligible a = true
      · by_cases hband : s.bandNow = (lo, hi)
        · rw [tryActivate_of_ready hact hadm helig hband, nowActive_deact]
        · obtain ⟨g, hg⟩ := tryActivate_of_band hact hadm helig hband
          rw [hg, settle_pat, bandRefused_pat]
      · rw [State.tryActivate, hact, hadm]
        dsimp only
        rw [if_pos helig]

/-- Firing has stopped, with PAT_EVENT.DEACTIVATED where it had been on, before waiting commands end and anything is released. -/
def State.firingStopped (s : State) : State :=
  let u := (((s.setFld PAT_CTRL_DEACTIVATE 0).setFld PAT_STATUS_ACTIVE 0).modPat fun p =>
    { p with deact := false, draining := true, readm := none, result := none }).noteAdm
  if s.flag PAT_STATUS_ACTIVE then u.patEvent 3 else u

theorem tryDeactivate_of_waiting {s : State} (h : s.pat.deact = true) : ∃ g, s.tryDeactivate = (s.firingStopped.settle g).releasePattern := by
  rw [State.tryDeactivate, if_neg (not_not_intro h)]
  exact ⟨_, rfl⟩

theorem firingStopped_leaves {s : State} : s.firingStopped.fld PAT_STATUS_ACTIVE = 0 ∧ s.firingStopped.fld PAT_CTRL_DEACTIVATE = 0 ∧
    s.firingStopped.pat.deact = false := by
  unfold State.firingStopped
  dsimp only
  split <;> simp (disch := decide) only [patEvent_fld, patEvent_pat, noteAdm_fld, noteAdm_pat, fld_modPat, pat_modPat, fld_setFld_apart, fld_setFld,
    Nat.zero_mod, and_self]

theorem tryDeactivate_stops {s : State} (h : s.pat.deact = true) : s.tryDeactivate.fld PAT_STATUS_ACTIVE = 0 ∧
    s.tryDeactivate.fld PAT_CTRL_DEACTIVATE = 0 ∧ s.tryDeactivate.pat.deact = false := by
  obtain ⟨g, hg⟩ := tryDeactivate_of_waiting h
  rw [hg, releasePattern_fld (by decide), releasePattern_fld (by decide), releasePattern_deact, settle_fld (by decide), settle_fld (by decide),
    settle_pat]
  exact firingStopped_leaves

/-- Clause 7 of `Obligations.PatternAdmission`. -/
theorem patternDeactivation_stops {s : State} (hround : s.atRound = true) (hdeact : s.pat.deact = true) :
    Does .patternDeactivation s (fun t => t.fld PAT_STATUS_ACTIVE = 0 ∧ t.fld PAT_CTRL_DEACTIVATE = 0 ∧ t.pat.deact = false) := by
  refine ⟨_, exec_patternDeactivation hround, ?_⟩
  split
  · exact tryDeactivate_stops hdeact
  · exact tryDeactivate_stops ((tryActivate_deact s).trans hdeact)

/-- Settles O10: a request of PAT_CTRL by what it writes, the end of an admission by its verdict, and stitch 0 by the requests that wait for it. -/
theorem patternAdmission : Obligations.PatternAdmission := by
  unfold Obligations.PatternAdmission
  refine ⟨?_, ?_, ?_, ?_, ?_, ?_, ?_, ?_, ?_⟩
  · exact fun s hreach hidle => patCtrlAdmit_starts hreach hidle
  · exact fun s bs im himg hfrozen ht hv => admissionDone_passes himg hfrozen ht hv
  · exact fun s bs r himg hfrozen ht hv => admissionDone_refuses himg hfrozen ht hv
  · exact fun s hreach hadm hact => patCtrlActivate_waits hreach hadm hact
  · exact fun s a im lo hi hround hfirst hact hadm helig hband => patternActivation_activates hround hfirst hact hadm helig hband
  · exact fun s hreach => patCtrlDeactivate_waits hreach
  · exact fun s hround hdeact => patternDeactivation_stops hround hdeact
  · exact fun s hreach hact => patCtrlCancel_withdraws hreach hact
  · exact fun s hreach hact => patCtrlCancel_idle hreach hact

end Sys2Proof.Machine
end

section
/-! Proofs/AdmissionEnds.lean: an admission ends PASSED or REFUSED, with a code of Table 3.7 (`Obligations.AdmissionEnds`, O60): the codes of the five
steps of the checker, the end of an admission whatever its verdict, and the refusals BUSY and BAND. -/

namespace Sys2Proof.Machine
open Sys2Proof Sys2Proof.Machine.Reg

-- As in the files of Laws/: proofs elaborated side by side take the joined text past its memory limit.
set_option Elab.async false

/-! ### The codes of the checker (Table 3.7) -/

/-- The report of a refusal gives a code of Table 3.7 that the checker has. -/
def AdmReport.listed (r : AdmReport) : Prop := 1 ≤ r.code ∧ r.code ≤ 0x0B

/-- A report, where there is one, gives such a code. -/
def Listed (o : Option AdmReport) : Prop := ∀ r, o = some r → r.listed

namespace Listed

theorem pass : Listed none := fun _ h => nomatch h
theorem report {r : AdmReport} (h : r.listed := by simp [AdmReport.listed]) : Listed (some r) := fun _ he => Option.some.inj he ▸ h
theorem ite {c : Prop} [Decidable c] {a b : Option AdmReport} (ha : Listed a) (hb : Listed b) : Listed (if c then a else b) := by
  split
  · exact ha
  · exact hb
theorem map {α : Type} {o : Option α} {f : α → AdmReport} (h : ∀ x, (f x).listed) : Listed (o.map f) := fun _ he => by
  obtain ⟨x, -, rfl⟩ := Option.map_eq_some_iff.1 he
  exact h x
theorem findSome {α : Type} {l : List α} {f : α → Option AdmReport} (h : ∀ x, Listed (f x)) : Listed (l.findSome? f) := fun r he => by
  obtain ⟨x, -, hx⟩ := List.exists_of_findSome?_eq_some he
  exact h x r hx
theorem orElse {a : Option AdmReport} {b : Unit → Option AdmReport} (ha : Listed a) (hb : Listed (b ())) : Listed (a.orElse b) := by
  cases a with
  | none => exact hb
  | some r => exact ha

end Listed

/-- Step 1 has two codes for a job entry. -/
theorem jobError_listed {per c : Nat} {j : Job} (h : jobError per j = some c) : 1 ≤ c ∧ c ≤ 0x0B := by
  unfold jobError at h
  (repeat' split at h) <;> cases h <;> decide

theorem step1_listed {bs : List Nat} {len pct : Nat} {r : AdmReport} (h : step1 bs len pct = .inl r) : r.listed := by
  unfold step1 at h
  dsimp only at h
  split at h
  · cases h
    simp [AdmReport.listed]
  · split at h
    next i c hjob =>
      obtain ⟨k, -, hk⟩ := List.exists_of_findSome?_eq_some hjob
      split at hk
      · obtain ⟨code, hcode, heq⟩ := Option.map_eq_some_iff.1 hk
        cases h
        cases heq
        exact jobError_listed hcode
      · cases hk
    next =>
      split at h
      · cases h
        simp [AdmReport.listed]
      · split at h
        · cases h
          simp [AdmReport.listed]
        · cases h

theorem step2Job_listed (c : AdmCtx) (im : Image) (r i : Nat) (j : Job) : Listed (step2Job c im r i j) :=
  .ite (.ite .pass .report) (.ite .report (.ite .report (.ite .report .pass)))
theorem step2Res_listed (c : AdmCtx) (im : Image) (l : List (Nat × Job)) (r : Nat) : Listed (step2Res c im l r) :=
  .orElse (.findSome fun p => step2Job_listed c im r p.1 p.2) (.ite .report .pass)
theorem step2_listed (c : AdmCtx) (im : Image) (shed : List Nat) : Listed (step2 c im shed) :=
  .orElse (.findSome (step2Res_listed c im _))
    (.orElse (.findSome fun p => step2Job_listed c im 0 p.1 p.2) (.map fun _ => by simp [AdmReport.listed]))

theorem step3Res_listed (c : AdmCtx) (im : Image) (shed : List Nat) (carry : List Demand) (res : Nat) : Listed (step3Res c im shed carry res) := by
  refine .ite .pass ?_
  split
  · exact .report
  · exact .ite .report .pass
theorem step3_listed (c : AdmCtx) (im : Image) (shed : List Nat) (carry : Nat → List Demand) : Listed (step3 c im shed carry) :=
  .findSome fun r => step3Res_listed c im shed (carry r) r

theorem step4_listed (c : AdmCtx) (im : Image) (shed : List Nat) : Listed (step4 c im shed) := by
  unfold step4
  dsimp only
  split
  next r hlink =>
    refine .report (Listed.findSome (fun k => .findSome fun t => ?_) r hlink)
    exact .ite .report .pass
  next => exact .map fun _ => by simp [AdmReport.listed]

theorem step5_listed (c : AdmCtx) (im : Image) (shed : List Nat) : Listed (step5 c im shed) := .findSome fun _ => .ite .report .pass

theorem steps25_listed (c : AdmCtx) (im : Image) (shed : List Nat) (carry : Nat → List Demand) : Listed (steps25 c im shed carry) := by
  unfold steps25
  split
  next r h2 => exact .report (step2_listed c im shed r h2)
  next =>
    split
    next r h3 => exact .report (step3_listed c im shed carry r h3)
    next =>
      split
      next r h4 => exact .report (step4_listed c im shed r h4)
      next => exact step5_listed c im shed

theorem verdict_listed {s : State} {bs : List Nat} {r : AdmReport} (h : s.verdict bs = .inl r) : r.listed := by
  unfold State.verdict at h
  split at h
  next r' h1 =>
    cases h
    exact step1_listed h1
  next im h1 =>
    dsimp only at h
    split at h
    next r' h25 =>
      cases h
      exact steps25_listed _ _ _ _ _ h25
    next => cases h

/-! ### The end of an admission (R55, R62) -/

/-- A refusal of an image that was touched shows some code of the checker's. -/
theorem endAdmission_of_open_refusal {s : State} {bs : List Nat} (ht : s.pat.touched = true)
    (hno : (∃ r, s.verdict bs = .inl r) ∨ Config.freeBool s.free = false) :
    ∃ rep g, rep.listed ∧ s.endAdmission bs = (s.admDrawn.concluded rep none).cancelAct.settle g := by
  have hlisted (w : Nat) : 1 ≤ 1 + w % 11 ∧ 1 + w % 11 ≤ 0x0B := by omega
  unfold State.endAdmission State.admDrawn
  cases hv : s.verdict bs with
  | inl r =>
    simp only [ht, Bool.not_false, Bool.and_true, Bool.false_eq_true, if_false, if_true]
    refine ⟨_, _, ?_, rfl⟩
    exact hlisted _
  | inr im =>
    have hfree : Config.freeBool s.free = false := hno.resolve_left (by simp [hv])
    simp only [ht, hfree, Bool.not_true, Bool.not_false, Bool.or_false, Bool.and_true, Bool.false_eq_true, if_false, if_true]
    refine ⟨_, _, ?_, rfl⟩
    exact hlisted _

/-- An admission ends in one of two ways. -/
theorem endAdmission_cases (s : State) (bs : List Nat) :
    (∃ p g, s.endAdmission bs = (s.admDrawn.concluded { code := 0 } (some p)).settle g) ∨
    (∃ rep g, rep.listed ∧ s.endAdmission bs = (s.admDrawn.concluded rep none).cancelAct.settle g) := by
  cases hv : s.verdict bs with
  | inl r =>
    cases ht : s.pat.touched with
    | false =>
      obtain ⟨g, hg⟩ := endAdmission_of_refusal hv ht
      exact .inr ⟨r, g, verdict_listed hv, hg⟩
    | true => exact .inr (endAdmission_of_open_refusal ht (.inl ⟨r, hv⟩))
  | inr im =>
    by_cases hok : s.pat.touched = false ∨ Config.freeBool s.free = true
    · obtain ⟨g, hg⟩ := endAdmission_of_pass hv hok
      exact .inl ⟨_, g, hg⟩
    · rw [not_or, Bool.not_eq_false, Bool.not_eq_true] at hok
      exact .inr (endAdmission_of_open_refusal hok.1 (.inr hok.2))

theorem concluded_admState_pass {s : State} {rep : AdmReport} {p : Image × Nat × Nat} (h : s.pat.readm = none) :
    (s.concluded rep (some p)).fld PAT_STATUS_ADM_STATE = 2 := by
  rw [State.concluded, patEvent_fld (by decide) (by decide)]
  exact noteAdm_passed h rfl rfl
theorem concluded_admState_refusal {s : State} {rep : AdmReport} (h : s.pat.readm = none) (hrep : rep.listed) :
    (s.concluded rep none).fld PAT_STATUS_ADM_STATE = 3 := by
  obtain ⟨hpos, hmax⟩ := hrep
  rw [State.concluded, patEvent_fld (by decide) (by decide)]
  refine noteAdm_refused h rfl rfl ?_
  rw [fld_setFld_apart (by decide) (by decide), fld_modPat, putReport_code]
  omega

/-- What an ended admission shows: PASSED without a code, or REFUSED with one. -/
def AdmVerdict (t : State) : Prop :=
  t.fld PAT_STATUS_ADM_STATE = 2 ∧ t.fld PAT_ADM_RESULT_CODE = 0 ∧ t.evt PAT_EVENT 0 ∨
    t.fld PAT_STATUS_ADM_STATE = 3 ∧ 1 ≤ t.fld PAT_ADM_RESULT_CODE ∧ t.fld PAT_ADM_RESULT_CODE ≤ 0x0B ∧ t.evt PAT_EVENT 1

/-- Clause 1 of `Obligations.AdmissionEnds`. -/
theorem admissionDone_ends {s : State} {bs : List Nat} (himg : s.pat.img = some bs) (hfrozen : s.frozenAdm = false) (hreadm : s.pat.readm = none) :
    Does .admissionDone s (fun t => t.pat.img = none ∧ t.pat.active = s.pat.active ∧ t.fld PAT_CTRL_ADMIT = 0 ∧ AdmVerdict t) := by
  have hdrawn : s.admDrawn.pat.readm = none := by rw [admDrawn_pat, hreadm]
  refine ⟨_, exec_admissionDone himg hfrozen, ?_⟩
  obtain ⟨p, g, hend⟩ | ⟨rep, g, hrep, hend⟩ := endAdmission_cases s bs
  · obtain ⟨hcode, hadmit⟩ := concluded_fld s.admDrawn { code := 0 } (some p)
    rw [hend]
    refine ⟨?_, ?_, ?_, .inl ⟨?_, ?_, ?_⟩⟩
    · rw [settle_pat, concluded_pat]
    · rw [settle_pat, concluded_pat, admDrawn_pat]
    · rw [settle_fld (by decide), hadmit]
    · rw [settle_fld (by decide), concluded_admState_pass hdrawn]
    · rw [settle_fld (by decide), hcode]
      rfl
    · exact evt_of_patEvents (settle_fld (by decide)) (concluded_evt _ _ _)
  · obtain ⟨hcode, hadmit⟩ := concluded_fld s.admDrawn rep none
    have hshown : (s.admDrawn.concluded rep none).fld PAT_ADM_RESULT_CODE = rep.code :=
      hcode.trans (Nat.mod_eq_of_lt (Nat.lt_of_le_of_lt hrep.2 (by decide)))
    rw [hend]
    refine ⟨?_, ?_, ?_, .inr ⟨?_, ?_, ?_, ?_⟩⟩
    · rw [settle_pat, cancelAct_pat, concluded_pat]
    · rw [settle_pat, cancelAct_pat, concluded_pat, admDrawn_pat]
    · rw [cancelAct_settle_fld, hadmit]
    · rw [cancelAct_settle_fld, concluded_admState_refusal hdrawn hrep]
    · rw [cancelAct_settle_fld, hshown]
      exact hrep.1
    · rw [cancelAct_settle_fld, hshown]
      exact hrep.2
    · exact evt_of_patEvents cancelAct_settle_fld (concluded_evt _ _ _)

/-! ### BUSY and BAND (R63, R73) -/

theorem startAdmission_of_busy {s : State} (h : s.admitting = true) : s.startAdmission.1 = (s.putReport { code := 0x0D }).patEvent 1 := by
  rw [State.startAdmission, if_pos h]

/-- Clause 2 of `Obligations.AdmissionEnds`. -/
theorem patCtrlAdmit_busy {s : State} (hreach : s.reaches .host PAT_CTRL.base) (hbusy : s.admitting = true) :
    Does .patCtrlAdmit s (fun t => t.fld PAT_ADM_RESULT_CODE = 0x0D ∧ t.evt PAT_EVENT 1 ∧ t.pat = s.pat) := by
  refine ⟨_, (exec_patCtrlAdmit hreach).trans (congrArg Host.Outcome.next (startAdmission_of_busy hbusy)), ?_, patEvent_evt _, patEvent_pat _ _⟩
  rw [patEvent_fld (by decide) (by decide), putReport_code]
  rfl

/-- Clause 3 of `Obligations.AdmissionEnds`. -/
theorem patternActivation_band {s : State} {a lo hi : Nat} {im : Image} (hround : s.atRound = true) (hfirst : s.pat.deactFirst = false)
    (hact : s.pat.act = some a) (hadm : s.pat.admitted = some (im, lo, hi)) (helig : s.actEligible a = true) (hband : s.bandNow ≠ (lo, hi)) :
    Does .patternActivation s (fun t => t.pat.active = s.pat.active ∧ t.pat.admitted = none ∧ t.pat.act = none ∧
      t.fld PAT_ADM_RESULT_CODE = 0x0C ∧ t.evt PAT_EVENT 1 ∧ t.fld PAT_STATUS_ACTIVE = s.fld PAT_STATUS_ACTIVE) := by
  obtain ⟨g, hg⟩ := tryActivate_of_band hact hadm helig hband
  refine ⟨_, (exec_patternActivation hround hfirst).trans (congrArg Host.Outcome.next hg), ?_⟩
  beta_reduce
  rw [settle_pat, bandRefused_pat, settle_fld (by decide), settle_fld (by decide), bandRefused_code, bandRefused_active]
  exact ⟨rfl, rfl, rfl, rfl, evt_of_patEvents (settle_fld (by decide)) (bandRefused_evt s), rfl⟩

/-- Settles O60: every step of the checker refuses with a code of its own, so the end of an admission is one of the two; BUSY and BAND are refusals
beside it. -/
theorem admissionEnds : Obligations.AdmissionEnds := by
  unfold Obligations.AdmissionEnds
  refine ⟨?_, ?_, ?_⟩
  · exact fun s bs himg hfrozen hreadm => admissionDone_ends himg hfrozen hreadm
  · exact fun s hreach hbusy => patCtrlAdmit_busy hreach hbusy
  · exact fun s a im lo hi hround hfirst hact hadm helig hband => patternActivation_band hround hfirst hact hadm helig hband

end Sys2Proof.Machine
end

section
/-! Proofs/PatternInstances.lean: the run of a Pattern's instances (`Obligations.PatternInstances`, O11): the start of a job on a core, LATE and OVERRUN
with their counts, and a re-admission from its result to its effect. -/

namespace Sys2Proof.Machine
open Sys2Proof Sys2Proof.Machine.Reg

-- As in the files of Laws/: proofs elaborated side by side take the joined text past its memory limit.
set_option Elab.async false

/-! ### A job starts on a core (R234, R252) -/

/-- The core has been given a job: what it runs of the Pattern, and the argument in g1 (R252). -/
def Core.gotJob (c : Core) (inst : Option Nat) (arg : Nat) : Prop := c.inst = inst ∧ c.g.getD 1 0 = arg % 2 ^ 32

theorem core_modCore {s : State} {n : Nat} (h : n < s.cores.length) (f : Core → Core) : (s.modCore n f).core n = f (s.core n) := by
  simp [State.core, List.getD_eq_getElem?_getD, h]

theorem wdReload_fld (s : State) (n : Nat) (f : Fld) (i : Nat) : (s.wdReload n).fld f i = s.fld f i := rfl
theorem wdReload_gotJob {s : State} {n : Nat} (h : n < s.cores.length) {inst : Option Nat} {arg : Nat} (hc : (s.core n).gotJob inst arg) :
    ((s.wdReload n).core n).gotJob inst arg := by
  unfold State.wdReload
  dsimp only
  rw [core_modCore h]
  exact hc

theorem core_setFld (s : State) (f : Fld) (v i j n : Nat) : (s.setFld f v i j).core n = s.core n := rfl

/-- With no staged set to take first, a start loads the core, shows the job in its registers, and sets the watchdog. -/
theorem startJob_eq {s : State} {n : Nat} (hn : n < s.cores.length) (hcommit : s.flag CORE_CTRL_COMMIT n = false)
    (src entry arg job group startA dlA : Nat) (inst : Option Nat) : ∃ u : State, n < u.cores.length ∧ (u.core n).gotJob inst arg ∧
      s.startJob n src entry arg job group startA dlA inst =
        (((((((u.setFld CORE_PC_PC entry n).setFld CORE_STATUS_STATE cRun n).setFld CORE_STATUS_SRC src n).setFld CORE_JOBCUR_JOB job n).setFld
          CORE_JOBCUR_GROUP group n).setFld CORE_OUTNAN_VALID 0 n).setFld MESH_TRK_INUSE 0 n).wdReload n := by
  have hcleared : n < (s.accClear n).cores.length := hn
  unfold State.startJob
  rw [hcommit, if_neg Bool.false_ne_true]
  refine ⟨_, ?_, ?_, rfl⟩
  · rw [modCore_cores, List.length_modify]
    exact hcleared
  · rw [core_modCore hcleared]
    exact ⟨rfl, rfl⟩

theorem coreStatus_ne (n : Nat) : CORE_STATUS_STATE.rg.at n ≠ CORE_JOBCUR.at n ∧ CORE_STATUS_STATE.rg.at n ≠ CORE_OUTNAN.at n ∧
    CORE_STATUS_STATE.rg.at n ≠ MESH_TRK.at n := by
  simp only [Rg.at, CORE_STATUS_STATE, CORE_STATUS, CORE_JOBCUR, CORE_OUTNAN, MESH_TRK]
  omega
theorem corePc_ne (n : Nat) : CORE_PC_PC.rg.at n ≠ CORE_STATUS.at n ∧ CORE_PC_PC.rg.at n ≠ CORE_JOBCUR.at n ∧
    CORE_PC_PC.rg.at n ≠ CORE_OUTNAN.at n ∧ CORE_PC_PC.rg.at n ≠ MESH_TRK.at n := by
  simp only [Rg.at, CORE_PC_PC, CORE_STATUS, CORE_PC, CORE_JOBCUR, CORE_OUTNAN, MESH_TRK]
  omega

theorem startJob_starts {s : State} {n : Nat} (hn : n < s.cores.length) (hcommit : s.flag CORE_CTRL_COMMIT n = false)
    (src entry arg job group startA dlA : Nat) (inst : Option Nat) :
    (s.startJob n src entry arg job group startA dlA inst).cstate n = 1 ∧
      (s.startJob n src entry arg job group startA dlA inst).pc n = entry % 2 ^ 16 ∧
      ((s.startJob n src entry arg job group startA dlA inst).core n).gotJob inst arg := by
  obtain ⟨u, hlen, hgot, heq⟩ := startJob_eq hn hcommit src entry arg job group startA dlA inst
  obtain ⟨hjob, hnan, htrk⟩ := coreStatus_ne n
  obtain ⟨hpstat, hpjob, hpnan, hptrk⟩ := corePc_ne n
  rw [heq]
  refine ⟨?_, ?_, wdReload_gotJob ?_ ?_⟩
  · rw [State.cstate, wdReload_fld, fld_setFld_ne htrk, fld_setFld_ne hnan, fld_setFld_ne hjob, fld_setFld_ne hjob,
      fld_setFld_disj (by decide) (by decide), fld_setFld _ _ _ _ _ (by decide)]
    rfl
  · rw [State.pc, wdReload_fld, fld_setFld_ne hptrk, fld_setFld_ne hpnan, fld_setFld_ne hpjob, fld_setFld_ne hpjob,
      fld_setFld_ne hpstat, fld_setFld_ne hpstat, fld_setFld _ _ _ _ _ (by decide)]
    rfl
  · rw [setFld_cores, setFld_cores, setFld_cores, setFld_cores, setFld_cores, setFld_cores, setFld_cores]
    exact hlen
  · rw [core_setFld, core_setFld, core_setFld, core_setFld, core_setFld, core_setFld, core_setFld]
    exact hgot

/-! ### Dispatch (R66, R252) -/

theorem exec_instanceDispatch_core {s : State} {r : Nat} (hr : r < 32) (hrun : s.boot.halted = false) (ecc : Bool) :
    exec (.instanceDispatch ⟨r, ecc⟩) s = .next (s.nextJob r) := by
  show execInstanceDispatch ⟨r, ecc⟩ s = _
  have h36 : r < 36 := by omega
  rw [execInstanceDispatch, onUnit, if_pos h36, hrun, if_neg Bool.false_ne_true, if_pos hr]

/-- Clause 2 of `Obligations.PatternInstances`. -/
theorem instanceDispatch_halted {s : State} {r : Nat} (hr : r < 36) (hhalt : s.boot.halted = true) (ecc : Bool) :
    exec (.instanceDispatch ⟨r, ecc⟩) s = .next s := by
  show execInstanceDispatch ⟨r, ecc⟩ s = _
  rw [execInstanceDispatch, onUnit, if_pos hr, if_pos hhalt]

theorem nextJob_of_next {s : State} {r : Nat} {x : Inst} (hidle : s.cstate r = 0) (hfree : s.running r = none) (hthere : s.coreDropped r = false)
    (hnext : s.nextFor r = some x) : s.nextJob r = (s.markRunning x.id r).startJob r 1 x.entry x.arg x.job x.group x.start
      (if x.dl then x.deadline else 2 ^ 32 - 1) (some x.id) := by
  have htakes : ¬ (s.cstate r ≠ cIdle ∨ (s.running r).isSome ∨ s.coreDropped r) := by simp [hidle, hfree, hthere, cIdle]
  rw [State.nextJob, if_neg htakes, hnext]

/-- Clause 1 of `Obligations.PatternInstances`. -/
theorem instanceDispatch_starts {s : State} {r : Nat} {x : Inst} (hr : r < 32) (hwhole : s.whole) (hrun : s.boot.halted = false)
    (hidle : s.cstate r = 0) (hfree : s.running r = none) (hthere : s.coreDropped r = false) (hnext : s.nextFor r = some x)
    (hcommit : s.flag CORE_CTRL_COMMIT r = false) (ecc : Bool) :
    Does (.instanceDispatch ⟨r, ecc⟩) s (fun t => t.cstate r = 1 ∧ t.pc r = x.entry % 2 ^ 16 ∧ (t.core r).inst = some x.id ∧
      (t.core r).g.getD 1 0 = x.arg % 2 ^ 32) := by
  have hlen : r < (s.markRunning x.id r).cores.length := by
    have hcores : (s.markRunning x.id r).cores.length = 32 := by
      simp only [State.whole, State.sizes, List.cons.injEq] at hwhole
      exact hwhole.2.1
    omega
  exact ⟨_, (exec_instanceDispatch_core hr hrun ecc).trans (congrArg Host.Outcome.next (nextJob_of_next hidle hfree hthere hnext)),
    startJob_starts hlen hcommit _ _ _ _ _ _ _ _⟩

/-! ### LATE (R67) -/

theorem pat_modInst (s : State) (id : Nat) (f : Inst → Inst) :
    (s.modInst id f).pat = { s.pat with insts := s.pat.insts.map fun i => if i.id = id then f i else i } := rfl

/-- LATE and OVERRUN (R67, R68): `x` is counted in `f`, and then reported as event `b` under resource `r`. -/
def State.countReport (s : State) (f : Fld) (b r : Nat) (x : Inst) : State := (s.count f).patReport b b r x.job x.group

theorem countReport_pat (s : State) (f : Fld) (b r : Nat) (x : Inst) : (s.countReport f b r x).pat = s.pat := by
  rw [State.countReport, patReport_pat, count_pat]
theorem countReport_counts {s : State} {f : Fld} (b r : Nat) (x : Inst) (hf : patFld f) (he : f.rg.at ≠ PAT_EVENT.base) (hw : f.lo + f.w ≤ 32) :
    (s.countReport f b r x).fld f = min (s.fld f + 1) (2 ^ f.w - 1) := by
  rw [State.countReport, patReport_fld hf he, fld_count_same _ _ _ _ hw, State.counted]
theorem countReport_evt (s : State) (f : Fld) {b : Nat} (r : Nat) (x : Inst) (hb : b < 32) : (s.countReport f b r x).evt PAT_EVENT b :=
  patReport_evt _ hb

theorem exec_deadlineExpiry (s : State) : exec .deadlineExpiry s = .next (s.pat.insts.foldl (fun s x => s.expire x) s) := rfl

theorem expire_of_done {s : State} {x : Inst} (h : x.late = true ∨ s.isLate x = false) : s.expire x = s := by
  have hskip : (x.late || !(s.isLate x)) = true := by rcases h with h | h <;> simp [h]
  rw [State.expire, if_pos hskip]

/-- Where `x` alone is there and is late for the first time, it is marked, counted and reported. -/
theorem expire_of_late {s : State} {x : Inst} (hinsts : s.pat.insts = [x]) (hfirst : x.late = false) (hkeep : x.drop = false)
    (hlate : s.isLate x = true) : s.expire x = (s.modInst x.id fun i => { i with late := true }).countReport PAT_LATECNT_LATE 4 x.res x := by
  have hfind : s.inst? x.id = some x := by simp [State.inst?, hinsts]
  have hdue : ¬ (x.late || !(s.isLate x)) = true := by simp [hfirst, hlate]
  rw [State.expire, if_neg hdue, hkeep, State.noteLate, hfind]
  dsimp only
  rw [if_neg hdue, if_neg Bool.false_ne_true]
  rfl

/-- Clause 3 of `Obligations.PatternInstances`. -/
theorem deadlineExpiry_late {s : State} {x : Inst} (hinsts : s.pat.insts = [x]) (hfirst : x.late = false) (hkeep : x.drop = false)
    (hlate : s.isLate x = true) : Does .deadlineExpiry s (fun t => t.pat.insts = [{ x with late := true }] ∧
      t.fld PAT_LATECNT_LATE = min (s.fld PAT_LATECNT_LATE + 1) (2 ^ 16 - 1) ∧ t.evt PAT_EVENT 4) := by
  have hfold : s.pat.insts.foldl (fun s x => s.expire x) s = s.expire x := by rw [hinsts]; rfl
  have heq := hfold.trans (expire_of_late hinsts hfirst hkeep hlate)
  refine ⟨_, (exec_deadlineExpiry s).trans (congrArg Host.Outcome.next heq), ?_, ?_, countReport_evt _ _ _ _ (by decide)⟩
  · rw [countReport_pat, pat_modInst, hinsts]
    simp
  · exact countReport_counts _ _ _ (by decide) (by decide) (by decide)

/-- Clause 4 of `Obligations.PatternInstances`. -/
theorem deadlineExpiry_idle {s : State} (h : ∀ x ∈ s.pat.insts, x.late = true ∨ s.isLate x = false) : exec .deadlineExpiry s = .next s := by
  have hfold : ∀ l : List Inst, (∀ x ∈ l, x.late = true ∨ s.isLate x = false) → l.foldl (fun s x => s.expire x) s = s := by
    intro l hl
    induction l with
    | nil => rfl
    | cons x rest ih =>
      obtain ⟨hx, hrest⟩ := List.forall_mem_cons.1 hl
      rw [List.foldl_cons, expire_of_done hx, ih hrest]
  rw [exec_deadlineExpiry, hfold _ h]

/-! ### OVERRUN (R68) -/

theorem exec_wcetOverrun {r : Nat} (hr : r < 36) (s : State) : exec (.wcetOverrun r) s = .next (s.overrunOn r) := if_pos hr

theorem overrunOn_of_passed {s : State} {r : Nat} {x : Inst} (hrun : s.running r = some x) (hfirst : x.overrun = false) (hdl : x.dl = true)
    (hpast : s.wcetPassed r x = true) :
    s.overrunOn r = (s.modInst x.id fun i => { i with overrun := true }).countReport PAT_OVRCNT_OVERRUN 5 r x := by
  have hdue : ¬ (x.overrun || !(s.wcetPassed r x)) = true := by simp [hfirst, hpast]
  rw [State.overrunOn, hrun]
  dsimp only
  rw [if_neg hdue, if_pos hdl]
  rfl

/-- Clause 5 of `Obligations.PatternInstances`. -/
theorem wcetOverrun_counts {s : State} {r : Nat} {x : Inst} (hr : r < 36) (hrun : s.running r = some x) (hfirst : x.overrun = false)
    (hdl : x.dl = true) (hpast : s.wcetPassed r x = true) : Does (.wcetOverrun r) s (fun t =>
      t.pat.insts = s.pat.insts.map (fun i => if i.id = x.id then { i with overrun := true } else i) ∧
      t.fld PAT_OVRCNT_OVERRUN = min (s.fld PAT_OVRCNT_OVERRUN + 1) (2 ^ 16 - 1) ∧ t.evt PAT_EVENT 5) := by
  refine ⟨_, (exec_wcetOverrun hr s).trans (congrArg Host.Outcome.next (overrunOn_of_passed hrun hfirst hdl hpast)), ?_, ?_,
    countReport_evt _ _ _ _ (by decide)⟩
  · rw [countReport_pat, pat_modInst]
  · exact countReport_counts _ _ _ (by decide) (by decide) (by decide)

/-! ### Re-admission (R69 to R71) -/

/-- Clause 6 of `Obligations.PatternInstances`: the checker's result waits beside the Pattern in force. -/
theorem readmissionDone_waits {s : State} (hreadm : s.pat.readm.isSome = true) (hactive : s.pat.active.isSome = true) (hnone : s.pat.result = none)
    (hfrozen : s.frozenAdm = false) :
    Does .readmissionDone s (fun t => t.pat.result.isSome = true ∧ t.pat.active = s.pat.active ∧ t.pat.readm = s.pat.readm) := by
  obtain ⟨q, hq⟩ := Option.isSome_iff_exists.1 hreadm
  obtain ⟨im, him⟩ := Option.isSome_iff_exists.1 hactive
  have hruns : ¬ (s.pat.result.isSome ∨ s.frozenAdm) := by simp [hnone, hfrozen]
  have hexec : ∃ x, exec .readmissionDone s = .next (s.modPat fun p => { p with result := some x }) := by
    show ∃ x, execReadmissionDone s = _
    rw [execReadmissionDone, hq, him]
    dsimp only
    rw [if_neg hruns]
    exact ⟨_, rfl⟩
  obtain ⟨x, hx⟩ := hexec
  exact ⟨_, hx, rfl, rfl, rfl⟩

theorem exec_readmissionEffect {s : State} (hdue : s.rnd.stitchDue = true) (hfrozen : s.frozenAdm = false) :
    exec .readmissionEffect s = .next s.applyReadmit := by
  show execReadmissionEffect s = _
  rw [execReadmissionEffect, hdue, hfrozen]
  rfl

theorem health_pat (s : State) (code src job grp s1 sn c : Nat) : (s.health code src job grp s1 sn c).pat = s.pat :=
  (State.health_only s code src job grp s1 sn c s (m' := 8475137)).2 (Only.refl _ s) .pat (by decide)
theorem journal_pat (s : State) (code src sev data : Nat) : (s.journal code src sev data).pat = s.pat :=
  (State.journal_only s code src sev data s (m' := 8458753)).2 (Only.refl _ s) .pat (by decide)
theorem journalParts_pat (s : State) (code src sev : Nat) (l : List Nat) : (s.journalParts code src sev l).pat = s.pat :=
  (State.journalParts_only s code src sev l s (m' := 8458753)).2 (Only.refl _ s) .pat (by decide)

/-- The result in force: the image with what it sheds, and what PAT_SHED and PAT_STATUS show of it. -/
def State.readmitted (s : State) (im : Image) (shed : List Nat) : State :=
  let u := ((s.modPat fun p => { p with active := some im, shed := shed, readm := none, result := none }).setFld PAT_SHED_ENTRIES
    shed.length).count PAT_SHED_READMITS
  (if shed.isEmpty then u else u.setFld PAT_STATUS_DEGRADED 1).noteAdm

theorem readmitted_pat (s : State) (im : Image) (shed : List Nat) :
    (s.readmitted im shed).pat = { s.pat with active := some im, shed := shed, readm := none, result := none } := by
  unfold State.readmitted
  dsimp only
  split <;> rfl
theorem readmitted_entries (s : State) (im : Image) (shed : List Nat) :
    (s.readmitted im shed).fld PAT_SHED_ENTRIES = shed.length % 2 ^ PAT_SHED_ENTRIES.w := by
  have hcounted (u : State) : ((u.setFld PAT_SHED_ENTRIES shed.length).count PAT_SHED_READMITS).fld PAT_SHED_ENTRIES =
      shed.length % 2 ^ PAT_SHED_ENTRIES.w := by rw [fld_count_apart (by decide) (by decide), fld_setFld _ _ _ _ _ (by decide)]
  unfold State.readmitted
  dsimp only
  rw [noteAdm_fld (by decide)]
  split
  · exact hcounted _
  · rw [fld_setFld_apart (by decide) (by decide), hcounted]

/-- READMIT is reported, and SHED where groups were shed (Table 18.4). -/
def State.readmitReported (s : State) (src : Nat) (gs : List Nat) : State :=
  let u := (s.draw.patEvent 7).journal 0x0207 src 6 (((groupWords gs).head?).getD (2 ^ 64 - 1))
  if gs.isEmpty then u else (u.patEvent 8).journalParts 0x0208 src 6 (groupWords gs)

theorem readmitReported_pat (s : State) (src : Nat) (gs : List Nat) : (s.readmitReported src gs).pat = s.pat := by
  unfold State.readmitReported
  dsimp only
  split
  · rw [journal_pat, patEvent_pat, draw_pat]
  · rw [journalParts_pat, patEvent_pat, journal_pat, patEvent_pat, draw_pat]
theorem readmitReported_fld {s : State} {src : Nat} {gs : List Nat} {f : Fld} (hf : patFld f) (he : f.rg.at ≠ PAT_EVENT.base) :
    (s.readmitReported src gs).fld f = s.fld f := by
  unfold State.readmitReported
  dsimp only
  split
  · rw [journal_fld hf, patEvent_fld hf he, fld_draw]
  · rw [journalParts_fld hf, patEvent_fld hf he, journal_fld hf, patEvent_fld hf he, fld_draw]
theorem readmitReported_evt (s : State) (src : Nat) (gs : List Nat) : (s.readmitReported src gs).evt PAT_EVENT 7 := by
  have hfirst (data : Nat) : ((s.draw.patEvent 7).journal 0x0207 src 6 data).evt PAT_EVENT 7 :=
    evt_of_patEvents (journal_fld (by decide)) (patEvent_evt _)
  unfold State.readmitReported
  dsimp only
  split
  · exact hfirst _
  · exact evt_of_patEvents (journalParts_fld (by decide)) (patEvent_evt_mono (hfirst _))

/-- The floors that change first concern nothing else; the posting that comes last changes nothing of the Pattern. -/
theorem applyReadmit_eq {s : State} {q : Readm} {old im : Image} {shed gs : List Nat} (hreadm : s.pat.readm = some q)
    (hactive : s.pat.active = some old) (hresult : s.pat.result = some (im, shed, gs)) :
    ∃ (u : State) (src code job grp s1 sn c dev : Nat),
      s.applyReadmit = ((u.readmitted im shed).readmitReported src gs).health code dev job grp s1 sn c := by
  rw [State.applyReadmit, hreadm, hactive, hresult]
  exact ⟨_, _, _, _, _, _, _, _, _, rfl⟩

/-- Clause 7 of `Obligations.PatternInstances`. -/
theorem readmissionEffect_takes {s : State} {q : Readm} {old im : Image} {shed gs : List Nat} (hdue : s.rnd.stitchDue = true)
    (hfrozen : s.frozenAdm = false) (hreadm : s.pat.readm = some q) (hactive : s.pat.active = some old)
    (hresult : s.pat.result = some (im, shed, gs)) :
    Does .readmissionEffect s (fun t => t.pat.active = some im ∧ t.pat.shed = shed ∧ t.pat.readm = none ∧ t.pat.result = none ∧
      t.evt PAT_EVENT 7 ∧ t.fld PAT_SHED_ENTRIES = shed.length % 2 ^ PAT_SHED_ENTRIES.w) := by
  obtain ⟨u, src, code, job, grp, s1, sn, c, dev, heq⟩ := applyReadmit_eq hreadm hactive hresult
  refine ⟨_, (exec_readmissionEffect hdue hfrozen).trans (congrArg Host.Outcome.next heq), ?_⟩
  beta_reduce
  rw [health_pat, readmitReported_pat, readmitted_pat, health_fld (by decide), readmitReported_fld (by decide) (by decide), readmitted_entries]
  exact ⟨rfl, rfl, rfl, rfl, evt_of_patEvents (health_fld (by decide)) (readmitReported_evt _ _ _), rfl⟩

/-- Settles O11: dispatch by the start of a job, LATE and OVERRUN by what one count and report leave, re-admission by its result and its effect. -/
theorem patternInstances : Obligations.PatternInstances := by
  unfold Obligations.PatternInstances
  refine ⟨?_, ?_, ?_, ?_, ?_, ?_, ?_⟩
  · exact fun s r x ecc hr hwhole hrun hidle hfree hthere hnext hcommit =>
      instanceDispatch_starts hr hwhole hrun hidle hfree hthere hnext hcommit ecc
  · exact fun s r ecc hr hhalt => instanceDispatch_halted hr hhalt ecc
  · exact fun s x hinsts hfirst hkeep hlate => deadlineExpiry_late hinsts hfirst hkeep hlate
  · exact fun s h => deadlineExpiry_idle h
  · exact fun s r x hr hrun hfirst hdl hpast => wcetOverrun_counts hr hrun hfirst hdl hpast
  · exact fun s hreadm hactive hnone hfrozen => readmissionDone_waits hreadm hactive hnone hfrozen
  · exact fun s q old im shed gs hdue hfrozen hreadm hactive hresult => readmissionEffect_takes hdue hfrozen hreadm hactive hresult

end Sys2Proof.Machine
end

section
/-! Proofs/BusAccesses.lean: requests to the registers of BAR0, once for all (R74 to R88, R99, R100): what a request of the host that is in error
leaves, which requests are served, and what the read or the write of one register then does. -/

namespace Sys2Proof.Machine
open Sys2Proof Sys2Proof.Machine.Reg

-- As in the files of Laws/: proofs elaborated side by side take the joined text past its memory limit.
set_option Elab.async false

/-! ### Which registers an operation leaves -/

theorem sameRegsBut.refl (l : List Nat) (s : State) : sameRegsBut l s s := fun _ _ => rfl
theorem sameRegsBut.mono {l m : List Nat} {s t : State} (h : sameRegsBut l s t) (hl : l ⊆ m) : sameRegsBut m s t :=
  fun a ha => h a fun hm => ha (hl hm)
theorem sameRegsBut.trans {l : List Nat} {s t u : State} (h : sameRegsBut l s t) (g : sameRegsBut l t u) : sameRegsBut l s u :=
  fun a ha => (g a ha).trans (h a ha)
theorem sameRegsBut_setReg {l : List Nat} (s : State) {a : Nat} (v : Word) (ha : a ∈ l) : sameRegsBut l s (s.setReg a v) :=
  fun _ hb => reg_setReg_ne fun he => hb (he ▸ ha)

/-! ### A request of the host in error is logged (R99, R100) -/

/-- The request is logged and answered: `src` is the code of HIF_ACCERR.SRC, `n` the number of bytes that a read asks for. -/
def State.discard (s : State) (src : Nat) (c : AccCause) (write : Bool) (be addr data n : Nat) : State :=
  (s.accErr .host src c write be addr data).respondErr .host write n

/-- What HIF_ACCERR takes with the first error. -/
def errWord (src : Nat) (c : AccCause) (write : Bool) (be : Nat) : Nat :=
  1 + 2 * c.code + (if write then 16 else 0) + 32 * src + 128 * (be % 16)

theorem AccCause.code_lt (c : AccCause) : c.code < 8 := by cases c <;> decide

/-- The fields of HIF_ACCERR in the word of a first error. -/
theorem errWord_bits {src be : Nat} (c : AccCause) (write : Bool) (hsrc : src < 4) :
    let x := BitVec.ofNat 32 (errWord src c write be)
    bits x 0 1 = 1 ∧ bits x 1 3 = c.code ∧ bits x 4 1 = (if write then 1 else 0) ∧ bits x 5 2 = src ∧ bits x 7 4 = be % 16 := by
  have hc := c.code_lt
  have hword : errWord src c write be < 2 ^ 32 := by
    unfold errWord
    split <;> omega
  simp only [bits, BitVec.toNat_ofNat, Nat.mod_eq_of_lt hword]
  cases write <;> simp only [errWord, if_true, Bool.false_eq_true, if_false] <;> omega

/-- The first error is recorded with its word, its address and its data. -/
theorem recordErr_first {s : State} (hvalid : s.flag HIF_ACCERR_VALID = false) (src : Nat) (c : AccCause) (write : Bool) (be addr data ap : Nat) :
    s.recordErr HIF_ACCERR HIF_ACCERR_ADDR (some HIF_ACCERR_DATA) src c write be addr data ap =
      ((s.setReg HIF_ACCERR.base (BitVec.ofNat 32 (errWord src c write be))).setReg HIF_ACCERR_ADDR.base
        (BitVec.ofNat 32 (addr % 2 ^ 26 + 2 ^ 26 * ap))).setReg HIF_ACCERR_DATA.base (BitVec.ofNat 32 (if write then data else 0)) := by
  have hbit : ¬ (s.reg HIF_ACCERR.base).toNat.testBit 0 = true := by
    have hfld : bits (s.reg HIF_ACCERR.base) 0 1 ≠ 1 := of_decide_eq_false hvalid
    simpa [bits, Nat.testBit_zero] using hfld
  exact if_neg hbit

theorem respondErr_regs (s : State) (rq : Requester) (write : Bool) (n : Nat) : (s.respondErr rq write n).regs = s.regs := by
  unfold State.respondErr
  split
  · rfl
  · split <;> rfl
theorem respondErr_reg (s : State) (rq : Requester) (write : Bool) (n a : Nat) : (s.respondErr rq write n).reg a = s.reg a :=
  congrArg (sparseGet regReset · a) (respondErr_regs s rq write n)

/-- An error of the host leaves every register but those of the log, of its event and of a report. -/
theorem discard_reg {s : State} {src be addr data n a : Nat} {c : AccCause} {write : Bool} (hq : quiet a) (ha : a ≠ HIF_EVENT.base) :
    (s.discard src c write be addr data n).reg a =
      (s.recordErr HIF_ACCERR HIF_ACCERR_ADDR (some HIF_ACCERR_DATA) src c write be addr data 0).reg a :=
  (respondErr_reg _ _ _ _ _).trans (report_reg (by decide) hq ha)

theorem discard_evt (s : State) (src : Nat) (c : AccCause) (write : Bool) (be addr data n : Nat) :
    (s.discard src c write be addr data n).evt HIF_EVENT 0 := by
  rw [State.evt, State.discard, respondErr_reg]
  exact report_bit (by decide) (by decide) (by decide)

/-- The registers that an error of the host may change. -/
def errRegs : List Nat := [HIF_ACCERR.base, HIF_ACCERR_ADDR.base, HIF_ACCERR_DATA.base, HIF_EVENT.base] ++ reportRegs

section FirstError
variable {s : State} (hvalid : s.flag HIF_ACCERR_VALID = false) (src : Nat) (c : AccCause) (write : Bool) (be addr data n : Nat)
include hvalid

theorem discard_accerr : (s.discard src c write be addr data n).reg HIF_ACCERR.base = BitVec.ofNat 32 (errWord src c write be) := by
  rw [discard_reg (by decide) (by decide), recordErr_first hvalid, reg_setReg_ne (by decide), reg_setReg_ne (by decide), reg_setReg_same]
theorem discard_addr : (s.discard src c write be addr data n).reg HIF_ACCERR_ADDR.base = BitVec.ofNat 32 (addr % 2 ^ 26) := by
  rw [discard_reg (by decide) (by decide), recordErr_first hvalid, reg_setReg_ne (by decide), reg_setReg_same]
  rfl
theorem discard_data : (s.discard src c write be addr data n).reg HIF_ACCERR_DATA.base = BitVec.ofNat 32 (if write then data else 0) := by
  rw [discard_reg (by decide) (by decide), recordErr_first hvalid, reg_setReg_same]

theorem discard_sameRegsBut : sameRegsBut errRegs s (s.discard src c write be addr data n) := fun a ha => by
  have hq : quiet a := fun h => ha (List.mem_append_right _ h)
  have hlog : a ∉ [HIF_ACCERR.base, HIF_ACCERR_ADDR.base, HIF_ACCERR_DATA.base, HIF_EVENT.base] := fun h => ha (List.mem_append_left _ h)
  simp only [List.mem_cons, List.not_mem_nil, or_false, not_or] at hlog
  obtain ⟨herr, haddr, hdata, hevt⟩ := hlog
  rw [discard_reg hq hevt, recordErr_first hvalid, reg_setReg_ne hdata, reg_setReg_ne haddr, reg_setReg_ne herr]

/-- What HIF_ACCERR says of the first error. -/
theorem discard_logs (hsrc : src < 4) :
    let t := s.discard src c write be addr data n
    t.fld HIF_ACCERR_VALID = 1 ∧ t.fld HIF_ACCERR_CAUSE = c.code ∧ t.fld HIF_ACCERR_WRITE = (if write then 1 else 0) ∧
      t.fld HIF_ACCERR_SRC = src ∧ t.fld HIF_ACCERR_BE = be % 16 := by
  have hfld : ∀ f : Fld, f.rg = HIF_ACCERR → (s.discard src c write be addr data n).fld f =
      bits (BitVec.ofNat 32 (errWord src c write be)) f.lo f.w := fun f hf => by
    rw [State.fld, hf]
    exact congrArg (bits · f.lo f.w) (discard_accerr hvalid src c write be addr data n)
  obtain ⟨hvalid', hcause, hwrite, hsource, henables⟩ := errWord_bits (be := be) c write hsrc
  exact ⟨(hfld _ rfl).trans hvalid', (hfld _ rfl).trans hcause, (hfld _ rfl).trans hwrite, (hfld _ rfl).trans hsource, (hfld _ rfl).trans henables⟩
end FirstError

/-- An error of the host touches only the registers, host memory, the endpoint, the Journal's intake and the response. -/
theorem discard_only (s : State) (src : Nat) (c : AccCause) (write : Bool) (be addr data n : Nat) :
    Only 276894209 s (s.discard src c write be addr data n) := by
  rw [State.discard, State.respondErr_only, State.accErr_only]
  exact Only.refl _ s

/-- A discarded write is not answered where SLVERR_EN is 0 (R100). -/
theorem discard_resp {s : State} (hvalid : s.flag HIF_ACCERR_VALID = false) (hslv : s.flag HIF_CTRL_SLVERR_EN = false) (src : Nat) (c : AccCause)
    (be addr data n : Nat) : (s.discard src c true be addr data n).resp = s.resp := by
  have hkept : (s.accErr .host src c true be addr data).flag HIF_CTRL_SLVERR_EN = false := by
    have hreg := discard_sameRegsBut hvalid src c true be addr data n HIF_CTRL_SLVERR_EN.rg.at (by decide)
    rw [State.discard, respondErr_reg] at hreg
    rw [State.flag, fld_of_reg_eq hreg]
    exact hslv
  have honly : Only 8458753 s (s.accErr .host src c true be addr data) := by
    rw [State.accErr_only]
    exact Only.refl _ s
  rw [State.discard, State.respondErr, hkept]
  exact honly .resp (by decide)

/-! ### Requests that are served (R339, R431) -/

/-- With Memory Space Enable 0 a request of the host to a register does not reach the device (R339). -/
theorem barsOff_of_mse {s : State} (h : s.hif.mse = false) : s.barsOff .host = true := by simp [State.barsOff, h]

/-- A served request reaches every register that lies on no compute die. -/
theorem reaches_of_serves {s : State} {rq : Requester} (h : s.serves rq) {off : Nat} (hdie : offDie off = none := by rfl) :
    s.reaches rq off := by
  rw [State.reaches, State.unreachable, hdie, notServed_of_serves h]
  rfl

section Served
variable {s : State} {rq : Requester} (hserve : s.serves rq) {off be : Nat}
include hserve

theorem busWrite_done {t : State} {v : Word} (h : s.regWrite rq off be v = (t, none)) : s.busWrite rq off be v = t := by
  rw [State.busWrite, barsOff_of_serves hserve, h]
  rfl
theorem busRead_done {t : State} {v : Nat} (h : s.regRead rq off be (decide (rq = .debug) && !(s.flag DBG_CTRL_SIDEFX)) = (t, .inl v)) :
    s.busRead rq off be = t.respond rq 0 (toBytes 4 v) := by
  rw [State.busRead, barsOff_of_serves hserve, h]
  rfl

/-- What a served write of an accepted shape does to the register it names. -/
theorem regWrite_target {t : Target} {v : Word} (hbe : be ≠ 0 ∧ beOk be = true) (hm : msixAt off = none) (ht : target off = some t) :
    s.regWrite rq off be v =
      if be ≠ 15 ∧ ¬ t.card.bw ∧ ¬ t.readOnly then (s, some .narrow)
      else if t.readOnly ∨ keyMissing t.card.rg v.toNat ∨ s.detached t.card.rg then (s, some .roWrite)
      else if s.unreachable rq off then (s, some .unreachable)
      else (s.writeTo rq t be v, if keylessReset t.card.rg v.toNat then some .roWrite else none) := by
  rw [State.regWrite, if_neg hbe.1, notServed_of_serves hserve, if_neg Bool.false_ne_true, if_neg (by rw [hbe.2]; decide), hm, ht]

/-- A full write of a plain register that lies on no compute die is carried out. -/
theorem busWrite_target {t : Target} {v : Word} (hm : msixAt off = none) (ht : target off = some t) (hdie : offDie off = none)
    (hro : t.readOnly = false) (hkey : t.card.rg ∉ [PWR_RSTCTL, PWR_FENCE, DBG_CTRL, DBG_HALT, DBG_RESUME, DBG_STEP]) :
    s.busWrite rq off 15 v = s.writeTo rq t 15 v := by
  simp only [List.mem_cons, List.not_mem_nil, or_false, not_or] at hkey
  obtain ⟨hrst, hfence, hctrl, hhalt, hresume, hstep⟩ := hkey
  apply busWrite_done hserve
  rw [regWrite_target hserve (by decide) hm ht, if_neg fun h => h.1 rfl, if_neg (by simp [keyMissing, State.detached, *]),
    if_neg (by rw [reaches_of_serves hserve hdie]; decide), if_neg (by simp [keylessReset, hctrl])]

/-- A full read of a register that lies on no compute die. -/
theorem busRead_target {t : Target} (hm : msixAt off = none) (ht : target off = some t) (hdie : offDie off = none) (hview : t.view = false) :
    s.busRead rq off 15 = (s.readEffects rq t (decide (rq = .debug) && !(s.flag DBG_CTRL_SIDEFX))).respond rq 0 (toBytes 4
      (t.shown (if t.card.half = .hi then ((look s.latch (latchKey rq t.a)).getD 0).toNat else s.current rq t.card.rg t.a t.i) &&& beMask 15)) := by
  apply busRead_done hserve
  rw [State.regRead, if_neg (by decide), notServed_of_serves hserve, if_neg Bool.false_ne_true, if_neg (by decide), hm, ht]
  dsimp only
  rw [reaches_of_serves hserve hdie, if_neg Bool.false_ne_true, hview, if_neg Bool.false_ne_true]
end Served

/-- A register without write-only fields is read as it stands. -/
theorem shown_full {t : Target} (h : t.card.mask .wo = 0) (x : Word) : t.shown x.toNat &&& beMask 15 = x.toNat := by
  have hmask : beMask 15 = 2 ^ 32 - 1 := by decide
  have hself : BitVec.ofNat 32 x.toNat &&& ~~~(0 : Word) = x := by
    rw [show ~~~(0 : Word) = BitVec.allOnes 32 from rfl, BitVec.and_allOnes, BitVec.ofNat_toNat, BitVec.setWidth_eq]
  rw [Target.shown, h, hself, hmask, Nat.and_two_pow_sub_one_eq_mod]
  exact Nat.mod_eq_of_lt x.isLt

/-- A full write of a register whose fields can all be written. -/
theorem written_full {c : Card} (hrw : c.mask .rw = BitVec.allOnes 32) (hw1c : c.mask .w1c = 0) (old v : Word) : written c old 15 v = v := by
  have hmask : BitVec.ofNat 32 (beMask 15) = BitVec.allOnes 32 := by decide
  unfold written
  dsimp only
  rw [hrw, hw1c, hmask, BitVec.and_self, BitVec.not_allOnes, BitVec.and_zero, BitVec.zero_or, BitVec.and_allOnes,
    show v &&& (0 : Word) = 0 from BitVec.and_zero, show ~~~(0 : Word) = BitVec.allOnes 32 from rfl, BitVec.and_allOnes]

end Sys2Proof.Machine
end

section
/-! Proofs/RegisterAccesses.lean: reads and writes of registers over BAR0 (`Obligations.RegisterAccesses`, O6): a staged register, a read that clears,
the pairs RND_COUNT and CMD_SBASE, the error log cleared, and what does not reach the device. -/

namespace Sys2Proof.Machine
open Sys2Proof Sys2Proof.Machine.Reg

-- As in the files of Laws/: proofs elaborated side by side take the joined text past its memory limit.
set_option Elab.async false

/-! ### The registers of the clauses -/

/-- RND_BAND_LO, a staged register. -/
def bandLo : Target := ⟨⟨RND_BAND_LO, 0x002D0000, false, .none, [⟨0, 32, .rw, true⟩]⟩, 0, 0, RND_BAND_LO.base, false⟩
/-- RND_STATS, which a read clears. -/
def rndStats : Target := ⟨⟨RND_STATS, 0, false, .none, [⟨0, 16, .rc, false⟩, ⟨16, 16, .rc, false⟩]⟩, 0, 0, RND_STATS.base, false⟩
/-- The halves of RND_COUNT. -/
def countLo : Target := ⟨⟨RND_COUNT_LO, 0, false, .lo, [⟨0, 32, .ro, false⟩]⟩, 0, 0, RND_COUNT_LO.base, false⟩
def countHi : Target := ⟨⟨RND_COUNT_HI, 0, false, .hi, [⟨0, 16, .ro, false⟩, ⟨16, 16, .ro, false⟩]⟩, 0, 0, RND_COUNT_HI.base, false⟩
/-- The halves of CMD_SBASE. -/
def sbaseLo : Target := ⟨⟨CMD_SBASE_LO, 0, false, .lo, [⟨0, 6, .ro, false⟩, ⟨6, 26, .rw, false⟩]⟩, 0, 0, CMD_SBASE_LO.base, false⟩
def sbaseHi : Target := ⟨⟨CMD_SBASE_HI, 0, false, .hi, [⟨0, 32, .rw, false⟩]⟩, 0, 0, CMD_SBASE_HI.base, false⟩

theorem target_bandLo : target RND_BAND_LO.base = some bandLo := rfl
theorem target_rndStats : target RND_STATS.base = some rndStats := rfl
theorem target_countLo : target RND_COUNT_LO.base = some countLo := rfl
theorem target_countHi : target RND_COUNT_HI.base = some countHi := rfl
theorem target_sbaseLo : target CMD_SBASE_LO.base = some sbaseLo := rfl
theorem target_sbaseHi : target CMD_SBASE_HI.base = some sbaseHi := rfl

/-! ### The commands -/

theorem exec_registerWrite (rq : Requester) (off be : Nat) (v : Word) (s : State) :
    exec (.registerWrite rq off be v) s = .next (s.busWrite rq off be v) := rfl
theorem exec_rcRead (rq : Requester) (off be : Nat) (s : State) : exec (.rcRead rq off be) s = .next (s.busRead rq off be) := rfl
theorem exec_pairLowRead (rq : Requester) (off be : Nat) (s : State) : exec (.pairLowRead rq off be) s = .next (s.busRead rq off be) := rfl
theorem exec_pairHighWrite (rq : Requester) (off : Nat) (v : Word) (s : State) :
    exec (.pairHighWrite rq off v) s = .next (s.busWrite rq off 15 v) := rfl

/-! ### A staged register (R95) -/

/-- A write of RND_BAND_LO stores the value and starts nothing. -/
theorem writeTo_bandLo (s : State) (rq : Requester) (v : Word) : s.writeTo rq bandLo 15 v = s.setReg RND_BAND_LO.base v := by
  have hplain : s.writeTo rq bandLo 15 v = s.storeReg bandLo 15 v := ite_self (c := v.toNat.testBit 0 = true) (s.storeReg bandLo 15 v)
  rw [hplain, State.storeReg, written_full (by decide) (by decide)]
  rfl

/-- Clause 1 of `Obligations.RegisterAccesses`. -/
theorem registerWrite_staged {s : State} (h : s.serves .host) (v : Word) : Does (.registerWrite .host RND_BAND_LO.base 15 v) s (fun t =>
    t.reg RND_BAND_LO.base = v ∧ t.reg (RND_BAND_LO.base + 0x800) = s.reg (RND_BAND_LO.base + 0x800) ∧
      sameRegsBut [RND_BAND_LO.base] s t ∧ t.resp = s.resp) := by
  have hwrite : s.busWrite .host RND_BAND_LO.base 15 v = s.setReg RND_BAND_LO.base v :=
    (busWrite_target h rfl target_bandLo rfl (by decide) (by decide)).trans (writeTo_bandLo s .host v)
  refine Does.intro ((exec_registerWrite _ _ _ _ _).trans (congrArg _ hwrite)) ⟨reg_setReg_same _ _ _, reg_setReg_ne (by decide), ?_, rfl⟩
  exact sameRegsBut_setReg s v (List.mem_singleton.2 rfl)

/-! ### A read that clears (R82, R101) -/

/-- A quiet read of RND_STATS has no effect, any other one clears it. -/
theorem readEffects_rndStats (s : State) (rq : Requester) (quiet : Bool) :
    s.readEffects rq rndStats quiet = if quiet then s else s.setReg RND_STATS.base 0 := by
  have hclear : s.reg RND_STATS.base &&& ~~~(rndStats.card.mask .rc) = 0 := by
    rw [show rndStats.card.mask .rc = BitVec.allOnes 32 by decide]
    simp
  cases quiet
  · exact congrArg (s.setReg RND_STATS.base) hclear
  · rfl

/-- Clause 2 of `Obligations.RegisterAccesses`. -/
theorem rcRead_clears {s : State} {rq : Requester} (h : s.serves rq) : Does (.rcRead rq RND_STATS.base 15) s (fun t =>
    t.resp = { rq := rq, st := 0, poison := false, data := toBytes 4 (s.regN RND_STATS) } ∧
      (rq = .debug → s.flag DBG_CTRL_SIDEFX = false → t.regs = s.regs) ∧
      (rq ≠ .debug → t.regN RND_STATS = 0 ∧ sameRegsBut [RND_STATS.base] s t)) := by
  have hread := busRead_target h rfl target_rndStats rfl rfl
  rw [readEffects_rndStats] at hread
  refine Does.intro ((exec_rcRead _ _ _ _).trans (congrArg _ hread)) ⟨?_, ?_, ?_⟩
  · exact congrArg (fun n => ({ rq := rq, st := 0, data := toBytes 4 n } : Resp)) (shown_full (by decide) (s.reg RND_STATS.base))
  · intro hdebug hside
    simp [hdebug, hside, State.respond]
  · intro hdebug
    have hkept : sameRegsBut [RND_STATS.base] s (s.setReg RND_STATS.base 0) := sameRegsBut_setReg s 0 (List.mem_singleton.2 rfl)
    rw [if_neg (by simp [hdebug])]
    exact ⟨congrArg BitVec.toNat (reg_setReg_same s RND_STATS.base 0), hkept⟩

/-! ### 64-bit pairs (R84) -/

/-- Clause 3 of `Obligations.RegisterAccesses`: a read of the low half latches the high half. -/
theorem pairLowRead_latches {s : State} {rq : Requester} (h : s.serves rq) : Does (.pairLowRead rq RND_COUNT_LO.base 15) s (fun t =>
    t.resp = { rq := rq, st := 0, poison := false, data := toBytes 4 (s.regN RND_COUNT_LO) } ∧
      look t.latch (latchKey rq RND_COUNT_HI.base) = some (s.reg RND_COUNT_HI.base) ∧ t.regs = s.regs) := by
  have heffects : ∀ quiet, s.readEffects rq countLo quiet =
      { s with latch := bind s.latch (latchKey rq RND_COUNT_HI.base) (BitVec.ofNat 32 (s.reg RND_COUNT_HI.base).toNat) } := fun quiet => by
    cases quiet <;> rfl
  have hread := busRead_target h rfl target_countLo rfl rfl
  rw [heffects] at hread
  refine Does.intro ((exec_pairLowRead _ _ _ _).trans (congrArg _ hread)) ⟨?_, ?_, rfl⟩
  · exact congrArg (fun n => ({ rq := rq, st := 0, data := toBytes 4 n } : Resp)) (shown_full (by decide) (s.reg RND_COUNT_LO.base))
  · exact (look_bind_same _ _ _).trans (congrArg some (by simp))

/-- Clause 4 of `Obligations.RegisterAccesses`: a read of the high half answers what was latched. -/
theorem rcRead_highHalf {s : State} {rq : Requester} {v : Word} (h : s.serves rq) (hlatch : look s.latch (latchKey rq RND_COUNT_HI.base) = some v) :
    Does (.rcRead rq RND_COUNT_HI.base 15) s (fun t =>
      t.resp = { rq := rq, st := 0, poison := false, data := toBytes 4 v.toNat } ∧ t.regs = s.regs) := by
  have heffects : ∀ quiet, s.readEffects rq countHi quiet = s := fun quiet => by cases quiet <;> rfl
  have hread := busRead_target h rfl target_countHi rfl rfl
  have hvalue : ((look s.latch (latchKey rq countHi.a)).getD 0).toNat = v.toNat := by
    rw [show countHi.a = RND_COUNT_HI.base from rfl, hlatch]
    rfl
  rw [heffects, if_pos (show countHi.card.half = .hi from rfl), hvalue, shown_full (by decide)] at hread
  exact Does.intro ((exec_rcRead _ _ _ _).trans (congrArg _ hread)) ⟨rfl, rfl⟩

/-- The staged low half of CMD_SBASE that `rq` has written. -/
def State.sbaseLow (s : State) (rq : Requester) : Word := (look s.stage (latchKey rq CMD_SBASE_LO.base)).getD 0

/-- With the status ring disabled a write of the high half of CMD_SBASE takes the staged low half with it. -/
theorem writePair_sbaseHi {s : State} (rq : Requester) (v : Word) (hen : s.flag CMD_SCFG_EN = false) : s.writePair rq sbaseHi v =
    (s.setReg CMD_SBASE_LO.base (written sbaseLo.card (s.reg CMD_SBASE_LO.base) 15 (s.sbaseLow rq))).setReg CMD_SBASE_HI.base v := by
  have hpair : s.writePair rq sbaseHi v =
      (s.setReg CMD_SBASE_LO.base (written sbaseLo.card (s.reg CMD_SBASE_LO.base) 15 (s.sbaseLow rq))).storeReg sbaseHi 15 v := by
    have hoff : ¬ (sbaseHi.card.rg = CMD_SBASE_HI ∧ s.flag CMD_SCFG_EN) := by simp [hen]
    unfold State.writePair
    dsimp only
    rw [if_neg (by decide), if_neg (by simp [sbaseHi, CMD_SBASE_HI, CMD_RBASE_HI, CMD_CBASE_HI]), if_neg hoff, if_neg (by decide)]
    rfl
  rw [hpair, State.storeReg, written_full (c := sbaseHi.card) (by decide) (by decide)]
  rfl

/-- The writable bits of CMD_SBASE_LO take the data. -/
theorem bits_written_sbaseLo (old v : Word) : bits (written sbaseLo.card old 15 v) 6 26 = bits v 6 26 := by
  have hrw : ∀ i < 26, (sbaseLo.card.mask .rw &&& BitVec.ofNat 32 (beMask 15)).getLsbD (i + 6) = true := by decide
  have hw1c : sbaseLo.card.mask .w1c = 0#32 := by decide
  apply Nat.eq_of_testBit_eq
  intro i
  simp only [bits, Nat.testBit_mod_two_pow, Nat.testBit_div_two_pow, BitVec.testBit_toNat, written, hw1c, BitVec.and_zero]
  by_cases hi : i < 26
  · have hbit : i + 6 < 32 := by omega
    have hmask := hrw i hi
    rw [BitVec.getLsbD_and, BitVec.getLsbD_or, BitVec.getLsbD_and, BitVec.getLsbD_and, BitVec.getLsbD_not, BitVec.getLsbD_not, hmask]
    simp [hbit]
  · simp [hi]

/-- Clause 5 of `Obligations.RegisterAccesses`. -/
theorem pairHighWrite_takesPair {s : State} {rq : Requester} (h : s.serves rq) (hen : s.flag CMD_SCFG_EN = false) (v : Word) :
    Does (.pairHighWrite rq CMD_SBASE_HI.base v) s (fun t => t.reg CMD_SBASE_HI.base = v ∧
      bits (t.reg CMD_SBASE_LO.base) 6 26 = bits ((look s.stage (latchKey rq CMD_SBASE_LO.base)).getD 0) 6 26 ∧
      sameRegsBut [CMD_SBASE_LO.base, CMD_SBASE_HI.base] s t) := by
  have hwrite := (busWrite_target h rfl target_sbaseHi rfl (by decide) (by decide)).trans (writePair_sbaseHi rq v hen)
  refine Does.intro ((exec_pairHighWrite _ _ _ _).trans (congrArg _ hwrite)) ⟨reg_setReg_same _ _ _, ?_, fun a ha => ?_⟩
  · rw [reg_setReg_ne (by decide), reg_setReg_same, bits_written_sbaseLo, State.sbaseLow]
  · simp only [List.mem_cons, List.not_mem_nil, or_false, not_or] at ha
    rw [reg_setReg_ne ha.2, reg_setReg_ne ha.1]

/-- Clause 6 of `Obligations.RegisterAccesses`: a write of the low half is staged. -/
theorem registerWrite_lowHalf {s : State} (h : s.serves .host) (v : Word) : Does (.registerWrite .host CMD_SBASE_LO.base 15 v) s (fun t =>
    t.regs = s.regs ∧ look t.stage (latchKey .host CMD_SBASE_LO.base) = some v) := by
  have hwrite : s.busWrite .host CMD_SBASE_LO.base 15 v = { s with stage := bind s.stage (latchKey .host CMD_SBASE_LO.base) v } :=
    busWrite_target h rfl target_sbaseLo rfl (by decide) (by decide)
  exact Does.intro ((exec_registerWrite _ _ _ _ _).trans (congrArg _ hwrite)) ⟨rfl, look_bind_same _ _ _⟩

/-! ### The error log is cleared (R99), and requests that do not reach the device (R88, R339) -/

/-- Clause 7 of `Obligations.RegisterAccesses`. -/
theorem accerrClear_clears (s : State) : Does .accerrClear s (fun t => t.fld HIF_ACCERR_VALID = 0 ∧ t.fld HIF_ACCERR_COUNT = 0 ∧
    t.fld HIF_ACCERR_CAUSE = s.fld HIF_ACCERR_CAUSE ∧ sameRegsBut [HIF_ACCERR.base] s t) := by
  have hexec : exec .accerrClear s =
      .next (s.setReg HIF_ACCERR.base (setBits (setBits (s.reg HIF_ACCERR.base) 0 1 0) 16 16 0)) := rfl
  refine Does.intro hexec ⟨?_, ?_, ?_, sameRegsBut_setReg s _ (List.mem_singleton.2 rfl)⟩
  all_goals refine (congrArg (bits · _ _) (reg_setReg_same _ _ _)).trans ?_
  · exact (bits_setBits_ne _ _ _ _ _ _ (by decide) (by decide)).trans (bits_setBits _ _ _ _ (by decide))
  · exact bits_setBits _ _ _ _ (by decide)
  · exact (bits_setBits_ne _ _ _ _ _ _ (by decide) (by decide)).trans (bits_setBits_ne _ _ _ _ _ _ (by decide) (by decide))

/-- Clause 9 of `Obligations.RegisterAccesses`. -/
theorem exec_without_mse {s : State} (h : s.hif.mse = false) (off be : Nat) (v : Word) (hi n : Nat) :
    ∀ c ∈ [Instr.registerWrite .host off be v, .rcRead .host off be, .pairLowRead .host off be, .pairHighWrite .host off v, .nssetArm .host hi,
      .bar0Overlong true off be v n, .bar0Overlong false off be v n, .coreDebugRegAccess .host false 0],
      exec c s = .next { s with resp := { rq := .host, st := 2, poison := false, data := [] } } := by
  have hwrite : ∀ off be v, s.busWrite .host off be v = s.respond .host 2 [] := fun _ _ _ => if_pos (barsOff_of_mse h)
  have hread : ∀ off be, s.busRead .host off be = s.respond .host 2 [] := fun _ _ => if_pos (barsOff_of_mse h)
  have hlong : ∀ write, exec (.bar0Overlong write off be v n) s = .next (s.respond .host 2 []) :=
    fun _ => congrArg Host.Outcome.next (if_pos (barsOff_of_mse h))
  simp only [List.forall_mem_cons, List.not_mem_nil, false_imp_iff, implies_true, and_true]
  exact ⟨congrArg _ (hwrite _ _ _), congrArg _ (hread _ _), congrArg _ (hread _ _), congrArg _ (hwrite _ _ _), congrArg _ (hwrite _ _ _),
    hlong true, hlong false, congrArg _ (hread _ _)⟩

/-- Settles O6: a request that is served is the read or the write of the register it names. -/
theorem registerAccesses : Obligations.RegisterAccesses := by
  unfold Obligations.RegisterAccesses
  refine ⟨?_, ?_, ?_, ?_, ?_, ?_, ?_, ?_, ?_⟩
  · exact fun s v h => registerWrite_staged h v
  · exact fun s rq h => rcRead_clears h
  · exact fun s rq h => pairLowRead_latches h
  · exact fun s rq v h hlatch => rcRead_highHalf h hlatch
  · exact fun s rq v h hen => pairHighWrite_takesPair h hen v
  · exact fun s h v => registerWrite_lowHalf h v
  · exact fun s => accerrClear_clears s
  · exact fun s => ⟨_, rfl, rfl⟩
  · exact fun s h off be v hi n => exec_without_mse h off be v hi n

end Sys2Proof.Machine
end

section
/-! Proofs/DiscardedRequests.lean: requests of the host in error (`Obligations.DiscardedRequests`, O7): the causes of a register write that is served,
and every write with a row of its own whose register cannot be reached. -/

namespace Sys2Proof.Machine
open Sys2Proof Sys2Proof.Machine.Reg

-- As in the files of Laws/: proofs elaborated side by side take the joined text past its memory limit.
set_option Elab.async false

/-! ### Register writes in error (R80, R81, R83, R85) -/

/-- A served register write in error is discarded. -/
theorem registerWrite_discards {s : State} (h : s.serves .host) {off be : Nat} {v : Word} {c : AccCause}
    (hwrite : s.regWrite .host off be v = (s, some c)) :
    exec (.registerWrite .host off be v) s = .next (s.discard 0 c true be off (laneData be v) 4) := by
  rw [exec_registerWrite, State.busWrite, barsOff_of_serves h, if_neg Bool.false_ne_true, hwrite]
  rfl

/-- RND_STATUS, a read-only register. -/
def rndStatus : Target :=
  ⟨⟨RND_STATUS, 0, false, .none,
    [⟨0, 3, .ro, false⟩, ⟨3, 1, .ro, false⟩, ⟨4, 2, .ro, false⟩, ⟨6, 1, .ro, false⟩, ⟨7, 1, .ro, false⟩, ⟨8, 1, .ro, false⟩, ⟨9, 1, .ro, false⟩,
      ⟨10, 1, .ro, false⟩, ⟨11, 1, .ro, false⟩, ⟨12, 1, .ro, false⟩, ⟨13, 3, .ro, false⟩, ⟨16, 4, .ro, false⟩, ⟨20, 12, .ro, false⟩]⟩,
    0, 0, RND_STATUS.base, false⟩
/-- The in-force view of RND_BAND_LO. -/
def bandLoView : Target := { bandLo with view := true }

theorem target_rndStatus : target RND_STATUS.base = some rndStatus := rfl
theorem bandLoView_at : RND_BAND_LO.base + 0x800 = 0x20818 := rfl
theorem target_bandLoView : target (RND_BAND_LO.base + 0x800) = some bandLoView := by
  rw [bandLoView_at]
  rfl
theorem msixAt_bandLoView : msixAt (RND_BAND_LO.base + 0x800) = none := by
  rw [bandLoView_at]
  rfl

section Served
variable {s : State} (h : s.serves .host) {off be : Nat} (v : Word)
include h

theorem regWrite_readOnly {t : Target} (hm : msixAt off = none) (ht : target off = some t) (hro : t.readOnly = true) :
    s.regWrite .host off 15 v = (s, some .roWrite) := by
  rw [regWrite_target h (by decide) hm ht, if_neg (by simp), if_pos (Or.inl hro)]
theorem regWrite_narrow {t : Target} (hbe : be ≠ 0 ∧ beOk be = true) (hpart : be ≠ 15) (hm : msixAt off = none) (ht : target off = some t)
    (hbw : t.card.bw = false) (hro : t.readOnly = false) : s.regWrite .host off be v = (s, some .narrow) := by
  rw [regWrite_target h hbe hm ht, if_pos (by simp [hpart, hbw, hro])]
theorem regWrite_unaligned (hbe : be ≠ 0) (hshape : beOk be = false) : s.regWrite .host off be v = (s, some .unaligned) := by
  rw [State.regWrite, if_neg hbe, notServed_of_serves h, if_neg Bool.false_ne_true, if_pos (by rw [hshape]; decide)]
theorem regWrite_unmapped (hbe : be ≠ 0 ∧ beOk be = true) (hm : msixAt off = none) (ht : target off = none) :
    s.regWrite .host off be v = (s, some .unmapped) := by
  rw [State.regWrite, if_neg hbe.1, notServed_of_serves h, if_neg Bool.false_ne_true, if_neg (by rw [hbe.2]; decide), hm, ht]
theorem bar0Overlong_discards (n : Nat) :
    exec (.bar0Overlong true off be v n) s = .next (s.discard 0 .width true be off (laneData be v) (4 * n)) := by
  have hexec : exec (.bar0Overlong true off be v n) s = .next (if s.barsOff .host then s.respond .host 2 []
    else s.discard 0 (if s.notServed .host off then .unreachable else .width) true be off (laneData be v) (4 * n)) := rfl
  rw [hexec, barsOff_of_serves h, notServed_of_serves h]
  rfl
end Served

/-- What the first error of a write of the host leaves: the log, the event, no answer and no other register. -/
def WriteLogged (code be : Nat) (s t : State) : Prop :=
  t.fld HIF_ACCERR_VALID = 1 ∧ t.fld HIF_ACCERR_CAUSE = code ∧ t.fld HIF_ACCERR_WRITE = 1 ∧ t.fld HIF_ACCERR_SRC = 0 ∧
    t.fld HIF_ACCERR_BE = be ∧ t.evt HIF_EVENT 0 ∧ t.resp = s.resp ∧ sameRegsBut errRegs s t

theorem does_writeLogged {cmd : Instr} {s : State} {c : AccCause} {be off data n : Nat} (hexec : exec cmd s = .next (s.discard 0 c true be off data n))
    (hvalid : s.flag HIF_ACCERR_VALID = false) (hslv : s.flag HIF_CTRL_SLVERR_EN = false) (hbe : be < 16) :
    Does cmd s (WriteLogged c.code be s) := by
  obtain ⟨hset, hcause, hwrite, hsrc, hlanes⟩ := discard_logs hvalid 0 c true be off data n (by decide)
  exact Does.intro hexec ⟨hset, hcause, hwrite, hsrc, hlanes.trans (Nat.mod_eq_of_lt hbe), discard_evt _ _ _ _ _ _ _ _,
    discard_resp hvalid hslv _ _ _ _ _ _, discard_sameRegsBut hvalid _ _ _ _ _ _ _⟩

/-- Clause 1 of `Obligations.DiscardedRequests`. -/
theorem served_write_discarded {s : State} (h : s.serves .host) (hvalid : s.flag HIF_ACCERR_VALID = false)
    (hslv : s.flag HIF_CTRL_SLVERR_EN = false) (v : Word) :
    ∀ p ∈ [(Instr.registerWrite .host RND_STATUS.base 15 v, 4, 15), (Instr.registerWrite .host (RND_BAND_LO.base + 0x800) 15 v, 4, 15),
      (Instr.registerWrite .host RND_BAND_LO.base 1 v, 1, 1), (Instr.registerWrite .host RND_BAND_LO.base 6 v, 2, 6),
      (Instr.registerWrite .host 0xE00000 15 v, 3, 15), (Instr.bar0Overlong true RND_BAND_LO.base 15 v 3, 5, 15)],
      Does p.1 s (WriteLogged p.2.1 p.2.2 s) := by
  have hlogged {off be : Nat} {c : AccCause} (hwrite : s.regWrite .host off be v = (s, some c)) (hbe : be < 16) :
      Does (.registerWrite .host off be v) s (WriteLogged c.code be s) :=
    does_writeLogged (registerWrite_discards h hwrite) hvalid hslv hbe
  simp only [List.forall_mem_cons, List.not_mem_nil, false_imp_iff, implies_true, and_true]
  refine ⟨?_, ?_, ?_, ?_, ?_, ?_⟩
  · exact hlogged (regWrite_readOnly h v rfl target_rndStatus (by decide)) (by decide)
  · exact hlogged (regWrite_readOnly h v msixAt_bandLoView target_bandLoView (by decide)) (by decide)
  · exact hlogged (regWrite_narrow h v (by decide) (by decide) rfl target_bandLo rfl (by decide)) (by decide)
  · exact hlogged (regWrite_unaligned h v (by decide) (by decide)) (by decide)
  · exact hlogged (regWrite_unmapped h v (by decide) rfl rfl) (by decide)
  · exact does_writeLogged (bar0Overlong_discards h v 3) hvalid hslv (by decide)

/-! ### Writes whose register cannot be reached (R86, R431) -/

/-- The command `c` stands for a write of `v` by the host to the register at `off`. -/
def HostWrite (c : Instr) (off v : Nat) (s : State) : Prop := ∃ o, exec c s = s.reached .host true off v o

/-- What a write that cannot reach its register leaves: it is logged, and no block but those that log and report is touched. -/
theorem does_unreached {c : Instr} {s : State} {off v : Nat} (hc : HostWrite c off v s) (hoff : off < 2 ^ 26) (hreach : ¬ s.reaches .host off)
    (hvalid : s.flag HIF_ACCERR_VALID = false) : Does c s (fun t => Unreached off v s t ∧ Only 276894209 s t) := by
  obtain ⟨o, hexec⟩ := hc
  have hdiscard : s.reached .host true off v o = .next (s.discard 0 .unreachable true 15 off v 4) := if_pos (Bool.of_not_eq_false hreach)
  obtain ⟨hset, hcause, hwrite, hsrc, -⟩ := discard_logs hvalid 0 .unreachable true 15 off v 4 (by decide)
  refine Does.intro (hexec.trans hdiscard) ⟨⟨hset, hcause, hwrite, hsrc, ?_, discard_evt _ _ _ _ _ _ _ _, discard_sameRegsBut hvalid _ _ _ _ _ _ _, ?_⟩,
    discard_only _ _ _ _ _ _ _ _⟩
  · exact (congrArg BitVec.toNat (discard_data hvalid 0 .unreachable true 15 off v 4)).trans (BitVec.toNat_ofNat _ _)
  · have haddr := congrArg BitVec.toNat (discard_addr hvalid 0 .unreachable true 15 off v 4)
    rw [BitVec.toNat_ofNat] at haddr
    rw [haddr]
    omega

/-- The host reaches HIF and PWR alone where the device does not serve it. -/
theorem unreachable_of_not_serving {s : State} (h : s.serving = false) {off : Nat} (hoff : 0x10000 ≤ off ∧ (off < 0xD0000 ∨ 0xE0000 ≤ off)) :
    ¬ s.reaches .host off := by
  have hnot : s.notServed .host off = true := by
    simp only [State.notServed, h, decide_true, Bool.not_false, Bool.and_self, Bool.true_and, Bool.not_eq_true', decide_eq_false_iff_not]
    omega
  simp [State.unreachable, hnot]

/-- The rows that write registers of cores and engines: the command, the register and the value. -/
def dieRows (n k i c m v : Nat) : List (Instr × Nat × Nat) :=
  [(Instr.coreGo n, CORE_CTRL.at n, 4), (.coreCtrlAbort n, CORE_CTRL.at n, 2), (.coreChflushWrite n m, CORE_CHFLUSH.at n, m),
    (.slotPgcommit k i, SOL_SLOTCTRL.at k i, 4), (.slotKick k i, SOL_SLOTCTRL.at k i, 8), (.slotReset k i, SOL_SLOTCTRL.at k i, 2),
    (.solCtrlAbort k, SOL_CTRL.at k, 1), (.solInflushWrite k m, SOL_INFLUSH.at k, m), (.solIncfgWrite k c v, SOL_INCFG.at k c, v)]

theorem dieRows_write {n k i c : Nat} (hn : n < 32) (hk : k < 2) (hi : i < 32) (hc : c < 16) (m v : Nat) (s : State) :
    ∀ p ∈ dieRows n k i c m v, HostWrite p.1 p.2.1 p.2.2 s := by
  simp only [dieRows, List.forall_mem_cons, List.not_mem_nil, false_imp_iff, implies_true, and_true]
  have hslot (o : Out) : onUnit k 2 (onUnit i 32 o) = o := (if_pos hk).trans (if_pos hi)
  have hinput (o : Out) : onUnit k 2 (onUnit c 16 o) = o := (if_pos hk).trans (if_pos hc)
  exact ⟨⟨_, if_pos hn⟩, ⟨_, if_pos hn⟩, ⟨_, if_pos hn⟩, ⟨_, hslot _⟩, ⟨_, hslot _⟩, ⟨_, hslot _⟩, ⟨_, if_pos hk⟩, ⟨_, if_pos hk⟩, ⟨_, hinput _⟩⟩

theorem dieRows_offset {n k i c : Nat} (hn : n < 32) (hk : k < 2) (hi : i < 32) (hc : c < 16) (m v : Nat) :
    ∀ p ∈ dieRows n k i c m v, p.2.1 < 2 ^ 26 := by
  simp only [dieRows, List.forall_mem_cons, List.not_mem_nil, false_imp_iff, implies_true, and_true, Rg.at, CORE_CTRL, CORE_CHFLUSH, SOL_SLOTCTRL,
    SOL_CTRL, SOL_INFLUSH, SOL_INCFG]
  omega

/-- Clause 2 of `Obligations.DiscardedRequests`. -/
theorem dieRows_unreached {s : State} (hvalid : s.flag HIF_ACCERR_VALID = false) {n k i c : Nat} (hn : n < 32) (hk : k < 2) (hi : i < 32)
    (hc : c < 16) (m v : Nat) : ∀ p ∈ dieRows n k i c m v, ¬ s.reaches .host p.2.1 →
      Does p.1 s (fun t => Unreached p.2.1 p.2.2 s t ∧ t.cores = s.cores ∧ t.engines = s.engines ∧ t.mesh = s.mesh) := by
  intro p hp hreach
  obtain ⟨t, hexec, hlog, honly⟩ :=
    does_unreached (dieRows_write hn hk hi hc m v s p hp) (dieRows_offset hn hk hi hc m v p hp) hreach hvalid
  exact ⟨t, hexec, hlog, honly .cores (by decide), honly .engines (by decide), honly .mesh (by decide)⟩

/-- The rows that write registers of the hub outside HIF and PWR. (The commands among them are too many for compiled code.) -/
noncomputable def hubRows (k p w u q v : Nat) : List (Instr × Nat × Nat) :=
  [(Instr.holdForce true, RND_CTRL.base, 4), (.holdForce false, RND_CTRL.base, 0), (.rndSnap, RND_CTRL.base, 2),
    (.patCtrlAdmit, PAT_CTRL.base, 1), (.patCtrlActivate, PAT_CTRL.base, 2), (.patCtrlDeactivate, PAT_CTRL.base, 4), (.patCtrlCancel, PAT_CTRL.base, 8),
    (.molRetrain p, MOL_CTRL.at p, 2), (.molQrel p, MOL_CTRL.at p, 4), (.ringRearmWrite k, WFM_RGCTRL.at k, 1), (.ringForceWrite k, WFM_RGCTRL.at k, 2),
    (.ispRpkickWrite q v, ISP_RPKICK.at q, v), (.doorbell k v, CMD_PROD.at k, v), (.cmdCconsWrite k v, CMD_CCONS.at k, v),
    (.cmdSconsWrite v, CMD_SCONS.base, v), (.ringEnable k, CMD_CTRL.at k, 1), (.ringDisable k, CMD_CTRL.at k, 0), (.cmdCtrlFlush k, CMD_CTRL.at k, 3),
    (.fbrWindowFlush w, FBR_WCTRL.at w, 2), (.fbrErrackWrite v, FBR_ERRACK.base, v), (.mrkHopcmdWrite .host v, MRK_HOPCMD.base, v),
    (.dbgHaltWrite .host v, DBG_HALT.base, v), (.dbgResumeWrite .host v, DBG_RESUME.base, v), (.chkCheck u, CHK_CTRL.at u, 4),
    (.chkStart u, CHK_CTRL.at u, 2), (.jrnCtrlSnapshot, JRN_CTRL.base, 2), (.jrnCtrlFlush, JRN_CTRL.base, 4)]

theorem hubRows_write {k p w u q : Nat} (hk : k < 4) (hp : p < 6) (hw : w < 16) (hu : u < 8) (hq : q < 2) (v : Nat) (s : State) :
    ∀ x ∈ hubRows k p w u q v, HostWrite x.1 x.2.1 x.2.2 s := by
  simp only [hubRows, List.forall_mem_cons, List.not_mem_nil, false_imp_iff, implies_true, and_true]
  exact ⟨⟨_, rfl⟩, ⟨_, rfl⟩, ⟨_, rfl⟩, ⟨_, rfl⟩, ⟨_, rfl⟩, ⟨_, rfl⟩, ⟨_, rfl⟩, ⟨_, if_pos hp⟩, ⟨_, if_pos hp⟩, ⟨_, if_pos hk⟩, ⟨_, if_pos hk⟩,
    ⟨_, if_pos hq⟩, ⟨_, if_pos hk⟩, ⟨_, if_pos hk⟩, ⟨_, rfl⟩, ⟨_, if_pos hk⟩, ⟨_, if_pos hk⟩, ⟨_, if_pos hk⟩, ⟨_, if_pos hw⟩, ⟨_, rfl⟩, ⟨_, rfl⟩,
    ⟨_, rfl⟩, ⟨_, rfl⟩, ⟨_, if_pos hu⟩, ⟨_, if_pos hu⟩, ⟨_, rfl⟩, ⟨_, rfl⟩⟩

theorem hubRows_offset {k p w u q : Nat} (hk : k < 4) (hp : p < 6) (hw : w < 16) (hu : u < 8) (hq : q < 2) (v : Nat) :
    ∀ x ∈ hubRows k p w u q v, x.2.1 < 2 ^ 26 ∧ 0x10000 ≤ x.2.1 ∧ (x.2.1 < 0xD0000 ∨ 0xE0000 ≤ x.2.1) := by
  simp only [hubRows, List.forall_mem_cons, List.not_mem_nil, false_imp_iff, implies_true, and_true, Rg.at, RND_CTRL, PAT_CTRL, MOL_CTRL, WFM_RGCTRL,
    ISP_RPKICK, CMD_PROD, CMD_CCONS, CMD_SCONS, CMD_CTRL, FBR_WCTRL, FBR_ERRACK, MRK_HOPCMD, DBG_HALT, DBG_RESUME, CHK_CTRL, JRN_CTRL]
  omega

/-- Clause 3 of `Obligations.DiscardedRequests`. -/
theorem hubRows_unreached {s : State} (hserve : s.serving = false) (hvalid : s.flag HIF_ACCERR_VALID = false) {k p w u q : Nat} (hk : k < 4)
    (hp : p < 6) (hw : w < 16) (hu : u < 8) (hq : q < 2) (v : Nat) : ∀ x ∈ hubRows k p w u q v, Does x.1 s (fun t =>
      Unreached x.2.1 x.2.2 s t ∧ t.rnd = s.rnd ∧ t.pat = s.pat ∧ t.rings = s.rings ∧ t.cores = s.cores ∧ t.chk = s.chk) := by
  intro x hx
  obtain ⟨hlt, hoff⟩ := hubRows_offset hk hp hw hu hq v x hx
  obtain ⟨t, hexec, hlog, honly⟩ :=
    does_unreached (hubRows_write hk hp hw hu hq v s x hx) hlt (unreachable_of_not_serving hserve hoff) hvalid
  exact ⟨t, hexec, hlog, honly .rnd (by decide), honly .pat (by decide), honly .rings (by decide), honly .cores (by decide), honly .chk (by decide)⟩

/-- Settles O7: every request in error ends as a discarded one, whose log, event and untouched registers are those of `discard`. -/
theorem discardedRequests : Obligations.DiscardedRequests := by
  unfold Obligations.DiscardedRequests
  refine ⟨?_, ?_, ?_⟩
  · exact fun s h hvalid hslv v => served_write_discarded h hvalid hslv v
  · exact fun s hvalid _ n hn k hk i hi c hc m _ v _ => dieRows_unreached hvalid hn hk hi hc m v
  · exact fun s hserve hvalid _ k hk p hp w hw u hu q hq v _ => hubRows_unreached hserve hvalid hk hp hw hu hq v

end Sys2Proof.Machine
end

section
/-! Proofs/StagedSets.lean: COMMIT and the staged sets (`Obligations.StagedSets`, O9): the write of COMMIT, the sets of the Round engine and of bind-off
at stitch 0, and the set of a check unit. -/

namespace Sys2Proof.Machine
open Sys2Proof Sys2Proof.Machine.Reg

-- As in the files of Laws/: proofs elaborated side by side take the joined text past its memory limit.
set_option Elab.async false

/-! ### COMMIT (R95, R97) -/

/-- The address of a block's COMMIT bit. -/
def Block.commitAt (b : Block) : Nat := b.commit.1.rg.at b.commit.2.1 b.commit.2.2

theorem Block.commit_bit (b : Block) : b.commit.1.lo = 0 ∧ b.commit.1.w = 1 := by cases b <;> exact ⟨rfl, rfl⟩
theorem Block.commitAt_lt {b : Block} (h : b.ok = true) : b.commitAt < 2 ^ 26 := by
  cases b <;> simp only [Block.ok, decide_eq_true_eq] at h <;> simp only [commitAt, Block.commit, Rg.at,
      RND_CTRL_COMMIT, WFM_CTRL_COMMIT, MOL_CTRL_COMMIT, MESH_CTRL_COMMIT, PWR_HCTRL_COMMIT, PWR_BOCTRL_COMMIT, CAM_PCTRL_COMMIT,
      CAM_TXCTRL_COMMIT, ISP_LPCTRL_COMMIT, ISP_RPCCTRL_COMMIT, CORE_CTRL_COMMIT, SOL_SLOTCTRL_COMMIT, FBR_WCTRL_COMMIT, CHK_CTRL_COMMIT,
      JRN_CTRL_COMMIT, RND_CTRL, WFM_CTRL, MOL_CTRL, MESH_CTRL, PWR_HCTRL, PWR_BOCTRL, CAM_PCTRL, CAM_TXCTRL, ISP_LPCTRL, ISP_RPCCTRL, CORE_CTRL,
      SOL_SLOTCTRL, FBR_WCTRL, CHK_CTRL, JRN_CTRL] <;> omega

theorem exec_commitWrite {b : Block} (h : b.ok = true) (s : State) :
    exec (.commitWrite b) s = s.reached .host true b.commitAt (2 ^ b.commit.1.lo) (.next (s.writeCommit b)) := if_neg (by simp [h])
theorem exec_stagedSetApply {b : Block} (h : b.ok = true) (ecc : Bool) (s : State) : exec (.stagedSetApply b ecc) s = .next (s.safePoint ecc b) :=
  if_pos h

theorem exec_commitWrite_of_reaches {s : State} {b : Block} (h : b.ok = true) (hreach : s.reaches .host b.commitAt) :
    exec (.commitWrite b) s = .next (s.writeCommit b) := (exec_commitWrite h s).trans (reached_of_reaches hreach _ _ _)

/-- Only a window of the bridge and a check unit do more at a write of COMMIT than set the bit. -/
theorem writeCommit_of_waiting {s : State} {b : Block} (hwin : ∀ w, b ≠ .fbr w) (hchk : ∀ u, b ≠ .chk u) :
    s.writeCommit b = s.setFld b.commit.1 1 b.commit.2.1 b.commit.2.2 := by
  cases b with
  | fbr w => exact absurd rfl (hwin w)
  | chk u => exact absurd rfl (hchk u)
  | _ => rfl

/-- Clause 1 of `Obligations.StagedSets`. -/
theorem commitWrite_sets {s : State} {b : Block} (h : b.ok = true) (hwin : ∀ w, b ≠ .fbr w) (hchk : ∀ u, b ≠ .chk u)
    (hreach : s.reaches .host b.commitAt) : Does (.commitWrite b) s (fun t =>
      t.fld b.commit.1 b.commit.2.1 b.commit.2.2 = 1 ∧ sameRegsBut [b.commitAt] s t) := by
  refine Does.intro (exec_commitWrite_of_reaches h hreach) ?_
  obtain ⟨hlo, hw⟩ := b.commit_bit
  rw [writeCommit_of_waiting hwin hchk]
  refine ⟨?_, sameRegsBut_setReg s _ (List.mem_singleton.2 rfl)⟩
  rw [fld_setFld _ _ _ _ _ (by omega), hw]
  rfl

/-- Clause 2 of `Obligations.StagedSets`. -/
theorem commitWrite_unreached {s : State} {b : Block} (h : b.ok = true) (hreach : ¬ s.reaches .host b.commitAt)
    (hvalid : s.flag HIF_ACCERR_VALID = false) : Does (.commitWrite b) s (Unreached b.commitAt (2 ^ b.commit.1.lo) s) := by
  obtain ⟨t, hexec, hlog, -⟩ := does_unreached ⟨_, exec_commitWrite h s⟩ (Block.commitAt_lt h) hreach hvalid
  exact ⟨t, hexec, hlog⟩

/-- Clause 3 of `Obligations.StagedSets`: the set of a window waits for the window. -/
theorem commitWrite_window {s : State} {w : Nat} (hw : w < 16) (hreach : s.reaches .host (FBR_WCTRL.at w)) :
    Does (.commitWrite (.fbr w)) s (fun t => t.fld FBR_WCTRL_COMMIT w = 1 ∧ t.fld FBR_WSTAT_CWAIT w = 1 ∧
      sameRegsBut [FBR_WCTRL.at w, FBR_WSTAT.at w] s t) := by
  have hne : FBR_WCTRL_COMMIT.rg.at w ≠ FBR_WSTAT_CWAIT.rg.at w := by simp [Rg.at, FBR_WCTRL_COMMIT, FBR_WSTAT_CWAIT, FBR_WCTRL, FBR_WSTAT]
  refine Does.intro (exec_commitWrite_of_reaches (by simp [Block.ok, hw]) hreach) ⟨?_, fld_setFld _ _ _ _ _ (by decide), ?_⟩
  · exact (fld_setFld_ne hne).trans (fld_setFld _ _ _ _ _ (by decide))
  · exact (sameRegsBut_setReg _ _ (by simp [FBR_WCTRL_COMMIT])).trans (sameRegsBut_setReg _ _ (by simp [FBR_WSTAT_CWAIT]))

/-! ### A set is taken at its safe point (R95) -/

/-- Clause 4 of `Obligations.StagedSets`. -/
theorem stagedSetApply_without_commit {s : State} {b : Block} (h : b.ok = true) (hwait : s.committed b = false) (ecc : Bool) :
    exec (.stagedSetApply b ecc) s = .next s := by
  rw [exec_stagedSetApply h, State.safePoint, hwait]
  rfl
theorem stagedSetApply_at_safePoint {s : State} {b : Block} (h : b.ok = true) (hcommit : s.committed b = true) (hsafe : s.safeNow b = true)
    (ecc : Bool) : exec (.stagedSetApply b ecc) s = .next (s.applySet ecc b) := by
  rw [exec_stagedSetApply h, State.safePoint, hcommit, hsafe]
  rfl

/-- Registers whose staged values come into force one after the other. -/
def State.applyAll (s : State) (l : List Rg) : State := l.foldl (fun s r => s.apply1 r 0 0) s

theorem apply1_reg_ne (s : State) (r : Rg) (i j : Nat) {a : Nat} (h : a ≠ r.at i j + 0x800) : (s.apply1 r i j).reg a = s.reg a := by
  rw [State.apply1, reg_setReg_ne h]
theorem apply1_reg_same (s : State) (r : Rg) (i j : Nat) : (s.apply1 r i j).reg (r.at i j + 0x800) = s.reg (r.at i j) := by
  rw [State.apply1, reg_setReg_same]

theorem applyAll_reg_ne {l : List Rg} (s : State) {a : Nat} (h : ∀ q ∈ l, a ≠ q.at 0 0 + 0x800) : (s.applyAll l).reg a = s.reg a :=
  foldl_reg (fun q hq _ => apply1_reg_ne _ q 0 0 (h q hq)) s
/-- In force stands what was staged, where no staged register is the in-force copy of another. -/
theorem applyAll_live {l : List Rg} (s : State) (hl : ∀ r ∈ l, ∀ q ∈ l, r.at 0 0 ≠ q.at 0 0 + 0x800) {r : Rg} (hr : r ∈ l) :
    (s.applyAll l).reg (r.at 0 0 + 0x800) = s.reg (r.at 0 0) := by
  induction l generalizing s r with
  | nil => exact absurd hr List.not_mem_nil
  | cons q l ih =>
    have hstep : (s.applyAll (q :: l)) = (s.apply1 q 0 0).applyAll l := by simp only [State.applyAll, List.foldl_cons]
    have hstaged : (s.apply1 q 0 0).reg (r.at 0 0) = s.reg (r.at 0 0) := apply1_reg_ne s q 0 0 (hl r hr q List.mem_cons_self)
    by_cases hlater : ∃ x ∈ l, x.at 0 0 = r.at 0 0
    · obtain ⟨x, hx, he⟩ := hlater
      have hrest := ih (s.apply1 q 0 0) (fun y hy z hz => hl y (List.mem_cons_of_mem _ hy) z (List.mem_cons_of_mem _ hz)) hx
      rw [he] at hrest
      rw [hstep, hrest, hstaged]
    · obtain rfl : r = q := (List.mem_cons.1 hr).resolve_right fun hm => hlater ⟨r, hm, rfl⟩
      rw [hstep, applyAll_reg_ne _ fun x hx he => hlater ⟨x, hx, by omega⟩, apply1_reg_same]

/-! ### The set of the Round engine (R35, R48) -/

/-- The fields of RND_STATUS that a set of the engine may move. -/
def takenStatus : List Fld :=
  [RND_STATUS_VQUAL, RND_STATUS_ZQUAL, RND_STATUS_REF_ACT, RND_STATUS_STATE, RND_STATUS_SLEW_HELD, RND_STATUS_OUTBAND, RND_STATUS_PPS_LOCK]

theorem RoundMoves.then {m : List Fld} {s t u : State} (h : RoundMoves m s t) (g : RoundMoves m t u) : RoundMoves m s u :=
  (h.trans g).mono fun _ hf => (List.mem_append.1 hf).elim id id

theorem disqualify_moves (s : State) (v : Bool) : RoundMoves takenStatus s (s.disqualify v) := by
  have hsteps : s.disqualify v = if (s.unqualified v).inUse v then
      (if (s.unqualified v).refLost.enabled (!v) && (s.unqualified v).refLost.qualified (!v) then (s.unqualified v).refLost.switchRef (!v)
        else (s.unqualified v).refLost.toHold)
      else s.unqualified v := rfl
  have hcand : RoundMoves takenStatus s (s.unqualified v) := (unqualified_moves s v).mono (by cases v <;> decide)
  have hlost : RoundMoves takenStatus s (s.unqualified v).refLost := hcand.then ((refLost_moves _).mono (by decide))
  rw [hsteps]
  exact .ite (.ite (hlost.then ((switchRef_moves _ _).mono (by decide))) (hlost.then ((toHold_moves _).mono (by decide)))) hcand

theorem losePps_moves (s : State) : RoundMoves takenStatus s s.losePps :=
  (((RoundMoves.modRnd).trans (RoundMoves.setStatus _)).trans (rndEvent_moves _ _ _ _)).mono (by decide)

/-- The output follows the band and the frequency in force. -/
def State.outputTaken (s : State) : State := if s.rstate = stFree then s.setBase s.nominal else s.setOutput
/-- A candidate starts anew where `off` says so. -/
def State.candReset (s : State) (v off : Bool) : State := if off then (s.disqualify v).setCand v {} else s
/-- PPS that is not enabled starts anew. -/
def State.ppsTaken (s : State) : State :=
  if s.live RND_PPSCFG_EN = 0 then
    let s := s.modRnd (fun r => { r with ppsRun := 0, ppsLast := none })
    if s.flag RND_STATUS_PPS_LOCK then s.losePps else s
  else s

theorem outputTaken_moves (s : State) : RoundMoves takenStatus s s.outputTaken :=
  .ite ((setBase_moves _ _).mono (by decide)) ((setOutput_moves _).mono (by decide))
theorem candReset_not (s : State) (v on : Bool) : s.candReset v (!on) = if on then s else (s.disqualify v).setCand v {} := by cases on <;> rfl
theorem candReset_moves (s : State) (v off : Bool) : RoundMoves takenStatus s (s.candReset v off) :=
  .ite ((disqualify_moves s v).then ((setCand_moves _ _ _).mono (by decide))) (.refl _ _)
theorem ppsTaken_moves (s : State) : RoundMoves takenStatus s s.ppsTaken := by
  have hanew : RoundMoves takenStatus s (s.modRnd fun r => { r with ppsRun := 0, ppsLast := none }) := (RoundMoves.modRnd).mono (by decide)
  exact .ite (.ite (hanew.then (losePps_moves _)) hanew) (.refl _ _)

/-- The set is in force and reported; what follows from it is still to come. -/
def State.rndInForce (s : State) : State :=
  let s := (s.setFld RND_CTRL_COMMIT 0).applyAll rndStaged
  s.rndEvent 12 1 s.rstate

/-- The set names another port or channel of the reference. -/
def State.refMoved (s : State) : Bool := decide (s.live RND_REFSEL_PORT ≠ s.fld RND_REFSEL_PORT ∨ s.live RND_REFSEL_CH ≠ s.fld RND_REFSEL_CH)

/-- A valid set is taken whole; what follows moves the engine alone. -/
theorem applyRnd_of_valid {s : State} (h : (s.setFld RND_CTRL_COMMIT 0).rndReject = 0) : RoundMoves takenStatus s.rndInForce s.applyRnd := by
  have hsteps : s.applyRnd =
      (let u := s.rndInForce.checkBand.outputTaken
       let u := u.candReset true ((s.setFld RND_CTRL_COMMIT 0).refMoved || !(u.enabled true))
       (u.candReset false (!(u.enabled false))).ppsTaken) := by
    dsimp only
    rw [candReset_not]
    exact if_neg (not_not.2 h)
  rw [hsteps]
  exact ((((checkBand_moves _).mono (by decide)).then (outputTaken_moves _)).then (candReset_moves _ _ _)).then
    ((candReset_moves _ _ _).then (ppsTaken_moves _))

theorem applyRnd_of_invalid {s : State} (h : (s.setFld RND_CTRL_COMMIT 0).rndReject ≠ 0) : s.applyRnd =
    ((s.setFld RND_CTRL_COMMIT 0).setFld RND_STATUS_REJ_CAUSE (s.setFld RND_CTRL_COMMIT 0).rndReject).rndEvent 11 3
      (s.setFld RND_CTRL_COMMIT 0).rstate := if_pos h

/-- The verdict on the set does not depend on RND_CTRL. -/
theorem rndReject_setCommit (s : State) (v : Nat) : (s.setFld RND_CTRL_COMMIT v).rndReject = s.rndReject := by
  have hreg : ∀ a, a ≠ RND_CTRL.base → (s.setFld RND_CTRL_COMMIT v).reg a = s.reg a := fun a ha => reg_setFld_ne ha
  unfold State.rndReject State.regN State.liveN State.flag State.fld
  simp (disch := decide) only [hreg]
theorem rndReject_lt (s : State) : s.rndReject < 2 ^ 4 := by
  unfold State.rndReject
  dsimp only
  (repeat' split) <;> decide

theorem rndStaged_apart : ∀ r ∈ rndStaged, ∀ q ∈ rndStaged, r.at 0 0 ≠ q.at 0 0 + 0x800 := by decide
/-- The registers of the set, in force or staged, and RND_CTRL are none that the engine moves. -/
theorem rndStaged_kept : ∀ r ∈ rndStaged, r.at 0 0 + 0x800 ∉ roundRegs ∧ r.at 0 0 + 0x800 ≠ RND_CTRL.base ∧ r.at 0 0 ≠ RND_CTRL.base ∧
    RND_CTRL.base ≠ r.at 0 0 + 0x800 := by decide

theorem exec_stagedSetApply_rnd {s : State} (hcommit : s.committed .rnd = true) (hround : s.atRound = true) (ecc : Bool) :
    exec (.stagedSetApply .rnd ecc) s = .next s.applyRnd := stagedSetApply_at_safePoint (b := .rnd) rfl hcommit hround ecc

/-- Clause 5 of `Obligations.StagedSets`. -/
theorem stagedSetApply_rnd_takes {s : State} (hcommit : s.committed .rnd = true) (hround : s.atRound = true) (hvalid : s.rndReject = 0) (ecc : Bool) :
    Does (.stagedSetApply .rnd ecc) s (fun t => t.fld RND_CTRL_COMMIT = 0 ∧ (∀ r ∈ rndStaged, t.reg (r.at 0 0 + 0x800) = s.reg (r.at 0 0)) ∧
      t.evt RND_EVENT 12) := by
  have hmoves := applyRnd_of_valid ((rndReject_setCommit s 0).trans hvalid)
  have hreport : ∀ {a}, a ∉ roundRegs → s.rndInForce.reg a = ((s.setFld RND_CTRL_COMMIT 0).applyAll rndStaged).reg a :=
    fun ha => (rndEvent_moves _ 12 1 _).reg ha
  refine Does.intro (exec_stagedSetApply_rnd hcommit hround ecc) ⟨?_, fun r hr => ?_, hmoves.events 12 (rndEvent_evt _ _ _ _)⟩
  · have hctrl : s.applyRnd.reg RND_CTRL.base = (s.setFld RND_CTRL_COMMIT 0).reg RND_CTRL.base := by
      rw [hmoves.reg, hreport (by decide), applyAll_reg_ne _ fun q hq => (rndStaged_kept q hq).2.2.2]
    exact (fld_of_reg_eq hctrl).trans (fld_setFld _ _ _ _ _ (by decide))
  · obtain ⟨hlive, -, hstaged, -⟩ := rndStaged_kept r hr
    rw [hmoves.reg hlive, hreport hlive, applyAll_live _ rndStaged_apart hr]
    exact reg_setFld_ne hstaged

/-- Clause 6 of `Obligations.StagedSets`. -/
theorem stagedSetApply_rnd_rejects {s : State} (hcommit : s.committed .rnd = true) (hround : s.atRound = true) (hinvalid : s.rndReject ≠ 0)
    (ecc : Bool) : Does (.stagedSetApply .rnd ecc) s (fun t => t.fld RND_CTRL_COMMIT = 0 ∧ t.fld RND_STATUS_REJ_CAUSE = s.rndReject ∧
      (∀ r ∈ rndStaged, t.reg (r.at 0 0 + 0x800) = s.reg (r.at 0 0 + 0x800)) ∧ t.evt RND_EVENT 11) := by
  have hsame := rndReject_setCommit s 0
  have hset := applyRnd_of_invalid (hsame.trans_ne hinvalid)
  rw [hsame] at hset
  have hmoves : RoundMoves [RND_STATUS_REJ_CAUSE] (s.setFld RND_CTRL_COMMIT 0) s.applyRnd := by
    rw [hset]
    exact (RoundMoves.setStatus _).trans (rndEvent_moves _ _ _ _)
  refine Does.intro (exec_stagedSetApply_rnd hcommit hround ecc) ⟨?_, ?_, fun r hr => ?_, ?_⟩
  · exact (fld_of_reg_eq hmoves.reg).trans (fld_setFld _ _ _ _ _ (by decide))
  · rw [hset, (rndEvent_moves _ _ _ _).fld, fld_setFld _ _ _ _ _ (by decide)]
    exact Nat.mod_eq_of_lt (rndReject_lt s)
  · obtain ⟨hlive, hctrl, -, -⟩ := rndStaged_kept r hr
    rw [hmoves.reg hlive]
    exact reg_setFld_ne hctrl
  · rw [hset]
    exact rndEvent_evt _ _ _ _

/-- Clause 8 of `Obligations.StagedSets`: an inconsistent band is rejected. -/
theorem rndReject_of_band {s : State} {hi lo : Word} (hhi : s.reg RND_BAND_HI.base = hi) (hlo : s.reg RND_BAND_LO.base = lo)
    (hband : hi.toNat ≤ lo.toNat ∨ lo.toNat < 0x2D0000 ∨ 0x420000 < hi.toNat) : s.rndReject ≠ 0 := by
  have hhi : s.regN RND_BAND_HI = hi.toNat := congrArg BitVec.toNat hhi
  have hlo : s.regN RND_BAND_LO = lo.toNat := congrArg BitVec.toNat hlo
  unfold State.rndReject
  rw [hhi, hlo]
  dsimp only
  by_cases horder : hi.toNat ≤ lo.toNat
  · rw [if_pos horder]
    decide
  · rw [if_neg horder, if_pos (hband.resolve_left horder)]
    decide

/-! ### The set of bind-off (R442) -/

/-- The plan is shown in PWR_BOSTAT; a journal record may tell of it. -/
theorem notePlan_reg {s : State} {a : Nat} (hq : quiet a) (ha : a ≠ PWR_BOSTAT.base) : s.notePlan.reg a = s.reg a := by
  have hplan : ((s.setFld PWR_BOSTAT_TPLAN (min s.planUs 65535)).setFld PWR_BOSTAT_OVER (if 12000 < s.planUs then 1 else 0)).reg a = s.reg a :=
    (reg_setFld_ne ha).trans (reg_setFld_ne ha)
  unfold State.notePlan
  dsimp only
  split
  · exact (journal_reg hq).trans hplan
  · exact hplan

/-- Clause 7 of `Obligations.StagedSets`. -/
theorem stagedSetApply_bo {s : State} (hcommit : s.committed .bo = true) (hround : s.atRound = true) (ecc : Bool) :
    Does (.stagedSetApply .bo ecc) s (fun t => t.fld PWR_BOCTRL_COMMIT = 0 ∧ t.reg (PWR_BOCFG.base + 0x800) = s.reg PWR_BOCFG.base ∧
      (∀ e < 2, t.reg (PWR_BOWARM.at e + 0x800) = s.reg (PWR_BOWARM.at e))) := by
  have hexec : exec (.stagedSetApply .bo ecc) s = .next s.applyBo := stagedSetApply_at_safePoint (b := .bo) rfl hcommit hround ecc
  refine Does.intro hexec ⟨?_, ?_, fun e he => ?_⟩
  · refine (fld_of_reg_eq ?_).trans (fld_setFld s PWR_BOCTRL_COMMIT 0 0 0 (by decide))
    rw [State.applyBo, notePlan_reg (by decide) (by decide)]
    exact ((reg_setReg_ne (by decide)).trans (reg_setReg_ne (by decide))).trans (reg_setReg_ne (by decide))
  · rw [State.applyBo, notePlan_reg (by decide) (by decide)]
    refine ((reg_setReg_ne (by decide)).trans (reg_setReg_ne (by decide))).trans ((reg_setReg_same _ _ _).trans (reg_setFld_ne (by decide)))
  · have hwarm : e = 0 ∨ e = 1 := by omega
    rw [State.applyBo, notePlan_reg (by rcases hwarm with rfl | rfl <;> decide) (by rcases hwarm with rfl | rfl <;> decide)]
    rcases hwarm with rfl | rfl
    · exact ((reg_setReg_ne (by decide)).trans (reg_setReg_same _ _ _)).trans ((reg_setReg_ne (by decide)).trans (reg_setFld_ne (by decide)))
    · exact (reg_setReg_same _ _ _).trans ((reg_setReg_ne (by decide)).trans ((reg_setReg_ne (by decide)).trans (reg_setFld_ne (by decide))))

/-! ### The set of a check unit (R403) -/

/-- The registers of unit `u` that a new block or a report of it may write. -/
def chkShown (u : Nat) : List Nat := [CHK_RESULT.at u, CHK_COUNT.at u, CHK_STATUS.at u, CHK_EVENT.at u] ++ reportRegs

/-- COMMIT, and what is staged and in force of the set, are none of these. -/
theorem chkSet_not_shown {u : Nat} (hu : u < 8) :
    ∀ a ∈ [CHK_CTRL.at u, CHK_CFG.at u, CHK_INIT.at u, CHK_CFG.at u + 0x800, CHK_INIT.at u + 0x800], a ∉ chkShown u := by
  intro a ha
  simp only [chkShown, reportRegs, List.cons_append, List.nil_append, List.mem_cons, List.not_mem_nil, or_false, Rg.at, CHK_CTRL, CHK_CFG, CHK_INIT,
    CHK_RESULT, CHK_COUNT, CHK_STATUS, CHK_EVENT, JRN_EVENT, JRN_LOST0, JRN_LOST1] at ha ⊢
  omega

theorem chkEvent_quiet {u : Nat} (hu : u < 8) : quiet (CHK_EVENT.at u) := by
  simp only [quiet_def, Rg.at, CHK_EVENT]
  omega
theorem chkReport_reg {s : State} {u b sev a : Nat} (hq : quiet a) (ha : a ≠ CHK_EVENT.at u) : (s.chkReport u b sev).reg a = s.reg a :=
  report_reg (by decide) hq ha
theorem chkReport_kept {l : List Nat} (s : State) {u : Nat} (b sev : Nat) (hev : CHK_EVENT.at u ∈ l) (hl : reportRegs ⊆ l) :
    sameRegsBut l s (s.chkReport u b sev) := fun _ ha => chkReport_reg (fun hq => ha (hl hq)) fun he => ha (he ▸ hev)
theorem chkReport_evt (s : State) {u b : Nat} (sev : Nat) (hu : u < 8) (hb : b < 32) : (s.chkReport u b sev).evtAt CHK_EVENT u b :=
  report_bit (by decide) (chkEvent_quiet hu) hb
theorem chkReport_chk (s : State) (u b sev : Nat) : (s.chkReport u b sev).chk = s.chk :=
  ((State.chkReport_only s u b sev s (m' := 8459777)).2 (Only.refl _ s)) .chk (by decide)
theorem chkStatus_not_report {u : Nat} (hu : u < 8) : quiet (CHK_STATUS.at u) ∧ CHK_STATUS.at u ≠ CHK_EVENT.at u := by
  simp only [quiet_def, Rg.at, CHK_STATUS, CHK_EVENT]
  omega

theorem chkCount_apart {u : Nat} (hu : u < 8) : quiet (CHK_COUNT.at u) ∧ CHK_COUNT.at u ≠ CHK_EVENT.at u ∧ CHK_COUNT.at u ≠ CHK_STATUS.at u := by
  simp only [quiet_def, Rg.at, CHK_COUNT, CHK_STATUS, CHK_EVENT]
  omega

/-- A block has begun with the CRC register at `i` and has no byte yet. -/
def Chk.begun (c : Chk) (i : Nat) : Prop := c.n = 0 ∧ c.crc = i

theorem chkUnit_modChk {s : State} {u : Nat} (h : u < s.chk.length) (f : Chk → Chk) : (s.modChk u f).chkUnit u = f (s.chkUnit u) := by
  simp [State.chkUnit, State.modChk, List.getD_eq_getElem?_getD, h]
theorem chkUnit_of_chk_eq {s t : State} (h : t.chk = s.chk) (u : Nat) : t.chkUnit u = s.chkUnit u := by rw [State.chkUnit, h, State.chkUnit]
theorem chkUnit_setFld (s : State) (f : Fld) (v i u : Nat) : (s.setFld f v i).chkUnit u = s.chkUnit u := rfl
theorem chkUnit_setRegN (s : State) (r : Rg) (v i u : Nat) : (s.setRegN r v i).chkUnit u = s.chkUnit u := rfl
theorem length_modChk (s : State) (u : Nat) (f : Chk → Chk) : (s.modChk u f).chk.length = s.chk.length := List.length_modify ..
theorem chk_length_of_whole {s : State} (h : s.whole) : s.chk.length = 8 := by
  simp only [State.whole, State.sizes, List.cons.injEq] at h
  exact h.2.2.2.1

/-- The check of the live pair leaves the block as it has begun. -/
theorem chkPair_begun {s : State} {u i : Nat} (hu : u < s.chk.length) (h : (s.chkUnit u).begun i) : ((s.chkPair u).chkUnit u).begun i := by
  unfold State.chkPair
  dsimp only
  split
  · rw [chkUnit_modChk hu]
    exact h
  · rw [chkUnit_of_chk_eq (chkReport_chk _ _ _ _), chkUnit_setFld, chkUnit_modChk hu]
    exact h
theorem chkPair_kept (s : State) (u : Nat) : sameRegsBut (CHK_STATUS.at u :: CHK_EVENT.at u :: reportRegs) s (s.chkPair u) := by
  unfold State.chkPair
  dsimp only
  split
  · exact .refl _ _
  · refine sameRegsBut.trans ?_ (chkReport_kept _ _ _ (by simp) fun _ h => List.mem_cons_of_mem _ (List.mem_cons_of_mem _ h))
    exact fun a ha => reg_setFld_ne (List.ne_of_not_mem_cons ha)

/-- A new block: the CRC register takes the initial value in force, and no byte counts. -/
theorem chkFresh_begun {s : State} {u : Nat} (hu : u < s.chk.length) : ((s.chkFresh u).chkUnit u).begun (s.chkInit u) := by
  have hnew : (((s.modChk u fun c => { c with crc := s.chkInit u, n := 0, trailer := [], samp := none }).setRegN CHK_COUNT 0 u).chkUnit u).begun
      (s.chkInit u) := by
    rw [chkUnit_setRegN, chkUnit_modChk hu]
    exact ⟨rfl, rfl⟩
  unfold State.chkFresh
  dsimp only
  split
  · refine chkPair_begun ?_ hnew
    exact hu.trans_eq (length_modChk s u _).symm
  · exact hnew
theorem chkFresh_length (s : State) (u : Nat) : (s.chkFresh u).chk.length = s.chk.length := by
  have hsizes : (s.chkFresh u).sizes = s.sizes := ((State.chkFresh_only s u s (m' := 25236993)).2 (Only.refl _ s)) .units (by decide)
  simp only [State.sizes, List.cons.injEq] at hsizes
  exact hsizes.2.2.2.1
theorem chkFresh_shows (s : State) {u : Nat} (hu : u < 8) : (s.chkFresh u).regN CHK_COUNT u = 0 ∧ sameRegsBut (chkShown u) s (s.chkFresh u) := by
  have hcount : CHK_COUNT.at u ∉ CHK_STATUS.at u :: CHK_EVENT.at u :: reportRegs := by
    obtain ⟨hq, hevt, hstatus⟩ := chkCount_apart hu
    simp only [List.mem_cons, not_or]
    exact ⟨hstatus, hevt, hq⟩
  have hsub : CHK_STATUS.at u :: CHK_EVENT.at u :: reportRegs ⊆ chkShown u := fun a ha => by
    simp only [chkShown, List.mem_append, List.mem_cons] at ha ⊢
    tauto
  have hnew : ∀ f, ((s.modChk u f).setRegN CHK_COUNT 0 u).regN CHK_COUNT u = 0 ∧ sameRegsBut (chkShown u) s ((s.modChk u f).setRegN CHK_COUNT 0 u) :=
    fun f => ⟨regN_setRegN _ _ _ _ _, sameRegsBut_setReg (s.modChk u f) _ (by simp [chkShown])⟩
  unfold State.chkFresh
  dsimp only
  split
  · exact ⟨(congrArg BitVec.toNat (chkPair_kept _ u _ hcount)).trans (hnew _).1, (hnew _).2.trans ((chkPair_kept _ u).mono hsub)⟩
  · exact hnew _

/-- START begins a block. -/
theorem chkStart_begun {s : State} {u : Nat} (hu : u < s.chk.length) : ((s.chkStart u).chkUnit u).begun (s.chkInit u) := by
  have hlen : u < (s.chkFresh u).chk.length := hu.trans_eq (chkFresh_length s u).symm
  have hfirst : (((s.chkFresh u).modChk u fun c => { c with first := true }).chkUnit u).begun (s.chkInit u) := by
    rw [chkUnit_modChk hlen]
    exact chkFresh_begun hu
  unfold State.chkStart
  dsimp only
  split
  · exact hfirst
  · exact hfirst
theorem chkStart_shows (s : State) {u : Nat} (hu : u < 8) : (s.chkStart u).regN CHK_COUNT u = 0 ∧ sameRegsBut (chkShown u) s (s.chkStart u) := by
  obtain ⟨hcount, hkept⟩ := chkFresh_shows s hu
  have hne : CHK_COUNT.at u ≠ CHK_RESULT.at u := by
    simp only [Rg.at, CHK_COUNT, CHK_RESULT]
    omega
  unfold State.chkStart
  dsimp only
  split
  · exact ⟨hcount, hkept⟩
  · exact ⟨(regN_setRegN_ne hne).trans hcount, hkept.trans (sameRegsBut_setReg _ _ (by simp [chkShown]))⟩

/-- The verdict and the initial value depend on the registers of the set alone. -/
theorem chkReject_of_reg_eq {s t : State} {u : Nat} (hcfg : t.reg (CHK_CFG.at u) = s.reg (CHK_CFG.at u)) (hinit : t.reg (CHK_INIT.at u) = s.reg (CHK_INIT.at u)) :
    t.chkReject u = s.chkReject u := by
  unfold State.chkReject State.flag State.regN
  rw [fld_of_reg_eq (f := CHK_CFG_INITSEL) hcfg, fld_of_reg_eq (f := CHK_CFG_POLY) hcfg, fld_of_reg_eq (f := CHK_CFG_GW) hcfg,
    fld_of_reg_eq (f := CHK_CFG_GNIB) hcfg, hinit]
theorem chkInit_of_reg_eq {s t : State} {u : Nat} (hcfg : t.reg (CHK_CFG.at u + 0x800) = s.reg (CHK_CFG.at u + 0x800))
    (hinit : t.reg (CHK_INIT.at u + 0x800) = s.reg (CHK_INIT.at u + 0x800)) : t.chkInit u = s.chkInit u := by
  have hlive : ∀ f : Fld, f.rg = CHK_CFG → t.live f u = s.live f u := fun f hf => by rw [State.live, hf, hcfg, State.live, hf]
  unfold State.chkInit State.chkPoly State.liveN
  rw [hlive _ rfl, hlive _ rfl, hinit]
theorem chkReject_lt (s : State) (u : Nat) : s.chkReject u < 2 ^ 2 := by
  unfold State.chkReject
  (repeat' split) <;> decide

/-- The set of unit `u` is in force; START is still to come. -/
def State.chkInForce (s : State) (u : Nat) : State :=
  let s := s.setFld CHK_CTRL_COMMIT 0 u
  let s := if s.live CHK_CFG_EN u = 0 ∧ s.flag CHK_CFG_EN u then s.modChk u (fun c => { c with blocks := 0 }) else s
  (s.apply1 CHK_CFG u 0).apply1 CHK_INIT u 0

theorem applyChk_of_valid {s : State} {u : Nat} (h : (s.setFld CHK_CTRL_COMMIT 0 u).chkReject u = 0) :
    s.applyChk u = ((((s.chkInForce u).chkStart u).setFld CHK_STATUS_GVALID 0 u).setFld CHK_STATUS_GLAST 0 u).chkReport u 5 1 :=
  if_neg (not_not.2 h)
theorem applyChk_of_invalid {s : State} {u : Nat} (h : (s.setFld CHK_CTRL_COMMIT 0 u).chkReject u ≠ 0) : s.applyChk u =
    ((s.setFld CHK_CTRL_COMMIT 0 u).setFld CHK_STATUS_REJ_CAUSE ((s.setFld CHK_CTRL_COMMIT 0 u).chkReject u) u).chkReport u 4 3 := if_pos h
theorem chkReject_setCommit (s : State) (u : Nat) : (s.setFld CHK_CTRL_COMMIT 0 u).chkReject u = s.chkReject u :=
  chkReject_of_reg_eq (reg_setFld_ne (by simp [Rg.at, CHK_CTRL_COMMIT, CHK_CTRL, CHK_CFG]))
    (reg_setFld_ne (by simp [Rg.at, CHK_CTRL_COMMIT, CHK_CTRL, CHK_INIT]))

theorem chkInForce_reg (s : State) (u : Nat) : (s.chkInForce u).fld CHK_CTRL_COMMIT u = 0 ∧
    (s.chkInForce u).reg (CHK_CFG.at u + 0x800) = s.reg (CHK_CFG.at u) ∧ (s.chkInForce u).reg (CHK_INIT.at u + 0x800) = s.reg (CHK_INIT.at u) := by
  have hregs : (s.chkInForce u).regs = (((s.setFld CHK_CTRL_COMMIT 0 u).apply1 CHK_CFG u 0).apply1 CHK_INIT u 0).regs := by
    unfold State.chkInForce
    dsimp only
    split <;> rfl
  have hreg : ∀ a, (s.chkInForce u).reg a = (((s.setFld CHK_CTRL_COMMIT 0 u).apply1 CHK_CFG u 0).apply1 CHK_INIT u 0).reg a :=
    fun a => congrArg (sparseGet regReset · a) hregs
  have hapart : CHK_CTRL.at u ≠ CHK_CFG.at u + 0x800 ∧ CHK_CTRL.at u ≠ CHK_INIT.at u + 0x800 ∧ CHK_CFG.at u + 0x800 ≠ CHK_INIT.at u + 0x800 ∧
      CHK_INIT.at u ≠ CHK_CFG.at u + 0x800 ∧ CHK_CFG.at u ≠ CHK_CTRL.at u ∧ CHK_INIT.at u ≠ CHK_CTRL.at u := by
    simp only [Rg.at, CHK_CTRL, CHK_CFG, CHK_INIT]
    omega
  obtain ⟨hctrlCfg, hctrlInit, hcfgInit, hinitCfg, hcfgCtrl, hinitCtrl⟩ := hapart
  refine ⟨?_, ?_, ?_⟩
  · have hctrl : (s.chkInForce u).reg (CHK_CTRL.at u) = (s.setFld CHK_CTRL_COMMIT 0 u).reg (CHK_CTRL.at u) := by
      rw [hreg, apply1_reg_ne _ CHK_INIT u 0 hctrlInit, apply1_reg_ne _ CHK_CFG u 0 hctrlCfg]
    exact (fld_of_reg_eq (f := CHK_CTRL_COMMIT) hctrl).trans (fld_setFld s CHK_CTRL_COMMIT 0 u 0 (by decide))
  · rw [hreg, apply1_reg_ne _ CHK_INIT u 0 hcfgInit, apply1_reg_same]
    exact reg_setFld_ne hcfgCtrl
  · rw [hreg, apply1_reg_same, apply1_reg_ne _ CHK_CFG u 0 hinitCfg]
    exact reg_setFld_ne hinitCtrl
theorem chkInForce_length (s : State) (u : Nat) : (s.chkInForce u).chk.length = s.chk.length := by
  unfold State.chkInForce State.apply1
  dsimp only
  split <;> simp [State.modChk, State.setFld]

/-- A check unit's set is taken in the command that writes COMMIT, or in one that finds COMMIT set (R96, R396). -/
theorem exec_chkSet {s : State} {u : Nat} {ecc : Bool} {c : Instr} (hu : u < 8) (hc : (c = .commitWrite (.chk u) ∧ s.reaches .host (CHK_CTRL.at u)) ∨
    (c = .stagedSetApply (.chk u) ecc ∧ s.committed (.chk u) = true)) : exec c s = .next (s.applyChk u) := by
  have hok : (Block.chk u).ok = true := by simp [Block.ok, hu]
  rcases hc with ⟨rfl, hreach⟩ | ⟨rfl, hcommit⟩
  · exact exec_commitWrite_of_reaches hok hreach
  · exact stagedSetApply_at_safePoint hok hcommit rfl ecc

/-- Clause 9 of `Obligations.StagedSets`. -/
theorem chkSet_takes {s : State} (hwhole : s.whole) {u : Nat} (hu : u < 8) {c : Instr} (hexec : exec c s = .next (s.applyChk u))
    (hvalid : s.chkReject u = 0) : Does c s (fun t =>
      t.fld CHK_CTRL_COMMIT u = 0 ∧ t.reg (CHK_CFG.at u + 0x800) = s.reg (CHK_CFG.at u) ∧ t.reg (CHK_INIT.at u + 0x800) = s.reg (CHK_INIT.at u) ∧
      (t.chkUnit u).n = 0 ∧ (t.chkUnit u).crc = t.chkInit u ∧ t.regN CHK_COUNT u = 0 ∧ t.fld CHK_STATUS_GVALID u = 0 ∧
      t.fld CHK_STATUS_GLAST u = 0 ∧ t.evtAt CHK_EVENT u 5) := by
  have hset := applyChk_of_valid ((chkReject_setCommit s u).trans hvalid)
  obtain ⟨hcommit, hcfg, hinit⟩ := chkInForce_reg s u
  have hlen : u < (s.chkInForce u).chk.length := by rw [chkInForce_length, chk_length_of_whole hwhole]; exact hu
  obtain ⟨hcount, hstart⟩ := chkStart_shows (s.chkInForce u) hu
  obtain ⟨hn, hcrc⟩ := chkStart_begun hlen
  have hkept : sameRegsBut (chkShown u) (s.chkInForce u) (s.applyChk u) := by
    rw [hset]
    exact ((hstart.trans (sameRegsBut_setReg _ _ (by simp [chkShown, CHK_STATUS_GVALID]))).trans
      (sameRegsBut_setReg _ _ (by simp [chkShown, CHK_STATUS_GLAST]))).trans (chkReport_kept _ _ _ (by simp [chkShown]) (List.subset_append_right _ _))
  have hunit : (s.applyChk u).chkUnit u = ((s.chkInForce u).chkStart u).chkUnit u := by
    rw [hset, chkUnit_of_chk_eq (chkReport_chk _ _ _ _), chkUnit_setFld, chkUnit_setFld]
  have hinitial : (s.applyChk u).chkInit u = (s.chkInForce u).chkInit u :=
    chkInit_of_reg_eq (hkept _ (chkSet_not_shown hu _ (by simp))) (hkept _ (chkSet_not_shown hu _ (by simp)))
  have hguard : ∀ f : Fld, f.rg = CHK_STATUS → (s.applyChk u).fld f u =
      ((((s.chkInForce u).chkStart u).setFld CHK_STATUS_GVALID 0 u).setFld CHK_STATUS_GLAST 0 u).fld f u := fun f hf => by
    obtain ⟨hq, hne⟩ := chkStatus_not_report hu
    rw [hset]
    exact fld_of_reg_eq (chkReport_reg (by rw [hf]; exact hq) (by rw [hf]; exact hne))
  refine Does.intro hexec ⟨?_, ?_, ?_, ?_, ?_, ?_, ?_, ?_, ?_⟩
  · exact (fld_of_reg_eq (hkept _ (chkSet_not_shown hu _ (by simp [CHK_CTRL_COMMIT])))).trans hcommit
  · exact (hkept _ (chkSet_not_shown hu _ (by simp))).trans hcfg
  · exact (hkept _ (chkSet_not_shown hu _ (by simp))).trans hinit
  · rw [hunit, hn]
  · rw [hunit, hcrc, hinitial]
  · have hcounted : (s.applyChk u).reg (CHK_COUNT.at u) = ((s.chkInForce u).chkStart u).reg (CHK_COUNT.at u) := by
      obtain ⟨hq, hevt, hstatus⟩ := chkCount_apart hu
      rw [hset, chkReport_reg hq hevt, reg_setFld_ne hstatus, reg_setFld_ne hstatus]
    exact (congrArg BitVec.toNat hcounted).trans hcount
  · rw [hguard _ rfl, fld_setFld_disj (by decide) (by decide), fld_setFld _ _ _ _ _ (by decide)]
    rfl
  · rw [hguard _ rfl, fld_setFld _ _ _ _ _ (by decide)]
    rfl
  · rw [hset]
    exact chkReport_evt _ _ hu (by decide)

/-- Clause 10 of `Obligations.StagedSets`. -/
theorem chkSet_rejects {s : State} {u : Nat} (hu : u < 8) {c : Instr} (hexec : exec c s = .next (s.applyChk u)) (hinvalid : s.chkReject u ≠ 0) :
    Does c s (fun t => t.fld CHK_CTRL_COMMIT u = 0 ∧ t.fld CHK_STATUS_REJ_CAUSE u = s.chkReject u ∧
      t.reg (CHK_CFG.at u + 0x800) = s.reg (CHK_CFG.at u + 0x800) ∧ t.reg (CHK_INIT.at u + 0x800) = s.reg (CHK_INIT.at u + 0x800) ∧
      t.chk = s.chk ∧ t.evtAt CHK_EVENT u 4) := by
  have hset := applyChk_of_invalid ((chkReject_setCommit s u).trans_ne hinvalid)
  rw [chkReject_setCommit] at hset
  have hkept : sameRegsBut (chkShown u) (s.setFld CHK_CTRL_COMMIT 0 u) (s.applyChk u) := by
    rw [hset]
    exact (sameRegsBut_setReg _ _ (by simp [chkShown, CHK_STATUS_REJ_CAUSE])).trans (chkReport_kept _ _ _ (by simp [chkShown]) (List.subset_append_right _ _))
  obtain ⟨hq, hne⟩ := chkStatus_not_report hu
  refine Does.intro hexec ⟨?_, ?_, ?_, ?_, ?_, ?_⟩
  · exact (fld_of_reg_eq (hkept _ (chkSet_not_shown hu _ (by simp [CHK_CTRL_COMMIT])))).trans (fld_setFld _ _ _ _ _ (by decide))
  · rw [hset]
    refine (fld_of_reg_eq (chkReport_reg hq hne)).trans ((fld_setFld _ _ _ _ _ (by decide)).trans ?_)
    exact Nat.mod_eq_of_lt (chkReject_lt s u)
  · exact (hkept _ (chkSet_not_shown hu _ (by simp))).trans (reg_setFld_ne (by simp [Rg.at, CHK_CTRL_COMMIT, CHK_CTRL, CHK_CFG]; omega))
  · exact (hkept _ (chkSet_not_shown hu _ (by simp))).trans (reg_setFld_ne (by simp [Rg.at, CHK_CTRL_COMMIT, CHK_CTRL, CHK_INIT]; omega))
  · rw [hset]
    exact chkReport_chk _ _ _ _
  · rw [hset]
    exact chkReport_evt _ _ hu (by decide)

/-- Clauses 11 and 12 of `Obligations.StagedSets`: an initial value must fit its polynomial, and a guard of a byte is no nibble. -/
theorem chkReject_of_initsel {s : State} {u : Nat} (h : s.flag CHK_CFG_INITSEL u = true) :
    (s.fld CHK_CFG_POLY u = 2 → 0x10000 ≤ s.regN CHK_INIT u → s.chkReject u = 1) ∧
      (s.fld CHK_CFG_POLY u = 3 → 0x100 ≤ s.regN CHK_INIT u → s.chkReject u = 1) := by
  have hwide : 2 ^ (polyOf (s.fld CHK_CFG_POLY u)).w ≤ s.regN CHK_INIT u → s.chkReject u = 1 := fun hw => if_pos ⟨h, hw⟩
  refine ⟨fun hp hi => hwide ?_, fun hp hi => hwide ?_⟩
  · rw [hp]
    exact hi
  · rw [hp]
    exact hi
theorem chkReject_without_initsel {s : State} {u : Nat} (h : s.flag CHK_CFG_INITSEL u = false) :
    s.chkReject u = if s.flag CHK_CFG_GW u ∧ s.flag CHK_CFG_GNIB u then 2 else 0 := if_neg (by simp [h])

/-- Settles O9: COMMIT by the rule of its write, the sets by what taking and rejecting one leaves. -/
theorem stagedSets : Obligations.StagedSets := by
  unfold Obligations.StagedSets
  refine ⟨?_, ?_, ?_, ?_, ?_, ?_, ?_, ?_, ?_, ?_, ?_, ?_⟩
  · exact fun s b h hwin hchk hreach => commitWrite_sets h hwin hchk hreach
  · exact fun s b h hreach hvalid _ => commitWrite_unreached h hreach hvalid
  · exact fun s w hw hreach => commitWrite_window hw hreach
  · exact fun s b ecc h hwait => stagedSetApply_without_commit h hwait ecc
  · exact fun s ecc hcommit hround hvalid => stagedSetApply_rnd_takes hcommit hround hvalid ecc
  · exact fun s ecc hcommit hround hinvalid => stagedSetApply_rnd_rejects hcommit hround hinvalid ecc
  · exact fun s ecc hcommit hround => stagedSetApply_bo hcommit hround ecc
  · exact fun s hi lo hhi hlo hband => rndReject_of_band hhi hlo hband
  · exact fun s hwhole u hu ecc c hc hvalid => chkSet_takes hwhole hu (exec_chkSet hu hc) hvalid
  · exact fun s u hu ecc c hc hinvalid => chkSet_rejects hu (exec_chkSet hu hc) hinvalid
  · exact fun s u _ h => chkReject_of_initsel h
  · exact fun s u _ h => chkReject_without_initsel h

end Sys2Proof.Machine
end

section
/-! Proofs/FlashAndHostMemory.lean: the flash and host memory keep their canonical form under reports, under the end of a ring command and under the
Journal's flash operations. -/

namespace Sys2Proof.Machine
open Sys2Proof Sys2Proof.Machine.Reg

-- As in the files of Laws/: proofs elaborated side by side take the joined text past its memory limit.
set_option Elab.async false

/-! ### Canonical flash and host memory -/

/-- If the flash and host memory are in canonical form in `s`, they are so in `t`. -/
def WfKept (s t : State) : Prop := Memory.wf dfltF s.nor ∧ Memory.wf dflt0 s.host → Memory.wf dfltF t.nor ∧ Memory.wf dflt0 t.host

namespace WfKept
variable {s t u : State}

theorem refl (s : State) : WfKept s s := id
theorem after (g : WfKept t u) (h : WfKept s t) : WfKept s u := fun hs => g (h hs)
/-- Neither of the two is touched. -/
theorem same (hnor : t.nor = s.nor := by rfl) (hhost : t.host = s.host := by rfl) : WfKept s t := fun h => by rw [hnor, hhost]; exact h
/-- Nothing is touched but pieces other than the two: `m` is the set of all those. -/
theorem of_only (h : Only 2147482879 s t) : WfKept s t := same (h .nor (by decide)) (h .host (by decide))
theorem after_same (g : WfKept t u) (hnor : t.nor = s.nor := by rfl) (hhost : t.host = s.host := by rfl) : WfKept s u := g.after (same hnor hhost)
theorem ite {c : Prop} [Decidable c] (h : WfKept s t) (g : WfKept s u) : WfKept s (if c then t else u) := by
  split
  · exact h
  · exact g
/-- A step that may be taken or not. -/
theorem may {c : Prop} [Decidable c] (h : WfKept s t) (g : WfKept t u) : WfKept s (if c then u else t) := .ite (g.after h) h
theorem mayNot {c : Prop} [Decidable c] (h : WfKept s t) (g : WfKept t u) : WfKept s (if c then t else u) := .ite h (g.after h)
theorem foldl {α : Type} {f : State → α → State} (h : ∀ u x, WfKept u (f u x)) (l : List α) (s : State) : WfKept s (l.foldl f s) := by
  induction l generalizing s with
  | nil => exact refl s
  | cons x l ih => exact (ih _).after (h s x)

theorem setFld {f : Fld} {v i j : Nat} (h : WfKept s t) : WfKept s (t.setFld f v i j) := h
theorem setRing {k : Nat} {r : Ring} (h : WfKept s t) : WfKept s (t.setRing k r) := h
theorem modJrn {f : Jrn → Jrn} (h : WfKept s t) : WfKept s (t.modJrn f) := h
theorem putHost (s : State) (a : Nat) (bs : List Nat) : WfKept s (s.putHost a bs) := fun h => ⟨h.1, memPut_wf bs a h.2⟩
end WfKept

/-! ### Reports -/

theorem msix_kept (s : State) (v : Nat) : WfKept s (s.msix v) := .ite .same (WfKept.putHost s _ _)
theorem event_kept (s : State) (ev en b v : Nat) : WfKept s (s.event ev en b v) := .ite (.refl s) (.may .same (msix_kept _ _))
theorem jrnLost_kept (s : State) (sev : Nat) : WfKept s (s.jrnLost sev) := (event_kept _ _ _ _ _).after_same
theorem intake_kept (s : State) (r : JRec) : WfKept s (s.intake r) := .ite (jrnLost_kept s _) (.ite .same (jrnLost_kept s _))
theorem report_kept (s : State) (ev en b v code src sev data : Nat) : WfKept s (s.report ev en b v code src sev data) :=
  (intake_kept _ _).after (event_kept _ _ _ _ _)
theorem cmdReport_kept (s : State) (b k : Nat) : WfKept s (s.cmdReport b k) := (intake_kept _ _).after (event_kept _ _ _ _ _)

theorem discard_kept (s : State) (src : Nat) (c : AccCause) (write : Bool) (be addr data n : Nat) :
    WfKept s (s.discard src c write be addr data n) := by
  have hrecord : WfKept s (s.recordErr HIF_ACCERR HIF_ACCERR_ADDR (some HIF_ACCERR_DATA) src c write be addr data 0) := .of_only (by simp)
  have hlogged : WfKept s (s.accErr .host src c write be addr data) := (report_kept _ _ _ _ _ _ _ _ _).after hrecord
  have hanswered : ∀ t : State, WfKept t (t.respondErr .host write n) := fun t => .of_only (by simp)
  exact (hanswered _).after hlogged

/-! ### A ring command ends -/

theorem complete_kept (s : State) (k tag seq st opc : Nat) (r : List Nat) : WfKept s (s.complete k tag seq st opc r) :=
  .ite (.may (.setFld (WfKept.putHost s _ _)) (msix_kept _ _)) .same
theorem ringError_kept (s : State) (k cause : Nat) : WfKept s (s.ringError k cause) := .may (cmdReport_kept _ _ _).after_same .same
theorem drainTake_kept (s : State) (k : Nat) : WfKept s (s.drainTake k) := .of_only (by simp)
theorem flushRing_kept (s : State) (k : Nat) : WfKept s (s.flushRing k) := by
  unfold State.flushRing
  dsimp only
  split
  · exact .of_only (by simp)
  · exact .ite (.of_only (by simp)) (.ite (.of_only (by simp)) ((ringError_kept _ _ _).after (.of_only (by simp))))
theorem doFlush_kept (s : State) (k : Nat) : WfKept s (s.doFlush k) :=
  .ite ((flushRing_kept _ k).after (drainTake_kept s k)) (.setRing (drainTake_kept s k))
theorem endRun_kept (s : State) (k st : Nat) (r : List Nat) : WfKept s (s.endRun k st r) := by
  unfold State.endRun
  split
  · exact .refl s
  · exact .may (.mayNot (.may .same (complete_kept _ _ _ _ _ _ _)) .same) (doFlush_kept _ k)
theorem endRingFlush_kept (s : State) : WfKept s s.endRingFlush := by
  refine .foldl (fun u k => ?_) _ s
  split
  · exact .ite (.refl u) (endRun_kept u _ _ _)
  · exact .refl u
theorem settle_kept (s : State) (f : State → Wait → Option (Nat × List Nat)) : WfKept s (s.settle f) := by
  refine (endRingFlush_kept _).after (.foldl (fun u k => ?_) _ s)
  split
  · split
    · exact (endRingFlush_kept _).after (endRun_kept u _ _ _)
    · exact .refl u
  · exact .refl u

/-! ### The Journal's flash operations -/

theorem norProgram_wf (bs : List Nat) {m : List Host.Cell} (a : Nat) (h : Memory.wf dfltF m) : Memory.wf dfltF (norProgram m a bs) := by
  induction bs generalizing m a with
  | nil => exact h
  | cons b bs ih => exact ih (a + 1) (memSet_wf a _ h)
/-- An erase keeps the canonical form of the flash: it forgets entries. -/
theorem norErase_kept (s : State) (lo n : Nat) : WfKept s { s with nor := norErase s.nor lo n } := fun h => ⟨sparseWf_filter _ _ h.1, h.2⟩
theorem program_kept (s : State) (a : Nat) (bs : List Nat) : WfKept s (s.program a bs) := fun h => ⟨norProgram_wf bs a h.1, h.2⟩
theorem programRec_kept (s : State) (j i seq : Nat) (r : JRec) : WfKept s (s.programRec j i seq r) := (program_kept _ _ _).after (program_kept _ _ _)
theorem format_kept (s : State) (j firstSeq : Nat) : WfKept s (s.format j firstSeq) :=
  .setFld (.setFld (.modJrn ((program_kept _ _ _).after (program_kept s _ _))))
theorem beginErase_kept (s : State) : WfKept s s.beginErase := .ite (.refl s) (.setFld (.modJrn (.may (.refl s) (programRec_kept _ _ _ _ _))))
theorem prepare_kept (s : State) : WfKept s s.prepare := .ite (beginErase_kept s) (.refl s)
theorem rollOver_kept (s : State) : WfKept s s.rollOver := by
  unfold State.rollOver
  split
  · exact .ite (format_kept s _ _) (.refl s)
  · exact .refl s
theorem flushIdle_kept (s : State) : WfKept s s.flushIdle := by
  unfold State.flushIdle
  exact (settle_kept _ _).after (.modJrn (.setFld (.refl s)))
theorem endClear_kept (s : State) : WfKept s s.endClear := by
  unfold State.endClear
  exact (settle_kept _ _).after (.setFld (.modJrn (.refl s)))
theorem clearEnds_kept (s : State) : WfKept s s.clearEnds := .ite (endClear_kept s) (.refl s)

theorem startFlush_kept (s : State) : WfKept s s.startFlush := by
  unfold State.startFlush
  split
  · exact .refl s
  split
  · exact .same
  extract_lets todo room ready
  split
  · exact flushIdle_kept s
  split
  · exact .same
  have hroom : WfKept s room := by
    refine .ite (.refl s) ?_
    split
    · exact format_kept s _ _
    · exact beginErase_kept s
  have hready : WfKept s ready := .may hroom .same
  exact .ite (.setFld (.modJrn hready)) (.modJrn hroom)

theorem markFlushed_kept (s : State) (e : JSlot) : WfKept s (s.markFlushed e) := .of_only (by simp)
theorem flushAll_kept (l : List JSlot) (s : State) : WfKept s (s.flushAll l).1 := by
  induction l generalizing s with
  | nil => exact .refl s
  | cons e l ih =>
    unfold State.flushAll
    split
    · exact (ih _).after (.setFld ((markFlushed_kept _ _).after (programRec_kept s _ _ _ _)))
    · split
      · exact (ih _).after (.setFld ((markFlushed_kept _ _).after ((programRec_kept _ _ _ _ _).after (format_kept s _ _))))
      · exact .refl s

theorem leaveNor_kept (s : State) : WfKept s s.leaveNor :=
  .ite (.setFld ((flushIdle_kept _).after (.may .same (endClear_kept _)))) (.refl s)
theorem clearNext_kept (s : State) : WfKept s s.clearNext := by
  unfold State.clearNext
  split
  · split
    · exact (startFlush_kept _).after (.modJrn (format_kept s _ _))
    · exact beginErase_kept s
  · exact .refl s
theorem resumeErase_kept (s : State) : WfKept s s.resumeErase := .ite (.refl s) .same
theorem flushNext_kept (s : State) : WfKept s s.flushNext :=
  .ite (.refl s) (.ite (startFlush_kept s) ((event_kept _ _ _ _ _).after (flushIdle_kept s)))

theorem execFlushDone_kept (s : State) : Outs (WfKept s) (execFlushDone s) := by
  unfold execFlushDone
  split
  · exact (outs_next _ _).2 (.refl s)
  · next l _ =>
    rw [outs_next]
    have hdone : ∀ t, WfKept s t → WfKept s t.resumeErase.noteCounts.rollOver.prepare.clearEnds.clearNext.flushNext.leaveNor := fun t h =>
      (leaveNor_kept _).after <| (flushNext_kept _).after <| (clearNext_kept _).after <| (clearEnds_kept _).after <| (prepare_kept _).after <|
        (rollOver_kept _).after <| .setFld <| .setFld <| (resumeErase_kept t).after h
    exact hdone _ (.setFld (.modJrn (flushAll_kept l s)))
theorem execSectorEraseDone_kept (s : State) : Outs (WfKept s) (execSectorEraseDone s) := by
  unfold execSectorEraseDone
  split
  · exact (outs_next _ _).2 (.refl s)
  split
  · exact (outs_next _ _).2 (.refl s)
  · rw [outs_next]
    refine (leaveNor_kept _).after (.may ((clearNext_kept _).after ((rollOver_kept _).after (.setFld (.modJrn ?_)))) (startFlush_kept _))
    exact .may (norErase_kept s _ _) (programRec_kept _ _ _ _ _)
theorem execBindOffAreaErased_kept (s : State) : Outs (WfKept s) (execBindOffAreaErased s) := by
  unfold execBindOffAreaErased
  split
  · rw [outs_next]
    have herased : WfKept s (({ s with nor := norErase s.nor s.boArea.1 s.boArea.2 } : State).modBoot fun b => { b with erasing := false }) :=
      norErase_kept s _ _
    exact .may (.setFld herased) (startFlush_kept _)
  · exact (outs_next _ _).2 (.refl s)

end Sys2Proof.Machine
end

section
/-! Proofs/StoreAperture.lean: BAR2 (R89 to R91, R339). A request is answered by what `storeWrite` and `storeRead` say of the place that BAR2 shows at
its offset (Table 4.4); these in turn by whether the place is there, is lost or is locked. -/

namespace Sys2Proof.Machine
open Sys2Proof Sys2Proof.Machine.Reg

-- As in the files of Laws/: proofs elaborated side by side take the joined text past its memory limit.
set_option Elab.async false

/-! ### Which bytes a request enables -/

theorem findIdx_enabled {l : List (Nat × Bool)} (hne : l ≠ []) (hall : ∀ x ∈ l, x.2 = true) : l.findIdx? (fun b => b.2) = some 0 := by
  cases l with
  | nil => exact absurd rfl hne
  | cons x l => rw [List.findIdx?_cons, hall x List.mem_cons_self, if_pos rfl]

theorem enabledSpan_of_all {l : List (Nat × Bool)} (hne : l ≠ []) (hall : ∀ x ∈ l, x.2 = true) : enabledSpan l = some (0, l.length) := by
  have hreverse : l.reverse.findIdx? (fun b => b.2) = some 0 :=
    findIdx_enabled (List.reverse_ne_nil_iff.2 hne) fun x hx => hall x (List.mem_reverse.1 hx)
  rw [enabledSpan, findIdx_enabled hne hall, hreverse]
  rfl
theorem enabledSpan_write {bs : List Nat} (hne : bs ≠ []) : enabledSpan (bs.map fun b => (b, true)) = some (0, bs.length) := by
  have hspan := enabledSpan_of_all (l := bs.map fun b => (b, true)) (by simpa using hne) (by simp)
  rwa [List.length_map] at hspan
theorem enabledSpan_read {n : Nat} (hn : 0 < n) : enabledSpan (List.replicate n (0, true)) = some (0, n) := by
  have hspan := enabledSpan_of_all (l := List.replicate n (0, true)) (by simpa using hn.ne') fun x hx => (List.eq_of_mem_replicate hx) ▸ rfl
  rwa [List.length_replicate] at hspan

/-! ### What a request of the host is answered -/

theorem exec_bar2Access (write : Bool) (off : Nat) (l : List (Nat × Bool)) (ecc : List Nat) (s : State) :
    exec (.bar2Access write off l ecc) s = execBar2Access write off l ecc s := by rfl

/-- With Memory Space Enable 0 a request does not reach the device (R339). -/
theorem bar2Access_barsOff {s : State} (h : s.barsOff .host = true) (write : Bool) (off : Nat) (l : List (Nat × Bool)) (ecc : List Nat) :
    exec (.bar2Access write off l ecc) s = .next (s.respond .host 2 []) := if_pos h

theorem barsOn_of_mse {s : State} (h : s.hif.mse = true) : s.barsOff .host = false := by simp [State.barsOff, h]

/-- A request that enables no byte changes nothing. -/
theorem bar2Access_nothing {s : State} (hon : s.barsOff .host = false) {off : Nat} {l : List (Nat × Bool)} (hspan : enabledSpan l = none)
    {write : Bool} {ecc : List Nat} : exec (.bar2Access write off l ecc) s = .next (if write then s else s.respond .host 0 []) := by
  rw [exec_bar2Access, execBar2Access, hon, hspan]
  rfl

section BarsOn
variable {s : State} (hon : s.barsOff .host = false) {off : Nat} {l : List (Nat × Bool)} {i n : Nat} (hspan : enabledSpan l = some (i, n))
include hon hspan

theorem bar2Access_write (ecc : List Nat) : exec (.bar2Access true off l ecc) s =
    match s.storeWrite .host (s.fld HIF_LPDDR_PAGE_PAGE) off l with
    | (t, none) => .next t
    | (t, some c) => .next (t.discard 1 c true (firstDword off l).1 (off / 4 * 4) (firstDword off l).2 0) := by
  rw [exec_bar2Access, execBar2Access, hon, hspan]
  rfl

theorem bar2Access_written {t : State} (h : s.storeWrite .host (s.fld HIF_LPDDR_PAGE_PAGE) off l = (t, none)) (ecc : List Nat) :
    exec (.bar2Access true off l ecc) s = .next t := by rw [bar2Access_write hon hspan, h]

theorem bar2Access_discarded {c : AccCause} (h : s.storeWrite .host (s.fld HIF_LPDDR_PAGE_PAGE) off l = (s, some c)) (ecc : List Nat) :
    exec (.bar2Access true off l ecc) s = .next (s.discard 1 c true (firstDword off l).1 (off / 4 * 4) (firstDword off l).2 0) := by
  rw [bar2Access_write hon hspan, h]

theorem bar2Access_read {bs : List Nat} (h : s.storeRead .host (s.fld HIF_LPDDR_PAGE_PAGE) off l.length = .inl bs) :
    exec (.bar2Access false off l []) s = .next (s.respond .host 0 bs) := by
  have hdata : (List.range bs.length).map (fun i => bs[i]?.getD 0) = bs := by
    refine List.ext_getElem (by simp) fun i _ hi => ?_
    simp [hi]
  rw [exec_bar2Access, execBar2Access, hon, hspan]
  simp only [Bool.false_eq_true, if_false, reduceCtorEq, h]
  cases placeAt (s.fld HIF_LPDDR_PAGE_PAGE) off with
  | none => simp [hdata, State.respond]
  | some p => cases p <;> simp [hdata, State.respond]

theorem bar2Access_unread {c : AccCause} (h : s.storeRead .host (s.fld HIF_LPDDR_PAGE_PAGE) off l.length = .inr c) (ecc : List Nat) :
    exec (.bar2Access false off l ecc) s = .next (s.discard 1 c false (firstDword off l).1 (off / 4 * 4) 0 l.length) := by
  rw [exec_bar2Access, execBar2Access, hon, hspan]
  simp only [Bool.false_eq_true, if_false, reduceCtorEq, h]
  rfl
end BarsOn

/-! ### Writes and reads of a place -/

theorem length_placeBytes (s : State) (p : Place) (n : Nat) : (s.placeBytes p n).length = n := by
  cases p <;> simp [State.placeBytes, memBytes, State.hubBytes, State.lpddrBytes]

section Write
variable {s : State} {rq : Requester} {page off i n : Nat} {l : List (Nat × Bool)} (hspan : enabledSpan l = some (i, n))
include hspan

/-- Where BAR2 shows nothing, a write is discarded. -/
theorem storeWrite_hole (hp : placeAt page off = none) :
    s.storeWrite rq page off l = (s, some (if decide (rq = .host) && !s.ready then .unreachable else .unmapped)) := by
  rw [State.storeWrite, hspan, hp]
theorem storeWrite_locked {p : Place} (hp : placeAt page off = some p) (hreach : s.placeLost rq p = false) (hlock : s.placeLocked p i n = true) :
    s.storeWrite rq page off l = (s, some .locked) := by
  rw [State.storeWrite, hspan, hp]
  simp only [hreach, hlock, Bool.false_eq_true, if_false, if_true]
end Write

/-- A write of every byte of a place that it may write. -/
theorem storeWrite_full {s : State} {rq : Requester} {page off : Nat} {p : Place} {bs : List Nat} (hne : bs ≠ []) (hp : placeAt page off = some p)
    (hreach : s.placeLost rq p = false) (hlock : s.placeLocked p 0 bs.length = false) :
    s.storeWrite rq page off (bs.map fun b => (b, true)) = (s.putPlace p (bs.map (· % 256)), none) := by
  have hmerged : ∀ old : List Nat, old.length = bs.length →
      ((bs.map fun b => (b, true)).zip old).map (fun q => if q.1.2 then q.1.1 % 256 else q.2) = bs.map (· % 256) := fun old hlen =>
    List.ext_getElem (by simp [hlen]) fun i _ _ => by simp
  rw [State.storeWrite, enabledSpan_write hne, hp]
  simp only [hreach, hlock, Bool.false_eq_true, if_false, List.length_map, hmerged _ (length_placeBytes s p bs.length)]

theorem storeRead_place {s : State} {rq : Requester} {page off n : Nat} {p : Place} (hp : placeAt page off = some p)
    (hreach : s.placeLost rq p = false) : s.storeRead rq page off n = .inl (s.placeBytes p n) := by
  rw [State.storeRead, hp]
  simp only [hreach, Bool.false_eq_true, if_false]

/-! ### The places of BAR2 (Table 4.4) -/

theorem placeAt_data {n a : Nat} (hn : n < 32) (ha : a < 0x100000) (page : Nat) : placeAt page (0x100000 * n + a) = some (.data n a) := by
  have hcore : (0x100000 * n + a) / 0x100000 = n := by omega
  have haddr : (0x100000 * n + a) % 0x100000 = a := by omega
  rw [placeAt, if_pos (by omega), hcore, haddr]
theorem placeAt_inst {n a : Nat} (hn : n < 32) (ha : a < 0x10000) (page : Nat) :
    placeAt page (0x2000000 + 0x10000 * n + a) = some (.inst n a) := by
  have hcore : (0x2000000 + 0x10000 * n + a - 0x2000000) / 0x10000 = n := by omega
  have haddr : (0x2000000 + 0x10000 * n + a) % 0x10000 = a := by omega
  rw [placeAt, if_neg (by omega), if_pos (by omega), hcore, haddr]
theorem placeAt_hole {off : Nat} (hlo : 0x2600000 ≤ off) (hhi : off < 0x2800000) (page : Nat) : placeAt page off = none := by
  rw [placeAt, if_neg (by omega), if_neg (by omega), if_neg (by omega), if_pos hhi]

/-- A served request reaches every place of a die that is there. -/
theorem placeLost_of_serves {s : State} {p : Place} {d : Nat} (hserve : s.serves .host) (hp : p.die = some d) (hdie : s.dieUnreachable d = false) :
    s.placeLost .host p = false := by
  simp [State.placeLost, hp, hdie, (hserve rfl).1]

theorem putData_data (s : State) (n a : Nat) (bs : List Nat) : (s.putData n a bs).data = memPut dflt0 s.data (dataAt n a) bs := by
  unfold State.putData
  split <;> rfl
theorem putData_only (s : State) (n a : Nat) (bs : List Nat) : Only 524296 s (s.putData n a bs) := by
  rw [State.putData_only]
  exact Only.refl _ s

/-- A byte written through BAR2 reads as its low 8 bits. -/
theorem memGet_memPut_mod (d : Byte) (m : List Host.Cell) {a i : Nat} {bs : List Nat} (hi : i < bs.length) :
    memGet d (memPut d m a (bs.map (· % 256))) (a + i) = BitVec.ofNat 8 (bs.getD i 0) := by
  rw [memGet_memPut, if_pos (by simpa using hi), Nat.add_sub_cancel_left]
  apply BitVec.eq_of_toNat_eq
  simp [hi]

/-! ### The clauses about one request -/

theorem bar2Access_writesData {s : State} {n a : Nat} {bs : List Nat} (hn : n < 32) (ha : a + bs.length ≤ 0x100000) (hne : bs ≠ [])
    (hserve : s.serves .host) (hdie : s.dieUnreachable (n / 16) = false) (hdrop : s.coreDropped n = false) :
    exec (.bar2Access true (0x100000 * n + a) (bs.map fun b => (b, true)) []) s = .next (s.putData n a (bs.map (· % 256))) := by
  have hpos := List.length_pos_iff.2 hne
  exact bar2Access_written (barsOff_of_serves hserve) (enabledSpan_write hne)
    (storeWrite_full hne (placeAt_data hn (by omega) _) (placeLost_of_serves hserve rfl hdie) hdrop) []

theorem bar2Access_readsData {s : State} {n a len : Nat} (hn : n < 32) (ha : a + len ≤ 0x100000) (hlen : 0 < len) (hserve : s.serves .host)
    (hdie : s.dieUnreachable (n / 16) = false) : exec (.bar2Access false (0x100000 * n + a) (List.replicate len (0, true)) []) s =
      .next (s.respond .host 0 (memBytes dflt0 s.data (dataAt n a) len)) := by
  refine bar2Access_read (barsOff_of_serves hserve) (enabledSpan_read hlen) ?_
  rw [List.length_replicate]
  exact storeRead_place (placeAt_data hn (by omega) _) (placeLost_of_serves hserve rfl hdie)

theorem bar2Access_hole {s : State} {off b : Nat} (hlo : 0x2600000 ≤ off) (hhi : off < 0x2800000) (hmse : s.hif.mse = true)
    (hvalid : s.flag HIF_ACCERR_VALID = false) : Does (.bar2Access true off [(b, true)] []) s (fun t =>
      t.fld HIF_ACCERR_CAUSE = (if s.ready then 3 else 7) ∧ t.fld HIF_ACCERR_SRC = 1 ∧ Only 276894209 s t) := by
  refine Does.intro (bar2Access_discarded (barsOn_of_mse hmse) (enabledSpan_write (bs := [b]) (by simp))
    (storeWrite_hole (enabledSpan_write (bs := [b]) (by simp)) (placeAt_hole hlo hhi _)) []) ?_
  obtain ⟨-, hcause, -, hsrc, -⟩ := discard_logs hvalid 1 (if decide (Requester.host = .host) && !s.ready then .unreachable else .unmapped) true
    (firstDword off [(b, true)]).1 (off / 4 * 4) (firstDword off [(b, true)]).2 0 (by decide)
  refine ⟨hcause.trans ?_, hsrc, discard_only _ _ _ _ _ _ _ _⟩
  cases s.ready <;> rfl

theorem bar2Access_busy {s : State} {n a b : Nat} (hn : n < 32) (ha : a < 0x10000) (hserve : s.serves .host)
    (hdie : s.dieUnreachable (n / 16) = false) (hbusy : s.busy n = true) (hvalid : s.flag HIF_ACCERR_VALID = false) :
    Does (.bar2Access true (0x2000000 + 0x10000 * n + a) [(b, true)] []) s (fun t => t.fld HIF_ACCERR_CAUSE = 6 ∧ t.inst = s.inst) := by
  have hlock : s.placeLocked (.inst n a) 0 1 = true := by simp [State.placeLocked, hbusy]
  refine Does.intro (bar2Access_discarded (barsOff_of_serves hserve) (enabledSpan_write (bs := [b]) (by simp))
    (storeWrite_locked (enabledSpan_write (bs := [b]) (by simp)) (placeAt_inst hn ha _) (placeLost_of_serves hserve rfl hdie) hlock) []) ?_
  obtain ⟨-, hcause, -⟩ := discard_logs hvalid 1 .locked true (firstDword (0x2000000 + 0x10000 * n + a) [(b, true)]).1
    ((0x2000000 + 0x10000 * n + a) / 4 * 4) (firstDword (0x2000000 + 0x10000 * n + a) [(b, true)]).2 0 (by decide)
  exact ⟨hcause, discard_only _ _ _ _ _ _ _ _ .inst (by decide)⟩

/-! ### The stores keep their canonical form -/

/-- What leaves the five stores of the device and keeps the form of the other two keeps the form of all. -/
theorem storesWf_of_only {m : Nat} {s t : State} (h : s.storesWf) (honly : Only m s t) (hkept : WfKept s t)
    (hm : ∀ p ∈ [Piece.data, .inst, .sol, .hub, .lpddr], m.testBit p.bit = false := by decide) : t.storesWf := by
  obtain ⟨hdata, hinst, hsol, hhub, hlpddr, hnorhost⟩ := h
  have hdataEq : t.data = s.data := honly .data (hm _ (by simp))
  have hinstEq : t.inst = s.inst := honly .inst (hm _ (by simp))
  have hsolEq : t.sol = s.sol := honly .sol (hm _ (by simp))
  have hhubEq : t.hub = s.hub := honly .hub (hm _ (by simp))
  have hlpddrEq : t.lpddr = s.lpddr := honly .lpddr (hm _ (by simp))
  rw [State.storesWf, hdataEq, hinstEq, hsolEq, hhubEq, hlpddrEq]
  exact ⟨hdata, hinst, hsol, hhub, hlpddr, hkept hnorhost⟩

theorem discard_storesWf {s : State} (h : s.storesWf) (src : Nat) (c : AccCause) (write : Bool) (be addr data n : Nat) :
    (s.discard src c write be addr data n).storesWf :=
  storesWf_of_only h (discard_only _ _ _ _ _ _ _ _) (discard_kept _ _ _ _ _ _ _ _)

theorem putPlace_storesWf {s : State} (h : s.storesWf) (p : Place) (bs : List Nat) : (s.putPlace p bs).storesWf := by
  obtain ⟨hdata, hinst, hsol, hhub, hlpddr, hnorhost⟩ := h
  cases p with
  | data n a =>
    show (s.putData n a bs).storesWf
    unfold State.putData
    split <;> exact ⟨memPut_wf bs _ hdata, hinst, hsol, hhub, hlpddr, hnorhost⟩
  | inst n a => exact ⟨hdata, memPut_wf bs _ hinst, hsol, hhub, hlpddr, hnorhost⟩
  | sol k a => exact ⟨hdata, hinst, memPut_wf bs _ hsol, hhub, hlpddr, hnorhost⟩
  | hub a =>
    show (s.putHub a bs).storesWf
    unfold State.putHub
    dsimp only
    split <;> exact ⟨hdata, hinst, hsol, memPut_wf bs _ hhub, hlpddr, hnorhost⟩
  | lpddr a => exact ⟨hdata, hinst, hsol, hhub, memPut_wf bs _ hlpddr, hnorhost⟩

theorem storeWrite_storesWf {s : State} (h : s.storesWf) (rq : Requester) (page off : Nat) (l : List (Nat × Bool)) :
    (s.storeWrite rq page off l).1.storesWf := by
  unfold State.storeWrite
  split
  · exact h
  split
  · exact h
  split
  · exact h
  split
  · exact h
  · exact putPlace_storesWf h _ _

theorem bar2Access_storesWf {s : State} (h : s.storesWf) (write : Bool) (off : Nat) (l : List (Nat × Bool)) :
    Outs State.storesWf (exec (.bar2Access write off l []) s) := by
  cases hon : s.barsOff .host with
  | true => exact bar2Access_barsOff hon write off l [] ▸ (outs_next _ _).2 h
  | false =>
    cases hspan : enabledSpan l with
    | none =>
      rw [bar2Access_nothing hon hspan, outs_next]
      split <;> exact h
    | some span =>
      cases write with
      | true =>
        have hstored := storeWrite_storesWf h .host (s.fld HIF_LPDDR_PAGE_PAGE) off l
        rw [bar2Access_write hon hspan]
        generalize s.storeWrite .host (s.fld HIF_LPDDR_PAGE_PAGE) off l = q at hstored
        obtain ⟨u, _ | c⟩ := q
        · exact (outs_next _ _).2 hstored
        · exact (outs_next _ _).2 (discard_storesWf hstored _ _ _ _ _ _ _)
      | false =>
        cases hread : s.storeRead .host (s.fld HIF_LPDDR_PAGE_PAGE) off l.length with
        | inl bs => exact bar2Access_read hon hspan hread ▸ (outs_next _ _).2 h
        | inr c => exact bar2Access_unread hon hspan hread [] ▸ (outs_next _ _).2 (discard_storesWf h _ _ _ _ _ _ _)

theorem flash_storesWf {s : State} (h : s.storesWf) : Outs State.storesWf (execFlushDone s) ∧ Outs State.storesWf (execSectorEraseDone s) ∧
    Outs State.storesWf (execBindOffAreaErased s) :=
  ⟨fun t ht => storesWf_of_only h (execFlushDone_only s t ht) (execFlushDone_kept s t ht),
   fun t ht => storesWf_of_only h (execSectorEraseDone_only s t ht) (execSectorEraseDone_kept s t ht),
   fun t ht => storesWf_of_only h (execBindOffAreaErased_only s t ht) (execBindOffAreaErased_kept s t ht)⟩

/-- Settles O8: a write and a read of a data store by their outcomes, the discarded writes by the rule of `discard`, the canonical form by the one of
each store. -/
theorem storeAperture : Obligations.StoreAperture := by
  refine ⟨fun s n a bs hn ha hne hserve hdie hdrop => ?_, fun s n a len hn ha hlen hserve hdie => ?_, fun s off b hlo hhi hmse hvalid => ?_,
    fun s hmse write off l ecc => ?_, fun s n a b hn ha hserve hdie _ hbusy hvalid => bar2Access_busy hn ha hserve hdie hbusy hvalid,
    fun s t hwf c hc hexec => ?_⟩
  · refine Does.intro (bar2Access_writesData hn ha hne hserve hdie hdrop) ?_
    have honly := putData_only s n a (bs.map (· % 256))
    rw [putData_data]
    exact ⟨fun i hi => memGet_memPut_mod _ _ hi, fun x hx => memGet_memPut_out (by rwa [List.length_map]), honly .inst (by decide),
      honly .sol (by decide), honly .hub (by decide), honly .lpddr (by decide), honly .regs (by decide)⟩
  · exact Does.intro (bar2Access_readsData hn ha hlen hserve hdie) ⟨rfl, rfl, rfl⟩
  · obtain ⟨t, hexec, hcause, hsrc, honly⟩ := bar2Access_hole (b := b) hlo hhi hmse hvalid
    exact ⟨t, hexec, hcause, hsrc, honly .data (by decide), honly .inst (by decide), honly .sol (by decide), honly .hub (by decide),
      honly .lpddr (by decide)⟩
  · exact bar2Access_barsOff (barsOff_of_mse hmse) write off l ecc
  · obtain ⟨hflush, herase, harea⟩ := flash_storesWf hwf
    simp only [List.mem_cons, List.not_mem_nil, or_false] at hc
    obtain ⟨w, off, l, rfl⟩ | rfl | rfl | rfl := hc
    · exact bar2Access_storesWf hwf w off l t hexec
    · exact hflush t hexec
    · exact herase t hexec
    · exact harea t hexec

end Sys2Proof.Machine
end

section
/-! Proofs/PortOperations.lean: what the operations that the sense ports share leave of block MOL and of the ports (chapter 5): registers of a port, reports,
messages sent, segments of the bridge that fail, and the end of a link session. -/

namespace Sys2Proof.Machine
open Sys2Proof Sys2Proof.Machine.Reg

-- As in the files of Laws/: proofs elaborated side by side take the joined text past its memory limit.
set_option Elab.async false

/-! ### The registers of block MOL -/

/-- An address of block MOL. -/
abbrev molAddr (a : Nat) : Prop := 0x60000 ≤ a ∧ a < 0x80000

theorem quiet_of_molAddr {a : Nat} (h : molAddr a) : quiet a := (quiet_def a).2 (by omega)
theorem offCmd_of_molAddr {a : Nat} (h : molAddr a) : offCmd a := ⟨quiet_of_molAddr h, by omega⟩

/-- A register that every sense port has, 0x1000 apart, in the lower half of its page. -/
abbrev Rg.perPort (r : Rg) : Prop := r.s1 = 0x1000 ∧ r.s2 = 0 ∧ 0x60000 ≤ r.base ∧ r.base < 0x60800

section
variable {r q : Rg} {p : Nat}

theorem Rg.perPort.at_eq (h : r.perPort) (p : Nat) : r.at p = r.base + 0x1000 * p := by
  obtain ⟨h1, h2, -⟩ := h
  rw [Rg.at, h1, h2, Nat.zero_mul, Nat.add_zero]
theorem Rg.perPort.addr (h : r.perPort) (hp : p < 6) : molAddr (r.at p) := by
  have := h.at_eq p
  omega
theorem Rg.perPort.addr_live (h : r.perPort) (hp : p < 6) : molAddr (r.at p + 0x800) := by
  have := h.at_eq p
  omega
theorem Rg.perPort.at_ne (h : r.perPort) (g : q.perPort) (hb : r.base ≠ q.base) (p : Nat) : r.at p ≠ q.at p := by
  have := h.at_eq p
  have := g.at_eq p
  omega
theorem Rg.perPort.live_ne (h : r.perPort) (g : q.perPort) (p : Nat) : r.at p + 0x800 ≠ q.at p := by
  have := h.at_eq p
  have := g.at_eq p
  omega
end

/-- Two fields of a port share no bit. -/
abbrev Fld.portApart (f g : Fld) : Prop := f.rg.perPort ∧ g.rg.perPort ∧ g.lo + g.w ≤ 32 ∧ (f.rg.base ≠ g.rg.base ∨ f.beside g)

section
variable {s t : State} {f g : Fld} {p v n : Nat}

theorem reg_of_regs_eq (h : t.regs = s.regs) (a : Nat) : t.reg a = s.reg a := congrArg (sparseGet regReset · a) h
theorem fld_of_regs_eq (h : t.regs = s.regs) (f : Fld) (i : Nat) : t.fld f i = s.fld f i := fld_of_reg_eq (reg_of_regs_eq h _)
theorem live_of_reg_eq {i : Nat} (h : t.reg (f.rg.at i + 0x800) = s.reg (f.rg.at i + 0x800)) : t.live f i = s.live f i := by
  rw [State.live, h, State.live]

/-- A field of a port beside the one written. -/
theorem portFld_setFld (h : f.portApart g := by decide) : (s.setFld g v p).fld f p = s.fld f p := by
  obtain ⟨hf, hg, hw, hb | hb⟩ := h
  · exact fld_setFld_ne (hf.at_ne hg hb p)
  · exact fld_setFld_disj hw hb
theorem portFld_count (h : f.portApart g := by decide) : (s.count g n p).fld f p = s.fld f p := portFld_setFld h
/-- A write to a port's registers leaves what is in force at the port. -/
theorem portLive_setFld (h : f.rg.perPort ∧ g.rg.perPort := by decide) : (s.setFld g v p).live f p = s.live f p :=
  live_of_reg_eq (reg_setFld_ne (h.1.live_ne h.2 p))
theorem portLive_count (h : f.rg.perPort ∧ g.rg.perPort := by decide) : (s.count g n p).live f p = s.live f p := portLive_setFld h
/-- A write of one field is seen in its register alone. -/
theorem setFld_sameRegsBut {l : List Nat} (s : State) (f : Fld) (v i : Nat) (h : f.rg.at i ∈ l) : sameRegsBut l s (s.setFld f v i) :=
  sameRegsBut_setReg s _ h
end

/-! ### The ports -/

section
variable {s t : State} {p q : Nat} {f : Port → Port}

theorem ports_of_whole (h : s.whole) : s.ports.length = 6 := by
  simp only [State.whole, State.sizes, List.cons.injEq] at h
  exact h.2.2.2.2.1
theorem port_of_ports_eq (h : t.ports = s.ports) (p : Nat) : t.port p = s.port p := by rw [State.port, h, State.port]
theorem port_of_absent (h : s.ports.length ≤ p) : s.port p = {} := by
  rw [State.port, List.getD_eq_default _ _ h]

theorem port_modPort (h : p < s.ports.length) : (s.modPort p f).port p = f (s.port p) := by
  simp [State.port, State.modPort, List.getD_eq_getElem?_getD, h]
/-- A port that is not there reads as the default, before and after. -/
theorem port_modPort_or (s : State) (p : Nat) (f : Port → Port) :
    (s.modPort p f).port p = f (s.port p) ∨ (s.modPort p f).port p = {} ∧ s.port p = {} := by
  by_cases h : p < s.ports.length
  · exact .inl (port_modPort h)
  · have habsent := Nat.le_of_not_lt h
    exact .inr ⟨port_of_absent (by simpa [State.modPort] using habsent), port_of_absent habsent⟩
/-- A field that `f` leaves reads the same, whether the port is there or not. -/
theorem port_modPort_leaves {α : Type} (g : Port → α) (h : ∀ x, g (f x) = g x) : g ((s.modPort p f).port p) = g (s.port p) := by
  obtain ht | ⟨ht, hs⟩ := port_modPort_or s p f
  · rw [ht, h]
  · rw [ht, hs]
theorem ports_length_modPort : (s.modPort p f).ports.length = s.ports.length := by simp [State.modPort]

theorem modPort_regs : (s.modPort p f).regs = s.regs := rfl
theorem reg_modPort (a : Nat) : (s.modPort p f).reg a = s.reg a := rfl
theorem fld_modPort (g : Fld) (i : Nat) : (s.modPort p f).fld g i = s.fld g i := rfl
end

/-! ### Reports (Table 5.10) -/

theorem molEvent_quiet {p : Nat} (hp : p < 6) : quiet (MOL_EVENT.at p) := quiet_of_molAddr (Rg.perPort.addr (by decide) hp)

section
variable {s : State} {p b sev data : Nat}

theorem molReport_reg {a : Nat} (hp : p < 6) (hq : quiet a) (ha : a ≠ MOL_EVENT.at p) : (s.molReport p b sev data).reg a = s.reg a :=
  report_reg (by omega) hq ha
theorem molReport_evt (hp : p < 6) (hb : b < 32 := by decide) : (s.molReport p b sev data).evtAt MOL_EVENT p b :=
  report_bit (by omega) (molEvent_quiet hp) hb
theorem molReport_evt_mono {n : Nat} (hp : p < 6) (h : s.evtAt MOL_EVENT p n) (hb : b < 32 := by decide) : (s.molReport p b sev data).evtAt MOL_EVENT p n :=
  report_bit_mono (by omega) (molEvent_quiet hp) hb h
theorem molReport_sameRegsBut (hp : p < 6) : sameRegsBut (MOL_EVENT.at p :: reportRegs) s (s.molReport p b sev data) := fun a ha => by
  rw [List.mem_cons, not_or] at ha
  exact molReport_reg hp ha.2 ha.1
theorem molReport_ports : (s.molReport p b sev data).ports = s.ports :=
  (State.molReport_only s p b sev data s (m' := 8458753)).2 (Only.refl _ s) .ports (by decide)
theorem molReport_fbr : (s.molReport p b sev data).fbr = s.fbr :=
  (State.molReport_only s p b sev data s (m' := 8458753)).2 (Only.refl _ s) .fbr (by decide)
end

/-! ### What leaves block MOL as it is -/

/-- Every register of block MOL reads the same in both states. -/
def MolKept (s t : State) : Prop := ∀ a, molAddr a → t.reg a = s.reg a

namespace MolKept
variable {s t u : State}

theorem refl (s : State) : MolKept s s := fun _ _ => rfl
theorem trans (h : MolKept s t) (g : MolKept t u) : MolKept s u := fun a ha => (g a ha).trans (h a ha)
theorem ofRegs (h : t.regs = s.regs) : MolKept s t := fun a _ => reg_of_regs_eq h a
theorem ite {c : Prop} [Decidable c] (h : MolKept s t) (g : MolKept s u) : MolKept s (if c then t else u) := by
  split
  · exact h
  · exact g
theorem setReg {a : Nat} (v : Word) (h : ¬ molAddr a) : MolKept s (s.setReg a v) := fun _ hb => reg_setReg_ne fun he => h (he ▸ hb)
theorem foldl {α : Type} {f : State → α → State} (h : ∀ u x, MolKept u (f u x)) (l : List α) (s : State) : MolKept s (l.foldl f s) := by
  induction l generalizing s with
  | nil => exact refl s
  | cons x rest ih => exact (h s x).trans (ih (f s x))
theorem disqualify (s : State) (v : Bool) : MolKept s (s.disqualify v) := fun a ha => (disqualify_moves s v).regs a fun hm => by
  simp only [roundRegs, reportRegs, List.cons_append, List.nil_append, List.mem_cons, List.not_mem_nil, or_false, RND_STATUS, RND_EVENT, RND_FREQ,
    RND_PHERR, RND_STATS, JRN_EVENT, JRN_LOST0, JRN_LOST1] at hm
  omega
theorem settle (s : State) (f : State → Wait → Option (Nat × List Nat)) : MolKept s (s.settle f) := fun _ ha => settle_reg (offCmd_of_molAddr ha)
theorem framerClose (s : State) (p : Nat) : MolKept s (s.framerClose p) := by
  unfold State.framerClose
  refine foldl (fun u c => ?_) _ s
  exact ofRegs rfl
end MolKept

/-! ### Segments of the bridge end (R378, R384, R385) -/

/-- A register of the bridge, of whichever window. -/
abbrev Rg.inFbr (r : Rg) : Prop := 0xA0000 ≤ r.base

namespace MolKept

/-- The registers of the bridge lie above block MOL, at whatever window. -/
theorem fbrReg (s : State) (r : Rg) (w : Nat) {d : Nat} (v : Word) (h : r.inFbr) : MolKept s (s.setReg (r.at w + d) v) := by
  refine setReg _ fun ha => ?_
  have : r.base ≤ r.at w := (Nat.le_add_right _ _).trans (Nat.le_add_right _ _)
  omega
theorem fbrFld (s : State) (f : Fld) (v w : Nat) (h : f.rg.inFbr := by decide) : MolKept s (s.setFld f v w) := fbrReg s f.rg w (d := 0) _ h
theorem fbrApply (s : State) (r : Rg) (w : Nat) (h : r.inFbr := by decide) : MolKept s (s.apply1 r w 0) := fbrReg s r w _ h
theorem fbrReport (s : State) (b sev src data : Nat) : MolKept s (s.fbrReport b sev src data) := fun a ha =>
  report_reg (by decide) (quiet_of_molAddr ha) (by simp only [FBR_EVENT]; omega)
theorem noteFbr (s : State) : MolKept s s.noteFbr :=
  ((fbrFld _ _ _ _).trans (fbrFld _ _ _ _)).trans (foldl (fun _ _ => fbrFld _ _ _ _) _ _)
theorem respondErr (s : State) (rq : Requester) (write : Bool) (n : Nat) : MolKept s (s.respondErr rq write n) := ofRegs (respondErr_regs _ _ _ _)

theorem modFbr (s : State) (f : Fbr → Fbr) : MolKept s (s.modFbr f) := ofRegs rfl

theorem winPoint (s : State) (w : Nat) : MolKept s (s.winPoint w) := by
  have hpoint : MolKept s ((s.setFld FBR_WCTRL_COMMIT 0 w).setFld FBR_WSTAT_CWAIT 0 w) := (fbrFld _ _ _ _).trans (fbrFld _ _ _ _)
  have hset := hpoint.trans ((fbrApply _ FBR_WCFG w).trans (fbrApply _ FBR_WBASE w))
  unfold State.winPoint
  exact ite (refl s) (ite (hpoint.trans ((fbrFld _ _ _ _).trans (fbrReport _ _ _ _ _)))
    (hset.trans ((ite (modFbr _ _) (refl _)).trans (fbrReport _ _ _ _ _))))
theorem dropSeg (s : State) (g : FSeg) : MolKept s (s.dropSeg g) := (modFbr _ _).trans ((noteFbr _).trans (winPoint _ _))
theorem blockWin (s : State) (w : Nat) : MolKept s (s.blockWin w) := by
  unfold State.blockWin
  exact ite (refl s) ((fbrFld _ _ _ _).trans ((fbrFld _ _ _ _).trans (fbrReport _ _ _ _ _)))
theorem noteElog (s : State) : MolKept s s.noteElog := fbrReg s FBR_ELOG0 0 (d := 0) _ (by decide)
theorem fbrLog (s : State) (w q cause addr id : Nat) (read route : Bool) : MolKept s (s.fbrLog (some w) q cause read route addr id) := by
  unfold State.fbrLog
  split
  · exact (fbrFld _ _ _ _).trans (fbrReport _ _ _ _ _)
  · exact ((modFbr _ _).trans (noteElog _)).trans ((fbrFld _ FBR_WCNT_ERRS _ w).trans (fbrReport _ _ _ _ _))
theorem failSeg (s : State) (g : FSeg) (cause : Nat) : MolKept s (s.failSeg g cause) := by
  unfold State.failSeg
  exact (fbrLog _ _ _ _ _ _ _ _).trans ((ite (respondErr _ _ _ _) (ite (blockWin _ _) (refl _))).trans (dropSeg _ _))
theorem failPort (s : State) (p cause : Nat) : MolKept s (s.failPort p cause) := foldl (fun _ _ => failSeg _ _ _) _ _
end MolKept

/-! ### A link session ends (R112, R133, R135) -/

/-- From `s` to `t` port `p` moves: of its MOL_STATUS only the fields of `m` differ, of the other registers of block MOL only its MOL_EVENT, in which no
event is lost. -/
structure PortMoves (p : Nat) (m : List Fld) (s t : State) : Prop where
  status : ∀ f, f.rg = MOL_STATUS → (∀ g ∈ m, f.beside g) → t.fld f p = s.fld f p
  regs : ∀ a, molAddr a → a ≠ MOL_STATUS.at p → a ≠ MOL_EVENT.at p → t.reg a = s.reg a
  events : ∀ n, s.evtAt MOL_EVENT p n → t.evtAt MOL_EVENT p n

/-- A field that every port has in another register than MOL_STATUS and MOL_EVENT. -/
abbrev Fld.offStatus (f : Fld) : Prop := f.rg.perPort ∧ f.rg.base ≠ MOL_STATUS.base ∧ f.rg.base ≠ MOL_EVENT.base

namespace PortMoves
variable {p : Nat} {m m' : List Fld} {s t u : State}

theorem refl (s : State) : PortMoves p m s s := ⟨fun _ _ _ => rfl, fun _ _ _ _ => rfl, fun _ h => h⟩
theorem mono (h : PortMoves p m s t) (hm : ∀ f ∈ m, f ∈ m' := by decide) : PortMoves p m' s t where
  status f hf hg := h.status f hf fun g hgm => hg g (hm g hgm)
  regs := h.regs
  events := h.events
theorem trans (h : PortMoves p m s t) (g : PortMoves p m t u) : PortMoves p m s u where
  status f hf hm := (g.status f hf hm).trans (h.status f hf hm)
  regs a ha hs he := (g.regs a ha hs he).trans (h.regs a ha hs he)
  events n hn := g.events n (h.events n hn)
theorem ite {c : Prop} [Decidable c] (h : PortMoves p m s t) (g : PortMoves p m s u) : PortMoves p m s (if c then t else u) := by
  split
  · exact h
  · exact g
theorem ofKept (hp : p < 6) (h : MolKept s t) : PortMoves p m s t where
  status f hf _ := fld_of_reg_eq (h _ (by rw [hf]; exact Rg.perPort.addr (by decide) hp))
  regs a ha _ _ := h a ha
  events n hn := by
    rw [State.evtAt, h _ (Rg.perPort.addr (by decide) hp)]
    exact hn
theorem ofRegs (h : t.regs = s.regs) : PortMoves p m s t where
  status _ _ _ := fld_of_regs_eq h _ _
  regs a _ _ _ := reg_of_regs_eq h a
  events n hn := by
    rw [State.evtAt, reg_of_regs_eq h]
    exact hn
theorem setStatus {f : Fld} (v : Nat) (hf : f.rg = MOL_STATUS := by rfl) (hw : f.lo + f.w ≤ 32 := by decide) (hm : f ∈ m := by decide) :
    PortMoves p m s (s.setFld f v p) where
  status g _ hg := fld_setFld_disj hw (hg f hm)
  regs a _ hs _ := reg_setFld_ne (by rw [hf]; exact hs)
  events n hn := by
    have hne : MOL_EVENT.at p ≠ f.rg.at p := by
      rw [hf]
      exact Rg.perPort.at_ne (by decide) (by decide) (by decide) p
    rw [State.evtAt, reg_setFld_ne hne]
    exact hn
theorem report (hp : p < 6) {b : Nat} (sev data : Nat) (hb : b < 32 := by decide) : PortMoves p m s (s.molReport p b sev data) where
  status f hf _ := fld_of_reg_eq (molReport_reg hp (quiet_of_molAddr (by rw [hf]; exact Rg.perPort.addr (by decide) hp))
    (by rw [hf]; exact Rg.perPort.at_ne (by decide) (by decide) (by decide) p))
  regs a ha _ he := molReport_reg hp (quiet_of_molAddr ha) he
  events n hn := molReport_evt_mono hp hn hb

/-- A field of MOL_STATUS beside those that move. -/
theorem fld (h : PortMoves p m s t) {f : Fld} (hf : f.rg = MOL_STATUS ∧ ∀ g ∈ m, f.beside g := by decide) : t.fld f p = s.fld f p := h.status f hf.1 hf.2
/-- A field of another register of the port. -/
theorem other (h : PortMoves p m s t) (hp : p < 6) {f : Fld} (hf : f.offStatus := by decide) : t.fld f p = s.fld f p := by
  obtain ⟨hr, hs, he⟩ := hf
  exact fld_of_reg_eq (h.regs _ (hr.addr hp) (hr.at_ne (by decide) hs p) (hr.at_ne (by decide) he p))
/-- What is in force at the port. -/
theorem live (h : PortMoves p m s t) (hp : p < 6) {f : Fld} (hf : f.rg.perPort := by decide) : t.live f p = s.live f p :=
  live_of_reg_eq (h.regs _ (hf.addr_live hp) (hf.live_ne (by decide) p) (hf.live_ne (by decide) p))
end PortMoves

/-- What the end of a session does first where the port was UP: the head is absent, its requests fail, and a reference on the port is lost. -/
def State.linkCut (s : State) (p cause : Nat) : State :=
  if s.pst p = 7 then
    let u := ((s.setAbsent p).framerClose p).failPort p cause
    if u.live RND_REFSEL_PORT = p ∧ (0 < u.rnd.v.run ∨ u.qualified true) then u.disqualify true else u
  else s

/-- The port without its session. -/
def Port.closed (q : Port) : Port := { q with
  tries := 0, base := 0xFFF0, idGiven := false, rxAlive := [], t0 := none, expect := [], cadences := 0, echo := none, echoRnd := 0,
  fwd := [], out := [], calib := 0, credits := 0, nd := none, sess := none, prev := none, chalWait := none, confWait := none }

/-- MOL_STATUS and the port show no session. -/
def State.linkClosed (s : State) (p : Nat) : State := ((s.setFld MOL_STATUS_GEN 0 p).setFld MOL_STATUS_AUTHED 0 p).modPort p Port.closed

/-- A HEAD_ADMIT that waits for the head of port `p` fails. -/
def headGone (p : Nat) : State → Wait → Option (Nat × List Nat) := fun _ w => if w = Wait.head p then some (5, []) else none

theorem endLink_eq (s : State) (p cause : Nat) : s.endLink p cause = ((s.linkCut p cause).linkClosed p).settle (headGone p) := rfl

/-- The fields of MOL_STATUS that the end of a session moves. -/
def sessionFlds : List Fld := [MOL_STATUS_GEN, MOL_STATUS_AUTHED, MOL_STATUS_HEAD_ABSENT]

section
variable {s : State} {p cause : Nat}

theorem setAbsent_moves (hp : p < 6) : PortMoves p [MOL_STATUS_HEAD_ABSENT] s (s.setAbsent p) :=
  .ite (.refl s) ((PortMoves.setStatus 1).trans (.report hp 5 0))
theorem setAbsent_absent (hp : p < 6) : (s.setAbsent p).fld MOL_STATUS_HEAD_ABSENT p = 1 := by
  unfold State.setAbsent
  split
  case isTrue h => exact of_decide_eq_true h
  case isFalse =>
    rw [(PortMoves.report (m := []) hp 5 0).fld, fld_setFld _ _ _ _ _ (by decide)]
    rfl
theorem setAbsent_ports : (s.setAbsent p).ports = s.ports :=
  (State.setAbsent_only s p s (m' := 8458753)).2 (Only.refl _ s) .ports (by decide)

/-- Where the port was UP, only HEAD_ABSENT and the event that reports it move. -/
theorem linkCut_moves (hp : p < 6) : PortMoves p [MOL_STATUS_HEAD_ABSENT] s (s.linkCut p cause) := by
  have hfail : PortMoves p [MOL_STATUS_HEAD_ABSENT] s (((s.setAbsent p).framerClose p).failPort p cause) :=
    (setAbsent_moves hp).trans ((PortMoves.ofKept hp (.framerClose _ _)).trans (.ofKept hp (.failPort _ _ _)))
  exact .ite (.ite (hfail.trans (.ofKept hp (.disqualify _ _))) hfail) (.refl s)
theorem linkCut_absent (hp : p < 6) (h : s.pst p = 7) : (s.linkCut p cause).fld MOL_STATUS_HEAD_ABSENT p = 1 := by
  have hkept : MolKept (s.setAbsent p) (s.linkCut p cause) := by
    have hfail : MolKept (s.setAbsent p) (((s.setAbsent p).framerClose p).failPort p cause) := (MolKept.framerClose _ _).trans (.failPort _ _ _)
    rw [State.linkCut, if_pos h]
    exact .ite (hfail.trans (.disqualify _ _)) hfail
  rw [fld_of_reg_eq (hkept _ (Rg.perPort.addr (by decide) hp)), setAbsent_absent hp]
theorem linkCut_ports : (s.linkCut p cause).ports = s.ports := by
  have honly : Only 377568769 s (s.linkCut p cause) := by
    unfold State.linkCut
    simp only [State.disqualify_only, State.failPort_only, State.framerClose_only, State.setAbsent_only, only_ite, ite_self, Only.refl, Nat.reduceOr]
  exact honly .ports (by decide)

theorem linkClosed_moves : PortMoves p sessionFlds s (s.linkClosed p) :=
  ((PortMoves.setStatus 0).trans (.setStatus 0)).trans (.ofRegs modPort_regs)

/-- The end of a session moves GEN, AUTHED and HEAD_ABSENT. -/
theorem endLink_moves (hp : p < 6) : PortMoves p sessionFlds s (s.endLink p cause) := by
  rw [endLink_eq]
  exact ((linkCut_moves hp).mono.trans linkClosed_moves).trans (.ofKept hp (.settle _ _))
/-- What `settle` leaves of a field of the port. -/
theorem endLink_fld (hp : p < 6) {f : Fld} (hf : f.rg.perPort := by decide) :
    (s.endLink p cause).fld f p = ((s.linkCut p cause).linkClosed p).fld f p := by
  rw [endLink_eq]
  exact fld_of_reg_eq (MolKept.settle _ _ _ (hf.addr hp))
theorem endLink_gen (hp : p < 6) : (s.endLink p cause).fld MOL_STATUS_GEN p = 0 := by
  rw [endLink_fld hp, State.linkClosed, fld_modPort, portFld_setFld, fld_setFld _ _ _ _ _ (by decide), Nat.zero_mod]
theorem endLink_authed (hp : p < 6) : (s.endLink p cause).fld MOL_STATUS_AUTHED p = 0 := by
  rw [endLink_fld hp, State.linkClosed, fld_modPort, fld_setFld _ _ _ _ _ (by decide), Nat.zero_mod]
/-- The head of a port that was UP is absent. -/
theorem endLink_absent (hp : p < 6) (h : s.pst p = 7) : (s.endLink p cause).fld MOL_STATUS_HEAD_ABSENT p = 1 := by
  rw [endLink_fld hp, State.linkClosed, fld_modPort, portFld_setFld, portFld_setFld, linkCut_absent hp h]
theorem endLink_ports : (s.endLink p cause).ports = s.ports.modify p Port.closed := by
  have hsettle : ((((s.linkCut p cause).linkClosed p).settle (headGone p))).ports = ((s.linkCut p cause).linkClosed p).ports :=
    (State.settle_only _ (headGone p) _ (m' := 8467969)).2 (Only.refl _ _) .ports (by decide)
  have hclosed : ((s.linkCut p cause).linkClosed p).ports = (s.linkCut p cause).ports.modify p Port.closed := rfl
  rw [endLink_eq, hsettle, hclosed, linkCut_ports]
/-- A field of the port that the end of a session sets to its default. -/
theorem endLink_port_field {α : Type} (g : Port → α) (h : ∀ q : Port, g q.closed = g {}) : g ((s.endLink p cause).port p) = g {} := by
  rw [port_of_ports_eq (t := s.endLink p cause) (s := s.modPort p Port.closed) endLink_ports p]
  obtain ht | ⟨ht, -⟩ := port_modPort_or s p Port.closed
  · rw [ht, h]
  · rw [ht]
end

/-! ### The states of a port (R112) -/

section
variable {s : State} {p st cause : Nat}

theorem goPort_moves : PortMoves p [MOL_STATUS_STATE] s (s.goPort p st) := (PortMoves.setStatus st).trans (.ofRegs modPort_regs)
theorem goPort_pst (h : st < 16 := by decide) : (s.goPort p st).pst p = st := by
  rw [State.pst, State.goPort, fld_modPort, fld_setFld _ _ _ _ _ (by decide)]
  exact Nat.mod_eq_of_lt h
theorem goPort_sameRegsBut : sameRegsBut [MOL_STATUS.at p] s (s.goPort p st) := setFld_sameRegsBut s _ st p (List.mem_singleton.2 rfl)
theorem goPort_port (hp : p < s.ports.length) : (s.goPort p st).port p = { s.port p with since := s.rnd.clk } := port_modPort hp

theorem goPort_port_leaves {α : Type} (g : Port → α) (h : ∀ (q : Port) n, g { q with since := n } = g q) : g ((s.goPort p st).port p) = g (s.port p) :=
  port_modPort_leaves (s := s.setFld MOL_STATUS_STATE st p) g fun q => h q _
theorem goPort_length : (s.goPort p st).ports.length = s.ports.length := ports_length_modPort

/-- What the way back to TRAIN1 moves of MOL_STATUS. -/
theorem toTrain_moves (hp : p < 6) : PortMoves p (MOL_STATUS_STATE :: sessionFlds) s (s.toTrain p) :=
  (endLink_moves hp).mono.trans goPort_moves.mono
theorem toTrain_pst : (s.toTrain p).pst p = 1 := goPort_pst
theorem toTrain_gen (hp : p < 6) : (s.toTrain p).fld MOL_STATUS_GEN p = 0 := goPort_moves.fld.trans (endLink_gen hp)
theorem toTrain_authed (hp : p < 6) : (s.toTrain p).fld MOL_STATUS_AUTHED p = 0 := goPort_moves.fld.trans (endLink_authed hp)
theorem toTrain_port_field {α : Type} (g : Port → α) (h : ∀ q : Port, g q.closed = g {}) (hs : ∀ (q : Port) n, g { q with since := n } = g q) :
    g ((s.toTrain p).port p) = g {} := (goPort_port_leaves (s := s.endLink p 6) g hs).trans (endLink_port_field g h)
theorem toTrain_sess : ((s.toTrain p).port p).sess = none := toTrain_port_field Port.sess (fun _ => rfl) (fun _ _ => rfl)
theorem toTrain_idGiven : ((s.toTrain p).port p).idGiven = false := toTrain_port_field Port.idGiven (fun _ => rfl) (fun _ _ => rfl)
theorem toTrain_absent (hp : p < 6) (h : s.pst p = 7) : (s.toTrain p).fld MOL_STATUS_HEAD_ABSENT p = 1 := goPort_moves.fld.trans (endLink_absent hp h)
end

/-! ### Messages sent (R107, Table 5.4) -/

/-- The bytes of a message: header, payload, tag in an authenticated session, CRC. -/
def State.molFrame (s : State) (p type sub aux : Nat) (payload : List Nat) : List Nat :=
  let m := s.molHeader p type sub aux payload.length ++ payload
  let m := match (s.port p).sess with
    | some x => m ++ molTag x.key (molIv 1 x.salt x.tx) m
    | none => m
  m ++ toBytes 4 (crc32c m)

/-- The port once a message has left: its alive counter and its session count on. -/
def Port.sent (q : Port) (frame : List Nat) (sub : Nat) : Port := { q with
  lastTx := frame, txAlive := bind q.txAlive (q.base + sub) (((look q.txAlive (q.base + sub)).getD 0 + 1) % 256),
  sess := q.sess.map (fun x => { x with tx := x.tx + 1 }) }

section
variable {s : State} {p type sub aux : Nat} {payload : List Nat}

theorem molSend_eq : s.molSend p type sub aux payload = s.modPort p (fun q => q.sent (s.molFrame p type sub aux payload) sub) := rfl
theorem molSend_regs : (s.molSend p type sub aux payload).regs = s.regs := rfl
theorem molSend_port (hp : p < s.ports.length) :
    (s.molSend p type sub aux payload).port p = (s.port p).sent (s.molFrame p type sub aux payload) sub := by rw [molSend_eq, port_modPort hp]

theorem length_toBytes (n v : Nat) : (toBytes n v).length = n := by
  induction n generalizing v with
  | zero => rfl
  | succ n ih => rw [toBytes, List.length_cons, ih]

/-- A header has 8 bytes: byte 2 holds the type and whether a tag follows, byte 5 AUX. -/
theorem molHeader_bytes (s : State) (p type sub aux len : Nat) : ∃ b0 b1 auth alive m0 m1, 16 ∣ auth ∧
    s.molHeader p type sub aux len = [b0, b1, type + auth, alive, len, aux % 256, m0, m1] := by
  rcases h : (s.port p).sess with _ | x <;> simp only [State.molHeader, h]
  · exact ⟨_, _, 0, _, _, _, by decide, rfl⟩
  · exact ⟨_, _, 16, _, _, _, by decide, rfl⟩

/-- Behind header and payload stand the tag and the CRC. -/
theorem molFrame_split (s : State) (p type sub aux : Nat) (payload : List Nat) :
    ∃ rest, s.molFrame p type sub aux payload = s.molHeader p type sub aux payload.length ++ (payload ++ rest) := by
  unfold State.molFrame
  cases (s.port p).sess with
  | none => exact ⟨_, List.append_assoc _ _ _⟩
  | some x => exact ⟨_, by simp only [List.append_assoc]; rfl⟩

theorem molFrame_type (h : type < 16) : (s.molFrame p type sub aux payload).getD 2 0 % 16 = type := by
  obtain ⟨rest, hframe⟩ := molFrame_split s p type sub aux payload
  obtain ⟨b0, b1, auth, alive, m0, m1, hauth, hheader⟩ := molHeader_bytes s p type sub aux payload.length
  rw [hframe, hheader]
  change (type + auth) % 16 = type
  omega
theorem molFrame_aux : (s.molFrame p type sub aux payload).getD 5 0 = aux % 256 := by
  obtain ⟨rest, hframe⟩ := molFrame_split s p type sub aux payload
  obtain ⟨b0, b1, auth, alive, m0, m1, -, hheader⟩ := molHeader_bytes s p type sub aux payload.length
  rw [hframe, hheader]
  rfl
/-- The payload begins behind the header. -/
theorem molFrame_payload {first more : List Nat} (h : payload = first ++ more) :
    ((s.molFrame p type sub aux payload).drop 8).take first.length = first := by
  obtain ⟨rest, hframe⟩ := molFrame_split s p type sub aux payload
  obtain ⟨b0, b1, auth, alive, m0, m1, -, hheader⟩ := molHeader_bytes s p type sub aux payload.length
  rw [hframe, hheader]
  change (payload ++ rest).take first.length = first
  rw [h, List.append_assoc, List.take_left]
end

section
variable {s : State} {p : Nat}

/-- A CHAL is no matter of registers. -/
theorem sendChal_regs : (s.sendChal p).regs = s.regs := by
  unfold State.sendChal
  split <;> rfl
theorem enterCalib_regs : (s.enterCalib p).regs = (s.goPort p 5).regs := rfl
end

/-! ### A segment of the bridge ends: the segments and the error log -/

section
variable {s : State}

theorem fbrReport_fbr (b sev src data : Nat) : (s.fbrReport b sev src data).fbr = s.fbr :=
  (State.fbrReport_only s b sev src data s (m' := 8458753)).2 (Only.refl _ s) .fbr (by decide)
theorem noteFbr_fbr : s.noteFbr.fbr = s.fbr := (State.noteFbr_only s s (m' := 1)).2 (Only.refl _ s) .fbr (by decide)
theorem blockWin_fbr (w : Nat) : (s.blockWin w).fbr = s.fbr := (State.blockWin_only s w s (m' := 8458753)).2 (Only.refl _ s) .fbr (by decide)
theorem respondErr_fbr (rq : Requester) (write : Bool) (n : Nat) : (s.respondErr rq write n).fbr = s.fbr :=
  (State.respondErr_only s rq write n s (m' := 268435456)).2 (Only.refl _ s) .fbr (by decide)

theorem modFbr_fbr (f : Fbr → Fbr) : (s.modFbr f).fbr = f s.fbr := rfl
theorem noteElog_fbr : s.noteElog.fbr = s.fbr := rfl
theorem apply1_fbr (r : Rg) (i j : Nat) : (s.apply1 r i j).fbr = s.fbr := by rw [State.apply1, setReg_fbr]
end

/-- The bridge has the same segments and the same error log in both states. -/
def SegsKept (s t : State) : Prop := t.fbr.segs = s.fbr.segs ∧ t.fbr.log = s.fbr.log

namespace SegsKept
variable {s t u : State}

theorem refl (s : State) : SegsKept s s := ⟨rfl, rfl⟩
theorem trans (h : SegsKept s t) (g : SegsKept t u) : SegsKept s u := ⟨g.1.trans h.1, g.2.trans h.2⟩
theorem ite {c : Prop} [Decidable c] (h : SegsKept s t) (g : SegsKept s u) : SegsKept s (if c then t else u) := by
  split
  · exact h
  · exact g
theorem ofFbr (h : t.fbr = s.fbr) : SegsKept s t := ⟨congrArg Fbr.segs h, congrArg Fbr.log h⟩
theorem setFld (s : State) (f : Fld) (v i : Nat) : SegsKept s (s.setFld f v i) := ofFbr (setFld_fbr s f v i 0)
theorem report (s : State) (b sev src data : Nat) : SegsKept s (s.fbrReport b sev src data) := ofFbr (fbrReport_fbr _ _ _ _)

/-- The safe point of a window leaves the segments and the log. -/
theorem winPoint (s : State) (w : Nat) : SegsKept s (s.winPoint w) := by
  have hpoint : SegsKept s ((s.setFld FBR_WCTRL_COMMIT 0 w).setFld FBR_WSTAT_CWAIT 0 w) := (setFld _ _ _ _).trans (setFld _ _ _ _)
  have hset := hpoint.trans ((ofFbr (apply1_fbr FBR_WCFG w 0)).trans (ofFbr (apply1_fbr FBR_WBASE w 0)))
  have hwseq : ∀ (u : State) (x : List (Nat × Nat)), SegsKept u (u.modFbr (fun b => { b with wseq := x })) := fun _ _ => ⟨rfl, rfl⟩
  unfold State.winPoint
  exact ite (refl s) (ite (hpoint.trans ((setFld _ _ _ _).trans (report _ _ _ _ _))) (hset.trans ((ite (hwseq _ _) (refl _)).trans (report _ _ _ _ _))))
end SegsKept

section
variable {s : State}

/-- The cause in the first word of a record. -/
theorem elogWord_cause {w cause q : Nat} (read route : Bool) (hw : w < 16) (hcause : cause < 32) :
    nbits (w + 16 * cause + (if read then 512 else 0) + (if route then 1024 else 0) + 2048 * q + 2 ^ 31) 4 5 = cause := by
  cases read <;> cases route <;> simp only [nbits, if_true, Bool.false_eq_true, if_false] <;> omega

/-- With room in the log one record is added, which names the cause (R384). -/
theorem fbrLog_of_room {w cause : Nat} (q addr id : Nat) (read route : Bool) (hroom : s.fbr.log.length < 32) (hw : w < 16) (hcause : cause < 32) :
    ∃ e, nbits e.e0 4 5 = cause ∧ (s.fbrLog (some w) q cause read route addr id).fbr = { s.fbr with log := s.fbr.log ++ [e] } := by
  rw [State.fbrLog, if_neg (by omega)]
  simp only [Option.isSome_some, if_true, Option.getD_some, fbrReport_fbr, count_fbr, noteElog_fbr, modFbr_fbr]
  exact ⟨_, elogWord_cause read route hw hcause, rfl⟩

theorem dropSeg_leaves (g : FSeg) : (s.dropSeg g).fbr.segs = s.fbr.segs.filter (fun x => decide (x.id ≠ g.id)) ∧ (s.dropSeg g).fbr.log = s.fbr.log := by
  rw [State.dropSeg, (SegsKept.winPoint _ _).1, (SegsKept.winPoint _ _).2, noteFbr_fbr]
  exact ⟨rfl, rfl⟩

/-- A segment that fails is gone, and one record of its cause is added (R378). -/
theorem failSeg_logs {g : FSeg} {cause : Nat} (hroom : s.fbr.log.length < 32) (hw : g.win < 16) (hcause : cause < 32) : ∃ e, nbits e.e0 4 5 = cause ∧
    (s.failSeg g cause).fbr.segs = s.fbr.segs.filter (fun x => decide (x.id ≠ g.id)) ∧ (s.failSeg g cause).fbr.log = s.fbr.log ++ [e] := by
  obtain ⟨e, he, hfbr⟩ := fbrLog_of_room g.wseq g.addr g.hid g.read g.route hroom hw hcause
  refine ⟨e, he, ?_⟩
  rw [State.failSeg, (dropSeg_leaves g).1, (dropSeg_leaves g).2]
  have hanswer : ∀ u : State, (if g.read = true then u.respondErr g.rq false g.ofs.length else
      if s.winStrict g.win = true then u.blockWin g.win else u).fbr = u.fbr := fun u => by
    split
    · exact respondErr_fbr _ _ _
    · split
      · exact blockWin_fbr _
      · rfl
  rw [hanswer, hfbr]
  exact ⟨rfl, rfl⟩
end

/-! ### Hostile events (R135, Table 5.9) -/

/-- An authentication failure of port `p` is counted, reported and noted among the round's hostile events. -/
def State.authFailed (s : State) (p : Nat) : State :=
  ((s.count MOL_CNT_HOST_AUTH 1 p).molReport p 5 5).modPort p (fun q => { q with hostile := q.hostile + 1 })

section
variable {s : State} {p cause : Nat}

theorem authFailed_moves (hp : p < 6) : PortMoves p [] (s.count MOL_CNT_HOST_AUTH 1 p) (s.authFailed p) :=
  (PortMoves.report hp 5 0).trans (.ofRegs modPort_regs)
theorem authFailed_pst (hp : p < 6) : (s.authFailed p).pst p = s.pst p := (authFailed_moves hp).fld.trans portFld_count
theorem authFailed_count (hp : p < 6) : (s.authFailed p).fld MOL_CNT_HOST_AUTH p = s.counted MOL_CNT_HOST_AUTH p :=
  ((authFailed_moves hp).other hp).trans (fld_count_same _ _ _ _ (by decide))
theorem authFailed_evt (hp : p < 6) : (s.authFailed p).evtAt MOL_EVENT p 5 := by
  rw [State.authFailed, State.evtAt, reg_modPort]
  exact molReport_evt hp
theorem authFailed_hostile (hp : p < s.ports.length) : ((s.authFailed p).port p).hostile = (s.port p).hostile + 1 := by
  have hports : ((s.count MOL_CNT_HOST_AUTH 1 p).molReport p 5 5).ports = s.ports := molReport_ports.trans (count_ports _ _ _ _ _)
  rw [State.authFailed, port_modPort (by rwa [hports]), port_of_ports_eq hports]

/-- QTHR authentication failures and other hostile events in one round quarantine the port. -/
theorem hostileEvent_auth (hp : p < 6) (hthere : p < s.ports.length) : s.hostileEvent p 1 =
    if s.live MOL_QCFG_QTHR p ≤ (s.port p).hostile + 1 then (s.authFailed p).quarantine p 1 else s.authFailed p := by
  have hsteps : s.hostileEvent p 1 = if (s.authFailed p).live MOL_QCFG_QTHR p ≤ ((s.authFailed p).port p).hostile
      then (s.authFailed p).quarantine p 1 else s.authFailed p := by simp only [State.hostileEvent, if_true]; rfl
  rw [hsteps, (authFailed_moves hp).live hp, portLive_count, authFailed_hostile hthere]

/-- The head is absent in quarantine; the report names the cause and the serial. -/
theorem quarantine_eq (s : State) (p cause : Nat) :
    ∃ data, s.quarantine p cause = (((s.endLink p 7).goPort p 8).setAbsent p).molReport p 4 6 data := ⟨_, rfl⟩

theorem quarantine_shows (hp : p < 6) : (s.quarantine p cause).pst p = 8 ∧ ((s.quarantine p cause).port p).sess = none ∧
    (s.quarantine p cause).fld MOL_STATUS_HEAD_ABSENT p = 1 ∧ (s.quarantine p cause).evtAt MOL_EVENT p 4 := by
  obtain ⟨data, heq⟩ := quarantine_eq s p cause
  have hreport : PortMoves p [] (((s.endLink p 7).goPort p 8).setAbsent p) (s.quarantine p cause) := heq ▸ .report hp 6 data
  have hports : (s.quarantine p cause).ports = ((s.endLink p 7).goPort p 8).ports := by rw [heq, molReport_ports, setAbsent_ports]
  refine ⟨?_, ?_, ?_, ?_⟩
  · rw [State.pst, hreport.fld, (setAbsent_moves hp).fld]
    exact goPort_pst
  · rw [port_of_ports_eq hports, goPort_port_leaves Port.sess fun _ _ => rfl, endLink_port_field Port.sess fun _ => rfl]
  · rw [hreport.fld, setAbsent_absent hp]
  · rw [heq]
    exact molReport_evt hp
end

end Sys2Proof.Machine
end

section
/-! Proofs/PortStates.lean: the states of a sense port (`Obligations.PortStates`, O12): the outcome of each command case by case. -/

namespace Sys2Proof.Machine
open Sys2Proof Sys2Proof.Machine.Reg

set_option Elab.async false

/-! ### The link is lost (R104, R105, R112) -/

section
variable {s : State} {p : Nat}

theorem linkOn_iff : s.linkOn p = true ↔ 1 ≤ s.pst p ∧ s.pst p ≤ 7 := decide_eq_true_iff

theorem exec_linkLoss (hp : p < 6) {c : Instr} (hc : c ∈ [Instr.linkLos p, Instr.syncLoss p]) :
    exec c s = .next (if s.linkOn p then s.toTrain p else s) := by
  simp only [List.mem_cons, List.not_mem_nil, or_false] at hc
  obtain rfl | rfl := hc
  · exact if_pos hp
  · exact if_pos hp

/-- Clause 1 of `Obligations.PortStates`. -/
theorem linkLoss_trains (hp : p < 6) {c : Instr} (hc : c ∈ [Instr.linkLos p, Instr.syncLoss p]) (hlo : 1 ≤ s.pst p) (hhi : s.pst p ≤ 7) :
    Does c s (fun t => t.pst p = 1 ∧ t.fld MOL_STATUS_GEN p = 0 ∧ t.fld MOL_STATUS_AUTHED p = 0 ∧ (t.port p).sess = none ∧
      (t.port p).idGiven = false ∧ t.fld MOL_IDBASE_ADMITTED p = s.fld MOL_IDBASE_ADMITTED p) := by
  have hexec : exec c s = .next (s.toTrain p) := by rw [exec_linkLoss hp hc, if_pos (linkOn_iff.2 ⟨hlo, hhi⟩)]
  exact .intro hexec ⟨toTrain_pst, toTrain_gen hp, toTrain_authed hp, toTrain_sess, toTrain_idGiven, (toTrain_moves hp).other hp⟩
/-- Clause 2 of `Obligations.PortStates`. -/
theorem linkLoss_without_link (hp : p < 6) {c : Instr} (hc : c ∈ [Instr.linkLos p, Instr.syncLoss p]) (h : s.pst p = 0 ∨ 8 ≤ s.pst p) :
    exec c s = .next s := by
  rw [exec_linkLoss hp hc, if_neg (by rw [linkOn_iff]; omega)]

/-! ### CAPS (R112, R113) -/

/-- Clause 3 of `Obligations.PortStates`. -/
theorem m1LinkUp_asks (hp : p < 6) (hwhole : s.whole) (h : s.pst p = 1) : Does (.m1LinkUp p) s (fun t => t.pst p = 2 ∧ (t.port p).tries = 1 ∧
    (t.port p).since = s.rnd.clk ∧ sameRegsBut [MOL_STATUS.at p] s t) := by
  have hexec : exec (.m1LinkUp p) s = .next (((s.goPort p 2).modPort p (fun q => { q with tries := 1 })).molSend p 7 0 0 []) :=
    (if_pos hp).trans (if_pos h)
  have hthere : p < s.ports.length := by rwa [ports_of_whole hwhole]
  have hthere' : p < (s.goPort p 2).ports.length := by rwa [goPort_length]
  refine .intro hexec ⟨?_, ?_, ?_, ?_⟩
  · rw [State.pst, fld_of_regs_eq molSend_regs, fld_modPort]
    exact goPort_pst
  · rw [molSend_port (by rwa [ports_length_modPort]), port_modPort hthere']
    rfl
  · rw [molSend_port (by rwa [ports_length_modPort]), port_modPort hthere', goPort_port hthere]
    rfl
  · intro a ha
    rw [reg_of_regs_eq molSend_regs, reg_modPort]
    exact goPort_sameRegsBut a ha

/-- CAPS_TIMEOUT after its millisecond. -/
theorem exec_capsTimeout (hp : p < 6) (h : s.pst p = 2) (hdue : 250000 ≤ s.rnd.clk - (s.port p).since) : exec (.capsTimeout p) s =
    if 3 ≤ (s.port p).tries then .next (s.toTrain p)
    else .next ((s.modPort p (fun q => { q with tries := q.tries + 1, since := s.rnd.clk })).molSend p 7 0 0 []) :=
  (if_pos hp).trans (if_pos ⟨h, hdue⟩)
/-- Clause 4 of `Obligations.PortStates`. -/
theorem capsTimeout_again (hp : p < 6) (hwhole : s.whole) (h : s.pst p = 2) (hdue : 250000 ≤ s.rnd.clk - (s.port p).since)
    (htries : (s.port p).tries < 3) : Does (.capsTimeout p) s (fun t =>
      (t.port p).tries = (s.port p).tries + 1 ∧ (t.port p).since = s.rnd.clk ∧ t.regs = s.regs) := by
  have hthere : p < s.ports.length := by rwa [ports_of_whole hwhole]
  refine .intro ((exec_capsTimeout hp h hdue).trans (if_neg (Nat.not_le.2 htries))) ⟨?_, ?_, rfl⟩
  · rw [molSend_port (by rwa [ports_length_modPort]), port_modPort hthere]
    rfl
  · rw [molSend_port (by rwa [ports_length_modPort]), port_modPort hthere]
    rfl
/-- Clause 5 of `Obligations.PortStates`. -/
theorem capsTimeout_gives_up (hp : p < 6) (h : s.pst p = 2) (hdue : 250000 ≤ s.rnd.clk - (s.port p).since) (htries : 3 ≤ (s.port p).tries) :
    Does (.capsTimeout p) s (fun t => t.pst p = 1) := .intro ((exec_capsTimeout hp h hdue).trans (if_pos htries)) toTrain_pst

/-! ### TRAIN2 (R115, R132) -/

/-- The equaliser has converged, GEN shows M2 and no upgrade has failed. -/
def State.m2Up (s : State) (p : Nat) : State := ((s.adaptEq p).setFld MOL_STATUS_GEN 1 p).setFld MOL_STATUS_M2_FAILS 0 p

theorem reg_draw (a : Nat) : s.draw.reg a = s.reg a := rfl
theorem adaptEq_conv : (s.adaptEq p).fld MOL_EQ_CONV p = 1 := by
  rw [State.adaptEq, fld_of_reg_eq (reg_draw _), fld_setFld _ _ _ _ _ (by decide)]
  rfl
theorem adaptEq_sameRegsBut : sameRegsBut [MOL_EQ.at p] s (s.adaptEq p) := fun a ha => by
  have hne : a ≠ MOL_EQ.at p := List.ne_of_not_mem_cons ha
  rw [State.adaptEq, reg_draw, reg_setFld_ne hne, reg_setFld_ne hne, reg_setFld_ne hne]

theorem m2Up_sameRegsBut : sameRegsBut [MOL_STATUS.at p, MOL_EQ.at p] s (s.m2Up p) :=
  have hstatus : MOL_STATUS.at p ∈ [MOL_STATUS.at p, MOL_EQ.at p] := List.mem_cons_self
  ((adaptEq_sameRegsBut.mono (List.subset_cons_self _ _)).trans (setFld_sameRegsBut _ MOL_STATUS_GEN _ p hstatus)).trans
    (setFld_sameRegsBut _ MOL_STATUS_M2_FAILS _ p hstatus)
theorem m2Up_authReq : (s.m2Up p).live MOL_CTRL_AUTH_REQ p = s.live MOL_CTRL_AUTH_REQ p := by
  refine live_of_reg_eq (m2Up_sameRegsBut _ ?_)
  simp only [List.mem_cons, List.not_mem_nil, or_false, not_or]
  exact ⟨Rg.perPort.live_ne (by decide) (by decide) p, Rg.perPort.live_ne (by decide) (by decide) p⟩

/-- M2_LINK_UP in TRAIN2: what follows is the exchange where AUTH_REQ asks for it, and CALIB where not. -/
theorem exec_m2LinkUp (hp : p < 6) (h : s.pst p = 3) : ∃ t, exec (.m2LinkUp p) s = .next t ∧
    t.regs = ((s.m2Up p).goPort p (if s.live MOL_CTRL_AUTH_REQ p = 1 then 4 else 5)).regs := by
  have hexec : exec (.m2LinkUp p) s = if (s.m2Up p).live MOL_CTRL_AUTH_REQ p = 1 then .next (((s.m2Up p).goPort p 4).sendChal p)
      else .next ((s.m2Up p).enterCalib p) := (if_pos hp).trans (if_pos h)
  rw [hexec, m2Up_authReq]
  split
  · exact ⟨_, rfl, sendChal_regs⟩
  · exact ⟨_, rfl, enterCalib_regs⟩

/-- Clause 6 of `Obligations.PortStates`. -/
theorem m2LinkUp_converges (hp : p < 6) (h : s.pst p = 3) : Does (.m2LinkUp p) s (fun t => t.fld MOL_STATUS_GEN p = 1 ∧
    t.fld MOL_STATUS_M2_FAILS p = 0 ∧ t.pst p = (if s.live MOL_CTRL_AUTH_REQ p = 1 then 4 else 5) ∧ t.fld MOL_EQ_CONV p = 1 ∧
    sameRegsBut [MOL_STATUS.at p, MOL_EQ.at p] s t) := by
  obtain ⟨t, hexec, hregs⟩ := exec_m2LinkUp hp h
  refine .intro hexec ⟨?_, ?_, ?_, ?_, ?_⟩
  · rw [fld_of_regs_eq hregs, goPort_moves.fld, State.m2Up, portFld_setFld, fld_setFld _ _ _ _ _ (by decide)]
    rfl
  · rw [fld_of_regs_eq hregs, goPort_moves.fld, State.m2Up, fld_setFld _ _ _ _ _ (by decide)]
    rfl
  · rw [State.pst, fld_of_regs_eq hregs]
    exact goPort_pst (by split <;> decide)
  · rw [fld_of_regs_eq hregs, goPort_moves.other hp, State.m2Up, portFld_setFld, portFld_setFld, adaptEq_conv]
  · intro a ha
    rw [reg_of_regs_eq hregs]
    exact (m2Up_sameRegsBut.trans (goPort_sameRegsBut.mono (by simp))) a ha

/-- Clause 7 of `Obligations.PortStates`. -/
theorem m2UpgradeTimeout_trains (hp : p < 6) (h : s.pst p = 3) (hdue : 2500000 ≤ s.rnd.clk - (s.port p).since) :
    Does (.m2UpgradeTimeout p) s (fun t => t.pst p = 1 ∧ t.fld MOL_STATUS_M2_FAILS p = s.counted MOL_STATUS_M2_FAILS p ∧ t.evtAt MOL_EVENT p 3) := by
  have hexec : exec (.m2UpgradeTimeout p) s = .next (((s.count MOL_STATUS_M2_FAILS 1 p).molReport p 3 4).toTrain p) :=
    (if_pos hp).trans (if_pos ⟨h, hdue⟩)
  refine .intro hexec ⟨toTrain_pst, ?_, (toTrain_moves hp).events _ (molReport_evt hp)⟩
  rw [(toTrain_moves hp).fld, (PortMoves.report (m := []) hp 4 0).fld, fld_count_same _ _ _ _ (by decide)]

/-! ### CALIB, WAIT and UP (R112, R133) -/

/-- Clause 8 of `Obligations.PortStates`. -/
theorem calibTimeout_trains (hp : p < 6) (h : s.pst p = 5) (hdue : 500000 ≤ s.rnd.clk - (s.port p).since) :
    Does (.calibTimeout p) s (fun t => t.pst p = 1 ∧ t.fld MOL_STATUS_GEN p = 0) :=
  .intro ((if_pos hp).trans (if_pos ⟨h, hdue⟩)) ⟨toTrain_pst, toTrain_gen hp⟩

/-- Clause 9 of `Obligations.PortStates`. -/
theorem aliveTimeout_trains (hp : p < 6) (h : s.pst p = 7) (hdue : s.live MOL_TMO_ALIVE_TMO p ≤ s.absStitch - (s.port p).alive) :
    Does (.aliveTimeout p) s (fun t => t.pst p = 1 ∧ t.fld MOL_STATUS_HEAD_ABSENT p = 1 ∧ (t.port p).sess = none) :=
  .intro ((if_pos hp).trans (if_pos ⟨.inr h, hdue⟩)) ⟨toTrain_pst, toTrain_absent hp h, toTrain_sess⟩
/-- Clause 10 of `Obligations.PortStates`. -/
theorem aliveTimeout_idle (hp : p < 6)
    (h : (s.pst p ≠ 6 ∧ s.pst p ≠ 7) ∨ s.absStitch - (s.port p).alive < s.live MOL_TMO_ALIVE_TMO p) : exec (.aliveTimeout p) s = .next s :=
  (if_pos hp).trans (if_neg (by omega))

/-! ### RETRAIN and QREL (R112, R115, R135) -/

theorem exec_molRetrain (hp : p < 6) (h : s.reaches .host (MOL_CTRL.at p)) : exec (.molRetrain p) s = .next (s.retrainPort p) :=
  (if_pos hp).trans (reached_of_reaches h _ _ _)
theorem exec_molQrel (hp : p < 6) (h : s.reaches .host (MOL_CTRL.at p)) : exec (.molQrel p) s = .next (s.qrel p) :=
  (if_pos hp).trans (reached_of_reaches h _ _ _)

/-- RETRAIN has been taken: its bit and the failed upgrades are 0. -/
def State.retrainTaken (s : State) (p : Nat) : State := (s.setFld MOL_STATUS_M2_FAILS 0 p).setFld MOL_CTRL_RETRAIN 0 p

theorem retrainTaken_pst : (s.retrainTaken p).pst p = s.pst p := by rw [State.pst, State.retrainTaken, portFld_setFld, portFld_setFld, State.pst]
theorem retrainTaken_fails : (s.retrainTaken p).fld MOL_STATUS_M2_FAILS p = 0 := by
  rw [State.retrainTaken, portFld_setFld, fld_setFld _ _ _ _ _ (by decide), Nat.zero_mod]
theorem retrainTaken_retrain : (s.retrainTaken p).fld MOL_CTRL_RETRAIN p = 0 := by
  rw [State.retrainTaken, fld_setFld _ _ _ _ _ (by decide), Nat.zero_mod]
theorem retrainPort_eq : s.retrainPort p =
    if (1 ≤ s.pst p ∧ s.pst p ≤ 7) ∨ s.pst p = 9 then ((s.retrainTaken p).toTrain p).setFld MOL_STATUS_BLK_CAUSE 0 p else s.retrainTaken p := by
  have hsteps : s.retrainPort p = if (s.retrainTaken p).linkOn p ∨ (s.retrainTaken p).pst p = 9 then
      ((s.retrainTaken p).toTrain p).setFld MOL_STATUS_BLK_CAUSE 0 p else s.retrainTaken p := rfl
  simp only [hsteps, linkOn_iff, retrainTaken_pst]

/-- Clause 11 of `Obligations.PortStates`. -/
theorem molRetrain_trains (hp : p < 6) (h : s.reaches .host (MOL_CTRL.at p)) : Does (.molRetrain p) s (fun t =>
    t.fld MOL_STATUS_M2_FAILS p = 0 ∧ t.fld MOL_CTRL_RETRAIN p = 0 ∧
    t.pst p = (if (1 ≤ s.pst p ∧ s.pst p ≤ 7) ∨ s.pst p = 9 then 1 else s.pst p)) := by
  refine .intro (exec_molRetrain hp h) ?_
  rw [retrainPort_eq]
  split
  case isTrue =>
    refine ⟨?_, ?_, ?_⟩
    · rw [portFld_setFld, (toTrain_moves hp).fld, retrainTaken_fails]
    · rw [portFld_setFld, (toTrain_moves hp).other hp, retrainTaken_retrain]
    · rw [State.pst, portFld_setFld]
      exact toTrain_pst
  case isFalse => exact ⟨retrainTaken_fails, retrainTaken_retrain, retrainTaken_pst⟩

/-- QREL has been taken: its bit and QHELD are 0. -/
def State.qrelTaken (s : State) (p : Nat) : State := (s.setFld MOL_CTRL_QREL 0 p).setFld MOL_STATUS_QHELD 0 p

theorem qrelTaken_pst : (s.qrelTaken p).pst p = s.pst p := by rw [State.pst, State.qrelTaken, portFld_setFld, portFld_setFld, State.pst]
theorem qrelTaken_held : (s.qrelTaken p).fld MOL_STATUS_QHELD p = 0 := by
  rw [State.qrelTaken, fld_setFld _ _ _ _ _ (by decide), Nat.zero_mod]
theorem qrelTaken_qrel : (s.qrelTaken p).fld MOL_CTRL_QREL p = 0 := by
  rw [State.qrelTaken, portFld_setFld, fld_setFld _ _ _ _ _ (by decide), Nat.zero_mod]
theorem qrelTaken_sameRegsBut : sameRegsBut [MOL_STATUS.at p, MOL_CTRL.at p] s (s.qrelTaken p) :=
  (setFld_sameRegsBut s MOL_CTRL_QREL 0 p (by simp [MOL_CTRL_QREL])).trans (setFld_sameRegsBut _ MOL_STATUS_QHELD 0 p (by simp [MOL_STATUS_QHELD]))
theorem qrel_eq : s.qrel p = if s.pst p = 8 then (s.qrelTaken p).goPort p 1 else s.qrelTaken p := by
  have hsteps : s.qrel p = if (s.qrelTaken p).pst p = 8 then (s.qrelTaken p).goPort p 1 else s.qrelTaken p := rfl
  rw [hsteps, qrelTaken_pst]

/-- Clause 12 of `Obligations.PortStates`. -/
theorem molQrel_releases (hp : p < 6) (h : s.reaches .host (MOL_CTRL.at p)) : Does (.molQrel p) s (fun t => t.fld MOL_STATUS_QHELD p = 0 ∧
    t.fld MOL_CTRL_QREL p = 0 ∧ t.pst p = (if s.pst p = 8 then 1 else s.pst p) ∧ sameRegsBut [MOL_STATUS.at p, MOL_CTRL.at p] s t) := by
  refine .intro (exec_molQrel hp h) ?_
  rw [qrel_eq]
  split
  case isTrue =>
    refine ⟨?_, ?_, goPort_pst, qrelTaken_sameRegsBut.trans (goPort_sameRegsBut.mono (by simp))⟩
    · rw [goPort_moves.fld, qrelTaken_held]
    · rw [goPort_moves.other hp, qrelTaken_qrel]
  case isFalse => exact ⟨qrelTaken_held, qrelTaken_qrel, qrelTaken_pst, qrelTaken_sameRegsBut⟩
end

/-- Settles O12: each command by the state it leads to; what a port loses on its way back to TRAIN1 by the rules of `toTrain`. -/
theorem portStates : Obligations.PortStates := by
  unfold Obligations.PortStates
  refine ⟨?_, ?_, ?_, ?_, ?_, ?_, ?_, ?_, ?_, ?_, ?_, ?_⟩
  · exact fun s p hp c hc hlo hhi => linkLoss_trains hp hc hlo hhi
  · exact fun s p hp c hc h => linkLoss_without_link hp hc h
  · exact fun s p hp hwhole h => m1LinkUp_asks hp hwhole h
  · exact fun s p hp hwhole h hdue htries => capsTimeout_again hp hwhole h hdue htries
  · exact fun s p hp h hdue htries => capsTimeout_gives_up hp h hdue htries
  · exact fun s p hp h => m2LinkUp_converges hp h
  · exact fun s p hp h hdue => m2UpgradeTimeout_trains hp h hdue
  · exact fun s p hp h hdue => calibTimeout_trains hp h hdue
  · exact fun s p hp h hdue => aliveTimeout_trains hp h hdue
  · exact fun s p hp h => aliveTimeout_idle hp h
  · exact fun s p hp h => molRetrain_trains hp h
  · exact fun s p hp h => molQrel_releases hp h

end Sys2Proof.Machine
end

section
/-! Proofs/PortTimers.lean: the timers of a sense port and the messages it sends of its own accord (`Obligations.PortTimers`, O13), case by case. -/

namespace Sys2Proof.Machine
open Sys2Proof Sys2Proof.Machine.Reg

set_option Elab.async false

/-! ### AUTH_TIMEOUT (R112, R130, R135) -/

/-- The exchange of port `p` has run 5 ms: since its CHAL left, or since the port came to AUTH where none could leave. -/
def State.authDue (s : State) (p : Nat) : Bool :=
  match (s.port p).nd with
  | some (_, t) => decide (1250000 ≤ s.rnd.clk - t)
  | none => s.pst p = 4 && decide (1250000 ≤ s.rnd.clk - (s.port p).since)

/-- A CHAL that left and got no RESP is an authentication failure. -/
def State.authJudged (s : State) (p : Nat) : State :=
  if (s.port p).nd.isSome ∧ ¬ (s.port p).resp then s.hostileEvent p 1 else s

section
variable {s : State} {p : Nat}

theorem authDue_of_chal {n : BitVec 96} {a : Nat} (h : (s.port p).nd = some (n, a)) : s.authDue p = decide (1250000 ≤ s.rnd.clk - a) := by
  rw [State.authDue, h]
theorem authDue_of_none (h : (s.port p).nd = none) :
    s.authDue p = (decide (s.pst p = 4) && decide (1250000 ≤ s.rnd.clk - (s.port p).since)) := by
  rw [State.authDue, h]

theorem exec_authTimeout (hp : p < 6) (hst : s.pst p = 4 ∨ s.pst p = 7) (hdue : s.authDue p = true) : exec (.authTimeout p) s =
    .next (if (s.authJudged p).linkOn p then (s.authJudged p).toTrain p else s.authJudged p) := (if_pos hp).trans (if_pos ⟨hst, hdue⟩)

theorem linkOn_of_auth (hst : s.pst p = 4 ∨ s.pst p = 7) : s.linkOn p = true := linkOn_iff.2 (by omega)

theorem authJudged_of_lost {n : BitVec 96} {a : Nat} (hnd : (s.port p).nd = some (n, a)) (hresp : (s.port p).resp = false) :
    s.authJudged p = s.hostileEvent p 1 := by
  rw [State.authJudged, hnd, hresp]
  exact if_pos ⟨rfl, Bool.false_ne_true⟩
theorem authJudged_of_fair (h : (s.port p).nd = none ∨ (s.port p).resp = true) : s.authJudged p = s := by
  refine if_neg fun ⟨hchal, hresp⟩ => ?_
  obtain h | h := h
  · simp [h] at hchal
  · exact hresp h

/-- First half of clause 1 of `Obligations.PortTimers`: an authentication failure short of QTHR. -/
theorem authTimeout_fails (hp : p < 6) {n : BitVec 96} {a : Nat} (hwhole : s.whole) (hst : s.pst p = 4 ∨ s.pst p = 7)
    (hnd : (s.port p).nd = some (n, a)) (hlate : 1250000 ≤ s.rnd.clk - a) (hresp : (s.port p).resp = false)
    (hfew : (s.port p).hostile + 1 < s.live MOL_QCFG_QTHR p) : Does (.authTimeout p) s (fun t => t.pst p = 1 ∧ (t.port p).sess = none ∧
      t.fld MOL_CNT_HOST_AUTH p = s.counted MOL_CNT_HOST_AUTH p ∧ t.evtAt MOL_EVENT p 5) := by
  have hjudged : s.authJudged p = s.authFailed p := by
    rw [authJudged_of_lost hnd hresp, hostileEvent_auth hp (by rwa [ports_of_whole hwhole]), if_neg (Nat.not_le.2 hfew)]
  have hlink : (s.authFailed p).linkOn p = true := linkOn_of_auth (by rwa [authFailed_pst hp])
  have hexec : exec (.authTimeout p) s = .next ((s.authFailed p).toTrain p) := by
    rw [exec_authTimeout hp hst (by rw [authDue_of_chal hnd, decide_eq_true hlate]), hjudged, if_pos hlink]
  refine .intro hexec ⟨toTrain_pst, toTrain_sess, ?_, (toTrain_moves hp).events _ (authFailed_evt hp)⟩
  rw [(toTrain_moves hp).other hp, authFailed_count hp]

/-- Second half of clause 1: the QTHR-th hostile event of the round quarantines the port. -/
theorem authTimeout_quarantines (hp : p < 6) {n : BitVec 96} {a : Nat} (hwhole : s.whole) (hst : s.pst p = 4 ∨ s.pst p = 7)
    (hnd : (s.port p).nd = some (n, a)) (hlate : 1250000 ≤ s.rnd.clk - a) (hresp : (s.port p).resp = false)
    (hmany : s.live MOL_QCFG_QTHR p ≤ (s.port p).hostile + 1) : Does (.authTimeout p) s (fun t => t.pst p = 8 ∧ (t.port p).sess = none ∧
      t.fld MOL_STATUS_HEAD_ABSENT p = 1 ∧ t.evtAt MOL_EVENT p 4) := by
  have hjudged : s.authJudged p = (s.authFailed p).quarantine p 1 := by
    rw [authJudged_of_lost hnd hresp, hostileEvent_auth hp (by rwa [ports_of_whole hwhole]), if_pos hmany]
  have hshows := quarantine_shows (s := s.authFailed p) (cause := 1) hp
  have hexec : exec (.authTimeout p) s = .next ((s.authFailed p).quarantine p 1) := by
    rw [exec_authTimeout hp hst (by rw [authDue_of_chal hnd, decide_eq_true hlate]), hjudged, if_neg]
    rw [linkOn_iff, hshows.1]
    omega
  exact .intro hexec hshows

/-- The exchange ends and nothing is counted. -/
theorem authTimeout_trains (hp : p < 6) (hst : s.pst p = 4 ∨ s.pst p = 7) (hdue : s.authDue p = true)
    (hfair : (s.port p).nd = none ∨ (s.port p).resp = true) : Does (.authTimeout p) s (fun t => t.pst p = 1 ∧ (t.port p).sess = none ∧
      t.fld MOL_CNT_HOST_AUTH p = s.fld MOL_CNT_HOST_AUTH p) := by
  have hexec : exec (.authTimeout p) s = .next (s.toTrain p) := by
    rw [exec_authTimeout hp hst hdue, authJudged_of_fair hfair, if_pos (linkOn_of_auth hst)]
  exact .intro hexec ⟨toTrain_pst, toTrain_sess, (toTrain_moves hp).other hp⟩

/-- Clause 4 of `Obligations.PortTimers`. -/
theorem authTimeout_idle (hp : p < 6) (h : s.pst p ≠ 4 ∧ s.pst p ≠ 7 ∨ (∃ n a, (s.port p).nd = some (n, a) ∧ s.rnd.clk - a < 1250000) ∨
      (s.port p).nd = none ∧ (s.pst p = 7 ∨ s.rnd.clk - (s.port p).since < 1250000)) : exec (.authTimeout p) s = .next s := by
  have hdue : ¬ ((s.pst p = 4 ∨ s.pst p = 7) ∧ s.authDue p = true) := by
    rintro ⟨hst, hdue⟩
    obtain h | ⟨n, a, hnd, hearly⟩ | ⟨hnd, hearly⟩ := h
    · omega
    · rw [authDue_of_chal hnd, decide_eq_true_iff] at hdue
      omega
    · rw [authDue_of_none hnd, Bool.and_eq_true, decide_eq_true_iff, decide_eq_true_iff] at hdue
      omega
  exact (if_pos hp).trans (if_neg hdue)
end

/-! ### Messages of a port's own (R107, R118, R122, R131) -/

section
variable {s : State} {p type sub aux : Nat} {f : Port → Port} {payload : List Nat}

/-- The port after a step of its own and the message that follows. -/
theorem port_modPort_molSend (hp : p < s.ports.length) : ((s.modPort p f).molSend p type sub aux payload).port p =
    (f (s.port p)).sent ((s.modPort p f).molFrame p type sub aux payload) sub := by
  rw [molSend_port (by rwa [ports_length_modPort]), port_modPort hp]

/-- A number at the beginning of the payload. -/
theorem molFrame_number {n v : Nat} {more : List Nat} (h : payload = toBytes n v ++ more) :
    ((s.molFrame p type sub aux payload).drop 8).take n = toBytes n v := by
  have hfirst := molFrame_payload (s := s) (p := p) (type := type) (sub := sub) (aux := aux) h
  rwa [length_toBytes] at hfirst

/-! ### ECHO_TX, ECHO_TIMEOUT (R122) -/

/-- An ECHO is due. -/
def State.echoDue (s : State) (p : Nat) : Bool :=
  decide (s.pst p = 5) || (decide (s.pst p = 6 ∨ s.pst p = 7) && decide (s.live MOL_CFG_ECHO_DIV p ≤ (s.port p).echoRnd))

theorem echoDue_iff : s.echoDue p = true ↔ s.pst p = 5 ∨ (s.pst p = 6 ∨ s.pst p = 7) ∧ s.live MOL_CFG_ECHO_DIV p ≤ (s.port p).echoRnd := by
  simp only [State.echoDue, Bool.or_eq_true, Bool.and_eq_true, decide_eq_true_iff]

/-- The port with its next ECHO out since `clk`. -/
def Port.echoed (q : Port) (clk : Nat) : Port := { q with echo := some (q.echoSeq, clk), echoSeq := (q.echoSeq + 1) % 256, echoRnd := 0 }

/-- Clause 5 of `Obligations.PortTimers`. -/
theorem echoTx_sends (hp : p < 6) (hwhole : s.whole) (hnone : (s.port p).echo = none)
    (hdue : s.pst p = 5 ∨ ((s.pst p = 6 ∨ s.pst p = 7) ∧ s.live MOL_CFG_ECHO_DIV p ≤ (s.port p).echoRnd)) :
    Does (.echoTx p) s (fun t => (t.port p).echo = some ((s.port p).echoSeq, s.rnd.clk) ∧ (t.port p).echoSeq = ((s.port p).echoSeq + 1) % 256 ∧
      (t.port p).echoRnd = 0 ∧ (t.port p).lastTx.getD 2 0 % 16 = 2 ∧ (t.port p).lastTx.getD 5 0 = (s.port p).echoSeq % 256 ∧
      ((t.port p).lastTx.drop 8).take 8 = toBytes 8 s.rnd.clk ∧ t.regs = s.regs) := by
  have hexec : exec (.echoTx p) s =
      .next ((s.modPort p (·.echoed s.rnd.clk)).molSend p 2 0 (s.port p).echoSeq (toBytes 8 s.rnd.clk)) :=
    (if_pos hp).trans (if_pos ⟨echoDue_iff.2 hdue, Option.isNone_iff_eq_none.2 hnone⟩)
  refine .intro hexec ?_
  rw [port_modPort_molSend (by rwa [ports_of_whole hwhole])]
  exact ⟨rfl, rfl, rfl, molFrame_type (by decide), molFrame_aux, molFrame_number (List.append_nil _).symm, rfl⟩
/-- Clause 6 of `Obligations.PortTimers`. -/
theorem echoTx_idle (hp : p < 6) (h : (s.port p).echo.isSome = true ∨ s.pst p < 5 ∨ 7 < s.pst p ∨
    s.pst p ≠ 5 ∧ (s.port p).echoRnd < s.live MOL_CFG_ECHO_DIV p) : exec (.echoTx p) s = .next s := by
  have hdue : ¬ (s.echoDue p = true ∧ (s.port p).echo.isNone = true) := by
    rintro ⟨hdue, hnone⟩
    rw [echoDue_iff] at hdue
    rw [Option.isNone_iff_eq_none] at hnone
    simp only [hnone, Option.isSome_none, Bool.false_eq_true, false_or] at h
    omega
  exact (if_pos hp).trans (if_neg hdue)

/-- ECHO_TIMEOUT with a request out since `n`. -/
theorem exec_echoTimeout (hp : p < 6) {q n : Nat} (h : (s.port p).echo = some (q, n)) : exec (.echoTimeout p) s =
    if 16000 ≤ s.rnd.clk - n then .next (s.modPort p (fun q => { q with echo := none })) else .next s := by
  refine (if_pos hp).trans ?_
  rw [h]
/-- Clause 7 of `Obligations.PortTimers`. -/
theorem echoTimeout_forgets (hp : p < 6) {q n : Nat} (hwhole : s.whole) (h : (s.port p).echo = some (q, n)) (hlate : 16000 ≤ s.rnd.clk - n) :
    Does (.echoTimeout p) s (fun t => (t.port p).echo = none ∧ t.regs = s.regs) := by
  refine .intro ((exec_echoTimeout hp h).trans (if_pos hlate)) ⟨?_, rfl⟩
  rw [port_modPort (by rwa [ports_of_whole hwhole])]
/-- Clause 8 of `Obligations.PortTimers`. -/
theorem echoTimeout_idle (hp : p < 6) (h : ∀ q n, (s.port p).echo = some (q, n) → s.rnd.clk - n < 16000) : exec (.echoTimeout p) s = .next s := by
  rcases hecho : (s.port p).echo with _ | ⟨q, n⟩
  · refine (if_pos hp).trans ?_
    rw [hecho]
  · exact (exec_echoTimeout hp hecho).trans (if_neg (Nat.not_le.2 (h q n hecho)))

/-! ### CADENCE_TX (R118) -/

/-- The clock at which a CADENCE that leaves now arrives: FWD is in ns, a tick 4 ns. -/
def State.arrival (s : State) (p : Nat) : Nat := s.rnd.clk + (s.fld MOL_LAT_FWD p + 2) / 4

/-- T0 of the port's sample streams: the first arrival of the session. -/
def State.streamStart (s : State) (p : Nat) : Nat := (s.port p).t0.getD (s.arrival p)

/-- The port with one queued CADENCE fewer and T0 fixed. -/
def Port.cadenced (q : Port) (t0 : Nat) : Port := { q with cadences := q.cadences - 1, t0 := some t0 }

/-- The first CADENCE of a session opens the port's sample streams. -/
def State.cadenced (s : State) (p : Nat) : State :=
  let u := s.modPort p (·.cadenced (s.streamStart p))
  if (s.port p).t0.isNone then u.framerOpen p (s.streamStart p) (s.live MOL_CFG_RATE p) else u

theorem cadenced_only : Only 33554432 (s.modPort p (·.cadenced (s.streamStart p))) (s.cadenced p) := by
  unfold State.cadenced
  simp only [State.framerOpen_only, only_ite, ite_self, Only.refl, Nat.reduceOr]
theorem cadenced_port (hp : p < s.ports.length) : (s.cadenced p).port p = (s.port p).cadenced (s.streamStart p) := by
  have hports : (s.cadenced p).ports = (s.modPort p (·.cadenced (s.streamStart p))).ports := cadenced_only .ports (by decide)
  rw [port_of_ports_eq hports, port_modPort hp]
theorem cadenced_length : (s.cadenced p).ports.length = s.ports.length := by
  have hports : (s.cadenced p).ports = (s.modPort p (·.cadenced (s.streamStart p))).ports := cadenced_only .ports (by decide)
  rw [hports, ports_length_modPort]
theorem cadenced_regs : (s.cadenced p).regs = s.regs := cadenced_only .regs (by decide)

/-- The fields of a CADENCE: the time of its arrival, the position in the port's stream and the phase. -/
def State.cadenceFields (s : State) (p : Nat) : List Nat :=
  let pos := (s.arrival p - s.streamStart p) * 128 * 2 ^ 32 / (2500000 / 2 ^ s.live MOL_CFG_RATE p)
  let ph := s.absPhase + (s.rnd.frac + (s.fld MOL_LAT_FWD p + 2) / 4 * s.freq * 2 ^ 18) / 10 ^ 9
  toBytes 8 (s.arrival p) ++ toBytes 4 (pos / 2 ^ 32) ++ toBytes 4 pos ++ toBytes 4 (ph / 2 ^ 32) ++ toBytes 4 ph

theorem cadenceFields_time : ∃ more, s.cadenceFields p = toBytes 8 (s.arrival p) ++ more := by
  simp only [State.cadenceFields, List.append_assoc]
  exact ⟨_, rfl⟩
theorem exec_cadenceTx (hp : p < 6) (h : s.pst p = 7) (hqueued : 0 < (s.port p).cadences) :
    exec (.cadenceTx p) s = .next ((s.cadenced p).molSend p 1 0 0 (s.cadenceFields p)) := (if_pos hp).trans (if_neg (by omega))
/-- Clause 9 of `Obligations.PortTimers`. -/
theorem cadenceTx_sends (hp : p < 6) (hwhole : s.whole) (h : s.pst p = 7) (hqueued : 0 < (s.port p).cadences) : Does (.cadenceTx p) s (fun t =>
    (t.port p).cadences = (s.port p).cadences - 1 ∧
    (t.port p).t0 = some ((s.port p).t0.getD (s.rnd.clk + (s.fld MOL_LAT_FWD p + 2) / 4)) ∧ (t.port p).lastTx.getD 2 0 % 16 = 1 ∧
    ((t.port p).lastTx.drop 8).take 8 = toBytes 8 (s.rnd.clk + (s.fld MOL_LAT_FWD p + 2) / 4) ∧ t.regs = s.regs) := by
  have hthere : p < s.ports.length := by rwa [ports_of_whole hwhole]
  obtain ⟨more, hfields⟩ := cadenceFields_time (s := s) (p := p)
  refine .intro (exec_cadenceTx hp h hqueued) ?_
  rw [molSend_port (by rwa [cadenced_length]), cadenced_port hthere, molSend_regs, cadenced_regs]
  exact ⟨rfl, rfl, molFrame_type (by decide), molFrame_number hfields, rfl⟩
/-- Clause 10 of `Obligations.PortTimers`. -/
theorem cadenceTx_idle (hp : p < 6) (h : s.pst p ≠ 7 ∨ (s.port p).cadences = 0) : exec (.cadenceTx p) s = .next s := (if_pos hp).trans (if_pos h)
end

/-! ### OUTBOUND_CREDIT_TIMEOUT (R127) -/

/-- A message of port `p` is dropped for want of a credit: counted and reported. -/
def State.dropOut (s : State) (p : Nat) : State := (s.count MOL_CNT_DROP_OUT 1 p).molReport p 7 3
/-- A message that waits since stitch `a` has waited CRED_TMO stitches. -/
def State.waitedOut (s : State) (p a : Nat) : Bool := decide (s.live MOL_TMO_CRED_TMO p ≤ s.absStitch - a)
/-- Segment `g` of the bridge waits for a credit of port `p`, for CRED_TMO stitches. -/
def State.segWaitedOut (s : State) (p : Nat) (g : FSeg) : Bool :=
  decide (g.st = 0 ∨ (g.st = 2 ∧ (s.port p).credits = 0)) && decide (g.port = p) && g.since.any (s.waitedOut p)

section
variable {s : State} {p : Nat}

theorem waitedOut_iff {a : Nat} : s.waitedOut p a = true ↔ s.live MOL_TMO_CRED_TMO p ≤ s.absStitch - a := decide_eq_true_iff

theorem dropOut_count (hp : p < 6) : (s.dropOut p).fld MOL_CNT_DROP_OUT p = s.counted MOL_CNT_DROP_OUT p := by
  rw [State.dropOut, (PortMoves.report (m := []) hp 3 0).other hp, fld_count_same _ _ _ _ (by decide)]
theorem dropOut_evt (hp : p < 6) : (s.dropOut p).evtAt MOL_EVENT p 7 := molReport_evt hp
theorem dropOut_sameRegsBut (hp : p < 6) : sameRegsBut ([MOL_CNT_DROP.at p, MOL_EVENT.at p] ++ reportRegs) s (s.dropOut p) :=
  (setFld_sameRegsBut s MOL_CNT_DROP_OUT _ p List.mem_cons_self).trans ((molReport_sameRegsBut hp).mono (List.subset_cons_self _ _))
theorem dropOut_port : (s.dropOut p).port p = s.port p := port_of_ports_eq (molReport_ports.trans (count_ports _ _ _ _ _)) p
theorem dropOut_fbr : (s.dropOut p).fbr = s.fbr := molReport_fbr.trans (count_fbr _ _ _ _ _)

/-- OUTBOUND_CREDIT_TIMEOUT in UP: a CHAL, a CONF and the segments are asked in turn. -/
theorem exec_outboundCreditTimeout (hp : p < 6) (h : s.pst p = 7) : exec (.outboundCreditTimeout p) s =
    if (s.port p).chalWait.any (s.waitedOut p) then .next ((s.modPort p (fun q => { q with chalWait := none })).dropOut p)
    else if (s.port p).confWait.any (fun c => s.waitedOut p c.2.2.2) then .next ((s.modPort p (fun q => { q with confWait := none })).dropOut p)
    else match s.fbr.segs.find? (s.segWaitedOut p) with
      | none => .next s
      | some g => .next ((s.dropOut p).failSeg g 5) := (if_pos hp).trans (if_neg (not_not_intro h))

/-- Clause 11 of `Obligations.PortTimers`. -/
theorem creditTimeout_dropsChal (hp : p < 6) {a : Nat} (hwhole : s.whole) (h : s.pst p = 7) (hchal : (s.port p).chalWait = some a)
    (hlate : s.live MOL_TMO_CRED_TMO p ≤ s.absStitch - a) :
    Does (.outboundCreditTimeout p) s (fun t => (t.port p).chalWait = none ∧ (t.port p).confWait = (s.port p).confWait ∧
      t.fld MOL_CNT_DROP_OUT p = s.counted MOL_CNT_DROP_OUT p ∧ t.evtAt MOL_EVENT p 7 ∧
      sameRegsBut ([MOL_CNT_DROP.at p, MOL_EVENT.at p] ++ reportRegs) s t) := by
  have hexec := exec_outboundCreditTimeout hp h
  rw [hchal, Option.any_some, if_pos (waitedOut_iff.2 hlate)] at hexec
  refine .intro hexec ?_
  rw [dropOut_port, port_modPort (by rwa [ports_of_whole hwhole])]
  exact ⟨rfl, rfl, dropOut_count hp, dropOut_evt hp, dropOut_sameRegsBut (s := s.modPort p _) hp⟩

/-- Clause 12 of `Obligations.PortTimers`. -/
theorem creditTimeout_dropsConf (hp : p < 6) {k : BitVec 128} {nd : BitVec 96} {nh : List Nat} {a : Nat} (hwhole : s.whole) (h : s.pst p = 7)
    (hchal : (s.port p).chalWait = none) (hconf : (s.port p).confWait = some (k, nd, nh, a))
    (hlate : s.live MOL_TMO_CRED_TMO p ≤ s.absStitch - a) : Does (.outboundCreditTimeout p) s (fun t => (t.port p).confWait = none ∧
      t.fld MOL_CNT_DROP_OUT p = s.counted MOL_CNT_DROP_OUT p ∧ t.evtAt MOL_EVENT p 7 ∧
      sameRegsBut ([MOL_CNT_DROP.at p, MOL_EVENT.at p] ++ reportRegs) s t) := by
  have hexec := exec_outboundCreditTimeout hp h
  rw [hchal, Option.any_none, if_neg Bool.false_ne_true, hconf, Option.any_some, if_pos (waitedOut_iff.2 hlate)] at hexec
  refine .intro hexec ?_
  rw [dropOut_port, port_modPort (by rwa [ports_of_whole hwhole])]
  exact ⟨rfl, dropOut_count hp, dropOut_evt hp, dropOut_sameRegsBut (s := s.modPort p _) hp⟩

/-- Clause 13 of `Obligations.PortTimers`. -/
theorem creditTimeout_dropsSeg (hp : p < 6) {g : FSeg} {l : List FSeg} {a : Nat} (h : s.pst p = 7) (hchal : (s.port p).chalWait = none)
    (hconf : (s.port p).confWait = none) (hsegs : s.fbr.segs = g :: l) (hwaits : g.st = 0 ∨ g.st = 2 ∧ (s.port p).credits = 0) (hport : g.port = p)
    (hsince : g.since = some a) (hlate : s.live MOL_TMO_CRED_TMO p ≤ s.absStitch - a) (hwin : g.win < 16) (hroom : s.fbr.log.length < 32) :
    Does (.outboundCreditTimeout p) s (fun t => t.fbr.segs = l.filter (fun x => decide (x.id ≠ g.id)) ∧
      t.fbr.log.length = s.fbr.log.length + 1 ∧ (∀ e ∈ t.fbr.log.getLast?, nbits e.e0 4 5 = 5) ∧
      t.fld MOL_CNT_DROP_OUT p = s.counted MOL_CNT_DROP_OUT p ∧ t.evtAt MOL_EVENT p 7) := by
  have hout : s.segWaitedOut p g = true := by
    simp only [State.segWaitedOut, hsince, Option.any_some, waitedOut_iff, Bool.and_eq_true, decide_eq_true_iff]
    exact ⟨⟨hwaits, hport⟩, hlate⟩
  have hexec := exec_outboundCreditTimeout hp h
  rw [hchal, Option.any_none, if_neg Bool.false_ne_true, hconf, Option.any_none, if_neg Bool.false_ne_true, hsegs, List.find?_cons_of_pos hout] at hexec
  obtain ⟨e, he, hleft, hlog⟩ := failSeg_logs (s := s.dropOut p) (g := g) (cause := 5) (by rwa [dropOut_fbr]) hwin (by decide)
  rw [dropOut_fbr] at hleft hlog
  have hkept : MolKept (s.dropOut p) ((s.dropOut p).failSeg g 5) := .failSeg _ _ _
  refine .intro hexec ⟨?_, ?_, ?_, ?_, ?_⟩
  · rw [hleft, hsegs, List.filter_cons_of_neg (by simp)]
  · rw [hlog, List.length_append, List.length_singleton]
  · rw [hlog, List.getLast?_concat]
    rintro e' ⟨⟩
    exact he
  · rw [fld_of_reg_eq (hkept _ (Rg.perPort.addr (by decide) hp)), dropOut_count hp]
  · rw [State.evtAt, hkept _ (Rg.perPort.addr (by decide) hp)]
    exact dropOut_evt hp

/-- Clause 14 of `Obligations.PortTimers`. -/
theorem creditTimeout_idle (hp : p < 6) (h : s.pst p ≠ 7 ∨
      (∀ a, (s.port p).chalWait = some a → s.absStitch - a < s.live MOL_TMO_CRED_TMO p) ∧
      (∀ k nd nh a, (s.port p).confWait = some (k, nd, nh, a) → s.absStitch - a < s.live MOL_TMO_CRED_TMO p) ∧
      (∀ g ∈ s.fbr.segs, g.port = p → ∀ a, g.since = some a → s.absStitch - a < s.live MOL_TMO_CRED_TMO p)) :
    exec (.outboundCreditTimeout p) s = .next s := by
  by_cases hst : s.pst p = 7
  case neg => exact (if_pos hp).trans (if_pos hst)
  obtain h | ⟨hchal, hconf, hseg⟩ := h
  · exact absurd hst h
  have hnochal : ¬ (s.port p).chalWait.any (s.waitedOut p) = true := fun hany => by
    obtain ⟨a, ha, hout⟩ := (Option.any_eq_true _ _).1 hany
    exact absurd (waitedOut_iff.1 hout) (Nat.not_le.2 (hchal a ha))
  have hnoconf : ¬ (s.port p).confWait.any (fun c => s.waitedOut p c.2.2.2) = true := fun hany => by
    obtain ⟨⟨k, nd, nh, a⟩, ha, hout⟩ := (Option.any_eq_true _ _).1 hany
    exact absurd (waitedOut_iff.1 hout) (Nat.not_le.2 (hconf k nd nh a ha))
  have hnoseg : s.fbr.segs.find? (s.segWaitedOut p) = none := List.find?_eq_none.2 fun g hg hout => by
    simp only [State.segWaitedOut, Bool.and_eq_true, decide_eq_true_iff] at hout
    obtain ⟨⟨-, hport⟩, hany⟩ := hout
    obtain ⟨a, ha, hlate⟩ := (Option.any_eq_true _ _).1 hany
    exact absurd (waitedOut_iff.1 hlate) (Nat.not_le.2 (hseg g hg hport a ha))
  rw [exec_outboundCreditTimeout hp hst, if_neg hnochal, if_neg hnoconf, hnoseg]

/-! ### MCNT_RENEWAL (R131, R367) -/

/-- What a renewal of the exchange asks for. -/
def State.mayRenew (s : State) (p : Nat) : Prop :=
  s.pst p = 7 ∧ (s.port p).sess.isSome ∧ (s.port p).nd.isNone ∧ (s.port p).chalWait.isNone ∧ s.flag SEC_STATUS_RNGFAIL = false

theorem mayRenew_intro (h : s.pst p = 7) (hsess : (s.port p).sess.isSome = true) (hnd : (s.port p).nd = none) (hchal : (s.port p).chalWait = none)
    (hrng : s.flag SEC_STATUS_RNGFAIL = false) : s.mayRenew p :=
  ⟨h, hsess, Option.isNone_iff_eq_none.2 hnd, Option.isNone_iff_eq_none.2 hchal, hrng⟩
theorem exec_mcntRenewal (hp : p < 6) (h : s.mayRenew p) : exec (.mcntRenewal p) s =
    if 0 < (s.port p).credits then .next ((s.modPort p (fun q => { q with credits := q.credits - 1 })).sendChal p)
    else .next (s.modPort p (fun q => { q with chalWait := some s.absStitch })) := (if_pos hp).trans (if_pos h)

/-- Clause 15 of `Obligations.PortTimers`. -/
theorem mcntRenewal_waits (hp : p < 6) (hwhole : s.whole) (h : s.mayRenew p) (hcredits : (s.port p).credits = 0) :
    Does (.mcntRenewal p) s (fun t => (t.port p).chalWait = some s.absStitch ∧ (t.port p).nd = none ∧ t.regs = s.regs) := by
  have hexec := (exec_mcntRenewal hp h).trans (if_neg (by omega))
  obtain ⟨-, -, hnd, -, -⟩ := h
  refine .intro hexec ?_
  rw [port_modPort (by rwa [ports_of_whole hwhole])]
  exact ⟨rfl, Option.isNone_iff_eq_none.1 hnd, rfl⟩

/-- The nonce ND of the next CHAL. -/
def State.nonce (s : State) : BitVec 96 := BitVec.ofNat 96 (Config.random s.free).toNat
/-- The port with a CHAL out under the nonce `nd`. -/
def Port.challenged (q : Port) (nd : BitVec 96) (clk : Nat) : Port := { q with nd := some (nd, clk), resp := false, chalWait := none }

/-- With the random generator at work a CHAL carries the fresh nonce. -/
theorem sendChal_eq (h : s.flag SEC_STATUS_RNGFAIL = false) :
    s.sendChal p = (s.draw.modPort p (·.challenged s.nonce s.rnd.clk)).molSend p 8 0 0 (toBytes 12 s.nonce.toNat) :=
  if_neg (by rw [h]; exact Bool.false_ne_true)

/-- Clause 16 of `Obligations.PortTimers`. -/
theorem mcntRenewal_challenges (hp : p < 6) (hwhole : s.whole) (h : s.mayRenew p) (hcredits : 0 < (s.port p).credits) :
    Does (.mcntRenewal p) s (fun t =>
      (t.port p).nd = some (BitVec.ofNat 96 (Config.random s.free).toNat, s.rnd.clk) ∧ (t.port p).credits = (s.port p).credits - 1 ∧
      (t.port p).lastTx.getD 2 0 % 16 = 8 ∧
      ((t.port p).lastTx.drop 8).take 12 = toBytes 12 (BitVec.ofNat 96 (Config.random s.free).toNat).toNat ∧
      t.free = s.free + 1 ∧ t.regs = s.regs) := by
  have hexec := (exec_mcntRenewal hp h).trans (if_pos hcredits)
  obtain ⟨-, -, -, -, hrng⟩ := h
  rw [sendChal_eq (s := s.modPort p _) hrng] at hexec
  have hthere : p < s.ports.length := by rwa [ports_of_whole hwhole]
  refine .intro hexec ?_
  rw [port_modPort_molSend (s := (s.modPort p _).draw) (by rwa [State.draw, ports_length_modPort])]
  have hport : ((s.modPort p (fun q => { q with credits := q.credits - 1 })).draw).port p =
      { s.port p with credits := (s.port p).credits - 1 } := port_modPort hthere
  rw [hport]
  exact ⟨rfl, rfl, molFrame_type (by decide), molFrame_number (List.append_nil _).symm, rfl, rfl⟩

/-- Clause 17 of `Obligations.PortTimers`. -/
theorem mcntRenewal_idle (hp : p < 6) (h : s.pst p ≠ 7 ∨ (s.port p).sess = none ∨ (s.port p).nd.isSome = true ∨
    (s.port p).chalWait.isSome = true ∨ s.flag SEC_STATUS_RNGFAIL = true) : exec (.mcntRenewal p) s = .next s := by
  have hnot : ¬ s.mayRenew p := by
    rintro ⟨hst, hsess, hnd, hchal, hrng⟩
    obtain h | h | h | h | h := h
    · exact h hst
    · simp [h] at hsess
    · simp [Option.isNone_iff_eq_none.1 hnd] at h
    · simp [Option.isNone_iff_eq_none.1 hchal] at h
    · simp [h] at hrng
  exact (if_pos hp).trans (if_neg hnot)
end

/-- Settles O13: each timer and each message of a port's own, where it is due and where it is not. -/
theorem portTimers : Obligations.PortTimers := by
  unfold Obligations.PortTimers
  refine ⟨?_, ?_, ?_, ?_, ?_, ?_, ?_, ?_, ?_, ?_, ?_, ?_, ?_, ?_, ?_, ?_, ?_⟩
  · exact fun s p hp n a hwhole hst hnd hlate hresp => ⟨fun hfew => authTimeout_fails hp hwhole hst hnd hlate hresp hfew,
      fun hmany => authTimeout_quarantines hp hwhole hst hnd hlate hresp hmany⟩
  · intro s p hp _ hst hnd hlate
    exact authTimeout_trains hp (.inl hst) (by rw [authDue_of_none hnd, decide_eq_true hst, decide_eq_true hlate, Bool.and_self]) (.inl hnd)
  · intro s p hp n a _ hst hnd hlate hresp
    exact authTimeout_trains hp hst (by rw [authDue_of_chal hnd, decide_eq_true hlate]) (.inr hresp)
  · exact fun s p hp h => authTimeout_idle hp h
  · exact fun s p hp hwhole hnone hdue => echoTx_sends hp hwhole hnone hdue
  · exact fun s p hp h => echoTx_idle hp h
  · exact fun s p hp q n hwhole h hlate => echoTimeout_forgets hp hwhole h hlate
  · exact fun s p hp h => echoTimeout_idle hp h
  · exact fun s p hp hwhole h hqueued => cadenceTx_sends hp hwhole h hqueued
  · exact fun s p hp h => cadenceTx_idle hp h
  · exact fun s p hp a hwhole h hchal hlate => creditTimeout_dropsChal hp hwhole h hchal hlate
  · exact fun s p hp k nd nh a hwhole h hchal hconf hlate => creditTimeout_dropsConf hp hwhole h hchal hconf hlate
  · exact fun s p hp g l a h hchal hconf hsegs hwaits hport hsince hlate hwin _ hroom =>
      creditTimeout_dropsSeg hp h hchal hconf hsegs hwaits hport hsince hlate hwin hroom
  · exact fun s p hp h => creditTimeout_idle hp h
  · exact fun s p hp hwhole h hsess hnd hchal hrng hcredits => mcntRenewal_waits hp hwhole (mayRenew_intro h hsess hnd hchal hrng) hcredits
  · exact fun s p hp hwhole h hsess hnd hchal hcredits hrng => mcntRenewal_challenges hp hwhole (mayRenew_intro h hsess hnd hchal hrng) hcredits
  · exact fun s p hp h => mcntRenewal_idle hp h

end Sys2Proof.Machine
end

section
/-! Proofs/PortMessages.lean: why `Obligations.PortMessages` (O14) fails. Its thirteenth clause speaks of a REGACK that comes after ACKTMO: it says that the
segment named by its tag is dropped and the answer counted as late, and does not ask that this segment be the only one with that tag at the port. Once the
late segment has failed, the answer goes to the next segment with the tag (R378). -/

namespace Sys2Proof.Machine
open Sys2Proof Sys2Proof.Machine.Reg

set_option Elab.async false

/-- A write of route traffic that is out at port 5 with tag 7 since tick `sent`. -/
def outAt5 (id sent : Nat) : FSeg :=
  { id := id, win := 1, wseq := 0, read := false, route := false, hid := 0x101, addr := 0, data := [1], len := 1, st := 1, port := 5, tag := 7,
    sent := sent }

/-- Port 5 is UP with identifiers from 0x100, a route matches 0x101, and two segments are out under the one tag: the first since tick 0, which is ACKTMO
ago, the second since now. -/
def sharedTag : State :=
  let s := State.reset.setFld MOL_STATUS_STATE 7 5
  let s := s.setReg (FBR_RTKEY.at 0) (BitVec.ofNat 32 (2 ^ 31 + 5 * 2 ^ 16 + 0x101))
  let s := (s.modPort 5 (fun q => { q with base := 0x100 })).modRnd (fun r => { r with clk := 250000 })
  s.modFbr (fun b => { b with segs := [outAt5 0 0, outAt5 1 250000] })

/-- The REGACK of tag 7 with status 0 and one credit (R126), as it arrives: header, payload, CRC. -/
def regackFrame : List Nat :=
  let m := toBytes 2 0x101 ++ [5, 0, 4, 7, 0, 0] ++ [0, 1, 0, 0]
  m ++ toBytes 4 (crc32c m)

/-- The message that the frame holds. -/
def regackMsg : Msg := { sub := 1, type := 5, aux := 7, hdr := toBytes 2 0x101 ++ [5, 0, 4, 7, 0, 0], pay := [0, 1, 0, 0] }

/-- The state once the frame has passed its checks. -/
def sharedTagReceived : State := (sharedTag.molReceive 5 regackFrame false).1

theorem sharedTag_receives : sharedTag.molReceive 5 regackFrame false = (sharedTagReceived, some regackMsg) := by decide +kernel
theorem sharedTagReceived_meets : let u := sharedTagReceived
    sharedTag.whole ∧ u.pst 5 = 7 ∧ u.tagged 5 regackMsg.aux = some (outAt5 0 0) ∧ u.ackTmo ≤ u.rnd.clk - (outAt5 0 0).sent ∧
      u.fbr.segs = [outAt5 0 0, outAt5 1 250000] := by decide +kernel

/-- The segments in the state that a command answers. -/
def segsAfter (o : Out) : Option (List FSeg) :=
  match o with
  | .next t => some t.fbr.segs
  | _ => none

/-- The REGACK finds the first segment late and ends it, and then ends the second, to which the tag has passed. -/
theorem sharedTag_regack_ends_both : segsAfter (exec (.regackRx 5 regackFrame) sharedTag) = some [] := by decide +kernel

/-- Refutes O14 by its thirteenth clause: in `sharedTag` a REGACK comes ACKTMO after the first of two segments that are out under one tag. The clause says
that the second stays; the REGACK ends it too. The clause lacks the hypothesis that no other segment is out at the port with that tag. The state is a
counterexample because the clause speaks of every state; nothing here says that a run from reset comes to it (`freeTag` gives a segment that leaves a
tag that is not out). -/
theorem not_portMessages : ¬ Obligations.PortMessages := by
  unfold Obligations.PortMessages
  rintro ⟨-, -, -, -, -, -, -, -, -, -, -, -, lateRegack, -⟩
  obtain ⟨hwhole, hup, htag, hlate, hsegs⟩ := sharedTagReceived_meets
  obtain ⟨t, hexec, hleft, -⟩ := lateRegack sharedTag sharedTagReceived 5 (by decide) regackFrame regackMsg (outAt5 0 0) hwhole sharedTag_receives
    rfl hup rfl htag rfl hlate
  have hgone : some t.fbr.segs = some [] := by
    rw [← sharedTag_regack_ends_both, hexec]
    rfl
  rw [hleft, hsegs] at hgone
  exact absurd hgone (by decide)

end Sys2Proof.Machine
end

section
/-! Proofs/FramerWindows.lean: the windows of the Framer. What may happen while points are made, triggers are evaluated and a marker is moved leaves the
dates, the cut and the list of every window as they are; so the end of a window fixes that one window and opens the next (R145). -/

namespace Sys2Proof.Machine
open Sys2Proof Sys2Proof.Machine.Reg

-- As in the files of Laws/: proofs elaborated side by side take the joined text past its memory limit.
set_option Elab.async false

/-! ### What dates and cuts a window -/

/-- The registers by which a window is dated and cut: RND_COUNT and RND_PHASE, and WFM_CFG and WFM_CHCFG as they are in force (R39, R145, R158). -/
abbrev windowReg (a : Nat) : Prop := 0x20030 ≤ a ∧ a ≤ 0x20038 ∨ 0x50800 ≤ a ∧ a < 0x50C00

theorem not_windowReg_of_high {r : Rg} (i j : Nat) (h : 0x50C00 ≤ r.base) : ¬ windowReg (r.at i j) := by
  have hat : r.base ≤ r.at i j := by
    rw [Rg.at, Nat.add_assoc]
    exact Nat.le_add_right _ _
  omega

/-- Windows are dated and cut in `t` as they are in `s`. -/
structure DatesKept (s t : State) : Prop where
  regs : ∀ a, windowReg a → t.reg a = s.reg a
  wraps : t.rnd.wraps = s.rnd.wraps
  old : t.wfm.old = s.wfm.old

namespace DatesKept
variable {s t u : State}

theorem trans (h : DatesKept s t) (g : DatesKept t u) : DatesKept s u where
  regs a ha := (g.regs a ha).trans (h.regs a ha)
  wraps := g.wraps.trans h.wraps
  old := g.old.trans h.old

theorem absStitch (h : DatesKept s t) : t.absStitch = s.absStitch := by
  have hlo : t.regN RND_COUNT_LO = s.regN RND_COUNT_LO := congrArg BitVec.toNat (h.regs _ (by decide))
  have hhi : t.fld RND_COUNT_HI_COUNT = s.fld RND_COUNT_HI_COUNT := fld_of_reg_eq (h.regs _ (by decide))
  have hphase : t.phase = s.phase := congrArg BitVec.toNat (h.regs _ (by decide))
  simp only [State.absStitch, State.roundNo, State.count48, State.stitch, hlo, hhi, hphase, h.wraps]

/-- What is in force for the windows that begin at a stitch. -/
theorem wfld (h : DatesKept s t) {f : Fld} {i : Nat} (hf : windowReg (f.rg.at i + 0x800)) (a : Nat) : t.wfld a f i = s.wfld a f i := by
  simp only [State.wfld, State.wregAt, h.old, h.regs _ hf]
theorem lag (h : DatesKept s t) (a : Nat) : t.wfld a WFM_CFG_LAG = s.wfld a WFM_CFG_LAG := h.wfld (by decide) a
theorem chcfg (h : DatesKept s t) {f : Fld} (hf : f.rg = WFM_CHCFG := by rfl) {c : Nat} (hc : c < 48) (a : Nat) : t.wfld a f c = s.wfld a f c :=
  h.wfld (by rw [hf, Rg.at]; simp only [WFM_CHCFG]; omega) a
theorem winLen (h : DatesKept s t) {c : Nat} (hc : c < 48) (a : Nat) : t.winLen a c = s.winLen a c := by
  rw [State.winLen, h.chcfg rfl hc, State.winLen]
end DatesKept

/-! ### What leaves the windows as they are -/

/-- Besides its date and cut, every slot has the same open window and the same list of fixed ones. -/
structure WindowsKept (s t : State) : Prop extends DatesKept s t where
  win : ∀ d, (t.fslot d).win = (s.fslot d).win
  wins : ∀ d, (t.fslot d).wins = (s.fslot d).wins
  number : t.wfm.slots.length = s.wfm.slots.length

theorem fslot_of_slots_eq {s t : State} (h : t.wfm.slots = s.wfm.slots) (d : Nat) : t.fslot d = s.fslot d := by rw [State.fslot, h, State.fslot]

theorem fslot_modFslot {s : State} {c : Nat} (h : c < s.wfm.slots.length) (f : FSlot → FSlot) : (s.modFslot c f).fslot c = f (s.fslot c) := by
  simp [State.fslot, State.modFslot, State.modWfm, List.getD_eq_getElem?_getD, h]
theorem fslot_modFslot_ne {s : State} {c d : Nat} (h : d ≠ c) (f : FSlot → FSlot) : (s.modFslot c f).fslot d = s.fslot d := by
  simp [State.fslot, State.modFslot, State.modWfm, List.getD_eq_getElem?_getD, h.symm]
/-- What `f` leaves of a slot reads the same, whether the slot is there or not. -/
theorem fslot_modFslot_leaves {α : Type} {f : FSlot → FSlot} (g : FSlot → α) (h : ∀ x, g (f x) = g x) (s : State) (c d : Nat) :
    g ((s.modFslot c f).fslot d) = g (s.fslot d) := by
  by_cases hd : d = c
  · subst hd
    by_cases hthere : d < s.wfm.slots.length
    · rw [fslot_modFslot hthere, h]
    · simp [State.fslot, State.modFslot, State.modWfm, List.getD_eq_getElem?_getD, hthere]
  · rw [fslot_modFslot_ne hd]

namespace WindowsKept
variable {s t u : State}

theorem refl (s : State) : WindowsKept s s := ⟨⟨fun _ _ => rfl, rfl, rfl⟩, fun _ => rfl, fun _ => rfl, rfl⟩
theorem trans (h : WindowsKept s t) (g : WindowsKept t u) : WindowsKept s u where
  toDatesKept := h.toDatesKept.trans g.toDatesKept
  win d := (g.win d).trans (h.win d)
  wins d := (g.wins d).trans (h.wins d)
  number := g.number.trans h.number
theorem ite {c : Prop} [Decidable c] (h : WindowsKept s t) (g : WindowsKept s u) : WindowsKept s (if c then t else u) := by
  split
  · exact h
  · exact g
/-- A step that may be taken or not. -/
theorem may {c : Prop} [Decidable c] (h : WindowsKept s t) (g : WindowsKept t u) : WindowsKept s (if c then u else t) := .ite (h.trans g) h
theorem foldl {α : Type} {f : State → α → State} (h : ∀ u x, WindowsKept u (f u x)) (l : List α) (s : State) :
    WindowsKept s (l.foldl f s) := by
  induction l generalizing s with
  | nil => exact refl s
  | cons x rest ih => exact (h s x).trans (ih (f s x))

/-- The pieces that hold windows and rounds are not touched, and the registers that date and cut windows are not written. -/
theorem of_regs (hregs : ∀ a, windowReg a → t.reg a = s.reg a) (hrnd : t.rnd = s.rnd := by rfl) (hwfm : t.wfm = s.wfm := by rfl) :
    WindowsKept s t where
  regs := hregs
  wraps := congrArg Rnd.wraps hrnd
  old := congrArg Wfm.old hwfm
  win d := congrArg FSlot.win (fslot_of_slots_eq (congrArg Wfm.slots hwfm) d)
  wins d := congrArg FSlot.wins (fslot_of_slots_eq (congrArg Wfm.slots hwfm) d)
  number := congrArg (·.slots.length) hwfm
theorem of_only {m : Nat} (h : Only m s t) (hregs : ∀ a, windowReg a → t.reg a = s.reg a)
    (hm : m.testBit Piece.rnd.bit = false ∧ m.testBit Piece.wfm.bit = false := by decide) : WindowsKept s t :=
  of_regs hregs (h .rnd hm.1) (h .wfm hm.2)

theorem setReg {a : Nat} (v : Word) (h : ¬ windowReg a) : WindowsKept s (s.setReg a v) := of_regs fun _ hb => reg_setReg_ne fun he => h (he ▸ hb)
/-- A register of the Framer that no COMMIT sets is written. -/
theorem setRegN_high {r : Rg} (v i : Nat) (h : 0x50C00 ≤ r.base := by decide) : WindowsKept s (s.setRegN r v i) :=
  setReg _ (not_windowReg_of_high i 0 h)
theorem setFld_high {f : Fld} (v i : Nat) (h : 0x50C00 ≤ f.rg.base := by decide) : WindowsKept s (s.setFld f v i) :=
  setReg _ (not_windowReg_of_high i 0 h)

theorem modWfm {f : Wfm → Wfm} (hold : ∀ x, (f x).old = x.old := by exact fun _ => rfl)
    (hslots : ∀ x, (f x).slots = x.slots := by exact fun _ => rfl) : WindowsKept s (s.modWfm f) where
  regs _ _ := rfl
  wraps := rfl
  old := hold s.wfm
  win d := congrArg FSlot.win (fslot_of_slots_eq (hslots s.wfm) d)
  wins d := congrArg FSlot.wins (fslot_of_slots_eq (hslots s.wfm) d)
  number := congrArg List.length (hslots s.wfm)
theorem modFslot (s : State) (c : Nat) {f : FSlot → FSlot} (hwin : ∀ x, (f x).win = x.win := by exact fun _ => rfl)
    (hwins : ∀ x, (f x).wins = x.wins := by exact fun _ => rfl) : WindowsKept s (s.modFslot c f) where
  regs _ _ := rfl
  wraps := rfl
  old := rfl
  win d := fslot_modFslot_leaves FSlot.win hwin s c d
  wins d := fslot_modFslot_leaves FSlot.wins hwins s c d
  number := by simp [State.modFslot, State.modWfm]
theorem modTrg (s : State) (t : Nat) (f : Trg → Trg) : WindowsKept s (s.modTrg t f) := modWfm
theorem modMesh (s : State) (f : Mesh → Mesh) : WindowsKept s (s.modMesh f) := of_regs fun _ _ => rfl

theorem event (s : State) {ev en b v : Nat} (hv : v < 64 := by decide) (hev : ¬ windowReg ev := by decide) : WindowsKept s (s.event ev en b v) :=
  of_only ((State.event_only s ev en b v s (m' := 4609)).2 (.refl _ s)) fun _ ha =>
    event_reg hv ((quiet_def _).2 (by omega)) fun he => hev (he ▸ ha)
theorem intake (s : State) (r : JRec) : WindowsKept s (s.intake r) :=
  of_only ((State.intake_only s r s (m' := 8458753)).2 (.refl _ s)) fun _ ha => intake_reg ((quiet_def _).2 (by omega))
theorem report (s : State) {ev en b v code src sev data : Nat} (hv : v < 64 := by decide) (hev : ¬ windowReg ev := by decide) :
    WindowsKept s (s.report ev en b v code src sev data) := (event s hv hev).trans (intake _ _)
end WindowsKept

/-! ### A marker moves (R150, R226, R227) -/

/-- The registers of the 256 markers lie below those of the Framer. -/
theorem mrk_not_windowReg {r : Rg} {k : Nat} (hk : k < 256) (h : r = MRK_VAL ∨ r = MRK_STAT) : ¬ windowReg (r.at k) := by
  obtain rfl | rfl := h <;> simp only [Rg.at, MRK_VAL, MRK_STAT] <;> omega

section
variable {s : State} {k : Nat} (hk : k < 256)
include hk

theorem setMval_windowsKept (v : Nat) : WindowsKept s (s.setMval k v) := .setReg _ (mrk_not_windowReg hk (.inl rfl))
theorem setMrkStat_windowsKept {f : Fld} (v : Nat) (hf : f.rg = MRK_STAT := by rfl) : WindowsKept s (s.setFld f v k) :=
  .setReg _ (by rw [hf]; exact mrk_not_windowReg hk (.inr rfl))
theorem addMval_windowsKept (n : Nat) : WindowsKept s (s.addMval k n) :=
  .may (setMval_windowsKept hk _) ((setMrkStat_windowsKept hk 1).trans (.report _))
theorem setOwner_windowsKept (o : Nat) : WindowsKept s (s.setOwner k o) := by
  have hshown (halted : Nat) : WindowsKept s ((s.setFld MRK_STAT_OWNER o k).setFld MRK_STAT_HFRZ halted k) :=
    (setMrkStat_windowsKept hk _).trans (setMrkStat_windowsKept hk _)
  exact (hshown _).trans (.of_regs fun _ _ => rfl)
omit hk in
theorem answer_windowsKept (s : State) (n t st v o : Nat) : WindowsKept s (s.answer n t st v o) := .of_regs fun _ _ => rfl

theorem tryWaiting_windowsKept {t : State} {op arg node : Nat} (h : s.tryWaiting k op arg node = some t) : WindowsKept s t := by
  unfold State.tryWaiting at h
  split at h
  · split at h
    · exact Option.some.inj h ▸ setMval_windowsKept hk _
    · cases h
  · split at h
    · split at h
      · exact Option.some.inj h ▸ .refl s
      · cases h
    · split at h
      · exact Option.some.inj h ▸ setOwner_windowsKept hk node
      · cases h

theorem visitAll_windowsKept (l : List Waiter) (blocked : Bool) : WindowsKept s (State.visitAll k l blocked s) := by
  induction l generalizing blocked s with
  | nil => exact .refl s
  | cons w rest ih =>
    unfold State.visitAll
    split
    · exact ih blocked
    · split
      next t hdone => exact (((tryWaiting_windowsKept hk hdone).trans (.modMesh _ _)).trans (answer_windowsKept _ _ _ _ _ _)).trans (ih blocked)
      next => exact ih _
theorem visit_windowsKept : WindowsKept s (s.visit k) := (visitAll_windowsKept hk _ _).trans (setMrkStat_windowsKept hk _)

theorem landAdd_windowsKept (node n : Nat) : WindowsKept s (s.landMark node k 2 n) := by
  unfold State.landMark
  exact .ite (.refl s) ((addMval_windowsKept hk n).trans (visit_windowsKept hk))
theorem blockAdd_windowsKept (src n : Nat) : WindowsKept s (s.blockAdd src k n) :=
  .ite (.refl s) (.ite (.of_regs fun _ _ => rfl) (landAdd_windowsKept hk src n))
end

/-! ### Points and triggers (R143, R151 to R154) -/

theorem wfmReport_windowsKept (s : State) (b sev : Nat) : WindowsKept s (s.wfmReport b sev) := .report s

theorem checkFrozen_windowsKept (s : State) (k : Nat) : WindowsKept s (s.checkFrozen k) := by
  unfold State.checkFrozen
  split
  · exact .may (.refl s) ((WindowsKept.setFld_high _ _).trans (wfmReport_windowsKept _ _ _))
  · exact .refl s

theorem capture_windowsKept (s : State) (k rt : Nat) : WindowsKept s (s.capture k rt) := by
  have hasked : WindowsKept s (((s.setFld WFM_RGSTAT_STATE 2 k).setFld WFM_RGSTAT_NTRG 0 k).setTrnd k rt) :=
    ((WindowsKept.setFld_high _ _).trans (.setFld_high _ _)).trans ((WindowsKept.setRegN_high _ _).trans (.setFld_high _ _))
  have hmissed : WindowsKept s (s.count WFM_CNT_RING_MISSED) := .setReg _ (by decide)
  unfold State.capture
  split
  · exact hasked.trans (checkFrozen_windowsKept _ _)
  · exact .setFld_high _ _
  · exact hmissed.trans (wfmReport_windowsKept _ _ _)
  · exact .refl s

theorem fire_windowsKept (s : State) (t c a m : Nat) : WindowsKept s (s.fire t c a m) := by
  unfold State.fire
  extract_lets i stamp w selv sev counted shown recorded listed entry queued captured
  have hcounted : WindowsKept s counted := .trans (.setFld_high _ _) (.setFld_high _ _)
  have hshown : WindowsKept counted shown := .event _
  have hrecorded : WindowsKept shown recorded := .intake _ _
  have hlisted : WindowsKept recorded listed := .modWfm
  have hqueued : WindowsKept listed queued := .ite (.trans .modWfm (.setReg _ (by decide))) (wfmReport_windowsKept _ _ _)
  have hcaptured : WindowsKept queued captured := .foldl (fun u k => capture_windowsKept u k _) _ _
  have hmarker : captured.wfld a WFM_TRGMRK_MRK t < 256 := bits_lt _ _ _
  exact .may (((((hcounted.trans hshown).trans hrecorded).trans hlisted).trans hqueued).trans hcaptured) (blockAdd_windowsKept hmarker _ _)

theorem trgPair_windowsKept (s : State) (t : Nat) : WindowsKept s (s.trgPair t) :=
  .ite (.modTrg _ _ _) ((WindowsKept.setFld_high _ _).trans (wfmReport_windowsKept _ _ _))

theorem measure_windowsKept (s : State) (t c a : Nat) : WindowsKept s (s.measure t c a).1 := by
  have hfloor (u : State) (v : Nat) : WindowsKept u (u.setRegN WFM_TRGFLOOR v t) := .setRegN_high _ _
  unfold State.measure
  dsimp only
  split
  · split
    · exact .refl s
    · -- ENV: the floor starts at the first measure, and moves unless the unit has fired.
      exact .ite (.ite (.refl s) ((WindowsKept.modTrg _ _ _).trans (hfloor _ _)))
        (.trans (.ite (.refl s) ((WindowsKept.modTrg _ _ _).trans (hfloor _ _))) (hfloor _ _))
  · split <;> exact .refl s
  · split
    · exact .refl s
    · split <;> exact .refl s

theorem evalTrg_windowsKept (s : State) (t c a : Nat) : WindowsKept s (s.evalTrg t c a) := by
  unfold State.evalTrg
  split
  · exact .refl s
  · have hmeasured := measure_windowsKept s t c a
    generalize s.measure t c a = r at hmeasured
    obtain ⟨u, evaluates, measure⟩ := r
    cases evaluates with
    | false => exact hmeasured
    | true =>
      cases measure with
      | none => exact hmeasured.trans (.modTrg _ _ _)
      | some m =>
        have hshown : WindowsKept s ((u.setRegN WFM_TRGMEAS m t).trgPair t) :=
          (hmeasured.trans (.setRegN_high _ _)).trans (trgPair_windowsKept _ _)
        -- A unit that has fired counts points towards its clear; another fires, counts on, or begins anew (R152).
        exact hshown.trans (.ite (.ite ((WindowsKept.modTrg _ _ _).trans (.setFld_high _ _)) (.modTrg _ _ _))
          (.ite (.ite ((WindowsKept.modTrg _ _ _).trans (fire_windowsKept _ _ _ _ _)) (.modTrg _ _ _)) (.modTrg _ _ _)))

theorem runSlot_windowsKept (s : State) (c upTo : Nat) (fin : Bool) (n : Nat) : WindowsKept s (s.runSlot c upTo fin n) := by
  induction n generalizing s with
  | zero => exact .refl s
  | succ n ih =>
    unfold State.runSlot
    split
    · exact .refl s
    · refine .ite (.refl s) (.ite (.ite (.modFslot s c) ((WindowsKept.modFslot s c).trans (ih _))) ?_)
      split
      · exact .refl s
      · have hdrawn : WindowsKept s s.draw := .of_regs fun _ _ => rfl
        exact ((hdrawn.trans (.modFslot _ c)).trans (.foldl (fun u t => evalTrg_windowsKept u t _ _) _ _)).trans (ih _)

/-! ### The end of a window (R145) -/

/-- Window `x` is fixed for slot `f`, and the next one begins at stitch `next`. -/
def FSlot.fixed (f : FSlot) (x : FWin) (next : Nat) : FSlot := { f with wins := (x :: f.wins).take 8, win := some next }

/-- The end of a window: points are made, then the window is fixed, then CHSTAT shows it and a late one is reported. -/
theorem finalizeWin_fixes (s : State) {c : Nat} (hc : c < 48) (w : Nat) : ∃ u x, WindowsKept s u ∧ x.start = w ∧ x.len = s.winLen w c ∧
    x.fin = s.absStitch ∧ WindowsKept (u.modFslot c (·.fixed x (w + s.winLen w c))) (s.finalizeWin c w) := by
  have hchstat (v : Nat) {f : Fld} (u : State) (hf : f.rg = WFM_CHSTAT) : WindowsKept u (u.setFld f v c) :=
    .setReg _ (by rw [hf, Rg.at]; simp only [WFM_CHSTAT]; omega)
  have hmade := runSlot_windowsKept s c (w + s.winLen w c - 1) true 4096
  unfold State.finalizeWin
  extract_lets len made slot points fmt late flags i x fixed shown
  have hshown : WindowsKept fixed shown := (hchstat _ _ rfl).trans (hchstat _ _ rfl)
  exact ⟨made, x, hmade, rfl, rfl, hmade.absStitch, .may hshown (wfmReport_windowsKept _ _ _)⟩

theorem finalizeWin_dates (s : State) {c : Nat} (hc : c < 48) (w : Nat) : DatesKept s (s.finalizeWin c w) := by
  obtain ⟨u, x, hmade, -, -, -, hshown⟩ := finalizeWin_fixes s hc w
  have hfixed : DatesKept u (u.modFslot c (·.fixed x (w + s.winLen w c))) := ⟨fun _ _ => rfl, rfl, rfl⟩
  exact (hmade.toDatesKept.trans hfixed).trans hshown.toDatesKept
/-- The slot whose window ends: it has one more fixed window, and the next one is open. -/
theorem finalizeWin_slot {s : State} {c : Nat} (hc : c < 48) (hthere : c < s.wfm.slots.length) (w : Nat) :
    ((s.finalizeWin c w).fslot c).win = some (w + s.winLen w c) ∧ ∃ x, ((s.finalizeWin c w).fslot c).wins = (x :: (s.fslot c).wins).take 8 ∧
      x.start = w ∧ x.len = s.winLen w c ∧ x.fin = s.absStitch := by
  obtain ⟨u, x, hmade, hstart, hlen, hfin, hshown⟩ := finalizeWin_fixes s hc w
  have hslot := fslot_modFslot (s := u) (hmade.number.symm ▸ hthere) (·.fixed x (w + s.winLen w c))
  refine ⟨by rw [hshown.win, hslot, FSlot.fixed], x, ?_, hstart, hlen, hfin⟩
  rw [hshown.wins, hslot, FSlot.fixed, hmade.wins]
theorem finalizeWin_win_ne (s : State) {c d : Nat} (hc : c < 48) (hd : d ≠ c) (w : Nat) : ((s.finalizeWin c w).fslot d).win = (s.fslot d).win := by
  obtain ⟨u, x, hmade, -, -, -, hshown⟩ := finalizeWin_fixes s hc w
  rw [hshown.win, fslot_modFslot_ne hd, hmade.win]

/-! ### Windows that are due -/

/-- The window of slot `c` that begins at `w` is enabled and its LAG has not passed. -/
def State.windowWaits (s : State) (c w : Nat) : Prop := s.wfld w WFM_CHCFG_EN c = 1 ∧ s.absStitch < w + s.winLen w c + s.wfld w WFM_CFG_LAG

section
variable {s : State} {c w : Nat}

theorem finalizeSlot_of_none (h : (s.fslot c).win = none) (n : Nat) : s.finalizeSlot c n = s := by
  cases n with
  | zero => rfl
  | succ n => rw [State.finalizeSlot, h]
theorem finalizeSlot_of_waits (hwin : (s.fslot c).win = some w) (hwaits : s.windowWaits c w) (n : Nat) : s.finalizeSlot c n = s := by
  obtain ⟨hen, hearly⟩ := hwaits
  cases n with
  | zero => rfl
  | succ n => simp only [State.finalizeSlot, hwin, hen, one_ne_zero, if_false, if_neg (Nat.not_le.2 hearly)]
theorem finalizeSlot_of_due (hwin : (s.fslot c).win = some w) (hen : s.wfld w WFM_CHCFG_EN c = 1)
    (hdue : w + s.winLen w c + s.wfld w WFM_CFG_LAG ≤ s.absStitch) (n : Nat) : s.finalizeSlot c (n + 1) = (s.finalizeWin c w).finalizeSlot c n := by
  simp only [State.finalizeSlot, hwin, hen, one_ne_zero, if_false, if_pos hdue]
end

/-- Steps that each leave `s` as it is do so together. -/
theorem foldl_of_fixed {α β : Type} {f : β → α → β} {l : List α} {s : β} (h : ∀ x ∈ l, f s x = s) : l.foldl f s = s := by
  induction l with
  | nil => rfl
  | cons x rest ih => rw [List.foldl_cons, h x List.mem_cons_self, ih fun y hy => h y (List.mem_cons_of_mem _ hy)]

/-- Every slot's windows that are due are fixed, slot by slot (R146 step 3). -/
def State.finalizeSlots (s : State) : State := (List.range 48).foldl (fun s c => s.finalizeSlot c 8) s

/-- With one window open, which is not due yet, nothing is fixed. -/
theorem finalizeSlots_of_waits {s : State} {c w : Nat} (hothers : ∀ d, d ≠ c → (s.fslot d).win = none) (hwin : (s.fslot c).win = some w)
    (hwaits : s.windowWaits c w) : s.finalizeSlots = s := by
  refine foldl_of_fixed fun d _ => ?_
  by_cases hd : d = c
  · exact hd ▸ finalizeSlot_of_waits hwin hwaits 8
  · exact finalizeSlot_of_none (hothers d hd) 8

/-- With one window open, which is due and the next one not, that window is fixed. -/
theorem finalizeSlots_of_due {s : State} {c w : Nat} (hc : c < 48) (hthere : c < s.wfm.slots.length)
    (hothers : ∀ d, d ≠ c → (s.fslot d).win = none) (hwin : (s.fslot c).win = some w) (hen : s.wfld w WFM_CHCFG_EN c = 1)
    (hdue : w + s.winLen w c + s.wfld w WFM_CFG_LAG ≤ s.absStitch) (hnext : s.windowWaits c (w + s.winLen w c)) :
    s.finalizeSlots = s.finalizeWin c w := by
  have hdates := finalizeWin_dates s hc w
  have hopen := (finalizeWin_slot hc hthere w).1
  have hwaits : (s.finalizeWin c w).windowWaits c (w + s.winLen w c) := by
    rw [State.windowWaits, hdates.chcfg rfl hc, hdates.winLen hc, hdates.lag, hdates.absStitch]
    exact hnext
  have hothers' (d : Nat) (hd : d ≠ c) : ((s.finalizeWin c w).fslot d).win = none := (finalizeWin_win_ne s hc hd w).trans (hothers d hd)
  obtain ⟨before, after, hslots, hbefore⟩ := List.eq_append_cons_of_mem (List.mem_range.2 hc)
  have hfirst : before.foldl (fun s c => s.finalizeSlot c 8) s = s :=
    foldl_of_fixed fun d hd => finalizeSlot_of_none (hothers d fun he => hbefore (he ▸ hd)) 8
  have hslot : s.finalizeSlot c 8 = s.finalizeWin c w :=
    (finalizeSlot_of_due hwin hen hdue 7).trans (finalizeSlot_of_waits hopen hwaits 7)
  rw [State.finalizeSlots, hslots, List.foldl_append, hfirst, List.foldl_cons, hslot]
  refine foldl_of_fixed fun d _ => ?_
  by_cases hd : d = c
  · exact hd ▸ finalizeSlot_of_waits hopen hwaits 8
  · exact finalizeSlot_of_none (hothers' d hd) 8

/-! ### What is delivered and queued once windows are fixed (R146, R148, R155) -/

theorem slots_of_only {m : Nat} {s t : State} (h : Only m s t) (hm : m.testBit Piece.wfm.bit = false := by decide) :
    t.wfm.slots = s.wfm.slots := congrArg Wfm.slots (h .wfm hm)
theorem modWfm_slots (s : State) {f : Wfm → Wfm} (h : ∀ x, (f x).slots = x.slots := by exact fun _ => rfl) :
    (s.modWfm f).wfm.slots = s.wfm.slots := h s.wfm
theorem skipEmission_slots (s : State) : s.skipEmission.wfm.slots = s.wfm.slots :=
  slots_of_only ((State.skipEmission_only s s (m' := 8458753)).2 (.refl _ s))
theorem hubPut_slots (s : State) (n cls a : Nat) (bs : List Nat) (mrk : Option Nat) : (s.hubPut n cls a bs mrk).wfm.slots = s.wfm.slots :=
  slots_of_only ((State.hubPut_only s n cls a bs mrk s (m' := 9245193)).2 (.refl _ s))
theorem chargeHubBytes_slots (s : State) (n : Nat) : (s.chargeHubBytes n).wfm.slots = s.wfm.slots :=
  slots_of_only ((State.chargeHubBytes_only s n s (m' := 8720897)).2 (.refl _ s))

theorem deliver_slots (s : State) (e a b : Nat) : (s.deliver e a b).wfm.slots = s.wfm.slots := by
  have hcharged (due : Prop) [Decidable due] (n : Nat) : (if due then s.chargeHubBytes n else s).wfm.slots = s.wfm.slots := by
    split
    · exact chargeHubBytes_slots s n
    · rfl
  unfold State.deliver
  dsimp only
  split
  · exact skipEmission_slots s
  · exact (modWfm_slots _).trans (((hubPut_slots _ _ _ _ _ _).trans (hubPut_slots _ _ _ _ _ _)).trans (hcharged _ _))
theorem autoEmissions_slots (s : State) (moved : List (Nat × Nat)) : (s.autoEmissions moved).wfm.slots = s.wfm.slots := by
  refine foldl_leaves (fun u => u.wfm.slots) (fun u e => ?_) _ s
  dsimp only
  split
  · rfl
  · exact deliver_slots _ _ _ _
theorem offerRings_slots (s : State) (moved : List Nat) (r : Nat) : (s.offerRings moved r).wfm.slots = s.wfm.slots := by
  refine foldl_leaves (fun u => u.wfm.slots) (fun u k => ?_) _ s
  split
  · unfold State.queueRing
    dsimp only
    split <;> rfl
  · rfl

/-- The windows of slot `c` that are fixed in the present stitch, from stitch `w` on. -/
def State.justFixed (s : State) (c : Nat) (w : Nat) : List FWin := (s.fslot c).wins.filter fun x => decide (w ≤ x.start ∧ x.fin = s.absStitch)

theorem finalizeDue_off {s : State} (h : s.flag PWR_DROP_UNIT_WFM = true ∨ s.boot.halted = true) : s.finalizeDue = s := if_pos h

/-- The slots are as the end of the windows leaves them; emissions and records do not touch them. -/
theorem finalizeDue_slots {s : State} (h : ¬ (s.flag PWR_DROP_UNIT_WFM = true ∨ s.boot.halted = true)) :
    s.finalizeDue.wfm.slots = s.finalizeSlots.wfm.slots := by
  unfold State.finalizeDue
  rw [if_neg h]
  extract_lets before ended wins emitted rounds
  have hended : s.finalizeSlots = ended := by rw [State.finalizeSlots]
  rw [hended]
  clear_value ended
  split
  · rfl
  · exact (foldl_leaves (fun u => u.wfm.slots) (fun _ _ => offerRings_slots _ _ _) _ _).trans (autoEmissions_slots _ _)

/-- Where no slot's windows end, and none that was open has just been fixed, the command has no effect. -/
theorem finalizeDue_idle {s : State} (hslots : s.finalizeSlots = s) (hnone : ∀ c < 48, ∀ w, (s.fslot c).win = some w → s.justFixed c w = []) :
    s.finalizeDue = s := by
  unfold State.finalizeDue
  split
  · rfl
  · extract_lets before ended wins emitted rounds
    have hended : ended = s := by
      rw [State.finalizeSlots] at hslots
      exact hslots
    have hwins : wins = [] := by
      refine List.flatMap_eq_nil_iff.2 fun c hc => ?_
      have hc := List.mem_range.1 hc
      have hbefore : before.getD c none = (s.fslot c).win := by simp [before, List.getD_eq_getElem?_getD, hc]
      rw [hbefore, hended]
      cases hwin : (s.fslot c).win with
      | none => rfl
      | some w =>
        have hfixed := hnone c hc w hwin
        rw [State.justFixed] at hfixed
        simp only [hfixed, List.reverse_nil, List.map_nil]
    rw [if_pos (by rw [hwins]; rfl), hended]

end Sys2Proof.Machine
end

section
/-! Proofs/FramerOperations.lean: what the Framer does (`Obligations.FramerOperations`, O30): windows that end, COMMIT of an emission, records, FORCE and
REARM of the capture rings, and a read of WFM_TRGQ, command by command. -/

namespace Sys2Proof.Machine
open Sys2Proof Sys2Proof.Machine.Reg

set_option Elab.async false

/-! ### WINDOW_FINALIZE (R145, R146) -/

theorem exec_windowFinalize (s : State) : exec .windowFinalize s = .next s.finalizeDue := rfl

theorem windowFinalize_off {s : State} (h : s.flag PWR_DROP_UNIT_WFM = true ∨ s.boot.halted = true) : exec .windowFinalize s = .next s := by
  rw [exec_windowFinalize, finalizeDue_off h]

section
variable {s : State} {c w : Nat} (hothers : ∀ d, d ≠ c → (s.fslot d).win = none) (hwin : (s.fslot c).win = some w)
include hothers hwin

theorem windowFinalize_fixes (hc : c < 48) (hthere : c < s.wfm.slots.length) (hon : s.flag PWR_DROP_UNIT_WFM = false) (hrun : s.boot.halted = false)
    (hen : s.wfld w WFM_CHCFG_EN c = 1) (hdue : w + s.winLen w c + s.wfld w WFM_CFG_LAG ≤ s.absStitch)
    (hnext : s.windowWaits c (w + s.winLen w c)) : Does .windowFinalize s (fun t => (t.fslot c).win = some (w + s.winLen w c) ∧
      ∃ x, (t.fslot c).wins = (x :: (s.fslot c).wins).take 8 ∧ x.start = w ∧ x.len = s.winLen w c ∧ x.fin = s.absStitch) := by
  refine Does.intro (exec_windowFinalize s) ?_
  have hslots : s.finalizeDue.wfm.slots = (s.finalizeWin c w).wfm.slots := by
    rw [finalizeDue_slots (by simp [hon, hrun]), finalizeSlots_of_due hc hthere hothers hwin hen hdue hnext]
  rw [fslot_of_slots_eq hslots]
  exact finalizeWin_slot hc hthere w

theorem windowFinalize_early (hwaits : s.windowWaits c w) (hwins : ∀ x ∈ (s.fslot c).wins, x.start < w) : exec .windowFinalize s = .next s := by
  have hfixed : s.justFixed c w = [] := List.filter_eq_nil_iff.2 fun x hx => by
    have := hwins x hx
    simp only [decide_eq_true_eq]
    omega
  rw [exec_windowFinalize, finalizeDue_idle (finalizeSlots_of_waits hothers hwin hwaits)]
  intro d _ v hv
  by_cases hd : d = c
  · subst hd
    exact Option.some.inj (hwin.symm.trans hv) ▸ hfixed
  · exact absurd (hv.symm.trans (hothers d hd)) (Option.some_ne_none v)
end

/-! ### EMISSION_COMMIT (R150) -/

/-- The set `d` waits for its COMMIT no longer. -/
def State.emissionEnded (s : State) (d : Delivery) : State := s.modWfm fun w => { w with out := w.out.erase d }

section
variable {s : State} {e : Nat} {d : Delivery} (he : e < 64) (hrun : s.boot.halted = false) (hout : s.wfm.out.find? (fun x => x.em = e) = some d)
include he hrun hout

theorem exec_emissionCommit : exec (.emissionCommit e) s = .next (if s.hubUnacked d.core d.cls = true ∧ ¬ s.coreDropped d.core = true then s
    else if s.coreDropped d.core = true then (s.emissionEnded d).skipEmission
    else (s.emissionEnded d).hubPut d.core d.cls (d.addr + 60) (toBytes 4 d.seq) d.mrk) := by
  have hcommit : exec (.emissionCommit e) s = .next (s.emissionCommit e) := (if_pos he).trans (by rw [hrun]; rfl)
  rw [hcommit, State.emissionCommit, hout]
  rfl

theorem emissionCommit_commits (hcore : s.coreDropped d.core = false) (hmrk : d.mrk = none) (hacked : s.hubUnacked d.core d.cls = false)
    (hway : s.sendBehind 34 d.core d.cls s.mesh.num = false) : Does (.emissionCommit e) s (fun t => t.wfm.out = s.wfm.out.erase d ∧
      t.data = (s.putData d.core (d.addr + 60) (toBytes 4 d.seq)).data ∧ t.regs = s.regs ∧ t.mesh = s.mesh) := by
  have hfree : (s.emissionEnded d).sendBehind 34 d.core d.cls (s.emissionEnded d).mesh.num = false := hway
  have hput : (s.emissionEnded d).hubPut d.core d.cls (d.addr + 60) (toBytes 4 d.seq) none =
      (s.emissionEnded d).putData d.core (d.addr + 60) (toBytes 4 d.seq) := if_neg (by simp [hfree])
  have honly : Only 524296 (s.emissionEnded d) ((s.emissionEnded d).putData d.core (d.addr + 60) (toBytes 4 d.seq)) := putData_only _ _ _ _
  refine Does.intro ((exec_emissionCommit he hrun hout).trans ?_) ⟨congrArg Wfm.out (honly .wfm (by decide)), ?_, honly .regs (by decide),
    honly .mesh (by decide)⟩
  · rw [if_neg (by simp [hacked]), if_neg (by simp [hcore]), hmrk, hput]
  · rw [putData_data, putData_data]
    rfl

theorem emissionCommit_skips (hcore : s.coreDropped d.core = true) : Does (.emissionCommit e) s (fun t => t.wfm.out = s.wfm.out.erase d ∧
    t.data = s.data ∧ t.fld WFM_CNT_SKIP_SKIP = s.counted WFM_CNT_SKIP_SKIP ∧ t.evt WFM_EVENT 2) := by
  have honly : Only 8458753 (s.emissionEnded d) (s.emissionEnded d).skipEmission := (State.skipEmission_only _ _).2 (.refl _ _)
  refine Does.intro ((exec_emissionCommit he hrun hout).trans ?_) ⟨congrArg Wfm.out (honly .wfm (by decide)), honly .data (by decide), ?_,
    report_bit (by decide) (by decide) (by decide)⟩
  · rw [if_neg (by simp [hcore]), if_pos hcore]
  · have hcounted : ((s.emissionEnded d).count WFM_CNT_SKIP_SKIP).fld WFM_CNT_SKIP_SKIP = s.counted WFM_CNT_SKIP_SKIP :=
      fld_count_same (s.emissionEnded d) _ _ _ (by decide)
    exact (fld_of_reg_eq (report_reg (by decide) (by decide) (by decide))).trans hcounted
end

/-! ### The registers of the capture rings -/

/-- An address of the rings' registers, those in force included. -/
abbrev ringAddr (a : Nat) : Prop := 0x53000 ≤ a ∧ a < 0x54000

/-- The registers of a ring stand 0x40 behind those of the ring before it; those in force another 0x800 behind. -/
theorem ringAddr_at {r : Rg} {k n : Nat} (hk : k < 4) (hn : n = 0 ∨ n = 0x800)
    (h : r.s1 = 0x40 ∧ 0x53000 ≤ r.base ∧ r.base < 0x53040 := by decide) : ringAddr (r.at k + n) := by
  obtain ⟨hs, hlo, hhi⟩ := h
  rw [Rg.at, hs]
  omega
/-- Registers of one unit that stand equally far apart from unit to unit do not meet. -/
theorem Rg.at_add_ne {r q : Rg} {k : Nat} (n : Nat) (h : r.s1 = q.s1 ∧ r.base + n ≠ q.base := by decide) : r.at k + n ≠ q.at k := by
  obtain ⟨hs, hb⟩ := h
  rw [Rg.at, Rg.at, hs]
  omega

theorem wfmReport_reg {s : State} {b sev a : Nat} (hq : quiet a) (ha : a ≠ WFM_EVENT.base) : (s.wfmReport b sev).reg a = s.reg a :=
  report_reg (by decide) hq ha
theorem wfmReport_ring {s : State} {b sev a : Nat} (ha : ringAddr a) : (s.wfmReport b sev).reg a = s.reg a :=
  wfmReport_reg ((quiet_def a).2 (by omega)) (by simp only [WFM_EVENT]; omega)
theorem wfmReport_evt {s : State} {b sev : Nat} (hb : b < 32 := by decide) : (s.wfmReport b sev).evt WFM_EVENT b :=
  report_bit (by decide) (by decide) hb
theorem wfmReport_evt_mono {s : State} {b sev n : Nat} (h : s.evt WFM_EVENT n) (hb : b < 32 := by decide) : (s.wfmReport b sev).evt WFM_EVENT n :=
  report_bit_mono (by decide) (by decide) hb h

/-! ### A ring freezes (R156) -/

/-- Ring `k` is CAPTURING, and the record of round `d` is the last it waits for. -/
abbrev State.freezes (s : State) (k d : Nat) : Prop := s.rgState k = 2 ∧ nearMod 48 d (s.trnd k) + s.live WFM_RGCFG_POST k ≤ d

/-- What freezing reads of a ring reads the same where the rings' registers do. -/
theorem ring_of_reg_eq {s t : State} (h : ∀ a, ringAddr a → t.reg a = s.reg a) {k : Nat} (hk : k < 4) :
    t.rgState k = s.rgState k ∧ t.trnd k = s.trnd k ∧ t.live WFM_RGCFG_POST k = s.live WFM_RGCFG_POST k := by
  have hlo : t.regN WFM_RGTRND_LO k = s.regN WFM_RGTRND_LO k := congrArg BitVec.toNat (h _ (ringAddr_at hk (.inl rfl)))
  have hhi : t.fld WFM_RGTRND_HI_RND k = s.fld WFM_RGTRND_HI_RND k := fld_of_reg_eq (h _ (ringAddr_at hk (.inl rfl)))
  refine ⟨fld_of_reg_eq (h _ (ringAddr_at hk (.inl rfl))), ?_, live_of_reg_eq (h _ (ringAddr_at hk (.inr rfl)))⟩
  rw [State.trnd, hlo, hhi, State.trnd]

section
variable {s : State} {k d : Nat}

theorem checkFrozen_of_done (h : look s.wfm.ringDone k = some d) :
    s.checkFrozen k = if s.freezes k d then (s.setFld WFM_RGSTAT_STATE 3 k).wfmReport 1 3 else s := by
  rw [State.checkFrozen, h]
theorem checkFrozen_of_not (h : ∀ d, look s.wfm.ringDone k = some d → ¬ s.freezes k d) : s.checkFrozen k = s := by
  unfold State.checkFrozen
  split
  next d hdone => exact if_neg (h d hdone)
  next => rfl

theorem checkFrozen_rgState (hk : k < 4) (h : look s.wfm.ringDone k = some d) :
    (s.checkFrozen k).rgState k = if s.freezes k d then 3 else s.rgState k := by
  rw [checkFrozen_of_done h]
  split
  · have hset : (s.setFld WFM_RGSTAT_STATE 3 k).rgState k = 3 := fld_setFld _ _ _ _ _ (by decide)
    exact (fld_of_reg_eq (wfmReport_ring (ringAddr_at hk (.inl rfl)))).trans hset
  · rfl
theorem checkFrozen_evt (h : look s.wfm.ringDone k = some d) (hfreezes : s.freezes k d) : (s.checkFrozen k).evt WFM_EVENT 1 := by
  rw [checkFrozen_of_done h, if_pos hfreezes]
  exact wfmReport_evt
/-- Beside RGSTAT and a report, freezing changes nothing: counts and other events stay. -/
theorem checkFrozen_reg {a : Nat} (hstat : a ≠ WFM_RGSTAT.at k) (hq : quiet a) (ha : a ≠ WFM_EVENT.base) : (s.checkFrozen k).reg a = s.reg a := by
  unfold State.checkFrozen
  split
  · split
    · exact (wfmReport_reg hq ha).trans (reg_setFld_ne hstat)
    · rfl
  · rfl
theorem checkFrozen_evt_mono {n : Nat} (h : s.evt WFM_EVENT n) : (s.checkFrozen k).evt WFM_EVENT n := by
  have hstat : WFM_EVENT.base ≠ WFM_RGSTAT.at k := by simp only [Rg.at, WFM_EVENT, WFM_RGSTAT]; omega
  unfold State.checkFrozen
  split
  · split
    · refine wfmReport_evt_mono ?_
      rw [State.evt, reg_setFld_ne hstat]
      exact h
    · exact h
  · exact h
theorem checkFrozen_only : Only 8458753 s (s.checkFrozen k) := (State.checkFrozen_only s k s).2 (.refl _ s)
end

/-! ### RING_RECORD_DONE (R155, R157) -/

/-- The record `q` of ring `k` waits no longer, and its round is the last one recorded. -/
def State.recordEnded (s : State) (k : Nat) (q : RingRec) : State :=
  s.modWfm fun w => { w with ringq := w.ringq.erase q, ringDone := bind w.ringDone k q.round }

/-- A record is abandoned. -/
def State.recordLost (s : State) (q : RingRec) : State := ((s.partRecord q).count WFM_CNT_RING_RINGDROP).wfmReport 4 4

theorem partRecord_regs (s : State) (q : RingRec) : (s.partRecord q).regs = s.regs := rfl

section
variable {s : State} {k : Nat} {q : RingRec} (hk : k < 4) (hq : s.wfm.ringq.find? (fun x => x.ring = k) = some q)
include hk hq

theorem exec_ringRecordDone (ok : Bool) : exec (.ringRecordDone k ok) s = .next ((if ok = true then (s.recordEnded k q).putLpddr q.addr q.bytes
    else (s.recordEnded k q).recordLost q).checkFrozen k) := by
  have hdone : exec (.ringRecordDone k ok) s = .next (s.ringDone k ok) := if_pos hk
  rw [hdone, State.ringDone, hq]
  rfl

omit hk hq in
theorem ringDone_recordEnded : look (s.recordEnded k q).wfm.ringDone k = some q.round := look_bind_same _ _ _

theorem ringRecordDone_writes : Does (.ringRecordDone k true) s (fun t => t.lpddr = (s.putLpddr q.addr q.bytes).lpddr ∧
    t.wfm.ringq = s.wfm.ringq.erase q ∧ t.rgState k = (if s.freezes k q.round then 3 else s.rgState k) ∧
    (s.rgState k = 2 → nearMod 48 q.round (s.trnd k) + s.live WFM_RGCFG_POST k ≤ q.round → t.evt WFM_EVENT 1)) := by
  have hdone : look ((s.recordEnded k q).putLpddr q.addr q.bytes).wfm.ringDone k = some q.round := ringDone_recordEnded
  exact Does.intro (exec_ringRecordDone hk hq true) ⟨checkFrozen_only .lpddr (by decide), congrArg Wfm.ringq (checkFrozen_only .wfm (by decide)),
    checkFrozen_rgState hk hdone, fun hstate hround => checkFrozen_evt hdone ⟨hstate, hround⟩⟩

omit hk hq in
theorem recordLost_ring {a : Nat} (ha : ringAddr a) : (s.recordLost q).reg a = s.reg a :=
  (wfmReport_ring ha).trans ((reg_count_ne (by simp only [Rg.at, WFM_CNT_RING_RINGDROP, WFM_CNT_RING]; omega)).trans
    (reg_of_regs_eq (partRecord_regs s q) a))
omit hk hq in
theorem recordLost_count : (s.recordLost q).fld WFM_CNT_RING_RINGDROP = s.counted WFM_CNT_RING_RINGDROP :=
  (fld_of_reg_eq (wfmReport_reg (by decide) (by decide))).trans (fld_count_same (s.partRecord q) _ _ _ (by decide))

theorem ringRecordDone_abandons : Does (.ringRecordDone k false) s (fun t => t.wfm.ringq = s.wfm.ringq.erase q ∧
    t.fld WFM_CNT_RING_RINGDROP = s.counted WFM_CNT_RING_RINGDROP ∧ t.evt WFM_EVENT 4 ∧
    t.rgState k = (if s.freezes k q.round then 3 else s.rgState k)) := by
  have hwfm : ((s.recordEnded k q).recordLost q).wfm = (s.recordEnded k q).wfm :=
    (State.wfmReport_only _ 4 4 (((s.recordEnded k q).partRecord q).count WFM_CNT_RING_RINGDROP) (m' := 8458753)).2 (.refl _ _) .wfm (by decide)
  have hdone : look ((s.recordEnded k q).recordLost q).wfm.ringDone k = some q.round := by
    rw [hwfm]
    exact ringDone_recordEnded
  have hcnt : WFM_CNT_RING_RINGDROP.rg.at ≠ WFM_RGSTAT.at k := by simp only [Rg.at, WFM_CNT_RING_RINGDROP, WFM_CNT_RING, WFM_RGSTAT]; omega
  have hringq : ((s.recordEnded k q).recordLost q).wfm.ringq = s.wfm.ringq.erase q := congrArg Wfm.ringq hwfm
  obtain ⟨hstate, htrnd, hpost⟩ := ring_of_reg_eq (fun a ha => recordLost_ring (s := s.recordEnded k q) (q := q) ha) hk
  refine Does.intro (exec_ringRecordDone hk hq false) ⟨(congrArg Wfm.ringq (checkFrozen_only .wfm (by decide))).trans hringq,
    (fld_of_reg_eq (checkFrozen_reg hcnt (by decide) (by decide))).trans recordLost_count, checkFrozen_evt_mono wfmReport_evt, ?_⟩
  refine (checkFrozen_rgState hk hdone).trans ?_
  simp only [State.freezes, hstate, htrnd, hpost]
  rfl
end

/-! ### WFM_TRGQ (R78, R154) -/

theorem wfmTrgqPop_pops {s : State} (h : s.reaches .host WFM_TRGQ.base) : Does .wfmTrgqPop s (fun t => t.resp.data = toBytes 4 (s.regN WFM_TRGQ) ∧
    t.wfm.trgq = s.wfm.trgq.tail ∧ t.regN WFM_TRGQ = ((s.wfm.trgq.tail.head?).getD 0) % 2 ^ 32 ∧ sameRegsBut [WFM_TRGQ.base] s t) :=
  Does.intro (reached_of_reaches h _ _ _) ⟨rfl, rfl, regN_setRegN _ _ _ _ _, sameRegsBut_setReg _ _ (List.mem_singleton.2 rfl)⟩

/-! ### REARM and FORCE (R156) -/

section
variable {s : State} {k : Nat} (hk : k < 4) (hreach : s.reaches .host (WFM_RGCTRL.at k))
include hk hreach

theorem exec_ringRearmWrite : exec (.ringRearmWrite k) s = .next (s.rearm k) := (if_pos hk).trans (reached_of_reaches hreach _ _ _)
theorem exec_ringForceWrite : exec (.ringForceWrite k) s = .next (s.force k) := (if_pos hk).trans (reached_of_reaches hreach _ _ _)

theorem ringRearmWrite_arms (h : s.rgState k = 3) :
    Does (.ringRearmWrite k) s (fun t => t.rgState k = 1 ∧ sameRegsBut [WFM_RGSTAT.at k] s t) := by
  refine Does.intro ((exec_ringRearmWrite hk hreach).trans (congrArg _ (if_pos h))) ⟨fld_setFld _ _ _ _ _ (by decide), ?_⟩
  exact sameRegsBut_setReg _ _ (List.mem_singleton.2 rfl)
theorem ringRearmWrite_idle (h : s.rgState k ≠ 3) : exec (.ringRearmWrite k) s = .next s :=
  (exec_ringRearmWrite hk hreach).trans (congrArg _ (if_neg h))
theorem ringForceWrite_idle (h : s.rgState k ≠ 1) : exec (.ringForceWrite k) s = .next s :=
  (exec_ringForceWrite hk hreach).trans (congrArg _ (if_neg h))
end

/-- An ARMED ring begins to capture for round `rt`. -/
def State.capturing (s : State) (k rt : Nat) : State := ((s.setFld WFM_RGSTAT_STATE 2 k).setFld WFM_RGSTAT_NTRG 0 k).setTrnd k rt

section
variable {s : State} {k rt : Nat}

theorem setTrnd_rgstat {f : Fld} (hf : f.rg = WFM_RGSTAT := by rfl) : (s.setTrnd k rt).fld f k = s.fld f k := by
  have hlo : f.rg.at k ≠ WFM_RGTRND_LO.at k := by rw [hf]; exact Rg.at_add_ne 0
  have hhi : f.rg.at k ≠ WFM_RGTRND_HI.at k := by rw [hf]; exact Rg.at_add_ne 0
  exact (fld_setFld_ne hhi).trans (fld_setReg_ne hlo)
theorem setTrnd_trnd (hrt : rt < 2 ^ 48) : (s.setTrnd k rt).trnd k = rt := by
  have hlo : WFM_RGTRND_LO.at k ≠ WFM_RGTRND_HI.at k := Rg.at_add_ne 0
  have hlow : (s.setTrnd k rt).regN WFM_RGTRND_LO k = rt % 2 ^ 32 :=
    (congrArg BitVec.toNat (reg_setFld_ne hlo)).trans (regN_setRegN _ _ _ _ _)
  have hhigh : (s.setTrnd k rt).fld WFM_RGTRND_HI_RND k = rt / 2 ^ 32 % 2 ^ 16 := fld_setFld _ _ _ _ _ (by decide)
  rw [State.trnd, hlow, hhigh]
  omega

theorem capturing_rgState : (s.capturing k rt).rgState k = 2 := by
  rw [State.rgState, State.capturing, setTrnd_rgstat, fld_setFld_disj (by decide) (by decide), fld_setFld _ _ _ _ _ (by decide)]
  rfl
theorem capturing_ntrg : (s.capturing k rt).fld WFM_RGSTAT_NTRG k = 0 := by
  rw [State.capturing, setTrnd_rgstat, fld_setFld _ _ _ _ _ (by decide)]
  rfl
theorem capturing_sameRegsBut : sameRegsBut [WFM_RGSTAT.at k, WFM_RGTRND_LO.at k, WFM_RGTRND_HI.at k] s (s.capturing k rt) :=
  (((setFld_sameRegsBut _ _ _ _ (by simp [WFM_RGSTAT_STATE])).trans (setFld_sameRegsBut _ _ _ _ (by simp [WFM_RGSTAT_NTRG]))).trans
    (sameRegsBut_setReg _ _ (by simp))).trans (setFld_sameRegsBut _ _ _ _ (by simp [WFM_RGTRND_HI_RND]))
theorem capturing_post : (s.capturing k rt).live WFM_RGCFG_POST k = s.live WFM_RGCFG_POST k := by
  refine live_of_reg_eq (capturing_sameRegsBut _ ?_)
  simp only [List.mem_cons, List.not_mem_nil, or_false, not_or]
  exact ⟨Rg.at_add_ne _, Rg.at_add_ne _, Rg.at_add_ne _⟩
end

theorem ringForceWrite_captures {s : State} {k : Nat} (hk : k < 4) (hreach : s.reaches .host (WFM_RGCTRL.at k)) (h : s.rgState k = 1)
    (hopen : ∀ d, look s.wfm.ringDone k = some d → d < nearMod 48 d s.count48 + s.live WFM_RGCFG_POST k) :
    Does (.ringForceWrite k) s (fun t => t.rgState k = 2 ∧ t.trnd k = s.count48 ∧ t.fld WFM_RGSTAT_NTRG k = 0 ∧
      sameRegsBut [WFM_RGSTAT.at k, WFM_RGTRND_LO.at k, WFM_RGTRND_HI.at k] s t) := by
  have htrnd : (s.capturing k s.count48).trnd k = s.count48 := setTrnd_trnd (count48_lt_two_pow_48 s)
  have hfrozen : (s.capturing k s.count48).checkFrozen k = s.capturing k s.count48 := checkFrozen_of_not fun d hdone hfreezes => by
    have hround := hfreezes.2
    rw [htrnd, capturing_post] at hround
    exact absurd (hopen d hdone) (Nat.not_lt.2 hround)
  have hforce : s.force k = s.capturing k s.count48 := by
    rw [State.force, if_pos h, State.capture, h]
    exact hfrozen
  exact Does.intro ((exec_ringForceWrite hk hreach).trans (congrArg _ hforce))
    ⟨capturing_rgState, htrnd, capturing_ntrg, capturing_sameRegsBut⟩

/-- Settles O30: windows by what the end of a window fixes and what delivery leaves of the slots, emissions by their COMMIT, rings by what a record,
REARM and FORCE leave of their registers. -/
theorem framerOperations : Obligations.FramerOperations := by
  unfold Obligations.FramerOperations
  refine ⟨?_, ?_, ?_, ?_, ?_, ?_, ?_, ?_, ?_, ?_, ?_, ?_⟩
  · exact fun s h => windowFinalize_off h
  · exact fun s c hc w hthere hon hrun hothers hwin hen hdue _ hnextEn hnext =>
      windowFinalize_fixes hothers hwin hc hthere hon hrun hen hdue ⟨hnextEn, hnext⟩
  · exact fun s c _ w hothers hwin hen hearly hwins => windowFinalize_early hothers hwin ⟨hen, hearly⟩ hwins
  · exact fun s e he d hrun hout hcore hmrk hacked hway => emissionCommit_commits he hrun hout hcore hmrk hacked hway
  · exact fun s e he d hrun hout hcore => emissionCommit_skips he hrun hout hcore
  · exact fun s k hk q hq => ringRecordDone_writes hk hq
  · exact fun s k hk q hq => ringRecordDone_abandons hk hq
  · exact fun s h => wfmTrgqPop_pops h
  · exact fun s k hk hreach h => ringRearmWrite_arms hk hreach h
  · exact fun s k hk hreach h => ringRearmWrite_idle hk hreach h
  · exact fun s k hk hreach h hopen => ringForceWrite_captures hk hreach h hopen
  · exact fun s k hk hreach h => ringForceWrite_idle hk hreach h

end Sys2Proof.Machine
end

section
/-! Proofs/CameraOperations.lean: what the operations that the camera ports share leave of the registers, the ports and the live pipelines (chapter 7):
reports, counts, edges given up, headers, and the close of a frame. -/

namespace Sys2Proof.Machine
open Sys2Proof Sys2Proof.Machine.Reg

-- As in the files of Laws/: proofs elaborated side by side take the joined text past its memory limit.
set_option Elab.async false

/-! ### Ports and live pipelines -/

/-- A list's entry after a change of it, seen through `g`: the change acts there as `k`, which leaves what an entry that is absent reads as. -/
theorem getD_modify_map {α β : Type} (l : List α) (i : Nat) {f : α → α} {d : α} (g : α → β) {k : β → β} (h : ∀ x, g (f x) = k (g x))
    (hd : k (g d) = g d) : g ((l.modify i f).getD i d) = k (g (l.getD i d)) := by
  by_cases hi : i < l.length
  · simp [List.getD_eq_getElem?_getD, hi, h]
  · simp [List.getD_eq_getElem?_getD, hi, hd]

section
variable {s t : State} {p q : Nat}

theorem lp_of_lps_eq (h : t.cam.lps = s.cam.lps) (p : Nat) : t.lp p = s.lp p := by rw [State.lp, h, State.lp]

theorem camPort_modCamPort {f : CamPort → CamPort} (h : p < s.cam.ports.length) : (s.modCamPort p f).camPort p = f (s.camPort p) := by
  simp [State.camPort, State.modCamPort, State.modCam, List.getD_eq_getElem?_getD, h]
/-- A field of a port, whether the port is there or not. -/
theorem camPort_modCamPort_map {α : Type} {f : CamPort → CamPort} (g : CamPort → α) (k : α → α) (h : ∀ x, g (f x) = k (g x))
    (hd : k (g {}) = g {}) : g ((s.modCamPort p f).camPort p) = k (g (s.camPort p)) := getD_modify_map _ _ g h hd
theorem camPort_modCamPort_leaves {α : Type} {f : CamPort → CamPort} (g : CamPort → α) (h : ∀ x, g (f x) = g x) :
    g ((s.modCamPort p f).camPort p) = g (s.camPort p) := camPort_modCamPort_map g id h rfl

theorem lp_modLp {f : LivePipe → LivePipe} (h : p < s.cam.lps.length) : (s.modLp p f).lp p = f (s.lp p) := by
  simp [State.lp, State.modLp, State.modCam, List.getD_eq_getElem?_getD, h]
theorem lp_modLp_map {α : Type} {f : LivePipe → LivePipe} (g : LivePipe → α) (k : α → α) (h : ∀ x, g (f x) = k (g x)) (hd : k (g {}) = g {}) :
    g ((s.modLp p f).lp p) = k (g (s.lp p)) := getD_modify_map _ _ g h hd
theorem lp_modLp_leaves {α : Type} {f : LivePipe → LivePipe} (g : LivePipe → α) (h : ∀ x, g (f x) = g x) :
    g ((s.modLp p f).lp p) = g (s.lp p) := lp_modLp_map g id h rfl

/-- A change of the open frame is seen in the open frames alone. -/
theorem modOpen_frames (s : State) (p : Nat) (f : Frame → Frame) :
    ((s.modOpen p f).lp p).frames = (s.lp p).frames.map (fun x => if x.closed then x else f x) :=
  lp_modLp_map LivePipe.frames (List.map fun x => if x.closed then x else f x) (fun _ => rfl) rfl
end

theorem flagFrame_regs (s : State) (p b : Nat) : (s.flagFrame p b).regs = s.regs := rfl

/-! ### Registers that stand 0x1000 apart from unit to unit -/

/-- A register of each camera port or live pipeline. -/
abbrev Rg.perUnit (r : Rg) : Prop := r.s1 = 0x1000 ∧ 0x81000 ≤ r.base ∧ r.base < 0x98000

theorem Rg.perUnit.at_eq {r : Rg} (h : r.perUnit) (p : Nat) : r.at p = r.base + 0x1000 * p := by rw [Rg.at, h.1, Nat.mul_zero, Nat.add_zero]

/-- An address of the blocks CAM and ISP. -/
theorem quiet_of_camAddr {a : Nat} (h : 0x80000 ≤ a ∧ a < 0xA0000) : quiet a := (quiet_def a).2 (by omega)

/-- The event registers of the units of number `p`. -/
abbrev unitEvents (p : Nat) : List Nat := [CAM_EVENT.at p, ISP_LPEVENT.at p]

/-- The field and its register lie beside the event registers and beside the fields of `m`, `n` bytes above the register it names. -/
abbrev Fld.aside (m : List Fld) (f : Fld) (n : Nat := 0) : Prop :=
  f.rg.perUnit ∧ f.rg.base + n ∉ [CAM_EVENT.base, ISP_LPEVENT.base] ∧ n ≤ 0x800 ∧
    ∀ g ∈ m, g.rg.perUnit ∧ (f.rg.base + n ≠ g.rg.base ∨ f.beside g)

/-- From `s` to `t` the units of number `p` move: of the registers that no report changes only the fields of `m` and the events differ, and no event of the
camera port is lost. -/
structure CamMoves (p : Nat) (m : List Fld) (s t : State) : Prop where
  bits : ∀ a lo w, quiet a → a ∉ unitEvents p → (∀ g ∈ m, a = g.rg.at p → lo + w ≤ g.lo ∨ g.lo + g.w ≤ lo) →
    bits (t.reg a) lo w = bits (s.reg a) lo w
  events : ∀ n, s.evtAt CAM_EVENT p n → t.evtAt CAM_EVENT p n

theorem camEvent_at_quiet {p : Nat} (hp : p < 6) : quiet (CAM_EVENT.at p) :=
  quiet_of_camAddr (by rw [Rg.perUnit.at_eq (by decide)]; simp only [CAM_EVENT]; omega)

namespace CamMoves
variable {p : Nat} {m m' : List Fld} {s t u : State}

theorem refl (s : State) : CamMoves p m s s := ⟨fun _ _ _ _ _ _ => rfl, fun _ h => h⟩
theorem mono (h : CamMoves p m s t) (hm : ∀ f ∈ m, f ∈ m' := by decide) : CamMoves p m' s t where
  bits a lo w hq he hg := h.bits a lo w hq he fun g hgm => hg g (hm g hgm)
  events := h.events
theorem trans (h : CamMoves p m s t) (g : CamMoves p m t u) : CamMoves p m s u where
  bits a lo w hq he hm := (g.bits a lo w hq he hm).trans (h.bits a lo w hq he hm)
  events n hn := g.events n (h.events n hn)
theorem ite {c : Prop} [Decidable c] (h : CamMoves p m s t) (g : CamMoves p m s u) : CamMoves p m s (if c then t else u) := by
  split
  · exact h
  · exact g
theorem ofRegs (h : t.regs = s.regs) : CamMoves p m s t where
  bits a _ _ _ _ _ := by rw [reg_of_regs_eq h]
  events n hn := by
    rw [State.evtAt, reg_of_regs_eq h]
    exact hn
theorem setFld {f : Fld} (v : Nat) (hm : f ∈ m := by decide) (hf : f.lo + f.w ≤ 32 ∧ f.rg.perUnit ∧ f.rg.base ≠ CAM_EVENT.base := by decide) :
    CamMoves p m s (s.setFld f v p) where
  bits a lo w _ _ hg := by
    by_cases ha : a = f.rg.at p
    · subst ha
      rw [State.setFld, reg_setReg_same, bits_setBits_ne _ _ _ _ _ _ hf.1 (hg f hm rfl)]
    · rw [reg_setFld_ne ha]
  events n hn := by
    have hne : CAM_EVENT.at p ≠ f.rg.at p := by
      rw [hf.2.1.at_eq, Rg.perUnit.at_eq (by decide)]
      omega
    rw [State.evtAt, reg_setFld_ne hne]
    exact hn
theorem count {f : Fld} (n : Nat) (hm : f ∈ m := by decide) (hf : f.lo + f.w ≤ 32 ∧ f.rg.perUnit ∧ f.rg.base ≠ CAM_EVENT.base := by decide) :
    CamMoves p m s (s.count f n p) := setFld _ hm hf

theorem modCamPort (f : CamPort → CamPort) : CamMoves p m s (s.modCamPort p f) := ofRegs rfl
theorem modLp (f : LivePipe → LivePipe) : CamMoves p m s (s.modLp p f) := ofRegs rfl
theorem modOpen (f : Frame → Frame) : CamMoves p m s (s.modOpen p f) := ofRegs rfl
theorem flagFrame (b : Nat) : CamMoves p m s (s.flagFrame p b) := ofRegs rfl

/-- A whole register beside the fields that move. -/
theorem reg (h : CamMoves p m s t) {a : Nat} (hq : quiet a) (ha : a ∉ unitEvents p) (hm : ∀ g ∈ m, a ≠ g.rg.at p) : t.reg a = s.reg a := by
  have hbits := h.bits a 0 32 hq ha fun g hg he => absurd he (hm g hg)
  rw [bits_zero_32, bits_zero_32] at hbits
  exact BitVec.eq_of_toNat_eq hbits
/-- A register below the blocks CAM and ISP and one above them. -/
theorem far (h : CamMoves p m s t) (hp : p < 6) {a : Nat} (ha : quiet a ∧ (a < 0x81000 ∨ 0xA0000 ≤ a) := by decide)
    (hm : ∀ g ∈ m, g.rg.perUnit := by decide) : t.reg a = s.reg a := by
  have hne : ∀ r : Rg, r.perUnit → a ≠ r.at p := fun r hr => by
    have := hr.at_eq p
    omega
  have hevt : a ∉ unitEvents p := by simp [hne CAM_EVENT (by decide), hne ISP_LPEVENT (by decide)]
  exact h.reg ha.1 hevt fun g hg => hne _ (hm g hg)

/-- A field of the unit beside those that move, or a field in force. -/
theorem bits_aside (h : CamMoves p m s t) (hp : p < 6) {f : Fld} {n : Nat} (hf : f.aside m n) :
    Machine.bits (t.reg (f.rg.at p + n)) f.lo f.w = Machine.bits (s.reg (f.rg.at p + n)) f.lo f.w := by
  obtain ⟨hr, he, hn, hm⟩ := hf
  have hat := hr.at_eq p
  refine h.bits _ _ _ (quiet_of_camAddr (by omega)) ?_ fun g hg ha => ?_
  · simp only [List.mem_cons, List.not_mem_nil, or_false, not_or] at he ⊢
    rw [Rg.perUnit.at_eq (r := CAM_EVENT) (by decide), Rg.perUnit.at_eq (r := ISP_LPEVENT) (by decide)]
    omega
  · obtain ⟨hgr, hb | hb⟩ := hm g hg
    · have := hgr.at_eq p
      omega
    · exact hb
theorem fld (h : CamMoves p m s t) (hp : p < 6) {f : Fld} (hf : f.aside m := by decide) : t.fld f p = s.fld f p := h.bits_aside hp hf
theorem live (h : CamMoves p m s t) (hp : p < 6) {f : Fld} (hf : f.aside m 0x800 := by decide) : t.live f p = s.live f p := h.bits_aside hp hf
theorem flag (h : CamMoves p m s t) (hp : p < 6) {f : Fld} (hf : f.aside m := by decide) : t.flag f p = s.flag f p := by
  rw [State.flag, h.fld hp hf, State.flag]
theorem camState (h : CamMoves p m s t) (hp : p < 6) (hf : CAM_STATUS_STATE.aside m := by decide) : t.camState p = s.camState p := h.fld hp hf
theorem camOpen (h : CamMoves p m s t) (hp : p < 6) (hf : CAM_STATUS_STATE.aside m := by decide) : t.camOpen p = s.camOpen p := by
  rw [State.camOpen, h.camState hp hf, State.camOpen]
/-- A count goes on from what it was. -/
theorem counted (h : CamMoves p m s t) (hp : p < 6) {f : Fld} (hf : f.aside m := by decide) : t.counted f p = s.counted f p := by
  rw [State.counted, h.fld hp hf, State.counted]
theorem camListens (h : CamMoves p m s t) (hp : p < 6) (hf : CAM_PHY_EN.aside m 0x800 := by decide) (hm : ∀ g ∈ m, g.rg.perUnit := by decide) :
    t.camListens p = s.camListens p := by
  have hdrop : t.camDropped p = s.camDropped p := by
    rw [State.camDropped, fld_of_reg_eq (h.far hp (by decide) hm), State.camDropped]
  rw [State.camListens, h.live hp hf, hdrop, State.camListens]
theorem lpOn (h : CamMoves p m s t) (hp : p < 6) (hf : ISP_LPCTRL_EN.aside m 0x800 := by decide) (hm : ∀ g ∈ m, g.rg.perUnit := by decide) :
    t.lpOn p = s.lpOn p := by
  have hdrop : t.lpDropped p = s.lpDropped p := by
    rw [State.lpDropped, fld_of_reg_eq (h.far hp (by decide) hm), State.lpDropped]
  rw [State.lpOn, h.live hp hf, hdrop, State.lpOn]
end CamMoves

/-! ### Events of a camera port (R181) -/

section
variable {s : State} {p b sev tfl data : Nat}

theorem event_cam (ev en b v : Nat) : (s.event ev en b v).cam = s.cam :=
  (State.event_only s ev en b v s (m' := 4609)).2 (.refl _ s) .cam (by decide)
theorem journal_cam (code src sev data : Nat) : (s.journal code src sev data).cam = s.cam :=
  (State.journal_only s code src sev data s (m' := 8458753)).2 (.refl _ s) .cam (by decide)

/-- The bit, and beside the PBA and the Journal no register. -/
theorem camEvent_reg (s : State) (p b sev tfl : Nat) {a : Nat} (hq : quiet a) :
    (s.camEvent p b sev tfl).reg a = (s.event (CAM_EVENT.at p) (CAM_INT_EN.at p) b (16 + p)).reg a := by
  unfold State.camEvent
  dsimp only
  split
  · rfl
  · exact journal_reg hq
theorem camEvent_evt (hp : p < 6) (hb : b < 32 := by decide) : (s.camEvent p b sev tfl).evtAt CAM_EVENT p b := by
  have hq := camEvent_at_quiet hp
  obtain ⟨hpba0, hpba1, -⟩ := (quiet_def _).1 hq
  rw [State.evtAt, camEvent_reg _ _ _ _ _ hq]
  exact event_bit (by omega) ⟨hpba0, hpba1⟩ hb
theorem camEvent_moves {m : List Fld} (hp : p < 6) (hb : b < 32 := by decide) : CamMoves p m s (s.camEvent p b sev tfl) where
  bits a _ _ hq ha _ := by rw [camEvent_reg _ _ _ _ _ hq, event_reg (by omega) hq (List.ne_of_not_mem_cons ha)]
  events n hn := by
    have hq := camEvent_at_quiet hp
    obtain ⟨hpba0, hpba1, -⟩ := (quiet_def _).1 hq
    rw [State.evtAt, camEvent_reg _ _ _ _ _ hq]
    exact event_bit_mono (by omega) ⟨hpba0, hpba1⟩ hb hn

/-- Of the cameras only what is recorded once may differ. -/
theorem camEvent_cam (s : State) (p b sev tfl : Nat) : (s.camEvent p b sev tfl).cam = s.cam ∨
    (s.camEvent p b sev tfl).cam = (s.modCamPort p (fun c => { c with once := c.once ++ [b] })).cam := by
  unfold State.camEvent
  dsimp only
  split
  · exact .inl (event_cam _ _ _ _)
  · refine .inr ((journal_cam _ _ _ _).trans ?_)
    rw [State.modCamPort, State.modCam, event_cam]
    rfl
theorem camEvent_lps : (s.camEvent p b sev tfl).cam.lps = s.cam.lps := by
  obtain h | h := camEvent_cam s p b sev tfl <;> rw [h]
  rfl
theorem camEvent_lp (q : Nat) : (s.camEvent p b sev tfl).lp q = s.lp q := lp_of_lps_eq camEvent_lps q
theorem camEvent_port {α : Type} (g : CamPort → α) (h : ∀ c x, g { c with once := x } = g c) :
    g ((s.camEvent p b sev tfl).camPort p) = g (s.camPort p) := by
  obtain hc | hc := camEvent_cam s p b sev tfl
  · rw [State.camPort, hc, State.camPort]
  · rw [State.camPort, hc]
    exact camPort_modCamPort_leaves g fun _ => h _ _
end

/-! ### Events of a live pipeline (R207) -/

theorem lpEvent_moves {m : List Fld} {s : State} {p b sev data : Nat} (hp : p < 6) : CamMoves p m s (s.lpEvent p b sev data) where
  bits a _ _ hq ha _ := by rw [State.lpEvent, report_reg (by omega) hq fun he => ha (he ▸ List.mem_cons_of_mem _ List.mem_cons_self)]
  events n hn := by
    have hne : CAM_EVENT.at p ≠ ISP_LPEVENT.at p := by
      rw [Rg.perUnit.at_eq (by decide), Rg.perUnit.at_eq (by decide)]
      simp only [CAM_EVENT, ISP_LPEVENT]
      omega
    rw [State.evtAt, State.lpEvent, report_reg (by omega) (camEvent_at_quiet hp) hne]
    exact hn
theorem lpEvent_cam (s : State) (p b sev data : Nat) : (s.lpEvent p b sev data).cam = s.cam :=
  (State.lpEvent_only s p b sev data s (m' := 8458753)).2 (.refl _ s) .cam (by decide)

/-! ### Exposure centres (R172) -/

/-- A pending edge whose centre has passed has its exact stamp. -/
def State.stampEdge (s : State) (e : Edge) : Edge :=
  if e.centre.isNone ∧ e.centreTick ≤ s.rnd.clk then { e with centre := some (s.baseAt e.centreTick) } else e

theorem takeCentres_edges (s : State) (p : Nat) : ((s.takeCentres p).camPort p).edges = (s.camPort p).edges.map s.stampEdge :=
  camPort_modCamPort_map CamPort.edges (List.map s.stampEdge) (fun _ => rfl) rfl
theorem stampEdge_stamped {s : State} {e : Edge} (h : (s.stampEdge e).centreTick ≤ s.rnd.clk) : (s.stampEdge e).centre.isSome = true := by
  unfold State.stampEdge at h ⊢
  split
  · rfl
  next hnot =>
    rw [if_neg hnot] at h
    simpa [h, Option.isSome_iff_ne_none] using hnot

/-! ### Edges given up, and the edge of a frame (R172) -/

section
variable {s : State} {p : Nat}

theorem loseEdge_moves (hp : p < 6) : CamMoves p [CAM_CNT_MISC_FSLOST] s (s.loseEdge p) :=
  ((CamMoves.modCamPort _).trans (.count 1)).trans (camEvent_moves hp)
theorem loseEdge_lps : (s.loseEdge p).cam.lps = s.cam.lps := by
  rw [State.loseEdge, camEvent_lps, count_cam]
  rfl
theorem matchEdge_moves (hp : p < 6) (n : Nat) : CamMoves p [CAM_CNT_MISC_FSLOST] s (s.matchEdge p n).1 := by
  fun_induction State.matchEdge s p n with
  | case1 s => exact .refl s
  | case2 s n h => exact .refl s
  | case3 s n e rest h hold ih => exact (loseEdge_moves hp).trans ih
  | case4 s n e rest h hold hcentre => exact .modCamPort _
  | case5 s n e rest h hold hcentre => exact .refl s
theorem matchEdge_lps (n : Nat) : (s.matchEdge p n).1.cam.lps = s.cam.lps := by
  fun_induction State.matchEdge s p n with
  | case1 s => rfl
  | case2 s n h => rfl
  | case3 s n e rest h hold ih => exact ih.trans loseEdge_lps
  | case4 s n e rest h hold hcentre => rfl
  | case5 s n e rest h hold hcentre => rfl
theorem matchEdge_of_no_edges (h : (s.camPort p).edges = []) (n : Nat) : s.matchEdge p n = (s, none) := by
  cases n with
  | zero => rfl
  | succ n => rw [State.matchEdge, h]
end

/-! ### Headers (R163) -/

/-- A header that cannot be read is counted, and flags the open frame. -/
def State.headerLost (s : State) (p : Nat) : State := (s.count CAM_CNT_PKT_HDRERR 1 p).flagFrame p 7

section
variable {s : State} {p hdr : Nat}

theorem noteHeader_good : s.noteHeader p 0 = s := rfl
theorem noteHeader_uncorrectable : s.noteHeader p 2 = (s.headerLost p).camEvent p 1 3 ((s.headerLost p).openFlags p) := if_pos rfl

/-- A header that is not lost only counts. -/
theorem noteHeader_readable (h : hdr < 2) : s.noteHeader p hdr = if hdr = 1 then s.count CAM_CNT_PKT_HDRCOR 1 p else s := if_neg (by omega)
theorem noteHeader_moves (h : hdr < 2) : CamMoves p [CAM_CNT_PKT_HDRCOR] s (s.noteHeader p hdr) := by
  rw [noteHeader_readable h]
  exact .ite (.count 1) (.refl s)
theorem noteHeader_cam (h : hdr < 2) : (s.noteHeader p hdr).cam = s.cam := by
  rw [noteHeader_readable h]
  split
  · exact count_cam _ _ _ _ _
  · rfl

/-- An uncorrectable header is counted and reported, and the port stays in its state. -/
theorem noteHeader_lost (hp : p < 6) : (s.noteHeader p 2).fld CAM_CNT_PKT_HDRERR p = s.counted CAM_CNT_PKT_HDRERR p ∧
    (s.noteHeader p 2).evtAt CAM_EVENT p 1 ∧ (s.noteHeader p 2).camState p = s.camState p := by
  have hcount : CamMoves p [CAM_CNT_PKT_HDRERR] s (s.headerLost p) := (CamMoves.count 1).trans (.flagFrame 7)
  have hcounted : (s.headerLost p).fld CAM_CNT_PKT_HDRERR p = s.counted CAM_CNT_PKT_HDRERR p :=
    (fld_of_regs_eq (flagFrame_regs _ p 7) _ _).trans (fld_count_same s _ 1 p (by decide))
  have hreport : CamMoves p [] (s.headerLost p) (s.noteHeader p 2) := by
    rw [noteHeader_uncorrectable]
    exact camEvent_moves hp
  refine ⟨(hreport.fld hp).trans hcounted, ?_, (hreport.camState hp).trans (hcount.camState hp)⟩
  rw [noteHeader_uncorrectable]
  exact camEvent_evt hp
end

/-! ### STATE, CRED and REFVALID (R182) -/

/-- The fields of ISP_LPSTAT that the pipeline shows. -/
def lpStatFlds : List Fld := [ISP_LPSTAT_STATE, ISP_LPSTAT_CRED, ISP_LPSTAT_REFVALID]

theorem noteLp_moves (s : State) (p : Nat) : CamMoves p lpStatFlds s (s.noteLp p) :=
  ((CamMoves.setFld (f := ISP_LPSTAT_STATE) _).trans (.setFld (f := ISP_LPSTAT_CRED) _)).trans (.setFld (f := ISP_LPSTAT_REFVALID) _)
theorem noteLp_cam (s : State) (p : Nat) : (s.noteLp p).cam = s.cam := by
  unfold State.noteLp
  simp only [setFld_cam]
theorem noteLp_lp (s : State) (p q : Nat) : (s.noteLp p).lp q = s.lp q := lp_of_lps_eq (congrArg Cam.lps (noteLp_cam s p)) q

/-! ### A frame closes (R165, R166) -/

/-- CAM_LAST takes the width and the lines of the frame. -/
def State.frameSized (s : State) (p : Nat) : State :=
  (s.setFld CAM_LAST_WIDTH (min (s.camPort p).wide 16383) p).setFld CAM_LAST_LINES (min (s.camPort p).lines 16383) p

/-- A frame that ends before its window is full is flagged. -/
def State.flagShort (s : State) (p : Nat) : State :=
  match s.openFrame p with
  | some f => if f.rows.length < f.h then s.flagFrame p 4 else s
  | none => s

/-- A frame that ends without its FE is flagged and reported. -/
def State.missFe (s : State) (p : Nat) : State := (s.flagFrame p 6).camEvent p 8 3 ((s.flagFrame p 6).openFlags p)

/-- What is said of a frame that ends. -/
def State.frameEnded (s : State) (p : Nat) (fe : Bool) : State :=
  if fe then (s.frameSized p).flagShort p else ((s.frameSized p).flagShort p).missFe p

/-- The open frame is closed. -/
def State.shut (s : State) (p : Nat) : State := s.modOpen p (fun f => { f with closed := true })

section
variable {s : State} {p : Nat} {fe : Bool}

theorem closeFrame_eq : s.closeFrame p fe = ((s.frameEnded p fe).shut p).setFld CAM_STATUS_STATE ((s.frameEnded p fe).live CAM_PHY_EN p) p := rfl

theorem flagShort_regs : (s.flagShort p).regs = s.regs := by
  unfold State.flagShort
  split
  · split <;> rfl
  · rfl
/-- The fields of CAM_LAST. -/
def lastFlds : List Fld := [CAM_LAST_WIDTH, CAM_LAST_LINES]

theorem frameEnded_moves_from (hp : p < 6) : CamMoves p [] (s.frameSized p) (s.frameEnded p fe) := by
  have hshort : CamMoves p [] (s.frameSized p) ((s.frameSized p).flagShort p) := .ofRegs flagShort_regs
  exact .ite hshort ((hshort.trans (.flagFrame 6)).trans (camEvent_moves hp))
theorem frameEnded_moves (hp : p < 6) : CamMoves p lastFlds s (s.frameEnded p fe) :=
  ((CamMoves.setFld (f := CAM_LAST_WIDTH) _).trans (.setFld (f := CAM_LAST_LINES) _)).trans (frameEnded_moves_from hp).mono
theorem closeFrame_moves_from : CamMoves p [CAM_STATUS_STATE] (s.frameEnded p fe) (s.closeFrame p fe) :=
  (CamMoves.modOpen _).trans (.setFld _)
theorem closeFrame_moves (hp : p < 6) : CamMoves p (CAM_STATUS_STATE :: lastFlds) s (s.closeFrame p fe) :=
  ((frameEnded_moves hp).mono).trans ((closeFrame_moves_from).mono)

theorem closeFrame_state (hp : p < 6) : (s.closeFrame p fe).camState p = s.live CAM_PHY_EN p := by
  rw [closeFrame_eq, State.camState, fld_setFld _ _ _ _ _ (by decide), (frameEnded_moves hp).live hp]
  exact Nat.mod_eq_of_lt ((bits_lt _ _ _).trans_le (by decide))
theorem frameSized_last (s : State) (p : Nat) : (s.frameSized p).fld CAM_LAST_LINES p = min (s.camPort p).lines 16383 ∧
    (s.frameSized p).fld CAM_LAST_WIDTH p = min (s.camPort p).wide 16383 := by
  have hmod : ∀ n, min n 16383 % 2 ^ 14 = min n 16383 := fun n => Nat.mod_eq_of_lt (by omega)
  constructor
  · rw [State.frameSized, fld_setFld _ _ _ _ _ (by decide)]
    exact hmod _
  · rw [State.frameSized, fld_setFld_disj (by decide) (by decide), fld_setFld _ _ _ _ _ (by decide)]
    exact hmod _
theorem closeFrame_last (hp : p < 6) : (s.closeFrame p fe).fld CAM_LAST_LINES p = min (s.camPort p).lines 16383 ∧
    (s.closeFrame p fe).fld CAM_LAST_WIDTH p = min (s.camPort p).wide 16383 := by
  have hmoves : CamMoves p [CAM_STATUS_STATE] (s.frameSized p) (s.closeFrame p fe) :=
    ((frameEnded_moves_from hp).mono).trans (closeFrame_moves_from)
  rw [hmoves.fld hp, hmoves.fld hp]
  exact frameSized_last s p
/-- Without an FE the end of the frame is reported. -/
theorem closeFrame_evt (hp : p < 6) : (s.closeFrame p false).evtAt CAM_EVENT p 8 := by
  refine (closeFrame_moves_from).events _ ?_
  rw [State.frameEnded, if_neg Bool.false_ne_true, State.missFe]
  exact camEvent_evt hp

theorem openFrame_of_frames_eq {t : State} (h : (t.lp p).frames = (s.lp p).frames) : t.openFrame p = s.openFrame p := by
  rw [State.openFrame, h, State.openFrame]
/-- No frame is open once the open one is closed. -/
theorem shut_openFrame (s : State) (p : Nat) : (s.shut p).openFrame p = none := by
  rw [State.openFrame, State.shut, modOpen_frames, List.find?_eq_none]
  intro x hx
  obtain ⟨f, -, rfl⟩ := List.mem_map.1 hx
  cases hf : f.closed <;> simp [hf]
theorem closeFrame_openFrame : (s.closeFrame p fe).openFrame p = none := by
  rw [closeFrame_eq]
  exact (openFrame_of_frames_eq rfl).trans (shut_openFrame (s.frameEnded p fe) p)
end

end Sys2Proof.Machine
end


section
/-! Proofs/CameraFrames.lean: frames of a camera port (`Obligations.CameraFrames`, O31): the FS of a frame with and without credit, its end by an FE, a
timeout or a set with EN = 0, and long packets. -/

namespace Sys2Proof.Machine
open Sys2Proof Sys2Proof.Machine.Reg

set_option Elab.async false

/-! ### The commands -/

section
variable {s : State} {p : Nat} (hp : p < 6)
include hp

theorem exec_frameStart (vc hdr : Nat) (ecc : Bool) : exec (.frameStart p ⟨vc, hdr, ecc⟩) s = .next (s.frameStart p vc hdr ecc) := if_pos hp
theorem exec_frameEnd (vc hdr : Nat) : exec (.frameEnd p ⟨vc, hdr⟩) s = .next (s.frameEnd p vc hdr) := if_pos hp
theorem exec_longPacketRx (vc dt hdr : Nat) (ok full : Bool) (ds : List Nat) :
    exec (.longPacketRx p vc dt hdr ok full ds) s = .next (s.longPacket p vc dt hdr ok full ds) := if_pos hp
theorem exec_frameEndTimeout : exec (.frameEndTimeout p) s = .next
    (if s.camOpen p && decide (250000 * s.live CAM_STREAM_FETMO p ≤ s.rnd.clk - (s.camPort p).last) then s.closeFrame p false else s) := if_pos hp
end

/-! ### An FS begins a frame (R164) -/

/-- With no set waiting, the moment without a frame passes. -/
theorem camSafePoint_idle {s : State} {p : Nat} (hcam : s.flag CAM_PCTRL_COMMIT p = false) (hlp : s.flag ISP_LPCTRL_COMMIT p = false) (ecc : Bool) :
    s.camSafePoint p ecc = s := by
  simp [State.camSafePoint, hcam, hlp]

/-- SKIP until the frame has its credit, the centres taken, and no packet of the frame yet. -/
def State.fsSeen (s : State) (p : Nat) : State :=
  ((s.setFld CAM_STATUS_STATE 3 p).takeCentres p).modCamPort p (fun c => { c with once := [], wide := 0, lines := 0, last := s.rnd.clk })

section
variable {s : State} {p : Nat}

theorem openCam_eq : s.openCam p = ((s.fsSeen p).matchEdge p 5).1.openWith p s.rnd.clk ((s.fsSeen p).matchEdge p 5).2 := rfl

theorem fsSeen_moves : CamMoves p [CAM_STATUS_STATE] s (s.fsSeen p) := ((CamMoves.setFld _).trans (.modCamPort _)).trans (.modCamPort _)
theorem fsSeen_state : (s.fsSeen p).camState p = 3 := fld_setFld s CAM_STATUS_STATE 3 p 0 (by decide)
theorem fsSeen_lps : (s.fsSeen p).cam.lps = s.cam.lps := rfl
theorem fsSeen_edges (h : (s.camPort p).edges = []) : ((s.fsSeen p).camPort p).edges = [] := by
  have hstaged : ((s.setFld CAM_STATUS_STATE 3 p).camPort p).edges = [] := h
  have hkept : ((s.fsSeen p).camPort p).edges = (((s.setFld CAM_STATUS_STATE 3 p).takeCentres p).camPort p).edges :=
    camPort_modCamPort_leaves CamPort.edges fun _ => rfl
  rw [hkept, takeCentres_edges, hstaged, List.map_nil]

/-- An FS whose header can be read, on the channel of the pixel stream of an idle port, opens a frame. -/
theorem frameStart_opens {hdr : Nat} (hp : p < 6) (hcam : s.flag CAM_PCTRL_COMMIT p = false) (hlp : s.flag ISP_LPCTRL_COMMIT p = false)
    (hidle : s.camState p = 1) (hlisten : s.camListens p = true) (hhdr : hdr < 2) (ecc : Bool) :
    s.frameStart p (s.live CAM_STREAM_VC p) hdr ecc = (s.noteHeader p hdr).openCam p := by
  have hnote := noteHeader_moves (s := s) (p := p) hhdr
  have hclosed : (s.noteHeader p hdr).camOpen p = false := by
    rw [hnote.camOpen hp, State.camOpen, hidle]
    rfl
  have hready : (s.noteHeader p hdr).startFrame p (s.live CAM_STREAM_VC p) ecc = (s.noteHeader p hdr).openCam p := by
    have hcam' : (s.noteHeader p hdr).flag CAM_PCTRL_COMMIT p = false := (hnote.flag hp).trans hcam
    have hlp' : (s.noteHeader p hdr).flag ISP_LPCTRL_COMMIT p = false := (hnote.flag hp).trans hlp
    rw [State.startFrame, hclosed, if_neg Bool.false_ne_true, camSafePoint_idle hcam' hlp', hnote.camListens hp, hnote.live hp, hlisten]
    simp
  rw [State.frameStart, camSafePoint_idle hcam hlp]
  dsimp only
  rw [hlisten, if_neg (by simp), hnote.live hp, if_neg (by omega), hready]
end

/-! ### The frame gets its credit (R164, R172) -/

/-- Each step of a fold that carries a state along leaves what `g` reads of it. -/
theorem foldl_fst_leaves {α β γ : Type} {f : State × α → β → State × α} (g : State → γ) (h : ∀ x b, g (f x b).1 = g x.1)
    (l : List β) (x : State × α) :
    g (l.foldl f x).1 = g x.1 := by
  induction l generalizing x with
  | nil => rfl
  | cons b rest ih => exact (ih (f x b)).trans (h x b)

section
variable {s : State} {p now round tfl : Nat} {stamp bad : List Nat}

theorem takeDlvs_regs : (s.takeDlvs p bad).1.regs = s.regs :=
  (State.takeDlvs_only s p bad s (m' := 536870912)).2 (.refl _ s) .regs (by decide)
theorem takeDlvs_lps : (s.takeDlvs p bad).1.cam.lps = s.cam.lps := by
  refine foldl_fst_leaves (fun u => u.cam.lps) (fun x k => ?_) _ _
  dsimp only
  split <;> rfl

/-- Outputs of a shape that the window does not fit are counted and reported. -/
def State.geomNoted (s : State) (p tfl : Nat) (bad : List Nat) : State :=
  if bad.isEmpty then s else (s.count ISP_LPCNT2_GEOMSKIP 1 p).lpEvent p 1 4 (frameData (s.regN CAM_FCNT p) tfl)

theorem geomNoted_moves (hp : p < 6) : CamMoves p [ISP_LPCNT2_GEOMSKIP] s (s.geomNoted p tfl bad) :=
  .ite (.refl s) ((CamMoves.count 1).trans (lpEvent_moves hp))
theorem geomNoted_cam : (s.geomNoted p tfl bad).cam = s.cam := by
  unfold State.geomNoted
  split
  · rfl
  · rw [lpEvent_cam, count_cam]

/-- A frame with credit stands behind those of its pipeline, in a state that differs from `s` in the fields of `takenFlds` and in events alone. -/
theorem takeFrame_eq (s : State) (p now : Nat) (stamp : List Nat) (round tfl : Nat) : ∃ bad f, s.takeFrame p now stamp round tfl =
    (((((s.geomNoted p tfl bad).takeDlvs p bad).1.modLp p (fun l => { l with frames := l.frames ++ [f] })).setFld CAM_STATUS_STATE 2 p).noteLp p) :=
  ⟨_, _, rfl⟩

/-- What moves where a frame enters a pipeline. -/
def takenFlds : List Fld := [CAM_STATUS_STATE, ISP_LPCNT2_GEOMSKIP] ++ lpStatFlds

theorem takeFrame_moves (hp : p < 6) : CamMoves p takenFlds s (s.takeFrame p now stamp round tfl) := by
  obtain ⟨bad, f, heq⟩ := takeFrame_eq s p now stamp round tfl
  rw [heq]
  exact ((((geomNoted_moves hp).mono.trans (.ofRegs takeDlvs_regs)).trans (.modLp _)).trans (.setFld _)).trans (noteLp_moves _ _).mono
theorem takeFrame_state (hp : p < 6) : (s.takeFrame p now stamp round tfl).camState p = 2 := by
  obtain ⟨bad, f, heq⟩ := takeFrame_eq s p now stamp round tfl
  rw [heq, (noteLp_moves _ _).camState hp, State.camState, fld_setFld _ _ _ _ _ (by decide)]
  rfl
theorem takeFrame_frames (h : p < s.cam.lps.length) :
    ((s.takeFrame p now stamp round tfl).lp p).frames.length = (s.lp p).frames.length + 1 := by
  obtain ⟨bad, f, heq⟩ := takeFrame_eq s p now stamp round tfl
  have hlps : ((s.geomNoted p tfl bad).takeDlvs p bad).1.cam.lps = s.cam.lps := takeDlvs_lps.trans (congrArg Cam.lps geomNoted_cam)
  have hlp := lp_of_lps_eq hlps p
  have hadd := lp_modLp (f := fun l => { l with frames := l.frames ++ [f] }) (hlps.symm ▸ h)
  rw [heq, noteLp_lp]
  refine (congrArg (fun l => l.frames.length) (lp_of_lps_eq (congrArg Cam.lps (setFld_cam _ _ _ _ _)) p)).trans ?_
  rw [hadd, hlp, List.length_append, List.length_singleton]
end

section
variable {s : State} {p tfl : Nat}

/-- The FS of a frame without an edge and with credit is counted twice. -/
def State.nosyncCounted (s : State) (p : Nat) : State := (s.count CAM_CNT_FRM_NOSYNC 1 p).countWrap CAM_FCNT_FCNT 1 p

theorem noteFs_nosync : s.noteFs p true false true tfl = (s.nosyncCounted p).camEvent p 4 3 tfl := by
  simp only [State.noteFs, if_true, Bool.false_eq_true, if_false, State.nosyncCounted]

theorem regN_fcnt (s : State) (p : Nat) : s.regN CAM_FCNT p = s.fld CAM_FCNT_FCNT p := (bits_zero_32 _).symm

theorem nosyncCounted_moves : CamMoves p [CAM_CNT_FRM_NOSYNC, CAM_FCNT_FCNT] s (s.nosyncCounted p) := (CamMoves.count 1).trans (.setFld _)
theorem nosyncCounted_shows (hp : p < 6) : (s.nosyncCounted p).fld CAM_CNT_FRM_NOSYNC p = s.counted CAM_CNT_FRM_NOSYNC p ∧
    (s.nosyncCounted p).fld CAM_FCNT_FCNT p = (s.fld CAM_FCNT_FCNT p + 1) % 2 ^ 32 := by
  have hwrap : CamMoves p [CAM_FCNT_FCNT] (s.count CAM_CNT_FRM_NOSYNC 1 p) (s.nosyncCounted p) := .setFld _
  have hcount : CamMoves p [CAM_CNT_FRM_NOSYNC] s (s.count CAM_CNT_FRM_NOSYNC 1 p) := .count 1
  constructor
  · rw [hwrap.fld hp, fld_count_same _ _ _ _ (by decide)]
  · rw [State.nosyncCounted, State.countWrap, fld_setFld _ _ _ _ _ (by decide), hcount.fld hp]
    rfl
theorem noteFs_nosync_shows (hp : p < 6) : (s.noteFs p true false true tfl).fld CAM_CNT_FRM_NOSYNC p = s.counted CAM_CNT_FRM_NOSYNC p ∧
    (s.noteFs p true false true tfl).fld CAM_FCNT_FCNT p = (s.fld CAM_FCNT_FCNT p + 1) % 2 ^ 32 ∧ (s.noteFs p true false true tfl).evtAt CAM_EVENT p 4 := by
  have hevent : CamMoves p [] (s.nosyncCounted p) ((s.nosyncCounted p).camEvent p 4 3 tfl) := camEvent_moves hp
  rw [noteFs_nosync, hevent.fld hp, hevent.fld hp]
  exact ⟨(nosyncCounted_shows hp).1, (nosyncCounted_shows hp).2, camEvent_evt hp⟩
theorem noteFs_nosync_moves (hp : p < 6) : CamMoves p [CAM_CNT_FRM_NOSYNC, CAM_FCNT_FCNT] s (s.noteFs p true false true tfl) := by
  rw [noteFs_nosync]
  exact nosyncCounted_moves.trans (camEvent_moves hp)
theorem noteFs_nosync_lps : (s.noteFs p true false true tfl).cam.lps = s.cam.lps := by
  rw [noteFs_nosync, camEvent_lps, State.nosyncCounted, State.countWrap, setFld_cam, count_cam]

/-- A frame with a credit and no edge. -/
theorem openWith_credited {now : Nat} (hon : s.lpOn p = true) (hroom : (s.lp p).frames.length < 2) :
    ∃ stamp round, s.openWith p now none = (s.noteFs p true false true 1).takeFrame p now stamp round 1 := by
  have hcredit : (s.lpOn p && decide ((s.lp p).frames.length < 2)) = true := by simp [hon, hroom]
  unfold State.openWith
  dsimp only
  rw [hcredit, if_pos rfl]
  exact ⟨_, _, rfl⟩
end

theorem frameStart_takes {s : State} {p hdr : Nat} (hp : p < 6) (hhdr : hdr < 2) (ecc : Bool) (hthere : p < s.cam.lps.length)
    (hcam : s.flag CAM_PCTRL_COMMIT p = false) (hlp : s.flag ISP_LPCTRL_COMMIT p = false) (hidle : s.camState p = 1) (hlisten : s.camListens p = true)
    (hedges : (s.camPort p).edges = []) (hon : s.lpOn p = true) (hroom : (s.lp p).frames.length < 2) :
    Does (.frameStart p ⟨s.live CAM_STREAM_VC p, hdr, ecc⟩) s (fun t => t.camState p = 2 ∧ (t.lp p).frames.length = (s.lp p).frames.length + 1 ∧
      t.regN CAM_FCNT p = (s.regN CAM_FCNT p + 1) % 2 ^ 32 ∧ t.fld CAM_CNT_FRM_NOSYNC p = s.counted CAM_CNT_FRM_NOSYNC p ∧ t.evtAt CAM_EVENT p 4 ∧
      (hdr = 1 → t.fld CAM_CNT_PKT_HDRCOR p = s.counted CAM_CNT_PKT_HDRCOR p)) := by
  have hnote : CamMoves p [CAM_CNT_PKT_HDRCOR] s (s.noteHeader p hdr) := noteHeader_moves hhdr
  have hseen : CamMoves p [CAM_CNT_PKT_HDRCOR, CAM_STATUS_STATE] s ((s.noteHeader p hdr).fsSeen p) := hnote.mono.trans fsSeen_moves.mono
  have hlps : ((s.noteHeader p hdr).fsSeen p).cam.lps = s.cam.lps := fsSeen_lps.trans (congrArg Cam.lps (noteHeader_cam hhdr))
  have hnone : ((s.noteHeader p hdr).camPort p).edges = [] := by rw [State.camPort, noteHeader_cam hhdr]; exact hedges
  obtain ⟨stamp, round, htake⟩ := openWith_credited (s := (s.noteHeader p hdr).fsSeen p) (p := p) (now := (s.noteHeader p hdr).rnd.clk)
    ((hseen.lpOn hp).trans hon) (by rw [lp_of_lps_eq hlps]; exact hroom)
  have hopen : s.frameStart p (s.live CAM_STREAM_VC p) hdr ecc =
      (((s.noteHeader p hdr).fsSeen p).noteFs p true false true 1).takeFrame p (s.noteHeader p hdr).rnd.clk stamp round 1 := by
    rw [frameStart_opens hp hcam hlp hidle hlisten hhdr, openCam_eq, matchEdge_of_no_edges (fsSeen_edges hnone)]
    exact htake
  obtain ⟨hnosync, hfcnt, hevent⟩ := noteFs_nosync_shows (s := (s.noteHeader p hdr).fsSeen p) (tfl := 1) hp
  have hfs : CamMoves p [CAM_CNT_FRM_NOSYNC, CAM_FCNT_FCNT] _ (((s.noteHeader p hdr).fsSeen p).noteFs p true false true 1) := noteFs_nosync_moves hp
  have hlps' : (((s.noteHeader p hdr).fsSeen p).noteFs p true false true 1).cam.lps = s.cam.lps := noteFs_nosync_lps.trans hlps
  have htaken : CamMoves p takenFlds (((s.noteHeader p hdr).fsSeen p).noteFs p true false true 1)
      ((((s.noteHeader p hdr).fsSeen p).noteFs p true false true 1).takeFrame p (s.noteHeader p hdr).rnd.clk stamp round 1) := takeFrame_moves hp
  refine Does.intro ((exec_frameStart hp _ _ _).trans (congrArg _ hopen)) ⟨takeFrame_state hp, ?_, ?_, ?_, htaken.events _ hevent, fun hcor => ?_⟩
  · rw [takeFrame_frames (hlps'.symm ▸ hthere), lp_of_lps_eq hlps']
  · rw [regN_fcnt, htaken.fld hp, hfcnt, hseen.fld hp, regN_fcnt]
  · rw [htaken.fld hp, hnosync, hseen.counted hp]
  · subst hcor
    rw [htaken.fld hp, hfs.fld hp, fsSeen_moves.fld hp]
    exact fld_count_same s _ 1 p (by decide)

/-! ### A frame without credit is skipped (R164) -/

section
variable {s : State} {p now tfl : Nat} {e : Option Edge} {nosync miss : Bool}

/-- Without credit an FS counts a missing edge at most. -/
theorem noteFs_moves (hp : p < 6) : CamMoves p [CAM_CNT_FRM_NOSYNC] s (s.noteFs p nosync miss false tfl) := by
  have hcount : CamMoves p [CAM_CNT_FRM_NOSYNC] s (if nosync then s.count CAM_CNT_FRM_NOSYNC 1 p else s) := .ite (.count 1) (.refl s)
  unfold State.noteFs
  simp only [Bool.false_eq_true, if_false]
  refine CamMoves.trans ?_ (.ite (camEvent_moves hp) (.refl _))
  exact hcount.trans (.ite (camEvent_moves hp) (.refl _))
theorem noteFs_lps : (s.noteFs p nosync miss false tfl).cam.lps = s.cam.lps := by
  have hcount : (if nosync then s.count CAM_CNT_FRM_NOSYNC 1 p else s).cam.lps = s.cam.lps := by
    split
    · exact congrArg Cam.lps (count_cam _ _ _ _ _)
    · rfl
  have hevent : ∀ (c : Bool) (b sev : Nat) (u : State), (if c then u.camEvent p b sev tfl else u).cam.lps = u.cam.lps := fun c b sev u => by
    split
    · exact camEvent_lps
    · rfl
  unfold State.noteFs
  simp only [Bool.false_eq_true, if_false]
  rw [hevent, hevent, hcount]

theorem openWith_dropped (h : 2 ≤ (s.lp p).frames.length) :
    ∃ nosync miss tfl, s.openWith p now e = ((s.noteFs p nosync miss false tfl).count CAM_CNT_FRM_DROP 1 p).camEvent p 0 4 tfl := by
  have hcredit : (s.lpOn p && decide ((s.lp p).frames.length < 2)) = false := by
    rw [decide_eq_false (Nat.not_lt.2 h), Bool.and_false]
  unfold State.openWith
  dsimp only
  rw [hcredit, if_neg Bool.false_ne_true]
  exact ⟨_, _, _, rfl⟩
end

theorem frameStart_skips {s : State} {p hdr : Nat} (hp : p < 6) (hhdr : hdr < 2) (ecc : Bool) (hcam : s.flag CAM_PCTRL_COMMIT p = false)
    (hlp : s.flag ISP_LPCTRL_COMMIT p = false) (hidle : s.camState p = 1) (hlisten : s.camListens p = true) (hfull : 2 ≤ (s.lp p).frames.length) :
    Does (.frameStart p ⟨s.live CAM_STREAM_VC p, hdr, ecc⟩) s (fun t => t.camState p = 3 ∧ (t.lp p).frames.length = (s.lp p).frames.length ∧
      t.regN CAM_FCNT p = s.regN CAM_FCNT p ∧ t.fld CAM_CNT_FRM_DROP p = s.counted CAM_CNT_FRM_DROP p ∧ t.evtAt CAM_EVENT p 0) := by
  have hseen : CamMoves p [CAM_CNT_PKT_HDRCOR, CAM_STATUS_STATE] s ((s.noteHeader p hdr).fsSeen p) :=
    (noteHeader_moves hhdr).mono.trans fsSeen_moves.mono
  have hmatch : CamMoves p [CAM_CNT_MISC_FSLOST] _ (((s.noteHeader p hdr).fsSeen p).matchEdge p 5).1 := matchEdge_moves hp 5
  have hlps : (((s.noteHeader p hdr).fsSeen p).matchEdge p 5).1.cam.lps = s.cam.lps :=
    (matchEdge_lps 5).trans (fsSeen_lps.trans (congrArg Cam.lps (noteHeader_cam hhdr)))
  obtain ⟨nosync, miss, tfl, hdrop⟩ := openWith_dropped (s := (((s.noteHeader p hdr).fsSeen p).matchEdge p 5).1) (p := p)
    (now := (s.noteHeader p hdr).rnd.clk) (e := (((s.noteHeader p hdr).fsSeen p).matchEdge p 5).2) (by rw [lp_of_lps_eq hlps]; exact hfull)
  have hopen := (frameStart_opens hp hcam hlp hidle hlisten hhdr ecc).trans (openCam_eq.trans hdrop)
  generalize (((s.noteHeader p hdr).fsSeen p).matchEdge p 5).1 = v at hmatch hlps hopen
  have hfs : CamMoves p [CAM_CNT_FRM_NOSYNC] v (v.noteFs p nosync miss false tfl) := noteFs_moves hp
  have hcount : CamMoves p [CAM_CNT_FRM_DROP] (v.noteFs p nosync miss false tfl) ((v.noteFs p nosync miss false tfl).count CAM_CNT_FRM_DROP 1 p) := .count 1
  have hevent : CamMoves p [] ((v.noteFs p nosync miss false tfl).count CAM_CNT_FRM_DROP 1 p)
      (((v.noteFs p nosync miss false tfl).count CAM_CNT_FRM_DROP 1 p).camEvent p 0 4 tfl) := camEvent_moves hp
  refine Does.intro ((exec_frameStart hp _ _ _).trans (congrArg _ hopen)) ⟨?_, ?_, ?_, ?_, camEvent_evt hp⟩
  · rw [hevent.camState hp, hcount.camState hp, hfs.camState hp, hmatch.camState hp, fsSeen_state]
  · rw [camEvent_lp, lp_of_lps_eq (congrArg Cam.lps (count_cam _ _ _ _ _)), lp_of_lps_eq (noteFs_lps.trans hlps)]
  · rw [regN_fcnt, hevent.fld hp, hcount.fld hp, hfs.fld hp, hmatch.fld hp, hseen.fld hp, regN_fcnt]
  · rw [hevent.fld hp, fld_count_same _ _ _ _ (by decide), hfs.counted hp, hmatch.counted hp, hseen.counted hp]

/-! ### Short packets of other channels, and headers that are lost (R163, R164) -/

section
variable {s : State} {p : Nat} (hp : p < 6)
include hp

theorem frameStart_otherChannel {vc : Nat} (hcam : s.flag CAM_PCTRL_COMMIT p = false) (hlp : s.flag ISP_LPCTRL_COMMIT p = false)
    (hvc : s.live CAM_STREAM_VC p ≠ vc) (ecc : Bool) : exec (.frameStart p ⟨vc, 0, ecc⟩) s = .next s := by
  rw [exec_frameStart hp, State.frameStart, camSafePoint_idle hcam hlp]
  simp only [noteHeader_good, hvc, ne_eq, not_false_eq_true, or_true, if_true, ite_self]

theorem shortPacket_lost {vc : Nat} {ecc : Bool} {c : Instr} (hc : c ∈ [Instr.frameStart p ⟨vc, 2, ecc⟩, Instr.frameEnd p ⟨vc, 2⟩])
    (hcam : s.flag CAM_PCTRL_COMMIT p = false) (hlp : s.flag ISP_LPCTRL_COMMIT p = false) (hlisten : s.camListens p = true) :
    Does c s (fun t => t.fld CAM_CNT_PKT_HDRERR p = s.counted CAM_CNT_PKT_HDRERR p ∧ t.evtAt CAM_EVENT p 1 ∧ t.camState p = s.camState p) := by
  have hexec : exec c s = .next (s.noteHeader p 2) := by
    simp only [List.mem_cons, List.not_mem_nil, or_false] at hc
    obtain rfl | rfl := hc
    · rw [exec_frameStart hp, State.frameStart, camSafePoint_idle hcam hlp]
      dsimp only
      rw [hlisten, if_neg (by simp), if_pos (.inl rfl)]
    · rw [exec_frameEnd hp, State.frameEnd, hlisten, if_neg (by simp)]
      dsimp only
      rw [if_neg fun h => h.1 rfl]
  exact Does.intro hexec (noteHeader_lost hp)

/-! ### A frame ends (R165) -/

theorem frameEnd_closes {hdr : Nat} (hhdr : hdr < 2) (hopen : s.camOpen p = true) (hlisten : s.camListens p = true) :
    Does (.frameEnd p ⟨s.live CAM_STREAM_VC p, hdr⟩) s (fun t => t.camState p = 1 ∧ t.openFrame p = none ∧
      t.fld CAM_LAST_LINES p = min (s.camPort p).lines 16383 ∧ t.fld CAM_LAST_WIDTH p = min (s.camPort p).wide 16383) := by
  have hnote := noteHeader_moves (s := s) (p := p) hhdr
  have hen : s.live CAM_PHY_EN p = 1 := by simpa using (Bool.and_eq_true_iff.1 hlisten).1
  have hport : (s.noteHeader p hdr).camPort p = s.camPort p := by rw [State.camPort, noteHeader_cam hhdr, State.camPort]
  have hend : s.frameEnd p (s.live CAM_STREAM_VC p) hdr = (s.noteHeader p hdr).closeFrame p true := by
    have hgoes : hdr ≠ 2 ∧ (s.noteHeader p hdr).camOpen p = true ∧ (s.noteHeader p hdr).live CAM_STREAM_VC p = s.live CAM_STREAM_VC p :=
      ⟨by omega, (hnote.camOpen hp).trans hopen, hnote.live hp⟩
    rw [State.frameEnd, hlisten, if_neg (by simp)]
    dsimp only
    rw [if_pos hgoes]
  obtain ⟨hlines, hwidth⟩ := closeFrame_last (s := s.noteHeader p hdr) (fe := true) hp
  rw [hport] at hlines hwidth
  refine Does.intro ((exec_frameEnd hp _ _).trans (congrArg _ hend)) ⟨?_, closeFrame_openFrame, hlines, hwidth⟩
  rw [closeFrame_state hp, hnote.live hp, hen]

theorem frameEnd_idle (h : s.camOpen p = false) (vc : Nat) : exec (.frameEnd p ⟨vc, 0⟩) s = .next s := by
  rw [exec_frameEnd hp, State.frameEnd]
  simp only [noteHeader_good, h, Bool.false_eq_true, false_and, and_false, if_false, ite_self]

theorem frameEndTimeout_closes (hopen : s.camOpen p = true) (hlate : 250000 * s.live CAM_STREAM_FETMO p ≤ s.rnd.clk - (s.camPort p).last) :
    Does (.frameEndTimeout p) s (fun t => t.camState p = s.live CAM_PHY_EN p ∧ t.openFrame p = none ∧ t.evtAt CAM_EVENT p 8) :=
  Does.intro ((exec_frameEndTimeout hp).trans (congrArg _ (if_pos (by simp [hopen, hlate]))))
    ⟨closeFrame_state hp, closeFrame_openFrame, closeFrame_evt hp⟩
theorem frameEndTimeout_early (h : s.rnd.clk - (s.camPort p).last < 250000 * s.live CAM_STREAM_FETMO p) : exec (.frameEndTimeout p) s = .next s :=
  (exec_frameEndTimeout hp).trans (congrArg _ (if_neg (by simp [h])))
end

/-! ### A set with EN = 0 ends the frame (R165, R180) -/

/-- The virtual channels in use read the same where the descriptors and contexts in force do. -/
theorem txVcs_of_reg_eq {s t : State} {p : Option Nat} {qc : Option (Nat × Nat)} (hrps : t.cam.rps = s.cam.rps)
    (hdlv : ∀ i < 6, ∀ k < 6, ∀ r ∈ [CAM_DLVCFG, CAM_DLVADDR], t.liveN r i k = s.liveN r i k)
    (hctx : ∀ q c, t.live ISP_RPCCTRL_EN q c = s.live ISP_RPCCTRL_EN q c) : t.txVcs p qc = s.txVcs p qc := by
  have hrp : ∀ q, t.rp q = s.rp q := fun q => by rw [State.rp, hrps, State.rp]
  unfold State.txVcs
  simp only [hrp, hctx]
  congr 1
  refine List.flatMap_congr fun i hi => ?_
  congr 1
  refine List.filterMap_congr fun k hk => ?_
  rw [hdlv i (List.mem_range.1 hi) k (List.mem_range.1 hk) _ (by simp), hdlv i (List.mem_range.1 hi) k (List.mem_range.1 hk) _ (by simp)]

/-- What a set is judged by is not in the register of its COMMIT. -/
theorem camReject_setCommit (s : State) {p : Nat} (hp : p < 6) (v : Nat) : (s.setFld CAM_PCTRL_COMMIT v p).camReject p = s.camReject p := by
  have hmoves : CamMoves p [CAM_PCTRL_COMMIT] s (s.setFld CAM_PCTRL_COMMIT v p) := .setFld v
  have hreg : ∀ a, a ≠ CAM_PCTRL.at p → (s.setFld CAM_PCTRL_COMMIT v p).reg a = s.reg a := fun a ha => reg_setFld_ne ha
  have hdlv : ∀ k, ∀ r ∈ [CAM_DLVCFG, CAM_DLVADDR, CAM_DLVSIZE], (s.setFld CAM_PCTRL_COMMIT v p).regN r p k = s.regN r p k := fun k => by
    simp only [List.forall_mem_cons, List.not_mem_nil, false_imp_iff, implies_true, and_true]
    refine ⟨?_, ?_, ?_⟩ <;> exact congrArg BitVec.toNat (hreg _ (by simp only [Rg.at, CAM_DLVCFG, CAM_DLVADDR, CAM_DLVSIZE, CAM_PCTRL]; omega))
  simp only [List.forall_mem_cons, List.not_mem_nil, false_imp_iff, implies_true, and_true] at hdlv
  have htx : (s.setFld CAM_PCTRL_COMMIT v p).txVcs (some p) none = s.txVcs (some p) none := by
    refine txVcs_of_reg_eq rfl (fun i hi k hk => ?_) fun q c => ?_
    · simp only [List.forall_mem_cons, List.not_mem_nil, false_imp_iff, implies_true, and_true]
      constructor <;> exact congrArg BitVec.toNat (hreg _ (by simp only [Rg.at, CAM_DLVCFG, CAM_DLVADDR, CAM_PCTRL]; omega))
    · exact congrArg (bits · _ _) (hreg _ (by simp only [Rg.at, ISP_RPCCTRL_EN, ISP_RPCCTRL, CAM_PCTRL]; omega))
  unfold State.camReject
  simp only [htx, hdlv, hmoves.flag hp (f := CAM_PHY_PHY), hmoves.fld hp (f := CAM_PHY_WIDTH), hmoves.fld hp (f := CAM_PHY_MAP),
    hmoves.fld hp (f := CAM_PHY_RATE), hmoves.fld hp (f := CAM_WIN_WH_W), hmoves.fld hp (f := CAM_WIN_WH_H), hmoves.fld hp (f := CAM_WIN_XY_X0),
    hmoves.fld hp (f := CAM_WIN_XY_Y0), hmoves.fld hp (f := CAM_STREAM_DT), hmoves.fld hp (f := CAM_STREAM_EMBMAX),
    hmoves.fld hp (f := CAM_STREAM_FETMO), hmoves.fld hp (f := CAM_SYNC_FSMAX)]

/-- A set of another window drops the reference, and a new destination starts its count again. -/
def State.camRenewed (s : State) (p : Nat) : State :=
  (s.dropRef p (decide (s.reg (CAM_WIN_WH.at p) ≠ s.reg (CAM_WIN_WH.at p + 0x800)))).modCamPort p fun c => { c with
    counts := (List.range 6).map fun k =>
      let u := s.dropRef p (decide (s.reg (CAM_WIN_WH.at p) ≠ s.reg (CAM_WIN_WH.at p + 0x800)))
      if destChanged (u.liveN CAM_DLVCFG p k) (u.liveN CAM_DLVADDR p k) (u.liveN CAM_DLVSIZE p k) (u.regN CAM_DLVCFG p k) (u.regN CAM_DLVADDR p k)
        (u.regN CAM_DLVSIZE p k) then (0, 0) else c.counts.getD k (0, 0) }

/-- The registers of a port's set are in force. -/
def State.camInForce (s : State) (p : Nat) : State :=
  (List.range 6).foldl (fun s k => ((s.apply1 CAM_DLVCFG p k).apply1 CAM_DLVADDR p k).apply1 CAM_DLVSIZE p k)
    ([CAM_PHY, CAM_STREAM, CAM_WIN_XY, CAM_WIN_WH, CAM_SYNC].foldl (fun s r => s.apply1 r p 0) s)

/-- A port shows its new set. -/
def State.camShown (s : State) (p : Nat) : State := ((s.setFld CAM_STATUS_STATE (s.live CAM_PHY_EN p) p).noteLp p).camEvent p 12 1 0

section
variable {s : State} {p : Nat}

theorem camRenewed_regs : (s.camRenewed p).regs = s.regs := by
  have hdrop : ∀ c, (s.dropRef p c).regs = s.regs := fun c => by cases c <;> rfl
  exact hdrop _
theorem camRenewed_frames : ((s.camRenewed p).lp p).frames = (s.lp p).frames := by
  have hdrop : ∀ c, ((s.dropRef p c).lp p).frames = (s.lp p).frames := fun c => by
    cases c
    · rfl
    · exact lp_modLp_leaves LivePipe.frames fun _ => rfl
  exact hdrop _

/-- What is put in force leaves the lower half of every page. -/
theorem apply1_lower {r : Rg} {i j a : Nat} (ha : a % 0x1000 < 0x800) (hs : r.s1 = 0x1000) (hj : r.base % 0x1000 + r.s2 * j < 0x800) :
    (s.apply1 r i j).reg a = s.reg a := by
  refine apply1_reg_ne s r i j ?_
  rw [Rg.at, hs]
  omega
theorem camInForce_lower {a : Nat} (ha : a % 0x1000 < 0x800) : (s.camInForce p).reg a = s.reg a := by
  refine (foldl_reg (fun k hk u => ?_) _).trans (foldl_reg (fun r hr u => ?_) s)
  · have hk := List.mem_range.1 hk
    have hrow : ∀ r ∈ [CAM_DLVCFG, CAM_DLVADDR, CAM_DLVSIZE], r.s1 = 0x1000 ∧ r.base % 0x1000 < 0x200 ∧ r.s2 = 0x10 := by decide
    have hlower : ∀ r ∈ [CAM_DLVCFG, CAM_DLVADDR, CAM_DLVSIZE], ∀ v : State, (v.apply1 r p k).reg a = v.reg a := fun r hr v => by
      obtain ⟨hs, hb, hs2⟩ := hrow r hr
      exact apply1_lower ha hs (by rw [hs2]; omega)
    rw [hlower _ (by simp), hlower _ (by simp), hlower _ (by simp)]
  · have hrow : ∀ r ∈ [CAM_PHY, CAM_STREAM, CAM_WIN_XY, CAM_WIN_WH, CAM_SYNC], r.s1 = 0x1000 ∧ r.base % 0x1000 + r.s2 * 0 < 0x800 := by decide
    exact apply1_lower ha (hrow r hr).1 (hrow r hr).2
/-- EN in force is the staged one. -/
theorem camInForce_en : (s.camInForce p).live CAM_PHY_EN p = s.fld CAM_PHY_EN p := by
  have hdlv : (s.camInForce p).reg (CAM_PHY.at p + 0x800) =
      ([CAM_PHY, CAM_STREAM, CAM_WIN_XY, CAM_WIN_WH, CAM_SYNC].foldl (fun s r => s.apply1 r p 0) s).reg (CAM_PHY.at p + 0x800) := by
    refine foldl_reg (fun k _ u => ?_) _
    rw [apply1_reg_ne, apply1_reg_ne, apply1_reg_ne] <;> simp only [Rg.at, CAM_DLVCFG, CAM_DLVADDR, CAM_DLVSIZE, CAM_PHY] <;> omega
  have hphy : ([CAM_PHY, CAM_STREAM, CAM_WIN_XY, CAM_WIN_WH, CAM_SYNC].foldl (fun s r => s.apply1 r p 0) s).reg (CAM_PHY.at p + 0x800) =
      s.reg (CAM_PHY.at p) := by
    simp only [List.foldl_cons, List.foldl_nil]
    rw [apply1_reg_ne, apply1_reg_ne, apply1_reg_ne, apply1_reg_ne, apply1_reg_same] <;>
      simp only [Rg.at, CAM_STREAM, CAM_WIN_XY, CAM_WIN_WH, CAM_SYNC, CAM_PHY] <;> omega
  rw [State.live, show CAM_PHY_EN.rg = CAM_PHY from rfl, hdlv, hphy, State.fld]
  rfl

theorem camInForce_cam : (s.camInForce p).cam = s.cam := by
  have hforce : Only 1 s (s.camInForce p) := (only_foldl fun v k => by simp [Only.refl]).2 ((only_foldl fun v r => by simp [Only.refl]).2 (.refl _ _))
  exact hforce .cam (by decide)

theorem camShown_moves (hp : p < 6) : CamMoves p (CAM_STATUS_STATE :: lpStatFlds) s (s.camShown p) :=
  ((CamMoves.setFld _).trans (noteLp_moves _ _).mono).trans (camEvent_moves hp)
theorem camShown_state (hp : p < 6) : (s.camShown p).camState p = s.live CAM_PHY_EN p := by
  have hevent : CamMoves p [] ((s.setFld CAM_STATUS_STATE (s.live CAM_PHY_EN p) p).noteLp p) (s.camShown p) := camEvent_moves hp
  rw [hevent.camState hp, (noteLp_moves _ _).camState hp, State.camState, fld_setFld _ _ _ _ _ (by decide)]
  exact Nat.mod_eq_of_lt ((bits_lt _ _ _).trans_le (by decide))
theorem camShown_lp : (s.camShown p).lp p = s.lp p := by
  rw [State.camShown, camEvent_lp, noteLp_lp, lp_of_lps_eq (congrArg Cam.lps (setFld_cam _ _ _ _ _))]

/-- A set that passes its checks closes the open frame and is in force. -/
theorem applyCam_accepted (hp : p < 6) (hopen : s.camOpen p = true) (hok : s.camReject p = 0) :
    s.applyCam p = ((((s.setFld CAM_PCTRL_COMMIT 0 p).closeFrame p false).camRenewed p).camInForce p).camShown p := by
  have hmoves : CamMoves p [CAM_PCTRL_COMMIT] s (s.setFld CAM_PCTRL_COMMIT 0 p) := .setFld 0
  unfold State.applyCam
  dsimp only
  rw [camReject_setCommit s hp, if_neg (not_not_intro hok), hmoves.camOpen hp, if_pos hopen]
  rfl
end

theorem stagedSetApply_endsFrame {s : State} {p : Nat} (hp : p < 6) (ecc : Bool) (hcommit : s.committed (.cam p) = true) (hopen : s.camOpen p = true)
    (hoff : s.fld CAM_PHY_EN p = 0) (hok : s.camReject p = 0) (hthere : s.camDropped p = false) :
    Does (.stagedSetApply (.cam p) ecc) s (fun t => t.camState p = 0 ∧ t.openFrame p = none ∧ t.fld CAM_PCTRL_COMMIT p = 0 ∧ t.evtAt CAM_EVENT p 8 ∧
      t.evtAt CAM_EVENT p 12) := by
  have hsafe : s.safeNow (.cam p) = true := by simp [State.safeNow, State.camSafe, hoff, hthere]
  have hexec : exec (.stagedSetApply (.cam p) ecc) s = .next (s.applyCam p) := by
    refine (if_pos (decide_eq_true hp)).trans (congrArg _ ?_)
    rw [State.safePoint, hcommit, hsafe]
    rfl
  have hclose : CamMoves p (CAM_STATUS_STATE :: lastFlds) _ ((s.setFld CAM_PCTRL_COMMIT 0 p).closeFrame p false) := closeFrame_moves hp
  have hevent := closeFrame_evt (s := s.setFld CAM_PCTRL_COMMIT 0 p) hp
  have hshut := closeFrame_openFrame (s := s.setFld CAM_PCTRL_COMMIT 0 p) (p := p) (fe := false)
  have hset : CamMoves p [CAM_PCTRL_COMMIT] s (s.setFld CAM_PCTRL_COMMIT 0 p) := .setFld 0
  have hdone : (s.setFld CAM_PCTRL_COMMIT 0 p).fld CAM_PCTRL_COMMIT p = 0 := fld_setFld _ _ _ _ _ (by decide)
  rw [applyCam_accepted hp hopen hok] at hexec
  generalize (s.setFld CAM_PCTRL_COMMIT 0 p).closeFrame p false = u at hclose hevent hshut hexec
  have hforce : ∀ a, a % 0x1000 < 0x800 → ((u.camRenewed p).camInForce p).reg a = u.reg a := fun a ha =>
    (camInForce_lower ha).trans (reg_of_regs_eq camRenewed_regs a)
  have hlow : ∀ r : Rg, r.s1 = 0x1000 ∧ r.base % 0x1000 < 0x800 → ∀ p, r.at p % 0x1000 < 0x800 := fun r hr p => by
    rw [Rg.at, hr.1]
    omega
  have hshown : CamMoves p (CAM_STATUS_STATE :: lpStatFlds) _ (((u.camRenewed p).camInForce p).camShown p) := camShown_moves hp
  refine Does.intro hexec ⟨?_, ?_, ?_, hshown.events _ ?_, camEvent_evt hp⟩
  · rw [camShown_state hp, camInForce_en, fld_of_regs_eq camRenewed_regs, hclose.fld hp, hset.fld hp, hoff]
  · rw [openFrame_of_frames_eq, hshut]
    rw [camShown_lp, lp_of_lps_eq (congrArg Cam.lps camInForce_cam), camRenewed_frames]
  · rw [hshown.fld hp, fld_of_reg_eq (hforce _ (hlow _ (by decide) p)), hclose.fld hp, hdone]
  · rw [State.evtAt, hforce _ (hlow _ (by decide) p)]
    exact hevent

/-! ### Long packets (R162, R163, R168) -/

section
variable {s : State} {p vc dt : Nat} {ok full : Bool} {ds : List Nat} (hp : p < 6) (hlisten : s.camListens p = true)
include hp hlisten

theorem longPacketRx_lost : Does (.longPacketRx p vc dt 2 ok full ds) s (fun t =>
    t.fld CAM_CNT_PKT_HDRERR p = s.counted CAM_CNT_PKT_HDRERR p ∧ t.evtAt CAM_EVENT p 1 ∧ t.camState p = s.camState p) := by
  have hlong : s.longPacket p vc dt 2 ok full ds = s.noteHeader p 2 := by
    rw [State.longPacket, hlisten, if_neg (by simp), if_pos rfl]
  exact Does.intro ((exec_longPacketRx hp _ _ _ _ _ _).trans (congrArg _ hlong)) (noteHeader_lost hp)

omit hp in
/-- A packet whose header is good is judged by its channel and data type. -/
theorem longPacket_good : s.longPacket p vc dt 0 ok full ds =
    if dt = 0x10 ∨ dt = 0x11 then s
    else if decide (vc = s.live CAM_STREAM_VC p) && decide (dt = s.live CAM_STREAM_DT p) then
      if s.camOpen p then s.pixelLine p ok full ds else s.count CAM_CNT_MISC_ORPHAN 1 p
    else if decide (s.live CAM_STREAM_EMBEN p = 1 ∧ vc = s.live CAM_STREAM_EMBVC p) && decide (dt = 0x12) then
      if s.camOpen p then s.embeddedLine p ok ds else s
    else if decide (vc = s.live CAM_STREAM_VC p) || decide (s.live CAM_STREAM_EMBEN p = 1 ∧ vc = s.live CAM_STREAM_EMBVC p) then
      (s.count CAM_CNT_MISC_DT_UNSUP 1 p).camEvent p 10 2 ((s.count CAM_CNT_MISC_DT_UNSUP 1 p).openFlags p)
    else s := by
  rw [State.longPacket, hlisten, if_neg (by simp), if_neg (by decide)]
  rfl

theorem longPacketRx_blank (hdt : dt = 0x10 ∨ dt = 0x11) : exec (.longPacketRx p vc dt 0 ok full ds) s = .next s := by
  rw [exec_longPacketRx hp, longPacket_good hlisten, if_pos hdt]

theorem longPacketRx_orphan (hvc : vc = s.live CAM_STREAM_VC p) (hdt : dt = s.live CAM_STREAM_DT p) (hnull : dt ≠ 0x10) (hblank : dt ≠ 0x11)
    (hclosed : s.camOpen p = false) : Does (.longPacketRx p vc dt 0 ok full ds) s (fun t =>
      t.fld CAM_CNT_MISC_ORPHAN p = s.counted CAM_CNT_MISC_ORPHAN p ∧ sameRegsBut [CAM_CNT_MISC.at p] s t ∧ t.cam = s.cam) := by
  have hlong : s.longPacket p vc dt 0 ok full ds = s.count CAM_CNT_MISC_ORPHAN 1 p := by
    rw [longPacket_good hlisten, if_neg (by simp [hnull, hblank]), if_pos (by simp [hvc, hdt]), hclosed, if_neg Bool.false_ne_true]
  exact Does.intro ((exec_longPacketRx hp _ _ _ _ _ _).trans (congrArg _ hlong))
    ⟨fld_count_same _ _ _ _ (by decide), setFld_sameRegsBut _ _ _ _ (List.mem_singleton.2 rfl), count_cam _ _ _ _ _⟩

theorem longPacketRx_unsupported (hvc : vc = s.live CAM_STREAM_VC p) (hdt : dt ≠ s.live CAM_STREAM_DT p) (hnull : dt ≠ 0x10) (hblank : dt ≠ 0x11)
    (hemb : s.live CAM_STREAM_EMBEN p = 0) : Does (.longPacketRx p vc dt 0 ok full ds) s (fun t =>
      t.fld CAM_CNT_MISC_DT_UNSUP p = s.counted CAM_CNT_MISC_DT_UNSUP p ∧ t.evtAt CAM_EVENT p 10 ∧ t.camState p = s.camState p) := by
  have hlong : s.longPacket p vc dt 0 ok full ds =
      (s.count CAM_CNT_MISC_DT_UNSUP 1 p).camEvent p 10 2 ((s.count CAM_CNT_MISC_DT_UNSUP 1 p).openFlags p) := by
    rw [longPacket_good hlisten, if_neg (by simp [hnull, hblank]), if_neg (by simp [hdt]), if_neg (by simp [hemb]), if_pos (by simp [hvc])]
  have hcount : CamMoves p [CAM_CNT_MISC_DT_UNSUP] s (s.count CAM_CNT_MISC_DT_UNSUP 1 p) := .count 1
  have hevent : CamMoves p [] (s.count CAM_CNT_MISC_DT_UNSUP 1 p)
      ((s.count CAM_CNT_MISC_DT_UNSUP 1 p).camEvent p 10 2 ((s.count CAM_CNT_MISC_DT_UNSUP 1 p).openFlags p)) := camEvent_moves hp
  refine Does.intro ((exec_longPacketRx hp _ _ _ _ _ _).trans (congrArg _ hlong)) ⟨?_, camEvent_evt hp, ?_⟩
  · rw [hevent.fld hp, fld_count_same _ _ _ _ (by decide)]
  · rw [hevent.camState hp, hcount.camState hp]
end

/-! ### A line of the pixel stream (R166) -/

/-- The row that a line gives a frame: the samples of its window, each at the top of 16 bits. -/
def Frame.rowOf (f : Frame) (ds : List Nat) (pad : Nat) : List Nat :=
  (List.range f.w).map (fun x => ds.getD (f.x0 + x) pad * 2 ^ (16 - dtBits f.dt) % 65536)

/-- The frame has row `j`, received at tick `now`. -/
def Frame.addRow (f : Frame) (j : Nat) (row : List Nat) (now : Nat) : Frame := { f with rows := f.rows ++ [(j, row)], lastAt := now }

/-- A line as long as the window needs is not padded. -/
theorem rowOf_long {f : Frame} {ds : List Nat} (h : f.x0 + f.w ≤ ds.length) (pad : Nat) : f.rowOf ds pad = f.rowOf ds 0 := by
  refine List.map_congr_left fun x hx => ?_
  have hx := List.mem_range.1 hx
  have hin : f.x0 + x < ds.length := by omega
  rw [List.getD_eq_getElem _ _ hin, List.getD_eq_getElem _ _ hin]

/-- The line is one more of the frame, received now. -/
def State.lineSeen (s : State) (p len : Nat) : State :=
  s.modCamPort p (fun c => { c with lines := c.lines + 1, wide := max c.wide len, last := s.rnd.clk })

theorem pixelLine_inWindow {s : State} {p : Nat} {ds : List Nat} {f : Frame} (hframes : (s.lp p).frames = [f]) (hopen : f.closed = false)
    (hfrom : f.y0 ≤ (s.camPort p).lines) (hto : (s.camPort p).lines < f.y0 + f.h) (hlong : f.x0 + f.w ≤ ds.length) :
    ∃ pad, s.pixelLine p true false ds =
      ((s.lineSeen p ds.length).modOpen p (fun g => g.addRow ((s.camPort p).lines - g.y0) (f.rowOf ds pad) s.rnd.clk)).draw := by
  have hfound : (s.lineSeen p ds.length).openFrame p = some f := by
    have hkept : ((s.lineSeen p ds.length).lp p).frames = [f] := hframes
    rw [State.openFrame, hkept]
    simp [hopen]
  unfold State.pixelLine
  dsimp only
  rw [if_pos rfl]
  unfold State.lineSeen at hfound
  rw [hfound]
  dsimp only
  rw [if_neg (by omega), if_neg Bool.false_ne_true, decide_eq_false (Nat.not_lt.2 hlong), Bool.false_and, if_neg Bool.false_ne_true]
  exact ⟨_, rfl⟩

theorem longPacketRx_pixels {s : State} {p vc dt : Nat} {ds : List Nat} {f : Frame} (hp : p < 6) (hlisten : s.camListens p = true)
    (hvc : vc = s.live CAM_STREAM_VC p) (hdt : dt = s.live CAM_STREAM_DT p) (hnull : dt ≠ 0x10) (hblank : dt ≠ 0x11) (hport : s.camOpen p = true)
    (hframes : (s.lp p).frames = [f]) (hopen : f.closed = false) (hfrom : f.y0 ≤ (s.camPort p).lines)
    (hto : (s.camPort p).lines < f.y0 + f.h) (hlong : f.x0 + f.w ≤ ds.length) : Does (.longPacketRx p vc dt 0 true false ds) s (fun t =>
      (t.lp p).frames = [f.addRow ((s.camPort p).lines - f.y0) (f.rowOf ds 0) s.rnd.clk] ∧ t.regs = s.regs) := by
  obtain ⟨pad, hline⟩ := pixelLine_inWindow hframes hopen hfrom hto hlong
  have hpacket : s.longPacket p vc dt 0 true false ds = s.pixelLine p true false ds := by
    rw [longPacket_good hlisten, if_neg (by simp [hnull, hblank]), if_pos (by simp [hvc, hdt]), if_pos hport]
  refine Does.intro ((exec_longPacketRx hp _ _ _ _ _ _).trans (congrArg _ (hpacket.trans hline))) ⟨?_, rfl⟩
  have hkept : ((s.lineSeen p ds.length).lp p).frames = [f] := hframes
  refine (modOpen_frames (s.lineSeen p ds.length) p _).trans ?_
  rw [hkept, rowOf_long hlong]
  simp [hopen]

/-- Settles O31: the FS of a frame by what opening it leaves of its port, its end by what the close shows, long packets by the branch they take. -/
theorem cameraFrames : Obligations.CameraFrames := by
  unfold Obligations.CameraFrames
  refine ⟨?_, ?_, ?_, ?_, ?_, ?_, ?_, ?_, ?_, ?_, ?_, ?_, ?_, ?_⟩
  · intro s p hp vc hdr hhdr ecc hthere hcam hlp hidle hlisten hvc hedges hon hroom
    exact hvc ▸ frameStart_takes hp hhdr ecc hthere hcam hlp hidle hlisten hedges hon hroom
  · intro s p hp vc hdr hhdr ecc hcam hlp hidle hlisten hvc hfull
    exact hvc ▸ frameStart_skips hp hhdr ecc hcam hlp hidle hlisten hfull
  · exact fun s p hp vc ecc hcam hlp hvc => frameStart_otherChannel hp hcam hlp hvc ecc
  · exact fun s p hp vc ecc c hc hcam hlp hlisten => shortPacket_lost hp hc hcam hlp hlisten
  · exact fun s p hp ecc hcommit hopen hoff hok hthere => stagedSetApply_endsFrame hp ecc hcommit hopen hoff hok hthere
  · exact fun s p hp vc hdr hhdr hopen hlisten hvc => hvc ▸ frameEnd_closes hp hhdr hopen hlisten
  · exact fun s p hp vc h => frameEnd_idle hp h vc
  · exact fun s p hp hopen hlate => frameEndTimeout_closes hp hopen hlate
  · exact fun s p hp h => frameEndTimeout_early hp h
  · exact fun s p hp vc dt ok full ds hlisten => longPacketRx_lost hp hlisten
  · exact fun s p hp vc dt ok full ds hlisten hdt => longPacketRx_blank hp hlisten hdt
  · exact fun s p hp vc dt ok full ds hlisten hvc hdt hnull hblank hclosed => longPacketRx_orphan hp hlisten hvc hdt hnull hblank hclosed
  · exact fun s p hp vc dt ok full ds hlisten hvc hdt hnull hblank hemb => longPacketRx_unsupported hp hlisten hvc hdt hnull hblank hemb
  · exact fun s p hp vc dt ds f hlisten hvc hdt hnull hblank hport hframes _ hopen hfrom hto hlong =>
      longPacketRx_pixels hp hlisten hvc hdt hnull hblank hport hframes hopen hfrom hto hlong

end Sys2Proof.Machine
end

section
/-! Proofs/FsyncPulses.lean: synchronized exposures (`Obligations.FsyncPulses`, O32): a firing of software, the edge and the end of its pulse, and the
exposure centre. -/

namespace Sys2Proof.Machine
open Sys2Proof Sys2Proof.Machine.Reg

-- As in the files of Laws/: proofs elaborated side by side take the joined text past its memory limit.
set_option Elab.async false

/-! ### Sets of one unit -/

theorem bitsOf_two_pow {p n : Nat} (h : p < n) : bitsOf (2 ^ p) n = [p] := by
  have hbit : (fun i => (2 ^ p).testBit i) = (fun i => i == p) := by
    funext i
    rw [Nat.testBit_two_pow, beq_eq_decide, decide_eq_decide]
    exact eq_comm
  rw [bitsOf, hbit, List.filter_beq, List.count_eq_one_of_mem List.nodup_range (List.mem_range.2 h), List.replicate_one]

/-- A bit that is set leaves by subtraction. -/
theorem testBit_sub_two_pow : ∀ p < 6, ∀ x < 64, x.testBit p = true → (x - 2 ^ p).testBit p = false := by decide

theorem testBit_or_two_pow_mod (x : Nat) {i w : Nat} (h : i < w) : ((x ||| 2 ^ i) % 2 ^ w).testBit i = true := by
  rw [Nat.testBit_mod_two_pow, Nat.testBit_or, Nat.testBit_two_pow_self, Bool.or_true, decide_eq_true h, Bool.and_self]

theorem camPort_count (s : State) (f : Fld) (n i p : Nat) : (s.count f n i).camPort p = s.camPort p := by
  rw [State.camPort, count_cam, State.camPort]

theorem modCamPort_regs (s : State) (p : Nat) (f : CamPort → CamPort) : (s.modCamPort p f).regs = s.regs := rfl

/-! ### A firing of software (R170, R171) -/

/-- Profile `i` as it stands in the registers. -/
def State.profile (s : State) (i : Nat) : Nat × Nat := (s.regN CAM_FSPROF_LO i, s.regN CAM_FSPROF_HI i)
/-- The profile that a firing with profile `i` uses: the last consistent one. -/
def State.profHeld (s : State) (i : Nat) : Nat × Nat := s.cam.profs.getD i (0, 0x2800)
/-- CAM_FSW shows profile `i`, and the firing takes it over. -/
def State.profTaken (s : State) (i : Nat) : State := (s.setFld CAM_FSW_PROF i).modCam fun c => { c with profs := c.profs.set i (s.profile i) }
/-- CAM_FSW shows profile `i`, which is not consistent: CFG_MISMATCH keeps that. -/
def State.profMissed (s : State) (i : Nat) : State :=
  (s.setFld CAM_FSW_PROF i).setFld CAM_FSSTAT_CFG_MISMATCH (s.fld CAM_FSSTAT_CFG_MISMATCH ||| 2 ^ i)
/-- Camera `p` is told of it. -/
def State.profRefused (s : State) (i p : Nat) : State := (s.profMissed i).camEvent p 13 3 ((s.profMissed i).openFlags p)

section
variable {s : State} {p i : Nat}

/-- The registers that a firing of software reads beside CAM_FSW are those of `s`. -/
theorem setProf_fld {f : Fld} {j : Nat} (h : f.rg.at j ≠ CAM_FSW.base) : (s.setFld CAM_FSW_PROF i).fld f j = s.fld f j := fld_setFld_ne h
theorem setProf_profile : (s.setFld CAM_FSW_PROF i).profile i = s.profile i := by
  have hreg : ∀ r : Rg, CAM_FSW.base < r.base → (s.setFld CAM_FSW_PROF i).regN r i = s.regN r i := fun r hr => by
    rw [State.regN, reg_setFld_ne, State.regN]
    simp only [CAM_FSW_PROF, Rg.at, CAM_FSW] at hr ⊢
    omega
  rw [State.profile, hreg _ (by decide), hreg _ (by decide), State.profile]
theorem setProf_profOk (lo hi : Nat) : (s.setFld CAM_FSW_PROF i).profOk lo hi = s.profOk lo hi := by
  have hreg : (s.setFld CAM_FSW_PROF i).liveN RND_BAND_HI = s.liveN RND_BAND_HI := by
    rw [State.liveN, reg_setFld_ne (by decide), State.liveN]
  rw [State.profOk, hreg, State.profOk]

theorem exec_camFswFire (h : s.reaches .host CAM_FSW.base) (mask i : Nat) : exec (.camFswFire mask i) s = .next (s.writeFsw mask i) :=
  reached_of_reaches h _ _ _

section
variable (hp : p < 6) (hi : i < 8) (hrun : s.boot.halted = false) (hthere : s.camDropped p = false)
include hp hi hrun hthere

/-- A firing of one camera that is there. -/
theorem writeFsw_one : s.writeFsw (2 ^ p) i =
    if s.profOk (s.profile i).1 (s.profile i).2 = true then (s.profTaken i).fireCam p ((s.profTaken i).profHeld i).1 ((s.profTaken i).profHeld i).2 true
    else (s.profRefused i p).fireCam p ((s.profRefused i p).profHeld i).1 ((s.profRefused i p).profHeld i).2 true := by
  have hdrop : (s.setFld CAM_FSW_PROF i).camDropped p = false := by
    rw [State.camDropped, setProf_fld (by decide)]
    exact hthere
  have hcams : (if (s.setFld CAM_FSW_PROF i).boot.halted = true then []
      else (bitsOf (2 ^ p) 6).filter (fun q => !(s.setFld CAM_FSW_PROF i).camDropped q)) = [p] := by
    rw [setFld_boot, if_neg (by simp [hrun]), bitsOf_two_pow hp]
    simp [hdrop]
  have hlo : (s.setFld CAM_FSW_PROF i).regN CAM_FSPROF_LO i = (s.profile i).1 := congrArg Prod.fst setProf_profile
  have hhi : (s.setFld CAM_FSW_PROF i).regN CAM_FSPROF_HI i = (s.profile i).2 := congrArg Prod.snd setProf_profile
  have hmiss : (s.setFld CAM_FSW_PROF i).fld CAM_FSSTAT_CFG_MISMATCH = s.fld CAM_FSSTAT_CFG_MISMATCH := setProf_fld (by decide)
  rw [State.writeFsw, Nat.mod_eq_of_lt hi, State.fireFsync]
  simp only [hcams, hlo, hhi, hmiss, setProf_profOk, List.foldl_cons, List.foldl_nil]
  split <;> rfl
theorem writeFsw_consistent (hok : s.profOk (s.profile i).1 (s.profile i).2 = true) :
    s.writeFsw (2 ^ p) i = (s.profTaken i).fireCam p ((s.profTaken i).profHeld i).1 ((s.profTaken i).profHeld i).2 true :=
  (writeFsw_one hp hi hrun hthere).trans (if_pos hok)
theorem writeFsw_inconsistent (hok : s.profOk (s.profile i).1 (s.profile i).2 = false) :
    s.writeFsw (2 ^ p) i = (s.profRefused i p).fireCam p ((s.profRefused i p).profHeld i).1 ((s.profRefused i p).profHeld i).2 true :=
  (writeFsw_one hp hi hrun hthere).trans (if_neg (by simp [hok]))
end

theorem profTaken_regs : sameRegsBut [CAM_FSW.base] s (s.profTaken i) := setFld_sameRegsBut s CAM_FSW_PROF i 0 List.mem_cons_self
theorem profTaken_port : (s.profTaken i).camPort p = s.camPort p := rfl
theorem profTaken_held (h : i < s.cam.profs.length) : (s.profTaken i).profHeld i = s.profile i := by
  simp [State.profHeld, State.profTaken, State.modCam, List.getD_eq_getElem?_getD, h]
theorem profTaken_prof (hi : i < 8) : (s.profTaken i).fld CAM_FSW_PROF = i :=
  (fld_setFld s CAM_FSW_PROF i 0 0 (by decide)).trans (Nat.mod_eq_of_lt hi)

/-- A camera without a pulse planned or driven: the edge is placed at the next tick. -/
theorem fireCam_places {lo hi : Nat} (hplan : (s.camPort p).plan = none) (hend : (s.camPort p).pulseEnd = none) : s.fireCam p lo hi true =
    s.modCamPort p (fun c => { c with
      plan := some ⟨s.rnd.clk + 1, 2 * nbits lo 20 12 + nbits lo 0 20, nbits hi 10 10, false⟩ }) := by
  simp [State.fireCam, hplan, hend]
/-- A camera with a pulse planned: the firing is discarded. -/
theorem fireCam_discards {lo hi : Nat} {sw : Bool} (hplan : (s.camPort p).plan ≠ none) :
    s.fireCam p lo hi sw = (s.count CAM_CNT_MISC_FSOVL 1 p).camEvent p 6 4 (s.openFlags p) := by
  simp [State.fireCam, Option.isSome_iff_ne_none.2 hplan]
theorem fireCam_moves (hp : p < 6) (lo hi : Nat) (sw : Bool) : CamMoves p [CAM_CNT_MISC_FSOVL] s (s.fireCam p lo hi sw) := by
  have hdiscard : CamMoves p [CAM_CNT_MISC_FSOVL] s ((s.count CAM_CNT_MISC_FSOVL 1 p).camEvent p 6 4 (s.openFlags p)) :=
    (CamMoves.count 1).trans (camEvent_moves hp)
  exact .ite hdiscard (.modCamPort _)

section
variable (hp : p < 6) (hi : i < 8) (hreach : s.reaches .host CAM_FSW.base) (hrun : s.boot.halted = false) (hthere : s.camDropped p = false)
include hp hi hreach hrun hthere

theorem camFswFire_places (hport : p < s.cam.ports.length) (hprof : i < s.cam.profs.length)
    (hok : s.profOk (s.regN CAM_FSPROF_LO i) (s.regN CAM_FSPROF_HI i) = true) (hplan : (s.camPort p).plan = none)
    (hend : (s.camPort p).pulseEnd = none) : Does (.camFswFire (2 ^ p) i) s (fun t => (t.camPort p).plan = some ⟨s.rnd.clk + 1,
      2 * nbits (s.regN CAM_FSPROF_LO i) 20 12 + nbits (s.regN CAM_FSPROF_LO i) 0 20, nbits (s.regN CAM_FSPROF_HI i) 10 10, false⟩ ∧
      t.fld CAM_FSW_PROF = i ∧ sameRegsBut [CAM_FSW.base] s t) := by
  have hfire := writeFsw_consistent hp hi hrun hthere hok
  rw [profTaken_held hprof, fireCam_places (s := s.profTaken i) hplan hend] at hfire
  refine .intro ((exec_camFswFire hreach _ _).trans (congrArg _ hfire))
    ⟨?_, (fld_of_regs_eq (modCamPort_regs _ _ _) _ _).trans (profTaken_prof hi),
      fun a ha => (reg_of_regs_eq (modCamPort_regs _ _ _) a).trans (profTaken_regs a ha)⟩
  rw [camPort_modCamPort (s := s.profTaken i) hport]
  rfl

theorem camFswFire_discards (hok : s.profOk (s.regN CAM_FSPROF_LO i) (s.regN CAM_FSPROF_HI i) = true) (hplan : (s.camPort p).plan ≠ none) :
    Does (.camFswFire (2 ^ p) i) s (fun t => (t.camPort p).plan = (s.camPort p).plan ∧
      t.fld CAM_CNT_MISC_FSOVL p = s.counted CAM_CNT_MISC_FSOVL p ∧ t.evtAt CAM_EVENT p 6) := by
  have hfire := writeFsw_consistent hp hi hrun hthere hok
  rw [fireCam_discards (s := s.profTaken i) hplan] at hfire
  refine .intro ((exec_camFswFire hreach _ _).trans (congrArg _ hfire)) ⟨?_, ?_, camEvent_evt hp⟩
  · refine (camEvent_port CamPort.plan fun _ _ => rfl).trans ?_
    rw [camPort_count, profTaken_port]
  · have hcount : (s.profTaken i).fld CAM_CNT_MISC_FSOVL p = s.fld CAM_CNT_MISC_FSOVL p := by
      refine fld_of_reg_eq (profTaken_regs _ ?_)
      simp only [CAM_CNT_MISC_FSOVL, CAM_CNT_MISC, CAM_FSW, Rg.at, List.mem_singleton]
      omega
    refine ((camEvent_moves hp (m := [])).fld hp).trans ?_
    rw [fld_count_same _ _ _ _ (by decide), State.counted, hcount, State.counted]

theorem camFswFire_mismatch (hok : s.profOk (s.regN CAM_FSPROF_LO i) (s.regN CAM_FSPROF_HI i) = false) :
    Does (.camFswFire (2 ^ p) i) s (fun t => (t.fld CAM_FSSTAT_CFG_MISMATCH).testBit i = true ∧ t.evtAt CAM_EVENT p 13) := by
  refine .intro ((exec_camFswFire hreach _ _).trans (congrArg _ (writeFsw_inconsistent hp hi hrun hthere hok))) ?_
  have hreport : CamMoves p [] (s.profMissed i) (s.profRefused i p) := camEvent_moves hp
  have hfire := fireCam_moves hp (s := s.profRefused i p) ((s.profRefused i p).profHeld i).1 ((s.profRefused i p).profHeld i).2 true
  refine ⟨?_, hfire.events _ (camEvent_evt hp)⟩
  rw [fld_of_reg_eq (hfire.far hp), fld_of_reg_eq (hreport.far hp), State.profMissed, fld_setFld _ _ _ _ _ (by decide)]
  exact testBit_or_two_pow_mod _ hi
end
end

/-! ### The edge of a pulse (R169, R172) -/

/-- The pin goes active, and the edge of the pulse `u` is pending. -/
def State.driveEdge (s : State) (p : Nat) (u : Pulse) : State :=
  (s.modCamPort p (fun c => { c with
    plan := none
    pulseEnd := some (u.tick + 250 * u.width)
    edges := c.edges ++ [{ tick := u.tick, lead := u.lead, miss := u.miss }] })).setFld CAM_FSSTAT_ACTIVE (s.fld CAM_FSSTAT_ACTIVE ||| 2 ^ p)

section
variable {s : State} {p : Nat} {u : Pulse}

theorem driveEdge_regs : sameRegsBut [CAM_FSSTAT.base] s (s.driveEdge p u) :=
  setFld_sameRegsBut (s.modCamPort p _) CAM_FSSTAT_ACTIVE _ 0 List.mem_cons_self
theorem driveEdge_active (hp : p < 6) : ((s.driveEdge p u).fld CAM_FSSTAT_ACTIVE).testBit p = true := by
  rw [State.driveEdge, fld_setFld _ _ _ _ _ (by decide)]
  exact testBit_or_two_pow_mod _ hp
theorem driveEdge_port (h : p < s.cam.ports.length) : (s.driveEdge p u).camPort p = { s.camPort p with
    plan := none, pulseEnd := some (u.tick + 250 * u.width), edges := (s.camPort p).edges ++ [{ tick := u.tick, lead := u.lead, miss := u.miss }] } := by
  rw [State.camPort, State.driveEdge, setFld_cam]
  exact camPort_modCamPort h

theorem loseEdge_edges : ((s.loseEdge p).camPort p).edges = (s.camPort p).edges.tail := by
  have hport := camPort_modCamPort_map (s := s) (p := p) (f := fun c => { c with edges := c.edges.tail }) CamPort.edges List.tail (fun _ => rfl) rfl
  refine (camEvent_port CamPort.edges fun _ _ => rfl).trans ?_
  rw [camPort_count]
  exact hport
theorem camEvent_ports_length {b sev tfl : Nat} : (s.camEvent p b sev tfl).cam.ports.length = s.cam.ports.length := by
  obtain h | h := camEvent_cam s p b sev tfl <;> rw [h]
  exact List.length_modify _ _ _
theorem loseEdge_ports_length : (s.loseEdge p).cam.ports.length = s.cam.ports.length :=
  camEvent_ports_length.trans (List.length_modify _ _ _)
theorem loseEdge_evt (hp : p < 6) : (s.loseEdge p).evtAt CAM_EVENT p 5 := camEvent_evt hp
theorem loseEdge_counts (hp : p < 6) : (s.loseEdge p).fld CAM_CNT_MISC_FSLOST p = s.counted CAM_CNT_MISC_FSLOST p := by
  have hreport : CamMoves p [] ((s.modCamPort p fun c => { c with edges := c.edges.tail }).count CAM_CNT_MISC_FSLOST 1 p) (s.loseEdge p) :=
    camEvent_moves hp
  exact (hreport.fld hp).trans (fld_count_same _ _ _ _ (by decide))

section
variable (hp : p < 6) (hplan : (s.camPort p).plan = some u) (hcome : u.tick ≤ s.rnd.clk) (hrun : s.boot.halted = false)
include hp hplan hcome hrun

theorem exec_fsyncEdge : exec (.fsyncEdge p) s = .next ((if (s.camPort p).edges.length < 4 then s else s.loseEdge p).driveEdge p u) := by
  have hnow : ¬ (s.rnd.clk < u.tick ∨ s.boot.halted = true) := by simp [hcome, hrun]
  refine (if_pos hp).trans ?_
  rw [hplan]
  exact if_neg hnow

theorem fsyncEdge_drives (hport : p < s.cam.ports.length) (hfew : (s.camPort p).edges.length < 4) : Does (.fsyncEdge p) s (fun t =>
    (t.camPort p).plan = none ∧ (t.camPort p).pulseEnd = some (u.tick + 250 * u.width) ∧
      (t.camPort p).edges = (s.camPort p).edges ++ [{ tick := u.tick, lead := u.lead, miss := u.miss }] ∧ (t.fld CAM_FSSTAT_ACTIVE).testBit p = true ∧
      sameRegsBut [CAM_FSSTAT.base] s t) := by
  refine .intro ((exec_fsyncEdge hp hplan hcome hrun).trans (by rw [if_pos hfew])) ?_
  rw [driveEdge_port hport]
  exact ⟨rfl, rfl, rfl, driveEdge_active hp, driveEdge_regs⟩

theorem fsyncEdge_full (hport : p < s.cam.ports.length) (hfull : (s.camPort p).edges.length = 4) : Does (.fsyncEdge p) s (fun t =>
    (t.camPort p).edges.length = 4 ∧ t.fld CAM_CNT_MISC_FSLOST p = s.counted CAM_CNT_MISC_FSLOST p ∧ t.evtAt CAM_EVENT p 5 ∧
      (t.fld CAM_FSSTAT_ACTIVE).testBit p = true) := by
  refine .intro ((exec_fsyncEdge hp hplan hcome hrun).trans (by rw [if_neg (by omega)])) ?_
  have hreg : ∀ r : Rg, r.perUnit → ((s.loseEdge p).driveEdge p u).reg (r.at p) = (s.loseEdge p).reg (r.at p) := fun r hr => by
    refine driveEdge_regs _ ?_
    rw [hr.at_eq, List.mem_singleton, CAM_FSSTAT]
    dsimp only
    omega
  refine ⟨?_, (fld_of_reg_eq (hreg _ (by decide))).trans (loseEdge_counts hp), ?_, driveEdge_active hp⟩
  · rw [driveEdge_port (loseEdge_ports_length.symm ▸ hport)]
    simp [loseEdge_edges, hfull]
  · rw [State.evtAt, hreg _ (by decide)]
    exact loseEdge_evt hp
end

theorem fsyncEdge_unplanned (hp : p < 6) (h : (s.camPort p).plan = none) : exec (.fsyncEdge p) s = .next s := by
  refine (if_pos hp).trans ?_
  rw [h]

/-! ### The end of a pulse, and the exposure centre (R169, R172) -/

theorem fsyncPulseEnd_releases (hp : p < 6) {e : Nat} (hend : (s.camPort p).pulseEnd = some e) (hcome : e ≤ s.rnd.clk)
    (hon : (s.fld CAM_FSSTAT_ACTIVE).testBit p = true) : Does (.fsyncPulseEnd p) s (fun t =>
      t.fld CAM_FSSTAT_ACTIVE = s.fld CAM_FSSTAT_ACTIVE - 2 ^ p ∧ (t.fld CAM_FSSTAT_ACTIVE).testBit p = false ∧ sameRegsBut [CAM_FSSTAT.base] s t) := by
  have hnow : ¬ (s.rnd.clk < e ∨ ¬ (s.fld CAM_FSSTAT_ACTIVE).testBit p = true) := by simp [hcome, hon]
  have hlt : s.fld CAM_FSSTAT_ACTIVE < 64 := bits_lt _ _ _
  have hexec : exec (.fsyncPulseEnd p) s = .next (s.setFld CAM_FSSTAT_ACTIVE (s.fld CAM_FSSTAT_ACTIVE - 2 ^ p)) := by
    refine (if_pos hp).trans ?_
    rw [hend]
    exact if_neg hnow
  have hfld := (fld_setFld s CAM_FSSTAT_ACTIVE (s.fld CAM_FSSTAT_ACTIVE - 2 ^ p) 0 0 (by decide)).trans
    (Nat.mod_eq_of_lt ((Nat.sub_le _ _).trans_lt hlt))
  refine .intro hexec ⟨hfld, ?_, setFld_sameRegsBut s CAM_FSSTAT_ACTIVE _ 0 List.mem_cons_self⟩
  rw [hfld]
  exact testBit_sub_two_pow p hp _ hlt hon

theorem exposureCentre_stamps (hp : p < 6) : Does (.exposureCentre p) s (fun t => (t.camPort p).edges.length = (s.camPort p).edges.length ∧
    (∀ e ∈ (t.camPort p).edges, e.centreTick ≤ s.rnd.clk → e.centre.isSome = true) ∧ t.regs = s.regs) := by
  refine .intro (t := s.takeCentres p) (if_pos hp) ⟨?_, ?_, rfl⟩
  · rw [takeCentres_edges, List.length_map]
  · rw [takeCentres_edges]
    intro e he hcome
    obtain ⟨x, -, rfl⟩ := List.mem_map.1 he
    exact stampEdge_stamped hcome
end

/-- Settles O32: a firing by whether its profile is consistent and a pulse is planned, an edge by whether four are pending, and the centres edge by edge. -/
theorem fsyncPulses : Obligations.FsyncPulses := by
  unfold Obligations.FsyncPulses
  refine ⟨?_, ?_, ?_, ?_, ?_, ?_, ?_, ?_⟩
  · exact fun s p hp hport i hi hprof hreach hrun hthere hok hplan hend =>
      camFswFire_places hp hi hreach hrun hthere hport hprof hok hplan hend
  · exact fun s p hp i hi hreach hrun hthere hok hplan => camFswFire_discards hp hi hreach hrun hthere hok hplan
  · exact fun s p hp i hi hreach hrun hthere hok => camFswFire_mismatch hp hi hreach hrun hthere hok
  · exact fun s p hp hport u hplan hcome hrun hfew => fsyncEdge_drives hp hplan hcome hrun hport hfew
  · exact fun s p hp hport u hplan hcome hrun hfull => fsyncEdge_full hp hplan hcome hrun hport hfull
  · exact fun s p hp h => fsyncEdge_unplanned hp h
  · exact fun s p hp e hend hcome hon => fsyncPulseEnd_releases hp hend hcome hon
  · exact fun s p hp => exposureCentre_stamps hp

end Sys2Proof.Machine
end

section
/-! Proofs/LiveFrames.lean: how a live pipeline presents a frame and its deliveries are committed (R175, R182), what is said of the live pipelines in
`Obligations.PipelineFrames` (O33). -/

namespace Sys2Proof.Machine
open Sys2Proof Sys2Proof.Machine.Reg

-- As in the files of Laws/: proofs elaborated side by side take the joined text past its memory limit.
set_option Elab.async false

/-! ### Slots (R182) -/

/-- A frame of LPp is in flight: its rows are not presented, or a delivery of it is not through. -/
def State.holdsSlot (s : State) (p : Nat) (f : Frame) : Bool :=
  !f.done || (s.lp p).owed.any (fun o => o.fcnt = some f.fcnt) || s.cam.tx.srcs.any (fun x => decide (x.pipe = p ∧ x.fcnt = some f.fcnt))

section
variable {s : State} {p : Nat}

theorem freeSlots_lp (h : p < s.cam.lps.length) :
    (s.freeSlots p).lp p = { s.lp p with frames := (s.lp p).frames.filter (s.holdsSlot p) } := by
  rw [State.freeSlots, noteLp_lp, lp_modLp h]
  rfl
theorem freeSlots_owed : ((s.freeSlots p).lp p).owed = (s.lp p).owed := by
  rw [State.freeSlots, noteLp_lp]
  exact lp_modLp_leaves LivePipe.owed fun _ => rfl
theorem freeSlots_moves : CamMoves p lpStatFlds s (s.freeSlots p) := (CamMoves.modLp _).trans (noteLp_moves _ p)
theorem freeSlots_reg {a : Nat} (h : a ≠ ISP_LPSTAT.at p) : (s.freeSlots p).reg a = s.reg a := by
  unfold State.freeSlots State.noteLp
  dsimp only
  rw [reg_setFld_ne h, reg_setFld_ne h, reg_setFld_ne h]
  rfl
theorem noteLp_data : (s.noteLp p).data = s.data := by
  unfold State.noteLp
  dsimp only
  rw [setFld_data, setFld_data, setFld_data]
theorem noteLp_lpddr : (s.noteLp p).lpddr = s.lpddr := by
  unfold State.noteLp
  dsimp only
  rw [setFld_lpddr, setFld_lpddr, setFld_lpddr]
theorem modLp_data (f : LivePipe → LivePipe) : (s.modLp p f).data = s.data := rfl
theorem modLp_regs (f : LivePipe → LivePipe) : (s.modLp p f).regs = s.regs := rfl
theorem modLp_lpddr (f : LivePipe → LivePipe) : (s.modLp p f).lpddr = s.lpddr := rfl
theorem freeSlots_data : (s.freeSlots p).data = s.data := by
  rw [State.freeSlots, noteLp_data, modLp_data]
theorem freeSlots_lpddr : (s.freeSlots p).lpddr = s.lpddr := by
  rw [State.freeSlots, noteLp_lpddr, modLp_lpddr]
theorem freeSlots_tx : (s.freeSlots p).cam.tx = s.cam.tx := by
  rw [State.freeSlots, noteLp_cam]
  rfl
end

/-! ### What comes before the deliveries of a frame (R184, R188 to R201) -/

/-- From `s` to `t` LPp moves no frame and no delivery, no port, core store or transmitter is touched, and the same cores are there. -/
structure Staged (p : Nat) (s t : State) : Prop where
  frames : (t.lp p).frames = (s.lp p).frames
  owed : (t.lp p).owed = (s.lp p).owed
  pb : (t.lp p).pb = (s.lp p).pb
  length : t.cam.lps.length = s.cam.lps.length
  data : t.data = s.data
  cores : ∀ n, t.coreDropped n = s.coreDropped n

namespace Staged
variable {p : Nat} {s t u : State}

theorem of_cam (hcam : t.cam = s.cam) (hdata : t.data = s.data) (hreg : t.reg PWR_DROP_CORE.base = s.reg PWR_DROP_CORE.base) : Staged p s t := by
  have hlp := lp_of_lps_eq (congrArg Cam.lps hcam) p
  have hcore : ∀ n, t.coreDropped n = s.coreDropped n := fun n => by
    rw [State.coreDropped, State.regN, show PWR_DROP_CORE.at = PWR_DROP_CORE.base from rfl, hreg]
    rfl
  exact ⟨by rw [hlp], by rw [hlp], by rw [hlp], by rw [hcam], hdata, hcore⟩
theorem refl (s : State) : Staged p s s := of_cam rfl rfl rfl
theorem trans (h : Staged p s t) (g : Staged p t u) : Staged p s u :=
  ⟨g.frames.trans h.frames, g.owed.trans h.owed, g.pb.trans h.pb, g.length.trans h.length, g.data.trans h.data, fun n => (g.cores n).trans (h.cores n)⟩
theorem ite {c : Prop} [Decidable c] (h : Staged p s t) (g : Staged p s u) : Staged p s (if c then t else u) := by
  split
  · exact h
  · exact g
/-- A step that is taken where something is the case. -/
theorem opt {c : Prop} [Decidable c] (h : Staged p s t) : Staged p s (if c then t else s) := ite h (refl s)
/-- A step that is left out where something is the case. -/
theorem opt' {c : Prop} [Decidable c] (h : Staged p s t) : Staged p s (if c then s else t) := ite (refl s) h

theorem modRef (s : State) (r : Option (Nat × List Nat)) : Staged p s (s.modLp p (fun l => { l with ref := r })) where
  frames := lp_modLp_leaves LivePipe.frames fun _ => rfl
  owed := lp_modLp_leaves LivePipe.owed fun _ => rfl
  pb := lp_modLp_leaves LivePipe.pb fun _ => rfl
  length := List.length_modify _ _ _
  data := rfl
  cores _ := rfl
theorem setFld (hp : p < 6) (f : Fld) (v : Nat) (h : f.rg.perUnit := by decide) : Staged p s (s.setFld f v p) := by
  refine of_cam (setFld_cam _ _ _ _ _) rfl (reg_setFld_ne ?_)
  rw [h.at_eq, PWR_DROP_CORE]
  dsimp only
  omega
theorem refRound (hp : p < 6) {v : Nat} : Staged p s (s.setRegN ISP_LPREFRND v p) := by
  refine of_cam (setRegN_cam _ _ _ _ _) rfl (reg_setRegN_ne ?_)
  simp only [PWR_DROP_CORE, ISP_LPREFRND, Rg.at]
  omega
theorem lpEvent (hp : p < 6) {b sev data : Nat} : Staged p s (s.lpEvent p b sev data) :=
  of_cam (lpEvent_cam _ _ _ _ _) ((State.lpEvent_only s p b sev data s (m' := 8458753)).2 (.refl _ s) .data (by decide))
    ((lpEvent_moves (m := []) hp).far hp)
/-- Something is counted and reported. -/
theorem noted (hp : p < 6) (f : Fld) {n b sev data : Nat} (h : f.rg.perUnit := by decide) : Staged p s ((s.count f n p).lpEvent p b sev data) :=
  (setFld hp f _ h).trans (lpEvent hp)
theorem writeRef {base w h : Nat} {arrived : Nat → Bool} {t1 : Img} {drop : Bool} : Staged p s (s.writeRef base w h arrived t1 drop) := by
  have honly : Only 1152 s (s.writeRef base w h arrived t1 drop) := (State.writeRef_only s base w h arrived t1 drop s).2 (.refl _ s)
  exact of_cam (honly .cam (by decide)) (honly .data (by decide)) (reg_of_regs_eq (honly .regs (by decide)) _)
end Staged

/-! ### Presenting a frame (R175, R182) -/

/-- The rows that the stages make for delivery `d`. -/
def Frame.rowsFor (f : Frame) (pb : List Nat) (st : Stages) (g : Geo) (s : State) (d : Dlv) : List (Nat × List Nat) :=
  if f.bad.contains d.out then [] else s.outRows pb st g 0 d.out (fun y => (look f.rows y).isSome)
/-- Where delivery `d` is cut: at the row its write lost, or at the row before which line `radMiss` of the table of gains is missing. -/
def Frame.cutFor (f : Frame) (pb : List Nat) (st : Stages) (g : Geo) (loss : FrameLoss) (radMiss : Option Nat) (s : State) (d : Dlv) : Option Nat :=
  match look loss.cuts d.k, (radMiss.map (fun m => byTable pb g d.out m ((f.rowsFor pb st g s d).map (·.1)))).filter
      (fun n => decide (n < (f.rowsFor pb st g s d).length)) with
  | some a, some b => some (min a b)
  | some a, none => some a
  | none, b => b
theorem cutFor_none {f : Frame} {pb : List Nat} {st : Stages} {g : Geo} {loss : FrameLoss} {s : State} {d : Dlv} (h : look loss.cuts d.k = none) :
    f.cutFor pb st g loss none s d = none := by
  rw [Frame.cutFor, h]
  rfl

/-- The next delivery of a frame goes out with the rows that `rows` makes and the cut that `cut` finds; beside the state, whether one lost credit. -/
def Frame.deliverNext (p : Nat) (f : Frame) (rows : State → Dlv → List (List Nat)) (cut : State → Dlv → Option Nat) (x : State × Bool) (d : Dlv) :
    State × Bool :=
  ((x.1.deliverLive p f (f.tagOf p) d (rows x.1 d) (cut x.1 d) (f.bad.contains d.out)).1,
    x.2 || (x.1.deliverLive p f (f.tagOf p) d (rows x.1 d) (cut x.1 d) (f.bad.contains d.out)).2)
/-- A lost credit is counted, and the frame's rows are presented. -/
def Frame.presented (p : Nat) (f : Frame) (x : State × Bool) : State := (if x.2 then x.1.count ISP_LPCNT_TRUNC 1 p else x.1).draw.frameDone p f

section
variable {s : State} {p : Nat} {f : Frame} {d : Dlv}

/-- A frame is made, its deliveries go out one by one, and it is presented. A delivery is cut only where its write or the table of gains was lost. -/
theorem processLive_shape (hp : p < 6) (s : State) (f : Frame) (loss : FrameLoss) : ∃ u rows cut, Staged p s u ∧
    (∀ v d, look loss.cuts d.k = none → loss.radMiss = none → cut v d = none) ∧
    s.processLive p f loss = f.presented p (f.dlvs.foldl (f.deliverNext p rows cut) (u, false)) := by
  generalize hout : s.processLive p f loss = out
  unfold State.processLive at hout
  extract_lets pb rb key g arrived src valid refRow radMiss whole ref missed t at hout
  generalize s.defects pb f.x0 f.y0 loss.defEcc = defs at hout
  obtain ⟨listed, badN⟩ := defs
  dsimp -zeta only at hout
  extract_lets st written referred dated missNoted badNoted radNoted staged cuts at hout
  have hwritten : Staged p s written := .opt .writeRef
  have hdated : Staged p s dated := (hwritten.trans (.modRef _ _)).trans (.opt (.refRound hp))
  have hmiss : Staged p s missNoted := hdated.trans (.opt' (.noted hp ISP_LPCNT_REFMISS))
  have hbad : Staged p s badNoted := hmiss.trans (.opt' (.noted hp ISP_LPCNT2_DEFBAD))
  have hrad : Staged p s radNoted := hbad.trans (.opt (.noted hp ISP_LPCNT2_RADMISS))
  have hstaged : Staged p s staged := hrad.trans (.setFld hp ISP_LPDEF_DEFDYN _)
  have hnone : loss.radMiss = none → radMiss = none := fun h =>
    (congrArg (fun x => if pbMosaic pb = 6 then x else none) h).trans (ite_self _)
  clear_value staged st radMiss g pb
  refine ⟨staged, fun v d => (f.rowsFor pb st g v d).map (·.2), f.cutFor pb st g loss radMiss, hstaged,
    fun v d hcut hmiss => (congrArg (f.cutFor pb st g loss · v d) (hnone hmiss)).trans (cutFor_none hcut), ?_⟩
  rw [← hout, Frame.presented]
  rfl

theorem lp_of_cam_eq {t : State} (h : t.cam = s.cam) (q : Nat) : t.lp q = s.lp q := lp_of_lps_eq (congrArg Cam.lps h) q

/-! ### One delivery -/

/-- Credit is lost only where a write was, or where the core that takes the delivery is gone. -/
theorem writeLines_credited {pitch : Nat} {rows emb : List (List Nat)} (h : d.kind = 1 → s.coreDropped d.dcore = false) :
    (s.writeLines d pitch rows emb none).2.credit = false := by
  have hcut : ¬ (d.kind = 1 ∧ s.coreDropped d.dcore = true) := fun ⟨hkind, hdrop⟩ => by simp [h hkind] at hdrop
  unfold State.writeLines
  dsimp only
  rw [if_neg hcut]
  simp
theorem writeLines_cam (pitch : Nat) (rows emb : List (List Nat)) (cut : Option Nat) : (s.writeLines d pitch rows emb cut).1.cam = s.cam :=
  (State.writeLines_only s d pitch rows emb cut s (m' := 9246345)).2 (.refl _ s) .cam (by decide)
theorem noteCut_cam (k : Nat) (wr : Wrote) (fcnt tfl : Nat) : (s.noteCut p k wr fcnt tfl).cam = s.cam :=
  (State.noteCut_only s p k wr fcnt tfl s (m' := 8458753)).2 (.refl _ s) .cam (by decide)

/-- A delivery to LPDDR or to a core is owed once its rows are out, for its frame where no credit was lost. -/
theorem deliverLive_shape (hkind : d.kind ≠ 2) (t : TagOf) (rows : List (List Nat)) (cut : Option Nat) (failed : Bool) :
    ∃ (v : State) (credit : Bool) (hdr : List Nat), v.cam = s.cam ∧
    (cut = none → (d.kind = 1 → s.coreDropped d.dcore = false) → credit = false) ∧ s.deliverLive p f t d rows cut failed =
      (v.modLp p fun l => { l with owed := l.owed ++ [{ fcnt := if credit then none else some f.fcnt, dlv := d, hdr := hdr }] }, credit) := by
  unfold State.deliverLive
  dsimp only
  rw [if_neg hkind, if_neg hkind]
  refine ⟨_, _, _, ?_, ?_, rfl⟩
  · rw [noteCut_cam, writeLines_cam]
  · rintro rfl hcore
    exact writeLines_credited hcore

/-! ### The frame presented -/

theorem holdsSlot_of_owed {o : Owed} (h : o ∈ (s.lp p).owed) (hfcnt : o.fcnt = some f.fcnt) : s.holdsSlot p f = true := by
  have hany : (s.lp p).owed.any (fun o => o.fcnt = some f.fcnt) = true := List.any_eq_true.2 ⟨o, h, decide_eq_true hfcnt⟩
  rw [State.holdsSlot, hany, Bool.or_true, Bool.true_or]

/-- The rows of the frames of number `n` are presented. -/
def LivePipe.present (n : Nat) (l : LivePipe) : LivePipe :=
  { l with frames := l.frames.map fun x => if x.fcnt = n then { x with done := true } else x }

theorem frameDone_eq (s : State) (p : Nat) (f : Frame) : s.frameDone p f = (s.modLp p (.present f.fcnt)).freeSlots p := rfl
theorem frameDone_lp (h : p < s.cam.lps.length) : (s.frameDone p f).lp p =
    { s.lp p with frames := ((s.lp p).present f.fcnt).frames.filter ((s.modLp p (.present f.fcnt)).holdsSlot p) } := by
  have hlen : p < (s.modLp p (.present f.fcnt)).cam.lps.length := (List.length_modify _ _ _).symm ▸ h
  rw [frameDone_eq, freeSlots_lp hlen, lp_modLp h]
  rfl
/-- The only frame of a pipeline stays while a delivery of it is owed. -/
theorem frameDone_keeps (h : p < s.cam.lps.length) (hframes : (s.lp p).frames = [f]) {o : Owed} (ho : o ∈ (s.lp p).owed)
    (hfcnt : o.fcnt = some f.fcnt) : ((s.frameDone p f).lp p).frames = [{ f with done := true }] := by
  have hdone : ((s.lp p).present f.fcnt).frames = [{ f with done := true }] := by simp [LivePipe.present, hframes]
  have howed : o ∈ ((s.modLp p (.present f.fcnt)).lp p).owed := by
    rw [lp_modLp h]
    exact ho
  have hkeep : (s.modLp p (.present f.fcnt)).holdsSlot p { f with done := true } = true := holdsSlot_of_owed howed hfcnt
  rw [frameDone_lp h]
  dsimp only
  rw [hdone, List.filter_cons_of_pos hkeep, List.filter_nil]
/-- The only frame of a pipeline is done, where it stays at all. -/
theorem frameDone_all_done (h : p < s.cam.lps.length) (hframes : (s.lp p).frames = [f]) :
    ((s.frameDone p f).lp p).frames.all (fun x => x.done) = true := by
  have hdone : ((s.lp p).present f.fcnt).frames = [{ f with done := true }] := by simp [LivePipe.present, hframes]
  rw [frameDone_lp h, List.all_eq_true]
  intro x hx
  rw [hdone] at hx
  rw [List.mem_singleton.1 (List.mem_of_mem_filter hx)]

theorem presented_shape (x : State × Bool) : ∃ v : State, v.cam = x.1.cam ∧ v.data = x.1.data ∧ f.presented p x = v.frameDone p f := by
  refine ⟨(if x.2 then x.1.count ISP_LPCNT_TRUNC 1 p else x.1).draw, ?_, ?_, rfl⟩
  · rw [draw_cam]
    split
    · exact count_cam _ _ _ _ _
    · rfl
  · rw [draw_data]
    split
    · exact count_data _ _ _ _ _
    · rfl

section
variable {loss : FrameLoss} (hp : p < 6) (hframes : (s.lp p).frames = [f])
include hp hframes

section
variable (hthere : s.lpDropped p = false) (hrun : s.boot.halted = false) (hclosed : f.closed = true) (hopen : f.done = false)
include hthere hrun hclosed hopen

theorem exec_pipelineFrameDone (loss : FrameLoss) : exec (.pipelineFrameDone p loss) s = .next (s.processLive p f loss) := by
  have hfind : (s.lp p).frames.find? (fun f => f.closed && !f.done) = some f := by simp [hframes, hclosed, hopen]
  have hgo : ¬ (s.lpDropped p = true ∨ s.boot.halted = true) := by simp [hthere, hrun]
  refine (if_pos hp).trans ?_
  rw [hfind]
  exact congrArg _ (if_neg hgo)
end

section
variable (hport : p < s.cam.lps.length)
include hport

/-- A frame without deliveries. -/
theorem processLive_presents (hdlvs : f.dlvs = []) : ((s.processLive p f loss).lp p).frames.all (fun x => x.done) = true ∧
    ((s.processLive p f loss).lp p).owed = (s.lp p).owed ∧ (s.processLive p f loss).data = s.data ∧
    ((s.processLive p f loss).lp p).pb = (s.lp p).pb := by
  obtain ⟨u, rows, cut, hu, -, hout⟩ := processLive_shape hp s f loss
  obtain ⟨v, hcam, hdata, hshown⟩ := presented_shape (p := p) (f := f) (u, false)
  have hlp : v.lp p = u.lp p := lp_of_cam_eq hcam p
  have hlen : p < v.cam.lps.length := by
    rw [hcam, hu.length]
    exact hport
  rw [hout, hdlvs, List.foldl_nil, hshown]
  refine ⟨frameDone_all_done hlen (hlp ▸ hu.frames.trans hframes), ?_, ?_, ?_⟩
  · rw [frameDone_lp hlen, hlp, hu.owed]
  · rw [frameDone_eq, freeSlots_data]
    exact hdata.trans hu.data
  · rw [frameDone_lp hlen, hlp, hu.pb]

/-- A frame with one delivery to LPDDR or a core: it is owed, and keeps its frame's slot where no credit is lost. -/
theorem processLive_owes (hdlvs : f.dlvs = [d]) (hkind : d.kind < 2) :
    (∃ c h, ((s.processLive p f loss).lp p).owed = (s.lp p).owed ++ [{ fcnt := c, dlv := d, hdr := h }]) ∧
    (look loss.cuts d.k = none → loss.radMiss = none → (d.kind = 1 → s.coreDropped d.dcore = false) →
      ((s.processLive p f loss).lp p).frames = [{ f with done := true }] ∧
        ∃ h, ((s.processLive p f loss).lp p).owed = (s.lp p).owed ++ [{ fcnt := some f.fcnt, dlv := d, hdr := h }]) := by
  obtain ⟨u, rows, cut, hu, hcut, hout⟩ := processLive_shape hp s f loss
  obtain ⟨v, credit, hdr, hv, hcredit, hsent⟩ :=
    deliverLive_shape (s := u) (p := p) (f := f) (by omega : d.kind ≠ 2) (f.tagOf p) (rows u d) (cut u d) (f.bad.contains d.out)
  obtain ⟨w, hcam, -, hshown⟩ := presented_shape (p := p) (f := f) (f.deliverNext p rows cut (u, false) d)
  have hlenv : p < v.cam.lps.length := by
    rw [hv, hu.length]
    exact hport
  have hlpv : v.lp p = u.lp p := lp_of_cam_eq hv p
  have hlenw : p < w.cam.lps.length := by
    rw [hcam, Frame.deliverNext, hsent]
    exact (List.length_modify _ _ _).symm ▸ hlenv
  have hlpw : w.lp p = { v.lp p with owed := (v.lp p).owed ++ [{ fcnt := if credit then none else some f.fcnt, dlv := d, hdr := hdr }] } := by
    rw [lp_of_cam_eq hcam, Frame.deliverNext, hsent, lp_modLp hlenv]
  have hproc : s.processLive p f loss = w.frameDone p f := by rw [hout, hdlvs, List.foldl_cons, List.foldl_nil, hshown]
  have howed : ((s.processLive p f loss).lp p).owed =
      (s.lp p).owed ++ [{ fcnt := if credit then none else some f.fcnt, dlv := d, hdr := hdr }] := by
    rw [hproc, frameDone_lp hlenw, hlpw, hlpv, hu.owed]
  refine ⟨⟨_, _, howed⟩, fun hlook hrad hcore => ?_⟩
  have hwhole : credit = false := hcredit (hcut u d hlook hrad) fun h => (hu.cores _).trans (hcore h)
  rw [hwhole, if_neg Bool.false_ne_true] at howed hlpw
  refine ⟨?_, hdr, howed⟩
  have hkept : (w.lp p).frames = [f] := by rw [hlpw, hlpv, hu.frames, hframes]
  rw [hproc]
  refine frameDone_keeps hlenw hkept (o := { fcnt := some f.fcnt, dlv := d, hdr := hdr }) ?_ rfl
  rw [hlpw]
  exact List.mem_append_right _ List.mem_cons_self
end
end

theorem pipelineFrameDone_idle (hp : p < 6) (h : (s.lp p).frames = []) (loss : FrameLoss) : exec (.pipelineFrameDone p loss) s = .next s := by
  refine (if_pos hp).trans ?_
  rw [h]
  rfl

/-! ### A delivery is committed (R175) -/

theorem commitDlv_lpddr (hkind : d.kind = 0) (hmrk : d.mrken = false) (hdr : List Nat) :
    s.commitDlv d hdr = (s.putLpddr d.place.1 hdr).putLpddr (d.place.1 + 60) (toBytes 4 d.seq) := by
  simp [State.commitDlv, State.putDlv, State.addAfter, hkind, hmrk]

theorem fld_count_at (s : State) (f : Fld) (i j : Nat) (h : f.lo + f.w ≤ 32) :
    (s.count f 1 i j).fld f i j = min (s.fld f i j + 1) (2 ^ f.w - 1) := by
  have := Nat.two_pow_pos f.w
  rw [State.count, fld_setFld _ _ _ _ _ h]
  exact Nat.mod_eq_of_lt (by omega)

/-- What is left of a delivery once its bytes are written: its count and its slot. -/
def State.dlvDone (s : State) (p : Nat) (o : Owed) : State :=
  ((s.count CAM_DLVCNT_DONE 1 p o.dlv.k).modLp p fun l => { l with owed := l.owed.erase o }).freeSlots p

theorem dlvDone_owed (o : Owed) : ((s.dlvDone p o).lp p).owed = (s.lp p).owed.erase o := by
  rw [State.dlvDone, freeSlots_owed]
  refine (lp_modLp_map LivePipe.owed (·.erase o) (fun _ => rfl) rfl).trans ?_
  rw [lp_of_cam_eq (count_cam _ _ _ _ _)]
theorem dlvDone_lpddr (o : Owed) : (s.dlvDone p o).lpddr = s.lpddr := by
  rw [State.dlvDone, freeSlots_lpddr, modLp_lpddr, count_lpddr]
theorem dlvDone_data (o : Owed) : (s.dlvDone p o).data = s.data := by
  rw [State.dlvDone, freeSlots_data, modLp_data, count_data]

theorem dlvDone_counts {o : Owed} (hk : o.dlv.k < 6) : (s.dlvDone p o).fld CAM_DLVCNT_DONE p o.dlv.k =
    min (s.fld CAM_DLVCNT_DONE p o.dlv.k + 1) (2 ^ CAM_DLVCNT_DONE.w - 1) := by
  have hne : CAM_DLVCNT_DONE.rg.at p o.dlv.k ≠ ISP_LPSTAT.at p := by
    simp only [CAM_DLVCNT_DONE, CAM_DLVCNT, ISP_LPSTAT, Rg.at]
    omega
  refine (fld_of_reg_eq ((freeSlots_reg hne).trans ?_)).trans (fld_count_at s CAM_DLVCNT_DONE p o.dlv.k (by decide))
  exact reg_of_regs_eq (modLp_regs _) _

section
variable (hp : p < 6) {k : Nat} (hk : k < 6)
include hp hk

theorem deliveryCommit_writes {o : Owed} (hrun : s.boot.halted = false) (hfind : (s.lp p).owed.find? (fun x => x.dlv.k = k) = some o)
    (hkind : o.dlv.kind = 0) (hmrk : o.dlv.mrken = false) : Does (.deliveryCommit p k) s (fun t =>
      t.lpddr = ((s.putLpddr o.dlv.place.1 o.hdr).putLpddr (o.dlv.place.1 + 60) (toBytes 4 o.dlv.seq)).lpddr ∧ (t.lp p).owed = (s.lp p).owed.erase o ∧
      t.fld CAM_DLVCNT_DONE p o.dlv.k = min (s.fld CAM_DLVCNT_DONE p o.dlv.k + 1) (2 ^ CAM_DLVCNT_DONE.w - 1) ∧ t.data = s.data) := by
  have ho : o.dlv.k = k := by simpa using List.find?_some hfind
  have hgo : ¬ (s.boot.halted || s.dlvWaits o.dlv) = true := by simp [hrun, State.dlvWaits, hkind]
  have hexec : exec (.deliveryCommit p k) s =
      .next (((s.putLpddr o.dlv.place.1 o.hdr).putLpddr (o.dlv.place.1 + 60) (toBytes 4 o.dlv.seq)).dlvDone p o) := by
    refine ((if_pos hp).trans (if_pos hk)).trans ?_
    rw [hfind]
    refine congrArg _ ((if_neg hgo).trans ?_)
    rw [State.commitOwed, commitDlv_lpddr hkind hmrk]
    rfl
  exact .intro hexec ⟨dlvDone_lpddr o, dlvDone_owed o, dlvDone_counts (ho ▸ hk), dlvDone_data o⟩

theorem deliveryCommit_idle (h : (s.lp p).owed = []) : exec (.deliveryCommit p k) s = .next s := by
  refine ((if_pos hp).trans (if_pos hk)).trans ?_
  rw [h]
  rfl
end
end

end Sys2Proof.Machine
end

section
/-! Proofs/Transmitter.lean: how the transmitter sends a packet (R177, R178), what is said of it in `Obligations.PipelineFrames` (O33). -/

namespace Sys2Proof.Machine
open Sys2Proof Sys2Proof.Machine.Reg

-- As in the files of Laws/: proofs elaborated side by side take the joined text past its memory limit.
set_option Elab.async false

/-! ### The source that is served -/

/-- From `s` to `t` the transmitter's sources stay, and so does the packet sent last. -/
structure TxKept (s t : State) : Prop where
  sent : t.cam.tx.sent = s.cam.tx.sent
  last : t.cam.tx.last = s.cam.tx.last
  srcs : t.cam.tx.srcs = s.cam.tx.srcs

namespace TxKept
variable {s t u : State}

theorem of_tx (h : t.cam.tx = s.cam.tx) : TxKept s t := ⟨by rw [h], by rw [h], by rw [h]⟩
theorem trans (h : TxKept s t) (g : TxKept t u) : TxKept s u := ⟨g.sent.trans h.sent, g.last.trans h.last, g.srcs.trans h.srcs⟩
theorem count (f : Fld) (n i j : Nat) : TxKept s (s.count f n i j) := of_tx (congrArg Cam.tx (count_cam s f n i j))
theorem noteTx : TxKept s s.noteTx := of_tx rfl
theorem freeSlots (p : Nat) : TxKept s (s.freeSlots p) := of_tx freeSlots_tx
theorem deskew : TxKept s s.deskew := by
  unfold State.deskew
  split
  · exact of_tx rfl
  · exact ⟨rfl, rfl, rfl⟩
theorem noteFe : TxKept s s.noteFe := by
  unfold State.noteFe
  dsimp only
  split
  · exact of_tx rfl
  · constructor <;> dsimp only [State.modTx, State.modCam] <;> split <;> rfl
end TxKept

section
variable {s : State} {x : TxSrc} {dt : Nat} {bs : List Nat} {rest : List (Nat × List Nat)}

theorem deskew_regs (s : State) : s.deskew.regs = s.regs := by
  unfold State.deskew
  split <;> rfl
theorem noteFe_regs (s : State) : s.noteFe.regs = s.regs := by
  unfold State.noteFe
  dsimp only
  split <;> rfl
theorem noteTx_frames (s : State) : s.noteTx.fld CAM_TXCNT_FRAMES = s.fld CAM_TXCNT_FRAMES := fld_setFld_ne (by decide)

/-- The first packet of source `x` is taken. -/
def State.takePacket (s : State) (x : TxSrc) (dt : Nat) (bs : List Nat) (rest : List (Nat × List Nat)) : State :=
  s.modTx fun t => { t with
    srcs := if rest.isEmpty then t.srcs.erase x else t.srcs.map (fun y => if y = x then { y with pkts := rest } else y)
    last := x.vc
    sent := some (x.vc, dt, bs) }
/-- The FE of a frame is sent: the frame is counted, and so is its delivery where it is a live one. -/
def State.frameSent (s : State) (x : TxSrc) : State :=
  if x.pipe < 6 then ((s.count CAM_TXCNT_FRAMES).noteFe.count CAM_DLVCNT_DONE 1 x.pipe x.k).freeSlots x.pipe else (s.count CAM_TXCNT_FRAMES).noteFe

theorem frameSent_kept : TxKept s (s.frameSent x) := by
  have hcount : TxKept s (s.count CAM_TXCNT_FRAMES).noteFe := (TxKept.count _ _ _ _).trans .noteFe
  unfold State.frameSent
  split
  · exact (hcount.trans (.count _ _ _ _)).trans (.freeSlots _)
  · exact hcount
/-- No count of a delivery and no state of a pipeline is the count of frames. -/
theorem frameSent_frames : (s.frameSent x).fld CAM_TXCNT_FRAMES = s.counted CAM_TXCNT_FRAMES := by
  have hcount : (s.count CAM_TXCNT_FRAMES).noteFe.fld CAM_TXCNT_FRAMES = s.counted CAM_TXCNT_FRAMES :=
    (fld_of_regs_eq (noteFe_regs _) _ _).trans (fld_count_same s _ 1 0 (by decide))
  unfold State.frameSent
  split
  · refine (fld_of_reg_eq ((freeSlots_reg ?_).trans (reg_count_ne ?_))).trans hcount
    · simp only [CAM_TXCNT_FRAMES, CAM_TXCNT, ISP_LPSTAT, Rg.at]
      omega
    · simp only [CAM_TXCNT_FRAMES, CAM_TXCNT, CAM_DLVCNT_DONE, CAM_DLVCNT, Rg.at]
      omega
  · exact hcount

/-- The transmitter off or parked sends nothing. -/
theorem txPacketSend_off (h : s.txOn = false ∨ s.boot.parked = true) : exec .txPacketSend s = .next s := by
  have hoff : ¬ s.txOn = true ∨ s.boot.parked = true := h.imp_left fun hoff => by simp [hoff]
  exact congrArg _ (if_pos hoff)

section
variable (hon : s.txOn = true) (hrun : s.boot.parked = false) (hnext : txNext s.cam.tx = some x)
include hon hrun hnext

theorem exec_txPacketSend (hpkts : x.pkts = (dt, bs) :: rest) : exec .txPacketSend s =
    .next (if dt = 1 then (s.takePacket x dt bs rest).frameSent x else s.takePacket x dt bs rest).deskew.noteTx := by
  have hgo : ¬ (¬ s.txOn = true ∨ s.boot.parked = true) := by simp [hon, hrun]
  refine congrArg Host.Outcome.next ((if_neg hgo).trans ?_)
  rw [hnext]
  dsimp only
  rw [hpkts]
  rfl

/-- A packet that ends no frame. -/
theorem txPacketSend_sends (hpkts : x.pkts = (dt, bs) :: rest) (hdt : dt ≠ 1) : Does .txPacketSend s (fun t =>
    t.cam.tx.sent = some (x.vc, dt, bs) ∧ t.cam.tx.last = x.vc ∧ t.fld CAM_TXCNT_FRAMES = s.fld CAM_TXCNT_FRAMES) := by
  have hkept : TxKept (s.takePacket x dt bs rest) (s.takePacket x dt bs rest).deskew.noteTx := TxKept.deskew.trans .noteTx
  refine .intro ((exec_txPacketSend hon hrun hnext hpkts).trans (by rw [if_neg hdt])) ⟨hkept.sent, hkept.last, ?_⟩
  rw [noteTx_frames, fld_of_regs_eq (deskew_regs _)]
  exact fld_of_regs_eq rfl _ _

/-- The packet that ends a frame, its source's last. -/
theorem txPacketSend_ends (hpkts : x.pkts = [(1, bs)]) : Does .txPacketSend s (fun t =>
    t.cam.tx.sent = some (x.vc, 1, bs) ∧ t.cam.tx.srcs = s.cam.tx.srcs.erase x ∧ t.fld CAM_TXCNT_FRAMES = s.counted CAM_TXCNT_FRAMES) := by
  have hkept : TxKept (s.takePacket x 1 bs []) ((s.takePacket x 1 bs []).frameSent x).deskew.noteTx :=
    (frameSent_kept.trans .deskew).trans .noteTx
  refine .intro ((exec_txPacketSend hon hrun hnext hpkts).trans (by rw [if_pos rfl])) ⟨hkept.sent, hkept.srcs, ?_⟩
  rw [noteTx_frames, fld_of_regs_eq (deskew_regs _), frameSent_frames]
  rfl
end
end

end Sys2Proof.Machine
end

section
/-! Proofs/PipelineFrames.lean: the re-process pipelines (R202 to R206), and the settling of `Obligations.PipelineFrames` (O33). -/

namespace Sys2Proof.Machine
open Sys2Proof Sys2Proof.Machine.Reg

-- As in the files of Laws/: proofs elaborated side by side take the joined text past its memory limit.
set_option Elab.async false

/-! ### The registers of a re-process pipeline and of its contexts -/

/-- A register of each re-process pipeline. -/
abbrev Rg.ofRp (r : Rg) : Prop := r.s1 = 0x1000 ∧ 0x98000 ≤ r.base ∧ r.base < 0x98014
/-- A register of each context of a re-process pipeline. -/
abbrev Rg.ofCtx (r : Rg) : Prop := r.s1 = 0x1000 ∧ r.s2 = 0x20 ∧ 0x98100 ≤ r.base ∧ r.base < 0x98120

section
variable {r r' : Rg} {q c : Nat}

theorem Rg.ofRp.at_eq (h : r.ofRp) (q : Nat) : r.at q = r.base + 0x1000 * q := by rw [Rg.at, h.1, Nat.mul_zero, Nat.add_zero]
theorem Rg.ofCtx.at_eq (h : r.ofCtx) (q c : Nat) : r.at q c = r.base + 0x1000 * q + 0x20 * c := by rw [Rg.at, h.1, h.2.1]
theorem Rg.ofRp.ne (h : r.ofRp) (h' : r'.ofRp) (hbase : r.base ≠ r'.base) : r.at q ≠ r'.at q := by
  rw [h.at_eq, h'.at_eq]
  omega
theorem Rg.ofCtx.ne (h : r.ofCtx) (h' : r'.ofRp) : r.at q c ≠ r'.at q := by
  obtain ⟨-, -, hlow, -⟩ := id h
  obtain ⟨-, -, hhigh⟩ := id h'
  rw [h.at_eq, h'.at_eq]
  omega
theorem Rg.ofCtx.live_ne (h : r.ofCtx) (h' : r'.ofRp) : r.at q c + 0x800 ≠ r'.at q := by
  obtain ⟨-, -, hlow, -⟩ := id h
  obtain ⟨-, -, hhigh⟩ := id h'
  rw [h.at_eq, h'.at_eq]
  omega
theorem Rg.ofRp.quiet (h : r.ofRp) (hq : q < 2) : quiet (r.at q) := by
  obtain ⟨-, hlow, hhigh⟩ := id h
  exact quiet_of_camAddr (by rw [h.at_eq]; omega)
theorem Rg.ofCtx.quiet (h : r.ofCtx) (hq : q < 2) (hc : c < 16) : quiet (r.at q c) := by
  obtain ⟨-, -, hlow, hhigh⟩ := id h
  exact quiet_of_camAddr (by rw [h.at_eq]; omega)
theorem Rg.ofRp.offCmd (h : r.ofRp) (hq : q < 2) : offCmd (r.at q) := by
  obtain ⟨-, hlow, hhigh⟩ := id h
  exact ⟨h.quiet hq, .inr (by rw [h.at_eq]; omega)⟩
theorem Rg.ofCtx.offCmd (h : r.ofCtx) (hq : q < 2) (hc : c < 16) : offCmd (r.at q c) := by
  obtain ⟨-, -, hlow, hhigh⟩ := id h
  exact ⟨h.quiet hq hc, .inr (by rw [h.at_eq]; omega)⟩
end

/-! ### Operations on a re-process pipeline -/

section
variable {s : State} {q c : Nat}

theorem rp_modRp {f : RePipe → RePipe} (h : q < s.cam.rps.length) : (s.modRp q f).rp q = f (s.rp q) := by
  simp [State.rp, State.modRp, State.modCam, List.getD_eq_getElem?_getD, h]
theorem rp_modRp_idle {f : RePipe → RePipe} (h : ∀ x, (f x).run = none) : ((s.modRp q f).rp q).run = none :=
  getD_modify_map (d := {}) s.cam.rps q RePipe.run (k := fun _ => none) h rfl
theorem rp_of_cam_eq {t : State} (h : t.cam = s.cam) (q : Nat) : t.rp q = s.rp q := by rw [State.rp, h, State.rp]

theorem rpEvent_reg {b sev data a : Nat} (hq : q < 2) (ha : quiet a) (hne : a ≠ ISP_RPEVENT.at q) : (s.rpEvent q b sev data).reg a = s.reg a :=
  report_reg (by omega) ha hne
theorem rpEvent_evt {b sev data : Nat} (hq : q < 2) (hb : b < 32) : (s.rpEvent q b sev data).evtAt ISP_RPEVENT q b :=
  report_bit (by omega) (Rg.ofRp.quiet (by decide) hq) hb
theorem rpEvent_cam (s : State) (q b sev data : Nat) : (s.rpEvent q b sev data).cam = s.cam :=
  (State.rpEvent_only s q b sev data s (m' := 8458753)).2 (.refl _ s) .cam (by decide)

/-- What a context has in force, and its other registers, are not the pipeline's. -/
theorem live_setRpFld {f g : Fld} {v : Nat} (hf : f.rg.ofRp) (hg : g.rg.ofCtx) : (s.setFld f v q).live g q c = s.live g q c := by
  rw [State.live, reg_setFld_ne (hg.live_ne hf), State.live]
theorem rpSource_setFld {f : Fld} {v : Nat} (hf : f.rg.ofRp) : (s.setFld f v q).rpSource q c = s.rpSource q c := by
  have hseq : (s.setFld f v q).regN ISP_RPCSEQ q c = s.regN ISP_RPCSEQ q c := by
    rw [State.regN, reg_setFld_ne (Rg.ofCtx.ne (by decide) hf), State.regN]
  unfold State.rpSource
  rw [live_setRpFld hf (by decide), live_setRpFld hf (by decide), live_setRpFld hf (by decide), live_setRpFld hf (by decide), hseq]
  rfl

theorem settleKicks_reg {a : Nat} (h : offCmd a) : s.settleKicks.reg a = s.reg a := settle_reg h
theorem settleKicks_fld {f : Fld} (h : f.rg.ofRp) (hq : q < 2) : s.settleKicks.fld f q = s.fld f q :=
  fld_of_reg_eq (settleKicks_reg (h.offCmd hq))
theorem settleKicks_cam : s.settleKicks.cam = s.cam :=
  (State.settleKicks_only s s (m' := 8467969)).2 (.refl _ s) .cam (by decide)
end

/-! ### A frame ends (R206) -/

/-- Context `c` shows the code of its frame, and the pipeline is free. -/
def State.rpFreed (s : State) (q c code : Nat) : State :=
  ((s.setFld ISP_RPCSTAT_CODE code q c).setFld ISP_RPSTAT_BUSY 0 q).modRp q fun r => { r with run := none }

section
variable {s : State} {q c code : Nat} {hdr : Option (List Nat)}

theorem endRp_failed (h : code ≠ 0) : ∃ data, s.endRp q c none code hdr =
    ((s.rpFreed q c code).count ISP_RPCNT_FAIL 1 q).rpEvent q (if code = 3 then 1 else 0) 4 data := ⟨_, if_neg h⟩
theorem endRp_whole : s.endRp q c none 0 hdr = (s.rpFreed q c 0).count ISP_RPCNT_FRAMES 1 q := rfl

theorem rpFreed_regs : (s.rpFreed q c code).regs = ((s.setFld ISP_RPCSTAT_CODE code q c).setFld ISP_RPSTAT_BUSY 0 q).regs := rfl
theorem rpFreed_code (h : code < 16) : (s.rpFreed q c code).fld ISP_RPCSTAT_CODE q c = code := by
  have hne : ISP_RPCSTAT_CODE.rg.at q c ≠ ISP_RPSTAT_BUSY.rg.at q := Rg.ofCtx.ne (by decide) (by decide)
  refine (fld_of_reg_eq (reg_of_regs_eq rpFreed_regs _)).trans ?_
  rw [fld_setFld_ne hne, fld_setFld _ _ _ _ _ (by decide)]
  exact Nat.mod_eq_of_lt h
theorem rpFreed_busy : (s.rpFreed q c code).fld ISP_RPSTAT_BUSY q = 0 := by
  rw [fld_of_regs_eq rpFreed_regs, fld_setFld _ _ _ _ _ (by decide), Nat.zero_mod]
theorem rpFreed_run : ((s.rpFreed q c code).rp q).run = none := rp_modRp_idle fun _ => rfl
theorem rpFreed_reg {a : Nat} (hcode : a ≠ ISP_RPCSTAT.at q c) (hbusy : a ≠ ISP_RPSTAT.at q) : (s.rpFreed q c code).reg a = s.reg a := by
  rw [reg_of_regs_eq rpFreed_regs, reg_setFld_ne hbusy, reg_setFld_ne hcode]
/-- The counts of the pipeline go on from what they were. -/
theorem rpFreed_counted {f : Fld} (h : f.rg = ISP_RPCNT) : (s.rpFreed q c code).counted f q = s.counted f q := by
  have hreg : (s.rpFreed q c code).reg (f.rg.at q) = s.reg (f.rg.at q) := by
    rw [h]
    exact rpFreed_reg (Rg.ofCtx.ne (by decide) (by decide)).symm (Rg.ofRp.ne (by decide) (by decide) (by decide))
  rw [State.counted, fld_of_reg_eq hreg, State.counted]

/-- From `s` to `t` only the counts and the events of re-process pipeline `q` differ, beside what a report changes. -/
def RpCounted (q : Nat) (s t : State) : Prop := t.cam = s.cam ∧ ∀ a, quiet a → a ≠ ISP_RPCNT.at q → a ≠ ISP_RPEVENT.at q → t.reg a = s.reg a

/-- Whatever the code, the end of a frame frees the pipeline and counts. -/
theorem endRp_counted (hq : q < 2) : RpCounted q (s.rpFreed q c code) (s.endRp q c none code hdr) := by
  by_cases h : code = 0
  · subst h
    exact ⟨count_cam _ _ _ _ _, fun a _ hcnt _ => reg_count_ne hcnt⟩
  · obtain ⟨data, hend⟩ := endRp_failed (s := s) (q := q) (c := c) (hdr := hdr) h
    rw [hend]
    exact ⟨(rpEvent_cam _ _ _ _ _).trans (count_cam _ _ _ _ _), fun a ha hcnt hevt => (rpEvent_reg hq ha hevt).trans (reg_count_ne hcnt)⟩

theorem endRp_frames : (s.endRp q c none 0 hdr).fld ISP_RPCNT_FRAMES q = s.counted ISP_RPCNT_FRAMES q := by
  rw [endRp_whole, fld_count_same _ _ _ _ (by decide), rpFreed_counted rfl]

section
variable (hq : q < 2)
include hq

theorem endRp_code (hc : c < 16) (h : code < 16) : (s.endRp q c none code hdr).fld ISP_RPCSTAT_CODE q c = code :=
  (fld_of_reg_eq ((endRp_counted hq).2 _ (Rg.ofCtx.quiet (by decide) hq hc) (Rg.ofCtx.ne (by decide) (by decide))
    (Rg.ofCtx.ne (by decide) (by decide)))).trans (rpFreed_code h)
theorem endRp_busy : (s.endRp q c none code hdr).fld ISP_RPSTAT_BUSY q = 0 :=
  (fld_of_reg_eq ((endRp_counted hq).2 _ (Rg.ofRp.quiet (by decide) hq) (Rg.ofRp.ne (by decide) (by decide) (by decide))
    (Rg.ofRp.ne (by decide) (by decide) (by decide)))).trans rpFreed_busy
theorem endRp_run : ((s.endRp q c none code hdr).rp q).run = none := by
  rw [rp_of_cam_eq (endRp_counted hq).1]
  exact rpFreed_run
theorem endRp_fail (h : code ≠ 0) : (s.endRp q c none code hdr).fld ISP_RPCNT_FAIL q = s.counted ISP_RPCNT_FAIL q := by
  obtain ⟨data, hend⟩ := endRp_failed (s := s) (q := q) (c := c) (hdr := hdr) h
  have hreg := rpEvent_reg (s := (s.rpFreed q c code).count ISP_RPCNT_FAIL 1 q) (b := if code = 3 then 1 else 0) (sev := 4) (data := data) hq
    (Rg.ofRp.quiet (r := ISP_RPCNT) (by decide) hq) (Rg.ofRp.ne (by decide) (by decide) (by decide))
  rw [hend, fld_of_reg_eq hreg, fld_count_same _ _ _ _ (by decide), rpFreed_counted rfl]
theorem endRp_torn : (s.endRp q c none 3 hdr).evtAt ISP_RPEVENT q 1 := by
  obtain ⟨data, hend⟩ := endRp_failed (s := s) (q := q) (c := c) (hdr := hdr) (code := 3) (by decide)
  rw [hend]
  exact rpEvent_evt hq (by decide)
/-- A register that is neither the status, the count nor the events of the pipeline. -/
theorem endRp_reg {r : Rg} (hr : r.ofRp) (h : r.base ∉ [ISP_RPSTAT.base, ISP_RPCNT.base, ISP_RPEVENT.base]) :
    (s.endRp q c none code hdr).reg (r.at q) = s.reg (r.at q) := by
  simp only [List.mem_cons, List.not_mem_nil, or_false, not_or] at h
  obtain ⟨hstat, hcnt, hevt⟩ := h
  exact ((endRp_counted hq).2 _ (hr.quiet hq) (hr.ne (by decide) hcnt) (hr.ne (by decide) hevt)).trans
    (rpFreed_reg (Rg.ofCtx.ne (by decide) hr).symm (hr.ne (by decide) hstat))
theorem endRp_seq (hc : c < 16) : (s.endRp q c none code hdr).regN ISP_RPCSEQ q c = s.regN ISP_RPCSEQ q c := by
  have hne : ISP_RPCSEQ.at q c ≠ ISP_RPCSTAT.at q c := by
    rw [Rg.ofCtx.at_eq (by decide), Rg.ofCtx.at_eq (by decide)]
    simp only [ISP_RPCSEQ, ISP_RPCSTAT]
    omega
  rw [State.regN, (endRp_counted hq).2 _ (Rg.ofCtx.quiet (by decide) hq hc) (Rg.ofCtx.ne (by decide) (by decide)) (Rg.ofCtx.ne (by decide) (by decide)),
    rpFreed_reg hne (Rg.ofCtx.ne (by decide) (by decide)), State.regN]
end
end

/-! ### Kicks (R202) -/

section
variable {s : State} {q c : Nat}

/-- KICK takes the contexts `m`. -/
def State.kicked (s : State) (q m : Nat) : State := s.setFld ISP_RPKICK_KICK (s.fld ISP_RPKICK_KICK q ||| m) q

theorem kicked_kick {m : Nat} (h : m < 2 ^ 16) : (s.kicked q m).fld ISP_RPKICK_KICK q = s.fld ISP_RPKICK_KICK q ||| m := by
  rw [State.kicked, fld_setFld _ _ _ _ _ (by decide)]
  exact Nat.mod_eq_of_lt (Nat.or_lt_two_pow (bits_lt _ _ _) h)
theorem kicked_regs (s : State) (q m : Nat) : sameRegsBut [ISP_RPKICK.at q] s (s.kicked q m) := setFld_sameRegsBut s ISP_RPKICK_KICK _ q List.mem_cons_self

theorem exec_ispRpkickWrite (hq : q < 2) (hreach : s.reaches .host (ISP_RPKICK.at q)) (mask : Nat) :
    exec (.ispRpkickWrite q mask) s = .next (s.kickRp q mask).1 := (if_pos hq).trans (reached_of_reaches hreach _ _ _)

section
variable (hc : c < 16)
include hc

theorem two_pow_context : 2 ^ c < 2 ^ 16 := Nat.pow_lt_pow_right (by decide) hc

theorem kickRp_pending (hthere : s.rpDropped q = false) (hidle : s.flag PAT_STATUS_ACTIVE = false) (hon : s.live ISP_RPCCTRL_EN q c = 1) :
    (s.kickRp q (2 ^ c)).1 = s.kicked q (2 ^ c) := by
  have hmod : 2 ^ c % 65536 = 2 ^ c := Nat.mod_eq_of_lt (two_pow_context hc)
  simp [State.kickRp, State.kicked, bitsOf_two_pow hc, hthere, hidle, hon, hmod]
theorem kickRp_refused (hoff : s.live ISP_RPCCTRL_EN q c = 0) : (s.kickRp q (2 ^ c)).1 = (s.kicked q 0).rpEvent q 2 3 := by
  have hmod : 2 ^ c % 65536 = 2 ^ c := Nat.mod_eq_of_lt (two_pow_context hc)
  simp [State.kickRp, State.kicked, bitsOf_two_pow hc, hoff, hmod]

section
variable (hq : q < 2) (hreach : s.reaches .host (ISP_RPKICK.at q))
include hq hreach

theorem ispRpkickWrite_pends (hthere : s.rpDropped q = false) (hidle : s.flag PAT_STATUS_ACTIVE = false) (hon : s.live ISP_RPCCTRL_EN q c = 1) :
    Does (.ispRpkickWrite q (2 ^ c)) s (fun t => t.fld ISP_RPKICK_KICK q = (s.fld ISP_RPKICK_KICK q ||| 2 ^ c) ∧ sameRegsBut [ISP_RPKICK.at q] s t) :=
  .intro ((exec_ispRpkickWrite hq hreach _).trans (congrArg _ (kickRp_pending hc hthere hidle hon)))
    ⟨kicked_kick (two_pow_context hc), kicked_regs s q _⟩
theorem ispRpkickWrite_refuses (hoff : s.live ISP_RPCCTRL_EN q c = 0) : Does (.ispRpkickWrite q (2 ^ c)) s (fun t =>
    t.fld ISP_RPKICK_KICK q = s.fld ISP_RPKICK_KICK q ∧ t.evtAt ISP_RPEVENT q 2) := by
  refine .intro ((exec_ispRpkickWrite hq hreach _).trans (congrArg _ (kickRp_refused hc hoff))) ⟨?_, rpEvent_evt hq (by decide)⟩
  refine (fld_of_reg_eq (rpEvent_reg hq (Rg.ofRp.quiet (by decide) hq) (Rg.ofRp.ne (by decide) (by decide) (by decide)))).trans ?_
  rw [kicked_kick (by decide), Nat.or_zero]
end
end

/-! ### A frame starts (R203) -/

theorem lt_of_head?_bitsOf {m n i : Nat} (h : (bitsOf m n).head? = some i) : i < n :=
  List.mem_range.1 (List.mem_of_mem_filter (List.mem_of_head? h))

/-- The pending kick of context `c` starts: it leaves KICK, and CTX shows it. -/
def State.kickTaken (s : State) (q c : Nat) : State :=
  (s.setFld ISP_RPKICK_KICK (s.fld ISP_RPKICK_KICK q - 2 ^ c) q).setFld ISP_RPSTAT_CTX c q
/-- The frame `run` is under way. -/
def State.rpRunning (s : State) (q : Nat) (run : RpRun) : State := (s.modRp q fun r => { r with run := some run }).setFld ISP_RPSTAT_BUSY 1 q

theorem kickTaken_cam : (s.kickTaken q c).cam = s.cam := by rw [State.kickTaken, setFld_cam, setFld_cam]
theorem kickTaken_source : (s.kickTaken q c).rpSource q c = s.rpSource q c := (rpSource_setFld (by decide)).trans (rpSource_setFld (by decide))
theorem kickTaken_live {g : Fld} (hg : g.rg.ofCtx) : (s.kickTaken q c).live g q c = s.live g q c :=
  (live_setRpFld (by decide) hg).trans (live_setRpFld (by decide) hg)
theorem kickTaken_kick : (s.kickTaken q c).fld ISP_RPKICK_KICK q = s.fld ISP_RPKICK_KICK q - 2 ^ c := by
  have hne : ISP_RPKICK_KICK.rg.at q ≠ ISP_RPSTAT_CTX.rg.at q := Rg.ofRp.ne (by decide) (by decide) (by decide)
  rw [State.kickTaken, fld_setFld_ne hne, fld_setFld _ _ _ _ _ (by decide)]
  exact Nat.mod_eq_of_lt ((Nat.sub_le _ _).trans_lt (bits_lt _ _ _))
theorem kickTaken_ctx (hc : c < 16) : (s.kickTaken q c).fld ISP_RPSTAT_CTX q = c := by
  rw [State.kickTaken, fld_setFld _ _ _ _ _ (by decide)]
  exact Nat.mod_eq_of_lt hc
theorem kickTaken_counted {f : Fld} (h : f.rg = ISP_RPCNT) : (s.kickTaken q c).counted f q = s.counted f q := by
  have hne : ∀ g : Fld, g.rg.ofRp → g.rg.base ≠ ISP_RPCNT.base → f.rg.at q ≠ g.rg.at q := fun g hg hbase => by
    rw [h]
    exact Rg.ofRp.ne (by decide) hg hbase.symm
  rw [State.counted, State.kickTaken, fld_setFld_ne (hne _ (by decide) (by decide)), fld_setFld_ne (hne _ (by decide) (by decide)), State.counted]

theorem rpRunning_busy (run : RpRun) : (s.rpRunning q run).fld ISP_RPSTAT_BUSY q = 1 := fld_setFld _ ISP_RPSTAT_BUSY 1 q 0 (by decide)
theorem rpRunning_ctx (run : RpRun) : (s.rpRunning q run).fld ISP_RPSTAT_CTX q = s.fld ISP_RPSTAT_CTX q := by
  rw [State.rpRunning, fld_setFld_disj (by decide) (by decide)]
  exact fld_of_regs_eq rfl _ _
theorem rpRunning_run (h : q < s.cam.rps.length) (run : RpRun) : ((s.rpRunning q run).rp q).run = some run := by
  rw [State.rpRunning, rp_of_cam_eq (setFld_cam _ _ _ _ _), rp_modRp h]

/-- What a kick makes of pipeline `q`, by its source (R203). -/
theorem beginRp_unsourced {inst : Option Nat} (h : (s.setFld ISP_RPSTAT_CTX c q).rpSource q c = none) :
    s.beginRp q c inst = (s.setFld ISP_RPSTAT_CTX c q).endRp q c inst 1 none := by
  rw [State.beginRp]
  dsimp only
  rw [h]
theorem beginRp_sourced {inst : Option Nat} {a n : Nat} (h : (s.setFld ISP_RPSTAT_CTX c q).rpSource q c = some (a, n))
    (hgood : srcBad (s.lpddrBytes a 64) ((s.setFld ISP_RPSTAT_CTX c q).live ISP_RPCSRCSZ_STRIDE q c) = false) : s.beginRp q c inst =
      (s.setFld ISP_RPSTAT_CTX c q).rpRunning q { ctx := c, inst := inst, addr := a, seq := n, hdr := s.lpddrBytes a 64, startAt := s.rnd.clk } := by
  rw [State.beginRp]
  dsimp only
  rw [h]
  exact if_neg (by rw [Bool.not_eq_true]; exact hgood)

section
variable (hq : q < 2) {ecc : Bool}
include hq

theorem rpFrameStart_busy (h : (s.rp q).run ≠ none) : exec (.rpFrameStart ⟨q, ecc⟩) s = .next s := by
  refine (if_pos hq).trans (congrArg _ (if_pos ?_))
  exact .inl (Option.isSome_iff_ne_none.2 h)

section
variable (hidle : (s.rp q).run = none) (hthere : s.rpDropped q = false) (hrun : s.boot.halted = false) (hnext : s.nextFor (34 + q) = none)
  (hkick : (bitsOf (s.fld ISP_RPKICK_KICK q) 16).head? = some c) (hset : s.flag ISP_RPCCTRL_COMMIT q c = false) (hon : s.live ISP_RPCCTRL_EN q c = 1)
include hidle hthere hrun hnext hkick hset hon

/-- The lowest pending kick starts, where no Pattern instance is due. -/
theorem exec_rpFrameStart : exec (.rpFrameStart ⟨q, ecc⟩) s =
    .next ((s.setFld ISP_RPKICK_KICK (s.fld ISP_RPKICK_KICK q - 2 ^ c) q).beginRp q c none).settleKicks := by
  have hgo : ¬ ((s.rp q).run.isSome = true ∨ s.rpDropped q = true ∨ s.boot.halted = true) := by simp [hidle, hthere, hrun]
  have hlive : (s.setFld ISP_RPKICK_KICK (s.fld ISP_RPKICK_KICK q - 2 ^ c) q).live ISP_RPCCTRL_EN q c ≠ 0 := by
    rw [live_setRpFld (by decide) (by decide), hon]
    decide
  refine (if_pos hq).trans (congrArg _ ((if_neg hgo).trans ?_))
  dsimp only
  have hdue : (if s.flag ISP_RPCCTRL_COMMIT q c = true then s.applyRp q c ecc else s) = s := if_neg (by simp [hset])
  rw [hnext, hkick]
  dsimp only
  rw [hdue, if_neg hlive]

theorem rpFrameStart_unsourced (hnone : s.rpSource q c = none) : Does (.rpFrameStart ⟨q, ecc⟩) s (fun t =>
    t.fld ISP_RPCSTAT_CODE q c = 1 ∧ t.fld ISP_RPKICK_KICK q = s.fld ISP_RPKICK_KICK q - 2 ^ c ∧
      t.fld ISP_RPCNT_FAIL q = s.counted ISP_RPCNT_FAIL q ∧ (t.rp q).run = none) := by
  have hc : c < 16 := lt_of_head?_bitsOf hkick
  have hend := beginRp_unsourced (inst := none) (kickTaken_source.trans hnone)
  have hexec := exec_rpFrameStart (ecc := ecc) hq hidle hthere hrun hnext hkick hset hon
  rw [hend] at hexec
  refine .intro hexec ⟨?_, ?_, ?_, ?_⟩
  · exact (fld_of_reg_eq (settleKicks_reg (Rg.ofCtx.offCmd (by decide) hq hc))).trans (endRp_code hq hc (by decide))
  · rw [settleKicks_fld (by decide) hq, fld_of_reg_eq (endRp_reg hq (by decide) (by decide))]
    exact kickTaken_kick
  · rw [settleKicks_fld (by decide) hq, endRp_fail hq (by decide)]
    exact kickTaken_counted rfl
  · rw [rp_of_cam_eq settleKicks_cam]
    exact endRp_run hq

theorem rpFrameStart_runs {a n : Nat} (hpipe : q < s.cam.rps.length) (hsource : s.rpSource q c = some (a, n))
    (hgood : srcBad (s.lpddrBytes a 64) (s.live ISP_RPCSRCSZ_STRIDE q c) = false) : Does (.rpFrameStart ⟨q, ecc⟩) s (fun t =>
      t.fld ISP_RPSTAT_BUSY q = 1 ∧ t.fld ISP_RPSTAT_CTX q = c ∧
      (t.rp q).run = some { ctx := c, inst := none, addr := a, seq := n, hdr := s.lpddrBytes a 64, startAt := s.rnd.clk }) := by
  have hc : c < 16 := lt_of_head?_bitsOf hkick
  have hgood' : srcBad (s.lpddrBytes a 64) ((s.kickTaken q c).live ISP_RPCSRCSZ_STRIDE q c) = false := by
    rw [kickTaken_live (by decide)]
    exact hgood
  have hbegin : (s.setFld ISP_RPKICK_KICK (s.fld ISP_RPKICK_KICK q - 2 ^ c) q).beginRp q c none = (s.kickTaken q c).rpRunning q
      { ctx := c, inst := none, addr := a, seq := n, hdr := s.lpddrBytes a 64, startAt := s.rnd.clk } :=
    beginRp_sourced (kickTaken_source.trans hsource) hgood'
  have hexec := exec_rpFrameStart (ecc := ecc) hq hidle hthere hrun hnext hkick hset hon
  rw [hbegin] at hexec
  refine .intro hexec ⟨?_, ?_, ?_⟩
  · rw [settleKicks_fld (by decide) hq, rpRunning_busy]
  · rw [settleKicks_fld (by decide) hq, rpRunning_ctx, kickTaken_ctx hc]
  · rw [rp_of_cam_eq settleKicks_cam]
    have hlen : q < (s.kickTaken q c).cam.rps.length := by
      rw [kickTaken_cam]
      exact hpipe
    exact rpRunning_run hlen _
end
end
end

/-! ### A frame ends (R204 to R206) -/

/-- The code of a frame that was not aborted: its source was overwritten, no output fits, or none (Table 8.6). -/
def State.rpCode (s : State) (q : Nat) (r : RpRun) : Nat :=
  let pb := (s.rp q).pbs.getD r.ctx []
  let outs := (List.range 4).filter (fun k => (pbOut pb k).en)
  if fieldLE (s.lpddrBytes (r.addr + 56) 4) 0 4 ≠ r.seq then 3
  else if !outs.isEmpty && outs.all (geomBad pb (fieldLE r.hdr 36 2) (fieldLE r.hdr 38 2)) then 5 else 0
/-- The frame's number is kept, and it ends. -/
def State.rpShut (s : State) (q : Nat) (r : RpRun) (code : Nat) : State :=
  ((s.setRegN ISP_RPCSEQ r.seq q r.ctx).modRp q (fun x => { x with seen := x.seen.set r.ctx true })).draw.endRp q r.ctx r.inst code (some r.hdr)

section
variable {s : State} {q : Nat} {r : RpRun} {loss : FrameLoss}

/-- An output that is not enabled delivers nothing. -/
theorem rpDeliver_off {aborted : Bool} {pb : List Nat} {code k : Nat} {g : Geo} {st : Stages} {radMiss : Option Nat}
    (h : ∀ k < 4, (pbOut pb k).en = false) : s.rpDeliver q r loss aborted pb code g st radMiss k = s := by
  refine if_pos ?_
  by_cases hout : 4 ≤ (pbDlv pb k 0).out
  · exact .inr (.inl hout)
  · exact .inr (.inr (by simp [h _ (Nat.lt_of_not_le hout)]))

/-- The deliveries of a frame go out, and it ends; without outputs nothing goes out. -/
theorem finishRp_shape (s : State) (q : Nat) (r : RpRun) (loss : FrameLoss) : ∃ v : State,
    ((∀ k < 4, (pbOut ((s.rp q).pbs.getD r.ctx []) k).en = false) → v = s) ∧ s.finishRp q r loss false = v.rpShut q r (s.rpCode q r) := by
  generalize hout : s.finishRp q r loss false = out
  unfold State.finishRp at hout
  extract_lets c pb entry w h pitch taken outs allBad code src g tabEnd radMiss at hout
  generalize s.defects pb 0 0 loss.defEcc = defs at hout
  obtain ⟨listed, badN⟩ := defs
  dsimp -zeta only at hout
  extract_lets st sent shut at hout
  have hcode : code = s.rpCode q r := by
    unfold code State.rpCode
    simp only [Bool.false_eq_true, if_false, taken, decide_eq_true_eq]
    rfl
  have hsent : (∀ k < 4, (pbOut ((s.rp q).pbs.getD r.ctx []) k).en = false) → sent = s := fun hoff =>
    List.foldl_fixed' (fun _ => rpDeliver_off hoff) _
  clear_value sent code
  subst hcode
  exact ⟨sent, hsent, hout.symm⟩

section
variable (hq : q < 2) (hrun : (s.rp q).run = some r) (hinst : r.inst = none)
include hq hrun hinst

/-- A kicked frame is never dropped. -/
theorem exec_rpFrameEnd (loss : FrameLoss) : exec (.rpFrameEnd q loss) s = .next (s.finishRp q r loss false) := by
  have hkeep : ¬ s.dropsNow r.inst = true := by
    rw [hinst]
    exact Bool.false_ne_true
  refine (if_pos hq).trans ?_
  rw [hrun]
  exact congrArg _ (if_neg hkeep)

/-- A frame whose source buffer was written meanwhile. -/
theorem rpFrameEnd_torn (hc : r.ctx < 16) (loss : FrameLoss) (htaken : fieldLE (s.lpddrBytes (r.addr + 56) 4) 0 4 ≠ r.seq) :
    Does (.rpFrameEnd q loss) s (fun t =>
    t.fld ISP_RPCSTAT_CODE q r.ctx = 3 ∧ t.fld ISP_RPSTAT_BUSY q = 0 ∧ t.evtAt ISP_RPEVENT q 1 ∧
      t.regN ISP_RPCSEQ q r.ctx = r.seq % 2 ^ 32 ∧ (t.rp q).run = none) := by
  obtain ⟨v, -, hend⟩ := finishRp_shape s q r loss
  have hcode : s.rpCode q r = 3 := if_pos htaken
  rw [hcode, State.rpShut, hinst] at hend
  refine .intro ((exec_rpFrameEnd hq hrun hinst loss).trans (congrArg _ hend)) ⟨?_, ?_, ?_, ?_, ?_⟩
  · exact endRp_code hq hc (by decide)
  · exact endRp_busy hq
  · exact endRp_torn hq
  · exact (endRp_seq hq hc).trans (regN_setRegN v ISP_RPCSEQ r.seq q r.ctx)
  · exact endRp_run hq

/-- A frame without outputs. -/
theorem rpFrameEnd_whole (hc : r.ctx < 16) (loss : FrameLoss) (hsame : fieldLE (s.lpddrBytes (r.addr + 56) 4) 0 4 = r.seq)
    (hoff : ∀ k < 4, (pbOut ((s.rp q).pbs.getD r.ctx []) k).en = false) : Does (.rpFrameEnd q loss) s (fun t =>
      t.fld ISP_RPCSTAT_CODE q r.ctx = 0 ∧ t.fld ISP_RPSTAT_BUSY q = 0 ∧ t.fld ISP_RPCNT_FRAMES q = s.counted ISP_RPCNT_FRAMES q ∧
      (t.rp q).run = none) := by
  obtain ⟨v, hv, hend⟩ := finishRp_shape s q r loss
  have hcode : s.rpCode q r = 0 := by
    have houts : (List.range 4).filter (fun k => (pbOut ((s.rp q).pbs.getD r.ctx []) k).en) = [] :=
      List.filter_eq_nil_iff.2 fun k hk => by
        rw [hoff k (List.mem_range.1 hk)]
        exact Bool.false_ne_true
    unfold State.rpCode
    dsimp only
    rw [if_neg (not_not_intro hsame), houts]
    rfl
  have hcounted : ((v.setRegN ISP_RPCSEQ r.seq q r.ctx).modRp q fun x => { x with seen := x.seen.set r.ctx true }).draw.counted ISP_RPCNT_FRAMES q =
      s.counted ISP_RPCNT_FRAMES q := by
    have hreg : (v.setRegN ISP_RPCSEQ r.seq q r.ctx).reg (ISP_RPCNT_FRAMES.rg.at q) = s.reg (ISP_RPCNT_FRAMES.rg.at q) := by
      rw [hv hoff]
      exact reg_setRegN_ne (Rg.ofCtx.ne (by decide) (by decide)).symm
    rw [State.counted, State.counted]
    exact congrArg (fun n => min (n + 1) (2 ^ ISP_RPCNT_FRAMES.w - 1)) (fld_of_reg_eq hreg)
  rw [hcode, State.rpShut, hinst] at hend
  refine .intro ((exec_rpFrameEnd hq hrun hinst loss).trans (congrArg _ hend)) ⟨?_, ?_, ?_, ?_⟩
  · exact endRp_code hq hc (by decide)
  · exact endRp_busy hq
  · exact endRp_frames.trans hcounted
  · exact endRp_run hq
end

theorem rpFrameEnd_idle (hq : q < 2) (h : (s.rp q).run = none) (loss : FrameLoss) : exec (.rpFrameEnd q loss) s = .next s := by
  refine (if_pos hq).trans ?_
  rw [h]
end

/-- Settles O33: a live frame by what its presentation leaves, deliveries and packets by their effect, a re-process frame by its source and its code. -/
theorem pipelineFrames : Obligations.PipelineFrames := by
  unfold Obligations.PipelineFrames
  refine ⟨?_, ?_, ?_, ?_, ?_, ?_, ?_, ?_, ?_, ?_, ?_, ?_, ?_, ?_, ?_, ?_⟩
  · exact fun s p hp loss f hport hthere hrun hframes hclosed hopen hdlvs =>
      .intro (exec_pipelineFrameDone hp hframes hthere hrun hclosed hopen loss) (processLive_presents hp hframes hport hdlvs)
  · exact fun s p hp loss f d hport hthere hrun hframes hclosed hopen hdlvs hkind =>
      .intro (exec_pipelineFrameDone hp hframes hthere hrun hclosed hopen loss) (processLive_owes hp hframes hport hdlvs hkind)
  · exact fun s p hp loss h => pipelineFrameDone_idle hp h loss
  · exact fun s p hp k hk o _ hrun hfind hkind hmrk => deliveryCommit_writes hp hk hrun hfind hkind hmrk
  · exact fun s p hp k hk h => deliveryCommit_idle hp hk h
  · exact fun s h => txPacketSend_off h
  · exact fun s x dt bs rest hon hrun hnext hpkts hdt => txPacketSend_sends hon hrun hnext hpkts hdt
  · exact fun s x bs hon hrun hnext hpkts => txPacketSend_ends hon hrun hnext hpkts
  · exact fun s q hq c hc hreach hthere hidle hon => ispRpkickWrite_pends hc hq hreach hthere hidle hon
  · exact fun s q hq c hc hreach hoff => ispRpkickWrite_refuses hc hq hreach hoff
  · exact fun s q hq c ecc hidle hthere hrun hnext hkick hset hon hnone =>
      rpFrameStart_unsourced hq hidle hthere hrun hnext hkick hset hon hnone
  · exact fun s q hq c a n ecc hpipe hidle hthere hrun hnext hkick hset hon hsource hgood =>
      rpFrameStart_runs hq hidle hthere hrun hnext hkick hset hon hpipe hsource hgood
  · exact fun s q hq ecc h => rpFrameStart_busy hq h
  · exact fun s q hq loss r hrun hc hinst htaken => rpFrameEnd_torn hq hrun hinst hc loss htaken
  · exact fun s q hq loss r hrun hc hinst hsame hoff => rpFrameEnd_whole hq hrun hinst hc loss hsame hoff
  · exact fun s q hq loss h => rpFrameEnd_idle hq h loss

end Sys2Proof.Machine
end

section
/-! Proofs/MarkerFiles.lean: the rules of the two marker files (Machine/Markers.lean), once for all: a tracked slot that is answered, VALUE and OWNER after
each move of a marker, a visit of a marker that nobody waits on, and what becomes of a core's request that reaches its file. -/

namespace Sys2Proof.Machine
open Sys2Proof Sys2Proof.Machine.Reg

-- As in the files of Laws/: proofs elaborated side by side take the joined text past its memory limit.
set_option Elab.async false

/-! ### Tracked slots (R219) -/

/-- Core `n` and its slot `g` are there. -/
structure State.hasSlot (s : State) (n g : Nat) : Prop where
  core : n < s.cores.length
  slot : g < (s.core n).slots.length

section
variable {s : State} {n g : Nat}

/-- A slot that holds an operation is there: what is read past the end of the lists holds none. -/
theorem hasSlot_of_op {x : Track} (h : (s.slot n g).op = some x) : s.hasSlot n g := by
  by_cases hn : n < s.cores.length
  · refine ⟨hn, ?_⟩
    by_contra hg
    simp [State.slot, List.getD_eq_getElem?_getD, hg] at h
  · have hslots : (s.core n).slots = List.replicate 32 {} := by simp [State.core, List.getD_eq_getElem?_getD, hn]
    have hempty : s.slot n g = {} := by
      rw [State.slot, hslots, List.getD_eq_getElem?_getD, List.getElem?_replicate]
      split <;> rfl
    rw [hempty] at h
    cases h

theorem slot_modSlot (h : s.hasSlot n g) (f : Slot → Slot) : (s.modSlot n g f).slot n g = f (s.slot n g) := by
  rw [State.slot, State.modSlot, core_modCore h.core]
  simp [State.slot, List.getD_eq_getElem?_getD, h.slot]

theorem answer_slot (h : s.hasSlot n g) (st v o : Nat) : ((s.answer n g st v o).slot n g).answer = some (st, v, o) :=
  congrArg Slot.answer (slot_modSlot h _)
theorem answer_regs (s : State) (n g st v o : Nat) : (s.answer n g st v o).regs = s.regs := rfl
theorem answer_fld (s : State) (n g st v o : Nat) (f : Fld) (k : Nat) : (s.answer n g st v o).fld f k = s.fld f k := rfl
theorem answer_mval (s : State) (n g st v o k : Nat) : (s.answer n g st v o).mval k = s.mval k := rfl
theorem answer_mowner (s : State) (n g st v o k : Nat) : (s.answer n g st v o).mowner k = s.mowner k := rfl
theorem answer_evt (s : State) (n g st v o : Nat) (r : Rg) (b : Nat) : (s.answer n g st v o).evt r b ↔ s.evt r b := Iff.rfl
theorem answer_leases (s : State) (n g st v o : Nat) : (s.answer n g st v o).mesh.leases = s.mesh.leases := rfl
theorem answer_waiters (s : State) (n g st v o : Nat) : (s.answer n g st v o).mesh.waiters = s.mesh.waiters := rfl
theorem answer_sameRegsBut {l : List Nat} {u : State} (h : sameRegsBut l u s) (st v o : Nat) : sameRegsBut l u (s.answer n g st v o) := h

/-- What leaves the cores leaves their slots. -/
theorem hasSlot_of_cores_eq {t : State} (hcores : t.cores = s.cores) (h : s.hasSlot n g) : t.hasSlot n g := by
  have hcore : t.core n = s.core n := by rw [State.core, hcores, State.core]
  exact ⟨hcores ▸ h.core, hcore ▸ h.slot⟩
end

/-! ### The registers of a marker -/

theorem mrkVal_at (k : Nat) : MRK_VAL.at k = 0x41000 + 4 * k := rfl
theorem mrkStat_at (k : Nat) : MRK_STAT.at k = 0x41400 + 4 * k := rfl
theorem mrkCfg_at (k : Nat) : MRK_CFG.at k = 0x42000 + 4 * k := rfl

/-- The registers of a marker are none of those that a report may change. -/
theorem mrk_quiet {r : Rg} {k : Nat} (hk : k < 256) (h : r = MRK_VAL ∨ r = MRK_STAT) : quiet (r.at k) ∧ r.at k ≠ MRK_EVENT.base := by
  rw [quiet_def]
  obtain rfl | rfl := h <;> simp only [mrkVal_at, mrkStat_at, MRK_EVENT] <;> omega

section
variable {s : State} {k : Nat}

theorem mrkReport_reg {b sev data a : Nat} (hq : quiet a) (ha : a ≠ MRK_EVENT.base) : (s.mrkReport b sev k data).reg a = s.reg a :=
  report_reg (by decide) hq ha
theorem mrkReport_evt {b sev data : Nat} (hb : b < 32 := by decide) : (s.mrkReport b sev k data).evt MRK_EVENT b :=
  report_bit (by decide) (by decide) hb
theorem mrkReport_mesh (s : State) (b sev k data : Nat) : (s.mrkReport b sev k data).mesh = s.mesh :=
  (State.mrkReport_only s b sev k data s (m' := 8458753)).2 (Only.refl _ s) .mesh (by decide)
theorem mrkReport_cores (s : State) (b sev k data : Nat) : (s.mrkReport b sev k data).cores = s.cores :=
  (State.mrkReport_only s b sev k data s (m' := 8458753)).2 (Only.refl _ s) .cores (by decide)

theorem setMval_mesh (s : State) (k v : Nat) : (s.setMval k v).mesh = s.mesh := rfl
theorem setMval_cores (s : State) (k v : Nat) : (s.setMval k v).cores = s.cores := rfl
theorem setMval_sameRegsBut (s : State) (k v : Nat) : sameRegsBut [MRK_VAL.at k] s (s.setMval k v) := sameRegsBut_setReg s _ List.mem_cons_self
theorem setMval_mval (s : State) (k v : Nat) : (s.setMval k v).mval k = v % 2 ^ 32 := regN_setRegN _ _ _ _ _
theorem mval_lt (s : State) (k : Nat) : s.mval k < 2 ^ 32 := regN_lt _ _ _ _

theorem setMval_stat {f : Fld} (v : Nat) (hf : f.rg = MRK_STAT := by rfl) : (s.setMval k v).fld f k = s.fld f k :=
  fld_setReg_ne (by rw [hf, mrkStat_at, mrkVal_at]; omega)
theorem setStat_mval {f : Fld} (v : Nat) (hf : f.rg = MRK_STAT := by rfl) : (s.setFld f v k).mval k = s.mval k :=
  congrArg BitVec.toNat (reg_setFld_ne (by rw [hf, mrkStat_at, mrkVal_at]; omega))

variable (hk : k < 256)
include hk

theorem mrkReport_mval (b sev data : Nat) : (s.mrkReport b sev k data).mval k = s.mval k :=
  congrArg BitVec.toNat (mrkReport_reg (mrk_quiet hk (.inl rfl)).1 (mrk_quiet hk (.inl rfl)).2)
theorem mrkReport_stat {f : Fld} (b sev data : Nat) (hf : f.rg = MRK_STAT := by rfl) : (s.mrkReport b sev k data).fld f k = s.fld f k := by
  obtain ⟨hq, hne⟩ := mrk_quiet hk (.inr hf)
  exact fld_of_reg_eq (mrkReport_reg hq hne)

/-! ### VALUE grows (R226) -/

omit hk in
/-- Short of 2^32 only VALUE moves. -/
theorem addMval_of_fits {n : Nat} (h : s.mval k + n < 2 ^ 32) : s.addMval k n = s.setMval k (s.mval k + n) := by
  rw [State.addMval, if_neg (Nat.not_le.2 h), Nat.min_eq_left (by omega)]
omit hk in
theorem addMval_of_over {n : Nat} (h : 2 ^ 32 ≤ s.mval k + n) :
    s.addMval k n = ((s.setMval k (2 ^ 32 - 1)).setFld MRK_STAT_OVF 1 k).mrkReport 2 3 k 0 := by
  rw [State.addMval, if_pos h, Nat.min_eq_right (by omega)]

theorem addMval_mval (n : Nat) : (s.addMval k n).mval k = min (s.mval k + n) (2 ^ 32 - 1) := by
  by_cases h : 2 ^ 32 ≤ s.mval k + n
  · rw [addMval_of_over h, mrkReport_mval hk, setStat_mval, setMval_mval]
    omega
  · rw [addMval_of_fits (by omega), setMval_mval]
    omega
theorem addMval_mowner (n : Nat) : (s.addMval k n).mowner k = s.mowner k := by
  by_cases h : 2 ^ 32 ≤ s.mval k + n
  · rw [addMval_of_over h, State.mowner, mrkReport_stat hk, fld_setFld_disj (by decide) (by decide), setMval_stat, State.mowner]
  · rw [addMval_of_fits (by omega), State.mowner, setMval_stat, State.mowner]
theorem addMval_overflows {n : Nat} (h : 2 ^ 32 ≤ s.mval k + n) : (s.addMval k n).fld MRK_STAT_OVF k = 1 ∧ (s.addMval k n).evt MRK_EVENT 2 := by
  rw [addMval_of_over h]
  refine ⟨?_, mrkReport_evt⟩
  rw [mrkReport_stat hk, fld_setFld _ _ _ _ _ (by decide)]
  rfl
omit hk in
theorem addMval_mesh (s : State) (k n : Nat) : (s.addMval k n).mesh = s.mesh :=
  (State.addMval_only s k n s (m' := 8458753)).2 (Only.refl _ s) .mesh (by decide)
omit hk in
theorem addMval_cores (s : State) (k n : Nat) : (s.addMval k n).cores = s.cores :=
  (State.addMval_only s k n s (m' := 8458753)).2 (Only.refl _ s) .cores (by decide)

/-! ### A new owner (R228, R229) -/

omit hk
theorem setOwner_mval (o : Nat) : (s.setOwner k o).mval k = s.mval k := by
  have hshown (h : Nat) : ((s.setFld MRK_STAT_OWNER o k).setFld MRK_STAT_HFRZ h k).mval k = s.mval k := by
    rw [setStat_mval, setStat_mval]
  exact hshown _
theorem setOwner_mowner {o : Nat} (ho : o < 256) : (s.setOwner k o).mowner k = o := by
  have hshown (h : Nat) : ((s.setFld MRK_STAT_OWNER o k).setFld MRK_STAT_HFRZ h k).mowner k = o := by
    rw [State.mowner, fld_setFld_disj (by decide) (by decide), fld_setFld _ _ _ _ _ (by decide)]
    exact Nat.mod_eq_of_lt ho
  exact hshown _
theorem setOwner_hfrz {o : Nat} (ho : o < 32) : (s.setOwner k o).fld MRK_STAT_HFRZ k = if (s.core o).halted then 1 else 0 := by
  have hshown (h : Nat) : ((s.setFld MRK_STAT_OWNER o k).setFld MRK_STAT_HFRZ h k).fld MRK_STAT_HFRZ k = h % 2 := fld_setFld _ _ _ _ _ (by decide)
  refine (hshown _).trans ?_
  rw [decide_eq_true ho, Bool.true_and]
  cases (s.core o).halted <;> rfl
theorem setOwner_cores (s : State) (k o : Nat) : (s.setOwner k o).cores = s.cores := rfl
theorem setOwner_waiters (s : State) (k o : Nat) : (s.setOwner k o).mesh.waiters = s.mesh.waiters := rfl
/-- A marker that nobody owns has no lease. -/
theorem setOwner_noOwner_leases (s : State) (k : Nat) : ∀ l ∈ (s.setOwner k noOwner).mesh.leases, l.marker ≠ k := by
  intro l hl
  have hkept : l ∈ s.mesh.leases ∧ l.marker ≠ k := by simpa [State.setOwner, State.modMesh] using hl
  exact hkept.2
/-- The lease of a new owner starts, with LEASE microseconds of 250 ticks. -/
theorem setOwner_lease {o : Nat} (ho : o < 32) (hus : 0 < s.fld MRK_CFG_LEASE k) :
    { marker := k, till := if (s.core o).halted then 250 * s.fld MRK_CFG_LEASE k else s.rnd.clk + 250 * s.fld MRK_CFG_LEASE k,
      frozen := (s.core o).halted } ∈ (s.setOwner k o).mesh.leases := by
  have hcfg (h : Nat) : ((s.setFld MRK_STAT_OWNER o k).setFld MRK_STAT_HFRZ h k).fld MRK_CFG_LEASE k = s.fld MRK_CFG_LEASE k := by
    have hne : MRK_CFG.at k ≠ MRK_STAT.at k := by rw [mrkCfg_at, mrkStat_at]; omega
    rw [fld_setFld_ne hne, fld_setFld_ne hne]
  have howned : ¬ (o = noOwner ∨ s.fld MRK_CFG_LEASE k = 0) := by
    simp only [noOwner]
    omega
  simp only [State.setOwner, State.modMesh, hcfg, if_neg howned, decide_eq_true ho, Bool.true_and]
  exact List.mem_append_right _ List.mem_cons_self

/-! ### A visit of a marker that nobody waits on (R227) -/

theorem visitAll_of_calm (l : List Waiter) (hl : ∀ w ∈ l, w.marker ≠ k) (blocked : Bool) (s : State) : State.visitAll k l blocked s = s := by
  induction l with
  | nil => rfl
  | cons w rest ih =>
    obtain ⟨hw, hrest⟩ := List.forall_mem_cons.1 hl
    rw [State.visitAll, if_pos (.inl hw), ih hrest]
theorem noteWaiters_of_calm (h : s.calm k) : s.noteWaiters k = s.setFld MRK_STAT_WAITERS 0 k := by
  have hnone : s.mesh.waiters.filter (fun w => decide (w.marker = k)) = [] := List.filter_eq_nil_iff.2 fun w hw => by simpa using h w hw
  rw [State.noteWaiters, hnone, List.length_nil]
/-- It shows that nobody waits, and does no more. -/
theorem visit_of_calm (h : s.calm k) : s.visit k = s.setFld MRK_STAT_WAITERS 0 k := by
  rw [State.visit, visitAll_of_calm _ h, noteWaiters_of_calm h]
theorem orderedWaits_of_calm (h : s.calm k) : s.orderedWaits k = false :=
  List.any_eq_false.2 fun w hw => by simp [h w hw]
theorem calm_of_waiters_eq {t : State} (hw : t.mesh.waiters = s.mesh.waiters) (h : s.calm k) : t.calm k := by
  rw [State.calm, hw]
  exact h
theorem setWaiters_mowner (s : State) (k v : Nat) : (s.setFld MRK_STAT_WAITERS v k).mowner k = s.mowner k := fld_setFld_disj (by decide) (by decide)

section
variable (h : s.calm k)
include h

theorem visit_mval : (s.visit k).mval k = s.mval k := by rw [visit_of_calm h, setStat_mval]
theorem visit_mowner : (s.visit k).mowner k = s.mowner k := by rw [visit_of_calm h, setWaiters_mowner]
/-- The fields of MRK_STAT below WAITERS. -/
theorem visit_stat {f : Fld} (hf : f.lo + f.w ≤ 16) : (s.visit k).fld f k = s.fld f k := by
  rw [visit_of_calm h, fld_setFld_disj (by decide) (.inl hf)]
theorem visit_reg_ne {a : Nat} (ha : a ≠ MRK_STAT.at k) : (s.visit k).reg a = s.reg a := by rw [visit_of_calm h, reg_setFld_ne ha]
theorem visit_sameRegsBut : sameRegsBut [MRK_STAT.at k] s (s.visit k) := fun _ ha => visit_reg_ne h (List.ne_of_not_mem_cons ha)
theorem visit_evt (b : Nat) : (s.visit k).evt MRK_EVENT b ↔ s.evt MRK_EVENT b := by
  have hne : MRK_EVENT.base ≠ MRK_STAT.at k := by
    rw [mrkStat_at]
    simp only [MRK_EVENT]
    omega
  rw [State.evt, visit_reg_ne h hne, State.evt]
theorem visit_cores : (s.visit k).cores = s.cores := by rw [visit_of_calm h, setFld_cores]
theorem visit_mesh : (s.visit k).mesh = s.mesh := by rw [visit_of_calm h, setFld_mesh]
end
end

/-! ### Operations that never wait (Table 9.7) -/

section
variable (s : State) (k a n : Nat)

theorem plainOp_read : s.plainOp k 0 a n = (s, 0) := rfl
theorem plainOp_set : s.plainOp k 1 a n = if s.mowner k = noOwner ∨ s.mowner k = n then ((s.setMval k a).visit k, 0) else (s, 2) := rfl
theorem plainOp_add : s.plainOp k 2 a n = ((s.addMval k a).visit k, 0) := rfl
theorem plainOp_release : s.plainOp k 6 a n = if s.mowner k = n then (((s.setOwner k noOwner).addMval k a).visit k, 0) else (s, 2) := rfl
theorem plainOp_reset :
    s.plainOp k 7 a n = if mayReset n then (((s.setMval k a).setOwner k noOwner).endWaiters k 4, 0) else (s, 5) := rfl

/-! ### TAKE, WAITGE and ACQUIRE (Table 9.7) -/

theorem tryWaiting_take : s.tryWaiting k 3 a n = if a ≤ s.mval k then some (s.setMval k (s.mval k - a)) else none := rfl
theorem tryWaiting_waitge : s.tryWaiting k 4 a n = if a ≤ s.mval k then some s else none := rfl
theorem tryWaiting_acquire : s.tryWaiting k 5 a n = if s.mowner k = noOwner then some (s.setOwner k n) else none := rfl
end

/-! ### A wait begins (R227) -/

/-- The request in slot `g` of core `n` waits at the file of marker `k`. -/
def State.waitsAt (s : State) (k n g : Nat) (x : Waiter) : State :=
  ((s.modMesh (fun m => { m with waiters := m.waiters ++ [x] })).modSlot n g (fun y => { y with waits := true })).noteWaiters k

section
variable {s : State} {n g : Nat}

theorem waitsAt_slot (h : s.hasSlot n g) (k : Nat) (x : Waiter) : (s.waitsAt k n g x).slot n g = { s.slot n g with waits := true } := by
  have hcores : (s.waitsAt k n g x).cores = (s.modSlot n g (fun y => { y with waits := true })).cores := by
    rw [State.waitsAt, State.noteWaiters, setFld_cores]
    rfl
  rw [State.slot, State.core, hcores]
  exact slot_modSlot h _
theorem waitsAt_waiters (s : State) (k n g : Nat) (x : Waiter) : (s.waitsAt k n g x).mesh.waiters = s.mesh.waiters ++ [x] := rfl
theorem waitsAt_sameRegsBut (s : State) (k n g : Nat) (x : Waiter) : sameRegsBut [MRK_STAT.at k] s (s.waitsAt k n g x) := fun _ ha =>
  reg_setFld_ne (f := MRK_STAT_WAITERS) (List.ne_of_not_mem_cons ha)
end

/-! ### A request of a core reaches its file -/

/-- The commands of Table 9.7, each with the code of its operation. -/
def markerInstrs (n g : Nat) : List (Instr × Nat) :=
  [(.markerRead n g, 0), (.markerSet n g, 1), (.markerAdd n g, 2), (.markerTake n g, 3), (.markerWaitge n g, 4), (.markerAcquire n g, 5),
    (.markerRelease n g, 6), (.markerReset n g, 7)]

theorem exec_markerInstr {n g : Nat} {c : Instr × Nat} (hc : c ∈ markerInstrs n g) (s : State) :
    exec c.1 s = onIssuer n g (.next (s.markerArrive c.2 n g)) := by
  simp only [markerInstrs, List.mem_cons, List.not_mem_nil, or_false] at hc
  obtain rfl | rfl | rfl | rfl | rfl | rfl | rfl | rfl := hc <;> rfl
theorem exec_markerInstr_core {n g : Nat} {c : Instr × Nat} (hc : c ∈ markerInstrs n g) (hn : n < 32) (hg : g < 32) (s : State) :
    exec c.1 s = .next (s.markerArrive c.2 n g) := by
  rw [exec_markerInstr hc, onIssuer, if_pos hn, onUnit, if_pos hg]

section
variable {s : State} {n g op k a w o : Nat}

theorem slot_of_markerReq (h : s.markerReq n g op = some (k, a, w, o)) :
    (s.slot n g).op = some (.marker k op a w) ∧ (s.slot n g).answer = none := by
  unfold State.markerReq at h
  dsimp only at h
  split at h
  next k' op' a' w' hop =>
    split at h
    next hwait =>
      obtain ⟨rfl, hans, -⟩ := hwait
      simp only [Option.some.injEq, Prod.mk.injEq] at h
      obtain ⟨rfl, rfl, rfl, -⟩ := h
      exact ⟨hop, Option.isNone_iff_eq_none.1 hans⟩
    next => cases h
  next => cases h
theorem hasSlot_of_markerReq (h : s.markerReq n g op = some (k, a, w, o)) : s.hasSlot n g := hasSlot_of_op (slot_of_markerReq h).1

/-- With the marker's die lost the answer is ST_MRK_UNREACHABLE (R25). -/
theorem markerArrive_of_lost (hn : n < 32) (h : s.markerReq n g op = some (k, a, w, o)) (hdie : s.dieDropped (markerDie k) = true) :
    s.markerArrive op n g = s.answer n g 6 0 0 := by
  simp only [State.markerArrive, if_pos hn, h, hdie, if_true]

/-- The request in slot `g` of core `n` reaches the file of its marker: it stands in the slot, the marker's die works, and nothing sent earlier is on the
way there (R18, R25, R225). -/
structure State.Arrives (s : State) (n g op k a w o : Nat) : Prop where
  core : n < 32
  slot : g < 32
  req : s.markerReq n g op = some (k, a, w, o)
  die : s.dieDropped (markerDie k) = false
  turn : s.markerBehind n k o = false
  way : s.sendBehind n (fileNode k) 3 s.mesh.num = false

namespace State.Arrives

theorem hasSlot (h : s.Arrives n g op k a w o) : s.hasSlot n g := hasSlot_of_markerReq h.req
theorem exec_eq {c : Instr} (h : s.Arrives n g op k a w o) (hc : (c, op) ∈ markerInstrs n g) : exec c s = .next (s.markerArrive op n g) :=
  exec_markerInstr_core hc h.core h.slot s

/-- READ, and an operation that never waits once the core's earlier writes and messages are acknowledged (R218): it is done and answered. -/
theorem plain {u : State} {st : Nat} (h : s.Arrives n g op k a w o) (hop : op = 0 ∨ op ∈ [1, 2, 6, 7] ∧ (s.core n).unacked o = false)
    (hdone : s.plainOp k op a n = (u, st)) : s.markerArrive op n g = u.answer n g st (u.mval k) (u.mowner k) := by
  have hplain : decide (op = 3 ∨ op = 4 ∨ op = 5) = false := decide_eq_false fun hwaits => by
    obtain rfl | ⟨hmem, -⟩ := hop
    · omega
    · simp only [List.mem_cons, List.not_mem_nil, or_false] at hmem
      omega
  have hacked : ¬ (op ≠ 0 ∧ (s.core n).unacked o = true) := fun ⟨hne, hun⟩ => by
    obtain rfl | ⟨-, hfree⟩ := hop
    · exact hne rfl
    · exact absurd (hfree.symm.trans hun) Bool.false_ne_true
  simp only [State.markerArrive, if_pos h.core, h.req, h.die, h.turn, h.way, hplain, hdone, Bool.false_eq_true, if_false, Bool.not_false, true_and,
    hacked, Bool.or_self, if_true]

section
variable (h : s.Arrives n g op k a w o) (hop : op = 3 ∨ op = 4 ∨ op = 5) (hown : op = 5 → s.mowner k ≠ n)
include h hop hown

/-- TAKE, WAITGE or ACQUIRE completes at once. -/
theorem completes {u : State} (hfirst : (isOrdered op && s.orderedWaits k) = false) (hdone : s.tryWaiting k op a n = some u) :
    s.markerArrive op n g = (u.answer n g 0 (u.mval k) (u.mowner k)).visit k := by
  have hnew : ¬ (op = 5 ∧ s.mowner k = n) := fun ⟨h5, heq⟩ => hown h5 heq
  simp only [State.markerArrive, if_pos h.core, h.req, h.die, h.turn, h.way, hop, decide_true, Bool.not_true, Bool.false_eq_true, false_and, if_false,
    Bool.or_self, if_neg hnew, hfirst, hdone]
/-- It cannot complete, and TMO is 0: the answer is ST_MRK_TIMEOUT. -/
theorem cannot (hw : w = 0) (htry : s.tryWaiting k op a n = none) : s.markerArrive op n g = s.answer n g 1 (s.mval k) (s.mowner k) := by
  have hnew : ¬ (op = 5 ∧ s.mowner k = n) := fun ⟨h5, heq⟩ => hown h5 heq
  simp only [State.markerArrive, if_pos h.core, h.req, h.die, h.turn, h.way, hop, decide_true, Bool.not_true, Bool.false_eq_true, false_and, if_false,
    Bool.or_self, if_neg hnew, htry, ite_self, if_pos hw]
/-- It cannot complete, and waits at the file for TMO microseconds. -/
theorem waits (hw : 0 < w) (hlt : w < 0xFFFF) (htry : s.tryWaiting k op a n = none) : s.markerArrive op n g =
    s.waitsAt k n g ⟨k, n, g, op, a, some (s.rnd.clk + 250 * w)⟩ := by
  have hnew : ¬ (op = 5 ∧ s.mowner k = n) := fun ⟨h5, heq⟩ => hown h5 heq
  simp only [State.markerArrive, if_pos h.core, h.req, h.die, h.turn, h.way, hop, decide_true, Bool.not_true, Bool.false_eq_true, false_and, if_false,
    Bool.or_self, if_neg hnew, htry, ite_self, if_neg (Nat.ne_of_gt hw), if_neg (Nat.ne_of_lt hlt), State.waitsAt]
end
end State.Arrives
end

end Sys2Proof.Machine
end

section
/-! Proofs/MarkerOperations.lean: the marker operations of a core (R226, Table 9.7), one lemma for each outcome, and the settling of
`Obligations.MarkerOperations` (O17). -/

namespace Sys2Proof.Machine
open Sys2Proof Sys2Proof.Machine.Reg

-- As in the files of Laws/: proofs elaborated side by side take the joined text past its memory limit.
set_option Elab.async false

/-- Node numbers of cores are not OWNER of no one. -/
theorem core_ne_noOwner {n : Nat} (hn : n < 32) : noOwner ≠ n := by
  simp only [noOwner]
  omega
theorem mayReset_core {n : Nat} (hn : n < 32) : mayReset n = false := by
  rw [mayReset, decide_eq_false_iff_not]
  omega

namespace State.Arrives
variable {s : State} {n g k a w o : Nat}

/-- The answer of an operation after which marker `k` has been visited. -/
theorem answer_after_visit {op : Nat} {u : State} (h : s.Arrives n g op k a w o) (hcores : u.cores = s.cores) (hcalm : u.calm k) (st v x : Nat) :
    (((u.visit k).answer n g st v x).slot n g).answer = some (st, v, x) :=
  answer_slot (hasSlot_of_cores_eq ((visit_cores hcalm).trans hcores) h.hasSlot) st v x

/-- The answer of an operation that completed on arrival, which the visit leaves. -/
theorem answer_before_visit {op : Nat} {u : State} (h : s.Arrives n g op k a w o) (hcores : u.cores = s.cores) (hcalm : u.calm k) (st v x : Nat) :
    (((u.answer n g st v x).visit k).slot n g).answer = some (st, v, x) := by
  have hvisit : ((u.answer n g st v x).visit k).cores = (u.answer n g st v x).cores := visit_cores (calm_of_waiters_eq (answer_waiters u n g st v x) hcalm)
  rw [State.slot, State.core, hvisit]
  exact answer_slot (hasSlot_of_cores_eq hcores h.hasSlot) st v x

theorem markerRead (h : s.Arrives n g 0 k a w o) :
    Does (.markerRead n g) s (fun t => (t.slot n g).answer = some (0, s.mval k, s.mowner k) ∧ t.regs = s.regs) := by
  refine Does.intro (h.exec_eq (by simp [markerInstrs])) ?_
  rw [h.plain (.inl rfl) (plainOp_read s k a n)]
  exact ⟨answer_slot h.hasSlot _ _ _, answer_regs _ _ _ _ _ _⟩

/-- SET of a marker that is free or the core's own. -/
theorem markerSet (h : s.Arrives n g 1 k a w o) (hacked : (s.core n).unacked o = false) (hcalm : s.calm k)
    (hown : s.mowner k = noOwner ∨ s.mowner k = n) :
    Does (.markerSet n g) s (fun t => t.mval k = a % 2 ^ 32 ∧ t.mowner k = s.mowner k ∧ (t.slot n g).answer = some (0, a % 2 ^ 32, s.mowner k) ∧
      sameRegsBut [MRK_VAL.at k, MRK_STAT.at k] s t) := by
  have hset : s.plainOp k 1 a n = ((s.setMval k a).visit k, 0) := by rw [plainOp_set, if_pos hown]
  have hcalm' : (s.setMval k a).calm k := hcalm
  have hval : ((s.setMval k a).visit k).mval k = a % 2 ^ 32 := by rw [visit_mval hcalm', setMval_mval]
  have howner : ((s.setMval k a).visit k).mowner k = s.mowner k := by rw [visit_mowner hcalm', State.mowner, setMval_stat, State.mowner]
  have hregs : sameRegsBut [MRK_VAL.at k, MRK_STAT.at k] s ((s.setMval k a).visit k) :=
    ((setMval_sameRegsBut s k a).mono (by simp)).trans ((visit_sameRegsBut hcalm').mono (by simp))
  refine Does.intro (h.exec_eq (by simp [markerInstrs])) ?_
  rw [h.plain (.inr ⟨by simp, hacked⟩) hset, hval, howner, answer_mval, answer_mowner]
  exact ⟨hval, howner, h.answer_after_visit (setMval_cores s k a) hcalm' _ _ _, answer_sameRegsBut hregs _ _ _⟩

/-- SET of a marker that another owns: ST_MRK_NOTOWNER. -/
theorem markerSet_held (h : s.Arrives n g 1 k a w o) (hacked : (s.core n).unacked o = false) (hfree : s.mowner k ≠ noOwner) (hown : s.mowner k ≠ n) :
    Does (.markerSet n g) s (fun t => (t.slot n g).answer = some (2, s.mval k, s.mowner k) ∧ t.regs = s.regs) := by
  have hheld : s.plainOp k 1 a n = (s, 2) := by rw [plainOp_set, if_neg (not_or.2 ⟨hfree, hown⟩)]
  refine Does.intro (h.exec_eq (by simp [markerInstrs])) ?_
  rw [h.plain (.inr ⟨by simp, hacked⟩) hheld]
  exact ⟨answer_slot h.hasSlot _ _ _, answer_regs _ _ _ _ _ _⟩

theorem markerAdd (h : s.Arrives n g 2 k a w o) (hk : k < 256) (hacked : (s.core n).unacked o = false) (hcalm : s.calm k) :
    Does (.markerAdd n g) s (fun t => t.mval k = min (s.mval k + a) (2 ^ 32 - 1) ∧ t.mowner k = s.mowner k ∧
      (2 ^ 32 ≤ s.mval k + a → t.fld MRK_STAT_OVF k = 1 ∧ t.evt MRK_EVENT 2) ∧
      (s.mval k + a < 2 ^ 32 → sameRegsBut [MRK_VAL.at k, MRK_STAT.at k] s t)) := by
  have hcalm' : (s.addMval k a).calm k := calm_of_waiters_eq (congrArg Mesh.waiters (addMval_mesh s k a)) hcalm
  refine Does.intro (h.exec_eq (by simp [markerInstrs])) ?_
  rw [h.plain (.inr ⟨by simp, hacked⟩) (plainOp_add s k a n), answer_mval, answer_mowner, answer_fld, answer_evt, visit_mval hcalm',
    visit_mowner hcalm', visit_stat hcalm' (by decide), visit_evt hcalm']
  refine ⟨addMval_mval hk a, addMval_mowner hk a, addMval_overflows hk, fun hfits => answer_sameRegsBut ?_ _ _ _⟩
  refine sameRegsBut.trans ?_ ((visit_sameRegsBut hcalm').mono (by simp))
  rw [addMval_of_fits hfits]
  exact (setMval_sameRegsBut s k _).mono (by simp)

theorem markerTake (h : s.Arrives n g 3 k a w o) (hcalm : s.calm k) (hle : a ≤ s.mval k) :
    Does (.markerTake n g) s (fun t => t.mval k = s.mval k - a ∧ t.mowner k = s.mowner k ∧
      (t.slot n g).answer = some (0, s.mval k - a, s.mowner k)) := by
  have hfirst : (isOrdered 3 && s.orderedWaits k) = false := by rw [orderedWaits_of_calm hcalm, Bool.and_false]
  have htaken : s.tryWaiting k 3 a n = some (s.setMval k (s.mval k - a)) := by rw [tryWaiting_take, if_pos hle]
  have hval : (s.setMval k (s.mval k - a)).mval k = s.mval k - a := by
    rw [setMval_mval]
    exact Nat.mod_eq_of_lt ((Nat.sub_le _ _).trans_lt (mval_lt s k))
  have howner : (s.setMval k (s.mval k - a)).mowner k = s.mowner k := by rw [State.mowner, setMval_stat, State.mowner]
  have hcalm' : ((s.setMval k (s.mval k - a)).answer n g 0 (s.mval k - a) (s.mowner k)).calm k := hcalm
  refine Does.intro (h.exec_eq (by simp [markerInstrs])) ?_
  rw [h.completes (.inl rfl) nofun hfirst htaken, hval, howner, visit_mval hcalm', visit_mowner hcalm', answer_mval, answer_mowner]
  exact ⟨hval, howner, h.answer_before_visit (setMval_cores s k _) hcalm _ _ _⟩

/-- TAKE of more than there is, with TMO 0: ST_MRK_TIMEOUT. -/
theorem markerTake_fails (h : s.Arrives n g 3 k a 0 o) (hlt : s.mval k < a) :
    Does (.markerTake n g) s (fun t => (t.slot n g).answer = some (1, s.mval k, s.mowner k) ∧ t.regs = s.regs) := by
  have hshort : s.tryWaiting k 3 a n = none := by rw [tryWaiting_take, if_neg (Nat.not_le.2 hlt)]
  refine Does.intro (h.exec_eq (by simp [markerInstrs])) ?_
  rw [h.cannot (.inl rfl) nofun rfl hshort]
  exact ⟨answer_slot h.hasSlot _ _ _, answer_regs _ _ _ _ _ _⟩

/-- TAKE of more than there is, with a TMO, waits at the file. -/
theorem markerTake_waits (h : s.Arrives n g 3 k a w o) (hlt : s.mval k < a) (hw : 0 < w) (hmax : w < 0xFFFF) :
    Does (.markerTake n g) s (fun t => (t.slot n g).waits = true ∧ (t.slot n g).answer = none ∧
      t.mesh.waiters = s.mesh.waiters ++ [⟨k, n, g, 3, a, some (s.rnd.clk + 250 * w)⟩] ∧ sameRegsBut [MRK_STAT.at k] s t) := by
  have hshort : s.tryWaiting k 3 a n = none := by rw [tryWaiting_take, if_neg (Nat.not_le.2 hlt)]
  refine Does.intro (h.exec_eq (by simp [markerInstrs])) ?_
  rw [h.waits (.inl rfl) nofun hw hmax hshort]
  have hslot := waitsAt_slot h.hasSlot k ⟨k, n, g, 3, a, some (s.rnd.clk + 250 * w)⟩
  rw [hslot]
  exact ⟨rfl, (slot_of_markerReq h.req).2, waitsAt_waiters _ _ _ _ _, waitsAt_sameRegsBut _ _ _ _ _⟩

theorem markerWaitge (h : s.Arrives n g 4 k a w o) (hcalm : s.calm k) (hle : a ≤ s.mval k) :
    Does (.markerWaitge n g) s (fun t => t.mval k = s.mval k ∧ (t.slot n g).answer = some (0, s.mval k, s.mowner k)) := by
  have hthere : s.tryWaiting k 4 a n = some s := by rw [tryWaiting_waitge, if_pos hle]
  have hcalm' : (s.answer n g 0 (s.mval k) (s.mowner k)).calm k := hcalm
  refine Does.intro (h.exec_eq (by simp [markerInstrs])) ?_
  rw [h.completes (.inr (.inl rfl)) nofun rfl hthere, visit_mval hcalm', answer_mval]
  exact ⟨rfl, h.answer_before_visit rfl hcalm _ _ _⟩

theorem markerAcquire (h : s.Arrives n g 5 k a w o) (hcalm : s.calm k) (hfree : s.mowner k = noOwner) :
    Does (.markerAcquire n g) s (fun t => t.mowner k = n ∧ t.mval k = s.mval k ∧ (t.slot n g).answer = some (0, s.mval k, n) ∧
      (0 < s.fld MRK_CFG_LEASE k → (s.core n).halted = false →
        ∃ l ∈ t.mesh.leases, l.marker = k ∧ l.till = s.rnd.clk + 250 * s.fld MRK_CFG_LEASE k ∧ l.frozen = false) ∧
      (0 < s.fld MRK_CFG_LEASE k → (s.core n).halted = true → t.fld MRK_STAT_HFRZ k = 1 ∧
        ∃ l ∈ t.mesh.leases, l.marker = k ∧ l.till = 250 * s.fld MRK_CFG_LEASE k ∧ l.frozen = true)) := by
  have hn := h.core
  have hnew : s.mowner k ≠ n := hfree ▸ core_ne_noOwner hn
  have hfirst : (isOrdered 5 && s.orderedWaits k) = false := by rw [orderedWaits_of_calm hcalm, Bool.and_false]
  have hacquired : s.tryWaiting k 5 a n = some (s.setOwner k n) := by rw [tryWaiting_acquire, if_pos hfree]
  have hval : (s.setOwner k n).mval k = s.mval k := setOwner_mval n
  have howner : (s.setOwner k n).mowner k = n := setOwner_mowner (by omega)
  have hcalm' : ((s.setOwner k n).answer n g 0 (s.mval k) n).calm k := hcalm
  refine Does.intro (h.exec_eq (by simp [markerInstrs])) ?_
  rw [h.completes (.inr (.inr rfl)) (fun _ => hnew) hfirst hacquired, hval, howner, visit_mval hcalm', visit_mowner hcalm',
    visit_stat hcalm' (by decide), visit_mesh hcalm', answer_mval, answer_mowner, answer_fld, answer_leases]
  refine ⟨howner, hval, h.answer_before_visit (setOwner_cores s k n) hcalm _ _ _, fun hlease hruns => ?_, fun hlease hhalt => ?_⟩
  · exact ⟨_, setOwner_lease hn hlease, rfl, by simp [hruns], hruns⟩
  · exact ⟨(setOwner_hfrz hn).trans (if_pos hhalt), _, setOwner_lease hn hlease, rfl, by simp [hhalt], hhalt⟩

theorem markerRelease (h : s.Arrives n g 6 k a w o) (hk : k < 256) (hacked : (s.core n).unacked o = false) (hcalm : s.calm k)
    (hown : s.mowner k = n) :
    Does (.markerRelease n g) s (fun t => t.mowner k = noOwner ∧ t.mval k = min (s.mval k + a) (2 ^ 32 - 1) ∧
      (∀ l ∈ t.mesh.leases, l.marker ≠ k)) := by
  have hrelease : s.plainOp k 6 a n = (((s.setOwner k noOwner).addMval k a).visit k, 0) := by rw [plainOp_release, if_pos hown]
  have hmesh := addMval_mesh (s.setOwner k noOwner) k a
  have hcalm' : ((s.setOwner k noOwner).addMval k a).calm k :=
    calm_of_waiters_eq ((congrArg Mesh.waiters hmesh).trans (setOwner_waiters s k noOwner)) hcalm
  refine Does.intro (h.exec_eq (by simp [markerInstrs])) ?_
  rw [h.plain (.inr ⟨by simp, hacked⟩) hrelease, answer_mval, answer_mowner, answer_leases, visit_mval hcalm', visit_mowner hcalm', visit_mesh hcalm',
    addMval_mowner hk, addMval_mval hk, setOwner_mval, setOwner_mowner (by decide), hmesh]
  exact ⟨rfl, rfl, setOwner_noOwner_leases s k⟩

/-- A core may not RESET a marker: ST_MRK_DENIED. -/
theorem markerReset (h : s.Arrives n g 7 k a w o) (hacked : (s.core n).unacked o = false) :
    Does (.markerReset n g) s (fun t => (t.slot n g).answer = some (5, s.mval k, s.mowner k) ∧ t.regs = s.regs) := by
  have hdenied : s.plainOp k 7 a n = (s, 5) := by rw [plainOp_reset, mayReset_core h.core, if_neg Bool.false_ne_true]
  refine Does.intro (h.exec_eq (by simp [markerInstrs])) ?_
  rw [h.plain (.inr ⟨by simp, hacked⟩) hdenied]
  exact ⟨answer_slot h.hasSlot _ _ _, answer_regs _ _ _ _ _ _⟩
end State.Arrives

/-- Settles O17: a request that arrives is an `Arrives`; each operation has its lemma above. -/
theorem markerOperations : Obligations.MarkerOperations := by
  unfold Obligations.MarkerOperations
  refine ⟨?_, ?_, ?_, ?_, ?_, ?_, ?_, ?_, ?_, ?_, ?_⟩
  · intro s n hn g k a w o hg hreq hdie hturn hway
    exact State.Arrives.markerRead ⟨hn, hg, hreq, hdie, hturn, hway⟩
  · intro s n hn g k a w o hg hk hreq hdie hturn hway hacked hcalm hown
    exact State.Arrives.markerSet ⟨hn, hg, hreq, hdie, hturn, hway⟩ hacked hcalm hown
  · intro s n hn g k a w o hg hreq hdie hturn hway hacked hfree hown
    exact State.Arrives.markerSet_held ⟨hn, hg, hreq, hdie, hturn, hway⟩ hacked hfree hown
  · intro s n hn g k a w o hg hk hreq hdie hturn hway hacked hcalm
    exact State.Arrives.markerAdd ⟨hn, hg, hreq, hdie, hturn, hway⟩ hk hacked hcalm
  · intro s n hn g k a w o hg hk hreq hdie hturn hway hcalm hle
    exact State.Arrives.markerTake ⟨hn, hg, hreq, hdie, hturn, hway⟩ hcalm hle
  · intro s n hn g k a w o hg hk hreq hdie hturn hway hlt hw
    subst hw
    exact State.Arrives.markerTake_fails ⟨hn, hg, hreq, hdie, hturn, hway⟩ hlt
  · intro s n hn g k a w o hg hk hreq hdie hturn hway hlt hw hmax
    exact State.Arrives.markerTake_waits ⟨hn, hg, hreq, hdie, hturn, hway⟩ hlt hw hmax
  · intro s n hn g k a w o hg hk hreq hdie hturn hway hcalm hle
    exact State.Arrives.markerWaitge ⟨hn, hg, hreq, hdie, hturn, hway⟩ hcalm hle
  · intro s n hn g k a w o hg hk hreq hdie hturn hway hcalm hfree
    exact State.Arrives.markerAcquire ⟨hn, hg, hreq, hdie, hturn, hway⟩ hcalm hfree
  · intro s n hn g k a w o hg hk hreq hdie hturn hway hacked hcalm hown
    exact State.Arrives.markerRelease ⟨hn, hg, hreq, hdie, hturn, hway⟩ hk hacked hcalm hown
  · intro s n hn g k a w o hg hreq hdie hturn hway hacked
    exact State.Arrives.markerReset ⟨hn, hg, hreq, hdie, hturn, hway⟩ hacked

end Sys2Proof.Machine
end

section
/-! Proofs/TrackedOperations.lean: what the end of a tracked operation leaves of its core (R219, R240): the slot frees and keeps its status, and what the
mover and the core's budget then do shows neither in the registers of the core nor in its wait or its other slots. -/

namespace Sys2Proof.Machine
open Sys2Proof Sys2Proof.Machine.Reg

-- As in the files of Laws/: proofs elaborated side by side take the joined text past its memory limit.
set_option Elab.async false

/-! ### A core under changes of another part -/

/-- What the end of an operation must leave of a core: its general registers, what it waits for, whether it is halted, and its slots. -/
def Core.shown (c : Core) : List Nat × CpWait × Bool × List Slot := (c.g, c.wait, c.halted, c.slots)

section
variable {s : State} {n m g st : Nat}

/-- What `f` leaves of a core reads the same, whether the core is there or not. -/
theorem core_modCore_leaves {α : Type} (p : Core → α) {f : Core → Core} (hf : ∀ c, p (f c) = p c) (s : State) (n m : Nat) :
    p ((s.modCore n f).core m) = p (s.core m) := by
  by_cases hm : m = n
  · subst hm
    by_cases hthere : m < s.cores.length
    · rw [core_modCore hthere, hf]
    · simp [State.core, List.getD_eq_getElem?_getD, hthere]
  · simp [State.core, List.getD_eq_getElem?_getD, Ne.symm hm]
theorem core_of_cores_eq {t : State} (h : t.cores = s.cores) (n : Nat) : t.core n = s.core n := by rw [State.core, h, State.core]

theorem meshOnce_cores (s : State) (b n : Nat) : (s.meshOnce b n).cores = s.cores :=
  (State.meshOnce_only s b n s (m' := 8720897)).2 (Only.refl _ s) .cores (by decide)

theorem chargeCore_shown (s : State) (n len m : Nat) : ((s.chargeCore n len).1.core m).shown = (s.core m).shown := by
  unfold State.chargeCore
  dsimp only
  split
  · exact core_modCore_leaves Core.shown (by exact fun _ => rfl) s n m
  · split
    · exact congrArg Core.shown (core_of_cores_eq ((meshOnce_cores _ 3 n).trans (count_cores _ _ _ _ _)) m)
    · rfl
theorem pushFlight_core (s : State) (src dst cls m : Nat) : (s.pushFlight src dst cls).core m = s.core m := rfl
theorem issueMove_shown (s : State) (n k m : Nat) : ((s.issueMove n k).core m).shown = (s.core m).shown := by
  induction k generalizing s with
  | zero => rfl
  | succ k ih =>
    unfold State.issueMove
    split
    · dsimp only
      split
      · rw [ih, pushFlight_core]
        split
        · exact chargeCore_shown _ _ _ _
        · rfl
      · rfl
    · rfl

theorem forgetOld_shown (s : State) (n m : Nat) : ((s.forgetOld n).core m).shown = (s.core m).shown := by
  unfold State.forgetOld
  split
  · rfl
  · exact core_modCore_leaves Core.shown (by exact fun _ => rfl) s n m
theorem noteTrk_core (s : State) (n m : Nat) : (s.noteTrk n).core m = s.core m := by
  unfold State.noteTrk
  dsimp only
  split <;> rfl

/-! ### The end of an operation -/

/-- The slot of an operation that has ended with `st`. -/
def Slot.ended (x : Slot) (st : Nat) : Slot := { x with op := none, answer := none, waits := false, kept := some st }

/-- The steps of an end that come before MESH_TRK is shown: the slot frees, TERR notes a failure, the descriptor leaves the mover. -/
def State.freeSlot (s : State) (n g st : Nat) : State :=
  let u := s.modSlot n g (fun x => x.ended st)
  (if st ≠ 0 ∧ (u.core n).terr < 2 ^ 31 then u.modCore n (fun c => { c with terr := 2 ^ 31 + st + 16 * g }) else u).modCore n
    (fun c => { c with movq := c.movq.filter (fun x => decide (x ≠ g)) })

theorem endSlot_eq (s : State) (n g st : Nat) :
    s.endSlot n g st false = ((((s.freeSlot n g st).noteTrk n).pumpAdds n).forgetOld n).issueMove n 32 := rfl

/-- What neither TERR nor the mover's queue belongs to is after `freeSlot` as the freed slot leaves it. -/
theorem freeSlot_leaves {α : Type} (p : Core → α) (hterr : ∀ c x, p { c with terr := x } = p c) (hmovq : ∀ c x, p { c with movq := x } = p c)
    (hcore : n < s.cores.length) (g st : Nat) :
    p ((s.freeSlot n g st).core n) = p { s.core n with slots := (s.core n).slots.modify g (fun x => x.ended st) } := by
  have hfreed := congrArg p (core_modCore hcore (fun c => { c with slots := c.slots.modify g (fun x => x.ended st) }))
  unfold State.freeSlot
  dsimp only
  rw [core_modCore_leaves p (fun c => hmovq c _)]
  split
  · rw [core_modCore_leaves p (fun c => hterr c _)]
    exact hfreed
  · exact hfreed

/-- An operation of a core that owes no marker increment ends: of what the core shows only the slot changes. -/
theorem endSlot_shown (hcore : n < s.cores.length) (hadds : (s.core n).adds = []) (g st : Nat) :
    ((s.endSlot n g st false).core n).shown =
      ((s.core n).g, (s.core n).wait, (s.core n).halted, (s.core n).slots.modify g (fun x => x.ended st)) := by
  have hnone : (((s.freeSlot n g st).noteTrk n).core n).adds = [] := by
    rw [noteTrk_core, freeSlot_leaves Core.adds (fun _ _ => rfl) (fun _ _ => rfl) hcore, hadds]
  rw [endSlot_eq, pumpAdds_of_no_adds hnone, issueMove_shown, forgetOld_shown, noteTrk_core,
    freeSlot_leaves Core.shown (fun _ _ => rfl) (fun _ _ => rfl) hcore]
  rfl

variable (h : s.hasSlot n g) (hadds : (s.core n).adds = []) (st)
include h hadds

theorem endSlot_slot : (s.endSlot n g st false).slot n g = (s.slot n g).ended st := by
  have hslots : ((s.endSlot n g st false).core n).slots = _ := congrArg (·.2.2.2) (endSlot_shown h.core hadds g st)
  rw [State.slot, hslots, State.slot]
  simp [List.getD_eq_getElem?_getD, h.slot]
theorem endSlot_wait : ((s.endSlot n g st false).core n).wait = (s.core n).wait := congrArg (·.2.1) (endSlot_shown h.core hadds g st)
theorem endSlot_halted : ((s.endSlot n g st false).core n).halted = (s.core n).halted := congrArg (·.2.2.1) (endSlot_shown h.core hadds g st)
theorem endSlot_g : ((s.endSlot n g st false).core n).g = (s.core n).g := congrArg (·.1) (endSlot_shown h.core hadds g st)
end

end Sys2Proof.Machine
end

section
/-! Proofs/MarkerTimes.lean: the register requesters of markers, the end of a wait by time, the expiry of a lease, a marker whose die is lost and the reply
that ends an operation of a core, and the settling of `Obligations.MarkerTimes` (O18). -/

namespace Sys2Proof.Machine
open Sys2Proof Sys2Proof.Machine.Reg

-- As in the files of Laws/: proofs elaborated side by side take the joined text past its memory limit.
set_option Elab.async false

/-! ### The copies of the HOP registers (R84, R230) -/

/-- A requester's copy lies a multiple of 2^26 above the register, out of the way of every other register of BAR0. -/
theorem hopCopy_mod {r : Rg} (node : Nat) (h : r.base < 2 ^ 26) : hopCopy node r % 2 ^ 26 = r.base := by
  unfold hopCopy
  (repeat' split) <;> omega
theorem hopCopy_ne_addr {r : Rg} (node : Nat) {a : Nat} (hr : r.base < 2 ^ 26) (ha : a < 2 ^ 26) (hne : r.base ≠ a) : a ≠ hopCopy node r := fun he => by
  have hbase := hopCopy_mod node hr
  omega
theorem hopCopy_ne {r q : Rg} (node : Nat) (h : r.base ≠ q.base) : hopCopy node r ≠ hopCopy node q := fun he => h (Nat.add_right_cancel he)

/-! ### MRK_HOPCMD (R230) -/

section
variable {s : State} {rq : Requester}

theorem exec_mrkHopcmdWrite (h : s.reaches rq MRK_HOPCMD.base) (v : Nat) : exec (.mrkHopcmdWrite rq v) s = .next (s.hopCmd rq v) :=
  reached_of_reaches h _ _ _

theorem modMesh_hops (s : State) (l : List Hop) : (s.modMesh (fun m => { m with hops := m.hops ++ l })).mesh.hops = s.mesh.hops ++ l := rfl

/-- MRK_HOPRES once an operation has started: BUSY and not DONE. -/
def hopStarted (x : Word) : Word := setBits (setBits x 30 1 1) 31 1 0

theorem hopStarted_shows (x : Word) : (hopStarted x).toNat.testBit 30 = true ∧ (hopStarted x).toNat.testBit 31 = false := by
  unfold hopStarted
  refine ⟨?_, ?_⟩
  · rw [testBit_setBits _ _ _ _ _ (by decide), testBit_setBits _ _ _ _ _ (by decide)]
    rfl
  · rw [testBit_setBits _ _ _ _ _ (by decide)]
    rfl

/-- The operation that a write of `v` starts for the requester. -/
def State.hopOf (s : State) (rq : Requester) (v : Nat) : Hop :=
  { node := rq.node, marker := v % 256, op := nbits v 8 3, arg := (s.reg (hopCopy rq.node MRK_HOPARG)).toNat }

theorem hopCmd_idle (hidle : (s.reg (hopCopy rq.node MRK_HOPRES)).toNat.testBit 30 = false) (v : Nat) : s.hopCmd rq v =
    (s.setReg (hopCopy rq.node MRK_HOPRES) (hopStarted (s.reg (hopCopy rq.node MRK_HOPRES)))).modMesh
      (fun m => { m with hops := m.hops ++ [s.hopOf rq v] }) := if_neg (Bool.not_eq_true _ ▸ hidle)
theorem hopCmd_busy (hbusy : (s.reg (hopCopy rq.node MRK_HOPRES)).toNat.testBit 30 = true) (v : Nat) : s.hopCmd rq v =
    s.setReg (hopCopy rq.node MRK_HOPRES) (setBits (s.reg (hopCopy rq.node MRK_HOPRES)) 29 1 1) := if_pos hbusy

/-- The first clause of `Obligations.MarkerTimes`: the requester's operation starts, and its BUSY shows. -/
theorem mrkHopcmdWrite_starts (h : s.reaches rq MRK_HOPCMD.base) (v : Nat)
    (hidle : (s.reg (hopCopy rq.node MRK_HOPRES)).toNat.testBit 30 = false) : Does (.mrkHopcmdWrite rq v) s (fun t =>
      t.mesh.hops = s.mesh.hops ++ [s.hopOf rq v] ∧
      (t.reg (hopCopy rq.node MRK_HOPRES)).toNat.testBit 30 = true ∧ (t.reg (hopCopy rq.node MRK_HOPRES)).toNat.testBit 31 = false ∧
      sameRegsBut [hopCopy rq.node MRK_HOPRES] s t) := by
  obtain ⟨hbusy, hdone⟩ := hopStarted_shows (s.reg (hopCopy rq.node MRK_HOPRES))
  refine Does.intro (exec_mrkHopcmdWrite h v) ?_
  rw [hopCmd_idle hidle, reg_modMesh, reg_setReg_same, modMesh_hops, setReg_mesh]
  refine ⟨rfl, hbusy, hdone, fun a ha => ?_⟩
  rw [reg_modMesh, reg_setReg_ne (List.ne_of_not_mem_cons ha)]

/-- The second clause: while an operation is in progress the write sets OVL alone. -/
theorem mrkHopcmdWrite_overlaps (h : s.reaches rq MRK_HOPCMD.base) (v : Nat)
    (hbusy : (s.reg (hopCopy rq.node MRK_HOPRES)).toNat.testBit 30 = true) : Does (.mrkHopcmdWrite rq v) s (fun t =>
      t.mesh.hops = s.mesh.hops ∧ (t.reg (hopCopy rq.node MRK_HOPRES)).toNat.testBit 29 = true ∧
      sameRegsBut [hopCopy rq.node MRK_HOPRES] s t) := by
  have hovl : (setBits (s.reg (hopCopy rq.node MRK_HOPRES)) 29 1 1).toNat.testBit 29 = true := by
    rw [testBit_setBits _ _ _ _ _ (by decide)]
    rfl
  refine Does.intro (exec_mrkHopcmdWrite h v) ?_
  rw [hopCmd_busy hbusy, reg_setReg_same]
  exact ⟨congrArg Mesh.hops (setReg_mesh _ _ _), hovl, sameRegsBut_setReg s _ List.mem_cons_self⟩
end

/-! ### An operation of a register requester (R230) -/

/-- MRK_HOPRES once an operation has ended with status `st` on a marker owned by `o`. -/
def hopEnded (x : Word) (st o : Nat) : Word := setBits (setBits (setBits (setBits x 0 4 st) 4 8 o) 30 1 0) 31 1 1

theorem hopEnded_shows (x : Word) (st o : Nat) :
    (hopEnded x st o).toNat.testBit 30 = false ∧ (hopEnded x st o).toNat.testBit 31 = true ∧ bits (hopEnded x st o) 0 4 = st % 16 := by
  unfold hopEnded
  refine ⟨?_, ?_, ?_⟩
  · rw [testBit_setBits _ _ _ _ _ (by decide), testBit_setBits _ _ _ _ _ (by decide)]
    rfl
  · rw [testBit_setBits _ _ _ _ _ (by decide)]
    rfl
  · rw [bits_setBits_ne _ _ _ _ _ _ (by decide) (by decide), bits_setBits_ne _ _ _ _ _ _ (by decide) (by decide),
      bits_setBits_ne _ _ _ _ _ _ (by decide) (by decide), bits_setBits _ _ _ _ (by decide)]
    rfl

section
variable (s : State) (h : Hop) (st : Nat)

theorem endHop_res : (s.endHop h st).reg (hopCopy h.node MRK_HOPRES) = hopEnded (s.reg (hopCopy h.node MRK_HOPRES)) st (s.mowner h.marker) := by
  rw [State.endHop, reg_setReg_ne (hopCopy_ne _ (by decide)), reg_setReg_same]
  rfl
theorem endHop_val : ((s.endHop h st).reg (hopCopy h.node MRK_HOPVAL)).toNat = s.mval h.marker := by
  rw [State.endHop, reg_setReg_same, BitVec.toNat_ofNat]
  exact Nat.mod_eq_of_lt (mval_lt s h.marker)
theorem endHop_sameRegsBut : sameRegsBut [hopCopy h.node MRK_HOPRES, hopCopy h.node MRK_HOPVAL] s (s.endHop h st) := fun a ha => by
  simp only [List.mem_cons, List.not_mem_nil, or_false, not_or] at ha
  obtain ⟨hres, hval⟩ := ha
  rw [State.endHop, reg_setReg_ne hval, reg_setReg_ne hres, reg_modMesh]
theorem endHop_reg {a : Nat} (ha : a < 2 ^ 26) (hres : MRK_HOPRES.base ≠ a) (hval : MRK_HOPVAL.base ≠ a) : (s.endHop h st).reg a = s.reg a := by
  refine endHop_sameRegsBut s h st a ?_
  simp only [List.mem_cons, List.not_mem_nil, or_false, not_or]
  exact ⟨hopCopy_ne_addr _ (by decide) ha hres, hopCopy_ne_addr _ (by decide) ha hval⟩
theorem endHop_marker (hk : h.marker < 256) :
    (s.endHop h st).mval h.marker = s.mval h.marker ∧ (s.endHop h st).mowner h.marker = s.mowner h.marker := by
  have hkept {r : Rg} (hr : r = MRK_VAL ∨ r = MRK_STAT) : (s.endHop h st).reg (r.at h.marker) = s.reg (r.at h.marker) := by
    obtain rfl | rfl := hr <;> refine endHop_reg s h st ?_ ?_ ?_ <;> simp only [mrkVal_at, mrkStat_at, MRK_HOPRES, MRK_HOPVAL] <;> omega
  exact ⟨congrArg BitVec.toNat (hkept (.inl rfl)), fld_of_reg_eq (hkept (.inr rfl))⟩
theorem endHop_hops : ∀ x ∈ (s.endHop h st).mesh.hops, x.node ≠ h.node := by
  intro x hx
  have hkept : x ∈ s.mesh.hops ∧ x.node ≠ h.node := by simpa [State.endHop, State.modMesh] using hx
  exact hkept.2
end

theorem calm_after_set {s : State} {k : Nat} (h : s.calm k) (v o : Nat) : ((s.setMval k v).setOwner k o).calm k :=
  calm_of_waiters_eq ((setOwner_waiters _ k o).trans (congrArg Mesh.waiters (setMval_mesh s k v))) h

/-- The end of waiters where there are none does what a visit does. -/
theorem endWaiters_of_calm {s : State} {k : Nat} (h : s.calm k) (st : Nat) : s.endWaiters k st = s.visit k := by
  have hnone : s.mesh.waiters.filter (fun w => decide (w.marker = k)) = [] := List.filter_eq_nil_iff.2 fun w hw => by simpa using h w hw
  have hall : s.mesh.waiters.filter (fun w => decide (w.marker ≠ k)) = s.mesh.waiters := List.filter_eq_self.2 fun w hw => by simpa using h w hw
  have hsame : s.modMesh (fun m => { m with waiters := m.waiters.filter (fun w => decide (w.marker ≠ k)) }) = s := by
    rw [State.modMesh, hall]
  rw [State.endWaiters, hsame, hnone, List.foldl_nil, visit_of_calm h, noteWaiters_of_calm h]

section
variable {s : State} {n g : Nat} {h : Hop} (hn : n ∈ [35, 36, 37])
include hn

theorem requester_above_cores : ¬ n < 32 := by
  simp only [List.mem_cons, List.not_mem_nil, or_false] at hn
  omega
theorem mayReset_requester : mayReset n = true := by
  simp only [List.mem_cons, List.not_mem_nil, or_false] at hn
  rw [mayReset, decide_eq_true_iff]
  omega
theorem exec_markerInstr_requester {c : Instr} {op : Nat} (hc : (c, op) ∈ markerInstrs n g) : exec c s = .next (s.markerArrive op n g) := by
  have hreq : n = 35 ∨ n = 36 ∨ n = 37 := by simpa using hn
  rw [exec_markerInstr hc, onIssuer, if_neg (requester_above_cores hn), if_pos hreq]

variable (hdie : s.dieDropped (markerDie h.marker) = false) (hway : s.held n (fileNode h.marker) = false)
include hdie hway

theorem markerArrive_reset (hreq : s.hopReq n 7 = some h) (hcalm : s.calm h.marker) :
    s.markerArrive 7 n g = (((s.setMval h.marker h.arg).setOwner h.marker noOwner).visit h.marker).endHop h 0 := by
  have hcalm' := calm_after_set hcalm h.arg noOwner
  have hplain : decide (7 = 3 ∨ 7 = 4 ∨ 7 = 5) = false := rfl
  have hreset : s.plainOp h.marker 7 h.arg n = (((s.setMval h.marker h.arg).setOwner h.marker noOwner).visit h.marker, 0) := by
    rw [plainOp_reset, mayReset_requester hn, if_pos rfl, endWaiters_of_calm hcalm']
  simp only [State.markerArrive, if_neg (requester_above_cores hn), hreq, hdie, hway, hplain, hreset, Bool.false_eq_true, if_false, Bool.not_false, if_true]

/-- The third clause: RESET sets the marker, ends its lease and answers ST_OK. -/
theorem hop_reset (hreq : s.hopReq n 7 = some h) (hnode : h.node = n) (hk : h.marker < 256) (hcalm : s.calm h.marker) :
    Does (.markerReset n g) s (fun t => t.mval h.marker = h.arg % 2 ^ 32 ∧ t.mowner h.marker = noOwner ∧ (∀ x ∈ t.mesh.hops, x.node ≠ n) ∧
      (t.reg (hopCopy n MRK_HOPRES)).toNat.testBit 30 = false ∧ (t.reg (hopCopy n MRK_HOPRES)).toNat.testBit 31 = true ∧
      bits (t.reg (hopCopy n MRK_HOPRES)) 0 4 = 0) := by
  have hcalm' := calm_after_set hcalm h.arg noOwner
  refine Does.intro (exec_markerInstr_requester (g := g) (op := 7) hn (by simp [markerInstrs])) ?_
  rw [markerArrive_reset hn hdie hway hreq hcalm]
  subst hnode
  obtain ⟨hval, howner⟩ := endHop_marker (((s.setMval h.marker h.arg).setOwner h.marker noOwner).visit h.marker) h 0 hk
  rw [hval, howner, visit_mval hcalm', visit_mowner hcalm', setOwner_mval, setMval_mval, setOwner_mowner (by decide), endHop_res]
  exact ⟨rfl, rfl, endHop_hops _ h 0, hopEnded_shows _ _ _⟩

theorem markerArrive_acquire_held (hreq : s.hopReq n 5 = some h) (hown : s.mowner h.marker ≠ noOwner) (hother : s.mowner h.marker ≠ n) :
    s.markerArrive 5 n g = s.endHop h 1 := by
  have htry : s.tryWaiting h.marker 5 h.arg n = none := by rw [tryWaiting_acquire, if_neg hown]
  simp only [State.markerArrive, if_neg (requester_above_cores hn), hreq, hdie, hway, or_true, decide_true, hother, htry, Bool.false_eq_true, if_false,
    Bool.not_true, and_false, ite_self]

/-- The fourth clause: ACQUIRE of a marker that another owns does not wait, and answers ST_MRK_TIMEOUT. -/
theorem hop_acquire_held (hreq : s.hopReq n 5 = some h) (hnode : h.node = n) (hown : s.mowner h.marker ≠ noOwner) (hother : s.mowner h.marker ≠ n)
    (hk : h.marker < 256) : Does (.markerAcquire n g) s (fun t => t.mowner h.marker = s.mowner h.marker ∧
      bits (t.reg (hopCopy n MRK_HOPRES)) 0 4 = 1 ∧ (t.reg (hopCopy n MRK_HOPVAL)).toNat = s.mval h.marker ∧
      sameRegsBut [hopCopy n MRK_HOPRES, hopCopy n MRK_HOPVAL] s t) := by
  refine Does.intro (exec_markerInstr_requester (g := g) (op := 5) hn (by simp [markerInstrs])) ?_
  rw [markerArrive_acquire_held hn hdie hway hreq hown hother]
  subst hnode
  obtain ⟨-, -, hst⟩ := hopEnded_shows (s.reg (hopCopy h.node MRK_HOPRES)) 1 (s.mowner h.marker)
  exact ⟨(endHop_marker s h 1 hk).2, (congrArg (bits · 0 4) (endHop_res s h 1)).trans hst, endHop_val s h 1, endHop_sameRegsBut s h 1⟩
end

/-! ### A wait reaches its TMO (R227) -/

section
variable {s : State} {n g : Nat} (hn : n < 32) (hg : g < 32)
include hn hg

theorem exec_markerWaitTimeout_due {w : Waiter} {x : Nat} (hfind : s.mesh.waiters.find? (fun w => decide (w.node = n ∧ w.tag = g)) = some w)
    (htill : w.till = some x) (hdue : x ≤ s.rnd.clk) : exec (.markerWaitTimeout n g) s =
      .next ((((s.modMesh (fun m => { m with waiters := m.waiters.filter (fun x => decide (x ≠ w)) })).answer n g 1 (s.mval w.marker)
        (s.mowner w.marker)).count MRK_CNT_TIMEOUT).visit w.marker) := by
  show execMarkerWaitTimeout n g s = _
  simp only [execMarkerWaitTimeout, onUnit, if_pos hn, if_pos hg, hfind, htill, if_neg (Nat.not_lt.2 hdue)]
  rfl

/-- The sixth clause: before its TMO a wait goes on. -/
theorem markerWaitTimeout_early (hearly : ∀ w ∈ s.mesh.waiters, w.node = n → w.tag = g → ∀ x, w.till = some x → s.rnd.clk < x) :
    exec (.markerWaitTimeout n g) s = .next s := by
  show execMarkerWaitTimeout n g s = _
  simp only [execMarkerWaitTimeout, onUnit, if_pos hn, if_pos hg]
  split
  next => rfl
  next w hfind =>
    obtain ⟨hnode, htag⟩ : w.node = n ∧ w.tag = g := by simpa using List.find?_some hfind
    split
    next => rfl
    next x htill => rw [if_pos (hearly w (List.mem_of_find?_eq_some hfind) hnode htag x htill)]

/-- The fifth clause: the wait of the only waiter of its marker ends with ST_MRK_TIMEOUT and is counted. -/
theorem markerWaitTimeout_due {w : Waiter} {l : List Waiter} {x : Nat} (hwaiters : s.mesh.waiters = w :: l) (hnode : w.node = n) (htag : w.tag = g)
    (htill : w.till = some x) (hdue : x ≤ s.rnd.clk) (hothers : ∀ y ∈ l, y.marker ≠ w.marker) (hop : (s.slot n g).op.isSome = true) :
    Does (.markerWaitTimeout n g) s (fun t => t.mesh.waiters = l ∧ (t.slot n g).answer = some (1, s.mval w.marker, s.mowner w.marker) ∧
      t.fld MRK_CNT_TIMEOUT = s.counted MRK_CNT_TIMEOUT ∧ t.fld MRK_STAT_WAITERS w.marker = 0) := by
  have hfind : s.mesh.waiters.find? (fun w => decide (w.node = n ∧ w.tag = g)) = some w := by simp [hwaiters, hnode, htag]
  have hleft : s.mesh.waiters.filter (fun x => decide (x ≠ w)) = l := by
    rw [hwaiters, List.filter_cons_of_neg (by simp), List.filter_eq_self]
    exact fun y hy => decide_eq_true fun he => hothers y hy (congrArg Waiter.marker he)
  obtain ⟨op, hop⟩ := Option.isSome_iff_exists.1 hop
  rw [← hleft] at hothers
  refine Does.intro (exec_markerWaitTimeout_due hn hg hfind htill hdue) ?_
  generalize hu : s.modMesh (fun m => { m with waiters := m.waiters.filter (fun x => decide (x ≠ w)) }) = u
  generalize hv : (u.answer n g 1 (s.mval w.marker) (s.mowner w.marker)).count MRK_CNT_TIMEOUT = v
  have hw : v.mesh.waiters = s.mesh.waiters.filter (fun x => decide (x ≠ w)) := by rw [← hv, count_mesh, answer_waiters, ← hu]; rfl
  have hcalm : v.calm w.marker := fun y hy => hothers y (hw ▸ hy)
  have hslot : (v.slot n g).answer = some (1, s.mval w.marker, s.mowner w.marker) := by
    have hthere : u.hasSlot n g := hasSlot_of_cores_eq (by rw [← hu]; rfl) (hasSlot_of_op hop)
    rw [State.slot, core_of_cores_eq (s := u.answer n g 1 (s.mval w.marker) (s.mowner w.marker)) (by rw [← hv, count_cores])]
    exact answer_slot hthere _ _ _
  have hcount : v.fld MRK_CNT_TIMEOUT = s.counted MRK_CNT_TIMEOUT := by
    rw [← hv, fld_count_same _ _ _ _ (by decide), State.counted, answer_fld, ← hu, fld_modMesh, State.counted]
  have hne : MRK_CNT.at ≠ MRK_STAT.at w.marker := by
    rw [mrkStat_at]
    simp only [Rg.at, MRK_CNT]
    omega
  refine ⟨?_, ?_, (fld_of_reg_eq (visit_reg_ne hcalm hne)).trans hcount, ?_⟩
  · rw [visit_mesh hcalm, hw, hleft]
  · rw [State.slot, core_of_cores_eq (visit_cores hcalm)]
    exact hslot
  · rw [visit_of_calm hcalm, fld_setFld _ _ _ _ _ (by decide), Nat.zero_mod]
end

/-! ### A lease expires (R228) -/

section
variable {s : State} {k : Nat} (hk : k < 256)
include hk

theorem exec_leaseExpiry_due {x : Lease} (hfind : s.mesh.leases.find? (fun l => decide (l.marker = k)) = some x) (hruns : x.frozen = false)
    (hdue : x.till ≤ s.rnd.clk) : exec (.leaseExpiry k) s = .next (s.takeAway k 0) := by
  have hgoes : ¬ (x.frozen = true ∨ s.rnd.clk < x.till) := by simp [hruns, hdue]
  show execLeaseExpiry k s = _
  simp only [execLeaseExpiry, onUnit, if_pos hk, hfind, if_neg hgoes]

/-- The eighth clause: no lease of the marker that runs has ended. -/
theorem leaseExpiry_early (hearly : ∀ y ∈ s.mesh.leases, y.marker = k → y.frozen = true ∨ s.rnd.clk < y.till) : exec (.leaseExpiry k) s = .next s := by
  show execLeaseExpiry k s = _
  simp only [execLeaseExpiry, onUnit, if_pos hk]
  split
  next => rfl
  next x hfind =>
    have hmarker : x.marker = k := by simpa using List.find?_some hfind
    rw [if_pos (hearly x (List.mem_of_find?_eq_some hfind) hmarker)]

/-- The marker is taken from its owner by its lease, up to the visit. -/
def State.leaseEnded (s : State) (k : Nat) : State :=
  ((s.setOwner k noOwner).count MRK_CNT_FORCED).mrkReport 0 5 k (s.mowner k + 2 ^ 8 * 0 + 2 ^ 32 * ((s.setOwner k noOwner).count MRK_CNT_FORCED).mval k)

omit hk in
theorem takeAway_lease (s : State) (k : Nat) : s.takeAway k 0 = (s.leaseEnded k).visit k := rfl
omit hk in
theorem leaseEnded_mesh (s : State) (k : Nat) : (s.leaseEnded k).mesh = (s.setOwner k noOwner).mesh := by
  rw [State.leaseEnded, mrkReport_mesh, count_mesh]
theorem leaseEnded_mval (s : State) : (s.leaseEnded k).mval k = s.mval k := by
  have hne : MRK_VAL.at k ≠ MRK_CNT_FORCED.rg.at := by
    rw [mrkVal_at]
    simp only [Rg.at, MRK_CNT_FORCED, MRK_CNT]
    omega
  rw [State.leaseEnded, mrkReport_mval hk, State.mval, State.regN, reg_count_ne hne]
  exact setOwner_mval noOwner
theorem leaseEnded_mowner (s : State) : (s.leaseEnded k).mowner k = noOwner := by
  have hne : MRK_STAT_OWNER.rg.at k ≠ MRK_CNT_FORCED.rg.at := by
    simp only [Rg.at, MRK_STAT_OWNER, MRK_STAT, MRK_CNT_FORCED, MRK_CNT]
    omega
  rw [State.leaseEnded, State.mowner, mrkReport_stat hk, fld_count_ne hne]
  exact setOwner_mowner (by decide)
omit hk in
theorem leaseEnded_forced (s : State) (k : Nat) : (s.leaseEnded k).fld MRK_CNT_FORCED = s.counted MRK_CNT_FORCED := by
  have hcnt : MRK_CNT_FORCED.rg.at ≠ MRK_STAT.at k := by
    rw [mrkStat_at]
    simp only [Rg.at, MRK_CNT_FORCED, MRK_CNT]
    omega
  have hkept : (s.setOwner k noOwner).fld MRK_CNT_FORCED = s.fld MRK_CNT_FORCED := by
    have hshown (h : Nat) : ((s.setFld MRK_STAT_OWNER noOwner k).setFld MRK_STAT_HFRZ h k).fld MRK_CNT_FORCED = s.fld MRK_CNT_FORCED := by
      rw [fld_setFld_ne hcnt, fld_setFld_ne hcnt]
    exact hshown _
  rw [State.leaseEnded, fld_of_reg_eq (mrkReport_reg (by decide) (by decide)), fld_count_same _ _ _ _ (by decide), State.counted, hkept, State.counted]
omit hk in
theorem leaseEnded_evt (s : State) (k : Nat) : (s.leaseEnded k).evt MRK_EVENT 0 := mrkReport_evt

/-- The seventh clause: the marker is free, its VALUE as it was, and the release is counted and reported. -/
theorem leaseExpiry_due {x : Lease} {l : List Lease} (hleases : s.mesh.leases = x :: l) (hmarker : x.marker = k) (hruns : x.frozen = false)
    (hdue : x.till ≤ s.rnd.clk) (hcalm : s.calm k) : Does (.leaseExpiry k) s (fun t => t.mowner k = noOwner ∧ t.mval k = s.mval k ∧
      t.fld MRK_CNT_FORCED = s.counted MRK_CNT_FORCED ∧ t.evt MRK_EVENT 0 ∧ (∀ y ∈ t.mesh.leases, y.marker ≠ k)) := by
  have hfind : s.mesh.leases.find? (fun l => decide (l.marker = k)) = some x := by simp [hleases, hmarker]
  have hcalm' : (s.leaseEnded k).calm k :=
    calm_of_waiters_eq ((congrArg Mesh.waiters (leaseEnded_mesh s k)).trans (setOwner_waiters s k noOwner)) hcalm
  have hcnt : MRK_CNT_FORCED.rg.at ≠ MRK_STAT.at k := by
    rw [mrkStat_at]
    simp only [Rg.at, MRK_CNT_FORCED, MRK_CNT]
    omega
  refine Does.intro (exec_leaseExpiry_due hk hfind hruns hdue) ?_
  rw [takeAway_lease, visit_mowner hcalm', visit_mval hcalm', visit_evt hcalm', visit_mesh hcalm', fld_of_reg_eq (visit_reg_ne hcalm' hcnt),
    leaseEnded_mowner hk, leaseEnded_mval hk, leaseEnded_forced, leaseEnded_mesh]
  exact ⟨rfl, rfl, rfl, leaseEnded_evt s k, setOwner_noOwner_leases s k⟩
end

/-! ### A wait of the Control Processor ends (R240, R453) -/

section
variable {s : State} {n rd v : Nat}

/-- A core that waits is there. -/
theorem core_of_wait (h : (s.core n).wait ≠ .none) : n < s.cores.length := by
  by_contra hout
  have hnone : s.core n = {} := by rw [State.core, List.getD_eq_default _ _ (Nat.le_of_not_lt hout)]
  rw [hnone] at h
  exact h rfl

/-- The core of which a wait ends with `v` in register `rd`, but for what retirement counts. -/
def Core.waited (c : Core) (rd v : Nat) : Core := ({ c with wait := .none } : Core).setGpr rd v

theorem waited_wait (c : Core) (rd v : Nat) : (c.waited rd v).wait = .none := by
  unfold Core.waited Core.setGpr
  split <;> rfl
theorem waited_lstat (c : Core) (rd v : Nat) : (c.waited rd v).lstat = c.lstat := by
  unfold Core.waited Core.setGpr
  split <;> rfl
theorem waited_slots (c : Core) (rd v : Nat) : (c.waited rd v).slots = c.slots := by
  unfold Core.waited Core.setGpr
  split <;> rfl
theorem waited_g (c : Core) (rd v : Nat) : (c.waited rd v).g = c.put rd v := by
  unfold Core.waited Core.setGpr Core.put
  split <;> rfl

theorem retired_leaves {α : Type} (p : Core → α) (hp : ∀ c y h b k l, p { c with cyc := y, hot := h, stall := b, skip := k, left := l } = p c)
    (s : State) (cycles hot : Nat) (waited : Bool) : p ((s.retired n cycles hot waited).core n) = p (s.core n) := by
  unfold State.retired
  dsimp only
  rw [core_modCore_leaves p (fun c => hp c _ _ _ _ _)]
  cases waited <;> rfl
theorem endWait_leaves {α : Type} (p : Core → α) (hp : ∀ c y h b k l, p { c with cyc := y, hot := h, stall := b, skip := k, left := l } = p c)
    (hthere : n < s.cores.length) (rd v : Nat) : p ((s.endWait n rd v).core n) = p ((s.core n).waited rd v) := by
  rw [State.endWait, retired_leaves p hp, State.setGpr, core_modCore (by simpa using hthere), core_modCore hthere, Core.waited]

/-- A held reply completes its MOPB: the value in its register, LSTAT, and the core waits no longer. -/
theorem wake_held {l : Nat} (hrun : (s.core n).halted = false) (hwait : (s.core n).wait = .held rd v l) :
    ((s.wake n).core n).g = (s.core n).put rd v ∧ ((s.wake n).core n).lstat = l ∧ ((s.wake n).core n).wait = .none ∧
      ((s.wake n).core n).slots = (s.core n).slots := by
  have hthere : n < s.cores.length := core_of_wait (by rw [hwait]; exact fun h => nomatch h)
  have hthere' : n < (s.modCore n (fun c => { c with lstat := l })).cores.length := by simpa using hthere
  have hwake : s.wake n = (s.modCore n (fun c => { c with lstat := l })).endWait n rd v := by
    simp only [State.wake, hrun, hwait, Bool.false_eq_true, if_false]
  rw [hwake]
  refine ⟨?_, ?_, ?_, ?_⟩
  · rw [endWait_leaves Core.g (fun _ _ _ _ _ _ => rfl) hthere', waited_g, core_modCore hthere]
    rfl
  · rw [endWait_leaves Core.lstat (fun _ _ _ _ _ _ => rfl) hthere', waited_lstat, core_modCore hthere]
  · rw [endWait_leaves Core.wait (fun _ _ _ _ _ _ => rfl) hthere', waited_wait]
  · rw [endWait_leaves Core.slots (fun _ _ _ _ _ _ => rfl) hthere', waited_slots, core_modCore hthere]
end

/-! ### The reply of a marker operation (R219) -/

section
variable {s : State} {n g k op a b x v o : Nat} (hn : n < 32) (hg : g < 32) (hop : (s.slot n g).op = some (.marker k op a b))
  (hans : (s.slot n g).answer = some (x, v, o)) (hway : s.replyWaits n g = false)
include hn hg hop hans hway

omit hn hg hway in
theorem endTracked_marker : s.endTracked n g = s.endSlot n g x (decide (x = 6)) := by
  simp only [State.endTracked, hop, hans]

/-- Nothing waits for the reply. -/
theorem exec_markerReplyRx_unawaited (hwait : ((s.endTracked n g).core n).wait = .none) : exec (.markerReplyRx n g) s = .next (s.endTracked n g) := by
  show execMarkerReplyRx n g s = _
  simp only [execMarkerReplyRx, onUnit, if_pos hn, if_pos hg, hop, hans, hway, Bool.false_eq_true, if_false, hwait]
/-- A MOPB waits for it. -/
theorem exec_markerReplyRx_awaited {rd : Nat} (hwait : ((s.endTracked n g).core n).wait = .mopb rd g) : exec (.markerReplyRx n g) s =
    .next (((s.endTracked n g).modCore n (fun c => { c with wait := .held rd v (x + 16 * o) })).wake n) := by
  show execMarkerReplyRx n g s = _
  simp only [execMarkerReplyRx, onUnit, if_pos hn, if_pos hg, hop, hans, hway, Bool.false_eq_true, if_false, hwait, if_true]

variable (hadds : (s.core n).adds = [])
include hadds

/-- The tenth clause: the slot frees and keeps the status. -/
theorem markerReplyRx_unawaited (hwait : (s.core n).wait = .none) (hthere : x ≠ 6) : Does (.markerReplyRx n g) s (fun t =>
    (t.slot n g).op = none ∧ (t.slot n g).kept = some x ∧ (t.core n).g = (s.core n).g) := by
  have hslot := hasSlot_of_op hop
  have hend : s.endTracked n g = s.endSlot n g x false := by rw [endTracked_marker hop hans, decide_eq_false hthere]
  refine Does.intro (exec_markerReplyRx_unawaited hn hg hop hans hway ?_) ?_
  · rw [hend, endSlot_wait x hslot hadds, hwait]
  · rw [hend, endSlot_slot x hslot hadds, endSlot_g x hslot hadds]
    exact ⟨rfl, rfl, rfl⟩

omit hans in
/-- The eleventh clause: the reply that a MOPB waits for completes it. -/
theorem markerReplyRx_awaited {rd : Nat} (hans : (s.slot n g).answer = some (0, v, o)) (hrun : (s.core n).halted = false)
    (hwait : (s.core n).wait = .mopb rd g) : Does (.markerReplyRx n g) s (fun t =>
      (t.slot n g).op = none ∧ (t.core n).g = (s.core n).put rd v ∧ (t.core n).lstat = 16 * o ∧ (t.core n).wait = .none) := by
  have hslot := hasSlot_of_op hop
  have hend : s.endTracked n g = s.endSlot n g 0 false := endTracked_marker hop hans
  have hmopb : ((s.endSlot n g 0 false).core n).wait = .mopb rd g := (endSlot_wait 0 hslot hadds).trans hwait
  have hthere : n < (s.endSlot n g 0 false).cores.length := core_of_wait (by rw [hmopb]; exact fun h => nomatch h)
  refine Does.intro (exec_markerReplyRx_awaited hn hg hop hans hway (rd := rd) (by rw [hend]; exact hmopb)) ?_
  rw [hend]
  generalize hu : (s.endSlot n g 0 false).modCore n (fun c => { c with wait := .held rd v (0 + 16 * o) }) = u
  have hcore : u.core n = { (s.endSlot n g 0 false).core n with wait := .held rd v (0 + 16 * o) } := by rw [← hu, core_modCore hthere]
  obtain ⟨hg', hlstat, hnone, hslots⟩ := wake_held (s := u) (n := n) (rd := rd) (v := v) (l := 0 + 16 * o)
    (by rw [hcore]; exact (endSlot_halted 0 hslot hadds).trans hrun) (by rw [hcore])
  refine ⟨?_, ?_, by rw [hlstat, Nat.zero_add], hnone⟩
  · have hkept : (u.wake n).slot n g = (s.endSlot n g 0 false).slot n g := by rw [State.slot, hslots, hcore]; rfl
    rw [hkept, endSlot_slot 0 hslot hadds]
    rfl
  · rw [hg', hcore, Core.put, Core.put, endSlot_g 0 hslot hadds]
end

/-- The ninth clause: an operation on a marker of a die that is lost is answered UNREACH. -/
theorem marker_lostDie {s : State} {n g k a w o : Nat} {c : Instr × Nat} (hn : n < 32) (hg : g < 32) (hc : c ∈ markerInstrs n g)
    (hreq : s.markerReq n g c.2 = some (k, a, w, o)) (hdie : s.dieDropped (markerDie k) = true) :
    Does c.1 s (fun t => (t.slot n g).answer = some (6, 0, 0) ∧ t.regs = s.regs) := by
  refine Does.intro (exec_markerInstr_core hc hn hg s) ?_
  rw [markerArrive_of_lost hn hreq hdie, answer_slot (hasSlot_of_markerReq hreq)]
  exact ⟨rfl, answer_regs _ _ _ _ _ _⟩

/-- Settles O18: the register requesters by what their write and the end of their operation leave of MRK_HOPRES, the wait and the lease that end by
time by the calm visit of their marker, and the reply of a core's operation by what the end of its slot leaves of the core. -/
theorem markerTimes : Obligations.MarkerTimes := by
  unfold Obligations.MarkerTimes
  refine ⟨?_, ?_, ?_, ?_, ?_, ?_, ?_, ?_, ?_, ?_, ?_⟩
  · exact fun s rq v h hidle => mrkHopcmdWrite_starts h v hidle
  · exact fun s rq v h hbusy => mrkHopcmdWrite_overlaps h v hbusy
  · exact fun s n hn g h hreq hnode hk hdie hway hcalm => hop_reset hn hdie hway hreq hnode hk hcalm
  · exact fun s n hn g h hreq hnode hk hdie hway hown hother => hop_acquire_held hn hdie hway hreq hnode hown hother hk
  · exact fun s n hn g hg w l x hwaiters hnode htag htill hdue hothers _ hop =>
      markerWaitTimeout_due hn hg hwaiters hnode htag htill hdue hothers hop
  · exact fun s n hn g hg hearly => markerWaitTimeout_early hn hg hearly
  · exact fun s k hk l x hleases hmarker hruns hdue hcalm => leaseExpiry_due hk hleases hmarker hruns hdue hcalm
  · exact fun s k hk hearly => leaseExpiry_early hk hearly
  · exact fun s n hn g k a w o c hc hg hreq hdie => marker_lostDie hn hg hc hreq hdie
  · exact fun s n hn g hg k op a b v o x hop hans _ hwait hway hthere hadds =>
      markerReplyRx_unawaited hn hg hop hans hway hadds hwait hthere
  · exact fun s n hn g hg k op a b v o rd hop hans hrun hwait hway hadds =>
      markerReplyRx_awaited hn hg hop hway hadds hans hrun hwait

end Sys2Proof.Machine
end

section
/-! Proofs/MeshPackets.lean: why `Obligations.MeshPackets` (O19) fails. Its seventh clause says that a core whose store answers a read with an
uncorrectable error is DROPPED afterwards. The fence also ends what the core waits for and shows each marker so left in its register STAT; the clause
does not ask that the waiters stand on markers of the file, and beyond the file that write lands in another register. -/

namespace Sys2Proof.Machine
open Sys2Proof Sys2Proof.Machine.Reg

set_option Elab.async false

/-- A READ descriptor of class 1: two rows of eight bytes of the store of core 16 go to address 64 of the reader's own. -/
def readOf16 : Mover :=
  { dir := 2, cls := 1, transpose := false, esize := 4, mrken := false, node := 16, mrk := 0, src := 0, dst := 64, cols := 2, rows := 2, sstride := 8,
    dstride := 8 }

/-- The marker number whose STAT would stand where PWR_DROP_CORE is. -/
def outOfFile : Nat := (PWR_DROP_CORE.base - MRK_STAT.base) / 4

/-- The first packet of `readOf16` is in flight from core 0, and core 16 waits on the marker beyond the file. -/
def readingWithStrayWaiter : State :=
  let s := State.reset.modSlot 0 0 (fun x => { x with op := some (.move readOf16 0 0 []) })
  let s := (s.modCore 0 (fun c => { c with movq := [0] })).pushFlight 0 16 1
  s.modMesh (fun m => { m with waiters := [{ marker := outOfFile, node := 16, tag := 0, op := 4, arg := 1, till := none }] })

theorem readingWithStrayWaiter_meets : let s := readingWithStrayWaiter
    s.readNow 0 0 = some ((readOf16, 0, 0, []), 0, 8) ∧ (s.meshRead 16 0 8 ([0].filter (fun i => decide (i < 8)))).2 = 4 ∧ s.struckNow = [] ∧
      s.hlth.flog.length < 16 := by decide +kernel
theorem mrkStat_at_outOfFile : MRK_STAT.at outOfFile = PWR_DROP_CORE.base := by decide

/-- Whether core 16 is DROPPED in the state that a command answers. -/
def dropped16After (o : Out) : Option Bool :=
  match o with
  | .next t => some (t.unitDropped 0 16)
  | _ => none

set_option maxRecDepth 100000 in
/-- The fence sets the bit of core 16, and the visit of the marker beyond the file clears it again as a field WAITERS. -/
theorem strayWaiter_clears_drop : dropped16After (exec (.readPacketRx 0 0 [0]) readingWithStrayWaiter) = some false := by decide +kernel

/-- Refutes O19 by its seventh clause: in `readingWithStrayWaiter` core 0 reads the store of core 16, the read meets an uncorrectable error and core 16 is
fenced, but the fence does not leave it DROPPED: it ends the wait of core 16 on a marker number beyond the file of 256, whose STAT would stand at
`mrkStat_at_outOfFile`. The clause lacks the hypothesis that the waiters stand on markers below 256. The state is a counterexample because the clause
speaks of every state; nothing here says that a run from reset comes to it (`mopTrack` names only markers below 256). -/
theorem not_meshPackets : ¬ Obligations.MeshPackets := by
  unfold Obligations.MeshPackets
  rintro ⟨-, -, -, -, -, -, badRead, -⟩
  obtain ⟨hread, hbad, hnow, hlog⟩ := readingWithStrayWaiter_meets
  obtain ⟨t, hexec, hdropped, -⟩ :=
    badRead readingWithStrayWaiter 0 (by decide) 0 (by decide) [0] _ _ _ hread (by decide) hbad hnow hlog
  have hthere : t.unitDropped 0 16 = false := by
    have hrun := strayWaiter_clears_drop
    rw [hexec] at hrun
    exact Option.some.inj hrun
  exact Bool.false_ne_true (hthere.symm.trans hdropped)

end Sys2Proof.Machine
end

section
/-! Proofs/CoreExceptions.lean: why `Obligations.CpExceptions` (O25) and the third clause of `Obligations.UnloadedStores` (O58) fail. Both say that
CORE_EXCADDR shows the operand of the exception once the job has ended. The end of a job also ends what the core waits for on the marker files, and shows
each marker so left in its register STAT (R255); the clauses do not ask that the waiters stand on markers of the file, and beyond the file that write
lands in another register. -/

namespace Sys2Proof.Machine
open Sys2Proof Sys2Proof.Machine.Reg

-- As in the files of Laws/: proofs elaborated side by side take the joined text past its memory limit.
set_option Elab.async false

/-- The marker number whose STAT would stand where CORE_EXCADDR of core 0 is. -/
def markerAtExcaddr : Nat := (CORE_EXCADDR.base - MRK_STAT.base) / 4

theorem mrkStat_at_markerAtExcaddr : MRK_STAT.at markerAtExcaddr = CORE_EXCADDR.at 0 := by decide

/-- Core 0 runs with nothing loaded, so its next word is 0xFFFF_FFFF, and has an operation waiting on the marker beyond the file. -/
def unloadedWithStrayWaiter : State :=
  (State.reset.setCstate 0 cRun).modMesh fun m =>
    { m with waiters := [{ marker := markerAtExcaddr, node := 0, tag := 0, op := 4, arg := 1, till := none }] }

theorem unloadedWithStrayWaiter_meets : let s := unloadedWithStrayWaiter
    s.whole ∧ s.canIssue 0 = true ∧ s.fetch 0 = 0xFFFFFFFF ∧ legal (s.fetch 0) = false := by decide +kernel

/-- CORE_EXCADDR of core 0 in the state that a command answers. -/
def excaddrAfter (o : Out) : Option Nat :=
  match o with
  | .next t => some (t.regN CORE_EXCADDR 0)
  | _ => none

set_option maxRecDepth 100000 in
/-- ILLEGAL writes the word to CORE_EXCADDR, and the visit of the marker beyond the file clears bits 16 to 26 of it again, as a field WAITERS. -/
theorem strayWaiter_clears_excaddr : excaddrAfter (exec (.alu 0) unloadedWithStrayWaiter) = some 0xF800FFFF := by decide +kernel

/-- In that state the exception does not leave its operand. -/
theorem not_does_faulted_of_strayWaiter : ¬ Does (.alu 0) unloadedWithStrayWaiter (Faulted 0 1 0xFFFFFFFF unloadedWithStrayWaiter) := by
  rintro ⟨t, hexec, -, -, -, -, hexcaddr, -⟩
  have hshown : t.regN CORE_EXCADDR 0 = 0xF800FFFF := by
    have hrun := strayWaiter_clears_excaddr
    rw [hexec] at hrun
    exact Option.some.inj hrun
  rw [hshown] at hexcaddr
  exact absurd hexcaddr (by decide)

/-- Refutes O25 by its first clause: in `unloadedWithStrayWaiter` core 0 takes ILLEGAL, but CORE_EXCADDR does not keep the word: the end of the job ends
the core's wait on a marker number beyond the file of 256, whose STAT would stand at `mrkStat_at_markerAtExcaddr`. The clause lacks the hypothesis that
the waiters stand on markers below 256. The state is a counterexample because the clause speaks of every state; nothing here says that a run from reset
comes to it (`mopTrack` names only markers below 256). -/
theorem not_cpExceptions : ¬ Obligations.CpExceptions := by
  unfold Obligations.CpExceptions
  rintro ⟨illegal, -⟩
  obtain ⟨hwhole, hissue, hfetch, hlegal⟩ := unloadedWithStrayWaiter_meets
  have hdoes := illegal unloadedWithStrayWaiter 0 (by decide) hwhole hissue hlegal (.alu 0) List.mem_cons_self
  rw [hfetch] at hdoes
  exact not_does_faulted_of_strayWaiter hdoes

/-- Refutes O58 by its third clause, in the same state as `not_cpExceptions` and for the same reason: the word 0xFFFF_FFFF raises ILLEGAL, but
CORE_EXCADDR does not show it afterwards. The clauses about cast-on are not what fails. -/
theorem not_unloadedStores : ¬ Obligations.UnloadedStores := by
  unfold Obligations.UnloadedStores
  rintro ⟨-, -, unloaded⟩
  obtain ⟨hwhole, hissue, hfetch, -⟩ := unloadedWithStrayWaiter_meets
  exact not_does_faulted_of_strayWaiter
    (unloaded unloadedWithStrayWaiter 0 (by decide) hwhole hissue hfetch (.alu 0) List.mem_cons_self)

end Sys2Proof.Machine
end

section
/-! Proofs/InstructionIssue.lean: how the Control Processor issues a word (R235, R236, R240): what it takes to issue, what an instruction that retires,
that begins a wait or that cannot issue yet leaves of its core and of every other one, and how a wait ends. -/

namespace Sys2Proof.Machine
open Sys2Proof Sys2Proof.Machine.Reg

-- As in the files of Laws/: proofs elaborated side by side take the joined text past its memory limit.
set_option Elab.async false

/-! ### Cores, and their registers -/

theorem cores_of_whole {s : State} (h : s.whole) : s.cores.length = 32 := by
  simp only [State.whole, State.sizes, List.cons.injEq] at h
  exact h.2.1
theorem there_of_whole {s : State} {n : Nat} (h : s.whole) (hn : n < 32) : n < s.cores.length := by rw [cores_of_whole h]; exact hn

theorem core_modCore_ne {s : State} {n m : Nat} (h : m ≠ n) (f : Core → Core) : (s.modCore n f).core m = s.core m := by
  simp [State.core, List.getD_eq_getElem?_getD, Ne.symm h]
theorem modCore_size (s : State) (n : Nat) (f : Core → Core) : (s.modCore n f).cores.length = s.cores.length := List.length_modify ..

theorem corePc_at (n : Nat) : CORE_PC.at n = 0x100010 + 0x10000 * n := rfl
theorem coreStatus_at (n : Nat) : CORE_STATUS.at n = 0x100004 + 0x10000 * n := rfl
theorem coreChstat_at (n c : Nat) : CORE_CHSTAT.at n c = 0x100104 + 0x10000 * n + 8 * c := rfl
theorem meshTrk_at (n : Nat) : MESH_TRK.at n = 0x400100 + 4 * n := rfl

theorem pc_setPc {x : Nat} (s : State) (n : Nat) (hx : x ≤ 0xFFFC) : (s.setPc n x).pc n = x := by
  have hfits : x < 2 ^ CORE_PC_PC.w := by
    have hw : 2 ^ CORE_PC_PC.w = 65536 := rfl
    omega
  rw [State.pc, State.setPc, fld_setFld _ _ _ _ _ (by decide), Nat.mod_eq_of_lt hfits]

theorem setPc_reg_ne {s : State} {n x a : Nat} (h : a ≠ CORE_PC.at n) : (s.setPc n x).reg a = s.reg a := reg_setFld_ne h
theorem setPc_cores (s : State) (n x : Nat) : (s.setPc n x).cores = s.cores := setFld_cores _ _ _ _ _
theorem setPc_data (s : State) (n x : Nat) : (s.setPc n x).data = s.data := setFld_data _ _ _ _ _
theorem setPc_mesh (s : State) (n x : Nat) : (s.setPc n x).mesh = s.mesh := setFld_mesh _ _ _ _ _
theorem reg_modCore (s : State) (n : Nat) (f : Core → Core) (a : Nat) : (s.modCore n f).reg a = s.reg a := reg_of_regs_eq (modCore_regs s n f) a
theorem modCore_pc (s : State) (n m : Nat) (f : Core → Core) : (s.modCore n f).pc m = s.pc m := fld_of_reg_eq (reg_modCore s n f _)

theorem setGpr_core {s : State} {n : Nat} (h : n < s.cores.length) (r v : Nat) : (s.setGpr n r v).core n = (s.core n).setGpr r v := core_modCore h _
theorem setGpr_g_of_core (c : Core) (r v : Nat) : (c.setGpr r v).g = c.put r v := by
  unfold Core.setGpr Core.put
  split <;> rfl
theorem setGpr_g {s : State} {n : Nat} (h : n < s.cores.length) (r v : Nat) : ((s.setGpr n r v).core n).g = (s.core n).put r v := by
  rw [setGpr_core h, setGpr_g_of_core]
/-- A write of a general register leaves what the other fields of the core hold. -/
theorem setGpr_leaves {α : Type} (p : Core → α) (hp : ∀ c g, p { c with g := g } = p c) (c : Core) (r v : Nat) : p (c.setGpr r v) = p c := by
  unfold Core.setGpr
  split
  · rfl
  · exact hp _ _
theorem put_of_g_eq {c d : Core} (h : d.g = c.g) (r v : Nat) : d.put r v = c.put r v := by rw [Core.put, h, Core.put]

/-! ### What an instruction does before the PC moves -/

/-- From `s` to `t` only registers at the addresses of `l` and parts of core `n` have changed, and the core has counted no cycle and begun no wait. -/
structure Works (l : List Nat) (n : Nat) (s t : State) : Prop where
  regs : sameRegsBut l s t
  others : ∀ m, m ≠ n → t.core m = s.core m
  size : t.cores.length = s.cores.length
  cyc : (t.core n).cyc = (s.core n).cyc
  wait : (t.core n).wait = (s.core n).wait
  hot : (t.core n).hot = (s.core n).hot

namespace Works

section
variable {l : List Nat} {n : Nat} {s t u : State}

theorem refl (l : List Nat) (n : Nat) (s : State) : Works l n s s := ⟨.refl _ _, fun _ _ => rfl, rfl, rfl, rfl, rfl⟩
theorem trans (h : Works l n s t) (g : Works l n t u) : Works l n s u where
  regs := h.regs.trans g.regs
  others m hm := (g.others m hm).trans (h.others m hm)
  size := g.size.trans h.size
  cyc := g.cyc.trans h.cyc
  wait := g.wait.trans h.wait
  hot := g.hot.trans h.hot

/-- What concerns neither cores nor registers. -/
theorem of_eq (hcores : t.cores = s.cores) (hregs : t.regs = s.regs) : Works l n s t where
  regs a _ := reg_of_regs_eq hregs a
  others m _ := core_of_cores_eq hcores m
  size := congrArg _ hcores
  cyc := congrArg _ (core_of_cores_eq hcores n)
  wait := congrArg _ (core_of_cores_eq hcores n)
  hot := congrArg _ (core_of_cores_eq hcores n)

theorem setReg (a : Nat) (v : Word) (ha : a ∈ l) : Works l n s (s.setReg a v) :=
  ⟨sameRegsBut_setReg s v ha, fun _ _ => rfl, rfl, rfl, rfl, rfl⟩
theorem setFld (f : Fld) (v i j : Nat) (ha : f.rg.at i j ∈ l) : Works l n s (s.setFld f v i j) := setReg _ _ ha

theorem modCore {f : Core → Core} (hcyc : ∀ c, (f c).cyc = c.cyc) (hwait : ∀ c, (f c).wait = c.wait) (hhot : ∀ c, (f c).hot = c.hot) :
    Works l n s (s.modCore n f) where
  regs _ _ := rfl
  others _ hm := core_modCore_ne hm f
  size := modCore_size s n f
  cyc := core_modCore_leaves Core.cyc hcyc s n n
  wait := core_modCore_leaves Core.wait hwait s n n
  hot := core_modCore_leaves Core.hot hhot s n n
theorem setGpr (r v : Nat) : Works l n s (s.setGpr n r v) :=
  modCore (fun c => setGpr_leaves Core.cyc (fun _ _ => rfl) c r v) (fun c => setGpr_leaves Core.wait (fun _ _ => rfl) c r v)
    (fun c => setGpr_leaves Core.hot (fun _ _ => rfl) c r v)

theorem ite {c : Prop} [Decidable c] (h : Works l n s t) (g : Works l n s u) : Works l n s (if c then t else u) := by
  split
  · exact h
  · exact g

theorem pc (h : Works l n s t) (hl : CORE_PC.at n ∉ l) : t.pc n = s.pc n := fld_of_reg_eq (h.regs _ hl)
theorem loadUse (h : Works l n s t) (w : Nat) : t.loadUse n w = s.loadUse n w := by rw [State.loadUse, h.hot, State.loadUse]
theorem seqPc (h : Works l n s t) (hl : CORE_PC.at n ∉ l) : t.seqPc n = ((s.pc n + 4 : Nat) : Int) := by
  rw [State.seqPc, h.pc hl]
  push_cast
  rfl
end

end Works

theorem seqPc_eq (s : State) (n : Nat) : s.seqPc n = ((s.pc n + 4 : Nat) : Int) := (Works.refl [] n s).seqPc List.not_mem_nil

/-! ### Instructions that retire -/

/-- The core after an instruction that has taken `cycles` without a wait, and whose result is late by a cycle for register `hot`. -/
def Core.goneOn (c : Core) (cycles hot : Nat) : Core :=
  { c with cyc := c.cyc + cycles, hot := hot, stall := false, skip := none, left := c.left.map (· - 1) }

/-- Core `n` goes on at `x`. -/
def State.goesOn (s : State) (n x cycles hot : Nat) : State := (s.setPc n x).modCore n fun c => c.goneOn cycles hot

section
variable {s t : State} {n x cycles hot : Nat}

theorem retired_eq_goesOn (s : State) (n x cycles hot : Nat) : (s.setPc n x).retired n cycles hot false = s.goesOn n x cycles hot := by
  rw [State.retired, State.goesOn]
  rfl

theorem goesOn_reg_ne {a : Nat} (h : a ≠ CORE_PC.at n) : (t.goesOn n x cycles hot).reg a = t.reg a := by
  rw [State.goesOn, reg_modCore, setPc_reg_ne h]
theorem goesOn_pc (hx : x ≤ 0xFFFC) : (t.goesOn n x cycles hot).pc n = x := by rw [State.goesOn, modCore_pc, pc_setPc t n hx]
theorem goesOn_data : (t.goesOn n x cycles hot).data = t.data := by rw [State.goesOn, modCore_data, setPc_data]
theorem goesOn_mesh : (t.goesOn n x cycles hot).mesh = t.mesh := by rw [State.goesOn, modCore_mesh, setPc_mesh]
theorem goesOn_core (hn : n < t.cores.length) : (t.goesOn n x cycles hot).core n = (t.core n).goneOn cycles hot := by
  have hthere : n < (t.setPc n x).cores.length := by rw [setPc_cores]; exact hn
  rw [State.goesOn, core_modCore hthere, core_of_cores_eq (setPc_cores t n x)]
theorem goesOn_core_ne {m : Nat} (hm : m ≠ n) : (t.goesOn n x cycles hot).core m = t.core m := by
  rw [State.goesOn, core_modCore_ne hm, core_of_cores_eq (setPc_cores t n x)]
theorem goesOn_g (hn : n < t.cores.length) : ((t.goesOn n x cycles hot).core n).g = (t.core n).g := by
  rw [goesOn_core hn, Core.goneOn]
theorem goesOn_slots (hn : n < t.cores.length) : ((t.goesOn n x cycles hot).core n).slots = (t.core n).slots := by
  rw [goesOn_core hn, Core.goneOn]

theorem goesOn_retired {l : List Nat} (h : Works l n s t) (hn : n < s.cores.length) (hwait : (s.core n).wait = .none) (hx : x ≤ 0xFFFC) :
    Retired l n x cycles s (t.goesOn n x cycles hot) := by
  have hthere : n < t.cores.length := by rw [h.size]; exact hn
  have hcore := goesOn_core (x := x) (cycles := cycles) (hot := hot) hthere
  refine ⟨goesOn_pc hx, ?_, ?_, fun a ha => ?_, fun m hm => ?_⟩
  · rw [hcore, Core.goneOn, h.cyc]
  · rw [hcore, Core.goneOn, h.wait, hwait]
  · rw [goesOn_reg_ne (List.ne_of_not_mem_cons ha), h.regs a (List.not_mem_of_not_mem_cons ha)]
  · rw [goesOn_core_ne hm, h.others m hm]
end

/-! ### Issue -/

section
variable {s : State} {n row w : Nat} {body : State → Nat → Act} (h : s.issues n row w)
include h

theorem wait_of_issues : (s.core n).wait = .none := by
  obtain ⟨-, hcan, -⟩ := h
  rw [State.canIssue, Bool.and_eq_true, Bool.and_eq_true] at hcan
  exact of_decide_eq_true hcan.1.2
theorem there_of_issues (hwhole : s.whole) : n < s.cores.length := there_of_whole hwhole h.1
/-- No row finds an issuing core in a wait of its own. -/
theorem waiting_of_issues : s.waiting n = some .none ∨ s.waiting n = none := by
  unfold State.waiting
  rw [wait_of_issues h]
  split
  · exact .inr rfl
  · exact .inl rfl

theorem issue_of_issues : issue n row body s = .next (s.perform n (s.loadUse n w) (body s w)) := by
  obtain ⟨hn, hcan, hfetch, hlegal, hrow, -⟩ := h
  simp only [issue, onUnit, if_pos hn, hcan, hfetch, hlegal, not_true_eq_false, if_false, hrow, if_true]

variable {x cycles hot : Nat} {t : State}

theorem issue_retires {y : Int} (hact : body s w = .retire t y cycles hot) (hy : y = (x : Nat)) (hx : x ≤ 0xFFFC) :
    issue n row body s = .next (t.goesOn n x cycles hot) := by
  have hstall : (s.core n).stall = false := h.2.2.2.2.2
  have hin : ¬ ((x : Int) < 0 ∨ 0xFFFC < (x : Int)) := by omega
  rw [issue_of_issues h, hact, hy]
  simp only [State.perform, if_neg hin, hstall, Int.toNat_natCast, retired_eq_goesOn]
/-- An instruction of one result: it has gone from `s` to `t` before it writes the result. -/
theorem issue_result {l : List Nat} {v : Nat} (hact : body s w = t.result n w v cycles) (hworks : Works l n s t) (hl : CORE_PC.at n ∉ l)
    (hx : s.pc n + 4 ≤ 0xFFFC) :
    issue n row body s = .next ((t.setGpr n (fRd w) v).goesOn n (s.pc n + 4) (cycles + s.loadUse n w) 0) := by
  rw [State.result, hworks.loadUse] at hact
  exact issue_retires h hact (hworks.seqPc hl) hx

theorem issue_raises {code addr : Nat} (hact : body s w = .exc code addr) : issue n row body s = .next (s.raise n code addr) := by
  rw [issue_of_issues h, hact]
  rfl
theorem issue_stalls (hact : body s w = .stall) : issue n row body s = .next (s.modCore n (fun c => { c with stall := true })) := by
  rw [issue_of_issues h, hact]
  rfl
theorem issue_owns (hact : body s w = .own t) : issue n row body s = .next t := by
  rw [issue_of_issues h, hact]
  rfl
end

/-! ### Instructions that begin a wait (R240) -/

/-- The core once it has begun the wait `w`, `u` being what the load before the instruction costs. -/
def Core.paused (c : Core) (u : Nat) (w : CpWait) : Core :=
  { c with wait := w, cyc := c.cyc + 1 + u, hot := 0, stall := false, skip := none }

/-- Core `n` begins the wait `w`, with `x` the PC after it. -/
def State.pauses (s : State) (n x u : Nat) (w : CpWait) : State := (s.setPc n x).modCore n fun c => c.paused u w

/-- Nothing that is at the core already ends this wait. -/
def Core.keepsWaiting (c : Core) : CpWait → Prop
  | .recv _ ch _ _ => (c.chans.getD ch {}).ready = []
  | .held .. => False
  | _ => True

section
variable {s t : State} {n x u : Nat} {w : CpWait}

theorem wake_of_keepsWaiting (hw : (s.core n).wait = w) (h : (s.core n).keepsWaiting w) : s.wake n = s := by
  unfold State.wake
  split
  · rfl
  · rw [hw]
    cases w with
    | recv rd ch limit since =>
      have hnone : s.takeMsg n ch = none := by
        have hready : (s.chan n ch).ready = [] := h
        rw [State.takeMsg, hready]
      dsimp only
      rw [hnone]
    | held => exact h.elim
    | _ => rfl

theorem pauses_reg_ne {a : Nat} (h : a ≠ CORE_PC.at n) : (t.pauses n x u w).reg a = t.reg a := by
  rw [State.pauses, reg_modCore, setPc_reg_ne h]
theorem pauses_pc (hx : x ≤ 0xFFFC) : (t.pauses n x u w).pc n = x := by rw [State.pauses, modCore_pc, pc_setPc t n hx]
theorem pauses_data : (t.pauses n x u w).data = t.data := by rw [State.pauses, modCore_data, setPc_data]
theorem pauses_mesh : (t.pauses n x u w).mesh = t.mesh := by rw [State.pauses, modCore_mesh, setPc_mesh]
theorem pauses_core (hn : n < t.cores.length) : (t.pauses n x u w).core n = (t.core n).paused u w := by
  have hthere : n < (t.setPc n x).cores.length := by rw [setPc_cores]; exact hn
  rw [State.pauses, core_modCore hthere, core_of_cores_eq (setPc_cores t n x)]
theorem pauses_sameRegsBut {l : List Nat} (h : sameRegsBut l s t) : sameRegsBut (CORE_PC.at n :: l) s (t.pauses n x u w) := fun a ha => by
  rw [pauses_reg_ne (List.ne_of_not_mem_cons ha), h a (List.not_mem_of_not_mem_cons ha)]

theorem perform_waits (hx : x ≤ 0xFFFC) (hn : n < t.cores.length) (hkeep : (t.core n).keepsWaiting w) :
    s.perform n u (.wait t (x : Nat) w) = t.pauses n x u w := by
  have hin : ¬ ((x : Int) < 0 ∨ 0xFFFC < (x : Int)) := by omega
  have hkeeps : ((t.pauses n x u w).core n).keepsWaiting w := by
    rw [pauses_core hn]
    cases w <;> exact hkeep
  have hwaits : ((t.pauses n x u w).core n).wait = w := by rw [pauses_core hn, Core.paused]
  simp only [State.perform, if_neg hin, Int.toNat_natCast]
  exact wake_of_keepsWaiting hwaits hkeeps

theorem issue_waits {row v : Nat} {body : State → Nat → Act} (h : s.issues n row v) (hwhole : s.whole) {l : List Nat} (hworks : Works l n s t)
    {y : Int} (hact : body s v = .wait t y w) (hy : y = ((s.pc n + 4 : Nat) : Int)) (hx : s.pc n + 4 ≤ 0xFFFC) (hkeep : (t.core n).keepsWaiting w) :
    issue n row body s = .next (t.pauses n (s.pc n + 4) (s.loadUse n v) w) := by
  have hthere : n < t.cores.length := by rw [hworks.size]; exact there_of_issues h hwhole
  rw [issue_of_issues h, hact, hy, perform_waits hx hthere hkeep]
end

/-! ### Waits that end -/

section
variable {s : State} {n rd v : Nat}

theorem waiting_of_running (hn : n < 32) (hrun : (s.core n).halted = false) : s.waiting n = some (s.core n).wait := by
  have hnot : ¬ ((s.core n).halted = true ∨ n ≥ 32) := by rw [hrun]; simp; omega
  rw [State.waiting, if_neg hnot]

theorem retired_regs (s : State) (n cycles hot : Nat) (waited : Bool) : (s.retired n cycles hot waited).regs = s.regs := by
  unfold State.retired
  dsimp only
  rw [modCore_regs]
  cases waited
  · rfl
  · exact draw_regs s
theorem endWait_regs : (s.endWait n rd v).regs = s.regs := by rw [State.endWait, retired_regs, State.setGpr, modCore_regs, modCore_regs]
theorem retired_mesh (s : State) (n cycles hot : Nat) (waited : Bool) : (s.retired n cycles hot waited).mesh = s.mesh := by
  unfold State.retired
  dsimp only
  rw [modCore_mesh]
  cases waited
  · rfl
  · exact draw_mesh s
theorem endWait_mesh : (s.endWait n rd v).mesh = s.mesh := by rw [State.endWait, retired_mesh, State.setGpr, modCore_mesh, modCore_mesh]
theorem endWait_wait (hn : n < s.cores.length) : ((s.endWait n rd v).core n).wait = .none := by
  rw [endWait_leaves Core.wait (fun _ _ _ _ _ _ => rfl) hn, waited_wait]
theorem endWait_g (hn : n < s.cores.length) : ((s.endWait n rd v).core n).g = (s.core n).put rd v := by
  rw [endWait_leaves Core.g (fun _ _ _ _ _ _ => rfl) hn, waited_g]
theorem endWait_slots (hn : n < s.cores.length) : ((s.endWait n rd v).core n).slots = (s.core n).slots := by
  rw [endWait_leaves Core.slots (fun _ _ _ _ _ _ => rfl) hn, waited_slots]
/-- A wait without a result: g0 takes nothing. -/
theorem put_zero (c : Core) (v : Nat) : c.put 0 v = c.g := if_pos rfl
end

end Sys2Proof.Machine
end

section
/-! Proofs/CpArithmetic.lean: arithmetic, loads, stores and branches of the Control Processor (`Obligations.CpArithmetic`, O21): what a written result
and a store leave, and the outcome of each row. -/

namespace Sys2Proof.Machine
open Sys2Proof Sys2Proof.Machine.Reg

-- As in the files of Laws/: proofs elaborated side by side take the joined text past its memory limit.
set_option Elab.async false

/-! ### Results -/

section
variable {s : State} {n row w x : Nat}

/-- A result written, and the PC moved. -/
theorem result_shows (hwhole : s.whole) (h : s.issues n row w) (hx : x ≤ 0xFFFC) (r v cycles hot : Nat) :
    let t := (s.setGpr n r v).goesOn n x cycles hot
    Retired [] n x cycles s t ∧ t.data = s.data ∧ (t.core n).hot = hot ∧ (t.core n).g = (s.core n).put r v := by
  have hn := there_of_issues h hwhole
  have hthere : n < (s.setGpr n r v).cores.length := by rw [State.setGpr, modCore_size]; exact hn
  refine ⟨goesOn_retired (Works.setGpr r v) hn (wait_of_issues h) hx, ?_, ?_, ?_⟩
  · rw [goesOn_data, State.setGpr, modCore_data]
  · rw [goesOn_core hthere, Core.goneOn]
  · rw [goesOn_g hthere, setGpr_g hn]

/-- The PC moved, and nothing else done. -/
theorem goesOn_shows (hwhole : s.whole) (h : s.issues n row w) (hx : x ≤ 0xFFFC) (cycles : Nat) :
    let t := s.goesOn n x cycles 0
    Retired [] n x cycles s t ∧ t.data = s.data ∧ (t.core n).g = (s.core n).g := by
  have hn := there_of_issues h hwhole
  exact ⟨goesOn_retired (Works.refl [] n s) hn (wait_of_issues h) hx, goesOn_data, goesOn_g hn⟩

/-- Clauses 1 to 4 of `Obligations.CpArithmetic`: a row that writes a result and goes on at the next word. -/
theorem does_result {c : Instr} {body : State → Nat → Act} (hwhole : s.whole) (h : s.issues n row w) (hx : s.pc n + 4 ≤ 0xFFFC) {v cycles : Nat}
    (hexec : exec c s = issue n row body s) (hact : body s w = s.result n w v cycles) :
    Does c s (fun t => Retired [] n (s.pc n + 4) (cycles + s.loadUse n w) s t ∧ t.data = s.data ∧ (t.core n).g = (s.core n).put (fRd w) v) := by
  obtain ⟨hretired, hdata, -, hg⟩ := result_shows hwhole h hx (fRd w) v (cycles + s.loadUse n w) 0
  exact Does.intro (hexec.trans (issue_result h hact (Works.refl [] n s) List.not_mem_nil hx)) ⟨hretired, hdata, hg⟩
end

/-! ### Loads (R236) -/

section
variable {s : State} {n row w : Nat}

theorem loadAct_of_access {sign : Bool} (hok : accessExc (s.effAddr n w) (2 ^ nbits w 14 2) (2 ^ nbits w 14 2) = none) :
    s.loadAct n w sign = .retire (s.setGpr n (fRd w) (let v := s.dataLE n (s.effAddr n w) (2 ^ nbits w 14 2)
      if sign then uInt 32 (sInt (8 * 2 ^ nbits w 14 2) v) else v)) (s.seqPc n) (1 + s.loadUse n w) (fRd w) := by
  rw [State.loadAct]
  dsimp only
  rw [hok]

/-- Clauses 5 and 6 of `Obligations.CpArithmetic`: a load that is aligned and in range. -/
theorem does_load {c : Instr} {sign : Bool} (hwhole : s.whole) (h : s.issues n row w) (hx : s.pc n + 4 ≤ 0xFFFC)
    (hok : accessExc (s.effAddr n w) (2 ^ nbits w 14 2) (2 ^ nbits w 14 2) = none)
    (hexec : exec c s = issue n row (fun s w => s.loadAct n w sign) s) :
    Does c s (fun t => Retired [] n (s.pc n + 4) (1 + s.loadUse n w) s t ∧ t.data = s.data ∧ (t.core n).hot = fRd w ∧
      (t.core n).g = (s.core n).put (fRd w) (let v := s.dataLE n (s.effAddr n w) (2 ^ nbits w 14 2)
        if sign then uInt 32 (sInt (8 * 2 ^ nbits w 14 2) v) else v)) :=
  Does.intro (hexec.trans (issue_retires h (loadAct_of_access hok) (seqPc_eq s n) hx)) (result_shows hwhole h hx _ _ _ _)
end

/-! ### Stores (R241) -/

theorem toBytes_getD (n v i : Nat) (h : i < n) : (toBytes n v).getD i 0 = v / 2 ^ (8 * i) % 256 := by
  induction n generalizing v i with
  | zero => omega
  | succ n ih =>
    rw [toBytes]
    cases i with
    | zero => simp
    | succ i =>
      rw [List.getD_cons_succ, ih _ _ (by omega), Nat.div_div_eq_div_mul]
      congr 2
      rw [Nat.mul_succ, Nat.pow_add, Nat.mul_comm]

section
variable {s : State} {n row w a : Nat} {bs : List Nat}

theorem putData_works {l : List Nat} (a : Nat) (bs : List Nat) (drain : Bool) : Works l n s (s.putData n a bs drain) := by
  have hold : Works l n s (if (s.core n).reading then s.modCore n fun c => { c with old := c.old ++ (wordsOf a bs.length).map fun w =>
      { addr := w, val := s.dataLE n w 8, before := c.ord, drain := drain } } else s) :=
    .ite (.modCore (fun _ => rfl) (fun _ => rfl) (fun _ => rfl)) (.refl l n s)
  rw [State.putData]
  exact hold.trans (.of_eq rfl rfl)
theorem putData_g (s : State) (n a : Nat) (bs : List Nat) (drain : Bool) : ((s.putData n a bs drain).core n).g = (s.core n).g := by
  unfold State.putData
  dsimp only
  split
  · exact core_modCore_leaves Core.g (by exact fun _ => rfl) s n n
  · rfl

theorem accessExc_none {a len al : Nat} (h : accessExc a len al = none) : a % al = 0 ∧ a + len ≤ 0x100000 := by
  unfold accessExc at h
  split at h
  · cases h
  · split at h
    · cases h
    · omega

/-- Clause 7 of `Obligations.CpArithmetic`: a store that is aligned and in range. -/
theorem st_stores (hwhole : s.whole) (h : s.issues n 0x06 w) (hx : s.pc n + 4 ≤ 0xFFFC)
    (hok : accessExc (s.effAddr n w) (2 ^ nbits w 14 2) (2 ^ nbits w 14 2) = none) :
    Does (.st n) s (fun t => Retired [] n (s.pc n + 4) (1 + s.loadUse n w) s t ∧ (t.core n).g = (s.core n).g ∧
      (∀ a, (a < dataAt n (s.effAddr n w) ∨ dataAt n (s.effAddr n w) + 2 ^ nbits w 14 2 ≤ a) → memGet dflt0 t.data a = memGet dflt0 s.data a) ∧
      ∀ i < 2 ^ nbits w 14 2, memGet dflt0 t.data (dataAt n (s.effAddr n w) + i) = BitVec.ofNat 8 (s.gpr n (fRd w) / 2 ^ (8 * i))) := by
  have hn := there_of_issues h hwhole
  generalize hlen : 2 ^ nbits w 14 2 = len at hok
  have hexec : exec (.st n) s = .next ((s.putData n (s.effAddr n w) (toBytes len (s.gpr n (fRd w)))).goesOn n (s.pc n + 4) (1 + s.loadUse n w) 0) := by
    show execSt n s = _
    rw [execSt]
    refine issue_retires h ?_ (seqPc_eq s n) hx
    dsimp only
    rw [hlen, hok]
  have hworks : Works [] n s (s.putData n (s.effAddr n w) (toBytes len (s.gpr n (fRd w)))) := putData_works _ _ _
  have hthere : n < (s.putData n (s.effAddr n w) (toBytes len (s.gpr n (fRd w)))).cores.length := by rw [hworks.size]; exact hn
  refine Does.intro hexec ⟨goesOn_retired hworks hn (wait_of_issues h) hx, ?_, fun a ha => ?_, fun i hi => ?_⟩
  · rw [goesOn_g hthere, putData_g]
  · rw [goesOn_data, putData_data, memGet_memPut_out (by rw [length_toBytes]; exact ha)]
  · have hin : dataAt n (s.effAddr n w) ≤ dataAt n (s.effAddr n w) + i ∧
        dataAt n (s.effAddr n w) + i < dataAt n (s.effAddr n w) + (toBytes len (s.gpr n (fRd w))).length := by
      rw [length_toBytes]
      omega
    rw [goesOn_data, putData_data, memGet_memPut, if_pos hin, Nat.add_sub_cancel_left, toBytes_getD _ _ _ hi]
    exact BitVec.eq_of_toNat_eq (by simp)
end

/-! ### Branches (R236) -/

section
variable {s : State} {n w x : Nat}

/-- Clause 8 of `Obligations.CpArithmetic`. -/
theorem bc_falls (hwhole : s.whole) (h : s.issues n 0x08 w) (hcond : condHolds (nbits w 13 3) (s.gpr n (fRd w)) (s.gpr n (fRa w)) = false)
    (hx : s.pc n + 4 ≤ 0xFFFC) :
    Does (.bc n) s (fun t => Retired [] n (s.pc n + 4) (1 + s.loadUse n w) s t ∧ t.data = s.data ∧ (t.core n).g = (s.core n).g) := by
  have hexec : exec (.bc n) s = .next (s.goesOn n (s.pc n + 4) (1 + s.loadUse n w) 0) := by
    show execBc n s = _
    rw [execBc]
    refine issue_retires h ?_ (seqPc_eq s n) hx
    dsimp only
    rw [hcond, if_neg Bool.false_ne_true]
  exact Does.intro hexec (goesOn_shows hwhole h hx _)

/-- Clause 9 of `Obligations.CpArithmetic`. -/
theorem bc_branches (hwhole : s.whole) (h : s.issues n 0x08 w) (hcond : condHolds (nbits w 13 3) (s.gpr n (fRd w)) (s.gpr n (fRa w)) = true)
    (hx : x ≤ 0xFFFC) (htarget : ((s.pc n : Nat) : Int) + 4 * sInt 13 (nbits w 0 13) = (x : Nat)) :
    Does (.bc n) s (fun t => Retired [] n x (3 + s.loadUse n w) s t ∧ t.data = s.data ∧ (t.core n).g = (s.core n).g) := by
  have hexec : exec (.bc n) s = .next (s.goesOn n x (3 + s.loadUse n w) 0) := by
    show execBc n s = _
    rw [execBc]
    refine issue_retires h ?_ htarget hx
    dsimp only
    rw [hcond, if_pos rfl]
  exact Does.intro hexec (goesOn_shows hwhole h hx _)

/-- Clause 10 of `Obligations.CpArithmetic`. -/
theorem jal_links (hwhole : s.whole) (h : s.issues n 0x09 w) (hx : x ≤ 0xFFFC)
    (htarget : ((s.pc n : Nat) : Int) + 4 * sInt 21 (nbits w 0 21) = (x : Nat)) :
    Does (.jal n) s (fun t => Retired [] n x 3 s t ∧ t.data = s.data ∧ (t.core n).g = (s.core n).put (fRd w) (s.pc n + 4)) := by
  have hexec : exec (.jal n) s = .next ((s.setGpr n (fRd w) (s.pc n + 4)).goesOn n x 3 0) := by
    show execJal n s = _
    rw [execJal]
    exact issue_retires h rfl htarget hx
  obtain ⟨hretired, hdata, -, hg⟩ := result_shows hwhole h hx (fRd w) (s.pc n + 4) 3 0
  exact Does.intro hexec ⟨hretired, hdata, hg⟩

/-- Clause 11 of `Obligations.CpArithmetic`. -/
theorem jalr_links (hwhole : s.whole) (h : s.issues n 0x0A w) (hx : x ≤ 0xFFFC) (halign : x % 4 = 0)
    (htarget : uInt 32 ((s.gpr n (fRa w) : Nat) + sInt 16 (nbits w 0 16)) = x) :
    Does (.jalr n) s (fun t => Retired [] n x (3 + s.loadUse n w) s t ∧ t.data = s.data ∧ (t.core n).g = (s.core n).put (fRd w) (s.pc n + 4)) := by
  have hexec : exec (.jalr n) s = .next ((s.setGpr n (fRd w) (s.pc n + 4)).goesOn n x (3 + s.loadUse n w) 0) := by
    show execJalr n s = _
    rw [execJalr]
    refine issue_retires h ?_ rfl hx
    dsimp only
    rw [htarget, if_neg (not_not.2 halign)]
  obtain ⟨hretired, hdata, -, hg⟩ := result_shows hwhole h hx (fRd w) (s.pc n + 4) (3 + s.loadUse n w) 0
  exact Does.intro hexec ⟨hretired, hdata, hg⟩
end

/-- Settles O21: the rows of one result by what a written result leaves, loads by the bytes they read, a store by the bytes it puts, branches by where
the PC goes. -/
theorem cpArithmetic : Obligations.CpArithmetic := by
  unfold Obligations.CpArithmetic
  refine ⟨?_, ?_, ?_, ?_, ?_, ?_, ?_, ?_, ?_, ?_, ?_⟩
  · exact fun s n w hwhole h hx => does_result hwhole h hx (show execAlu n s = _ by rw [execAlu]) rfl
  · exact fun s n w hwhole h hx => does_result hwhole h hx (show execAlui n s = _ by rw [execAlui]) rfl
  · exact fun s n w hwhole h hx => does_result hwhole h hx (show execLui n s = _ by rw [execLui]) rfl
  · exact fun s n w hwhole h hx => does_result hwhole h hx (show execOril n s = _ by rw [execOril]) rfl
  · exact fun s n w hwhole h hx hok => does_load (sign := false) hwhole h hx hok (show execLdu n s = _ by rw [execLdu])
  · exact fun s n w hwhole h hx hok => does_load (sign := true) hwhole h hx hok (show execLds n s = _ by rw [execLds])
  · exact fun s n w hwhole h hx hok => st_stores hwhole h hx hok
  · exact fun s n w hwhole h hcond hx => bc_falls hwhole h hcond hx
  · exact fun s n w x hwhole h hcond hx htarget => bc_branches hwhole h hcond hx htarget
  · exact fun s n w x hwhole h hx htarget => jal_links hwhole h hx htarget
  · exact fun s n w x hwhole h hx halign htarget => jalr_links hwhole h hx halign htarget

end Sys2Proof.Machine
end

section
/-! Proofs/TrackedSlots.lean: what the Control Processor's tracked slots, credits and receive channels hold after the operations a SEND, RECV, MREL,
MCTL, MOP and MOVD are made of (R215, R217, R240, R242 to R245). -/

namespace Sys2Proof.Machine
open Sys2Proof Sys2Proof.Machine.Reg

-- As in the files of Laws/: proofs elaborated side by side take the joined text past its memory limit.
set_option Elab.async false

/-! ### Lists and finite maps -/

theorem look_unbind_same {α : Type} (l : List (Nat × α)) (k : Nat) : look (unbind l k) k = none := by
  unfold look unbind
  induction l with
  | nil => rfl
  | cons p l ih =>
    obtain ⟨j, v⟩ := p
    unfold sparseErase
    split
    · exact ih
    next hne => rw [List.find?_cons_of_neg (by simpa using Ne.symm hne)]; exact ih

theorem set_modify_same {α : Type} (l : List α) (k : Nat) (x : α) (f : α → α) : (l.set k x).modify k f = l.set k (f x) := by
  refine List.ext_getElem? fun i => ?_
  by_cases hi : k = i
  · by_cases hlen : k < l.length <;> simp [hi, hi ▸ hlen]
  · simp [hi]

/-! ### Fields of a core that a result leaves -/

section
variable {s t : State} {n x cycles hot r v : Nat}

/-- What neither the general registers nor the counters of an issue belong to is the same after a written result. -/
theorem result_leaves {α : Type} (p : Core → α) (hg : ∀ c g, p { c with g := g } = p c) (hon : ∀ c y h, p (Core.goneOn c y h) = p c)
    (hn : n < t.cores.length) : p (((t.setGpr n r v).goesOn n x cycles hot).core n) = p (t.core n) := by
  have hthere : n < (t.setGpr n r v).cores.length := by rw [State.setGpr, modCore_size]; exact hn
  rw [goesOn_core hthere, hon, setGpr_core hn, setGpr_leaves p hg]
theorem result_mesh : ((t.setGpr n r v).goesOn n x cycles hot).mesh = t.mesh := by rw [goesOn_mesh, State.setGpr, modCore_mesh]
theorem result_data : ((t.setGpr n r v).goesOn n x cycles hot).data = t.data := by rw [goesOn_data, State.setGpr, modCore_data]
theorem result_g (hn : n < t.cores.length) : (((t.setGpr n r v).goesOn n x cycles hot).core n).g = (t.core n).put r v := by
  have hthere : n < (t.setGpr n r v).cores.length := by rw [State.setGpr, modCore_size]; exact hn
  rw [goesOn_g hthere, setGpr_g hn]
theorem result_retired {l : List Nat} (h : Works l n s t) (hn : n < s.cores.length) (hwait : (s.core n).wait = .none) (hx : x ≤ 0xFFFC) :
    Retired l n x cycles s ((t.setGpr n r v).goesOn n x cycles hot) :=
  goesOn_retired (h.trans (Works.setGpr r v)) hn hwait hx
end

/-! ### Slots (R240) -/

section
variable {s : State} {n k : Nat} {op : Track}

theorem freeSlot_lt {c : Core} (h : c.freeSlot = some k) : k < c.slots.length := by
  rw [Core.freeSlot, List.findIdx?_eq_some_iff_getElem] at h
  exact h.1

theorem noteTrk_works (s : State) (n : Nat) : Works [MESH_TRK.at n] n s (s.noteTrk n) := by
  have hinuse (v : Nat) : Works [MESH_TRK.at n] n s (s.setFld MESH_TRK_INUSE v n) := Works.setFld _ _ _ _ (List.mem_singleton.2 rfl)
  unfold State.noteTrk
  dsimp only
  split
  · exact (hinuse _).trans (Works.setFld _ _ _ _ (List.mem_singleton.2 rfl))
  · exact hinuse _
theorem noteTrk_data (s : State) (n : Nat) : (s.noteTrk n).data = s.data := by
  unfold State.noteTrk
  dsimp only
  split
  · rw [setFld_data, setFld_data]
  · rw [setFld_data]
theorem noteTrk_mesh (s : State) (n : Nat) : (s.noteTrk n).mesh = s.mesh := by
  unfold State.noteTrk
  dsimp only
  split
  · rw [setFld_mesh, setFld_mesh]
  · rw [setFld_mesh]

/-- The core once operation `op` has taken slot `k`. -/
def Core.taken (c : Core) (k : Nat) (op : Track) : Core := { c with slots := c.slots.set k { op := some op, ord := c.ord }, ord := c.ord + 1 }

theorem takeSlot_works (s : State) (n k : Nat) (op : Track) : Works [MESH_TRK.at n] n s (s.takeSlot n k op) :=
  .trans (t := s.modCore n fun c => c.taken k op) (.modCore (fun _ => rfl) (fun _ => rfl) (fun _ => rfl)) (noteTrk_works _ n)
theorem takeSlot_core (hn : n < s.cores.length) : (s.takeSlot n k op).core n = (s.core n).taken k op := by
  rw [State.takeSlot, noteTrk_core, core_modCore hn, Core.taken]
theorem takeSlot_data : (s.takeSlot n k op).data = s.data := by rw [State.takeSlot, noteTrk_data, modCore_data]
theorem takeSlot_mesh : (s.takeSlot n k op).mesh = s.mesh := by rw [State.takeSlot, noteTrk_mesh, modCore_mesh]
theorem takeSlot_pc : (s.takeSlot n k op).pc n = s.pc n := (takeSlot_works s n k op).pc (by simp [corePc_at, meshTrk_at]; omega)

/-- What an operation names changes no core and no register. -/
theorem nameMarker_eqs (s : State) (n k : Nat) :
    (s.nameMarker n k).cores = s.cores ∧ (s.nameMarker n k).regs = s.regs ∧ (s.nameMarker n k).data = s.data := by
  unfold State.nameMarker
  split
  · split <;> exact ⟨rfl, rfl, rfl⟩
  · exact ⟨rfl, rfl, rfl⟩
theorem takeNamed_eqs (s : State) (n k : Nat) (op : Track) :
    (s.takeNamed n k op).cores = (s.takeSlot n k op).cores ∧ (s.takeNamed n k op).regs = (s.takeSlot n k op).regs ∧
      (s.takeNamed n k op).data = (s.takeSlot n k op).data := by
  unfold State.takeNamed
  dsimp only
  split
  · exact nameMarker_eqs _ _ _
  · split
    · exact nameMarker_eqs _ _ _
    · exact ⟨rfl, rfl, rfl⟩
  · exact ⟨rfl, rfl, rfl⟩
theorem takeNamed_works (s : State) (n k : Nat) (op : Track) : Works [MESH_TRK.at n] n s (s.takeNamed n k op) := by
  obtain ⟨hcores, hregs, -⟩ := takeNamed_eqs s n k op
  exact (takeSlot_works s n k op).trans (.of_eq hcores hregs)
theorem takeNamed_core (hn : n < s.cores.length) : (s.takeNamed n k op).core n = (s.core n).taken k op := by
  rw [core_of_cores_eq (takeNamed_eqs s n k op).1, takeSlot_core hn]
theorem takeNamed_data : (s.takeNamed n k op).data = s.data := (takeNamed_eqs s n k op).2.2.trans takeSlot_data
end

/-! ### Credits and message numbers (R215, R242) -/

section
variable {s : State} {n d c v : Nat}

theorem credit_setCredit : (s.setCredit n d c v).credit n d c = v := by
  by_cases hv : v = 0
  · simp [State.credit, State.setCredit, State.modMesh, hv, look_unbind_same]
  · simp [State.credit, State.setCredit, State.modMesh, hv, look_bind_same]
theorem nextMseq_bumpMseq : (s.bumpMseq n d c).nextMseq n d c = (s.nextMseq n d c + 1) % 256 := by
  simp [State.nextMseq, State.bumpMseq, State.modMesh, look_bind_same]
theorem credit_of_cred_eq {t : State} (h : t.mesh.cred = s.mesh.cred) : t.credit n d c = s.credit n d c := by
  rw [State.credit, h, State.credit]
theorem nextMseq_of_mseq_eq {t : State} (h : t.mesh.mseq = s.mesh.mseq) : t.nextMseq n d c = s.nextMseq n d c := by
  rw [State.nextMseq, h, State.nextMseq]

variable {k cls a len : Nat}

/-- The slot of a message whose credits are taken. -/
def Slot.sending (x : Slot) (d c q cls a len num : Nat) : Slot := { x with op := some (.send d c q cls a len 0 []), sent := num }

theorem modSlot_works (l : List Nat) (s : State) (n k : Nat) (f : Slot → Slot) : Works l n s (s.modSlot n k f) :=
  .modCore (fun _ => rfl) (fun _ => rfl) (fun _ => rfl)
theorem sendNext_works (l : List Nat) (n : Nat) (s : State) : Works l n s s.sendNext := .of_eq rfl rfl
theorem sendNext_cores (s : State) : s.sendNext.cores = s.cores := rfl
theorem sendNext_data (s : State) : s.sendNext.data = s.data := rfl
theorem sendNext_regs (s : State) : s.sendNext.regs = s.regs := rfl

/-- The credits of a message of `len` bytes are taken, and its number. -/
def State.paid (s : State) (n d c len : Nat) : State := (s.setCredit n d c (s.credit n d c - msgPackets len)).bumpMseq n d c

theorem paid_works (l : List Nat) (s : State) (n d c len : Nat) : Works l n s (s.paid n d c len) := .of_eq rfl rfl
theorem paid_core (s : State) (n d c len m : Nat) : (s.paid n d c len).core m = s.core m := core_of_cores_eq rfl m
theorem paid_data (s : State) (n d c len : Nat) : (s.paid n d c len).data = s.data := rfl
theorem paid_regs (s : State) (n d c len : Nat) : (s.paid n d c len).regs = s.regs := rfl
theorem paid_credit (s : State) (n d c len : Nat) : (s.paid n d c len).credit n d c = s.credit n d c - msgPackets len :=
  (credit_of_cred_eq rfl).trans (credit_setCredit (s := s))
theorem paid_nextMseq (s : State) (n d c len : Nat) : (s.paid n d c len).nextMseq n d c = (s.nextMseq n d c + 1) % 256 :=
  nextMseq_bumpMseq.trans (congrArg (fun q => (q + 1) % 256) (nextMseq_of_mseq_eq rfl))

/-- A message of class NORMAL or BULK is not charged. -/
theorem paySend_eq (s : State) (n k d c a len : Nat) (hcls : cls ≠ 0) :
    s.paySend n k d c cls a len =
      ((s.paid n d c len).modSlot n k fun x => x.sending d c (s.nextMseq n d c) cls a len s.mesh.num).sendNext := by
  unfold State.paySend
  dsimp only
  rw [if_neg hcls]
  rfl
theorem paySend_works (l : List Nat) (hcls : cls ≠ 0) : Works l n s (s.paySend n k d c cls a len) := by
  rw [paySend_eq _ _ _ _ _ _ _ hcls]
  exact ((paid_works _ _ _ _ _ _).trans (modSlot_works _ _ _ _ _)).trans (sendNext_works _ _ _)
theorem paySend_core (hcls : cls ≠ 0) (hn : n < s.cores.length) : (s.paySend n k d c cls a len).core n =
    { s.core n with slots := (s.core n).slots.modify k fun x => x.sending d c (s.nextMseq n d c) cls a len s.mesh.num } := by
  have hthere : n < (s.paid n d c len).cores.length := hn
  rw [paySend_eq _ _ _ _ _ _ _ hcls, core_of_cores_eq (sendNext_cores _), State.modSlot, core_modCore hthere, paid_core]
theorem paySend_data (hcls : cls ≠ 0) : (s.paySend n k d c cls a len).data = s.data := by
  rw [paySend_eq _ _ _ _ _ _ _ hcls, sendNext_data, State.modSlot, modCore_data, paid_data]
theorem paySend_regs (hcls : cls ≠ 0) : (s.paySend n k d c cls a len).regs = s.regs := by
  rw [paySend_eq _ _ _ _ _ _ _ hcls, sendNext_regs, State.modSlot, modCore_regs, paid_regs]
theorem paySend_credit (hcls : cls ≠ 0) : (s.paySend n k d c cls a len).credit n d c = s.credit n d c - msgPackets len := by
  rw [paySend_eq _ _ _ _ _ _ _ hcls, ← paid_credit]
  exact credit_of_cred_eq rfl
theorem paySend_nextMseq (hcls : cls ≠ 0) : (s.paySend n k d c cls a len).nextMseq n d c = (s.nextMseq n d c + 1) % 256 := by
  rw [paySend_eq _ _ _ _ _ _ _ hcls, ← paid_nextMseq s n d c len]
  exact nextMseq_of_mseq_eq rfl
end

/-! ### Receive channels (R217, R243) -/

section
variable {s : State} {n c : Nat}

theorem chan_modChan (hn : n < s.cores.length) (hc : c < (s.core n).chans.length) (f : Chan → Chan) :
    (s.modChan n c f).chan n c = f (s.chan n c) := by
  rw [State.chan, State.modChan, core_modCore hn]
  simp [State.chan, List.getD_eq_getElem?_getD, hc]
theorem chan_of_core_eq {t : State} (h : t.core n = s.core n) : t.chan n c = s.chan n c := by rw [State.chan, h, State.chan]
theorem chan_lt_of_ready {q : Nat × Nat × Nat} {l : List (Nat × Nat × Nat)} (h : (s.chan n c).ready = q :: l) : c < (s.core n).chans.length := by
  by_contra hnot
  have hnone : s.chan n c = {} := List.getD_eq_default _ _ (by omega)
  rw [hnone] at h
  cases h

theorem modChan_works (l : List Nat) (f : Chan → Chan) : Works l n s (s.modChan n c f) :=
  .modCore (fun _ => rfl) (fun _ => rfl) (fun _ => rfl)
theorem noteChan_works (s : State) (n c : Nat) : Works [CORE_CHSTAT.at n c] n s (s.noteChan n c) := by
  have hready (v : Nat) : Works [CORE_CHSTAT.at n c] n s (s.setFld CORE_CHSTAT_READY v n c) := Works.setFld _ _ _ _ (List.mem_singleton.2 rfl)
  have hdrain (t : State) (v : Nat) : Works [CORE_CHSTAT.at n c] n t (t.setFld CORE_CHSTAT_DRAIN v n c) :=
    Works.setFld _ _ _ _ (List.mem_singleton.2 rfl)
  rw [State.noteChan]
  exact (hready _).trans (hdrain _ _)
theorem noteChan_core (s : State) (n c m : Nat) : (s.noteChan n c).core m = s.core m := by
  rw [State.noteChan]
  exact core_of_cores_eq ((setFld_cores _ _ _ _ _).trans (setFld_cores _ _ _ _ _)) m
theorem giveCredit_works (l : List Nat) (n : Nat) (s : State) (node src c k : Nat) : Works l n s (s.giveCredit node src c k) := by
  unfold State.giveCredit
  split
  · exact .refl l n s
  · exact .of_eq rfl rfl
theorem giveCredit_core (s : State) (node src c k m : Nat) : (s.giveCredit node src c k).core m = s.core m := by
  unfold State.giveCredit
  split <;> rfl
theorem giveCredit_rets {node src k : Nat} (hk : 0 < k) :
    (s.giveCredit node src c k).mesh.rets = s.mesh.rets ++ [{ dst := src, src := node, chan := c, count := k, seq := s.mesh.num }] := by
  unfold State.giveCredit
  rw [if_neg (by omega)]
  rfl

/-- The message at the head of a channel has been taken. -/
def State.tookMsg (s : State) (n c : Nat) (p : Nat) (l : List (Nat × Nat × Nat)) : State :=
  (s.modChan n c fun x => { x with ready := l, out := x.out + p }).noteChan n c

variable {q f p : Nat} {l : List (Nat × Nat × Nat)}

theorem takeMsg_of_ready (h : (s.chan n c).ready = (q, f, p) :: l) : s.takeMsg n c = some (s.tookMsg n c p l, s.chanBase n c + 256 * f) := by
  unfold State.takeMsg
  rw [h]
  rfl
theorem tookMsg_works : Works [CORE_CHSTAT.at n c] n s (s.tookMsg n c p l) := (modChan_works _ _).trans (noteChan_works _ n c)
theorem tookMsg_g (hn : n < s.cores.length) : ((s.tookMsg n c p l).core n).g = (s.core n).g := by
  rw [State.tookMsg, noteChan_core, State.modChan, core_modCore hn]
theorem tookMsg_chan (hn : n < s.cores.length) (hc : c < (s.core n).chans.length) :
    (s.tookMsg n c p l).chan n c = { s.chan n c with ready := l, out := (s.chan n c).out + p } := by
  rw [State.tookMsg, chan_of_core_eq (noteChan_core _ _ _ _), chan_modChan hn hc]

theorem flushChan_works (s : State) (n c : Nat) : Works [CORE_CHSTAT.at n c] n s (s.flushChan n c) := by
  have hseq (t : State) (v : Nat) : Works [CORE_CHSTAT.at n c] n t (t.setFld CORE_CHSTAT_FLUSHSEQ v n c) :=
    Works.setFld _ _ _ _ (List.mem_singleton.2 rfl)
  rw [State.flushChan]
  exact (((modChan_works _ _).trans (hseq _ _)).trans (giveCredit_works _ _ _ _ _ _ _)).trans (noteChan_works _ n c)
theorem flushChan_chan (hn : n < s.cores.length) (hc : c < (s.core n).chans.length) :
    ((s.flushChan n c).chan n c).ready = [] ∧ ((s.flushChan n c).chan n c).out = 0 := by
  unfold State.flushChan
  rw [chan_of_core_eq ((noteChan_core _ _ _ _).trans ((giveCredit_core _ _ _ _ _ _).trans (core_of_cores_eq (setFld_cores _ _ _ _ _) n))),
    chan_modChan hn hc]
  exact ⟨rfl, rfl⟩
end

/-! ### The mover's packets (R20, R222, R245) -/

section
variable {s : State} {n k : Nat}

/-- What charging a packet and sending one leave, issuing the running descriptor's packets leaves. -/
theorem issueMove_leaves {α : Type} (p : State → α) (hcharge : ∀ s len, p (s.chargeCore n len).1 = p s)
    (hpush : ∀ s src dst cls, p (State.pushFlight s src dst cls) = p s) (s : State) (k : Nat) : p (s.issueMove n k) = p s := by
  induction k generalizing s with
  | zero => rfl
  | succ k ih =>
    unfold State.issueMove
    split
    · dsimp only
      split
      · rw [ih, hpush]
        split
        · exact hcharge _ _
        · rfl
      · rfl
    · rfl

/-- A core's charge for a DEADLINE packet changes its budget, counters and events of the mesh, and what a report leaves. -/
theorem chargeCore_pc (hn : n < 32) (s : State) (len : Nat) : (s.chargeCore n len).1.pc n = s.pc n := by
  have hat := corePc_at n
  have honce (s : State) : (s.meshOnce 3 n).reg (CORE_PC.at n) = s.reg (CORE_PC.at n) := by
    have hquiet : quiet (CORE_PC.at n) := by
      rw [quiet_def]
      omega
    have hne : CORE_PC.at n ≠ MESH_EVENT.base := by
      show _ ≠ 0x400008
      omega
    unfold State.meshOnce
    dsimp only
    rw [if_neg (by decide : ¬ (3 : Nat) = 4)]
    split
    · exact event_reg (v := 33) (by decide) hquiet hne
    · exact report_reg (v := 33) (by decide) hquiet hne
  unfold State.chargeCore
  dsimp only
  split
  · exact modCore_pc _ _ _ _
  · split
    · refine fld_of_reg_eq ((honce _).trans (reg_count_ne ?_))
      show _ ≠ MESH_CNT_DEMOTE.rg.at 0 0
      have : MESH_CNT_DEMOTE.rg.at 0 0 < 0x500000 ∧ 0x400000 ≤ MESH_CNT_DEMOTE.rg.at 0 0 := by decide
      omega
    · rfl
theorem chargeCore_leaves {α : Type} (p : Core → α) (hp : ∀ c b, p { c with budget := b } = p c) (s : State) (len : Nat) :
    p ((s.chargeCore n len).1.core n) = p (s.core n) := by
  unfold State.chargeCore
  dsimp only
  split
  · exact core_modCore_leaves p (fun c => hp c _) s n n
  · split
    · exact congrArg p (core_of_cores_eq ((meshOnce_cores _ 3 n).trans (count_cores _ _ _ _ _)) n)
    · rfl
theorem chargeCore_size (s : State) (len : Nat) : (s.chargeCore n len).1.cores.length = s.cores.length := by
  unfold State.chargeCore
  dsimp only
  split
  · exact modCore_size _ _ _
  · split
    · exact congrArg List.length ((meshOnce_cores _ 3 n).trans (count_cores _ _ _ _ _))
    · rfl
theorem meshOnce_data (s : State) (b : Nat) : (s.meshOnce b n).data = s.data :=
  (State.meshOnce_only s b n s (m' := 8720897)).2 (Only.refl _ s) .data (by decide)
theorem chargeCore_data (s : State) (len : Nat) : (s.chargeCore n len).1.data = s.data := by
  unfold State.chargeCore
  dsimp only
  split
  · exact modCore_data _ _ _
  · split
    · exact (meshOnce_data _ _).trans (setFld_data _ _ _ _ _)
    · rfl

/-- Issue of the mover's packets leaves what of the core has no part in its budget. -/
theorem issueMove_core {α : Type} (p : Core → α) (hp : ∀ c b, p { c with budget := b } = p c) (s : State) (k : Nat) :
    p ((s.issueMove n k).core n) = p (s.core n) :=
  issueMove_leaves (fun s => p (s.core n)) (chargeCore_leaves p hp) (fun _ _ _ _ => rfl) s k
theorem issueMove_pc (hn : n < 32) (s : State) (k : Nat) : (s.issueMove n k).pc n = s.pc n :=
  issueMove_leaves (fun s => s.pc n) (chargeCore_pc hn) (fun _ _ _ _ => rfl) s k
theorem issueMove_data (s : State) (k : Nat) : (s.issueMove n k).data = s.data :=
  issueMove_leaves State.data chargeCore_data (fun _ _ _ _ => rfl) s k

/-- The class of core `n`'s running descriptor, if one runs. -/
def State.moveClass (s : State) (n : Nat) : Option Nat := ((s.core n).movq.head?.bind (s.headMove n)).map fun x => x.1.cls

theorem moveClass_of_core_eq {t : State} (h : t.core n = s.core n) : t.moveClass n = s.moveClass n := by
  have hhead (k : Nat) : t.headMove n k = s.headMove n k := by rw [State.headMove, State.slot, h, State.headMove, State.slot]
  rw [State.moveClass, h, funext hhead, State.moveClass]
/-- Packets of a class other than DEADLINE leave no trace at a core or in a register. -/
theorem issueMove_eqs (h : s.moveClass n ≠ some 0) (k : Nat) : (s.issueMove n k).cores = s.cores ∧ (s.issueMove n k).regs = s.regs := by
  induction k generalizing s with
  | zero => exact ⟨rfl, rfl⟩
  | succ k ih =>
    unfold State.issueMove
    split
    next m gone bad buf hhead =>
      have hcls : m.cls ≠ 0 := fun hzero => h (by rw [State.moveClass, hhead, Option.map_some, hzero])
      dsimp only
      split
      · exact ih (by rw [moveClass_of_core_eq (pushFlight_core ..)]; exact h)
      · exact ⟨rfl, rfl⟩
    · exact ⟨rfl, rfl⟩
end

end Sys2Proof.Machine
end

section
/-! Proofs/CpTracked.lean: the tracked operations of the Control Processor (`Obligations.CpTracked`, O22): messages sent and received, marker operations,
and the store mover's descriptors. -/

namespace Sys2Proof.Machine
open Sys2Proof Sys2Proof.Machine.Reg

-- As in the files of Laws/: proofs elaborated side by side take the joined text past its memory limit.
set_option Elab.async false

theorem corePc_notin_trk (n : Nat) : CORE_PC.at n ∉ [MESH_TRK.at n] := by
  rw [corePc_at, meshTrk_at, List.mem_singleton]
  omega
theorem corePc_notin_chstat (n c : Nat) : CORE_PC.at n ∉ [CORE_CHSTAT.at n c] := by
  rw [corePc_at, coreChstat_at, List.mem_singleton]
  omega

/-! ### SEND (R217, R242) -/

section
variable {s : State} {n w k b : Nat}

theorem send_of_issues (h : s.issues n 0x0C w) : exec (.send n) s = issue n 0x0C (fun s w => s.sendAct n w) s := by
  show execSend n s = _
  unfold execSend
  rcases waiting_of_issues h with hwait | hwait <;> rw [hwait]

theorem nodeDropped_takeSlot (hn : n < 32) (op : Track) (d : Nat) : (s.takeSlot n k op).nodeDropped d = s.nodeDropped d := by
  have hregs := (takeSlot_works s n k op).regs
  have hcore : (s.takeSlot n k op).reg (PWR_DROP_CORE.at 0 0) = s.reg (PWR_DROP_CORE.at 0 0) := by
    refine hregs _ ?_
    rw [meshTrk_at, List.mem_singleton]
    show 0x0D0014 ≠ _
    omega
  have hunit : (s.takeSlot n k op).reg (PWR_DROP_UNIT_SE.rg.at 0 0) = s.reg (PWR_DROP_UNIT_SE.rg.at 0 0) := by
    refine hregs _ ?_
    rw [meshTrk_at, List.mem_singleton]
    show 0x0D0018 ≠ _
    omega
  rw [State.nodeDropped, State.coreDropped, State.engineDropped, State.regN, hcore, fld_of_reg_eq hunit, State.nodeDropped, State.coreDropped,
    State.engineDropped, State.regN]

/-- The operands of a SEND raise no exception (R242, R248). -/
structure SendLegal (s : State) (n w b : Nat) : Prop where
  word : b = s.gpr n (fRb w)
  aligned : s.gpr n (fRa w) % 8 = 0
  inRange : s.gpr n (fRa w) + nbits b 0 12 ≤ 0x100000
  zeros : nbits b 12 4 = 0 ∧ nbits b 22 2 = 0 ∧ nbits b 30 2 = 0
  length : 0 < nbits b 0 12 ∧ nbits b 0 12 ≤ 3968
  node : nbits b 16 6 ≤ 33
  cls : nbits b 28 2 < 3

/-- The operation that a SEND takes its slot with. -/
def wanted (s : State) (n w b : Nat) : Track := .want (nbits b 16 6) (nbits b 24 4) (nbits b 28 2) (s.gpr n (fRa w)) (nbits b 0 12)

section
variable (h : SendLegal s n w b)
include h

theorem SendLegal.args : ¬ (nbits b 12 4 ≠ 0 ∨ nbits b 22 2 ≠ 0 ∨ nbits b 30 2 ≠ 0 ∨ nbits b 0 12 = 0 ∨ 3968 < nbits b 0 12 ∨ 33 < nbits b 16 6 ∨
    nbits b 28 2 = 3) := by
  obtain ⟨-, -, -, ⟨h1, h2, h3⟩, ⟨h4, h5⟩, h6, h7⟩ := h
  omega
theorem sendAct_stalls (hfull : (s.core n).freeSlot = none) : s.sendAct n w = .stall := by
  rw [State.sendAct]
  dsimp only
  rw [← h.word, if_neg (not_not.2 h.aligned), if_neg (Nat.not_lt.2 h.inRange), if_neg h.args, hfull]

variable (hfree : (s.core n).freeSlot = some k) (hup : s.nodeDropped (nbits b 16 6) = false) (hn : n < 32)
include hfree hup hn

theorem sendAct_waits (hpoor : s.credit n (nbits b 16 6) (nbits b 24 4) < msgPackets (nbits b 0 12)) :
    s.sendAct n w = .wait (s.takeSlot n k (wanted s n w b)) ((s.takeSlot n k (wanted s n w b)).seqPc n) (.send (fRd w) k) := by
  have hup' := (nodeDropped_takeSlot (k := k) hn (wanted s n w b) (nbits b 16 6)).trans hup
  have hpoor' : (s.takeSlot n k (wanted s n w b)).credit n (nbits b 16 6) (nbits b 24 4) < msgPackets (nbits b 0 12) := by
    rw [credit_of_cred_eq (congrArg Mesh.cred takeSlot_mesh)]
    exact hpoor
  rw [wanted] at hup' hpoor' ⊢
  rw [State.sendAct]
  dsimp only
  rw [← h.word, if_neg (not_not.2 h.aligned), if_neg (Nat.not_lt.2 h.inRange), if_neg h.args, hfree]
  dsimp only
  rw [hup', if_neg Bool.false_ne_true, if_pos hpoor']
theorem sendAct_pays (hrich : msgPackets (nbits b 0 12) ≤ s.credit n (nbits b 16 6) (nbits b 24 4)) :
    s.sendAct n w = .retire (((s.takeSlot n k (wanted s n w b)).paySend n k (nbits b 16 6) (nbits b 24 4) (nbits b 28 2) (s.gpr n (fRa w))
      (nbits b 0 12)).setGpr n (fRd w) k) ((s.takeSlot n k (wanted s n w b)).seqPc n) (1 + s.loadUse n w) 0 := by
  have hup' := (nodeDropped_takeSlot (k := k) hn (wanted s n w b) (nbits b 16 6)).trans hup
  have hrich' : ¬ (s.takeSlot n k (wanted s n w b)).credit n (nbits b 16 6) (nbits b 24 4) < msgPackets (nbits b 0 12) := by
    rw [credit_of_cred_eq (congrArg Mesh.cred takeSlot_mesh)]
    exact Nat.not_lt.2 hrich
  rw [wanted] at hup' hrich' ⊢
  rw [State.sendAct]
  dsimp only
  rw [← h.word, if_neg (not_not.2 h.aligned), if_neg (Nat.not_lt.2 h.inRange), if_neg h.args, hfree]
  dsimp only
  rw [hup', if_neg Bool.false_ne_true, if_neg hrich']
end

/-- Clause 1 of `Obligations.CpTracked`: a SEND that has its credits. -/
theorem send_pays (hwhole : s.whole) (h : s.issues n 0x0C w) (hx : s.pc n + 4 ≤ 0xFFFC) (hlegal : SendLegal s n w b)
    (hfree : (s.core n).freeSlot = some k) (hcls : nbits b 28 2 ≠ 0) (hup : s.nodeDropped (nbits b 16 6) = false)
    (hrich : msgPackets (nbits b 0 12) ≤ s.credit n (nbits b 16 6) (nbits b 24 4)) : Does (.send n) s (fun t =>
      Retired [MESH_TRK.at n] n (s.pc n + 4) (1 + s.loadUse n w) s t ∧ t.data = s.data ∧ (t.core n).g = (s.core n).put (fRd w) k ∧
      (t.core n).slots = (s.core n).slots.set k
        { op := some (.send (nbits b 16 6) (nbits b 24 4) (s.nextMseq n (nbits b 16 6) (nbits b 24 4)) (nbits b 28 2) (s.gpr n (fRa w)) (nbits b 0 12) 0 []),
          ord := (s.core n).ord, sent := s.mesh.num } ∧
      t.credit n (nbits b 16 6) (nbits b 24 4) = s.credit n (nbits b 16 6) (nbits b 24 4) - msgPackets (nbits b 0 12) ∧
      t.nextMseq n (nbits b 16 6) (nbits b 24 4) = (s.nextMseq n (nbits b 16 6) (nbits b 24 4) + 1) % 256) := by
  have hn := there_of_issues h hwhole
  obtain ⟨u, hu⟩ : ∃ u, u = s.takeSlot n k (wanted s n w b) := ⟨_, rfl⟩
  have hwork : Works [MESH_TRK.at n] n s u := by rw [hu]; exact takeSlot_works _ _ _ _
  have hcore : u.core n = (s.core n).taken k (wanted s n w b) := by rw [hu]; exact takeSlot_core hn
  have hdata : u.data = s.data := by rw [hu]; exact takeSlot_data
  have hmesh : u.mesh = s.mesh := by rw [hu]; exact takeSlot_mesh
  have hcredit (d c : Nat) : u.credit n d c = s.credit n d c := credit_of_cred_eq (congrArg Mesh.cred hmesh)
  have hmseq (d c : Nat) : u.nextMseq n d c = s.nextMseq n d c := nextMseq_of_mseq_eq (congrArg Mesh.mseq hmesh)
  have hthere : n < u.cores.length := by rw [hwork.size]; exact hn
  have hact := sendAct_pays hlegal hfree hup h.1 hrich
  rw [← hu] at hact
  have hpaid := paySend_works [MESH_TRK.at n] (s := u) (n := n) (k := k) (d := nbits b 16 6) (c := nbits b 24 4) (a := s.gpr n (fRa w))
    (len := nbits b 0 12) hcls
  have hpaidThere : n < (u.paySend n k (nbits b 16 6) (nbits b 24 4) (nbits b 28 2) (s.gpr n (fRa w)) (nbits b 0 12)).cores.length := by
    rw [hpaid.size]
    exact hthere
  have hpaidCore := paySend_core (k := k) (d := nbits b 16 6) (c := nbits b 24 4) (a := s.gpr n (fRa w)) (len := nbits b 0 12) hcls hthere
  refine Does.intro ((send_of_issues h).trans (issue_retires h hact (hwork.seqPc (corePc_notin_trk n)) hx))
    ⟨result_retired (hwork.trans hpaid) hn (wait_of_issues h) hx, ?_, ?_, ?_, ?_, ?_⟩
  · rw [result_data, paySend_data hcls, hdata]
  · rw [result_g hpaidThere, hpaidCore]
    exact put_of_g_eq (by rw [hcore, Core.taken]) _ _
  · rw [result_leaves Core.slots (fun _ _ => rfl) (fun _ _ _ => rfl) hpaidThere, hpaidCore, hcore, hmseq, hmesh]
    exact set_modify_same _ _ _ _
  · rw [credit_of_cred_eq (congrArg Mesh.cred result_mesh), paySend_credit hcls, hcredit]
  · rw [nextMseq_of_mseq_eq (congrArg Mesh.mseq result_mesh), paySend_nextMseq hcls, hmseq]

/-- Clause 2 of `Obligations.CpTracked`: a SEND without its credits waits in its slot. -/
theorem send_waits (hwhole : s.whole) (h : s.issues n 0x0C w) (hx : s.pc n + 4 ≤ 0xFFFC) (hlegal : SendLegal s n w b)
    (hfree : (s.core n).freeSlot = some k) (hup : s.nodeDropped (nbits b 16 6) = false)
    (hpoor : s.credit n (nbits b 16 6) (nbits b 24 4) < msgPackets (nbits b 0 12)) : Does (.send n) s (fun t =>
      t.pc n = s.pc n + 4 ∧ (t.core n).wait = .send (fRd w) k ∧ (t.core n).g = (s.core n).g ∧ t.data = s.data ∧
      (t.core n).slots = (s.core n).slots.set k { op := some (wanted s n w b), ord := (s.core n).ord } ∧
      t.credit n (nbits b 16 6) (nbits b 24 4) = s.credit n (nbits b 16 6) (nbits b 24 4) ∧ sameRegsBut [CORE_PC.at n, MESH_TRK.at n] s t) := by
  have hn := there_of_issues h hwhole
  have hwork := takeSlot_works s n k (wanted s n w b)
  have hcore : (s.takeSlot n k (wanted s n w b)).core n = (s.core n).taken k (wanted s n w b) := takeSlot_core hn
  have hthere : n < (s.takeSlot n k (wanted s n w b)).cores.length := by rw [hwork.size]; exact hn
  refine Does.intro ((send_of_issues h).trans (issue_waits h hwhole hwork (sendAct_waits hlegal hfree hup h.1 hpoor)
    (hwork.seqPc (corePc_notin_trk n)) hx trivial)) ⟨pauses_pc hx, ?_, ?_, ?_, ?_, ?_, pauses_sameRegsBut hwork.regs⟩
  · rw [pauses_core hthere, Core.paused]
  · rw [pauses_core hthere, Core.paused, hcore, Core.taken]
  · rw [pauses_data, takeSlot_data]
  · rw [pauses_core hthere, Core.paused, hcore, Core.taken]
  · rw [credit_of_cred_eq (congrArg Mesh.cred pauses_mesh), credit_of_cred_eq (congrArg Mesh.cred takeSlot_mesh)]

/-- Clause 5 of `Obligations.CpTracked`: a SEND that finds no slot free. -/
theorem send_stalls (hwhole : s.whole) (h : s.issues n 0x0C w) (hlegal : SendLegal s n w b) (hfull : (s.core n).freeSlot = none) :
    Does (.send n) s (fun t => (t.core n).stall = true ∧ t.pc n = s.pc n ∧ t.regs = s.regs ∧ (t.core n).g = (s.core n).g ∧ t.mesh = s.mesh) := by
  have hn := there_of_issues h hwhole
  refine Does.intro ((send_of_issues h).trans (issue_stalls h (sendAct_stalls hlegal hfull)))
    ⟨?_, modCore_pc _ _ _ _, modCore_regs _ _ _, ?_, modCore_mesh _ _ _⟩
  · rw [core_modCore hn]
  · rw [core_modCore hn]
end

section
variable {s : State} {n rd g d c cls a len : Nat}

theorem send_of_waiting (hn : n < 32) (hrun : (s.core n).halted = false) (hwait : (s.core n).wait = .send rd g) :
    exec (.send n) s = .next (s.sendOn n rd g) := by
  show execSend n s = _
  rw [execSend, waiting_of_running hn hrun, hwait]

/-- Clause 3 of `Obligations.CpTracked`: the credits that a SEND waits for have come. -/
theorem send_goes_on (hn : n < 32) (hwhole : s.whole) (hrun : (s.core n).halted = false) (hwait : (s.core n).wait = .send rd g)
    (hop : (s.slot n g).op = some (.want d c cls a len)) (hanswer : (s.slot n g).answer = none) (hrich : msgPackets len ≤ s.credit n d c)
    (hcls : cls ≠ 0) : Does (.send n) s (fun t => (t.core n).wait = .none ∧ (t.core n).g = (s.core n).put rd g ∧
      (t.slot n g).op = some (.send d c (s.nextMseq n d c) cls a len 0 []) ∧ t.credit n d c = s.credit n d c - msgPackets len ∧ t.regs = s.regs) := by
  have hthere := there_of_whole hwhole hn
  have hon : s.sendOn n rd g = (s.paySend n g d c cls a len).endWait n rd g := by
    rw [State.sendOn, hop]
    dsimp only
    rw [if_pos ⟨by rw [hanswer]; rfl, hrich⟩]
  have hcore := paySend_core (k := g) (d := d) (c := c) (a := a) (len := len) hcls hthere
  have hpaidThere : n < (s.paySend n g d c cls a len).cores.length := by rw [(paySend_works [] hcls).size]; exact hthere
  have hslot : g < (s.core n).slots.length := (hasSlot_of_op hop).slot
  refine Does.intro (send_of_waiting hn hrun hwait) ?_
  rw [hon]
  refine ⟨endWait_wait hpaidThere, ?_, ?_, ?_, ?_⟩
  · rw [endWait_g hpaidThere]
    exact put_of_g_eq (by rw [hcore]) _ _
  · rw [State.slot, endWait_slots hpaidThere, hcore]
    simp [List.getD_eq_getElem?_getD, hslot, Slot.sending]
  · rw [← paySend_credit hcls]
    exact credit_of_cred_eq (congrArg Mesh.cred endWait_mesh)
  · rw [endWait_regs, paySend_regs hcls]

/-- Clause 4 of `Obligations.CpTracked`: a SEND without its credits goes on waiting. -/
theorem send_keeps_waiting (hn : n < 32) (hrun : (s.core n).halted = false) (hwait : (s.core n).wait = .send rd g)
    (hop : (s.slot n g).op = some (.want d c cls a len)) (hpoor : s.credit n d c < msgPackets len) : exec (.send n) s = .next s := by
  rw [send_of_waiting hn hrun hwait, State.sendOn, hop]
  dsimp only
  rw [if_neg (fun hboth => absurd hboth.2 (Nat.not_le.2 hpoor))]
end

/-! ### RECV, MREL and MCTL (R217, R243) -/

section
variable {s : State} {n w q f p x since rd c : Nat} {l : List (Nat × Nat × Nat)}

/-- Clause 6 of `Obligations.CpTracked`: a RECV on a channel that has a message. -/
theorem recv_takes (hwhole : s.whole) (h : s.issues n 0x0D w) (hx : s.pc n + 4 ≤ 0xFFFC) (hon : s.chanOn n (nbits w 0 4) = true)
    (hready : (s.chan n (nbits w 0 4)).ready = (q, f, p) :: l) : Does (.recv n) s (fun t =>
      Retired [CORE_CHSTAT.at n (nbits w 0 4)] n (s.pc n + 4) (1 + s.loadUse n w) s t ∧
      (t.core n).g = (s.core n).put (fRd w) (s.chanBase n (nbits w 0 4) + 256 * f) ∧ (t.chan n (nbits w 0 4)).ready = l ∧
      (t.chan n (nbits w 0 4)).out = (s.chan n (nbits w 0 4)).out + p) := by
  have hn := there_of_issues h hwhole
  have hworks : Works [CORE_CHSTAT.at n (nbits w 0 4)] n s (s.tookMsg n (nbits w 0 4) p l) := tookMsg_works
  have hthere : n < (s.tookMsg n (nbits w 0 4) p l).cores.length := by rw [hworks.size]; exact hn
  have hexec : exec (.recv n) s = .next (((s.tookMsg n (nbits w 0 4) p l).setGpr n (fRd w) (s.chanBase n (nbits w 0 4) + 256 * f)).goesOn n
      (s.pc n + 4) (1 + s.loadUse n w) 0) := by
    show execRecv n s = _
    rw [execRecv]
    refine issue_result h ?_ hworks (corePc_notin_chstat _ _) hx
    dsimp only
    rw [hon, if_neg (not_not.2 rfl), takeMsg_of_ready hready]
  have hchan : ∀ v cy, (((s.tookMsg n (nbits w 0 4) p l).setGpr n (fRd w) v).goesOn n (s.pc n + 4) cy 0).chan n (nbits w 0 4) =
      { s.chan n (nbits w 0 4) with ready := l, out := (s.chan n (nbits w 0 4)).out + p } := fun v cy => by
    rw [← tookMsg_chan hn (chan_lt_of_ready hready), State.chan, result_leaves Core.chans (fun _ _ => rfl) (fun _ _ _ => rfl) hthere, State.chan]
  refine Does.intro hexec ⟨result_retired hworks hn (wait_of_issues h) hx, ?_, by rw [hchan], by rw [hchan]⟩
  rw [result_g hthere]
  exact put_of_g_eq (tookMsg_g hn) _ _

/-- Clause 7 of `Obligations.CpTracked`: a RECV on an empty channel waits. -/
theorem recv_waits (hwhole : s.whole) (h : s.issues n 0x0D w) (hx : s.pc n + 4 ≤ 0xFFFC) (hon : s.chanOn n (nbits w 0 4) = true)
    (hempty : (s.chan n (nbits w 0 4)).ready = []) (hlim : s.gpr n (fRa w) ≠ 0) : Does (.recv n) s (fun t => t.pc n = s.pc n + 4 ∧
      (t.core n).wait = .recv (fRd w) (nbits w 0 4) (s.gpr n (fRa w)) s.rnd.clk ∧ (t.core n).g = (s.core n).g ∧ sameRegsBut [CORE_PC.at n] s t) := by
  have hn := there_of_issues h hwhole
  have hexec : exec (.recv n) s = .next (s.pauses n (s.pc n + 4) (s.loadUse n w) (.recv (fRd w) (nbits w 0 4) (s.gpr n (fRa w)) s.rnd.clk)) := by
    show execRecv n s = _
    rw [execRecv]
    refine issue_waits h hwhole (Works.refl [] n s) ?_ (seqPc_eq s n) hx hempty
    dsimp only
    rw [hon, if_neg (not_not.2 rfl), State.takeMsg, hempty]
    dsimp only
    rw [if_neg hlim]
  refine Does.intro hexec ⟨pauses_pc hx, ?_, ?_, pauses_sameRegsBut (.refl _ _)⟩
  · rw [pauses_core hn, Core.paused]
  · rw [pauses_core hn, Core.paused]

/-- Clause 8 of `Obligations.CpTracked`: the limit of a RECV that waits has passed (R243). -/
theorem recv_times_out (hn : n < 32) (hwhole : s.whole) (hwait : (s.core n).wait = .recv rd c x since) (hrun : (s.core n).halted = false)
    (hlimit : x ≠ 2 ^ 32 - 1) (hpast : x ≤ s.cyclesIn n (s.rnd.clk - since)) : Does (.recvTimeout n) s (fun t => (t.core n).wait = .none ∧
      (t.core n).g = (s.core n).put rd (2 ^ 32 - 1) ∧ (t.core n).cyc = (s.core n).cyc + x ∧ t.regs = s.regs) := by
  have hthere := there_of_whole hwhole hn
  have hexec : exec (.recvTimeout n) s =
      .next (((s.modCore n (fun c => { c with wait := .none })).setGpr n rd (2 ^ 32 - 1)).retired n x 0 false) := by
    have hnot : ¬ ((s.core n).halted = true ∨ x = 2 ^ 32 - 1 ∨ s.cyclesIn n (s.rnd.clk - since) < x) := by
      rw [hrun]
      rintro (h | h | h)
      · exact Bool.false_ne_true h
      · exact hlimit h
      · omega
    show execRecvTimeout n s = _
    rw [execRecvTimeout, onUnit, if_pos hn, hwait]
    dsimp only
    rw [if_neg hnot]
  have hready : n < (s.modCore n (fun c => { c with wait := .none })).cores.length := by rw [modCore_size]; exact hthere
  have hset : n < ((s.modCore n (fun c => { c with wait := .none })).setGpr n rd (2 ^ 32 - 1)).cores.length := by
    rw [State.setGpr, modCore_size]
    exact hready
  refine Does.intro hexec ⟨?_, ?_, ?_, ?_⟩
  · rw [retired_leaves Core.wait (fun _ _ _ _ _ _ => rfl), setGpr_core hready, setGpr_leaves Core.wait (fun _ _ => rfl), core_modCore hthere]
  · rw [retired_leaves Core.g (fun _ _ _ _ _ _ => rfl), setGpr_g hready]
    exact put_of_g_eq (by rw [core_modCore hthere]) _ _
  · rw [State.retired, core_modCore (by exact hset)]
    dsimp only
    rw [if_neg Bool.false_ne_true, setGpr_core hready, setGpr_leaves Core.cyc (fun _ _ => rfl), core_modCore hthere]
    rfl
  · rw [retired_regs, State.setGpr, modCore_regs, modCore_regs]

/-- Clause 9 of `Obligations.CpTracked`: a RECV whose limit has not passed. -/
theorem recv_keeps_waiting (hn : n < 32) (hwait : (s.core n).wait = .recv rd c x since)
    (hwithin : x = 2 ^ 32 - 1 ∨ s.cyclesIn n (s.rnd.clk - since) < x ∨ (s.core n).halted = true) : exec (.recvTimeout n) s = .next s := by
  show execRecvTimeout n s = _
  rw [execRecvTimeout, onUnit, if_pos hn, hwait]
  dsimp only
  rw [if_pos (by tauto)]

/-- Clause 10 of `Obligations.CpTracked`: MREL returns credits. -/
theorem mrel_returns (hwhole : s.whole) (h : s.issues n 0x0E w) (hx : s.pc n + 4 ≤ 0xFFFC) (hon : s.chanOn n (nbits w 0 4) = true)
    (hc : nbits w 0 4 < (s.core n).chans.length) (hsome : 0 < s.gpr n (fRa w)) (hout : s.gpr n (fRa w) ≤ (s.chan n (nbits w 0 4)).out) :
    Does (.mrel n) s (fun t => Retired [] n (s.pc n + 4) (1 + s.loadUse n w) s t ∧
      (t.chan n (nbits w 0 4)).out = (s.chan n (nbits w 0 4)).out - s.gpr n (fRa w) ∧
      t.mesh.rets = s.mesh.rets ++ [{ dst := s.chanSrc n (nbits w 0 4), src := n, chan := nbits w 0 4, count := s.gpr n (fRa w), seq := s.mesh.num }]) := by
  have hn := there_of_issues h hwhole
  obtain ⟨u, hu⟩ : ∃ u, u = s.modChan n (nbits w 0 4) fun x => { x with out := x.out - s.gpr n (fRa w) } := ⟨_, rfl⟩
  have hmod : Works [] n s u := by rw [hu]; exact modChan_works _ _
  have hworks := hmod.trans (giveCredit_works [] n u n (s.chanSrc n (nbits w 0 4)) (nbits w 0 4) (s.gpr n (fRa w)))
  have hthere : n < (u.giveCredit n (s.chanSrc n (nbits w 0 4)) (nbits w 0 4) (s.gpr n (fRa w))).cores.length := by rw [hworks.size]; exact hn
  have hexec : exec (.mrel n) s = .next ((u.giveCredit n (s.chanSrc n (nbits w 0 4)) (nbits w 0 4) (s.gpr n (fRa w))).goesOn n (s.pc n + 4)
      (1 + s.loadUse n w) 0) := by
    show execMrel n s = _
    rw [execMrel]
    refine issue_retires h ?_ (seqPc_eq s n) hx
    dsimp only
    rw [hon, if_neg (not_not.2 rfl), if_neg (Nat.not_lt.2 hout), ← hu]
  refine Does.intro hexec ⟨goesOn_retired hworks hn (wait_of_issues h) hx, ?_, ?_⟩
  · rw [State.chan, goesOn_core hthere, Core.goneOn, giveCredit_core, ← State.chan, hu, chan_modChan hn hc]
  · rw [goesOn_mesh, giveCredit_rets hsome, hu, State.modChan, modCore_mesh]

/-- Clause 11 of `Obligations.CpTracked`: a flush of one channel. -/
theorem mctlFlush_flushes (hwhole : s.whole) (h : s.issues n 0x40 w) (hx : s.pc n + 4 ≤ 0xFFFC) (hon : s.chanOn n (nbits w 0 4) = true)
    (hc : nbits w 0 4 < (s.core n).chans.length) : Does (.mctlFlush n) s (fun t =>
      Retired [CORE_CHSTAT.at n (nbits w 0 4)] n (s.pc n + 4) 1 s t ∧ (t.chan n (nbits w 0 4)).ready = [] ∧ (t.chan n (nbits w 0 4)).out = 0) := by
  have hn := there_of_issues h hwhole
  have hworks := flushChan_works s n (nbits w 0 4)
  have hthere : n < (s.flushChan n (nbits w 0 4)).cores.length := by rw [hworks.size]; exact hn
  have hexec : exec (.mctlFlush n) s = .next ((s.flushChan n (nbits w 0 4)).goesOn n (s.pc n + 4) 1 0) := by
    show execMctlFlush n s = _
    rw [execMctlFlush]
    refine issue_retires h ?_ (seqPc_eq s n) hx
    dsimp only
    rw [hon, if_neg (not_not.2 rfl)]
  have hchan : ((s.flushChan n (nbits w 0 4)).goesOn n (s.pc n + 4) 1 0).chan n (nbits w 0 4) = (s.flushChan n (nbits w 0 4)).chan n (nbits w 0 4) := by
    rw [State.chan, goesOn_core hthere, Core.goneOn, State.chan]
  refine Does.intro hexec ⟨goesOn_retired hworks hn (wait_of_issues h) hx, ?_⟩
  rw [hchan]
  exact flushChan_chan hn hc

/-- Clause 12 of `Obligations.CpTracked`: the status of a channel. -/
theorem mctlStatus_reads (hwhole : s.whole) (h : s.issues n 0x41 w) (hx : s.pc n + 4 ≤ 0xFFFC) (hon : s.chanOn n (nbits w 0 4) = true) :
    Does (.mctlStatus n) s (fun t => Retired [] n (s.pc n + 4) (1 + s.loadUse n w) s t ∧
      (t.core n).g = (s.core n).put (fRd w) (s.regN CORE_CHSTAT n (nbits w 0 4))) := by
  have hn := there_of_issues h hwhole
  have hexec : exec (.mctlStatus n) s = .next ((s.setGpr n (fRd w) (s.regN CORE_CHSTAT n (nbits w 0 4))).goesOn n (s.pc n + 4)
      (1 + s.loadUse n w) 0) := by
    show execMctlStatus n s = _
    rw [execMctlStatus]
    refine issue_result h ?_ (Works.refl [] n s) List.not_mem_nil hx
    dsimp only
    rw [hon, if_neg (not_not.2 rfl)]
  exact Does.intro hexec ⟨result_retired (Works.refl [] n s) hn (wait_of_issues h) hx, result_g hn⟩
end

/-! ### MOP and MOPB (R219) -/

section
variable {s : State} {n w k : Nat} {o : Track}

/-- Clause 13 of `Obligations.CpTracked`: MOP. -/
theorem mop_takes (hwhole : s.whole) (h : s.issues n 0x10 w) (hx : s.pc n + 4 ≤ 0xFFFC) (hop : s.mopTrack n w = some o)
    (hfree : (s.core n).freeSlot = some k) : Does (.mop n) s (fun t => Retired [MESH_TRK.at n] n (s.pc n + 4) (1 + s.loadUse n w) s t ∧
      (t.core n).g = (s.core n).put (fRd w) k ∧ (t.core n).slots = (s.core n).slots.set k { op := some o, ord := (s.core n).ord }) := by
  have hn := there_of_issues h hwhole
  have hworks := takeNamed_works s n k o
  have hthere : n < (s.takeNamed n k o).cores.length := by rw [hworks.size]; exact hn
  have hexec : exec (.mop n) s = .next (((s.takeNamed n k o).setGpr n (fRd w) k).goesOn n (s.pc n + 4) (1 + s.loadUse n w) 0) := by
    show execMop n s = _
    rw [execMop]
    refine issue_result h ?_ hworks (corePc_notin_trk n) hx
    rw [hop]
    dsimp only
    rw [hfree]
  refine Does.intro hexec ⟨result_retired hworks hn (wait_of_issues h) hx, ?_, ?_⟩
  · rw [result_g hthere]
    exact put_of_g_eq (by rw [takeNamed_core hn, Core.taken]) _ _
  · rw [result_leaves Core.slots (fun _ _ => rfl) (fun _ _ _ => rfl) hthere, takeNamed_core hn, Core.taken]

/-- Clause 14 of `Obligations.CpTracked`: MOPB. -/
theorem mopb_waits (hwhole : s.whole) (h : s.issues n 0x11 w) (hx : s.pc n + 4 ≤ 0xFFFC) (hop : s.mopTrack n w = some o)
    (hfree : (s.core n).freeSlot = some k) : Does (.mopb n) s (fun t => t.pc n = s.pc n + 4 ∧ (t.core n).wait = .mopb (fRd w) k ∧
      (t.core n).g = (s.core n).g ∧ (t.core n).slots = (s.core n).slots.set k { op := some o, ord := (s.core n).ord } ∧
      sameRegsBut [CORE_PC.at n, MESH_TRK.at n] s t) := by
  have hn := there_of_issues h hwhole
  have hworks := takeNamed_works s n k o
  have hthere : n < (s.takeNamed n k o).cores.length := by rw [hworks.size]; exact hn
  have hexec : exec (.mopb n) s = .next ((s.takeNamed n k o).pauses n (s.pc n + 4) (s.loadUse n w) (.mopb (fRd w) k)) := by
    show execMopb n s = _
    rw [execMopb]
    refine issue_waits h hwhole hworks ?_ (seqPc_eq s n) hx trivial
    rw [hop]
    dsimp only
    rw [hfree]
  refine Does.intro hexec ⟨pauses_pc hx, ?_, ?_, ?_, pauses_sameRegsBut hworks.regs⟩
  · rw [pauses_core hthere, Core.paused]
  · rw [pauses_core hthere, Core.paused, takeNamed_core hn, Core.taken]
  · rw [pauses_core hthere, Core.paused, takeNamed_core hn, Core.taken]
end

/-! ### MOVD (R245) -/

section
variable {s : State} {n w k : Nat} {d : List Nat}

/-- The descriptor in slot `k` has joined the mover's queue. -/
def State.queued (s : State) (n k : Nat) (m : Mover) : State :=
  (s.takeNamed n k (.move m 0 0 [])).modCore n fun c => { c with movq := c.movq ++ [k] }
/-- The head of the queue has then issued what it holds credit for. -/
def State.moves (s : State) (n k : Nat) (m : Mover) : State := (s.queued n k m).issueMove n 32

variable {m : Mover}

theorem queued_works : Works [MESH_TRK.at n] n s (s.queued n k m) :=
  (takeNamed_works s n k _).trans (.modCore (fun _ => rfl) (fun _ => rfl) (fun _ => rfl))
theorem queued_core (hn : n < s.cores.length) :
    (s.queued n k m).core n = { (s.core n).taken k (.move m 0 0 []) with movq := (s.core n).movq ++ [k] } := by
  have hthere : n < (s.takeNamed n k (.move m 0 0 [])).cores.length := by rw [(takeNamed_works s n k _).size]; exact hn
  rw [State.queued, core_modCore hthere, takeNamed_core hn, Core.taken]
theorem moves_core {α : Type} (p : Core → α) (hp : ∀ c b, p { c with budget := b } = p c) (hn : n < s.cores.length) :
    p ((s.moves n k m).core n) = p { (s.core n).taken k (.move m 0 0 []) with movq := (s.core n).movq ++ [k] } := by
  rw [State.moves, issueMove_core p hp, queued_core hn]
theorem moves_size : (s.moves n k m).cores.length = s.cores.length := by
  rw [State.moves, issueMove_leaves (fun s => s.cores.length) chargeCore_size (fun _ _ _ _ => rfl), queued_works.size]
theorem moves_pc (hn : n < 32) : (s.moves n k m).pc n = s.pc n := by
  rw [State.moves, issueMove_pc hn, queued_works.pc (corePc_notin_trk n)]
theorem moves_data : (s.moves n k m).data = s.data := by rw [State.moves, issueMove_data, State.queued, modCore_data, takeNamed_data]
/-- A descriptor that is the only one, and not of class DEADLINE, charges nothing. -/
theorem moves_works (hn : n < s.cores.length) (hk : k < (s.core n).slots.length) (halone : (s.core n).movq = []) (hcls : m.cls ≠ 0) :
    Works [MESH_TRK.at n] n s (s.moves n k m) := by
  have hclass : (s.queued n k m).moveClass n = some m.cls := by
    simp [State.moveClass, State.headMove, State.slot, queued_core hn, Core.taken, halone, List.getD_eq_getElem?_getD, hk]
  obtain ⟨hcores, hregs⟩ := issueMove_eqs (by rw [hclass]; simpa using hcls) 32
  exact queued_works.trans (.of_eq hcores hregs)

/-- Clause 15 of `Obligations.CpTracked`: MOVD. -/
theorem movd_queues (hwhole : s.whole) (h : s.issues n 0x14 w) (hx : s.pc n + 4 ≤ 0xFFFC) (hfree : (s.core n).freeSlot = some k)
    (hdesc : s.descAt n w = .ok d) (hgood : moverBad d = false) :
    Does (.movd n) s (fun t => t.pc n = s.pc n + 4 ∧ (t.core n).wait = .none ∧ (t.core n).g = (s.core n).put (fRd w) k ∧ t.data = s.data ∧
      ((s.core n).movq = [] → (parseMover d).cls ≠ 0 → Retired [MESH_TRK.at n] n (s.pc n + 4) (1 + s.loadUse n w) s t) ∧
      (t.core n).movq = (s.core n).movq ++ [k] ∧
      (t.core n).slots = (s.core n).slots.set k { op := some (.move (parseMover d) 0 0 []), ord := (s.core n).ord }) := by
  have hn := there_of_issues h hwhole
  have hthere : n < (s.moves n k (parseMover d)).cores.length := by
    rw [moves_size]
    exact hn
  have hcost : (s.moves n k (parseMover d)).loadUse n w = s.loadUse n w := by
    rw [State.loadUse, moves_core Core.hot (fun _ _ => rfl) hn, Core.taken, State.loadUse]
  have hseq : (s.moves n k (parseMover d)).seqPc n = ((s.pc n + 4 : Nat) : Int) := by rw [seqPc_eq, moves_pc h.1]
  have hexec : exec (.movd n) s = .next (((s.moves n k (parseMover d)).setGpr n (fRd w) k).goesOn n (s.pc n + 4) (1 + s.loadUse n w) 0) := by
    show execMovd n s = _
    rw [execMovd]
    refine issue_retires h ?_ hseq hx
    dsimp only
    rw [hfree]
    dsimp only
    rw [hdesc]
    dsimp only
    rw [hgood, if_neg Bool.false_ne_true, State.result, ← State.queued, ← State.moves, hcost]
  refine Does.intro hexec ⟨goesOn_pc hx, ?_, ?_, ?_, fun halone hcls => ?_, ?_, ?_⟩
  · rw [result_leaves Core.wait (fun _ _ => rfl) (fun _ _ _ => rfl) hthere, moves_core Core.wait (fun _ _ => rfl) hn, Core.taken, wait_of_issues h]
  · rw [result_g hthere]
    exact put_of_g_eq (moves_core Core.g (fun _ _ => rfl) hn) _ _
  · rw [result_data, moves_data]
  · exact result_retired (moves_works hn (freeSlot_lt hfree) halone hcls) hn (wait_of_issues h) hx
  · rw [result_leaves Core.movq (fun _ _ => rfl) (fun _ _ _ => rfl) hthere, moves_core Core.movq (fun _ _ => rfl) hn]
  · rw [result_leaves Core.slots (fun _ _ => rfl) (fun _ _ _ => rfl) hthere, moves_core Core.slots (fun _ _ => rfl) hn, Core.taken]
end

/-- Settles O22: one lemma for each outcome of a tracked operation, over what a taken slot, a paid message and a taken message leave. -/
theorem cpTracked : Obligations.CpTracked := by
  unfold Obligations.CpTracked
  refine ⟨?_, ?_, ?_, ?_, ?_, ?_, ?_, ?_, ?_, ?_, ?_, ?_, ?_, ?_, ?_⟩
  · intro s n w k b hwhole h hx hfree hb halign hrange h1 h2 h3 hpos hlen hnode hcls hup hrich
    exact send_pays hwhole h hx ⟨hb, halign, hrange, ⟨h1, h2, h3⟩, ⟨hpos, hlen⟩, hnode, by omega⟩ hfree (by omega) hup hrich
  · intro s n w k b hwhole h hx hfree hb halign hrange h1 h2 h3 hpos hlen hnode hcls hup hpoor
    exact send_waits hwhole h hx ⟨hb, halign, hrange, ⟨h1, h2, h3⟩, ⟨hpos, hlen⟩, hnode, hcls⟩ hfree hup hpoor
  · exact fun s n hn rd g _ d c k a len hwhole hrun hwait hop hanswer hrich hcls => send_goes_on hn hwhole hrun hwait hop hanswer hrich hcls
  · exact fun s n hn rd g _ d c k a len _ hrun hwait hop _ hpoor => send_keeps_waiting hn hrun hwait hop hpoor
  · intro s n w hwhole h halign hrange h1 h2 h3 hpos hlen hnode hcls hfull
    exact send_stalls hwhole h ⟨rfl, halign, hrange, ⟨h1, h2, h3⟩, ⟨hpos, hlen⟩, hnode, hcls⟩ hfull
  · exact fun s n w q f p l hwhole h hx hon hready => recv_takes hwhole h hx hon hready
  · exact fun s n w hwhole h hx hon hempty hlim _ => recv_waits hwhole h hx hon hempty hlim
  · exact fun s n hn rd c x a hwhole hwait hrun hlimit hpast => recv_times_out hn hwhole hwait hrun hlimit hpast
  · exact fun s n hn rd c x a hwait hwithin => recv_keeps_waiting hn hwait hwithin
  · exact fun s n w hwhole h hx hon hc hsome hout => mrel_returns hwhole h hx hon hc hsome hout
  · exact fun s n w hwhole h hx hon hc => mctlFlush_flushes hwhole h hx hon hc
  · exact fun s n w hwhole h hx hon => mctlStatus_reads hwhole h hx hon
  · exact fun s n w k o hwhole h hx hop hfree => mop_takes hwhole h hx hop hfree
  · exact fun s n w k o hwhole h hx hop hfree => mopb_waits hwhole h hx hop hfree
  · exact fun s n w k d hwhole h hx hfree hdesc hgood => movd_queues hwhole h hx hfree hdesc hgood

end Sys2Proof.Machine
end

section
/-! Proofs/CpUnits.lean: operations queued to a core's units, the waits for them, and the system instructions (`Obligations.CpUnits`, O23). -/

namespace Sys2Proof.Machine
open Sys2Proof Sys2Proof.Machine.Reg

-- As in the files of Laws/: proofs elaborated side by side take the joined text past its memory limit.
set_option Elab.async false

/-! ### Queues of the units (R237, R239) -/

theorem unit_setUnit (c : Core) (u : Nat) (q : UnitQ) : (c.setUnit u q).unit u = q := by
  unfold Core.setUnit Core.unit
  split
  · rfl
  · split <;> rfl
/-- A unit's queue is not a part of what the rest of the core shows. -/
theorem setUnit_leaves {α : Type} (p : Core → α) (hmtx : ∀ c x, p { c with mtx := x } = p c) (hvp : ∀ c x, p { c with vp := x } = p c)
    (hout : ∀ c x, p { c with out := x } = p c) (c : Core) (u : Nat) (q : UnitQ) : p (c.setUnit u q) = p c := by
  unfold Core.setUnit
  split
  · exact hmtx c q
  · split
    · exact hvp c q
    · exact hout c q

/-- The operation that a descriptor queues. -/
def Core.queuedOp (c : Core) (kind : Nat) (d : List Nat) : QOp :=
  { kind := kind, ord := c.ord, d := d, bound := if kind = opRun then c.bound else if kind = opDrain then c.ocfg else [], seed := c.seed }
/-- The core once the operation stands in the queue of unit `u`. -/
def Core.queues (c : Core) (u kind : Nat) (d : List Nat) : Core :=
  { c.setUnit u { c.unit u with q := (c.unit u).q ++ [c.queuedOp kind d] } with ord := c.ord + 1 }

theorem queues_leaves {α : Type} (p : Core → α) (hmtx : ∀ c x, p { c with mtx := x } = p c) (hvp : ∀ c x, p { c with vp := x } = p c)
    (hout : ∀ c x, p { c with out := x } = p c) (hord : ∀ c x, p { c with ord := x } = p c) (c : Core) (u kind : Nat) (d : List Nat) :
    p (c.queues u kind d) = p c := by
  rw [Core.queues, hord, setUnit_leaves p hmtx hvp hout]
theorem unit_queues (c : Core) (u kind : Nat) (d : List Nat) :
    ((c.queues u kind d).unit u).q = (c.unit u).q ++ [c.queuedOp kind d] := by
  have hunit : (c.queues u kind d).unit u = (c.setUnit u { c.unit u with q := (c.unit u).q ++ [c.queuedOp kind d] }).unit u := rfl
  rw [hunit, unit_setUnit]

/-- All that the issue of an operation leaves behind, beside its place in the queue: the bound weights or the configuration. -/
def notesOnly (note : Core → List Nat → Core) : Prop := ∀ c d, note c d = { c with bound := (note c d).bound, ocfg := (note c d).ocfg }

section
variable {s : State} {n w row u kind : Nat} {d : List Nat} {bad : List Nat → Bool} {note : Core → List Nat → Core}

theorem queueAct_of_room (hroom : ((s.core n).unit u).q.length < 4) (hdesc : s.descAt n w = .ok d) (hgood : bad d = false) :
    s.queueAct n w u kind bad note =
      .retire (s.modCore n fun c => (note c d).queues u kind d) (s.seqPc n) (1 + s.loadUse n w) 0 := by
  rw [State.queueAct]
  dsimp only
  rw [if_neg (Nat.not_le.2 hroom), hdesc]
  dsimp only
  rw [hgood, if_neg Bool.false_ne_true]
  rfl

theorem queues_works (hnote : notesOnly note) : Works [] n s (s.modCore n fun c => (note c d).queues u kind d) := by
  refine .modCore (fun c => ?_) (fun c => ?_) (fun c => ?_)
  · rw [queues_leaves Core.cyc (fun _ _ => rfl) (fun _ _ => rfl) (fun _ _ => rfl) (fun _ _ => rfl), hnote]
  · rw [queues_leaves Core.wait (fun _ _ => rfl) (fun _ _ => rfl) (fun _ _ => rfl) (fun _ _ => rfl), hnote]
  · rw [queues_leaves Core.hot (fun _ _ => rfl) (fun _ _ => rfl) (fun _ _ => rfl) (fun _ _ => rfl), hnote]

/-- Any projection of a core that the PC's advance leaves is as the queued operation left it. -/
theorem queued_shows {α : Type} (p : Core → α) (hon : ∀ c y h, p (Core.goneOn c y h) = p c) (hn : n < s.cores.length) (x cycles : Nat) :
    p (((s.modCore n fun c => (note c d).queues u kind d).goesOn n x cycles 0).core n) = p ((note (s.core n) d).queues u kind d) := by
  have hthere : n < (s.modCore n fun c => (note c d).queues u kind d).cores.length := by rw [modCore_size]; exact hn
  rw [goesOn_core hthere, hon, core_modCore hn]

/-- Clause 1 of `Obligations.CpUnits`: a descriptor that is well formed joins its unit's queue. -/
theorem does_queue {c : Instr} {body : State → Nat → Act} (hwhole : s.whole) (h : s.issues n row w) (hx : s.pc n + 4 ≤ 0xFFFC)
    (hexec : exec c s = issue n row body s) (hact : body s w = s.queueAct n w u kind bad note) (hnote : notesOnly note)
    (hroom : ((s.core n).unit u).q.length < 4) (hdesc : s.descAt n w = .ok d) (hgood : bad d = false) :
    Does c s (fun t => Retired [] n (s.pc n + 4) (1 + s.loadUse n w) s t ∧ (t.core n).g = (s.core n).g ∧ (t.core n).ord = (s.core n).ord + 1 ∧
      ∃ o : QOp, ((t.core n).unit u).q = ((s.core n).unit u).q ++ [o] ∧ o.kind = kind ∧ o.d = d ∧ o.ord = (s.core n).ord) := by
  have hn := there_of_issues h hwhole
  rw [queueAct_of_room hroom hdesc hgood] at hact
  refine Does.intro (hexec.trans (issue_retires h hact (seqPc_eq s n) hx))
    ⟨goesOn_retired (queues_works hnote) hn (wait_of_issues h) hx, ?_, ?_, (note (s.core n) d).queuedOp kind d, ?_, rfl, rfl, ?_⟩
  · rw [queued_shows Core.g (fun _ _ _ => rfl) hn,
      queues_leaves Core.g (fun _ _ => rfl) (fun _ _ => rfl) (fun _ _ => rfl) (fun _ _ => rfl), hnote]
  · rw [queued_shows Core.ord (fun _ _ _ => rfl) hn, Core.queues, hnote]
  · rw [queued_shows (fun c => (c.unit u).q) (fun _ _ _ => rfl) hn, unit_queues, hnote]
    rfl
  · rw [Core.queuedOp, hnote]

/-- Clause 2 of `Obligations.CpUnits`: the weights that MLOAD binds. -/
theorem mload_binds (hwhole : s.whole) (hx : s.pc n + 4 ≤ 0xFFFC) (hdesc : s.descAt n w = .ok d) (h : s.issues n 0x18 w)
    (hroom : (s.core n).mtx.q.length < 4) (hgood : loadBad d = false) : Does (.mload n) s (fun t => (t.core n).bound = d) := by
  have hn := there_of_issues h hwhole
  have hexec : exec (.mload n) s =
      .next ((s.modCore n fun c => ({ c with bound := d } : Core).queues 0 opLoad d).goesOn n (s.pc n + 4) (1 + s.loadUse n w) 0) := by
    show execMload n s = _
    rw [execMload]
    exact issue_retires h (queueAct_of_room (u := 0) (note := fun c d => { c with bound := d }) hroom hdesc hgood) (seqPc_eq s n) hx
  refine Does.intro hexec ?_
  rw [queued_shows (note := fun c d => { c with bound := d }) Core.bound (fun _ _ _ => rfl) hn,
    queues_leaves Core.bound (fun _ _ => rfl) (fun _ _ => rfl) (fun _ _ => rfl) (fun _ _ => rfl)]
end

/-! ### Results without a change of state before them -/

section
variable {s : State} {n w row v : Nat} {c : Instr} {body : State → Nat → Act}

/-- A row that only writes a result, one cycle. -/
theorem does_answer (hwhole : s.whole) (h : s.issues n row w) (hx : s.pc n + 4 ≤ 0xFFFC) (hexec : exec c s = issue n row body s)
    (hact : body s w = s.result n w v 1) :
    Does c s (fun t => Retired [] n (s.pc n + 4) (1 + s.loadUse n w) s t ∧ (t.core n).g = (s.core n).put (fRd w) v) := by
  have hn := there_of_issues h hwhole
  exact Does.intro (hexec.trans (issue_result h hact (Works.refl [] n s) List.not_mem_nil hx))
    ⟨result_retired (Works.refl [] n s) hn (wait_of_issues h) hx, result_g hn⟩

/-- A row that begins a wait and does nothing else. -/
theorem does_wait {k : CpWait} (hwhole : s.whole) (h : s.issues n row w) (hx : s.pc n + 4 ≤ 0xFFFC) (hexec : exec c s = issue n row body s)
    (hact : body s w = .wait s (s.seqPc n) k) (hkeep : (s.core n).keepsWaiting k) :
    Does c s (fun t => t.pc n = s.pc n + 4 ∧ (t.core n).wait = k ∧ (t.core n).g = (s.core n).g) := by
  have hn := there_of_issues h hwhole
  refine Does.intro (hexec.trans (issue_waits h hwhole (Works.refl [] n s) hact (seqPc_eq s n) hx hkeep)) ⟨pauses_pc hx, ?_, ?_⟩
  · rw [pauses_core hn, Core.paused]
  · rw [pauses_core hn, Core.paused]

/-- A row that finds its core in a wait, and ends it. -/
theorem does_end {rd : Nat} (hwhole : s.whole) (hn : n < 32) (hexec : exec c s = .next (s.endWait n rd v)) :
    Does c s (fun t => (t.core n).wait = .none ∧ t.regs = s.regs ∧ (t.core n).g = (s.core n).put rd v) := by
  have hthere := there_of_whole hwhole hn
  exact Does.intro hexec ⟨endWait_wait hthere, endWait_regs, endWait_g hthere⟩
end

/-! ### Waits for a unit (R270, R279, R294) -/

section
variable {s : State} {n w want u rd : Nat}

theorem unitWait_of_issues (h : s.issues n want w) : unitWait n want u s = issue n want (fun s w =>
    if ((s.core n).unit u).q.isEmpty then s.result n w ((s.core n).unit u).status 1 else .wait s (s.seqPc n) (.unit (fRd w) u)) s := by
  unfold unitWait
  rcases waiting_of_issues h with hwait | hwait <;> rw [hwait]

variable {c : Instr} (hexec : exec c s = unitWait n want u s)
include hexec

/-- Clause 3 of `Obligations.CpUnits`: the status of a unit whose queue is empty. -/
theorem unitWait_answers (hwhole : s.whole) (h : s.issues n want w) (hx : s.pc n + 4 ≤ 0xFFFC) (hempty : ((s.core n).unit u).q = []) :
    Does c s (fun t => Retired [] n (s.pc n + 4) (1 + s.loadUse n w) s t ∧
      (t.core n).g = (s.core n).put (fRd w) ((s.core n).unit u).status) := by
  refine does_answer hwhole h hx (hexec.trans (unitWait_of_issues h)) ?_
  rw [hempty, if_pos List.isEmpty_nil]

/-- Clause 4 of `Obligations.CpUnits`: a unit whose queue is not empty is waited for. -/
theorem unitWait_waits (hwhole : s.whole) (h : s.issues n want w) (hx : s.pc n + 4 ≤ 0xFFFC) (hfull : ((s.core n).unit u).q ≠ []) :
    Does c s (fun t => t.pc n = s.pc n + 4 ∧ (t.core n).wait = .unit (fRd w) u ∧ (t.core n).g = (s.core n).g) := by
  refine does_wait hwhole h hx (hexec.trans (unitWait_of_issues h)) ?_ trivial
  rw [if_neg (by simpa using hfull)]

/-- Clause 5 of `Obligations.CpUnits`: the unit waited for has emptied its queue. -/
theorem unitWait_ends (hn : n < 32) (hwhole : s.whole) (hrun : (s.core n).halted = false) (hwait : (s.core n).wait = .unit rd u)
    (hempty : ((s.core n).unit u).q = []) :
    Does c s (fun t => (t.core n).wait = .none ∧ t.regs = s.regs ∧ (t.core n).g = (s.core n).put rd ((s.core n).unit u).status) := by
  refine does_end hwhole hn (hexec.trans ?_)
  rw [unitWait, waiting_of_running hn hrun, hwait]
  dsimp only
  rw [if_pos ⟨rfl, by rw [hempty]; rfl⟩]
end

/-! ### System instructions (R240, R250, Table 10.5) -/

section
variable {s : State} {n w x rd g : Nat}

theorem fence_of_issues (h : s.issues n 0x51 w) : exec (.fence n) s = issue n 0x51 (fun s w =>
    if (s.core n).fenced (nbits w 0 6) then .retire s (s.seqPc n) 1 0 else .wait s (s.seqPc n) (.fence (nbits w 0 6))) s := by
  show execFence n s = _
  unfold execFence
  rcases waiting_of_issues h with hwait | hwait <;> rw [hwait]

/-- Clause 7 of `Obligations.CpUnits`: FENCE with nothing to wait for. -/
theorem fence_passes (hwhole : s.whole) (h : s.issues n 0x51 w) (hx : s.pc n + 4 ≤ 0xFFFC) (hdone : (s.core n).fenced (nbits w 0 6) = true) :
    Does (.fence n) s (fun t => Retired [] n (s.pc n + 4) 1 s t ∧ (t.core n).g = (s.core n).g) := by
  have hn := there_of_issues h hwhole
  have hexec : exec (.fence n) s = .next (s.goesOn n (s.pc n + 4) 1 0) := by
    rw [fence_of_issues h]
    refine issue_retires h ?_ (seqPc_eq s n) hx
    rw [hdone, if_pos rfl]
  exact Does.intro hexec ⟨goesOn_retired (Works.refl [] n s) hn (wait_of_issues h) hx, goesOn_g hn⟩

/-- Clause 8 of `Obligations.CpUnits`: FENCE that waits. -/
theorem fence_waits (hwhole : s.whole) (h : s.issues n 0x51 w) (hx : s.pc n + 4 ≤ 0xFFFC) (hopen : (s.core n).fenced (nbits w 0 6) = false) :
    Does (.fence n) s (fun t => t.pc n = s.pc n + 4 ∧ (t.core n).wait = .fence (nbits w 0 6)) := by
  obtain ⟨t, hexec, hpc, hwait, -⟩ := does_wait (k := .fence (nbits w 0 6)) hwhole h hx (fence_of_issues h) (by rw [hopen, if_neg Bool.false_ne_true]) trivial
  exact ⟨t, hexec, hpc, hwait⟩

/-- Clause 9 of `Obligations.CpUnits`: what FENCE waits for has ended. -/
theorem fence_ends (hn : n < 32) (hwhole : s.whole) (hrun : (s.core n).halted = false) (hwait : (s.core n).wait = .fence x)
    (hdone : (s.core n).fenced x = true) :
    Does (.fence n) s (fun t => (t.core n).wait = .none ∧ (t.core n).g = (s.core n).g ∧ t.regs = s.regs) := by
  have hexec : exec (.fence n) s = .next (s.endWait n 0 0) := by
    show execFence n s = _
    rw [execFence, waiting_of_running hn hrun, hwait]
    dsimp only
    rw [hdone, if_pos rfl]
  obtain ⟨t, hnext, hend, hregs, hg⟩ := does_end hwhole hn hexec
  exact ⟨t, hnext, hend, hg.trans (put_zero _ _), hregs⟩

/-- Clause 10 of `Obligations.CpUnits`: WAITT on a slot whose operation has ended. -/
theorem waitt_answers (hwhole : s.whole) (h : s.issues n 0x52 w) (hx : s.pc n + 4 ≤ 0xFFFC) (hslot : s.gpr n (fRa w) < 32)
    (hfree : (s.slot n (s.gpr n (fRa w))).op = none) (hkept : (s.slot n (s.gpr n (fRa w))).kept = some x) :
    Does (.waitt n) s (fun t => Retired [] n (s.pc n + 4) (1 + s.loadUse n w) s t ∧ (t.core n).g = (s.core n).put (fRd w) x) := by
  have hn := there_of_issues h hwhole
  have hexec : exec (.waitt n) s = .next ((s.setGpr n (fRd w) x).goesOn n (s.pc n + 4) (1 + s.loadUse n w) 0) := by
    show execWaitt n s = _
    unfold execWaitt
    rcases waiting_of_issues h with hwait | hwait
    all_goals
      rw [hwait]
      refine issue_result h ?_ (Works.refl [] n s) List.not_mem_nil hx
      dsimp only
      rw [if_neg (Nat.not_le.2 hslot), hfree, if_neg (by decide), hkept]
  exact Does.intro hexec ⟨result_retired (Works.refl [] n s) hn (wait_of_issues h) hx, result_g hn⟩

/-- Clause 11 of `Obligations.CpUnits`: the operation that WAITT waits for has ended. -/
theorem waitt_ends (hn : n < 32) (hwhole : s.whole) (hrun : (s.core n).halted = false) (hwait : (s.core n).wait = .waitt rd g)
    (hfree : (s.slot n g).op = none) : Does (.waitt n) s (fun t => (t.core n).wait = .none ∧
      (t.core n).g = (s.core n).put rd ((s.slot n g).kept.getD 0) ∧ t.regs = s.regs) := by
  have hexec : exec (.waitt n) s = .next (s.endWait n rd ((s.slot n g).kept.getD 0)) := by
    show execWaitt n s = _
    rw [execWaitt, waiting_of_running hn hrun, hwait]
    dsimp only
    rw [hfree, if_pos (by rfl)]
  obtain ⟨t, hnext, hend, hregs, hg⟩ := does_end hwhole hn hexec
  exact ⟨t, hnext, hend, hg, hregs⟩

/-- Clauses 13 and 14 of `Obligations.CpUnits`: CSRW of a register that can be written, `f` being what the write does. -/
theorem csrw_writes (hwhole : s.whole) (h : s.issues n 0x55 w) (hx : s.pc n + 4 ≤ 0xFFFC) {f : Core → Core} (hcyc : ∀ c, (f c).cyc = c.cyc)
    (hwait : ∀ c, (f c).wait = c.wait) (hhot : ∀ c, (f c).hot = c.hot)
    (hset : s.setCsr n (nbits w 0 6) (s.gpr n (fRa w)) = some (s.modCore n f)) : Does (.csrw n) s (fun t =>
      Retired [] n (s.pc n + 4) (1 + s.loadUse n w) s t ∧ t.core n = (f (s.core n)).goneOn (1 + s.loadUse n w) 0) := by
  have hn := there_of_issues h hwhole
  have hthere : n < (s.modCore n f).cores.length := by rw [modCore_size]; exact hn
  have hexec : exec (.csrw n) s = .next ((s.modCore n f).goesOn n (s.pc n + 4) (1 + s.loadUse n w) 0) := by
    show execCsrw n s = _
    rw [execCsrw]
    refine issue_retires h ?_ (seqPc_eq s n) hx
    dsimp only
    rw [hset]
  refine Does.intro hexec ⟨goesOn_retired (.modCore hcyc hwait hhot) hn (wait_of_issues h) hx, ?_⟩
  rw [goesOn_core hthere, core_modCore hn]

/-- Clause 15 of `Obligations.CpUnits`: a kick loads the watchdog. -/
theorem wdkick_loads (hwhole : s.whole) (h : s.issues n 0x56 w) (hx : s.pc n + 4 ≤ 0xFFFC) (hon : 0 < s.live CORE_WDT_PERIOD n) :
    Does (.wdkick n) s (fun t => Retired [] n (s.pc n + 4) 1 s t ∧ (t.core n).wdMark = some s.rnd.clk ∧
      (t.core n).wdLeft = 250 * s.live CORE_WDT_PERIOD n ∧ (t.core n).g = (s.core n).g) := by
  have hn := there_of_issues h hwhole
  have hperiod : 250 * s.live CORE_WDT_PERIOD n ≠ 0 := by omega
  have hcore : (s.wdReload n).core n =
      { s.core n with wdLeft := 250 * s.live CORE_WDT_PERIOD n, wdOn := true, wdMark := some s.rnd.clk } := by
    rw [State.wdReload]
    dsimp only
    rw [core_modCore hn, if_neg hperiod, decide_eq_true hperiod]
  have hworks : Works [] n s (s.wdReload n) := by
    rw [State.wdReload]
    exact .modCore (fun _ => rfl) (fun _ => rfl) (fun _ => rfl)
  have hthere : n < (s.wdReload n).cores.length := by rw [hworks.size]; exact hn
  have hexec : exec (.wdkick n) s = .next ((s.wdReload n).goesOn n (s.pc n + 4) 1 0) := by
    show execWdkick n s = _
    rw [execWdkick]
    exact issue_retires h rfl (seqPc_eq s n) hx
  refine Does.intro hexec ⟨goesOn_retired hworks hn (wait_of_issues h) hx, ?_⟩
  rw [goesOn_core hthere, hcore, Core.goneOn]
  exact ⟨rfl, rfl, rfl⟩
end

/-- Settles O23: the rows of one family share a lemma (a descriptor queued, a unit waited for); the other instructions have one lemma each. -/
theorem cpUnits : Obligations.CpUnits := by
  unfold Obligations.CpUnits
  refine ⟨?_, ?_, ?_, ?_, ?_, ?_, ?_, ?_, ?_, ?_, ?_, ?_, ?_, ?_, ?_⟩
  · intro s n w d hwhole hx hdesc c hc h hroom hgood
    simp only [List.mem_cons, List.not_mem_nil, or_false] at hc
    rcases hc with rfl | rfl | rfl | rfl | rfl
    · exact does_queue (note := fun c d => { c with bound := d }) hwhole h hx (show execMload n s = _ by rw [execMload]) rfl (fun _ _ => rfl) hroom hdesc hgood
    · exact does_queue (note := fun c _ => c) hwhole h hx (show execMrun n s = _ by rw [execMrun]) rfl (fun _ _ => rfl) hroom hdesc hgood
    · exact does_queue (note := fun c _ => c) hwhole h hx (show execVrun n s = _ by rw [execVrun]) rfl (fun _ _ => rfl) hroom hdesc hgood
    · exact does_queue (note := fun c d => { c with ocfg := d }) hwhole h hx (show execOcfg n s = _ by rw [execOcfg]) rfl (fun _ _ => rfl) hroom hdesc hgood
    · exact does_queue (note := fun c _ => c) hwhole h hx (show execOrun n s = _ by rw [execOrun]) rfl (fun _ _ => rfl) hroom hdesc hgood
  · exact fun s n w d hwhole hx hdesc h hroom hgood => mload_binds hwhole hx hdesc h hroom hgood
  · intro s n w hwhole hx c hc h hempty
    simp only [List.mem_cons, List.not_mem_nil, or_false] at hc
    rcases hc with rfl | rfl | rfl <;> exact unitWait_answers rfl hwhole h hx hempty
  · intro s n w hwhole hx c hc h hfull
    simp only [List.mem_cons, List.not_mem_nil, or_false] at hc
    rcases hc with rfl | rfl | rfl <;> exact unitWait_waits rfl hwhole h hx hfull
  · intro s n hn rd hwhole hrun c hc hwait hempty
    simp only [List.mem_cons, List.not_mem_nil, or_false] at hc
    rcases hc with rfl | rfl | rfl <;> exact unitWait_ends rfl hn hwhole hrun hwait hempty
  · exact fun s n w hwhole h hx => does_answer hwhole h hx (show execMstat n s = _ by rw [execMstat]) rfl
  · exact fun s n w hwhole h hx hdone => fence_passes hwhole h hx hdone
  · exact fun s n w hwhole h hx hopen => fence_waits hwhole h hx hopen
  · exact fun s n hn x hwhole hrun hwait hdone => fence_ends hn hwhole hrun hwait hdone
  · exact fun s n w x hwhole h hx hslot hfree hkept => waitt_answers hwhole h hx hslot hfree hkept
  · exact fun s n hn rd g hwhole hrun hwait hfree => waitt_ends hn hwhole hrun hwait hfree
  · intro s n w x hwhole h hx hcsr
    exact does_answer hwhole h hx (show execCsrr n s = _ by rw [execCsrr]) (by dsimp only; rw [hcsr])
  · intro s n w hwhole h hx hseed
    obtain ⟨t, hexec, hretired, hcore⟩ := csrw_writes (f := fun c => { c with seed := s.gpr n (fRa w) % 2 ^ 32 }) hwhole h hx (fun _ => rfl)
      (fun _ => rfl) (fun _ => rfl) (by rw [State.setCsr, if_pos hseed])
    exact ⟨t, hexec, hretired, by rw [hcore, Core.goneOn], by rw [hcore, Core.goneOn]⟩
  · intro s n w hwhole h hx hterr
    obtain ⟨t, hexec, hretired, hcore⟩ := csrw_writes (f := fun c => { c with terr := 0 }) hwhole h hx (fun _ => rfl) (fun _ => rfl) (fun _ => rfl)
      (by rw [State.setCsr, hterr, if_neg (by decide), if_pos rfl])
    exact ⟨t, hexec, hretired, by rw [hcore, Core.goneOn], by rw [hcore, Core.goneOn]⟩
  · exact fun s n w hwhole h hx hon => wdkick_loads hwhole h hx hon

end Sys2Proof.Machine
end

section
/-! Proofs/JobRegisters.lean: the registers of the debug block and of the cores' blocks stand apart from those that the Pattern, the markers, the rings and
the reports use: what instances that end, a marker taken away and a settled command leave of them, and of a core. -/

namespace Sys2Proof.Machine
open Sys2Proof Sys2Proof.Machine.Reg

-- As in the files of Laws/: proofs elaborated side by side take the joined text past its memory limit.
set_option Elab.async false

/-- The address is of the debug block or of a core's block. -/
def ofDebugOrCore (a : Nat) : Prop := 0xF0000 ≤ a ∧ a < 0x300000

/-- The registers of the debug block and of the cores' blocks read as before. -/
def Spared (s t : State) : Prop := ∀ a, ofDebugOrCore a → t.reg a = s.reg a

theorem ofDebugOrCore.quiet {a : Nat} (h : ofDebugOrCore a) : Machine.quiet a := by
  rw [ofDebugOrCore] at h
  rw [quiet_def]
  omega
theorem ofDebugOrCore.offCmd {a : Nat} (h : ofDebugOrCore a) : Machine.offCmd a := ⟨h.quiet, .inr (Nat.le_trans (by decide) h.1)⟩
theorem ofDebugOrCore.ne {a b : Nat} (h : ofDebugOrCore a) (hb : ¬ ofDebugOrCore b) : a ≠ b := fun he => hb (he ▸ h)
theorem not_ofDebugOrCore_of_low {a : Nat} (h : a < 0xF0000) : ¬ ofDebugOrCore a := fun ha => Nat.not_le.2 h ha.1
theorem ofDebugOrCore_core {r : Rg} {n : Nat} (hn : n < 32) (hr : 0x100000 ≤ r.base ∧ r.base < 0x110000 ∧ r.s1 = 0x10000) : ofDebugOrCore (r.at n) := by
  obtain ⟨hlo, hhi, hstep⟩ := hr
  simp only [ofDebugOrCore, Rg.at, hstep]
  omega

namespace Spared

section
variable {s t u : State}

theorem refl (s : State) : Spared s s := fun _ _ => rfl
theorem trans (h : Spared s t) (g : Spared t u) : Spared s u := fun a ha => (g a ha).trans (h a ha)
theorem of_regs (h : t.regs = s.regs) : Spared s t := fun a _ => reg_of_regs_eq h a
theorem setReg {a : Nat} (v : Word) (ha : ¬ ofDebugOrCore a) : Spared s (s.setReg a v) := fun _ hb => reg_setReg_ne (hb.ne ha)
theorem setFld (f : Fld) (v i j : Nat) (ha : f.rg.at i j < 0xF0000) : Spared s (s.setFld f v i j) :=
  setReg _ (not_ofDebugOrCore_of_low ha)
theorem report {ev en b v code src sev data : Nat} (hv : v < 64) (hev : ev < 0xF0000) : Spared s (s.report ev en b v code src sev data) :=
  fun _ ha => report_reg hv ha.quiet (ha.ne (not_ofDebugOrCore_of_low hev))
theorem settle (s : State) (f : State → Wait → Option (Nat × List Nat)) : Spared s (s.settle f) := fun _ ha => settle_reg ha.offCmd
theorem ite {c : Prop} [Decidable c] (h : Spared s t) (g : Spared s u) : Spared s (if c then t else u) := by
  split
  · exact h
  · exact g
theorem foldl {α : Type} {f : State → α → State} {l : List α} (h : ∀ x ∈ l, ∀ u, Spared u (f u x)) (s : State) : Spared s (l.foldl f s) :=
  fun a ha => foldl_reg (fun x hx u => h x hx u a ha) s
end

end Spared

/-! ### Markers (R227, R229) -/

section
variable {s : State} {k : Nat} (hk : k < 256)
include hk

theorem mrk_low {r : Rg} (h : r = MRK_VAL ∨ r = MRK_STAT) : r.at k < 0xF0000 := by
  obtain rfl | rfl := h <;> simp only [Rg.at, MRK_VAL, MRK_STAT] <;> omega
theorem setMval_spared (v : Nat) : Spared s (s.setMval k v) := .setReg _ (not_ofDebugOrCore_of_low (mrk_low hk (.inl rfl)))
theorem setMrkStat_spared {f : Fld} (v : Nat) (hf : f.rg = MRK_STAT := by rfl) : Spared s (s.setFld f v k) :=
  .setFld _ _ _ _ (by rw [hf]; exact mrk_low hk (.inr rfl))
theorem setOwner_spared (o : Nat) : Spared s (s.setOwner k o) := by
  have hshown (v : Nat) : Spared s ((s.setFld MRK_STAT_OWNER o k).setFld MRK_STAT_HFRZ v k) :=
    (setMrkStat_spared hk _).trans (setMrkStat_spared hk _)
  exact (hshown _).trans (.of_regs rfl)
theorem tryWaiting_spared {t : State} {op arg node : Nat} (h : s.tryWaiting k op arg node = some t) : Spared s t := by
  unfold State.tryWaiting at h
  split at h
  · split at h
    · exact Option.some.inj h ▸ setMval_spared hk _
    · cases h
  · split at h
    · split at h
      · exact Option.some.inj h ▸ .refl s
      · cases h
    · split at h
      · exact Option.some.inj h ▸ setOwner_spared hk node
      · cases h
theorem visitAll_spared (l : List Waiter) (blocked : Bool) : Spared s (State.visitAll k l blocked s) := by
  induction l generalizing blocked s with
  | nil => exact .refl s
  | cons w rest ih =>
    unfold State.visitAll
    split
    · exact ih blocked
    · split
      next t hdone => exact ((tryWaiting_spared hk hdone).trans (.of_regs rfl)).trans (ih blocked)
      next => exact ih _
theorem visit_spared : Spared s (s.visit k) := (visitAll_spared hk _ _).trans (setMrkStat_spared hk _)
theorem takeAway_spared (cause : Nat) : Spared s (s.takeAway k cause) := by
  have hcount (u : State) : Spared u (u.count MRK_CNT_FORCED) := .setFld _ _ _ _ (by decide)
  have hreport (u : State) (b data : Nat) : Spared u (u.mrkReport b 5 k data) := .report (by decide) (by decide)
  exact (((setOwner_spared hk noOwner).trans (hcount _)).trans (hreport _ _ _)).trans (visit_spared hk)
end

theorem ownedBy_lt {s : State} {n k : Nat} (h : k ∈ s.ownedBy n) : k < 256 := List.mem_range.1 (List.mem_filter.1 h).1
theorem freezeLeases_spared (s : State) (n : Nat) (on : Bool) : Spared s (s.freezeLeases n on) :=
  (Spared.foldl (fun _ hk _ => setMrkStat_spared (ownedBy_lt hk) _) s).trans (.of_regs rfl)

section
variable {α : Type} (p : Core → α) (hp : ∀ c x, p { c with slots := x } = p c)
include hp

/-- Of a core, an answer changes slots only. -/
theorem answer_leaves (s : State) (m n t st v o : Nat) : p ((s.answer m t st v o).core n) = p (s.core n) :=
  core_modCore_leaves p (fun c => hp c _) s m n
theorem visit_leaves (s : State) (k n : Nat) : p ((s.visit k).core n) = p (s.core n) := by
  have htry {s t : State} {op arg node : Nat} (h : s.tryWaiting k op arg node = some t) : t.cores = s.cores :=
    State.tryWaiting_only s k op arg node t h .cores (by decide)
  have hall (l : List Waiter) (blocked : Bool) (s : State) : p ((State.visitAll k l blocked s).core n) = p (s.core n) := by
    induction l generalizing blocked s with
    | nil => rfl
    | cons w rest ih =>
      unfold State.visitAll
      split
      · exact ih blocked s
      · split
        next t hdone => exact (ih _ _).trans ((answer_leaves p hp _ _ _ _ _ _ _).trans (congrArg p (core_of_cores_eq (htry hdone) n)))
        next => exact ih _ s
  exact (congrArg p (core_of_cores_eq (setFld_cores _ _ _ _ _) n)).trans (hall _ _ s)
theorem takeAway_leaves (s : State) (k cause n : Nat) : p ((s.takeAway k cause).core n) = p (s.core n) := by
  have hcores (b data : Nat) : (((s.setOwner k noOwner).count MRK_CNT_FORCED).mrkReport b 5 k data).cores = s.cores :=
    (mrkReport_cores _ _ _ _ _).trans ((count_cores _ _ _ _ _).trans (setOwner_cores s k noOwner))
  exact (visit_leaves p hp _ k n).trans (congrArg p (core_of_cores_eq (hcores _ _) n))
end

/-! ### The end of instances (R65, R67, R362) -/

theorem putFloor_spared {n : Nat} (hn : n < 32) (s : State) (v : Nat) : Spared s (s.putFloor n v) := by
  have hfloor : PAT_FLOOR.at (n / 4) < 0xF0000 := by
    simp only [Rg.at, PAT_FLOOR]
    omega
  have hfreq : CLK_CORE_FREQ.rg.at n < 0xF0000 := by
    rw [show CLK_CORE_FREQ.rg.at n = 0xD2000 + 4 * n from clkCore_at n]
    omega
  have hput (w : Word) : Spared s (s.setReg (PAT_FLOOR.at (n / 4)) w) := .setReg _ (not_ofDebugOrCore_of_low hfloor)
  unfold State.putFloor
  dsimp only
  split
  · exact hput _
  · exact .ite ((hput _).trans (.setFld _ _ _ _ hfreq)) ((hput _).trans (.setFld _ _ _ _ hfreq))
theorem modPat_spared (s : State) (f : Pat → Pat) : Spared s (s.modPat f) := .of_regs rfl
theorem dropDrains_spared (s : State) : Spared s s.dropDrains := by
  unfold State.dropDrains
  exact .ite (.refl s) (Spared.trans (modPat_spared _ _) (.foldl (fun n hn u => putFloor_spared (List.mem_range.1 hn) u _) _))
theorem dropDraining_spared (s : State) : Spared s s.dropDraining := by
  unfold State.dropDraining
  refine .ite (Spared.trans (.foldl (fun n hn u => ?_) s) (modPat_spared _ _)) (.refl s)
  exact (modPat_spared _ _).trans (putFloor_spared (List.mem_range.1 hn) _ _)
theorem releasePattern_spared (s : State) : Spared s s.releasePattern := fun a ha =>
  releasePattern_leaves (fun u => u.reg a) ((dropDraining_spared _ a ha).trans (dropDrains_spared s a ha))
    (fun u => reg_setFld_ne (by rw [show MESH_STATUS_RSVACT.rg.at = 0x400004 from meshStatus_at]; exact Nat.ne_of_lt (Nat.lt_trans ha.2 (by decide))))
    (fun u f => settle_reg ha.offCmd)

theorem noteLate_spared (s : State) (id : Nat) : Spared s (s.noteLate id) := by
  unfold State.noteLate
  split
  · exact .refl s
  · refine .ite (.refl s) ?_
    have hcount (u : State) : Spared u (u.count PAT_LATECNT_LATE) := .setFld _ _ _ _ (by decide)
    have hevent (u : State) (res job group : Nat) : Spared u (u.patReport 4 4 res job group) := .report (by decide) (by decide)
    exact ((modPat_spared _ _).trans (hcount _)).trans (hevent _ _ _ _)
theorem postJob_spared (s : State) (i : Inst) (code src : Nat) : Spared s (s.postJob i code src) := by
  have hpost (u : State) (x : Post) : Spared u (u.post x) := fun a ha =>
    post_reg ⟨ha.quiet, ha.ne (not_ofDebugOrCore_of_low (by decide)), ha.ne (not_ofDebugOrCore_of_low (by decide)),
      ha.ne (not_ofDebugOrCore_of_low (by decide))⟩
  unfold State.postJob
  exact .ite (hpost _ _) (.refl s)
theorem endPart_spared (s : State) (id r code user cycles : Nat) : Spared s (s.endPart id r code user cycles) := by
  have hdrop (u : State) (i : Inst) (c : Nat) : Spared u ((u.postJob i c (resUnit r)).dropInst id).releasePattern :=
    ((postJob_spared _ _ _ _).trans (modPat_spared _ _)).trans (releasePattern_spared _)
  unfold State.endPart
  dsimp only
  split
  · exact modPat_spared _ _
  · refine .ite (Spared.trans ?_ (hdrop _ _ _)) (modPat_spared _ _)
    exact .ite (modPat_spared _ _) ((modPat_spared _ _).trans (.of_regs (draw_regs _)))
/-- The scheduler's part in an end that is neither an exception of a unit nor a fence. -/
theorem tellPat_spared (s : State) {st : Nat} (hst : ¬ (st = 3 ∨ st = 5)) (n user cause : Nat) (inst : Option Nat) (cyc : Nat) (may : Bool) :
    Spared s (s.tellPat n st user cause inst cyc may) := by
  unfold State.tellPat
  split
  · exact .refl s
  · rw [if_neg hst]
    exact (noteLate_spared _ _).trans (endPart_spared _ _ _ _ _ _)

theorem tellPat_cores (s : State) (n st user cause : Nat) (inst : Option Nat) (cyc : Nat) (may : Bool) :
    (s.tellPat n st user cause inst cyc may).cores = s.cores :=
  (State.tellPat_only s n st user cause inst cyc may s (m' := 8615425)).2 (Only.refl _ s) .cores (by decide)
theorem settle_cores (s : State) (f : State → Wait → Option (Nat × List Nat)) : (s.settle f).cores = s.cores :=
  (State.settle_only s f s (m' := 8467969)).2 (Only.refl _ s) .cores (by decide)
theorem settle_data (s : State) (f : State → Wait → Option (Nat × List Nat)) : (s.settle f).data = s.data :=
  (State.settle_only s f s (m' := 8467969)).2 (Only.refl _ s) .data (by decide)

end Sys2Proof.Machine
end

section
/-! Proofs/CpJobs.lean: jobs of a core begin, sleep, halt and end (`Obligations.CpJobs`, O24). -/

namespace Sys2Proof.Machine
open Sys2Proof Sys2Proof.Machine.Reg

-- As in the files of Laws/: proofs elaborated side by side take the joined text past its memory limit.
set_option Elab.async false

/-! ### Parts of a core that a change sets or leaves -/

section
variable {α : Type} (p : Core → α)

/-- What `f` sets reads as set, whether the core is there or not. -/
theorem core_modCore_sets {f : Core → Core} {v : α} (hdefault : p {} = v) (hf : ∀ c, p (f c) = v) (s : State) (n : Nat) :
    p ((s.modCore n f).core n) = v := by
  by_cases hthere : n < s.cores.length
  · rw [core_modCore hthere, hf]
  · rw [State.core, List.getD_eq_default _ _ (by rw [modCore_size]; omega), hdefault]

variable (hp : ∀ c x y, p { c with wdLeft := x, wdMark := y } = p c)
include hp

theorem wdHold_leaves (s : State) (n m : Nat) : p ((s.wdHold n).core m) = p (s.core m) := by
  refine core_modCore_leaves p (fun c => ?_) s n m
  split
  · exact hp c _ _
  · rfl
end

theorem wdHold_wdMark (s : State) (n : Nat) : ((s.wdHold n).core n).wdMark = none := by
  refine core_modCore_sets Core.wdMark rfl (fun c => ?_) s n
  split
  · rfl
  next hnone => exact hnone
theorem wdHold_works (l : List Nat) (s : State) (n : Nat) : Works l n s (s.wdHold n) where
  regs _ _ := reg_modCore _ _ _ _
  others _ hm := core_modCore_ne hm _
  size := modCore_size _ _ _
  cyc := wdHold_leaves Core.cyc (fun _ _ _ => rfl) s n n
  wait := wdHold_leaves Core.wait (fun _ _ _ => rfl) s n n
  hot := wdHold_leaves Core.hot (fun _ _ _ => rfl) s n n

theorem coreStatus_at_ne_pc (n : Nat) : CORE_STATUS.at n ≠ CORE_PC.at n := by
  rw [coreStatus_at, corePc_at]
  omega
theorem cstate_setCstate (s : State) (n : Nat) {v : Nat} (hv : v < 8) : (s.setCstate n v).cstate n = v := by
  rw [State.cstate, State.setCstate, fld_setFld _ _ _ _ _ (by decide)]
  exact Nat.mod_eq_of_lt hv
theorem cstate_of_reg_eq {s t : State} {n : Nat} (h : t.reg (CORE_STATUS.at n) = s.reg (CORE_STATUS.at n)) : t.cstate n = s.cstate n :=
  fld_of_reg_eq h
theorem pc_of_reg_eq {s t : State} {n : Nat} (h : t.reg (CORE_PC.at n) = s.reg (CORE_PC.at n)) : t.pc n = s.pc n := fld_of_reg_eq h

/-! ### A report of a core (R259) -/

section
variable {s : State} {n b sev : Nat} (hn : n < 32)
include hn

theorem coreReport_reg {a : Nat} (ha : ofDebugOrCore a) (hne : a ≠ CORE_EVENT.at n) : (s.coreReport n b sev).reg a = s.reg a :=
  report_reg (by omega) ha.quiet hne
theorem coreReport_evt (hb : b < 32) : (s.coreReport n b sev).evtAt CORE_EVENT n b :=
  report_bit (by omega) (ofDebugOrCore_core hn ⟨by decide, by decide, rfl⟩).quiet hb
end

theorem coreReport_cores (s : State) (n b sev : Nat) : (s.coreReport n b sev).cores = s.cores :=
  (State.coreReport_only s n b sev s (m' := 8458753)).2 (Only.refl _ s) .cores (by decide)

/-! ### The end of a job (R253, R255) -/

/-- The record of a job that has ended. -/
def State.jobRecorded (s : State) (n st user exc : Nat) : State :=
  (s.setRegN CORE_JOBST (st + 16 * user + 4096 * exc) n).setRegN CORE_JOBCYC (min (s.core n).cyc (2 ^ 32 - 1)) n
/-- The core once its job has ended. -/
def State.jobCleared (s : State) (n next : Nat) : State :=
  (((s.wdHold n).setCstate n next).setFld CORE_STATUS_SRC 0 n).modCore n fun c => { c with inst := none, wait := .none, hot := 0, stall := false }

section
variable {s : State} {n st user exc next : Nat}

theorem jobRecorded_reg {a : Nat} (hst : a ≠ CORE_JOBST.at n) (hcyc : a ≠ CORE_JOBCYC.at n) : (s.jobRecorded n st user exc).reg a = s.reg a := by
  rw [State.jobRecorded, reg_setRegN_ne hcyc, reg_setRegN_ne hst]
theorem jobRecorded_jobst : (s.jobRecorded n st user exc).reg (CORE_JOBST.at n) = BitVec.ofNat 32 (st + 16 * user + 4096 * exc) := by
  have hne : CORE_JOBST.at n ≠ CORE_JOBCYC.at n := by
    simp only [Rg.at, CORE_JOBST, CORE_JOBCYC]
    omega
  rw [State.jobRecorded, reg_setRegN_ne hne, State.setRegN, reg_setReg_same]
theorem jobRecorded_cores : (s.jobRecorded n st user exc).cores = s.cores := rfl
theorem jobRecorded_data : (s.jobRecorded n st user exc).data = s.data := rfl

theorem jobCleared_reg {a : Nat} (ha : a ≠ CORE_STATUS.at n) : (s.jobCleared n next).reg a = s.reg a := by
  rw [State.jobCleared, reg_modCore, reg_setFld_ne ha, State.setCstate, reg_setFld_ne ha, State.wdHold, reg_modCore]
theorem jobCleared_cstate (hnext : next < 8) : (s.jobCleared n next).cstate n = next := by
  rw [State.jobCleared, cstate_of_reg_eq (reg_modCore _ _ _ _), State.cstate, fld_setFld_disj (by decide) (by decide), ← State.cstate,
    cstate_setCstate _ _ hnext]
theorem jobCleared_src : (s.jobCleared n next).fld CORE_STATUS_SRC n = 0 := by
  rw [State.jobCleared, fld_of_reg_eq (reg_modCore _ _ _ _), fld_setFld _ _ _ _ _ (by decide)]
  rfl
theorem jobCleared_inst : ((s.jobCleared n next).core n).inst = none := by
  rw [State.jobCleared]
  exact core_modCore_sets Core.inst rfl (by exact fun _ => rfl) _ _
theorem jobCleared_wait : ((s.jobCleared n next).core n).wait = .none := by
  rw [State.jobCleared]
  exact core_modCore_sets Core.wait rfl (by exact fun _ => rfl) _ _
theorem jobCleared_halted : ((s.jobCleared n next).core n).halted = (s.core n).halted := by
  rw [State.jobCleared, core_modCore_leaves Core.halted (by exact fun _ => rfl), core_of_cores_eq (setFld_cores _ _ _ _ _), State.setCstate,
    core_of_cores_eq (setFld_cores _ _ _ _ _), wdHold_leaves Core.halted (fun _ _ _ => rfl)]
theorem jobCleared_data : (s.jobCleared n next).data = s.data := by
  rw [State.jobCleared, modCore_data, setFld_data, State.setCstate, setFld_data, State.wdHold, modCore_data]

/-- DONE leaves its record, and ends what waits for the job. -/
theorem closeJob_of_done (s : State) (n user exc next : Nat) :
    ∃ f, s.closeJob n 0 user exc next = ((s.jobRecorded n 0 user exc).jobCleared n next).settle f := by
  unfold State.closeJob
  dsimp only
  rw [if_neg (by decide : ¬ ((0 : Nat) = 2 ∨ (0 : Nat) = 3)), if_neg (by decide : ¬ (0 : Nat) = 2), if_neg (by decide : ¬ (0 : Nat) = 3),
    if_neg (by decide : ¬ (0 : Nat) = 4)]
  exact ⟨_, by rw [State.jobCleared, State.jobRecorded]⟩

/-- An abort is reported, in bind-off by its event and interrupt only (Table 19.4); it ends nothing but what waits for the job. -/
theorem closeJob_of_abort (s : State) (n user exc next : Nat) : ∃ f : State → Wait → Option (Nat × List Nat), (∀ t, f t .running = none) ∧
    s.closeJob n 4 user exc next =
    ((if (s.jobRecorded n 4 user exc).fld PWR_BOSTAT_STAGE = 2 then
        (s.jobRecorded n 4 user exc).event (CORE_EVENT.at n) (CORE_INT_EN.at n) 2 (44 + n / 4)
      else (s.jobRecorded n 4 user exc).coreReport n 2 4).jobCleared n next).settle f := by
  unfold State.closeJob
  dsimp only
  rw [if_neg (by decide : ¬ ((4 : Nat) = 2 ∨ (4 : Nat) = 3)), if_neg (by decide : ¬ (4 : Nat) = 2), if_neg (by decide : ¬ (4 : Nat) = 3),
    if_pos rfl]
  exact ⟨_, fun _ => rfl, by rw [State.jobCleared, State.jobRecorded]⟩
theorem closeJob_aborted (s : State) (hn : n < 32) (user exc next : Nat) : ∃ (u : State) (f : State → Wait → Option (Nat × List Nat)),
    u.cores = s.cores ∧ u.evtAt CORE_EVENT n 2 ∧
    u.reg (CORE_JOBST.at n) = BitVec.ofNat 32 (4 + 16 * user + 4096 * exc) ∧
    s.closeJob n 4 user exc next = (u.jobCleared n next).settle f := by
  have hin : ofDebugOrCore (CORE_JOBST.at n) := ofDebugOrCore_core hn ⟨by decide, by decide, rfl⟩
  have hev : ofDebugOrCore (CORE_EVENT.at n) := ofDebugOrCore_core hn ⟨by decide, by decide, rfl⟩
  have hne : CORE_JOBST.at n ≠ CORE_EVENT.at n := by
    simp only [Rg.at, CORE_JOBST, CORE_EVENT]
    omega
  obtain ⟨h1, h2, -⟩ := (quiet_def _).1 hev.quiet
  have hv : 44 + n / 4 < 64 := by omega
  obtain ⟨f, -, hclosed⟩ := closeJob_of_abort s n user exc next
  by_cases hstage : (s.jobRecorded n 4 user exc).fld PWR_BOSTAT_STAGE = 2
  · rw [if_pos hstage] at hclosed
    have hcores : ((s.jobRecorded n 4 user exc).event (CORE_EVENT.at n) (CORE_INT_EN.at n) 2 (44 + n / 4)).cores =
        (s.jobRecorded n 4 user exc).cores := (State.event_only _ _ _ _ _ _ (m' := 4609)).2 (Only.refl _ _) .cores (by decide)
    exact ⟨(s.jobRecorded n 4 user exc).event (CORE_EVENT.at n) (CORE_INT_EN.at n) 2 (44 + n / 4), f, hcores.trans jobRecorded_cores,
      event_bit hv ⟨h1, h2⟩ (by decide),
      (event_reg hv hin.quiet hne).trans jobRecorded_jobst, hclosed⟩
  · rw [if_neg hstage] at hclosed
    exact ⟨(s.jobRecorded n 4 user exc).coreReport n 2 4, f, (coreReport_cores _ _ _ _).trans jobRecorded_cores, coreReport_evt hn (by decide),
      (coreReport_reg hn hin hne).trans jobRecorded_jobst, hclosed⟩
end

/-! ### DONE (R253) -/

section
variable {s : State} {n w u : Nat}

/-- Clause 1 of `Obligations.CpJobs`. -/
theorem done_waits (hwhole : s.whole) (h : s.issues n 0x50 w) (huser : s.gpr n (fRa w) < 256) : Does (.done n) s (fun t =>
    (t.core n).wait = .done (s.gpr n (fRa w)) ∧ (t.core n).cyc = (s.core n).cyc + 1 + s.loadUse n w ∧ (t.core n).g = (s.core n).g ∧
      t.regs = s.regs) := by
  have hn := there_of_issues h hwhole
  have hexec : exec (.done n) s = .next (s.modCore n fun c => { c with
      wait := .done (s.gpr n (fRa w)), cyc := c.cyc + 1 + s.loadUse n w, hot := 0, stall := !(c.fenced 15) }) := by
    show execDone n s = _
    rw [execDone]
    refine issue_owns h ?_
    dsimp only
    rw [if_neg (Nat.not_le.2 huser)]
  refine Does.intro hexec ⟨?_, ?_, ?_, modCore_regs _ _ _⟩ <;> rw [core_modCore hn]

theorem retired_left (s : State) (n cycles hot : Nat) (waited : Bool) :
    ((s.retired n cycles hot waited).core n).left = (s.core n).left.map (· - 1) := by
  unfold State.retired
  dsimp only
  by_cases hthere : n < s.cores.length
  · cases waited <;> exact congrArg Core.left (core_modCore (by exact hthere) _)
  · have hnone (t : State) (ht : t.cores.length = s.cores.length) : (t.core n).left = none := by
      rw [State.core, List.getD_eq_default _ _ (by omega)]
    rw [hnone s rfl, hnone _ ((modCore_size _ _ _).trans (by cases waited <;> rfl)), Option.map_none]
theorem retired_data (s : State) (n cycles hot : Nat) (waited : Bool) : (s.retired n cycles hot waited).data = s.data := by
  unfold State.retired
  dsimp only
  rw [modCore_data]
  cases waited
  · rfl
  · exact draw_data s

/-- Clause 2 of `Obligations.CpJobs`: the fence of a DONE whose job no Pattern has started is complete. -/
theorem jobComplete_ends (hn : n < 32) (huser : u < 256) (hrun : (s.core n).halted = false) (hwait : (s.core n).wait = .done u)
    (hfenced : (s.core n).fenced 15 = true) (hinst : (s.core n).inst = none) (hleft : (s.core n).left = none) :
    Does (.jobComplete n) s (fun t => t.cstate n = cIdle ∧ t.regN CORE_JOBST n = 16 * u ∧ t.fld CORE_STATUS_SRC n = 0 ∧
      (t.core n).wait = .none ∧ t.pc n = s.pc n ∧ t.data = s.data) := by
  obtain ⟨r, hr⟩ : ∃ r, r = s.retired n 0 0 (s.core n).stall := ⟨_, rfl⟩
  have hrinst : (r.core n).inst = none := by rw [hr, retired_leaves Core.inst (fun _ _ _ _ _ _ => rfl), hinst]
  have hrleft : (r.core n).left = none := by
    rw [hr, retired_left, hleft, Option.map_none]
  have hrregs (a : Nat) : r.reg a = s.reg a := reg_of_regs_eq (by rw [hr, retired_regs]) a
  have hstatus : r.doneStatus n = 0 := by rw [State.doneStatus, hrinst]
  obtain ⟨f, hclosed⟩ := closeJob_of_done r n u 0 cIdle
  have hexec : exec (.jobComplete n) s = .next (((r.jobRecorded n 0 u 0).jobCleared n cIdle).settle f) := by
    show execJobComplete n s = _
    rw [execJobComplete, onUnit, if_pos hn, waiting_of_running hn hrun, hwait]
    dsimp only
    rw [if_pos hfenced, ← hr, hstatus, hclosed, hrinst, hrleft]
    rfl
  have hstat : ofDebugOrCore (CORE_STATUS.at n) := ofDebugOrCore_core hn ⟨by decide, by decide, rfl⟩
  have hjobst : ofDebugOrCore (CORE_JOBST.at n) := ofDebugOrCore_core hn ⟨by decide, by decide, rfl⟩
  have hpc : ofDebugOrCore (CORE_PC.at n) := ofDebugOrCore_core hn ⟨by decide, by decide, rfl⟩
  refine Does.intro hexec ⟨?_, ?_, ?_, ?_, ?_, ?_⟩
  · rw [cstate_of_reg_eq (settle_reg hstat.offCmd), jobCleared_cstate (by decide)]
  · have hne : CORE_JOBST.at n ≠ CORE_STATUS.at n := by
      simp only [Rg.at, CORE_JOBST, CORE_STATUS]
      omega
    rw [State.regN, settle_reg hjobst.offCmd, jobCleared_reg hne, jobRecorded_jobst, BitVec.toNat_ofNat]
    omega
  · rw [fld_of_reg_eq (settle_reg hstat.offCmd), jobCleared_src]
  · rw [core_of_cores_eq (settle_cores _ _), jobCleared_wait]
  · refine (pc_of_reg_eq (settle_reg hpc.offCmd)).trans (pc_of_reg_eq ((jobCleared_reg (coreStatus_at_ne_pc n).symm).trans ?_))
    refine (jobRecorded_reg ?_ ?_).trans (hrregs _)
    · simp only [Rg.at, CORE_JOBST, CORE_PC]
      omega
    · simp only [Rg.at, CORE_JOBCYC, CORE_PC]
      omega
  · rw [settle_data, jobCleared_data, jobRecorded_data, hr, retired_data]

/-- Clause 3 of `Obligations.CpJobs`: DONE's fence is not complete. -/
theorem jobComplete_waits (hn : n < 32) (hrun : (s.core n).halted = false) (hwait : (s.core n).wait = .done u)
    (hopen : (s.core n).fenced 15 = false) : exec (.jobComplete n) s = .next s := by
  show execJobComplete n s = _
  rw [execJobComplete, onUnit, if_pos hn, waiting_of_running hn hrun, hwait]
  dsimp only
  rw [hopen, if_neg Bool.false_ne_true]
end

/-! ### WSTITCH (R238) -/

section
variable {s : State} {n w x : Nat}

/-- Clause 4 of `Obligations.CpJobs`: a stitch that has come. -/
theorem wstitch_passes (hwhole : s.whole) (h : s.issues n 0x53 w) (hx : s.pc n + 4 ≤ 0xFFFC) (hb : s.gpr n (fRb w) < 1024)
    (hcome : s.stitchesTo (s.gpr n (fRa w) * 1024 + s.gpr n (fRb w)) ≤ 0) :
    Does (.wstitch n) s (fun t => Retired [] n (s.pc n + 4) (1 + s.loadUse n w) s t ∧ (t.core n).g = (s.core n).g) := by
  have hn := there_of_issues h hwhole
  have hexec : exec (.wstitch n) s = .next (s.goesOn n (s.pc n + 4) (1 + s.loadUse n w) 0) := by
    show execWstitch n s = _
    rw [execWstitch]
    refine issue_retires h ?_ (seqPc_eq s n) hx
    dsimp only
    rw [if_neg (Nat.not_le.2 hb), if_pos hcome]
  exact Does.intro hexec ⟨goesOn_retired (Works.refl [] n s) hn (wait_of_issues h) hx, goesOn_g hn⟩

/-- Clause 5 of `Obligations.CpJobs`: the core sleeps until its stitch, and its watchdog stands. -/
theorem wstitch_sleeps (hwhole : s.whole) (h : s.issues n 0x53 w) (hx : s.pc n + 4 ≤ 0xFFFC) (hb : s.gpr n (fRb w) < 1024)
    (hahead : 0 < s.stitchesTo (s.gpr n (fRa w) * 1024 + s.gpr n (fRb w)))
    (hnear : s.stitchesTo (s.gpr n (fRa w) * 1024 + s.gpr n (fRb w)) ≤ 16384) :
    Does (.wstitch n) s (fun t => t.cstate n = cSleep ∧ t.pc n = s.pc n + 4 ∧ (t.core n).wait = .sleep (s.gpr n (fRa w) * 1024 + s.gpr n (fRb w)) ∧
      (t.core n).wdMark = none) := by
  have hn := there_of_issues h hwhole
  have hworks : Works [CORE_STATUS.at n] n s ((s.wdHold n).setCstate n cSleep) :=
    (wdHold_works _ s n).trans (Works.setFld _ _ _ _ (List.mem_singleton.2 rfl))
  have hthere : n < ((s.wdHold n).setCstate n cSleep).cores.length := by rw [hworks.size]; exact hn
  have hexec : exec (.wstitch n) s = .next (((s.wdHold n).setCstate n cSleep).pauses n (s.pc n + 4) (s.loadUse n w)
      (.sleep (s.gpr n (fRa w) * 1024 + s.gpr n (fRb w)))) := by
    show execWstitch n s = _
    rw [execWstitch]
    refine issue_waits h hwhole hworks ?_ (seqPc_eq s n) hx trivial
    dsimp only
    rw [if_neg (Nat.not_le.2 hb), if_neg (by omega), if_pos hnear]
  refine Does.intro hexec ⟨?_, pauses_pc hx, ?_, ?_⟩
  · rw [cstate_of_reg_eq (pauses_reg_ne (coreStatus_at_ne_pc n)), cstate_setCstate _ _ (by decide)]
  · rw [pauses_core hthere, Core.paused]
  · rw [pauses_core hthere, Core.paused, State.setCstate, core_of_cores_eq (setFld_cores _ _ _ _ _), wdHold_wdMark]

/-- Clause 6 of `Obligations.CpJobs`: the stitch that a core waits for has come. -/
theorem wstitchWake_wakes (hn : n < 32) (hwhole : s.whole) (hrun : (s.core n).halted = false) (hwait : (s.core n).wait = .sleep x)
    (hcome : s.stitchesTo x ≤ 0) : Does (.wstitchWake n) s (fun t =>
      t.cstate n = cRun ∧ (t.core n).wait = .none ∧ (t.core n).g = (s.core n).g ∧ sameRegsBut [CORE_STATUS.at n] s t) := by
  have hthere : n < ((s.setCstate n cRun).wdRun n).cores.length := by
    rw [State.wdRun, modCore_size, State.setCstate, setFld_cores]
    exact there_of_whole hwhole hn
  have hregs (a : Nat) : (((s.setCstate n cRun).wdRun n).endWait n 0 0).reg a = (s.setCstate n cRun).reg a :=
    (reg_of_regs_eq endWait_regs a).trans (by rw [State.wdRun, reg_modCore])
  have hexec : exec (.wstitchWake n) s = .next (((s.setCstate n cRun).wdRun n).endWait n 0 0) := by
    show execWstitchWake n s = _
    rw [execWstitchWake, onUnit, if_pos hn, waiting_of_running hn hrun, hwait]
    dsimp only
    rw [if_pos hcome]
  refine Does.intro hexec ⟨?_, endWait_wait hthere, ?_, fun a ha => ?_⟩
  · rw [cstate_of_reg_eq (hregs _), cstate_setCstate _ _ (by decide)]
  · rw [endWait_g hthere, put_zero, State.wdRun, core_modCore_leaves Core.g, State.setCstate, core_of_cores_eq (setFld_cores _ _ _ _ _)]
    intro c
    split <;> rfl
  · rw [hregs, State.setCstate, reg_setFld_ne (List.ne_of_not_mem_cons ha)]

/-- Clause 7 of `Obligations.CpJobs`: the stitch that a core waits for has not come. -/
theorem wstitchWake_waits (hn : n < 32) (hwait : (s.core n).wait = .sleep x) (hahead : 0 < s.stitchesTo x) :
    exec (.wstitchWake n) s = .next s := by
  show execWstitchWake n s = _
  rw [execWstitchWake, onUnit, if_pos hn, State.waiting]
  by_cases hout : (s.core n).halted = true ∨ n ≥ 32
  · rw [if_pos hout]
  · rw [if_neg hout, hwait]
    dsimp only
    rw [if_neg (by omega)]
end

/-! ### Halts (R472) -/

/-- What a halt shows of its core. -/
def Core.haltShown (c : Core) : Bool × Nat × Nat × Nat := (c.halted, c.hcause, c.hpc, c.was)

/-- The core has halted, and the debug block shows it; its markers are still its own. -/
def State.haltNoted (s : State) (n cause : Nat) : State :=
  let now := s.rnd.clk
  let was := s.cstate n
  let pc := s.pc n
  let s := s.wdHold n
  let s := s.modCore n (fun c => { c with
    halted := true, was := was, hcause := cause, hpc := pc, left := none, skip := none,
    wait := match c.wait with
      | .recv rd ch lim since => .recv rd ch lim (now - since)
      | w => w })
  let s := s.setCstate n cHalted
  let s := s.setReg DBG_HALTED.base (setBits (s.reg DBG_HALTED.base) n 1 1)
  s.setReg DBG_HALT.base (setBits (s.reg DBG_HALT.base) n 1 0)

section
variable {s : State} {n cause : Nat}

/-- Then its markers go, or their leases freeze (R229). -/
def State.markersHalted (s : State) (n : Nat) : State :=
  if s.flag DBG_CTRL_HALT_RELEASE then (s.ownedBy n).foldl (fun s k => s.takeAway k 1) s else s.freezeLeases n true

theorem markersHalted_spared (s : State) (n : Nat) : Spared s (s.markersHalted n) :=
  .ite (.foldl (fun _ hk _ => takeAway_spared (ownedBy_lt hk) 1) s) (freezeLeases_spared s n true)
theorem markersHalted_shown (s : State) (n : Nat) : ((s.markersHalted n).core n).haltShown = (s.core n).haltShown := by
  unfold State.markersHalted
  split
  · exact foldl_leaves (fun u : State => (u.core n).haltShown) (fun u k => takeAway_leaves Core.haltShown (fun _ _ => rfl) u k 1 n) _ s
  · exact congrArg Core.haltShown (core_of_cores_eq
      ((State.freezeLeases_only s n true s (m' := 262145)).2 (Only.refl _ s) .cores (by decide)) n)
/-- At last the halt is reported, and a step that ends there is answered. -/
theorem haltCore_eq (s : State) (n cause : Nat) : ∃ (d : Nat) (f : State → Wait → Option (Nat × List Nat)),
    s.haltCore n cause = (((s.haltNoted n cause).markersHalted n).dbgReport 2 3 n d).settle f := by
  unfold State.haltCore State.markersHalted State.haltNoted
  exact ⟨_, _, rfl⟩

theorem haltNoted_core (hn : n < s.cores.length) : ((s.haltNoted n cause).core n).haltShown = (true, cause, s.pc n, s.cstate n) := by
  have hthere : n < (s.wdHold n).cores.length := by rw [State.wdHold, modCore_size]; exact hn
  unfold State.haltNoted
  dsimp only
  rw [core_of_cores_eq (setReg_cores _ _ _), core_of_cores_eq (setReg_cores _ _ _), State.setCstate, core_of_cores_eq (setFld_cores _ _ _ _ _),
    core_modCore hthere, Core.haltShown]
theorem haltNoted_reg {a : Nat} (hstat : a ≠ CORE_STATUS.at n) (hhalted : a ≠ DBG_HALTED.base) (hhalt : a ≠ DBG_HALT.base) :
    (s.haltNoted n cause).reg a = s.reg a := by
  unfold State.haltNoted
  dsimp only
  rw [reg_setReg_ne hhalt, reg_setReg_ne hhalted, State.setCstate, reg_setFld_ne hstat, reg_modCore, State.wdHold, reg_modCore]
theorem haltNoted_cstate : (s.haltNoted n cause).cstate n = cHalted := by
  have hhalted : CORE_STATUS.at n ≠ DBG_HALTED.base := by
    rw [coreStatus_at]
    show _ ≠ 0x0F0018
    omega
  have hhalt : CORE_STATUS.at n ≠ DBG_HALT.base := by
    rw [coreStatus_at]
    show _ ≠ 0x0F0010
    omega
  unfold State.haltNoted
  dsimp only
  rw [cstate_of_reg_eq (reg_setReg_ne hhalt), cstate_of_reg_eq (reg_setReg_ne hhalted), cstate_setCstate _ _ (by decide)]
theorem haltNoted_halted (hn : n < 32) : ((s.haltNoted n cause).reg DBG_HALTED.base).toNat.testBit n = true := by
  unfold State.haltNoted
  dsimp only
  rw [reg_setReg_ne (by decide), reg_setReg_same, testBit_setBits _ _ _ _ _ (by omega), if_pos ⟨Nat.le_refl n, by omega⟩, Nat.sub_self]
  rfl
theorem haltNoted_halt (hn : n < 32) : ((s.haltNoted n cause).reg DBG_HALT.base).toNat.testBit n = false := by
  unfold State.haltNoted
  dsimp only
  rw [reg_setReg_same, testBit_setBits _ _ _ _ _ (by omega), if_pos ⟨Nat.le_refl n, by omega⟩, Nat.sub_self]
  rfl

/-- A core that halts: what the core, its STATE, its PC and the debug block show. -/
theorem haltCore_shows (hwhole : s.whole) (hn : n < 32) :
    ((s.haltCore n cause).core n).haltShown = (true, cause, s.pc n, s.cstate n) ∧ (s.haltCore n cause).cstate n = cHalted ∧
      (s.haltCore n cause).pc n = s.pc n ∧ ((s.haltCore n cause).reg DBG_HALTED.base).toNat.testBit n = true ∧
      ((s.haltCore n cause).reg DBG_HALT.base).toNat.testBit n = false ∧ (s.haltCore n cause).evt DBG_EVENT 2 := by
  obtain ⟨d, f, heq⟩ := haltCore_eq s n cause
  have hreg {a : Nat} (ha : ofDebugOrCore a) (hne : a ≠ DBG_EVENT.base) : (s.haltCore n cause).reg a = (s.haltNoted n cause).reg a := by
    rw [heq, settle_reg ha.offCmd]
    exact (report_reg (v := 43) (by decide) ha.quiet hne).trans (markersHalted_spared _ _ a ha)
  have hstat : ofDebugOrCore (CORE_STATUS.at n) := ofDebugOrCore_core hn ⟨by decide, by decide, rfl⟩
  have hpc : ofDebugOrCore (CORE_PC.at n) := ofDebugOrCore_core hn ⟨by decide, by decide, rfl⟩
  have hlow {a : Nat} (ha : 0x100000 ≤ a) : a ≠ DBG_EVENT.base ∧ a ≠ DBG_HALTED.base ∧ a ≠ DBG_HALT.base := by
    show a ≠ 0x0F0008 ∧ a ≠ 0x0F0018 ∧ a ≠ 0x0F0010
    omega
  obtain ⟨hstatEv, -, -⟩ := hlow (a := CORE_STATUS.at n) (by rw [coreStatus_at]; omega)
  obtain ⟨hpcEv, hpcHalted, hpcHalt⟩ := hlow (a := CORE_PC.at n) (by rw [corePc_at]; omega)
  refine ⟨?_, ?_, ?_, ?_, ?_, ?_⟩
  · have hcores : (s.haltCore n cause).cores = ((s.haltNoted n cause).markersHalted n).cores := by
      rw [heq, settle_cores]
      exact (State.dbgReport_only _ 2 3 n d _ (m' := 8458753)).2 (Only.refl _ _) .cores (by decide)
    rw [core_of_cores_eq hcores, markersHalted_shown, haltNoted_core (there_of_whole hwhole hn)]
  · rw [cstate_of_reg_eq (hreg hstat hstatEv), haltNoted_cstate]
  · rw [pc_of_reg_eq (hreg hpc hpcEv), pc_of_reg_eq (haltNoted_reg (coreStatus_at_ne_pc n).symm hpcHalted hpcHalt)]
  · rw [hreg ⟨by decide, by decide⟩ (by decide), haltNoted_halted hn]
  · rw [hreg ⟨by decide, by decide⟩ (by decide), haltNoted_halt hn]
  · rw [State.evt, heq, settle_reg (by decide)]
    exact report_bit (by decide) (by decide) (by decide)

/-- Clause 8 of `Obligations.CpJobs`: BREAK under a debugger. -/
theorem brk_halts {w : Nat} (hwhole : s.whole) (h : s.issues n 0x57 w) (hattached : s.flag DBG_CTRL_ATTACH = true) : Does (.brk n) s (fun t =>
    (t.core n).halted = true ∧ (t.core n).hcause = 5 ∧ (t.core n).hpc = s.pc n ∧ t.cstate n = cHalted ∧ t.pc n = s.pc n ∧
      (t.reg DBG_HALTED.base).toNat.testBit n = true ∧ t.evt DBG_EVENT 2) := by
  obtain ⟨hcore, hstate, hpc, hhalted, -, hevent⟩ := haltCore_shows (cause := 5) hwhole h.1
  simp only [Core.haltShown, Prod.mk.injEq] at hcore
  obtain ⟨hon, hcause, hat, -⟩ := hcore
  have hexec : exec (.brk n) s = .next (s.haltCore n 5) := by
    show execBreak n s = _
    rw [execBreak]
    refine issue_owns h ?_
    rw [if_pos hattached]
  exact Does.intro hexec ⟨hon, hcause, hat, hstate, hpc, hhalted, hevent⟩

/-- Clause 9 of `Obligations.CpJobs`: a core at a boundary at which it is to halt. -/
theorem coreHalt_halts (hn : n < 32) (hwhole : s.whole) (hdue : s.haltDue n = some cause) : Does (.coreHalt n) s (fun t =>
    (t.core n).halted = true ∧ (t.core n).hcause = cause ∧ (t.core n).was = s.cstate n ∧ t.cstate n = cHalted ∧ t.pc n = s.pc n ∧
      (t.reg DBG_HALTED.base).toNat.testBit n = true ∧ (t.reg DBG_HALT.base).toNat.testBit n = false) := by
  obtain ⟨hcore, hstate, hpc, hhalted, hhalt, -⟩ := haltCore_shows (cause := cause) hwhole hn
  simp only [Core.haltShown, Prod.mk.injEq] at hcore
  obtain ⟨hon, hcause, -, hwas⟩ := hcore
  have hexec : exec (.coreHalt n) s = .next (s.haltCore n cause) := by
    show execCoreHalt n s = _
    rw [execCoreHalt, onUnit, if_pos hn, hdue]
  exact Does.intro hexec ⟨hon, hcause, hwas, hstate, hpc, hhalted, hhalt⟩

/-- Clause 10 of `Obligations.CpJobs`: no halt is due. -/
theorem coreHalt_idles (hn : n < 32) (hnone : s.haltDue n = none) : exec (.coreHalt n) s = .next s := by
  show execCoreHalt n s = _
  rw [execCoreHalt, onUnit, if_pos hn, hnone]
end

/-! ### Starts by the host (R254) -/

theorem sparseGet_filter_of_out {α : Type} (d : Nat → α) (p : Nat → Bool) (l : List (Nat × α)) {a : Nat} (ha : p a = false) :
    sparseGet d (l.filter fun x => p x.1) a = d a := by
  induction l with
  | nil => rfl
  | cons x l ih =>
    by_cases hx : p x.1 = true
    · have hne : a ≠ x.1 := fun he => by
        rw [← he, ha] at hx
        cases hx
      rw [List.filter_cons_of_pos (p := fun x : Nat × α => p x.1) hx, sparseGet, if_neg hne, ih]
    · rw [List.filter_cons_of_neg (p := fun x : Nat × α => p x.1) hx, ih]

/-- A core as a job finds it: its registers, slots, queues and accumulators are clear. -/
def State.loaded (s : State) (n arg job group startA dlA : Nat) (inst : Option Nat) : State :=
  (s.accClear n).modCore n (fun c => { c with
    g := ((List.replicate 32 0).set 1 (arg % 2 ^ 32)).set 2 (job + 65536 * group),
    seed := 0, terr := 0, arg := arg % 2 ^ 32, startA := startA % 2 ^ 32, dlA := dlA % 2 ^ 32, cyc := 0, hot := 0, stall := false,
    wait := .none, slots := List.replicate 32 {}, movq := [], inst := inst, mtx := {}, vp := {}, out := {}, cells := [], bound := [],
    ocfg := [], cfg := {}, old := [] })

section
variable {s : State} {n src entry arg job group startA dlA : Nat} {inst : Option Nat}

theorem startJob_of_unstaged (hcommit : s.flag CORE_CTRL_COMMIT n = false) : s.startJob n src entry arg job group startA dlA inst =
    ((((((((s.loaded n arg job group startA dlA inst).setPc n entry).setCstate n cRun).setFld CORE_STATUS_SRC src n).setFld
      CORE_JOBCUR_JOB job n).setFld CORE_JOBCUR_GROUP group n).setFld CORE_OUTNAN_VALID 0 n).setFld MESH_TRK_INUSE 0 n).wdReload n := by
  unfold State.startJob
  rw [hcommit, if_neg Bool.false_ne_true]
  rfl

theorem startJob_src (hcommit : s.flag CORE_CTRL_COMMIT n = false) :
    (s.startJob n src entry arg job group startA dlA inst).fld CORE_STATUS_SRC n = src % 4 := by
  obtain ⟨hjob, hnan, htrk⟩ := coreStatus_ne n
  rw [startJob_of_unstaged hcommit, wdReload_fld, fld_setFld_ne htrk, fld_setFld_ne hnan, fld_setFld_ne hjob, fld_setFld_ne hjob,
    fld_setFld _ _ _ _ _ (by decide)]
  rfl
theorem startJob_job (hcommit : s.flag CORE_CTRL_COMMIT n = false) :
    (s.startJob n src entry arg job group startA dlA inst).fld CORE_JOBCUR_JOB n = job % 2 ^ 11 := by
  have hnan : CORE_JOBCUR.at n ≠ CORE_OUTNAN.at n := by
    simp only [Rg.at, CORE_JOBCUR, CORE_OUTNAN]
    omega
  have htrk : CORE_JOBCUR.at n ≠ MESH_TRK.at n := by
    simp only [Rg.at, CORE_JOBCUR, MESH_TRK]
    omega
  rw [startJob_of_unstaged hcommit, wdReload_fld, fld_setFld_ne htrk, fld_setFld_ne hnan, fld_setFld_disj (by decide) (by decide),
    fld_setFld _ _ _ _ _ (by decide)]
  rfl
theorem startJob_g (hn : n < s.cores.length) (hcommit : s.flag CORE_CTRL_COMMIT n = false) :
    ((s.startJob n src entry arg job group startA dlA inst).core n).g =
      ((List.replicate 32 0).set 1 (arg % 2 ^ 32)).set 2 (job + 65536 * group) := by
  have hthere : n < (s.accClear n).cores.length := by rw [accClear_cores]; exact hn
  rw [startJob_of_unstaged hcommit, State.wdReload, core_modCore_leaves Core.g (by exact fun _ => rfl), core_of_cores_eq (setFld_cores _ _ _ _ _),
    core_of_cores_eq (setFld_cores _ _ _ _ _),
    core_of_cores_eq (setFld_cores _ _ _ _ _), core_of_cores_eq (setFld_cores _ _ _ _ _), core_of_cores_eq (setFld_cores _ _ _ _ _), State.setCstate,
    core_of_cores_eq (setFld_cores _ _ _ _ _), core_of_cores_eq (setPc_cores _ _ _), State.loaded, core_modCore hthere]
/-- Beside registers and the core itself, a start clears the accumulators. -/
theorem startJob_leaves {β : Type} (p : State → β) (hreg : ∀ u a v, p (State.setReg u a v) = p u) (hcore : ∀ u m f, p (State.modCore u m f) = p u)
    (hcommit : s.flag CORE_CTRL_COMMIT n = false) : p (s.startJob n src entry arg job group startA dlA inst) = p (s.accClear n) := by
  have hfld (u : State) (f : Fld) (v i : Nat) : p (u.setFld f v i) = p u := hreg _ _ _
  rw [startJob_of_unstaged hcommit]
  simp only [State.wdReload, hcore, hfld, State.setCstate, State.setPc, State.loaded]
theorem startJob_acc (hcommit : s.flag CORE_CTRL_COMMIT n = false) :
    (s.startJob n src entry arg job group startA dlA inst).acc = (s.accClear n).acc := startJob_leaves State.acc setReg_acc modCore_acc hcommit
theorem startJob_data (hcommit : s.flag CORE_CTRL_COMMIT n = false) :
    (s.startJob n src entry arg job group startA dlA inst).data = s.data :=
  (startJob_leaves State.data setReg_data modCore_data hcommit).trans (accClear_data s n)
theorem accGet_accClear {t : State} (h : t.acc = (s.accClear n).acc) {i : Nat} (hi : i < 65536) : t.accGet n i = 0 := by
  have hout : decide (accAt n i < accAt n 0 ∨ accAt n 65536 ≤ accAt n i) = false := by
    refine decide_eq_false ?_
    unfold accAt
    omega
  rw [State.accGet, h, State.accClear, sparseGet_filter_of_out _ (fun a => decide (a < accAt n 0 ∨ accAt n 65536 ≤ a)) _ hout]
  rfl

theorem coreGo_of_reaches (hn : n < 32) (hreach : s.reaches .host (CORE_CTRL.at n)) :
    exec (.coreGo n) s = .next (s.hostStart n (4 * s.fld CORE_START_ENTRY_ENTRY n) (s.regN CORE_START_ARG n)).1 := by
  show execCoreGo n s = _
  rw [execCoreGo, onUnit, if_pos hn, reached_of_reaches hreach]

/-- Clause 11 of `Obligations.CpJobs`: a host start that is taken. -/
theorem coreGo_starts (hn : n < 32) (hwhole : s.whole) (hidle : s.cstate n = cIdle) (hfree : s.namesCore n = false)
    (hcool : s.dieCrit (coreDie n) = false) (hcommit : s.flag CORE_CTRL_COMMIT n = false) (hreach : s.reaches .host (CORE_CTRL.at n)) :
    Does (.coreGo n) s (fun t => t.cstate n = cRun ∧ t.pc n = 4 * s.fld CORE_START_ENTRY_ENTRY n % 2 ^ 16 ∧ t.fld CORE_STATUS_SRC n = 2 ∧
      t.fld CORE_JOBCUR_JOB n = 0x7FF ∧ (t.core n).g = ((List.replicate 32 0).set 1 (s.regN CORE_START_ARG n)).set 2 0xFFFF07FF ∧
      (∀ i < 65536, t.accGet n i = 0) ∧ t.data = s.data) := by
  have hthere := there_of_whole hwhole hn
  have hnot : ¬ (s.cstate n ≠ cIdle ∨ s.namesCore n = true ∨ s.dieCrit (coreDie n) = true) := by
    rw [hidle, hfree, hcool]
    decide
  have hexec := coreGo_of_reaches hn hreach
  rw [State.hostStart, if_neg hnot] at hexec
  obtain ⟨hstate, hpc, -⟩ := startJob_starts hthere hcommit 2 (4 * s.fld CORE_START_ENTRY_ENTRY n) (s.regN CORE_START_ARG n) hostJob hostGroup
    s.absStitch (2 ^ 32 - 1) none
  refine Does.intro hexec ⟨hstate, hpc, startJob_src hcommit, startJob_job hcommit, ?_, fun i hi => accGet_accClear (startJob_acc hcommit) hi,
    startJob_data hcommit⟩
  rw [startJob_g hthere hcommit, Nat.mod_eq_of_lt (regN_lt _ _ _ _)]
  rfl

/-- Clause 12 of `Obligations.CpJobs`: a host start that is refused. -/
theorem coreGo_refused (hn : n < 32) (hbar : s.cstate n ≠ cIdle ∨ s.namesCore n = true ∨ s.dieCrit (coreDie n) = true)
    (hreach : s.reaches .host (CORE_CTRL.at n)) : Does (.coreGo n) s (fun t =>
      t.cstate n = s.cstate n ∧ t.pc n = s.pc n ∧ t.evtAt CORE_EVENT n 3 ∧ t.cores = s.cores) := by
  have hexec := coreGo_of_reaches hn hreach
  rw [State.hostStart, if_pos hbar] at hexec
  refine Does.intro hexec ⟨cstate_of_reg_eq (coreReport_reg hn (ofDebugOrCore_core hn ⟨by decide, by decide, rfl⟩) ?_),
    pc_of_reg_eq (coreReport_reg hn (ofDebugOrCore_core hn ⟨by decide, by decide, rfl⟩) ?_), coreReport_evt hn (by decide), coreReport_cores _ _ _ _⟩
  · simp only [Rg.at, CORE_STATUS, CORE_EVENT]
    omega
  · simp only [Rg.at, CORE_PC, CORE_EVENT]
    omega
end

/-! ### Aborts (R255) -/

section
variable {s : State} {n : Nat}

/-- An aborted job leaves a core that is not halted. -/
theorem loseHalt_halted (s : State) (n st : Nat) : ((s.loseHalt n st).core n).halted = false := by
  unfold State.loseHalt
  split
  · have hcores (u : State) : (u.dbgReport 4 4 n st).cores = u.cores :=
      (State.dbgReport_only u 4 4 n st u (m' := 8458753)).2 (Only.refl _ _) .cores (by decide)
    rw [core_of_cores_eq (hcores _), core_of_cores_eq (setReg_cores _ _ _)]
    exact core_modCore_sets Core.halted rfl (by exact fun _ => rfl) _ _
  next hrun => simpa using hrun

/-- What an abort of a job shows, whatever its effects elsewhere (R255). -/
theorem killJob_aborts (hn : n < 32) : (s.killJob n 4 0 cIdle 0 false).cstate n = cIdle ∧
    (s.killJob n 4 0 cIdle 0 false).reg (CORE_JOBST.at n) = BitVec.ofNat 32 4 ∧ (s.killJob n 4 0 cIdle 0 false).evtAt CORE_EVENT n 2 ∧
    ((s.killJob n 4 0 cIdle 0 false).core n).inst = none ∧ ((s.killJob n 4 0 cIdle 0 false).core n).halted = false := by
  have hstat : ofDebugOrCore (CORE_STATUS.at n) := ofDebugOrCore_core hn ⟨by decide, by decide, rfl⟩
  have hjobst : ofDebugOrCore (CORE_JOBST.at n) := ofDebugOrCore_core hn ⟨by decide, by decide, rfl⟩
  have hevent : ofDebugOrCore (CORE_EVENT.at n) := ofDebugOrCore_core hn ⟨by decide, by decide, rfl⟩
  have hjobstNe : CORE_JOBST.at n ≠ CORE_STATUS.at n := by
    simp only [Rg.at, CORE_JOBST, CORE_STATUS]
    omega
  have heventNe : CORE_EVENT.at n ≠ CORE_STATUS.at n := by
    simp only [Rg.at, CORE_EVENT, CORE_STATUS]
    omega
  obtain ⟨u, f, hcores, hevt, hrecord, hclosed⟩ := closeJob_aborted (((s.countWait n).abortEffects n 2).loseHalt n 4) hn 0 0 cIdle
  have hkill : s.killJob n 4 0 cIdle 0 false = ((u.jobCleared n cIdle).settle f).tellPat n 4 0 0 ((s.countWait n).core n).inst
      (min ((s.countWait n).core n).cyc (2 ^ 32 - 1)) false := by
    rw [← hclosed, State.killJob]
    rfl
  have hreg {a : Nat} (ha : ofDebugOrCore a) : (s.killJob n 4 0 cIdle 0 false).reg a = (u.jobCleared n cIdle).reg a := by
    rw [hkill, tellPat_spared _ (by decide) _ _ _ _ _ _ a ha, settle_reg ha.offCmd]
  have hcore : (s.killJob n 4 0 cIdle 0 false).core n = (u.jobCleared n cIdle).core n := by
    rw [hkill, core_of_cores_eq (tellPat_cores _ _ _ _ _ _ _ _), core_of_cores_eq (settle_cores _ _)]
  refine ⟨?_, ?_, ?_, ?_, ?_⟩
  · rw [cstate_of_reg_eq (hreg hstat), jobCleared_cstate (by decide)]
  · rw [hreg hjobst, jobCleared_reg hjobstNe, hrecord]
  · rw [State.evtAt, hreg hevent, jobCleared_reg heventNe]
    exact hevt
  · rw [hcore, jobCleared_inst]
  · rw [hcore, jobCleared_halted, core_of_cores_eq hcores, loseHalt_halted]

theorem coreCtrlAbort_of_reaches (hn : n < 32) (hreach : s.reaches .host (CORE_CTRL.at n)) : exec (.coreCtrlAbort n) s = .next (s.abortJob n) := by
  show execCoreCtrlAbort n s = _
  rw [execCoreCtrlAbort, onUnit, if_pos hn, reached_of_reaches hreach]

/-- Clause 13 of `Obligations.CpJobs`: the host aborts a job. -/
theorem coreCtrlAbort_aborts (hn : n < 32) (hbusy : s.busy n = true) (hreach : s.reaches .host (CORE_CTRL.at n)) :
    Does (.coreCtrlAbort n) s (fun t => t.cstate n = cIdle ∧ t.fld CORE_JOBST_STATUS n = 4 ∧ t.fld CORE_JOBST_EXC n = 0 ∧ t.evtAt CORE_EVENT n 2 ∧
      (t.core n).inst = none ∧ (t.core n).halted = false) := by
  obtain ⟨hstate, hrecord, hevent, hinst, hrun⟩ := killJob_aborts (s := s) hn
  have hexec : exec (.coreCtrlAbort n) s = .next (s.killJob n 4 0 cIdle 0 false) := by
    rw [coreCtrlAbort_of_reaches hn hreach, State.abortJob, if_pos hbusy]
  have hfld (f : Fld) (hf : f.rg = CORE_JOBST) : (s.killJob n 4 0 cIdle 0 false).fld f n = bits (BitVec.ofNat 32 4) f.lo f.w := by
    rw [State.fld, hf, hrecord]
  exact Does.intro hexec ⟨hstate, hfld CORE_JOBST_STATUS rfl, hfld CORE_JOBST_EXC rfl, hevent, hinst, hrun⟩

/-- Clause 14 of `Obligations.CpJobs`: there is no job to abort. -/
theorem coreCtrlAbort_idles (hn : n < 32) (hidle : s.busy n = false) (hreach : s.reaches .host (CORE_CTRL.at n)) :
    exec (.coreCtrlAbort n) s = .next s := by
  rw [coreCtrlAbort_of_reaches hn hreach, State.abortJob, hidle, if_neg Bool.false_ne_true]
end

/-- Settles O24: one lemma for each way in which a job begins, sleeps, halts or ends. -/
theorem cpJobs : Obligations.CpJobs := by
  unfold Obligations.CpJobs
  refine ⟨?_, ?_, ?_, ?_, ?_, ?_, ?_, ?_, ?_, ?_, ?_, ?_, ?_, ?_⟩
  · exact fun s n w hwhole h huser => done_waits hwhole h huser
  · exact fun s n hn u huser _ hrun hwait hfenced hinst hleft => jobComplete_ends hn huser hrun hwait hfenced hinst hleft
  · exact fun s n hn u hrun hwait hopen => jobComplete_waits hn hrun hwait hopen
  · exact fun s n w hwhole h hx hb hcome => wstitch_passes hwhole h hx hb hcome
  · exact fun s n w hwhole h hx hb hahead hnear => wstitch_sleeps hwhole h hx hb hahead hnear
  · exact fun s n hn x hwhole hrun hwait hcome => wstitchWake_wakes hn hwhole hrun hwait hcome
  · exact fun s n hn x hwait hahead => wstitchWake_waits hn hwait hahead
  · exact fun s n w hwhole h hattached => brk_halts hwhole h hattached
  · exact fun s n hn c hwhole hdue => coreHalt_halts hn hwhole hdue
  · exact fun s n hn hnone => coreHalt_idles hn hnone
  · exact fun s n hn hwhole hidle hfree hcool hcommit hreach => coreGo_starts hn hwhole hidle hfree hcool hcommit hreach
  · exact fun s n hn hbar hreach => coreGo_refused hn hbar hreach
  · exact fun s n hn _ hbusy _ hreach => coreCtrlAbort_aborts hn hbusy hreach
  · exact fun s n hn hidle hreach => coreCtrlAbort_idles hn hidle hreach

end Sys2Proof.Machine
end

section
/-! Proofs/RingCommands.lean: a command at the front of a ring, from its start to its completion entry (R345, R350, R351, R354): what a started command
leaves of the machine, what its own work may leave untouched for it to end there, and what the end leaves. -/

namespace Sys2Proof.Machine
open Sys2Proof Sys2Proof.Machine.Reg

-- As in the files of Laws/: proofs elaborated side by side take the joined text past its memory limit.
set_option Elab.async false

/-! ### Bytes in memory -/

theorem toBytes_lt (n v : Nat) : ∀ b ∈ toBytes n v, b < 256 := by
  induction n generalizing v with
  | zero => exact fun _ h => nomatch h
  | succ n ih =>
    intro b hb
    rw [toBytes, List.mem_cons] at hb
    rcases hb with rfl | hb
    · exact Nat.mod_lt _ (by decide)
    · exact ih _ b hb
theorem length_fitBytes (n : Nat) (bs : List Nat) : (fitBytes n bs).length = n := by simp [fitBytes]
theorem fitBytes_lt {n : Nat} {bs : List Nat} (h : ∀ b ∈ bs, b < 256) : ∀ b ∈ fitBytes n bs, b < 256 := by
  intro b hb
  rcases List.mem_append.1 (List.mem_of_mem_take hb) with hb | hb
  · exact h b hb
  · rw [List.eq_of_mem_replicate hb]
    decide
/-- Bytes just written are read back. -/
theorem memBytes_memPut {d : Byte} {m : List Host.Cell} {a : Nat} {bs : List Nat} (h : ∀ b ∈ bs, b < 256) :
    memBytes d (memPut d m a bs) a bs.length = bs := by
  refine List.ext_getElem (by simp [memBytes]) fun i hi hlen => ?_
  have hin : a ≤ a + i ∧ a + i < a + bs.length := by omega
  have hbyte : bs[i] < 256 := h _ (List.getElem_mem hlen)
  simp only [memBytes, List.getElem_map, List.getElem_range]
  rw [memGet_memPut, if_pos hin, Nat.add_sub_cancel_left, BitVec.toNat_ofNat, List.getD_eq_getElem _ _ hlen]
  exact Nat.mod_eq_of_lt hbyte

/-! ### What a completion depends on -/

/-- The address is of the MSI-X table or of the CMD block. -/
def ofRings (a : Nat) : Prop := 0x8000 ≤ a ∧ a < 0x9000 ∨ 0x10000 ≤ a ∧ a < 0x20000
/-- Whether requests, and messages, may be issued (R340). -/
def State.gate (s : State) : Bool × Bool × Bool := (s.hif.bme, s.hif.d3hot, s.hif.funcMask)

theorem ofRings.quiet {a : Nat} (h : ofRings a) : Machine.quiet a := by
  rw [ofRings] at h
  rw [quiet_def]
  omega
theorem not_ofRings_of_high {a : Nat} (h : 0x20000 ≤ a) : ¬ ofRings a := by
  rw [ofRings]
  omega
theorem dmaOk_of_gate_eq {s t : State} (h : t.gate = s.gate) : t.dmaOk = s.dmaOk := by
  simp only [State.gate, Prod.mk.injEq] at h
  obtain ⟨hbme, hhot, -⟩ := h
  rw [State.dmaOk, hbme, hhot, State.dmaOk]
theorem msixMasked_of_eq {s t : State} (hreg : t.reg 0x800C = s.reg 0x800C) (h : t.gate = s.gate) : t.msixMasked 0 = s.msixMasked 0 := by
  simp only [State.gate, Prod.mk.injEq] at h
  obtain ⟨hbme, hhot, hmask⟩ := h
  simp only [State.msixMasked, Nat.mul_zero, Nat.add_zero, Nat.reduceAdd, hreg, hbme, hhot, hmask]

theorem msix_gate (s : State) (v : Nat) : (s.msix v).gate = s.gate := by
  unfold State.msix
  split <;> rfl
theorem event_gate (s : State) (ev en b v : Nat) : (s.event ev en b v).gate = s.gate := by
  unfold State.event
  dsimp only
  split
  · rfl
  · split
    · exact msix_gate _ _
    · rfl
theorem intake_gate (s : State) (r : JRec) : (s.intake r).gate = s.gate := by
  have hlost (sev : Nat) : (s.jrnLost sev).gate = s.gate := event_gate _ _ _ _ _
  unfold State.intake
  split
  · exact hlost _
  · split
    · rfl
    · exact hlost _

/-- The rings, the registers they use and the gates are the same. -/
structure RingsKept (s t : State) : Prop where
  regs : ∀ a, ofRings a → t.reg a = s.reg a
  rings : t.rings = s.rings
  gate : t.gate = s.gate

namespace RingsKept

section
variable {s t u : State}

theorem refl (s : State) : RingsKept s s := ⟨fun _ _ => rfl, rfl, rfl⟩
theorem trans (h : RingsKept s t) (g : RingsKept t u) : RingsKept s u :=
  ⟨fun a ha => (g.regs a ha).trans (h.regs a ha), g.rings.trans h.rings, g.gate.trans h.gate⟩
theorem of_eq (hregs : t.regs = s.regs) (hrings : t.rings = s.rings) (hhif : t.hif = s.hif) : RingsKept s t :=
  ⟨fun a _ => reg_of_regs_eq hregs a, hrings, by rw [State.gate, hhif, State.gate]⟩
theorem setReg (s : State) {a : Nat} (v : Word) (ha : 0x20000 ≤ a) : RingsKept s (s.setReg a v) :=
  ⟨fun _ hb => reg_setReg_ne fun he => not_ofRings_of_high ha (he ▸ hb), setReg_rings s a v, by rw [State.gate, setReg_hif, State.gate]⟩
theorem setFld (s : State) (f : Fld) (v i j : Nat) (ha : 0x20000 ≤ f.rg.at i j) : RingsKept s (s.setFld f v i j) := setReg s _ ha
theorem setRegN (s : State) (r : Rg) (v i j : Nat) (ha : 0x20000 ≤ r.at i j) : RingsKept s (s.setRegN r v i j) := setReg s _ ha
theorem modPat (s : State) (f : Pat → Pat) : RingsKept s (s.modPat f) := of_eq rfl rfl rfl
theorem modCore (s : State) (n : Nat) (f : Core → Core) : RingsKept s (s.modCore n f) := of_eq (modCore_regs s n f) (modCore_rings s n f) (modCore_hif s n f)
theorem event (s : State) {ev en b v : Nat} (hv : v < 64) (hev : 0x20000 ≤ ev) : RingsKept s (s.event ev en b v) :=
  ⟨fun _ ha => event_reg hv ha.quiet fun he => not_ofRings_of_high hev (he ▸ ha),
    (State.event_only s ev en b v s (m' := 4609)).2 (Only.refl _ s) .rings (by decide), event_gate _ _ _ _ _⟩
theorem report (s : State) {ev en b v code src sev data : Nat} (hv : v < 64) (hev : 0x20000 ≤ ev) :
    RingsKept s (s.report ev en b v code src sev data) :=
  (event s hv hev).trans ⟨fun _ ha => journal_reg ha.quiet,
    (State.intake_only _ _ _ (m' := 8458753)).2 (Only.refl _ _) .rings (by decide), intake_gate _ _⟩
theorem ite {c : Prop} [Decidable c] (h : RingsKept s t) (g : RingsKept s u) : RingsKept s (if c then t else u) := by
  split
  · exact h
  · exact g
end

end RingsKept

/-! ### Waits that go on -/

/-- Whatever runs on a ring waits for `w`. -/
def State.onlyWait (s : State) (w : Wait) : Prop := ∀ j c, (s.ring j).run = some c → c.wait = w

section
variable {s : State} {w : Wait}

theorem endRingFlush_of_onlyWait (h : s.onlyWait w) (hw : ∀ m, w ≠ .ringFlush m) : s.endRingFlush = s := by
  refine List.foldl_fixed' (fun k => ?_) _
  split
  next it m hrun => exact absurd (h k _ hrun).symm (hw m)
  next => rfl
/-- No command that waits for something else ends where `f` settles nothing for it. -/
theorem settle_of_onlyWait {f : State → Wait → Option (Nat × List Nat)} (h : s.onlyWait w) (hw : ∀ m, w ≠ .ringFlush m) (hf : f s w = none) :
    s.settle f = s := by
  have hstep : (List.range 4).foldl (fun s k =>
      match (s.ring k).run with
      | some c => match f s c.wait with
        | some (st, r) => s.endCmd k st r
        | none => s
      | none => s) s = s := by
    have hlist (l : List Nat) : l.foldl (fun s k =>
        match (s.ring k).run with
        | some c => match f s c.wait with
          | some (st, r) => s.endCmd k st r
          | none => s
        | none => s) s = s := by
      induction l with
      | nil => rfl
      | cons k l ih =>
        rw [List.foldl_cons]
        cases hrun : (s.ring k).run with
        | none => exact ih
        | some c =>
          dsimp only
          rw [h k c hrun, hf]
          exact ih
    exact hlist _
  exact (congrArg State.endRingFlush hstep).trans (endRingFlush_of_onlyWait h hw)
end

/-! ### The start (R345, R354) -/

section
variable {s : State} {k : Nat} {it : Item}

/-- The Hub Controller notes the ring it serves. -/
def State.turned (s : State) (k : Nat) (it : Item) : State :=
  if fwOpcodes.contains it.opc ∧ k ≠ 0 then { s with hif := { s.hif with turn := k } } else s
/-- The item at the front of ring `k` has started. -/
def State.started (s : State) (k : Nat) (it : Item) : State := (s.turned k it).begin k it

theorem turned_only (s : State) (k : Nat) (it : Item) : Only 4096 s (s.turned k it) := by
  unfold State.turned
  split
  · exact (only_hif (by decide)).2 (Only.refl _ s)
  · exact Only.refl _ s
theorem turned_gate (s : State) (k : Nat) (it : Item) : (s.turned k it).gate = s.gate := by
  unfold State.turned
  split <;> rfl
theorem turned_rings (s : State) (k : Nat) (it : Item) : (s.turned k it).rings = s.rings := turned_only s k it .rings (by decide)
theorem turned_regs (s : State) (k : Nat) (it : Item) : (s.turned k it).regs = s.regs := turned_only s k it .regs (by decide)

/-- The state as the command finds it has the registers of before but for its ring's CMD_STATE, and the parts of before but for the endpoint and the rings. -/
theorem started_reg {a : Nat} (ha : a ≠ CMD_STATE.at k) : (s.started k it).reg a = s.reg a := by
  rw [State.started, State.begin, reg_setFld_ne ha, reg_of_regs_eq (setRing_regs _ _ _), reg_of_regs_eq (turned_regs s k it)]
theorem started_only (s : State) (k : Nat) (it : Item) : Only 12289 s (s.started k it) :=
  (State.begin_only _ k it s (m' := 12289)).2 (Only.mono (by decide) (turned_only s k it))

theorem startable_of_offers (h : s.offers k it) : s.startable k = some it := by
  obtain ⟨-, -, htaken, -, -, hidle, hstage, hroom, -⟩ := h
  have hnot : ¬ ((s.ring k).run.isSome = true ∨ s.boStage ≠ 0 ∨ ¬ s.cplRoom k = true) := by
    rw [hidle k, hstage, hroom]
    decide
  have hnone : s.rings.any (fun r => r.run.isSome) = false := by
    refine List.any_eq_false.2 fun r hr => ?_
    obtain ⟨j, hj, rfl⟩ := List.getElem_of_mem hr
    have hrun := hidle j
    rw [State.ring, List.getD_eq_getElem _ _ hj] at hrun
    rw [hrun]
    exact Bool.false_ne_true
  rw [State.startable, if_neg hnot, htaken]
  dsimp only
  rw [hnone, Bool.and_false, if_neg Bool.false_ne_true]

theorem serve_of_offers (h : s.offers k it) (hlisted : opcodes.contains it.opc = true) : s.serve k = s := by
  have hone : (s.ring k).taken.length = 1 := by
    obtain ⟨-, -, htaken, -⟩ := h
    rw [htaken]
    rfl
  rw [State.serve, hone, State.endUnknown, startable_of_offers h]
  dsimp only
  rw [if_pos hlisted]
theorem serve_of_empty (h : (s.ring k).taken = []) : s.serve k = s := by
  rw [State.serve, h]
  rfl

theorem dieUnreachable_turned (d : Nat) : (s.turned k it).dieUnreachable d = s.dieUnreachable d := by
  have hfld (f : Fld) (i : Nat) : (s.turned k it).fld f i = s.fld f i := fld_of_regs_eq (turned_regs s k it) f i
  rw [State.dieUnreachable, State.dieDropped, hfld, hfld, State.dieUnreachable, State.dieDropped]

/-- An item that stands at the front of its ring, and breaks no rule of its opcode, is carried out. -/
theorem command_of_offers {c : Opc} (h : s.offers k it) (hopc : it.opc = c.opc) (hlisted : opcodes.contains it.opc = true) (hlen : c.len it.len = true)
    (harg : c.arg it = true) (hdies : (c.dies it).any (fun d => s.dieUnreachable d) = false) :
    s.command c k = (c.run k it (s.started k it)).serve k := by
  have hserve := serve_of_offers h hlisted
  have hstart := startable_of_offers h
  obtain ⟨-, -, -, -, -, -, -, -, hdma, -, hlink, -, hturn⟩ := h
  have hgo : it.opc = c.opc ∧ (s.dmaOk = true ∨ ¬ c.dma = true) ∧ (¬ fwOpcodes.contains it.opc = true ∨ s.hubTurn k = true) := by
    refine ⟨hopc, .inl hdma, ?_⟩
    by_cases hfw : fwOpcodes.contains it.opc = true
    · exact .inr (hturn hfw)
    · exact .inl hfw
  have hnolink : ¬ (it.link = true ∧ ((s.turned k it).ring k).lastSt ≠ 0) := by
    rw [hlink]
    exact fun hboth => Bool.false_ne_true hboth.1
  have hdead : ¬ (c.dies it).any (fun d => (s.turned k it).dieUnreachable d) = true := by
    simp only [dieUnreachable_turned]
    rw [hdies]
    exact Bool.false_ne_true
  have hitem : (s.turned k it).startItem c k it = c.run k it (s.started k it) := by
    rw [State.startItem]
    rw [if_neg hnolink, if_neg (not_not.2 hlen), if_neg (not_not.2 harg), if_neg hdead, State.started]
  rw [State.command, hserve]
  dsimp only
  rw [hstart]
  dsimp only
  rw [if_pos hgo, ← State.turned, hitem]
end

/-! ### A command under way -/

/-- On ring `k`, and on no other, a command runs: that of item `it`, which waits for `w`. -/
structure Holds (k : Nat) (it : Item) (w : Wait) (u : State) : Prop where
  inRange : k < 4
  run : (u.ring k).run = some ⟨it, w⟩
  taken : (u.ring k).taken = []
  mute : (u.ring k).mute = false
  flush : (u.ring k).flush = false
  others : ∀ j, j ≠ k → (u.ring j).run = none
  here : k < u.rings.length

/-- Ring `k`, which offered `it` in `s`, carries it out in `u`, where it waits for `w`. -/
structure Carries (k : Nat) (it : Item) (w : Wait) (s u : State) : Prop extends Holds k it w u where
  regs : ∀ a, ofRings a → a ≠ CMD_STATE.at k → u.reg a = s.reg a
  busy : u.fld CMD_STATE_BUSY k = 1
  gate : u.gate = s.gate

theorem ring_setRing {s : State} {k : Nat} (h : k < s.rings.length) (r : Ring) : (s.setRing k r).ring k = r := by
  simp [State.ring, State.setRing, List.getD_eq_getElem?_getD, h]
theorem ring_setRing_ne {s : State} {j k : Nat} (h : j ≠ k) (r : Ring) : (s.setRing k r).ring j = s.ring j := by
  simp [State.ring, State.setRing, List.getD_eq_getElem?_getD, Ne.symm h]
theorem ring_of_rings_eq {s t : State} (h : t.rings = s.rings) (j : Nat) : t.ring j = s.ring j := by rw [State.ring, h, State.ring]
theorem cmdState_at (k : Nat) : CMD_STATE.at k = 0x10104 + 0x40 * k := rfl

theorem started_carries {s : State} {k : Nat} {it : Item} (h : s.offers k it) : Carries k it .running s (s.started k it) := by
  obtain ⟨hk, hwhole, htaken, hmute, hflush, hidle, -⟩ := h
  have hfour : s.rings.length = 4 := by
    simp only [State.whole, State.sizes, List.cons.injEq] at hwhole
    exact hwhole.1
  have hin : k < (s.turned k it).rings.length := by
    rw [turned_rings, hfour]
    exact hk
  have hold (j : Nat) : (s.turned k it).ring j = s.ring j := ring_of_rings_eq (turned_rings s k it) j
  have hrings : (s.started k it).rings = ((s.turned k it).setRing k { s.ring k with taken := [], run := some ⟨it, .running⟩ }).rings := by
    rw [State.started, State.begin, setFld_rings, hold, htaken, List.tail_cons]
  have hring : (s.started k it).ring k = { s.ring k with taken := [], run := some ⟨it, .running⟩ } :=
    (ring_of_rings_eq hrings k).trans (ring_setRing hin _)
  refine ⟨⟨hk, by rw [hring], by rw [hring], by rw [hring]; exact hmute, by rw [hring]; exact hflush, fun j hj => ?_, ?_⟩,
    fun a _ ha => started_reg ha, ?_, ?_⟩
  · rw [ring_of_rings_eq hrings, ring_setRing_ne hj, hold, hidle]
  · rw [hrings, setRing_rings, List.length_set]
    exact hin
  · rw [State.started, State.begin, fld_setFld _ _ _ _ _ (by decide)]
    rfl
  · rw [State.gate, State.started, State.begin, setFld_hif, setRing_hif, ← State.gate, turned_gate]

namespace Holds

section
variable {u v : State} {k : Nat} {it : Item} {w : Wait}

/-- What leaves the rings as they are leaves the command running. -/
theorem of_rings (h : Holds k it w u) (g : v.rings = u.rings) : Holds k it w v := by
  have hring := ring_of_rings_eq g
  exact ⟨h.inRange, (hring k).symm ▸ h.run, (hring k).symm ▸ h.taken, (hring k).symm ▸ h.mute, (hring k).symm ▸ h.flush,
    fun j hj => (hring j).symm ▸ h.others j hj, g.symm ▸ h.here⟩
theorem setWait_eq (h : Holds k it w u) (w' : Wait) : u.setWait k w' = u.setRing k { u.ring k with run := some ⟨it, w'⟩ } := by rw [State.setWait, h.run]
theorem setWait (h : Holds k it w u) (w' : Wait) : Holds k it w' (u.setWait k w') := by
  rw [h.setWait_eq]
  have hring : (u.setRing k { u.ring k with run := some ⟨it, w'⟩ }).ring k = _ := ring_setRing h.here _
  refine ⟨h.inRange, by rw [hring], by rw [hring]; exact h.taken, by rw [hring]; exact h.mute, by rw [hring]; exact h.flush, fun j hj => ?_, ?_⟩
  · rw [ring_setRing_ne hj, h.others j hj]
  · rw [setRing_rings, List.length_set]
    exact h.here
theorem onlyWait (h : Holds k it w u) : u.onlyWait w := fun j c hrun => by
  by_cases hj : j = k
  · rw [hj, h.run] at hrun
    exact congrArg RunCmd.wait (Option.some.inj hrun).symm
  · rw [h.others j hj] at hrun
    cases hrun
theorem serve (h : Holds k it w u) : u.serve k = u := serve_of_empty h.taken
end

end Holds

namespace Carries

section
variable {s u v : State} {k : Nat} {it : Item} {w : Wait}

/-- What leaves the rings and their registers as they are leaves the command under way. -/
theorem step (h : Carries k it w s u) (g : RingsKept u v) : Carries k it w s v := by
  have hstate : ofRings (CMD_STATE_BUSY.rg.at k) := .inr (by
    have hk := h.inRange
    rw [show CMD_STATE_BUSY.rg.at k = _ from cmdState_at k]
    omega)
  exact ⟨h.toHolds.of_rings g.rings, fun a ha hne => (g.regs a ha).trans (h.regs a ha hne), (fld_of_reg_eq (g.regs _ hstate)).trans h.busy,
    g.gate.trans h.gate⟩

theorem setWait (h : Carries k it w s u) (w' : Wait) : Carries k it w' s (u.setWait k w') := by
  refine ⟨h.toHolds.setWait w', fun a ha hne => ?_, ?_, ?_⟩
  · rw [h.toHolds.setWait_eq, reg_of_regs_eq (setRing_regs _ _ _), h.regs a ha hne]
  · rw [h.toHolds.setWait_eq, fld_of_regs_eq (setRing_regs _ _ _), h.busy]
  · rw [State.gate, h.toHolds.setWait_eq, setRing_hif, ← State.gate, h.gate]
theorem waits (h : Carries k it w s u) : Waits k it w u := ⟨h.run, h.taken, h.busy⟩
end

end Carries

/-! ### The end (R350, R351) -/

/-- The command of ring `k` has ended, and its completion is still to be written. -/
def State.freed (u : State) (k st : Nat) : State := (u.setRing k { u.ring k with run := none, lastSt := st, mute := false }).setFld CMD_STATE_BUSY 0 k

section
variable {s : State} {k tag seq st opc : Nat} {r : List Nat}

theorem msix_host_of_masked {v : Nat} (h : s.msixMasked v = true) : (s.msix v).host = s.host := by
  rw [State.msix, if_pos h]
  rfl

theorem writeCpl_rings : (s.writeCpl k tag seq st opc r).rings = s.rings :=
  (State.writeCpl_only s k tag seq st opc r s (m' := 4609)).2 (Only.refl _ s) .rings (by decide)
theorem cplSlot_ne {a : Nat} (k : Nat) (ha : a < 0x10128 + 0x40 * k ∨ 0x10128 + 0x40 * k < a) : a ≠ CMD_CPROD_CPROD.rg.at k := by
  rw [show CMD_CPROD_CPROD.rg.at k = 0x10128 + 0x40 * k from rfl]
  omega
theorem writeCpl_busy (hk : k < 4) : (s.writeCpl k tag seq st opc r).fld CMD_STATE_BUSY k = s.fld CMD_STATE_BUSY k := by
  have hat : CMD_STATE_BUSY.rg.at k = 0x10104 + 0x40 * k := rfl
  have hquiet : quiet (CMD_STATE_BUSY.rg.at k) := (quiet_def _).2 (by omega)
  refine fld_of_reg_eq ?_
  unfold State.writeCpl
  dsimp only
  split
  · rw [msix_reg (by decide) hquiet, reg_setFld_ne (cplSlot_ne k (by omega))]
    rfl
  · rw [reg_setFld_ne (cplSlot_ne k (by omega))]
    rfl
theorem writeCpl_cprod (_ : k < 4) : (s.writeCpl k tag seq st opc r).fld CMD_CPROD_CPROD k = (s.fld CMD_CPROD_CPROD k + 1) % 65536 := by
  have hat : CMD_CPROD_CPROD.rg.at k = 0x10128 + 0x40 * k := rfl
  have hquiet : quiet (CMD_CPROD_CPROD.rg.at k) := (quiet_def _).2 (by omega)
  unfold State.writeCpl
  dsimp only
  split
  · rw [fld_of_reg_eq (msix_reg (by decide) hquiet), fld_setFld _ _ _ _ _ (by decide)]
    rfl
  · rw [fld_setFld _ _ _ _ _ (by decide)]
    rfl

/-- The bytes of a completion entry (R350). -/
def cplEntry (tag seq st opc cp n : Nat) (r : List Nat) : List Nat :=
  toBytes 2 tag ++ toBytes 2 seq ++ toBytes 2 st ++ toBytes 2 (opc + 2 ^ 15 * ringPhase cp n) ++ fitBytes 24 (r.flatMap (toBytes 4))

theorem length_cplEntry (tag seq st opc cp n : Nat) (r : List Nat) : (cplEntry tag seq st opc cp n r).length = 32 := by
  simp only [cplEntry, List.length_append, length_toBytes, length_fitBytes]
theorem cplEntry_lt (tag seq st opc cp n : Nat) (r : List Nat) : ∀ b ∈ cplEntry tag seq st opc cp n r, b < 256 := by
  have hreply : ∀ b ∈ r.flatMap (toBytes 4), b < 256 := fun b hb => by
    obtain ⟨x, -, hx⟩ := List.mem_flatMap.1 hb
    exact toBytes_lt 4 x b hx
  intro b hb
  simp only [cplEntry, List.mem_append] at hb
  rcases hb with (((hb | hb) | hb) | hb) | hb
  · exact toBytes_lt _ _ b hb
  · exact toBytes_lt _ _ b hb
  · exact toBytes_lt _ _ b hb
  · exact toBytes_lt _ _ b hb
  · exact fitBytes_lt hreply b hb

theorem writeCpl_host (hmasked : s.msixMasked 0 = true) :
    (s.writeCpl k tag seq st opc r).hostBytes (s.regN CMD_CBASE_LO k + 2 ^ 32 * s.regN CMD_CBASE_HI k +
      32 * (s.fld CMD_CPROD_CPROD k % s.ringSize k)) 32 = cplEntry tag seq st opc (s.fld CMD_CPROD_CPROD k) (s.ringSize k) r := by
  have hput (a : Nat) : memBytes dflt0 (memPut dflt0 s.host a (cplEntry tag seq st opc (s.fld CMD_CPROD_CPROD k) (s.ringSize k) r)) a 32 =
      cplEntry tag seq st opc (s.fld CMD_CPROD_CPROD k) (s.ringSize k) r := by
    have h := memBytes_memPut (d := dflt0) (m := s.host) (a := a) (cplEntry_lt tag seq st opc (s.fld CMD_CPROD_CPROD k) (s.ringSize k) r)
    rwa [length_cplEntry] at h
  have hmsg (t : State) (hregs : t.regs = s.regs) (hhif : t.hif = s.hif) (v : Nat) : ((t.setFld CMD_CPROD_CPROD v k).msix 0).host = t.host := by
    rw [msix_host_of_masked, setFld_host]
    rw [msixMasked_of_eq (s := s), hmasked]
    · rw [reg_setFld_ne (cplSlot_ne k (by omega)), reg_of_regs_eq hregs]
    · rw [State.gate, setFld_hif, hhif, State.gate]
  unfold State.writeCpl
  dsimp only
  split
  · rw [State.hostBytes, hmsg (s.putHost _ _) rfl rfl]
    exact hput _
  · rw [State.hostBytes, setFld_host]
    exact hput _
end

section
variable {s u : State} {k st : Nat} {it : Item} {w : Wait} {r : List Nat}

theorem freed_rings : (u.freed k st).rings = u.rings.set k { u.ring k with run := none, lastSt := st, mute := false } := by
  rw [State.freed, setFld_rings, setRing_rings]
theorem freed_reg {a : Nat} (ha : a ≠ CMD_STATE.at k) : (u.freed k st).reg a = u.reg a := by
  rw [State.freed, reg_setFld_ne ha, reg_of_regs_eq (setRing_regs _ _ _)]
theorem freed_busy : (u.freed k st).fld CMD_STATE_BUSY k = 0 := by
  rw [State.freed, fld_setFld _ _ _ _ _ (by decide)]
  rfl
theorem freed_gate : (u.freed k st).gate = u.gate := by rw [State.gate, State.freed, setFld_hif, setRing_hif, State.gate]

/-- A register of the rings other than CMD_STATE, as a ring with a command under way finds it at the end. -/
theorem Carries.ring_reg (h : Carries k it w s u) {a : Nat} (ha : ofRings a) (hne : a ≠ CMD_STATE.at k) : (u.freed k st).reg a = s.reg a :=
  (freed_reg hne).trans (h.regs a ha hne)
theorem Holds.freed_ring (h : Holds k it w u) : (u.freed k st).ring k = { u.ring k with run := none, lastSt := st, mute := false } :=
  (ring_of_rings_eq (t := u.freed k st) (s := u.setRing k _) freed_rings k).trans (ring_setRing h.here _)
theorem Holds.freed_idle (h : Holds k it w u) (j : Nat) : ((u.freed k st).ring j).run = none := by
  by_cases hj : j = k
  · rw [hj, h.freed_ring]
  · rw [ring_of_rings_eq (t := u.freed k st) (s := u.setRing k _) freed_rings j, ring_setRing_ne hj, h.others j hj]

/-- A command that a ring carries out ends with its completion entry. -/
theorem endRun_of_carries (ho : s.offers k it) (h : Carries k it w s u) :
    u.endRun k st r = (u.freed k st).writeCpl k it.tag it.seq st it.opc r := by
  obtain ⟨hk, -, -, -, -, -, -, -, hdma, hon, -, hsilent, -⟩ := ho
  have hctrl : u.flag CMD_CTRL_EN k = true := by
    have hat : CMD_CTRL_EN.rg.at k = 0x10100 + 0x40 * k := rfl
    rw [State.flag, fld_of_reg_eq (h.regs _ (.inr (by omega)) (by rw [cmdState_at]; omega))]
    exact hon
  have hgo : (u.freed k st).dmaOk = true := (dmaOk_of_gate_eq (freed_gate.trans h.gate)).trans hdma
  have hflush : ¬ (((u.freed k st).writeCpl k it.tag it.seq st it.opc r).ring k).flush = true := by
    rw [ring_of_rings_eq writeCpl_rings, h.freed_ring]
    exact fun hset => Bool.false_ne_true (h.flush.symm.trans hset)
  unfold State.endRun
  rw [h.run]
  dsimp only
  rw [hctrl, h.mute, hsilent, ← State.freed, Bool.false_and, if_pos rfl]
  rw [show (true && !false && !false) = true from rfl, if_pos rfl, State.complete, if_pos hgo, if_neg hflush]

theorem endCmd_of_carries (ho : s.offers k it) (h : Carries k it w s u) :
    u.endCmd k st r = (u.freed k st).writeCpl k it.tag it.seq st it.opc r := by
  rw [State.endCmd, endRun_of_carries ho h]
  refine endRingFlush_of_onlyWait (w := .running) (fun j c hrun => ?_) (fun _ hw => nomatch hw)
  rw [ring_of_rings_eq writeCpl_rings, h.freed_idle] at hrun
  cases hrun

theorem Carries.ends (ho : s.offers k it) (h : Carries k it w s u) : Ended k it st r s (u.endCmd k st r) := by
  have hk := h.inRange
  have hring : ((u.freed k st).writeCpl k it.tag it.seq st it.opc r).ring k = { u.ring k with run := none, lastSt := st, mute := false } :=
    (ring_of_rings_eq writeCpl_rings k).trans h.freed_ring
  have hsame {a : Nat} (ha : 0x10000 ≤ a ∧ a < 0x20000) (hne : a ≠ 0x10104 + 0x40 * k) : (u.freed k st).reg a = s.reg a :=
    h.ring_reg (.inr ha) hne
  have hcprod : (u.freed k st).fld CMD_CPROD_CPROD k = s.fld CMD_CPROD_CPROD k := by
    have hat : CMD_CPROD_CPROD.rg.at k = 0x10128 + 0x40 * k := rfl
    exact fld_of_reg_eq (hsame (by omega) (by omega))
  have hsize : (u.freed k st).ringSize k = s.ringSize k := by
    have hat : CMD_RCFG_SIZE.rg.at k = 0x10118 + 0x40 * k := rfl
    rw [State.ringSize, fld_of_reg_eq (hsame (by omega) (by omega)), State.ringSize]
  have hlo : (u.freed k st).regN CMD_CBASE_LO k = s.regN CMD_CBASE_LO k := by
    have hat : CMD_CBASE_LO.at k = 0x10110 + 0x40 * k := rfl
    rw [State.regN, hsame (by omega) (by omega), State.regN]
  have hhi : (u.freed k st).regN CMD_CBASE_HI k = s.regN CMD_CBASE_HI k := by
    have hat : CMD_CBASE_HI.at k = 0x10114 + 0x40 * k := rfl
    rw [State.regN, hsame (by omega) (by omega), State.regN]
  have hmask : (u.freed k st).msixMasked 0 = s.msixMasked 0 :=
    msixMasked_of_eq (h.ring_reg (.inl (by decide)) (by rw [cmdState_at]; omega)) (freed_gate.trans h.gate)
  rw [endCmd_of_carries ho h]
  refine ⟨by rw [hring], by rw [hring]; exact h.taken, by rw [hring], (writeCpl_busy hk).trans freed_busy,
    (writeCpl_cprod hk).trans (by rw [hcprod]), fun hmasked => ?_⟩
  have hhost := writeCpl_host (s := u.freed k st) (k := k) (tag := it.tag) (seq := it.seq) (st := st) (opc := it.opc) (r := r) (hmask.trans hmasked)
  rw [hcprod, hsize, hlo, hhi] at hhost
  exact hhost

theorem serve_endCmd (ho : s.offers k it) (h : Carries k it w s u) : (u.endCmd k st r).serve k = u.endCmd k st r := by
  obtain ⟨-, htaken, -⟩ := h.ends (st := st) (r := r) ho
  exact serve_of_empty htaken

/-- No command runs, and ring `k` shows the status of the one that has ended there. -/
structure Frees (k st : Nat) (t : State) : Prop where
  idle : ∀ j, (t.ring j).run = none
  taken : (t.ring k).taken = []
  lastSt : (t.ring k).lastSt = st
  flush : (t.ring k).flush = false
  here : k < t.rings.length

theorem Frees.of_rings {v : State} (h : Frees k st u) (g : v.rings = u.rings) : Frees k st v := by
  have hring := ring_of_rings_eq g
  exact ⟨fun j => (hring j).symm ▸ h.idle j, (hring k).symm ▸ h.taken, (hring k).symm ▸ h.lastSt, (hring k).symm ▸ h.flush, g.symm ▸ h.here⟩
/-- A completion that Bus Master Enable holds up waits in its ring. -/
theorem Frees.complete {tag seq cst opc : Nat} (h : Frees k st u) : Frees k st (u.complete k tag seq cst opc r) := by
  unfold State.complete
  split
  · exact h.of_rings writeCpl_rings
  · have hring := ring_setRing h.here { u.ring k with heldCpl := (u.ring k).heldCpl ++ [(tag, seq, cst, opc, r)] }
    refine ⟨fun j => ?_, by rw [hring]; exact h.taken, by rw [hring]; exact h.lastSt, by rw [hring]; exact h.flush, ?_⟩
    · by_cases hj : j = k
      · rw [hj, hring]
        exact h.idle k
      · rw [ring_setRing_ne hj, h.idle j]
    · rw [setRing_rings, List.length_set]
      exact h.here
theorem Frees.serve (h : Frees k st u) : u.serve k = u := serve_of_empty h.taken

theorem Holds.freed (h : Holds k it w u) : Frees k st (u.freed k st) := by
  have hring := h.freed_ring (st := st)
  refine ⟨h.freed_idle, by rw [hring]; exact h.taken, by rw [hring], by rw [hring]; exact h.flush, ?_⟩
  rw [freed_rings, List.length_set]
  exact h.here
/-- The end of a command, as far as only the rings go: whether or not its completion can be written, its ring is free. -/
theorem Holds.endRun_frees (h : Holds k it w u) : Frees k st (u.endRun k st r) := by
  unfold State.endRun
  rw [h.run]
  dsimp only
  rw [← State.freed]
  have hdone (c : Bool) : Frees k st (if c = true then (u.freed k st).complete k it.tag it.seq st it.opc r else u.freed k st) := by
    split
    · exact h.freed.complete
    · exact h.freed
  have hstate (c d : Bool) : Frees k st (if d = true then (if c = true then (u.freed k st).complete k it.tag it.seq st it.opc r else u.freed k st)
      else (if c = true then (u.freed k st).complete k it.tag it.seq st it.opc r else u.freed k st).setFld CMD_STATE_STATE 0 k) := by
    split
    · exact hdone c
    · exact (hdone c).of_rings (setFld_rings _ _ _ _ _)
  rw [if_neg]
  · exact hstate _ _
  · rw [(hstate _ _).flush]
    exact Bool.false_ne_true
theorem Holds.endCmd_frees (h : Holds k it w u) : Frees k st (u.endCmd k st r) := by
  rw [State.endCmd, endRingFlush_of_onlyWait (w := .running) (fun j c hrun => ?_) (fun _ hw => nomatch hw)]
  · exact h.endRun_frees
  · rw [h.endRun_frees.idle] at hrun
    cases hrun
end

end Sys2Proof.Machine
end

section
/-! Proofs/PatternCommands.lean: the Pattern's commands (Table 15.3, class 2): each is carried out on the state its start leaves, and there it is the
write of PAT_CTRL that R55, R63 and R65 describe. -/

namespace Sys2Proof.Machine
open Sys2Proof Sys2Proof.Machine.Reg

-- As in the files of Laws/: proofs elaborated side by side take the joined text past its memory limit.
set_option Elab.async false

/-! ### A command of a ring, from its offer to its end or its wait -/

/-- The item breaks no rule of the opcode, and its targets are there. -/
def Opc.admits (c : Opc) (it : Item) (s : State) : Prop :=
  it.opc = c.opc ∧ c.len it.len = true ∧ c.arg it = true ∧ (c.dies it).any (fun d => s.dieUnreachable d) = false

section
variable {i : Instr} {c : Opc} {s u : State} {k st : Nat} {it : Item} {r : List Nat} {w : Wait} {P : State → Prop}

/-- The instruction carries out the opcode on its ring. -/
def carriesOut (i : Instr) (c : Opc) (k : Nat) : Prop := ∀ s, exec i s = onUnit k 4 (.next (s.command c k))

theorem exec_of_offers (hi : carriesOut i c k) (ho : s.offers k it) (hlisted : opcodes.contains c.opc = true) (ha : c.admits it s) :
    exec i s = .next ((c.run k it (s.started k it)).serve k) := by
  obtain ⟨hopc, hlen, harg, hdies⟩ := ha
  obtain ⟨hk, -⟩ := id ho
  rw [hi, onUnit, if_pos hk, command_of_offers ho hopc (hopc ▸ hlisted) hlen harg hdies]

/-- A command whose work ends it with `st` and `r` is ended. -/
theorem does_of_ends (hi : carriesOut i c k) (ho : s.offers k it) (hlisted : opcodes.contains c.opc = true) (ha : c.admits it s)
    (hrun : c.run k it (s.started k it) = u.endCmd k st r) (hc : Carries k it w s u) (hP : P (u.endCmd k st r)) :
    Does i s (fun t => Ended k it st r s t ∧ P t) := by
  refine ⟨_, exec_of_offers hi ho hlisted ha, ?_⟩
  rw [hrun, serve_endCmd ho hc]
  exact ⟨hc.ends ho, hP⟩

/-- A command whose work leaves it waiting waits. -/
theorem does_of_waits (hi : carriesOut i c k) (ho : s.offers k it) (hlisted : opcodes.contains c.opc = true) (ha : c.admits it s)
    (hrun : c.run k it (s.started k it) = u) (hc : Carries k it w s u) (hP : P u) : Does i s (fun t => Waits k it w t ∧ P t) := by
  refine ⟨_, exec_of_offers hi ho hlisted ha, ?_⟩
  rw [hrun, hc.serve]
  exact ⟨hc.waits, hP⟩
end

/-! ### What the start leaves -/

section
variable {s t : State} {k : Nat} {it : Item} {w : Wait}

/-- The register is not of the CMD block. -/
def aside (a : Nat) : Prop := a < 0x10000 ∨ 0x20000 ≤ a

theorem started_reg_aside {a : Nat} (hk : k < 4) (ha : aside a) : (s.started k it).reg a = s.reg a := by
  refine started_reg ?_
  rw [cmdState_at]
  unfold aside at ha
  omega
theorem setWait_reg (s : State) (k : Nat) (w : Wait) (a : Nat) : (s.setWait k w).reg a = s.reg a := by
  unfold State.setWait
  split
  · exact reg_of_regs_eq (setRing_regs _ _ _) _
  · rfl
theorem setWait_fld (s : State) (k : Nat) (w : Wait) (f : Fld) (i j : Nat) : (s.setWait k w).fld f i j = s.fld f i j := fld_of_reg_eq (setWait_reg s k w _)
theorem setWait_pat (s : State) (k : Nat) (w : Wait) : (s.setWait k w).pat = s.pat :=
  (State.setWait_only s k w s (m' := 8192)).2 (Only.refl _ s) .pat (by decide)
theorem endCmd_pat (s : State) (k st : Nat) (r : List Nat) : (s.endCmd k st r).pat = s.pat :=
  (State.endCmd_only s k st r s (m' := 8467969)).2 (Only.refl _ s) .pat (by decide)

/-! ### Which registers and pieces the Pattern's conditions read -/

theorem admitting_of_eq (hpat : t.pat = s.pat) (hstage : t.reg PWR_BOSTAT.base = s.reg PWR_BOSTAT.base) : t.admitting = s.admitting := by
  rw [State.admitting, State.frozenAdm, hpat, fld_of_reg_eq hstage, State.admitting, State.frozenAdm]
theorem absStitch_of_eq (hrnd : t.rnd = s.rnd) (hregs : ∀ a ∈ [RND_COUNT_LO.base, RND_COUNT_HI.base, RND_PHASE.base], t.reg a = s.reg a) :
    t.absStitch = s.absStitch := by
  have hlo : t.regN RND_COUNT_LO = s.regN RND_COUNT_LO := congrArg BitVec.toNat (hregs _ (by decide))
  have hhi : t.fld RND_COUNT_HI_COUNT = s.fld RND_COUNT_HI_COUNT := fld_of_reg_eq (hregs _ (by decide))
  have hphase : t.regN RND_PHASE = s.regN RND_PHASE := congrArg BitVec.toNat (hregs _ (by decide))
  rw [State.absStitch, State.roundNo, State.count48, State.stitch, State.phase, hrnd, hlo, hhi, hphase]
  rfl
theorem hubBytes_of_eq (hhub : t.hub = s.hub) (hjrn : t.jrn = s.jrn) (hvalid : t.reg PWR_BORESTORE.base = s.reg PWR_BORESTORE.base) (a n : Nat) :
    t.hubBytes a n = s.hubBytes a n := by
  have hbyte (x : Nat) : t.hubByte x = s.hubByte x := by
    rw [State.hubByte, State.jrnByte, State.flag, fld_of_reg_eq hvalid, hhub, hjrn]
    rfl
  simp only [State.hubBytes, hbyte]
end

/-! ### PAT_ADMIT (R55) -/

section
variable {s : State} {k : Nat} {it : Item} {a n : Nat}

/-- PAT_IMG_BASE and PAT_IMG_LEN show the image that PAT_ADMIT names. -/
def State.imagePlaced (s : State) (a n : Nat) : State := (s.setFld PAT_IMG_BASE_BASE (a / 64)).setFld PAT_IMG_LEN_LEN n

theorem imagePlaced_kept (s : State) (a n : Nat) : RingsKept s (s.imagePlaced a n) :=
  (RingsKept.setFld s _ _ _ _ (by decide)).trans (.setFld _ _ _ _ _ (by decide))
theorem imagePlaced_reg {b : Nat} (hbase : b ≠ PAT_IMG_BASE.base) (hlen : b ≠ PAT_IMG_LEN.base) : (s.imagePlaced a n).reg b = s.reg b := by
  rw [State.imagePlaced, reg_setFld_ne hlen, reg_setFld_ne hbase]
theorem imagePlaced_base (ha : a < hubSize) : (s.imagePlaced a n).fld PAT_IMG_BASE_BASE = a / 64 := by
  rw [State.imagePlaced, fld_setFld_ne (by decide), fld_setFld _ _ _ _ _ (by decide)]
  refine Nat.mod_eq_of_lt ?_
  show a / 64 < 2 ^ 18
  simp only [hubSize] at ha
  omega
theorem imagePlaced_len (hn : n < 2 ^ 17) : (s.imagePlaced a n).fld PAT_IMG_LEN_LEN = n := by
  rw [State.imagePlaced, fld_setFld _ _ _ _ _ (by decide)]
  exact Nat.mod_eq_of_lt hn

/-- The state in which PAT_ADMIT asks for the admission. -/
def State.admitAsked (s : State) (k : Nat) (it : Item) (a n : Nat) : State := ((s.started k it).imagePlaced a n).setWait k .admission

theorem admitAsked_carries (ho : s.offers k it) : Carries k it .admission s (s.admitAsked k it a n) :=
  ((started_carries ho).step (imagePlaced_kept _ _ _)).setWait _
theorem admitAsked_only (s : State) (k : Nat) (it : Item) (a n : Nat) : Only 12289 s (s.admitAsked k it a n) := by
  rw [State.admitAsked, State.imagePlaced, State.setWait_only, State.setFld_only, State.setFld_only]
  exact started_only s k it
theorem admitAsked_reg {b : Nat} (hk : k < 4) (hb : aside b) (hbase : b ≠ PAT_IMG_BASE.base) (hlen : b ≠ PAT_IMG_LEN.base) :
    (s.admitAsked k it a n).reg b = s.reg b := by
  rw [State.admitAsked, setWait_reg, imagePlaced_reg hbase hlen, started_reg_aside hk hb]
theorem admitAsked_admitting (hk : k < 4) : (s.admitAsked k it a n).admitting = s.admitting :=
  admitting_of_eq (admitAsked_only s k it a n .pat (by decide)) (admitAsked_reg hk (.inr (by decide)) (by decide) (by decide))
theorem admitAsked_hubBytes (hk : k < 4) (b m : Nat) : (s.admitAsked k it a n).hubBytes b m = s.hubBytes b m :=
  hubBytes_of_eq (admitAsked_only s k it a n .hub (by decide)) (admitAsked_only s k it a n .jrn (by decide))
    (admitAsked_reg hk (.inr (by decide)) (by decide) (by decide)) b m

theorem opPatAdmit_run {k : Nat} (hw : it.par = [a, n]) :
    opPatAdmit.run k it (s.started k it) = match (s.admitAsked k it a n).startAdmission with
      | (u, true) => u
      | (u, false) => u.endCmd k 0x010D u.admWords := by
  have hbase : it.w 2 = a := by rw [Item.w, hw]; rfl
  have hlen : it.w 3 = n := by rw [Item.w, hw]; rfl
  rw [← hbase, ← hlen]
  rfl

/-- ADMIT starts the copy and the checker, and answers that it did. -/
theorem startAdmission_starts (h : s.admitting = false) : s.startAdmission = (s.startAdmission.1, true) := by
  rw [State.startAdmission, h]
  rfl
theorem startAdmission_refuses (h : s.admitting = true) : s.startAdmission = (s.startAdmission.1, false) := by
  rw [State.startAdmission, if_pos h]
theorem startAdmission_kept (h : s.admitting = false) : RingsKept s s.startAdmission.1 := by
  rw [startAdmission_of_idle h]
  exact ((RingsKept.setFld s _ _ _ _ (by decide)).trans (.modPat _ _)).trans (.setFld _ _ _ _ _ (by decide))

theorem opPatAdmit_admits {c : State} (haligned : a % 64 = 0) (ha : a < hubSize) (hn : n < 2 ^ 17) (hit : it.is 0x200 4 [a, n]) : opPatAdmit.admits it c := by
  obtain ⟨hopc, hlen, hpar⟩ := hit
  refine ⟨hopc, by rw [hlen]; rfl, ?_, rfl⟩
  simp only [opPatAdmit, Item.w, hpar, fits]
  exact Bool.and_eq_true_iff.2 ⟨decide_eq_true ⟨haligned, ha⟩, decide_eq_true hn⟩

/-- Clause 1 of `Obligations.PatternAndCoreCommands`. -/
theorem patAdmit_waits (ho : s.offers k it) (haligned : a % 64 = 0) (ha : a < hubSize) (hn : n < 2 ^ 17) (hit : it.is 0x200 4 [a, n])
    (hidle : s.admitting = false) : Does (.patAdmit k) s (fun t => Waits k it .admission t ∧ t.pat.img = some (s.hubBytes a (min n 73793)) ∧
      t.fld PAT_CTRL_ADMIT = 1 ∧ t.fld PAT_STATUS_ADM_STATE = 1 ∧ 64 * t.fld PAT_IMG_BASE_BASE = a ∧ t.fld PAT_IMG_LEN_LEN = n) := by
  obtain ⟨hk, -⟩ := id ho
  have hask : (s.admitAsked k it a n).admitting = false := (admitAsked_admitting hk).trans hidle
  have hrun : opPatAdmit.run k it (s.started k it) = (s.admitAsked k it a n).startAdmission.1 := by
    obtain ⟨-, -, hpar⟩ := hit
    rw [opPatAdmit_run hpar, startAdmission_starts hask]
  refine does_of_waits (fun _ => rfl) ho (by decide) (opPatAdmit_admits haligned ha hn hit) hrun
    ((admitAsked_carries ho).step (startAdmission_kept hask)) ?_
  have hreadm : (s.admitAsked k it a n).pat.readm = none := readm_of_idle hask
  have hbase : (s.admitAsked k it a n).fld PAT_IMG_BASE_BASE = a / 64 := (setWait_fld _ _ _ _ _ _).trans (imagePlaced_base ha)
  have hlen : (s.admitAsked k it a n).fld PAT_IMG_LEN_LEN = n := (setWait_fld _ _ _ _ _ _).trans (imagePlaced_len hn)
  have hwhole : 64 * (a / 64) = a := by omega
  rw [startAdmission_of_idle hask, hbase, hlen, hwhole, admitAsked_hubBytes hk]
  refine ⟨rfl, ?_, noteAdm_running hreadm rfl, ?_, ?_⟩
  · rw [noteAdm_fld (by decide), fld_modPat, fld_setFld _ _ _ _ _ (by decide)]
    rfl
  · rw [noteAdm_fld (by decide), fld_modPat, fld_setFld_ne (by decide), hbase, hwhole]
  · rw [noteAdm_fld (by decide), fld_modPat, fld_setFld_ne (by decide), hlen]

/-- The registers that show a report of the checker are the same after the command's end. -/
theorem endCmd_patFld {f : Fld} {st : Nat} {r : List Nat} (hk : k < 4) (hf : patFld f) : (s.endCmd k st r).fld f = s.fld f :=
  fld_of_reg_eq (endCmd_reg hk hf.offCmd)
theorem endCmd_regN {st : Nat} {r : List Nat} {x : Rg} (hk : k < 4) (hx : offCmd x.at) : (s.endCmd k st r).regN x = s.regN x := by
  rw [State.regN, endCmd_reg hk hx, State.regN]
theorem endCmd_admWords {st : Nat} {r : List Nat} (hk : k < 4) : (s.endCmd k st r).admWords = s.admWords := by
  rw [State.admWords, endCmd_regN hk (by decide), endCmd_regN hk (by decide), endCmd_regN hk (by decide), endCmd_regN hk (by decide), State.admWords]
theorem putReport_kept (s : State) (r : AdmReport) : RingsKept s (s.putReport r) := by
  rw [State.putReport]
  exact (((RingsKept.setRegN s _ _ _ _ (by decide)).trans (.setRegN _ _ _ _ _ (by decide))).trans (.setRegN _ _ _ _ _ (by decide))).trans
    (.setRegN _ _ _ _ _ (by decide))

/-- Clause 2 of `Obligations.PatternAndCoreCommands`. -/
theorem patAdmit_refused (ho : s.offers k it) (haligned : a % 64 = 0) (ha : a < hubSize) (hn : n < 2 ^ 17) (hit : it.is 0x200 4 [a, n])
    (hbusy : s.admitting = true) : Does (.patAdmit k) s (fun t => Ended k it 0x010D t.admWords s t ∧ t.fld PAT_ADM_RESULT_CODE = 0x0D ∧ t.pat = s.pat) := by
  obtain ⟨hk, -⟩ := id ho
  have hask : (s.admitAsked k it a n).admitting = true := (admitAsked_admitting hk).trans hbusy
  have hrun : opPatAdmit.run k it (s.started k it) =
      (s.admitAsked k it a n).startAdmission.1.endCmd k 0x010D (s.admitAsked k it a n).startAdmission.1.admWords := by
    obtain ⟨-, -, hpar⟩ := hit
    rw [opPatAdmit_run hpar, startAdmission_refuses hask]
  have hcarries : Carries k it .admission s (s.admitAsked k it a n).startAdmission.1 := by
    rw [startAdmission_of_busy hask]
    exact ((admitAsked_carries ho).step (putReport_kept _ _)).step (.event _ (by decide) (by decide))
  obtain ⟨t, hexec, hended, hcode, hpat, hwords⟩ := does_of_ends (i := .patAdmit k) (P := fun t => t.fld PAT_ADM_RESULT_CODE = 0x0D ∧ t.pat = s.pat ∧
      t.admWords = (s.admitAsked k it a n).startAdmission.1.admWords) (fun _ => rfl) ho (by decide) (opPatAdmit_admits haligned ha hn hit) hrun hcarries
    ⟨by rw [endCmd_patFld hk (by decide), startAdmission_of_busy hask, patEvent_fld (by decide) (by decide), putReport_code]; rfl,
      by rw [endCmd_pat, startAdmission_of_busy hask, patEvent_pat]; exact admitAsked_only s k it a n .pat (by decide), endCmd_admWords hk⟩
  exact ⟨t, hexec, hwords.symm ▸ hended, hcode, hpat⟩

end

/-! ### PAT_ACTIVATE, PAT_DEACTIVATE and PAT_CANCEL (R63, R65) -/

section
variable {s : State} {k : Nat} {it : Item} {lo hi : Nat}

/-- PAT_ACT_ROUND shows the round that PAT_ACTIVATE names. -/
def State.roundAsked (s : State) (lo hi : Nat) : State := (s.setRegN PAT_ACT_ROUND_LO lo).setFld PAT_ACT_ROUND_HI_RND hi
/-- The state in which PAT_ACTIVATE asks for the activation. -/
def State.actAsked (s : State) (k : Nat) (it : Item) (lo hi : Nat) : State := ((s.started k it).roundAsked lo hi).setWait k .activate

theorem actAsked_carries (ho : s.offers k it) : Carries k it .activate s (s.actAsked k it lo hi) :=
  ((started_carries ho).step ((RingsKept.setRegN _ _ _ _ _ (by decide)).trans (.setFld _ _ _ _ _ (by decide)))).setWait _
theorem actAsked_only (s : State) (k : Nat) (it : Item) (lo hi : Nat) : Only 12289 s (s.actAsked k it lo hi) := by
  rw [State.actAsked, State.roundAsked, State.setWait_only, State.setFld_only, State.setRegN_only]
  exact started_only s k it
theorem actAsked_pat : (s.actAsked k it lo hi).pat = s.pat := actAsked_only s k it lo hi .pat (by decide)
theorem actAsked_reg {b : Nat} (hk : k < 4) (hb : aside b) (hlo : b ≠ PAT_ACT_ROUND_LO.base) (hhi : b ≠ PAT_ACT_ROUND_HI.base) :
    (s.actAsked k it lo hi).reg b = s.reg b := by
  rw [State.actAsked, setWait_reg, State.roundAsked, reg_setFld_ne hhi, reg_setRegN_ne hlo, started_reg_aside hk hb]
theorem actAsked_absStitch (hk : k < 4) : (s.actAsked k it lo hi).absStitch = s.absStitch := by
  refine absStitch_of_eq (actAsked_only s k it lo hi .rnd (by decide)) fun b hb => ?_
  have hplace : 0x20000 ≤ b ∧ b < 0x30000 := by revert b; decide
  have hround : PAT_ACT_ROUND_LO.base = 0x30020 ∧ PAT_ACT_ROUND_HI.base = 0x30024 := ⟨rfl, rfl⟩
  exact actAsked_reg hk (.inr hplace.1) (by omega) (by omega)
theorem actAsked_lo (hlo : lo < 2 ^ 32) : (s.actAsked k it lo hi).regN PAT_ACT_ROUND_LO = lo := by
  rw [State.regN, State.actAsked, setWait_reg, State.roundAsked, reg_setFld_ne (by decide), State.setRegN, reg_setReg_same, BitVec.toNat_ofNat]
  exact Nat.mod_eq_of_lt hlo
theorem actAsked_hi (hhi : hi < 2 ^ 16) : (s.actAsked k it lo hi).fld PAT_ACT_ROUND_HI_RND = hi := by
  rw [State.actAsked, setWait_fld, State.roundAsked, fld_setFld _ _ _ _ _ (by decide)]
  exact Nat.mod_eq_of_lt hhi

theorem opPatActivate_run (hpar : it.par = [lo, hi]) : opPatActivate.run k it (s.started k it) = match (s.actAsked k it lo hi).activate with
    | (u, true) => u
    | (u, false) => u.endCmd k 7 := by
  have hlo : it.w 2 = lo := by rw [Item.w, hpar]; rfl
  have hhi : it.w 3 = hi := by rw [Item.w, hpar]; rfl
  rw [← hlo, ← hhi]
  rfl
theorem opPatActivate_admits {c : State} (hhi : hi < 2 ^ 16) (hit : it.is 0x201 4 [lo, hi]) : opPatActivate.admits it c := by
  obtain ⟨hopc, hlen, hpar⟩ := hit
  refine ⟨hopc, by rw [hlen]; rfl, ?_, rfl⟩
  simp only [opPatActivate, Item.w, hpar, fits]
  exact decide_eq_true hhi

theorem activate_grants (h : s.pat.admitted.isSome = true) : s.activate = (s.activate.1, true) := by
  have hsome : ¬ s.pat.admitted.isNone = true := by
    rw [Option.isNone_iff_eq_none]
    exact Option.isSome_iff_ne_none.1 h
  rw [State.activate, if_neg hsome]
theorem activate_of_nothing (h : s.pat.admitted = none) : s.activate = (s.setFld PAT_CTRL_ACTIVATE 0, false) := by
  rw [State.activate, if_pos (Option.isNone_iff_eq_none.2 h)]

/-- Clause 3 of `Obligations.PatternAndCoreCommands`. -/
theorem patActivate_waits (ho : s.offers k it) (hlo : lo < 2 ^ 32) (hhi : hi < 2 ^ 16) (hit : it.is 0x201 4 [lo, hi])
    (hadm : s.pat.admitted.isSome = true) (hact : s.pat.act = none) : Does (.patActivate k) s (fun t => Waits k it .activate t ∧
      t.pat.act = some s.absStitch ∧ t.fld PAT_STATUS_ACT_WAIT = 1 ∧ t.regN PAT_ACT_ROUND_LO = lo ∧ t.fld PAT_ACT_ROUND_HI_RND = hi) := by
  obtain ⟨hk, -⟩ := id ho
  have hadm' : (s.actAsked k it lo hi).pat.admitted.isSome = true := by rw [actAsked_pat]; exact hadm
  have hact' : (s.actAsked k it lo hi).pat.act = none := by rw [actAsked_pat]; exact hact
  have hrun : opPatActivate.run k it (s.started k it) = (s.actAsked k it lo hi).activate.1 := by
    obtain ⟨-, -, hpar⟩ := hit
    rw [opPatActivate_run hpar, activate_grants hadm']
  have hgrant := activate_of_admitted hadm' hact'
  refine does_of_waits (fun _ => rfl) ho (by decide) (opPatActivate_admits hhi hit) hrun
    ((actAsked_carries (lo := lo) (hi := hi) ho).step (v := (s.actAsked k it lo hi).activate.1) ?_) ?_
  · rw [hgrant]
    exact ((RingsKept.setFld _ _ _ _ _ (by decide)).trans (.setFld _ _ _ _ _ (by decide))).trans (.modPat _ _)
  · rw [hgrant, actAsked_absStitch hk]
    refine ⟨rfl, ?_, ?_, ?_⟩
    · rw [fld_modPat, fld_setFld _ _ _ _ _ (by decide)]
      rfl
    · rw [State.regN, reg_modPat, reg_setFld_ne (by decide), reg_setFld_ne (by decide), ← State.regN, actAsked_lo hlo]
    · rw [fld_modPat, fld_setFld_ne (by decide), fld_setFld_ne (by decide), actAsked_hi hhi]

/-- Clause 4 of `Obligations.PatternAndCoreCommands`. -/
theorem patActivate_refused (ho : s.offers k it) (hhi : hi < 2 ^ 16) (hit : it.is 0x201 4 [lo, hi]) (hnone : s.pat.admitted = none) :
    Does (.patActivate k) s (fun t => Ended k it 7 [] s t ∧ t.pat = s.pat) := by
  have hnone' : (s.actAsked k it lo hi).pat.admitted = none := by rw [actAsked_pat]; exact hnone
  have hrun : opPatActivate.run k it (s.started k it) = ((s.actAsked k it lo hi).setFld PAT_CTRL_ACTIVATE 0).endCmd k 7 := by
    obtain ⟨-, -, hpar⟩ := hit
    rw [opPatActivate_run hpar, activate_of_nothing hnone']
  refine does_of_ends (fun _ => rfl) ho (by decide) (opPatActivate_admits hhi hit) hrun ((actAsked_carries ho).step (.setFld _ _ _ _ _ (by decide))) ?_
  rw [endCmd_pat, setFld_pat, actAsked_pat]

/-- Clause 5 of `Obligations.PatternAndCoreCommands`. -/
theorem patDeactivate_waits {x : Nat} (ho : s.offers k it) (hx : x < 2) (hit : it.is 0x202 3 [x]) : Does (.patDeactivate k) s (fun t =>
    Waits k it (.deactivate (decide (x = 1))) t ∧ t.pat.deact = true ∧ t.fld PAT_CTRL_DEACTIVATE = 1) := by
  obtain ⟨hopc, hlen, hpar⟩ := hit
  have hword : it.w 2 = x := by rw [Item.w, hpar]; rfl
  have hrun : opPatDeactivate.run k it (s.started k it) = ((s.started k it).setWait k (.deactivate (decide (x = 1)))).deactivate := by
    rw [← hword]
    rfl
  have hadmits : opPatDeactivate.admits it s := by
    refine ⟨hopc, by rw [hlen]; rfl, ?_, rfl⟩
    simp only [opPatDeactivate, hword, fits]
    exact decide_eq_true hx
  refine does_of_waits (fun _ => rfl) ho (by decide) hadmits hrun
    (((started_carries ho).setWait _).step ((RingsKept.setFld _ _ _ _ _ (by decide)).trans (.modPat _ _))) ⟨rfl, ?_⟩
  rw [State.deactivate, fld_modPat, fld_setFld _ _ _ _ _ (by decide)]
  rfl

/-- With no command that waits for the activation, withdrawing it is the writes to PAT_CTRL and PAT_STATUS. -/
theorem cancelAct_carries {w : Wait} {u : State} (h : Carries k it w s u) (hw : w ≠ .activate) (hflush : ∀ m, w ≠ .ringFlush m) :
    Carries k it w s u.cancelAct := by
  have hclear := h.step (((RingsKept.setFld u PAT_CTRL_ACTIVATE 0 0 0 (by decide)).trans (.setFld _ PAT_STATUS_ACT_WAIT 0 0 0 (by decide))).trans
    (.modPat _ fun p => { p with act := none }))
  unfold State.cancelAct
  split
  · unfold State.withdraw
    dsimp only
    rw [settle_of_onlyWait hclear.onlyWait hflush]
    · exact hclear
    · cases w with
      | activate => exact absurd rfl hw
      | _ => rfl
  · exact h

theorem opPatCancel_run (k : Nat) (it : Item) (s : State) : opPatCancel.run k it s = s.cancelAct.endCmd k 0 := by rw [opPatCancel]

/-- Clause 6 of `Obligations.PatternAndCoreCommands`. -/
theorem patCancel_ends (ho : s.offers k it) (hit : it.is 0x203 2 []) : Does (.patCancel k) s (fun t => Ended k it 0 [] s t ∧ t.pat.act = none ∧
    t.pat.active = s.pat.active) := by
  obtain ⟨hopc, hlen, -⟩ := hit
  have hadmits : opPatCancel.admits it s := ⟨hopc, by rw [hlen]; rfl, rfl, rfl⟩
  refine does_of_ends (fun _ => rfl) ho (by decide) hadmits (opPatCancel_run k it _)
    (cancelAct_carries (started_carries ho) (fun h => nomatch h) (fun _ h => nomatch h)) ?_
  have hpat : (s.started k it).pat = s.pat := started_only s k it .pat (by decide)
  rw [endCmd_pat, cancelAct_pat, hpat]
  exact ⟨rfl, rfl⟩
end

end Sys2Proof.Machine
end

section
/-! Proofs/CoreCommands.lean: the cores' commands (Table 15.3, class 3; `Obligations.PatternAndCoreCommands`, O42): the conditions of R254 and R257 read
as they did before the start, and the work is the load of R257, the start and abort of R254 and R255, the flush of R217. -/

namespace Sys2Proof.Machine
open Sys2Proof Sys2Proof.Machine.Reg

-- As in the files of Laws/: proofs elaborated side by side take the joined text past its memory limit.
set_option Elab.async false

/-! ### Which registers and pieces the cores' conditions read -/

section
variable {s t : State} {n : Nat}

theorem storedImage_of_eq (hhub : t.hub = s.hub) (hjrn : t.jrn = s.jrn) (hvalid : t.reg PWR_BORESTORE.base = s.reg PWR_BORESTORE.base) (a l : Nat) :
    t.storedImage a l = s.storedImage a l := by
  simp only [State.storedImage, hubBytes_of_eq hhub hjrn hvalid]
theorem namesCore_of_eq (hpat : t.pat = s.pat) (hstat : t.reg PAT_STATUS.base = s.reg PAT_STATUS.base) (n : Nat) : t.namesCore n = s.namesCore n := by
  rw [State.namesCore, State.flag, fld_of_reg_eq hstat, State.liveJobs, hpat]
  rfl
theorem dieCrit_of_eq (hhlth : t.hlth = s.hlth) (hfail : ∀ k, t.reg (TMP.at k) = s.reg (TMP.at k)) (d : Nat) : t.dieCrit d = s.dieCrit d := by
  have hbad : t.sensorBad = s.sensorBad := funext fun k => by
    rw [State.sensorBad, State.flag, fld_of_reg_eq (hfail k)]
    rfl
  rw [State.dieCrit, hbad, hhlth]
  rfl
theorem kimgRefusal_of_eq (hchan : ∀ c, t.reg (CORE_CHCFG.at n c + 0x800) = s.reg (CORE_CHCFG.at n c + 0x800)) (hstate : t.cstate n = s.cstate n)
    (hdrop : t.reg PWR_DROP_CORE.base = s.reg PWR_DROP_CORE.base) (hnames : t.namesCore n = s.namesCore n) (b : List Nat) (f : Nat) :
    t.kimgRefusal b f n = s.kimgRefusal b f n := by
  have hlive (g : Fld) (c : Nat) (hg : g.rg = CORE_CHCFG) : t.live g n c = s.live g n c := by rw [State.live, hg, hchan, State.live, hg]
  have hon (c : Nat) : t.chanOn n c = s.chanOn n c := by rw [State.chanOn, hlive _ _ rfl, State.chanOn]
  have hbase (c : Nat) : t.chanBase n c = s.chanBase n c := by rw [State.chanBase, hlive _ _ rfl, State.chanBase]
  have hslots (c : Nat) : t.chanSlots n c = s.chanSlots n c := by rw [State.chanSlots, hlive _ _ rfl, State.chanSlots]
  have hdropped : t.coreDropped n = s.coreDropped n := by rw [State.coreDropped, State.regN, show PWR_DROP_CORE.at = PWR_DROP_CORE.base from rfl, hdrop]; rfl
  simp only [State.kimgRefusal, hon, hbase, hslots, hstate, hdropped, hnames]
end

/-! ### What a started command leaves of them -/

section
variable {s : State} {k : Nat} {it : Item}

theorem started_namesCore (hk : k < 4) (n : Nat) : (s.started k it).namesCore n = s.namesCore n :=
  namesCore_of_eq (started_only s k it .pat (by decide)) (started_reg_aside hk (.inr (by decide))) n
theorem core_aside {r : Rg} {i j : Nat} (h : 0x100000 ≤ r.base) : aside (r.at i j) := by
  refine .inr ?_
  unfold Rg.at
  omega
theorem started_kimgRefusal (hk : k < 4) (b : List Nat) (f n : Nat) : (s.started k it).kimgRefusal b f n = s.kimgRefusal b f n := by
  refine kimgRefusal_of_eq (fun c => started_reg_aside hk ?_) (cstate_of_reg_eq (started_reg_aside hk (core_aside (by decide))))
    (started_reg_aside hk (.inr (by decide))) (started_namesCore hk n) b f
  unfold aside Rg.at
  have : CORE_CHCFG.base = 0x100100 := rfl
  omega
theorem started_storedImage (hk : k < 4) (a l : Nat) : (s.started k it).storedImage a l = s.storedImage a l :=
  storedImage_of_eq (started_only s k it .hub (by decide)) (started_only s k it .jrn (by decide)) (started_reg_aside hk (.inr (by decide))) a l
theorem endCmd_inst (s : State) (k st : Nat) (r : List Nat) : (s.endCmd k st r).inst = s.inst :=
  (State.endCmd_only s k st r s (m' := 8467969)).2 (Only.refl _ s) .inst (by decide)
theorem endCmd_data (s : State) (k st : Nat) (r : List Nat) : (s.endCmd k st r).data = s.data :=
  (State.endCmd_only s k st r s (m' := 8467969)).2 (Only.refl _ s) .data (by decide)
theorem endCmd_cores (s : State) (k st : Nat) (r : List Nat) : (s.endCmd k st r).cores = s.cores :=
  (State.endCmd_only s k st r s (m' := 8467969)).2 (Only.refl _ s) .cores (by decide)
theorem started_cores : (s.started k it).cores = s.cores := started_only s k it .cores (by decide)
end

/-! ### CORE_LOAD (R257) -/

section
variable {s t : State} {k : Nat} {it : Item} {m a n : Nat}

theorem putData_inst (t : State) (n x : Nat) (bs : List Nat) : (t.putData n x bs).inst = t.inst := putData_only t n x bs .inst (by decide)

/-- The code of the image stands in the core's instruction store, and its segments, in record order, in the data store (R257). -/
theorem loadCore_inst (t : State) (b : List Nat) (n : Nat) : (t.loadCore b n).inst =
    memPut dfltF t.inst (instAt n (fieldLE b 20 4)) ((b.drop (fieldLE b 12 4)).take (fieldLE b 16 4)) :=
  List.foldlRecOn (motive := fun u : State => u.inst = _) _ _ rfl fun u hu _ _ => (putData_inst u _ _ _).trans hu
theorem loadCore_data (t : State) (b : List Nat) (n : Nat) : (t.loadCore b n).data = (kimgSegs b).foldl (fun d g =>
    memPut dflt0 d (dataAt n g.addr) (if g.zero then List.replicate g.len 0 else (b.drop g.ofs).take g.len)) t.data :=
  (List.foldl_hom State.data fun u _ => (putData_data u _ _ _).symm).symm
theorem loadCore_kept (t : State) (b : List Nat) (n : Nat) : RingsKept t (t.loadCore b n) := by
  have honly : Only 524312 t (t.loadCore b n) := by
    rw [State.loadCore_only]
    exact Only.refl _ t
  exact .of_eq (honly .regs (by decide)) (honly .rings (by decide)) (honly .hif (by decide))

/-- The refusal of an image at `a` by core `n` (R257). -/
def State.imageRefusal (s : State) (a n : Nat) : Nat := s.kimgRefusal (s.storedImage a 28) (kimgFails (s.storedImage a 28) (hubSize - a)) n

theorem started_imageRefusal (hk : k < 4) (a n : Nat) : (s.started k it).imageRefusal a n = s.imageRefusal a n := by
  rw [State.imageRefusal, started_storedImage hk, started_kimgRefusal hk, State.imageRefusal]

theorem opCoreLoad_run (k : Nat) (t : State) (hpar : it.par = [m, a]) : opCoreLoad.run k it t =
    match (bitsOf m 32).find? (fun n => decide (t.imageRefusal a n ≠ 0)) with
    | some n => t.endCmd k (0x0200 + t.imageRefusal a n) [n]
    | none => ((bitsOf m 32).foldl (fun s n => s.loadCore (t.storedImage a 28) n) t).endCmd k 0 [0xFF] := by
  have hmask : it.w 2 = m := by rw [Item.w, hpar]; rfl
  have hat : it.w 3 = a := by rw [Item.w, hpar]; rfl
  rw [opCoreLoad, ← hmask, ← hat]
  rfl
theorem opCoreLoad_admits (ha : a < hubSize) (hit : it.is 0x300 4 [m, a]) (hdies : (coreDies m).any (fun d => s.dieUnreachable d) = false) :
    opCoreLoad.admits it s := by
  obtain ⟨hopc, hlen, hpar⟩ := hit
  refine ⟨hopc, by rw [hlen]; rfl, ?_, ?_⟩
  · simp only [opCoreLoad, Item.w, hpar]
    exact decide_eq_true ha
  · simp only [opCoreLoad, Item.w, hpar]
    exact hdies

/-- Clause 7 of `Obligations.PatternAndCoreCommands`. -/
theorem coreLoad_refused (ho : s.offers k it) (ha : a < hubSize) (hit : it.is 0x300 4 [m, a])
    (hdies : (coreDies m).any (fun d => s.dieUnreachable d) = false)
    (hfind : (bitsOf m 32).find? (fun j => decide (s.imageRefusal a j ≠ 0)) = some n) : Does (.coreLoad k) s (fun t =>
      Ended k it (0x0200 + s.imageRefusal a n) [n] s t ∧ t.inst = s.inst ∧ t.data = s.data) := by
  obtain ⟨hk, -⟩ := id ho
  have hrun : opCoreLoad.run k it (s.started k it) = (s.started k it).endCmd k (0x0200 + s.imageRefusal a n) [n] := by
    obtain ⟨-, -, hpar⟩ := hit
    rw [opCoreLoad_run k _ hpar]
    simp only [started_imageRefusal hk, hfind]
  refine does_of_ends (fun _ => rfl) ho (by decide) (opCoreLoad_admits ha hit hdies) hrun (started_carries ho) ⟨?_, ?_⟩
  · rw [endCmd_inst]
    exact started_only s k it .inst (by decide)
  · rw [endCmd_data]
    exact started_only s k it .data (by decide)

theorem coreDies_two_pow (hn : n < 32) : coreDies (2 ^ n) = [coreDie n] := by
  rw [coreDies, bitsOf_two_pow hn]
  rfl
theorem any_coreDies_two_pow (hn : n < 32) (hdie : s.dieUnreachable (coreDie n) = false) :
    (coreDies (2 ^ n)).any (fun d => s.dieUnreachable d) = false := by
  rw [coreDies_two_pow hn, List.any_cons, hdie]
  rfl

/-- Clause 8 of `Obligations.PatternAndCoreCommands`. -/
theorem coreLoad_loads (ho : s.offers k it) (ha : a < hubSize) (hn : n < 32) (hit : it.is 0x300 4 [2 ^ n, a])
    (hdie : s.dieUnreachable (coreDie n) = false) (haccept : s.imageRefusal a n = 0) : Does (.coreLoad k) s (fun t => Ended k it 0 [0xFF] s t ∧
      t.inst = (s.loadCore (s.storedImage a 28) n).inst ∧ t.data = (s.loadCore (s.storedImage a 28) n).data) := by
  obtain ⟨hk, -⟩ := id ho
  have hrun : opCoreLoad.run k it (s.started k it) = ((s.started k it).loadCore (s.storedImage a 28) n).endCmd k 0 [0xFF] := by
    obtain ⟨-, -, hpar⟩ := hit
    rw [opCoreLoad_run k _ hpar, bitsOf_two_pow hn]
    simp only [List.find?_cons, List.find?_nil, started_imageRefusal hk, haccept, ne_eq, not_true_eq_false, decide_false, List.foldl_cons,
      List.foldl_nil, started_storedImage hk]
  refine does_of_ends (fun _ => rfl) ho (by decide) (opCoreLoad_admits ha hit (any_coreDies_two_pow hn hdie)) hrun
    ((started_carries ho).step (loadCore_kept _ _ _)) ⟨?_, ?_⟩
  · have hinst : (s.started k it).inst = s.inst := started_only s k it .inst (by decide)
    rw [endCmd_inst, loadCore_inst, hinst, loadCore_inst]
  · have hdata : (s.started k it).data = s.data := started_only s k it .data (by decide)
    rw [endCmd_data, loadCore_data, hdata, loadCore_data]
end

/-! ### CORE_START (R254) -/

section
variable {s t : State} {k : Nat} {it : Item} {n e x : Nat}

theorem coreStart_entry_at (n : Nat) : CORE_START_ENTRY.at n = 0x10002C + 0x10000 * n := rfl
theorem coreStart_arg_at (n : Nat) : CORE_START_ARG.at n = 0x100030 + 0x10000 * n := rfl

/-- The state in which CORE_START asks for the start: CORE_START_ENTRY and CORE_START_ARG show its words. -/
def State.startShown (s : State) (n e x : Nat) : State := (s.setFld CORE_START_ENTRY_ENTRY (e / 4) n).setRegN CORE_START_ARG x n

theorem startShown_kept (s : State) (n e x : Nat) : RingsKept s (s.startShown n e x) := by
  have hentry : 0x20000 ≤ CORE_START_ENTRY_ENTRY.rg.at n := by
    rw [show CORE_START_ENTRY_ENTRY.rg.at n = _ from coreStart_entry_at n]
    omega
  have harg : 0x20000 ≤ CORE_START_ARG.at n := by
    rw [coreStart_arg_at]
    omega
  exact (RingsKept.setFld _ _ _ _ _ hentry).trans (.setRegN _ _ _ _ _ harg)
theorem startShown_reg {b : Nat} (hentry : b ≠ CORE_START_ENTRY.at n) (harg : b ≠ CORE_START_ARG.at n) : (s.startShown n e x).reg b = s.reg b := by
  rw [State.startShown, reg_setRegN_ne harg, reg_setFld_ne hentry]
theorem startShown_only (s : State) (n e x : Nat) : Only 1 s (s.startShown n e x) := by
  rw [State.startShown, State.setRegN_only, State.setFld_only]
  exact Only.refl _ s
theorem startShown_arg : (s.startShown n e x).regN CORE_START_ARG n = x % 2 ^ 32 := by
  rw [State.regN, State.startShown, State.setRegN, reg_setReg_same, BitVec.toNat_ofNat]

/-- What a host start depends on (R254): STATE, whether the active Pattern names the core, whether its die is at CRIT, and a set still to be taken. -/
def State.startBars (s : State) (n : Nat) : Nat × Bool × Bool × Bool :=
  (s.cstate n, s.namesCore n, s.dieCrit (coreDie n), s.flag CORE_CTRL_COMMIT n)

theorem startBars_eq_iff {v : Nat} {a b c : Bool} :
    s.startBars n = (v, a, b, c) ↔ s.cstate n = v ∧ s.namesCore n = a ∧ s.dieCrit (coreDie n) = b ∧ s.flag CORE_CTRL_COMMIT n = c := by
  simp only [State.startBars, Prod.mk.injEq]
theorem startBars_of_eq (hpat : t.pat = s.pat) (hhlth : t.hlth = s.hlth)
    (hreg : ∀ b, 0x20000 ≤ b → b ≠ CORE_START_ENTRY.at n → b ≠ CORE_START_ARG.at n → t.reg b = s.reg b) (hn : n < 32) :
    t.startBars n = s.startBars n := by
  have hentry := coreStart_entry_at n
  have harg := coreStart_arg_at n
  have hctrl : CORE_CTRL.at n = 0x100000 + 0x10000 * n := rfl
  have hstatus : t.reg (CORE_STATUS.at n) = s.reg (CORE_STATUS.at n) := by
    have hat := coreStatus_at n
    exact hreg _ (by omega) (by omega) (by omega)
  have hcommit : t.reg (CORE_CTRL.at n) = s.reg (CORE_CTRL.at n) := hreg _ (by omega) (by omega) (by omega)
  have hpatstat : t.reg PAT_STATUS.base = s.reg PAT_STATUS.base := by
    have hat : PAT_STATUS.base = 0x30004 := rfl
    exact hreg _ (by omega) (by omega) (by omega)
  have hsensor (j : Nat) : t.reg (TMP.at j) = s.reg (TMP.at j) := by
    have hat : TMP.at j = 0x410000 + 4 * j := rfl
    exact hreg _ (by omega) (by omega) (by omega)
  rw [State.startBars, cstate_of_reg_eq hstatus, namesCore_of_eq hpat hpatstat, dieCrit_of_eq hhlth hsensor, State.flag, fld_of_reg_eq hcommit,
    State.startBars, State.flag]
theorem startBars_started (hk : k < 4) (hn : n < 32) (e x : Nat) : ((s.started k it).startShown n e x).startBars n = s.startBars n := by
  have honly : Only 12289 s ((s.started k it).startShown n e x) := (started_only s k it).trans (Only.mono (by decide) (startShown_only _ n e x))
  exact startBars_of_eq (honly .pat (by decide)) (honly .hlth (by decide))
    (fun b hb hentry harg => (startShown_reg hentry harg).trans (started_reg_aside hk (.inr hb))) hn
theorem startBars_setWait (s : State) (k : Nat) (w : Wait) (hn : n < 32) : (s.setWait k w).startBars n = s.startBars n :=
  startBars_of_eq (setWait_pat s k w) ((State.setWait_only s k w s (m' := 8192)).2 (Only.refl _ s) .hlth (by decide)) (fun b _ _ _ => setWait_reg s k w b) hn

theorem hostStart_takes (hfree : s.startBars n = (cIdle, false, false, false)) (e x : Nat) :
    s.hostStart n e x = (s.startJob n 2 e x hostJob hostGroup s.absStitch (2 ^ 32 - 1) none, true) := by
  obtain ⟨hstate, hnames, hcrit, -⟩ := startBars_eq_iff.1 hfree
  rw [State.hostStart, if_neg]
  rw [hstate, hnames, hcrit]
  decide
theorem hostStart_refuses (hbar : s.cstate n ≠ cIdle ∨ s.namesCore n = true ∨ s.dieCrit (coreDie n) = true) (e x : Nat) :
    s.hostStart n e x = (s.coreReport n 3 3, false) := by rw [State.hostStart, if_pos hbar]

/-- A start changes five registers: PC, STATUS, JOBCUR and OUTNAN of the core, and MESH_TRK. -/
theorem startJob_reg {b src job group startA dlA : Nat} {inst : Option Nat} (hcommit : s.flag CORE_CTRL_COMMIT n = false)
    (hb : b ∉ [CORE_PC.at n, CORE_STATUS.at n, CORE_JOBCUR.at n, CORE_OUTNAN.at n, MESH_TRK.at n]) :
    (s.startJob n src e x job group startA dlA inst).reg b = s.reg b := by
  simp only [List.mem_cons, List.not_mem_nil, or_false, not_or] at hb
  obtain ⟨hpc, hstatus, hjobcur, hoffnan, htrk⟩ := hb
  rw [startJob_of_unstaged hcommit, State.wdReload, reg_modCore, reg_setFld_ne htrk, reg_setFld_ne hoffnan, reg_setFld_ne hjobcur, reg_setFld_ne hjobcur,
    reg_setFld_ne hstatus, State.setCstate, reg_setFld_ne hstatus, State.setPc, reg_setFld_ne hpc, State.loaded, reg_modCore]
  rfl
theorem startJob_kept {src job group startA dlA : Nat} {inst : Option Nat} (hcommit : s.flag CORE_CTRL_COMMIT n = false) :
    RingsKept s (s.startJob n src e x job group startA dlA inst) := by
  refine ⟨fun b hb => startJob_reg hcommit ?_, (State.startJob_only _ _ _ _ _ _ _ _ _ _ s (m' := 10293761)).2 (Only.refl _ s) .rings (by decide), ?_⟩
  · have hcore {r : Rg} (hr : 0x20000 ≤ r.base) : b ≠ r.at n := fun he => not_ofRings_of_high (Nat.le_trans hr (by unfold Rg.at; omega)) (he ▸ hb)
    simp only [List.mem_cons, List.not_mem_nil, or_false, not_or]
    exact ⟨hcore (by decide), hcore (by decide), hcore (by decide), hcore (by decide), hcore (by decide)⟩
  · rw [State.gate, startJob_leaves State.hif setReg_hif modCore_hif hcommit]
    rfl

theorem opCoreStart_run {v : Nat} (k : Nat) (t : State) (hpar : it.par = [v, e, x]) (hv : v % 32 = n) : opCoreStart.run k it t =
    match (if v.testBit 8 then (t.startShown n e x).setWait k (.coreJob n) else t.startShown n e x).hostStart n e x with
    | (u, false) => u.endCmd k 7
    | (u, true) => if v.testBit 8 then u else u.endCmd k 0 := by
  have hword : it.w 2 = v := by rw [Item.w, hpar]; rfl
  have hentry : it.w 3 = e := by rw [Item.w, hpar]; rfl
  have harg : it.w 4 = x := by rw [Item.w, hpar]; rfl
  rw [opCoreStart]
  simp only [hword, hentry, harg, hv]
  rfl
theorem opCoreStart_admits {v : Nat} (hv : v = v % 32 + 256 * nbits v 8 1) (hn : v % 32 = n) (haligned : e % 4 = 0) (he : e < 2 ^ 16)
    (hit : it.is 0x301 5 [v, e, x]) (hdie : s.dieUnreachable (coreDie n) = false) : opCoreStart.admits it s := by
  obtain ⟨hopc, hlen, hpar⟩ := hit
  have hword : it.w 2 = v := by rw [Item.w, hpar]; rfl
  have hentry : it.w 3 = e := by rw [Item.w, hpar]; rfl
  refine ⟨hopc, by rw [hlen]; rfl, ?_, ?_⟩
  · simp only [opCoreStart, hword, hentry, fits]
    exact Bool.and_eq_true_iff.2 ⟨decide_eq_true ⟨hv.symm, haligned⟩, decide_eq_true he⟩
  · simp only [opCoreStart, hword, hn, List.any_cons, hdie, List.any_nil, Bool.or_false]

theorem endCmd_core_reg {u : State} {st : Nat} {r : List Nat} {b : Nat} (hk : k < 4) (hb : ofDebugOrCore b) : (u.endCmd k st r).reg b = u.reg b :=
  endCmd_reg hk hb.offCmd

/-- The job that a host start takes. -/
def State.hostJobRuns (u : State) (n e x : Nat) : State := u.startJob n 2 e x hostJob hostGroup u.absStitch (2 ^ 32 - 1) none

theorem testBit_of_noWait (hn : n < 32) : n.testBit 8 = false := Nat.testBit_lt_two_pow (Nat.lt_trans hn (by decide))
theorem testBit_of_wait (hn : n < 32) : (256 + n).testBit 8 = true := by
  rw [show 256 + n = 2 ^ 8 + n from rfl, Nat.testBit_two_pow_add_eq, testBit_of_noWait hn]
  rfl
theorem startWord_of_noWait (hn : n < 32) : n = n % 32 + 256 * nbits n 8 1 := by
  simp only [nbits]
  omega
theorem startWord_of_wait (hn : n < 32) : 256 + n = (256 + n) % 32 + 256 * nbits (256 + n) 8 1 := by
  simp only [nbits]
  omega

theorem startShown_carries (ho : s.offers k it) (n e x : Nat) : Carries k it .running s ((s.started k it).startShown n e x) :=
  (started_carries ho).step (startShown_kept _ _ _ _)
theorem startShown_there (hwhole : s.whole) (hn : n < 32) : n < ((s.started k it).startShown n e x).cores.length := by
  have hcores : ((s.started k it).startShown n e x).cores = s.cores := (startShown_only _ n e x .cores (by decide)).trans started_cores
  rw [hcores]
  exact there_of_whole hwhole hn

/-- Clause 9 of `Obligations.PatternAndCoreCommands`. -/
theorem coreStart_ends (ho : s.offers k it) (hn : n < 32) (haligned : e % 4 = 0) (he : e < 2 ^ 16) (hit : it.is 0x301 5 [n, e, x])
    (hdie : s.dieUnreachable (coreDie n) = false) (hfree : s.startBars n = (cIdle, false, false, false)) : Does (.coreStart k) s (fun t =>
      Ended k it 0 [] s t ∧ t.cstate n = cRun ∧ t.pc n = e ∧ (t.core n).g.getD 1 0 = x % 2 ^ 32 ∧ t.regN CORE_START_ARG n = x % 2 ^ 32) := by
  obtain ⟨hk, hwhole, -⟩ := id ho
  have hword : n % 32 = n := Nat.mod_eq_of_lt hn
  have hfree' : ((s.started k it).startShown n e x).startBars n = (cIdle, false, false, false) := (startBars_started hk hn e x).trans hfree
  obtain ⟨-, -, -, hcommit⟩ := startBars_eq_iff.1 hfree'
  have hrun : opCoreStart.run k it (s.started k it) = (((s.started k it).startShown n e x).hostJobRuns n e x).endCmd k 0 := by
    obtain ⟨-, -, hpar⟩ := hit
    rw [opCoreStart_run k _ hpar hword, testBit_of_noWait hn, if_neg Bool.false_ne_true, hostStart_takes hfree']
    exact if_neg Bool.false_ne_true
  obtain ⟨hstate, hpc, -, harg⟩ := startJob_starts (startShown_there hwhole hn) hcommit 2 e x hostJob hostGroup
    ((s.started k it).startShown n e x).absStitch (2 ^ 32 - 1) none
  have hreg {r : Rg} (hr : 0x100000 ≤ r.base ∧ r.base < 0x110000 ∧ r.s1 = 0x10000) :=
    endCmd_core_reg (u := ((s.started k it).startShown n e x).hostJobRuns n e x) (st := 0) (r := []) hk (ofDebugOrCore_core hn hr)
  refine does_of_ends (fun _ => rfl) ho (by decide) (opCoreStart_admits (startWord_of_noWait hn) hword haligned he hit hdie) hrun
    ((startShown_carries ho n e x).step (startJob_kept hcommit)) ⟨?_, ?_, ?_, ?_⟩
  · exact (cstate_of_reg_eq (hreg ⟨by decide, by decide, rfl⟩)).trans hstate
  · exact ((pc_of_reg_eq (hreg ⟨by decide, by decide, rfl⟩)).trans hpc).trans (Nat.mod_eq_of_lt he)
  · rw [core_of_cores_eq (endCmd_cores _ _ _ _)]
    exact harg
  · have hshown : CORE_START_ARG.at n ∉ [CORE_PC.at n, CORE_STATUS.at n, CORE_JOBCUR.at n, CORE_OUTNAN.at n, MESH_TRK.at n] := by
      simp only [List.mem_cons, List.not_mem_nil, or_false, Rg.at, CORE_START_ARG, CORE_PC, CORE_STATUS, CORE_JOBCUR, CORE_OUTNAN, MESH_TRK]
      omega
    rw [State.regN, hreg ⟨by decide, by decide, rfl⟩, State.hostJobRuns, startJob_reg hcommit hshown]
    exact startShown_arg

/-- Clause 10 of `Obligations.PatternAndCoreCommands`. -/
theorem coreStart_waits (ho : s.offers k it) (hn : n < 32) (haligned : e % 4 = 0) (he : e < 2 ^ 16) (hit : it.is 0x301 5 [256 + n, e, x])
    (hdie : s.dieUnreachable (coreDie n) = false) (hfree : s.startBars n = (cIdle, false, false, false)) : Does (.coreStart k) s (fun t =>
      Waits k it (.coreJob n) t ∧ t.cstate n = cRun ∧ t.pc n = e) := by
  obtain ⟨hk, hwhole, -⟩ := id ho
  have hword : (256 + n) % 32 = n := by omega
  have hfree' : (((s.started k it).startShown n e x).setWait k (.coreJob n)).startBars n = (cIdle, false, false, false) :=
    (startBars_setWait _ _ _ hn).trans ((startBars_started hk hn e x).trans hfree)
  obtain ⟨-, -, -, hcommit⟩ := startBars_eq_iff.1 hfree'
  have hrun : opCoreStart.run k it (s.started k it) = (((s.started k it).startShown n e x).setWait k (.coreJob n)).hostJobRuns n e x := by
    obtain ⟨-, -, hpar⟩ := hit
    rw [opCoreStart_run k _ hpar hword, testBit_of_wait hn, if_pos rfl, hostStart_takes hfree']
    exact if_pos rfl
  have hcores : (((s.started k it).startShown n e x).setWait k (.coreJob n)).cores = ((s.started k it).startShown n e x).cores :=
    (State.setWait_only _ k _ _ (m' := 8192)).2 (Only.refl _ _) .cores (by decide)
  have hthere : n < (((s.started k it).startShown n e x).setWait k (.coreJob n)).cores.length := by
    rw [hcores]
    exact startShown_there hwhole hn
  obtain ⟨hstate, hpc, -⟩ := startJob_starts hthere hcommit 2 e x hostJob hostGroup
    (((s.started k it).startShown n e x).setWait k (.coreJob n)).absStitch (2 ^ 32 - 1) none
  exact does_of_waits (fun _ => rfl) ho (by decide) (opCoreStart_admits (startWord_of_wait hn) hword haligned he hit hdie) hrun
    (((startShown_carries ho n e x).setWait _).step (startJob_kept hcommit)) ⟨hstate, hpc.trans (Nat.mod_eq_of_lt he)⟩

/-- Clause 11 of `Obligations.PatternAndCoreCommands`. -/
theorem coreStart_refused (ho : s.offers k it) (hn : n < 32) (haligned : e % 4 = 0) (he : e < 2 ^ 16) (hit : it.is 0x301 5 [n, e, x])
    (hdie : s.dieUnreachable (coreDie n) = false) (hbar : s.cstate n ≠ cIdle ∨ s.namesCore n = true ∨ s.dieCrit (coreDie n) = true) :
    Does (.coreStart k) s (fun t => Ended k it 7 [] s t ∧ t.evtAt CORE_EVENT n 3 ∧ t.cores = s.cores) := by
  obtain ⟨hk, -⟩ := id ho
  have hword : n % 32 = n := Nat.mod_eq_of_lt hn
  obtain ⟨hstate, hnames, hcrit, -⟩ := startBars_eq_iff.1 (startBars_started (s := s) (it := it) hk hn e x)
  have hrun : opCoreStart.run k it (s.started k it) = (((s.started k it).startShown n e x).coreReport n 3 3).endCmd k 7 := by
    obtain ⟨-, -, hpar⟩ := hit
    rw [opCoreStart_run k _ hpar hword, testBit_of_noWait hn, if_neg Bool.false_ne_true, hostStart_refuses]
    rw [hstate, hnames, hcrit]
    exact hbar
  have hevent : 0x20000 ≤ CORE_EVENT.at n := by
    unfold Rg.at
    exact Nat.le_trans (by decide : 0x20000 ≤ CORE_EVENT.base) (by omega)
  refine does_of_ends (fun _ => rfl) ho (by decide) (opCoreStart_admits (startWord_of_noWait hn) hword haligned he hit hdie) hrun
    ((startShown_carries ho n e x).step (.report _ (by omega) hevent)) ⟨?_, ?_⟩
  · rw [State.evtAt, endCmd_core_reg hk (ofDebugOrCore_core hn ⟨by decide, by decide, rfl⟩)]
    exact coreReport_evt hn (by decide)
  · rw [endCmd_cores, coreReport_cores]
    exact (startShown_only _ n e x .cores (by decide)).trans started_cores
end

/-! ### CORE_ABORT (R255) -/

section
variable {s t : State} {k n : Nat} {it : Item}

theorem opCoreAbort_run (k : Nat) (t : State) (hn : n < 32) (hpar : it.par = [2 ^ n]) : opCoreAbort.run k it t = (t.abortJob n).endCmd k 0 := by
  have hword : it.w 2 = 2 ^ n := by rw [Item.w, hpar]; rfl
  rw [opCoreAbort]
  simp only [hword, bitsOf_two_pow hn, List.foldl_cons, List.foldl_nil]
theorem opCoreAbort_admits (hn : n < 32) (hit : it.is 0x302 3 [2 ^ n]) (hdie : s.dieUnreachable (coreDie n) = false) : opCoreAbort.admits it s := by
  obtain ⟨hopc, hlen, hpar⟩ := hit
  have hword : it.w 2 = 2 ^ n := by rw [Item.w, hpar]; rfl
  refine ⟨hopc, by rw [hlen]; rfl, rfl, ?_⟩
  simp only [opCoreAbort, hword]
  exact any_coreDies_two_pow hn hdie

theorem started_busy (hk : k < 4) : (s.started k it).busy n = s.busy n := by
  rw [State.busy, State.cunder, cstate_of_reg_eq (started_reg_aside hk (core_aside (by decide))), core_of_cores_eq started_cores, State.busy, State.cunder]

/-- Clause 13 of `Obligations.PatternAndCoreCommands`. -/
theorem coreAbort_idles (ho : s.offers k it) (hn : n < 32) (hit : it.is 0x302 3 [2 ^ n]) (hdie : s.dieUnreachable (coreDie n) = false)
    (hidle : s.busy n = false) : Does (.coreAbort k) s (fun t => Ended k it 0 [] s t ∧ t.cores = s.cores) := by
  obtain ⟨hk, -⟩ := id ho
  have hrun : opCoreAbort.run k it (s.started k it) = (s.started k it).endCmd k 0 := by
    obtain ⟨-, -, hpar⟩ := hit
    rw [opCoreAbort_run k _ hn hpar, State.abortJob, started_busy hk, hidle, if_neg Bool.false_ne_true]
  refine does_of_ends (fun _ => rfl) ho (by decide) (opCoreAbort_admits hn hit hdie) hrun (started_carries ho) ?_
  rw [endCmd_cores, started_cores]

/-! Nothing that the abort of a job ends is waited for by a command that runs on: the rings stay as they are. -/

theorem onlyWait_of_rings_eq {w : Wait} (h : s.onlyWait w) (hrings : t.rings = s.rings) : t.onlyWait w :=
  fun j c hrun => h j c ((ring_of_rings_eq hrings j) ▸ hrun)
theorem settle_of_running {f : State → Wait → Option (Nat × List Nat)} (h : s.onlyWait .running) (hf : f s .running = none) : s.settle f = s :=
  settle_of_onlyWait h (fun _ hw => nomatch hw) hf

theorem releasePattern_rings (h : s.onlyWait .running) : s.releasePattern.rings = s.rings := by
  have hdrop : s.dropDrains.dropDraining.rings = s.rings := by
    have honly : Only 131073 s s.dropDrains.dropDraining := by
      rw [State.dropDraining_only, State.dropDrains_only]
      exact Only.refl _ s
    exact honly .rings (by decide)
  have hend (u : State) (hu : u.rings = s.rings) (f : State → Wait → Option (Nat × List Nat)) (hf : f u .running = none) :
      (if u.pat.deact = true then u else u.settle f).rings = s.rings := by
    split
    · exact hu
    · rw [settle_of_running (onlyWait_of_rings_eq h hu) hf, hu]
  unfold State.releasePattern
  dsimp only
  split
  · split
    · exact hdrop
    · split
      · exact hend _ ((setFld_rings _ _ _ _ _).trans hdrop) _ rfl
      · exact hend _ hdrop _ rfl
  · rfl
theorem endPart_rings (h : s.onlyWait .running) (id r code user cycles : Nat) : (s.endPart id r code user cycles).rings = s.rings := by
  have hend (u : State) (hu : u.rings = s.rings) (i : Inst) (c : Nat) : ((u.postJob i c (resUnit r)).dropInst id).releasePattern.rings = s.rings := by
    have hpost : ((u.postJob i c (resUnit r)).dropInst id).rings = s.rings :=
      ((State.postJob_only u i c (resUnit r) u (m' := 8475137)).2 (Only.refl _ u) .rings (by decide)).trans hu
    rw [releasePattern_rings (onlyWait_of_rings_eq h hpost), hpost]
  unfold State.endPart
  dsimp only
  split
  · rfl
  · split
    · refine hend _ ?_ _ _
      split <;> rfl
    · rfl
theorem tellPat_rings (h : s.onlyWait .running) (st n user cause : Nat) (inst : Option Nat) (cyc : Nat) (may : Bool) (hst : ¬ (st = 3 ∨ st = 5)) :
    (s.tellPat n st user cause inst cyc may).rings = s.rings := by
  unfold State.tellPat
  split
  · rfl
  next id =>
    have hlate : (s.noteLate id).rings = s.rings := (State.noteLate_only s id s (m' := 8589825)).2 (Only.refl _ s) .rings (by decide)
    rw [if_neg hst, endPart_rings (onlyWait_of_rings_eq h hlate), hlate]
theorem closeJob_of_abort_rings (h : s.onlyWait .running) (n user exc next : Nat) : (s.closeJob n 4 user exc next).rings = s.rings := by
  obtain ⟨f, hf, hclosed⟩ := closeJob_of_abort s n user exc next
  have hrecorded : (s.jobRecorded n 4 user exc).rings = s.rings := by rw [State.jobRecorded, setRegN_rings, setRegN_rings]
  have hcleared (u : State) : (u.jobCleared n next).rings = u.rings := by
    rw [State.jobCleared, modCore_rings, setFld_rings, State.setCstate, setFld_rings, State.wdHold, modCore_rings]
  have hreported : (if (s.jobRecorded n 4 user exc).fld PWR_BOSTAT_STAGE = 2 then
        (s.jobRecorded n 4 user exc).event (CORE_EVENT.at n) (CORE_INT_EN.at n) 2 (44 + n / 4)
      else (s.jobRecorded n 4 user exc).coreReport n 2 4).rings = s.rings := by
    split
    · exact ((State.event_only _ _ _ _ _ _ (m' := 4609)).2 (Only.refl _ _) .rings (by decide)).trans hrecorded
    · exact ((State.coreReport_only _ _ _ _ _ (m' := 8458753)).2 (Only.refl _ _) .rings (by decide)).trans hrecorded
  have hall := (hcleared _).trans hreported
  rw [hclosed, settle_of_running (onlyWait_of_rings_eq h hall) (hf _), hall]
theorem killJob_aborts_rings (h : s.onlyWait .running) : (s.killJob n 4 0 cIdle 0 false).rings = s.rings := by
  have hcounted : (s.countWait n).rings = s.rings := (State.countWait_only s n s (m' := 525312)).2 (Only.refl _ s) .rings (by decide)
  have heffects (u : State) : (u.abortEffects n 2).rings = u.rings := (State.abortEffects_only u n 2 u (m' := 9377513)).2 (Only.refl _ u) .rings (by decide)
  have hhalt (u : State) : (u.loseHalt n 4).rings = u.rings := (State.loseHalt_only u n 4 u (m' := 8983041)).2 (Only.refl _ u) .rings (by decide)
  have hlost : (((s.countWait n).abortEffects n 2).loseHalt n 4).rings = s.rings := (hhalt _).trans ((heffects _).trans hcounted)
  have hclosed := closeJob_of_abort_rings (onlyWait_of_rings_eq h hlost) n 0 0 cIdle
  have hkill : s.killJob n 4 0 cIdle 0 false = ((((s.countWait n).abortEffects n 2).loseHalt n 4).closeJob n 4 0 0 cIdle).tellPat n 4 0 0
      ((s.countWait n).core n).inst (min ((s.countWait n).core n).cyc (2 ^ 32 - 1)) false := by
    rw [State.killJob]
    rfl
  rw [hkill, tellPat_rings (onlyWait_of_rings_eq h (hclosed.trans hlost)) _ _ _ _ _ _ _ (by decide), hclosed, hlost]

theorem jobst_status_of_aborted (h : t.reg (CORE_JOBST.at n) = BitVec.ofNat 32 4) : t.fld CORE_JOBST_STATUS n = 4 := by
  rw [State.fld, show CORE_JOBST_STATUS.rg = CORE_JOBST from rfl, h]
  rfl

/-- Clause 12 of `Obligations.PatternAndCoreCommands`. -/
theorem coreAbort_aborts (ho : s.offers k it) (hn : n < 32) (hit : it.is 0x302 3 [2 ^ n]) (hdie : s.dieUnreachable (coreDie n) = false)
    (hbusy : s.busy n = true) : Does (.coreAbort k) s (fun t => (t.ring k).run = none ∧ (t.ring k).lastSt = 0 ∧ t.cstate n = cIdle ∧
      t.fld CORE_JOBST_STATUS n = 4 ∧ t.evtAt CORE_EVENT n 2) := by
  obtain ⟨hk, -⟩ := id ho
  have hstarted := started_carries ho
  have hheld : Holds k it .running ((s.started k it).killJob n 4 0 cIdle 0 false) :=
    hstarted.toHolds.of_rings (killJob_aborts_rings hstarted.toHolds.onlyWait)
  have hrun : opCoreAbort.run k it (s.started k it) = ((s.started k it).killJob n 4 0 cIdle 0 false).endCmd k 0 := by
    obtain ⟨-, -, hpar⟩ := hit
    rw [opCoreAbort_run k _ hn hpar, State.abortJob, started_busy hk, if_pos hbusy]
  have hends := hheld.endCmd_frees (st := 0) (r := [])
  obtain ⟨hstate, hrecord, hevent, -⟩ := killJob_aborts (s := s.started k it) hn
  refine ⟨_, exec_of_offers (fun _ => rfl) ho (by decide) (opCoreAbort_admits hn hit hdie), ?_⟩
  rw [hrun, hends.serve]
  have hreg {r : Rg} (hr : 0x100000 ≤ r.base ∧ r.base < 0x110000 ∧ r.s1 = 0x10000) :=
    endCmd_core_reg (u := (s.started k it).killJob n 4 0 cIdle 0 false) (st := 0) (r := []) hk (ofDebugOrCore_core hn hr)
  refine ⟨hends.idle k, hends.lastSt, ?_, ?_, ?_⟩
  · exact (cstate_of_reg_eq (hreg ⟨by decide, by decide, rfl⟩)).trans hstate
  · exact jobst_status_of_aborted ((hreg ⟨by decide, by decide, rfl⟩).trans hrecord)
  · rw [State.evtAt, hreg ⟨by decide, by decide, rfl⟩]
    exact hevent
end

/-! ### CORE_CHFLUSH (R217) -/

section
variable {s : State} {k n c : Nat} {it : Item}

/-- The channel has been flushed, and the register that asks for it clears. -/
def State.chanFlushed (s : State) (n c : Nat) : State := (s.flushChan n c).setFld CORE_CHFLUSH_FLUSH 0 n

theorem coreChflush_at (n : Nat) : CORE_CHFLUSH_FLUSH.rg.at n = 0x100038 + 0x10000 * n := rfl

theorem flushChans_of_chan (hc : c < 16) (hon : s.chanOn n c = true) : s.flushChans n (2 ^ c) = s.chanFlushed n c := by
  rw [State.flushChans, bitsOf_two_pow hc, List.foldl_cons, List.foldl_nil, if_pos hon, State.chanFlushed]
theorem flushChan_kept (s : State) (n c : Nat) : RingsKept s (s.flushChan n c) := by
  have honly : Only 786433 s (s.flushChan n c) := by
    rw [State.flushChan_only]
    exact Only.refl _ s
  have hhif : (s.flushChan n c).hif = s.hif := honly .hif (by decide)
  refine ⟨fun a ha => (flushChan_works s n c).regs a ?_, honly .rings (by decide), by rw [State.gate, hhif, State.gate]⟩
  have hat := coreChstat_at n c
  rw [List.mem_singleton]
  intro he
  exact not_ofRings_of_high (by omega) (he ▸ ha)
theorem chanFlushed_kept (s : State) (n c : Nat) : RingsKept s (s.chanFlushed n c) := by
  refine (flushChan_kept s n c).trans (.setFld _ _ _ _ _ ?_)
  rw [coreChflush_at]
  omega
theorem chanFlushed_chan (hn : n < s.cores.length) (hc : c < (s.core n).chans.length) :
    ((s.chanFlushed n c).chan n c).ready = [] ∧ ((s.chanFlushed n c).chan n c).out = 0 := by
  rw [State.chanFlushed, chan_of_core_eq (core_of_cores_eq (setFld_cores _ _ _ _ _) n)]
  exact flushChan_chan hn hc

/-- CORE_CHSTAT shows the sequence number the channel expects next (R217). -/
theorem flushChan_seq (s : State) (n c : Nat) : (s.flushChan n c).fld CORE_CHSTAT_FLUSHSEQ n c = (s.chan n c).expect % 2 ^ CORE_CHSTAT_FLUSHSEQ.w := by
  have hnote (u : State) : (u.noteChan n c).fld CORE_CHSTAT_FLUSHSEQ n c = u.fld CORE_CHSTAT_FLUSHSEQ n c := by
    rw [State.noteChan, fld_setFld_disj (by decide) (by decide), fld_setFld_disj (by decide) (by decide)]
  have hcredit (u : State) (src freed : Nat) : (u.giveCredit n src c freed).fld CORE_CHSTAT_FLUSHSEQ n c = u.fld CORE_CHSTAT_FLUSHSEQ n c :=
    fld_of_reg_eq ((giveCredit_works [] n u n src c freed).regs _ List.not_mem_nil)
  rw [State.flushChan, hnote, hcredit, fld_setFld _ _ _ _ _ (by decide)]
theorem chanFlushed_seq (s : State) (n c : Nat) :
    (s.chanFlushed n c).fld CORE_CHSTAT_FLUSHSEQ n c = (s.chan n c).expect % 2 ^ CORE_CHSTAT_FLUSHSEQ.w := by
  have hne : CORE_CHSTAT_FLUSHSEQ.rg.at n c ≠ CORE_CHFLUSH_FLUSH.rg.at n := by
    rw [coreChflush_at, show CORE_CHSTAT_FLUSHSEQ.rg.at n c = _ from coreChstat_at n c]
    omega
  rw [State.chanFlushed, fld_of_reg_eq (reg_setFld_ne hne), flushChan_seq]

/-- Clause 14 of `Obligations.PatternAndCoreCommands`. -/
theorem coreChflush_ends (ho : s.offers k it) (hn : n < 32) (hc : c < 16) (hit : it.is 0x303 4 [n, 2 ^ c]) (hdie : s.dieUnreachable (coreDie n) = false)
    (hchans : c < (s.core n).chans.length) (hon : s.chanOn n c = true) : Does (.coreChflush k) s (fun t => Ended k it 0 [] s t ∧
      (t.chan n c).ready = [] ∧ (t.chan n c).out = 0 ∧ t.fld CORE_CHSTAT_FLUSHSEQ n c = (s.chan n c).expect % 2 ^ CORE_CHSTAT_FLUSHSEQ.w) := by
  obtain ⟨hk, hwhole, -⟩ := id ho
  obtain ⟨hopc, hlen, hpar⟩ := hit
  have hword : it.w 2 = n := by rw [Item.w, hpar]; rfl
  have hmask : it.w 3 = 2 ^ c := by rw [Item.w, hpar]; rfl
  have hadmits : opCoreChflush.admits it s := by
    refine ⟨hopc, by rw [hlen]; rfl, ?_, ?_⟩
    · simp only [opCoreChflush, hword, hmask, fits]
      exact Bool.and_eq_true_iff.2 ⟨decide_eq_true hn, decide_eq_true (Nat.pow_lt_pow_right (by decide) hc)⟩
    · simp only [opCoreChflush, hword, List.any_cons, hdie, List.any_nil, Bool.or_false]
  have hon' : (s.started k it).chanOn n c = true := by
    have hlive : aside (CORE_CHCFG_EN.rg.at n c + 0x800) := by
      rw [show CORE_CHCFG_EN.rg.at n c = 0x100100 + 0x10000 * n + 8 * c from rfl, aside]
      omega
    rw [State.chanOn, State.live, started_reg_aside hk hlive]
    exact hon
  have hrun : opCoreChflush.run k it (s.started k it) = ((s.started k it).chanFlushed n c).endCmd k 0 := by
    rw [opCoreChflush]
    simp only [hword, hmask, flushChans_of_chan hc hon']
  have hcore : (s.started k it).core n = s.core n := core_of_cores_eq started_cores n
  have hthere : n < (s.started k it).cores.length := by
    rw [started_cores]
    exact there_of_whole hwhole hn
  obtain ⟨hready, hout⟩ := chanFlushed_chan hthere (hcore.symm ▸ hchans)
  refine does_of_ends (fun _ => rfl) ho (by decide) hadmits hrun ((started_carries ho).step (chanFlushed_kept _ n c)) ?_
  have hstat : ofDebugOrCore (CORE_CHSTAT_FLUSHSEQ.rg.at n c) := by
    rw [show CORE_CHSTAT_FLUSHSEQ.rg.at n c = _ from coreChstat_at n c, ofDebugOrCore]
    omega
  rw [chan_of_core_eq (core_of_cores_eq (endCmd_cores _ _ _ _) n), fld_of_reg_eq (endCmd_core_reg hk hstat), chanFlushed_seq, chan_of_core_eq hcore]
  exact ⟨hready, hout, rfl⟩
end

/-- Settles O42: each command is carried out on the state its start leaves, which differs from the offer's only in its ring, in CMD_STATE and in the
Hub Controller's turn, and ends, or waits, there. -/
theorem patternAndCoreCommands : Obligations.PatternAndCoreCommands := by
  unfold Obligations.PatternAndCoreCommands
  refine ⟨?_, ?_, ?_, ?_, ?_, ?_, ?_, ?_, ?_, ?_, ?_, ?_, ?_, ?_⟩
  · exact fun s k it a n ho haligned ha hn hit hidle => patAdmit_waits ho haligned ha hn hit hidle
  · exact fun s k it a n ho haligned ha hn hit hbusy => patAdmit_refused ho haligned ha hn hit hbusy
  · exact fun s k it lo hi ho hlo hhi hit hadm hact => patActivate_waits ho hlo hhi hit hadm hact
  · exact fun s k it lo hi ho hhi hit hnone => patActivate_refused ho hhi hit hnone
  · exact fun s k it x ho hx hit => patDeactivate_waits ho hx hit
  · exact fun s k it ho hit => patCancel_ends ho hit
  · exact fun s k it m a n ho ha hit hdies hfind => coreLoad_refused ho ha hit hdies hfind
  · exact fun s k it a n ho ha hn hit hdie haccept => coreLoad_loads ho ha hn hit hdie haccept
  · exact fun s k it n e x ho hn haligned he hit hdie hidle hfree hcool hcommit =>
      coreStart_ends ho hn haligned he hit hdie (startBars_eq_iff.2 ⟨hidle, hfree, hcool, hcommit⟩)
  · exact fun s k it n e x ho hn haligned he hit hdie hidle hfree hcool hcommit =>
      coreStart_waits ho hn haligned he hit hdie (startBars_eq_iff.2 ⟨hidle, hfree, hcool, hcommit⟩)
  · exact fun s k it n e x ho hn haligned he hit hdie hbar => coreStart_refused ho hn haligned he hit hdie hbar
  · exact fun s k it n ho hn hit hdie hbusy _ => coreAbort_aborts ho hn hit hdie hbusy
  · exact fun s k it n ho hn hit hdie hidle => coreAbort_idles ho hn hit hdie hidle
  · exact fun s k it n c ho hn hc hit hdie hchans hon => coreChflush_ends ho hn hc hit hdie hchans hon

end Sys2Proof.Machine
end
